-- ==== Sys2Proof/Word.lean ====
section
/-!
DEFINITION. The byte and word types and their plainest arithmetic: little-endian byte strings (spec/00_scope.md
R2, R3), wrapping and saturating counts, and the reading of an unsigned field as a signed one.
-/
namespace Sys2Proof

/-- One byte of a frame, record or memory. -/
abbrev Byte := BitVec 8

/-- A general register of the scan engine: 64 bits (spec/06). -/
abbrev Word64 := BitVec 64

/-- A byte string of a frame, record or image. -/
abbrev Bytes := List Byte

/-- `n` bytes of `v`, least significant first (R3). -/
def le : Nat → Nat → Bytes
  | 0, _ => []
  | n + 1, v => BitVec.ofNat 8 v :: le n (v / 256)

/-- The number a little-endian byte string spells (R3). -/
def unle : Bytes → Nat
  | [] => 0
  | b :: r => b.toNat + 256 * unle r

/-- The number in bytes `off .. off+n-1` of a string; missing bytes read 0. -/
def field (bs : Bytes) (off n : Nat) : Nat := unle ((bs.drop off).take n)

/-- An unsigned field of `w` bits read as two's complement. -/
def sgn (w v : Nat) : Int := if v < 2 ^ (w - 1) then (v : Int) else (v : Int) - 2 ^ w

/-- A signed number as a field of `w` bits, modulo 2^w. -/
def uns (w : Nat) (v : Int) : Nat := (v % (2 ^ w : Int)).toNat

/-- `v + k` saturating at the greatest value of `w` bits. -/
def satAdd (w v k : Nat) : Nat := min (v + k) (2 ^ w - 1)

/-- Bit `n` of a number. -/
def bit (v n : Nat) : Bool := v / 2 ^ n % 2 == 1

/-- Bits `lo .. lo+w-1` of a number. -/
def bits (v lo w : Nat) : Nat := v / 2 ^ lo % 2 ^ w

/-- A Boolean as a one-bit field. -/
def b2n (b : Bool) : Nat := if b then 1 else 0

/-- `v` rounded up to a multiple of `m`. -/
def roundUp (v m : Nat) : Nat := if m = 0 then v else (v + m - 1) / m * m

end Sys2Proof
end

