-- ==== Sys2Proof/Syntax.lean ====
section
/-!
DEFINITION. The commands of the block, one constructor per row of opcode_table.json, and the plain data they carry.
The table gives no row any bits; the operands are the model's (INVENTORY.md, ## Instructions; assumption log 2).
-/
namespace Sys2Proof

/-- A frame of the Marid Mailbox Protocol as it arrives on connection `conn` (spec/03 Table 3-2). Connection 0 is the
USB port; `xfer` is the length of the USB transfer. `arrival` is the floor time of its arrival. -/
structure Frame where
  conn : Nat
  arrival : Nat
  magic : BitVec 16 := 0xA2F1
  version : BitVec 8 := 1
  comp : BitVec 8
  seq : BitVec 32
  flags : BitVec 16 := 0
  length : BitVec 16
  status : BitVec 16 := 0
  rsvd : BitVec 64 := 0
  xfer : Nat := 0
  payload : Bytes
  deriving DecidableEq, Repr

/-- A TLS handshake on port 4770 (R54 to R56, R365, R368): where it comes in, what it offers, the client's chain. -/
structure Handshake where
  conn : Nat
  arrival : Nat
  port : Nat
  vlan : Option Nat
  tls13 : Bool
  suite : Bool
  group : Bool
  scheme : Bool
  chain : Bytes
  transcript : Bytes
  signature : Bytes
  deriving DecidableEq, Repr

/-- One compare-and-set on a mailbox slot state word (R80, R81): the value expected and the value set. `source` is the
fabric-side requester, `frame` the bytes written to the slot with the step. -/
structure SlotCas where
  expect : Nat
  new : Nat
  source : Nat := 0
  handle : Nat := 0
  frame : Bytes := []
  deriving DecidableEq, Repr

/-- Who reads or writes an object: an MMP session, a task of a compartment, or unit firmware (R14, Table 1-3). -/
inductive Requester where
  | session (sid : Nat)
  | task (comp e entry : Nat)
  | firmware
  deriving DecidableEq, Repr

/-- A bank the march test finds faulty, and its faulty rows (R430, R433). -/
structure BankFault where
  bank : Nat
  rows : List Nat
  deriving DecidableEq, Repr

/-- A CAN frame on the bus (R254): identifier, kind bits, data length code, data; `sof` is the floor time of its start. -/
structure CanFrame where
  id : BitVec 29
  xtd : Bool
  fdf : Bool := false
  brs : Bool := false
  esi : Bool := false
  rtr : Bool := false
  dlc : Fin 16
  data : Bytes
  sof : Nat
  deriving DecidableEq, Repr

/-- What a receiver saw when it sent an error frame (R288): whether the identifier was already read. -/
structure RxError where
  id : Option (BitVec 29 × Bool)
  dominantAfterFlag : Bool
  deriving DecidableEq, Repr

/-- How a transmit attempt failed (Table 10-4, R286, R287). -/
structure TxError where
  err : Fin 16
  collision : Bool
  noTecChange : Bool := false
  deriving DecidableEq, Repr

/-- An Ethernet frame as NSW takes it in (R299 to R304): where, tag, addresses, form and length. -/
structure EthFrame where
  port : Fin 7
  vid : Option Nat
  src : Nat
  dst : Nat
  fcsOk : Bool := true
  len : Nat
  rct : Option (Nat × Nat) := none
  supervision : Bool := false
  ptp : Bool := false
  ethertype : Nat := 0
  deriving DecidableEq, Repr

/-- What an inserted SFP+ module says of itself (R299). -/
structure SfpModule where
  present : Bool
  powerMw : Nat
  readable : Bool
  baseR : Bool
  deriving DecidableEq, Repr

/-- A PTP Sync as the ordinary clock sees it (R324 to R327). -/
structure PtpSync where
  gm : Nat
  offset : Int
  utcOfs : Nat
  utcValid : Bool
  deriving DecidableEq, Repr

/-- A BACnet/IP request served by PCX (R310, R311). -/
structure BacnetRequest where
  vlan : Nat
  objType : Nat
  inst : Nat
  write : Option (BitVec 64)
  kind : Nat
  priority : Nat := 16
  deriving DecidableEq, Repr

/-- A message on an MQTT set topic (R312). -/
structure MqttMessage where
  comp : Nat
  point : Nat
  value : Option (BitVec 64)
  deriving DecidableEq, Repr

/-- An answer on a legacy bus (R314 to R319). -/
structure LbxAnswer where
  exception : Option (BitVec 8)
  data : Bytes
  deriving DecidableEq, Repr

/-- An event of a DALI-2 input device (R318). -/
structure DaliEvent where
  address : Nat
  inst : Nat
  value : BitVec 16
  deriving DecidableEq, Repr

/-- A frame on an MS/TP port (R316). -/
structure MstpFrame where
  ftype : BitVec 8
  dst : Nat
  src : Nat
  data : Bytes
  deriving DecidableEq, Repr

/-- A scheduled ageing measurement and the readings it gives (R452 to R454). -/
structure AgmMeasure where
  kind : Nat
  values : List Nat
  deriving DecidableEq, Repr

/-- The commands of the block: one constructor per row of opcode_table.json. -/
inductive Instr where
  /-- CMD_SESSION_OPEN (R62). -/
  | cmdSessionOpen (f : Frame)
  /-- CMD_SESSION_CHALLENGE (R62). -/
  | cmdSessionChallenge (f : Frame)
  /-- CMD_SESSION_CLOSE (R66). -/
  | cmdSessionClose (f : Frame)
  /-- CMD_SESSION_PING (R73). -/
  | cmdSessionPing (f : Frame)
  /-- CMD_SESSION_RESUME (R72). -/
  | cmdSessionResume (f : Frame)
  /-- CMD_SESSION_CANCEL (R74). -/
  | cmdSessionCancel (f : Frame)
  /-- CMD_IDENT_GET (R61). -/
  | cmdIdentGet (f : Frame)
  /-- MMP_BAD_HEADER (R60). -/
  | mmpBadHeader (f : Frame) (code : BitVec 16)
  /-- MMP_UNDEFINED_COMMAND (R73). -/
  | mmpUndefinedCommand (f : Frame) (code : BitVec 16)
  /-- TLS_HANDSHAKE (R54). -/
  | tlsHandshake (h : Handshake)
  /-- TRANSPORT_LOSS (R72). -/
  | transportLoss (conn : Nat) (t : Nat)
  /-- SESSION_IDLE_TIMEOUT (R85). -/
  | sessionIdleTimeout (sid : Nat) (t : Nat)
  /-- SESSION_DETACH_EXPIRY (R85). -/
  | sessionDetachExpiry (sid : Nat) (t : Nat)
  /-- NOTICE_HANDOVER (R70). -/
  | noticeHandover (sid : Nat)
  /-- MBX_DB_IN (R80). -/
  | mbxDbIn (src : Nat) (slot : Nat)
  /-- MBX_SLOT_STATE (R81). -/
  | mbxSlotState (slot : Nat) (sup : Option SlotCas) (port : Option SlotCas)
  /-- CMD_OBJ_READ (R88). -/
  | cmdObjRead (f : Frame)
  /-- CMD_OBJ_WRITE (R94). -/
  | cmdObjWrite (f : Frame)
  /-- CMD_OBJ_GROUP_READ (R93). -/
  | cmdObjGroupRead (f : Frame)
  /-- CMD_OBJ_GROUP_WRITE (R94). -/
  | cmdObjGroupWrite (f : Frame)
  /-- REG_WRITE (R5). -/
  | regWrite (who : Requester) (addr : Nat) (value : BitVec 32) (setMask : BitVec 32)
  /-- REG_READ_CLEAR (R7). -/
  | regReadClear (who : Requester) (addr : Nat) (ok : Bool) (setMask : BitVec 32)
  /-- MODE_REQUEST (R28). -/
  | modeRequest (who : Requester) (mode : BitVec 4) (cold : Bool)
  /-- MODE_RELEASE (R53). -/
  | modeRelease (who : Requester)
  /-- MODE_TRANSITION_DONE (R96). -/
  | modeTransitionDone (t : Nat)
  /-- M9_LIMIT_EXPIRY (R31). -/
  | m9LimitExpiry (t : Nat)
  /-- POWER_FAIL (R40). -/
  | powerFail (t : Nat)
  /-- POWER_FAIL_COMMIT_END (R45). -/
  | powerFailCommitEnd (t : Nat) (stages : Nat) (bulkLow : Bool) (returned : Bool)
  /-- BULK_LOW (R43). -/
  | bulkLow (t : Nat)
  /-- MAIN_RETURN (R37). -/
  | mainReturn (t : Nat)
  /-- PLL_LOCK_TIMEOUT (R33). -/
  | pllLockTimeout (pll : Nat) (t : Nat)
  /-- UNIT_FAILURE (R49). -/
  | unitFailure (u : Fin 18) (t : Nat)
  /-- BOOT_ENTRY (R426). -/
  | bootEntry (t : Nat)
  /-- STARTUP_TEST_DONE (R430). -/
  | startupTestDone (faults : List BankFault) (t : Nat)
  /-- PROMOTION_WIPE (R388). -/
  | promotionWipe (failed : BitVec 4) (t : Nat)
  /-- BOOT_COMPLETE (R49). -/
  | bootComplete (t : Nat)
  /-- OP_SECONDS_TICK (R345). -/
  | opSecondsTick (t : Nat)
  /-- PRESENCE_PRESS (R391). -/
  | presencePress (t : Nat)
  /-- PRESENCE_WINDOW_OPEN (R391). -/
  | presenceWindowOpen (t : Nat)
  /-- PRESENCE_WINDOW_CLOSE (R78). -/
  | presenceWindowClose (t : Nat)
  /-- VBUS_DETECT (R38). -/
  | vbusDetect (t : Nat)
  /-- TCP_SYN_WAKE (R38). -/
  | tcpSynWake (t : Nat)
  /-- CAST_STAGED_READ (R99). -/
  | castStagedRead (f : Frame)
  /-- CMD_CAST_CHECK (R101). -/
  | cmdCastCheck (f : Frame)
  /-- CAST_CHECK_DONE (R104). -/
  | castCheckDone (comp : Nat) (t : Nat)
  /-- CMD_CAST_COMMIT (R106). -/
  | cmdCastCommit (f : Frame)
  /-- CMD_CAST_ABORT (R110). -/
  | cmdCastAbort (f : Frame)
  /-- CAST_ARM (R111). -/
  | castArm (t : Nat)
  /-- CAST_CONFIRM_DEADLINE (R111). -/
  | castConfirmDeadline (confirmed : List Nat)
  /-- CAST_INSTANT (R112). -/
  | castInstant (t : Nat)
  /-- CAST_APPLIED_MARK (R113). -/
  | castAppliedMark (t : Nat)
  /-- SPLIT_LATCH (R117). -/
  | splitLatch (t : Nat)
  /-- TEMPO_BOUNDARY (R24). -/
  | tempoBoundary (comp : Nat) (e : Fin 2) (entry : Fin 16) (t : Nat)
  /-- SKIP_LIMIT_STOP (R129). -/
  | skipLimitStop (comp : Nat) (e : Fin 2) (entry : Fin 16) (t : Nat)
  /-- BUDGET_WINDOW (R125). -/
  | budgetWindow (e : Fin 2) (t : Nat)
  /-- BUDGET_SUSPENSION (R126). -/
  | budgetSuspension (comp : Nat) (e : Fin 2) (t : Nat)
  /-- FW_ACCESS_DONE (R143). -/
  | fwAccessDone (comp : Nat) (e : Fin 2) (entry : Fin 16) (t : Nat)
  /-- RETAINED_COMMIT (R139). -/
  | retainedCommit (comp : Nat) (t : Nat)
  /-- STARTUP_COMPLETE (R141). -/
  | startupComplete (comp : Nat) (t : Nat)
  /-- STOP_COMPLETE (R131). -/
  | stopComplete (comp : Nat) (t : Nat)
  /-- CMD_SCAN_START (R137). -/
  | cmdScanStart (f : Frame)
  /-- CMD_SCAN_STOP (R131). -/
  | cmdScanStop (f : Frame)
  /-- CMD_SCAN_HOLD (R133). -/
  | cmdScanHold (f : Frame)
  /-- CMD_SCAN_RESUME (R134). -/
  | cmdScanResume (f : Frame)
  /-- CMD_SCAN_STEP (R135). -/
  | cmdScanStep (f : Frame)
  /-- CMD_SCAN_STATUS (R138). -/
  | cmdScanStatus (f : Frame)
  /-- CMD_SCAN_IMAGE_WRITE (R171). -/
  | cmdScanImageWrite (f : Frame)
  /-- CMD_SCAN_IMAGE_VERIFY (R172). -/
  | cmdScanImageVerify (f : Frame)
  /-- CMD_SCAN_IMAGE_DROP (R171). -/
  | cmdScanImageDrop (f : Frame)
  /-- CMD_SCAN_EXCH_PLAN (R189). -/
  | cmdScanExchPlan (f : Frame)
  /-- CMD_SCAN_FORCE_SET (R193). -/
  | cmdScanForceSet (f : Frame)
  /-- CMD_SCAN_FORCE_CLEAR (R195). -/
  | cmdScanForceClear (f : Frame)
  /-- CMD_SCAN_FORCE_LIST (R190). -/
  | cmdScanForceList (f : Frame)
  /-- PIMG_SET_WRITE (R145). -/
  | pimgSetWrite (who : Requester) (point : Nat) (value : BitVec 64) (t : Nat)
  /-- ADD (R151). -/
  | add (e : Fin 2) (w : Bool) (d : Fin 32) (a : Fin 32) (b : Fin 32)
  /-- SUB (R151). -/
  | sub (e : Fin 2) (w : Bool) (d : Fin 32) (a : Fin 32) (b : Fin 32)
  /-- MUL (R151). -/
  | mul (e : Fin 2) (w : Bool) (d : Fin 32) (a : Fin 32) (b : Fin 32)
  /-- MULHS (R151). -/
  | mulhs (e : Fin 2) (w : Bool) (d : Fin 32) (a : Fin 32) (b : Fin 32)
  /-- DIV (R151). -/
  | divs (e : Fin 2) (w : Bool) (d : Fin 32) (a : Fin 32) (b : Fin 32)
  /-- DIVU (R151). -/
  | divu (e : Fin 2) (w : Bool) (d : Fin 32) (a : Fin 32) (b : Fin 32)
  /-- REM (R151). -/
  | rem (e : Fin 2) (w : Bool) (d : Fin 32) (a : Fin 32) (b : Fin 32)
  /-- REMU (R151). -/
  | remu (e : Fin 2) (w : Bool) (d : Fin 32) (a : Fin 32) (b : Fin 32)
  /-- AND (R151). -/
  | andd (e : Fin 2) (w : Bool) (d : Fin 32) (a : Fin 32) (b : Fin 32)
  /-- OR (R151). -/
  | orr (e : Fin 2) (w : Bool) (d : Fin 32) (a : Fin 32) (b : Fin 32)
  /-- XOR (R151). -/
  | xorr (e : Fin 2) (w : Bool) (d : Fin 32) (a : Fin 32) (b : Fin 32)
  /-- SHL (R151). -/
  | shl (e : Fin 2) (w : Bool) (d : Fin 32) (a : Fin 32) (b : Fin 32)
  /-- SHR (R151). -/
  | shr (e : Fin 2) (w : Bool) (d : Fin 32) (a : Fin 32) (b : Fin 32)
  /-- SAR (R151). -/
  | sar (e : Fin 2) (w : Bool) (d : Fin 32) (a : Fin 32) (b : Fin 32)
  /-- MIN (R151). -/
  | mins (e : Fin 2) (w : Bool) (d : Fin 32) (a : Fin 32) (b : Fin 32)
  /-- MAX (R151). -/
  | maxs (e : Fin 2) (w : Bool) (d : Fin 32) (a : Fin 32) (b : Fin 32)
  /-- ADDI (R151). -/
  | addi (e : Fin 2) (d : Fin 32) (a : Fin 32) (imm : BitVec 16)
  /-- ANDI (R151). -/
  | andi (e : Fin 2) (d : Fin 32) (a : Fin 32) (imm : BitVec 16)
  /-- ORI (R151). -/
  | ori (e : Fin 2) (d : Fin 32) (a : Fin 32) (imm : BitVec 16)
  /-- XORI (R151). -/
  | xori (e : Fin 2) (d : Fin 32) (a : Fin 32) (imm : BitVec 16)
  /-- MOVI (R151). -/
  | movi (e : Fin 2) (d : Fin 32) (imm : BitVec 21)
  /-- LDC (R150). -/
  | ldc (e : Fin 2) (d : Fin 32) (imm : BitVec 21)
  /-- FADD (R152). -/
  | fadd (e : Fin 2) (dbl : Bool) (d : Fin 32) (a : Fin 32) (b : Fin 32)
  /-- FSUB (R152). -/
  | fsub (e : Fin 2) (dbl : Bool) (d : Fin 32) (a : Fin 32) (b : Fin 32)
  /-- FMUL (R152). -/
  | fmul (e : Fin 2) (dbl : Bool) (d : Fin 32) (a : Fin 32) (b : Fin 32)
  /-- FDIV (R152). -/
  | fdiv (e : Fin 2) (dbl : Bool) (d : Fin 32) (a : Fin 32) (b : Fin 32)
  /-- FSQRT (R152). -/
  | fsqrt (e : Fin 2) (dbl : Bool) (d : Fin 32) (a : Fin 32)
  /-- FMIN (R152). -/
  | fmin (e : Fin 2) (dbl : Bool) (d : Fin 32) (a : Fin 32) (b : Fin 32)
  /-- FMAX (R152). -/
  | fmax (e : Fin 2) (dbl : Bool) (d : Fin 32) (a : Fin 32) (b : Fin 32)
  /-- FABS (R152). -/
  | fabs (e : Fin 2) (dbl : Bool) (d : Fin 32) (a : Fin 32)
  /-- FNEG (R152). -/
  | fneg (e : Fin 2) (dbl : Bool) (d : Fin 32) (a : Fin 32)
  /-- I2D (R152). -/
  | i2d (e : Fin 2) (w : Bool) (d : Fin 32) (a : Fin 32)
  /-- D2I (R152). -/
  | d2i (e : Fin 2) (w : Bool) (d : Fin 32) (a : Fin 32)
  /-- I2F (R152). -/
  | i2f (e : Fin 2) (w : Bool) (d : Fin 32) (a : Fin 32)
  /-- F2I (R152). -/
  | f2i (e : Fin 2) (w : Bool) (d : Fin 32) (a : Fin 32)
  /-- F2D (R152). -/
  | f2d (e : Fin 2) (d : Fin 32) (a : Fin 32)
  /-- D2F (R152). -/
  | d2f (e : Fin 2) (d : Fin 32) (a : Fin 32)
  /-- U2D (R152). -/
  | u2d (e : Fin 2) (w : Bool) (d : Fin 32) (a : Fin 32)
  /-- CMP_EQ (R153). -/
  | cmpEq (e : Fin 2) (w : Bool) (d : Fin 32) (a : Fin 32) (b : Fin 32)
  /-- CMP_NE (R153). -/
  | cmpNe (e : Fin 2) (w : Bool) (d : Fin 32) (a : Fin 32) (b : Fin 32)
  /-- CMP_LT (R153). -/
  | cmpLt (e : Fin 2) (w : Bool) (d : Fin 32) (a : Fin 32) (b : Fin 32)
  /-- CMP_LE (R153). -/
  | cmpLe (e : Fin 2) (w : Bool) (d : Fin 32) (a : Fin 32) (b : Fin 32)
  /-- CMP_LTU (R153). -/
  | cmpLtu (e : Fin 2) (w : Bool) (d : Fin 32) (a : Fin 32) (b : Fin 32)
  /-- CMP_LEU (R153). -/
  | cmpLeu (e : Fin 2) (w : Bool) (d : Fin 32) (a : Fin 32) (b : Fin 32)
  /-- FCMP_EQ (R153). -/
  | fcmpEq (e : Fin 2) (dbl : Bool) (d : Fin 32) (a : Fin 32) (b : Fin 32)
  /-- FCMP_NE (R153). -/
  | fcmpNe (e : Fin 2) (dbl : Bool) (d : Fin 32) (a : Fin 32) (b : Fin 32)
  /-- FCMP_LT (R153). -/
  | fcmpLt (e : Fin 2) (dbl : Bool) (d : Fin 32) (a : Fin 32) (b : Fin 32)
  /-- FCMP_LE (R153). -/
  | fcmpLe (e : Fin 2) (dbl : Bool) (d : Fin 32) (a : Fin 32) (b : Fin 32)
  /-- FCMP_UNORD (R153). -/
  | fcmpUnord (e : Fin 2) (dbl : Bool) (d : Fin 32) (a : Fin 32) (b : Fin 32)
  /-- BTST (R153). -/
  | btst (e : Fin 2) (d : Fin 32) (a : Fin 32) (p : Fin 64)
  /-- BSET (R153). -/
  | bset (e : Fin 2) (d : Fin 32) (a : Fin 32) (p : Fin 64)
  /-- BCLR (R153). -/
  | bclr (e : Fin 2) (d : Fin 32) (a : Fin 32) (p : Fin 64)
  /-- BINV (R153). -/
  | binv (e : Fin 2) (d : Fin 32) (a : Fin 32) (p : Fin 64)
  /-- EXTU (R153). -/
  | extu (e : Fin 2) (d : Fin 32) (a : Fin 32) (p : Fin 64) (wm1 : Fin 32)
  /-- EXTS (R153). -/
  | exts (e : Fin 2) (d : Fin 32) (a : Fin 32) (p : Fin 64) (wm1 : Fin 32)
  /-- INS (R153). -/
  | ins (e : Fin 2) (d : Fin 32) (a : Fin 32) (p : Fin 64) (wm1 : Fin 32)
  /-- CLZ (R153). -/
  | clz (e : Fin 2) (d : Fin 32) (a : Fin 32)
  /-- POPC (R153). -/
  | popc (e : Fin 2) (d : Fin 32) (a : Fin 32)
  /-- PLD (R155). -/
  | pld (e : Fin 2) (d : Fin 32) (a : Fin 32) (imm : BitVec 16)
  /-- PATTR (R155). -/
  | pattr (e : Fin 2) (d : Fin 32) (a : Fin 32) (imm : BitVec 16)
  /-- PST (R156). -/
  | pst (e : Fin 2) (d : Fin 32) (a : Fin 32) (imm : BitVec 16)
  /-- POLD (R156). -/
  | pold (e : Fin 2) (d : Fin 32) (a : Fin 32) (imm : BitVec 16)
  /-- ILD_B (R158). -/
  | ildB (e : Fin 2) (d : Fin 32) (a : Fin 32) (imm : BitVec 16)
  /-- ILD_H (R158). -/
  | ildH (e : Fin 2) (d : Fin 32) (a : Fin 32) (imm : BitVec 16)
  /-- ILD_W (R158). -/
  | ildW (e : Fin 2) (d : Fin 32) (a : Fin 32) (imm : BitVec 16)
  /-- ILD_D (R158). -/
  | ildD (e : Fin 2) (d : Fin 32) (a : Fin 32) (imm : BitVec 16)
  /-- IST_B (R158). -/
  | istB (e : Fin 2) (d : Fin 32) (a : Fin 32) (imm : BitVec 16)
  /-- IST_H (R158). -/
  | istH (e : Fin 2) (d : Fin 32) (a : Fin 32) (imm : BitVec 16)
  /-- IST_W (R158). -/
  | istW (e : Fin 2) (d : Fin 32) (a : Fin 32) (imm : BitVec 16)
  /-- IST_D (R158). -/
  | istD (e : Fin 2) (d : Fin 32) (a : Fin 32) (imm : BitVec 16)
  /-- GLD (R158). -/
  | gld (e : Fin 2) (d : Fin 32) (a : Fin 32) (imm : BitVec 16)
  /-- GST (R158). -/
  | gst (e : Fin 2) (d : Fin 32) (a : Fin 32) (imm : BitVec 16)
  /-- TMR (R160). -/
  | tmr (e : Fin 2) (d : Fin 32) (a : Fin 32) (imm : BitVec 16)
  /-- TMRRD (R160). -/
  | tmrrd (e : Fin 2) (d : Fin 32) (a : Fin 32) (imm : BitVec 16)
  /-- EDGR (R162). -/
  | edgr (e : Fin 2) (d : Fin 32) (a : Fin 32) (imm : BitVec 16)
  /-- EDGF (R162). -/
  | edgf (e : Fin 2) (d : Fin 32) (a : Fin 32) (imm : BitVec 16)
  /-- EDGB (R162). -/
  | edgb (e : Fin 2) (d : Fin 32) (a : Fin 32) (imm : BitVec 16)
  /-- BR (R154). -/
  | br (e : Fin 2) (imm : BitVec 26)
  /-- BZ (R154). -/
  | bz (e : Fin 2) (d : Fin 32) (imm : BitVec 21)
  /-- BNZ (R154). -/
  | bnz (e : Fin 2) (d : Fin 32) (imm : BitVec 21)
  /-- BDEC (R154). -/
  | bdec (e : Fin 2) (d : Fin 32) (imm : BitVec 21)
  /-- BTAB (R154). -/
  | btab (e : Fin 2) (a : Fin 32) (imm : BitVec 16)
  /-- FBCALL (R163). -/
  | fbcall (e : Fin 2) (imm : BitVec 16)
  /-- FBCALLX (R163). -/
  | fbcallx (e : Fin 2) (a : Fin 32) (imm : BitVec 16)
  /-- CALL (R163). -/
  | call (e : Fin 2) (imm : BitVec 26)
  /-- RET (R148). -/
  | ret (e : Fin 2)
  /-- OBJRD32 (R165). -/
  | objrd32 (e : Fin 2) (d : Fin 32) (a : Fin 32) (b : Fin 32)
  /-- OBJRD64 (R165). -/
  | objrd64 (e : Fin 2) (d : Fin 32) (a : Fin 32) (b : Fin 32)
  /-- OBJWR32 (R91). -/
  | objwr32 (e : Fin 2) (d : Fin 32) (a : Fin 32) (b : Fin 32)
  /-- OBJWR64 (R91). -/
  | objwr64 (e : Fin 2) (d : Fin 32) (a : Fin 32) (b : Fin 32)
  /-- TBOUND (R165). -/
  | tbound (e : Fin 2) (d : Fin 32)
  /-- TNOW (R165). -/
  | tnow (e : Fin 2) (d : Fin 32)
  /-- PLYINFO (R165). -/
  | plyinfo (e : Fin 2) (d : Fin 32)
  /-- EVENT (R348). -/
  | event (e : Fin 2) (d : Fin 32) (a : Fin 32)
  /-- WAKE (R165). -/
  | wake (e : Fin 2) (d : Fin 32)
  /-- UTRAP (R166). -/
  | utrap (e : Fin 2) (a : Fin 32)
  /-- ZERO_CROSSING (R209). -/
  | zeroCrossing (set : Fin 4) (t : Nat)
  /-- CYCLE_TIMEOUT (R204). -/
  | cycleTimeout (set : Fin 4) (t : Nat)
  /-- PSEUDO_CYCLE_END (R204). -/
  | pseudoCycleEnd (set : Fin 4) (t : Nat)
  /-- NMISS_START (R238). -/
  | nmissStart (set : Fin 4) (t : Nat)
  /-- NMISS_END (R238). -/
  | nmissEnd (set : Fin 4) (t : Nat)
  /-- LATCH (R228). -/
  | latch (t : Nat)
  /-- SEAL_SIGN (R247). -/
  | sealSign (comp : Nat) (t : Nat)
  /-- ENERGY_COMMIT (R232). -/
  | energyCommit (t : Nat)
  /-- SETTLING_END (R208). -/
  | settlingEnd (ch : Fin 192) (t : Nat)
  /-- MAE_CAL_START (R211). -/
  | maeCalStart (who : Requester) (t : Nat)
  /-- MAE_CAL_ABORT (R212). -/
  | maeCalAbort (who : Requester) (t : Nat)
  /-- CAL_CAPTURE_END (R211). -/
  | calCaptureEnd (t : Nat)
  /-- MAE_WAVE_START (R213). -/
  | maeWaveStart (who : Requester) (t : Nat)
  /-- WAVE_RECORD_DONE (R213). -/
  | waveRecordDone (t : Nat)
  /-- PULSE_START (R242). -/
  | pulseStart (n : Fin 8) (t : Nat)
  /-- PULSE_WIDTH_END (R242). -/
  | pulseWidthEnd (n : Fin 8) (t : Nat)
  /-- CMD_MTR_SEAL_READ (R251). -/
  | cmdMtrSealRead (f : Frame)
  /-- CMD_MTR_SEAL_ACK (R251). -/
  | cmdMtrSealAck (f : Frame)
  /-- CAN_RX_FRAME (R269). -/
  | canRxFrame (port : Fin 24) (fr : CanFrame) (t : Nat)
  /-- CAN_RX_ERROR (R288). -/
  | canRxError (port : Fin 24) (ev : RxError) (t : Nat)
  /-- CAN_TX_SUCCESS (R266). -/
  | canTxSuccess (port : Fin 24) (t : Nat)
  /-- CAN_TX_ERROR (R265). -/
  | canTxError (port : Fin 24) (ev : TxError) (t : Nat)
  /-- CAN_ARB_LOST (R265). -/
  | canArbLost (port : Fin 24) (t : Nat)
  /-- RECOVERY_DELAY_EXPIRY (R283). -/
  | recoveryDelayExpiry (port : Fin 24) (t : Nat)
  /-- RECOVERY_END (R284). -/
  | recoveryEnd (port : Fin 24) (t : Nat)
  /-- TXREQ (R262). -/
  | txreq (who : Requester) (port : Fin 24) (buf : Fin 32) (t : Nat)
  /-- TX_CANCEL (R268). -/
  | txCancel (who : Requester) (port : Fin 24) (buf : Fin 32) (t : Nat)
  /-- TX_PERIOD_TRIGGER (R267). -/
  | txPeriodTrigger (port : Fin 24) (buf : Fin 32) (t : Nat)
  /-- FIFO_POP (R271). -/
  | fifoPop (who : Requester) (port : Fin 24) (k : Fin 8) (n : BitVec 7) (t : Nat)
  /-- CAN_WAKE_PATTERN (R276). -/
  | canWakePattern (port : Fin 24) (t : Nat)
  /-- CMD_BUS_TX_SEND (R277). -/
  | cmdBusTxSend (f : Frame)
  /-- CMD_BUS_RX_READ (R277). -/
  | cmdBusRxRead (f : Frame)
  /-- CMD_BUS_TX_CANCEL (R268). -/
  | cmdBusTxCancel (f : Frame)
  /-- CMD_BUS_RECOVER (R295). -/
  | cmdBusRecover (f : Frame)
  /-- CMD_BUS_RANGE_LIST (R295). -/
  | cmdBusRangeList (f : Frame)
  /-- ETH_FRAME_RX (R301). -/
  | ethFrameRx (fr : EthFrame) (t : Nat)
  /-- LINK_CHANGE (R307). -/
  | linkChange (cage : Fin 2) (up : Bool) (t : Nat)
  /-- LAN_TIMEOUT (R307). -/
  | lanTimeout (cage : Fin 2) (t : Nat)
  /-- PRP_SUPERVISION (R306). -/
  | prpSupervision (t : Nat)
  /-- ADDRESS_AGEING (R302). -/
  | addressAgeing (mac : Nat) (vid : Nat) (t : Nat)
  /-- SFP_INSERT (R299). -/
  | sfpInsert (cage : Fin 2) (m : SfpModule) (t : Nat)
  /-- PTP_SYNC (R326). -/
  | ptpSync (sync : PtpSync) (t : Nat)
  /-- PTP_SYNC_TIMEOUT (R325). -/
  | ptpSyncTimeout (t : Nat)
  /-- GM_RETRY (R326). -/
  | gmRetry (t : Nat)
  /-- FLOOR_TIME_STEP (R327). -/
  | floorTimeStep (t : Nat)
  /-- BACNET_REQUEST (R311). -/
  | bacnetRequest (rq : BacnetRequest) (t : Nat)
  /-- MQTT_MESSAGE (R312). -/
  | mqttMessage (msg : MqttMessage) (t : Nat)
  /-- COV_NOTIFY (R311). -/
  | covNotify (entry : Fin 4096) (t : Nat)
  /-- LBX_POLL_DUE (R314). -/
  | lbxPollDue (map : Fin 2048) (t : Nat)
  /-- LBX_TRANSACTION_START (R314). -/
  | lbxTransactionStart (port : Fin 16) (t : Nat)
  /-- LBX_ANSWER (R314). -/
  | lbxAnswer (port : Fin 16) (ans : LbxAnswer) (t : Nat)
  /-- LBX_TIMEOUT (R315). -/
  | lbxTimeout (port : Fin 16) (t : Nat)
  /-- DALI_EVENT (R318). -/
  | daliEvent (port : Fin 16) (ev : DaliEvent) (t : Nat)
  /-- MBUS_OVERLOAD (R473). -/
  | mbusOverload (port : Fin 16) (t : Nat)
  /-- MBUS_OVERLOAD_RESTORE (R473). -/
  | mbusOverloadRestore (port : Fin 16) (t : Nat)
  /-- CMD_LBX_DALI_ADDRESS (R318). -/
  | cmdLbxDaliAddress (f : Frame)
  /-- CMD_LBX_MBUS_SCAN (R319). -/
  | cmdLbxMbusScan (f : Frame)
  /-- CMD_TIME_GET (R342). -/
  | cmdTimeGet (f : Frame)
  /-- CMD_TIME_SET (R335). -/
  | cmdTimeSet (f : Frame)
  /-- CALENDAR_SET_APPLY (R335). -/
  | calendarSetApply (t : Nat)
  /-- CMD_TIME_SHIFT (R334). -/
  | cmdTimeShift (f : Frame)
  /-- SHIFT_DONE (R334). -/
  | shiftDone (t : Nat)
  /-- ALARM_FIRE (R337). -/
  | alarmFire (aa : Fin 16) (t : Nat)
  /-- CALENDAR_ROLLOVER (R330). -/
  | calendarRollover (t : Nat)
  /-- TIME_CFG_WRITE (R336). -/
  | timeCfgWrite (who : Requester) (value : BitVec 32) (t : Nat)
  /-- PTP_CALENDAR_CHECK (R336). -/
  | ptpCalendarCheck (t : Nat)
  /-- TIME_CORR_CAPTURE (R341). -/
  | timeCorrCapture (who : Requester) (t : Nat)
  /-- TIME_CORR_AUTO (R341). -/
  | timeCorrAuto (t : Nat)
  /-- RTC_GROUP_READ (R332). -/
  | rtcGroupRead (who : Requester) (addr : Nat) (t : Nat)
  /-- RTC_FREEZE_TIMEOUT (R332). -/
  | rtcFreezeTimeout (who : Requester) (t : Nat)
  /-- EVR_RECORD_WRITE (R351). -/
  | evrRecordWrite (t : Nat)
  /-- WATCH_EVAL (R349). -/
  | watchEval (comp : Nat) (t : Nat)
  /-- WATCH_HOLDOFF_END (R349). -/
  | watchHoldoffEnd (comp : Nat) (tt : Fin 16) (t : Nat)
  /-- EVR_REC_READ (R357). -/
  | evrRecRead (who : Requester) (word : Fin 64)
  /-- CMD_EVT_READ (R358). -/
  | cmdEvtRead (f : Frame)
  /-- CMD_EVT_SUBSCRIBE (R359). -/
  | cmdEvtSubscribe (f : Frame)
  /-- CMD_EVT_WIPE (R354). -/
  | cmdEvtWipe (f : Frame)
  /-- CMD_KEY_UPDATE (R372). -/
  | cmdKeyUpdate (f : Frame)
  /-- KUM_APPLY (R373). -/
  | kumApply (t : Nat)
  /-- CMD_KEY_ATTEST (R379). -/
  | cmdKeyAttest (f : Frame)
  /-- CMD_KEY_CERTIFY (R380). -/
  | cmdKeyCertify (f : Frame)
  /-- CMD_KEY_AUTHORITY_SET (R374). -/
  | cmdKeyAuthoritySet (f : Frame)
  /-- CMD_LCY_PROMOTE (R387). -/
  | cmdLcyPromote (f : Frame)
  /-- CMD_LCY_SEAL_ACK (R393). -/
  | cmdLcySealAck (f : Frame)
  /-- CMD_LCY_USB_ENABLE (R400). -/
  | cmdLcyUsbEnable (f : Frame)
  /-- CMD_LCY_USB_DISABLE (R400). -/
  | cmdLcyUsbDisable (f : Frame)
  /-- USB_ENABLE_EXPIRY (R400). -/
  | usbEnableExpiry (t : Nat)
  /-- CMD_LCY_RETIRE_STATEMENT (R399). -/
  | cmdLcyRetireStatement (f : Frame)
  /-- CMD_LCY_DEBUG_CHALLENGE (R396). -/
  | cmdLcyDebugChallenge (f : Frame)
  /-- CMD_LCY_DEBUG_UNLOCK (R397). -/
  | cmdLcyDebugUnlock (f : Frame)
  /-- LCY_D1_EN_WRITE (R395). -/
  | lcyD1EnWrite (who : Requester) (value : BitVec 34) (t : Nat)
  /-- SEAL_BREAK (R393). -/
  | sealBreak (t : Nat)
  /-- CONFIG_LOCK_CHANGE (R394). -/
  | configLockChange (fitted : Bool) (t : Nat)
  /-- DEBUG_PROBE_FIT (R466). -/
  | debugProbeFit (t : Nat)
  /-- DEBUG_SYSRST (R466). -/
  | debugSysrst (t : Nat)
  /-- DEBUG_HALT (R466). -/
  | debugHalt (halt : Bool) (t : Nat)
  /-- CMD_UPD_OPEN (R404). -/
  | cmdUpdOpen (f : Frame)
  /-- CMD_UPD_BLOCK (R406). -/
  | cmdUpdBlock (f : Frame)
  /-- CMD_UPD_STATUS (R406). -/
  | cmdUpdStatus (f : Frame)
  /-- CMD_UPD_VERIFY (R407). -/
  | cmdUpdVerify (f : Frame)
  /-- CMD_UPD_ABORT (R405). -/
  | cmdUpdAbort (f : Frame)
  /-- CMD_UPD_ACTIVATE (R408). -/
  | cmdUpdActivate (f : Frame)
  /-- CMD_UPD_CONFIRM (R412). -/
  | cmdUpdConfirm (f : Frame)
  /-- CMD_UPD_FALLBACK (R413). -/
  | cmdUpdFallback (f : Frame)
  /-- CMD_UPD_RECOVERY_ENTER (R419). -/
  | cmdUpdRecoveryEnter (f : Frame)
  /-- UPD_OWNER_TIMEOUT (R405). -/
  | updOwnerTimeout (t : Nat)
  /-- UPD_ACTIVATION (R409). -/
  | updActivation (t : Nat)
  /-- UPD_STEP_DONE (R409). -/
  | updStepDone (version : Nat) (t : Nat)
  /-- UPD_STEP_TIMEOUT (R409). -/
  | updStepTimeout (t : Nat)
  /-- UPD_RESET (R409). -/
  | updReset (t : Nat)
  /-- TRIAL_EXPIRY (R410). -/
  | trialExpiry (t : Nat)
  /-- BOOT_RESUME_TIMEOUT (R410). -/
  | bootResumeTimeout (t : Nat)
  /-- ADJOURN_EXPIRY (R415). -/
  | adjournExpiry (t : Nat)
  /-- UPD_SEALED_MOVE (R416). -/
  | updSealedMove (who : Requester) (value : BitVec 32) (t : Nat)
  /-- RECOVERY_BEACON (R419). -/
  | recoveryBeacon (t : Nat)
  /-- RECOVERY_IDLE_EXIT (R420). -/
  | recoveryIdleExit (t : Nat)
  /-- ECC_UE (R424). -/
  | eccUe (mem : Nat) (bank : Nat) (off : Nat) (t : Nat)
  /-- SCRUB (R424). -/
  | scrub (t : Nat)
  /-- CMD_DIAG_MTE_RUN (R432). -/
  | cmdDiagMteRun (f : Frame)
  /-- CMD_DIAG_MTE_ABORT (R432). -/
  | cmdDiagMteAbort (f : Frame)
  /-- MTE_TEST_DONE (R433). -/
  | mteTestDone (rows : List Nat) (t : Nat)
  /-- PMON_RUN (R440). -/
  | pmonRun (who : Requester) (on : Bool) (t : Nat)
  /-- PMON_FREEZE (R441). -/
  | pmonFreeze (who : Requester) (t : Nat)
  /-- PMON_ARM (R442). -/
  | pmonArm (who : Requester) (t : Nat)
  /-- PMON_ARMED_FREEZE (R442). -/
  | pmonArmedFreeze (t : Nat)
  /-- PMON_DUMP_EN (R443). -/
  | pmonDumpEn (who : Requester) (on : Bool) (t : Nat)
  /-- PMON_DUMP (R443). -/
  | pmonDump (t : Nat)
  /-- PMON_SAMP_EN (R446). -/
  | pmonSampEn (who : Requester) (on : Bool) (t : Nat)
  /-- PMON_SAMPLE (R447). -/
  | pmonSample (e : Fin 2) (t : Nat)
  /-- CMD_DIAG_PMON_FREEZE (R441). -/
  | cmdDiagPmonFreeze (f : Frame)
  /-- CMD_DIAG_PMON_DUMP_READ (R445). -/
  | cmdDiagPmonDumpRead (f : Frame)
  /-- CMD_DIAG_PMON_SAMPLE_READ (R448). -/
  | cmdDiagPmonSampleRead (f : Frame)
  /-- AGM_MEASURE_DUE (R452). -/
  | agmMeasureDue (m : AgmMeasure) (t : Nat)
  /-- HOLDUP_TEST (R453). -/
  | holdupTest (t : Nat)
  /-- AGM_REPLAN_RETRY (R461). -/
  | agmReplanRetry (t : Nat)
  /-- CMD_DIAG_AGM_MEASURE (R464). -/
  | cmdDiagAgmMeasure (f : Frame)
  /-- CMD_DIAG_AGM_REPLAN (R462). -/
  | cmdDiagAgmReplan (f : Frame)
  /-- CAPTURE_HOLD_END (R122). -/
  | captureHoldEnd (t : Nat)
  /-- SAMPLE_INSTANT (R201). -/
  | sampleInstant (codes : List Int) (t : Nat)
  /-- BUS_INTEGRATION (R275). -/
  | busIntegration (port : Fin 24) (t : Nat)
  /-- PROTOCOL_EXCEPTION (R255). -/
  | protocolException (port : Fin 24) (t : Nat)
  /-- NODE_FORGET_TIME (R306). -/
  | nodeForgetTime (mac : Nat) (t : Nat)
  /-- MSTP_FRAME (R316). -/
  | mstpFrame (port : Fin 16) (fr : MstpFrame) (t : Nat)
  /-- SEAL_LOOP_INTACT (R393). -/
  | sealLoopIntact (t : Nat)
  /-- PRESENCE_RELEASE (R391). -/
  | presenceRelease (t : Nat)
  /-- BACKUP_DOMAIN_DIP (R46). -/
  | backupDomainDip (t : Nat)
  /-- UPD_VERIFY_DONE (R407). -/
  | updVerifyDone (t : Nat)
  /-- AGM_MEASUREMENT_END (R453). -/
  | agmMeasurementEnd (m : AgmMeasure) (t : Nat)
  deriving DecidableEq, Repr

end Sys2Proof
end

