-- ==== Sys2Proof/WellFormed.lean ====
section
/-!
DEFINITION. Which commands are well formed: operands the spec's own ranges allow. A command that is not well formed
stands for no event of the module; `exec` is total all the same.
-/
namespace Sys2Proof

/-- An MMP frame as the transport can deliver it (Table 3-2, R59): its payload has the length its header names, and fits
one segment. -/
def Frame.ok (f : Frame) : Bool := f.payload.length == f.length.toNat && decide (f.length.toNat ≤ 16360)

/-- The bytes a data length code stands for (ISO 11898-1; a remote frame carries none). -/
def CanFrame.bytes (f : CanFrame) : Nat :=
  if f.rtr then 0
  else if f.dlc.val ≤ 8 then f.dlc.val
  else if ! f.fdf then 8
  else [12, 16, 20, 24, 32, 48, 64].getD (f.dlc.val - 9) 64

/-- A CAN frame as a bus can carry it (R254). -/
def CanFrame.ok (f : CanFrame) : Bool :=
  f.data.length == f.bytes && (f.xtd || decide (f.id.toNat < 2048)) && !(f.fdf && f.rtr)

/-- An Ethernet frame as a port can take it in (R301). -/
def EthFrame.ok (f : EthFrame) : Bool :=
  decide (f.src < 2 ^ 48) && decide (f.dst < 2 ^ 48) && decide (f.ethertype < 65536) &&
  (match f.vid with | some v => decide (v < 4096) | none => true)

/-- A requester of Table 1-3: a compartment number, an engine and a task entry that exist. -/
def Requester.ok (r : Requester) : Bool :=
  match r with
  | .session _ => true
  | .task c e k => decide (c < 34) && decide (e < 2) && decide (k < 16)
  | .firmware => true

/-- A compare-and-set names states of Table 3-11. -/
def casOk (c : Option SlotCas) : Bool :=
  match c with
  | some x => decide (x.expect < 6) && decide (x.new < 6) && decide (x.source < 5) && decide (x.frame.length ≤ 16384)
  | none => true

/-- Whether a command is well formed. -/
def Instr.wf (i : Instr) : Bool :=
  match i with
  | .cmdSessionOpen f | .cmdSessionChallenge f | .cmdSessionClose f | .cmdSessionPing f | .cmdSessionResume f
  | .cmdSessionCancel f | .cmdIdentGet f | .mmpBadHeader f _ | .mmpUndefinedCommand f _ | .cmdObjRead f
  | .cmdObjWrite f | .cmdObjGroupRead f | .cmdObjGroupWrite f | .castStagedRead f | .cmdCastCheck f | .cmdCastCommit f
  | .cmdCastAbort f | .cmdScanStart f | .cmdScanStop f | .cmdScanHold f | .cmdScanResume f | .cmdScanStep f
  | .cmdScanStatus f | .cmdScanImageWrite f | .cmdScanImageVerify f | .cmdScanImageDrop f | .cmdScanExchPlan f
  | .cmdScanForceSet f | .cmdScanForceClear f | .cmdScanForceList f | .cmdMtrSealRead f | .cmdMtrSealAck f
  | .cmdBusTxSend f | .cmdBusRxRead f | .cmdBusTxCancel f | .cmdBusRecover f | .cmdBusRangeList f
  | .cmdLbxDaliAddress f | .cmdLbxMbusScan f | .cmdTimeGet f | .cmdTimeSet f | .cmdTimeShift f | .cmdEvtRead f
  | .cmdEvtSubscribe f | .cmdEvtWipe f | .cmdKeyUpdate f | .cmdKeyAttest f | .cmdKeyCertify f | .cmdKeyAuthoritySet f
  | .cmdLcyPromote f | .cmdLcySealAck f | .cmdLcyUsbEnable f | .cmdLcyUsbDisable f | .cmdLcyRetireStatement f
  | .cmdLcyDebugChallenge f | .cmdLcyDebugUnlock f | .cmdUpdOpen f | .cmdUpdBlock f | .cmdUpdStatus f | .cmdUpdVerify f
  | .cmdUpdAbort f | .cmdUpdActivate f | .cmdUpdConfirm f | .cmdUpdFallback f | .cmdUpdRecoveryEnter f
  | .cmdDiagMteRun f | .cmdDiagMteAbort f | .cmdDiagPmonFreeze f | .cmdDiagPmonDumpRead f | .cmdDiagPmonSampleRead f
  | .cmdDiagAgmMeasure f | .cmdDiagAgmReplan f => f.ok
  | .transportLoss _ _ | .sessionIdleTimeout _ _ | .sessionDetachExpiry _ _ | .noticeHandover _ | .modeTransitionDone _
  | .m9LimitExpiry _ | .powerFail _ | .bulkLow _ | .mainReturn _ | .unitFailure _ _ | .bootEntry _ | .promotionWipe _ _
  | .bootComplete _ | .opSecondsTick _ | .presencePress _ | .presenceWindowOpen _ | .presenceWindowClose _
  | .vbusDetect _ | .tcpSynWake _ | .castArm _ | .castInstant _ | .castAppliedMark _ | .splitLatch _
  | .budgetWindow _ _ | .add _ _ _ _ _ | .sub _ _ _ _ _ | .mul _ _ _ _ _ | .mulhs _ _ _ _ _ | .divs _ _ _ _ _
  | .divu _ _ _ _ _ | .rem _ _ _ _ _ | .remu _ _ _ _ _ | .andd _ _ _ _ _ | .orr _ _ _ _ _ | .xorr _ _ _ _ _
  | .shl _ _ _ _ _ | .shr _ _ _ _ _ | .sar _ _ _ _ _ | .mins _ _ _ _ _ | .maxs _ _ _ _ _ | .addi _ _ _ _
  | .andi _ _ _ _ | .ori _ _ _ _ | .xori _ _ _ _ | .movi _ _ _ | .ldc _ _ _ | .fadd _ _ _ _ _ | .fsub _ _ _ _ _
  | .fmul _ _ _ _ _ | .fdiv _ _ _ _ _ | .fsqrt _ _ _ _ | .fmin _ _ _ _ _ | .fmax _ _ _ _ _ | .fabs _ _ _ _
  | .fneg _ _ _ _ | .i2d _ _ _ _ | .d2i _ _ _ _ | .i2f _ _ _ _ | .f2i _ _ _ _ | .f2d _ _ _ | .d2f _ _ _ | .u2d _ _ _ _
  | .cmpEq _ _ _ _ _ | .cmpNe _ _ _ _ _ | .cmpLt _ _ _ _ _ | .cmpLe _ _ _ _ _ | .cmpLtu _ _ _ _ _ | .cmpLeu _ _ _ _ _
  | .fcmpEq _ _ _ _ _ | .fcmpNe _ _ _ _ _ | .fcmpLt _ _ _ _ _ | .fcmpLe _ _ _ _ _ | .fcmpUnord _ _ _ _ _
  | .btst _ _ _ _ | .bset _ _ _ _ | .bclr _ _ _ _ | .binv _ _ _ _ | .extu _ _ _ _ _ | .exts _ _ _ _ _ | .ins _ _ _ _ _
  | .clz _ _ _ | .popc _ _ _ | .pld _ _ _ _ | .pattr _ _ _ _ | .pst _ _ _ _ | .pold _ _ _ _ | .ildB _ _ _ _
  | .ildH _ _ _ _ | .ildW _ _ _ _ | .ildD _ _ _ _ | .istB _ _ _ _ | .istH _ _ _ _ | .istW _ _ _ _ | .istD _ _ _ _
  | .gld _ _ _ _ | .gst _ _ _ _ | .tmr _ _ _ _ | .tmrrd _ _ _ _ | .edgr _ _ _ _ | .edgf _ _ _ _ | .edgb _ _ _ _
  | .br _ _ | .bz _ _ _ | .bnz _ _ _ | .bdec _ _ _ | .btab _ _ _ | .fbcall _ _ | .fbcallx _ _ _ | .call _ _ | .ret _
  | .objrd32 _ _ _ _ | .objrd64 _ _ _ _ | .objwr32 _ _ _ _ | .objwr64 _ _ _ _ | .tbound _ _ | .tnow _ _ | .plyinfo _ _
  | .event _ _ _ | .wake _ _ | .utrap _ _ | .zeroCrossing _ _ | .cycleTimeout _ _ | .pseudoCycleEnd _ _
  | .nmissStart _ _ | .nmissEnd _ _ | .latch _ | .energyCommit _ | .settlingEnd _ _ | .calCaptureEnd _
  | .waveRecordDone _ | .pulseStart _ _ | .pulseWidthEnd _ _ | .canRxError _ _ _ | .canTxSuccess _ _
  | .canTxError _ _ _ | .canArbLost _ _ | .recoveryDelayExpiry _ _ | .recoveryEnd _ _ | .txPeriodTrigger _ _ _
  | .canWakePattern _ _ | .linkChange _ _ _ | .lanTimeout _ _ | .prpSupervision _ | .sfpInsert _ _ _
  | .ptpSyncTimeout _ | .gmRetry _ | .floorTimeStep _ | .covNotify _ _ | .lbxPollDue _ _ | .lbxTransactionStart _ _
  | .lbxTimeout _ _ | .mbusOverload _ _ | .mbusOverloadRestore _ _ | .calendarSetApply _ | .shiftDone _
  | .alarmFire _ _ | .calendarRollover _ | .ptpCalendarCheck _ | .timeCorrAuto _ | .evrRecordWrite _ | .kumApply _
  | .usbEnableExpiry _ | .sealBreak _ | .configLockChange _ _ | .debugProbeFit _ | .debugSysrst _ | .debugHalt _ _
  | .updOwnerTimeout _ | .updActivation _ | .updStepTimeout _ | .updReset _ | .trialExpiry _ | .bootResumeTimeout _
  | .adjournExpiry _ | .recoveryBeacon _ | .recoveryIdleExit _ | .scrub _ | .pmonArmedFreeze _ | .pmonDump _
  | .pmonSample _ _ | .agmMeasureDue _ _ | .holdupTest _ | .agmReplanRetry _ | .captureHoldEnd _ | .busIntegration _ _
  | .protocolException _ _ | .sealLoopIntact _ | .presenceRelease _ | .backupDomainDip _ | .updVerifyDone _
  | .agmMeasurementEnd _ _ => true
  | .modeRequest who _ _ | .modeRelease who | .maeCalStart who _ | .maeCalAbort who _ | .maeWaveStart who _
  | .txreq who _ _ _ | .txCancel who _ _ _ | .fifoPop who _ _ _ _ | .timeCfgWrite who _ _ | .timeCorrCapture who _
  | .rtcFreezeTimeout who _ | .evrRecRead who _ | .lcyD1EnWrite who _ _ | .updSealedMove who _ _ | .pmonRun who _ _
  | .pmonFreeze who _ | .pmonArm who _ | .pmonDumpEn who _ _ | .pmonSampEn who _ _ => who.ok
  | .castCheckDone comp _ | .tempoBoundary comp _ _ _ | .skipLimitStop comp _ _ _ | .budgetSuspension comp _ _
  | .fwAccessDone comp _ _ _ | .retainedCommit comp _ | .startupComplete comp _ | .stopComplete comp _
  | .sealSign comp _ | .watchEval comp _ | .watchHoldoffEnd comp _ _ => decide (comp < 34)
  | .tlsHandshake h => decide (h.port < 4) && (match h.vlan with | some v => decide (v < 4096) | none => true)
  | .mbxDbIn src slot => decide (src < 5) && decide (slot < 16)
  | .mbxSlotState slot sup port => decide (slot < 15) && casOk sup && casOk port && (sup.isSome || port.isSome)
  | .regWrite who addr _ _ => who.ok && decide (addr % 4 = 0) && decide (addr < 0x1000000)
  | .regReadClear who addr _ _ => who.ok && decide (addr % 4 = 0) && decide (addr < 0x1000000)
  | .powerFailCommitEnd _ stages _ _ => decide (stages ≤ 4)
  | .pllLockTimeout pll _ => decide (pll < 7)
  | .startupTestDone faults _ => faults.all fun x => decide (x.bank < 155)
  | .castConfirmDeadline confirmed => confirmed.all fun u => decide (u < 18)
  | .pimgSetWrite who point _ _ => who.ok && decide (point < 8192)
  | .canRxFrame _ fr _ => fr.ok
  | .ethFrameRx fr _ => fr.ok
  | .addressAgeing mac vid _ => decide (mac < 2 ^ 48) && decide (vid < 4096)
  | .nodeForgetTime mac _ => decide (mac < 2 ^ 48)
  | .ptpSync y _ => decide (y.gm < 2 ^ 64) && decide (y.utcOfs < 65536)
  | .bacnetRequest rq _ => decide (rq.vlan < 4096) && decide (1 ≤ rq.priority ∧ rq.priority ≤ 16)
  | .mqttMessage m _ => decide (m.comp < 34) && decide (m.point < 8192)
  | .rtcGroupRead who addr _ => who.ok && decide (addr % 4 = 0)
  | .sampleInstant codes _ => decide (codes.length = 208) && codes.all fun c => decide (-8388608 ≤ c ∧ c ≤ 8388607)
  | .eccUe mem bank _ _ => decide (mem < 14) && decide (bank < 155)
  | .mteTestDone rows _ => decide (rows.length ≤ 65536)
  | .mstpFrame _ fr _ => decide (fr.dst < 256) && decide (fr.src < 256)
  | .daliEvent _ ev _ => decide (ev.address < 64)
  | .lbxAnswer _ ans _ => decide (ans.data.length ≤ 256)
  | .updStepDone version _ => decide (version < 65536)

end Sys2Proof
end

