-- ==== Sys2Proof/Machine/Sha384.lean ====
section
/-!
DEFINITION. SHA-384 (FIPS 180-4), which hashes a scan image as staged (spec/06) and other module contents.
-/
namespace Sys2Proof.Machine

/-- Round constants 0 to 19. -/
def sha512K0 : List Word64 := [
  0x428a2f98d728ae22, 0x7137449123ef65cd, 0xb5c0fbcfec4d3b2f, 0xe9b5dba58189dbbc,
  0x3956c25bf348b538, 0x59f111f1b605d019, 0x923f82a4af194f9b, 0xab1c5ed5da6d8118,
  0xd807aa98a3030242, 0x12835b0145706fbe, 0x243185be4ee4b28c, 0x550c7dc3d5ffb4e2,
  0x72be5d74f27b896f, 0x80deb1fe3b1696b1, 0x9bdc06a725c71235, 0xc19bf174cf692694,
  0xe49b69c19ef14ad2, 0xefbe4786384f25e3, 0x0fc19dc68b8cd5b5, 0x240ca1cc77ac9c65]

/-- Round constants 20 to 39. -/
def sha512K1 : List Word64 := [
  0x2de92c6f592b0275, 0x4a7484aa6ea6e483, 0x5cb0a9dcbd41fbd4, 0x76f988da831153b5,
  0x983e5152ee66dfab, 0xa831c66d2db43210, 0xb00327c898fb213f, 0xbf597fc7beef0ee4,
  0xc6e00bf33da88fc2, 0xd5a79147930aa725, 0x06ca6351e003826f, 0x142929670a0e6e70,
  0x27b70a8546d22ffc, 0x2e1b21385c26c926, 0x4d2c6dfc5ac42aed, 0x53380d139d95b3df,
  0x650a73548baf63de, 0x766a0abb3c77b2a8, 0x81c2c92e47edaee6, 0x92722c851482353b]

/-- Round constants 40 to 59. -/
def sha512K2 : List Word64 := [
  0xa2bfe8a14cf10364, 0xa81a664bbc423001, 0xc24b8b70d0f89791, 0xc76c51a30654be30,
  0xd192e819d6ef5218, 0xd69906245565a910, 0xf40e35855771202a, 0x106aa07032bbd1b8,
  0x19a4c116b8d2d0c8, 0x1e376c085141ab53, 0x2748774cdf8eeb99, 0x34b0bcb5e19b48a8,
  0x391c0cb3c5c95a63, 0x4ed8aa4ae3418acb, 0x5b9cca4f7763e373, 0x682e6ff3d6b2b8a3,
  0x748f82ee5defb2fc, 0x78a5636f43172f60, 0x84c87814a1f0ab72, 0x8cc702081a6439ec]

/-- Round constants 60 to 79. -/
def sha512K3 : List Word64 := [
  0x90befffa23631e28, 0xa4506cebde82bde9, 0xbef9a3f7b2c67915, 0xc67178f2e372532b,
  0xca273eceea26619c, 0xd186b8c721c0c207, 0xeada7dd6cde0eb1e, 0xf57d4f7fee6ed178,
  0x06f067aa72176fba, 0x0a637dc5a2c898a6, 0x113f9804bef90dae, 0x1b710b35131c471b,
  0x28db77f523047d84, 0x32caab7b40c72493, 0x3c9ebe0a15c9bebc, 0x431d67c49c100d4c,
  0x4cc5d4becb3e42b6, 0x597f299cfc657e2a, 0x5fcb6fab3ad6faec, 0x6c44198c4a475817]

/-- The round constants: the fractional parts of the cube roots of the first 80 primes. -/
def sha512K : List Word64 := sha512K0 ++ sha512K1 ++ sha512K2 ++ sha512K3

/-- The initial hash of SHA-384. -/
def sha384H : List Word64 := [
  0xcbbb9d5dc1059ed8, 0x629a292a367cd507, 0x9159015a3070dd17, 0x152fecd8f70e5939,
  0x67332667ffc00b31, 0x8eb44a8768581511, 0xdb0c2e0d64f98fa7, 0x47b5481dbefa4fa4]

/-- The big-endian word of 8 bytes. -/
def be64 (bs : Bytes) : Word64 := bs.foldl (fun w b => w * 256 + BitVec.ofNat 64 b.toNat) 0

/-- The big-endian bytes of a word. -/
def be64Bytes (w : Word64) : Bytes := [56, 48, 40, 32, 24, 16, 8, 0].map fun k => (w >>> k).truncate 8

/-- One more word of the message schedule, newest first. -/
def schedule : Nat → List Word64 → List Word64
  | 0, w => w
  | n + 1, w =>
    let a := w.getD 1 0
    let b := w.getD 14 0
    let s1 := a.rotateRight 19 ^^^ a.rotateRight 61 ^^^ (a >>> 6)
    let s0 := b.rotateRight 1 ^^^ b.rotateRight 8 ^^^ (b >>> 7)
    schedule n ((s1 + w.getD 6 0 + s0 + w.getD 15 0) :: w)

/-- The eight working variables after the rounds. -/
def rounds : List (Word64 × Word64) → List Word64 → List Word64
  | (k, w) :: r, [a, b, c, d, e, f, g, h] =>
    let t1 := h + (e.rotateRight 14 ^^^ e.rotateRight 18 ^^^ e.rotateRight 41) + ((e &&& f) ^^^ (~~~e &&& g)) + k + w
    let t2 := (a.rotateRight 28 ^^^ a.rotateRight 34 ^^^ a.rotateRight 39) + ((a &&& b) ^^^ (a &&& c) ^^^ (b &&& c))
    rounds r [t1 + t2, a, b, c, d + t1, e, f, g]
  | _, v => v

/-- Sixteen words of a 128-byte block. -/
def blockWords : Nat → Bytes → List Word64
  | 0, _ => []
  | n + 1, bs => be64 (bs.take 8) :: blockWords n (bs.drop 8)

/-- The hash after `n` blocks. -/
def sha384Blocks : Nat → Bytes → List Word64 → List Word64
  | 0, _, h => h
  | n + 1, bs, h =>
    let w := (schedule 64 (blockWords 16 bs).reverse).reverse
    sha384Blocks n (bs.drop 128) (List.zipWith (· + ·) h (rounds (sha512K.zip w) h))

/-- The SHA-384 digest of a byte string, 48 bytes. -/
def sha384 (m : Bytes) : Bytes :=
  let len := m.length
  let pad := (239 - len % 128) % 128
  let all := m ++ [0x80] ++ List.replicate pad 0 ++ List.replicate 8 0 ++ be64Bytes (BitVec.ofNat 64 (8 * len))
  ((sha384Blocks (all.length / 128) all sha384H).flatMap be64Bytes).take 48

end Sys2Proof.Machine
end

