-- ==== Sys2Proof/Machine/State.lean ====
section
/-!
DEFINITION. The state of the block as plain data, the (empty) fault type, the refusal type, and the state after reset.
The stored fields of the object space are `regs`; what the spec keeps beside them is typed, unit by unit.
-/
namespace Sys2Proof.Machine

/-- No command of this block stops the machine with a fault: the constructor is raised by nobody (assumption log 3).
Safe: nothing can be proved of a fault that never happens. -/
inductive Fault where
  /-- Raised by nobody. Safe. -/
  | never
  deriving DecidableEq, Repr

/-- Why a command has no meaning. Raised only by an arm of `exec` for a command not modelled. Safe: it stops. -/
inductive Refusal where
  /-- The command named has no meaning yet. Safe. -/
  | notModelled (mnemonic : String)
  deriving DecidableEq, Repr

/-! ### The object space's stored fields -/

/-- What keeps a field: nothing (its reset value returns at every entry to M3), MRAM (kept across boots, wiped by a
promotion), the platform partition (kept across promotions, R389), or the always-on domain (R47). -/
inductive Keep where
  | vol | mram | plat | aod
  deriving DecidableEq, Repr

/-- One field of the object space, one instance, one compartment's bank (R89): its place as a bit address, its width
and its reset value. -/
structure Fld where
  bank : Nat
  bit : Nat
  width : Nat
  reset : Nat
  keep : Keep
  deriving DecidableEq, Repr

/-- The access codes of Table 0-4 (R5). -/
inductive Access where
  | ro | rw | wo | w1c | rc | ws | rf
  deriving DecidableEq, Repr

/-- The stated range of a field: none, from `lo` to `hi` unsigned, the same with a zero allowed beside, signed, or one
of a list. -/
inductive Rng where
  | any
  | nat (lo hi : Nat)
  | orZero (lo hi : Nat)
  | int (lo hi : Int)
  | oneOf (l : List Nat)
  deriving DecidableEq, Repr

/-- One row of an object map (R5): the byte address of its first instance, its dimensions as (count, stride in bytes)
from the outermost, its bits, access, reset value, what keeps it, whether each compartment has its own bank (R89),
whether it is computed on read, the distance in bits to its companion counter (R11; 0 none), and its stated range. -/
structure Row where
  base : Nat
  dims : List (Nat × Nat)
  lo : Nat
  width : Nat
  acc : Access
  reset : Nat
  keep : Keep
  banked : Bool := false
  virt : Bool := false
  cnt : Nat := 0
  rng : Rng := .any
  deriving DecidableEq, Repr

/-- The stored fields that do not hold their reset value, in rising order of key. -/
abbrev Cells := List (Fld × Nat)

/-- A table with a default for what it does not list. -/
abbrev Tab (α : Type) := List (Nat × α)

/-! ### Mailbox protocol (spec/03) -/

/-- One TLS or USB connection (R54 to R58, R62). `comp` is the compartment the certificate binds, `slot` the key slot
it was verified against (R368), `nonce` the challenge and the floor time of its issue, `chain` the client's chain over TLS. -/
structure Conn where
  id : Nat
  usb : Bool
  port : Nat
  vlan : Option Nat
  comp : Option Nat
  slot : Nat
  chain : Bytes := []
  nonce : Option (Nat × Nat) := none
  deriving DecidableEq, Repr

/-- One entry of a session's duplicate window (R71): the final response is kept when `cached`. -/
structure WinEntry where
  seq : Nat
  cmd : Nat
  done : Bool
  cached : Bool
  cancellable : Bool
  status : Nat
  payload : Bytes
  deriving DecidableEq, Repr

/-- The segments of a request not yet complete (R69). -/
structure Partial where
  seq : Nat
  cmd : Nat
  nextSeg : Nat
  payload : Bytes
  deriving DecidableEq, Repr

/-- An MMP session (R61 to R74, R85, R359). -/
structure Session where
  id : Nat
  comp : Nat
  conn : Option Nat
  usb : Bool
  slot : Nat
  detachedAt : Nat := 0
  lastFrame : Nat
  expected : Nat
  window : List WinEntry := []
  partialReq : Option Partial := none
  notices : List (Nat × Bytes) := []
  dropped : Nat := 0
  noticeSeq : Nat := 0
  mask : Nat := 0
  deriving DecidableEq, Repr

/-- What an accepted request still waits for (R70). -/
inductive Wait where
  | castCheck (comp : Nat) | start (comp : Nat) | stop (comp : Nat) | hold (comp : Nat)
  | step (comp e entry : Nat) | busTx (port buf : Nat) | recover (port : Nat) | kum | timeSet | timeShift
  | updVerify | updActivate | mte | agm
  | held (sid seq : Nat) | pimg
  deriving DecidableEq, Repr

/-- A request that has been answered PENDING, what ends it, and the compartment of its session. -/
structure Waiter where
  sid : Nat
  seq : Nat
  cmd : Nat
  wait : Wait
  cancellable : Bool := false
  comp : Nat := 0
  deriving DecidableEq, Repr

/-- What the module has put out, oldest first (assumption log 4). -/
inductive Out where
  | resp (conn comp seq cmd status : Nat) (payload : Bytes)
  | notice (sid conn seq : Nat) (payload : Bytes)
  | close (conn : Nat)
  | alert (conn : Nat)
  | accept (conn : Nat)
  | can (port : Nat) (frame : CanFrame)
  | eth (port kind : Nat)
  | service (comp kind point : Nat) (value : Nat)
  | legacy (port map : Nat) (bytes : Bytes)
  | beacon (bytes : Bytes)
  | word (who : Requester) (addr status value : Nat)
  deriving DecidableEq, Repr

/-- A frame slot of the mailbox RAM (Table 3-11, R80). -/
structure MbxSlot where
  state : Nat := 0
  owner : Nat := 0
  handle : Nat := 0
  deriving DecidableEq, Repr

/-- The mailbox RAM and its registers (Tables 3-10, 3-11). -/
structure Mbx where
  slots : Tab MbxSlot := []
  fifo : List Nat := []
  outIrq : Nat := 0
  setcnt : Nat := 0
  noteHead : Nat := 0
  noteTail : Nat := 0
  ram : List Host.Cell := []
  deriving DecidableEq, Repr

/-! ### Event recorder (spec/14) -/

/-- One event record (Table 14-1) without its SEQ, which is given at the write (R346). -/
structure EvRec where
  trigger : Nat
  flags : Nat
  opSeconds : Nat
  cycles : Nat
  ticks : Nat
  ft : Nat
  snapStatus : Nat
  detail : Bytes
  snaps : List (Nat × Nat)
  deriving DecidableEq, Repr

/-- A record waiting in the pending queue (R351); `shared` when it took a shared entry. -/
structure EvPend where
  comp : Nat
  shared : Bool
  body : EvRec
  deriving DecidableEq, Repr

/-- The records a log holds: (SEQ, record), oldest first, first and last area (R353). -/
structure EvLog where
  first : List (Nat × EvRec) := []
  last : List (Nat × EvRec) := []
  /-- Records dropped since the last trigger 0x0703 and the floor time of the first (R351). -/
  lost : Nat := 0
  lostAt : Nat := 0
  deriving DecidableEq, Repr

/-- What a watch entry remembers: x at the previous boundary, and the end of its hold-off (R349). -/
structure Watch where
  prev : Option Nat := none
  holdEnd : Nat := 0
  deriving DecidableEq, Repr

structure Evr where
  logs : Tab EvLog := []
  pend : List EvPend := []
  watch : Tab Watch := []
  /-- Records whose trigger fell where SUP does not run, for the next boot (R337, R343, R352). -/
  deferred : List (Nat × EvRec) := []
  deriving DecidableEq, Repr

/-! ### Modes, power and life cycle (spec/02, spec/16) -/

/-- A transition of Table 2-2 in progress (R53, R96). -/
structure Transition where
  target : Nat
  cold : Bool := false
  deriving DecidableEq, Repr

/-- Power path, modes and commit (spec/02). -/
structure Power where
  transition : Option Transition := none
  /-- The mode the module stood in when main power was lost (Tables 2-2, 2-3). -/
  lastMode : Nat := 5
  m9From : Nat := 6
  m9Entry : Nat := 0
  m9Fails : Nat := 0
  /-- A configuration has been committed (Table 2-2). -/
  configured : Bool := false
  canaryA : Bool := false
  canaryB : Bool := true
  mainPresent : Bool := true
  /-- Floor time of power-fail detection (R40), and whether its commit has ended. -/
  pfAt : Nat := 0
  commitEnded : Bool := false
  /-- Records each compartment lost at the last commit (R352). -/
  lost : List (Nat × Nat) := []
  /-- EVR_OP_SECONDS as last committed (R44). -/
  opCommit : Nat := 0
  /-- The canary has tripped and floor time is lost until the next restart (R47). -/
  ftLost : Bool := false
  /-- A wake cause kept while the module passes from M2 to M1 (R39). -/
  keptWake : Option Nat := none
  pllRetried : List Nat := []
  /-- The failures a bank of memory caused, as (unit, bank) (R433, R434). -/
  causes : List (Nat × Nat) := []
  /-- Recovery was requested with presence (Table 2-2, R419). -/
  recovery : Bool := false
  /-- In M3: the memories are cleared and the firmware slots judged (R426, R414), and whether none runs. -/
  cleared : Bool := false
  noSlot : Bool := false
  /-- The backup register of a self-test that failed on the minimum service set: its bank (R48). -/
  failStep : Option Nat := none
  deriving DecidableEq, Repr

/-! ### Time (spec/13) -/

/-- A frozen copy of the RTC group (R332): whose, when it was frozen, and its tick count, calendar and status. -/
structure Shadow where
  who : Requester
  frozenAt : Nat
  ticks : Nat
  cal : Nat
  stat : Nat
  deriving DecidableEq, Repr

/-- The tick count, and the calendar as a count of 1/32,768 s since 2000-01-01 00:00:00 (Table 13-3); `frac` is the
part of a tick that has passed. `suppress` ticks are still to be swallowed and `add` waits for the next tick (R334);
`setReq` is an accepted set (R335). `aod` and `mram` are the saved pairs of floor time and tick count (R329). -/
structure Rtc where
  ticks : Nat := 0
  cal : Nat := 0
  frac : Nat := 0
  valid : Bool := false
  zone : Bool := false
  suppress : Nat := 0
  add : Nat := 0
  setReq : Option (Nat × Bool) := none
  shadows : List Shadow := []
  owed : List Requester := []
  /-- The next occurrence of each armed alarm, in whole seconds of the calendar (R337). -/
  next : Tab (Option Nat) := []
  aod : Nat × Nat := (0, 0)
  mram : Option (Nat × Nat) := none
  deriving DecidableEq, Repr

/-- The PTP discipline (R325 to R327): the grandmaster in use, Sync messages in a row within 1 µs, the last Sync, a
refused grandmaster with the floor time from which it is tried again, the step that is due as (S, Δ), and the offset at
the last Sync that made a step due. -/
structure Ptp where
  gm : Nat := 0
  good : Nat := 0
  lastSync : Nat := 0
  refused : Option (Nat × Nat) := none
  step : Option (Nat × Nat) := none
  ahead : Nat := 0
  deriving DecidableEq, Repr

/-! ### Staging and Castling (spec/04) -/

/-- A staged or kept scan image: its declared size, its bytes (unlisted bytes 0), the ranges written, and whether it has
passed CMD_SCAN_IMAGE_VERIFY since its last write (R171 to R173). -/
structure ImageData where
  size : Nat
  data : List Host.Cell := []
  written : List (Nat × Nat) := []
  verified : Bool := false
  deriving DecidableEq, Repr

/-- What a write held during a check will do (R100). -/
inductive HeldOp where
  | words (entries : List (Nat × List Nat))
  | image (off size : Nat) (bytes : Bytes)
  | drop
  deriving DecidableEq, Repr

structure HeldWrite where
  sid : Nat
  seq : Nat
  op : HeldOp
  deriving DecidableEq, Repr

/-- A compartment's staging (R97 to R101): state (Table 4-5), staged fields, staged image, token and lead of the last
passed check, held writes. -/
structure Staging where
  state : Nat := 0
  cells : Cells := []
  image : Option ImageData := none
  token : Nat := 0
  lead : Nat := 2000
  held : List HeldWrite := []
  /-- Keys of the staged fields that CMD_SCAN_IMAGE_VERIFY staged and no later write replaced (R171, R172). -/
  defaults : List Nat := []
  deriving DecidableEq, Repr

/-- One compartment's part of a pending Castling (R106, R107). -/
structure CastPart where
  comp : Nat
  cells : Cells
  image : Option ImageData
  lead : Nat
  deriving DecidableEq, Repr

/-- A Castling that has been accepted: the units armed, whether all confirmed, the units that failed after that, whether
SUP and the armed units have switched, and whether the MAE has (R111 to R113, R117). From the switch: the compartments
whose resources changed, the circuits whose correction did with whether they are newly in use (R222), and the sealed
compartments that it removed. -/
structure Castling where
  id : Nat
  tC : Nat
  parts : List CastPart
  armed : Option (List Nat) := none
  confirmed : Bool := false
  failed : List Nat := []
  switched : Bool := false
  maeDone : Bool := false
  touched : List Nat := []
  recal : List (Nat × Bool) := []
  removed : List Nat := []
  deriving DecidableEq, Repr

/-! ### Life cycle, presence and pins (spec/16, spec/21) -/

/-- The fuse state, the pins, the presence button and window, the USB enable and the debug nonce (spec/16). -/
structure Lcy where
  state : Nat := 1
  /-- A fuse group partly blown with its intent record (R388). -/
  intent : Option Nat := none
  loopIntact : Bool := true
  jumper : Bool := false
  vbus : Bool := false
  probe : Bool := false
  usbUntil : Option Nat := none
  /-- The USB session that claimed the module keeps the port enabled (R400). -/
  claimSid : Option Nat := none
  pressedAt : Option Nat := none
  windowAt : Option Nat := none
  /-- The 3 s hold of PRESENCE has been served in this press (R391). -/
  held : Bool := false
  /-- A hold reached 3 s while SUP did not serve: the window opens when it first does (R391). -/
  windowDue : Bool := false
  nonce : Option (Nat × Nat) := none
  /-- The last accepted promotion: the state before it, its floor time and tick count (R399). -/
  accepted : Nat × Nat × Nat := (0, 0, 0)
  /-- Boots in a row at which the wipe of a medium failed: SRAM, DRAM, MRAM, e.MMC (R427). -/
  wipeFails : List Nat := [0, 0, 0, 0]
  /-- Units halted by DBG_HALT_N, as the bits of SCOPE (spec/21 R466). -/
  halted : Nat := 0
  deriving DecidableEq, Repr

/-! ### Scan execution (spec/05, spec/06, spec/07) -/

/-- A function of an image (Table 6-15): code offset, bytes, and the type whose entry it is (0xFFFF none). -/
structure ImgFunc where
  off : Nat
  size : Nat
  typeIx : Nat
  deriving DecidableEq, Repr

/-- A variable: name hash, byte offset, size, DTYPE, whether retained. -/
structure ImgVar where
  name : Nat
  off : Nat
  size : Nat
  dtype : Nat
  retained : Bool
  deriving DecidableEq, Repr

structure ImgType where
  hash : Nat
  dataSize : Nat
  entry : Nat
  children : Nat
  vars : List ImgVar
  deriving DecidableEq, Repr

/-- An instance template: type, whether global, path hash, parent and child slot, and its initial data. -/
structure ImgInst where
  typeIx : Nat
  glob : Bool
  path : Nat
  parent : Nat
  slot : Nat
  init : Bytes
  deriving DecidableEq, Repr

/-- A task of an image (Table 6-16), its point sets resolved. -/
structure ImgTask where
  engine : Nat
  entry : Nat
  watch : Bool
  tempo : Nat
  phase : Nat
  skipLimit : Nat
  root : Nat
  ins : List Nat
  outs : List Nat
  deriving DecidableEq, Repr

/-- A scan image as the loader reads it (R168 to R173): its hash is 48 bytes; `retain` is (instance, offset, length). -/
structure Image where
  comp : Nat
  size : Nat
  hash : Bytes
  minUcode : Nat
  code : List Nat
  consts : List Nat
  funcs : List ImgFunc
  types : List ImgType
  insts : List ImgInst
  retain : List (Nat × Nat × Nat)
  tasks : List ImgTask
  deriving DecidableEq, Repr

/-- An instance placed in instance SRAM (R170): module identifier, index in the image, type, DATA_SIZE, and its data
bytes (an unlisted byte is 0). -/
structure Inst where
  id : Nat
  ix : Nat
  typeIx : Nat
  size : Nat
  data : List Host.Cell
  deriving DecidableEq, Repr

/-- An image in force with its instances. -/
structure Prog where
  image : Image
  insts : List Inst
  deriving DecidableEq, Repr

/-- The FW access a ply waits for (R143), to be made when it ends: the op's D and B registers, the address or event code,
whether 64 bits wide, and the value a write carries. -/
inductive FwAccess where
  | read (d b addr : Nat) (wide : Bool)
  | write (d addr : Nat) (wide : Bool) (value : Nat)
  | event (d : Nat)
  deriving DecidableEq, Repr

/-- One half-by-half write of a point: the new low and high 32 bits, where written (R145). -/
structure PtWrite where
  point : Nat
  lo : Option Nat
  hi : Option Nat
  deriving DecidableEq, Repr

/-- A ply begun and not ended (R122 to R148): the task, its capture instant and tempo, whether the capture has ended,
whether it runs on the bank before a Castling, and its context. `regs` are G0 to G31, `ib` the module identifier of the
current instance, `link` the link stack (return address, instance), newest first. -/
structure Ply where
  comp : Nat
  engine : Nat
  entry : Nat
  cap : Nat
  tempo : Nat
  ready : Bool
  begun : Bool
  onOld : Bool
  regs : List Word64
  pc : Nat
  ib : Nat
  gb : Option Nat
  link : List (Nat × Nat)
  /-- Captured value and attributes (bit 0 FORCED, bit 1 STALE) of each input slot. -/
  ins : List (Word64 × Nat)
  /-- The points of the output set and their buffer entries. -/
  outPts : List Nat
  outs : List Word64
  sets : List PtWrite
  divz : Bool
  first : Bool
  cold : Bool
  stepped : Bool
  newBank : Bool
  tempoLow : Nat
  events : Nat
  /-- Time charged to the ply, in ps. -/
  charged : Nat
  waiting : Option FwAccess
  /-- It has stored to data already transferred (R186). -/
  lost : Bool
  /-- What floor time was stepped by since its capture: its timers are evaluated this much later (R328, log 19). -/
  lag : Nat := 0
  deriving DecidableEq, Repr

/-- What the module remembers of a task beside its entry: whether TEMPO_COUNT counts, the first and new-bank marks, the
floor times of the last flag-fall and trap events with what came since (R128, R166), whether its exchange is over. -/
structure TaskRun where
  counting : Bool := false
  first : Bool := true
  newBank : Bool := false
  /-- No boundary before this floor time starts a ply (R36, R134, R141). -/
  from_ : Nat := 0
  warnAt : Option Nat := none
  warnSince : Nat := 0
  trapAt : Option Nat := none
  trapSince : Nat := 0
  moved : Bool := false
  deriving DecidableEq, Repr

/-- The MRAM retained record (R139): completion marker, low 32 bits of the image hash, ranges as (instance index,
offset, bytes). -/
structure Retained where
  marked : Bool
  hash : Nat
  data : List (Nat × Nat × Bytes)
  deriving DecidableEq, Repr

/-- A stop in progress (R131): its instant, reason, plies abandoned. -/
structure Stopping where
  at_ : Nat
  reason : Nat
  plies : Nat
  deriving DecidableEq, Repr

/-- A start in progress (R140, R141): acceptance, the kind asked for, who asked. -/
structure Starting where
  at_ : Nat
  cold : Bool
  byOwner : Bool
  deriving DecidableEq, Repr

/-- One compartment's program. `cur` is in force, `old` the bank before an exchange not yet over, `moved` the instances
of the new image already transferred. `lastOut` holds the program's own value of each output point. -/
structure CompScan where
  cur : Option Prog := none
  old : Option Prog := none
  moved : List Nat := []
  lastOut : Tab Nat := []
  shadow : List (Nat × Nat × Bytes) := []
  kept : Option Retained := none
  stopping : Option Stopping := none
  starting : Option Starting := none
  /-- In HOLD by its own command (R137). -/
  ownHold : Bool := false
  /-- CMD_SCAN_STEP: engine, entry, plies still to run. -/
  step : Option (Nat × Nat × Nat) := none
  /-- A cold start was asked for in a mode in which only the intent is set (R137). -/
  coldAsked : Bool := false
  deriving DecidableEq, Repr

/-- One scan engine: charges in ps and shares of the present budget window, the compartments that reached their
allowance, the ply it ran last, and the floor time at which the present window began. -/
structure Engine where
  used : Tab Nat := []
  shares : Option (List Nat) := none
  reached : List Nat := []
  last : Option (Nat × Nat) := none
  since : Option Nat := none
  deriving DecidableEq, Repr

/-- The scan engines and the process image's capture hold with the writes queued during it, group by group (R122). -/
structure Scan where
  progs : Tab CompScan := []
  tasks : Tab TaskRun := []
  plies : List Ply := []
  e0 : Engine := {}
  e1 : Engine := {}
  hold : Option Nat := none
  queued : List (List PtWrite) := []
  deriving DecidableEq, Repr

/-! ### Metering (spec/08, spec/09) -/

/-- Running sums of a cycle or capture as binary64 bit patterns: v·i, vq·i, i², v², and the samples summed (R209). -/
structure Sums where
  vi : Nat := 0
  vqi : Nat := 0
  i2 : Nat := 0
  v2 : Nat := 0
  n : Nat := 0
  deriving DecidableEq, Repr

/-- The four accumulators in units of 2^-24 mWh or mvarh: import, export, inductive, capacitive (R223). -/
structure Acc where
  imp : Nat := 0
  exp : Nat := 0
  ind : Nat := 0
  cap : Nat := 0
  deriving DecidableEq, Repr

/-- A current channel: accumulators now and at the previous latch, the sums of its cycle, whether a cycle is open and
whether it is a partial one, clip, the integrator's memory and compensation, and the latch interval's counts. -/
structure MChan where
  acc : Acc := {}
  prev : Acc := {}
  sums : Sums := {}
  isOpen : Bool := false
  split : Bool := false
  clip : Bool := false
  mem : Nat := 0
  startAt : Nat := 0
  cycles : Nat := 0
  anyCreep : Bool := false
  anyClip : Bool := false
  deriving DecidableEq, Repr

/-- A circuit: accumulators, the interval's counts, and the mean powers of its last closed cycle in mW and mvar. -/
structure MCirc where
  acc : Acc := {}
  prev : Acc := {}
  cycles : Nat := 0
  anyCreep : Bool := false
  anyClip : Bool := false
  pMean : Int := 0
  qMean : Int := 0
  deriving DecidableEq, Repr

/-- A voltage event in progress: 1 sag, 2 swell, 3 loss, 4 missing neutral, 5 sequence; phase (0 set-wide), start,
extreme value in mV (R237 to R239). -/
structure VoltEvent where
  kind : Nat
  phase : Nat
  start : Nat
  extreme : Nat
  deriving DecidableEq, Repr

/-- A voltage set: whether a cycle is open and one has been completed, pseudo-cycles, sums of squares of L1 to L3 to
neutral and of N to PE, samples, clip, the filters' memories, the first sample's instant, missing-neutral runs, and the
events in progress. -/
structure MSet where
  isOpen : Bool := false
  complete : Bool := false
  crossed : Bool := false
  pseudo : Bool := false
  v2 : List Nat := [0, 0, 0, 0]
  n : Nat := 0
  clip : Bool := false
  shift : List Nat := [0, 0, 0, 0]
  quad : List Nat := [0, 0, 0]
  nmissRun : Nat := 0
  nmissEnd : Nat := 0
  events : List VoltEvent := []
  deriving DecidableEq, Repr

/-- A pulse output: residue in accumulator units, the end of the running pulse, whether the open time after a pulse is
still running (until `openUntil`), and whether BACKLOG stands above its limit. -/
structure Pulse where
  residue : Nat := 0
  endAt : Option Nat := none
  openUntil : Nat := 0
  above : Bool := false
  deriving DecidableEq, Repr

/-- A calibration capture: its sums (R211). -/
structure MCal where
  sums : Sums := {}
  deriving DecidableEq, Repr

/-- A waveform recording: the set and channels, and the sample rows so far; the last completed one (R213). -/
structure Wave where
  set : Nat := 0
  chans : List Nat := []
  rows : List (List Int) := []
  done : List (List Int) := []
  deriving DecidableEq, Repr

/-- A sealed record without its signature, the instant of its latch, and the signature where it has one (R247). -/
structure SealRec where
  seq : Nat
  time : Nat
  body : Bytes
  sig : Option Bytes
  deriving DecidableEq, Repr

/-- A gap whose entry is completed at the first crossing of the next acquisition: its kind, start, end where it is
known, whether it is estimated, and the entry written already (R234). -/
structure Gap where
  kind : Nat
  start : Nat
  fin : Option Nat := none
  est : Bool := false
  entry : Option Nat := none
  deriving DecidableEq, Repr

/-- A commit record of the energy (R232). -/
structure EnergyCommit where
  time : Nat := 0
  chans : Tab Acc := []
  circs : Tab Acc := []
  pulses : Tab (Nat × Nat) := []
  seq : Nat := 0
  count : Nat := 0
  pMean : Tab Int := []
  deriving DecidableEq, Repr

/-- The metering engine. `count` is the closures since the last latch or restart, `latchDue` the instant of an N-th
closure not yet latched, `accStart` the instant the present acquisition's first cycle opened, `stoppedAt` when it last
stopped, and `steps` the floor-time steps (S, Δ) since floor time last restarted (R328). -/
structure Mae where
  chans : Tab MChan := []
  circs : Tab MCirc := []
  sets : Tab MSet := []
  pulses : Tab Pulse := []
  cal : MCal := {}
  wave : Wave := {}
  rings : Tab (List SealRec) := []
  count : Nat := 0
  latchDue : Option Nat := none
  resumed : Bool := false
  gap : Bool := false
  accStart : Option Nat := none
  stoppedAt : Option Nat := none
  gaps : List Gap := []
  commit : EnergyCommit := {}
  steps : List (Nat × Nat) := []
  deriving DecidableEq, Repr

/-! ### Field bus (spec/10, spec/11) -/

/-- A receive element (Table 10-12). -/
structure CanElem where
  id : Nat
  xtd : Bool
  dlc : Nat
  fdf : Bool
  brs : Bool
  esi : Bool
  rtr : Bool
  filter : Nat
  stamp : Nat
  epoch : Nat
  seq : Nat
  data : Bytes
  deriving DecidableEq, Repr

/-- What a TX buffer's request carries beside its fields: failed attempts, one further transmission due (R262), a cancel
that waits for the attempt (R268), the copy that is sent with the instant of its selection (R263), the data composed last
(R267), and the last record of trigger 0x0601 with the failures since (R266). -/
structure TxReq where
  failures : Nat := 0
  again : Bool := false
  cancel : Bool := false
  copy : Option CanFrame := none
  selected : Nat := 0
  composed : Option Nat := none
  logAt : Option Nat := none
  logSince : Nat := 0
  deriving DecidableEq, Repr

/-- A CAN port: FIFO contents and sequences, requests, the buffer in arbitration, entries into BUS_OFF of the last 60 s,
the bystander count with its identifier and format (R288), and the last rate-limited records. -/
structure CanPort where
  fifos : Tab (List CanElem) := []
  seqs : Tab Nat := []
  reqs : Tab TxReq := []
  arb : Option Nat := none
  busoffs : List Nat := []
  disturbed : Option (Nat × Bool) := none
  count : Nat := 0
  distLogAt : Option Nat := none
  fwLogAt : Option Nat := none
  deriving DecidableEq, Repr

/-- The FBC: its ports, and the bank before the last Castling with its instant (R116). -/
structure Fbc where
  ports : Tab CanPort := []
  old : Option (Nat × Cells) := none
  deriving DecidableEq, Repr

/-! ### Network and legacy ports (spec/12) -/

/-- An entry of the address table (R302): VID, MAC address, the NSW port, and when it was last heard. -/
structure MacEntry where
  vid : Nat
  mac : Nat
  port : Nat
  seen : Nat
  deriving DecidableEq, Repr

/-- A VLAN entry's token bucket (R303): thousandths of a bit that were missing from a full bucket at an instant. -/
structure Bucket where
  missing : Nat := 0
  at_ : Nat := 0
  deriving DecidableEq, Repr

/-- A cage (R299, R307, R308): link, last frame, start of its second of group frames and how many passed in it. -/
structure Cage where
  link : Bool := false
  lastFrame : Option Nat := none
  groupAt : Nat := 0
  groups : Nat := 0
  deriving DecidableEq, Repr

/-- What the firmware remembers of a service entry (R311, R312): a COV subscription, the last value sent with its
instant, and the priority array of a commandable object. -/
structure Service where
  subscribed : Bool := false
  last : Option (Nat × Nat) := none
  prio : List (Option Nat) := []
  deriving DecidableEq, Repr

/-- The switch: address table, buckets by VLAN entry, cages, duplicate entries (source, sequence, instant), PRP nodes
(MAC, last heard) (R306), services by entry. -/
structure Nsw where
  macs : List MacEntry := []
  buckets : Tab Bucket := []
  cageA : Cage := {}
  cageB : Cage := {}
  dups : List (Nat × Nat × Nat) := []
  nodes : List (Nat × Nat) := []
  services : Tab Service := []
  deriving DecidableEq, Repr

/-- A transaction in flight on its settings (R314, R315, R323): mapping, start of the attempt, retries left, timeout in
ms, owner and what the mapping said. -/
structure LbxTxn where
  map : Nat
  at_ : Nat
  left : Nat
  timeout : Nat
  owner : Nat
  mode : Nat
  point : Nat
  write : Bool
  format : Nat
  addr : Nat
  select : Nat
  bytes : Bytes
  deriving DecidableEq, Repr

/-- A legacy port: whether it runs, the transactions waiting as (due, mapping), the one in flight, the end of the
quiet time after a broadcast, the end of an M-Bus cut-off, and the next MS/TP station. -/
structure LbxPort where
  running : Bool := false
  waiting : List (Nat × Nat) := []
  cur : Option LbxTxn := none
  quietUntil : Nat := 0
  cutOff : Option Nat := none
  nextStation : Option Nat := none
  deriving DecidableEq, Repr

/-- The legacy bus block: its ports, and the value each write mapping sent last. -/
structure Lbx where
  ports : Tab LbxPort := []
  sentValue : Tab (Option Nat) := []
  deriving DecidableEq, Repr

/-! ### Keys (spec/15) -/

/-- A Key Update Message that waits for the KSE (R373): whose request it is, and its 384 bytes. -/
structure KumJob where
  sid : Nat
  seq : Nat
  comp : Nat
  kum : Bytes
  deriving DecidableEq, Repr

/-- The KSE beside its descriptors: the material each slot holds, the messages waiting, and the orphaned slots with the
floor time of their orphaning (R376). -/
structure Kse where
  keys : Tab Bytes := []
  /-- Slots that read EMPTY until the next boot (Table 18-3): slot, its descriptor's eight fields, its key. -/
  hidden : List (Nat × List Nat × Bytes) := []
  jobs : List KumJob := []
  orphans : List (Nat × Nat) := []
  deriving DecidableEq, Repr

/-! ### Firmware update (spec/17) -/

/-- A part of a firmware set: its version, its SHA-384, and the versions of parts 2 to 6 it works with (Table 17-2). -/
structure FwPart where
  version : Nat := 0
  hash : Bytes := []
  partners : List (Nat × Nat) := []
  deriving DecidableEq, Repr

/-- What a firmware slot holds beside its descriptor: build hash, package FLAGS, and its parts. -/
structure FwSlot where
  build : Bytes := []
  flags : Nat := 0
  parts : Tab FwPart := []
  deriving DecidableEq, Repr

/-- The update: the owning session and the one that owned until T_U, the floor times of the ownership and of its last
command, the receiving slot, the manifest and the package bytes received, the pending activation and its limit, the
in-service step in progress (0 none) and its start, whether it falls back and why, the parts switched (newest first), a
reset that is due, whether one has taken place since T_U, the operating second at which the trial or adjournment ends, the
instant the sealed move was armed, the floor time of entry to M3, whether this boot reached its resume mode, the two
slots, the parts running, the manifests of the adjournment records, and the last frame in recovery. -/
structure Upd where
  owner : Option Nat := none
  lastOwner : Option Nat := none
  ownerSince : Nat := 0
  lastCmd : Nat := 0
  recv : Nat := 1
  manifest : Bytes := []
  data : List Host.Cell := []
  activateAt : Option Nat := none
  limit : Nat := 0
  step : Nat := 0
  stepAt : Nat := 0
  back : Bool := false
  cause : Nat := 0
  switched : List Nat := []
  resetAt : Option Nat := none
  wasReset : Bool := false
  deadline : Option Nat := none
  armedAt : Option Nat := none
  bootAt : Nat := 0
  resumed : Bool := true
  slots : Tab FwSlot := []
  running : Tab FwPart := []
  records : Tab Bytes := []
  lastFrame : Nat := 0
  deriving DecidableEq, Repr

/-! ### Memories (spec/18) -/

/-- A march test on request (R432): bank, preserving or not, start, and the request that asked. -/
structure MteTest where
  bank : Nat
  preserving : Bool
  at_ : Nat
  deriving DecidableEq, Repr

/-! ### Performance monitor (spec/19) -/

/-- A sampled op that waits for its record (R447): engine, code offset, op word, compartment, entry, instance. -/
structure Sampled where
  engine : Nat
  pc : Nat
  op : Nat
  comp : Nat
  entry : Nat
  inst : Nat
  deriving DecidableEq, Repr

/-- The count of a programmable counter (R438): VALUE, WRAPS and OVF. -/
structure PerfCnt where
  value : Nat := 0
  wraps : Nat := 0
  ovf : Bool := false
  deriving DecidableEq, Repr

/-- PMON: the programmable counts by 8 × unit + counter, the cycles of each unit in millionths up to floor time `cycAt`,
the dump ring and sample buffer as (SEQ, bytes) oldest first with the last SEQ given, the ring's capacity, the sampler's
LFSR, countdowns and sampled ops, the instant of the last freeze. -/
structure Pmon where
  cnts : Tab PerfCnt := []
  cyc : Tab Nat := []
  cycAt : Nat := 0
  dump : List (Nat × Bytes) := []
  dumpSeq : Nat := 0
  dumpCap : Nat := 0
  samp : List (Nat × Bytes) := []
  sampSeq : Nat := 0
  lfsr : Nat := 1
  counts : List Nat := [0, 0]
  sampled : List Sampled := []
  lastFreeze : Option Nat := none
  deriving DecidableEq, Repr

/-! ### Ageing monitor (spec/20) -/

/-- A re-plan (R460, R461): clock, guard band, commit interval, TDCO of ports, its kind, whether it is visible to tenants,
and once committed its instant and Castling. -/
structure Replan where
  clk : Nat
  gb : Nat
  commitMs : Nat
  tdco : List (Nat × Nat)
  urgent : Bool
  visible : Bool
  tC : Nat := 0
  id : Nat := 0
  oldClk : Nat := 0
  oldGb : Nat := 0
  deriving DecidableEq, Repr

/-- The AGM: canary results (floor time, slack, canary) and the temperatures, droops and TDC values of 7 days, the daily
worst values for the projections (day, value), the TCXO readings of 24 h, MEM_CE of the MRAM at the last daily measurement,
the measurement running, the re-plan pending or refused with the instant of its retry, the instant the last normal step
applied, and the limits now crossed. -/
structure Agm where
  canaries : List (Nat × Nat × Nat) := []
  temps : List (Nat × Nat) := []
  droops : List (Nat × Nat) := []
  tdcv : Tab (List (Nat × Nat)) := []
  slackDays : List (Nat × Nat) := []
  availDays : List (Nat × Nat) := []
  cellDays : List (Nat × Nat) := []
  rintDays : List (Nat × Nat) := []
  drift : List (Nat × Nat) := []
  ceAt : Nat := 0
  running : Option Nat := none
  plan : Option Replan := none
  retryAt : Option Nat := none
  refused : Bool := false
  lastNormal : Option Nat := none
  crossed : List Nat := []
  deriving DecidableEq, Repr

/-! ### The whole machine -/

/-- The state of the block. -/
structure State where
  floorTime : Nat := 0
  regs : Cells := []
  power : Power := {}
  conns : List Conn := []
  sessions : List Session := []
  waiters : List Waiter := []
  sent : List Out := []
  mbx : Mbx := {}
  evr : Evr := {}
  rtc : Rtc := {}
  ptp : Ptp := {}
  lcy : Lcy := {}
  stagings : Tab Staging := []
  castlings : List Castling := []
  /-- The identifier the next Castling takes (R106, log 9). -/
  castNext : Nat := 1
  /-- Settings that a failed unit takes at the next boot (R111). -/
  castBoot : Cells := []
  scan : Scan := {}
  mae : Mae := {}
  fbc : Fbc := {}
  nsw : Nsw := {}
  lbx : Lbx := {}
  kse : Kse := {}
  upd : Upd := {}
  /-- The march test in progress (R432). -/
  mte : Option MteTest := none
  pmon : Pmon := {}
  agm : Agm := {}
  /-- The captured high halves of 64-bit objects, at most one per requester (R4): object address and half. -/
  captures : List (Requester × Nat × Nat) := []
  /-- The MODEL's own field: the count from which free values are drawn (log 1). -/
  free : Nat := 0
  /-- The queue of commands that are waiting, first in, first out. -/
  pending : List Instr := []
  deriving DecidableEq, Repr

/-- The stored fields that are not at their reset value at the first entry to M3: IDENT_ORDER_CODE "AXZ-FCM48-A" (Table
4-3), IDENT_MODE 3, LCY_WIPED_STATE 1 and UPD_SLOT_A VALID (log 6). -/
def resetCells : Cells :=
  [({ bank := 0, bit := 0x80, width := 32, reset := 0, keep := .plat }, 0x2d5a5841),
   ({ bank := 0, bit := 0xa0, width := 32, reset := 0, keep := .plat }, 0x344d4346),
   ({ bank := 0, bit := 0xc0, width := 32, reset := 0, keep := .plat }, 0x412d38),
   ({ bank := 0, bit := 0x140, width := 4, reset := 0, keep := .vol }, 3),
   ({ bank := 0, bit := 0x400180, width := 3, reset := 0, keep := .plat }, 1),
   ({ bank := 0, bit := 0x480800, width := 1, reset := 0, keep := .plat }, 1)]

/-- The machine right after reset, at the entry to M3 of the first boot after MANUFACTURED (logs 5 to 9). -/
def State.reset : State := { regs := resetCells }

end Sys2Proof.Machine
end

