-- ==== Sys2Proof/Machine/Image.lean ====
section
/-!
DEFINITION. The Axzil Scan Image, format version 3: reading its sections, and the loader checks of Table 6-19
(spec/06 R150, R154, R161, R162, R167 to R173). A failing check answers its detail code and section index.
-/
namespace Sys2Proof.Machine

/-- `n` bytes from address `a` of a sorted cell list; an unlisted byte is 0. -/
def flat : Nat → Nat → List Host.Cell → Bytes
  | _, 0, _ => []
  | a, n + 1, [] => 0 :: flat (a + 1) n []
  | a, n + 1, (k, b) :: r => if k = a then b :: flat (a + 1) n r else 0 :: flat (a + 1) n ((k, b) :: r)

/-- The bytes of a staged image. -/
def ImageData.bytes (d : ImageData) : Bytes := flat 0 d.size d.data

/-- Cut a byte string into `k` entries of `n` bytes. -/
def chunks (n : Nat) : Nat → Bytes → List Bytes
  | 0, _ => []
  | k + 1, bs => bs.take n :: chunks n k (bs.drop n)

def allZero (bs : Bytes) : Bool := bs.all (· == 0)

/-- Whether no element occurs twice. -/
def distinct [DecidableEq α] : List α → Bool
  | [] => true
  | x :: r => ! r.contains x && distinct r

/-- Whether no two of a list of (start, length) ranges overlap. -/
def disjoint : List (Nat × Nat) → Bool
  | [] => true
  | (o, n) :: r => (r.all fun p => decide (o + n ≤ p.1) || decide (p.1 + p.2 ≤ o)) && disjoint r

/-! ### Sections -/

/-- A section table entry (Table 6-13). -/
structure Sec where
  ix : Nat
  type : Nat
  optional : Bool
  rsvd : Nat
  off : Nat
  size : Nat
  count : Nat
  deriving DecidableEq, Repr

/-- Entry sizes of Table 6-14; none for a section not made of entries. -/
def entrySize (type : Nat) : Option Nat :=
  match type with
  | 1 => some 4 | 2 => some 8 | 3 => some 16 | 4 => some 32 | 5 => some 16 | 6 => some 8 | 7 => some 16
  | 9 => some 16 | 10 => some 32 | 11 => some 2 | _ => none

/-- The file and its section table. -/
structure Raw where
  bytes : Bytes
  secs : List Sec
  deriving DecidableEq, Repr

def readSecs (bs : Bytes) : Nat → Nat → List Sec
  | _, 0 => []
  | i, n + 1 =>
    let a := 0x40 + 16 * i
    { ix := i, type := field bs a 2 % 32768, optional := bit (field bs a 2) 15, rsvd := field bs (a + 2) 2,
      off := field bs (a + 4) 4, size := field bs (a + 8) 4, count := field bs (a + 12) 4 } :: readSecs bs (i + 1) n

def Raw.of (bs : Bytes) : Raw := { bytes := bs, secs := readSecs bs 0 (min 32 (field bs 0xA 2)) }

def Raw.sec (r : Raw) (type : Nat) : Option Sec := r.secs.find? fun x => x.type == type

/-- The index a failing check reports for a section. -/
def Raw.ixOf (r : Raw) (type : Nat) : Nat := match r.sec type with | some x => x.ix | none => 0xFFFF

/-- The bytes of a section; none of an absent one. -/
def Raw.body (r : Raw) (type : Nat) : Bytes :=
  match r.sec type with | some x => (r.bytes.drop x.off).take x.size | none => []

/-- The entries of a section. -/
def Raw.rows (r : Raw) (type : Nat) : List Bytes :=
  match entrySize type with
  | some n => let b := r.body type; chunks n (b.length / n) b
  | none => []

def Raw.nums (r : Raw) (type : Nat) : List Nat := (r.rows type).map unle

/-! ### Entries (Tables 6-15, 6-16) -/

def Raw.code (r : Raw) : List Nat := r.nums 1
def Raw.consts (r : Raw) : List Nat := r.nums 2
def Raw.funcs (r : Raw) : List ImgFunc :=
  (r.rows 3).map fun b => { off := field b 0 4, size := field b 4 4, typeIx := field b 8 2 }

/-- The n-th type's variables with their own entries. -/
def Raw.varRows (r : Raw) (ty : Bytes) : List Bytes := ((r.rows 7).drop (field ty 0x10 4)).take (field ty 0x14 4)

def Raw.sym (r : Raw) (ix : Nat) : Nat := (r.nums 6).getD ix 0

def Raw.vars (r : Raw) (ty : Bytes) : List ImgVar :=
  (r.varRows ty).map fun b =>
    { name := r.sym (field b 0 4), off := field b 4 4, size := field b 8 4, dtype := field b 0xC 1,
      retained := bit (field b 0xD 1) 0 }

def Raw.types (r : Raw) : List ImgType :=
  (r.rows 4).map fun b =>
    { hash := field b 0 8, dataSize := field b 8 4, entry := field b 0xC 2, children := field b 0xE 2,
      vars := r.vars b }

def Raw.insts (r : Raw) : List ImgInst :=
  let tys := r.types
  (r.rows 5).map fun b =>
    { typeIx := field b 0 2, glob := bit (field b 2 2) 0, path := r.sym (field b 4 4), parent := field b 0xC 2,
      slot := field b 0xE 2,
      init := ((r.body 8).drop (field b 8 4)).take (match tys[field b 0 2]? with | some t => t.dataSize | none => 0) }

def Raw.tasks (r : Raw) : List ImgTask :=
  (r.rows 10).map fun b =>
    { engine := field b 0 1, entry := field b 1 1, watch := bit (field b 2 2) 0, tempo := field b 4 2,
      phase := field b 6 2, skipLimit := field b 8 2, root := field b 0xA 2,
      ins := ((r.nums 11).drop (field b 0xC 4)).take (field b 0x10 2),
      outs := ((r.nums 11).drop (field b 0x14 4)).take (field b 0x12 2) }

def Raw.retain (r : Raw) : List (Nat × Nat × Nat) := (r.rows 9).map fun b => (field b 0 2, field b 4 4, field b 8 4)

/-- The image a file that has passed the checks carries. -/
def Raw.image (r : Raw) : Image :=
  { comp := field r.bytes 8 1, size := r.bytes.length, hash := sha384 r.bytes, minUcode := field r.bytes 0x10 2,
    code := r.code, consts := r.consts, funcs := r.funcs, types := r.types, insts := r.insts, retain := r.retain,
    tasks := r.tasks }

/-! ### 0x0430 to 0x0432: the file -/

/-- The header is as Table 6-12 gives. -/
def Raw.headerOk (r : Raw) : Bool :=
  let b := r.bytes
  decide (64 ≤ b.length) && field b 0 4 == 0x49535841 && field b 4 2 == 3 && field b 6 2 == 64 &&
  field b 9 1 == 0 && field b 0xC 4 == b.length && decide (b.length ≤ 12582912) && field b 0x12 2 == 0 &&
  allZero ((b.drop 0x20).take 32) && decide (1 ≤ field b 0xA 2 ∧ field b 0xA 2 ≤ 32)

/-- One section entry by itself: inside the file, aligned, known or optional, and its SIZE that of its COUNT. -/
def Raw.secOk (r : Raw) (x : Sec) : Bool :=
  let known := decide (1 ≤ x.type ∧ x.type ≤ 12)
  x.rsvd == 0 && x.off % 16 == 0 && decide (0x40 + 16 * r.secs.length ≤ x.off) && decide (x.off + x.size ≤ r.bytes.length) &&
  (known || x.optional) &&
  (! known || (match entrySize x.type with | some n => x.size == x.count * n | none => x.count == 0)) &&
  (x.type != 2 || decide (x.count ≤ 2097152))

/-- The first bad section entry, or the header where the set as a whole is bad. -/
def Raw.sectionsBad (r : Raw) : Option Nat :=
  match r.secs.find? fun x => ! r.secOk x with
  | some x => some x.ix
  | none =>
    let spans := (r.secs.filter fun x => decide (0 < x.size)).map fun x => (x.off, x.size)
    if decide (0x40 + 16 * r.secs.length ≤ r.bytes.length) && disjoint spans && distinct (r.secs.map (·.type)) &&
       [1, 3, 4, 5, 6, 7, 8, 10, 11].all (fun t => (r.sec t).isSome) then none else some 0xFFFF

/-! ### 0x0433, 0x0434: code -/

/-- The fields of an op word (Table 6-1). -/
def opMajor (w : Nat) : Nat := w / 2 ^ 26
def opD (w : Nat) : Nat := bits w 21 5
def opA (w : Nat) : Nat := bits w 16 5
def opB (w : Nat) : Nat := bits w 11 5
def opFunc (w : Nat) : Nat := w % 2048
def opImm16 (w : Nat) : Nat := w % 65536

/-- Which of D, A and B a system call uses (Table 6-7). -/
def sysUses (f : Nat) : Option (Bool × Bool × Bool) :=
  match f with
  | 0 | 1 | 2 | 3 => some (true, true, true)
  | 0x10 | 0x11 | 0x12 | 0x14 => some (true, false, false)
  | 0x13 => some (true, true, false)
  | 0x1F => some (false, true, false)
  | _ => none

/-- Whether a word is an op: its major opcode and FUNC are defined and its unused fields are 0 (R150, Tables 6-2 to 6-7). -/
def isOp (w : Nat) : Bool :=
  match opMajor w with
  | 0x01 => decide (opFunc w % 1024 ≤ 0xF)
  | 0x02 | 0x03 | 0x04 | 0x05 => true
  | 0x06 | 0x07 => true
  | 0x08 | 0x09 => decide (opFunc w ≤ 8) && (opB w == 0 || decide (opFunc w ≤ 3) || opFunc w == 5 || opFunc w == 6)
  | 0x0A =>
    let f := opFunc w % 1024
    decide (f ≤ 6) && opB w == 0
  | 0x0B => decide (opFunc w % 1024 ≤ 5)
  | 0x0C => decide (opFunc w % 1024 ≤ 4)
  | 0x0E =>
    let p := opFunc w / 32
    match opFunc w % 32 with
    | 0 | 1 | 2 | 3 => opB w == 0
    | 4 | 5 | 6 => decide (p + opB w + 1 ≤ 64)
    | 7 | 8 => p == 0 && opB w == 0
    | _ => false
  | 0x28 | 0x2D => opD w == 0
  | 0x2C => opD w == 0 && opA w == 0
  | 0x2F => w % 2 ^ 26 == 0
  | 0x30 => match sysUses (opFunc w) with
    | some (d, a, b) => (d || opD w == 0) && (a || opA w == 0) && (b || opB w == 0)
    | none => false
  | m => decide (0x10 ≤ m ∧ m ≤ 0x22) || decide (0x24 ≤ m ∧ m ≤ 0x27) || m == 0x2E

/-- The ops of a function with their code offsets. -/
def Image.ops (g : Image) (f : ImgFunc) : List (Nat × Nat) :=
  (List.range (f.size / 4)).map fun k => (f.off + 4 * k, g.code.getD (f.off / 4 + k) 0)

/-- `pc` plus a signed word offset. -/
def target (pc w n : Nat) : Int := pc + 4 * sgn n (w % 2 ^ n)

/-- Whether an address lies in a function. -/
def ImgFunc.holds (f : ImgFunc) (a : Int) : Bool := decide ((f.off : Int) ≤ a ∧ a < f.off + f.size)

/-- The function whose first op is at an address. -/
def Image.funcAt (g : Image) (a : Int) : Option Nat := g.funcs.findIdx? fun f => (f.off : Int) == a

/-- The targets of a BTAB: constant `k` counts the signed offsets that follow it (R154). -/
def Image.tableTargets (g : Image) (pc k : Nat) : List Int :=
  ((g.consts.drop (k + 1)).take (g.consts.getD k 0)).map fun o => (pc : Int) + 4 * sgn 64 o

/-- One op of function `f` obeys R154 and names constants and types that exist. -/
def Image.opOk (g : Image) (f : ImgFunc) (p : Nat × Nat) : Bool :=
  let pc := p.1
  let w := p.2
  match opMajor w with
  | 0x07 => decide (w % 2 ^ 21 < g.consts.length)
  | 0x24 => f.holds (target pc w 26)
  | 0x25 | 0x26 | 0x27 => f.holds (target pc w 21)
  | 0x28 => decide (opImm16 w < g.consts.length ∧ opImm16 w + g.consts.getD (opImm16 w) 0 < g.consts.length) &&
      (g.tableTargets pc (opImm16 w)).all f.holds
  | 0x2D => decide (opImm16 w < g.types.length)
  | 0x2E => (g.funcAt (target pc w 26)).isSome
  | _ => true

/-- The functions a function calls by CALL. -/
def Image.calls (g : Image) (i : Nat) : List Nat :=
  match g.funcs[i]? with
  | some f => (g.ops f).filterMap fun p => if opMajor p.2 = 0x2E then g.funcAt (target p.1 p.2 26) else none
  | none => []

/-- The functions reached from a list by CALL, within `fuel` rounds. -/
def Image.reach (g : Image) : Nat → List Nat → List Nat
  | 0, l => l
  | n + 1, l => g.reach n (l.foldl (fun a i => (g.calls i).foldl (fun b j => if b.contains j then b else b ++ [j]) a) l)

def Image.closure (g : Image) (l : List Nat) : List Nat := g.reach g.funcs.length l

/-- The child indices (major 0x2C) or type indices (0x2D) a function's calls name. -/
def Image.named (g : Image) (major i : Nat) : List Nat :=
  match g.funcs[i]? with
  | some f => (g.ops f).filterMap fun p => if opMajor p.2 = major then some (opImm16 p.2) else none
  | none => []

/-- The functions whose TYPE_IX is a type. -/
def Image.entriesOf (g : Image) (t : Nat) : List Nat :=
  (List.range g.funcs.length).filter fun i => match g.funcs[i]? with | some f => f.typeIx == t | none => false

/-- Functions lie inside CODE and apart; every op's operands exist (0x0434). -/
def Raw.flowOk (r : Raw) (g : Image) : Bool :=
  (r.rows 3).all (fun b => allZero (b.drop 0xA)) &&
  g.funcs.all (fun f => f.off % 4 == 0 && f.size % 4 == 0 && decide (4 ≤ f.size ∧ f.off + f.size ≤ 4 * g.code.length) &&
    (f.typeIx == 0xFFFF || decide (f.typeIx < g.types.length))) &&
  disjoint (g.funcs.map fun f => (f.off, f.size)) &&
  g.funcs.all (fun f => (g.ops f).all (g.opOk f)) &&
  (List.range g.types.length).all (fun t => match g.types[t]? with
    | some ty => (g.closure (g.entriesOf t)).all fun i => (g.named 0x2C i).all fun c => decide (c < ty.children)
    | none => true)

/-! ### 0x0435 to 0x0439: types, instances, names, data -/

/-- Size and alignment a DTYPE fixes (R168); none for an unknown one. BYTES has no fixed size. -/
def dtypeShape (d children : Nat) : Option (Option Nat × Nat) :=
  match d with
  | 1 | 2 | 3 => some (some 1, 1)
  | 4 | 5 => some (some 2, 2)
  | 6 | 7 | 10 => some (some 4, 4)
  | 8 | 9 | 11 => some (some 8, 8)
  | 0x10 => some (some 16, 8)
  | 0x11 => some (some 8, 8)
  | 0x12 => some (some (2 * children), 2)
  | 0x20 => some (none, 1)
  | _ => none

def dtTimer : Nat := 0x10
def dtEdge : Nat := 0x11
def dtChild : Nat := 0x12

/-- A variable obeys R168. -/
def ImgType.varOk (t : ImgType) (v : ImgVar) : Bool :=
  match dtypeShape v.dtype t.children with
  | some (n, al) => (match n with | some k => v.size == k | none => true) && decide (1 ≤ v.size) &&
      v.off % al == 0 && decide (v.off + v.size ≤ t.dataSize)
  | none => false

/-- A type obeys R168 and its entry is a function of that type (0x0435). -/
def Image.typeOk (g : Image) (i : Nat) (t : ImgType) : Bool :=
  t.dataSize % 8 == 0 && decide (t.dataSize ≤ 262144) &&
  (match g.funcs[t.entry]? with | some f => f.typeIx == i | none => false) &&
  t.vars.all t.varOk && disjoint (t.vars.map fun v => (v.off, v.size)) &&
  ((t.vars.filter fun v => v.dtype == dtChild).map (·.off)) == (if t.children = 0 then [] else [0])

def Raw.typesOk (r : Raw) (g : Image) : Bool :=
  (r.rows 4).all (fun b => field b 0x1C 4 == 0 && decide (field b 0x18 4 < (r.nums 6).length) &&
    decide (field b 0x10 4 + field b 0x14 4 ≤ (r.rows 7).length)) &&
  (r.rows 7).all (fun b => field b 0xD 3 / 2 == 0 && decide (field b 0 4 < (r.nums 6).length)) &&
  ((List.range g.types.length).zip g.types).all fun p => g.typeOk p.1 p.2

/-- The instance in a slot of a parent's child table. -/
def Image.child (g : Image) (i slot : Nat) : Option Nat := g.insts.findIdx? fun x => x.parent == i && x.slot == slot

/-- The chain of parents from an instance ends within `fuel` steps. -/
def Image.rooted (g : Image) : Nat → Nat → Bool
  | 0, _ => false
  | n + 1, i => match g.insts[i]? with
    | some x => x.parent == 0xFFFF || g.rooted n x.parent
    | none => false

/-- The root of an instance's tree. -/
def Image.rootOf (g : Image) : Nat → Nat → Nat
  | 0, i => i
  | n + 1, i => match g.insts[i]? with
    | some x => if x.parent = 0xFFFF then i else g.rootOf n x.parent
    | none => i

def Image.root (g : Image) (i : Nat) : Nat := g.rootOf g.insts.length i

/-- One instance of a tree (0x0436). -/
def Image.instOk (g : Image) (i : Nat) (x : ImgInst) : Bool :=
  decide (x.typeIx < g.types.length) &&
  (if x.parent = 0xFFFF then
     x.slot == 0xFFFF && (x.glob || (g.tasks.filter fun t => t.root == i).length == 1)
   else
     ! x.glob && x.parent != i && (match (g.insts[x.parent]?).bind fun y => g.types[y.typeIx]? with
       | some ty => decide (x.slot < ty.children)
       | none => false)) &&
  g.rooted (g.insts.length + 1) i &&
  (match g.types[x.typeIx]? with
   | some ty => (List.range ty.children).all fun k => (g.insts.filter fun y => y.parent == i && y.slot == k).length == 1
   | none => false)

def Raw.treesOk (r : Raw) (g : Image) : Bool :=
  (r.rows 5).all (fun b => field b 2 2 / 2 == 0 && decide (field b 4 4 < (r.nums 6).length)) &&
  ((List.range g.insts.length).zip g.insts).all (fun p => g.instOk p.1 p.2) &&
  decide ((g.insts.filter (·.glob)).length ≤ 1) &&
  g.tasks.all fun t => match g.insts[t.root]? with | some x => x.parent == 0xFFFF && ! x.glob | none => false

/-- No two paths, and no two names within a type, share a hash (0x0437). -/
def Image.namesOk (g : Image) : Bool :=
  distinct (g.insts.map (·.path)) && g.types.all fun t => distinct (t.vars.map (·.name))

/-- A variable's initial data obeys R161, R162 and R168 (0x0438). -/
def Image.initVarOk (g : Image) (i : Nat) (x : ImgInst) (v : ImgVar) : Bool :=
  if v.dtype = dtTimer then
    let w := field x.init v.off 8
    bits w 40 2 != 3 && bits w 48 4 == 0 && field x.init (v.off + 8) 8 == 0
  else if v.dtype = dtEdge then bit (field x.init v.off 8) 1
  else if v.dtype = dtChild then
    (List.range (v.size / 2)).all fun k => g.child i k == some (field x.init (v.off + 2 * k) 2)
  else true

def Image.initOk (g : Image) : Bool :=
  ((List.range g.insts.length).zip g.insts).all fun p => match g.types[p.2.typeIx]? with
    | some t => p.2.init.length == t.dataSize && t.vars.all (g.initVarOk p.1 p.2)
    | none => false

/-- Whether a range touches, or covers, a variable. -/
def touches (v : ImgVar) (q : Nat × Nat) : Bool := decide (q.1 < v.off + v.size ∧ v.off < q.1 + q.2)
def covers (v : ImgVar) (q : Nat × Nat) : Bool := decide (q.1 ≤ v.off ∧ v.off + v.size ≤ q.1 + q.2)

/-- The retained ranges of an instance. -/
def Image.rangesOf (g : Image) (i : Nat) : List (Nat × Nat) := (g.retain.filter fun x => x.1 == i).map (·.2)

/-- Retained ranges cover exactly the RETAINED variables (0x0439). -/
def Raw.retainOk (r : Raw) (g : Image) : Bool :=
  (r.rows 9).all (fun b => field b 2 2 == 0 && field b 0xC 4 == 0) &&
  g.retain.all (fun x => x.2.1 % 8 == 0 && x.2.2 % 8 == 0 && (match (g.insts[x.1]?).bind fun y => g.types[y.typeIx]? with
    | some t => decide (x.2.1 + x.2.2 ≤ t.dataSize) | none => false)) &&
  ((List.range g.insts.length).zip g.insts).all fun p =>
    let rs := g.rangesOf p.1
    disjoint rs && (match g.types[p.2.typeIx]? with
      | some t => t.vars.all fun v =>
          if v.retained then ! (v.dtype == dtTimer || v.dtype == dtEdge || v.dtype == dtChild) && rs.any (covers v)
          else ! rs.any (touches v)
      | none => false)

/-! ### 0x043A to 0x043E: tasks, points, slots, call depth -/

def Raw.tasksOk (r : Raw) (g : Image) : Bool :=
  (r.rows 10).all (fun b => field b 2 2 / 2 == 0 && field b 0x18 8 == 0 && decide (field b 0x10 2 ≤ 4096) &&
    decide (field b 0x12 2 ≤ 2048)) &&
  g.tasks.all (fun t => decide (t.engine ≤ 1 ∧ t.entry ≤ 15 ∧ 1 ≤ t.tempo ∧ t.tempo ≤ 10000 ∧ t.phase ≤ 9999)) &&
  distinct (g.tasks.map fun t => (t.engine, t.entry))

def Raw.pointsOk (r : Raw) (g : Image) : Bool :=
  let n := (r.nums 11).length
  (r.rows 10).all (fun b => decide (field b 0xC 4 + field b 0x10 2 ≤ n) && decide (field b 0x14 4 + field b 0x12 2 ≤ n)) &&
  g.tasks.all fun t => t.ins.all (fun p => decide (p < 8192)) && t.outs.all (fun p => decide (p < 8192)) &&
    distinct t.ins && distinct t.outs

/-- The calls from one (instance, function): CALL stays in the instance; FBCALL goes to the child, FBCALLX to every
instance of the named type (0x043E). -/
def Image.edges (g : Image) (n : Nat × Nat) : List (Nat × Nat) :=
  let entryOf (j : Nat) : Option (Nat × Nat) := ((g.insts[j]?).bind fun y => g.types[y.typeIx]?).map fun t => (j, t.entry)
  ((g.calls n.2).map fun f => (n.1, f)) ++
  ((g.named 0x2C n.2).filterMap fun c => (g.child n.1 c).bind entryOf) ++
  ((g.named 0x2D n.2).flatMap fun ty =>
    ((List.range g.insts.length).filter fun j => match g.insts[j]? with | some y => y.typeIx == ty | none => false).filterMap
      entryOf)

/-- What is reached from a set of nodes, within `fuel` calls. -/
def Image.spread (g : Image) : Nat → List (Nat × Nat) → List (Nat × Nat)
  | 0, l => l
  | n + 1, l => g.spread n (l.foldl (fun a x => (g.edges x).foldl (fun b y => if b.contains y then b else b ++ [y]) a) l)

/-- The nodes exactly `k` calls away from a set. -/
def Image.after (g : Image) : Nat → List (Nat × Nat) → List (Nat × Nat)
  | 0, l => l
  | n + 1, l => g.after n (l.flatMap g.edges).eraseDups

def Image.rootNode (g : Image) (t : ImgTask) : Option (Nat × Nat) :=
  ((g.insts[t.root]?).bind fun y => g.types[y.typeIx]?).map fun ty => (t.root, ty.entry)

/-- The process-image ops with A = 0 that a task can reach name slots the task has (0x043D). -/
def Image.slotsOk (g : Image) (t : ImgTask) : Bool :=
  let ns := match g.rootNode t with | some n => g.spread (g.insts.length * g.funcs.length) [n] | none => []
  ns.all fun n => match g.funcs[n.2]? with
    | some f => (g.ops f).all fun p =>
        let m := opMajor p.2
        if 0x10 ≤ m ∧ m ≤ 0x13 ∧ opA p.2 = 0 then
          decide (uns 64 (sgn 16 (opImm16 p.2)) < (if m = 0x10 ∨ m = 0x13 then t.ins.length else t.outs.length))
        else true
    | none => true

/-- No cycle and no path of more than 16 calls: nothing is 17 calls away from a root (0x043E). -/
def Image.depthOk (g : Image) (t : ImgTask) : Bool :=
  match g.rootNode t with | some n => (g.after 17 [n]).isEmpty | none => true

/-! ### The loader -/

/-- The first failing check: detail code and section index (Table 6-19); none where the image passes. -/
def Raw.check (r : Raw) (comp ucode : Nat) : Option (Nat × Nat) :=
  if ! r.headerOk then some (0x0430, 0xFFFF)
  else if field r.bytes 8 1 ≠ comp then some (0x0431, 0xFFFF)
  else match r.sectionsBad with
  | some ix => some (0x0432, ix)
  | none =>
    let g := r.image
    if ! g.code.all isOp then some (0x0433, r.ixOf 1)
    else if ! r.flowOk g then some (0x0434, r.ixOf 3)
    else if ! r.typesOk g then some (0x0435, r.ixOf 4)
    else if ! r.treesOk g then some (0x0436, r.ixOf 5)
    else if ! g.namesOk then some (0x0437, r.ixOf 6)
    else if ! g.initOk then some (0x0438, r.ixOf 8)
    else if ! r.retainOk g then some (0x0439, r.ixOf 9)
    else if ! r.tasksOk g then some (0x043A, r.ixOf 10)
    else if ! r.pointsOk g then some (0x043B, r.ixOf 11)
    else if g.minUcode > ucode then some (0x043C, 0xFFFF)
    else if ! g.tasks.all g.slotsOk then some (0x043D, r.ixOf 1)
    else if ! g.tasks.all g.depthOk then some (0x043E, r.ixOf 1)
    else none

/-- Code SRAM bytes on each engine that runs one of its tasks: code, constants and descriptors (R173, Table 6-20). -/
def Image.codeBytes (g : Image) (e : Nat) : Nat :=
  if g.tasks.any fun t => t.engine == e then
    4 * g.code.length + 8 * g.consts.length + 16 * g.funcs.length + 32 * g.types.length else 0

/-- The 32-bit image hash. -/
def Image.hash32 (g : Image) : Nat := field g.hash 0 4

/-- Instance SRAM of an image: header and data of each instance, rounded up to 16 bytes. -/
def Image.instBytes (g : Image) : Nat := (g.insts.map fun x => roundUp (16 + x.init.length) 16).foldl (· + ·) 0

/-- Retained bytes. -/
def Image.retainBytes (g : Image) : Nat := (g.retain.map (·.2.2)).foldl (· + ·) 0

/-- The task of an engine and entry. -/
def Image.task (g : Image) (e k : Nat) : Option ImgTask := g.tasks.find? fun t => t.engine == e && t.entry == k

/-- The global instance. -/
def Image.globIx (g : Image) : Option Nat := g.insts.findIdx? (·.glob)

end Sys2Proof.Machine
end

