-- ==== Sys2Proof/Config.lean ====
section
/-!
DEFINITION. What the spec leaves open and the model does not choose: free values, each an opaque constant with no
body (assumption log 1), and the functions that an external standard fixes and the model leaves uninterpreted (log 10).
-/
namespace Sys2Proof.Config

/-- A fresh number the spec leaves open: a session identifier, a nonce, a token, an unstated value (log 1). -/
opaque freeNat : Nat → Nat

/-- The crystal's own error, in parts per 10^9 of its nominal rate; the spec bounds it at 50 ppm (R329, log 11). -/
opaque crystalError : Int

/-- The count up to a floor time of an event that the model does not count, by PMON unit and event code; code 0x100 is the
unit's cycles (R436, R437). -/
opaque perfCount : Nat → Nat → Nat → Nat

/-- The input voltage in mV at a floor time (PWR_VIN): an input of the module. -/
opaque inputMilliVolts : Nat → Nat

/-! ### The metering front end (spec/08): binary64 bit patterns throughout (log 15) -/

/-- The volts at an input for a converter code, under the factory calibration record (R202): inputs 0 to 15 are the
voltage inputs, 16 to 207 the channels. -/
opaque inputVolts : Nat → Int → Nat

/-- The interpolating filter that shifts a voltage sample by VPHASE µrad at a frequency in mHz (R209): memory, shift,
frequency, sample; the shifted sample and the new memory. -/
opaque voltShift : Nat → Int → Nat → Nat → Nat × Nat

/-- The all-pass filter that shifts a voltage by 90 degrees (R209). -/
opaque quadrature : Nat → Nat → Nat × Nat

/-- The compensated Rogowski integrator (R208): memory, ROGO_SENS, frequency in mHz, volts; amperes and the new memory. -/
opaque integrate : Nat → Nat → Nat → Nat → Nat × Nat

/-- Cosine and sine of an angle in µrad. -/
opaque cosMicro : Nat → Nat
opaque sinMicro : Nat → Nat

/-! ### M-Bus (EN 13757-3, log 10) -/

/-- The data record of an index in a telegram: its raw signed integer and its value in the base unit of its VIF as
binary64; none where there is no such record or it is not decoded (R319). -/
opaque mbusRecord : Bytes → Nat → Option (Int × Nat)

/-! ### Keys, certificates and packages (FIPS 186-5, SP 800-56A, RFC 5649, X.509; log 10) -/

/-- A fused root: 0 manufacturing, 1 operations, 2 return, 3 attestation identity (R361). -/
opaque root : Nat → Bytes

/-- The 96-byte ECDSA P-384 signature by a private key over a digest; the last number stands for the random number of
the signing. -/
opaque ecdsaSign : Bytes → Bytes → Nat → Bytes

/-- Whether a signature over a digest verifies under a public key: key, digest, signature. -/
opaque ecdsaVerify : Bytes → Bytes → Bytes → Bool

/-- The public key of a private key, 96 bytes. -/
opaque publicKey : Bytes → Bytes

/-- The shared secret of a private key and a public point. -/
opaque ecdh : Bytes → Bytes → Bytes

/-- RFC 5649 unwrapping: key-encryption key and wrapped bytes; none where the integrity check fails. -/
opaque keyUnwrap : Bytes → Bytes → Option Bytes

/-- Whether a chain is X.509 DER, leaf first, of at most four certificates with P-384 keys and SHA-384 signatures, each
signed by the next, its leaf carrying clientAuth (R368). -/
opaque chainForm : Bytes → Bool

/-- Whether the last certificate of a chain is signed by a public key. -/
opaque chainEnds : Bytes → Bytes → Bool

/-- The compartment a leaf's subjectAltName names, 0xFF for the vendor. -/
opaque chainComp : Bytes → Option Nat

/-- The key of a chain's top certificate where that certificate is self-signed (R385). -/
opaque chainTopKey : Bytes → Option Bytes

/-- What follows each URI "urn:axzil:d:" of a leaf. -/
opaque chainDevices : Bytes → List Bytes

/-- Whether every certificate of a chain is valid at a second since 2000. -/
opaque chainValid : Bytes → Int → Bool

/-- Whether the signature of a handshake transcript verifies under a chain's leaf (R55). -/
opaque leafVerifies : Bytes → Bytes → Bytes → Bool

/-- The key of the Borzepra service certificate whose hash the boot ROM holds (R368). -/
opaque serviceKey : Bytes

/-- The Borzepra firmware key whose certificate hash the boot ROM holds (R402). -/
opaque firmwareKey : Bytes

/-- The version and SHA-384 of the boot ROM, part 1 (R378). -/
opaque romVersion : Nat
opaque romHash : Bytes

/-- Whether a settings format can hold the field at a bit address (R411). -/
opaque formatHolds : Nat → Nat → Bool

/-- The device's own certificate chain as item 0x0003 holds it (R381), for slot 000 or 001. -/
opaque deviceChain : Nat → Bytes

end Sys2Proof.Config
end

