-- ==== Sys2Proof/Machine/Ops.lean ====
section
/-!
DEFINITION. The named operations over the stored fields, the tables and the free values. Every meaning reads and
writes fields through these.
-/
namespace Sys2Proof.Machine

/-! ### Tables -/

/-- The entry of `k`, or the default. -/
def Tab.get {α : Type} (t : Tab α) (d : α) (k : Nat) : α :=
  match t with
  | [] => d
  | (j, v) :: r => if j = k then v else Tab.get r d k

/-- `v` put at its place in a table sorted by key. -/
def Tab.ins {α : Type} (t : Tab α) (k : Nat) (v : α) : Tab α :=
  match t with
  | [] => [(k, v)]
  | (j, w) :: r => if k < j then (k, v) :: (j, w) :: r else (j, w) :: Tab.ins r k v

/-- The table without `k`. -/
def Tab.del {α : Type} (t : Tab α) (k : Nat) : Tab α := t.filter fun p => p.1 != k

/-- The table with `k` set to `v`. -/
def Tab.put {α : Type} (t : Tab α) (k : Nat) (v : α) : Tab α := Tab.ins (Tab.del t k) k v

/-! ### Stored fields -/

/-- The place of a field as one number: bank, then bit address. -/
def Fld.key (f : Fld) : Nat := f.bank * 2 ^ 40 + f.bit

/-- The value of a field: the listed one, else the reset value. -/
def Cells.get (c : Cells) (f : Fld) : Nat :=
  match c with
  | [] => f.reset
  | (g, v) :: r => if g.key = f.key then v else Cells.get r f

/-- A cell put at its place in a list sorted by key. -/
def Cells.ins (c : Cells) (f : Fld) (v : Nat) : Cells :=
  match c with
  | [] => [(f, v)]
  | (g, w) :: r => if f.key < g.key then (f, v) :: (g, w) :: r else (g, w) :: Cells.ins r f v

/-- The cells without the field. -/
def Cells.del (c : Cells) (f : Fld) : Cells := c.filter fun p => p.1.key != f.key

/-- The cells with the field set; a reset value is not listed. -/
def Cells.put (c : Cells) (f : Fld) (v : Nat) : Cells :=
  if v = f.reset then c.del f else (c.del f).ins f v

/-- Whether a cell list is in canonical form: keys strictly rising, no cell at its reset value. -/
def Cells.wf : Cells → Bool
  | [] => true
  | (f, v) :: r => v != f.reset && (match r with | [] => true | (g, _) :: _ => decide (f.key < g.key)) && Cells.wf r

/-- The cells laid over others: every listed field of `top` wins. -/
def Cells.overlay (base top : Cells) : Cells := top.foldl (fun c p => c.put p.1 p.2) base

/-- Read a stored field. -/
def State.rd (s : State) (f : Fld) : Nat := s.regs.get f

/-- Write a stored field, cut to its width. -/
def State.wr (s : State) (f : Fld) (v : Nat) : State := { s with regs := s.regs.put f (v % 2 ^ f.width) }

/-- Write several stored fields in order. -/
def State.wrs (s : State) (l : List (Fld × Nat)) : State := l.foldl (fun t p => t.wr p.1 p.2) s

/-- Whether a one-bit field is set. -/
def State.on (s : State) (f : Fld) : Bool := s.rd f == 1

/-- Count up, wrapping at the field's width. -/
def State.inc (s : State) (f : Fld) (k : Nat := 1) : State := s.wr f (s.rd f + k)

/-- Count up, saturating at the field's maximum. -/
def State.incSat (s : State) (f : Fld) (k : Nat := 1) : State := s.wr f (satAdd f.width (s.rd f) k)

/-- Set a one-bit flag. -/
def State.set1 (s : State) (f : Fld) : State := s.wr f 1

/-! ### Free values (log 1) -/

/-- The next free number, and the state that has drawn it. -/
def State.draw (s : State) : Nat × State := (Config.freeNat s.free, { s with free := s.free + 1 })

/-! ### Time -/

/-- The crystal's ticks per 10^18 ns · Hz of floor time: 32,768 Hz off by at most 50 ppm (R329). -/
def crystalRate : Nat := 32768 * (1000000000 + max (-50000) (min 50000 Config.crystalError)).toNat

/-- `n` crystal ticks pass: suppressed ticks move neither scale, a waiting shift joins the first tick (R334). -/
def Rtc.tick (r : Rtc) (n : Nat) : Rtc :=
  let held := min n r.suppress
  let k := n - held + (if n = 0 then 0 else r.add)
  { r with suppress := r.suppress - held, add := if n = 0 then r.add else 0,
           ticks := (r.ticks + k) % 2 ^ 48, cal := r.cal + k }

/-- Floor time moves to the instant a command stands for, never back (R21), and the crystal runs on with it. -/
def State.advance (s : State) (t : Nat) : State :=
  let total := s.rtc.frac + (t - s.floorTime) * crystalRate
  { s with floorTime := max s.floorTime t,
           rtc := { s.rtc.tick (total / 10 ^ 18) with frac := total % 10 ^ 18 } }

/-! ### Places of fields -/

/-- The field a row names at instance `idx`, in the bank of compartment `c`. -/
def Row.at (r : Row) (c : Nat) (idx : List Nat) : Fld :=
  { bank := if r.banked then c else 0,
    bit := 8 * ((r.dims.zip idx).foldl (fun a p => a + p.2 * p.1.2) r.base) + r.lo,
    width := r.width, reset := r.reset, keep := r.keep }

/-- The field of a row with one instance. -/
def Row.f (r : Row) : Fld := r.at 0 []

/-- Instance `i` of a row. -/
def Row.i (r : Row) (i : Nat) : Fld := r.at 0 [i]

/-- Instance `i, j` of a row. -/
def Row.ij (r : Row) (i j : Nat) : Fld := r.at 0 [i, j]

/-- The field of a banked row in the bank of compartment `c` (R89). -/
def Row.b (r : Row) (c : Nat) : Fld := r.at c []

/-- Instance `i` of a banked row. -/
def Row.bi (r : Row) (c i : Nat) : Fld := r.at c [i]

/-- Instance `i, j` of a banked row. -/
def Row.bij (r : Row) (c i j : Nat) : Fld := r.at c [i, j]

/-- The companion counter of a flag (R11): `cnt` bits beyond the flag, 8 bits wide. -/
def Row.counter (r : Row) (f : Fld) : Fld := { bank := f.bank, bit := f.bit + r.cnt, width := 8, reset := 0, keep := f.keep }

end Sys2Proof.Machine
end

