-- ==== Sys2Proof/Machine/FieldsA.lean ====
section
/-!
DEFINITION. The rows of the spec's object maps: power, identity, Castling, scan, process image, forces, time and events. Each definition is one field of one table, with the
address, bits, access code and reset value the table gives it (R5, R86).
-/
namespace Sys2Proof.Machine.Obj

/-! Table 2-10: PWR block, base 0x00C0_0000 -/

def PWR_STATUS_MAIN_OK : Row := { base := 0xC00000, dims := [], lo := 0, width := 1, acc := .ro, reset := 1, keep := .vol }
def PWR_STATUS_ON_HOLDUP : Row := { base := 0xC00000, dims := [], lo := 1, width := 1, acc := .ro, reset := 0, keep := .vol }
def PWR_STATUS_CANARY_TRIPPED : Row := { base := 0xC00000, dims := [], lo := 2, width := 1, acc := .w1c, reset := 0, keep := .mram, cnt := 30 }
def PWR_STATUS_COMMIT_INCOMPLETE : Row := { base := 0xC00000, dims := [], lo := 3, width := 1, acc := .w1c, reset := 0, keep := .mram, cnt := 37 }
def PWR_STATUS_CELL_LOW : Row := { base := 0xC00000, dims := [], lo := 4, width := 1, acc := .ro, reset := 0, keep := .mram }
def PWR_SETCNT_CANARY : Row := { base := 0xC00004, dims := [], lo := 0, width := 8, acc := .rw, reset := 0, keep := .mram }
def PWR_SETCNT_COMMIT : Row := { base := 0xC00004, dims := [], lo := 8, width := 8, acc := .rw, reset := 0, keep := .mram }
def PWR_VIN : Row := { base := 0xC00008, dims := [], lo := 0, width := 16, acc := .ro, reset := 0, keep := .vol, virt := true }
def PWR_VCELL : Row := { base := 0xC0000C, dims := [], lo := 0, width := 16, acc := .ro, reset := 0, keep := .plat }
def PWR_PF_COUNT : Row := { base := 0xC00010, dims := [], lo := 0, width := 32, acc := .ro, reset := 0, keep := .plat }
def PWR_LAST_COMMIT_STAGES_DONE : Row := { base := 0xC00014, dims := [], lo := 0, width := 4, acc := .ro, reset := 0, keep := .mram }
def PWR_LAST_COMMIT_TIME : Row := { base := 0xC00014, dims := [], lo := 16, width := 16, acc := .ro, reset := 0, keep := .mram }
def PWR_LAST_COMMIT_LOST : Row := { base := 0xC00018, dims := [], lo := 0, width := 16, acc := .ro, reset := 0, keep := .mram }
def PWR_HOLDUP_CAP : Row := { base := 0xC0001C, dims := [], lo := 0, width := 16, acc := .ro, reset := 0, keep := .plat }
def PWR_HOLDUP_AVAIL : Row := { base := 0xC00020, dims := [], lo := 0, width := 32, acc := .ro, reset := 0, keep := .plat }
def PWR_HOLDUP_NEED : Row := { base := 0xC00024, dims := [], lo := 0, width := 32, acc := .ro, reset := 140000, keep := .plat }
def PWR_WATCH_PORTS : Row := { base := 0xC00028, dims := [], lo := 0, width := 24, acc := .ws, reset := 0, keep := .mram }
def PWR_WAKE_CAN_EN : Row := { base := 0xC0002C, dims := [], lo := 0, width := 24, acc := .ws, reset := 0, keep := .mram }
def PWR_WAKE_EN : Row := { base := 0xC00030, dims := [], lo := 0, width := 6, acc := .ws, reset := 63, keep := .mram }
def PWR_WAKE_CAUSE : Row := { base := 0xC00034, dims := [], lo := 0, width := 8, acc := .rc, reset := 0, keep := .aod }
def PWR_UNIT_FAIL : Row := { base := 0xC00038, dims := [], lo := 0, width := 18, acc := .ro, reset := 0, keep := .vol }
def PWR_M9_LIMIT : Row := { base := 0xC0003C, dims := [], lo := 0, width := 32, acc := .ws, reset := 3600, keep := .mram, rng := .nat 60 86400 }
def PWR_RESUME_MODE : Row := { base := 0xC00040, dims := [], lo := 0, width := 4, acc := .ro, reset := 0, keep := .mram }

/-- The rows of Table 2-10. -/
def tbl_2_10 : List Row :=
  [PWR_STATUS_MAIN_OK, PWR_STATUS_ON_HOLDUP, PWR_STATUS_CANARY_TRIPPED, PWR_STATUS_COMMIT_INCOMPLETE, PWR_STATUS_CELL_LOW, PWR_SETCNT_CANARY, PWR_SETCNT_COMMIT, PWR_VIN, PWR_VCELL, PWR_PF_COUNT, PWR_LAST_COMMIT_STAGES_DONE, PWR_LAST_COMMIT_TIME, PWR_LAST_COMMIT_LOST, PWR_HOLDUP_CAP, PWR_HOLDUP_AVAIL, PWR_HOLDUP_NEED, PWR_WATCH_PORTS, PWR_WAKE_CAN_EN, PWR_WAKE_EN, PWR_WAKE_CAUSE] ++
  [PWR_UNIT_FAIL, PWR_M9_LIMIT, PWR_RESUME_MODE]

/-! Table 4-3: IDENT block, base 0x0000_0000 -/

def IDENT_ID_0 : Row := { base := 0x0, dims := [], lo := 0, width := 32, acc := .ro, reset := 0, keep := .plat }
def IDENT_ID_1 : Row := { base := 0x4, dims := [], lo := 0, width := 32, acc := .ro, reset := 0, keep := .plat }
def IDENT_ID_2 : Row := { base := 0x8, dims := [], lo := 0, width := 32, acc := .ro, reset := 0, keep := .plat }
def IDENT_ID_3 : Row := { base := 0xC, dims := [], lo := 0, width := 32, acc := .ro, reset := 0, keep := .plat }
def IDENT_ORDER_CODE : Row := { base := 0x10, dims := [(4, 0x4)], lo := 0, width := 32, acc := .ro, reset := 0, keep := .plat }
def IDENT_HW_REV : Row := { base := 0x20, dims := [], lo := 0, width := 16, acc := .ro, reset := 0, keep := .plat }
def IDENT_LCY_STATE : Row := { base := 0x24, dims := [], lo := 0, width := 3, acc := .ro, reset := 0, keep := .vol, virt := true }
def IDENT_MODE : Row := { base := 0x28, dims := [], lo := 0, width := 4, acc := .ro, reset := 0, keep := .vol }
def IDENT_MODE_IN_TRANSITION : Row := { base := 0x28, dims := [], lo := 4, width := 1, acc := .ro, reset := 0, keep := .vol, virt := true }
def IDENT_MODE_REQ_MODE : Row := { base := 0x2C, dims := [], lo := 0, width := 4, acc := .wo, reset := 0, keep := .vol }
def IDENT_MODE_REQ_COLD : Row := { base := 0x2C, dims := [], lo := 4, width := 1, acc := .wo, reset := 0, keep := .vol }
def IDENT_MODE_REQ_RELEASE : Row := { base := 0x2C, dims := [], lo := 5, width := 1, acc := .wo, reset := 0, keep := .vol }
def IDENT_COMPARTMENT : Row := { base := 0x30, dims := [], lo := 0, width := 8, acc := .ro, reset := 0, keep := .vol, virt := true }

/-- The rows of Table 4-3. -/
def tbl_4_3 : List Row :=
  [IDENT_ID_0, IDENT_ID_1, IDENT_ID_2, IDENT_ID_3, IDENT_ORDER_CODE, IDENT_HW_REV, IDENT_LCY_STATE, IDENT_MODE, IDENT_MODE_IN_TRANSITION, IDENT_MODE_REQ_MODE, IDENT_MODE_REQ_COLD, IDENT_MODE_REQ_RELEASE, IDENT_COMPARTMENT]

/-! Table 4-7: CAST block, base 0x0001_0000 -/

def CAST_STAGE_STATE : Row := { base := 0x10000, dims := [], lo := 0, width := 2, acc := .ro, reset := 0, keep := .vol, banked := true }
def CAST_STAGE_WRITES : Row := { base := 0x10000, dims := [], lo := 16, width := 16, acc := .ro, reset := 0, keep := .vol, banked := true }
def CAST_STAGE_BYTES : Row := { base := 0x10004, dims := [], lo := 0, width := 32, acc := .ro, reset := 0, keep := .vol, banked := true }
def CAST_LEAD_MIN : Row := { base := 0x10008, dims := [], lo := 0, width := 32, acc := .ro, reset := 2000, keep := .vol, banked := true }
def CAST_CHECK_DETAIL : Row := { base := 0x1000C, dims := [], lo := 0, width := 16, acc := .ro, reset := 0, keep := .vol, banked := true }
def CAST_CHECK_ADDR : Row := { base := 0x10010, dims := [], lo := 0, width := 32, acc := .ro, reset := 0, keep := .vol, banked := true }
def CAST_PEND_INSTANT : Row := { base := 0x10018, dims := [], lo := 0, width := 64, acc := .ro, reset := 0, keep := .vol, banked := true }
def CAST_PEND_ID : Row := { base := 0x10020, dims := [], lo := 0, width := 32, acc := .ro, reset := 0, keep := .vol, banked := true }
def CAST_LAST_RESULT : Row := { base := 0x10024, dims := [], lo := 0, width := 3, acc := .ro, reset := 0, keep := .mram, banked := true }
def CAST_LAST_INSTANT : Row := { base := 0x10028, dims := [], lo := 0, width := 64, acc := .ro, reset := 0, keep := .mram, banked := true }
def CAST_LAST_ID : Row := { base := 0x10030, dims := [], lo := 0, width := 32, acc := .ro, reset := 0, keep := .mram, banked := true }
def CAST_LATE_DROP : Row := { base := 0x10034, dims := [], lo := 0, width := 16, acc := .rc, reset := 0, keep := .vol, banked := true }
def CAST_EVT_ENDED : Row := { base := 0x10038, dims := [], lo := 0, width := 1, acc := .w1c, reset := 0, keep := .mram, banked := true, cnt := 32 }
def CAST_SETCNT : Row := { base := 0x1003C, dims := [], lo := 0, width := 8, acc := .rw, reset := 0, keep := .mram, banked := true }
def CAST_GEN : Row := { base := 0x11000, dims := [], lo := 0, width := 32, acc := .ro, reset := 0, keep := .vol }
def CAST_PEND_COUNT : Row := { base := 0x11004, dims := [], lo := 0, width := 5, acc := .ro, reset := 0, keep := .vol, virt := true }
def CAST_COMP_EXIST : Row := { base := 0x11008, dims := [], lo := 0, width := 34, acc := .ws, reset := 3, keep := .mram }
def CAST_SHARE_OWNER : Row := { base := 0x11100, dims := [(2, 0x80)], lo := 0, width := 16, acc := .ws, reset := 1000, keep := .mram, rng := .nat 0 1000 }
def CAST_SHARE : Row := { base := 0x11102, dims := [(2, 0x80), (33, 0x2)], lo := 0, width := 16, acc := .ws, reset := 0, keep := .mram, rng := .nat 0 1000 }
def CAST_OWN_PT : Row := { base := 0x12000, dims := [(8192, 0x1)], lo := 0, width := 8, acc := .ws, reset := 0, keep := .mram }

/-- The rows of Table 4-7. -/
def tbl_4_7 : List Row :=
  [CAST_STAGE_STATE, CAST_STAGE_WRITES, CAST_STAGE_BYTES, CAST_LEAD_MIN, CAST_CHECK_DETAIL, CAST_CHECK_ADDR, CAST_PEND_INSTANT, CAST_PEND_ID, CAST_LAST_RESULT, CAST_LAST_INSTANT, CAST_LAST_ID, CAST_LATE_DROP, CAST_EVT_ENDED, CAST_SETCNT, CAST_GEN, CAST_PEND_COUNT, CAST_COMP_EXIST, CAST_SHARE_OWNER, CAST_SHARE, CAST_OWN_PT]

/-! Table 5-10: SCE compartment bank, base 0x0010_0000 -/

def SCE_STATE : Row := { base := 0x100000, dims := [], lo := 0, width := 3, acc := .ro, reset := 0, keep := .vol, banked := true }
def SCE_STATE_INTENT : Row := { base := 0x100000, dims := [], lo := 3, width := 1, acc := .ro, reset := 0, keep := .mram, banked := true }
def SCE_STATE_LAST_COLD : Row := { base := 0x100000, dims := [], lo := 4, width := 1, acc := .ro, reset := 0, keep := .vol, banked := true }
def SCE_STATE_COLD_FALLBACK : Row := { base := 0x100000, dims := [], lo := 5, width := 1, acc := .ro, reset := 0, keep := .vol, banked := true }
def SCE_STATE_D1_EN : Row := { base := 0x100000, dims := [], lo := 6, width := 1, acc := .ro, reset := 0, keep := .vol, banked := true, virt := true }
def SCE_STOP_REASON : Row := { base := 0x100004, dims := [], lo := 0, width := 4, acc := .ro, reset := 0, keep := .vol, banked := true }
def SCE_EVT_FLAG_FALL : Row := { base := 0x100008, dims := [], lo := 0, width := 1, acc := .w1c, reset := 0, keep := .vol, banked := true, cnt := 32 }
def SCE_EVT_BUDGET_0 : Row := { base := 0x100008, dims := [], lo := 1, width := 1, acc := .w1c, reset := 0, keep := .vol, banked := true, cnt := 39 }
def SCE_EVT_BUDGET_1 : Row := { base := 0x100008, dims := [], lo := 2, width := 1, acc := .w1c, reset := 0, keep := .vol, banked := true, cnt := 46 }
def SCE_EVT_STOPPED : Row := { base := 0x100008, dims := [], lo := 3, width := 1, acc := .w1c, reset := 0, keep := .vol, banked := true, cnt := 53 }
def SCE_EVT_COLD_FALLBACK : Row := { base := 0x100008, dims := [], lo := 4, width := 1, acc := .w1c, reset := 0, keep := .vol, banked := true, cnt := 60 }
def SCE_SETCNT_FLAG_FALL : Row := { base := 0x10000C, dims := [], lo := 0, width := 8, acc := .rw, reset := 0, keep := .vol, banked := true }
def SCE_SETCNT_BUDGET_0 : Row := { base := 0x10000C, dims := [], lo := 8, width := 8, acc := .rw, reset := 0, keep := .vol, banked := true }
def SCE_SETCNT_BUDGET_1 : Row := { base := 0x10000C, dims := [], lo := 16, width := 8, acc := .rw, reset := 0, keep := .vol, banked := true }
def SCE_SETCNT_STOPPED : Row := { base := 0x10000C, dims := [], lo := 24, width := 8, acc := .rw, reset := 0, keep := .vol, banked := true }
def SCE_SETCNT_COLD_FALLBACK : Row := { base := 0x100010, dims := [], lo := 0, width := 8, acc := .rw, reset := 0, keep := .vol, banked := true }
def SCE_SKIP_TOTAL : Row := { base := 0x100014, dims := [], lo := 0, width := 32, acc := .ro, reset := 0, keep := .vol, banked := true }
def SCE_SHARE_0 : Row := { base := 0x100018, dims := [], lo := 0, width := 16, acc := .ro, reset := 0, keep := .vol, banked := true, virt := true }
def SCE_SHARE_1 : Row := { base := 0x100018, dims := [], lo := 16, width := 16, acc := .ro, reset := 0, keep := .vol, banked := true, virt := true }
def SCE_USED_0 : Row := { base := 0x10001C, dims := [], lo := 0, width := 24, acc := .ro, reset := 0, keep := .vol, banked := true }
def SCE_USED_1 : Row := { base := 0x100020, dims := [], lo := 0, width := 24, acc := .ro, reset := 0, keep := .vol, banked := true }
def SCE_PEAK_0 : Row := { base := 0x100024, dims := [], lo := 0, width := 24, acc := .rc, reset := 0, keep := .vol, banked := true }
def SCE_PEAK_1 : Row := { base := 0x100028, dims := [], lo := 0, width := 24, acc := .rc, reset := 0, keep := .vol, banked := true }
def SCE_EXHAUST_0 : Row := { base := 0x10002C, dims := [], lo := 0, width := 32, acc := .ro, reset := 0, keep := .vol, banked := true }
def SCE_EXHAUST_1 : Row := { base := 0x100030, dims := [], lo := 0, width := 32, acc := .ro, reset := 0, keep := .vol, banked := true }
def SCE_CLK_0 : Row := { base := 0x100034, dims := [], lo := 0, width := 16, acc := .ro, reset := 0, keep := .vol, banked := true, virt := true }
def SCE_CLK_1 : Row := { base := 0x100034, dims := [], lo := 16, width := 16, acc := .ro, reset := 0, keep := .vol, banked := true, virt := true }
def SCE_RET_BYTES : Row := { base := 0x100038, dims := [], lo := 0, width := 22, acc := .ro, reset := 0, keep := .mram, banked := true }
def SCE_RET_HASH : Row := { base := 0x10003C, dims := [], lo := 0, width := 32, acc := .ro, reset := 0, keep := .mram, banked := true }
def SCE_RET_TIME : Row := { base := 0x100040, dims := [], lo := 0, width := 64, acc := .ro, reset := 0, keep := .mram, banked := true }
def SCE_RET_PERIOD : Row := { base := 0x100048, dims := [], lo := 0, width := 12, acc := .ws, reset := 10, keep := .mram, banked := true, rng := .nat 1 3600 }
def SCE_INST_SEL : Row := { base := 0x10004C, dims := [], lo := 0, width := 14, acc := .rw, reset := 0, keep := .vol, banked := true }

/-- The rows of Table 5-10. -/
def tbl_5_10 : List Row :=
  [SCE_STATE, SCE_STATE_INTENT, SCE_STATE_LAST_COLD, SCE_STATE_COLD_FALLBACK, SCE_STATE_D1_EN, SCE_STOP_REASON, SCE_EVT_FLAG_FALL, SCE_EVT_BUDGET_0, SCE_EVT_BUDGET_1, SCE_EVT_STOPPED, SCE_EVT_COLD_FALLBACK, SCE_SETCNT_FLAG_FALL, SCE_SETCNT_BUDGET_0, SCE_SETCNT_BUDGET_1, SCE_SETCNT_STOPPED, SCE_SETCNT_COLD_FALLBACK, SCE_SKIP_TOTAL, SCE_SHARE_0, SCE_SHARE_1, SCE_USED_0] ++
  [SCE_USED_1, SCE_PEAK_0, SCE_PEAK_1, SCE_EXHAUST_0, SCE_EXHAUST_1, SCE_CLK_0, SCE_CLK_1, SCE_RET_BYTES, SCE_RET_HASH, SCE_RET_TIME, SCE_RET_PERIOD, SCE_INST_SEL]

/-! Table 5-3: Task entry, base 0x0011_0000 + 0x1000 × e + 0x100 × kk -/

def SCE_TASK_CFG_ENABLE : Row := { base := 0x110000, dims := [(2, 0x1000), (16, 0x100)], lo := 0, width := 1, acc := .ws, reset := 0, keep := .mram, banked := true }
def SCE_TASK_CFG_WATCH : Row := { base := 0x110000, dims := [(2, 0x1000), (16, 0x100)], lo := 1, width := 1, acc := .ws, reset := 0, keep := .mram, banked := true }
def SCE_TASK_TEMPO : Row := { base := 0x110004, dims := [(2, 0x1000), (16, 0x100)], lo := 0, width := 14, acc := .ws, reset := 1000, keep := .mram, banked := true, rng := .nat 1 10000 }
def SCE_TASK_PHASE : Row := { base := 0x110008, dims := [(2, 0x1000), (16, 0x100)], lo := 0, width := 14, acc := .ws, reset := 0, keep := .mram, banked := true, rng := .nat 0 9999 }
def SCE_TASK_SKIP_LIMIT : Row := { base := 0x11000C, dims := [(2, 0x1000), (16, 0x100)], lo := 0, width := 16, acc := .ws, reset := 0, keep := .mram, banked := true }
def SCE_TASK_STATUS : Row := { base := 0x110010, dims := [(2, 0x1000), (16, 0x100)], lo := 0, width := 4, acc := .ro, reset := 0, keep := .vol, banked := true, virt := true }
def SCE_TASK_TEMPO_COUNT : Row := { base := 0x110014, dims := [(2, 0x1000), (16, 0x100)], lo := 0, width := 32, acc := .ro, reset := 0, keep := .vol, banked := true }
def SCE_TASK_PLY_DONE : Row := { base := 0x110018, dims := [(2, 0x1000), (16, 0x100)], lo := 0, width := 32, acc := .ro, reset := 0, keep := .vol, banked := true }
def SCE_TASK_SKIP_COUNT : Row := { base := 0x11001C, dims := [(2, 0x1000), (16, 0x100)], lo := 0, width := 32, acc := .ro, reset := 0, keep := .vol, banked := true }
def SCE_TASK_SKIP_RUN : Row := { base := 0x110020, dims := [(2, 0x1000), (16, 0x100)], lo := 0, width := 16, acc := .ro, reset := 0, keep := .vol, banked := true }
def SCE_TASK_TASK_EVT_FLAG_FALL : Row := { base := 0x110024, dims := [(2, 0x1000), (16, 0x100)], lo := 0, width := 1, acc := .w1c, reset := 0, keep := .vol, banked := true, cnt := 32 }
def SCE_TASK_TASK_SETCNT : Row := { base := 0x110028, dims := [(2, 0x1000), (16, 0x100)], lo := 0, width := 8, acc := .rw, reset := 0, keep := .vol, banked := true }
def SCE_TASK_LAST_EXEC : Row := { base := 0x11002C, dims := [(2, 0x1000), (16, 0x100)], lo := 0, width := 32, acc := .ro, reset := 0, keep := .vol, banked := true }
def SCE_TASK_LAST_CPU : Row := { base := 0x110030, dims := [(2, 0x1000), (16, 0x100)], lo := 0, width := 32, acc := .ro, reset := 0, keep := .vol, banked := true }
def SCE_TASK_MAX_EXEC : Row := { base := 0x110034, dims := [(2, 0x1000), (16, 0x100)], lo := 0, width := 32, acc := .rc, reset := 0, keep := .vol, banked := true }
def SCE_TASK_LAST_BOUNDARY : Row := { base := 0x110038, dims := [(2, 0x1000), (16, 0x100)], lo := 0, width := 64, acc := .ro, reset := 0, keep := .vol, banked := true }
def SCE_TASK_N_IN : Row := { base := 0x110040, dims := [(2, 0x1000), (16, 0x100)], lo := 0, width := 13, acc := .ro, reset := 0, keep := .vol, banked := true }
def SCE_TASK_N_OUT : Row := { base := 0x110040, dims := [(2, 0x1000), (16, 0x100)], lo := 16, width := 13, acc := .ro, reset := 0, keep := .vol, banked := true }

/-- The rows of Table 5-3. -/
def tbl_5_3 : List Row :=
  [SCE_TASK_CFG_ENABLE, SCE_TASK_CFG_WATCH, SCE_TASK_TEMPO, SCE_TASK_PHASE, SCE_TASK_SKIP_LIMIT, SCE_TASK_STATUS, SCE_TASK_TEMPO_COUNT, SCE_TASK_PLY_DONE, SCE_TASK_SKIP_COUNT, SCE_TASK_SKIP_RUN, SCE_TASK_TASK_EVT_FLAG_FALL, SCE_TASK_TASK_SETCNT, SCE_TASK_LAST_EXEC, SCE_TASK_LAST_CPU, SCE_TASK_MAX_EXEC, SCE_TASK_LAST_BOUNDARY, SCE_TASK_N_IN, SCE_TASK_N_OUT]

/-! Table 5-7: Stop settings, base 0x0018_0000 + 0x10 × pppp -/

def SCE_STOP_MODE : Row := { base := 0x180000, dims := [(8192, 0x10)], lo := 0, width := 1, acc := .ws, reset := 0, keep := .mram }
def SCE_STOP_SAFE : Row := { base := 0x180008, dims := [(8192, 0x10)], lo := 0, width := 64, acc := .ws, reset := 0, keep := .mram }
def SCE_STOP_RSVD : Row := { base := 0x180004, dims := [(8192, 0x10)], lo := 0, width := 32, acc := .ro, reset := 0, keep := .vol, virt := true }

/-- The rows of Table 5-7. -/
def tbl_5_7 : List Row :=
  [SCE_STOP_MODE, SCE_STOP_SAFE, SCE_STOP_RSVD]

/-! Table 5-11: PIMG block, base 0x0020_0000 -/

def PIMG_PT : Row := { base := 0x200000, dims := [(8192, 0x8)], lo := 0, width := 64, acc := .ro, reset := 0, keep := .vol }
def PIMG_SET : Row := { base := 0x220000, dims := [(8192, 0x8)], lo := 0, width := 64, acc := .wo, reset := 0, keep := .vol }
def PIMG_ATTR_SOURCE : Row := { base := 0x300000, dims := [(8192, 0x4)], lo := 0, width := 3, acc := .ro, reset := 0, keep := .vol }
def PIMG_ATTR_FORCED : Row := { base := 0x300000, dims := [(8192, 0x4)], lo := 3, width := 1, acc := .ro, reset := 0, keep := .vol }
def PIMG_ATTR_STALE : Row := { base := 0x300000, dims := [(8192, 0x4)], lo := 4, width := 1, acc := .ro, reset := 0, keep := .vol }

/-- The rows of Table 5-11. -/
def tbl_5_11 : List Row :=
  [PIMG_PT, PIMG_SET, PIMG_ATTR_SOURCE, PIMG_ATTR_FORCED, PIMG_ATTR_STALE]

/-! Table 6-10: Trap fields of the task entry, base 0x0011_0000 + 0x1000 × e + 0x100 × kk -/

def SCE_TRAP_LAST_CODE : Row := { base := 0x110080, dims := [(2, 0x1000), (16, 0x100)], lo := 0, width := 8, acc := .ro, reset := 0, keep := .vol, banked := true }
def SCE_TRAP_LAST_DETAIL : Row := { base := 0x110080, dims := [(2, 0x1000), (16, 0x100)], lo := 16, width := 16, acc := .ro, reset := 0, keep := .vol, banked := true }
def SCE_TRAP_LAST_PC : Row := { base := 0x110084, dims := [(2, 0x1000), (16, 0x100)], lo := 0, width := 22, acc := .ro, reset := 0, keep := .vol, banked := true }
def SCE_TRAP_LAST_INST : Row := { base := 0x110088, dims := [(2, 0x1000), (16, 0x100)], lo := 0, width := 14, acc := .ro, reset := 0, keep := .vol, banked := true }
def SCE_TRAP_COUNT : Row := { base := 0x11008C, dims := [(2, 0x1000), (16, 0x100)], lo := 0, width := 32, acc := .ro, reset := 0, keep := .vol, banked := true }
def SCE_TRAP_LAST_TIME : Row := { base := 0x110090, dims := [(2, 0x1000), (16, 0x100)], lo := 0, width := 64, acc := .ro, reset := 0, keep := .vol, banked := true }
def SCE_TRAP_EVT : Row := { base := 0x110098, dims := [(2, 0x1000), (16, 0x100)], lo := 0, width := 1, acc := .w1c, reset := 0, keep := .vol, banked := true, cnt := 32 }
def SCE_TRAP_SETCNT : Row := { base := 0x11009C, dims := [(2, 0x1000), (16, 0x100)], lo := 0, width := 8, acc := .rw, reset := 0, keep := .vol, banked := true }

/-- The rows of Table 6-10. -/
def tbl_6_10 : List Row :=
  [SCE_TRAP_LAST_CODE, SCE_TRAP_LAST_DETAIL, SCE_TRAP_LAST_PC, SCE_TRAP_LAST_INST, SCE_TRAP_COUNT, SCE_TRAP_LAST_TIME, SCE_TRAP_EVT, SCE_TRAP_SETCNT]

/-! Table 6-20: Image fields of the SCE compartment bank, base 0x0013_0000 -/

def SCE_IMG_HASH : Row := { base := 0x130000, dims := [(12, 0x4)], lo := 0, width := 32, acc := .ro, reset := 0, keep := .mram, banked := true }
def SCE_IMG_SIZE : Row := { base := 0x130030, dims := [], lo := 0, width := 32, acc := .ro, reset := 0, keep := .mram, banked := true }
def SCE_IMG_INST : Row := { base := 0x130034, dims := [], lo := 0, width := 15, acc := .ro, reset := 0, keep := .mram, banked := true }
def SCE_IMG_CODE_0 : Row := { base := 0x130038, dims := [], lo := 0, width := 32, acc := .ro, reset := 0, keep := .mram, banked := true }
def SCE_IMG_CODE_1 : Row := { base := 0x13003C, dims := [], lo := 0, width := 32, acc := .ro, reset := 0, keep := .mram, banked := true }
def SCE_IMG_STG_HASH : Row := { base := 0x130100, dims := [(12, 0x4)], lo := 0, width := 32, acc := .ro, reset := 0, keep := .vol, banked := true }
def SCE_IMG_STG_SIZE : Row := { base := 0x130130, dims := [], lo := 0, width := 32, acc := .ro, reset := 0, keep := .vol, banked := true }
def SCE_IMG_STG_MISSING : Row := { base := 0x130134, dims := [], lo := 0, width := 32, acc := .ro, reset := 0, keep := .vol, banked := true }
def SCE_IMG_STG_STATE : Row := { base := 0x130138, dims := [], lo := 0, width := 3, acc := .ro, reset := 0, keep := .vol, banked := true }
def SCE_IMG_STG_DETAIL : Row := { base := 0x13013C, dims := [], lo := 0, width := 16, acc := .ro, reset := 0, keep := .vol, banked := true }
def SCE_IMG_MAP : Row := { base := 0x150000, dims := [(16384, 0x4)], lo := 0, width := 14, acc := .ro, reset := 0, keep := .mram, banked := true }

/-- The rows of Table 6-20. -/
def tbl_6_20 : List Row :=
  [SCE_IMG_HASH, SCE_IMG_SIZE, SCE_IMG_INST, SCE_IMG_CODE_0, SCE_IMG_CODE_1, SCE_IMG_STG_HASH, SCE_IMG_STG_SIZE, SCE_IMG_STG_MISSING, SCE_IMG_STG_STATE, SCE_IMG_STG_DETAIL, SCE_IMG_MAP]

/-! Table 7-7: Exchange report, base 0x0012_0000 -/

def EXCH_STATE : Row := { base := 0x120000, dims := [], lo := 0, width := 2, acc := .ro, reset := 0, keep := .vol, banked := true }
def EXCH_CAST_ID : Row := { base := 0x120004, dims := [], lo := 0, width := 32, acc := .ro, reset := 0, keep := .vol, banked := true }
def EXCH_T_C : Row := { base := 0x120008, dims := [], lo := 0, width := 64, acc := .ro, reset := 0, keep := .vol, banked := true }
def EXCH_DONE_TIME : Row := { base := 0x120010, dims := [], lo := 0, width := 64, acc := .ro, reset := 0, keep := .vol, banked := true }
def EXCH_INST_CARRIED : Row := { base := 0x120018, dims := [], lo := 0, width := 16, acc := .ro, reset := 0, keep := .vol, banked := true }
def EXCH_INST_RETYPED : Row := { base := 0x120018, dims := [], lo := 16, width := 16, acc := .ro, reset := 0, keep := .vol, banked := true }
def EXCH_INST_NEW : Row := { base := 0x12001C, dims := [], lo := 0, width := 16, acc := .ro, reset := 0, keep := .vol, banked := true }
def EXCH_INST_REMOVED : Row := { base := 0x12001C, dims := [], lo := 16, width := 16, acc := .ro, reset := 0, keep := .vol, banked := true }
def EXCH_VAR_REINIT : Row := { base := 0x120020, dims := [], lo := 0, width := 16, acc := .ro, reset := 0, keep := .vol, banked := true }
def EXCH_TMR_NEW_PT : Row := { base := 0x120020, dims := [], lo := 16, width := 16, acc := .ro, reset := 0, keep := .vol, banked := true }
def EXCH_FORCE_RELEASED : Row := { base := 0x120024, dims := [], lo := 0, width := 8, acc := .ro, reset := 0, keep := .vol, banked := true }
def EXCH_LATE_DATA : Row := { base := 0x120024, dims := [], lo := 8, width := 8, acc := .ro, reset := 0, keep := .vol, banked := true }
def EXCH_EVT_DONE : Row := { base := 0x120028, dims := [], lo := 0, width := 1, acc := .w1c, reset := 0, keep := .vol, banked := true, cnt := 32 }
def EXCH_EVT_FORCE_RELEASED : Row := { base := 0x120028, dims := [], lo := 1, width := 1, acc := .w1c, reset := 0, keep := .vol, banked := true, cnt := 39 }
def EXCH_SETCNT_DONE : Row := { base := 0x12002C, dims := [], lo := 0, width := 8, acc := .rw, reset := 0, keep := .vol, banked := true }
def EXCH_SETCNT_FORCE_RELEASED : Row := { base := 0x12002C, dims := [], lo := 8, width := 8, acc := .rw, reset := 0, keep := .vol, banked := true }
def FORCE_COUNT : Row := { base := 0x120030, dims := [], lo := 0, width := 8, acc := .ro, reset := 0, keep := .vol, banked := true, virt := true }

/-- The rows of Table 7-7. -/
def tbl_7_7 : List Row :=
  [EXCH_STATE, EXCH_CAST_ID, EXCH_T_C, EXCH_DONE_TIME, EXCH_INST_CARRIED, EXCH_INST_RETYPED, EXCH_INST_NEW, EXCH_INST_REMOVED, EXCH_VAR_REINIT, EXCH_TMR_NEW_PT, EXCH_FORCE_RELEASED, EXCH_LATE_DATA, EXCH_EVT_DONE, EXCH_EVT_FORCE_RELEASED, EXCH_SETCNT_DONE, EXCH_SETCNT_FORCE_RELEASED, FORCE_COUNT]

/-! Table 7-8: Force entry, base 0x0014_0000 + 0x20 × fff, fff = 000 to 127 -/

def FORCE_STATE : Row := { base := 0x140000, dims := [(128, 0x20)], lo := 0, width := 2, acc := .ro, reset := 0, keep := .mram, banked := true }
def FORCE_KIND : Row := { base := 0x140000, dims := [(128, 0x20)], lo := 2, width := 1, acc := .ro, reset := 0, keep := .mram, banked := true }
def FORCE_DTYPE : Row := { base := 0x140000, dims := [(128, 0x20)], lo := 8, width := 8, acc := .ro, reset := 0, keep := .mram, banked := true }
def FORCE_POINT : Row := { base := 0x140000, dims := [(128, 0x20)], lo := 16, width := 13, acc := .ro, reset := 0, keep := .mram, banked := true }
def FORCE_SIZE : Row := { base := 0x140004, dims := [(128, 0x20)], lo := 0, width := 4, acc := .ro, reset := 0, keep := .mram, banked := true }
def FORCE_PATH_HASH : Row := { base := 0x140008, dims := [(128, 0x20)], lo := 0, width := 64, acc := .ro, reset := 0, keep := .mram, banked := true }
def FORCE_NAME_HASH : Row := { base := 0x140010, dims := [(128, 0x20)], lo := 0, width := 64, acc := .ro, reset := 0, keep := .mram, banked := true }
def FORCE_VALUE : Row := { base := 0x140018, dims := [(128, 0x20)], lo := 0, width := 64, acc := .ro, reset := 0, keep := .mram, banked := true }

/-- The rows of Table 7-8. -/
def tbl_7_8 : List Row :=
  [FORCE_STATE, FORCE_KIND, FORCE_DTYPE, FORCE_POINT, FORCE_SIZE, FORCE_PATH_HASH, FORCE_NAME_HASH, FORCE_VALUE]

/-! Table 13-5: TIME block, base 0x0002_0000 -/

def TIME_TICK_LO : Row := { base := 0x20000, dims := [], lo := 0, width := 32, acc := .rf, reset := 0, keep := .vol, virt := true }
def TIME_TICK_HI : Row := { base := 0x20004, dims := [], lo := 0, width := 16, acc := .rf, reset := 0, keep := .vol, virt := true }
def TIME_CAL_SUBSEC : Row := { base := 0x20008, dims := [], lo := 0, width := 15, acc := .rf, reset := 0, keep := .vol, virt := true }
def TIME_BCD_SEC : Row := { base := 0x2000C, dims := [], lo := 0, width := 7, acc := .rf, reset := 0, keep := .vol, virt := true }
def TIME_BCD_MIN : Row := { base := 0x20010, dims := [], lo := 0, width := 7, acc := .rf, reset := 0, keep := .vol, virt := true }
def TIME_BCD_HOUR : Row := { base := 0x20014, dims := [], lo := 0, width := 6, acc := .rf, reset := 0, keep := .vol, virt := true }
def TIME_BCD_DAY : Row := { base := 0x20018, dims := [], lo := 0, width := 6, acc := .rf, reset := 0, keep := .vol, virt := true }
def TIME_BCD_WDAY : Row := { base := 0x20018, dims := [], lo := 8, width := 3, acc := .rf, reset := 0, keep := .vol, virt := true }
def TIME_BCD_MONTH : Row := { base := 0x2001C, dims := [], lo := 0, width := 5, acc := .rf, reset := 0, keep := .vol, virt := true }
def TIME_BCD_YEAR : Row := { base := 0x20020, dims := [], lo := 0, width := 8, acc := .rf, reset := 0, keep := .vol, virt := true }
def TIME_BCD_CENTURY : Row := { base := 0x20020, dims := [], lo := 8, width := 1, acc := .rf, reset := 0, keep := .vol, virt := true }
def TIME_RTC_STAT_VALID : Row := { base := 0x20024, dims := [], lo := 0, width := 1, acc := .rf, reset := 0, keep := .vol, virt := true }
def TIME_RTC_STAT_FRZ_TIMEOUT : Row := { base := 0x20024, dims := [], lo := 1, width := 1, acc := .rf, reset := 0, keep := .vol, virt := true }
def TIME_RTC_STAT_ZONE : Row := { base := 0x20024, dims := [], lo := 2, width := 1, acc := .rf, reset := 0, keep := .vol, virt := true }
def TIME_RTC_STAT_SHIFT_BUSY : Row := { base := 0x20024, dims := [], lo := 3, width := 1, acc := .rf, reset := 0, keep := .vol, virt := true }
def TIME_FT : Row := { base := 0x20040, dims := [], lo := 0, width := 64, acc := .ro, reset := 0, keep := .vol, virt := true }
def TIME_FT_STATE_SYNC : Row := { base := 0x20048, dims := [], lo := 0, width := 2, acc := .ro, reset := 0, keep := .vol }
def TIME_FT_STATE_ANCHORED : Row := { base := 0x20048, dims := [], lo := 2, width := 1, acc := .ro, reset := 0, keep := .aod }
def TIME_FT_STATE_CARRIED : Row := { base := 0x20048, dims := [], lo := 3, width := 1, acc := .ro, reset := 0, keep := .aod }
def TIME_FT_STATE_STEP_DUE : Row := { base := 0x20048, dims := [], lo := 4, width := 1, acc := .ro, reset := 0, keep := .vol }
def TIME_PTP_OFS : Row := { base := 0x2004C, dims := [], lo := 0, width := 32, acc := .ro, reset := 0, keep := .vol }
def TIME_PTP_FREQ : Row := { base := 0x20050, dims := [], lo := 0, width := 32, acc := .ro, reset := 0, keep := .vol }
def TIME_PTP_UTC_OFS : Row := { base := 0x20054, dims := [], lo := 0, width := 16, acc := .ro, reset := 0, keep := .vol }
def TIME_PTP_UTC_OFS_VALID : Row := { base := 0x20054, dims := [], lo := 16, width := 1, acc := .ro, reset := 0, keep := .vol }
def TIME_GM_ID : Row := { base := 0x20058, dims := [], lo := 0, width := 64, acc := .ro, reset := 0, keep := .vol }
def TIME_LAST_STEP : Row := { base := 0x20060, dims := [], lo := 0, width := 64, acc := .ro, reset := 0, keep := .vol }
def TIME_LAST_STEP_AT : Row := { base := 0x20068, dims := [], lo := 0, width := 64, acc := .ro, reset := 0, keep := .vol }
def TIME_CFG_FOLLOW_PTP : Row := { base := 0x20070, dims := [], lo := 0, width := 1, acc := .rw, reset := 0, keep := .vol }
def TIME_CFG_ZONE : Row := { base := 0x20070, dims := [], lo := 1, width := 1, acc := .rw, reset := 0, keep := .vol }
def TIME_CFG_UTC_OFS : Row := { base := 0x20070, dims := [], lo := 8, width := 8, acc := .rw, reset := 0, keep := .vol, rng := .int (-56) 56 }
def TIME_EVT_STEP : Row := { base := 0x20074, dims := [], lo := 0, width := 1, acc := .w1c, reset := 0, keep := .vol, cnt := 32 }
def TIME_EVT_HOLDOVER : Row := { base := 0x20074, dims := [], lo := 1, width := 1, acc := .w1c, reset := 0, keep := .vol, cnt := 39 }
def TIME_EVT_PTP_REJECT : Row := { base := 0x20074, dims := [], lo := 2, width := 1, acc := .w1c, reset := 0, keep := .vol, cnt := 46 }
def TIME_EVT_RTC_SET : Row := { base := 0x20074, dims := [], lo := 3, width := 1, acc := .w1c, reset := 0, keep := .vol, cnt := 53 }
def TIME_SETCNT_0 : Row := { base := 0x20078, dims := [], lo := 0, width := 8, acc := .rw, reset := 0, keep := .vol }
def TIME_SETCNT_1 : Row := { base := 0x20078, dims := [], lo := 8, width := 8, acc := .rw, reset := 0, keep := .vol }
def TIME_SETCNT_2 : Row := { base := 0x20078, dims := [], lo := 16, width := 8, acc := .rw, reset := 0, keep := .vol }
def TIME_SETCNT_3 : Row := { base := 0x20078, dims := [], lo := 24, width := 8, acc := .rw, reset := 0, keep := .vol }
def TIME_FRZ_TIMEOUTS : Row := { base := 0x2007C, dims := [], lo := 0, width := 32, acc := .ro, reset := 0, keep := .vol }
def TIME_SET_COUNT : Row := { base := 0x20080, dims := [], lo := 0, width := 32, acc := .ro, reset := 0, keep := .plat }
def TIME_CORR_CTRL_CAPTURE : Row := { base := 0x20100, dims := [], lo := 0, width := 1, acc := .wo, reset := 0, keep := .vol }
def TIME_CORR_CTRL_AUTO : Row := { base := 0x20100, dims := [], lo := 1, width := 1, acc := .rw, reset := 1, keep := .vol }
def TIME_CORR_SEQ : Row := { base := 0x20104, dims := [], lo := 0, width := 32, acc := .ro, reset := 0, keep := .vol }
def TIME_CORR_FT : Row := { base := 0x20108, dims := [], lo := 0, width := 64, acc := .ro, reset := 0, keep := .vol }
def TIME_CORR_TICK_LO : Row := { base := 0x20110, dims := [], lo := 0, width := 32, acc := .ro, reset := 0, keep := .vol }
def TIME_CORR_TICK_HI : Row := { base := 0x20114, dims := [], lo := 0, width := 16, acc := .ro, reset := 0, keep := .vol }
def TIME_CORR_SEQ_END : Row := { base := 0x20118, dims := [], lo := 0, width := 32, acc := .ro, reset := 0, keep := .vol }

/-- The rows of Table 13-5. -/
def tbl_13_5 : List Row :=
  [TIME_TICK_LO, TIME_TICK_HI, TIME_CAL_SUBSEC, TIME_BCD_SEC, TIME_BCD_MIN, TIME_BCD_HOUR, TIME_BCD_DAY, TIME_BCD_WDAY, TIME_BCD_MONTH, TIME_BCD_YEAR, TIME_BCD_CENTURY, TIME_RTC_STAT_VALID, TIME_RTC_STAT_FRZ_TIMEOUT, TIME_RTC_STAT_ZONE, TIME_RTC_STAT_SHIFT_BUSY, TIME_FT, TIME_FT_STATE_SYNC, TIME_FT_STATE_ANCHORED, TIME_FT_STATE_CARRIED, TIME_FT_STATE_STEP_DUE] ++
  [TIME_PTP_OFS, TIME_PTP_FREQ, TIME_PTP_UTC_OFS, TIME_PTP_UTC_OFS_VALID, TIME_GM_ID, TIME_LAST_STEP, TIME_LAST_STEP_AT, TIME_CFG_FOLLOW_PTP, TIME_CFG_ZONE, TIME_CFG_UTC_OFS, TIME_EVT_STEP, TIME_EVT_HOLDOVER, TIME_EVT_PTP_REJECT, TIME_EVT_RTC_SET, TIME_SETCNT_0, TIME_SETCNT_1, TIME_SETCNT_2, TIME_SETCNT_3, TIME_FRZ_TIMEOUTS, TIME_SET_COUNT] ++
  [TIME_CORR_CTRL_CAPTURE, TIME_CORR_CTRL_AUTO, TIME_CORR_SEQ, TIME_CORR_FT, TIME_CORR_TICK_LO, TIME_CORR_TICK_HI, TIME_CORR_SEQ_END]

/-! Table 13-6: Alarm, base 0x0002_0200 + 0x40 × aa, aa = 00 to 15, fields TIME_ALM_aa_ -/

def TIME_ALM_CFG_ENABLE : Row := { base := 0x20200, dims := [(16, 0x40)], lo := 0, width := 1, acc := .rw, reset := 0, keep := .mram }
def TIME_ALM_CFG_PERIODIC : Row := { base := 0x20200, dims := [(16, 0x40)], lo := 1, width := 1, acc := .rw, reset := 0, keep := .mram }
def TIME_ALM_CFG_CATCHUP : Row := { base := 0x20200, dims := [(16, 0x40)], lo := 2, width := 1, acc := .rw, reset := 0, keep := .mram }
def TIME_ALM_CFG_WAKE : Row := { base := 0x20200, dims := [(16, 0x40)], lo := 3, width := 1, acc := .rw, reset := 0, keep := .mram }
def TIME_ALM_CFG_MASK : Row := { base := 0x20200, dims := [(16, 0x40)], lo := 4, width := 6, acc := .rw, reset := 0, keep := .mram }
def TIME_ALM_CFG_WDAY_MASK : Row := { base := 0x20200, dims := [(16, 0x40)], lo := 10, width := 7, acc := .rw, reset := 0, keep := .mram }
def TIME_ALM_MATCH_SEC : Row := { base := 0x20204, dims := [(16, 0x40)], lo := 0, width := 7, acc := .rw, reset := 0, keep := .mram }
def TIME_ALM_MATCH_MIN : Row := { base := 0x20204, dims := [(16, 0x40)], lo := 8, width := 7, acc := .rw, reset := 0, keep := .mram }
def TIME_ALM_MATCH_HOUR : Row := { base := 0x20204, dims := [(16, 0x40)], lo := 16, width := 6, acc := .rw, reset := 0, keep := .mram }
def TIME_ALM_MATCH_DAY : Row := { base := 0x20208, dims := [(16, 0x40)], lo := 0, width := 6, acc := .rw, reset := 1, keep := .mram }
def TIME_ALM_MATCH_MONTH : Row := { base := 0x20208, dims := [(16, 0x40)], lo := 8, width := 5, acc := .rw, reset := 1, keep := .mram }
def TIME_ALM_MATCH_YEAR : Row := { base := 0x20208, dims := [(16, 0x40)], lo := 16, width := 8, acc := .rw, reset := 0, keep := .mram }
def TIME_ALM_MATCH_CENTURY : Row := { base := 0x20208, dims := [(16, 0x40)], lo := 24, width := 1, acc := .rw, reset := 0, keep := .mram }
def TIME_ALM_STATUS_FIRED : Row := { base := 0x2020C, dims := [(16, 0x40)], lo := 0, width := 1, acc := .w1c, reset := 0, keep := .vol, cnt := 32 }
def TIME_ALM_STATUS_SKIPPED : Row := { base := 0x2020C, dims := [(16, 0x40)], lo := 1, width := 1, acc := .w1c, reset := 0, keep := .vol, cnt := 39 }
def TIME_ALM_STATUS_MISSED : Row := { base := 0x2020C, dims := [(16, 0x40)], lo := 2, width := 1, acc := .w1c, reset := 0, keep := .vol, cnt := 46 }
def TIME_ALM_STATUS_REPEAT_AFTER_SET : Row := { base := 0x2020C, dims := [(16, 0x40)], lo := 3, width := 1, acc := .w1c, reset := 0, keep := .vol, cnt := 53 }
def TIME_ALM_STATUS_SKIP_COUNT : Row := { base := 0x2020C, dims := [(16, 0x40)], lo := 8, width := 8, acc := .ro, reset := 0, keep := .vol }
def TIME_ALM_SETCNT_0 : Row := { base := 0x20210, dims := [(16, 0x40)], lo := 0, width := 8, acc := .rw, reset := 0, keep := .vol }
def TIME_ALM_SETCNT_1 : Row := { base := 0x20210, dims := [(16, 0x40)], lo := 8, width := 8, acc := .rw, reset := 0, keep := .vol }
def TIME_ALM_SETCNT_2 : Row := { base := 0x20210, dims := [(16, 0x40)], lo := 16, width := 8, acc := .rw, reset := 0, keep := .vol }
def TIME_ALM_SETCNT_3 : Row := { base := 0x20210, dims := [(16, 0x40)], lo := 24, width := 8, acc := .rw, reset := 0, keep := .vol }
def TIME_ALM_NEXT : Row := { base := 0x20214, dims := [(16, 0x40), (2, 0x4)], lo := 0, width := 32, acc := .ro, reset := 0, keep := .mram }
def TIME_ALM_LAST : Row := { base := 0x2021C, dims := [(16, 0x40), (2, 0x4)], lo := 0, width := 32, acc := .ro, reset := 0, keep := .vol }
def TIME_ALM_FIRE_COUNT : Row := { base := 0x20224, dims := [(16, 0x40)], lo := 0, width := 32, acc := .ro, reset := 0, keep := .vol }

/-- The rows of Table 13-6. -/
def tbl_13_6 : List Row :=
  [TIME_ALM_CFG_ENABLE, TIME_ALM_CFG_PERIODIC, TIME_ALM_CFG_CATCHUP, TIME_ALM_CFG_WAKE, TIME_ALM_CFG_MASK, TIME_ALM_CFG_WDAY_MASK, TIME_ALM_MATCH_SEC, TIME_ALM_MATCH_MIN, TIME_ALM_MATCH_HOUR, TIME_ALM_MATCH_DAY, TIME_ALM_MATCH_MONTH, TIME_ALM_MATCH_YEAR, TIME_ALM_MATCH_CENTURY, TIME_ALM_STATUS_FIRED, TIME_ALM_STATUS_SKIPPED, TIME_ALM_STATUS_MISSED, TIME_ALM_STATUS_REPEAT_AFTER_SET, TIME_ALM_STATUS_SKIP_COUNT, TIME_ALM_SETCNT_0, TIME_ALM_SETCNT_1] ++
  [TIME_ALM_SETCNT_2, TIME_ALM_SETCNT_3, TIME_ALM_NEXT, TIME_ALM_LAST, TIME_ALM_FIRE_COUNT]

/-! Table 14-5: EVR compartment bank, base 0x0003_0000 -/

def EVR_SEQ_NEWEST : Row := { base := 0x30000, dims := [], lo := 0, width := 32, acc := .ro, reset := 0, keep := .mram, banked := true }
def EVR_FIRST_FILL : Row := { base := 0x30004, dims := [], lo := 0, width := 16, acc := .ro, reset := 0, keep := .mram, banked := true }
def EVR_FIRST_FULL : Row := { base := 0x30004, dims := [], lo := 16, width := 1, acc := .ro, reset := 0, keep := .mram, banked := true }
def EVR_FIRST_BASE : Row := { base := 0x30008, dims := [], lo := 0, width := 32, acc := .ro, reset := 1, keep := .mram, banked := true }
def EVR_LAST_OLDEST : Row := { base := 0x3000C, dims := [], lo := 0, width := 32, acc := .ro, reset := 1, keep := .mram, banked := true }
def EVR_SIZE_FIRST_BLK : Row := { base := 0x30010, dims := [], lo := 0, width := 10, acc := .ro, reset := 0, keep := .vol, banked := true, virt := true }
def EVR_SIZE_LAST_BLK : Row := { base := 0x30010, dims := [], lo := 16, width := 11, acc := .ro, reset := 0, keep := .vol, banked := true, virt := true }
def EVR_OP_SECONDS : Row := { base := 0x30014, dims := [], lo := 0, width := 32, acc := .ro, reset := 0, keep := .plat }
def EVR_POWER_CYCLES : Row := { base := 0x30018, dims := [], lo := 0, width := 32, acc := .ro, reset := 0, keep := .plat }
def EVR_DROPPED : Row := { base := 0x3001C, dims := [], lo := 0, width := 32, acc := .ro, reset := 0, keep := .mram, banked := true }
def EVR_EVT_DROPPED : Row := { base := 0x30020, dims := [], lo := 0, width := 1, acc := .w1c, reset := 0, keep := .mram, banked := true, cnt := 32 }
def EVR_SETCNT : Row := { base := 0x30024, dims := [], lo := 0, width := 8, acc := .rw, reset := 0, keep := .mram, banked := true }
def EVR_LIST_SEL : Row := { base := 0x30028, dims := [], lo := 0, width := 32, acc := .ws, reset := 0, keep := .mram, banked := true }
def EVR_CUR_SEQ : Row := { base := 0x3002C, dims := [], lo := 0, width := 32, acc := .rw, reset := 0, keep := .vol, banked := true }
def EVR_REC : Row := { base := 0x31000, dims := [(64, 0x4)], lo := 0, width := 32, acc := .ro, reset := 0, keep := .vol, banked := true, virt := true }
def EVR_LIST_W64 : Row := { base := 0x32000, dims := [(4, 0x40), (16, 0x4)], lo := 0, width := 1, acc := .ws, reset := 0, keep := .mram, banked := true }
def EVR_LIST_ENABLE : Row := { base := 0x32000, dims := [(4, 0x40), (16, 0x4)], lo := 1, width := 1, acc := .ws, reset := 0, keep := .mram, banked := true }
def EVR_LIST_ADDR : Row := { base := 0x32000, dims := [(4, 0x40), (16, 0x4)], lo := 2, width := 30, acc := .ws, reset := 0, keep := .mram, banked := true }
def EVR_AREA_FIRST_BLK_BASE : Row := { base := 0x38000, dims := [(2, 0x10)], lo := 0, width := 10, acc := .ws, reset := 64, keep := .mram }
def EVR_AREA_FIRST_BLK : Row := { base := 0x38020, dims := [(32, 0x10)], lo := 0, width := 10, acc := .ws, reset := 0, keep := .mram }
def EVR_AREA_LAST_BLK_BASE : Row := { base := 0x38000, dims := [(2, 0x10)], lo := 16, width := 11, acc := .ws, reset := 448, keep := .mram }
def EVR_AREA_LAST_BLK : Row := { base := 0x38020, dims := [(32, 0x10)], lo := 16, width := 11, acc := .ws, reset := 0, keep := .mram }

/-- The rows of Table 14-5. -/
def tbl_14_5 : List Row :=
  [EVR_SEQ_NEWEST, EVR_FIRST_FILL, EVR_FIRST_FULL, EVR_FIRST_BASE, EVR_LAST_OLDEST, EVR_SIZE_FIRST_BLK, EVR_SIZE_LAST_BLK, EVR_OP_SECONDS, EVR_POWER_CYCLES, EVR_DROPPED, EVR_EVT_DROPPED, EVR_SETCNT, EVR_LIST_SEL, EVR_CUR_SEQ, EVR_REC, EVR_LIST_W64, EVR_LIST_ENABLE, EVR_LIST_ADDR, EVR_AREA_FIRST_BLK_BASE, EVR_AREA_FIRST_BLK] ++
  [EVR_AREA_LAST_BLK_BASE, EVR_AREA_LAST_BLK]

/-! Table 14-6: Watch entry, base 0x0003_3000 + 0x20 × tt, tt = 00 to 15, fields EVR_WATCH_tt_ -/

def EVR_WATCH_ADDR : Row := { base := 0x33000, dims := [(16, 0x20)], lo := 0, width := 32, acc := .ws, reset := 0, keep := .mram, banked := true }
def EVR_WATCH_MASK : Row := { base := 0x33004, dims := [(16, 0x20)], lo := 0, width := 32, acc := .ws, reset := 4294967295, keep := .mram, banked := true }
def EVR_WATCH_VALUE : Row := { base := 0x33008, dims := [(16, 0x20)], lo := 0, width := 32, acc := .ws, reset := 0, keep := .mram, banked := true }
def EVR_WATCH_CFG_ENABLE : Row := { base := 0x3300C, dims := [(16, 0x20)], lo := 0, width := 1, acc := .ws, reset := 0, keep := .mram, banked := true }
def EVR_WATCH_CFG_COND : Row := { base := 0x3300C, dims := [(16, 0x20)], lo := 1, width := 3, acc := .ws, reset := 0, keep := .mram, banked := true, rng := .nat 0 4 }
def EVR_WATCH_CFG_LIST : Row := { base := 0x3300C, dims := [(16, 0x20)], lo := 4, width := 2, acc := .ws, reset := 0, keep := .mram, banked := true }
def EVR_WATCH_CFG_HOLDOFF : Row := { base := 0x3300C, dims := [(16, 0x20)], lo := 16, width := 14, acc := .ws, reset := 1000, keep := .mram, banked := true, rng := .nat 0 10000 }
def EVR_WATCH_HITS : Row := { base := 0x33010, dims := [(16, 0x20)], lo := 0, width := 32, acc := .ro, reset := 0, keep := .vol, banked := true }
def EVR_WATCH_LAST_TIME : Row := { base := 0x33018, dims := [(16, 0x20)], lo := 0, width := 64, acc := .ro, reset := 0, keep := .vol, banked := true }

/-- The rows of Table 14-6. -/
def tbl_14_6 : List Row :=
  [EVR_WATCH_ADDR, EVR_WATCH_MASK, EVR_WATCH_VALUE, EVR_WATCH_CFG_ENABLE, EVR_WATCH_CFG_COND, EVR_WATCH_CFG_LIST, EVR_WATCH_CFG_HOLDOFF, EVR_WATCH_HITS, EVR_WATCH_LAST_TIME]

end Sys2Proof.Machine.Obj
end

