-- ==== Sys2Proof/Machine/FieldsB.lean ====
section
/-!
DEFINITION. The rows of the spec's object maps: metering, energy, pulses and seals. Each definition is one field of one table, with the
address, bits, access code and reset value the table gives it (R5, R86).
-/
namespace Sys2Proof.Machine.Obj

/-! Table 8-10: MAE global fields, base 0x0040_0000 -/

def MAE_REF_SET : Row := { base := 0x400000, dims := [], lo := 0, width := 2, acc := .ws, reset := 0, keep := .mram }
def MAE_F_NOM : Row := { base := 0x400004, dims := [], lo := 0, width := 7, acc := .ws, reset := 50, keep := .mram, rng := .oneOf [50, 60] }
def MAE_STATUS_ACQ : Row := { base := 0x400008, dims := [], lo := 0, width := 1, acc := .ro, reset := 0, keep := .vol }
def MAE_STATUS_FACTORY_CAL_OK : Row := { base := 0x400008, dims := [], lo := 1, width := 1, acc := .ro, reset := 0, keep := .vol }
def MAE_SAMPLE_COUNT : Row := { base := 0x40000C, dims := [], lo := 0, width := 32, acc := .ro, reset := 0, keep := .vol }
def MAE_SAMPLE_TIME : Row := { base := 0x400010, dims := [], lo := 0, width := 64, acc := .ro, reset := 0, keep := .vol }
def MAE_CFG_GEN : Row := { base := 0x400018, dims := [], lo := 0, width := 32, acc := .ro, reset := 0, keep := .plat }
def MAE_FACTORY_CAL_ID : Row := { base := 0x40001C, dims := [], lo := 0, width := 32, acc := .ro, reset := 0, keep := .plat }

/-- The rows of Table 8-10. -/
def tbl_8_10 : List Row :=
  [MAE_REF_SET, MAE_F_NOM, MAE_STATUS_ACQ, MAE_STATUS_FACTORY_CAL_OK, MAE_SAMPLE_COUNT, MAE_SAMPLE_TIME, MAE_CFG_GEN, MAE_FACTORY_CAL_ID]

/-! Table 8-11: Voltage set, base 0x0041_0000 + 0x100 × s, fields MAE_SET_s_ -/

def MAE_SET_ENABLE : Row := { base := 0x410000, dims := [(4, 0x100)], lo := 0, width := 1, acc := .ws, reset := 0, keep := .mram }
def MAE_SET_WIRING : Row := { base := 0x410000, dims := [(4, 0x100)], lo := 1, width := 1, acc := .ws, reset := 0, keep := .mram }
def MAE_SET_UN : Row := { base := 0x410004, dims := [(4, 0x100)], lo := 0, width := 12, acc := .ws, reset := 2300, keep := .mram, rng := .nat 577 2770 }
def MAE_SET_VGAIN : Row := { base := 0x410008, dims := [(4, 0x100), (4, 0x8)], lo := 0, width := 32, acc := .ws, reset := 1073741824, keep := .mram, rng := .nat 939524096 1207959552 }
def MAE_SET_VPHASE : Row := { base := 0x41000C, dims := [(4, 0x100), (4, 0x8)], lo := 0, width := 32, acc := .ws, reset := 0, keep := .mram, rng := .int (-10000) 10000 }
def MAE_SET_SEQ : Row := { base := 0x410028, dims := [(4, 0x100)], lo := 0, width := 32, acc := .ro, reset := 0, keep := .vol }
def MAE_SET_FREQ : Row := { base := 0x41002C, dims := [(4, 0x100)], lo := 0, width := 32, acc := .ro, reset := 0, keep := .vol }
def MAE_SET_VRMS : Row := { base := 0x410030, dims := [(4, 0x100), (3, 0x4)], lo := 0, width := 32, acc := .ro, reset := 0, keep := .vol }
def MAE_SET_VRMS_N : Row := { base := 0x41003C, dims := [(4, 0x100)], lo := 0, width := 32, acc := .ro, reset := 0, keep := .vol }
def MAE_SET_FRAMING : Row := { base := 0x410040, dims := [(4, 0x100)], lo := 0, width := 2, acc := .ro, reset := 3, keep := .vol }
def MAE_SET_FREQ_RANGE : Row := { base := 0x410040, dims := [(4, 0x100)], lo := 2, width := 1, acc := .ro, reset := 0, keep := .vol }
def MAE_SET_CLIP : Row := { base := 0x410040, dims := [(4, 0x100)], lo := 3, width := 1, acc := .ro, reset := 0, keep := .vol }
def MAE_SET_CLIP_COUNT : Row := { base := 0x410044, dims := [(4, 0x100)], lo := 0, width := 32, acc := .ro, reset := 0, keep := .vol }
def MAE_SET_LAST_CROSSING : Row := { base := 0x410048, dims := [(4, 0x100)], lo := 0, width := 64, acc := .ro, reset := 0, keep := .vol }
def MAE_SET_SEQ_END : Row := { base := 0x410050, dims := [(4, 0x100)], lo := 0, width := 32, acc := .ro, reset := 0, keep := .vol }

/-- The rows of Table 8-11. -/
def tbl_8_11 : List Row :=
  [MAE_SET_ENABLE, MAE_SET_WIRING, MAE_SET_UN, MAE_SET_VGAIN, MAE_SET_VPHASE, MAE_SET_SEQ, MAE_SET_FREQ, MAE_SET_VRMS, MAE_SET_VRMS_N, MAE_SET_FRAMING, MAE_SET_FREQ_RANGE, MAE_SET_CLIP, MAE_SET_CLIP_COUNT, MAE_SET_LAST_CROSSING, MAE_SET_SEQ_END]

/-! Table 8-12: Current channel, base 0x0042_0000 + 0x40 × ccc, fields MAE_CH_ccc_ -/

def MAE_CH_ENABLE : Row := { base := 0x420000, dims := [(192, 0x40)], lo := 0, width := 1, acc := .ws, reset := 0, keep := .mram }
def MAE_CH_TYPE : Row := { base := 0x420000, dims := [(192, 0x40)], lo := 1, width := 1, acc := .ws, reset := 0, keep := .mram }
def MAE_CH_INVERT : Row := { base := 0x420000, dims := [(192, 0x40)], lo := 2, width := 1, acc := .ws, reset := 0, keep := .mram }
def MAE_CH_SET : Row := { base := 0x420000, dims := [(192, 0x40)], lo := 3, width := 2, acc := .ws, reset := 0, keep := .mram }
def MAE_CH_PHASE : Row := { base := 0x420000, dims := [(192, 0x40)], lo := 5, width := 2, acc := .ws, reset := 1, keep := .mram, rng := .nat 1 3 }
def MAE_CH_IN_RATED : Row := { base := 0x420004, dims := [(192, 0x40)], lo := 0, width := 32, acc := .ws, reset := 0, keep := .mram, rng := .orZero 1000 20000000 }
def MAE_CH_ROGO_SENS : Row := { base := 0x420008, dims := [(192, 0x40)], lo := 0, width := 32, acc := .ws, reset := 0, keep := .mram, rng := .orZero 1000 10000000 }
def MAE_CH_CREEP_PPM : Row := { base := 0x42000C, dims := [(192, 0x40)], lo := 0, width := 10, acc := .ws, reset := 400, keep := .mram, rng := .nat 0 800 }
def MAE_CH_SEG_COUNT : Row := { base := 0x420010, dims := [(192, 0x40)], lo := 0, width := 5, acc := .ws, reset := 1, keep := .mram, rng := .nat 1 16 }
def MAE_CH_LIVE_SEQ : Row := { base := 0x420014, dims := [(192, 0x40)], lo := 0, width := 32, acc := .ro, reset := 0, keep := .vol }
def MAE_CH_IRMS : Row := { base := 0x420018, dims := [(192, 0x40)], lo := 0, width := 32, acc := .ro, reset := 0, keep := .vol }
def MAE_CH_IRMS_RAW_PPM : Row := { base := 0x42001C, dims := [(192, 0x40)], lo := 0, width := 32, acc := .ro, reset := 0, keep := .vol }
def MAE_CH_P : Row := { base := 0x420020, dims := [(192, 0x40)], lo := 0, width := 32, acc := .ro, reset := 0, keep := .vol }
def MAE_CH_Q : Row := { base := 0x420024, dims := [(192, 0x40)], lo := 0, width := 32, acc := .ro, reset := 0, keep := .vol }
def MAE_CH_FLAGS_SEG : Row := { base := 0x420028, dims := [(192, 0x40)], lo := 0, width := 4, acc := .ro, reset := 0, keep := .vol }
def MAE_CH_FLAGS_CREEP : Row := { base := 0x420028, dims := [(192, 0x40)], lo := 4, width := 1, acc := .ro, reset := 0, keep := .vol }
def MAE_CH_FLAGS_CLIP : Row := { base := 0x420028, dims := [(192, 0x40)], lo := 5, width := 1, acc := .ro, reset := 0, keep := .vol }
def MAE_CH_FLAGS_SETTLING : Row := { base := 0x420028, dims := [(192, 0x40)], lo := 6, width := 1, acc := .ro, reset := 0, keep := .vol }
def MAE_CH_FLAGS_SPLIT : Row := { base := 0x420028, dims := [(192, 0x40)], lo := 7, width := 1, acc := .ro, reset := 0, keep := .vol }
def MAE_CH_GAIN_USED : Row := { base := 0x42002C, dims := [(192, 0x40)], lo := 0, width := 32, acc := .ro, reset := 0, keep := .vol }
def MAE_CH_PHASE_USED : Row := { base := 0x420030, dims := [(192, 0x40)], lo := 0, width := 32, acc := .ro, reset := 0, keep := .vol }
def MAE_CH_CLIP_COUNT : Row := { base := 0x420034, dims := [(192, 0x40)], lo := 0, width := 32, acc := .ro, reset := 0, keep := .vol }
def MAE_CH_VRMS : Row := { base := 0x420038, dims := [(192, 0x40)], lo := 0, width := 32, acc := .ro, reset := 0, keep := .vol }
def MAE_CH_LIVE_SEQ_END : Row := { base := 0x42003C, dims := [(192, 0x40)], lo := 0, width := 32, acc := .ro, reset := 0, keep := .vol }

/-- The rows of Table 8-12. -/
def tbl_8_12 : List Row :=
  [MAE_CH_ENABLE, MAE_CH_TYPE, MAE_CH_INVERT, MAE_CH_SET, MAE_CH_PHASE, MAE_CH_IN_RATED, MAE_CH_ROGO_SENS, MAE_CH_CREEP_PPM, MAE_CH_SEG_COUNT, MAE_CH_LIVE_SEQ, MAE_CH_IRMS, MAE_CH_IRMS_RAW_PPM, MAE_CH_P, MAE_CH_Q, MAE_CH_FLAGS_SEG, MAE_CH_FLAGS_CREEP, MAE_CH_FLAGS_CLIP, MAE_CH_FLAGS_SETTLING, MAE_CH_FLAGS_SPLIT, MAE_CH_GAIN_USED] ++
  [MAE_CH_PHASE_USED, MAE_CH_CLIP_COUNT, MAE_CH_VRMS, MAE_CH_LIVE_SEQ_END]

/-! Table 8-13: Correction segment, base 0x0043_0000 + 0x100 × ccc + 0x10 × ss -/

def MAE_CH_END_SEG_FIRST : Row := { base := 0x430000, dims := [(192, 0x100)], lo := 0, width := 32, acc := .ws, reset := 4000000, keep := .mram, rng := .nat 0 4000000 }
def MAE_CH_END_SEG : Row := { base := 0x430010, dims := [(192, 0x100), (15, 0x10)], lo := 0, width := 32, acc := .ws, reset := 0, keep := .mram, rng := .nat 0 4000000 }
def MAE_CH_GAIN_SEG : Row := { base := 0x430004, dims := [(192, 0x100), (16, 0x10)], lo := 0, width := 32, acc := .ws, reset := 1073741824, keep := .mram, rng := .nat 536870912 2147483648 }
def MAE_CH_PHASE_SEG : Row := { base := 0x430008, dims := [(192, 0x100), (16, 0x10)], lo := 0, width := 32, acc := .ws, reset := 0, keep := .mram, rng := .int (-50000) 50000 }
def MAE_SEG_RSVD : Row := { base := 0x43000C, dims := [(192, 0x100), (16, 0x10)], lo := 0, width := 32, acc := .ro, reset := 0, keep := .vol, virt := true }

/-- The rows of Table 8-13. -/
def tbl_8_13 : List Row :=
  [MAE_CH_END_SEG_FIRST, MAE_CH_END_SEG, MAE_CH_GAIN_SEG, MAE_CH_PHASE_SEG, MAE_SEG_RSVD]

/-! Table 8-14: Circuit, base 0x0044_0000 + 0x20 × ccc, fields MAE_CIRC_ccc_ -/

def MAE_CIRC_ENABLE : Row := { base := 0x440000, dims := [(192, 0x20)], lo := 0, width := 1, acc := .ws, reset := 0, keep := .mram }
def MAE_CIRC_THREE_PHASE : Row := { base := 0x440000, dims := [(192, 0x20)], lo := 1, width := 1, acc := .ws, reset := 0, keep := .mram }
def MAE_CIRC_OWNER : Row := { base := 0x440000, dims := [(192, 0x20)], lo := 8, width := 8, acc := .ws, reset := 0, keep := .mram }
def MAE_CIRC_CH_A : Row := { base := 0x440004, dims := [(192, 0x20)], lo := 0, width := 8, acc := .ws, reset := 0, keep := .mram, rng := .nat 0 191 }
def MAE_CIRC_CH_B : Row := { base := 0x440004, dims := [(192, 0x20)], lo := 8, width := 8, acc := .ws, reset := 0, keep := .mram, rng := .nat 0 191 }
def MAE_CIRC_CH_C : Row := { base := 0x440004, dims := [(192, 0x20)], lo := 16, width := 8, acc := .ws, reset := 0, keep := .mram, rng := .nat 0 191 }
def MAE_CIRC_CAL_GEN : Row := { base := 0x440008, dims := [(192, 0x20)], lo := 0, width := 32, acc := .ro, reset := 0, keep := .mram }
def MAE_CIRC_CAL_HASH : Row := { base := 0x44000C, dims := [(192, 0x20)], lo := 0, width := 32, acc := .ro, reset := 0, keep := .mram }
def MAE_CIRC_CAL_TIME : Row := { base := 0x440010, dims := [(192, 0x20)], lo := 0, width := 64, acc := .ro, reset := 0, keep := .mram }
def MAE_CIRC_RSVD : Row := { base := 0x440018, dims := [(192, 0x20), (2, 0x4)], lo := 0, width := 32, acc := .ro, reset := 0, keep := .vol, virt := true }

/-- The rows of Table 8-14. -/
def tbl_8_14 : List Row :=
  [MAE_CIRC_ENABLE, MAE_CIRC_THREE_PHASE, MAE_CIRC_OWNER, MAE_CIRC_CH_A, MAE_CIRC_CH_B, MAE_CIRC_CH_C, MAE_CIRC_CAL_GEN, MAE_CIRC_CAL_HASH, MAE_CIRC_CAL_TIME, MAE_CIRC_RSVD]

/-! Table 8-15: Calibration and waveform capture, base 0x0045_0000 -/

def MAE_CAL_CH : Row := { base := 0x450000, dims := [], lo := 0, width := 8, acc := .rw, reset := 0, keep := .vol, rng := .nat 0 191 }
def MAE_CAL_CYCLES : Row := { base := 0x450000, dims := [], lo := 16, width := 16, acc := .rw, reset := 50, keep := .vol, rng := .nat 1 30000 }
def MAE_CAL_CTRL_START : Row := { base := 0x450004, dims := [], lo := 0, width := 1, acc := .wo, reset := 0, keep := .vol }
def MAE_CAL_CTRL_ABORT : Row := { base := 0x450004, dims := [], lo := 1, width := 1, acc := .wo, reset := 0, keep := .vol }
def MAE_CAL_STATE : Row := { base := 0x450008, dims := [], lo := 0, width := 3, acc := .ro, reset := 0, keep := .vol }
def MAE_CAL_ABORT_CAUSE : Row := { base := 0x450008, dims := [], lo := 8, width := 8, acc := .ro, reset := 0, keep := .vol }
def MAE_CAL_CYCLES_DONE : Row := { base := 0x45000C, dims := [], lo := 0, width := 32, acc := .ro, reset := 0, keep := .vol }
def MAE_CAL_E_RAW : Row := { base := 0x450010, dims := [], lo := 0, width := 64, acc := .ro, reset := 0, keep := .vol }
def MAE_CAL_EQ_RAW : Row := { base := 0x450018, dims := [], lo := 0, width := 64, acc := .ro, reset := 0, keep := .vol }
def MAE_CAL_IRMS_PPM : Row := { base := 0x450020, dims := [], lo := 0, width := 32, acc := .ro, reset := 0, keep := .vol }
def MAE_CAL_VRMS : Row := { base := 0x450024, dims := [], lo := 0, width := 32, acc := .ro, reset := 0, keep := .vol }
def MAE_CAL_T_START : Row := { base := 0x450028, dims := [], lo := 0, width := 64, acc := .ro, reset := 0, keep := .vol }
def MAE_CAL_T_END : Row := { base := 0x450030, dims := [], lo := 0, width := 64, acc := .ro, reset := 0, keep := .vol }
def MAE_CAL_SAMPLES : Row := { base := 0x450038, dims := [], lo := 0, width := 32, acc := .ro, reset := 0, keep := .vol }
def MAE_WAVE_SET : Row := { base := 0x450100, dims := [], lo := 0, width := 2, acc := .rw, reset := 0, keep := .vol }
def MAE_WAVE_CH : Row := { base := 0x450104, dims := [(4, 0x1)], lo := 0, width := 8, acc := .rw, reset := 0, keep := .vol }
def MAE_WAVE_START : Row := { base := 0x450108, dims := [], lo := 0, width := 1, acc := .wo, reset := 0, keep := .vol }
def MAE_WAVE_STATE : Row := { base := 0x45010C, dims := [], lo := 0, width := 2, acc := .ro, reset := 0, keep := .vol }
def MAE_WAVE_T0 : Row := { base := 0x450110, dims := [], lo := 0, width := 64, acc := .ro, reset := 0, keep := .vol }

/-- The rows of Table 8-15. -/
def tbl_8_15 : List Row :=
  [MAE_CAL_CH, MAE_CAL_CYCLES, MAE_CAL_CTRL_START, MAE_CAL_CTRL_ABORT, MAE_CAL_STATE, MAE_CAL_ABORT_CAUSE, MAE_CAL_CYCLES_DONE, MAE_CAL_E_RAW, MAE_CAL_EQ_RAW, MAE_CAL_IRMS_PPM, MAE_CAL_VRMS, MAE_CAL_T_START, MAE_CAL_T_END, MAE_CAL_SAMPLES, MAE_WAVE_SET, MAE_WAVE_CH, MAE_WAVE_START, MAE_WAVE_STATE, MAE_WAVE_T0]

/-! Table 9-1: Latch, commit and event settings, base 0x0046_0000 -/

def MAE_LATCH_N : Row := { base := 0x460000, dims := [], lo := 0, width := 16, acc := .ws, reset := 50, keep := .mram, rng := .nat 0 65535 }
def MAE_LATCH_SEQ : Row := { base := 0x460004, dims := [], lo := 0, width := 32, acc := .ro, reset := 0, keep := .mram }
def MAE_LATCH_TIME : Row := { base := 0x460008, dims := [], lo := 0, width := 64, acc := .ro, reset := 0, keep := .mram }
def MAE_COMMIT_MS : Row := { base := 0x460010, dims := [], lo := 0, width := 11, acc := .ws, reset := 0, keep := .mram, rng := .orZero 100 1000 }
def MAE_COMMIT_TIME : Row := { base := 0x460018, dims := [], lo := 0, width := 64, acc := .ro, reset := 0, keep := .mram }
def MAE_SAG_START : Row := { base := 0x460020, dims := [], lo := 0, width := 11, acc := .ws, reset := 900, keep := .mram, rng := .nat 500 990 }
def MAE_SAG_END : Row := { base := 0x460020, dims := [], lo := 16, width := 11, acc := .ws, reset := 920, keep := .mram, rng := .nat 0 1000 }
def MAE_SWELL_START : Row := { base := 0x460024, dims := [], lo := 0, width := 11, acc := .ws, reset := 1100, keep := .mram, rng := .nat 1010 1500 }
def MAE_SWELL_END : Row := { base := 0x460024, dims := [], lo := 16, width := 11, acc := .ws, reset := 1080, keep := .mram, rng := .nat 1000 2047 }
def MAE_LOSS_START : Row := { base := 0x460028, dims := [], lo := 0, width := 11, acc := .ws, reset := 100, keep := .mram, rng := .nat 10 490 }
def MAE_LOSS_END : Row := { base := 0x460028, dims := [], lo := 16, width := 11, acc := .ws, reset := 120, keep := .mram }
def MAE_NMISS_N : Row := { base := 0x46002C, dims := [], lo := 0, width := 11, acc := .ws, reset := 200, keep := .mram, rng := .nat 50 500 }
def MAE_GAP_SEQ : Row := { base := 0x460030, dims := [], lo := 0, width := 32, acc := .ro, reset := 0, keep := .mram }

/-- The rows of Table 9-1. -/
def tbl_9_1 : List Row :=
  [MAE_LATCH_N, MAE_LATCH_SEQ, MAE_LATCH_TIME, MAE_COMMIT_MS, MAE_COMMIT_TIME, MAE_SAG_START, MAE_SAG_END, MAE_SWELL_START, MAE_SWELL_END, MAE_LOSS_START, MAE_LOSS_END, MAE_NMISS_N, MAE_GAP_SEQ]

/-! Table 9-2: Latched energy record, base 0x0048_0000 + 0x80 × ccc, fields MAE_LCH_ccc_ -/

def MAE_LCH_SEQ : Row := { base := 0x480000, dims := [(192, 0x80)], lo := 0, width := 32, acc := .ro, reset := 0, keep := .vol }
def MAE_LCH_FLAGS_SPLIT : Row := { base := 0x480004, dims := [(192, 0x80)], lo := 0, width := 1, acc := .ro, reset := 0, keep := .vol }
def MAE_LCH_FLAGS_RESUMED : Row := { base := 0x480004, dims := [(192, 0x80)], lo := 1, width := 1, acc := .ro, reset := 0, keep := .vol }
def MAE_LCH_FLAGS_GAP : Row := { base := 0x480004, dims := [(192, 0x80)], lo := 2, width := 1, acc := .ro, reset := 0, keep := .vol }
def MAE_LCH_FLAGS_CREEP : Row := { base := 0x480004, dims := [(192, 0x80)], lo := 3, width := 1, acc := .ro, reset := 0, keep := .vol }
def MAE_LCH_FLAGS_CLIP : Row := { base := 0x480004, dims := [(192, 0x80)], lo := 4, width := 1, acc := .ro, reset := 0, keep := .vol }
def MAE_LCH_FLAGS_WRAP : Row := { base := 0x480004, dims := [(192, 0x80)], lo := 5, width := 1, acc := .ro, reset := 0, keep := .vol }
def MAE_LCH_FLAGS_TICK_STAMP : Row := { base := 0x480004, dims := [(192, 0x80)], lo := 6, width := 1, acc := .ro, reset := 0, keep := .vol }
def MAE_LCH_FLAGS_ENABLED : Row := { base := 0x480004, dims := [(192, 0x80)], lo := 7, width := 1, acc := .ro, reset := 0, keep := .vol }
def MAE_LCH_TIME : Row := { base := 0x480008, dims := [(192, 0x80)], lo := 0, width := 64, acc := .ro, reset := 0, keep := .vol }
def MAE_LCH_T_START : Row := { base := 0x480010, dims := [(192, 0x80)], lo := 0, width := 64, acc := .ro, reset := 0, keep := .vol }
def MAE_LCH_EP_IMP : Row := { base := 0x480018, dims := [(192, 0x80)], lo := 0, width := 64, acc := .ro, reset := 0, keep := .mram }
def MAE_LCH_EP_EXP : Row := { base := 0x480020, dims := [(192, 0x80)], lo := 0, width := 64, acc := .ro, reset := 0, keep := .mram }
def MAE_LCH_EQ_IND : Row := { base := 0x480028, dims := [(192, 0x80)], lo := 0, width := 64, acc := .ro, reset := 0, keep := .mram }
def MAE_LCH_EQ_CAP : Row := { base := 0x480030, dims := [(192, 0x80)], lo := 0, width := 64, acc := .ro, reset := 0, keep := .mram }
def MAE_LCH_CYCLES : Row := { base := 0x480038, dims := [(192, 0x80)], lo := 0, width := 32, acc := .ro, reset := 0, keep := .vol }
def MAE_LCH_P_MEAN : Row := { base := 0x480040, dims := [(192, 0x80)], lo := 0, width := 64, acc := .ro, reset := 0, keep := .vol }
def MAE_LCH_Q_MEAN : Row := { base := 0x480048, dims := [(192, 0x80)], lo := 0, width := 64, acc := .ro, reset := 0, keep := .vol }
def MAE_LCH_RSVD0 : Row := { base := 0x48003C, dims := [(192, 0x80)], lo := 0, width := 32, acc := .ro, reset := 0, keep := .vol, virt := true }
def MAE_LCH_RSVD : Row := { base := 0x480050, dims := [(192, 0x80), (12, 0x4)], lo := 0, width := 32, acc := .ro, reset := 0, keep := .vol, virt := true }

/-- The rows of Table 9-2. -/
def tbl_9_2 : List Row :=
  [MAE_LCH_SEQ, MAE_LCH_FLAGS_SPLIT, MAE_LCH_FLAGS_RESUMED, MAE_LCH_FLAGS_GAP, MAE_LCH_FLAGS_CREEP, MAE_LCH_FLAGS_CLIP, MAE_LCH_FLAGS_WRAP, MAE_LCH_FLAGS_TICK_STAMP, MAE_LCH_FLAGS_ENABLED, MAE_LCH_TIME, MAE_LCH_T_START, MAE_LCH_EP_IMP, MAE_LCH_EP_EXP, MAE_LCH_EQ_IND, MAE_LCH_EQ_CAP, MAE_LCH_CYCLES, MAE_LCH_P_MEAN, MAE_LCH_Q_MEAN, MAE_LCH_RSVD0, MAE_LCH_RSVD]

/-! Table 9-3: Latched circuit record, base 0x0049_0000 + 0x80 × ccc, fields MAE_LCIRC_ccc_ -/

def MAE_LCIRC_SEQ : Row := { base := 0x490000, dims := [(192, 0x80)], lo := 0, width := 32, acc := .ro, reset := 0, keep := .vol }
def MAE_LCIRC_FLAGS_SPLIT : Row := { base := 0x490004, dims := [(192, 0x80)], lo := 0, width := 1, acc := .ro, reset := 0, keep := .vol }
def MAE_LCIRC_FLAGS_RESUMED : Row := { base := 0x490004, dims := [(192, 0x80)], lo := 1, width := 1, acc := .ro, reset := 0, keep := .vol }
def MAE_LCIRC_FLAGS_GAP : Row := { base := 0x490004, dims := [(192, 0x80)], lo := 2, width := 1, acc := .ro, reset := 0, keep := .vol }
def MAE_LCIRC_FLAGS_CREEP : Row := { base := 0x490004, dims := [(192, 0x80)], lo := 3, width := 1, acc := .ro, reset := 0, keep := .vol }
def MAE_LCIRC_FLAGS_CLIP : Row := { base := 0x490004, dims := [(192, 0x80)], lo := 4, width := 1, acc := .ro, reset := 0, keep := .vol }
def MAE_LCIRC_FLAGS_WRAP : Row := { base := 0x490004, dims := [(192, 0x80)], lo := 5, width := 1, acc := .ro, reset := 0, keep := .vol }
def MAE_LCIRC_FLAGS_TICK_STAMP : Row := { base := 0x490004, dims := [(192, 0x80)], lo := 6, width := 1, acc := .ro, reset := 0, keep := .vol }
def MAE_LCIRC_FLAGS_ENABLED : Row := { base := 0x490004, dims := [(192, 0x80)], lo := 7, width := 1, acc := .ro, reset := 0, keep := .vol }
def MAE_LCIRC_TIME : Row := { base := 0x490008, dims := [(192, 0x80)], lo := 0, width := 64, acc := .ro, reset := 0, keep := .vol }
def MAE_LCIRC_T_START : Row := { base := 0x490010, dims := [(192, 0x80)], lo := 0, width := 64, acc := .ro, reset := 0, keep := .vol }
def MAE_LCIRC_EP_IMP : Row := { base := 0x490018, dims := [(192, 0x80)], lo := 0, width := 64, acc := .ro, reset := 0, keep := .mram }
def MAE_LCIRC_EP_EXP : Row := { base := 0x490020, dims := [(192, 0x80)], lo := 0, width := 64, acc := .ro, reset := 0, keep := .mram }
def MAE_LCIRC_EQ_IND : Row := { base := 0x490028, dims := [(192, 0x80)], lo := 0, width := 64, acc := .ro, reset := 0, keep := .mram }
def MAE_LCIRC_EQ_CAP : Row := { base := 0x490030, dims := [(192, 0x80)], lo := 0, width := 64, acc := .ro, reset := 0, keep := .mram }
def MAE_LCIRC_CYCLES : Row := { base := 0x490038, dims := [(192, 0x80)], lo := 0, width := 32, acc := .ro, reset := 0, keep := .vol }
def MAE_LCIRC_P_MEAN : Row := { base := 0x490040, dims := [(192, 0x80)], lo := 0, width := 64, acc := .ro, reset := 0, keep := .vol }
def MAE_LCIRC_Q_MEAN : Row := { base := 0x490048, dims := [(192, 0x80)], lo := 0, width := 64, acc := .ro, reset := 0, keep := .vol }
def MAE_LCIRC_GAP_SEQ : Row := { base := 0x490050, dims := [(192, 0x80)], lo := 0, width := 32, acc := .ro, reset := 0, keep := .vol }
def MAE_LCIRC_EST_EP_IMP : Row := { base := 0x490058, dims := [(192, 0x80)], lo := 0, width := 64, acc := .ro, reset := 0, keep := .mram }
def MAE_LCIRC_EST_EP_EXP : Row := { base := 0x490060, dims := [(192, 0x80)], lo := 0, width := 64, acc := .ro, reset := 0, keep := .mram }
def MAE_LCIRC_RSVD0 : Row := { base := 0x49003C, dims := [(192, 0x80)], lo := 0, width := 32, acc := .ro, reset := 0, keep := .vol, virt := true }
def MAE_LCIRC_RSVD1 : Row := { base := 0x490054, dims := [(192, 0x80)], lo := 0, width := 32, acc := .ro, reset := 0, keep := .vol, virt := true }
def MAE_LCIRC_RSVD : Row := { base := 0x490068, dims := [(192, 0x80), (6, 0x4)], lo := 0, width := 32, acc := .ro, reset := 0, keep := .vol, virt := true }

/-- The rows of Table 9-3. -/
def tbl_9_3 : List Row :=
  [MAE_LCIRC_SEQ, MAE_LCIRC_FLAGS_SPLIT, MAE_LCIRC_FLAGS_RESUMED, MAE_LCIRC_FLAGS_GAP, MAE_LCIRC_FLAGS_CREEP, MAE_LCIRC_FLAGS_CLIP, MAE_LCIRC_FLAGS_WRAP, MAE_LCIRC_FLAGS_TICK_STAMP, MAE_LCIRC_FLAGS_ENABLED, MAE_LCIRC_TIME, MAE_LCIRC_T_START, MAE_LCIRC_EP_IMP, MAE_LCIRC_EP_EXP, MAE_LCIRC_EQ_IND, MAE_LCIRC_EQ_CAP, MAE_LCIRC_CYCLES, MAE_LCIRC_P_MEAN, MAE_LCIRC_Q_MEAN, MAE_LCIRC_GAP_SEQ, MAE_LCIRC_EST_EP_IMP] ++
  [MAE_LCIRC_EST_EP_EXP, MAE_LCIRC_RSVD0, MAE_LCIRC_RSVD1, MAE_LCIRC_RSVD]

/-! Table 9-4: Legacy view, base 0x004C_0000 -/

def LEG_EP_IMP : Row := { base := 0x4C0000, dims := [(192, 0x10)], lo := 0, width := 32, acc := .ro, reset := 0, keep := .vol, virt := true }
def LEG_EP_EXP : Row := { base := 0x4C0004, dims := [(192, 0x10)], lo := 0, width := 32, acc := .ro, reset := 0, keep := .vol, virt := true }
def LEG_EQ_IND : Row := { base := 0x4C0008, dims := [(192, 0x10)], lo := 0, width := 32, acc := .ro, reset := 0, keep := .vol, virt := true }
def LEG_EQ_CAP : Row := { base := 0x4C000C, dims := [(192, 0x10)], lo := 0, width := 32, acc := .ro, reset := 0, keep := .vol, virt := true }
def LEG_WRAP : Row := { base := 0x4C2000, dims := [(192, 0x8)], lo := 0, width := 4, acc := .w1c, reset := 0, keep := .mram }
def LEG_WRAPS : Row := { base := 0x4C2004, dims := [(192, 0x8)], lo := 0, width := 32, acc := .ro, reset := 0, keep := .plat }
def LEG_SETCNT : Row := { base := 0x4C3000, dims := [(192, 0x4)], lo := 0, width := 8, acc := .rw, reset := 0, keep := .mram }

/-- The rows of Table 9-4. -/
def tbl_9_4 : List Row :=
  [LEG_EP_IMP, LEG_EP_EXP, LEG_EQ_IND, LEG_EQ_CAP, LEG_WRAP, LEG_WRAPS, LEG_SETCNT]

/-! Table 9-6: Gap entry, base 0x0046_8000 + 0x20 × gg, gg = 00 to 63, fields MAE_GAP_gg_ -/

def MAE_GAPE_KIND : Row := { base := 0x468000, dims := [(64, 0x20)], lo := 0, width := 2, acc := .ro, reset := 0, keep := .mram }
def MAE_GAPE_EST_VALID : Row := { base := 0x468000, dims := [(64, 0x20)], lo := 2, width := 1, acc := .ro, reset := 0, keep := .mram }
def MAE_GAPE_SEQ : Row := { base := 0x468004, dims := [(64, 0x20)], lo := 0, width := 32, acc := .ro, reset := 0, keep := .mram }
def MAE_GAPE_START : Row := { base := 0x468008, dims := [(64, 0x20)], lo := 0, width := 64, acc := .ro, reset := 0, keep := .mram }
def MAE_GAPE_END : Row := { base := 0x468010, dims := [(64, 0x20)], lo := 0, width := 64, acc := .ro, reset := 0, keep := .mram }
def MAE_GAPE_LATCH_SEQ : Row := { base := 0x468018, dims := [(64, 0x20)], lo := 0, width := 32, acc := .ro, reset := 0, keep := .mram }
def MAE_GAPE_RSVD : Row := { base := 0x46801C, dims := [(64, 0x20)], lo := 0, width := 32, acc := .ro, reset := 0, keep := .mram, virt := true }

/-- The rows of Table 9-6. -/
def tbl_9_6 : List Row :=
  [MAE_GAPE_KIND, MAE_GAPE_EST_VALID, MAE_GAPE_SEQ, MAE_GAPE_START, MAE_GAPE_END, MAE_GAPE_LATCH_SEQ, MAE_GAPE_RSVD]

/-! Table 9-8: Set events, base 0x0046_1000 + 0x40 × s, fields MAE_SET_s_ -/

def MAE_SET_ACT_SAG : Row := { base := 0x461000, dims := [(4, 0x40)], lo := 0, width := 3, acc := .ro, reset := 0, keep := .vol }
def MAE_SET_ACT_SWELL : Row := { base := 0x461000, dims := [(4, 0x40)], lo := 3, width := 3, acc := .ro, reset := 0, keep := .vol }
def MAE_SET_ACT_LOSS : Row := { base := 0x461000, dims := [(4, 0x40)], lo := 6, width := 3, acc := .ro, reset := 0, keep := .vol }
def MAE_SET_ACT_NMISS : Row := { base := 0x461000, dims := [(4, 0x40)], lo := 9, width := 1, acc := .ro, reset := 0, keep := .vol }
def MAE_SET_ACT_SEQ : Row := { base := 0x461000, dims := [(4, 0x40)], lo := 10, width := 2, acc := .ro, reset := 0, keep := .vol }
def MAE_SET_EVT_SAG : Row := { base := 0x461004, dims := [(4, 0x40)], lo := 0, width := 1, acc := .w1c, reset := 0, keep := .vol, cnt := 32 }
def MAE_SET_EVT_SWELL : Row := { base := 0x461004, dims := [(4, 0x40)], lo := 1, width := 1, acc := .w1c, reset := 0, keep := .vol, cnt := 39 }
def MAE_SET_EVT_LOSS : Row := { base := 0x461004, dims := [(4, 0x40)], lo := 2, width := 1, acc := .w1c, reset := 0, keep := .vol, cnt := 46 }
def MAE_SET_EVT_NMISS : Row := { base := 0x461004, dims := [(4, 0x40)], lo := 3, width := 1, acc := .w1c, reset := 0, keep := .vol, cnt := 53 }
def MAE_SET_EVT_SEQ : Row := { base := 0x461004, dims := [(4, 0x40)], lo := 4, width := 1, acc := .w1c, reset := 0, keep := .vol, cnt := 60 }
def MAE_SET_SETCNT_0 : Row := { base := 0x461008, dims := [(4, 0x40)], lo := 0, width := 8, acc := .rw, reset := 0, keep := .vol }
def MAE_SET_SETCNT_1 : Row := { base := 0x461008, dims := [(4, 0x40)], lo := 8, width := 8, acc := .rw, reset := 0, keep := .vol }
def MAE_SET_SETCNT_2 : Row := { base := 0x461008, dims := [(4, 0x40)], lo := 16, width := 8, acc := .rw, reset := 0, keep := .vol }
def MAE_SET_SETCNT_3 : Row := { base := 0x461008, dims := [(4, 0x40)], lo := 24, width := 8, acc := .rw, reset := 0, keep := .vol }
def MAE_SET_SETCNT_SEQ : Row := { base := 0x46100C, dims := [(4, 0x40)], lo := 0, width := 8, acc := .rw, reset := 0, keep := .vol }
def MAE_SET_SAG_COUNT : Row := { base := 0x461010, dims := [(4, 0x40)], lo := 0, width := 16, acc := .ro, reset := 0, keep := .vol }
def MAE_SET_SWELL_COUNT : Row := { base := 0x461010, dims := [(4, 0x40)], lo := 16, width := 16, acc := .ro, reset := 0, keep := .vol }
def MAE_SET_LOSS_COUNT : Row := { base := 0x461014, dims := [(4, 0x40)], lo := 0, width := 16, acc := .ro, reset := 0, keep := .vol }
def MAE_SET_NMISS_COUNT : Row := { base := 0x461014, dims := [(4, 0x40)], lo := 16, width := 16, acc := .ro, reset := 0, keep := .vol }
def MAE_SET_LAST_DURATION : Row := { base := 0x461018, dims := [(4, 0x40)], lo := 0, width := 32, acc := .ro, reset := 0, keep := .vol }
def MAE_SET_LAST_EXTREME : Row := { base := 0x46101C, dims := [(4, 0x40)], lo := 0, width := 32, acc := .ro, reset := 0, keep := .vol }
def MAE_SET_LAST_START : Row := { base := 0x461020, dims := [(4, 0x40)], lo := 0, width := 64, acc := .ro, reset := 0, keep := .vol }
def MAE_SET_LAST_KIND : Row := { base := 0x461028, dims := [(4, 0x40)], lo := 0, width := 3, acc := .ro, reset := 0, keep := .vol }
def MAE_SET_LAST_PHASE : Row := { base := 0x461028, dims := [(4, 0x40)], lo := 3, width := 2, acc := .ro, reset := 0, keep := .vol }

/-- The rows of Table 9-8. -/
def tbl_9_8 : List Row :=
  [MAE_SET_ACT_SAG, MAE_SET_ACT_SWELL, MAE_SET_ACT_LOSS, MAE_SET_ACT_NMISS, MAE_SET_ACT_SEQ, MAE_SET_EVT_SAG, MAE_SET_EVT_SWELL, MAE_SET_EVT_LOSS, MAE_SET_EVT_NMISS, MAE_SET_EVT_SEQ, MAE_SET_SETCNT_0, MAE_SET_SETCNT_1, MAE_SET_SETCNT_2, MAE_SET_SETCNT_3, MAE_SET_SETCNT_SEQ, MAE_SET_SAG_COUNT, MAE_SET_SWELL_COUNT, MAE_SET_LOSS_COUNT, MAE_SET_NMISS_COUNT, MAE_SET_LAST_DURATION] ++
  [MAE_SET_LAST_EXTREME, MAE_SET_LAST_START, MAE_SET_LAST_KIND, MAE_SET_LAST_PHASE]

/-! Table 9-9: Pulse output, base 0x0046_2000 + 0x40 × n, fields MAE_PULSE_n_ -/

def MAE_PULSE_ENABLE : Row := { base := 0x462000, dims := [(8, 0x40)], lo := 0, width := 1, acc := .ws, reset := 0, keep := .mram }
def MAE_PULSE_QUANTITY : Row := { base := 0x462000, dims := [(8, 0x40)], lo := 1, width := 2, acc := .ws, reset := 0, keep := .mram }
def MAE_PULSE_OWNER : Row := { base := 0x462000, dims := [(8, 0x40)], lo := 8, width := 8, acc := .ws, reset := 0, keep := .mram }
def MAE_PULSE_CIRCUIT : Row := { base := 0x462004, dims := [(8, 0x40)], lo := 0, width := 8, acc := .ws, reset := 0, keep := .mram, rng := .nat 0 191 }
def MAE_PULSE_WEIGHT : Row := { base := 0x462008, dims := [(8, 0x40)], lo := 0, width := 32, acc := .ws, reset := 1000, keep := .mram, rng := .nat 1 10000000 }
def MAE_PULSE_BACKLOG_LIM : Row := { base := 0x46200C, dims := [(8, 0x40)], lo := 0, width := 16, acc := .ws, reset := 16, keep := .mram, rng := .nat 1 65535 }
def MAE_PULSE_EMITTED : Row := { base := 0x462010, dims := [(8, 0x40)], lo := 0, width := 32, acc := .ro, reset := 0, keep := .mram }
def MAE_PULSE_BACKLOG : Row := { base := 0x462014, dims := [(8, 0x40)], lo := 0, width := 32, acc := .ro, reset := 0, keep := .mram }
def MAE_PULSE_EVT_BACKLOG : Row := { base := 0x462018, dims := [(8, 0x40)], lo := 0, width := 1, acc := .w1c, reset := 0, keep := .vol, cnt := 32 }
def MAE_PULSE_SETCNT : Row := { base := 0x46201C, dims := [(8, 0x40)], lo := 0, width := 8, acc := .rw, reset := 0, keep := .vol }
def MAE_PULSE_LAST_WIDTH : Row := { base := 0x462020, dims := [(8, 0x40)], lo := 0, width := 16, acc := .ro, reset := 0, keep := .vol }
def MAE_PULSE_RESIDUE : Row := { base := 0x462024, dims := [(8, 0x40)], lo := 0, width := 32, acc := .ro, reset := 0, keep := .mram }

/-- The rows of Table 9-9. -/
def tbl_9_9 : List Row :=
  [MAE_PULSE_ENABLE, MAE_PULSE_QUANTITY, MAE_PULSE_OWNER, MAE_PULSE_CIRCUIT, MAE_PULSE_WEIGHT, MAE_PULSE_BACKLOG_LIM, MAE_PULSE_EMITTED, MAE_PULSE_BACKLOG, MAE_PULSE_EVT_BACKLOG, MAE_PULSE_SETCNT, MAE_PULSE_LAST_WIDTH, MAE_PULSE_RESIDUE]

/-! Table 9-10: Point mapping, base 0x0046_4000 + 8 × mmm, mmm = 000 to 511, fields MAE_MAP_mmm_ -/

def MAE_MAP_POINT : Row := { base := 0x464000, dims := [(512, 0x8)], lo := 0, width := 13, acc := .ws, reset := 0, keep := .mram }
def MAE_MAP_ENABLE : Row := { base := 0x464000, dims := [(512, 0x8)], lo := 13, width := 1, acc := .ws, reset := 0, keep := .mram }
def MAE_MAP_INDEX : Row := { base := 0x464004, dims := [(512, 0x8)], lo := 0, width := 8, acc := .ws, reset := 0, keep := .mram }
def MAE_MAP_CIRCUIT : Row := { base := 0x464004, dims := [(512, 0x8)], lo := 8, width := 1, acc := .ws, reset := 0, keep := .mram }
def MAE_MAP_FIELD : Row := { base := 0x464004, dims := [(512, 0x8)], lo := 9, width := 3, acc := .ws, reset := 0, keep := .mram }

/-- The rows of Table 9-10. -/
def tbl_9_10 : List Row :=
  [MAE_MAP_POINT, MAE_MAP_ENABLE, MAE_MAP_INDEX, MAE_MAP_CIRCUIT, MAE_MAP_FIELD]

/-! Table 9-11: Seal settings, base 0x004D_0000 -/

def MAE_SEAL_ENABLE : Row := { base := 0x4D0000, dims := [(34, 0x40)], lo := 0, width := 1, acc := .ws, reset := 0, keep := .mram }
def MAE_SEAL_INTERVAL : Row := { base := 0x4D0004, dims := [(34, 0x40)], lo := 0, width := 6, acc := .ws, reset := 15, keep := .mram, rng := .nat 0 63 }
def MAE_SEAL_SEQ : Row := { base := 0x4D0008, dims := [(34, 0x40)], lo := 0, width := 64, acc := .ro, reset := 0, keep := .plat }
def MAE_SEAL_OLDEST : Row := { base := 0x4D0010, dims := [(34, 0x40)], lo := 0, width := 64, acc := .ro, reset := 0, keep := .mram }
def MAE_SEAL_ACKED : Row := { base := 0x4D0018, dims := [(34, 0x40)], lo := 0, width := 64, acc := .ro, reset := 0, keep := .mram }
def MAE_SEAL_LOST : Row := { base := 0x4D0020, dims := [(34, 0x40)], lo := 0, width := 32, acc := .ro, reset := 0, keep := .mram }
def MAE_SEAL_EVT_LOST : Row := { base := 0x4D0024, dims := [(34, 0x40)], lo := 0, width := 1, acc := .w1c, reset := 0, keep := .mram, cnt := 32 }
def MAE_SEAL_SETCNT : Row := { base := 0x4D0028, dims := [(34, 0x40)], lo := 0, width := 8, acc := .rw, reset := 0, keep := .mram }
def MAE_SEAL_SIG_STATE : Row := { base := 0x4D002C, dims := [(34, 0x40)], lo := 0, width := 1, acc := .ro, reset := 0, keep := .vol }
def MAE_SEAL_CIRC : Row := { base := 0x4D1000, dims := [(6, 0x4)], lo := 0, width := 32, acc := .ws, reset := 0, keep := .mram }

/-- The rows of Table 9-11. -/
def tbl_9_11 : List Row :=
  [MAE_SEAL_ENABLE, MAE_SEAL_INTERVAL, MAE_SEAL_SEQ, MAE_SEAL_OLDEST, MAE_SEAL_ACKED, MAE_SEAL_LOST, MAE_SEAL_EVT_LOST, MAE_SEAL_SETCNT, MAE_SEAL_SIG_STATE, MAE_SEAL_CIRC]

end Sys2Proof.Machine.Obj
end

