-- ==== Sys2Proof/Machine/FieldsC.lean ====
section
/-!
DEFINITION. The rows of the spec's object maps: field buses, network and legacy ports. Each definition is one field of one table, with the
address, bits, access code and reset value the table gives it (R5, R86).
-/
namespace Sys2Proof.Machine.Obj

/-! Table 10-9: Port fields, base 0x0080_0000 + 0x1_0000 × pp -/

def FBC_CFG_ENABLE : Row := { base := 0x800000, dims := [(24, 0x10000)], lo := 0, width := 1, acc := .ws, reset := 0, keep := .mram }
def FBC_CFG_FD_EN : Row := { base := 0x800000, dims := [(24, 0x10000)], lo := 1, width := 1, acc := .ws, reset := 0, keep := .mram }
def FBC_CFG_BRS_EN : Row := { base := 0x800000, dims := [(24, 0x10000)], lo := 2, width := 1, acc := .ws, reset := 0, keep := .mram }
def FBC_CFG_PXE : Row := { base := 0x800000, dims := [(24, 0x10000)], lo := 3, width := 1, acc := .ws, reset := 1, keep := .mram }
def FBC_CFG_TRIPLE : Row := { base := 0x800000, dims := [(24, 0x10000)], lo := 4, width := 1, acc := .ws, reset := 0, keep := .mram }
def FBC_CFG_TDC_EN : Row := { base := 0x800000, dims := [(24, 0x10000)], lo := 5, width := 1, acc := .ws, reset := 0, keep := .mram }
def FBC_CFG_LISTEN : Row := { base := 0x800000, dims := [(24, 0x10000)], lo := 6, width := 1, acc := .ws, reset := 0, keep := .mram }
def FBC_CFG_RETRY_MODE : Row := { base := 0x800000, dims := [(24, 0x10000)], lo := 7, width := 1, acc := .ws, reset := 0, keep := .mram }
def FBC_CFG_RETRY_LIMIT : Row := { base := 0x800000, dims := [(24, 0x10000)], lo := 8, width := 8, acc := .ws, reset := 32, keep := .mram, rng := .nat 1 255 }
def FBC_NBT_NBRP : Row := { base := 0x800004, dims := [(24, 0x10000)], lo := 0, width := 9, acc := .ws, reset := 8, keep := .mram, rng := .nat 1 256 }
def FBC_NBT_NTSEG1 : Row := { base := 0x800004, dims := [(24, 0x10000)], lo := 16, width := 9, acc := .ws, reset := 69, keep := .mram, rng := .nat 1 256 }
def FBC_NBT2_NTSEG2 : Row := { base := 0x800008, dims := [(24, 0x10000)], lo := 0, width := 8, acc := .ws, reset := 10, keep := .mram, rng := .nat 1 128 }
def FBC_NBT2_NSJW : Row := { base := 0x800008, dims := [(24, 0x10000)], lo := 8, width := 8, acc := .ws, reset := 10, keep := .mram, rng := .nat 1 128 }
def FBC_DBT_DBRP : Row := { base := 0x80000C, dims := [(24, 0x10000)], lo := 0, width := 6, acc := .ws, reset := 1, keep := .mram, rng := .nat 1 32 }
def FBC_DBT_DTSEG1 : Row := { base := 0x80000C, dims := [(24, 0x10000)], lo := 8, width := 6, acc := .ws, reset := 29, keep := .mram, rng := .nat 1 32 }
def FBC_DBT_DTSEG2 : Row := { base := 0x80000C, dims := [(24, 0x10000)], lo := 16, width := 5, acc := .ws, reset := 10, keep := .mram, rng := .nat 1 16 }
def FBC_DBT_DSJW : Row := { base := 0x80000C, dims := [(24, 0x10000)], lo := 24, width := 5, acc := .ws, reset := 10, keep := .mram, rng := .nat 1 16 }
def FBC_TDCO : Row := { base := 0x800010, dims := [(24, 0x10000)], lo := 0, width := 7, acc := .ws, reset := 30, keep := .mram }
def FBC_STATE : Row := { base := 0x800014, dims := [(24, 0x10000)], lo := 0, width := 3, acc := .ro, reset := 0, keep := .vol }
def FBC_TDCV : Row := { base := 0x800014, dims := [(24, 0x10000)], lo := 8, width := 7, acc := .ro, reset := 0, keep := .vol }
def FBC_NRATE : Row := { base := 0x800018, dims := [(24, 0x10000)], lo := 0, width := 32, acc := .ro, reset := 0, keep := .vol, virt := true }
def FBC_DRATE : Row := { base := 0x80001C, dims := [(24, 0x10000)], lo := 0, width := 32, acc := .ro, reset := 0, keep := .vol, virt := true }
def FBC_RX_FRAMES : Row := { base := 0x800020, dims := [(24, 0x10000)], lo := 0, width := 32, acc := .ro, reset := 0, keep := .vol }
def FBC_TX_FRAMES : Row := { base := 0x800024, dims := [(24, 0x10000)], lo := 0, width := 32, acc := .ro, reset := 0, keep := .vol }
def FBC_ARB_LOST : Row := { base := 0x800028, dims := [(24, 0x10000)], lo := 0, width := 32, acc := .ro, reset := 0, keep := .vol }
def FBC_RX_NOMATCH : Row := { base := 0x80002C, dims := [(24, 0x10000)], lo := 0, width := 32, acc := .ro, reset := 0, keep := .vol }
def FBC_MAP_SHORT : Row := { base := 0x800030, dims := [(24, 0x10000)], lo := 0, width := 32, acc := .ro, reset := 0, keep := .vol }
def FBC_EVT_TDC_RANGE : Row := { base := 0x800034, dims := [(24, 0x10000)], lo := 0, width := 1, acc := .w1c, reset := 0, keep := .vol, cnt := 32 }
def FBC_EVT_WAKE : Row := { base := 0x800034, dims := [(24, 0x10000)], lo := 1, width := 1, acc := .w1c, reset := 0, keep := .vol, cnt := 39 }
def FBC_SETCNT_TDC_RANGE : Row := { base := 0x800038, dims := [(24, 0x10000)], lo := 0, width := 8, acc := .rw, reset := 0, keep := .vol }
def FBC_SETCNT_WAKE : Row := { base := 0x800038, dims := [(24, 0x10000)], lo := 8, width := 8, acc := .rw, reset := 0, keep := .vol }
def FBC_STAMP_NOW : Row := { base := 0x800F00, dims := [(24, 0x10000)], lo := 0, width := 64, acc := .ro, reset := 0, keep := .vol, virt := true }

/-- The rows of Table 10-9. -/
def tbl_10_9 : List Row :=
  [FBC_CFG_ENABLE, FBC_CFG_FD_EN, FBC_CFG_BRS_EN, FBC_CFG_PXE, FBC_CFG_TRIPLE, FBC_CFG_TDC_EN, FBC_CFG_LISTEN, FBC_CFG_RETRY_MODE, FBC_CFG_RETRY_LIMIT, FBC_NBT_NBRP, FBC_NBT_NTSEG1, FBC_NBT2_NTSEG2, FBC_NBT2_NSJW, FBC_DBT_DBRP, FBC_DBT_DTSEG1, FBC_DBT_DTSEG2, FBC_DBT_DSJW, FBC_TDCO, FBC_STATE, FBC_TDCV] ++
  [FBC_NRATE, FBC_DRATE, FBC_RX_FRAMES, FBC_TX_FRAMES, FBC_ARB_LOST, FBC_RX_NOMATCH, FBC_MAP_SHORT, FBC_EVT_TDC_RANGE, FBC_EVT_WAKE, FBC_SETCNT_TDC_RANGE, FBC_SETCNT_WAKE, FBC_STAMP_NOW]

/-! Table 10-10: TX buffer, base port + 0x1000 + 0x80 × nn, nn = 00 to 31, fields FBC_PORT_pp_TXB_nn_ -/

def FBC_TXB_BIND_ID : Row := { base := 0x801000, dims := [(24, 0x10000), (32, 0x80)], lo := 0, width := 29, acc := .ws, reset := 0, keep := .mram }
def FBC_TXB_BIND_XTD : Row := { base := 0x801000, dims := [(24, 0x10000), (32, 0x80)], lo := 29, width := 1, acc := .ws, reset := 0, keep := .mram }
def FBC_TXB_BIND_ENABLE : Row := { base := 0x801000, dims := [(24, 0x10000), (32, 0x80)], lo := 30, width := 1, acc := .ws, reset := 0, keep := .mram }
def FBC_TXB_FRAME_DLC : Row := { base := 0x801004, dims := [(24, 0x10000), (32, 0x80)], lo := 0, width := 4, acc := .rw, reset := 0, keep := .vol }
def FBC_TXB_FRAME_FDF : Row := { base := 0x801004, dims := [(24, 0x10000), (32, 0x80)], lo := 4, width := 1, acc := .ws, reset := 0, keep := .mram }
def FBC_TXB_FRAME_BRS : Row := { base := 0x801004, dims := [(24, 0x10000), (32, 0x80)], lo := 5, width := 1, acc := .ws, reset := 0, keep := .mram }
def FBC_TXB_FRAME_RTR : Row := { base := 0x801004, dims := [(24, 0x10000), (32, 0x80)], lo := 6, width := 1, acc := .ws, reset := 0, keep := .mram }
def FBC_TXB_CTRL_OWNER : Row := { base := 0x801008, dims := [(24, 0x10000), (32, 0x80)], lo := 0, width := 8, acc := .ws, reset := 254, keep := .mram }
def FBC_TXB_CTRL_TRIGGER : Row := { base := 0x801008, dims := [(24, 0x10000), (32, 0x80)], lo := 8, width := 2, acc := .ws, reset := 0, keep := .mram }
def FBC_TXB_CTRL_RETRY_OVR : Row := { base := 0x801008, dims := [(24, 0x10000), (32, 0x80)], lo := 10, width := 2, acc := .ws, reset := 0, keep := .mram, rng := .nat 0 2 }
def FBC_TXB_CTRL_RETRY_LIMIT : Row := { base := 0x801008, dims := [(24, 0x10000), (32, 0x80)], lo := 12, width := 8, acc := .ws, reset := 0, keep := .mram }
def FBC_TXB_PERIOD : Row := { base := 0x80100C, dims := [(24, 0x10000), (32, 0x80)], lo := 0, width := 14, acc := .ws, reset := 1000, keep := .mram, rng := .nat 1 10000 }
def FBC_TXB_DATA : Row := { base := 0x801010, dims := [(24, 0x10000), (32, 0x80), (16, 0x4)], lo := 0, width := 32, acc := .rw, reset := 0, keep := .vol }
def FBC_TXB_CMD_TXREQ : Row := { base := 0x801050, dims := [(24, 0x10000), (32, 0x80)], lo := 0, width := 1, acc := .wo, reset := 0, keep := .vol }
def FBC_TXB_CMD_CANCEL : Row := { base := 0x801050, dims := [(24, 0x10000), (32, 0x80)], lo := 1, width := 1, acc := .wo, reset := 0, keep := .vol }
def FBC_TXB_STATE : Row := { base := 0x801054, dims := [(24, 0x10000), (32, 0x80)], lo := 0, width := 3, acc := .ro, reset := 0, keep := .vol }
def FBC_TXB_LAST_ERR : Row := { base := 0x801054, dims := [(24, 0x10000), (32, 0x80)], lo := 8, width := 4, acc := .ro, reset := 0, keep := .vol }
def FBC_TXB_ATTEMPTS : Row := { base := 0x801054, dims := [(24, 0x10000), (32, 0x80)], lo := 16, width := 8, acc := .ro, reset := 0, keep := .vol }
def FBC_TXB_STAMP : Row := { base := 0x801058, dims := [(24, 0x10000), (32, 0x80)], lo := 0, width := 32, acc := .ro, reset := 0, keep := .vol }
def FBC_TXB_EPOCH_LO : Row := { base := 0x80105C, dims := [(24, 0x10000), (32, 0x80)], lo := 0, width := 16, acc := .ro, reset := 0, keep := .vol }
def FBC_TXB_TX_COUNT : Row := { base := 0x801060, dims := [(24, 0x10000), (32, 0x80)], lo := 0, width := 32, acc := .ro, reset := 0, keep := .vol }
def FBC_TXB_EVT_SENT : Row := { base := 0x801064, dims := [(24, 0x10000), (32, 0x80)], lo := 0, width := 1, acc := .w1c, reset := 0, keep := .vol, cnt := 32 }
def FBC_TXB_EVT_FAIL : Row := { base := 0x801064, dims := [(24, 0x10000), (32, 0x80)], lo := 1, width := 1, acc := .w1c, reset := 0, keep := .vol, cnt := 39 }
def FBC_TXB_SETCNT_SENT : Row := { base := 0x801068, dims := [(24, 0x10000), (32, 0x80)], lo := 0, width := 8, acc := .rw, reset := 0, keep := .vol }
def FBC_TXB_SETCNT_FAIL : Row := { base := 0x801068, dims := [(24, 0x10000), (32, 0x80)], lo := 8, width := 8, acc := .rw, reset := 0, keep := .vol }

/-- The rows of Table 10-10. -/
def tbl_10_10 : List Row :=
  [FBC_TXB_BIND_ID, FBC_TXB_BIND_XTD, FBC_TXB_BIND_ENABLE, FBC_TXB_FRAME_DLC, FBC_TXB_FRAME_FDF, FBC_TXB_FRAME_BRS, FBC_TXB_FRAME_RTR, FBC_TXB_CTRL_OWNER, FBC_TXB_CTRL_TRIGGER, FBC_TXB_CTRL_RETRY_OVR, FBC_TXB_CTRL_RETRY_LIMIT, FBC_TXB_PERIOD, FBC_TXB_DATA, FBC_TXB_CMD_TXREQ, FBC_TXB_CMD_CANCEL, FBC_TXB_STATE, FBC_TXB_LAST_ERR, FBC_TXB_ATTEMPTS, FBC_TXB_STAMP, FBC_TXB_EPOCH_LO] ++
  [FBC_TXB_TX_COUNT, FBC_TXB_EVT_SENT, FBC_TXB_EVT_FAIL, FBC_TXB_SETCNT_SENT, FBC_TXB_SETCNT_FAIL]

/-! Table 10-11: FIFO descriptor, base port + 0x8000 + 0x40 × k, k = 0 to 7, fields FBC_PORT_pp_FIFO_k_ -/

def FBC_FIFO_OWNER : Row := { base := 0x808000, dims := [(24, 0x10000), (8, 0x40)], lo := 0, width := 8, acc := .ws, reset := 254, keep := .mram }
def FBC_FIFO_SIZE : Row := { base := 0x808000, dims := [(24, 0x10000), (8, 0x40)], lo := 8, width := 8, acc := .ws, reset := 0, keep := .mram, rng := .nat 0 80 }
def FBC_FIFO_MODE : Row := { base := 0x808000, dims := [(24, 0x10000), (8, 0x40)], lo := 16, width := 1, acc := .ws, reset := 0, keep := .mram }
def FBC_FIFO_FILL : Row := { base := 0x808004, dims := [(24, 0x10000), (8, 0x40)], lo := 0, width := 7, acc := .ro, reset := 0, keep := .vol }
def FBC_FIFO_LOST : Row := { base := 0x808008, dims := [(24, 0x10000), (8, 0x40)], lo := 0, width := 32, acc := .ro, reset := 0, keep := .vol }
def FBC_FIFO_POP : Row := { base := 0x80800C, dims := [(24, 0x10000), (8, 0x40)], lo := 0, width := 7, acc := .wo, reset := 0, keep := .vol }
def FBC_FIFO_EVT_OVERRUN : Row := { base := 0x808010, dims := [(24, 0x10000), (8, 0x40)], lo := 0, width := 1, acc := .w1c, reset := 0, keep := .vol, cnt := 32 }
def FBC_FIFO_SETCNT : Row := { base := 0x808014, dims := [(24, 0x10000), (8, 0x40)], lo := 0, width := 8, acc := .rw, reset := 0, keep := .vol }

/-- The rows of Table 10-11. -/
def tbl_10_11 : List Row :=
  [FBC_FIFO_OWNER, FBC_FIFO_SIZE, FBC_FIFO_MODE, FBC_FIFO_FILL, FBC_FIFO_LOST, FBC_FIFO_POP, FBC_FIFO_EVT_OVERRUN, FBC_FIFO_SETCNT]

/-! Table 10-12: Receive element, head of FIFO k at port + 0x8400 + 0x80 × k; also the element format of CMD_BUS_RX_READ -/

def FBC_HEAD_ID : Row := { base := 0x808400, dims := [(24, 0x10000), (8, 0x80)], lo := 0, width := 29, acc := .ro, reset := 0, keep := .vol, virt := true }
def FBC_HEAD_XTD : Row := { base := 0x808400, dims := [(24, 0x10000), (8, 0x80)], lo := 29, width := 1, acc := .ro, reset := 0, keep := .vol, virt := true }
def FBC_HEAD_DLC : Row := { base := 0x808404, dims := [(24, 0x10000), (8, 0x80)], lo := 0, width := 4, acc := .ro, reset := 0, keep := .vol, virt := true }
def FBC_HEAD_FDF : Row := { base := 0x808404, dims := [(24, 0x10000), (8, 0x80)], lo := 4, width := 1, acc := .ro, reset := 0, keep := .vol, virt := true }
def FBC_HEAD_BRS : Row := { base := 0x808404, dims := [(24, 0x10000), (8, 0x80)], lo := 5, width := 1, acc := .ro, reset := 0, keep := .vol, virt := true }
def FBC_HEAD_ESI : Row := { base := 0x808404, dims := [(24, 0x10000), (8, 0x80)], lo := 6, width := 1, acc := .ro, reset := 0, keep := .vol, virt := true }
def FBC_HEAD_RTR : Row := { base := 0x808404, dims := [(24, 0x10000), (8, 0x80)], lo := 7, width := 1, acc := .ro, reset := 0, keep := .vol, virt := true }
def FBC_HEAD_FILTER : Row := { base := 0x808404, dims := [(24, 0x10000), (8, 0x80)], lo := 8, width := 6, acc := .ro, reset := 0, keep := .vol, virt := true }
def FBC_HEAD_VALID : Row := { base := 0x808404, dims := [(24, 0x10000), (8, 0x80)], lo := 15, width := 1, acc := .ro, reset := 0, keep := .vol, virt := true }
def FBC_HEAD_STAMP : Row := { base := 0x808408, dims := [(24, 0x10000), (8, 0x80)], lo := 0, width := 32, acc := .ro, reset := 0, keep := .vol, virt := true }
def FBC_HEAD_EPOCH_LO : Row := { base := 0x80840C, dims := [(24, 0x10000), (8, 0x80)], lo := 0, width := 16, acc := .ro, reset := 0, keep := .vol, virt := true }
def FBC_HEAD_SEQ : Row := { base := 0x80840C, dims := [(24, 0x10000), (8, 0x80)], lo := 16, width := 16, acc := .ro, reset := 0, keep := .vol, virt := true }
def FBC_HEAD_DATA : Row := { base := 0x808410, dims := [(24, 0x10000), (8, 0x80), (16, 0x4)], lo := 0, width := 32, acc := .ro, reset := 0, keep := .vol, virt := true }

/-- The rows of Table 10-12. -/
def tbl_10_12 : List Row :=
  [FBC_HEAD_ID, FBC_HEAD_XTD, FBC_HEAD_DLC, FBC_HEAD_FDF, FBC_HEAD_BRS, FBC_HEAD_ESI, FBC_HEAD_RTR, FBC_HEAD_FILTER, FBC_HEAD_VALID, FBC_HEAD_STAMP, FBC_HEAD_EPOCH_LO, FBC_HEAD_SEQ, FBC_HEAD_DATA]

/-! Table 10-13: Filter, base port + 0xA000 + 0x10 × ff, ff = 00 to 63, fields FBC_PORT_pp_FLT_ff_ -/

def FBC_FLT_ID : Row := { base := 0x80A000, dims := [(24, 0x10000), (64, 0x10)], lo := 0, width := 29, acc := .ws, reset := 0, keep := .mram }
def FBC_FLT_XTD : Row := { base := 0x80A000, dims := [(24, 0x10000), (64, 0x10)], lo := 29, width := 1, acc := .ws, reset := 0, keep := .mram }
def FBC_FLT_ENABLE : Row := { base := 0x80A000, dims := [(24, 0x10000), (64, 0x10)], lo := 30, width := 1, acc := .ws, reset := 0, keep := .mram }
def FBC_FLT_MASK : Row := { base := 0x80A004, dims := [(24, 0x10000), (64, 0x10)], lo := 0, width := 29, acc := .ws, reset := 0, keep := .mram }
def FBC_FLT_FIFO : Row := { base := 0x80A008, dims := [(24, 0x10000), (64, 0x10)], lo := 0, width := 3, acc := .ws, reset := 0, keep := .mram }
def FBC_FLT_TO_FIFO : Row := { base := 0x80A008, dims := [(24, 0x10000), (64, 0x10)], lo := 3, width := 1, acc := .ws, reset := 0, keep := .mram }
def FBC_FLT_TO_MAP : Row := { base := 0x80A008, dims := [(24, 0x10000), (64, 0x10)], lo := 4, width := 1, acc := .ws, reset := 0, keep := .mram }
def FBC_FLT_OWNER : Row := { base := 0x80A008, dims := [(24, 0x10000), (64, 0x10)], lo := 8, width := 8, acc := .ws, reset := 254, keep := .mram }
def FBC_FLT_HITS : Row := { base := 0x80A00C, dims := [(24, 0x10000), (64, 0x10)], lo := 0, width := 32, acc := .ro, reset := 0, keep := .vol }

/-- The rows of Table 10-13. -/
def tbl_10_13 : List Row :=
  [FBC_FLT_ID, FBC_FLT_XTD, FBC_FLT_ENABLE, FBC_FLT_MASK, FBC_FLT_FIFO, FBC_FLT_TO_FIFO, FBC_FLT_TO_MAP, FBC_FLT_OWNER, FBC_FLT_HITS]

/-! Table 10-14: Point mapping, base port + 0xC000 + 8 × mmm, mmm = 000 to 511, fields FBC_PORT_pp_MAP_mmm_ -/

def FBC_MAP_POINT : Row := { base := 0x80C000, dims := [(24, 0x10000), (512, 0x8)], lo := 0, width := 13, acc := .ws, reset := 0, keep := .mram }
def FBC_MAP_ENABLE : Row := { base := 0x80C000, dims := [(24, 0x10000), (512, 0x8)], lo := 13, width := 1, acc := .ws, reset := 0, keep := .mram }
def FBC_MAP_DIR : Row := { base := 0x80C000, dims := [(24, 0x10000), (512, 0x8)], lo := 14, width := 1, acc := .ws, reset := 0, keep := .mram }
def FBC_MAP_SIGNED : Row := { base := 0x80C000, dims := [(24, 0x10000), (512, 0x8)], lo := 15, width := 1, acc := .ws, reset := 0, keep := .mram }
def FBC_MAP_OWNER : Row := { base := 0x80C000, dims := [(24, 0x10000), (512, 0x8)], lo := 16, width := 8, acc := .ws, reset := 254, keep := .mram }
def FBC_MAP_INDEX : Row := { base := 0x80C004, dims := [(24, 0x10000), (512, 0x8)], lo := 0, width := 6, acc := .ws, reset := 0, keep := .mram }
def FBC_MAP_BIT_OFF : Row := { base := 0x80C004, dims := [(24, 0x10000), (512, 0x8)], lo := 8, width := 9, acc := .ws, reset := 0, keep := .mram }
def FBC_MAP_WIDTH_M1 : Row := { base := 0x80C004, dims := [(24, 0x10000), (512, 0x8)], lo := 17, width := 6, acc := .ws, reset := 0, keep := .mram }
def FBC_MAP_BIG_END : Row := { base := 0x80C004, dims := [(24, 0x10000), (512, 0x8)], lo := 23, width := 1, acc := .ws, reset := 0, keep := .mram }

/-- The rows of Table 10-14. -/
def tbl_10_14 : List Row :=
  [FBC_MAP_POINT, FBC_MAP_ENABLE, FBC_MAP_DIR, FBC_MAP_SIGNED, FBC_MAP_OWNER, FBC_MAP_INDEX, FBC_MAP_BIT_OFF, FBC_MAP_WIDTH_M1, FBC_MAP_BIG_END]

/-! Table 11-8: Port error fields, base 0x0080_0000 + 0x1_0000 × pp -/

def FBC_ERR_STATE : Row := { base := 0x800040, dims := [(24, 0x10000)], lo := 0, width := 2, acc := .ro, reset := 0, keep := .vol }
def FBC_TEC : Row := { base := 0x800044, dims := [(24, 0x10000)], lo := 0, width := 9, acc := .ro, reset := 0, keep := .vol }
def FBC_REC : Row := { base := 0x800044, dims := [(24, 0x10000)], lo := 16, width := 8, acc := .ro, reset := 0, keep := .vol }
def FBC_BUSOFF_COUNT : Row := { base := 0x800048, dims := [(24, 0x10000)], lo := 0, width := 32, acc := .ro, reset := 0, keep := .vol }
def FBC_PASSIVE_COUNT : Row := { base := 0x80004C, dims := [(24, 0x10000)], lo := 0, width := 32, acc := .ro, reset := 0, keep := .vol }
def FBC_EVT_PASSIVE : Row := { base := 0x800050, dims := [(24, 0x10000)], lo := 0, width := 1, acc := .w1c, reset := 0, keep := .vol, cnt := 32 }
def FBC_EVT_BUSOFF : Row := { base := 0x800050, dims := [(24, 0x10000)], lo := 1, width := 1, acc := .w1c, reset := 0, keep := .vol, cnt := 39 }
def FBC_EVT_RECOVERED : Row := { base := 0x800050, dims := [(24, 0x10000)], lo := 2, width := 1, acc := .w1c, reset := 0, keep := .vol, cnt := 46 }
def FBC_SETCNT_PASSIVE : Row := { base := 0x800054, dims := [(24, 0x10000)], lo := 0, width := 8, acc := .rw, reset := 0, keep := .vol }
def FBC_SETCNT_BUSOFF : Row := { base := 0x800054, dims := [(24, 0x10000)], lo := 8, width := 8, acc := .rw, reset := 0, keep := .vol }
def FBC_SETCNT_RECOVERED : Row := { base := 0x800054, dims := [(24, 0x10000)], lo := 16, width := 8, acc := .rw, reset := 0, keep := .vol }
def FBC_BUSOFF_TIME : Row := { base := 0x800058, dims := [(24, 0x10000)], lo := 0, width := 64, acc := .ro, reset := 0, keep := .vol }
def FBC_RECOVER_TIME : Row := { base := 0x800060, dims := [(24, 0x10000)], lo := 0, width := 64, acc := .ro, reset := 0, keep := .vol }
def FBC_ERR_FRAMES : Row := { base := 0x800068, dims := [(24, 0x10000)], lo := 0, width := 32, acc := .ro, reset := 0, keep := .vol }

/-- The rows of Table 11-8. -/
def tbl_11_8 : List Row :=
  [FBC_ERR_STATE, FBC_TEC, FBC_REC, FBC_BUSOFF_COUNT, FBC_PASSIVE_COUNT, FBC_EVT_PASSIVE, FBC_EVT_BUSOFF, FBC_EVT_RECOVERED, FBC_SETCNT_PASSIVE, FBC_SETCNT_BUSOFF, FBC_SETCNT_RECOVERED, FBC_BUSOFF_TIME, FBC_RECOVER_TIME, FBC_ERR_FRAMES]

/-! Table 11-9: Fault and firewall fields, base 0x0080_0000 + 0x1_0000 × pp, view of C00 only -/

def FBC_FLT_CFG_RECOVERY : Row := { base := 0x800100, dims := [(24, 0x10000)], lo := 0, width := 1, acc := .ws, reset := 0, keep := .mram }
def FBC_FLT_CFG_BUSOFF_LIMIT : Row := { base := 0x800100, dims := [(24, 0x10000)], lo := 8, width := 8, acc := .ws, reset := 3, keep := .mram }
def FBC_FLT_CFG_DISTURB_LIMIT : Row := { base := 0x800100, dims := [(24, 0x10000)], lo := 16, width := 8, acc := .ws, reset := 8, keep := .mram }
def FBC_RECOVER_DELAY : Row := { base := 0x800104, dims := [(24, 0x10000)], lo := 0, width := 14, acc := .ws, reset := 100, keep := .mram, rng := .nat 0 10000 }
def FBC_RECOVER_WAIT : Row := { base := 0x800108, dims := [(24, 0x10000)], lo := 0, width := 1, acc := .ro, reset := 0, keep := .vol }
def FBC_TOP_BUF : Row := { base := 0x80010C, dims := [(24, 0x10000)], lo := 0, width := 5, acc := .ro, reset := 0, keep := .vol }
def FBC_TOP_VALID : Row := { base := 0x80010C, dims := [(24, 0x10000)], lo := 5, width := 1, acc := .ro, reset := 0, keep := .vol }
def FBC_TOP_CAUSE : Row := { base := 0x80010C, dims := [(24, 0x10000)], lo := 6, width := 1, acc := .ro, reset := 0, keep := .vol }
def FBC_TOP_XTD : Row := { base := 0x80010C, dims := [(24, 0x10000)], lo := 7, width := 1, acc := .ro, reset := 0, keep := .vol }
def FBC_TOP_OWNER : Row := { base := 0x80010C, dims := [(24, 0x10000)], lo := 8, width := 8, acc := .ro, reset := 0, keep := .vol }
def FBC_TOP_ID : Row := { base := 0x800110, dims := [(24, 0x10000)], lo := 0, width := 29, acc := .ro, reset := 0, keep := .vol }
def FBC_COLLISIONS : Row := { base := 0x800114, dims := [(24, 0x10000)], lo := 0, width := 32, acc := .ro, reset := 0, keep := .vol }
def FBC_COLL_LAST_ID : Row := { base := 0x800118, dims := [(24, 0x10000)], lo := 0, width := 29, acc := .ro, reset := 0, keep := .vol }
def FBC_COLL_LAST_XTD : Row := { base := 0x800118, dims := [(24, 0x10000)], lo := 29, width := 1, acc := .ro, reset := 0, keep := .vol }
def FBC_COLL_LAST_BUF : Row := { base := 0x80011C, dims := [(24, 0x10000)], lo := 0, width := 5, acc := .ro, reset := 0, keep := .vol }
def FBC_COLL_LAST_OWNER : Row := { base := 0x80011C, dims := [(24, 0x10000)], lo := 8, width := 8, acc := .ro, reset := 0, keep := .vol }
def FBC_COLL_LAST_TIME : Row := { base := 0x800120, dims := [(24, 0x10000)], lo := 0, width := 64, acc := .ro, reset := 0, keep := .vol }
def FBC_DISTURBS : Row := { base := 0x800128, dims := [(24, 0x10000)], lo := 0, width := 32, acc := .ro, reset := 0, keep := .vol }
def FBC_DIST_LAST_ID : Row := { base := 0x80012C, dims := [(24, 0x10000)], lo := 0, width := 29, acc := .ro, reset := 0, keep := .vol }
def FBC_DIST_LAST_XTD : Row := { base := 0x80012C, dims := [(24, 0x10000)], lo := 29, width := 1, acc := .ro, reset := 0, keep := .vol }
def FBC_DIST_LAST_COUNT : Row := { base := 0x800130, dims := [(24, 0x10000)], lo := 0, width := 8, acc := .ro, reset := 0, keep := .vol }
def FBC_FW_RX_UNBOUND : Row := { base := 0x800134, dims := [(24, 0x10000)], lo := 0, width := 32, acc := .ro, reset := 0, keep := .vol }
def FBC_FW_TX_BLOCK : Row := { base := 0x800138, dims := [(24, 0x10000)], lo := 0, width := 32, acc := .ro, reset := 0, keep := .vol }
def FBC_FEVT_COLLISION : Row := { base := 0x80013C, dims := [(24, 0x10000)], lo := 0, width := 1, acc := .w1c, reset := 0, keep := .vol, cnt := 32 }
def FBC_FEVT_DISTURB : Row := { base := 0x80013C, dims := [(24, 0x10000)], lo := 1, width := 1, acc := .w1c, reset := 0, keep := .vol, cnt := 39 }
def FBC_FEVT_FW : Row := { base := 0x80013C, dims := [(24, 0x10000)], lo := 2, width := 1, acc := .w1c, reset := 0, keep := .vol, cnt := 46 }
def FBC_FSETCNT_COLLISION : Row := { base := 0x800140, dims := [(24, 0x10000)], lo := 0, width := 8, acc := .rw, reset := 0, keep := .vol }
def FBC_FSETCNT_DISTURB : Row := { base := 0x800140, dims := [(24, 0x10000)], lo := 8, width := 8, acc := .rw, reset := 0, keep := .vol }
def FBC_FSETCNT_FW : Row := { base := 0x800140, dims := [(24, 0x10000)], lo := 16, width := 8, acc := .rw, reset := 0, keep := .vol }

/-- The rows of Table 11-9. -/
def tbl_11_9 : List Row :=
  [FBC_FLT_CFG_RECOVERY, FBC_FLT_CFG_BUSOFF_LIMIT, FBC_FLT_CFG_DISTURB_LIMIT, FBC_RECOVER_DELAY, FBC_RECOVER_WAIT, FBC_TOP_BUF, FBC_TOP_VALID, FBC_TOP_CAUSE, FBC_TOP_XTD, FBC_TOP_OWNER, FBC_TOP_ID, FBC_COLLISIONS, FBC_COLL_LAST_ID, FBC_COLL_LAST_XTD, FBC_COLL_LAST_BUF, FBC_COLL_LAST_OWNER, FBC_COLL_LAST_TIME, FBC_DISTURBS, FBC_DIST_LAST_ID, FBC_DIST_LAST_XTD] ++
  [FBC_DIST_LAST_COUNT, FBC_FW_RX_UNBOUND, FBC_FW_TX_BLOCK, FBC_FEVT_COLLISION, FBC_FEVT_DISTURB, FBC_FEVT_FW, FBC_FSETCNT_COLLISION, FBC_FSETCNT_DISTURB, FBC_FSETCNT_FW]

/-! Table 11-10: Range entry, base port + 0x0200 + 0x10 × rr, rr = 00 to 15, fields FBC_PORT_pp_RNG_rr_, view of C00 only -/

def FBC_RNG_LOW : Row := { base := 0x800200, dims := [(24, 0x10000), (16, 0x10)], lo := 0, width := 29, acc := .ws, reset := 0, keep := .mram }
def FBC_RNG_XTD : Row := { base := 0x800200, dims := [(24, 0x10000), (16, 0x10)], lo := 29, width := 1, acc := .ws, reset := 0, keep := .mram }
def FBC_RNG_ENABLE : Row := { base := 0x800200, dims := [(24, 0x10000), (16, 0x10)], lo := 30, width := 1, acc := .ws, reset := 0, keep := .mram }
def FBC_RNG_HIGH : Row := { base := 0x800204, dims := [(24, 0x10000), (16, 0x10)], lo := 0, width := 29, acc := .ws, reset := 0, keep := .mram }
def FBC_RNG_OWNER : Row := { base := 0x800208, dims := [(24, 0x10000), (16, 0x10)], lo := 0, width := 8, acc := .ws, reset := 254, keep := .mram }
def FBC_RNG_HITS : Row := { base := 0x80020C, dims := [(24, 0x10000), (16, 0x10)], lo := 0, width := 32, acc := .ro, reset := 0, keep := .vol }

/-- The rows of Table 11-10. -/
def tbl_11_10 : List Row :=
  [FBC_RNG_LOW, FBC_RNG_XTD, FBC_RNG_ENABLE, FBC_RNG_HIGH, FBC_RNG_OWNER, FBC_RNG_HITS]

/-! Table 12-7: NSW global fields, base 0x00B0_0000, view of C00 -/

def NSW_BB_MODE : Row := { base := 0xB00000, dims := [], lo := 0, width := 2, acc := .ws, reset := 0, keep := .mram, rng := .nat 0 2 }
def NSW_BB_VID : Row := { base := 0xB00004, dims := [], lo := 0, width := 12, acc := .ws, reset := 0, keep := .mram }
def NSW_PTP_DOMAIN : Row := { base := 0xB00008, dims := [], lo := 0, width := 7, acc := .ws, reset := 0, keep := .mram }
def NSW_PTP_TRANSPORT : Row := { base := 0xB00008, dims := [], lo := 7, width := 1, acc := .ws, reset := 0, keep := .mram }
def NSW_PRP_LAN_A_OK : Row := { base := 0xB0000C, dims := [], lo := 0, width := 1, acc := .ro, reset := 0, keep := .vol }
def NSW_PRP_LAN_B_OK : Row := { base := 0xB0000C, dims := [], lo := 1, width := 1, acc := .ro, reset := 0, keep := .vol }
def NSW_EVT_LAN : Row := { base := 0xB00010, dims := [], lo := 0, width := 1, acc := .w1c, reset := 0, keep := .vol, cnt := 32 }
def NSW_SETCNT : Row := { base := 0xB00014, dims := [], lo := 0, width := 8, acc := .rw, reset := 0, keep := .vol }
def NSW_PRP_WRONG_LAN : Row := { base := 0xB00018, dims := [], lo := 0, width := 32, acc := .ro, reset := 0, keep := .vol }
def NSW_PRP_NODES : Row := { base := 0xB0001C, dims := [], lo := 0, width := 10, acc := .ro, reset := 0, keep := .vol }

/-- The rows of Table 12-7. -/
def tbl_12_7 : List Row :=
  [NSW_BB_MODE, NSW_BB_VID, NSW_PTP_DOMAIN, NSW_PTP_TRANSPORT, NSW_PRP_LAN_A_OK, NSW_PRP_LAN_B_OK, NSW_EVT_LAN, NSW_SETCNT, NSW_PRP_WRONG_LAN, NSW_PRP_NODES]

/-! Table 12-8: NSW port, base 0x00B0_1000 + 0x100 × n, n = 0 to 6, fields NSW_PORT_n_, view of C00 -/

def NSW_PORT_CFG_ENABLE : Row := { base := 0xB01000, dims := [(7, 0x100)], lo := 0, width := 1, acc := .ws, reset := 1, keep := .mram }
def NSW_PORT_CFG_MODE : Row := { base := 0xB01000, dims := [(7, 0x100)], lo := 1, width := 1, acc := .ws, reset := 0, keep := .mram }
def NSW_PORT_PVID : Row := { base := 0xB01004, dims := [(7, 0x100)], lo := 0, width := 12, acc := .ws, reset := 0, keep := .mram }
def NSW_PORT_STATUS_SPEED : Row := { base := 0xB01008, dims := [(7, 0x100)], lo := 0, width := 2, acc := .ro, reset := 0, keep := .vol }
def NSW_PORT_STATUS_MEDIA : Row := { base := 0xB01008, dims := [(7, 0x100)], lo := 2, width := 2, acc := .ro, reset := 0, keep := .vol }
def NSW_PORT_RX_FRAMES : Row := { base := 0xB0100C, dims := [(7, 0x100)], lo := 0, width := 32, acc := .ro, reset := 0, keep := .vol }
def NSW_PORT_TX_FRAMES : Row := { base := 0xB01010, dims := [(7, 0x100)], lo := 0, width := 32, acc := .ro, reset := 0, keep := .vol }
def NSW_PORT_DROP_VLAN : Row := { base := 0xB01014, dims := [(7, 0x100)], lo := 0, width := 32, acc := .ro, reset := 0, keep := .vol }
def NSW_PORT_DROP_FORM : Row := { base := 0xB01018, dims := [(7, 0x100)], lo := 0, width := 32, acc := .ro, reset := 0, keep := .vol }

/-- The rows of Table 12-8. -/
def tbl_12_8 : List Row :=
  [NSW_PORT_CFG_ENABLE, NSW_PORT_CFG_MODE, NSW_PORT_PVID, NSW_PORT_STATUS_SPEED, NSW_PORT_STATUS_MEDIA, NSW_PORT_RX_FRAMES, NSW_PORT_TX_FRAMES, NSW_PORT_DROP_VLAN, NSW_PORT_DROP_FORM]

/-! Table 12-9: VLAN entry, base 0x00B0_2000 + 0x20 × vv, vv = 00 to 63, fields NSW_VLAN_vv_ -/

def NSW_VLAN_VID : Row := { base := 0xB02000, dims := [(64, 0x20)], lo := 0, width := 12, acc := .ws, reset := 0, keep := .mram }
def NSW_VLAN_ENABLE : Row := { base := 0xB02000, dims := [(64, 0x20)], lo := 12, width := 1, acc := .ws, reset := 0, keep := .mram }
def NSW_VLAN_MEMBERS : Row := { base := 0xB02000, dims := [(64, 0x20)], lo := 16, width := 4, acc := .ws, reset := 0, keep := .mram }
def NSW_VLAN_OWNER : Row := { base := 0xB02000, dims := [(64, 0x20)], lo := 24, width := 8, acc := .ws, reset := 254, keep := .mram }
def NSW_VLAN_RATE : Row := { base := 0xB02004, dims := [(64, 0x20)], lo := 0, width := 14, acc := .ws, reset := 100, keep := .mram, rng := .nat 1 10000 }
def NSW_VLAN_RX_FRAMES : Row := { base := 0xB02008, dims := [(64, 0x20)], lo := 0, width := 32, acc := .ro, reset := 0, keep := .vol }
def NSW_VLAN_TX_FRAMES : Row := { base := 0xB0200C, dims := [(64, 0x20)], lo := 0, width := 32, acc := .ro, reset := 0, keep := .vol }
def NSW_VLAN_DROP_RATE : Row := { base := 0xB02010, dims := [(64, 0x20)], lo := 0, width := 32, acc := .ro, reset := 0, keep := .vol }

/-- The rows of Table 12-9. -/
def tbl_12_9 : List Row :=
  [NSW_VLAN_VID, NSW_VLAN_ENABLE, NSW_VLAN_MEMBERS, NSW_VLAN_OWNER, NSW_VLAN_RATE, NSW_VLAN_RX_FRAMES, NSW_VLAN_TX_FRAMES, NSW_VLAN_DROP_RATE]

/-! Table 12-10: Compartment services, base 0x00B0_4000 + 0x100 × cc, cc = 00 to 33, fields NSW_SVC_cc_ -/

def NSW_SVC_BAC_DEV_INST : Row := { base := 0xB04000, dims := [(34, 0x100)], lo := 0, width := 22, acc := .ws, reset := 0, keep := .mram, rng := .nat 0 4194302 }
def NSW_SVC_BAC_PORT : Row := { base := 0xB04004, dims := [(34, 0x100)], lo := 0, width := 16, acc := .ws, reset := 47808, keep := .mram }
def NSW_SVC_MQTT_PORT : Row := { base := 0xB04004, dims := [(34, 0x100)], lo := 16, width := 16, acc := .ws, reset := 8883, keep := .mram }
def NSW_SVC_MQTT_BROKER : Row := { base := 0xB04008, dims := [(34, 0x100)], lo := 0, width := 32, acc := .ws, reset := 0, keep := .mram }
def NSW_SVC_MQTT_PREFIX : Row := { base := 0xB04010, dims := [(34, 0x100), (8, 0x4)], lo := 0, width := 32, acc := .ws, reset := 0, keep := .mram }

/-- The rows of Table 12-10. -/
def tbl_12_10 : List Row :=
  [NSW_SVC_BAC_DEV_INST, NSW_SVC_BAC_PORT, NSW_SVC_MQTT_PORT, NSW_SVC_MQTT_BROKER, NSW_SVC_MQTT_PREFIX]

/-! Table 12-11: Service entry, base 0x00B0_8000 + 0x10 × mmmm, mmmm = 0000 to 4095, fields NSW_SE_mmmm_ -/

def NSW_SE_POINT : Row := { base := 0xB08000, dims := [(4096, 0x10)], lo := 0, width := 13, acc := .ws, reset := 0, keep := .mram }
def NSW_SE_ENABLE : Row := { base := 0xB08000, dims := [(4096, 0x10)], lo := 13, width := 1, acc := .ws, reset := 0, keep := .mram }
def NSW_SE_WRITABLE : Row := { base := 0xB08000, dims := [(4096, 0x10)], lo := 14, width := 1, acc := .ws, reset := 0, keep := .mram }
def NSW_SE_SERVICE : Row := { base := 0xB08000, dims := [(4096, 0x10)], lo := 15, width := 1, acc := .ws, reset := 0, keep := .mram }
def NSW_SE_OWNER : Row := { base := 0xB08000, dims := [(4096, 0x10)], lo := 16, width := 8, acc := .ws, reset := 254, keep := .mram }
def NSW_SE_FORMAT : Row := { base := 0xB08000, dims := [(4096, 0x10)], lo := 24, width := 2, acc := .ws, reset := 0, keep := .mram }
def NSW_SE_INSTANCE : Row := { base := 0xB08004, dims := [(4096, 0x10)], lo := 0, width := 22, acc := .ws, reset := 0, keep := .mram }
def NSW_SE_OBJ_TYPE : Row := { base := 0xB08004, dims := [(4096, 0x10)], lo := 22, width := 10, acc := .ws, reset := 0, keep := .mram }
def NSW_SE_COV_INC : Row := { base := 0xB08008, dims := [(4096, 0x10)], lo := 0, width := 32, acc := .ws, reset := 0, keep := .mram }
def NSW_SE_PERIOD_MIN : Row := { base := 0xB0800C, dims := [(4096, 0x10)], lo := 0, width := 14, acc := .ws, reset := 1000, keep := .mram, rng := .nat 10 10000 }

/-- The rows of Table 12-11. -/
def tbl_12_11 : List Row :=
  [NSW_SE_POINT, NSW_SE_ENABLE, NSW_SE_WRITABLE, NSW_SE_SERVICE, NSW_SE_OWNER, NSW_SE_FORMAT, NSW_SE_INSTANCE, NSW_SE_OBJ_TYPE, NSW_SE_COV_INC, NSW_SE_PERIOD_MIN]

/-! Table 12-12: LBX port, base 0x00A0_0000 + 0x100 × pp, pp = 00 to 15, fields LBX_PORT_pp_ -/

def LBX_PORT_MODE : Row := { base := 0xA00000, dims := [(16, 0x100)], lo := 0, width := 2, acc := .ws, reset := 0, keep := .mram }
def LBX_PORT_PARITY : Row := { base := 0xA00000, dims := [(16, 0x100)], lo := 2, width := 2, acc := .ws, reset := 0, keep := .mram }
def LBX_PORT_STOP2 : Row := { base := 0xA00000, dims := [(16, 0x100)], lo := 4, width := 1, acc := .ws, reset := 0, keep := .mram }
def LBX_PORT_BUS_PSU : Row := { base := 0xA00000, dims := [(16, 0x100)], lo := 5, width := 1, acc := .ws, reset := 0, keep := .mram }
def LBX_PORT_OWNER : Row := { base := 0xA00000, dims := [(16, 0x100)], lo := 8, width := 8, acc := .ws, reset := 0, keep := .mram }
def LBX_PORT_BAUD : Row := { base := 0xA00004, dims := [(16, 0x100)], lo := 0, width := 17, acc := .ws, reset := 9600, keep := .mram }
def LBX_PORT_LOCAL_ADDR : Row := { base := 0xA00008, dims := [(16, 0x100)], lo := 0, width := 7, acc := .ws, reset := 0, keep := .mram }
def LBX_PORT_MAX_MASTER : Row := { base := 0xA00008, dims := [(16, 0x100)], lo := 8, width := 7, acc := .ws, reset := 127, keep := .mram }
def LBX_PORT_MAX_INFO_FRAMES : Row := { base := 0xA00008, dims := [(16, 0x100)], lo := 16, width := 4, acc := .ws, reset := 1, keep := .mram, rng := .nat 1 8 }
def LBX_PORT_TIMEOUT : Row := { base := 0xA0000C, dims := [(16, 0x100)], lo := 0, width := 13, acc := .ws, reset := 500, keep := .mram, rng := .nat 10 5000 }
def LBX_PORT_RETRIES : Row := { base := 0xA0000C, dims := [(16, 0x100)], lo := 13, width := 3, acc := .ws, reset := 2, keep := .mram, rng := .nat 0 5 }
def LBX_PORT_DEV_INST : Row := { base := 0xA00010, dims := [(16, 0x100)], lo := 0, width := 22, acc := .ws, reset := 0, keep := .mram }
def LBX_PORT_TXN_OK : Row := { base := 0xA00014, dims := [(16, 0x100)], lo := 0, width := 32, acc := .ro, reset := 0, keep := .vol }
def LBX_PORT_FAIL : Row := { base := 0xA00018, dims := [(16, 0x100)], lo := 0, width := 32, acc := .ro, reset := 0, keep := .vol }
def LBX_PORT_LATE : Row := { base := 0xA0001C, dims := [(16, 0x100)], lo := 0, width := 32, acc := .ro, reset := 0, keep := .vol }
def LBX_PORT_LAST_EXC : Row := { base := 0xA00020, dims := [(16, 0x100)], lo := 0, width := 8, acc := .ro, reset := 0, keep := .vol }

/-- The rows of Table 12-12. -/
def tbl_12_12 : List Row :=
  [LBX_PORT_MODE, LBX_PORT_PARITY, LBX_PORT_STOP2, LBX_PORT_BUS_PSU, LBX_PORT_OWNER, LBX_PORT_BAUD, LBX_PORT_LOCAL_ADDR, LBX_PORT_MAX_MASTER, LBX_PORT_MAX_INFO_FRAMES, LBX_PORT_TIMEOUT, LBX_PORT_RETRIES, LBX_PORT_DEV_INST, LBX_PORT_TXN_OK, LBX_PORT_FAIL, LBX_PORT_LATE, LBX_PORT_LAST_EXC]

/-! Table 12-13: LBX mapping, base 0x00A0_8000 + 0x10 × mmmm, mmmm = 0000 to 2047, fields LBX_MAP_mmmm_ -/

def LBX_MAP_POINT : Row := { base := 0xA08000, dims := [(2048, 0x10)], lo := 0, width := 13, acc := .ws, reset := 0, keep := .mram }
def LBX_MAP_ENABLE : Row := { base := 0xA08000, dims := [(2048, 0x10)], lo := 13, width := 1, acc := .ws, reset := 0, keep := .mram }
def LBX_MAP_DIR : Row := { base := 0xA08000, dims := [(2048, 0x10)], lo := 14, width := 1, acc := .ws, reset := 0, keep := .mram }
def LBX_MAP_PORT : Row := { base := 0xA08000, dims := [(2048, 0x10)], lo := 16, width := 4, acc := .ws, reset := 0, keep := .mram }
def LBX_MAP_FORMAT : Row := { base := 0xA08000, dims := [(2048, 0x10)], lo := 20, width := 3, acc := .ws, reset := 7, keep := .mram }
def LBX_MAP_ADDR : Row := { base := 0xA08004, dims := [(2048, 0x10)], lo := 0, width := 30, acc := .ws, reset := 0, keep := .mram }
def LBX_MAP_SELECT : Row := { base := 0xA08008, dims := [(2048, 0x10)], lo := 0, width := 32, acc := .ws, reset := 0, keep := .mram }
def LBX_MAP_PERIOD : Row := { base := 0xA0800C, dims := [(2048, 0x10)], lo := 0, width := 14, acc := .ws, reset := 1000, keep := .mram }
def LBX_MAP_PRIORITY : Row := { base := 0xA0800C, dims := [(2048, 0x10)], lo := 16, width := 4, acc := .ws, reset := 16, keep := .mram, rng := .nat 1 16 }

/-- The rows of Table 12-13. -/
def tbl_12_13 : List Row :=
  [LBX_MAP_POINT, LBX_MAP_ENABLE, LBX_MAP_DIR, LBX_MAP_PORT, LBX_MAP_FORMAT, LBX_MAP_ADDR, LBX_MAP_SELECT, LBX_MAP_PERIOD, LBX_MAP_PRIORITY]

end Sys2Proof.Machine.Obj
end

