-- ==== Sys2Proof/Machine/FieldsD.lean ====
section
/-!
DEFINITION. The rows of the spec's object maps: keys, life cycle, update, memories, performance and ageing. Each definition is one field of one table, with the
address, bits, access code and reset value the table gives it (R5, R86).
-/
namespace Sys2Proof.Machine.Obj

/-! Table 15-7: Slot descriptor, base 0x0007_0000 + 0x10 × sss, fields KSE_SLOT_sss_ -/

def KSE_SLOT_STATE : Row := { base := 0x70000, dims := [(256, 0x10)], lo := 0, width := 2, acc := .ro, reset := 0, keep := .mram }
def KSE_SLOT_USAGE : Row := { base := 0x70000, dims := [(256, 0x10)], lo := 2, width := 2, acc := .ro, reset := 0, keep := .mram }
def KSE_SLOT_KTYPE : Row := { base := 0x70000, dims := [(256, 0x10)], lo := 4, width := 4, acc := .ro, reset := 0, keep := .mram }
def KSE_SLOT_OWNER : Row := { base := 0x70000, dims := [(256, 0x10)], lo := 8, width := 8, acc := .ro, reset := 254, keep := .mram }
def KSE_SLOT_PARENT : Row := { base := 0x70000, dims := [(256, 0x10)], lo := 16, width := 9, acc := .ro, reset := 256, keep := .mram }
def KSE_SLOT_ORIGIN : Row := { base := 0x70000, dims := [(256, 0x10)], lo := 25, width := 2, acc := .ro, reset := 0, keep := .mram }
def KSE_SLOT_GEN : Row := { base := 0x70004, dims := [(256, 0x10)], lo := 0, width := 32, acc := .ro, reset := 0, keep := .mram }
def KSE_SLOT_CTR : Row := { base := 0x70008, dims := [(256, 0x10)], lo := 0, width := 64, acc := .ro, reset := 0, keep := .mram }

/-- The rows of Table 15-7. -/
def tbl_15_7 : List Row :=
  [KSE_SLOT_STATE, KSE_SLOT_USAGE, KSE_SLOT_KTYPE, KSE_SLOT_OWNER, KSE_SLOT_PARENT, KSE_SLOT_ORIGIN, KSE_SLOT_GEN, KSE_SLOT_CTR]

/-! Table 15-10: KSE compartment bank, base 0x0007_1000, banked (R89) -/

def KSE_CTR : Row := { base := 0x71000, dims := [], lo := 0, width := 64, acc := .ro, reset := 0, keep := .mram, banked := true }
def KSE_ORPHANED : Row := { base := 0x71008, dims := [], lo := 0, width := 16, acc := .ro, reset := 0, keep := .vol, banked := true }
def KSE_EVT_ORPHAN : Row := { base := 0x7100C, dims := [], lo := 0, width := 1, acc := .w1c, reset := 0, keep := .vol, banked := true, cnt := 32 }
def KSE_EVT_UPDATED : Row := { base := 0x7100C, dims := [], lo := 1, width := 1, acc := .w1c, reset := 0, keep := .vol, banked := true, cnt := 39 }
def KSE_SETCNT_0 : Row := { base := 0x71010, dims := [], lo := 0, width := 8, acc := .rw, reset := 0, keep := .vol, banked := true }
def KSE_SETCNT_1 : Row := { base := 0x71010, dims := [], lo := 8, width := 8, acc := .rw, reset := 0, keep := .vol, banked := true }
def KSE_TLS_CLIENT_SLOT : Row := { base := 0x71014, dims := [], lo := 0, width := 8, acc := .rw, reset := 0, keep := .mram, banked := true }

/-- The rows of Table 15-10. -/
def tbl_15_10 : List Row :=
  [KSE_CTR, KSE_ORPHANED, KSE_EVT_ORPHAN, KSE_EVT_UPDATED, KSE_SETCNT_0, KSE_SETCNT_1, KSE_TLS_CLIENT_SLOT]

/-! Table 15-11: KSE platform fields, base 0x0007_2000, view of C00 only -/

def KSE_ROOT_GATE : Row := { base := 0x72000, dims := [], lo := 0, width := 4, acc := .ro, reset := 0, keep := .plat }
def KSE_KA_PRESENT : Row := { base := 0x72000, dims := [], lo := 4, width := 1, acc := .ro, reset := 0, keep := .mram }
def KSE_KA_CTR : Row := { base := 0x72008, dims := [], lo := 0, width := 64, acc := .ro, reset := 0, keep := .mram }
def KSE_ATT_COUNT : Row := { base := 0x72010, dims := [], lo := 0, width := 32, acc := .ro, reset := 0, keep := .mram }
def KSE_DTK_GEN : Row := { base := 0x72014, dims := [], lo := 0, width := 32, acc := .ro, reset := 0, keep := .mram }

/-- The rows of Table 15-11. -/
def tbl_15_11 : List Row :=
  [KSE_ROOT_GATE, KSE_KA_PRESENT, KSE_KA_CTR, KSE_ATT_COUNT, KSE_DTK_GEN]

/-! Table 16-6: LCY block, base 0x0008_0000 -/

def LCY_FUSE_STATE : Row := { base := 0x80000, dims := [], lo := 0, width := 3, acc := .ro, reset := 0, keep := .vol, virt := true }
def LCY_DEBUG : Row := { base := 0x80004, dims := [], lo := 0, width := 2, acc := .ro, reset := 0, keep := .vol }
def LCY_DEBUG_SCOPE : Row := { base := 0x80004, dims := [], lo := 8, width := 5, acc := .ro, reset := 0, keep := .vol }
def LCY_D1_EN : Row := { base := 0x80008, dims := [], lo := 0, width := 34, acc := .rw, reset := 0, keep := .vol }
def LCY_SEAL_LOOP_INTACT : Row := { base := 0x80010, dims := [], lo := 0, width := 1, acc := .ro, reset := 0, keep := .mram, virt := true }
def LCY_SEAL_LATCH_OPEN : Row := { base := 0x80010, dims := [], lo := 1, width := 1, acc := .ro, reset := 0, keep := .aod }
def LCY_SEAL_ACKED : Row := { base := 0x80010, dims := [], lo := 2, width := 1, acc := .ro, reset := 0, keep := .aod }
def LCY_SEAL_CONFIG_LOCK : Row := { base := 0x80010, dims := [], lo := 3, width := 1, acc := .ro, reset := 0, keep := .mram, virt := true }
def LCY_SEAL_OPENS : Row := { base := 0x80014, dims := [], lo := 0, width := 32, acc := .ro, reset := 0, keep := .plat }
def LCY_SEAL_OPEN_TICKS : Row := { base := 0x80018, dims := [], lo := 0, width := 64, acc := .ro, reset := 0, keep := .plat }
def LCY_EVT_SEAL : Row := { base := 0x80020, dims := [], lo := 0, width := 1, acc := .w1c, reset := 0, keep := .vol, cnt := 32 }
def LCY_EVT_LOCK_CHANGED : Row := { base := 0x80020, dims := [], lo := 1, width := 1, acc := .w1c, reset := 0, keep := .vol, cnt := 39 }
def LCY_EVT_D2_GRANTED : Row := { base := 0x80020, dims := [], lo := 2, width := 1, acc := .w1c, reset := 0, keep := .vol, cnt := 46 }
def LCY_SETCNT_0 : Row := { base := 0x80024, dims := [], lo := 0, width := 8, acc := .rw, reset := 0, keep := .vol }
def LCY_SETCNT_1 : Row := { base := 0x80024, dims := [], lo := 8, width := 8, acc := .rw, reset := 0, keep := .vol }
def LCY_SETCNT_2 : Row := { base := 0x80024, dims := [], lo := 16, width := 8, acc := .rw, reset := 0, keep := .vol }
def LCY_USB_ENABLED : Row := { base := 0x80028, dims := [], lo := 0, width := 1, acc := .ro, reset := 0, keep := .vol, virt := true }
def LCY_USB_REMAIN : Row := { base := 0x80028, dims := [], lo := 16, width := 9, acc := .ro, reset := 0, keep := .vol, virt := true }
def LCY_WIPED_STATE : Row := { base := 0x80030, dims := [], lo := 0, width := 3, acc := .ro, reset := 0, keep := .plat }
def LCY_PRESENCE_WINDOW : Row := { base := 0x80100, dims := [], lo := 0, width := 1, acc := .ro, reset := 0, keep := .vol, virt := true }
def LCY_PRESENCE_PRESSED_OFF : Row := { base := 0x80100, dims := [], lo := 1, width := 1, acc := .w1c, reset := 0, keep := .aod, cnt := 31 }
def LCY_PRESENCE_REMAIN : Row := { base := 0x80100, dims := [], lo := 8, width := 8, acc := .ro, reset := 0, keep := .vol, virt := true }
def LCY_PRESENCE_SETCNT : Row := { base := 0x80104, dims := [], lo := 0, width := 8, acc := .rw, reset := 0, keep := .aod }
def LCY_PRESENCE_OPENS : Row := { base := 0x80108, dims := [], lo := 0, width := 32, acc := .ro, reset := 0, keep := .plat }

/-- The rows of Table 16-6. -/
def tbl_16_6 : List Row :=
  [LCY_FUSE_STATE, LCY_DEBUG, LCY_DEBUG_SCOPE, LCY_D1_EN, LCY_SEAL_LOOP_INTACT, LCY_SEAL_LATCH_OPEN, LCY_SEAL_ACKED, LCY_SEAL_CONFIG_LOCK, LCY_SEAL_OPENS, LCY_SEAL_OPEN_TICKS, LCY_EVT_SEAL, LCY_EVT_LOCK_CHANGED, LCY_EVT_D2_GRANTED, LCY_SETCNT_0, LCY_SETCNT_1, LCY_SETCNT_2, LCY_USB_ENABLED, LCY_USB_REMAIN, LCY_WIPED_STATE, LCY_PRESENCE_WINDOW] ++
  [LCY_PRESENCE_PRESSED_OFF, LCY_PRESENCE_REMAIN, LCY_PRESENCE_SETCNT, LCY_PRESENCE_OPENS]

/-! Table 17-9: UPD block, base 0x0009_0000 -/

def UPD_STATE : Row := { base := 0x90000, dims := [], lo := 0, width := 3, acc := .ro, reset := 0, keep := .mram }
def UPD_STATE_ACTIVE_SLOT : Row := { base := 0x90000, dims := [], lo := 3, width := 1, acc := .ro, reset := 0, keep := .plat }
def UPD_OWNER_COMPARTMENT : Row := { base := 0x90004, dims := [], lo := 0, width := 8, acc := .ro, reset := 0, keep := .vol, virt := true }
def UPD_OWNER_TRANSPORT : Row := { base := 0x90004, dims := [], lo := 8, width := 2, acc := .ro, reset := 0, keep := .vol, virt := true }
def UPD_OWNER_SINCE : Row := { base := 0x90008, dims := [], lo := 0, width := 64, acc := .ro, reset := 0, keep := .vol, virt := true }
def UPD_PKG_SIZE : Row := { base := 0x90010, dims := [], lo := 0, width := 32, acc := .ro, reset := 0, keep := .mram }
def UPD_BLOCKS_MISSING : Row := { base := 0x90014, dims := [], lo := 0, width := 32, acc := .ro, reset := 0, keep := .mram }
def UPD_BUILD_LO : Row := { base := 0x90018, dims := [], lo := 0, width := 32, acc := .ro, reset := 0, keep := .mram }
def UPD_SEC_F : Row := { base := 0x9001C, dims := [], lo := 0, width := 7, acc := .ro, reset := 0, keep := .plat }
def UPD_SEC_M : Row := { base := 0x90020, dims := [], lo := 0, width := 32, acc := .ro, reset := 0, keep := .plat }
def UPD_TRIAL_LEFT : Row := { base := 0x90024, dims := [], lo := 0, width := 17, acc := .ro, reset := 0, keep := .vol, virt := true }
def UPD_ADJ_TIME_OK : Row := { base := 0x90028, dims := [], lo := 0, width := 1, acc := .ro, reset := 0, keep := .vol, virt := true }
def UPD_ADJ_PLIES_OK : Row := { base := 0x90028, dims := [], lo := 1, width := 1, acc := .ro, reset := 0, keep := .vol, virt := true }
def UPD_ADJ_ARMED : Row := { base := 0x90028, dims := [], lo := 2, width := 1, acc := .ro, reset := 0, keep := .vol, virt := true }
def UPD_SEALED_MOVE : Row := { base := 0x9002C, dims := [], lo := 0, width := 32, acc := .wo, reset := 0, keep := .vol }
def UPD_SEAL_BAD : Row := { base := 0x90030, dims := [], lo := 0, width := 32, acc := .ro, reset := 0, keep := .vol }
def UPD_EVT_FALLBACK : Row := { base := 0x90034, dims := [], lo := 0, width := 1, acc := .w1c, reset := 0, keep := .vol, cnt := 32 }
def UPD_EVT_REFUSED : Row := { base := 0x90034, dims := [], lo := 1, width := 1, acc := .w1c, reset := 0, keep := .vol, cnt := 39 }
def UPD_EVT_CONFIRMED : Row := { base := 0x90034, dims := [], lo := 2, width := 1, acc := .w1c, reset := 0, keep := .vol, cnt := 46 }
def UPD_SETCNT_0 : Row := { base := 0x90038, dims := [], lo := 0, width := 8, acc := .rw, reset := 0, keep := .vol }
def UPD_SETCNT_1 : Row := { base := 0x90038, dims := [], lo := 8, width := 8, acc := .rw, reset := 0, keep := .vol }
def UPD_SETCNT_2 : Row := { base := 0x90038, dims := [], lo := 16, width := 8, acc := .rw, reset := 0, keep := .vol }
def UPD_CFG_OWNER_SIG_REQ : Row := { base := 0x9003C, dims := [], lo := 0, width := 1, acc := .rw, reset := 0, keep := .mram }
def UPD_SLOT_VALID : Row := { base := 0x90100, dims := [(2, 0x40)], lo := 0, width := 1, acc := .ro, reset := 0, keep := .plat }
def UPD_SLOT_TRIAL : Row := { base := 0x90100, dims := [(2, 0x40)], lo := 1, width := 1, acc := .ro, reset := 0, keep := .plat }
def UPD_SLOT_VER_SUP : Row := { base := 0x90104, dims := [(2, 0x40)], lo := 0, width := 16, acc := .ro, reset := 0, keep := .plat }
def UPD_SLOT_VER_PCX : Row := { base := 0x90104, dims := [(2, 0x40)], lo := 16, width := 16, acc := .ro, reset := 0, keep := .plat }
def UPD_SLOT_VER_SCE : Row := { base := 0x90108, dims := [(2, 0x40)], lo := 0, width := 16, acc := .ro, reset := 0, keep := .plat }
def UPD_SLOT_VER_MAE : Row := { base := 0x90108, dims := [(2, 0x40)], lo := 16, width := 16, acc := .ro, reset := 0, keep := .plat }
def UPD_SLOT_VER_FBC : Row := { base := 0x9010C, dims := [(2, 0x40)], lo := 0, width := 16, acc := .ro, reset := 0, keep := .plat }
def UPD_SLOT_SETTINGS_FMT : Row := { base := 0x9010C, dims := [(2, 0x40)], lo := 16, width := 16, acc := .ro, reset := 0, keep := .plat }
def UPD_SLOT_SEC_MAJOR : Row := { base := 0x90110, dims := [(2, 0x40)], lo := 0, width := 8, acc := .ro, reset := 0, keep := .plat }
def UPD_SLOT_SEC_MINOR : Row := { base := 0x90114, dims := [(2, 0x40)], lo := 0, width := 32, acc := .ro, reset := 0, keep := .plat }
def UPD_SLOT_BUILD_LO : Row := { base := 0x90118, dims := [(2, 0x40)], lo := 0, width := 32, acc := .ro, reset := 0, keep := .plat }
def UPD_SLOT_ACTIVATED : Row := { base := 0x90120, dims := [(2, 0x40)], lo := 0, width := 64, acc := .ro, reset := 0, keep := .plat }
def UPD_ADJREC_HASH : Row := { base := 0x90200, dims := [(8, 0x10)], lo := 0, width := 64, acc := .ro, reset := 0, keep := .mram }
def UPD_ADJREC_FAILS : Row := { base := 0x90208, dims := [(8, 0x10)], lo := 0, width := 2, acc := .ro, reset := 0, keep := .mram }
def UPD_ADJREC_REFUSED : Row := { base := 0x90208, dims := [(8, 0x10)], lo := 2, width := 1, acc := .ro, reset := 0, keep := .mram }
def UPD_ADJREC_LAST_FAIL : Row := { base := 0x9020C, dims := [(8, 0x10)], lo := 0, width := 32, acc := .ro, reset := 0, keep := .mram }
def UPD_BITMAP : Row := { base := 0x91000, dims := [(4096, 0x4)], lo := 0, width := 32, acc := .ro, reset := 0, keep := .mram }

/-- The rows of Table 17-9. -/
def tbl_17_9 : List Row :=
  [UPD_STATE, UPD_STATE_ACTIVE_SLOT, UPD_OWNER_COMPARTMENT, UPD_OWNER_TRANSPORT, UPD_OWNER_SINCE, UPD_PKG_SIZE, UPD_BLOCKS_MISSING, UPD_BUILD_LO, UPD_SEC_F, UPD_SEC_M, UPD_TRIAL_LEFT, UPD_ADJ_TIME_OK, UPD_ADJ_PLIES_OK, UPD_ADJ_ARMED, UPD_SEALED_MOVE, UPD_SEAL_BAD, UPD_EVT_FALLBACK, UPD_EVT_REFUSED, UPD_EVT_CONFIRMED, UPD_SETCNT_0] ++
  [UPD_SETCNT_1, UPD_SETCNT_2, UPD_CFG_OWNER_SIG_REQ, UPD_SLOT_VALID, UPD_SLOT_TRIAL, UPD_SLOT_VER_SUP, UPD_SLOT_VER_PCX, UPD_SLOT_VER_SCE, UPD_SLOT_VER_MAE, UPD_SLOT_VER_FBC, UPD_SLOT_SETTINGS_FMT, UPD_SLOT_SEC_MAJOR, UPD_SLOT_SEC_MINOR, UPD_SLOT_BUILD_LO, UPD_SLOT_ACTIVATED, UPD_ADJREC_HASH, UPD_ADJREC_FAILS, UPD_ADJREC_REFUSED, UPD_ADJREC_LAST_FAIL, UPD_BITMAP]

/-! Table 18-8: MEM and MTE block, base 0x0006_0000 -/

def MEM_CE : Row := { base := 0x60000, dims := [(14, 0x20)], lo := 0, width := 32, acc := .ro, reset := 0, keep := .plat }
def MEM_UE : Row := { base := 0x60004, dims := [(14, 0x20)], lo := 0, width := 32, acc := .ro, reset := 0, keep := .plat }
def MEM_LAST_UE : Row := { base := 0x60008, dims := [(14, 0x20)], lo := 0, width := 32, acc := .ro, reset := 0, keep := .vol }
def MEM_EVT_UE : Row := { base := 0x60400, dims := [], lo := 0, width := 1, acc := .w1c, reset := 0, keep := .vol, cnt := 32 }
def MEM_EVT_BANK_FAIL : Row := { base := 0x60400, dims := [], lo := 1, width := 1, acc := .w1c, reset := 0, keep := .vol, cnt := 39 }
def MEM_SETCNT_0 : Row := { base := 0x60404, dims := [], lo := 0, width := 8, acc := .rw, reset := 0, keep := .vol }
def MEM_SETCNT_1 : Row := { base := 0x60404, dims := [], lo := 8, width := 8, acc := .rw, reset := 0, keep := .vol }
def LCY_WIPE_FAIL : Row := { base := 0x60408, dims := [], lo := 0, width := 4, acc := .ro, reset := 0, keep := .plat }
def MTE_STATE_RUNNING : Row := { base := 0x61000, dims := [], lo := 0, width := 1, acc := .ro, reset := 0, keep := .vol }
def MTE_STATE_STARTUP_OK : Row := { base := 0x61000, dims := [], lo := 1, width := 1, acc := .ro, reset := 0, keep := .mram }
def MTE_RES_BANK : Row := { base := 0x61004, dims := [], lo := 0, width := 8, acc := .ro, reset := 0, keep := .vol }
def MTE_RES_MODE : Row := { base := 0x61004, dims := [], lo := 8, width := 1, acc := .ro, reset := 0, keep := .vol }
def MTE_RES_OUTCOME : Row := { base := 0x61004, dims := [], lo := 9, width := 3, acc := .ro, reset := 0, keep := .vol }
def MTE_RES_ROWS : Row := { base := 0x61004, dims := [], lo := 16, width := 16, acc := .ro, reset := 0, keep := .vol }
def MTE_RES_FIRST : Row := { base := 0x61008, dims := [], lo := 0, width := 32, acc := .ro, reset := 0, keep := .vol }
def MTE_RES_DURATION : Row := { base := 0x6100C, dims := [], lo := 0, width := 32, acc := .ro, reset := 0, keep := .vol }
def MTE_RES_END_TIME : Row := { base := 0x61010, dims := [], lo := 0, width := 64, acc := .ro, reset := 0, keep := .vol }
def MEM_BANK_SPARES : Row := { base := 0x62000, dims := [(155, 0x4)], lo := 0, width := 3, acc := .ro, reset := 0, keep := .plat }
def MEM_BANK_FAILED : Row := { base := 0x62000, dims := [(155, 0x4)], lo := 3, width := 1, acc := .ro, reset := 0, keep := .plat }
def MEM_BANK_REMAPPED : Row := { base := 0x62000, dims := [(155, 0x4)], lo := 4, width := 1, acc := .ro, reset := 0, keep := .plat }
def MEM_BANK_LAST_ROW : Row := { base := 0x62000, dims := [(155, 0x4)], lo := 16, width := 16, acc := .ro, reset := 0, keep := .plat }
def MEM_RSVD : Row := { base := 0x6000C, dims := [(14, 0x20)], lo := 0, width := 32, acc := .ro, reset := 0, keep := .vol, virt := true }

/-- The rows of Table 18-8. -/
def tbl_18_8 : List Row :=
  [MEM_CE, MEM_UE, MEM_LAST_UE, MEM_EVT_UE, MEM_EVT_BANK_FAIL, MEM_SETCNT_0, MEM_SETCNT_1, LCY_WIPE_FAIL, MTE_STATE_RUNNING, MTE_STATE_STARTUP_OK, MTE_RES_BANK, MTE_RES_MODE, MTE_RES_OUTCOME, MTE_RES_ROWS, MTE_RES_FIRST, MTE_RES_DURATION, MTE_RES_END_TIME, MEM_BANK_SPARES, MEM_BANK_FAILED, MEM_BANK_REMAPPED] ++
  [MEM_BANK_LAST_ROW, MEM_RSVD]

/-! Table 19-7: PMON block, base 0x0004_0000 -/

def PMON_CTRL_RUN : Row := { base := 0x40000, dims := [], lo := 0, width := 1, acc := .rw, reset := 0, keep := .vol }
def PMON_CTRL_FREEZE : Row := { base := 0x40000, dims := [], lo := 1, width := 1, acc := .wo, reset := 0, keep := .vol }
def PMON_CTRL_ARM : Row := { base := 0x40000, dims := [], lo := 2, width := 1, acc := .wo, reset := 0, keep := .vol }
def PMON_CTRL_DUMP_EN : Row := { base := 0x40000, dims := [], lo := 3, width := 1, acc := .rw, reset := 0, keep := .vol }
def PMON_CTRL_SAMP_EN : Row := { base := 0x40000, dims := [], lo := 4, width := 1, acc := .rw, reset := 0, keep := .vol }
def PMON_STATUS_UNITS : Row := { base := 0x40004, dims := [], lo := 0, width := 5, acc := .ro, reset := 0, keep := .vol, virt := true }
def PMON_STATUS_ARMED : Row := { base := 0x40004, dims := [], lo := 5, width := 1, acc := .ro, reset := 0, keep := .vol }
def PMON_STATUS_SAMP_STOPPED : Row := { base := 0x40004, dims := [], lo := 6, width := 1, acc := .ro, reset := 0, keep := .vol }
def PMON_FREEZE_TIME : Row := { base := 0x40008, dims := [], lo := 0, width := 64, acc := .ro, reset := 0, keep := .vol }
def PMON_FREEZE_AT : Row := { base := 0x40010, dims := [], lo := 0, width := 64, acc := .rw, reset := 0, keep := .vol }
def PMON_FREEZE_SEQ : Row := { base := 0x40018, dims := [], lo := 0, width := 32, acc := .ro, reset := 0, keep := .vol }
def PMON_EVT_FREEZE_DROP : Row := { base := 0x4001C, dims := [], lo := 0, width := 1, acc := .w1c, reset := 0, keep := .vol, cnt := 32 }
def PMON_EVT_SAMP_FULL : Row := { base := 0x4001C, dims := [], lo := 1, width := 1, acc := .w1c, reset := 0, keep := .vol, cnt := 39 }
def PMON_SETCNT_0 : Row := { base := 0x40020, dims := [], lo := 0, width := 8, acc := .rw, reset := 0, keep := .vol }
def PMON_SETCNT_1 : Row := { base := 0x40020, dims := [], lo := 8, width := 8, acc := .rw, reset := 0, keep := .vol }
def PERF_USER_EN : Row := { base := 0x40028, dims := [], lo := 0, width := 34, acc := .rw, reset := 0, keep := .mram }
def PMON_DUMP_INTERVAL : Row := { base := 0x40030, dims := [], lo := 0, width := 17, acc := .rw, reset := 10000, keep := .vol, rng := .nat 1 100000 }
def PMON_DUMP_SIZE : Row := { base := 0x40034, dims := [], lo := 0, width := 7, acc := .rw, reset := 4, keep := .vol, rng := .nat 1 64 }
def PMON_DUMP_NEWEST : Row := { base := 0x40038, dims := [], lo := 0, width := 32, acc := .ro, reset := 0, keep := .vol }
def PMON_DUMP_OLDEST : Row := { base := 0x4003C, dims := [], lo := 0, width := 32, acc := .ro, reset := 0, keep := .vol }
def PMON_SAMP_N : Row := { base := 0x40080, dims := [], lo := 0, width := 20, acc := .rw, reset := 65536, keep := .vol, rng := .nat 1024 1048575 }
def PMON_SAMP_RAND : Row := { base := 0x40080, dims := [], lo := 20, width := 4, acc := .rw, reset := 10, keep := .vol, rng := .nat 0 10 }
def PMON_SAMP_ENGINES : Row := { base := 0x40080, dims := [], lo := 24, width := 2, acc := .rw, reset := 3, keep := .vol }
def PMON_SAMP_WRAP : Row := { base := 0x40080, dims := [], lo := 26, width := 1, acc := .rw, reset := 0, keep := .vol }
def PMON_SAMP_FILTER_EN : Row := { base := 0x40080, dims := [], lo := 27, width := 1, acc := .rw, reset := 0, keep := .vol }
def PMON_SAMP_COMP : Row := { base := 0x40084, dims := [], lo := 0, width := 8, acc := .rw, reset := 0, keep := .vol }
def PMON_SAMP_SEED : Row := { base := 0x40088, dims := [], lo := 0, width := 32, acc := .rw, reset := 1, keep := .vol, rng := .nat 1 4294967295 }
def PMON_SAMP_NEWEST : Row := { base := 0x4008C, dims := [], lo := 0, width := 32, acc := .ro, reset := 0, keep := .vol }
def PMON_SAMP_OLDEST : Row := { base := 0x40090, dims := [], lo := 0, width := 32, acc := .ro, reset := 0, keep := .vol }
def PMON_SAMP_HELD : Row := { base := 0x40094, dims := [], lo := 0, width := 12, acc := .ro, reset := 0, keep := .vol }
def PMON_CYC : Row := { base := 0x40100, dims := [(18, 0x8)], lo := 0, width := 64, acc := .ro, reset := 0, keep := .vol, virt := true }
def PMON_CYC_SNAP : Row := { base := 0x40200, dims := [(18, 0x8)], lo := 0, width := 64, acc := .ro, reset := 0, keep := .vol }

/-- The rows of Table 19-7. -/
def tbl_19_7 : List Row :=
  [PMON_CTRL_RUN, PMON_CTRL_FREEZE, PMON_CTRL_ARM, PMON_CTRL_DUMP_EN, PMON_CTRL_SAMP_EN, PMON_STATUS_UNITS, PMON_STATUS_ARMED, PMON_STATUS_SAMP_STOPPED, PMON_FREEZE_TIME, PMON_FREEZE_AT, PMON_FREEZE_SEQ, PMON_EVT_FREEZE_DROP, PMON_EVT_SAMP_FULL, PMON_SETCNT_0, PMON_SETCNT_1, PERF_USER_EN, PMON_DUMP_INTERVAL, PMON_DUMP_SIZE, PMON_DUMP_NEWEST, PMON_DUMP_OLDEST] ++
  [PMON_SAMP_N, PMON_SAMP_RAND, PMON_SAMP_ENGINES, PMON_SAMP_WRAP, PMON_SAMP_FILTER_EN, PMON_SAMP_COMP, PMON_SAMP_SEED, PMON_SAMP_NEWEST, PMON_SAMP_OLDEST, PMON_SAMP_HELD, PMON_CYC, PMON_CYC_SNAP]

/-! Table 19-8: Programmable counter, base 0x0004_1000 + 0x100 × uu + 0x10 × k, fields PMON_CNT_uu_k_; present only for the units and k of Table 19-1 -/

def PMON_CNT_SEL : Row := { base := 0x41000, dims := [(18, 0x100), (8, 0x10)], lo := 0, width := 8, acc := .rw, reset := 0, keep := .vol }
def PMON_CNT_ENABLE : Row := { base := 0x41000, dims := [(18, 0x100), (8, 0x10)], lo := 8, width := 1, acc := .rw, reset := 0, keep := .vol }
def PMON_CNT_FILTER_EN : Row := { base := 0x41000, dims := [(18, 0x100), (8, 0x10)], lo := 9, width := 1, acc := .rw, reset := 0, keep := .vol }
def PMON_CNT_COMP : Row := { base := 0x41000, dims := [(18, 0x100), (8, 0x10)], lo := 16, width := 8, acc := .rw, reset := 0, keep := .vol }
def PMON_CNT_SNAP_WRAPS : Row := { base := 0x41000, dims := [(18, 0x100), (8, 0x10)], lo := 24, width := 8, acc := .ro, reset := 0, keep := .vol }
def PMON_CNT_VALUE : Row := { base := 0x41004, dims := [(18, 0x100), (8, 0x10)], lo := 0, width := 32, acc := .rw, reset := 0, keep := .vol, virt := true }
def PMON_CNT_SNAP : Row := { base := 0x41008, dims := [(18, 0x100), (8, 0x10)], lo := 0, width := 32, acc := .ro, reset := 0, keep := .vol }
def PMON_CNT_OVF : Row := { base := 0x4100C, dims := [(18, 0x100), (8, 0x10)], lo := 0, width := 1, acc := .w1c, reset := 0, keep := .vol, virt := true, cnt := 8 }
def PMON_CNT_SETCNT : Row := { base := 0x4100C, dims := [(18, 0x100), (8, 0x10)], lo := 8, width := 8, acc := .rw, reset := 0, keep := .vol }
def PMON_CNT_WRAPS : Row := { base := 0x4100C, dims := [(18, 0x100), (8, 0x10)], lo := 16, width := 16, acc := .ro, reset := 0, keep := .vol, virt := true }

/-- The rows of Table 19-8. -/
def tbl_19_8 : List Row :=
  [PMON_CNT_SEL, PMON_CNT_ENABLE, PMON_CNT_FILTER_EN, PMON_CNT_COMP, PMON_CNT_SNAP_WRAPS, PMON_CNT_VALUE, PMON_CNT_SNAP, PMON_CNT_OVF, PMON_CNT_SETCNT, PMON_CNT_WRAPS]

/-! Table 20-7: AGM block, base 0x0005_0000 -/

def AGM_STATUS_PLAN_PENDING : Row := { base := 0x50000, dims := [], lo := 0, width := 1, acc := .ro, reset := 0, keep := .vol }
def AGM_STATUS_DERATED : Row := { base := 0x50000, dims := [], lo := 1, width := 1, acc := .ro, reset := 0, keep := .plat }
def AGM_STATUS_URGENT : Row := { base := 0x50000, dims := [], lo := 2, width := 1, acc := .ro, reset := 0, keep := .vol }
def AGM_STATUS_FLOOR : Row := { base := 0x50000, dims := [], lo := 3, width := 1, acc := .ro, reset := 0, keep := .plat }
def AGM_TDCO_AUTO : Row := { base := 0x50004, dims := [], lo := 0, width := 24, acc := .rw, reset := 0, keep := .mram }
def AGM_ANNOUNCE_LEAD : Row := { base := 0x50008, dims := [], lo := 0, width := 17, acc := .rw, reset := 3600, keep := .mram, rng := .nat 60 86400 }
def AGM_SLACK_MIN : Row := { base := 0x5000C, dims := [], lo := 0, width := 16, acc := .ro, reset := 0, keep := .plat }
def AGM_SLACK_WORST : Row := { base := 0x5000C, dims := [], lo := 16, width := 6, acc := .ro, reset := 0, keep := .plat }
def AGM_TEMP_MAX : Row := { base := 0x50010, dims := [], lo := 0, width := 16, acc := .ro, reset := 0, keep := .plat }
def AGM_DROOP_MAX : Row := { base := 0x50010, dims := [], lo := 16, width := 16, acc := .ro, reset := 0, keep := .plat }
def AGM_HOLDUP_ESR : Row := { base := 0x50014, dims := [], lo := 0, width := 16, acc := .ro, reset := 0, keep := .plat }
def AGM_HOLDUP_DAYS : Row := { base := 0x50014, dims := [], lo := 16, width := 16, acc := .ro, reset := 0, keep := .plat }
def AGM_HOLDUP_TIME : Row := { base := 0x50018, dims := [], lo := 0, width := 64, acc := .ro, reset := 0, keep := .plat }
def AGM_CELL_RINT : Row := { base := 0x50020, dims := [], lo := 0, width := 16, acc := .ro, reset := 0, keep := .plat }
def AGM_CELL_DAYS : Row := { base := 0x50020, dims := [], lo := 16, width := 16, acc := .ro, reset := 0, keep := .plat }
def AGM_MRAM_CE_DAY : Row := { base := 0x50024, dims := [], lo := 0, width := 32, acc := .ro, reset := 0, keep := .plat }
def AGM_TCXO_DRIFT : Row := { base := 0x50028, dims := [], lo := 0, width := 32, acc := .ro, reset := 0, keep := .plat }
def AGM_LIFE_MONTHS : Row := { base := 0x5002C, dims := [], lo := 0, width := 16, acc := .ro, reset := 0, keep := .plat }
def AGM_SFP_A : Row := { base := 0x50030, dims := [], lo := 0, width := 2, acc := .ro, reset := 0, keep := .vol }
def AGM_SFP_B : Row := { base := 0x50030, dims := [], lo := 2, width := 2, acc := .ro, reset := 0, keep := .vol }
def AGM_EVT_ANNOUNCED : Row := { base := 0x50034, dims := [], lo := 0, width := 1, acc := .w1c, reset := 0, keep := .vol, cnt := 32 }
def AGM_EVT_APPLIED : Row := { base := 0x50034, dims := [], lo := 1, width := 1, acc := .w1c, reset := 0, keep := .vol, cnt := 39 }
def AGM_EVT_SERVICE : Row := { base := 0x50034, dims := [], lo := 2, width := 1, acc := .w1c, reset := 0, keep := .vol, cnt := 46 }
def AGM_SETCNT_0 : Row := { base := 0x50038, dims := [], lo := 0, width := 8, acc := .rw, reset := 0, keep := .vol }
def AGM_SETCNT_1 : Row := { base := 0x50038, dims := [], lo := 8, width := 8, acc := .rw, reset := 0, keep := .vol }
def AGM_SETCNT_2 : Row := { base := 0x50038, dims := [], lo := 16, width := 8, acc := .rw, reset := 0, keep := .vol }
def AGM_PLAN_VCORE_GB : Row := { base := 0x50100, dims := [], lo := 0, width := 7, acc := .ws, reset := 20, keep := .plat, rng := .oneOf [20, 30, 40, 50, 60] }
def AGM_PLAN_SCE_CLK : Row := { base := 0x50104, dims := [], lo := 0, width := 10, acc := .ws, reset := 800, keep := .plat, rng := .oneOf [600, 640, 680, 720, 760, 800] }
def AGM_PLAN_GEN : Row := { base := 0x50108, dims := [], lo := 0, width := 32, acc := .ro, reset := 0, keep := .plat }
def AGM_PLAN_T_C : Row := { base := 0x50110, dims := [], lo := 0, width := 64, acc := .ro, reset := 0, keep := .vol }
def AGM_CAN_TDCV_MAX : Row := { base := 0x50200, dims := [(24, 0x4)], lo := 0, width := 7, acc := .ro, reset := 0, keep := .plat }
def AGM_CAN_TDCV_REF : Row := { base := 0x50200, dims := [(24, 0x4)], lo := 8, width := 7, acc := .ro, reset := 0, keep := .plat }

/-- The rows of Table 20-7. -/
def tbl_20_7 : List Row :=
  [AGM_STATUS_PLAN_PENDING, AGM_STATUS_DERATED, AGM_STATUS_URGENT, AGM_STATUS_FLOOR, AGM_TDCO_AUTO, AGM_ANNOUNCE_LEAD, AGM_SLACK_MIN, AGM_SLACK_WORST, AGM_TEMP_MAX, AGM_DROOP_MAX, AGM_HOLDUP_ESR, AGM_HOLDUP_DAYS, AGM_HOLDUP_TIME, AGM_CELL_RINT, AGM_CELL_DAYS, AGM_MRAM_CE_DAY, AGM_TCXO_DRIFT, AGM_LIFE_MONTHS, AGM_SFP_A, AGM_SFP_B] ++
  [AGM_EVT_ANNOUNCED, AGM_EVT_APPLIED, AGM_EVT_SERVICE, AGM_SETCNT_0, AGM_SETCNT_1, AGM_SETCNT_2, AGM_PLAN_VCORE_GB, AGM_PLAN_SCE_CLK, AGM_PLAN_GEN, AGM_PLAN_T_C, AGM_CAN_TDCV_MAX, AGM_CAN_TDCV_REF]

end Sys2Proof.Machine.Obj
end

