-- ==== Sys2Proof/Machine/Tables.lean ====
section
/-!
DEFINITION. The object space as a whole (R86): every object map with its range, and the rows whose fields lie in a
given word. A word no row reaches is absent.
-/
namespace Sys2Proof.Machine.Obj

/-- Every object map: lowest address, end, rows. -/
def tables : List (Nat × Nat × List Row) := [
  (0xC00000, 0xC00044, tbl_2_10),
  (0x0, 0x34, tbl_4_3),
  (0x10000, 0x14004, tbl_4_7),
  (0x100000, 0x100050, tbl_5_10),
  (0x110000, 0x111F44, tbl_5_3),
  (0x180000, 0x1A0000, tbl_5_7),
  (0x200000, 0x308000, tbl_5_11),
  (0x110080, 0x111FA0, tbl_6_10),
  (0x130000, 0x160000, tbl_6_20),
  (0x120000, 0x120034, tbl_7_7),
  (0x140000, 0x141000, tbl_7_8),
  (0x20000, 0x2011C, tbl_13_5),
  (0x20200, 0x205E8, tbl_13_6),
  (0x30000, 0x38214, tbl_14_5),
  (0x33000, 0x33200, tbl_14_6),
  (0x400000, 0x400020, tbl_8_10),
  (0x410000, 0x410354, tbl_8_11),
  (0x420000, 0x423000, tbl_8_12),
  (0x430000, 0x43C000, tbl_8_13),
  (0x440000, 0x441800, tbl_8_14),
  (0x450000, 0x450118, tbl_8_15),
  (0x460000, 0x460034, tbl_9_1),
  (0x480000, 0x486000, tbl_9_2),
  (0x490000, 0x496000, tbl_9_3),
  (0x4C0000, 0x4C3300, tbl_9_4),
  (0x468000, 0x468800, tbl_9_6),
  (0x461000, 0x4610EC, tbl_9_8),
  (0x462000, 0x4621E8, tbl_9_9),
  (0x464000, 0x465000, tbl_9_10),
  (0x4D0000, 0x4D1018, tbl_9_11),
  (0x800000, 0x970F08, tbl_10_9),
  (0x801000, 0x971FEC, tbl_10_10),
  (0x808000, 0x9781D8, tbl_10_11),
  (0x808400, 0x9787D0, tbl_10_12),
  (0x80A000, 0x97A400, tbl_10_13),
  (0x80C000, 0x97D000, tbl_10_14),
  (0x800040, 0x97006C, tbl_11_8),
  (0x800100, 0x970144, tbl_11_9),
  (0x800200, 0x970300, tbl_11_10),
  (0xB00000, 0xB00020, tbl_12_7),
  (0xB01000, 0xB0161C, tbl_12_8),
  (0xB02000, 0xB027F4, tbl_12_9),
  (0xB04000, 0xB06130, tbl_12_10),
  (0xB08000, 0xB18000, tbl_12_11),
  (0xA00000, 0xA00F24, tbl_12_12),
  (0xA08000, 0xA10000, tbl_12_13),
  (0x70000, 0x71000, tbl_15_7),
  (0x71000, 0x71018, tbl_15_10),
  (0x72000, 0x72018, tbl_15_11),
  (0x80000, 0x8010C, tbl_16_6),
  (0x90000, 0x95000, tbl_17_9),
  (0x60000, 0x6226C, tbl_18_8),
  (0x40000, 0x40290, tbl_19_7),
  (0x41000, 0x42180, tbl_19_8),
  (0x50000, 0x50260, tbl_20_7)]

/-- The instance of `dims` that starts `off` bytes after the first. -/
def index (dims : List (Nat × Nat)) (off : Nat) : Option (List Nat) :=
  match dims with
  | [] => if off = 0 then some [] else none
  | (c, st) :: r =>
    if off / st < c then (index r (off % st)).map (off / st :: ·) else none

/-- A part of one field that lies in a word: the row, the instance, and the bit of the field at bit 0 of the word as
(bits below the word, bits above the word's bit 0). -/
structure Part where
  row : Row
  idx : List Nat
  below : Nat
  above : Nat
  deriving DecidableEq, Repr

/-- The instance of a row that starts at byte address `x`. -/
def startAt (r : Row) (x : Nat) : Option (List Nat) :=
  if r.base ≤ x then index r.dims (x - r.base) else none

/-- The parts of a row's fields in the word at `a`. -/
def rowParts (r : Row) (a : Nat) : List Part :=
  let here := [0, 1, 2, 3].filterMap fun k =>
    (startAt r (a + k)).map fun idx => { row := r, idx := idx, below := 0, above := 8 * k + r.lo }
  if r.lo + r.width > 32 ∧ 4 ≤ a then
    match startAt r (a - 4) with
    | some idx => here ++ [{ row := r, idx := idx, below := 32 - r.lo, above := 0 }]
    | none => here
  else here

/-- The parts of all fields in the word at `a`. -/
def parts (a : Nat) : List Part :=
  (tables.filter fun t => decide (t.1 ≤ a) && decide (a < t.2.1)).flatMap fun t => t.2.2.flatMap fun r => rowParts r a

/-- The value a part contributes to its word, given the whole field's value. -/
def Part.place (p : Part) (v : Nat) : Nat := v / 2 ^ p.below * 2 ^ p.above % 2 ^ 32

/-- The field's value after `w` is written to the word: only the bits in the word change. -/
def Part.merge (p : Part) (old w : Nat) : Nat :=
  if p.below = 0 then
    let n := min p.row.width (32 - p.above)
    old / 2 ^ n * 2 ^ n + bits w p.above n
  else old % 2 ^ p.below + bits w 0 (p.row.width - p.below) * 2 ^ p.below

/-- The bits of the word a field part takes, as they are in the field's own numbering (for write-one-to-clear). -/
def Part.taken (p : Part) (w : Nat) : Nat := p.merge 0 w

end Sys2Proof.Machine.Obj
end

