-- ==== Sys2Proof/Machine/Perf.lean ====
section
/-!
DEFINITION. The counting side of the performance monitor (spec/19 R436 to R438, R446): events as they happen, the cycles
of each unit's clock, and the countdown that samples an op. The commands of the block are in Pmon.lean.
-/
namespace Sys2Proof.Machine

/-- Programmable counters of a PMON unit (Table 19-1). -/
def pmonCounters (u : Nat) : Nat := if u ≤ 4 ∨ u = 7 then 4 else if u = 5 ∨ u = 6 ∨ u = 9 ∨ u = 11 ∨ u = 17 then 8 else 0

/-- A count with `n` more (R438). -/
def PerfCnt.add (c : PerfCnt) (n : Nat) : PerfCnt :=
  { value := (c.value + n) % 2 ^ 32, wraps := (c.wraps + (c.value + n) / 2 ^ 32) % 2 ^ 16,
    ovf := c.ovf || decide (2 ^ 32 ≤ c.value + n) }

/-- Whether counter `k` of unit `u` counts an event of compartment `comp` (R437). -/
def State.perfCounts (s : State) (u ev comp k : Nat) : Bool :=
  s.on (Obj.PMON_CNT_ENABLE.ij u k) && s.rd (Obj.PMON_CNT_SEL.ij u k) == ev &&
  (! s.on (Obj.PMON_CNT_FILTER_EN.ij u k) || s.rd (Obj.PMON_CNT_COMP.ij u k) == comp)

/-- `n` events of a unit that belong to compartment `comp` (R437, R438). They change the counts and nothing else. -/
def State.perf (s : State) (u ev comp : Nat) (n : Nat := 1) : State :=
  if s.on Obj.PMON_CTRL_RUN.f && ! bit (s.rd Obj.PWR_UNIT_FAIL.f) 11 then
    let hit := (List.range (pmonCounters u)).filter fun k => s.perfCounts u ev comp k
    { s with pmon := { s.pmon with
        cnts := hit.foldl (fun t k => t.put (8 * u + k) ((t.get {} (8 * u + k)).add n)) s.pmon.cnts } }
  else s

/-! ### Cycle counters (R436, Table 2-4) -/

/-- The clock of a unit in kHz in the present mode, 0 where it is stopped. The scan engines' cycles are counted as ops
are charged (R34), and the memory test engine's clock is not stated. -/
def State.unitKHz (s : State) (u : Nat) : Nat :=
  let m := s.rd Obj.IDENT_MODE.f
  let service := decide (5 ≤ m ∧ m ≤ 9)
  if m < 2 then 0
  else if u = 0 ∨ u = 12 then 400000
  else if 1 ≤ u ∧ u ≤ 4 then (if service then 1200000 else 0)
  else if u = 7 ∨ u = 10 ∨ u = 13 ∨ u = 17 then 200000
  else if u = 9 then (if service || (m == 2 && s.rd Obj.PWR_WATCH_PORTS.f != 0) then 80000 else 0)
  else if u = 11 then (if service || m == 2 || m == 4 then 156250 else 0)
  else if u = 14 ∨ u = 16 then 8000
  else 0

/-- The cycles of a unit in millionths. In M3 none has been counted (R436). -/
def State.cyclesNow (s : State) (u : Nat) : Nat :=
  s.pmon.cyc.get 0 u + (if s.rd Obj.IDENT_MODE.f = 3 then 0 else (s.floorTime - s.pmon.cycAt) * s.unitKHz u)

/-- PMON_CYC of a unit. -/
def State.pmonCyc (s : State) (u : Nat) : Nat :=
  if u = 15 then Config.perfCount 15 0x100 s.floorTime % 2 ^ 64 else s.cyclesNow u / 1000000 % 2 ^ 64

/-- Take stock of the cycle counters before a clock changes or floor time is stepped. -/
def State.markCycles (s : State) : State :=
  { s with pmon := { s.pmon with cyc := (List.range 18).foldl (fun t u => t.put u (s.cyclesNow u)) s.pmon.cyc,
                                 cycAt := s.floorTime } }

/-! ### Programmable counters as they read -/

/-- Whether the model counts an event of a unit; the others are free (log 18). -/
def perfKnown (u ev : Nat) : Bool :=
  if u = 0 then ev != 0x04 && ev != 0x05
  else if u = 5 ∨ u = 6 then ev != 0x07 && ev != 0x08 && ev != 0x0E
  else if u = 7 then ev != 0x00
  else if u = 9 then ev != 0x05
  else if u = 11 then ev != 0x03 && ev != 0x07
  else false

/-- The count of a programmable counter, its free part included. -/
def State.perfNow (s : State) (u k : Nat) : PerfCnt :=
  let c := s.pmon.cnts.get {} (8 * u + k)
  let ev := s.rd (Obj.PMON_CNT_SEL.ij u k)
  if s.on (Obj.PMON_CNT_ENABLE.ij u k) && s.on Obj.PMON_CTRL_RUN.f && ! perfKnown u ev then
    c.add (Config.perfCount u ev s.floorTime)
  else c

/-- Enabled units (R440). -/
def State.pmonUnits (s : State) : Nat :=
  ((List.range 18).filter fun u => (List.range (pmonCounters u)).any fun k => s.on (Obj.PMON_CNT_ENABLE.ij u k)).length

/-! ### The sampler (R446) -/

/-- One step of the LFSR x^32 + x^22 + x^2 + x + 1, shifting towards its high end. -/
def lfsrStep (x : Nat) : Nat := (2 * x + (bits x 31 1 + bits x 21 1 + bits x 1 1 + bits x 0 1) % 2) % 2 ^ 32

/-- Reload the countdown of an engine. -/
def State.reload (s : State) (e : Nat) : State :=
  let x := lfsrStep s.pmon.lfsr
  let m := 2 ^ s.rd Obj.PMON_SAMP_RAND.f
  let n := s.rd Obj.PMON_SAMP_N.f
  { s with pmon := { s.pmon with lfsr := x, counts := s.pmon.counts.set e (n - n % m + x % m) } }

/-- An op retires: the countdown of its engine, and the op sampled where it reaches 0. -/
def State.sampleOp (s : State) (x : Sampled) : State :=
  if s.on Obj.PMON_CTRL_SAMP_EN.f && ! s.on Obj.PMON_STATUS_SAMP_STOPPED.f && bit (s.rd Obj.PMON_SAMP_ENGINES.f) x.engine &&
     (! s.on Obj.PMON_SAMP_FILTER_EN.f || s.rd Obj.PMON_SAMP_COMP.f == x.comp) && ! bit (s.rd Obj.PWR_UNIT_FAIL.f) 11 then
    let n := s.pmon.counts.getD x.engine 0
    if n ≤ 1 then State.reload { s with pmon := { s.pmon with sampled := s.pmon.sampled ++ [x] } } x.engine
    else { s with pmon := { s.pmon with counts := s.pmon.counts.set x.engine (n - 1) } }
  else s

end Sys2Proof.Machine
end

