-- ==== Sys2Proof/Machine/Ply.lean ====
section
/-!
DEFINITION. The machine a ply sees (spec/06 R146 to R149, R158): instance data, the program a ply runs on, its
registers, and which ply an engine runs (spec/05 R124 to R126).
-/
namespace Sys2Proof.Machine

/-! ### Byte memories: sorted cells, an unlisted byte reads 0 -/

/-- The byte at an address. -/
def memGet (m : List Host.Cell) (a : Nat) : Byte :=
  match m with
  | [] => 0
  | (k, b) :: r => if k = a then b else memGet r a

/-- A cell put at its place. -/
def memIns (m : List Host.Cell) (a : Nat) (b : Byte) : List Host.Cell :=
  match m with
  | [] => [(a, b)]
  | (k, c) :: r => if a < k then (a, b) :: (k, c) :: r else (k, c) :: memIns r a b

/-- The memory without the cell. -/
def memDel (m : List Host.Cell) (a : Nat) : List Host.Cell := m.filter fun p => p.1 != a

/-- Write a byte; a zero is not listed. -/
def memPut (m : List Host.Cell) (a : Nat) (b : Byte) : List Host.Cell := if b = 0 then memDel m a else memIns (memDel m a) a b

/-- Whether a byte memory is in canonical form: addresses strictly rising, no zero listed. -/
def memWf : List Host.Cell → Bool
  | [] => true
  | (a, b) :: r => b != 0 && (match r with | [] => true | (k, _) :: _ => decide (a < k)) && memWf r

/-- `n` bytes, little-endian, as a number (R3). -/
def memRead (m : List Host.Cell) (a : Nat) : Nat → Nat
  | 0 => 0
  | n + 1 => (memGet m a).toNat + 256 * memRead m (a + 1) n

/-- Write a byte string. -/
def memWrite (m : List Host.Cell) (a : Nat) : Bytes → List Host.Cell
  | [] => m
  | b :: r => memWrite (memPut m a b) (a + 1) r

/-- A byte string as cells from address `a`. -/
def memOf (bs : Bytes) : List Host.Cell := memWrite [] 0 bs

/-! ### Programs and instances -/

def State.prog (s : State) (c : Nat) : CompScan := s.scan.progs.get {} c

def State.putProg (s : State) (c : Nat) (p : CompScan) : State := { s with scan := { s.scan with progs := s.scan.progs.put c p } }

/-- Key of a task. -/
def taskKey (c e k : Nat) : Nat := c * 32 + e * 16 + k

def State.task (s : State) (c e k : Nat) : TaskRun := s.scan.tasks.get {} (taskKey c e k)

def State.putTask (s : State) (c e k : Nat) (t : TaskRun) : State :=
  { s with scan := { s.scan with tasks := s.scan.tasks.put (taskKey c e k) t } }

def State.eng (s : State) (e : Nat) : Engine := if e = 0 then s.scan.e0 else s.scan.e1

def State.putEng (s : State) (e : Nat) (g : Engine) : State :=
  if e = 0 then { s with scan := { s.scan with e0 := g } } else { s with scan := { s.scan with e1 := g } }

def Prog.inst (g : Prog) (id : Nat) : Option Inst := g.insts.find? fun x => x.id == id

/-- The placed instance of an image index. -/
def Prog.instIx (g : Prog) (ix : Nat) : Option Inst := g.insts.find? fun x => x.ix == ix

def Prog.putInst (g : Prog) (x : Inst) : Prog := { g with insts := g.insts.map fun y => if y.id = x.id then x else y }

/-- The global instance as placed. -/
def Prog.glob (g : Prog) : Option Inst := g.image.globIx.bind g.instIx

/-- The program a ply runs on: the bank in force, or the one before an exchange (R115). -/
def State.progOf (s : State) (p : Ply) : Option Prog :=
  let g := s.prog p.comp
  if p.onOld then (match g.old with | some o => some o | none => g.cur) else g.cur

/-- Put back a changed program of a ply. -/
def State.putProgOf (s : State) (p : Ply) (x : Prog) : State :=
  let g := s.prog p.comp
  if p.onOld && g.old.isSome then s.putProg p.comp { g with old := some x } else s.putProg p.comp { g with cur := some x }

/-! ### Tasks that take part (R119) -/

/-- Whether a task entry takes part: enabled, and defined by the image in force (R119). -/
def State.enabledTask (s : State) (c e k : Nat) : Option ImgTask :=
  if s.on (Obj.SCE_TASK_CFG_ENABLE.at c [e, k]) then (s.prog c).cur.bind fun g => g.image.task e k else none

/-- The tasks of a compartment that take part. -/
def State.tasksOf (s : State) (c : Nat) : List ImgTask :=
  match (s.prog c).cur with
  | some g => g.image.tasks.filter fun t => s.on (Obj.SCE_TASK_CFG_ENABLE.at c [t.engine, t.entry])
  | none => []

/-! ### Registers -/

/-- Read a general register: G0 reads 0 (R146). -/
def Ply.g (p : Ply) (r : Fin 32) : Word64 := if r = 0 then 0 else p.regs.getD r.val 0

/-- Write a general register: a write to G0 is discarded (R146). -/
def Ply.setG (p : Ply) (r : Fin 32) (v : Word64) : Ply := if r = 0 then p else { p with regs := p.regs.set r.val v }

/-- On to the next op. -/
def Ply.next (p : Ply) : Ply := { p with pc := p.pc + 4 }

/-! ### Scheduling (R124 to R126) -/

/-- The share of a compartment on an engine, in 0.1 % (Table 4-7). -/
def State.share (s : State) (e c : Nat) : Nat :=
  if c = 0 then s.rd (Obj.CAST_SHARE_OWNER.i e) else s.rd (Obj.CAST_SHARE.ij e (c - 1))

/-- The allowance of a compartment in the present window, in ps (R125). -/
def State.allowance (s : State) (e c : Nat) : Nat :=
  10000000 * (match (s.eng e).shares with | some l => l.getD c 0 | none => s.share e c)

/-- Whether a compartment has allowance left in the present window. -/
def State.hasBudget (s : State) (e c : Nat) : Bool := decide ((s.eng e).used.get 0 c < s.allowance e c)

/-- The order among ready plies: shorter tempo, earlier boundary, lower compartment, lower entry (R124). -/
def Ply.before (p q : Ply) : Bool :=
  decide (p.tempo < q.tempo) || (p.tempo == q.tempo && (decide (p.cap < q.cap) || (p.cap == q.cap &&
    (decide (p.comp < q.comp) || (p.comp == q.comp && decide (p.entry < q.entry))))))

/-- The first of a list in that order. -/
def firstPly : List Ply → Option Ply
  | [] => none
  | p :: r => match firstPly r with
    | some q => if q.before p then some q else some p
    | none => some p

/-- Whether a ply may run: captured, not waiting on an FW access, its compartment not suspended. -/
def State.runnable (s : State) (p : Ply) : Bool := p.ready && p.waiting.isNone && s.hasBudget p.engine p.comp

/-- The ply an engine runs (R124). -/
def State.running (s : State) (e : Nat) : Option Ply :=
  if bit s.lcy.halted 2 then none else firstPly (s.scan.plies.filter fun p => p.engine == e && s.runnable p)

def Ply.sameTask (p q : Ply) : Bool := p.comp == q.comp && p.engine == q.engine && p.entry == q.entry

def State.putPly (s : State) (p : Ply) : State :=
  { s with scan := { s.scan with plies := s.scan.plies.map fun q => if q.sameTask p then p else q } }

def State.dropPly (s : State) (p : Ply) : State :=
  { s with scan := { s.scan with plies := s.scan.plies.filter fun q => ! q.sameTask p } }

/-- The unfinished ply of a task. -/
def State.plyOf (s : State) (c e k : Nat) : Option Ply :=
  s.scan.plies.find? fun p => p.comp == c && p.engine == e && p.entry == k

/-! ### Cost (R125, R167) -/

/-- The scan clock of an engine in MHz: 50 in M2 (R36), else the planned clock (Table 20-7). -/
def State.sceClk (s : State) (e : Nat) : Nat :=
  if s.rd Obj.IDENT_MODE.f = 2 then (if e = 0 then 50 else 0) else s.rd Obj.AGM_PLAN_SCE_CLK.f

/-- The cycles an op takes: free between the bounds of its table (log 13). -/
def State.cycles (s : State) (lo hi : Nat) : Nat × State :=
  if hi ≤ lo then (lo, s) else
    let (n, s1) := s.draw
    (lo + n % (hi - lo + 1), s1)

/-- Charge time in ps to a ply and to its compartment. -/
def State.charge (s : State) (p : Ply) (ps : Nat) : State :=
  let g := s.eng p.engine
  s.putEng p.engine { g with used := g.used.put p.comp (g.used.get 0 p.comp + ps), last := some (p.comp, p.entry) }

/-- The time of some cycles, in ps, at the engine's clock. -/
def State.cyclePs (s : State) (e n : Nat) : Nat := n * 1000000 / s.sceClk e

/-- The charge of a switch into a ply that is not the one run last: free, at most 0.25 µs (R125). -/
def State.switchPs (s : State) (p : Ply) : Nat × State :=
  if (s.eng p.engine).last = some (p.comp, p.entry) then (0, s) else
    let (n, s1) := s.draw
    (n % 250001, s1)

/-- The op word at a ply's program counter. -/
def State.opWord (s : State) (p : Ply) : Nat := ((s.progOf p).bind fun g => g.image.code[p.pc / 4]?).getD 0

/-- What PMON sees of a retired op (Table 19-2): the ply it preempts, the op, its cycles, the sampler. -/
def State.opDone (s : State) (p : Ply) (last : Option (Nat × Nat)) (milli : Nat) : State :=
  let u := 5 + p.engine
  let s1 := match last with
    | some (c, k) =>
      if last ≠ some (p.comp, p.entry) ∧ (s.plyOf c p.engine k).any (fun q : Ply => q.begun && s.runnable q) = true then
        s.perf u 0x03 c else s
    | none => s
  let before := s1.pmon.cyc.get 0 u
  let s2 := { s1 with pmon := { s1.pmon with cyc := s1.pmon.cyc.put u (before + milli) } }
  let s3 := (s2.perf u 0x01 p.comp).perf u 0x00 p.comp ((before + milli) / 1000000 - before / 1000000)
  s3.sampleOp { engine := p.engine, pc := p.pc, op := s.opWord p, comp := p.comp, entry := p.entry, inst := p.ib }

/-- The state and ply after an op's charge. -/
def State.spend (s : State) (p : Ply) (lo hi : Nat) : State × Ply :=
  let (sw, s1) := s.switchPs p
  let (n, s2) := s1.cycles lo hi
  let ps := sw + s2.cyclePs p.engine n
  ((s2.charge p ps).opDone p (s.eng p.engine).last (n * 1000000 + sw * s2.sceClk p.engine),
   { p with charged := p.charged + ps, begun := true })

/-- Count an event of the op that the running ply of an engine retires (Table 19-2). -/
def State.countOp (s : State) (e ev : Nat) : State :=
  match s.running e with
  | some p => s.perf (5 + e) ev p.comp
  | none => s

/-- Retire an op of the ply that engine `e` runs: charge it and put back the ply it leaves. -/
def State.retire (s : State) (e lo hi : Nat) (f : Ply → Ply) : State :=
  match s.running e with
  | none => s
  | some p =>
    let (s1, p1) := s.spend p lo hi
    s1.putPly (f p1)

/-- An op that writes one register from the ply's context and goes on. -/
def State.regOp (s : State) (e lo hi : Nat) (d : Fin 32) (f : Ply → Word64) : State :=
  s.retire e lo hi fun p => (p.setG d (f p)).next

/-! ### What a task shows (Table 5-3) -/

/-- Whether a task is watch-eligible (R35). -/
def State.watchTask (s : State) (c e k : Nat) : Bool :=
  e == 0 && s.on (Obj.SCE_TASK_CFG_WATCH.at c [e, k]) && decide (100 ≤ s.rd (Obj.SCE_TASK_TEMPO.at c [e, k]))

/-- Whether a task lies dormant: in M2, not watch-eligible (R137). -/
def State.dormant (s : State) (c e k : Nat) : Bool := s.rd Obj.IDENT_MODE.f == 2 && ! s.watchTask c e k

/-- STATUS of a task entry. -/
def State.taskStatus (s : State) (c e k : Nat) : Nat :=
  let st := s.rd (Obj.SCE_STATE.b c)
  if (s.enabledTask c e k).isNone then 0
  else if bit (s.rd Obj.PWR_UNIT_FAIL.f) e then 10
  else if st = 0 ∨ st = 1 ∨ st = 5 then 8
  else if s.dormant c e k then 9
  else match s.plyOf c e k with
    | some p =>
      if p.waiting.isSome then 6
      else if ! s.hasBudget e c then 5
      else if (s.running e).any (fun q => q.sameTask p) then 3
      else if p.begun then 4 else 2
    | none => if st = 2 then 1 else 7

/-! ### The instance window (R144, Table 6-17) -/

/-- The instance that SCE_INST_SEL names, where the compartment owns it. -/
def State.windowInst (s : State) (c : Nat) : Option (Prog × Inst) :=
  (s.prog c).cur.bind fun g => (g.inst (s.rd (Obj.SCE_INST_SEL.b c))).map fun x => (g, x)

/-- The word at an offset of the window: the 16-byte header, then the data. -/
def State.windowWord (s : State) (c off : Nat) : Option Nat :=
  (s.windowInst c).bind fun p =>
    let x := p.2
    let t := p.1.image.types[x.typeIx]?
    let i := p.1.image.insts[x.ix]?
    if off ≥ 16 + x.size then none
    else some (
      if off = 0 then x.id + 65536 * x.typeIx
      else if off = 4 then (t.elim 0 (·.hash)) % 2 ^ 32
      else if off = 8 then
        b2n (i.elim false (·.glob)) + 2 * b2n (p.1.image.retain.any fun r => r.1 == x.ix) +
        4 * b2n (p.1.image.tasks.any fun k => k.root == x.ix) + 65536 * c
      else if off = 12 then x.size
      else memRead x.data (off - 16) 4)

end Sys2Proof.Machine
end

