-- ==== Sys2Proof/Machine/Record.lean ====
section
/-!
DEFINITION. Event records as bytes, their sequences, and the record under a cursor (spec/14 R344, R346, R357).
-/
namespace Sys2Proof.Machine

/-- Whether a unit has failed: bit `n` of PWR_UNIT_FAIL (Table 2-10). -/
def State.failed (s : State) (n : Nat) : Bool := bit (s.rd Obj.PWR_UNIT_FAIL.f) n

/-- Whether DBG_HALT_N holds the units of a bit of SCOPE: 0 SUP, 1 PCX, 2 SCE, 3 MAE and FBC, 4 LBX and NSW (Table 16-3,
spec/21). A halted unit does nothing. -/
def State.halted (s : State) (n : Nat) : Bool := bit s.lcy.halted n

/-- A list padded with zeros or cut to `n` bytes. -/
def padTo (n : Nat) (b : Bytes) : Bytes := (b ++ List.replicate (n - b.length) 0).take n

/-- `n` bytes of `v`, most significant first. -/
def be (n v : Nat) : Bytes := (le n v).reverse

/-- The number a big-endian byte string spells. -/
def unbe (b : Bytes) : Nat := unle b.reverse

/-- The 256 bytes of a record (Table 14-1). -/
def EvRec.bytes (r : EvRec) (seq : Nat) (first : Bool) : Bytes :=
  le 4 seq ++ le 2 r.trigger ++ le 2 (r.flags + 2 * b2n first) ++ le 4 r.opSeconds ++ le 4 r.cycles ++ le 8 r.ticks ++
  le 8 r.ft ++ le 4 r.snapStatus ++ padTo 24 r.detail ++
  padTo 192 (r.snaps.flatMap fun x => le 4 x.1 ++ le 8 x.2) ++ le 4 seq

/-- The sequence after another, skipping 0 (R346). -/
def nextSeq (n : Nat) : Nat := if (n + 1) % 2 ^ 32 = 0 then 1 else (n + 1) % 2 ^ 32

/-- Whether sequence `a` comes after `b`, modulo 2^32. -/
def seqAfter (a b : Nat) : Bool :=
  let d := (a + 2 ^ 32 - b) % 2 ^ 32
  d != 0 && decide (d < 2 ^ 31)

def State.evLog (s : State) (c : Nat) : EvLog := s.evr.logs.get {} c

/-- The newest sequence of a log, 0 when it is empty. -/
def State.newest (s : State) (c : Nat) : Nat := s.rd (Obj.EVR_SEQ_NEWEST.b c)

/-- The record of a sequence that a log holds, with whether it lies in the first area. -/
def EvLog.find (g : EvLog) (seq : Nat) : Option (EvRec × Bool) :=
  match g.first.find? fun r => r.1 == seq with
  | some r => some (r.2, true)
  | none => (g.last.find? fun r => r.1 == seq).map fun r => (r.2, false)

/-- Word `w` of the record under a compartment's cursor: 0 when the sequence has not yet been written, none when it is no
longer held. -/
def State.recWord (s : State) (c w : Nat) : Option Nat :=
  let q := s.rd (Obj.EVR_CUR_SEQ.b c)
  match (s.evLog c).find q with
  | some (r, first) => some (field (r.bytes q first) (4 * w) 4)
  | none => if q = 0 ∨ s.newest c = 0 ∨ seqAfter q (s.newest c) then some 0 else none

end Sys2Proof.Machine
end

