-- ==== Sys2Proof/Machine/View.lean ====
section
/-!
DEFINITION. What each compartment sees of the object space (spec/04 R86, R89, R90, Table 4-1, and the rules of the
other chapters that narrow a view), and the value a word reads as, without any effect of the reading.
-/
namespace Sys2Proof.Machine

/-- What a compartment may do at an address: nothing (the address is as good as absent, R76), read, or all the access
codes allow. -/
inductive Sight where
  | hidden | readOnly | full
  deriving DecidableEq, Repr

/-- The vendor and firmware tag (Table 0-3). -/
def vendorTag : Nat := 0xFF

/-- Whether compartment `c` exists (CAST_COMP_EXIST; C00 and C01 always). -/
def State.exists? (s : State) (c : Nat) : Bool := c < 34 && (c < 2 || bit (s.rd Obj.CAST_COMP_EXIST.f) c)

/-- The owner of a point. -/
def State.ownerPt (s : State) (p : Nat) : Nat := s.rd (Obj.CAST_OWN_PT.i p)

/-- Whether `c` owns at least one identifier range on a port (R261). -/
def State.ownsRange (s : State) (p c : Nat) : Bool :=
  (List.range 16).any fun r => s.on (Obj.FBC_RNG_ENABLE.ij p r) && s.rd (Obj.FBC_RNG_OWNER.ij p r) == c

/-- The channels a circuit names: one, or three when it is three-phase. -/
def State.circChannels (s : State) (i : Nat) : List Nat :=
  if s.on (Obj.MAE_CIRC_THREE_PHASE.i i) then
    [s.rd (Obj.MAE_CIRC_CH_A.i i), s.rd (Obj.MAE_CIRC_CH_B.i i), s.rd (Obj.MAE_CIRC_CH_C.i i)]
  else [s.rd (Obj.MAE_CIRC_CH_A.i i)]

/-- The circuits of `c` that are in use. -/
def State.ownCircuits (s : State) (c : Nat) : List Nat :=
  (List.range 192).filter fun i => s.on (Obj.MAE_CIRC_ENABLE.i i) && s.rd (Obj.MAE_CIRC_OWNER.i i) == c

/-- Whether a circuit of `c` names the channel (R207). -/
def State.ownsChannel (s : State) (c ch : Nat) : Bool := (s.ownCircuits c).any fun i => (s.circChannels i).contains ch

/-- Whether a circuit of `c` uses the voltage set (R252). -/
def State.usesSet (s : State) (c v : Nat) : Bool :=
  (s.ownCircuits c).any fun i => (s.circChannels i).any fun ch => s.rd (Obj.MAE_CH_SET.i ch) == v

/-- Whether a programmable counter is attributed to `c` (R437). -/
def State.countsFor (s : State) (u k c : Nat) : Bool :=
  s.on (Obj.PMON_CNT_ENABLE.ij u k) && s.on (Obj.PMON_CNT_FILTER_EN.ij u k) && s.rd (Obj.PMON_CNT_COMP.ij u k) == c

def sightOf (b : Bool) (v : Sight) : Sight := if b then v else .hidden

/-- The metering block for a compartment other than C00 (R207, R252). -/
def State.sightMae (s : State) (c a : Nat) : Sight :=
  let o := a - 0x400000
  if 0x20000 ≤ o ∧ o < 0x30000 then sightOf (s.ownsChannel c ((o - 0x20000) / 0x40)) .readOnly
  else if 0x30000 ≤ o ∧ o < 0x40000 then sightOf (s.ownsChannel c ((o - 0x30000) / 0x100)) .readOnly
  else if 0x40000 ≤ o ∧ o < 0x50000 then sightOf ((s.ownCircuits c).contains ((o - 0x40000) / 0x20)) .readOnly
  else if 0x60000 ≤ o ∧ o < 0x61000 then .readOnly
  else if 0x61000 ≤ o ∧ o < 0x62000 then sightOf (s.usesSet c ((o - 0x61000) / 0x40)) .readOnly
  else if 0x62000 ≤ o ∧ o < 0x63000 then
    sightOf (s.rd (Obj.MAE_PULSE_OWNER.i ((o - 0x62000) / 0x40)) == c) .full
  else if 0x68000 ≤ o ∧ o < 0x69000 then .readOnly
  else if 0x80000 ≤ o ∧ o < 0x90000 then sightOf (s.ownsChannel c ((o - 0x80000) / 0x80)) .readOnly
  else if 0x90000 ≤ o ∧ o < 0xA0000 then sightOf ((s.ownCircuits c).contains ((o - 0x90000) / 0x80)) .readOnly
  else if 0xC0000 ≤ o ∧ o < 0xC2000 then sightOf (s.ownsChannel c ((o - 0xC0000) / 0x10)) .readOnly
  else if 0xC2000 ≤ o ∧ o < 0xC3000 then sightOf (s.ownsChannel c ((o - 0xC2000) / 8)) .readOnly
  else if 0xC3000 ≤ o ∧ o < 0xC4000 then sightOf (s.ownsChannel c ((o - 0xC3000) / 4)) .readOnly
  else if 0xD0000 ≤ o ∧ o < 0xD1000 then sightOf ((o - 0xD0000) / 0x40 == c) .full
  else .hidden

/-- A port block for a compartment other than C00 (R261, R285). -/
def State.sightFbc (s : State) (c a : Nat) : Sight :=
  let p := (a - 0x800000) / 0x10000
  let o := (a - 0x800000) % 0x10000
  if ! s.ownsRange p c then .hidden
  else if o < 0x100 then sightOf (o != 0x2C) .readOnly
  else if o = 0xF00 ∨ o = 0xF04 then .readOnly
  else if 0x1000 ≤ o ∧ o < 0x2000 then sightOf (s.rd (Obj.FBC_TXB_CTRL_OWNER.ij p ((o - 0x1000) / 0x80)) == c) .full
  else if 0x8000 ≤ o ∧ o < 0x8200 then sightOf (s.rd (Obj.FBC_FIFO_OWNER.ij p ((o - 0x8000) / 0x40)) == c) .full
  else if 0x8400 ≤ o ∧ o < 0x8800 then sightOf (s.rd (Obj.FBC_FIFO_OWNER.ij p ((o - 0x8400) / 0x80)) == c) .full
  else if 0xA000 ≤ o ∧ o < 0xA400 then sightOf (s.rd (Obj.FBC_FLT_OWNER.ij p ((o - 0xA000) / 0x10)) == c) .full
  else if 0xC000 ≤ o ∧ o < 0xD000 then sightOf (s.rd (Obj.FBC_MAP_OWNER.ij p ((o - 0xC000) / 8)) == c) .full
  else .hidden

/-- NSW for a compartment other than C00: statistics of its VLAN entries, its services, its service entries. -/
def State.sightNsw (s : State) (c a : Nat) : Sight :=
  let o := a - 0xB00000
  if 0x2000 ≤ o ∧ o < 0x2800 then
    sightOf (s.rd (Obj.NSW_VLAN_OWNER.i ((o - 0x2000) / 0x20)) == c && 8 ≤ (o - 0x2000) % 0x20) .readOnly
  else if 0x4000 ≤ o ∧ o < 0x6200 then sightOf ((o - 0x4000) / 0x100 == c) .full
  else if 0x8000 ≤ o ∧ o < 0x18000 then sightOf (s.rd (Obj.NSW_SE_OWNER.i ((o - 0x8000) / 0x10)) == c) .full
  else .hidden

/-- LBX for a compartment other than C00 (R313). -/
def State.sightLbx (s : State) (c a : Nat) : Sight :=
  let o := a - 0xA00000
  if o < 0x1000 then sightOf (s.rd (Obj.LBX_PORT_OWNER.i (o / 0x100)) == c) .full
  else if 0x8000 ≤ o ∧ o < 0x10000 then
    sightOf (s.rd (Obj.LBX_PORT_OWNER.i (s.rd (Obj.LBX_MAP_PORT.i ((o - 0x8000) / 0x10)))) == c) .full
  else .hidden

/-- What compartment `c` sees at a word address, decided before the object is looked up (R76, R90). -/
def State.sight (s : State) (c a : Nat) : Sight :=
  if c ≥ 34 then .hidden
  else if a < 0x10000 then sightOf (c == 0 || a != 0x2C) .full
  else if a < 0x20000 then sightOf (c == 0 || decide (a < 0x10040)) .full
  else if a < 0x30000 then if c = 0 then .full else .readOnly
  else if a < 0x40000 then sightOf (c == 0 || decide (a < 0x38000)) .full
  else if a < 0x50000 then
    if c = 0 then .full
    else if c = 1 then if a = 0x40028 ∨ a = 0x4002C then .readOnly else .full
    else sightOf (bit (s.rd Obj.PERF_USER_EN.f) c && decide (0x41000 ≤ a) &&
      s.countsFor ((a - 0x41000) / 0x100) ((a - 0x41000) % 0x100 / 0x10) c) .readOnly
  else if a < 0x70000 then if c = 0 then .full else if c = 1 then .readOnly else .hidden
  else if a < 0x71000 then
    let k := (a - 0x70000) / 0x10
    let free := decide (118 ≤ k) && s.rd (Obj.KSE_SLOT_STATE.i k) == 0
    sightOf (s.rd (Obj.KSE_SLOT_OWNER.i k) == c || (c == 0 && (decide (k < 16) || free))) .full
  else if a < 0x72000 then .full
  else if a < 0x80000 then sightOf (c == 0) .full
  else if a < 0x90000 then if c = 0 then .full else sightOf (c == 1 && decide (a < 0x80100)) .readOnly
  else if a < 0x100000 then if c = 0 then .full else sightOf (c == 1) .readOnly
  else if a < 0x180000 then .full
  else if a < 0x1A0000 then sightOf (s.ownerPt ((a - 0x180000) / 0x10) == c) .full
  else if a < 0x200000 then .full
  else if a < 0x220000 then sightOf (s.ownerPt ((a - 0x200000) % 0x20000 / 8) == c) .full
  else if a < 0x300000 then sightOf (s.ownerPt ((a - 0x220000) / 8) == c) .full
  else if a < 0x400000 then sightOf (s.ownerPt ((a - 0x300000) / 4) == c) .full
  else if a < 0x800000 then if c = 0 then .full else s.sightMae c a
  else if a < 0x980000 then if c = 0 then .full else s.sightFbc c a
  else if a < 0xA00000 then .hidden
  else if a < 0xB00000 then if c = 0 then .full else s.sightLbx c a
  else if a < 0xC00000 then if c = 0 then .full else s.sightNsw c a
  else if a < 0xC10000 then if c = 0 then .full else sightOf (c == 1) .readOnly
  else .hidden

/-! ### Computed fields -/

/-- A number from 0 to 99 as two BCD digits. -/
def bcd (n : Nat) : Nat := n / 10 % 10 * 16 + n % 10

/-- Days from 2000-01-01 to the first day of year `2000 + y` (R330: 2100 is no leap year). -/
def daysToYear (y : Nat) : Nat := 365 * y + (y + 3) / 4 - (if y > 100 then 1 else 0)

def isLeap (y : Nat) : Bool := y % 4 == 0 && y != 100

/-- The lengths of the months of year `2000 + y`. -/
def monthLens (y : Nat) : List Nat := [31, if isLeap y then 29 else 28, 31, 30, 31, 30, 31, 31, 30, 31, 30, 31]

/-- The month (1 to 12) and day (1 to 31) of day `d` of a year with these month lengths. -/
def monthDay : List Nat → Nat → Nat → Nat × Nat
  | [], m, d => (m, d + 1)
  | l :: r, m, d => if d < l then (m, d + 1) else monthDay r (m + 1) (d - l)

/-- The largest year from `y` down whose first day is not after day `d`. -/
def yearOf : Nat → Nat → Nat
  | 0, _ => 0
  | y + 1, d => if daysToYear (y + 1) ≤ d then y + 1 else yearOf y d

/-- A calendar label: year since 2000, month, day, weekday (1 Monday), hour, minute, second, sub-second. -/
structure Label where
  year : Nat
  month : Nat
  day : Nat
  wday : Nat
  hour : Nat
  min : Nat
  sec : Nat
  sub : Nat
  deriving DecidableEq, Repr

/-- Days of the calendar's 200 years. -/
def calDays : Nat := daysToYear 200

/-- The calendar's span in ticks. -/
def calSpan : Nat := calDays * 86400 * 32768

/-- The label of a calendar count (R330; 2000-01-01 was a Saturday). -/
def label (cal : Nat) : Label :=
  let c := cal % calSpan
  let secs := c / 32768
  let d := secs / 86400
  let y := yearOf 199 d
  let md := monthDay (monthLens y) 1 (d - daysToYear y)
  { year := y, month := md.1, day := md.2, wday := (d + 5) % 7 + 1,
    hour := secs % 86400 / 3600, min := secs % 3600 / 60, sec := secs % 60, sub := c % 32768 }

/-- The fields of TIME_RTC_STAT but FRZ_TIMEOUT: VALID, ZONE, SHIFT_BUSY. -/
def State.rtcStat (s : State) : Nat :=
  b2n s.rtc.valid + 4 * b2n s.rtc.zone + 8 * b2n (s.rtc.suppress > 0 || s.rtc.add > 0)

/-- The RTC group's word at an offset, from a tick count, calendar and status (Table 13-5). -/
def rtcWord (off ticks cal stat : Nat) : Nat :=
  let l := label cal
  if off = 0 then ticks % 2 ^ 32
  else if off = 4 then ticks / 2 ^ 32
  else if off = 8 then l.sub
  else if off = 0xC then bcd l.sec
  else if off = 0x10 then bcd l.min
  else if off = 0x14 then bcd l.hour
  else if off = 0x18 then bcd l.day + 256 * l.wday
  else if off = 0x1C then bcd l.month
  else if off = 0x20 then bcd (l.year % 100) + 256 * (l.year / 100)
  else stat

/-- The stamp mirror: microseconds of floor time, stamp low and epoch high (R272, R273, Table 1-6). -/
def stampEpoch (ft : Nat) : Nat := ft / 1000 % 2 ^ 64

/-- The seconds left of a duration that began at `t0`, rounded up. -/
def secondsLeft (t0 len now : Nat) : Nat := (t0 + len * 1000000000 - now + 999999999) / 1000000000

/-- The nominal or data rate of a port in bit/s (R257). -/
def State.canRate (s : State) (p : Nat) (nominal : Bool) : Nat :=
  if nominal then 80000000 / (s.rd (Obj.FBC_NBT_NBRP.i p) * (1 + s.rd (Obj.FBC_NBT_NTSEG1.i p) + s.rd (Obj.FBC_NBT2_NTSEG2.i p)))
  else 80000000 / (s.rd (Obj.FBC_DBT_DBRP.i p) * (1 + s.rd (Obj.FBC_DBT_DTSEG1.i p) + s.rd (Obj.FBC_DBT_DTSEG2.i p)))

/-- A field of the element at the head of a FIFO (Table 10-12); an empty FIFO reads 0. -/
def State.headField (s : State) (p k w off lo : Nat) : Nat :=
  match (((s.fbc.ports.get {} p).fifos.get [] k).head? : Option CanElem) with
  | none => 0
  | some e =>
    if off = 0 then (if lo = 0 then e.id else b2n e.xtd)
    else if off = 4 then
      (if lo = 0 then e.dlc else if lo = 4 then b2n e.fdf else if lo = 5 then b2n e.brs else if lo = 6 then b2n e.esi
        else if lo = 7 then b2n e.rtr else if lo = 8 then e.filter else 1)
    else if off = 8 then e.stamp
    else if off = 12 then (if lo = 0 then e.epoch % 65536 else e.seq)
    else unle (e.data.drop (4 * w)) % 2 ^ 32

/-- The two conditions of a sealed move (R416): 60 s since entry to M3, and three plies of every configured task. -/
def State.sealTimeOk (s : State) : Bool := decide (s.upd.bootAt + 60000000000 ≤ s.floorTime)
def State.sealPliesOk (s : State) : Bool :=
  (List.range 34).all fun c => ! (s.exists? c && s.on (Obj.SCE_STATE_INTENT.b c)) || (List.range 32).all fun i =>
    ! s.on (Obj.SCE_TASK_CFG_ENABLE.bij c (i / 16) (i % 16)) || decide (3 ≤ s.rd (Obj.SCE_TASK_PLY_DONE.bij c (i / 16) (i % 16)))

/-- The fields of the update block that follow from its state (Table 17-9). -/
def State.updField (s : State) (b lo : Nat) : Nat :=
  if b = 0x90024 then (match s.upd.deadline with | some d => d - s.rd Obj.EVR_OP_SECONDS.f | none => 0)
  else if b = 0x90028 then
    if s.rd Obj.UPD_STATE.f ≠ 6 then 0
    else if lo = 0 then b2n s.sealTimeOk
    else if lo = 1 then b2n s.sealPliesOk
    else b2n (s.upd.armedAt.any fun t => decide (s.floorTime ≤ t + 10000000))
  else match s.upd.owner.bind fun i => s.sessions.find? fun x => x.id == i with
    | some x => if b = 0x90008 then s.upd.ownerSince else if lo = 0 then x.comp else if x.usb then 2 else 1
    | none => 0

/-- Whether the USB service port is enabled (R57, R400). -/
def State.usbEnabled (s : State) : Bool :=
  s.rd Obj.IDENT_MODE.f == 4 || s.lcy.state == 0 || s.lcy.state == 4 || s.lcy.state == 5 || s.lcy.usbUntil.isSome ||
  s.rd (Obj.KSE_SLOT_STATE.i 4) == 0 || s.lcy.claimSid.any fun sid => s.sessions.any fun x => x.id == sid

/-- The value of a computed field, live, for a requester of compartment `c`. -/
def State.virt (s : State) (c : Nat) (r : Row) (idx : List Nat) : Nat :=
  let b := r.base
  if b = 0x30 then c
  else if b = 0x24 then s.lcy.state
  else if b = 0x28 then b2n s.power.transition.isSome
  else if 0x20000 ≤ b ∧ b < 0x20028 then bits (rtcWord (b - 0x20000) s.rtc.ticks s.rtc.cal s.rtcStat) r.lo r.width
  else if b = 0x20040 then s.floorTime
  else if b = 0xC00008 then Config.inputMilliVolts s.floorTime % 65536
  else if b = 0x800F00 then stampEpoch s.floorTime
  else if b = 0x11004 then s.castlings.length
  else if b = 0x30010 then
    if r.lo = 0 then (if c < 2 then s.rd (Obj.EVR_AREA_FIRST_BLK_BASE.i c) else s.rd (Obj.EVR_AREA_FIRST_BLK.i (c - 2)))
    else (if c < 2 then s.rd (Obj.EVR_AREA_LAST_BLK_BASE.i c) else s.rd (Obj.EVR_AREA_LAST_BLK.i (c - 2)))
  else if b = 0x100000 then b2n (bit (s.rd Obj.LCY_D1_EN.f) c)
  else if b = 0x100018 then
    let e := if r.lo = 0 then 0 else 1
    if c = 0 then s.rd (Obj.CAST_SHARE_OWNER.i e) else s.rd (Obj.CAST_SHARE.ij e (c - 1))
  else if b = 0x100034 then s.sceClk (if r.lo = 0 then 0 else 1)
  else if b = 0x110010 then s.taskStatus c (idx.getD 0 0) (idx.getD 1 0)
  else if 0x4C0000 ≤ b ∧ b < 0x4C0010 then
    s.rd (Row.i (if b = 0x4C0000 then Obj.MAE_LCH_EP_IMP else if b = 0x4C0004 then Obj.MAE_LCH_EP_EXP
      else if b = 0x4C0008 then Obj.MAE_LCH_EQ_IND else Obj.MAE_LCH_EQ_CAP) (idx.getD 0 0)) / 100 % 2 ^ 32
  else if b = 0x800018 then s.canRate (idx.getD 0 0) true
  else if b = 0x80001C then if s.on (Obj.FBC_CFG_FD_EN.i (idx.getD 0 0)) then s.canRate (idx.getD 0 0) false else 0
  else if 0x808400 ≤ b ∧ b < 0x808450 then s.headField (idx.getD 0 0) (idx.getD 1 0) (idx.getD 2 0) (b - 0x808400) r.lo
  else if b = 0x120030 then ((List.range 128).filter fun i => s.rd (Obj.FORCE_STATE.bi c i) != 0).length
  else if b = 0x80000 then s.lcy.state
  else if b = 0x80010 then if r.lo = 0 then b2n s.lcy.loopIntact else b2n s.lcy.jumper
  else if b = 0x80028 ∧ r.lo = 0 then b2n s.usbEnabled
  else if b = 0x80028 then match s.lcy.usbUntil with | some t => (t - s.floorTime + 59999999999) / 60000000000 | none => 0
  else if 0x90000 ≤ b ∧ b < 0x90030 then s.updField b r.lo
  else if b = 0x40004 then s.pmonUnits
  else if b = 0x40100 then s.pmonCyc (idx.getD 0 0)
  else if b = 0x41004 then (s.perfNow (idx.getD 0 0) (idx.getD 1 0)).value
  else if b = 0x4100C then (let n := s.perfNow (idx.getD 0 0) (idx.getD 1 0); if r.lo = 0 then b2n n.ovf else n.wraps)
  else if b = 0x80100 then
    match s.lcy.windowAt with
    | some t => if r.lo = 0 then 1 else secondsLeft t 120 s.floorTime
    | none => 0
  else 0

/-- The value of one field instance for a requester of compartment `c`. -/
def State.fieldVal (s : State) (c : Nat) (r : Row) (idx : List Nat) : Nat :=
  if r.virt then s.virt c r idx else s.rd (r.at c idx)

/-- What a field contributes to a read (R5): a WO field reads 0. -/
def State.readVal (s : State) (c : Nat) (r : Row) (idx : List Nat) : Nat :=
  if r.acc = .wo then 0 else s.fieldVal c r idx

/-- A recorded sample of the last completed waveform recording (R213). -/
def State.waveWord (s : State) (k n : Nat) : Option Nat := some (uns 32 ((s.mae.wave.done.getD n []).getD k 0))

/-- The word at `a` as it stands, for compartment `c`; none where no field lies (R86). -/
def State.wordAt (s : State) (c a : Nat) : Option Nat :=
  if 0x1C0000 ≤ a ∧ a < 0x200000 then s.windowWord c (a - 0x1C0000)
  else if 0x41000 ≤ a ∧ a < 0x42200 ∧ pmonCounters ((a - 0x41000) / 0x100) ≤ (a - 0x41000) % 0x100 / 0x10 then none
  else if 0x40000 ≤ a ∧ a < 0x50000 ∧ a / 8 ≠ 0x40028 / 8 ∧ s.failed 11 then (match Obj.parts a with | [] => none | _ => some 0)
  else if 0x31000 ≤ a ∧ a < 0x31100 then (if s.failed 10 then none else s.recWord c ((a - 0x31000) / 4))
  else if 0x470000 ≤ a ∧ a < 0x478000 then s.waveWord ((a - 0x470000) / 0x1000) (a % 0x1000 / 4)
  else if 0x150000 ≤ a ∧ a < 0x160000 ∧ s.rd (Obj.SCE_IMG_INST.b c) ≤ (a - 0x150000) / 4 then none
  else match Obj.parts a with
  | [] => none
  | ps => some (ps.foldl (fun w p => w + p.place (s.readVal c p.row p.idx)) 0)

/-- The word at `a` under the view of `c`: none where it is outside the view or absent, which are one (R76). -/
def State.peek (s : State) (c a : Nat) : Option Nat :=
  if a % 4 = 0 ∧ s.sight c a ≠ .hidden then s.wordAt c a else none

/-- Whether the word at `a` is backed by hardware (R87, Table 4-1, Table 4-10). -/
def isHw (a : Nat) : Bool :=
  if a < 0x20000 then false
  else if a < 0x30000 then
    let o := a - 0x20000
    ! (decide (0x48 ≤ o ∧ o ≤ 0x80) || (decide (0x200 ≤ o) && (o % 0x40 == 0x14 || o % 0x40 == 0x18)))
  else if a < 0x40000 then decide (a < 0x38000)
  else if a < 0x50000 then true
  else if a < 0x60000 then false
  else if a < 0x70000 then a != 0x60408
  else if a < 0x80000 then true
  else if a < 0x100000 then false
  else true


end Sys2Proof.Machine
end

