-- ==== Sys2Proof/Machine/Flags.lean ====
section
/-!
DEFINITION. Status flags and their companion counters (R5, R11): write-one-to-clear, the set that lands on a clear,
and the check of a value against a field's stated range (R94, R95).
-/
namespace Sys2Proof.Machine

/-- Number of one bits among the low `n` bits. -/
def popN : Nat → Nat → Nat
  | 0, _ => 0
  | n + 1, v => v % 2 + popN n (v / 2)

/-- The bitwise operations on fields kept as numbers. -/
def nand (v m : Nat) : Nat := v &&& (v ^^^ (v &&& m))

/-- The companion counter of a flag; the four wrap flags of the legacy view share one (Table 9-4). -/
def Row.companion (r : Row) (idx : List Nat) (f : Fld) : Option Fld :=
  if r.base = 0x4C2000 then some (Obj.LEG_SETCNT.i (idx.headD 0)) else if r.cnt = 0 then none else some (r.counter f)

/-- Write ones to clear (R5); bits the module sets in the same cycle stay set, and each such set that lands on a clear
is counted, saturating (R11). -/
def State.clearFlags (s : State) (r : Row) (idx : List Nat) (f : Fld) (ones sets : Nat) : State :=
  let s1 := s.wr f (nand (s.rd f) ones ||| sets)
  match r.companion idx f with
  | some c => s1.incSat c (popN f.width (ones &&& sets))
  | none => s1

/-- Clear a field by a read (R7); a value the module sets in the same cycle wins (R11). -/
def State.clearByRead (s : State) (f : Fld) (sets : Nat) : State := s.wr f sets

/-- Whether a value lies in the stated range of a field of `w` bits. -/
def Rng.ok (r : Rng) (w v : Nat) : Bool :=
  match r with
  | .any => true
  | .nat lo hi => decide (lo ≤ v ∧ v ≤ hi)
  | .orZero lo hi => v == 0 || decide (lo ≤ v ∧ v ≤ hi)
  | .int lo hi => decide (lo ≤ sgn w v ∧ sgn w v ≤ hi)
  | .oneOf l => l.contains v

end Sys2Proof.Machine
end

