-- ==== Sys2Proof/Machine/Log.lean ====
section
/-!
DEFINITION. Raising an event: the record's time fields, its snapshot, and its place in the pending queue
(spec/14 R344, R347, R350, R351). Writing a queued record to its log is in Events.lean.
-/
namespace Sys2Proof.Machine

/-- The present mode (Table 2-1). -/
def State.mode (s : State) : Nat := s.rd Obj.IDENT_MODE.f

/-- One slot of a snapshot: address with its W64 bit, status and value (R350). -/
structure Slot where
  addr : Nat
  status : Nat
  value : Nat
  deriving DecidableEq, Repr

/-- Capture one enabled list entry under the view of `c`; `noFw` where FW words are not captured. -/
def State.capture (s : State) (c l n : Nat) (noFw : Bool) : Slot :=
  let a := 4 * s.rd (Obj.EVR_LIST_ADDR.bij c l n)
  let w64 := s.rd (Obj.EVR_LIST_W64.bij c l n)
  let v := if w64 = 1 then
      match s.peek c a, s.peek c (a + 4) with
      | some x, some y => some (x + 2 ^ 32 * y)
      | _, _ => none
    else s.peek c a
  match v with
  | none => ⟨a + w64, 2, 0⟩
  | some x => if noFw && ! isHw a then ⟨a + w64, 3, 0⟩ else ⟨a + w64, 1, x⟩

/-- The slots of snapshot list `l` of compartment `c`: every enabled entry, in list order. -/
def State.snapshot (s : State) (c l : Nat) (noFw : Bool) : List Slot :=
  ((List.range 16).filter fun n => s.on (Obj.EVR_LIST_ENABLE.bij c l n)).map fun n => s.capture c l n noFw

/-- SNAP_STATUS of a list of slots: two bits per slot. -/
def snapStatus : List Slot → Nat
  | [] => 0
  | x :: r => x.status + 4 * snapStatus r

/-- The record of an event raised now for the log of `c` (Table 14-1). -/
def State.eventRecord (s : State) (c trigger : Nat) (detail : Bytes) (summary : Bool) (list : Option Nat) : EvRec :=
  let l := list.getD (bits (s.rd (Obj.EVR_LIST_SEL.b c)) (2 * (trigger / 256 % 16)) 2)
  let slots := s.snapshot c l (s.mode = 10)
  { trigger := trigger,
    flags := s.rd Obj.TIME_FT_STATE_ANCHORED.f + 8 * b2n summary + 16 * l,
    opSeconds := s.rd Obj.EVR_OP_SECONDS.f, cycles := s.rd Obj.EVR_POWER_CYCLES.f,
    ticks := s.rtc.ticks, ft := s.floorTime, snapStatus := snapStatus slots, detail := detail,
    snaps := slots.map fun x => (x.addr, x.value) }

/-- A record whose trigger fell where SUP did not run; it is written at the next boot (R352, R344). -/
def State.deferredRecord (s : State) (trigger : Nat) (detail : Bytes) : EvRec :=
  { trigger := trigger, flags := 4, opSeconds := s.rd Obj.EVR_OP_SECONDS.f, cycles := s.rd Obj.EVR_POWER_CYCLES.f,
    ticks := s.rtc.ticks, ft := 0, snapStatus := 0, detail := detail, snaps := [] }

/-- Entries of the pending queue reserved for a compartment (R351). -/
def reservedFor (c : Nat) : Nat := if c < 2 then 128 else 16

/-- Entries that are shared: what the reservations leave of 1,024. -/
def State.sharedEntries (s : State) : Nat :=
  1024 - 256 - 16 * ((List.range 34).filter fun c => decide (2 ≤ c) && s.exists? c).length

def State.heldBy (s : State) (c : Nat) (shared : Bool) : Nat :=
  (s.evr.pend.filter fun p => p.comp == c && p.shared == shared).length

/-- Where a record of `c` would be queued: none, a reserved entry (false) or a shared one (true) (R351). -/
def State.queueRoom (s : State) (c : Nat) : Option Bool :=
  if s.heldBy c false < reservedFor c then some false
  else if (s.evr.pend.filter (·.shared)).length < s.sharedEntries ∧ s.heldBy c false + s.heldBy c true < 128 then some true
  else none

/-- Queue a record for the log of `c`, or drop and count it (R351). -/
def State.enqueue (s : State) (c : Nat) (r : EvRec) : State :=
  match s.queueRoom c with
  | some sh => { s with evr := { s.evr with pend := s.evr.pend ++ [⟨c, sh, r⟩] } }
  | none =>
    let g := s.evr.logs.get {} c
    let g' := { g with lost := g.lost + 1, lostAt := if g.lost = 0 then s.floorTime else g.lostAt }
    let s1 := { s with evr := { s.evr with logs := s.evr.logs.put c g' } }
    (s1.inc (Obj.EVR_DROPPED.b c)).set1 (Obj.EVR_EVT_DROPPED.b c)

/-- Raise an event for the log of `c`. With the EVR failed it is lost without count (Table 2-7). -/
def State.log (s : State) (c trigger : Nat) (detail : Bytes) (summary : Bool := false) (list : Option Nat := none) : State :=
  if s.failed 10 || ! s.exists? c then s else s.enqueue c (s.eventRecord c trigger detail summary list)

/-- Raise one event for several logs, once each (R347). -/
def State.logAll (s : State) (cs : List Nat) (trigger : Nat) (detail : Bytes) (summary : Bool := false) : State :=
  cs.foldl (fun t c => t.log c trigger detail summary) s

/-- The compartments that exist, in ascending number. -/
def State.compartments (s : State) : List Nat := (List.range 34).filter s.exists?

/-- The tenants that exist. -/
def State.tenants (s : State) : List Nat := (List.range 34).filter fun c => decide (2 ≤ c) && s.exists? c

end Sys2Proof.Machine
end

