-- ==== Sys2Proof/Machine/Operands.lean ====
section
/-!
DEFINITION. The operand forms commands share: status codes (Table 3-8), the fields of a payload, the requester's
compartment, and the detail record of R77.
-/
namespace Sys2Proof.Machine

/-! ### Status codes (Table 3-8) -/
namespace St
def ok := 0x0000
def pending := 0x0001
def badFrame := 0x0010
def badVersion := 0x0011
def noSession := 0x0012
def authFailed := 0x0013
def sessionLimit := 0x0014
def badSequence := 0x0015
def queueFull := 0x0016
def segmentError := 0x0017
def badCommand := 0x0018
def notPermitted := 0x0019
def badPayload := 0x001A
def noObject := 0x0020
def readOnly := 0x0021
def badValue := 0x0022
def badAccess := 0x0023
def overwritten := 0x0024
def presenceRequired := 0x0030
def sealRequired := 0x0031
def configLocked := 0x0032
def busy := 0x0040
def checkFailed := 0x0041
def adjourned := 0x0042
def cancelled := 0x0043
def timeout := 0x0044
def keyOrphaned := 0x0050
def counterStale := 0x0051
def badSignature := 0x0052
def wrongDevice := 0x0053
def unitFailed := 0x0060
def noSpace := 0x0061
def internalError := 0x00FF
end St

/-- How a request ends for now: with OK, with another status, or later, when `wait` is over (R70). -/
inductive Reply where
  | ok (payload : Bytes)
  | fail (status : Nat) (payload : Bytes)
  | pending (wait : Wait)
  /-- The final response follows `wait` without a PENDING before it. -/
  | later (wait : Wait)
  deriving DecidableEq, Repr

/-- The 8-byte detail record of R77. -/
def detailRecord (code index addr : Nat) : Bytes := le 2 code ++ le 2 index ++ le 4 addr

/-- A refusal without payload. -/
def Reply.no (status : Nat) : Reply := .fail status []

/-- CHECK_FAILED with a detail code. -/
def Reply.check (code : Nat) (index addr : Nat := 0) : Reply := .fail St.checkFailed (detailRecord code index addr)

/-- A request that has passed checks 1 to 6 of Table 3-7. -/
structure Req where
  sid : Nat
  comp : Nat
  conn : Nat
  usb : Bool
  seq : Nat
  code : Nat
  payload : Bytes
  arrival : Nat
  deriving DecidableEq, Repr

/-- The session of an identifier. -/
def State.session (s : State) (sid : Nat) : Option Session := s.sessions.find? fun x => x.id == sid

/-- The compartment a requester acts for (Table 1-3). -/
def State.compOf (s : State) (who : Requester) : Nat :=
  match who with
  | .session sid => match s.session sid with | some x => x.comp | none => vendorTag
  | .task c _ _ => c
  | .firmware => vendorTag

/-- Whether the requester exists: a live session, an existing compartment's task, or firmware. -/
def State.live (s : State) (who : Requester) : Bool :=
  match who with
  | .session sid => (s.session sid).isSome
  | .task c _ _ => s.exists? c
  | .firmware => true

end Sys2Proof.Machine
end

