-- ==== Sys2Proof/Machine/Session.lean ====
section
/-!
DEFINITION. Serving a frame of the Marid Mailbox Protocol (spec/03): connections, the header checks, sequence and
duplicates, segments, the outstanding limit, responses and notices. What a command does once it has passed checks 1
to 6 of Table 3-7 is the argument of `serve`.
-/
namespace Sys2Proof

/-! ### Bits of FLAGS (Table 3-2) -/
def Frame.resp (f : Frame) : Bool := f.flags.getLsbD 0
def Frame.notify (f : Frame) : Bool := f.flags.getLsbD 1
def Frame.retry (f : Frame) : Bool := f.flags.getLsbD 2
def Frame.more (f : Frame) : Bool := f.flags.getLsbD 3
def Frame.seg (f : Frame) : Nat := f.flags.toNat / 16 % 8

/-- The greatest payload of one frame. -/
def maxPayload : Nat := 16360

/-- Check 1 (R60): what a frame's header deserves. -/
inductive Header where
  | good
  | closeTcp
  | bad (status : Nat) (payload : Bytes)
  deriving DecidableEq, Repr

def Frame.judge (f : Frame) (usb : Bool) : Header :=
  if f.magic ≠ 0xA2F1 ∨ f.length.toNat > maxPayload then
    if usb then .bad 0x0010 [] else .closeTcp
  else if usb ∧ f.xfer ≠ 24 + f.length.toNat then .bad 0x0010 []
  else if f.version ≠ 1 then .bad 0x0011 [1]
  else if f.resp ∨ f.notify ∨ f.seg > 4 ∨ f.status ≠ 0 ∨ f.flags.toNat ≥ 128 ∨ f.rsvd ≠ 0 then .bad 0x0010 []
  else .good

end Sys2Proof

namespace Sys2Proof.Machine

/-! ### Connections -/

/-- Whether SUP runs and serves MMP in the present mode (Table 3-1): M4 to M9 and M11. -/
def State.serves (s : State) : Bool := ! s.halted 0 && (decide (4 ≤ s.mode ∧ s.mode ≤ 9) || s.mode == 11)

/-- The connection a frame came in on. Connection 0 is the USB port, present while it is enabled. -/
def State.connOf (s : State) (id : Nat) : Option Conn :=
  if id = 0 then
    if s.usbEnabled then
      some ((s.conns.find? fun c => c.id == 0).getD { id := 0, usb := true, port := 6, vlan := none, comp := none, slot := 0 })
    else none
  else s.conns.find? fun c => c.id == id

def State.putConn (s : State) (c : Conn) : State := { s with conns := c :: s.conns.filter fun x => x.id != c.id }

/-- The session attached to a connection. -/
def State.sessionOn (s : State) (conn : Nat) : Option Session := s.sessions.find? fun x => x.conn == some conn

def State.putSession (s : State) (x : Session) : State :=
  { s with sessions := s.sessions.map fun y => if y.id = x.id then x else y }

def State.emit (s : State) (o : Out) : State := { s with sent := s.sent ++ [o] }

/-- A session loses its transport and is detached (R72). -/
def State.detach (s : State) (conn t : Nat) : State :=
  { s with sessions := s.sessions.map fun x => if x.conn = some conn then { x with conn := none, detachedAt := t } else x }

/-- The module closes a connection without a response; its session is detached (R60, R72). -/
def State.closeConn (s : State) (conn t : Nat) : State :=
  ({ s with conns := s.conns.filter fun c => c.id != conn }.detach conn t).emit (.close conn)

/-! ### Responses -/

/-- The frames of a response, in segments of at most 16,360 payload bytes (R69). -/
def State.respond (s : State) (conn comp seq cmd status : Nat) (payload : Bytes) : State :=
  (s.emit (.resp conn comp seq cmd status payload)).perf 0 (if status = St.pending then 0x02 else 0x01) comp

/-- Keep the 16 most recently accepted sequences (Table 3-3). -/
def Session.accept (x : Session) (e : WinEntry) : Session :=
  let w := x.window ++ [e]
  { x with window := w.drop (w.length - 16) }

/-- Mark a request of the window final; its response is cached when short or when it removed what it returned (R71). -/
def Session.final (x : Session) (seq status : Nat) (payload : Bytes) (whole : Bool) : Session :=
  { x with window := x.window.map fun e =>
      if e.seq = seq then
        if payload.length ≤ 256 || whole then { e with done := true, cached := true, status := status, payload := payload }
        else { e with done := true, cached := false, status := status, payload := [] }
      else e }

/-- Send the final response of a request to its session: on its connection, and into the duplicate window (R72). -/
def State.finalTo (s : State) (sid seq cmd status : Nat) (payload : Bytes) (whole : Bool) : State :=
  match s.session sid with
  | none => s
  | some x =>
    let s1 := s.putSession (x.final seq status payload whole)
    match x.conn with
    | some c => s1.respond c x.comp seq cmd status payload
    | none => s1

/-- What waited for `w` is over: each such request gets its final response. The outcome of a request whose session has
ended goes to its compartment's log instead (R66, trigger 0x0102). -/
def State.finish (s : State) (w : Wait) (status : Nat) (payload : Bytes) : State :=
  let s0 := { s with waiters := s.waiters.filter fun x => x.wait != w }
  (s.waiters.filter fun x => x.wait == w).foldl (fun t x =>
    if (t.session x.sid).isNone then t.log x.comp 0x0102 (le 4 x.seq ++ le 2 x.cmd ++ le 2 status)
    else t.finalTo x.sid x.seq x.cmd status payload false) s0

/-! ### Notices (R70, R359) -/

/-- Hand over every unread notice of an attached session, oldest first, each through an entry of the notice ring (Table 3-10). -/
def State.handOver (s : State) (sid : Nat) : State :=
  match s.session sid with
  | none => s
  | some x =>
    match x.conn with
    | none => s
    | some c =>
      let s0 : State := { s with mbx := { s.mbx with noteHead := (s.mbx.noteHead + x.notices.length) % 60 } }
      let s1 := x.notices.foldl (fun t n => t.emit (.notice sid c n.1 n.2)) s0
      (s1.putSession { x with notices := [] }).perf 0 0x03 x.comp x.notices.length

/-- Create a notice: the count of notices dropped goes into its first two bytes and restarts; one created while 64 are
unread is dropped and counted, saturating (R70). -/
def Session.notice (x : Session) (body : Bytes) : Session :=
  if x.notices.length ≥ 64 then { x with dropped := satAdd 16 x.dropped 1 }
  else { x with notices := x.notices ++ [(x.noticeSeq, le 2 x.dropped ++ le 2 0 ++ body)],
                dropped := 0, noticeSeq := (x.noticeSeq + 1) % 2 ^ 32 }

/-! ### The checks of Table 3-7 -/

/-- How a defined command behaves in the protocol: its code, and whether it may come before a session is open, may be
cancelled, removes what it returns, or reads without removing (R61, R71, R74). -/
structure CmdSpec where
  code : Nat
  preOpen : Bool := false
  cancellable : Bool := false
  removes : Bool := false
  rereads : Bool := false
  deriving DecidableEq, Repr

/-- The outstanding requests of a session: those waiting, and one whose segments are still arriving (R68). -/
def State.outstanding (s : State) (x : Session) : Nat :=
  (s.waiters.filter fun w => w.sid == x.id).length + (if x.partialReq.isSome then 1 else 0)

/-- Run a command's body for a session and send what it answers. -/
def State.run (s : State) (c : CmdSpec) (q : Req) (body : Req → State → State × Reply) : State :=
  match body q s with
  | (s1, .ok p) => s1.finalTo q.sid q.seq c.code St.ok p c.removes
  | (s1, .fail st p) => s1.finalTo q.sid q.seq c.code st p c.removes
  | (s1, .later w) => { s1 with waiters := s1.waiters ++ [⟨q.sid, q.seq, c.code, w, c.cancellable, q.comp⟩] }
  | (s1, .pending w) =>
    let wt : Waiter := ⟨q.sid, q.seq, c.code, w, c.cancellable, q.comp⟩
    let s2 := { s1 with waiters := s1.waiters ++ [wt] }
    match s2.session q.sid with
    | some x => match x.conn with
      | some k => s2.respond k x.comp q.seq c.code St.pending []
      | none => s2
    | none => s2

/-- A request sent again with FLAGS.RETRY whose sequence lies in the duplicate window (R71). -/
def State.retryReq (s : State) (c : CmdSpec) (x : Session) (conn : Nat) (e : WinEntry) (q : Req)
    (body : Req → State → State × Reply) : State :=
  if ! e.done then s.respond conn x.comp e.seq e.cmd St.pending []
  else if e.cached then s.respond conn x.comp e.seq e.cmd e.status e.payload
  else match body q s with
    | (s1, .ok p) => s1.respond conn x.comp e.seq c.code St.ok p
    | (s1, .fail st p) => s1.respond conn x.comp e.seq c.code st p
    | (_, .pending _) => s
    | (_, .later _) => s

/-- The incomplete request of a session fails with SEGMENT_ERROR (R69). -/
def State.breakSegments (s : State) (x : Session) : State :=
  match x.partialReq with
  | none => s
  | some p => (s.putSession { x with partialReq := none }).finalTo x.id p.seq p.cmd St.segmentError [] false

/-- Whether a frame carries on the incomplete request of its session (R69). -/
def Partial.continues (p : Partial) (f : Frame) (code : Nat) : Bool :=
  f.seq.toNat == p.seq && code == p.cmd && f.seg == p.nextSeg && (!f.more || (f.length.toNat == maxPayload && f.seg != 4))

/-- A new request of session `x` (checks 3 to 5): sequence and duplicates, outstanding limit, segments; then the body. -/
def State.newRequest (s : State) (c : CmdSpec) (x : Session) (f : Frame)
    (body : Req → State → State × Reply) : State :=
  let conn := f.conn
  let q : Req := { sid := x.id, comp := x.comp, conn := conn, usb := x.usb, seq := f.seq.toNat, code := c.code,
                   payload := f.payload, arrival := f.arrival }
  if f.seq.toNat ≠ x.expected then
    match x.window.find? fun e => e.seq == f.seq.toNat with
    | some e => if f.retry then s.retryReq c x conn e q body
                else s.respond conn x.comp f.seq.toNat c.code St.badSequence (le 4 x.expected)
    | none => s.respond conn x.comp f.seq.toNat c.code St.badSequence (le 4 x.expected)
  else if s.outstanding x ≥ 8 then s.respond conn x.comp f.seq.toNat c.code St.queueFull []
  else if f.seg ≠ 0 then s.respond conn x.comp f.seq.toNat c.code St.segmentError []
  else
    let e : WinEntry := { seq := f.seq.toNat, cmd := c.code, done := false, cached := false,
                          cancellable := c.cancellable, status := 0, payload := [] }
    let x1 := { (x.accept e) with expected := (x.expected + 1) % 2 ^ 32 }
    if f.more then
      if f.length.toNat = maxPayload then
        (s.perf 0 0x00 x.comp).putSession { x1 with partialReq := some ⟨f.seq.toNat, c.code, 1, f.payload⟩ }
      else ((s.perf 0 0x00 x.comp).putSession x1).finalTo x.id f.seq.toNat c.code St.segmentError [] false
    else ((s.perf 0 0x00 x.comp).putSession x1).run c q body

/-- A frame of session `x` whose header is good and whose COMPARTMENT matches (checks 3 on). -/
def State.sessionFrame (s : State) (c : CmdSpec) (x : Session) (f : Frame)
    (body : Req → State → State × Reply) : State :=
  match x.partialReq with
  | some p =>
    if p.continues f c.code then
      let all := p.payload ++ f.payload
      if f.more then s.putSession { x with partialReq := some { p with nextSeg := p.nextSeg + 1, payload := all } }
      else (s.putSession { x with partialReq := none }).run c
        { sid := x.id, comp := x.comp, conn := f.conn, usb := x.usb, seq := p.seq, code := c.code,
          payload := all, arrival := f.arrival } body
    else
      let s1 := s.breakSegments x
      match s1.session x.id with
      | some x1 => s1.newRequest c x1 f body
      | none => s1
  | none => s.newRequest c x f body

/-- What a command does before a session is open: it answers at once, on the connection, as compartment 0xFF (R61). -/
abbrev PreBody := Conn → Frame → State → State × Reply

def State.preOpen (s : State) (c : CmdSpec) (k : Conn) (f : Frame) (pre : PreBody) : State :=
  if ! c.preOpen then s.respond k.id 0xFF f.seq.toNat c.code St.noSession []
  else if f.more ∨ f.seg ≠ 0 then s.respond k.id 0xFF f.seq.toNat c.code St.segmentError []
  else match pre k f s with
    | (s1, .ok p) => s1.respond k.id 0xFF f.seq.toNat c.code St.ok p
    | (s1, .fail st p) =>
      s1.respond k.id 0xFF f.seq.toNat c.code st p
    | (s1, .pending _) => s1
    | (s1, .later _) => s1

/-- Serve one frame (R60 to R75). In a mode in which SUP serves no host, and in power fail (R83), it is discarded. -/
def State.serve (s0 : State) (c : CmdSpec) (f : Frame) (pre : PreBody) (body : Req → State → State × Reply) : State :=
  let sa := s0.advance f.arrival
  let s := if sa.mode = 4 then { sa with upd := { sa.upd with lastFrame := f.arrival } } else sa
  if ! s.serves then s
  else match s.connOf f.conn with
  | none => s
  | some k =>
    match f.judge k.usb with
    | .closeTcp => s.closeConn k.id f.arrival
    | .bad st p =>
      let comp := match s.sessionOn k.id with | some x => x.comp | none => 0xFF
      s.respond k.id comp f.seq.toNat c.code st p
    | .good =>
      match s.sessionOn k.id with
      | none => s.preOpen c k f pre
      | some x =>
        let s1 := s.putSession { x with lastFrame := f.arrival }
        if f.comp.toNat ≠ x.comp then s1.respond k.id x.comp f.seq.toNat c.code St.noSession []
        else s1.sessionFrame c { x with lastFrame := f.arrival } f body

/-- No effect before a session is open: the command is not one of R61. -/
def noPre : PreBody := fun _ _ s => (s, .no St.noSession)

/-- A command of an open session. -/
def command (code : Nat) (body : Req → State → State × Reply) (f : Frame) (s : State)
    (cancellable : Bool := false) (removes : Bool := false) (rereads : Bool := false) : Host.Outcome State Fault Refusal :=
  .next (s.serve { code := code, cancellable := cancellable, removes := removes, rereads := rereads } f noPre body)

/-! ### Checks 7 to 11 -/

/-- Which compartments a command is open to (Table 3-5 and the command's own definition). -/
inductive Open where
  | all | owner | ownerAndC01 | vendor | ownerOrVendor | any
  deriving DecidableEq, Repr

def Open.ok (o : Open) (c : Nat) : Bool :=
  match o with
  | .all => decide (c < 34)
  | .owner => c == 0
  | .ownerAndC01 => decide (c < 2)
  | .vendor => c == vendorTag
  | .ownerOrVendor => c == 0 || c == vendorTag
  | .any => true

/-- Modes M5 to M9. -/
def m5to9 : List Nat := [5, 6, 7, 8, 9]
/-- Modes M5 to M8. -/
def m5to8 : List Nat := [5, 6, 7, 8]
/-- Modes M4 to M9. -/
def m4to9 : List Nat := [4, 5, 6, 7, 8, 9]

/-- Check 7: command open to this compartment, in this mode (R73). -/
def permitted (o : Open) (modes : List Nat) (q : Req) (s : State) : Bool := o.ok q.comp && modes.contains s.mode

end Sys2Proof.Machine
end

