-- ==== Sys2Proof/Machine/Time.lean ====
section
/-!
DEFINITION. Time, calendar and alarms (spec/13): reading and freezing the RTC group, shifts and sets, alarms, the
correlation capture, and the PTP discipline up to the due step. The step itself is in TimeStep.lean.
-/
namespace Sys2Proof.Machine

/-! ### Labels and calendar counts -/

/-- Seconds from 2000-01-01 00:00:00 to a label. -/
def Label.seconds (l : Label) : Nat :=
  ((daysToYear l.year + ((monthLens l.year).take (l.month - 1)).foldl (· + ·) 0 + (l.day - 1)) * 86400)
    + l.hour * 3600 + l.min * 60 + l.sec

/-- The two words in which a label is laid out as MATCH is (Table 13-6). -/
def Label.words (l : Label) : Nat × Nat :=
  (bcd l.sec + 256 * bcd l.min + 65536 * bcd l.hour,
   bcd l.day + 256 * bcd l.month + 65536 * bcd (l.year % 100) + 16777216 * (l.year / 100))

/-- The label of a whole second. -/
def labelOf (secs : Nat) : Label := label (secs * 32768)

/-- A BCD byte as a number, where both digits are decimal. -/
def unbcd (b : Nat) : Option Nat := if b % 16 ≤ 9 ∧ b / 16 ≤ 9 then some (b / 16 * 10 + b % 16) else none

/-- The seconds of an 8-byte calendar of Table 13-4, where it names a second that exists; WDAY is ignored. -/
def calendarSeconds (p : Bytes) : Option Nat := do
  let sec ← unbcd (field p 0 1)
  let min ← unbcd (field p 1 1)
  let hour ← unbcd (field p 2 1)
  let day ← unbcd (field p 3 1)
  let month ← unbcd (field p 5 1)
  let yy ← unbcd (field p 6 1)
  let cent := field p 7 1
  let y := 100 * cent + yy
  if sec < 60 ∧ min < 60 ∧ hour < 24 ∧ 1 ≤ month ∧ month ≤ 12 ∧ cent ≤ 1 ∧ 1 ≤ day ∧ day ≤ (monthLens y).getD (month - 1) 0 then
    some ({ year := y, month := month, day := day, wday := 0, hour := hour, min := min, sec := sec, sub := 0 : Label }).seconds
  else none

/-- The 8 calendar bytes of Table 13-4 of a calendar count. -/
def calendarBytes (cal : Nat) : Bytes :=
  let l := label cal
  le 1 (bcd l.sec) ++ le 1 (bcd l.min) ++ le 1 (bcd l.hour) ++ le 1 (bcd l.day) ++ le 1 l.wday ++ le 1 (bcd l.month)
    ++ le 1 (bcd (l.year % 100)) ++ le 1 (l.year / 100)

/-! ### Alarms -/

/-- One calendar field of an alarm: any value, or the BCD value to match. -/
def State.alarmField (s : State) (aa n : Nat) (f : Fld) : Option (Option Nat) :=
  if bit (s.rd (Obj.TIME_ALM_CFG_MASK.i aa)) n then some none else (unbcd (s.rd f)).map some

/-- Whether a value meets a field that is any or fixed. -/
def meets (p : Option Nat) (v : Nat) : Bool := match p with | none => true | some x => x == v

/-- The first value from `v` on, below `lim`, that meets a field. -/
def firstFrom (p : Option Nat) (v lim : Nat) : Option Nat :=
  match p with
  | none => if v < lim then some v else none
  | some x => if v ≤ x ∧ x < lim then some x else none

/-- The first second of a day, from `from_` on, whose hour, minute and second meet the fields. -/
def firstSecond (h m c : Option Nat) (from_ : Nat) : Option Nat :=
  let h0 := from_ / 3600
  let m0 := from_ % 3600 / 60
  let inMinute := if meets h h0 ∧ meets m m0 then (firstFrom c (from_ % 60) 60).map fun x => h0 * 3600 + m0 * 60 + x else none
  let inHour := if meets h h0 then
      (firstFrom m (m0 + 1) 60).bind fun mm => (firstFrom c 0 60).map fun x => h0 * 3600 + mm * 60 + x else none
  let later := (firstFrom h (h0 + 1) 24).bind fun hh => (firstFrom m 0 60).bind fun mm =>
      (firstFrom c 0 60).map fun x => hh * 3600 + mm * 60 + x
  (inMinute.orElse fun _ => inHour).orElse fun _ => later

/-- The fields of an alarm: second, minute, hour, day, month, year, and the weekdays it allows (0 any). -/
structure AlarmSpec where
  sec : Option Nat
  min : Option Nat
  hour : Option Nat
  day : Option Nat
  month : Option Nat
  year : Option Nat
  wdays : Nat
  deriving DecidableEq, Repr

/-- The alarm's match, where its BCD fields are numbers. -/
def State.alarmSpec (s : State) (aa : Nat) : Option AlarmSpec := do
  let sec ← s.alarmField aa 0 (Obj.TIME_ALM_MATCH_SEC.i aa)
  let min ← s.alarmField aa 1 (Obj.TIME_ALM_MATCH_MIN.i aa)
  let hour ← s.alarmField aa 2 (Obj.TIME_ALM_MATCH_HOUR.i aa)
  let day ← s.alarmField aa 3 (Obj.TIME_ALM_MATCH_DAY.i aa)
  let month ← s.alarmField aa 4 (Obj.TIME_ALM_MATCH_MONTH.i aa)
  let year ← s.alarmField aa 5 (Obj.TIME_ALM_MATCH_YEAR.i aa)
  some { sec, min, hour, day, month, year := year.map (· + 100 * s.rd (Obj.TIME_ALM_MATCH_CENTURY.i aa)),
         wdays := s.rd (Obj.TIME_ALM_CFG_WDAY_MASK.i aa) }

/-- Whether a day meets an alarm. -/
def AlarmSpec.dayOk (a : AlarmSpec) (d : Nat) : Bool :=
  let l := label (d * 86400 * 32768)
  meets a.day l.day && meets a.month l.month && meets a.year l.year && (a.wdays == 0 || bit a.wdays (l.wday - 1))

/-- The first day within `fuel` days from `d` that meets an alarm. -/
def AlarmSpec.dayFrom (a : AlarmSpec) : Nat → Nat → Option Nat
  | 0, _ => none
  | n + 1, d => if a.dayOk d then some d else a.dayFrom n (d + 1)

/-- The first occurrence at or after a second of the calendar (R337). -/
def AlarmSpec.occurrence (a : AlarmSpec) (secs : Nat) : Option Nat :=
  let d := secs / 86400
  let today := if a.dayOk d then (firstSecond a.hour a.min a.sec (secs % 86400)).map (d * 86400 + ·) else none
  today.orElse fun _ =>
    match a.dayFrom (calDays - (d + 1)) (d + 1) with
    | some e => (firstSecond a.hour a.min a.sec 0).map (e * 86400 + ·)
    | none => none

/-- The last value up to `v` that meets a field. -/
def lastUpTo (p : Option Nat) (v : Nat) : Option Nat :=
  match p with
  | none => some v
  | some x => if x ≤ v then some x else none

/-- The same below `v`. -/
def lastBelow (p : Option Nat) (v : Nat) : Option Nat := if v = 0 then none else lastUpTo p (v - 1)

/-- The last second of a day up to `to_` whose hour, minute and second meet the fields. -/
def lastSecond (h m c : Option Nat) (to_ : Nat) : Option Nat :=
  let h0 := to_ / 3600
  let m0 := to_ % 3600 / 60
  let inMinute := if meets h h0 ∧ meets m m0 then (lastUpTo c (to_ % 60)).map fun x => h0 * 3600 + m0 * 60 + x else none
  let inHour := if meets h h0 then
      (lastBelow m m0).bind fun mm => (lastUpTo c 59).map fun x => h0 * 3600 + mm * 60 + x else none
  let earlier := (lastBelow h h0).bind fun hh => (lastUpTo m 59).bind fun mm =>
      (lastUpTo c 59).map fun x => hh * 3600 + mm * 60 + x
  (inMinute.orElse fun _ => inHour).orElse fun _ => earlier

/-- The last day before `d` that meets an alarm. -/
def AlarmSpec.dayBefore (a : AlarmSpec) : Nat → Option Nat
  | 0 => none
  | d + 1 => if a.dayOk d then some d else a.dayBefore d

/-- The last occurrence at or before a second of the calendar. -/
def AlarmSpec.latest (a : AlarmSpec) (secs : Nat) : Option Nat :=
  let d := secs / 86400
  let today := if a.dayOk d then (lastSecond a.hour a.min a.sec (secs % 86400)).map (d * 86400 + ·) else none
  today.orElse fun _ =>
    match a.dayBefore d with
    | some e => (lastSecond a.hour a.min a.sec 86399).map (e * 86400 + ·)
    | none => none

/-- Occurrences after second `lo` up to `hi`, at most `fuel`, with the latest of them. -/
def AlarmSpec.passed (a : AlarmSpec) : Nat → Nat → Nat → Nat × Option Nat
  | 0, _, _ => (0, none)
  | n + 1, lo, hi =>
    match a.occurrence (lo + 1) with
    | some o => if o ≤ hi then
        let r := a.passed n o hi
        (r.1 + 1, some (r.2.getD o)) else (0, none)
    | none => (0, none)

/-- The calendar's whole seconds. -/
def State.calSecs (s : State) : Nat := s.rtc.cal % calSpan / 32768

/-- Arm an alarm for its first occurrence after second `t`, or disarm it; NEXT shows it (R337). -/
def State.armAfter (s : State) (aa t : Nat) : State :=
  let o := if s.on (Obj.TIME_ALM_CFG_ENABLE.i aa) then (s.alarmSpec aa).bind fun a => a.occurrence (t + 1) else none
  let w := match o with | some x => (labelOf x).words | none => (0, 0)
  ({ s with rtc := { s.rtc with next := s.rtc.next.put aa o } }.wr (Obj.TIME_ALM_NEXT.ij aa 0) w.1).wr (Obj.TIME_ALM_NEXT.ij aa 1) w.2

/-- The second of the last firing of an alarm, as LAST shows it; none when it reads 0. -/
def State.lastFired (s : State) (aa : Nat) : Option Nat :=
  let w0 := s.rd (Obj.TIME_ALM_LAST.ij aa 0)
  let w1 := s.rd (Obj.TIME_ALM_LAST.ij aa 1)
  if w1 = 0 then none
  else calendarSeconds (le 3 w0 ++ le 1 (w1 % 256) ++ le 1 0 ++ le 1 (w1 / 256 % 256) ++ le 1 (w1 / 65536 % 256) ++ le 1 (w1 / 16777216))

/-- Write a wake cause: only while none is held, and the first of a cycle is the lowest code (R38). -/
def State.wakeCause (s : State) (code : Nat) : State :=
  if s.rd Obj.PWR_WAKE_CAUSE.f = 0 then s.wr Obj.PWR_WAKE_CAUSE.f code else s

/-- A transition of Table 2-2 begins. -/
def State.beginTransition (s : State) (target : Nat) (cold : Bool := false) : State :=
  { s with power := { s.power with transition := some { target := target, cold := cold } } }

/-- An enabled wake cause takes M2 to M6 and M1 to M3; one that arrives on the way from M2 to M1 is kept (R38, R39). -/
def State.wake (s : State) (code : Nat) : State :=
  match s.power.transition with
  | some tr => if s.mode = 2 ∧ tr.target = 1 then
      { (s.wakeCause code) with power := { s.power with keptWake := some code } } else s
  | none =>
    if s.mode = 2 then (s.wakeCause code).beginTransition 6
    else if s.mode = 1 then (s.wakeCause code).beginTransition 3
    else s

/-- Whether wake source `n` of PWR_WAKE_EN is enabled. -/
def State.wakeEn (s : State) (n : Nat) : Bool := bit (s.rd Obj.PWR_WAKE_EN.f) n

/-- An event for the C00 log, deferred to the next boot in M0, M1 and M10 (R337, R344, R352). -/
def State.logOrDefer (s : State) (c trigger : Nat) (detail : Bytes) : State :=
  if s.mode ≤ 1 ∨ s.mode = 10 then
    { s with evr := { s.evr with deferred := s.evr.deferred ++ [(c, s.deferredRecord trigger detail)] } }
  else s.log c trigger detail

/-- Fire an alarm for the occurrence at second `o` (R337). -/
def State.fireAlarm (s : State) (aa o : Nat) : State :=
  let w := (labelOf o).words
  let s1 := (((s.set1 (Obj.TIME_ALM_STATUS_FIRED.i aa)).wr (Obj.TIME_ALM_LAST.ij aa 0) w.1).wr (Obj.TIME_ALM_LAST.ij aa 1) w.2).inc
    (Obj.TIME_ALM_FIRE_COUNT.i aa)
  let s2 := s1.logOrDefer 0 0x0B04 (le 1 aa ++ le 3 0 ++ le 4 w.1 ++ le 4 w.2)
  let s3 := if s2.on (Obj.TIME_ALM_CFG_PERIODIC.i aa) then s2 else s2.wr (Obj.TIME_ALM_CFG_ENABLE.i aa) 0
  if s3.on (Obj.TIME_ALM_CFG_WAKE.i aa) && s3.wakeEn 1 then s3.wake 2 else s3

/-- ALARM_FIRE (R337): the calendar has reached the alarm's next occurrence; the AOD fires it in every mode. -/
def alarmFire (aa : Nat) (s : State) : State :=
  match s.rtc.next.get none aa with
  | some o =>
    if s.rtc.valid && s.on (Obj.TIME_ALM_CFG_ENABLE.i aa) && decide (o ≤ s.calSecs) then
      (s.fireAlarm aa o).armAfter aa s.calSecs
    else s
  | none => s

def execAlarmFire (aa : Fin 16) (t : Nat) (s : State) : Host.Outcome State Fault Refusal :=
  .next (alarmFire aa.val (s.advance t))

/-- What a set from `old` to `new` (whole seconds) does to one enabled alarm (R338 to R340). -/
def State.alarmSet (s : State) (wasValid : Bool) (old new aa : Nat) : State :=
  if ! s.on (Obj.TIME_ALM_CFG_ENABLE.i aa) then s
  else if ! wasValid then s.armAfter aa new
  else match s.alarmSpec aa with
  | none => s
  | some a =>
    if old < new then
      let p := a.passed 255 old new
      match p.2 with
      | none => s.armAfter aa new
      | some latest =>
        let s1 := s.wr (Obj.TIME_ALM_STATUS_SKIP_COUNT.i aa) p.1
        if s1.on (Obj.TIME_ALM_CFG_CATCHUP.i aa) then
          ((s1.set1 (Obj.TIME_ALM_STATUS_SKIPPED.i aa)).fireAlarm aa ((a.latest new).getD latest)).armAfter aa new
        else
          let s2 := s1.set1 (Obj.TIME_ALM_STATUS_MISSED.i aa)
          (if s2.on (Obj.TIME_ALM_CFG_PERIODIC.i aa) then s2 else s2.wr (Obj.TIME_ALM_CFG_ENABLE.i aa) 0).armAfter aa new
    else
      let last := s.lastFired aa
      let s1 := if last.any fun l => decide (new < l) then s.set1 (Obj.TIME_ALM_STATUS_REPEAT_AFTER_SET.i aa) else s
      if s1.on (Obj.TIME_ALM_CFG_PERIODIC.i aa) then s1.armAfter aa (max new (last.getD 0)) else s1.armAfter aa new

/-! ### Set, shift and roll-over -/

/-- Load a calendar: the tick count and floor time stay (R335); alarms follow R338 to R340. -/
def State.loadCalendar (s : State) (cal : Nat) (zone : Bool) : State :=
  let old := s.calSecs
  let oldBytes := calendarBytes s.rtc.cal
  let was := s.rtc.valid
  let s1 := { s with rtc := { s.rtc with cal := cal, valid := true, zone := zone, setReq := none } }
  let s2 := (s1.inc Obj.TIME_SET_COUNT.f).set1 Obj.TIME_EVT_RTC_SET.f
  let s3 := (List.range 16).foldl (fun t aa => t.alarmSet was old (cal / 32768) aa) s2
  s3.logAll [0, 1] 0x0B03 (oldBytes ++ calendarBytes cal)

/-- CALENDAR_SET_APPLY (R335): at the tick after acceptance the set is loaded and its command answered. -/
def calendarSetApply (s : State) : State :=
  match s.rtc.setReq with
  | some (cal, zone) =>
    let old := s.rtc.cal
    let s1 := s.loadCalendar cal zone
    s1.finish .timeSet St.ok (le 8 s1.rtc.ticks ++ calendarBytes old)
  | none => s

def execCalendarSetApply (t : Nat) (s : State) : Host.Outcome State Fault Refusal :=
  .next (calendarSetApply (s.advance t))

/-- SHIFT_DONE (R334): the last inserted or suppressed tick has passed. -/
def shiftDone (s : State) : State :=
  if s.rtc.suppress = 0 ∧ s.rtc.add = 0 then s.finish .timeShift St.ok (le 8 s.rtc.ticks) else s

def execShiftDone (t : Nat) (s : State) : Host.Outcome State Fault Refusal := .next (shiftDone (s.advance t))

/-- CALENDAR_ROLLOVER (R330): past 2199 the calendar reads 2000 and VALID is cleared. -/
def calendarRollover (s : State) : State :=
  if s.rtc.cal ≥ calSpan then { s with rtc := { s.rtc with cal := s.rtc.cal % calSpan, valid := false } } else s

def execCalendarRollover (t : Nat) (s : State) : Host.Outcome State Fault Refusal :=
  .next (calendarRollover (s.advance t))

/-- Begin a shift of `n` ticks: a positive one joins the next tick, a negative one suppresses ticks (R334). -/
def State.shift (s : State) (n : Int) : State :=
  if n ≥ 0 then { s with rtc := { s.rtc with add := n.toNat } }
  else { s with rtc := { s.rtc with suppress := (-n).toNat } }

/-- A shift is in progress: SHIFT_BUSY. -/
def State.shifting (s : State) : Bool := decide (s.rtc.suppress > 0 ∨ s.rtc.add > 0)

/-- The target calendar of R336: the UTC label of floor time (R324), plus UTC_OFS where the calendar is local. -/
def State.targetCal (s : State) : Int :=
  let ns : Int := s.floorTime - ((s.rd Obj.TIME_PTP_UTC_OFS.f : Int) - 32) * 1000000000
  let zone : Int := if s.on Obj.TIME_CFG_ZONE.f then sgn 8 (s.rd Obj.TIME_CFG_UTC_OFS.f) * 900 else 0
  ns * 32768 / 1000000000 + zone * 32768

/-- The calendar comparison of R336: below 1 s a shift corrects, above it a set. -/
def State.compareCalendar (s : State) : State :=
  if s.on Obj.TIME_CFG_FOLLOW_PTP.f && s.on Obj.TIME_PTP_UTC_OFS_VALID.f && ! s.shifting then
    let d := s.targetCal - (s.rtc.cal : Int)
    if d = 0 then s
    else if -32768 < d ∧ d < 32768 ∧ s.rtc.valid then s.shift d
    else { s with rtc := { s.rtc with setReq := some ((s.targetCal % (calSpan : Int)).toNat, s.on Obj.TIME_CFG_ZONE.f) } }
  else s

/-- PTP_CALENDAR_CHECK (R336): every 60 s while SYNC is LOCKED. -/
def ptpCalendarCheck (s : State) : State :=
  if s.rd Obj.TIME_FT_STATE_SYNC.f = 2 then s.compareCalendar else s

def execPtpCalendarCheck (t : Nat) (s : State) : Host.Outcome State Fault Refusal :=
  .next (ptpCalendarCheck (s.advance t))

/-- A write of the TIME_CFG word (R336, Table 13-5): its fields, then the comparison. Out of range it is refused. -/
def State.writeTimeCfg (s : State) (w : Nat) : State :=
  if Obj.TIME_CFG_UTC_OFS.rng.ok 8 (bits w 8 8) then
    let s1 := ((s.wr Obj.TIME_CFG_FOLLOW_PTP.f (w % 2)).wr Obj.TIME_CFG_ZONE.f (bits w 1 1)).wr Obj.TIME_CFG_UTC_OFS.f (bits w 8 8)
    ({ s1 with rtc := { s1.rtc with zone := bit w 1 } }).compareCalendar
  else s

/-- TIME_CFG_WRITE: only C00 writes the TIME block (R342). -/
def execTimeCfgWrite (who : Requester) (value : BitVec 32) (t : Nat) (s : State) : Host.Outcome State Fault Refusal :=
  .next (if s.compOf who = 0 then (s.advance t).writeTimeCfg value.toNat else s.advance t)

/-! ### Correlation (R341) -/

/-- Capture tick count and floor time at one tick edge; the end copy of the sequence is written first. -/
def State.correlate (s : State) : State :=
  let s1 := s.inc Obj.TIME_CORR_SEQ_END.f
  let s2 := ((s1.wr Obj.TIME_CORR_FT.f s.floorTime).wr Obj.TIME_CORR_TICK_LO.f (s.rtc.ticks % 2 ^ 32)).wr Obj.TIME_CORR_TICK_HI.f
    (s.rtc.ticks / 2 ^ 32)
  s2.inc Obj.TIME_CORR_SEQ.f

/-- TIME_CORR_CAPTURE: a C00 write of 1 to CAPTURE. -/
def execTimeCorrCapture (who : Requester) (t : Nat) (s : State) : Host.Outcome State Fault Refusal :=
  .next (if s.compOf who = 0 then (s.advance t).correlate else s.advance t)

/-- TIME_CORR_AUTO: the tick that begins a calendar minute, while AUTO is 1. -/
def timeCorrAuto (s : State) : State := if s.on Obj.TIME_CORR_CTRL_AUTO.f then s.correlate else s

def execTimeCorrAuto (t : Nat) (s : State) : Host.Outcome State Fault Refusal := .next (timeCorrAuto (s.advance t))

/-! ### The RTC group (R332) -/

/-- Release a requester's shadow. -/
def State.dropShadow (s : State) (who : Requester) : State :=
  { s with rtc := { s.rtc with shadows := s.rtc.shadows.filter fun x => x.who != who } }

/-- A shadow is taken away: its requester meets the timeout case, and the timeout is counted. -/
def State.timeoutShadow (s : State) (who : Requester) : State :=
  let s1 := s.dropShadow who
  ({ s1 with rtc := { s1.rtc with owed := who :: s1.rtc.owed.filter (· != who) } }).inc Obj.TIME_FRZ_TIMEOUTS.f

/-- Read one word of the RTC group: the first read freezes, a read of TIME_RTC_STAT releases; after a timeout reads
are live and the next TIME_RTC_STAT shows FRZ_TIMEOUT. -/
def State.readRtc (s : State) (who : Requester) (off : Nat) : Nat × State :=
  match s.rtc.shadows.find? fun x => x.who == who with
  | some x =>
    let v := rtcWord off x.ticks x.cal x.stat
    (v, if off = 0x24 then s.dropShadow who else s)
  | none =>
    let live := rtcWord off s.rtc.ticks s.rtc.cal s.rtcStat
    if s.rtc.owed.contains who then
      if off = 0x24 then (live + 2, { s with rtc := { s.rtc with owed := s.rtc.owed.filter (· != who) } }) else (live, s)
    else if off = 0x24 then (live, s)
    else
      let s1 := match s.rtc.shadows with
        | x :: _ => if s.rtc.shadows.length ≥ 16 then s.timeoutShadow x.who else s
        | [] => s
      let sh : Shadow := { who := who, frozenAt := s.floorTime, ticks := s.rtc.ticks, cal := s.rtc.cal, stat := s.rtcStat }
      (live, { s1 with rtc := { s1.rtc with shadows := s1.rtc.shadows ++ [sh] } })

/-- RTC_GROUP_READ: a read of one member of the group. -/
def execRtcGroupRead (who : Requester) (addr t : Nat) (s : State) : Host.Outcome State Fault Refusal :=
  .next (if 0x20000 ≤ addr ∧ addr ≤ 0x20024 ∧ addr % 4 = 0 then ((s.advance t).readRtc who (addr - 0x20000)).2 else s.advance t)

/-- RTC_FREEZE_TIMEOUT: 2 ms after the first read the shadow is released on its own. -/
def rtcFreezeTimeout (who : Requester) (s : State) : State :=
  match s.rtc.shadows.find? fun x => x.who == who with
  | some x => if x.frozenAt + 2000000 ≤ s.floorTime then s.timeoutShadow who else s
  | none => s

def execRtcFreezeTimeout (who : Requester) (t : Nat) (s : State) : Host.Outcome State Fault Refusal :=
  .next (rtcFreezeTimeout who (s.advance t))

/-! ### PTP (R324 to R327) -/

/-- A signed value saturating in 32 bits. -/
def sat32 (v : Int) : Nat := uns 32 (max (-2147483648) (min 2147483647 v))

/-- SYNC enters HOLDOVER (Table 13-1): the flag, and trigger 0x0B05 to the logs of C00 and C01 (R347). -/
def State.holdover (s : State) : State :=
  if s.rd Obj.TIME_FT_STATE_SYNC.f = 1 ∨ s.rd Obj.TIME_FT_STATE_SYNC.f = 2 then
    (((({ s with ptp := { s.ptp with good := 0 } }).wr Obj.TIME_FT_STATE_SYNC.f 3).set1 Obj.TIME_EVT_HOLDOVER.f).logAll [0, 1] 0x0B05 [])
  else s

/-- A frequency correction the spec leaves to the servo: free, within 200 ppm (R326, log 1). -/
def State.slew (s : State) : State :=
  let (n, s1) := s.draw
  s1.wr Obj.TIME_PTP_FREQ.f (uns 32 ((n % 400001 : Int) - 200000))

/-- A due step is fixed at the moment at which no Castling is pending (R327): S is the first multiple of 10 ms at least
10 ms later, Δ the largest multiple of 10 ms not above the offset. -/
def State.fixStep (s : State) : State :=
  if s.on Obj.TIME_FT_STATE_STEP_DUE.f && s.ptp.step.isNone && s.castlings.isEmpty then
    { s with ptp := { s.ptp with step := some (roundUp (s.floorTime + 10000000) 10000000, s.ptp.ahead / 10000000 * 10000000) } }
  else s

/-- A Sync of the grandmaster in use that is not refused: offset, slew, due step, lock (R326, R327, Table 13-1). -/
def State.track (s : State) (y : PtpSync) : State :=
  let s1 := (((s.wr Obj.TIME_PTP_OFS.f (sat32 y.offset)).wr Obj.TIME_PTP_UTC_OFS.f y.utcOfs).wr Obj.TIME_PTP_UTC_OFS_VALID.f
    (b2n y.utcValid)).wr Obj.TIME_GM_ID.f y.gm
  let s2 := if s1.rd Obj.TIME_FT_STATE_SYNC.f = 0 ∨ s1.rd Obj.TIME_FT_STATE_SYNC.f = 3 then
      { s1.wr Obj.TIME_FT_STATE_SYNC.f 1 with ptp := { s1.ptp with gm := y.gm, good := 0 } } else s1
  let s3 := { s2 with ptp := { s2.ptp with lastSync := s.floorTime } }
  if y.offset > 10000000 then
    ({ s3 with ptp := { s3.ptp with good := 0, ahead := y.offset.toNat } }.set1 Obj.TIME_FT_STATE_STEP_DUE.f).fixStep
  else
    let s4 := s3.slew
    let good : Nat := if -1000 < y.offset ∧ y.offset < 1000 then min 16 (s4.ptp.good + 1) else 0
    let s5 : State := { s4 with ptp := { s4.ptp with good := good } }
    if good = 16 ∧ s5.rd Obj.TIME_FT_STATE_SYNC.f = 1 then
      ((s5.wr Obj.TIME_FT_STATE_SYNC.f 2).wr Obj.TIME_FT_STATE_ANCHORED.f 1).wr Obj.TIME_FT_STATE_CARRIED.f 0
    else s5

/-- A Sync message. One that would put floor time more than 60 s ahead of PTP has its grandmaster refused for 600 s;
a refused grandmaster is not heard until then. -/
def ptpSync (y : PtpSync) (s : State) : State :=
  if s.failed 5 || s.failed 14 || s.failed 17 then s
  else if s.ptp.refused.any fun r => r.1 == y.gm then s
  else if y.offset < -60000000000 then
    ((({ s with ptp := { s.ptp with refused := some (y.gm, s.floorTime + 600000000000), good := 0 } }).wr
      Obj.TIME_FT_STATE_SYNC.f 0).set1 Obj.TIME_EVT_PTP_REJECT.f).log 0 0x0B02 (le 8 y.gm)
  else s.track y

def execPtpSync (sync : PtpSync) (t : Nat) (s : State) : Host.Outcome State Fault Refusal := .next (ptpSync sync (s.advance t))

/-- PTP_SYNC_TIMEOUT (Table 13-1): no Sync for 4 intervals and at least 3 s. -/
def ptpSyncTimeout (s : State) : State := if s.ptp.lastSync + 3000000000 ≤ s.floorTime then s.holdover else s

def execPtpSyncTimeout (t : Nat) (s : State) : Host.Outcome State Fault Refusal := .next (ptpSyncTimeout (s.advance t))

/-- GM_RETRY (R326): 600 s after the refusal the grandmaster is tried again. -/
def gmRetry (s : State) : State :=
  match s.ptp.refused with
  | some (_, u) => if u ≤ s.floorTime then { s with ptp := { s.ptp with refused := none } } else s
  | none => s

def execGmRetry (t : Nat) (s : State) : Host.Outcome State Fault Refusal := .next (gmRetry (s.advance t))

/-! ### Commands (Table 13-4) -/

/-- TIME_FT_STATE as its word reads. -/
def State.ftState (s : State) : Nat :=
  s.rd Obj.TIME_FT_STATE_SYNC.f + 4 * s.rd Obj.TIME_FT_STATE_ANCHORED.f + 8 * s.rd Obj.TIME_FT_STATE_CARRIED.f
    + 16 * s.rd Obj.TIME_FT_STATE_STEP_DUE.f

/-- CMD_TIME_GET: everything from one tick edge (R342). -/
def timeGet (q : Req) (s : State) : State × Reply :=
  if ! permitted .all m5to9 q s then (s, .no St.notPermitted)
  else if q.payload ≠ [] then (s, .no St.badPayload)
  else (s, .ok (le 8 s.floorTime ++ le 8 s.rtc.ticks ++ calendarBytes s.rtc.cal ++ le 2 (s.rtc.cal % 32768)
    ++ le 2 s.ftState ++ le 4 s.rtcStat))

def execCmdTimeGet (f : Frame) (s : State) : Host.Outcome State Fault Refusal :=
  command 0x0B01 timeGet f s (cancellable := true) (rereads := true)

/-- CMD_TIME_SET (R333, R335): refused during a shift or while the calendar follows PTP. -/
def timeSet (q : Req) (s : State) : State × Reply :=
  if ! permitted .owner m5to9 q s then (s, .no St.notPermitted)
  else if q.payload.length ≠ 12 ∨ field q.payload 11 1 ≠ 0 ∨ field q.payload 10 1 > 1 then (s, .no St.badPayload)
  else if s.shifting then (s, .check 0x0B02)
  else if s.on Obj.TIME_CFG_FOLLOW_PTP.f then (s, .check 0x0B03)
  else match calendarSeconds q.payload with
    | none => (s, .no St.badValue)
    | some secs =>
      if field q.payload 8 2 ≥ 32768 then (s, .no St.badValue)
      else
        let zone := field q.payload 10 1
        (({ s with rtc := { s.rtc with setReq := some (secs * 32768 + field q.payload 8 2, zone == 1) } }).wr
          Obj.TIME_CFG_ZONE.f zone, .later .timeSet)

def execCmdTimeSet (f : Frame) (s : State) : Host.Outcome State Fault Refusal := command 0x0B02 timeSet f s

/-- CMD_TIME_SHIFT (R333, R334). -/
def timeShift (q : Req) (s : State) : State × Reply :=
  let n := sgn 16 (field q.payload 0 2)
  if ! permitted .owner m5to9 q s then (s, .no St.notPermitted)
  else if q.payload.length ≠ 4 ∨ field q.payload 2 2 ≠ 0 then (s, .no St.badPayload)
  else if s.shifting then (s, .check 0x0B02)
  else if n = 0 ∨ n < -32767 ∨ 32767 < n then (s, .no St.badValue)
  else (s.shift n, .pending .timeShift)

def execCmdTimeShift (f : Frame) (s : State) : Host.Outcome State Fault Refusal := command 0x0B03 timeShift f s

end Sys2Proof.Machine
end

