-- ==== Sys2Proof/Machine/Staging.lean ====
section
/-!
DEFINITION. The staging of a compartment (spec/04 R97 to R100): its size and limits, accepting a write, the state it
shows, and discarding it. The check and the Castling itself are in Castling.lean.
-/
namespace Sys2Proof.Machine

/-- The staged value of a field, where one is staged. -/
def stagedValue (c : Cells) (f : Fld) : Option Nat := (c.find? fun p => p.1.key == f.key).map (·.2)

/-- Stage a value; a later one replaces it (R95). -/
def stagePut (c : Cells) (f : Fld) (v : Nat) : Cells := (c.del f).ins f (v % 2 ^ f.width)

/-- The word addresses at which staged fields lie, each once. -/
def stagedWords : Cells → List Nat
  | [] => []
  | (f, _) :: r =>
    let w := f.bit / 32
    let rest := stagedWords r
    let two := if (f.bit + f.width - 1) / 32 ≠ w then [w + 1] else []
    (w :: two).foldl (fun l x => if l.contains x then l else x :: l) rest

/-- Staged size (R97): 4 bytes for each word address, and the declared size of a staged image. -/
def Staging.bytes (g : Staging) : Nat := 4 * (stagedWords g.cells).length + (g.image.map (·.size)).getD 0

/-- The staging of a compartment. -/
def State.staging (s : State) (c : Nat) : Staging := s.stagings.get {} c

/-- Set a staging and what CAST_STAGE shows of it (Table 4-7). -/
def State.putStaging (s : State) (c : Nat) (g : Staging) : State :=
  let s1 := { s with stagings := s.stagings.put c g }
  ((s1.wr (Obj.CAST_STAGE_STATE.b c) g.state).wr (Obj.CAST_STAGE_WRITES.b c) (min 65535 g.cells.length)).wr
    (Obj.CAST_STAGE_BYTES.b c) g.bytes

/-- Staged size of the whole module. -/
def State.stagedTotal (s : State) : Nat := s.stagings.foldl (fun n p => n + p.2.bytes) 0

/-- Whether a staging may take the place of the compartment's present one within the limits of R97. -/
def State.stagingFits (s : State) (c : Nat) (g : Staging) : Bool :=
  decide (g.bytes ≤ 16 * 1048576) && decide (s.stagedTotal - (s.staging c).bytes + g.bytes ≤ 96 * 1048576)

/-- Whether anything is staged. -/
def Staging.any (g : Staging) : Bool := ! g.cells.isEmpty || g.image.isSome

/-- The image fields of a compartment's bank read 0 while no image is staged (Table 6-20). -/
def State.clearImageFields (s : State) (c : Nat) : State :=
  ((List.range 12).foldl (fun t i => t.wr (Obj.SCE_IMG_STG_HASH.bi c i) 0) s).wrs
    [(Obj.SCE_IMG_STG_SIZE.b c, 0), (Obj.SCE_IMG_STG_MISSING.b c, 0), (Obj.SCE_IMG_STG_STATE.b c, 0)]

/-- Discard a staging (R98): a running check ends CANCELLED with no token, held writes end CANCELLED. -/
def State.discardStaging (s : State) (c : Nat) : State :=
  let g := s.staging c
  let s1 := s.finish (.castCheck c) St.cancelled []
  let s2 := g.held.foldl (fun t h => t.finish (.held h.sid h.seq) St.cancelled []) s1
  ({ s2 with stagings := s2.stagings.del c }.clearImageFields c).wrs [(Obj.CAST_STAGE_STATE.b c, 0), (Obj.CAST_STAGE_WRITES.b c, 0),
    (Obj.CAST_STAGE_BYTES.b c, 0)]

/-- Stage fields for a compartment; the caller has checked the limits. The staging goes to STAGED (Table 4-5). -/
def State.stageFields (s : State) (c : Nat) (l : List (Fld × Nat)) : State :=
  let g := s.staging c
  s.putStaging c { g with state := 1, cells := l.foldl (fun k p => stagePut k p.1 p.2) g.cells,
                          defaults := g.defaults.filter fun k => ! l.any fun p => p.1.key == k }

/-- A state whose stored fields have a staging laid over them. -/
def State.under (s : State) (c : Cells) : State := { s with regs := s.regs.overlay c }

end Sys2Proof.Machine
end

