-- ==== Sys2Proof/Machine/Pimg.lean ====
section
/-!
DEFINITION. The live process image, forces and stop values (spec/05 R122, R123, R132, R145; spec/07 R190 to R195).
-/
namespace Sys2Proof.Machine

/-! ### Writes to the live image -/

def State.pt (s : State) (p : Nat) : Nat := s.rd (Obj.PIMG_PT.i p)

/-- The source of a point (Table 5-11): 0 none, 1 task, 2 FBC, 3 LBX, 4 MAE. -/
def State.source (s : State) (p : Nat) : Nat := s.rd (Obj.PIMG_ATTR_SOURCE.i p)

/-- A whole-value write. -/
def PtWrite.whole (p v : Nat) : PtWrite := { point := p, lo := some (v % 2 ^ 32), hi := some (v / 2 ^ 32 % 2 ^ 32) }

/-- What a write leaves: a half not written keeps what the live image holds (R145). -/
def PtWrite.merge (w : PtWrite) (live : Nat) : Nat := w.lo.getD (live % 2 ^ 32) + 2 ^ 32 * w.hi.getD (live / 2 ^ 32)

def State.applyPt (s : State) (w : PtWrite) : State := s.wr (Obj.PIMG_PT.i w.point) (w.merge (s.pt w.point))

def State.applyPts (s : State) (l : List PtWrite) : State := l.foldl State.applyPt s

/-- A group of writes applied in one step: at once, or queued during a capture hold (R122). -/
def State.pimgWrite (s : State) (l : List PtWrite) : State :=
  if l.isEmpty then s
  else if s.scan.hold.isSome then { s with scan := { s.scan with queued := s.scan.queued ++ [l] } }
  else s.applyPts l

/-! ### Forces -/

/-- A force entry (Table 7-8). -/
structure Force where
  ix : Nat
  state : Nat
  kind : Nat
  dtype : Nat
  point : Nat
  size : Nat
  path : Nat
  name : Nat
  value : Nat
  deriving DecidableEq, Repr

def State.force (s : State) (c i : Nat) : Force :=
  { ix := i, state := s.rd (Obj.FORCE_STATE.bi c i), kind := s.rd (Obj.FORCE_KIND.bi c i),
    dtype := s.rd (Obj.FORCE_DTYPE.bi c i), point := s.rd (Obj.FORCE_POINT.bi c i), size := s.rd (Obj.FORCE_SIZE.bi c i),
    path := s.rd (Obj.FORCE_PATH_HASH.bi c i), name := s.rd (Obj.FORCE_NAME_HASH.bi c i), value := s.rd (Obj.FORCE_VALUE.bi c i) }

def State.putForce (s : State) (c : Nat) (f : Force) : State :=
  s.wrs [(Obj.FORCE_STATE.bi c f.ix, f.state), (Obj.FORCE_KIND.bi c f.ix, f.kind), (Obj.FORCE_DTYPE.bi c f.ix, f.dtype),
    (Obj.FORCE_POINT.bi c f.ix, f.point), (Obj.FORCE_SIZE.bi c f.ix, f.size), (Obj.FORCE_PATH_HASH.bi c f.ix, f.path),
    (Obj.FORCE_NAME_HASH.bi c f.ix, f.name), (Obj.FORCE_VALUE.bi c f.ix, f.value)]

/-- The forces of a compartment in use. -/
def State.forces (s : State) (c : Nat) : List Force := ((List.range 128).map (s.force c)).filter fun f => f.state != 0

/-- Forces in use in the module. -/
def State.forceTotal (s : State) : Nat := ((List.range 34).map fun c => (s.forces c).length).foldl (· + ·) 0

/-- The value of an active point force. -/
def State.pointForce (s : State) (c p : Nat) : Option Nat :=
  ((s.forces c).find? fun f => f.state == 1 && f.kind == 0 && f.point == p).map (·.value)

/-- The program's own value of an output point (R156, R177). -/
def State.ownValue (s : State) (c p : Nat) : Nat := ((s.prog c).lastOut.find? fun x => x.1 == p).elim (s.pt p) (·.2)

def State.setOwn (s : State) (c p v : Nat) : State :=
  let g := s.prog c
  s.putProg c { g with lastOut := g.lastOut.put p v }

/-- The stop value of a point (R132). -/
def State.stopValue (s : State) (c p : Nat) (safe : Bool) : Nat :=
  if safe || s.on (Obj.SCE_STOP_MODE.i p) then s.rd (Obj.SCE_STOP_SAFE.i p) else s.ownValue c p

/-- Write the program's own values of output points; a forced point keeps its force value (R191, R194). -/
def State.writeOutputs (s : State) (c : Nat) (l : List (Nat × Nat)) : State :=
  (l.foldl (fun t p => t.setOwn c p.1 p.2) s).pimgWrite
    ((l.filter fun p => (s.pointForce c p.1).isNone).map fun p => PtWrite.whole p.1 p.2)

/-- Put a point force in effect in the live image (R191, R193). -/
def State.applyForce (s : State) (f : Force) : State :=
  let s1 := s.wr (Obj.PIMG_ATTR_FORCED.i f.point) 1
  if s.source f.point ≤ 1 then s1.pimgWrite [PtWrite.whole f.point f.value] else s1

/-- Take a point force out of effect (R193): a task's point returns to the task's own value. -/
def State.liftForce (s : State) (c : Nat) (f : Force) : State :=
  let s1 := s.wr (Obj.PIMG_ATTR_FORCED.i f.point) 0
  if s.source f.point = 1 then s1.pimgWrite [PtWrite.whole f.point (s.ownValue c f.point)] else s1

/-- The DETAIL of trigger 0x0407: the entry's target. -/
def Force.detail (f : Force) : Bytes := le 1 f.kind ++ le 1 f.dtype ++ le 2 f.point ++ le 4 f.size ++ le 8 f.path ++ le 8 f.name

/-- Release a force (R195): the entry is cleared, the flag set, and the release logged. -/
def State.releaseForce (s : State) (c : Nat) (f : Force) : State :=
  let s1 := s.putForce c { ix := f.ix, state := 0, kind := 0, dtype := 0, point := 0, size := 0, path := 0, name := 0, value := 0 }
  let s2 := if f.kind = 0 ∧ f.state = 1 then s1.liftForce c f else s1
  (s2.set1 (Obj.EXCH_EVT_FORCE_RELEASED.b c)).log c 0x0407 f.detail

def State.releaseForces (s : State) (c : Nat) (l : List Force) : State := l.foldl (fun t f => t.releaseForce c f) s

/-! ### Output points and the start of variables -/

/-- The points in the output sets of a compartment's tasks. -/
def State.outputPoints (s : State) (c : Nat) : List Nat := ((s.tasksOf c).flatMap (·.outs)).eraseDups

/-- Every output point takes its stop value in one step (R131 step 3, R132). -/
def State.takeStopValues (s : State) (c : Nat) (pts : List Nat) (safe : Bool) : State :=
  s.writeOutputs c (pts.map fun p => (p, s.stopValue c p safe))

/-- Suspend the forces on output points (R194). -/
def State.suspendForces (s : State) (c : Nat) (pts : List Nat) : State :=
  ((s.forces c).filter fun f => f.kind == 0 && f.state == 1 && pts.contains f.point).foldl
    (fun t f => (t.wr (Obj.FORCE_STATE.bi c f.ix) 2).wr (Obj.PIMG_ATTR_FORCED.i f.point) 0) s

/-- Suspended forces become active again (R194). -/
def State.resumeForces (s : State) (c : Nat) : State :=
  ((s.forces c).filter fun f => f.state == 2).foldl (fun t f => (t.wr (Obj.FORCE_STATE.bi c f.ix) 1).applyForce f) s

/-- The variable a force names in a program: the placed instance and the variable. -/
def Prog.symbol (g : Prog) (path name : Nat) : Option (Inst × ImgVar) := do
  let ix ← g.image.insts.findIdx? fun x => x.path == path
  let x ← g.instIx ix
  let t ← g.image.types[x.typeIx]?
  let v ← t.vars.find? fun v => v.name == name
  some (x, v)

/-- Write one variable of an instance. -/
def Prog.poke (g : Prog) (x : Inst) (v : ImgVar) (value : Nat) : Prog :=
  g.putInst { x with data := memWrite x.data v.off (le v.size value) }

/-- Write every active variable force into the program (R192). -/
def Prog.forced (g : Prog) (l : List Force) : Prog :=
  (l.filter fun f => f.kind == 1 && f.state == 1).foldl (fun h f => match h.symbol f.path f.name with
    | some (x, v) => if v.size = f.size ∧ v.dtype = f.dtype then h.poke x v f.value else h
    | none => h) g

/-! ### PIMG_SET (R145) -/

/-- Whether a PIMG_SET write to a point is refused: it has a source, or a force holds it (R145, Table 7-4). -/
def State.setRefused (s : State) (p : Nat) : Bool :=
  s.source p != 0 || (s.pointForce (s.ownerPt p) p).isSome

/-- PIMG_SET_WRITE: a write by a host or a task of a point it owns; a task's write waits for its ply's output step. -/
def pimgSetWrite (who : Requester) (point value : Nat) (s : State) : State :=
  let c := s.compOf who
  if ! s.live who || s.ownerPt point != c || decide (point ≥ 8192) || s.setRefused point then s
  else match who with
    | .task c e k => match s.plyOf c e k with
      | some p => s.putPly { p with sets := p.sets.filter (fun w => w.point != point) ++ [PtWrite.whole point value] }
      | none => s
    | _ => s.pimgWrite [PtWrite.whole point value]

def execPimgSetWrite (who : Requester) (point : Nat) (value : BitVec 64) (t : Nat) (s : State) : Host.Outcome State Fault Refusal :=
  .next (pimgSetWrite who point value.toNat (s.advance t))

end Sys2Proof.Machine
end

