-- ==== Sys2Proof/Machine/Can.lean ====
section
/-!
DEFINITION. The CAN ports (spec/10): requests, selection, attempts and their ends, reception, mappings, FIFOs, stamps,
running and sleeping; and the error states and the identifier firewall of spec/11.
-/
namespace Sys2Proof.Machine

def State.port (s : State) (p : Nat) : CanPort := s.fbc.ports.get {} p
def State.putPort (s : State) (p : Nat) (x : CanPort) : State := { s with fbc := { s.fbc with ports := s.fbc.ports.put p x } }
def State.txReq (s : State) (p b : Nat) : TxReq := (s.port p).reqs.get {} b
def State.putTxReq (s : State) (p b : Nat) (x : TxReq) : State :=
  let q := s.port p
  s.putPort p { q with reqs := q.reqs.put b x }

/-! ### States -/

/-- Port STATE (Table 10-9) and TX buffer STATE (Table 10-10). -/
def portOff : Nat := 0
def portIntegrating : Nat := 1
def portRunning : Nat := 2
def portListening : Nat := 3
def portAsleep : Nat := 4
def txPending : Nat := 1
def txArbitrating : Nat := 2
def txSent : Nat := 3
def txFailed : Nat := 4
def txCancelled : Nat := 5
def txArbLost : Nat := 6
def txHeld : Nat := 7

def State.portState (s : State) (p : Nat) : Nat := s.rd (Obj.FBC_STATE.i p)
def State.errState (s : State) (p : Nat) : Nat := s.rd (Obj.FBC_ERR_STATE.i p)
def State.txState (s : State) (p b : Nat) : Nat := s.rd (Obj.FBC_TXB_STATE.ij p b)

/-- Whether a port is on the bus: running or listening, its transceiver not shed (Table 2-6), not off the bus. -/
def State.onBus (s : State) (p : Nat) : Bool :=
  (s.portState p == portRunning || s.portState p == portListening) && decide (s.errState p ≤ 1) && ! s.halted 3 &&
    ! (s.mode == 10 && decide (s.power.pfAt + 1000000 ≤ s.floorTime))

/-- The compartments that own a range on a port, C00 first (Table 11-7). -/
def State.portLogs (s : State) (p : Nat) : List Nat := 0 :: (List.range 34).filter fun c => c != 0 && s.exists? c && s.ownsRange p c

/-- The DETAIL of triggers 0x0603 to 0x0607 (R285). -/
def State.portDetail (s : State) (p : Nat) : Bytes :=
  le 1 p ++ le 1 (s.errState p) ++ le 2 (s.rd (Obj.FBC_TEC.i p)) ++ le 1 (s.rd (Obj.FBC_REC.i p)) ++ le 3 0 ++ le 8 s.floorTime

def State.portEvent (s : State) (p trigger : Nat) : State := s.logAll (s.portLogs p) trigger (s.portDetail p)

/-! ### Frames -/

/-- Data length of a DLC (Table 10-1). -/
def dlcLen (fdf : Bool) (d : Nat) : Nat := if fdf then [0, 1, 2, 3, 4, 5, 6, 7, 8, 12, 16, 20, 24, 32, 48, 64].getD d 64 else min d 8

/-- Order of arbitration: base identifier, base frames before extended, then the extension (R264). -/
def arbKey (id : Nat) (xtd : Bool) : Nat := if xtd then id / 2 ^ 18 * 2 ^ 19 + 2 ^ 18 + id % 2 ^ 18 else id % 2 ^ 11 * 2 ^ 19

def State.bufId (s : State) (p b : Nat) : Nat := s.rd (Obj.FBC_TXB_BIND_ID.ij p b)
def State.bufXtd (s : State) (p b : Nat) : Bool := s.on (Obj.FBC_TXB_BIND_XTD.ij p b)
def State.bufOwner (s : State) (p b : Nat) : Nat := s.rd (Obj.FBC_TXB_CTRL_OWNER.ij p b)
def State.bufOn (s : State) (p b : Nat) : Bool := s.on (Obj.FBC_TXB_BIND_ENABLE.ij p b)

/-- The data words of a buffer as one number, byte 0 lowest. -/
def State.bufData (s : State) (p b : Nat) : Nat :=
  (List.range 16).foldl (fun n w => n + s.rd (Obj.FBC_TXB_DATA.at 0 [p, b, w]) * 2 ^ (32 * w)) 0

def State.putBufData (s : State) (p b v : Nat) : State :=
  (List.range 16).foldl (fun t w => t.wr (Obj.FBC_TXB_DATA.at 0 [p, b, w]) (v / 2 ^ (32 * w) % 2 ^ 32)) s

/-- The copy of a buffer that is sent (R263). -/
def State.bufFrame (s : State) (p b : Nat) : CanFrame :=
  let dlc := s.rd (Obj.FBC_TXB_FRAME_DLC.ij p b)
  let fdf := s.on (Obj.FBC_TXB_FRAME_FDF.ij p b)
  let rtr := s.on (Obj.FBC_TXB_FRAME_RTR.ij p b)
  { id := BitVec.ofNat 29 (s.bufId p b), xtd := s.bufXtd p b, fdf := fdf, brs := s.on (Obj.FBC_TXB_FRAME_BRS.ij p b),
    esi := fdf && s.errState p == 1, rtr := rtr, dlc := ⟨dlc % 16, Nat.mod_lt _ (by decide)⟩,
    data := if rtr then [] else le (dlcLen fdf dlc) (s.bufData p b), sof := 0 }

/-! ### The identifier firewall (R290 to R293) -/

/-- The enabled range of a port that holds an identifier. -/
def State.rangeOf (s : State) (p id : Nat) (xtd : Bool) : Option Nat :=
  (List.range 16).find? fun r => s.on (Obj.FBC_RNG_ENABLE.ij p r) && s.on (Obj.FBC_RNG_XTD.ij p r) == xtd &&
    decide (s.rd (Obj.FBC_RNG_LOW.ij p r) ≤ id ∧ id ≤ s.rd (Obj.FBC_RNG_HIGH.ij p r))

/-- Whether a buffer's owner is bound to its identifier (R293). -/
def State.mayTransmit (s : State) (p b : Nat) : Bool :=
  s.bufOwner p b != 0xFE && (List.range 16).any fun r =>
    s.on (Obj.FBC_RNG_ENABLE.ij p r) && s.on (Obj.FBC_RNG_XTD.ij p r) == s.bufXtd p b &&
    s.rd (Obj.FBC_RNG_OWNER.ij p r) == s.bufOwner p b &&
    decide (s.rd (Obj.FBC_RNG_LOW.ij p r) ≤ s.bufId p b ∧ s.bufId p b ≤ s.rd (Obj.FBC_RNG_HIGH.ij p r))

/-! ### The end of a request (R266, R287) -/

/-- The final response of CMD_BUS_TX_SEND (Table 10-8). -/
def State.txPayload (s : State) (p b : Nat) : Bytes :=
  le 1 (s.txState p b) ++ le 1 (s.rd (Obj.FBC_TXB_LAST_ERR.ij p b)) ++ le 1 (s.rd (Obj.FBC_TXB_ATTEMPTS.ij p b)) ++ le 1 0 ++
  le 4 (s.rd (Obj.FBC_TXB_STAMP.ij p b)) ++ le 2 (s.rd (Obj.FBC_TXB_EPOCH_LO.ij p b)) ++ le 2 0

/-- A rate-limited record of trigger 0x0601 to the buffer's owner (R266). -/
def State.logFailed (s : State) (p b : Nat) : State :=
  let x := s.txReq p b
  let body := le 1 p ++ le 1 b ++ le 2 0 ++ le 4 (s.bufId p b) ++ le 1 (s.rd (Obj.FBC_TXB_LAST_ERR.ij p b)) ++ le 3 0 ++ le 4 (x.logSince + 1)
  if x.logAt.any fun t => decide (s.floorTime < t + 1000000000) then s.putTxReq p b { x with logSince := x.logSince + 1 }
  else (s.putTxReq p b { x with logAt := some s.floorTime, logSince := 0 }).log (s.bufOwner p b) 0x0601 body (decide (0 < x.logSince))

/-- A collision report (R287). -/
def State.collision (s : State) (p b : Nat) : State :=
  let o := s.bufOwner p b
  let s1 := ((s.inc (Obj.FBC_COLLISIONS.i p)).wrs [(Obj.FBC_COLL_LAST_ID.i p, s.bufId p b),
    (Obj.FBC_COLL_LAST_XTD.i p, b2n (s.bufXtd p b)), (Obj.FBC_COLL_LAST_BUF.i p, b), (Obj.FBC_COLL_LAST_OWNER.i p, o),
    (Obj.FBC_COLL_LAST_TIME.i p, s.floorTime)]).set1 (Obj.FBC_FEVT_COLLISION.i p)
  s1.logAll (if o = 0 then [0] else [0, o]) 0x0602 (le 1 p ++ le 1 b ++ le 2 0 ++ le 4 (s.bufId p b))

/-- Requests that waited for a further transmission of a buffer wait for the next one now. -/
def State.shiftWaits (s : State) (p b : Nat) : State :=
  { s with waiters := s.waiters.map fun w => if w.wait = .busTx p (b + 32) then { w with wait := .busTx p b } else w }

/-- A request ends: STATE, events, the command's response; a further transmission due becomes a fresh request. -/
def State.endTx (s : State) (p b st err : Nat) (collided : Bool := false) : State :=
  let x := s.txReq p b
  let q := s.port p
  let s1 := (s.putPort p { q with arb := if q.arb = some b then none else q.arb }).wrs
    [(Obj.FBC_TXB_STATE.ij p b, st), (Obj.FBC_TXB_LAST_ERR.ij p b, err)]
  let s2 := s1.putTxReq p b { x with failures := 0, again := false, cancel := false, copy := none }
  let s3 := if st = txSent then (s2.set1 (Obj.FBC_TXB_EVT_SENT.ij p b)).inc (Obj.FBC_TXB_TX_COUNT.ij p b)
    else if st = txFailed ∨ st = txArbLost then s2.set1 (Obj.FBC_TXB_EVT_FAIL.ij p b) else s2
  let s4 := if collided then s3.collision p b else if st = txFailed then s3.logFailed p b else s3
  let s5 := s4.finish (.busTx p b) St.ok (s4.txPayload p b)
  if x.again && st != txCancelled then
    (s5.shiftWaits p b).wrs [(Obj.FBC_TXB_STATE.ij p b, if s5.errState p ≥ 2 then txHeld else txPending), (Obj.FBC_TXB_ATTEMPTS.ij p b, 0)]
  else if x.again then s5.finish (.busTx p (b + 32)) St.ok (s5.txPayload p b)
  else s5

/-! ### Selection (R263, R264, R293) -/

/-- The buffers of a port in a state. -/
def State.bufsIn (s : State) (p st : Nat) : List Nat := (List.range 32).filter fun b => s.txState p b == st

/-- The buffer that would win arbitration. -/
def State.topBuf (s : State) (p : Nat) : List Nat → Option Nat
  | [] => none
  | b :: r => match s.topBuf p r with
    | some c => if arbKey (s.bufId p b) (s.bufXtd p b) ≤ arbKey (s.bufId p c) (s.bufXtd p c) then some b else some c
    | none => some b

/-- A buffer begins an attempt with a copy of its frame. -/
def State.beginTx (s : State) (p b : Nat) : State :=
  let x := s.txReq p b
  let q := s.port p
  let s1 := (s.putPort p { q with arb := some b }).putTxReq p b
    { x with copy := some (match x.copy with | some f => f | none => s.bufFrame p b), selected := s.floorTime }
  ((s1.wr (Obj.FBC_TXB_STATE.ij p b) txArbitrating).incSat (Obj.FBC_TXB_ATTEMPTS.ij p b)).perf 9 0x09 (s.bufOwner p b)

/-- A selection: buffers the firewall refuses end FAILED, and the winner of the rest begins an attempt. -/
def State.select (s : State) (p : Nat) : State :=
  if s.onBus p && s.portState p == portRunning && (s.port p).arb.isNone then
    let pend := s.bufsIn p txPending
    let s1 := (pend.filter fun b => ! s.mayTransmit p b).foldl (fun t b =>
      (((t.inc (Obj.FBC_FW_TX_BLOCK.i p)).set1 (Obj.FBC_FEVT_FW.i p)).perf 9 0x06 vendorTag).endTx p b txFailed 8) s
    match s1.topBuf p (pend.filter fun b => s.mayTransmit p b) with
    | some b => s1.beginTx p b
    | none => s1
  else s

/-! ### Requests (R262, R267, R268, R282) -/

/-- A request on an enabled buffer: one request in place, or one further transmission while it is ARBITRATING. On a
port that is off or asleep it ends at once as R275 gives. -/
def State.request (s : State) (p b : Nat) : State :=
  let st := s.txState p b
  if ! s.bufOn p b then s
  else if st = txArbitrating then s.putTxReq p b { (s.txReq p b) with again := true }
  else if st = txPending ∨ st = txHeld then s
  else
    let s1 := (s.putTxReq p b { (s.txReq p b) with failures := 0, again := false, cancel := false, copy := none }).wrs
      [(Obj.FBC_TXB_ATTEMPTS.ij p b, 0), (Obj.FBC_TXB_LAST_ERR.ij p b, 0)]
    if s.portState p = portOff ∨ s.portState p = portAsleep then s1.endTx p b txCancelled 5
    else if s.errState p ≥ 2 then s1.wr (Obj.FBC_TXB_STATE.ij p b) txHeld
    else (s1.wr (Obj.FBC_TXB_STATE.ij p b) txPending).select p

/-- CANCEL (R268, R282). -/
def State.cancelTx (s : State) (p b : Nat) : State :=
  let st := s.txState p b
  if st = txPending then s.endTx p b txCancelled (s.rd (Obj.FBC_TXB_LAST_ERR.ij p b))
  else if st = txHeld then s.endTx p b txCancelled 7
  else if st = txArbitrating then s.putTxReq p b { (s.txReq p b) with cancel := true, again := false }
  else s

/-- Whether a requester may use a buffer: its owner with a range on the port, or C00 (R261). -/
def State.reaches (s : State) (c a : Nat) : Bool := s.sight c a == .full

/-- Address of word `off` of TX buffer `b`. -/
def bufAddr (p b off : Nat) : Nat := 0x801000 + 0x10000 * p + 0x80 * b + off

/-- TXREQ and TX_CANCEL: a write of CMD by a requester that sees the buffer. -/
def txreq (who : Requester) (p b : Nat) (s : State) : State :=
  if s.live who && s.reaches (s.compOf who) (bufAddr p b 0x50) then s.request p b else s

def execTxreq (who : Requester) (port : Fin 24) (buf : Fin 32) (t : Nat) (s : State) : Host.Outcome State Fault Refusal :=
  .next (txreq who port.val buf.val (s.advance t))

def txCancel (who : Requester) (p b : Nat) (s : State) : State :=
  if s.live who && s.reaches (s.compOf who) (bufAddr p b 0x50) then (s.cancelTx p b).select p else s

def execTxCancel (who : Requester) (port : Fin 24) (buf : Fin 32) (t : Nat) (s : State) : Host.Outcome State Fault Refusal :=
  .next (txCancel who port.val buf.val (s.advance t))

/-! ### Transmit mappings (R267) -/

/-- A field of data: its bits by place, most significant last; big-endian fields run down from bit 7 of their byte. -/
def fieldBits (off w : Nat) (big : Bool) : List Nat :=
  if big then ((List.range w).map fun j => (off + j) / 8 * 8 + 7 - (off + j) % 8).reverse else (List.range w).map (off + ·)

/-- The number that data bits at some places spell, least significant first. -/
def gather (data : Nat) : List Nat → Nat
  | [] => 0
  | k :: r => b2n (bit data k) + 2 * gather data r

/-- Data with bits at some places replaced. -/
def scatter (data : Nat) : List Nat → Nat → Nat
  | [], _ => data
  | k :: r, v => scatter (if bit data k then (if v % 2 = 1 then data else data - 2 ^ k) else data + v % 2 * 2 ^ k) r (v / 2)

def State.mapOn (s : State) (p m : Nat) : Bool := s.on (Obj.FBC_MAP_ENABLE.ij p m)
def State.mapField (s : State) (p m : Nat) : List Nat :=
  fieldBits (s.rd (Obj.FBC_MAP_BIT_OFF.ij p m)) (s.rd (Obj.FBC_MAP_WIDTH_M1.ij p m) + 1) (s.on (Obj.FBC_MAP_BIG_END.ij p m))

/-- The enabled mappings of a direction that name an index. -/
def State.mapsOf (s : State) (p : Nat) (tx : Bool) (ix : Nat) : List Nat :=
  (List.range 512).filter fun m => s.mapOn p m && s.on (Obj.FBC_MAP_DIR.ij p m) == tx && s.rd (Obj.FBC_MAP_INDEX.ij p m) == ix

/-- Compose a buffer's data from the live values of its mapped points. -/
def State.compose (s : State) (p b : Nat) : State :=
  let d := (s.mapsOf p true b).foldl (fun n m => scatter n (s.mapField p m) (s.pt (s.rd (Obj.FBC_MAP_POINT.ij p m)))) (s.bufData p b)
  let x := s.txReq p b
  (s.putBufData p b d).putTxReq p b
    { x with composed := some d, copy := if s.txState p b = txArbitrating then x.copy else none }

/-- The triggers of an output step that wrote some points (TRIGGER 1 and 2). -/
def State.outputTriggers (s : State) (pts : List Nat) : State :=
  (List.range 24).foldl (fun t p => ((List.range 32).filter fun b => t.bufOn p b).foldl (fun u b =>
    let tr := u.rd (Obj.FBC_TXB_CTRL_TRIGGER.ij p b)
    if (tr = 1 ∨ tr = 2) ∧ (u.mapsOf p true b).any (fun m => pts.contains (u.rd (Obj.FBC_MAP_POINT.ij p m))) then
      let was := (u.txReq p b).composed
      let u1 := u.compose p b
      if tr = 2 ∨ (u1.txReq p b).composed ≠ was then u1.request p b else u1
    else u) t) s

/-- TX_PERIOD_TRIGGER: a floor time that is a multiple of PERIOD ms, with TRIGGER 3. -/
def txPeriodTrigger (p b : Nat) (s : State) : State :=
  if s.bufOn p b && s.rd (Obj.FBC_TXB_CTRL_TRIGGER.ij p b) == 3 && s.floorTime % (s.rd (Obj.FBC_TXB_PERIOD.ij p b) * 1000000) == 0 then
    (s.compose p b).request p b
  else s

def execTxPeriodTrigger (port : Fin 24) (buf : Fin 32) (t : Nat) (s : State) : Host.Outcome State Fault Refusal :=
  .next (txPeriodTrigger port.val buf.val (s.advance t))

/-! ### Error states (R279 to R284) -/

/-- The TOP fields take the highest-priority buffer of a state (R280, R281). -/
def State.recordTop (s : State) (p st cause : Nat) : State :=
  match s.topBuf p (s.bufsIn p st) with
  | some b => s.wrs [(Obj.FBC_TOP_BUF.i p, b), (Obj.FBC_TOP_VALID.i p, 1), (Obj.FBC_TOP_CAUSE.i p, cause),
      (Obj.FBC_TOP_XTD.i p, b2n (s.bufXtd p b)), (Obj.FBC_TOP_OWNER.i p, s.bufOwner p b), (Obj.FBC_TOP_ID.i p, s.bufId p b)]
  | none => s.wrs [(Obj.FBC_TOP_BUF.i p, 0), (Obj.FBC_TOP_VALID.i p, 0), (Obj.FBC_TOP_CAUSE.i p, cause),
      (Obj.FBC_TOP_XTD.i p, 0), (Obj.FBC_TOP_OWNER.i p, 0), (Obj.FBC_TOP_ID.i p, 0)]

/-- Points fed by receive mappings of a port become stale (R274, R281). -/
def State.stalePort (s : State) (p : Nat) : State :=
  ((List.range 512).filter fun m => s.mapOn p m && ! s.on (Obj.FBC_MAP_DIR.ij p m)).foldl
    (fun t m => t.wr (Obj.PIMG_ATTR_STALE.i (s.rd (Obj.FBC_MAP_POINT.ij p m))) 1) s

/-- The error state follows the counters between ERROR_ACTIVE and ERROR_PASSIVE (R280). -/
def State.judgeErrors (s : State) (p : Nat) : State :=
  let hi := decide (128 ≤ s.rd (Obj.FBC_TEC.i p) ∨ 128 ≤ s.rd (Obj.FBC_REC.i p))
  if hi && s.errState p == 0 then
    let s1 := ((s.wr (Obj.FBC_ERR_STATE.i p) 1).recordTop p txPending 0).inc (Obj.FBC_PASSIVE_COUNT.i p)
    (s1.set1 (Obj.FBC_EVT_PASSIVE.i p)).portEvent p 0x0603
  else if ! hi && s.errState p == 1 then (s.wr (Obj.FBC_ERR_STATE.i p) 0).portEvent p 0x0604
  else s

/-- The port enters BUS_OFF (R281, R283): every request left is held. -/
def State.enterBusOff (s : State) (p : Nat) : State :=
  let s1 := (s.bufsIn p txPending ++ s.bufsIn p txArbitrating).foldl (fun t b => t.wr (Obj.FBC_TXB_STATE.ij p b) txHeld) s
  let q := s1.port p
  let recent := s.floorTime :: q.busoffs.filter fun t => decide (s.floorTime < t + 60000000000)
  let lim := s.rd (Obj.FBC_FLT_CFG_BUSOFF_LIMIT.i p)
  let limited := ! s.on (Obj.FBC_FLT_CFG_RECOVERY.i p) && decide (lim ≠ 0 ∧ lim ≤ recent.length)
  let s2 := ((s1.putPort p { q with arb := none, busoffs := recent }).wrs [(Obj.FBC_ERR_STATE.i p, 2),
    (Obj.FBC_BUSOFF_TIME.i p, s.floorTime), (Obj.FBC_RECOVER_WAIT.i p, b2n (limited || s.on (Obj.FBC_FLT_CFG_RECOVERY.i p)))]).recordTop p txHeld 1
  let s3 := (((s2.set1 (Obj.FBC_EVT_BUSOFF.i p)).inc (Obj.FBC_BUSOFF_COUNT.i p)).portEvent p 0x0605).stalePort p
  if limited then s3.portEvent p 0x0607 else s3

/-- Recovery starts (R283). -/
def State.startRecovery (s : State) (p : Nat) : State := s.wrs [(Obj.FBC_ERR_STATE.i p, 3), (Obj.FBC_RECOVER_WAIT.i p, 0)]

/-- RECOVERY_DELAY_EXPIRY. -/
def recoveryDelayExpiry (p : Nat) (s : State) : State :=
  if s.errState p = 2 ∧ ! s.on (Obj.FBC_RECOVER_WAIT.i p) ∧
      s.rd (Obj.FBC_BUSOFF_TIME.i p) + s.rd (Obj.FBC_RECOVER_DELAY.i p) * 1000000 ≤ s.floorTime then s.startRecovery p else s

def execRecoveryDelayExpiry (port : Fin 24) (t : Nat) (s : State) : Host.Outcome State Fault Refusal :=
  .next (recoveryDelayExpiry port.val (s.advance t))

/-- RECOVERY_END (R284). -/
def recoveryEnd (p : Nat) (s : State) : State :=
  if s.errState p = 3 then
    let s1 := s.wrs [(Obj.FBC_TEC.i p, 0), (Obj.FBC_REC.i p, 0), (Obj.FBC_ERR_STATE.i p, 0), (Obj.FBC_RECOVER_TIME.i p, s.floorTime)]
    let s2 := ((s1.set1 (Obj.FBC_EVT_RECOVERED.i p)).portEvent p 0x0606).finish (.recover p) St.ok (le 8 s.floorTime)
    let s3 := (s2.bufsIn p txHeld).foldl (fun t b => (t.putTxReq p b { (t.txReq p b) with failures := 0, copy := none }).wrs
      [(Obj.FBC_TXB_STATE.ij p b, txPending), (Obj.FBC_TXB_ATTEMPTS.ij p b, 0)]) s2
    s3.select p
  else s

def execRecoveryEnd (port : Fin 24) (t : Nat) (s : State) : Host.Outcome State Fault Refusal :=
  .next (recoveryEnd port.val (s.advance t))

/-! ### Attempts (R265, R268, R297) -/

/-- Whether the mode in force for a buffer is one-shot, and its retry limit. -/
def State.oneShot (s : State) (p b : Nat) : Bool :=
  let o := s.rd (Obj.FBC_TXB_CTRL_RETRY_OVR.ij p b)
  if o = 0 then s.on (Obj.FBC_CFG_RETRY_MODE.i p) else o == 2

def State.retryLimit (s : State) (p b : Nat) : Nat :=
  let l := s.rd (Obj.FBC_TXB_CTRL_RETRY_LIMIT.ij p b)
  if l = 0 then s.rd (Obj.FBC_CFG_RETRY_LIMIT.i p) else l

/-- The instant of an attempt's start of frame: the commands do not carry it, so it is free between the selection and
now (log 16). -/
def State.sofOf (s : State) (p b : Nat) : Nat × State :=
  let (n, s1) := s.draw
  let a := (s.txReq p b).selected
  (a + n % (s.floorTime - a + 1), s1)

/-- CAN_TX_SUCCESS: the attempt in progress succeeds (R266, R272). -/
def canTxSuccess (p : Nat) (s : State) : State :=
  match (s.port p).arb with
  | none => s
  | some b =>
    let (sof, s1) := s.sofOf p b
    let f := (s.txReq p b).copy.getD (s.bufFrame p b)
    let s2 := s1.wrs [(Obj.FBC_TXB_STAMP.ij p b, sof / 1000 % 2 ^ 32), (Obj.FBC_TXB_EPOCH_LO.ij p b, sof / 4294967296000 % 2 ^ 16),
      (Obj.FBC_TEC.i p, s.rd (Obj.FBC_TEC.i p) - 1)]
    let s3 := (((s2.inc (Obj.FBC_TX_FRAMES.i p)).perf 9 0x01 (s.bufOwner p b)).emit (.can p { f with sof := sof })).endTx p b txSent 0
    (s3.judgeErrors p).select p

def execCanTxSuccess (port : Fin 24) (t : Nat) (s : State) : Host.Outcome State Fault Refusal :=
  .next (canTxSuccess port.val (s.advance t))

/-- What a failed attempt does to its request: it ends, or it stays for another attempt. -/
def State.attemptFailed (s : State) (p b err : Nat) (suspect off : Bool) : State :=
  let x := s.txReq p b
  let n := x.failures + 1
  if s.oneShot p b then s.endTx p b txFailed (if suspect then 6 else if off then 7 else err) suspect
  else if s.retryLimit p b < n then s.endTx p b txFailed (if suspect then 6 else err) suspect
  else if x.cancel then s.endTx p b txCancelled err
  else
    let q := s.port p
    let s1 := (((s.putPort p { q with arb := none }).putTxReq p b { x with failures := n }).wr (Obj.FBC_TXB_STATE.ij p b) txPending).wr
      (Obj.FBC_TXB_LAST_ERR.ij p b) err
    if suspect && off then s1.collision p b else s1

/-- CAN_TX_ERROR: the attempt in progress fails (R265, R279, R281, R286). -/
def canTxError (p : Nat) (ev : TxError) (s : State) : State :=
  match (s.port p).arb with
  | none => s
  | some b =>
    let tec := s.rd (Obj.FBC_TEC.i p) + (if ev.noTecChange then 0 else 8)
    let off := decide (255 < tec)
    let s0 := ((s.inc (Obj.FBC_ERR_FRAMES.i p)).perf 9 0x03 (s.bufOwner p b)).perf 9 0x04 vendorTag
    let s1 := s0.wr (Obj.FBC_TEC.i p) (min tec 256)
    let s2 := s1.attemptFailed p b ev.err.val ev.collision off
    if off then s2.enterBusOff p else (s2.judgeErrors p).select p

def execCanTxError (port : Fin 24) (ev : TxError) (t : Nat) (s : State) : Host.Outcome State Fault Refusal :=
  .next (canTxError port.val ev (s.advance t))

/-- CAN_ARB_LOST: no failure; a one-shot request ends (R265). -/
def canArbLost (p : Nat) (s : State) : State :=
  match (s.port p).arb with
  | none => s
  | some b =>
    let s1 := (s.inc (Obj.FBC_ARB_LOST.i p)).perf 9 0x02 (s.bufOwner p b)
    let q := s1.port p
    if s.oneShot p b then s1.endTx p b txArbLost 0
    else if (s.txReq p b).cancel then s1.endTx p b txCancelled 0
    else (s1.putPort p { q with arb := none }).wr (Obj.FBC_TXB_STATE.ij p b) txPending

def execCanArbLost (port : Fin 24) (t : Nat) (s : State) : Host.Outcome State Fault Refusal :=
  .next (canArbLost port.val (s.advance t))

/-! ### Reception (R269 to R271, R292) -/

/-- The configuration a frame meets: the old bank for a start of frame before the last Castling (R116). -/
def State.bankAt (s : State) (sof : Nat) : State :=
  match s.fbc.old with
  | some (tc, cells) => if sof < tc then { s with regs := cells } else s
  | none => s

/-- The first enabled filter of a compartment that matches. -/
def State.filterOf (s : State) (p c : Nat) (f : CanFrame) : Option Nat :=
  (List.range 64).find? fun k => s.on (Obj.FBC_FLT_ENABLE.ij p k) && s.rd (Obj.FBC_FLT_OWNER.ij p k) == c &&
    s.on (Obj.FBC_FLT_XTD.ij p k) == f.xtd && ((f.id.toNat ^^^ s.rd (Obj.FBC_FLT_ID.ij p k)) &&& s.rd (Obj.FBC_FLT_MASK.ij p k)) == 0

/-- Write an element to a FIFO (R271): `size` and `mode` are those of the bank in question. -/
def State.toFifo (s : State) (p k size c : Nat) (overwrite : Bool) (e : CanElem) : State :=
  let q := s.port p
  let l := q.fifos.get [] k
  let seq := (q.seqs.get 0 k + 1) % 65536
  let e1 := { e with seq := seq }
  let full := decide (size ≤ l.length)
  let l1 := if ! full then l ++ [e1] else if overwrite then l.drop 1 ++ [e1] else l
  let s1 := (s.putPort p { q with fifos := q.fifos.put k l1, seqs := q.seqs.put k seq }).wr (Obj.FBC_FIFO_FILL.ij p k) l1.length
  if full then ((s1.inc (Obj.FBC_FIFO_LOST.ij p k)).set1 (Obj.FBC_FIFO_EVT_OVERRUN.ij p k)).perf 9 0x07 c else s1

/-- The 64-bit value a receive mapping takes from a frame's data (R270). -/
def State.mapTake (v : State) (p m data : Nat) : Nat :=
  let w := v.rd (Obj.FBC_MAP_WIDTH_M1.ij p m) + 1
  let x := gather data (v.mapField p m)
  if v.on (Obj.FBC_MAP_SIGNED.ij p m) then uns 64 (sgn w x) else x

/-- Apply the receive mappings of a filter, all points in one step (R122, R269). -/
def State.applyRxMaps (s v : State) (p k c : Nat) (f : CanFrame) : State :=
  if f.rtr then s
  else
    let ms := v.mapsOf p false k
    let fits := fun m => decide (v.rd (Obj.FBC_MAP_BIT_OFF.ij p m) + v.rd (Obj.FBC_MAP_WIDTH_M1.ij p m) + 1 ≤ 8 * f.data.length)
    let good := ms.filter fits
    let s1 := ((s.inc (Obj.FBC_MAP_SHORT.i p) (ms.length - good.length)).perf 9 0x08 c good.length).pimgWrite
      (good.map fun m => PtWrite.whole (v.rd (Obj.FBC_MAP_POINT.ij p m)) (v.mapTake p m (unle f.data)))
    good.foldl (fun t m => t.wr (Obj.PIMG_ATTR_STALE.i (v.rd (Obj.FBC_MAP_POINT.ij p m))) 0) s1

/-- A rate limit of one record per second. -/
def within1s (last : Option Nat) (now : Nat) : Bool := last.any fun t => decide (now < t + 1000000000)

/-- A frame no range holds (R292). -/
def State.unbound (s : State) (p : Nat) (f : CanFrame) : State :=
  let s1 := ((s.inc (Obj.FBC_FW_RX_UNBOUND.i p)).set1 (Obj.FBC_FEVT_FW.i p)).perf 9 0x06 vendorTag
  let q := s1.port p
  if within1s q.fwLogAt s.floorTime then s1
  else (s1.putPort p { q with fwLogAt := some s.floorTime }).log 0 0x0609 (le 1 p ++ le 3 0 ++ le 4 f.id.toNat)

/-- REC after a valid frame (ISO 11898-1): one less, or from above 127 to between 119 and 127, which is left free. -/
def State.goodRx (s : State) (p : Nat) : State :=
  let r := s.rd (Obj.FBC_REC.i p)
  if s.portState p = portListening then s
  else if r > 127 then
    let (n, s1) := s.draw
    s1.wr (Obj.FBC_REC.i p) (119 + n % 9)
  else s.wr (Obj.FBC_REC.i p) (r - 1)

/-- The bystander count restarts on a valid frame with its identifier (R288). -/
def State.quiet (s : State) (p : Nat) (f : CanFrame) : State :=
  let q := s.port p
  if q.disturbed = some (f.id.toNat, f.xtd) then s.putPort p { q with count := 0 } else s

/-- Deliver a bound frame through the filters of its compartment (R269). -/
def State.deliver (s v : State) (p c : Nat) (f : CanFrame) : State :=
  match v.filterOf p c f with
  | none => s.inc (Obj.FBC_RX_NOMATCH.i p)
  | some k =>
    let s1 := s.inc (Obj.FBC_FLT_HITS.ij p k)
    let n := v.rd (Obj.FBC_FLT_FIFO.ij p k)
    let e : CanElem := {
      id := f.id.toNat, xtd := f.xtd, dlc := f.dlc.val, fdf := f.fdf, brs := f.brs, esi := f.esi, rtr := f.rtr,
      filter := k, stamp := f.sof / 1000 % 2 ^ 32, epoch := f.sof / 4294967296000 % 2 ^ 32, seq := 0, data := f.data }
    let s2 := if v.on (Obj.FBC_FLT_TO_FIFO.ij p k) then
        s1.toFifo p n (v.rd (Obj.FBC_FIFO_SIZE.ij p n)) c (v.on (Obj.FBC_FIFO_MODE.ij p n)) e else s1
    if v.on (Obj.FBC_FLT_TO_MAP.ij p k) then s2.applyRxMaps v p k c f else s2

/-- CAN_RX_FRAME (R269): a frame becomes valid. Its data is what its DLC gives. -/
def canRxFrame (p : Nat) (fr : CanFrame) (s : State) : State :=
  if ! s.onBus p || (fr.fdf && ! s.on (Obj.FBC_CFG_FD_EN.i p)) then s
  else
    let len := if fr.rtr then 0 else dlcLen fr.fdf fr.dlc.val
    let f := { fr with data := le len (unle fr.data), id := if fr.xtd then fr.id else BitVec.ofNat 29 (fr.id.toNat % 2 ^ 11) }
    let v := s.bankAt f.sof
    let s1 := (((s.inc (Obj.FBC_RX_FRAMES.i p)).goodRx p).quiet p f).judgeErrors p
    let s2 := match v.rangeOf p f.id.toNat f.xtd with
      | none => (s1.perf 9 0x00 vendorTag).unbound p f
      | some r =>
        let c := v.rd (Obj.FBC_RNG_OWNER.ij p r)
        ((s1.inc (Obj.FBC_RNG_HITS.ij p r)).perf 9 0x00 c).deliver v p c f
    s2.select p

def execCanRxFrame (port : Fin 24) (fr : CanFrame) (t : Nat) (s : State) : Host.Outcome State Fault Refusal :=
  .next (canRxFrame port.val fr (s.advance t))

/-- The bystander count of an error whose identifier was already read (R288). -/
def State.disturb (s : State) (p : Nat) (id : Nat) (xtd : Bool) : State :=
  let q := s.port p
  let n := if q.disturbed = some (id, xtd) then q.count + 1 else 1
  let s1 := s.putPort p { q with disturbed := some (id, xtd), count := n }
  let lim := s.rd (Obj.FBC_FLT_CFG_DISTURB_LIMIT.i p)
  if lim = 0 ∨ n < lim then s1
  else
    let s2 := if n = lim then s1.inc (Obj.FBC_DISTURBS.i p) else s1
    let s3 := (s2.wrs [(Obj.FBC_DIST_LAST_ID.i p, id), (Obj.FBC_DIST_LAST_XTD.i p, b2n xtd),
      (Obj.FBC_DIST_LAST_COUNT.i p, min n 255)]).set1 (Obj.FBC_FEVT_DISTURB.i p)
    let q1 := s3.port p
    if within1s q1.distLogAt s.floorTime then s3
    else
      let o := match s.rangeOf p id xtd with
        | some r => s.rd (Obj.FBC_RNG_OWNER.ij p r)
        | none => 0
      (s3.putPort p { q1 with distLogAt := some s.floorTime }).logAll (if o = 0 then [0] else [0, o]) 0x0608
        (le 1 p ++ le 1 (b2n xtd) ++ le 2 0 ++ le 4 id ++ le 1 (min n 255))

/-- CAN_RX_ERROR: the port detects an error as a receiver; REC changes as ISO 11898-1 gives, not with LISTEN (R256). -/
def canRxError (p : Nat) (ev : RxError) (s : State) : State :=
  if ! s.onBus p then s
  else
    let s1 := (s.inc (Obj.FBC_ERR_FRAMES.i p)).perf 9 0x04 vendorTag
    let s2 := if s.portState p = portListening then s1
      else s1.wr (Obj.FBC_REC.i p) (min 255 (s.rd (Obj.FBC_REC.i p) + 1 + (if ev.dominantAfterFlag then 8 else 0)))
    let s3 := match ev.id with
      | some (id, xtd) => s2.disturb p id.toNat xtd
      | none => s2
    (s3.judgeErrors p).select p

def execCanRxError (port : Fin 24) (ev : RxError) (t : Nat) (s : State) : Host.Outcome State Fault Refusal :=
  .next (canRxError port.val ev (s.advance t))

/-- PROTOCOL_EXCEPTION (R255): with PXE the port sends no flag, counts no error, and integrates again. -/
def protocolException (p : Nat) (s : State) : State :=
  if s.onBus p && s.on (Obj.FBC_CFG_PXE.i p) then s.wr (Obj.FBC_STATE.i p) portIntegrating else s

def execProtocolException (port : Fin 24) (t : Nat) (s : State) : Host.Outcome State Fault Refusal :=
  .next (protocolException port.val (s.advance t))

/-- BUS_INTEGRATION (R275): 11 recessive bits; the port runs, or listens (R256). -/
def busIntegration (p : Nat) (s : State) : State :=
  if s.portState p = portIntegrating then
    (s.wr (Obj.FBC_STATE.i p) (if s.on (Obj.FBC_CFG_LISTEN.i p) then portListening else portRunning)).select p
  else s

def execBusIntegration (port : Fin 24) (t : Nat) (s : State) : Host.Outcome State Fault Refusal :=
  .next (busIntegration port.val (s.advance t))

/-! ### FIFOs -/

/-- Remove elements from the head of a FIFO (R271). -/
def State.popFifo (s : State) (p k n : Nat) : State :=
  let q := s.port p
  let l := (q.fifos.get [] k).drop n
  (s.putPort p { q with fifos := q.fifos.put k l }).wr (Obj.FBC_FIFO_FILL.ij p k) l.length

def fifoAddr (p k off : Nat) : Nat := 0x808000 + 0x10000 * p + 0x40 * k + off

/-- FIFO_POP: a write of POP by a requester that sees the FIFO. -/
def fifoPop (who : Requester) (p k n : Nat) (s : State) : State :=
  if s.live who && s.reaches (s.compOf who) (fifoAddr p k 0xC) then s.popFifo p k n else s

def execFifoPop (who : Requester) (port : Fin 24) (k : Fin 8) (n : BitVec 7) (t : Nat) (s : State) : Host.Outcome State Fault Refusal :=
  .next (fifoPop who port.val k.val n.toNat (s.advance t))

/-- The 80 bytes of an element (Table 10-12). -/
def CanElem.bytes (e : CanElem) : Bytes :=
  le 4 (e.id + 2 ^ 29 * b2n e.xtd) ++
  le 4 (e.dlc + 16 * b2n e.fdf + 32 * b2n e.brs + 64 * b2n e.esi + 128 * b2n e.rtr + 256 * e.filter + 32768) ++
  le 4 e.stamp ++ le 4 (e.epoch % 65536 + 65536 * e.seq) ++ le 64 (unle e.data)

/-! ### Running, sleeping and waking (R274 to R276) -/

/-- A port leaves the bus: every request ends CANCELLED with LAST_ERR 5, its points become stale (R275, R297). -/
def State.stopPort (s : State) (p st : Nat) : State :=
  if s.portState p = portOff ∨ s.portState p = portAsleep then s.wr (Obj.FBC_STATE.i p) st
  else
    let l := s.bufsIn p txPending ++ s.bufsIn p txArbitrating ++ s.bufsIn p txHeld
    let s1 := l.foldl (fun t b => (t.putTxReq p b { (t.txReq p b) with again := false }).endTx p b txCancelled 5) s
    (s1.wrs [(Obj.FBC_STATE.i p, st), (Obj.FBC_RECOVER_WAIT.i p, 0)]).stalePort p

/-- A port starts running: it integrates, error-active, with both counters 0 (R275, R279). -/
def State.startPort (s : State) (p : Nat) : State :=
  if s.portState p = portOff ∨ s.portState p = portAsleep then
    s.wrs [(Obj.FBC_STATE.i p, portIntegrating), (Obj.FBC_ERR_STATE.i p, 0), (Obj.FBC_TEC.i p, 0), (Obj.FBC_REC.i p, 0)]
  else s

/-- What a port does in the present mode (Table 10-7, Table 2-7). -/
def State.placePort (s : State) (p : Nat) : State :=
  let m := s.mode
  if s.failed 3 || ! s.on (Obj.FBC_CFG_ENABLE.i p) then s.stopPort p portOff
  else if decide (5 ≤ m ∧ m ≤ 9) || (m == 2 && bit (s.rd Obj.PWR_WATCH_PORTS.f) p) then s.startPort p
  else if m = 1 ∨ m = 2 then s.stopPort p portAsleep
  else if m = 10 then s
  else s.stopPort p portOff

/-- Every port, after a change of mode, configuration or unit failure; FIFO contents are lost in M1 and below (R275). -/
def State.placePorts (s : State) : State :=
  let s1 := (List.range 24).foldl State.placePort s
  if s.mode ≤ 1 then
    (List.range 24).foldl (fun t p => (List.range 8).foldl (fun u k =>
      if (u.port p).fifos.get [] k = [] then u else u.popFifo p k 80) t) s1
  else s1

/-- CAN_WAKE_PATTERN (R276): a wake-up pattern on a sleeping port whose wake detection is on. -/
def canWakePattern (p : Nat) (s : State) : State :=
  if s.portState p = portAsleep ∧ bit (s.rd Obj.PWR_WAKE_CAN_EN.f) p then
    let s1 := (s.set1 (Obj.FBC_EVT_WAKE.i p)).wake (0x10 + p)
    if s.mode = 2 then s1.startPort p else s1
  else s

def execCanWakePattern (port : Fin 24) (t : Nat) (s : State) : Host.Outcome State Fault Refusal :=
  .next (canWakePattern port.val (s.advance t))

/-! ### Commands (Tables 10-8, 11-6) -/

/-- CMD_BUS_TX_SEND (R277, R282): data is written at once, then requested; bytes beyond the DLC's length are 0. -/
def busTxSend (q : Req) (s : State) : State × Reply :=
  let p := field q.payload 0 1
  let b := field q.payload 1 1
  let dlc := field q.payload 2 1
  let data := q.payload.drop 4
  if ! permitted .all m5to9 q s then (s, .no St.notPermitted)
  else if q.payload.length < 4 ∨ 68 < q.payload.length ∨ 31 < b ∨ 15 < dlc then (s, .no St.badPayload)
  else if 23 < p ∨ ! s.reaches q.comp (bufAddr p b 0x10) then (s, .no St.noObject)
  else if s.failed 3 then (s, .no St.unitFailed)
  else if ! s.bufOn p b then (s, .no St.badValue)
  else
    let n := dlcLen (s.on (Obj.FBC_TXB_FRAME_FDF.ij p b)) dlc
    let s1 := (s.wr (Obj.FBC_TXB_FRAME_DLC.ij p b) dlc).putBufData p b (unle (data.take n))
    if s1.portState p = portOff ∨ s1.portState p = portAsleep then
      let s2 := s1.request p b
      (s2, .ok (s2.txPayload p b))
    else
      let w := Wait.busTx p (if s1.txState p b = txArbitrating then b + 32 else b)
      (s1, .pending w)

/-- The request follows the PENDING response, so that its end finds the request waiting. -/
def execCmdBusTxSend (f : Frame) (s : State) : Host.Outcome State Fault Refusal :=
  let n := s.waiters.length
  match command 0x0601 busTxSend f s (cancellable := true) with
  | .next s1 =>
    if s1.waiters.length > n then
      match s1.waiters.getLast? with
      | some w => match w.wait with
        | .busTx p b => .next (s1.request p (b % 32))
        | _ => .next s1
      | none => .next s1
    else .next s1
  | o => o

/-- CMD_BUS_RX_READ: reads and removes elements in one step (R277). -/
def busRxRead (q : Req) (s : State) : State × Reply :=
  let p := field q.payload 0 1
  let k := field q.payload 1 1
  let n := field q.payload 2 1
  if ! permitted .all m5to9 q s then (s, .no St.notPermitted)
  else if q.payload.length ≠ 4 ∨ 7 < k ∨ n < 1 ∨ 80 < n then (s, .no St.badPayload)
  else if 23 < p ∨ ! s.reaches q.comp (fifoAddr p k 0) then (s, .no St.noObject)
  else if s.failed 3 then (s, .no St.unitFailed)
  else
    let l := ((s.port p).fifos.get [] k).take n
    (s.popFifo p k l.length, .ok (le 1 l.length ++ le 3 0 ++ l.flatMap CanElem.bytes))

def execCmdBusRxRead (f : Frame) (s : State) : Host.Outcome State Fault Refusal := command 0x0602 busRxRead f s (removes := true)

/-- CMD_BUS_TX_CANCEL (R268). -/
def busTxCancel (q : Req) (s : State) : State × Reply :=
  let p := field q.payload 0 1
  let b := field q.payload 1 1
  if ! permitted .all m5to9 q s then (s, .no St.notPermitted)
  else if q.payload.length ≠ 4 ∨ 31 < b then (s, .no St.badPayload)
  else if 23 < p ∨ ! s.reaches q.comp (bufAddr p b 0x50) then (s, .no St.noObject)
  else if s.failed 3 then (s, .no St.unitFailed)
  else
    let s1 := (s.cancelTx p b).select p
    (s1, .ok (le 1 (s1.txState p b) ++ le 3 0))

def execCmdBusTxCancel (f : Frame) (s : State) : Host.Outcome State Fault Refusal := command 0x0603 busTxCancel f s

/-- CMD_BUS_RECOVER (R295). -/
def busRecover (q : Req) (s : State) : State × Reply :=
  let p := field q.payload 0 1
  if ! permitted .owner m5to9 q s then (s, .no St.notPermitted)
  else if q.payload.length ≠ 4 then (s, .no St.badPayload)
  else if 23 < p then (s, .no St.noObject)
  else if s.failed 3 then (s, .no St.unitFailed)
  else if s.errState p ≤ 1 then (s, .check 0x0610)
  else (if s.errState p = 2 then s.startRecovery p else s, .pending (.recover p))

def execCmdBusRecover (f : Frame) (s : State) : Host.Outcome State Fault Refusal := command 0x0604 busRecover f s

/-- CMD_BUS_RANGE_LIST (R295): the requester's own ranges in force, in entry order. -/
def busRangeList (q : Req) (s : State) : State × Reply :=
  let p := field q.payload 0 1
  if ! permitted .all m5to9 q s then (s, .no St.notPermitted)
  else if q.payload.length ≠ 4 then (s, .no St.badPayload)
  else if 23 < p ∨ (q.comp ≠ 0 ∧ ! s.ownsRange p q.comp) then (s, .no St.noObject)
  else
    let l := (List.range 16).filter fun r => s.on (Obj.FBC_RNG_ENABLE.ij p r) && s.rd (Obj.FBC_RNG_OWNER.ij p r) == q.comp
    (s, .ok (le 1 l.length ++ le 3 0 ++ l.flatMap fun r =>
      le 4 (s.rd (Obj.FBC_RNG_LOW.ij p r)) ++ le 4 (s.rd (Obj.FBC_RNG_HIGH.ij p r)) ++ le 4 (s.rd (Obj.FBC_RNG_XTD.ij p r))))

def execCmdBusRangeList (f : Frame) (s : State) : Host.Outcome State Fault Refusal :=
  command 0x0605 busRangeList f s (cancellable := true) (rereads := true)

end Sys2Proof.Machine
end

