-- ==== Sys2Proof/Machine/SoftFloat.lean ====
section
/-!
DEFINITION. IEEE 754 binary32 and binary64 on their bit patterns, rounding to nearest, ties to even, with subnormals
and the canonical quiet NaN (spec/06 R152). Every finite value is an exact integer times a power of two; only `pack`
rounds.
-/
namespace Sys2Proof.Machine

/-- A binary format: precision in bits, width of the exponent field. -/
structure Fmt where
  p : Nat
  ew : Nat
  deriving DecidableEq, Repr

def f32 : Fmt := ⟨24, 8⟩
def f64 : Fmt := ⟨53, 11⟩

/-- The exponent of the least bit of a subnormal. -/
def Fmt.emin (f : Fmt) : Int := 3 - 2 ^ (f.ew - 1) - f.p

/-- The bit pattern of infinity, without sign. -/
def Fmt.inf (f : Fmt) : Nat := (2 ^ f.ew - 1) * 2 ^ (f.p - 1)

/-- The weight of the sign bit. -/
def Fmt.signBit (f : Fmt) : Nat := 2 ^ (f.ew + f.p - 1)

/-- The canonical quiet NaN: 0x7FC0_0000, 0x7FF8_0000_0000_0000 (R152). -/
def Fmt.nan (f : Fmt) : Nat := f.inf + 2 ^ (f.p - 2)

/-- A datum: NaN, a signed infinity, or a signed integer times a power of two. -/
inductive Fp where
  | nan
  | inf (neg : Bool)
  | fin (neg : Bool) (m : Nat) (e : Int)
  deriving DecidableEq, Repr

/-- Read a bit pattern. -/
def Fmt.unpack (f : Fmt) (b : Nat) : Fp :=
  let neg := b / f.signBit % 2 == 1
  let mag := b % f.signBit
  let ex := mag / 2 ^ (f.p - 1)
  let fr := mag % 2 ^ (f.p - 1)
  if ex = 2 ^ f.ew - 1 then if fr = 0 then .inf neg else .nan
  else if ex = 0 then .fin neg fr f.emin
  else .fin neg (fr + 2 ^ (f.p - 1)) (f.emin + (ex - 1 : Nat))

/-- `m / 2^k` rounded to nearest, ties to even. -/
def roundShift (m k : Nat) : Nat :=
  let q := m / 2 ^ k
  let r := m % 2 ^ k
  if 2 * r > 2 ^ k ∨ (2 * r = 2 ^ k ∧ q % 2 = 1) then q + 1 else q

/-- The bit pattern nearest to `m · 2^e`, ties to even; overflow gives infinity. -/
def Fmt.pack (f : Fmt) (neg : Bool) (m : Nat) (e : Int) : Nat :=
  let s := if neg then f.signBit else 0
  if m = 0 then s
  else
    let q := max (e + (Nat.log2 m + 1 : Nat) - f.p) f.emin
    let sh := q - e
    let m' := if sh ≤ 0 then m * 2 ^ (-sh).toNat else roundShift m sh.toNat
    s + min ((q - f.emin).toNat * 2 ^ (f.p - 1) + m') f.inf

/-- The bit pattern of a datum. -/
def Fmt.bits (f : Fmt) : Fp → Nat
  | .nan => f.nan
  | .inf neg => (if neg then f.signBit else 0) + f.inf
  | .fin neg m e => f.pack neg m e

/-- A finite datum as a signed integer at exponent `e0`, which is not above its own. -/
def scaled (neg : Bool) (m : Nat) (e e0 : Int) : Int :=
  let v : Int := m * 2 ^ (e - e0).toNat
  if neg then -v else v

def Fp.add : Fp → Fp → Fp
  | .nan, _ => .nan
  | _, .nan => .nan
  | .inf a, .inf b => if a = b then .inf a else .nan
  | .inf a, _ => .inf a
  | _, .inf b => .inf b
  | .fin a m e, .fin b n g =>
    let e0 := min e g
    let v := scaled a m e e0 + scaled b n g e0
    if v = 0 then .fin (a && b) 0 0 else .fin (decide (v < 0)) v.natAbs e0

def Fp.neg : Fp → Fp
  | .nan => .nan
  | .inf a => .inf (!a)
  | .fin a m e => .fin (!a) m e

def Fp.isZero : Fp → Bool
  | .fin _ m _ => m == 0
  | _ => false

def Fp.mul : Fp → Fp → Fp
  | .nan, _ => .nan
  | _, .nan => .nan
  | .inf a, .inf b => .inf (a != b)
  | .inf a, .fin b n _ => if n = 0 then .nan else .inf (a != b)
  | .fin a m _, .inf b => if m = 0 then .nan else .inf (a != b)
  | .fin a m e, .fin b n g => .fin (a != b) (m * n) (e + g)

/-- Quotient with a sticky bit below `p + 3` bits, so that `pack` rounds as the exact quotient would. -/
def Fp.div (p : Nat) : Fp → Fp → Fp
  | .nan, _ => .nan
  | _, .nan => .nan
  | .inf _, .inf _ => .nan
  | .inf a, .fin b _ _ => .inf (a != b)
  | .fin a _ _, .inf b => .fin (a != b) 0 0
  | .fin a m e, .fin b n g =>
    if n = 0 then if m = 0 then .nan else .inf (a != b)
    else
      let k := p + 3 + Nat.log2 n
      let q := m * 2 ^ k / n
      .fin (a != b) (2 * q + (if m * 2 ^ k % n = 0 then 0 else 1)) (e - g - k - 1)

/-- The integer square root of `n`, found bit by bit from bit `b - 1` down. -/
def isqrt (n : Nat) : Nat → Nat → Nat
  | 0, r => r
  | b + 1, r => if (r + 2 ^ b) * (r + 2 ^ b) ≤ n then isqrt n b (r + 2 ^ b) else isqrt n b r

def Fp.sqrt (p : Nat) : Fp → Fp
  | .nan => .nan
  | .inf a => if a then .nan else .inf false
  | .fin a m e =>
    if m = 0 then .fin a 0 0
    else if a then .nan
    else
      let k0 := 2 * p + 6
      let k := if (e - k0) % 2 = 0 then k0 else k0 + 1
      let n := m * 2 ^ k
      let r := isqrt n ((Nat.log2 n) / 2 + 1) 0
      .fin false (2 * r + (if r * r = n then 0 else 1)) ((e - k) / 2 - 1)

/-- The order of two data that are not NaN; both zeros are equal. -/
def Fp.lt : Fp → Fp → Bool
  | .nan, _ => false
  | _, .nan => false
  | .inf a, .inf b => a && !b
  | .inf a, _ => a
  | _, .inf b => !b
  | .fin a m e, .fin b n g => let e0 := min e g; decide (scaled a m e e0 < scaled b n g e0)

def Fp.eq : Fp → Fp → Bool
  | .nan, _ => false
  | _, .nan => false
  | x, y => !(x.lt y) && !(y.lt x)

def Fp.isNan : Fp → Bool
  | .nan => true
  | _ => false

/-- IEEE 754 minimum and maximum: NaN wins, and −0 lies below +0. -/
def Fp.pick (wantMax : Bool) (x y : Fp) : Fp :=
  if x.isNan || y.isNan then .nan
  else if x.lt y then if wantMax then y else x
  else if y.lt x then if wantMax then x else y
  else match x with
    | .fin a _ _ => if a = wantMax then y else x
    | _ => x

/-- Truncation toward zero, saturating between `lo` and `hi`; NaN gives 0 (R152). -/
def Fp.toInt (lo hi : Int) : Fp → Int
  | .nan => 0
  | .inf a => if a then lo else hi
  | .fin a m e =>
    let v : Int := if 0 ≤ e then m * 2 ^ e.toNat else (m / 2 ^ (-e).toNat : Nat)
    max lo (min hi (if a then -v else v))

/-- An integer as an exact datum. -/
def Fp.ofInt (v : Int) : Fp := .fin (decide (v < 0)) v.natAbs 0

/-! ### The operations of Tables 6-4 and 6-5 on bit patterns -/

def Fmt.fadd (f : Fmt) (a b : Nat) : Nat := f.bits ((f.unpack a).add (f.unpack b))
def Fmt.fsub (f : Fmt) (a b : Nat) : Nat := f.bits ((f.unpack a).add (f.unpack b).neg)
def Fmt.fmul (f : Fmt) (a b : Nat) : Nat := f.bits ((f.unpack a).mul (f.unpack b))
def Fmt.fdiv (f : Fmt) (a b : Nat) : Nat := f.bits ((f.unpack a).div f.p (f.unpack b))
def Fmt.fsqrt (f : Fmt) (a : Nat) : Nat := f.bits ((f.unpack a).sqrt f.p)
def Fmt.fmin (f : Fmt) (a b : Nat) : Nat := f.bits ((f.unpack a).pick false (f.unpack b))
def Fmt.fmax (f : Fmt) (a b : Nat) : Nat := f.bits ((f.unpack a).pick true (f.unpack b))

/-- Sign bit cleared; a NaN is kept as it is (Table 6-4). -/
def Fmt.fabs (f : Fmt) (a : Nat) : Nat := if (f.unpack a).isNan then a % (2 * f.signBit) else a % f.signBit

/-- Sign bit inverted; a NaN is kept as it is (Table 6-4). -/
def Fmt.fneg (f : Fmt) (a : Nat) : Nat :=
  if (f.unpack a).isNan then a % (2 * f.signBit) else (a + f.signBit) % (2 * f.signBit)

def Fmt.feq (f : Fmt) (a b : Nat) : Bool := (f.unpack a).eq (f.unpack b)
def Fmt.flt (f : Fmt) (a b : Nat) : Bool := (f.unpack a).lt (f.unpack b)
def Fmt.funord (f : Fmt) (a b : Nat) : Bool := (f.unpack a).isNan || (f.unpack b).isNan
def Fmt.fle (f : Fmt) (a b : Nat) : Bool := !f.funord a b && !f.flt b a

end Sys2Proof.Machine
end

