-- ==== Sys2Proof/Machine/Meter.lean ====
section
/-!
DEFINITION. The metering front end (spec/08): samples, line cycles, correction and accumulation, the voltage events of
spec/09 that a cycle's close decides, calibration captures and waveform recordings.
-/
namespace Sys2Proof.Machine

/-! ### Floor-time differences -/

/-- The time from `a` to `b`, without what floor time was stepped by in between (Table 13-2). -/
def State.span (s : State) (a b : Nat) : Nat :=
  b - a - ((s.mae.steps.filter fun x => decide (a ≤ x.1 ∧ x.1 + x.2 ≤ b)).map (·.2)).foldl (· + ·) 0

/-! ### Binary64 -/

/-- An integer as binary64. -/
def fl (n : Int) : Nat := f64.bits (Fp.ofInt n)

/-- A quotient of integers as binary64, rounded once. -/
def flDiv (a b : Int) : Nat := f64.fdiv (fl a) (fl b)

/-- The integer nearest to a datum, ties to even; NaN and infinities give 0. -/
def Fp.round : Fp → Int
  | .fin a m e =>
    let v : Int := if 0 ≤ e then m * 2 ^ e.toNat else (roundShift m (-e).toNat : Nat)
    if a then -v else v
  | _ => 0

/-- The integer nearest to a binary64 bit pattern. -/
def flRound (b : Nat) : Int := (f64.unpack b).round

/-- An integer result as an unsigned field, saturating (log 15). -/
def flNat (w b : Nat) : Nat := min (flRound b).toNat (2 ^ w - 1)

/-- The sample interval, 125 µs, in seconds. -/
def tsSec : Nat := flDiv 125 1000000

/-! ### The parts of the metering state -/

def State.chan (s : State) (ch : Nat) : MChan := s.mae.chans.get {} ch
def State.putChan (s : State) (ch : Nat) (x : MChan) : State := { s with mae := { s.mae with chans := s.mae.chans.put ch x } }
def State.circ (s : State) (i : Nat) : MCirc := s.mae.circs.get {} i
def State.putCirc (s : State) (i : Nat) (x : MCirc) : State := { s with mae := { s.mae with circs := s.mae.circs.put i x } }
def State.mset (s : State) (v : Nat) : MSet := s.mae.sets.get {} v
def State.putMset (s : State) (v : Nat) (x : MSet) : State := { s with mae := { s.mae with sets := s.mae.sets.put v x } }
def State.pulse (s : State) (n : Nat) : Pulse := s.mae.pulses.get {} n
def State.putPulse (s : State) (n : Nat) (x : Pulse) : State := { s with mae := { s.mae with pulses := s.mae.pulses.put n x } }

def State.setOn (s : State) (v : Nat) : Bool := s.on (Obj.MAE_SET_ENABLE.i v)
def State.chanOn (s : State) (ch : Nat) : Bool := s.on (Obj.MAE_CH_ENABLE.i ch)
def State.circOn (s : State) (i : Nat) : Bool := s.on (Obj.MAE_CIRC_ENABLE.i i)

/-- The enabled channels, and those of a set. -/
def State.chansOn (s : State) : List Nat := (List.range 192).filter s.chanOn
def State.chansOf (s : State) (v : Nat) : List Nat := s.chansOn.filter fun ch => s.rd (Obj.MAE_CH_SET.i ch) == v
def State.circsOn (s : State) : List Nat := (List.range 192).filter s.circOn

/-- Whether acquisition runs (R221). -/
def State.acq (s : State) : Bool := s.on Obj.MAE_STATUS_ACQ.f

/-- The compartments that own an enabled circuit on a set. -/
def State.setOwners (s : State) (v : Nat) : List Nat := s.tenants.filter fun c => s.usesSet c v

/-- The phases a set uses: 1 to 3, or only L1 (R200). -/
def State.phases (s : State) (v : Nat) : List Nat := if s.on (Obj.MAE_SET_WIRING.i v) then [1] else [1, 2, 3]

/-- The frequency by which phase shifts are turned into times: the set's, or the nominal one before it has any. -/
def State.setFreq (s : State) (v : Nat) : Nat :=
  if s.rd (Obj.MAE_SET_FREQ.i v) = 0 then 1000 * s.rd Obj.MAE_F_NOM.f else s.rd (Obj.MAE_SET_FREQ.i v)

/-! ### Samples (R199 to R201, R205, R208) -/

/-- A code at or beyond full scale is held there (R199). -/
def clipCode (c : Int) : Bool := decide (c ≥ 8388607 ∨ c ≤ -8388608)
def holdCode (c : Int) : Int := max (-8388608) (min 8388607 c)

/-- Input `k` (L1, L2, L3, N) of a set, scaled by VGAIN and shifted by VPHASE, with the filter's new memory. -/
def State.voltInput (s : State) (v k : Nat) (code : Int) : Nat × Nat :=
  let u := f64.fmul (Config.inputVolts (4 * v + k) (holdCode code)) (flDiv (s.rd (Obj.MAE_SET_VGAIN.ij v k)) 1073741824)
  Config.voltShift ((s.mset v).shift.getD k 0) (sgn 32 (s.rd (Obj.MAE_SET_VPHASE.ij v k))) (s.setFreq v) u

/-- What one sample instant gives of a set: the four inputs, line-to-neutral voltages and their quadratures of L1 to L3,
whether each input clipped, and the filters' memories. -/
structure VoltSample where
  inputs : List Nat
  v : List Nat
  vq : List Nat
  clips : List Bool
  shift : List Nat
  quad : List Nat
  deriving DecidableEq, Repr

def State.voltSample (s : State) (v : Nat) (codes : List Int) : VoltSample :=
  let code := fun k => codes.getD (4 * v + k) 0
  let x := (List.range 4).map fun k => s.voltInput v k (code k)
  let single := s.on (Obj.MAE_SET_WIRING.i v)
  let ln := (List.range 3).map fun k =>
    if single && k != 0 then 0 else f64.fsub ((x.getD k (0, 0)).1) ((x.getD 3 (0, 0)).1)
  let q := (List.range 3).map fun k => Config.quadrature ((s.mset v).quad.getD k 0) (ln.getD k 0)
  { inputs := x.map (·.1), v := ln, vq := q.map (·.1),
    clips := (List.range 4).map fun k => clipCode (code k) && ! (single && (k == 1 || k == 2)),
    shift := x.map (·.2), quad := q.map (·.2) }

def flSquareAdd (a x : Nat) : Nat := f64.fadd a (f64.fmul x x)

/-- A set takes a sample. -/
def MSet.take (m : MSet) (x : VoltSample) : MSet :=
  let m1 := { m with shift := x.shift, quad := x.quad }
  if m.isOpen then
    { m1 with n := m.n + 1, clip := m.clip || x.clips.any id,
              v2 := (List.range 4).map fun k => flSquareAdd (m.v2.getD k 0) (if k < 3 then x.v.getD k 0 else x.inputs.getD 3 0) }
  else m1

/-- The current of a channel in amperes and its integrator's new memory (R205, R208): In at 333.33 mV for a CT. -/
def State.chanAmps (s : State) (ch : Nat) (code : Int) : Nat × Nat :=
  let u := Config.inputVolts (16 + ch) (holdCode code)
  let r := if s.on (Obj.MAE_CH_TYPE.i ch) then
      Config.integrate (s.chan ch).mem (s.rd (Obj.MAE_CH_ROGO_SENS.i ch)) (s.setFreq (s.rd (Obj.MAE_CH_SET.i ch))) u
    else (f64.fmul u (flDiv (100 * s.rd (Obj.MAE_CH_IN_RATED.i ch)) 33333), (s.chan ch).mem)
  (if s.on (Obj.MAE_CH_INVERT.i ch) then f64.fneg r.1 else r.1, r.2)

/-- One more sample in running sums. -/
def Sums.add (x : Sums) (v vq i : Nat) : Sums :=
  { vi := f64.fadd x.vi (f64.fmul v i), vqi := f64.fadd x.vqi (f64.fmul vq i), i2 := flSquareAdd x.i2 i, v2 := flSquareAdd x.v2 v,
    n := x.n + 1 }

/-- A calibration capture ends in state 4 with its cause (R212). -/
def State.abortCal (s : State) (cause : Nat) : State :=
  if s.rd Obj.MAE_CAL_STATE.f = 1 ∨ s.rd Obj.MAE_CAL_STATE.f = 2 then
    (s.wr Obj.MAE_CAL_STATE.f 4).wr Obj.MAE_CAL_ABORT_CAUSE.f cause
  else s

/-- A running capture takes a sample of its channel; a clip aborts it (R211, R212). -/
def State.calSample (s : State) (v vq i : Nat) (clip : Bool) : State :=
  if s.rd Obj.MAE_CAL_STATE.f ≠ 2 then s
  else if clip then s.abortCal 4
  else
    let x := s.mae.cal.sums
    let s1 := if x.n = 0 then s.wr Obj.MAE_CAL_T_START.f s.floorTime else s
    { s1 with mae := { s1.mae with cal := { s1.mae.cal with sums := x.add v vq i } } }

/-- A channel takes its sample, paired with the voltage of its phase. -/
def State.chanSample (s : State) (codes : List Int) (volts : List VoltSample) (ch : Nat) : State :=
  let x := s.chan ch
  let code := codes.getD (16 + ch) 0
  let a := s.chanAmps ch code
  let w := volts[s.rd (Obj.MAE_CH_SET.i ch)]?
  let k := s.rd (Obj.MAE_CH_PHASE.i ch) - 1
  let v := (w.map (·.v)).getD [] |>.getD k 0
  let vq := (w.map (·.vq)).getD [] |>.getD k 0
  let x1 := { x with mem := a.2 }
  let x2 := if x.isOpen then { x1 with sums := x.sums.add v vq a.1, clip := x.clip || clipCode code } else x1
  let s1 := s.putChan ch x2
  if s.rd Obj.MAE_CAL_CH.f = ch then
    let vc := (w.map (·.clips)).getD []
    s1.calSample v vq a.1 (clipCode code || vc.getD k false || vc.getD 3 false)
  else s1

/-- The eight values of one recorded instant: volts in 10 µV, currents in In / 2^22 (R213). -/
def State.waveRow (s : State) (codes : List Int) (volts : List VoltSample) : List Int :=
  let w := s.mae.wave
  let v := (volts[w.set]?.map (·.inputs)).getD []
  ((List.range 4).map fun k => flRound (f64.fmul (v.getD k 0) (fl 100000))) ++
  w.chans.map fun ch =>
    if ch < 192 then
      let i := (s.chanAmps ch (codes.getD (16 + ch) 0)).1
      flRound (f64.fdiv (f64.fmul i (fl 4194304000)) (fl (s.rd (Obj.MAE_CH_IN_RATED.i ch))))
    else 0

/-- SAMPLE_INSTANT (R201): all converters sample at floor time `t`; without acquisition nothing is sampled. -/
def sampleInstant (codes : List Int) (s : State) : State :=
  if ! s.acq || s.halted 3 then s
  else
    let volts := (List.range 4).map fun v => s.voltSample v codes
    let row := s.waveRow codes volts
    let s1 := (s.inc Obj.MAE_SAMPLE_COUNT.f).wr Obj.MAE_SAMPLE_TIME.f s.floorTime
    let s2 : State := if s.rd Obj.MAE_WAVE_STATE.f = 1 ∧ s.mae.wave.rows.length < 1024 then
        let s3 := if s.mae.wave.rows.isEmpty then s1.wr Obj.MAE_WAVE_T0.f s.floorTime else s1
        { s3 with mae := { s3.mae with wave := { s3.mae.wave with rows := s3.mae.wave.rows ++ [row] } } }
      else s1
    let s4 := s.chansOn.foldl (fun t ch => t.chanSample codes volts ch) s2
    ((List.range 4).filter s.setOn).foldl (fun t v => match volts[v]? with
      | some x => t.putMset v ((t.mset v).take x)
      | none => t) s4

def execSampleInstant (codes : List Int) (t : Nat) (s : State) : Host.Outcome State Fault Refusal :=
  .next (sampleInstant codes (s.advance t))

/-! ### Correction (R209, R210) -/

/-- The end of segment `g` of a channel. -/
def State.segEnd (s : State) (ch g : Nat) : Nat :=
  if g = 0 then s.rd (Obj.MAE_CH_END_SEG_FIRST.i ch) else s.rd (Obj.MAE_CH_END_SEG.ij ch (g - 1))

def State.segGain (s : State) (ch g : Nat) : Nat := flDiv (s.rd (Obj.MAE_CH_GAIN_SEG.ij ch g)) 1073741824
def State.segPhase (s : State) (ch g : Nat) : Nat := fl (sgn 32 (s.rd (Obj.MAE_CH_PHASE_SEG.ij ch g)))

/-- The first segment whose end reaches x; the last one above every end. -/
def State.segOf (s : State) (ch x : Nat) : Nat → Nat → Nat
  | 0, g => g
  | m + 1, g => if f64.fle x (fl (s.segEnd ch g)) then g else if m = 0 then g else s.segOf ch x m (g + 1)

/-- a + f (b − a) -/
def lerp (f a b : Nat) : Nat := f64.fadd a (f64.fmul f (f64.fsub b a))

/-- seg_lookup (R210): segment, gain, phase in µrad. -/
def State.segLookup (s : State) (ch x : Nat) : Nat × Nat × Nat :=
  let n := s.rd (Obj.MAE_CH_SEG_COUNT.i ch)
  let g := s.segOf ch x n 0
  if g = 0 ∨ ! f64.fle x (fl (s.segEnd ch g)) then (g, s.segGain ch g, s.segPhase ch g)
  else
    let e0 := fl (s.segEnd ch (g - 1))
    let f := f64.fdiv (f64.fsub x e0) (f64.fsub (fl (s.segEnd ch g)) e0)
    (g, lerp f (s.segGain ch (g - 1)) (s.segGain ch g), lerp f (s.segPhase ch (g - 1)) (s.segPhase ch g))

/-- Root mean square of a sum of squares over n samples; 0 over none. -/
def flRms (sum n : Nat) : Nat := if n = 0 then 0 else f64.fsqrt (f64.fdiv sum (fl n))

/-- x of R209: raw current in ppm of In. -/
def rawPpm (x : Sums) (inRated : Nat) : Nat := f64.fdiv (f64.fmul (flRms x.i2 x.n) (fl 1000000000)) (fl inRated)

/-- What a channel's cycle leaves: energies in J, their sums' samples, creep and clip. -/
structure Closed where
  ch : Nat
  ep : Nat
  eq : Nat
  n : Nat
  creep : Bool
  clip : Bool
  deriving DecidableEq, Repr

/-- Energy of a cycle from its sums, gain and phase (R209). -/
def cycleEnergy (x : Sums) (g d : Nat) : Nat × Nat :=
  let c := Config.cosMicro d
  let z := Config.sinMicro d
  let k := f64.fmul g tsSec
  (f64.fmul k (f64.fadd (f64.fmul x.vi c) (f64.fmul x.vqi z)), f64.fmul k (f64.fsub (f64.fmul x.vqi c) (f64.fmul x.vi z)))

/-- Energy in accumulator units: round(e · 2^24 / 3.6), ties to even (R223). -/
def accUnits (e : Nat) : Int := flRound (f64.fdiv (f64.fmul e (fl 16777216)) (flDiv 36 10))

/-- Mean power in thousandths of a watt over n samples. -/
def meanMilli (e n : Nat) : Int := if n = 0 then 0 else flRound (f64.fdiv (f64.fmul e (fl 1000)) (f64.fmul (fl n) tsSec))

/-- Add by sign (R223); the accumulators are 96 bits wide. -/
def Acc.add (a : Acc) (p q : Int) : Acc :=
  { imp := (a.imp + p.toNat) % 2 ^ 96, exp := (a.exp + (-p).toNat) % 2 ^ 96,
    ind := (a.ind + q.toNat) % 2 ^ 96, cap := (a.cap + (-q).toNat) % 2 ^ 96 }

/-- Whether a Rogowski channel still settles (R208). -/
def State.settling (s : State) (ch : Nat) : Bool :=
  s.on (Obj.MAE_CH_TYPE.i ch) && decide (s.span (s.chan ch).startAt s.floorTime < 20000000000)

/-- An event of a channel, attributed to the owner of the circuit that names it (Table 19-2). -/
def State.perfChan (s : State) (ev ch : Nat) : State :=
  s.perf 7 ev (match s.circsOn.find? fun i => (s.circChannels i).contains ch with
    | some i => s.rd (Obj.MAE_CIRC_OWNER.i i)
    | none => vendorTag)

/-- Close the cycle of a channel: correction, accumulation, live record (R209, R214, R223). -/
def State.closeChan (s : State) (ch : Nat) (split : Bool) : State × Closed :=
  let m := s.chan ch
  let x := rawPpm m.sums (s.rd (Obj.MAE_CH_IN_RATED.i ch))
  let (seg, g, d) := s.segLookup ch x
  let creep := f64.flt x (fl (s.rd (Obj.MAE_CH_CREEP_PPM.i ch))) || m.sums.n == 0
  let (ep, eq) := if creep then (0, 0) else cycleEnergy m.sums g d
  let m1 := { m with acc := m.acc.add (accUnits ep) (accUnits eq), sums := {}, isOpen := false, split := false, clip := false,
                     cycles := m.cycles + 1, anyCreep := m.anyCreep || creep, anyClip := m.anyClip || m.clip }
  let seq := s.rd (Obj.MAE_CH_LIVE_SEQ.i ch) + 1
  let s1 := (s.putChan ch m1).wrs [(Obj.MAE_CH_LIVE_SEQ_END.i ch, seq),
    (Obj.MAE_CH_IRMS.i ch, flNat 32 (f64.fmul (f64.fmul g (flRms m.sums.i2 m.sums.n)) (fl 1000))),
    (Obj.MAE_CH_IRMS_RAW_PPM.i ch, flNat 32 x),
    (Obj.MAE_CH_P.i ch, sat32 (meanMilli ep m.sums.n)), (Obj.MAE_CH_Q.i ch, sat32 (meanMilli eq m.sums.n)),
    (Obj.MAE_CH_FLAGS_SEG.i ch, seg), (Obj.MAE_CH_FLAGS_CREEP.i ch, b2n creep), (Obj.MAE_CH_FLAGS_CLIP.i ch, b2n m.clip),
    (Obj.MAE_CH_FLAGS_SETTLING.i ch, b2n (s.settling ch)), (Obj.MAE_CH_FLAGS_SPLIT.i ch, b2n (split || m.split)),
    (Obj.MAE_CH_GAIN_USED.i ch, flNat 32 (f64.fmul g (fl 1073741824))), (Obj.MAE_CH_PHASE_USED.i ch, uns 32 (flRound d)),
    (Obj.MAE_CH_VRMS.i ch, flNat 32 (f64.fmul (flRms m.sums.v2 m.sums.n) (fl 1000))), (Obj.MAE_CH_LIVE_SEQ.i ch, seq)]
  let s2 := s1.perfChan 0x01 ch
  let s3 := if creep then s2.perfChan 0x02 ch else s2
  (if m.clip then s3.inc (Obj.MAE_CH_CLIP_COUNT.i ch) else s3, ⟨ch, ep, eq, m.sums.n, creep, m.clip⟩)

/-! ### Circuits and pulses (R224, R241, R243) -/

/-- The owner's and C00's logs. -/
def ownerAnd0 (c : Nat) : List Nat := if c = 0 then [0] else [0, c]

/-- BACKLOG takes a new value; a rise above BACKLOG_LIM is logged once (R243). -/
def State.setBacklog (s : State) (n v : Nat) : State :=
  let p := s.pulse n
  let above := decide (s.rd (Obj.MAE_PULSE_BACKLOG_LIM.i n) < v)
  let s1 := (s.putPulse n { p with above := above }).wr (Obj.MAE_PULSE_BACKLOG.i n) v
  if above && ! p.above then
    (s1.set1 (Obj.MAE_PULSE_EVT_BACKLOG.i n)).logAll (ownerAnd0 (s.rd (Obj.MAE_PULSE_OWNER.i n))) 0x050C (le 1 n ++ le 3 0 ++ le 4 v)
  else s1

/-- The accumulators of a quantity: 0 import, 1 export, 2 inductive, 3 capacitive. -/
def quantity (q : Nat) (p r : Int) : Nat :=
  if q = 0 then p.toNat else if q = 1 then (-p).toNat else if q = 2 then r.toNat else (-r).toNat

/-- An addition to circuit `i` reaches a pulse output that counts it (R241). -/
def State.feedPulse (s : State) (i : Nat) (p q : Int) (n : Nat) : State :=
  if s.on (Obj.MAE_PULSE_ENABLE.i n) && s.rd (Obj.MAE_PULSE_CIRCUIT.i n) == i then
    let x := s.pulse n
    let total := x.residue + quantity (s.rd (Obj.MAE_PULSE_QUANTITY.i n)) p q
    let w := s.rd (Obj.MAE_PULSE_WEIGHT.i n) * 16777216
    let s1 := (s.putPulse n { x with residue := total % w }).wr (Obj.MAE_PULSE_RESIDUE.i n) (total % w / 16777216)
    if total / w = 0 then s1 else s1.setBacklog n (satAdd 32 (s.rd (Obj.MAE_PULSE_BACKLOG.i n)) (total / w))
  else s

/-- A circuit takes the closed cycles of its channels (R224). -/
def State.closeCirc (s : State) (l : List Closed) (i : Nat) : State :=
  let mine := l.filter fun x => (s.circChannels i).contains x.ch
  match mine with
  | [] => s
  | x :: _ =>
    let ep := mine.foldl (fun a y => f64.fadd a y.ep) 0
    let eq := mine.foldl (fun a y => f64.fadd a y.eq) 0
    let p := accUnits ep
    let q := accUnits eq
    let m := s.circ i
    let m1 := { m with acc := m.acc.add p q, cycles := m.cycles + 1, anyCreep := m.anyCreep || mine.any (·.creep),
                       anyClip := m.anyClip || mine.any (·.clip), pMean := meanMilli ep x.n, qMean := meanMilli eq x.n }
    (List.range 8).foldl (fun t n => t.feedPulse i p q n) (s.putCirc i m1)

/-- Close the open cycles of some channels, then their circuits. -/
def State.closeChans (s : State) (l : List Nat) (split : Bool) : State :=
  let r := (l.filter fun ch => (s.chan ch).isOpen).foldl (fun (a : State × List Closed) ch =>
    let b := a.1.closeChan ch split
    (b.1, a.2 ++ [b.2])) (s, [])
  s.circsOn.foldl (fun t i => t.closeCirc r.2 i) r.1

/-! ### Voltage events (R237 to R240) -/

/-- The trigger of a start, its ACT field's bit, EVT field and counter, by kind. -/
def State.setEvent (s : State) (v kind phase : Nat) (on : Bool) : State :=
  let b := phase - 1
  let act := if kind = 1 then Obj.MAE_SET_ACT_SAG.i v else if kind = 2 then Obj.MAE_SET_ACT_SWELL.i v
    else if kind = 3 then Obj.MAE_SET_ACT_LOSS.i v else Obj.MAE_SET_ACT_NMISS.i v
  let bitv := if kind ≤ 3 then 2 ^ b else 1
  let s1 := if kind = 5 then s else s.wr act (if on then s.rd act ||| bitv else nand (s.rd act) bitv)
  s1.set1 ((if kind = 1 then Obj.MAE_SET_EVT_SAG else if kind = 2 then Obj.MAE_SET_EVT_SWELL
    else if kind = 3 then Obj.MAE_SET_EVT_LOSS else if kind = 4 then Obj.MAE_SET_EVT_NMISS else Obj.MAE_SET_EVT_SEQ).i v)

/-- The logs of a voltage event of a set. -/
def State.voltLogs (s : State) (v : Nat) : List Nat := [0, 1] ++ s.setOwners v

/-- The voltage wake cause (R38, R240). -/
def State.lossWake (s : State) (kind : Nat) : State := if kind = 3 && s.mode == 2 && s.wakeEn 5 then s.wake 6 else s

/-- A voltage event starts (R240). -/
def State.startEvent (s : State) (v kind phase extreme : Nat) : State :=
  let m := s.mset v
  let s1 := (s.putMset v { m with events := m.events ++ [⟨kind, phase, s.floorTime, extreme⟩] }).setEvent v kind phase true
  let s2 := if kind = 1 then s1.inc (Obj.MAE_SET_SAG_COUNT.i v) else if kind = 2 then s1.inc (Obj.MAE_SET_SWELL_COUNT.i v)
    else if kind = 3 then s1.inc (Obj.MAE_SET_LOSS_COUNT.i v) else if kind = 4 then s1.inc (Obj.MAE_SET_NMISS_COUNT.i v) else s1
  (s2.logAll (s.voltLogs v) (0x04FF + 2 * kind) (le 1 v ++ le 1 phase ++ le 2 0 ++ le 4 extreme)).lossWake kind

/-- The DETAIL of the end of a voltage event. -/
def endDetail (v : Nat) (e : VoltEvent) (durMs : Nat) : Bytes := le 1 v ++ le 1 e.phase ++ le 2 0 ++ le 4 e.extreme ++ le 4 durMs

/-- Milliseconds of an event that ends now. -/
def State.eventMs (s : State) (e : VoltEvent) : Nat := min (s.span e.start s.floorTime / 1000000) (2 ^ 32 - 1)

/-- The fields of an event that ended. -/
def State.lastEvent (s : State) (v : Nat) (e : VoltEvent) : State :=
  s.wrs [(Obj.MAE_SET_LAST_DURATION.i v, s.eventMs e), (Obj.MAE_SET_LAST_EXTREME.i v, e.extreme),
    (Obj.MAE_SET_LAST_START.i v, e.start), (Obj.MAE_SET_LAST_KIND.i v, e.kind), (Obj.MAE_SET_LAST_PHASE.i v, e.phase)]

/-- Forget an event in progress, and show it as the last. -/
def State.dropEvent (s : State) (v : Nat) (e : VoltEvent) : State :=
  let m := s.mset v
  ((s.putMset v { m with events := m.events.filter fun x => ! (x.kind == e.kind && x.phase == e.phase) }).setEvent v e.kind e.phase
    false).lastEvent v e

/-- A voltage event ends (R240). -/
def State.endEvent (s : State) (v : Nat) (e : VoltEvent) : State :=
  ((s.dropEvent v e).logAll (s.voltLogs v) (0x0500 + 2 * e.kind) (endDetail v e (s.eventMs e))).lossWake e.kind

/-- The event of a kind and phase in progress. -/
def State.eventOf (s : State) (v kind phase : Nat) : Option VoltEvent :=
  (s.mset v).events.find? fun e => e.kind == kind && e.phase == phase

/-- A cycle inside an event moves its extreme value. -/
def State.extend (s : State) (v : Nat) (e : VoltEvent) (mv : Nat) : State :=
  let m := s.mset v
  let x := if e.kind = 2 then max e.extreme mv else min e.extreme mv
  s.putMset v { m with events := m.events.map fun y => if y.kind = e.kind ∧ y.phase = e.phase then { y with extreme := x } else y }

/-- One comparison of a cycle: starts, goes on or ends. -/
def State.judgeEvent (s : State) (v kind phase mv : Nat) (start stop : Bool) : State :=
  match s.eventOf v kind phase with
  | none => if start then s.startEvent v kind phase mv else s
  | some e => if stop then s.endEvent v e else s.extend v e mv

/-- Sag, swell and loss of one phase (R237): thresholds are 0.1 % of UN, and UN is in 0.1 V. -/
def State.judgePhase (s : State) (v phase : Nat) : State :=
  let mv := s.rd (Obj.MAE_SET_VRMS.ij v (phase - 1))
  let un := s.rd (Obj.MAE_SET_UN.i v)
  let lim := fun (r : Row) => s.rd r.f * un
  let s1 := s.judgeEvent v 1 phase mv (10 * mv < lim Obj.MAE_SAG_START) (lim Obj.MAE_SAG_END ≤ 10 * mv)
  let s2 := s1.judgeEvent v 2 phase mv (lim Obj.MAE_SWELL_START < 10 * mv) (10 * mv ≤ lim Obj.MAE_SWELL_END)
  s2.judgeEvent v 3 phase mv (10 * mv < lim Obj.MAE_LOSS_START) (lim Obj.MAE_LOSS_END ≤ 10 * mv)

/-- The conditions of a missing neutral in the last cycle (R238). -/
def State.neutralMissing (s : State) (v : Nat) : Bool :=
  let un := s.rd (Obj.MAE_SET_UN.i v)
  let ph := (s.phases v).map fun p => s.rd (Obj.MAE_SET_VRMS.ij v (p - 1))
  decide (s.rd Obj.MAE_NMISS_N.f * un ≤ 10 * s.rd (Obj.MAE_SET_VRMS_N.i v)) &&
    (s.on (Obj.MAE_SET_WIRING.i v) || (ph.any (fun x => decide (106 * un < x)) && ph.any fun x => decide (x < 94 * un)))

/-- Count the cycles in a row for and against a missing neutral. -/
def State.countNeutral (s : State) (v : Nat) : State :=
  let m := s.mset v
  if s.neutralMissing v then s.putMset v { m with nmissRun := m.nmissRun + 1, nmissEnd := 0 }
  else s.putMset v { m with nmissRun := 0, nmissEnd := m.nmissEnd + 1 }

/-- NMISS_START (R238): the fifth cycle in a row; the extreme value of such an event is not stated, so it is free. -/
def nmissStart (v : Nat) (s : State) : State :=
  if 5 ≤ (s.mset v).nmissRun ∧ (s.eventOf v 4 0).isNone ∧ s.setOn v then
    let (x, s1) := s.draw
    s1.startEvent v 4 0 (x % 2 ^ 32)
  else s

def execNmissStart (set : Fin 4) (t : Nat) (s : State) : Host.Outcome State Fault Refusal := .next (nmissStart set.val (s.advance t))

/-- NMISS_END (R238): the fiftieth cycle in a row against it. -/
def nmissEnd (v : Nat) (s : State) : State :=
  match s.eventOf v 4 0 with
  | some e => if 50 ≤ (s.mset v).nmissEnd then s.endEvent v e else s
  | none => s

def execNmissEnd (set : Fin 4) (t : Nat) (s : State) : Host.Outcome State Fault Refusal := .next (nmissEnd set.val (s.advance t))

/-! ### Captures (R211) -/

/-- The capture's fields from its sums so far; the sums of each cycle close add up. -/
def State.calFields (s : State) : State :=
  let x := s.mae.cal.sums
  s.wrs [(Obj.MAE_CAL_E_RAW.f, uns 64 (flRound (f64.fmul (f64.fmul x.vi tsSec) (fl 1000000)))),
    (Obj.MAE_CAL_EQ_RAW.f, uns 64 (flRound (f64.fmul (f64.fmul x.vqi tsSec) (fl 1000000)))),
    (Obj.MAE_CAL_IRMS_PPM.f, flNat 32 (rawPpm x (s.rd (Obj.MAE_CH_IN_RATED.i (s.rd Obj.MAE_CAL_CH.f))))),
    (Obj.MAE_CAL_VRMS.f, flNat 32 (f64.fmul (flRms x.v2 x.n) (fl 1000))), (Obj.MAE_CAL_SAMPLES.f, x.n)]

/-- A crossing or pseudo-cycle end of the capture's set: the capture begins, or one more cycle of it is done. -/
def State.calCycle (s : State) (v : Nat) (crossing : Bool) : State :=
  let ch := s.rd Obj.MAE_CAL_CH.f
  if s.rd (Obj.MAE_CH_SET.i ch) ≠ v then s
  else if s.rd Obj.MAE_CAL_STATE.f = 1 then
    if ! s.chanOn ch then s.abortCal 5
    else if crossing then { s.wr Obj.MAE_CAL_STATE.f 2 with mae := { s.mae with cal := {} } } else s
  else if s.rd Obj.MAE_CAL_STATE.f = 2 ∧ s.rd Obj.MAE_CAL_CYCLES_DONE.f < s.rd Obj.MAE_CAL_CYCLES.f then
    (s.inc Obj.MAE_CAL_CYCLES_DONE.f).calFields.wr Obj.MAE_CAL_T_END.f s.floorTime
  else s

/-- CAL_CAPTURE_END (R211): after MAE_CAL_CYCLES whole cycles, state 3. -/
def calCaptureEnd (s : State) : State :=
  if s.rd Obj.MAE_CAL_STATE.f = 2 ∧ s.rd Obj.MAE_CAL_CYCLES.f ≤ s.rd Obj.MAE_CAL_CYCLES_DONE.f then s.wr Obj.MAE_CAL_STATE.f 3 else s

def execCalCaptureEnd (t : Nat) (s : State) : Host.Outcome State Fault Refusal := .next (calCaptureEnd (s.advance t))

/-- Whether a START write would be refused: a capture runs (R211). -/
def State.calBusy (s : State) : Bool := s.rd Obj.MAE_CAL_STATE.f == 1 || s.rd Obj.MAE_CAL_STATE.f == 2

/-- Arm a capture (R211); the results of an earlier one are cleared. -/
def State.calStart (s : State) : State :=
  if s.calBusy then s
  else { s with mae := { s.mae with cal := {} } }.wrs
    [(Obj.MAE_CAL_STATE.f, 1), (Obj.MAE_CAL_ABORT_CAUSE.f, 0), (Obj.MAE_CAL_CYCLES_DONE.f, 0), (Obj.MAE_CAL_E_RAW.f, 0),
     (Obj.MAE_CAL_EQ_RAW.f, 0), (Obj.MAE_CAL_IRMS_PPM.f, 0), (Obj.MAE_CAL_VRMS.f, 0), (Obj.MAE_CAL_T_START.f, 0),
     (Obj.MAE_CAL_T_END.f, 0), (Obj.MAE_CAL_SAMPLES.f, 0)]

/-- MAE_CAL_START: only C00 sees the registers (R207). -/
def execMaeCalStart (who : Requester) (t : Nat) (s : State) : Host.Outcome State Fault Refusal :=
  .next (if s.compOf who = 0 then (s.advance t).calStart else s.advance t)

def execMaeCalAbort (who : Requester) (t : Nat) (s : State) : Host.Outcome State Fault Refusal :=
  .next (if s.compOf who = 0 then (s.advance t).abortCal 1 else s.advance t)

/-! ### Recording (R213) -/

/-- Start a waveform recording. -/
def State.waveStart (s : State) : State :=
  let w : Wave := { set := s.rd Obj.MAE_WAVE_SET.f, rows := [], done := s.mae.wave.done,
                    chans := (List.range 4).map fun k => s.rd (Obj.MAE_WAVE_CH.i k) }
  { s with mae := { s.mae with wave := w } }.wr Obj.MAE_WAVE_STATE.f 1

def execMaeWaveStart (who : Requester) (t : Nat) (s : State) : Host.Outcome State Fault Refusal :=
  .next (if s.compOf who = 0 then (s.advance t).waveStart else s.advance t)

/-- WAVE_RECORD_DONE: the window takes the completed recording. -/
def waveRecordDone (s : State) : State :=
  if s.rd Obj.MAE_WAVE_STATE.f = 1 ∧ s.mae.wave.rows.length = 1024 then
    let w := s.mae.wave
    { s with mae := { s.mae with wave := { w with done := w.rows } } }.wr Obj.MAE_WAVE_STATE.f 2
  else s

def execWaveRecordDone (t : Nat) (s : State) : Host.Outcome State Fault Refusal := .next (waveRecordDone (s.advance t))

/-- SETTLING_END (R208). -/
def settlingEnd (ch : Nat) (s : State) : State := if s.settling ch then s else s.wr (Obj.MAE_CH_FLAGS_SETTLING.i ch) 0

def execSettlingEnd (ch : Fin 192) (t : Nat) (s : State) : Host.Outcome State Fault Refusal :=
  .next (settlingEnd ch.val (s.advance t))

end Sys2Proof.Machine
end

