-- ==== Sys2Proof/Machine/Energy.lean ====
section
/-!
DEFINITION. Latches, sealed records, commits, gaps and pulses (spec/09), and the line cycles that drive them
(spec/08 R203, R204): zero crossings, pseudo-cycles, the start and the stop of acquisition.
-/
namespace Sys2Proof.Machine

/-! ### Gaps (R234 to R236) -/

/-- Write a gap entry and its event to the logs of C00, C01 and every compartment that owns an enabled circuit. -/
def State.gapEntry (s : State) (g : Gap) (fin : Nat) : State :=
  let seq := (s.rd Obj.MAE_GAP_SEQ.f + 1) % 2 ^ 32
  let k := (seq + 2 ^ 32 - 1) % 64
  let owners := s.tenants.filter fun c => ! (s.ownCircuits c).isEmpty
  let s1 := s.wrs [(Obj.MAE_GAP_SEQ.f, seq), (Obj.MAE_GAPE_KIND.i k, g.kind), (Obj.MAE_GAPE_EST_VALID.i k, b2n g.est),
    (Obj.MAE_GAPE_SEQ.i k, seq), (Obj.MAE_GAPE_START.i k, g.start), (Obj.MAE_GAPE_END.i k, fin),
    (Obj.MAE_GAPE_LATCH_SEQ.i k, s.rd Obj.MAE_LATCH_SEQ.f + 1)]
  { (s1.logAll ([0, 1] ++ owners) 0x050B (le 1 g.kind ++ le 3 0 ++ le 4 seq ++ le 8 g.start ++ le 8 fin)) with
    mae := { s1.mae with gap := true } }

/-- Each enabled circuit's estimate over a span, into its GAP_SEQ and EST fields (R236). -/
def State.estimate (s : State) (start fin : Nat) : State :=
  s.circsOn.foldl (fun t i =>
    let e : Int := ((s.mae.commit.pMean.get 0 i) * (s.span start fin : Int)).tdiv 3600000000000
    t.wrs [(Obj.MAE_LCIRC_GAP_SEQ.i i, s.rd Obj.MAE_GAP_SEQ.f), (Obj.MAE_LCIRC_EST_EP_IMP.i i, e.toNat),
      (Obj.MAE_LCIRC_EST_EP_EXP.i i, (-e).toNat)]) s

/-- The first crossing of acquisition completes a gap. -/
def State.closeGap (s : State) (g : Gap) : State :=
  let fin := g.fin.getD s.floorTime
  let s1 := match g.entry with
    | some k => { s.wrs [(Obj.MAE_GAPE_END.i k, fin), (Obj.MAE_GAPE_EST_VALID.i k, b2n g.est),
                         (Obj.MAE_GAPE_LATCH_SEQ.i k, s.rd Obj.MAE_LATCH_SEQ.f + 1)] with mae := { s.mae with gap := true } }
    | none => s.gapEntry g fin
  if g.est then s1.estimate g.start fin else s1

/-- The first crossing after acquisition started: gaps end here. -/
def State.firstCrossing (s : State) : State :=
  if s.mae.accStart.isSome then s
  else
    let s1 := { s with mae := { s.mae with accStart := some s.floorTime, gaps := [] } }
    s.mae.gaps.foldl State.closeGap s1

/-! ### Commit (R232) -/

/-- The accumulators of every channel and circuit, the pulses, the latch sequence and count, into MRAM. -/
def State.commitEnergy (s : State) (t : Nat) : State :=
  let m := s.mae
  let k : EnergyCommit := {
    time := t, chans := m.chans.map fun p => (p.1, p.2.acc), circs := m.circs.map fun p => (p.1, p.2.acc),
    pulses := (List.range 8).map fun n => (n, (s.pulse n).residue, s.rd (Obj.MAE_PULSE_BACKLOG.i n)),
    seq := s.rd Obj.MAE_LATCH_SEQ.f, count := m.count,
    pMean := (List.range 192).map fun i => (i, sgn 64 (s.rd (Obj.MAE_LCIRC_P_MEAN.i i))) }
  { s with mae := { m with commit := k } }.wr Obj.MAE_COMMIT_TIME.f t

/-- ENERGY_COMMIT: between latches, while MAE_COMMIT_MS is not 0. -/
def energyCommit (s : State) : State :=
  if s.acq ∧ s.rd Obj.MAE_COMMIT_MS.f ≠ 0 then s.commitEnergy s.floorTime else s

def execEnergyCommit (t : Nat) (s : State) : Host.Outcome State Fault Refusal := .next (energyCommit (s.advance t))

/-! ### Latching (R226 to R231, R239, R245) -/

/-- The whole units of an accumulator (R227). -/
def latched (a : Nat) : Nat := a / 16777216 % 2 ^ 64

/-- Mean power of an interval: net accumulator change over its length, in mW, toward 0 (Table 9-2). -/
def meanPower (d : Int) (ns : Nat) : Int := if ns = 0 then 0 else (d * 3600000000000).tdiv (16777216 * (ns : Int))

/-- What a latch publishes beside the registers. -/
structure LatchHead where
  seq : Nat
  time : Nat
  start : Nat
  split : Bool
  resumed : Bool
  gap : Bool
  tick : Bool
  deriving DecidableEq, Repr

/-- The rows of Table 9-2 or 9-3, and one record's figures. -/
structure LatchRows where
  seq : Row
  split : Row
  resumed : Row
  gap : Row
  creep : Row
  clip : Row
  wrap : Row
  tick : Row
  enabled : Row
  time : Row
  start : Row
  imp : Row
  exp : Row
  ind : Row
  cap : Row
  cycles : Row
  p : Row
  q : Row

def chanRows : LatchRows :=
  { seq := Obj.MAE_LCH_SEQ, split := Obj.MAE_LCH_FLAGS_SPLIT, resumed := Obj.MAE_LCH_FLAGS_RESUMED, gap := Obj.MAE_LCH_FLAGS_GAP,
    creep := Obj.MAE_LCH_FLAGS_CREEP, clip := Obj.MAE_LCH_FLAGS_CLIP, wrap := Obj.MAE_LCH_FLAGS_WRAP,
    tick := Obj.MAE_LCH_FLAGS_TICK_STAMP, enabled := Obj.MAE_LCH_FLAGS_ENABLED, time := Obj.MAE_LCH_TIME,
    start := Obj.MAE_LCH_T_START, imp := Obj.MAE_LCH_EP_IMP, exp := Obj.MAE_LCH_EP_EXP, ind := Obj.MAE_LCH_EQ_IND,
    cap := Obj.MAE_LCH_EQ_CAP, cycles := Obj.MAE_LCH_CYCLES, p := Obj.MAE_LCH_P_MEAN, q := Obj.MAE_LCH_Q_MEAN }

def circRows : LatchRows :=
  { seq := Obj.MAE_LCIRC_SEQ, split := Obj.MAE_LCIRC_FLAGS_SPLIT, resumed := Obj.MAE_LCIRC_FLAGS_RESUMED,
    gap := Obj.MAE_LCIRC_FLAGS_GAP, creep := Obj.MAE_LCIRC_FLAGS_CREEP, clip := Obj.MAE_LCIRC_FLAGS_CLIP,
    wrap := Obj.MAE_LCIRC_FLAGS_WRAP, tick := Obj.MAE_LCIRC_FLAGS_TICK_STAMP, enabled := Obj.MAE_LCIRC_FLAGS_ENABLED,
    time := Obj.MAE_LCIRC_TIME, start := Obj.MAE_LCIRC_T_START, imp := Obj.MAE_LCIRC_EP_IMP, exp := Obj.MAE_LCIRC_EP_EXP,
    ind := Obj.MAE_LCIRC_EQ_IND, cap := Obj.MAE_LCIRC_EQ_CAP, cycles := Obj.MAE_LCIRC_CYCLES, p := Obj.MAE_LCIRC_P_MEAN,
    q := Obj.MAE_LCIRC_Q_MEAN }

/-- Publish one record. -/
def State.publish (s : State) (r : LatchRows) (i : Nat) (h : LatchHead) (acc prev : Acc) (cycles : Nat) (creep clip on : Bool) :
    State :=
  let regs := [(r.imp, acc.imp), (r.exp, acc.exp), (r.ind, acc.ind), (r.cap, acc.cap)]
  let wrap := regs.any fun x => decide (latched x.2 < s.rd (x.1.i i))
  let d := fun (a b c e : Nat) => ((a : Int) - b) - ((c : Int) - e)
  s.wrs ([(r.seq.i i, h.seq), (r.split.i i, b2n h.split), (r.resumed.i i, b2n h.resumed), (r.gap.i i, b2n h.gap),
    (r.creep.i i, b2n creep), (r.clip.i i, b2n clip), (r.wrap.i i, b2n wrap), (r.tick.i i, b2n h.tick),
    (r.enabled.i i, b2n on), (r.time.i i, h.time), (r.start.i i, h.start), (r.cycles.i i, cycles),
    (r.p.i i, uns 64 (meanPower (d acc.imp prev.imp acc.exp prev.exp) (s.span h.start h.time))),
    (r.q.i i, uns 64 (meanPower (d acc.ind prev.ind acc.cap prev.cap) (s.span h.start h.time)))] ++
    regs.map fun x => (x.1.i i, latched x.2))

/-- A legacy value that falls sets its WRAP bit and counts (R231). -/
def State.legacy (s : State) (ch k old new : Nat) : State :=
  if new / 100 % 2 ^ 32 < old / 100 % 2 ^ 32 then
    let f := Obj.LEG_WRAP.i ch
    let g := Obj.LEG_WRAPS.i ch
    let w := s.rd g
    (s.wr f (s.rd f ||| 2 ^ k)).wr g (w - 2 ^ (8 * k) * bits w (8 * k) 8 + 2 ^ (8 * k) * ((bits w (8 * k) 8 + 1) % 256))
  else s

/-- One channel's part of a latch. -/
def State.latchChan (s : State) (h : LatchHead) (ch : Nat) : State :=
  let m := s.chan ch
  let old := fun (r : Row) => s.rd (r.i ch)
  let s1 := s.publish chanRows ch h m.acc m.prev m.cycles m.anyCreep m.anyClip (s.chanOn ch)
  let s2 := (((s1.legacy ch 0 (old Obj.MAE_LCH_EP_IMP) (latched m.acc.imp)).legacy ch 1 (old Obj.MAE_LCH_EP_EXP) (latched m.acc.exp)).legacy
    ch 2 (old Obj.MAE_LCH_EQ_IND) (latched m.acc.ind)).legacy ch 3 (old Obj.MAE_LCH_EQ_CAP) (latched m.acc.cap)
  if m = {} then s2 else s2.putChan ch { m with prev := m.acc, cycles := 0, anyCreep := false, anyClip := false }

/-- One circuit's part of a latch. -/
def State.latchCirc (s : State) (h : LatchHead) (i : Nat) : State :=
  let m := s.circ i
  let s1 := s.publish circRows i h m.acc m.prev m.cycles m.anyCreep m.anyClip (s.circOn i)
  if m = {} then s1 else s1.putCirc i { m with prev := m.acc, cycles := 0, anyCreep := false, anyClip := false }

/-- FLAGS of a circuit record, bits 7 to 0. -/
def State.latchFlags (s : State) (r : LatchRows) (i : Nat) : Nat :=
  s.rd (r.split.i i) + 2 * s.rd (r.resumed.i i) + 4 * s.rd (r.gap.i i) + 8 * s.rd (r.creep.i i) + 16 * s.rd (r.clip.i i) +
  32 * s.rd (r.wrap.i i) + 64 * s.rd (r.tick.i i) + 128 * s.rd (r.enabled.i i)

/-- The field a mapping copies (Table 9-10). -/
def State.mapValue (s : State) (m : Nat) : Nat :=
  let r := if s.on (Obj.MAE_MAP_CIRCUIT.i m) then circRows else chanRows
  let i := s.rd (Obj.MAE_MAP_INDEX.i m)
  match s.rd (Obj.MAE_MAP_FIELD.i m) with
  | 0 => s.rd (r.imp.i i)
  | 1 => s.rd (r.exp.i i)
  | 2 => s.rd (r.ind.i i)
  | 3 => s.rd (r.cap.i i)
  | 4 => s.rd (r.p.i i)
  | 5 => s.rd (r.q.i i)
  | 6 => s.rd (r.time.i i)
  | _ => s.rd (r.seq.i i) + 2 ^ 32 * s.latchFlags r i

/-- All MAE point mappings of a latch, in one step (R25, R228); a forced point keeps its force value. -/
def State.applyMaps (s : State) : State :=
  s.pimgWrite (((List.range 512).filter fun m => s.on (Obj.MAE_MAP_ENABLE.i m)).map fun m =>
    PtWrite.whole (s.rd (Obj.MAE_MAP_POINT.i m)) (s.mapValue m))

/-- The sequence test of a set (R239). The delay of L2's crossing after L1's is a measurement the commands do not carry:
a free value, in 10^-6 of the cycle. -/
def State.testSequence (s : State) (v : Nat) : State :=
  let un := s.rd (Obj.MAE_SET_UN.i v)
  let f := Obj.MAE_SET_ACT_SEQ.i v
  let was := s.rd f
  let (x, s1) := s.draw
  let d := x % 1000000
  let now := if ! (List.range 3).all (fun k => decide (50 * un ≤ s.rd (Obj.MAE_SET_VRMS.ij v k))) then 0
    else if 250000 < d ∧ d < 416700 then 1 else if 583300 < d ∧ d < 750000 then 2 else 3
  let s2 := s1.wr f now
  if now = 2 ∧ was ≠ 2 then
    let (y, s3) := s2.draw
    s3.startEvent v 5 0 (y % 2 ^ 32)
  else if was = 2 ∧ now ≠ 2 then
    match s2.eventOf v 5 0 with
    | some e => s2.endEvent v e
    | none => s2
  else s2

/-! ### Sealed records (R246 to R249) -/

def State.ring (s : State) (c : Nat) : List SealRec := s.mae.rings.get [] c
def State.putRing (s : State) (c : Nat) (l : List SealRec) : State := { s with mae := { s.mae with rings := s.mae.rings.put c l } }

/-- Bytes of a record: its body and a 96-byte signature. -/
def SealRec.size (r : SealRec) : Nat := r.body.length + 96

def ringSize (l : List SealRec) : Nat := (l.map SealRec.size).foldl (· + ·) 0

/-- The bytes of a sealed record; without a signature it is zero (R247). -/
def SealRec.bytes (r : SealRec) : Bytes := r.body ++ r.sig.getD (List.replicate 96 0)

/-- The oldest records are overwritten until the ring holds at most 256 KiB; one above ACKED is lost (R248). -/
def State.trimRing (s : State) (c : Nat) : List SealRec → State × List SealRec
  | [] => (s, [])
  | r :: rest =>
    if ringSize (r :: rest) ≤ 262144 then (s, r :: rest)
    else
      let s1 := if s.rd (Obj.MAE_SEAL_ACKED.i c) < r.seq then
          ((s.inc (Obj.MAE_SEAL_LOST.i c)).set1 (Obj.MAE_SEAL_EVT_LOST.i c)).logAll [0, c] 0x050E (le 8 r.seq)
        else s
      State.trimRing s1 c rest

/-- The circuits of a tenant that are sealed. -/
def State.sealed (s : State) (c : Nat) : List Nat :=
  (s.ownCircuits c).filter fun i => bit (s.rd (Obj.MAE_SEAL_CIRC.i (i / 32))) (i % 32)

/-- The module identity, 16 bytes (Table 15-4). -/
def State.identity (s : State) : Bytes := le 4 (s.rd Obj.IDENT_ID_0.f) ++ le 4 (s.rd Obj.IDENT_ID_1.f) ++ le 4 (s.rd Obj.IDENT_ID_2.f) ++ le 4 (s.rd Obj.IDENT_ID_3.f)

/-- A circuit entry (Table 9-13); an estimate only where its gap lies in the sealed span. -/
def State.sealEntry (s : State) (i prevTime : Nat) : Bytes :=
  let r := circRows
  let k := (s.rd (Obj.MAE_LCIRC_GAP_SEQ.i i) + 2 ^ 32 - 1) % 64
  let inside := decide (s.rd (Obj.MAE_LCIRC_GAP_SEQ.i i) ≠ 0) && s.rd (Obj.MAE_GAPE_SEQ.i k) == s.rd (Obj.MAE_LCIRC_GAP_SEQ.i i) &&
    decide (prevTime < s.rd (Obj.MAE_GAPE_END.i k))
  le 2 i ++ le 2 (s.latchFlags r i) ++ le 4 (s.rd (Obj.MAE_CIRC_CAL_HASH.i i)) ++
  le 8 (s.rd (r.imp.i i)) ++ le 8 (s.rd (r.exp.i i)) ++ le 8 (s.rd (r.ind.i i)) ++ le 8 (s.rd (r.cap.i i)) ++
  le 8 (if inside then s.rd (Obj.MAE_LCIRC_EST_EP_IMP.i i) else 0) ++
  le 8 (if inside then s.rd (Obj.MAE_LCIRC_EST_EP_EXP.i i) else 0) ++ le 4 (s.rd (Obj.MAE_CIRC_CAL_GEN.i i)) ++ le 4 0

/-- Snapshot a sealed record of a tenant at a latch (Tables 9-12, 9-13). -/
def State.sealNow (s : State) (c reason missed : Nat) (h : LatchHead) : State :=
  let circs := s.sealed c
  let seq := (s.rd (Obj.MAE_SEAL_SEQ.i c) + 1) % 2 ^ 64
  let prev := ((s.ring c).getLast?.map (·.time)).getD 0
  let flags := circs.foldl (fun a i => a ||| s.latchFlags circRows i % 128) 0 ||| (if reason = 2 then 4 else 0)
  let body : Bytes := le 4 0x52425841 ++ le 2 1 ++ le 2 circs.length ++ le 1 c ++ le 1 reason ++ le 2 missed ++ le 4 0 ++ le 8 seq ++
    s.identity ++ le 4 h.seq ++ le 4 flags ++ le 8 h.time ++ le 8 prev ++ le 8 s.rtc.ticks ++ le 8 0 ++
    circs.flatMap fun i => s.sealEntry i prev
  let r := (s.wr (Obj.MAE_SEAL_SEQ.i c) seq).trimRing c (s.ring c ++ [⟨seq, h.time, body, none⟩])
  (r.1.putRing c r.2).wrs [(Obj.MAE_SEAL_OLDEST.i c, (r.2.head?.map (·.seq)).getD seq), (Obj.MAE_SEAL_SIG_STATE.i c, 1)]

/-- Boundaries of a tenant's interval in (a, b]. -/
def State.boundaries (s : State) (c a b : Nat) : Nat :=
  let i := s.rd (Obj.MAE_SEAL_INTERVAL.i c) * 60000000000
  if i = 0 then 0 else b / i - a / i

/-- Boundaries of a tenant's interval that floor-time steps in (a, b] passed over (Table 13-2). -/
def State.steppedOver (s : State) (c a b : Nat) : Nat :=
  ((s.mae.steps.filter fun x => decide (a ≤ x.1 ∧ x.1 + x.2 ≤ b)).map fun x => s.boundaries c x.1 (x.1 + x.2 - 1)).foldl (· + ·) 0

/-- The seal of a tenant at a latch: what a Castling asks for (1 changed, 3 removed), missed boundaries, or a boundary
met since the previous latch (R246, R249). -/
def State.sealAt (s : State) (h : LatchHead) (prevTime : Nat) (asked : List (Nat × Nat)) (c : Nat) : State :=
  if ! s.on (Obj.MAE_SEAL_ENABLE.i c) then s
  else match asked.find? fun x => x.1 == c with
    | some x => s.sealNow c x.2 0 h
    | none =>
      let missed := (if h.resumed then s.boundaries c prevTime h.start
        else s.steppedOver c prevTime h.time)
      if missed > 0 then s.sealNow c 2 (min missed 65535) h
      else if s.boundaries c prevTime h.time > 0 then s.sealNow c 0 0 h
      else s

/-- One latch: records, legacy view and mappings in one switch, the sequence tests, the seals and the commit
(R228, R231, R232, R239, R246). `asked` are the seals a Castling asks for. -/
def State.latchAt (s : State) (t : Nat) (split : Bool) (asked : List (Nat × Nat)) : State :=
  let prevTime := s.rd Obj.MAE_LATCH_TIME.f
  let tick := s.failed 17
  let time := if tick then s.rtc.aod.1 + (s.rtc.ticks - s.rtc.aod.2) * 1000000000 / 32768 else t
  let h : LatchHead := {
    seq := (s.rd Obj.MAE_LATCH_SEQ.f + 1) % 2 ^ 32, time := time,
    start := if s.mae.resumed then s.mae.accStart.getD t else prevTime, split := split, resumed := s.mae.resumed,
    gap := s.mae.gap, tick := tick }
  let s1 := (List.range 192).foldl (fun u ch => (u.latchChan h ch).latchCirc h ch) (s.perf 7 0x03 vendorTag)
  let s2 := ({ s1 with mae := { s1.mae with latchDue := none, resumed := false, gap := false } }.wr Obj.MAE_LATCH_SEQ.f
    h.seq).wr Obj.MAE_LATCH_TIME.f time
  let s3 := s2.applyMaps
  let s4 := ((List.range 4).filter fun v => s.setOn v && ! s.on (Obj.MAE_SET_WIRING.i v)).foldl State.testSequence s3
  let sealed := (List.range 34).filter fun c => decide (2 ≤ c) && (s.exists? c || asked.any fun x => x.1 == c)
  (sealed.foldl (fun u c => u.sealAt h prevTime asked c) s4).commitEnergy time

/-- LATCH (R228): the N-th closure has come and is not yet published. -/
def latch (s : State) : State :=
  match s.mae.latchDue with
  | some t => s.latchAt t false []
  | none => s

def execLatch (t : Nat) (s : State) : Host.Outcome State Fault Refusal := .next (latch (s.advance t))

/-- A closure of the reference set counts (R226); a latch not yet published is published before later cycles close. -/
def State.countClosure (s : State) (v : Nat) : State :=
  if s.rd Obj.MAE_REF_SET.f ≠ v then s
  else if max 1 (s.rd Obj.MAE_LATCH_N.f) ≤ s.mae.count + 1 then
    { s with mae := { s.mae with count := 0, latchDue := some s.floorTime } }
  else { s with mae := { s.mae with count := s.mae.count + 1 } }

/-! ### Line cycles (R203, R204) -/

/-- The set's record of a closed cycle: VRMS of each used phase and of N, clip, sequence copies. -/
def State.setRecord (s : State) (v freq framing : Nat) : State :=
  let m := s.mset v
  let mv := fun k => flNat 32 (f64.fmul (flRms (m.v2.getD k 0) m.n) (fl 1000))
  let seq := s.rd (Obj.MAE_SET_SEQ.i v) + 1
  let s1 := s.wrs [(Obj.MAE_SET_SEQ_END.i v, seq), (Obj.MAE_SET_FREQ.i v, freq), (Obj.MAE_SET_VRMS.ij v 0, mv 0),
    (Obj.MAE_SET_VRMS.ij v 1, mv 1), (Obj.MAE_SET_VRMS.ij v 2, mv 2), (Obj.MAE_SET_VRMS_N.i v, mv 3),
    (Obj.MAE_SET_FRAMING.i v, framing), (Obj.MAE_SET_FREQ_RANGE.i v, b2n (! decide (45000 ≤ freq ∧ freq ≤ 65000))),
    (Obj.MAE_SET_CLIP.i v, b2n m.clip), (Obj.MAE_SET_SEQ.i v, seq)]
  if m.clip then s1.inc (Obj.MAE_SET_CLIP_COUNT.i v) else s1

/-- Open a cycle of a set and of its channels. -/
def State.openCycle (s : State) (v : Nat) (pseudo : Bool) : State :=
  let m := s.mset v
  let s1 := s.putMset v { m with isOpen := true, pseudo := pseudo, v2 := [0, 0, 0, 0], n := 0, clip := false }
  (s.chansOf v).foldl (fun t ch => t.putChan ch { (t.chan ch) with isOpen := true, sums := {}, split := false, clip := false }) s1

/-- Publish a latch that is due before a later closure. -/
def State.latchBefore (s : State) : State :=
  match s.mae.latchDue with
  | some t => if t < s.floorTime then s.latchAt t false [] else s
  | none => s

/-- Close the cycle of a set at this instant: its channels and circuits, its record, its voltage events, the capture
and the closure count. -/
def State.closeSet (s : State) (v freq framing : Nat) (crossing : Bool) : State :=
  let s1 := s.latchBefore.closeChans (s.chansOf v) false
  let s2 := s1.setRecord v freq framing
  let s3 := s2.putMset v { (s2.mset v) with complete := true }
  let s4 := (s3.phases v).foldl (fun t p => t.judgePhase v p) s3
  ((s4.countNeutral v).calCycle v crossing).countClosure v

/-- The framing phase: the first whose last complete cycle reached half of UN; L1 while none is complete (R203). -/
def State.framing (s : State) (v : Nat) : Option Nat :=
  if ! (s.mset v).complete then some 0
  else ((s.phases v).map (· - 1)).find? fun k => decide (50 * s.rd (Obj.MAE_SET_UN.i v) ≤ s.rd (Obj.MAE_SET_VRMS.ij v k))

/-- ZERO_CROSSING (R203, R209): a positive crossing of the framing phase of a set. -/
def zeroCrossing (v : Nat) (s : State) : State :=
  if ! s.acq || ! s.setOn v then s
  else match s.framing v with
    | none => s
    | some k =>
      let m := s.mset v
      let dt := s.span (s.rd (Obj.MAE_SET_LAST_CROSSING.i v)) s.floorTime
      let freq := if m.crossed ∧ dt > 0 then (2 * 1000000000000 + dt) / (2 * dt) else 0
      let s1 := if m.isOpen then s.closeSet v freq k true else (s.firstCrossing.calCycle v true)
      let s2 := (s1.wr (Obj.MAE_SET_LAST_CROSSING.i v) s.floorTime).putMset v { (s1.mset v) with crossed := true }
      (s2.wr (Obj.MAE_SET_FRAMING.i v) k).openCycle v false

def execZeroCrossing (set : Fin 4) (t : Nat) (s : State) : Host.Outcome State Fault Refusal :=
  .next (zeroCrossing set.val (s.advance t))

/-- A pseudo-cycle end or a timeout closes the set's cycle and opens a pseudo-cycle. -/
def State.pseudoClose (s : State) (v : Nat) : State := (s.closeSet v 0 3 false).openCycle v true

/-- CYCLE_TIMEOUT (R204): a cycle of 200 samples without a crossing. -/
def cycleTimeout (v : Nat) (s : State) : State :=
  let m := s.mset v
  if s.acq && s.setOn v && m.isOpen && ! m.pseudo && decide (200 ≤ m.n) then s.pseudoClose v else s

def execCycleTimeout (set : Fin 4) (t : Nat) (s : State) : Host.Outcome State Fault Refusal :=
  .next (cycleTimeout set.val (s.advance t))

/-- PSEUDO_CYCLE_END (R204): 160 samples at 50 Hz nominal, 133 at 60 Hz. -/
def pseudoCycleEnd (v : Nat) (s : State) : State :=
  let m := s.mset v
  if s.acq && s.setOn v && m.isOpen && m.pseudo && decide ((if s.rd Obj.MAE_F_NOM.f = 60 then 133 else 160) ≤ m.n) then
    s.pseudoClose v
  else s

def execPseudoCycleEnd (set : Fin 4) (t : Nat) (s : State) : Host.Outcome State Fault Refusal :=
  .next (pseudoCycleEnd set.val (s.advance t))

/-! ### Start and stop of acquisition (R220, R221, R233) -/

/-- Whether the MAE can acquire: neither failed nor its factory record broken. -/
def State.maeWorks (s : State) : Bool := ! s.failed 2

/-- Acquisition starts (R221): no cycle is open, the count restarts, Rogowski channels settle. -/
def State.startAcq (s : State) : State :=
  if s.acq || ! s.maeWorks then s
  else
    let chans := s.mae.chans.map fun p => (p.1, { p.2 with isOpen := false, sums := {}, split := false, clip := false, startAt := s.floorTime,
                                                           prev := p.2.acc, cycles := 0, anyCreep := false, anyClip := false })
    let circs := s.mae.circs.map fun p => (p.1, { p.2 with prev := p.2.acc, cycles := 0, anyCreep := false, anyClip := false })
    let m := { s.mae with sets := [], count := 0, latchDue := none, resumed := true, accStart := none, chans := chans, circs := circs }
    let s1 := ({ s with mae := m }.wr Obj.MAE_STATUS_ACQ.f 1).wr Obj.MAE_SAMPLE_COUNT.f 0
    s1.chansOn.foldl (fun t ch => (t.putChan ch { (t.chan ch) with startAt := s.floorTime }).wr (Obj.MAE_CH_FLAGS_SETTLING.i ch)
      (b2n (s.on (Obj.MAE_CH_TYPE.i ch)))) s1

/-- Acquisition stops at this instant: cycles close as partial ones, an unpublished latch is dropped, captures abort. -/
def State.stopAcq (s : State) : State :=
  if ! s.acq then s
  else
    let s1 := (s.closeChans s.chansOn true).abortCal 3
    { s1 with mae := { s1.mae with latchDue := none, stoppedAt := some s.floorTime } }.wr Obj.MAE_STATUS_ACQ.f 0

/-- Voltage events in progress end now, and their end events wait for the next boot (R253). -/
def State.endEventsDeferred (s : State) : State :=
  (List.range 4).foldl (fun t v => (s.mset v).events.foldl (fun u e =>
    let u1 := u.dropEvent v e
    (s.voltLogs v).foldl (fun w c =>
      { w with evr := { w.evr with deferred := w.evr.deferred ++ [(c, w.deferredRecord (0x0500 + 2 * e.kind) (endDetail v e (s.eventMs e)))] } })
      u1) t) s

/-- Pulses cut short return to BACKLOG (R244). -/
def State.cutPulses (s : State) : State :=
  (List.range 8).foldl (fun t n => match (t.pulse n).endAt with
    | some _ => (t.putPulse n { (t.pulse n) with endAt := none }).setBacklog n (satAdd 32 (t.rd (Obj.MAE_PULSE_BACKLOG.i n)) 1)
    | none => t) s

/-- At a boot the accumulators, pulses and the latch count are those of the newest intact commit (R232). -/
def State.restoreEnergy (s : State) : State :=
  let k := s.mae.commit
  let m := { s.mae with
    chans := k.chans.map fun p => (p.1, { acc := p.2, prev := p.2 }), circs := k.circs.map fun p => (p.1, { acc := p.2, prev := p.2 }),
    sets := [], pulses := k.pulses.map fun p => (p.1, { residue := p.2.1 }), cal := {}, wave := {}, count := k.count, latchDue := none,
    accStart := none }
  k.pulses.foldl (fun t p => (t.wr (Obj.MAE_PULSE_BACKLOG.i p.1) p.2.2).wr (Obj.MAE_PULSE_RESIDUE.i p.1) (p.2.1 / 16777216))
    { s with mae := m }

/-! ### Split latch (R117, R219, R226) -/

/-- At the switch sample every cycle closes as a partial one and the latch interval is split; the count restarts. -/
def State.splitLatch (s : State) (asked : List (Nat × Nat)) : State :=
  if ! s.acq then s
  else
    let open_ := s.chansOn.filter fun ch => (s.chan ch).isOpen
    let s1 := (s.latchBefore.closeChans s.chansOn true).latchAt s.floorTime true asked
    let s2 := { s1 with mae := { s1.mae with count := 0 } }
    open_.foldl (fun t ch => t.putChan ch { (t.chan ch) with isOpen := true, split := true, sums := {} }) s2

/-! ### Pulses (R242) -/

/-- The width of a pulse in µs (R242), from the circuit's mean power of the quantity. -/
def State.pulseWidth (s : State) (n : Nat) : Nat :=
  let c := s.circ (s.rd (Obj.MAE_PULSE_CIRCUIT.i n))
  let p := (if s.rd (Obj.MAE_PULSE_QUANTITY.i n) < 2 then c.pMean else c.qMean).natAbs
  let w := s.rd (Obj.MAE_PULSE_WEIGHT.i n)
  if 3600000000 * w ≥ 64000 * p then 32000 else max 2000 (1800000000 * w / p / 125 * 125)

/-- Whether pulses run: in M2 and M5 to M9 while acquisition runs. -/
def State.pulsesRun (s : State) : Bool := s.acq && (s.mode == 2 || decide (5 ≤ s.mode ∧ s.mode ≤ 9))

/-- PULSE_START: a due pulse begins, once the open time of the one before is over. -/
def pulseStart (n : Nat) (s : State) : State :=
  let p := s.pulse n
  let b := s.rd (Obj.MAE_PULSE_BACKLOG.i n)
  if s.pulsesRun && s.on (Obj.MAE_PULSE_ENABLE.i n) && decide (0 < b ∧ p.openUntil ≤ s.floorTime) && p.endAt.isNone then
    let w := s.pulseWidth n
    let s1 := (s.putPulse n { p with endAt := some (s.floorTime + 1000 * w), openUntil := s.floorTime + 2000 * w }).wr
      (Obj.MAE_PULSE_LAST_WIDTH.i n) w
    s1.setBacklog n (b - 1)
  else s

def execPulseStart (n : Fin 8) (t : Nat) (s : State) : Host.Outcome State Fault Refusal := .next (pulseStart n.val (s.advance t))

/-- PULSE_WIDTH_END: the contact opens and the pulse is completed. -/
def pulseWidthEnd (n : Nat) (s : State) : State :=
  let p := s.pulse n
  match p.endAt with
  | some t => if t ≤ s.floorTime then
      ((s.putPulse n { p with endAt := none }).inc (Obj.MAE_PULSE_EMITTED.i n)).perf 7 0x04 (s.rd (Obj.MAE_PULSE_OWNER.i n)) else s
  | none => s

def execPulseWidthEnd (n : Fin 8) (t : Nat) (s : State) : Host.Outcome State Fault Refusal := .next (pulseWidthEnd n.val (s.advance t))

/-! ### Signing and reading seals (R247, R250, R251) -/

/-- The key slot of a tenant's billing signing key (R363). -/
def billingSlot (c : Nat) : Nat := 17 + 3 * c

/-- Whether the KSE can sign with a slot: VALID, a P-384 private key, usage ENCRYPT (R364). -/
def State.canSign (s : State) (k : Nat) : Bool :=
  s.rd (Obj.KSE_SLOT_STATE.i k) == 1 && s.rd (Obj.KSE_SLOT_KTYPE.i k) == 3 && s.rd (Obj.KSE_SLOT_USAGE.i k) == 0

/-- SEAL_SIGN: the oldest unsigned record of a tenant is signed where a key can; later than 500 ms it is logged. -/
def sealSign (c : Nat) (s : State) : State :=
  match (s.ring c).find? fun r => r.sig.isNone with
  | none => s
  | some r =>
    if ! s.canSign (billingSlot c) then s
    else
      let (n, s) := s.draw
      let g := Config.ecdsaSign (s.kse.keys.get [] (billingSlot c)) (sha384 r.body) n
      let l := (s.ring c).map fun x => if x.seq = r.seq then { x with sig := some g } else x
      let s1 := ((s.putRing c l).perf 7 0x05 c).wr (Obj.MAE_SEAL_SIG_STATE.i c) (b2n (l.any fun x => x.sig.isNone))
      if r.time + 500000000 < s.floorTime then s1.logAll [0, c] 0x050F (le 8 r.seq) else s1

def execSealSign (comp t : Nat) (s : State) : Host.Outcome State Fault Refusal := .next (sealSign comp (s.advance t))

/-- Whether a requester reaches the seals of a compartment (R250): its own, or C00 any tenant's or a ring still kept. -/
def State.sealView (s : State) (who c : Nat) : Bool :=
  decide (2 ≤ c ∧ c < 34) && (who == c || (who == 0 && (s.exists? c || ! (s.ring c).isEmpty)))

/-- Records from a sequence on, up to a count and 81,800 bytes. -/
def takeRecords : List SealRec → Nat → Nat → Bytes
  | [], _, _ => []
  | _, 0, _ => []
  | r :: l, n + 1, room => if r.size ≤ room then r.bytes ++ takeRecords l n (room - r.size) else []

/-- CMD_MTR_SEAL_READ (R250, R251). -/
def mtrSealRead (q : Req) (s : State) : State × Reply :=
  let c := field q.payload 0 1
  let first := field q.payload 4 8
  let n := field q.payload 12 2
  if ! permitted .all m5to9 q s then (s, .no St.notPermitted)
  else if q.payload.length ≠ 16 ∨ n < 1 ∨ 64 < n then (s, .no St.badPayload)
  else if ! s.sealView q.comp c then (s, .no St.noObject)
  else if s.failed 2 then (s, .no St.unitFailed)
  else if s.rd (Obj.MAE_SEAL_SEQ.i c) < first ∨ s.rd (Obj.MAE_SEAL_SEQ.i c) = 0 then (s, .ok [])
  else if first < s.rd (Obj.MAE_SEAL_OLDEST.i c) ∨ ! (s.ring c).any (fun r => r.seq == first) then (s, .no St.overwritten)
  else (s, .ok (takeRecords ((s.ring c).filter fun r => decide (first ≤ r.seq)) n 81800))

def execCmdMtrSealRead (f : Frame) (s : State) : Host.Outcome State Fault Refusal :=
  command 0x0510 mtrSealRead f s (cancellable := true) (rereads := true)

/-- CMD_MTR_SEAL_ACK (R251): open to C00 and the tenant itself. -/
def mtrSealAck (q : Req) (s : State) : State × Reply :=
  let c := field q.payload 0 1
  let seq := field q.payload 4 8
  if ! permitted .all m5to9 q s then (s, .no St.notPermitted)
  else if q.payload.length ≠ 12 then (s, .no St.badPayload)
  else if ! s.sealView q.comp c then (s, .no St.noObject)
  else if s.failed 2 then (s, .no St.unitFailed)
  else if s.rd (Obj.MAE_SEAL_SEQ.i c) < seq ∨ seq < s.rd (Obj.MAE_SEAL_ACKED.i c) then (s, .no St.badValue)
  else (s.wr (Obj.MAE_SEAL_ACKED.i c) seq, .ok (le 8 seq))

def execCmdMtrSealAck (f : Frame) (s : State) : Host.Outcome State Fault Refusal := command 0x0511 mtrSealAck f s

end Sys2Proof.Machine
end

