-- ==== Sys2Proof/Machine/Events.lean ====
section
/-!
DEFINITION. The event recorder (spec/14): writing queued records to their logs, areas and their sizes, notices, watch
entries, the record window, and the event commands.
-/
namespace Sys2Proof.Machine

/-! ### Records and areas -/

def State.putLog (s : State) (c : Nat) (g : EvLog) : State := { s with evr := { s.evr with logs := s.evr.logs.put c g } }

/-- Blocks in force of a log's areas (Table 14-5). -/
def State.firstBlk (s : State) (c : Nat) : Nat :=
  if c < 2 then s.rd (Obj.EVR_AREA_FIRST_BLK_BASE.i c) else s.rd (Obj.EVR_AREA_FIRST_BLK.i (c - 2))
def State.lastBlk (s : State) (c : Nat) : Nat :=
  if c < 2 then s.rd (Obj.EVR_AREA_LAST_BLK_BASE.i c) else s.rd (Obj.EVR_AREA_LAST_BLK.i (c - 2))

/-- What a log's registers show of its last area (R353). -/
def State.showLast (s : State) (c : Nat) : State :=
  s.wr (Obj.EVR_LAST_OLDEST.b c) (match (s.evLog c).last with | r :: _ => r.1 | [] => nextSeq (s.newest c))

/-- Write a record to its log (R346, R353). -/
def State.writeRecord (s : State) (c : Nat) (r : EvRec) : State :=
  let g := s.evLog c
  let seq := nextSeq (s.newest c)
  let cap := 64 * s.firstBlk c
  let s1 := s.wr (Obj.EVR_SEQ_NEWEST.b c) seq
  if s.on (Obj.EVR_FIRST_FULL.b c) ∨ cap ≤ g.first.length then
    let l := g.last ++ [(seq, r)]
    ((s1.wr (Obj.EVR_FIRST_FULL.b c) 1).putLog c { g with last := l.drop (l.length - 64 * s.lastBlk c) }).showLast c
  else
    let n := g.first.length + 1
    (((s1.wr (Obj.EVR_FIRST_FILL.b c) n).wr (Obj.EVR_FIRST_FULL.b c) (b2n (decide (cap ≤ n)))).putLog c
      { g with first := g.first ++ [(seq, r)] }).showLast c

/-- A notice to each session of the compartment that subscribed to the trigger's family (R359). -/
def State.noticeRecord (s : State) (c : Nat) (r : EvRec) (body : Bytes) : State :=
  { s with sessions := s.sessions.map fun x =>
      if x.comp = c ∧ r.trigger / 256 < 16 ∧ bit x.mask (r.trigger / 256) then x.notice (body.take 60) else x }

/-- Trigger 0x0703 for a compartment that dropped records and can queue again (R351). -/
def State.reportDrops (s : State) (c : Nat) : State :=
  let g := s.evLog c
  if g.lost = 0 ∨ (s.queueRoom c).isNone then s
  else (s.putLog c { g with lost := 0, lostAt := 0 }).log c 0x0703 (le 4 g.lost ++ le 4 0 ++ le 8 g.lostAt)

/-- EVR_RECORD_WRITE (R351): the record at the front of the pending queue is written to its log. -/
def evrRecordWrite (s : State) : State :=
  if s.failed 10 then s
  else match s.evr.pend with
  | [] => s
  | p :: rest =>
    let s1 := { s with evr := { s.evr with pend := rest } }
    let first := ! s1.on (Obj.EVR_FIRST_FULL.b p.comp) && decide ((s1.evLog p.comp).first.length < 64 * s1.firstBlk p.comp)
    let s2 := s1.writeRecord p.comp p.body
    let s3 := s2.noticeRecord p.comp p.body (p.body.bytes (s2.newest p.comp) first)
    s3.compartments.foldl State.reportDrops s3

def execEvrRecordWrite (t : Nat) (s : State) : Host.Outcome State Fault Refusal := .next (evrRecordWrite (s.advance t))

/-! ### Wiping, resizing and removing logs -/

/-- Empty one area of a log (R354): how many records went, and the state after. -/
def State.wipeArea (s : State) (c area : Nat) : Nat × State :=
  let g := s.evLog c
  if area = 0 then
    (g.first.length, (((s.putLog c { g with first := [] }).wr (Obj.EVR_FIRST_FILL.b c) 0).wr (Obj.EVR_FIRST_FULL.b c) 0).wr
      (Obj.EVR_FIRST_BASE.b c) (nextSeq (s.newest c)))
  else (g.last.length, (s.putLog c { g with last := [] }).showLast c)

/-- Raise an event that is written before every other record now waiting (R352, R354). -/
def State.logFirst (s : State) (c trigger : Nat) (detail : Bytes) : State :=
  let s1 := s.log c trigger detail
  if s1.evr.pend.length = s.evr.pend.length + 1 then
    { s1 with evr := { s1.evr with pend := s1.evr.pend.drop s.evr.pend.length ++ s.evr.pend } }
  else s1

/-- A log's areas take new sizes (R355); `f` and `l` are the old ones. -/
def State.resizeLog (s : State) (c f l : Nat) : State :=
  let g := s.evLog c
  let nf := s.firstBlk c
  let nl := s.lastBlk c
  if nf = f ∧ nl = l then s
  else
    let first := g.first.take (64 * nf)
    let last := g.last.drop (g.last.length - 64 * nl)
    let lost := g.first.length - first.length + (g.last.length - last.length)
    let full := s.on (Obj.EVR_FIRST_FULL.b c) || (decide (nf < f) && decide (64 * nf ≤ first.length))
    ((((s.putLog c { g with first := first, last := last }).wr (Obj.EVR_FIRST_FILL.b c) first.length).wr
      (Obj.EVR_FIRST_FULL.b c) (b2n full)).showLast c).log c 0x0706 (le 2 f ++ le 2 nf ++ le 2 l ++ le 2 nl ++ le 4 lost)

/-- A log that starts empty, or is freed with its compartment (R356). -/
def State.clearLog (s : State) (c : Nat) : State :=
  { s with evr := { s.evr with
      logs := s.evr.logs.del c, pend := s.evr.pend.filter fun p => p.comp != c,
      watch := s.evr.watch.filter fun w => w.1 / 16 != c } }.wrs
    [(Obj.EVR_SEQ_NEWEST.b c, 0), (Obj.EVR_FIRST_FILL.b c, 0), (Obj.EVR_FIRST_FULL.b c, 0),
     (Obj.EVR_FIRST_BASE.b c, 1), (Obj.EVR_LAST_OLDEST.b c, 1), (Obj.EVR_DROPPED.b c, 0), (Obj.EVR_EVT_DROPPED.b c, 0)]

/-! ### Watch entries (R349) -/

/-- Whether a watch condition holds for the previous and the present value. -/
def watchFires (cond value prev x : Nat) : Bool :=
  if cond = 0 then x != prev
  else if cond = 1 then prev != value && x == value
  else if cond = 2 then prev == value && x != value
  else if cond = 3 then decide (sgn 32 prev ≤ sgn 32 value ∧ sgn 32 value < sgn 32 x)
  else decide (sgn 32 value < sgn 32 prev ∧ sgn 32 x ≤ sgn 32 value)

def watchKey (c tt : Nat) : Nat := c * 16 + tt

/-- Evaluate one watch entry at a 1 ms boundary. -/
def State.watchOne (s : State) (c tt : Nat) : State :=
  if ! s.on (Obj.EVR_WATCH_CFG_ENABLE.bi c tt) then s
  else
    let w := s.evr.watch.get {} (watchKey c tt)
    let x := ((s.peek c (s.rd (Obj.EVR_WATCH_ADDR.bi c tt))).getD 0) &&& s.rd (Obj.EVR_WATCH_MASK.bi c tt)
    let fires := match w.prev with
      | none => false
      | some p => watchFires (s.rd (Obj.EVR_WATCH_CFG_COND.bi c tt)) (s.rd (Obj.EVR_WATCH_VALUE.bi c tt)) p x
    let go := fires && decide (w.holdEnd ≤ s.floorTime)
    let hold := if go then s.floorTime + s.rd (Obj.EVR_WATCH_CFG_HOLDOFF.bi c tt) * 1000000 else w.holdEnd
    let s1 := { s with evr := { s.evr with watch := s.evr.watch.put (watchKey c tt) { prev := some x, holdEnd := hold } } }
    if go then
      ((s1.inc (Obj.EVR_WATCH_HITS.bi c tt)).wr (Obj.EVR_WATCH_LAST_TIME.bi c tt) s.floorTime).log c 0x0702
        (le 1 tt ++ le 3 0 ++ le 4 (w.prev.getD 0) ++ le 4 x) (list := some (s.rd (Obj.EVR_WATCH_CFG_LIST.bi c tt)))
    else s1

/-- WATCH_EVAL (R349): every enabled entry of a compartment, at a 1 ms boundary, in M2 and M5 to M9. -/
def watchEval (c : Nat) (s : State) : State :=
  if s.failed 10 || ! s.exists? c || ! (s.mode == 2 || decide (5 ≤ s.mode ∧ s.mode ≤ 9)) || s.floorTime % 1000000 != 0 then s
  else (List.range 16).foldl (fun t tt => t.watchOne c tt) s

def execWatchEval (comp : Nat) (t : Nat) (s : State) : Host.Outcome State Fault Refusal := .next (watchEval comp (s.advance t))

/-- WATCH_HOLDOFF_END (R349): the entry may fire again. -/
def watchHoldoffEnd (c tt : Nat) (s : State) : State :=
  let w := s.evr.watch.get {} (watchKey c tt)
  if w.holdEnd ≤ s.floorTime ∧ w.holdEnd ≠ 0 then
    { s with evr := { s.evr with watch := s.evr.watch.put (watchKey c tt) { w with holdEnd := 0 } } }
  else s

def execWatchHoldoffEnd (comp : Nat) (tt : Fin 16) (t : Nat) (s : State) : Host.Outcome State Fault Refusal :=
  .next (watchHoldoffEnd comp tt.val (s.advance t))

/-! ### The record window (R357) -/

/-- EVR_REC_READ (R357): a read of one word of the record window, its status and value put out. -/
def evrRecRead (who : Requester) (w : Nat) (s : State) : State :=
  let c := s.compOf who
  let a := 0x31000 + 4 * w
  if s.failed 10 then s.emit (.word who a St.unitFailed 0)
  else if ! s.exists? c then s.emit (.word who a St.noObject 0)
  else match s.recWord c w with
    | some v => s.emit (.word who a St.ok v)
    | none => s.emit (.word who a St.overwritten 0)

def execEvrRecRead (who : Requester) (word : Fin 64) (s : State) : Host.Outcome State Fault Refusal :=
  .next (evrRecRead who word.val s)

/-! ### Commands (Table 14-3) -/

/-- CMD_EVT_READ (R358). -/
def evtRead (q : Req) (s : State) : State × Reply :=
  let area := field q.payload 0 1
  let f := field q.payload 4 4
  let n := field q.payload 8 2
  if ! permitted .all m5to9 q s then (s, .no St.notPermitted)
  else if q.payload.length ≠ 12 ∨ area > 1 ∨ n = 0 ∨ n > 64 then (s, .no St.badPayload)
  else if s.failed 10 then (s, .no St.unitFailed)
  else
    let g := s.evLog q.comp
    let oldest := if area = 0 then s.rd (Obj.EVR_FIRST_BASE.b q.comp) else s.rd (Obj.EVR_LAST_OLDEST.b q.comp)
    if seqAfter oldest f then (s, .fail St.overwritten (detailRecord 0 0 0x3000C))
    else
      let l := ((if area = 0 then g.first else g.last).filter fun r => ! seqAfter f r.1).take n
      (s, .ok (le 2 l.length ++ le 2 0 ++ l.flatMap fun r => r.2.bytes r.1 (area == 0)))

def execCmdEvtRead (f : Frame) (s : State) : Host.Outcome State Fault Refusal :=
  command 0x0701 evtRead f s (cancellable := true) (rereads := true)

/-- CMD_EVT_SUBSCRIBE (R359). -/
def evtSubscribe (q : Req) (s : State) : State × Reply :=
  if ! permitted .all m5to9 q s then (s, .no St.notPermitted)
  else if q.payload.length ≠ 4 then (s, .no St.badPayload)
  else if s.failed 10 then (s, .no St.unitFailed)
  else ({ s with sessions := s.sessions.map fun x => if x.id = q.sid then { x with mask := field q.payload 0 2 } else x }, .ok [])

def execCmdEvtSubscribe (f : Frame) (s : State) : Host.Outcome State Fault Refusal := command 0x0702 evtSubscribe f s

/-- CMD_EVT_WIPE (R354). -/
def evtWipe (q : Req) (s : State) : State × Reply :=
  let c := field q.payload 0 1
  let area := field q.payload 1 1
  if ! permitted .all m5to9 q s || (q.comp != 0 && decide (2 ≤ q.payload.length) && area == 0) then (s, .no St.notPermitted)
  else if q.payload.length ≠ 4 ∨ area > 1 ∨ field q.payload 2 2 ≠ 0 then (s, .no St.badPayload)
  else if (q.comp ≠ 0 ∧ c ≠ q.comp) ∨ ! s.exists? c then (s, .no St.noObject)
  else if s.failed 10 then (s, .no St.unitFailed)
  else
    let (n, s1) := s.wipeArea c area
    (s1.logFirst c 0x0705 (le 1 area ++ le 3 0 ++ le 4 n ++ le 1 q.comp), .ok (le 4 n))

def execCmdEvtWipe (f : Frame) (s : State) : Host.Outcome State Fault Refusal := command 0x0703 evtWipe f s

end Sys2Proof.Machine
end

