-- ==== Sys2Proof/Machine/Net.lean ====
section
/-!
DEFINITION. The network switch and the protocols of the application cores (spec/12 R298 to R312): classification,
forwarding, backbone redundancy, BACnet/IP and MQTT through service entries.
-/
namespace Sys2Proof.Machine

/-! ### Ports and cages -/

/-- Whether NSW runs: not failed, its buffers in DRAM present (Table 2-7), in a mode with its clock (Table 2-4). -/
def State.nswOn (s : State) : Bool :=
  ! s.failed 5 && ! s.failed 14 && ! s.halted 4 && (s.mode == 2 || decide (4 ≤ s.mode ∧ s.mode ≤ 9))

def State.cage (s : State) (c : Nat) : Cage := if c = 0 then s.nsw.cageA else s.nsw.cageB

def State.putCage (s : State) (c : Nat) (x : Cage) : State :=
  { s with nsw := if c = 0 then { s.nsw with cageA := x } else { s.nsw with cageB := x } }

/-- Whether PRP runs (R305, R306). -/
def State.prp (s : State) : Bool := s.rd Obj.NSW_BB_MODE.f == 0 && s.mode != 2

/-- Whether a port is in use in the present mode: cage B is off in SINGLE and in M2 (R305, R36), M2 keeps cage A only,
M4 the first 1000BASE-T port only (Table 2-1). -/
def State.portUsed (s : State) (p : Nat) : Bool :=
  s.nswOn && (p == 6 || s.on (Obj.NSW_PORT_CFG_ENABLE.i p)) &&
  (if s.mode = 2 then p == 0 || p == 6
   else if s.mode = 4 then p == 2 || p == 6
   else p != 1 || s.rd Obj.NSW_BB_MODE.f != 2)

/-- Whether a port sends: in use, and a cage with its link. -/
def State.portSends (s : State) (p : Nat) : Bool := s.portUsed p && (decide (2 ≤ p) || (s.cage p).link)

/-- Send a frame out of a port under a compartment tag. -/
def State.egress (s : State) (tag : Nat) (p : Nat) : State :=
  if s.portSends p then
    let s1 := (s.inc (Obj.NSW_PORT_TX_FRAMES.i p)).perf 11 0x01 tag
    (if p = 6 then s1.perf 11 0x08 tag else s1).emit (.eth p tag)
  else s

/-- A frame accepted on a port, under the owner of its VLAN entry (Table 19-2). -/
def State.ingress (s : State) (p tag len : Nat) : State :=
  ((s.inc (Obj.NSW_PORT_RX_FRAMES.i p)).perf 11 0x00 tag).perf 11 0x02 tag ((len + 63) / 64)

/-- A frame refused for its VLAN or its form. -/
def State.dropFrame (s : State) (r : Row) (p : Nat) : State := (s.inc (r.i p)).perf 11 0x04 vendorTag

/-- Whether a MAC address is a group address. -/
def groupMac (m : Nat) : Bool := bit m 40

/-! ### LAN state (R307) -/

def State.lanOk (c : Nat) : Row := if c = 0 then Obj.NSW_PRP_LAN_A_OK else Obj.NSW_PRP_LAN_B_OK

/-- Judge a LAN: up while its cage has its link and a frame arrived in the last 6,000 ms; each change is logged. -/
def State.judgeLan (s : State) (c : Nat) : State :=
  let g := s.cage c
  let up := s.portUsed c && g.link && g.lastFrame.any fun t => decide (s.floorTime < t + 6000000000)
  let f := (State.lanOk c).f
  if up ∧ ! s.on f then (s.wr f 1).log 0 0x0D02 (le 1 c ++ le 3 0)
  else if ! up ∧ s.on f then ((s.wr f 0).set1 Obj.NSW_EVT_LAN.f).log 0 0x0D01 (le 1 c ++ le 3 0)
  else s

/-- LINK_CHANGE (R307): a cage whose module is not accepted keeps its link down (R299). -/
def linkChange (c : Nat) (up : Bool) (s : State) : State :=
  let ok := up && s.portUsed c && s.rd (Obj.NSW_PORT_STATUS_MEDIA.i c) == 1
  ((s.putCage c { s.cage c with link := ok }).wr (Obj.NSW_PORT_STATUS_SPEED.i c) (if ok then 3 else 0)).judgeLan c

def execLinkChange (cage : Fin 2) (up : Bool) (t : Nat) (s : State) : Host.Outcome State Fault Refusal :=
  .next (linkChange cage.val up (s.advance t))

/-- LAN_TIMEOUT (R307). -/
def lanTimeout (c : Nat) (s : State) : State := s.judgeLan c

def execLanTimeout (cage : Fin 2) (t : Nat) (s : State) : Host.Outcome State Fault Refusal :=
  .next (lanTimeout cage.val (s.advance t))

/-- SFP_INSERT (R299): a module is accepted when it declares 10 Gbit/s compliance and at most 1.0 W. -/
def sfpInsert (c : Nat) (m : SfpModule) (s : State) : State :=
  let media := if ! m.present then 0 else if m.readable && m.baseR && decide (m.powerMw ≤ 1000) then 1 else 2
  let s1 := s.wr (Obj.NSW_PORT_STATUS_MEDIA.i c) media
  if media = 1 then s1
  else ((s1.putCage c { s1.cage c with link := false }).wr (Obj.NSW_PORT_STATUS_SPEED.i c) 0).judgeLan c

def execSfpInsert (cage : Fin 2) (m : SfpModule) (t : Nat) (s : State) : Host.Outcome State Fault Refusal :=
  .next (sfpInsert cage.val m (s.advance t))

/-! ### Address table (R302) -/

/-- The address table after a frame from a unicast address: 8,192 entries, full means not learned. -/
def State.learn (s : State) (vid mac p : Nat) : State :=
  if groupMac mac then s
  else
    let rest := s.nsw.macs.filter fun e => ! (e.vid == vid && e.mac == mac)
    if rest.length < 8192 then { s with nsw := { s.nsw with macs := ⟨vid, mac, p, s.floorTime⟩ :: rest } } else s

/-- The port an address was learned on. -/
def State.learned (s : State) (vid mac : Nat) : Option Nat :=
  (s.nsw.macs.find? fun e => e.vid == vid && e.mac == mac).map (·.port)

/-- ADDRESS_AGEING (R302): an entry not heard for 300 s leaves the table. -/
def addressAgeing (mac vid : Nat) (s : State) : State :=
  { s with nsw := { s.nsw with macs := s.nsw.macs.filter fun e =>
      ! (e.vid == vid && e.mac == mac && decide (e.seen + 300000000000 ≤ s.floorTime)) } }

def execAddressAgeing (mac vid t : Nat) (s : State) : Host.Outcome State Fault Refusal :=
  .next (addressAgeing mac vid (s.advance t))

/-! ### VLANs (R301 to R303) -/

/-- The enabled VLAN entry of a VID. -/
def State.vlanOf (s : State) (vid : Nat) : Option Nat :=
  (List.range 64).find? fun v => s.on (Obj.NSW_VLAN_ENABLE.i v) && s.rd (Obj.NSW_VLAN_VID.i v) == vid

/-- Whether NSW port 2 to 5 is a member of a VLAN entry. -/
def State.member (s : State) (v p : Nat) : Bool := decide (2 ≤ p ∧ p ≤ 5) && bit (s.rd (Obj.NSW_VLAN_MEMBERS.i v)) (p - 2)

/-- Ingress classification on ports 2 to 5 (Table 12-2): the VLAN entry, or none where the frame is discarded. -/
def State.classify (s : State) (p : Nat) (vid : Option Nat) : Option Nat :=
  let pvid := s.rd (Obj.NSW_PORT_PVID.i p)
  let tagged : Bool := match vid with | some v => v != 0 | none => false
  let v := if tagged then vid.getD 0 else pvid
  if s.rd (Obj.NSW_PORT_CFG_MODE.i p) = 0 ∧ tagged ∧ v ≠ pvid then none
  else if ! tagged ∧ pvid = 0 then none
  else (s.vlanOf v).filter fun e => s.member e p

/-- The capacity of a token bucket, 64 KiB in thousandths of a bit. -/
def burst : Nat := 65536 * 8 * 1000

/-- Take a frame's length from a VLAN entry's bucket (R303): the new state and whether the frame passes. -/
def State.meter (s : State) (v len : Nat) : State × Bool :=
  let b := s.nsw.buckets.get {} v
  let missing := b.missing - (s.floorTime - b.at_) * s.rd (Obj.NSW_VLAN_RATE.i v)
  let need := len * 8 * 1000
  let ok := decide (missing + need ≤ burst)
  ({ s with nsw := { s.nsw with buckets := s.nsw.buckets.put v ⟨if ok then missing + need else missing, s.floorTime⟩ } }, ok)

/-- Forward an accepted frame of a VLAN entry: to the learned port, or flooded to its members; toward the internal port
through the bucket. -/
def State.forward (s : State) (v : Nat) (fr : EthFrame) : State :=
  let vid := s.rd (Obj.NSW_VLAN_VID.i v)
  let tag := s.rd (Obj.NSW_VLAN_OWNER.i v)
  let all := ([2, 3, 4, 5].filter (s.member v)) ++ [6]
  let out := (match if groupMac fr.dst then none else s.learned vid fr.dst with
    | some p => all.filter (· == p)
    | none => all).filter fun p => p != fr.port.val
  let s1 := (out.filter fun p => p != 6 && s.portSends p).foldl (fun t p => (t.egress tag p).inc (Obj.NSW_VLAN_TX_FRAMES.i v)) s
  if out.contains 6 then
    match s1.meter v fr.len with
    | (s2, true) => s2.egress tag 6
    | (s2, false) => (s2.inc (Obj.NSW_VLAN_DROP_RATE.i v)).perf 11 0x05 tag
  else s1

/-- A frame on a 1000BASE-T port (R301, R302). -/
def State.accessFrame (s : State) (fr : EthFrame) : State :=
  if fr.ethertype = 0x8808 then s
  else match s.classify fr.port.val fr.vid with
    | none => s.dropFrame Obj.NSW_PORT_DROP_VLAN fr.port.val
    | some v =>
      let s1 := (s.ingress fr.port.val (s.rd (Obj.NSW_VLAN_OWNER.i v)) fr.len).inc (Obj.NSW_VLAN_RX_FRAMES.i v)
      (s1.learn (s.rd (Obj.NSW_VLAN_VID.i v)) fr.src fr.port.val).forward v fr

/-- A frame from the internal port: of a tenant VLAN, or of the backbone, which goes out on every running cage. -/
def State.internalFrame (s : State) (fr : EthFrame) : State :=
  match (fr.vid.filter fun v => v != s.rd Obj.NSW_BB_VID.f).bind s.vlanOf with
  | some v => ((s.ingress 6 (s.rd (Obj.NSW_VLAN_OWNER.i v)) fr.len).learn (s.rd (Obj.NSW_VLAN_VID.i v)) fr.src 6).forward v fr
  | none =>
    let s1 := (s.ingress 6 vendorTag fr.len).learn (s.rd Obj.NSW_BB_VID.f) fr.src 6
    [0, 1].foldl (fun t p => t.egress vendorTag p) s1

/-! ### Backbone (R304 to R308) -/

/-- The nodes table and its count (R306). -/
def State.putNodes (s : State) (l : List (Nat × Nat)) : State :=
  { s with nsw := { s.nsw with nodes := l } }.wr Obj.NSW_PRP_NODES.f l.length

/-- A node is heard: 512 entries, full means not added. -/
def State.hearNode (s : State) (mac : Nat) : State :=
  let rest := s.nsw.nodes.filter fun n => n.1 != mac
  if rest.length < 512 then s.putNodes ((mac, s.floorTime) :: rest) else s

/-- NODE_FORGET_TIME (R306): 60 s without a frame. -/
def nodeForgetTime (mac : Nat) (s : State) : State :=
  let l := s.nsw.nodes.filter fun n => ! (n.1 == mac && decide (n.2 + 60000000000 ≤ s.floorTime))
  if l.length = s.nsw.nodes.length then s else s.putNodes l

def execNodeForgetTime (mac t : Nat) (s : State) : Host.Outcome State Fault Refusal := .next (nodeForgetTime mac (s.advance t))

/-- Whether a frame repeats one of the last 400 ms (R306); PTP messages are exempt (R309). -/
def State.duplicate (s : State) (fr : EthFrame) : Bool :=
  ! fr.ptp && fr.rct.any fun r => s.nsw.dups.any fun d => d.1 == fr.src && d.2.1 == r.2 && decide (s.floorTime < d.2.2 + 400000000)

/-- Remember a frame for duplicate discard; forgotten entries go. -/
def State.remember (s : State) (fr : EthFrame) : State :=
  match if fr.ptp then none else fr.rct with
  | none => s
  | some r =>
    let live := s.nsw.dups.filter fun d => decide (s.floorTime < d.2.2 + 400000000)
    { s with nsw := { s.nsw with dups := (fr.src, r.2, s.floorTime) :: live } }

/-- In LINE mode, whether one more group frame passes in the present second of a cage (R308), and the state after. -/
def State.groupLimit (s : State) (c : Nat) : State × Bool :=
  let g := s.cage c
  let g1 := if g.groupAt + 1000000000 ≤ s.floorTime then { g with groupAt := s.floorTime, groups := 0 } else g
  if g1.groups < 10000 then (s.putCage c { g1 with groups := g1.groups + 1 }, true) else (s.putCage c g1, false)

/-- A frame of the backbone that is neither a duplicate nor foreign: in LINE mode it is bridged (R308). -/
def State.backboneIn (s : State) (fr : EthFrame) : State :=
  let c := fr.port.val
  let bb := s.rd Obj.NSW_BB_VID.f
  if s.rd Obj.NSW_BB_MODE.f = 1 ∧ s.mode ≠ 2 then
    if groupMac fr.dst then
      match s.groupLimit c with
      | (s1, true) => (s1.egress vendorTag (1 - c)).egress vendorTag 6
      | (s1, false) => s1
    else if s.learned bb fr.dst = some 6 then s.egress vendorTag 6
    else s.egress vendorTag (1 - c)
  else s.egress vendorTag 6

/-- A frame on a cage (R304, R306, R307). Its trailer names LAN A as 0xA and LAN B as 0xB. -/
def State.cageFrame (s : State) (fr : EthFrame) : State :=
  let c := fr.port.val
  let bb := s.rd Obj.NSW_BB_VID.f
  let s0 := (s.putCage c { s.cage c with lastFrame := some s.floorTime }).judgeLan c
  if ! (fr.vid.isNone || (fr.vid == some bb && bb != 0)) then s0.dropFrame Obj.NSW_PORT_DROP_VLAN c
  else
    let s1 := (s0.ingress c vendorTag fr.len).learn bb fr.src c
    if s1.prp then
      let wrong := fr.rct.any fun r => r.1 != 0xA + c
      let s2 := (if wrong then s1.inc Obj.NSW_PRP_WRONG_LAN.f else s1).hearNode fr.src
      if fr.supervision then s2
      else if s2.duplicate fr then s2.perf 11 0x06 vendorTag
      else (s2.remember fr).backboneIn fr
    else s1.backboneIn fr

/-- The longest frame of a port (R300). -/
def longest (p : Nat) : Nat := if p < 2 then 1528 else 1522

/-- ETH_FRAME_RX (R300 to R308). -/
def ethFrameRx (fr : EthFrame) (s : State) : State :=
  let p := fr.port.val
  if ! s.portUsed p || (decide (p < 2) && ! (s.cage p).link) then s
  else if p = 6 then s.internalFrame fr
  else if fr.len < 64 ∨ longest p < fr.len ∨ fr.ethertype = 0x88A8 then s.dropFrame Obj.NSW_PORT_DROP_FORM p
  else if ! fr.fcsOk then s
  else if p < 2 then s.cageFrame fr
  else s.accessFrame fr

def execEthFrameRx (fr : EthFrame) (t : Nat) (s : State) : Host.Outcome State Fault Refusal :=
  .next (ethFrameRx fr (s.advance t))

/-- PRP_SUPERVISION (R306): a supervision frame on both cages. -/
def prpSupervision (s : State) : State :=
  if s.nswOn && s.prp then [0, 1].foldl (fun t p => t.egress vendorTag p) s else s

def execPrpSupervision (t : Nat) (s : State) : Host.Outcome State Fault Refusal := .next (prpSupervision (s.advance t))

/-! ### Service entries (R310 to R312) -/

/-- Whether the application cores serve BACnet/IP and MQTT (Table 2-1, Table 2-7). -/
def State.pcxServes (s : State) : Bool :=
  s.nswOn && ! s.halted 1 && decide (5 ≤ s.mode) && ! (s.failed 6 && s.failed 7 && s.failed 8 && s.failed 9)

/-- Whether a compartment's MQTT client may be connected: a broker is set, and the key slot it names is a VALID P-384
signing key of its own (R365, R377). -/
def State.mqttUp (s : State) (c : Nat) : Bool :=
  let k := s.rd (Obj.KSE_TLS_CLIENT_SLOT.b c)
  s.rd (Obj.NSW_SVC_MQTT_BROKER.i c) != 0 && s.rd (Obj.KSE_SLOT_STATE.i k) == 1 && s.rd (Obj.KSE_SLOT_OWNER.i k) == c &&
    s.rd (Obj.KSE_SLOT_KTYPE.i k) == 3 && s.rd (Obj.KSE_SLOT_USAGE.i k) == 0

def State.service (s : State) (m : Nat) : Service := s.nsw.services.get {} m

def State.putService (s : State) (m : Nat) (x : Service) : State :=
  { s with nsw := { s.nsw with services := s.nsw.services.put m x } }

/-- The enabled entries of a compartment under a protocol (0 BACnet/IP, 1 MQTT). -/
def State.entriesOf (s : State) (c sv : Nat) : List Nat :=
  (List.range 4096).filter fun m =>
    s.on (Obj.NSW_SE_ENABLE.i m) && s.rd (Obj.NSW_SE_SERVICE.i m) == sv && s.rd (Obj.NSW_SE_OWNER.i m) == c

/-- Whether an entry may be written: WRITABLE, and PIMG_SET on its point is not refused (R310, R145). -/
def State.serviceWritable (s : State) (m : Nat) : Bool :=
  s.on (Obj.NSW_SE_WRITABLE.i m) && ! s.setRefused (s.rd (Obj.NSW_SE_POINT.i m))

/-- Object types of ASHRAE 135. -/
def binaryTypes : List Nat := [3, 4, 5]
def multiTypes : List Nat := [13, 19]
def commandable : List Nat := [1, 2, 4, 5, 19]

/-- What a read of an object returns: bit 0 of the point for a binary object (R311). -/
def State.objectValue (s : State) (m : Nat) : Nat :=
  let v := s.pt (s.rd (Obj.NSW_SE_POINT.i m))
  if binaryTypes.contains (s.rd (Obj.NSW_SE_OBJ_TYPE.i m)) then v % 2 else v

/-- Answers of the services: read value, write acknowledged, WRITE_ACCESS_DENIED, subscribed, I-Am, I-Have,
SERVICE_REQUEST_DENIED, COV notification, publish, unknown object, not supported, value out of range. -/
def svRead : Nat := 0
def svWritten : Nat := 1
def svDenied : Nat := 2
def svSubscribed : Nat := 3
def svIAm : Nat := 4
def svIHave : Nat := 5
def svRefused : Nat := 6
def svNotify : Nat := 7
def svPublish : Nat := 8
def svUnknown : Nat := 9
def svUnsupported : Nat := 10
def svRange : Nat := 11

/-- Write a commandable object at a priority: the highest active priority is written to the point, or the SAFE stop
value where none is active (R311). -/
def State.command (s : State) (m prio : Nat) (v : Option Nat) : State :=
  let x := s.service m
  let arr := (x.prio ++ List.replicate (16 - x.prio.length) none).set (prio - 1) v
  let p := s.rd (Obj.NSW_SE_POINT.i m)
  let win := ((arr.filterMap id).head?).getD (s.rd (Obj.SCE_STOP_SAFE.i p))
  (s.putService m { x with prio := arr }).pimgWrite [PtWrite.whole p win]

/-- Whether a value suits the object: 1 to 65,535 for multi-state objects. -/
def objectRange (ty : Nat) (v : Nat) : Bool := ! multiTypes.contains ty || decide (1 ≤ v ∧ v ≤ 65535)

/-- WriteProperty through an entry. -/
def State.writeObject (s : State) (c m : Nat) (rq : BacnetRequest) : State :=
  let p := s.rd (Obj.NSW_SE_POINT.i m)
  let ty := s.rd (Obj.NSW_SE_OBJ_TYPE.i m)
  let v := rq.write.map fun w => if binaryTypes.contains ty then w.toNat % 2 else w.toNat
  if ! s.serviceWritable m then s.emit (.service c svDenied p 0)
  else if rq.priority = 0 ∨ 16 < rq.priority ∨ (v.any fun x => ! objectRange ty x) = true then s.emit (.service c svRange p 0)
  else if commandable.contains ty then (s.command m rq.priority v).emit (.service c svWritten p 0)
  else match v with
    | some x => (s.pimgWrite [PtWrite.whole p x]).emit (.service c svWritten p 0)
    | none => s.emit (.service c svRange p 0)

/-- BACNET_REQUEST (R310, R311). `kind` is 0 ReadProperty(Multiple), 1 WriteProperty(Multiple), 2 SubscribeCOV,
3 Who-Is, 4 Who-Has, 5 TimeSynchronization, DeviceCommunicationControl or ReinitializeDevice; no other is supported. -/
def bacnetRequest (rq : BacnetRequest) (s : State) : State :=
  if ! s.pcxServes then s
  else match (s.vlanOf rq.vlan).map fun v => s.rd (Obj.NSW_VLAN_OWNER.i v) with
  | none => s
  | some c =>
    let es := s.entriesOf c 0
    if es.isEmpty then s
    else if rq.kind = 3 then s.emit (.service c svIAm 0 (s.rd (Obj.NSW_SVC_BAC_DEV_INST.i c)))
    else if rq.kind = 5 then s.emit (.service c svRefused 0 0)
    else if 5 < rq.kind then s.emit (.service c svUnsupported 0 0)
    else match es.find? fun m => s.rd (Obj.NSW_SE_OBJ_TYPE.i m) == rq.objType && s.rd (Obj.NSW_SE_INSTANCE.i m) == rq.inst with
      | none => if rq.kind = 4 then s else s.emit (.service c svUnknown 0 0)
      | some m =>
        let p := s.rd (Obj.NSW_SE_POINT.i m)
        if rq.kind = 0 then s.emit (.service c svRead p (s.objectValue m))
        else if rq.kind = 1 then s.writeObject c m rq
        else if rq.kind = 2 then (s.putService m { s.service m with subscribed := true }).emit (.service c svSubscribed p 0)
        else s.emit (.service c svIHave p (s.rd (Obj.NSW_SVC_BAC_DEV_INST.i c)))

def execBacnetRequest (rq : BacnetRequest) (t : Nat) (s : State) : Host.Outcome State Fault Refusal :=
  .next (bacnetRequest rq (s.advance t))

/-- MQTT_MESSAGE (R310, R312): a message that may not be written is discarded. -/
def mqttMessage (g : MqttMessage) (s : State) : State :=
  if ! s.pcxServes || ! s.mqttUp g.comp then s
  else match (s.entriesOf g.comp 1).find? fun m => s.rd (Obj.NSW_SE_POINT.i m) == g.point, g.value with
    | some m, some v => if s.serviceWritable m then s.pimgWrite [PtWrite.whole g.point v.toNat] else s
    | _, _ => s

def execMqttMessage (msg : MqttMessage) (t : Nat) (s : State) : Host.Outcome State Fault Refusal :=
  .next (mqttMessage msg (s.advance t))

/-- The number a point holds under FORMAT (R310). -/
def readAs (format v : Nat) : Fp :=
  if format = 0 then f64.unpack v else if format = 1 then Fp.ofInt (sgn 64 v) else Fp.ofInt v

/-- The magnitude of a number. -/
def Fp.abs (x : Fp) : Fp := if x.lt (Fp.ofInt 0) then x.neg else x

/-- Whether a value moved by COV_INC or more since another (R311, R312). -/
def moved (format inc old new : Nat) : Bool :=
  ! (Fp.abs ((readAs format new).add (readAs format old).neg)).lt (f32.unpack inc)

/-- COV_NOTIFY (R311, R312): a change since the last notice sends the next, PERIOD_MIN after it at the earliest. -/
def covNotify (m : Nat) (s : State) : State :=
  let sv := s.rd (Obj.NSW_SE_SERVICE.i m)
  let c := s.rd (Obj.NSW_SE_OWNER.i m)
  let x := s.service m
  let p := s.rd (Obj.NSW_SE_POINT.i m)
  let v := s.pt p
  let wanted : Bool := if sv = 0 then x.subscribed else s.mqttUp c
  let due := match x.last with
    | none => true
    | some (old, at_) => moved (s.rd (Obj.NSW_SE_FORMAT.i m)) (s.rd (Obj.NSW_SE_COV_INC.i m)) old v &&
        decide (at_ + s.rd (Obj.NSW_SE_PERIOD_MIN.i m) * 1000000 ≤ s.floorTime)
  if s.pcxServes && s.on (Obj.NSW_SE_ENABLE.i m) && wanted && due then
    (s.putService m { x with last := some (v, s.floorTime) }).emit (.service c (if sv = 0 then svNotify else svPublish) p v)
  else s

def execCovNotify (entry : Fin 4096) (t : Nat) (s : State) : Host.Outcome State Fault Refusal :=
  .next (covNotify entry.val (s.advance t))

end Sys2Proof.Machine
end

