-- ==== Sys2Proof/Machine/Legacy.lean ====
section
/-!
DEFINITION. The legacy bus block (spec/12 R313 to R319, R323, spec/21 R473): polls and writes, one transaction at a
time on each port, its answers and timeouts, DALI-2 events, MS/TP frames and the M-Bus cut-off.
-/
namespace Sys2Proof.Machine

def State.lport (s : State) (p : Nat) : LbxPort := s.lbx.ports.get {} p

def State.putLport (s : State) (p : Nat) (x : LbxPort) : State :=
  { s with lbx := { s.lbx with ports := s.lbx.ports.put p x } }

/-- The kind of a port (Table 12-4). -/
def isRs485 (p : Nat) : Bool := decide (p < 8)
def isDali (p : Nat) : Bool := decide (8 ≤ p ∧ p < 14)
def isMbus (p : Nat) : Bool := decide (14 ≤ p)

def State.lmode (s : State) (p : Nat) : Nat := s.rd (Obj.LBX_PORT_MODE.i p)

/-- Whether a port should run in the present mode (R315, Table 2-7). -/
def State.lbxOn (s : State) (p : Nat) : Bool :=
  s.lmode p != 0 && ! s.failed 4 && ! s.failed 14 && decide (5 ≤ s.mode ∧ s.mode ≤ 9)

/-! ### Mappings -/

def State.lmapOn (s : State) (m : Nat) : Bool := s.on (Obj.LBX_MAP_ENABLE.i m)
def State.lmapPort (s : State) (m : Nat) : Nat := s.rd (Obj.LBX_MAP_PORT.i m)
def State.lmapPoint (s : State) (m : Nat) : Nat := s.rd (Obj.LBX_MAP_POINT.i m)
def State.lmapWrite (s : State) (m : Nat) : Bool := s.on (Obj.LBX_MAP_DIR.i m)

/-- The enabled mappings of a port. -/
def State.lmapsOf (s : State) (p : Nat) : List Nat :=
  (List.range 2048).filter fun m => s.lmapOn m && s.lmapPort m == p

def State.markStale (s : State) (m : Nat) (v : Nat) : State := s.wr (Obj.PIMG_ATTR_STALE.i (s.lmapPoint m)) v

/-! ### What goes out on a bus -/


/-- The registers a Modbus FORMAT takes, from a point's value (R310 reads an integer point as an integer, a real one as
binary64). -/
def modbusOut (format v : Nat) : Bytes :=
  if format = 1 ∨ format = 2 then be 2 (v % 65536)
  else if format = 3 then be 4 (v % 2 ^ 32)
  else if format = 4 then be 2 (v % 65536) ++ be 2 (v / 65536 % 65536)
  else
    let x := f32.bits (f64.unpack v)
    if format = 5 then be 4 x else be 2 (x % 65536) ++ be 2 (x / 65536 % 65536)

/-- Registers of a FORMAT. -/
def modbusRegs (format : Nat) : Nat := if format = 1 ∨ format = 2 then 1 else 2

/-- A Modbus request: unit, function code, first register or coil, then what the function needs (R317). -/
def modbusRequest (format addr select v : Nat) : Bytes :=
  let fc := bits select 16 8
  let head := le 1 (addr % 256) ++ le 1 fc ++ be 2 (select % 65536)
  if fc = 1 ∨ fc = 2 then head ++ be 2 1
  else if fc = 3 ∨ fc = 4 then head ++ be 2 (modbusRegs format)
  else if fc = 5 then head ++ be 2 (if v % 2 = 1 then 0xFF00 else 0)
  else if fc = 6 then head ++ (modbusOut format v).take 2
  else head ++ be 2 (modbusRegs format) ++ le 1 (2 * modbusRegs format) ++ modbusOut format v

/-- The address byte of a DALI forward frame: short address, group or broadcast (R318, IEC 62386-102). -/
def daliAddress (addr : Nat) : Nat :=
  if addr % 256 = 0xFF then 0xFE else if addr % 256 < 64 then 2 * (addr % 64) else 0x80 + 2 * (addr % 16)

/-- The frame of a DALI mapping: DIRECT ARC POWER CONTROL, a query of control gear, or a query of an input device. -/
def daliRequest (write : Bool) (addr select v : Nat) : Bytes :=
  let k := select % 256
  if write then le 1 (daliAddress addr) ++ le 1 (v % 256)
  else if k = 0 then le 1 (daliAddress addr + 1) ++ le 1 0xA0
  else if k = 1 then le 1 (daliAddress addr + 1) ++ le 1 0x90
  else le 1 (2 * (addr % 64) + 1) ++ le 1 (bits select 8 8) ++ le 1 0x8C

/-- A ReadProperty or WriteProperty: MAC address, object identifier, property, and for a write priority and value
(R316). -/
def mstpRequest (write : Bool) (addr select prio v : Nat) : Bytes :=
  le 1 (addr % 256) ++ be 4 select ++ be 3 (bits addr 8 22) ++ if write then le 1 prio ++ le 8 v else []

/-- What the port sends for mapping `m` with the point's value `v`. -/
def State.lbxRequest (s : State) (m v : Nat) : Bytes :=
  let p := s.lmapPort m
  let addr := s.rd (Obj.LBX_MAP_ADDR.i m)
  let select := s.rd (Obj.LBX_MAP_SELECT.i m)
  if isDali p then daliRequest (s.lmapWrite m) addr select v
  else if isMbus p then le 1 0x5B ++ le 1 (addr % 256)
  else if s.lmode p = 1 then mstpRequest (s.lmapWrite m) addr select (s.rd (Obj.LBX_MAP_PRIORITY.i m)) v
  else modbusRequest (s.rd (Obj.LBX_MAP_FORMAT.i m)) addr select v

/-- SND_NKE to a primary address (R319). -/
def State.sndNke (s : State) (p addr : Nat) : State := s.emit (.legacy p 0xFFFF (le 1 0x40 ++ le 1 (addr % 256)))

/-! ### Starting and stopping ports -/

/-- A port stops (R315, R323): its transactions are abandoned and its read points become stale. -/
def State.stopLegacy (s : State) (p : Nat) : State :=
  let x := s.lport p
  let s1 := s.putLport p { x with running := false, waiting := [], cur := none, nextStation := none }
  ((s1.lmapsOf p).filter fun m => ! s1.lmapWrite m).foldl (fun t m => t.markStale m 1) s1

/-- A port starts: an M-Bus port resets each address in use, a DALI-2 port enables the events of its instances (R318,
R319). -/
def State.startLegacy (s : State) (p : Nat) : State :=
  let s1 := s.putLport p { s.lport p with running := true }
  let addrs := ((s1.lmapsOf p).map fun m => s1.rd (Obj.LBX_MAP_ADDR.i m)).eraseDups
  if isMbus p then addrs.foldl (fun t a => t.sndNke p a) s1
  else if isDali p then
    ((s1.lmapsOf p).filter fun m => ! s1.lmapWrite m && decide (2 ≤ s1.rd (Obj.LBX_MAP_SELECT.i m) % 256)).foldl
      (fun t m => t.emit (.legacy p m (le 1 (2 * (t.rd (Obj.LBX_MAP_ADDR.i m) % 64) + 1) ++
        le 1 (bits (t.rd (Obj.LBX_MAP_SELECT.i m)) 8 8) ++ le 1 0x62))) s1
  else s1

/-- Every legacy port, after a change of mode, configuration or unit failure. Waiting transactions of mappings that are
gone are dropped. -/
def State.placeLegacy (s : State) : State :=
  (List.range 16).foldl (fun t p =>
    let x := t.lport p
    if t.lbxOn p then
      let u := t.putLport p { x with waiting := x.waiting.filter fun w => t.lmapOn w.2 && t.lmapPort w.2 == p }
      if x.running then u else u.startLegacy p
    else if x.running then t.stopLegacy p else t) s

/-! ### Transactions (R314, R315) -/

/-- The value a write mapping sent last. -/
def State.sentOf (s : State) (m : Nat) : Option Nat := s.lbx.sentValue.get none m

/-- LBX_POLL_DUE (R314): a poll, a refresh, or an output step that changed the value of a write mapping. One that falls
due while the previous one waits is merged; a poll or refresh so merged counts in LATE. -/
def lbxPollDue (m : Nat) (s : State) : State :=
  let p := s.lmapPort m
  let x := s.lport p
  let changed := s.lmapWrite m && s.sentOf m != some (s.pt (s.lmapPoint m))
  let periodic := ! s.lmapWrite m || s.rd (Obj.LBX_MAP_PERIOD.i m) != 0
  if ! s.lmapOn m || ! x.running || ! (changed || periodic) then s
  else if x.waiting.any fun w => w.2 == m then (if changed then s else s.inc (Obj.LBX_PORT_LATE.i p))
  else s.putLport p { x with waiting := x.waiting ++ [(s.floorTime, m)] }

def execLbxPollDue (map : Fin 2048) (t : Nat) (s : State) : Host.Outcome State Fault Refusal :=
  .next (lbxPollDue map.val (s.advance t))

/-- The first of two due transactions: due time, then mapping index (R314). -/
def firstDue : List (Nat × Nat) → Option (Nat × Nat)
  | [] => none
  | w :: r => match firstDue r with
    | none => some w
    | some v => if w.1 < v.1 ∨ (w.1 = v.1 ∧ w.2 ≤ v.2) then some w else some v

/-- Whether a transaction gets no answer: a Modbus broadcast (R317), and DIRECT ARC POWER CONTROL (R318). -/
def State.unanswered (s : State) (m : Nat) : Bool :=
  let p := s.lmapPort m
  s.lmapWrite m && (isDali p || (isRs485 p && s.lmode p == 2 && s.rd (Obj.LBX_MAP_ADDR.i m) % 256 == 0))

/-- LBX_TRANSACTION_START (R314): the port's next due transaction. -/
def lbxTransactionStart (p : Nat) (s : State) : State :=
  let x := s.lport p
  match if x.running && ! s.halted 4 && x.cur.isNone && decide (x.quietUntil ≤ s.floorTime) then firstDue x.waiting else none with
  | none => s
  | some w =>
    let m := w.2
    let v := s.pt (s.lmapPoint m)
    let bytes := s.lbxRequest m v
    let rest := x.waiting.filter fun z => z.2 != m
    let s1 := if s.lmapWrite m then { s with lbx := { s.lbx with sentValue := s.lbx.sentValue.put m (some v) } } else s
    let txn : LbxTxn := {
      map := m, at_ := s.floorTime, left := s.rd (Obj.LBX_PORT_RETRIES.i p), timeout := s.rd (Obj.LBX_PORT_TIMEOUT.i p),
      owner := s.rd (Obj.LBX_PORT_OWNER.i p), mode := s.lmode p, point := s.lmapPoint m, write := s.lmapWrite m,
      format := s.rd (Obj.LBX_MAP_FORMAT.i m), addr := s.rd (Obj.LBX_MAP_ADDR.i m),
      select := s.rd (Obj.LBX_MAP_SELECT.i m), bytes := bytes }
    (if s.unanswered m then
      s1.putLport p { x with waiting := rest, quietUntil := if isRs485 p then s.floorTime + 100000000 else s.floorTime }
    else s1.putLport p { x with waiting := rest, cur := some txn }).emit (.legacy p m bytes)

def execLbxTransactionStart (port : Fin 16) (t : Nat) (s : State) : Host.Outcome State Fault Refusal :=
  .next (lbxTransactionStart port.val (s.advance t))

/-- A Modbus answer's value: a coil's bit, or the registers under FORMAT. -/
def modbusValue (fc format : Nat) (d : Bytes) : Option Nat :=
  let w := fun i => field d (2 * i) 1 * 256 + field d (2 * i + 1) 1
  if fc = 1 ∨ fc = 2 then (if d.length ≥ 1 then some (field d 0 1 % 2) else none)
  else if d.length ≠ 2 * modbusRegs format then none
  else if format = 1 then some (uns 64 (sgn 16 (w 0)))
  else if format = 2 then some (w 0)
  else
    let v := if format = 3 ∨ format = 5 then w 0 * 65536 + w 1 else w 1 * 65536 + w 0
    if format = 3 ∨ format = 4 then some (uns 64 (sgn 32 v)) else some (f64.bits (f32.unpack v))

/-- What a valid answer gives a read mapping's point; none where the answer is not valid. -/
def LbxTxn.value (c : LbxTxn) (p : Nat) (d : Bytes) : Option Nat :=
  if isMbus p then (Config.mbusRecord d (c.select % 256)).map fun r => if c.format = 0 then uns 64 r.1 else r.2
  else if isDali p then (if d.length = 1 then some (field d 0 1) else if 1 < d.length then some (unle d % 2 ^ 64) else none)
  else if c.mode = 1 then (if d.length = 8 then some (unle d) else none)
  else modbusValue (bits c.select 16 8) c.format d

/-- Whether a Castling has taken away the transaction's mapping or its port's owner (R323). -/
def State.discarded (s : State) (p : Nat) (c : LbxTxn) : Bool :=
  ! (s.lmapOn c.map && s.lmapPort c.map == p && s.rd (Obj.LBX_PORT_OWNER.i p) == c.owner)

/-- An attempt failed (R315): it is retried, or after the last retry counts in FAIL and makes a read point stale. -/
def State.attemptEnded (s : State) (p : Nat) (c : LbxTxn) : State :=
  let x := s.lport p
  if c.left > 0 then
    (s.putLport p { x with cur := some { c with left := c.left - 1, at_ := s.floorTime } }).emit (.legacy p c.map c.bytes)
  else
    let s1 := (s.putLport p { x with cur := none }).inc (Obj.LBX_PORT_FAIL.i p)
    let s2 := if c.write || s1.discarded p c then s1 else s1.wr (Obj.PIMG_ATTR_STALE.i c.point) 1
    if isMbus p then s2.sndNke p c.addr else s2

/-- LBX_ANSWER (R314, R317): a valid answer completes the transaction; an exception response counts as a failed attempt
and leaves its code; what is not valid is not heard. -/
def lbxAnswer (p : Nat) (a : LbxAnswer) (s : State) : State :=
  let x := s.lport p
  match if x.running && x.cutOff.isNone then x.cur else none with
  | none => s
  | some c =>
    match a.exception with
    | some code => if isRs485 p && c.mode == 2 then (s.wr (Obj.LBX_PORT_LAST_EXC.i p) code.toNat).attemptEnded p c else s
    | none =>
      let done := (s.putLport p { x with cur := none }).inc (Obj.LBX_PORT_TXN_OK.i p)
      if c.write then done
      else match c.value p a.data with
        | none => s
        | some v =>
          if s.discarded p c then done
          else (done.pimgWrite [PtWrite.whole c.point v]).wr (Obj.PIMG_ATTR_STALE.i c.point) 0

def execLbxAnswer (port : Fin 16) (ans : LbxAnswer) (t : Nat) (s : State) : Host.Outcome State Fault Refusal :=
  .next (lbxAnswer port.val ans (s.advance t))

/-- LBX_TIMEOUT (R315). -/
def lbxTimeout (p : Nat) (s : State) : State :=
  match (s.lport p).cur with
  | none => s
  | some c => if c.at_ + c.timeout * 1000000 ≤ s.floorTime then s.attemptEnded p c else s

def execLbxTimeout (port : Fin 16) (t : Nat) (s : State) : Host.Outcome State Fault Refusal :=
  .next (lbxTimeout port.val (s.advance t))

/-! ### DALI-2, M-Bus and MS/TP -/

/-- DALI_EVENT (R318): every read mapping of the input device's instance takes the event's value. -/
def daliEvent (p : Nat) (ev : DaliEvent) (s : State) : State :=
  if ! isDali p || ! (s.lport p).running then s
  else s.pimgWrite (((s.lmapsOf p).filter fun m =>
    let sel := s.rd (Obj.LBX_MAP_SELECT.i m)
    ! s.lmapWrite m && s.rd (Obj.LBX_MAP_ADDR.i m) == ev.address && decide (2 ≤ sel % 256) && bits sel 8 8 == ev.inst).map fun m =>
      PtWrite.whole (s.lmapPoint m) ev.value.toNat)

def execDaliEvent (port : Fin 16) (ev : DaliEvent) (t : Nat) (s : State) : Host.Outcome State Fault Refusal :=
  .next (daliEvent port.val ev (s.advance t))

/-- MBUS_OVERLOAD (R473): the port switches off for 1 s; its transactions meanwhile get no answer. -/
def mbusOverload (p : Nat) (s : State) : State :=
  if isMbus p && (s.lport p).running then s.putLport p { s.lport p with cutOff := some (s.floorTime + 1000000000) } else s

def execMbusOverload (port : Fin 16) (t : Nat) (s : State) : Host.Outcome State Fault Refusal :=
  .next (mbusOverload port.val (s.advance t))

/-- MBUS_OVERLOAD_RESTORE (R473). -/
def mbusOverloadRestore (p : Nat) (s : State) : State :=
  match (s.lport p).cutOff with
  | some u => if u ≤ s.floorTime then s.putLport p { s.lport p with cutOff := none } else s
  | none => s

def execMbusOverloadRestore (port : Fin 16) (t : Nat) (s : State) : Host.Outcome State Fault Refusal :=
  .next (mbusOverloadRestore port.val (s.advance t))


/-- The device instance range of a Who-Is (ASHRAE 135): no limits, or two context-tagged unsigned numbers. -/
def whoIsRange (d : Bytes) : Option (Nat × Nat) :=
  if d.take 2 ≠ [0x10, 0x08] then none
  else if d.length = 2 then some (0, 2 ^ 32)
  else
    let n := field d 2 1 - 8
    let k := field d (3 + n) 1 - 0x18
    some (unbe ((d.drop 3).take n), unbe ((d.drop (4 + n)).take k))

/-- Send an MS/TP frame: type, destination, source, data. -/
def State.mstpSend (s : State) (p ftype dst : Nat) (d : Bytes) : State :=
  s.emit (.legacy p 0xFFFF (le 1 ftype ++ le 1 dst ++ le 1 (s.rd (Obj.LBX_PORT_LOCAL_ADDR.i p)) ++ d))

/-- MSTP_FRAME (R316): the master node passes a token on, answers Poll For Master and Test_Request, learns its next
station, and answers Who-Is with the I-Am of DEV_INST. -/
def mstpFrame (p : Nat) (fr : MstpFrame) (s : State) : State :=
  let me := s.rd (Obj.LBX_PORT_LOCAL_ADDR.i p)
  let x := s.lport p
  let ty := fr.ftype.toNat
  if ! isRs485 p || s.lmode p != 1 || ! x.running || ! (fr.dst == me || fr.dst == 255) then s
  else if ty = 0 then
    match x.nextStation with
    | some n => s.mstpSend p 0 n []
    | none => s.mstpSend p 1 ((me + 1) % (s.rd (Obj.LBX_PORT_MAX_MASTER.i p) + 1)) []
  else if ty = 1 then s.mstpSend p 2 fr.src []
  else if ty = 2 then s.putLport p { x with nextStation := some fr.src }
  else if ty = 3 then s.mstpSend p 4 fr.src fr.data
  else if ty = 5 ∨ ty = 6 then
    match whoIsRange fr.data with
    | some (lo, hi) =>
      let d := s.rd (Obj.LBX_PORT_DEV_INST.i p)
      if lo ≤ d ∧ d ≤ hi then s.mstpSend p 6 255 (be 1 0x10 ++ be 1 0 ++ be 1 0xC4 ++ be 4 (8 * 2 ^ 22 + d)) else s
    | none => s
  else s

def execMstpFrame (port : Fin 16) (fr : MstpFrame) (t : Nat) (s : State) : Host.Outcome State Fault Refusal :=
  .next (mstpFrame port.val fr (s.advance t))

/-! ### Commands -/

/-- Whether a requester sees a legacy port (R313). -/
def State.seesLegacy (s : State) (c p : Nat) : Bool := decide (p < 16) && (c == 0 || s.rd (Obj.LBX_PORT_OWNER.i p) == c)

/-- The positions of the ones among the low `n` bits, from bit `i`. -/
def ones : Nat → Nat → Nat → List Nat
  | 0, _, _ => []
  | n + 1, i, v => if v % 2 = 1 then i :: ones n (i + 1) (v / 2) else ones n (i + 1) (v / 2)

/-- CMD_LBX_DALI_ADDRESS (R318): runs the random-address procedure on the port named; which short addresses it gives is
the bus's, so a free value. -/
def lbxDaliAddress (q : Req) (s : State) : State × Reply :=
  let p := field q.payload 0 1
  if ! permitted .all m5to9 q s then (s, .no St.notPermitted)
  else if q.payload.length ≠ 4 then (s, .no St.badPayload)
  else if ! s.seesLegacy q.comp p then (s, .no St.noObject)
  else if ! isDali p then (s, .no St.badValue)
  else if s.failed 4 || s.failed 14 then (s, .no St.unitFailed)
  else
    let (v, s1) := s.draw
    let given := ones 64 0 v
    (s1, .ok (le 1 given.length ++ le 3 0 ++ given.flatMap fun a => le 1 a))

def execCmdLbxDaliAddress (f : Frame) (s : State) : Host.Outcome State Fault Refusal := command 0x0610 lbxDaliAddress f s

/-- CMD_LBX_MBUS_SCAN (R319): the identities found are the bus's, so a free value. -/
def lbxMbusScan (q : Req) (s : State) : State × Reply :=
  let p := field q.payload 0 1
  if ! permitted .all m5to9 q s then (s, .no St.notPermitted)
  else if q.payload.length ≠ 4 then (s, .no St.badPayload)
  else if ! s.seesLegacy q.comp p then (s, .no St.noObject)
  else if ! isMbus p then (s, .no St.badValue)
  else if s.failed 4 || s.failed 14 then (s, .no St.unitFailed)
  else
    let (n, s1) := s.draw
    let (v, s2) := s1.draw
    (s2, .ok (le 1 (n % 251) ++ le 3 0 ++ le (8 * (n % 251)) v))

def execCmdLbxMbusScan (f : Frame) (s : State) : Host.Outcome State Fault Refusal := command 0x0611 lbxMbusScan f s

end Sys2Proof.Machine
end

