-- ==== Sys2Proof/Machine/KeysCore.lean ====
section
/-!
DEFINITION. The key slots of the KSE (spec/15): derivation (R362), the platform and fixed keys (R363), emptying,
orphaning and purging (R375, R376), and what a boot does to them (R361, R366).
-/
namespace Sys2Proof.Machine

/-! ### Big-endian numbers, HMAC and derivation -/



/-- HMAC-SHA-384 with a key of at most 128 bytes. -/
def hmac384 (key msg : Bytes) : Bytes :=
  let k := padTo 128 key
  sha384 (k.map (· ^^^ 0x5C) ++ sha384 (k.map (· ^^^ 0x36) ++ msg))

/-- The KDF in counter mode of SP 800-108 with HMAC-SHA-384, `len` bits of output (R362). -/
def kdf (key label ctx : Bytes) (len : Nat) : Bytes :=
  ((List.range ((len + 383) / 384)).flatMap fun i =>
    hmac384 key (be 4 (i + 1) ++ label ++ [0] ++ ctx ++ be 4 len)).take (len / 8)

/-- The order of the P-384 group, its field prime and its coefficient b. -/
def p384n : Nat := 0xffffffffffffffffffffffffffffffffffffffffffffffffc7634d81f4372ddf581a0db248b0a77aecec196accc52973
def p384p : Nat := 2 ^ 384 - 2 ^ 128 - 2 ^ 96 + 2 ^ 32 - 1
def p384b : Nat := 0xb3312fa7e23ee7e4988e056be3f82d19181d9c6efe8141120314088f5013875ac656398d8a2ed19d2a85c8edd3ec2aef

/-- Whether 96 bytes are a point of P-384, x then y. -/
def onCurve (b : Bytes) : Bool :=
  let x := unbe (b.take 48)
  let y := unbe (b.drop 48)
  b.length == 96 && decide (x < p384p ∧ y < p384p) && (y * y) % p384p == (x * x * x + (p384p - 3) * x + p384b) % p384p

/-- Whether 48 bytes are a private key of P-384. -/
def scalarOk (b : Bytes) : Bool := b.length == 48 && decide (1 ≤ unbe b ∧ unbe b < p384n)

/-- Text as bytes. -/
def ascii (t : String) : Bytes := t.toList.map fun c => BitVec.ofNat 8 c.toNat

/-- The context of a derivation (R362): identity, compartment byte, generation. -/
def State.kdfContext (s : State) (comp gen : Nat) : Bytes := s.identity ++ le 1 comp ++ le 4 gen

/-- A key of a type derived from a parent (R362): 1 AES-256, 3 P-384 private, else 48 bytes. -/
def State.derive (s : State) (parent label : Bytes) (comp gen ktype : Nat) : Bytes :=
  if ktype = 1 then kdf parent label (s.kdfContext comp gen) 256
  else if ktype = 3 then be 48 (unbe (kdf parent label (s.kdfContext comp gen) 448) % (p384n - 1) + 1)
  else kdf parent label (s.kdfContext comp gen) 384

/-! ### Slots -/

/-- A descriptor (Table 15-7). -/
structure KeySlot where
  state : Nat
  usage : Nat := 0
  ktype : Nat := 0
  owner : Nat
  parent : Nat := 0x100
  origin : Nat := 0
  gen : Nat := 0
  ctr : Nat := 0
  deriving DecidableEq, Repr

def State.slotState (s : State) (k : Nat) : Nat := s.rd (Obj.KSE_SLOT_STATE.i k)
def State.slotOwner (s : State) (k : Nat) : Nat := s.rd (Obj.KSE_SLOT_OWNER.i k)
def State.slotGen (s : State) (k : Nat) : Nat := s.rd (Obj.KSE_SLOT_GEN.i k)
def State.slotKey (s : State) (k : Nat) : Bytes := s.kse.keys.get [] k

/-- Set a slot's descriptor and material; a slot written is no longer orphaned. -/
def State.putKey (s : State) (k : Nat) (d : KeySlot) (key : Bytes) : State :=
  { s with kse := { s.kse with
      keys := if key = [] then s.kse.keys.del k else s.kse.keys.put k key,
      orphans := s.kse.orphans.filter fun o => o.1 != k } }.wrs
    [(Obj.KSE_SLOT_STATE.i k, d.state), (Obj.KSE_SLOT_USAGE.i k, d.usage), (Obj.KSE_SLOT_KTYPE.i k, d.ktype),
     (Obj.KSE_SLOT_OWNER.i k, d.owner), (Obj.KSE_SLOT_PARENT.i k, d.parent), (Obj.KSE_SLOT_ORIGIN.i k, d.origin),
     (Obj.KSE_SLOT_GEN.i k, d.gen), (Obj.KSE_SLOT_CTR.i k, d.ctr)]

/-- Fixed slots of a compartment (R363). -/
def crkSlot (c : Nat) : Nat := 16 + 3 * c
def anchorSlot (c : Nat) : Nat := 18 + 3 * c
def authoritySlot : Nat := 4

/-- The owner an EMPTY slot shows: the platform, the compartment of a fixed slot, or 0xFE (Table 15-7). -/
def emptyOwner (k : Nat) : Nat := if k < 16 then 0xFF else if k < 118 then (k - 16) / 3 else 0xFE

/-- Empty a slot. A fixed slot keeps its generation (log 17). -/
def State.emptySlot (s : State) (k : Nat) : State :=
  s.putKey k { state := 0, owner := emptyOwner k, gen := if k < 118 then s.slotGen k else 0 } []

/-! ### Roots, platform and compartment keys -/

/-- The root gates of a life-cycle state as KSE_ROOT_GATE shows them (Table 15-1). -/
def rootGates (lcy : Nat) : Nat :=
  if lcy = 1 then 9 else if lcy = 2 ∨ lcy = 3 then 10 else if lcy = 4 then 4 else if lcy = 5 then 8 else 0

/-- Derive a key of a root into a slot; with the root gated off the slot reads UNREACHABLE (R363). -/
def State.deriveRoot (s : State) (k root : Nat) (label : String) (gen ktype usage owner : Nat) : State :=
  if bit (s.rd Obj.KSE_ROOT_GATE.f) root then
    s.putKey k { state := 1, usage := usage, ktype := ktype, owner := owner, gen := gen }
      (s.derive (Config.root root) (ascii label) owner gen ktype)
  else s.putKey k { state := 3, usage := usage, ktype := ktype, owner := owner, gen := gen } []

/-- The platform keys of Table 15-2. -/
def State.derivePlatform (s : State) : State :=
  let dtkRoot := if s.lcy.state = 1 then 0 else 1
  let s1 := ((((s.deriveRoot 0 3 "AXZ-AIK" 0 3 0 0xFF).deriveRoot 1 2 "AXZ-RAK" 0 3 0 0xFF).deriveRoot 2 dtkRoot "AXZ-DTK"
    (s.rd Obj.KSE_DTK_GEN.f) 3 0 0xFF).deriveRoot 3 1 "AXZ-KTK" 0 3 2 0xFF).deriveRoot 5 1 "AXZ-SWK" 0 1 2 0xFF
  ((List.range 10).foldl (fun t k => t.emptySlot (6 + k)) s1).wr Obj.KSE_KA_PRESENT.f (b2n (s1.slotState authoritySlot == 1))

/-- BSK_cc from CRK_cc; unreachable with it (R363). -/
def State.deriveBsk (s : State) (c gen : Nat) : State :=
  let d : KeySlot := { state := 1, usage := 0, ktype := 3, owner := c, parent := crkSlot c, gen := gen }
  if s.slotState (crkSlot c) = 1 then
    s.putKey (billingSlot c) d (s.derive (s.slotKey (crkSlot c)) (ascii "AXZ-BSK") c gen 3)
  else s.putKey (billingSlot c) { d with state := s.slotState (crkSlot c) } []

/-- CRK_cc at its generation. -/
def State.deriveCrk (s : State) (c gen : Nat) : State := s.deriveRoot (crkSlot c) 1 "AXZ-CRK" gen 5 3 c

/-- The keys a compartment gets when it is created (R367). -/
def State.createKeys (s : State) (c : Nat) : State :=
  let s1 := (s.deriveCrk c (s.slotGen (crkSlot c))).emptySlot (anchorSlot c)
  if c < 2 then s1.emptySlot (billingSlot c) else s1.deriveBsk c (s.slotGen (crkSlot c))

/-- Every slot a compartment owns. -/
def State.slotsOf (s : State) (c : Nat) : List Nat := (List.range 256).filter fun k => decide (16 ≤ k) && s.slotOwner k == c

/-- The Castling that removes a compartment empties its slots (R367). -/
def State.removeKeys (s : State) (c : Nat) : State := (s.slotsOf c).foldl State.emptySlot s

/-! ### Orphans (R375, R376) -/

/-- The VALID slots whose parent is `k`. -/
def State.childrenOf (s : State) (k : Nat) : List Nat :=
  (List.range 256).filter fun j => s.slotState j == 1 && s.rd (Obj.KSE_SLOT_PARENT.i j) == k

/-- Every VALID slot below the slots of a list, at most `n` generations down. -/
def State.below (s : State) : Nat → List Nat → List Nat
  | 0, _ => []
  | n + 1, l =>
    let kids := l.flatMap s.childrenOf
    if kids.isEmpty then [] else kids ++ s.below n kids

/-- Orphan one slot: state, count, flag, trigger, and the instant. -/
def State.orphan (s : State) (k : Nat) : State :=
  let c := s.slotOwner k
  ((({ s with kse := { s.kse with orphans := s.kse.orphans ++ [(k, s.floorTime)] } }.wr (Obj.KSE_SLOT_STATE.i k) 2).incSat
    (Obj.KSE_ORPHANED.b c)).set1 (Obj.KSE_EVT_ORPHAN.b c)).log c 0x0802 (le 1 k ++ le 1 0 ++ le 2 (s.rd (Obj.KSE_SLOT_PARENT.i k)))

/-- Every key below a slot is orphaned. -/
def State.orphanBelow (s : State) (k : Nat) : State := (s.below 256 [k]).foldl State.orphan s

/-- Purge one orphaned slot: a general slot becomes EMPTY, a BSK is derived again where its CRK is VALID. -/
def State.purge (s : State) (k : Nat) : State :=
  let c := s.slotOwner k
  let s1 := if decide (k < 118) && s.slotState (k - 1) == 1 then s.deriveBsk c (s.slotGen (k - 1)) else s.emptySlot k
  s1.log c 0x0805 (le 1 k)

/-- The slots orphaned before an instant are purged. -/
def State.purgeBefore (s : State) (t : Nat) : State :=
  (s.kse.orphans.filter fun o => decide (o.2 < t)).foldl (fun u o => u.purge o.1) s

/-- A slot's key is lost until the next boot (Table 18-3); its owner and C00 hear of it. -/
def State.hideSlot (s : State) (k : Nat) : State :=
  if s.slotState k = 0 then s
  else
    let d := [s.slotState k, s.rd (Obj.KSE_SLOT_USAGE.i k), s.rd (Obj.KSE_SLOT_KTYPE.i k), s.slotOwner k,
      s.rd (Obj.KSE_SLOT_PARENT.i k), s.rd (Obj.KSE_SLOT_ORIGIN.i k), s.slotGen k, s.rd (Obj.KSE_SLOT_CTR.i k)]
    let c := s.slotOwner k
    let s0 := { s with kse := { s.kse with hidden := s.kse.hidden ++ [(k, d, s.slotKey k)] } }
    let s1 := (s0.putKey k { state := 0, owner := c, gen := s.slotGen k } []).log 0 0x0803 (le 1 k)
    if c = 0 then s1 else s1.log c 0x0803 (le 1 k)

/-- At a boot the descriptors are those of the records again. -/
def State.restoreHidden (s : State) : State :=
  let s0 := { s with kse := { s.kse with hidden := [] } }
  s.kse.hidden.foldl (fun t h =>
    let f (i : Nat) : Nat := h.2.1.getD i 0
    let d : KeySlot := { state := f 0, usage := f 1, ktype := f 2, owner := f 3, parent := f 4, origin := f 5, gen := f 6, ctr := f 7 }
    if t.slotState h.1 = 0 then t.putKey h.1 d h.2.2 else t) s0

/-- The operations root is gated off for the rest of a boot (R397): its platform keys and every key of C00 and C01 read
UNREACHABLE. -/
def State.closeOperations (s : State) : State :=
  let s1 := s.wr Obj.KSE_ROOT_GATE.f (nand (s.rd Obj.KSE_ROOT_GATE.f) 2)
  ((List.range 256).filter fun k => s.slotState k != 0 && (k == 2 || k == 3 || k == 5 || (decide (16 ≤ k) && decide (s.slotOwner k ≤ 1)))).foldl
    (fun t k => t.wr (Obj.KSE_SLOT_STATE.i k) 3) s1

/-- Installed keys read UNREACHABLE only as long as the operations root, under which they are wrapped, is gated off. -/
def State.reachInstalled (s : State) : State :=
  ((List.range 240).map (· + 16)).foldl (fun t k =>
    if t.rd (Obj.KSE_SLOT_ORIGIN.i k) = 0 then t
    else if bit (t.rd Obj.KSE_ROOT_GATE.f) 1 then (if t.slotState k = 3 then t.wr (Obj.KSE_SLOT_STATE.i k) 1 else t)
    else if t.slotState k = 1 then t.wr (Obj.KSE_SLOT_STATE.i k) 3 else t) s

/-- What a boot does: gates, the keys of Table 15-2, and the purge of orphaned slots (R361, R366, R376). A BSK that was
regenerated keeps its own generation (log 17). A claimed authority does not outlive a boot in RETURNED or RETIRED (R385). -/
def State.bootKeys (s0 : State) : State :=
  let s := s0.restoreHidden
  let sa := if s.lcy.state = 4 ∨ s.lcy.state = 5 ∨ s.slotState authoritySlot = 0 then s.emptySlot authoritySlot else s
  let s1 := ((sa.wr Obj.KSE_ROOT_GATE.f (rootGates s.lcy.state)).derivePlatform).reachInstalled
  let s2 := (s1.kse.orphans).foldl (fun u o => u.purge o.1) s1
  s2.compartments.foldl (fun u c =>
    let u1 := u.deriveCrk c (u.slotGen (crkSlot c))
    let u2 := if u1.slotState (anchorSlot c) = 0 then u1.emptySlot (anchorSlot c) else u1
    if c < 2 then u2.emptySlot (billingSlot c) else u2.deriveBsk c (u2.slotGen (billingSlot c))) s2

end Sys2Proof.Machine
end

