-- ==== Sys2Proof/Machine/Exchange.lean ====
section
/-!
DEFINITION. Placing images, matching a new image to an old one, and moving state across an exchange (spec/06 R170;
spec/07 R175 to R188, R195, R197).
-/
namespace Sys2Proof.Machine

/-! ### Placing (R168, R170, R178, R179) -/

/-- Module identifiers in use. -/
def State.usedIds (s : State) : List Nat :=
  s.scan.progs.flatMap fun p => ((p.2.cur.map (·.insts)).getD [] ++ (p.2.old.map (·.insts)).getD []).map (·.id)

/-- The `n` lowest identifiers not in use. -/
def freeIds (used : List Nat) (n : Nat) : List Nat := ((List.range 16384).filter fun i => ! used.contains i).take n

/-- Give each instance its identifier: the one kept, or the next free one. -/
def assignIds : List (Option Nat) → List Nat → List Nat
  | [], _ => []
  | some k :: r, free => k :: assignIds r free
  | none :: r, f :: free => f :: assignIds r free
  | none :: r, [] => 0 :: assignIds r []

/-- The initial data of an instance, its child table resolved to identifiers (R168). -/
def Image.initData (g : Image) (ids : List Nat) (i : Nat) (x : ImgInst) : List Host.Cell :=
  match g.types[x.typeIx]? with
  | none => []
  | some t => (List.range t.children).foldl
      (fun m k => match g.child i k with | some c => memWrite m (2 * k) (le 2 (ids.getD c 0)) | none => m) (memOf x.init)

/-- Place an image: every instance under its identifier with its initial data. -/
def Image.place (g : Image) (ids : List Nat) : Prog :=
  { image := g,
    insts := ((List.range g.insts.length).zip g.insts).map fun p =>
      { id := ids.getD p.1 0, ix := p.1, typeIx := p.2.typeIx, size := p.2.init.length, data := g.initData ids p.1 p.2 } }

/-- The identifiers of a new image: those of instances of the old image with the same path are kept. -/
def State.newIds (s : State) (old : Option Prog) (g : Image) : List Nat :=
  let kept := g.insts.map fun x => old.bind fun o => (o.image.insts.findIdx? fun y => y.path == x.path).bind fun i =>
    (o.instIx i).map (·.id)
  assignIds kept (freeIds s.usedIds (kept.filter (·.isNone)).length)

/-! ### Matching (R178, R180, R181) -/

/-- The old instance template with the same path. -/
def Image.sameInst (o : Image) (x : ImgInst) : Option ImgInst := o.insts.find? fun y => y.path == x.path

def Image.typeOf (g : Image) (x : ImgInst) : Option ImgType := g.types[x.typeIx]?

/-- The old variable that a new one carries on (R180). -/
def ImgType.sameVar (t : ImgType) (v : ImgVar) : Option ImgVar :=
  t.vars.find? fun w => w.name == v.name && w.dtype == v.dtype && w.size == v.size

/-- Initial KIND and PT of a timer (R181). -/
def timerKind (b : Bytes) (off : Nat) : Nat := bits (field b off 8) 40 2
def timerPt (b : Bytes) (off : Nat) : Nat := field b off 8 % 2 ^ 40

/-- Whether a carried timer takes the new preset. -/
def newPreset (ob nb : Bytes) (ov nv : ImgVar) : Bool :=
  nv.dtype == dtTimer && timerKind ob ov.off == timerKind nb nv.off && timerPt ob ov.off != timerPt nb nv.off

/-- Carry one variable from old data into new data (Table 7-2, R181). -/
def carryVar (ob nb : Bytes) (od : List Host.Cell) (ov nv : ImgVar) (nd : List Host.Cell) : List Host.Cell :=
  if nv.dtype = dtChild then nd
  else if nv.dtype = dtTimer then
    if timerKind ob ov.off ≠ timerKind nb nv.off then nd
    else
      let w := memRead od ov.off 8
      let w' := if newPreset ob nb ov nv then w - w % 2 ^ 40 + timerPt nb nv.off else w
      memWrite (memWrite nd nv.off (le 8 w')) (nv.off + 8) (le 8 (memRead od (ov.off + 8) 8))
  else memWrite nd nv.off (le nv.size (memRead od ov.off nv.size))

/-- The data of a new instance after carrying from the old program. -/
def carryInst (o : Prog) (g : Image) (x : ImgInst) (nd : List Host.Cell) : List Host.Cell :=
  match o.image.insts.findIdx? fun y => y.path == x.path with
  | none => nd
  | some i => match o.image.insts[i]?, o.instIx i, g.typeOf x with
    | some y, some oi, some t => match o.image.typeOf y with
      | some ot => t.vars.foldl (fun d v => match ot.sameVar v with
          | some ov => carryVar y.init x.init oi.data ov v d
          | none => d) nd
      | none => nd
    | _, _, _ => nd

/-- What an exchange would do (Table 7-1, R180, R181): carried, retyped, new, removed, variables taken from INIT in
retyped instances, timers given the new preset. -/
structure Plan where
  carried : Nat := 0
  retyped : Nat := 0
  fresh : Nat := 0
  removed : Nat := 0
  reinit : Nat := 0
  newPt : Nat := 0
  deriving DecidableEq, Repr

def Plan.add (o g : Image) (p : Plan) (x : ImgInst) : Plan :=
  match o.sameInst x with
  | none => { p with fresh := p.fresh + 1 }
  | some y => match o.typeOf y, g.typeOf x with
    | some ot, some t =>
      let pts := (t.vars.filter fun v => match ot.sameVar v with | some ov => newPreset y.init x.init ov v | none => false).length
      let lost := (t.vars.filter fun v => v.dtype != dtChild && (ot.sameVar v).isNone).length
      if ot.hash = t.hash then { p with carried := p.carried + 1, newPt := p.newPt + pts }
      else { p with retyped := p.retyped + 1, newPt := p.newPt + pts, reinit := p.reinit + lost }
    | _, _ => p

def planOf (o g : Image) : Plan :=
  let p := g.insts.foldl (Plan.add o g) {}
  { p with removed := (o.insts.filter fun y => (g.sameInst y).isNone).length }

/-- The variable of an image that a force names. -/
def Image.symbol (g : Image) (path name : Nat) : Option ImgVar :=
  (g.insts.find? fun x => x.path == path).bind fun x => (g.typeOf x).bind fun t => t.vars.find? fun v => v.name == name

/-- Variable forces whose target a new image no longer has (Table 7-5). -/
def State.releasedBy (s : State) (c : Nat) (g : Image) : List Force :=
  (s.forces c).filter fun f => f.kind == 1 && (g.symbol f.path f.name).isNone

/-- Variable forces whose target a new image has with another DTYPE or SIZE (R197). -/
def State.blockedBy (s : State) (c : Nat) (g : Image) : List Force :=
  (s.forces c).filter fun f => f.kind == 1 && match g.symbol f.path f.name with
    | some v => v.dtype != f.dtype || v.size != f.size
    | none => false

/-! ### Retained shadow (R139) -/

/-- The retained ranges of the trees of some roots and of the global instance, as they stand. -/
def Prog.ranges (g : Prog) (keep : Nat → Bool) : List (Nat × Nat × Bytes) :=
  (g.image.retain.filter fun r => keep r.1).filterMap fun r =>
    (g.instIx r.1).map fun x => (r.1, r.2.1, le r.2.2 (memRead x.data r.2.1 r.2.2))

/-- Whether an instance index belongs to a root's tree or is the global instance. -/
def Image.inTree (g : Image) (root i : Nat) : Bool := g.root i == root || g.globIx == some i

/-- Replace the shadow of a task's instances (R123, R139). -/
def CompScan.shadowTask (c : CompScan) (g : Prog) (root : Nat) : CompScan :=
  { c with shadow := (c.shadow.filter fun r => ! g.image.inTree root r.1) ++ g.ranges (g.image.inTree root) }

/-- Commit the shadow of a compartment to MRAM (R139): whole, under the hash of the image whose data it holds. -/
def State.commitShadow (s : State) (c : Nat) : State :=
  let p := s.prog c
  match (if s.rd (Obj.EXCH_STATE.b c) = 2 then p.old else p.cur) with
  | none => s
  | some g =>
    let s1 := s.putProg c { p with kept := some { marked := true, hash := g.image.hash32, data := p.shadow } }
    (s1.wr (Obj.SCE_RET_HASH.b c) g.image.hash32).wr (Obj.SCE_RET_TIME.b c) s.floorTime

/-! ### Transfer (R183 to R187) -/

/-- Move some instances of the new image to the new bank. -/
def CompScan.move (p : CompScan) (which : Nat → Bool) : CompScan :=
  match p.cur, p.old with
  | some g, some o =>
    let due := fun i => which i && ! p.moved.contains i
    { p with
      cur := some { g with insts := g.insts.map fun x => match g.image.insts[x.ix]? with
        | some t => if due x.ix then { x with data := carryInst o g.image t x.data } else x
        | none => x },
      moved := p.moved ++ (List.range g.image.insts.length).filter due }
  | _, _ => p

/-- The root in the new image of the tree that removes a force's target: the tree that holds its instance, or the one
that takes the place of its old tree. None: it is released at T_C (R184, R185). -/
def CompScan.removingRoot (p : CompScan) (f : Force) : Option Nat :=
  match p.cur, p.old with
  | some g, some o =>
    let byPath (path : Nat) : Option Nat := (g.image.insts.findIdx? fun x => x.path == path).map g.image.root
    match byPath f.path with
    | some r => some r
    | none => (o.image.insts.findIdx? fun x => x.path == f.path).bind fun i =>
        (o.image.insts[o.image.root i]?).bind fun x => byPath x.path
  | _, _ => none

/-- Release the variable forces that the move of a tree removes. -/
def State.dropForces (s : State) (c : Nat) (which : Option Nat → Bool) : State :=
  let p := s.prog c
  match p.cur with
  | some g => s.releaseForces c ((s.releasedBy c g.image).filter fun f => which (p.removingRoot f))
  | none => s

/-- The DETAIL of trigger 0x0406: the counts of the exchange report. -/
def State.exchDetail (s : State) (c : Nat) : Bytes :=
  le 2 (s.rd (Obj.EXCH_INST_CARRIED.b c)) ++ le 2 (s.rd (Obj.EXCH_INST_RETYPED.b c)) ++ le 2 (s.rd (Obj.EXCH_INST_NEW.b c)) ++
  le 2 (s.rd (Obj.EXCH_INST_REMOVED.b c)) ++ le 2 (s.rd (Obj.EXCH_VAR_REINIT.b c)) ++ le 2 (s.rd (Obj.EXCH_TMR_NEW_PT.b c)) ++
  le 1 (s.rd (Obj.EXCH_FORCE_RELEASED.b c)) ++ le 1 (s.rd (Obj.EXCH_LATE_DATA.b c))

/-- EXCH_STATE becomes 3 (R187): the old bank is freed (once no ply runs on it any more), the report stands, the shadow holds the new data. -/
def State.exchangeDone (s : State) (c : Nat) : State :=
  let p := s.prog c
  let shadow := match p.cur with | some g => g.ranges fun _ => true | none => []
  let still := s.scan.plies.any fun q => q.comp == c && q.onOld
  let s1 := s.putProg c { p with old := if still then p.old else none, moved := [], shadow := shadow }
  let s2 := ((s1.wr (Obj.EXCH_STATE.b c) 3).wr (Obj.EXCH_DONE_TIME.b c) s.floorTime).set1 (Obj.EXCH_EVT_DONE.b c)
  s2.log c 0x0406 (s2.exchDetail c)

/-- The exchange is over when every task has had its transfer point (R187). -/
def State.checkExchange (s : State) (c : Nat) : State :=
  if s.rd (Obj.EXCH_STATE.b c) = 2 ∧ (s.tasksOf c).all (fun t => (s.task c t.engine t.entry).moved) then s.exchangeDone c else s

/-- The transfer point of a task: its tree and, the first time, the global instance (R184). -/
def State.transferTask (s : State) (c : Nat) (t : ImgTask) : State :=
  if s.rd (Obj.EXCH_STATE.b c) = 2 ∧ ! (s.task c t.engine t.entry).moved then
    match (s.prog c).cur with
    | none => s
    | some g =>
      let s1 := s.putProg c ((s.prog c).move (g.image.inTree t.root))
      let s2 := s1.dropForces c fun r => r == some t.root
      (s2.putTask c t.engine t.entry { (s2.task c t.engine t.entry) with moved := true }).checkExchange c
  else s

/-- Every remaining transfer at once (R183, R198). -/
def State.transferAll (s : State) (c : Nat) : State := (s.tasksOf c).foldl (fun t k => t.transferTask c k) s

/-- EXCH_STATE becomes 2 at T_C (R187): the report, the instances of no task's tree, the forces released there. -/
def State.beginExchange (s : State) (c : Nat) (g : Image) : State :=
  match (s.prog c).cur with
  | none => s
  | some o =>
    let ids := s.newIds (some o) g
    let pl := planOf o.image g
    let n := (s.releasedBy c g).length
    let s1 := s.putProg c { s.prog c with cur := some (g.place ids), old := some o, moved := [] }
    let s2 := s1.wrs [(Obj.EXCH_STATE.b c, 2), (Obj.EXCH_INST_CARRIED.b c, pl.carried), (Obj.EXCH_INST_RETYPED.b c, pl.retyped),
      (Obj.EXCH_INST_NEW.b c, pl.fresh), (Obj.EXCH_INST_REMOVED.b c, pl.removed), (Obj.EXCH_VAR_REINIT.b c, pl.reinit),
      (Obj.EXCH_TMR_NEW_PT.b c, pl.newPt), (Obj.EXCH_FORCE_RELEASED.b c, n), (Obj.EXCH_LATE_DATA.b c, 0)]
    let roots := (s2.tasksOf c).map (·.root)
    let s3 := s2.putProg c ((s2.prog c).move fun i => ! roots.contains (g.root i) && g.globIx != some i)
    let s4 := s3.dropForces c fun r => match r with | some k => ! roots.contains k | none => true
    let s5 := (List.range 32).foldl (fun t k =>
      t.putTask c (k / 16) (k % 16) { (t.task c (k / 16) (k % 16)) with moved := false, newBank := true }) s4
    s5.checkExchange c

/-! ### Initialisation at a start (R140, Table 5-8) -/

/-- Clear PRIMED in every edge record (R162). -/
def Image.unprime (g : Image) (x : Inst) : Inst :=
  match g.types[x.typeIx]? with
  | some t =>
    let edges := t.vars.filter fun v => v.dtype == dtEdge
    { x with data := edges.foldl (fun m v => memPut m v.off (memGet m v.off &&& 0xFD)) x.data }
  | none => x

/-- Instance data at a cold start: INIT with child tables resolved. -/
def Prog.cold (g : Prog) : Prog := g.image.place (g.insts.map (·.id))

/-- Instance data at a warm start: INIT, retained ranges from the record, edge detectors not primed. -/
def Prog.warm (g : Prog) (r : Retained) : Prog :=
  let h := g.cold
  let k := r.data.foldl (fun p q => match p.instIx q.1 with
    | some x => p.putInst { x with data := memWrite x.data q.2.1 q.2.2 }
    | none => p) h
  { k with insts := k.insts.map g.image.unprime }

/-- Whether the retained record serves a warm start: marked, and of the image in force (R140). -/
def CompScan.warmOk (p : CompScan) : Bool :=
  match p.cur, p.kept with
  | some g, some r => r.marked && r.hash == g.image.hash32
  | none, _ => true
  | some _, none => false

end Sys2Proof.Machine
end

