-- ==== Sys2Proof/Machine/Scan.lean ====
section
/-!
DEFINITION. Scan execution (spec/05): plies from their boundary to their end, traps, budgets, program states, start,
stop and hold, retained data.
-/
namespace Sys2Proof.Machine

/-! ### The end of a ply -/

/-- The last unfinished ply of a HOLDING compartment has ended: HOLD is reached (R133, R183). -/
def State.holdReached (s : State) (c : Nat) : State :=
  if s.rd (Obj.SCE_STATE.b c) = 3 ∧ ! s.scan.plies.any (fun p => p.comp == c) then
    ((s.transferAll c).wr (Obj.SCE_STATE.b c) 4).finish (.hold c) St.ok (le 8 s.floorTime)
  else s

/-- One stepped ply has ended (R135). -/
def State.stepDone (s : State) (p : Ply) : State :=
  let g := s.prog p.comp
  match g.step with
  | some (e, k, n) =>
    if p.stepped && p.engine == e && p.entry == k then
      if n ≤ 1 then (s.putProg p.comp { g with step := none }).finish (.step p.comp e k) St.ok (le 8 s.floorTime)
      else s.putProg p.comp { g with step := some (e, k, n - 1) }
    else s
  | none => s

/-- The old bank goes when the last ply on it has ended after state 3. -/
def State.freeOld (s : State) (c : Nat) : State :=
  if s.rd (Obj.EXCH_STATE.b c) = 3 ∧ ! s.scan.plies.any (fun p => p.comp == c && p.onOld) then
    s.putProg c { s.prog c with old := none }
  else s

/-- What every end of a ply brings, however it ended. -/
def State.plyOver (s : State) (p : Ply) : State :=
  let s1 := s.dropPly p
  let s2 := if p.lost then s1.incSat (Obj.EXCH_LATE_DATA.b p.comp) else s1
  ((s2.stepDone p).freeOld p.comp).holdReached p.comp

/-- The points an unfinished ply may still write: those the bank in force gives the same task (R115). -/
def State.keepsOutput (s : State) (p : Ply) (pt : Nat) : Bool :=
  s.ownerPt pt == p.comp && (match s.enabledTask p.comp p.engine p.entry with | some t => t.outs.contains pt | none => false)

/-- The output step (R123): outputs and PIMG_SET writes in one step, the retained shadow, the counters of the task. -/
def State.outputStep (s : State) (p : Ply) : State :=
  let c := p.comp
  let outs := p.outPts.zip (p.outs.map BitVec.toNat)
  let s1 := s.writeOutputs c (outs.filter fun x => s.keepsOutput p x.1)
  let s2 := s1.pimgWrite (p.sets.filter fun w => s.ownerPt w.point == c && ! s.setRefused w.point)
  let s3 := s2.incSat (Obj.CAST_LATE_DROP.b c) (outs.filter fun x => ! s.keepsOutput p x.1).length
  let g := s3.prog c
  let s4 := match g.cur, (if p.onOld then none else s.enabledTask c p.engine p.entry) with
    | some x, some t => if s.rd (Obj.EXCH_STATE.b c) = 2 then s3 else s3.putProg c (g.shadowTask x t.root)
    | _, _ => s3
  let exec := min (2 ^ 32 - 1) (s.floorTime - p.cap)
  let at_ := [p.engine, p.entry]
  (s4.inc (Obj.SCE_TASK_PLY_DONE.at c at_)).wrs [(Obj.SCE_TASK_LAST_EXEC.at c at_, exec),
    (Obj.SCE_TASK_LAST_CPU.at c at_, p.charged / 1000),
    (Obj.SCE_TASK_MAX_EXEC.at c at_, max exec (s.rd (Obj.SCE_TASK_MAX_EXEC.at c at_)))]

/-- A ply that ends with RET on an empty link stack (R148). -/
def State.endPly (s : State) (p : Ply) : State := ((s.outputStep p).perf (5 + p.engine) 0x02 p.comp).plyOver p

/-! ### Traps (R166) -/

/-- The trap event: at most one per task per second, with the traps since the last one. -/
def State.logTrap (s : State) (p : Ply) (code detail : Nat) : State :=
  let r := s.task p.comp p.engine p.entry
  let body := le 1 p.engine ++ le 1 p.entry ++ le 1 code ++ le 1 0 ++ le 2 detail ++ le 2 0 ++ le 4 (r.trapSince + 1) ++ le 4 0 ++ le 8 p.cap
  if r.trapAt.any fun t => decide (s.floorTime < t + 1000000000) then
    s.putTask p.comp p.engine p.entry { r with trapSince := r.trapSince + 1 }
  else (s.putTask p.comp p.engine p.entry { r with trapAt := some s.floorTime, trapSince := 0 }).log p.comp 0x0402 body
    (decide (0 < r.trapSince))

/-- A trap: the ply is abandoned with nothing written, the trap fields are updated, the event is raised. -/
def State.trap (s : State) (p : Ply) (code detail : Nat) : State :=
  let at_ := [p.engine, p.entry]
  let s1 := s.wrs [(Obj.SCE_TRAP_LAST_CODE.at p.comp at_, code), (Obj.SCE_TRAP_LAST_DETAIL.at p.comp at_, detail),
    (Obj.SCE_TRAP_LAST_PC.at p.comp at_, p.pc), (Obj.SCE_TRAP_LAST_INST.at p.comp at_, p.ib),
    (Obj.SCE_TRAP_LAST_TIME.at p.comp at_, p.cap), (Obj.SCE_TRAP_EVT.at p.comp at_, 1)]
  (((s1.inc (Obj.SCE_TRAP_COUNT.at p.comp at_)).perf (5 + p.engine) 0x06 p.comp).logTrap p code detail).plyOver p

/-- Trap codes (Table 6-9). -/
def trapSlot : Nat := 2
def trapInst : Nat := 3
def trapGlobal : Nat := 4
def trapBadInst : Nat := 5
def trapDepth : Nat := 6
def trapEcc : Nat := 7
def trapUser : Nat := 8

/-- What an op that may trap does: the ply and its program go on, or a trap. -/
inductive OpEnd where
  | on (p : Ply) (g : Prog)
  | trap (code detail : Nat)
  deriving DecidableEq, Repr

/-- Run an op that reads or writes the program, or may trap. -/
def State.progOp (s : State) (e lo hi : Nat) (f : Ply → Prog → OpEnd) : State :=
  match s.running e with
  | none => s
  | some p => match s.progOf p with
    | none => s
    | some g =>
      let (s1, p1) := s.spend p lo hi
      match f p1 g with
      | .on q h => (s1.putProgOf q h).putPly q
      | .trap code detail => s1.trap p1 code detail

/-! ### Abandoning and stopping (R131, R132) -/

/-- Abandon some plies with nothing written. -/
def State.abandon (s : State) (f : Ply → Bool) : State :=
  { s with scan := { s.scan with plies := s.scan.plies.filter fun p => ! f p } }

/-- Requests that waited for a start, a hold or a step that a stop overtakes (R142). -/
def State.cutWaits (s : State) (c : Nat) : State :=
  let g := s.prog c
  let s1 := ((s.finish (.start c) St.cancelled []).finish (.hold c) St.cancelled [])
  match g.step with
  | some (e, k, _) => (s1.putProg c { g with step := none, starting := none }).finish (.step c e k) St.cancelled []
  | none => s1.putProg c { g with starting := none }

/-- Steps 1 to 3 of a stop at T_P, the present floor time (R131, R198): plies abandoned, transfers made, stop values
taken. Steps 4 and 5 are STOP_COMPLETE. -/
def State.stopProg (s : State) (c reason : Nat) (safe : Bool) : State :=
  let st := s.rd (Obj.SCE_STATE.b c)
  let pts := s.outputPoints c
  if st = 0 ∨ st = 5 then (if safe then (s.suspendForces c pts).takeStopValues c pts true else s)
  else
    let n := (s.scan.plies.filter fun p => p.comp == c).length
    let s1 := ((s.abandon fun p => p.comp == c).cutWaits c).transferAll c
    let s2 := if safe then s1.suspendForces c pts else s1
    let s3 := s2.takeStopValues c pts safe
    let s4 := s3.putProg c { s3.prog c with stopping := some { at_ := s.floorTime, reason := reason, plies := n }, ownHold := false }
    s4.wrs [(Obj.SCE_STATE.b c, 5), (Obj.SCE_STOP_REASON.b c, reason)]

/-- The DETAIL of 0x0403: reason, compartment, plies abandoned, T_P. -/
def Stopping.detail (x : Stopping) (c : Nat) : Bytes := le 1 x.reason ++ le 1 c ++ le 2 x.plies ++ le 4 0 ++ le 8 x.at_

/-- Whether the mode lets a compartment run now (R137). -/
def State.mayRun (s : State) (c : Nat) : Bool := s.mode == 6 || s.mode == 7 || (s.mode == 5 && decide (c < 2))

/-- STOPPED to STARTING. -/
def State.startProg (s : State) (c : Nat) (cold byOwner : Bool) : State :=
  if s.rd (Obj.SCE_STATE.b c) = 0 then
    (s.putProg c { s.prog c with starting := some { at_ := s.floorTime, cold := cold, byOwner := byOwner } }).wr
      (Obj.SCE_STATE.b c) 1
  else s

/-- A compartment whose intent is set starts where the mode lets it run, cold if that was asked for (R137). -/
def State.startIntent (s : State) (c : Nat) (cold : Bool) : State :=
  if s.mayRun c && s.on (Obj.SCE_STATE_INTENT.b c) && s.rd (Obj.SCE_STATE.b c) == 0 then
    let p := s.prog c
    (s.putProg c { p with coldAsked := false }).startProg c (cold || p.coldAsked) false
  else s

/-- STOP_COMPLETE: the retained commit and the state STOPPED (R131 steps 4 and 5). -/
def stopComplete (c : Nat) (s : State) : State :=
  match (s.prog c).stopping with
  | none => s
  | some x =>
    let s1 := s.commitShadow c
    let s2 := s1.putProg c { s1.prog c with stopping := none }
    let s3 := ((s2.wr (Obj.SCE_STATE.b c) 0).set1 (Obj.SCE_EVT_STOPPED.b c)).log c 0x0403 (x.detail c)
    let s4 := if x.reason = 2 then s3.log 0 0x0403 (x.detail c) else s3
    (s4.finish (.stop c) St.ok (le 8 x.at_ ++ le 2 x.plies)).startIntent c false

def execStopComplete (comp : Nat) (t : Nat) (s : State) : Host.Outcome State Fault Refusal :=
  .next (stopComplete comp (s.advance t))

/-- SKIP_LIMIT_STOP (R129): consecutive skips reached the task's limit; the intent is cleared (R137). -/
def skipLimitStop (c e k : Nat) (s : State) : State :=
  let limit := s.rd (Obj.SCE_TASK_SKIP_LIMIT.at c [e, k])
  let st := s.rd (Obj.SCE_STATE.b c)
  if limit ≠ 0 ∧ limit ≤ s.rd (Obj.SCE_TASK_SKIP_RUN.at c [e, k]) ∧ 2 ≤ st ∧ st ≤ 4 then
    (s.stopProg c 3 false).wr (Obj.SCE_STATE_INTENT.b c) 0
  else s

def execSkipLimitStop (comp : Nat) (e : Fin 2) (entry : Fin 16) (t : Nat) (s : State) : Host.Outcome State Fault Refusal :=
  .next (skipLimitStop comp e.val entry.val (s.advance t))

/-! ### Hold and release (R133, R137) -/

/-- Enter HOLDING; with no ply unfinished HOLD is reached at once. -/
def State.holdProg (s : State) (c : Nat) : State :=
  if s.rd (Obj.SCE_STATE.b c) = 2 then (s.wr (Obj.SCE_STATE.b c) 3).holdReached c else s

/-- Back to RUN; each task's next ply is its first boundary not before `from_` (R134). -/
def State.resumeProg (s : State) (c from_ : Nat) : State :=
  let st := s.rd (Obj.SCE_STATE.b c)
  if st = 3 ∨ st = 4 then
    let s1 := (List.range 32).foldl (fun t k =>
      t.putTask c (k / 16) (k % 16) { (t.task c (k / 16) (k % 16)) with from_ := from_ }) s
    (s1.putProg c { s1.prog c with ownHold := false, step := none }).wr (Obj.SCE_STATE.b c) 2
  else s

/-! ### Start (R140, R141) -/

/-- Counters and marks of a task at a start (Table 5-8). -/
def State.resetTask (s : State) (c e k tS : Nat) : State :=
  (s.putTask c e k { from_ := tS }).wrs
    [(Obj.SCE_TASK_TEMPO_COUNT.at c [e, k], 0), (Obj.SCE_TASK_PLY_DONE.at c [e, k], 0),
     (Obj.SCE_TASK_SKIP_COUNT.at c [e, k], 0), (Obj.SCE_TASK_SKIP_RUN.at c [e, k], 0), (Obj.SCE_TRAP_COUNT.at c [e, k], 0)]

/-- The points a compartment owns that have no source. -/
def State.freePoints (s : State) (c : Nat) : List Nat :=
  (List.range 8192).filter fun p => s.ownerPt p == c && s.source p == 0

/-- A cold start releases every force and sets each free point to its SAFE value (Table 5-8, R145). -/
def State.coldPoints (s : State) (c : Nat) : State :=
  let s1 := s.releaseForces c (s.forces c)
  s1.pimgWrite ((s1.freePoints c).map fun p => PtWrite.whole p (s1.rd (Obj.SCE_STOP_SAFE.i p)))

/-- STARTUP_COMPLETE: initialisation is over; the compartment runs from T_S. A start waits for an exchange in
transfer (R198). -/
def startupComplete (c : Nat) (s : State) : State :=
  match (s.prog c).starting with
  | none => s
  | some x =>
    if s.rd (Obj.EXCH_STATE.b c) = 2 ∨ s.rd (Obj.SCE_STATE.b c) ≠ 1 then s
    else
      let p := s.prog c
      let cold := x.cold || ! p.warmOk
      let fallback := ! x.cold && cold
      let tS := roundUp s.floorTime 1000000
      let cur := p.cur.map fun g => match p.kept with | some r => if cold then g.cold else g.warm r | none => g.cold
      let shadow := match cur with | some g => g.ranges fun _ => true | none => []
      let s1 := (s.putProg c { p with cur := cur, shadow := shadow, starting := none, ownHold := false, step := none }).resumeForces c
      let s2 := if cold then s1.coldPoints c else s1
      let s3 := s2.takeStopValues c (s2.outputPoints c) false
      let s4 := (List.range 32).foldl (fun t k => t.resetTask c (k / 16) (k % 16) tS) s3
      let s5 := s4.wrs [(Obj.SCE_STATE.b c, 2), (Obj.SCE_STATE_LAST_COLD.b c, b2n cold), (Obj.SCE_STATE_COLD_FALLBACK.b c, b2n fallback)]
      let body := le 1 (b2n cold) ++ le 1 c ++ le 6 0 ++ le 8 tS
      let s6 := if fallback then (s5.set1 (Obj.SCE_EVT_COLD_FALLBACK.b c)).log c 0x0405 [] else s5
      let s7 := s6.log c 0x0404 body
      let s8 := if x.byOwner then s7.log 0 0x0404 body else s7
      let s9 := s8.finish (.start c) St.ok (le 8 tS ++ le 1 (b2n cold))
      if s9.mode = 9 then s9.holdProg c else s9

def execStartupComplete (comp : Nat) (t : Nat) (s : State) : Host.Outcome State Fault Refusal :=
  .next (startupComplete comp (s.advance t))

/-- RETAINED_COMMIT (R139): the shadows of a compartment are committed to MRAM. -/
def execRetainedCommit (comp : Nat) (t : Nat) (s : State) : Host.Outcome State Fault Refusal :=
  .next ((s.advance t).commitShadow comp)

/-! ### Budgets (R125, R126) -/

/-- What a compartment used in the window that ends, in ns. -/
def State.closeUsed (s : State) (e c : Nat) : State :=
  let used := min (2 ^ 24 - 1) ((s.eng e).used.get 0 c / 1000)
  let f := if e = 0 then Obj.SCE_USED_0 else Obj.SCE_USED_1
  let k := if e = 0 then Obj.SCE_PEAK_0 else Obj.SCE_PEAK_1
  (s.wr (f.b c) used).wr (k.b c) (max used (s.rd (k.b c)))

/-- The window of an engine ends, and the next one begins at `from_` with the shares now in force. -/
def State.nextWindow (s : State) (e from_ : Nat) : State :=
  let s1 := s.compartments.foldl (fun t c => t.closeUsed e c) s
  s1.putEng e { (s1.eng e) with used := [], reached := [], shares := some ((List.range 34).map (s1.share e)), since := some from_ }

/-- BUDGET_WINDOW: a window of 10 ms begins on an engine; the shares now in force govern it. -/
def budgetWindow (e : Nat) (s : State) : State :=
  if s.floorTime % 10000000 = 0 ∧ (s.eng e).since ≠ some s.floorTime then s.nextWindow e s.floorTime else s

def execBudgetWindow (e : Fin 2) (t : Nat) (s : State) : Host.Outcome State Fault Refusal :=
  .next (budgetWindow e.val (s.advance t))

/-- BUDGET_SUSPENSION: the charge of a compartment has reached its allowance. The engine picks no ply of it until the
next window (`State.runnable`); this counts and reports it, once a window. -/
def budgetSuspension (c e : Nat) (s : State) : State :=
  let g := s.eng e
  if ! s.hasBudget e c && ! g.reached.contains c && decide (0 < s.allowance e c) then
    let s1 := (s.putEng e { g with reached := g.reached ++ [c] }).perf (5 + e) 0x04 c
    if e = 0 then (s1.inc (Obj.SCE_EXHAUST_0.b c)).set1 (Obj.SCE_EVT_BUDGET_0.b c)
    else (s1.inc (Obj.SCE_EXHAUST_1.b c)).set1 (Obj.SCE_EVT_BUDGET_1.b c)
  else s

def execBudgetSuspension (comp : Nat) (e : Fin 2) (t : Nat) (s : State) : Host.Outcome State Fault Refusal :=
  .next (budgetSuspension comp e.val (s.advance t))

/-! ### Tempo boundaries (R24, R120, R122, R127, R133) -/

/-- Whether a floor time is a boundary of a tempo and phase (R120). -/
def isBoundary (t tempo phase : Nat) : Bool :=
  t % 1000000 == 0 && decide (0 < tempo) && ((t / 1000000 : Int) - (phase % tempo : Nat)) % (tempo : Int) == 0

/-- The captured value and attributes of an input (R155, R191). -/
def State.captureIn (s : State) (c p : Nat) : Word64 × Nat :=
  let attr := s.rd (Obj.PIMG_ATTR_FORCED.i p) + 2 * s.rd (Obj.PIMG_ATTR_STALE.i p)
  match s.pointForce c p with
  | some v => (BitVec.ofNat 64 v, attr)
  | none => (BitVec.ofNat 64 (s.pt p), attr)

/-- The event of a flag fall (R128): at the start of a run, then at most one a second with the skips since. -/
def State.logSkip (s : State) (c e k : Nat) (firstOfRun : Bool) : State :=
  let r := s.task c e k
  let body := le 1 e ++ le 1 k ++ le 2 0 ++ le 4 (r.warnSince + 1) ++ le 8 s.floorTime
  if ! firstOfRun && (r.warnAt.any fun t => decide (s.floorTime < t + 1000000000)) then
    s.putTask c e k { r with warnSince := r.warnSince + 1 }
  else (s.putTask c e k { r with warnAt := some s.floorTime, warnSince := 0 }).log c 0x0401 body (! firstOfRun)

/-- A flag fall (R127). -/
def State.flagFall (s : State) (c e k : Nat) : State :=
  let firstOfRun := s.rd (Obj.SCE_TASK_SKIP_RUN.at c [e, k]) == 0
  let s0 := s.perf (5 + e) 0x05 c
  let s1 := ((s0.inc (Obj.SCE_TASK_SKIP_COUNT.at c [e, k])).incSat (Obj.SCE_TASK_SKIP_RUN.at c [e, k])).inc (Obj.SCE_SKIP_TOTAL.b c)
  ((s1.set1 (Obj.SCE_TASK_TASK_EVT_FLAG_FALL.at c [e, k])).set1 (Obj.SCE_EVT_FLAG_FALL.b c)).logSkip c e k firstOfRun

/-- The ply that begins at the present floor time (R146, R156, Table 6-8). -/
def State.newPly (s : State) (c : Nat) (t : ImgTask) (g : Prog) (stepped : Bool) : Ply :=
  let r := s.task c t.engine t.entry
  let root := g.instIx t.root
  let ty := root.bind fun x => g.image.types[x.typeIx]?
  { comp := c, engine := t.engine, entry := t.entry, cap := s.floorTime,
    tempo := s.rd (Obj.SCE_TASK_TEMPO.at c [t.engine, t.entry]), ready := false, begun := false, onOld := false,
    regs := List.replicate 32 0, pc := (ty.bind fun y => g.image.funcs[y.entry]?).elim 0 (·.off),
    ib := root.elim 0 (·.id), gb := g.glob.map (·.id), link := [],
    ins := t.ins.map (s.captureIn c), outPts := t.outs, outs := t.outs.map fun p => BitVec.ofNat 64 (s.ownValue c p),
    sets := [], divz := false, first := r.first, cold := s.on (Obj.SCE_STATE_LAST_COLD.b c), stepped := stepped,
    newBank := r.newBank, tempoLow := s.rd (Obj.SCE_TASK_TEMPO_COUNT.at c [t.engine, t.entry]), events := 0, charged := 0,
    waiting := none, lost := false }

/-- Begin a ply: the capture with its hold, the exchange transfer, the variable forces (R122, R184, R192). -/
def State.beginPly (s : State) (c : Nat) (t : ImgTask) (stepped : Bool) : State :=
  let at_ := [t.engine, t.entry]
  match (s.prog c).cur with
  | none => s
  | some g0 =>
    let p := s.newPly c t g0 stepped
    let s1 := (s.transferTask c t).perf (5 + t.engine) 0x0F c t.ins.length
    let s2 := match (s1.prog c).cur with
      | some g => s1.putProg c { s1.prog c with cur := some (g.forced (s1.forces c)) }
      | none => s1
    let s3 := s2.wrs [(Obj.SCE_TASK_SKIP_RUN.at c at_, 0), (Obj.SCE_TASK_LAST_BOUNDARY.at c at_, s.floorTime)]
    let s4 := s3.putTask c t.engine t.entry { (s3.task c t.engine t.entry) with first := false, newBank := false }
    { s4 with scan := { s4.scan with plies := s4.scan.plies ++ [p], hold := some s.floorTime } }

/-- Whether a task steps at its next boundary (R135). -/
def CompScan.steps (p : CompScan) (e k : Nat) : Bool :=
  match p.step with | some (e', k', n) => e' == e && k' == k && decide (0 < n) | none => false

/-- What a boundary of a task does, once it is one. -/
def State.boundary (s : State) (c : Nat) (t : ImgTask) : State :=
  let e := t.engine
  let k := t.entry
  let st := s.rd (Obj.SCE_STATE.b c)
  let r := s.task c e k
  let off := s.dormant c e k || s.failed e
  let late := (s.plyOf c e k).isSome
  let stepping := st == 4 && (s.prog c).steps e k
  let due := ! off && ((st == 2 && decide (r.from_ ≤ s.floorTime)) || stepping)
  let counts := ! off && (st == 2 || st == 3 || st == 4) && (r.counting || (due && ! late))
  let s1 := if counts then (s.putTask c e k { r with counting := true }).inc (Obj.SCE_TASK_TEMPO_COUNT.at c [e, k]) else s
  if late then (if ! off && (st == 2 || st == 3 || stepping) then s1.flagFall c e k else s1)
  else if due then s1.beginPly c t stepping
  else s1.transferTask c t

/-- TEMPO_BOUNDARY. -/
def tempoBoundary (c e k : Nat) (s : State) : State :=
  match s.enabledTask c e k with
  | some t => if isBoundary s.floorTime (s.rd (Obj.SCE_TASK_TEMPO.at c [e, k])) (s.rd (Obj.SCE_TASK_PHASE.at c [e, k])) then
      s.boundary c t else s
  | none => s

def execTempoBoundary (comp : Nat) (e : Fin 2) (entry : Fin 16) (t : Nat) (s : State) : Host.Outcome State Fault Refusal :=
  .next (tempoBoundary comp e.val entry.val (s.advance t))

/-- CAPTURE_HOLD_END (R122): the queued writes are applied in arrival order, the captured plies become ready. -/
def captureHoldEnd (s : State) : State :=
  match s.scan.hold with
  | none => s
  | some _ =>
    let s1 : State := { s with scan := { s.scan with hold := none, queued := [], plies := s.scan.plies.map fun p => { p with ready := true } } }
    (s.scan.queued.foldl State.applyPts s1).finish .pimg St.ok []

def execCaptureHoldEnd (t : Nat) (s : State) : Host.Outcome State Fault Refusal := .next (captureHoldEnd (s.advance t))

end Sys2Proof.Machine
end

