-- ==== Sys2Proof/Machine/ScanCmd.lean ====
section
/-!
DEFINITION. The commands of family 0x04: program states (spec/05 R134 to R138), scan images (spec/06 R171, R172), and
exchange planning and forcing (spec/07 R189 to R197).
-/
namespace Sys2Proof.Machine

/-- Whether D1 is enabled for a compartment (R136, R395). -/
def State.d1 (s : State) (c : Nat) : Bool := bit (s.rd Obj.LCY_D1_EN.f) c

/-- Check 7 of the scan commands; check 8 of those that M9 refuses (R137). -/
def scanOpen (q : Req) (s : State) (d1 frozenInM9 : Bool) : Option Nat :=
  if ! permitted .all m5to9 q s || (d1 && ! s.d1 q.comp) then some St.notPermitted
  else if frozenInM9 && s.mode == 9 then some St.busy
  else none

/-- The target of a scan command (R138). -/
def targetOk (q : Req) (s : State) (c : Nat) : Bool := c == q.comp || (q.comp == 0 && s.exists? c)

/-- PENDING goes out before a final response that this step already gives. -/
def State.sayPending (s : State) (q : Req) : State := s.respond q.conn q.comp q.seq q.code St.pending []

def stateError : Reply := .check 0x0401

/-! ### Program states -/

def cmdScanStart (q : Req) (s : State) : State × Reply :=
  match scanOpen q s false true with
  | some st => (s, .no st)
  | none =>
    let c := field q.payload 0 1
    let cold := field q.payload 1 1
    if q.payload.length ≠ 4 ∨ cold > 1 then (s, .no St.badPayload)
    else if ! targetOk q s c then (s, .no St.noObject)
    else if s.rd (Obj.SCE_STATE.b c) ≠ 0 then (s, stateError)
    else
      let s1 := s.wr (Obj.SCE_STATE_INTENT.b c) 1
      if s1.mayRun c then (s1.startProg c (cold == 1) (q.comp == 0 && c != 0), .pending (.start c))
      else (s1.putProg c { s1.prog c with coldAsked := cold == 1 }, .ok (le 8 0 ++ le 1 cold))

def execCmdScanStart (f : Frame) (s : State) : Host.Outcome State Fault Refusal := command 0x0401 cmdScanStart f s

def cmdScanStop (q : Req) (s : State) : State × Reply :=
  match scanOpen q s false true with
  | some st => (s, .no st)
  | none =>
    let c := field q.payload 0 1
    if q.payload.length ≠ 4 then (s, .no St.badPayload)
    else if ! targetOk q s c then (s, .no St.noObject)
    else
      let st := s.rd (Obj.SCE_STATE.b c)
      let s1 := s.wr (Obj.SCE_STATE_INTENT.b c) 0
      if st = 0 then (s1, .ok (le 8 s.floorTime ++ le 2 0))
      else if st = 5 then (s, stateError)
      else (s1.stopProg c (if q.comp = c then 1 else 2) false, .pending (.stop c))

def execCmdScanStop (f : Frame) (s : State) : Host.Outcome State Fault Refusal := command 0x0402 cmdScanStop f s

def cmdScanHold (q : Req) (s : State) : State × Reply :=
  match scanOpen q s true true with
  | some st => (s, .no st)
  | none =>
    if q.payload ≠ [] then (s, .no St.badPayload)
    else if s.rd (Obj.SCE_STATE.b q.comp) ≠ 2 then (s, stateError)
    else
      let s1 := (s.putProg q.comp { s.prog q.comp with ownHold := true }).holdProg q.comp
      if s1.rd (Obj.SCE_STATE.b q.comp) = 4 then (s1.sayPending q, .ok (le 8 s.floorTime)) else (s1, .pending (.hold q.comp))

def execCmdScanHold (f : Frame) (s : State) : Host.Outcome State Fault Refusal := command 0x0403 cmdScanHold f s

/-- End a step command that is still running. -/
def State.endStep (s : State) (c : Nat) : State :=
  let g := s.prog c
  match g.step with
  | some (e, k, _) => (s.putProg c { g with step := none }).finish (.step c e k) St.cancelled []
  | none => s

def cmdScanResume (q : Req) (s : State) : State × Reply :=
  match scanOpen q s true true with
  | some st => (s, .no st)
  | none =>
    if q.payload ≠ [] then (s, .no St.badPayload)
    else if s.rd (Obj.SCE_STATE.b q.comp) ≠ 4 then (s, stateError)
    else (((s.endStep q.comp).resumeProg q.comp (s.floorTime + 1000000)).sayPending q, .ok (le 8 s.floorTime))

def execCmdScanResume (f : Frame) (s : State) : Host.Outcome State Fault Refusal := command 0x0404 cmdScanResume f s

def cmdScanStep (q : Req) (s : State) : State × Reply :=
  match scanOpen q s true true with
  | some st => (s, .no st)
  | none =>
    let e := field q.payload 0 1
    let k := field q.payload 1 1
    let n := field q.payload 2 1
    if q.payload.length ≠ 4 ∨ e > 1 ∨ k > 15 ∨ n = 0 ∨ n > 16 then (s, .no St.badPayload)
    else if (s.enabledTask q.comp e k).isNone then (s, .no St.noObject)
    else if s.rd (Obj.SCE_STATE.b q.comp) ≠ 4 ∨ (s.prog q.comp).step.isSome then (s, stateError)
    else (s.putProg q.comp { s.prog q.comp with step := some (e, k, n) }, .pending (.step q.comp e k))

def execCmdScanStep (f : Frame) (s : State) : Host.Outcome State Fault Refusal := command 0x0405 cmdScanStep f s (cancellable := true)

/-- Words 0x0000 to 0x0034 of a bank. -/
def State.statusWords (s : State) (c : Nat) : Bytes := (List.range 14).flatMap fun i => le 4 ((s.wordAt c (0x100000 + 4 * i)).getD 0)

def cmdScanStatus (q : Req) (s : State) : State × Reply :=
  match scanOpen q s false false with
  | some st => (s, .no st)
  | none =>
    if q.payload.length ≠ 4 then (s, .no St.badPayload)
    else if ! targetOk q s (field q.payload 0 1) then (s, .no St.noObject)
    else (s, .ok (s.statusWords (field q.payload 0 1)))

def execCmdScanStatus (f : Frame) (s : State) : Host.Outcome State Fault Refusal :=
  command 0x0406 cmdScanStatus f s (cancellable := true) (rereads := true)

/-! ### Scan images (R171 to R173) -/

/-- A written range put among sorted, disjoint ranges. -/
def coverIns : List (Nat × Nat) → Nat → Nat → List (Nat × Nat)
  | [], a, b => [(a, b)]
  | (x, y) :: r, a, b =>
    if b < x then (a, b) :: (x, y) :: r
    else if y < a then (x, y) :: coverIns r a b
    else coverIns r (min a x) (max b y)

/-- Bytes of an image still missing. -/
def ImageData.missing (d : ImageData) : Nat := d.size - (d.written.map fun r => r.2 - r.1).foldl (· + ·) 0

/-- Show a staged image (Table 6-20). -/
def State.showImage (s : State) (c : Nat) (d : ImageData) (state detail : Nat) (hash : Bytes) : State :=
  ((List.range 12).foldl (fun t i => t.wr (Obj.SCE_IMG_STG_HASH.bi c i) (field hash (4 * i) 4)) s).wrs
    [(Obj.SCE_IMG_STG_SIZE.b c, d.size), (Obj.SCE_IMG_STG_MISSING.b c, d.missing), (Obj.SCE_IMG_STG_STATE.b c, state),
     (Obj.SCE_IMG_STG_DETAIL.b c, detail)]

/-- Write bytes of the staged image (R171): the status, and the bytes still missing. -/
def State.imageWrite (s : State) (c off size : Nat) (data : Bytes) : State × Nat × Nat :=
  let g := s.staging c
  let d := g.image.getD { size := size }
  if size < 64 ∨ size > 12582912 ∨ d.size ≠ size ∨ off + data.length > size then (s, St.badValue, 0)
  else
    let d1 : ImageData := { size := size, data := memWrite d.data off data, written := coverIns d.written off (off + data.length) }
    let g1 := { g with state := 1, image := some d1 }
    if ! s.stagingFits c g1 then (s, St.noSpace, 0)
    else ((s.putStaging c g1).showImage c d1 (if d1.missing = 0 then 2 else 1) (s.rd (Obj.SCE_IMG_STG_DETAIL.b c)) [], St.ok, d1.missing)

/-- Discard the staged image and the task-entry defaults staged from it (R171). -/
def State.imageDrop (s : State) (c : Nat) : State :=
  let g := s.staging c
  if g.image.isNone then s
  else
    let cells := g.cells.filter fun p => ! g.defaults.contains p.1.key
    let g1 := { g with image := none, cells := cells, defaults := [], state := if cells.isEmpty then 0 else 1 }
    (s.putStaging c g1).clearImageFields c

/-- Hold a write that arrives while its staging is CHECKING (R100). -/
def State.holdWrite (s : State) (q : Req) (op : HeldOp) : State × Reply :=
  let g := s.staging q.comp
  ({ s with stagings := s.stagings.put q.comp { g with held := g.held ++ [⟨q.sid, q.seq, op⟩] } }, .later (.held q.sid q.seq))

def cmdScanImageWrite (q : Req) (s : State) : State × Reply :=
  let n := q.payload.length
  let off := field q.payload 0 4
  let size := field q.payload 4 4
  if ! permitted .all m5to9 q s then (s, .no St.notPermitted)
  else if n < 9 ∨ n > 16360 then (s, .no St.badPayload)
  else if s.failed 14 then (s, .no St.unitFailed)
  else if (s.staging q.comp).state = 2 then s.holdWrite q (.image off size (q.payload.drop 8))
  else match s.imageWrite q.comp off size (q.payload.drop 8) with
    | (s1, st, missing) => if st = St.ok then (s1, .ok (le 4 missing)) else (s1, .no st)

def execCmdScanImageWrite (f : Frame) (s : State) : Host.Outcome State Fault Refusal := command 0x0410 cmdScanImageWrite f s

def cmdScanImageDrop (q : Req) (s : State) : State × Reply :=
  if ! permitted .all m5to9 q s then (s, .no St.notPermitted)
  else if q.payload ≠ [] then (s, .no St.badPayload)
  else if s.failed 14 then (s, .no St.unitFailed)
  else if (s.staging q.comp).state = 2 then s.holdWrite q .drop
  else (s.imageDrop q.comp, .ok [])

def execCmdScanImageDrop (f : Frame) (s : State) : Host.Outcome State Fault Refusal := command 0x0412 cmdScanImageDrop f s

/-- The SCE microcode version in force: that of the active firmware slot. -/
def State.ucode (s : State) : Nat := (s.upd.running.get {} 4).version

/-- The values VERIFY stages from an image's task table, for all 32 entries (R172). -/
def Image.taskDefaults (g : Image) (c : Nat) : List (Fld × Nat) :=
  (List.range 32).flatMap fun i =>
    let at_ := [i / 16, i % 16]
    match g.task (i / 16) (i % 16) with
    | some t => [(Obj.SCE_TASK_CFG_ENABLE.at c at_, 1), (Obj.SCE_TASK_CFG_WATCH.at c at_, b2n t.watch),
        (Obj.SCE_TASK_TEMPO.at c at_, t.tempo), (Obj.SCE_TASK_PHASE.at c at_, t.phase),
        (Obj.SCE_TASK_SKIP_LIMIT.at c at_, t.skipLimit)]
    | none => [(Obj.SCE_TASK_CFG_ENABLE.at c at_, 0)]

/-- The base of the staged-image fields. -/
def stgBase : Nat := 0x130100

/-- The loader checks on a staged image. -/
def State.loaderCheck (s : State) (c : Nat) (d : ImageData) : Option (Nat × Nat) := (Raw.of d.bytes).check c s.ucode

def cmdScanImageVerify (q : Req) (s : State) : State × Reply :=
  if ! permitted .all m5to9 q s then (s, .no St.notPermitted)
  else if q.payload ≠ [] then (s, .no St.badPayload)
  else
    let c := q.comp
    let g := s.staging c
    let s0 := s.sayPending q
    match g.image with
    | none => (s0, .check 0x0430 0xFFFF stgBase)
    | some d =>
      if d.missing ≠ 0 then (s0, .check 0x0430 0xFFFF stgBase)
      else match s.loaderCheck c d with
        | some (code, ix) =>
          (((s0.putStaging c { g with image := some { d with verified := false } }).showImage c d 4 code []), .check code ix stgBase)
        | none =>
          let im := (Raw.of d.bytes).image
          let l := im.taskDefaults c
          let cells := l.foldl (fun k p => stagePut k p.1 p.2) g.cells
          let g1 : Staging := { g with state := 1, image := some { d with verified := true }, cells := cells, defaults := l.map (·.1.key) }
          if ! s.stagingFits c g1 then (s0, .no St.noSpace)
          else ((s0.putStaging c g1).showImage c d 3 (s.rd (Obj.SCE_IMG_STG_DETAIL.b c)) im.hash,
            .ok (im.hash ++ le 4 (im.codeBytes 0) ++ le 4 (im.codeBytes 1) ++ le 2 im.insts.length ++ le 2 0))

def execCmdScanImageVerify (f : Frame) (s : State) : Host.Outcome State Fault Refusal := command 0x0411 cmdScanImageVerify f s

/-! ### Exchange plan and forces -/

def cmdScanExchPlan (q : Req) (s : State) : State × Reply :=
  match scanOpen q s false false with
  | some st => (s, .no st)
  | none =>
    if q.payload ≠ [] then (s, .no St.badPayload)
    else
      let s0 := s.sayPending q
      match (s.staging q.comp).image, (s.prog q.comp).cur with
      | some d, some o =>
        if ! d.verified then (s0, .check 0x0443)
        else
          let g := (Raw.of d.bytes).image
          let p := planOf o.image g
          let rel := s.releasedBy q.comp g
          let blk := s.blockedBy q.comp g
          (s0, .ok (le 2 p.carried ++ le 2 p.retyped ++ le 2 p.fresh ++ le 2 p.removed ++ le 2 p.reinit ++ le 2 p.newPt ++
            le 1 rel.length ++ le 1 blk.length ++ (rel ++ blk).flatMap fun f => le 1 f.ix))
      | _, _ => (s0, .check 0x0443)

def execCmdScanExchPlan (f : Frame) (s : State) : Host.Outcome State Fault Refusal :=
  command 0x0420 cmdScanExchPlan f s (cancellable := true)

/-- Whether a pending Castling of the compartment would retype a symbol (R196). -/
def State.retypePending (s : State) (c path name dtype size : Nat) : Bool :=
  s.castlings.any fun k => k.parts.any fun p => p.comp == c && (match p.image with
    | some d => (match (Raw.of d.bytes).image.symbol path name with
      | some v => v.dtype != dtype || v.size != size
      | none => false)
    | none => false)

/-- Set a force in its entry: that of a force on the same target, or the lowest FREE one (R190, R193). -/
def State.setForce (s : State) (c : Nat) (f : Force) : State × Reply :=
  let same := (s.forces c).find? fun x => x.kind == f.kind && x.point == f.point && x.path == f.path && x.name == f.name
  let free := (List.range 128).find? fun i => s.rd (Obj.FORCE_STATE.bi c i) == 0
  let held := f.kind == 0 && s.mode == 8 && (s.outputPoints c).contains f.point
  let ix := match same with | some x => some x.ix | none => if s.forceTotal ≥ 1024 then none else free
  match ix with
  | none => (s, .no St.noSpace)
  | some i =>
    let f1 := { f with ix := i, state := if held then 2 else 1 }
    let s1 := s.putForce c f1
    (if f.kind = 0 && ! held then s1.applyForce f1 else s1, .ok (le 1 i ++ le 3 0))

def cmdScanForceSet (q : Req) (s : State) : State × Reply :=
  match scanOpen q s true true with
  | some st => (s, .no st)
  | none =>
    let c := q.comp
    let kind := field q.payload 0 1
    let point := field q.payload 2 2
    let path := field q.payload 4 8
    let name := field q.payload 12 8
    let value := field q.payload 20 8
    if q.payload.length ≠ 28 ∨ kind > 1 ∨ (kind = 0 ∧ (path ≠ 0 ∨ name ≠ 0)) ∨ (kind = 1 ∧ point ≠ 0) then (s, .no St.badPayload)
    else if kind = 0 then
      if point ≥ 8192 ∨ s.ownerPt point ≠ c then (s, .no St.noObject)
      else s.setForce c { ix := 0, state := 1, kind := 0, dtype := 0, point := point, size := 8, path := 0, name := 0, value := value }
    else match (s.prog c).cur.bind fun g => g.image.symbol path name with
      | none => (s, .no St.noObject)
      | some v =>
        if v.dtype = 0 ∨ v.dtype > 0xB then (s, .check 0x0442)
        else if s.retypePending c path name v.dtype v.size then (s, .check 0x0441)
        else s.setForce c { ix := 0, state := 1, kind := 1, dtype := v.dtype, point := 0, size := v.size, path := path, name := name,
                            value := value % 2 ^ (8 * v.size) }

def execCmdScanForceSet (f : Frame) (s : State) : Host.Outcome State Fault Refusal := command 0x0430 cmdScanForceSet f s

def cmdScanForceClear (q : Req) (s : State) : State × Reply :=
  match scanOpen q s true true with
  | some st => (s, .no st)
  | none =>
    let i := field q.payload 0 1
    if q.payload.length ≠ 4 ∨ (i > 127 ∧ i ≠ 0xFF) then (s, .no St.badPayload)
    else
      let l := (s.forces q.comp).filter fun f => i == 0xFF || f.ix == i
      (s.releaseForces q.comp l, .ok (le 1 l.length))

def execCmdScanForceClear (f : Frame) (s : State) : Host.Outcome State Fault Refusal := command 0x0431 cmdScanForceClear f s

/-- An entry as Table 7-8 lays it out, 32 bytes. -/
def Force.bytes (f : Force) : Bytes :=
  le 4 (f.state + 4 * f.kind + 256 * f.dtype + 65536 * f.point) ++ le 4 f.size ++ le 8 f.path ++ le 8 f.name ++ le 8 f.value

def cmdScanForceList (q : Req) (s : State) : State × Reply :=
  match scanOpen q s true false with
  | some st => (s, .no st)
  | none =>
    if q.payload ≠ [] then (s, .no St.badPayload)
    else
      let l := s.forces q.comp
      (s, .ok (le 1 l.length ++ l.flatMap Force.bytes))

def execCmdScanForceList (f : Frame) (s : State) : Host.Outcome State Fault Refusal :=
  command 0x0432 cmdScanForceList f s (cancellable := true) (rereads := true)

end Sys2Proof.Machine
end

