-- ==== Sys2Proof/Machine/Units.lean ====
section
/-!
DEFINITION. Unit failures (spec/02 R49, R53, Table 2-7), PLLs that do not lock (R33), and what a mode is entered as while
a failure persists.
-/
namespace Sys2Proof.Machine

/-! ### Who hears of a failure, and what mode it asks for -/

/-- The tenants that Table 2-7 names for a unit. -/
def State.failTenants (s : State) (u : Nat) : List Nat :=
  let task (c e : Nat) : Bool := (List.range 16).any fun k => s.on (Obj.SCE_TASK_CFG_ENABLE.bij c e k)
  s.tenants.filter fun c =>
    if u < 2 then task c u || (s.failed (1 - u) && task c (1 - u))
    else if u = 2 then ! (s.ownCircuits c).isEmpty ||
      (List.range 8).any fun n => s.on (Obj.MAE_PULSE_ENABLE.i n) && s.rd (Obj.MAE_PULSE_OWNER.i n) == c
    else if u = 3 then (List.range 24).any fun p => s.ownsRange p c
    else if u = 4 then (List.range 16).any fun p => s.rd (Obj.LBX_PORT_OWNER.i p) == c
    else if u = 5 then (List.range 64).any fun v => s.on (Obj.NSW_VLAN_ENABLE.i v) && s.rd (Obj.NSW_VLAN_OWNER.i v) == c
    else if u ≤ 9 then s.failed 6 && s.failed 7 && s.failed 8 && s.failed 9 &&
      (! (s.entriesOf c 0).isEmpty || ! (s.entriesOf c 1).isEmpty || s.rd (Obj.NSW_SVC_MQTT_BROKER.i c) != 0)
    else if u = 14 ∨ u = 16 ∨ u = 17 then true
    else if u = 15 then (s.prog c).cur.isSome
    else false

/-- Whether the failures present map to M8 (Table 2-7). -/
def State.severe (s : State) : Bool := (s.failed 0 && s.failed 1) || s.failed 16 || s.failed 17

/-- Whether a failure or a derating plan present maps to M7 (Table 2-7). -/
def State.reduced (s : State) : Bool :=
  ([0, 1, 2, 3, 4, 5, 6, 7, 8, 9, 10, 14, 15].any s.failed) || s.on Obj.AGM_STATUS_DERATED.f

/-- The mode entered where M6 would be (R49). -/
def State.serviceMode (s : State) : Nat := if s.reduced then 7 else 6

/-- The transition that the failures present ask for in a mode (Table 2-2). -/
def State.judgeMode (s : State) : State :=
  if s.power.transition.isSome then s
  else if (s.mode = 2 ∨ s.mode = 5 ∨ s.mode = 6 ∨ s.mode = 7) ∧ s.severe then s.beginTransition 8
  else if s.mode = 6 ∧ s.reduced then s.beginTransition 7
  else s

/-! ### The behaviour of a failure -/

/-- Every TLS connection loses its transport (R72). -/
def State.dropTls (s : State) : State := (s.conns.filter fun c => ! c.usb).foldl (fun t c =>
  { t with conns := t.conns.filter fun k => k.id != c.id }.detach c.id t.floorTime) s

/-- The tasks on a failed engine: plies abandoned, their output points at stop values (R137, R142). -/
def State.stopEngine (s : State) (e : Nat) : State :=
  let s1 := s.abandon fun p => p.engine == e
  s1.compartments.foldl (fun t c =>
    (t.takeStopValues c (((t.tasksOf c).filter fun k => k.engine == e).flatMap (·.outs)).eraseDups (t.mode == 8)).holdReached c) s1

/-- The MAE fails: acquisition stops and the gap since the newest commit is entered (R234). -/
def State.maeFails (s : State) : State :=
  let s1 := (s.stopAcq).cutPulses
  let start := s.rd Obj.MAE_COMMIT_TIME.f
  let s2 := s1.gapEntry { kind := 3, start := start, est := true } 0
  let k := (s2.rd Obj.MAE_GAP_SEQ.f + 2 ^ 32 - 1) % 64
  { s2 with mae := { s2.mae with gaps := s2.mae.gaps ++ [{ kind := 3, start := start, est := true, entry := some k }] } }

/-- The behaviour of Table 2-7 for a unit that has just failed. -/
def State.failEffect (s : State) (u : Nat) : State :=
  if u < 2 then (if s.mode = 9 then s else s.stopEngine u)
  else if u = 2 then s.maeFails
  else if u = 3 then s.placePorts
  else if u = 4 then s.placeLegacy
  else if u = 5 then s.dropTls
  else if 6 ≤ u ∧ u ≤ 9 then (if s.failed 6 && s.failed 7 && s.failed 8 && s.failed 9 then s.dropTls else s)
  else if u = 14 then (s.dropTls).placeLegacy
  else s

/-- A unit fails (R49). In M10 it is not acted on (R52); in M9 its mode waits for the end of M9 (R53). A Castling that
had been confirmed will report it (R113). -/
def State.failUnit (s : State) (u : Nat) : State :=
  if s.mode = 10 || s.failed u then s
  else
    let s1 := s.wr Obj.PWR_UNIT_FAIL.f (s.rd Obj.PWR_UNIT_FAIL.f ||| 2 ^ u)
    let s2 := s1.logAll ([0, 1] ++ s1.failTenants u) 0x0201 (le 1 u)
    let s3 := s2.failEffect u
    let s4 := { s3 with castlings := s3.castlings.map fun (k : Castling) => if k.confirmed then { k with failed := k.failed ++ [u] } else k }
    if s4.mode = 9 then { s4 with power := { s4.power with m9Fails := s4.power.m9Fails ||| 2 ^ u } } else s4.judgeMode

/-- UNIT_FAILURE (R49). -/
def execUnitFailure (u : Fin 18) (t : Nat) (s : State) : Host.Outcome State Fault Refusal := .next ((s.advance t).failUnit u.val)

/-- A failure that is over (R433): the unit works again. -/
def State.unitBack (s : State) (u : Nat) : State :=
  let s1 := s.wr Obj.PWR_UNIT_FAIL.f (nand (s.rd Obj.PWR_UNIT_FAIL.f) (2 ^ u))
  if u = 2 then (if s1.mode = 2 ∨ (5 ≤ s1.mode ∧ s1.mode ≤ 9) then s1.restoreEnergy.startAcq else s1)
  else if u = 3 then s1.placePorts
  else if u = 14 then s1.placeLegacy
  else s1

/-! ### PLLs (R33, Table 2-4) -/

/-- The units a PLL serves, in the order of Table 2-4: 0 1.2 GHz, 1 800 MHz, 2 400 MHz, 3 200 MHz, 4 156.25 MHz,
5 125 MHz, 6 80 MHz. -/
def State.pllUnits (s : State) (pll : Nat) : List Nat :=
  if pll = 0 then [6, 7, 8, 9] else if pll = 1 then [0, 1] else if pll = 2 then (if s.mode = 2 then [0] else [])
  else if pll = 3 then [2, 4, 10] else if pll = 4 then [5] else if pll = 5 then [17] else if pll = 6 then [3] else []

/-- PLL_LOCK_TIMEOUT: the first failure re-enables the PLL, the second fails every unit it serves. -/
def pllLockTimeout (pll : Nat) (s : State) : State :=
  if s.power.pllRetried.contains pll then
    (s.pllUnits pll).foldl State.failUnit { s with power := { s.power with pllRetried := s.power.pllRetried.filter (· != pll) } }
  else { s with power := { s.power with pllRetried := pll :: s.power.pllRetried } }

def execPllLockTimeout (pll t : Nat) (s : State) : Host.Outcome State Fault Refusal := .next (pllLockTimeout pll (s.advance t))

end Sys2Proof.Machine
end

