-- ==== Sys2Proof/Machine/Memory.lean ====
section
/-!
DEFINITION. The memories (spec/18): uncorrectable errors and their effects, the scrub, the march test on request and at
start-up, and the repair of banks.
-/
namespace Sys2Proof.Machine

/-! ### Banks (Table 18-1) -/

/-- First bank, banks, and words of a bank of each memory 0 to 11. -/
def memBanks : List (Nat × Nat × Nat) :=
  [(0, 8, 16384), (8, 16, 32768), (24, 16, 32768), (40, 32, 32768), (72, 2, 16384), (74, 10, 4096), (84, 4, 16384),
   (88, 1, 8192), (89, 1, 8192), (90, 1, 4096), (91, 8, 32768), (99, 56, 8388608)]

/-- The memory a bank belongs to. -/
def memOfBank (b : Nat) : Nat := (memBanks.findIdx? fun x => decide (x.1 ≤ b ∧ b < x.1 + x.2.1)).getD 12

/-- The units a bank's failure fails (Table 18-6). -/
def bankUnits (b : Nat) : List Nat :=
  let m := memOfBank b
  if m = 1 then [0] else if m = 2 then [1] else if m = 3 then [0, 1] else if m = 5 then [3] else if m = 6 ∨ m = 7 then [2]
  else if m = 8 then [11] else if m = 11 then [14] else []

/-- Whether a bank belongs to the minimum service set (Table 18-6, R48). -/
def bankMinimum (b : Nat) : Bool := memOfBank b == 0 || memOfBank b == 4 || memOfBank b == 9

/-- Fail the units of a bank and remember that the bank caused it. -/
def State.failByBank (s : State) (b : Nat) : State :=
  (bankUnits b).foldl (fun t u =>
    let t1 := t.failUnit u
    { t1 with power := { t1.power with causes := t1.power.causes ++ [(u, b)] } }) s

/-! ### Uncorrectable errors (R424, Table 18-3) -/

/-- The session a mailbox handle names (R82). -/
def State.sessionOfHandle (s : State) (h : Nat) : Option Session := s.sessions.find? fun x => x.id % 65536 == h

/-- A frame in a mailbox slot is discarded and its request ends INTERNAL_ERROR, recorded in the C00 log. -/
def State.dropSlot (s : State) (n : Nat) : State :=
  let x := s.mbx.slots.get {} n
  let base := 0x4000 + 0x4000 * n
  let seq := memRead s.mbx.ram (base + 4) 4
  let cmd := memRead s.mbx.ram (base + 8) 2
  let s1 := { s with mbx := { s.mbx with slots := s.mbx.slots.put n {}, fifo := s.mbx.fifo.filter (· != n) } }
  let s2 := match s.sessionOfHandle x.handle with
    | some y => match y.conn with
      | some k => s1.respond k y.comp seq cmd St.internalError []
      | none => s1
    | none => s1
  s2.log 0 0x01FF (le 4 seq ++ le 2 cmd)

/-- The running ply of an engine traps with ECC. -/
def State.eccTrap (s : State) (e off : Nat) : State :=
  match s.running e with
  | some p => s.trap p trapEcc off
  | none => s

/-- The item a CAN message RAM word belongs to is free (log 1): an element of a FIFO is discarded, or a request ends
FAILED with LAST_ERR 5. -/
def State.canUe (s : State) : State :=
  let (n, s1) := s.draw
  let p := n % 24
  let k := n / 24 % 32
  let st := s1.txState p k
  if st = txPending ∨ st = txArbitrating ∨ st = txHeld then s1.endTx p k txFailed 5
  else
    let x := s1.port p
    let f := (x.fifos.get [] (k % 8)).tail
    (s1.putPort p { x with fifos := x.fifos.put (k % 8) f }).wr (Obj.FBC_FIFO_FILL.ij p (k % 8)) f.length

/-- A word of DRAM: its owning unit discards the item, which is free: a staging, a PMON dump record, or a frame buffer. -/
def State.dramUe (s : State) : State :=
  let (n, s1) := s.draw
  if n % 3 = 0 then s1.discardStaging (n / 3 % 34)
  else if n % 3 = 1 then { s1 with pmon := { s1.pmon with dump := s1.pmon.dump.eraseIdx (n / 3) } }
  else s1

/-- A word of MRAM: the record is free; a retained record counts as unmarked (R140), a key record leaves its slot EMPTY
(R366), an energy record has its other copy (R232). -/
def State.mramUe (s : State) : State :=
  let (n, s1) := s.draw
  if n % 3 = 0 then
    let c := n / 3 % 34
    s1.putProg c { s1.prog c with kept := (s1.prog c).kept.map fun r => { r with marked := false } }
  else if n % 3 = 1 then
    let k := 118 + n / 3 % 138
    { (s1.hideSlot k) with kse := { (s1.hideSlot k).kse with hidden := (s1.hideSlot k).kse.hidden.filter fun h => h.1 != k } }
  else s1

/-- The effect of Table 18-3. A dirty PCX L2 line restarts its core, and which line it was is free. -/
def State.ueEffect (s : State) (mem bank off : Nat) : State :=
  if mem = 0 then (if s.mode = 3 ∨ s.mode ≤ 1 ∨ s.mode = 10 then s else s.beginTransition 3)
  else if mem = 1 then s.eccTrap 0 off
  else if mem = 2 then s.eccTrap 1 off
  else if mem = 3 then
    let (n, s1) := s.draw
    if (s.running 1).isNone ∨ ((s.running 0).isSome ∧ n % 2 = 0) then s1.eccTrap 0 off else s1.eccTrap 1 off
  else if mem = 4 then (if 0x4000 ≤ off ∧ off < 0x40000 then s.dropSlot ((off - 0x4000) / 0x4000) else s)
  else if mem = 5 then s.canUe
  else if mem = 6 ∨ mem = 7 then s.failByBank bank
  else if mem = 9 then s.hideSlot (off / 128 % 256)
  else if mem = 10 then
    let (n, s1) := s.draw
    (s1.conns.filter fun c => ! c.usb && bit n (c.id % 32)).foldl (fun t c => t.closeConn c.id t.floorTime) s1
  else if mem = 11 then s.dramUe
  else if mem = 12 then s.mramUe
  else s

/-- ECC_UE: counted, recorded, and its requester meets the effect. -/
def eccUe (mem bank off : Nat) (s : State) : State :=
  if 13 < mem then s
  else
    let s1 := ((s.inc (Obj.MEM_UE.i mem)).wr (Obj.MEM_LAST_UE.i mem) off).set1 Obj.MEM_EVT_UE.f
    (s1.logAll [0, 1] 0x0C43 (le 1 mem ++ le 1 0 ++ le 2 bank ++ le 4 off)).ueEffect mem bank off

def execEccUe (mem bank off t : Nat) (s : State) : Host.Outcome State Fault Refusal := .next (eccUe mem bank off (s.advance t))

/-- SCRUB (R424): every corrected word of the SRAM and DRAM banks is rewritten; how many there were is free. -/
def scrub (s : State) : State :=
  (List.range 12).foldl (fun t m => let (n, t1) := t.draw; t1.inc (Obj.MEM_CE.i m) n) s

def execScrub (t : Nat) (s : State) : Host.Outcome State Fault Refusal := .next (scrub (s.advance t))

/-! ### Repair (R433, R434) -/

/-- DRAM regions remapped so far. -/
def State.remapped (s : State) : Nat := ((List.range 53).filter fun r => s.on (Obj.MEM_BANK_REMAPPED.i (99 + r))).length

/-- A bank that cannot be repaired. -/
def State.failBank (s : State) (b : Nat) : State :=
  let s1 := ((s.wr (Obj.MEM_BANK_FAILED.i b) 1).set1 Obj.MEM_EVT_BANK_FAIL.f).logAll [0, 1] 0x0C42 (le 2 b)
  if bankMinimum b then (if s.mode = 3 then s1 else s1.beginTransition 3)
  else if decide (152 ≤ b) || memOfBank b == 10 then s1
  else s1.failByBank b

/-- A repair clears the failures that only this bank caused (R433). -/
def State.clearCause (s : State) (b : Nat) : State :=
  let mine := (s.power.causes.filter fun x => x.2 == b).map (·.1)
  let rest := s.power.causes.filter fun x => x.2 != b
  let s1 := { s with power := { s.power with causes := rest } }.wr (Obj.MEM_BANK_FAILED.i b) 0
  (mine.filter fun u => ! rest.any fun x => x.1 == u).foldl State.unitBack s1

/-- Repair the faulty rows of a bank, in order: the outcome (0 pass, 1 repaired, 2 failed) and the state after. -/
def State.repair (s : State) (b : Nat) (rows : List Nat) : Nat × State :=
  match rows with
  | [] => (0, s)
  | _ :: _ =>
    if b < 99 then
      let used := s.rd (Obj.MEM_BANK_SPARES.i b)
      let fixable := rows.take (4 - used)
      let s1 := fixable.foldl (fun t r => (t.inc (Obj.MEM_BANK_SPARES.i b)).wr (Obj.MEM_BANK_LAST_ROW.i b) r) s
      if rows.length ≤ 4 - used then (1, (s1.clearCause b).logAll [0, 1] 0x0C41 (le 2 b ++ le 2 rows.length))
      else (2, s1.failBank b)
    else if b < 152 ∧ s.remapped < 2 ∧ ! s.on (Obj.MEM_BANK_REMAPPED.i b) ∧ ! s.on (Obj.MEM_BANK_FAILED.i (152 + s.remapped)) then
      (1, (((s.wr (Obj.MEM_BANK_REMAPPED.i b) 1).logAll [0, 1] 0x0C44 (le 2 b)).clearCause b).logAll [0, 1] 0x0C41 (le 2 b ++ le 2 1))
    else (2, s.failBank b)

/-- STARTUP_TEST_DONE (R430): the result of every bank; skipped when the MTE has failed. -/
def startupTestDone (faults : List BankFault) (s : State) : State :=
  if s.mode ≠ 3 ∨ s.failed 13 then s
  else
    let s1 := (List.range 155).foldl (fun t b => t.wr (Obj.MEM_BANK_FAILED.i b) 0) s
    let s2 := (faults.filter fun f => decide (f.bank < 155)).foldl (fun t f => (t.repair f.bank f.rows).2) s1
    s2.wr Obj.MTE_STATE_STARTUP_OK.f (b2n (! (List.range 155).any fun b => s2.on (Obj.MEM_BANK_FAILED.i b)))

def execStartupTestDone (faults : List BankFault) (t : Nat) (s : State) : Host.Outcome State Fault Refusal :=
  .next (startupTestDone faults (s.advance t))

/-! ### A test on request (R432) -/

/-- Whether the preserving mode may run on a bank in a mode (Table 18-5). -/
def mayPreserve (b mode : Nat) : Bool :=
  let m := memOfBank b
  if m = 9 ∨ b = 154 then false
  else if 1 ≤ m ∧ m ≤ 3 then mode == 8 || mode == 9
  else decide (5 ≤ mode ∧ mode ≤ 9)

/-- Whether no unit holds a DRAM region: the save area, and a spare region not in use. -/
def State.regionFree (s : State) (b : Nat) : Bool := b == 154 || (decide (152 ≤ b ∧ b < 154) && decide (152 + s.remapped ≤ b))

/-- The outcome of a test, in its registers and to its request. -/
def State.endTest (s : State) (x : MteTest) (outcome rows first : Nat) : State :=
  let us := (s.floorTime - x.at_) / 1000
  { s with mte := none }.wrs [(Obj.MTE_STATE_RUNNING.f, 0), (Obj.MTE_RES_BANK.f, x.bank), (Obj.MTE_RES_MODE.f, b2n x.preserving),
      (Obj.MTE_RES_OUTCOME.f, outcome), (Obj.MTE_RES_ROWS.f, rows), (Obj.MTE_RES_FIRST.f, first), (Obj.MTE_RES_DURATION.f, us),
      (Obj.MTE_RES_END_TIME.f, s.floorTime)]

/-- The final response of a test. -/
def testReply (outcome rows us : Nat) : Bytes := le 1 outcome ++ le 1 0 ++ le 2 rows ++ le 4 us

/-- The march stops at its next word and the bank is restored: ABORTED. -/
def State.abortTest (s : State) : State :=
  match s.mte with
  | none => s
  | some x => (s.endTest x 3 0 0).finish .mte St.ok (testReply 3 0 ((s.floorTime - x.at_) / 1000))

def mteRun (q : Req) (s : State) : State × Reply :=
  let b := field q.payload 0 2
  let m := field q.payload 2 1
  if ! permitted .owner m4to9 q s then (s, .no St.notPermitted)
  else if q.payload.length ≠ 4 ∨ m > 1 then (s, .no St.badPayload)
  else if s.failed 13 then (s, .no St.unitFailed)
  else if 154 < b then (s, .no St.badValue)
  else if s.mte.isSome then (s, .no St.busy)
  else if m = 1 ∧ ! mayPreserve b s.mode then (s, .check 0x0C41)
  else if m = 0 ∧ ! (s.mode = 8 ∧ s.regionFree b) then (s, .check 0x0C42)
  else ({ s with mte := some { bank := b, preserving := m == 1, at_ := s.floorTime } }.wrs
    [(Obj.MTE_STATE_RUNNING.f, 1), (Obj.MTE_RES_BANK.f, b), (Obj.MTE_RES_MODE.f, m)], .pending .mte)

def execCmdDiagMteRun (f : Frame) (s : State) : Host.Outcome State Fault Refusal :=
  command 0x0C40 mteRun f s (cancellable := true)

def mteAbort (q : Req) (s : State) : State × Reply :=
  if ! permitted .owner m4to9 q s then (s, .no St.notPermitted)
  else if q.payload ≠ [] then (s, .no St.badPayload)
  else if s.failed 13 then (s, .no St.unitFailed)
  else (s.abortTest, .ok [])

def execCmdDiagMteAbort (f : Frame) (s : State) : Host.Outcome State Fault Refusal := command 0x0C41 mteAbort f s

/-- MTE_TEST_DONE: the march is over, rows are repaired, the bank is restored. The bit of the first faulty row is free. -/
def mteTestDone (rows : List Nat) (s : State) : State :=
  match s.mte with
  | none => s
  | some x =>
    let (n, s0) := s.draw
    let (outcome, s1) := s0.repair x.bank rows
    let first := match rows with | r :: _ => r % 65536 + 65536 * (n % 72) | [] => 0
    (s1.endTest x outcome rows.length first).finish .mte St.ok (testReply outcome rows.length ((s.floorTime - x.at_) / 1000))

def execMteTestDone (rows : List Nat) (t : Nat) (s : State) : Host.Outcome State Fault Refusal :=
  .next (mteTestDone rows (s.advance t))

end Sys2Proof.Machine
end

