-- ==== Sys2Proof/Machine/Update.lean ====
section
/-!
DEFINITION. Firmware update (spec/17): the package, the ownership, blocks, verification, activation in steps, trial,
confirmation, fall-back, and the adjournment with its sealed move.
-/
namespace Sys2Proof.Machine

/-! ### The package (Tables 17-1, 17-2) -/

structure PkgPart where
  id : Nat
  order : Nat
  off : Nat
  size : Nat
  part : FwPart
  rsvdOk : Bool
  deriving DecidableEq, Repr

/-- A part entry of 96 bytes. -/
def PkgPart.of (b : Bytes) : PkgPart :=
  { id := field b 0 1, order := field b 1 1, off := field b 4 4, size := field b 8 4,
    part := { version := field b 2 2, hash := (b.drop 0x30).take 48,
              partners := (List.range 5).map fun i => (field b (0x10 + 4 * i) 2, field b (0x12 + 4 * i) 2) },
    rsvdOk := field b 0xC 4 == 0 && field b 0x24 12 == 0 }

def pkgSize (m : Bytes) : Nat := field m 8 4
def pkgFlags (m : Bytes) : Nat := field m 6 2
def pkgMinor (m : Bytes) : Nat := field m 0xC 4
def pkgMajor (m : Bytes) : Nat := field m 0x10 1
def pkgCount (m : Bytes) : Nat := field m 0x11 1
def pkgFormat (m : Bytes) : Nat := field m 0x12 2
def pkgParts (m : Bytes) : List PkgPart := (chunks 96 (pkgCount m) (m.drop 64)).map PkgPart.of
def pkgForerunner (m : Bytes) : Bool := bit (pkgFlags m) 0
def pkgCarries (m : Bytes) (id : Nat) : Bool := (pkgParts m).any fun p => p.id == id

/-- Check 0x0A21 of Table 17-3. -/
def pkgFormOk (m : Bytes) : Bool :=
  let ps := pkgParts m
  let n := pkgCount m
  field m 0 4 == 0x50555841 && field m 4 2 == 1 && decide (pkgFlags m < 4) && field m 0x18 40 == 0 &&
    decide (1 ≤ n ∧ n ≤ 5) && decide (4096 ≤ pkgSize m ∧ pkgSize m ≤ 536870912) && decide (pkgMajor m ≤ 64) &&
    distinct (ps.map (·.id)) && ps.all (fun p => decide (2 ≤ p.id ∧ p.id ≤ 6) && p.rsvdOk) &&
    distinct (ps.map (·.order)) && ps.all (fun p => decide (1 ≤ p.order ∧ p.order ≤ n) && (p.id != 2 || p.order == n)) &&
    ps.all (fun p => p.off % 4096 == 0 && decide (p.off + p.size ≤ pkgSize m - 256)) &&
    disjoint (ps.map fun p => (p.off, p.off + p.size))

/-- Bytes of the package as received. -/
def State.pkgBytes (s : State) (off n : Nat) : Bytes := (List.range n).map fun i => memGet s.upd.data (off + i)

/-- The build hash (R402). -/
def State.buildHash (s : State) : Bytes := sha384 (s.pkgBytes 0 (pkgSize s.upd.manifest - 256))

/-! ### Slots, versions and security -/

def State.active (s : State) : Nat := s.rd Obj.UPD_STATE_ACTIVE_SLOT.f
def State.updState (s : State) : Nat := s.rd Obj.UPD_STATE.f
def State.fwSlot (s : State) (k : Nat) : FwSlot := s.upd.slots.get {} k
def State.runs (s : State) (id : Nat) : FwPart := s.upd.running.get {} id
def State.verifies (s : State) (k : Nat) : Bool := s.on (Obj.UPD_SLOT_VALID.i k)

/-- Whether a security version is at or above (F, M) (R403). -/
def State.secureEnough (s : State) (major minor : Nat) : Bool :=
  decide (s.rd Obj.UPD_SEC_F.f < major) || (major == s.rd Obj.UPD_SEC_F.f && decide (s.rd Obj.UPD_SEC_M.f ≤ minor))

/-- Whether a slot verifies and may run (R403, R414). -/
def State.slotRuns (s : State) (k : Nat) : Bool :=
  s.verifies k && s.secureEnough (s.rd (Obj.UPD_SLOT_SEC_MAJOR.i k)) (s.rd (Obj.UPD_SLOT_SEC_MINOR.i k))

/-- The receiving slot: the one not active; in M4 one that does not verify (R420). -/
def State.receiving (s : State) : Nat :=
  if s.mode = 4 ∧ ! s.verifies s.active ∧ s.verifies (1 - s.active) then s.active else 1 - s.active

/-- A slot's descriptor from its parts and a manifest (Table 17-9). -/
def State.describe (s : State) (k : Nat) (x : FwSlot) (fmt major minor : Nat) : State :=
  let v (id : Nat) : Nat := (x.parts.get {} id).version
  { s with upd := { s.upd with slots := s.upd.slots.put k x } }.wrs
    [(Obj.UPD_SLOT_VALID.i k, 1), (Obj.UPD_SLOT_TRIAL.i k, 0), (Obj.UPD_SLOT_VER_SUP.i k, v 2), (Obj.UPD_SLOT_VER_PCX.i k, v 3),
     (Obj.UPD_SLOT_VER_SCE.i k, v 4), (Obj.UPD_SLOT_VER_MAE.i k, v 5), (Obj.UPD_SLOT_VER_FBC.i k, v 6),
     (Obj.UPD_SLOT_SETTINGS_FMT.i k, fmt), (Obj.UPD_SLOT_SEC_MAJOR.i k, major), (Obj.UPD_SLOT_SEC_MINOR.i k, minor),
     (Obj.UPD_SLOT_BUILD_LO.i k, field x.build 0 4)]

/-- A slot is erased. -/
def State.eraseSlot (s : State) (k : Nat) : State :=
  { s with upd := { s.upd with slots := s.upd.slots.del k, manifest := [], data := [] } }.wrs
    ([(Obj.UPD_SLOT_VALID.i k, 0), (Obj.UPD_SLOT_TRIAL.i k, 0), (Obj.UPD_SLOT_VER_SUP.i k, 0), (Obj.UPD_SLOT_VER_PCX.i k, 0),
      (Obj.UPD_SLOT_VER_SCE.i k, 0), (Obj.UPD_SLOT_VER_MAE.i k, 0), (Obj.UPD_SLOT_VER_FBC.i k, 0),
      (Obj.UPD_SLOT_SETTINGS_FMT.i k, 0), (Obj.UPD_SLOT_SEC_MAJOR.i k, 0), (Obj.UPD_SLOT_SEC_MINOR.i k, 0),
      (Obj.UPD_SLOT_BUILD_LO.i k, 0), (Obj.UPD_PKG_SIZE.f, 0), (Obj.UPD_BLOCKS_MISSING.f, 0), (Obj.UPD_BUILD_LO.f, 0)] ++
     (List.range 4096).map fun w => (Obj.UPD_BITMAP.i w, 0))

/-- 4 KiB units of a package. -/
def unitsOf (size : Nat) : Nat := (size + 4095) / 4096

def State.unitWritten (s : State) (n : Nat) : Bool := bit (s.rd (Obj.UPD_BITMAP.i (n / 32))) (n % 32)

/-- UPD_BLOCKS_MISSING after a change of the bitmap. -/
def State.countMissing (s : State) : State :=
  s.wr Obj.UPD_BLOCKS_MISSING.f ((List.range (unitsOf (pkgSize s.upd.manifest))).filter fun n => ! s.unitWritten n).length

/-! ### Ownership (R404, R405) -/

def State.ownsUpdate (s : State) (sid : Nat) : Bool := s.upd.owner == some sid
/-- A trial or an adjournment runs. -/
def State.onTrial (s : State) : Bool := s.updState == 5 || s.updState == 7
def State.adjourned (s : State) : Bool := s.updState == 6

/-- From acceptance of an activation until it ends (R408). -/
def State.activating (s : State) : Bool :=
  s.upd.activateAt.isSome || s.upd.step != 0 || s.upd.resetAt.isSome || s.updState == 7

/-- Whether the presence window is open (R78). -/
def State.present (s : State) : Bool := s.lcy.windowAt.isSome

/-- An abort (R405): causes 1 command, 2 session end, 3 timeout, 4 presence. -/
def State.updAbort (s : State) (cause : Nat) (discard : Bool) : State :=
  let s1 := { s with upd := { s.upd with owner := none, activateAt := none } }.wrs [(Obj.UPD_STATE.f, 0), (Obj.UPD_BUILD_LO.f, 0)]
  let s2 := (s1.finish .updVerify St.cancelled []).finish .updActivate St.cancelled []
  let s3 := if discard then s2.eraseSlot s.upd.recv else s2
  s3.logAll [0, 1] 0x0A02 (le 1 cause)

/-- Check 8 for an update command of the owner: M9, adjournment, ownership. -/
def State.ownerCheck (s : State) (sid : Nat) : Option Nat :=
  if s.mode = 9 then some St.busy
  else if s.adjourned then some St.adjourned
  else if s.ownsUpdate sid then none
  else some St.busy

/-- Check 7 of an update command that M4 opens to the vendor too (R419, Table 3-5). -/
def updOpenTo (q : Req) (s : State) : Bool :=
  (q.comp == 0 || (q.comp == vendorTag && s.mode == 4)) && m4to9.contains s.mode

/-- An update command of the owner restarts the 600 s (R405). -/
def State.touchUpd (s : State) : State := { s with upd := { s.upd with lastCmd := s.floorTime } }

/-! ### CMD_UPD_OPEN -/

/-- The adjournment record of a manifest that is refused (R418). -/
def State.refusedManifest (s : State) (m : Bytes) : Bool :=
  (List.range 8).any fun r => s.on (Obj.UPD_ADJREC_REFUSED.i r) && s.upd.records.get [] r == m

/-- The checks of Table 17-3. -/
def State.openDetail (s : State) (m : Bytes) : Option Nat :=
  if ! pkgFormOk m then some 0x0A21
  else if s.rd Obj.IDENT_HW_REV.f < field m 0x14 2 ∨ field m 0x16 2 < s.rd Obj.IDENT_HW_REV.f then some 0x0A22
  else if ! s.secureEnough (pkgMajor m) (pkgMinor m) then some 0x0A23
  else if s.mode ≠ 4 ∧ (pkgParts m).any (fun p => decide (p.part.version < (s.runs p.id).version)) then some 0x0A24
  else if pkgForerunner m ∧ (pkgCount m ≠ 5 ∨ 63 < pkgMajor m) then some 0x0A25
  else if s.refusedManifest m then some 0x0A26
  else if s.mode = 4 ∧ ! s.verifies 0 ∧ ! s.verifies 1 ∧ pkgCount m ≠ 5 then some 0x0A27
  else none

/-- The receiving slot takes a manifest: a byte-identical one resumes, any other erases the slot (R405). -/
def State.takeManifest (s : State) (m : Bytes) : State :=
  if s.upd.manifest = m then s
  else
    let r := s.receiving
    let s1 := s.eraseSlot r
    ({ s1 with upd := { s1.upd with recv := r, manifest := m } }.wr Obj.UPD_PKG_SIZE.f (pkgSize m)).countMissing

def updOpen (q : Req) (s : State) : State × Reply :=
  if ! updOpenTo q s then (s, .no St.notPermitted)
  else if s.mode = 9 then (s, .no St.busy)
  else if s.adjourned then (s, .no St.adjourned)
  else if s.upd.owner.isSome ∨ s.onTrial then (s, .no St.busy)
  else if q.payload.length < 64 ∨ q.payload.length ≠ 64 + 96 * pkgCount q.payload then (s, .no St.badPayload)
  else if s.lcy.jumper ∧ pkgCarries q.payload 5 then (s, .no St.configLocked)
  else if s.failed 15 then (s, .no St.unitFailed)
  else match s.openDetail q.payload with
    | some d => (s, .check d)
    | none =>
      let (n, s1) := (s.takeManifest q.payload).draw
      let s2 := { s1 with upd := { s1.upd with owner := some q.sid, ownerSince := s.floorTime, lastCmd := s.floorTime } }
      ((s2.wr Obj.UPD_STATE.f 1).logAll [0, 1] 0x0A01 [],
        .ok (le 4 n ++ le 4 (s2.rd Obj.UPD_BLOCKS_MISSING.f)))

def execCmdUpdOpen (f : Frame) (s : State) : Host.Outcome State Fault Refusal := command 0x0A01 updOpen f s

/-! ### Blocks and status (R406) -/

/-- Whether an offset and a length are those of a block. -/
def blockOk (off n size : Nat) : Bool :=
  off % 4096 == 0 && decide (n ≤ 65536) && decide (off + n ≤ size) &&
    ((n % 4096 == 0 && decide (4096 ≤ n)) || (off + n == size && decide (1 ≤ n)))

/-- Write a block and mark its units. -/
def State.writeBlock (s : State) (off : Nat) (data : Bytes) : State :=
  let units := (List.range (unitsOf data.length)).map fun i => off / 4096 + i
  let s1 := { s with upd := { s.upd with data := memWrite s.upd.data off data } }
  ((units.foldl (fun t n => t.wr (Obj.UPD_BITMAP.i (n / 32)) (t.rd (Obj.UPD_BITMAP.i (n / 32)) ||| 2 ^ (n % 32))) s1).wrs
    [(Obj.UPD_STATE.f, 1), (Obj.UPD_BUILD_LO.f, 0)]).countMissing

def updBlock (q : Req) (s : State) : State × Reply :=
  let off := field q.payload 0 4
  let n := field q.payload 4 4
  if ! updOpenTo q s then (s, .no St.notPermitted)
  else match s.ownerCheck q.sid with
  | some st => (s, .no st)
  | none =>
    let s := s.touchUpd
    if s.updState = 2 ∨ s.updState = 4 then (s, .no St.busy)
    else if q.payload.length < 8 ∨ q.payload.length ≠ 8 + n then (s, .no St.badPayload)
    else if s.failed 15 then (s, .no St.unitFailed)
    else if ! blockOk off n (pkgSize s.upd.manifest) then (s, .no St.badValue)
    else
      let s1 := s.writeBlock off (q.payload.drop 8)
      (s1, .ok (le 4 (s1.rd Obj.UPD_BLOCKS_MISSING.f)))

def execCmdUpdBlock (f : Frame) (s : State) : Host.Outcome State Fault Refusal := command 0x0A02 updBlock f s

/-- Bits of the bitmap from a unit on, eight to a byte. -/
def State.bitmapBytes (s : State) (first n : Nat) : Bytes :=
  (List.range ((n + 7) / 8)).map fun i =>
    BitVec.ofNat 8 (((List.range 8).filter fun j => decide (8 * i + j < n) && s.unitWritten (first + 8 * i + j)).foldl (fun a j => a + 2 ^ j) 0)

def updStatus (q : Req) (s : State) : State × Reply :=
  let first := field q.payload 0 4
  let n := field q.payload 4 4
  if ! updOpenTo q s then (s, .no St.notPermitted)
  else if s.mode = 9 ∨ (s.upd.owner.isSome ∧ ! s.ownsUpdate q.sid) then (s, .no St.busy)
  else
    let s := if s.ownsUpdate q.sid then s.touchUpd else s
    if q.payload.length ≠ 8 then (s, .no St.badPayload)
    else if n = 0 ∨ 131072 < n ∨ 131072 < first + n then (s, .no St.badValue)
    else (s, .ok (((List.range 11).flatMap fun i => le 4 ((s.wordAt 0 (0x90000 + 4 * i)).getD 0)) ++ s.bitmapBytes first n))

def execCmdUpdStatus (f : Frame) (s : State) : Host.Outcome State Fault Refusal :=
  command 0x0A03 updStatus f s (cancellable := true) (rereads := true)

/-! ### Verification (R407) -/

def updVerify (q : Req) (s : State) : State × Reply :=
  if ! updOpenTo q s then (s, .no St.notPermitted)
  else match s.ownerCheck q.sid with
  | some st => (s, .no st)
  | none =>
    let s := s.touchUpd
    if s.updState = 2 ∨ s.updState = 4 then (s, .no St.busy)
    else if q.payload ≠ [] then (s, .no St.badPayload)
    else if s.failed 15 then (s, .no St.unitFailed)
    else (s.wr Obj.UPD_STATE.f 2, .pending .updVerify)

def execCmdUpdVerify (f : Frame) (s : State) : Host.Outcome State Fault Refusal := command 0x0A04 updVerify f s

/-- The set in which the parts of steps up to `k` are new and the others as they run (R409). -/
def State.setAfter (s : State) (m : Bytes) (k : Nat) (id : Nat) : FwPart :=
  match (pkgParts m).find? fun p => p.id == id && decide (p.order ≤ k) with
  | some p => p.part
  | none => s.runs id

/-- Whether every part of a set meets the partner ranges of every other; a part of which none are known asks nothing. -/
def setMeets (v : Nat → FwPart) : Bool :=
  (List.range 5).all fun i => (List.range 5).all fun j =>
    i == j || match (v (i + 2)).partners[j]? with
      | some r => decide (r.1 ≤ (v (j + 2)).version ∧ (v (j + 2)).version ≤ r.2)
      | none => true

/-- The highest MIN_UCODE of the images in force and of the staged images that have been verified. -/
def State.needUcode (s : State) : Nat :=
  let a := s.compartments.map fun c => ((s.prog c).cur.map fun g => g.image.minUcode).getD 0
  let b := s.compartments.map fun c => match (s.staging c).image with
    | some d => if d.verified then field d.bytes 0x10 2 else 0
    | none => 0
  (a ++ b).foldl max 0

/-- The checks of Table 17-4. -/
def State.verifyFail (s : State) : Option Reply :=
  let m := s.upd.manifest
  let size := pkgSize m
  let h := s.buildHash
  if s.rd Obj.UPD_BLOCKS_MISSING.f ≠ 0 then some (.check 0x0A31)
  else if ! Config.ecdsaVerify Config.firmwareKey h (s.pkgBytes (size - 256) 96) then some (.no St.badSignature)
  else if s.on Obj.UPD_CFG_OWNER_SIG_REQ.f && ! (s.slotState authoritySlot == 1 &&
      Config.ecdsaVerify (s.slotKey authoritySlot) (sha384 (ascii "AXZ-UPO" ++ h)) (s.pkgBytes (size - 160) 96)) then
    some (.no St.badSignature)
  else if (pkgParts m).any fun p => sha384 (s.pkgBytes p.off p.size) != p.part.hash then some (.check 0x0A34)
  else if ! (List.range (pkgCount m + 1)).all fun k => setMeets (s.setAfter m k) then some (.check 0x0A35)
  else if (s.setAfter m (pkgCount m) 4).version < s.needUcode then some (.check 0x0A36)
  else none

/-- UPD_VERIFY_DONE: the checks, then the receiving slot holds a whole set. -/
def updVerifyDone (s : State) : State :=
  if s.updState ≠ 2 then s
  else match s.verifyFail with
    | some (.fail st p) => (s.wr Obj.UPD_STATE.f 1).finish .updVerify st p
    | some _ => s
    | none =>
      let m := s.upd.manifest
      let h := s.buildHash
      let parts : Tab FwPart := [2, 3, 4, 5, 6].map fun id => (id, s.setAfter m (pkgCount m) id)
      let fmt := if pkgCarries m 2 then pkgFormat m else s.rd (Obj.UPD_SLOT_SETTINGS_FMT.i s.active)
      let s1 := s.describe s.upd.recv { build := h, flags := pkgFlags m, parts := parts } fmt (pkgMajor m) (pkgMinor m)
      ((s1.wrs [(Obj.UPD_STATE.f, 3), (Obj.UPD_BUILD_LO.f, field h 0 4)]).logAll [0, 1] 0x0A03 (le 4 (field h 0 4))).finish
        .updVerify St.ok h

def execUpdVerifyDone (t : Nat) (s : State) : Host.Outcome State Fault Refusal := .next (updVerifyDone (s.advance t))

/-! ### CMD_UPD_ABORT -/

def updAbortCmd (q : Req) (s : State) : State × Reply :=
  let tlsOwner := (s.upd.owner.bind s.session).any fun x => ! x.usb
  let byPresence := ! s.ownsUpdate q.sid && q.usb && q.comp == 0 && tlsOwner
  let late := s.upd.lastOwner == some q.sid && (s.onTrial || s.adjourned)
  if ! updOpenTo q s then (s, .no St.notPermitted)
  else if s.mode = 9 then (s, .no St.busy)
  else if late then (s, .check 0x0A44)
  else if s.adjourned then (s, .no St.adjourned)
  else if ! s.ownsUpdate q.sid ∧ ! byPresence then (s, .no St.busy)
  else if q.payload.length ≠ 4 ∨ field q.payload 0 1 > 1 then (s, .no St.badPayload)
  else if byPresence ∧ ! s.present then (s, .no St.presenceRequired)
  else (s.updAbort (if byPresence then 4 else 1) (field q.payload 0 1 == 1), .ok [])

def execCmdUpdAbort (f : Frame) (s : State) : Host.Outcome State Fault Refusal := command 0x0A05 updAbortCmd f s

/-- UPD_OWNER_TIMEOUT (R405): 600 s without an update command from the owner. -/
def updOwnerTimeout (s : State) : State :=
  if s.upd.owner.isSome ∧ s.upd.lastCmd + 600000000000 ≤ s.floorTime then s.updAbort 3 false else s

def execUpdOwnerTimeout (t : Nat) (s : State) : Host.Outcome State Fault Refusal := .next (updOwnerTimeout (s.advance t))

/-! ### Activation (R408, R409) -/

/-- The boot record names a slot active (R409, R413). -/
def State.nameActive (s : State) (k : Nat) (trial : Bool) : State :=
  s.wrs [(Obj.UPD_STATE_ACTIVE_SLOT.f, k), (Obj.UPD_SLOT_TRIAL.i k, b2n trial), (Obj.UPD_SLOT_TRIAL.i (1 - k), 0)]

/-- T_U: the boot record, the trial, and the ownership passing to it. -/
def State.beginTrial (s : State) (tU : Nat) : State :=
  let k := s.upd.recv
  let adj := pkgForerunner s.upd.manifest
  let s1 := (s.nameActive k true).wrs [(Obj.UPD_SLOT_ACTIVATED.i k, tU), (Obj.UPD_STATE.f, if adj then 6 else 5)]
  { s1 with upd := { s1.upd with
      owner := none, lastOwner := s.upd.owner, activateAt := none, back := false, switched := [], wasReset := false,
      deadline := if adj then none else some (s.rd Obj.EVR_OP_SECONDS.f + s.upd.limit) } }

/-- The part that step `k` of the package switches. -/
def State.stepPart (s : State) (k : Nat) : Option PkgPart := (pkgParts s.upd.manifest).find? fun p => p.order == k

/-- Step `k` of the activation begins; a step of SUP is the reset 1 s after the final response, and past the last step the
activation has ended. -/
def State.goStep (s : State) (k : Nat) : State :=
  match s.stepPart k with
  | none => { s with upd := { s.upd with step := 0 } }.finish .updActivate St.ok (le 8 s.floorTime)
  | some p =>
    if p.id = 2 then
      { s with upd := { s.upd with step := 0, resetAt := some (s.floorTime + 1000000000) } }.finish .updActivate St.ok (le 8 s.floorTime)
    else { s with upd := { s.upd with step := k, stepAt := s.floorTime } }

def updActivate (q : Req) (s : State) : State × Reply :=
  let tU := field q.payload 0 8
  let limit := field q.payload 8 4
  let atOnce := decide (s.mode = 4) || pkgForerunner s.upd.manifest
  if ! updOpenTo q s then (s, .no St.notPermitted)
  else match s.ownerCheck q.sid with
  | some st => (s, .no st)
  | none =>
    let s := s.touchUpd
    if q.payload.length ≠ 16 then (s, .no St.badPayload)
    else if s.failed 15 then (s, .no St.unitFailed)
    else if limit < 60 ∨ 86400 < limit ∨ (if atOnce then tU ≠ 0
        else tU % 1000000 ≠ 0 ∨ tU < s.floorTime + 1000000000 ∨ s.floorTime + 86400000000000 < tU) then (s, .no St.badValue)
    else if s.updState ≠ 3 then (s, .check 0x0A41)
    else if ! s.castlings.isEmpty then (s, .check 0x0A42)
    else
      let s1 := { s with upd := { s.upd with limit := limit } }
      if atOnce then
        let s2 := s1.beginTrial s.floorTime
        ({ s2 with upd := { s2.upd with resetAt := some s.floorTime } }, .ok (le 8 s.floorTime))
      else ({ s1 with upd := { s1.upd with activateAt := some tU } }.wr Obj.UPD_STATE.f 4, .pending .updActivate)

def execCmdUpdActivate (f : Frame) (s : State) : Host.Outcome State Fault Refusal := command 0x0A06 updActivate f s

/-- UPD_ACTIVATION: T_U is reached. -/
def updActivation (s : State) : State :=
  match s.upd.activateAt with
  | some tU => if tU ≤ s.floorTime then (s.beginTrial tU).goStep 1 else s
  | none => s

def execUpdActivation (t : Nat) (s : State) : Host.Outcome State Fault Refusal := .next (updActivation (s.advance t))

/-- UPD_RESET (R409): a due reset begins, through the commit stages of Table 2-5. -/
def updReset (s : State) : State :=
  match s.upd.resetAt with
  | some r => if r ≤ s.floorTime then { s with upd := { s.upd with resetAt := none, wasReset := true } }.beginTransition 3 else s
  | none => s

def execUpdReset (t : Nat) (s : State) : Host.Outcome State Fault Refusal := .next (updReset (s.advance t))

/-! ### Fall-back (R413) and the adjournment records (R418) -/

/-- The adjournment record a build hash has, or takes: an unused one, else the one with the oldest last failure. -/
def State.adjRecord (s : State) (h : Nat) : Nat :=
  match (List.range 8).find? fun r => s.rd (Obj.UPD_ADJREC_HASH.i r) == h && s.rd (Obj.UPD_ADJREC_FAILS.i r) != 0 with
  | some r => r
  | none => (List.range 8).foldl (fun b r =>
      let age (x : Nat) : Nat := if s.rd (Obj.UPD_ADJREC_FAILS.i x) = 0 then 0 else s.rd (Obj.UPD_ADJREC_LAST_FAIL.i x) + 1
      if age r < age b then r else b) 0

/-- Count a failed adjournment. -/
def State.failAdjournment (s : State) : State :=
  let h := field (s.fwSlot s.upd.recv).build 0 8
  let r := s.adjRecord h
  let old := if s.rd (Obj.UPD_ADJREC_HASH.i r) = h then s.rd (Obj.UPD_ADJREC_FAILS.i r) else 0
  let s1 := { s with upd := { s.upd with records := s.upd.records.put r s.upd.manifest } }.wrs
    [(Obj.UPD_ADJREC_HASH.i r, h), (Obj.UPD_ADJREC_FAILS.i r, min 3 (old + 1)), (Obj.UPD_ADJREC_REFUSED.i r, b2n (decide (1 ≤ old))),
     (Obj.UPD_ADJREC_LAST_FAIL.i r, s.rd Obj.EVR_OP_SECONDS.f)]
  if old = 1 then (s1.set1 Obj.UPD_EVT_REFUSED.f).logAll [0, 1] 0x0A07 (le 8 h) else s1

/-- The end of a fall-back: flag, trigger, IDLE. -/
def State.fellBack (s : State) : State :=
  let s1 := { s with upd := { s.upd with back := false, step := 0, switched := [], deadline := none, armedAt := none } }
  ((s1.wr Obj.UPD_STATE.f 0).set1 Obj.UPD_EVT_FALLBACK.f).logAll [0, 1] 0x0A06 (le 1 s.upd.cause)

/-- A fall-back by reset: the boot record names the previous slot, and the module resets. -/
def State.resetBack (s : State) : State :=
  let s1 := (s.nameActive (1 - s.active) false).wr Obj.UPD_STATE.f 7
  { s1 with upd := { s1.upd with back := true, step := 0, switched := [], resetAt := some s.floorTime, deadline := none } }

/-- The fall-back begins: causes 1 limit, 2 command, 3 step, 4 boot. Without SUP and without a reset since T_U the
switched parts return in reverse order; else the module resets. -/
def State.fallBack (s : State) (cause : Nat) : State :=
  let adj := s.adjourned
  let s0 := (if adj then s.failAdjournment else s).finish .updActivate (if cause = 3 then St.timeout else St.cancelled) []
  let s1 := { s0 with upd := { s0.upd with cause := cause } }
  if adj || s.upd.wasReset || s.upd.resetAt.isSome || pkgCarries s.upd.manifest 2 then s1.resetBack
  else match s.upd.switched with
    | [] => (s1.nameActive (1 - s1.active) false).fellBack
    | k :: _ => { s1 with upd := { s1.upd with back := true, step := k, stepAt := s.floorTime } }.wr Obj.UPD_STATE.f 7

/-- What the switch of a part does beside changing its version (Table 17-5). -/
def State.switchEffect (s : State) (id : Nat) : State :=
  if id = 5 then { s with mae := { s.mae with wave := {} } }.wr Obj.MAE_WAVE_STATE.f 0
  else if id = 3 then (s.conns.filter fun c => ! c.usb).foldl (fun t c => t.closeConn c.id s.floorTime) s
  else s

/-- UPD_STEP_DONE (R409): the part of the step reports the version it runs; the expected one ends the step. -/
def updStepDone (version : Nat) (s : State) : State :=
  match s.stepPart s.upd.step with
  | none => s
  | some p =>
    let target := if s.upd.back then (s.fwSlot (1 - s.upd.recv)).parts.get {} p.id else p.part
    if s.upd.step = 0 ∨ version ≠ target.version then s
    else
      let s1 := ({ s with upd := { s.upd with running := s.upd.running.put p.id target } }.switchEffect p.id).logAll [0, 1] 0x0A04
        (le 1 p.id ++ le 1 1 ++ le 2 version)
      if s.upd.back then
        match s.upd.switched.tail with
        | [] => (s1.nameActive (1 - s1.upd.recv) false).fellBack
        | k :: r => { s1 with upd := { s1.upd with switched := k :: r, step := k, stepAt := s.floorTime } }
      else { s1 with upd := { s1.upd with switched := p.order :: s1.upd.switched } }.goStep (p.order + 1)

def execUpdStepDone (version t : Nat) (s : State) : Host.Outcome State Fault Refusal := .next (updStepDone version (s.advance t))

/-- Twice the longest pause of a part in ns, or the 10 s of the SCE microcode (Table 17-5). -/
def stepLimit (id : Nat) : Nat := if id = 5 then 16000000 else if id = 6 then 4000000 else if id = 4 then 10000000000 else 12000000000

/-- UPD_STEP_TIMEOUT (R409): a step that failed starts the fall-back, or, during one, the reset into the previous slot. -/
def updStepTimeout (s : State) : State :=
  match s.stepPart s.upd.step with
  | none => s
  | some p =>
    if s.upd.step = 0 ∨ s.floorTime < s.upd.stepAt + stepLimit p.id then s
    else
      let s1 := s.logAll [0, 1] 0x0A04 (le 1 p.id ++ le 1 0 ++ le 2 p.part.version)
      if s.upd.back then { s1 with upd := { s1.upd with resetAt := some s.floorTime, step := 0 } }.nameActive (1 - s.upd.recv) false
      else s1.fallBack 3

def execUpdStepTimeout (t : Nat) (s : State) : Host.Outcome State Fault Refusal := .next (updStepTimeout (s.advance t))

/-! ### Trial and confirmation (R410, R412) -/

/-- Whether the deadline of the trial or adjournment has come. -/
def State.deadlinePassed (s : State) : Bool := s.upd.deadline.any fun d => decide (d ≤ s.rd Obj.EVR_OP_SECONDS.f)

/-- TRIAL_EXPIRY (R410): CONFIRM_LIMIT operating seconds have passed since T_U. -/
def trialExpiry (s : State) : State := if s.updState = 5 ∧ s.deadlinePassed then s.fallBack 1 else s

def execTrialExpiry (t : Nat) (s : State) : Host.Outcome State Fault Refusal := .next (trialExpiry (s.advance t))

/-- ADJOURN_EXPIRY (R415): 600 operating seconds since the first boot without a sealed move. -/
def adjournExpiry (s : State) : State := if s.adjourned ∧ s.deadlinePassed then s.fallBack 1 else s

def execAdjournExpiry (t : Nat) (s : State) : Host.Outcome State Fault Refusal := .next (adjournExpiry (s.advance t))

/-- BOOT_RESUME_TIMEOUT (R410): 300 s after entry to M3 the trial slot has not reached its resume mode. -/
def bootResumeTimeout (s : State) : State :=
  if (s.updState = 5 ∨ s.adjourned) ∧ ! s.upd.resumed ∧ s.upd.bootAt + 300000000000 ≤ s.floorTime then s.fallBack 4 else s

def execBootResumeTimeout (t : Nat) (s : State) : Host.Outcome State Fault Refusal := .next (bootResumeTimeout (s.advance t))

/-- Confirmation (R412). -/
def State.confirm (s : State) : State :=
  let k := s.active
  let s1 := (s.wr Obj.UPD_SEC_F.f (max (s.rd Obj.UPD_SEC_F.f) (s.rd (Obj.UPD_SLOT_SEC_MAJOR.i k)))).wr Obj.UPD_SEC_M.f
    (s.rd (Obj.UPD_SLOT_SEC_MINOR.i k))
  let s2 := if bit (s.fwSlot k).flags 1 then (s1.inc Obj.KSE_DTK_GEN.f).derivePlatform else s1
  let s3 := { s2 with upd := { s2.upd with deadline := none, armedAt := none, lastOwner := none, switched := [] } }.wrs
    [(Obj.UPD_SLOT_TRIAL.i k, 0), (Obj.UPD_STATE.f, 0)]
  (s3.set1 Obj.UPD_EVT_CONFIRMED.f).logAll [0, 1] 0x0A05 (le 4 (s.rd (Obj.UPD_SLOT_BUILD_LO.i k)))

/-- A deadline in the same millisecond wins over what would end the trial (R422). -/
def State.judgeDeadline (s : State) : State :=
  if (s.updState = 5 ∨ s.adjourned) ∧ s.deadlinePassed then s.fallBack 1 else s

/-- Check 8 of an update command that needs no ownership. -/
def State.freeCheck (s : State) (sid : Nat) : Bool := s.mode == 9 || (s.upd.owner.isSome && ! s.ownsUpdate sid)

def updConfirm (q : Req) (s : State) : State × Reply :=
  if ! permitted .owner [5, 6, 7, 8, 9] q s then (s, .no St.notPermitted)
  else if s.freeCheck q.sid then (s, .no St.busy)
  else if q.payload ≠ [] then (s, .no St.badPayload)
  else if s.failed 15 then (s, .no St.unitFailed)
  else
    let s1 := s.judgeDeadline
    if s1.adjourned then (s1, .check 0x0A45)
    else if s1.updState ≠ 5 then (s1, .check 0x0A46)
    else
      let s2 := s1.confirm
      (s2, .ok (le 1 (s2.rd Obj.UPD_SEC_F.f) ++ le 3 0 ++ le 4 (s2.rd Obj.UPD_SEC_M.f)))

def execCmdUpdConfirm (f : Frame) (s : State) : Host.Outcome State Fault Refusal := command 0x0A07 updConfirm f s

def updFallback (q : Req) (s : State) : State × Reply :=
  if ! permitted .owner [5, 6, 7, 8, 9] q s then (s, .no St.notPermitted)
  else if s.freeCheck q.sid then (s, .no St.busy)
  else if q.payload ≠ [] then (s, .no St.badPayload)
  else if s.failed 15 then (s, .no St.unitFailed)
  else if s.updState = 5 ∨ s.adjourned then (s.fallBack 2, .ok [])
  else (s, .check 0x0A46)

def execCmdUpdFallback (f : Frame) (s : State) : Host.Outcome State Fault Refusal := command 0x0A09 updFallback f s

/-- CMD_UPD_RECOVERY_ENTER (R419): the reset into M4 follows through the commit stages. -/
def updRecoveryEnter (q : Req) (s : State) : State × Reply :=
  if ! permitted .owner [5, 6, 7, 8, 9] q s then (s, .no St.notPermitted)
  else if s.freeCheck q.sid then (s, .no St.busy)
  else if q.payload ≠ [] then (s, .no St.badPayload)
  else if ! s.present then (s, .no St.presenceRequired)
  else ({ s with power := { s.power with recovery := true } }.beginTransition 3, .ok [])

def execCmdUpdRecoveryEnter (f : Frame) (s : State) : Host.Outcome State Fault Refusal := command 0x0A10 updRecoveryEnter f s

/-! ### The sealed move (R416) -/

/-- One write of UPD_SEALED_MOVE: the state after, and the detail code of a refusal. -/
def State.sealedMove (s0 : State) (v : Nat) : State × Option Nat :=
  let s := s0.judgeDeadline
  let lo := field (s.fwSlot s.active).build 0 4
  let armed := s.upd.armedAt.any fun t => decide (s.floorTime ≤ t + 10000000)
  if ! s.adjourned then (s, some 0x0A63)
  else if ! (s.sealTimeOk && s.sealPliesOk) then (s, some 0x0A61)
  else if armed && v == 2 ^ 32 - 1 - lo then (s.confirm.logAll [0, 1] 0x0A08 (le 4 lo), none)
  else if v = lo then ({ s with upd := { s.upd with armedAt := some s.floorTime } }, none)
  else ({ s with upd := { s.upd with armedAt := none } }.inc Obj.UPD_SEAL_BAD.f, some 0x0A62)

/-- UPD_SEALED_MOVE: a write from a C00 session or a C00 task. -/
def updSealedMove (who : Requester) (v : Nat) (s : State) : State :=
  if s.live who && s.compOf who == 0 then (s.sealedMove v).1 else s

def execUpdSealedMove (who : Requester) (value : BitVec 32) (t : Nat) (s : State) : Host.Outcome State Fault Refusal :=
  .next (updSealedMove who value.toNat (s.advance t))

/-! ### Recovery (R419, R420) -/

/-- RECOVERY_BEACON: every 2 s in M4, identity and link-local address. The address is the firmware's choice (RFC 3927). -/
def recoveryBeacon (s : State) : State :=
  if s.mode = 4 then
    let (a, s1) := s.draw
    s1.emit (.beacon (s.identity ++ le 4 (0xFEA9 + 65536 * (a % 65536))))
  else s

def execRecoveryBeacon (t : Nat) (s : State) : Host.Outcome State Fault Refusal := .next (recoveryBeacon (s.advance t))

/-- RECOVERY_IDLE_EXIT: 1,800 s with no frame from any host while no session owns the update. -/
def recoveryIdleExit (s : State) : State :=
  let heard := s.sessions.foldl (fun m x => max m x.lastFrame) s.upd.lastFrame
  if s.mode = 4 ∧ s.upd.owner.isNone ∧ heard + 1800000000000 ≤ s.floorTime then s.beginTransition 3 else s

def execRecoveryIdleExit (t : Nat) (s : State) : Host.Outcome State Fault Refusal := .next (recoveryIdleExit (s.advance t))

/-! ### What a boot does (R414, R415) -/

/-- The slot a boot runs, and the state after: the active one; where it does not run, the other (a fall-back); with
neither, none (M4). After a promotion no boot record exists and the better slot is chosen. -/
def State.bootSlot (s : State) (noRecord : Bool) : State × Option Nat :=
  let a := s.active
  let b := 1 - a
  let rank (k : Nat) : Nat := (s.rd (Obj.UPD_SLOT_SEC_MAJOR.i k) * 2 ^ 32 + s.rd (Obj.UPD_SLOT_SEC_MINOR.i k)) * 65536 +
    s.rd (Obj.UPD_SLOT_VER_SUP.i k)
  let pick (k : Nat) (t : State) : State × Option Nat :=
    ({ t with upd := { t.upd with running := (t.fwSlot k).parts } }, some k)
  if noRecord then
    if s.slotRuns 0 ∧ (! s.slotRuns 1 ∨ rank 1 ≤ rank 0) then pick 0 (s.nameActive 0 false)
    else if s.slotRuns 1 then pick 1 (s.nameActive 1 false) else (s, none)
  else if s.slotRuns a then pick a s
  else if s.slotRuns b then
    let s1 := if s.adjourned then s.failAdjournment else s
    pick b ({ (s1.nameActive b false) with upd := { s1.upd with back := true, cause := 4, deadline := none } }.wr Obj.UPD_STATE.f 7)
  else (s, none)

/-- The update at the end of a boot: an ended fall-back is reported, an adjournment's first boot starts its 600 s, and
ownership and an activation not begun are gone (R415, R422). -/
def State.bootUpd (s : State) : State :=
  let u := { s.upd with owner := none, lastOwner := none, activateAt := none, step := 0, resetAt := none, armedAt := none }
  let s1 := { s with upd := { u with wasReset := true } }
  if s1.upd.back then s1.fellBack
  else if s1.adjourned then
    { s1 with upd := { s1.upd with deadline := some (s1.upd.deadline.getD (s1.rd Obj.EVR_OP_SECONDS.f + 600)) } }
  else if s1.updState = 5 then s1
  else s1.wr Obj.UPD_STATE.f 0

end Sys2Proof.Machine
end

