-- ==== Sys2Proof/Machine/Sess.lean ====
section
/-!
DEFINITION. Sessions of the Marid Mailbox Protocol: handshakes, opening with certificate or challenge (R54 to R65, R368,
R385), resumption and detachment (R72, R85), cancelling (R74), the end of a session (R66), notices, and the mailbox RAM
(R80 to R82).
-/
namespace Sys2Proof.Machine

/-! ### Cancelling and ending (R66, R74) -/

/-- End one waiting request as cancelled, with what the cancel does to the work it waited for. -/
def State.cancelWaiter (s : State) (w : Waiter) : State :=
  let s0 := { s with waiters := s.waiters.filter fun x => ! (x.sid == w.sid && x.seq == w.seq) }
  let s1 := s0.finalTo w.sid w.seq w.cmd St.cancelled [] false
  match w.wait with
  | .step c _ _ => s1.putProg c { s1.prog c with step := none }
  | .busTx p b => (s1.cancelTx p b).select p
  | .mte => s1.abortTest
  | .agm => { s1 with agm := { s1.agm with running := none } }
  | _ => s1

/-- The outstanding requests of a session that are cancellable. -/
def State.cancellableOf (s : State) (sid : Nat) : List Waiter := s.waiters.filter fun w => w.sid == sid && w.cancellable

/-- A session ends (R66): cancellable requests end CANCELLED, the others run on; its update is aborted (R405), its notices,
captures and shadows are gone. -/
def State.endSession (s : State) (sid : Nat) : State :=
  match s.session sid with
  | none => s
  | some _ =>
    let s1 := (s.cancellableOf sid).foldl State.cancelWaiter s
    let s2 := if s1.upd.owner = some sid then s1.updAbort 2 false else s1
    { s2 with
      sessions := s2.sessions.filter fun x => x.id != sid,
      captures := s2.captures.filter fun x => x.1 != .session sid,
      rtc := { s2.rtc with shadows := s2.rtc.shadows.filter fun x => x.who != .session sid,
                           owed := s2.rtc.owed.filter (· != .session sid) } }

/-- Every session that meets a condition ends. -/
def State.endSessions (s : State) (f : Session → Bool) : State :=
  (s.sessions.filter f).foldl (fun t x => t.endSession x.id) s

/-- Where the USB port is no longer enabled, its session ends and what the connection held is gone (R400). -/
def State.judgeUsb (s : State) : State :=
  if s.usbEnabled then s
  else
    let s1 := s.endSessions (fun x => x.usb && x.conn == some 0)
    { s1 with conns := s1.conns.filter fun c => c.id != 0 }

/-- Sessions whose chain was verified against a slot end (R368). -/
def State.endVerified (s : State) (slot : Nat) : State := s.endSessions (fun x => x.slot == slot)

/-! ### Certificates (R368) -/

/-- Text of a byte in two upper-case hexadecimal digits. -/
def hexByte (b : Byte) : Bytes :=
  let d (n : Nat) : Byte := BitVec.ofNat 8 (if n < 10 then 48 + n else 55 + n)
  [d (b.toNat / 16), d (b.toNat % 16)]

/-- The second since 2000 that certificates are judged at, where one is known: the UTC label of floor time when anchored,
else the calendar when valid. -/
def State.certTime (s : State) : Option Int :=
  if s.on Obj.TIME_FT_STATE_ANCHORED.f then
    some ((s.floorTime : Int) / 1000000000 - ((s.rd Obj.TIME_PTP_UTC_OFS.f : Int) - 32))
  else if s.rtc.valid then some (s.calSecs : Int) else none

/-- The slot a compartment's chains end at: its anchor when VALID, else the key authority. The service certificate of the
vendor counts as slot 256. -/
def State.anchorOf (s : State) (comp : Nat) : Nat :=
  if comp = vendorTag then 256 else if s.slotState (anchorSlot comp) = 1 then anchorSlot comp else authoritySlot

/-- The key at which chains end in a slot. -/
def State.anchorKey (s : State) (slot : Nat) : Option Bytes :=
  if slot = 256 then some Config.serviceKey else if s.slotState slot = 1 then some (s.slotKey slot) else none

/-- Whether SUP accepts a client chain for a compartment (R368). -/
def State.chainAccepts (s : State) (comp : Nat) (chain : Bytes) : Bool :=
  Config.chainForm chain &&
    ((s.anchorKey (s.anchorOf comp)).any fun k => Config.chainEnds chain k) &&
    Config.chainComp chain == some comp &&
    ((Config.chainDevices chain).all fun d => d == s.identity.flatMap hexByte) &&
    (match s.certTime with | some t => Config.chainValid chain t | none => true)

/-- The record of a chain whose validity could not be checked. -/
def State.noteUnchecked (s : State) : State := if s.certTime.isNone then s.log 0 0x0806 [] else s

/-! ### Handshake (R54 to R56, R58) -/

/-- All PCX cores have failed. -/
def State.pcxGone (s : State) : Bool := s.failed 6 && s.failed 7 && s.failed 8 && s.failed 9

/-- SUP terminates TLS, for one session (R58). -/
def State.supTls (s : State) : Bool := s.mode == 4 || s.pcxGone

/-- Whether port 4770 listens on an NSW port (Table 3-1, Table 2-7). -/
def State.listens (s : State) (port : Nat) : Bool :=
  s.nswOn && (if s.mode = 4 then port == 2 else decide (5 ≤ s.mode ∧ s.mode ≤ 9) && (if s.pcxGone then decide (2 ≤ port ∧ port ≤ 5)
    else decide (port ≤ 5)))

/-- What the module offers and the client's proof of its key (R54, R55). -/
def handshakeGood (h : Handshake) : Bool :=
  h.tls13 && h.suite && h.group && h.scheme && h.chain != [] && Config.chainForm h.chain &&
    Config.leafVerifies h.chain h.transcript h.signature

/-- TLS_HANDSHAKE: refused with handshake_failure and closed, or a new connection. -/
def tlsHandshake (h : Handshake) (s : State) : State :=
  if ! s.listens h.port || h.conn == 0 || s.conns.any (fun c => c.id == h.conn) then s
  else if ! handshakeGood h then (s.emit (.alert h.conn)).emit (.close h.conn)
  else
    let k : Conn := { id := h.conn, usb := false, port := h.port, vlan := h.vlan, comp := Config.chainComp h.chain,
                      slot := 256, chain := h.chain }
    ((s.putConn k).perf 0 0x07 (k.comp.getD vendorTag)).emit (.accept h.conn)

def execTlsHandshake (h : Handshake) (s : State) : Host.Outcome State Fault Refusal :=
  .next (tlsHandshake h (s.advance h.arrival))

/-! ### Opening (R61 to R65) -/

/-- Whether a TLS connection's VLAN may carry a session of a compartment (R56). -/
def State.vlanCarries (s : State) (k : Conn) (comp : Nat) : Bool :=
  if k.port < 2 then true
  else if s.mode = 4 then k.port == 2 && k.vlan.isNone && (comp == 0 || comp == vendorTag)
  else match s.classify k.port k.vlan with
    | some v => s.rd (Obj.NSW_VLAN_OWNER.i v) == comp || s.rd (Obj.NSW_VLAN_OWNER.i v) == 0
    | none => false

/-- Whether the life-cycle state admits a session of a compartment (Table 16-4, R65). -/
def State.sessionAllowed (s : State) (comp : Nat) (usb : Bool) : Bool :=
  let vendor := usb || s.mode == 4
  let l := s.lcy.state
  if l = 1 then comp == 0 || comp == 1 || (comp == vendorTag && vendor)
  else if l = 2 ∨ l = 3 then comp != vendorTag || vendor
  else if l = 4 then (comp == 0 || comp == vendorTag) && usb
  else if l = 5 then comp == 0 && usb
  else false

/-- Whether one more session keeps the limits of Table 3-3; `but` is a session that is only moved. -/
def State.sessionRoom (s : State) (comp : Nat) (usb : Bool) (but : Nat) : Bool :=
  let l := s.sessions.filter fun x => x.id != but
  let tls := l.filter fun x => ! x.usb
  (if usb then ! l.any (·.usb)
   else decide (tls.length < 64) && (comp == 0 || decide ((tls.filter fun x => x.comp != 0).length < 60)) &&
     (! s.supTls || ! tls.any fun x => x.conn.isSome)) &&
  decide ((l.filter fun x => x.comp == comp).length < if comp = 0 then 8 else 4)

/-- A session identifier that no session has. -/
def freshSid (used : List Nat) : Nat → Nat → Nat
  | 0, n => n
  | k + 1, n => if used.contains n then freshSid used k ((n + 1) % 2 ^ 64) else n

/-- A new session on a connection (R63). -/
def State.openSession (s : State) (k : Conn) (f : Frame) (comp slot : Nat) : State × Reply :=
  let (n, s1) := s.draw
  let sid := freshSid (s1.sessions.map (·.id)) s1.sessions.length (n % 2 ^ 64)
  let next := (f.seq.toNat + 1) % 2 ^ 32
  let x : Session := { id := sid, comp := comp, conn := some k.id, usb := k.usb, slot := slot, lastFrame := f.arrival, expected := next }
  ({ s1.putConn { k with comp := some comp, slot := slot, nonce := none } with sessions := s1.sessions ++ [x] },
    .ok (le 8 sid ++ s.identity ++ le 4 maxPayload ++ le 2 8 ++ le 2 0 ++ le 4 next))

/-- CMD_SESSION_OPEN over TLS. A VLAN that may not carry it is answered and the connection closed (R56). -/
def sessionOpenTls (k : Conn) (f : Frame) (s : State) : State × Reply :=
  let comp := f.comp.toNat
  if ! s.sessionAllowed comp false then (s, .no St.notPermitted)
  else if f.payload ≠ [] then (s, .no St.badPayload)
  else if ! s.vlanCarries k comp then
    (((s.respond k.id 0xFF f.seq.toNat 0x0101 St.authFailed []).closeConn k.id s.floorTime), .later (.held 0 0))
  else if k.comp ≠ some comp ∨ ! (comp == vendorTag || s.exists? comp) ∨ ! s.chainAccepts comp k.chain then (s, .no St.authFailed)
  else if ! s.sessionRoom comp false (2 ^ 64) then (s, .no St.sessionLimit)
  else s.noteUnchecked.openSession k f comp (s.anchorOf comp)

/-- The owner claims the module: the key of the chain's top certificate goes into slot 004 (R385). -/
def State.claim (s : State) (comp : Nat) (chain : Bytes) : State × Bool :=
  if comp = 0 ∧ s.slotState authoritySlot = 0 ∧ s.present ∧ 1 ≤ s.lcy.state ∧ s.lcy.state ≤ 5 then
    match Config.chainTopKey chain with
    | some key =>
      let d : KeySlot := { state := 1, usage := 1, ktype := 4, owner := 0xFF, origin := 3 }
      (((s.putKey authoritySlot d key).wr Obj.KSE_KA_PRESENT.f 1).log 0 0x0804 [], true)
    | none => (s, false)
  else (s, false)

/-- CMD_SESSION_OPEN over USB: the chain, then a signature over nonce, identity and compartment number (R62). -/
def sessionOpenUsb (k : Conn) (f : Frame) (s0 : State) : State × Reply :=
  let comp := f.comp.toNat
  let s := s0.putConn { k with nonce := none }
  let chain := f.payload.take (f.payload.length - 96)
  let sig := f.payload.drop (f.payload.length - 96)
  if ! s0.sessionAllowed comp true then (s0, .no St.notPermitted)
  else if f.payload.length ≤ 96 then (s0, .no St.badPayload)
  else match k.nonce with
    | none => (s, .no St.authFailed)
    | some (n, t) =>
      if t + 30000000000 < s.floorTime then (s, .no St.authFailed)
      else
        let (s1, claimed) := s.claim comp chain
        if ! (comp == vendorTag || s1.exists? comp) ∨ ! s1.chainAccepts comp chain ∨
            ! Config.leafVerifies chain (le 32 n ++ s1.identity ++ le 1 comp) sig then (s1.judgeUsb, .no St.authFailed)
        else if ! s1.sessionRoom comp true (2 ^ 64) then (s1, .no St.sessionLimit)
        else
          let (s2, r) := s1.noteUnchecked.openSession k f comp (s1.anchorOf comp)
          let sid := (s2.sessionOn k.id).map (·.id)
          (if claimed then { s2 with lcy := { s2.lcy with claimSid := sid } } else s2, r)

def sessionOpenPre : PreBody := fun k f s => if k.usb then sessionOpenUsb k f s else sessionOpenTls k f s

/-- A connection whose session is open takes no other (R61). -/
def notWhenOpen (_ : Req) (s : State) : State × Reply := (s, .no St.notPermitted)

def execCmdSessionOpen (f : Frame) (s : State) : Host.Outcome State Fault Refusal :=
  .next (s.serve { code := 0x0101, preOpen := true } f sessionOpenPre notWhenOpen)

/-- CMD_SESSION_CHALLENGE: a 32-byte nonce for this connection. -/
def State.challenge (s : State) (conn : Nat) : State × Reply :=
  match s.connOf conn with
  | none => (s, .no St.noSession)
  | some k =>
    let (n, s1) := s.draw
    (s1.putConn { k with nonce := some (n % 2 ^ 256, s.floorTime) }, .ok (le 32 n))

def sessionChallenge (q : Req) (s : State) : State × Reply :=
  if q.payload ≠ [] then (s, .no St.badPayload) else s.challenge q.conn

def sessionChallengePre : PreBody := fun k f s => if f.payload ≠ [] then (s, .no St.badPayload) else s.challenge k.id

def execCmdSessionChallenge (f : Frame) (s : State) : Host.Outcome State Fault Refusal :=
  .next (s.serve { code := 0x0102, preOpen := true } f sessionChallengePre sessionChallenge)

/-! ### Close, ping, cancel, identity -/

/-- CMD_SESSION_CLOSE: cancels what is cancellable, answers with the count, and ends the session. -/
def sessionClose (q : Req) (s : State) : State × Reply :=
  if q.payload ≠ [] then (s, .no St.badPayload)
  else
    let l := s.cancellableOf q.sid
    let s1 := l.foldl State.cancelWaiter s
    (((s1.respond q.conn q.comp q.seq 0x0103 St.ok (le 1 l.length ++ le 3 0)).endSession q.sid).judgeUsb, .ok [])

def execCmdSessionClose (f : Frame) (s : State) : Host.Outcome State Fault Refusal := command 0x0103 sessionClose f s

def sessionPing (q : Req) (s : State) : State × Reply :=
  if 64 < q.payload.length then (s, .no St.badPayload) else (s, .ok (q.payload ++ le 8 s.floorTime))

def execCmdSessionPing (f : Frame) (s : State) : Host.Outcome State Fault Refusal := command 0x0104 sessionPing f s

/-- CMD_SESSION_CANCEL (R74). -/
def sessionCancel (q : Req) (s : State) : State × Reply :=
  let seq := field q.payload 0 4
  if q.payload.length ≠ 4 then (s, .no St.badPayload)
  else match (s.session q.sid).bind fun x => x.window.find? fun e => e.seq == seq with
    | none => (s, .ok (le 1 3 ++ le 3 0))
    | some e =>
      if e.done then (s, .ok (le 1 1 ++ le 3 0))
      else match s.waiters.find? fun w => w.sid == q.sid && w.seq == seq && w.cancellable with
        | some w => (s.cancelWaiter w, .ok (le 1 0 ++ le 3 0))
        | none => (s, .ok (le 1 2 ++ le 3 0))

def execCmdSessionCancel (f : Frame) (s : State) : Host.Outcome State Fault Refusal := command 0x0106 sessionCancel f s

/-- CMD_IDENT_GET (Table 3-6). -/
def State.ident (s : State) : Bytes :=
  s.identity ++ ((List.range 4).flatMap fun i => le 4 (s.rd (Obj.IDENT_ORDER_CODE.i i))) ++ le 2 (s.rd Obj.IDENT_HW_REV.f) ++
    le 1 s.lcy.state ++ le 1 (s.mode + 16 * b2n s.power.transition.isSome)

def identGet (q : Req) (s : State) : State × Reply := if q.payload ≠ [] then (s, .no St.badPayload) else (s, .ok s.ident)

def identGetPre : PreBody := fun _ f s => if f.payload ≠ [] then (s, .no St.badPayload) else (s, .ok s.ident)

def execCmdIdentGet (f : Frame) (s : State) : Host.Outcome State Fault Refusal :=
  .next (s.serve { code := 0x0110, preOpen := true, rereads := true } f identGetPre identGet)

/-! ### Resumption (R72, R85) -/

/-- Whether a detached session has reached, or in this millisecond reaches, the boundary at which it ends. -/
def Session.expired (x : Session) (now : Nat) : Bool :=
  x.conn.isNone && decide (roundUp (x.detachedAt + 60000000000) 1000000 < now + 1000000)

/-- The response to a resume: the expected sequence and the window, oldest first. -/
def Session.resumeBytes (x : Session) : Bytes :=
  le 4 x.expected ++ le 2 x.window.length ++ le 2 0 ++ x.window.flatMap fun e => le 4 e.seq ++ le 1 (b2n (! e.done)) ++ le 3 0

/-- CMD_SESSION_RESUME: attaches the session to this connection; an old connection is closed. Notices unread follow the
response. -/
def sessionResumePre : PreBody := fun k f s =>
  if f.payload.length ≠ 8 then (s, .no St.badPayload)
  else match s.session (field f.payload 0 8) with
    | none => (s, .no St.noSession)
    | some x =>
      if k.comp ≠ some x.comp ∨ x.expired s.floorTime then (s, .no St.noSession)
      else if ! s.sessionRoom x.comp k.usb x.id then (s, .no St.sessionLimit)
      else
        let s1 := match x.conn with | some old => s.closeConn old s.floorTime | none => s
        let s2 := s1.putSession { x with conn := some k.id, usb := k.usb, lastFrame := f.arrival }
        ((s2.respond k.id 0xFF f.seq.toNat 0x0105 St.ok x.resumeBytes).handOver x.id, .later (.held 0 0))

def execCmdSessionResume (f : Frame) (s : State) : Host.Outcome State Fault Refusal :=
  .next (s.serve { code := 0x0105, preOpen := true } f sessionResumePre notWhenOpen)

/-- TRANSPORT_LOSS: the connection is gone and its session detached. -/
def transportLoss (conn : Nat) (s : State) : State :=
  { s with conns := s.conns.filter fun c => c.id != conn }.detach conn s.floorTime

def execTransportLoss (conn t : Nat) (s : State) : Host.Outcome State Fault Refusal := .next (transportLoss conn (s.advance t))

/-- SESSION_IDLE_TIMEOUT: judged at a 1 ms boundary, 300 s after the last frame from the host. -/
def sessionIdleTimeout (sid : Nat) (s : State) : State :=
  match s.session sid with
  | some x => if s.floorTime % 1000000 = 0 ∧ x.lastFrame + 300000000000 ≤ s.floorTime then (s.endSession sid).judgeUsb else s
  | none => s

def execSessionIdleTimeout (sid t : Nat) (s : State) : Host.Outcome State Fault Refusal :=
  .next (sessionIdleTimeout sid (s.advance t))

/-- SESSION_DETACH_EXPIRY: judged at a 1 ms boundary, 60 s after the session became detached. -/
def sessionDetachExpiry (sid : Nat) (s : State) : State :=
  match s.session sid with
  | some x =>
    if s.floorTime % 1000000 = 0 ∧ x.conn = none ∧ x.detachedAt + 60000000000 ≤ s.floorTime then (s.endSession sid).judgeUsb else s
  | none => s

def execSessionDetachExpiry (sid t : Nat) (s : State) : Host.Outcome State Fault Refusal :=
  .next (sessionDetachExpiry sid (s.advance t))

/-- NOTICE_HANDOVER: the transport of an attached session accepts data (R70). -/
def execNoticeHandover (sid : Nat) (s : State) : Host.Outcome State Fault Refusal := .next (s.handOver sid)

/-! ### Headers and codes -/

/-- MMP_BAD_HEADER: check 1 of Table 3-7 fails, whatever the code. A frame whose header is good is another command. -/
def mmpBadHeader (f : Frame) (code : Nat) (s : State) : State :=
  match s.connOf f.conn with
  | some k => if f.judge k.usb = .good then s else s.serve { code := code } f noPre notWhenOpen
  | none => s

def execMmpBadHeader (f : Frame) (code : BitVec 16) (s : State) : Host.Outcome State Fault Refusal :=
  .next (mmpBadHeader f code.toNat (s.advance f.arrival))

/-- The command codes that a chapter defines. -/
def definedCodes : List Nat :=
  [0x0101, 0x0102, 0x0103, 0x0104, 0x0105, 0x0106, 0x0110, 0x0201, 0x0202, 0x0203, 0x0204, 0x0301, 0x0302, 0x0303, 0x0304,
   0x0401, 0x0402, 0x0403, 0x0404, 0x0405, 0x0406, 0x0410, 0x0411, 0x0412, 0x0420, 0x0430, 0x0431, 0x0432, 0x0510, 0x0511,
   0x0601, 0x0602, 0x0603, 0x0604, 0x0605, 0x0610, 0x0611, 0x0701, 0x0702, 0x0703] ++
  [0x0801, 0x0802, 0x0803, 0x0810, 0x0901, 0x0903, 0x0904, 0x0905, 0x0906, 0x0907, 0x0908, 0x0A01, 0x0A02, 0x0A03, 0x0A04,
   0x0A05, 0x0A06, 0x0A07, 0x0A09, 0x0A10, 0x0B01, 0x0B02, 0x0B03, 0x0C01, 0x0C02, 0x0C03, 0x0C20, 0x0C21, 0x0C40, 0x0C41]

/-- A code that no chapter defines returns BAD_COMMAND; the code of notices, which is no request, NOT_PERMITTED (R73). -/
def badCode (code : Nat) (_ : Req) (s : State) : State × Reply :=
  (s, .no (if code = 0x0710 then St.notPermitted else St.badCommand))

def execMmpUndefinedCommand (f : Frame) (code : BitVec 16) (s : State) : Host.Outcome State Fault Refusal :=
  .next (if definedCodes.contains code.toNat then s else s.serve { code := code.toNat } f noPre (badCode code.toNat))

/-! ### Mailbox RAM (R80 to R82) -/

/-- SUP serves a frame only if its handle names a session whose transport belongs to the source: cores 0 to 3 carry TLS,
source 4 is USB. -/
def State.slotServed (s : State) (x : MbxSlot) : Bool :=
  x.state == 2 && ((s.sessionOfHandle x.handle).any fun y => y.conn.isSome && y.usb == (x.owner == 4))

/-- MBX_DB_IN: the slot goes into the 16-entry FIFO. A frame SUP does not serve is discarded and recorded. -/
def mbxDbIn (src slot : Nat) (s : State) : State :=
  let n := slot % 16
  let x := s.mbx.slots.get {} n
  if 4 < src ∨ 16 ≤ s.mbx.fifo.length then s
  else if s.slotServed x then { s with mbx := { s.mbx with fifo := s.mbx.fifo ++ [n] } }
  else ({ s with mbx := { s.mbx with slots := if x.state = 2 then s.mbx.slots.put n {} else s.mbx.slots } }).log 0 0x0101
    (le 1 n ++ le 1 src ++ le 2 x.handle)

def execMbxDbIn (src slot : Nat) (s : State) : Host.Outcome State Fault Refusal := .next (mbxDbIn src slot s)

/-- A slot state word. -/
def MbxSlot.word (x : MbxSlot) : Nat := x.state + 16 * x.owner + 65536 * x.handle

/-- A compare-and-set of SUP: it takes a request, frees a slot, or claims a free one for a response, which marks the
destination in MBX_DB_OUT_IRQ. -/
def State.supCas (s : State) (n : Nat) (c : SlotCas) : State :=
  let x := s.mbx.slots.get {} n
  if x.state ≠ c.expect % 16 then s
  else
    let m := s.mbx
    let y : MbxSlot := { state := c.new % 16, owner := if c.new = 4 then 0xF else if c.new = 0 then 0 else x.owner,
                         handle := if c.new = 4 then c.handle % 65536 else x.handle }
    { s with mbx := { m with
        slots := m.slots.put n y,
        fifo := if x.state = 2 then m.fifo.filter (· != n) else m.fifo,
        outIrq := if c.new = 4 then m.outIrq ||| 2 ^ (c.source % 5) else m.outIrq,
        ram := if c.frame = [] then m.ram else memWrite m.ram (0x4000 + 0x4000 * n) (c.frame.take 16384) } }

/-- A compare-and-set from the fabric side. OWNER is the source that takes a slot from FREE to FILLING; a source claims
slots 00 to 11 only. It is told whether it succeeded and the word as it now stands. -/
def State.portCas (s : State) (n : Nat) (c : SlotCas) : State :=
  let x := s.mbx.slots.get {} n
  let claims := c.new == 1
  if x.state ≠ c.expect % 16 ∨ (claims ∧ (x.state ≠ 0 ∨ 11 < n)) then s.emit (.word .firmware (0x40 + 4 * n) 1 x.word)
  else
    let m := s.mbx
    let y : MbxSlot := { state := c.new % 16, owner := if claims then c.source % 16 else if c.new = 0 then 0 else x.owner,
                         handle := if c.new = 0 then 0 else c.handle % 65536 }
    { s with mbx := { m with
        slots := m.slots.put n y,
        ram := if c.frame = [] then m.ram else memWrite m.ram (0x4000 + 0x4000 * n) (c.frame.take 16384) } }.emit
      (.word .firmware (0x40 + 4 * n) 0 y.word)

/-- MBX_SLOT_STATE: of two in one cycle SUP's comes first (R81). -/
def mbxSlotState (slot : Nat) (sup port : Option SlotCas) (s : State) : State :=
  if 14 < slot then s
  else
    let s1 := match sup with | some c => s.supCas slot c | none => s
    match port with
    | none => s1
    | some c =>
      if sup.isSome then s1.emit (.word .firmware (0x40 + 4 * slot) 1 (s1.mbx.slots.get {} slot).word) else s1.portCas slot c

def execMbxSlotState (slot : Nat) (sup port : Option SlotCas) (s : State) : Host.Outcome State Fault Refusal :=
  .next (mbxSlotState slot sup port s)

end Sys2Proof.Machine
end

