-- ==== Sys2Proof/Machine/Keys.lean ====
section
/-!
DEFINITION. Key Update Messages (spec/15 R369 to R373), the key authority (R374), and the statements of the module
(R378 to R381).
-/
namespace Sys2Proof.Machine

/-! ### The Key Update Message (Table 15-4) -/

def kumKind (m : Bytes) : Nat := field m 6 1
def kumWrap (m : Bytes) : Nat := field m 7 1
def kumSlot (m : Bytes) : Nat := field m 0x19 1
def kumOwner (m : Bytes) : Nat := field m 0x1A 1
def kumUsage (m : Bytes) : Nat := field m 0x1B 1
def kumKtype (m : Bytes) : Nat := field m 0x1C 1
def kumParent (m : Bytes) : Nat := field m 0x1D 1
def kumLabelLen (m : Bytes) : Nat := field m 0x1E 1
def kumKeyLen (m : Bytes) : Nat := field m 0x1F 1
def kumCounter (m : Bytes) : Nat := field m 0x20 8
def kumLabel (m : Bytes) : Bytes := (m.drop 0x28).take (kumLabelLen m)
def kumEphemeral (m : Bytes) : Bytes := (m.drop 0x48).take 96
def kumData (m : Bytes) : Bytes := (m.drop 0xA8).take (kumKeyLen m)

/-- Whether the message names a parent or wrap slot. -/
def kumNamesParent (m : Bytes) : Bool := kumKind m == 1 || kumWrap m == 2

/-- Whether a compartment sees a slot's descriptor (R367). -/
def State.seesSlot (s : State) (c k : Nat) : Bool := s.sight c (0x70000 + 0x10 * k) != .hidden

/-- The compartment and place of a fixed slot: 0 CRK, 1 BSK, 2 anchor. -/
def fixedSlot (k : Nat) : Option (Nat × Nat) := if 16 ≤ k ∧ k < 118 then some ((k - 16) / 3, (k - 16) % 3) else none

/-- Whether the requester may ask for the message (R372): it is OWNER, or C00 installing into an EMPTY general slot. -/
def State.kumOwnerOk (s : State) (c : Nat) (m : Bytes) : Bool :=
  kumOwner m == c ||
    (c == 0 && s.exists? (kumOwner m) && decide (118 ≤ kumSlot m) && s.slotState (kumSlot m) == 0 && decide (kumKind m ≤ 2))

/-- CMD_KEY_UPDATE: the general checks; the KSE takes the message in its turn (R373). -/
def keyUpdate (q : Req) (s : State) : State × Reply :=
  let m := q.payload
  if ! permitted .all m5to9 q s then (s, .no St.notPermitted)
  else if s.mode = 9 then (s, .no St.busy)
  else if s.adjourned then (s, .no St.adjourned)
  else if m.length ≠ 384 ∨ field m 0 4 ≠ 0x554B5841 ∨ field m 4 2 ≠ 1 then (s, .no St.badPayload)
  else if ! s.seesSlot q.comp (kumSlot m) ∨ (kumNamesParent m ∧ ! s.seesSlot q.comp (kumParent m)) then (s, .no St.noObject)
  else if ! s.kumOwnerOk q.comp m then (s, .check 0x0808)
  else ({ s with kse := { s.kse with jobs := s.kse.jobs ++ [⟨q.sid, q.seq, q.comp, m⟩] } }, .pending (.held q.sid q.seq))

def execCmdKeyUpdate (f : Frame) (s : State) : Host.Outcome State Fault Refusal := command 0x0801 keyUpdate f s

/-- Table 15-3: the usages a key type admits. -/
def usageOk (ktype usage : Nat) : Bool :=
  if ktype = 1 then decide (usage ≤ 2)
  else if ktype = 2 then decide (usage ≤ 1)
  else if ktype = 3 then usage == 0 || usage == 2
  else if ktype = 4 then usage == 1
  else if ktype = 5 then usage == 3
  else false

/-- Whether a kind may act on a slot for an owner (Table 15-5). -/
def kumSlotOk (m : Bytes) : Bool :=
  let k := kumSlot m
  let general := decide (118 ≤ k)
  match fixedSlot k with
  | some (c, p) => c == kumOwner m && (if p = 2 then kumKind m == 2 || kumKind m == 3
      else kumKind m == 4 && (p == 0 || decide (2 ≤ c)))
  | none => general && decide (kumKind m ≤ 3)

/-- The key under which a message's key is wrapped is a VALID AES-256 WRAP key of the owner; a derivation's parent is a
VALID DERIVE slot of the owner (R371, R377). -/
def State.kumParentOk (s : State) (m : Bytes) : Bool :=
  let p := kumParent m
  let mine := s.slotState p == 1 && s.slotOwner p == kumOwner m
  if kumWrap m = 2 then mine && s.rd (Obj.KSE_SLOT_KTYPE.i p) == 1 && s.rd (Obj.KSE_SLOT_USAGE.i p) == 2
  else if kumKind m = 1 then mine && s.rd (Obj.KSE_SLOT_USAGE.i p) == 3
  else true

/-- The fields that must be 0 or lie in their range for the kind (Table 15-4). -/
def kumFieldsOk (m : Bytes) : Bool :=
  let kind := kumKind m
  let zero (off n : Nat) : Bool := field m off n == 0
  (kumNamesParent m || kumParent m == 0) &&
    (if kind = 1 then decide (1 ≤ kumLabelLen m ∧ kumLabelLen m ≤ 32) else kumLabelLen m == 0) &&
    zero (0x28 + kumLabelLen m) (32 - kumLabelLen m) &&
    (kumWrap m == 1 || zero 0x48 96) &&
    (if kind = 0 then decide (40 ≤ kumKeyLen m ∧ kumKeyLen m ≤ 56) && kumKeyLen m % 8 == 0
     else if kind = 2 then kumKeyLen m == 96 else kumKeyLen m == 0) &&
    zero (0xA8 + kumKeyLen m) (120 - kumKeyLen m)

/-- Check 4 of R372: the detail code of what is wrong with kind, slot, owner, usage and the fields that go with them. -/
def State.kumDetail (s : State) (m : Bytes) : Option Nat :=
  let kind := kumKind m
  if 4 < kind ∨ 2 < kumWrap m ∨ ((kumWrap m = 0) ↔ (kind = 0)) then some 0x0801
  else if ! kumSlotOk m then some 0x0802
  else if kind ≤ 2 ∧ (! usageOk (kumKtype m) (kumUsage m) ∨ (kumKtype m = 4) ≠ (kind = 2)) then some 0x0803
  else if kumWrap m = 1 ∧ s.slotState 3 ≠ 1 then some 0x0803
  else if ! s.kumParentOk m then some 0x0804
  else if ! kumFieldsOk m then some 0x0805
  else none

/-- The key-encryption key of a message (R371). -/
def State.kumKek (s : State) (m : Bytes) : Bytes :=
  if kumWrap m = 2 then s.slotKey (kumParent m)
  else kdf (Config.ecdh (s.slotKey 3) (kumEphemeral m)) (ascii "AXZ-KUM") (s.kdfContext (kumSlot m) (kumCounter m % 2 ^ 32)) 256

/-- The key a message of kind 0 to 2 puts into its slot, or the detail code of why it does not. -/
def State.kumKey (s : State) (m : Bytes) : Except Nat Bytes :=
  let t := kumKtype m
  if kumKind m = 1 then .ok (s.derive (s.slotKey (kumParent m)) (kumLabel m) (kumOwner m) (kumCounter m % 2 ^ 32) t)
  else if kumKind m = 2 then (if onCurve (kumData m) then .ok (kumData m) else .error 0x0807)
  else if kumWrap m = 1 ∧ ! onCurve (kumEphemeral m) then .error 0x0807
  else match Config.keyUnwrap (s.kumKek m) (kumData m) with
    | none => .error 0x0806
    | some k => if k.length ≠ (if t = 1 then 32 else 48) ∨ (t = 3 ∧ ! scalarOk k) then .error 0x0807 else .ok k

/-- What an accepted message does to its slot (Table 15-5). The generation of a key that was not derived is unstated. -/
def State.kumSwitch (s : State) (m : Bytes) (key : Bytes) : State :=
  let k := kumSlot m
  let c := kumOwner m
  let kind := kumKind m
  if kind ≤ 2 then
    let (n, s1) := s.draw
    let d : KeySlot := { state := 1, usage := kumUsage m, ktype := kumKtype m, owner := c, ctr := kumCounter m,
                         parent := if kind = 1 then kumParent m else 0x100,
                         origin := if kind = 0 then 1 else if kind = 1 then 2 else 3,
                         gen := if kind = 1 then kumCounter m % 2 ^ 32 else n % 2 ^ 32 }
    s1.putKey k d key
  else if kind = 3 then ((s.orphanBelow k).emptySlot k).wr (Obj.KSE_SLOT_CTR.i k) (kumCounter m)
  else match fixedSlot k with
    | some (_, 0) => (s.orphanBelow k).deriveCrk c (s.slotGen k + 1)
    | _ => s.deriveBsk c (s.slotGen k + 1)

/-- Sessions whose chains were verified against a replaced anchor end (R368). -/
def State.anchorGone (s : State) (m : Bytes) : State :=
  match fixedSlot (kumSlot m) with
  | some (_, 2) => s.endVerified (kumSlot m)
  | _ => s

/-- The KSE applies one message: the checks of R372 in order, then the record, the counter and the switch (R370, R373). -/
def State.applyKum (s : State) (j : KumJob) : State :=
  let m := j.kum
  let no (st : Nat) (p : Bytes) : State := s.finish (.held j.sid j.seq) st p
  if ! s.exists? (kumOwner m) then no St.noObject []
  else if (m.drop 8).take 16 ≠ s.identity ∨ field m 0x18 1 ≠ s.lcy.state then no St.wrongDevice []
  else if s.slotState authoritySlot ≠ 1 ∨
      ! Config.ecdsaVerify (s.slotKey authoritySlot) (sha384 (m.take 0x120)) (m.drop 0x120) then no St.badSignature []
  else if kumCounter m ≤ s.rd (Obj.KSE_CTR.b (kumOwner m)) then no St.counterStale []
  else match s.kumDetail m with
    | some d => no St.checkFailed (detailRecord d 0 0)
    | none => match (if kumKind m ≤ 2 then s.kumKey m else .ok []) with
      | .error d => no St.checkFailed (detailRecord d 0 0)
      | .ok key =>
        let c := kumOwner m
        let s1 := ((s.kumSwitch m key).wr (Obj.KSE_CTR.b c) (kumCounter m)).set1 (Obj.KSE_EVT_UPDATED.b c)
        let s2 := s1.logAll (if c = 0 then [0] else [0, c]) 0x0801 (le 1 (kumSlot m) ++ le 1 (kumKind m) ++ le 6 0 ++ le 8 (kumCounter m))
        (s2.finish (.held j.sid j.seq) St.ok
          (le 1 (kumSlot m) ++ le 1 (s2.slotState (kumSlot m)) ++ le 2 0 ++ le 8 (kumCounter m))).anchorGone m

/-- KUM_APPLY: the oldest message. -/
def kumApply (s : State) : State :=
  match s.kse.jobs with
  | [] => s
  | j :: r => { s with kse := { s.kse with jobs := r } }.applyKum j

def execKumApply (t : Nat) (s : State) : Host.Outcome State Fault Refusal := .next (kumApply (s.advance t))

/-! ### The key authority (R374) -/

/-- CMD_KEY_AUTHORITY_SET: the final response goes out before the sessions verified against the old authority end. -/
def keyAuthoritySet (q : Req) (s : State) : State × Reply :=
  let key := q.payload.take 96
  let ctr := field q.payload 96 8
  let sig := q.payload.drop 104
  let empty := s.slotState authoritySlot == 0
  let digest := sha384 (ascii "AXZ-KAS" ++ s.identity ++ le 1 s.lcy.state ++ key ++ le 8 ctr)
  if ! permitted .owner m5to8 q s then (s, .no St.notPermitted)
  else if q.payload.length ≠ 200 ∨ (empty ∧ unle sig ≠ 0) then (s, .no St.badPayload)
  else if ! s.present then (s, .no St.presenceRequired)
  else if ! empty ∧ ! (s.slotState authoritySlot == 1 && Config.ecdsaVerify (s.slotKey authoritySlot) digest sig) then
    (s, .no St.badSignature)
  else if ctr ≤ s.rd Obj.KSE_KA_CTR.f then (s, .no St.counterStale)
  else if ! onCurve key then (s, .check 0x0807)
  else
    let d : KeySlot := { state := 1, usage := 1, ktype := 4, owner := 0xFF, origin := 3 }
    let s1 := (((s.putKey authoritySlot d key).wr Obj.KSE_KA_PRESENT.f 1).wr Obj.KSE_KA_CTR.f ctr).log 0 0x0804 []
    let done (u : State) : State := (u.endVerified authoritySlot).judgeUsb
    (if ((done s1).session q.sid).isSome then done s1 else done (s1.finalTo q.sid q.seq 0x0810 St.ok (le 8 ctr) false), .ok (le 8 ctr))

def execCmdKeyAuthoritySet (f : Frame) (s : State) : Host.Outcome State Fault Refusal := command 0x0810 keyAuthoritySet f s

/-! ### Statements (R378) -/

/-- A TLV item. -/
def item (ty : Nat) (v : Bytes) : Bytes := le 2 ty ++ le 2 v.length ++ padTo (roundUp v.length 4) v

/-- The slot that signs statements. -/
def State.attestSlot (s : State) : Nat := if s.lcy.state = 4 then 1 else 0

/-- Items 0x0001 to 0x000B that more than one kind carries. -/
def State.itemIdentity (s : State) : Bytes := item 0x0001 s.identity
def State.itemChain (s : State) : Bytes := item 0x0003 (Config.deviceChain s.attestSlot)
def State.itemState (s : State) : Bytes := item 0x0004 (le 1 s.lcy.state ++ le 1 (s.rd Obj.LCY_DEBUG.f) ++ le 1 s.mode ++ le 1 0)
def State.itemSecurity (s : State) : Bytes := item 0x0005 (le 1 (s.rd Obj.UPD_SEC_F.f) ++ le 3 0 ++ le 4 (s.rd Obj.UPD_SEC_M.f))
def State.itemTime (s : State) : Bytes :=
  item 0x0008 (le 8 s.floorTime ++ le 2 s.ftState ++ le 1 (b2n s.rtc.valid) ++ le 1 0 ++ le 8 s.rtc.ticks)

/-- Item 0x0006 of a part: the boot ROM, or a part as it runs. -/
def State.itemPart (s : State) (id : Nat) : Bytes :=
  if id = 1 then item 0x0006 (le 1 1 ++ le 1 0 ++ le 2 Config.romVersion ++ padTo 48 Config.romHash)
  else item 0x0006 (le 1 id ++ le 1 0 ++ le 2 (s.runs id).version ++ padTo 48 (s.runs id).hash)

def State.itemOrder (s : State) : Bytes :=
  item 0x0002 (((List.range 4).flatMap fun i => le 4 (s.rd (Obj.IDENT_ORDER_CODE.i i))) ++ le 2 (s.rd Obj.IDENT_HW_REV.f) ++ le 2 0)
def State.itemSeal (s : State) : Bytes :=
  item 0x0007 (le 4 (b2n s.lcy.loopIntact + 2 * s.rd Obj.LCY_SEAL_LATCH_OPEN.f + 4 * s.rd Obj.LCY_SEAL_ACKED.f))
def State.itemImage (s : State) (c : Nat) : Bytes :=
  item 0x000B (if c < 34 then ((List.range 12).flatMap fun i => le 4 (s.rd (Obj.SCE_IMG_HASH.bi c i))) ++ le 4 (s.rd (Obj.SCE_IMG_SIZE.b c))
    else List.replicate 52 0)
def State.itemFirmware (s : State) : Bytes := item 0x000E (le 1 s.active ++ le 1 (b2n s.adjourned) ++ le 2 0)

/-- Sign a statement of a kind: the count rises, the header goes in front and the signature item behind. -/
def State.sign (s : State) (kind : Nat) (items : Bytes) : State × Reply :=
  if s.slotState s.attestSlot ≠ 1 then (s, .check 0x0803)
  else
    let (n, s1) := (s.inc Obj.KSE_ATT_COUNT.f).draw
    let body := le 4 0x54415841 ++ le 2 1 ++ le 1 kind ++ le 1 0 ++ le 4 (16 + items.length + 100) ++
      le 4 (s1.rd Obj.KSE_ATT_COUNT.f) ++ items ++ le 2 0x00FF ++ le 2 96
    (s1, .ok (body ++ padTo 96 (Config.ecdsaSign (s.slotKey s.attestSlot) (sha384 body) n)))

/-- Whether a payload is a nonce length of 16 to 64 at `at_` and the nonce from byte 4. -/
def nonceOk (p : Bytes) (at_ : Nat) : Bool :=
  let n := field p at_ 1
  decide (16 ≤ n ∧ n ≤ 64) && p.length == 4 + n

/-- CMD_KEY_ATTEST (R379). In M11 it is open to C00 only. -/
def keyAttest (q : Req) (s : State) : State × Reply :=
  if ! permitted .any (11 :: m4to9) q s ∨ s.lcy.state = 0 ∨ (s.mode = 11 ∧ q.comp ≠ 0) then (s, .no St.notPermitted)
  else if ! nonceOk q.payload 0 then (s, .no St.badPayload)
  else s.sign 1 (s.itemIdentity ++ s.itemOrder ++ s.itemChain ++ s.itemState ++ s.itemSecurity ++
    ((List.range 6).flatMap fun i => s.itemPart (i + 1)) ++ s.itemSeal ++ s.itemTime ++ item 0x0009 (q.payload.drop 4) ++
    item 0x000A (le 1 q.comp ++ le 3 0) ++ s.itemImage q.comp ++ s.itemFirmware)

def execCmdKeyAttest (f : Frame) (s : State) : Host.Outcome State Fault Refusal :=
  command 0x0802 keyAttest f s (cancellable := true) (rereads := true)

/-- Item 0x000D: a certified key. -/
def State.itemKey (s : State) (k : Nat) : Bytes :=
  let t := s.rd (Obj.KSE_SLOT_KTYPE.i k)
  item 0x000D (le 1 k ++ le 1 (s.rd (Obj.KSE_SLOT_USAGE.i k)) ++ le 1 t ++ le 1 0 ++ le 4 (s.slotGen k) ++
    le 8 (s.rd (Obj.KSE_SLOT_CTR.i k)) ++ padTo 96 (if t = 3 then Config.publicKey (s.slotKey k) else s.slotKey k))

/-- CMD_KEY_CERTIFY (R380). -/
def keyCertify (q : Req) (s : State) : State × Reply :=
  let k := field q.payload 0 1
  let t := s.rd (Obj.KSE_SLOT_KTYPE.i k)
  if ! permitted .all m4to9 q s ∨ s.lcy.state = 0 then (s, .no St.notPermitted)
  else if ! nonceOk q.payload 1 then (s, .no St.badPayload)
  else if ! s.seesSlot q.comp k then (s, .no St.noObject)
  else if t ≠ 3 ∧ t ≠ 4 then (s, .check 0x080A)
  else if s.slotState k = 2 then (s, .no St.keyOrphaned)
  else if s.slotState k = 3 then (s, .no St.notPermitted)
  else s.sign 2 (s.itemIdentity ++ s.itemChain ++ s.itemState ++ s.itemSecurity ++ s.itemTime ++ item 0x0009 (q.payload.drop 4) ++
    item 0x000A (le 1 q.comp ++ le 3 0) ++ s.itemKey k)

def execCmdKeyCertify (f : Frame) (s : State) : Host.Outcome State Fault Refusal :=
  command 0x0803 keyCertify f s (cancellable := true) (rereads := true)

end Sys2Proof.Machine
end

