-- ==== Sys2Proof/Machine/Lcy.lean ====
section
/-!
DEFINITION. Life cycle, presence and debug (spec/16): promotion, seal, CONFIG LOCK, presence, debug levels, the USB service
port, retirement statements; and the debug port's pins (spec/21 R466).
-/
namespace Sys2Proof.Machine

/-- D2 is in force; in BLANK always (R397, R398). -/
def State.d2 (s : State) : Bool := s.rd Obj.LCY_DEBUG.f == 2 || s.lcy.state == 0

/-! ### Promotion (R386, R387) -/

/-- The successors of a state (Table 16-1), those that C00 may request. -/
def successors (l : Nat) : List Nat := if l = 1 then [2] else if l = 2 then [3, 5] else if l = 3 then [4, 5] else if l = 4 then [5] else []

/-- An accepted promotion (R387). Whether the fuse group counts as blown is free; one that does not may stand partly blown
with its intent record. The response goes out before the requester's session ends. -/
def State.promote (s : State) (q : Req) (target : Nat) : State :=
  let s1 := s.compartments.foldl (fun t c => t.stopProg c 7 false) (s.sayPending q)
  let s2 := (s1.endSessions fun x => x.id != q.sid).abortTest
  let (n, s3) := s2.draw
  let old := s.lcy.state
  let l := { s3.lcy with accepted := (old, s.floorTime, s.rtc.ticks), windowAt := none }
  let s4 : State := if n % 2 = 0 then { s3 with lcy := { l with state := target, intent := none } }
    else { s3 with lcy := { l with intent := if n / 2 % 2 = 0 then some target else none } }
  let s5 := if n % 2 = 0 then s4.finalTo q.sid q.seq q.code St.ok (le 1 target ++ le 3 0) false
    else (s4.finalTo q.sid q.seq q.code St.internalError [] false).log 0 0x01FF (le 4 q.seq ++ le 2 q.code)
  (s5.endSession q.sid).beginTransition 3

def lcyPromote (q : Req) (s : State) : State × Reply :=
  let target := field q.payload 0 1
  if ! permitted .owner [5, 8] q s then (s, .no St.notPermitted)
  else if s.adjourned then (s, .no St.adjourned)
  else if s.power.transition.isSome ∨ s.activating ∨ (s.upd.owner.isSome ∧ ! s.ownsUpdate q.sid) then (s, .no St.busy)
  else if q.payload.length ≠ 20 then (s, .no St.badPayload)
  else if ! s.present then (s, .no St.presenceRequired)
  else if s.lcy.jumper then (s, .no St.configLocked)
  else if q.payload.drop 4 ≠ s.identity then (s, .no St.wrongDevice)
  else if ! (successors s.lcy.state).contains target then (s, .check 0x0901)
  else if s.d2 then (s, .check 0x0902)
  else if ! s.castlings.isEmpty then (s, .check 0x0903)
  else (s.promote q target, .ok [])

def execCmdLcyPromote (f : Frame) (s : State) : Host.Outcome State Fault Refusal := command 0x0901 lcyPromote f s

/-! ### Seal loop and CONFIG LOCK (R393, R394) -/

/-- The seal latch opens: once, until it is acknowledged. -/
def State.openSeal (s : State) : State :=
  if s.on Obj.LCY_SEAL_LATCH_OPEN.f then s
  else
    let s1 := (s.wrs [(Obj.LCY_SEAL_LATCH_OPEN.f, 1), (Obj.LCY_SEAL_ACKED.f, 0), (Obj.LCY_SEAL_OPEN_TICKS.f, s.rtc.ticks),
      (Obj.LCY_EVT_SEAL.f, 1)]).inc Obj.LCY_SEAL_OPENS.f
    (s1.logOrDefer 0 0x0901 []).logOrDefer 1 0x0901 []

/-- SEAL_BREAK: a break has reached 1 ms, or a sample in M0 finds it. -/
def sealBreak (s : State) : State := { s with lcy := { s.lcy with loopIntact := false } }.openSeal

def execSealBreak (t : Nat) (s : State) : Host.Outcome State Fault Refusal := .next (sealBreak (s.advance t))

/-- SEAL_LOOP_INTACT: the loop is closed again; the latch stays. -/
def sealLoopIntact (s : State) : State := { s with lcy := { s.lcy with loopIntact := true } }

def execSealLoopIntact (t : Nat) (s : State) : Host.Outcome State Fault Refusal := .next (sealLoopIntact (s.advance t))

/-- CMD_LCY_SEAL_ACK. -/
def lcySealAck (q : Req) (s : State) : State × Reply :=
  let word (u : State) : Bytes := le 4 ((u.wordAt 0 0x80010).getD 0)
  if ! permitted .owner m5to8 q s then (s, .no St.notPermitted)
  else if q.payload ≠ [] then (s, .no St.badPayload)
  else if ! s.present then (s, .no St.presenceRequired)
  else if ! s.lcy.loopIntact then (s, .check 0x0908)
  else if ! s.on Obj.LCY_SEAL_LATCH_OPEN.f then (s, .ok (word s))
  else
    let s1 := (s.wrs [(Obj.LCY_SEAL_LATCH_OPEN.f, 0), (Obj.LCY_SEAL_ACKED.f, 1)]).logAll [0, 1] 0x0902 []
    (s1, .ok (word s1))

def execCmdLcySealAck (f : Frame) (s : State) : Host.Outcome State Fault Refusal := command 0x0903 lcySealAck f s

/-- CONFIG_LOCK_CHANGE. -/
def configLockChange (fitted : Bool) (s : State) : State :=
  if fitted = s.lcy.jumper then s
  else
    let s1 := { s with lcy := { s.lcy with jumper := fitted } }.set1 Obj.LCY_EVT_LOCK_CHANGED.f
    (s1.logOrDefer 0 0x0903 (le 1 (b2n fitted))).logOrDefer 1 0x0903 (le 1 (b2n fitted))

def execConfigLockChange (fitted : Bool) (t : Nat) (s : State) : Host.Outcome State Fault Refusal :=
  .next (configLockChange fitted (s.advance t))

/-! ### Presence (R391, R78) -/

/-- PRESENCE_PRESS: in M1 to M11 a hold begins to be timed, in M0 the press is latched; any press is a wake cause (R38). -/
def presencePress (s : State) : State :=
  if s.mode = 0 then s.set1 Obj.LCY_PRESENCE_PRESSED_OFF.f
  else
    let s1 := { s with lcy := { s.lcy with pressedAt := some s.floorTime, held := false } }
    if s1.wakeEn 0 then s1.wake 1 else s1

def execPresencePress (t : Nat) (s : State) : Host.Outcome State Fault Refusal := .next (presencePress (s.advance t))

/-- The present hold has reached 3 s and has not been served. -/
def State.heldLong (s : State) : Option Nat :=
  match s.lcy.pressedAt with
  | some p => if p + 3000000000 ≤ s.floorTime ∧ ! s.lcy.held then some (p + 3000000000) else none
  | none => none

/-- PRESENCE_RELEASE: the timing of the hold ends; a hold of 3 s that SUP could not serve yet is kept. -/
def presenceRelease (s : State) : State :=
  { s with lcy := { s.lcy with windowDue := s.lcy.windowDue || s.heldLong.isSome, pressedAt := none, held := false } }

def execPresenceRelease (t : Nat) (s : State) : Host.Outcome State Fault Refusal := .next (presenceRelease (s.advance t))

/-- PRESENCE_WINDOW_OPEN: a hold has reached 3 s and SUP serves sessions. A hold in an open window restarts its 120 s from
the third second, which is no opening. -/
def presenceWindowOpen (s : State) : State :=
  if ! s.serves then s
  else
    let l := { s.lcy with held := s.lcy.held || s.heldLong.isSome, windowDue := false }
    match s.lcy.windowAt, s.heldLong with
    | some _, some third => { s with lcy := { l with windowAt := some third } }
    | some _, none => s
    | none, h =>
      if h.isSome ∨ s.lcy.windowDue then
        ({ s with lcy := { l with windowAt := some s.floorTime } }.inc Obj.LCY_PRESENCE_OPENS.f).log 0 0x0904 []
      else s

def execPresenceWindowOpen (t : Nat) (s : State) : Host.Outcome State Fault Refusal := .next (presenceWindowOpen (s.advance t))

/-- PRESENCE_WINDOW_CLOSE (R78). -/
def presenceWindowClose (s : State) : State :=
  match s.lcy.windowAt with
  | some w => if w + 120000000000 ≤ s.floorTime then { s with lcy := { s.lcy with windowAt := none } } else s
  | none => s

def execPresenceWindowClose (t : Nat) (s : State) : Host.Outcome State Fault Refusal := .next (presenceWindowClose (s.advance t))

/-! ### USB service port (R400) -/

/-- The timed enabling ends. -/
def State.endUsbTime (s : State) : State :=
  if s.lcy.usbUntil.isNone then s
  else ({ s with lcy := { s.lcy with usbUntil := none } }.log 0 0x0908 (le 1 0 ++ le 7 0 ++ le 8 s.floorTime)).judgeUsb

def lcyUsbEnable (q : Req) (s : State) : State × Reply :=
  let m := field q.payload 0 2
  if ! permitted .owner m5to8 q s then (s, .no St.notPermitted)
  else if q.payload.length ≠ 4 then (s, .no St.badPayload)
  else if ! s.present then (s, .no St.presenceRequired)
  else if m = 0 ∨ 480 < m then (s, .no St.badValue)
  else
    let u := s.floorTime + 60000000000 * m
    ({ s with lcy := { s.lcy with usbUntil := some u } }.log 0 0x0908 (le 1 1 ++ le 7 0 ++ le 8 u), .ok (le 8 u))

def execCmdLcyUsbEnable (f : Frame) (s : State) : Host.Outcome State Fault Refusal := command 0x0904 lcyUsbEnable f s

/-- CMD_LCY_USB_DISABLE: a response to the USB session that it ends goes out first. -/
def lcyUsbDisable (q : Req) (s : State) : State × Reply :=
  if ! permitted .owner m5to8 q s then (s, .no St.notPermitted)
  else if q.payload ≠ [] then (s, .no St.badPayload)
  else if (s.endUsbTime.session q.sid).isSome then (s.endUsbTime, .ok [])
  else ((s.finalTo q.sid q.seq q.code St.ok [] false).endUsbTime, .ok [])

def execCmdLcyUsbDisable (f : Frame) (s : State) : Host.Outcome State Fault Refusal := command 0x0905 lcyUsbDisable f s

/-- USB_ENABLE_EXPIRY. -/
def usbEnableExpiry (s : State) : State := if s.lcy.usbUntil.any fun u => decide (u ≤ s.floorTime) then s.endUsbTime else s

def execUsbEnableExpiry (t : Nat) (s : State) : Host.Outcome State Fault Refusal := .next (usbEnableExpiry (s.advance t))

/-! ### Retirement (R399) -/

/-- Item 0x000F. -/
def State.itemRetirement (s : State) : Bytes :=
  item 0x000F (le 1 s.lcy.accepted.1 ++ le 1 (s.rd Obj.LCY_WIPE_FAIL.f) ++ le 2 0 ++ le 4 (s.rd Obj.EVR_OP_SECONDS.f) ++
    le 4 (s.rd Obj.EVR_POWER_CYCLES.f) ++ le 4 0 ++ le 8 s.lcy.accepted.2.1 ++ le 8 s.lcy.accepted.2.2)

def lcyRetireStatement (q : Req) (s : State) : State × Reply :=
  if ! permitted .owner [11] q s then (s, .no St.notPermitted)
  else if ! nonceOk q.payload 0 then (s, .no St.badPayload)
  else s.sign 3 (s.itemIdentity ++ s.itemChain ++ s.itemState ++ s.itemSecurity ++ s.itemTime ++ item 0x0009 (q.payload.drop 4) ++
    s.itemRetirement)

def execCmdLcyRetireStatement (f : Frame) (s : State) : Host.Outcome State Fault Refusal :=
  command 0x0906 lcyRetireStatement f s (cancellable := true) (rereads := true)

/-! ### Debug (R395 to R398) -/

/-- Where the unlock and its challenge are open (R396, R397). -/
def debugOpen (q : Req) (s : State) : Bool :=
  permitted .vendor [5, 8] q s && (s.lcy.state == 1 || s.lcy.state == 2 || s.lcy.state == 4)

def lcyDebugChallenge (q : Req) (s : State) : State × Reply :=
  if ! debugOpen q s then (s, .no St.notPermitted)
  else if q.payload ≠ [] then (s, .no St.badPayload)
  else
    let (n, s1) := s.draw
    ({ s1 with lcy := { s1.lcy with nonce := some (n % 2 ^ 256, s.floorTime) } }, .ok (le 32 n))

def execCmdLcyDebugChallenge (f : Frame) (s : State) : Host.Outcome State Fault Refusal := command 0x0907 lcyDebugChallenge f s

/-- CMD_LCY_DEBUG_UNLOCK: the token of Table 16-3. -/
def lcyDebugUnlock (q : Req) (s : State) : State × Reply :=
  let p := q.payload
  let scope := field p 6 1
  if ! debugOpen q s then (s, .no St.notPermitted)
  else if p.length ≠ 160 ∨ field p 0 4 ≠ 0x55445841 ∨ field p 4 2 ≠ 1 ∨ 31 < scope ∨ field p 0x38 8 ≠ 0 then (s, .no St.badPayload)
  else if ! s.present then (s, .no St.presenceRequired)
  else if s.lcy.loopIntact then (s, .no St.sealRequired)
  else if s.lcy.jumper then (s, .no St.configLocked)
  else if (p.drop 8).take 16 ≠ s.identity ∨ field p 7 1 ≠ s.lcy.state then (s, .no St.wrongDevice)
  else if ! Config.ecdsaVerify Config.serviceKey (sha384 (p.take 0x40)) (p.drop 0x40) then (s, .no St.badSignature)
  else if ! s.lcy.nonce.any (fun x => x.1 == field p 0x18 32 && decide (s.floorTime ≤ x.2 + 300000000000)) then (s, .check 0x0906)
  else if s.lcy.state = 2 ∧ ! s.tenants.isEmpty then (s, .check 0x0907)
  else
    let s1 := if s.lcy.state = 2 then s.closeOperations else s
    (({ s1 with lcy := { s1.lcy with nonce := none } }.wrs [(Obj.LCY_DEBUG.f, 2), (Obj.LCY_DEBUG_SCOPE.f, scope),
      (Obj.LCY_EVT_D2_GRANTED.f, 1)]).log 0 0x0907 (le 1 scope), .ok (le 1 scope ++ le 3 0))

def execCmdLcyDebugUnlock (f : Frame) (s : State) : Host.Outcome State Fault Refusal := command 0x0908 lcyDebugUnlock f s

/-- One compartment's D1 changes. Cleared in HOLDING or HOLD, the compartment resumes, and a step ends CANCELLED; the hold
of M9 stays until its release. -/
def State.d1Change (s : State) (c : Nat) (on : Bool) : State :=
  let st := s.rd (Obj.SCE_STATE.b c)
  let s1 := if ! on && (st == 3 || st == 4) then
      let u := s.endStep c
      if u.mode = 9 then u.putProg c { u.prog c with ownHold := false } else u.resumeProg c (u.floorTime + 1000000)
    else s
  s1.logAll (if c = 0 then [0] else [0, c]) 0x0906 (le 1 c ++ le 1 (b2n on))

/-- A write of LCY_D1_EN, in PROVISIONED and OPERATIONAL; elsewhere it is ignored (R395). -/
def State.writeD1 (s : State) (v : Nat) : State :=
  if s.lcy.state ≠ 2 ∧ s.lcy.state ≠ 3 then s
  else
    let old := s.rd Obj.LCY_D1_EN.f
    let s1 := s.wr Obj.LCY_D1_EN.f v
    let s2 := if s1.d2 then s1 else s1.wr Obj.LCY_DEBUG.f (b2n (s1.rd Obj.LCY_D1_EN.f != 0))
    ((List.range 34).filter fun c => bit old c != bit v c).foldl (fun t c => t.d1Change c (bit v c)) s2

/-- LCY_D1_EN_WRITE: a write from C00. -/
def execLcyD1EnWrite (who : Requester) (value : BitVec 34) (t : Nat) (s : State) : Host.Outcome State Fault Refusal :=
  .next (if s.live who && (s.advance t).compOf who == 0 then (s.advance t).writeD1 value.toNat else s.advance t)

/-- DEBUG_PROBE_FIT: each fitting is recorded in the C00 log; the trigger's low byte is unstated. -/
def debugProbeFit (s : State) : State :=
  let (n, s1) := { s with lcy := { s.lcy with probe := true } }.draw
  s1.logOrDefer 0 (0x0900 + n % 256) []

def execDebugProbeFit (t : Nat) (s : State) : Host.Outcome State Fault Refusal := .next (debugProbeFit (s.advance t))

/-- DEBUG_SYSRST: under D2 a reset as a C00 request makes it, commit stages included (R29). -/
def debugSysrst (s : State) : State :=
  if s.d2 && decide (4 ≤ s.mode ∧ s.mode ≤ 9) && s.power.transition.isNone then s.beginTransition 3 else s

def execDebugSysrst (t : Nat) (s : State) : Host.Outcome State Fault Refusal := .next (debugSysrst (s.advance t))

/-- DEBUG_HALT: under D2 the units in scope halt, or go on. -/
def debugHalt (halt : Bool) (s : State) : State :=
  if s.d2 then { s with lcy := { s.lcy with halted := if halt then s.rd Obj.LCY_DEBUG_SCOPE.f else 0 } } else s

def execDebugHalt (halt : Bool) (t : Nat) (s : State) : Host.Outcome State Fault Refusal := .next (debugHalt halt (s.advance t))

/-- BACKUP_DOMAIN_DIP: below 1.6 V the canary pair takes its reset values (R46). -/
def backupDomainDip (s : State) : State := { s with power := { s.power with canaryA := false, canaryB := true } }

def execBackupDomainDip (t : Nat) (s : State) : Host.Outcome State Fault Refusal := .next (backupDomainDip (s.advance t))

end Sys2Proof.Machine
end

