-- ==== Sys2Proof/Machine/ModeReq.lean ====
section
/-!
DEFINITION. Judging a write of IDENT_MODE_REQ (spec/02 R28, R53; spec/04 R96; spec/16 R398, R399).
-/
namespace Sys2Proof.Machine

/-- The modes a life-cycle state permits besides M0, M1, M3 and M10 (Table 16-4). -/
def lcyModes (state : Nat) : List Nat :=
  if state = 0 then [4] else if state = 1 then [4, 5, 6, 7, 8] else if state = 2 ∨ state = 3 then [2, 4, 5, 6, 7, 8, 9]
  else if state = 4 then [4, 5, 8] else [11]

/-- Whether a C00 request for mode `m` is a row of Table 2-2. -/
def modeRow (now m : Nat) : Bool :=
  (m == 3 && decide (5 ≤ now ∧ now ≤ 9)) || (now == 5 && m == 6) || (now == 6 && (m == 5 || m == 2 || m == 8 || m == 1)) ||
  (now == 7 && (m == 8 || m == 1)) || (now == 2 && m == 1) || (m == 9 && decide (6 ≤ now ∧ now ≤ 8)) || (now == 8 && m == 6)

/-- Why a C00 request for a mode, or a release, is refused: status and detail code, none where it is granted. -/
def State.modeRefusal (s : State) (m : Nat) (release : Bool) : Option (Nat × Nat) :=
  if s.power.transition.isSome then some (St.busy, 0)
  else if release then (if s.mode = 9 then none else some (St.checkFailed, 0x0210))
  else if m = 9 ∧ modeRow s.mode m ∧ ! s.present then some (St.presenceRequired, 0)
  else if ! (lcyModes s.lcy.state).contains m ∧ ! [0, 1, 3, 10].contains m then some (St.checkFailed, 0x0909)
  else if s.d2 ∧ [2, 6, 7, 9].contains m then some (St.checkFailed, 0x0905)
  else if ! modeRow s.mode m then some (St.checkFailed, 0x0210)
  else none

/-- The mode a release of M9 leads to (R53). -/
def State.releaseMode (s : State) : Nat :=
  let f := s.power.m9Fails
  if (bit f 0 || bit f 1 || bit f 16 || bit f 17) && s.severe then 8
  else if [0, 1, 2, 3, 4, 5, 6, 7, 8, 9, 10, 14, 15].any (bit f ·) then 7
  else s.power.m9From

/-- Begin what a granted request asks for. -/
def State.modeBegin (s : State) (m : Nat) (cold release : Bool) : State :=
  if release then s.beginTransition s.releaseMode
  else if m = 6 then s.beginTransition s.serviceMode (cold && s.mode == 8)
  else s.beginTransition m

/-- A write of IDENT_MODE_REQ by a requester. -/
def State.modeWrite (s : State) (who : Requester) (m : Nat) (cold release : Bool) : State :=
  if s.live who && s.compOf who == 0 && (s.modeRefusal m release).isNone then s.modeBegin m cold release else s

/-- MODE_REQUEST. -/
def execModeRequest (who : Requester) (mode : BitVec 4) (cold : Bool) (s : State) : Host.Outcome State Fault Refusal :=
  .next (s.modeWrite who mode.toNat cold false)

/-- MODE_RELEASE. -/
def execModeRelease (who : Requester) (s : State) : Host.Outcome State Fault Refusal := .next (s.modeWrite who 0 false true)

end Sys2Proof.Machine
end

