-- ==== Sys2Proof/Machine/Pmon.lean ====
section
/-!
DEFINITION. The performance monitor (spec/19): freeze, periodic dump, precise sampling, and their commands. What is
counted and when an op is sampled is in Perf.lean.
-/
namespace Sys2Proof.Machine

/-- The programmable counters in the order of Table 19-3. -/
def pmonOrder : List (Nat × Nat) := (List.range 18).flatMap fun u => (List.range (pmonCounters u)).map fun k => (u, k)

/-- Whether a requester writes the block: C00 and C01 do (R449). A write while PMON has failed changes nothing. -/
def State.pmonWriter (s : State) (who : Requester) : Bool := s.live who && decide (s.compOf who < 2) && ! s.failed 11

/-! ### RUN and freeze (R440 to R442) -/

/-- Set RUN. The free part of each count that the model does not make ends or begins here. -/
def State.pmonSetRun (s : State) (on : Bool) : State := s.wr Obj.PMON_CTRL_RUN.f (b2n on)

/-- PMON_RUN. -/
def execPmonRun (who : Requester) (on : Bool) (t : Nat) (s : State) : Host.Outcome State Fault Refusal :=
  let u := s.advance t
  .next (if u.pmonWriter who then u.pmonSetRun on else u)

/-- Whether a freeze can be made: at most four units are enabled (R441). -/
def State.mayFreeze (s : State) : Bool := decide (s.pmonUnits ≤ 4)

/-- Copy every counter (R441). -/
def State.freeze (s : State) : State :=
  let s1 := (List.range 18).foldl (fun t u => t.wr (Obj.PMON_CYC_SNAP.i u) (s.pmonCyc u)) s
  let s2 := pmonOrder.foldl (fun t x => t.wrs [(Obj.PMON_CNT_SNAP.ij x.1 x.2, (s.perfNow x.1 x.2).value),
    (Obj.PMON_CNT_SNAP_WRAPS.ij x.1 x.2, (s.perfNow x.1 x.2).wraps)]) s1
  let s3 := (s2.wr Obj.PMON_FREEZE_TIME.f s.floorTime).inc Obj.PMON_FREEZE_SEQ.f
  { s3 with pmon := { s3.pmon with lastFreeze := some s.floorTime } }

/-- PMON_FREEZE: a write of 1 to FREEZE; with five or more units enabled nothing is copied. -/
def execPmonFreeze (who : Requester) (t : Nat) (s : State) : Host.Outcome State Fault Refusal :=
  let u := s.advance t
  .next (if u.pmonWriter who && u.mayFreeze then u.freeze else u)

/-- The armed instant has come (R442): a freeze, or a dropped one. -/
def State.armedFreeze (s : State) : State :=
  if s.on Obj.PMON_STATUS_ARMED.f && decide (s.rd Obj.PMON_FREEZE_AT.f ≤ s.floorTime) && ! s.failed 11 then
    let s1 := s.wr Obj.PMON_STATUS_ARMED.f 0
    if s1.mayFreeze then s1.freeze else (s1.set1 Obj.PMON_EVT_FREEZE_DROP.f).logAll [0, 1] 0x0C01 []
  else s

/-- PMON_ARMED_FREEZE. -/
def execPmonArmedFreeze (t : Nat) (s : State) : Host.Outcome State Fault Refusal := .next (s.advance t).armedFreeze

/-- Arm a freeze at PMON_FREEZE_AT, at once if it has passed. -/
def State.pmonSetArm (s : State) : State := (s.wr Obj.PMON_STATUS_ARMED.f 1).armedFreeze

/-- PMON_ARM. -/
def execPmonArm (who : Requester) (t : Nat) (s : State) : Host.Outcome State Fault Refusal :=
  let u := s.advance t
  .next (if u.pmonWriter who then u.pmonSetArm else u)

/-! ### Periodic dump (R443 to R445) -/

/-- A dump record (Table 19-3) from counters `cyc` and `cnt`, without its two sequence copies. -/
def dumpBody (run frozen : Bool) (time span : Nat) (cyc : Nat → Nat) (cnt : Nat × Nat → PerfCnt) : Bytes :=
  le 4 (b2n run + 2 * b2n frozen) ++ le 8 time ++ le 4 span ++ le 4 0 ++ (List.range 18).flatMap (fun u => le 8 (cyc u)) ++
  pmonOrder.flatMap (fun x => le 4 (cnt x).value) ++ pmonOrder.flatMap (fun x => le 1 (cnt x).wraps) ++ List.replicate 20 0

/-- The record of the last freeze. -/
def State.frozenBody (s : State) : Bytes :=
  dumpBody (s.on Obj.PMON_CTRL_RUN.f) true (s.rd Obj.PMON_FREEZE_TIME.f) 0 (fun u => s.rd (Obj.PMON_CYC_SNAP.i u))
    fun x => { value := s.rd (Obj.PMON_CNT_SNAP.ij x.1 x.2), wraps := s.rd (Obj.PMON_CNT_SNAP_WRAPS.ij x.1 x.2) }

/-- Empty the dump ring and take its size. -/
def State.emptyDump (s : State) : State :=
  { s with pmon := { s.pmon with dump := [], dumpCap := 2048 * s.rd Obj.PMON_DUMP_SIZE.f } }.wrs
    [(Obj.PMON_DUMP_NEWEST.f, 0), (Obj.PMON_DUMP_OLDEST.f, 0)]

/-- Set DUMP_EN; one that newly enables dumps empties the ring. -/
def State.pmonSetDump (s : State) (on : Bool) : State :=
  let s1 := if on && ! s.on Obj.PMON_CTRL_DUMP_EN.f then s.emptyDump else s
  s1.wr Obj.PMON_CTRL_DUMP_EN.f (b2n on)

/-- PMON_DUMP_EN; refused while DRAM has failed. -/
def execPmonDumpEn (who : Requester) (on : Bool) (t : Nat) (s : State) : Host.Outcome State Fault Refusal :=
  let u := s.advance t
  .next (if u.pmonWriter who && ! (on && u.failed 14) then u.pmonSetDump on else u)

/-- Add a record to the ring: SEQ goes on, the newest record overwrites the oldest. -/
def State.putDump (s : State) (body : Bytes) : State :=
  let q := nextSeq s.pmon.dumpSeq
  let l := s.pmon.dump ++ [(q, le 4 q ++ body ++ le 4 q)]
  let ring := l.drop (l.length - s.pmon.dumpCap)
  { s with pmon := { s.pmon with dump := ring, dumpSeq := q } }.wrs
    [(Obj.PMON_DUMP_NEWEST.f, q), (Obj.PMON_DUMP_OLDEST.f, (ring.head?.map fun r : Nat × Bytes => r.1).getD q)]

/-- PMON_DUMP: a dump instant. A freeze at the same edge gives its values (R451); the span is free up to 2 µs. -/
def pmonDump (s : State) : State :=
  if s.on Obj.PMON_CTRL_DUMP_EN.f && s.floorTime % (100000 * s.rd Obj.PMON_DUMP_INTERVAL.f) == 0 && ! s.failed 11 && ! s.failed 14 then
    if s.pmon.lastFreeze = some s.floorTime then s.putDump s.frozenBody
    else
      let (n, s1) := s.draw
      s1.putDump (dumpBody (s.on Obj.PMON_CTRL_RUN.f) false s.floorTime (n % 2001) s.pmonCyc fun x => s.perfNow x.1 x.2)
  else s

def execPmonDump (t : Nat) (s : State) : Host.Outcome State Fault Refusal := .next (pmonDump (s.advance t))

/-! ### Precise sampling (R446 to R448) -/

/-- Set SAMP_EN; one that newly enables sampling loads the LFSR and both countdowns. -/
def State.pmonSetSamp (s : State) (on : Bool) : State :=
  let s1 := if on && ! s.on Obj.PMON_CTRL_SAMP_EN.f then
      (State.reload { s with pmon := { s.pmon with lfsr := s.rd Obj.PMON_SAMP_SEED.f } } 0).reload 1 else s
  s1.wr Obj.PMON_CTRL_SAMP_EN.f (b2n on)

/-- PMON_SAMP_EN. -/
def execPmonSampEn (who : Requester) (on : Bool) (t : Nat) (s : State) : Host.Outcome State Fault Refusal :=
  let u := s.advance t
  .next (if u.pmonWriter who then u.pmonSetSamp on else u)

/-- Keep the sample records and what the registers show of them. -/
def State.putSamples (s : State) (l : List (Nat × Bytes)) : State :=
  { s with pmon := { s.pmon with samp := l } }.wrs [(Obj.PMON_SAMP_NEWEST.f, (l.getLast?.map fun r : Nat × Bytes => r.1).getD 0),
    (Obj.PMON_SAMP_OLDEST.f, (l.head?.map fun r : Nat × Bytes => r.1).getD 0), (Obj.PMON_SAMP_HELD.f, l.length)]

/-- A sample record (Table 19-4); its stall cause and latency are free. -/
def Sampled.bytes (x : Sampled) (seq stall latency time : Nat) : Bytes :=
  le 4 seq ++ le 4 (x.pc % 2 ^ 22 + 2 ^ 22 * (x.engine % 2) + 2 ^ 23 * (x.entry % 16)) ++ le 4 x.op ++
  le 4 (x.comp % 256 + 256 * stall + 65536 * (x.inst % 2 ^ 14)) ++ le 4 latency ++ le 4 0 ++ le 8 time

/-- PMON_SAMPLE: the sampled op of an engine goes to the buffer; a full one without WRAP stops the sampler. -/
def pmonSample (e : Nat) (s : State) : State :=
  match s.pmon.sampled.find? fun x => x.engine == e with
  | none => s
  | some x =>
    let s1 := { s with pmon := { s.pmon with sampled := s.pmon.sampled.erase x } }
    if s1.on Obj.PMON_STATUS_SAMP_STOPPED.f || s1.failed 11 then s1
    else
      let (a, s2) := s1.draw
      let (b, s3) := s2.draw
      let q := nextSeq s3.pmon.sampSeq
      let l := s3.pmon.samp ++ [(q, x.bytes q (a % 8) (b % 65536) s.floorTime)]
      let s4 := State.putSamples { s3 with pmon := { s3.pmon with sampSeq := q } } (l.drop (l.length - 2048))
      if l.length ≥ 2048 ∧ ! s4.on Obj.PMON_SAMP_WRAP.f then
        ((s4.set1 Obj.PMON_STATUS_SAMP_STOPPED.f).set1 Obj.PMON_EVT_SAMP_FULL.f).logAll [0, 1] 0x0C02 []
      else s4

def execPmonSample (e : Fin 2) (t : Nat) (s : State) : Host.Outcome State Fault Refusal :=
  .next (pmonSample e.val (s.advance t))

/-! ### Commands (Table 19-5) -/

/-- CMD_DIAG_PMON_FREEZE; the SEQ of the record it returns is not stated and free. -/
def cmdPmonFreeze (q : Req) (s : State) : State × Reply :=
  if ! permitted .ownerAndC01 m4to9 q s then (s, .no St.notPermitted)
  else if q.payload ≠ [] then (s, .no St.badPayload)
  else if s.failed 11 then (s, .no St.unitFailed)
  else if ! s.mayFreeze then (s, .check 0x0C01)
  else
    let (n, s1) := s.freeze.draw
    (s1, .ok (le 4 n ++ s1.frozenBody ++ le 4 n))

def execCmdDiagPmonFreeze (f : Frame) (s : State) : Host.Outcome State Fault Refusal :=
  command 0x0C01 cmdPmonFreeze f s (removes := true)

/-- The records from a sequence on. -/
def fromSeq (l : List (Nat × Bytes)) (first : Nat) : List (Nat × Bytes) := l.filter fun r => ! seqAfter first r.1

/-- Whether a first sequence lies below the oldest one held. -/
def belowOldest (l : List (Nat × Bytes)) (first : Nat) : Bool := l.head?.any fun r => seqAfter r.1 first

def recordsReply (l : List Bytes) : Reply := .ok (le 2 l.length ++ le 2 0 ++ l.flatMap id)

def cmdPmonDumpRead (q : Req) (s : State) : State × Reply :=
  let first := field q.payload 0 4
  let count := field q.payload 4 2
  if ! permitted .ownerAndC01 m4to9 q s then (s, .no St.notPermitted)
  else if q.payload.length ≠ 8 ∨ count = 0 ∨ 159 < count then (s, .no St.badPayload)
  else if s.failed 11 then (s, .no St.unitFailed)
  else if belowOldest s.pmon.dump first then (s, .no St.overwritten)
  else (s, recordsReply (((fromSeq s.pmon.dump first).take count).map (·.2)))

def execCmdDiagPmonDumpRead (f : Frame) (s : State) : Host.Outcome State Fault Refusal :=
  command 0x0C02 cmdPmonDumpRead f s (cancellable := true) (rereads := true)

/-- A sample record as C00 and C01 see it: PC, OP and INST of a tenant's op read 0 (R449). -/
def redact (b : Bytes) : Bytes :=
  if field b 12 1 < 2 then b
  else b.take 4 ++ le 4 (field b 4 4 / 2 ^ 22 * 2 ^ 22) ++ le 4 0 ++ le 4 (field b 12 2) ++ b.drop 16

/-- Whether a compartment reaches the sample records now: C00 and C01, or the tenant the sampler watches alone. -/
def State.samplesOf (s : State) (c : Nat) : Bool :=
  decide (c < 2) || (s.on Obj.PMON_SAMP_FILTER_EN.f && s.rd Obj.PMON_SAMP_COMP.f == c)

def cmdPmonSampleRead (q : Req) (s : State) : State × Reply :=
  let first := field q.payload 0 4
  let count := field q.payload 4 2
  let flags := field q.payload 6 1
  if ! permitted .all m4to9 q s || (decide (2 ≤ q.comp) && ! bit (s.rd Obj.PERF_USER_EN.f) q.comp) then (s, .no St.notPermitted)
  else if q.payload.length ≠ 8 ∨ count = 0 ∨ 2048 < count ∨ 1 < flags then (s, .no St.badPayload)
  else if ! s.samplesOf q.comp then (s, .no St.noObject)
  else if s.failed 11 then (s, .no St.unitFailed)
  else if belowOldest s.pmon.samp first then (s, .no St.overwritten)
  else
    let got := ((fromSeq s.pmon.samp first).filter fun r => decide (q.comp < 2) || field r.2 12 1 == q.comp).take count
    let reply := recordsReply (got.map fun r => if q.comp < 2 then redact r.2 else r.2)
    if flags = 1 ∧ got ≠ [] then
      let s1 := s.putSamples (s.pmon.samp.filter fun r => ! got.contains r)
      (if s1.on Obj.PMON_STATUS_SAMP_STOPPED.f then ((s1.wr Obj.PMON_STATUS_SAMP_STOPPED.f 0).reload 0).reload 1 else s1, reply)
    else (s, reply)

def execCmdDiagPmonSampleRead (f : Frame) (s : State) : Host.Outcome State Fault Refusal :=
  command 0x0C03 cmdPmonSampleRead f s (cancellable := true) (removes := field f.payload 6 1 == 1)
    (rereads := field f.payload 6 1 != 1)

end Sys2Proof.Machine
end

