-- ==== Sys2Proof/Machine/Objects.lean ====
section
/-!
DEFINITION. Reading and writing the object space (spec/00 R4 to R7, spec/04 R86 to R95, R99): by host commands, by single
register accesses, and by tempo code (the op itself is in TempoSys.lean).
-/
namespace Sys2Proof.Machine

/-! ### Reading -/

/-- The status a read of the word at `a` deserves (R76, R88, R144, R357). -/
def State.wordStatus (s : State) (c a : Nat) : Nat :=
  if a % 4 ≠ 0 then St.badAccess
  else if 0x1C0000 ≤ a ∧ a < 0x200000 ∧ ! s.d1 c then St.notPermitted
  else if s.sight c a = .hidden then St.noObject
  else if 0x31000 ≤ a ∧ a < 0x31100 then
    if s.failed 10 then St.unitFailed else if (s.recWord c ((a - 0x31000) / 4)).isNone then St.overwritten else St.ok
  else if (s.wordAt c a).isNone then St.noObject
  else St.ok

/-- The place of a status in the order of checks (Table 3-7). -/
def checkOrder (st : Nat) : Nat :=
  if st = St.notPermitted then 7 else if st = St.badAccess then 9 else if st = St.noObject then 10 else if st = St.ok then 100 else 12

/-- The status of a list of words: of the first check that fails. -/
def State.wordsStatus (s : State) (c : Nat) (l : List Nat) : Nat :=
  l.foldl (fun st a => let x := s.wordStatus c a; if checkOrder x < checkOrder st then x else st) St.ok

/-- Whether the word is the low or the high word of a 64-bit object (R4). -/
def lowHalf (a : Nat) : Bool := (Obj.parts a).any fun p => p.below == 0 && decide (32 < p.row.lo + p.row.width)
def highHalf (a : Nat) : Bool := (Obj.parts a).any fun p => p.below != 0

/-- The words of the RTC group (R332). -/
def rtcWords : List Nat := (List.range 10).map fun i => 0x20000 + 4 * i

def inRtc (a : Nat) : Bool := decide (0x20000 ≤ a ∧ a ≤ 0x20024)

/-- The requester's captured half of the high word at `a`. -/
def State.captureOf (s : State) (who : Requester) (a : Nat) : Option Nat :=
  (s.captures.find? fun x => x.1 == who && x.2.1 == a).map fun x => x.2.2

def State.dropCapture (s : State) (who : Requester) : State := { s with captures := s.captures.filter fun x => x.1 != who }

/-- One word of a request that reads `l` (R4, R332). A request that takes both halves takes them live; a group read
leaves no capture. -/
def State.readOne (who : Requester) (c : Nat) (group : Bool) (l : List Nat) (s : State) (a : Nat) : Nat × State :=
  let live := (s.wordAt c a).getD 0
  if inRtc a then (if rtcWords.all l.contains then (live, s) else s.readRtc who (a - 0x20000))
  else if highHalf a ∧ ! group ∧ ! l.contains (a - 4) then
    match s.captureOf who a with
    | some v => (v, s.dropCapture who)
    | none => (live, s)
  else if lowHalf a then
    let s1 := s.dropCapture who
    if group ∨ l.contains (a + 4) then (live, s1)
    else (live, { s1 with captures := s1.captures ++ [(who, a + 4, (s.wordAt c (a + 4)).getD 0)] })
  else (live, s)

/-- The words of a request in order. -/
def State.readAll (who : Requester) (c : Nat) (group : Bool) (l : List Nat) : State → List Nat → List Nat × State
  | s, [] => ([], s)
  | s, a :: r =>
    let (v, s1) := s.readOne who c group l a
    let (vs, s2) := State.readAll who c group l s1 r
    (v :: vs, s2)

/-- Clear the RC fields of the words that a completed read returned; `sets` are the bits set in the same cycle (R7, R11). -/
def State.clearRead (s : State) (c : Nat) (l : List Nat) (sets : Nat) : State :=
  l.foldl (fun t a => ((Obj.parts a).filter fun p => p.row.acc == .rc).foldl
    (fun u p => u.clearByRead (p.row.at c p.idx) (p.taken sets)) t) s

/-- A read of words that has passed its checks (R4, R7, R93). -/
def State.readWords (s : State) (who : Requester) (c : Nat) (group : Bool) (l : List Nat) : List Nat × State :=
  let s0 := if rtcWords.all l.contains then s.dropShadow who else s
  let (vs, s1) := State.readAll who c group l s0 l
  (vs, s1.clearRead c l 0)

def wordsBytes (l : List Nat) : Bytes := l.flatMap (le 4)

/-- The words of an entry. -/
def entryWords (a n : Nat) : List Nat := (List.range n).map fun i => a + 4 * i

/-- What a read command answers for its entries of address and count. -/
def State.readEntries (q : Req) (s : State) (group : Bool) (l : List (Nat × Nat)) : State × Reply :=
  let ws := l.flatMap fun e => entryWords e.1 e.2
  let st := s.wordsStatus q.comp ws
  if st = St.notPermitted then (s, .no st)
  else if l.any fun e => e.1 % 4 != 0 || e.2 == 0 then (s, .no St.badAccess)
  else if st ≠ St.ok then (s, .no st)
  else
    let (vs, s1) := s.readWords (.session q.sid) q.comp group ws
    (s1, .ok (wordsBytes vs))

/-- CMD_OBJ_READ. -/
def objRead (q : Req) (s : State) : State × Reply :=
  if ! permitted .all m5to9 q s then (s, .no St.notPermitted)
  else if q.payload.length ≠ 8 ∨ 4090 < field q.payload 4 2 then (s, .no St.badPayload)
  else s.readEntries q false [(field q.payload 0 4, field q.payload 4 2)]

def execCmdObjRead (f : Frame) (s : State) : Host.Outcome State Fault Refusal :=
  command 0x0201 objRead f s (cancellable := true) (rereads := true)

/-- CMD_OBJ_GROUP_READ (R92, R93). -/
def objGroupRead (q : Req) (s : State) : State × Reply :=
  let n := field q.payload 0 2
  let l := (List.range n).map fun i => (field q.payload (4 + 8 * i) 4, field q.payload (8 + 8 * i) 2)
  if ! permitted .all m5to9 q s then (s, .no St.notPermitted)
  else if n = 0 ∨ 256 < n ∨ q.payload.length ≠ 4 + 8 * n ∨ 20450 < (l.map (·.2)).foldl (· + ·) 0 then (s, .no St.badPayload)
  else s.readEntries q true l

def execCmdObjGroupRead (f : Frame) (s : State) : Host.Outcome State Fault Refusal :=
  command 0x0203 objGroupRead f s (cancellable := true) (rereads := true)

/-- The word of a staging, where one is staged, else in force; and whether any field of it is staged (R99). -/
def State.stagedWord (s : State) (c a : Nat) : Nat × Bool :=
  let g := (s.staging c).cells
  let ps := Obj.parts a
  let staged (p : Obj.Part) : Option Nat := stagedValue g (p.row.at c p.idx)
  if ps.any fun p => (staged p).isSome then
    (ps.foldl (fun w p => w + p.place ((staged p).getD (s.readVal c p.row p.idx))) 0, true)
  else ((s.wordAt c a).getD 0, false)

/-- A bitmap, bit n of byte n / 8. -/
def bitmap : List Bool → Bytes
  | a :: b :: c :: d :: e :: f :: g :: h :: r =>
    le 1 (b2n a + 2 * b2n b + 4 * b2n c + 8 * b2n d + 16 * b2n e + 32 * b2n f + 64 * b2n g + 128 * b2n h) ++ bitmap r
  | [] => []
  | a :: r => le 1 (b2n a + 2 * ((r.zip (List.range r.length)).foldl (fun n p => n + b2n p.1 * 2 ^ p.2) 0))

/-- CMD_CAST_STAGED_READ (R99). A staged read freezes, captures and clears nothing. -/
def stagedRead (q : Req) (s : State) : State × Reply :=
  let a := field q.payload 0 4
  let n := field q.payload 4 2
  if ! permitted .all m5to9 q s then (s, .no St.notPermitted)
  else if q.payload.length ≠ 8 ∨ 4090 < n then (s, .no St.badPayload)
  else
    let st := s.wordsStatus q.comp (entryWords a n)
    if st = St.notPermitted then (s, .no st)
    else if a % 4 ≠ 0 ∨ n = 0 then (s, .no St.badAccess)
    else if st ≠ St.ok then (s, .no st)
    else
      let l := (entryWords a n).map (s.stagedWord q.comp)
      (s, .ok (wordsBytes (l.map (·.1)) ++ bitmap (l.map (·.2))))

def execCastStagedRead (f : Frame) (s : State) : Host.Outcome State Fault Refusal :=
  command 0x0301 stagedRead f s (cancellable := true) (rereads := true)

/-! ### What a write reaches -/

/-- Whether a compartment may stage the WS fields of a word it sees (Table 4-4, R455). -/
def canStage (c a : Nat) : Bool := ! decide (0x50000 ≤ a ∧ a < 0x60000) && (c == 0 || ! decide (0x400000 ≤ a ∧ a < 0x800000))

/-- The parts of a word that a write by `c` changes or stages (R6). -/
def State.writable (s : State) (c a : Nat) : List Obj.Part :=
  if s.sight c a = .full then (Obj.parts a).filter fun p => match p.row.acc with
    | .rw | .wo | .w1c => true
    | .ws => canStage c a
    | _ => false
  else []

/-- One field that a request writes: its row, its instance, its place, and its new value (for W1C the ones written). -/
structure FldWrite where
  row : Row
  idx : List Nat
  fld : Fld
  value : Nat
  deriving DecidableEq, Repr

/-- The value a field has before a request writes it. -/
def State.beforeWrite (s : State) (c : Nat) (p : Obj.Part) : Nat :=
  let f := p.row.at c p.idx
  if p.row.acc = .w1c ∨ p.row.acc = .wo then 0
  else if p.row.acc = .ws then (stagedValue (s.staging c).cells f).getD (s.rd f)
  else s.fieldVal c p.row p.idx

/-- Add the parts of one word to the fields written. -/
def State.collect (s : State) (c : Nat) (l : List FldWrite) (aw : Nat × Nat) : List FldWrite :=
  (s.writable c aw.1).foldl (fun k p =>
    let f := p.row.at c p.idx
    match k.find? fun x => x.fld.key == f.key with
    | some x => k.map fun y => if y.fld.key = f.key then { x with value := p.merge x.value aw.2 } else y
    | none => k ++ [{ row := p.row, idx := p.idx, fld := f, value := p.merge (s.beforeWrite c p) aw.2 }]) l

/-- The fields that words written in order change. -/
def State.fieldsOf (s : State) (c : Nat) (ws : List (Nat × Nat)) : List FldWrite := ws.foldl (s.collect c) []

def FldWrite.staged (x : FldWrite) : Bool := x.row.acc == .ws

/-! ### Values refused (R94, R95 and the field's own rule) -/

/-- The events of a PMON unit, and those attributable (Table 19-2). -/
def pmonEvents (u : Nat) : Nat := if u = 0 then 8 else if u ≤ 4 then 6 else if u ≤ 6 then 16 else if u = 7 then 6 else if u = 9 then 10 else if u = 11 then 9 else 8
def pmonAttributable (u ev : Nat) : Bool :=
  if u = 0 then [0, 1, 2, 3, 4, 5, 7].contains ev
  else if u ≤ 4 then [2, 3, 4].contains ev
  else if u ≤ 6 then ev != 0x0E
  else if u = 7 then [1, 2, 4, 5].contains ev
  else if u = 9 then [0, 1, 2, 3, 7, 8].contains ev
  else if u = 11 then [0, 1, 2, 3, 5, 8].contains ev
  else [0, 1, 2, 3, 4, 5, 6].contains ev

/-- The value that a list of writes gives a field, else the one in force. -/
def valueIn (l : List FldWrite) (s : State) (f : Fld) : Nat :=
  match l.find? fun x => x.fld.key == f.key with
  | some x => x.value
  | none => s.rd f

/-- Whether a field's own rule refuses the value with BAD_VALUE: its range, a capture that runs (R211), a PMON event
(R437), a client key slot (Table 15-10). -/
def State.valueBad (s : State) (c : Nat) (l : List FldWrite) (x : FldWrite) : Bool :=
  ! x.row.rng.ok x.row.width x.value ||
  (x.row.base == 0x450004 && x.row.lo == 0 && x.value == 1 && s.calBusy) ||
  (x.row.base == 0x41000 && (
    let u := x.idx.getD 0 0
    let k := x.idx.getD 1 0
    let ev := valueIn l s (Obj.PMON_CNT_SEL.ij u k)
    decide (pmonEvents u ≤ ev) || (valueIn l s (Obj.PMON_CNT_FILTER_EN.ij u k) == 1 && ! pmonAttributable u ev))) ||
  (x.row.base == 0x71014 && ! (s.rd (Obj.KSE_SLOT_OWNER.i x.value) == c && s.rd (Obj.KSE_SLOT_KTYPE.i x.value) == 3 &&
    s.rd (Obj.KSE_SLOT_USAGE.i x.value) == 0 && s.rd (Obj.KSE_SLOT_STATE.i x.value) != 0))

/-- Whether a word is PIMG_SET of a point whose write is refused as READ_ONLY (R145). -/
def State.setReadOnly (s : State) (a : Nat) : Bool :=
  decide (0x220000 ≤ a ∧ a < 0x230000) && s.setRefused ((a - 0x220000) / 8)

/-! ### Writing -/

/-- The point writes among the fields, half by half (R145). -/
def pointWrites (ws : List (Nat × Nat)) : List PtWrite :=
  (ws.filter fun w => decide (0x220000 ≤ w.1 ∧ w.1 < 0x230000)).map fun w =>
    { point := (w.1 - 0x220000) / 8, lo := if w.1 % 8 = 0 then some w.2 else none, hi := if w.1 % 8 = 4 then some w.2 else none }

/-- Add a point write to a list: a later write of a half replaces an earlier one (R145). -/
def joinPt (l : List PtWrite) (w : PtWrite) : List PtWrite :=
  if l.any fun x => x.point == w.point then
    l.map fun x => if x.point = w.point then { x with lo := w.lo.orElse fun _ => x.lo, hi := w.hi.orElse fun _ => x.hi } else x
  else l ++ [w]

/-- Set an RW field, with the effect its chapter gives. -/
def State.setField (s : State) (x : FldWrite) : State :=
  if x.row.base = 0x40000 then
    if x.row.lo = 0 then s.pmonSetRun (x.value == 1) else if x.row.lo = 3 then s.pmonSetDump (x.value == 1) else s.pmonSetSamp (x.value == 1)
  else if x.row.base = 0x41004 then
    let k := 8 * x.idx.getD 0 0 + x.idx.getD 1 0
    { s with pmon := { s.pmon with cnts := s.pmon.cnts.put k { s.pmon.cnts.get {} k with value := x.value } } }
  else if x.row.base = 0x80008 then s.writeD1 x.value
  else s.wr x.fld x.value

/-- Clear flags by ones (R5, R11); OVF of a counter is kept with its count. -/
def State.clearField (s : State) (x : FldWrite) (sets : Nat) : State :=
  if x.row.base = 0x4100C then
    let k := 8 * x.idx.getD 0 0 + x.idx.getD 1 0
    let n := s.pmon.cnts.get {} k
    let s1 : State := { s with pmon := { s.pmon with cnts := s.pmon.cnts.put k { n with ovf := (n.ovf && x.value == 0) || sets == 1 } } }
    if x.value = 1 ∧ sets = 1 then s1.incSat (Obj.PMON_CNT_SETCNT.ij (x.idx.getD 0 0) (x.idx.getD 1 0)) else s1
  else s.clearFlags x.row x.idx x.fld x.value sets

/-- Whether a write-only field of a list is written with a value other than 0. -/
def wroteOne (l : List FldWrite) (r : Row) : Bool := l.any fun x => x.row == r && x.value != 0

/-- The action of a WO field. IDENT_MODE_REQ, UPD_SEALED_MOVE and PIMG_SET are handled as wholes. -/
def State.act (s : State) (x : FldWrite) : State :=
  let i := x.idx.getD 0 0
  let j := x.idx.getD 1 0
  if x.value = 0 then s
  else if x.row.base = 0x40000 then (if x.row.lo = 1 then s.freeze else s.pmonSetArm)
  else if x.row.base = 0x20100 then s.correlate
  else if x.row.base = 0x450004 then (if x.row.lo = 0 then s.calStart else s.abortCal 1)
  else if x.row.base = 0x450108 then s.waveStart
  else if x.row.base = 0x801050 then (if x.row.lo = 0 then s.request i j else (s.cancelTx i j).select i)
  else if x.row.base = 0x80800C then s.popFifo i j x.value
  else s

/-- What follows from fields just set: the calendar comparison (R336), the alarms written (R337). -/
def State.afterSet (s : State) (l : List FldWrite) : State :=
  let s1 := match l.find? fun x => x.row == Obj.TIME_CFG_ZONE with
    | some x => ({ s with rtc := { s.rtc with zone := x.value == 1 } }).compareCalendar
    | none => s
  ((List.range 16).filter fun a => l.any fun x =>
    decide (0x20200 ≤ x.row.base ∧ x.row.base < 0x2020C) && x.idx == [a]).foldl (fun t a => t.armAfter a t.calSecs) s1

/-- Set the RW fields, clear the flags, then do the actions of the WO fields; `sets` gives the bits the module sets in
the same cycle, as a field of the written row's width. -/
def State.applyFields (s : State) (l : List FldWrite) (sets : FldWrite → Nat) : State :=
  let s1 := (l.filter fun x => x.row.acc == .rw).foldl State.setField s
  let s2 := (l.filter fun x => x.row.acc == .w1c).foldl (fun t x => t.clearField x (sets x)) s1
  (l.filter fun x => x.row.acc == .wo).foldl State.act (s2.afterSet l)

/-- Why an action that a request asks for is refused, as status, detail code and address. -/
def State.actRefusal (s : State) (l : List FldWrite) : Option (Nat × Nat × Nat) :=
  if wroteOne l Obj.PMON_CTRL_FREEZE ∧ ! s.mayFreeze then some (St.checkFailed, 0x0C01, 0x40000)
  else if (l.any fun x => x.row == Obj.IDENT_MODE_REQ_MODE) then
    (s.modeRefusal (valueIn l s Obj.IDENT_MODE_REQ_MODE.f) (wroteOne l Obj.IDENT_MODE_REQ_RELEASE)).map fun r => (r.1, r.2, 0x2C)
  else none

/-- The mode request of a list of writes. -/
def State.modeOf (s : State) (l : List FldWrite) : State :=
  if l.any fun x => x.row == Obj.IDENT_MODE_REQ_MODE then
    s.modeBegin (valueIn l s Obj.IDENT_MODE_REQ_MODE.f) (wroteOne l Obj.IDENT_MODE_REQ_COLD) (wroteOne l Obj.IDENT_MODE_REQ_RELEASE)
  else s

/-- The write of UPD_SEALED_MOVE in a list, if any: the state after and the detail of a refusal. -/
def State.sealedOf (s : State) (l : List FldWrite) : State × Option Nat :=
  match l.find? fun x => x.row == Obj.UPD_SEALED_MOVE with
  | some x => s.sealedMove x.value
  | none => (s, none)

/-- The words of entries, each with the index of its entry. -/
def indexed (es : List (Nat × List Nat)) : List (Nat × Nat × Nat) :=
  ((List.range es.length).zip es).flatMap fun e => ((List.range e.2.2.length).zip e.2.2).map fun w => (e.1, e.2.1 + 4 * w.1, w.2)

/-- Whether a word is PMON's and dead with it (R450). -/
def State.pmonDead (s : State) (a : Nat) : Bool := s.failed 11 && decide (0x40000 ≤ a ∧ a < 0x50000) && a / 8 != 0x40028 / 8

/-- Checks 8 to 12 of a write request (R94): none where it passes. -/
def State.writeRefusal (s : State) (c : Nat) (es : List (Nat × List Nat)) : Option Reply :=
  let ws := indexed es
  let l := s.fieldsOf c (ws.map (·.2))
  let detail (st : Nat) (x : Nat × Nat × Nat) : Option Reply := some (.fail st (detailRecord 0 x.1 x.2.1))
  if (l.any fun x => x.row == Obj.IDENT_MODE_REQ_MODE) ∧ s.power.transition.isSome then some (.no St.busy)
  else if es.any fun e => e.1 % 4 != 0 || e.2.isEmpty then
    match ((List.range es.length).zip es).find? fun e => e.2.1 % 4 != 0 || e.2.2.isEmpty with
    | some e => detail St.badAccess (e.1, e.2.1, 0)
    | none => none
  else if ws.any fun x => s.sight c x.2.1 == .hidden || (! decide (0x31000 ≤ x.2.1 ∧ x.2.1 < 0x31100) && (s.wordAt c x.2.1).isNone) then
    some (.no St.noObject)
  else match s.actRefusal l with
  | some (0x0030, _, _) => some (.no St.presenceRequired)
  | act =>
    if ws.any fun x => s.pmonDead x.2.1 then some (.no St.unitFailed)
    else if s.failed 14 ∧ (l.any FldWrite.staged ∨ (l.any fun x => x.row == Obj.PMON_CTRL_DUMP_EN && x.value == 1) = true) then
      some (.no St.unitFailed)
    else match ((List.range es.length).zip es).find? fun e => (entryWords e.2.1 e.2.2.length).all fun a => (s.writable c a).isEmpty with
    | some e => detail St.readOnly (e.1, e.2.1, 0)
    | none => match ws.find? fun x => s.setReadOnly x.2.1 with
    | some x => detail St.readOnly x
    | none => match ws.find? fun x => (s.fieldsOf c [x.2]).any fun y => (l.find? fun z => z.fld.key == y.fld.key).any (s.valueBad c l) with
    | some x => detail St.badValue x
    | none =>
      let g := s.staging c
      let staged := l.filter FldWrite.staged
      if staged ≠ [] ∧ ! s.stagingFits c { g with cells := staged.foldl (fun k x => stagePut k x.fld x.value) g.cells } then
        match ws.find? fun x => (s.fieldsOf c [x.2]).any FldWrite.staged with
        | some x => detail St.noSpace x
        | none => some (.no St.noSpace)
      else match act with
      | some (st, code, addr) => some (.fail st (detailRecord code 0 addr))
      | none => none

/-- Carry out a write that has passed its checks: non-WS fields set, points written, WS fields staged together. -/
def State.performWrite (s : State) (c : Nat) (ws : List (Nat × Nat)) (sets : FldWrite → Nat) : State :=
  let l := s.fieldsOf c ws
  let staged := (l.filter FldWrite.staged).map fun x => (x.fld, x.value)
  let pts := (pointWrites ws).foldl joinPt []
  let s1 := (s.applyFields l sets).modeOf l
  let s2 := if pts.isEmpty then s1 else s1.pimgWrite pts
  if staged.isEmpty then s2 else s2.stageFields c staged

/-- A write command's entries (R94). One that stages during a check is held (R100); one that sets points during a
capture hold is answered once they are applied (R145). -/
def State.writeEntries (q : Req) (s : State) (es : List (Nat × List Nat)) : State × Reply :=
  match s.writeRefusal q.comp es with
  | some r => (s, r)
  | none =>
    let ws := (indexed es).map (·.2)
    let l := s.fieldsOf q.comp ws
    match s.sealedOf l with
    | (s1, some code) => (s1, .check code 0 0x9002C)
    | (s1, none) =>
      let g := s1.staging q.comp
      if l.any FldWrite.staged ∧ g.state = 2 then
        let h : HeldWrite := ⟨q.sid, q.seq, .words es⟩
        ({ s1 with stagings := s1.stagings.put q.comp { g with held := g.held ++ [h] } }, .later (.held q.sid q.seq))
      else
        let s2 := s1.performWrite q.comp ws fun _ => 0
        (s2, if (pointWrites ws).isEmpty ∨ s.scan.hold.isNone then .ok [] else .later .pimg)

/-- CMD_OBJ_WRITE. -/
def objWrite (q : Req) (s : State) : State × Reply :=
  let n := field q.payload 4 2
  if ! permitted .all m5to9 q s then (s, .no St.notPermitted)
  else if q.payload.length ≠ 8 + 4 * n then (s, .no St.badPayload)
  else s.writeEntries q [(field q.payload 0 4, (List.range n).map fun i => field q.payload (8 + 4 * i) 4)]

def execCmdObjWrite (f : Frame) (s : State) : Host.Outcome State Fault Refusal := command 0x0202 objWrite f s

/-- The entries of a group write. -/
def parseEntries : Nat → Bytes → Option (List (Nat × List Nat))
  | 0, b => if b = [] then some [] else none
  | n + 1, b =>
    let k := field b 4 2
    if b.length < 8 + 4 * k then none
    else (parseEntries n (b.drop (8 + 4 * k))).map fun r =>
      (field b 0 4, (List.range k).map fun i => field b (8 + 4 * i) 4) :: r

/-- CMD_OBJ_GROUP_WRITE. -/
def objGroupWrite (q : Req) (s : State) : State × Reply :=
  let n := field q.payload 0 2
  if ! permitted .all m5to9 q s then (s, .no St.notPermitted)
  else if n = 0 ∨ 256 < n ∨ q.payload.length < 4 then (s, .no St.badPayload)
  else match parseEntries n (q.payload.drop 4) with
    | some es => s.writeEntries q es
    | none => (s, .no St.badPayload)

def execCmdObjGroupWrite (f : Frame) (s : State) : Host.Outcome State Fault Refusal := command 0x0204 objGroupWrite f s

/-! ### Single accesses -/

/-- A write of one word by tempo code (R91, R145): it may not stage, and its points wait for the ply's output step. -/
def State.taskWrite (s : State) (c e k : Nat) (ws : List (Nat × Nat)) : State × Nat :=
  if ws.any fun w => s.sight c w.1 == .full && (Obj.parts w.1).any fun p => p.row.acc == .ws then (s, St.notPermitted)
  else match s.writeRefusal c (ws.map fun w => (w.1, [w.2])) with
  | some (.fail st _) => (s, st)
  | some _ => (s, St.internalError)
  | none =>
    let l := s.fieldsOf c ws
    match s.sealedOf l with
    | (s1, some _) => (s1, St.checkFailed)
    | (s1, none) =>
      let s2 := (s1.applyFields l fun _ => 0).modeOf l
      match s2.plyOf c e k, pointWrites ws with
      | some p, w :: r => (s2.putPly { p with sets := (w :: r).foldl joinPt p.sets }, St.ok)
      | _, _ => (s2, St.ok)

/-- The bits of a word that the module sets while an access to it changes nothing (R11): they are set. -/
def State.setBits (s : State) (c a sets : Nat) : State :=
  ((Obj.parts a).filter fun p => p.row.acc == .w1c).foldl (fun t p =>
    t.clearField { row := p.row, idx := p.idx, fld := p.row.at c p.idx, value := 0 } (p.taken sets)) s

/-- REG_WRITE (R5): a write of one word by its access codes. `sets` are the bits of the word that the module sets in the
same cycle (R11). What it deserves is put out. -/
def regWrite (who : Requester) (a w sets : Nat) (s : State) : State :=
  let c := s.compOf who
  if ! s.live who then s
  else match who with
  | .task c e k =>
    let (s1, st) := s.taskWrite c e k [(a, w)]
    (s1.setBits c a sets).emit (.word who a st 0)
  | _ => match s.writeRefusal c [(a, [w])] with
    | some (.fail st _) => (s.setBits c a sets).emit (.word who a st 0)
    | some _ => s.setBits c a sets
    | none => match s.sealedOf (s.fieldsOf c [(a, w)]) with
      | (s1, some _) => s1.emit (.word who a St.checkFailed 0)
      | (s1, none) =>
        (s1.performWrite c [(a, w)] fun x => ((s.fieldsOf c [(a, sets)]).find? fun y => y.fld.key == x.fld.key).elim 0 (·.value)).emit
          (.word who a St.ok 0)

def execRegWrite (who : Requester) (addr : Nat) (value setMask : BitVec 32) (s : State) : Host.Outcome State Fault Refusal :=
  .next (regWrite who addr value.toNat setMask.toNat s)

/-- REG_READ_CLEAR (R7): a read of one word that completes with OK clears its RC fields; one that does not, clears nothing. -/
def regReadClear (who : Requester) (a : Nat) (ok : Bool) (sets : Nat) (s : State) : State :=
  let c := s.compOf who
  let st := s.wordStatus c a
  if ! s.live who then s
  else if ! ok ∨ st ≠ St.ok then (s.setBits c a sets).emit (.word who a st 0)
  else
    let (v, s1) := s.readOne who c false [a] a
    (s1.clearRead c [a] sets).emit (.word who a St.ok v)

def execRegReadClear (who : Requester) (addr : Nat) (ok : Bool) (setMask : BitVec 32) (s : State) : Host.Outcome State Fault Refusal :=
  .next (regReadClear who addr ok setMask.toNat s)

end Sys2Proof.Machine
end

