-- ==== Sys2Proof/Machine/CastCheck.lean ====
section
/-!
DEFINITION. The consistency checks of a Castling (spec/04 R101 to R105, Table 4-6; Tables 8-3, 10-2, 11-3, 12-5 and the
single checks R104 lists), each a question about the settings as they would stand.
-/
namespace Sys2Proof.Machine

/-- A rule that fails: its detail code, an index, and the fields the failure meets, the field it fails on first (R102). -/
structure Failure where
  code : Nat
  index : Nat := 0
  at_ : List Fld
  deriving DecidableEq, Repr

/-- The first item of a list for which a rule fails. -/
def fails {α : Type} (code : Nat) (l : List α) (bad : α → Bool) (at_ : α → List Fld) : Option Failure :=
  (l.find? bad).map fun x => { code := code, at_ := at_ x }

/-- The first rule that fails. -/
def firstFailure (l : List (State → Option Failure)) (v : State) : Option Failure := l.findSome? fun f => f v

/-- Every pair of distinct items of a list, each once. -/
def pairs {α : Type} : List α → List (α × α)
  | [] => []
  | x :: r => r.map (fun y => (x, y)) ++ pairs r

def total (l : List Nat) : Nat := l.foldl (· + ·) 0

def allComps : List Nat := List.range 34
def allPorts : List Nat := List.range 24

/-! ### The settings as they would stand -/

/-- The cells of a part, with what follows from them: F_NOM changed without N sets N to it (R226). -/
def State.partCells (v : State) (l : Cells) : Cells :=
  match stagedValue l Obj.MAE_F_NOM.f with
  | some f => if f ≠ v.rd Obj.MAE_F_NOM.f ∧ (stagedValue l Obj.MAE_LATCH_N.f).isNone then stagePut l Obj.MAE_LATCH_N.f f else l
  | none => l

/-- A part laid over the settings; a staged image stands beside the image it replaces. -/
def State.lay (v : State) (p : CastPart) : State :=
  let v1 := v.under (v.partCells p.cells)
  let v2 := match p.image with
    | some d => v1.putProg p.comp { v1.prog p.comp with old := (v.prog p.comp).cur,
                                                        cur := some { image := (Raw.of d.bytes).image, insts := [] } }
    | none => v1
  { v2 with scan := { v2.scan with progs := v2.scan.progs.filter fun x => v2.exists? x.1 } }

def State.layAll (v : State) (l : List CastPart) : State := l.foldl State.lay v

/-- The enabled task entries of existing compartments. -/
def State.entries (v : State) : List (Nat × Nat × Nat) :=
  v.compartments.flatMap fun c => ((List.range 32).filter fun i => v.on (Obj.SCE_TASK_CFG_ENABLE.bij c (i / 16) (i % 16))).map
    fun i => (c, i / 16, i % 16)

def entryFld (x : Nat × Nat × Nat) : Fld := Obj.SCE_TASK_CFG_ENABLE.bij x.1 x.2.1 x.2.2

/-- The images that would stand in a compartment: in force and replaced. -/
def State.images (v : State) (c : Nat) : List Image :=
  ((v.prog c).cur.map (·.image)).toList ++ ((v.prog c).old.map (·.image)).toList

/-- The fields that stand for a staged image. -/
def imageFld (c : Nat) : Fld := Obj.SCE_IMG_STG_SIZE.b c
def State.imageFlds (v : State) : List Fld := (v.compartments.filter fun c => (v.prog c).old.isSome).map imageFld

/-- Every source of a point: point, Table 5-11 kind, the field that makes it one (R23). -/
def State.sources (v : State) : List (Nat × Nat × Fld) :=
  (v.compartments.flatMap fun c => (v.tasksOf c).flatMap fun t => t.outs.map fun p => (p, 1, entryFld (c, t.engine, t.entry))) ++
  (allPorts.flatMap fun p => ((List.range 512).filter fun m => v.mapOn p m && ! v.on (Obj.FBC_MAP_DIR.ij p m)).map
    fun m => (v.rd (Obj.FBC_MAP_POINT.ij p m), 2, Obj.FBC_MAP_POINT.ij p m)) ++
  (((List.range 2048).filter fun m => v.lmapOn m && ! v.lmapWrite m).map fun m => (v.lmapPoint m, 3, Obj.LBX_MAP_POINT.i m)) ++
  (((List.range 512).filter fun m => v.on (Obj.MAE_MAP_ENABLE.i m)).map fun m =>
    (v.rd (Obj.MAE_MAP_POINT.i m), 4, Obj.MAE_MAP_POINT.i m))

/-- The circuit that names a channel. -/
def State.circOf (v : State) (ch : Nat) : Option Nat := v.circsOn.find? fun i => (v.circChannels i).contains ch

/-- The compartment a MAE mapping serves: the owner of its circuit, or of the circuit that names its channel, else C00. -/
def State.mapOwner (v : State) (m : Nat) : Nat :=
  let i := v.rd (Obj.MAE_MAP_INDEX.i m)
  if v.on (Obj.MAE_MAP_CIRCUIT.i m) then v.rd (Obj.MAE_CIRC_OWNER.i i)
  else (v.circOf i).elim 0 fun k => v.rd (Obj.MAE_CIRC_OWNER.i k)

/-- Whether an identifier lies in a range of an owner on a port. -/
def State.inRange (v : State) (p owner id : Nat) (xtd : Bool) : Bool :=
  (List.range 16).any fun r => v.on (Obj.FBC_RNG_ENABLE.ij p r) && v.rd (Obj.FBC_RNG_OWNER.ij p r) == owner &&
    v.on (Obj.FBC_RNG_XTD.ij p r) == xtd && decide (v.rd (Obj.FBC_RNG_LOW.ij p r) ≤ id ∧ id ≤ v.rd (Obj.FBC_RNG_HIGH.ij p r))

/-- The enabled ranges of a port. -/
def State.rangesOn (v : State) (p : Nat) : List Nat := (List.range 16).filter fun r => v.on (Obj.FBC_RNG_ENABLE.ij p r)

/-- Whether two ranges of a port overlap in one identifier space. -/
def State.overlap (v : State) (p r q : Nat) : Bool :=
  v.on (Obj.FBC_RNG_XTD.ij p r) == v.on (Obj.FBC_RNG_XTD.ij p q) &&
    decide (v.rd (Obj.FBC_RNG_LOW.ij p r) ≤ v.rd (Obj.FBC_RNG_HIGH.ij p q) ∧ v.rd (Obj.FBC_RNG_LOW.ij p q) ≤ v.rd (Obj.FBC_RNG_HIGH.ij p r))

/-- Pairs of enabled ranges, with their port. -/
def State.rangePairs (v : State) : List (Nat × Nat × Nat) := allPorts.flatMap fun p => (pairs (v.rangesOn p)).map fun x => (p, x.1, x.2)

def rangeFlds (x : Nat × Nat × Nat) : List Fld := [Obj.FBC_RNG_LOW.ij x.1 x.2.2, Obj.FBC_RNG_LOW.ij x.1 x.2.1]

/-- The enabled VLAN entries. -/
def State.vlansOn (v : State) : List Nat := (List.range 64).filter fun i => v.on (Obj.NSW_VLAN_ENABLE.i i)
def State.vlanVid (v : State) (i : Nat) : Nat := v.rd (Obj.NSW_VLAN_VID.i i)
def State.vlanOwner (v : State) (i : Nat) : Nat := v.rd (Obj.NSW_VLAN_OWNER.i i)

/-! ### Table 4-6 -/

/-- 0x0101: every owner exists (R15, Table 1-4); ranges and VLANs have their own rules. -/
def rule0101 (v : State) : Option Failure :=
  fails 0x0101 (List.range 8192) (fun p => ! v.exists? (v.ownerPt p)) (fun p => [Obj.CAST_OWN_PT.i p]) <|>
  fails 0x0101 v.circsOn (fun i => ! v.exists? (v.rd (Obj.MAE_CIRC_OWNER.i i))) (fun i => [Obj.MAE_CIRC_OWNER.i i]) <|>
  fails 0x0101 (List.range 8) (fun n => v.on (Obj.MAE_PULSE_ENABLE.i n) && ! v.exists? (v.rd (Obj.MAE_PULSE_OWNER.i n)))
    (fun n => [Obj.MAE_PULSE_OWNER.i n]) <|>
  fails 0x0101 (List.range 16) (fun p => ! v.exists? (v.rd (Obj.LBX_PORT_OWNER.i p))) (fun p => [Obj.LBX_PORT_OWNER.i p])

/-- 0x0102: one source per point (R23). -/
def rule0102 (v : State) : Option Failure :=
  let l := v.sources
  (l.find? fun x => decide (1 < (l.filter fun y => y.1 == x.1).length)).map fun x =>
    { code := 0x0102, at_ := ((l.filter fun y => y.1 == x.1).map fun y => y.2.2).reverse }

/-- 0x0103: references stay inside the compartment. -/
def rule0103 (v : State) : Option Failure :=
  fails 0x0103 (v.compartments.flatMap fun c => (v.tasksOf c).map fun t => (c, t))
    (fun x => (x.2.ins ++ x.2.outs).any fun p => v.ownerPt p != x.1) (fun x => [entryFld (x.1, x.2.engine, x.2.entry), imageFld x.1]) <|>
  fails 0x0103 (allPorts.flatMap fun p => ((List.range 512).filter (v.mapOn p)).map fun m => (p, m))
    (fun x => v.ownerPt (v.rd (Obj.FBC_MAP_POINT.ij x.1 x.2)) != v.rd (Obj.FBC_MAP_OWNER.ij x.1 x.2))
    (fun x => [Obj.FBC_MAP_POINT.ij x.1 x.2]) <|>
  fails 0x0103 ((List.range 2048).filter v.lmapOn) (fun m => v.ownerPt (v.lmapPoint m) != v.rd (Obj.LBX_PORT_OWNER.i (v.lmapPort m)))
    (fun m => [Obj.LBX_MAP_POINT.i m]) <|>
  fails 0x0103 ((List.range 512).filter fun m => v.on (Obj.MAE_MAP_ENABLE.i m))
    (fun m => v.ownerPt (v.rd (Obj.MAE_MAP_POINT.i m)) != v.mapOwner m) (fun m => [Obj.MAE_MAP_POINT.i m]) <|>
  fails 0x0103 ((List.range 8).filter fun n => v.on (Obj.MAE_PULSE_ENABLE.i n))
    (fun n => let i := v.rd (Obj.MAE_PULSE_CIRCUIT.i n); ! v.circOn i || v.rd (Obj.MAE_CIRC_OWNER.i i) != v.rd (Obj.MAE_PULSE_OWNER.i n))
    (fun n => [Obj.MAE_PULSE_CIRCUIT.i n])

/-- 0x0104: at most 16 tasks per engine and so 32 in all (R18). -/
def rule0104 (v : State) : Option Failure :=
  let on (e : Nat) := v.entries.filter fun x => x.2.1 == e
  fails 0x0104 [0, 1] (fun e => decide (16 < (on e).length)) (fun e => (on e).map entryFld)

def shareFld (e c : Nat) : Fld := if c = 0 then Obj.CAST_SHARE_OWNER.i e else Obj.CAST_SHARE.ij e (c - 1)

/-- 0x0105: shares sum to 100.0 % or less; a task needs a share on its engine. -/
def rule0105 (v : State) : Option Failure :=
  fails 0x0105 [0, 1] (fun e => decide (1000 < total (allComps.map (v.share e)))) (fun e => allComps.map (shareFld e)) <|>
  fails 0x0105 v.entries (fun x => v.share x.2.1 x.1 == 0) (fun x => [entryFld x])

/-- 0x0106: tempos (R22). -/
def rule0106 (v : State) : Option Failure :=
  let tempo (x : Nat × Nat × Nat) := Obj.SCE_TASK_TEMPO.bij x.1 x.2.1 x.2.2
  fails 0x0106 v.entries (fun x => ! decide (1 ≤ v.rd (tempo x) ∧ v.rd (tempo x) ≤ 10000)) (fun x => [tempo x])

/-- 0x0107: watch eligibility and watch ports (R35). -/
def rule0107 (v : State) : Option Failure :=
  let watch (x : Nat × Nat × Nat) := Obj.SCE_TASK_CFG_WATCH.bij x.1 x.2.1 x.2.2
  fails 0x0107 v.entries (fun x => v.on (watch x) && (x.2.1 == 1 || decide (v.rd (Obj.SCE_TASK_TEMPO.bij x.1 x.2.1 x.2.2) < 100)))
    (fun x => [watch x]) <|>
  fails 0x0107 [()] (fun _ => decide (4 < popN 24 (v.rd Obj.PWR_WATCH_PORTS.f))) (fun _ => [Obj.PWR_WATCH_PORTS.f])

/-- Instances a compartment would hold: those of the new image and those of the old one whose path it drops. -/
def State.instCount (v : State) (c : Nat) : Nat :=
  match (v.prog c).cur, (v.prog c).old with
  | some g, some o => g.image.insts.length + (o.image.insts.filter fun y => (g.image.sameInst y).isNone).length
  | some g, none => g.image.insts.length
  | none, _ => 0

/-- 0x0108: instances and instance data, the data of both banks of an exchange counted. -/
def rule0108 (v : State) : Option Failure :=
  fails 0x0108 [()] (fun _ => decide (16384 < total (allComps.map v.instCount) ∨
    8 * 1048576 < total (allComps.flatMap fun c => (v.images c).map Image.instBytes))) (fun _ => v.imageFlds)

/-- 0x0109: the new code of an engine beside the code in force. -/
def rule0109 (v : State) : Option Failure :=
  fails 0x0109 [0, 1] (fun e => decide (4 * 1048576 < total (allComps.flatMap fun c => (v.images c).map fun g => g.codeBytes e)))
    (fun _ => v.imageFlds)

/-- 0x010A: retained variables (R42). -/
def rule010A (v : State) : Option Failure :=
  fails 0x010A [()] (fun _ => decide (2 * 1048576 < total (allComps.map fun c => ((v.prog c).cur.map fun g => g.image.retainBytes).getD 0)))
    (fun _ => v.imageFlds)

/-- 0x010B: ranges of different compartments do not overlap. -/
def rule010B (v : State) : Option Failure :=
  fails 0x010B v.rangePairs
    (fun x => v.rd (Obj.FBC_RNG_OWNER.ij x.1 x.2.1) != v.rd (Obj.FBC_RNG_OWNER.ij x.1 x.2.2) && v.overlap x.1 x.2.1 x.2.2) rangeFlds

/-- 0x010C: filters and bindings lie inside ranges of their owner. -/
def rule010C (v : State) : Option Failure :=
  fails 0x010C (allPorts.flatMap fun p => ((List.range 64).filter fun k => v.on (Obj.FBC_FLT_ENABLE.ij p k)).map fun k => (p, k))
    (fun x => ! v.inRange x.1 (v.rd (Obj.FBC_FLT_OWNER.ij x.1 x.2)) (v.rd (Obj.FBC_FLT_ID.ij x.1 x.2)) (v.on (Obj.FBC_FLT_XTD.ij x.1 x.2)))
    (fun x => [Obj.FBC_FLT_ID.ij x.1 x.2]) <|>
  fails 0x010C (allPorts.flatMap fun p => ((List.range 32).filter (v.bufOn p)).map fun b => (p, b))
    (fun x => ! v.mayTransmit x.1 x.2) (fun x => [Obj.FBC_TXB_BIND_ID.ij x.1 x.2])

/-- 0x010D: enabled channels have an enabled set and a phase. -/
def rule010D (v : State) : Option Failure :=
  fails 0x010D v.chansOn (fun ch => ! v.setOn (v.rd (Obj.MAE_CH_SET.i ch)) || v.rd (Obj.MAE_CH_PHASE.i ch) == 0)
    (fun ch => [Obj.MAE_CH_SET.i ch])

/-- 0x010E: circuits and their channels. -/
def rule010E (v : State) : Option Failure :=
  let three (i : Nat) : Bool :=
    let l := v.circChannels i
    (l.all fun ch => v.rd (Obj.MAE_CH_SET.i ch) == v.rd (Obj.MAE_CH_SET.i (l.headD 0))) &&
      [1, 2, 3].all fun k => l.any fun ch => v.rd (Obj.MAE_CH_PHASE.i ch) == k
  fails 0x010E (v.circsOn.filter fun i => v.on (Obj.MAE_CIRC_THREE_PHASE.i i)) (fun i => ! three i) (fun i => [Obj.MAE_CIRC_CH_A.i i]) <|>
  fails 0x010E (pairs v.circsOn) (fun x => (v.circChannels x.1).any fun ch => (v.circChannels x.2).contains ch)
    (fun x => [Obj.MAE_CIRC_CH_A.i x.2, Obj.MAE_CIRC_CH_A.i x.1])

/-- 0x010F: VLAN identifiers. -/
def rule010F (v : State) : Option Failure :=
  fails 0x010F v.vlansOn (fun i => ! decide (1 ≤ v.vlanVid i ∧ v.vlanVid i ≤ 4094) || ! v.exists? (v.vlanOwner i))
    (fun i => [Obj.NSW_VLAN_VID.i i]) <|>
  fails 0x010F (pairs v.vlansOn) (fun x => v.vlanVid x.1 == v.vlanVid x.2 && v.vlanOwner x.1 != v.vlanOwner x.2)
    (fun x => [Obj.NSW_VLAN_VID.i x.2, Obj.NSW_VLAN_VID.i x.1])

/-- 0x0110: what no compartment holds any more has no resource left; C00 and C01 stay. -/
def rule0110 (v : State) : Option Failure :=
  let gone := allComps.filter fun c => ! v.exists? c
  fails 0x0110 [()] (fun _ => v.rd Obj.CAST_COMP_EXIST.f % 4 != 3) (fun _ => [Obj.CAST_COMP_EXIST.f]) <|>
  fails 0x0110 (gone.flatMap fun c => [(c, 0), (c, 1)]) (fun x => v.share x.2 x.1 != 0) (fun x => [shareFld x.2 x.1]) <|>
  fails 0x0110 (allPorts.flatMap fun p => (v.rangesOn p).map fun r => (p, r))
    (fun x => gone.contains (v.rd (Obj.FBC_RNG_OWNER.ij x.1 x.2))) (fun x => [Obj.FBC_RNG_OWNER.ij x.1 x.2]) <|>
  fails 0x0110 gone (fun c => v.on (Obj.MAE_SEAL_ENABLE.i c)) (fun c => [Obj.MAE_SEAL_ENABLE.i c])

def areaFld (c : Nat) : Fld := if c < 2 then Obj.EVR_AREA_LAST_BLK_BASE.i c else Obj.EVR_AREA_LAST_BLK.i (c - 2)

/-- 0x0111: event areas, in blocks of 64 records. -/
def rule0111 (v : State) : Option Failure :=
  let blocks (c : Nat) := v.firstBlk c + v.lastBlk c
  fails 0x0111 [()] (fun _ => decide (1024 < total (v.compartments.map blocks))) (fun _ => v.compartments.map areaFld) <|>
  fails 0x0111 v.compartments (fun c => blocks c == 0) (fun c => [areaFld c])

/-- 0x0112: sealing only of tenants' circuits. -/
def rule0112 (v : State) : Option Failure :=
  fails 0x0112 (allComps.filter fun c => v.on (Obj.MAE_SEAL_ENABLE.i c)) (fun c => ! v.tenants.contains c ||
    ! decide (1 ≤ v.rd (Obj.MAE_SEAL_INTERVAL.i c) ∧ v.rd (Obj.MAE_SEAL_INTERVAL.i c) ≤ 60)) (fun c => [Obj.MAE_SEAL_INTERVAL.i c]) <|>
  fails 0x0112 ((List.range 192).filter fun i => bit (v.rd (Obj.MAE_SEAL_CIRC.i (i / 32))) (i % 32))
    (fun i => let o := v.rd (Obj.MAE_CIRC_OWNER.i i); ! v.circOn i || ! v.tenants.contains o || ! v.on (Obj.MAE_SEAL_ENABLE.i o)) (fun i => [Obj.MAE_SEAL_CIRC.i (i / 32)])

/-- 0x0113: N. -/
def rule0113 (v : State) : Option Failure :=
  fails 0x0113 [()] (fun _ => v.rd Obj.MAE_LATCH_N.f == 0) (fun _ => [Obj.MAE_LATCH_N.f])

/-- The rules of Table 4-6 in table order. -/
def table46 : List (State → Option Failure) :=
  [rule0101, rule0102, rule0103, rule0104, rule0105, rule0106, rule0107, rule0108, rule0109, rule010A, rule010B, rule010C,
   rule010D, rule010E, rule010F, rule0110, rule0111, rule0112, rule0113]

/-! ### Tables 8-3 and 9-1 -/

def rule0501 (v : State) : Option Failure :=
  fails 0x0501 v.chansOn (fun ch => v.rd (Obj.MAE_CH_IN_RATED.i ch) == 0 ||
    (v.on (Obj.MAE_CH_TYPE.i ch) && v.rd (Obj.MAE_CH_ROGO_SENS.i ch) == 0)) (fun ch => [Obj.MAE_CH_IN_RATED.i ch])

def rule0502 (v : State) : Option Failure :=
  fails 0x0502 v.chansOn (fun ch => (List.range (v.rd (Obj.MAE_CH_SEG_COUNT.i ch) - 1)).any fun g =>
    decide (v.segEnd ch (g + 1) ≤ v.segEnd ch g)) (fun ch => [Obj.MAE_CH_SEG_COUNT.i ch])

def rule0503 (v : State) : Option Failure :=
  fails 0x0503 v.chansOn (fun ch => v.on (Obj.MAE_SET_WIRING.i (v.rd (Obj.MAE_CH_SET.i ch))) && v.rd (Obj.MAE_CH_PHASE.i ch) != 1)
    (fun ch => [Obj.MAE_CH_PHASE.i ch])

def rule0504 (v : State) : Option Failure :=
  fails 0x0504 [()] (fun _ => ! v.chansOn.isEmpty && ! v.setOn (v.rd Obj.MAE_REF_SET.f)) (fun _ => [Obj.MAE_REF_SET.f])

def rule0505 (v : State) : Option Failure :=
  fails 0x0505 v.circsOn (fun i => (v.circChannels i).any fun ch => ! v.chanOn ch) (fun i => [Obj.MAE_CIRC_CH_A.i i])

/-- The order of the voltage thresholds (Table 9-1). -/
def rule0510 (v : State) : Option Failure :=
  fails 0x0510 [()] (fun _ => ! decide (v.rd Obj.MAE_SAG_START.f < v.rd Obj.MAE_SAG_END.f ∧
    v.rd Obj.MAE_SWELL_END.f < v.rd Obj.MAE_SWELL_START.f ∧ v.rd Obj.MAE_LOSS_START.f < v.rd Obj.MAE_LOSS_END.f ∧
    v.rd Obj.MAE_LOSS_END.f < v.rd Obj.MAE_SAG_START.f)) (fun _ => [Obj.MAE_SAG_START.f])

/-! ### Table 10-2 -/

/-- Time quanta of a bit, nominal and data, and clocks of a bit at 80 MHz. -/
def State.ntq (v : State) (p : Nat) : Nat := 1 + v.rd (Obj.FBC_NBT_NTSEG1.i p) + v.rd (Obj.FBC_NBT2_NTSEG2.i p)
def State.dtq (v : State) (p : Nat) : Nat := 1 + v.rd (Obj.FBC_DBT_DTSEG1.i p) + v.rd (Obj.FBC_DBT_DTSEG2.i p)
def State.nclk (v : State) (p : Nat) : Nat := v.rd (Obj.FBC_NBT_NBRP.i p) * v.ntq p
def State.dclk (v : State) (p : Nat) : Nat := v.rd (Obj.FBC_DBT_DBRP.i p) * v.dtq p

def rule0601 (v : State) : Option Failure :=
  fails 0x0601 allPorts (fun p => ! decide (8 ≤ v.ntq p ∧ v.ntq p ≤ 385 ∧
    v.rd (Obj.FBC_NBT2_NSJW.i p) ≤ v.rd (Obj.FBC_NBT2_NTSEG2.i p) ∧ 80000000 ≤ 1000000 * v.nclk p ∧ 10000 * v.nclk p ≤ 80000000))
    (fun p => [Obj.FBC_NBT_NBRP.i p])

def rule0602 (v : State) : Option Failure :=
  fails 0x0602 allPorts (fun p => v.on (Obj.FBC_CFG_FD_EN.i p) && ! decide (5 ≤ v.dtq p ∧ v.dtq p ≤ 49 ∧
    v.rd (Obj.FBC_DBT_DSJW.i p) ≤ v.rd (Obj.FBC_DBT_DTSEG2.i p) ∧ v.dclk p ≤ v.nclk p ∧ 80000000 ≤ 8000000 * v.dclk p))
    (fun p => [Obj.FBC_DBT_DBRP.i p])

def rule0603 (v : State) : Option Failure :=
  fails 0x0603 allPorts (fun p =>
    (v.on (Obj.FBC_CFG_FD_EN.i p) && decide (1000000 * v.dclk p < 80000000) && ! v.on (Obj.FBC_CFG_TDC_EN.i p)) ||
    (v.on (Obj.FBC_CFG_TDC_EN.i p) && (! v.on (Obj.FBC_CFG_FD_EN.i p) || decide (2 < v.rd (Obj.FBC_DBT_DBRP.i p)))))
    (fun p => [Obj.FBC_CFG_TDC_EN.i p])

def rule0604 (v : State) : Option Failure :=
  fails 0x0604 allPorts (fun p => v.on (Obj.FBC_CFG_TRIPLE.i p) &&
    ! decide (80000000 ≤ 125000 * v.nclk p ∧ 3 ≤ v.rd (Obj.FBC_NBT_NTSEG1.i p))) (fun p => [Obj.FBC_CFG_TRIPLE.i p])

def rule0605 (v : State) : Option Failure :=
  fails 0x0605 allPorts (fun p => decide (80 < total ((List.range 8).map fun k => v.rd (Obj.FBC_FIFO_SIZE.ij p k))) ||
      ((List.range 8).any fun k => v.rd (Obj.FBC_FIFO_SIZE.ij p k) != 0 && v.rd (Obj.FBC_FIFO_OWNER.ij p k) == 0xFE))
    (fun p => (List.range 8).map fun k => Obj.FBC_FIFO_SIZE.ij p k) <|>
  fails 0x0605 (allPorts.flatMap fun p => ((List.range 64).filter fun k => v.on (Obj.FBC_FLT_TO_FIFO.ij p k)).map fun k => (p, k))
    (fun x => let k := v.rd (Obj.FBC_FLT_FIFO.ij x.1 x.2)
      v.rd (Obj.FBC_FIFO_SIZE.ij x.1 k) == 0 || v.rd (Obj.FBC_FIFO_OWNER.ij x.1 k) != v.rd (Obj.FBC_FLT_OWNER.ij x.1 x.2))
    (fun x => [Obj.FBC_FLT_FIFO.ij x.1 x.2])

/-- The buffers of 0x0606 that break a rule of their own. -/
def State.bufBad (v : State) (p b : Nat) : Bool :=
  let fdf := v.on (Obj.FBC_TXB_FRAME_FDF.ij p b)
  (fdf && ! v.on (Obj.FBC_CFG_FD_EN.i p)) || (v.on (Obj.FBC_TXB_FRAME_BRS.ij p b) && ! (fdf && v.on (Obj.FBC_CFG_BRS_EN.i p))) ||
    (v.on (Obj.FBC_TXB_FRAME_RTR.ij p b) && fdf) || (v.bufOn p b && v.on (Obj.FBC_CFG_LISTEN.i p))

def rule0606 (v : State) : Option Failure :=
  fails 0x0606 (allPorts.flatMap fun p => (pairs ((List.range 32).filter (v.bufOn p))).map fun x => (p, x.1, x.2))
    (fun x => v.bufId x.1 x.2.1 == v.bufId x.1 x.2.2 && v.bufXtd x.1 x.2.1 == v.bufXtd x.1 x.2.2)
    (fun x => [Obj.FBC_TXB_BIND_ID.ij x.1 x.2.2, Obj.FBC_TXB_BIND_ID.ij x.1 x.2.1]) <|>
  fails 0x0606 (allPorts.flatMap fun p => (List.range 32).map fun b => (p, b)) (fun x => v.bufBad x.1 x.2)
    (fun x => [Obj.FBC_TXB_FRAME_FDF.ij x.1 x.2])

def State.mapBad (v : State) (p m : Nat) : Bool :=
  let k := v.rd (Obj.FBC_MAP_INDEX.ij p m)
  let o := v.rd (Obj.FBC_MAP_OWNER.ij p m)
  let target := if v.on (Obj.FBC_MAP_DIR.ij p m) then decide (k < 32) && v.bufOn p k && v.bufOwner p k == o
    else v.on (Obj.FBC_FLT_ENABLE.ij p k) && v.on (Obj.FBC_FLT_TO_MAP.ij p k) && v.rd (Obj.FBC_FLT_OWNER.ij p k) == o
  ! target || decide (512 < v.rd (Obj.FBC_MAP_BIT_OFF.ij p m) + v.rd (Obj.FBC_MAP_WIDTH_M1.ij p m) + 1)

def State.mapsOn (v : State) : List (Nat × Nat) := allPorts.flatMap fun p => ((List.range 512).filter (v.mapOn p)).map fun m => (p, m)

def rule0607 (v : State) : Option Failure :=
  fails 0x0607 v.mapsOn (fun x => v.mapBad x.1 x.2) (fun x => [Obj.FBC_MAP_INDEX.ij x.1 x.2])

def rule0608 (v : State) : Option Failure :=
  fails 0x0608 [()] (fun _ => decide (4096 < v.mapsOn.length)) (fun _ => v.mapsOn.map fun x => Obj.FBC_MAP_ENABLE.ij x.1 x.2)

/-- The OWNER fields of a port: buffers, filters, FIFOs, mappings. -/
def ownerFlds (p : Nat) : List Fld :=
  ((List.range 32).map fun b => Obj.FBC_TXB_CTRL_OWNER.ij p b) ++ ((List.range 64).map fun k => Obj.FBC_FLT_OWNER.ij p k) ++
  ((List.range 8).map fun k => Obj.FBC_FIFO_OWNER.ij p k) ++ ((List.range 512).map fun m => Obj.FBC_MAP_OWNER.ij p m)

def rule0609 (v : State) : Option Failure :=
  fails 0x0609 (allPorts.flatMap fun p => (ownerFlds p).map fun f => (p, f))
    (fun x => v.rd x.2 != 0xFE && ! (v.exists? (v.rd x.2) && v.ownsRange x.1 (v.rd x.2))) (fun x => [x.2])

/-! ### Table 11-3 -/

def State.allRanges (v : State) : List (Nat × Nat) := allPorts.flatMap fun p => (v.rangesOn p).map fun r => (p, r)

def rule060A (v : State) : Option Failure :=
  fails 0x060A v.allRanges (fun x => decide (v.rd (Obj.FBC_RNG_HIGH.ij x.1 x.2) < v.rd (Obj.FBC_RNG_LOW.ij x.1 x.2)) ||
    (! v.on (Obj.FBC_RNG_XTD.ij x.1 x.2) && decide (0x7FF < v.rd (Obj.FBC_RNG_HIGH.ij x.1 x.2)))) (fun x => [Obj.FBC_RNG_HIGH.ij x.1 x.2])

def rule060B (v : State) : Option Failure :=
  fails 0x060B v.allRanges (fun x => ! v.exists? (v.rd (Obj.FBC_RNG_OWNER.ij x.1 x.2))) (fun x => [Obj.FBC_RNG_OWNER.ij x.1 x.2])

def rule060C (v : State) : Option Failure := fails 0x060C v.rangePairs (fun x => v.overlap x.1 x.2.1 x.2.2) rangeFlds

/-! ### Table 12-5 -/

/-- Rates of Table 12-4. -/
def baudOk (p mode baud : Nat) : Bool :=
  if isDali p then baud == 1200
  else if isMbus p then [300, 2400, 9600].contains baud
  else if mode = 1 then [9600, 19200, 38400, 57600, 76800, 115200].contains baud
  else decide (1200 ≤ baud ∧ baud ≤ 115200)

def rule0620 (v : State) : Option Failure :=
  fails 0x0620 (List.range 16) (fun p => decide ((if isRs485 p then 2 else 1) < v.lmode p)) (fun p => [Obj.LBX_PORT_MODE.i p]) <|>
  fails 0x0620 (List.range 16) (fun p => v.lmode p != 0 && ! baudOk p (v.lmode p) (v.rd (Obj.LBX_PORT_BAUD.i p)))
    (fun p => [Obj.LBX_PORT_BAUD.i p])

def State.lmapsOn (v : State) : List Nat := (List.range 2048).filter v.lmapOn

def rule0621 (v : State) : Option Failure :=
  fails 0x0621 v.lmapsOn (fun m => v.lmode (v.lmapPort m) == 0) (fun m => [Obj.LBX_MAP_PORT.i m])

/-- Whether a mapping's ADDR suits its protocol and direction (R316 to R319). -/
def State.addrOk (v : State) (m : Nat) : Bool :=
  let p := v.lmapPort m
  let a := v.rd (Obj.LBX_MAP_ADDR.i m)
  let w := v.lmapWrite m
  if isDali p then decide (a < 64) || (w && (a == 0xFF || decide (0x40 ≤ a ∧ a < 0x50)))
  else if isMbus p then decide (1 ≤ a ∧ a ≤ 250)
  else if v.lmode p = 1 then decide (a % 256 ≤ 254) && a % 256 != v.rd (Obj.LBX_PORT_LOCAL_ADDR.i p)
  else decide (a ≤ 247) && (w || a != 0)

def rule0622 (v : State) : Option Failure := fails 0x0622 v.lmapsOn (fun m => ! v.addrOk m) (fun m => [Obj.LBX_MAP_ADDR.i m])

/-- Whether SELECT and FORMAT suit the protocol and the direction. -/
def State.selectOk (v : State) (m : Nat) : Bool :=
  let p := v.lmapPort m
  let sel := v.rd (Obj.LBX_MAP_SELECT.i m)
  let f := v.rd (Obj.LBX_MAP_FORMAT.i m)
  let w := v.lmapWrite m
  if isDali p then f == 7 && (w || decide (sel % 256 ≤ 3))
  else if isMbus p then ! w && (f == 0 || f == 7)
  else if v.lmode p = 1 then f == 7
  else decide (1 ≤ f ∧ f ≤ 6 ∧ sel < 2 ^ 24) &&
    (if w then [5, 6, 16] else [1, 2, 3, 4]).contains (bits sel 16 8)

def rule0623 (v : State) : Option Failure := fails 0x0623 v.lmapsOn (fun m => ! v.selectOk m) (fun m => [Obj.LBX_MAP_SELECT.i m])

def rule0624 (v : State) : Option Failure :=
  fails 0x0624 v.lmapsOn (fun m => let t := v.rd (Obj.LBX_MAP_PERIOD.i m)
    if v.lmapWrite m then t != 0 && ! decide (100 ≤ t ∧ t ≤ 10000) else ! decide (10 ≤ t ∧ t ≤ 10000)) (fun m => [Obj.LBX_MAP_PERIOD.i m])

/-- 0x0640: VIDs, and the PVID of the ports for tenants that are in use. -/
def rule0640 (v : State) : Option Failure :=
  fails 0x0640 (pairs v.vlansOn) (fun x => v.vlanVid x.1 == v.vlanVid x.2) (fun x => [Obj.NSW_VLAN_VID.i x.2]) <|>
  fails 0x0640 v.vlansOn (fun i => v.vlanVid i == v.rd Obj.NSW_BB_VID.f) (fun i => [Obj.NSW_VLAN_VID.i i]) <|>
  fails 0x0640 ((List.range 6).filter fun p => decide (2 ≤ p) && v.on (Obj.NSW_PORT_CFG_ENABLE.i p))
    (fun p => let d := v.rd (Obj.NSW_PORT_PVID.i p)
      if d = 0 then ! v.on (Obj.NSW_PORT_CFG_MODE.i p) else ! v.vlansOn.any fun i => v.vlanVid i == d && v.member i p)
    (fun p => [Obj.NSW_PORT_PVID.i p])

def State.servicesOn (v : State) : List Nat := (List.range 4096).filter fun m => v.on (Obj.NSW_SE_ENABLE.i m)
def State.seOwner (v : State) (m : Nat) : Nat := v.rd (Obj.NSW_SE_OWNER.i m)
def State.bacnetOn (v : State) : List Nat := v.servicesOn.filter fun m => ! v.on (Obj.NSW_SE_SERVICE.i m)

def rule0641 (v : State) : Option Failure :=
  fails 0x0641 v.servicesOn (fun m => v.ownerPt (v.rd (Obj.NSW_SE_POINT.i m)) != v.seOwner m) (fun m => [Obj.NSW_SE_POINT.i m]) <|>
  fails 0x0641 (pairs v.bacnetOn) (fun x => v.seOwner x.1 == v.seOwner x.2 &&
    v.rd (Obj.NSW_SE_OBJ_TYPE.i x.1) == v.rd (Obj.NSW_SE_OBJ_TYPE.i x.2) &&
    v.rd (Obj.NSW_SE_INSTANCE.i x.1) == v.rd (Obj.NSW_SE_INSTANCE.i x.2)) (fun x => [Obj.NSW_SE_INSTANCE.i x.2]) <|>
  fails 0x0641 v.bacnetOn (fun m => v.on (Obj.NSW_SE_WRITABLE.i m) && ! commandable.contains (v.rd (Obj.NSW_SE_OBJ_TYPE.i m)))
    (fun m => [Obj.NSW_SE_WRITABLE.i m])

def rule0642 (v : State) : Option Failure :=
  let served := (v.bacnetOn.map v.seOwner).eraseDups
  fails 0x0642 (pairs served) (fun x => v.rd (Obj.NSW_SVC_BAC_DEV_INST.i x.1) == v.rd (Obj.NSW_SVC_BAC_DEV_INST.i x.2))
    (fun x => [Obj.NSW_SVC_BAC_DEV_INST.i x.2, Obj.NSW_SVC_BAC_DEV_INST.i x.1]) <|>
  fails 0x0642 v.servicesOn (fun m => ! v.vlansOn.any fun i => v.vlanOwner i == v.seOwner m) (fun m => [Obj.NSW_SE_ENABLE.i m])

/-! ### The rest of R104 -/

def rule0701 (v : State) : Option Failure := fails 0x0701 v.compartments (fun c => v.lastBlk c == 0) (fun c => [areaFld c])

/-- Checks 5 to 10 of R104. -/
def tables5to10 : List (State → Option Failure) :=
  [rule0501, rule0502, rule0503, rule0504, rule0505, rule0510, rule0601, rule0602, rule0603, rule0604, rule0605, rule0606,
   rule0607, rule0608, rule0609, rule060A, rule060B, rule060C, rule0620, rule0621, rule0622, rule0623, rule0624, rule0640,
   rule0641, rule0642, rule0701]

/-- Tenants exist only in PROVISIONED and OPERATIONAL (R390). -/
def rule0904 (base v : State) : Option Failure :=
  fails 0x0904 allComps (fun c => decide (2 ≤ c) && v.exists? c && ! base.exists? c && base.lcy.state != 2 && base.lcy.state != 3)
    (fun _ => [Obj.CAST_COMP_EXIST.f])

/-- During a trial or an adjournment a staged field fits the previous settings format (R411). -/
def rule0A51 (base : State) (p : CastPart) : Option Failure :=
  fails 0x0A51 (if base.onTrial || base.adjourned then p.cells else [])
    (fun x => ! Config.formatHolds (base.rd (Obj.UPD_SLOT_SETTINGS_FMT.i (1 - base.active))) x.1.bit) (fun x => [x.1])

/-- Checks 1 to 3 of R104, on the staged image. -/
def imageFailure (s : State) (p : CastPart) : Option Failure :=
  match p.image with
  | none => none
  | some d =>
    if ! d.verified then some { code := 0x043F, at_ := [Obj.SCE_IMG_STG_HASH.bi p.comp 0] }
    else match s.loaderCheck p.comp d with
      | some (code, ix) => some { code := code, index := ix, at_ := [Obj.SCE_IMG_STG_HASH.bi p.comp 0] }
      | none => match s.blockedBy p.comp (Raw.of d.bytes).image with
        | f :: _ => some { code := 0x0440, at_ := [Obj.FORCE_STATE.bi p.comp f.ix] }
        | [] => none

/-- The whole of R104: a part judged over the settings as they stand in `base`. -/
def judgePart (s base : State) (p : CastPart) : Option Failure :=
  let v := base.lay p
  imageFailure s p <|> firstFailure table46 v <|> firstFailure tables5to10 v <|> rule0904 base v <|> rule0A51 s p

/-! ### Where a failure is shown (R102) -/

def Fld.addr (f : Fld) : Nat := f.bit / 32 * 4

/-- Whether a field of a failure is one of the requester's own: in its bank, or a word it sees that has no banks. -/
def State.ownField (s : State) (c : Nat) (f : Fld) : Bool :=
  if (Obj.parts f.addr).any (·.row.banked) then f.bank == c else s.sight c f.addr != .hidden

/-- The index and address a requester is told. -/
def State.failureAt (s : State) (c : Nat) (x : Failure) : Nat × Nat :=
  match (if c = 0 then x.at_ else x.at_.filter (s.ownField c)) with
  | f :: _ => (x.index, f.addr)
  | [] => (0, 0x10000)

/-- A failed check or commit: what CAST_CHECK_DETAIL and CAST_CHECK_ADDR show, and the payload of the response. -/
def State.showFailure (s : State) (c : Nat) (x : Failure) : State × Bytes :=
  let a := s.failureAt c x
  (s.wrs [(Obj.CAST_CHECK_DETAIL.b c, x.code), (Obj.CAST_CHECK_ADDR.b c, a.2)], detailRecord x.code a.1 a.2)

/-! ### The lead (R105) -/

/-- The unit of Table 4-8 whose shadow bank a field reaches: 0 and 1 SCE, 2 MAE, 3 FBC, 4 LBX, 5 NSW; none for a setting
that SUP switches. -/
def unitOf (f : Fld) : Option Nat :=
  let a := f.addr
  if 0x110000 ≤ a ∧ a < 0x112000 then some ((a - 0x110000) / 0x1000)
  else if 0x11100 ≤ a ∧ a < 0x11200 then some ((a - 0x11100) / 0x80)
  else if 0x400000 ≤ a ∧ a < 0x800000 then some 2
  else if 0x800000 ≤ a ∧ a < 0x980000 then some 3
  else if 0xA00000 ≤ a ∧ a < 0xB00000 then some 4
  else if 0xB00000 ≤ a ∧ a < 0xC00000 then some 5
  else none

def reachesUnit (l : Cells) (u : Nat) : Bool := l.any fun x => unitOf x.1 == some u

/-- CAST_LEAD_MIN of a staging, in µs. -/
def leadOf (cells : Cells) (image : Option ImageData) : Nat :=
  let bytes := match image with
    | some d => let g := (Raw.of d.bytes).image; g.codeBytes 0 + g.codeBytes 1 + g.instBytes
    | none => 0
  roundUp (2000 + 500 * ([2, 3, 4, 5].filter (reachesUnit cells)).length + (bytes + 1023) / 1024) 1000

/-! ### CMD_CAST_CHECK (R101) -/

/-- What a pending Castling still lays: one whose units have switched has placed its images. -/
def Castling.laid (g : Castling) : List CastPart := if g.switched then g.parts.map fun p => { p with image := none } else g.parts

/-- The parts pending up to an instant, in instant order. -/
def State.pendingParts (s : State) (till : Nat) : List CastPart := (s.castlings.filter fun x => decide (x.tC ≤ till)).flatMap Castling.laid

/-- The latest instant a commit made now could name. -/
def State.horizon (s : State) : Nat := s.floorTime + 86400000000000

def castCheck (q : Req) (s : State) : State × Reply :=
  let g := s.staging q.comp
  if ! permitted .all m5to9 q s then (s, .no St.notPermitted)
  else if q.payload ≠ [] then (s, .no St.badPayload)
  else if s.failed 14 then (s, .no St.unitFailed)
  else if g.state = 0 then (s, .check 0x0119)
  else if g.state = 2 then (s, .check 0x011A)
  else (s.putStaging q.comp { g with state := 2 }, .pending (.castCheck q.comp))

def execCmdCastCheck (f : Frame) (s : State) : Host.Outcome State Fault Refusal := command 0x0302 castCheck f s

/-- Apply a write that was held while its staging was being checked, and answer it (R100). -/
def State.applyHeld (s : State) (c : Nat) (h : HeldWrite) : State :=
  let fin (t : State) (st : Nat) (p : Bytes) : State := t.finish (.held h.sid h.seq) st p
  match h.op with
  | .words entries =>
    let ws := entries.flatMap fun e => (List.range e.2.length).map fun i => (e.1 + 4 * i, e.2.getD i 0)
    fin (s.performWrite c ws fun _ => 0) St.ok []
  | .image off size data => match s.imageWrite c off size data with
    | (t, st, missing) => if st = St.ok then fin t St.ok (le 4 missing) else fin s st []
  | .drop => fin (s.imageDrop c) St.ok []

/-- CAST_CHECK_DONE: the check ends with a token and the lead, or with the first failure; held writes then apply. -/
def castCheckDone (c : Nat) (s : State) : State :=
  let g := s.staging c
  if g.state ≠ 2 then s
  else
    let part : CastPart := { comp := c, cells := g.cells, image := g.image, lead := 0 }
    let done := match judgePart s (s.layAll (s.pendingParts s.horizon)) part with
      | none =>
        let (token, s1) := s.draw
        let lead := leadOf g.cells g.image
        ((s1.putStaging c { g with state := 3, token := token % 2 ^ 32, lead := lead, held := [] }).wr (Obj.CAST_LEAD_MIN.b c) lead).finish
          (.castCheck c) St.ok (le 4 token ++ le 4 lead ++ le 4 g.bytes)
      | some x =>
        let (s1, p) := s.showFailure c x
        (s1.putStaging c { g with state := 1, held := [] }).finish (.castCheck c) St.checkFailed p
    g.held.foldl (fun t h => t.applyHeld c h) done

def execCastCheckDone (comp t : Nat) (s : State) : Host.Outcome State Fault Refusal := .next (castCheckDone comp (s.advance t))

end Sys2Proof.Machine
end

