-- ==== Sys2Proof/Machine/Castling.lean ====
section
/-!
DEFINITION. Castling (spec/04 R106 to R118): commit and abort, arming and confirmation, the switch of SUP and of every
armed unit at the instant, the split latch of the MAE, and the mark that ends it.
-/
namespace Sys2Proof.Machine

/-! ### Pending Castlings -/

/-- The lead of a pending Castling: the greatest of its parts. -/
def Castling.lead (g : Castling) : Nat := g.parts.foldl (fun m p => max m p.lead) 2000

/-- A part put among the pending Castlings: it joins the one of its instant, or stands as a new one in instant order. -/
def insertPart (id tC : Nat) (p : CastPart) : List Castling → List Castling
  | [] => [{ id := id, tC := tC, parts := [p] }]
  | g :: r =>
    if g.tC = tC then { g with parts := g.parts ++ [p] } :: r
    else if tC < g.tC then { id := id, tC := tC, parts := [p] } :: g :: r
    else g :: insertPart id tC p r

/-- The first pending Castling that stands too close behind the one before it (R107) or fails Table 4-6 (R106). -/
def badGroup (v : State) (prev : Option Castling) : List Castling → Option Castling
  | [] => none
  | g :: r =>
    let v1 := v.layAll g.laid
    if (prev.any fun a => decide (g.tC < a.tC + 1000 * g.lead)) || (firstFailure table46 v1).isSome then some g
    else badGroup v1 (some g) r

/-- The parts of a list of Castlings up to an instant. -/
def partsTill (l : List Castling) (tC : Nat) : List CastPart := (l.filter fun g => decide (g.tC ≤ tC)).flatMap Castling.laid

/-- What the last conditions of R106 say of a part among some pending Castlings: the re-check of R104, then spacing and
Table 4-6. A re-check that fails only for what is pending is the last condition's failure. -/
def State.judgeCommit (s : State) (l : List Castling) (p : CastPart) (tC : Nat) : Option Failure :=
  match judgePart s (s.layAll (partsTill l tC)) p with
  | some x => if (judgePart s s p).isNone then some { code := 0x0116, at_ := [] } else some x
  | none => if (badGroup s none (insertPart s.castNext tC p l)).isSome then some { code := 0x0116, at_ := [] } else none

/-- A part that OVERRIDE may cancel: neither C00's nor the AGM's (R108). -/
def CastPart.overridable (p : CastPart) : Bool := p.comp != 0 && p.comp != vendorTag

/-- The pending Castlings with the parts of other compartments taken out of the one OVERRIDE cancels next: the failing
one, or the latest before it that has such a part. -/
def State.overrideOne (s : State) (l : List Castling) (p : CastPart) (tC : Nat) : List Castling :=
  let till := match badGroup s none (insertPart s.castNext tC p l) with | some g => max tC g.tC | none => tC
  match ((l.filter fun g => decide (g.tC ≤ till) && g.parts.any CastPart.overridable).getLast?) with
  | some v => (l.map fun g => if g.tC = v.tC then { g with parts := g.parts.filter fun q => ! q.overridable } else g).filter
      fun g => ! g.parts.isEmpty
  | none => l

/-- The pending Castlings that remain once OVERRIDE has cancelled enough, if any do (R108). -/
def State.overrideList (s : State) (p : CastPart) (tC : Nat) : Nat → List Castling → Option (List Castling)
  | 0, _ => none
  | n + 1, l => match s.judgeCommit l p tC with
    | none => some l
    | some x => if x.code = 0x0116 then s.overrideList p tC n (s.overrideOne l p tC) else none

/-! ### The end of a part -/

/-- CAST_LAST.RESULT (Table 4-7). -/
def castApplied : Nat := 1
def castDegraded : Nat := 2
def castAborted : Nat := 3
def castPower : Nat := 4
def castOwner : Nat := 5
def castFailedArm : Nat := 6

/-- The DETAIL of the events that end a Castling: identifier, result, T_C. -/
def castDetail (id result tC : Nat) : Bytes := le 4 id ++ le 1 result ++ le 3 0 ++ le 8 tC

/-- What the end of a part leaves in its compartment's bank (R113). -/
def State.endPart (s : State) (c id tC result : Nat) : State :=
  if c ≥ 34 then s
  else
    let s1 := (s.wrs [(Obj.CAST_LAST_RESULT.b c, result), (Obj.CAST_LAST_INSTANT.b c, tC), (Obj.CAST_LAST_ID.b c, id),
      (Obj.CAST_PEND_INSTANT.b c, 0), (Obj.CAST_PEND_ID.b c, 0)]).set1 (Obj.CAST_EVT_ENDED.b c)
    if s1.rd (Obj.EXCH_STATE.b c) = 1 then s1.wrs [(Obj.EXCH_STATE.b c, 0), (Obj.EXCH_CAST_ID.b c, 0), (Obj.EXCH_T_C.b c, 0)] else s1

/-- A re-plan of the AGM that was not applied is formed again later (R461). -/
def State.planLost (s : State) : State :=
  match s.agm.plan with
  | none => s
  | some p =>
    { s with agm := { s.agm with plan := none, retryAt := some (s.floorTime + if p.urgent then 1000000000 else 60000000000) } }.wrs
      [(Obj.AGM_STATUS_PLAN_PENDING.f, 0), (Obj.AGM_STATUS_URGENT.f, 0), (Obj.AGM_PLAN_T_C.f, 0)]

/-- A part ends without being applied, with its event. -/
def State.cancelPart (s : State) (g : Castling) (trigger result : Nat) (p : CastPart) : State :=
  if p.comp = vendorTag then s.planLost
  else (s.endPart p.comp g.id g.tC result).log p.comp trigger (castDetail g.id result g.tC)

/-- Every part of a Castling ends without being applied. -/
def State.cancelAll (s : State) (g : Castling) (trigger result : Nat) : State :=
  (g.parts.foldl (fun (t : State) p => t.cancelPart g trigger result p)
    { s with castlings := s.castlings.filter fun x => x.id != g.id }).fixStep

/-! ### Commit (R106 to R109) -/

/-- Whether an instant is one that a commit may name now (R106). -/
def State.instantOk (s : State) (tC lead : Nat) : Bool :=
  tC % 1000000 == 0 && decide (s.floorTime + max 2000000 (1000 * lead) ≤ tC ∧ tC ≤ s.horizon)

/-- Accept a part: those OVERRIDE cancelled end, and the part joins the pending Castlings. Answers its identifier. -/
def State.acceptPart (s : State) (kept : List Castling) (p : CastPart) (tC : Nat) : State × Nat :=
  let joined := kept.find? fun g => g.tC == tC
  let id := (joined.map (·.id)).getD s.castNext
  let gone := s.castlings.flatMap fun g => (g.parts.filter fun q => ! kept.any fun k => k.id == g.id && k.parts.any fun x => x.comp == q.comp).map
    fun q => (g, q)
  let s1 := { s with castlings := insertPart s.castNext tC p kept,
                     castNext := if joined.isSome then s.castNext else (s.castNext + 1) % 2 ^ 32 }
  (gone.foldl (fun t x => t.cancelPart x.1 0x0302 castOwner x.2) s1, id)

/-- The compartment's bank and staging after an accepted commit: EMPTY, with the Castling pending (R106, R187). -/
def State.showPending (s : State) (c id tC : Nat) (image : Bool) : State :=
  let s1 := ({ s with stagings := s.stagings.del c }.clearImageFields c).wrs
    [(Obj.CAST_STAGE_STATE.b c, 0), (Obj.CAST_STAGE_WRITES.b c, 0), (Obj.CAST_STAGE_BYTES.b c, 0),
     (Obj.CAST_PEND_INSTANT.b c, tC), (Obj.CAST_PEND_ID.b c, id)]
  if image ∧ s1.rd (Obj.SCE_IMG_SIZE.b c) > 0 then
    s1.wrs [(Obj.EXCH_STATE.b c, 1), (Obj.EXCH_CAST_ID.b c, id), (Obj.EXCH_T_C.b c, tC)]
  else s1

/-- Whether a staging reaches a block other than SCE and PIMG (R109). -/
def beyondScan (l : Cells) : Bool := l.any fun x => ! decide (0x100000 ≤ x.1.addr ∧ x.1.addr < 0x400000)

/-- Whether a staging carries a metering field (R394). -/
def stagesMae (l : Cells) : Bool := l.any fun x => decide (0x400000 ≤ x.1.addr ∧ x.1.addr < 0x800000)

/-- Whether a compartment has a part pending. -/
def State.hasPending (s : State) (c : Nat) : Bool := s.castlings.any fun g => g.parts.any fun p => p.comp == c

/-- The conditions of a commit that come before the last one: a refusal, or none. -/
def commitRefusal (q : Req) (s : State) : Option Reply :=
  let g := s.staging q.comp
  if ! permitted .all m5to9 q s then some (.no St.notPermitted)
  else if s.mode = 9 ∨ s.activating then some (.no St.busy)
  else if s.adjourned ∧ beyondScan g.cells then some (.no St.adjourned)
  else if q.payload.length ≠ 16 ∨ (bit (field q.payload 12 4) 0 ∧ q.comp ≠ 0) then some (.no St.badPayload)
  else if s.lcy.jumper ∧ stagesMae g.cells then some (.no St.configLocked)
  else if s.failed 14 then some (.no St.unitFailed)
  else if s.on Obj.TIME_FT_STATE_STEP_DUE.f then some (.check 0x0B01)
  else if g.state ≠ 3 ∨ g.token ≠ field q.payload 8 4 then some (.check 0x0114)
  else if s.hasPending q.comp then some (.check 0x0115)
  else if ! s.instantOk (field q.payload 0 8) g.lead then some (.no St.badValue)
  else if 16 ≤ s.castlings.length then some (.no St.noSpace)
  else none

def castCommit (q : Req) (s : State) : State × Reply :=
  match commitRefusal q s with
  | some r => (s, r)
  | none =>
    let g := s.staging q.comp
    let tC := field q.payload 0 8
    let part : CastPart := { comp := q.comp, cells := g.cells, image := g.image, lead := g.lead }
    let kept := if bit (field q.payload 12 4) 0 then s.overrideList part tC 17 s.castlings
      else if (s.judgeCommit s.castlings part tC).isNone then some s.castlings else none
    match kept with
    | some l =>
      let (s1, id) := s.acceptPart l part tC
      (s1.showPending q.comp id tC g.image.isSome, .ok (le 4 id ++ le 8 tC))
    | none =>
      let (s1, p) := s.showFailure q.comp ((s.judgeCommit s.castlings part tC).getD { code := 0x0116, at_ := [] })
      (s1, .fail St.checkFailed p)

def execCmdCastCommit (f : Frame) (s : State) : Host.Outcome State Fault Refusal := command 0x0303 castCommit f s

/-! ### Abort (R110) -/

/-- Whether what remains of a joined Castling still passes its re-check. -/
def State.remainderOk (s : State) (g : Castling) : Bool :=
  let base := s.layAll ((s.castlings.filter fun x => decide (x.tC < g.tC)).flatMap Castling.laid)
  (List.range g.parts.length).all fun i => match g.parts[i]? with
    | some p => (judgePart s (base.layAll (g.parts.take i)) p).isNone
    | none => true

/-- Take a compartment's part out of its pending Castling; a remainder that fails is cancelled. -/
def State.abortPart (s : State) (g : Castling) (c : Nat) : State :=
  let h : Castling := { g with parts := g.parts.filter fun p => p.comp != c }
  let s1 := (s.endPart c g.id g.tC castAborted).log c 0x0301 (castDetail g.id castAborted g.tC)
  if h.parts.isEmpty then State.fixStep { s1 with castlings := s1.castlings.filter fun x => x.id != g.id }
  else
    let s2 := { s1 with castlings := s1.castlings.map fun x => if x.id = g.id then h else x }
    if s2.remainderOk h then s2 else s2.cancelAll h 0x0301 castFailedArm

def castAbort (q : Req) (s : State) : State × Reply :=
  if ! permitted .all m5to9 q s then (s, .no St.notPermitted)
  else if q.payload.length ≠ 4 ∨ field q.payload 0 1 > 1 then (s, .no St.badPayload)
  else if field q.payload 0 1 = 0 then
    (if (s.staging q.comp).state = 0 then s else s.discardStaging q.comp, .ok [])
  else match s.castlings.find? fun g => g.parts.any fun p => p.comp == q.comp with
    | none => (s, .check 0x0118)
    | some g => if g.tC ≤ s.floorTime + 1000000 then (s, .check 0x0117) else (s.abortPart g q.comp, .ok [])

def execCmdCastAbort (f : Frame) (s : State) : Host.Outcome State Fault Refusal := command 0x0304 castAbort f s

/-! ### Arming and confirmation (R111) -/

/-- The cells a Castling lays, in order, each part's with what follows from it. -/
def State.castCells (s : State) (g : Castling) : List (Fld × Nat) := g.parts.flatMap fun p => s.partCells p.cells

/-- Whether the tasks of an engine drive a point. -/
def State.drives (s : State) (e p : Nat) : Bool :=
  s.compartments.any fun c => (s.tasksOf c).any fun t => t.engine == e && t.outs.contains p

/-- Whether an image runs tasks on an engine. -/
def runsOn (e : Nat) (g : Image) : Bool := g.tasks.any fun t => t.engine == e

/-- Whether a Castling changes the bank of a unit. -/
def State.changesUnit (s : State) (g : Castling) (u : Nat) : Bool :=
  g.parts.any fun p => reachesUnit p.cells u || (decide (u < 2) &&
    ((p.image.any fun d => runsOn u (Raw.of d.bytes).image || (s.prog p.comp).cur.any fun o => runsOn u o.image) ||
     p.cells.any fun x => decide (0x180000 ≤ x.1.addr ∧ x.1.addr < 0x1A0000) && s.drives u ((x.1.addr - 0x180000) / 16)))

/-- CAST_ARM: at T_C − 1 ms SUP arms the units the Castling changes. -/
def castArm (s : State) : State :=
  match s.castlings.find? fun g => g.armed.isNone && decide (g.tC ≤ s.floorTime + 1000000) with
  | some g =>
    let units := (List.range 6).filter (s.changesUnit g)
    { s with castlings := s.castlings.map fun x => if x.id = g.id then { x with armed := some units } else x }
  | none => s

def execCastArm (t : Nat) (s : State) : Host.Outcome State Fault Refusal := .next (castArm (s.advance t))

/-- CAST_CONFIRM_DEADLINE: at T_C − 0.5 ms every armed unit has confirmed, or nothing switches. -/
def castConfirmDeadline (confirmed : List Nat) (s : State) : State :=
  match s.castlings.find? fun g => g.armed.isSome && ! g.confirmed with
  | some g =>
    let s1 := s.advance (g.tC - 500000)
    if (g.armed.getD []).all fun u => confirmed.contains u && ! s.failed u then
      { s1 with castlings := s1.castlings.map fun x => if x.id = g.id then { x with confirmed := true } else x }
    else s1.cancelAll g 0x0301 castFailedArm
  | none => s

def execCastConfirmDeadline (confirmed : List Nat) (s : State) : Host.Outcome State Fault Refusal :=
  .next (castConfirmDeadline confirmed s)

/-! ### Whose resources change (R113) -/

/-- The owners of the resource a field belongs to. -/
def State.ownersAt (v : State) (f : Fld) : List Nat :=
  let a := f.addr
  let o := (a - 0x800000) % 0x10000
  let p := (a - 0x800000) / 0x10000
  if 0x11100 ≤ a ∧ a < 0x11200 then [(f.bit / 8 - 0x11100) % 0x80 / 2]
  else if 0x12000 ≤ a ∧ a < 0x14000 then [v.rd f]
  else if 0x38000 ≤ a ∧ a < 0x38220 then [(a - 0x38000) / 0x10]
  else if 0x420000 ≤ a ∧ a < 0x440000 then
    let ch := if a < 0x430000 then (a - 0x420000) / 0x40 else (a - 0x430000) / 0x100
    ((v.circOf ch).map fun i => v.rd (Obj.MAE_CIRC_OWNER.i i)).toList
  else if 0x440000 ≤ a ∧ a < 0x441800 then
    let i := (a - 0x440000) / 0x20
    if v.circOn i then [v.rd (Obj.MAE_CIRC_OWNER.i i)] else []
  else if 0x462000 ≤ a ∧ a < 0x462200 then [v.rd (Obj.MAE_PULSE_OWNER.i ((a - 0x462000) / 0x40))]
  else if 0x4D0000 ≤ a ∧ a < 0x4D0880 then [(a - 0x4D0000) / 0x40]
  else if 0x800000 ≤ a ∧ a < 0x980000 then
    if 0x200 ≤ o ∧ o < 0x300 then [v.rd (Obj.FBC_RNG_OWNER.ij p ((o - 0x200) / 0x10))]
    else if 0x1000 ≤ o ∧ o < 0x2000 then [v.bufOwner p ((o - 0x1000) / 0x80)]
    else if 0x8000 ≤ o ∧ o < 0x8200 then [v.rd (Obj.FBC_FIFO_OWNER.ij p ((o - 0x8000) / 0x40))]
    else if 0xA000 ≤ o ∧ o < 0xA400 then [v.rd (Obj.FBC_FLT_OWNER.ij p ((o - 0xA000) / 0x10))]
    else if 0xC000 ≤ o ∧ o < 0xD000 then [v.rd (Obj.FBC_MAP_OWNER.ij p ((o - 0xC000) / 8))]
    else []
  else if 0xA00000 ≤ a ∧ a < 0xA01000 then [v.rd (Obj.LBX_PORT_OWNER.i ((a - 0xA00000) / 0x100))]
  else if 0xA08000 ≤ a ∧ a < 0xA10000 then [v.rd (Obj.LBX_PORT_OWNER.i (v.lmapPort ((a - 0xA08000) / 0x10)))]
  else if 0xB02000 ≤ a ∧ a < 0xB02800 then [v.vlanOwner ((a - 0xB02000) / 0x20)]
  else if 0xB04000 ≤ a ∧ a < 0xB06200 then [(a - 0xB04000) / 0x100]
  else if 0xB08000 ≤ a ∧ a < 0xB18000 then [v.seOwner ((a - 0xB08000) / 0x10)]
  else []

/-- The compartments that take part: those that committed, and those whose existence or resources change. -/
def touchedBy (old new : State) (g : Castling) (cells : List (Fld × Nat)) : List Nat :=
  let owners := (cells.filter fun x => old.rd x.1 != x.2).flatMap fun x => old.ownersAt x.1 ++ new.ownersAt x.1
  allComps.filter fun c => (g.parts.any fun p => p.comp == c) || old.exists? c != new.exists? c || owners.contains c

/-! ### The switch of SUP, SCE, FBC, LBX and NSW (R112, R115, R116, R118) -/

/-- A compartment is removed (R86, R98, R356, R367): its plies, forces, staging, pending part, sessions, program, bank,
log and keys go. KSE_CTR survives. -/
def State.removeComp (s : State) (c : Nat) : State :=
  let s1 := ((s.abandon fun p => p.comp == c).cutWaits c).releaseForces c (s.forces c)
  let s2 := (s1.discardStaging c).endSessions fun x => x.comp == c
  let keep := (Obj.KSE_CTR.b c).key
  let s3 := { s2 with
    castlings := (s2.castlings.map fun (g : Castling) => if g.switched then g else { g with parts := g.parts.filter fun p => p.comp != c }).filter
      fun g => ! g.parts.isEmpty,
    scan := { s2.scan with progs := s2.scan.progs.del c, tasks := s2.scan.tasks.filter fun x => x.1 / 32 != c } }
  let s4 := (s3.clearLog c).removeKeys c
  { s4 with regs := s4.regs.filter fun x => x.1.bank != c || x.1.key == keep }.wrs
    [(Obj.EVR_AREA_FIRST_BLK.i (c - 2), 0), (Obj.EVR_AREA_LAST_BLK.i (c - 2), 0)]

/-- A compartment is created (R356, R367): an empty log, its keys, and the ring of an earlier bearer of its number gone. -/
def State.createComp (s : State) (c : Nat) : State :=
  let s1 := (s.clearLog c).createKeys c
  { s1 with mae := { s1.mae with rings := s1.mae.rings.del c } }.wrs
    [(Obj.MAE_SEAL_OLDEST.i c, 0), (Obj.MAE_SEAL_ACKED.i c, 0), (Obj.MAE_SEAL_LOST.i c, 0), (Obj.MAE_SEAL_EVT_LOST.i c, 0),
     (Obj.MAE_SEAL_SIG_STATE.i c, 0)]

/-- What the fields of Tables 6-20 and 5-3 show of an image in force. -/
def State.showProg (s : State) (c : Nat) (p : Prog) : State :=
  let g := p.image
  let s1 := (List.range 12).foldl (fun t i => t.wr (Obj.SCE_IMG_HASH.bi c i) (field g.hash (4 * i) 4)) s
  let s2 := s1.wrs [(Obj.SCE_IMG_SIZE.b c, g.size), (Obj.SCE_IMG_INST.b c, g.insts.length), (Obj.SCE_IMG_CODE_0.b c, g.codeBytes 0),
    (Obj.SCE_IMG_CODE_1.b c, g.codeBytes 1), (Obj.SCE_RET_BYTES.b c, g.retainBytes)]
  let s3 := p.insts.foldl (fun t x => t.wr (Obj.SCE_IMG_MAP.bi c x.ix) x.id) s2
  (List.range 32).foldl (fun t k =>
    let k0 := g.task (k / 16) (k % 16)
    t.wrs [(Obj.SCE_TASK_N_IN.at c [k / 16, k % 16], (k0.map (·.ins.length)).getD 0),
           (Obj.SCE_TASK_N_OUT.at c [k / 16, k % 16], (k0.map (·.outs.length)).getD 0)]) s3

/-- An image comes into force: an exchange where one was (R175, R183), else every instance as new (R170). -/
def State.placeImage (s : State) (c : Nat) (g : Image) : State :=
  match (s.prog c).cur with
  | some _ =>
    let s0 : State := { s with scan := { s.scan with plies := s.scan.plies.map fun p => if p.comp = c then { p with onOld := true } else p } }
    let s1 := s0.beginExchange c g
    let st := s1.rd (Obj.SCE_STATE.b c)
    if st = 0 ∨ st = 4 then s1.transferAll c else s1
  | none =>
    let p := g.place (s.newIds none g)
    s.putProg c { s.prog c with cur := some p, old := none, moved := [], shadow := p.ranges fun _ => true }

/-- Counters of the task pairs that only the new bank enables start at 0 (R176). -/
def State.freshTasks (s old : State) (c : Nat) (exch : Bool) : State :=
  (List.range 32).foldl (fun t k =>
    let e := k / 16
    let i := k % 16
    if (old.enabledTask c e i).isNone && (t.enabledTask c e i).isSome then
      let u := t.resetTask c e i 0
      if exch then u.putTask c e i { (u.task c e i) with first := false, newBank := true } else u
    else t) s

/-- Output points that were none before start at their stop value; points no longer output are forgotten (R177). -/
def State.freshOutputs (s old : State) (c : Nat) : State :=
  let was := old.outputPoints c
  let now := s.outputPoints c
  let s1 := (now.filter fun p => ! was.contains p).foldl (fun t p => t.setOwn c p (t.stopValue c p false)) s
  s1.putProg c { s1.prog c with lastOut := (s1.prog c).lastOut.filter fun x => now.contains x.1 }

/-- The images of a Castling come into force. -/
def State.placeImages (s old : State) (l : List CastPart) : State :=
  l.foldl (fun t p => match p.image with
    | some d =>
      let exch := (t.prog p.comp).cur.isSome
      let u := t.placeImage p.comp (Raw.of d.bytes).image
      match (u.prog p.comp).cur with
      | some g => ((u.showProg p.comp g).freshTasks old p.comp exch).freshOutputs old p.comp
      | none => u
    | none => (t.freshTasks old p.comp false).freshOutputs old p.comp) s

/-- SOURCE of every point with a source before or after follows the settings; a change of source ends STALE (R23). -/
def State.judgeSources (s old : State) : State :=
  let before := old.sources
  let after := s.sources
  (((before ++ after).map (·.1)).eraseDups).foldl (fun t p =>
    let k := ((after.find? fun x => x.1 == p).map fun x => x.2.1).getD 0
    if t.source p = k then t else t.wrs [(Obj.PIMG_ATTR_SOURCE.i p, k), (Obj.PIMG_ATTR_STALE.i p, 0)]) s

/-- Forces on points that leave their compartment are released. -/
def State.pointsMoved (s old : State) : State :=
  old.compartments.foldl (fun t c => t.releaseForces c ((t.forces c).filter fun f =>
    f.kind == 0 && old.ownerPt f.point == c && t.ownerPt f.point != c)) s

/-- Whether the bit timing of a port changes. -/
def timingFlds (p : Nat) : List Fld :=
  [Obj.FBC_CFG_FD_EN.i p, Obj.FBC_CFG_BRS_EN.i p, Obj.FBC_CFG_TRIPLE.i p, Obj.FBC_NBT_NBRP.i p, Obj.FBC_NBT_NTSEG1.i p,
   Obj.FBC_NBT2_NTSEG2.i p, Obj.FBC_NBT2_NSJW.i p, Obj.FBC_DBT_DBRP.i p, Obj.FBC_DBT_DTSEG1.i p, Obj.FBC_DBT_DTSEG2.i p,
   Obj.FBC_DBT_DSJW.i p]

/-- One CAN port at the switch (R116): requests whose binding went, FIFOs that changed hands, listening, bit timing. -/
def State.switchPort (s old : State) (p : Nat) : State :=
  let gone := (List.range 32).filter fun b => old.bufOn p b && ! s.bufOn p b && (s.txState p b == txPending || s.txState p b == txHeld)
  let s1 := gone.foldl (fun t b => (t.putTxReq p b { (t.txReq p b) with again := false }).endTx p b txCancelled 5) s
  let s2 := ((List.range 8).filter fun k => s.rd (Obj.FBC_FIFO_OWNER.ij p k) != old.rd (Obj.FBC_FIFO_OWNER.ij p k)).foldl
    (fun t k => t.popFifo p k 80) s1
  let on := s2.portState p == portRunning || s2.portState p == portListening
  let s3 := if on then s2.wr (Obj.FBC_STATE.i p) (if s2.on (Obj.FBC_CFG_LISTEN.i p) then portListening else portRunning) else s2
  let s4 := if on && (timingFlds p).any fun f => s.rd f != old.rd f then s3.wr (Obj.FBC_STATE.i p) portIntegrating else s3
  s4.select p

/-- The FBC at the switch; the bank before it serves frames that started earlier (R116). -/
def State.switchFbc (s old : State) (tC : Nat) (g : Castling) : State :=
  let s1 := (List.range 24).foldl (fun t p => t.switchPort old p) { s with fbc := { s.fbc with old := some (tC, old.regs) } }
  (List.range 24).foldl (fun t p =>
    if g.parts.any fun q => q.comp == 0 && (stagedValue q.cells (Obj.FBC_TDCO.i p)).isSome then
      t.wr (Obj.AGM_CAN_TDCV_REF.i p) (t.rd (Obj.AGM_CAN_TDCV_MAX.i p)) else t) s1

/-- The event recorder at the switch (R349, R355). -/
def State.switchEvr (s old : State) (cells : List (Fld × Nat)) : State :=
  let s1 := cells.foldl (fun t x =>
    if 0x33000 ≤ x.1.addr ∧ x.1.addr < 0x33200 then
      { t with evr := { t.evr with watch := t.evr.watch.del (watchKey x.1.bank ((x.1.addr - 0x33000) / 0x20)) } }
    else t) s
  (s1.compartments.filter old.exists?).foldl (fun t c => t.resizeLog c (old.firstBlk c) (old.lastBlk c)) s1

/-- TLS sessions whose VLAN no longer carries their compartment end (R118). -/
def State.switchSessions (s : State) : State :=
  s.endSessions fun x => ! x.usb && match x.conn.bind s.connOf with
    | some k => ! s.vlanCarries k x.comp
    | none => false

/-- Split the cells of a Castling: those that switch now, those of the MAE, those of units that failed. -/
def nowCells (failed : List Nat) (l : List (Fld × Nat)) : List (Fld × Nat) :=
  l.filter fun x => match unitOf x.1 with | some u => u != 2 && ! failed.contains u | none => true
def maeCells (failed : List Nat) (l : List (Fld × Nat)) : List (Fld × Nat) :=
  l.filter fun x => unitOf x.1 == some 2 && ! failed.contains 2
def deadCells (failed : List Nat) (l : List (Fld × Nat)) : List (Fld × Nat) :=
  l.filter fun x => match unitOf x.1 with | some u => failed.contains u | none => false

/-- The derating flag follows the plan (R457). -/
def State.judgeClock (s : State) : State := s.wr Obj.AGM_STATUS_DERATED.f (b2n (decide (s.rd Obj.AGM_PLAN_SCE_CLK.f < 800)))

/-- The switch at T_C of everything but the MAE. -/
def State.switchNow (s : State) (g : Castling) : State :=
  let cells := s.castCells g
  let failed := (g.armed.getD []).filter s.failed
  let now := nowCells failed cells
  let new := s.wrs now
  let gone := s.tenants.filter fun c => ! new.exists? c
  let born := allComps.filter fun c => ! s.exists? c && new.exists? c
  let s1 := (gone.foldl State.removeComp s.markCycles).wrs now
  let s2 := born.foldl State.createComp { s1 with castBoot := (deadCells failed cells).foldl (fun c x => stagePut c x.1 x.2) s1.castBoot }
  let s3 := ((s2.pointsMoved s).placeImages s (g.parts.filter fun p => p.comp < 34)).judgeSources s
  let s4 := if (g.armed.getD []).contains 3 && ! failed.contains 3 then s3.switchFbc s g.tC g else s3
  let s5 := ((s4.placePorts.placeLegacy.switchEvr s now).switchSessions).judgeClock
  let sealedGone := gone.filter fun c => s.on (Obj.MAE_SEAL_ENABLE.i c)
  let h : Castling := { g with
    switched := true, failed := failed, maeDone := s.failed 2 || ((maeCells failed cells).isEmpty && sealedGone.isEmpty),
    touched := touchedBy s (s.wrs cells) g cells, removed := sealedGone }
  let s6 : State := { s5 with castlings := s5.castlings.map fun x => if x.id = g.id then h else x }
  ({ s6 with power := { s6.power with configured := true } }.purgeBefore g.tC).judgeMode

/-- CAST_INSTANT: the confirmed Castling whose instant has come switches. A reset or an entry to M1 under way leaves it to
R114. -/
def castInstant (s : State) : State :=
  match s.castlings.find? fun g => g.confirmed && ! g.switched && decide (g.tC ≤ s.floorTime) with
  | some g => if s.power.transition.any fun x => x.target == 1 || x.target == 3 then s else s.switchNow g
  | none => s

def execCastInstant (t : Nat) (s : State) : Host.Outcome State Fault Refusal := .next (castInstant (s.advance t))

/-! ### The MAE (R117, R219, R222, R244, R246) -/

/-- The words of R222 of a circuit's channels, with the first `n` segments of each, or all that SEG_COUNT names. -/
def State.calBytes (v : State) (i : Nat) (all : Bool) : Bytes :=
  (v.circChannels i).flatMap fun ch =>
    let word (a : Nat) : Bytes := le 4 ((v.wordAt 0 a).getD 0)
    let set := v.rd (Obj.MAE_CH_SET.i ch)
    let input (k : Nat) : Bytes := word (0x410008 + 0x100 * set + 8 * k) ++ word (0x41000C + 0x100 * set + 8 * k)
    ((List.range 5).flatMap fun k => word (0x420000 + 0x40 * ch + 4 * k)) ++
    ((List.range (if all then 16 else v.rd (Obj.MAE_CH_SEG_COUNT.i ch))).flatMap fun g =>
      (List.range 3).flatMap fun k => word (0x430000 + 0x100 * ch + 0x10 * g + 4 * k)) ++
    input (v.rd (Obj.MAE_CH_PHASE.i ch) - 1) ++ input 3

/-- CAL_HASH (R222). -/
def State.calHash (v : State) (i : Nat) : Nat := field (sha384 (v.calBytes i false)) 0 4

/-- The circuits whose correction a switch changes, with whether they are newly in use. -/
def recalOf (old new : State) : List (Nat × Bool) :=
  (new.circsOn.filter fun i => ! old.circOn i || decide (old.calBytes i true ≠ new.calBytes i true)).map fun i => (i, ! old.circOn i)

/-- The seals a Castling asks for at the split latch (R246). -/
def sealsAsked (old new : State) (recal : List (Nat × Bool)) (gone : List Nat) : List (Nat × Nat) :=
  gone.map (fun c => (c, 3)) ++
  ((old.tenants.filter fun c => old.on (Obj.MAE_SEAL_ENABLE.i c) &&
    (old.rd (Obj.MAE_SEAL_INTERVAL.i c) != new.rd (Obj.MAE_SEAL_INTERVAL.i c) ||
     decide (old.sealed c ≠ new.sealed c) || (old.sealed c).any fun i => recal.any fun x => x.1 == i)).map fun c => (c, 1))

/-- One pulse output at the switch (R244). -/
def State.switchPulse (s old : State) (n : Nat) : State :=
  if [Obj.MAE_PULSE_ENABLE, Obj.MAE_PULSE_QUANTITY, Obj.MAE_PULSE_CIRCUIT, Obj.MAE_PULSE_WEIGHT].any fun r => s.rd (r.i n) != old.rd (r.i n) then
    let lost := old.rd (Obj.MAE_PULSE_BACKLOG.i n)
    let s1 := (s.putPulse n { (s.pulse n) with residue := 0, above := false }).wrs
      [(Obj.MAE_PULSE_BACKLOG.i n, 0), (Obj.MAE_PULSE_RESIDUE.i n, 0)]
    s1.logAll (ownerAnd0 (old.rd (Obj.MAE_PULSE_OWNER.i n))) 0x050D (le 1 n ++ le 3 0 ++ le 4 lost)
  else s

/-- Channels and sets that come into use or leave it. -/
def State.switchInputs (s old : State) : State :=
  let s1 := (List.range 192).foldl (fun t ch =>
    if old.chanOn ch == t.chanOn ch then t
    else (t.putChan ch { (t.chan ch) with isOpen := false, split := false, clip := false, sums := {}, startAt := t.floorTime }).wr
      (Obj.MAE_CH_FLAGS_SETTLING.i ch) (b2n (t.chanOn ch && t.on (Obj.MAE_CH_TYPE.i ch)))) s
  (List.range 4).foldl (fun t v =>
    if old.setOn v == t.setOn v then t
    else ((old.mset v).events.foldl (fun u e => u.endEvent v e) t).putMset v {}) s1

/-- The MAE switches banks at its first sample after T_C. -/
def State.switchMae (s : State) (g : Castling) : State :=
  let cells := maeCells g.failed (s.castCells g)
  let new := s.wrs cells
  let recal := recalOf s new
  let s1 := (s.splitLatch (sealsAsked s new recal g.removed)).wrs cells
  let s2 := (List.range 8).foldl (fun t n => t.switchPulse s n) ((s1.abortCal 2).switchInputs s)
  let s3 := if cells.any fun x => decide (x.1.addr < 0x450000) && s.rd x.1 != x.2 then s2.inc Obj.MAE_CFG_GEN.f else s2
  let s4 := s3.judgeSources s
  { s4 with castlings := s4.castlings.map fun x => if x.id = g.id then { x with maeDone := true, recal := recal } else x }

/-- SPLIT_LATCH. -/
def castSplit (s : State) : State :=
  match s.castlings.find? fun g => g.switched && ! g.maeDone with
  | some g => s.switchMae g
  | none => s

def execSplitLatch (t : Nat) (s : State) : Host.Outcome State Fault Refusal := .next (castSplit (s.advance t))

/-! ### The mark (R113, R222, R460) -/

/-- CAL_GEN, CAL_HASH and CAL_TIME of a circuit, and trigger 0x0511. -/
def State.markCal (s : State) (tC : Nat) (x : Nat × Bool) : State :=
  let i := x.1
  let was := s.rd (Obj.MAE_CIRC_CAL_HASH.i i)
  let now := s.calHash i
  let gen := if x.2 then 0 else s.rd (Obj.MAE_CIRC_CAL_GEN.i i) + 1
  (s.wrs [(Obj.MAE_CIRC_CAL_GEN.i i, gen), (Obj.MAE_CIRC_CAL_HASH.i i, now), (Obj.MAE_CIRC_CAL_TIME.i i, tC)]).logAll
    (ownerAnd0 (s.rd (Obj.MAE_CIRC_OWNER.i i))) 0x0511 (le 4 was ++ le 4 now)

/-- The logs a re-plan is announced to (R460). -/
def State.planLogs (s : State) (visible : Bool) : List Nat :=
  [0, 1] ++ (s.tenants.filter fun c => visible && decide (0 < s.share 0 c + s.share 1 c))

/-- The DETAIL of triggers 0x0C21 and 0x0C22 (R460). -/
def Replan.detail (p : Replan) : Bytes :=
  le 2 p.oldClk ++ le 2 p.clk ++ le 1 p.oldGb ++ le 1 p.gb ++ le 2 0 ++ le 8 p.tC

/-- A re-plan of the AGM has been applied. -/
def State.planApplied (s : State) : State :=
  match s.agm.plan with
  | none => s
  | some p =>
    let stepped := ! p.urgent && (p.clk != p.oldClk || p.gb != p.oldGb)
    let a := { s.agm with plan := none, refused := false, retryAt := none, lastNormal := if stepped then some p.tC else s.agm.lastNormal }
    let s1 := ({ s with agm := a }.inc Obj.AGM_PLAN_GEN.f).wrs
      [(Obj.AGM_STATUS_PLAN_PENDING.f, 0), (Obj.AGM_STATUS_URGENT.f, 0), (Obj.AGM_PLAN_T_C.f, 0)]
    (s1.set1 Obj.AGM_EVT_APPLIED.f).logAll (s.planLogs p.visible) 0x0C22 p.detail

/-- A part that was applied leaves the exchange's own fields to the exchange. -/
def State.endApplied (t : State) (c : Nat) (g : Castling) (result : Nat) : State :=
  if ! t.exists? c then t
  else (t.wrs [(Obj.CAST_LAST_RESULT.b c, result), (Obj.CAST_LAST_INSTANT.b c, g.tC), (Obj.CAST_LAST_ID.b c, g.id),
    (Obj.CAST_PEND_INSTANT.b c, 0), (Obj.CAST_PEND_ID.b c, 0)]).set1 (Obj.CAST_EVT_ENDED.b c)

/-- A Castling is marked applied: it ends in every compartment that took part. -/
def State.markApplied (s : State) (g : Castling) : State :=
  let result := if g.failed.isEmpty then castApplied else castDegraded
  let s1 := g.recal.foldl (fun t x => t.markCal g.tC x) { s with castlings := s.castlings.filter fun x => x.id != g.id }
  let s2 := g.parts.foldl (fun t p => if p.comp = vendorTag then t.planApplied else t.endApplied p.comp g result) s1
  (((s2.inc Obj.CAST_GEN.f).logAll g.touched 0x0301 (castDetail g.id result g.tC)).perf 0 0x06 vendorTag).fixStep

/-- CAST_APPLIED_MARK. -/
def castAppliedMark (s : State) : State :=
  match s.castlings.find? fun g => g.switched && g.maeDone with
  | some g => s.markApplied g
  | none => s

def execCastAppliedMark (t : Nat) (s : State) : Host.Outcome State Fault Refusal := .next (castAppliedMark (s.advance t))

/-! ### Power fail, reset and entry to M1 (R52, R114) -/

/-- Castlings not switched before an instant are cancelled; their compartments are told at the next boot. -/
def State.settleCastlings (s : State) (at_ : Nat) : State :=
  (s.castlings.filter fun g => ! g.switched && decide (at_ ≤ g.tC)).foldl (fun t g =>
    g.parts.foldl (fun u p =>
      if p.comp = vendorTag then u.planLost
      else
        let u1 := u.endPart p.comp g.id g.tC castPower
        { u1 with evr := { u1.evr with deferred := u1.evr.deferred ++
          [(p.comp, u1.deferredRecord 0x0205 (castDetail g.id castPower g.tC))] } })
      { t with castlings := t.castlings.filter fun x => x.id != g.id }) s

end Sys2Proof.Machine
end

