-- ==== Sys2Proof/Machine/Agm.lean ====
section
/-!
DEFINITION. The ageing monitor (spec/20): measurements, the margin plan, re-plans by Castling under the vendor tag, and the
service predictions. The readings of the sensors are operands of the commands.
-/
namespace Sys2Proof.Machine

/-! ### Measurements (R452 to R454) -/

def dayNs : Nat := 86400000000000

/-- Whether a measurement is open in the present mode (Table 20-1), by its row. -/
def State.agmOpen (s : State) (k : Nat) : Bool :=
  let service := decide (5 ≤ s.mode ∧ s.mode ≤ 9)
  if k = 0 then s.mode == 2 || service
  else if k = 1 then decide (2 ≤ s.mode ∧ s.mode ≤ 11)
  else if k ≤ 4 then service
  else if k = 5 ∨ k = 8 then decide (2 ≤ s.mode ∧ s.mode ≤ 9)
  else if k = 6 then service && s.rd Obj.TIME_FT_STATE_SYNC.f == 2
  else if k = 7 then allPorts.any fun p => s.portState p == portRunning
  else false

/-- What of a history lies within a span of the present. -/
def State.recent {α : Type} (s : State) (span : Nat) (l : List (Nat × α)) : List (Nat × α) :=
  l.filter fun x => decide (s.floorTime ≤ x.1 + span)

/-- The value of a day put into a history of 365 days. -/
def State.today (s : State) (l : List (Nat × Nat)) (v : Nat) : List (Nat × Nat) :=
  let d := s.floorTime / dayNs
  ((l.filter fun x => decide (d < x.1 + 365) && x.1 != d)) ++ [(d, v)]

/-- The least value of a list with its place. -/
def worstOf (l : List Nat) : Option (Nat × Nat) :=
  (l.zip (List.range l.length)).foldl (fun m x => match m with | some w => if x.1 < w.1 then some x else some w | none => some x) none

/-- The highest of some values. -/
def highest (l : List Nat) : Nat := l.foldl max 0

/-- The highest of some 16-bit signed values. -/
def highest16 (l : List Nat) : Nat :=
  match l with
  | [] => 0
  | a :: r => r.foldl (fun m v => if sgn 16 m < sgn 16 v then v else m) a

/-- Canaries: the slack of each in 0.01 % of its period. -/
def State.canaryResult (s : State) (v : List Nat) : State :=
  match worstOf (v.take 48) with
  | none => s
  | some w =>
    let l := s.recent (7 * dayNs) (s.agm.canaries ++ [(s.floorTime, w)])
    match worstOf (l.map fun x => x.2.1) with
    | none => s
    | some m =>
      let idx := ((l[m.2]?).map fun x => x.2.2).getD 0
      { s with agm := { s.agm with canaries := l, slackDays := s.today s.agm.slackDays m.1 } }.wrs
        [(Obj.AGM_SLACK_MIN.f, m.1), (Obj.AGM_SLACK_WORST.f, idx)]

/-- Temperatures of the 8 sensors in 0.1 °C. -/
def State.tempResult (s : State) (v : List Nat) : State :=
  match v with
  | [] => s
  | _ =>
    let l := s.recent (7 * dayNs) (s.agm.temps ++ [(s.floorTime, highest16 (v.take 8))])
    { s with agm := { s.agm with temps := l } }.wr Obj.AGM_TEMP_MAX.f (highest16 (l.map fun (x : Nat × Nat) => x.2))

/-- The deepest dip of the core rail in mV. -/
def State.droopResult (s : State) (v : List Nat) : State :=
  match v with
  | [] => s
  | x :: _ =>
    let l := s.recent (7 * dayNs) (s.agm.droops ++ [(s.floorTime, x)])
    { s with agm := { s.agm with droops := l } }.wr Obj.AGM_DROOP_MAX.f (highest (l.map fun (x : Nat × Nat) => x.2))

/-- The holdup test: capacitance in µF and ESR in mΩ; 69.12 µJ for each µF (R43, R453). -/
def State.holdupResult (s : State) (v : List Nat) : State :=
  match v with
  | cap :: esr :: _ =>
    let avail := cap % 65536 * 6912 / 100
    { s with agm := { s.agm with availDays := s.today s.agm.availDays avail } }.wrs
      [(Obj.PWR_HOLDUP_CAP.f, cap), (Obj.PWR_HOLDUP_AVAIL.f, avail), (Obj.AGM_HOLDUP_ESR.f, esr), (Obj.AGM_HOLDUP_TIME.f, s.floorTime)]
  | _ => s

/-- The backup cell: voltage in mV and internal resistance in 0.1 Ω. -/
def State.cellResult (s : State) (v : List Nat) : State :=
  match v with
  | mv :: r :: _ =>
    { s with agm := { s.agm with cellDays := s.today s.agm.cellDays mv, rintDays := s.today s.agm.rintDays r } }.wrs
      [(Obj.PWR_VCELL.f, mv), (Obj.PWR_STATUS_CELL_LOW.f, b2n (decide (mv % 65536 < 2500))), (Obj.AGM_CELL_RINT.f, r)]
  | _ => s

/-- MRAM corrected errors since the last daily measurement. -/
def State.mramResult (s : State) : State :=
  let now := s.rd (Obj.MEM_CE.i 12)
  { s with agm := { s.agm with ceAt := now } }.wr Obj.AGM_MRAM_CE_DAY.f ((now + 2 ^ 32 - s.agm.ceAt) % 2 ^ 32)

/-- TCXO drift: TIME_PTP_FREQ averaged over 24 h. -/
def State.tcxoResult (s : State) : State :=
  let l := s.recent dayNs (s.agm.drift ++ [(s.floorTime, s.rd Obj.TIME_PTP_FREQ.f)])
  let sum := l.foldl (fun (m : Int) x => m + sgn 32 x.2) 0
  { s with agm := { s.agm with drift := l } }.wr Obj.AGM_TCXO_DRIFT.f (uns 32 (sum / (l.length : Int)))

/-- A CAN loop delay of a port in mtq (R259). -/
def State.tdcvResult (s : State) (v : List Nat) : State :=
  match v with
  | p :: x :: _ =>
    if p < 24 ∧ s.portState p = portRunning then
      let d := x % 128
      let l := s.recent (7 * dayNs) (s.agm.tdcv.get [] p ++ [(s.floorTime, d)])
      let top := highest (l.map fun (y : Nat × Nat) => y.2)
      let s1 : State := { s with agm := { s.agm with tdcv := s.agm.tdcv.put p l } }.wrs [(Obj.FBC_TDCV.i p, d), (Obj.AGM_CAN_TDCV_MAX.i p, top)]
      let s2 := if s1.rd (Obj.AGM_CAN_TDCV_REF.i p) = 0 then s1.wr (Obj.AGM_CAN_TDCV_REF.i p) top else s1
      if 127 < d + s2.rd (Obj.FBC_TDCO.i p) then s2.set1 (Obj.FBC_EVT_TDC_RANGE.i p) else s2
    else s
  | _ => s

/-- SFP+ diagnostics of both cages. -/
def State.sfpResult (s : State) (v : List Nat) : State := s.wrs [(Obj.AGM_SFP_A.f, v.getD 0 0 % 4), (Obj.AGM_SFP_B.f, v.getD 1 0 % 4)]

/-- The result of a measurement in its fields. -/
def State.agmResult (s : State) (m : AgmMeasure) : State :=
  if m.kind = 0 then s.canaryResult m.values
  else if m.kind = 1 then s.tempResult m.values
  else if m.kind = 2 then s.droopResult m.values
  else if m.kind = 3 then s.holdupResult m.values
  else if m.kind = 4 then s.cellResult m.values
  else if m.kind = 5 then s.mramResult
  else if m.kind = 6 then s.tcxoResult
  else if m.kind = 7 then s.tdcvResult m.values
  else if m.kind = 8 then s.sfpResult m.values
  else s

/-- The result fields of a measurement as 16 bytes (Table 20-6). -/
def State.agmReply (s : State) (m : AgmMeasure) : Bytes :=
  let fs : List (Nat × Fld) :=
    if m.kind = 0 then [(2, Obj.AGM_SLACK_MIN.f), (2, Obj.AGM_SLACK_WORST.f)]
    else if m.kind = 1 then [(2, Obj.AGM_TEMP_MAX.f)]
    else if m.kind = 2 then [(2, Obj.AGM_DROOP_MAX.f)]
    else if m.kind = 3 then [(2, Obj.PWR_HOLDUP_CAP.f), (2, Obj.AGM_HOLDUP_ESR.f)]
    else if m.kind = 4 then [(2, Obj.PWR_VCELL.f), (2, Obj.AGM_CELL_RINT.f)]
    else if m.kind = 5 then [(4, Obj.AGM_MRAM_CE_DAY.f)]
    else if m.kind = 6 then [(4, Obj.AGM_TCXO_DRIFT.f)]
    else if m.kind = 7 then [(1, Obj.AGM_CAN_TDCV_MAX.i (m.values.getD 0 0)), (1, Obj.AGM_CAN_TDCV_REF.i (m.values.getD 0 0))]
    else [(1, Obj.AGM_SFP_A.f), (1, Obj.AGM_SFP_B.f)]
  let b := fs.flatMap fun x => le x.1 (s.rd x.2)
  b ++ le (16 - b.length) 0

/-! ### Predictions and limits (R463, Table 20-4) -/

/-- The whole days until the least-squares line of a history reaches a limit in its direction, at least 1; none where it
does not reach it. -/
def State.projected (s : State) (l : List (Nat × Nat)) (limit : Nat) (falling : Bool) : Option Nat :=
  let n : Int := l.length
  let sx := l.foldl (fun (m : Int) p => m + (p.1 : Int)) 0
  let sy := l.foldl (fun (m : Int) p => m + (p.2 : Int)) 0
  let sxx := l.foldl (fun (m : Int) p => m + (p.1 : Int) * p.1) 0
  let sxy := l.foldl (fun (m : Int) p => m + (p.1 : Int) * p.2) 0
  let slope := n * sxy - sx * sy
  let spread := n * sxx - sx * sx
  let now : Int := (s.floorTime / dayNs : Nat)
  let sign : Int := if falling then -1 else 1
  if 0 < sign * slope ∧ 0 < spread then
    let num := sign * ((sx - n * now) * slope + (n * limit - sy) * spread)
    let den := sign * slope * n
    some (max 1 ((num + den - 1) / den)).toNat
  else none

/-- The earlier of two predictions. -/
def sooner (a b : Option Nat) : Option Nat :=
  match a, b with
  | some x, some y => some (min x y)
  | some x, none => some x
  | none, y => y

/-- Whether a holdup result exists. -/
def State.holdupKnown (s : State) : Bool := s.rd Obj.AGM_HOLDUP_TIME.f != 0
def State.cellKnown (s : State) : Bool := ! s.agm.cellDays.isEmpty

/-- The limits of Table 20-4 that are reached, each with its number: scan clock floor, holdup below 32,000 µJ, cell,
holdup below its need. -/
def State.slackFloor (s : State) : Bool :=
  ! s.agm.canaries.isEmpty && decide (s.rd Obj.AGM_SLACK_MIN.f < 300) && decide (s.rd Obj.AGM_PLAN_SCE_CLK.f ≤ 600)
def State.availLow (s : State) : Bool := s.holdupKnown && decide (s.rd Obj.PWR_HOLDUP_AVAIL.f < 32000)
def State.cellWeak (s : State) : Bool := s.cellKnown && (decide (s.rd Obj.PWR_VCELL.f < 2500) || decide (1500 < s.rd Obj.AGM_CELL_RINT.f))
def State.holdupShort (s : State) : Bool := s.holdupKnown && decide (s.rd Obj.PWR_HOLDUP_AVAIL.f < s.rd Obj.PWR_HOLDUP_NEED.f)

/-- The days of the three predictions: service life, cell, holdup. -/
def State.lifeDays (s : State) : Option Nat :=
  if s.slackFloor || s.availLow then some 0
  else sooner (s.projected s.agm.slackDays 300 true) (s.projected s.agm.availDays 32000 true)
def State.cellLeft (s : State) : Option Nat :=
  if s.cellWeak then some 0 else sooner (s.projected s.agm.cellDays 2500 true) (s.projected s.agm.rintDays 1500 false)
def State.holdupLeft (s : State) : Option Nat :=
  if s.holdupShort then some 0 else s.projected s.agm.availDays (s.rd Obj.PWR_HOLDUP_NEED.f) true

/-- A prediction as its field holds it. -/
def predicted (o : Option Nat) (unit : Nat) : Nat := match o with | some d => min 0xFFFE ((d + unit - 1) / unit) | none => 0xFFFF

/-- Every limit now crossed, as a number and the port it names. -/
def State.agmCrossings (s : State) : List (Nat × Nat) :=
  let near (o : Option Nat) : Bool := match o with | some d => decide (d ≤ 90) | none => false
  let drift := (sgn 32 (s.rd Obj.AGM_TCXO_DRIFT.f)).natAbs
  ([(0, near s.lifeDays), (1, near s.cellLeft), (2, near s.holdupLeft), (3, s.slackFloor), (4, s.availLow), (5, s.cellWeak),
    (6, s.holdupShort), (7, decide (2000 < drift)), (8, decide (100 < s.rd Obj.AGM_MRAM_CE_DAY.f)),
    (9, s.rd Obj.AGM_SFP_A.f == 3), (10, s.rd Obj.AGM_SFP_B.f == 3)].filter (·.2)).map (fun x => (x.1, 0)) ++
  (allPorts.filter fun p => s.rd (Obj.AGM_CAN_TDCV_REF.i p) != 0 &&
    decide (2 * s.rd (Obj.AGM_CAN_TDCV_REF.i p) ≤ s.rd (Obj.AGM_CAN_TDCV_MAX.i p))).map fun p => (32 + p, p)

/-- Predictions after a measurement, and trigger 0x0C24 once for each crossing (R452, R459, R463). -/
def State.agmPredict (s : State) : State :=
  let s1 := s.wrs [(Obj.AGM_LIFE_MONTHS.f, predicted s.lifeDays 30), (Obj.AGM_CELL_DAYS.f, predicted s.cellLeft 1),
    (Obj.AGM_HOLDUP_DAYS.f, predicted s.holdupLeft 1), (Obj.AGM_STATUS_FLOOR.f, b2n (s.slackFloor || s.on Obj.AGM_STATUS_FLOOR.f))]
  let now := s1.agmCrossings
  let s2 := (now.filter fun x => ! s.agm.crossed.contains x.1).foldl (fun t x =>
    (t.set1 Obj.AGM_EVT_SERVICE.f).logAll [0, 1] 0x0C24 (le 1 x.1 ++ le 1 x.2)) s1
  { s2 with agm := { s2.agm with crossed := now.map (·.1) } }

/-! ### The margin plan (R455 to R459, R462) -/

/-- The clock and guard band that a canary result is judged against: those of a pending re-plan, else those in force (R465). -/
def State.planNow (s : State) : Nat × Nat :=
  match s.agm.plan with
  | some p => (p.clk, p.gb)
  | none => (s.rd Obj.AGM_PLAN_SCE_CLK.f, s.rd Obj.AGM_PLAN_VCORE_GB.f)

/-- Whether a normal step may be taken: 24 h of measurements at the settings of the last one, and none pending (R456). -/
def State.stepFree (s : State) : Bool :=
  s.agm.plan.isNone && s.agm.lastNormal.all fun t => decide (t + dayNs ≤ s.floorTime)

/-- Table 20-2: clock, guard band, and whether urgent. -/
def State.marginRow (s : State) : Option (Nat × Nat × Bool) :=
  let m := s.rd Obj.AGM_SLACK_MIN.f
  let (clk, gb) := s.planNow
  if s.agm.canaries.isEmpty then none
  else if m < 300 then (if 600 < clk then some (clk - 40, 60, true) else none)
  else if ! s.stepFree then none
  else if m < 600 ∧ gb = 60 ∧ 600 < clk then some (clk - 40, gb, false)
  else if m < 1000 ∧ gb < 60 then some (clk, gb + 10, false)
  else none

/-- The step of RELAX (R462). -/
def State.relaxRow (s : State) : Option (Nat × Nat × Bool) :=
  let (clk, gb) := s.planNow
  if s.agm.canaries.isEmpty ∨ s.rd Obj.AGM_SLACK_MIN.f < 1000 then none
  else if clk < 800 then some (clk + 40, gb, false)
  else if 20 < gb then some (clk, gb - 10, false)
  else none

/-- Table 20-3. -/
def commitBand (avail esr : Nat) : Nat :=
  if 1000 < esr ∨ avail < 32000 then 100 else if 140000 ≤ avail then 0 else if 110000 ≤ avail then 1000 else 250

/-- MAE_COMMIT_MS as the last holdup result gives it (R458). -/
def State.commitRow (s : State) : Option Nat :=
  if s.holdupKnown then
    let ms := commitBand (s.rd Obj.PWR_HOLDUP_AVAIL.f) (s.rd Obj.AGM_HOLDUP_ESR.f)
    if ms = (s.agm.plan.map (·.commitMs)).getD (s.rd Obj.MAE_COMMIT_MS.f) then none else some ms
  else none

/-- TDCO of the ports that the AGM plans (R459). -/
def State.tdcoRows (s : State) : List (Nat × Nat) :=
  allPorts.filterMap fun p =>
    let top := s.rd (Obj.AGM_CAN_TDCV_MAX.i p)
    let now := (((s.agm.plan.map (·.tdco)).getD []).find? fun x => x.1 == p).elim (s.rd (Obj.FBC_TDCO.i p)) (·.2)
    if bit (s.rd Obj.AGM_TDCO_AUTO.f) p && s.on (Obj.FBC_CFG_TDC_EN.i p) && decide (120 < top + now) && now != 120 - top then
      some (p, 120 - top)
    else none

/-- The parts of a re-plan: margins, commit interval, TDCO. -/
structure PlanParts where
  margin : Bool
  commit : Bool
  tdco : Bool
  deriving DecidableEq, Repr

/-- The re-plan that the rules ask for, if any. -/
def State.formPlan (s : State) (k : PlanParts) (relax : Bool) : Option Replan :=
  let row := if relax then s.relaxRow else if k.margin then s.marginRow else none
  let ms := if k.commit then s.commitRow else none
  let tdco := if k.tdco then s.tdcoRows else []
  if row.isNone ∧ ms.isNone ∧ tdco.isEmpty then none
  else
    let (clk, gb) := s.planNow
    let r := row.getD (clk, gb, false)
    let force := s.rd Obj.AGM_PLAN_SCE_CLK.f
    some { clk := r.1, gb := r.2.1, commitMs := ms.getD (s.rd Obj.MAE_COMMIT_MS.f), tdco := tdco, urgent := r.2.2,
           visible := r.1 != force, oldClk := force, oldGb := s.rd Obj.AGM_PLAN_VCORE_GB.f }

/-! ### Applying a re-plan (R460, R461) -/

/-- The settings a re-plan stages. -/
def State.planCells (s : State) (p : Replan) : Cells :=
  let c1 := if p.clk = s.rd Obj.AGM_PLAN_SCE_CLK.f then [] else stagePut [] Obj.AGM_PLAN_SCE_CLK.f p.clk
  let c2 := if p.gb = s.rd Obj.AGM_PLAN_VCORE_GB.f then c1 else stagePut c1 Obj.AGM_PLAN_VCORE_GB.f p.gb
  let c3 := if p.commitMs = s.rd Obj.MAE_COMMIT_MS.f then c2 else stagePut c2 Obj.MAE_COMMIT_MS.f p.commitMs
  p.tdco.foldl (fun c x => stagePut c (Obj.FBC_TDCO.i x.1) x.2) c3

/-- Why a commit of the AGM is refused whatever its instant: a status, or none. -/
def State.planRefusal (s : State) : Option Nat :=
  if s.mode = 9 ∨ s.activating then some St.busy
  else if s.adjourned then some St.adjourned
  else if s.failed 14 then some St.unitFailed
  else if s.on Obj.TIME_FT_STATE_STEP_DUE.f ∨ s.hasPending vendorTag then some St.checkFailed
  else if 16 ≤ s.castlings.length then some St.noSpace
  else none

/-- The instants a re-plan may take, in rising order: its own, then those that pending Castlings open. -/
def State.planInstants (s : State) (p : Replan) (lead : Nat) : List Nat :=
  let earliest := roundUp (s.floorTime + max 2000000 (1000 * lead)) 1000000
  let announced := roundUp (s.floorTime + (if p.urgent then 1000000000 else s.rd Obj.AGM_ANNOUNCE_LEAD.f * 1000000000)) 1000000
  let own := if p.visible then max earliest announced else earliest
  let after := if p.commitMs = s.rd Obj.MAE_COMMIT_MS.f then 0 else
    highest ((s.castlings.filter fun g => g.parts.any fun q => (stagedValue q.cells Obj.MAE_COMMIT_MS.f).isSome).map (·.tC))
  own :: (s.castlings.flatMap fun g => [g.tC, roundUp (g.tC + 1000 * max lead g.lead) 1000000]).filter fun t => decide (own ≤ t ∧ after < t)

/-- The first of the instants that R106 and R107 allow. -/
def State.planInstant (s : State) (p : Replan) (part : CastPart) : Option Nat :=
  let ok (t : Nat) : Bool := s.instantOk t part.lead && (s.judgeCommit s.castlings part t).isNone
  let l := (s.planInstants p part.lead).filter ok
  match l with
  | [] => none
  | a :: r => some (r.foldl min a)

/-- A refused commit: tried again after 60 s, or 1 s when urgent; the first refusal is recorded. -/
def State.planRefused (s : State) (p : Replan) (status : Nat) : State :=
  let s1 := if s.agm.refused then s else s.logAll [0, 1] 0x0C23 (le 2 status)
  { s1 with agm := { s1.agm with refused := true, retryAt := some (s1.floorTime + if p.urgent then 1000000000 else 60000000000) } }

/-- Stage, check and commit a re-plan. Answers whether it was committed, and T_C. -/
def State.planCommit (s : State) (p : Replan) : State × Option Nat :=
  match s.planRefusal with
  | some x => (s.planRefused p x, none)
  | none =>
    let cells := s.planCells p
    let part : CastPart := { comp := vendorTag, cells := cells, image := none, lead := leadOf cells none }
    match s.planInstant p part with
    | none => (s.planRefused p St.checkFailed, none)
    | some tC =>
      let (s1, id) := s.acceptPart s.castlings part tC
      let q := { p with tC := tC, id := id }
      let s2 := { s1 with agm := { s1.agm with plan := some q, retryAt := none, refused := false } }.wrs
        [(Obj.AGM_STATUS_PLAN_PENDING.f, 1), (Obj.AGM_STATUS_URGENT.f, b2n p.urgent), (Obj.AGM_PLAN_T_C.f, tC)]
      ((s2.set1 Obj.AGM_EVT_ANNOUNCED.f).logAll (s2.planLogs p.visible) 0x0C21 q.detail, some tC)

/-- Apply the plan rules (R456 to R459). -/
def State.agmPlan (s : State) (k : PlanParts) (relax : Bool) : State × Option Nat :=
  match s.formPlan k relax with
  | some p => s.planCommit p
  | none => (s, none)

/-- The rules that a measurement brings into play. -/
def partsOf (kind : Nat) : PlanParts := { margin := kind == 0, commit := kind == 3, tdco := kind == 7 }

/-- A measurement gives its result: fields, predictions, plan. -/
def State.agmMeasured (s : State) (m : AgmMeasure) : State := ((s.agmResult m).agmPredict.agmPlan (partsOf m.kind) false).1

/-! ### The commands of the block -/

def State.agmWorks (s : State) : Bool := ! s.failed 12

/-- AGM_MEASURE_DUE: a scheduled measurement, the holdup test apart, whose readings come at once. -/
def agmMeasureDue (m : AgmMeasure) (s : State) : State :=
  if s.agmWorks && s.agmOpen m.kind && m.kind != 3 && s.agm.running != some m.kind then s.agmMeasured m else s

def execAgmMeasureDue (m : AgmMeasure) (t : Nat) (s : State) : Host.Outcome State Fault Refusal := .next (agmMeasureDue m (s.advance t))

/-- HOLDUP_TEST: the diode opens, unless the input stands below 22.0 V (R453). -/
def holdupTest (s : State) : State :=
  if s.agmWorks && s.agmOpen 3 && s.agm.running.isNone && decide (22000 ≤ Config.inputMilliVolts s.floorTime % 65536) then
    { s with agm := { s.agm with running := some 3 } }
  else s

def execHoldupTest (t : Nat) (s : State) : Host.Outcome State Fault Refusal := .next (holdupTest (s.advance t))

/-- AGM_MEASUREMENT_END: the running measurement gives its result, to its request where there is one. -/
def agmMeasurementEnd (m : AgmMeasure) (s : State) : State :=
  if s.agm.running = some m.kind ∧ ! s.agmWorks then
    ({ s with agm := { s.agm with running := none } } : State).finish .agm St.unitFailed []
  else if s.agm.running = some m.kind then
    let s1 := ({ s with agm := { s.agm with running := none } } : State).agmMeasured m
    s1.finish .agm St.ok (s1.agmReply m)
  else s

def execAgmMeasurementEnd (m : AgmMeasure) (t : Nat) (s : State) : Host.Outcome State Fault Refusal :=
  .next (agmMeasurementEnd m (s.advance t))

/-- AGM_REPLAN_RETRY: the re-plan is formed again from the measurements and tried again. -/
def agmReplanRetry (s : State) : State :=
  if s.agmWorks && (s.mode == 2 || decide (5 ≤ s.mode ∧ s.mode ≤ 9)) && s.agm.retryAt.any fun t => decide (t ≤ s.floorTime) then
    let k : PlanParts := { margin := true, commit := true, tdco := true }
    let s1 : State := { s with agm := { s.agm with retryAt := none, refused := s.agm.refused && (s.formPlan k false).isSome } }
    (s1.agmPlan k false).1
  else s

def execAgmReplanRetry (t : Nat) (s : State) : Host.Outcome State Fault Refusal := .next (agmReplanRetry (s.advance t))

/-- CMD_DIAG_AGM_MEASURE (R464). -/
def agmMeasureCmd (q : Req) (s : State) : State × Reply :=
  let k := field q.payload 0 1
  if ! permitted .owner m4to9 q s then (s, .no St.notPermitted)
  else if q.payload.length ≠ 4 ∨ 8 < k then (s, .no St.badPayload)
  else if ! s.agmWorks then (s, .no St.unitFailed)
  else if ! s.agmOpen k then (s, .check 0x0C21)
  else if s.agm.running.isSome then (s, .check 0x0C22)
  else ({ s with agm := { s.agm with running := some k } }, .pending .agm)

def execCmdDiagAgmMeasure (f : Frame) (s : State) : Host.Outcome State Fault Refusal :=
  command 0x0C20 agmMeasureCmd f s (cancellable := true)

/-- CMD_DIAG_AGM_REPLAN (R462, R464). -/
def agmReplanCmd (q : Req) (s : State) : State × Reply :=
  if ! permitted .owner m4to9 q s then (s, .no St.notPermitted)
  else if q.payload.length ≠ 4 then (s, .no St.badPayload)
  else if ! s.agmWorks then (s, .no St.unitFailed)
  else
    let relax := bit (field q.payload 0 1) 0
    let (s1, tC) := s.agmPlan { margin := ! relax, commit := ! relax, tdco := ! relax } relax
    (s1, .ok (le 1 (b2n tC.isSome) ++ le 3 0 ++ le 8 (tC.getD 0)))

def execCmdDiagAgmReplan (f : Frame) (s : State) : Host.Outcome State Fault Refusal := command 0x0C21 agmReplanCmd f s

end Sys2Proof.Machine
end

