-- ==== Sys2Proof/Machine/Modes.lean ====
section
/-!
DEFINITION. The module between its modes (spec/02): entering a mode, the commit stages, power fail, and the return of main
power. What a boot does is in Boot.lean.
-/
namespace Sys2Proof.Machine

/-! ### Entering a mode (R36, R137, R221) -/

/-- Table 2-3: the mode a boot resumes after a loss or reset in a mode; 0 where the mode changes nothing. -/
def resumeOf (m : Nat) : Nat :=
  if m = 7 ∨ m = 1 then 6 else if m = 9 then 8 else if m = 2 ∨ m = 5 ∨ m = 6 ∨ m = 8 ∨ m = 11 then m else 0

/-- PWR_RESUME_MODE follows the mode. -/
def State.showResume (s : State) (m : Nat) : State := if resumeOf m = 0 then s else s.wr Obj.PWR_RESUME_MODE.f (resumeOf m)

/-- A task that was not watch-eligible resumes with a warm restart on leaving M2 (R36). -/
def State.rewarm (s : State) (c : Nat) (k : ImgTask) : State :=
  let p := s.prog c
  match p.cur with
  | none => s
  | some g =>
    let h := match p.kept with | some r => if p.warmOk then g.warm r else g.cold | none => g.cold
    let l := g.insts.map fun x => if g.image.root x.ix = k.root then (h.insts.find? fun y => y.id == x.id).getD x else x
    (s.putProg c { p with cur := some { g with insts := l } }).resetTask c k.engine k.entry (s.floorTime + 2000000)

/-- Program states on leaving M2 for M6 or M7: the tasks that lay dormant. -/
def State.wakeTasks (s : State) : State :=
  s.compartments.foldl (fun t c =>
    let st := t.rd (Obj.SCE_STATE.b c)
    if 2 ≤ st ∧ st ≤ 4 then
      ((t.tasksOf c).filter fun k => ! t.watchTask c k.engine k.entry).foldl (fun u k => u.rewarm c k) t
    else t) s

/-- Compartments held by M9 run again, but those in a hold of their own (R137); an engine that failed meanwhile stops its
tasks (R53). -/
def State.releaseHolds (s : State) : State :=
  let s1 := s.compartments.foldl (fun t c => if (t.prog c).ownHold then t else t.resumeProg c t.floorTime) s
  ((List.range 2).filter fun e => bit s.power.m9Fails e).foldl State.stopEngine s1

/-- What a mode entered from another does to the program states (R32, R36, R137). -/
def State.progsEnter (s : State) (old m : Nat) (cold : Bool) : State :=
  if m = 8 then s.compartments.foldl (fun t c => t.stopProg c 5 true) s
  else if m = 9 then s.compartments.foldl State.holdProg s
  else if m = 5 then
    (s.tenants.foldl (fun t c => t.stopProg c 4 false) s |>.startIntent 0 cold).startIntent 1 cold
  else if m = 2 then
    let s1 := s.abandon fun p => s.dormant p.comp p.engine p.entry
    s1.compartments.foldl State.holdReached s1
  else if m = 6 ∨ m = 7 then
    if old = 9 then s.releaseHolds
    else if old = 2 then s.wakeTasks
    else if old = 3 ∨ old = 5 ∨ old = 8 then s.compartments.foldl (fun t c => t.startIntent c cold) s
    else s
  else s

/-- Acquisition starts; a start that follows a stop leaves an UNMETERED gap (R221, R234). -/
def State.beginAcq (s : State) : State :=
  if s.acq || ! s.maeWorks then s
  else
    let gaps := match s.mae.stoppedAt with
      | some x => s.mae.gaps ++ [{ kind := 2, start := x }]
      | none => s.mae.gaps
    { s with mae := { s.mae with gaps := gaps, stoppedAt := none } }.startAcq

/-- Every connection is gone, and its session detached. -/
def State.dropConns (s : State) : State :=
  s.conns.foldl (fun t c => { t with conns := t.conns.filter fun k => k.id != c.id }.detach c.id t.floorTime) s

/-- No host is served any longer: every session ends, and the connections are gone. -/
def State.noHosts (s : State) : State := { (s.endSessions fun _ => true) with conns := [] }

/-- A mode is entered in which SUP runs (M2, M4 to M9, M11). -/
def State.enterMode (s : State) (m : Nat) (cold : Bool) : State :=
  let old := s.mode
  let s0 := s.markCycles
  let s1 := ({ s0 with power := { s0.power with transition := none } }.wr Obj.IDENT_MODE.f m).showResume m
  let s2 := if m = 9 then { s1 with power := { s1.power with m9From := old, m9Entry := s1.floorTime, m9Fails := 0 } } else s1
  let s3 := s2.progsEnter old m cold
  let s4 := if m = 2 then s3.noHosts else s3
  let s5 := if m = 2 ∨ (5 ≤ m ∧ m ≤ 8) then s4.beginAcq else s4
  ((s5.placePorts.placeLegacy).logAll [0, 1] 0x0204 []).judgeMode

/-! ### The commit stages (R29, R41, R44) -/

/-- A Castling whose instant has passed is carried to its end (R52, R114). -/
def State.finishCastling (s : State) (id : Nat) : State :=
  let get (t : State) : Option Castling := t.castlings.find? fun g => g.id == id
  let s1 := match get s with | some g => if g.switched then s else s.switchNow g | none => s
  let s2 := match get s1 with | some g => if g.maeDone then s1 else s1.switchMae g | none => s1
  match get s2 with | some g => s2.markApplied g | none => s2

/-- Castlings at T0: those before it have been applied, the others are cancelled. Of those not yet switched, a reset cancels
all. -/
def State.settleAll (s : State) (t0 : Nat) (reset : Bool) : State :=
  let past (g : Castling) : Bool := g.switched || (g.confirmed && ! reset && decide (g.tC < t0))
  ((s.castlings.filter past).foldl (fun t g => t.finishCastling g.id) s).settleCastlings 0

/-- What ends at T0 (R40, R52, R253): plies, accumulation, voltage events, pulses, tests, the presence window. -/
def State.closeDown (s : State) : State :=
  let s1 := s.abandon fun _ => true
  let s2 := s1.stopAcq.endEventsDeferred.cutPulses.abortTest
  { s2 with lcy := { s2.lcy with windowAt := none, windowDue := false }, agm := { s2.agm with running := none },
            power := { s2.power with transition := none } }

/-- Write the oldest pending records to their logs. -/
def State.writePending (s : State) (n : Nat) : State := (List.range n).foldl (fun t _ => evrRecordWrite t) s

/-- The counts by compartment of some records. -/
def lostOf (l : List EvPend) : List (Nat × Nat) :=
  (List.range 34).filterMap fun c => let n := (l.filter fun p => p.comp == c).length; if n = 0 then none else some (c, n)

/-- The commit as far as `n` stages with their markers, at T0; the number of records that a stage 4 without its marker wrote
is free (log 1). `took` is its duration in 100 µs. -/
def State.commitStages (s : State) (n t0 took : Nat) : State :=
  let s1 := if 1 ≤ n then s.commitEnergy t0
    else { s with mae := { s.mae with gaps := s.mae.gaps ++
      [{ kind := 1, start := s.rd Obj.MAE_COMMIT_TIME.f, fin := some t0, est := true }] } }
  let s2 : State := if 2 ≤ n then
      { s1 with rtc := { s1.rtc with mram := some (s1.floorTime, s1.rtc.ticks) },
                power := { s1.power with opCommit := s1.rd Obj.EVR_OP_SECONDS.f } }
    else { s1 with rtc := { s1.rtc with mram := none } }.wr Obj.EVR_OP_SECONDS.f s1.power.opCommit
  let s3 := if 3 ≤ n then s2.compartments.foldl State.commitShadow s2
    else { s2 with scan := { s2.scan with progs := s2.scan.progs.map fun p =>
      (p.1, { p.2 with kept := p.2.kept.map fun r => { r with marked := false } }) } }
  let count := s3.evr.pend.length
  let (f, s4) := if n = 3 then s3.draw else (0, s3)
  let wrote := if 4 ≤ n then min 250 count else if n = 3 then f % (min 250 count + 1) else 0
  let s5 := s4.writePending wrote
  let lost := if 2 ≤ n then lostOf s5.evr.pend else []
  let s6 := { s5 with evr := { s5.evr with pend := [] }, power := { s5.power with lost := lost, commitEnded := true } }.wrs
    [(Obj.PWR_LAST_COMMIT_STAGES_DONE.f, 2 ^ min n 4 - 1), (Obj.PWR_LAST_COMMIT_TIME.f, took),
     (Obj.PWR_LAST_COMMIT_LOST.f, if 2 ≤ n then count - wrote else 0xFFFF)]
  if n < 4 then s6.set1 Obj.PWR_STATUS_COMMIT_INCOMPLETE.f else s6

/-- The commit on main power before M1 or M3 (R29): every stage ends; its duration is free within Table 2-5. -/
def State.commitOnMain (s : State) : State :=
  let (n, s0) := s.draw
  let s1 := (s0.dropConns.settleAll s0.floorTime true).closeDown
  s1.commitStages 4 s1.floorTime (n % 411)

/-! ### M0, M1 and M3 -/

/-- The pair that the AOD captures where the floor-time PLL stops (R329). -/
def State.captureFloor (s : State) : State := { s with rtc := { s.rtc with aod := (s.floorTime, s.rtc.ticks) } }

/-- M1 is entered; a wake cause kept on the way takes the module on to M3 (R39). -/
def State.enterM1 (s : State) : State :=
  let s1 := s.markCycles.noHosts.captureFloor
  let s2 := ({ s1 with power := { s1.power with transition := none, lastMode := 1 } }.wr Obj.IDENT_MODE.f 1).showResume 1
  let s3 := s2.placePorts.placeLegacy
  match s3.power.keptWake with
  | some _ => { s3 with power := { s3.power with keptWake := none } }.beginTransition 3
  | none => s3

/-- M0 is entered from a mode. Without a commit the operating seconds are those last committed. -/
def State.enterM0 (s : State) (commit : Bool) : State :=
  let s1 := (if 2 ≤ s.mode then s.captureFloor else s).markCycles.dropConns
  let s2 := if commit then s1 else s1.wr Obj.EVR_OP_SECONDS.f s1.power.opCommit
  let s3 := { s2 with power := { s2.power with transition := none, mainPresent := false, keptWake := none } }.wrs
    [(Obj.IDENT_MODE.f, 0), (Obj.PWR_STATUS_MAIN_OK.f, 0), (Obj.PWR_STATUS_ON_HOLDUP.f, 0)]
  s3.placePorts.placeLegacy

/-- Floor time where it restarts on leaving M0 or M1 for M3 (R329, R47): the carried pair and the ticks since, the crystal
taken 50 ppm slow, up to a multiple of 8 ns; 0 after a canary trip. -/
def carriedTime (ft n : Nat) : Nat := roundUp (ft + (n * 30517578125 * 999950 + 999999999999) / 1000000000000) 8

def State.restartFloor (s : State) : State :=
  let pair := s.rtc.mram.getD s.rtc.aod
  let n := (s.rtc.ticks + 2 ^ 48 - pair.2) % 2 ^ 48
  let s1 := { s with floorTime := if s.power.ftLost then 0 else carriedTime pair.1 n }
  let s2 := if s.power.ftLost then { s1 with mae := { s1.mae with steps := [] } }.wr Obj.TIME_FT_STATE_ANCHORED.f 0 else s1
  { s2 with power := { s2.power with ftLost := false } }.wr Obj.TIME_FT_STATE_CARRIED.f (b2n (! s.power.ftLost))

/-- M3 is entered from mode `old`. What the boot ROM does first is BOOT_ENTRY. A loss of main power counts where M3 follows
M0 or M10. -/
def State.enterM3 (s : State) (old : Nat) : State :=
  let s1 := (if old ≤ 1 then s.restartFloor else s.markCycles).dropConns
  let s2 := if old = 0 ∨ old = 10 then s1.inc Obj.EVR_POWER_CYCLES.f else s1
  let s3 := { s2 with
    rtc := { s2.rtc with mram := none },
    power := { s2.power with transition := none, mainPresent := true, keptWake := none, cleared := false },
    upd := { s2.upd with bootAt := s2.floorTime, resumed := false } }.wrs
      [(Obj.IDENT_MODE.f, 3), (Obj.PWR_STATUS_ON_HOLDUP.f, 0), (Obj.PWR_STATUS_MAIN_OK.f, 1)]
  s3.placePorts.placeLegacy

/-! ### Transitions -/

/-- Whether a march test forbids the end of a transition (R435). -/
def State.testBars (s : State) (m : Nat) : Bool :=
  s.mte.any fun x => if x.preserving then ! mayPreserve x.bank m else m != 8

/-- MODE_TRANSITION_DONE: the transition in progress ends. To M1 and M3 it takes the commit stages on main power, but from M1. -/
def modeTransitionDone (s : State) : State :=
  match s.power.transition with
  | none => s
  | some x =>
    if s.testBars x.target then s
    else if x.target = 1 then
      let s1 := if s.mode = 2 then s.compartments.foldl (fun t c => t.stopProg c 6 false) s else s
      s1.commitOnMain.enterM1
    else if x.target = 3 then (if s.mode = 1 then s else s.commitOnMain).enterM3 s.mode
    else s.enterMode (if x.target = 6 then s.serviceMode else x.target) x.cold

def execModeTransitionDone (t : Nat) (s : State) : Host.Outcome State Fault Refusal := .next (modeTransitionDone (s.advance t))

/-- M9_LIMIT_EXPIRY (R31): PWR_M9_LIMIT seconds after entry the module leaves M9 for M8. -/
def m9LimitExpiry (s : State) : State :=
  if s.mode = 9 ∧ s.power.transition.isNone ∧ s.power.m9Entry + 1000000000 * s.rd Obj.PWR_M9_LIMIT.f ≤ s.floorTime then
    s.beginTransition 8
  else s

def execM9LimitExpiry (t : Nat) (s : State) : Host.Outcome State Fault Refusal := .next (m9LimitExpiry (s.advance t))

/-! ### Power fail (R40, R45, R52) -/

/-- The input stands below the threshold: M10 at T0 where there is a commit, else M0. -/
def State.failPower (s : State) : State :=
  if s.mode = 2 ∨ (5 ≤ s.mode ∧ s.mode ≤ 9) then
    let t0 := s.floorTime
    let old := s.mode
    let s1 := (s.markCycles.dropConns.settleAll t0 false).closeDown
    let s2 := { s1 with power := { s1.power with lastMode := old, pfAt := t0, commitEnded := false, mainPresent := false } }.wrs
      [(Obj.IDENT_MODE.f, 10), (Obj.PWR_STATUS_ON_HOLDUP.f, 1), (Obj.PWR_STATUS_MAIN_OK.f, 0)]
    ((s2.inc Obj.PWR_PF_COUNT.f).placeLegacy).logAll [0, 1] 0x0203 []
  else if s.mode = 1 ∨ s.mode = 3 ∨ s.mode = 4 ∨ s.mode = 11 then
    { (s.enterM0 false) with power := { (s.enterM0 false).power with lastMode := s.mode } }
  else s

def execPowerFail (t : Nat) (s : State) : Host.Outcome State Fault Refusal := .next (s.advance t).failPower

/-- Main power returning takes the module to M3 and is a wake cause (R38). -/
def State.mainToBoot (s : State) : State := (s.wakeCause 0x40).enterM3 s.mode

/-- POWER_FAIL_COMMIT_END: so many stages ended with their markers; the commit ends early only where the bulk capacitor falls
below 12.0 V. With main back the module enters M3. -/
def powerFailCommitEnd (stages : Nat) (low returned : Bool) (s : State) : State :=
  if s.mode = 10 ∧ ! s.power.commitEnded then
    let n := if low then min stages 4 else 4
    let s1 := s.commitStages n s.power.pfAt ((s.floorTime - s.power.pfAt) / 100000)
    if low then s1.enterM0 true
    else if returned ∨ s.power.mainPresent then s1.mainToBoot
    else s1
  else s

def execPowerFailCommitEnd (t stages : Nat) (bulkLow returned : Bool) (s : State) : Host.Outcome State Fault Refusal :=
  .next (powerFailCommitEnd stages bulkLow returned (s.advance t))

/-- BULK_LOW: regulators off. Where it cuts the commit short, the stages done are free (log 1). -/
def bulkLow (s : State) : State :=
  if s.mode ≠ 10 then s
  else if s.power.commitEnded then s.enterM0 true
  else
    let (n, s1) := s.draw
    (s1.commitStages (n % 5) s.power.pfAt ((s.floorTime - s.power.pfAt) / 100000)).enterM0 true

def execBulkLow (t : Nat) (s : State) : Host.Outcome State Fault Refusal := .next (bulkLow (s.advance t))

/-! ### The return of main power (R37, R46, R47) -/

/-- What a tripped retention canary does (R47, R331, R234): RTC validity, tick count and calendar, the presence latch, floor
time, the seal latch, the wake cause. -/
def State.canaryTrip (s : State) : State :=
  let s1 := { s with
    rtc := { s.rtc with valid := false, ticks := 0, cal := 0, frac := 0, suppress := 0, add := 0, mram := none },
    power := { s.power with ftLost := true },
    mae := { s.mae with gaps := s.mae.gaps.map fun (g : Gap) => if g.kind = 1 then { g with fin := none, est := false } else g,
                        stoppedAt := s.mae.stoppedAt.map fun _ => s.rd Obj.MAE_COMMIT_TIME.f } }
  let s2 := (s1.wrs [(Obj.LCY_PRESENCE_PRESSED_OFF.f, 0), (Obj.PWR_WAKE_CAUSE.f, 0)]).set1 Obj.PWR_STATUS_CANARY_TRIPPED.f
  (s2.openSeal.logOrDefer 0 0x0202 []).logOrDefer 1 0x0202 []

/-- MAIN_RETURN: from M0, the canary is read as the power path switches; from M10 once the commit has ended. -/
def mainReturn (s : State) : State :=
  if s.mode = 0 then
    let s0 := if s.power.canaryA && ! s.power.canaryB then s else s.canaryTrip
    if s.power.lastMode = 1 then
      { s0 with power := { s0.power with mainPresent := true } }.wrs [(Obj.IDENT_MODE.f, 1), (Obj.PWR_STATUS_MAIN_OK.f, 1)] |>.placePorts
    else s0.mainToBoot
  else if s.mode = 10 then
    if s.power.commitEnded then s.mainToBoot else { s with power := { s.power with mainPresent := true } }.wr Obj.PWR_STATUS_MAIN_OK.f 1
  else s

def execMainReturn (t : Nat) (s : State) : Host.Outcome State Fault Refusal := .next (mainReturn (s.advance t))

/-! ### Operating seconds and wake causes -/

/-- OP_SECONDS_TICK (R345, R44): a second of main power in M1 to M11; committed at whole multiples of 60 while SUP runs. -/
def opSecondsTick (s : State) : State :=
  if s.mode = 0 ∨ ! s.power.mainPresent then s
  else
    let n := (s.rd Obj.EVR_OP_SECONDS.f + 1) % 2 ^ 32
    let s1 := s.wr Obj.EVR_OP_SECONDS.f n
    if n % 60 = 0 ∧ 2 ≤ s.mode then { s1 with power := { s1.power with opCommit := n } } else s1

def execOpSecondsTick (t : Nat) (s : State) : Host.Outcome State Fault Refusal := .next (opSecondsTick (s.advance t))

/-- VBUS_DETECT (R38). -/
def vbusDetect (s : State) : State :=
  let s1 := { s with lcy := { s.lcy with vbus := true } }
  if s1.wakeEn 2 then s1.wake 3 else s1

def execVbusDetect (t : Nat) (s : State) : Host.Outcome State Fault Refusal := .next (vbusDetect (s.advance t))

/-- TCP_SYN_WAKE (R38): to port 4770 on cage A in M2; the SYN is not answered. -/
def tcpSynWake (s : State) : State := if s.mode = 2 && s.wakeEn 3 && ! s.failed 5 then s.wake 4 else s

def execTcpSynWake (t : Nat) (s : State) : Host.Outcome State Fault Refusal := .next (tcpSynWake (s.advance t))

end Sys2Proof.Machine
end

