-- ==== Sys2Proof/Machine/Boot.lean ====
section
/-!
DEFINITION. The boot (spec/02 R47 to R49, spec/16 R387 to R389, R399, spec/17 R414, spec/18 R426, R427): clearing the memories,
slot verification, the wipe of a promotion, and the entry into the resume mode.
-/
namespace Sys2Proof.Machine

/-! ### BOOT_ENTRY (R426, R388, R414) -/

/-- What the clearing of SRAM and DRAM leaves: the fields that MRAM, the platform partition and the backup domain keep, and
what the module keeps beside them in the same places. -/
def State.clearMemories (s : State) : State :=
  { s with
    regs := s.regs.filter fun p => p.1.keep != .vol,
    conns := [], sessions := [], waiters := [], mbx := {}, stagings := [], castlings := [], captures := [],
    evr := { s.evr with pend := [], watch := [] },
    rtc := { s.rtc with setReq := none, shadows := [], owed := [] },
    ptp := {},
    lcy := { s.lcy with usbUntil := none, claimSid := none, windowAt := none, windowDue := false, nonce := none, halted := 0 },
    scan := { progs := s.scan.progs.map fun p =>
      (p.1, { cur := p.2.cur.map Prog.cold, kept := p.2.kept, coldAsked := p.2.coldAsked }) },
    fbc := {}, nsw := {}, lbx := {}, kse := { s.kse with jobs := [] }, mte := none, pmon := {},
    agm := { s.agm with running := none, plan := none },
    power := { s.power with causes := [], pllRetried := [] } }

/-- What was put aside for units that had failed at a Castling (R111). -/
def State.applyBootCells (s : State) : State := { s with regs := s.regs.overlay s.castBoot, castBoot := [] }

/-- An intent record found with its group partly blown: the group is finished first (R388). -/
def State.finishFuses (s : State) : State :=
  match s.lcy.intent with
  | some target => { s with lcy := { s.lcy with state := target, intent := none } }
  | none => s

/-- Whether the wipe of a promotion is due (R388). -/
def State.wipeDue (s : State) : Bool := s.lcy.state != s.rd Obj.LCY_WIPED_STATE.f

/-- The boot ROM judges the firmware slots (R414). -/
def State.judgeSlots (s : State) (noRecord : Bool) : State :=
  let (s1, slot) := s.bootSlot noRecord
  { s1 with power := { s1.power with noSlot := slot.isNone } }

/-- The ending of the timed USB enabling (R400) is recorded once logs can be written. -/
def State.usbEnds (s : State) : State :=
  if s.lcy.usbUntil.isSome then
    { s with evr := { s.evr with deferred := s.evr.deferred ++
      [(0, s.deferredRecord 0x0908 (le 1 0 ++ le 7 0 ++ le 8 s.floorTime))] } }
  else s

/-- BOOT_ENTRY. -/
def bootEntry (s : State) : State :=
  if s.mode ≠ 3 ∨ s.power.cleared then s
  else
    let s1 := (s.usbEnds.clearMemories.wr Obj.IDENT_MODE.f 3).applyBootCells.restoreEnergy.finishFuses
    let s2 := { s1 with power := { s1.power with cleared := true } }
    if s2.wipeDue then s2 else s2.judgeSlots false

def execBootEntry (t : Nat) (s : State) : Host.Outcome State Fault Refusal := .next (bootEntry (s.advance t))

/-! ### PROMOTION_WIPE (R388, R389, R427) -/

/-- Whether a field survives the wipe: the platform partition, the backup domain, and the first area of C00's log. -/
def survives (f : Fld) : Bool :=
  f.keep == .plat || f.keep == .aod ||
  [Obj.EVR_SEQ_NEWEST.b 0, Obj.EVR_FIRST_FILL.b 0, Obj.EVR_FIRST_FULL.b 0, Obj.EVR_FIRST_BASE.b 0].any fun g => g.key == f.key

/-- The wipe. C00's log goes on in its emptied last area (R356). -/
def State.wipe (s : State) : State :=
  let first := (s.evr.logs.get {} 0).first
  let s1 : State := { s with
    regs := s.regs.filter fun p => survives p.1,
    evr := { logs := [(0, { first := first })], deferred := [] },
    rtc := { s.rtc with mram := none },
    scan := {}, mae := {}, kse := {},
    castBoot := [],
    upd := { slots := s.upd.slots, bootAt := s.upd.bootAt, resumed := false },
    power := { s.power with configured := false, lost := [], recovery := false } }
  ((s1.wr Obj.IDENT_MODE.f 3).wr (Obj.EVR_FIRST_FULL.b 0) 1).showLast 0

/-- Boots in a row with a failing medium. -/
def countFails (old : List Nat) (failed : Nat) : List Nat := (List.range 4).map fun i => if bit failed i then old.getD i 0 + 1 else 0

/-- The units of Table 2-7 that media of the wipe stand for: DRAM, MRAM, e.MMC. -/
def mediaUnits (failed : Nat) : List Nat := (if bit failed 1 then [14] else []) ++ (if bit failed 2 then [16] else []) ++ (if bit failed 3 then [15] else [])

/-- PROMOTION_WIPE: the wipe takes `ms`; media that fail leave it to the next boot, at their third boot they count as failed. -/
def promotionWipe (failed ms : Nat) (s : State) : State :=
  if s.mode = 3 ∧ s.power.cleared ∧ s.wipeDue then
    let old := s.rd Obj.LCY_WIPED_STATE.f
    let fails := countFails s.lcy.wipeFails failed
    let s1 := s.wipe
    let s2 := { s1 with lcy := { s1.lcy with wipeFails := fails } }
    if (List.range 4).all fun i => ! bit failed i || decide (3 ≤ fails.getD i 0) then
      let s3 := s2.wrs [(Obj.LCY_WIPED_STATE.f, s2.lcy.state), (Obj.LCY_WIPE_FAIL.f, s2.rd Obj.LCY_WIPE_FAIL.f ||| failed)]
      let s4 := { s3 with evr := { s3.evr with deferred := [(0, { s3.eventRecord 0 0x0905 (le 1 old ++ le 1 s3.lcy.state ++ le 2 0 ++ le 4 ms) false none with snaps := [] })] } }
      (((mediaUnits failed).foldl State.failUnit s4).judgeSlots true)
    else s2
  else s

def execPromotionWipe (failed : BitVec 4) (t : Nat) (s : State) : Host.Outcome State Fault Refusal :=
  .next (promotionWipe failed.toNat ((t - s.floorTime) / 1000000) (s.advance t))

/-! ### BOOT_COMPLETE (Table 2-2, R48, R49, R399) -/

/-- A failed bank of the minimum service set (R48, Table 18-6). -/
def State.minimumFails (s : State) : Option Nat := (List.range 155).find? fun b => bankMinimum b && s.on (Obj.MEM_BANK_FAILED.i b)

/-- The mode that M3 leads to. -/
def State.bootMode (s : State) : Nat :=
  let resume := s.rd Obj.PWR_RESUME_MODE.f
  let m := if resume = 6 then s.serviceMode else if resume = 0 then 5 else resume
  if s.lcy.state = 5 then 11
  else if s.lcy.state = 0 ∨ s.power.noSlot ∨ s.power.recovery then 4
  else if ! s.power.configured then 5
  else if (lcyModes s.lcy.state).contains m then m
  else 5

/-- Trigger 0x0704 before every other record of the boot: each log with its own count, C00's also with the total (R352). -/
def State.reportLost (s : State) : State :=
  let rest := s.evr.pend
  let l := s.power.lost
  let s1 : State := { s with evr := { s.evr with pend := [] }, power := { s.power with lost := [] } }
  let s2 := l.foldl (fun t x => t.log x.1 0x0704 (le 4 x.2)) s1
  let s3 := if l.isEmpty then s2 else s2.log 0 0x0704 (le 4 (total (l.map (·.2))))
  { s3 with evr := { s3.evr with pend := s3.evr.pend ++ rest } }

/-- The records whose triggers fell where SUP did not run (R337, R343, R352). -/
def State.writeDeferred (s : State) : State :=
  s.evr.deferred.foldl (fun t x => if t.failed 10 || ! t.exists? x.1 then t else t.enqueue x.1 x.2)
    { s with evr := { s.evr with deferred := [] } }

/-- The canary is armed after the evaluation (R47). -/
def State.armCanary (s : State) : State := { s with power := { s.power with canaryA := true, canaryB := false } }

/-- A self-test that failed is reported at the next boot that passes; no trigger is named for it, so its low byte is free. -/
def State.reportStep (s : State) : State :=
  match s.power.failStep with
  | some b =>
    let (n, s1) := s.draw
    { s1 with power := { s1.power with failStep := none } }.log 0 (0x0200 + n % 256) (le 1 b)
  | none => s

/-- What the programs and the process image are after a boot: each image in force shown, every compartment STOPPED with its
outputs at stop values, forces applied, sources shown, and points of buses stale until their first frame. -/
def State.bootImage (s : State) (safe : Bool) : State :=
  let s1 := s.sources.foldl (fun t x => t.wr (Obj.PIMG_ATTR_SOURCE.i x.1) x.2.1) s
  let s2 := (s1.sources.filter fun x => x.2.1 == 2 || x.2.1 == 3).foldl (fun t x => t.wr (Obj.PIMG_ATTR_STALE.i x.1) 1) s1
  s2.compartments.foldl (fun t c =>
    match (t.prog c).cur with
    | some g =>
      let t1 := (t.showProg c g).wr (Obj.SCE_STOP_REASON.b c) 7
      let t2 := t1.takeStopValues c (t1.outputPoints c) safe
      if safe then t2.suspendForces c (t2.outputPoints c) else t2.resumeForces c
    | none => t) s2

/-- BOOT_COMPLETE. -/
def bootComplete (s : State) : State :=
  if s.mode ≠ 3 ∨ ! s.power.cleared ∨ s.wipeDue then s
  else match s.minimumFails with
  | some b => { s with power := { s.power with failStep := some b } }
  | none =>
    let m := s.bootMode
    let s1 := (s.reportLost.writeDeferred.armCanary.reportStep).bootKeys.bootUpd
    let s2 := { s1 with power := { s1.power with recovery := false }, upd := { s1.upd with resumed := m != 4, lastFrame := s1.floorTime } }
    ((s2.wr Obj.MAE_STATUS_FACTORY_CAL_OK.f (b2n (! s2.failed 2))).bootImage (m == 8)).enterMode m false

def execBootComplete (t : Nat) (s : State) : Host.Outcome State Fault Refusal := .next (bootComplete (s.advance t))

end Sys2Proof.Machine
end

