-- ==== Sys2Proof/Machine/TempoInt.lean ====
section
/-!
DEFINITION. Integer arithmetic and logic of tempo code (spec/06 R151, Table 6-3, the immediate ops of Table 6-2). Each
command acts on the ply that engine `e` runs, and changes nothing where none runs (log 14).
-/
namespace Sys2Proof.Machine

/-- An operation at 64 bits or, with W, at 32 bits with the result sign-extended (R151). -/
def atWidth (w : Bool) (op : (n : Nat) → BitVec n → BitVec n → BitVec n) (a b : Word64) : Word64 :=
  if w then (op 32 (a.truncate 32) (b.truncate 32)).signExtend 64 else op 64 a b

/-- The high half of the signed product. -/
def mulHigh (n : Nat) (a b : BitVec n) : BitVec n := BitVec.ofInt n (a.toInt * b.toInt / 2 ^ n)

/-- Quotients and remainders; by 0 they give 0 (R151). -/
def sdivZ (n : Nat) (a b : BitVec n) : BitVec n := if b = 0 then 0 else a.sdiv b
def udivZ (n : Nat) (a b : BitVec n) : BitVec n := if b = 0 then 0 else a / b
def sremZ (n : Nat) (a b : BitVec n) : BitVec n := if b = 0 then 0 else a.srem b
def uremZ (n : Nat) (a b : BitVec n) : BitVec n := if b = 0 then 0 else a % b

/-- Shifts: the count is taken modulo the width. -/
def shlW (n : Nat) (a b : BitVec n) : BitVec n := a <<< (b.toNat % n)
def shrW (n : Nat) (a b : BitVec n) : BitVec n := a >>> (b.toNat % n)
def sarW (n : Nat) (a b : BitVec n) : BitVec n := a.sshiftRight (b.toNat % n)

def minS (n : Nat) (a b : BitVec n) : BitVec n := if a.slt b then a else b
def maxS (n : Nat) (a b : BitVec n) : BitVec n := if a.slt b then b else a

/-- A two-operand ALU op. -/
def State.alu (s : State) (e : Fin 2) (lo hi : Nat) (w : Bool) (d a b : Fin 32)
    (op : (n : Nat) → BitVec n → BitVec n → BitVec n) : State :=
  s.regOp e lo hi d fun p => atWidth w op (p.g a) (p.g b)

/-- Whether a divisor is 0 at the op's width. -/
def divisorZero (w : Bool) (b : Word64) : Bool := if w then b.truncate 32 == (0 : BitVec 32) else b == 0

/-- A division or remainder: by 0 it sets the ply's DIVZ flag. -/
def State.aluDiv (s : State) (e : Fin 2) (w : Bool) (d a b : Fin 32)
    (op : (n : Nat) → BitVec n → BitVec n → BitVec n) : State :=
  s.retire e 4 36 fun p =>
    { ((p.setG d (atWidth w op (p.g a) (p.g b))).next) with divz := p.divz || divisorZero w (p.g b) }

abbrev Result := Host.Outcome State Fault Refusal

def execAdd (e : Fin 2) (w : Bool) (d a b : Fin 32) (s : State) : Result := .next (s.alu e 1 1 w d a b fun _ x y => x + y)
def execSub (e : Fin 2) (w : Bool) (d a b : Fin 32) (s : State) : Result := .next (s.alu e 1 1 w d a b fun _ x y => x - y)
def execMul (e : Fin 2) (w : Bool) (d a b : Fin 32) (s : State) : Result := .next (s.alu e 3 3 w d a b fun _ x y => x * y)
def execMulhs (e : Fin 2) (w : Bool) (d a b : Fin 32) (s : State) : Result := .next (s.alu e 3 3 w d a b mulHigh)
def execDivs (e : Fin 2) (w : Bool) (d a b : Fin 32) (s : State) : Result := .next (s.aluDiv e w d a b sdivZ)
def execDivu (e : Fin 2) (w : Bool) (d a b : Fin 32) (s : State) : Result := .next (s.aluDiv e w d a b udivZ)
def execRem (e : Fin 2) (w : Bool) (d a b : Fin 32) (s : State) : Result := .next (s.aluDiv e w d a b sremZ)
def execRemu (e : Fin 2) (w : Bool) (d a b : Fin 32) (s : State) : Result := .next (s.aluDiv e w d a b uremZ)
def execAndd (e : Fin 2) (w : Bool) (d a b : Fin 32) (s : State) : Result := .next (s.alu e 1 1 w d a b fun _ x y => x &&& y)
def execOrr (e : Fin 2) (w : Bool) (d a b : Fin 32) (s : State) : Result := .next (s.alu e 1 1 w d a b fun _ x y => x ||| y)
def execXorr (e : Fin 2) (w : Bool) (d a b : Fin 32) (s : State) : Result := .next (s.alu e 1 1 w d a b fun _ x y => x ^^^ y)
def execShl (e : Fin 2) (w : Bool) (d a b : Fin 32) (s : State) : Result := .next (s.alu e 1 1 w d a b shlW)
def execShr (e : Fin 2) (w : Bool) (d a b : Fin 32) (s : State) : Result := .next (s.alu e 1 1 w d a b shrW)
def execSar (e : Fin 2) (w : Bool) (d a b : Fin 32) (s : State) : Result := .next (s.alu e 1 1 w d a b sarW)
def execMins (e : Fin 2) (w : Bool) (d a b : Fin 32) (s : State) : Result := .next (s.alu e 1 1 w d a b minS)
def execMaxs (e : Fin 2) (w : Bool) (d a b : Fin 32) (s : State) : Result := .next (s.alu e 1 1 w d a b maxS)

def execAddi (e : Fin 2) (d a : Fin 32) (imm : BitVec 16) (s : State) : Result :=
  .next (s.regOp e 1 1 d fun p => p.g a + imm.signExtend 64)
def execAndi (e : Fin 2) (d a : Fin 32) (imm : BitVec 16) (s : State) : Result :=
  .next (s.regOp e 1 1 d fun p => p.g a &&& imm.zeroExtend 64)
def execOri (e : Fin 2) (d a : Fin 32) (imm : BitVec 16) (s : State) : Result :=
  .next (s.regOp e 1 1 d fun p => p.g a ||| imm.zeroExtend 64)
def execXori (e : Fin 2) (d a : Fin 32) (imm : BitVec 16) (s : State) : Result :=
  .next (s.regOp e 1 1 d fun p => p.g a ^^^ imm.zeroExtend 64)
def execMovi (e : Fin 2) (d : Fin 32) (imm : BitVec 21) (s : State) : Result :=
  .next (s.regOp e 1 1 d fun _ => imm.signExtend 64)

/-- A word that is no op reached execution (Table 6-9). -/
def trapIllegal : Nat := 1

/-- LDC: a constant of the image's pool. The loader refuses an index beyond it (0x0434); such an op is no op. -/
def execLdc (e : Fin 2) (d : Fin 32) (imm : BitVec 21) (s : State) : Result :=
  .next (s.progOp e 2 3 fun p g => match g.image.consts[imm.toNat]? with
    | some v => .on (p.setG d (BitVec.ofNat 64 v)).next g
    | none => .trap trapIllegal 0)

end Sys2Proof.Machine
end

