-- ==== Sys2Proof/Machine/TempoData.lean ====
section
/-!
DEFINITION. Process-image, instance, global, timer and edge ops of tempo code (spec/06 R155 to R162).
-/
namespace Sys2Proof.Machine

/-- G[A] plus the sign-extended offset, as an unsigned 64-bit number. -/
def Ply.ea (p : Ply) (a : Fin 32) (imm : BitVec 16) : Nat := (p.g a + imm.signExtend 64).toNat

/-! ### Process image (R155 to R157) -/

/-- A slot op: it traps with SLOT_RANGE when the slot is not below the count. -/
def State.slotOp (s : State) (e : Fin 2) (a : Fin 32) (imm : BitVec 16) (count : Ply → Nat) (f : Ply → Nat → Ply) : State :=
  s.progOp e 2 3 fun p g => if p.ea a imm < count p then .on (f p (p.ea a imm)).next g else .trap trapSlot 0

def execPld (e : Fin 2) (d a : Fin 32) (imm : BitVec 16) (s : State) : Result :=
  .next (s.slotOp e a imm (·.ins.length) fun p i => p.setG d (p.ins.getD i (0, 0)).1)
def execPattr (e : Fin 2) (d a : Fin 32) (imm : BitVec 16) (s : State) : Result :=
  .next (s.slotOp e a imm (·.ins.length) fun p i => p.setG d (BitVec.ofNat 64 (p.ins.getD i (0, 0)).2))
def execPst (e : Fin 2) (d a : Fin 32) (imm : BitVec 16) (s : State) : Result :=
  .next (s.slotOp e a imm (·.outs.length) fun p i => { p with outs := p.outs.set i (p.g d) })
def execPold (e : Fin 2) (d a : Fin 32) (imm : BitVec 16) (s : State) : Result :=
  .next (s.slotOp e a imm (·.outs.length) fun p i => p.setG d (p.outs.getD i 0))

/-! ### Instance and global data (R158, R159) -/

/-- Whether a record or value of `n` bytes, aligned to `al`, lies at `x` in an instance. -/
def Inst.fits (i : Inst) (x n al : Nat) : Bool := x % al == 0 && decide (x + n ≤ i.size)

/-- Whether a store by a ply on the old bank goes to data already transferred (R186). -/
def State.late (s : State) (p : Ply) (x : Inst) : Bool :=
  let g := s.prog p.comp
  p.onOld && (match g.old, g.cur with
    | some o, some n => (match o.image.insts[x.ix]? with
      | some t => (match n.image.insts.findIdx? fun y => y.path == t.path with | some i => g.moved.contains i | none => false)
      | none => false)
    | _, _ => false)

/-- A load from the instance that `which` picks. -/
def State.loadOp (s : State) (e : Fin 2) (d a : Fin 32) (imm : BitVec 16) (n code : Nat) (which : Ply → Prog → Option Inst) : State :=
  s.progOp e 2 3 fun p g => match which p g with
    | some x => if x.fits (p.ea a imm) n n then
        .on (p.setG d (BitVec.ofNat 64 (memRead x.data (p.ea a imm) n))).next g else .trap code 0
    | none => .trap code 0

/-- A store to the instance that `which` picks: the low `n` bytes of G[D]. -/
def State.storeOp (s : State) (e : Fin 2) (d a : Fin 32) (imm : BitVec 16) (n code : Nat) (which : Ply → Prog → Option Inst) : State :=
  s.progOp e 2 3 fun p g => match which p g with
    | some x => if x.fits (p.ea a imm) n n then
        .on { p.next with lost := p.lost || s.late p x }
          (g.putInst { x with data := memWrite x.data (p.ea a imm) (le n (p.g d).toNat) })
      else .trap code 0
    | none => .trap code 0

/-- The current instance. -/
def current (p : Ply) (g : Prog) : Option Inst := g.inst p.ib
/-- The global instance of the ply. -/
def globalOf (p : Ply) (g : Prog) : Option Inst := p.gb.bind g.inst

def execIldB (e : Fin 2) (d a : Fin 32) (imm : BitVec 16) (s : State) : Result := .next (s.loadOp e d a imm 1 trapInst current)
def execIldH (e : Fin 2) (d a : Fin 32) (imm : BitVec 16) (s : State) : Result := .next (s.loadOp e d a imm 2 trapInst current)
def execIldW (e : Fin 2) (d a : Fin 32) (imm : BitVec 16) (s : State) : Result := .next (s.loadOp e d a imm 4 trapInst current)
def execIldD (e : Fin 2) (d a : Fin 32) (imm : BitVec 16) (s : State) : Result := .next (s.loadOp e d a imm 8 trapInst current)
def execIstB (e : Fin 2) (d a : Fin 32) (imm : BitVec 16) (s : State) : Result := .next (s.storeOp e d a imm 1 trapInst current)
def execIstH (e : Fin 2) (d a : Fin 32) (imm : BitVec 16) (s : State) : Result := .next (s.storeOp e d a imm 2 trapInst current)
def execIstW (e : Fin 2) (d a : Fin 32) (imm : BitVec 16) (s : State) : Result := .next (s.storeOp e d a imm 4 trapInst current)
def execIstD (e : Fin 2) (d a : Fin 32) (imm : BitVec 16) (s : State) : Result := .next (s.storeOp e d a imm 8 trapInst current)
def execGld (e : Fin 2) (d a : Fin 32) (imm : BitVec 16) (s : State) : Result := .next (s.loadOp e d a imm 8 trapGlobal globalOf)
def execGst (e : Fin 2) (d a : Fin 32) (imm : BitVec 16) (s : State) : Result := .next (s.storeOp e d a imm 8 trapGlobal globalOf)

/-! ### Timers (Table 6-6, R160, R161) -/

/-- A timer record. `rest` holds the bits outside the named fields. -/
structure Timer where
  pt : Nat
  kind : Nat
  inPrev : Bool
  q : Bool
  running : Bool
  done : Bool
  anchor : Nat
  deriving DecidableEq, Repr

def Timer.of (w anchor : Nat) : Timer :=
  { pt := w % 2 ^ 40, kind := bits w 40 2, inPrev := bit w 48, q := bit w 49, running := bit w 50, done := bit w 51,
    anchor := anchor }

/-- The first word of a record with its state fields replaced; the other bits stay. -/
def Timer.word (x : Timer) (w : Nat) : Nat :=
  w % 2 ^ 48 + 2 ^ 48 * (b2n x.inPrev + 2 * b2n x.q + 4 * b2n x.running + 8 * b2n x.done) + w / 2 ^ 52 * 2 ^ 52

/-- Elapsed microseconds since the anchor, at most PT. -/
def Timer.et (x : Timer) (t : Nat) : Nat := min x.pt ((t - x.anchor) / 1000)

/-- What TMR and TMRRD write: Q in bit 0, ET in bits 40:1. -/
def timerResult (q : Bool) (et : Nat) : Word64 := BitVec.ofNat 64 (b2n q + 2 * et)

def Timer.ton (x : Timer) (i : Bool) (t : Nat) : Timer × Nat :=
  if ! i then ({ x with running := false, done := false, q := false }, 0)
  else
    let y := if ! x.inPrev then { x with anchor := t, running := true, done := false } else x
    if y.running then
      let et := y.et t
      (if et ≥ y.pt then { y with q := true, done := true, running := false } else y, et)
    else (y, if y.done then y.pt else 0)

def Timer.tof (x : Timer) (i : Bool) (t : Nat) : Timer × Nat :=
  if i then ({ x with q := true, running := false, done := false }, 0)
  else
    let y := if x.inPrev then { x with anchor := t, running := true } else x
    if y.running then
      let et := y.et t
      (if et ≥ y.pt then { y with q := false, done := true, running := false } else y, et)
    else (y, if y.done then y.pt else 0)

def Timer.tp (x : Timer) (i : Bool) (t : Nat) : Timer × Nat :=
  let y := if i && ! x.inPrev && ! x.running && ! x.done then { x with anchor := t, running := true, q := true } else x
  if y.running then
    let et := y.et t
    (if et ≥ y.pt then { y with q := false, running := false, done := true } else y, et)
  else if y.done then (if i then (y, y.pt) else ({ y with done := false }, 0))
  else (y, 0)

/-- One evaluation with input `i` at time `t` (R160). -/
def Timer.eval (x : Timer) (i : Bool) (t : Nat) : Timer × Nat :=
  let r := if x.kind = 0 then x.ton i t else if x.kind = 1 then x.tof i t else x.tp i t
  ({ r.1 with inPrev := i }, r.2)

/-- An op on a record of `n` bytes of the current instance, aligned to 8 (R158). -/
def State.recordOp (s : State) (e : Fin 2) (lo hi : Nat) (a : Fin 32) (imm : BitVec 16) (n : Nat)
    (f : Ply → Prog → Inst → Nat → OpEnd) : State :=
  s.progOp e lo hi fun p g => match current p g with
    | some x => if x.fits (p.ea a imm) n 8 then f p g x (p.ea a imm) else .trap trapInst 0
    | none => .trap trapInst 0

/-- Store to the current instance and go on. -/
def State.stored (s : State) (p : Ply) (g : Prog) (x : Inst) (m : List Host.Cell) : OpEnd :=
  .on { p.next with lost := p.lost || s.late p x } (g.putInst { x with data := m })

def execTmr (e : Fin 2) (d a : Fin 32) (imm : BitVec 16) (s : State) : Result :=
  .next (s.recordOp e 4 6 a imm 16 fun p g x at_ =>
    let w := memRead x.data at_ 8
    let tm := Timer.of w (memRead x.data (at_ + 8) 8)
    if tm.kind = 3 then .trap trapInst 0
    else
      let r := tm.eval ((p.g d).getLsbD 0) (p.cap + p.lag)
      s.stored (p.setG d (timerResult r.1.q r.2)) g x
        (memWrite (memWrite x.data at_ (le 8 (r.1.word w))) (at_ + 8) (le 8 r.1.anchor)))

def execTmrrd (e : Fin 2) (d a : Fin 32) (imm : BitVec 16) (s : State) : Result :=
  .next (s.recordOp e 4 6 a imm 16 fun p g x at_ =>
    let tm := Timer.of (memRead x.data at_ 8) (memRead x.data (at_ + 8) 8)
    .on (p.setG d (timerResult tm.q (if tm.running then tm.et (p.cap + p.lag) else if tm.done then tm.pt else 0))).next g)

/-! ### Edge detectors (R162) -/

/-- Evaluate an edge record; `seen` tells which change counts. -/
def State.edgeOp (s : State) (e : Fin 2) (d a : Fin 32) (imm : BitVec 16) (seen : Bool → Bool → Bool) : State :=
  s.recordOp e 3 3 a imm 8 fun p g x at_ =>
    let w := memRead x.data at_ 8
    let i := (p.g d).getLsbD 0
    let hit := bit w 1 && seen (bit w 0) i
    s.stored (p.setG d (BitVec.ofNat 64 (b2n hit))) g x (memWrite x.data at_ (le 8 (w / 4 * 4 + 2 + b2n i)))

def execEdgr (e : Fin 2) (d a : Fin 32) (imm : BitVec 16) (s : State) : Result :=
  .next (s.edgeOp e d a imm fun prev i => ! prev && i)
def execEdgf (e : Fin 2) (d a : Fin 32) (imm : BitVec 16) (s : State) : Result :=
  .next (s.edgeOp e d a imm fun prev i => prev && ! i)
def execEdgb (e : Fin 2) (d a : Fin 32) (imm : BitVec 16) (s : State) : Result :=
  .next (s.edgeOp e d a imm fun prev i => prev != i)

end Sys2Proof.Machine
end

