-- ==== Sys2Proof/Machine/TempoFlow.lean ====
section
/-!
DEFINITION. Branches and calls of tempo code (spec/06 R154, R163, R164). RET is in Return.lean, after the field bus,
whose transmit buffers an output step may trigger.
-/
namespace Sys2Proof.Machine

/-- The address a signed word offset names; it wraps at 32 bits. -/
def jump (pc : Nat) (off : Int) : Nat := ((pc + 4 * off) % 2 ^ 32).toNat

/-- A branch: taken or not, its cycles 2 or 1 (Table 6-11). `f` updates the ply first. -/
def State.branch (s : State) (e : Fin 2) (off : Int) (f : Ply → Ply) (taken : Ply → Bool) : State :=
  match s.running e with
  | none => s
  | some p0 =>
    let go := taken (f p0)
    (if go then s.countOp e 0x0B else s).retire e (if go then 2 else 1) (if go then 2 else 1) fun p =>
      let q := f p
      if go then { q with pc := jump p.pc off } else q.next

def execBr (e : Fin 2) (imm : BitVec 26) (s : State) : Result := .next (s.branch e imm.toInt id fun _ => true)
def execBz (e : Fin 2) (d : Fin 32) (imm : BitVec 21) (s : State) : Result :=
  .next (s.branch e imm.toInt id fun p => p.g d == 0)
def execBnz (e : Fin 2) (d : Fin 32) (imm : BitVec 21) (s : State) : Result :=
  .next (s.branch e imm.toInt id fun p => p.g d != 0)

/-- BDEC writes G[D] − 1 and branches while the result is not 0; with D = G0 the result is −1 and is discarded. -/
def execBdec (e : Fin 2) (d : Fin 32) (imm : BitVec 21) (s : State) : Result :=
  .next (match s.running e with
    | none => s
    | some p0 =>
      let go := p0.g d - 1 != 0
      s.branch e imm.toInt (fun p => p.setG d (p.g d - 1)) fun _ => go)

/-- BTAB: entry G[A] of the table at constant off16, or on to the next op. A table the pool does not hold is one the
loader refuses (0x0434); such an op is no op. -/
def execBtab (e : Fin 2) (a : Fin 32) (imm : BitVec 16) (s : State) : Result :=
  .next (s.progOp e 3 4 fun p g =>
    let ts := g.image.tableTargets p.pc imm.toNat
    if imm.toNat < g.image.consts.length then
      match ts[(p.g a).toNat]? with
      | some t => .on { p with pc := jump 0 (t / 4) } g
      | none => .on p.next g
    else .trap trapIllegal 0)

/-- Push the return and go to a callee; a full link stack traps with DEPTH (R164). -/
def Ply.callTo (p : Ply) (g : Prog) (pc ib : Nat) : OpEnd :=
  if p.link.length ≥ 16 then .trap trapDepth 0
  else .on { p with link := (p.pc + 4, p.ib) :: p.link, pc := pc, ib := ib } g

/-- The entry of an instance's type. -/
def Prog.entryOf (g : Prog) (x : Inst) : Option Nat :=
  (g.image.types[x.typeIx]?).bind fun t => (g.image.funcs[t.entry]?).map (·.off)

/-- Call an instance; none that lives in the program traps with BAD_INSTANCE (R163). -/
def Ply.callInst (p : Ply) (g : Prog) (x : Option Inst) : OpEnd :=
  match x with
  | some i => match g.entryOf i with
    | some pc => p.callTo g pc i.id
    | none => .trap trapBadInst 0
  | none => .trap trapBadInst 0

/-- Count a call where the running ply has made one (Table 19-2). -/
def State.countCall (s0 s1 : State) (e : Fin 2) : State :=
  match s0.running e with
  | some p => match s1.plyOf p.comp p.engine p.entry with
    | some q => if p.link.length < q.link.length then s1.perf (5 + e.val) 0x0C p.comp else s1
    | none => s1
  | none => s1

/-- FBCALL: child imm16 by the current instance's child table; an entry outside its data traps with INST_RANGE. -/
def execFbcall (e : Fin 2) (imm : BitVec 16) (s : State) : Result :=
  .next (s.countCall (s.progOp e 5 8 fun p g => match current p g with
    | some x => if x.fits (2 * imm.toNat) 2 2 then p.callInst g (g.inst (memRead x.data (2 * imm.toNat) 2)) else .trap trapInst 0
    | none => .trap trapInst 0) e)

/-- FBCALLX: the instance of identifier G[A][13:0], of type off16. -/
def execFbcallx (e : Fin 2) (a : Fin 32) (imm : BitVec 16) (s : State) : Result :=
  .next (s.countCall (s.progOp e 5 8 fun p g =>
    if (p.g a).toNat < 16384 then p.callInst g ((g.inst (p.g a).toNat).filter fun x => x.typeIx == imm.toNat)
    else .trap trapBadInst 0) e)

def execCall (e : Fin 2) (imm : BitVec 26) (s : State) : Result :=
  .next (s.countCall (s.progOp e 5 8 fun p g => p.callTo g (jump p.pc imm.toInt) p.ib) e)

end Sys2Proof.Machine
end

