-- ==== Sys2Proof/Machine/Return.lean ====
section
/-!
DEFINITION. RET (spec/06 R148, R164): back to the caller, or the end of the ply with its output step, which may trigger
transmit buffers (spec/10 R267).
-/
namespace Sys2Proof.Machine

/-- Pop the newest entry of the link stack: its return address and instance. -/
def Ply.back (p : Ply) (pc ib : Nat) (rest : List (Nat × Nat)) : Ply := { p with pc := pc, ib := ib, link := rest }

/-- The end of a ply and the transmissions its outputs trigger. -/
def State.finishPly (s : State) (p : Ply) : State := (s.endPly p).outputTriggers p.outPts

/-- RET takes 3 to 4 cycles (Table 6-11). -/
def execRet (e : Fin 2) (s : State) : Host.Outcome State Fault Refusal :=
  .next (match s.running e with
    | none => s
    | some p0 =>
      let (s1, p) := s.spend p0 3 4
      match p.link with
      | (pc, ib) :: rest => s1.putPly (p.back pc ib rest)
      | [] => s1.finishPly p)

end Sys2Proof.Machine
end

