-- ==== Sys2Proof/Machine/TempoBit.lean ====
section
/-!
DEFINITION. Comparisons and bit operations of tempo code (spec/06 R153, Table 6-5).
-/
namespace Sys2Proof.Machine

/-- A comparison at 64 or, with W, 32 bits: 1 when it holds, else 0. -/
def State.cmp (s : State) (e : Fin 2) (w : Bool) (d a b : Fin 32) (op : (n : Nat) → BitVec n → BitVec n → Bool) : State :=
  s.regOp e 1 1 d fun p =>
    let x := p.g a
    let y := p.g b
    BitVec.ofNat 64 (b2n (if w then op 32 (x.truncate 32) (y.truncate 32) else op 64 x y))

def execCmpEq (e : Fin 2) (w : Bool) (d a b : Fin 32) (s : State) : Result := .next (s.cmp e w d a b fun _ x y => x == y)
def execCmpNe (e : Fin 2) (w : Bool) (d a b : Fin 32) (s : State) : Result := .next (s.cmp e w d a b fun _ x y => x != y)
def execCmpLt (e : Fin 2) (w : Bool) (d a b : Fin 32) (s : State) : Result := .next (s.cmp e w d a b fun _ x y => x.slt y)
def execCmpLe (e : Fin 2) (w : Bool) (d a b : Fin 32) (s : State) : Result := .next (s.cmp e w d a b fun _ x y => x.sle y)
def execCmpLtu (e : Fin 2) (w : Bool) (d a b : Fin 32) (s : State) : Result := .next (s.cmp e w d a b fun _ x y => x.ult y)
def execCmpLeu (e : Fin 2) (w : Bool) (d a b : Fin 32) (s : State) : Result := .next (s.cmp e w d a b fun _ x y => x.ule y)

/-- A one-operand bit op. -/
def State.bitOp (s : State) (e : Fin 2) (d a : Fin 32) (f : Word64 → Word64) : State := s.regOp e 1 1 d fun p => f (p.g a)

def execBtst (e : Fin 2) (d a : Fin 32) (p : Fin 64) (s : State) : Result :=
  .next (s.bitOp e d a fun v => (v >>> p.val) &&& 1)
def execBset (e : Fin 2) (d a : Fin 32) (p : Fin 64) (s : State) : Result :=
  .next (s.bitOp e d a fun v => v ||| ((1 : Word64) <<< p.val))
def execBclr (e : Fin 2) (d a : Fin 32) (p : Fin 64) (s : State) : Result :=
  .next (s.bitOp e d a fun v => v &&& ~~~((1 : Word64) <<< p.val))
def execBinv (e : Fin 2) (d a : Fin 32) (p : Fin 64) (s : State) : Result :=
  .next (s.bitOp e d a fun v => v ^^^ ((1 : Word64) <<< p.val))

/-- The mask of the low `n` bits. -/
def lowMask (n : Nat) : Word64 := BitVec.ofNat 64 (2 ^ n - 1)

/-- An op whose field would reach beyond bit 63 is no op (R153). -/
def State.fieldOp (s : State) (e : Fin 2) (p : Fin 64) (wm1 : Fin 32) (f : Ply → Ply) : State :=
  if p.val + wm1.val + 1 ≤ 64 then s.retire e 1 1 fun q => (f q).next
  else s.progOp e 1 1 fun _ _ => .trap trapIllegal 0

def execExtu (e : Fin 2) (d a : Fin 32) (p : Fin 64) (wm1 : Fin 32) (s : State) : Result :=
  .next (s.fieldOp e p wm1 fun q => q.setG d ((q.g a >>> p.val) &&& lowMask (wm1.val + 1)))

/-- A field of `w` bits sign-extended to 64. -/
def extendField (v : Word64) (w : Nat) : Word64 := BitVec.ofInt 64 (sgn w (v.toNat % 2 ^ w))

def execExts (e : Fin 2) (d a : Fin 32) (p : Fin 64) (wm1 : Fin 32) (s : State) : Result :=
  .next (s.fieldOp e p wm1 fun q => q.setG d (extendField (q.g a >>> p.val) (wm1.val + 1)))

/-- `old` with the field of `w` bits at `p` replaced by the low bits of `v`. -/
def insertField (old v : Word64) (p w : Nat) : Word64 :=
  (old &&& ~~~(lowMask w <<< p)) ||| ((v &&& lowMask w) <<< p)

def execIns (e : Fin 2) (d a : Fin 32) (p : Fin 64) (wm1 : Fin 32) (s : State) : Result :=
  .next (s.fieldOp e p wm1 fun q => q.setG d (insertField (q.g d) (q.g a) p.val (wm1.val + 1)))

/-- Leading zeros of a 64-bit value. -/
def clz64 (v : Word64) : Nat := if v = 0 then 64 else 63 - Nat.log2 v.toNat

def execClz (e : Fin 2) (d a : Fin 32) (s : State) : Result := .next (s.bitOp e d a fun v => BitVec.ofNat 64 (clz64 v))
def execPopc (e : Fin 2) (d a : Fin 32) (s : State) : Result :=
  .next (s.bitOp e d a fun v => BitVec.ofNat 64 (popN 64 v.toNat))

end Sys2Proof.Machine
end

