-- ==== Sys2Proof/Machine/TempoFp.lean ====
section
/-!
DEFINITION. Floating point and conversions of tempo code (spec/06 R152, R153, Tables 6-4 and 6-5).
-/
namespace Sys2Proof.Machine

/-- The format an op's size bit names. -/
def fmtOf (dbl : Bool) : Fmt := if dbl then f64 else f32

/-- A floating operand: bits 31:0 for binary32. -/
def fpIn (dbl : Bool) (v : Word64) : Nat := if dbl then v.toNat else v.toNat % 2 ^ 32

/-- A two-operand floating op; a binary32 result clears bits 63:32. -/
def State.fpu (s : State) (e : Fin 2) (lo hi : Nat) (dbl : Bool) (d a b : Fin 32) (op : Fmt → Nat → Nat → Nat) : State :=
  (s.countOp e 0x0D).regOp e lo hi d fun p => BitVec.ofNat 64 (op (fmtOf dbl) (fpIn dbl (p.g a)) (fpIn dbl (p.g b)))

/-- A one-operand floating op. -/
def State.fpu1 (s : State) (e : Fin 2) (lo hi : Nat) (dbl : Bool) (d a : Fin 32) (op : Fmt → Nat → Nat) : State :=
  (s.countOp e 0x0D).regOp e lo hi d fun p => BitVec.ofNat 64 (op (fmtOf dbl) (fpIn dbl (p.g a)))

def execFadd (e : Fin 2) (dbl : Bool) (d a b : Fin 32) (s : State) : Result := .next (s.fpu e 1 4 dbl d a b Fmt.fadd)
def execFsub (e : Fin 2) (dbl : Bool) (d a b : Fin 32) (s : State) : Result := .next (s.fpu e 1 4 dbl d a b Fmt.fsub)
def execFmul (e : Fin 2) (dbl : Bool) (d a b : Fin 32) (s : State) : Result := .next (s.fpu e 1 4 dbl d a b Fmt.fmul)
def execFdiv (e : Fin 2) (dbl : Bool) (d a b : Fin 32) (s : State) : Result := .next (s.fpu e 12 32 dbl d a b Fmt.fdiv)
def execFsqrt (e : Fin 2) (dbl : Bool) (d a : Fin 32) (s : State) : Result := .next (s.fpu1 e 12 32 dbl d a Fmt.fsqrt)
def execFmin (e : Fin 2) (dbl : Bool) (d a b : Fin 32) (s : State) : Result := .next (s.fpu e 1 4 dbl d a b Fmt.fmin)
def execFmax (e : Fin 2) (dbl : Bool) (d a b : Fin 32) (s : State) : Result := .next (s.fpu e 1 4 dbl d a b Fmt.fmax)
def execFabs (e : Fin 2) (dbl : Bool) (d a : Fin 32) (s : State) : Result := .next (s.fpu1 e 1 4 dbl d a Fmt.fabs)
def execFneg (e : Fin 2) (dbl : Bool) (d a : Fin 32) (s : State) : Result := .next (s.fpu1 e 1 4 dbl d a Fmt.fneg)

/-- A signed or unsigned integer side: 32 bits with W, else 64. -/
def intIn (w : Bool) (v : Word64) : Int := if w then (v.truncate 32 : BitVec 32).toInt else v.toInt
def natIn (w : Bool) (v : Word64) : Int := if w then (v.truncate 32 : BitVec 32).toNat else v.toNat

/-- A datum as a signed integer of the side's width, sign-extended. -/
def intOut (w : Bool) (x : Fp) : Word64 :=
  if w then BitVec.ofInt 64 (x.toInt (-2147483648) 2147483647)
  else BitVec.ofInt 64 (x.toInt (-9223372036854775808) 9223372036854775807)

/-- A conversion. -/
def State.cvt (s : State) (e : Fin 2) (d a : Fin 32) (f : Word64 → Word64) : State := (s.countOp e 0x0D).regOp e 1 4 d fun p => f (p.g a)

def execI2d (e : Fin 2) (w : Bool) (d a : Fin 32) (s : State) : Result :=
  .next (s.cvt e d a fun v => BitVec.ofNat 64 (f64.bits (Fp.ofInt (intIn w v))))
def execD2i (e : Fin 2) (w : Bool) (d a : Fin 32) (s : State) : Result :=
  .next (s.cvt e d a fun v => intOut w (f64.unpack v.toNat))
def execI2f (e : Fin 2) (w : Bool) (d a : Fin 32) (s : State) : Result :=
  .next (s.cvt e d a fun v => BitVec.ofNat 64 (f32.bits (Fp.ofInt (intIn w v))))
def execF2i (e : Fin 2) (w : Bool) (d a : Fin 32) (s : State) : Result :=
  .next (s.cvt e d a fun v => intOut w (f32.unpack (fpIn false v)))
def execF2d (e : Fin 2) (d a : Fin 32) (s : State) : Result :=
  .next (s.cvt e d a fun v => BitVec.ofNat 64 (f64.bits (f32.unpack (fpIn false v))))
def execD2f (e : Fin 2) (d a : Fin 32) (s : State) : Result :=
  .next (s.cvt e d a fun v => BitVec.ofNat 64 (f32.bits (f64.unpack v.toNat)))
def execU2d (e : Fin 2) (w : Bool) (d a : Fin 32) (s : State) : Result :=
  .next (s.cvt e d a fun v => BitVec.ofNat 64 (f64.bits (Fp.ofInt (natIn w v))))

/-- A floating comparison writes 1 or 0. -/
def State.fcmp (s : State) (e : Fin 2) (dbl : Bool) (d a b : Fin 32) (op : Fmt → Nat → Nat → Bool) : State :=
  s.fpu e 1 4 dbl d a b fun f x y => b2n (op f x y)

def execFcmpEq (e : Fin 2) (dbl : Bool) (d a b : Fin 32) (s : State) : Result := .next (s.fcmp e dbl d a b Fmt.feq)
def execFcmpNe (e : Fin 2) (dbl : Bool) (d a b : Fin 32) (s : State) : Result :=
  .next (s.fcmp e dbl d a b fun f x y => ! f.feq x y)
def execFcmpLt (e : Fin 2) (dbl : Bool) (d a b : Fin 32) (s : State) : Result := .next (s.fcmp e dbl d a b Fmt.flt)
def execFcmpLe (e : Fin 2) (dbl : Bool) (d a b : Fin 32) (s : State) : Result :=
  .next (s.fcmp e dbl d a b fun f x y => ! f.funord x y && ! f.flt y x)
def execFcmpUnord (e : Fin 2) (dbl : Bool) (d a b : Fin 32) (s : State) : Result := .next (s.fcmp e dbl d a b Fmt.funord)

end Sys2Proof.Machine
end

