-- ==== Sys2Proof/Machine/TempoSys.lean ====
section
/-!
DEFINITION. System calls of tempo code (spec/06 R165, R166, Tables 6-7 and 6-8) and the system window they use
(spec/05 R143, Table 5-9; spec/04 R90, R91).
-/
namespace Sys2Proof.Machine

/-- The requester a ply is. -/
def Ply.who (p : Ply) : Requester := .task p.comp p.engine p.entry

/-! ### Costs (Table 5-9) -/

/-- Whether a word lies in the SCE or PIMG block. -/
def inSce (a : Nat) : Bool := decide (0x100000 ≤ a ∧ a < 0x400000)

/-- Charge an op that takes a free time of at most `ns` nanoseconds. -/
def State.spendNs (s : State) (p : Ply) (ns : Nat) : State × Ply :=
  let (sw, s1) := s.switchPs p
  let (n, s2) := s1.draw
  let ps := sw + n % (1000 * ns + 1)
  ((s2.charge p ps).opDone p (s.eng p.engine).last (ps * s2.sceClk p.engine), { p with charged := p.charged + ps, begun := true })

/-- Charge a completed access of `n` words: 24 cycles where the status was decided before any object was looked up, or
on a WS field; 8 to 16 cycles a word in SCE or PIMG; up to 400 ns a word in another HW block. -/
def State.spendAccess (s : State) (p : Ply) (a n st : Nat) : State × Ply :=
  if st = St.noObject ∨ st = St.badAccess ∨ (st = St.notPermitted ∧ ! decide (0x1C0000 ≤ a ∧ a < 0x200000)) then s.spend p 24 24
  else if inSce a then (s.perf (5 + p.engine) 0x09 p.comp).spend p (8 * n) (16 * n)
  else (s.perf (5 + p.engine) 0x09 p.comp).spendNs p (400 * n)

/-- Begin an FW access: the ply is BLOCKED until it is done; the wait is not charged. -/
def State.beginFw (s : State) (p : Ply) (x : FwAccess) : State :=
  let (s1, q) := (s.perf (5 + p.engine) 0x0A p.comp).spend p 0 0
  s1.putPly { q with waiting := some x }

/-! ### Reads -/

/-- The words a call names. -/
def callWords (a : Nat) (wide : Bool) : List Nat := if wide then [a, a + 4] else [a]

/-- The value of one or two words. -/
def wordsValue : List Nat → Nat
  | [] => 0
  | v :: r => v + 2 ^ 32 * wordsValue r

/-- Make the read for a ply and put value and status in its registers. -/
def State.windowRead (s : State) (p : Ply) (d b : Nat) (a : Nat) (wide : Bool) : State × Ply × Nat :=
  let l := callWords a wide
  let st := s.wordsStatus p.comp l
  let put (q : Ply) (v : Nat) : Ply := (q.setG (Fin.ofNat 32 d) (BitVec.ofNat 64 v)).setG (Fin.ofNat 32 b) (BitVec.ofNat 64 st)
  if st = St.ok then
    let (vs, s1) := s.readWords p.who p.comp false l
    (s1, put p (wordsValue vs), st)
  else (s, put p 0, st)

/-- OBJRD32 and OBJRD64 for the ply that the engine runs. -/
def State.objRead (s : State) (e : Fin 2) (d a b : Fin 32) (wide : Bool) : State :=
  match s.running e with
  | none => s
  | some p =>
    let adr := (p.g a).toNat
    let l := callWords adr wide
    let st := s.wordsStatus p.comp l
    if st ≠ St.noObject ∧ st ≠ St.badAccess ∧ ! l.all isHw then s.beginFw p (.read d.val b.val adr wide)
    else
      let (s1, q, _) := s.windowRead p d.val b.val adr wide
      let (s2, r) := s1.spendAccess q adr l.length st
      s2.putPly r.next

def execObjrd32 (e : Fin 2) (d a b : Fin 32) (s : State) : Host.Outcome State Fault Refusal := .next (s.objRead e d a b false)
def execObjrd64 (e : Fin 2) (d a b : Fin 32) (s : State) : Host.Outcome State Fault Refusal := .next (s.objRead e d a b true)

/-! ### Writes -/

/-- The words and values of a write. -/
def callWrites (a v : Nat) (wide : Bool) : List (Nat × Nat) := if wide then [(a, v % 2 ^ 32), (a + 4, v / 2 ^ 32)] else [(a, v % 2 ^ 32)]

/-- Whether a word is in a task's view and present. -/
def State.seen (s : State) (c a : Nat) : Bool := a % 4 == 0 && (s.sight c a != .hidden && (s.wordAt c a).isSome)

/-- Whether a word in view holds a WS field. -/
def State.hitsWs (s : State) (c a : Nat) : Bool := s.seen c a && (Obj.parts a).any fun p => p.row.acc == .ws

/-- OBJWR32 and OBJWR64 for the ply that the engine runs. -/
def State.objWriteOp (s : State) (e : Fin 2) (d a b : Fin 32) (wide : Bool) : State :=
  match s.running e with
  | none => s
  | some p =>
    let adr := (p.g a).toNat
    let v := (p.g b).toNat
    let ws := callWrites adr v wide
    if ws.all (fun w => s.seen p.comp w.1) && ! ws.any (fun w => s.hitsWs p.comp w.1) && ! ws.all (fun w => isHw w.1) then
      s.beginFw p (.write d.val adr wide v)
    else
      let (s1, st) := s.taskWrite p.comp p.engine p.entry ws
      let q := (s1.plyOf p.comp p.engine p.entry).getD p
      let (s2, r) := s1.spendAccess q adr ws.length st
      s2.putPly (r.setG d (BitVec.ofNat 64 st)).next

def execObjwr32 (e : Fin 2) (d a b : Fin 32) (s : State) : Host.Outcome State Fault Refusal := .next (s.objWriteOp e d a b false)
def execObjwr64 (e : Fin 2) (d a b : Fin 32) (s : State) : Host.Outcome State Fault Refusal := .next (s.objWriteOp e d a b true)

/-! ### Events -/

/-- EVENT: the record is queued at once (R348); the fifth call of a ply, and every later one, is refused. -/
def State.eventOp (s : State) (e : Fin 2) (d a : Fin 32) : State :=
  match s.running e with
  | none => s
  | some p =>
    if 4 ≤ p.events then
      let (s1, q) := s.spend p 12 12
      s1.putPly (q.setG d (BitVec.ofNat 64 St.noSpace)).next
    else
      let body := le 4 ((p.g a).toNat % 2 ^ 32) ++ le 1 p.engine ++ le 1 p.entry ++ le 2 0 ++ le 8 p.cap
      (s.log p.comp 0x0701 body).beginFw { p with events := p.events + 1 } (.event d.val)

def execEvent (e : Fin 2) (d a : Fin 32) (s : State) : Host.Outcome State Fault Refusal := .next (s.eventOp e d a)

/-- FW_ACCESS_DONE (R143): the access a ply waits for is made, and the ply is ready again. -/
def fwAccessDone (c e k : Nat) (s : State) : State :=
  match s.plyOf c e k with
  | none => s
  | some p0 =>
    let p := { p0 with waiting := none }
    match p0.waiting with
    | none => s
    | some (.read d b a wide) =>
      let (s1, q, _) := s.windowRead p d b a wide
      s1.putPly q.next
    | some (.write d a wide v) =>
      let (s1, st) := s.taskWrite c e k (callWrites a v wide)
      let q := { (s1.plyOf c e k).getD p with waiting := none }
      s1.putPly (q.setG (Fin.ofNat 32 d) (BitVec.ofNat 64 st)).next
    | some (.event d) => s.putPly (p.setG (Fin.ofNat 32 d) (BitVec.ofNat 64 St.ok)).next

def execFwAccessDone (comp : Nat) (e : Fin 2) (entry : Fin 16) (t : Nat) (s : State) : Host.Outcome State Fault Refusal :=
  .next (fwAccessDone comp e.val entry.val (s.advance t))

/-! ### The ply's own context -/

def execTbound (e : Fin 2) (d : Fin 32) (s : State) : Host.Outcome State Fault Refusal :=
  .next (s.regOp e 4 4 d fun p => BitVec.ofNat 64 p.cap)

def execTnow (e : Fin 2) (d : Fin 32) (s : State) : Host.Outcome State Fault Refusal :=
  .next (s.regOp e 12 12 d fun _ => BitVec.ofNat 64 s.floorTime)

/-- PLYINFO (Table 6-8). -/
def Ply.info (p : Ply) : Nat :=
  b2n p.first + 2 * b2n p.cold + 4 * b2n p.divz + 8 * b2n p.stepped + 16 * b2n p.newBank + 32 * (p.entry % 16) +
  512 * (p.engine % 2) + 2 ^ 32 * (p.tempoLow % 2 ^ 32)

def execPlyinfo (e : Fin 2) (d : Fin 32) (s : State) : Host.Outcome State Fault Refusal :=
  .next (s.regOp e 4 4 d fun p => BitVec.ofNat 64 p.info)

/-- WAKE: OK in every mode; in M2 a watch-eligible task asks for full service while bit 4 of PWR_WAKE_EN is set. -/
def execWake (e : Fin 2) (d : Fin 32) (s : State) : Host.Outcome State Fault Refusal :=
  .next (match s.running e with
    | none => s
    | some p =>
      let s1 := s.regOp e 12 12 d fun _ => BitVec.ofNat 64 St.ok
      if s.mode = 2 ∧ s.watchTask p.comp p.engine p.entry ∧ s.wakeEn 4 then s1.wake 5 else s1)

/-- UTRAP: a trap with code USER and detail G[A][15:0]. -/
def execUtrap (e : Fin 2) (a : Fin 32) (s : State) : Host.Outcome State Fault Refusal :=
  .next (s.progOp e 0 0 fun p _ => .trap trapUser ((p.g a).toNat % 2 ^ 16))

end Sys2Proof.Machine
end

