-- ==== Sys2Proof/Machine/TimeStep.lean ====
section
/-!
DEFINITION. The floor-time step (spec/13 R327, R328, Table 13-2): floor time passes from S to S + Δ at once. Tempo
boundaries, CAN stamps and epochs follow floor time by themselves, and the RTC does not move.
-/
namespace Sys2Proof.Machine

/-- Δ added to ANCHOR of the timer record at an offset, where it is running. -/
def shiftTimer (d : Nat) (m : List Host.Cell) (off : Nat) : List Host.Cell :=
  if bit (memRead m off 8) 50 then memWrite m (off + 8) (le 8 ((memRead m (off + 8) 8 + d) % 2 ^ 64)) else m

/-- The image mover's part: every running timer record of a placed program. -/
def Prog.shiftTimers (g : Prog) (d : Nat) : Prog :=
  { g with insts := g.insts.map fun (x : Inst) =>
      match g.image.types[x.typeIx]? with
      | some t => { x with data := (t.vars.filter fun v => v.dtype == dtTimer).foldl (fun m v => shiftTimer d m v.off) x.data }
      | none => x }

/-- Both copies of a compartment's instances. -/
def CompScan.shiftTimers (g : CompScan) (d : Nat) : CompScan :=
  { g with cur := g.cur.map fun p => p.shiftTimers d, old := g.old.map fun p => p.shiftTimers d }

/-- A running pulse and its open time keep their lengths. -/
def Pulse.shift (p : Pulse) (d : Nat) : Pulse := { p with endAt := p.endAt.map (· + d), openUntil := p.openUntil + d }

/-- What the units keep, seen from the other side of the step. -/
def State.acrossStep (s : State) (S d : Nat) : State :=
  { s with
    scan := { s.scan with progs := s.scan.progs.map fun p => (p.1, p.2.shiftTimers d),
                          plies := s.scan.plies.map fun (p : Ply) => { p with lag := p.lag + d } },
    mae := { s.mae with steps := s.mae.steps ++ [(S, d)], pulses := s.mae.pulses.map fun p => (p.1, p.2.shift d) },
    pmon := { s.pmon with cycAt := s.pmon.cycAt + d } }

/-- Floor time passes from S to S + Δ: its registers, its event to the logs of C00 and C01 (Δ, then S). -/
def State.stepFloor (s : State) (S d : Nat) : State :=
  let s1 := (s.markCycles.nextWindow 0 (S + d)).nextWindow 1 (S + d)
  let s2 := { s1.acrossStep S d with floorTime := s1.floorTime + d, ptp := { s1.ptp with step := none } }
  let s3 := ((s2.wr Obj.TIME_FT_STATE_STEP_DUE.f 0).wr Obj.TIME_LAST_STEP.f d).wr Obj.TIME_LAST_STEP_AT.f S
  (s3.set1 Obj.TIME_EVT_STEP.f).logAll [0, 1] 0x0B01 (le 8 d ++ le 8 S)

/-- FLOOR_TIME_STEP: at S. -/
def floorTimeStep (s : State) : State :=
  match s.ptp.step with
  | some (S, d) => if S ≤ s.floorTime then s.stepFloor S d else s
  | none => s

def execFloorTimeStep (t : Nat) (s : State) : Host.Outcome State Fault Refusal := .next (floorTimeStep (s.advance t))

end Sys2Proof.Machine
end

