-- ==== Sys2Proof/Machine/Dispatch.lean ====
section
/-!
DEFINITION. The meaning of every command: one arm per row of opcode_table.json, each one direct call of its meaning.
-/
namespace Sys2Proof.Machine

def exec (i : Instr) (s : State) : Host.Outcome State Fault Refusal :=
  match i with
  | .cmdSessionOpen f => Sys2Proof.Machine.execCmdSessionOpen f s
  | .cmdSessionChallenge f => Sys2Proof.Machine.execCmdSessionChallenge f s
  | .cmdSessionClose f => Sys2Proof.Machine.execCmdSessionClose f s
  | .cmdSessionPing f => Sys2Proof.Machine.execCmdSessionPing f s
  | .cmdSessionResume f => Sys2Proof.Machine.execCmdSessionResume f s
  | .cmdSessionCancel f => Sys2Proof.Machine.execCmdSessionCancel f s
  | .cmdIdentGet f => Sys2Proof.Machine.execCmdIdentGet f s
  | .mmpBadHeader f code => Sys2Proof.Machine.execMmpBadHeader f code s
  | .mmpUndefinedCommand f code => Sys2Proof.Machine.execMmpUndefinedCommand f code s
  | .tlsHandshake h => Sys2Proof.Machine.execTlsHandshake h s
  | .transportLoss conn t => Sys2Proof.Machine.execTransportLoss conn t s
  | .sessionIdleTimeout sid t => Sys2Proof.Machine.execSessionIdleTimeout sid t s
  | .sessionDetachExpiry sid t => Sys2Proof.Machine.execSessionDetachExpiry sid t s
  | .noticeHandover sid => Sys2Proof.Machine.execNoticeHandover sid s
  | .mbxDbIn src slot => Sys2Proof.Machine.execMbxDbIn src slot s
  | .mbxSlotState slot sup port => Sys2Proof.Machine.execMbxSlotState slot sup port s
  | .cmdObjRead f => Sys2Proof.Machine.execCmdObjRead f s
  | .cmdObjWrite f => Sys2Proof.Machine.execCmdObjWrite f s
  | .cmdObjGroupRead f => Sys2Proof.Machine.execCmdObjGroupRead f s
  | .cmdObjGroupWrite f => Sys2Proof.Machine.execCmdObjGroupWrite f s
  | .regWrite who addr value setMask => Sys2Proof.Machine.execRegWrite who addr value setMask s
  | .regReadClear who addr ok setMask => Sys2Proof.Machine.execRegReadClear who addr ok setMask s
  | .modeRequest who mode cold => Sys2Proof.Machine.execModeRequest who mode cold s
  | .modeRelease who => Sys2Proof.Machine.execModeRelease who s
  | .modeTransitionDone t => Sys2Proof.Machine.execModeTransitionDone t s
  | .m9LimitExpiry t => Sys2Proof.Machine.execM9LimitExpiry t s
  | .powerFail t => Sys2Proof.Machine.execPowerFail t s
  | .powerFailCommitEnd t stages bulkLow returned => Sys2Proof.Machine.execPowerFailCommitEnd t stages bulkLow returned s
  | .bulkLow t => Sys2Proof.Machine.execBulkLow t s
  | .mainReturn t => Sys2Proof.Machine.execMainReturn t s
  | .pllLockTimeout pll t => Sys2Proof.Machine.execPllLockTimeout pll t s
  | .unitFailure u t => Sys2Proof.Machine.execUnitFailure u t s
  | .bootEntry t => Sys2Proof.Machine.execBootEntry t s
  | .startupTestDone faults t => Sys2Proof.Machine.execStartupTestDone faults t s
  | .promotionWipe failed t => Sys2Proof.Machine.execPromotionWipe failed t s
  | .bootComplete t => Sys2Proof.Machine.execBootComplete t s
  | .opSecondsTick t => Sys2Proof.Machine.execOpSecondsTick t s
  | .presencePress t => Sys2Proof.Machine.execPresencePress t s
  | .presenceWindowOpen t => Sys2Proof.Machine.execPresenceWindowOpen t s
  | .presenceWindowClose t => Sys2Proof.Machine.execPresenceWindowClose t s
  | .vbusDetect t => Sys2Proof.Machine.execVbusDetect t s
  | .tcpSynWake t => Sys2Proof.Machine.execTcpSynWake t s
  | .castStagedRead f => Sys2Proof.Machine.execCastStagedRead f s
  | .cmdCastCheck f => Sys2Proof.Machine.execCmdCastCheck f s
  | .castCheckDone comp t => Sys2Proof.Machine.execCastCheckDone comp t s
  | .cmdCastCommit f => Sys2Proof.Machine.execCmdCastCommit f s
  | .cmdCastAbort f => Sys2Proof.Machine.execCmdCastAbort f s
  | .castArm t => Sys2Proof.Machine.execCastArm t s
  | .castConfirmDeadline confirmed => Sys2Proof.Machine.execCastConfirmDeadline confirmed s
  | .castInstant t => Sys2Proof.Machine.execCastInstant t s
  | .castAppliedMark t => Sys2Proof.Machine.execCastAppliedMark t s
  | .splitLatch t => Sys2Proof.Machine.execSplitLatch t s
  | .tempoBoundary comp e entry t => Sys2Proof.Machine.execTempoBoundary comp e entry t s
  | .skipLimitStop comp e entry t => Sys2Proof.Machine.execSkipLimitStop comp e entry t s
  | .budgetWindow e t => Sys2Proof.Machine.execBudgetWindow e t s
  | .budgetSuspension comp e t => Sys2Proof.Machine.execBudgetSuspension comp e t s
  | .fwAccessDone comp e entry t => Sys2Proof.Machine.execFwAccessDone comp e entry t s
  | .retainedCommit comp t => Sys2Proof.Machine.execRetainedCommit comp t s
  | .startupComplete comp t => Sys2Proof.Machine.execStartupComplete comp t s
  | .stopComplete comp t => Sys2Proof.Machine.execStopComplete comp t s
  | .cmdScanStart f => Sys2Proof.Machine.execCmdScanStart f s
  | .cmdScanStop f => Sys2Proof.Machine.execCmdScanStop f s
  | .cmdScanHold f => Sys2Proof.Machine.execCmdScanHold f s
  | .cmdScanResume f => Sys2Proof.Machine.execCmdScanResume f s
  | .cmdScanStep f => Sys2Proof.Machine.execCmdScanStep f s
  | .cmdScanStatus f => Sys2Proof.Machine.execCmdScanStatus f s
  | .cmdScanImageWrite f => Sys2Proof.Machine.execCmdScanImageWrite f s
  | .cmdScanImageVerify f => Sys2Proof.Machine.execCmdScanImageVerify f s
  | .cmdScanImageDrop f => Sys2Proof.Machine.execCmdScanImageDrop f s
  | .cmdScanExchPlan f => Sys2Proof.Machine.execCmdScanExchPlan f s
  | .cmdScanForceSet f => Sys2Proof.Machine.execCmdScanForceSet f s
  | .cmdScanForceClear f => Sys2Proof.Machine.execCmdScanForceClear f s
  | .cmdScanForceList f => Sys2Proof.Machine.execCmdScanForceList f s
  | .pimgSetWrite who point value t => Sys2Proof.Machine.execPimgSetWrite who point value t s
  | .add e w d a b => Sys2Proof.Machine.execAdd e w d a b s
  | .sub e w d a b => Sys2Proof.Machine.execSub e w d a b s
  | .mul e w d a b => Sys2Proof.Machine.execMul e w d a b s
  | .mulhs e w d a b => Sys2Proof.Machine.execMulhs e w d a b s
  | .divs e w d a b => Sys2Proof.Machine.execDivs e w d a b s
  | .divu e w d a b => Sys2Proof.Machine.execDivu e w d a b s
  | .rem e w d a b => Sys2Proof.Machine.execRem e w d a b s
  | .remu e w d a b => Sys2Proof.Machine.execRemu e w d a b s
  | .andd e w d a b => Sys2Proof.Machine.execAndd e w d a b s
  | .orr e w d a b => Sys2Proof.Machine.execOrr e w d a b s
  | .xorr e w d a b => Sys2Proof.Machine.execXorr e w d a b s
  | .shl e w d a b => Sys2Proof.Machine.execShl e w d a b s
  | .shr e w d a b => Sys2Proof.Machine.execShr e w d a b s
  | .sar e w d a b => Sys2Proof.Machine.execSar e w d a b s
  | .mins e w d a b => Sys2Proof.Machine.execMins e w d a b s
  | .maxs e w d a b => Sys2Proof.Machine.execMaxs e w d a b s
  | .addi e d a imm => Sys2Proof.Machine.execAddi e d a imm s
  | .andi e d a imm => Sys2Proof.Machine.execAndi e d a imm s
  | .ori e d a imm => Sys2Proof.Machine.execOri e d a imm s
  | .xori e d a imm => Sys2Proof.Machine.execXori e d a imm s
  | .movi e d imm => Sys2Proof.Machine.execMovi e d imm s
  | .ldc e d imm => Sys2Proof.Machine.execLdc e d imm s
  | .fadd e dbl d a b => Sys2Proof.Machine.execFadd e dbl d a b s
  | .fsub e dbl d a b => Sys2Proof.Machine.execFsub e dbl d a b s
  | .fmul e dbl d a b => Sys2Proof.Machine.execFmul e dbl d a b s
  | .fdiv e dbl d a b => Sys2Proof.Machine.execFdiv e dbl d a b s
  | .fsqrt e dbl d a => Sys2Proof.Machine.execFsqrt e dbl d a s
  | .fmin e dbl d a b => Sys2Proof.Machine.execFmin e dbl d a b s
  | .fmax e dbl d a b => Sys2Proof.Machine.execFmax e dbl d a b s
  | .fabs e dbl d a => Sys2Proof.Machine.execFabs e dbl d a s
  | .fneg e dbl d a => Sys2Proof.Machine.execFneg e dbl d a s
  | .i2d e w d a => Sys2Proof.Machine.execI2d e w d a s
  | .d2i e w d a => Sys2Proof.Machine.execD2i e w d a s
  | .i2f e w d a => Sys2Proof.Machine.execI2f e w d a s
  | .f2i e w d a => Sys2Proof.Machine.execF2i e w d a s
  | .f2d e d a => Sys2Proof.Machine.execF2d e d a s
  | .d2f e d a => Sys2Proof.Machine.execD2f e d a s
  | .u2d e w d a => Sys2Proof.Machine.execU2d e w d a s
  | .cmpEq e w d a b => Sys2Proof.Machine.execCmpEq e w d a b s
  | .cmpNe e w d a b => Sys2Proof.Machine.execCmpNe e w d a b s
  | .cmpLt e w d a b => Sys2Proof.Machine.execCmpLt e w d a b s
  | .cmpLe e w d a b => Sys2Proof.Machine.execCmpLe e w d a b s
  | .cmpLtu e w d a b => Sys2Proof.Machine.execCmpLtu e w d a b s
  | .cmpLeu e w d a b => Sys2Proof.Machine.execCmpLeu e w d a b s
  | .fcmpEq e dbl d a b => Sys2Proof.Machine.execFcmpEq e dbl d a b s
  | .fcmpNe e dbl d a b => Sys2Proof.Machine.execFcmpNe e dbl d a b s
  | .fcmpLt e dbl d a b => Sys2Proof.Machine.execFcmpLt e dbl d a b s
  | .fcmpLe e dbl d a b => Sys2Proof.Machine.execFcmpLe e dbl d a b s
  | .fcmpUnord e dbl d a b => Sys2Proof.Machine.execFcmpUnord e dbl d a b s
  | .btst e d a p => Sys2Proof.Machine.execBtst e d a p s
  | .bset e d a p => Sys2Proof.Machine.execBset e d a p s
  | .bclr e d a p => Sys2Proof.Machine.execBclr e d a p s
  | .binv e d a p => Sys2Proof.Machine.execBinv e d a p s
  | .extu e d a p wm1 => Sys2Proof.Machine.execExtu e d a p wm1 s
  | .exts e d a p wm1 => Sys2Proof.Machine.execExts e d a p wm1 s
  | .ins e d a p wm1 => Sys2Proof.Machine.execIns e d a p wm1 s
  | .clz e d a => Sys2Proof.Machine.execClz e d a s
  | .popc e d a => Sys2Proof.Machine.execPopc e d a s
  | .pld e d a imm => Sys2Proof.Machine.execPld e d a imm s
  | .pattr e d a imm => Sys2Proof.Machine.execPattr e d a imm s
  | .pst e d a imm => Sys2Proof.Machine.execPst e d a imm s
  | .pold e d a imm => Sys2Proof.Machine.execPold e d a imm s
  | .ildB e d a imm => Sys2Proof.Machine.execIldB e d a imm s
  | .ildH e d a imm => Sys2Proof.Machine.execIldH e d a imm s
  | .ildW e d a imm => Sys2Proof.Machine.execIldW e d a imm s
  | .ildD e d a imm => Sys2Proof.Machine.execIldD e d a imm s
  | .istB e d a imm => Sys2Proof.Machine.execIstB e d a imm s
  | .istH e d a imm => Sys2Proof.Machine.execIstH e d a imm s
  | .istW e d a imm => Sys2Proof.Machine.execIstW e d a imm s
  | .istD e d a imm => Sys2Proof.Machine.execIstD e d a imm s
  | .gld e d a imm => Sys2Proof.Machine.execGld e d a imm s
  | .gst e d a imm => Sys2Proof.Machine.execGst e d a imm s
  | .tmr e d a imm => Sys2Proof.Machine.execTmr e d a imm s
  | .tmrrd e d a imm => Sys2Proof.Machine.execTmrrd e d a imm s
  | .edgr e d a imm => Sys2Proof.Machine.execEdgr e d a imm s
  | .edgf e d a imm => Sys2Proof.Machine.execEdgf e d a imm s
  | .edgb e d a imm => Sys2Proof.Machine.execEdgb e d a imm s
  | .br e imm => Sys2Proof.Machine.execBr e imm s
  | .bz e d imm => Sys2Proof.Machine.execBz e d imm s
  | .bnz e d imm => Sys2Proof.Machine.execBnz e d imm s
  | .bdec e d imm => Sys2Proof.Machine.execBdec e d imm s
  | .btab e a imm => Sys2Proof.Machine.execBtab e a imm s
  | .fbcall e imm => Sys2Proof.Machine.execFbcall e imm s
  | .fbcallx e a imm => Sys2Proof.Machine.execFbcallx e a imm s
  | .call e imm => Sys2Proof.Machine.execCall e imm s
  | .ret e => Sys2Proof.Machine.execRet e s
  | .objrd32 e d a b => Sys2Proof.Machine.execObjrd32 e d a b s
  | .objrd64 e d a b => Sys2Proof.Machine.execObjrd64 e d a b s
  | .objwr32 e d a b => Sys2Proof.Machine.execObjwr32 e d a b s
  | .objwr64 e d a b => Sys2Proof.Machine.execObjwr64 e d a b s
  | .tbound e d => Sys2Proof.Machine.execTbound e d s
  | .tnow e d => Sys2Proof.Machine.execTnow e d s
  | .plyinfo e d => Sys2Proof.Machine.execPlyinfo e d s
  | .event e d a => Sys2Proof.Machine.execEvent e d a s
  | .wake e d => Sys2Proof.Machine.execWake e d s
  | .utrap e a => Sys2Proof.Machine.execUtrap e a s
  | .zeroCrossing set t => Sys2Proof.Machine.execZeroCrossing set t s
  | .cycleTimeout set t => Sys2Proof.Machine.execCycleTimeout set t s
  | .pseudoCycleEnd set t => Sys2Proof.Machine.execPseudoCycleEnd set t s
  | .nmissStart set t => Sys2Proof.Machine.execNmissStart set t s
  | .nmissEnd set t => Sys2Proof.Machine.execNmissEnd set t s
  | .latch t => Sys2Proof.Machine.execLatch t s
  | .sealSign comp t => Sys2Proof.Machine.execSealSign comp t s
  | .energyCommit t => Sys2Proof.Machine.execEnergyCommit t s
  | .settlingEnd ch t => Sys2Proof.Machine.execSettlingEnd ch t s
  | .maeCalStart who t => Sys2Proof.Machine.execMaeCalStart who t s
  | .maeCalAbort who t => Sys2Proof.Machine.execMaeCalAbort who t s
  | .calCaptureEnd t => Sys2Proof.Machine.execCalCaptureEnd t s
  | .maeWaveStart who t => Sys2Proof.Machine.execMaeWaveStart who t s
  | .waveRecordDone t => Sys2Proof.Machine.execWaveRecordDone t s
  | .pulseStart n t => Sys2Proof.Machine.execPulseStart n t s
  | .pulseWidthEnd n t => Sys2Proof.Machine.execPulseWidthEnd n t s
  | .cmdMtrSealRead f => Sys2Proof.Machine.execCmdMtrSealRead f s
  | .cmdMtrSealAck f => Sys2Proof.Machine.execCmdMtrSealAck f s
  | .canRxFrame port fr t => Sys2Proof.Machine.execCanRxFrame port fr t s
  | .canRxError port ev t => Sys2Proof.Machine.execCanRxError port ev t s
  | .canTxSuccess port t => Sys2Proof.Machine.execCanTxSuccess port t s
  | .canTxError port ev t => Sys2Proof.Machine.execCanTxError port ev t s
  | .canArbLost port t => Sys2Proof.Machine.execCanArbLost port t s
  | .recoveryDelayExpiry port t => Sys2Proof.Machine.execRecoveryDelayExpiry port t s
  | .recoveryEnd port t => Sys2Proof.Machine.execRecoveryEnd port t s
  | .txreq who port buf t => Sys2Proof.Machine.execTxreq who port buf t s
  | .txCancel who port buf t => Sys2Proof.Machine.execTxCancel who port buf t s
  | .txPeriodTrigger port buf t => Sys2Proof.Machine.execTxPeriodTrigger port buf t s
  | .fifoPop who port k n t => Sys2Proof.Machine.execFifoPop who port k n t s
  | .canWakePattern port t => Sys2Proof.Machine.execCanWakePattern port t s
  | .cmdBusTxSend f => Sys2Proof.Machine.execCmdBusTxSend f s
  | .cmdBusRxRead f => Sys2Proof.Machine.execCmdBusRxRead f s
  | .cmdBusTxCancel f => Sys2Proof.Machine.execCmdBusTxCancel f s
  | .cmdBusRecover f => Sys2Proof.Machine.execCmdBusRecover f s
  | .cmdBusRangeList f => Sys2Proof.Machine.execCmdBusRangeList f s
  | .ethFrameRx fr t => Sys2Proof.Machine.execEthFrameRx fr t s
  | .linkChange cage up t => Sys2Proof.Machine.execLinkChange cage up t s
  | .lanTimeout cage t => Sys2Proof.Machine.execLanTimeout cage t s
  | .prpSupervision t => Sys2Proof.Machine.execPrpSupervision t s
  | .addressAgeing mac vid t => Sys2Proof.Machine.execAddressAgeing mac vid t s
  | .sfpInsert cage m t => Sys2Proof.Machine.execSfpInsert cage m t s
  | .ptpSync sync t => Sys2Proof.Machine.execPtpSync sync t s
  | .ptpSyncTimeout t => Sys2Proof.Machine.execPtpSyncTimeout t s
  | .gmRetry t => Sys2Proof.Machine.execGmRetry t s
  | .floorTimeStep t => Sys2Proof.Machine.execFloorTimeStep t s
  | .bacnetRequest rq t => Sys2Proof.Machine.execBacnetRequest rq t s
  | .mqttMessage msg t => Sys2Proof.Machine.execMqttMessage msg t s
  | .covNotify entry t => Sys2Proof.Machine.execCovNotify entry t s
  | .lbxPollDue map t => Sys2Proof.Machine.execLbxPollDue map t s
  | .lbxTransactionStart port t => Sys2Proof.Machine.execLbxTransactionStart port t s
  | .lbxAnswer port ans t => Sys2Proof.Machine.execLbxAnswer port ans t s
  | .lbxTimeout port t => Sys2Proof.Machine.execLbxTimeout port t s
  | .daliEvent port ev t => Sys2Proof.Machine.execDaliEvent port ev t s
  | .mbusOverload port t => Sys2Proof.Machine.execMbusOverload port t s
  | .mbusOverloadRestore port t => Sys2Proof.Machine.execMbusOverloadRestore port t s
  | .cmdLbxDaliAddress f => Sys2Proof.Machine.execCmdLbxDaliAddress f s
  | .cmdLbxMbusScan f => Sys2Proof.Machine.execCmdLbxMbusScan f s
  | .cmdTimeGet f => Sys2Proof.Machine.execCmdTimeGet f s
  | .cmdTimeSet f => Sys2Proof.Machine.execCmdTimeSet f s
  | .calendarSetApply t => Sys2Proof.Machine.execCalendarSetApply t s
  | .cmdTimeShift f => Sys2Proof.Machine.execCmdTimeShift f s
  | .shiftDone t => Sys2Proof.Machine.execShiftDone t s
  | .alarmFire aa t => Sys2Proof.Machine.execAlarmFire aa t s
  | .calendarRollover t => Sys2Proof.Machine.execCalendarRollover t s
  | .timeCfgWrite who value t => Sys2Proof.Machine.execTimeCfgWrite who value t s
  | .ptpCalendarCheck t => Sys2Proof.Machine.execPtpCalendarCheck t s
  | .timeCorrCapture who t => Sys2Proof.Machine.execTimeCorrCapture who t s
  | .timeCorrAuto t => Sys2Proof.Machine.execTimeCorrAuto t s
  | .rtcGroupRead who addr t => Sys2Proof.Machine.execRtcGroupRead who addr t s
  | .rtcFreezeTimeout who t => Sys2Proof.Machine.execRtcFreezeTimeout who t s
  | .evrRecordWrite t => Sys2Proof.Machine.execEvrRecordWrite t s
  | .watchEval comp t => Sys2Proof.Machine.execWatchEval comp t s
  | .watchHoldoffEnd comp tt t => Sys2Proof.Machine.execWatchHoldoffEnd comp tt t s
  | .evrRecRead who word => Sys2Proof.Machine.execEvrRecRead who word s
  | .cmdEvtRead f => Sys2Proof.Machine.execCmdEvtRead f s
  | .cmdEvtSubscribe f => Sys2Proof.Machine.execCmdEvtSubscribe f s
  | .cmdEvtWipe f => Sys2Proof.Machine.execCmdEvtWipe f s
  | .cmdKeyUpdate f => Sys2Proof.Machine.execCmdKeyUpdate f s
  | .kumApply t => Sys2Proof.Machine.execKumApply t s
  | .cmdKeyAttest f => Sys2Proof.Machine.execCmdKeyAttest f s
  | .cmdKeyCertify f => Sys2Proof.Machine.execCmdKeyCertify f s
  | .cmdKeyAuthoritySet f => Sys2Proof.Machine.execCmdKeyAuthoritySet f s
  | .cmdLcyPromote f => Sys2Proof.Machine.execCmdLcyPromote f s
  | .cmdLcySealAck f => Sys2Proof.Machine.execCmdLcySealAck f s
  | .cmdLcyUsbEnable f => Sys2Proof.Machine.execCmdLcyUsbEnable f s
  | .cmdLcyUsbDisable f => Sys2Proof.Machine.execCmdLcyUsbDisable f s
  | .usbEnableExpiry t => Sys2Proof.Machine.execUsbEnableExpiry t s
  | .cmdLcyRetireStatement f => Sys2Proof.Machine.execCmdLcyRetireStatement f s
  | .cmdLcyDebugChallenge f => Sys2Proof.Machine.execCmdLcyDebugChallenge f s
  | .cmdLcyDebugUnlock f => Sys2Proof.Machine.execCmdLcyDebugUnlock f s
  | .lcyD1EnWrite who value t => Sys2Proof.Machine.execLcyD1EnWrite who value t s
  | .sealBreak t => Sys2Proof.Machine.execSealBreak t s
  | .configLockChange fitted t => Sys2Proof.Machine.execConfigLockChange fitted t s
  | .debugProbeFit t => Sys2Proof.Machine.execDebugProbeFit t s
  | .debugSysrst t => Sys2Proof.Machine.execDebugSysrst t s
  | .debugHalt halt t => Sys2Proof.Machine.execDebugHalt halt t s
  | .cmdUpdOpen f => Sys2Proof.Machine.execCmdUpdOpen f s
  | .cmdUpdBlock f => Sys2Proof.Machine.execCmdUpdBlock f s
  | .cmdUpdStatus f => Sys2Proof.Machine.execCmdUpdStatus f s
  | .cmdUpdVerify f => Sys2Proof.Machine.execCmdUpdVerify f s
  | .cmdUpdAbort f => Sys2Proof.Machine.execCmdUpdAbort f s
  | .cmdUpdActivate f => Sys2Proof.Machine.execCmdUpdActivate f s
  | .cmdUpdConfirm f => Sys2Proof.Machine.execCmdUpdConfirm f s
  | .cmdUpdFallback f => Sys2Proof.Machine.execCmdUpdFallback f s
  | .cmdUpdRecoveryEnter f => Sys2Proof.Machine.execCmdUpdRecoveryEnter f s
  | .updOwnerTimeout t => Sys2Proof.Machine.execUpdOwnerTimeout t s
  | .updActivation t => Sys2Proof.Machine.execUpdActivation t s
  | .updStepDone version t => Sys2Proof.Machine.execUpdStepDone version t s
  | .updStepTimeout t => Sys2Proof.Machine.execUpdStepTimeout t s
  | .updReset t => Sys2Proof.Machine.execUpdReset t s
  | .trialExpiry t => Sys2Proof.Machine.execTrialExpiry t s
  | .bootResumeTimeout t => Sys2Proof.Machine.execBootResumeTimeout t s
  | .adjournExpiry t => Sys2Proof.Machine.execAdjournExpiry t s
  | .updSealedMove who value t => Sys2Proof.Machine.execUpdSealedMove who value t s
  | .recoveryBeacon t => Sys2Proof.Machine.execRecoveryBeacon t s
  | .recoveryIdleExit t => Sys2Proof.Machine.execRecoveryIdleExit t s
  | .eccUe mem bank off t => Sys2Proof.Machine.execEccUe mem bank off t s
  | .scrub t => Sys2Proof.Machine.execScrub t s
  | .cmdDiagMteRun f => Sys2Proof.Machine.execCmdDiagMteRun f s
  | .cmdDiagMteAbort f => Sys2Proof.Machine.execCmdDiagMteAbort f s
  | .mteTestDone rows t => Sys2Proof.Machine.execMteTestDone rows t s
  | .pmonRun who on t => Sys2Proof.Machine.execPmonRun who on t s
  | .pmonFreeze who t => Sys2Proof.Machine.execPmonFreeze who t s
  | .pmonArm who t => Sys2Proof.Machine.execPmonArm who t s
  | .pmonArmedFreeze t => Sys2Proof.Machine.execPmonArmedFreeze t s
  | .pmonDumpEn who on t => Sys2Proof.Machine.execPmonDumpEn who on t s
  | .pmonDump t => Sys2Proof.Machine.execPmonDump t s
  | .pmonSampEn who on t => Sys2Proof.Machine.execPmonSampEn who on t s
  | .pmonSample e t => Sys2Proof.Machine.execPmonSample e t s
  | .cmdDiagPmonFreeze f => Sys2Proof.Machine.execCmdDiagPmonFreeze f s
  | .cmdDiagPmonDumpRead f => Sys2Proof.Machine.execCmdDiagPmonDumpRead f s
  | .cmdDiagPmonSampleRead f => Sys2Proof.Machine.execCmdDiagPmonSampleRead f s
  | .agmMeasureDue m t => Sys2Proof.Machine.execAgmMeasureDue m t s
  | .holdupTest t => Sys2Proof.Machine.execHoldupTest t s
  | .agmReplanRetry t => Sys2Proof.Machine.execAgmReplanRetry t s
  | .cmdDiagAgmMeasure f => Sys2Proof.Machine.execCmdDiagAgmMeasure f s
  | .cmdDiagAgmReplan f => Sys2Proof.Machine.execCmdDiagAgmReplan f s
  | .captureHoldEnd t => Sys2Proof.Machine.execCaptureHoldEnd t s
  | .sampleInstant codes t => Sys2Proof.Machine.execSampleInstant codes t s
  | .busIntegration port t => Sys2Proof.Machine.execBusIntegration port t s
  | .protocolException port t => Sys2Proof.Machine.execProtocolException port t s
  | .nodeForgetTime mac t => Sys2Proof.Machine.execNodeForgetTime mac t s
  | .mstpFrame port fr t => Sys2Proof.Machine.execMstpFrame port fr t s
  | .sealLoopIntact t => Sys2Proof.Machine.execSealLoopIntact t s
  | .presenceRelease t => Sys2Proof.Machine.execPresenceRelease t s
  | .backupDomainDip t => Sys2Proof.Machine.execBackupDomainDip t s
  | .updVerifyDone t => Sys2Proof.Machine.execUpdVerifyDone t s
  | .agmMeasurementEnd m t => Sys2Proof.Machine.execAgmMeasurementEnd m t s

end Sys2Proof.Machine
end

