-- ==== Sys2Proof/Machine/Step.lean ====
section
/-!
DEFINITION. One step of the block: the command at the front of the queue, or one idle cycle of the floor-time clock
on an empty queue (assumption log 12).
-/
namespace Sys2Proof.Machine

/-- Whether the floor-time PLL runs: M2 to M11 (Table 2-4). -/
def State.floorClock (s : State) : Bool := decide (2 ≤ s.rd Obj.IDENT_MODE.f ∧ s.rd Obj.IDENT_MODE.f ≤ 11)

/-- What the block does with no command waiting: floor time counts on by 8 ns where its PLL runs (R20). -/
def State.idle (s : State) : State := if s.floorClock then s.advance (s.floorTime + 8) else s

/-- Take the command at the front of the queue and run it on the state with the queue's rest. -/
def step (s : State) : Host.Outcome State Fault Refusal :=
  match s.pending with
  | [] => .next s.idle
  | c :: r => exec c { s with pending := r }

/-- `s` with the command that `w` spells at the front of its queue; unchanged where it spells none (the table gives no
row any bits, so it never spells one). -/
def State.withFetchWord (s : State) (nbits w : Nat) : State :=
  match Sys2Proof.decodeTableWord nbits w with
  | some c => { s with pending := c :: s.pending }
  | none => s

end Sys2Proof.Machine
end

