-- ==== Sys2Proof/Safety.lean ====
section
/-!
DEFINITION. What a safe run is, in the terms the statements use.
-/
namespace Sys2Proof

/-- A step is safe when it answers a next state: no fault and no refusal. -/
def SafeStep (s : Machine.State) : Prop := ∃ t, Machine.step s = .next t

/-- The commands run from a state until the queue is empty all answer next states. -/
def SafeRun (s : Machine.State) : Prop := ∀ n, ∃ t, core.run n s = .next t

end Sys2Proof
end

