-- ==== Sys2Proof/Certificates/Slice0/Obligations.lean ====
section
/-!
DEFINITION. The statements for the provers. `Sys2Proof.Claims` holds the words they are written in.
-/
namespace Sys2Proof.Claims
open Sys2Proof.Machine

/-! ### Words shared by the statements -/

/-- Every stored field but the listed ones keeps its value. -/
def Kept (l : List Fld) (s t : State) : Prop := ∀ g : Fld, (∀ f ∈ l, f.key ≠ g.key) → t.rd g = s.rd g

/-- What `exec` answers is a next state with the property. -/
def Completes (i : Instr) (s : State) (post : State → Prop) : Prop := ∃ t, exec i s = .next t ∧ post t

/-! ### Tempo ops -/

/-- The bank of programs is as it was. -/
def SamePrograms (s t : State) : Prop := ∀ c, t.prog c = s.prog c

/-- Nothing but the plies, the engines' charges, the programs, the counters of PMON and the draw of free values. -/
def OpFrame (s t : State) : Prop :=
  t = { s with scan := { s.scan with plies := t.scan.plies, e0 := t.scan.e0, e1 := t.scan.e1, progs := t.scan.progs },
               pmon := t.pmon, free := t.free }

/-- The ply `p` has become `q`, charged between `lo` and `hi` cycles and at most 0.25 µs for a switch; no other ply
changed. -/
def PlyBecomes (s t : State) (p q : Ply) (lo hi : Nat) : Prop :=
  ∃ n, s.cyclePs p.engine lo ≤ n ∧ n ≤ 250000 + s.cyclePs p.engine hi ∧
    t.scan.plies = s.scan.plies.map fun r => if r.sameTask p then { q with charged := p.charged + n, begun := true } else r

/-- The running ply of engine `e` retires op `i` and is `q` after it; programs and all else stay. -/
def Retires (i : Instr) (s : State) (p q : Ply) (lo hi : Nat) : Prop :=
  Completes i s fun t => OpFrame s t ∧ SamePrograms s t ∧ PlyBecomes s t p q lo hi

/-- Two sources at 64 bits or, with W, at 32 bits with the result sign-extended. -/
def onWidth (w : Bool) (f : BitVec 32 → BitVec 32 → BitVec 32) (g : Word64 → Word64 → Word64) (a b : Word64) : Word64 :=
  if w then (f (a.setWidth 32) (b.setWidth 32)).signExtend 64 else g a b

/-- What an op writes: its engine, its destination, its cycles (fewest, most) and the value. -/
structure Writes where
  e : Fin 2
  d : Fin 32
  lo : Nat
  hi : Nat
  value : Ply → Word64

/-- Table 6-3 but its divisions, and the immediate ops of Table 6-2. -/
def integerOp : Instr → Option Writes
  | .add e w d a b => some ⟨e, d, 1, 1, fun p => onWidth w (· + ·) (· + ·) (p.g a) (p.g b)⟩
  | .sub e w d a b => some ⟨e, d, 1, 1, fun p => onWidth w (· - ·) (· - ·) (p.g a) (p.g b)⟩
  | .mul e w d a b => some ⟨e, d, 3, 3, fun p => onWidth w (· * ·) (· * ·) (p.g a) (p.g b)⟩
  | .mulhs e w d a b => some ⟨e, d, 3, 3, fun p => onWidth w (fun x y => BitVec.ofInt 32 (x.toInt * y.toInt / 2 ^ 32))
      (fun x y => BitVec.ofInt 64 (x.toInt * y.toInt / 2 ^ 64)) (p.g a) (p.g b)⟩
  | .andd e w d a b => some ⟨e, d, 1, 1, fun p => onWidth w (· &&& ·) (· &&& ·) (p.g a) (p.g b)⟩
  | .orr e w d a b => some ⟨e, d, 1, 1, fun p => onWidth w (· ||| ·) (· ||| ·) (p.g a) (p.g b)⟩
  | .xorr e w d a b => some ⟨e, d, 1, 1, fun p => onWidth w (· ^^^ ·) (· ^^^ ·) (p.g a) (p.g b)⟩
  | .shl e w d a b => some ⟨e, d, 1, 1, fun p => onWidth w (fun x y => x <<< (y.toNat % 32)) (fun x y => x <<< (y.toNat % 64)) (p.g a) (p.g b)⟩
  | .shr e w d a b => some ⟨e, d, 1, 1, fun p => onWidth w (fun x y => x >>> (y.toNat % 32)) (fun x y => x >>> (y.toNat % 64)) (p.g a) (p.g b)⟩
  | .sar e w d a b => some ⟨e, d, 1, 1, fun p => onWidth w (fun x y => x.sshiftRight (y.toNat % 32))
      (fun x y => x.sshiftRight (y.toNat % 64)) (p.g a) (p.g b)⟩
  | .mins e w d a b => some ⟨e, d, 1, 1, fun p => onWidth w (fun x y => if x.toInt ≤ y.toInt then x else y)
      (fun x y => if x.toInt ≤ y.toInt then x else y) (p.g a) (p.g b)⟩
  | .maxs e w d a b => some ⟨e, d, 1, 1, fun p => onWidth w (fun x y => if x.toInt ≤ y.toInt then y else x)
      (fun x y => if x.toInt ≤ y.toInt then y else x) (p.g a) (p.g b)⟩
  | .addi e d a imm => some ⟨e, d, 1, 1, fun p => p.g a + imm.signExtend 64⟩
  | .andi e d a imm => some ⟨e, d, 1, 1, fun p => p.g a &&& imm.setWidth 64⟩
  | .ori e d a imm => some ⟨e, d, 1, 1, fun p => p.g a ||| imm.setWidth 64⟩
  | .xori e d a imm => some ⟨e, d, 1, 1, fun p => p.g a ^^^ imm.setWidth 64⟩
  | .movi e d imm => some ⟨e, d, 1, 1, fun _ => imm.signExtend 64⟩
  | _ => none

/-- The divisions of Table 6-3 by a divisor that is not 0 at the op's width: engine, width, destination, sources, quotient
or remainder of the integers. -/
def divisionOp : Instr → Option (Fin 2 × Bool × Fin 32 × Fin 32 × Fin 32 × (Int → Int → Int) × Bool)
  | .divs e w d a b => some (e, w, d, a, b, Int.tdiv, true)
  | .divu e w d a b => some (e, w, d, a, b, Int.tdiv, false)
  | .rem e w d a b => some (e, w, d, a, b, Int.tmod, true)
  | .remu e w d a b => some (e, w, d, a, b, Int.tmod, false)
  | _ => none

/-- A source of a division as an integer. -/
def source (w sign : Bool) (v : Word64) : Int :=
  if w then (if sign then (v.setWidth 32).toInt else (v.setWidth 32).toNat) else (if sign then v.toInt else v.toNat)

/-- A result at the op's width, sign-extended from 32 bits with W. -/
def result (w : Bool) (r : Int) : Word64 := if w then (BitVec.ofInt 32 r).signExtend 64 else BitVec.ofInt 64 r

/-- A Boolean as the value a comparison writes. -/
def truth (b : Bool) : Word64 := if b then 1 else 0

/-- A comparison at the op's width. -/
def compared (w : Bool) (f : BitVec 32 → BitVec 32 → Bool) (g : Word64 → Word64 → Bool) (a b : Word64) : Word64 :=
  truth (if w then f (a.setWidth 32) (b.setWidth 32) else g a b)

/-- CMP and the one-source ops of BIT (Table 6-5). -/
def compareOp : Instr → Option Writes
  | .cmpEq e w d a b => some ⟨e, d, 1, 1, fun p => compared w (fun x y => decide (x = y)) (fun x y => decide (x = y)) (p.g a) (p.g b)⟩
  | .cmpNe e w d a b => some ⟨e, d, 1, 1, fun p => compared w (fun x y => decide (x ≠ y)) (fun x y => decide (x ≠ y)) (p.g a) (p.g b)⟩
  | .cmpLt e w d a b => some ⟨e, d, 1, 1, fun p => compared w (fun x y => decide (x.toInt < y.toInt)) (fun x y => decide (x.toInt < y.toInt)) (p.g a) (p.g b)⟩
  | .cmpLe e w d a b => some ⟨e, d, 1, 1, fun p => compared w (fun x y => decide (x.toInt ≤ y.toInt)) (fun x y => decide (x.toInt ≤ y.toInt)) (p.g a) (p.g b)⟩
  | .cmpLtu e w d a b => some ⟨e, d, 1, 1, fun p => compared w (fun x y => decide (x.toNat < y.toNat)) (fun x y => decide (x.toNat < y.toNat)) (p.g a) (p.g b)⟩
  | .cmpLeu e w d a b => some ⟨e, d, 1, 1, fun p => compared w (fun x y => decide (x.toNat ≤ y.toNat)) (fun x y => decide (x.toNat ≤ y.toNat)) (p.g a) (p.g b)⟩
  | .btst e d a n => some ⟨e, d, 1, 1, fun p => truth ((p.g a).getLsbD n.val)⟩
  | .bset e d a n => some ⟨e, d, 1, 1, fun p => p.g a ||| BitVec.twoPow 64 n.val⟩
  | .bclr e d a n => some ⟨e, d, 1, 1, fun p => p.g a &&& ~~~ BitVec.twoPow 64 n.val⟩
  | .binv e d a n => some ⟨e, d, 1, 1, fun p => p.g a ^^^ BitVec.twoPow 64 n.val⟩
  | .clz e d a => some ⟨e, d, 1, 1, fun p => BitVec.ofNat 64 (((List.range 64).find? fun n => (p.g a).getLsbD (63 - n)).getD 64)⟩
  | .popc e d a => some ⟨e, d, 1, 1, fun p => BitVec.ofNat 64 ((List.range 64).filter fun n => (p.g a).getLsbD n).length⟩
  | _ => none

/-- FP32 and FP64 (Table 6-4), the conversions, and FCMP (Table 6-5), over the binary formats of SoftFloat.lean. -/
def floatOp : Instr → Option Writes
  | .fadd e k d a b => some ⟨e, d, 1, 4, fun p => BitVec.ofNat 64 ((fmtOf k).fadd (fpIn k (p.g a)) (fpIn k (p.g b)))⟩
  | .fsub e k d a b => some ⟨e, d, 1, 4, fun p => BitVec.ofNat 64 ((fmtOf k).fsub (fpIn k (p.g a)) (fpIn k (p.g b)))⟩
  | .fmul e k d a b => some ⟨e, d, 1, 4, fun p => BitVec.ofNat 64 ((fmtOf k).fmul (fpIn k (p.g a)) (fpIn k (p.g b)))⟩
  | .fdiv e k d a b => some ⟨e, d, 12, 32, fun p => BitVec.ofNat 64 ((fmtOf k).fdiv (fpIn k (p.g a)) (fpIn k (p.g b)))⟩
  | .fsqrt e k d a => some ⟨e, d, 12, 32, fun p => BitVec.ofNat 64 ((fmtOf k).fsqrt (fpIn k (p.g a)))⟩
  | .fmin e k d a b => some ⟨e, d, 1, 4, fun p => BitVec.ofNat 64 ((fmtOf k).fmin (fpIn k (p.g a)) (fpIn k (p.g b)))⟩
  | .fmax e k d a b => some ⟨e, d, 1, 4, fun p => BitVec.ofNat 64 ((fmtOf k).fmax (fpIn k (p.g a)) (fpIn k (p.g b)))⟩
  | .fabs e k d a => some ⟨e, d, 1, 4, fun p => BitVec.ofNat 64 ((fmtOf k).fabs (fpIn k (p.g a)))⟩
  | .fneg e k d a => some ⟨e, d, 1, 4, fun p => BitVec.ofNat 64 ((fmtOf k).fneg (fpIn k (p.g a)))⟩
  | .i2d e w d a => some ⟨e, d, 1, 4, fun p => BitVec.ofNat 64 (f64.bits (Fp.ofInt (source w true (p.g a))))⟩
  | .u2d e w d a => some ⟨e, d, 1, 4, fun p => BitVec.ofNat 64 (f64.bits (Fp.ofInt (source w false (p.g a))))⟩
  | .i2f e w d a => some ⟨e, d, 1, 4, fun p => BitVec.ofNat 64 (f32.bits (Fp.ofInt (source w true (p.g a))))⟩
  | .d2i e w d a => some ⟨e, d, 1, 4, fun p => BitVec.ofInt 64 ((f64.unpack (p.g a).toNat).toInt (if w then -2 ^ 31 else -2 ^ 63)
      (if w then 2 ^ 31 - 1 else 2 ^ 63 - 1))⟩
  | .f2i e w d a => some ⟨e, d, 1, 4, fun p => BitVec.ofInt 64 ((f32.unpack (fpIn false (p.g a))).toInt
      (if w then -2 ^ 31 else -2 ^ 63) (if w then 2 ^ 31 - 1 else 2 ^ 63 - 1))⟩
  | .f2d e d a => some ⟨e, d, 1, 4, fun p => BitVec.ofNat 64 (f64.bits (f32.unpack (fpIn false (p.g a))))⟩
  | .d2f e d a => some ⟨e, d, 1, 4, fun p => BitVec.ofNat 64 (f32.bits (f64.unpack (p.g a).toNat))⟩
  | .fcmpEq e k d a b => some ⟨e, d, 1, 4, fun p => truth ((fmtOf k).feq (fpIn k (p.g a)) (fpIn k (p.g b)))⟩
  | .fcmpNe e k d a b => some ⟨e, d, 1, 4, fun p => truth (! (fmtOf k).feq (fpIn k (p.g a)) (fpIn k (p.g b)))⟩
  | .fcmpLt e k d a b => some ⟨e, d, 1, 4, fun p => truth ((fmtOf k).flt (fpIn k (p.g a)) (fpIn k (p.g b)))⟩
  | .fcmpLe e k d a b => some ⟨e, d, 1, 4, fun p => truth (! (fmtOf k).funord (fpIn k (p.g a)) (fpIn k (p.g b)) &&
      ! (fmtOf k).flt (fpIn k (p.g b)) (fpIn k (p.g a)))⟩
  | .fcmpUnord e k d a b => some ⟨e, d, 1, 4, fun p => truth ((fmtOf k).funord (fpIn k (p.g a)) (fpIn k (p.g b)))⟩
  | _ => none

/-- The fields of width B + 1 at bit p (Table 6-5): engine, destination, bit position, width, and the bits written as a
function of the bit number. -/
def fieldBits : Instr → Option (Fin 2 × Fin 32 × Nat × Nat × (Ply → Nat → Bool))
  | .extu e d a n b => some (e, d, n.val, b.val + 1, fun p j => decide (j ≤ b.val) && (p.g a).getLsbD (n.val + j))
  | .exts e d a n b => some (e, d, n.val, b.val + 1, fun p j => (p.g a).getLsbD (n.val + min j b.val))
  | .ins e d a n b => some (e, d, n.val, b.val + 1, fun p j =>
      if n.val ≤ j ∧ j ≤ n.val + b.val then (p.g a).getLsbD (j - n.val) else (p.g d).getLsbD j)
  | _ => none

/-- Branches (Table 6-2): engine, the ply after its own register write, whether taken, and the word offset. -/
def branchOp : Instr → Option (Fin 2 × (Ply → Ply) × (Ply → Bool) × Int)
  | .br e imm => some (e, id, fun _ => true, imm.toInt)
  | .bz e d imm => some (e, id, fun p => decide (p.g d = 0), imm.toInt)
  | .bnz e d imm => some (e, id, fun p => decide (p.g d ≠ 0), imm.toInt)
  | .bdec e d imm => some (e, fun p => p.setG d (p.g d - 1), fun p => decide (p.g d - 1 ≠ 0), imm.toInt)
  | _ => none

/-- A program counter moved by words, at 32 bits. -/
def moved (pc : Nat) (words : Int) : Nat := ((pc + 4 * words) % 2 ^ 32).toNat

/-- The offset an M-format op names: G[A] plus the sign-extended off16, unsigned. -/
def offset (p : Ply) (a : Fin 32) (imm : BitVec 16) : Nat := (p.g a + imm.signExtend 64).toNat

/-- Process-image ops: engine, register A, off16, number of slots, and the ply after. -/
def slotAccess : Instr → Option (Fin 2 × Fin 32 × BitVec 16 × (Ply → Nat) × (Ply → Nat → Ply))
  | .pld e d a imm => some (e, a, imm, (·.ins.length), fun p i => p.setG d (p.ins.getD i (0, 0)).1)
  | .pattr e d a imm => some (e, a, imm, (·.ins.length), fun p i => p.setG d (BitVec.ofNat 64 (p.ins.getD i (0, 0)).2))
  | .pst e d a imm => some (e, a, imm, (·.outs.length), fun p i => { p with outs := p.outs.set i (p.g d) })
  | .pold e d a imm => some (e, a, imm, (·.outs.length), fun p i => p.setG d (p.outs.getD i 0))
  | _ => none

/-- The instance an access reaches: the current one, or the global one. -/
def reached (glob : Bool) (p : Ply) (g : Prog) : Option Inst := if glob then p.gb.bind g.inst else g.inst p.ib

/-- Loads: engine, destination, A, off16, bytes, whether of the global instance. -/
def loadAccess : Instr → Option (Fin 2 × Fin 32 × Fin 32 × BitVec 16 × Nat × Bool)
  | .ildB e d a imm => some (e, d, a, imm, 1, false)
  | .ildH e d a imm => some (e, d, a, imm, 2, false)
  | .ildW e d a imm => some (e, d, a, imm, 4, false)
  | .ildD e d a imm => some (e, d, a, imm, 8, false)
  | .gld e d a imm => some (e, d, a, imm, 8, true)
  | _ => none

/-- Stores, in the same form. -/
def storeAccess : Instr → Option (Fin 2 × Fin 32 × Fin 32 × BitVec 16 × Nat × Bool)
  | .istB e d a imm => some (e, d, a, imm, 1, false)
  | .istH e d a imm => some (e, d, a, imm, 2, false)
  | .istW e d a imm => some (e, d, a, imm, 4, false)
  | .istD e d a imm => some (e, d, a, imm, 8, false)
  | .gst e d a imm => some (e, d, a, imm, 8, true)
  | _ => none

/-- A data access of `n` bytes at `x` that lies in the instance and is aligned to its size. -/
def inside (i : Inst) (x n : Nat) : Prop := x % n = 0 ∧ x + n ≤ i.size

/-- Only the bytes from `x` on, `n` of them, of one instance changed in the program that the ply runs on. -/
def DataChanges (s t : State) (p : Ply) (g : Prog) (i : Inst) (x n : Nat) (byte : Nat → Byte) : Prop :=
  (∀ c, c ≠ p.comp → t.prog c = s.prog c) ∧
  ∃ m, t.progOf p = some (g.putInst { i with data := m }) ∧
    ∀ a, memGet m a = if x ≤ a ∧ a < x + n then byte (a - x) else memGet i.data a

/-- The record ops on a timer or edge record: engine, D, A, off16, size of the record. -/
def recordAccess : Instr → Option (Fin 2 × Fin 32 × Fin 32 × BitVec 16 × Nat)
  | .tmr e d a imm => some (e, d, a, imm, 16)
  | .tmrrd e d a imm => some (e, d, a, imm, 16)
  | .edgr e d a imm => some (e, d, a, imm, 8)
  | .edgf e d a imm => some (e, d, a, imm, 8)
  | .edgb e d a imm => some (e, d, a, imm, 8)
  | _ => none

/-- Which change of the input an edge op looks for. -/
def edgeSeen : Instr → Bool → Bool → Bool
  | .edgr _ _ _ _, prev, i => ! prev && i
  | .edgf _ _ _ _, prev, i => prev && ! i
  | _, prev, i => prev != i

/-- The evaluation of R160 for a record of kind 0 (TON), 1 (TOF) or 2 (TP): the record after, and ET. -/
def tmrStep (x : Timer) (i : Bool) (t : Nat) : Timer × Nat :=
  let rise := i && ! x.inPrev
  let fall := x.inPrev && ! i
  let start := if x.kind = 0 then rise else if x.kind = 1 then fall else rise && ! x.running && ! x.done
  let cut := if x.kind = 0 then ! i else if x.kind = 1 then i else false
  let anchor := if start then t else x.anchor
  let run := ! cut && (start || x.running)
  let done := ! cut && ! (x.kind == 0 && start) && x.done
  let et := min x.pt ((t - anchor) / 1000)
  let hit := run && decide (x.pt ≤ et)
  let past := x.kind == 2 && ! run && ! i
  let q := if x.kind = 0 then ! cut && (hit || x.q) else if x.kind = 1 then cut || (! hit && x.q) else ! hit && (start || x.q)
  ({ x with anchor := anchor, running := run && ! hit, done := hit || (done && ! past), q := q, inPrev := i },
   if run then et else if done && ! past then x.pt else 0)

/-- The state fields of a record's first word. -/
def timerBits (x : Timer) : Nat := b2n x.inPrev + 2 * b2n x.q + 4 * b2n x.running + 8 * b2n x.done

/-- The ops that read the ply's own context (Tables 6-7 and 6-8). -/
def contextOp (s : State) : Instr → Option Writes
  | .tbound e d => some ⟨e, d, 4, 4, fun p => BitVec.ofNat 64 p.cap⟩
  | .tnow e d => some ⟨e, d, 12, 12, fun _ => BitVec.ofNat 64 s.floorTime⟩
  | .plyinfo e d => some ⟨e, d, 4, 4, fun p => BitVec.ofNat 64 (b2n p.first + 2 * b2n p.cold + 4 * b2n p.divz + 8 * b2n p.stepped +
      16 * b2n p.newBank + 32 * (p.entry % 16) + 512 * (p.engine % 2) + 2 ^ 32 * (p.tempoLow % 2 ^ 32))⟩
  | .wake e d => if s.mode = 2 then none else some ⟨e, d, 12, 12, fun _ => 0⟩
  | _ => none

/-- The ply of a task, or none. -/
def plyAt (s : State) (p : Ply) : Option Ply := s.plyOf p.comp p.engine p.entry

/-- The ply has gone on to the next op with registers `r`; it may have been charged. -/
def GoesOn (t : State) (p : Ply) (r : List Word64) : Prop :=
  ∃ q, plyAt t p = some q ∧ q.regs = r ∧ q.pc = p.pc + 4 ∧ q.waiting = none ∧ q.link = p.link ∧ q.ib = p.ib

/-- The ply waits for an FW access. -/
def Blocks (t : State) (p : Ply) (x : FwAccess) : Prop :=
  ∃ q, plyAt t p = some q ∧ q.waiting = some x ∧ q.regs = p.regs ∧ q.pc = p.pc

/-- The fields of a task's entry. -/
def taskField (r : Row) (p : Ply) : Fld := r.at p.comp [p.engine, p.entry]

/-- A trap: the ply is gone, nothing went to the points, the trap fields of its task say what happened. -/
def Trapped (s t : State) (p : Ply) (code detail : Nat) : Prop :=
  plyAt t p = none ∧
  t.rd (taskField Obj.SCE_TRAP_LAST_CODE p) = code ∧
  t.rd (taskField Obj.SCE_TRAP_LAST_DETAIL p) = detail ∧
  t.rd (taskField Obj.SCE_TRAP_LAST_TIME p) = p.cap % 2 ^ 64 ∧
  t.rd (taskField Obj.SCE_TRAP_EVT p) = 1 ∧
  t.rd (taskField Obj.SCE_TRAP_COUNT p) = (s.rd (taskField Obj.SCE_TRAP_COUNT p) + 1) % 2 ^ 32 ∧
  t.rd (taskField Obj.SCE_TASK_PLY_DONE p) = s.rd (taskField Obj.SCE_TASK_PLY_DONE p)


/-! ### Mailbox protocol -/

/-- The command code and the frame of a command that a host sends. -/
def mmp : Instr → Option (Nat × Frame)
  | .cmdSessionOpen f => some (0x0101, f)
  | .cmdSessionChallenge f => some (0x0102, f)
  | .cmdSessionClose f => some (0x0103, f)
  | .cmdSessionPing f => some (0x0104, f)
  | .cmdSessionResume f => some (0x0105, f)
  | .cmdSessionCancel f => some (0x0106, f)
  | .cmdIdentGet f => some (0x0110, f)
  | .cmdObjRead f => some (0x0201, f)
  | .cmdObjWrite f => some (0x0202, f)
  | .cmdObjGroupRead f => some (0x0203, f)
  | .cmdObjGroupWrite f => some (0x0204, f)
  | .castStagedRead f => some (0x0301, f)
  | .cmdCastCheck f => some (0x0302, f)
  | .cmdCastCommit f => some (0x0303, f)
  | .cmdCastAbort f => some (0x0304, f)
  | .cmdScanStart f => some (0x0401, f)
  | .cmdScanStop f => some (0x0402, f)
  | .cmdScanHold f => some (0x0403, f)
  | .cmdScanResume f => some (0x0404, f)
  | .cmdScanStep f => some (0x0405, f)
  | .cmdScanStatus f => some (0x0406, f)
  | .cmdScanImageWrite f => some (0x0410, f)
  | .cmdScanImageVerify f => some (0x0411, f)
  | .cmdScanImageDrop f => some (0x0412, f)
  | .cmdScanExchPlan f => some (0x0420, f)
  | .cmdScanForceSet f => some (0x0430, f)
  | .cmdScanForceClear f => some (0x0431, f)
  | .cmdScanForceList f => some (0x0432, f)
  | .cmdMtrSealRead f => some (0x0510, f)
  | .cmdMtrSealAck f => some (0x0511, f)
  | .cmdBusTxSend f => some (0x0601, f)
  | .cmdBusRxRead f => some (0x0602, f)
  | .cmdBusTxCancel f => some (0x0603, f)
  | .cmdBusRecover f => some (0x0604, f)
  | .cmdBusRangeList f => some (0x0605, f)
  | .cmdLbxDaliAddress f => some (0x0610, f)
  | .cmdLbxMbusScan f => some (0x0611, f)
  | .cmdTimeGet f => some (0x0B01, f)
  | .cmdTimeSet f => some (0x0B02, f)
  | .cmdTimeShift f => some (0x0B03, f)
  | .cmdEvtRead f => some (0x0701, f)
  | .cmdEvtSubscribe f => some (0x0702, f)
  | .cmdEvtWipe f => some (0x0703, f)
  | .cmdKeyUpdate f => some (0x0801, f)
  | .cmdKeyAttest f => some (0x0802, f)
  | .cmdKeyCertify f => some (0x0803, f)
  | .cmdKeyAuthoritySet f => some (0x0810, f)
  | .cmdLcyPromote f => some (0x0901, f)
  | .cmdLcySealAck f => some (0x0903, f)
  | .cmdLcyUsbEnable f => some (0x0904, f)
  | .cmdLcyUsbDisable f => some (0x0905, f)
  | .cmdLcyRetireStatement f => some (0x0906, f)
  | .cmdLcyDebugChallenge f => some (0x0907, f)
  | .cmdLcyDebugUnlock f => some (0x0908, f)
  | .cmdUpdOpen f => some (0x0A01, f)
  | .cmdUpdBlock f => some (0x0A02, f)
  | .cmdUpdStatus f => some (0x0A03, f)
  | .cmdUpdVerify f => some (0x0A04, f)
  | .cmdUpdAbort f => some (0x0A05, f)
  | .cmdUpdActivate f => some (0x0A06, f)
  | .cmdUpdConfirm f => some (0x0A07, f)
  | .cmdUpdFallback f => some (0x0A09, f)
  | .cmdUpdRecoveryEnter f => some (0x0A10, f)
  | .cmdDiagMteRun f => some (0x0C40, f)
  | .cmdDiagMteAbort f => some (0x0C41, f)
  | .cmdDiagPmonFreeze f => some (0x0C01, f)
  | .cmdDiagPmonDumpRead f => some (0x0C02, f)
  | .cmdDiagPmonSampleRead f => some (0x0C03, f)
  | .cmdDiagAgmMeasure f => some (0x0C20, f)
  | .cmdDiagAgmReplan f => some (0x0C21, f)
  | _ => none

/-- Commands that may come before a session is open (R61). -/
def beforeOpen (code : Nat) : Bool := code == 0x0101 || code == 0x0102 || code == 0x0105 || code == 0x0110

/-- What a connection of the block is: a TLS connection, or the USB port while it is enabled. -/
def Reaches (s : State) (f : Frame) (k : Conn) : Prop := s.serves = true ∧ (s.advance f.arrival).connOf f.conn = some k

/-- A frame that passes checks 1 to 5 of Table 3-7: the next whole request of session `x` on its connection. -/
def Admitted (s : State) (f : Frame) (x : Session) : Prop :=
  (∃ k, Reaches s f k ∧ f.judge k.usb = .good) ∧ s.sessionOn f.conn = some x ∧ s.session x.id = some x ∧
  f.comp.toNat = x.comp ∧ x.partialReq = none ∧ f.seq.toNat = x.expected ∧ s.outstanding x < 8 ∧ f.seg = 0 ∧ f.more = false

/-- The state in which an admitted request has been accepted: floor time, the session's expected sequence and window. -/
def accepted (s : State) (f : Frame) (x : Session) (code : Nat) (cancellable : Bool) : State :=
  let a := s.advance f.arrival
  let b : State := if a.mode = 4 then { a with upd := { a.upd with lastFrame := f.arrival } } else a
  let y : Session := { x with lastFrame := f.arrival }
  let e : WinEntry := { seq := f.seq.toNat, cmd := code, done := false, cached := false, cancellable := cancellable, status := 0, payload := [] }
  ((b.putSession y).perf 0 0 x.comp).putSession { (y.accept e) with expected := (x.expected + 1) % 2 ^ 32 }

/-- The one thing put out is the final response of an admitted request. -/
def Answers (s t : State) (f : Frame) (x : Session) (code status : Nat) (payload : Bytes) : Prop :=
  t.sent = s.sent ++ [Out.resp f.conn x.comp f.seq.toNat code status payload]

/-- The last thing put out is the final response of an admitted request. -/
def AnswersLast (s t : State) (f : Frame) (x : Session) (code status : Nat) (payload : Bytes) : Prop :=
  ∃ l, t.sent = s.sent ++ l ++ [Out.resp f.conn x.comp f.seq.toNat code status payload]

/-- A refusal that has no other effect: no field, no program, no Castling, no staging, no waiting request changed. -/
def Untouched (s t : State) : Prop :=
  t.regs = s.regs ∧ t.scan = s.scan ∧ t.castlings = s.castlings ∧ t.stagings = s.stagings ∧ t.waiters = s.waiters ∧
  t.kse = s.kse ∧ t.lcy = s.lcy ∧ t.power = s.power

/-- An admitted request answered OK whose only effect is the answer. -/
def Reports (i : Instr) (s : State) (f : Frame) (x : Session) (code : Nat) (payload : Bytes) : Prop :=
  Completes i s fun t => Answers s t f x code 0 payload ∧ Untouched s t

/-- A request that is answered PENDING and waits for `w`. -/
def Waits (s t : State) (f : Frame) (x : Session) (code : Nat) (w : Wait) : Prop :=
  t.sent = s.sent ++ [Out.resp f.conn x.comp f.seq.toNat code 1 []] ∧
  ∃ l : List Waiter, t.waiters = s.waiters ++ l ∧ l.map (fun y => (y.sid, y.seq, y.cmd, y.wait)) = [(x.id, f.seq.toNat, code, w)]

/-- A record with this trigger and detail has been queued for the log of `c`: where the log is served, and the queue is
nowhere near its limits. -/
def Logged (s t : State) (c trigger : Nat) (detail : Bytes) : Prop :=
  s.failed 10 = false → s.exists? c = true → s.evr.pend.length < 8 →
    ∃ l e m, t.evr.pend = s.evr.pend ++ l ++ e :: m ∧ e.comp = c ∧ e.body.trigger = trigger ∧ e.body.detail = detail

/-- A new session of a compartment on a connection, expecting the sequence after the frame's, with its response (R63). -/
def Opened (s t : State) (f : Frame) (usb : Bool) : Prop :=
  ∃ x, t.sessionOn f.conn = some x ∧ x.comp = f.comp.toNat ∧ x.usb = usb ∧ x.expected = (f.seq.toNat + 1) % 2 ^ 32 ∧
    (∀ y ∈ s.sessions, y.id ≠ x.id) ∧ x.window = [] ∧
    t.sent = s.sent ++ [Out.resp f.conn 0xFF f.seq.toNat 0x0101 0
      (le 8 x.id ++ t.identity ++ le 4 16360 ++ le 2 8 ++ le 2 0 ++ le 4 x.expected)]

/-- An admitted request refused with a status and no payload, without any other effect. -/
def Reports' (i : Instr) (s : State) (f : Frame) (x : Session) (code status : Nat) : Prop :=
  Completes i s fun t => Answers s t f x code status [] ∧ Untouched s t

/-! ### Objects -/

/-- The word addresses of an entry. -/
def wordsFrom (a n : Nat) : List Nat := (List.range n).map fun i => a + 4 * i

/-- A word that belongs to no group of its own when it is read: not of the RTC group, and no half of a 64-bit object whose
other half is not read with it (R4, R332). -/
def plainRead (ws : List Nat) (w : Nat) : Prop :=
  inRtc w = false ∧ (highHalf w = true → w - 4 ∈ ws) ∧ (lowHalf w = true → w + 4 ∈ ws)

/-- A word whose fields a write only sets, stages or clears: none starts an action, and no chapter gives the write a rule
of its own. -/
def plainWrite (c a : Nat) : Prop :=
  a % 4 = 0 ∧
  (∀ p ∈ Obj.parts a, p.row.acc ≠ .wo) ∧ ((Obj.parts a).map fun p => (p.row.at c p.idx).key).Nodup ∧
  (∀ p ∈ Obj.parts a, ∀ g ∈ p.row.companion p.idx (p.row.at c p.idx), ∀ q ∈ Obj.parts a, g.key ≠ (q.row.at c q.idx).key) ∧
  a ∉ [0x2C, 0x20070, 0x40000, 0x80008, 0x8000C, 0x9002C] ∧
  ¬ (0x41000 ≤ a ∧ a < 0x43000) ∧ ¬ (0x20200 ≤ a ∧ a < 0x20600) ∧ ¬ (0x220000 ≤ a ∧ a < 0x230000)

/-- The RC fields among some words read 0 and every other field stands (R7). -/
def ReadOnce (s t : State) (c : Nat) (ws : List Nat) : Prop :=
  (∀ w ∈ ws, ∀ p ∈ Obj.parts w, p.row.acc = .rc → p.row.reset = 0 → t.rd (p.row.at c p.idx) = 0) ∧
  Kept (ws.flatMap fun w => ((Obj.parts w).filter fun p => p.row.acc == .rc).map fun p => p.row.at c p.idx) s t

/-- The parts of a word that `c` may write, of one access code. -/
def writes (s : State) (c a : Nat) (k : Access) : List Obj.Part := (s.writable c a).filter fun p => p.row.acc == k

/-- What a write of `v` to a plain word does to the stored fields: RW fields take the value, flags are cleared by ones and
take the bits set in the same cycle (R5, R11), and nothing else changes but companion counters. -/
def WordWritten (s t : State) (c a v sets : Nat) : Prop :=
  (∀ p ∈ writes s c a .rw, t.rd (p.row.at c p.idx) = p.merge (s.fieldVal c p.row p.idx) v % 2 ^ p.row.width) ∧
  (∀ p ∈ writes s c a .w1c, t.rd (p.row.at c p.idx) =
    (nand (s.rd (p.row.at c p.idx)) (p.taken v) ||| p.taken sets) % 2 ^ p.row.width) ∧
  Kept ((writes s c a .rw ++ writes s c a .w1c).flatMap fun p => p.row.at c p.idx :: (p.row.companion p.idx (p.row.at c p.idx)).toList) s t

/-- The fields that show a compartment's staging (Table 4-7). -/
def stageFields (c : Nat) : List Fld := [Obj.CAST_STAGE_STATE.b c, Obj.CAST_STAGE_WRITES.b c, Obj.CAST_STAGE_BYTES.b c]

/-! ### Modes -/

/-- The rows of Table 2-2 that C00 may ask for: from one mode to another. -/
def askable : List (Nat × Nat) :=
  [(5, 3), (6, 3), (7, 3), (8, 3), (9, 3), (5, 6), (6, 5), (6, 2), (6, 8), (6, 1), (7, 8), (7, 1), (2, 1), (6, 9), (7, 9), (8, 9), (8, 6)]

/-- The modes a life-cycle state permits (Table 16-4), with those that every state has. -/
def modesOf (l : Nat) : List Nat :=
  [0, 1, 3, 10] ++ (if l = 0 then [4] else if l = 1 then [4, 5, 6, 7, 8] else if l = 2 ∨ l = 3 then [2, 4, 5, 6, 7, 8, 9]
    else if l = 4 then [4, 5, 8] else [11])

/-- A transition has begun, and nothing else happened. -/
def Begins (s t : State) (target : Nat) (cold : Bool) : Prop :=
  t = { s with power := { s.power with transition := some { target := target, cold := cold } } }

/-- One stored field has a value, and every other is as it was. -/
def OneField (s t : State) (f : Fld) (v : Nat) : Prop := t.rd f = v ∧ Kept [f] s t

/-! ### Life cycle, keys, updates, events -/

/-- A statement of the module (R378): its header with kind and count, signed over all before the signature, answered whole. -/
def Signed (s t : State) (f : Frame) (x : Session) (code kind : Nat) : Prop :=
  ∃ body n, Answers s t f x code 0 (body ++ padTo 96 (Config.ecdsaSign (s.slotKey s.attestSlot) (sha384 body) n)) ∧
    body.take 8 = le 4 0x54415841 ++ le 2 1 ++ le 1 kind ++ le 1 0 ∧ field body 12 4 = t.rd Obj.KSE_ATT_COUNT.f ∧
    t.rd Obj.KSE_ATT_COUNT.f = (s.rd Obj.KSE_ATT_COUNT.f + 1) % 2 ^ 32 ∧ Kept [Obj.KSE_ATT_COUNT.f] s t

/-- A nonce of 16 to 64 bytes at the end of a payload, its length at byte `i`. -/
def Nonce (p : Bytes) (i : Nat) : Prop := 16 ≤ field p i 1 ∧ field p i 1 ≤ 64 ∧ p.length = 4 + field p i 1

/-- The key update message `m` passes the checks of R372 but its signature and its counter's and key's own. -/
def KumPasses (s : State) (m : Bytes) : Prop :=
  s.exists? (kumOwner m) = true ∧ (m.drop 8).take 16 = s.identity ∧ field m 0x18 1 = s.lcy.state ∧ s.slotState 4 = 1 ∧
  s.rd (Obj.KSE_CTR.b (kumOwner m)) < kumCounter m ∧ s.kumDetail m = none

/-- What the descriptor of a key slot shows. -/
def Shows (t : State) (k state usage ktype owner : Nat) : Prop :=
  t.slotState k = state ∧ t.rd (Obj.KSE_SLOT_USAGE.i k) = usage ∧ t.rd (Obj.KSE_SLOT_KTYPE.i k) = ktype ∧ t.slotOwner k = owner

/-- A command of the session that owns the update, in a mode and state that admit it. -/
def OwnsUpd (s : State) (x : Session) : Prop :=
  4 ≤ s.mode ∧ s.mode ≤ 8 ∧ (x.comp = 0 ∨ (x.comp = 0xFF ∧ s.mode = 4)) ∧ s.rd Obj.UPD_STATE.f ≠ 6 ∧ s.upd.owner = some x.id ∧
  s.failed 15 = false

/-- The same, with no verification or activation in progress. -/
def OwnsIdle (s : State) (x : Session) : Prop := OwnsUpd s x ∧ s.rd Obj.UPD_STATE.f ∉ [2, 4]

/-- C00 in full service with no other session owning the update. -/
def FreeUpd (s : State) (x : Session) : Prop :=
  5 ≤ s.mode ∧ s.mode ≤ 8 ∧ x.comp = 0 ∧ (s.upd.owner = none ∨ s.upd.owner = some x.id) ∧ s.failed 15 = false

/-- The deadline of a trial or adjournment has passed. -/
def Overdue (s : State) : Prop := ∃ d, s.upd.deadline = some d ∧ d ≤ s.rd Obj.EVR_OP_SECONDS.f

/-- The compartment may use a host command open to all, in full service. -/
def Hosted (s : State) (x : Session) : Prop := x.comp < 34 ∧ 5 ≤ s.mode ∧ s.mode ≤ 9

/-- Counters, states and material of every key slot are as they were. -/
def KeysStand (s t : State) : Prop :=
  t.kse.keys = s.kse.keys ∧ (∀ c, c < 34 → t.rd (Obj.KSE_CTR.b c) = s.rd (Obj.KSE_CTR.b c)) ∧ ∀ k, k < 256 → t.slotState k = s.slotState k

/-! ### Castling, the scan -/

/-- The requests that waited for `w` are over; where there was one, of a session with a connection, its response is the one
thing put out. -/
def Finishes (s t : State) (w : Wait) (status : Nat) (payload : Bytes) : Prop :=
  t.waiters = s.waiters.filter (fun y => y.wait != w) ∧
  ∀ y z k, s.waiters.filter (fun y => y.wait == w) = [y] → s.session y.sid = some z → z.conn = some k →
    t.sent = s.sent ++ [Out.resp k z.comp y.seq y.cmd status payload]

/-- An admitted request refused CHECK_FAILED with a detail code, without any other effect. -/
def Checked (i : Instr) (s : State) (f : Frame) (x : Session) (code detail : Nat) : Prop :=
  Completes i s fun t => Answers s t f x code 0x0041 (detailRecord detail 0 0) ∧ Untouched s t

/-- The part a compartment commits from its staging. -/
def stagedPart (s : State) (c : Nat) : CastPart :=
  { comp := c, cells := (s.staging c).cells, image := (s.staging c).image, lead := (s.staging c).lead }

/-- The states in which a commit is looked at past its first checks: M5 to M8, no activation or adjournment, CONFIG LOCK
open, DRAM working, no step due. -/
def MayCommit (s : State) : Prop :=
  5 ≤ s.mode ∧ s.mode ≤ 8 ∧ s.activating = false ∧ s.adjourned = false ∧ s.lcy.jumper = false ∧ s.failed 14 = false ∧
  s.on Obj.TIME_FT_STATE_STEP_DUE.f = false

/-- The end of a compartment's part, as its bank shows it (Table 4-7). -/
def CastEnded (t : State) (c : Nat) (g : Castling) (result : Nat) : Prop :=
  t.rd (Obj.CAST_LAST_RESULT.b c) = result ∧ t.rd (Obj.CAST_LAST_INSTANT.b c) = g.tC % 2 ^ 64 ∧
  t.rd (Obj.CAST_LAST_ID.b c) = g.id % 2 ^ 32 ∧ t.rd (Obj.CAST_PEND_ID.b c) = 0 ∧ t.rd (Obj.CAST_PEND_INSTANT.b c) = 0 ∧
  t.rd (Obj.CAST_EVT_ENDED.b c) = 1

/-- The last thing put out is PENDING, and a request waits for `w`. -/
def WaitsLast (s t : State) (f : Frame) (x : Session) (code : Nat) (w : Wait) : Prop :=
  AnswersLast s t f x code 1 [] ∧ ∃ y ∈ t.waiters, y.sid = x.id ∧ y.seq = f.seq.toNat ∧ y.cmd = code ∧ y.wait = w

/-- Only PENDING and an answer went out, and nothing else happened. -/
def SaysAfterPending (i : Instr) (s : State) (f : Frame) (x : Session) (code status : Nat) (payload : Bytes) : Prop :=
  Completes i s fun t => Untouched s t ∧
    t.sent = s.sent ++ [Out.resp f.conn x.comp f.seq.toNat code 1 [], Out.resp f.conn x.comp f.seq.toNat code status payload]

/-- The entry a force on a target goes to: the one that holds the target, or the lowest free one while fewer than 1,024
forces are in use (R190, R193). -/
def ForceEntry (s : State) (c : Nat) (f : Force) (i : Nat) : Prop :=
  (∃ y, (s.forces c).find? (fun y => y.kind == f.kind && y.point == f.point && y.path == f.path && y.name == f.name) = some y ∧ y.ix = i) ∨
  ((∀ y ∈ s.forces c, ¬ (y.kind = f.kind ∧ y.point = f.point ∧ y.path = f.path ∧ y.name = f.name)) ∧ s.forceTotal < 1024 ∧
    s.rd (Obj.FORCE_STATE.bi c i) = 0 ∧ ∀ j, j < i → s.rd (Obj.FORCE_STATE.bi c j) ≠ 0)

/-- A force is in its entry: in force, but suspended in M8 where its target is an output of the program (R194). A force on a
point shows at the point. -/
def ForceStands (s t : State) (c i : Nat) (f : Force) : Prop :=
  let held := f.kind = 0 ∧ s.mode = 8 ∧ f.point ∈ s.outputPoints c
  t.force c i = { f with ix := i, state := t.rd (Obj.FORCE_STATE.bi c i) } ∧
  (held → t.rd (Obj.FORCE_STATE.bi c i) = 2) ∧ (¬ held → t.rd (Obj.FORCE_STATE.bi c i) = 1) ∧
  (f.kind = 0 → ¬ held → t.rd (Obj.PIMG_ATTR_FORCED.i f.point) = 1 ∧
    (s.source f.point ≤ 1 → s.scan.hold = none → t.pt f.point = f.value))

/-! ### Metering -/

/-- The cycle of a set that closed from the state `b`: its record, and each open channel's energies, by sign, in its
accumulators and in its live record (R203, R209, R214, R223). -/
def CycleClosed (b t : State) (v freq framing : Nat) : Prop :=
  t.rd (Obj.MAE_SET_SEQ.i v) = (b.rd (Obj.MAE_SET_SEQ.i v) + 1) % 2 ^ 32 ∧
  t.rd (Obj.MAE_SET_SEQ_END.i v) = (b.rd (Obj.MAE_SET_SEQ.i v) + 1) % 2 ^ 32 ∧
  t.rd (Obj.MAE_SET_FREQ.i v) = freq % 2 ^ 32 ∧ t.rd (Obj.MAE_SET_FRAMING.i v) = framing ∧
  ∀ ch ∈ b.chansOf v, (b.chan ch).isOpen = true → let r := (b.closeChan ch false).2
    (t.chan ch).acc = (b.chan ch).acc.add (accUnits r.ep) (accUnits r.eq) ∧ (t.chan ch).cycles = (b.chan ch).cycles + 1 ∧
    t.rd (Obj.MAE_CH_LIVE_SEQ.i ch) = (b.rd (Obj.MAE_CH_LIVE_SEQ.i ch) + 1) % 2 ^ 32 ∧
    t.rd (Obj.MAE_CH_P.i ch) = sat32 (meanMilli r.ep r.n) % 2 ^ 32

/-- A cycle of a set is open with no sample yet. -/
def CycleOpens (t : State) (v : Nat) (pseudo : Bool) : Prop :=
  (t.mset v).isOpen = true ∧ (t.mset v).pseudo = pseudo ∧ (t.mset v).n = 0 ∧ (t.mset v).v2 = [0, 0, 0, 0]

/-- A latched record shows an accumulator's four registers in whole units (R227, Table 9-2). -/
def Latched (t : State) (r : LatchRows) (i : Nat) (a : Acc) (seq time : Nat) : Prop :=
  t.rd (r.seq.i i) = seq ∧ t.rd (r.time.i i) = time % 2 ^ 64 ∧ t.rd (r.imp.i i) = latched a.imp ∧ t.rd (r.exp.i i) = latched a.exp ∧
  t.rd (r.ind.i i) = latched a.ind ∧ t.rd (r.cap.i i) = latched a.cap

/-! ### CAN -/

/-- No request of a port waits to be selected. -/
def Calm (s : State) (p : Nat) : Prop := s.bufsIn p 1 = []

/-- A frame as the port takes it: an 11-bit identifier unless extended, and the data its DLC gives (Table 10-1). -/
def taken (fr : CanFrame) : CanFrame :=
  { fr with data := le (if fr.rtr then 0 else dlcLen fr.fdf fr.dlc.val) (unle fr.data),
            id := if fr.xtd then fr.id else BitVec.ofNat 29 (fr.id.toNat % 2 ^ 11) }

/-- What a FIFO element holds of a frame (Table 10-12). -/
def Holds (e : CanElem) (f : CanFrame) (k seq : Nat) : Prop :=
  e.id = f.id.toNat ∧ e.xtd = f.xtd ∧ e.dlc = f.dlc.val ∧ e.fdf = f.fdf ∧ e.brs = f.brs ∧ e.esi = f.esi ∧ e.rtr = f.rtr ∧
  e.filter = k ∧ e.data = f.data ∧ e.seq = seq ∧ e.stamp = f.sof / 1000 % 2 ^ 32 ∧ e.epoch = f.sof / (1000 * 2 ^ 32) % 2 ^ 32

/-- A requester that sees a word whole, and is there. -/
def MayUse (s : State) (who : Requester) (a : Nat) : Prop := s.live who = true ∧ s.reaches (s.compOf who) a = true

/-- What a request on buffer `n` of port `p` makes of it (R262, R267, R275, R282), its data standing. -/
def Requested (b t : State) (p n : Nat) : Prop :=
  let st := b.txState p n
  let ps := b.portState p
  (st = 2 → (t.txReq p n).again = true ∧ t.txState p n = 2) ∧
  (st ∉ [1, 2, 7] → (t.txReq p n).failures = 0 ∧
    (ps = 0 ∨ ps = 4 → t.txState p n = 5 ∧ t.rd (Obj.FBC_TXB_LAST_ERR.ij p n) = 5) ∧
    (ps ≠ 0 → ps ≠ 4 → 2 ≤ b.errState p → t.txState p n = 7) ∧
    (ps ≠ 0 → ps ≠ 4 → b.errState p ≤ 1 → b.onBus p = false → t.txState p n = 1) ∧
    (ps = 2 → b.onBus p = true → (b.port p).arb = none → Calm b p → b.mayTransmit p n = true →
      t.txState p n = 2 ∧ t.rd (Obj.FBC_TXB_ATTEMPTS.ij p n) = 1 ∧ (t.port p).arb = some n ∧ (t.txReq p n).copy = some (t.bufFrame p n)) ∧
    (ps = 2 → b.onBus p = true → (b.port p).arb = none → Calm b p → b.mayTransmit p n = false →
      t.txState p n = 4 ∧ t.rd (Obj.FBC_TXB_LAST_ERR.ij p n) = 8 ∧
      t.rd (Obj.FBC_FW_TX_BLOCK.i p) = (b.rd (Obj.FBC_FW_TX_BLOCK.i p) + 1) % 2 ^ 32))

/-! ### Network -/

/-- The VLAN ID to which ports 2 to 5 classify a frame (Table 12-2): an access port takes its PVID or a tag equal to it, a
trunk port its PVID or any tag. PVID 0 takes no untagged frame. -/
def frameVid (s : State) (p : Nat) (vid : Option Nat) : Option Nat :=
  let pvid := s.rd (Obj.NSW_PORT_PVID.i p)
  match vid.filter (· != 0) with
  | none => if pvid = 0 then none else some pvid
  | some v => if s.rd (Obj.NSW_PORT_CFG_MODE.i p) = 0 ∧ v ≠ pvid then none else some v

/-- The VLAN entry of a frame: the first enabled entry of its VLAN ID. -/
def VlanIs (s : State) (vid v : Nat) : Prop :=
  v < 64 ∧ s.on (Obj.NSW_VLAN_ENABLE.i v) = true ∧ s.rd (Obj.NSW_VLAN_VID.i v) = vid ∧
  ∀ w, w < v → s.on (Obj.NSW_VLAN_ENABLE.i w) = true → s.rd (Obj.NSW_VLAN_VID.i w) ≠ vid

/-- The ports a frame of entry `v` from port `p` goes to: the members and the internal port, or of them the one its
destination was heard on, never back. -/
def towards (s : State) (v p : Nat) (fr : EthFrame) : List Nat :=
  let all := ([2, 3, 4, 5].filter (s.member v)) ++ [6]
  (match if groupMac fr.dst then none else s.learned (s.rd (Obj.NSW_VLAN_VID.i v)) fr.dst with
    | some q => all.filter (· == q)
    | none => all).filter (· != p)

/-- A counter of a row has gone up by one. -/
def Counted (s t : State) (f : Fld) : Prop := t.rd f = (s.rd f + 1) % 2 ^ 32

/-- A LAN is judged up: its cage in use and linked, a frame within 6 s. -/
def LanUp (t : State) (c : Nat) : Prop :=
  t.portUsed c = true ∧ (t.cage c).link = true ∧ ∃ x, (t.cage c).lastFrame = some x ∧ t.floorTime < x + 6000000000

/-- A LAN's bit says what it is, and a change has been logged for C00 and flagged (R307). -/
def LanJudged (s t : State) (c : Nat) : Prop :=
  (LanUp t c → t.on (State.lanOk c).f = true ∧ (s.on (State.lanOk c).f = false → Logged s t 0 0x0D02 (le 1 c ++ le 3 0))) ∧
  (¬ LanUp t c → t.on (State.lanOk c).f = false ∧
    (s.on (State.lanOk c).f = true → t.rd Obj.NSW_EVT_LAN.f = 1 ∧ Logged s t 0 0x0D01 (le 1 c ++ le 3 0)))

/-! ### Services and legacy buses -/

/-- The service entries of a compartment under a protocol (R310). -/
def Entry (s : State) (c sv m : Nat) : Prop :=
  m < 4096 ∧ s.on (Obj.NSW_SE_ENABLE.i m) = true ∧ s.rd (Obj.NSW_SE_SERVICE.i m) = sv ∧ s.rd (Obj.NSW_SE_OWNER.i m) = c

/-- An object of the device of a compartment: the first entry of its type and instance. -/
def ObjectIs (s : State) (c ty inst m : Nat) : Prop :=
  let it (n : Nat) : Prop := Entry s c 0 n ∧ s.rd (Obj.NSW_SE_OBJ_TYPE.i n) = ty ∧ s.rd (Obj.NSW_SE_INSTANCE.i n) = inst
  it m ∧ ∀ n, n < m → ¬ it n

/-- A transaction due first: by due time, then by the mapping's index (R314). -/
def DueFirst (l : List (Nat × Nat)) (w : Nat × Nat) : Prop :=
  w ∈ l ∧ ∀ v ∈ l, w.1 < v.1 ∨ (w.1 = v.1 ∧ w.2 ≤ v.2)

/-- An attempt of a transaction has failed at an instant (R315): it is sent again, or after the last retry counted, and a
read point is stale. -/
def AttemptFailed (s t : State) (p now : Nat) (c : LbxTxn) : Prop :=
  (0 < c.left → (t.lport p).cur = some { c with left := c.left - 1, at_ := now } ∧
    t.sent = s.sent ++ [Out.legacy p c.map c.bytes]) ∧
  (c.left = 0 → (t.lport p).cur = none ∧ t.rd (Obj.LBX_PORT_FAIL.i p) = (s.rd (Obj.LBX_PORT_FAIL.i p) + 1) % 2 ^ 32 ∧
    (c.write = false → s.discarded p c = false → c.point < 8192 → t.rd (Obj.PIMG_ATTR_STALE.i c.point) = 1) ∧
    t.sent = s.sent ++ (if p < 14 then [] else [Out.legacy p 0xFFFF (le 1 0x40 ++ le 1 (c.addr % 256))]))

/-! ### Time -/

/-- Tick count and floor time of one instant are in the correlation registers, and both sequence copies have gone up
(R341). -/
def Correlated (s b t : State) : Prop :=
  t.rd Obj.TIME_CORR_FT.f = b.floorTime % 2 ^ 64 ∧ t.rd Obj.TIME_CORR_TICK_LO.f = b.rtc.ticks % 2 ^ 32 ∧
  t.rd Obj.TIME_CORR_TICK_HI.f = b.rtc.ticks / 2 ^ 32 % 2 ^ 16 ∧
  t.rd Obj.TIME_CORR_SEQ.f = (s.rd Obj.TIME_CORR_SEQ.f + 1) % 2 ^ 32 ∧
  t.rd Obj.TIME_CORR_SEQ_END.f = (s.rd Obj.TIME_CORR_SEQ_END.f + 1) % 2 ^ 32 ∧
  Kept [Obj.TIME_CORR_FT.f, Obj.TIME_CORR_TICK_LO.f, Obj.TIME_CORR_TICK_HI.f, Obj.TIME_CORR_SEQ.f, Obj.TIME_CORR_SEQ_END.f] s t ∧
  t.rtc = b.rtc

/-- The calendar `r` has been compared with the PTP time of `t` (R336): equal, it stands; less than 1 s apart, a shift begins;
else it is set to it at the next tick. -/
def CalendarCompared (r : Rtc) (t : State) : Prop :=
  let d := t.targetCal - (r.cal : Int)
  (d = 0 → t.rtc = r) ∧
  (0 < d → d < 32768 → r.valid = true → t.rtc = { r with add := d.toNat }) ∧
  (d < 0 → -32768 < d → r.valid = true → t.rtc = { r with suppress := (-d).toNat }) ∧
  (d ≠ 0 → r.valid = false ∨ d ≤ -32768 ∨ 32768 ≤ d →
    t.rtc = { r with setReq := some ((t.targetCal % (calSpan : Int)).toNat, t.on Obj.TIME_CFG_ZONE.f) })

/-- A shadow of the RTC group as it stands in a state. -/
def shadowNow (b : State) (who : Requester) : Shadow :=
  { who := who, frozenAt := b.floorTime, ticks := b.rtc.ticks, cal := b.rtc.cal, stat := b.rtcStat }

/-- A requester's shadow has been taken away and counted (R332). -/
def ShadowLost (s t : State) (who : Requester) : Prop :=
  (∀ x ∈ t.rtc.shadows, x.who ≠ who) ∧ who ∈ t.rtc.owed ∧
  OneField s t Obj.TIME_FRZ_TIMEOUTS.f ((s.rd Obj.TIME_FRZ_TIMEOUTS.f + 1) % 2 ^ 32)

/-! ### Memories, performance monitor, ageing monitor -/

/-- An uncorrectable error is counted and recorded for C00 and C01 (R424). -/
def UeCounted (s t : State) (mem bank off : Nat) : Prop :=
  let d := le 1 mem ++ le 1 0 ++ le 2 bank ++ le 4 off
  t.rd (Obj.MEM_UE.i mem) = (s.rd (Obj.MEM_UE.i mem) + 1) % 2 ^ 32 ∧ t.rd (Obj.MEM_LAST_UE.i mem) = off % 2 ^ 32 ∧
  t.rd Obj.MEM_EVT_UE.f = 1 ∧ Logged s t 0 0x0C43 d ∧ Logged s t 1 0x0C43 d

/-- A test is over with an outcome, as its registers show it (Table 18-6). -/
def TestEnded (b t : State) (x : MteTest) (outcome rows : Nat) : Prop :=
  t.mte = none ∧ t.rd Obj.MTE_STATE_RUNNING.f = 0 ∧ t.rd Obj.MTE_RES_BANK.f = x.bank % 2 ^ 8 ∧
  t.rd Obj.MTE_RES_MODE.f = b2n x.preserving ∧ t.rd Obj.MTE_RES_OUTCOME.f = outcome ∧ t.rd Obj.MTE_RES_ROWS.f = rows % 2 ^ 16 ∧
  t.rd Obj.MTE_RES_DURATION.f = (b.floorTime - x.at_) / 1000 % 2 ^ 32 ∧ t.rd Obj.MTE_RES_END_TIME.f = b.floorTime % 2 ^ 64

/-- A requester that may write the performance monitor (R449). -/
def PmonWriter (s : State) (who : Requester) : Prop := s.live who = true ∧ s.compOf who < 2 ∧ s.failed 11 = false

/-- Every counter has been copied at one instant (R441). -/
def Frozen (b t : State) : Prop :=
  (∀ u, u < 18 → t.rd (Obj.PMON_CYC_SNAP.i u) = b.pmonCyc u) ∧
  (∀ x ∈ pmonOrder, t.rd (Obj.PMON_CNT_SNAP.ij x.1 x.2) = (b.perfNow x.1 x.2).value % 2 ^ 32 ∧
    t.rd (Obj.PMON_CNT_SNAP_WRAPS.ij x.1 x.2) = (b.perfNow x.1 x.2).wraps % 2 ^ 8) ∧
  t.rd Obj.PMON_FREEZE_TIME.f = b.floorTime % 2 ^ 64 ∧ t.rd Obj.PMON_FREEZE_SEQ.f = (b.rd Obj.PMON_FREEZE_SEQ.f + 1) % 2 ^ 32 ∧
  t.pmon.lastFreeze = some b.floorTime ∧ t.pmon.cnts = b.pmon.cnts

/-- Records from `first` on, where none before the oldest is asked for. -/
def Held (l : List (Nat × Bytes)) (first : Nat) : Prop := ∀ r, l.head? = some r → seqAfter r.1 first = false

/-- The answer that carries records. -/
def records (l : List Bytes) : Bytes := le 2 l.length ++ le 2 0 ++ l.flatMap id

/-- The parts of a re-plan that every rule asks for. -/
def wholePlan : PlanParts := { margin := true, commit := true, tdco := true }

/-- The part by which the ageing monitor commits a re-plan. -/
def planPart (s : State) (p : Replan) : CastPart :=
  { comp := vendorTag, cells := s.planCells p, image := none, lead := leadOf (s.planCells p) none }

/-- A re-plan that is refused waits for its next try, and the first refusal is recorded (R461). -/
def PlanWaits (s b t : State) (p : Replan) (status : Nat) : Prop :=
  t.castlings = s.castlings ∧ t.agm.plan = s.agm.plan ∧ t.agm.refused = true ∧
  t.agm.retryAt = some (b.floorTime + if p.urgent then 1000000000 else 60000000000) ∧
  (s.agm.refused = false → Logged s t 0 0x0C23 (le 2 status) ∧ Logged s t 1 0x0C23 (le 2 status))

/-- A re-plan stands as a Castling of the vendor tag at an instant, and is announced (R460). -/
def PlanStands (s b t : State) (p : Replan) (tC : Nat) : Prop :=
  (∃ g ∈ t.castlings, g.tC = tC ∧ planPart b p ∈ g.parts) ∧ t.agm.retryAt = none ∧
  t.rd Obj.AGM_STATUS_PLAN_PENDING.f = 1 ∧ t.rd Obj.AGM_STATUS_URGENT.f = b2n p.urgent ∧ t.rd Obj.AGM_PLAN_T_C.f = tC % 2 ^ 64 ∧
  t.rd Obj.AGM_EVT_ANNOUNCED.f = 1 ∧
  Logged s t 0 0x0C21 (le 2 p.oldClk ++ le 2 p.clk ++ le 1 p.oldGb ++ le 1 p.gb ++ le 2 0 ++ le 8 tC)

end Sys2Proof.Claims

open Sys2Proof Sys2Proof.Machine Sys2Proof.Claims

/-! ### The queue -/

/-- A step runs the command at the front of the queue on the state with the queue's rest. Rests on the model's choice in log 2. -/
def Obligations.StepRunsFront : Prop :=
  ∀ (c : Instr) (r : List Instr) (s : State), step { s with pending := c :: r } = exec c { s with pending := r }

/-- No command and no number of steps stops the block: every run goes on. Rests on the model's choices in logs 3 and 12. -/
def Obligations.EveryRunGoesOn : Prop :=
  (∀ (i : Instr) (s : State), ∃ t, exec i s = .next t) ∧ ∀ (n : Nat) (s : State), ∃ t, core.run n s = .next t

/-! ### Tempo ops -/

/-- R146: G0 reads as 0 and discards what is written to it; every other register reads what was written last. A new ply finds 0 in
every register, an empty link stack, IB at the root instance, GB at the global one if there is one, and PC at the entry of the
root instance's type. -/
def Obligations.RegistersOfAPly : Prop :=
  (∀ (p : Ply) (d r : Fin 32) (v : Word64), p.regs.length = 32 →
    (p.setG d v).g r = if r = 0 then 0 else if r = d then v else p.g r) ∧
  (∀ (s : State) (c : Nat) (t : ImgTask) (g : Prog) (stepped : Bool) (x : Inst) (ty : ImgType) (f : ImgFunc),
    g.instIx t.root = some x → g.image.types[x.typeIx]? = some ty → g.image.funcs[ty.entry]? = some f →
    let p := s.newPly c t g stepped
    (∀ r, p.g r = 0) ∧ p.regs.length = 32 ∧ p.ib = x.id ∧ p.gb = g.glob.map (·.id) ∧ p.link = [] ∧ p.pc = f.off)

/-- R151, R153, Tables 6-2, 6-3 and 6-5: integer results at 64 and 32 bits, comparisons, which write 1 or 0, and the bit ops of one
source; on to the next op. Rests on the model's choices in logs 14 and 59. -/
def Obligations.IntegerOps : Prop :=
  ∀ (i : Instr) (x : Writes) (s : State) (p : Ply), (integerOp i = some x ∨ compareOp i = some x) → s.running x.e = some p →
    Retires i s p { p.setG x.d (x.value p) with pc := p.pc + 4 } x.lo x.hi

/-- R151: divisions truncate toward zero; a division by 0 gives 0 and sets DIVZ, and never traps. Rests on the model's choice in log
14. -/
def Obligations.Divisions : Prop :=
  ∀ (i : Instr) (e : Fin 2) (w : Bool) (d a b : Fin 32) (f : Int → Int → Int) (sign : Bool) (s : State) (p : Ply),
    divisionOp i = some (e, w, d, a, b, f, sign) → s.running e = some p →
    (source w false (p.g b) ≠ 0 →
      Retires i s p { p.setG d (result w (f (source w sign (p.g a)) (source w sign (p.g b)))) with pc := p.pc + 4 } 4 36) ∧
    (source w false (p.g b) = 0 → Retires i s p { p.setG d 0 with pc := p.pc + 4, divz := true } 4 36)

/-- R152, R153: floating operations, conversions and floating comparisons, over the formats of SoftFloat.lean. Rests on the model's
choices in logs 14 and 59. -/
def Obligations.FloatOps : Prop :=
  ∀ (i : Instr) (x : Writes) (s : State) (p : Ply), floatOp i = some x → s.running x.e = some p →
    Retires i s p { p.setG x.d (x.value p) with pc := p.pc + 4 } x.lo x.hi

/-- Table 6-5: EXTU, EXTS and INS on a field that ends at bit 63 or below. Rests on the model's choice in log 14. -/
def Obligations.FieldOps : Prop :=
  ∀ (i : Instr) (e : Fin 2) (d : Fin 32) (n w : Nat) (f : Ply → Nat → Bool) (s : State) (p : Ply),
    fieldBits i = some (e, d, n, w, f) → n + w ≤ 64 → s.running e = some p →
    ∃ v : Word64, (∀ j, j < 64 → v.getLsbD j = f p j) ∧ Retires i s p { p.setG d v with pc := p.pc + 4 } 1 1

/-- R154, Table 6-2: branches go 4 bytes a word from the op itself, in 2 cycles, or on to the next op, in 1. Rests on the model's
choice in log 14. -/
def Obligations.Branches : Prop :=
  ∀ (i : Instr) (e : Fin 2) (f : Ply → Ply) (taken : Ply → Bool) (off : Int) (s : State) (p : Ply),
    branchOp i = some (e, f, taken, off) → s.running e = some p →
    if taken p then Retires i s p { f p with pc := moved p.pc off } 2 2 else Retires i s p { f p with pc := p.pc + 4 } 1 1

/-- R163, R154: LDC, BTAB, FBCALL, FBCALLX, CALL, and RET to a caller. Rests on the model's choice in log 14. -/
def Obligations.CallsAndTables : Prop :=
  ∀ (e : Fin 2) (d a : Fin 32) (imm : BitVec 16) (imm21 : BitVec 21) (imm26 : BitVec 26) (s : State) (p : Ply) (g : Prog),
    s.running e = some p → s.progOf p = some g →
    (∀ v, g.image.consts[imm21.toNat]? = some v →
      Retires (.ldc e d imm21) s p { p.setG d (BitVec.ofNat 64 v) with pc := p.pc + 4 } 2 3) ∧
    (∀ n, g.image.consts[imm.toNat]? = some n → imm.toNat + n < g.image.consts.length → p.pc % 4 = 0 →
      (∀ o, (p.g a).toNat < n → g.image.consts[imm.toNat + 1 + (p.g a).toNat]? = some o →
        Retires (.btab e a imm) s p { p with pc := moved p.pc (sgn 64 o) } 3 4) ∧
      (n ≤ (p.g a).toNat → Retires (.btab e a imm) s p { p with pc := p.pc + 4 } 3 4)) ∧
    (∀ x y pc, p.link.length < 16 → g.inst p.ib = some x → inside x (2 * imm.toNat) 2 →
      g.inst (memRead x.data (2 * imm.toNat) 2) = some y → g.entryOf y = some pc →
      Retires (.fbcall e imm) s p { p with link := (p.pc + 4, p.ib) :: p.link, pc := pc, ib := y.id } 5 8) ∧
    (∀ y pc, p.link.length < 16 → (p.g a).toNat < 16384 → g.inst (p.g a).toNat = some y → y.typeIx = imm.toNat →
      g.entryOf y = some pc →
      Retires (.fbcallx e a imm) s p { p with link := (p.pc + 4, p.ib) :: p.link, pc := pc, ib := y.id } 5 8) ∧
    (p.link.length < 16 →
      Retires (.call e imm26) s p { p with link := (p.pc + 4, p.ib) :: p.link, pc := moved p.pc imm26.toInt } 5 8) ∧
    (∀ pc ib rest, p.link = (pc, ib) :: rest → Retires (.ret e) s p { p with link := rest, pc := pc, ib := ib } 3 4)

/-- R155, R156, R158: PLD and PATTR read the capture, PST and POLD the output buffer of the ply; a load that lies inside its
instance, aligned, zero-extends the bytes there; such a store writes the low bytes of G[D] and no other byte. Rests on the
model's choice in log 14. -/
def Obligations.DataAccesses : Prop :=
  (∀ (i : Instr) (e : Fin 2) (a : Fin 32) (imm : BitVec 16) (count : Ply → Nat) (f : Ply → Nat → Ply) (s : State) (p : Ply) (g : Prog),
     slotAccess i = some (e, a, imm, count, f) → s.running e = some p → s.progOf p = some g → offset p a imm < count p →
     Retires i s p { f p (offset p a imm) with pc := p.pc + 4 } 2 3) ∧
  (∀ (i : Instr) (e : Fin 2) (d a : Fin 32) (imm : BitVec 16) (n : Nat) (glob : Bool) (s : State) (p : Ply) (g : Prog) (x : Inst),
     loadAccess i = some (e, d, a, imm, n, glob) → s.running e = some p → s.progOf p = some g → reached glob p g = some x →
     inside x (offset p a imm) n →
     Retires i s p { p.setG d (BitVec.ofNat 64 (memRead x.data (offset p a imm) n)) with pc := p.pc + 4 } 2 3) ∧
  (∀ (i : Instr) (e : Fin 2) (d a : Fin 32) (imm : BitVec 16) (n : Nat) (glob : Bool) (s : State) (p : Ply) (g : Prog) (x : Inst),
     storeAccess i = some (e, d, a, imm, n, glob) → s.running e = some p → s.progOf p = some g → reached glob p g = some x →
     inside x (offset p a imm) n →
     Completes i s fun t => OpFrame s t ∧
       PlyBecomes s t p { p with pc := p.pc + 4, lost := p.lost || s.late p x } 2 3 ∧
       DataChanges s t p g x (offset p a imm) n fun k => BitVec.ofNat 8 ((p.g d).toNat / 256 ^ k))

/-- R160, R162: TMR evaluates a record at the capture instant, TMRRD reads it and changes nothing; edge detectors compare with PREV
once PRIMED, and remember the input. Rests on the model's choices in logs 14 and 19. -/
def Obligations.TimersAndEdges : Prop :=
  (∀ (e : Fin 2) (d a : Fin 32) (imm : BitVec 16) (s : State) (p : Ply) (g : Prog) (x : Inst),
     s.running e = some p → s.progOf p = some g → g.inst p.ib = some x → offset p a imm % 8 = 0 → offset p a imm + 16 ≤ x.size →
     let off := offset p a imm
     let w := memRead x.data off 8
     let rec_ := Timer.of w (memRead x.data (off + 8) 8)
     let after := tmrStep rec_ ((p.g d).getLsbD 0) (p.cap + p.lag)
     (rec_.kind ≠ 3 → Completes (.tmr e d a imm) s fun t => OpFrame s t ∧
       PlyBecomes s t p { p.setG d (BitVec.ofNat 64 (b2n after.1.q + 2 * after.2)) with pc := p.pc + 4, lost := p.lost || s.late p x } 4 6 ∧
       ∃ m, DataChanges s t p g x off 16 (fun k => memGet m (off + k)) ∧
         memRead m off 8 = w % 2 ^ 48 + 2 ^ 48 * timerBits after.1 + w / 2 ^ 52 * 2 ^ 52 ∧
         memRead m (off + 8) 8 = after.1.anchor % 2 ^ 64) ∧
     Retires (.tmrrd e d a imm) s p
       { p.setG d (BitVec.ofNat 64 (b2n rec_.q + 2 * (if rec_.running then min rec_.pt ((p.cap + p.lag - rec_.anchor) / 1000)
           else if rec_.done then rec_.pt else 0))) with pc := p.pc + 4 } 4 6) ∧
  (∀ (i : Instr) (e : Fin 2) (d a : Fin 32) (imm : BitVec 16) (s : State) (p : Ply) (g : Prog) (x : Inst),
     recordAccess i = some (e, d, a, imm, 8) → s.running e = some p → s.progOf p = some g → g.inst p.ib = some x →
     offset p a imm % 8 = 0 → offset p a imm + 8 ≤ x.size →
     let off := offset p a imm
     let w := memRead x.data off 8
     let input := (p.g d).getLsbD 0
     Completes i s fun t => OpFrame s t ∧
       PlyBecomes s t p { p.setG d (truth (bit w 1 && edgeSeen i (bit w 0) input)) with pc := p.pc + 4, lost := p.lost || s.late p x } 3 3 ∧
       ∃ m, DataChanges s t p g x off 8 (fun k => memGet m (off + k)) ∧ memRead m off 8 = w / 4 * 4 + 2 + b2n input)

/-- R165, Tables 6-7 and 6-8: TBOUND, TNOW, PLYINFO, and WAKE outside watch mode; in watch mode WAKE of a watch-eligible task asks
for full service while bit 4 of PWR_WAKE_EN is set. Rests on the model's choice in log 14. -/
def Obligations.ContextOps : Prop :=
  (∀ (i : Instr) (x : Writes) (s : State) (p : Ply), contextOp s i = some x → s.running x.e = some p →
     Retires i s p { p.setG x.d (x.value p) with pc := p.pc + 4 } x.lo x.hi) ∧
  (∀ (e : Fin 2) (d : Fin 32) (s : State) (p : Ply), s.running e = some p → s.mode = 2 → s.power.transition = none →
     Completes (.wake e d) s fun t =>
       (∃ q, plyAt t p = some q ∧ q.regs = (p.setG d 0).regs ∧ q.pc = p.pc + 4) ∧
       (s.watchTask p.comp p.engine p.entry = true → s.wakeEn 4 = true →
         t.power.transition = some { target := 6 } ∧ (s.rd Obj.PWR_WAKE_CAUSE.f = 0 → t.rd Obj.PWR_WAKE_CAUSE.f = 5)) ∧
       (¬ (s.watchTask p.comp p.engine p.entry = true ∧ s.wakeEn 4 = true) → t.power = s.power ∧ Kept [] s t))

/-- R143, R165: object calls of a ply. A read of HW words that may be read at once gives value and status; a call that meets an FW
word blocks the ply until FW_ACCESS_DONE; a write gives the status of the write. Rests on the model's choices in logs 14 and 32. -/
def Obligations.ObjectCalls : Prop :=
  ∀ (e : Fin 2) (d a b : Fin 32) (s : State) (p : Ply), s.running e = some p →
    (∀ v, let w := (p.g a).toNat
      s.wordsStatus p.comp [w] = St.ok → isHw w = true → inRtc w = false → highHalf w = false → s.wordAt p.comp w = some v →
      Completes (.objrd32 e d a b) s fun t => GoesOn t p ((p.setG d (BitVec.ofNat 64 v)).setG b 0).regs) ∧
    (∀ v u, let w := (p.g a).toNat
      s.wordsStatus p.comp [w, w + 4] = St.ok → isHw w = true → isHw (w + 4) = true → inRtc w = false → inRtc (w + 4) = false →
      highHalf w = false → lowHalf (w + 4) = false → s.wordAt p.comp w = some v → s.wordAt p.comp (w + 4) = some u →
      Completes (.objrd64 e d a b) s fun t => GoesOn t p ((p.setG d (BitVec.ofNat 64 (v + 2 ^ 32 * u))).setG b 0).regs) ∧
    (∀ wide : Bool, let i := if wide then Instr.objrd64 e d a b else Instr.objrd32 e d a b
      let l := if wide then [(p.g a).toNat, (p.g a).toNat + 4] else [(p.g a).toNat]
      s.wordsStatus p.comp l = St.ok → l.all isHw = false →
      Completes i s fun t => Blocks t p (.read d.val b.val (p.g a).toNat wide) ∧ OpFrame s t) ∧
    (∀ wide : Bool, let i := if wide then Instr.objwr64 e d a b else Instr.objwr32 e d a b
      let w := (p.g a).toNat
      let v := (p.g b).toNat
      let l := if wide then [(w, v % 2 ^ 32), (w + 4, v / 2 ^ 32)] else [(w, v % 2 ^ 32)]
      l.all (fun x => isHw x.1) = true → Completes i s fun t =>
        t.regs = (s.taskWrite p.comp p.engine p.entry l).1.regs ∧
        ∀ q, plyAt (s.taskWrite p.comp p.engine p.entry l).1 p = some q → q.waiting = none →
          GoesOn t q (q.setG d (BitVec.ofNat 64 (s.taskWrite p.comp p.engine p.entry l).2)).regs)

/-- R143, R165: FW_ACCESS_DONE makes the access of a blocked ply and gives it the status. EVENT queues one record of trigger 0x0701
and blocks; from the fifth call of a ply on it answers NO_SPACE in 12 cycles, writes nothing and goes on. Rests on the model's
choices in logs 14, 24 and 32. -/
def Obligations.FirmwareCalls : Prop :=
  (∀ (c : Nat) (e : Fin 2) (k : Fin 16) (now : Nat) (s : State) (p : Ply), s.plyOf c e.val k.val = some p →
     (∀ d, d < 32 → p.waiting = some (.event d) → Completes (.fwAccessDone c e k now) s fun t =>
       GoesOn t p (p.setG (Fin.ofNat 32 d) 0).regs ∧ Kept [] s t) ∧
     (∀ d b w v, d < 32 → b < 32 → p.waiting = some (.read d b w false) → (s.advance now).wordsStatus c [w] = St.ok → inRtc w = false →
       highHalf w = false → (s.advance now).wordAt c w = some v →
       Completes (.fwAccessDone c e k now) s fun t =>
         GoesOn t p ((p.setG (Fin.ofNat 32 d) (BitVec.ofNat 64 v)).setG (Fin.ofNat 32 b) 0).regs)) ∧
  (∀ (e : Fin 2) (d a : Fin 32) (s : State) (p : Ply), s.running e = some p →
     (p.events < 4 → Completes (.event e d a) s fun t => Blocks t p (.event d.val) ∧
       (∀ sh, s.failed 10 = false → s.exists? p.comp = true → s.queueRoom p.comp = some sh →
         ∃ r, t.evr.pend = s.evr.pend ++ [⟨p.comp, sh, r⟩] ∧ r.trigger = 0x0701 ∧
           r.detail = le 4 ((p.g a).toNat % 2 ^ 32) ++ le 1 p.engine ++ le 1 p.entry ++ le 2 0 ++ le 8 p.cap)) ∧
     (4 ≤ p.events → Retires (.event e d a) s p { p.setG d (BitVec.ofNat 64 0x0061) with pc := p.pc + 4 } 12 12))

/-- R157, and parts of R158, R163, R166: slot accesses outside their bounds trap with SLOT_RANGE; data and record accesses with
INST_RANGE or GLOBAL_RANGE; UTRAP with USER and G[A][15:0]; a call on a full link stack with DEPTH. A trap abandons the ply and
fills the trap fields of its task. -/
def Obligations.Traps : Prop :=
  ∀ (e : Fin 2) (a : Fin 32) (s : State) (p : Ply) (g : Prog), s.running e = some p → s.progOf p = some g →
    Completes (.utrap e a) s (fun t => Trapped s t p 8 ((p.g a).toNat % 2 ^ 16)) ∧
    (∀ i imm count f, slotAccess i = some (e, a, imm, count, f) → count p ≤ offset p a imm →
      Completes i s fun t => Trapped s t p 2 0) ∧
    (∀ i d imm n glob x, (loadAccess i = some (e, d, a, imm, n, glob) ∨ storeAccess i = some (e, d, a, imm, n, glob)) →
      reached glob p g = some x → ¬ inside x (offset p a imm) n →
      Completes i s fun t => Trapped s t p (if glob then 4 else 3) 0) ∧
    (∀ i d imm n x, recordAccess i = some (e, d, a, imm, n) → g.inst p.ib = some x →
      (offset p a imm % 8 ≠ 0 ∨ x.size < offset p a imm + n) → Completes i s fun t => Trapped s t p 3 0) ∧
    (∀ imm, p.link.length = 16 → Completes (.call e imm) s fun t => Trapped s t p 6 0)

/-- R148: RET on an empty link stack ends the ply, with its output step: PLY_DONE counts, and a point that the task may still write
and that no force holds takes the buffer's value. Rests on the model's choice in log 14. -/
def Obligations.PlyEnds : Prop :=
  ∀ (e : Fin 2) (s : State) (p : Ply), s.running e = some p → p.link = [] →
    Completes (.ret e) s fun t => plyAt t p = none ∧
      t.rd (taskField Obj.SCE_TASK_PLY_DONE p) = (s.rd (taskField Obj.SCE_TASK_PLY_DONE p) + 1) % 2 ^ 32 ∧
      (s.scan.hold = none → s.rd (Obj.SCE_STATE.b p.comp) = 2 → p.sets = [] → p.outPts.Nodup →
        ∀ (k pt : Nat) (v : Word64), p.outPts[k]? = some pt → p.outs[k]? = some v → pt < 8192 → s.keepsOutput p pt = true →
          s.pointForce p.comp pt = none → t.pt pt = v.toNat)

/-! ### Mailbox protocol (spec/03) -/

/-- R60, R68, R71, Table 3-7: what a frame of any command deserves before the command is looked at. A refused frame changes no
field, program, staging, Castling, key or mode. Rests on the model's choices in logs 4, 61 and 63. -/
def Obligations.FramesRefused : Prop :=
  ∀ (i : Instr) (code : Nat) (f : Frame) (s : State) (k : Conn), mmp i = some (code, f) → Reaches s f k →
    (∀ st p, f.judge k.usb = .bad st p → Completes i s fun t => Untouched s t ∧ t.sent = s.sent ++
      [Out.resp f.conn (match s.sessionOn f.conn with | some x => x.comp | none => 0xFF) f.seq.toNat code st p]) ∧
    (f.judge k.usb = .closeTcp → Completes i s fun t => Untouched s t ∧ t.sent = s.sent ++ [Out.close f.conn] ∧
      (∀ c ∈ t.conns, c.id ≠ f.conn) ∧ ∀ x ∈ t.sessions, x.conn ≠ some f.conn) ∧
    (f.judge k.usb = .good → s.sessionOn f.conn = none → beforeOpen code = false → Completes i s fun t => Untouched s t ∧
      t.sent = s.sent ++ [Out.resp f.conn 0xFF f.seq.toNat code 0x0012 []]) ∧
    (∀ x, f.judge k.usb = .good → s.sessionOn f.conn = some x → f.comp.toNat ≠ x.comp → Completes i s fun t => Untouched s t ∧
      Answers s t f x code 0x0012 []) ∧
    (∀ x, f.judge k.usb = .good → s.sessionOn f.conn = some x → f.comp.toNat = x.comp → x.partialReq = none →
      f.seq.toNat ≠ x.expected →
      (∀ e, x.window.find? (fun e => e.seq == f.seq.toNat) = some e → f.retry = false) →
      Completes i s fun t => Untouched s t ∧ Answers s t f x code 0x0015 (le 4 x.expected)) ∧
    (∀ x e, f.judge k.usb = .good → s.sessionOn f.conn = some x → f.comp.toNat = x.comp → x.partialReq = none →
      f.seq.toNat ≠ x.expected → x.window.find? (fun e => e.seq == f.seq.toNat) = some e → f.retry = true →
      (e.done = false → Completes i s fun t => Untouched s t ∧ t.sent = s.sent ++ [Out.resp f.conn x.comp e.seq e.cmd 1 []]) ∧
      (e.done = true → e.cached = true → Completes i s fun t => Untouched s t ∧
        t.sent = s.sent ++ [Out.resp f.conn x.comp e.seq e.cmd e.status e.payload])) ∧
    (∀ x, f.judge k.usb = .good → s.sessionOn f.conn = some x → f.comp.toNat = x.comp → x.partialReq = none →
      f.seq.toNat = x.expected → (8 ≤ s.outstanding x → Completes i s fun t => Untouched s t ∧ Answers s t f x code 0x0016 []) ∧
      (s.outstanding x < 8 → f.seg ≠ 0 → Completes i s fun t => Untouched s t ∧ Answers s t f x code 0x0017 [])) ∧
    (∀ x, f.judge k.usb = .good → s.sessionOn f.conn = some x → s.session x.id = some x → f.comp.toNat = x.comp →
      x.partialReq = none → f.seq.toNat = x.expected → s.outstanding x < 8 → f.seg = 0 → f.more = true → f.length.toNat = 16360 →
      Completes i s fun t => Untouched s t ∧ t.sent = s.sent ∧ ∃ y, t.session x.id = some y ∧
        y.partialReq = some ⟨f.seq.toNat, code, 1, f.payload⟩ ∧ y.expected = (x.expected + 1) % 2 ^ 32)

/-- R54, R55, R58, R61 to R63, R72: a handshake is accepted or answered handshake_failure and closed; a session opens over TLS or
USB where the chain is accepted and is refused AUTH_FAILED where it is not; a challenge gives 32 bytes that the connection
keeps; a detached session is resumed with its window. Rests on the model's choices in logs 4, 10 and 36. -/
def Obligations.SessionOpening : Prop :=
  (∀ (h : Handshake) (s : State), s.listens h.port = true → h.conn ≠ 0 → (∀ c ∈ s.conns, c.id ≠ h.conn) →
    Completes (.tlsHandshake h) s fun t => Untouched s t ∧
      if h.tls13 && h.suite && h.group && h.scheme && h.chain != [] && Config.chainForm h.chain &&
        Config.leafVerifies h.chain h.transcript h.signature then
        t.sent = s.sent ++ [Out.accept h.conn] ∧ ∃ k ∈ t.conns, k.id = h.conn ∧ k.usb = false ∧ k.chain = h.chain ∧
          k.comp = Config.chainComp h.chain ∧ k.port = h.port ∧ k.vlan = h.vlan
      else t.sent = s.sent ++ [Out.alert h.conn, Out.close h.conn] ∧ t.conns = s.conns) ∧
  (∀ (f : Frame) (s : State) (k : Conn), Reaches s f k → f.judge k.usb = .good → s.sessionOn f.conn = none → f.seg = 0 →
    f.more = false → let a := s.advance f.arrival
    (k.usb = false → a.sessionAllowed f.comp.toNat false = true → f.payload = [] → a.vlanCarries k f.comp.toNat = true →
      a.sessionRoom f.comp.toNat false (2 ^ 64) = true → Completes (.cmdSessionOpen f) s fun t =>
        if k.comp = some f.comp.toNat ∧ (f.comp.toNat = 0xFF ∨ a.exists? f.comp.toNat = true) ∧
          a.chainAccepts f.comp.toNat k.chain = true
        then Opened s t f false
        else Untouched s t ∧ t.sent = s.sent ++ [Out.resp f.conn 0xFF f.seq.toNat 0x0101 0x0013 []]) ∧
    (∀ n t0, k.usb = true → a.usbEnabled = true → a.sessionAllowed f.comp.toNat true = true → 96 < f.payload.length →
      k.nonce = some (n, t0) → a.floorTime ≤ t0 + 30000000000 → a.slotState 4 ≠ 0 →
      a.sessionRoom f.comp.toNat true (2 ^ 64) = true → Completes (.cmdSessionOpen f) s fun t =>
        if (f.comp.toNat = 0xFF ∨ a.exists? f.comp.toNat = true) ∧
          a.chainAccepts f.comp.toNat (f.payload.take (f.payload.length - 96)) = true ∧
          Config.leafVerifies (f.payload.take (f.payload.length - 96)) (le 32 n ++ a.identity ++ le 1 f.comp.toNat)
            (f.payload.drop (f.payload.length - 96)) = true
        then Opened s t f true
        else Untouched s t ∧ t.sent = s.sent ++ [Out.resp f.conn 0xFF f.seq.toNat 0x0101 0x0013 []]) ∧
    (f.payload = [] → Completes (.cmdSessionChallenge f) s fun t => Untouched s t ∧ ∃ n,
      t.sent = s.sent ++ [Out.resp f.conn 0xFF f.seq.toNat 0x0102 0 (le 32 n)] ∧
      ∃ c, t.conns.find? (fun c => c.id == f.conn) = some c ∧ c.nonce = some (n % 2 ^ 256, a.floorTime)) ∧
    (f.payload = [] → Completes (.cmdIdentGet f) s fun t => Untouched s t ∧
      t.sent = s.sent ++ [Out.resp f.conn 0xFF f.seq.toNat 0x0110 0 s.ident]) ∧
    (∀ x, f.payload = le 8 x.id → s.session x.id = some x → x.id < 2 ^ 64 → k.comp = some x.comp → x.conn = none →
      x.expired a.floorTime = false → a.sessionRoom x.comp k.usb x.id = true → Completes (.cmdSessionResume f) s fun t =>
        Untouched s t ∧ t.session x.id = some { x with conn := some f.conn, usb := k.usb, lastFrame := f.arrival, notices := [] } ∧
        t.sent = s.sent ++ Out.resp f.conn 0xFF f.seq.toNat 0x0105 0 x.resumeBytes ::
          x.notices.map fun n => Out.notice x.id f.conn n.1 n.2))

/-- R61, R66, R73, R74, Table 3-6: the session's own commands, codes that no chapter defines, and frames whose header fails. Rests
on the model's choices in logs 4 and 26. -/
def Obligations.SessionCommands : Prop :=
  (∀ (f : Frame) (s : State) (x : Session), Admitted s f x →
    (f.payload.length ≤ 64 → Reports (.cmdSessionPing f) s f x 0x0104 (f.payload ++ le 8 (max s.floorTime f.arrival))) ∧
    (f.payload = [] → Reports (.cmdIdentGet f) s f x 0x0110 s.ident) ∧
    (f.payload = [] → Completes (.cmdSessionChallenge f) s fun t => Untouched s t ∧ ∃ n, Answers s t f x 0x0102 0 (le 32 n)) ∧
    (f.payload = [] → Completes (.cmdSessionClose f) s fun t => t.session x.id = none ∧
      Out.resp f.conn x.comp f.seq.toNat 0x0103 0 (le 1 (s.cancellableOf x.id).length ++ le 3 0) ∈ t.sent ∧
      ∀ w ∈ t.waiters, w.sid = x.id → w.cancellable = false) ∧
    (∀ n : Nat, n < 2 ^ 32 → f.payload = le 4 n → n ≠ x.expected →
      let e := (x.window.drop (x.window.length - 15)).find? fun e => e.seq == n
      let w := s.waiters.find? fun w => w.sid == x.id && w.seq == n && w.cancellable
      (e = none → Reports (.cmdSessionCancel f) s f x 0x0106 (le 1 3 ++ le 3 0)) ∧
      (∀ y, e = some y → y.done = true → Reports (.cmdSessionCancel f) s f x 0x0106 (le 1 1 ++ le 3 0)) ∧
      (∀ y, e = some y → y.done = false → w = none → Reports (.cmdSessionCancel f) s f x 0x0106 (le 1 2 ++ le 3 0)) ∧
      (∀ y z, e = some y → y.done = false → w = some z → Completes (.cmdSessionCancel f) s fun t =>
        AnswersLast s t f x 0x0106 0 (le 1 0 ++ le 3 0) ∧ Out.resp f.conn x.comp n z.cmd 0x0043 [] ∈ t.sent ∧
        ∀ v ∈ t.waiters, ¬ (v.sid = x.id ∧ v.seq = n)))) ∧
  (∀ (f : Frame) (code : BitVec 16) (s : State) (x : Session), Admitted s f x → definedCodes.contains code.toNat = false →
    Completes (.mmpUndefinedCommand f code) s fun t => Untouched s t ∧
      Answers s t f x code.toNat (if code = 0x0710 then 0x0019 else 0x0018) []) ∧
  (∀ (f : Frame) (code : BitVec 16) (s : State) (k : Conn) (st : Nat) (p : Bytes), Reaches s f k → f.judge k.usb = .bad st p →
    Completes (.mmpBadHeader f code) s fun t => Untouched s t ∧
      t.sent = s.sent ++ [Out.resp f.conn (match s.sessionOn f.conn with | some x => x.comp | none => 0xFF) f.seq.toNat code.toNat st p])

/-- R70, R72, R80 to R82, R85: lost transports, the two session limits, notices, and the mailbox RAM. Rests on the model's choices
in logs 4, 24 and 37. -/
def Obligations.SessionEvents : Prop :=
  (∀ (conn now : Nat) (s : State), Completes (.transportLoss conn now) s fun t => Untouched s t ∧ t.sent = s.sent ∧
    t.conns = s.conns.filter (fun c => c.id != conn) ∧
    t.sessions = s.sessions.map fun x => if x.conn = some conn then { x with conn := none, detachedAt := max s.floorTime now } else x) ∧
  (∀ (sid now : Nat) (s : State) (x : Session), s.session sid = some x → s.floorTime ≤ now →
    (now % 1000000 = 0 → x.lastFrame + 300000000000 ≤ now →
      Completes (.sessionIdleTimeout sid now) s fun t => t.session sid = none) ∧
    (now < x.lastFrame + 300000000000 → Completes (.sessionIdleTimeout sid now) s fun t => t = s.advance now) ∧
    (now % 1000000 = 0 → x.conn = none → x.detachedAt + 60000000000 ≤ now →
      Completes (.sessionDetachExpiry sid now) s fun t => t.session sid = none) ∧
    (x.conn ≠ none ∨ now < x.detachedAt + 60000000000 → Completes (.sessionDetachExpiry sid now) s fun t => t = s.advance now)) ∧
  (∀ (sid c : Nat) (s : State) (x : Session), s.session sid = some x → x.conn = some c →
    Completes (.noticeHandover sid) s fun t => Untouched s t ∧
      t.sent = s.sent ++ x.notices.map (fun n => Out.notice sid c n.1 n.2) ∧ t.session sid = some { x with notices := [] }) ∧
  (∀ (src n : Nat) (s : State), src ≤ 4 → n < 16 → s.mbx.fifo.length < 16 → let x := s.mbx.slots.get {} n
    (s.slotServed x = true → Completes (.mbxDbIn src n) s fun t => t = { s with mbx := { s.mbx with fifo := s.mbx.fifo ++ [n] } }) ∧
    (s.slotServed x = false → x.state = 2 → Completes (.mbxDbIn src n) s fun t => t.mbx.fifo = s.mbx.fifo ∧
      t.mbx.slots.get {} n = {} ∧ Logged s t 0 0x0101 (le 1 n ++ le 1 src ++ le 2 x.handle))) ∧
  (∀ (n : Nat) (c : SlotCas) (s : State), n ≤ 14 → let x := s.mbx.slots.get {} n
    (x.state ≠ c.expect % 16 → Completes (.mbxSlotState n none (some c)) s fun t => t.mbx = s.mbx ∧
      t.sent = s.sent ++ [Out.word .firmware (0x40 + 4 * n) 1 (x.state + 16 * x.owner + 65536 * x.handle)]) ∧
    (x.state = 0 → c.expect % 16 = 0 → c.new = 1 → n ≤ 11 → Completes (.mbxSlotState n none (some c)) s fun t =>
      t.mbx.slots.get {} n = { state := 1, owner := c.source % 16, handle := c.handle % 65536 }) ∧
    (∀ p : SlotCas, x.state = c.expect % 16 → c.new = 3 → Completes (.mbxSlotState n (some c) (some p)) s fun t =>
      t.mbx.slots.get {} n = { x with state := 3 } ∧ ∃ w, t.sent = s.sent ++ [Out.word .firmware (0x40 + 4 * n) 1 w]))

/-! ### Objects (spec/00, spec/04) -/

/-- R4, R7, R88, R92, R93, R99: reads of words in the requester's view. A group read takes halves as they stand; a staged read shows
the staged value and marks it; only RC fields change, in plain and group reads alone. Rests on the model's choice in log 23. -/
def Obligations.ObjectReads : Prop :=
  (∀ (f : Frame) (s : State) (x : Session) (a n : Nat), Admitted s f x → x.comp < 34 → 5 ≤ s.mode → s.mode ≤ 9 →
    a < 2 ^ 32 → 0 < n → n ≤ 4090 → f.payload = le 4 a ++ le 2 n ++ le 2 0 → let ws := wordsFrom a n
    (let b := accepted s f x 0x0201 true;
      b.wordsStatus x.comp ws = 0 → (∀ w ∈ ws, plainRead ws w) → Completes (.cmdObjRead f) s fun t =>
        Answers s t f x 0x0201 0 (ws.flatMap fun w => le 4 ((b.wordAt x.comp w).getD 0)) ∧ ReadOnce s t x.comp ws) ∧
    (let b := accepted s f x 0x0201 true;
      b.wordsStatus x.comp ws = 0x0020 → Reports' (.cmdObjRead f) s f x 0x0201 0x0020) ∧
    (let b := accepted s f x 0x0301 true;
      b.wordsStatus x.comp ws = 0 → (s.staging x.comp).cells = [] → Reports (.castStagedRead f) s f x 0x0301
        ((ws.flatMap fun w => le 4 ((b.wordAt x.comp w).getD 0)) ++ List.replicate ((n + 7) / 8) 0)) ∧
    (∀ r idx v, let b := accepted s f x 0x0301 true;
      n = 1 → b.wordsStatus x.comp ws = 0 → Obj.parts a = [⟨r, idx, 0, 0⟩] → r.width = 32 → v < 2 ^ 32 →
      stagedValue (s.staging x.comp).cells (r.at x.comp idx) = some v → Reports (.castStagedRead f) s f x 0x0301 (le 4 v ++ [1]))) ∧
  (∀ (f : Frame) (s : State) (x : Session) (l : List (Nat × Nat)), Admitted s f x → x.comp < 34 → 5 ≤ s.mode → s.mode ≤ 9 →
    0 < l.length → l.length ≤ 256 → (∀ e ∈ l, e.1 < 2 ^ 32 ∧ 0 < e.2 ∧ e.2 < 2 ^ 16) → (l.map (·.2)).sum ≤ 20450 →
    f.payload = le 2 l.length ++ le 2 0 ++ l.flatMap (fun e => le 4 e.1 ++ le 2 e.2 ++ le 2 0) →
    let b := accepted s f x 0x0203 true
    let ws := l.flatMap fun e => wordsFrom e.1 e.2
    b.wordsStatus x.comp ws = 0 → (∀ w ∈ ws, inRtc w = false) → Completes (.cmdObjGroupRead f) s fun t =>
      Answers s t f x 0x0203 0 (ws.flatMap fun w => le 4 ((b.wordAt x.comp w).getD 0)) ∧ ReadOnce s t x.comp ws)

/-- R5, R7, R11, R94, R97, R100: writes. A write that passes its checks is carried out whole; one that fails any changes nothing;
one that stages while the staging is checked is held. A register access of a session or of unit firmware acts on one word. Rests
on the model's choices in logs 4 and 23. -/
def Obligations.ObjectWrites : Prop :=
  (∀ (f : Frame) (s : State) (x : Session) (es : List (Nat × List Nat)) (one : Bool), Admitted s f x → x.comp < 34 →
    5 ≤ s.mode → s.mode ≤ 9 → (∀ e ∈ es, e.1 < 2 ^ 32 ∧ e.2.length < 2 ^ 16 ∧ ∀ v ∈ e.2, v < 2 ^ 32) →
    let entry (e : Nat × List Nat) : Bytes := le 4 e.1 ++ le 2 e.2.length ++ le 2 0 ++ e.2.flatMap (le 4)
    let i := if one then Instr.cmdObjWrite f else Instr.cmdObjGroupWrite f
    let code := if one then 0x0202 else 0x0204
    let b := accepted s f x code false
    let ws := (indexed es).map (·.2)
    let l := b.fieldsOf x.comp ws
    (if one then ∃ e, es = [e] ∧ f.payload = entry e else 0 < es.length ∧ es.length ≤ 256 ∧
      f.payload = le 2 es.length ++ le 2 0 ++ es.flatMap entry) →
    (∀ st p, b.writeRefusal x.comp es = some (.fail st p) → Completes i s fun t => Untouched s t ∧ Answers s t f x code st p) ∧
    (b.writeRefusal x.comp es = none → (∀ y ∈ l, y.row ≠ Obj.UPD_SEALED_MOVE) →
      ((∃ y ∈ l, y.row.acc = .ws) → (s.staging x.comp).state = 2 → Completes i s fun t => t.sent = s.sent ∧ t.regs = s.regs ∧
        (t.staging x.comp).held = (s.staging x.comp).held ++ [⟨x.id, x.expected, .words es⟩] ∧
        (t.staging x.comp).cells = (s.staging x.comp).cells) ∧
      ((∀ y ∈ l, y.row.acc ≠ .ws) ∨ (s.staging x.comp).state ≠ 2 → (∀ w ∈ ws, ¬ (0x220000 ≤ w.1 ∧ w.1 < 0x230000)) →
        Completes i s fun t => AnswersLast s t f x code 0 [] ∧ t.regs = (b.performWrite x.comp ws fun _ => 0).regs ∧
          t.stagings = (b.performWrite x.comp ws fun _ => 0).stagings))) ∧
  (∀ (s : State) (c a v : Nat) (sets : FldWrite → Nat), plainWrite c a → c < 34 →
    ((writes s c a .ws) = [] → WordWritten s (s.performWrite c [(a, v)] fun _ => 0) c a v 0 ∧
      (s.performWrite c [(a, v)] sets).stagings = s.stagings) ∧
    ((∀ p ∈ s.writable c a, p.row.acc = .ws) → s.writable c a ≠ [] → let t := s.performWrite c [(a, v)] fun _ => 0
      (t.staging c).state = 1 ∧ Kept (stageFields c) s t ∧ (∀ d, d ≠ c → t.staging d = s.staging d) ∧
      ∀ p ∈ s.writable c a, stagedValue (t.staging c).cells (p.row.at c p.idx) = some (p.merge (s.beforeWrite c p) v % 2 ^ p.row.width))) ∧
  (∀ (who : Requester) (a : Nat) (v m : BitVec 32) (s : State), s.live who = true → (∀ c e k, who ≠ .task c e k) →
    let c := s.compOf who
    (∀ st p, s.writeRefusal c [(a, [v.toNat])] = some (.fail st p) → Completes (.regWrite who a v 0) s fun t =>
      t.sent = s.sent ++ [Out.word who a st 0] ∧ t.stagings = s.stagings) ∧
    (s.writeRefusal c [(a, [v.toNat])] = none → plainWrite c a → c < 34 → writes s c a .ws = [] →
      Completes (.regWrite who a v m) s fun t => t.sent = s.sent ++ [Out.word who a 0 0] ∧ WordWritten s t c a v.toNat m.toNat)) ∧
  (∀ (who : Requester) (a : Nat) (s : State), s.live who = true → let c := s.compOf who
    (s.wordStatus c a = 0 → inRtc a = false → highHalf a = false → Completes (.regReadClear who a true 0) s fun t =>
      t.sent = s.sent ++ [Out.word who a 0 ((s.wordAt c a).getD 0)] ∧ ReadOnce s t c [a]) ∧
    (∀ ok : Bool, ok = false ∨ s.wordStatus c a ≠ 0 → Completes (.regReadClear who a ok 0) s fun t =>
      t.sent = s.sent ++ [Out.word who a (s.wordStatus c a) 0] ∧ ((∀ p ∈ Obj.parts a, p.row.acc ≠ .w1c) → t.regs = s.regs)))

/-! ### Modes, power and boot (spec/02) -/

/-- R28, R31, R53, R96, Table 2-2: what C00 may ask for and what it is refused, the end of a transition, and the limit of M9. Rests
on the model's choices in logs 26 and 27. -/
def Obligations.ModeChanges : Prop :=
  (∀ (who : Requester) (m : BitVec 4) (cold : Bool) (s : State), s.live who = true → s.compOf who = 0 →
    (s.power.transition = none → (s.mode, m.toNat) ∈ askable → m.toNat ∈ modesOf s.lcy.state →
      (m = 9 → s.lcy.windowAt ≠ none) → ¬ (s.d2 = true ∧ m.toNat ∈ [2, 6, 7, 9]) →
      Completes (.modeRequest who m cold) s fun t =>
        Begins s t (if m = 6 then (if s.reduced then 7 else 6) else m.toNat) (m == 6 && cold && s.mode == 8)) ∧
    (s.power.transition ≠ none ∨ (s.mode, m.toNat) ∉ askable ∨ m.toNat ∉ modesOf s.lcy.state ∨ (m = 9 ∧ s.lcy.windowAt = none) ∨
      (s.d2 = true ∧ m.toNat ∈ [2, 6, 7, 9]) → Completes (.modeRequest who m cold) s fun t => t = s) ∧
    (s.power.transition = none → s.mode = 9 → Completes (.modeRelease who) s fun t => ∃ m', Begins s t m' false ∧
      (s.power.m9Fails = 0 → m' = s.power.m9From) ∧ (bit s.power.m9Fails 16 = true → s.failed 16 = true → m' = 8) ∧
      (bit s.power.m9Fails 2 = true → s.severe = false → m' = 7)) ∧
    (s.power.transition ≠ none ∨ s.mode ≠ 9 → Completes (.modeRelease who) s fun t => t = s)) ∧
  (∀ (now m : Nat) (cold : Bool) (s : State), s.power.transition = some { target := m, cold := cold } → s.mte = none →
    m ∈ [1, 2, 3, 5, 6, 7, 8, 9] → Completes (.modeTransitionDone now) s fun t =>
      t.mode = (if m = 6 ∧ s.reduced = true then 7 else m) ∧
      (m = 1 ∨ m = 2 → t.sessions = [] ∧ t.conns = []) ∧ (m = 9 → t.power.m9From = s.mode ∧ t.power.m9Fails = 0)) ∧
  (∀ (now : Nat) (s : State), s.mode = 9 → s.power.transition = none →
    (s.power.m9Entry + 1000000000 * s.rd Obj.PWR_M9_LIMIT.f ≤ max s.floorTime now → Completes (.m9LimitExpiry now) s fun t =>
      Begins (s.advance now) t 8 false) ∧
    (max s.floorTime now < s.power.m9Entry + 1000000000 * s.rd Obj.PWR_M9_LIMIT.f → Completes (.m9LimitExpiry now) s fun t =>
      t = s.advance now))

/-- R33, R37, R40, R43, R45 to R47, R49, Table 2-7: power fail and its commit, the return of main power with the canary, PLLs that
do not lock, and the failure of a unit. Rests on the model's choices in logs 20, 27 and 29. -/
def Obligations.PowerEvents : Prop :=
  (∀ (now : Nat) (s : State),
    (s.mode ∈ [2, 5, 6, 7, 8, 9] → Completes (.powerFail now) s fun t => t.mode = 10 ∧ t.scan.plies = [] ∧ t.conns = [] ∧
      t.power.pfAt = max s.floorTime now ∧ t.power.commitEnded = false ∧ t.power.lastMode = s.mode ∧ t.power.transition = none ∧
      (s.castlings = [] → t.rd Obj.PWR_PF_COUNT.f = (s.rd Obj.PWR_PF_COUNT.f + 1) % 2 ^ 32) ∧ t.rd Obj.PWR_STATUS_MAIN_OK.f = 0 ∧
      t.rd Obj.PWR_STATUS_ON_HOLDUP.f = 1) ∧
    (s.mode ∈ [1, 3, 4, 11] → Completes (.powerFail now) s fun t => t.mode = 0 ∧ t.power.lastMode = s.mode ∧ t.conns = [])) ∧
  (∀ (now n : Nat) (s : State), s.mode = 10 → s.power.commitEnded = false → s.power.mainPresent = false →
    Completes (.powerFailCommitEnd now n false false) s (fun t => t.mode = 10 ∧ t.power.commitEnded = true ∧
      t.rd Obj.PWR_LAST_COMMIT_STAGES_DONE.f = 15 ∧ t.evr.pend = [] ∧
      t.rd Obj.PWR_LAST_COMMIT_LOST.f = (s.evr.pend.length - min 250 s.evr.pend.length) % 65536) ∧
    Completes (.powerFailCommitEnd now n true false) s (fun t => t.mode = 0 ∧
      t.rd Obj.PWR_LAST_COMMIT_STAGES_DONE.f = 2 ^ min n 4 - 1 ∧ (n < 4 → t.rd Obj.PWR_STATUS_COMMIT_INCOMPLETE.f = 1)) ∧
    Completes (.powerFailCommitEnd now n false true) s (fun t => t.mode = 3 ∧ t.rd Obj.PWR_LAST_COMMIT_STAGES_DONE.f = 15)) ∧
  (∀ (now : Nat) (s : State),
    (s.mode = 10 → Completes (.bulkLow now) s fun t => t.mode = 0 ∧ t.power.mainPresent = false) ∧
    (s.mode = 0 → s.power.lastMode ≠ 1 → Completes (.mainReturn now) s fun t => t.mode = 3 ∧ t.power.mainPresent = true ∧
      t.rd Obj.EVR_POWER_CYCLES.f = (s.rd Obj.EVR_POWER_CYCLES.f + 1) % 2 ^ 32 ∧
      (s.power.canaryA = true → s.power.canaryB = false → t.rtc.valid = s.rtc.valid) ∧
      (s.power.canaryA = false ∨ s.power.canaryB = true → t.rtc.valid = false ∧ t.floorTime = 0 ∧
        t.rd Obj.PWR_STATUS_CANARY_TRIPPED.f = 1)) ∧
    (s.mode = 10 → s.power.commitEnded = false → Completes (.mainReturn now) s fun t => t.mode = 10 ∧ t.power.mainPresent = true) ∧
    (∀ u : Fin 18, s.mode ≠ 10 → Completes (.unitFailure u now) s fun t => t.failed u = true ∧
      (∀ v : Fin 18, v ≠ u → t.failed v = s.failed v) ∧
      (s.mode = 6 → s.power.transition = none → s.severe = false → u.val ∈ [2, 3, 4, 5, 6, 7, 8, 9, 10, 14, 15] →
        s.failed u = false → t.power.transition = some { target := 7 })) ∧
    (∀ pll, s.mode ≠ 10 →
      (pll ∉ s.power.pllRetried → Completes (.pllLockTimeout pll now) s fun t => t.regs = s.regs ∧ pll ∈ t.power.pllRetried) ∧
      (pll ∈ s.power.pllRetried → Completes (.pllLockTimeout pll now) s fun t => ∀ u ∈ s.pllUnits pll, t.failed u = true)))

/-- R38, R46 to R49, R345, R388, R426, R430, Table 2-2: the boot from its entry to the mode it leads to, the start-up test, the wipe
after a promotion, operating seconds and wake causes. Rests on the model's choices in logs 20 and 28. -/
def Obligations.BootEvents : Prop :=
  (∀ (now : Nat) (s : State), s.mode = 3 →
    (s.power.cleared = false → Completes (.bootEntry now) s fun t => (s.castBoot = [] → t.mode = 3) ∧ t.power.cleared = true ∧ t.conns = [] ∧
      t.sessions = [] ∧ t.waiters = [] ∧ t.stagings = [] ∧ t.castlings = [] ∧ t.mte = none) ∧
    (s.failed 13 = false → Completes (.startupTestDone [] now) s fun t => (∀ b, b < 155 → t.rd (Obj.MEM_BANK_FAILED.i b) = 0) ∧
      t.rd Obj.MTE_STATE_STARTUP_OK.f = 1) ∧
    (s.power.cleared = true → s.wipeDue = true → s.lcy.state < 8 → Completes (.promotionWipe 0 now) s fun t =>
      t.rd Obj.LCY_WIPED_STATE.f = s.lcy.state ∧ t.mae = {} ∧ t.kse = {} ∧ t.mode = 3 ∧ t.power.configured = false ∧
      t.evr.pend = []) ∧
    (s.power.cleared = true → s.wipeDue = false → (∀ b, b < 155 → bankMinimum b = true → s.rd (Obj.MEM_BANK_FAILED.i b) ≠ 1) →
      Completes (.bootComplete now) s fun t => t.power.canaryA = true ∧ t.power.canaryB = false ∧ t.power.lost = [] ∧
        t.evr.deferred = [] ∧
        t.mode = (if s.lcy.state = 5 then 11 else if s.lcy.state = 0 ∨ s.power.noSlot = true ∨ s.power.recovery = true then 4
          else if s.power.configured = false then 5
          else let r := s.rd Obj.PWR_RESUME_MODE.f
            let m := if r = 6 then (if s.reduced then 7 else 6) else if r = 0 then 5 else r
            if m ∈ modesOf s.lcy.state ∧ m ∉ [0, 1, 3, 10] then m else 5))) ∧
  (∀ (now : Nat) (s : State),
    (s.mode ≠ 0 → s.power.mainPresent = true → Completes (.opSecondsTick now) s fun t =>
      OneField s t Obj.EVR_OP_SECONDS.f ((s.rd Obj.EVR_OP_SECONDS.f + 1) % 2 ^ 32) ∧
      t.power.opCommit = (if (s.rd Obj.EVR_OP_SECONDS.f + 1) % 2 ^ 32 % 60 = 0 ∧ 2 ≤ s.mode then
        (s.rd Obj.EVR_OP_SECONDS.f + 1) % 2 ^ 32 else s.power.opCommit)) ∧
    (s.mode = 0 → Completes (.opSecondsTick now) s fun t => t = s.advance now) ∧
    (Completes (.backupDomainDip now) s fun t => t = { s.advance now with power := { s.power with canaryA := false, canaryB := true } }) ∧
    (Completes (.vbusDetect now) s fun t => t.lcy = { s.lcy with vbus := true } ∧ (s.power.transition = none → s.wakeEn 2 = true →
      (s.mode = 1 → t.power.transition = some { target := 3 }) ∧ (s.mode = 2 → t.power.transition = some { target := 6 }) ∧
      (s.mode ∈ [1, 2] → s.rd Obj.PWR_WAKE_CAUSE.f = 0 → t.rd Obj.PWR_WAKE_CAUSE.f = 3))) ∧
    (s.mode = 2 → s.power.transition = none → s.wakeEn 3 = true → s.failed 5 = false → Completes (.tcpSynWake now) s fun t =>
      t.power.transition = some { target := 6 } ∧ (s.rd Obj.PWR_WAKE_CAUSE.f = 0 → t.rd Obj.PWR_WAKE_CAUSE.f = 4) ∧
      Kept [Obj.PWR_WAKE_CAUSE.f] s t))

/-! ### Life cycle (spec/16) -/

/-- R386, R387, R390, R393, R396, R397, R399, R400: the life-cycle commands. An accepted promotion changes the state or reports that
the fuses failed, ends every session and leads to M3; the debug unlock turns on its signature alone once all else is in place.
Rests on the model's choices in logs 10, 24 and 47. -/
def Obligations.LifeCycleCommands : Prop :=
  ∀ (f : Frame) (s : State) (x : Session), Admitted s f x → let now := max s.floorTime f.arrival
    (x.comp = 0 → s.mode ∈ [5, 8] → s.rd Obj.UPD_STATE.f ∉ [6, 7] → s.power.transition = none → s.upd.owner = none →
      s.upd.activateAt = none → s.upd.step = 0 → s.upd.resetAt = none → s.lcy.jumper = false → s.d2 = false → s.castlings = [] →
      ∀ target : Nat, f.payload = le 1 target ++ le 3 0 ++ s.identity → (s.lcy.state, target) ∈ [(1, 2), (2, 3), (2, 5), (3, 4), (3, 5), (4, 5)] →
      (s.lcy.windowAt = none → Completes (.cmdLcyPromote f) s fun t => Untouched s t ∧ Answers s t f x 0x0901 0x0030 []) ∧
      (s.lcy.windowAt ≠ none → Completes (.cmdLcyPromote f) s fun t => t.sessions = [] ∧
        t.power.transition = some { target := 3 } ∧ t.lcy.accepted = (s.lcy.state, now, (s.advance f.arrival).rtc.ticks) ∧
        ((t.lcy.state = target ∧ Out.resp f.conn 0 f.seq.toNat 0x0901 0 (le 1 target ++ le 3 0) ∈ t.sent) ∨
         (t.lcy.state = s.lcy.state ∧ Out.resp f.conn 0 f.seq.toNat 0x0901 0xFF [] ∈ t.sent)))) ∧
    (x.comp = 0 → 5 ≤ s.mode → s.mode ≤ 8 → s.lcy.windowAt ≠ none →
      (f.payload = [] → s.lcy.loopIntact = true → s.rd Obj.LCY_SEAL_LATCH_OPEN.f = 1 → Completes (.cmdLcySealAck f) s fun t =>
        t.rd Obj.LCY_SEAL_LATCH_OPEN.f = 0 ∧ t.rd Obj.LCY_SEAL_ACKED.f = 1 ∧ Logged s t 0 0x0902 [] ∧ Logged s t 1 0x0902 [] ∧
        Answers s t f x 0x0903 0 (le 4 ((t.wordAt 0 0x80010).getD 0))) ∧
      (f.payload = [] → s.lcy.loopIntact = false → Completes (.cmdLcySealAck f) s fun t => Untouched s t ∧
        Answers s t f x 0x0903 0x0041 (detailRecord 0x0908 0 0)) ∧
      (∀ m : Nat, 1 ≤ m → m ≤ 480 → f.payload = le 2 m ++ le 2 0 → Completes (.cmdLcyUsbEnable f) s fun t =>
        t.lcy = { s.lcy with usbUntil := some (now + 60000000000 * m) } ∧ Answers s t f x 0x0904 0 (le 8 (now + 60000000000 * m)) ∧
        Logged s t 0 0x0908 (le 1 1 ++ le 7 0 ++ le 8 (now + 60000000000 * m)))) ∧
    (x.comp = 0 → 5 ≤ s.mode → s.mode ≤ 8 → f.payload = [] → Completes (.cmdLcyUsbDisable f) s fun t => t.lcy.usbUntil = none ∧
      Out.resp f.conn 0 f.seq.toNat 0x0905 0 [] ∈ t.sent) ∧
    (x.comp = 0 → s.mode = 11 → Nonce f.payload 0 → s.slotState s.attestSlot = 1 → Completes (.cmdLcyRetireStatement f) s fun t =>
      Signed s t f x 0x0906 3) ∧
    (x.comp = 0xFF → s.mode ∈ [5, 8] → s.lcy.state ∈ [1, 2, 4] →
      (f.payload = [] → Completes (.cmdLcyDebugChallenge f) s fun t => ∃ n, t.lcy = { s.lcy with nonce := some (n % 2 ^ 256, now) } ∧
        Answers s t f x 0x0907 0 (le 32 n)) ∧
      (∀ t0, let p := f.payload
        p.length = 160 → field p 0 4 = 0x55445841 → field p 4 2 = 1 → field p 6 1 ≤ 31 → field p 7 1 = s.lcy.state →
        (p.drop 8).take 16 = s.identity → field p 0x38 8 = 0 → s.lcy.windowAt ≠ none → s.lcy.loopIntact = false →
        s.lcy.jumper = false → s.lcy.nonce = some (field p 0x18 32, t0) → now ≤ t0 + 300000000000 →
        (s.lcy.state = 2 → s.tenants = []) → Completes (.cmdLcyDebugUnlock f) s fun t =>
          if Config.ecdsaVerify Config.serviceKey (sha384 (p.take 0x40)) (p.drop 0x40) = true then
            t.rd Obj.LCY_DEBUG.f = 2 ∧ t.rd Obj.LCY_DEBUG_SCOPE.f = field p 6 1 ∧ t.rd Obj.LCY_EVT_D2_GRANTED.f = 1 ∧
            t.lcy.nonce = none ∧ Answers s t f x 0x0908 0 (le 1 (field p 6 1) ++ le 3 0) ∧
            (s.lcy.state = 2 → ∀ k, k < 256 → k ∈ [2, 3, 5] → s.slotState k ≠ 0 → t.slotState k = 3)
          else Untouched s t ∧ Answers s t f x 0x0908 0x0052 []))

/-- R38, R391 to R395, R398, R400, R466: presence, seal loop, CONFIG LOCK, D1, the end of the timed USB enabling, and the debug
port's pins. Rests on the model's choices in logs 20, 24 and 47. -/
def Obligations.LifeCycleEvents : Prop :=
  ∀ (now : Nat) (s : State), let a := s.advance now
    (s.mode = 0 → Completes (.presencePress now) s fun t => OneField s t Obj.LCY_PRESENCE_PRESSED_OFF.f 1 ∧ t.lcy = s.lcy) ∧
    (s.mode ≠ 0 → Completes (.presencePress now) s fun t => t.lcy = { s.lcy with pressedAt := some a.floorTime, held := false } ∧
      Kept [Obj.PWR_WAKE_CAUSE.f] s t) ∧
    (Completes (.presenceRelease now) s fun t => t = { a with lcy := { s.lcy with pressedAt := none, held := false, windowDue := t.lcy.windowDue } } ∧
      (∀ p, s.lcy.pressedAt = some p → p + 3000000000 ≤ a.floorTime → s.lcy.held = false → t.lcy.windowDue = true) ∧
      (s.lcy.pressedAt = none → t.lcy.windowDue = s.lcy.windowDue)) ∧
    (s.serves = true → s.lcy.windowAt = none → (∀ p, s.lcy.pressedAt = some p → p + 3000000000 ≤ a.floorTime → s.lcy.held = false →
      Completes (.presenceWindowOpen now) s fun t => t.lcy.windowAt = some a.floorTime ∧
        t.rd Obj.LCY_PRESENCE_OPENS.f = (s.rd Obj.LCY_PRESENCE_OPENS.f + 1) % 2 ^ 32 ∧ Logged s t 0 0x0904 [])) ∧
    (s.serves = true → s.lcy.windowAt = none → s.lcy.windowDue = false → s.lcy.pressedAt = none →
      Completes (.presenceWindowOpen now) s fun t => t = a) ∧
    (∀ w, s.lcy.windowAt = some w → w + 120000000000 ≤ a.floorTime → Completes (.presenceWindowClose now) s fun t =>
      t = { a with lcy := { s.lcy with windowAt := none } }) ∧
    ((∀ w, s.lcy.windowAt = some w → a.floorTime < w + 120000000000) → Completes (.presenceWindowClose now) s fun t => t = a) ∧
    (s.rd Obj.LCY_SEAL_LATCH_OPEN.f = 1 → Completes (.sealBreak now) s fun t => t = { a with lcy := { s.lcy with loopIntact := false } }) ∧
    (s.rd Obj.LCY_SEAL_LATCH_OPEN.f ≠ 1 → Completes (.sealBreak now) s fun t => t.lcy = { s.lcy with loopIntact := false } ∧
      t.rd Obj.LCY_SEAL_LATCH_OPEN.f = 1 ∧ t.rd Obj.LCY_SEAL_ACKED.f = 0 ∧ t.rd Obj.LCY_EVT_SEAL.f = 1 ∧
      t.rd Obj.LCY_SEAL_OPEN_TICKS.f = a.rtc.ticks % 2 ^ 64 ∧ t.rd Obj.LCY_SEAL_OPENS.f = (s.rd Obj.LCY_SEAL_OPENS.f + 1) % 2 ^ 32 ∧
      (2 ≤ s.mode → s.mode ≠ 10 → Logged s t 0 0x0901 [] ∧ Logged s t 1 0x0901 [])) ∧
    (Completes (.sealLoopIntact now) s fun t => t = { a with lcy := { s.lcy with loopIntact := true } }) ∧
    (∀ b : Bool, (b = s.lcy.jumper → Completes (.configLockChange b now) s fun t => t = a) ∧
      (b ≠ s.lcy.jumper → Completes (.configLockChange b now) s fun t => t.lcy = { s.lcy with jumper := b } ∧
        t.rd Obj.LCY_EVT_LOCK_CHANGED.f = 1 ∧ (2 ≤ s.mode → s.mode ≠ 10 → Logged s t 0 0x0903 (le 1 (b2n b))))) ∧
    (∀ u, s.lcy.usbUntil = some u → (u ≤ a.floorTime → Completes (.usbEnableExpiry now) s fun t => t.lcy.usbUntil = none) ∧
      (a.floorTime < u → Completes (.usbEnableExpiry now) s fun t => t = a)) ∧
    (∀ (who : Requester) (v : BitVec 34), s.live who = true → s.compOf who = 0 →
      (s.lcy.state ∈ [2, 3] → s.rd Obj.LCY_DEBUG.f ≠ 2 → Completes (.lcyD1EnWrite who v now) s fun t =>
        t.rd Obj.LCY_D1_EN.f = v.toNat ∧ t.rd Obj.LCY_DEBUG.f = (if v = 0 then 0 else 1)) ∧
      (s.lcy.state ∉ [2, 3] → Completes (.lcyD1EnWrite who v now) s fun t => t = a)) ∧
    (Completes (.debugProbeFit now) s fun t => t.lcy = { s.lcy with probe := true } ∧
      (2 ≤ s.mode → s.mode ≠ 10 → ∃ n, n < 256 ∧ Logged s t 0 (0x0900 + n) [])) ∧
    (s.d2 = true → 4 ≤ s.mode → s.mode ≤ 9 → s.power.transition = none → Completes (.debugSysrst now) s fun t => Begins a t 3 false) ∧
    (s.d2 = false → Completes (.debugSysrst now) s fun t => t = a) ∧
    (∀ halt : Bool, (s.d2 = true → Completes (.debugHalt halt now) s fun t =>
        t = { a with lcy := { s.lcy with halted := if halt then s.rd Obj.LCY_DEBUG_SCOPE.f else 0 } }) ∧
      (s.d2 = false → Completes (.debugHalt halt now) s fun t => t = a))

/-! ### Keys (spec/15) -/

/-- R369 to R374, R378 to R380: a Key Update Message waits for the KSE, which applies the oldest; what it does turns on the
signature alone once R372's other checks pass. The key authority, attestation and certification. Rests on the model's choices in
logs 10, 24 and 46. -/
def Obligations.KeyCommands : Prop :=
  (∀ (f : Frame) (s : State) (x : Session), Admitted s f x →
    (x.comp < 34 → 5 ≤ s.mode → s.mode ≤ 8 → s.rd Obj.UPD_STATE.f ≠ 6 → f.payload.length = 384 →
      field f.payload 0 4 = 0x554B5841 → field f.payload 4 2 = 1 → s.seesSlot x.comp (kumSlot f.payload) = true →
      (kumNamesParent f.payload = true → s.seesSlot x.comp (kumParent f.payload) = true) → kumOwner f.payload = x.comp →
      Completes (.cmdKeyUpdate f) s fun t => Waits s t f x 0x0801 (.held x.id x.expected) ∧ t.regs = s.regs ∧
        t.kse = { s.kse with jobs := s.kse.jobs ++ [⟨x.id, x.expected, x.comp, f.payload⟩] }) ∧
    (Nonce f.payload 0 → s.slotState s.attestSlot = 1 → s.lcy.state ≠ 0 → (4 ≤ s.mode ∧ s.mode ≤ 9) ∨ (s.mode = 11 ∧ x.comp = 0) →
      Completes (.cmdKeyAttest f) s fun t => Signed s t f x 0x0802 1) ∧
    (Nonce f.payload 1 → s.slotState s.attestSlot = 1 → s.lcy.state ≠ 0 → 4 ≤ s.mode → s.mode ≤ 9 → x.comp < 34 →
      let k := field f.payload 0 1
      s.seesSlot x.comp k = true → s.rd (Obj.KSE_SLOT_KTYPE.i k) ∈ [3, 4] →
      (s.slotState k = 1 → Completes (.cmdKeyCertify f) s fun t => Signed s t f x 0x0803 2) ∧
      (s.slotState k = 2 → Completes (.cmdKeyCertify f) s fun t => Untouched s t ∧ Answers s t f x 0x0803 0x0050 [])) ∧
    (x.comp = 0 → 5 ≤ s.mode → s.mode ≤ 8 → s.lcy.windowAt ≠ none → ∀ (key sig : Bytes) (ctr : Nat), key.length = 96 →
      sig.length = 96 → f.payload = key ++ le 8 ctr ++ sig → s.rd Obj.KSE_KA_CTR.f < ctr → ctr < 2 ^ 64 → onCurve key = true →
      let digest := sha384 (ascii "AXZ-KAS" ++ s.identity ++ le 1 s.lcy.state ++ key ++ le 8 ctr)
      (s.slotState 4 = 0 ∧ sig = List.replicate 96 0) ∨ s.slotState 4 = 1 → Completes (.cmdKeyAuthoritySet f) s fun t =>
        if s.slotState 4 = 0 ∨ Config.ecdsaVerify (s.slotKey 4) digest sig = true then
          Shows t 4 1 1 4 0xFF ∧ t.slotKey 4 = key ∧ t.rd Obj.KSE_KA_CTR.f = ctr ∧ t.rd Obj.KSE_KA_PRESENT.f = 1 ∧
          Out.resp f.conn 0 f.seq.toNat 0x0810 0 (le 8 ctr) ∈ t.sent ∧ Logged s t 0 0x0804 []
        else Untouched s t ∧ Answers s t f x 0x0810 0x0052 [])) ∧
  (∀ (now : Nat) (s : State) (j : KumJob) (r : List KumJob), s.kse.jobs = j :: r → KumPasses s j.kum →
    let m := j.kum
    let c := kumOwner m
    let k := kumSlot m
    Completes (.kumApply now) s fun t => t.kse.jobs = r ∧
      if Config.ecdsaVerify (s.slotKey 4) (sha384 (m.take 0x120)) (m.drop 0x120) = true then
        (∀ key, kumKind m ≤ 2 → s.kumKey m = .ok key → t.rd (Obj.KSE_CTR.b c) = kumCounter m ∧
          t.rd (Obj.KSE_EVT_UPDATED.b c) = 1 ∧ Shows t k 1 (kumUsage m) (kumKtype m) c ∧ t.slotKey k = key ∧
          t.rd (Obj.KSE_SLOT_CTR.i k) = kumCounter m) ∧
        (∀ d, kumKind m ≤ 2 → s.kumKey m = .error d → KeysStand s t) ∧
        (kumKind m = 3 → t.rd (Obj.KSE_CTR.b c) = kumCounter m ∧ t.slotState k = 0 ∧ t.slotKey k = [] ∧
          t.rd (Obj.KSE_SLOT_CTR.i k) = kumCounter m) ∧
        (kumKind m = 4 → t.rd (Obj.KSE_CTR.b c) = kumCounter m ∧ t.slotGen k = (s.slotGen k + 1) % 2 ^ 32)
      else KeysStand s t)

/-! ### Firmware update (spec/17) -/

/-- R404 to R408, R412, R413, R419: the update commands of the owner, of C00 and, in M4, of the vendor. Rests on the model's choices
in logs 24 and 48. -/
def Obligations.UpdateCommands : Prop :=
  ∀ (f : Frame) (s : State) (x : Session), Admitted s f x → let now := max s.floorTime f.arrival
    ((x.comp = 0 ∨ (x.comp = 0xFF ∧ s.mode = 4)) → 4 ≤ s.mode → s.mode ≤ 8 → s.rd Obj.UPD_STATE.f ∉ [5, 6, 7] → s.upd.owner = none →
      s.lcy.jumper = false → s.failed 15 = false → 64 ≤ f.payload.length → f.payload.length = 64 + 96 * pkgCount f.payload →
      (s.openDetail f.payload = none → Completes (.cmdUpdOpen f) s fun t => t.upd.owner = some x.id ∧ t.upd.lastCmd = now ∧
        t.upd.manifest = f.payload ∧ t.rd Obj.UPD_STATE.f = 1 ∧ Logged s t 0 0x0A01 [] ∧
        ∃ n, Answers s t f x 0x0A01 0 (le 4 n ++ le 4 (t.rd Obj.UPD_BLOCKS_MISSING.f))) ∧
      (∀ d, s.openDetail f.payload = some d → Completes (.cmdUpdOpen f) s fun t => Untouched s t ∧ t.upd.owner = none ∧
        Answers s t f x 0x0A01 0x0041 (detailRecord d 0 0))) ∧
    (OwnsIdle s x → ∀ (off : Nat) (data : Bytes), off < 2 ^ 32 → f.payload = le 4 off ++ le 4 data.length ++ data → data.length < 2 ^ 32 →
      (blockOk off data.length (pkgSize s.upd.manifest) = true → Completes (.cmdUpdBlock f) s fun t => t.rd Obj.UPD_STATE.f = 1 ∧
        (∀ i, memGet t.upd.data i = if off ≤ i ∧ i < off + data.length then data.getD (i - off) 0 else memGet s.upd.data i) ∧
        (∀ u, off / 4096 ≤ u → 4096 * u < off + data.length → t.unitWritten u = true) ∧ t.upd.lastCmd = now ∧
        Answers s t f x 0x0A02 0 (le 4 (t.rd Obj.UPD_BLOCKS_MISSING.f))) ∧
      (blockOk off data.length (pkgSize s.upd.manifest) = false → Completes (.cmdUpdBlock f) s fun t => Untouched s t ∧
        t.upd.data = s.upd.data ∧ Answers s t f x 0x0A02 0x0022 [])) ∧
    ((x.comp = 0 ∨ (x.comp = 0xFF ∧ s.mode = 4)) → 4 ≤ s.mode → s.mode ≤ 8 → s.upd.owner = none ∨ s.upd.owner = some x.id →
      ∀ first n : Nat, 0 < n → first + n ≤ 131072 → f.payload = le 4 first ++ le 4 n → Completes (.cmdUpdStatus f) s fun t =>
        Untouched s t ∧ ∃ p, Answers s t f x 0x0A03 0 p ∧ p.length = 44 + (n + 7) / 8 ∧
        ∀ j, j < n → ((p.drop 44).getD (j / 8) 0).getLsbD (j % 8) = s.unitWritten (first + j)) ∧
    (OwnsIdle s x → f.payload = [] → Completes (.cmdUpdVerify f) s fun t => Waits s t f x 0x0A04 .updVerify ∧
      OneField s t Obj.UPD_STATE.f 2) ∧
    (OwnsUpd s x → s.upd.lastOwner ≠ some x.id → ∀ b : Bool, f.payload = le 1 (b2n b) ++ le 3 0 → Completes (.cmdUpdAbort f) s fun t =>
      t.upd.owner = none ∧ t.upd.activateAt = none ∧ t.rd Obj.UPD_STATE.f = 0 ∧ (b = true → t.upd.manifest = []) ∧
      (b = false → t.upd.manifest = s.upd.manifest ∧ t.upd.data = s.upd.data) ∧ AnswersLast s t f x 0x0A05 0 []) ∧
    (OwnsUpd s x → s.rd Obj.UPD_STATE.f = 3 → s.castlings = [] → ∀ tU limit : Nat, 60 ≤ limit → limit ≤ 86400 → tU < 2 ^ 64 →
      f.payload = le 8 tU ++ le 4 limit ++ le 4 0 →
      (s.mode ≠ 4 → pkgForerunner s.upd.manifest = false → tU % 1000000 = 0 → now + 1000000000 ≤ tU → tU ≤ now + 86400000000000 →
        Completes (.cmdUpdActivate f) s fun t => Waits s t f x 0x0A06 .updActivate ∧ t.upd.activateAt = some tU ∧
          t.upd.limit = limit ∧ OneField s t Obj.UPD_STATE.f 4) ∧
      (s.mode = 4 ∨ pkgForerunner s.upd.manifest = true → tU = 0 → s.upd.recv ≤ 1 → Completes (.cmdUpdActivate f) s fun t =>
        t.rd Obj.UPD_STATE.f = (if pkgForerunner s.upd.manifest then 6 else 5) ∧ t.rd Obj.UPD_STATE_ACTIVE_SLOT.f = s.upd.recv ∧
        t.upd.resetAt = some now ∧ t.upd.owner = none ∧ Answers s t f x 0x0A06 0 (le 8 now))) ∧
    (FreeUpd s x → f.payload = [] →
      (s.rd Obj.UPD_STATE.f = 5 → ¬ Overdue s → Completes (.cmdUpdConfirm f) s fun t => t.rd Obj.UPD_STATE.f = 0 ∧
        t.upd.deadline = none ∧ t.rd (Obj.UPD_SLOT_TRIAL.i s.active) = 0 ∧
        t.rd Obj.UPD_SEC_M.f = s.rd (Obj.UPD_SLOT_SEC_MINOR.i s.active) % 2 ^ 32 ∧
        t.rd Obj.UPD_SEC_F.f = max (s.rd Obj.UPD_SEC_F.f) (s.rd (Obj.UPD_SLOT_SEC_MAJOR.i s.active)) % 2 ^ 7 ∧
        Answers s t f x 0x0A07 0 (le 1 (t.rd Obj.UPD_SEC_F.f) ++ le 3 0 ++ le 4 (t.rd Obj.UPD_SEC_M.f))) ∧
      (s.rd Obj.UPD_STATE.f ∉ [5, 6] → Completes (.cmdUpdConfirm f) s fun t => Untouched s t ∧
        Answers s t f x 0x0A07 0x0041 (detailRecord 0x0A46 0 0)) ∧
      (s.rd Obj.UPD_STATE.f ∈ [5, 6] → Completes (.cmdUpdFallback f) s fun t => t.upd.cause = 2 ∧ AnswersLast s t f x 0x0A09 0 [] ∧
        (s.rd Obj.UPD_STATE.f = 6 ∨ s.upd.wasReset = true ∨ pkgCarries s.upd.manifest 2 = true →
          t.rd Obj.UPD_STATE.f = 7 ∧ t.upd.resetAt = some now ∧ t.rd Obj.UPD_STATE_ACTIVE_SLOT.f = 1 - s.active)) ∧
      (s.rd Obj.UPD_STATE.f ∉ [5, 6] → Completes (.cmdUpdFallback f) s fun t => Untouched s t ∧
        Answers s t f x 0x0A09 0x0041 (detailRecord 0x0A46 0 0)) ∧
      (s.lcy.windowAt ≠ none → Completes (.cmdUpdRecoveryEnter f) s fun t => t.power.recovery = true ∧
        t.power.transition = some { target := 3 } ∧ Answers s t f x 0x0A10 0 [] ∧ Kept [] s t))

/-- R405, R407, R409, R410, R413, R415, R416, R419, R420: verification, the activation's instants and limits, the sealed move, and
recovery. Rests on the model's choices in logs 20, 24, 48 and 49. -/
def Obligations.UpdateEvents : Prop :=
  ∀ (now : Nat) (s : State), let a := s.advance now
    (s.upd.owner ≠ none → (s.upd.lastCmd + 600000000000 ≤ a.floorTime → Completes (.updOwnerTimeout now) s fun t =>
        t.upd.owner = none ∧ t.upd.manifest = s.upd.manifest ∧ t.rd Obj.UPD_STATE.f = 0) ∧
      (a.floorTime < s.upd.lastCmd + 600000000000 → Completes (.updOwnerTimeout now) s fun t => t = a)) ∧
    (s.rd Obj.UPD_STATE.f = 2 → s.upd.recv ≤ 1 → Completes (.updVerifyDone now) s fun t =>
      (s.rd Obj.UPD_BLOCKS_MISSING.f ≠ 0 → t.rd Obj.UPD_STATE.f = 1) ∧
      (∀ st p, s.verifyFail = some (.fail st p) → t.rd Obj.UPD_STATE.f = 1 ∧
        ∀ k, k ≤ 1 → t.rd (Obj.UPD_SLOT_VALID.i k) = s.rd (Obj.UPD_SLOT_VALID.i k)) ∧
      (s.verifyFail = none → t.rd Obj.UPD_STATE.f = 3 ∧ t.rd (Obj.UPD_SLOT_VALID.i s.upd.recv) = 1 ∧
        t.rd Obj.UPD_BUILD_LO.f = field s.buildHash 0 4)) ∧
    (∀ tU, s.upd.activateAt = some tU → (tU ≤ a.floorTime → s.upd.recv ≤ 1 → Completes (.updActivation now) s fun t =>
        t.rd Obj.UPD_STATE.f = (if pkgForerunner s.upd.manifest then 6 else 5) ∧ t.rd Obj.UPD_STATE_ACTIVE_SLOT.f = s.upd.recv ∧
        t.rd (Obj.UPD_SLOT_TRIAL.i s.upd.recv) = 1 ∧ t.upd.owner = none ∧ t.upd.lastOwner = s.upd.owner ∧ t.upd.activateAt = none ∧
        ∀ p, s.stepPart 1 = some p → p.id ≠ 2 → t.upd.step = 1 ∧ t.upd.stepAt = a.floorTime) ∧
      (a.floorTime < tU → Completes (.updActivation now) s fun t => t = a)) ∧
    (∀ (p : PkgPart) (v : Nat), s.upd.step ≠ 0 → s.stepPart s.upd.step = some p → s.upd.back = false →
      (v = p.part.version → Completes (.updStepDone v now) s fun t => t.runs p.id = p.part ∧
        t.upd.switched = s.upd.step :: s.upd.switched ∧ Logged s t 0 0x0A04 (le 1 p.id ++ le 1 1 ++ le 2 v)) ∧
      (v ≠ p.part.version → Completes (.updStepDone v now) s fun t => t = a) ∧
      (s.upd.stepAt + stepLimit p.id ≤ a.floorTime → Completes (.updStepTimeout now) s fun t => t.upd.cause = 3 ∧
        Logged s t 0 0x0A04 (le 1 p.id ++ le 1 0 ++ le 2 p.part.version)) ∧
      (a.floorTime < s.upd.stepAt + stepLimit p.id → Completes (.updStepTimeout now) s fun t => t = a)) ∧
    (∀ r, s.upd.resetAt = some r → r ≤ a.floorTime → Completes (.updReset now) s fun t =>
      Begins { a with upd := { s.upd with resetAt := none, wasReset := true } } t 3 false) ∧
    (s.rd Obj.UPD_STATE.f = 5 → (Overdue s → Completes (.trialExpiry now) s fun t => t.upd.cause = 1) ∧
      (¬ Overdue s → Completes (.trialExpiry now) s fun t => t = a)) ∧
    (s.rd Obj.UPD_STATE.f = 6 → (Overdue s → Completes (.adjournExpiry now) s fun t => t.upd.cause = 1 ∧
        t.rd Obj.UPD_STATE.f = 7 ∧ t.upd.resetAt = some a.floorTime) ∧
      (¬ Overdue s → Completes (.adjournExpiry now) s fun t => t = a)) ∧
    (s.rd Obj.UPD_STATE.f ∈ [5, 6] → (s.upd.resumed = false → s.upd.bootAt + 300000000000 ≤ a.floorTime →
        Completes (.bootResumeTimeout now) s fun t => t.upd.cause = 4) ∧
      (s.upd.resumed = true → Completes (.bootResumeTimeout now) s fun t => t = a)) ∧
    (∀ (who : Requester) (v : BitVec 32), s.live who = true → s.compOf who = 0 → ¬ Overdue s →
      (s.rd Obj.UPD_STATE.f ≠ 6 → Completes (.updSealedMove who v now) s fun t => t = a) ∧
      (s.rd Obj.UPD_STATE.f = 6 → a.sealTimeOk = true → s.sealPliesOk = true → let lo := field (s.fwSlot s.active).build 0 4
        let armed : Prop := ∃ u, s.upd.armedAt = some u ∧ a.floorTime ≤ u + 10000000
        (v.toNat = lo → Completes (.updSealedMove who v now) s fun t => t = { a with upd := { s.upd with armedAt := some a.floorTime } }) ∧
        (v.toNat = 2 ^ 32 - 1 - lo → armed → Completes (.updSealedMove who v now) s fun t => t.rd Obj.UPD_STATE.f = 0 ∧
          t.rd (Obj.UPD_SLOT_TRIAL.i s.active) = 0 ∧ t.rd Obj.UPD_EVT_CONFIRMED.f = 1) ∧
        (v.toNat ≠ lo → ¬ (v.toNat = 2 ^ 32 - 1 - lo ∧ armed) → Completes (.updSealedMove who v now) s fun t =>
          t.upd.armedAt = none ∧ OneField s t Obj.UPD_SEAL_BAD.f ((s.rd Obj.UPD_SEAL_BAD.f + 1) % 2 ^ 32)))) ∧
    (s.mode = 4 → Completes (.recoveryBeacon now) s fun t => t.regs = s.regs ∧
      ∃ p : Bytes, p.length = 2 ∧ t.sent = s.sent ++ [Out.beacon (s.identity ++ [0xA9, 0xFE] ++ p)]) ∧
    (s.mode = 4 → s.upd.owner = none → s.upd.lastFrame + 1800000000000 ≤ a.floorTime →
      (∀ x ∈ s.sessions, x.lastFrame + 1800000000000 ≤ a.floorTime) → Completes (.recoveryIdleExit now) s fun t => Begins a t 3 false) ∧
    (s.mode ≠ 4 ∨ s.upd.owner ≠ none → Completes (.recoveryIdleExit now) s fun t => t = a)

/-! ### Event recorder (spec/14) -/

/-- R346, R349, R351, R353, R354, R357 to R359: writing a queued record, watch entries, the record window, and the commands. Rests
on the model's choices in logs 4, 24, 25, 44 and 45. -/
def Obligations.EventRecorder : Prop :=
  (∀ (now : Nat) (s : State) (p : EvPend) (r : List EvPend), s.failed 10 = false → s.evr.pend = p :: r →
    let c := p.comp
    let seq := nextSeq (s.newest c)
    let g := s.evLog c
    let full := s.rd (Obj.EVR_FIRST_FULL.b c) = 1 ∨ 64 * s.firstBlk c ≤ g.first.length
    Completes (.evrRecordWrite now) s fun t => t.newest c = seq ∧ (∃ l, t.evr.pend = r ++ l) ∧
      (¬ full → (t.evLog c).first = g.first ++ [(seq, p.body)] ∧ (t.evLog c).last = g.last) ∧
      (full → (t.evLog c).first = g.first ∧
        (t.evLog c).last = (g.last ++ [(seq, p.body)]).drop (g.last.length + 1 - 64 * s.lastBlk c)) ∧
      (∀ d, d ≠ c → d < 34 → t.newest d = s.newest d ∧ (t.evLog d).first = (s.evLog d).first ∧ (t.evLog d).last = (s.evLog d).last) ∧
      (∀ x ∈ s.sessions, x.comp = c → p.body.trigger < 0x1000 → bit x.mask (p.body.trigger / 256) = true → x.notices.length < 64 →
        ∃ y ∈ t.sessions, y.id = x.id ∧ y.notices.length = x.notices.length + 1)) ∧
  (∀ (c now : Nat) (tt : Fin 16) (s : State) (w : Nat), s.failed 10 = false → s.exists? c = true → s.mode ∈ [2, 5, 6, 7, 8, 9] →
    s.floorTime ≤ now → now % 1000000 = 0 →
    (∀ n, n < 16 → s.rd (Obj.EVR_WATCH_CFG_ENABLE.bi c n) = if n = tt.val then 1 else 0) →
    (s.evr.watch.get {} (16 * c + tt.val)).prev = some w →
    let x := (((s.advance now).peek c (s.rd (Obj.EVR_WATCH_ADDR.bi c tt.val))).getD 0) &&& s.rd (Obj.EVR_WATCH_MASK.bi c tt.val)
    let fires := watchFires (s.rd (Obj.EVR_WATCH_CFG_COND.bi c tt.val)) (s.rd (Obj.EVR_WATCH_VALUE.bi c tt.val)) w x
    (fires = true → (s.evr.watch.get {} (16 * c + tt.val)).holdEnd ≤ now → Completes (.watchEval c now) s fun t =>
      t.rd (Obj.EVR_WATCH_LAST_TIME.bi c tt.val) = now % 2 ^ 64 ∧
      t.rd (Obj.EVR_WATCH_HITS.bi c tt.val) = (s.rd (Obj.EVR_WATCH_HITS.bi c tt.val) + 1) % 2 ^ 32 ∧
      t.evr.watch.get {} (16 * c + tt.val) = { prev := some x, holdEnd := now + s.rd (Obj.EVR_WATCH_CFG_HOLDOFF.bi c tt.val) * 1000000 } ∧
      Logged s t c 0x0702 (le 1 tt.val ++ le 3 0 ++ le 4 w ++ le 4 x)) ∧
    (fires = false ∨ now < (s.evr.watch.get {} (16 * c + tt.val)).holdEnd → Completes (.watchEval c now) s fun t =>
      t.regs = s.regs ∧ t.evr.pend = s.evr.pend ∧ (t.evr.watch.get {} (16 * c + tt.val)).prev = some x)) ∧
  (∀ (c now : Nat) (tt : Fin 16) (s : State), let w := s.evr.watch.get {} (16 * c + tt.val)
    (w.holdEnd ≠ 0 → w.holdEnd ≤ max s.floorTime now → Completes (.watchHoldoffEnd c tt now) s fun t =>
      t.evr.watch.get {} (16 * c + tt.val) = { w with holdEnd := 0 } ∧ t.regs = s.regs) ∧
    (max s.floorTime now < w.holdEnd → Completes (.watchHoldoffEnd c tt now) s fun t => t = s.advance now)) ∧
  (∀ (who : Requester) (n : Fin 64) (s : State), let c := s.compOf who
    Completes (.evrRecRead who n) s fun t => t = { s with sent := s.sent ++
      [if s.failed 10 then Out.word who (0x31000 + 4 * n.val) 0x0060 0
       else if s.exists? c = false then Out.word who (0x31000 + 4 * n.val) 0x0020 0
       else match s.recWord c n.val with
        | some v => Out.word who (0x31000 + 4 * n.val) 0 v
        | none => Out.word who (0x31000 + 4 * n.val) 0x0024 0] }) ∧
  (∀ (f : Frame) (s : State) (x : Session), Admitted s f x → Hosted s x → s.failed 10 = false →
    (∀ area from_ n : Nat, area ≤ 1 → from_ < 2 ^ 32 → 1 ≤ n → n ≤ 64 → f.payload = le 1 area ++ le 3 0 ++ le 4 from_ ++ le 2 n ++ le 2 0 →
      let oldest := if area = 0 then s.rd (Obj.EVR_FIRST_BASE.b x.comp) else s.rd (Obj.EVR_LAST_OLDEST.b x.comp)
      let held := if area = 0 then (s.evLog x.comp).first else (s.evLog x.comp).last
      let l := (held.filter fun r => ! seqAfter from_ r.1).take n
      (seqAfter oldest from_ = false → Reports (.cmdEvtRead f) s f x 0x0701
        (le 2 l.length ++ le 2 0 ++ l.flatMap fun r => r.2.bytes r.1 (area == 0))) ∧
      (seqAfter oldest from_ = true → Completes (.cmdEvtRead f) s fun t => Untouched s t ∧
        Answers s t f x 0x0701 0x0024 (detailRecord 0 0 0x3000C))) ∧
    (∀ mask : Nat, mask < 2 ^ 16 → f.payload = le 2 mask ++ le 2 0 → Completes (.cmdEvtSubscribe f) s fun t => Untouched s t ∧
      Answers s t f x 0x0702 0 [] ∧ ∃ y, t.session x.id = some y ∧ y.mask = mask) ∧
    (∀ c area : Nat, c < 34 → area ≤ 1 → f.payload = le 1 c ++ le 1 area ++ le 2 0 → s.exists? c = true → (x.comp = 0 ∨ (c = x.comp ∧ area = 1)) →
      let g := s.evLog c
      Completes (.cmdEvtWipe f) s fun t => (t.evLog c).first = (if area = 0 then [] else g.first) ∧
        (t.evLog c).last = (if area = 1 then [] else g.last) ∧ t.newest c = s.newest c ∧
        Answers s t f x 0x0703 0 (le 4 (if area = 0 then g.first.length else g.last.length)) ∧
        (s.evr.pend.length < 8 → ∃ e, t.evr.pend = e :: s.evr.pend ∧ e.comp = c ∧ e.body.trigger = 0x0705)))

/-! ### Castling (spec/04) -/

/-- R101, R102, R105 to R110: check, commit and abort. A check runs on the staging as it stands and answers the first rule that
fails, or a token and the lead; a commit with the token and a fit instant empties the staging and pends; an abort discards the
staging, or takes the part out while its instant is more than 1 ms away. Rests on the model's choices in logs 9, 24 and 30. -/
def Obligations.CastCommands : Prop :=
  (∀ (f : Frame) (s : State) (x : Session), Admitted s f x → x.comp < 34 → 5 ≤ s.mode → s.mode ≤ 9 →
    let c := x.comp
    let g := s.staging c
    let now := max s.floorTime f.arrival
    (f.payload = [] → s.failed 14 = false →
      (g.state = 0 → Checked (.cmdCastCheck f) s f x 0x0302 0x0119) ∧
      (g.state = 2 → Checked (.cmdCastCheck f) s f x 0x0302 0x011A) ∧
      (g.state ≠ 0 → g.state ≠ 2 → Completes (.cmdCastCheck f) s fun t => Waits s t f x 0x0302 (.castCheck c) ∧
        t.staging c = { g with state := 2 } ∧ t.rd (Obj.CAST_STAGE_STATE.b c) = 2 ∧ Kept (stageFields c) s t)) ∧
    (∀ tC token : Nat, tC < 2 ^ 64 → token < 2 ^ 32 → ∀ ovr : Bool, (ovr = true → c = 0) →
      f.payload = le 8 tC ++ le 4 token ++ le 4 (b2n ovr) →
      let b := accepted s f x 0x0303 false
      let p := stagedPart s c
      let i : Instr := .cmdCastCommit f
      (s.mode = 9 ∨ s.activating = true → Reports' i s f x 0x0303 0x0040) ∧
      (MayCommit s → (g.state ≠ 3 ∨ g.token ≠ token) → Checked i s f x 0x0303 0x0114) ∧
      (MayCommit s → g.state = 3 → g.token = token →
        (s.hasPending c = true → Checked i s f x 0x0303 0x0115) ∧
        (s.hasPending c = false → ¬ (tC % 1000000 = 0 ∧ now + max 2000000 (1000 * g.lead) ≤ tC ∧ tC ≤ now + 86400000000000) →
          Reports' i s f x 0x0303 0x0022) ∧
        (s.hasPending c = false → tC % 1000000 = 0 → now + max 2000000 (1000 * g.lead) ≤ tC → tC ≤ now + 86400000000000 →
          (16 ≤ s.castlings.length → Reports' i s f x 0x0303 0x0061) ∧
          (s.castlings.length < 16 → ovr = false →
            (b.judgeCommit s.castlings p tC = none → Completes i s fun t =>
              let id := ((s.castlings.find? fun h => h.tC == tC).map (·.id)).getD s.castNext
              t.castlings = insertPart s.castNext tC p s.castlings ∧ t.staging c = {} ∧ t.rd (Obj.CAST_STAGE_STATE.b c) = 0 ∧
              t.rd (Obj.CAST_PEND_INSTANT.b c) = tC ∧ t.rd (Obj.CAST_PEND_ID.b c) = id % 2 ^ 32 ∧
              Answers s t f x 0x0303 0 (le 4 id ++ le 8 tC)) ∧
            (∀ y, b.judgeCommit s.castlings p tC = some y → Completes i s fun t => t.castlings = s.castlings ∧
              t.stagings = s.stagings ∧ Kept [Obj.CAST_CHECK_DETAIL.b c, Obj.CAST_CHECK_ADDR.b c] s t ∧
              Answers s t f x 0x0303 0x0041 (detailRecord y.code (b.failureAt c y).1 (b.failureAt c y).2))) ∧
          (∀ l, s.castlings.length < 16 → ovr = true → b.overrideList p tC 17 s.castlings = some l → Completes i s fun t =>
            t.castlings = insertPart s.castNext tC p l ∧ t.staging c = {} ∧ ∃ id, AnswersLast s t f x 0x0303 0 (le 4 id ++ le 8 tC))))) ∧
    (f.payload = le 1 0 ++ le 3 0 →
      (g.state = 0 → Reports (.cmdCastAbort f) s f x 0x0304 []) ∧
      (g.state ≠ 0 → Completes (.cmdCastAbort f) s fun t => t.staging c = {} ∧ t.castlings = s.castlings ∧
        AnswersLast s t f x 0x0304 0 [])) ∧
    (f.payload = le 1 1 ++ le 3 0 →
      (s.hasPending c = false → Checked (.cmdCastAbort f) s f x 0x0304 0x0118) ∧
      (∀ h, s.castlings.find? (fun h => h.parts.any fun p => p.comp == c) = some h →
        (h.tC ≤ now + 1000000 → Checked (.cmdCastAbort f) s f x 0x0304 0x0117) ∧
        (now + 1000000 < h.tC → (∀ p ∈ h.parts, p.comp = c) → Completes (.cmdCastAbort f) s fun t =>
          t.castlings = s.castlings.filter (fun y => y.id != h.id) ∧ CastEnded t c h 3 ∧ t.stagings = s.stagings ∧
          Logged s t c 0x0301 (castDetail h.id 3 h.tC) ∧ AnswersLast s t f x 0x0304 0 [])))) ∧
  (∀ (c now : Nat) (s : State), c < 34 → let g := s.staging c
    let b := s.advance now
    (g.state = 2 → g.held = [] →
      let verdict := judgePart b (b.layAll (b.pendingParts b.horizon)) { comp := c, cells := g.cells, image := g.image, lead := 0 }
      (verdict = none → Completes (.castCheckDone c now) s fun t => ∃ token, let lead := leadOf g.cells g.image
        t.staging c = { g with state := 3, token := token % 2 ^ 32, lead := lead } ∧ t.rd (Obj.CAST_LEAD_MIN.b c) = lead % 2 ^ 32 ∧
        Finishes s t (.castCheck c) 0 (le 4 token ++ le 4 lead ++ le 4 g.bytes)) ∧
      (∀ y, verdict = some y → Completes (.castCheckDone c now) s fun t => let a := b.failureAt c y
        t.staging c = { g with state := 1 } ∧ t.rd (Obj.CAST_CHECK_DETAIL.b c) = y.code % 2 ^ 16 ∧
        t.rd (Obj.CAST_CHECK_ADDR.b c) = a.2 % 2 ^ 32 ∧ Finishes s t (.castCheck c) 0x0041 (detailRecord y.code a.1 a.2))) ∧
    (g.state ≠ 2 → Completes (.castCheckDone c now) s fun t => t = b))

/-- R111 to R113, R117: the instants of a Castling. Its units are armed 1 ms before; all switch where every armed unit has confirmed
half a millisecond before, and none where one has not; the MAE follows at its sample; then it is marked applied. Rests on the
model's choices in logs 20, 24 and 31. -/
def Obligations.CastInstants : Prop :=
  (∀ (now : Nat) (s : State) (g : Castling) (r : List Castling), s.castlings = g :: r → (∀ h ∈ r, h.id ≠ g.id) →
    let b := s.advance now
    (g.armed = none → g.tC ≤ b.floorTime + 1000000 → Completes (.castArm now) s fun t => ∃ us : List Nat,
      (∀ u, u ∈ us ↔ u < 6 ∧ b.changesUnit g u = true) ∧ t = { b with castlings := { g with armed := some us } :: r }) ∧
    (∀ us ok, g.armed = some us → g.confirmed = false → let d := s.advance (g.tC - 500000)
      ((∀ u ∈ us, u ∈ ok ∧ s.failed u = false) → Completes (.castConfirmDeadline ok) s fun t =>
        t = { d with castlings := { g with confirmed := true } :: r }) ∧
      (∀ p, g.parts = [p] → p.comp < 34 → (∃ u ∈ us, u ∉ ok ∨ s.failed u = true) → Completes (.castConfirmDeadline ok) s fun t =>
        t.castlings = r ∧ CastEnded t p.comp g 6 ∧ Logged s t p.comp 0x0301 (castDetail g.id 6 g.tC))) ∧
    (g.switched = true → g.maeDone = false → s.acq = false → Completes (.splitLatch now) s fun t =>
      ∃ l, t.castlings = { g with maeDone := true, recal := l } :: r) ∧
    (∀ p : CastPart, g.switched = true → g.maeDone = true → g.recal = [] → g.parts = [p] → p.comp < 34 →
      s.exists? p.comp = true → g.touched = [p.comp] → let result := if g.failed = [] then 1 else 2
      Completes (.castAppliedMark now) s fun t => t.castlings = r ∧ CastEnded t p.comp g result ∧
        t.rd Obj.CAST_GEN.f = (s.rd Obj.CAST_GEN.f + 1) % 2 ^ 32 ∧ Logged s t p.comp 0x0301 (castDetail g.id result g.tC) ∧
        Kept [Obj.CAST_GEN.f, Obj.EVR_DROPPED.b p.comp, Obj.EVR_EVT_DROPPED.b p.comp, Obj.CAST_LAST_RESULT.b p.comp,
          Obj.CAST_LAST_INSTANT.b p.comp, Obj.CAST_LAST_ID.b p.comp, Obj.CAST_PEND_INSTANT.b p.comp, Obj.CAST_PEND_ID.b p.comp,
          Obj.CAST_EVT_ENDED.b p.comp] s t)) ∧
  (∀ (now : Nat) (s : State) (g : Castling), s.castlings = [g] → g.confirmed = true → g.switched = false →
    (∀ x ∈ (s.advance now).castCells g, x.1.key ≠ Obj.CAST_COMP_EXIST.f.key) →
    let resets := ∃ x, s.power.transition = some x ∧ (x.target = 1 ∨ x.target = 3)
    (g.tC ≤ max s.floorTime now → ¬ resets → Completes (.castInstant now) s fun t =>
      (∃ h, t.castlings = [h] ∧ h.id = g.id ∧ h.tC = g.tC ∧ h.parts = g.parts ∧ h.switched = true) ∧ t.power.configured = true ∧
      ∀ v, (s.advance now).castCells g = [(Obj.PWR_M9_LIMIT.f, v)] → s.scan.progs = [] → s.sources = [] → s.kse.orphans = [] →
        (∀ p ∈ g.parts, p.image = none) →
        s.sessions = [] → t.rd Obj.PWR_M9_LIMIT.f = v % 2 ^ 32) ∧
    (max s.floorTime now < g.tC ∨ resets → Completes (.castInstant now) s fun t => t = s.advance now))

/-! ### Scan commands (spec/05, spec/06, spec/07) -/

/-- R134 to R138: starting, stopping, holding, resuming and stepping a program, and its status. Rests on the model's choice in log
33. -/
def Obligations.ScanCommands : Prop :=
  ∀ (f : Frame) (s : State) (x : Session), Admitted s f x → x.comp < 34 → 5 ≤ s.mode → s.mode ≤ 9 →
    let c := x.comp
    let now := max s.floorTime f.arrival
    let st := s.rd (Obj.SCE_STATE.b c)
    let b := accepted s f x
    (s.mode ≠ 9 → ∀ cold : Bool, f.payload = le 1 c ++ le 1 (b2n cold) ++ le 2 0 →
      (st ≠ 0 → Checked (.cmdScanStart f) s f x 0x0401 0x0401) ∧
      (st = 0 → s.mayRun c = true → Completes (.cmdScanStart f) s fun t => Waits s t f x 0x0401 (.start c) ∧
        t.rd (Obj.SCE_STATE.b c) = 1 ∧ t.rd (Obj.SCE_STATE_INTENT.b c) = 1 ∧
        (t.prog c).starting = some { at_ := now, cold := cold, byOwner := false } ∧
        Kept [Obj.SCE_STATE.b c, Obj.SCE_STATE_INTENT.b c] s t) ∧
      (st = 0 → s.mayRun c = false → Completes (.cmdScanStart f) s fun t => Answers s t f x 0x0401 0 (le 8 0 ++ le 1 (b2n cold)) ∧
        OneField s t (Obj.SCE_STATE_INTENT.b c) 1)) ∧
    (s.mode ≠ 9 → f.payload = le 1 c ++ le 3 0 →
      (st = 0 → Completes (.cmdScanStop f) s fun t => Answers s t f x 0x0402 0 (le 8 now ++ le 2 0) ∧
        OneField s t (Obj.SCE_STATE_INTENT.b c) 0) ∧
      (st = 5 → Checked (.cmdScanStop f) s f x 0x0402 0x0401) ∧
      (1 ≤ st → st ≤ 4 → Completes (.cmdScanStop f) s fun t => WaitsLast s t f x 0x0402 (.stop c) ∧
        t.rd (Obj.SCE_STATE.b c) = 5 ∧ t.rd (Obj.SCE_STOP_REASON.b c) = 1 ∧ t.scan.plies = s.scan.plies.filter (fun p => p.comp != c) ∧
        (s.rd (Obj.EXCH_STATE.b c) ≠ 2 → (∀ p ∈ s.outputPoints c, p < 8192) → t.rd (Obj.SCE_STATE_INTENT.b c) = 0))) ∧
    (s.mode ≠ 9 → s.d1 c = true → f.payload = [] →
      (st = 2 → (∀ p ∈ s.scan.plies, p.comp ≠ c) → Completes (.cmdScanHold f) s fun t => t.rd (Obj.SCE_STATE.b c) = 4 ∧
        AnswersLast s t f x 0x0403 0 (le 8 now)) ∧
      (st = 2 → (∃ p ∈ s.scan.plies, p.comp = c) → Completes (.cmdScanHold f) s fun t => OneField s t (Obj.SCE_STATE.b c) 3 ∧
        Waits s t f x 0x0403 (.hold c) ∧ t.scan.plies = s.scan.plies) ∧
      (st ≠ 2 → Checked (.cmdScanHold f) s f x 0x0403 0x0401) ∧
      (st = 4 → Completes (.cmdScanResume f) s fun t => t.rd (Obj.SCE_STATE.b c) = 2 ∧ AnswersLast s t f x 0x0404 0 (le 8 now) ∧
        ∀ e k, e < 2 → k < 16 → (t.task c e k).from_ = now + 1000000) ∧
      (st ≠ 4 → Checked (.cmdScanResume f) s f x 0x0404 0x0401)) ∧
    (s.mode ≠ 9 → s.d1 c = true → ∀ e k n : Nat, e ≤ 1 → k ≤ 15 → 1 ≤ n → n ≤ 16 → f.payload = le 1 e ++ le 1 k ++ le 1 n ++ le 1 0 →
      (s.enabledTask c e k ≠ none → st = 4 → (s.prog c).step = none → Completes (.cmdScanStep f) s fun t =>
        Waits s t f x 0x0405 (.step c e k) ∧ t.prog c = { s.prog c with step := some (e, k, n) } ∧ t.regs = s.regs) ∧
      (s.enabledTask c e k = none → Reports' (.cmdScanStep f) s f x 0x0405 0x0020)) ∧
    (s.d1 c = false → f.payload = [] → Reports' (.cmdScanHold f) s f x 0x0403 0x0019 ∧ Reports' (.cmdScanResume f) s f x 0x0404 0x0019 ∧
      Reports' (.cmdScanForceList f) s f x 0x0432 0x0019) ∧
    (s.mode = 9 → s.d1 c = true → Reports' (.cmdScanStart f) s f x 0x0401 0x0040 ∧ Reports' (.cmdScanStop f) s f x 0x0402 0x0040 ∧
      Reports' (.cmdScanHold f) s f x 0x0403 0x0040 ∧ Reports' (.cmdScanResume f) s f x 0x0404 0x0040 ∧
      Reports' (.cmdScanStep f) s f x 0x0405 0x0040 ∧ Reports' (.cmdScanForceSet f) s f x 0x0430 0x0040 ∧
      Reports' (.cmdScanForceClear f) s f x 0x0431 0x0040) ∧
    (f.payload = le 1 c ++ le 3 0 → Reports (.cmdScanStatus f) s f x 0x0406 ((b 0x0406 true).statusWords c))

/-- R100, R171, R172, R188: writing, verifying and dropping a staged image, and the plan of its exchange. Rests on the model's
choice in log 34. -/
def Obligations.ImageCommands : Prop :=
  ∀ (f : Frame) (s : State) (x : Session), Admitted s f x → x.comp < 34 → 5 ≤ s.mode → s.mode ≤ 9 →
    let c := x.comp
    let g := s.staging c
    (s.failed 14 = false → ∀ (off size : Nat) (data : Bytes), off < 2 ^ 32 → size < 2 ^ 32 → 0 < data.length → data.length ≤ 16352 →
      f.payload = le 4 off ++ le 4 size ++ data →
      let old := g.image.getD { size := size }
      let fits := 64 ≤ size ∧ size ≤ 12582912 ∧ old.size = size ∧ off + data.length ≤ size
      (g.state = 2 → Completes (.cmdScanImageWrite f) s fun t => t.sent = s.sent ∧ t.regs = s.regs ∧
        t.staging c = { g with held := g.held ++ [⟨x.id, f.seq.toNat, .image off size data⟩] }) ∧
      (g.state ≠ 2 → ¬ fits → Reports' (.cmdScanImageWrite f) s f x 0x0410 0x0022) ∧
      (g.state ≠ 2 → fits → s.stagingFits c { g with state := 1, image := some { size := size } } = true →
        Completes (.cmdScanImageWrite f) s fun t => ∃ d : ImageData, (t.staging c).image = some d ∧ (t.staging c).state = 1 ∧
          (t.staging c).cells = g.cells ∧ d.size = size ∧ d.verified = false ∧
          (∀ i, memGet d.data i = if off ≤ i ∧ i < off + data.length then data.getD (i - off) 0 else memGet old.data i) ∧
          t.rd (Obj.SCE_IMG_STG_SIZE.b c) = size ∧ t.rd (Obj.SCE_IMG_STG_STATE.b c) = (if d.missing = 0 then 2 else 1) ∧
          Answers s t f x 0x0410 0 (le 4 d.missing))) ∧
    (s.failed 14 = false → f.payload = [] →
      (g.state = 2 → Completes (.cmdScanImageDrop f) s fun t => t.sent = s.sent ∧ t.regs = s.regs ∧
        t.staging c = { g with held := g.held ++ [⟨x.id, f.seq.toNat, .drop⟩] }) ∧
      (g.state ≠ 2 → g.image = none → Reports (.cmdScanImageDrop f) s f x 0x0412 []) ∧
      (g.state ≠ 2 → g.image ≠ none → Completes (.cmdScanImageDrop f) s fun t => (t.staging c).image = none ∧
        (t.staging c).cells = g.cells.filter (fun p => ! g.defaults.contains p.1.key) ∧ t.rd (Obj.SCE_IMG_STG_STATE.b c) = 0 ∧
        t.rd (Obj.SCE_IMG_STG_SIZE.b c) = 0 ∧ Answers s t f x 0x0412 0 [])) ∧
    (f.payload = [] → let fail := detailRecord 0x0430 0xFFFF 0x130100
      (g.image = none → SaysAfterPending (.cmdScanImageVerify f) s f x 0x0411 0x0041 fail) ∧
      (∀ d, g.image = some d → d.missing ≠ 0 → SaysAfterPending (.cmdScanImageVerify f) s f x 0x0411 0x0041 fail) ∧
      (∀ d code ix, g.image = some d → d.missing = 0 → s.loaderCheck c d = some (code, ix) →
        Completes (.cmdScanImageVerify f) s fun t => (t.staging c).image = some { d with verified := false } ∧
          t.rd (Obj.SCE_IMG_STG_STATE.b c) = 4 ∧ t.rd (Obj.SCE_IMG_STG_DETAIL.b c) = code % 2 ^ 16 ∧
          AnswersLast s t f x 0x0411 0x0041 (detailRecord code ix 0x130100)) ∧
      (∀ d, g.image = some d → d.missing = 0 → s.loaderCheck c d = none → let im := (Raw.of d.bytes).image
        let l := im.taskDefaults c
        let cells := l.foldl (fun k p => stagePut k p.1 p.2) g.cells
        s.stagingFits c { g with state := 1, image := some { d with verified := true }, cells := cells } = true →
        Completes (.cmdScanImageVerify f) s fun t => t.staging c =
            { g with state := 1, image := some { d with verified := true }, cells := cells, defaults := l.map (·.1.key) } ∧
          t.rd (Obj.SCE_IMG_STG_STATE.b c) = 3 ∧ t.rd (Obj.SCE_IMG_STG_HASH.bi c 0) = field im.hash 0 4 ∧
          AnswersLast s t f x 0x0411 0
            (im.hash ++ le 4 (im.codeBytes 0) ++ le 4 (im.codeBytes 1) ++ le 2 im.insts.length ++ le 2 0)) ∧
      (g.image = none ∨ (s.prog c).cur = none → SaysAfterPending (.cmdScanExchPlan f) s f x 0x0420 0x0041 (detailRecord 0x0443 0 0)) ∧
      (∀ d o, g.image = some d → (s.prog c).cur = some o → d.verified = true → let im := (Raw.of d.bytes).image
        let p := planOf o.image im
        let rel := s.releasedBy c im
        let blk := s.blockedBy c im
        SaysAfterPending (.cmdScanExchPlan f) s f x 0x0420 0 (le 2 p.carried ++ le 2 p.retyped ++ le 2 p.fresh ++ le 2 p.removed ++
          le 2 p.reinit ++ le 2 p.newPt ++ le 1 rel.length ++ le 1 blk.length ++ (rel ++ blk).flatMap fun y => le 1 y.ix)))

/-- R190 to R195: setting, clearing and listing forces, by a compartment whose D1 is enabled. Rests on the model's choices in logs
24 and 35. -/
def Obligations.ForceCommands : Prop :=
  ∀ (f : Frame) (s : State) (x : Session), Admitted s f x → x.comp < 34 → 5 ≤ s.mode → s.mode ≤ 9 → s.d1 x.comp = true →
    let c := x.comp
    (s.mode ≠ 9 → ∀ point value i : Nat, point < 8192 → value < 2 ^ 64 → i < 128 →
      f.payload = le 1 0 ++ le 1 0 ++ le 2 point ++ le 8 0 ++ le 8 0 ++ le 8 value →
      let y : Force := { ix := 0, state := 1, kind := 0, dtype := 0, point := point, size := 8, path := 0, name := 0, value := value }
      (s.ownerPt point ≠ c → Reports' (.cmdScanForceSet f) s f x 0x0430 0x0020) ∧
      (s.ownerPt point = c → ForceEntry s c y i → Completes (.cmdScanForceSet f) s fun t => ForceStands s t c i y ∧
        Answers s t f x 0x0430 0 (le 1 i ++ le 3 0))) ∧
    (s.mode ≠ 9 → ∀ path name value i : Nat, path < 2 ^ 64 → name < 2 ^ 64 → value < 2 ^ 64 → i < 128 →
      f.payload = le 1 1 ++ le 1 0 ++ le 2 0 ++ le 8 path ++ le 8 name ++ le 8 value →
      ((s.prog c).cur.bind (fun g => g.image.symbol path name) = none → Reports' (.cmdScanForceSet f) s f x 0x0430 0x0020) ∧
      (∀ g v, (s.prog c).cur = some g → g.image.symbol path name = some v → v.size ≤ 8 →
        let y : Force := { ix := 0, state := 1, kind := 1, dtype := v.dtype, point := 0, size := v.size, path := path, name := name,
                           value := value % 2 ^ (8 * v.size) }
        (v.dtype = 0 ∨ 0xB < v.dtype → Checked (.cmdScanForceSet f) s f x 0x0430 0x0442) ∧
        (1 ≤ v.dtype → v.dtype ≤ 0xB → s.retypePending c path name v.dtype v.size = true → Checked (.cmdScanForceSet f) s f x 0x0430 0x0441) ∧
        (1 ≤ v.dtype → v.dtype ≤ 0xB → s.retypePending c path name v.dtype v.size = false → ForceEntry s c y i →
          Completes (.cmdScanForceSet f) s fun t => ForceStands s t c i y ∧ Answers s t f x 0x0430 0 (le 1 i ++ le 3 0)))) ∧
    (s.mode ≠ 9 → ∀ i : Nat, i < 128 → f.payload = le 1 i ++ le 3 0 →
      (s.rd (Obj.FORCE_STATE.bi c i) = 0 → Reports (.cmdScanForceClear f) s f x 0x0431 (le 1 0)) ∧
      (s.rd (Obj.FORCE_STATE.bi c i) ≠ 0 → let y := s.force c i
        y.point < 8192 → Completes (.cmdScanForceClear f) s fun t => t.rd (Obj.FORCE_STATE.bi c i) = 0 ∧
          t.rd (Obj.EXCH_EVT_FORCE_RELEASED.b c) = 1 ∧ Logged s t c 0x0407 y.detail ∧ Answers s t f x 0x0431 0 (le 1 1) ∧
          (y.kind = 0 → y.state = 1 → t.rd (Obj.PIMG_ATTR_FORCED.i y.point) = 0 ∧
            (s.source y.point = 1 → s.scan.hold = none → t.pt y.point = s.ownValue c y.point % 2 ^ 64)) ∧
          ∀ j, j < 128 → j ≠ i → t.force c j = s.force c j)) ∧
    (f.payload = [] → Reports (.cmdScanForceList f) s f x 0x0432
      (le 1 (s.forces c).length ++ (s.forces c).flatMap Force.bytes))

/-! ### Scan timing (spec/05) -/

/-- R24, R120, R122 to R129, R131, R132, R139 to R141, R145: what the scan engines do at boundaries, at the ends of capture holds
and windows, at the ends of starts and stops, and when points are set. Rests on the model's choices in logs 20, 24 and 33. -/
def Obligations.ScanTiming : Prop :=
  (∀ (c now : Nat) (e : Fin 2) (k : Fin 16) (s : State) (t0 : ImgTask), c < 34 → s.enabledTask c e.val k.val = some t0 →
    let b := s.advance now
    let i : Instr := .tempoBoundary c e k now
    let st := s.rd (Obj.SCE_STATE.b c)
    let fld (r : Row) : Fld := r.at c [e.val, k.val]
    let edge := isBoundary b.floorTime (s.rd (fld Obj.SCE_TASK_TEMPO)) (s.rd (fld Obj.SCE_TASK_PHASE))
    (edge = false → Completes i s fun t => t = b) ∧
    (edge = true → s.dormant c e.val k.val = false → s.failed e.val = false →
      (st = 2 → (s.task c e.val k.val).from_ ≤ b.floorTime → s.plyOf c e.val k.val = none → s.rd (Obj.EXCH_STATE.b c) ≠ 2 →
        (∀ p ∈ t0.ins, p < 8192) → Completes i s fun t => t.scan.hold = some b.floorTime ∧
          t.rd (fld Obj.SCE_TASK_TEMPO_COUNT) = (s.rd (fld Obj.SCE_TASK_TEMPO_COUNT) + 1) % 2 ^ 32 ∧
          t.rd (fld Obj.SCE_TASK_SKIP_RUN) = 0 ∧ t.rd (fld Obj.SCE_TASK_LAST_BOUNDARY) = b.floorTime % 2 ^ 64 ∧
          ∃ p, t.scan.plies = s.scan.plies ++ [p] ∧ p.comp = c ∧ p.engine = e.val ∧ p.entry = k.val ∧ p.cap = b.floorTime ∧
            p.regs = List.replicate 32 0 ∧ p.link = [] ∧ p.ready = false ∧ p.waiting = none ∧ p.onOld = false ∧
            p.ins = t0.ins.map (b.captureIn c) ∧ p.outPts = t0.outs ∧
            p.tempoLow = (s.rd (fld Obj.SCE_TASK_TEMPO_COUNT) + 1) % 2 ^ 32) ∧
      (st = 2 ∨ st = 3 → s.plyOf c e.val k.val ≠ none → Completes i s fun t => t.scan.plies = s.scan.plies ∧ t.scan.hold = s.scan.hold ∧
        t.rd (fld Obj.SCE_TASK_SKIP_COUNT) = (s.rd (fld Obj.SCE_TASK_SKIP_COUNT) + 1) % 2 ^ 32 ∧
        t.rd (fld Obj.SCE_TASK_SKIP_RUN) = satAdd 16 (s.rd (fld Obj.SCE_TASK_SKIP_RUN)) 1 % 2 ^ 16 ∧
        t.rd (fld Obj.SCE_TASK_TASK_EVT_FLAG_FALL) = 1 ∧ t.rd (Obj.SCE_EVT_FLAG_FALL.b c) = 1))) ∧
  (∀ (c now : Nat) (e : Fin 2) (k : Fin 16) (s : State), c < 34 → let st := s.rd (Obj.SCE_STATE.b c)
    let limit := s.rd (Obj.SCE_TASK_SKIP_LIMIT.at c [e.val, k.val])
    let due := limit ≠ 0 ∧ limit ≤ s.rd (Obj.SCE_TASK_SKIP_RUN.at c [e.val, k.val]) ∧ 2 ≤ st ∧ st ≤ 4
    (due → Completes (.skipLimitStop c e k now) s fun t => t.rd (Obj.SCE_STATE.b c) = 5 ∧ t.rd (Obj.SCE_STOP_REASON.b c) = 3 ∧
      t.rd (Obj.SCE_STATE_INTENT.b c) = 0 ∧ t.scan.plies = s.scan.plies.filter fun p => p.comp != c) ∧
    (¬ due → Completes (.skipLimitStop c e k now) s fun t => t = s.advance now)) ∧
  (∀ (now c : Nat) (e : Fin 2) (s : State), let b := s.advance now
    (b.floorTime % 10000000 = 0 → (s.eng e.val).since ≠ some b.floorTime → Completes (.budgetWindow e now) s fun t =>
      (t.eng e.val).used = [] ∧ (t.eng e.val).reached = [] ∧ (t.eng e.val).since = some b.floorTime ∧
      (∀ d, d < 34 → t.allowance e.val d = 10000000 * s.share e.val d) ∧
      (s.exists? c = true → t.rd ((if e.val = 0 then Obj.SCE_USED_0 else Obj.SCE_USED_1).b c) =
        min (2 ^ 24 - 1) ((s.eng e.val).used.get 0 c / 1000)) ∧ t.eng (1 - e.val) = s.eng (1 - e.val)) ∧
    (b.floorTime % 10000000 ≠ 0 → Completes (.budgetWindow e now) s fun t => t = b) ∧
    (s.hasBudget e.val c = false → c ∉ (s.eng e.val).reached → 0 < s.allowance e.val c → Completes (.budgetSuspension c e now) s fun t =>
      t.eng e.val = { s.eng e.val with reached := (s.eng e.val).reached ++ [c] } ∧ t.scan.plies = s.scan.plies ∧
      t.rd ((if e.val = 0 then Obj.SCE_EXHAUST_0 else Obj.SCE_EXHAUST_1).b c) =
        (s.rd ((if e.val = 0 then Obj.SCE_EXHAUST_0 else Obj.SCE_EXHAUST_1).b c) + 1) % 2 ^ 32 ∧
      t.rd ((if e.val = 0 then Obj.SCE_EVT_BUDGET_0 else Obj.SCE_EVT_BUDGET_1).b c) = 1) ∧
    (s.hasBudget e.val c = true ∨ c ∈ (s.eng e.val).reached → Completes (.budgetSuspension c e now) s fun t => t = b)) ∧
  (∀ (c now : Nat) (s : State), c < 34 → let b := s.advance now
    (∀ g, (s.prog c).cur = some g → s.rd (Obj.EXCH_STATE.b c) ≠ 2 → Completes (.retainedCommit c now) s fun t =>
      t.prog c = { s.prog c with kept := some { marked := true, hash := g.image.hash32, data := (s.prog c).shadow } } ∧
      t.rd (Obj.SCE_RET_HASH.b c) = g.image.hash32 % 2 ^ 32 ∧ t.rd (Obj.SCE_RET_TIME.b c) = b.floorTime % 2 ^ 64 ∧
      Kept [Obj.SCE_RET_HASH.b c, Obj.SCE_RET_TIME.b c] s t) ∧
    (∀ z, (s.prog c).starting = some z → s.rd (Obj.SCE_STATE.b c) = 1 → s.rd (Obj.EXCH_STATE.b c) ≠ 2 → s.mode ≠ 9 →
      let cold := z.cold || ! (s.prog c).warmOk
      let tS := roundUp b.floorTime 1000000
      Completes (.startupComplete c now) s fun t => t.rd (Obj.SCE_STATE.b c) = 2 ∧ t.rd (Obj.SCE_STATE_LAST_COLD.b c) = b2n cold ∧
        t.rd (Obj.SCE_STATE_COLD_FALLBACK.b c) = b2n (! z.cold && cold) ∧
        Finishes s t (.start c) 0 (le 8 tS ++ le 1 (b2n cold)) ∧
        ∀ e k, e < 2 → k < 16 → (t.task c e k) = { from_ := tS } ∧ t.rd (Obj.SCE_TASK_PLY_DONE.at c [e, k]) = 0 ∧
          t.rd (Obj.SCE_TASK_TEMPO_COUNT.at c [e, k]) = 0 ∧ t.rd (Obj.SCE_TRAP_COUNT.at c [e, k]) = 0) ∧
    (∀ z, (s.prog c).stopping = some z → s.on (Obj.SCE_STATE_INTENT.b c) = false → Completes (.stopComplete c now) s fun t =>
      t.rd (Obj.SCE_STATE.b c) = 0 ∧ t.rd (Obj.SCE_EVT_STOPPED.b c) = 1 ∧ (t.prog c).stopping = none ∧
      Finishes s t (.stop c) 0 (le 8 z.at_ ++ le 2 z.plies) ∧ Logged s t c 0x0403 (z.detail c)) ∧
    ((s.prog c).starting = none → Completes (.startupComplete c now) s fun t => t = b) ∧
    ((s.prog c).stopping = none → Completes (.stopComplete c now) s fun t => t = b)) ∧
  (∀ (now : Nat) (s : State), let b := s.advance now
    (s.scan.hold = none → Completes (.captureHoldEnd now) s fun t => t = b) ∧
    (s.scan.hold ≠ none → Completes (.captureHoldEnd now) s fun t => t.scan.hold = none ∧ t.scan.queued = [] ∧
      t.scan.plies = s.scan.plies.map (fun p => { p with ready := true }) ∧ Finishes s t .pimg 0 [] ∧
      ∀ w, s.scan.queued = [[w]] → w.point < 8192 → t.pt w.point = w.merge (s.pt w.point) % 2 ^ 64)) ∧
  (∀ (who : Requester) (p now : Nat) (v : BitVec 64) (s : State), let b := s.advance now
    let i : Instr := .pimgSetWrite who p v now
    let may := s.live who = true ∧ s.ownerPt p = s.compOf who ∧ p < 8192 ∧ s.setRefused p = false
    (¬ may → Completes i s fun t => t = b) ∧
    (may → (∀ c e k, who ≠ .task c e k) →
      (s.scan.hold = none → Completes i s fun t => OneField s t (Obj.PIMG_PT.i p) v.toNat) ∧
      (s.scan.hold ≠ none → Completes i s fun t =>
        t = { b with scan := { s.scan with queued := s.scan.queued ++ [[PtWrite.whole p v.toNat]] } })) ∧
    (∀ c e k q, may → who = .task c e k → plyAt s q = some q → q.comp = c → q.engine = e → q.entry = k →
      Completes i s fun t => t.regs = s.regs ∧
        plyAt t q = some { q with sets := q.sets.filter (fun w => w.point != p) ++ [PtWrite.whole p v.toNat] }))

/-! ### Metering (spec/08, spec/09) -/

/-- R199, R201, R203, R204, R208, R209, R211 to R214, R223, R238, R240: samples, line cycles and pseudo-cycles, a missing neutral,
calibration captures and waveform recordings. The extreme value of a missing neutral is free: the spec states none. Rests on the
model's choices in logs 15, 20, 24 and 55. -/
def Obligations.MeterCycles : Prop :=
  (∀ (codes : List Int) (now : Nat) (s : State), let b := s.advance now
    (s.acq = false ∨ s.halted 3 = true → Completes (.sampleInstant codes now) s fun t => t = b) ∧
    (s.acq = true → s.halted 3 = false → Completes (.sampleInstant codes now) s fun t =>
      t.rd Obj.MAE_SAMPLE_COUNT.f = (s.rd Obj.MAE_SAMPLE_COUNT.f + 1) % 2 ^ 32 ∧ t.rd Obj.MAE_SAMPLE_TIME.f = b.floorTime % 2 ^ 64 ∧
      (∀ ch, ch < 192 → s.chanOn ch = true → (s.chan ch).isOpen = true → let x := (s.chan ch).sums
        let code := codes.getD (16 + ch) 0
        (t.chan ch).sums.n = x.n + 1 ∧
        (s.rd (Obj.MAE_CH_SET.i ch) < 4 → (t.chan ch).sums.i2 = flSquareAdd x.i2 (b.chanAmps ch code).1) ∧
        (t.chan ch).clip = ((s.chan ch).clip || clipCode code) ∧ (t.chan ch).acc = (s.chan ch).acc) ∧
      (∀ v, v < 4 → s.setOn v = true → (s.mset v).isOpen = true → (t.mset v).n = (s.mset v).n + 1) ∧
      (s.rd Obj.MAE_WAVE_STATE.f = 1 → s.mae.wave.rows.length < 1024 → ∃ row : List Int,
        t.mae.wave.rows = s.mae.wave.rows ++ [row] ∧ row.length = 4 + s.mae.wave.chans.length))) ∧
  (∀ (v : Fin 4) (now : Nat) (s : State), let b := s.advance now
    let m := s.mset v.val
    (∀ k, s.acq = true → s.setOn v.val = true → s.framing v.val = some k →
      (m.isOpen = false → s.mae.gaps = [] → Completes (.zeroCrossing v now) s fun t => CycleOpens t v.val false ∧
        (t.mset v.val).crossed = true ∧ t.rd (Obj.MAE_SET_LAST_CROSSING.i v.val) = b.floorTime % 2 ^ 64 ∧
        t.rd (Obj.MAE_SET_FRAMING.i v.val) = k % 4 ∧ (s.mae.accStart = none → t.mae.accStart = some b.floorTime) ∧
        ∀ ch ∈ s.chansOf v.val, (t.chan ch).isOpen = true ∧ (t.chan ch).sums = {} ∧ (t.chan ch).acc = (s.chan ch).acc) ∧
      (m.isOpen = true → s.mae.latchDue = none → Completes (.zeroCrossing v now) s fun t => CycleOpens t v.val false ∧
        let dt := s.span (s.rd (Obj.MAE_SET_LAST_CROSSING.i v.val)) b.floorTime
        CycleClosed b t v.val (if m.crossed = true ∧ 0 < dt then (2 * 1000000000000 + dt) / (2 * dt) else 0) (k % 4))) ∧
    (s.acq = false ∨ s.setOn v.val = false ∨ s.framing v.val = none → Completes (.zeroCrossing v now) s fun t => t = b) ∧
    (s.acq = true → s.setOn v.val = true → m.isOpen = true → s.mae.latchDue = none →
      (m.pseudo = false → 200 ≤ m.n → Completes (.cycleTimeout v now) s fun t => CycleOpens t v.val true ∧ CycleClosed b t v.val 0 3) ∧
      (m.pseudo = true → (if s.rd Obj.MAE_F_NOM.f = 60 then 133 else 160) ≤ m.n → Completes (.pseudoCycleEnd v now) s fun t =>
        CycleOpens t v.val true ∧ CycleClosed b t v.val 0 3)) ∧
    (m.isOpen = false ∨ m.pseudo = true ∨ m.n < 200 → Completes (.cycleTimeout v now) s fun t => t = b) ∧
    (m.isOpen = false ∨ m.pseudo = false → Completes (.pseudoCycleEnd v now) s fun t => t = b) ∧
    (5 ≤ m.nmissRun → s.eventOf v.val 4 0 = none → s.setOn v.val = true → Completes (.nmissStart v now) s fun t =>
      (∃ x, (t.mset v.val).events = m.events ++ [⟨4, 0, b.floorTime, x⟩] ∧
        Logged s t 0 0x0507 (le 1 v.val ++ le 1 0 ++ le 2 0 ++ le 4 x)) ∧
      t.rd (Obj.MAE_SET_EVT_NMISS.i v.val) = 1 ∧
      t.rd (Obj.MAE_SET_NMISS_COUNT.i v.val) = (s.rd (Obj.MAE_SET_NMISS_COUNT.i v.val) + 1) % 2 ^ 16) ∧
    (m.nmissRun < 5 → Completes (.nmissStart v now) s fun t => t = b) ∧
    (∀ e, s.eventOf v.val 4 0 = some e →
      (50 ≤ m.nmissEnd → Completes (.nmissEnd v now) s fun t =>
        (t.mset v.val).events = m.events.filter (fun x => ! (x.kind == 4 && x.phase == 0)) ∧
        t.rd (Obj.MAE_SET_LAST_KIND.i v.val) = 4 ∧ t.rd (Obj.MAE_SET_LAST_DURATION.i v.val) = b.eventMs e ∧
        Logged s t 0 0x0508 (endDetail v.val e (b.eventMs e))) ∧
      (m.nmissEnd < 50 → Completes (.nmissEnd v now) s fun t => t = b))) ∧
  (∀ (ch : Fin 192) (now : Nat) (s : State), let b := s.advance now
    (b.settling ch.val = false → Completes (.settlingEnd ch now) s fun t => OneField s t (Obj.MAE_CH_FLAGS_SETTLING.i ch.val) 0) ∧
    (b.settling ch.val = true → Completes (.settlingEnd ch now) s fun t => t = b)) ∧
  (∀ (who : Requester) (now : Nat) (s : State), let b := s.advance now
    let st := s.rd Obj.MAE_CAL_STATE.f
    (s.compOf who ≠ 0 → (Completes (.maeCalStart who now) s fun t => t = b) ∧ (Completes (.maeCalAbort who now) s fun t => t = b) ∧
      Completes (.maeWaveStart who now) s fun t => t = b) ∧
    (s.compOf who = 0 → (st ∈ [1, 2] → (Completes (.maeCalStart who now) s fun t => t = b) ∧
        Completes (.maeCalAbort who now) s fun t => t.rd Obj.MAE_CAL_STATE.f = 4 ∧ t.rd Obj.MAE_CAL_ABORT_CAUSE.f = 1 ∧
          Kept [Obj.MAE_CAL_STATE.f, Obj.MAE_CAL_ABORT_CAUSE.f] s t) ∧
      (st ∉ [1, 2] → (Completes (.maeCalAbort who now) s fun t => t = b) ∧
        Completes (.maeCalStart who now) s fun t => t.rd Obj.MAE_CAL_STATE.f = 1 ∧ t.mae = { s.mae with cal := {} } ∧
          t.rd Obj.MAE_CAL_CYCLES_DONE.f = 0 ∧ t.rd Obj.MAE_CAL_ABORT_CAUSE.f = 0 ∧ t.rd Obj.MAE_CAL_SAMPLES.f = 0) ∧
      Completes (.maeWaveStart who now) s fun t => OneField s t Obj.MAE_WAVE_STATE.f 1 ∧ t.mae.wave.rows = [] ∧
        t.mae.wave.done = s.mae.wave.done ∧ t.mae.wave.set = s.rd Obj.MAE_WAVE_SET.f) ∧
    (st = 2 → s.rd Obj.MAE_CAL_CYCLES.f ≤ s.rd Obj.MAE_CAL_CYCLES_DONE.f → Completes (.calCaptureEnd now) s fun t =>
      OneField s t Obj.MAE_CAL_STATE.f 3) ∧
    (st ≠ 2 → Completes (.calCaptureEnd now) s fun t => t = b) ∧
    (s.rd Obj.MAE_WAVE_STATE.f = 1 → s.mae.wave.rows.length = 1024 → Completes (.waveRecordDone now) s fun t =>
      OneField s t Obj.MAE_WAVE_STATE.f 2 ∧ t.mae.wave.done = s.mae.wave.rows) ∧
    (s.rd Obj.MAE_WAVE_STATE.f ≠ 1 → Completes (.waveRecordDone now) s fun t => t = b))

/-- R227, R228, R232, R242, R243, R246, R247, R250, R251: latches and commits, pulses, and the sealed records of tenants. Rests on
the model's choices in logs 20, 24 and 56. -/
def Obligations.MeterLatches : Prop :=
  (∀ (now : Nat) (s : State), let b := s.advance now
    (s.mae.latchDue = none → Completes (.latch now) s fun t => t = b) ∧
    (∀ tl, s.mae.latchDue = some tl → s.failed 17 = false → (∀ m, m < 512 → s.rd (Obj.MAE_MAP_POINT.i m) < 8192) →
      Completes (.latch now) s fun t => let seq := (s.rd Obj.MAE_LATCH_SEQ.f + 1) % 2 ^ 32
        t.rd Obj.MAE_LATCH_SEQ.f = seq ∧ t.rd Obj.MAE_LATCH_TIME.f = tl % 2 ^ 64 ∧ t.mae.latchDue = none ∧
        t.mae.resumed = false ∧ t.mae.gap = false ∧ t.mae.commit.time = tl ∧ t.mae.commit.seq = seq ∧
        t.rd Obj.MAE_COMMIT_TIME.f = tl % 2 ^ 64 ∧
        ∀ i, i < 192 → Latched t chanRows i (s.chan i).acc seq tl ∧ Latched t circRows i (s.circ i).acc seq tl ∧
          (t.chan i).acc = (s.chan i).acc ∧ (t.circ i).acc = (s.circ i).acc ∧ (t.chan i).cycles = 0 ∧ (t.circ i).cycles = 0 ∧
          t.rd (Obj.MAE_LCH_T_START.i i) =
            (if s.mae.resumed then s.mae.accStart.getD tl else s.rd Obj.MAE_LATCH_TIME.f) % 2 ^ 64) ∧
    (s.acq = true → s.rd Obj.MAE_COMMIT_MS.f ≠ 0 → Completes (.energyCommit now) s fun t =>
      OneField s t Obj.MAE_COMMIT_TIME.f (b.floorTime % 2 ^ 64) ∧ t.mae.commit.time = b.floorTime ∧
      t.mae.commit.chans = s.mae.chans.map (fun p => (p.1, p.2.acc)) ∧ t.mae.commit.circs = s.mae.circs.map (fun p => (p.1, p.2.acc)) ∧
      t.mae.commit.count = s.mae.count ∧ t.mae.chans = s.mae.chans) ∧
    (s.acq = false ∨ s.rd Obj.MAE_COMMIT_MS.f = 0 → Completes (.energyCommit now) s fun t => t = b)) ∧
  (∀ (n : Fin 8) (now : Nat) (s : State), let b := s.advance now
    let p := s.pulse n.val
    let back := s.rd (Obj.MAE_PULSE_BACKLOG.i n.val)
    (s.pulsesRun = true → s.on (Obj.MAE_PULSE_ENABLE.i n.val) = true → 0 < back → p.openUntil ≤ b.floorTime → p.endAt = none →
      let w := s.pulseWidth n.val
      Completes (.pulseStart n now) s fun t => t.rd (Obj.MAE_PULSE_BACKLOG.i n.val) = (back - 1) % 2 ^ 32 ∧
        t.rd (Obj.MAE_PULSE_LAST_WIDTH.i n.val) = w % 2 ^ 16 ∧ (t.pulse n.val).endAt = some (b.floorTime + 1000 * w) ∧
        (t.pulse n.val).openUntil = b.floorTime + 2000 * w ∧ (t.pulse n.val).residue = p.residue) ∧
    (s.pulsesRun = false ∨ back = 0 ∨ b.floorTime < p.openUntil ∨ p.endAt ≠ none → Completes (.pulseStart n now) s fun t => t = b) ∧
    (∀ e, p.endAt = some e →
      (e ≤ b.floorTime → Completes (.pulseWidthEnd n now) s fun t => (t.pulse n.val) = { p with endAt := none } ∧
        OneField s t (Obj.MAE_PULSE_EMITTED.i n.val) ((s.rd (Obj.MAE_PULSE_EMITTED.i n.val) + 1) % 2 ^ 32)) ∧
      (b.floorTime < e → Completes (.pulseWidthEnd n now) s fun t => t = b)) ∧
    (p.endAt = none → Completes (.pulseWidthEnd n now) s fun t => t = b)) ∧
  (∀ (c now : Nat) (s : State), c < 34 → let b := s.advance now
    let k := billingSlot c
    (∀ r, (s.ring c).find? (fun r => r.sig.isNone) = some r →
      (s.canSign k = true → Completes (.sealSign c now) s fun t => ∃ n, let sig := Config.ecdsaSign (s.kse.keys.get [] k) (sha384 r.body) n
        t.ring c = (s.ring c).map (fun x => if x.seq = r.seq then { x with sig := some sig } else x) ∧
        (r.time + 500000000 < b.floorTime → Logged s t 0 0x050F (le 8 r.seq)) ∧
        ((∀ x ∈ t.ring c, x.sig ≠ none) → t.rd (Obj.MAE_SEAL_SIG_STATE.i c) = 0)) ∧
      (s.canSign k = false → Completes (.sealSign c now) s fun t => t = b)) ∧
    ((∀ r ∈ s.ring c, r.sig ≠ none) → Completes (.sealSign c now) s fun t => t = b)) ∧
  (∀ (f : Frame) (s : State) (x : Session) (c : Nat), Admitted s f x → 5 ≤ s.mode → s.mode ≤ 9 → x.comp < 34 → c < 256 →
    let top := s.rd (Obj.MAE_SEAL_SEQ.i c)
    let view := s.sealView x.comp c
    (∀ first n : Nat, first < 2 ^ 64 → 1 ≤ n → n ≤ 64 → f.payload = le 1 c ++ le 3 0 ++ le 8 first ++ le 2 n ++ le 2 0 →
      (view = false → Reports' (.cmdMtrSealRead f) s f x 0x0510 0x0020) ∧
      (view = true → s.failed 2 = false →
        (top < first ∨ top = 0 → Reports (.cmdMtrSealRead f) s f x 0x0510 []) ∧
        (top ≠ 0 → first ≤ top → first < s.rd (Obj.MAE_SEAL_OLDEST.i c) → Reports' (.cmdMtrSealRead f) s f x 0x0510 0x0024) ∧
        (top ≠ 0 → first ≤ top → s.rd (Obj.MAE_SEAL_OLDEST.i c) ≤ first → (∃ r ∈ s.ring c, r.seq = first) →
          Reports (.cmdMtrSealRead f) s f x 0x0510 (takeRecords ((s.ring c).filter fun r => decide (first ≤ r.seq)) n 81800)))) ∧
    (∀ seq : Nat, seq < 2 ^ 64 → f.payload = le 1 c ++ le 3 0 ++ le 8 seq →
      (view = false → Reports' (.cmdMtrSealAck f) s f x 0x0511 0x0020) ∧
      (view = true → s.failed 2 = false →
        (s.rd (Obj.MAE_SEAL_ACKED.i c) ≤ seq → seq ≤ top → Completes (.cmdMtrSealAck f) s fun t =>
          OneField s t (Obj.MAE_SEAL_ACKED.i c) seq ∧ Answers s t f x 0x0511 0 (le 8 seq)) ∧
        (top < seq ∨ seq < s.rd (Obj.MAE_SEAL_ACKED.i c) → Reports' (.cmdMtrSealAck f) s f x 0x0511 0x0022))))

/-! ### CAN (spec/10, spec/11) -/

/-- R254 to R256, R269 to R272, R275, R276, R279, R280, R288, R290, R292: frames and errors received, integration, protocol
exceptions, wake-up patterns, and taking elements from a FIFO. Rests on the model's choices in logs 20, 22, 24 and 57. -/
def Obligations.CanReceives : Prop :=
  (∀ (port : Fin 24) (fr : CanFrame) (now : Nat) (s : State), let b := s.advance now
    let p := port.val
    let f := taken fr
    let i : Instr := .canRxFrame port fr now
    let heard := b.onBus p = true ∧ (fr.fdf = true → s.on (Obj.FBC_CFG_FD_EN.i p) = true)
    (¬ heard → Completes i s fun t => t = b) ∧
    (heard → s.fbc.old = none → ((∀ m, m < 512 → s.rd (Obj.FBC_MAP_POINT.ij p m) < 8192) → Completes i s fun t =>
        t.rd (Obj.FBC_RX_FRAMES.i p) = (s.rd (Obj.FBC_RX_FRAMES.i p) + 1) % 2 ^ 32) ∧
      (s.rangeOf p f.id.toNat f.xtd = none → Completes i s fun t => (t.port p).fifos = (s.port p).fifos ∧
        t.rd (Obj.FBC_FW_RX_UNBOUND.i p) = (s.rd (Obj.FBC_FW_RX_UNBOUND.i p) + 1) % 2 ^ 32 ∧ t.rd (Obj.FBC_FEVT_FW.i p) = 1 ∧
        (∀ q, q < 8192 → t.pt q = s.pt q) ∧
        ((s.port p).fwLogAt = none → Logged s t 0 0x0609 (le 1 p ++ le 3 0 ++ le 4 f.id.toNat))) ∧
      (∀ r, s.rangeOf p f.id.toNat f.xtd = some r → let c := s.rd (Obj.FBC_RNG_OWNER.ij p r)
        (s.filterOf p c f = none → Completes i s fun t => t.rd (Obj.FBC_RX_NOMATCH.i p) = (s.rd (Obj.FBC_RX_NOMATCH.i p) + 1) % 2 ^ 32 ∧
          (t.port p).fifos = (s.port p).fifos) ∧
        (∀ k, s.filterOf p c f = some k → let n := s.rd (Obj.FBC_FLT_FIFO.ij p k)
          let old := (s.port p).fifos.get [] n
          let seq := ((s.port p).seqs.get 0 n + 1) % 65536
          (s.on (Obj.FBC_FLT_TO_FIFO.ij p k) = true → n < 8 → (∀ m, m < 512 → s.rd (Obj.FBC_MAP_POINT.ij p m) < 8192) →
            Completes i s fun t => let l := (t.port p).fifos.get [] n
              t.rd (Obj.FBC_FIFO_FILL.ij p n) = l.length % 2 ^ 7 ∧
              (old.length < s.rd (Obj.FBC_FIFO_SIZE.ij p n) → ∃ e, l = old ++ [e] ∧ Holds e f k seq) ∧
              (s.rd (Obj.FBC_FIFO_SIZE.ij p n) ≤ old.length →
                t.rd (Obj.FBC_FIFO_LOST.ij p n) = (s.rd (Obj.FBC_FIFO_LOST.ij p n) + 1) % 2 ^ 32 ∧
                (s.on (Obj.FBC_FIFO_MODE.ij p n) = false → l = old) ∧
                (s.on (Obj.FBC_FIFO_MODE.ij p n) = true → ∃ e, l = old.drop 1 ++ [e] ∧ Holds e f k seq))) ∧
          (∀ m, s.on (Obj.FBC_FLT_TO_MAP.ij p k) = true → fr.rtr = false → s.mapsOf p false k = [m] → s.scan.hold = none →
            s.rd (Obj.FBC_MAP_BIT_OFF.ij p m) + s.rd (Obj.FBC_MAP_WIDTH_M1.ij p m) + 1 ≤ 8 * f.data.length →
            s.rd (Obj.FBC_MAP_POINT.ij p m) < 8192 → n < 8 → Completes i s fun t =>
              t.pt (s.rd (Obj.FBC_MAP_POINT.ij p m)) = s.mapTake p m (unle f.data) % 2 ^ 64 ∧
              t.rd (Obj.PIMG_ATTR_STALE.i (s.rd (Obj.FBC_MAP_POINT.ij p m))) = 0))))) ∧
  (∀ (port : Fin 24) (ev : RxError) (now : Nat) (s : State), let b := s.advance now
    let p := port.val
    (b.onBus p = false → Completes (.canRxError port ev now) s fun t => t = b) ∧
    (b.onBus p = true → Completes (.canRxError port ev now) s fun t =>
      let rc := if s.portState p = 3 then s.rd (Obj.FBC_REC.i p)
        else min 255 (s.rd (Obj.FBC_REC.i p) + 1 + (if ev.dominantAfterFlag then 8 else 0))
      t.rd (Obj.FBC_ERR_FRAMES.i p) = (s.rd (Obj.FBC_ERR_FRAMES.i p) + 1) % 2 ^ 32 ∧ t.rd (Obj.FBC_REC.i p) = rc ∧
      t.errState p = (if 128 ≤ s.rd (Obj.FBC_TEC.i p) ∨ 128 ≤ rc then 1 else 0) ∧
      ∀ id xtd, ev.id = some (id, xtd) → let x := s.port p
        let n := if x.disturbed = some (id.toNat, xtd) then x.count + 1 else 1
        let lim := s.rd (Obj.FBC_FLT_CFG_DISTURB_LIMIT.i p)
        (t.port p).disturbed = some (id.toNat, xtd) ∧ (t.port p).count = n ∧
        (lim ≠ 0 → lim ≤ n → t.rd (Obj.FBC_FEVT_DISTURB.i p) = 1 ∧ t.rd (Obj.FBC_DIST_LAST_COUNT.i p) = min n 255 ∧
          t.rd (Obj.FBC_DIST_LAST_ID.i p) = id.toNat))) ∧
  (∀ (port : Fin 24) (now : Nat) (s : State), let b := s.advance now
    let p := port.val
    (b.onBus p = true → s.on (Obj.FBC_CFG_PXE.i p) = true → Completes (.protocolException port now) s fun t =>
      OneField s t (Obj.FBC_STATE.i p) 1) ∧
    (b.onBus p = false ∨ s.on (Obj.FBC_CFG_PXE.i p) = false → Completes (.protocolException port now) s fun t => t = b) ∧
    (s.portState p = 1 → Completes (.busIntegration port now) s fun t =>
      t.portState p = (if s.on (Obj.FBC_CFG_LISTEN.i p) = true then 3 else 2) ∧ (Calm s p → Kept [Obj.FBC_STATE.i p] s t)) ∧
    (s.portState p ≠ 1 → Completes (.busIntegration port now) s fun t => t = b) ∧
    (s.portState p = 4 → bit (s.rd Obj.PWR_WAKE_CAN_EN.f) p = true → Completes (.canWakePattern port now) s fun t =>
      t.rd (Obj.FBC_EVT_WAKE.i p) = 1 ∧ (s.mode = 2 → t.portState p = 1 ∧ t.rd (Obj.FBC_TEC.i p) = 0 ∧ t.rd (Obj.FBC_REC.i p) = 0) ∧
      (s.power.transition = none → (s.mode = 1 → t.power.transition = some { target := 3 }) ∧
        (s.mode = 2 → t.power.transition = some { target := 6 }) ∧
        (s.mode ∈ [1, 2] → s.rd Obj.PWR_WAKE_CAUSE.f = 0 → t.rd Obj.PWR_WAKE_CAUSE.f = 0x10 + p))) ∧
    (s.portState p ≠ 4 ∨ bit (s.rd Obj.PWR_WAKE_CAN_EN.f) p = false → Completes (.canWakePattern port now) s fun t => t = b) ∧
    (∀ (who : Requester) (k : Fin 8) (n : BitVec 7), let l := ((s.port p).fifos.get [] k.val).drop n.toNat
      (MayUse s who (fifoAddr p k.val 0xC) → Completes (.fifoPop who port k n now) s fun t =>
        (t.port p).fifos.get [] k.val = l ∧ OneField s t (Obj.FBC_FIFO_FILL.ij p k.val) (l.length % 2 ^ 7)) ∧
      (¬ MayUse s who (fifoAddr p k.val 0xC) → Completes (.fifoPop who port k n now) s fun t => t = b)))

/-- R262 to R268, R272, R279, R281 to R284, R286, R293, R297: requests, cancels and periodic triggers, the ends of attempts, and
recovery from bus-off. Rests on the model's choices in logs 16, 20, 22 and 57. -/
def Obligations.CanTransmits : Prop :=
  (∀ (who : Requester) (port : Fin 24) (buf : Fin 32) (now : Nat) (s : State), let b := s.advance now
    let p := port.val
    let n := buf.val
    let st := s.txState p n
    (¬ MayUse s who (bufAddr p n 0x50) → (Completes (.txreq who port buf now) s fun t => t = b) ∧
      Completes (.txCancel who port buf now) s fun t => t = b) ∧
    (MayUse s who (bufAddr p n 0x50) →
      (s.bufOn p n = true → Completes (.txreq who port buf now) s fun t => Requested b t p n ∧ t.bufData p n = s.bufData p n) ∧
      (s.bufOn p n = false ∨ st = 1 ∨ st = 7 → Completes (.txreq who port buf now) s fun t => t = b) ∧
      (st = 1 → Completes (.txCancel who port buf now) s fun t => t.txState p n = 5) ∧
      (st = 7 → Completes (.txCancel who port buf now) s fun t => t.txState p n = 5 ∧ t.rd (Obj.FBC_TXB_LAST_ERR.ij p n) = 7) ∧
      (st = 2 → Completes (.txCancel who port buf now) s fun t => t.txState p n = 2 ∧ (t.txReq p n).cancel = true)) ∧
    (let due := s.bufOn p n = true ∧ s.rd (Obj.FBC_TXB_CTRL_TRIGGER.ij p n) = 3 ∧
        b.floorTime % (s.rd (Obj.FBC_TXB_PERIOD.ij p n) * 1000000) = 0;
      (¬ due → Completes (.txPeriodTrigger port buf now) s fun t => t = b) ∧
      (due → Completes (.txPeriodTrigger port buf now) s fun t => Requested b t p n ∧
        t.bufData p n = ((s.mapsOf p true n).foldl (fun d m => scatter d (s.mapField p m) (s.pt (s.rd (Obj.FBC_MAP_POINT.ij p m))))
          (s.bufData p n)) % 2 ^ 512))) ∧
  (∀ (port : Fin 24) (now : Nat) (s : State), let b := s.advance now
    let p := port.val
    ((s.port p).arb = none → (Completes (.canTxSuccess port now) s fun t => t = b) ∧ (Completes (.canArbLost port now) s fun t => t = b) ∧
      ∀ ev, Completes (.canTxError port ev now) s fun t => t = b) ∧
    (∀ n, (s.port p).arb = some n → n < 32 → s.txState p n = 2 → let x := s.txReq p n
      let tec := s.rd (Obj.FBC_TEC.i p)
      (x.again = false → Completes (.canTxSuccess port now) s fun t => t.txState p n = 3 ∧ t.rd (Obj.FBC_TXB_EVT_SENT.ij p n) = 1 ∧
        t.rd (Obj.FBC_TXB_LAST_ERR.ij p n) = 0 ∧ t.rd (Obj.FBC_TEC.i p) = (tec - 1) % 2 ^ 9 ∧
        t.rd (Obj.FBC_TXB_TX_COUNT.ij p n) = (s.rd (Obj.FBC_TXB_TX_COUNT.ij p n) + 1) % 2 ^ 32 ∧
        t.rd (Obj.FBC_TX_FRAMES.i p) = (s.rd (Obj.FBC_TX_FRAMES.i p) + 1) % 2 ^ 32 ∧
        ∃ sof, x.selected ≤ sof ∧ sof ≤ max x.selected b.floorTime ∧ t.rd (Obj.FBC_TXB_STAMP.ij p n) = sof / 1000 % 2 ^ 32 ∧
          Out.can p { (x.copy.getD (s.bufFrame p n)) with sof := sof } ∈ t.sent) ∧
      (∀ ev : TxError, let new := tec + (if ev.noTecChange then 0 else 8)
        Completes (.canTxError port ev now) s fun t => t.rd (Obj.FBC_TEC.i p) = min new 256 ∧
          t.rd (Obj.FBC_ERR_FRAMES.i p) = (s.rd (Obj.FBC_ERR_FRAMES.i p) + 1) % 2 ^ 32 ∧
          (s.oneShot p n = true → x.again = false → t.txState p n = 4 ∧ t.rd (Obj.FBC_TXB_EVT_FAIL.ij p n) = 1 ∧
            t.rd (Obj.FBC_TXB_LAST_ERR.ij p n) = (if ev.collision then 6 else if 255 < new then 7 else ev.err.val)) ∧
          (s.oneShot p n = false → x.failures + 1 ≤ s.retryLimit p n → x.cancel = false → new ≤ 255 → s.mayTransmit p n = true →
            (t.txReq p n).failures = x.failures + 1 ∧ t.txState p n ∈ [1, 2] ∧ t.rd (Obj.FBC_TXB_LAST_ERR.ij p n) = ev.err.val) ∧
          (255 < new → t.errState p = 2 ∧ t.rd (Obj.FBC_EVT_BUSOFF.i p) = 1 ∧
            t.rd (Obj.FBC_BUSOFF_COUNT.i p) = (s.rd (Obj.FBC_BUSOFF_COUNT.i p) + 1) % 2 ^ 32 ∧
            ∀ m, m < 32 → m ≠ n → s.txState p m = 1 → t.txState p m = 7)) ∧
      (Completes (.canArbLost port now) s fun t => t.rd (Obj.FBC_ARB_LOST.i p) = (s.rd (Obj.FBC_ARB_LOST.i p) + 1) % 2 ^ 32 ∧
        t.rd (Obj.FBC_TEC.i p) = tec ∧ (t.port p).arb = none ∧
        (s.oneShot p n = true → x.again = false → t.txState p n = 6 ∧ t.rd (Obj.FBC_TXB_EVT_FAIL.ij p n) = 1) ∧
        (s.oneShot p n = false → x.cancel = true → t.txState p n = 5) ∧
        (s.oneShot p n = false → x.cancel = false → t.txState p n = 1 ∧ t.txReq p n = x))) ∧
    (let due := s.errState p = 2 ∧ s.on (Obj.FBC_RECOVER_WAIT.i p) = false ∧
        s.rd (Obj.FBC_BUSOFF_TIME.i p) + s.rd (Obj.FBC_RECOVER_DELAY.i p) * 1000000 ≤ b.floorTime;
      (due → Completes (.recoveryDelayExpiry port now) s fun t => t.errState p = 3 ∧ t.rd (Obj.FBC_RECOVER_WAIT.i p) = 0 ∧
        Kept [Obj.FBC_ERR_STATE.i p, Obj.FBC_RECOVER_WAIT.i p] s t) ∧
      (¬ due → Completes (.recoveryDelayExpiry port now) s fun t => t = b)) ∧
    (s.errState p = 3 → Completes (.recoveryEnd port now) s fun t => t.errState p = 0 ∧ t.rd (Obj.FBC_TEC.i p) = 0 ∧
      t.rd (Obj.FBC_REC.i p) = 0 ∧ t.rd (Obj.FBC_RECOVER_TIME.i p) = b.floorTime % 2 ^ 64 ∧ t.rd (Obj.FBC_EVT_RECOVERED.i p) = 1 ∧
      (Calm s p → s.bufsIn p 7 = [] → Finishes s t (.recover p) 0 (le 8 b.floorTime))) ∧
    (s.errState p ≠ 3 → Completes (.recoveryEnd port now) s fun t => t = b))

/-- R261, R268, R277, R283, R291, R295: the CAN commands of a compartment that reaches the buffer, FIFO or port. Rests on the
model's choice in log 57. -/
def Obligations.BusCommands : Prop :=
  ∀ (f : Frame) (s : State) (x : Session) (p : Nat), Admitted s f x → 5 ≤ s.mode → s.mode ≤ 9 → x.comp < 34 → p < 24 → s.failed 3 = false →
    let c := x.comp
    let b := s.advance f.arrival
    (∀ (n dlc : Nat) (data : Bytes), n < 32 → dlc < 16 → data.length ≤ 64 → f.payload = le 1 p ++ le 1 n ++ le 1 dlc ++ le 1 0 ++ data →
      let i : Instr := .cmdBusTxSend f
      let word := unle (data.take (dlcLen (s.on (Obj.FBC_TXB_FRAME_FDF.ij p n)) dlc))
      (s.reaches c (bufAddr p n 0x10) = false → Reports' i s f x 0x0601 0x0020) ∧
      (s.reaches c (bufAddr p n 0x10) = true →
        (s.bufOn p n = false → Reports' i s f x 0x0601 0x0022) ∧
        (s.bufOn p n = true → s.portState p ∈ [0, 4] → s.txState p n ∉ [1, 2, 7] → Completes i s fun t => t.txState p n = 5 ∧
          t.rd (Obj.FBC_TXB_FRAME_DLC.ij p n) = dlc ∧ t.bufData p n = word % 2 ^ 512 ∧ AnswersLast s t f x 0x0601 0 (t.txPayload p n)) ∧
        (s.bufOn p n = true → s.portState p ∉ [0, 4] → b.onBus p = false → s.errState p ≤ 1 → s.txState p n ∉ [1, 2, 7] →
          Completes i s fun t => Waits s t f x 0x0601 (.busTx p n) ∧ t.txState p n = 1 ∧ t.rd (Obj.FBC_TXB_FRAME_DLC.ij p n) = dlc ∧
            t.bufData p n = word % 2 ^ 512))) ∧
    (∀ k n : Nat, k < 8 → 1 ≤ n → n ≤ 80 → f.payload = le 1 p ++ le 1 k ++ le 1 n ++ le 1 0 →
      let l := (s.port p).fifos.get [] k
      (s.reaches c (fifoAddr p k 0) = false → Reports' (.cmdBusRxRead f) s f x 0x0602 0x0020) ∧
      (s.reaches c (fifoAddr p k 0) = true → Completes (.cmdBusRxRead f) s fun t => (t.port p).fifos.get [] k = l.drop n ∧
        OneField s t (Obj.FBC_FIFO_FILL.ij p k) ((l.drop n).length % 2 ^ 7) ∧
        Answers s t f x 0x0602 0 (le 1 (l.take n).length ++ le 3 0 ++ (l.take n).flatMap CanElem.bytes))) ∧
    (∀ n : Nat, n < 32 → f.payload = le 1 p ++ le 1 n ++ le 2 0 →
      (s.reaches c (bufAddr p n 0x50) = false → Reports' (.cmdBusTxCancel f) s f x 0x0603 0x0020) ∧
      (s.reaches c (bufAddr p n 0x50) = true → Completes (.cmdBusTxCancel f) s fun t => let st := s.txState p n
        t.txState p n = (if st = 1 ∨ st = 7 then 5 else st) ∧ AnswersLast s t f x 0x0603 0 (le 1 (t.txState p n) ++ le 3 0))) ∧
    (f.payload = le 1 p ++ le 3 0 →
      (c ≠ 0 → Reports' (.cmdBusRecover f) s f x 0x0604 0x0019) ∧
      (c = 0 → (s.errState p ≤ 1 → Checked (.cmdBusRecover f) s f x 0x0604 0x0610) ∧
        (s.errState p = 2 → Completes (.cmdBusRecover f) s fun t => Waits s t f x 0x0604 (.recover p) ∧ t.errState p = 3 ∧
          Kept [Obj.FBC_ERR_STATE.i p, Obj.FBC_RECOVER_WAIT.i p] s t) ∧
        (s.errState p = 3 → Completes (.cmdBusRecover f) s fun t => Waits s t f x 0x0604 (.recover p) ∧ t.regs = s.regs)) ∧
      (c ≠ 0 → s.ownsRange p c = false → Reports' (.cmdBusRangeList f) s f x 0x0605 0x0020) ∧
      (c = 0 ∨ s.ownsRange p c = true →
        let l := (List.range 16).filter fun r => s.on (Obj.FBC_RNG_ENABLE.ij p r) && s.rd (Obj.FBC_RNG_OWNER.ij p r) == c
        Reports (.cmdBusRangeList f) s f x 0x0605 (le 1 l.length ++ le 3 0 ++ l.flatMap fun r =>
          le 4 (s.rd (Obj.FBC_RNG_LOW.ij p r)) ++ le 4 (s.rd (Obj.FBC_RNG_HIGH.ij p r)) ++ le 4 (s.rd (Obj.FBC_RNG_XTD.ij p r)))))


/-! ### Network (spec/12) -/

/-- R300 to R303: a frame on a port that faces tenants is classified to a VLAN ID, counted, learned, and forwarded within its entry
only; one outside the limits of its form or of its VLAN is discarded and counted. A bad check sequence is not counted (the
model's choice, log 38). Rests on the model's choices in logs 4, 20 and 38. -/
def Obligations.TenantFrames : Prop :=
  ∀ (fr : EthFrame) (now : Nat) (s : State), 2 ≤ fr.port.val → fr.port.val ≤ 5 →
    let b := s.advance now
    let p := fr.port.val
    let i : Instr := .ethFrameRx fr now
    let form := 64 ≤ fr.len ∧ fr.len ≤ 1522 ∧ fr.ethertype ≠ 0x88A8
    (s.portUsed p = false → Completes i s fun t => t = b) ∧
    (s.portUsed p = true →
      (¬ form → Completes i s fun t => t.sent = s.sent ∧ Counted s t (Obj.NSW_PORT_DROP_FORM.i p) ∧ Kept [Obj.NSW_PORT_DROP_FORM.i p] s t) ∧
      (form → fr.fcsOk = false → Completes i s fun t => t = b) ∧
      (form → fr.fcsOk = true → fr.ethertype ≠ 0x8808 →
        ((∀ vid, frameVid s p fr.vid = some vid → ∀ v, VlanIs s vid v → s.member v p = false) →
          Completes i s fun t => t.sent = s.sent ∧ Counted s t (Obj.NSW_PORT_DROP_VLAN.i p) ∧ Kept [Obj.NSW_PORT_DROP_VLAN.i p] s t) ∧
        (∀ vid v, frameVid s p fr.vid = some vid → VlanIs s vid v → s.member v p = true → fr.src ≠ fr.dst →
          Completes i s fun t =>
            let out := (towards s v p fr).filter fun q => s.portSends q && (q != 6 || (b.meter v fr.len).2)
            t.sent = s.sent ++ out.map (fun q => Out.eth q (s.rd (Obj.NSW_VLAN_OWNER.i v))) ∧
            Counted s t (Obj.NSW_PORT_RX_FRAMES.i p) ∧ Counted s t (Obj.NSW_VLAN_RX_FRAMES.i v) ∧
            (∀ q ∈ out, Counted s t (Obj.NSW_PORT_TX_FRAMES.i q)) ∧
            (6 ∈ towards s v p fr → (b.meter v fr.len).2 = false → Counted s t (Obj.NSW_VLAN_DROP_RATE.i v)) ∧
            (groupMac fr.src = false → s.nsw.macs.length < 8192 → t.learned vid fr.src = some p))))

/-- R299, R302, R304 to R308: links, modules, ageing and forgetting, and what PRP sends of its own; a frame on a cage in PRP mode
proves its LAN alive; supervision frames and duplicates go no further, and the first of a pair goes to the internal port under
tag 0xFF. A frame of another VLAN is discarded. Rests on the model's choices in logs 4, 20 and 38. -/
def Obligations.BackboneFrames : Prop :=
  (∀ (fr : EthFrame) (now : Nat) (s : State), fr.port.val < 2 → s.portUsed fr.port.val = true → (s.cage fr.port.val).link = true →
     64 ≤ fr.len → fr.len ≤ 1528 → fr.ethertype ≠ 0x88A8 → fr.fcsOk = true →
     let b := s.advance now
     let c := fr.port.val
     let i : Instr := .ethFrameRx fr now
     (Completes i s fun t => (t.cage c).lastFrame = some b.floorTime ∧ t.on (State.lanOk c).f = true) ∧
     (∀ v, fr.vid = some v → v ≠ s.rd Obj.NSW_BB_VID.f ∨ v = 0 → Completes i s fun t => t.sent = s.sent ∧
       Counted s t (Obj.NSW_PORT_DROP_VLAN.i c)) ∧
     (fr.vid = none → s.rd Obj.NSW_BB_MODE.f = 0 → s.mode ≠ 2 →
       (Completes i s fun t => Counted s t (Obj.NSW_PORT_RX_FRAMES.i c) ∧
         (s.nsw.nodes.length < 512 → (fr.src, b.floorTime) ∈ t.nsw.nodes ∧ t.rd Obj.NSW_PRP_NODES.f = t.nsw.nodes.length % 2 ^ 10) ∧
         (∀ r, fr.rct = some r → r.1 ≠ 0xA + c → Counted s t Obj.NSW_PRP_WRONG_LAN.f)) ∧
       (fr.supervision = true ∨ b.duplicate fr = true → Completes i s fun t => t.sent = s.sent) ∧
       (fr.supervision = false → b.duplicate fr = false → s.portSends 6 = true → Completes i s fun t =>
         t.sent = s.sent ++ [Out.eth 6 0xFF] ∧
         ∀ r, fr.ptp = false → fr.rct = some r → (fr.src, r.2, b.floorTime) ∈ t.nsw.dups)) ∧
     (fr.vid = none → s.rd Obj.NSW_BB_MODE.f = 2 → Completes i s fun t =>
       t.sent = s.sent ++ if s.portSends 6 then [Out.eth 6 0xFF] else [])) ∧
  ((∀ (c : Fin 2) (up : Bool) (now : Nat) (s : State), Completes (.linkChange c up now) s fun t =>
     let ok := up && s.portUsed c.val && s.rd (Obj.NSW_PORT_STATUS_MEDIA.i c.val) == 1
     (t.cage c.val).link = ok ∧ t.rd (Obj.NSW_PORT_STATUS_SPEED.i c.val) = (if ok then 3 else 0) ∧ LanJudged s t c.val) ∧
   (∀ (c : Fin 2) (now : Nat) (s : State), Completes (.lanTimeout c now) s fun t => t.nsw = s.nsw ∧ LanJudged s t c.val) ∧
   (∀ (c : Fin 2) (m : SfpModule) (now : Nat) (s : State), Completes (.sfpInsert c m now) s fun t =>
     let media := if m.present = false then 0 else if m.readable = true ∧ m.baseR = true ∧ m.powerMw ≤ 1000 then 1 else 2
     t.rd (Obj.NSW_PORT_STATUS_MEDIA.i c.val) = media ∧
     (media = 1 → t.nsw = s.nsw) ∧
     (media ≠ 1 → (t.cage c.val).link = false ∧ t.rd (Obj.NSW_PORT_STATUS_SPEED.i c.val) = 0 ∧ LanJudged s t c.val)) ∧
   (∀ (mac vid now : Nat) (s : State), let b := s.advance now
     Completes (.addressAgeing mac vid now) s fun t => t.regs = s.regs ∧
       ∀ e, e ∈ t.nsw.macs ↔ e ∈ s.nsw.macs ∧ ¬ (e.vid = vid ∧ e.mac = mac ∧ e.seen + 300000000000 ≤ b.floorTime)) ∧
   (∀ (mac now : Nat) (s : State), let b := s.advance now
     Completes (.nodeForgetTime mac now) s fun t => t.sent = s.sent ∧
       (∀ n, n ∈ t.nsw.nodes ↔ n ∈ s.nsw.nodes ∧ ¬ (n.1 = mac ∧ n.2 + 60000000000 ≤ b.floorTime)) ∧
       (t.nsw.nodes ≠ s.nsw.nodes → t.rd Obj.NSW_PRP_NODES.f = t.nsw.nodes.length % 2 ^ 10)) ∧
   (∀ (now : Nat) (s : State), let b := s.advance now
     let runs := s.nswOn = true ∧ s.rd Obj.NSW_BB_MODE.f = 0 ∧ s.mode ≠ 2
     (runs → Completes (.prpSupervision now) s fun t =>
       t.sent = s.sent ++ ([0, 1].filter s.portSends).map (fun q => Out.eth q 0xFF)) ∧
     (¬ runs → Completes (.prpSupervision now) s fun t => t = b)))


/-! ### Services and legacy buses (spec/12) -/

/-- R310, R311: BACnet/IP requests on a tenant's VLAN reach the entries of that tenant only; a write passes where the entry is
WRITABLE and the point has no source, and the highest active priority of a commandable object is what the point holds. Rests on
the model's choices in logs 4 and 39. -/
def Obligations.BacnetRequests : Prop :=
  ∀ (rq : BacnetRequest) (now : Nat) (s : State), let b := s.advance now
    let i : Instr := .bacnetRequest rq now
    (s.pcxServes = false → Completes i s fun t => t = b) ∧
    (∀ v, VlanIs s rq.vlan v → s.pcxServes = true → let c := s.rd (Obj.NSW_VLAN_OWNER.i v)
      ((∀ m, ¬ Entry s c 0 m) → Completes i s fun t => t = b) ∧
      ((∃ m, Entry s c 0 m) →
        (rq.kind = 3 → Completes i s fun t => t = b.emit (.service c svIAm 0 (s.rd (Obj.NSW_SVC_BAC_DEV_INST.i c)))) ∧
        (rq.kind = 5 → Completes i s fun t => t = b.emit (.service c svRefused 0 0)) ∧
        ((∀ m, ¬ ObjectIs s c rq.objType rq.inst m) → rq.kind ≤ 2 → Completes i s fun t => t = b.emit (.service c svUnknown 0 0)) ∧
        (∀ m, ObjectIs s c rq.objType rq.inst m → let p := s.rd (Obj.NSW_SE_POINT.i m)
          let free := s.on (Obj.NSW_SE_WRITABLE.i m) = true ∧ s.setRefused p = false
          (rq.kind = 0 → Completes i s fun t =>
            t = b.emit (.service c svRead p (if rq.objType ∈ [3, 4, 5] then s.pt p % 2 else s.pt p))) ∧
          (rq.kind = 2 → Completes i s fun t => (t.service m).subscribed = true ∧ t.regs = s.regs ∧
            t.sent = s.sent ++ [.service c svSubscribed p 0]) ∧
          (rq.kind = 1 → ¬ free → Completes i s fun t => t = b.emit (.service c svDenied p 0)) ∧
          (rq.kind = 1 → free → s.scan.hold = none → 1 ≤ rq.priority → rq.priority ≤ 16 →
            (∀ w, rq.write = some w → (rq.objType ∈ [13, 19] → 1 ≤ w.toNat ∧ w.toNat ≤ 65535) →
              (rq.objType ∈ [1, 2, 4, 5, 19] → ∀ k, k + 1 < rq.priority → ((s.service m).prio.getD k none) = none) →
              Completes i s fun t => t.sent = s.sent ++ [.service c svWritten p 0] ∧
                OneField s t (Obj.PIMG_PT.i p) (if rq.objType ∈ [3, 4, 5] then w.toNat % 2 else w.toNat)) ∧
            (rq.write = none → rq.objType ∈ [1, 2, 4, 5, 19] → (∀ k, k + 1 ≠ rq.priority → ((s.service m).prio.getD k none) = none) →
              Completes i s fun t => t.sent = s.sent ++ [.service c svWritten p 0] ∧
                OneField s t (Obj.PIMG_PT.i p) (s.rd (Obj.SCE_STOP_SAFE.i p) % 2 ^ 64))))))

/-- R310 to R312: a message on a set topic, and the notices of a changed value. Rests on the model's choices in logs 4, 20 and 39. -/
def Obligations.TopicsAndNotices : Prop :=
  (∀ (g : MqttMessage) (now : Nat) (s : State), let b := s.advance now
    let i : Instr := .mqttMessage g now
    let mine (m : Nat) : Prop := Entry s g.comp 1 m ∧ s.rd (Obj.NSW_SE_POINT.i m) = g.point
    (s.pcxServes = false ∨ s.mqttUp g.comp = false ∨ (∀ m, ¬ mine m) ∨ g.value = none ∨ s.setRefused g.point = true →
      Completes i s fun t => t = b) ∧
    (∀ m v, s.pcxServes = true → s.mqttUp g.comp = true → mine m → (∀ n, n < m → ¬ mine n) → g.value = some v →
      s.on (Obj.NSW_SE_WRITABLE.i m) = true → s.setRefused g.point = false →
      (s.scan.hold = none → Completes i s fun t => OneField s t (Obj.PIMG_PT.i g.point) v.toNat ∧ t.sent = s.sent) ∧
      (s.scan.hold ≠ none → Completes i s fun t => t.regs = s.regs ∧ t.scan.queued = s.scan.queued ++ [[PtWrite.whole g.point v.toNat]]))) ∧
  (∀ (m : Fin 4096) (now : Nat) (s : State), let b := s.advance now
    let c := s.rd (Obj.NSW_SE_OWNER.i m.val)
    let sv := s.rd (Obj.NSW_SE_SERVICE.i m.val)
    let p := s.rd (Obj.NSW_SE_POINT.i m.val)
    let wanted := (sv = 0 ∧ (s.service m.val).subscribed = true) ∨ (sv ≠ 0 ∧ s.mqttUp c = true)
    let due := ∀ old at_, (s.service m.val).last = some (old, at_) →
      moved (s.rd (Obj.NSW_SE_FORMAT.i m.val)) (s.rd (Obj.NSW_SE_COV_INC.i m.val)) old (s.pt p) = true ∧
      at_ + s.rd (Obj.NSW_SE_PERIOD_MIN.i m.val) * 1000000 ≤ b.floorTime
    let all := s.pcxServes = true ∧ s.on (Obj.NSW_SE_ENABLE.i m.val) = true ∧ wanted ∧ due
    (all → Completes (.covNotify m now) s fun t => (t.service m.val).last = some (s.pt p, b.floorTime) ∧ t.regs = s.regs ∧
      t.sent = s.sent ++ [.service c (if sv = 0 then svNotify else svPublish) p (s.pt p)]) ∧
    (¬ all → Completes (.covNotify m now) s fun t => t = b))

/-- R314, R315, R317: transactions of a legacy port fall due, start one at a time in the order of their due times, are answered,
fail, and are retried. Rests on the model's choices in logs 4, 20, 40 and 41. -/
def Obligations.LegacyTransactions : Prop :=
  (∀ (m : Fin 2048) (now : Nat) (s : State), let b := s.advance now
    let i : Instr := .lbxPollDue m now
    let p := s.lmapPort m.val
    let x := s.lport p
    let changed := s.lmapWrite m.val = true ∧ s.sentOf m.val ≠ some (s.pt (s.lmapPoint m.val))
    let due := s.lmapOn m.val = true ∧ x.running = true ∧
      (changed ∨ s.lmapWrite m.val = false ∨ s.rd (Obj.LBX_MAP_PERIOD.i m.val) ≠ 0)
    (¬ due → Completes i s fun t => t = b) ∧
    (due → (∀ w ∈ x.waiting, w.2 ≠ m.val) → Completes i s fun t => (t.lport p).waiting = x.waiting ++ [(b.floorTime, m.val)] ∧
      t.regs = s.regs ∧ t.sent = s.sent) ∧
    (due → (∃ w ∈ x.waiting, w.2 = m.val) → (changed → Completes i s fun t => t = b) ∧
      (¬ changed → Completes i s fun t => t.lbx = s.lbx ∧
        OneField s t (Obj.LBX_PORT_LATE.i p) ((s.rd (Obj.LBX_PORT_LATE.i p) + 1) % 2 ^ 32)))) ∧
  (∀ (port : Fin 16) (now : Nat) (s : State), let b := s.advance now
    let p := port.val
    let i : Instr := .lbxTransactionStart port now
    let x := s.lport p
    let idle := x.running = true ∧ s.halted 4 = false ∧ x.cur = none ∧ x.quietUntil ≤ b.floorTime
    (¬ idle ∨ x.waiting = [] → Completes i s fun t => t = b) ∧
    (∀ w, idle → DueFirst x.waiting w → let m := w.2
      let silent := s.lmapWrite m = true ∧ ((8 ≤ s.lmapPort m ∧ s.lmapPort m < 14) ∨
        (s.lmapPort m < 8 ∧ s.lmode (s.lmapPort m) = 2 ∧ s.rd (Obj.LBX_MAP_ADDR.i m) % 256 = 0))
      Completes i s fun t => t.regs = s.regs ∧ (t.lport p).waiting = x.waiting.filter (fun z => z.2 != m) ∧
        (s.lmapWrite m = true → t.sentOf m = some (s.pt (s.lmapPoint m))) ∧
        (silent → (t.lport p).cur = none ∧ (p < 8 → (t.lport p).quietUntil = b.floorTime + 100000000)) ∧
        (¬ silent → ∃ c, (t.lport p).cur = some c ∧ c.map = m ∧ c.at_ = b.floorTime ∧ c.left = s.rd (Obj.LBX_PORT_RETRIES.i p) ∧
          c.timeout = s.rd (Obj.LBX_PORT_TIMEOUT.i p) ∧ c.point = s.lmapPoint m ∧ c.write = s.lmapWrite m) ∧
        ∃ bytes, t.sent = s.sent ++ [.legacy p m bytes] ∧
          (s.lmapPort m < 8 → s.lmode (s.lmapPort m) = 2 → let sel := s.rd (Obj.LBX_MAP_SELECT.i m)
            (bytes.take 4 = le 1 (s.rd (Obj.LBX_MAP_ADDR.i m) % 256) ++ le 1 (bits sel 16 8) ++ be 2 (sel % 65536)) ∧
            (bits sel 16 8 ∈ [3, 4] → bytes.drop 4 = be 2 (if s.rd (Obj.LBX_MAP_FORMAT.i m) ∈ [1, 2] then 1 else 2)) ∧
            (bits sel 16 8 = 5 → bytes.drop 4 = be 2 (if s.pt (s.lmapPoint m) % 2 = 1 then 0xFF00 else 0))))) ∧
  (∀ (port : Fin 16) (a : LbxAnswer) (now : Nat) (s : State), let b := s.advance now
    let p := port.val
    let x := s.lport p
    let i : Instr := .lbxAnswer port a now
    (x.running = false ∨ x.cutOff ≠ none ∨ x.cur = none → Completes i s fun t => t = b) ∧
    (∀ c, x.running = true → x.cutOff = none → x.cur = some c →
      let done (t : State) : Prop := (t.lport p).cur = none ∧ t.sent = s.sent ∧
        t.rd (Obj.LBX_PORT_TXN_OK.i p) = (s.rd (Obj.LBX_PORT_TXN_OK.i p) + 1) % 2 ^ 32
      (a.exception = none → c.write = true → Completes i s fun t => done t ∧ Kept [Obj.LBX_PORT_TXN_OK.i p] s t) ∧
      (a.exception = none → c.write = false → c.value p a.data = none → Completes i s fun t => t = b) ∧
      (∀ v, a.exception = none → c.write = false → c.value p a.data = some v →
        (s.discarded p c = true → Completes i s fun t => done t ∧ Kept [Obj.LBX_PORT_TXN_OK.i p] s t) ∧
        (s.discarded p c = false → s.scan.hold = none → c.point < 8192 → Completes i s fun t => done t ∧
          t.pt c.point = v % 2 ^ 64 ∧ t.rd (Obj.PIMG_ATTR_STALE.i c.point) = 0 ∧
          Kept [Obj.LBX_PORT_TXN_OK.i p, Obj.PIMG_PT.i c.point, Obj.PIMG_ATTR_STALE.i c.point] s t)) ∧
      (p < 8 → c.mode = 2 → bits c.select 16 8 = 3 → c.format = 2 → ∀ hi lo, a.data = [hi, lo] →
        c.value p a.data = some (hi.toNat * 256 + lo.toNat)) ∧
      (∀ code, a.exception = some code →
        (p < 8 → c.mode = 2 → Completes i s fun t => t.rd (Obj.LBX_PORT_LAST_EXC.i p) = code.toNat ∧ AttemptFailed s t p b.floorTime c) ∧
        (8 ≤ p ∨ c.mode ≠ 2 → Completes i s fun t => t = b)))) ∧
  (∀ (port : Fin 16) (now : Nat) (s : State), let b := s.advance now
    let p := port.val
    let i : Instr := .lbxTimeout port now
    ((s.lport p).cur = none → Completes i s fun t => t = b) ∧
    ∀ c, (s.lport p).cur = some c →
      (c.at_ + c.timeout * 1000000 ≤ b.floorTime → Completes i s fun t => AttemptFailed s t p b.floorTime c) ∧
      (b.floorTime < c.at_ + c.timeout * 1000000 → Completes i s fun t => t = b))

/-- R316, R318, R319, R473: DALI-2 events, the M-Bus cut-off, MS/TP frames, and the two commands of the legacy ports. What a scan or
an address allocation finds is on the bus: the statement leaves it open. Rests on the model's choices in logs 4, 20, 24, 40 and
41. -/
def Obligations.LegacyBuses : Prop :=
  (∀ (port : Fin 16) (ev : DaliEvent) (now : Nat) (s : State), let b := s.advance now
    let p := port.val
    let i : Instr := .daliEvent port ev now
    let goesTo (m : Nat) : Prop := m < 2048 ∧ s.lmapOn m = true ∧ s.lmapPort m = p ∧ s.lmapWrite m = false ∧
      s.rd (Obj.LBX_MAP_ADDR.i m) = ev.address ∧ 2 ≤ s.rd (Obj.LBX_MAP_SELECT.i m) % 256 ∧ bits (s.rd (Obj.LBX_MAP_SELECT.i m)) 8 8 = ev.inst
    (p < 8 ∨ 14 ≤ p ∨ (s.lport p).running = false → Completes i s fun t => t = b) ∧
    (8 ≤ p → p < 14 → (s.lport p).running = true → s.scan.hold = none → Completes i s fun t =>
      (∀ m, goesTo m → t.pt (s.lmapPoint m) = ev.value.toNat) ∧ t.sent = s.sent ∧
      ∀ g : Fld, (∀ m, goesTo m → (Obj.PIMG_PT.i (s.lmapPoint m)).key ≠ g.key) → t.rd g = s.rd g)) ∧
  (∀ (port : Fin 16) (now : Nat) (s : State), let b := s.advance now
    let p := port.val
    (14 ≤ p → (s.lport p).running = true → Completes (.mbusOverload port now) s fun t =>
      t.lport p = { s.lport p with cutOff := some (b.floorTime + 1000000000) } ∧ t.regs = s.regs ∧ t.sent = s.sent) ∧
    (p < 14 ∨ (s.lport p).running = false → Completes (.mbusOverload port now) s fun t => t = b) ∧
    (∀ u, (s.lport p).cutOff = some u →
      (u ≤ b.floorTime → Completes (.mbusOverloadRestore port now) s fun t => t.lport p = { s.lport p with cutOff := none } ∧
        t.regs = s.regs) ∧
      (b.floorTime < u → Completes (.mbusOverloadRestore port now) s fun t => t = b)) ∧
    ((s.lport p).cutOff = none → Completes (.mbusOverloadRestore port now) s fun t => t = b)) ∧
  (∀ (port : Fin 16) (fr : MstpFrame) (now : Nat) (s : State), let b := s.advance now
    let p := port.val
    let i : Instr := .mstpFrame port fr now
    let me := s.rd (Obj.LBX_PORT_LOCAL_ADDR.i p)
    let heard := p < 8 ∧ s.lmode p = 1 ∧ (s.lport p).running = true ∧ (fr.dst = me ∨ fr.dst = 255)
    let sends (ty dst : Nat) (d : Bytes) : Prop := Completes i s fun t =>
      t = b.emit (.legacy p 0xFFFF (le 1 ty ++ le 1 dst ++ le 1 me ++ d))
    (¬ heard → Completes i s fun t => t = b) ∧
    (heard → (∀ n, fr.ftype = 0 → (s.lport p).nextStation = some n → sends 0 n []) ∧
      (fr.ftype = 0 → (s.lport p).nextStation = none → sends 1 ((me + 1) % (s.rd (Obj.LBX_PORT_MAX_MASTER.i p) + 1)) []) ∧
      (fr.ftype = 1 → sends 2 fr.src []) ∧ (fr.ftype = 3 → sends 4 fr.src fr.data) ∧
      (fr.ftype = 2 → Completes i s fun t => t.lport p = { s.lport p with nextStation := some fr.src } ∧ t.sent = s.sent) ∧
      (fr.ftype = 6 → fr.data = [0x10, 0x08] → s.rd (Obj.LBX_PORT_DEV_INST.i p) ≤ 2 ^ 22 →
        sends 6 255 (be 1 0x10 ++ be 1 0 ++ be 1 0xC4 ++ be 4 (8 * 2 ^ 22 + s.rd (Obj.LBX_PORT_DEV_INST.i p)))))) ∧
  (∀ (f : Frame) (s : State) (x : Session) (p : Nat), Admitted s f x → Hosted s x → p < 256 → f.payload = le 1 p ++ le 3 0 →
    let sees := p < 16 ∧ (x.comp = 0 ∨ s.rd (Obj.LBX_PORT_OWNER.i p) = x.comp)
    (¬ sees → Reports' (.cmdLbxDaliAddress f) s f x 0x0610 0x0020 ∧ Reports' (.cmdLbxMbusScan f) s f x 0x0611 0x0020) ∧
    (sees → p < 8 ∨ 14 ≤ p → Reports' (.cmdLbxDaliAddress f) s f x 0x0610 0x0022) ∧
    (sees → p < 14 → Reports' (.cmdLbxMbusScan f) s f x 0x0611 0x0022) ∧
    (sees → s.failed 4 = false → s.failed 14 = false →
      (8 ≤ p → p < 14 → Completes (.cmdLbxDaliAddress f) s fun t => Untouched s t ∧ ∃ l : List Nat, l.Nodup ∧ (∀ a ∈ l, a < 64) ∧
        Answers s t f x 0x0610 0 (le 1 l.length ++ le 3 0 ++ l.flatMap fun a => le 1 a)) ∧
      (14 ≤ p → Completes (.cmdLbxMbusScan f) s fun t => Untouched s t ∧ ∃ n d, n ≤ 250 ∧ d.length = 8 * n ∧
        Answers s t f x 0x0611 0 (le 1 n ++ le 3 0 ++ d))))

/-! ### Time (spec/13) -/

/-- R326, R327, Table 13-1: what a Sync message does, how lock is won and lost, and the step of floor time. The correction that the
servo applies is free within its limits. Rests on the model's choices in logs 19, 20, 24 and 42. -/
def Obligations.PtpDiscipline : Prop :=
  (∀ (y : PtpSync) (now : Nat) (s : State), let b := s.advance now
    let i : Instr := .ptpSync y now
    let heard := s.failed 5 = false ∧ s.failed 14 = false ∧ s.failed 17 = false ∧ ∀ r, s.ptp.refused = some r → r.1 ≠ y.gm
    (¬ heard → Completes i s fun t => t = b) ∧
    (heard → y.offset < -60000000000 → Completes i s fun t => t.ptp.refused = some (y.gm, b.floorTime + 600000000000) ∧
      t.rd Obj.TIME_FT_STATE_SYNC.f = 0 ∧ t.rd Obj.TIME_EVT_PTP_REJECT.f = 1 ∧ t.floorTime = b.floorTime ∧ t.rtc = b.rtc ∧
      Logged s t 0 0x0B02 (le 8 y.gm)) ∧
    (heard → -60000000000 ≤ y.offset → let sync := s.rd Obj.TIME_FT_STATE_SYNC.f
      Completes i s fun t => t.floorTime = b.floorTime ∧ t.rtc = b.rtc ∧ t.ptp.lastSync = b.floorTime ∧
        t.rd Obj.TIME_PTP_OFS.f = sat32 y.offset ∧ t.rd Obj.TIME_PTP_UTC_OFS.f = y.utcOfs % 2 ^ 16 ∧
        t.rd Obj.TIME_PTP_UTC_OFS_VALID.f = b2n y.utcValid ∧ t.rd Obj.TIME_GM_ID.f = y.gm % 2 ^ 64 ∧
        (sync ∈ [0, 3] → t.rd Obj.TIME_FT_STATE_SYNC.f = 1) ∧
        (sync = 2 → t.rd Obj.TIME_FT_STATE_SYNC.f = 2) ∧
        (10000000 < y.offset → t.on Obj.TIME_FT_STATE_STEP_DUE.f = true ∧ t.ptp.good = 0 ∧ (sync = 1 → t.rd Obj.TIME_FT_STATE_SYNC.f = 1) ∧
          t.rd Obj.TIME_PTP_FREQ.f = s.rd Obj.TIME_PTP_FREQ.f ∧
          (s.castlings = [] → s.ptp.step = none → ∃ S d, t.ptp.step = some (S, d) ∧ S % 10000000 = 0 ∧ b.floorTime + 10000000 ≤ S ∧
            S < b.floorTime + 20000000 ∧ d % 10000000 = 0 ∧ (d : Int) ≤ y.offset ∧ y.offset < d + 10000000) ∧
          (s.castlings ≠ [] → t.ptp.step = s.ptp.step)) ∧
        (y.offset ≤ 10000000 → t.ptp.step = s.ptp.step ∧
          (∃ q : Int, -200000 ≤ q ∧ q ≤ 200000 ∧ t.rd Obj.TIME_PTP_FREQ.f = uns 32 q) ∧
          (¬ (-1000 < y.offset ∧ y.offset < 1000) → t.ptp.good = 0 ∧ (sync = 1 → t.rd Obj.TIME_FT_STATE_SYNC.f = 1)) ∧
          (-1000 < y.offset → y.offset < 1000 → sync = 1 →
            (s.ptp.good < 15 → t.ptp.good = s.ptp.good + 1 ∧ t.rd Obj.TIME_FT_STATE_SYNC.f = 1) ∧
            (15 ≤ s.ptp.good → t.rd Obj.TIME_FT_STATE_SYNC.f = 2 ∧ t.rd Obj.TIME_FT_STATE_ANCHORED.f = 1 ∧
              t.rd Obj.TIME_FT_STATE_CARRIED.f = 0))))) ∧
  (∀ (now : Nat) (s : State), let b := s.advance now
    let lost := s.ptp.lastSync + 3000000000 ≤ b.floorTime ∧ s.rd Obj.TIME_FT_STATE_SYNC.f ∈ [1, 2]
    (lost → Completes (.ptpSyncTimeout now) s fun t => t.rd Obj.TIME_FT_STATE_SYNC.f = 3 ∧ t.rd Obj.TIME_EVT_HOLDOVER.f = 1 ∧
      t.ptp = { s.ptp with good := 0 } ∧ Logged s t 0 0x0B05 [] ∧ Logged s t 1 0x0B05 []) ∧
    (¬ lost → Completes (.ptpSyncTimeout now) s fun t => t = b) ∧
    (∀ g u, s.ptp.refused = some (g, u) → u ≤ b.floorTime → Completes (.gmRetry now) s fun t =>
      t = { b with ptp := { s.ptp with refused := none } }) ∧
    ((∀ g u, s.ptp.refused = some (g, u) → b.floorTime < u) → Completes (.gmRetry now) s fun t => t = b) ∧
    (∀ S d, s.ptp.step = some (S, d) → S ≤ b.floorTime → Completes (.floorTimeStep now) s fun t =>
      t.floorTime = b.floorTime + d ∧ t.rtc = b.rtc ∧ t.ptp = { s.ptp with step := none } ∧
      t.rd Obj.TIME_FT_STATE_STEP_DUE.f = 0 ∧ t.rd Obj.TIME_LAST_STEP.f = d % 2 ^ 64 ∧ t.rd Obj.TIME_LAST_STEP_AT.f = S % 2 ^ 64 ∧
      t.rd Obj.TIME_EVT_STEP.f = 1 ∧ Logged s t 0 0x0B01 (le 8 d ++ le 8 S) ∧ Logged s t 1 0x0B01 (le 8 d ++ le 8 S)) ∧
    ((∀ S d, s.ptp.step = some (S, d) → b.floorTime < S) → Completes (.floorTimeStep now) s fun t => t = b))

/-- R333 to R335, R330, Table 13-4: reading, setting and shifting the calendar by command, and its roll-over. Rests on the model's
choices in logs 24, 43 and 60. -/
def Obligations.CalendarCommands : Prop :=
  (∀ (f : Frame) (s : State) (x : Session), Admitted s f x → Hosted s x → let b := s.advance f.arrival
    (f.payload = [] → Reports (.cmdTimeGet f) s f x 0x0B01 (le 8 b.floorTime ++ le 8 b.rtc.ticks ++ calendarBytes b.rtc.cal ++
      le 2 (b.rtc.cal % 32768) ++ le 2 b.ftState ++ le 4 b.rtcStat)) ∧
    (f.payload ≠ [] → Reports' (.cmdTimeGet f) s f x 0x0B01 0x001A) ∧
    (x.comp ≠ 0 → Reports' (.cmdTimeSet f) s f x 0x0B02 0x0019 ∧ Reports' (.cmdTimeShift f) s f x 0x0B03 0x0019) ∧
    (∀ (cal : Bytes) (sub zone : Nat), x.comp = 0 → cal.length = 8 → sub < 65536 → zone ≤ 1 → f.payload = cal ++ le 2 sub ++ le 1 zone ++ le 1 0 →
      (b.shifting = true → Checked (.cmdTimeSet f) s f x 0x0B02 0x0B02) ∧
      (b.shifting = false → s.on Obj.TIME_CFG_FOLLOW_PTP.f = true → Checked (.cmdTimeSet f) s f x 0x0B02 0x0B03) ∧
      (b.shifting = false → s.on Obj.TIME_CFG_FOLLOW_PTP.f = false →
        (calendarSeconds cal = none ∨ 32768 ≤ sub → Reports' (.cmdTimeSet f) s f x 0x0B02 0x0022) ∧
        ∀ secs, calendarSeconds cal = some secs → sub < 32768 → Completes (.cmdTimeSet f) s fun t =>
          t.rtc = { b.rtc with setReq := some (secs * 32768 + sub, decide (zone = 1)) } ∧ OneField s t Obj.TIME_CFG_ZONE.f zone ∧
          t.sent = s.sent ∧ ∃ y ∈ t.waiters, y.sid = x.id ∧ y.seq = f.seq.toNat ∧ y.cmd = 0x0B02 ∧ y.wait = .timeSet)) ∧
    (∀ n : Nat, x.comp = 0 → n < 65536 → f.payload = le 2 n ++ le 2 0 → let k := sgn 16 n
      (b.shifting = true → Checked (.cmdTimeShift f) s f x 0x0B03 0x0B02) ∧
      (b.shifting = false → n = 0 ∨ n = 32768 → Reports' (.cmdTimeShift f) s f x 0x0B03 0x0022) ∧
      (b.shifting = false → n ≠ 0 → n ≠ 32768 → Completes (.cmdTimeShift f) s fun t => Waits s t f x 0x0B03 .timeShift ∧ t.regs = s.regs ∧
        (0 < k → t.rtc = { b.rtc with add := k.toNat }) ∧ (k < 0 → t.rtc = { b.rtc with suppress := (-k).toNat })))) ∧
  (∀ (now : Nat) (s : State), let b := s.advance now
    (∀ cal zone, s.rtc.setReq = some (cal, zone) → Completes (.calendarSetApply now) s fun t =>
      t.rtc.cal = cal ∧ t.rtc.valid = true ∧ t.rtc.zone = zone ∧ t.rtc.setReq = none ∧ t.rtc.ticks = b.rtc.ticks ∧
      t.floorTime = b.floorTime ∧ t.rd Obj.TIME_SET_COUNT.f = (s.rd Obj.TIME_SET_COUNT.f + 1) % 2 ^ 32 ∧
      t.rd Obj.TIME_EVT_RTC_SET.f = 1 ∧ Logged s t 0 0x0B03 (calendarBytes b.rtc.cal ++ calendarBytes cal) ∧
      Finishes s t .timeSet 0 (le 8 b.rtc.ticks ++ calendarBytes b.rtc.cal)) ∧
    (s.rtc.setReq = none → Completes (.calendarSetApply now) s fun t => t = b) ∧
    (b.shifting = false → Completes (.shiftDone now) s fun t => t.rtc = b.rtc ∧ Finishes s t .timeShift 0 (le 8 b.rtc.ticks)) ∧
    (b.shifting = true → Completes (.shiftDone now) s fun t => t = b) ∧
    (calSpan ≤ b.rtc.cal → Completes (.calendarRollover now) s fun t =>
      t = { b with rtc := { b.rtc with cal := b.rtc.cal % calSpan, valid := false } }) ∧
    (b.rtc.cal < calSpan → Completes (.calendarRollover now) s fun t => t = b))

/-- R336, R337, R341, R342: an alarm fires and arms again, the calendar follows PTP, and the correlation is captured. Rests on the
model's choices in logs 20, 24 and 43. -/
def Obligations.AlarmsAndCorrelation : Prop :=
  (∀ (aa : Fin 16) (now : Nat) (s : State), let b := s.advance now
    let a := aa.val
    let i : Instr := .alarmFire aa now
    let due (o : Nat) : Prop := s.rtc.next.get none a = some o ∧ s.rtc.valid = true ∧ s.on (Obj.TIME_ALM_CFG_ENABLE.i a) = true ∧ o ≤ b.calSecs
    ((∀ o, ¬ due o) → Completes i s fun t => t = b) ∧
    (∀ o, due o → let w := (labelOf o).words
      let detail := le 1 a ++ le 3 0 ++ le 4 w.1 ++ le 4 w.2
      Completes i s fun t => t.rd (Obj.TIME_ALM_STATUS_FIRED.i a) = 1 ∧
        t.rd (Obj.TIME_ALM_LAST.ij a 0) = w.1 % 2 ^ 32 ∧ t.rd (Obj.TIME_ALM_LAST.ij a 1) = w.2 % 2 ^ 32 ∧
        t.rd (Obj.TIME_ALM_FIRE_COUNT.i a) = (s.rd (Obj.TIME_ALM_FIRE_COUNT.i a) + 1) % 2 ^ 32 ∧
        (s.on (Obj.TIME_ALM_CFG_PERIODIC.i a) = false → t.on (Obj.TIME_ALM_CFG_ENABLE.i a) = false ∧ t.rtc.next.get none a = none) ∧
        (s.on (Obj.TIME_ALM_CFG_PERIODIC.i a) = true → t.on (Obj.TIME_ALM_CFG_ENABLE.i a) = true ∧
          t.rtc.next.get none a = (s.alarmSpec a).bind fun y => y.occurrence (b.calSecs + 1)) ∧
        (2 ≤ s.mode → s.mode ≠ 10 → Logged s t 0 0x0B04 detail) ∧
        (s.mode ≤ 1 ∨ s.mode = 10 → ∃ r, t.evr.deferred = s.evr.deferred ++ [(0, r)] ∧ r.trigger = 0x0B04 ∧ r.detail = detail) ∧
        (s.power.transition = none → s.on (Obj.TIME_ALM_CFG_WAKE.i a) = true → bit (s.rd Obj.PWR_WAKE_EN.f) 1 = true →
          (s.mode = 2 → t.power.transition = some { target := 6, cold := false }) ∧
          (s.mode = 1 → t.power.transition = some { target := 3, cold := false }) ∧
          (s.mode ∈ [1, 2] → s.rd Obj.PWR_WAKE_CAUSE.f = 0 → t.rd Obj.PWR_WAKE_CAUSE.f = 2)))) ∧
  (∀ (who : Requester) (v : BitVec 32) (now : Nat) (s : State), let b := s.advance now
    let i : Instr := .timeCfgWrite who v now
    let ofs := sgn 8 (bits v.toNat 8 8)
    (s.compOf who ≠ 0 ∨ ofs < -56 ∨ 56 < ofs → Completes i s fun t => t = b) ∧
    (s.compOf who = 0 → -56 ≤ ofs → ofs ≤ 56 → Completes i s fun t =>
      let r := { b.rtc with zone := v.getLsbD 1 }
      t.rd Obj.TIME_CFG_FOLLOW_PTP.f = v.toNat % 2 ∧ t.rd Obj.TIME_CFG_ZONE.f = b2n (v.getLsbD 1) ∧
      t.rd Obj.TIME_CFG_UTC_OFS.f = bits v.toNat 8 8 ∧ Kept [Obj.TIME_CFG_FOLLOW_PTP.f, Obj.TIME_CFG_ZONE.f, Obj.TIME_CFG_UTC_OFS.f] s t ∧
      (let compare := v.toNat % 2 = 1 ∧ s.on Obj.TIME_PTP_UTC_OFS_VALID.f = true ∧ b.shifting = false;
        (compare → CalendarCompared r t) ∧ (¬ compare → t.rtc = r)))) ∧
  (∀ (now : Nat) (s : State), let b := s.advance now
    let compare := s.rd Obj.TIME_FT_STATE_SYNC.f = 2 ∧ s.on Obj.TIME_CFG_FOLLOW_PTP.f = true ∧
      s.on Obj.TIME_PTP_UTC_OFS_VALID.f = true ∧ b.shifting = false
    (compare → Completes (.ptpCalendarCheck now) s fun t => CalendarCompared b.rtc t ∧ t.regs = s.regs) ∧
    (¬ compare → Completes (.ptpCalendarCheck now) s fun t => t = b) ∧
    (s.on Obj.TIME_CORR_CTRL_AUTO.f = true → Completes (.timeCorrAuto now) s fun t => Correlated s b t) ∧
    (s.on Obj.TIME_CORR_CTRL_AUTO.f = false → Completes (.timeCorrAuto now) s fun t => t = b) ∧
    ∀ who : Requester, (s.compOf who = 0 → Completes (.timeCorrCapture who now) s fun t => Correlated s b t) ∧
      (s.compOf who ≠ 0 → Completes (.timeCorrCapture who now) s fun t => t = b))

/-- R332: the RTC group is frozen for its reader at the first read and released by the last, by time, or by a sixteenth other
reader. Rests on the model's choices in logs 4 and 43. -/
def Obligations.RtcGroup : Prop :=
  ∀ (who : Requester) (now : Nat) (s : State), let b := s.advance now
    let none_ := ∀ x ∈ s.rtc.shadows, x.who ≠ who
    (∀ addr : Nat, addr < 0x20000 ∨ 0x20024 < addr ∨ addr % 4 ≠ 0 → Completes (.rtcGroupRead who addr now) s fun t => t = b) ∧
    (∀ k : Nat, k < 9 → let i : Instr := .rtcGroupRead who (0x20000 + 4 * k) now
      (¬ none_ → Completes i s fun t => t = b) ∧
      (none_ → who ∈ s.rtc.owed → Completes i s fun t => t = b) ∧
      (none_ → who ∉ s.rtc.owed → s.rtc.shadows.length < 16 → Completes i s fun t => t.regs = s.regs ∧
        t.rtc = { b.rtc with shadows := s.rtc.shadows ++ [shadowNow b who] }) ∧
      (∀ x rest, none_ → who ∉ s.rtc.owed → s.rtc.shadows = x :: rest → 16 ≤ s.rtc.shadows.length → (∀ y ∈ rest, y.who ≠ x.who) →
        Completes i s fun t => t.rtc.shadows = rest ++ [shadowNow b who] ∧ ShadowLost s t x.who)) ∧
    (let i : Instr := .rtcGroupRead who 0x20024 now;
      (¬ none_ → Completes i s fun t => t.rtc.shadows = s.rtc.shadows.filter (fun x => x.who != who) ∧ t.regs = s.regs) ∧
      (none_ → Completes i s fun t => t = { b with rtc := { b.rtc with
        owed := if s.rtc.owed.contains who then s.rtc.owed.filter (· != who) else s.rtc.owed } })) ∧
    (∀ x, s.rtc.shadows.find? (fun x => x.who == who) = some x →
      (x.frozenAt + 2000000 ≤ b.floorTime → Completes (.rtcFreezeTimeout who now) s fun t => ShadowLost s t who) ∧
      (b.floorTime < x.frozenAt + 2000000 → Completes (.rtcFreezeTimeout who now) s fun t => t = b)) ∧
    (none_ → Completes (.rtcFreezeTimeout who now) s fun t => t = b)

/-! ### Memories, performance monitor, ageing monitor (spec/18 to spec/20) -/

/-- R424, R427 to R434: uncorrectable errors and what some of them do, the scrub, and march tests on request. How many words a scrub
corrected is free. Rests on the model's choices in logs 20, 24 and 50. -/
def Obligations.Memories : Prop :=
  (∀ (mem bank off now : Nat) (s : State), let b := s.advance now
    let i : Instr := .eccUe mem bank off now
    (13 < mem → Completes i s fun t => t = b) ∧
    (mem ∈ [8, 13] → Completes i s fun t => UeCounted s t mem bank off ∧ t.scan = s.scan ∧ t.power = s.power ∧ t.sent = s.sent) ∧
    (mem = 0 → s.mode ∉ [0, 1, 3, 10] → Completes i s fun t => UeCounted s t mem bank off ∧
      t.power.transition = some { target := 3, cold := false }) ∧
    (∀ e p, e < 2 → mem = e + 1 → b.running e = some p → Completes i s fun t => UeCounted s t mem bank off ∧ plyAt t p = none ∧
      t.rd (taskField Obj.SCE_TRAP_LAST_CODE p) = 7) ∧
    (mem = 9 → s.slotState (off / 128 % 256) ≠ 0 → Completes i s fun t => UeCounted s t mem bank off ∧
      t.slotState (off / 128 % 256) = 0) ∧
    (mem ∈ [6, 7] → 84 ≤ bank → bank ≤ 88 → s.mode ≠ 10 → Completes i s fun t => UeCounted s t mem bank off ∧ t.failed 2 = true)) ∧
  (∀ (now : Nat) (s : State), Completes (.scrub now) s fun t => t.scan = s.scan ∧ t.sent = s.sent ∧
    (∀ m, m < 12 → ∃ n, t.rd (Obj.MEM_CE.i m) = (s.rd (Obj.MEM_CE.i m) + n) % 2 ^ 32) ∧
    Kept ((List.range 12).map Obj.MEM_CE.i) s t) ∧
  (∀ (rows : List Nat) (now : Nat) (s : State), let b := s.advance now
    let i : Instr := .mteTestDone rows now
    (s.mte = none → Completes i s fun t => t = b) ∧
    ∀ x, s.mte = some x → let us := (b.floorTime - x.at_) / 1000
      let used := s.rd (Obj.MEM_BANK_SPARES.i x.bank)
      (rows = [] → Completes i s fun t => TestEnded b t x 0 0 ∧ t.rd Obj.MTE_RES_FIRST.f = 0 ∧
        Finishes s t .mte 0 (le 1 0 ++ le 1 0 ++ le 2 0 ++ le 4 us)) ∧
      (∀ r l, rows = r :: l → x.bank < 99 → used + rows.length ≤ 4 → s.power.causes = [] → Completes i s fun t =>
        TestEnded b t x 1 rows.length ∧ t.rd Obj.MTE_RES_FIRST.f % 2 ^ 16 = r % 2 ^ 16 ∧
        t.rd (Obj.MEM_BANK_SPARES.i x.bank) = used + rows.length ∧ t.rd (Obj.MEM_BANK_FAILED.i x.bank) = 0 ∧
        t.rd (Obj.MEM_BANK_LAST_ROW.i x.bank) = rows.getLastD 0 % 2 ^ 16 ∧
        Logged s t 0 0x0C41 (le 2 x.bank ++ le 2 rows.length) ∧ Logged s t 1 0x0C41 (le 2 x.bank ++ le 2 rows.length) ∧
        Finishes s t .mte 0 (le 1 1 ++ le 1 0 ++ le 2 rows.length ++ le 4 us)) ∧
      (x.bank < 99 → 4 < used + rows.length → rows ≠ [] → Completes i s fun t =>
        TestEnded b t x 2 rows.length ∧ t.rd (Obj.MEM_BANK_FAILED.i x.bank) = 1 ∧ t.rd Obj.MEM_EVT_BANK_FAIL.f = 1 ∧
        Logged s t 0 0x0C42 (le 2 x.bank))) ∧
  (∀ (f : Frame) (s : State) (x : Session), Admitted s f x → 4 ≤ s.mode → s.mode ≤ 9 → let a := s.advance f.arrival
    (∀ bank m, bank < 65536 → m < 2 → f.payload = le 2 bank ++ le 1 m ++ le 1 0 → let i : Instr := .cmdDiagMteRun f
      let may := s.failed 13 = false ∧ bank ≤ 154 ∧ s.mte = none
      let fits := if m = 1 then mayPreserve bank s.mode = true else s.mode = 8 ∧ s.regionFree bank = true
      (x.comp ≠ 0 → Reports' i s f x 0x0C40 0x0019) ∧
      (x.comp = 0 → s.failed 13 = true → Reports' i s f x 0x0C40 0x0060) ∧
      (x.comp = 0 → s.failed 13 = false → 154 < bank → Reports' i s f x 0x0C40 0x0022) ∧
      (x.comp = 0 → s.failed 13 = false → bank ≤ 154 → s.mte ≠ none → Reports' i s f x 0x0C40 0x0040) ∧
      (x.comp = 0 → may → ¬ fits → Checked i s f x 0x0C40 (if m = 1 then 0x0C41 else 0x0C42)) ∧
      (x.comp = 0 → may → fits → Completes i s fun t => Waits s t f x 0x0C40 .mte ∧
        t.mte = some { bank := bank, preserving := decide (m = 1), at_ := a.floorTime } ∧ t.rd Obj.MTE_STATE_RUNNING.f = 1 ∧
        t.rd Obj.MTE_RES_BANK.f = bank ∧ t.rd Obj.MTE_RES_MODE.f = m)) ∧
    (f.payload = [] → let i : Instr := .cmdDiagMteAbort f
      (x.comp ≠ 0 → Reports' i s f x 0x0C41 0x0019) ∧
      (x.comp = 0 → s.failed 13 = false → s.mte = none → Reports i s f x 0x0C41 []) ∧
      (∀ y, x.comp = 0 → s.failed 13 = false → s.mte = some y → Completes i s fun t => TestEnded a t y 3 0 ∧
        t.waiters = s.waiters.filter (fun z => z.wait != .mte) ∧ AnswersLast s t f x 0x0C41 0 [])))

/-- R440 to R443, R446, R447, R449: the switches of the monitor, freezes, dumps and samples. Rests on the model's choices in logs
18, 20, 24 and 52. -/
def Obligations.MonitorEvents : Prop :=
  (∀ (who : Requester) (on : Bool) (now : Nat) (s : State), let b := s.advance now
    (¬ PmonWriter s who → (Completes (.pmonRun who on now) s fun t => t = b) ∧ (Completes (.pmonFreeze who now) s fun t => t = b) ∧
      (Completes (.pmonArm who now) s fun t => t = b) ∧ (Completes (.pmonDumpEn who on now) s fun t => t = b) ∧
      Completes (.pmonSampEn who on now) s fun t => t = b) ∧
    (PmonWriter s who →
      (Completes (.pmonRun who on now) s fun t => OneField s t Obj.PMON_CTRL_RUN.f (b2n on) ∧ t.pmon = s.pmon) ∧
      (s.pmonUnits ≤ 4 → Completes (.pmonFreeze who now) s fun t => Frozen b t) ∧
      (4 < s.pmonUnits → Completes (.pmonFreeze who now) s fun t => t = b) ∧
      (b.floorTime < s.rd Obj.PMON_FREEZE_AT.f → Completes (.pmonArm who now) s fun t => OneField s t Obj.PMON_STATUS_ARMED.f 1 ∧ t.pmon = s.pmon) ∧
      (s.rd Obj.PMON_FREEZE_AT.f ≤ b.floorTime → s.pmonUnits ≤ 4 → Completes (.pmonArm who now) s fun t => Frozen b t ∧
        t.rd Obj.PMON_STATUS_ARMED.f = 0) ∧
      (on = true → s.failed 14 = true → Completes (.pmonDumpEn who on now) s fun t => t = b) ∧
      (on = false → Completes (.pmonDumpEn who on now) s fun t => OneField s t Obj.PMON_CTRL_DUMP_EN.f 0 ∧ t.pmon = s.pmon) ∧
      (on = true → s.failed 14 = false → Completes (.pmonDumpEn who on now) s fun t => t.rd Obj.PMON_CTRL_DUMP_EN.f = 1 ∧
        (s.on Obj.PMON_CTRL_DUMP_EN.f = true → t.pmon = s.pmon) ∧
        (s.on Obj.PMON_CTRL_DUMP_EN.f = false → t.pmon = { s.pmon with dump := [], dumpCap := 2048 * s.rd Obj.PMON_DUMP_SIZE.f } ∧
          t.rd Obj.PMON_DUMP_NEWEST.f = 0 ∧ t.rd Obj.PMON_DUMP_OLDEST.f = 0)) ∧
      (on = false ∨ s.on Obj.PMON_CTRL_SAMP_EN.f = true → Completes (.pmonSampEn who on now) s fun t =>
        OneField s t Obj.PMON_CTRL_SAMP_EN.f (b2n on) ∧ t.pmon = s.pmon) ∧
      (on = true → s.on Obj.PMON_CTRL_SAMP_EN.f = false → Completes (.pmonSampEn who on now) s fun t =>
        OneField s t Obj.PMON_CTRL_SAMP_EN.f 1 ∧ t.pmon.lfsr = lfsrStep (lfsrStep (s.rd Obj.PMON_SAMP_SEED.f)) ∧
        (s.pmon.counts.length = 2 → ∀ e, e < 2 → let m := 2 ^ s.rd Obj.PMON_SAMP_RAND.f
          let n := s.rd Obj.PMON_SAMP_N.f
          n - n % m ≤ t.pmon.counts.getD e 0 ∧ t.pmon.counts.getD e 0 < n - n % m + m)))) ∧
  (∀ (now : Nat) (s : State), let b := s.advance now
    let due := s.on Obj.PMON_STATUS_ARMED.f = true ∧ s.rd Obj.PMON_FREEZE_AT.f ≤ b.floorTime ∧ s.failed 11 = false
    (¬ due → Completes (.pmonArmedFreeze now) s fun t => t = b) ∧
    (due → s.pmonUnits ≤ 4 → Completes (.pmonArmedFreeze now) s fun t => Frozen b t ∧ t.rd Obj.PMON_STATUS_ARMED.f = 0) ∧
    (due → 4 < s.pmonUnits → Completes (.pmonArmedFreeze now) s fun t => t.pmon = s.pmon ∧ t.rd Obj.PMON_STATUS_ARMED.f = 0 ∧
      t.rd Obj.PMON_EVT_FREEZE_DROP.f = 1 ∧ Logged s t 0 0x0C01 [] ∧ Logged s t 1 0x0C01 [])) ∧
  (∀ (now : Nat) (s : State), let b := s.advance now
    let due := s.on Obj.PMON_CTRL_DUMP_EN.f = true ∧ b.floorTime % (100000 * s.rd Obj.PMON_DUMP_INTERVAL.f) = 0 ∧
      s.failed 11 = false ∧ s.failed 14 = false
    (¬ due → Completes (.pmonDump now) s fun t => t = b) ∧
    (due → Completes (.pmonDump now) s fun t => let q := nextSeq s.pmon.dumpSeq
      ∃ body, (let l := s.pmon.dump ++ [(q, le 4 q ++ body ++ le 4 q)];
        t.pmon.dump = l.drop (l.length - s.pmon.dumpCap)) ∧ t.pmon.dumpSeq = q ∧ t.rd Obj.PMON_DUMP_NEWEST.f = q ∧
        (s.pmon.lastFreeze = some b.floorTime → body = b.frozenBody) ∧
        (s.pmon.lastFreeze ≠ some b.floorTime → ∃ span, span ≤ 2000 ∧ body = dumpBody (s.on Obj.PMON_CTRL_RUN.f) false b.floorTime span
          b.pmonCyc fun x => b.perfNow x.1 x.2))) ∧
  (∀ (e : Fin 2) (now : Nat) (s : State), let b := s.advance now
    let found := s.pmon.sampled.find? fun x => x.engine == e.val
    (found = none → Completes (.pmonSample e now) s fun t => t = b) ∧
    ∀ x, found = some x →
      (s.on Obj.PMON_STATUS_SAMP_STOPPED.f = true ∨ s.failed 11 = true → Completes (.pmonSample e now) s fun t =>
        t.pmon = { s.pmon with sampled := s.pmon.sampled.erase x } ∧ t.regs = s.regs) ∧
      (s.on Obj.PMON_STATUS_SAMP_STOPPED.f = false → s.failed 11 = false → Completes (.pmonSample e now) s fun t =>
        let q := nextSeq s.pmon.sampSeq
        ∃ r, (let l := s.pmon.samp ++ [(q, r)]; t.pmon.samp = l.drop (l.length - 2048) ∧
            (2048 ≤ l.length → s.on Obj.PMON_SAMP_WRAP.f = false → t.rd Obj.PMON_STATUS_SAMP_STOPPED.f = 1 ∧
              t.rd Obj.PMON_EVT_SAMP_FULL.f = 1 ∧ Logged s t 0 0x0C02 []) ∧
            (l.length < 2048 → t.rd Obj.PMON_SAMP_HELD.f = l.length)) ∧
          r.take 12 = le 4 q ++ le 4 (x.pc % 2 ^ 22 + 2 ^ 22 * (x.engine % 2) + 2 ^ 23 * (x.entry % 16)) ++ le 4 x.op ∧
          field r 12 1 = x.comp % 256 ∧ r.drop 24 = le 8 b.floorTime ∧ r.length = 32 ∧ t.rd Obj.PMON_SAMP_NEWEST.f = q))

/-- R441, R449, Table 19-5: the monitor's commands. Rests on the model's choices in logs 18 and 52. -/
def Obligations.MonitorCommands : Prop :=
  ∀ (f : Frame) (s : State) (x : Session), Admitted s f x → 4 ≤ s.mode → s.mode ≤ 9 → let c := x.comp
    (2 ≤ c → Reports' (.cmdDiagPmonFreeze f) s f x 0x0C01 0x0019 ∧ Reports' (.cmdDiagPmonDumpRead f) s f x 0x0C02 0x0019) ∧
    (c < 2 → s.failed 11 = false → f.payload = [] →
      (4 < s.pmonUnits → Checked (.cmdDiagPmonFreeze f) s f x 0x0C01 0x0C01) ∧
      (s.pmonUnits ≤ 4 → Completes (.cmdDiagPmonFreeze f) s fun t =>
        t.rd Obj.PMON_FREEZE_TIME.f = (s.advance f.arrival).floorTime % 2 ^ 64 ∧
        t.rd Obj.PMON_FREEZE_SEQ.f = (s.rd Obj.PMON_FREEZE_SEQ.f + 1) % 2 ^ 32 ∧
        ∃ n, Answers s t f x 0x0C01 0 (le 4 n ++ t.frozenBody ++ le 4 n))) ∧
    (∀ first count : Nat, c < 2 → s.failed 11 = false → first < 2 ^ 32 → 1 ≤ count → count ≤ 159 → f.payload = le 4 first ++ le 2 count ++ le 2 0 →
      (¬ Held s.pmon.dump first → Reports' (.cmdDiagPmonDumpRead f) s f x 0x0C02 0x0024) ∧
      (Held s.pmon.dump first → Reports (.cmdDiagPmonDumpRead f) s f x 0x0C02
        (records (((s.pmon.dump.filter fun r => ! seqAfter first r.1).take count).map (·.2))))) ∧
    (∀ first count flags : Nat, c < 34 → first < 2 ^ 32 → 1 ≤ count → count ≤ 2048 → flags < 2 →
      f.payload = le 4 first ++ le 2 count ++ le 1 flags ++ le 1 0 → let i : Instr := .cmdDiagPmonSampleRead f
      let open_ := c < 2 ∨ bit (s.rd Obj.PERF_USER_EN.f) c = true
      let mine := c < 2 ∨ (s.on Obj.PMON_SAMP_FILTER_EN.f = true ∧ s.rd Obj.PMON_SAMP_COMP.f = c)
      (¬ open_ → Reports' i s f x 0x0C03 0x0019) ∧
      (open_ → ¬ mine → Reports' i s f x 0x0C03 0x0020) ∧
      (open_ → mine → s.failed 11 = false →
        (¬ Held s.pmon.samp first → Reports' i s f x 0x0C03 0x0024) ∧
        (Held s.pmon.samp first →
          let got := ((s.pmon.samp.filter fun r => ! seqAfter first r.1).filter fun r => decide (c < 2) || field r.2 12 1 == c).take count
          let reply := records (got.map fun r => if c < 2 then redact r.2 else r.2)
          (flags = 0 ∨ got = [] → Reports i s f x 0x0C03 reply) ∧
          (flags = 1 → got ≠ [] → Completes i s fun t => Answers s t f x 0x0C03 0 reply ∧
            t.pmon.samp = s.pmon.samp.filter (fun r => ! got.contains r) ∧
            (s.on Obj.PMON_STATUS_SAMP_STOPPED.f = true → t.rd Obj.PMON_STATUS_SAMP_STOPPED.f = 0) ∧
            t.rd Obj.PMON_SAMP_HELD.f = t.pmon.samp.length % 2 ^ 12))))

/-- R452 to R464: measurements, re-plans and their commands. Rests on the model's choices in logs 20, 24, 53 and 54. -/
def Obligations.AgeingMonitor : Prop :=
  (∀ (m : AgmMeasure) (now : Nat) (s : State), let b := s.advance now
    let i : Instr := .agmMeasureDue m now
    let runs := s.failed 12 = false ∧ b.agmOpen m.kind = true ∧ m.kind ≠ 3 ∧ s.agm.running ≠ some m.kind
    (¬ runs → Completes i s fun t => t = b) ∧
    (runs → m.kind = 5 → Completes i s fun t =>
      t.rd Obj.AGM_MRAM_CE_DAY.f = (s.rd (Obj.MEM_CE.i 12) + 2 ^ 32 - s.agm.ceAt) % 2 ^ 32 ∧ t.agm.ceAt = s.rd (Obj.MEM_CE.i 12)) ∧
    (runs → m.kind = 8 → Completes i s fun t => t.rd Obj.AGM_SFP_A.f = m.values.getD 0 0 % 4 ∧ t.rd Obj.AGM_SFP_B.f = m.values.getD 1 0 % 4) ∧
    (∀ v rest, runs → m.kind = 2 → m.values = v :: rest → Completes i s fun t => t.rd Obj.AGM_DROOP_MAX.f = (t.agm.droops.map (·.2)).foldl max 0 % 2 ^ 16 ∧
      (b.floorTime, v) ∈ t.agm.droops ∧ ∀ y ∈ t.agm.droops, b.floorTime ≤ y.1 + 7 * 86400000000000) ∧
    (∀ mv r rest, runs → m.kind = 4 → m.values = mv :: r :: rest → Completes i s fun t =>
      t.rd Obj.PWR_VCELL.f = mv % 2 ^ 16 ∧ t.rd Obj.AGM_CELL_RINT.f = r % 2 ^ 16 ∧
      t.rd Obj.PWR_STATUS_CELL_LOW.f = b2n (decide (mv % 2 ^ 16 < 2500)) ∧ t.castlings = s.castlings ∧
      (mv % 2 ^ 16 < 2500 ∨ 1500 < r % 2 ^ 16 → t.rd Obj.AGM_CELL_DAYS.f = 0 ∧
        (5 ∉ s.agm.crossed → t.rd Obj.AGM_EVT_SERVICE.f = 1 ∧ Logged s t 0 0x0C24 (le 1 5 ++ le 1 0) ∧
          Logged s t 1 0x0C24 (le 1 5 ++ le 1 0)))) ∧
    (s.agm.running ≠ some m.kind → Completes (.agmMeasurementEnd m now) s fun t => t = b) ∧
    (s.agm.running = some m.kind → s.failed 12 = true → Completes (.agmMeasurementEnd m now) s fun t => t.agm.running = none ∧
      Finishes s t .agm 0x0060 []) ∧
    (∀ cap esr rest, s.agm.running = some 3 → m.kind = 3 → s.failed 12 = false → m.values = cap :: esr :: rest →
      Completes (.agmMeasurementEnd m now) s fun t => t.agm.running = none ∧
        t.rd Obj.PWR_HOLDUP_CAP.f = cap % 2 ^ 16 ∧ t.rd Obj.AGM_HOLDUP_ESR.f = esr % 2 ^ 16 ∧
        t.rd Obj.PWR_HOLDUP_AVAIL.f = cap % 2 ^ 16 * 6912 / 100 ∧ t.rd Obj.AGM_HOLDUP_TIME.f = b.floorTime % 2 ^ 64 ∧
        Finishes s t .agm 0 (le 2 (cap % 2 ^ 16) ++ le 2 (esr % 2 ^ 16) ++ le 12 0))) ∧
  (∀ (now : Nat) (s : State), let b := s.advance now
    (let opens := s.failed 12 = false ∧ b.agmOpen 3 = true ∧ s.agm.running = none;
      (¬ opens → Completes (.holdupTest now) s fun t => t = b) ∧
      (opens → Completes (.holdupTest now) s fun t =>
        t = if 22000 ≤ Config.inputMilliVolts b.floorTime % 65536 then { b with agm := { s.agm with running := some 3 } } else b)) ∧
    (let due := s.failed 12 = false ∧ (s.mode = 2 ∨ (5 ≤ s.mode ∧ s.mode ≤ 9)) ∧ ∃ u, s.agm.retryAt = some u ∧ u ≤ b.floorTime;
      (¬ due → Completes (.agmReplanRetry now) s fun t => t = b) ∧
      (due → b.formPlan wholePlan false = none → Completes (.agmReplanRetry now) s fun t =>
        t = { b with agm := { s.agm with retryAt := none, refused := false } }) ∧
      (∀ p, due → b.formPlan wholePlan false = some p →
        (∀ st, b.planRefusal = some st → Completes (.agmReplanRetry now) s fun t => PlanWaits s b t p st) ∧
        (b.planRefusal = none → b.planInstant p (planPart b p) = none → Completes (.agmReplanRetry now) s fun t => PlanWaits s b t p 0x0041) ∧
        (∀ tC, b.planRefusal = none → b.planInstant p (planPart b p) = some tC → Completes (.agmReplanRetry now) s fun t =>
          PlanStands s b t p tC)))) ∧
  (∀ (f : Frame) (s : State) (x : Session), Admitted s f x → 4 ≤ s.mode → s.mode ≤ 9 → let b := s.advance f.arrival
    (∀ k : Nat, k < 9 → f.payload = le 1 k ++ le 3 0 → let i : Instr := .cmdDiagAgmMeasure f
      (x.comp ≠ 0 → Reports' i s f x 0x0C20 0x0019) ∧
      (x.comp = 0 → s.failed 12 = true → Reports' i s f x 0x0C20 0x0060) ∧
      (x.comp = 0 → s.failed 12 = false → b.agmOpen k = false → Checked i s f x 0x0C20 0x0C21) ∧
      (x.comp = 0 → s.failed 12 = false → b.agmOpen k = true → s.agm.running ≠ none → Checked i s f x 0x0C20 0x0C22) ∧
      (x.comp = 0 → s.failed 12 = false → b.agmOpen k = true → s.agm.running = none → Completes i s fun t =>
        Waits s t f x 0x0C20 .agm ∧ t.agm = { s.agm with running := some k } ∧ t.regs = s.regs)) ∧
    (∀ relax : Bool, f.payload = le 1 (b2n relax) ++ le 3 0 → let i : Instr := .cmdDiagAgmReplan f
      let form := b.formPlan { margin := ! relax, commit := ! relax, tdco := ! relax } relax
      (x.comp ≠ 0 → Reports' i s f x 0x0C21 0x0019) ∧
      (x.comp = 0 → s.failed 12 = true → Reports' i s f x 0x0C21 0x0060) ∧
      (x.comp = 0 → s.failed 12 = false → form = none → Reports i s f x 0x0C21 (le 1 0 ++ le 3 0 ++ le 8 0)) ∧
      (∀ p st, x.comp = 0 → s.failed 12 = false → form = some p → b.planRefusal = some st → Completes i s fun t =>
        PlanWaits s b t p st ∧ Answers s t f x 0x0C21 0 (le 1 0 ++ le 3 0 ++ le 8 0)) ∧
      (∀ p tC, x.comp = 0 → s.failed 12 = false → form = some p → b.planRefusal = none → b.planInstant p (planPart b p) = some tC →
        Completes i s fun t => PlanStands s b t p tC ∧ Answers s t f x 0x0C21 0 (le 1 1 ++ le 3 0 ++ le 8 tC))))

/-! ### Reset and invariants -/

/-- What reset leaves: mode M3 of a part that is MANUFACTURED (the entry of the first boot, the model's choices in logs 5 to 8),
floor time and calendar unset, nothing queued, received, staged, pending or running, and the reset values that the field tables
give, one or more of every block. -/
def Obligations.ResetState : Prop :=
  let s := State.reset
  s.mode = 3 ∧ s.lcy.state = 1 ∧ s.floorTime = 0 ∧ s.rtc.valid = false ∧ s.pending = [] ∧ s.sent = [] ∧ s.sessions = [] ∧ s.waiters = [] ∧
  s.conns = [] ∧ s.stagings = [] ∧ s.castlings = [] ∧ s.scan.plies = [] ∧ s.evr.pend = [] ∧ s.mbx.fifo = [] ∧ s.mte = none ∧
  (∀ p, p < 24 → (s.port p).fifos = [] ∧ s.errState p = 0 ∧ s.rd (Obj.FBC_NBT_NBRP.i p) = 8 ∧ s.rd (Obj.FBC_NBT_NTSEG1.i p) = 69 ∧
    s.rd (Obj.FBC_TDCO.i p) = 30 ∧ s.rd (Obj.FBC_RECOVER_DELAY.i p) = 100) ∧
  (∀ c, c < 34 → s.rd (Obj.SCE_STATE.b c) = 0 ∧ s.rd (Obj.SCE_RET_PERIOD.b c) = 10 ∧ s.rd (Obj.CAST_STAGE_STATE.b c) = 0) ∧
  (∀ v, v < 4 → s.rd (Obj.MAE_SET_UN.i v) = 2300 ∧ s.rd (Obj.MAE_SET_FRAMING.i v) = 3) ∧
  (∀ k, k < 256 → s.slotState k = 0 ∧ s.rd (Obj.KSE_SLOT_PARENT.i k) = 0x100) ∧
  (∀ p, p < 7 → s.rd (Obj.NSW_PORT_CFG_ENABLE.i p) = 1) ∧ (∀ p, p < 16 → s.rd (Obj.LBX_PORT_TIMEOUT.i p) = 500 ∧ s.lmode p = 0) ∧
  s.rd Obj.CAST_COMP_EXIST.f = 3 ∧ s.rd Obj.CAST_LEAD_MIN.f = 2000 ∧ s.rd Obj.PWR_WAKE_EN.f = 63 ∧ s.rd Obj.PWR_M9_LIMIT.f = 3600 ∧
  s.rd Obj.TIME_CORR_CTRL_AUTO.f = 1 ∧ s.rd Obj.MAE_LATCH_N.f = 50 ∧ s.rd Obj.PMON_DUMP_INTERVAL.f = 10000 ∧
  s.rd Obj.PMON_SAMP_N.f = 65536 ∧ s.rd Obj.AGM_PLAN_SCE_CLK.f = 800 ∧ s.rd Obj.AGM_PLAN_VCORE_GB.f = 20

/-- The stored fields are in canonical form after reset. -/
def Obligations.CellsAtReset : Prop := State.reset.regs.wf = true

/-- Every step keeps the stored fields in canonical form: their places strictly rising, none at its reset value. Equal fields are
then equal data. -/
def Obligations.CellsKept : Prop :=
  ∀ s t : State, s.regs.wf = true → step s = .next t → t.regs.wf = true

/-- R21: floor time never decreases, whatever the command, from a mode in which the floor-time PLL runs. (In M0 and M1 it is not
counted, and starts again from the pair that the backup domain kept.) Rests on the model's choice in log 21. -/
def Obligations.FloorTimeNeverDecreases : Prop :=
  ∀ s t : State, 2 ≤ s.mode → step s = .next t → s.floorTime ≤ t.floorTime
end

