-- ==== Sys2Proof/Laws/Cells.lean ====
section
/-!
SUPPORT. The stored fields: reading what was written, and the canonical form.
-/
namespace Sys2Proof.Machine

/-! ### Reading after writing -/

theorem Cells.get_ins (c : Cells) (f g : Fld) (v : Nat) (h : ∀ p ∈ c, p.1.key ≠ f.key) :
    (c.ins f v).get g = if f.key = g.key then v else c.get g := by
  induction c with
  | nil => simp only [Cells.ins, Cells.get]
  | cons p r ih =>
    obtain ⟨k, w⟩ := p
    have hk : k.key ≠ f.key := h (k, w) (by simp)
    have hr := ih fun p hp => h p (by simp [hp])
    by_cases hlt : f.key < k.key
    · simp [Cells.ins, hlt, Cells.get]
    · simp only [Cells.ins, hlt, if_false, Cells.get, hr]
      by_cases hg : k.key = g.key
      · simp only [hg, if_true]
        have : f.key ≠ g.key := fun e => hk (hg.trans e.symm)
        simp [this]
      · simp [hg]

theorem Cells.get_del_ne (c : Cells) (f g : Fld) (h : f.key ≠ g.key) : (c.del f).get g = c.get g := by
  induction c with
  | nil => rfl
  | cons p r ih =>
    obtain ⟨k, w⟩ := p
    by_cases hk : k.key = f.key
    · have : k.key ≠ g.key := fun e => h (hk.symm.trans e)
      simp only [Cells.del, List.filter_cons, hk, bne_self_eq_false, Bool.false_eq_true, if_false, Cells.get]
      simpa [Cells.del, this, h] using ih
    · have hb : (k.key != f.key) = true := by simpa using hk
      simp only [Cells.del, List.filter_cons, hb, if_true, Cells.get]
      simpa [Cells.del] using congrArg (fun x => if k.key = g.key then w else x) ih

theorem Cells.get_del_self (c : Cells) (f : Fld) : (c.del f).get f = f.reset := by
  induction c with
  | nil => rfl
  | cons p r ih =>
    obtain ⟨k, w⟩ := p
    by_cases hk : k.key = f.key
    · simpa [Cells.del, List.filter_cons, hk] using ih
    · have hb : (k.key != f.key) = true := by simpa using hk
      simpa [Cells.del, List.filter_cons, hb, Cells.get, hk] using ih

theorem Cells.del_keys (c : Cells) (f : Fld) : ∀ p ∈ c.del f, p.1.key ≠ f.key := by
  intro p hp
  simpa [Cells.del] using (List.mem_filter.mp hp).2

/-- A field reads what was written to it. -/
theorem Cells.get_put_self (c : Cells) (f : Fld) (v : Nat) : (c.put f v).get f = v := by
  unfold Cells.put
  split
  · rename_i h
    rw [Cells.get_del_self, h]
  · rw [Cells.get_ins _ _ _ _ (Cells.del_keys c f)]
    simp

/-- A write leaves every field at another place alone. -/
theorem Cells.get_put_ne (c : Cells) (f g : Fld) (v : Nat) (h : f.key ≠ g.key) : (c.put f v).get g = c.get g := by
  unfold Cells.put
  split
  · exact Cells.get_del_ne c f g h
  · rw [Cells.get_ins _ _ _ _ (Cells.del_keys c f), if_neg h, Cells.get_del_ne c f g h]

/-! ### Canonical form -/

/-- The least place of a list lies above `k`. -/
def Cells.above (k : Nat) : Cells → Prop
  | [] => True
  | (g, _) :: _ => k < g.key

theorem Cells.wf_cons (f : Fld) (v : Nat) (r : Cells) :
    Cells.wf ((f, v) :: r) = true ↔ v ≠ f.reset ∧ Cells.above f.key r ∧ Cells.wf r = true := by
  cases r with
  | nil => simp [Cells.wf, Cells.above]
  | cons p r => obtain ⟨g, w⟩ := p; simp [Cells.wf, Cells.above, and_assoc]

theorem Cells.above_trans {j k : Nat} {c : Cells} (h : j ≤ k) (a : Cells.above k c) : Cells.above j c := by
  cases c with
  | nil => trivial
  | cons p r => exact Nat.lt_of_le_of_lt h a

theorem Cells.above_all {k : Nat} {c : Cells} (w : Cells.wf c = true) (a : Cells.above k c) : ∀ p ∈ c, k < p.1.key := by
  induction c generalizing k with
  | nil => simp
  | cons p r ih =>
    obtain ⟨g, v⟩ := p
    have := (Cells.wf_cons g v r).mp w
    intro q hq
    rcases List.mem_cons.mp hq with rfl | hq
    · exact a
    · exact Nat.lt_trans a (ih this.2.2 this.2.1 q hq)

/-- Leaving cells out keeps the form. -/
theorem Cells.wf_filter (c : Cells) (q : Fld × Nat → Bool) (w : Cells.wf c = true) : Cells.wf (c.filter q) = true := by
  induction c with
  | nil => rfl
  | cons p r ih =>
    obtain ⟨g, v⟩ := p
    have h := (Cells.wf_cons g v r).mp w
    have hr := ih h.2.2
    rw [List.filter_cons]
    split
    · refine (Cells.wf_cons g v _).mpr ⟨h.1, ?_, hr⟩
      cases hf : r.filter q with
      | nil => trivial
      | cons x l =>
        have hx : x ∈ r := (List.mem_filter.mp (hf ▸ List.mem_cons_self : x ∈ r.filter q)).1
        exact Cells.above_all h.2.2 h.2.1 x hx
    · exact hr

theorem Cells.wf_ins (c : Cells) (f : Fld) (v : Nat) (w : Cells.wf c = true) (hv : v ≠ f.reset) (hk : ∀ p ∈ c, p.1.key ≠ f.key) :
    Cells.wf (c.ins f v) = true ∧ ∀ k, k < f.key → Cells.above k c → Cells.above k (c.ins f v) := by
  induction c with
  | nil => exact ⟨(Cells.wf_cons f v []).mpr ⟨hv, trivial, rfl⟩, fun k h _ => h⟩
  | cons p r ih =>
    obtain ⟨g, u⟩ := p
    have h := (Cells.wf_cons g u r).mp w
    by_cases hlt : f.key < g.key
    · simp only [Cells.ins, hlt, if_true]
      exact ⟨(Cells.wf_cons f v _).mpr ⟨hv, hlt, w⟩, fun k hk' _ => hk'⟩
    · have hne : g.key ≠ f.key := hk (g, u) (by simp)
      have hgt : g.key < f.key := Nat.lt_of_le_of_ne (Nat.le_of_not_lt hlt) hne
      have hr := ih h.2.2 fun p hp => hk p (by simp [hp])
      simp only [Cells.ins, hlt, if_false]
      exact ⟨(Cells.wf_cons g u _).mpr ⟨h.1, hr.2 g.key hgt h.2.1, hr.1⟩, fun k _ ha => ha⟩

/-- A write keeps the form. -/
theorem Cells.wf_put (c : Cells) (f : Fld) (v : Nat) (w : Cells.wf c = true) : Cells.wf (c.put f v) = true := by
  have hd : Cells.wf (c.del f) = true := Cells.wf_filter c _ w
  unfold Cells.put
  split
  · exact hd
  · rename_i hv
    exact (Cells.wf_ins _ f v hd hv (Cells.del_keys c f)).1

/-- Laying cells over others keeps the form. -/
theorem Cells.wf_overlay (base top : Cells) (w : Cells.wf base = true) : Cells.wf (base.overlay top) = true := by
  unfold Cells.overlay
  induction top generalizing base with
  | nil => exact w
  | cons p r ih => exact ih _ (Cells.wf_put base p.1 p.2 w)

/-! ### Fields of a state -/

/-- A field reads what was written, cut to its width. -/
@[simp] theorem State.rd_wr_self (s : State) (f : Fld) (v : Nat) : (s.wr f v).rd f = v % 2 ^ f.width := Cells.get_put_self _ _ _

/-- A write leaves every other field alone. -/
theorem State.rd_wr_ne (s : State) (f g : Fld) (v : Nat) (h : f.key ≠ g.key) : (s.wr f v).rd g = s.rd g := Cells.get_put_ne _ _ _ _ h

theorem State.wf_wr (s : State) (f : Fld) (v : Nat) (w : s.regs.wf = true) : (s.wr f v).regs.wf = true := Cells.wf_put _ _ _ w

theorem State.wf_wrs (s : State) (l : List (Fld × Nat)) (w : s.regs.wf = true) : (s.wrs l).regs.wf = true := by
  unfold State.wrs
  induction l generalizing s with
  | nil => exact w
  | cons p r ih => exact ih _ (State.wf_wr s p.1 p.2 w)

theorem State.wf_inc (s : State) (f : Fld) (k : Nat) (w : s.regs.wf = true) : (s.inc f k).regs.wf = true := State.wf_wr _ _ _ w

theorem State.wf_incSat (s : State) (f : Fld) (k : Nat) (w : s.regs.wf = true) : (s.incSat f k).regs.wf = true := State.wf_wr _ _ _ w

theorem State.wf_set1 (s : State) (f : Fld) (w : s.regs.wf = true) : (s.set1 f).regs.wf = true := State.wf_wr _ _ _ w

/-- A fold of updates that each keep the form keeps it. -/
theorem State.wf_foldl {α : Type} (l : List α) (u : State → α → State)
    (h : ∀ s a, s.regs.wf = true → (u s a).regs.wf = true) (s : State) (w : s.regs.wf = true) : (l.foldl u s).regs.wf = true := by
  induction l generalizing s with
  | nil => exact w
  | cons a r ih => exact ih _ (h s a w)

/-- A fold of updates that each keep a part of the state keeps it. -/
theorem State.foldl_keeps {α β : Type} (part : State → β) (l : List α) (u : State → α → State)
    (h : ∀ s a, part (u s a) = part s) (s : State) : part (l.foldl u s) = part s := by
  induction l generalizing s with
  | nil => rfl
  | cons a r ih => exact (ih (u s a)).trans (h s a)

end Sys2Proof.Machine
end

