-- ==== Sys2Proof/Laws/PerInstr.lean ====
section
/-!
SUPPORT. Statements made of every command, one lemma per constructor. `Payload`: a well formed command that is an MMP frame
carries a payload of the length its header names, which fits one segment (Table 3-2, R59).
-/
namespace Sys2Proof.Laws

/-- The MMP frame a command is, if it is one. -/
def frameOf (i : Instr) : Option Frame :=
  match i with
  | .cmdSessionOpen f | .cmdSessionChallenge f | .cmdSessionClose f | .cmdSessionPing f | .cmdSessionResume f |
    .cmdSessionCancel f | .cmdIdentGet f | .mmpBadHeader f _ | .mmpUndefinedCommand f _ | .cmdObjRead f |
    .cmdObjWrite f | .cmdObjGroupRead f | .cmdObjGroupWrite f | .castStagedRead f | .cmdCastCheck f | .cmdCastCommit f |
    .cmdCastAbort f | .cmdScanStart f | .cmdScanStop f | .cmdScanHold f | .cmdScanResume f | .cmdScanStep f |
    .cmdScanStatus f | .cmdScanImageWrite f | .cmdScanImageVerify f | .cmdScanImageDrop f | .cmdScanExchPlan f |
    .cmdScanForceSet f | .cmdScanForceClear f | .cmdScanForceList f | .cmdMtrSealRead f | .cmdMtrSealAck f |
    .cmdBusTxSend f | .cmdBusRxRead f | .cmdBusTxCancel f | .cmdBusRecover f | .cmdBusRangeList f |
    .cmdLbxDaliAddress f | .cmdLbxMbusScan f | .cmdTimeGet f | .cmdTimeSet f | .cmdTimeShift f | .cmdEvtRead f |
    .cmdEvtSubscribe f | .cmdEvtWipe f | .cmdKeyUpdate f | .cmdKeyAttest f | .cmdKeyCertify f | .cmdKeyAuthoritySet f |
    .cmdLcyPromote f | .cmdLcySealAck f | .cmdLcyUsbEnable f | .cmdLcyUsbDisable f | .cmdLcyRetireStatement f |
    .cmdLcyDebugChallenge f | .cmdLcyDebugUnlock f | .cmdUpdOpen f | .cmdUpdBlock f | .cmdUpdStatus f |
    .cmdUpdVerify f | .cmdUpdAbort f | .cmdUpdActivate f | .cmdUpdConfirm f | .cmdUpdFallback f |
    .cmdUpdRecoveryEnter f | .cmdDiagMteRun f | .cmdDiagMteAbort f | .cmdDiagPmonFreeze f | .cmdDiagPmonDumpRead f |
    .cmdDiagPmonSampleRead f | .cmdDiagAgmMeasure f | .cmdDiagAgmReplan f => some f
  | _ => none

/-- What `Payload` says of a command. -/
def Payload.Statement (i : Instr) : Prop := i.wf = true → ∀ f, frameOf i = some f → f.payload.length = f.length.toNat ∧ f.length.toNat ≤ 16360

theorem of_frame (i : Instr) (f : Frame) (hw : i.wf = f.ok) (hf : frameOf i = some f) : Payload.Statement i := by
  intro w g hg
  have e : f = g := Option.some.inj (hf.symm.trans hg)
  subst e
  have w := hw.symm.trans w
  simpa [Frame.ok] using w

theorem of_none (i : Instr) (hf : frameOf i = none) : Payload.Statement i :=
  fun _ _ hg => nomatch hf.symm.trans hg

theorem Payload.cmdSessionOpen (a0 : Frame) : Payload.Statement (.cmdSessionOpen a0) := of_frame _ a0 rfl rfl
theorem Payload.cmdSessionChallenge (a0 : Frame) : Payload.Statement (.cmdSessionChallenge a0) := of_frame _ a0 rfl rfl
theorem Payload.cmdSessionClose (a0 : Frame) : Payload.Statement (.cmdSessionClose a0) := of_frame _ a0 rfl rfl
theorem Payload.cmdSessionPing (a0 : Frame) : Payload.Statement (.cmdSessionPing a0) := of_frame _ a0 rfl rfl
theorem Payload.cmdSessionResume (a0 : Frame) : Payload.Statement (.cmdSessionResume a0) := of_frame _ a0 rfl rfl
theorem Payload.cmdSessionCancel (a0 : Frame) : Payload.Statement (.cmdSessionCancel a0) := of_frame _ a0 rfl rfl
theorem Payload.cmdIdentGet (a0 : Frame) : Payload.Statement (.cmdIdentGet a0) := of_frame _ a0 rfl rfl
theorem Payload.mmpBadHeader (a0 : Frame) (a1 : BitVec 16) : Payload.Statement (.mmpBadHeader a0 a1) := of_frame _ a0 rfl rfl
theorem Payload.mmpUndefinedCommand (a0 : Frame) (a1 : BitVec 16) : Payload.Statement (.mmpUndefinedCommand a0 a1) := of_frame _ a0 rfl rfl
theorem Payload.tlsHandshake (a0 : Handshake) : Payload.Statement (.tlsHandshake a0) := of_none _ rfl
theorem Payload.transportLoss (a0 : Nat) (a1 : Nat) : Payload.Statement (.transportLoss a0 a1) := of_none _ rfl
theorem Payload.sessionIdleTimeout (a0 : Nat) (a1 : Nat) : Payload.Statement (.sessionIdleTimeout a0 a1) := of_none _ rfl
theorem Payload.sessionDetachExpiry (a0 : Nat) (a1 : Nat) : Payload.Statement (.sessionDetachExpiry a0 a1) := of_none _ rfl
theorem Payload.noticeHandover (a0 : Nat) : Payload.Statement (.noticeHandover a0) := of_none _ rfl
theorem Payload.mbxDbIn (a0 : Nat) (a1 : Nat) : Payload.Statement (.mbxDbIn a0 a1) := of_none _ rfl
theorem Payload.mbxSlotState (a0 : Nat) (a1 : Option SlotCas) (a2 : Option SlotCas) : Payload.Statement (.mbxSlotState a0 a1 a2) := of_none _ rfl
theorem Payload.cmdObjRead (a0 : Frame) : Payload.Statement (.cmdObjRead a0) := of_frame _ a0 rfl rfl
theorem Payload.cmdObjWrite (a0 : Frame) : Payload.Statement (.cmdObjWrite a0) := of_frame _ a0 rfl rfl
theorem Payload.cmdObjGroupRead (a0 : Frame) : Payload.Statement (.cmdObjGroupRead a0) := of_frame _ a0 rfl rfl
theorem Payload.cmdObjGroupWrite (a0 : Frame) : Payload.Statement (.cmdObjGroupWrite a0) := of_frame _ a0 rfl rfl
theorem Payload.regWrite (a0 : Requester) (a1 : Nat) (a2 : BitVec 32) (a3 : BitVec 32) : Payload.Statement (.regWrite a0 a1 a2 a3) := of_none _ rfl
theorem Payload.regReadClear (a0 : Requester) (a1 : Nat) (a2 : Bool) (a3 : BitVec 32) : Payload.Statement (.regReadClear a0 a1 a2 a3) := of_none _ rfl
theorem Payload.modeRequest (a0 : Requester) (a1 : BitVec 4) (a2 : Bool) : Payload.Statement (.modeRequest a0 a1 a2) := of_none _ rfl
theorem Payload.modeRelease (a0 : Requester) : Payload.Statement (.modeRelease a0) := of_none _ rfl
theorem Payload.modeTransitionDone (a0 : Nat) : Payload.Statement (.modeTransitionDone a0) := of_none _ rfl
theorem Payload.m9LimitExpiry (a0 : Nat) : Payload.Statement (.m9LimitExpiry a0) := of_none _ rfl
theorem Payload.powerFail (a0 : Nat) : Payload.Statement (.powerFail a0) := of_none _ rfl
theorem Payload.powerFailCommitEnd (a0 : Nat) (a1 : Nat) (a2 : Bool) (a3 : Bool) : Payload.Statement (.powerFailCommitEnd a0 a1 a2 a3) := of_none _ rfl
theorem Payload.bulkLow (a0 : Nat) : Payload.Statement (.bulkLow a0) := of_none _ rfl
theorem Payload.mainReturn (a0 : Nat) : Payload.Statement (.mainReturn a0) := of_none _ rfl
theorem Payload.pllLockTimeout (a0 : Nat) (a1 : Nat) : Payload.Statement (.pllLockTimeout a0 a1) := of_none _ rfl
theorem Payload.unitFailure (a0 : Fin 18) (a1 : Nat) : Payload.Statement (.unitFailure a0 a1) := of_none _ rfl
theorem Payload.bootEntry (a0 : Nat) : Payload.Statement (.bootEntry a0) := of_none _ rfl
theorem Payload.startupTestDone (a0 : List BankFault) (a1 : Nat) : Payload.Statement (.startupTestDone a0 a1) := of_none _ rfl
theorem Payload.promotionWipe (a0 : BitVec 4) (a1 : Nat) : Payload.Statement (.promotionWipe a0 a1) := of_none _ rfl
theorem Payload.bootComplete (a0 : Nat) : Payload.Statement (.bootComplete a0) := of_none _ rfl
theorem Payload.opSecondsTick (a0 : Nat) : Payload.Statement (.opSecondsTick a0) := of_none _ rfl
theorem Payload.presencePress (a0 : Nat) : Payload.Statement (.presencePress a0) := of_none _ rfl
theorem Payload.presenceWindowOpen (a0 : Nat) : Payload.Statement (.presenceWindowOpen a0) := of_none _ rfl
theorem Payload.presenceWindowClose (a0 : Nat) : Payload.Statement (.presenceWindowClose a0) := of_none _ rfl
theorem Payload.vbusDetect (a0 : Nat) : Payload.Statement (.vbusDetect a0) := of_none _ rfl
theorem Payload.tcpSynWake (a0 : Nat) : Payload.Statement (.tcpSynWake a0) := of_none _ rfl
theorem Payload.castStagedRead (a0 : Frame) : Payload.Statement (.castStagedRead a0) := of_frame _ a0 rfl rfl
theorem Payload.cmdCastCheck (a0 : Frame) : Payload.Statement (.cmdCastCheck a0) := of_frame _ a0 rfl rfl
theorem Payload.castCheckDone (a0 : Nat) (a1 : Nat) : Payload.Statement (.castCheckDone a0 a1) := of_none _ rfl
theorem Payload.cmdCastCommit (a0 : Frame) : Payload.Statement (.cmdCastCommit a0) := of_frame _ a0 rfl rfl
theorem Payload.cmdCastAbort (a0 : Frame) : Payload.Statement (.cmdCastAbort a0) := of_frame _ a0 rfl rfl
theorem Payload.castArm (a0 : Nat) : Payload.Statement (.castArm a0) := of_none _ rfl
theorem Payload.castConfirmDeadline (a0 : List Nat) : Payload.Statement (.castConfirmDeadline a0) := of_none _ rfl
theorem Payload.castInstant (a0 : Nat) : Payload.Statement (.castInstant a0) := of_none _ rfl
theorem Payload.castAppliedMark (a0 : Nat) : Payload.Statement (.castAppliedMark a0) := of_none _ rfl
theorem Payload.splitLatch (a0 : Nat) : Payload.Statement (.splitLatch a0) := of_none _ rfl
theorem Payload.tempoBoundary (a0 : Nat) (a1 : Fin 2) (a2 : Fin 16) (a3 : Nat) : Payload.Statement (.tempoBoundary a0 a1 a2 a3) := of_none _ rfl
theorem Payload.skipLimitStop (a0 : Nat) (a1 : Fin 2) (a2 : Fin 16) (a3 : Nat) : Payload.Statement (.skipLimitStop a0 a1 a2 a3) := of_none _ rfl
theorem Payload.budgetWindow (a0 : Fin 2) (a1 : Nat) : Payload.Statement (.budgetWindow a0 a1) := of_none _ rfl
theorem Payload.budgetSuspension (a0 : Nat) (a1 : Fin 2) (a2 : Nat) : Payload.Statement (.budgetSuspension a0 a1 a2) := of_none _ rfl
theorem Payload.fwAccessDone (a0 : Nat) (a1 : Fin 2) (a2 : Fin 16) (a3 : Nat) : Payload.Statement (.fwAccessDone a0 a1 a2 a3) := of_none _ rfl
theorem Payload.retainedCommit (a0 : Nat) (a1 : Nat) : Payload.Statement (.retainedCommit a0 a1) := of_none _ rfl
theorem Payload.startupComplete (a0 : Nat) (a1 : Nat) : Payload.Statement (.startupComplete a0 a1) := of_none _ rfl
theorem Payload.stopComplete (a0 : Nat) (a1 : Nat) : Payload.Statement (.stopComplete a0 a1) := of_none _ rfl
theorem Payload.cmdScanStart (a0 : Frame) : Payload.Statement (.cmdScanStart a0) := of_frame _ a0 rfl rfl
theorem Payload.cmdScanStop (a0 : Frame) : Payload.Statement (.cmdScanStop a0) := of_frame _ a0 rfl rfl
theorem Payload.cmdScanHold (a0 : Frame) : Payload.Statement (.cmdScanHold a0) := of_frame _ a0 rfl rfl
theorem Payload.cmdScanResume (a0 : Frame) : Payload.Statement (.cmdScanResume a0) := of_frame _ a0 rfl rfl
theorem Payload.cmdScanStep (a0 : Frame) : Payload.Statement (.cmdScanStep a0) := of_frame _ a0 rfl rfl
theorem Payload.cmdScanStatus (a0 : Frame) : Payload.Statement (.cmdScanStatus a0) := of_frame _ a0 rfl rfl
theorem Payload.cmdScanImageWrite (a0 : Frame) : Payload.Statement (.cmdScanImageWrite a0) := of_frame _ a0 rfl rfl
theorem Payload.cmdScanImageVerify (a0 : Frame) : Payload.Statement (.cmdScanImageVerify a0) := of_frame _ a0 rfl rfl
theorem Payload.cmdScanImageDrop (a0 : Frame) : Payload.Statement (.cmdScanImageDrop a0) := of_frame _ a0 rfl rfl
theorem Payload.cmdScanExchPlan (a0 : Frame) : Payload.Statement (.cmdScanExchPlan a0) := of_frame _ a0 rfl rfl
theorem Payload.cmdScanForceSet (a0 : Frame) : Payload.Statement (.cmdScanForceSet a0) := of_frame _ a0 rfl rfl
theorem Payload.cmdScanForceClear (a0 : Frame) : Payload.Statement (.cmdScanForceClear a0) := of_frame _ a0 rfl rfl
theorem Payload.cmdScanForceList (a0 : Frame) : Payload.Statement (.cmdScanForceList a0) := of_frame _ a0 rfl rfl
theorem Payload.pimgSetWrite (a0 : Requester) (a1 : Nat) (a2 : BitVec 64) (a3 : Nat) : Payload.Statement (.pimgSetWrite a0 a1 a2 a3) := of_none _ rfl
theorem Payload.add (a0 : Fin 2) (a1 : Bool) (a2 : Fin 32) (a3 : Fin 32) (a4 : Fin 32) : Payload.Statement (.add a0 a1 a2 a3 a4) := of_none _ rfl
theorem Payload.sub (a0 : Fin 2) (a1 : Bool) (a2 : Fin 32) (a3 : Fin 32) (a4 : Fin 32) : Payload.Statement (.sub a0 a1 a2 a3 a4) := of_none _ rfl
theorem Payload.mul (a0 : Fin 2) (a1 : Bool) (a2 : Fin 32) (a3 : Fin 32) (a4 : Fin 32) : Payload.Statement (.mul a0 a1 a2 a3 a4) := of_none _ rfl
theorem Payload.mulhs (a0 : Fin 2) (a1 : Bool) (a2 : Fin 32) (a3 : Fin 32) (a4 : Fin 32) : Payload.Statement (.mulhs a0 a1 a2 a3 a4) := of_none _ rfl
theorem Payload.divs (a0 : Fin 2) (a1 : Bool) (a2 : Fin 32) (a3 : Fin 32) (a4 : Fin 32) : Payload.Statement (.divs a0 a1 a2 a3 a4) := of_none _ rfl
theorem Payload.divu (a0 : Fin 2) (a1 : Bool) (a2 : Fin 32) (a3 : Fin 32) (a4 : Fin 32) : Payload.Statement (.divu a0 a1 a2 a3 a4) := of_none _ rfl
theorem Payload.rem (a0 : Fin 2) (a1 : Bool) (a2 : Fin 32) (a3 : Fin 32) (a4 : Fin 32) : Payload.Statement (.rem a0 a1 a2 a3 a4) := of_none _ rfl
theorem Payload.remu (a0 : Fin 2) (a1 : Bool) (a2 : Fin 32) (a3 : Fin 32) (a4 : Fin 32) : Payload.Statement (.remu a0 a1 a2 a3 a4) := of_none _ rfl
theorem Payload.andd (a0 : Fin 2) (a1 : Bool) (a2 : Fin 32) (a3 : Fin 32) (a4 : Fin 32) : Payload.Statement (.andd a0 a1 a2 a3 a4) := of_none _ rfl
theorem Payload.orr (a0 : Fin 2) (a1 : Bool) (a2 : Fin 32) (a3 : Fin 32) (a4 : Fin 32) : Payload.Statement (.orr a0 a1 a2 a3 a4) := of_none _ rfl
theorem Payload.xorr (a0 : Fin 2) (a1 : Bool) (a2 : Fin 32) (a3 : Fin 32) (a4 : Fin 32) : Payload.Statement (.xorr a0 a1 a2 a3 a4) := of_none _ rfl
theorem Payload.shl (a0 : Fin 2) (a1 : Bool) (a2 : Fin 32) (a3 : Fin 32) (a4 : Fin 32) : Payload.Statement (.shl a0 a1 a2 a3 a4) := of_none _ rfl
theorem Payload.shr (a0 : Fin 2) (a1 : Bool) (a2 : Fin 32) (a3 : Fin 32) (a4 : Fin 32) : Payload.Statement (.shr a0 a1 a2 a3 a4) := of_none _ rfl
theorem Payload.sar (a0 : Fin 2) (a1 : Bool) (a2 : Fin 32) (a3 : Fin 32) (a4 : Fin 32) : Payload.Statement (.sar a0 a1 a2 a3 a4) := of_none _ rfl
theorem Payload.mins (a0 : Fin 2) (a1 : Bool) (a2 : Fin 32) (a3 : Fin 32) (a4 : Fin 32) : Payload.Statement (.mins a0 a1 a2 a3 a4) := of_none _ rfl
theorem Payload.maxs (a0 : Fin 2) (a1 : Bool) (a2 : Fin 32) (a3 : Fin 32) (a4 : Fin 32) : Payload.Statement (.maxs a0 a1 a2 a3 a4) := of_none _ rfl
theorem Payload.addi (a0 : Fin 2) (a1 : Fin 32) (a2 : Fin 32) (a3 : BitVec 16) : Payload.Statement (.addi a0 a1 a2 a3) := of_none _ rfl
theorem Payload.andi (a0 : Fin 2) (a1 : Fin 32) (a2 : Fin 32) (a3 : BitVec 16) : Payload.Statement (.andi a0 a1 a2 a3) := of_none _ rfl
theorem Payload.ori (a0 : Fin 2) (a1 : Fin 32) (a2 : Fin 32) (a3 : BitVec 16) : Payload.Statement (.ori a0 a1 a2 a3) := of_none _ rfl
theorem Payload.xori (a0 : Fin 2) (a1 : Fin 32) (a2 : Fin 32) (a3 : BitVec 16) : Payload.Statement (.xori a0 a1 a2 a3) := of_none _ rfl
theorem Payload.movi (a0 : Fin 2) (a1 : Fin 32) (a2 : BitVec 21) : Payload.Statement (.movi a0 a1 a2) := of_none _ rfl
theorem Payload.ldc (a0 : Fin 2) (a1 : Fin 32) (a2 : BitVec 21) : Payload.Statement (.ldc a0 a1 a2) := of_none _ rfl
theorem Payload.fadd (a0 : Fin 2) (a1 : Bool) (a2 : Fin 32) (a3 : Fin 32) (a4 : Fin 32) : Payload.Statement (.fadd a0 a1 a2 a3 a4) := of_none _ rfl
theorem Payload.fsub (a0 : Fin 2) (a1 : Bool) (a2 : Fin 32) (a3 : Fin 32) (a4 : Fin 32) : Payload.Statement (.fsub a0 a1 a2 a3 a4) := of_none _ rfl
theorem Payload.fmul (a0 : Fin 2) (a1 : Bool) (a2 : Fin 32) (a3 : Fin 32) (a4 : Fin 32) : Payload.Statement (.fmul a0 a1 a2 a3 a4) := of_none _ rfl
theorem Payload.fdiv (a0 : Fin 2) (a1 : Bool) (a2 : Fin 32) (a3 : Fin 32) (a4 : Fin 32) : Payload.Statement (.fdiv a0 a1 a2 a3 a4) := of_none _ rfl
theorem Payload.fsqrt (a0 : Fin 2) (a1 : Bool) (a2 : Fin 32) (a3 : Fin 32) : Payload.Statement (.fsqrt a0 a1 a2 a3) := of_none _ rfl
theorem Payload.fmin (a0 : Fin 2) (a1 : Bool) (a2 : Fin 32) (a3 : Fin 32) (a4 : Fin 32) : Payload.Statement (.fmin a0 a1 a2 a3 a4) := of_none _ rfl
theorem Payload.fmax (a0 : Fin 2) (a1 : Bool) (a2 : Fin 32) (a3 : Fin 32) (a4 : Fin 32) : Payload.Statement (.fmax a0 a1 a2 a3 a4) := of_none _ rfl
theorem Payload.fabs (a0 : Fin 2) (a1 : Bool) (a2 : Fin 32) (a3 : Fin 32) : Payload.Statement (.fabs a0 a1 a2 a3) := of_none _ rfl
theorem Payload.fneg (a0 : Fin 2) (a1 : Bool) (a2 : Fin 32) (a3 : Fin 32) : Payload.Statement (.fneg a0 a1 a2 a3) := of_none _ rfl
theorem Payload.i2d (a0 : Fin 2) (a1 : Bool) (a2 : Fin 32) (a3 : Fin 32) : Payload.Statement (.i2d a0 a1 a2 a3) := of_none _ rfl
theorem Payload.d2i (a0 : Fin 2) (a1 : Bool) (a2 : Fin 32) (a3 : Fin 32) : Payload.Statement (.d2i a0 a1 a2 a3) := of_none _ rfl
theorem Payload.i2f (a0 : Fin 2) (a1 : Bool) (a2 : Fin 32) (a3 : Fin 32) : Payload.Statement (.i2f a0 a1 a2 a3) := of_none _ rfl
theorem Payload.f2i (a0 : Fin 2) (a1 : Bool) (a2 : Fin 32) (a3 : Fin 32) : Payload.Statement (.f2i a0 a1 a2 a3) := of_none _ rfl
theorem Payload.f2d (a0 : Fin 2) (a1 : Fin 32) (a2 : Fin 32) : Payload.Statement (.f2d a0 a1 a2) := of_none _ rfl
theorem Payload.d2f (a0 : Fin 2) (a1 : Fin 32) (a2 : Fin 32) : Payload.Statement (.d2f a0 a1 a2) := of_none _ rfl
theorem Payload.u2d (a0 : Fin 2) (a1 : Bool) (a2 : Fin 32) (a3 : Fin 32) : Payload.Statement (.u2d a0 a1 a2 a3) := of_none _ rfl
theorem Payload.cmpEq (a0 : Fin 2) (a1 : Bool) (a2 : Fin 32) (a3 : Fin 32) (a4 : Fin 32) : Payload.Statement (.cmpEq a0 a1 a2 a3 a4) := of_none _ rfl
theorem Payload.cmpNe (a0 : Fin 2) (a1 : Bool) (a2 : Fin 32) (a3 : Fin 32) (a4 : Fin 32) : Payload.Statement (.cmpNe a0 a1 a2 a3 a4) := of_none _ rfl
theorem Payload.cmpLt (a0 : Fin 2) (a1 : Bool) (a2 : Fin 32) (a3 : Fin 32) (a4 : Fin 32) : Payload.Statement (.cmpLt a0 a1 a2 a3 a4) := of_none _ rfl
theorem Payload.cmpLe (a0 : Fin 2) (a1 : Bool) (a2 : Fin 32) (a3 : Fin 32) (a4 : Fin 32) : Payload.Statement (.cmpLe a0 a1 a2 a3 a4) := of_none _ rfl
theorem Payload.cmpLtu (a0 : Fin 2) (a1 : Bool) (a2 : Fin 32) (a3 : Fin 32) (a4 : Fin 32) : Payload.Statement (.cmpLtu a0 a1 a2 a3 a4) := of_none _ rfl
theorem Payload.cmpLeu (a0 : Fin 2) (a1 : Bool) (a2 : Fin 32) (a3 : Fin 32) (a4 : Fin 32) : Payload.Statement (.cmpLeu a0 a1 a2 a3 a4) := of_none _ rfl
theorem Payload.fcmpEq (a0 : Fin 2) (a1 : Bool) (a2 : Fin 32) (a3 : Fin 32) (a4 : Fin 32) : Payload.Statement (.fcmpEq a0 a1 a2 a3 a4) := of_none _ rfl
theorem Payload.fcmpNe (a0 : Fin 2) (a1 : Bool) (a2 : Fin 32) (a3 : Fin 32) (a4 : Fin 32) : Payload.Statement (.fcmpNe a0 a1 a2 a3 a4) := of_none _ rfl
theorem Payload.fcmpLt (a0 : Fin 2) (a1 : Bool) (a2 : Fin 32) (a3 : Fin 32) (a4 : Fin 32) : Payload.Statement (.fcmpLt a0 a1 a2 a3 a4) := of_none _ rfl
theorem Payload.fcmpLe (a0 : Fin 2) (a1 : Bool) (a2 : Fin 32) (a3 : Fin 32) (a4 : Fin 32) : Payload.Statement (.fcmpLe a0 a1 a2 a3 a4) := of_none _ rfl
theorem Payload.fcmpUnord (a0 : Fin 2) (a1 : Bool) (a2 : Fin 32) (a3 : Fin 32) (a4 : Fin 32) : Payload.Statement (.fcmpUnord a0 a1 a2 a3 a4) := of_none _ rfl
theorem Payload.btst (a0 : Fin 2) (a1 : Fin 32) (a2 : Fin 32) (a3 : Fin 64) : Payload.Statement (.btst a0 a1 a2 a3) := of_none _ rfl
theorem Payload.bset (a0 : Fin 2) (a1 : Fin 32) (a2 : Fin 32) (a3 : Fin 64) : Payload.Statement (.bset a0 a1 a2 a3) := of_none _ rfl
theorem Payload.bclr (a0 : Fin 2) (a1 : Fin 32) (a2 : Fin 32) (a3 : Fin 64) : Payload.Statement (.bclr a0 a1 a2 a3) := of_none _ rfl
theorem Payload.binv (a0 : Fin 2) (a1 : Fin 32) (a2 : Fin 32) (a3 : Fin 64) : Payload.Statement (.binv a0 a1 a2 a3) := of_none _ rfl
theorem Payload.extu (a0 : Fin 2) (a1 : Fin 32) (a2 : Fin 32) (a3 : Fin 64) (a4 : Fin 32) : Payload.Statement (.extu a0 a1 a2 a3 a4) := of_none _ rfl
theorem Payload.exts (a0 : Fin 2) (a1 : Fin 32) (a2 : Fin 32) (a3 : Fin 64) (a4 : Fin 32) : Payload.Statement (.exts a0 a1 a2 a3 a4) := of_none _ rfl
theorem Payload.ins (a0 : Fin 2) (a1 : Fin 32) (a2 : Fin 32) (a3 : Fin 64) (a4 : Fin 32) : Payload.Statement (.ins a0 a1 a2 a3 a4) := of_none _ rfl
theorem Payload.clz (a0 : Fin 2) (a1 : Fin 32) (a2 : Fin 32) : Payload.Statement (.clz a0 a1 a2) := of_none _ rfl
theorem Payload.popc (a0 : Fin 2) (a1 : Fin 32) (a2 : Fin 32) : Payload.Statement (.popc a0 a1 a2) := of_none _ rfl
theorem Payload.pld (a0 : Fin 2) (a1 : Fin 32) (a2 : Fin 32) (a3 : BitVec 16) : Payload.Statement (.pld a0 a1 a2 a3) := of_none _ rfl
theorem Payload.pattr (a0 : Fin 2) (a1 : Fin 32) (a2 : Fin 32) (a3 : BitVec 16) : Payload.Statement (.pattr a0 a1 a2 a3) := of_none _ rfl
theorem Payload.pst (a0 : Fin 2) (a1 : Fin 32) (a2 : Fin 32) (a3 : BitVec 16) : Payload.Statement (.pst a0 a1 a2 a3) := of_none _ rfl
theorem Payload.pold (a0 : Fin 2) (a1 : Fin 32) (a2 : Fin 32) (a3 : BitVec 16) : Payload.Statement (.pold a0 a1 a2 a3) := of_none _ rfl
theorem Payload.ildB (a0 : Fin 2) (a1 : Fin 32) (a2 : Fin 32) (a3 : BitVec 16) : Payload.Statement (.ildB a0 a1 a2 a3) := of_none _ rfl
theorem Payload.ildH (a0 : Fin 2) (a1 : Fin 32) (a2 : Fin 32) (a3 : BitVec 16) : Payload.Statement (.ildH a0 a1 a2 a3) := of_none _ rfl
theorem Payload.ildW (a0 : Fin 2) (a1 : Fin 32) (a2 : Fin 32) (a3 : BitVec 16) : Payload.Statement (.ildW a0 a1 a2 a3) := of_none _ rfl
theorem Payload.ildD (a0 : Fin 2) (a1 : Fin 32) (a2 : Fin 32) (a3 : BitVec 16) : Payload.Statement (.ildD a0 a1 a2 a3) := of_none _ rfl
theorem Payload.istB (a0 : Fin 2) (a1 : Fin 32) (a2 : Fin 32) (a3 : BitVec 16) : Payload.Statement (.istB a0 a1 a2 a3) := of_none _ rfl
theorem Payload.istH (a0 : Fin 2) (a1 : Fin 32) (a2 : Fin 32) (a3 : BitVec 16) : Payload.Statement (.istH a0 a1 a2 a3) := of_none _ rfl
theorem Payload.istW (a0 : Fin 2) (a1 : Fin 32) (a2 : Fin 32) (a3 : BitVec 16) : Payload.Statement (.istW a0 a1 a2 a3) := of_none _ rfl
theorem Payload.istD (a0 : Fin 2) (a1 : Fin 32) (a2 : Fin 32) (a3 : BitVec 16) : Payload.Statement (.istD a0 a1 a2 a3) := of_none _ rfl
theorem Payload.gld (a0 : Fin 2) (a1 : Fin 32) (a2 : Fin 32) (a3 : BitVec 16) : Payload.Statement (.gld a0 a1 a2 a3) := of_none _ rfl
theorem Payload.gst (a0 : Fin 2) (a1 : Fin 32) (a2 : Fin 32) (a3 : BitVec 16) : Payload.Statement (.gst a0 a1 a2 a3) := of_none _ rfl
theorem Payload.tmr (a0 : Fin 2) (a1 : Fin 32) (a2 : Fin 32) (a3 : BitVec 16) : Payload.Statement (.tmr a0 a1 a2 a3) := of_none _ rfl
theorem Payload.tmrrd (a0 : Fin 2) (a1 : Fin 32) (a2 : Fin 32) (a3 : BitVec 16) : Payload.Statement (.tmrrd a0 a1 a2 a3) := of_none _ rfl
theorem Payload.edgr (a0 : Fin 2) (a1 : Fin 32) (a2 : Fin 32) (a3 : BitVec 16) : Payload.Statement (.edgr a0 a1 a2 a3) := of_none _ rfl
theorem Payload.edgf (a0 : Fin 2) (a1 : Fin 32) (a2 : Fin 32) (a3 : BitVec 16) : Payload.Statement (.edgf a0 a1 a2 a3) := of_none _ rfl
theorem Payload.edgb (a0 : Fin 2) (a1 : Fin 32) (a2 : Fin 32) (a3 : BitVec 16) : Payload.Statement (.edgb a0 a1 a2 a3) := of_none _ rfl
theorem Payload.br (a0 : Fin 2) (a1 : BitVec 26) : Payload.Statement (.br a0 a1) := of_none _ rfl
theorem Payload.bz (a0 : Fin 2) (a1 : Fin 32) (a2 : BitVec 21) : Payload.Statement (.bz a0 a1 a2) := of_none _ rfl
theorem Payload.bnz (a0 : Fin 2) (a1 : Fin 32) (a2 : BitVec 21) : Payload.Statement (.bnz a0 a1 a2) := of_none _ rfl
theorem Payload.bdec (a0 : Fin 2) (a1 : Fin 32) (a2 : BitVec 21) : Payload.Statement (.bdec a0 a1 a2) := of_none _ rfl
theorem Payload.btab (a0 : Fin 2) (a1 : Fin 32) (a2 : BitVec 16) : Payload.Statement (.btab a0 a1 a2) := of_none _ rfl
theorem Payload.fbcall (a0 : Fin 2) (a1 : BitVec 16) : Payload.Statement (.fbcall a0 a1) := of_none _ rfl
theorem Payload.fbcallx (a0 : Fin 2) (a1 : Fin 32) (a2 : BitVec 16) : Payload.Statement (.fbcallx a0 a1 a2) := of_none _ rfl
theorem Payload.call (a0 : Fin 2) (a1 : BitVec 26) : Payload.Statement (.call a0 a1) := of_none _ rfl
theorem Payload.ret (a0 : Fin 2) : Payload.Statement (.ret a0) := of_none _ rfl
theorem Payload.objrd32 (a0 : Fin 2) (a1 : Fin 32) (a2 : Fin 32) (a3 : Fin 32) : Payload.Statement (.objrd32 a0 a1 a2 a3) := of_none _ rfl
theorem Payload.objrd64 (a0 : Fin 2) (a1 : Fin 32) (a2 : Fin 32) (a3 : Fin 32) : Payload.Statement (.objrd64 a0 a1 a2 a3) := of_none _ rfl
theorem Payload.objwr32 (a0 : Fin 2) (a1 : Fin 32) (a2 : Fin 32) (a3 : Fin 32) : Payload.Statement (.objwr32 a0 a1 a2 a3) := of_none _ rfl
theorem Payload.objwr64 (a0 : Fin 2) (a1 : Fin 32) (a2 : Fin 32) (a3 : Fin 32) : Payload.Statement (.objwr64 a0 a1 a2 a3) := of_none _ rfl
theorem Payload.tbound (a0 : Fin 2) (a1 : Fin 32) : Payload.Statement (.tbound a0 a1) := of_none _ rfl
theorem Payload.tnow (a0 : Fin 2) (a1 : Fin 32) : Payload.Statement (.tnow a0 a1) := of_none _ rfl
theorem Payload.plyinfo (a0 : Fin 2) (a1 : Fin 32) : Payload.Statement (.plyinfo a0 a1) := of_none _ rfl
theorem Payload.event (a0 : Fin 2) (a1 : Fin 32) (a2 : Fin 32) : Payload.Statement (.event a0 a1 a2) := of_none _ rfl
theorem Payload.wake (a0 : Fin 2) (a1 : Fin 32) : Payload.Statement (.wake a0 a1) := of_none _ rfl
theorem Payload.utrap (a0 : Fin 2) (a1 : Fin 32) : Payload.Statement (.utrap a0 a1) := of_none _ rfl
theorem Payload.zeroCrossing (a0 : Fin 4) (a1 : Nat) : Payload.Statement (.zeroCrossing a0 a1) := of_none _ rfl
theorem Payload.cycleTimeout (a0 : Fin 4) (a1 : Nat) : Payload.Statement (.cycleTimeout a0 a1) := of_none _ rfl
theorem Payload.pseudoCycleEnd (a0 : Fin 4) (a1 : Nat) : Payload.Statement (.pseudoCycleEnd a0 a1) := of_none _ rfl
theorem Payload.nmissStart (a0 : Fin 4) (a1 : Nat) : Payload.Statement (.nmissStart a0 a1) := of_none _ rfl
theorem Payload.nmissEnd (a0 : Fin 4) (a1 : Nat) : Payload.Statement (.nmissEnd a0 a1) := of_none _ rfl
theorem Payload.latch (a0 : Nat) : Payload.Statement (.latch a0) := of_none _ rfl
theorem Payload.sealSign (a0 : Nat) (a1 : Nat) : Payload.Statement (.sealSign a0 a1) := of_none _ rfl
theorem Payload.energyCommit (a0 : Nat) : Payload.Statement (.energyCommit a0) := of_none _ rfl
theorem Payload.settlingEnd (a0 : Fin 192) (a1 : Nat) : Payload.Statement (.settlingEnd a0 a1) := of_none _ rfl
theorem Payload.maeCalStart (a0 : Requester) (a1 : Nat) : Payload.Statement (.maeCalStart a0 a1) := of_none _ rfl
theorem Payload.maeCalAbort (a0 : Requester) (a1 : Nat) : Payload.Statement (.maeCalAbort a0 a1) := of_none _ rfl
theorem Payload.calCaptureEnd (a0 : Nat) : Payload.Statement (.calCaptureEnd a0) := of_none _ rfl
theorem Payload.maeWaveStart (a0 : Requester) (a1 : Nat) : Payload.Statement (.maeWaveStart a0 a1) := of_none _ rfl
theorem Payload.waveRecordDone (a0 : Nat) : Payload.Statement (.waveRecordDone a0) := of_none _ rfl
theorem Payload.pulseStart (a0 : Fin 8) (a1 : Nat) : Payload.Statement (.pulseStart a0 a1) := of_none _ rfl
theorem Payload.pulseWidthEnd (a0 : Fin 8) (a1 : Nat) : Payload.Statement (.pulseWidthEnd a0 a1) := of_none _ rfl
theorem Payload.cmdMtrSealRead (a0 : Frame) : Payload.Statement (.cmdMtrSealRead a0) := of_frame _ a0 rfl rfl
theorem Payload.cmdMtrSealAck (a0 : Frame) : Payload.Statement (.cmdMtrSealAck a0) := of_frame _ a0 rfl rfl
theorem Payload.canRxFrame (a0 : Fin 24) (a1 : CanFrame) (a2 : Nat) : Payload.Statement (.canRxFrame a0 a1 a2) := of_none _ rfl
theorem Payload.canRxError (a0 : Fin 24) (a1 : RxError) (a2 : Nat) : Payload.Statement (.canRxError a0 a1 a2) := of_none _ rfl
theorem Payload.canTxSuccess (a0 : Fin 24) (a1 : Nat) : Payload.Statement (.canTxSuccess a0 a1) := of_none _ rfl
theorem Payload.canTxError (a0 : Fin 24) (a1 : TxError) (a2 : Nat) : Payload.Statement (.canTxError a0 a1 a2) := of_none _ rfl
theorem Payload.canArbLost (a0 : Fin 24) (a1 : Nat) : Payload.Statement (.canArbLost a0 a1) := of_none _ rfl
theorem Payload.recoveryDelayExpiry (a0 : Fin 24) (a1 : Nat) : Payload.Statement (.recoveryDelayExpiry a0 a1) := of_none _ rfl
theorem Payload.recoveryEnd (a0 : Fin 24) (a1 : Nat) : Payload.Statement (.recoveryEnd a0 a1) := of_none _ rfl
theorem Payload.txreq (a0 : Requester) (a1 : Fin 24) (a2 : Fin 32) (a3 : Nat) : Payload.Statement (.txreq a0 a1 a2 a3) := of_none _ rfl
theorem Payload.txCancel (a0 : Requester) (a1 : Fin 24) (a2 : Fin 32) (a3 : Nat) : Payload.Statement (.txCancel a0 a1 a2 a3) := of_none _ rfl
theorem Payload.txPeriodTrigger (a0 : Fin 24) (a1 : Fin 32) (a2 : Nat) : Payload.Statement (.txPeriodTrigger a0 a1 a2) := of_none _ rfl
theorem Payload.fifoPop (a0 : Requester) (a1 : Fin 24) (a2 : Fin 8) (a3 : BitVec 7) (a4 : Nat) : Payload.Statement (.fifoPop a0 a1 a2 a3 a4) := of_none _ rfl
theorem Payload.canWakePattern (a0 : Fin 24) (a1 : Nat) : Payload.Statement (.canWakePattern a0 a1) := of_none _ rfl
theorem Payload.cmdBusTxSend (a0 : Frame) : Payload.Statement (.cmdBusTxSend a0) := of_frame _ a0 rfl rfl
theorem Payload.cmdBusRxRead (a0 : Frame) : Payload.Statement (.cmdBusRxRead a0) := of_frame _ a0 rfl rfl
theorem Payload.cmdBusTxCancel (a0 : Frame) : Payload.Statement (.cmdBusTxCancel a0) := of_frame _ a0 rfl rfl
theorem Payload.cmdBusRecover (a0 : Frame) : Payload.Statement (.cmdBusRecover a0) := of_frame _ a0 rfl rfl
theorem Payload.cmdBusRangeList (a0 : Frame) : Payload.Statement (.cmdBusRangeList a0) := of_frame _ a0 rfl rfl
theorem Payload.ethFrameRx (a0 : EthFrame) (a1 : Nat) : Payload.Statement (.ethFrameRx a0 a1) := of_none _ rfl
theorem Payload.linkChange (a0 : Fin 2) (a1 : Bool) (a2 : Nat) : Payload.Statement (.linkChange a0 a1 a2) := of_none _ rfl
theorem Payload.lanTimeout (a0 : Fin 2) (a1 : Nat) : Payload.Statement (.lanTimeout a0 a1) := of_none _ rfl
theorem Payload.prpSupervision (a0 : Nat) : Payload.Statement (.prpSupervision a0) := of_none _ rfl
theorem Payload.addressAgeing (a0 : Nat) (a1 : Nat) (a2 : Nat) : Payload.Statement (.addressAgeing a0 a1 a2) := of_none _ rfl
theorem Payload.sfpInsert (a0 : Fin 2) (a1 : SfpModule) (a2 : Nat) : Payload.Statement (.sfpInsert a0 a1 a2) := of_none _ rfl
theorem Payload.ptpSync (a0 : PtpSync) (a1 : Nat) : Payload.Statement (.ptpSync a0 a1) := of_none _ rfl
theorem Payload.ptpSyncTimeout (a0 : Nat) : Payload.Statement (.ptpSyncTimeout a0) := of_none _ rfl
theorem Payload.gmRetry (a0 : Nat) : Payload.Statement (.gmRetry a0) := of_none _ rfl
theorem Payload.floorTimeStep (a0 : Nat) : Payload.Statement (.floorTimeStep a0) := of_none _ rfl
theorem Payload.bacnetRequest (a0 : BacnetRequest) (a1 : Nat) : Payload.Statement (.bacnetRequest a0 a1) := of_none _ rfl
theorem Payload.mqttMessage (a0 : MqttMessage) (a1 : Nat) : Payload.Statement (.mqttMessage a0 a1) := of_none _ rfl
theorem Payload.covNotify (a0 : Fin 4096) (a1 : Nat) : Payload.Statement (.covNotify a0 a1) := of_none _ rfl
theorem Payload.lbxPollDue (a0 : Fin 2048) (a1 : Nat) : Payload.Statement (.lbxPollDue a0 a1) := of_none _ rfl
theorem Payload.lbxTransactionStart (a0 : Fin 16) (a1 : Nat) : Payload.Statement (.lbxTransactionStart a0 a1) := of_none _ rfl
theorem Payload.lbxAnswer (a0 : Fin 16) (a1 : LbxAnswer) (a2 : Nat) : Payload.Statement (.lbxAnswer a0 a1 a2) := of_none _ rfl
theorem Payload.lbxTimeout (a0 : Fin 16) (a1 : Nat) : Payload.Statement (.lbxTimeout a0 a1) := of_none _ rfl
theorem Payload.daliEvent (a0 : Fin 16) (a1 : DaliEvent) (a2 : Nat) : Payload.Statement (.daliEvent a0 a1 a2) := of_none _ rfl
theorem Payload.mbusOverload (a0 : Fin 16) (a1 : Nat) : Payload.Statement (.mbusOverload a0 a1) := of_none _ rfl
theorem Payload.mbusOverloadRestore (a0 : Fin 16) (a1 : Nat) : Payload.Statement (.mbusOverloadRestore a0 a1) := of_none _ rfl
theorem Payload.cmdLbxDaliAddress (a0 : Frame) : Payload.Statement (.cmdLbxDaliAddress a0) := of_frame _ a0 rfl rfl
theorem Payload.cmdLbxMbusScan (a0 : Frame) : Payload.Statement (.cmdLbxMbusScan a0) := of_frame _ a0 rfl rfl
theorem Payload.cmdTimeGet (a0 : Frame) : Payload.Statement (.cmdTimeGet a0) := of_frame _ a0 rfl rfl
theorem Payload.cmdTimeSet (a0 : Frame) : Payload.Statement (.cmdTimeSet a0) := of_frame _ a0 rfl rfl
theorem Payload.calendarSetApply (a0 : Nat) : Payload.Statement (.calendarSetApply a0) := of_none _ rfl
theorem Payload.cmdTimeShift (a0 : Frame) : Payload.Statement (.cmdTimeShift a0) := of_frame _ a0 rfl rfl
theorem Payload.shiftDone (a0 : Nat) : Payload.Statement (.shiftDone a0) := of_none _ rfl
theorem Payload.alarmFire (a0 : Fin 16) (a1 : Nat) : Payload.Statement (.alarmFire a0 a1) := of_none _ rfl
theorem Payload.calendarRollover (a0 : Nat) : Payload.Statement (.calendarRollover a0) := of_none _ rfl
theorem Payload.timeCfgWrite (a0 : Requester) (a1 : BitVec 32) (a2 : Nat) : Payload.Statement (.timeCfgWrite a0 a1 a2) := of_none _ rfl
theorem Payload.ptpCalendarCheck (a0 : Nat) : Payload.Statement (.ptpCalendarCheck a0) := of_none _ rfl
theorem Payload.timeCorrCapture (a0 : Requester) (a1 : Nat) : Payload.Statement (.timeCorrCapture a0 a1) := of_none _ rfl
theorem Payload.timeCorrAuto (a0 : Nat) : Payload.Statement (.timeCorrAuto a0) := of_none _ rfl
theorem Payload.rtcGroupRead (a0 : Requester) (a1 : Nat) (a2 : Nat) : Payload.Statement (.rtcGroupRead a0 a1 a2) := of_none _ rfl
theorem Payload.rtcFreezeTimeout (a0 : Requester) (a1 : Nat) : Payload.Statement (.rtcFreezeTimeout a0 a1) := of_none _ rfl
theorem Payload.evrRecordWrite (a0 : Nat) : Payload.Statement (.evrRecordWrite a0) := of_none _ rfl
theorem Payload.watchEval (a0 : Nat) (a1 : Nat) : Payload.Statement (.watchEval a0 a1) := of_none _ rfl
theorem Payload.watchHoldoffEnd (a0 : Nat) (a1 : Fin 16) (a2 : Nat) : Payload.Statement (.watchHoldoffEnd a0 a1 a2) := of_none _ rfl
theorem Payload.evrRecRead (a0 : Requester) (a1 : Fin 64) : Payload.Statement (.evrRecRead a0 a1) := of_none _ rfl
theorem Payload.cmdEvtRead (a0 : Frame) : Payload.Statement (.cmdEvtRead a0) := of_frame _ a0 rfl rfl
theorem Payload.cmdEvtSubscribe (a0 : Frame) : Payload.Statement (.cmdEvtSubscribe a0) := of_frame _ a0 rfl rfl
theorem Payload.cmdEvtWipe (a0 : Frame) : Payload.Statement (.cmdEvtWipe a0) := of_frame _ a0 rfl rfl
theorem Payload.cmdKeyUpdate (a0 : Frame) : Payload.Statement (.cmdKeyUpdate a0) := of_frame _ a0 rfl rfl
theorem Payload.kumApply (a0 : Nat) : Payload.Statement (.kumApply a0) := of_none _ rfl
theorem Payload.cmdKeyAttest (a0 : Frame) : Payload.Statement (.cmdKeyAttest a0) := of_frame _ a0 rfl rfl
theorem Payload.cmdKeyCertify (a0 : Frame) : Payload.Statement (.cmdKeyCertify a0) := of_frame _ a0 rfl rfl
theorem Payload.cmdKeyAuthoritySet (a0 : Frame) : Payload.Statement (.cmdKeyAuthoritySet a0) := of_frame _ a0 rfl rfl
theorem Payload.cmdLcyPromote (a0 : Frame) : Payload.Statement (.cmdLcyPromote a0) := of_frame _ a0 rfl rfl
theorem Payload.cmdLcySealAck (a0 : Frame) : Payload.Statement (.cmdLcySealAck a0) := of_frame _ a0 rfl rfl
theorem Payload.cmdLcyUsbEnable (a0 : Frame) : Payload.Statement (.cmdLcyUsbEnable a0) := of_frame _ a0 rfl rfl
theorem Payload.cmdLcyUsbDisable (a0 : Frame) : Payload.Statement (.cmdLcyUsbDisable a0) := of_frame _ a0 rfl rfl
theorem Payload.usbEnableExpiry (a0 : Nat) : Payload.Statement (.usbEnableExpiry a0) := of_none _ rfl
theorem Payload.cmdLcyRetireStatement (a0 : Frame) : Payload.Statement (.cmdLcyRetireStatement a0) := of_frame _ a0 rfl rfl
theorem Payload.cmdLcyDebugChallenge (a0 : Frame) : Payload.Statement (.cmdLcyDebugChallenge a0) := of_frame _ a0 rfl rfl
theorem Payload.cmdLcyDebugUnlock (a0 : Frame) : Payload.Statement (.cmdLcyDebugUnlock a0) := of_frame _ a0 rfl rfl
theorem Payload.lcyD1EnWrite (a0 : Requester) (a1 : BitVec 34) (a2 : Nat) : Payload.Statement (.lcyD1EnWrite a0 a1 a2) := of_none _ rfl
theorem Payload.sealBreak (a0 : Nat) : Payload.Statement (.sealBreak a0) := of_none _ rfl
theorem Payload.configLockChange (a0 : Bool) (a1 : Nat) : Payload.Statement (.configLockChange a0 a1) := of_none _ rfl
theorem Payload.debugProbeFit (a0 : Nat) : Payload.Statement (.debugProbeFit a0) := of_none _ rfl
theorem Payload.debugSysrst (a0 : Nat) : Payload.Statement (.debugSysrst a0) := of_none _ rfl
theorem Payload.debugHalt (a0 : Bool) (a1 : Nat) : Payload.Statement (.debugHalt a0 a1) := of_none _ rfl
theorem Payload.cmdUpdOpen (a0 : Frame) : Payload.Statement (.cmdUpdOpen a0) := of_frame _ a0 rfl rfl
theorem Payload.cmdUpdBlock (a0 : Frame) : Payload.Statement (.cmdUpdBlock a0) := of_frame _ a0 rfl rfl
theorem Payload.cmdUpdStatus (a0 : Frame) : Payload.Statement (.cmdUpdStatus a0) := of_frame _ a0 rfl rfl
theorem Payload.cmdUpdVerify (a0 : Frame) : Payload.Statement (.cmdUpdVerify a0) := of_frame _ a0 rfl rfl
theorem Payload.cmdUpdAbort (a0 : Frame) : Payload.Statement (.cmdUpdAbort a0) := of_frame _ a0 rfl rfl
theorem Payload.cmdUpdActivate (a0 : Frame) : Payload.Statement (.cmdUpdActivate a0) := of_frame _ a0 rfl rfl
theorem Payload.cmdUpdConfirm (a0 : Frame) : Payload.Statement (.cmdUpdConfirm a0) := of_frame _ a0 rfl rfl
theorem Payload.cmdUpdFallback (a0 : Frame) : Payload.Statement (.cmdUpdFallback a0) := of_frame _ a0 rfl rfl
theorem Payload.cmdUpdRecoveryEnter (a0 : Frame) : Payload.Statement (.cmdUpdRecoveryEnter a0) := of_frame _ a0 rfl rfl
theorem Payload.updOwnerTimeout (a0 : Nat) : Payload.Statement (.updOwnerTimeout a0) := of_none _ rfl
theorem Payload.updActivation (a0 : Nat) : Payload.Statement (.updActivation a0) := of_none _ rfl
theorem Payload.updStepDone (a0 : Nat) (a1 : Nat) : Payload.Statement (.updStepDone a0 a1) := of_none _ rfl
theorem Payload.updStepTimeout (a0 : Nat) : Payload.Statement (.updStepTimeout a0) := of_none _ rfl
theorem Payload.updReset (a0 : Nat) : Payload.Statement (.updReset a0) := of_none _ rfl
theorem Payload.trialExpiry (a0 : Nat) : Payload.Statement (.trialExpiry a0) := of_none _ rfl
theorem Payload.bootResumeTimeout (a0 : Nat) : Payload.Statement (.bootResumeTimeout a0) := of_none _ rfl
theorem Payload.adjournExpiry (a0 : Nat) : Payload.Statement (.adjournExpiry a0) := of_none _ rfl
theorem Payload.updSealedMove (a0 : Requester) (a1 : BitVec 32) (a2 : Nat) : Payload.Statement (.updSealedMove a0 a1 a2) := of_none _ rfl
theorem Payload.recoveryBeacon (a0 : Nat) : Payload.Statement (.recoveryBeacon a0) := of_none _ rfl
theorem Payload.recoveryIdleExit (a0 : Nat) : Payload.Statement (.recoveryIdleExit a0) := of_none _ rfl
theorem Payload.eccUe (a0 : Nat) (a1 : Nat) (a2 : Nat) (a3 : Nat) : Payload.Statement (.eccUe a0 a1 a2 a3) := of_none _ rfl
theorem Payload.scrub (a0 : Nat) : Payload.Statement (.scrub a0) := of_none _ rfl
theorem Payload.cmdDiagMteRun (a0 : Frame) : Payload.Statement (.cmdDiagMteRun a0) := of_frame _ a0 rfl rfl
theorem Payload.cmdDiagMteAbort (a0 : Frame) : Payload.Statement (.cmdDiagMteAbort a0) := of_frame _ a0 rfl rfl
theorem Payload.mteTestDone (a0 : List Nat) (a1 : Nat) : Payload.Statement (.mteTestDone a0 a1) := of_none _ rfl
theorem Payload.pmonRun (a0 : Requester) (a1 : Bool) (a2 : Nat) : Payload.Statement (.pmonRun a0 a1 a2) := of_none _ rfl
theorem Payload.pmonFreeze (a0 : Requester) (a1 : Nat) : Payload.Statement (.pmonFreeze a0 a1) := of_none _ rfl
theorem Payload.pmonArm (a0 : Requester) (a1 : Nat) : Payload.Statement (.pmonArm a0 a1) := of_none _ rfl
theorem Payload.pmonArmedFreeze (a0 : Nat) : Payload.Statement (.pmonArmedFreeze a0) := of_none _ rfl
theorem Payload.pmonDumpEn (a0 : Requester) (a1 : Bool) (a2 : Nat) : Payload.Statement (.pmonDumpEn a0 a1 a2) := of_none _ rfl
theorem Payload.pmonDump (a0 : Nat) : Payload.Statement (.pmonDump a0) := of_none _ rfl
theorem Payload.pmonSampEn (a0 : Requester) (a1 : Bool) (a2 : Nat) : Payload.Statement (.pmonSampEn a0 a1 a2) := of_none _ rfl
theorem Payload.pmonSample (a0 : Fin 2) (a1 : Nat) : Payload.Statement (.pmonSample a0 a1) := of_none _ rfl
theorem Payload.cmdDiagPmonFreeze (a0 : Frame) : Payload.Statement (.cmdDiagPmonFreeze a0) := of_frame _ a0 rfl rfl
theorem Payload.cmdDiagPmonDumpRead (a0 : Frame) : Payload.Statement (.cmdDiagPmonDumpRead a0) := of_frame _ a0 rfl rfl
theorem Payload.cmdDiagPmonSampleRead (a0 : Frame) : Payload.Statement (.cmdDiagPmonSampleRead a0) := of_frame _ a0 rfl rfl
theorem Payload.agmMeasureDue (a0 : AgmMeasure) (a1 : Nat) : Payload.Statement (.agmMeasureDue a0 a1) := of_none _ rfl
theorem Payload.holdupTest (a0 : Nat) : Payload.Statement (.holdupTest a0) := of_none _ rfl
theorem Payload.agmReplanRetry (a0 : Nat) : Payload.Statement (.agmReplanRetry a0) := of_none _ rfl
theorem Payload.cmdDiagAgmMeasure (a0 : Frame) : Payload.Statement (.cmdDiagAgmMeasure a0) := of_frame _ a0 rfl rfl
theorem Payload.cmdDiagAgmReplan (a0 : Frame) : Payload.Statement (.cmdDiagAgmReplan a0) := of_frame _ a0 rfl rfl
theorem Payload.captureHoldEnd (a0 : Nat) : Payload.Statement (.captureHoldEnd a0) := of_none _ rfl
theorem Payload.sampleInstant (a0 : List Int) (a1 : Nat) : Payload.Statement (.sampleInstant a0 a1) := of_none _ rfl
theorem Payload.busIntegration (a0 : Fin 24) (a1 : Nat) : Payload.Statement (.busIntegration a0 a1) := of_none _ rfl
theorem Payload.protocolException (a0 : Fin 24) (a1 : Nat) : Payload.Statement (.protocolException a0 a1) := of_none _ rfl
theorem Payload.nodeForgetTime (a0 : Nat) (a1 : Nat) : Payload.Statement (.nodeForgetTime a0 a1) := of_none _ rfl
theorem Payload.mstpFrame (a0 : Fin 16) (a1 : MstpFrame) (a2 : Nat) : Payload.Statement (.mstpFrame a0 a1 a2) := of_none _ rfl
theorem Payload.sealLoopIntact (a0 : Nat) : Payload.Statement (.sealLoopIntact a0) := of_none _ rfl
theorem Payload.presenceRelease (a0 : Nat) : Payload.Statement (.presenceRelease a0) := of_none _ rfl
theorem Payload.backupDomainDip (a0 : Nat) : Payload.Statement (.backupDomainDip a0) := of_none _ rfl
theorem Payload.updVerifyDone (a0 : Nat) : Payload.Statement (.updVerifyDone a0) := of_none _ rfl
theorem Payload.agmMeasurementEnd (a0 : AgmMeasure) (a1 : Nat) : Payload.Statement (.agmMeasurementEnd a0 a1) := of_none _ rfl

end Sys2Proof.Laws
end

