-- ==== Sys2Proof/Laws/State.lean ====
section
/-!
SUPPORT. What each update of the state leaves alone: one lemma for every field and update, true by definition.
-/
namespace Sys2Proof.Machine

/-! ### wr -/

@[simp] theorem State.wr_floorTime (s : State) (f : Fld) (v : Nat) : (s.wr f v).floorTime = s.floorTime := rfl
@[simp] theorem State.wr_power (s : State) (f : Fld) (v : Nat) : (s.wr f v).power = s.power := rfl
@[simp] theorem State.wr_conns (s : State) (f : Fld) (v : Nat) : (s.wr f v).conns = s.conns := rfl
@[simp] theorem State.wr_sessions (s : State) (f : Fld) (v : Nat) : (s.wr f v).sessions = s.sessions := rfl
@[simp] theorem State.wr_waiters (s : State) (f : Fld) (v : Nat) : (s.wr f v).waiters = s.waiters := rfl
@[simp] theorem State.wr_sent (s : State) (f : Fld) (v : Nat) : (s.wr f v).sent = s.sent := rfl
@[simp] theorem State.wr_mbx (s : State) (f : Fld) (v : Nat) : (s.wr f v).mbx = s.mbx := rfl
@[simp] theorem State.wr_evr (s : State) (f : Fld) (v : Nat) : (s.wr f v).evr = s.evr := rfl
@[simp] theorem State.wr_rtc (s : State) (f : Fld) (v : Nat) : (s.wr f v).rtc = s.rtc := rfl
@[simp] theorem State.wr_ptp (s : State) (f : Fld) (v : Nat) : (s.wr f v).ptp = s.ptp := rfl
@[simp] theorem State.wr_lcy (s : State) (f : Fld) (v : Nat) : (s.wr f v).lcy = s.lcy := rfl
@[simp] theorem State.wr_stagings (s : State) (f : Fld) (v : Nat) : (s.wr f v).stagings = s.stagings := rfl
@[simp] theorem State.wr_castlings (s : State) (f : Fld) (v : Nat) : (s.wr f v).castlings = s.castlings := rfl
@[simp] theorem State.wr_castNext (s : State) (f : Fld) (v : Nat) : (s.wr f v).castNext = s.castNext := rfl
@[simp] theorem State.wr_castBoot (s : State) (f : Fld) (v : Nat) : (s.wr f v).castBoot = s.castBoot := rfl
@[simp] theorem State.wr_scan (s : State) (f : Fld) (v : Nat) : (s.wr f v).scan = s.scan := rfl
@[simp] theorem State.wr_mae (s : State) (f : Fld) (v : Nat) : (s.wr f v).mae = s.mae := rfl
@[simp] theorem State.wr_fbc (s : State) (f : Fld) (v : Nat) : (s.wr f v).fbc = s.fbc := rfl
@[simp] theorem State.wr_nsw (s : State) (f : Fld) (v : Nat) : (s.wr f v).nsw = s.nsw := rfl
@[simp] theorem State.wr_lbx (s : State) (f : Fld) (v : Nat) : (s.wr f v).lbx = s.lbx := rfl
@[simp] theorem State.wr_kse (s : State) (f : Fld) (v : Nat) : (s.wr f v).kse = s.kse := rfl
@[simp] theorem State.wr_upd (s : State) (f : Fld) (v : Nat) : (s.wr f v).upd = s.upd := rfl
@[simp] theorem State.wr_mte (s : State) (f : Fld) (v : Nat) : (s.wr f v).mte = s.mte := rfl
@[simp] theorem State.wr_pmon (s : State) (f : Fld) (v : Nat) : (s.wr f v).pmon = s.pmon := rfl
@[simp] theorem State.wr_agm (s : State) (f : Fld) (v : Nat) : (s.wr f v).agm = s.agm := rfl
@[simp] theorem State.wr_captures (s : State) (f : Fld) (v : Nat) : (s.wr f v).captures = s.captures := rfl
@[simp] theorem State.wr_free (s : State) (f : Fld) (v : Nat) : (s.wr f v).free = s.free := rfl
@[simp] theorem State.wr_pending (s : State) (f : Fld) (v : Nat) : (s.wr f v).pending = s.pending := rfl

/-! ### draw -/

@[simp] theorem State.draw_floorTime (s : State) : s.draw.2.floorTime = s.floorTime := rfl
@[simp] theorem State.draw_regs (s : State) : s.draw.2.regs = s.regs := rfl
@[simp] theorem State.draw_power (s : State) : s.draw.2.power = s.power := rfl
@[simp] theorem State.draw_conns (s : State) : s.draw.2.conns = s.conns := rfl
@[simp] theorem State.draw_sessions (s : State) : s.draw.2.sessions = s.sessions := rfl
@[simp] theorem State.draw_waiters (s : State) : s.draw.2.waiters = s.waiters := rfl
@[simp] theorem State.draw_sent (s : State) : s.draw.2.sent = s.sent := rfl
@[simp] theorem State.draw_mbx (s : State) : s.draw.2.mbx = s.mbx := rfl
@[simp] theorem State.draw_evr (s : State) : s.draw.2.evr = s.evr := rfl
@[simp] theorem State.draw_rtc (s : State) : s.draw.2.rtc = s.rtc := rfl
@[simp] theorem State.draw_ptp (s : State) : s.draw.2.ptp = s.ptp := rfl
@[simp] theorem State.draw_lcy (s : State) : s.draw.2.lcy = s.lcy := rfl
@[simp] theorem State.draw_stagings (s : State) : s.draw.2.stagings = s.stagings := rfl
@[simp] theorem State.draw_castlings (s : State) : s.draw.2.castlings = s.castlings := rfl
@[simp] theorem State.draw_castNext (s : State) : s.draw.2.castNext = s.castNext := rfl
@[simp] theorem State.draw_castBoot (s : State) : s.draw.2.castBoot = s.castBoot := rfl
@[simp] theorem State.draw_scan (s : State) : s.draw.2.scan = s.scan := rfl
@[simp] theorem State.draw_mae (s : State) : s.draw.2.mae = s.mae := rfl
@[simp] theorem State.draw_fbc (s : State) : s.draw.2.fbc = s.fbc := rfl
@[simp] theorem State.draw_nsw (s : State) : s.draw.2.nsw = s.nsw := rfl
@[simp] theorem State.draw_lbx (s : State) : s.draw.2.lbx = s.lbx := rfl
@[simp] theorem State.draw_kse (s : State) : s.draw.2.kse = s.kse := rfl
@[simp] theorem State.draw_upd (s : State) : s.draw.2.upd = s.upd := rfl
@[simp] theorem State.draw_mte (s : State) : s.draw.2.mte = s.mte := rfl
@[simp] theorem State.draw_pmon (s : State) : s.draw.2.pmon = s.pmon := rfl
@[simp] theorem State.draw_agm (s : State) : s.draw.2.agm = s.agm := rfl
@[simp] theorem State.draw_captures (s : State) : s.draw.2.captures = s.captures := rfl
@[simp] theorem State.draw_pending (s : State) : s.draw.2.pending = s.pending := rfl
@[simp] theorem State.draw_rd (s : State) (g : Fld) : s.draw.2.rd g = s.rd g := rfl

/-! ### advance -/

@[simp] theorem State.advance_regs (s : State) (t : Nat) : (s.advance t).regs = s.regs := rfl
@[simp] theorem State.advance_power (s : State) (t : Nat) : (s.advance t).power = s.power := rfl
@[simp] theorem State.advance_conns (s : State) (t : Nat) : (s.advance t).conns = s.conns := rfl
@[simp] theorem State.advance_sessions (s : State) (t : Nat) : (s.advance t).sessions = s.sessions := rfl
@[simp] theorem State.advance_waiters (s : State) (t : Nat) : (s.advance t).waiters = s.waiters := rfl
@[simp] theorem State.advance_sent (s : State) (t : Nat) : (s.advance t).sent = s.sent := rfl
@[simp] theorem State.advance_mbx (s : State) (t : Nat) : (s.advance t).mbx = s.mbx := rfl
@[simp] theorem State.advance_evr (s : State) (t : Nat) : (s.advance t).evr = s.evr := rfl
@[simp] theorem State.advance_ptp (s : State) (t : Nat) : (s.advance t).ptp = s.ptp := rfl
@[simp] theorem State.advance_lcy (s : State) (t : Nat) : (s.advance t).lcy = s.lcy := rfl
@[simp] theorem State.advance_stagings (s : State) (t : Nat) : (s.advance t).stagings = s.stagings := rfl
@[simp] theorem State.advance_castlings (s : State) (t : Nat) : (s.advance t).castlings = s.castlings := rfl
@[simp] theorem State.advance_castNext (s : State) (t : Nat) : (s.advance t).castNext = s.castNext := rfl
@[simp] theorem State.advance_castBoot (s : State) (t : Nat) : (s.advance t).castBoot = s.castBoot := rfl
@[simp] theorem State.advance_scan (s : State) (t : Nat) : (s.advance t).scan = s.scan := rfl
@[simp] theorem State.advance_mae (s : State) (t : Nat) : (s.advance t).mae = s.mae := rfl
@[simp] theorem State.advance_fbc (s : State) (t : Nat) : (s.advance t).fbc = s.fbc := rfl
@[simp] theorem State.advance_nsw (s : State) (t : Nat) : (s.advance t).nsw = s.nsw := rfl
@[simp] theorem State.advance_lbx (s : State) (t : Nat) : (s.advance t).lbx = s.lbx := rfl
@[simp] theorem State.advance_kse (s : State) (t : Nat) : (s.advance t).kse = s.kse := rfl
@[simp] theorem State.advance_upd (s : State) (t : Nat) : (s.advance t).upd = s.upd := rfl
@[simp] theorem State.advance_mte (s : State) (t : Nat) : (s.advance t).mte = s.mte := rfl
@[simp] theorem State.advance_pmon (s : State) (t : Nat) : (s.advance t).pmon = s.pmon := rfl
@[simp] theorem State.advance_agm (s : State) (t : Nat) : (s.advance t).agm = s.agm := rfl
@[simp] theorem State.advance_captures (s : State) (t : Nat) : (s.advance t).captures = s.captures := rfl
@[simp] theorem State.advance_free (s : State) (t : Nat) : (s.advance t).free = s.free := rfl
@[simp] theorem State.advance_pending (s : State) (t : Nat) : (s.advance t).pending = s.pending := rfl
@[simp] theorem State.advance_rd (s : State) (t : Nat) (g : Fld) : (s.advance t).rd g = s.rd g := rfl

/-! ### emit -/

@[simp] theorem State.emit_floorTime (s : State) (o : Out) : (s.emit o).floorTime = s.floorTime := rfl
@[simp] theorem State.emit_regs (s : State) (o : Out) : (s.emit o).regs = s.regs := rfl
@[simp] theorem State.emit_power (s : State) (o : Out) : (s.emit o).power = s.power := rfl
@[simp] theorem State.emit_conns (s : State) (o : Out) : (s.emit o).conns = s.conns := rfl
@[simp] theorem State.emit_sessions (s : State) (o : Out) : (s.emit o).sessions = s.sessions := rfl
@[simp] theorem State.emit_waiters (s : State) (o : Out) : (s.emit o).waiters = s.waiters := rfl
@[simp] theorem State.emit_mbx (s : State) (o : Out) : (s.emit o).mbx = s.mbx := rfl
@[simp] theorem State.emit_evr (s : State) (o : Out) : (s.emit o).evr = s.evr := rfl
@[simp] theorem State.emit_rtc (s : State) (o : Out) : (s.emit o).rtc = s.rtc := rfl
@[simp] theorem State.emit_ptp (s : State) (o : Out) : (s.emit o).ptp = s.ptp := rfl
@[simp] theorem State.emit_lcy (s : State) (o : Out) : (s.emit o).lcy = s.lcy := rfl
@[simp] theorem State.emit_stagings (s : State) (o : Out) : (s.emit o).stagings = s.stagings := rfl
@[simp] theorem State.emit_castlings (s : State) (o : Out) : (s.emit o).castlings = s.castlings := rfl
@[simp] theorem State.emit_castNext (s : State) (o : Out) : (s.emit o).castNext = s.castNext := rfl
@[simp] theorem State.emit_castBoot (s : State) (o : Out) : (s.emit o).castBoot = s.castBoot := rfl
@[simp] theorem State.emit_scan (s : State) (o : Out) : (s.emit o).scan = s.scan := rfl
@[simp] theorem State.emit_mae (s : State) (o : Out) : (s.emit o).mae = s.mae := rfl
@[simp] theorem State.emit_fbc (s : State) (o : Out) : (s.emit o).fbc = s.fbc := rfl
@[simp] theorem State.emit_nsw (s : State) (o : Out) : (s.emit o).nsw = s.nsw := rfl
@[simp] theorem State.emit_lbx (s : State) (o : Out) : (s.emit o).lbx = s.lbx := rfl
@[simp] theorem State.emit_kse (s : State) (o : Out) : (s.emit o).kse = s.kse := rfl
@[simp] theorem State.emit_upd (s : State) (o : Out) : (s.emit o).upd = s.upd := rfl
@[simp] theorem State.emit_mte (s : State) (o : Out) : (s.emit o).mte = s.mte := rfl
@[simp] theorem State.emit_pmon (s : State) (o : Out) : (s.emit o).pmon = s.pmon := rfl
@[simp] theorem State.emit_agm (s : State) (o : Out) : (s.emit o).agm = s.agm := rfl
@[simp] theorem State.emit_captures (s : State) (o : Out) : (s.emit o).captures = s.captures := rfl
@[simp] theorem State.emit_free (s : State) (o : Out) : (s.emit o).free = s.free := rfl
@[simp] theorem State.emit_pending (s : State) (o : Out) : (s.emit o).pending = s.pending := rfl
@[simp] theorem State.emit_rd (s : State) (o : Out) (g : Fld) : (s.emit o).rd g = s.rd g := rfl

/-! ### putSession -/

@[simp] theorem State.putSession_floorTime (s : State) (x : Session) : (s.putSession x).floorTime = s.floorTime := rfl
@[simp] theorem State.putSession_regs (s : State) (x : Session) : (s.putSession x).regs = s.regs := rfl
@[simp] theorem State.putSession_power (s : State) (x : Session) : (s.putSession x).power = s.power := rfl
@[simp] theorem State.putSession_conns (s : State) (x : Session) : (s.putSession x).conns = s.conns := rfl
@[simp] theorem State.putSession_waiters (s : State) (x : Session) : (s.putSession x).waiters = s.waiters := rfl
@[simp] theorem State.putSession_sent (s : State) (x : Session) : (s.putSession x).sent = s.sent := rfl
@[simp] theorem State.putSession_mbx (s : State) (x : Session) : (s.putSession x).mbx = s.mbx := rfl
@[simp] theorem State.putSession_evr (s : State) (x : Session) : (s.putSession x).evr = s.evr := rfl
@[simp] theorem State.putSession_rtc (s : State) (x : Session) : (s.putSession x).rtc = s.rtc := rfl
@[simp] theorem State.putSession_ptp (s : State) (x : Session) : (s.putSession x).ptp = s.ptp := rfl
@[simp] theorem State.putSession_lcy (s : State) (x : Session) : (s.putSession x).lcy = s.lcy := rfl
@[simp] theorem State.putSession_stagings (s : State) (x : Session) : (s.putSession x).stagings = s.stagings := rfl
@[simp] theorem State.putSession_castlings (s : State) (x : Session) : (s.putSession x).castlings = s.castlings := rfl
@[simp] theorem State.putSession_castNext (s : State) (x : Session) : (s.putSession x).castNext = s.castNext := rfl
@[simp] theorem State.putSession_castBoot (s : State) (x : Session) : (s.putSession x).castBoot = s.castBoot := rfl
@[simp] theorem State.putSession_scan (s : State) (x : Session) : (s.putSession x).scan = s.scan := rfl
@[simp] theorem State.putSession_mae (s : State) (x : Session) : (s.putSession x).mae = s.mae := rfl
@[simp] theorem State.putSession_fbc (s : State) (x : Session) : (s.putSession x).fbc = s.fbc := rfl
@[simp] theorem State.putSession_nsw (s : State) (x : Session) : (s.putSession x).nsw = s.nsw := rfl
@[simp] theorem State.putSession_lbx (s : State) (x : Session) : (s.putSession x).lbx = s.lbx := rfl
@[simp] theorem State.putSession_kse (s : State) (x : Session) : (s.putSession x).kse = s.kse := rfl
@[simp] theorem State.putSession_upd (s : State) (x : Session) : (s.putSession x).upd = s.upd := rfl
@[simp] theorem State.putSession_mte (s : State) (x : Session) : (s.putSession x).mte = s.mte := rfl
@[simp] theorem State.putSession_pmon (s : State) (x : Session) : (s.putSession x).pmon = s.pmon := rfl
@[simp] theorem State.putSession_agm (s : State) (x : Session) : (s.putSession x).agm = s.agm := rfl
@[simp] theorem State.putSession_captures (s : State) (x : Session) : (s.putSession x).captures = s.captures := rfl
@[simp] theorem State.putSession_free (s : State) (x : Session) : (s.putSession x).free = s.free := rfl
@[simp] theorem State.putSession_pending (s : State) (x : Session) : (s.putSession x).pending = s.pending := rfl
@[simp] theorem State.putSession_rd (s : State) (x : Session) (g : Fld) : (s.putSession x).rd g = s.rd g := rfl

/-! ### putConn -/

@[simp] theorem State.putConn_floorTime (s : State) (x : Conn) : (s.putConn x).floorTime = s.floorTime := rfl
@[simp] theorem State.putConn_regs (s : State) (x : Conn) : (s.putConn x).regs = s.regs := rfl
@[simp] theorem State.putConn_power (s : State) (x : Conn) : (s.putConn x).power = s.power := rfl
@[simp] theorem State.putConn_sessions (s : State) (x : Conn) : (s.putConn x).sessions = s.sessions := rfl
@[simp] theorem State.putConn_waiters (s : State) (x : Conn) : (s.putConn x).waiters = s.waiters := rfl
@[simp] theorem State.putConn_sent (s : State) (x : Conn) : (s.putConn x).sent = s.sent := rfl
@[simp] theorem State.putConn_mbx (s : State) (x : Conn) : (s.putConn x).mbx = s.mbx := rfl
@[simp] theorem State.putConn_evr (s : State) (x : Conn) : (s.putConn x).evr = s.evr := rfl
@[simp] theorem State.putConn_rtc (s : State) (x : Conn) : (s.putConn x).rtc = s.rtc := rfl
@[simp] theorem State.putConn_ptp (s : State) (x : Conn) : (s.putConn x).ptp = s.ptp := rfl
@[simp] theorem State.putConn_lcy (s : State) (x : Conn) : (s.putConn x).lcy = s.lcy := rfl
@[simp] theorem State.putConn_stagings (s : State) (x : Conn) : (s.putConn x).stagings = s.stagings := rfl
@[simp] theorem State.putConn_castlings (s : State) (x : Conn) : (s.putConn x).castlings = s.castlings := rfl
@[simp] theorem State.putConn_castNext (s : State) (x : Conn) : (s.putConn x).castNext = s.castNext := rfl
@[simp] theorem State.putConn_castBoot (s : State) (x : Conn) : (s.putConn x).castBoot = s.castBoot := rfl
@[simp] theorem State.putConn_scan (s : State) (x : Conn) : (s.putConn x).scan = s.scan := rfl
@[simp] theorem State.putConn_mae (s : State) (x : Conn) : (s.putConn x).mae = s.mae := rfl
@[simp] theorem State.putConn_fbc (s : State) (x : Conn) : (s.putConn x).fbc = s.fbc := rfl
@[simp] theorem State.putConn_nsw (s : State) (x : Conn) : (s.putConn x).nsw = s.nsw := rfl
@[simp] theorem State.putConn_lbx (s : State) (x : Conn) : (s.putConn x).lbx = s.lbx := rfl
@[simp] theorem State.putConn_kse (s : State) (x : Conn) : (s.putConn x).kse = s.kse := rfl
@[simp] theorem State.putConn_upd (s : State) (x : Conn) : (s.putConn x).upd = s.upd := rfl
@[simp] theorem State.putConn_mte (s : State) (x : Conn) : (s.putConn x).mte = s.mte := rfl
@[simp] theorem State.putConn_pmon (s : State) (x : Conn) : (s.putConn x).pmon = s.pmon := rfl
@[simp] theorem State.putConn_agm (s : State) (x : Conn) : (s.putConn x).agm = s.agm := rfl
@[simp] theorem State.putConn_captures (s : State) (x : Conn) : (s.putConn x).captures = s.captures := rfl
@[simp] theorem State.putConn_free (s : State) (x : Conn) : (s.putConn x).free = s.free := rfl
@[simp] theorem State.putConn_pending (s : State) (x : Conn) : (s.putConn x).pending = s.pending := rfl
@[simp] theorem State.putConn_rd (s : State) (x : Conn) (g : Fld) : (s.putConn x).rd g = s.rd g := rfl

/-! ### putPly -/

@[simp] theorem State.putPly_floorTime (s : State) (p : Ply) : (s.putPly p).floorTime = s.floorTime := rfl
@[simp] theorem State.putPly_regs (s : State) (p : Ply) : (s.putPly p).regs = s.regs := rfl
@[simp] theorem State.putPly_power (s : State) (p : Ply) : (s.putPly p).power = s.power := rfl
@[simp] theorem State.putPly_conns (s : State) (p : Ply) : (s.putPly p).conns = s.conns := rfl
@[simp] theorem State.putPly_sessions (s : State) (p : Ply) : (s.putPly p).sessions = s.sessions := rfl
@[simp] theorem State.putPly_waiters (s : State) (p : Ply) : (s.putPly p).waiters = s.waiters := rfl
@[simp] theorem State.putPly_sent (s : State) (p : Ply) : (s.putPly p).sent = s.sent := rfl
@[simp] theorem State.putPly_mbx (s : State) (p : Ply) : (s.putPly p).mbx = s.mbx := rfl
@[simp] theorem State.putPly_evr (s : State) (p : Ply) : (s.putPly p).evr = s.evr := rfl
@[simp] theorem State.putPly_rtc (s : State) (p : Ply) : (s.putPly p).rtc = s.rtc := rfl
@[simp] theorem State.putPly_ptp (s : State) (p : Ply) : (s.putPly p).ptp = s.ptp := rfl
@[simp] theorem State.putPly_lcy (s : State) (p : Ply) : (s.putPly p).lcy = s.lcy := rfl
@[simp] theorem State.putPly_stagings (s : State) (p : Ply) : (s.putPly p).stagings = s.stagings := rfl
@[simp] theorem State.putPly_castlings (s : State) (p : Ply) : (s.putPly p).castlings = s.castlings := rfl
@[simp] theorem State.putPly_castNext (s : State) (p : Ply) : (s.putPly p).castNext = s.castNext := rfl
@[simp] theorem State.putPly_castBoot (s : State) (p : Ply) : (s.putPly p).castBoot = s.castBoot := rfl
@[simp] theorem State.putPly_mae (s : State) (p : Ply) : (s.putPly p).mae = s.mae := rfl
@[simp] theorem State.putPly_fbc (s : State) (p : Ply) : (s.putPly p).fbc = s.fbc := rfl
@[simp] theorem State.putPly_nsw (s : State) (p : Ply) : (s.putPly p).nsw = s.nsw := rfl
@[simp] theorem State.putPly_lbx (s : State) (p : Ply) : (s.putPly p).lbx = s.lbx := rfl
@[simp] theorem State.putPly_kse (s : State) (p : Ply) : (s.putPly p).kse = s.kse := rfl
@[simp] theorem State.putPly_upd (s : State) (p : Ply) : (s.putPly p).upd = s.upd := rfl
@[simp] theorem State.putPly_mte (s : State) (p : Ply) : (s.putPly p).mte = s.mte := rfl
@[simp] theorem State.putPly_pmon (s : State) (p : Ply) : (s.putPly p).pmon = s.pmon := rfl
@[simp] theorem State.putPly_agm (s : State) (p : Ply) : (s.putPly p).agm = s.agm := rfl
@[simp] theorem State.putPly_captures (s : State) (p : Ply) : (s.putPly p).captures = s.captures := rfl
@[simp] theorem State.putPly_free (s : State) (p : Ply) : (s.putPly p).free = s.free := rfl
@[simp] theorem State.putPly_pending (s : State) (p : Ply) : (s.putPly p).pending = s.pending := rfl
@[simp] theorem State.putPly_rd (s : State) (p : Ply) (g : Fld) : (s.putPly p).rd g = s.rd g := rfl

/-! ### dropPly -/

@[simp] theorem State.dropPly_floorTime (s : State) (p : Ply) : (s.dropPly p).floorTime = s.floorTime := rfl
@[simp] theorem State.dropPly_regs (s : State) (p : Ply) : (s.dropPly p).regs = s.regs := rfl
@[simp] theorem State.dropPly_power (s : State) (p : Ply) : (s.dropPly p).power = s.power := rfl
@[simp] theorem State.dropPly_conns (s : State) (p : Ply) : (s.dropPly p).conns = s.conns := rfl
@[simp] theorem State.dropPly_sessions (s : State) (p : Ply) : (s.dropPly p).sessions = s.sessions := rfl
@[simp] theorem State.dropPly_waiters (s : State) (p : Ply) : (s.dropPly p).waiters = s.waiters := rfl
@[simp] theorem State.dropPly_sent (s : State) (p : Ply) : (s.dropPly p).sent = s.sent := rfl
@[simp] theorem State.dropPly_mbx (s : State) (p : Ply) : (s.dropPly p).mbx = s.mbx := rfl
@[simp] theorem State.dropPly_evr (s : State) (p : Ply) : (s.dropPly p).evr = s.evr := rfl
@[simp] theorem State.dropPly_rtc (s : State) (p : Ply) : (s.dropPly p).rtc = s.rtc := rfl
@[simp] theorem State.dropPly_ptp (s : State) (p : Ply) : (s.dropPly p).ptp = s.ptp := rfl
@[simp] theorem State.dropPly_lcy (s : State) (p : Ply) : (s.dropPly p).lcy = s.lcy := rfl
@[simp] theorem State.dropPly_stagings (s : State) (p : Ply) : (s.dropPly p).stagings = s.stagings := rfl
@[simp] theorem State.dropPly_castlings (s : State) (p : Ply) : (s.dropPly p).castlings = s.castlings := rfl
@[simp] theorem State.dropPly_castNext (s : State) (p : Ply) : (s.dropPly p).castNext = s.castNext := rfl
@[simp] theorem State.dropPly_castBoot (s : State) (p : Ply) : (s.dropPly p).castBoot = s.castBoot := rfl
@[simp] theorem State.dropPly_mae (s : State) (p : Ply) : (s.dropPly p).mae = s.mae := rfl
@[simp] theorem State.dropPly_fbc (s : State) (p : Ply) : (s.dropPly p).fbc = s.fbc := rfl
@[simp] theorem State.dropPly_nsw (s : State) (p : Ply) : (s.dropPly p).nsw = s.nsw := rfl
@[simp] theorem State.dropPly_lbx (s : State) (p : Ply) : (s.dropPly p).lbx = s.lbx := rfl
@[simp] theorem State.dropPly_kse (s : State) (p : Ply) : (s.dropPly p).kse = s.kse := rfl
@[simp] theorem State.dropPly_upd (s : State) (p : Ply) : (s.dropPly p).upd = s.upd := rfl
@[simp] theorem State.dropPly_mte (s : State) (p : Ply) : (s.dropPly p).mte = s.mte := rfl
@[simp] theorem State.dropPly_pmon (s : State) (p : Ply) : (s.dropPly p).pmon = s.pmon := rfl
@[simp] theorem State.dropPly_agm (s : State) (p : Ply) : (s.dropPly p).agm = s.agm := rfl
@[simp] theorem State.dropPly_captures (s : State) (p : Ply) : (s.dropPly p).captures = s.captures := rfl
@[simp] theorem State.dropPly_free (s : State) (p : Ply) : (s.dropPly p).free = s.free := rfl
@[simp] theorem State.dropPly_pending (s : State) (p : Ply) : (s.dropPly p).pending = s.pending := rfl
@[simp] theorem State.dropPly_rd (s : State) (p : Ply) (g : Fld) : (s.dropPly p).rd g = s.rd g := rfl

/-! ### putProg -/

@[simp] theorem State.putProg_floorTime (s : State) (c : Nat) (p : CompScan) : (s.putProg c p).floorTime = s.floorTime := rfl
@[simp] theorem State.putProg_regs (s : State) (c : Nat) (p : CompScan) : (s.putProg c p).regs = s.regs := rfl
@[simp] theorem State.putProg_power (s : State) (c : Nat) (p : CompScan) : (s.putProg c p).power = s.power := rfl
@[simp] theorem State.putProg_conns (s : State) (c : Nat) (p : CompScan) : (s.putProg c p).conns = s.conns := rfl
@[simp] theorem State.putProg_sessions (s : State) (c : Nat) (p : CompScan) : (s.putProg c p).sessions = s.sessions := rfl
@[simp] theorem State.putProg_waiters (s : State) (c : Nat) (p : CompScan) : (s.putProg c p).waiters = s.waiters := rfl
@[simp] theorem State.putProg_sent (s : State) (c : Nat) (p : CompScan) : (s.putProg c p).sent = s.sent := rfl
@[simp] theorem State.putProg_mbx (s : State) (c : Nat) (p : CompScan) : (s.putProg c p).mbx = s.mbx := rfl
@[simp] theorem State.putProg_evr (s : State) (c : Nat) (p : CompScan) : (s.putProg c p).evr = s.evr := rfl
@[simp] theorem State.putProg_rtc (s : State) (c : Nat) (p : CompScan) : (s.putProg c p).rtc = s.rtc := rfl
@[simp] theorem State.putProg_ptp (s : State) (c : Nat) (p : CompScan) : (s.putProg c p).ptp = s.ptp := rfl
@[simp] theorem State.putProg_lcy (s : State) (c : Nat) (p : CompScan) : (s.putProg c p).lcy = s.lcy := rfl
@[simp] theorem State.putProg_stagings (s : State) (c : Nat) (p : CompScan) : (s.putProg c p).stagings = s.stagings := rfl
@[simp] theorem State.putProg_castlings (s : State) (c : Nat) (p : CompScan) : (s.putProg c p).castlings = s.castlings := rfl
@[simp] theorem State.putProg_castNext (s : State) (c : Nat) (p : CompScan) : (s.putProg c p).castNext = s.castNext := rfl
@[simp] theorem State.putProg_castBoot (s : State) (c : Nat) (p : CompScan) : (s.putProg c p).castBoot = s.castBoot := rfl
@[simp] theorem State.putProg_mae (s : State) (c : Nat) (p : CompScan) : (s.putProg c p).mae = s.mae := rfl
@[simp] theorem State.putProg_fbc (s : State) (c : Nat) (p : CompScan) : (s.putProg c p).fbc = s.fbc := rfl
@[simp] theorem State.putProg_nsw (s : State) (c : Nat) (p : CompScan) : (s.putProg c p).nsw = s.nsw := rfl
@[simp] theorem State.putProg_lbx (s : State) (c : Nat) (p : CompScan) : (s.putProg c p).lbx = s.lbx := rfl
@[simp] theorem State.putProg_kse (s : State) (c : Nat) (p : CompScan) : (s.putProg c p).kse = s.kse := rfl
@[simp] theorem State.putProg_upd (s : State) (c : Nat) (p : CompScan) : (s.putProg c p).upd = s.upd := rfl
@[simp] theorem State.putProg_mte (s : State) (c : Nat) (p : CompScan) : (s.putProg c p).mte = s.mte := rfl
@[simp] theorem State.putProg_pmon (s : State) (c : Nat) (p : CompScan) : (s.putProg c p).pmon = s.pmon := rfl
@[simp] theorem State.putProg_agm (s : State) (c : Nat) (p : CompScan) : (s.putProg c p).agm = s.agm := rfl
@[simp] theorem State.putProg_captures (s : State) (c : Nat) (p : CompScan) : (s.putProg c p).captures = s.captures := rfl
@[simp] theorem State.putProg_free (s : State) (c : Nat) (p : CompScan) : (s.putProg c p).free = s.free := rfl
@[simp] theorem State.putProg_pending (s : State) (c : Nat) (p : CompScan) : (s.putProg c p).pending = s.pending := rfl
@[simp] theorem State.putProg_rd (s : State) (c : Nat) (p : CompScan) (g : Fld) : (s.putProg c p).rd g = s.rd g := rfl

/-! ### putTask -/

@[simp] theorem State.putTask_floorTime (s : State) (c e k : Nat) (x : TaskRun) : (s.putTask c e k x).floorTime = s.floorTime := rfl
@[simp] theorem State.putTask_regs (s : State) (c e k : Nat) (x : TaskRun) : (s.putTask c e k x).regs = s.regs := rfl
@[simp] theorem State.putTask_power (s : State) (c e k : Nat) (x : TaskRun) : (s.putTask c e k x).power = s.power := rfl
@[simp] theorem State.putTask_conns (s : State) (c e k : Nat) (x : TaskRun) : (s.putTask c e k x).conns = s.conns := rfl
@[simp] theorem State.putTask_sessions (s : State) (c e k : Nat) (x : TaskRun) : (s.putTask c e k x).sessions = s.sessions := rfl
@[simp] theorem State.putTask_waiters (s : State) (c e k : Nat) (x : TaskRun) : (s.putTask c e k x).waiters = s.waiters := rfl
@[simp] theorem State.putTask_sent (s : State) (c e k : Nat) (x : TaskRun) : (s.putTask c e k x).sent = s.sent := rfl
@[simp] theorem State.putTask_mbx (s : State) (c e k : Nat) (x : TaskRun) : (s.putTask c e k x).mbx = s.mbx := rfl
@[simp] theorem State.putTask_evr (s : State) (c e k : Nat) (x : TaskRun) : (s.putTask c e k x).evr = s.evr := rfl
@[simp] theorem State.putTask_rtc (s : State) (c e k : Nat) (x : TaskRun) : (s.putTask c e k x).rtc = s.rtc := rfl
@[simp] theorem State.putTask_ptp (s : State) (c e k : Nat) (x : TaskRun) : (s.putTask c e k x).ptp = s.ptp := rfl
@[simp] theorem State.putTask_lcy (s : State) (c e k : Nat) (x : TaskRun) : (s.putTask c e k x).lcy = s.lcy := rfl
@[simp] theorem State.putTask_stagings (s : State) (c e k : Nat) (x : TaskRun) : (s.putTask c e k x).stagings = s.stagings := rfl
@[simp] theorem State.putTask_castlings (s : State) (c e k : Nat) (x : TaskRun) : (s.putTask c e k x).castlings = s.castlings := rfl
@[simp] theorem State.putTask_castNext (s : State) (c e k : Nat) (x : TaskRun) : (s.putTask c e k x).castNext = s.castNext := rfl
@[simp] theorem State.putTask_castBoot (s : State) (c e k : Nat) (x : TaskRun) : (s.putTask c e k x).castBoot = s.castBoot := rfl
@[simp] theorem State.putTask_mae (s : State) (c e k : Nat) (x : TaskRun) : (s.putTask c e k x).mae = s.mae := rfl
@[simp] theorem State.putTask_fbc (s : State) (c e k : Nat) (x : TaskRun) : (s.putTask c e k x).fbc = s.fbc := rfl
@[simp] theorem State.putTask_nsw (s : State) (c e k : Nat) (x : TaskRun) : (s.putTask c e k x).nsw = s.nsw := rfl
@[simp] theorem State.putTask_lbx (s : State) (c e k : Nat) (x : TaskRun) : (s.putTask c e k x).lbx = s.lbx := rfl
@[simp] theorem State.putTask_kse (s : State) (c e k : Nat) (x : TaskRun) : (s.putTask c e k x).kse = s.kse := rfl
@[simp] theorem State.putTask_upd (s : State) (c e k : Nat) (x : TaskRun) : (s.putTask c e k x).upd = s.upd := rfl
@[simp] theorem State.putTask_mte (s : State) (c e k : Nat) (x : TaskRun) : (s.putTask c e k x).mte = s.mte := rfl
@[simp] theorem State.putTask_pmon (s : State) (c e k : Nat) (x : TaskRun) : (s.putTask c e k x).pmon = s.pmon := rfl
@[simp] theorem State.putTask_agm (s : State) (c e k : Nat) (x : TaskRun) : (s.putTask c e k x).agm = s.agm := rfl
@[simp] theorem State.putTask_captures (s : State) (c e k : Nat) (x : TaskRun) : (s.putTask c e k x).captures = s.captures := rfl
@[simp] theorem State.putTask_free (s : State) (c e k : Nat) (x : TaskRun) : (s.putTask c e k x).free = s.free := rfl
@[simp] theorem State.putTask_pending (s : State) (c e k : Nat) (x : TaskRun) : (s.putTask c e k x).pending = s.pending := rfl
@[simp] theorem State.putTask_rd (s : State) (c e k : Nat) (x : TaskRun) (g : Fld) : (s.putTask c e k x).rd g = s.rd g := rfl

/-! ### putPort -/

@[simp] theorem State.putPort_floorTime (s : State) (p : Nat) (x : CanPort) : (s.putPort p x).floorTime = s.floorTime := rfl
@[simp] theorem State.putPort_regs (s : State) (p : Nat) (x : CanPort) : (s.putPort p x).regs = s.regs := rfl
@[simp] theorem State.putPort_power (s : State) (p : Nat) (x : CanPort) : (s.putPort p x).power = s.power := rfl
@[simp] theorem State.putPort_conns (s : State) (p : Nat) (x : CanPort) : (s.putPort p x).conns = s.conns := rfl
@[simp] theorem State.putPort_sessions (s : State) (p : Nat) (x : CanPort) : (s.putPort p x).sessions = s.sessions := rfl
@[simp] theorem State.putPort_waiters (s : State) (p : Nat) (x : CanPort) : (s.putPort p x).waiters = s.waiters := rfl
@[simp] theorem State.putPort_sent (s : State) (p : Nat) (x : CanPort) : (s.putPort p x).sent = s.sent := rfl
@[simp] theorem State.putPort_mbx (s : State) (p : Nat) (x : CanPort) : (s.putPort p x).mbx = s.mbx := rfl
@[simp] theorem State.putPort_evr (s : State) (p : Nat) (x : CanPort) : (s.putPort p x).evr = s.evr := rfl
@[simp] theorem State.putPort_rtc (s : State) (p : Nat) (x : CanPort) : (s.putPort p x).rtc = s.rtc := rfl
@[simp] theorem State.putPort_ptp (s : State) (p : Nat) (x : CanPort) : (s.putPort p x).ptp = s.ptp := rfl
@[simp] theorem State.putPort_lcy (s : State) (p : Nat) (x : CanPort) : (s.putPort p x).lcy = s.lcy := rfl
@[simp] theorem State.putPort_stagings (s : State) (p : Nat) (x : CanPort) : (s.putPort p x).stagings = s.stagings := rfl
@[simp] theorem State.putPort_castlings (s : State) (p : Nat) (x : CanPort) : (s.putPort p x).castlings = s.castlings := rfl
@[simp] theorem State.putPort_castNext (s : State) (p : Nat) (x : CanPort) : (s.putPort p x).castNext = s.castNext := rfl
@[simp] theorem State.putPort_castBoot (s : State) (p : Nat) (x : CanPort) : (s.putPort p x).castBoot = s.castBoot := rfl
@[simp] theorem State.putPort_scan (s : State) (p : Nat) (x : CanPort) : (s.putPort p x).scan = s.scan := rfl
@[simp] theorem State.putPort_mae (s : State) (p : Nat) (x : CanPort) : (s.putPort p x).mae = s.mae := rfl
@[simp] theorem State.putPort_nsw (s : State) (p : Nat) (x : CanPort) : (s.putPort p x).nsw = s.nsw := rfl
@[simp] theorem State.putPort_lbx (s : State) (p : Nat) (x : CanPort) : (s.putPort p x).lbx = s.lbx := rfl
@[simp] theorem State.putPort_kse (s : State) (p : Nat) (x : CanPort) : (s.putPort p x).kse = s.kse := rfl
@[simp] theorem State.putPort_upd (s : State) (p : Nat) (x : CanPort) : (s.putPort p x).upd = s.upd := rfl
@[simp] theorem State.putPort_mte (s : State) (p : Nat) (x : CanPort) : (s.putPort p x).mte = s.mte := rfl
@[simp] theorem State.putPort_pmon (s : State) (p : Nat) (x : CanPort) : (s.putPort p x).pmon = s.pmon := rfl
@[simp] theorem State.putPort_agm (s : State) (p : Nat) (x : CanPort) : (s.putPort p x).agm = s.agm := rfl
@[simp] theorem State.putPort_captures (s : State) (p : Nat) (x : CanPort) : (s.putPort p x).captures = s.captures := rfl
@[simp] theorem State.putPort_free (s : State) (p : Nat) (x : CanPort) : (s.putPort p x).free = s.free := rfl
@[simp] theorem State.putPort_pending (s : State) (p : Nat) (x : CanPort) : (s.putPort p x).pending = s.pending := rfl
@[simp] theorem State.putPort_rd (s : State) (p : Nat) (x : CanPort) (g : Fld) : (s.putPort p x).rd g = s.rd g := rfl

/-! ### putChan -/

@[simp] theorem State.putChan_floorTime (s : State) (c : Nat) (x : MChan) : (s.putChan c x).floorTime = s.floorTime := rfl
@[simp] theorem State.putChan_regs (s : State) (c : Nat) (x : MChan) : (s.putChan c x).regs = s.regs := rfl
@[simp] theorem State.putChan_power (s : State) (c : Nat) (x : MChan) : (s.putChan c x).power = s.power := rfl
@[simp] theorem State.putChan_conns (s : State) (c : Nat) (x : MChan) : (s.putChan c x).conns = s.conns := rfl
@[simp] theorem State.putChan_sessions (s : State) (c : Nat) (x : MChan) : (s.putChan c x).sessions = s.sessions := rfl
@[simp] theorem State.putChan_waiters (s : State) (c : Nat) (x : MChan) : (s.putChan c x).waiters = s.waiters := rfl
@[simp] theorem State.putChan_sent (s : State) (c : Nat) (x : MChan) : (s.putChan c x).sent = s.sent := rfl
@[simp] theorem State.putChan_mbx (s : State) (c : Nat) (x : MChan) : (s.putChan c x).mbx = s.mbx := rfl
@[simp] theorem State.putChan_evr (s : State) (c : Nat) (x : MChan) : (s.putChan c x).evr = s.evr := rfl
@[simp] theorem State.putChan_rtc (s : State) (c : Nat) (x : MChan) : (s.putChan c x).rtc = s.rtc := rfl
@[simp] theorem State.putChan_ptp (s : State) (c : Nat) (x : MChan) : (s.putChan c x).ptp = s.ptp := rfl
@[simp] theorem State.putChan_lcy (s : State) (c : Nat) (x : MChan) : (s.putChan c x).lcy = s.lcy := rfl
@[simp] theorem State.putChan_stagings (s : State) (c : Nat) (x : MChan) : (s.putChan c x).stagings = s.stagings := rfl
@[simp] theorem State.putChan_castlings (s : State) (c : Nat) (x : MChan) : (s.putChan c x).castlings = s.castlings := rfl
@[simp] theorem State.putChan_castNext (s : State) (c : Nat) (x : MChan) : (s.putChan c x).castNext = s.castNext := rfl
@[simp] theorem State.putChan_castBoot (s : State) (c : Nat) (x : MChan) : (s.putChan c x).castBoot = s.castBoot := rfl
@[simp] theorem State.putChan_scan (s : State) (c : Nat) (x : MChan) : (s.putChan c x).scan = s.scan := rfl
@[simp] theorem State.putChan_fbc (s : State) (c : Nat) (x : MChan) : (s.putChan c x).fbc = s.fbc := rfl
@[simp] theorem State.putChan_nsw (s : State) (c : Nat) (x : MChan) : (s.putChan c x).nsw = s.nsw := rfl
@[simp] theorem State.putChan_lbx (s : State) (c : Nat) (x : MChan) : (s.putChan c x).lbx = s.lbx := rfl
@[simp] theorem State.putChan_kse (s : State) (c : Nat) (x : MChan) : (s.putChan c x).kse = s.kse := rfl
@[simp] theorem State.putChan_upd (s : State) (c : Nat) (x : MChan) : (s.putChan c x).upd = s.upd := rfl
@[simp] theorem State.putChan_mte (s : State) (c : Nat) (x : MChan) : (s.putChan c x).mte = s.mte := rfl
@[simp] theorem State.putChan_pmon (s : State) (c : Nat) (x : MChan) : (s.putChan c x).pmon = s.pmon := rfl
@[simp] theorem State.putChan_agm (s : State) (c : Nat) (x : MChan) : (s.putChan c x).agm = s.agm := rfl
@[simp] theorem State.putChan_captures (s : State) (c : Nat) (x : MChan) : (s.putChan c x).captures = s.captures := rfl
@[simp] theorem State.putChan_free (s : State) (c : Nat) (x : MChan) : (s.putChan c x).free = s.free := rfl
@[simp] theorem State.putChan_pending (s : State) (c : Nat) (x : MChan) : (s.putChan c x).pending = s.pending := rfl
@[simp] theorem State.putChan_rd (s : State) (c : Nat) (x : MChan) (g : Fld) : (s.putChan c x).rd g = s.rd g := rfl

/-! ### putMset -/

@[simp] theorem State.putMset_floorTime (s : State) (c : Nat) (x : MSet) : (s.putMset c x).floorTime = s.floorTime := rfl
@[simp] theorem State.putMset_regs (s : State) (c : Nat) (x : MSet) : (s.putMset c x).regs = s.regs := rfl
@[simp] theorem State.putMset_power (s : State) (c : Nat) (x : MSet) : (s.putMset c x).power = s.power := rfl
@[simp] theorem State.putMset_conns (s : State) (c : Nat) (x : MSet) : (s.putMset c x).conns = s.conns := rfl
@[simp] theorem State.putMset_sessions (s : State) (c : Nat) (x : MSet) : (s.putMset c x).sessions = s.sessions := rfl
@[simp] theorem State.putMset_waiters (s : State) (c : Nat) (x : MSet) : (s.putMset c x).waiters = s.waiters := rfl
@[simp] theorem State.putMset_sent (s : State) (c : Nat) (x : MSet) : (s.putMset c x).sent = s.sent := rfl
@[simp] theorem State.putMset_mbx (s : State) (c : Nat) (x : MSet) : (s.putMset c x).mbx = s.mbx := rfl
@[simp] theorem State.putMset_evr (s : State) (c : Nat) (x : MSet) : (s.putMset c x).evr = s.evr := rfl
@[simp] theorem State.putMset_rtc (s : State) (c : Nat) (x : MSet) : (s.putMset c x).rtc = s.rtc := rfl
@[simp] theorem State.putMset_ptp (s : State) (c : Nat) (x : MSet) : (s.putMset c x).ptp = s.ptp := rfl
@[simp] theorem State.putMset_lcy (s : State) (c : Nat) (x : MSet) : (s.putMset c x).lcy = s.lcy := rfl
@[simp] theorem State.putMset_stagings (s : State) (c : Nat) (x : MSet) : (s.putMset c x).stagings = s.stagings := rfl
@[simp] theorem State.putMset_castlings (s : State) (c : Nat) (x : MSet) : (s.putMset c x).castlings = s.castlings := rfl
@[simp] theorem State.putMset_castNext (s : State) (c : Nat) (x : MSet) : (s.putMset c x).castNext = s.castNext := rfl
@[simp] theorem State.putMset_castBoot (s : State) (c : Nat) (x : MSet) : (s.putMset c x).castBoot = s.castBoot := rfl
@[simp] theorem State.putMset_scan (s : State) (c : Nat) (x : MSet) : (s.putMset c x).scan = s.scan := rfl
@[simp] theorem State.putMset_fbc (s : State) (c : Nat) (x : MSet) : (s.putMset c x).fbc = s.fbc := rfl
@[simp] theorem State.putMset_nsw (s : State) (c : Nat) (x : MSet) : (s.putMset c x).nsw = s.nsw := rfl
@[simp] theorem State.putMset_lbx (s : State) (c : Nat) (x : MSet) : (s.putMset c x).lbx = s.lbx := rfl
@[simp] theorem State.putMset_kse (s : State) (c : Nat) (x : MSet) : (s.putMset c x).kse = s.kse := rfl
@[simp] theorem State.putMset_upd (s : State) (c : Nat) (x : MSet) : (s.putMset c x).upd = s.upd := rfl
@[simp] theorem State.putMset_mte (s : State) (c : Nat) (x : MSet) : (s.putMset c x).mte = s.mte := rfl
@[simp] theorem State.putMset_pmon (s : State) (c : Nat) (x : MSet) : (s.putMset c x).pmon = s.pmon := rfl
@[simp] theorem State.putMset_agm (s : State) (c : Nat) (x : MSet) : (s.putMset c x).agm = s.agm := rfl
@[simp] theorem State.putMset_captures (s : State) (c : Nat) (x : MSet) : (s.putMset c x).captures = s.captures := rfl
@[simp] theorem State.putMset_free (s : State) (c : Nat) (x : MSet) : (s.putMset c x).free = s.free := rfl
@[simp] theorem State.putMset_pending (s : State) (c : Nat) (x : MSet) : (s.putMset c x).pending = s.pending := rfl
@[simp] theorem State.putMset_rd (s : State) (c : Nat) (x : MSet) (g : Fld) : (s.putMset c x).rd g = s.rd g := rfl

/-! ### putPulse -/

@[simp] theorem State.putPulse_floorTime (s : State) (c : Nat) (x : Pulse) : (s.putPulse c x).floorTime = s.floorTime := rfl
@[simp] theorem State.putPulse_regs (s : State) (c : Nat) (x : Pulse) : (s.putPulse c x).regs = s.regs := rfl
@[simp] theorem State.putPulse_power (s : State) (c : Nat) (x : Pulse) : (s.putPulse c x).power = s.power := rfl
@[simp] theorem State.putPulse_conns (s : State) (c : Nat) (x : Pulse) : (s.putPulse c x).conns = s.conns := rfl
@[simp] theorem State.putPulse_sessions (s : State) (c : Nat) (x : Pulse) : (s.putPulse c x).sessions = s.sessions := rfl
@[simp] theorem State.putPulse_waiters (s : State) (c : Nat) (x : Pulse) : (s.putPulse c x).waiters = s.waiters := rfl
@[simp] theorem State.putPulse_sent (s : State) (c : Nat) (x : Pulse) : (s.putPulse c x).sent = s.sent := rfl
@[simp] theorem State.putPulse_mbx (s : State) (c : Nat) (x : Pulse) : (s.putPulse c x).mbx = s.mbx := rfl
@[simp] theorem State.putPulse_evr (s : State) (c : Nat) (x : Pulse) : (s.putPulse c x).evr = s.evr := rfl
@[simp] theorem State.putPulse_rtc (s : State) (c : Nat) (x : Pulse) : (s.putPulse c x).rtc = s.rtc := rfl
@[simp] theorem State.putPulse_ptp (s : State) (c : Nat) (x : Pulse) : (s.putPulse c x).ptp = s.ptp := rfl
@[simp] theorem State.putPulse_lcy (s : State) (c : Nat) (x : Pulse) : (s.putPulse c x).lcy = s.lcy := rfl
@[simp] theorem State.putPulse_stagings (s : State) (c : Nat) (x : Pulse) : (s.putPulse c x).stagings = s.stagings := rfl
@[simp] theorem State.putPulse_castlings (s : State) (c : Nat) (x : Pulse) : (s.putPulse c x).castlings = s.castlings := rfl
@[simp] theorem State.putPulse_castNext (s : State) (c : Nat) (x : Pulse) : (s.putPulse c x).castNext = s.castNext := rfl
@[simp] theorem State.putPulse_castBoot (s : State) (c : Nat) (x : Pulse) : (s.putPulse c x).castBoot = s.castBoot := rfl
@[simp] theorem State.putPulse_scan (s : State) (c : Nat) (x : Pulse) : (s.putPulse c x).scan = s.scan := rfl
@[simp] theorem State.putPulse_fbc (s : State) (c : Nat) (x : Pulse) : (s.putPulse c x).fbc = s.fbc := rfl
@[simp] theorem State.putPulse_nsw (s : State) (c : Nat) (x : Pulse) : (s.putPulse c x).nsw = s.nsw := rfl
@[simp] theorem State.putPulse_lbx (s : State) (c : Nat) (x : Pulse) : (s.putPulse c x).lbx = s.lbx := rfl
@[simp] theorem State.putPulse_kse (s : State) (c : Nat) (x : Pulse) : (s.putPulse c x).kse = s.kse := rfl
@[simp] theorem State.putPulse_upd (s : State) (c : Nat) (x : Pulse) : (s.putPulse c x).upd = s.upd := rfl
@[simp] theorem State.putPulse_mte (s : State) (c : Nat) (x : Pulse) : (s.putPulse c x).mte = s.mte := rfl
@[simp] theorem State.putPulse_pmon (s : State) (c : Nat) (x : Pulse) : (s.putPulse c x).pmon = s.pmon := rfl
@[simp] theorem State.putPulse_agm (s : State) (c : Nat) (x : Pulse) : (s.putPulse c x).agm = s.agm := rfl
@[simp] theorem State.putPulse_captures (s : State) (c : Nat) (x : Pulse) : (s.putPulse c x).captures = s.captures := rfl
@[simp] theorem State.putPulse_free (s : State) (c : Nat) (x : Pulse) : (s.putPulse c x).free = s.free := rfl
@[simp] theorem State.putPulse_pending (s : State) (c : Nat) (x : Pulse) : (s.putPulse c x).pending = s.pending := rfl
@[simp] theorem State.putPulse_rd (s : State) (c : Nat) (x : Pulse) (g : Fld) : (s.putPulse c x).rd g = s.rd g := rfl

/-! ### putLog -/

@[simp] theorem State.putLog_floorTime (s : State) (c : Nat) (x : EvLog) : (s.putLog c x).floorTime = s.floorTime := rfl
@[simp] theorem State.putLog_regs (s : State) (c : Nat) (x : EvLog) : (s.putLog c x).regs = s.regs := rfl
@[simp] theorem State.putLog_power (s : State) (c : Nat) (x : EvLog) : (s.putLog c x).power = s.power := rfl
@[simp] theorem State.putLog_conns (s : State) (c : Nat) (x : EvLog) : (s.putLog c x).conns = s.conns := rfl
@[simp] theorem State.putLog_sessions (s : State) (c : Nat) (x : EvLog) : (s.putLog c x).sessions = s.sessions := rfl
@[simp] theorem State.putLog_waiters (s : State) (c : Nat) (x : EvLog) : (s.putLog c x).waiters = s.waiters := rfl
@[simp] theorem State.putLog_sent (s : State) (c : Nat) (x : EvLog) : (s.putLog c x).sent = s.sent := rfl
@[simp] theorem State.putLog_mbx (s : State) (c : Nat) (x : EvLog) : (s.putLog c x).mbx = s.mbx := rfl
@[simp] theorem State.putLog_rtc (s : State) (c : Nat) (x : EvLog) : (s.putLog c x).rtc = s.rtc := rfl
@[simp] theorem State.putLog_ptp (s : State) (c : Nat) (x : EvLog) : (s.putLog c x).ptp = s.ptp := rfl
@[simp] theorem State.putLog_lcy (s : State) (c : Nat) (x : EvLog) : (s.putLog c x).lcy = s.lcy := rfl
@[simp] theorem State.putLog_stagings (s : State) (c : Nat) (x : EvLog) : (s.putLog c x).stagings = s.stagings := rfl
@[simp] theorem State.putLog_castlings (s : State) (c : Nat) (x : EvLog) : (s.putLog c x).castlings = s.castlings := rfl
@[simp] theorem State.putLog_castNext (s : State) (c : Nat) (x : EvLog) : (s.putLog c x).castNext = s.castNext := rfl
@[simp] theorem State.putLog_castBoot (s : State) (c : Nat) (x : EvLog) : (s.putLog c x).castBoot = s.castBoot := rfl
@[simp] theorem State.putLog_scan (s : State) (c : Nat) (x : EvLog) : (s.putLog c x).scan = s.scan := rfl
@[simp] theorem State.putLog_mae (s : State) (c : Nat) (x : EvLog) : (s.putLog c x).mae = s.mae := rfl
@[simp] theorem State.putLog_fbc (s : State) (c : Nat) (x : EvLog) : (s.putLog c x).fbc = s.fbc := rfl
@[simp] theorem State.putLog_nsw (s : State) (c : Nat) (x : EvLog) : (s.putLog c x).nsw = s.nsw := rfl
@[simp] theorem State.putLog_lbx (s : State) (c : Nat) (x : EvLog) : (s.putLog c x).lbx = s.lbx := rfl
@[simp] theorem State.putLog_kse (s : State) (c : Nat) (x : EvLog) : (s.putLog c x).kse = s.kse := rfl
@[simp] theorem State.putLog_upd (s : State) (c : Nat) (x : EvLog) : (s.putLog c x).upd = s.upd := rfl
@[simp] theorem State.putLog_mte (s : State) (c : Nat) (x : EvLog) : (s.putLog c x).mte = s.mte := rfl
@[simp] theorem State.putLog_pmon (s : State) (c : Nat) (x : EvLog) : (s.putLog c x).pmon = s.pmon := rfl
@[simp] theorem State.putLog_agm (s : State) (c : Nat) (x : EvLog) : (s.putLog c x).agm = s.agm := rfl
@[simp] theorem State.putLog_captures (s : State) (c : Nat) (x : EvLog) : (s.putLog c x).captures = s.captures := rfl
@[simp] theorem State.putLog_free (s : State) (c : Nat) (x : EvLog) : (s.putLog c x).free = s.free := rfl
@[simp] theorem State.putLog_pending (s : State) (c : Nat) (x : EvLog) : (s.putLog c x).pending = s.pending := rfl
@[simp] theorem State.putLog_rd (s : State) (c : Nat) (x : EvLog) (g : Fld) : (s.putLog c x).rd g = s.rd g := rfl

/-! ### putCage -/

@[simp] theorem State.putCage_floorTime (s : State) (c : Nat) (x : Cage) : (s.putCage c x).floorTime = s.floorTime := rfl
@[simp] theorem State.putCage_regs (s : State) (c : Nat) (x : Cage) : (s.putCage c x).regs = s.regs := rfl
@[simp] theorem State.putCage_power (s : State) (c : Nat) (x : Cage) : (s.putCage c x).power = s.power := rfl
@[simp] theorem State.putCage_conns (s : State) (c : Nat) (x : Cage) : (s.putCage c x).conns = s.conns := rfl
@[simp] theorem State.putCage_sessions (s : State) (c : Nat) (x : Cage) : (s.putCage c x).sessions = s.sessions := rfl
@[simp] theorem State.putCage_waiters (s : State) (c : Nat) (x : Cage) : (s.putCage c x).waiters = s.waiters := rfl
@[simp] theorem State.putCage_sent (s : State) (c : Nat) (x : Cage) : (s.putCage c x).sent = s.sent := rfl
@[simp] theorem State.putCage_mbx (s : State) (c : Nat) (x : Cage) : (s.putCage c x).mbx = s.mbx := rfl
@[simp] theorem State.putCage_evr (s : State) (c : Nat) (x : Cage) : (s.putCage c x).evr = s.evr := rfl
@[simp] theorem State.putCage_rtc (s : State) (c : Nat) (x : Cage) : (s.putCage c x).rtc = s.rtc := rfl
@[simp] theorem State.putCage_ptp (s : State) (c : Nat) (x : Cage) : (s.putCage c x).ptp = s.ptp := rfl
@[simp] theorem State.putCage_lcy (s : State) (c : Nat) (x : Cage) : (s.putCage c x).lcy = s.lcy := rfl
@[simp] theorem State.putCage_stagings (s : State) (c : Nat) (x : Cage) : (s.putCage c x).stagings = s.stagings := rfl
@[simp] theorem State.putCage_castlings (s : State) (c : Nat) (x : Cage) : (s.putCage c x).castlings = s.castlings := rfl
@[simp] theorem State.putCage_castNext (s : State) (c : Nat) (x : Cage) : (s.putCage c x).castNext = s.castNext := rfl
@[simp] theorem State.putCage_castBoot (s : State) (c : Nat) (x : Cage) : (s.putCage c x).castBoot = s.castBoot := rfl
@[simp] theorem State.putCage_scan (s : State) (c : Nat) (x : Cage) : (s.putCage c x).scan = s.scan := rfl
@[simp] theorem State.putCage_mae (s : State) (c : Nat) (x : Cage) : (s.putCage c x).mae = s.mae := rfl
@[simp] theorem State.putCage_fbc (s : State) (c : Nat) (x : Cage) : (s.putCage c x).fbc = s.fbc := rfl
@[simp] theorem State.putCage_lbx (s : State) (c : Nat) (x : Cage) : (s.putCage c x).lbx = s.lbx := rfl
@[simp] theorem State.putCage_kse (s : State) (c : Nat) (x : Cage) : (s.putCage c x).kse = s.kse := rfl
@[simp] theorem State.putCage_upd (s : State) (c : Nat) (x : Cage) : (s.putCage c x).upd = s.upd := rfl
@[simp] theorem State.putCage_mte (s : State) (c : Nat) (x : Cage) : (s.putCage c x).mte = s.mte := rfl
@[simp] theorem State.putCage_pmon (s : State) (c : Nat) (x : Cage) : (s.putCage c x).pmon = s.pmon := rfl
@[simp] theorem State.putCage_agm (s : State) (c : Nat) (x : Cage) : (s.putCage c x).agm = s.agm := rfl
@[simp] theorem State.putCage_captures (s : State) (c : Nat) (x : Cage) : (s.putCage c x).captures = s.captures := rfl
@[simp] theorem State.putCage_free (s : State) (c : Nat) (x : Cage) : (s.putCage c x).free = s.free := rfl
@[simp] theorem State.putCage_pending (s : State) (c : Nat) (x : Cage) : (s.putCage c x).pending = s.pending := rfl
@[simp] theorem State.putCage_rd (s : State) (c : Nat) (x : Cage) (g : Fld) : (s.putCage c x).rd g = s.rd g := rfl

/-! ### putLport -/

@[simp] theorem State.putLport_floorTime (s : State) (p : Nat) (x : LbxPort) : (s.putLport p x).floorTime = s.floorTime := rfl
@[simp] theorem State.putLport_regs (s : State) (p : Nat) (x : LbxPort) : (s.putLport p x).regs = s.regs := rfl
@[simp] theorem State.putLport_power (s : State) (p : Nat) (x : LbxPort) : (s.putLport p x).power = s.power := rfl
@[simp] theorem State.putLport_conns (s : State) (p : Nat) (x : LbxPort) : (s.putLport p x).conns = s.conns := rfl
@[simp] theorem State.putLport_sessions (s : State) (p : Nat) (x : LbxPort) : (s.putLport p x).sessions = s.sessions := rfl
@[simp] theorem State.putLport_waiters (s : State) (p : Nat) (x : LbxPort) : (s.putLport p x).waiters = s.waiters := rfl
@[simp] theorem State.putLport_sent (s : State) (p : Nat) (x : LbxPort) : (s.putLport p x).sent = s.sent := rfl
@[simp] theorem State.putLport_mbx (s : State) (p : Nat) (x : LbxPort) : (s.putLport p x).mbx = s.mbx := rfl
@[simp] theorem State.putLport_evr (s : State) (p : Nat) (x : LbxPort) : (s.putLport p x).evr = s.evr := rfl
@[simp] theorem State.putLport_rtc (s : State) (p : Nat) (x : LbxPort) : (s.putLport p x).rtc = s.rtc := rfl
@[simp] theorem State.putLport_ptp (s : State) (p : Nat) (x : LbxPort) : (s.putLport p x).ptp = s.ptp := rfl
@[simp] theorem State.putLport_lcy (s : State) (p : Nat) (x : LbxPort) : (s.putLport p x).lcy = s.lcy := rfl
@[simp] theorem State.putLport_stagings (s : State) (p : Nat) (x : LbxPort) : (s.putLport p x).stagings = s.stagings := rfl
@[simp] theorem State.putLport_castlings (s : State) (p : Nat) (x : LbxPort) : (s.putLport p x).castlings = s.castlings := rfl
@[simp] theorem State.putLport_castNext (s : State) (p : Nat) (x : LbxPort) : (s.putLport p x).castNext = s.castNext := rfl
@[simp] theorem State.putLport_castBoot (s : State) (p : Nat) (x : LbxPort) : (s.putLport p x).castBoot = s.castBoot := rfl
@[simp] theorem State.putLport_scan (s : State) (p : Nat) (x : LbxPort) : (s.putLport p x).scan = s.scan := rfl
@[simp] theorem State.putLport_mae (s : State) (p : Nat) (x : LbxPort) : (s.putLport p x).mae = s.mae := rfl
@[simp] theorem State.putLport_fbc (s : State) (p : Nat) (x : LbxPort) : (s.putLport p x).fbc = s.fbc := rfl
@[simp] theorem State.putLport_nsw (s : State) (p : Nat) (x : LbxPort) : (s.putLport p x).nsw = s.nsw := rfl
@[simp] theorem State.putLport_kse (s : State) (p : Nat) (x : LbxPort) : (s.putLport p x).kse = s.kse := rfl
@[simp] theorem State.putLport_upd (s : State) (p : Nat) (x : LbxPort) : (s.putLport p x).upd = s.upd := rfl
@[simp] theorem State.putLport_mte (s : State) (p : Nat) (x : LbxPort) : (s.putLport p x).mte = s.mte := rfl
@[simp] theorem State.putLport_pmon (s : State) (p : Nat) (x : LbxPort) : (s.putLport p x).pmon = s.pmon := rfl
@[simp] theorem State.putLport_agm (s : State) (p : Nat) (x : LbxPort) : (s.putLport p x).agm = s.agm := rfl
@[simp] theorem State.putLport_captures (s : State) (p : Nat) (x : LbxPort) : (s.putLport p x).captures = s.captures := rfl
@[simp] theorem State.putLport_free (s : State) (p : Nat) (x : LbxPort) : (s.putLport p x).free = s.free := rfl
@[simp] theorem State.putLport_pending (s : State) (p : Nat) (x : LbxPort) : (s.putLport p x).pending = s.pending := rfl
@[simp] theorem State.putLport_rd (s : State) (p : Nat) (x : LbxPort) (g : Fld) : (s.putLport p x).rd g = s.rd g := rfl

/-! ### beginTransition -/

@[simp] theorem State.beginTransition_floorTime (s : State) (m : Nat) (cold : Bool) : (s.beginTransition m cold).floorTime = s.floorTime := rfl
@[simp] theorem State.beginTransition_regs (s : State) (m : Nat) (cold : Bool) : (s.beginTransition m cold).regs = s.regs := rfl
@[simp] theorem State.beginTransition_conns (s : State) (m : Nat) (cold : Bool) : (s.beginTransition m cold).conns = s.conns := rfl
@[simp] theorem State.beginTransition_sessions (s : State) (m : Nat) (cold : Bool) : (s.beginTransition m cold).sessions = s.sessions := rfl
@[simp] theorem State.beginTransition_waiters (s : State) (m : Nat) (cold : Bool) : (s.beginTransition m cold).waiters = s.waiters := rfl
@[simp] theorem State.beginTransition_sent (s : State) (m : Nat) (cold : Bool) : (s.beginTransition m cold).sent = s.sent := rfl
@[simp] theorem State.beginTransition_mbx (s : State) (m : Nat) (cold : Bool) : (s.beginTransition m cold).mbx = s.mbx := rfl
@[simp] theorem State.beginTransition_evr (s : State) (m : Nat) (cold : Bool) : (s.beginTransition m cold).evr = s.evr := rfl
@[simp] theorem State.beginTransition_rtc (s : State) (m : Nat) (cold : Bool) : (s.beginTransition m cold).rtc = s.rtc := rfl
@[simp] theorem State.beginTransition_ptp (s : State) (m : Nat) (cold : Bool) : (s.beginTransition m cold).ptp = s.ptp := rfl
@[simp] theorem State.beginTransition_lcy (s : State) (m : Nat) (cold : Bool) : (s.beginTransition m cold).lcy = s.lcy := rfl
@[simp] theorem State.beginTransition_stagings (s : State) (m : Nat) (cold : Bool) : (s.beginTransition m cold).stagings = s.stagings := rfl
@[simp] theorem State.beginTransition_castlings (s : State) (m : Nat) (cold : Bool) : (s.beginTransition m cold).castlings = s.castlings := rfl
@[simp] theorem State.beginTransition_castNext (s : State) (m : Nat) (cold : Bool) : (s.beginTransition m cold).castNext = s.castNext := rfl
@[simp] theorem State.beginTransition_castBoot (s : State) (m : Nat) (cold : Bool) : (s.beginTransition m cold).castBoot = s.castBoot := rfl
@[simp] theorem State.beginTransition_scan (s : State) (m : Nat) (cold : Bool) : (s.beginTransition m cold).scan = s.scan := rfl
@[simp] theorem State.beginTransition_mae (s : State) (m : Nat) (cold : Bool) : (s.beginTransition m cold).mae = s.mae := rfl
@[simp] theorem State.beginTransition_fbc (s : State) (m : Nat) (cold : Bool) : (s.beginTransition m cold).fbc = s.fbc := rfl
@[simp] theorem State.beginTransition_nsw (s : State) (m : Nat) (cold : Bool) : (s.beginTransition m cold).nsw = s.nsw := rfl
@[simp] theorem State.beginTransition_lbx (s : State) (m : Nat) (cold : Bool) : (s.beginTransition m cold).lbx = s.lbx := rfl
@[simp] theorem State.beginTransition_kse (s : State) (m : Nat) (cold : Bool) : (s.beginTransition m cold).kse = s.kse := rfl
@[simp] theorem State.beginTransition_upd (s : State) (m : Nat) (cold : Bool) : (s.beginTransition m cold).upd = s.upd := rfl
@[simp] theorem State.beginTransition_mte (s : State) (m : Nat) (cold : Bool) : (s.beginTransition m cold).mte = s.mte := rfl
@[simp] theorem State.beginTransition_pmon (s : State) (m : Nat) (cold : Bool) : (s.beginTransition m cold).pmon = s.pmon := rfl
@[simp] theorem State.beginTransition_agm (s : State) (m : Nat) (cold : Bool) : (s.beginTransition m cold).agm = s.agm := rfl
@[simp] theorem State.beginTransition_captures (s : State) (m : Nat) (cold : Bool) : (s.beginTransition m cold).captures = s.captures := rfl
@[simp] theorem State.beginTransition_free (s : State) (m : Nat) (cold : Bool) : (s.beginTransition m cold).free = s.free := rfl
@[simp] theorem State.beginTransition_pending (s : State) (m : Nat) (cold : Bool) : (s.beginTransition m cold).pending = s.pending := rfl
@[simp] theorem State.beginTransition_rd (s : State) (m : Nat) (cold : Bool) (g : Fld) : (s.beginTransition m cold).rd g = s.rd g := rfl

/-! ### What an update sets -/

@[simp] theorem State.advance_floorTime (s : State) (t : Nat) : (s.advance t).floorTime = max s.floorTime t := rfl
@[simp] theorem State.emit_sent (s : State) (o : Out) : (s.emit o).sent = s.sent ++ [o] := rfl
@[simp] theorem State.draw_free (s : State) : s.draw.2.free = s.free + 1 := rfl
@[simp] theorem State.beginTransition_power (s : State) (m : Nat) (cold : Bool) :
    (s.beginTransition m cold).power.transition = some { target := m, cold := cold } := rfl

/-- Time never goes back in an advance. -/
theorem State.floorTime_le_advance (s : State) (t : Nat) : s.floorTime ≤ (s.advance t).floorTime := Nat.le_max_left _ _

/-- One step: the idle cycle of an empty queue, or the command at its front. -/
theorem step_nil (s : State) (h : s.pending = []) : step s = .next s.idle := by simp [step, h]

theorem step_cons (s : State) (c : Instr) (r : List Instr) (h : s.pending = c :: r) : step s = exec c { s with pending := r } := by
  simp [step, h]

/-- The fields of a state that a command leaves in the queue play no part in what it reads. -/
@[simp] theorem State.rd_pending (s : State) (l : List Instr) (g : Fld) : State.rd { s with pending := l } g = s.rd g := rfl

end Sys2Proof.Machine
end

