-- ==== Sys2Proof/Laws/Tables.lean ====
section
/-!
SUPPORT. Tables and byte memories: reading what was written, and the canonical form of a byte memory.
-/
namespace Sys2Proof.Machine

/-! ### Tables -/

variable {α : Type}

theorem Tab.get_ins (t : Tab α) (d v : α) (k j : Nat) (h : ∀ p ∈ t, p.1 ≠ k) :
    (Tab.ins t k v).get d j = if k = j then v else t.get d j := by
  induction t with
  | nil => simp [Tab.ins, Tab.get]
  | cons p r ih =>
    obtain ⟨i, w⟩ := p
    have hi : i ≠ k := h (i, w) (by simp)
    have hr := ih fun p hp => h p (by simp [hp])
    by_cases hlt : k < i
    · simp [Tab.ins, hlt, Tab.get]
    · simp only [Tab.ins, hlt, if_false, Tab.get, hr]
      by_cases hj : i = j
      · subst hj
        simp [Ne.symm hi]
      · simp [hj]

theorem Tab.del_keys (t : Tab α) (k : Nat) : ∀ p ∈ Tab.del t k, p.1 ≠ k := by
  intro p hp
  simpa [Tab.del] using (List.mem_filter.mp hp).2

theorem Tab.get_del_ne (t : Tab α) (d : α) (k j : Nat) (h : k ≠ j) : (Tab.del t k).get d j = t.get d j := by
  induction t with
  | nil => rfl
  | cons p r ih =>
    obtain ⟨i, w⟩ := p
    by_cases hi : i = k
    · subst hi
      simpa [Tab.del, List.filter_cons, Tab.get, h] using ih
    · have hb : (i != k) = true := by simpa using hi
      simp only [Tab.del, List.filter_cons, hb, if_true, Tab.get]
      simpa [Tab.del] using congrArg (fun x => if i = j then w else x) ih

/-- An entry reads what was put there. -/
@[simp] theorem Tab.get_put_self (t : Tab α) (d v : α) (k : Nat) : (Tab.put t k v).get d k = v := by
  unfold Tab.put
  rw [Tab.get_ins _ _ _ _ _ (Tab.del_keys t k)]
  simp

/-- Putting an entry leaves the others alone. -/
theorem Tab.get_put_ne (t : Tab α) (d v : α) (k j : Nat) (h : k ≠ j) : (Tab.put t k v).get d j = t.get d j := by
  unfold Tab.put
  rw [Tab.get_ins _ _ _ _ _ (Tab.del_keys t k), if_neg h, Tab.get_del_ne t d k j h]

/-! ### Byte memories -/

theorem memGet_ins (m : List Host.Cell) (a x : Nat) (b : Byte) (h : ∀ p ∈ m, p.1 ≠ a) :
    memGet (memIns m a b) x = if a = x then b else memGet m x := by
  induction m with
  | nil => simp [memIns, memGet]
  | cons p r ih =>
    obtain ⟨k, c⟩ := p
    have hk : k ≠ a := h (k, c) (by simp)
    have hr := ih fun p hp => h p (by simp [hp])
    by_cases hlt : a < k
    · simp [memIns, hlt, memGet]
    · simp only [memIns, hlt, if_false, memGet, hr]
      by_cases hx : k = x
      · subst hx
        simp [Ne.symm hk]
      · simp [hx]

theorem memDel_keys (m : List Host.Cell) (a : Nat) : ∀ p ∈ memDel m a, p.1 ≠ a := by
  intro p hp
  simpa [memDel] using (List.mem_filter.mp hp).2

theorem memGet_del (m : List Host.Cell) (a x : Nat) : memGet (memDel m a) x = if a = x then 0 else memGet m x := by
  induction m with
  | nil => simp [memDel, memGet]
  | cons p r ih =>
    obtain ⟨k, c⟩ := p
    by_cases hk : k = a
    · subst hk
      by_cases hx : k = x
      · simpa [memDel, List.filter_cons, memGet, hx] using ih
      · simpa [memDel, List.filter_cons, memGet, hx] using ih
    · have hb : (k != a) = true := by simpa using hk
      simp only [memDel, List.filter_cons, hb, if_true, memGet]
      by_cases hx : k = x
      · have : a ≠ x := fun e => hk (hx.trans e.symm)
        simp [hx, this]
      · simpa [memDel, hx] using ih

/-- A byte reads what was written, and every other byte as before. -/
theorem memGet_put (m : List Host.Cell) (a x : Nat) (b : Byte) : memGet (memPut m a b) x = if a = x then b else memGet m x := by
  unfold memPut
  split
  · rename_i h
    rw [memGet_del, h]
  · rw [memGet_ins _ _ _ _ (memDel_keys m a), memGet_del]
    by_cases hx : a = x <;> simp [hx]

/-- A string of bytes reads back, and every byte outside it is as before. -/
theorem memGet_write (bs : Bytes) (m : List Host.Cell) (a x : Nat) :
    memGet (memWrite m a bs) x = if a ≤ x ∧ x < a + bs.length then bs.getD (x - a) 0 else memGet m x := by
  induction bs generalizing m a with
  | nil =>
    have : ¬ (a ≤ x ∧ x < a + ([] : Bytes).length) := by simp only [List.length_nil]; omega
    rw [if_neg this]
    rfl
  | cons b r ih =>
    rw [memWrite, ih, memGet_put]
    by_cases h1 : a + 1 ≤ x ∧ x < a + 1 + r.length
    · have h2 : a ≤ x ∧ x < a + (b :: r).length := by simp only [List.length_cons]; omega
      have h3 : x - a = (x - (a + 1)) + 1 := by omega
      rw [if_pos h1, if_pos h2, h3, List.getD_cons_succ]
    · rw [if_neg h1]
      by_cases h3 : a = x
      · subst h3
        have h2 : a ≤ a ∧ a < a + (b :: r).length := by simp only [List.length_cons]; omega
        rw [if_pos rfl, if_pos h2, Nat.sub_self, List.getD_cons_zero]
      · have h2 : ¬ (a ≤ x ∧ x < a + (b :: r).length) := by simp only [List.length_cons]; omega
        rw [if_neg h3, if_neg h2]

/-- The least address of a memory lies above `k`. -/
def memAbove (k : Nat) : List Host.Cell → Prop
  | [] => True
  | (a, _) :: _ => k < a

theorem memWf_cons (a : Nat) (b : Byte) (r : List Host.Cell) :
    memWf ((a, b) :: r) = true ↔ b ≠ 0 ∧ memAbove a r ∧ memWf r = true := by
  cases r with
  | nil => simp [memWf, memAbove]
  | cons p r => obtain ⟨k, c⟩ := p; simp [memWf, memAbove, and_assoc]

theorem memAbove_all {k : Nat} {m : List Host.Cell} (w : memWf m = true) (h : memAbove k m) : ∀ p ∈ m, k < p.1 := by
  induction m generalizing k with
  | nil => simp
  | cons p r ih =>
    obtain ⟨a, b⟩ := p
    have := (memWf_cons a b r).mp w
    intro q hq
    rcases List.mem_cons.mp hq with rfl | hq
    · exact h
    · exact Nat.lt_trans h (ih this.2.2 this.2.1 q hq)

theorem memWf_del (m : List Host.Cell) (a : Nat) (w : memWf m = true) : memWf (memDel m a) = true := by
  induction m with
  | nil => rfl
  | cons p r ih =>
    obtain ⟨k, b⟩ := p
    have h := (memWf_cons k b r).mp w
    unfold memDel at *
    rw [List.filter_cons]
    split
    · refine (memWf_cons k b _).mpr ⟨h.1, ?_, ih h.2.2⟩
      cases hf : r.filter fun p => p.1 != a with
      | nil => trivial
      | cons x l =>
        have hx : x ∈ r := (List.mem_filter.mp (hf ▸ List.mem_cons_self : x ∈ r.filter fun p => p.1 != a)).1
        exact memAbove_all h.2.2 h.2.1 x hx
    · exact ih h.2.2

theorem memWf_ins (m : List Host.Cell) (a : Nat) (b : Byte) (w : memWf m = true) (hb : b ≠ 0) (hk : ∀ p ∈ m, p.1 ≠ a) :
    memWf (memIns m a b) = true ∧ ∀ k, k < a → memAbove k m → memAbove k (memIns m a b) := by
  induction m with
  | nil => exact ⟨(memWf_cons a b []).mpr ⟨hb, trivial, rfl⟩, fun k h _ => h⟩
  | cons p r ih =>
    obtain ⟨g, u⟩ := p
    have h := (memWf_cons g u r).mp w
    by_cases hlt : a < g
    · simp only [memIns, hlt, if_true]
      exact ⟨(memWf_cons a b _).mpr ⟨hb, hlt, w⟩, fun k hk' _ => hk'⟩
    · have hne : g ≠ a := hk (g, u) (by simp)
      have hgt : g < a := Nat.lt_of_le_of_ne (Nat.le_of_not_lt hlt) hne
      have hr := ih h.2.2 fun p hp => hk p (by simp [hp])
      simp only [memIns, hlt, if_false]
      exact ⟨(memWf_cons g u _).mpr ⟨h.1, hr.2 g hgt h.2.1, hr.1⟩, fun k _ ha => ha⟩

/-- Writing a byte keeps the canonical form. -/
theorem memWf_put (m : List Host.Cell) (a : Nat) (b : Byte) (w : memWf m = true) : memWf (memPut m a b) = true := by
  unfold memPut
  split
  · exact memWf_del m a w
  · rename_i h
    exact (memWf_ins _ a b (memWf_del m a w) h (memDel_keys m a)).1

/-- Writing a string of bytes keeps the canonical form. -/
theorem memWf_write (bs : Bytes) (m : List Host.Cell) (a : Nat) (w : memWf m = true) : memWf (memWrite m a bs) = true := by
  induction bs generalizing m a with
  | nil => exact w
  | cons b r ih => exact ih _ _ (memWf_put m a b w)

theorem memWf_of (bs : Bytes) : memWf (memOf bs) = true := memWf_write bs [] 0 rfl

end Sys2Proof.Machine
end

