-- ==== Sys2Proof/Laws/Shared.lean ====
section
/-!
SUPPORT. What the shared operations can do: one lemma for each says the whole of its effect, or the part of the state it
leaves alone.
-/
namespace Sys2Proof.Machine

/-! ### Counting for PMON -/

/-- Counting an event changes the counters of PMON and nothing else. -/
theorem State.perf_eq (s : State) (u ev c n : Nat) : s.perf u ev c n = { s with pmon := (s.perf u ev c n).pmon } := by
  unfold State.perf
  split <;> rfl

theorem State.perf_regs (s : State) (u ev c n : Nat) : (s.perf u ev c n).regs = s.regs := by rw [State.perf_eq]

theorem State.perf_pending (s : State) (u ev c n : Nat) : (s.perf u ev c n).pending = s.pending := by rw [State.perf_eq]

theorem State.perf_floorTime (s : State) (u ev c n : Nat) : (s.perf u ev c n).floorTime = s.floorTime := by rw [State.perf_eq]

theorem State.perf_sessions (s : State) (u ev c n : Nat) : (s.perf u ev c n).sessions = s.sessions := by rw [State.perf_eq]

theorem State.perf_sent (s : State) (u ev c n : Nat) : (s.perf u ev c n).sent = s.sent := by rw [State.perf_eq]

theorem State.perf_scan (s : State) (u ev c n : Nat) : (s.perf u ev c n).scan = s.scan := by rw [State.perf_eq]

/-! ### The cost of an op -/

/-- The cycles an op takes lie between its bounds; only the draw of free values moves. -/
theorem State.cycles_spec (s : State) (lo hi : Nat) (h : lo ≤ hi) :
    lo ≤ (s.cycles lo hi).1 ∧ (s.cycles lo hi).1 ≤ hi ∧ (s.cycles lo hi).2 = { s with free := (s.cycles lo hi).2.free } := by
  unfold State.cycles
  split
  · exact ⟨Nat.le_refl _, h, rfl⟩
  · refine ⟨Nat.le_add_right _ _, ?_, rfl⟩
    have := Nat.mod_lt (s.draw).1 (show hi - lo + 1 > 0 by omega)
    show lo + (s.draw).1 % (hi - lo + 1) ≤ hi
    omega

/-- A switch charges at most 0.25 µs (R125). -/
theorem State.switchPs_spec (s : State) (p : Ply) :
    (s.switchPs p).1 ≤ 250000 ∧ (s.switchPs p).2 = { s with free := (s.switchPs p).2.free } := by
  unfold State.switchPs
  split
  · exact ⟨Nat.zero_le _, rfl⟩
  · exact ⟨Nat.le_of_lt_succ (Nat.mod_lt _ (by decide)), rfl⟩

/-- Charging a ply charges its engine, and nothing else of the state. -/
theorem State.charge_eq (s : State) (p : Ply) (ps : Nat) :
    s.charge p ps = { s with scan := { s.scan with e0 := (s.charge p ps).scan.e0, e1 := (s.charge p ps).scan.e1 } } := by
  unfold State.charge State.putEng
  split <;> rfl

/-- PMON's view of a retired op changes PMON and nothing else. -/
theorem State.sampleOp_eq (s : State) (x : Sampled) : s.sampleOp x = { s with pmon := (s.sampleOp x).pmon } := by
  by_cases h : s.pmon.counts.getD x.engine 0 ≤ 1
  all_goals
    unfold State.sampleOp
    simp only [h, if_true, if_false]
    split <;> rfl

/-! ### Answers -/

/-- Answering sends one response and counts it; all else stays. -/
theorem State.respond_eq (s : State) (conn comp seq cmd st : Nat) (p : Bytes) :
    s.respond conn comp seq cmd st p =
      { s with sent := s.sent ++ [.resp conn comp seq cmd st p], pmon := (s.respond conn comp seq cmd st p).pmon } := by
  unfold State.respond
  rw [State.perf_eq]
  rfl

theorem State.respond_regs (s : State) (conn comp seq cmd st : Nat) (p : Bytes) : (s.respond conn comp seq cmd st p).regs = s.regs := by
  rw [State.respond_eq]

theorem State.respond_pending (s : State) (conn comp seq cmd st : Nat) (p : Bytes) :
    (s.respond conn comp seq cmd st p).pending = s.pending := by rw [State.respond_eq]

theorem State.respond_floorTime (s : State) (conn comp seq cmd st : Nat) (p : Bytes) :
    (s.respond conn comp seq cmd st p).floorTime = s.floorTime := by rw [State.respond_eq]

/-- A final response changes its session, what was sent and PMON; all else stays. -/
theorem State.finalTo_eq (s : State) (sid seq cmd st : Nat) (p : Bytes) (whole : Bool) :
    s.finalTo sid seq cmd st p whole =
      { s with sessions := (s.finalTo sid seq cmd st p whole).sessions, sent := (s.finalTo sid seq cmd st p whole).sent,
               pmon := (s.finalTo sid seq cmd st p whole).pmon } := by
  unfold State.finalTo
  split
  · rfl
  · simp only []
    split
    · rw [State.respond_eq]
      rfl
    · rfl

theorem State.finalTo_regs (s : State) (sid seq cmd st : Nat) (p : Bytes) (whole : Bool) :
    (s.finalTo sid seq cmd st p whole).regs = s.regs := by rw [State.finalTo_eq]

theorem State.finalTo_pending (s : State) (sid seq cmd st : Nat) (p : Bytes) (whole : Bool) :
    (s.finalTo sid seq cmd st p whole).pending = s.pending := by rw [State.finalTo_eq]

theorem State.finalTo_floorTime (s : State) (sid seq cmd st : Nat) (p : Bytes) (whole : Bool) :
    (s.finalTo sid seq cmd st p whole).floorTime = s.floorTime := by rw [State.finalTo_eq]

/-- Closing a connection drops it, detaches its session and tells the transport; all else stays. -/
theorem State.closeConn_eq (s : State) (conn t : Nat) :
    s.closeConn conn t =
      { s with conns := s.conns.filter fun c => c.id != conn,
               sessions := s.sessions.map fun x => if x.conn = some conn then { x with conn := none, detachedAt := t } else x,
               sent := s.sent ++ [.close conn] } := rfl

/-! ### Events -/

/-- Queueing a record changes the recorder and, where it is dropped, two fields of its compartment (R351). -/
theorem State.enqueue_eq (s : State) (c : Nat) (r : EvRec) :
    s.enqueue c r = { s with evr := (s.enqueue c r).evr, regs := (s.enqueue c r).regs } := by
  unfold State.enqueue
  split <;> rfl

theorem State.enqueue_wf (s : State) (c : Nat) (r : EvRec) (w : s.regs.wf = true) : (s.enqueue c r).regs.wf = true := by
  unfold State.enqueue
  split
  · exact w
  · exact State.wf_set1 _ _ (State.wf_inc _ _ _ w)

/-- Raising an event changes the recorder and the stored fields only. -/
theorem State.log_eq (s : State) (c trigger : Nat) (d : Bytes) (summary : Bool) (list : Option Nat) :
    s.log c trigger d summary list =
      { s with evr := (s.log c trigger d summary list).evr, regs := (s.log c trigger d summary list).regs } := by
  unfold State.log
  split
  · rfl
  · exact State.enqueue_eq s c _

/-- Raising an event keeps the canonical form of the stored fields. -/
theorem State.log_wf (s : State) (c trigger : Nat) (d : Bytes) (summary : Bool) (list : Option Nat) (w : s.regs.wf = true) :
    (s.log c trigger d summary list).regs.wf = true := by
  unfold State.log
  split
  · exact w
  · exact State.enqueue_wf s c _ w

/-- An event that is not lost and not dropped is queued, and nothing else changes. -/
theorem State.log_queued (s : State) (c trigger : Nat) (d : Bytes) (summary : Bool) (list : Option Nat) (sh : Bool)
    (hf : (s.failed 10 || ! s.exists? c) = false) (hr : s.queueRoom c = some sh) :
    s.log c trigger d summary list =
      { s with evr := { s.evr with pend := s.evr.pend ++ [⟨c, sh, s.eventRecord c trigger d summary list⟩] } } := by
  unfold State.log State.enqueue
  simp [hf, hr]

theorem State.log_pending (s : State) (c trigger : Nat) (d : Bytes) (summary : Bool) (list : Option Nat) :
    (s.log c trigger d summary list).pending = s.pending := by rw [State.log_eq]

theorem State.log_floorTime (s : State) (c trigger : Nat) (d : Bytes) (summary : Bool) (list : Option Nat) :
    (s.log c trigger d summary list).floorTime = s.floorTime := by rw [State.log_eq]

theorem State.logAll_wf (s : State) (cs : List Nat) (trigger : Nat) (d : Bytes) (summary : Bool) (w : s.regs.wf = true) :
    (s.logAll cs trigger d summary).regs.wf = true :=
  State.wf_foldl cs _ (fun s _ h => State.log_wf s _ _ _ _ _ h) s w

theorem State.logAll_pending (s : State) (cs : List Nat) (trigger : Nat) (d : Bytes) (summary : Bool) :
    (s.logAll cs trigger d summary).pending = s.pending :=
  State.foldl_keeps (·.pending) cs _ (fun s _ => State.log_pending s _ _ _ _ _) s

theorem State.logAll_floorTime (s : State) (cs : List Nat) (trigger : Nat) (d : Bytes) (summary : Bool) :
    (s.logAll cs trigger d summary).floorTime = s.floorTime :=
  State.foldl_keeps (·.floorTime) cs _ (fun s _ => State.log_floorTime s _ _ _ _ _) s

/-! ### What waits -/

/-- The end of a wait keeps the canonical form of the stored fields. -/
theorem State.finish_wf (s : State) (w : Wait) (st : Nat) (p : Bytes) (h : s.regs.wf = true) : (s.finish w st p).regs.wf = true := by
  unfold State.finish
  refine State.wf_foldl _ _ (fun t x ht => ?_) _ h
  split
  · exact State.log_wf t _ _ _ _ _ ht
  · rw [State.finalTo_regs]
    exact ht

theorem State.finish_pending (s : State) (w : Wait) (st : Nat) (p : Bytes) : (s.finish w st p).pending = s.pending := by
  unfold State.finish
  refine State.foldl_keeps (·.pending) _ _ (fun t x => ?_) _
  split
  · exact State.log_pending t _ _ _ _ _
  · exact State.finalTo_pending t _ _ _ _ _ _

theorem State.finish_floorTime (s : State) (w : Wait) (st : Nat) (p : Bytes) : (s.finish w st p).floorTime = s.floorTime := by
  unfold State.finish
  refine State.foldl_keeps (·.floorTime) _ _ (fun t x => ?_) _
  split
  · exact State.log_floorTime t _ _ _ _ _
  · exact State.finalTo_floorTime t _ _ _ _ _ _

/-! ### Commands -/

/-- A command of an open session always answers a next state. -/
theorem command_next (code : Nat) (body : Req → State → State × Reply) (f : Frame) (s : State) (a b c : Bool) :
    command code body f s a b c =
      .next (s.serve { code := code, cancellable := a, removes := b, rereads := c } f noPre body) := rfl

/-! ### Flags (R5, R11) -/

/-- Clearing a flag touches the flag and its companion counter only, and keeps the canonical form. -/
theorem State.clearFlags_wf (s : State) (r : Row) (idx : List Nat) (f : Fld) (ones sets : Nat) (w : s.regs.wf = true) :
    (s.clearFlags r idx f ones sets).regs.wf = true := by
  unfold State.clearFlags
  have h := State.wf_wr s f (nand (s.rd f) ones ||| sets) w
  simp only []
  split
  · exact State.wf_incSat _ _ _ h
  · exact h

end Sys2Proof.Machine
end

