-- ==== Sys2Proof/Tests/Base.lean ====
section
/-!
SUPPORT. Small states, frames and programs from which the tests start.
-/
namespace Sys2Proof.Tests
set_option Elab.async false
open Sys2Proof.Machine Sys2Proof.Claims

/-- The block after reset, in mode `m`. -/
def at_ (m : Nat) : State := State.reset.wr Obj.IDENT_MODE.f m

/-- The state that a command leaves. -/
def after (i : Instr) (s : State) : State :=
  match exec i s with
  | .next t => t
  | _ => s

/-! ### One session -/

def sess (c : Nat) : Session := { id := 1, comp := c, conn := some 1, usb := false, slot := 0, lastFrame := 0, expected := 5 }

def conn1 (c : Nat) : Conn := { id := 1, usb := false, port := 0, vlan := none, comp := some c, slot := 0 }

/-- A state with one session of compartment `c` open on connection 1. -/
def hosted (s : State) (c : Nat) : State := { s with sessions := [sess c], conns := [conn1 c] }

/-- The next request of that session. -/
def fr (c : Nat) (p : Bytes) : Frame :=
  { conn := 1, arrival := 0, comp := BitVec.ofNat 8 c, seq := 5, length := BitVec.ofNat 16 p.length, payload := p }

/-- The checks of `Admitted`. -/
def admittedB (s : State) (f : Frame) (x : Session) (k : Conn) : Bool :=
  s.serves && (s.advance f.arrival).connOf f.conn == some k && f.judge k.usb == .good && s.sessionOn f.conn == some x &&
  s.session x.id == some x && f.comp.toNat == x.comp && x.partialReq == none && f.seq.toNat == x.expected &&
  decide (s.outstanding x < 8) && f.seg == 0 && f.more == false

theorem admitted_of {s : State} {f : Frame} {x : Session} (k : Conn) (h : admittedB s f x k = true) : Admitted s f x := by
  simp only [admittedB, Bool.and_eq_true, beq_iff_eq, decide_eq_true_eq] at h
  obtain ⟨⟨⟨⟨⟨⟨⟨⟨⟨⟨a, b⟩, c⟩, d⟩, e⟩, g⟩, i⟩, j⟩, l⟩, m⟩, n⟩ := h
  exact ⟨⟨k, ⟨a, b⟩, c⟩, d, e, g, i, j, l, m, n⟩

/-- The status and payload of the last thing put out, where it is a response. -/
def lastAnswer (s : State) : Option (Nat × Bytes) :=
  match s.sent.getLast? with
  | some (.resp _ _ _ _ st p) => some (st, p)
  | _ => none

/-- What a request of compartment `c` is answered in state `s`. -/
def answer (i : Frame → Instr) (s : State) (c : Nat) (p : Bytes) : Option (Nat × Bytes) := lastAnswer (after (i (fr c p)) (hosted s c))

/-! ### One ply -/

def inst0 : Inst := { id := 7, ix := 0, typeIx := 0, size := 64, data := memOf [0x08, 0, 0x88, 0x99, 0xAA, 0xBB, 0xCC, 0xDD] }
def inst1 : Inst := { id := 8, ix := 1, typeIx := 1, size := 16, data := [] }

def image : Image :=
  { comp := 2, size := 4096, hash := List.replicate 48 0, minUcode := 0, code := [], consts := [2, 5, 0xFFFFFFFFFFFFFFFE, 42],
    funcs := [⟨0, 64, 0⟩, ⟨64, 64, 1⟩], types := [⟨1, 64, 0, 1, []⟩, ⟨2, 16, 1, 0, []⟩],
    insts := [⟨0, false, 1, 0, 0, []⟩, ⟨1, true, 2, 0, 0, []⟩], retain := [], tasks := [⟨0, 3, false, 1000, 0, 8, 0, [], []⟩] }

def prog : Prog := { image := image, insts := [inst0, inst1] }

/-- A ply of C02 on engine 0, entry 3: G1 is `a`, G2 is `b`, G3 is 9. -/
def ply (a b : Nat) : Ply :=
  { comp := 2, engine := 0, entry := 3, cap := 5000000, tempo := 1000, ready := true, begun := true, onOld := false,
    regs := [0, BitVec.ofNat 64 a, BitVec.ofNat 64 b, 9] ++ List.replicate 28 0, pc := 16, ib := 7, gb := some 8, link := [],
    ins := [(0x77, 2)], outPts := [4], outs := [0x55], sets := [], divz := false, first := true, cold := false, stepped := false,
    newBank := false, tempoLow := 6, events := 0, charged := 0, waiting := none, lost := false }

/-- C02 exists and runs in M6, with allowance on engine 0; the ply is the one the engine ran last. -/
def runs (p : Ply) : State :=
  let s := (((at_ 6).wr Obj.CAST_COMP_EXIST.f 7).wr (Obj.SCE_STATE.b 2) 2).wr Obj.AGM_PLAN_SCE_CLK.f 400
  { s with scan := { s.scan with plies := [p], progs := [(2, { cur := some prog })], e0 := { shares := some (List.replicate 34 20), last := some (2, 3) } } }

/-- The ply that an op leaves. -/
def plyAfter (i : Instr) (p : Ply) : Option Ply := (after i (runs p)).plyOf 2 0 3

/-- What an op leaves in G3. -/
def g3 (i : Instr) (a b : Nat) : Option Nat := (plyAfter i (ply a b)).map fun q => (q.g 3).toNat

theorem runs_ply : (runs (ply 1 2)).running 0 = some (ply 1 2) ∧ (runs (ply 1 2)).progOf (ply 1 2) = some prog := by decide

end Sys2Proof.Tests
end

