-- ==== Sys2Proof/Tests/Ops.lean ====
section
/-!
SUPPORT. Tempo ops: what one op leaves, worked by hand from spec/06, and states that meet the hypotheses of the statements
about them.
-/
namespace Sys2Proof.Tests
set_option Elab.async false
open Sys2Proof.Machine Sys2Proof.Claims

/-! ### Integers (Table 6-3) -/

theorem test_add : g3 (.add 0 false 3 1 2) 0xFFFFFFFFFFFFFFFF 2 = some 1 := by decide
theorem test_add_w : g3 (.add 0 true 3 1 2) 0x7FFFFFFF 1 = some 0xFFFFFFFF80000000 := by decide
theorem test_sub : g3 (.sub 0 false 3 1 2) 1 2 = some 0xFFFFFFFFFFFFFFFF := by decide
theorem test_mul_w : g3 (.mul 0 true 3 1 2) 0x10001 0x10000 = some 0x10000 := by decide
theorem test_mulhs : g3 (.mulhs 0 false 3 1 2) 0xFFFFFFFFFFFFFFFF 2 = some 0xFFFFFFFFFFFFFFFF := by decide
theorem test_mulhs_w : g3 (.mulhs 0 true 3 1 2) 0x40000000 8 = some 2 := by decide
theorem test_divs : g3 (.divs 0 false 3 1 2) (2 ^ 64 - 7) 2 = some (2 ^ 64 - 3) := by decide
theorem test_divs_least : g3 (.divs 0 false 3 1 2) (2 ^ 63) (2 ^ 64 - 1) = some (2 ^ 63) := by decide
theorem test_divu : g3 (.divu 0 false 3 1 2) (2 ^ 64 - 7) 2 = some (2 ^ 63 - 4) := by decide
theorem test_divu_zero : g3 (.divu 0 false 3 1 2) 5 0 = some 0 ∧ (plyAfter (.divu 0 false 3 1 2) (ply 5 0)).map (·.divz) = some true := by decide
theorem test_rem : g3 (.rem 0 false 3 1 2) (2 ^ 64 - 7) 2 = some (2 ^ 64 - 1) := by decide
theorem test_remu : g3 (.remu 0 false 3 1 2) (2 ^ 64 - 7) 2 = some 1 := by decide
theorem test_and : g3 (.andd 0 false 3 1 2) 0xF0F 0x0FF = some 0x00F := by decide
theorem test_or : g3 (.orr 0 false 3 1 2) 0xF00 0x0FF = some 0xFFF := by decide
theorem test_xor : g3 (.xorr 0 false 3 1 2) 0xF0F 0x0FF = some 0xFF0 := by decide
theorem test_shl : g3 (.shl 0 false 3 1 2) 1 65 = some 2 := by decide
theorem test_shr_w : g3 (.shr 0 true 3 1 2) 0xFFFFFFFF80000000 4 = some 0x08000000 := by decide
theorem test_sar_w : g3 (.sar 0 true 3 1 2) 0x80000000 4 = some 0xFFFFFFFFF8000000 := by decide
theorem test_mins : g3 (.mins 0 false 3 1 2) (2 ^ 64 - 1) 1 = some (2 ^ 64 - 1) := by decide
theorem test_maxs : g3 (.maxs 0 false 3 1 2) (2 ^ 64 - 1) 1 = some 1 := by decide
theorem test_addi : g3 (.addi 0 3 1 0xFFFF) 5 0 = some 4 := by decide
theorem test_andi : g3 (.andi 0 3 1 0xFF00) 0x12345678 0 = some 0x5600 := by decide
theorem test_ori : g3 (.ori 0 3 1 0x8001) 0x10 0 = some 0x8011 := by decide
theorem test_xori : g3 (.xori 0 3 1 0xFFFF) 0xFFFF0000FFFF 0 = some 0xFFFF00000000 := by decide
theorem test_movi : g3 (.movi 0 3 0x100000) 0 0 = some (2 ^ 64 - 2 ^ 20) := by decide
theorem test_ldc : g3 (.ldc 0 3 3) 0 0 = some 42 := by decide
theorem test_g0 : (plyAfter (.addi 0 0 1 1) (ply 5 0)).map (fun q => (q.g 0, q.pc)) = some (0, 20) := by decide

/-! ### Floating point (Table 6-4) -/

/-- 1.5 + 2.25 = 3.75 -/
theorem test_fadd : g3 (.fadd 0 true 3 1 2) 0x3FF8000000000000 0x4002000000000000 = some 0x400E000000000000 := by decide
/-- 1 - 3 = -2 in binary32 -/
theorem test_fsub : g3 (.fsub 0 false 3 1 2) 0x3F800000 0x40400000 = some 0xC0000000 := by decide
/-- 1.5 · 1.5 = 2.25 -/
theorem test_fmul : g3 (.fmul 0 true 3 1 2) 0x3FF8000000000000 0x3FF8000000000000 = some 0x4002000000000000 := by decide
/-- 1 / 0 is an infinity -/
theorem test_fdiv : g3 (.fdiv 0 false 3 1 2) 0x3F800000 0 = some 0x7F800000 := by decide
/-- the root of 4 -/
theorem test_fsqrt : g3 (.fsqrt 0 true 3 1) 0x4010000000000000 0 = some 0x4000000000000000 := by decide
theorem test_fmin : g3 (.fmin 0 false 3 1 2) 0xBF800000 0x3F800000 = some 0xBF800000 := by decide
theorem test_fmax : g3 (.fmax 0 false 3 1 2) 0xBF800000 0x3F800000 = some 0x3F800000 := by decide
theorem test_fabs : g3 (.fabs 0 true 3 1) 0xBFF0000000000000 0 = some 0x3FF0000000000000 := by decide
theorem test_fneg : g3 (.fneg 0 false 3 1) 0x3F800000 0 = some 0xBF800000 := by decide
theorem test_i2d : g3 (.i2d 0 false 3 1) (2 ^ 64 - 1) 0 = some 0xBFF0000000000000 := by decide
theorem test_u2d_w : g3 (.u2d 0 true 3 1) 0xFFFFFFFF00000001 0 = some 0x3FF0000000000000 := by decide
theorem test_i2f : g3 (.i2f 0 true 3 1) 3 0 = some 0x40400000 := by decide
/-- -1.5 truncates to -1 -/
theorem test_d2i : g3 (.d2i 0 false 3 1) 0xBFF8000000000000 0 = some (2 ^ 64 - 1) := by decide
/-- 3e9 saturates at 2^31 - 1 -/
theorem test_f2i_w : g3 (.f2i 0 true 3 1) 0x4F32D05E 0 = some 0x7FFFFFFF := by decide
theorem test_f2d : g3 (.f2d 0 3 1) 0x3FC00000 0 = some 0x3FF8000000000000 := by decide
theorem test_d2f : g3 (.d2f 0 3 1) 0x3FF8000000000000 0 = some 0x3FC00000 := by decide

/-! ### Comparisons and bits (Table 6-5) -/

theorem test_cmp_eq : g3 (.cmpEq 0 true 3 1 2) 0x100000001 1 = some 1 := by decide
theorem test_cmp_ne : g3 (.cmpNe 0 false 3 1 2) 0x100000001 1 = some 1 := by decide
theorem test_cmp_lt : g3 (.cmpLt 0 false 3 1 2) (2 ^ 64 - 1) 0 = some 1 := by decide
theorem test_cmp_le : g3 (.cmpLe 0 true 3 1 2) 0x80000000 0x80000000 = some 1 := by decide
theorem test_cmp_ltu : g3 (.cmpLtu 0 false 3 1 2) (2 ^ 64 - 1) 0 = some 0 := by decide
theorem test_cmp_leu : g3 (.cmpLeu 0 true 3 1 2) 0x80000000 0x7FFFFFFF = some 0 := by decide
theorem test_fcmp_eq : g3 (.fcmpEq 0 false 3 1 2) 0x80000000 0 = some 1 := by decide
theorem test_fcmp_ne : g3 (.fcmpNe 0 false 3 1 2) 0x7FC00000 0x7FC00000 = some 1 := by decide
theorem test_fcmp_lt : g3 (.fcmpLt 0 false 3 1 2) 0xBF800000 0 = some 1 := by decide
theorem test_fcmp_le : g3 (.fcmpLe 0 false 3 1 2) 0x7FC00000 0x3F800000 = some 0 := by decide
theorem test_fcmp_unord : g3 (.fcmpUnord 0 false 3 1 2) 0x7FC00000 0 = some 1 := by decide
theorem test_btst : g3 (.btst 0 3 1 63) (2 ^ 63) 0 = some 1 := by decide
theorem test_bset : g3 (.bset 0 3 1 63) 1 0 = some (2 ^ 63 + 1) := by decide
theorem test_bclr : g3 (.bclr 0 3 1 0) 3 0 = some 2 := by decide
theorem test_binv : g3 (.binv 0 3 1 1) 3 0 = some 1 := by decide
theorem test_extu : g3 (.extu 0 3 1 4 7) 0xABCD 0 = some 0xBC := by decide
theorem test_exts : g3 (.exts 0 3 1 4 7) 0xABCD 0 = some (2 ^ 64 - 0x44) := by decide
theorem test_ins : g3 (.ins 0 3 1 4 3) 0xF 0 = some 0xF9 := by decide
theorem test_clz : g3 (.clz 0 3 1) 1 0 = some 63 := by decide
theorem test_popc : g3 (.popc 0 3 1) 0xF0F 0 = some 8 := by decide

/-! ### Flow -/

theorem test_br : (plyAfter (.br 0 0x3FFFFFF) (ply 0 0)).map (·.pc) = some 12 := by decide
theorem test_bz : (plyAfter (.bz 0 1 2) (ply 0 0)).map (·.pc) = some 24 ∧ (plyAfter (.bz 0 1 2) (ply 1 0)).map (·.pc) = some 20 := by decide
theorem test_bnz : (plyAfter (.bnz 0 1 2) (ply 1 0)).map (·.pc) = some 24 := by decide
theorem test_bdec : (plyAfter (.bdec 0 1 2) (ply 2 0)).map (fun q => (q.pc, q.g 1)) = some (24, 1) := by decide
theorem test_btab : (plyAfter (.btab 0 1 0) (ply 0 0)).map (·.pc) = some 36 ∧ (plyAfter (.btab 0 1 0) (ply 1 0)).map (·.pc) = some 8 := by decide
theorem test_call : (plyAfter (.call 0 4) (ply 0 0)).map (fun q => (q.pc, q.link)) = some (32, [(20, 7)]) := by decide
theorem test_fbcallx : (plyAfter (.fbcallx 0 1 1) (ply 8 0)).map (fun q => (q.pc, q.ib, q.link)) = some (64, 8, [(20, 7)]) := by decide
theorem test_fbcall : (plyAfter (.fbcall 0 0) (ply 0 0)).map (fun q => (q.pc, q.ib)) = some (64, 8) := by decide
theorem test_ret : (plyAfter (.ret 0) { ply 0 0 with link := [(20, 8)] }).map (fun q => (q.pc, q.ib, q.link)) = some (20, 8, []) := by decide


/-! ### Data (Table 6-6) -/

theorem test_pld : g3 (.pld 0 3 0 0) 0 0 = some 0x77 := by decide
theorem test_pattr : g3 (.pattr 0 3 0 0) 0 0 = some 2 := by decide
theorem test_pst : (plyAfter (.pst 0 1 0 0) (ply 6 0)).map (·.outs) = some [6] := by decide
theorem test_pold : g3 (.pold 0 3 0 0) 0 0 = some 0x55 := by decide
theorem test_ild_b : g3 (.ildB 0 3 0 3) 0 0 = some 0x99 := by decide
theorem test_ild_h : g3 (.ildH 0 3 1 0xFFFE) 4 0 = some 0x9988 := by decide
theorem test_ild_w : g3 (.ildW 0 3 0 4) 0 0 = some 0xDDCCBBAA := by decide
theorem test_ild_d : g3 (.ildD 0 3 0 0) 0 0 = some 0xDDCCBBAA99880008 := by decide
theorem test_gld : g3 (.gld 0 3 0 8) 0 0 = some 0 := by decide

/-- The bytes of an instance after an op. -/
def dataAfter (i : Instr) (a b id off n : Nat) : Option Nat :=
  ((after i (runs (ply a b))).prog 2).cur.bind fun g => (g.inst id).map fun x => memRead x.data off n

theorem test_ist_b : dataAfter (.istB 0 1 0 9) 0x1234 0 7 8 4 = some 0x3400 := by decide
theorem test_ist_h : dataAfter (.istH 0 1 0 10) 0x123456 0 7 8 8 = some 0x34560000 := by decide
theorem test_ist_w : dataAfter (.istW 0 1 0 12) 0x123456789A 0 7 8 8 = some 0x3456789A00000000 := by decide
theorem test_ist_d : dataAfter (.istD 0 1 0 16) 0x123456789A 0 7 16 8 = some 0x123456789A := by decide
theorem test_gst : dataAfter (.gst 0 1 0 8) 6 0 8 8 8 = some 6 := by decide

/-- A TON with PT 0 whose input rises is done at once, in the record and in the result (bit 0 is Q). -/
theorem test_tmr : (plyAfter (.tmr 0 1 0 16) (ply 1 0)).map (fun q => (q.g 1).toNat) = some 1 := by decide
theorem test_tmrrd : g3 (.tmrrd 0 3 0 16) 0 0 = some 0 := by decide
/-- An edge op not yet primed sees no edge, and primes the record. -/
theorem test_edgr : dataAfter (.edgr 0 1 0 16) 1 0 7 16 8 = some 3 ∧ (plyAfter (.edgr 0 1 0 16) (ply 1 0)).map (·.g 1) = some 0 := by decide
theorem test_edgf : dataAfter (.edgf 0 1 0 16) 0 0 7 16 8 = some 2 := by decide
theorem test_edgb : dataAfter (.edgb 0 1 0 16) 1 0 7 16 8 = some 3 := by decide

/-! ### Calls of the system -/

theorem test_tbound : g3 (.tbound 0 3) 0 0 = some 5000000 := by decide
theorem test_tnow : g3 (.tnow 0 3) 0 0 = some 0 := by decide
theorem test_plyinfo : g3 (.plyinfo 0 3) 0 0 = some (1 + 32 * 3 + 2 ^ 32 * 6) := by decide
theorem test_wake : g3 (.wake 0 3) 0 0 = some 0 := by decide
theorem test_utrap : plyAfter (.utrap 0 1) (ply 0x10005 0) = none ∧
    (after (.utrap 0 1) (runs (ply 0x10005 0))).rd (Obj.SCE_TRAP_LAST_CODE.at 2 [0, 3]) = 8 := by decide
theorem test_event : (plyAfter (.event 0 3 1) (ply 1 0)).map (·.waiting) = some (some (.event 3)) := by decide
theorem test_event_fifth : g3 (.event 0 3 1) 1 0 = some 9 ∧
    (plyAfter (.event 0 3 1) { ply 1 0 with events := 4 }).map (fun q => (q.g 3).toNat) = some 0x61 := by decide
/-- SCE_STATE is an HW word; IDENT_MODE is an FW word, for which the ply waits. -/
theorem test_objrd32 : (plyAfter (.objrd32 0 3 1 4) (ply 0x100000 0)).map (fun q => (q.g 3, q.g 4)) = some (2, 0) := by decide
theorem test_objrd32_fw : (plyAfter (.objrd32 0 3 1 4) (ply 0x28 0)).map (·.waiting) = some (some (.read 3 4 0x28 false)) := by decide
theorem test_objrd64_misaligned : (plyAfter (.objrd64 0 3 1 4) (ply 0x100002 0)).map (fun q => (q.g 4).toNat) = some 0x23 := by decide
theorem test_objwr32_read_only : (plyAfter (.objwr32 0 3 1 2) (ply 0x100000 0)).map (fun q => (q.g 3).toNat) = some 0x21 := by decide

/-! ### The hypotheses of the statements -/

theorem wit_RegistersOfAPly : (ply 1 2).regs.length = 32 ∧ prog.instIx 0 = some inst0 ∧ prog.image.types[inst0.typeIx]? = some ⟨1, 64, 0, 1, []⟩ ∧
    prog.image.funcs[0]? = some ⟨0, 64, 0⟩ := by decide

theorem wit_IntegerOps : ∃ x, integerOp (.add 0 false 3 1 2) = some x ∧ (runs (ply 1 2)).running x.e = some (ply 1 2) :=
  ⟨_, rfl, by decide⟩
theorem wit_IntegerOps_compare : ∃ x, compareOp (.clz 0 3 1) = some x ∧ (runs (ply 1 2)).running x.e = some (ply 1 2) :=
  ⟨_, rfl, by decide⟩
theorem wit_FloatOps : ∃ x, floatOp (.fcmpUnord 0 true 3 1 2) = some x ∧ (runs (ply 1 2)).running x.e = some (ply 1 2) :=
  ⟨_, rfl, by decide⟩

/-- A divisor that is 0 at 32 bits and not at 64, and the least one that is not 0. -/
theorem wit_Divisions : (∃ x, divisionOp (.remu 0 true 3 1 2) = some x) ∧ (runs (ply 1 (2 ^ 32))).running 0 = some (ply 1 (2 ^ 32)) ∧
    source true false ((ply 1 (2 ^ 32)).g 2) = 0 ∧ source false false ((ply 1 (2 ^ 32)).g 2) ≠ 0 ∧ source true false ((ply 1 1).g 2) ≠ 0 :=
  ⟨⟨_, rfl⟩, by decide⟩

/-- A field that ends at bit 63. -/
theorem wit_FieldOps : ∃ e d n w f, fieldBits (.ins 0 3 1 60 3) = some (e, d, n, w, f) ∧ n + w = 64 ∧ (runs (ply 1 2)).running e = some (ply 1 2) :=
  ⟨_, _, _, _, _, rfl, rfl, by decide⟩

theorem wit_Branches : ∃ e f taken off, branchOp (.bdec 0 1 2) = some (e, f, taken, off) ∧ taken (ply 1 0) = false ∧ taken (ply 0 0) = true ∧
    (runs (ply 0 0)).running e = some (ply 0 0) ∧ (runs (ply 1 0)).running e = some (ply 1 0) :=
  ⟨_, _, _, _, rfl, by decide⟩

/-- LDC of the last constant; BTAB on the last entry of its table and just beyond it. -/
theorem wit_CallsAndTables_tables : prog.image.consts[3]? = some 42 ∧ prog.image.consts[0]? = some 2 ∧ (ply 1 0).pc % 4 = 0 ∧
    ((ply 1 0).g 1).toNat < 2 ∧ prog.image.consts[0 + 1 + ((ply 1 0).g 1).toNat]? = some 0xFFFFFFFFFFFFFFFE ∧ 2 ≤ ((ply 2 0).g 1).toNat := by decide
/-- FBCALL on the child handle at offset 0; FBCALLX by identifier; CALL below the limit; RET to a caller. -/
theorem wit_CallsAndTables_calls : (ply 0 0).link.length < 16 ∧ prog.inst 7 = some inst0 ∧ (0 % 2 = 0 ∧ 0 + 2 ≤ inst0.size) ∧
    prog.inst (memRead inst0.data 0 2) = some inst1 ∧ prog.entryOf inst1 = some 64 ∧ ((ply 8 0).g 1).toNat < 16384 ∧
    prog.inst ((ply 8 0).g 1).toNat = some inst1 ∧ inst1.typeIx = 1 := by decide
theorem wit_CallsAndTables_ret : (runs { ply 0 0 with link := [(20, 8)] }).running 0 = some { ply 0 0 with link := [(20, 8)] } := by decide

/-- The last slot; the last bytes of the instance, and of the global one. -/
theorem wit_DataAccesses_slot : ∃ e a imm count f, slotAccess (.pld 0 3 0 0) = some (e, a, imm, count, f) ∧ offset (ply 1 2) a imm < count (ply 1 2) ∧
    (runs (ply 1 2)).running e = some (ply 1 2) := ⟨_, _, _, _, _, rfl, by decide⟩
theorem wit_DataAccesses_load : loadAccess (.gld 0 3 0 8) = some (0, 3, 0, 8, 8, true) ∧ reached true (ply 1 2) prog = some inst1 ∧
    (offset (ply 1 2) 0 8 % 8 = 0 ∧ offset (ply 1 2) 0 8 + 8 = inst1.size) := ⟨rfl, by decide⟩
theorem wit_DataAccesses_store : storeAccess (.istB 0 1 0 63) = some (0, 1, 0, 63, 1, false) ∧ reached false (ply 1 2) prog = some inst0 ∧
    (offset (ply 1 2) 0 63 % 1 = 0 ∧ offset (ply 1 2) 0 63 + 1 = inst0.size) := ⟨rfl, by decide⟩

/-- A record at the end of the instance, of a kind below 3. -/
theorem wit_TimersAndEdges : prog.inst (ply 1 2).ib = some inst0 ∧ offset (ply 1 2) 0 48 % 8 = 0 ∧ offset (ply 1 2) 0 48 + 16 = inst0.size ∧
    (Timer.of (memRead inst0.data 48 8) (memRead inst0.data 56 8)).kind ≠ 3 ∧ offset (ply 1 2) 0 56 + 8 = inst0.size := by decide
theorem wit_TimersAndEdges_edge : recordAccess (.edgb 0 1 0 56) = some (0, 1, 0, 56, 8) := rfl

theorem wit_ContextOps : ∃ x, contextOp (runs (ply 1 2)) (.wake 0 3) = some x ∧ (runs (ply 1 2)).running x.e = some (ply 1 2) :=
  ⟨_, rfl, by decide⟩
/-- A ply that runs in watch mode, whose task is watch-eligible and whose wake is enabled. -/
def watch : State :=
  let s := (((runs (ply 1 2)).wr Obj.IDENT_MODE.f 2).wr (Obj.SCE_TASK_CFG_WATCH.at 2 [0, 3]) 1).wr (Obj.SCE_TASK_TEMPO.at 2 [0, 3]) 100
  s.wr Obj.PWR_WAKE_EN.f 0x3F
theorem wit_ContextOps_wake : watch.running 0 = some (ply 1 2) ∧ watch.mode = 2 ∧ watch.power.transition = none ∧
    watch.watchTask 2 0 3 = true ∧ watch.wakeEn 4 = true ∧ (watch.wr Obj.PWR_WAKE_EN.f 0).wakeEn 4 = false := by decide

theorem wit_ObjectCalls_read : let s := runs (ply 0x100000 0)
    s.running 0 = some (ply 0x100000 0) ∧ s.wordsStatus 2 [0x100000] = St.ok ∧ isHw 0x100000 = true ∧ inRtc 0x100000 = false ∧
    highHalf 0x100000 = false ∧ s.wordAt 2 0x100000 = some 2 := by decide
/-- A task's times are a 64-bit HW register. -/
theorem wit_ObjectCalls_wide : let w := 0x110030
    let s := runs (ply w 0)
    s.running 0 = some (ply w 0) ∧ s.wordsStatus 2 [w, w + 4] = St.ok ∧ isHw w = true ∧ isHw (w + 4) = true ∧ inRtc w = false ∧
    inRtc (w + 4) = false ∧ highHalf w = false ∧ lowHalf (w + 4) = false ∧ (s.wordAt 2 w).isSome ∧ (s.wordAt 2 (w + 4)).isSome := by decide
theorem wit_ObjectCalls_fw : let s := runs (ply 0x28 0)
    s.running 0 = some (ply 0x28 0) ∧ s.wordsStatus 2 [0x28] = St.ok ∧ [0x28].all isHw = false ∧ (runs (ply 0x20 0)).wordsStatus 2 [0x20, 0x24] = St.ok := by decide

/-- Plies that wait: for an event, for a read of an FW word. -/
theorem wit_FirmwareCalls : (runs { ply 1 2 with waiting := some (.event 31) }).plyOf 2 0 3 = some { ply 1 2 with waiting := some (.event 31) } ∧
    (runs { ply 1 2 with waiting := some (.read 3 4 0x28 false) }).plyOf 2 0 3 = some { ply 1 2 with waiting := some (.read 3 4 0x28 false) } ∧
    ((runs (ply 1 2)).advance 0).wordsStatus 2 [0x28] = St.ok ∧ inRtc 0x28 = false ∧ highHalf 0x28 = false ∧
    ((runs (ply 1 2)).advance 0).wordAt 2 0x28 = some 6 := by decide
/-- The fourth call and the fifth of one ply. -/
theorem wit_FirmwareCalls_event : (runs { ply 1 2 with events := 3 }).running 0 = some { ply 1 2 with events := 3 } ∧
    (runs { ply 1 2 with events := 4 }).running 0 = some { ply 1 2 with events := 4 } ∧ (runs (ply 1 2)).failed 10 = false ∧
    (runs (ply 1 2)).exists? 2 = true ∧ (runs (ply 1 2)).queueRoom 2 = some false := by decide

/-- The first offsets outside, the first misaligned record, a full link stack. -/
theorem wit_Traps : (∃ count f, slotAccess (.pst 0 1 0 1) = some (0, 0, 1, count, f) ∧ count (ply 1 2) ≤ offset (ply 1 2) 0 1) ∧
    loadAccess (.ildH 0 3 0 63) = some (0, 3, 0, 63, 2, false) ∧ ¬ (offset (ply 1 2) 0 63 % 2 = 0 ∧ offset (ply 1 2) 0 63 + 2 ≤ inst0.size) ∧
    storeAccess (.gst 0 1 0 16) = some (0, 1, 0, 16, 8, true) ∧ ¬ (offset (ply 1 2) 0 16 % 8 = 0 ∧ offset (ply 1 2) 0 16 + 8 ≤ inst1.size) ∧
    recordAccess (.tmr 0 1 0 4) = some (0, 1, 0, 4, 16) ∧ offset (ply 1 2) 0 4 % 8 ≠ 0 ∧ inst0.size < offset (ply 1 2) 0 56 + 16 :=
  ⟨⟨_, _, rfl, by decide⟩, rfl, by decide, rfl, by decide, rfl, by decide⟩
theorem wit_Traps_depth : (runs { ply 1 2 with link := List.replicate 16 (20, 7) }).running 0 =
    some { ply 1 2 with link := List.replicate 16 (20, 7) } := by decide

/-- An output that its task keeps, of a compartment that runs. -/
def outputs : State := ((runs (ply 1 2)).wr (Obj.CAST_OWN_PT.i 4) 2).wr (Obj.SCE_TASK_CFG_ENABLE.at 2 [0, 3]) 1
def outProg : Prog := { prog with image := { image with tasks := [⟨0, 3, false, 1000, 0, 8, 0, [], [4]⟩] } }
theorem wit_PlyEnds : let s := outputs.putProg 2 { cur := some outProg }
    s.running 0 = some (ply 1 2) ∧ (ply 1 2).link = [] ∧ s.scan.hold = none ∧ s.rd (Obj.SCE_STATE.b 2) = 2 ∧ (ply 1 2).sets = [] ∧
    (ply 1 2).outPts.Nodup ∧ (ply 1 2).outPts[0]? = some 4 ∧ (ply 1 2).outs[0]? = some 0x55 ∧ s.keepsOutput (ply 1 2) 4 = true ∧
    s.pointForce 2 4 = none := by decide

end Sys2Proof.Tests
end

