-- ==== Sys2Proof/Tests/WitA.lean ====
section
/-!
SUPPORT. States that meet the hypotheses of the statements about the mailbox protocol, objects and modes.
-/
namespace Sys2Proof.Tests
set_option Elab.async false
open Sys2Proof.Machine Sys2Proof.Claims

/-! ### Frames -/

/-- C02 hosted in M6. -/
def h6 : State := hosted ((at_ 6).wr Obj.CAST_COMP_EXIST.f 7) 2
/-- C00 hosted in M6. -/
def o6 : State := hosted (at_ 6) 0

/-- With another session, of the sort a test needs. -/
def withSess (s : State) (x : Session) : State := { s with sessions := [x] }

def entry (q : Nat) (done cached : Bool) : WinEntry :=
  { seq := q, cmd := 0x0104, done := done, cached := cached, cancellable := false, status := 0, payload := [] }

theorem wit_FramesRefused_bad : mmp (.cmdSessionPing { fr 2 [] with version := 2 }) = some (0x0104, { fr 2 [] with version := 2 }) ∧
    Reaches h6 { fr 2 [] with version := 2 } (conn1 2) ∧ Frame.judge { fr 2 [] with version := 2 } false = .bad 0x0011 [1] :=
  ⟨rfl, ⟨by decide, by decide⟩, by decide⟩
theorem wit_FramesRefused_close : Reaches h6 { fr 2 [] with magic := 0 } (conn1 2) ∧ Frame.judge { fr 2 [] with magic := 0 } false = .closeTcp :=
  ⟨⟨by decide, by decide⟩, by decide⟩
theorem wit_FramesRefused_noSession : Reaches { h6 with sessions := [] } (fr 2 []) (conn1 2) ∧ (fr 2 []).judge false = .good ∧
    State.sessionOn { h6 with sessions := [] } 1 = none ∧ beforeOpen 0x0104 = false := ⟨⟨by decide, by decide⟩, by decide⟩
theorem wit_FramesRefused_comp : Reaches h6 (fr 3 []) (conn1 2) ∧ h6.sessionOn 1 = some (sess 2) ∧ (fr 3 []).comp.toNat ≠ (sess 2).comp :=
  ⟨⟨by decide, by decide⟩, by decide⟩
theorem wit_FramesRefused_seq : Reaches h6 { fr 2 [] with seq := 6 } (conn1 2) ∧ (6 : Nat) ≠ (sess 2).expected ∧
    (sess 2).window.find? (fun e => e.seq == 6) = none := ⟨⟨by decide, by decide⟩, by decide⟩
/-- A repeated request that is not over, and one that is and was cached. -/
theorem wit_FramesRefused_retry : let f : Frame := { fr 2 [] with seq := 4, flags := 4 }
    let x (d : Bool) : Session := { sess 2 with window := [entry 4 d d] }
    (∀ d, Reaches (withSess h6 (x d)) f (conn1 2) ∧ State.sessionOn (withSess h6 (x d)) 1 = some (x d) ∧
      (x d).window.find? (fun e => e.seq == f.seq.toNat) = some (entry 4 d d)) ∧ f.retry = true ∧ f.judge false = .good :=
  ⟨fun d => by cases d <;> exact ⟨⟨by decide, by decide⟩, by decide, by decide⟩, by decide, by decide⟩
/-- Eight outstanding requests, and seven. -/
def busy (n : Nat) : State := { h6 with waiters := List.replicate n ⟨1, 1, 0x0104, .start 2, false, 2⟩ }
theorem wit_FramesRefused_full : Reaches (busy 8) (fr 2 []) (conn1 2) ∧ 8 ≤ (busy 8).outstanding (sess 2) ∧
    (busy 7).outstanding (sess 2) < 8 ∧ Frame.seg { fr 2 [] with flags := 16 } ≠ 0 ∧
    Frame.judge { fr 2 [] with flags := 16 } false = .good := ⟨⟨by decide, by decide⟩, by decide⟩
theorem wit_FramesRefused_more : let f : Frame := { fr 2 [] with flags := 8, length := 16360 }
    Reaches h6 f (conn1 2) ∧ f.judge false = .good ∧ h6.session 1 = some (sess 2) ∧ f.more = true ∧ f.seg = 0 ∧ f.length.toNat = 16360 :=
  ⟨⟨by decide, by decide⟩, by decide⟩

/-! ### Sessions -/

/-- A client's handshake on port 0 in M6, where no connection has its number. -/
theorem wit_SessionOpening_tls : (at_ 6).listens 0 = true ∧ (1 : Nat) ≠ 0 ∧ ∀ c ∈ (at_ 6).conns, c.id ≠ 1 := by decide
/-- A TLS connection without a session, over which C02 may open one. -/
def calls : State := { h6 with sessions := [], lcy := { h6.lcy with state := 2 } }
theorem wit_SessionOpening_open : let a := calls.advance 0
    Reaches calls (fr 2 []) (conn1 2) ∧ (fr 2 []).judge false = .good ∧ calls.sessionOn 1 = none ∧ (fr 2 []).seg = 0 ∧ (fr 2 []).more = false ∧
    a.sessionAllowed 2 false = true ∧ (fr 2 []).payload = [] ∧ a.vlanCarries (conn1 2) 2 = true ∧ a.sessionRoom 2 false (2 ^ 64) = true :=
  ⟨⟨by decide, by decide⟩, by decide⟩
/-- The USB port with a challenge issued 30 s before, and a payload of one certificate byte and a signature. -/
def usbConn : Conn := { id := 0, usb := true, port := 6, vlan := none, comp := none, slot := 0, nonce := some (9, 0) }
def usbCalls : State :=
  { (calls.wr (Obj.KSE_SLOT_STATE.i 4) 1) with conns := [usbConn], floorTime := 30000000000, lcy := { calls.lcy with usbUntil := some (2 ^ 60) } }
def usbFrame : Frame := { fr 2 (List.replicate 97 1) with conn := 0, xfer := 121 }
theorem wit_SessionOpening_usb : let a := usbCalls.advance 0
    Reaches usbCalls usbFrame usbConn ∧ usbFrame.judge true = .good ∧ usbCalls.sessionOn 0 = none ∧ a.usbEnabled = true ∧
    a.sessionAllowed 2 true = true ∧ 96 < usbFrame.payload.length ∧ a.floorTime ≤ 0 + 30000000000 ∧ a.slotState 4 ≠ 0 ∧
    a.sessionRoom 2 true (2 ^ 64) = true := ⟨⟨by decide, by decide⟩, by decide +kernel⟩
/-- A session detached just short of a minute before. -/
def detached : Session := { sess 2 with conn := none, detachedAt := 0 }
theorem wit_SessionOpening_resume : let s : State := { calls with sessions := [detached], floorTime := 59999000000 }
    let f := fr 0xFF (le 8 1)
    Reaches s f (conn1 2) ∧ s.sessionOn 1 = none ∧ f.payload = le 8 detached.id ∧ s.session 1 = some detached ∧
    (conn1 2).comp = some 2 ∧ detached.conn = none ∧ detached.expired (s.advance 0).floorTime = false ∧
    (s.advance 0).sessionRoom 2 false 1 = true := ⟨⟨by decide, by decide⟩, by decide⟩

theorem adm (p : Bytes) (h : admittedB h6 (fr 2 p) (sess 2) (conn1 2) = true) : Admitted h6 (fr 2 p) (sess 2) := admitted_of _ h
theorem wit_SessionCommands_ping : Admitted h6 (fr 2 (List.replicate 64 1)) (sess 2) ∧ (fr 2 (List.replicate 64 1)).payload.length = 64 :=
  ⟨adm _ (by decide), by decide⟩
theorem wit_SessionCommands_empty : Admitted h6 (fr 2 []) (sess 2) ∧ (fr 2 []).payload = [] := ⟨adm _ (by decide), rfl⟩
/-- A request to cancel number 4: unknown, over, not cancellable, waiting. -/
def holds (e : List WinEntry) (w : List Waiter) : State := { withSess h6 { sess 2 with window := e } with waiters := w }
theorem wit_SessionCommands_cancel : let f := fr 2 (le 4 4)
    (∀ e ∈ [[], [entry 4 true true], [entry 4 false false]], Admitted (holds e []) f { sess 2 with window := e }) ∧
    Admitted (holds [entry 4 false false] [⟨1, 4, 0x0403, .hold 2, true, 2⟩]) f { sess 2 with window := [entry 4 false false] } ∧
    f.payload = le 4 4 ∧ (4 : Nat) ≠ 5 ∧
    ((holds [entry 4 false false] [⟨1, 4, 0x0403, .hold 2, true, 2⟩]).waiters.find? fun w => w.sid == 1 && w.seq == 4 && w.cancellable).isSome := by
  refine ⟨fun e h => ?_, admitted_of (conn1 2) (by decide), by decide, by decide, by decide⟩
  simp only [List.mem_cons, List.not_mem_nil, or_false] at h
  rcases h with rfl | rfl | rfl <;> exact admitted_of (conn1 2) (by decide)
theorem wit_SessionCommands_undefined : definedCodes.contains 0x0710 = false ∧ definedCodes.contains 0x0FFF = false := by decide

/-- The last instant at which an idle session lives, and the first at which it does not; the same when detached. -/
theorem wit_SessionEvents : h6.session 1 = some (sess 2) ∧ (sess 2).lastFrame + 300000000000 ≤ 300000000000 ∧
    299999999999 < (sess 2).lastFrame + 300000000000 ∧ 300000000000 % 1000000 = 0 ∧
    (withSess h6 detached).session 1 = some detached ∧ detached.detachedAt + 60000000000 ≤ 60000000000 := by decide
theorem wit_SessionEvents_notices : h6.session 1 = some (sess 2) ∧ (sess 2).conn = some 1 := by decide
/-- A slot filled for a session that is there, and for none. -/
theorem wit_SessionEvents_slots : let served : State := { h6 with mbx := { h6.mbx with slots := [(15, { state := 2, owner := 0, handle := 1 })] } }
    let dead : State := { h6 with mbx := { h6.mbx with slots := [(0, { state := 2, owner := 0, handle := 9 })] } }
    served.slotServed (served.mbx.slots.get {} 15) = true ∧ dead.slotServed (dead.mbx.slots.get {} 0) = false ∧
    (dead.mbx.slots.get {} 0).state = 2 ∧ served.mbx.fifo.length < 16 ∧ (h6.mbx.slots.get {} 11).state = 0 := by decide

/-! ### Objects -/

/-- A plain read of two words, one of a word hidden from a tenant, one of a word that is staged. -/
theorem wit_ObjectReads : let b := accepted h6 (fr 2 (le 4 0x20 ++ le 2 1 ++ le 2 0)) (sess 2) 0x0201 true
    Admitted h6 (fr 2 (le 4 0x20 ++ le 2 1 ++ le 2 0)) (sess 2) ∧ 5 ≤ h6.mode ∧ h6.mode ≤ 9 ∧ b.wordsStatus 2 [0x20] = 0 ∧
    inRtc 0x20 = false ∧ highHalf 0x20 = false ∧ lowHalf 0x20 = false ∧ b.wordsStatus 2 [0x2C] = 0x20 ∧ (h6.staging 2).cells = [] :=
  ⟨adm _ (by decide), by decide⟩
/-- The address of a watch entry is the one staged field of its word; a write staged it. -/
theorem wit_ObjectReads_staged : ∃ r idx, Obj.parts 0x33000 = [⟨r, idx, 0, 0⟩] ∧ r.width = 32 ∧ r.acc = .ws ∧
    stagedValue [(r.at 2 idx, 7)] (r.at 2 idx) = some 7 := ⟨_, _, rfl, by decide⟩
theorem wit_ObjectReads_stagedRead : let b := accepted h6 (fr 2 (le 4 0x33000 ++ le 2 1 ++ le 2 0)) (sess 2) 0x0301 true
    Admitted h6 (fr 2 (le 4 0x33000 ++ le 2 1 ++ le 2 0)) (sess 2) ∧ b.wordsStatus 2 [0x33000] = 0 := ⟨adm _ (by decide), by decide⟩
/-- Two groups of two words each. -/
theorem wit_ObjectReads_group : let l := [(0x20, 2), (0x110030, 2)]
    let p := le 2 l.length ++ le 2 0 ++ l.flatMap (fun e => le 4 e.1 ++ le 2 e.2 ++ le 2 0)
    let ws := l.flatMap fun e => wordsFrom e.1 e.2
    Admitted h6 (fr 2 p) (sess 2) ∧ (l.map (·.2)).sum ≤ 20450 ∧ (accepted h6 (fr 2 p) (sess 2) 0x0203 true).wordsStatus 2 ws = 0 ∧
    ∀ w ∈ ws, inRtc w = false := ⟨adm _ (by decide), by decide⟩

/-- A write of a read-only word, which is refused; of a flag; of a staged word, with and without a check running. -/
def wr1 (a v : Nat) : Bytes := le 4 a ++ le 2 1 ++ le 2 0 ++ le 4 v
def checking : State := { h6 with stagings := [(2, { state := 2 })] }
theorem wit_ObjectWrites : (∀ s ∈ [h6, checking], Admitted s (fr 2 (wr1 0x33004 5)) (sess 2)) ∧
    (∃ st p, (accepted h6 (fr 2 (wr1 0x20 5)) (sess 2) 0x0202 false).writeRefusal 2 [(0x20, [5])] = some (.fail st p)) ∧
    (accepted h6 (fr 2 (wr1 0x100008 5)) (sess 2) 0x0202 false).writeRefusal 2 [(0x100008, [5])] = none ∧
    (accepted checking (fr 2 (wr1 0x33004 5)) (sess 2) 0x0202 false).writeRefusal 2 [(0x33004, [5])] = none ∧
    (checking.staging 2).state = 2 := by
  refine ⟨fun s h => ?_, ⟨_, _, rfl⟩, by decide, by decide, by decide⟩
  simp only [List.mem_cons, List.not_mem_nil, or_false] at h
  rcases h with rfl | rfl <;> exact admitted_of (conn1 2) (by decide)
theorem wit_ObjectWrites_fields : let b := accepted checking (fr 2 (wr1 0x33004 5)) (sess 2) 0x0202 false
    (∃ y ∈ b.fieldsOf 2 [(0x33004, 5)], y.row.acc = .ws) ∧ (∀ y ∈ b.fieldsOf 2 [(0x33004, 5)], y.row ≠ Obj.UPD_SEALED_MOVE) ∧
    ∀ y ∈ b.fieldsOf 2 [(0x100008, 5)], y.row.acc ≠ .ws := by decide
/-- SCE_INST_SEL is a plain word; so are the flags of a program; so is a watch mask, which is staged. -/
theorem wit_ObjectWrites_plain : (plainWrite 2 0x10004C ∧ writes h6 2 0x10004C .ws = []) ∧ (plainWrite 2 0x100008 ∧ writes h6 2 0x100008 .ws = []) ∧
    plainWrite 2 0x33004 ∧ (∀ p ∈ h6.writable 2 0x33004, p.row.acc = .ws) ∧ h6.writable 2 0x33004 ≠ [] := by
  unfold plainWrite
  decide
theorem wit_ObjectWrites_reg : h6.live (.session 1) = true ∧ h6.compOf (.session 1) = 2 ∧
    (∃ st p, h6.writeRefusal 2 [(0x20, [5])] = some (.fail st p)) ∧ h6.writeRefusal 2 [(0x10004C, [5])] = none :=
  ⟨by decide, by decide, ⟨_, _, rfl⟩, by decide⟩
theorem wit_ObjectWrites_clear : h6.wordStatus 2 0x10034 = 0 ∧ inRtc 0x10034 = false ∧ highHalf 0x10034 = false ∧ h6.wordStatus 2 0x2C ≠ 0 ∧
    ∀ p ∈ Obj.parts 0x2C, p.row.acc ≠ .w1c := by decide

/-! ### Modes, power and boot -/

/-- The owner in a mode, in life-cycle state 2, with the presence window open. -/
def owner (m : Nat) : State := { hosted (at_ m) 0 with lcy := { (at_ m).lcy with state := 2, windowAt := some 0 } }
def moving (m to_ : Nat) : State := { owner m with power := { (owner m).power with transition := some { target := to_ } } }
theorem wit_ModeChanges_asks : (owner 6).live (.session 1) = true ∧ (owner 6).compOf (.session 1) = 0 ∧ (owner 6).power.transition = none ∧
    ((owner 6).mode, (9#4).toNat) ∈ askable ∧ (9#4).toNat ∈ modesOf (owner 6).lcy.state ∧ (owner 6).lcy.windowAt ≠ none ∧ (owner 6).d2 = false := by decide
theorem wit_ModeChanges_refused : (moving 6 3).power.transition ≠ none ∧ ((owner 5).mode, (2#4).toNat) ∉ askable := by decide
theorem wit_ModeChanges_release : (owner 9).power.transition = none ∧ (owner 9).mode = 9 ∧ (owner 9).power.m9Fails = 0 := by decide
def held16 : State := { owner 9 with power := { (owner 9).power with m9Fails := 2 ^ 16 }, regs := ((owner 9).wr Obj.PWR_UNIT_FAIL.f (2 ^ 16)).regs }
theorem wit_ModeChanges_releaseFailed : bit held16.power.m9Fails 16 = true ∧ held16.failed 16 = true := by decide
def held2 : State := { owner 9 with power := { (owner 9).power with m9Fails := 4 }, regs := ((owner 9).wr Obj.PWR_UNIT_FAIL.f 4).regs }
theorem wit_ModeChanges_releaseReduced : bit held2.power.m9Fails 2 = true ∧ held2.severe = false := by decide
theorem wit_ModeChanges_done : ∀ m ∈ [1, 2, 3, 5, 6, 7, 8, 9], (moving 6 m).power.transition = some { target := m, cold := false } ∧
    (moving 6 m).mte = none := by decide
/-- The last instant within the limit of M9, and the first beyond it. -/
theorem wit_ModeChanges_limit : let s : State := { owner 9 with power := { (owner 9).power with m9Entry := 0 } }
    s.mode = 9 ∧ s.power.transition = none ∧ s.power.m9Entry + 1000000000 * s.rd Obj.PWR_M9_LIMIT.f ≤ max s.floorTime 3600000000000 ∧
    max s.floorTime 3599999999999 < s.power.m9Entry + 1000000000 * s.rd Obj.PWR_M9_LIMIT.f := by decide

def pf (e m : Bool) : State := { at_ 10 with power := { (at_ 10).power with commitEnded := e, mainPresent := m } }
theorem wit_PowerEvents : (at_ 6).mode ∈ [2, 5, 6, 7, 8, 9] ∧ (at_ 3).mode ∈ [1, 3, 4, 11] ∧ (at_ 6).castlings = [] ∧
    ((pf false false).mode = 10 ∧ (pf false false).power.commitEnded = false ∧ (pf false false).power.mainPresent = false) := by decide
theorem wit_PowerEvents_return : let s : State := { at_ 0 with power := { (at_ 0).power with lastMode := 6, canaryA := true, canaryB := false } }
    let u : State := { at_ 0 with power := { (at_ 0).power with lastMode := 6 } }
    s.mode = 0 ∧ s.power.lastMode ≠ 1 ∧ s.power.canaryA = true ∧ s.power.canaryB = false ∧ u.power.canaryB = true := by decide
theorem wit_PowerEvents_unit : (at_ 6).mode ≠ 10 ∧ (at_ 6).power.transition = none ∧ (at_ 6).severe = false ∧ (at_ 6).failed 2 = false ∧
    (at_ 6).power.pllRetried = [] := by decide

def booting : State := { at_ 3 with power := { (at_ 3).power with cleared := true } }
theorem wit_BootEvents : (at_ 3).mode = 3 ∧ (at_ 3).power.cleared = false ∧ (at_ 3).failed 13 = false ∧ (at_ 3).castBoot = [] ∧
    booting.power.cleared = true ∧ booting.wipeDue = false ∧ (∀ b, b < 155 → bankMinimum b = true → booting.rd (Obj.MEM_BANK_FAILED.i b) ≠ 1) := by decide +kernel
theorem wit_BootEvents_wipe : let s : State := { booting with lcy := { booting.lcy with state := 2 } }
    s.mode = 3 ∧ s.power.cleared = true ∧ s.wipeDue = true ∧ s.lcy.state < 8 := by decide
def mains (m : Nat) : State := { owner m with power := { (owner m).power with mainPresent := true }, regs := ((at_ m).wr Obj.PWR_WAKE_EN.f 63).regs }
theorem wit_BootEvents_seconds : (mains 6).mode ≠ 0 ∧ (mains 6).power.mainPresent = true ∧ (at_ 0).mode = 0 := by decide
theorem wit_BootEvents_wakes : (mains 2).mode = 2 ∧ (mains 2).power.transition = none ∧ (mains 2).wakeEn 2 = true ∧ (mains 2).wakeEn 3 = true ∧
    (mains 2).failed 5 = false ∧ (mains 2).rd Obj.PWR_WAKE_CAUSE.f = 0 ∧ (mains 1).mode = 1 := by decide

end Sys2Proof.Tests
end

