-- ==== Sys2Proof/Tests/Quiet.lean ====
section
/-!
SUPPORT. A configuration that passes every consistency check: that of reset with the ports for tenants switched off. Evaluating the
checks reads some hundred thousand fields, so that it passes is proved from what one field reads.
-/
namespace Sys2Proof.Tests
set_option Elab.async false
open Sys2Proof.Machine Sys2Proof.Claims

/-- The bit addresses of fields that stand at reset: beyond IDENT_MODE, without the ageing monitor, keys, slots and the ports of the
switch, below PWR. -/
abbrev still (b : Nat) : Prop := 0x150 ≤ b ∧ b < 0x6000000 ∧ (b < 0x280000 ∨ 0x490000 ≤ b) ∧ (b < 0x5808000 ∨ 0x580C000 ≤ b)

theorem still_of (b : Nat) (h : 0x490000 ≤ b) (k : b < 0x5808000) : still b :=
  ⟨Nat.le_trans (by decide) h, Nat.lt_trans k (by decide), Or.inr h, Or.inl k⟩

theorem i_bit (r : Row) (n k i : Nat) (h : r.dims = [(n, k)]) : (r.i i).bit = 8 * (r.base + i * k) + r.lo := by simp [Row.i, Row.at, h]

structure Quiet (v : State) : Prop where
  far : ∀ f : Fld, still f.bit → v.rd f = f.reset
  port : ∀ p, 2 ≤ p → p ≤ 5 → v.rd (Obj.NSW_PORT_CFG_ENABLE.i p) = 0
  watch : v.rd Obj.PWR_WATCH_PORTS.f = 0
  progs : v.scan.progs = []

variable {v : State}

theorem Quiet.off (q : Quiet v) (f : Fld) (h : still f.bit) (r : f.reset = 0) : v.on f = false := by
  unfold State.on
  rw [q.far f h, r]
  rfl

theorem fails_of {α : Type} (code : Nat) (l : List α) (bad : α → Bool) (a : α → List Fld) (h : ∀ x ∈ l, bad x = false) : fails code l bad a = none := by
  unfold fails
  rw [List.find?_eq_none.2 fun x hx => by simp [h x hx]]
  rfl

theorem fails_nil {α : Type} (code : Nat) (bad : α → Bool) (a : α → List Fld) : fails code [] bad a = none := rfl

theorem fails_one (code : Nat) (bad : Unit → Bool) (a : Unit → List Fld) (h : bad () = false) : fails code [()] bad a = none :=
  fails_of _ _ _ _ fun _ _ => h

theorem filter_none {α : Type} (l : List α) (p : α → Bool) (h : ∀ x ∈ l, p x = false) : l.filter p = [] :=
  List.filter_eq_nil_iff.2 fun x hx => by simp [h x hx]

theorem flatMap_none {α β : Type} (l : List α) (f : α → List β) (h : ∀ x ∈ l, f x = []) : l.flatMap f = [] :=
  List.flatMap_eq_nil_iff.2 h

/-! ### What the fields that the checks read hold -/

theorem Quiet.CAST_COMP_EXIST (q : Quiet v) : v.rd (Obj.CAST_COMP_EXIST.f) = 3 :=
  q.far _ (by unfold still; decide)
theorem Quiet.CAST_SHARE_OWNER (q : Quiet v) (i : Nat) (hi : i < 2) : v.rd (Obj.CAST_SHARE_OWNER.i i) = 1000 :=
  q.far _ (by have e : (Obj.CAST_SHARE_OWNER.i i).bit = 8 * (0x11100 + i * 0x80) + 0 := rfl; rw [e]; unfold still; omega)
theorem Quiet.CAST_SHARE (q : Quiet v) (i : Nat) (hi : i < 2) (j : Nat) (hj : j < 33) : v.rd (Obj.CAST_SHARE.ij i j) = 0 :=
  q.far _ (by have e : (Obj.CAST_SHARE.ij i j).bit = 8 * (0x11102 + i * 0x80 + j * 0x2) + 0 := rfl; rw [e]; unfold still; omega)
theorem Quiet.CAST_OWN_PT (q : Quiet v) (i : Nat) (hi : i < 8192) : v.rd (Obj.CAST_OWN_PT.i i) = 0 :=
  q.far _ (by have e : (Obj.CAST_OWN_PT.i i).bit = 8 * (0x12000 + i * 0x1) + 0 := rfl; rw [e]; unfold still; omega)
theorem Quiet.MAE_CIRC_ENABLE (q : Quiet v) (i : Nat) (hi : i < 192) : v.rd (Obj.MAE_CIRC_ENABLE.i i) = 0 :=
  q.far _ (by have e : (Obj.MAE_CIRC_ENABLE.i i).bit = 8 * (0x440000 + i * 0x20) + 0 := rfl; rw [e]; unfold still; omega)
theorem Quiet.MAE_CH_ENABLE (q : Quiet v) (i : Nat) (hi : i < 192) : v.rd (Obj.MAE_CH_ENABLE.i i) = 0 :=
  q.far _ (by have e : (Obj.MAE_CH_ENABLE.i i).bit = 8 * (0x420000 + i * 0x40) + 0 := rfl; rw [e]; unfold still; omega)
theorem Quiet.MAE_PULSE_ENABLE (q : Quiet v) (i : Nat) (hi : i < 8) : v.rd (Obj.MAE_PULSE_ENABLE.i i) = 0 :=
  q.far _ (by have e : (Obj.MAE_PULSE_ENABLE.i i).bit = 8 * (0x462000 + i * 0x40) + 0 := rfl; rw [e]; unfold still; omega)
theorem Quiet.LBX_PORT_OWNER (q : Quiet v) (i : Nat) (hi : i < 16) : v.rd (Obj.LBX_PORT_OWNER.i i) = 0 :=
  q.far _ (by have e : (Obj.LBX_PORT_OWNER.i i).bit = 8 * (0xa00000 + i * 0x100) + 8 := rfl; rw [e]; unfold still; omega)
theorem Quiet.LBX_PORT_MODE (q : Quiet v) (i : Nat) (hi : i < 16) : v.rd (Obj.LBX_PORT_MODE.i i) = 0 :=
  q.far _ (by have e : (Obj.LBX_PORT_MODE.i i).bit = 8 * (0xa00000 + i * 0x100) + 0 := rfl; rw [e]; unfold still; omega)
theorem Quiet.LBX_MAP_ENABLE (q : Quiet v) (i : Nat) (hi : i < 2048) : v.rd (Obj.LBX_MAP_ENABLE.i i) = 0 :=
  q.far _ (by have e : (Obj.LBX_MAP_ENABLE.i i).bit = 8 * (0xa08000 + i * 0x10) + 13 := rfl; rw [e]; unfold still; omega)
theorem Quiet.MAE_MAP_ENABLE (q : Quiet v) (i : Nat) (hi : i < 512) : v.rd (Obj.MAE_MAP_ENABLE.i i) = 0 :=
  q.far _ (by have e : (Obj.MAE_MAP_ENABLE.i i).bit = 8 * (0x464000 + i * 0x8) + 13 := rfl; rw [e]; unfold still; omega)
theorem Quiet.MAE_SEAL_ENABLE (q : Quiet v) (i : Nat) (hi : i < 34) : v.rd (Obj.MAE_SEAL_ENABLE.i i) = 0 :=
  q.far _ (by have e : (Obj.MAE_SEAL_ENABLE.i i).bit = 8 * (0x4d0000 + i * 0x40) + 0 := rfl; rw [e]; unfold still; omega)
theorem Quiet.MAE_SEAL_CIRC (q : Quiet v) (i : Nat) (hi : i < 6) : v.rd (Obj.MAE_SEAL_CIRC.i i) = 0 :=
  q.far _ (by have e : (Obj.MAE_SEAL_CIRC.i i).bit = 8 * (0x4d1000 + i * 0x4) + 0 := rfl; rw [e]; unfold still; omega)
theorem Quiet.MAE_LATCH_N (q : Quiet v) : v.rd (Obj.MAE_LATCH_N.f) = 50 :=
  q.far _ (by unfold still; decide)
theorem Quiet.MAE_F_NOM (q : Quiet v) : v.rd (Obj.MAE_F_NOM.f) = 50 :=
  q.far _ (by unfold still; decide)
theorem Quiet.FBC_MAP_ENABLE (q : Quiet v) (i : Nat) (hi : i < 24) (j : Nat) (hj : j < 512) : v.rd (Obj.FBC_MAP_ENABLE.ij i j) = 0 :=
  q.far _ (by have e : (Obj.FBC_MAP_ENABLE.ij i j).bit = 8 * (0x80c000 + i * 0x10000 + j * 0x8) + 13 := rfl; rw [e]; unfold still; omega)
theorem Quiet.FBC_RNG_ENABLE (q : Quiet v) (i : Nat) (hi : i < 24) (j : Nat) (hj : j < 16) : v.rd (Obj.FBC_RNG_ENABLE.ij i j) = 0 :=
  q.far _ (by have e : (Obj.FBC_RNG_ENABLE.ij i j).bit = 8 * (0x800200 + i * 0x10000 + j * 0x10) + 30 := rfl; rw [e]; unfold still; omega)
theorem Quiet.FBC_FLT_ENABLE (q : Quiet v) (i : Nat) (hi : i < 24) (j : Nat) (hj : j < 64) : v.rd (Obj.FBC_FLT_ENABLE.ij i j) = 0 :=
  q.far _ (by have e : (Obj.FBC_FLT_ENABLE.ij i j).bit = 8 * (0x80a000 + i * 0x10000 + j * 0x10) + 30 := rfl; rw [e]; unfold still; omega)
theorem Quiet.FBC_TXB_BIND_ENABLE (q : Quiet v) (i : Nat) (hi : i < 24) (j : Nat) (hj : j < 32) : v.rd (Obj.FBC_TXB_BIND_ENABLE.ij i j) = 0 :=
  q.far _ (by have e : (Obj.FBC_TXB_BIND_ENABLE.ij i j).bit = 8 * (0x801000 + i * 0x10000 + j * 0x80) + 30 := rfl; rw [e]; unfold still; omega)
theorem Quiet.NSW_VLAN_ENABLE (q : Quiet v) (i : Nat) (hi : i < 64) : v.rd (Obj.NSW_VLAN_ENABLE.i i) = 0 :=
  q.far _ (by have e : (Obj.NSW_VLAN_ENABLE.i i).bit = 8 * (0xb02000 + i * 0x20) + 12 := rfl; rw [e]; unfold still; omega)
theorem Quiet.NSW_SE_ENABLE (q : Quiet v) (i : Nat) (hi : i < 4096) : v.rd (Obj.NSW_SE_ENABLE.i i) = 0 :=
  q.far _ (by have e : (Obj.NSW_SE_ENABLE.i i).bit = 8 * (0xb08000 + i * 0x10) + 13 := rfl; rw [e]; unfold still; omega)
theorem Quiet.EVR_AREA_FIRST_BLK_BASE (q : Quiet v) (i : Nat) (hi : i < 2) : v.rd (Obj.EVR_AREA_FIRST_BLK_BASE.i i) = 64 :=
  q.far _ (by have e : (Obj.EVR_AREA_FIRST_BLK_BASE.i i).bit = 8 * (0x38000 + i * 0x10) + 0 := rfl; rw [e]; unfold still; omega)
theorem Quiet.EVR_AREA_LAST_BLK_BASE (q : Quiet v) (i : Nat) (hi : i < 2) : v.rd (Obj.EVR_AREA_LAST_BLK_BASE.i i) = 448 :=
  q.far _ (by have e : (Obj.EVR_AREA_LAST_BLK_BASE.i i).bit = 8 * (0x38000 + i * 0x10) + 16 := rfl; rw [e]; unfold still; omega)
theorem Quiet.MAE_SAG_START (q : Quiet v) : v.rd (Obj.MAE_SAG_START.f) = 900 :=
  q.far _ (by unfold still; decide)
theorem Quiet.MAE_SAG_END (q : Quiet v) : v.rd (Obj.MAE_SAG_END.f) = 920 :=
  q.far _ (by unfold still; decide)
theorem Quiet.MAE_SWELL_START (q : Quiet v) : v.rd (Obj.MAE_SWELL_START.f) = 1100 :=
  q.far _ (by unfold still; decide)
theorem Quiet.MAE_SWELL_END (q : Quiet v) : v.rd (Obj.MAE_SWELL_END.f) = 1080 :=
  q.far _ (by unfold still; decide)
theorem Quiet.MAE_LOSS_START (q : Quiet v) : v.rd (Obj.MAE_LOSS_START.f) = 100 :=
  q.far _ (by unfold still; decide)
theorem Quiet.MAE_LOSS_END (q : Quiet v) : v.rd (Obj.MAE_LOSS_END.f) = 120 :=
  q.far _ (by unfold still; decide)
theorem Quiet.FBC_NBT_NTSEG1 (q : Quiet v) (i : Nat) (hi : i < 24) : v.rd (Obj.FBC_NBT_NTSEG1.i i) = 69 :=
  q.far _ (by have e : (Obj.FBC_NBT_NTSEG1.i i).bit = 8 * (0x800004 + i * 0x10000) + 16 := i_bit _ 24 0x10000 i rfl; rw [e]; exact still_of _ (by omega) (by omega))
theorem Quiet.FBC_NBT2_NTSEG2 (q : Quiet v) (i : Nat) (hi : i < 24) : v.rd (Obj.FBC_NBT2_NTSEG2.i i) = 10 :=
  q.far _ (by have e : (Obj.FBC_NBT2_NTSEG2.i i).bit = 8 * (0x800008 + i * 0x10000) + 0 := i_bit _ 24 0x10000 i rfl; rw [e]; exact still_of _ (by omega) (by omega))
theorem Quiet.FBC_NBT2_NSJW (q : Quiet v) (i : Nat) (hi : i < 24) : v.rd (Obj.FBC_NBT2_NSJW.i i) = 10 :=
  q.far _ (by have e : (Obj.FBC_NBT2_NSJW.i i).bit = 8 * (0x800008 + i * 0x10000) + 8 := i_bit _ 24 0x10000 i rfl; rw [e]; exact still_of _ (by omega) (by omega))
theorem Quiet.FBC_NBT_NBRP (q : Quiet v) (i : Nat) (hi : i < 24) : v.rd (Obj.FBC_NBT_NBRP.i i) = 8 :=
  q.far _ (by have e : (Obj.FBC_NBT_NBRP.i i).bit = 8 * (0x800004 + i * 0x10000) + 0 := i_bit _ 24 0x10000 i rfl; rw [e]; exact still_of _ (by omega) (by omega))
theorem Quiet.FBC_CFG_FD_EN (q : Quiet v) (i : Nat) (hi : i < 24) : v.rd (Obj.FBC_CFG_FD_EN.i i) = 0 :=
  q.far _ (by have e : (Obj.FBC_CFG_FD_EN.i i).bit = 8 * (0x800000 + i * 0x10000) + 1 := i_bit _ 24 0x10000 i rfl; rw [e]; exact still_of _ (by omega) (by omega))
theorem Quiet.FBC_CFG_TDC_EN (q : Quiet v) (i : Nat) (hi : i < 24) : v.rd (Obj.FBC_CFG_TDC_EN.i i) = 0 :=
  q.far _ (by have e : (Obj.FBC_CFG_TDC_EN.i i).bit = 8 * (0x800000 + i * 0x10000) + 5 := i_bit _ 24 0x10000 i rfl; rw [e]; exact still_of _ (by omega) (by omega))
theorem Quiet.FBC_CFG_TRIPLE (q : Quiet v) (i : Nat) (hi : i < 24) : v.rd (Obj.FBC_CFG_TRIPLE.i i) = 0 :=
  q.far _ (by have e : (Obj.FBC_CFG_TRIPLE.i i).bit = 8 * (0x800000 + i * 0x10000) + 4 := i_bit _ 24 0x10000 i rfl; rw [e]; exact still_of _ (by omega) (by omega))
theorem Quiet.FBC_CFG_LISTEN (q : Quiet v) (i : Nat) (hi : i < 24) : v.rd (Obj.FBC_CFG_LISTEN.i i) = 0 :=
  q.far _ (by have e : (Obj.FBC_CFG_LISTEN.i i).bit = 8 * (0x800000 + i * 0x10000) + 6 := i_bit _ 24 0x10000 i rfl; rw [e]; exact still_of _ (by omega) (by omega))
theorem Quiet.FBC_FIFO_SIZE (q : Quiet v) (i : Nat) (hi : i < 24) (j : Nat) (hj : j < 8) : v.rd (Obj.FBC_FIFO_SIZE.ij i j) = 0 :=
  q.far _ (by have e : (Obj.FBC_FIFO_SIZE.ij i j).bit = 8 * (0x808000 + i * 0x10000 + j * 0x40) + 8 := rfl; rw [e]; unfold still; omega)
theorem Quiet.FBC_FIFO_OWNER (q : Quiet v) (i : Nat) (hi : i < 24) (j : Nat) (hj : j < 8) : v.rd (Obj.FBC_FIFO_OWNER.ij i j) = 254 :=
  q.far _ (by have e : (Obj.FBC_FIFO_OWNER.ij i j).bit = 8 * (0x808000 + i * 0x10000 + j * 0x40) + 0 := rfl; rw [e]; unfold still; omega)
theorem Quiet.FBC_FLT_OWNER (q : Quiet v) (i : Nat) (hi : i < 24) (j : Nat) (hj : j < 64) : v.rd (Obj.FBC_FLT_OWNER.ij i j) = 254 :=
  q.far _ (by have e : (Obj.FBC_FLT_OWNER.ij i j).bit = 8 * (0x80a008 + i * 0x10000 + j * 0x10) + 8 := rfl; rw [e]; unfold still; omega)
theorem Quiet.FBC_MAP_OWNER (q : Quiet v) (i : Nat) (hi : i < 24) (j : Nat) (hj : j < 512) : v.rd (Obj.FBC_MAP_OWNER.ij i j) = 254 :=
  q.far _ (by have e : (Obj.FBC_MAP_OWNER.ij i j).bit = 8 * (0x80c000 + i * 0x10000 + j * 0x8) + 16 := rfl; rw [e]; unfold still; omega)
theorem Quiet.FBC_FLT_TO_FIFO (q : Quiet v) (i : Nat) (hi : i < 24) (j : Nat) (hj : j < 64) : v.rd (Obj.FBC_FLT_TO_FIFO.ij i j) = 0 :=
  q.far _ (by have e : (Obj.FBC_FLT_TO_FIFO.ij i j).bit = 8 * (0x80a008 + i * 0x10000 + j * 0x10) + 3 := rfl; rw [e]; unfold still; omega)
theorem Quiet.FBC_TXB_FRAME_FDF (q : Quiet v) (i : Nat) (hi : i < 24) (j : Nat) (hj : j < 32) : v.rd (Obj.FBC_TXB_FRAME_FDF.ij i j) = 0 :=
  q.far _ (by have e : (Obj.FBC_TXB_FRAME_FDF.ij i j).bit = 8 * (0x801004 + i * 0x10000 + j * 0x80) + 4 := rfl; rw [e]; unfold still; omega)
theorem Quiet.FBC_TXB_FRAME_BRS (q : Quiet v) (i : Nat) (hi : i < 24) (j : Nat) (hj : j < 32) : v.rd (Obj.FBC_TXB_FRAME_BRS.ij i j) = 0 :=
  q.far _ (by have e : (Obj.FBC_TXB_FRAME_BRS.ij i j).bit = 8 * (0x801004 + i * 0x10000 + j * 0x80) + 5 := rfl; rw [e]; unfold still; omega)
theorem Quiet.FBC_TXB_FRAME_RTR (q : Quiet v) (i : Nat) (hi : i < 24) (j : Nat) (hj : j < 32) : v.rd (Obj.FBC_TXB_FRAME_RTR.ij i j) = 0 :=
  q.far _ (by have e : (Obj.FBC_TXB_FRAME_RTR.ij i j).bit = 8 * (0x801004 + i * 0x10000 + j * 0x80) + 6 := rfl; rw [e]; unfold still; omega)
theorem Quiet.FBC_TXB_CTRL_OWNER (q : Quiet v) (i : Nat) (hi : i < 24) (j : Nat) (hj : j < 32) : v.rd (Obj.FBC_TXB_CTRL_OWNER.ij i j) = 254 :=
  q.far _ (by have e : (Obj.FBC_TXB_CTRL_OWNER.ij i j).bit = 8 * (0x801008 + i * 0x10000 + j * 0x80) + 0 := rfl; rw [e]; unfold still; omega)

/-! ### What is enabled -/

theorem Quiet.exist (q : Quiet v) (c : Nat) : v.exists? c = decide (c < 2) := by
  unfold State.exists?
  rw [q.CAST_COMP_EXIST]
  by_cases h : c < 2
  · simp [h]; omega
  · by_cases k : c < 34
    · have : ∀ c : Fin 34, ¬ c.val < 2 → bit 3 c.val = false := by decide
      simp [h, k, this ⟨c, k⟩ h]
    · simp [h, k]
theorem Quiet.compartments (q : Quiet v) : v.compartments = [0, 1] := by
  unfold State.compartments
  rw [funext q.exist]
  decide
theorem Quiet.tenants (q : Quiet v) : v.tenants = [] := by
  simp only [State.tenants, q.exist]
  decide
theorem Quiet.prog (q : Quiet v) (c : Nat) : v.prog c = {} := by
  unfold State.prog
  rw [q.progs]
  rfl
theorem Quiet.tasks (q : Quiet v) (c : Nat) : v.tasksOf c = [] := by
  unfold State.tasksOf
  rw [q.prog]
theorem Quiet.imgs (q : Quiet v) (c : Nat) : v.images c = [] := by
  unfold State.images
  rw [q.prog]
  rfl
theorem mem_ports {p : Nat} (h : p ∈ allPorts) : p < 24 := List.mem_range.1 h
theorem Quiet.maps (q : Quiet v) (p : Nat) (h : p ∈ allPorts) : (List.range 512).filter (v.mapOn p) = [] :=
  filter_none _ _ fun m hm => by
    unfold State.mapOn State.on
    rw [q.FBC_MAP_ENABLE p (mem_ports h) m (List.mem_range.1 hm)]
    rfl
theorem Quiet.allMaps (q : Quiet v) : v.mapsOn = [] := flatMap_none _ _ fun p h => by rw [q.maps p h]; rfl
theorem Quiet.lmaps (q : Quiet v) : (List.range 2048).filter v.lmapOn = [] :=
  filter_none _ _ fun m hm => by
    unfold State.lmapOn State.on
    rw [q.LBX_MAP_ENABLE m (List.mem_range.1 hm)]
    rfl
theorem Quiet.emaps (q : Quiet v) : ((List.range 512).filter fun m => v.on (Obj.MAE_MAP_ENABLE.i m)) = [] :=
  filter_none _ _ fun m hm => by
    unfold State.on
    rw [q.MAE_MAP_ENABLE m (List.mem_range.1 hm)]
    rfl
theorem Quiet.chans (q : Quiet v) : v.chansOn = [] :=
  filter_none _ _ fun m hm => by
    unfold State.chanOn State.on
    rw [q.MAE_CH_ENABLE m (List.mem_range.1 hm)]
    rfl
theorem Quiet.circs (q : Quiet v) : v.circsOn = [] :=
  filter_none _ _ fun m hm => by
    unfold State.circOn State.on
    rw [q.MAE_CIRC_ENABLE m (List.mem_range.1 hm)]
    rfl
theorem Quiet.vlans (q : Quiet v) : v.vlansOn = [] :=
  filter_none _ _ fun m hm => by
    unfold State.on
    rw [q.NSW_VLAN_ENABLE m (List.mem_range.1 hm)]
    rfl
theorem Quiet.services (q : Quiet v) : v.servicesOn = [] :=
  filter_none _ _ fun m hm => by
    unfold State.on
    rw [q.NSW_SE_ENABLE m (List.mem_range.1 hm)]
    rfl
theorem Quiet.ranges (q : Quiet v) (p : Nat) (h : p ∈ allPorts) : v.rangesOn p = [] :=
  filter_none _ _ fun m hm => by
    unfold State.on
    rw [q.FBC_RNG_ENABLE p (mem_ports h) m (List.mem_range.1 hm)]
    rfl
theorem Quiet.rpairs (q : Quiet v) : v.rangePairs = [] := flatMap_none _ _ fun p h => by rw [q.ranges p h]; rfl
theorem Quiet.bufs (q : Quiet v) (p : Nat) (h : p ∈ allPorts) : (List.range 32).filter (v.bufOn p) = [] :=
  filter_none _ _ fun m hm => by
    unfold State.bufOn State.on
    rw [q.FBC_TXB_BIND_ENABLE p (mem_ports h) m (List.mem_range.1 hm)]
    rfl
theorem Quiet.pulses (q : Quiet v) : ((List.range 8).filter fun n => v.on (Obj.MAE_PULSE_ENABLE.i n)) = [] :=
  filter_none _ _ fun m hm => by
    unfold State.on
    rw [q.MAE_PULSE_ENABLE m (List.mem_range.1 hm)]
    rfl
theorem Quiet.seals (q : Quiet v) (c : Nat) (h : c < 34) : v.on (Obj.MAE_SEAL_ENABLE.i c) = false := by
  unfold State.on
  rw [q.MAE_SEAL_ENABLE c h]
  rfl
theorem Quiet.task (q : Quiet v) (c i : Nat) (_ : c < 34) (hi : i < 32) : v.on (Obj.SCE_TASK_CFG_ENABLE.bij c (i / 16) (i % 16)) = false :=
  q.off _ (by
    have e : (Obj.SCE_TASK_CFG_ENABLE.bij c (i / 16) (i % 16)).bit = 8 * (0x110000 + i / 16 * 0x1000 + i % 16 * 0x100) + 0 := rfl
    rw [e]
    exact still_of _ (by omega) (by omega)) rfl
theorem Quiet.entries (q : Quiet v) : v.entries = [] := by
  unfold State.entries
  rw [q.compartments]
  refine flatMap_none _ _ fun c h => ?_
  have hc : c < 34 := by simp at h; omega
  rw [filter_none _ _ fun i hi => q.task c i hc (List.mem_range.1 hi)]
  rfl
theorem Quiet.noSources (q : Quiet v) : v.sources = [] := by
  unfold State.sources
  rw [flatMap_none _ _ fun c _ => by rw [q.tasks]; rfl, q.emaps,
    flatMap_none allPorts _ fun p h => by
      rw [filter_none _ _ fun m hm => by unfold State.mapOn State.on; rw [q.FBC_MAP_ENABLE p (mem_ports h) m (List.mem_range.1 hm)]; rfl]; rfl,
    filter_none _ _ fun m hm => by unfold State.lmapOn State.on; rw [q.LBX_MAP_ENABLE m (List.mem_range.1 hm)]; rfl]
  rfl

/-! ### The checks -/

theorem Quiet.r0101 (q : Quiet v) : rule0101 v = none := by
  unfold rule0101
  rw [fails_of _ _ _ _ fun p h => by unfold State.ownerPt; rw [q.CAST_OWN_PT p (List.mem_range.1 h), q.exist]; rfl, q.circs, fails_nil,
    fails_of _ (List.range 8) _ _ fun n h => by unfold State.on; rw [q.MAE_PULSE_ENABLE n (List.mem_range.1 h)]; rfl,
    fails_of _ (List.range 16) _ _ fun p h => by rw [q.LBX_PORT_OWNER p (List.mem_range.1 h), q.exist]; rfl]
  rfl
theorem Quiet.r0102 (q : Quiet v) : rule0102 v = none := by
  unfold rule0102
  rw [q.noSources]
  rfl
theorem Quiet.r0103 (q : Quiet v) : rule0103 v = none := by
  unfold rule0103
  rw [flatMap_none v.compartments _ fun c _ => by rw [q.tasks]; rfl, flatMap_none allPorts _ fun p h => by rw [q.maps p h]; rfl,
    q.lmaps, q.emaps, q.pulses]
  rfl
theorem Quiet.r0104 (q : Quiet v) : rule0104 v = none := by
  unfold rule0104
  simp only [q.entries]
  rfl
theorem Quiet.shares (q : Quiet v) (e : Nat) (h : e < 2) : total (allComps.map (v.share e)) = 1000 := by
  have k : allComps.map (v.share e) = 1000 :: List.replicate 33 0 := by
    have : ∀ c ∈ allComps, v.share e c = if c = 0 then 1000 else 0 := fun c hc => by
      unfold State.share
      have hc : c < 34 := List.mem_range.1 hc
      split
      · rw [q.CAST_SHARE_OWNER e h]
      · rw [q.CAST_SHARE e h (c - 1) (by omega)]
    rw [List.map_congr_left this]
    decide
  rw [k]
  decide
theorem Quiet.r0105 (q : Quiet v) : rule0105 v = none := by
  unfold rule0105
  rw [fails_of _ _ _ _ fun e h => by rw [q.shares e (by simp at h; omega)]; rfl, q.entries]
  rfl
theorem Quiet.r0106 (q : Quiet v) : rule0106 v = none := by
  unfold rule0106
  simp only [q.entries]
  rfl
theorem Quiet.r0107 (q : Quiet v) : rule0107 v = none := by
  unfold rule0107
  simp only [q.entries, q.watch]
  rfl
theorem Quiet.r0108 (q : Quiet v) : rule0108 v = none := by
  have k : allComps.map v.instCount = List.replicate 34 0 := by
    rw [List.map_congr_left (g := fun _ => 0) fun c _ => by unfold State.instCount; rw [q.prog]]
    decide
  unfold rule0108
  rw [k, flatMap_none _ _ fun c _ => by rw [q.imgs]; rfl]
  exact fails_one _ _ _ (by decide)
theorem Quiet.r0109 (q : Quiet v) : rule0109 v = none := by
  unfold rule0109
  exact fails_of _ _ _ _ fun e _ => by rw [flatMap_none _ _ fun c _ => by rw [q.imgs]; rfl]; decide
theorem Quiet.r010A (q : Quiet v) : rule010A v = none := by
  have k : (allComps.map fun c => ((v.prog c).cur.map fun g => g.image.retainBytes).getD 0) = List.replicate 34 0 := by
    rw [List.map_congr_left (g := fun _ => 0) fun c _ => by rw [q.prog]; rfl]
    decide
  unfold rule010A
  rw [k]
  exact fails_one _ _ _ (by decide)
theorem Quiet.r010B (q : Quiet v) : rule010B v = none := by unfold rule010B; rw [q.rpairs]; rfl
theorem Quiet.r010C (q : Quiet v) : rule010C v = none := by
  unfold rule010C
  rw [flatMap_none allPorts _ fun p h => by
      rw [filter_none _ _ fun k hk => by unfold State.on; rw [q.FBC_FLT_ENABLE p (mem_ports h) k (List.mem_range.1 hk)]; rfl]; rfl,
    flatMap_none allPorts _ fun p h => by rw [q.bufs p h]; rfl]
  rfl
theorem Quiet.r010D (q : Quiet v) : rule010D v = none := by unfold rule010D; rw [q.chans]; rfl
theorem Quiet.r010E (q : Quiet v) : rule010E v = none := by unfold rule010E; rw [q.circs]; rfl
theorem Quiet.r010F (q : Quiet v) : rule010F v = none := by unfold rule010F; rw [q.vlans]; rfl
theorem Quiet.r0110 (q : Quiet v) : rule0110 v = none := by
  unfold rule0110
  have g : allComps.filter (fun c => ! v.exists? c) = (List.range 34).drop 2 := by
    rw [List.filter_congr (q := fun c => ! decide (c < 2)) fun c _ => by rw [q.exist]]
    decide
  simp only [g]
  rw [q.CAST_COMP_EXIST, fails_one _ _ _ (by decide),
    fails_of _ (((List.range 34).drop 2).flatMap fun c => [(c, 0), (c, 1)]) _ _ fun x h => by
      have : 2 ≤ x.1 ∧ x.1 < 34 ∧ x.2 < 2 := by revert x; decide
      unfold State.share
      rw [if_neg (by omega), q.CAST_SHARE x.2 this.2.2 (x.1 - 1) (by omega)]
      rfl,
    flatMap_none allPorts _ fun p h => by rw [q.ranges p h]; rfl,
    fails_of _ ((List.range 34).drop 2) _ _ fun c h => q.seals c (by revert c; decide)]
  rfl
theorem Quiet.blocks (q : Quiet v) (c : Nat) (h : c < 2) : v.firstBlk c = 64 ∧ v.lastBlk c = 448 := by
  unfold State.firstBlk State.lastBlk
  rw [if_pos h, if_pos h, q.EVR_AREA_FIRST_BLK_BASE c h, q.EVR_AREA_LAST_BLK_BASE c h]
  exact ⟨rfl, rfl⟩
theorem Quiet.r0111 (q : Quiet v) : rule0111 v = none := by
  unfold rule0111
  simp only [q.compartments, List.map_cons, List.map_nil, (q.blocks 0 (by decide)).1, (q.blocks 0 (by decide)).2,
    (q.blocks 1 (by decide)).1, (q.blocks 1 (by decide)).2]
  rw [fails_one _ _ _ (by decide), fails_of _ _ _ _ fun c h => by
    have h : c < 2 := by revert c; decide
    rw [(q.blocks c h).1, (q.blocks c h).2]
    rfl]
  rfl
theorem Quiet.r0112 (q : Quiet v) : rule0112 v = none := by
  unfold rule0112
  rw [filter_none allComps _ fun c h => q.seals c (List.mem_range.1 h), filter_none (List.range 192) _ fun i h => by
    rw [q.MAE_SEAL_CIRC (i / 32) (by have := List.mem_range.1 h; omega)]
    simp [bit]]
  rfl
theorem Quiet.r0113 (q : Quiet v) : rule0113 v = none := by
  unfold rule0113
  exact fails_one _ _ _ (by rw [q.MAE_LATCH_N]; rfl)
theorem Quiet.t46 (q : Quiet v) : firstFailure table46 v = none := by
  simp only [firstFailure, table46, List.findSome?_cons, List.findSome?_nil, q.r0101, q.r0102, q.r0103, q.r0104, q.r0105, q.r0106, q.r0107,
    q.r0108, q.r0109, q.r010A, q.r010B, q.r010C, q.r010D, q.r010E, q.r010F, q.r0110, q.r0111, q.r0112, q.r0113]
theorem Quiet.r0510 (q : Quiet v) : rule0510 v = none := by
  unfold rule0510
  rw [q.MAE_SAG_START, q.MAE_SAG_END, q.MAE_SWELL_END, q.MAE_SWELL_START, q.MAE_LOSS_START, q.MAE_LOSS_END]
  exact fails_one _ _ _ (by decide)
theorem Quiet.r0601 (q : Quiet v) : rule0601 v = none := by
  unfold rule0601
  exact fails_of _ _ _ _ fun p h => by
    have h := mem_ports h
    unfold State.nclk State.ntq
    rw [q.FBC_NBT_NTSEG1 p h, q.FBC_NBT2_NTSEG2 p h, q.FBC_NBT2_NSJW p h, q.FBC_NBT_NBRP p h]
    decide
theorem Quiet.flag (q : Quiet v) (p : Nat) (h : p < 24) : v.on (Obj.FBC_CFG_FD_EN.i p) = false ∧ v.on (Obj.FBC_CFG_TDC_EN.i p) = false ∧
    v.on (Obj.FBC_CFG_TRIPLE.i p) = false ∧ v.on (Obj.FBC_CFG_LISTEN.i p) = false := by
  unfold State.on
  rw [q.FBC_CFG_FD_EN p h, q.FBC_CFG_TDC_EN p h, q.FBC_CFG_TRIPLE p h, q.FBC_CFG_LISTEN p h]
  decide
theorem Quiet.r0602 (q : Quiet v) : rule0602 v = none := by
  unfold rule0602
  exact fails_of _ _ _ _ fun p h => by rw [(q.flag p (mem_ports h)).1]; rfl
theorem Quiet.r0603 (q : Quiet v) : rule0603 v = none := by
  unfold rule0603
  exact fails_of _ _ _ _ fun p h => by rw [(q.flag p (mem_ports h)).1, (q.flag p (mem_ports h)).2.1]; rfl
theorem Quiet.r0604 (q : Quiet v) : rule0604 v = none := by
  unfold rule0604
  exact fails_of _ _ _ _ fun p h => by rw [(q.flag p (mem_ports h)).2.2.1]; rfl
theorem Quiet.r0605 (q : Quiet v) : rule0605 v = none := by
  unfold rule0605
  rw [fails_of _ allPorts _ _ fun p h => by
      have h := mem_ports h
      have k : ∀ k ∈ List.range 8, v.rd (Obj.FBC_FIFO_SIZE.ij p k) = 0 := fun k hk => q.FBC_FIFO_SIZE p h k (List.mem_range.1 hk)
      rw [List.map_congr_left k, List.any_eq_false.2 fun x hx => by rw [k x hx]; simp]
      decide,
    flatMap_none allPorts _ fun p h => by
      rw [filter_none _ _ fun k hk => by unfold State.on; rw [q.FBC_FLT_TO_FIFO p (mem_ports h) k (List.mem_range.1 hk)]; rfl]; rfl]
  rfl
theorem Quiet.r0606 (q : Quiet v) : rule0606 v = none := by
  unfold rule0606
  rw [flatMap_none allPorts _ fun p h => by rw [q.bufs p h]; rfl, fails_nil, fails_of _ _ _ _ fun x h => by
    obtain ⟨p, hp, h⟩ := List.mem_flatMap.1 h
    obtain ⟨b, hb, rfl⟩ := List.mem_map.1 h
    have hp := mem_ports hp
    have hb := List.mem_range.1 hb
    unfold State.bufBad State.bufOn
    rw [(q.flag p hp).2.2.2]
    unfold State.on
    rw [q.FBC_TXB_FRAME_FDF p hp b hb, q.FBC_TXB_FRAME_BRS p hp b hb, q.FBC_TXB_FRAME_RTR p hp b hb, q.FBC_TXB_BIND_ENABLE p hp b hb]
    rfl]
  rfl
theorem Quiet.r0607 (q : Quiet v) : rule0607 v = none := by unfold rule0607; rw [q.allMaps]; rfl
theorem Quiet.r0608 (q : Quiet v) : rule0608 v = none := by unfold rule0608; rw [q.allMaps]; rfl
theorem Quiet.r0609 (q : Quiet v) : rule0609 v = none := by
  unfold rule0609
  exact fails_of _ _ _ _ fun x h => by
    obtain ⟨p, hp, h⟩ := List.mem_flatMap.1 h
    obtain ⟨f, hf, rfl⟩ := List.mem_map.1 h
    have hp := mem_ports hp
    have k : v.rd f = 0xFE := by
      simp only [ownerFlds, List.mem_append, List.mem_map, List.mem_range] at hf
      obtain ((⟨b, hb, rfl⟩ | ⟨b, hb, rfl⟩) | ⟨b, hb, rfl⟩) | ⟨b, hb, rfl⟩ := hf
      · exact q.FBC_TXB_CTRL_OWNER p hp b hb
      · exact q.FBC_FLT_OWNER p hp b hb
      · exact q.FBC_FIFO_OWNER p hp b hb
      · exact q.FBC_MAP_OWNER p hp b hb
    rw [k]
    rfl
theorem Quiet.allRanges (q : Quiet v) : v.allRanges = [] := flatMap_none _ _ fun p h => by rw [q.ranges p h]; rfl
theorem Quiet.r0620 (q : Quiet v) : rule0620 v = none := by
  unfold rule0620 State.lmode
  rw [fails_of _ (List.range 16) _ _ fun p h => by rw [q.LBX_PORT_MODE p (List.mem_range.1 h)]; simp,
    fails_of _ (List.range 16) _ _ fun p h => by rw [q.LBX_PORT_MODE p (List.mem_range.1 h)]; rfl]
  rfl
theorem Quiet.r0640 (q : Quiet v) : rule0640 v = none := by
  unfold rule0640
  rw [q.vlans, filter_none (List.range 6) _ fun p h => by
    have h := List.mem_range.1 h
    by_cases k : 2 ≤ p
    · unfold State.on
      rw [q.port p k (by omega)]
      simp
    · simp [k]]
  rfl
theorem Quiet.bacnet (q : Quiet v) : v.bacnetOn = [] := by unfold State.bacnetOn; rw [q.services]; rfl
theorem Quiet.r0701 (q : Quiet v) : rule0701 v = none := by
  unfold rule0701
  rw [q.compartments]
  exact fails_of _ _ _ _ fun c h => by rw [(q.blocks c (by revert c; decide)).2]; rfl
theorem Quiet.t5 (q : Quiet v) : firstFailure tables5to10 v = none := by
  have a : rule0501 v = none := by unfold rule0501; rw [q.chans]; rfl
  have b : rule0502 v = none := by unfold rule0502; rw [q.chans]; rfl
  have c : rule0503 v = none := by unfold rule0503; rw [q.chans]; rfl
  have d : rule0504 v = none := by unfold rule0504; rw [q.chans]; rfl
  have e : rule0505 v = none := by unfold rule0505; rw [q.circs]; rfl
  have f : rule060A v = none := by unfold rule060A; rw [q.allRanges]; rfl
  have g : rule060B v = none := by unfold rule060B; rw [q.allRanges]; rfl
  have h : rule060C v = none := by unfold rule060C; rw [q.rpairs]; rfl
  have i : rule0621 v = none := by unfold rule0621 State.lmapsOn; rw [q.lmaps]; rfl
  have j : rule0622 v = none := by unfold rule0622 State.lmapsOn; rw [q.lmaps]; rfl
  have k : rule0623 v = none := by unfold rule0623 State.lmapsOn; rw [q.lmaps]; rfl
  have l : rule0624 v = none := by unfold rule0624 State.lmapsOn; rw [q.lmaps]; rfl
  have m : rule0641 v = none := by unfold rule0641; rw [q.services, q.bacnet]; rfl
  have n : rule0642 v = none := by unfold rule0642; rw [q.services, q.bacnet]; rfl
  simp only [firstFailure, tables5to10, List.findSome?_cons, List.findSome?_nil, a, b, c, d, e, f, g, h, i, j, k, l, m, n, q.r0510, q.r0601,
    q.r0602, q.r0603, q.r0604, q.r0605, q.r0606, q.r0607, q.r0608, q.r0609, q.r0620, q.r0640, q.r0701]

/-- A part without an image passes over any settings that it leaves quiet. -/
theorem Quiet.judge (s base : State) (p : CastPart) (q : Quiet (base.lay p)) (i : p.image = none) (a : s.onTrial = false) (b : s.adjourned = false) :
    judgePart s base p = none := by
  have x : rule0904 base (base.lay p) = none := by
    unfold rule0904
    exact fails_of _ _ _ _ fun c _ => by
      rw [q.exist]
      by_cases h : 2 ≤ c
      · have : ¬ c < 2 := by omega
        simp [this]
      · simp [h]
  have y : rule0A51 s p = none := by unfold rule0A51; rw [a, b]; rfl
  have z : imageFailure s p = none := by unfold imageFailure; rw [i]
  unfold judgePart
  simp only
  rw [q.t46, q.t5, x, y, z]
  rfl

theorem Quiet.commit (s : State) (p : CastPart) (tC : Nat) (q : Quiet (s.lay p)) (i : p.image = none) (a : s.onTrial = false)
    (b : s.adjourned = false) : s.judgeCommit [] p tC = none := by
  have j := Quiet.judge s s p q i a b
  have e : ∀ g : Castling, g.laid = [p] → badGroup s none [g] = none := fun g h => by
    simp [badGroup, h, State.layAll, q.t46]
  have g : badGroup s none (insertPart s.castNext tC p []) = none := e { id := s.castNext, tC := tC, parts := [p] } rfl
  unfold State.judgeCommit partsTill
  simp only [List.filter_nil, List.flatMap_nil, State.layAll, List.foldl_nil, j, g]
  rfl

/-! ### States that are quiet -/

theorem get_far (c : Cells) (f : Fld) (hf : still f.bit) (h : ∀ x ∈ c, x.1.bit < 2 ^ 40 ∧ ¬ still x.1.bit) : c.get f = f.reset := by
  induction c with
  | nil => rfl
  | cons x r ih =>
    have k : x.1.key ≠ f.key := fun e => by
      have := (h x (by simp)).2
      have : x.1.bit = f.bit := by
        have := (h x (by simp)).1
        have := hf.2.1
        unfold Fld.key at e
        omega
      simp_all
    rw [show Cells.get (x :: r) f = if x.1.key = f.key then x.2 else Cells.get r f from rfl, if_neg k]
    exact ih fun y hy => h y (by simp [hy])

/-- What a state must show to be quiet: no field listed that is still, the four ports off, no program. -/
def quietB (v : State) : Bool :=
  v.regs.all (fun x => decide (x.1.bit < 2 ^ 40) && ! decide (still x.1.bit)) &&
  [2, 3, 4, 5].all (fun p => v.rd (Obj.NSW_PORT_CFG_ENABLE.i p) == 0) && v.rd Obj.PWR_WATCH_PORTS.f == 0 && v.scan.progs.isEmpty

theorem quiet_of (v : State) (h : quietB v = true) : Quiet v := by
  simp only [quietB, Bool.and_eq_true, List.all_eq_true, beq_iff_eq, List.isEmpty_iff] at h
  obtain ⟨⟨⟨a, b⟩, c⟩, d⟩ := h
  refine ⟨fun f hf => get_far _ f hf fun x hx => ?_, fun p h1 h2 => b p ?_, c, d⟩
  · have := a x hx
    exact ⟨of_decide_eq_true this.1, fun k => by rw [decide_eq_true k] at this; exact absurd this.2 (by decide)⟩
  · have : p = 2 ∨ p = 3 ∨ p = 4 ∨ p = 5 := by omega
    simpa using this

/-- The owner hosted in M6, and nothing on the ports for tenants. -/
def calm : State := [2, 3, 4, 5].foldl (fun s p => s.wr (Obj.NSW_PORT_CFG_ENABLE.i p) 0) o6
/-- C00 sets a limit of a minute for M9. -/
def limitCells : Cells := [(Obj.PWR_M9_LIMIT.f, 60)]
def limitPart : CastPart := { comp := 0, cells := limitCells, image := none, lead := 2000 }
theorem calm_judge (s : State) (h : quietB (s.lay limitPart) = true) (a : s.onTrial = false) (b : s.adjourned = false) (tC : Nat) :
    judgePart s s limitPart = none ∧ s.judgeCommit [] limitPart tC = none :=
  ⟨Quiet.judge _ _ _ (quiet_of _ h) rfl a b, Quiet.commit s _ _ (quiet_of _ h) rfl a b⟩
theorem calm_passes (tC : Nat) : judgePart calm calm limitPart = none ∧ calm.judgeCommit [] limitPart tC = none :=
  calm_judge calm (by decide) (by decide) (by decide) tC

end Sys2Proof.Tests
end

