-- ==== Sys2Proof/Tests/Slice0.lean ====
section
/-!
SUPPORT. The author's own tests: every check of `Instr.wf` refuses a term that breaks it, the queue and the words of the table, and
one step of some commands. Expected values are taken from the spec's tables and sentences, which the comments name.
-/
namespace Sys2Proof.Tests
set_option Elab.async false
open Sys2Proof.Machine Sys2Proof.Claims

/-! ### Well-formedness -/

/-- Table 3-2: LENGTH is that of the payload, at most 16,360. -/
theorem test_wf_frame : Instr.wf (.cmdSessionPing (fr 2 [1])) = true ∧ Instr.wf (.cmdSessionPing { fr 2 [1] with length := 2 }) = false ∧
    Frame.ok { fr 2 [] with length := 16361 } = false := by decide
/-- R254: the data has the length of its code, 11 bits where not extended, no remote frame in FD format. -/
theorem test_wf_can_length : CanFrame.ok { id := 0x7FF, xtd := false, dlc := 8, data := List.replicate 8 0, sof := 0 } = true ∧
    CanFrame.ok { id := 0x7FF, xtd := false, dlc := 8, data := [1], sof := 0 } = false ∧
    CanFrame.ok { id := 0x7FF, xtd := false, fdf := true, dlc := 9, data := List.replicate 12 0, sof := 0 } = true := by decide
theorem test_wf_can_id : Instr.wf (.canRxFrame 0 { id := 0x800, xtd := false, dlc := 0, data := [], sof := 0 } 0) = false := by decide
theorem test_wf_can_remote : CanFrame.ok { id := 1, xtd := false, fdf := true, rtr := true, dlc := 0, data := [], sof := 0 } = false := by decide
theorem test_wf_eth_src : EthFrame.ok { port := 2, vid := none, src := 2 ^ 48, dst := 0, len := 64 } = false := by decide
theorem test_wf_eth_dst : EthFrame.ok { port := 2, vid := none, src := 0, dst := 2 ^ 48, len := 64 } = false := by decide
theorem test_wf_eth_type : EthFrame.ok { port := 2, vid := none, src := 0, dst := 0, len := 64, ethertype := 65536 } = false := by decide
theorem test_wf_eth_vid : Instr.wf (.ethFrameRx { port := 2, vid := some 4096, src := 0, dst := 0, len := 64 } 0) = false := by decide
/-- Table 1-3: 34 compartments, 2 engines, 16 entries. -/
theorem test_wf_requester : Requester.ok (.task 33 1 15) = true ∧ Requester.ok (.task 34 1 15) = false ∧ Requester.ok (.task 2 2 0) = false ∧
    Instr.wf (.modeRelease (.task 2 0 16)) = false := by decide
/-- Table 3-11: six states, five sources, 16,384 bytes. -/
theorem test_wf_cas : casOk (some { expect := 6, new := 0 }) = false ∧ casOk (some { expect := 0, new := 6 }) = false ∧
    casOk (some { expect := 0, new := 1, source := 5 }) = false ∧ Instr.wf (.mbxSlotState 15 (some { expect := 0, new := 1 }) none) = false ∧
    Instr.wf (.mbxSlotState 0 none none) = false := by decide
theorem test_wf_cas_frame : casOk (some { expect := 0, new := 1, frame := List.replicate 16385 0 }) = false := by
  simp only [casOk, List.length_replicate]
  rfl
theorem test_wf_comp : Instr.wf (.castCheckDone 33 0) = true ∧ Instr.wf (.castCheckDone 34 0) = false := by decide
def hello (port : Nat) (vlan : Option Nat) : Handshake := ⟨1, 0, port, vlan, true, true, true, true, [], [], []⟩
theorem test_wf_tls : Instr.wf (.tlsHandshake (hello 3 (some 4095))) = true ∧ Instr.wf (.tlsHandshake (hello 4 none)) = false ∧
    Instr.wf (.tlsHandshake (hello 0 (some 4096))) = false := by decide
theorem test_wf_doorbell : Instr.wf (.mbxDbIn 5 0) = false ∧ Instr.wf (.mbxDbIn 0 16) = false ∧ Instr.wf (.mbxDbIn 4 15) = true := by decide
theorem test_wf_address : Instr.wf (.regWrite .firmware 2 0 0) = false ∧ Instr.wf (.regWrite .firmware 0x1000000 0 0) = false ∧
    Instr.wf (.regReadClear .firmware 6 true 0) = false ∧ Instr.wf (.rtcGroupRead .firmware 0x20002 0) = false := by decide
theorem test_wf_units : Instr.wf (.powerFailCommitEnd 0 5 false false) = false ∧ Instr.wf (.pllLockTimeout 7 0) = false ∧
    Instr.wf (.startupTestDone [⟨155, []⟩] 0) = false ∧ Instr.wf (.castConfirmDeadline [18]) = false ∧ Instr.wf (.eccUe 14 0 0 0) = false ∧
    Instr.wf (.eccUe 0 155 0 0) = false ∧ Instr.wf (.updStepDone 65536 0) = false := by decide
theorem test_wf_points : Instr.wf (.pimgSetWrite (.session 1) 8192 0 0) = false ∧ Instr.wf (.mqttMessage ⟨2, 8192, none⟩ 0) = false ∧
    Instr.wf (.mqttMessage ⟨34, 0, none⟩ 0) = false := by decide
theorem test_wf_network : Instr.wf (.addressAgeing (2 ^ 48) 1 0) = false ∧ Instr.wf (.addressAgeing 1 4096 0) = false ∧
    Instr.wf (.nodeForgetTime (2 ^ 48) 0) = false ∧ Instr.wf (.ptpSync ⟨2 ^ 64, 0, 0, false⟩ 0) = false ∧ Instr.wf (.ptpSync ⟨0, 0, 65536, false⟩ 0) = false ∧
    Instr.wf (.bacnetRequest ⟨4096, 0, 0, none, 0, 16⟩ 0) = false ∧ Instr.wf (.bacnetRequest ⟨1, 0, 0, none, 0, 17⟩ 0) = false := by decide
theorem test_wf_legacy : Instr.wf (.mstpFrame 0 ⟨0, 256, 0, []⟩ 0) = false ∧ Instr.wf (.mstpFrame 0 ⟨0, 0, 256, []⟩ 0) = false ∧
    Instr.wf (.daliEvent 8 ⟨64, 0, 0⟩ 0) = false := by decide
theorem test_wf_answer : Instr.wf (.lbxAnswer 0 ⟨none, List.replicate 257 0⟩ 0) = false := by decide +kernel
/-- 208 codes of 24 bits (Table 8-2). -/
theorem test_wf_codes : Instr.wf (.sampleInstant [0] 0) = false ∧ Instr.wf (.sampleInstant (List.replicate 208 8388608) 0) = false ∧
    Instr.wf (.sampleInstant (List.replicate 208 (-8388608)) 0) = true := by decide +kernel
theorem test_wf_rows (l : List Nat) (h : 65536 < l.length) : Instr.wf (.mteTestDone l 0) = false := by
  simp only [Instr.wf, decide_eq_false_iff_not]
  omega

/-! ### The queue -/

/-- A queue is taken from its front, and the table's words spell nothing. -/
theorem test_queue : (match step { at_ 6 with pending := [.bulkLow 5, .bulkLow 9] } with | .next t => (t.pending, t.floorTime) | _ => ([], 0)) =
    ([.bulkLow 9], 5) := by decide
theorem test_idle : (match step State.reset with | .next t => t.floorTime | _ => 0) = 8 := by decide
theorem test_words : decodeTableWord 8 0 = none ∧ State.reset.withFetchWord 8 0 = State.reset := ⟨rfl, rfl⟩
theorem test_core : core.reset = State.reset ∧ State.reset.pending = [] := ⟨rfl, rfl⟩

/-! ### Commands -/

/-- Table 3-6: PING answers up to 64 bytes with the same bytes and floor time; 65 are BAD_PAYLOAD. -/
theorem test_ping : answer .cmdSessionPing { at_ 6 with floorTime := 9 } 2 [1, 2, 3] = some (0, [1, 2, 3] ++ le 8 9) ∧
    (answer .cmdSessionPing (at_ 6) 2 (List.replicate 65 7)).map (·.1) = some 0x1A := by decide
/-- Table 3-8: no payload is BAD_PAYLOAD 0x1A for a command that takes some. -/
theorem test_obj_read_empty : (answer .cmdObjRead (at_ 6) 2 []).map (·.1) = some 0x1A := by decide
/-- R86: a word that no table defines answers NO_OBJECT 0x20. -/
theorem test_obj_read_absent : (answer .cmdObjRead (at_ 6) 2 (le 4 0xFFFFFC ++ le 2 1 ++ le 2 0)).map (·.1) = some 0x20 := by decide
/-- Table 2-2: IDENT_MODE at 0x28 shows the mode. -/
theorem test_obj_read_mode : answer .cmdObjRead (at_ 6) 0 (le 4 0x28 ++ le 2 1 ++ le 2 0) = some (0, le 4 6) := by decide +kernel
/-- Table 5-10 gives SCE_INST_SEL to its compartment; a read-only word answers READ_ONLY 0x21. -/
theorem test_obj_write : (answer .cmdObjWrite ((at_ 6).wr Obj.CAST_COMP_EXIST.f 7) 2 (wr1 0x10004C 5)).map (·.1) = some 0 ∧
    (answer .cmdObjWrite ((at_ 6).wr Obj.CAST_COMP_EXIST.f 7) 2 (wr1 0x20 5)).map (·.1) = some 0x21 := by decide +kernel
/-- R101: a check of an empty staging fails, 0x0041 with detail 0x0119. -/
theorem test_check_empty : (answer .cmdCastCheck (at_ 6) 0 []).map (fun x => (x.1, field x.2 0 2)) = some (0x41, 0x0119) := by decide +kernel
/-- R110: nothing pends that could be abandoned, detail 0x0118. -/
theorem test_abort_none : (answer .cmdCastAbort (at_ 6) 0 (le 1 1 ++ le 3 0)).map (fun x => (x.1, field x.2 0 2)) = some (0x41, 0x0118) := by decide +kernel
/-- Table 6-24: dropping where nothing is staged answers OK. -/
theorem test_image_drop : answer .cmdScanImageDrop (at_ 6) 2 [] = some (0, []) := by decide
/-- R335: only C00 sets the calendar, NOT_PERMITTED 0x19. -/
theorem test_time_set_tenant : (answer .cmdTimeSet (at_ 6) 2 (List.replicate 12 0)).map (·.1) = some 0x19 := by decide
/-- R428: only C00 tests a memory. -/
theorem test_mte_tenant : (answer .cmdDiagMteRun (at_ 6) 2 (le 2 0 ++ le 1 1 ++ le 1 0)).map (·.1) = some 0x19 := by decide
/-- R23: a host sets a point that its compartment owns and that has no source; R94's wake of a set byte for a tenant's other point does nothing. -/
theorem test_set_point : let s := h6.wr (Obj.CAST_OWN_PT.i 9) 2
    (after (.pimgSetWrite (.session 1) 9 77 0) s).pt 9 = 77 ∧ (after (.pimgSetWrite (.session 1) 8 77 0) s).pt 8 = 0 := by decide +kernel
/-- R20: the floor clock never runs back. -/
theorem test_time_back : (after (.bulkLow 3) { at_ 6 with floorTime := 10 }).floorTime = 10 := by decide
/-- R66: a session closed is gone. -/
theorem test_close : (after (.cmdSessionClose (fr 2 [])) h6).sessions = [] := by decide
/-- R72: a session whose connection is lost is detached, not ended. -/
theorem test_loss : (after (.transportLoss 1 5) h6).sessions.map (·.conn) = [none] := by decide
/-- R282: a request on a port that is OFF ends CANCELLED, state 5. -/
theorem test_txreq_off : let s := h6.wrs [(Obj.FBC_TXB_BIND_ENABLE.ij 0 0, 1), (Obj.FBC_TXB_CTRL_OWNER.ij 0 0, 2), (Obj.FBC_RNG_ENABLE.ij 0 0, 1),
      (Obj.FBC_RNG_OWNER.ij 0 0, 2)]
    (after (.txreq (.session 1) 0 0 0) s).txState 0 0 = 5 := by decide +kernel
/-- R203: the first crossing of a set opens its cycle. -/
theorem test_crossing : let s := h6.wrs [(Obj.MAE_STATUS_ACQ.f, 1), (Obj.MAE_SET_ENABLE.i 0, 1)]
    ((after (.zeroCrossing 0 5) s).mset 0).isOpen = true := by decide +kernel

end Sys2Proof.Tests
end

