-- ==== Sys2Proof/Tests/WitB.lean ====
section
/-!
SUPPORT. States that meet the hypotheses of the statements about the life cycle, keys, firmware update and the event recorder.
-/
namespace Sys2Proof.Tests
set_option Elab.async false
open Sys2Proof.Machine Sys2Proof.Claims

/-! ### Life cycle -/

/-- A session of compartment `c` on a state, with presence and the loop as given. -/
def life (m c l : Nat) (window loop : Bool) : State :=
  let s := hosted (at_ m) c
  { s with lcy := { s.lcy with state := l, windowAt := if window then some 0 else none, loopIntact := loop } }

theorem wit_LifeCycleCommands_promote : let f := fr 0 (le 1 2 ++ le 3 0 ++ (at_ 5).identity)
    (∀ b : Bool, Admitted (life 5 0 1 b true) f (sess 0)) ∧ (∀ b : Bool, let s := life 5 0 1 b true
      s.mode ∈ [5, 8] ∧ s.rd Obj.UPD_STATE.f ∉ [6, 7] ∧ s.power.transition = none ∧ s.upd.owner = none ∧ s.upd.activateAt = none ∧
      s.upd.step = 0 ∧ s.upd.resetAt = none ∧ s.lcy.jumper = false ∧ s.d2 = false ∧ s.castlings = [] ∧
      f.payload = le 1 2 ++ le 3 0 ++ s.identity ∧ (s.lcy.state, 2) ∈ [(1, 2), (2, 3), (2, 5), (3, 4), (3, 5), (4, 5)]) ∧
    (life 5 0 1 false true).lcy.windowAt = none ∧ (life 5 0 1 true true).lcy.windowAt ≠ none :=
  ⟨fun b => by cases b <;> exact admitted_of (conn1 0) (by decide), by decide, by decide⟩
theorem wit_LifeCycleCommands_seal : let s := (life 6 0 2 true true).wr Obj.LCY_SEAL_LATCH_OPEN.f 1
    Admitted s (fr 0 []) (sess 0) ∧ 5 ≤ s.mode ∧ s.mode ≤ 8 ∧ s.lcy.windowAt ≠ none ∧ s.lcy.loopIntact = true ∧
    s.rd Obj.LCY_SEAL_LATCH_OPEN.f = 1 ∧ (life 6 0 2 true false).lcy.loopIntact = false :=
  ⟨admitted_of (conn1 0) (by decide), by decide⟩
theorem wit_LifeCycleCommands_usb : Admitted (life 6 0 2 true true) (fr 0 (le 2 480 ++ le 2 0)) (sess 0) := admitted_of (conn1 0) (by decide)
theorem wit_LifeCycleCommands_retire : let s : State := { life 11 0 5 true true with regs := ((at_ 11).wr (Obj.KSE_SLOT_STATE.i 0) 1).regs }
    let f := fr 0 (le 1 16 ++ le 3 0 ++ List.replicate 16 7)
    Admitted s f (sess 0) ∧ s.mode = 11 ∧ Nonce f.payload 0 ∧ s.slotState s.attestSlot = 1 := by
  refine ⟨admitted_of (conn1 0) (by decide), by decide, ?_, by decide⟩
  unfold Nonce
  decide
theorem wit_LifeCycleCommands_challenge : Admitted (life 5 0xFF 1 true false) (fr 0xFF []) (sess 0xFF) ∧ (life 5 0xFF 1 true false).mode ∈ [5, 8] :=
  ⟨admitted_of (conn1 0xFF) (by decide), by decide⟩
/-- A debug unlock whose nonce is 300 s old. -/
def unlock : Bytes := le 4 0x55445841 ++ le 2 1 ++ le 1 31 ++ le 1 1 ++ List.replicate 16 0 ++ le 32 77 ++ List.replicate 104 0
def unlocking : State :=
  let s := life 5 0xFF 1 true false
  { s with floorTime := 300000000000, lcy := { s.lcy with nonce := some (77, 0) } }
theorem wit_LifeCycleCommands_unlock : let s := unlocking
    Admitted s (fr 0xFF unlock) (sess 0xFF) ∧ unlock.length = 160 ∧ field unlock 0 4 = 0x55445841 ∧ field unlock 4 2 = 1 ∧ field unlock 6 1 ≤ 31 ∧
    field unlock 7 1 = s.lcy.state ∧ (unlock.drop 8).take 16 = s.identity ∧ field unlock 0x38 8 = 0 ∧ s.lcy.windowAt ≠ none ∧
    s.lcy.loopIntact = false ∧ s.lcy.jumper = false ∧ s.lcy.nonce = some (field unlock 0x18 32, 0) ∧
    max s.floorTime 0 ≤ 0 + 300000000000 ∧ s.tenants = [] := ⟨admitted_of (conn1 0xFF) (by decide +kernel), by decide +kernel⟩

/-- A button held for 3 s in a mode that serves; the window open for just 120 s; USB enabled until now. -/
def pressed : State := { at_ 6 with lcy := { (at_ 6).lcy with pressedAt := some 0, windowAt := none, usbUntil := some 5 } }
def opened : State := { at_ 6 with lcy := { (at_ 6).lcy with windowAt := some 0 } }
theorem wit_LifeCycleEvents : pressed.serves = true ∧ pressed.lcy.windowAt = none ∧ 0 + 3000000000 ≤ (pressed.advance 3000000000).floorTime ∧
    pressed.lcy.held = false ∧ 5 ≤ (pressed.advance 5).floorTime ∧ (pressed.advance 4).floorTime < 5 ∧ (at_ 6).lcy.windowDue = false ∧
    (at_ 6).lcy.pressedAt = none := by decide
theorem wit_LifeCycleEvents_window : opened.lcy.windowAt = some 0 ∧ 0 + 120000000000 ≤ (opened.advance 120000000000).floorTime ∧
    (opened.advance 119999999999).floorTime < 0 + 120000000000 := by decide +kernel
theorem wit_LifeCycleEvents_seal : (at_ 6).rd Obj.LCY_SEAL_LATCH_OPEN.f ≠ 1 ∧ ((at_ 6).wr Obj.LCY_SEAL_LATCH_OPEN.f 1).rd Obj.LCY_SEAL_LATCH_OPEN.f = 1 := by decide
theorem wit_LifeCycleEvents_debug : let s : State := { owner 6 with regs := ((owner 6).wr Obj.LCY_DEBUG.f 2).regs }
    (owner 6).live (.session 1) = true ∧ (owner 6).compOf (.session 1) = 0 ∧ (owner 6).lcy.state ∈ [2, 3] ∧ (owner 6).rd Obj.LCY_DEBUG.f ≠ 2 ∧
    s.d2 = true ∧ 4 ≤ s.mode ∧ s.mode ≤ 9 ∧ s.power.transition = none ∧ (owner 6).d2 = false ∧ (life 6 0 1 true true).lcy.state ∉ [2, 3] := by decide

/-! ### Keys -/

/-- The base point of P-384. -/
def pointG : Bytes :=
  be 48 0xAA87CA22BE8B05378EB1C71EF320AD746E1D3B628BA79B9859F741E082542A385502F25DBF55296C3A545E3872760AB7 ++
  be 48 0x3617DE4A96262C6F5D9E98BF9292DC29F8F41DBD289A147CE9DA3113B5F0B8C00A60B1CE1D7E819D7A431D7C90EA0E5F
theorem test_pointG : onCurve pointG = true := by decide +kernel

/-- A Key Update Message of C02 with counter 9 for a slot: its kind, wrap, usage, type and key data. -/
def kum (kind wrap slot usage ktype parent label : Nat) (data : Bytes) : Bytes :=
  le 4 0x554B5841 ++ le 2 1 ++ le 1 kind ++ le 1 wrap ++ List.replicate 16 0 ++ le 1 2 ++ le 1 slot ++ le 1 2 ++ le 1 usage ++
  le 1 ktype ++ le 1 parent ++ le 1 label ++ le 1 data.length ++ le 8 9 ++ (List.replicate label 65 ++ List.replicate (32 - label) 0) ++
  List.replicate 96 0 ++ (data ++ List.replicate (120 - data.length) 0) ++ List.replicate 96 0
/-- C02 with a key authority, a KTK and a fixed anchor slot 24. -/
def keyed : State :=
  let s := { h6 with lcy := { h6.lcy with state := 2 } }
  (((s.wr (Obj.KSE_SLOT_STATE.i 4) 1).wr (Obj.KSE_SLOT_STATE.i 3) 1).wr (Obj.KSE_SLOT_STATE.i 200) 1).wr (Obj.KSE_SLOT_OWNER.i 200) 2
theorem wit_KeyCommands_update : let m := kum 3 0 200 0 0 0 0 []
    Admitted keyed (fr 2 m) (sess 2) ∧ 5 ≤ keyed.mode ∧ keyed.mode ≤ 8 ∧ keyed.rd Obj.UPD_STATE.f ≠ 6 ∧ m.length = 384 ∧
    field m 0 4 = 0x554B5841 ∧ field m 4 2 = 1 ∧ keyed.seesSlot 2 (kumSlot m) = true ∧ kumNamesParent m = false ∧ kumOwner m = 2 :=
  ⟨admitted_of (conn1 2) (by decide +kernel), by decide +kernel⟩
theorem wit_KeyCommands_attest : let s : State := { keyed with regs := (keyed.wr (Obj.KSE_SLOT_STATE.i 0) 1).regs }
    let f := fr 2 (le 1 64 ++ le 3 0 ++ List.replicate 64 7)
    Admitted s f (sess 2) ∧ Nonce f.payload 0 ∧ s.slotState s.attestSlot = 1 ∧ s.lcy.state ≠ 0 ∧ 4 ≤ s.mode ∧ s.mode ≤ 9 := by
  refine ⟨admitted_of (conn1 2) (by decide +kernel), ?_, by decide +kernel⟩
  unfold Nonce
  decide
theorem wit_KeyCommands_certify : let s (st : Nat) : State := ((keyed.wr (Obj.KSE_SLOT_STATE.i 0) 1).wr (Obj.KSE_SLOT_KTYPE.i 200) 4).wr (Obj.KSE_SLOT_STATE.i 200) st
    let f := fr 2 (le 1 200 ++ le 1 16 ++ le 2 0 ++ List.replicate 16 7)
    (Admitted (s 1) f (sess 2) ∧ Admitted (s 2) f (sess 2)) ∧ Nonce f.payload 1 ∧ (s 1).slotState (s 1).attestSlot = 1 ∧ field f.payload 0 1 = 200 ∧
    (s 1).seesSlot 2 200 = true ∧ (s 1).rd (Obj.KSE_SLOT_KTYPE.i 200) ∈ [3, 4] ∧ (s 1).slotState 200 = 1 ∧ (s 2).slotState 200 = 2 ∧
    (s 2).slotState (s 2).attestSlot = 1 ∧ (s 2).seesSlot 2 200 = true ∧ (s 2).rd (Obj.KSE_SLOT_KTYPE.i 200) ∈ [3, 4] := by
  refine ⟨⟨admitted_of (conn1 2) (by decide +kernel), admitted_of (conn1 2) (by decide +kernel)⟩, ?_, by decide +kernel⟩
  unfold Nonce
  decide
/-- The first authority of an empty slot, and the replacement of one, with the least counter that is new. -/
theorem wit_KeyCommands_authority : let s (st : Nat) : State := (life 6 0 2 true true).wr (Obj.KSE_SLOT_STATE.i 4) st
    let p := pointG ++ le 8 1 ++ List.replicate 96 0
    (Admitted (s 0) (fr 0 p) (sess 0) ∧ Admitted (s 1) (fr 0 p) (sess 0)) ∧ (s 0).lcy.windowAt ≠ none ∧ pointG.length = 96 ∧
    (s 0).rd Obj.KSE_KA_CTR.f < 1 ∧ (s 0).slotState 4 = 0 ∧ (s 1).slotState 4 = 1 ∧ (s 1).lcy.windowAt ≠ none :=
  ⟨⟨admitted_of (conn1 0) (by decide +kernel), admitted_of (conn1 0) (by decide +kernel)⟩, by decide +kernel⟩
/-- A public key of a general slot, one whose key is no point, a purge, and a regeneration of a compartment's root. -/
def jobOf (m : Bytes) : State := { keyed with kse := { keyed.kse with jobs := [⟨1, 5, 2, m⟩] } }
theorem wit_KeyCommands_apply : (∀ m ∈ [kum 2 0 200 1 4 0 0 pointG, kum 2 0 200 1 4 0 0 (List.replicate 96 1), kum 3 0 200 0 0 0 0 [], kum 4 0 22 0 0 0 0 []],
      (jobOf m).exists? (kumOwner m) = true ∧ (m.drop 8).take 16 = (jobOf m).identity ∧ field m 0x18 1 = (jobOf m).lcy.state ∧
      (jobOf m).slotState 4 = 1 ∧ (jobOf m).rd (Obj.KSE_CTR.b (kumOwner m)) < kumCounter m ∧ (jobOf m).kumDetail m = none) ∧
    (match (jobOf []).kumKey (kum 2 0 200 1 4 0 0 pointG) with | .ok k => k == pointG | .error _ => false) = true ∧
    (match (jobOf []).kumKey (kum 2 0 200 1 4 0 0 (List.replicate 96 1)) with | .ok _ => 0 | .error d => d) = 0x0807 := by decide +kernel

/-! ### Firmware update -/

/-- A package of one part of 256 bytes of package, and one whose form is wrong. -/
def manifest (flags : Nat) : Bytes :=
  le 4 0x50555841 ++ le 2 1 ++ le 2 flags ++ le 4 4096 ++ le 4 5 ++ le 1 64 ++ le 1 1 ++ le 2 0 ++ le 2 0 ++ le 2 65535 ++ List.replicate 40 0 ++
  (le 1 6 ++ le 1 1 ++ le 2 7 ++ le 4 0 ++ le 4 256 ++ le 4 0 ++ List.replicate 80 0)
def upd (m c st : Nat) (o : Option Nat) (fl : Nat) : State :=
  let s := (hosted (at_ m) c).wr Obj.UPD_STATE.f st
  { s with upd := { s.upd with owner := o, manifest := manifest fl }, lcy := { s.lcy with state := 2, windowAt := some 0 } }

theorem wit_UpdateCommands_open : let s := upd 6 0 0 none 0
    (∀ fl ∈ [0, 4], Admitted s (fr 0 (manifest fl)) (sess 0)) ∧ 4 ≤ s.mode ∧ s.mode ≤ 8 ∧ s.rd Obj.UPD_STATE.f ∉ [5, 6, 7] ∧ s.upd.owner = none ∧
    s.lcy.jumper = false ∧ s.failed 15 = false ∧ (manifest 0).length = 64 + 96 * pkgCount (manifest 0) ∧
    s.openDetail (manifest 0) = none ∧ s.openDetail (manifest 4) = some 0x0A21 := by
  refine ⟨fun fl h => ?_, by decide +kernel⟩
  simp only [List.mem_cons, List.not_mem_nil, or_false] at h
  rcases h with rfl | rfl <;> exact admitted_of (conn1 0) (by decide +kernel)
/-- A session that owns the update: the last block, which is short, and one that lies at no unit's start. -/
theorem wit_UpdateCommands_owner : let s := upd 6 0 1 (some 1) 0
    Admitted s (fr 0 []) (sess 0) ∧ (4 ≤ s.mode ∧ s.mode ≤ 8 ∧ s.rd Obj.UPD_STATE.f ≠ 6 ∧ s.upd.owner = some 1 ∧ s.failed 15 = false) ∧
    s.rd Obj.UPD_STATE.f ∉ [2, 4] ∧ s.upd.lastOwner ≠ some 1 ∧ blockOk 0 4096 (pkgSize s.upd.manifest) = true ∧
    blockOk 1 4095 (pkgSize s.upd.manifest) = false := ⟨admitted_of (conn1 0) (by decide), by decide⟩
theorem wit_UpdateCommands_block : Admitted (upd 6 0 1 (some 1) 0) (fr 0 (le 4 0 ++ le 4 1 ++ [7])) (sess 0) := admitted_of (conn1 0) (by decide)
theorem wit_UpdateCommands_status : Admitted (upd 6 0 1 none 0) (fr 0 (le 4 131071 ++ le 4 1)) (sess 0) ∧ 131071 + 1 ≤ 131072 :=
  ⟨admitted_of (conn1 0) (by decide), by decide⟩
/-- An activation a second and a day ahead; at once, in recovery. -/
theorem wit_UpdateCommands_activate : (∀ tU ∈ [1000000000, 86400000000000],
      Admitted (upd 6 0 3 (some 1) 0) (fr 0 (le 8 tU ++ le 4 60 ++ le 4 0)) (sess 0) ∧ tU % 1000000 = 0) ∧
    (upd 6 0 3 (some 1) 0).rd Obj.UPD_STATE.f = 3 ∧ (upd 6 0 3 (some 1) 0).castlings = [] ∧ pkgForerunner (manifest 0) = false ∧
    (upd 4 0 3 (some 1) 0).mode = 4 ∧ (upd 4 0 3 (some 1) 0).upd.recv ≤ 1 ∧ pkgForerunner (manifest 1) = true := by
  refine ⟨fun t h => ?_, by decide⟩
  simp only [List.mem_cons, List.not_mem_nil, or_false] at h
  rcases h with rfl | rfl <;> exact ⟨admitted_of (conn1 0) (by decide), by decide⟩
theorem wit_UpdateCommands_activateAtOnce : Admitted (upd 4 0 3 (some 1) 0) (fr 0 (le 8 0 ++ le 4 86400 ++ le 4 0)) (sess 0) := admitted_of (conn1 0) (by decide)
/-- A trial that is not overdue, an adjournment, and neither. -/
theorem wit_UpdateCommands_trial : ∀ st ∈ [5, 6, 0], let s := upd 6 0 st none 0
    Admitted s (fr 0 []) (sess 0) ∧ s.rd Obj.UPD_STATE.f = st ∧ s.upd.deadline = none ∧ s.lcy.windowAt ≠ none ∧ s.failed 15 = false := by
  intro st h
  simp only [List.mem_cons, List.not_mem_nil, or_false] at h
  rcases h with rfl | rfl | rfl <;> exact ⟨admitted_of (conn1 0) (by decide), by decide⟩

theorem wit_UpdateEvents_times : let s := upd 6 0 1 (some 1) 0
    s.upd.owner ≠ none ∧ s.upd.lastCmd + 600000000000 ≤ (s.advance 600000000000).floorTime ∧
    (s.advance 599999999999).floorTime < s.upd.lastCmd + 600000000000 ∧ (upd 6 0 2 (some 1) 0).rd Obj.UPD_STATE.f = 2 ∧
    (upd 6 0 2 (some 1) 0).upd.recv ≤ 1 ∧ (upd 6 0 2 (some 1) 0).rd Obj.UPD_BLOCKS_MISSING.f = 0 := by decide
/-- An activation that falls due; a step that runs. -/
def activating : State := let s := upd 6 0 4 (some 1) 0; { s with upd := { s.upd with activateAt := some 5 } }
def stepping : State := let s := upd 6 0 5 none 0; { s with upd := { s.upd with step := 1, stepAt := 0, resetAt := some 5, deadline := some 9 } }
theorem wit_UpdateEvents_steps : activating.upd.activateAt = some 5 ∧ 5 ≤ (activating.advance 5).floorTime ∧ (activating.advance 4).floorTime < 5 ∧
    (∃ p, activating.stepPart 1 = some p ∧ p.id ≠ 2) ∧ stepping.upd.step ≠ 0 ∧ stepping.upd.back = false ∧
    (∃ p, stepping.stepPart stepping.upd.step = some p ∧ p.part.version = 7 ∧ stepping.upd.stepAt + stepLimit p.id = 4000000) ∧
    stepping.upd.resetAt = some 5 := ⟨rfl, by decide, by decide, ⟨_, rfl, by decide⟩, by decide, by decide, ⟨_, rfl, by decide⟩, rfl⟩
/-- A trial's deadline reached, and not; the resume within 300 s, and not. -/
theorem wit_UpdateEvents_deadline : ((stepping.wr Obj.EVR_OP_SECONDS.f 9).upd.deadline = some 9 ∧ 9 ≤ (stepping.wr Obj.EVR_OP_SECONDS.f 9).rd Obj.EVR_OP_SECONDS.f) ∧
    ¬ 9 ≤ (stepping.wr Obj.EVR_OP_SECONDS.f 8).rd Obj.EVR_OP_SECONDS.f ∧
    State.rd { stepping with upd := { stepping.upd with resumed := false } } Obj.UPD_STATE.f ∈ [5, 6] ∧ stepping.upd.resumed = true ∧
    stepping.upd.bootAt + 300000000000 ≤ (stepping.advance 300000000000).floorTime := by decide
/-- The sealed move: 60 s after the boot, no task of a running program; its two words. -/
def adjourning : State := let s := upd 6 0 6 none 0; { s with floorTime := 60000000000, upd := { s.upd with armedAt := some 59990000000 } }
theorem wit_UpdateEvents_move : adjourning.live (.session 1) = true ∧ adjourning.compOf (.session 1) = 0 ∧ adjourning.upd.deadline = none ∧
    adjourning.rd Obj.UPD_STATE.f = 6 ∧ (adjourning.advance 0).sealTimeOk = true ∧ adjourning.sealPliesOk = true ∧
    (adjourning.advance 0).floorTime ≤ 59990000000 + 10000000 ∧ (0#32).toNat = field (adjourning.fwSlot adjourning.active).build 0 4 ∧
    (0xFFFFFFFF#32).toNat = 2 ^ 32 - 1 - field (adjourning.fwSlot adjourning.active).build 0 4 := by decide +kernel
theorem wit_UpdateEvents_recovery : let s := { upd 4 0 0 none 0 with floorTime := 1800000000000 }
    s.mode = 4 ∧ s.upd.owner = none ∧ s.upd.lastFrame + 1800000000000 ≤ (s.advance 0).floorTime ∧
    ∀ x ∈ s.sessions, x.lastFrame + 1800000000000 ≤ (s.advance 0).floorTime := by decide

/-! ### Event recorder -/

def rec0 : EvRec := State.eventRecord h6 2 0x0701 [] false none
/-- A queued record of C02, whose first area has room and has none; a session subscribed to its family. -/
def queued (full : Nat) : State :=
  let s := withSess h6 { sess 2 with mask := 0x80 }
  { s with evr := { s.evr with pend := [⟨2, false, rec0⟩] }, regs := ((s.wr (Obj.EVR_FIRST_FULL.b 2) full).wr (Obj.EVR_AREA_FIRST_BLK.i 0) 1).regs }
theorem wit_EventRecorder_write : (queued 0).failed 10 = false ∧ (queued 0).evr.pend = [⟨2, false, rec0⟩] ∧
    ¬ ((queued 0).rd (Obj.EVR_FIRST_FULL.b 2) = 1 ∨ 64 * (queued 0).firstBlk 2 ≤ ((queued 0).evLog 2).first.length) ∧
    (queued 1).rd (Obj.EVR_FIRST_FULL.b 2) = 1 ∧ rec0.trigger < 0x1000 ∧ bit 0x80 (rec0.trigger / 256) = true := by decide
/-- One enabled watch entry, the sixteenth. -/
def watched (v : Nat) : State :=
  let s := ((h6.wr (Obj.EVR_WATCH_CFG_ENABLE.bi 2 15) 1).wr (Obj.EVR_WATCH_ADDR.bi 2 15) 0x100000).wr (Obj.SCE_STATE.b 2) v
  { s with evr := { s.evr with watch := [(47, { prev := some 1, holdEnd := 1000000 })] } }
theorem wit_EventRecorder_watch : (watched 2).failed 10 = false ∧ (watched 2).exists? 2 = true ∧ (watched 2).mode ∈ [2, 5, 6, 7, 8, 9] ∧
    (∀ n, n < 16 → (watched 2).rd (Obj.EVR_WATCH_CFG_ENABLE.bi 2 n) = if n = 15 then 1 else 0) ∧
    ((watched 2).evr.watch.get {} (16 * 2 + 15)).prev = some 1 ∧ ((watched 2).evr.watch.get {} (16 * 2 + 15)).holdEnd ≤ 1000000 ∧
    watchFires ((watched 2).rd (Obj.EVR_WATCH_CFG_COND.bi 2 15)) ((watched 2).rd (Obj.EVR_WATCH_VALUE.bi 2 15)) 1
      (((((watched 2).advance 1000000).peek 2 0x100000).getD 0) &&& (watched 2).rd (Obj.EVR_WATCH_MASK.bi 2 15)) = true ∧
    watchFires ((watched 1).rd (Obj.EVR_WATCH_CFG_COND.bi 2 15)) ((watched 1).rd (Obj.EVR_WATCH_VALUE.bi 2 15)) 1
      (((((watched 1).advance 1000000).peek 2 0x100000).getD 0) &&& (watched 1).rd (Obj.EVR_WATCH_MASK.bi 2 15)) = false := by decide
theorem wit_EventRecorder_commands : (∀ p ∈ [le 1 1 ++ le 3 0 ++ le 4 1 ++ le 2 64 ++ le 2 0, le 2 0xFFFF ++ le 2 0, le 1 2 ++ le 1 1 ++ le 2 0], Admitted h6 (fr 2 p) (sess 2)) ∧
    (5 ≤ h6.mode ∧ h6.mode ≤ 9) ∧ h6.failed 10 = false ∧ seqAfter (h6.rd (Obj.EVR_LAST_OLDEST.b 2)) 1 = false ∧
    seqAfter (h6.rd (Obj.EVR_LAST_OLDEST.b 2)) 0 = true ∧ h6.exists? 2 = true := by
  refine ⟨fun p h => ?_, by decide⟩
  simp only [List.mem_cons, List.not_mem_nil, or_false] at h
  rcases h with rfl | rfl | rfl <;> exact admitted_of (conn1 2) (by decide)

end Sys2Proof.Tests
end

