-- ==== Sys2Proof/Tests/WitC.lean ====
section
/-!
SUPPORT. States that meet the hypotheses of the statements about Castling, scan commands, images, forces and scan timing; and
a least scan image, written from Tables 6-12 to 6-16.
-/
namespace Sys2Proof.Tests
set_option Elab.async false
open Sys2Proof.Machine Sys2Proof.Claims

/-! ### A scan image -/

def secRow (ty off size count : Nat) : Bytes := le 2 ty ++ le 2 0 ++ le 4 off ++ le 4 size ++ le 4 count
def fileHead (comp : Nat) : Bytes :=
  le 4 0x49535841 ++ le 2 3 ++ le 2 64 ++ le 1 comp ++ le 1 0 ++ le 2 9 ++ le 4 352 ++ List.replicate 48 0
/-- One function of one op, RET; one type of 8 bytes of data; one instance; one task, engine 0 entry 3, every 1,000 ms. -/
def file (comp op : Nat) : Bytes :=
  fileHead comp ++ secRow 1 208 4 1 ++ secRow 3 224 16 1 ++ secRow 4 240 32 1 ++ secRow 5 272 16 1 ++ secRow 6 288 16 2 ++ secRow 7 304 0 0 ++
  secRow 8 304 8 0 ++ secRow 10 320 32 1 ++ secRow 11 352 0 0 ++ (le 4 op ++ List.replicate 12 0) ++
  (le 4 0 ++ le 4 4 ++ le 2 0 ++ List.replicate 6 0) ++
  (le 8 77 ++ le 4 8 ++ le 2 0 ++ le 2 0 ++ List.replicate 16 0) ++
  (le 2 0 ++ le 2 0 ++ le 4 1 ++ le 4 0 ++ le 2 0xFFFF ++ le 2 0xFFFF) ++ (le 8 5 ++ le 8 6) ++ (List.replicate 8 0 ++ List.replicate 8 0) ++
  (le 1 0 ++ le 1 3 ++ le 2 0 ++ le 2 1000 ++ le 2 0 ++ le 2 8 ++ le 2 0 ++ List.replicate 20 0)
def ret : Nat := 0x2F * 2 ^ 26
def data (f : Bytes) : ImageData := { size := f.length, data := memOf f, written := [(0, f.length)] }
theorem test_image_passes : (Raw.of (file 2 ret)).check 2 0 = none := by decide +kernel
/-- Table 6-19: the wrong compartment; a word that is no op; a branch out of its function. -/
theorem test_image_comp : (Raw.of (file 3 ret)).check 2 0 = some (0x0431, 0xFFFF) := by decide +kernel
theorem test_image_op : (Raw.of (file 2 0)).check 2 0 = some (0x0433, 0) := by decide +kernel
theorem test_image_branch : (Raw.of (file 2 (0x24 * 2 ^ 26 + 1))).check 2 0 = some (0x0434, 1) := by decide +kernel

/-! ### Castling -/

/-- C02 or C00 with a staging. -/
def staged (s : State) (c : Nat) (g : Staging) : State := { s with stagings := [(c, g)] }
def maskCells (c : Nat) : Cells := [(Obj.EVR_WATCH_MASK.bi c 0, 5)]
theorem wit_CastCommands_check : Admitted h6 (fr 2 []) (sess 2) ∧ (∀ st ∈ [0, 1, 2, 3], (staged h6 2 { state := st }).failed 14 = false ∧
    ((staged h6 2 { state := st }).staging 2).state = st) ∧ 5 ≤ h6.mode ∧ h6.mode ≤ 9 := ⟨adm _ (by decide), by decide⟩
/-- A verified staging with its token, and a commit at the first instant and at the last. -/
def verified (l : Cells) : Staging := { state := 3, cells := l, token := 7, lead := 2000 }
def commit (tC ovr : Nat) : Bytes := le 8 tC ++ le 4 7 ++ le 4 ovr
def limiting : State := staged calm 0 (verified limitCells)
theorem wit_CastCommands_commit : let s := limiting
    (Admitted s (fr 0 (commit 2000000 0)) (sess 0) ∧ s.hasPending 0 = false ∧ 2000000 % 1000000 = 0 ∧
      max s.floorTime 0 + max 2000000 (1000 * (verified limitCells).lead) ≤ 2000000 ∧ s.castlings = [] ∧ stagedPart s 0 = limitPart) ∧
    (accepted s (fr 0 (commit 2000000 0)) (sess 0) 0x0303 false).judgeCommit [] limitPart 2000000 = none :=
  ⟨⟨admitted_of (conn1 0) (by decide), by decide⟩, (calm_judge _ (by decide) (by decide) (by decide) _).2⟩
theorem wit_CastCommands_mayCommit : let s := limiting
    5 ≤ s.mode ∧ s.mode ≤ 8 ∧ s.activating = false ∧ s.adjourned = false ∧ s.lcy.jumper = false ∧ s.failed 14 = false ∧
    s.on Obj.TIME_FT_STATE_STEP_DUE.f = false := by decide
/-- A point given to a compartment that does not exist. -/
def badCells : Cells := [(Obj.CAST_OWN_PT.i 0, 40)]
theorem wit_CastCommands_fails : let s := staged calm 0 (verified badCells)
    ((accepted s (fr 0 (commit 2000000 0)) (sess 0) 0x0303 false).judgeCommit [] (stagedPart s 0) 2000000).isSome = true := by decide +kernel
/-- C00 overrides; nothing pends that it must cancel. -/
theorem overrides_none (s : State) (p : CastPart) (tC n : Nat) (l : List Castling) (h : s.judgeCommit l p tC = none) :
    s.overrideList p tC (n + 1) l = some l := by
  simp only [State.overrideList, h]
theorem wit_CastCommands_override : Admitted limiting (fr 0 (commit 86400000000000 1)) (sess 0) ∧
    (accepted limiting (fr 0 (commit 86400000000000 1)) (sess 0) 0x0303 false).overrideList limitPart 86400000000000 (16 + 1) [] = some [] :=
  ⟨admitted_of (conn1 0) (by decide), overrides_none _ _ _ _ _ (calm_judge _ (by decide) (by decide) (by decide) _).2⟩
/-- A pending part of C02 alone, abandoned in time and too late; and none. -/
def part2 : CastPart := { comp := 2, cells := maskCells 2, image := none, lead := 2000 }
def pend (t : Nat) : State := { h6 with castlings := [{ id := 9, tC := 5000000, parts := [part2] }], floorTime := t }
theorem wit_CastCommands_abort : Admitted h6 (fr 2 (le 1 0 ++ le 3 0)) (sess 2) ∧ Admitted (pend 3999999) (fr 2 (le 1 1 ++ le 3 0)) (sess 2) ∧
    ((pend 0).castlings.find? (fun h => h.parts.any fun p => p.comp == 2)).isSome = true ∧ 3999999 + 1000000 < 5000000 ∧
    (pend 0).hasPending 2 = true ∧ h6.hasPending 2 = false := ⟨adm _ (by decide), admitted_of (conn1 2) (by decide), by decide⟩
def checked (l : Cells) : State := staged calm 0 { state := 2, cells := l }
theorem wit_CastCommands_done : ((checked badCells).staging 0).state = 2 ∧ ((checked badCells).staging 0).held = [] ∧
    ((checked badCells).advance 0).pendingParts ((checked badCells).advance 0).horizon = [] ∧
    (let b := (checked badCells).advance 0
     (judgePart b b { comp := 0, cells := badCells, image := none, lead := 0 }).isSome = true) ∧
    (let b := (checked limitCells).advance 0
     judgePart b b { comp := 0, cells := limitCells, image := none, lead := 0 } = none) :=
  ⟨by decide, by decide, by decide, by decide +kernel, Quiet.judge _ _ _ (quiet_of _ (by decide)) rfl (by decide) (by decide)⟩

theorem wit_CastInstants_arm : (pend 0).castlings = [{ id := 9, tC := 5000000, parts := [part2] }] ∧ 5000000 ≤ ((pend 0).advance 4000000).floorTime + 1000000 := by
  decide
def armed (c : Bool) : State := { h6 with castlings := [{ id := 9, tC := 5000000, parts := [part2], armed := some [3], confirmed := c }] }
theorem wit_CastInstants_confirm : (armed false).failed 3 = false ∧ (3 ∈ [3] ∧ (∃ u ∈ [3], u ∉ ([] : List Nat))) := by decide
theorem wit_CastInstants_switch : (∀ x ∈ ((armed true).advance 0).castCells { id := 9, tC := 5000000, parts := [part2] }, x.1.key ≠ Obj.CAST_COMP_EXIST.f.key) ∧
    (armed true).power.transition = none ∧ 5000000 ≤ max (armed true).floorTime 5000000 ∧ max (armed true).floorTime 4999999 < 5000000 := by decide
theorem wit_CastInstants_limit : let g : Castling := { id := 9, tC := 5000000, parts := [{ part2 with comp := 0, cells := [(Obj.PWR_M9_LIMIT.f, 60)] }] }
    let s : State := { calm with castlings := [g], sessions := [] }
    ((s.advance 5000000).castCells g = [(Obj.PWR_M9_LIMIT.f, 60)] ∧ s.scan.progs = [] ∧ s.kse.orphans = [] ∧
    (∀ p ∈ g.parts, p.image = none) ∧ s.sessions = []) ∧ s.sources = [] := ⟨by decide, Quiet.noSources (quiet_of _ (by decide))⟩
theorem wit_CastInstants_mark : (at_ 6).acq = false ∧ h6.exists? 2 = true := by decide

/-! ### Programs -/

/-- C02 with an image in force, its program in a state, and its session; D1 as given. -/
def progState (m st : Nat) (d1 : Nat) : State :=
  let s := (hosted (runs (ply 1 2)) 2).wr Obj.IDENT_MODE.f m
  let s := (s.wr (Obj.SCE_STATE.b 2) st).wr Obj.LCY_D1_EN.f d1
  { s with scan := { s.scan with plies := [] } }
theorem wit_ScanCommands_start : Admitted (progState 6 0 4) (fr 2 (le 1 2 ++ le 1 1 ++ le 2 0)) (sess 2) ∧ (progState 6 0 4).mayRun 2 = true ∧
    (progState 5 0 4).mayRun 2 = false ∧ (progState 6 2 4).rd (Obj.SCE_STATE.b 2) ≠ 0 := ⟨admitted_of (conn1 2) (by decide), by decide⟩
theorem wit_ScanCommands_stop : ∀ st ∈ [0, 1, 4, 5], Admitted (progState 6 st 4) (fr 2 (le 1 2 ++ le 3 0)) (sess 2) ∧
    (progState 6 st 4).rd (Obj.SCE_STATE.b 2) = st ∧ (progState 6 st 4).rd (Obj.EXCH_STATE.b 2) ≠ 2 ∧
    ∀ p ∈ (progState 6 st 4).outputPoints 2, p < 8192 := by
  intro st h
  simp only [List.mem_cons, List.not_mem_nil, or_false] at h
  rcases h with rfl | rfl | rfl | rfl <;> exact ⟨admitted_of (conn1 2) (by decide), by decide⟩
theorem wit_ScanCommands_hold : (∀ st ∈ [2, 4], Admitted (progState 6 st 4) (fr 2 []) (sess 2) ∧ (progState 6 st 4).d1 2 = true) ∧
    (progState 6 2 4).scan.plies = [] ∧ (runs (ply 1 2)).scan.plies = [ply 1 2] ∧ (ply 1 2).comp = 2 ∧ (progState 6 2 0).d1 2 = false := by
  refine ⟨fun st h => ?_, by decide⟩
  simp only [List.mem_cons, List.not_mem_nil, or_false] at h
  rcases h with rfl | rfl <;> exact ⟨admitted_of (conn1 2) (by decide), by decide⟩
theorem wit_ScanCommands_step : let s := (progState 6 4 4).wr (Obj.SCE_TASK_CFG_ENABLE.at 2 [0, 3]) 1
    Admitted s (fr 2 (le 1 0 ++ le 1 3 ++ le 1 16 ++ le 1 0)) (sess 2) ∧ s.enabledTask 2 0 3 ≠ none ∧ s.enabledTask 2 1 15 = none ∧
    s.rd (Obj.SCE_STATE.b 2) = 4 ∧ (s.prog 2).step = none := ⟨admitted_of (conn1 2) (by decide), by decide⟩
theorem wit_ScanCommands_m9 : Admitted (progState 9 2 4) (fr 2 []) (sess 2) ∧ (progState 9 2 4).mode = 9 ∧ (progState 9 2 4).d1 2 = true ∧
    Admitted (progState 9 2 4) (fr 2 (le 1 2 ++ le 3 0)) (sess 2) := ⟨admitted_of (conn1 2) (by decide), by decide, by decide, admitted_of (conn1 2) (by decide)⟩

theorem wit_ImageCommands_write : let p := le 4 0 ++ le 4 64 ++ [1, 2]
    Admitted h6 (fr 2 p) (sess 2) ∧ (64 ≤ 64 ∧ 0 + [1, 2].length ≤ 64) ∧ h6.stagingFits 2 { h6.staging 2 with state := 1, image := some { size := 64 } } = true ∧
    (checking.staging 2).state = 2 ∧ ¬ 64 ≤ 63 ∧ h6.failed 14 = false := ⟨adm _ (by decide), by decide⟩
theorem wit_ImageCommands_drop : Admitted h6 (fr 2 []) (sess 2) ∧ (h6.staging 2).image = none ∧
    ((staged h6 2 { image := some (data []) }).staging 2).image ≠ none := ⟨adm _ (by decide), by decide⟩
/-- Images staged in part, whole and wrong, whole and right. -/
theorem wit_ImageCommands_verify : ImageData.missing { size := 64 } ≠ 0 ∧ (data (file 2 ret)).missing = 0 ∧
    h6.loaderCheck 2 (data (file 2 0)) = some (0x0433, 0) ∧ h6.loaderCheck 2 (data (file 2 ret)) = none := by decide +kernel
theorem wit_ImageCommands_fits : let d := data (file 2 ret)
    let cells := ((Raw.of d.bytes).image.taskDefaults 2).foldl (fun k p => stagePut k p.1 p.2) []
    h6.stagingFits 2 { state := 1, image := some { d with verified := true }, cells := cells } = true := by decide +kernel
theorem wit_ImageCommands_plan : (progState 6 2 4).prog 2 = { cur := some prog } ∧ (h6.prog 2).cur = none := by decide

theorem wit_ForceCommands_point : let s := (progState 6 2 4).wr (Obj.CAST_OWN_PT.i 8191) 2
    Admitted s (fr 2 (le 1 0 ++ le 1 0 ++ le 2 8191 ++ le 8 0 ++ le 8 0 ++ le 8 7)) (sess 2) ∧ s.ownerPt 8191 = 2 ∧ s.ownerPt 8190 ≠ 2 ∧
    s.d1 2 = true := ⟨admitted_of (conn1 2) (by decide), by decide⟩
theorem wit_ForceCommands_entry : let s := (progState 6 2 4).wr (Obj.CAST_OWN_PT.i 8191) 2
    (∀ y ∈ s.forces 2, ¬ (y.kind = 0 ∧ y.point = 8191 ∧ y.path = 0 ∧ y.name = 0)) ∧ s.forceTotal < 1024 ∧ s.rd (Obj.FORCE_STATE.bi 2 0) = 0 := by decide +kernel
/-- A symbol of each sort: of no basic type, of the greatest, and none. -/
def symProg (d : Nat) : Prog := { prog with image := { image with types := [⟨1, 64, 0, 1, [⟨3, 0, 8, d, false⟩]⟩, ⟨2, 16, 1, 0, []⟩] } }
theorem wit_ForceCommands_symbol : let s (d : Nat) : State := (progState 6 2 4).putProg 2 { cur := some (symProg d) }
    Admitted (s 0xB) (fr 2 (le 1 1 ++ le 1 0 ++ le 2 0 ++ le 8 1 ++ le 8 3 ++ le 8 7)) (sess 2) ∧
    (symProg 0xB).image.symbol 1 3 = some ⟨3, 0, 8, 0xB, false⟩ ∧ (symProg 0xB).image.symbol 1 4 = none ∧ (symProg 0x12).image.symbol 1 3 = some ⟨3, 0, 8, 0x12, false⟩ ∧
    (s 0xB).retypePending 2 1 3 0xB 8 = false := ⟨admitted_of (conn1 2) (by decide), by decide⟩
theorem wit_ForceCommands_clear : let s := (progState 6 2 4).wr (Obj.FORCE_STATE.bi 2 127) 1
    Admitted s (fr 2 (le 1 127 ++ le 3 0)) (sess 2) ∧ s.rd (Obj.FORCE_STATE.bi 2 127) ≠ 0 ∧ (s.force 2 127).point < 8192 ∧
    s.rd (Obj.FORCE_STATE.bi 2 126) = 0 := ⟨admitted_of (conn1 2) (by decide), by decide +kernel⟩

/-! ### Scan timing -/

/-- A task of the image that takes part, at a boundary: floor time 0, tempo 1,000, phase 0. -/
def tasked (st : Nat) : State := ((progState 6 st 4).wr (Obj.SCE_TASK_CFG_ENABLE.at 2 [0, 3]) 1).wr (Obj.SCE_TASK_TEMPO.at 2 [0, 3]) 1000
theorem wit_ScanTiming_boundary : let t0 : ImgTask := ⟨0, 3, false, 1000, 0, 8, 0, [], []⟩
    (tasked 2).enabledTask 2 0 3 = some t0 ∧ isBoundary ((tasked 2).advance 1000000000).floorTime ((tasked 2).rd (Obj.SCE_TASK_TEMPO.at 2 [0, 3]))
      ((tasked 2).rd (Obj.SCE_TASK_PHASE.at 2 [0, 3])) = true ∧
    isBoundary ((tasked 2).advance 999999999).floorTime ((tasked 2).rd (Obj.SCE_TASK_TEMPO.at 2 [0, 3])) ((tasked 2).rd (Obj.SCE_TASK_PHASE.at 2 [0, 3])) = false ∧
    (tasked 2).dormant 2 0 3 = false ∧ (tasked 2).failed 0 = false ∧ ((tasked 2).task 2 0 3).from_ ≤ 0 ∧ (tasked 2).plyOf 2 0 3 = none ∧
    (tasked 2).rd (Obj.EXCH_STATE.b 2) ≠ 2 ∧ (runs (ply 1 2)).plyOf 2 0 3 ≠ none := by decide +kernel
theorem wit_ScanTiming_skip : let s := (tasked 2).wr (Obj.SCE_TASK_SKIP_RUN.at 2 [0, 3]) 8
    let l := s.wr (Obj.SCE_TASK_SKIP_LIMIT.at 2 [0, 3])
    ((l 8).rd (Obj.SCE_TASK_SKIP_LIMIT.at 2 [0, 3]) ≠ 0 ∧ (l 8).rd (Obj.SCE_TASK_SKIP_LIMIT.at 2 [0, 3]) ≤ (l 8).rd (Obj.SCE_TASK_SKIP_RUN.at 2 [0, 3])) ∧
    ¬ (l 9).rd (Obj.SCE_TASK_SKIP_LIMIT.at 2 [0, 3]) ≤ (l 9).rd (Obj.SCE_TASK_SKIP_RUN.at 2 [0, 3]) := by decide
/-- A window's start; an allowance just used up. -/
def spent : State := let s := runs (ply 1 2); { s with scan := { s.scan with e0 := { s.scan.e0 with used := [(2, 200000000)] } } }
theorem wit_ScanTiming_budget : ((runs (ply 1 2)).advance 10000000).floorTime % 10000000 = 0 ∧ ((runs (ply 1 2)).eng 0).since ≠ some 10000000 ∧
    spent.hasBudget 0 2 = false ∧ 2 ∉ (spent.eng 0).reached ∧ 0 < spent.allowance 0 2 ∧ (runs (ply 1 2)).hasBudget 0 2 = true := by decide
def starting : State := (progState 6 1 4).putProg 2 { cur := some prog, starting := some { at_ := 0, cold := false, byOwner := false } }
def stopping : State := (progState 6 5 4).putProg 2 { cur := some prog, stopping := some { at_ := 0, reason := 1, plies := 0 } }
theorem wit_ScanTiming_ends : (starting.prog 2).starting = some { at_ := 0, cold := false, byOwner := false } ∧ starting.rd (Obj.SCE_STATE.b 2) = 1 ∧
    starting.rd (Obj.EXCH_STATE.b 2) ≠ 2 ∧ (starting.prog 2).cur = some prog ∧ (stopping.prog 2).stopping = some { at_ := 0, reason := 1, plies := 0 } ∧
    stopping.on (Obj.SCE_STATE_INTENT.b 2) = false := by decide
theorem wit_ScanTiming_hold : let s : State := { h6 with scan := { h6.scan with hold := some 0, queued := [[PtWrite.whole 8191 7]] } }
    s.scan.hold ≠ none ∧ h6.scan.hold = none ∧ s.scan.queued = [[PtWrite.whole 8191 7]] ∧ (PtWrite.whole 8191 7).point < 8192 := by decide
theorem wit_ScanTiming_set : let s := (progState 6 2 4).wr (Obj.CAST_OWN_PT.i 8191) 2
    s.live (.session 1) = true ∧ s.ownerPt 8191 = s.compOf (.session 1) ∧ s.setRefused 8191 = false ∧ s.ownerPt 8190 ≠ s.compOf (.session 1) := by decide
theorem wit_ScanTiming_setTask : let s := (runs (ply 1 2)).wr (Obj.CAST_OWN_PT.i 8191) 2
    s.live (.task 2 0 3) = true ∧ s.ownerPt 8191 = s.compOf (.task 2 0 3) ∧ s.setRefused 8191 = false ∧ plyAt s (ply 1 2) = some (ply 1 2) := by decide

end Sys2Proof.Tests
end

