-- ==== Sys2Proof/Tests/WitD.lean ====
section
/-!
SUPPORT. States that meet the hypotheses of the statements about metering and CAN.
-/
namespace Sys2Proof.Tests
set_option Elab.async false
open Sys2Proof.Machine Sys2Proof.Claims

/-- C02 hosted in M6 with fields set. -/
def set2 (l : List (Fld × Nat)) : State := h6.wrs l

/-! ### Metering -/

/-- Acquisition runs with set 0 and channel 5 on it enabled, the cycle of both open. -/
def metering (m : MSet) : State :=
  let s := set2 [(Obj.MAE_STATUS_ACQ.f, 1), (Obj.MAE_SET_ENABLE.i 0, 1), (Obj.MAE_CH_ENABLE.i 5, 1), (Obj.MAE_COMMIT_MS.f, 100)]
  { s with mae := { s.mae with sets := [(0, m)], chans := [(5, { isOpen := true })] } }

theorem wit_MeterCycles_sample : (metering { isOpen := true }).acq = true ∧ (metering { isOpen := true }).halted 3 = false ∧
    (metering { isOpen := true }).chanOn 5 = true ∧ ((metering { isOpen := true }).chan 5).isOpen = true ∧
    (metering { isOpen := true }).rd (Obj.MAE_CH_SET.i 5) < 4 ∧ (metering { isOpen := true }).setOn 0 = true ∧
    ((metering { isOpen := true }).mset 0).isOpen = true ∧ h6.acq = false := by decide
theorem wit_MeterCycles_record : let s := set2 [(Obj.MAE_STATUS_ACQ.f, 1), (Obj.MAE_WAVE_STATE.f, 1)]
    s.rd Obj.MAE_WAVE_STATE.f = 1 ∧ s.mae.wave.rows.length < 1024 := by decide
/-- The first crossing of a set; a crossing that closes a cycle; a set whose voltages are too low. -/
theorem wit_MeterCycles_crossing : let a := metering {}
    let b := metering { isOpen := true, complete := true, crossed := true }
    (a.acq = true ∧ a.setOn 0 = true ∧ a.framing 0 = some 0 ∧ (a.mset 0).isOpen = false ∧ a.mae.gaps = [] ∧ 5 ∈ a.chansOf 0) ∧
    ((b.wr (Obj.MAE_SET_VRMS.ij 0 1) 230000).framing 0 = some 1 ∧ (b.mset 0).isOpen = true ∧ b.mae.latchDue = none ∧ b.framing 0 = none) := by
  decide +kernel
/-- 25 ms without a crossing, and one sample less; the least length of a pseudo-cycle. -/
theorem wit_MeterCycles_pseudo : let s (m : MSet) : MSet := (metering m).mset 0
    ((s { isOpen := true, n := 200 }).pseudo = false ∧ 200 ≤ (s { isOpen := true, n := 200 }).n) ∧ (s { isOpen := true, n := 199 }).n < 200 ∧
    ((s { isOpen := true, pseudo := true, n := 160 }).pseudo = true ∧ (metering {}).rd Obj.MAE_F_NOM.f = 50 ∧
      160 ≤ (s { isOpen := true, pseudo := true, n := 160 }).n) := by decide
theorem wit_MeterCycles_neutral : let s (m : MSet) : State := metering m
    (5 ≤ ((s { nmissRun := 5 }).mset 0).nmissRun ∧ (s { nmissRun := 5 }).eventOf 0 4 0 = none) ∧ ((s { nmissRun := 4 }).mset 0).nmissRun < 5 ∧
    (s { events := [⟨4, 0, 0, 0⟩], nmissEnd := 50 }).eventOf 0 4 0 = some ⟨4, 0, 0, 0⟩ ∧ (MSet.nmissEnd { nmissEnd := 50 } = 50) := by decide
theorem wit_MeterCycles_settling : let s (n : Nat) : State := { set2 [(Obj.MAE_CH_TYPE.i 5, 1)] with floorTime := n }
    (s 19999999999).settling 5 = true ∧ (s 20000000000).settling 5 = false := by decide
theorem wit_MeterCycles_capture : let s := o6.wrs [(Obj.MAE_CAL_STATE.f, 2), (Obj.MAE_CAL_CYCLES.f, 4), (Obj.MAE_CAL_CYCLES_DONE.f, 4)]
    s.compOf (.session 1) = 0 ∧ h6.compOf (.session 1) ≠ 0 ∧ s.rd Obj.MAE_CAL_STATE.f = 2 ∧ o6.rd Obj.MAE_CAL_STATE.f ∉ [1, 2] ∧
    s.rd Obj.MAE_CAL_CYCLES.f ≤ s.rd Obj.MAE_CAL_CYCLES_DONE.f := by decide
theorem wit_MeterCycles_wave : let s : State := let s := set2 [(Obj.MAE_WAVE_STATE.f, 1)]; { s with mae := { s.mae with wave := { rows := List.replicate 1024 [0] } } }
    s.rd Obj.MAE_WAVE_STATE.f = 1 ∧ s.mae.wave.rows.length = 1024 := ⟨by decide, List.length_replicate ..⟩

theorem wit_MeterLatches_latch : let s : State := { h6 with mae := { h6.mae with latchDue := some 77 } }
    s.mae.latchDue = some 77 ∧ s.failed 17 = false ∧ ∀ m, m < 512 → s.rd (Obj.MAE_MAP_POINT.i m) < 8192 := by decide +kernel
theorem wit_MeterLatches_commit : (metering {}).acq = true ∧ (metering {}).rd Obj.MAE_COMMIT_MS.f ≠ 0 := by decide
/-- A pulse due at the very end of the open time; a running pulse at its end, and just before. -/
theorem wit_MeterLatches_pulse : let s : State := let s := set2 [(Obj.MAE_STATUS_ACQ.f, 1), (Obj.MAE_PULSE_ENABLE.i 7, 1), (Obj.MAE_PULSE_BACKLOG.i 7, 1)]
      { s with mae := { s.mae with pulses := [(7, { openUntil := 9 })] } }
    s.pulsesRun = true ∧ s.on (Obj.MAE_PULSE_ENABLE.i 7) = true ∧ 0 < s.rd (Obj.MAE_PULSE_BACKLOG.i 7) ∧
    (s.pulse 7).openUntil ≤ (s.advance 9).floorTime ∧ (s.advance 8).floorTime < (s.pulse 7).openUntil ∧ (s.pulse 7).endAt = none ∧
    (∀ e ∈ [9], e ≤ (s.advance 9).floorTime ∧ (s.advance 8).floorTime < e) := by decide
def rec1 (q : Nat) (g : Option Bytes) : SealRec := { seq := q, time := 5, body := [1, 2, 3], sig := g }
def sealed (l : List SealRec) : State :=
  let s := set2 [(Obj.MAE_SEAL_SEQ.i 2, 4), (Obj.MAE_SEAL_OLDEST.i 2, 3), (Obj.MAE_SEAL_ACKED.i 2, 2), (Obj.KSE_SLOT_STATE.i 23, 1),
    (Obj.KSE_SLOT_KTYPE.i 23, 3), (Obj.KSE_SLOT_USAGE.i 23, 0)]
  { s with mae := { s.mae with rings := [(2, l)] } }
theorem wit_MeterLatches_sign : (sealed [rec1 3 (some []), rec1 4 none]).ring 2 = [rec1 3 (some []), rec1 4 none] ∧
    (rec1 4 none).sig.isNone = true ∧ (sealed []).canSign (billingSlot 2) = true ∧ h6.canSign (billingSlot 2) = false ∧
    (sealed [rec1 3 (some [])]).ring 2 = [rec1 3 (some [])] := by decide +kernel
/-- The oldest record read; one before it; one beyond the newest; both bounds of an acknowledgement. -/
theorem wit_MeterLatches_read : let s := sealed [rec1 3 (some []), rec1 4 none]
    (∀ q ∈ [2, 3, 4, 5], Admitted s (fr 2 (le 1 2 ++ le 3 0 ++ le 8 q ++ le 2 64 ++ le 2 0)) (sess 2)) ∧ s.sealView 2 2 = true ∧
    s.sealView 2 3 = false ∧ s.rd (Obj.MAE_SEAL_SEQ.i 2) = 4 ∧ s.rd (Obj.MAE_SEAL_OLDEST.i 2) = 3 ∧ s.failed 2 = false ∧
    (∃ r ∈ s.ring 2, r.seq = 3) ∧ s.rd (Obj.MAE_SEAL_ACKED.i 2) = 2 ∧
    ∀ q ∈ [1, 2, 4, 5], Admitted s (fr 2 (le 1 2 ++ le 3 0 ++ le 8 q)) (sess 2) := by
  refine ⟨fun q h => ?_, by decide, by decide, by decide, by decide, by decide, by decide +kernel, by decide, fun q h => ?_⟩ <;>
    simp only [List.mem_cons, List.not_mem_nil, or_false] at h <;> rcases h with rfl | rfl | rfl | rfl <;>
    exact admitted_of (conn1 2) (by decide)

/-! ### CAN -/

/-- Port 3 runs; C02 owns the range of 0x100 to 0x1FF, a filter that takes 0x123 to FIFO 7 of one element and to mapping 511,
and buffer 31. -/
def bus (more : List (Fld × Nat)) : State :=
  set2 ([(Obj.FBC_STATE.i 3, 2), (Obj.FBC_RNG_ENABLE.ij 3 1, 1), (Obj.FBC_RNG_OWNER.ij 3 1, 2), (Obj.FBC_RNG_LOW.ij 3 1, 0x100),
    (Obj.FBC_RNG_HIGH.ij 3 1, 0x1FF), (Obj.FBC_FLT_ENABLE.ij 3 0, 1), (Obj.FBC_FLT_OWNER.ij 3 0, 2), (Obj.FBC_FLT_ID.ij 3 0, 0x123),
    (Obj.FBC_FLT_MASK.ij 3 0, 0x7FF), (Obj.FBC_FLT_FIFO.ij 3 0, 7), (Obj.FBC_FIFO_SIZE.ij 3 7, 1), (Obj.FBC_FIFO_OWNER.ij 3 7, 2),
    (Obj.FBC_TXB_BIND_ENABLE.ij 3 31, 1), (Obj.FBC_TXB_BIND_ID.ij 3 31, 0x1FF), (Obj.FBC_TXB_CTRL_OWNER.ij 3 31, 2)] ++ more)
def canFr (id : Nat) : CanFrame := { id := BitVec.ofNat 29 id, xtd := false, dlc := 2, data := [5, 6], sof := 1000 }
theorem wit_CanReceives_heard : ((bus []).advance 2000).onBus 3 = true ∧ (bus []).fbc.old = none ∧ (canFr 0x123).fdf = false ∧
    ((h6.advance 2000).onBus 3 = false) := by decide
theorem wit_CanReceives_points : ∀ m, m < 512 → (bus []).rd (Obj.FBC_MAP_POINT.ij 3 m) < 8192 := by decide +kernel
theorem wit_CanReceives_frames : (bus []).rangeOf 3 (taken (canFr 0x200)).id.toNat false = none ∧ ((bus []).port 3).fwLogAt = none ∧
    (bus []).rangeOf 3 (taken (canFr 0x1FF)).id.toNat false = some 1 ∧ (bus []).filterOf 3 2 (taken (canFr 0x1FF)) = none ∧
    (bus []).rangeOf 3 (taken (canFr 0x123)).id.toNat false = some 1 ∧ (bus []).filterOf 3 2 (taken (canFr 0x123)) = some 0 := by decide +kernel
def elem : CanElem := { id := 0x123, xtd := false, dlc := 2, fdf := false, brs := false, esi := false, rtr := false, filter := 0, stamp := 0, epoch := 0, seq := 1, data := [1, 2] }
/-- The FIFO with room, and full. -/
def fifo (l : List CanElem) : State :=
  let s := bus [(Obj.FBC_FLT_TO_FIFO.ij 3 0, 1)]
  { s with fbc := { s.fbc with ports := [(3, { fifos := [(7, l)] })] } }
theorem wit_CanReceives_fifo : (fifo []).on (Obj.FBC_FLT_TO_FIFO.ij 3 0) = true ∧ (fifo []).rd (Obj.FBC_FLT_FIFO.ij 3 0) = 7 ∧
    (((fifo []).port 3).fifos.get [] 7).length < (fifo []).rd (Obj.FBC_FIFO_SIZE.ij 3 7) ∧
    (fifo [elem]).rd (Obj.FBC_FIFO_SIZE.ij 3 7) ≤ (((fifo [elem]).port 3).fifos.get [] 7).length := by decide +kernel
theorem wit_CanReceives_map : let s := bus [(Obj.FBC_FLT_TO_MAP.ij 3 0, 1), (Obj.FBC_MAP_ENABLE.ij 3 511, 1), (Obj.FBC_MAP_POINT.ij 3 511, 8191),
      (Obj.FBC_MAP_WIDTH_M1.ij 3 511, 15)]
    s.on (Obj.FBC_FLT_TO_MAP.ij 3 0) = true ∧ s.mapsOf 3 false 0 = [511] ∧ s.scan.hold = none ∧
    s.rd (Obj.FBC_MAP_BIT_OFF.ij 3 511) + s.rd (Obj.FBC_MAP_WIDTH_M1.ij 3 511) + 1 ≤ 8 * (taken (canFr 0x123)).data.length ∧
    s.rd (Obj.FBC_MAP_POINT.ij 3 511) = 8191 := by decide +kernel
theorem wit_CanReceives_errors : let s : State := let s := bus [(Obj.FBC_FLT_CFG_DISTURB_LIMIT.i 3, 2), (Obj.FBC_REC.i 3, 127)]
      { s with fbc := { s.fbc with ports := [(3, { disturbed := some (0x123, false), count := 1 })] } }
    s.onBus 3 = true ∧ (s.port 3).disturbed = some (0x123, false) ∧ s.rd (Obj.FBC_FLT_CFG_DISTURB_LIMIT.i 3) ≤ (s.port 3).count + 1 ∧
    s.rd (Obj.FBC_REC.i 3) + 1 = 128 := by decide
theorem wit_CanReceives_port : (bus [(Obj.FBC_CFG_PXE.i 3, 1)]).on (Obj.FBC_CFG_PXE.i 3) = true ∧ (bus [(Obj.FBC_CFG_PXE.i 3, 1)]).onBus 3 = true ∧
    (bus [(Obj.FBC_STATE.i 3, 1)]).portState 3 = 1 ∧ (bus []).portState 3 ≠ 1 ∧ (bus []).bufsIn 3 1 = [] := by decide +kernel
theorem wit_CanReceives_wake : let s (m : Nat) : State := (at_ m).wrs [(Obj.FBC_STATE.i 23, 4), (Obj.PWR_WAKE_CAN_EN.f, 2 ^ 23)]
    ∀ m ∈ [1, 2, 6], (s m).portState 23 = 4 ∧ bit ((s m).rd Obj.PWR_WAKE_CAN_EN.f) 23 = true ∧ (s m).power.transition = none ∧
      (s m).rd Obj.PWR_WAKE_CAUSE.f = 0 := by decide
theorem wit_CanReceives_pop : MayUse (fifo [elem]) (.session 1) (fifoAddr 3 7 0xC) ∧ ¬ MayUse (fifo [elem]) (.session 1) (fifoAddr 3 6 0xC) := by
  unfold MayUse
  decide +kernel

def asks (st : Nat) (arb : Option Nat) (more : List (Fld × Nat)) : State :=
  let s := bus ([(Obj.FBC_TXB_STATE.ij 3 31, st)] ++ more)
  { s with fbc := { s.fbc with ports := [(3, { arb := arb })] } }
theorem wit_CanTransmits_request : (∀ st ∈ [0, 1, 2, 7], MayUse (asks st none []) (.session 1) (bufAddr 3 31 0x50) ∧ (asks st none []).txState 3 31 = st ∧
      (asks st none []).bufOn 3 31 = true) ∧ ¬ MayUse (asks 0 none []) (.session 1) (bufAddr 3 30 0x50) ∧ h6.bufOn 3 31 = false ∧
    (asks 0 none []).mayTransmit 3 31 = true := by
  unfold MayUse
  decide +kernel
theorem wit_CanTransmits_period : let s := asks 0 none [(Obj.FBC_TXB_CTRL_TRIGGER.ij 3 31, 3), (Obj.FBC_TXB_PERIOD.ij 3 31, 10000)]
    s.bufOn 3 31 = true ∧ s.rd (Obj.FBC_TXB_CTRL_TRIGGER.ij 3 31) = 3 ∧
    (s.advance 10000000000).floorTime % (s.rd (Obj.FBC_TXB_PERIOD.ij 3 31) * 1000000) = 0 := by decide
theorem wit_CanTransmits_attempt : let s := asks 2 (some 31) [(Obj.FBC_TEC.i 3, 248)]
    (s.port 3).arb = some 31 ∧ s.txState 3 31 = 2 ∧ (s.txReq 3 31).again = false ∧ (s.txReq 3 31).cancel = false ∧ s.oneShot 3 31 = false ∧
    255 < s.rd (Obj.FBC_TEC.i 3) + 8 ∧ (asks 0 none []).fbc.ports.length = 1 := by decide
theorem wit_CanTransmits_retry : let s (o : Nat) := asks 2 (some 31) [(Obj.FBC_TXB_CTRL_RETRY_OVR.ij 3 31, o), (Obj.FBC_TXB_CTRL_RETRY_LIMIT.ij 3 31, 1)]
    (s 1).oneShot 3 31 = false ∧ ((s 1).txReq 3 31).failures + 1 ≤ (s 1).retryLimit 3 31 ∧ (s 1).rd (Obj.FBC_TEC.i 3) + 8 ≤ 255 ∧
    (s 1).mayTransmit 3 31 = true ∧ (s 2).oneShot 3 31 = true := by decide +kernel
theorem wit_CanTransmits_cancel : let s : State := { asks 2 (some 31) [] with fbc := { h6.fbc with ports := [(3, { arb := some 31, reqs := [(31, { cancel := true })] })] } }
    (s.txReq 3 31).cancel = true ∧ s.oneShot 3 31 = false := by decide
/-- Bus-off at the end of the delay, and recovering with no buffer waiting. -/
theorem wit_CanTransmits_recovery : let s (e : Nat) := bus [(Obj.FBC_ERR_STATE.i 3, e), (Obj.FBC_RECOVER_DELAY.i 3, 5)]
    ((s 2).errState 3 = 2 ∧ (s 2).on (Obj.FBC_RECOVER_WAIT.i 3) = false ∧
      (s 2).rd (Obj.FBC_BUSOFF_TIME.i 3) + (s 2).rd (Obj.FBC_RECOVER_DELAY.i 3) * 1000000 ≤ ((s 2).advance 5000000).floorTime ∧
      ((s 2).advance 4999999).floorTime < 5000000) ∧ (s 3).errState 3 = 3 ∧ (s 3).bufsIn 3 1 = [] ∧ (s 3).bufsIn 3 7 = [] := by decide +kernel

theorem wit_BusCommands_send : let s (ps st : Nat) := bus [(Obj.FBC_STATE.i 3, ps), (Obj.FBC_TXB_STATE.ij 3 31, st)]
    let p (n : Nat) : Bytes := le 1 3 ++ le 1 n ++ le 1 15 ++ le 1 0 ++ [1, 2]
    (∀ ps ∈ [0, 1], Admitted (s ps 0) (fr 2 (p 31)) (sess 2)) ∧ Admitted (s 0 0) (fr 2 (p 30)) (sess 2) ∧
    (s 0 0).reaches 2 (bufAddr 3 31 0x10) = true ∧ (s 0 0).reaches 2 (bufAddr 3 30 0x10) = false ∧ (s 0 0).bufOn 3 31 = true ∧
    (s 0 0).portState 3 ∈ [0, 4] ∧ (s 1 0).portState 3 ∉ [0, 4] ∧ (s 1 0).onBus 3 = false ∧ (s 1 0).errState 3 ≤ 1 ∧
    (s 1 0).txState 3 31 ∉ [1, 2, 7] ∧ (s 1 0).failed 3 = false := by
  refine ⟨fun ps h => ?_, admitted_of (conn1 2) (by decide), by decide +kernel⟩
  simp only [List.mem_cons, List.not_mem_nil, or_false] at h
  rcases h with rfl | rfl <;> exact admitted_of (conn1 2) (by decide)
theorem wit_BusCommands_rest : let s := fifo [elem]
    Admitted s (fr 2 (le 1 3 ++ le 1 7 ++ le 1 80 ++ le 1 0)) (sess 2) ∧ s.reaches 2 (fifoAddr 3 7 0) = true ∧
    Admitted s (fr 2 (le 1 3 ++ le 1 31 ++ le 2 0)) (sess 2) ∧ s.reaches 2 (bufAddr 3 31 0x50) = true ∧
    Admitted s (fr 2 (le 1 3 ++ le 3 0)) (sess 2) ∧ s.ownsRange 3 2 = true ∧ s.ownsRange 4 2 = false ∧
    Admitted o6 (fr 0 (le 1 23 ++ le 3 0)) (sess 0) ∧ o6.errState 23 ≤ 1 :=
  ⟨admitted_of (conn1 2) (by decide), by decide +kernel, admitted_of (conn1 2) (by decide), by decide +kernel, admitted_of (conn1 2) (by decide),
    by decide +kernel, by decide +kernel, admitted_of (conn1 0) (by decide), by decide⟩

end Sys2Proof.Tests
end

