-- ==== Sys2Proof/Tests/WitE.lean ====
section
/-!
SUPPORT. States that meet the hypotheses of the statements about the switch, the services and the legacy buses.
-/
namespace Sys2Proof.Tests
set_option Elab.async false
open Sys2Proof.Machine Sys2Proof.Claims

/-- A row's field at another place than the one listed stands at reset. -/
theorem get_row (c : Cells) (r : Row) (n k a m : Nat) (h : r.dims = [(n, k)]) (b : r.banked = false) (hk : 0 < k)
    (l : c.all (fun x => x.1.key == (r.i a).key || decide (x.1.key < 8 * r.base + r.lo) || decide ((x.1.key - (8 * r.base + r.lo)) % (8 * k) ≠ 0)) = true)
    (hm : m ≠ a) : c.get (r.i m) = r.reset := by
  have key (j : Nat) : (r.i j).key = 8 * (r.base + j * k) + r.lo := by simp [Fld.key, Row.i, Row.at, h, b]
  induction c with
  | nil => rfl
  | cons x t ih =>
    simp only [List.all_cons, Bool.and_eq_true] at l
    have ne : x.1.key ≠ (r.i m).key := fun e => by
      have l1 := l.1
      rw [e, key, key] at l1
      have z : (8 * (r.base + m * k) + r.lo - (8 * r.base + r.lo)) % (8 * k) = 0 := by
        have : 8 * (r.base + m * k) + r.lo - (8 * r.base + r.lo) = 8 * k * m := by
          have : m * k = k * m := Nat.mul_comm _ _
          have : 8 * k * m = 8 * (k * m) := Nat.mul_assoc _ _ _
          omega
        rw [this]
        exact Nat.mul_mod_right _ _
      simp only [z, ne_eq, not_true_eq_false, decide_false, Bool.or_false, Bool.or_eq_true, beq_iff_eq, decide_eq_true_eq] at l1
      rcases l1 with l1 | l1
      · have : m * k = a * k := by omega
        exact hm (Nat.eq_of_mul_eq_mul_right hk this)
      · omega
    rw [show Cells.get (x :: t) (r.i m) = if x.1.key = (r.i m).key then x.2 else Cells.get t (r.i m) from rfl, if_neg ne]
    exact ih l.2

/-! ### The switch -/

/-- Port 2 is an access port of VLAN 7, entry 0 of C02, with port 3 as its other member. -/
def lan (more : List (Fld × Nat)) : State :=
  h6.wrs ([(Obj.NSW_PORT_PVID.i 2, 7), (Obj.NSW_VLAN_ENABLE.i 0, 1), (Obj.NSW_VLAN_VID.i 0, 7), (Obj.NSW_VLAN_OWNER.i 0, 2),
    (Obj.NSW_VLAN_MEMBERS.i 0, 3)] ++ more)
def eth (p : Fin 7) (vid : Option Nat) (len : Nat) : EthFrame := { port := p, vid := vid, src := 0x0200000001, dst := 0x0200000002, len := len, ethertype := 0x800 }
theorem wit_TenantFrames : (∀ len ∈ [64, 1522], 64 ≤ (eth 2 none len).len ∧ (eth 2 none len).len ≤ 1522) ∧ (eth 2 none 64).ethertype ≠ 0x88A8 ∧
    (eth 2 none 64).ethertype ≠ 0x8808 ∧ (eth 2 none 64).fcsOk = true ∧ (lan []).portUsed 2 = true ∧ (at_ 3).portUsed 2 = false ∧
    frameVid (lan []) 2 none = some 7 ∧ frameVid (lan []) 2 (some 7) = some 7 ∧ frameVid (lan []) 2 (some 8) = none ∧ frameVid (lan []) 4 none = none ∧
    (lan []).member 0 2 = true ∧ (lan []).member 0 4 = false ∧ (eth 2 none 64).src ≠ (eth 2 none 64).dst ∧ groupMac (eth 2 none 64).src = false ∧
    (lan []).nsw.macs.length < 8192 ∧ 6 ∈ towards (lan []) 0 2 (eth 2 none 64) := by decide
theorem wit_TenantFrames_vlan : VlanIs (lan []) 7 0 := ⟨by decide, by decide, by decide, fun w h => absurd h (Nat.not_lt_zero w)⟩
/-- A bucket that is empty. -/
theorem wit_TenantFrames_rate : let s : State := { lan [] with nsw := { h6.nsw with buckets := [(0, ⟨10 ^ 9, 0⟩)] } }
    6 ∈ towards s 0 2 (eth 2 none 64) ∧ ((s.advance 0).meter 0 64).2 = false := by decide

/-- Cage A or B with its link. -/
def back (m : Nat) (more : List (Fld × Nat)) : State :=
  let s := (at_ m).wrs more
  { s with nsw := { s.nsw with cageA := { link := true, lastFrame := some 0 }, cageB := { link := true } } }
def bb (p : Fin 7) (vid : Option Nat) : EthFrame := { eth p vid 1528 with rct := some (0xB, 9) }
theorem wit_BackboneFrames_in : (∀ p ∈ [0, 1], (back 6 []).portUsed p = true ∧ ((back 6 []).cage p).link = true) ∧ 64 ≤ (bb 0 none).len ∧ (bb 0 none).len ≤ 1528 ∧
    (bb 0 none).fcsOk = true ∧ (bb 0 none).vid = none ∧ (back 6 []).rd Obj.NSW_BB_MODE.f = 0 ∧ (back 6 []).mode ≠ 2 ∧ (back 6 []).nsw.nodes.length < 512 ∧
    (bb 0 none).rct = some (0xB, 9) ∧ (0xB : Nat) ≠ 0xA + 0 ∧ (bb 0 none).supervision = false ∧ ((back 6 []).advance 0).duplicate (bb 0 none) = false ∧
    (back 6 []).portSends 6 = true ∧ (∀ v, (bb 0 (some 3)).vid = some v → v ≠ (back 6 []).rd Obj.NSW_BB_VID.f ∨ v = 0) ∧
    (back 6 [(Obj.NSW_BB_MODE.f, 2)]).rd Obj.NSW_BB_MODE.f = 2 ∧ (back 6 [(Obj.NSW_BB_MODE.f, 2)]).portUsed 0 = true := by decide
/-- A second copy within 400 ms. -/
theorem wit_BackboneFrames_duplicate : let s : State := { back 6 [] with nsw := { (back 6 []).nsw with dups := [(0x0200000001, 9, 0)] } }
    (s.advance 399999999).duplicate (bb 0 none) = true ∧ (s.advance 400000000).duplicate (bb 0 none) = false := by decide
def aged : State := { back 6 [] with nsw := { (back 6 []).nsw with macs := [⟨7, 1, 2, 0⟩], nodes := [(5, 0)] } }
def sfp : SfpModule := { present := true, powerMw := 1000, readable := true, baseR := true }
theorem wit_BackboneFrames_events : sfp.powerMw ≤ 1000 ∧ (⟨7, 1, 2, 0⟩ ∈ aged.nsw.macs ∧ 0 + 300000000000 ≤ (aged.advance 300000000000).floorTime) ∧
    ((5, 0) ∈ aged.nsw.nodes ∧ 0 + 60000000000 ≤ (aged.advance 60000000000).floorTime) ∧
    (back 6 []).nswOn = true ∧ (back 6 []).rd Obj.NSW_BB_MODE.f = 0 ∧ (back 2 []).mode = 2 := by decide
theorem wit_BackboneFrames_lan : LanUp ((back 6 []).advance 5999999999) 0 ∧ ¬ LanUp ((back 6 []).advance 6000000000) 0 :=
  ⟨⟨by decide, by decide, 0, by decide, by decide⟩, fun h => by
    obtain ⟨-, -, x, e, l⟩ := h
    have : some x = some 0 := e.symm.trans (by decide)
    have : x = 0 := by simpa using this
    subst this
    exact absurd l (by decide)⟩

/-! ### Services -/

/-- C00 of a quiet configuration with a VLAN, and one service entry, number 5: an analog value that may be written. -/
def served (ty : Nat) : State :=
  calm.wrs [(Obj.NSW_VLAN_ENABLE.i 0, 1), (Obj.NSW_VLAN_VID.i 0, 7), (Obj.NSW_VLAN_OWNER.i 0, 2), (Obj.NSW_SE_ENABLE.i 5, 1), (Obj.NSW_SE_OWNER.i 5, 2),
    (Obj.NSW_SE_OBJ_TYPE.i 5, ty), (Obj.NSW_SE_INSTANCE.i 5, 4), (Obj.NSW_SE_POINT.i 5, 8191), (Obj.NSW_SE_WRITABLE.i 5, 1)]
theorem only5 (n : Nat) (h : n ≠ 5) : (served 2).on (Obj.NSW_SE_ENABLE.i n) = false := by
  unfold State.on State.rd
  rw [get_row _ _ 4096 16 5 n rfl rfl (by decide) (by decide) h]
  rfl
theorem wit_BacnetRequests_entry : VlanIs (served 2) 7 0 ∧ (served 2).pcxServes = true ∧ (served 2).rd (Obj.NSW_VLAN_OWNER.i 0) = 2 ∧
    Entry (served 2) 2 0 5 ∧ ObjectIs (served 2) 2 2 4 5 ∧ (at_ 3).pcxServes = false := by
  refine ⟨⟨by decide, by decide, by decide, fun w h => absurd h (Nat.not_lt_zero w)⟩, by decide, by decide, ⟨by decide, by decide, by decide, by decide⟩, ?_, by decide⟩
  refine ⟨⟨⟨by decide, by decide, by decide, by decide⟩, by decide, by decide⟩, fun n h e => ?_⟩
  have := e.1.2.1
  rw [only5 n (by omega)] at this
  exact absurd this (by decide)
theorem wit_BacnetRequests_unknown (m : Nat) : ¬ ObjectIs (served 2) 2 2 3 m ∧ ¬ Entry (served 2) 3 0 m := by
  refine ⟨fun e => ?_, fun e => ?_⟩
  · have k : m = 5 := by
      by_contra h
      have := e.1.1.2.1
      rw [only5 m h] at this
      exact absurd this (by decide)
    subst k
    exact absurd e.1.2.2 (by decide)
  · have k : m = 5 := by
      by_contra h
      have := e.2.1
      rw [only5 m h] at this
      exact absurd this (by decide)
    subst k
    exact absurd e.2.2.2 (by decide)
theorem wit_BacnetRequests_write : (served 2).on (Obj.NSW_SE_WRITABLE.i 5) = true ∧ (served 2).setRefused 8191 = false ∧ (served 2).scan.hold = none ∧
    (∀ k, k + 1 < 16 → ((served 2).service 5).prio.getD k none = none) ∧ (h6.on (Obj.NSW_SE_WRITABLE.i 5) = false) := by
  refine ⟨by decide, by decide +kernel, by decide, fun k _ => ?_, by decide⟩
  simp [State.service, served, calm, State.wrs]
  rfl

/-- C02 publishes point 0 with entry 0 over MQTT. -/
def topic (more : List (Fld × Nat)) : State :=
  h6.wrs ([(Obj.NSW_SVC_MQTT_BROKER.i 2, 1), (Obj.KSE_TLS_CLIENT_SLOT.b 2, 24), (Obj.KSE_SLOT_STATE.i 24, 1), (Obj.KSE_SLOT_OWNER.i 24, 2),
    (Obj.KSE_SLOT_KTYPE.i 24, 3), (Obj.KSE_SLOT_USAGE.i 24, 0), (Obj.NSW_SE_ENABLE.i 0, 1), (Obj.NSW_SE_OWNER.i 0, 2),
    (Obj.NSW_SE_SERVICE.i 0, 1), (Obj.NSW_SE_WRITABLE.i 0, 1)] ++ more)
theorem wit_TopicsAndNotices_message : (topic []).pcxServes = true ∧ (topic []).mqttUp 2 = true ∧ h6.mqttUp 2 = false ∧ (topic []).on (Obj.NSW_SE_WRITABLE.i 0) = true ∧
    (topic []).setRefused 0 = false ∧ (topic []).scan.hold = none ∧ { topic [] with scan := { (topic []).scan with hold := some 1 } }.scan.hold ≠ none := by
  decide +kernel
theorem wit_TopicsAndNotices_mine : Entry (topic []) 2 1 0 ∧ (topic []).rd (Obj.NSW_SE_POINT.i 0) = 0 := ⟨⟨by decide, by decide, by decide, by decide⟩, by decide⟩
/-- A value that moved by just the increment, at the end of the least period, and one that did not move. -/
theorem wit_TopicsAndNotices_notice : let s (v : Nat) : State := { topic [(Obj.NSW_SE_FORMAT.i 0, 1), (Obj.NSW_SE_COV_INC.i 0, 0x40000000), (Obj.NSW_SE_PERIOD_MIN.i 0, 1000), (Obj.PIMG_PT.i 0, v)] with
      nsw := { h6.nsw with services := [(0, { last := some (0, 0) })] } }
    moved 1 0x40000000 0 ((s 2).pt 0) = true ∧ moved 1 0x40000000 0 ((s 1).pt 0) = false ∧
    0 + (s 2).rd (Obj.NSW_SE_PERIOD_MIN.i 0) * 1000000 ≤ ((s 2).advance 1000000000).floorTime ∧ ((s 2).service 0).last = some (0, 0) := by decide +kernel

/-! ### Legacy buses -/

/-- Port 0 runs in mode `m`; mapping 2047 of C02 is on it. -/
def wire (p m : Nat) (x : LbxPort) (more : List (Fld × Nat)) : State :=
  let s := h6.wrs ([(Obj.LBX_PORT_MODE.i p, m), (Obj.LBX_PORT_OWNER.i p, 2), (Obj.LBX_MAP_ENABLE.i 2047, 1), (Obj.LBX_MAP_PORT.i 2047, p),
    (Obj.LBX_MAP_POINT.i 2047, 8191)] ++ more)
  { s with lbx := { s.lbx with ports := [(p, { x with running := true })] } }
theorem wit_LegacyTransactions_due : let s := wire 0 2 {} []
    let w := wire 0 2 { waiting := [(0, 2047)] } [(Obj.LBX_MAP_DIR.i 2047, 1)]
    (s.lmapOn 2047 = true ∧ (s.lport 0).running = true ∧ s.lmapWrite 2047 = false ∧ (∀ y ∈ (s.lport 0).waiting, y.2 ≠ 2047)) ∧
    (w.lmapWrite 2047 = true ∧ w.sentOf 2047 ≠ some (w.pt (w.lmapPoint 2047)) ∧ (∃ y ∈ (w.lport 0).waiting, y.2 = 2047)) ∧ h6.lmapOn 2047 = false := by decide
theorem wit_LegacyTransactions_start : let s := wire 0 2 { waiting := [(9, 2047), (5, 2047)] } [(Obj.LBX_MAP_ADDR.i 2047, 17), (Obj.LBX_MAP_SELECT.i 2047, 0x030010), (Obj.LBX_MAP_FORMAT.i 2047, 2)]
    (s.lport 0).running = true ∧ s.halted 4 = false ∧ (s.lport 0).cur = none ∧ (s.lport 0).quietUntil ≤ (s.advance 10).floorTime ∧
    s.lmode 0 = 2 ∧ bits (s.rd (Obj.LBX_MAP_SELECT.i 2047)) 16 8 = 3 := by decide
theorem wit_LegacyTransactions_first : DueFirst ((wire 0 2 { waiting := [(9, 2047), (5, 2047)] } []).lport 0).waiting (5, 2047) := by
  unfold DueFirst
  decide
theorem wit_LegacyTransactions_silent : let s := wire 8 1 {} [(Obj.LBX_MAP_DIR.i 2047, 1)]
    let u := wire 0 2 {} [(Obj.LBX_MAP_DIR.i 2047, 1), (Obj.LBX_MAP_ADDR.i 2047, 0)]
    (s.lmapWrite 2047 = true ∧ 8 ≤ s.lmapPort 2047 ∧ s.lmapPort 2047 < 14) ∧
    (u.lmapWrite 2047 = true ∧ u.lmapPort 2047 < 8 ∧ u.lmode 0 = 2 ∧ u.rd (Obj.LBX_MAP_ADDR.i 2047) % 256 = 0) := by decide
/-- A read of one register by Modbus, with a retry left or none. -/
def txn (left : Nat) (w : Bool) : LbxTxn :=
  { map := 2047, at_ := 0, left := left, timeout := 500, owner := 2, mode := 2, point := 8191, write := w, format := 2, addr := 17, select := 0x030010, bytes := [] }
theorem wit_LegacyTransactions_answer : let s (c : LbxTxn) := wire 0 2 { cur := some c } []
    (∀ w ∈ [true, false], ((s (txn 0 w)).lport 0).cutOff = none ∧ ((s (txn 0 w)).lport 0).cur = some (txn 0 w) ∧ (s (txn 0 w)).discarded 0 (txn 0 w) = false) ∧
    (txn 0 false).value 0 [1, 2] = some 258 ∧ (txn 0 false).value 0 [1] = none ∧ (s (txn 0 false)).scan.hold = none ∧
    (s { txn 0 false with owner := 3 }).discarded 0 { txn 0 false with owner := 3 } = true ∧ (0 < (txn 1 false).left ∧ (txn 0 false).left = 0) ∧
    (0 : Nat) + (txn 0 false).timeout * 1000000 ≤ ((s (txn 0 false)).advance 500000000).floorTime := by decide

theorem wit_LegacyBuses_dali : let s := wire 8 1 {} [(Obj.LBX_MAP_ADDR.i 2047, 63), (Obj.LBX_MAP_SELECT.i 2047, 0x1F02)]
    (s.lport 8).running = true ∧ s.scan.hold = none ∧ (s.lmapOn 2047 = true ∧ s.lmapPort 2047 = 8 ∧ s.lmapWrite 2047 = false ∧
      s.rd (Obj.LBX_MAP_ADDR.i 2047) = 63 ∧ 2 ≤ s.rd (Obj.LBX_MAP_SELECT.i 2047) % 256 ∧ bits (s.rd (Obj.LBX_MAP_SELECT.i 2047)) 8 8 = 0x1F) := by decide
theorem wit_LegacyBuses_mbus : let s := wire 14 1 { cutOff := some 9 } []
    (s.lport 14).running = true ∧ (s.lport 14).cutOff = some 9 ∧ 9 ≤ (s.advance 9).floorTime ∧ (s.advance 8).floorTime < 9 := by decide
theorem wit_LegacyBuses_mstp : let s := wire 7 1 { nextStation := some 4 } [(Obj.LBX_PORT_LOCAL_ADDR.i 7, 3), (Obj.LBX_PORT_DEV_INST.i 7, 2 ^ 22)]
    s.lmode 7 = 1 ∧ (s.lport 7).running = true ∧ s.rd (Obj.LBX_PORT_LOCAL_ADDR.i 7) = 3 ∧ (s.lport 7).nextStation = some 4 ∧
    s.rd (Obj.LBX_PORT_DEV_INST.i 7) ≤ 2 ^ 22 ∧ ((wire 7 1 {} []).lport 7).nextStation = none := by decide
theorem wit_LegacyBuses_commands : ∀ p ∈ [7, 8, 13, 14, 15], Admitted (wire p 1 {} []) (fr 2 (le 1 p ++ le 3 0)) (sess 2) ∧
    (wire p 1 {} []).rd (Obj.LBX_PORT_OWNER.i p) = 2 ∧ (wire p 1 {} []).failed 4 = false ∧ (wire p 1 {} []).failed 14 = false := by
  intro p h
  simp only [List.mem_cons, List.not_mem_nil, or_false] at h
  rcases h with rfl | rfl | rfl | rfl | rfl <;> exact ⟨admitted_of (conn1 2) (by decide), by decide⟩

end Sys2Proof.Tests
end

