-- ==== Sys2Proof/Tests/WitF.lean ====
section
/-!
SUPPORT. States that meet the hypotheses of the statements about time, memories, the performance monitor and the ageing monitor.
-/
namespace Sys2Proof.Tests
set_option Elab.async false
open Sys2Proof.Machine Sys2Proof.Claims

/-- The owner hosted in M6 with fields set. -/
def set0 (l : List (Fld × Nat)) : State := o6.wrs l

/-! ### Time -/

/-- At the instant at which a state stands nothing passes. -/
theorem at_rest (s : State) (t : Nat) (h : t ≤ s.floorTime) (f : s.rtc.frac < 10 ^ 18) (k : s.rtc.ticks < 2 ^ 48) : s.advance t = s := by
  have a : t - s.floorTime = 0 := by omega
  have b : s.rtc.frac / 10 ^ 18 = 0 := Nat.div_eq_of_lt f
  have c : s.rtc.frac % 10 ^ 18 = s.rtc.frac := Nat.mod_eq_of_lt f
  have d : s.rtc.ticks % 2 ^ 48 = s.rtc.ticks := Nat.mod_eq_of_lt k
  have e : max s.floorTime t = s.floorTime := by omega
  unfold State.advance Rtc.tick
  simp only [a, Nat.zero_mul, Nat.add_zero, b, c, d, e, Nat.zero_min, Nat.sub_zero, if_true]

def sync (o : Int) : PtpSync := { gm := 5, offset := o, utcOfs := 69, utcValid := true }
def locked (st good : Nat) : State := let s := set0 [(Obj.TIME_FT_STATE_SYNC.f, st)]; { s with ptp := { s.ptp with good := good } }
/-- Every branch of a Sync message at the offsets where they meet. -/
theorem wit_PtpDiscipline_sync : (locked 1 14).failed 5 = false ∧ (locked 1 14).failed 14 = false ∧ (locked 1 14).failed 17 = false ∧
    (locked 1 14).ptp.refused = none ∧ (sync (-60000000001)).offset < -60000000000 ∧ -60000000000 ≤ (sync (-60000000000)).offset ∧
    10000000 < (sync 10000001).offset ∧ (sync 10000000).offset ≤ 10000000 ∧ (-1000 < (sync 999).offset ∧ (sync 999).offset < 1000) ∧
    ¬ (-1000 < (sync (-1000)).offset ∧ (sync (-1000)).offset < 1000) ∧ (locked 1 14).ptp.good < 15 ∧ 15 ≤ (locked 1 15).ptp.good ∧
    (locked 1 14).rd Obj.TIME_FT_STATE_SYNC.f = 1 ∧ (locked 1 14).castlings = [] ∧ (locked 1 14).ptp.step = none := by decide
theorem wit_PtpDiscipline_refused : let s : State := { o6 with ptp := { o6.ptp with refused := some (5, 600000000000) } }
    s.ptp.refused = some (5, 600000000000) ∧ 600000000000 ≤ (s.advance 600000000000).floorTime ∧ (s.advance 599999999999).floorTime < 600000000000 := by decide
theorem wit_PtpDiscipline_lost : let s := locked 2 0
    s.ptp.lastSync + 3000000000 ≤ (s.advance 3000000000).floorTime ∧ s.rd Obj.TIME_FT_STATE_SYNC.f ∈ [1, 2] ∧
    (s.advance 2999999999).floorTime < s.ptp.lastSync + 3000000000 := by decide
theorem wit_PtpDiscipline_step : let s : State := { o6 with ptp := { o6.ptp with step := some (20000000, 10000000) } }
    s.ptp.step = some (20000000, 10000000) ∧ 20000000 ≤ (s.advance 20000000).floorTime ∧ (s.advance 19999999).floorTime < 20000000 := by decide

/-- 2000-02-29, 23:59:59, in BCD. -/
def feb29 : Bytes := [0x59, 0x59, 0x23, 0x29, 2, 0x02, 0x00, 0]
theorem wit_CalendarCommands_set : let f := fr 0 (feb29 ++ le 2 32767 ++ le 1 1 ++ le 1 0)
    Admitted o6 f (sess 0) ∧ o6.advance 0 = o6 ∧ o6.shifting = false ∧ o6.on Obj.TIME_CFG_FOLLOW_PTP.f = false ∧
    calendarSeconds feb29 = some (59 * 86400 + 86399) ∧ calendarSeconds ([0x60] ++ feb29.drop 1) = none :=
  ⟨admitted_of (conn1 0) (by decide), at_rest _ _ (by decide) (by decide) (by decide), by decide⟩
def shifted (n : Nat) : State := { set0 [(Obj.TIME_CFG_FOLLOW_PTP.f, 1)] with rtc := { o6.rtc with suppress := n, valid := true } }
theorem wit_CalendarCommands_shift : (shifted 9).shifting = true ∧ (shifted 0).on Obj.TIME_CFG_FOLLOW_PTP.f = true ∧
    (∀ n ∈ [0, 1, 32767, 32768, 32769, 65535], Admitted o6 (fr 0 (le 2 n ++ le 2 0)) (sess 0)) ∧ 0 < sgn 16 32767 ∧ sgn 16 32769 < 0 ∧
    Admitted h6 (fr 2 []) (sess 2) := by
  refine ⟨by decide, by decide, fun n h => ?_, by decide, by decide, admitted_of (conn1 2) (by decide)⟩
  simp only [List.mem_cons, List.not_mem_nil, or_false] at h
  rcases h with rfl | rfl | rfl | rfl | rfl | rfl <;> exact admitted_of (conn1 0) (by decide)
theorem wit_CalendarCommands_events : let s : State := { o6 with rtc := { o6.rtc with setReq := some (7, true) } }
    let e : State := { o6 with rtc := { o6.rtc with cal := calSpan } }
    e.advance 0 = e ∧ s.rtc.setReq = some (7, true) ∧ calSpan ≤ e.rtc.cal ∧ o6.rtc.cal < calSpan ∧ o6.shifting = false :=
  ⟨at_rest _ _ (by decide) (by decide) (by decide), by decide⟩

/-- Alarm 15, armed for second 5 of the calendar. -/
def alarmed (m : Nat) (more : List (Fld × Nat)) : State :=
  let s := (at_ m).wrs ([(Obj.TIME_ALM_CFG_ENABLE.i 15, 1), (Obj.TIME_ALM_CFG_WAKE.i 15, 1)] ++ more)
  { s with rtc := { s.rtc with cal := 5 * 32768, valid := true, next := [(15, some 5)] } }
theorem wit_AlarmsAndCorrelation_fire : (∀ m, (alarmed m []).advance 0 = alarmed m []) ∧ (∀ m ∈ [1, 2, 6, 10], (alarmed m []).rtc.next.get none 15 = some 5 ∧ (alarmed m []).rtc.valid = true ∧
      (alarmed m []).on (Obj.TIME_ALM_CFG_ENABLE.i 15) = true ∧ 5 ≤ (alarmed m []).calSecs ∧ (alarmed m []).power.transition = none ∧
      bit ((alarmed m []).rd Obj.PWR_WAKE_EN.f) 1 = true ∧ (alarmed m []).rd Obj.PWR_WAKE_CAUSE.f = 0) ∧
    (alarmed 6 []).on (Obj.TIME_ALM_CFG_PERIODIC.i 15) = false ∧ (alarmed 6 [(Obj.TIME_ALM_CFG_PERIODIC.i 15, 1)]).on (Obj.TIME_ALM_CFG_PERIODIC.i 15) = true :=
  ⟨fun m => at_rest _ _ (Nat.zero_le _) (show (0 : Nat) < 10 ^ 18 by decide) (show (0 : Nat) < 2 ^ 48 by decide), by decide⟩
theorem wit_AlarmsAndCorrelation_cfg : let s := (set0 [(Obj.TIME_PTP_UTC_OFS_VALID.f, 1), (Obj.TIME_FT_STATE_SYNC.f, 2), (Obj.TIME_CFG_FOLLOW_PTP.f, 1)])
    s.compOf (.session 1) = 0 ∧ sgn 8 (bits 0x3801 8 8) = 56 ∧ sgn 8 (bits 0xC801 8 8) = -56 ∧ s.shifting = false ∧
    s.on Obj.TIME_PTP_UTC_OFS_VALID.f = true ∧ s.rd Obj.TIME_FT_STATE_SYNC.f = 2 ∧ s.on Obj.TIME_CFG_FOLLOW_PTP.f = true ∧
    o6.on Obj.TIME_CORR_CTRL_AUTO.f = true ∧ h6.compOf (.session 1) ≠ 0 := by decide
/-- The calendar behind the target, ahead of it, and far off. -/
theorem wit_AlarmsAndCorrelation_compare : let s (ns cal : Nat) : State := { set0 [(Obj.TIME_PTP_UTC_OFS.f, 32)] with floorTime := ns, rtc := { o6.rtc with cal := cal, valid := true } }
    (0 < (s 1000000000 32767).targetCal - 32767 ∧ (s 1000000000 32767).targetCal - 32767 < 32768) ∧ (s 1000000000 32769).targetCal - 32769 < 0 ∧
    (s 1000000000 32768).targetCal = 32768 ∧ 32768 ≤ (s 2000000000 32768).targetCal - 32768 := by decide

def reader (l : List Shadow) (o : List Requester) : State := { o6 with rtc := { o6.rtc with shadows := l, owed := o } }
def shadows (n : Nat) : List Shadow := (List.range n).map fun i => { who := .session (10 + i), frozenAt := 0, ticks := 0, cal := 0, stat := 0 }
theorem wit_RtcGroup : (∀ x ∈ (reader (shadows 15) []).rtc.shadows, x.who ≠ .session 1) ∧ (Requester.session 1) ∉ (reader (shadows 15) []).rtc.owed ∧
    (reader (shadows 15) []).rtc.shadows.length < 16 ∧ 16 ≤ (reader (shadows 16) []).rtc.shadows.length ∧
    (∀ x ∈ (shadows 16).drop 1, x.who ≠ .session 10) ∧ (Requester.session 1) ∈ (reader [] [.session 1]).rtc.owed := by decide
theorem wit_RtcGroup_held : let s := reader [{ who := .session 1, frozenAt := 0, ticks := 0, cal := 0, stat := 0 }] []
    (s.rtc.shadows.find? (fun x => x.who == .session 1)).isSome = true ∧ 0 + 2000000 ≤ (s.advance 2000000).floorTime ∧
    (s.advance 1999999).floorTime < 0 + 2000000 := by decide

/-! ### Memories -/

theorem wit_Memories_ue : (o6.mode ∉ [0, 1, 3, 10]) ∧ (runs (ply 1 2)).running 0 = some (ply 1 2) ∧ (set0 [(Obj.KSE_SLOT_STATE.i 255, 1)]).slotState (255 * 128 / 128 % 256) ≠ 0 ∧
    (∀ b ∈ [84, 88], 84 ≤ b ∧ b ≤ 88) ∧ o6.mode ≠ 10 := by decide
def test1 : MteTest := { bank := 98, preserving := true, at_ := 0 }
/-- A test with one spare row left, and with none. -/
theorem wit_Memories_test : let s (n : Nat) : State := { set0 [(Obj.MEM_BANK_SPARES.i 98, n)] with mte := some test1 }
    (s 3).mte = some test1 ∧ test1.bank < 99 ∧ (s 3).rd (Obj.MEM_BANK_SPARES.i 98) + [7].length ≤ 4 ∧
    4 < (s 4).rd (Obj.MEM_BANK_SPARES.i 98) + [7].length ∧ (s 3).power.causes = [] ∧ o6.mte = none := by decide
def run (bank m : Nat) : Frame := fr 0 (le 2 bank ++ le 1 m ++ le 1 0)
theorem wit_Memories_run : Admitted o6 (run 0 1) (sess 0) ∧ Admitted (hosted (at_ 8) 0) (run 154 0) (sess 0) ∧ Admitted o6 (run 155 1) (sess 0) ∧
    o6.failed 13 = false ∧ mayPreserve 0 o6.mode = true ∧ mayPreserve 154 o6.mode = false ∧ (hosted (at_ 8) 0).regionFree 154 = true ∧
    (hosted (at_ 8) 0).regionFree 152 = true ∧ o6.mte = none ∧ Admitted { o6 with mte := some test1 } (fr 0 []) (sess 0) :=
  ⟨admitted_of (conn1 0) (by decide), admitted_of (conn1 0) (by decide), admitted_of (conn1 0) (by decide), by decide, by decide, by decide,
    by decide +kernel, by decide +kernel, by decide, admitted_of (conn1 0) (by decide)⟩

/-! ### Performance monitor -/

def counting (n : Nat) : State := set0 ((List.range n).map fun u => (Obj.PMON_CNT_ENABLE.ij u 0, 1))
theorem wit_MonitorEvents_writer : PmonWriter o6 (.session 1) ∧ ¬ PmonWriter h6 (.session 1) ∧ (counting 4).pmonUnits ≤ 4 ∧ 4 < (counting 5).pmonUnits := by
  unfold PmonWriter
  decide +kernel
theorem wit_MonitorEvents_arm : let s := set0 [(Obj.PMON_FREEZE_AT.f, 1000), (Obj.PMON_STATUS_ARMED.f, 1)]
    (s.advance 999).floorTime < s.rd Obj.PMON_FREEZE_AT.f ∧ s.rd Obj.PMON_FREEZE_AT.f ≤ (s.advance 1000).floorTime ∧
    s.on Obj.PMON_STATUS_ARMED.f = true ∧ s.failed 11 = false := by decide
theorem wit_MonitorEvents_enable : o6.failed 14 = false ∧ o6.on Obj.PMON_CTRL_DUMP_EN.f = false ∧ o6.on Obj.PMON_CTRL_SAMP_EN.f = false ∧
    o6.pmon.counts.length = 2 ∧ (set0 [(Obj.PMON_CTRL_DUMP_EN.f, 1), (Obj.PMON_CTRL_SAMP_EN.f, 1)]).on Obj.PMON_CTRL_SAMP_EN.f = true := by decide
theorem wit_MonitorEvents_dump : let s := set0 [(Obj.PMON_CTRL_DUMP_EN.f, 1)]
    s.on Obj.PMON_CTRL_DUMP_EN.f = true ∧ (s.advance 1000000000).floorTime % (100000 * s.rd Obj.PMON_DUMP_INTERVAL.f) = 0 ∧ s.failed 11 = false ∧
    s.failed 14 = false ∧ s.pmon.lastFreeze ≠ some 1000000000 := by decide
def sampled : Sampled := { engine := 1, pc := 8, op := 3, comp := 2, entry := 15, inst := 0 }
theorem wit_MonitorEvents_sample : let s : State := { o6 with pmon := { o6.pmon with sampled := [sampled] } }
    s.pmon.sampled.find? (fun x => x.engine == 1) = some sampled ∧ s.on Obj.PMON_STATUS_SAMP_STOPPED.f = false ∧ s.failed 11 = false ∧
    s.pmon.samp.length + 1 < 2048 ∧ s.pmon.sampled.find? (fun x => x.engine == 0) = none := by decide

def dumped (l : List (Nat × Bytes)) : State := { o6 with pmon := { o6.pmon with dump := l, samp := l } }
theorem wit_MonitorCommands : let s := dumped [(7, [1]), (8, [2])]
    (∀ n ∈ [6, 7, 9], Admitted s (fr 0 (le 4 n ++ le 2 159 ++ le 2 0)) (sess 0) ∧ Admitted s (fr 0 (le 4 n ++ le 2 2048 ++ le 1 1 ++ le 1 0)) (sess 0)) ∧
    ¬ Held s.pmon.dump 6 ∧ Held s.pmon.dump 7 ∧ Held s.pmon.samp 9 ∧ Admitted (counting 4) (fr 0 []) (sess 0) ∧ Admitted (counting 5) (fr 0 []) (sess 0) := by
  refine ⟨fun n h => ?_, fun h => absurd (h (7, [1]) rfl) (by decide), fun r e => ?_, fun r e => ?_, admitted_of (conn1 0) (by decide), admitted_of (conn1 0) (by decide)⟩
  · simp only [List.mem_cons, List.not_mem_nil, or_false] at h
    rcases h with rfl | rfl | rfl <;> exact ⟨admitted_of (conn1 0) (by decide), admitted_of (conn1 0) (by decide)⟩
  · have : r = (7, [1]) := (Option.some.inj e).symm
    subst this
    decide
  · have : r = (7, [1]) := (Option.some.inj e).symm
    subst this
    decide
/-- A tenant whose samples are opened to it, and whose filter names it. -/
theorem wit_MonitorCommands_tenant : let s := h6.wrs [(Obj.PERF_USER_EN.f, 4), (Obj.PMON_SAMP_FILTER_EN.f, 1), (Obj.PMON_SAMP_COMP.f, 2)]
    Admitted s (fr 2 (le 4 0 ++ le 2 1 ++ le 1 0 ++ le 1 0)) (sess 2) ∧ bit (s.rd Obj.PERF_USER_EN.f) 2 = true ∧
    (s.on Obj.PMON_SAMP_FILTER_EN.f = true ∧ s.rd Obj.PMON_SAMP_COMP.f = 2) ∧ bit (h6.rd Obj.PERF_USER_EN.f) 2 = false :=
  ⟨admitted_of (conn1 2) (by decide), by decide⟩

/-! ### Ageing monitor -/

def measure (k : Nat) (l : List Nat) : AgmMeasure := { kind := k, values := l }
def runningKind (k : Nat) : State := { o6 with agm := { o6.agm with running := some k } }
theorem wit_AgeingMonitor_measure : (∀ k ∈ [2, 4, 5, 8], (o6.advance 0).agmOpen k = true ∧ k ≠ 3 ∧ o6.agm.running ≠ some k) ∧ o6.failed 12 = false ∧
    (runningKind 3).agm.running = some 3 ∧ (runningKind 3).failed 12 = false ∧ (set0 [(Obj.PWR_UNIT_FAIL.f, 2 ^ 12)]).failed 12 = true ∧
    (5 ∉ o6.agm.crossed) ∧ (o6.advance 0).agmOpen 3 = true ∧ (at_ 3).agmOpen 3 = false := by decide
/-- A quiet configuration whose least slack asks for an urgent re-plan, due now. -/
def planning (m : Nat) (more : List (Fld × Nat)) : State :=
  let s := calm.wrs ([(Obj.IDENT_MODE.f, m), (Obj.AGM_SLACK_MIN.f, 299)] ++ more)
  { s with agm := { s.agm with canaries := [(0, 299, 0)], retryAt := some 0 } }
def plan1 : Replan := { clk := 760, gb := 60, commitMs := 1000, tdco := [], urgent := true, visible := true, oldClk := 800, oldGb := 20 }
theorem plan_instant (s : State) (p : Replan) (part : CastPart) (t : Nat) (h : s.planInstants p part.lead = [t]) (i : s.instantOk t part.lead = true)
    (j : s.judgeCommit s.castlings part t = none) : s.planInstant p part = some t := by
  simp [State.planInstant, h, i, j]
theorem wit_AgeingMonitor_forms : ((planning 6 []).advance 0).formPlan wholePlan false =
      some { plan1 with commitMs := (planning 6 []).rd Obj.MAE_COMMIT_MS.f } ∧ ((planning 6 []).advance 0).planRefusal = none ∧
    ((planning 9 []).advance 0).planRefusal = some 0x40 ∧ (planning 6 []).agm.retryAt = some 0 ∧ (o6.advance 0).formPlan wholePlan false = none ∧
    ((planning 6 []).advance 0).castlings = [] := by decide +kernel
theorem wit_AgeingMonitor_stands : let b := (planning 6 []).advance 0
    let p : Replan := { plan1 with commitMs := (planning 6 []).rd Obj.MAE_COMMIT_MS.f }
    b.planInstant p (planPart b p) = some 1000000000 :=
  plan_instant _ _ _ _ (by decide +kernel) (by decide +kernel) (Quiet.commit _ _ _ (quiet_of _ (by decide +kernel)) (by decide) (by decide +kernel) (by decide +kernel))
/-- The same with a point given to no compartment: no instant is allowed. -/
theorem wit_AgeingMonitor_waits : let b := (planning 6 [(Obj.CAST_OWN_PT.i 0, 40)]).advance 0
    let p : Replan := { plan1 with commitMs := (planning 6 []).rd Obj.MAE_COMMIT_MS.f }
    b.planInstant p (planPart b p) = none := by decide +kernel
theorem wit_AgeingMonitor_commands : (∀ k ∈ [0, 8], Admitted o6 (fr 0 (le 1 k ++ le 3 0)) (sess 0) ∧ (o6.advance 0).agmOpen k = true) ∧
    (∀ r ∈ [0, 1], Admitted (planning 6 []) (fr 0 (le 1 r ++ le 3 0)) (sess 0)) ∧ (o6.advance 0).agmOpen 6 = false ∧ (runningKind 3).agm.running ≠ none ∧
    (o6.advance 0).formPlan { margin := false, commit := false, tdco := false } true = none := by
  refine ⟨fun k h => ?_, fun k h => ?_, by decide, by decide, by decide +kernel⟩ <;> simp only [List.mem_cons, List.not_mem_nil, or_false] at h <;>
    rcases h with rfl | rfl
  · exact ⟨admitted_of (conn1 0) (by decide), by decide⟩
  · exact ⟨admitted_of (conn1 0) (by decide), by decide⟩
  · exact admitted_of (conn1 0) (by decide)
  · exact admitted_of (conn1 0) (by decide)

/-! ### Invariants -/

theorem wit_Invariants : 2 ≤ State.reset.mode ∧ State.reset.regs.wf = true ∧ step State.reset = .next (State.reset.advance (State.reset.floorTime + 8)) := by
  refine ⟨by decide, by decide, rfl⟩

end Sys2Proof.Tests
end

section
/-!
SUPPORT. Proofs about the registers of a ply (R146) and its traps (R157, R158, R164, R166).
-/
namespace Sys2Proof.Machine
open Sys2Proof.Claims

/-! ### General registers (R146) -/

@[simp] theorem Ply.g_zero (p : Ply) : p.g 0 = 0 := rfl

@[simp] theorem Ply.setG_zero (p : Ply) (v : Word64) : p.setG 0 v = p := rfl

/-- A register other than G0 reads what was written to it. -/
theorem Ply.g_setG_self (p : Ply) {r : Fin 32} (v : Word64) (hl : p.regs.length = 32) (hr : r ≠ 0) : (p.setG r v).g r = v := by
  have hlt : r.val < p.regs.length := by rw [hl]; exact r.isLt
  simp [Ply.g, Ply.setG, hr, hlt]

/-- Writing a register leaves every other one alone. -/
theorem Ply.g_setG_ne (p : Ply) {d r : Fin 32} (v : Word64) (h : r ≠ d) : (p.setG d v).g r = p.g r := by
  have hne : d.val ≠ r.val := fun e => h (Fin.ext e.symm)
  by_cases hd : d = 0
  · rw [hd, Ply.setG_zero]
  · simp [Ply.g, Ply.setG, hd, hne]

/-! ### A new ply (R146) -/

theorem State.newPly_regs (s : State) (c : Nat) (t : ImgTask) (g : Prog) (stepped : Bool) :
    (s.newPly c t g stepped).regs = List.replicate 32 0 := rfl

theorem State.newPly_g (s : State) (c : Nat) (t : ImgTask) (g : Prog) (stepped : Bool) (r : Fin 32) :
    (s.newPly c t g stepped).g r = 0 := by
  rw [Ply.g, State.newPly_regs, List.getD_replicate (h := r.isLt), ite_self]

/-- The root instance of the task is the current one of its new ply. -/
theorem State.newPly_ib (s : State) (c : Nat) (t : ImgTask) (g : Prog) (stepped : Bool) {x : Inst} (hx : g.instIx t.root = some x) :
    (s.newPly c t g stepped).ib = x.id := by
  simp [State.newPly, hx]

/-- A new ply starts at the entry function of its root instance's type. -/
theorem State.newPly_pc (s : State) (c : Nat) (t : ImgTask) (g : Prog) (stepped : Bool) {x : Inst} {ty : ImgType} {f : ImgFunc}
    (hx : g.instIx t.root = some x) (hty : g.image.types[x.typeIx]? = some ty) (hf : g.image.funcs[ty.entry]? = some f) :
    (s.newPly c t g stepped).pc = f.off := by
  simp [State.newPly, hx, hty, hf]

/-! ### Where the fields of a task's entry lie -/

/-- The field lies, in the bank of some compartment, in the array of task entries: 0x110000 to 0x111FFF. -/
def Fld.inTaskEntries (f : Fld) : Prop := 8 * 0x110000 ≤ f.key % 2 ^ 40 ∧ f.key % 2 ^ 40 < 8 * 0x112000

/-- The row is one of a task's entry: banked, by engine and entry. -/
def Row.ofTask (r : Row) : Bool := r.banked && r.dims == [(2, 0x1000), (16, 0x100)]

theorem taskField_key (r : Row) (p : Ply) (h : r.ofTask = true) :
    (taskField r p).key = p.comp * 2 ^ 40 + 8 * (p.engine * 0x1000 + p.entry * 0x100) + (8 * r.base + r.lo) := by
  simp only [Row.ofTask, Bool.and_eq_true, beq_iff_eq] at h
  obtain ⟨hb, hd⟩ := h
  simp only [taskField, Row.at, Fld.key, hb, hd, if_true, List.zip_cons_cons, List.zip_nil_right, List.foldl_cons, List.foldl_nil]
  omega

/-- Two fields of one entry at different places of it do not disturb each other, wherever the entry lies. -/
theorem State.rd_wr_taskField_ne (s : State) (p : Ply) (q r : Row) (v : Nat) (hq : q.ofTask = true) (hr : r.ofTask = true)
    (h : 8 * q.base + q.lo ≠ 8 * r.base + r.lo) : (s.wr (taskField q p) v).rd (taskField r p) = s.rd (taskField r p) :=
  State.rd_wr_ne _ _ _ _ (by rw [taskField_key q p hq, taskField_key r p hr]; omega)

/-- With an engine of two and an entry of sixteen, a field of an entry lies in the array. -/
theorem taskField_inTaskEntries (r : Row) (p : Ply) (h : r.ofTask = true) (hlo : 0x110000 ≤ r.base) (hhi : 8 * r.base + r.lo < 8 * 0x110100)
    (he : p.engine < 2) (hk : p.entry < 16) : (taskField r p).inTaskEntries := by
  rw [Fld.inTaskEntries, taskField_key r p h]
  omega

/-- A field of a compartment's bank with one instance lies in the array only by its own address. -/
theorem Row.b_inTaskEntries (r : Row) (c : Nat) :
    (r.b c).inTaskEntries ↔ 8 * 0x110000 ≤ (8 * r.base + r.lo) % 2 ^ 40 ∧ (8 * r.base + r.lo) % 2 ^ 40 < 8 * 0x112000 := by
  simp only [Row.b, Row.at, Fld.key, Fld.inTaskEntries, List.zip_nil_right, List.foldl_nil, Nat.mul_add_mod']

/-- The force entries lie outside the array. -/
theorem Row.force_not_inTaskEntries (r : Row) (c i : Nat) (hd : r.dims = [(128, 0x20)]) (hlo : 0x140000 ≤ r.base) (hhi : r.base ≤ 0x140018)
    (hb : r.lo < 32) (hi : i < 128) : ¬ (r.bi c i).inTaskEntries := by
  simp only [Row.bi, Row.at, Fld.key, Fld.inTaskEntries, hd, List.zip_cons_cons, List.zip_nil_right, List.foldl_cons, List.foldl_nil,
    Nat.mul_add_mod']
  omega

/-! ### What leaves the task entries and the plies alone -/

/-- The plies and every field of the array of task entries are as they were. -/
def KeepsTaskEntries (s t : State) : Prop := t.scan.plies = s.scan.plies ∧ ∀ f : Fld, f.inTaskEntries → t.rd f = s.rd f

theorem KeepsTaskEntries.refl (s : State) : KeepsTaskEntries s s := ⟨rfl, fun _ _ => rfl⟩

theorem KeepsTaskEntries.trans {s t u : State} (h : KeepsTaskEntries s t) (k : KeepsTaskEntries t u) : KeepsTaskEntries s u :=
  ⟨k.1.trans h.1, fun f hf => (k.2 f hf).trans (h.2 f hf)⟩

/-- The same, with the later update given first. -/
theorem KeepsTaskEntries.after {s t u : State} (k : KeepsTaskEntries t u) (h : KeepsTaskEntries s t) : KeepsTaskEntries s u := h.trans k

/-- An update of neither the plies nor the stored fields. -/
theorem KeepsTaskEntries.of_eq {s t : State} (hp : t.scan.plies = s.scan.plies) (hr : t.regs = s.regs) : KeepsTaskEntries s t :=
  ⟨hp, fun f _ => congrArg (·.get f) hr⟩

theorem KeepsTaskEntries.foldl {α : Type} (l : List α) (u : State → α → State) (h : ∀ s, ∀ a ∈ l, KeepsTaskEntries s (u s a)) (s : State) :
    KeepsTaskEntries s (l.foldl u s) := by
  induction l generalizing s with
  | nil => exact .refl s
  | cons a r ih => exact (h s a List.mem_cons_self).trans (ih (fun s b hb => h s b (List.mem_cons_of_mem a hb)) (u s a))

theorem State.wr_keeps (s : State) (f : Fld) (v : Nat) (h : ¬ f.inTaskEntries) : KeepsTaskEntries s (s.wr f v) := by
  refine ⟨rfl, fun g hg => State.rd_wr_ne s f g v fun e => h ?_⟩
  rwa [Fld.inTaskEntries, e]

/-- A field with one instance in a bank, its address outside the array. -/
theorem State.wr_b_keeps (s : State) (r : Row) (c v : Nat)
    (h : ¬ (8 * 0x110000 ≤ (8 * r.base + r.lo) % 2 ^ 40 ∧ (8 * r.base + r.lo) % 2 ^ 40 < 8 * 0x112000)) :
    KeepsTaskEntries s (s.wr (r.b c) v) :=
  s.wr_keeps _ v (mt (r.b_inTaskEntries c).mp h)

theorem State.perf_keeps (s : State) (u ev c n : Nat) : KeepsTaskEntries s (s.perf u ev c n) :=
  .of_eq (by rw [State.perf_scan]) (State.perf_regs s u ev c n)

theorem State.log_keeps (s : State) (c trigger : Nat) (d : Bytes) (summary : Bool) (list : Option Nat) :
    KeepsTaskEntries s (s.log c trigger d summary list) := by
  unfold State.log State.enqueue
  split
  · exact .refl s
  split
  · exact .of_eq rfl rfl
  · exact .after (State.wr_b_keeps _ Obj.EVR_EVT_DROPPED c 1 (by decide))
      (.after (State.wr_b_keeps _ Obj.EVR_DROPPED c _ (by decide)) (.of_eq rfl rfl))

theorem State.finalTo_keeps (s : State) (sid seq cmd st : Nat) (p : Bytes) (whole : Bool) :
    KeepsTaskEntries s (s.finalTo sid seq cmd st p whole) :=
  .of_eq (by rw [State.finalTo_eq]) (State.finalTo_regs s sid seq cmd st p whole)

theorem State.finish_keeps (s : State) (w : Wait) (st : Nat) (p : Bytes) : KeepsTaskEntries s (s.finish w st p) := by
  refine .trans (.of_eq rfl rfl) (.foldl _ _ (fun t x _ => ?_) _)
  split
  · exact t.log_keeps _ _ _ _ _
  · exact t.finalTo_keeps _ _ _ _ _ _

/-! ### The transfer that an end of a ply can bring (R183 to R187) -/

theorem State.putForce_keeps (s : State) (c : Nat) (f : Force) (h : f.ix < 128) : KeepsTaskEntries s (s.putForce c f) := by
  refine .foldl _ _ (fun t x hx => t.wr_keeps _ _ ?_) s
  simp only [List.mem_cons, List.not_mem_nil, or_false] at hx
  rcases hx with rfl | rfl | rfl | rfl | rfl | rfl | rfl | rfl <;>
    exact Row.force_not_inTaskEntries _ c f.ix rfl (by decide) (by decide) (by decide) h

/-- The release of a variable force: no point is touched. -/
theorem State.releaseForce_keeps (s : State) (c : Nat) (f : Force) (hi : f.ix < 128) (hk : f.kind = 1) :
    KeepsTaskEntries s (s.releaseForce c f) := by
  have hv : ¬ (f.kind = 0 ∧ f.state = 1) := by omega
  simp only [State.releaseForce, if_neg hv]
  exact .after (State.log_keeps _ _ _ _ _ _)
    (.after (State.wr_b_keeps _ Obj.EXCH_EVT_FORCE_RELEASED c 1 (by decide)) (s.putForce_keeps c _ hi))

/-- The forces that an exchange releases are variable forces, by entries below 128. -/
theorem State.mem_releasedBy {s : State} {c : Nat} {g : Image} {f : Force} (h : f ∈ s.releasedBy c g) : f.ix < 128 ∧ f.kind = 1 := by
  simp only [State.releasedBy, State.forces, List.mem_filter, List.mem_map, List.mem_range, Bool.and_eq_true, beq_iff_eq] at h
  obtain ⟨⟨⟨i, hi, rfl⟩, -⟩, hk, -⟩ := h
  exact ⟨hi, hk⟩

theorem State.dropForces_keeps (s : State) (c : Nat) (which : Option Nat → Bool) : KeepsTaskEntries s (s.dropForces c which) := by
  unfold State.dropForces
  simp only []
  split
  · refine .foldl _ _ (fun t f hf => ?_) s
    obtain ⟨hi, hk⟩ := State.mem_releasedBy (List.mem_filter.mp hf).1
    exact t.releaseForce_keeps c f hi hk
  · exact .refl s

theorem State.checkExchange_keeps (s : State) (c : Nat) : KeepsTaskEntries s (s.checkExchange c) := by
  unfold State.checkExchange State.exchangeDone
  split
  · exact .after (State.log_keeps _ _ _ _ _ _) (.after (State.wr_b_keeps _ Obj.EXCH_EVT_DONE c 1 (by decide))
      (.after (State.wr_b_keeps _ Obj.EXCH_DONE_TIME c _ (by decide)) (.after (State.wr_b_keeps _ Obj.EXCH_STATE c 3 (by decide))
        (.of_eq rfl rfl))))
  · exact .refl s

theorem State.transferTask_keeps (s : State) (c : Nat) (t : ImgTask) : KeepsTaskEntries s (s.transferTask c t) := by
  unfold State.transferTask
  split
  · split
    · exact .refl s
    · exact .after (State.checkExchange_keeps _ c) (.trans (.after (State.dropForces_keeps (s.putProg c _) c _) (.of_eq rfl rfl)) (.of_eq rfl rfl))
  · exact .refl s

/-! ### The end of a ply -/

theorem State.holdReached_keeps (s : State) (c : Nat) : KeepsTaskEntries s (s.holdReached c) := by
  unfold State.holdReached
  split
  · exact .after (State.finish_keeps _ _ _ _) (.after (State.wr_b_keeps _ Obj.SCE_STATE c 4 (by decide))
      (.foldl _ _ (fun t k _ => t.transferTask_keeps c k) s))
  · exact .refl s

theorem State.stepDone_keeps (s : State) (p : Ply) : KeepsTaskEntries s (s.stepDone p) := by
  unfold State.stepDone
  simp only []
  split
  · split
    · split
      · exact .after (State.finish_keeps _ _ _ _) (.of_eq rfl rfl)
      · exact .of_eq rfl rfl
    · exact .refl s
  · exact .refl s

theorem State.freeOld_keeps (s : State) (c : Nat) : KeepsTaskEntries s (s.freeOld c) := by
  unfold State.freeOld
  split
  · exact .of_eq rfl rfl
  · exact .refl s

/-- Beside dropping its ply, the end of a ply leaves the plies and the task entries alone. -/
theorem State.plyOver_keeps (s : State) (p : Ply) : KeepsTaskEntries (s.dropPly p) (s.plyOver p) := by
  have hlost : KeepsTaskEntries (s.dropPly p) (if p.lost then (s.dropPly p).incSat (Obj.EXCH_LATE_DATA.b p.comp) else s.dropPly p) := by
    split
    · exact State.wr_b_keeps _ Obj.EXCH_LATE_DATA p.comp _ (by decide)
    · exact .refl _
  exact .after (State.holdReached_keeps _ _) (.after (State.freeOld_keeps _ _) (.after (State.stepDone_keeps _ p) hlost))

/-- No ply of the task is left. -/
theorem State.plyAt_plyOver (s : State) (p : Ply) : plyAt (s.plyOver p) p = none := by
  rw [plyAt, State.plyOf, (s.plyOver_keeps p).1, List.find?_eq_none]
  intro q hq
  simpa [Ply.sameTask, or_assoc, imp_iff_not_or] using (List.mem_filter.mp hq).2

/-! ### A trap (R166) -/

theorem State.logTrap_keeps (s : State) (p : Ply) (code detail : Nat) : KeepsTaskEntries s (s.logTrap p code detail) := by
  unfold State.logTrap
  simp only []
  split
  · exact .of_eq rfl rfl
  · exact .after (State.log_keeps _ _ _ _ _ _) (.of_eq rfl rfl)

/-- The fields of its task's entry that a trap writes. -/
def State.trapFields (s : State) (p : Ply) (code detail : Nat) : State :=
  (s.wrs [(taskField Obj.SCE_TRAP_LAST_CODE p, code), (taskField Obj.SCE_TRAP_LAST_DETAIL p, detail),
    (taskField Obj.SCE_TRAP_LAST_PC p, p.pc), (taskField Obj.SCE_TRAP_LAST_INST p, p.ib),
    (taskField Obj.SCE_TRAP_LAST_TIME p, p.cap), (taskField Obj.SCE_TRAP_EVT p, 1)]).inc (taskField Obj.SCE_TRAP_COUNT p)

theorem State.trap_eq (s : State) (p : Ply) (code detail : Nat) : s.trap p code detail =
    (((s.trapFields p code detail).perf (5 + p.engine) 0x06 p.comp).logTrap p code detail).plyOver p := rfl

/-- After it has written its fields, a trap leaves the task entries alone. -/
theorem State.rd_trap (s : State) (p : Ply) (code detail : Nat) (f : Fld) (h : f.inTaskEntries) :
    (s.trap p code detail).rd f = (s.trapFields p code detail).rd f := by
  rw [State.trap_eq, (State.plyOver_keeps _ p).2 f h, State.dropPly_rd, (State.logTrap_keeps _ p code detail).2 f h,
    (State.perf_keeps _ _ _ _ _).2 f h]

/-- What the fields read: each what was written, the count one more, and PLY_DONE as before. -/
theorem State.rd_trapFields (s : State) (p : Ply) (code detail : Nat) :
    (s.trapFields p code detail).rd (taskField Obj.SCE_TRAP_LAST_CODE p) = code % 2 ^ 8 ∧
    (s.trapFields p code detail).rd (taskField Obj.SCE_TRAP_LAST_DETAIL p) = detail % 2 ^ 16 ∧
    (s.trapFields p code detail).rd (taskField Obj.SCE_TRAP_LAST_TIME p) = p.cap % 2 ^ 64 ∧
    (s.trapFields p code detail).rd (taskField Obj.SCE_TRAP_EVT p) = 1 ∧
    (s.trapFields p code detail).rd (taskField Obj.SCE_TRAP_COUNT p) = (s.rd (taskField Obj.SCE_TRAP_COUNT p) + 1) % 2 ^ 32 ∧
    (s.trapFields p code detail).rd (taskField Obj.SCE_TASK_PLY_DONE p) = s.rd (taskField Obj.SCE_TASK_PLY_DONE p) := by
  simp (disch := decide) only [State.trapFields, State.wrs, State.inc, List.foldl_cons, List.foldl_nil, State.rd_wr_self,
    State.rd_wr_taskField_ne]
  exact ⟨rfl, rfl, rfl, rfl, rfl, trivial⟩

/-- A trap of a ply of one of the two engines and sixteen entries abandons it and fills its trap fields. -/
theorem State.trap_trapped (s : State) (p : Ply) (code detail : Nat) (hc : code < 2 ^ 8) (hd : detail < 2 ^ 16) (he : p.engine < 2)
    (hk : p.entry < 16) : Trapped s (s.trap p code detail) p code detail := by
  obtain ⟨rcode, rdetail, rtime, revt, rcount, rdone⟩ := s.rd_trapFields p code detail
  have lies (r : Row) (h : r.ofTask = true) (hlo : 0x110000 ≤ r.base) (hhi : 8 * r.base + r.lo < 8 * 0x110100) :=
    s.rd_trap p code detail _ (taskField_inTaskEntries r p h hlo hhi he hk)
  refine ⟨by rw [State.trap_eq, State.plyAt_plyOver], ?_, ?_, ?_, ?_, ?_, ?_⟩ <;> rw [lies _ (by decide) (by decide) (by decide)]
  · rw [rcode, Nat.mod_eq_of_lt hc]
  · rw [rdetail, Nat.mod_eq_of_lt hd]
  · exact rtime
  · exact revt
  · exact rcount
  · exact rdone

/-! ### The op that traps -/

theorem firstPly_mem {l : List Ply} {p : Ply} (h : firstPly l = some p) : p ∈ l := by
  induction l with
  | nil => cases h
  | cons q r ih =>
    rw [firstPly] at h
    split at h
    next x hx =>
      split at h <;> cases h
      · exact List.mem_cons_of_mem q (ih hx)
      · exact List.mem_cons_self
    next => cases h; exact List.mem_cons_self

/-- The ply that an engine runs is one of its own. -/
theorem State.running_engine {s : State} {e : Nat} {p : Ply} (h : s.running e = some p) : p.engine = e := by
  unfold State.running at h
  split at h
  · cases h
  · have hp := (List.mem_filter.mp (firstPly_mem h)).2
    simp only [Bool.and_eq_true, beq_iff_eq] at hp
    exact hp.1

theorem State.opDone_regs (s : State) (p : Ply) (last : Option (Nat × Nat)) (milli : Nat) : (s.opDone p last milli).regs = s.regs := by
  simp only [State.opDone]
  rw [State.sampleOp_eq]
  simp only [State.perf_regs]
  split
  · split
    · exact State.perf_regs ..
    · rfl
  · rfl

/-- The charge of an op touches no stored field. -/
theorem State.spend_rd (s : State) (p : Ply) (lo hi : Nat) (f : Fld) : (s.spend p lo hi).1.rd f = s.rd f := by
  have hsw : (s.switchPs p).2.regs = s.regs := by unfold State.switchPs; split <;> rfl
  have hcy : ((s.switchPs p).2.cycles lo hi).2.regs = (s.switchPs p).2.regs := by unfold State.cycles; split <;> rfl
  refine congrArg (fun c : Cells => c.get f) ?_
  simp only [State.spend, State.opDone_regs]
  rw [State.charge_eq, hcy, hsw]

/-- An op that traps whatever the ply has been charged traps in the sense of R166. -/
theorem State.progOp_trapped {s : State} {e lo hi code detail : Nat} {f : Ply → Prog → OpEnd} {p : Ply} {g : Prog}
    (hr : s.running e = some p) (hg : s.progOf p = some g) (hf : ∀ n, f { p with charged := n, begun := true } g = .trap code detail)
    (hc : code < 2 ^ 8) (hd : detail < 2 ^ 16) (he : e < 2) (hk : p.entry < 16) : Trapped s (s.progOp e lo hi f) p code detail := by
  have hop : s.progOp e lo hi f = (s.spend p lo hi).1.trap (s.spend p lo hi).2 code detail := by
    have : f (s.spend p lo hi).2 g = .trap code detail := hf _
    simp only [State.progOp, hr, hg, this]
  obtain ⟨hply, hcode, hdetail, htime, hevt, hcount, hdone⟩ :=
    State.trap_trapped (s.spend p lo hi).1 (s.spend p lo hi).2 code detail hc hd (State.running_engine hr ▸ he) hk
  rw [State.spend_rd] at hcount hdone
  rw [hop]
  exact ⟨hply, hcode, hdetail, htime, hevt, hcount, hdone⟩

/-- A ply that is gone has made no call to count. -/
theorem State.countCall_of_gone {s t : State} {e : Fin 2} {p : Ply} (hr : s.running e = some p) (h : plyAt t p = none) :
    s.countCall t e = t := by
  rw [plyAt] at h
  simp only [State.countCall, hr, h]

theorem Inst.fits_iff (i : Inst) (x n : Nat) : i.fits x n n = true ↔ inside i x n := by
  simp [Inst.fits, inside]

/-! ### What the ops of a class run -/

theorem exec_slotAccess {i : Instr} {e : Fin 2} {a : Fin 32} {imm : BitVec 16} {count : Ply → Nat} {f : Ply → Nat → Ply} (s : State)
    (h : slotAccess i = some (e, a, imm, count, f)) :
    exec i s = .next (s.slotOp e a imm count f) ∧ ∀ (p : Ply) (n : Nat), count { p with charged := n, begun := true } = count p := by
  unfold slotAccess at h
  split at h <;> cases h
  all_goals exact ⟨rfl, fun _ _ => rfl⟩

/-- The instance that an access reaches. -/
def accessInst (glob : Bool) : Ply → Prog → Option Inst := if glob then globalOf else current

/-- The trap code of an access outside its instance. -/
def accessTrap (glob : Bool) : Nat := if glob then trapGlobal else trapInst

theorem exec_loadAccess {i : Instr} {e : Fin 2} {d a : Fin 32} {imm : BitVec 16} {n : Nat} {glob : Bool} (s : State)
    (h : loadAccess i = some (e, d, a, imm, n, glob)) : exec i s = .next (s.loadOp e d a imm n (accessTrap glob) (accessInst glob)) := by
  unfold loadAccess at h
  split at h <;> cases h
  all_goals rfl

theorem exec_storeAccess {i : Instr} {e : Fin 2} {d a : Fin 32} {imm : BitVec 16} {n : Nat} {glob : Bool} (s : State)
    (h : storeAccess i = some (e, d, a, imm, n, glob)) : exec i s = .next (s.storeOp e d a imm n (accessTrap glob) (accessInst glob)) := by
  unfold storeAccess at h
  split at h <;> cases h
  all_goals rfl

theorem exec_recordAccess {i : Instr} {e : Fin 2} {d a : Fin 32} {imm : BitVec 16} {n : Nat} (s : State)
    (h : recordAccess i = some (e, d, a, imm, n)) : ∃ lo hi f, exec i s = .next (s.recordOp e lo hi a imm n f) := by
  unfold recordAccess at h
  split at h <;> cases h
  all_goals exact ⟨_, _, _, rfl⟩

/-! ### The traps of a ply of one of the sixteen entries -/

section
variable {e : Fin 2} {s : State} {p : Ply} {g : Prog} (hr : s.running e = some p) (hg : s.progOf p = some g) (hk : p.entry < 16)
include hr hg hk

/-- R166: UTRAP traps with USER and the low 16 bits of its register. -/
theorem utrap_trapped (a : Fin 32) : Completes (.utrap e a) s fun t => Trapped s t p 8 ((p.g a).toNat % 2 ^ 16) :=
  ⟨_, rfl, State.progOp_trapped hr hg (fun _ => rfl) (by decide) (Nat.mod_lt _ (by decide)) e.isLt hk⟩

/-- R157: a slot that is not below the count. -/
theorem slotAccess_trapped {i : Instr} {a : Fin 32} {imm : BitVec 16} {count : Ply → Nat} {f : Ply → Nat → Ply}
    (h : slotAccess i = some (e, a, imm, count, f)) (hout : count p ≤ offset p a imm) : Completes i s fun t => Trapped s t p 2 0 := by
  obtain ⟨hexec, hcount⟩ := exec_slotAccess s h
  exact ⟨_, hexec, State.progOp_trapped hr hg (fun n => if_neg (by rw [hcount]; exact Nat.not_lt.mpr hout)) (by decide) (by decide)
    e.isLt hk⟩

/-- R158: a load or store that does not lie inside its instance. -/
theorem dataAccess_trapped {i : Instr} {d a : Fin 32} {imm : BitVec 16} {n : Nat} {glob : Bool} {x : Inst}
    (h : loadAccess i = some (e, d, a, imm, n, glob) ∨ storeAccess i = some (e, d, a, imm, n, glob)) (hx : reached glob p g = some x)
    (hout : ¬ inside x (offset p a imm) n) : Completes i s fun t => Trapped s t p (if glob then 4 else 3) 0 := by
  have hwhich (m : Nat) : accessInst glob { p with charged := m, begun := true } g = some x := by
    rw [← hx]; cases glob <;> rfl
  have hfits : ¬ x.fits (p.ea a imm) n n = true := mt (x.fits_iff _ n).mp hout
  have hcode : accessTrap glob < 2 ^ 8 := by cases glob <;> decide
  rcases h with h | h
  · exact ⟨_, exec_loadAccess s h, State.progOp_trapped hr hg (fun m => by simp only [hwhich]; exact if_neg hfits)
      hcode (by decide) e.isLt hk⟩
  · exact ⟨_, exec_storeAccess s h, State.progOp_trapped hr hg (fun m => by simp only [hwhich]; exact if_neg hfits)
      hcode (by decide) e.isLt hk⟩

/-- R158: a record misaligned to 8 or reaching past the end of the current instance. -/
theorem recordAccess_trapped {i : Instr} {d a : Fin 32} {imm : BitVec 16} {n : Nat} {x : Inst}
    (h : recordAccess i = some (e, d, a, imm, n)) (hx : g.inst p.ib = some x)
    (hout : offset p a imm % 8 ≠ 0 ∨ x.size < offset p a imm + n) : Completes i s fun t => Trapped s t p 3 0 := by
  obtain ⟨lo, hi, f, hexec⟩ := exec_recordAccess s h
  have hfits : ¬ x.fits (p.ea a imm) n 8 = true := by
    simp only [Inst.fits, Bool.and_eq_true, beq_iff_eq, decide_eq_true_eq, not_and_or, Nat.not_le]
    exact hout
  have hwhich (m : Nat) : current { p with charged := m, begun := true } g = some x := hx
  exact ⟨_, hexec, State.progOp_trapped hr hg (fun m => by simp only [hwhich]; exact if_neg hfits) (by decide) (by decide) e.isLt hk⟩

/-- R164: a call on a full link stack. -/
theorem call_trapped (imm : BitVec 26) (hlink : p.link.length = 16) : Completes (.call e imm) s fun t => Trapped s t p 6 0 := by
  have htrap : Trapped s (s.progOp e 5 8 fun p g => p.callTo g (jump p.pc imm.toInt) p.ib) p 6 0 :=
    State.progOp_trapped hr hg (fun _ => if_pos (Nat.le_of_eq hlink.symm)) (by decide) (by decide) e.isLt hk
  exact ⟨_, rfl, by rw [State.countCall_of_gone hr htrap.1]; exact htrap⟩

end

end Sys2Proof.Machine

namespace Sys2Proof.Proofs
open Sys2Proof.Machine Sys2Proof.Claims

/-- Settles O3: the read of a write by whether the register is G0, the written one or another; a new ply field by field. -/
theorem registersOfAPly : Obligations.RegistersOfAPly := by
  unfold Obligations.RegistersOfAPly
  refine ⟨fun p d r v hl => ?_, fun s c t g stepped x ty f hx hty hf =>
    ⟨s.newPly_g c t g stepped, rfl, s.newPly_ib c t g stepped hx, rfl, rfl, s.newPly_pc c t g stepped hx hty hf⟩⟩
  by_cases hr : r = 0
  · rw [if_pos hr, hr, Ply.g_zero]
  by_cases hd : r = d
  · rw [if_neg hr, if_pos hd, ← hd, Ply.g_setG_self p v hl hr]
  · rw [if_neg hr, if_neg hd, Ply.g_setG_ne p v hd]

/-! ### A ply beyond the sixteen entries -/

/-- An image of one instance without variables, and one task, entry 0, rooted there. -/
def strayProg : Prog :=
  { image := { comp := 0, size := 0, hash := [], minUcode := 0, code := [], consts := [], funcs := [], types := [],
               insts := [⟨0, false, 0, 0xFFFF, 0xFFFF, []⟩], retain := [], tasks := [⟨0, 0, false, 1000, 0, 8, 0, [], []⟩] },
    insts := [] }

/-- A ply of entry 768, which no task table has. Its entry would begin at 0x110000 + 768 * 0x100 = 0x140000, where the force entries
stand: its PLY_DONE and the VALUE of force 0 are one field, 0x140018. -/
def strayPly : Ply :=
  { comp := 0, engine := 0, entry := 768, cap := 0, tempo := 1000, ready := true, begun := true, onOld := false,
    regs := List.replicate 32 0, pc := 0, ib := 0, gb := none, link := [], ins := [], outPts := [], outs := [], sets := [],
    divz := false, first := false, cold := false, stepped := false, newBank := false, tempoLow := 0, events := 0,
    charged := 0, waiting := none, lost := false }

/-- C00 is HOLDING amid an exchange, its variable force 0 has lost its target, and the stray ply is its last: the ply's end moves the
tree and releases the force. -/
def strayState : State :=
  State.wrs
    { scan := { plies := [strayPly], progs := [(0, { cur := some strayProg, old := some strayProg })],
                e0 := { shares := some [1], last := some (0, 768) } } }
    [(Obj.SCE_STATE.b 0, 3), (Obj.EXCH_STATE.b 0, 2), (Obj.SCE_TASK_CFG_ENABLE.at 0 [0, 0], 1),
     (Obj.FORCE_STATE.bi 0 0, 1), (Obj.FORCE_KIND.bi 0 0, 1), (Obj.FORCE_VALUE.bi 0 0, 1)]

theorem strayState_runs : strayState.running 0 = some strayPly ∧ strayState.progOf strayPly = some strayProg := by decide

theorem strayState_plyDone : strayState.rd (taskField Obj.SCE_TASK_PLY_DONE strayPly) = 1 := by decide

/-- The release that the trap brings clears what the ply's PLY_DONE reads. -/
theorem strayState_plyDone_after_utrap {t : State} (h : exec (.utrap 0 0) strayState = .next t) :
    t.rd (taskField Obj.SCE_TASK_PLY_DONE strayPly) = 0 := by
  cases h
  decide +kernel

/-- Refutes O15: the statement bounds no ply's entry, and `strayState` runs one of entry 768, whose fields are those of force entries;
its UTRAP changes PLY_DONE from 1 to 0. Of a ply with an entry below 16 every clause holds: `utrap_trapped`, `slotAccess_trapped`,
`dataAccess_trapped`, `recordAccess_trapped`, `call_trapped`. -/
theorem not_traps : ¬ Obligations.Traps := by
  unfold Obligations.Traps
  intro h
  obtain ⟨hruns, hprog⟩ := strayState_runs
  obtain ⟨⟨t, hexec, -, -, -, -, -, -, hdone⟩, -⟩ := h 0 0 strayState strayPly strayProg hruns hprog
  rw [strayState_plyDone_after_utrap hexec, strayState_plyDone] at hdone
  exact absurd hdone (by decide)

end Sys2Proof.Proofs
end

section
/-!
SUPPORT. Ops of tempo code that write one register: what the charge of an op leaves (R125), integer ops, comparisons, bit ops, divisions
(R151, R153) and floating ops (R152).
-/
namespace Sys2Proof.Machine
open Sys2Proof.Claims

/-! ### Updates of PMON and the draw of free values alone -/

/-- Only the counters of PMON and the draw of free values changed. -/
def CountsOnly (s t : State) : Prop := t = { s with pmon := t.pmon, free := t.free }

theorem CountsOnly.refl (s : State) : CountsOnly s s := rfl

theorem CountsOnly.trans {s t u : State} (h : CountsOnly s t) (k : CountsOnly t u) : CountsOnly s u := by
  unfold CountsOnly at *
  generalize u.pmon = m, u.free = n at k ⊢
  rw [k]
  generalize t.pmon = m', t.free = n' at h
  rw [h]

theorem CountsOnly.scan {s t : State} (h : CountsOnly s t) : t.scan = s.scan := by rw [h]
theorem CountsOnly.regs {s t : State} (h : CountsOnly s t) : t.regs = s.regs := by rw [h]
theorem CountsOnly.lcy {s t : State} (h : CountsOnly s t) : t.lcy = s.lcy := by rw [h]

theorem State.perf_countsOnly (s : State) (u ev c n : Nat) : CountsOnly s (s.perf u ev c n) := by
  rw [State.perf_eq]
  rfl

theorem State.sampleOp_countsOnly (s : State) (x : Sampled) : CountsOnly s (s.sampleOp x) := by
  rw [State.sampleOp_eq]
  rfl

theorem State.opDone_countsOnly (s : State) (p : Ply) (last : Option (Nat × Nat)) (milli : Nat) :
    CountsOnly s (s.opDone p last milli) := by
  unfold State.opDone
  refine .trans (t := match last with
    | some (c, k) =>
      if last ≠ some (p.comp, p.entry) ∧ (s.plyOf c p.engine k).any (fun q : Ply => q.begun && s.runnable q) = true then
        s.perf (5 + p.engine) 0x03 c else s
    | none => s) ?_
    (.trans (.trans (.trans ?_ (State.perf_countsOnly ..)) (State.perf_countsOnly ..)) (State.sampleOp_countsOnly ..))
  · split
    · split
      · exact State.perf_countsOnly ..
      · exact .refl s
    · exact .refl s
  · rfl

theorem State.switchPs_countsOnly (s : State) (p : Ply) : CountsOnly s (s.switchPs p).2 := by
  rw [(s.switchPs_spec p).2]
  rfl

theorem State.cycles_countsOnly (s : State) (lo hi : Nat) : CountsOnly s (s.cycles lo hi).2 := by
  unfold State.cycles
  split <;> rfl

theorem State.countOp_countsOnly (s : State) (e ev : Nat) : CountsOnly s (s.countOp e ev) := by
  unfold State.countOp
  split
  · exact State.perf_countsOnly ..
  · exact .refl s

/-! ### The frame of an op -/

theorem OpFrame.refl (s : State) : OpFrame s s := rfl

theorem OpFrame.trans {s t u : State} (h : OpFrame s t) (k : OpFrame t u) : OpFrame s u := by
  unfold OpFrame at *
  generalize u.scan.plies = a, u.scan.e0 = b, u.scan.e1 = c, u.scan.progs = d, u.pmon = m, u.free = n at k ⊢
  rw [k]
  generalize t.scan.plies = a', t.scan.e0 = b', t.scan.e1 = c', t.scan.progs = d', t.pmon = m', t.free = n' at h
  rw [h]

theorem OpFrame.putPly (s : State) (p : Ply) : OpFrame s (s.putPly p) := rfl

theorem CountsOnly.opFrame {s t : State} (h : CountsOnly s t) : OpFrame s t := by
  unfold CountsOnly at h
  generalize t.pmon = m, t.free = n at h
  rw [h]
  rfl

theorem OpFrame.regs {s t : State} (h : OpFrame s t) : t.regs = s.regs := by rw [h]

/-- Only the frame of an op moved, and of the scan only the engines' charges. -/
structure ChargesOnly (s t : State) : Prop where
  frame : OpFrame s t
  plies : t.scan.plies = s.scan.plies
  progs : t.scan.progs = s.scan.progs

theorem ChargesOnly.trans {s t u : State} (h : ChargesOnly s t) (k : ChargesOnly t u) : ChargesOnly s u :=
  ⟨OpFrame.trans h.frame k.frame, k.plies.trans h.plies, k.progs.trans h.progs⟩

theorem CountsOnly.chargesOnly {s t : State} (h : CountsOnly s t) : ChargesOnly s t :=
  ⟨h.opFrame, by rw [h.scan], by rw [h.scan]⟩

theorem State.charge_chargesOnly (s : State) (p : Ply) (ps : Nat) : ChargesOnly s (s.charge p ps) := by
  rw [State.charge_eq]
  exact ⟨rfl, rfl, rfl⟩

theorem State.cyclePs_congr {s t : State} (h : t.regs = s.regs) (e n : Nat) : t.cyclePs e n = s.cyclePs e n := by
  unfold State.cyclePs State.sceClk State.rd
  rw [h]

theorem State.cyclePs_mono (s : State) (e : Nat) {n m : Nat} (h : n ≤ m) : s.cyclePs e n ≤ s.cyclePs e m :=
  Nat.div_le_div_right (Nat.mul_le_mul_right _ h)

/-- The charge of an op: the state it leaves. -/
theorem State.spend_chargesOnly (s : State) (p : Ply) (lo hi : Nat) : ChargesOnly s (s.spend p lo hi).1 :=
  (((s.switchPs_countsOnly p).trans (State.cycles_countsOnly _ lo hi)).chargesOnly.trans (State.charge_chargesOnly _ p _)).trans
    (State.opDone_countsOnly _ p _ _).chargesOnly

/-- The charge of an op: what it makes of the ply. -/
theorem State.spend_ply (s : State) (p : Ply) {lo hi : Nat} (h : lo ≤ hi) :
    ∃ n, s.cyclePs p.engine lo ≤ n ∧ n ≤ 250000 + s.cyclePs p.engine hi ∧
      (s.spend p lo hi).2 = { p with charged := p.charged + n, begun := true } := by
  obtain ⟨hlo, hhi, -⟩ := (s.switchPs p).2.cycles_spec lo hi h
  have hsw := (s.switchPs_spec p).1
  have hps : ∀ n, ((s.switchPs p).2.cycles lo hi).2.cyclePs p.engine n = s.cyclePs p.engine n := State.cyclePs_congr
    (((s.switchPs_countsOnly p).trans (State.cycles_countsOnly _ lo hi)).regs) p.engine
  have hl := s.cyclePs_mono p.engine hlo
  have hh := s.cyclePs_mono p.engine hhi
  refine ⟨(s.switchPs p).1 + ((s.switchPs p).2.cycles lo hi).2.cyclePs p.engine ((s.switchPs p).2.cycles lo hi).1, ?_, ?_, rfl⟩
  · rw [hps]; omega
  · rw [hps]; omega

theorem State.running_congr {s t : State} (hs : t.scan = s.scan) (hr : t.regs = s.regs) (hl : t.lcy = s.lcy) (e : Nat) :
    t.running e = s.running e := by
  have hrun : t.runnable = s.runnable := by
    funext p
    unfold State.runnable State.hasBudget State.allowance State.eng State.share State.rd
    rw [hs, hr]
  simp only [State.running, hs, hl, hrun]

theorem CountsOnly.running {s t : State} (h : CountsOnly s t) (e : Nat) : t.running e = s.running e :=
  State.running_congr h.scan h.regs h.lcy e

theorem State.running_mem {s : State} {e : Nat} {p : Ply} (h : s.running e = some p) : p ∈ s.scan.plies := by
  unfold State.running at h
  split at h
  · cases h
  · exact (List.mem_filter.mp (firstPly_mem h)).1

/-! ### Retiring an op -/

theorem State.putPly_plies (s : State) (p : Ply) :
    (s.putPly p).scan.plies = s.scan.plies.map fun q => if q.sameTask p then p else q := rfl


/-- What an op leaves that makes `q` of its ply `p` and touches no program. -/
def Becomes (s t : State) (p q : Ply) (lo hi : Nat) : Prop := OpFrame s t ∧ SamePrograms s t ∧ PlyBecomes s t p q lo hi

/-- An op that only makes something of its ply. The charge of the ply is not yet known when its effect is. -/
theorem State.retire_becomes {s : State} {e lo hi : Nat} {p q : Ply} {f : Ply → Ply} (hr : s.running e = some p) (hb : lo ≤ hi)
    (hq : ∀ n, f { p with charged := n, begun := true } = { q with charged := n, begun := true })
    (hsame : ∀ r : Ply, r.sameTask q = r.sameTask p) :
    Becomes s (s.retire e lo hi f) p q lo hi := by
  obtain ⟨hframe, hplies, hprogs⟩ := s.spend_chargesOnly p lo hi
  obtain ⟨n, hlo, hhi, hply⟩ := s.spend_ply p hb
  have hret : s.retire e lo hi f = (s.spend p lo hi).1.putPly { q with charged := p.charged + n, begun := true } := by
    simp only [State.retire, hr, hply, hq]
  rw [hret]
  refine ⟨OpFrame.trans hframe (OpFrame.putPly _ _), fun c => ?_, n, hlo, hhi, ?_⟩
  · show (s.spend p lo hi).1.scan.progs.get {} c = _
    rw [hprogs]
    rfl
  · rw [State.putPly_plies, hplies]
    exact List.map_congr_left fun r _ => by rw [← hsame r]; rfl

theorem Ply.sameTask_setG (r p : Ply) (d : Fin 32) (v : Word64) : r.sameTask (p.setG d v) = r.sameTask p := by
  unfold Ply.setG
  split <;> rfl

/-- Writing a register leaves the charge to be made. -/
theorem Ply.setG_charged (p : Ply) (d : Fin 32) (v : Word64) (n : Nat) :
    ({ p with charged := n, begun := true } : Ply).setG d v = { p.setG d v with charged := n, begun := true } := by
  unfold Ply.setG
  split <;> rfl

theorem Ply.setG_pc (p : Ply) (d : Fin 32) (v : Word64) : (p.setG d v).pc = p.pc := by
  unfold Ply.setG
  split <;> rfl

/-- An op that writes one register, with a value that does not depend on the charge, and goes on. -/
theorem State.regOp_becomes {s : State} {p : Ply} {e lo hi : Nat} {d : Fin 32} {f : Ply → Word64} (hr : s.running e = some p)
    (hb : lo ≤ hi) (hv : ∀ n, f { p with charged := n, begun := true } = f p) :
    Becomes s (s.regOp e lo hi d f) p { p.setG d (f p) with pc := p.pc + 4 } lo hi := by
  refine State.retire_becomes hr hb (fun n => ?_) (fun r => r.sameTask_setG p d _)
  rw [hv, Ply.setG_charged, Ply.next]
  simp only [Ply.setG_pc]

theorem State.regOp_congr (s : State) {e lo hi : Nat} {d : Fin 32} {f g : Ply → Word64} (h : ∀ p, f p = g p) :
    s.regOp e lo hi d f = s.regOp e lo hi d g := congrArg _ (funext h)

/-! ### Integer ops -/

theorem minS_eq {n : Nat} (x y : BitVec n) : minS n x y = if x.toInt ≤ y.toInt then x else y := by
  by_cases h : x.toInt = y.toInt
  · simp [minS, BitVec.eq_of_toInt_eq h]
  · simp only [minS, BitVec.slt, decide_eq_true_eq, Int.lt_iff_le_and_ne, ne_eq, h, not_false_eq_true, and_true]

theorem maxS_eq {n : Nat} (x y : BitVec n) : maxS n x y = if x.toInt ≤ y.toInt then y else x := by
  by_cases h : x.toInt = y.toInt
  · simp [maxS, BitVec.eq_of_toInt_eq h]
  · simp only [maxS, BitVec.slt, decide_eq_true_eq, Int.lt_iff_le_and_ne, ne_eq, h, not_false_eq_true, and_true]

theorem atWidth_eq (w : Bool) (op : (n : Nat) → BitVec n → BitVec n → BitVec n) (a b : Word64) :
    atWidth w op a b = onWidth w (op 32) (op 64) a b := rfl

/-- Each op of Table 6-3 but the divisions, and each immediate op, is one register write. -/
theorem exec_integerOp {i : Instr} {x : Writes} (h : integerOp i = some x) (s : State) :
    exec i s = .next (s.regOp x.e x.lo x.hi x.d x.value) := by
  unfold integerOp at h
  split at h <;> cases h
  case h_11 e w d a b =>
    exact congrArg Host.Outcome.next (s.regOp_congr fun p => by simp only [atWidth_eq, onWidth, minS_eq])
  case h_12 e w d a b =>
    exact congrArg Host.Outcome.next (s.regOp_congr fun p => by simp only [atWidth_eq, onWidth, maxS_eq])
  all_goals rfl

theorem integerOp_steady {i : Instr} {x : Writes} (h : integerOp i = some x) :
    x.lo ≤ x.hi ∧ ∀ (p : Ply) (n : Nat), x.value { p with charged := n, begun := true } = x.value p := by
  unfold integerOp at h
  split at h <;> cases h
  all_goals exact ⟨Nat.le_refl _, fun _ _ => rfl⟩

/-! ### Comparisons and bit ops -/

theorem truth_eq (b : Bool) : BitVec.ofNat 64 (b2n b) = truth b := by cases b <;> rfl

/-- A comparison writes 1 or 0. -/
theorem State.cmp_eq (s : State) (e : Fin 2) (w : Bool) (d a b : Fin 32) (op : (n : Nat) → BitVec n → BitVec n → Bool) :
    s.cmp e w d a b op = s.regOp e 1 1 d fun p => compared w (op 32) (op 64) (p.g a) (p.g b) :=
  congrArg (s.regOp e 1 1 d) (funext fun _ => truth_eq _)

theorem bitTest_eq (v : Word64) (n : Nat) : (v >>> n) &&& 1 = truth (v.getLsbD n) := by
  show (v >>> n) &&& 1#64 = _
  rw [BitVec.and_one_eq_setWidth_ofBool_getLsbD, BitVec.getLsbD_ushiftRight, Nat.add_zero]
  cases v.getLsbD n <;> rfl

theorem clz64_eq (v : Word64) : clz64 v = ((List.range 64).find? fun n => v.getLsbD (63 - n)).getD 64 := by
  unfold clz64
  by_cases hv : v = 0
  · have : (List.range 64).find? (fun n => v.getLsbD (63 - n)) = none := by simp [hv]
    rw [if_pos hv, this, Option.getD_none]
  · have h0 : v.toNat ≠ 0 := fun h => hv (BitVec.eq_of_toNat_eq h)
    have hlt : Nat.log2 v.toNat < 64 := (Nat.log2_lt h0).mpr v.isLt
    have hfind : (List.range 64).find? (fun n => v.getLsbD (63 - n)) = some (63 - Nat.log2 v.toNat) := by
      refine List.find?_range_eq_some.mpr ⟨?_, List.mem_range.mpr (by omega), fun j hj => ?_⟩
      · have : 63 - (63 - Nat.log2 v.toNat) = Nat.log2 v.toNat := by omega
        rw [this, BitVec.getLsbD, Nat.testBit_log2 h0]
      · have hbig : v.toNat < 2 ^ (63 - j) := (Nat.log2_lt h0).mp (by omega)
        rw [BitVec.getLsbD, Nat.testBit_lt_two_pow hbig, Bool.not_false]
    rw [if_neg hv, hfind, Option.getD_some]

theorem popN_eq (n v : Nat) : popN n v = ((List.range n).filter v.testBit).length := by
  induction n generalizing v with
  | zero => rfl
  | succ n ih =>
    have hshift : (v.testBit ∘ Nat.succ) = (v / 2).testBit := funext fun k => Nat.testBit_succ ..
    rw [popN, ih, List.range_succ_eq_map, List.filter_cons, List.filter_map, hshift, Nat.testBit_zero]
    by_cases h : v % 2 = 1
    · simp [h, Nat.add_comm]
    · simp [show v % 2 = 0 by omega]

/-- Each comparison and each bit op of one source is one register write. -/
theorem exec_compareOp {i : Instr} {x : Writes} (h : compareOp i = some x) (s : State) :
    exec i s = .next (s.regOp x.e x.lo x.hi x.d x.value) := by
  unfold compareOp at h
  split at h <;> cases h
  case h_1 => exact congrArg _ (s.cmp_eq ..)
  case h_2 => exact congrArg _ ((s.cmp_eq ..).trans (by simp only [bne, beq_eq_decide, decide_not]))
  case h_3 => exact congrArg _ (s.cmp_eq ..)
  case h_4 => exact congrArg _ (s.cmp_eq ..)
  case h_5 => exact congrArg _ (s.cmp_eq ..)
  case h_6 => exact congrArg _ (s.cmp_eq ..)
  case h_7 e d a n => exact congrArg Host.Outcome.next (s.regOp_congr fun p => bitTest_eq (p.g a) n.val)
  case h_11 e d a => exact congrArg Host.Outcome.next (s.regOp_congr fun _ => congrArg (BitVec.ofNat 64) (clz64_eq _))
  case h_12 e d a => exact congrArg Host.Outcome.next (s.regOp_congr fun _ => congrArg (BitVec.ofNat 64) (popN_eq 64 _))
  all_goals rfl

theorem compareOp_steady {i : Instr} {x : Writes} (h : compareOp i = some x) :
    x.lo ≤ x.hi ∧ ∀ (p : Ply) (n : Nat), x.value { p with charged := n, begun := true } = x.value p := by
  unfold compareOp at h
  split at h <;> cases h
  all_goals exact ⟨Nat.le_refl _, fun _ _ => rfl⟩

/-! ### Divisions (R151) -/

/-- A division that is not by 0, or by 0, as an integer operation at a width. -/
theorem sdivZ_eq {n : Nat} (a b : BitVec n) (h : b ≠ 0) : sdivZ n a b = BitVec.ofInt n (a.toInt.tdiv b.toInt) := by
  rw [sdivZ, if_neg h]
  exact BitVec.eq_of_toInt_eq (by rw [BitVec.toInt_sdiv, BitVec.toInt_ofInt])

theorem sremZ_eq {n : Nat} (a b : BitVec n) (h : b ≠ 0) : sremZ n a b = BitVec.ofInt n (a.toInt.tmod b.toInt) := by
  rw [sremZ, if_neg h, ← BitVec.toInt_srem, BitVec.ofInt_toInt]

theorem udivZ_eq {n : Nat} (a b : BitVec n) (h : b ≠ 0) : udivZ n a b = BitVec.ofInt n (Int.tdiv a.toNat b.toNat) := by
  rw [udivZ, if_neg h]
  show a / b = BitVec.ofInt n ((a.toNat / b.toNat : Nat) : Int)
  exact BitVec.eq_of_toNat_eq (by rw [BitVec.ofInt_natCast, BitVec.toNat_udiv, BitVec.toNat_ofNat,
    Nat.mod_eq_of_lt (Nat.lt_of_le_of_lt (Nat.div_le_self _ _) a.isLt)])

theorem uremZ_eq {n : Nat} (a b : BitVec n) (h : b ≠ 0) : uremZ n a b = BitVec.ofInt n (Int.tmod a.toNat b.toNat) := by
  rw [uremZ, if_neg h]
  show a % b = BitVec.ofInt n ((a.toNat % b.toNat : Nat) : Int)
  exact BitVec.eq_of_toNat_eq (by rw [BitVec.ofInt_natCast, BitVec.toNat_umod, BitVec.toNat_ofNat,
    Nat.mod_eq_of_lt (Nat.lt_of_le_of_lt (Nat.mod_le _ _) a.isLt)])

theorem source_eq_zero (w : Bool) (v : Word64) : source w false v = 0 ↔ divisorZero w v = true := by
  cases w
  · simp [source, divisorZero, BitVec.toNat_eq]
  · simp only [source, divisorZero, BitVec.toNat_eq, if_true, Bool.false_eq_true, if_false, beq_iff_eq, BitVec.truncate_eq_setWidth,
      Int.natCast_eq_zero]
    rfl

/-- A division op at its width: the operation of the integers, or 0 by a divisor of 0. -/
theorem atWidth_division {op : (n : Nat) → BitVec n → BitVec n → BitVec n} {f : Int → Int → Int} {sign : Bool}
    (hz : ∀ n (a : BitVec n), op n a 0 = 0)
    (hnz : ∀ n (a b : BitVec n), b ≠ 0 → op n a b =
      BitVec.ofInt n (f (if sign then a.toInt else a.toNat) (if sign then b.toInt else b.toNat)))
    (w : Bool) (a b : Word64) :
    atWidth w op a b = if divisorZero w b = true then 0 else result w (f (source w sign a) (source w sign b)) := by
  cases w
  · by_cases h : b = 0
    · simp only [atWidth, divisorZero, Bool.false_eq_true, if_false, h, hz, beq_self_eq_true, if_true]
    · simp only [atWidth, divisorZero, result, source, Bool.false_eq_true, if_false, beq_iff_eq, h, hnz _ _ _ h]
  · by_cases h : b.truncate 32 = 0
    · simp only [atWidth, divisorZero, if_true, h, hz, beq_self_eq_true]
      rfl
    · simp only [atWidth, divisorZero, result, source, if_true, beq_iff_eq, h, hnz _ _ _ h, if_false]

/-- The four divisions. -/
theorem exec_divisionOp {i : Instr} {e : Fin 2} {w : Bool} {d a b : Fin 32} {f : Int → Int → Int} {sign : Bool}
    (h : divisionOp i = some (e, w, d, a, b, f, sign)) (s : State) :
    ∃ op : (n : Nat) → BitVec n → BitVec n → BitVec n, exec i s = .next (s.aluDiv e w d a b op) ∧
      ∀ x y : Word64, atWidth w op x y = if divisorZero w y = true then 0 else result w (f (source w sign x) (source w sign y)) := by
  unfold divisionOp at h
  split at h <;> cases h
  · exact ⟨sdivZ, rfl, fun x y => atWidth_division (op := sdivZ) (f := Int.tdiv) (sign := true) (fun _ _ => if_pos rfl)
      (fun _ a b h => by simp only [if_true, sdivZ_eq a b h]) w x y⟩
  · exact ⟨udivZ, rfl, fun x y => atWidth_division (op := udivZ) (f := Int.tdiv) (sign := false) (fun _ _ => if_pos rfl)
      (fun _ a b h => by simp only [Bool.false_eq_true, if_false, udivZ_eq a b h]) w x y⟩
  · exact ⟨sremZ, rfl, fun x y => atWidth_division (op := sremZ) (f := Int.tmod) (sign := true) (fun _ _ => if_pos rfl)
      (fun _ a b h => by simp only [if_true, sremZ_eq a b h]) w x y⟩
  · exact ⟨uremZ, rfl, fun x y => atWidth_division (op := uremZ) (f := Int.tmod) (sign := false) (fun _ _ => if_pos rfl)
      (fun _ a b h => by simp only [Bool.false_eq_true, if_false, uremZ_eq a b h]) w x y⟩

/-- A division writes its quotient or remainder, and DIVZ where its divisor is 0. -/
theorem State.aluDiv_becomes {s : State} {p : Ply} {e : Fin 2} {w : Bool} {d a b : Fin 32}
    {op : (n : Nat) → BitVec n → BitVec n → BitVec n} (hr : s.running e = some p) :
    Becomes s (s.aluDiv e w d a b op) p
      { p.setG d (atWidth w op (p.g a) (p.g b)) with pc := p.pc + 4, divz := p.divz || divisorZero w (p.g b) } 4 36 := by
  refine State.retire_becomes hr (by decide) (fun n => ?_) (fun r => r.sameTask_setG p d _)
  rw [Ply.setG_charged, Ply.next]
  simp only [Ply.setG_pc]
  rfl

theorem Ply.setG_divz (p : Ply) (d : Fin 32) (v : Word64) : (p.setG d v).divz = p.divz := by
  unfold Ply.setG
  split <;> rfl

/-! ### Floating ops -/

/-- What an op does from a state that differs from `s` in counts and draws alone, it does from `s`. -/
theorem becomes_of_countsOnly {s b t : State} {p q : Ply} {lo hi : Nat} (h : CountsOnly s b)
    (k : Becomes b t p q lo hi) : Becomes s t p q lo hi := by
  obtain ⟨hframe, hprogs, n, hlo, hhi, hplies⟩ := k
  rw [State.cyclePs_congr h.regs] at hlo hhi
  refine ⟨OpFrame.trans h.opFrame hframe, fun c => (hprogs c).trans ?_, n, hlo, hhi, by rw [hplies, h.scan]⟩
  simp only [State.prog, h.scan]

/-- A floating comparison writes 1 or 0. -/
theorem State.fcmp_eq (s : State) (e : Fin 2) (k : Bool) (d a b : Fin 32) (op : Fmt → Nat → Nat → Bool) :
    s.fcmp e k d a b op =
      (s.countOp e 0x0D).regOp e 1 4 d fun p => truth (op (fmtOf k) (fpIn k (p.g a)) (fpIn k (p.g b))) :=
  by
  unfold State.fcmp State.fpu
  exact State.regOp_congr _ fun _ => truth_eq _

/-- Each floating op is one register write, counted for PMON. -/
theorem exec_floatOp {i : Instr} {x : Writes} (h : floatOp i = some x) (s : State) :
    exec i s = .next ((s.countOp x.e 0x0D).regOp x.e x.lo x.hi x.d x.value) := by
  unfold floatOp at h
  split at h <;> cases h
  case h_13 e w d a => cases w <;> rfl
  case h_14 e w d a => cases w <;> rfl
  case h_17 | h_18 | h_19 | h_20 | h_21 => exact congrArg Host.Outcome.next (s.fcmp_eq ..)
  all_goals rfl

theorem floatOp_steady {i : Instr} {x : Writes} (h : floatOp i = some x) :
    x.lo ≤ x.hi ∧ ∀ (p : Ply) (n : Nat), x.value { p with charged := n, begun := true } = x.value p := by
  unfold floatOp at h
  split at h <;> cases h
  all_goals exact ⟨by simp, fun _ _ => rfl⟩

end Sys2Proof.Machine

namespace Sys2Proof.Proofs
open Sys2Proof.Machine Sys2Proof.Claims

/-- Settles O4: each op is one register write. -/
theorem integerOps : Obligations.IntegerOps := by
  unfold Obligations.IntegerOps
  rintro i x s p (h | h) hr
  · exact ⟨_, exec_integerOp h s, State.regOp_becomes hr (integerOp_steady h).1 ((integerOp_steady h).2 p)⟩
  · exact ⟨_, exec_compareOp h s, State.regOp_becomes hr (compareOp_steady h).1 ((compareOp_steady h).2 p)⟩

/-- Settles O5: the quotient or remainder by whether the divisor is 0 at the op's width. -/
theorem divisions : Obligations.Divisions := by
  unfold Obligations.Divisions
  intro i e w d a b f sign s p h hr
  obtain ⟨op, hexec, hval⟩ := exec_divisionOp h s
  have hret : Retires i s p _ 4 36 := ⟨_, hexec, State.aluDiv_becomes hr⟩
  rw [hval] at hret
  refine ⟨fun hb => ?_, fun hb => ?_⟩
  · have hz : divisorZero w (p.g b) = false := Bool.eq_false_iff.mpr (mt (source_eq_zero w _).mpr hb)
    simp only [hz, Bool.false_eq_true, if_false, Bool.or_false] at hret
    rwa [← Ply.setG_divz p d] at hret
  · have hz : divisorZero w (p.g b) = true := (source_eq_zero w _).mp hb
    simpa only [hz, if_true, Bool.or_true] using hret

/-- Settles O6: each op is one register write. -/
theorem floatOps : Obligations.FloatOps := by
  unfold Obligations.FloatOps
  intro i x s p h hr
  have hc := s.countOp_countsOnly x.e 0x0D
  obtain ⟨hb, hv⟩ := floatOp_steady h
  exact ⟨_, exec_floatOp h s, becomes_of_countsOnly hc (State.regOp_becomes ((hc.running x.e).trans hr) hb (hv p))⟩
end Sys2Proof.Proofs
end

section
/-!
SUPPORT. Field ops (Table 6-5), branches, calls and tables (R154, R163) of tempo code, and the ops that may trap.
-/
namespace Sys2Proof.Machine
open Sys2Proof.Claims

/-! ### Field ops -/

theorem lowMask_getLsbD (n : Nat) {j : Nat} (hj : j < 64) : (lowMask n).getLsbD j = decide (j < n) := by
  rw [lowMask, BitVec.getLsbD_ofNat, Nat.testBit_two_pow_sub_one, decide_eq_true hj, Bool.true_and]

theorem sgn_eq_toInt {w v : Nat} (hw : 0 < w) (h : v < 2 ^ w) : sgn w v = (BitVec.ofNat w v).toInt := by
  obtain ⟨k, rfl⟩ : ∃ k, w = k + 1 := ⟨w - 1, by omega⟩
  rw [sgn, BitVec.toInt_eq_toNat_cond, BitVec.toNat_ofNat, Nat.mod_eq_of_lt h, Nat.add_sub_cancel]
  by_cases hv : v < 2 ^ k
  · rw [if_pos hv, if_pos (by omega)]
  · rw [if_neg hv, if_neg (by omega)]
    norm_cast

/-- Bit `j` of a field of `w` bits sign-extended is the field's own or its highest. -/
theorem extendField_getLsbD (v : Word64) {w j : Nat} (hw : 0 < w) (hj : j < 64) :
    (extendField v w).getLsbD j = v.getLsbD (min j (w - 1)) := by
  have hse : extendField v w = (v.setWidth w).signExtend 64 := by
    rw [extendField, sgn_eq_toInt hw (Nat.mod_lt _ (Nat.two_pow_pos w)), BitVec.signExtend]
    exact congrArg (fun x : BitVec w => BitVec.ofInt 64 x.toInt) (BitVec.eq_of_toNat_eq (by simp))
  rw [hse, BitVec.getLsbD_signExtend, decide_eq_true hj, Bool.true_and]
  split
  case isTrue h => rw [BitVec.getLsbD_setWidth, decide_eq_true h, Bool.true_and, Nat.min_eq_left (by omega)]
  case isFalse h =>
    rw [BitVec.msb_eq_getLsbD_last, BitVec.getLsbD_setWidth, decide_eq_true (by omega), Bool.true_and, Nat.min_eq_right (by omega)]

/-- Bit `j` of a value with a field replaced: the field's own bits within it, the old ones outside. -/
theorem insertField_getLsbD (old v : Word64) (p w : Nat) {j : Nat} (hj : j < 64) :
    (insertField old v p w).getLsbD j = if p ≤ j ∧ j < p + w then v.getLsbD (j - p) else old.getLsbD j := by
  simp only [insertField, BitVec.getLsbD_or, BitVec.getLsbD_and, BitVec.getLsbD_not, BitVec.getLsbD_shiftLeft, hj, decide_true,
    Bool.true_and]
  by_cases hp : j < p
  · simp [hp, Nat.not_le.mpr hp]
  · have hm := lowMask_getLsbD w (j := j - p) (by omega)
    by_cases hw : j < p + w
    · simp [hp, hm, show j - p < w by omega, show p ≤ j by omega, hw]
    · simp [hp, hm, show ¬ j - p < w by omega, hw]

/-- EXTU, EXTS and INS on a field that ends at bit 63 or below: the value they write, bit by bit. -/
theorem exec_fieldBits {i : Instr} {e : Fin 2} {d : Fin 32} {n w : Nat} {f : Ply → Nat → Bool} (h : Claims.fieldBits i = some (e, d, n, w, f))
    (hfit : n + w ≤ 64) (s : State) :
    ∃ v : Ply → Word64, exec i s = .next (s.regOp e 1 1 d v) ∧ (∀ p j, j < 64 → (v p).getLsbD j = f p j) ∧
      ∀ p m, v { p with charged := m, begun := true } = v p := by
  unfold Claims.fieldBits at h
  split at h <;> cases h
  case h_1 _ a n b =>
    refine ⟨fun p => (p.g a >>> n.val) &&& lowMask (b.val + 1), congrArg Host.Outcome.next (if_pos hfit), fun p j hj => ?_, fun _ _ => rfl⟩
    rw [BitVec.getLsbD_and, BitVec.getLsbD_ushiftRight, lowMask_getLsbD _ hj, Bool.and_comm]
    simp only [Nat.lt_succ_iff]
  case h_2 _ a n b =>
    refine ⟨fun p => extendField (p.g a >>> n.val) (b.val + 1), congrArg Host.Outcome.next (if_pos hfit), fun p j hj => ?_, fun _ _ => rfl⟩
    rw [extendField_getLsbD _ (Nat.succ_pos _) hj, BitVec.getLsbD_ushiftRight]
    rfl
  case h_3 _ a n b =>
    refine ⟨fun p => insertField (p.g d) (p.g a) n.val (b.val + 1), congrArg Host.Outcome.next (if_pos hfit), fun p j hj => ?_,
      fun _ _ => rfl⟩
    rw [insertField_getLsbD _ _ _ _ hj]
    simp only [← Nat.add_assoc, Nat.lt_succ_iff]

/-! ### Branches -/

theorem jump_eq_moved (pc : Nat) (off : Int) : jump pc off = Claims.moved pc off := rfl

/-- A branch whose target and choice do not depend on the charge. -/
theorem State.branch_becomes {s : State} {e : Fin 2} {p : Ply} (off : Int) {f : Ply → Ply} {taken : Ply → Bool} (hr : s.running e = some p)
    (hf : ∀ n, f { p with charged := n, begun := true } = { f p with charged := n, begun := true })
    (hsame : ∀ r : Ply, r.sameTask (f p) = r.sameTask p) (hpc : (f p).pc = p.pc) :
    if taken (f p) then Becomes s (s.branch e off f taken) p { f p with pc := Claims.moved p.pc off } 2 2
    else Becomes s (s.branch e off f taken) p { f p with pc := p.pc + 4 } 1 1 := by
  by_cases ht : taken (f p) = true
  · rw [if_pos ht]
    have hc := s.countOp_countsOnly e 0x0B
    simp only [State.branch, hr, ht, if_true]
    refine becomes_of_countsOnly hc (State.retire_becomes ((hc.running e).trans hr) (Nat.le_refl _) (fun n => ?_) (fun r => hsame r))
    rw [hf, jump_eq_moved]
  · rw [if_neg ht]
    simp only [State.branch, hr, ht, Bool.false_eq_true, if_false]
    refine State.retire_becomes hr (Nat.le_refl _) (fun n => ?_) (fun r => hsame r)
    rw [hf, Ply.next, ← hpc]

/-- The four branches. -/
theorem exec_branchOp {i : Instr} {e : Fin 2} {f : Ply → Ply} {taken : Ply → Bool} {off : Int} {s : State} {p : Ply}
    (h : branchOp i = some (e, f, taken, off)) (hr : s.running e = some p) :
    ∃ choice : Ply → Bool, exec i s = .next (s.branch e off f choice) ∧ choice (f p) = taken p ∧
      (∀ n, f { p with charged := n, begun := true } = { f p with charged := n, begun := true }) ∧
      (∀ r : Ply, r.sameTask (f p) = r.sameTask p) ∧ (f p).pc = p.pc := by
  unfold branchOp at h
  split at h <;> cases h
  case h_1 => exact ⟨_, rfl, rfl, fun _ => rfl, fun _ => rfl, rfl⟩
  case h_2 d imm => exact ⟨fun p => p.g d == 0, rfl, rfl, fun _ => rfl, fun _ => rfl, rfl⟩
  case h_3 d imm => exact ⟨fun p => p.g d != 0, rfl, by simp [bne, beq_eq_decide], fun _ => rfl, fun _ => rfl, rfl⟩
  case h_4 d imm =>
    refine ⟨fun _ => p.g d - 1 != 0, ?_, by simp [bne, beq_eq_decide], fun n => p.setG_charged d _ n, fun r => r.sameTask_setG p d _, p.setG_pc d _⟩
    show Host.Outcome.next _ = _
    rw [hr]

end Sys2Proof.Machine

namespace Sys2Proof.Proofs
open Sys2Proof.Machine Sys2Proof.Claims

/-- Settles O7: the written value, bit by bit. -/
theorem fieldOps : Obligations.FieldOps := by
  unfold Obligations.FieldOps
  intro i e d n w f s p h hfit hr
  obtain ⟨v, hexec, hbits, hv⟩ := exec_fieldBits h hfit s
  exact ⟨v p, hbits p, _, hexec, State.regOp_becomes hr (Nat.le_refl _) (hv p)⟩

/-- Settles O8: a branch is taken or not. -/
theorem branches : Obligations.Branches := by
  unfold Obligations.Branches
  intro i e f taken off s p h hr
  obtain ⟨choice, hexec, hchoice, hf, hsame, hpc⟩ := exec_branchOp h hr
  have hb := State.branch_becomes off (taken := choice) hr hf hsame hpc
  rw [hchoice] at hb
  split
  case isTrue ht => exact ⟨_, hexec, by rwa [if_pos ht] at hb⟩
  case isFalse ht => exact ⟨_, hexec, by rwa [if_neg ht] at hb⟩

end Sys2Proof.Proofs
end

section
/-!
SUPPORT. Ops of tempo code that read or write the program: tables and calls (R154, R163), process image and instance data (R155 to R158),
timers and edge detectors (R160, R162).
-/
namespace Sys2Proof.Machine
open Sys2Proof.Claims

/-! ### The program of a ply -/

@[simp] theorem State.prog_putProg_self (s : State) (c : Nat) (x : CompScan) : (s.putProg c x).prog c = x := Tab.get_put_self _ _ _ _

theorem State.prog_putProg_ne (s : State) {c d : Nat} (x : CompScan) (h : c ≠ d) : (s.putProg c x).prog d = s.prog d :=
  Tab.get_put_ne _ _ _ _ _ h

theorem State.putProgOf_eq (s : State) (p : Ply) (x : Prog) : s.putProgOf p x = s.putProg p.comp
    (if p.onOld && (s.prog p.comp).old.isSome then { s.prog p.comp with old := some x } else { s.prog p.comp with cur := some x }) :=
  (apply_ite (s.putProg p.comp) _ _ _).symm

theorem OpFrame.putProgOf (s : State) (p : Ply) (x : Prog) : OpFrame s (s.putProgOf p x) := by
  rw [State.putProgOf_eq]
  rfl

theorem State.putProgOf_plies (s : State) (p : Ply) (x : Prog) : (s.putProgOf p x).scan.plies = s.scan.plies := by
  rw [State.putProgOf_eq]
  rfl

/-- The program put back is the one the ply then runs on. -/
theorem State.progOf_putProgOf (s : State) (p : Ply) (x : Prog) : (s.putProgOf p x).progOf p = some x := by
  rw [State.putProgOf_eq, State.progOf, State.prog_putProg_self]
  cases p.onOld
  · rfl
  · cases h : (s.prog p.comp).old
    · simp only [Option.isSome_none, Bool.and_false, Bool.false_eq_true, if_false, if_true, h]
    · rfl

theorem State.prog_putProgOf_ne (s : State) (p : Ply) (x : Prog) {c : Nat} (h : c ≠ p.comp) : (s.putProgOf p x).prog c = s.prog c := by
  rw [State.putProgOf_eq, State.prog_putProg_ne _ _ h.symm]

/-- Putting back the program as it was changes none. -/
theorem State.prog_putProgOf_same (s : State) (p : Ply) {g : Prog} (h : s.progOf p = some g) (c : Nat) :
    (s.putProgOf p g).prog c = s.prog c := by
  by_cases hc : c = p.comp
  · rw [hc, State.putProgOf_eq, State.prog_putProg_self]
    simp only [State.progOf] at h
    generalize s.prog p.comp = x at h ⊢
    cases ho : p.onOld
    · rw [ho] at h
      simp only [Bool.false_and, Bool.false_eq_true, if_false] at h ⊢
      rw [← h]
    · rw [ho] at h
      cases hx : x.old
      · simp only [hx, if_true, Option.isSome_none, Bool.and_false, Bool.false_eq_true, if_false] at h ⊢
        rw [← h, ← hx]
      · simp only [hx, if_true, Option.isSome_some, Bool.and_true] at h ⊢
        rw [← h, ← hx]
  · exact s.prog_putProgOf_ne p g hc

theorem State.progOf_congr {s t : State} {p : Ply} (h : t.prog p.comp = s.prog p.comp) : t.progOf p = s.progOf p := by
  rw [State.progOf, State.progOf, h]

theorem State.spend_prog (s : State) (p : Ply) (lo hi c : Nat) : (s.spend p lo hi).1.prog c = s.prog c := by
  rw [State.prog, (s.spend_chargesOnly p lo hi).progs]
  rfl

@[simp] theorem Ply.g_charged (p : Ply) (n : Nat) (r : Fin 32) : Ply.g { p with charged := n, begun := true } r = p.g r := rfl

/-! ### An op that goes on with a program -/

/-- A ply of the same task, on the same bank. -/
structure Ply.Same (p q : Ply) : Prop where
  comp : q.comp = p.comp
  engine : q.engine = p.engine
  entry : q.entry = p.entry
  onOld : q.onOld = p.onOld

theorem Ply.Same.refl (p : Ply) : p.Same p := ⟨rfl, rfl, rfl, rfl⟩

theorem Ply.Same.sameTask {p q : Ply} (h : p.Same q) (r : Ply) : r.sameTask q = r.sameTask p := by
  simp only [Ply.sameTask, h.comp, h.engine, h.entry]

theorem Ply.Same.at_pc {p q : Ply} (h : p.Same q) (pc : Nat) : p.Same { q with pc := pc } := ⟨h.comp, h.engine, h.entry, h.onOld⟩

theorem Ply.same_setG (p : Ply) (d : Fin 32) (v : Word64) : p.Same (p.setG d v) := by
  unfold Ply.setG
  split <;> exact ⟨rfl, rfl, rfl, rfl⟩

/-- The op leaves its ply `q` and its program `h`; no other program changed. -/
structure GoesOnWith (s t : State) (p q : Ply) (h : Prog) (lo hi : Nat) : Prop where
  frame : OpFrame s t
  ply : PlyBecomes s t p q lo hi
  others : ∀ c, c ≠ p.comp → t.prog c = s.prog c
  prog : t.progOf p = some h

section
variable {s : State} {e lo hi : Nat} {p q : Ply} {g h : Prog} {f : Ply → Prog → OpEnd} (hr : s.running e = some p)
  (hg : s.progOf p = some g) (hb : lo ≤ hi)
include hr hg hb

theorem State.progOp_eq (hf : ∀ n, f { p with charged := n, begun := true } g = .on { q with charged := n, begun := true } h) :
    ∃ n, s.cyclePs p.engine lo ≤ n ∧ n ≤ 250000 + s.cyclePs p.engine hi ∧ s.progOp e lo hi f =
      ((s.spend p lo hi).1.putProgOf { q with charged := p.charged + n, begun := true } h).putPly
        { q with charged := p.charged + n, begun := true } := by
  obtain ⟨n, hlo, hhi, hply⟩ := s.spend_ply p hb
  refine ⟨n, hlo, hhi, ?_⟩
  simp only [State.progOp, hr, hg, hply, hf]

/-- An op that goes on, its end known whatever the charge of its ply. -/
theorem State.progOp_goesOn (hf : ∀ n, f { p with charged := n, begun := true } g = .on { q with charged := n, begun := true } h)
    (hsame : p.Same q) :
    GoesOnWith s (s.progOp e lo hi f) p q h lo hi := by
  obtain ⟨hframe, hplies, hprogs⟩ := s.spend_chargesOnly p lo hi
  obtain ⟨n, hlo, hhi, heq⟩ := State.progOp_eq hr hg hb hf
  have hprog := s.spend_prog p lo hi
  rw [heq]
  refine ⟨OpFrame.trans hframe ?_, ⟨n, hlo, hhi, ?_⟩, fun c hc => ?_, ?_⟩
  · exact OpFrame.trans (OpFrame.putProgOf _ _ _) (OpFrame.putPly _ _)
  · rw [State.putPly_plies, State.putProgOf_plies, hplies]
    exact List.map_congr_left fun r _ => by rw [← hsame.sameTask r]; rfl
  · exact (State.prog_putProgOf_ne _ _ _ (hsame.comp ▸ hc)).trans (hprog c)
  · have := State.progOf_putProgOf (s.spend p lo hi).1 { q with charged := p.charged + n, begun := true } h
    simp only [State.progOf, hsame.comp, hsame.onOld] at this ⊢
    exact this

/-- An op that goes on and leaves its program as it was. -/
theorem State.progOp_becomes (hf : ∀ n, f { p with charged := n, begun := true } g = .on { q with charged := n, begun := true } g)
    (hsame : p.Same q) :
    Becomes s (s.progOp e lo hi f) p q lo hi := by
  have hon := State.progOp_goesOn hr hg hb hf hsame
  refine ⟨hon.frame, fun c => ?_, hon.ply⟩
  obtain ⟨n, -, -, heq⟩ := State.progOp_eq hr hg hb hf
  have hprog := s.spend_prog p lo hi
  have hof : (s.spend p lo hi).1.progOf { q with charged := p.charged + n, begun := true } = some g := by
    rw [← hg]
    simp only [State.progOf, hsame.comp, hsame.onOld, hprog]
  rw [heq]
  exact (State.prog_putProgOf_same _ _ hof c).trans (hprog c)
end

/-! ### Tables and calls -/

theorem State.countCall_countsOnly (s t : State) (e : Fin 2) : CountsOnly t (s.countCall t e) := by
  unfold State.countCall
  split
  · split
    · split
      · exact State.perf_countsOnly ..
      · exact .refl t
    · exact .refl t
  · exact .refl t

theorem becomes_then_counts {s t u : State} {p q : Ply} {lo hi : Nat} (k : Becomes s t p q lo hi) (h : CountsOnly t u) :
    Becomes s u p q lo hi := by
  obtain ⟨hframe, hprogs, n, hlo, hhi, hplies⟩ := k
  exact ⟨OpFrame.trans hframe h.opFrame, fun c => (by simp only [State.prog, h.scan] : u.prog c = t.prog c).trans (hprogs c),
    n, hlo, hhi, by rw [h.scan, hplies]⟩

/-- The targets of a table: beyond it none, within it the offset at its place. -/
theorem Image.tableTargets_getElem (g : Image) {pc k n : Nat} (hn : g.consts[k]? = some n) (i : Nat) :
    (g.tableTargets pc k)[i]? = if i < n then (g.consts[k + 1 + i]?).map fun o => (pc : Int) + 4 * sgn 64 o else none := by
  rw [Image.tableTargets, List.getD_eq_getElem?_getD, hn, Option.getD_some, List.getElem?_map, List.getElem?_take]
  split
  · rw [List.getElem?_drop]
  · rfl

/-- A target of a table lies as many words from the op as its offset says. -/
theorem jump_target {pc : Nat} (h : pc % 4 = 0) (o : Int) : jump 0 (((pc : Int) + 4 * o) / 4) = Claims.moved pc o := by
  have : 4 * (((pc : Int) + 4 * o) / 4) = pc + 4 * o := Int.mul_ediv_cancel' (by omega)
  rw [jump, Claims.moved, this]
  simp

theorem Ply.callTo_of_room {p : Ply} (g : Prog) (pc ib : Nat) (h : p.link.length < 16) :
    p.callTo g pc ib = .on { p with link := (p.pc + 4, p.ib) :: p.link, pc := pc, ib := ib } g :=
  if_neg (Nat.not_le.mpr h)

theorem Ply.callInst_of_entry (p : Ply) (g : Prog) {x : Inst} {pc : Nat} (h : g.entryOf x = some pc) :
    p.callInst g (some x) = p.callTo g pc x.id := by
  simp only [Ply.callInst, h]

/-! ### Process image and instance data -/

theorem le_length (n v : Nat) : (le n v).length = n := by
  induction n generalizing v with
  | zero => rfl
  | succ n ih => exact congrArg (· + 1) (ih _)

theorem le_getD {n k : Nat} (h : k < n) (v : Nat) : (le n v).getD k 0 = BitVec.ofNat 8 (v / 256 ^ k) := by
  induction n generalizing k v with
  | zero => exact absurd h (Nat.not_lt_zero k)
  | succ n ih =>
    cases k with
    | zero => rw [le, List.getD_cons_zero, Nat.pow_zero, Nat.div_one]
    | succ k => rw [le, List.getD_cons_succ, ih (Nat.lt_of_succ_lt_succ h), Nat.div_div_eq_div_mul, Nat.pow_succ']

/-- A number stored little-endian reads back byte by byte, and every byte outside it is as before. -/
theorem memGet_writeLe (m : List Host.Cell) (x n v a : Nat) :
    memGet (memWrite m x (le n v)) a = if x ≤ a ∧ a < x + n then BitVec.ofNat 8 (v / 256 ^ (a - x)) else memGet m a := by
  rw [memGet_write, le_length]
  split
  · rw [le_getD (by omega)]
  · rfl

theorem slotAccess_steady {i : Instr} {e : Fin 2} {a : Fin 32} {imm : BitVec 16} {count : Ply → Nat} {f : Ply → Nat → Ply}
    (h : slotAccess i = some (e, a, imm, count, f)) (p : Ply) (k : Nat) :
    (∀ n, f { p with charged := n, begun := true } k = { f p k with charged := n, begun := true }) ∧ p.Same (f p k) ∧ (f p k).pc = p.pc := by
  unfold slotAccess at h
  split at h <;> cases h
  case h_3 => exact ⟨fun _ => rfl, ⟨rfl, rfl, rfl, rfl⟩, rfl⟩
  all_goals exact ⟨fun n => p.setG_charged _ _ n, p.same_setG _ _, p.setG_pc _ _⟩

theorem accessInst_eq_reached (glob : Bool) (p : Ply) (g : Prog) (n : Nat) :
    accessInst glob { p with charged := n, begun := true } g = reached glob p g := by
  cases glob <;> rfl

theorem Ply.ea_charged (p : Ply) (a : Fin 32) (imm : BitVec 16) (n : Nat) :
    Ply.ea { p with charged := n, begun := true } a imm = offset p a imm := rfl

theorem State.late_charged (s : State) (p : Ply) (x : Inst) (n : Nat) :
    s.late { p with charged := n, begun := true } x = s.late p x := rfl

/-- Storing in one instance of the program that the ply runs on changes no other program. -/
theorem GoesOnWith.dataChanges {s t : State} {p q : Ply} {g : Prog} {x : Inst} {m : List Host.Cell} {lo hi off n : Nat} {byte : Nat → Byte}
    (h : GoesOnWith s t p q (g.putInst { x with data := m }) lo hi)
    (hm : ∀ a, memGet m a = if off ≤ a ∧ a < off + n then byte (a - off) else memGet x.data a) : DataChanges s t p g x off n byte :=
  ⟨h.others, m, h.prog, hm⟩

/-! ### Timers and edge detectors (R160, R162) -/

theorem memRead_of_bytes {m : List Host.Cell} {a n v : Nat} (h : ∀ k, k < n → memGet m (a + k) = BitVec.ofNat 8 (v / 256 ^ k)) :
    memRead m a n = v % 256 ^ n := by
  induction n generalizing a v with
  | zero => rw [memRead, Nat.pow_zero, Nat.mod_one]
  | succ n ih =>
    have hhead : memGet m a = BitVec.ofNat 8 v := by simpa using h 0 (Nat.succ_pos n)
    have htail : memRead m (a + 1) n = v / 256 % 256 ^ n := ih fun k hk => by
      rw [Nat.div_div_eq_div_mul, ← Nat.pow_succ', Nat.add_assoc, Nat.add_comm 1]
      exact h (k + 1) (Nat.succ_lt_succ hk)
    rw [memRead, hhead, htail, BitVec.toNat_ofNat, Nat.pow_succ' (m := 256), Nat.mod_mul]

theorem memRead_lt (m : List Host.Cell) (a n : Nat) : memRead m a n < 256 ^ n := by
  induction n generalizing a with
  | zero => exact Nat.one_pos
  | succ n ih =>
    have hb : (memGet m a).toNat < 256 := (memGet m a).isLt
    have := ih (a + 1)
    rw [memRead, Nat.pow_succ]
    omega

/-- A number stored little-endian reads back, cut to its bytes. -/
theorem memRead_writeLe (m : List Host.Cell) (x n v : Nat) : memRead (memWrite m x (le n v)) x n = v % 256 ^ n :=
  memRead_of_bytes fun k hk => by rw [memGet_writeLe, if_pos (by omega), Nat.add_sub_cancel_left]

/-- R160, for the kinds TON, TOF and TP. -/
theorem Timer.eval_eq_tmrStep {x : Timer} (i : Bool) (t : Nat) (h : x.kind < 3) : x.eval i t = tmrStep x i t := by
  obtain ⟨pt, kind, inPrev, q, running, done, anchor⟩ := x
  obtain rfl | rfl | rfl : kind = 0 ∨ kind = 1 ∨ kind = 2 := by simp only at h; omega
  · by_cases hpt : pt ≤ (t - anchor) / 1000 <;> by_cases h0 : pt = 0 <;>
    cases i <;> cases inPrev <;> cases running <;> cases done <;> simp [Timer.eval, Timer.ton, tmrStep, Timer.et, hpt, h0]
  · by_cases hpt : pt ≤ (t - anchor) / 1000 <;> by_cases h0 : pt = 0 <;>
    cases i <;> cases inPrev <;> cases running <;> cases done <;> simp [Timer.eval, Timer.tof, tmrStep, Timer.et, hpt, h0]
  · by_cases hpt : pt ≤ (t - anchor) / 1000 <;> by_cases h0 : pt = 0 <;>
    cases i <;> cases inPrev <;> cases running <;> cases done <;> simp [Timer.eval, Timer.tp, tmrStep, Timer.et, hpt, h0]

section
variable {s : State} {e : Fin 2} {lo hi n : Nat} {a : Fin 32} {imm : BitVec 16} {p q : Ply} {g h : Prog} {x : Inst}
  {f : Ply → Prog → Inst → Nat → OpEnd} (hr : s.running e = some p) (hg : s.progOf p = some g) (hx : g.inst p.ib = some x)
  (hal : offset p a imm % 8 = 0) (hin : offset p a imm + n ≤ x.size) (hb : lo ≤ hi)
include hr hg hx hal hin hb

/-- A record op that goes on, on a record that lies in the current instance. -/
theorem State.recordOp_goesOn
    (hf : ∀ k, f { p with charged := k, begun := true } g x (offset p a imm) = .on { q with charged := k, begun := true } h)
    (hsame : p.Same q) : GoesOnWith s (s.recordOp e lo hi a imm n f) p q h lo hi := by
  refine State.progOp_goesOn hr hg hb (fun k => ?_) hsame
  have hcur : current { p with charged := k, begun := true } g = some x := hx
  have hfits : x.fits (offset p a imm) n 8 = true := by simp [Inst.fits, hal, hin]
  simp only [hcur, Ply.ea_charged, hfits, if_true, hf]

/-- A record op that goes on and leaves its program as it was. -/
theorem State.recordOp_becomes
    (hf : ∀ k, f { p with charged := k, begun := true } g x (offset p a imm) = .on { q with charged := k, begun := true } g)
    (hsame : p.Same q) : Becomes s (s.recordOp e lo hi a imm n f) p q lo hi := by
  refine State.progOp_becomes hr hg hb (fun k => ?_) hsame
  have hcur : current { p with charged := k, begun := true } g = some x := hx
  have hfits : x.fits (offset p a imm) n 8 = true := by simp [Inst.fits, hal, hin]
  simp only [hcur, Ply.ea_charged, hfits, if_true, hf]
end

theorem State.stored_charged (s : State) (p : Ply) (d : Fin 32) (v : Word64) (k : Nat) (g : Prog) (x : Inst) (m : List Host.Cell) :
    s.stored (Ply.setG { p with charged := k, begun := true } d v) g x m =
      .on { p.setG d v with pc := p.pc + 4, lost := p.lost || s.late p x, charged := k, begun := true } (g.putInst { x with data := m }) := by
  unfold State.stored Ply.setG
  split <;> rfl

/-- What the record op changed is the record. -/
theorem GoesOnWith.recordChanges {s t : State} {p q : Ply} {g : Prog} {x : Inst} {m : List Host.Cell} {lo hi off n : Nat}
    (h : GoesOnWith s t p q (g.putInst { x with data := m }) lo hi)
    (hm : ∀ a, ¬ (off ≤ a ∧ a < off + n) → memGet m a = memGet x.data a) :
    DataChanges s t p g x off n fun k => memGet m (off + k) :=
  h.dataChanges fun a => by
    split
    case isTrue ha => rw [Nat.add_sub_of_le ha.1]
    case isFalse ha => exact hm a ha

/-- A record of 16 bytes as TMR stores it. -/
theorem timerStore (m : List Host.Cell) (off w anchor : Nat) :
    let r := memWrite (memWrite m off (le 8 w)) (off + 8) (le 8 anchor)
    memRead r off 8 = w % 2 ^ 64 ∧ memRead r (off + 8) 8 = anchor % 2 ^ 64 ∧
      ∀ a, ¬ (off ≤ a ∧ a < off + 16) → memGet r a = memGet m a := by
  refine ⟨memRead_of_bytes (n := 8) fun k hk => ?_, memRead_writeLe _ _ _ _, fun a ha => ?_⟩
  · rw [memGet_writeLe, if_neg (by omega), memGet_writeLe, if_pos (by omega), Nat.add_sub_cancel_left]
  · rw [memGet_writeLe, if_neg (by omega), memGet_writeLe, if_neg (by omega)]

theorem Timer.word_eq (x : Timer) {w : Nat} (hw : w < 2 ^ 64) :
    x.word w % 2 ^ 64 = w % 2 ^ 48 + 2 ^ 48 * timerBits x + w / 2 ^ 52 * 2 ^ 52 := by
  have hbits : timerBits x < 16 := by
    unfold timerBits
    cases x.inPrev <;> cases x.q <;> cases x.running <;> cases x.done <;> decide
  refine Nat.mod_eq_of_lt ?_
  show w % 2 ^ 48 + 2 ^ 48 * timerBits x + w / 2 ^ 52 * 2 ^ 52 < 2 ^ 64
  omega

/-- The three edge detectors. -/
theorem exec_edgeOp {i : Instr} {e : Fin 2} {d a : Fin 32} {imm : BitVec 16} (h : recordAccess i = some (e, d, a, imm, 8)) (s : State) :
    exec i s = .next (s.edgeOp e d a imm (edgeSeen i)) := by
  unfold recordAccess at h
  split at h <;> cases h
  all_goals rfl

section
variable {s : State} {e : Fin 2} {a : Fin 32} {imm : BitVec 16} {p : Ply} {g : Prog} {x : Inst} (hr : s.running e = some p)
  (hg : s.progOf p = some g) (hx : g.inst p.ib = some x) (hal : offset p a imm % 8 = 0)
include hr hg hx hal

theorem tmr_goesOn (d : Fin 32) (hin : offset p a imm + 16 ≤ x.size) :
    let off := offset p a imm
    let w := memRead x.data off 8
    let tm := Timer.of w (memRead x.data (off + 8) 8)
    let r := tm.eval ((p.g d).getLsbD 0) (p.cap + p.lag)
    tm.kind ≠ 3 → ∃ t, exec (.tmr e d a imm) s = .next t ∧
      GoesOnWith s t p { p.setG d (timerResult r.1.q r.2) with pc := p.pc + 4, lost := p.lost || s.late p x }
        (g.putInst { x with data := memWrite (memWrite x.data off (le 8 (r.1.word w))) (off + 8) (le 8 r.1.anchor) }) 4 6 := by
  intro off w tm r hkind
  refine ⟨_, rfl, State.recordOp_goesOn hr hg hx hal hin (by decide) (fun k => ?_) ?_⟩
  · exact (if_neg hkind).trans (s.stored_charged p d _ k g x _)
  · exact ⟨(p.same_setG d _).comp, (p.same_setG d _).engine, (p.same_setG d _).entry, (p.same_setG d _).onOld⟩

theorem edge_goesOn (d : Fin 32) (seen : Bool → Bool → Bool) (hin : offset p a imm + 8 ≤ x.size) :
    let off := offset p a imm
    let w := memRead x.data off 8
    let input := (p.g d).getLsbD 0
    GoesOnWith s (s.edgeOp e d a imm seen) p
      { p.setG d (truth (bit w 1 && seen (bit w 0) input)) with pc := p.pc + 4, lost := p.lost || s.late p x }
      (g.putInst { x with data := memWrite x.data off (le 8 (w / 4 * 4 + 2 + b2n input)) }) 3 3 := by
  intro off w input
  refine State.recordOp_goesOn hr hg hx hal hin (by decide) (fun k => ?_) ?_
  · rw [← truth_eq]
    exact s.stored_charged p d _ k g x _
  · exact ⟨(p.same_setG d _).comp, (p.same_setG d _).engine, (p.same_setG d _).entry, (p.same_setG d _).onOld⟩
end

end Sys2Proof.Machine

namespace Sys2Proof.Proofs
open Sys2Proof.Machine Sys2Proof.Claims

/-- Settles O9: each op goes on with the program it found. -/
theorem callsAndTables : Obligations.CallsAndTables := by
  unfold Obligations.CallsAndTables
  intro e d a imm imm21 imm26 s p g hr hg
  refine ⟨fun v hv => ?ldc, fun n hn hk hpc => ⟨fun o hi ho => ?table, fun hi => ?beyond⟩, fun x y pc hl hx hin hy hpc => ?fbcall,
    fun y pc hl ha hy hty hpc => ?fbcallx, fun hl => ?call, fun pc ib rest hl => ?ret⟩
  case ldc =>
    refine ⟨_, rfl, State.progOp_becomes hr hg (by decide) (fun m => ?_) ((p.same_setG d _).at_pc _)⟩
    simp only [hv, Ply.setG_charged, Ply.next, Ply.setG_pc]
  case table =>
    refine ⟨_, rfl, State.progOp_becomes hr hg (by decide) (fun m => ?_) ⟨rfl, rfl, rfl, rfl⟩⟩
    have hsome := (g.image.tableTargets_getElem (pc := p.pc) hn (p.g a).toNat).trans (if_pos hi)
    rw [ho, Option.map_some] at hsome
    simp only [Ply.g_charged, hsome, show imm.toNat < g.image.consts.length by omega, if_true, jump_target hpc]
  case beyond =>
    refine ⟨_, rfl, State.progOp_becomes hr hg (by decide) (fun m => ?_) ⟨rfl, rfl, rfl, rfl⟩⟩
    have hnone := (g.image.tableTargets_getElem (pc := p.pc) hn (p.g a).toNat).trans (if_neg (Nat.not_lt.mpr hi))
    simp only [Ply.g_charged, hnone, show imm.toNat < g.image.consts.length by omega, if_true, Ply.next]
  case fbcall =>
    refine ⟨_, rfl, becomes_then_counts (State.progOp_becomes hr hg (by decide) (fun m => ?_) ⟨rfl, rfl, rfl, rfl⟩)
      (s.countCall_countsOnly _ e)⟩
    have hcur : current { p with charged := m, begun := true } g = some x := hx
    simp only [hcur, (x.fits_iff _ _).mpr hin, if_true, hy, Ply.callInst_of_entry _ _ hpc]
    exact Ply.callTo_of_room g _ _ hl
  case fbcallx =>
    refine ⟨_, rfl, becomes_then_counts (State.progOp_becomes hr hg (by decide) (fun m => ?_) ⟨rfl, rfl, rfl, rfl⟩)
      (s.countCall_countsOnly _ e)⟩
    simp only [Ply.g_charged, ha, if_true, hy, Option.filter_some, hty, beq_self_eq_true, Ply.callInst_of_entry _ _ hpc]
    exact Ply.callTo_of_room g _ _ hl
  case call =>
    exact ⟨_, rfl, becomes_then_counts (State.progOp_becomes hr hg (by decide) (fun n =>
      Ply.callTo_of_room (p := { p with charged := n, begun := true }) g _ _ hl) ⟨rfl, rfl, rfl, rfl⟩)
      (s.countCall_countsOnly _ e)⟩
  case ret =>
    refine ⟨_, ?_, State.retire_becomes hr (by decide) (q := p.back pc ib rest) (f := fun q => q.back pc ib rest) (fun _ => rfl)
      (fun _ => rfl)⟩
    have hlink : (s.spend p 3 4).2.link = (pc, ib) :: rest := hl
    show Host.Outcome.next _ = _
    simp only [hr, hlink, State.retire]

/-- Settles O10: slot ops and loads go on with the program they found, stores with one instance changed. -/
theorem dataAccesses : Obligations.DataAccesses := by
  unfold Obligations.DataAccesses
  refine ⟨fun i e a imm count f s p g h hr hg hin => ?slot, fun i e d a imm n glob s p g x h hr hg hx hin => ?load,
    fun i e d a imm n glob s p g x h hr hg hx hin => ?store⟩
  case slot =>
    obtain ⟨hexec, hcount⟩ := exec_slotAccess s h
    obtain ⟨hf, hsame, hpc⟩ := slotAccess_steady h p (offset p a imm)
    refine ⟨_, hexec, State.progOp_becomes hr hg (by decide) (fun m => ?_) (hsame.at_pc _)⟩
    simp only [hcount, Ply.ea_charged, hin, if_true, hf, Ply.next, hpc]
  case load =>
    refine ⟨_, exec_loadAccess s h, State.progOp_becomes hr hg (by decide) (fun m => ?_) ((p.same_setG d _).at_pc _)⟩
    simp only [accessInst_eq_reached, hx, Ply.ea_charged, (x.fits_iff _ n).mpr hin, if_true, Ply.setG_charged, Ply.next, Ply.setG_pc]
  case store =>
    have hon : GoesOnWith s (s.storeOp e d a imm n (accessTrap glob) (accessInst glob)) p
        { p with pc := p.pc + 4, lost := p.lost || s.late p x }
        (g.putInst { x with data := memWrite x.data (offset p a imm) (le n (p.g d).toNat) }) 2 3 := by
      refine State.progOp_goesOn hr hg (by decide) (fun m => ?_) ⟨rfl, rfl, rfl, rfl⟩
      simp only [accessInst_eq_reached, hx, Ply.ea_charged, (x.fits_iff _ n).mpr hin, if_true, Ply.next, State.late_charged, Ply.g_charged]
    exact ⟨_, exec_storeAccess s h, hon.frame, hon.ply, hon.dataChanges fun b => memGet_writeLe x.data _ n _ b⟩

/-- Settles O11: each op goes on with one record changed, or none. -/
theorem timersAndEdges : Obligations.TimersAndEdges := by
  unfold Obligations.TimersAndEdges
  refine ⟨fun e d a imm s p g x hr hg hx hal hin => ?timer, fun i e d a imm s p g x h hr hg hx hal hin => ?edge⟩
  case timer =>
    intro off w rec_ after
    refine ⟨fun hkind => ?_, _, rfl, State.recordOp_becomes hr hg hx hal hin (by decide) (fun k => ?_) ((p.same_setG d _).at_pc _)⟩
    · have hlt : rec_.kind < 3 := by
        have : rec_.kind < 4 := Nat.mod_lt _ (by decide)
        omega
      obtain ⟨t, hexec, hon⟩ := tmr_goesOn hr hg hx hal d hin hkind
      rw [Timer.eval_eq_tmrStep _ _ hlt] at hon
      obtain ⟨hword, hanchor, hrest⟩ := timerStore x.data off (after.1.word w) after.1.anchor
      exact ⟨t, hexec, hon.frame, hon.ply, _, hon.recordChanges hrest, hword.trans (after.1.word_eq (memRead_lt _ _ 8)), hanchor⟩
    · simp only [Ply.setG_charged, Ply.next, Ply.setG_pc]
      rfl
  case edge =>
    intro off w input
    have hon := edge_goesOn hr hg hx hal d (edgeSeen i) hin
    have hw : w < 2 ^ 64 := memRead_lt _ _ 8
    have hin1 : b2n input ≤ 1 := by cases input <;> decide
    refine ⟨_, exec_edgeOp h s, hon.frame, hon.ply, _, hon.recordChanges fun b hb => ?_, (memRead_writeLe ..).trans (Nat.mod_eq_of_lt ?_)⟩
    · rw [memGet_writeLe, if_neg hb]
    · show w / 4 * 4 + 2 + b2n input < 2 ^ 64
      omega

end Sys2Proof.Proofs
end

section
/-!
SUPPORT. System calls of tempo code (R143, R165): the ply's own context, object calls, events; and the end of a ply (R148).
-/
namespace Sys2Proof.Machine
open Sys2Proof.Claims

theorem State.wordAt_captures (s : State) (l : List (Requester × Nat × Nat)) (c a : Nat) :
    State.wordAt { s with captures := l } c a = s.wordAt c a := rfl

/-! ### A ply put back -/

/-- A ply that takes the place of its task's is the one found there. -/
theorem plyAt_of_map {s t : State} {p q : Ply} (hp : p ∈ s.scan.plies) (hq : p.Same q)
    (h : t.scan.plies = s.scan.plies.map fun r => if r.sameTask q then q else r) : plyAt t p = some q := by
  have hiff (r : Ply) : (r.comp == p.comp && r.engine == p.engine && r.entry == p.entry) = r.sameTask q := by
    simp only [Ply.sameTask, hq.comp, hq.engine, hq.entry]
  have hqq : q.sameTask q = true := by simp [Ply.sameTask]
  have hpq : p.sameTask q = true := by simp [Ply.sameTask, hq.comp, hq.engine, hq.entry]
  rw [plyAt, State.plyOf, h]
  simp only [hiff]
  generalize s.scan.plies = l at hp
  induction l with
  | nil => cases hp
  | cons r l ih =>
    by_cases hr : r.sameTask q = true
    · simp only [List.map_cons, hr, if_true, List.find?_cons_of_pos (p := fun r : Ply => r.sameTask q) hqq]
    · have hne : p ≠ r := fun e => hr (e ▸ hpq)
      simp only [List.map_cons, hr, Bool.false_eq_true, if_false]
      rw [List.find?_cons_of_neg (p := fun r : Ply => r.sameTask q) hr]
      exact ih ((List.mem_cons.mp hp).resolve_left hne)

theorem State.plyOf_some {s : State} {c e k : Nat} {p : Ply} (h : s.plyOf c e k = some p) :
    p ∈ s.scan.plies ∧ p.comp = c ∧ p.engine = e ∧ p.entry = k := by
  have hq := List.find?_some h
  simp only [Bool.and_eq_true, beq_iff_eq, and_assoc] at hq
  exact ⟨List.mem_of_find?_eq_some h, hq⟩

theorem Becomes.plyAt {s t : State} {p q : Ply} {lo hi : Nat} (h : Becomes s t p q lo hi) (hp : p ∈ s.scan.plies) (hq : p.Same q) :
    ∃ n, plyAt t p = some { q with charged := p.charged + n, begun := true } := by
  obtain ⟨-, -, n, -, -, hplies⟩ := h
  refine ⟨n, plyAt_of_map (s := s) hp ⟨hq.comp, hq.engine, hq.entry, hq.onOld⟩ (hplies.trans (List.map_congr_left fun r _ => ?_))⟩
  rw [← hq.sameTask r]
  rfl

/-! ### The ply's own context -/

theorem exec_contextOp {s : State} {i : Instr} {x : Writes} {p : Ply} (h : contextOp s i = some x) (hr : s.running x.e = some p) :
    exec i s = .next (s.regOp x.e x.lo x.hi x.d x.value) ∧ x.lo ≤ x.hi ∧ ∀ n, x.value { p with charged := n, begun := true } = x.value p := by
  unfold contextOp at h
  split at h
  case h_4 e d =>
    split at h
    · cases h
    case isFalse hm =>
      cases h
      refine ⟨?_, Nat.le_refl _, fun _ => rfl⟩
      have hw : ¬ (s.mode = 2 ∧ s.watchTask p.comp p.engine p.entry = true ∧ s.wakeEn 4 = true) := fun h => hm h.1
      show Host.Outcome.next _ = _
      rw [show s.running e.val = some p from hr]
      simp only [hw, if_false]
      rfl
  all_goals cases h
  all_goals exact ⟨rfl, Nat.le_refl _, fun _ => rfl⟩

theorem OpFrame.power {s t : State} (h : OpFrame s t) : t.power = s.power := by rw [h]
theorem OpFrame.evr {s t : State} (h : OpFrame s t) : t.evr = s.evr := by rw [h]

theorem State.rd_congr {s t : State} (h : t.regs = s.regs) (f : Fld) : t.rd f = s.rd f := congrArg (·.get f) h

theorem State.wakeCause_scan (s : State) (code : Nat) : (s.wakeCause code).scan = s.scan := by
  unfold State.wakeCause
  split <;> rfl

/-- A wake cause is written while none is held. -/
theorem State.rd_wakeCause (s : State) {code : Nat} (hc : code < 8) (h : s.rd Obj.PWR_WAKE_CAUSE.f = 0) :
    (s.wakeCause code).rd Obj.PWR_WAKE_CAUSE.f = code := by
  rw [State.wakeCause, if_pos h, State.rd_wr_self]
  exact Nat.mod_eq_of_lt (Nat.lt_of_lt_of_le hc (by decide))

theorem State.running_waiting {s : State} {e : Nat} {p : Ply} (h : s.running e = some p) : p.waiting = none := by
  unfold State.running at h
  split at h
  · cases h
  · have hp := (List.mem_filter.mp (firstPly_mem h)).2
    simp only [Bool.and_eq_true, State.runnable, Option.isNone_iff_eq_none] at hp
    exact hp.2.1.2

/-! ### Object calls -/

/-- The charge of an access, whatever it is. -/
theorem State.spendNs_chargesOnly (s : State) (p : Ply) (ns : Nat) :
    ChargesOnly s (s.spendNs p ns).1 ∧ ∃ n, (s.spendNs p ns).2 = { p with charged := n, begun := true } :=
  ⟨((s.switchPs_countsOnly p).trans (t := (s.switchPs p).2) (u := (s.switchPs p).2.draw.2) rfl).chargesOnly.trans
    ((State.charge_chargesOnly _ p _).trans (State.opDone_countsOnly _ p _ _).chargesOnly), _, rfl⟩

theorem State.spendAccess_chargesOnly (s : State) (p : Ply) (a n st : Nat) :
    ChargesOnly s (s.spendAccess p a n st).1 ∧ ∃ m, (s.spendAccess p a n st).2 = { p with charged := m, begun := true } := by
  unfold State.spendAccess
  split
  · exact ⟨s.spend_chargesOnly p _ _, _, rfl⟩
  · have hc := (s.perf_countsOnly (5 + p.engine) 0x09 p.comp 1).chargesOnly
    split
    · exact ⟨hc.trans (State.spend_chargesOnly _ p _ _), _, rfl⟩
    · exact ⟨hc.trans (State.spendNs_chargesOnly _ p _).1, (State.spendNs_chargesOnly _ p _).2⟩

/-- A ply that begins an FW access is blocked on it. -/
theorem State.beginFw_blocks {s : State} {p r : Ply} (hr : r ∈ s.scan.plies) (hs : r.Same p) (x : FwAccess) :
    OpFrame s (s.beginFw p x) ∧ ∃ n, plyAt (s.beginFw p x) r = some { p with charged := n, begun := true, waiting := some x } := by
  obtain ⟨hframe, hplies, -⟩ := (s.perf_countsOnly (5 + p.engine) 0x0A p.comp 1).chargesOnly.trans (State.spend_chargesOnly _ p 0 0)
  let n := ((s.perf (5 + p.engine) 0x0A p.comp).spend p 0 0).2.charged
  refine ⟨OpFrame.trans hframe (OpFrame.putPly _ _), n,
    plyAt_of_map (q := { p with charged := n, begun := true, waiting := some x }) hr ⟨hs.comp, hs.engine, hs.entry, hs.onOld⟩ ?_⟩
  rw [← hplies]
  rfl

/-- A word read for a request: its value, where it is neither of the RTC group nor a high half read alone. -/
theorem State.readOne_value (who : Requester) (c : Nat) {l : List Nat} (s : State) {a : Nat} (hrtc : inRtc a = false)
    (hhigh : highHalf a = true → l.contains (a - 4) = true) :
    ∃ k, s.readOne who c false l a = ((s.wordAt c a).getD 0, { s with captures := k }) := by
  have hh : ¬ (highHalf a = true ∧ (! false) = true ∧ (! l.contains (a - 4)) = true) := fun h => by
    have := hhigh h.1
    simp_all
  unfold State.readOne
  simp only [hrtc, Bool.false_eq_true, if_false, hh]
  split
  · split
    · exact ⟨_, rfl⟩
    · exact ⟨_, rfl⟩
  · exact ⟨_, rfl⟩

theorem rtcWords_all_contains {l : List Nat} (h : ∀ a ∈ l, inRtc a = false) : rtcWords.all l.contains = false := by
  rw [List.all_eq_false]
  refine ⟨0x20000, by decide, fun hc => ?_⟩
  have := h 0x20000 (List.contains_iff_mem.mp hc)
  exact absurd this (by decide)

theorem State.clearRead_scan (s : State) (c : Nat) (l : List Nat) (sets : Nat) : (s.clearRead c l sets).scan = s.scan := by
  unfold State.clearRead
  refine State.foldl_keeps (·.scan) _ _ (fun t a => ?_) s
  exact State.foldl_keeps (·.scan) _ (fun (u : State) (p : Obj.Part) => u.clearByRead (p.row.at c p.idx) (p.taken sets)) (fun _ _ => rfl) t

/-- The one word of a request. -/
theorem State.readWords_one (who : Requester) (c : Nat) (s : State) {a v : Nat} (hrtc : inRtc a = false) (hhigh : highHalf a = false)
    (hv : s.wordAt c a = some v) : (s.readWords who c false [a]).1 = [v] ∧ (s.readWords who c false [a]).2.scan = s.scan := by
  obtain ⟨k, hk⟩ := s.readOne_value who c (l := [a]) hrtc (fun h => absurd h (by rw [hhigh]; decide))
  have hall : rtcWords.all [a].contains = false := rtcWords_all_contains (by simpa using hrtc)
  simp only [State.readWords, hall, Bool.false_eq_true, if_false, State.readAll, hk, hv, Option.getD_some, State.clearRead_scan,
    and_self]

/-- Both words of a 64-bit read. -/
theorem State.readWords_two (who : Requester) (c : Nat) (s : State) {a v u : Nat} (hrtc : inRtc a = false) (hrtc' : inRtc (a + 4) = false)
    (hhigh : highHalf a = false) (hv : s.wordAt c a = some v) (hu : s.wordAt c (a + 4) = some u) :
    (s.readWords who c false [a, a + 4]).1 = [v, u] ∧ (s.readWords who c false [a, a + 4]).2.scan = s.scan := by
  obtain ⟨k, hk⟩ := s.readOne_value who c (l := [a, a + 4]) hrtc (fun h => absurd h (by rw [hhigh]; decide))
  obtain ⟨k', hk'⟩ := State.readOne_value who c (l := [a, a + 4]) { s with captures := k } hrtc' (fun _ => by simp)
  have hall : rtcWords.all [a, a + 4].contains = false := rtcWords_all_contains (by simp [hrtc, hrtc'])
  simp only [State.readWords, hall, Bool.false_eq_true, if_false, State.readAll, hk, hk', hv, hu, State.wordAt_captures, Option.getD_some,
    State.clearRead_scan, and_self]

theorem GoesOn.of_put {s t : State} {p q : Ply} {r : List Word64} (hp : p ∈ s.scan.plies) (hq : p.Same q)
    (hplies : t.scan.plies = s.scan.plies.map fun x => if x.sameTask q then q else x) (hr : q.regs = r) (hpc : q.pc = p.pc + 4)
    (hw : q.waiting = none) (hl : q.link = p.link) (hi : q.ib = p.ib) : GoesOn t p r :=
  ⟨q, plyAt_of_map hp hq hplies, hr, hpc, hw, hl, hi⟩

theorem Fin.ofNat_val {n : Nat} [NeZero n] (d : Fin n) : Fin.ofNat n d.val = d := Fin.ext (Nat.mod_eq_of_lt d.isLt)

/-- What a completed read puts in the registers of its ply. -/
def readInto (p : Ply) (d b : Fin 32) (v : Nat) : Ply := (p.setG d (BitVec.ofNat 64 v)).setG b 0

theorem readInto_spec (p : Ply) (d b : Fin 32) (v : Nat) : p.Same (readInto p d b v) ∧ (readInto p d b v).pc = p.pc ∧
    (readInto p d b v).waiting = p.waiting ∧ (readInto p d b v).link = p.link ∧ (readInto p d b v).ib = p.ib := by
  unfold readInto Ply.setG
  split <;> split <;> exact ⟨⟨rfl, rfl, rfl, rfl⟩, rfl, rfl, rfl, rfl⟩

/-- A read of words in view: their values and the status OK. -/
theorem State.windowRead_ok {s : State} {p : Ply} {a : Nat} {wide : Bool} {vs : List Nat} (d b : Fin 32)
    (hst : s.wordsStatus p.comp (callWords a wide) = St.ok)
    (hvs : (s.readWords p.who p.comp false (callWords a wide)).1 = vs) :
    s.windowRead p d.val b.val a wide = ((s.readWords p.who p.comp false (callWords a wide)).2, readInto p d b (wordsValue vs), St.ok) := by
  simp only [State.windowRead, hst, if_true, hvs, Fin.ofNat_val]
  rfl

/-- OBJRD of words that may be read at once. -/
theorem State.objRead_goesOn {s : State} {d a b : Fin 32} {wide : Bool} {p : Ply} {vs : List Nat} (e : Fin 2) (hr : s.running e = some p)
    (hst : s.wordsStatus p.comp (callWords (p.g a).toNat wide) = St.ok) (hhw : (callWords (p.g a).toNat wide).all isHw = true)
    (hvs : (s.readWords p.who p.comp false (callWords (p.g a).toNat wide)).1 = vs ∧
      (s.readWords p.who p.comp false (callWords (p.g a).toNat wide)).2.scan = s.scan) :
    GoesOn (s.objRead e d a b wide) p (readInto p d b (wordsValue vs)).regs := by
  obtain ⟨hval, hscan⟩ := hvs
  have hwin := State.windowRead_ok d b hst hval
  generalize (s.readWords p.who p.comp false (callWords (p.g a).toNat wide)).2 = s1 at hwin hscan
  obtain ⟨⟨-, hplies, -⟩, n, hply⟩ := s1.spendAccess_chargesOnly (readInto p d b (wordsValue vs)) (p.g a).toNat
    (callWords (p.g a).toNat wide).length St.ok
  obtain ⟨hsame, hpc, hw, hl, hi⟩ := readInto_spec p d b (wordsValue vs)
  have heq : s.objRead e d a b wide = (s1.spendAccess (readInto p d b (wordsValue vs)) (p.g a).toNat
      (callWords (p.g a).toNat wide).length St.ok).1.putPly
        { readInto p d b (wordsValue vs) with charged := n, begun := true, pc := (readInto p d b (wordsValue vs)).pc + 4 } := by
    simp only [State.objRead, hr, hst, hhw, Bool.not_true, Bool.false_eq_true, and_false, if_false, hwin, hply, Ply.next]
  refine GoesOn.of_put (q := { readInto p d b (wordsValue vs) with charged := n, begun := true, pc := (readInto p d b (wordsValue vs)).pc + 4 })
    (State.running_mem hr) ⟨hsame.comp, hsame.engine, hsame.entry, hsame.onOld⟩ ?_ rfl
    (congrArg (· + 4) hpc) (hw.trans (State.running_waiting hr)) hl hi
  rw [heq, State.putPly_plies, hplies, hscan]

/-- A call that meets an FW word blocks its ply. -/
theorem State.objRead_blocks {s : State} {d a b : Fin 32} {wide : Bool} {p : Ply} {e : Fin 2} (hr : s.running e = some p)
    (hst : s.wordsStatus p.comp (callWords (p.g a).toNat wide) = St.ok) (hfw : (callWords (p.g a).toNat wide).all isHw = false) :
    Blocks (s.objRead e d a b wide) p (.read d.val b.val (p.g a).toNat wide) ∧ OpFrame s (s.objRead e d a b wide) := by
  have heq : s.objRead e d a b wide = s.beginFw p (.read d.val b.val (p.g a).toNat wide) := by
    have h1 : St.ok ≠ St.noObject := by decide
    have h2 : St.ok ≠ St.badAccess := by decide
    simp only [State.objRead, hr, hst, hfw, Bool.not_false, h1, h2, ne_eq, not_false_eq_true, and_self, if_true]
  obtain ⟨hframe, n, hply⟩ := State.beginFw_blocks (State.running_mem hr) (.refl p) (.read d.val b.val (p.g a).toNat wide)
  rw [heq]
  exact ⟨⟨_, hply, rfl, rfl, rfl⟩, hframe⟩

/-- OBJWR of HW words gives its ply the status of the write. -/
theorem State.objWriteOp_goesOn {s : State} {d a b : Fin 32} {wide : Bool} {p : Ply} {e : Fin 2} {ws : List (Nat × Nat)}
    (hr : s.running e = some p) (hws : callWrites (p.g a).toNat (p.g b).toNat wide = ws) (hhw : ws.all (fun w => isHw w.1) = true) :
    (s.objWriteOp e d a b wide).regs = (s.taskWrite p.comp p.engine p.entry ws).1.regs ∧
      ∀ q, plyAt (s.taskWrite p.comp p.engine p.entry ws).1 p = some q → q.waiting = none →
        GoesOn (s.objWriteOp e d a b wide) q (q.setG d (BitVec.ofNat 64 (s.taskWrite p.comp p.engine p.entry ws).2)).regs := by
  generalize hw : s.taskWrite p.comp p.engine p.entry ws = w
  obtain ⟨s1, st⟩ := w
  have heq : ∀ q, (s1.plyOf p.comp p.engine p.entry).getD p = q → s.objWriteOp e d a b wide =
      (s1.spendAccess q (p.g a).toNat ws.length st).1.putPly
        ((s1.spendAccess q (p.g a).toNat ws.length st).2.setG d (BitVec.ofNat 64 st)).next := fun q hq => by
    simp only [State.objWriteOp, hr, hws, hhw, Bool.not_true, Bool.and_false, Bool.false_eq_true, if_false, hw, hq]
  refine ⟨?_, fun q hq hwait => ?_⟩
  · rw [heq _ rfl, State.putPly_regs, OpFrame.regs (s1.spendAccess_chargesOnly _ _ _ _).1.frame]
  · obtain ⟨⟨-, hplies, -⟩, n, hply⟩ := s1.spendAccess_chargesOnly q (p.g a).toNat ws.length st
    have hput := heq q (by rw [show s1.plyOf p.comp p.engine p.entry = some q from hq, Option.getD_some])
    rw [hply, Ply.setG_charged] at hput
    have hsame := q.same_setG d (BitVec.ofNat 64 st)
    refine GoesOn.of_put (q := { q.setG d (BitVec.ofNat 64 st) with charged := n, begun := true, pc := (q.setG d (BitVec.ofNat 64 st)).pc + 4 })
      (State.plyOf_some hq).1 ⟨hsame.comp, hsame.engine, hsame.entry, hsame.onOld⟩ ?_ rfl (congrArg (· + 4) (q.setG_pc d _)) ?_ ?_ ?_
    · rw [hput, State.putPly_plies, hplies]
      rfl
    · exact (by unfold Ply.setG; split <;> rfl : (q.setG d (BitVec.ofNat 64 st)).waiting = q.waiting).trans hwait
    · unfold Ply.setG; split <;> rfl
    · unfold Ply.setG; split <;> rfl

/-! ### The end of an FW access, and EVENT -/

theorem Ply.setG_rest (p : Ply) (d : Fin 32) (v : Word64) :
    (p.setG d v).waiting = p.waiting ∧ (p.setG d v).link = p.link ∧ (p.setG d v).ib = p.ib := by
  unfold Ply.setG
  split <;> exact ⟨rfl, rfl, rfl⟩

theorem Ply.setG_waiting (p : Ply) (d : Fin 32) (v : Word64) (w : Option FwAccess) :
    ({ p with waiting := w } : Ply).setG d v = { p.setG d v with waiting := w } := by
  unfold Ply.setG
  split <;> rfl

theorem State.log_scan (s : State) (c trigger : Nat) (d : Bytes) : (s.log c trigger d).scan = s.scan := by rw [State.log_eq]

/-! ### The end of a ply -/

/-- An output step that wrote no point triggers no transmit buffer. -/
theorem State.outputTriggers_nil (s : State) : s.outputTriggers [] = s := by
  have inner (p : Nat) (l : List Nat) (t : State) : l.foldl (fun u b =>
      let tr := u.rd (Obj.FBC_TXB_CTRL_TRIGGER.ij p b)
      if (tr = 1 ∨ tr = 2) ∧ (u.mapsOf p true b).any (fun m => ([] : List Nat).contains (u.rd (Obj.FBC_MAP_POINT.ij p m))) then
        let was := (u.txReq p b).composed
        let u1 := u.compose p b
        if tr = 2 ∨ (u1.txReq p b).composed ≠ was then u1.request p b else u1
      else u) t = t := by
    induction l generalizing t with
    | nil => rfl
    | cons b l ih => simp
  exact State.foldl_keeps id _ _ (fun t p => inner p _ t) s

/-- RET on an empty link stack, of a ply without an output set. -/
theorem exec_ret_of_no_points {s : State} {e : Fin 2} {p : Ply} (hr : s.running e = some p) (hl : p.link = []) (ho : p.outPts = []) :
    exec (.ret e) s = .next ((s.spend p 3 4).1.endPly (s.spend p 3 4).2) := by
  have hlink : (s.spend p 3 4).2.link = [] := hl
  have hpts : (s.spend p 3 4).2.outPts = [] := ho
  show Host.Outcome.next _ = _
  simp only [hr, hlink, State.finishPly, hpts, State.outputTriggers_nil]

end Sys2Proof.Machine

namespace Sys2Proof.Proofs
open Sys2Proof.Machine Sys2Proof.Claims

/-- Settles O12: the four ops outside watch mode are register writes; in watch mode WAKE asks for full service. -/
theorem contextOps : Obligations.ContextOps := by
  unfold Obligations.ContextOps
  refine ⟨fun i x s p h hr => ?reads, fun e d s p hr hm ht => ?wake⟩
  case reads =>
    obtain ⟨hexec, hb, hv⟩ := exec_contextOp h hr
    exact ⟨_, hexec, State.regOp_becomes hr hb hv⟩
  case wake =>
    have hbec := State.regOp_becomes (lo := 12) (hi := 12) (d := d) (f := fun _ => BitVec.ofNat 64 St.ok) hr (by decide) (fun _ => rfl)
    generalize hs1 : s.regOp e 12 12 d (fun _ => BitVec.ofNat 64 St.ok) = s1 at hbec
    have hframe := hbec.1
    obtain ⟨n, hply⟩ := hbec.plyAt (State.running_mem hr) ((p.same_setG d _).at_pc _)
    have hexec : exec (.wake e d) s =
        .next (if s.mode = 2 ∧ s.watchTask p.comp p.engine p.entry = true ∧ s.wakeEn 4 = true then s1.wake 5 else s1) := by
      show Host.Outcome.next _ = _
      simp only [hr, hs1]
    by_cases hc : s.mode = 2 ∧ s.watchTask p.comp p.engine p.entry = true ∧ s.wakeEn 4 = true
    · rw [if_pos hc] at hexec
      have hm1 : s1.mode = 2 := (State.rd_congr (OpFrame.regs hframe) _).trans hm
      have hwake : s1.wake 5 = (s1.wakeCause 5).beginTransition 6 := by
        simp only [State.wake, OpFrame.power hframe, ht, hm1, if_true]
      have hq : plyAt (s1.wake 5) p = plyAt s1 p := by
        rw [hwake]
        simp only [plyAt, State.plyOf, State.beginTransition, State.wakeCause_scan]
      refine ⟨_, hexec, ⟨_, hq.trans hply, rfl, rfl⟩, fun _ _ => ?_, fun h => absurd hc.2 h⟩
      · rw [hwake]
        exact ⟨rfl, fun h => (s1.rd_wakeCause (by decide) ((State.rd_congr (OpFrame.regs hframe) _).trans h))⟩
    · rw [if_neg hc] at hexec
      exact ⟨_, hexec, ⟨_, hply, rfl, rfl⟩, fun h h' => absurd ⟨hm, h, h'⟩ hc,
        fun _ => ⟨OpFrame.power hframe, fun f _ => State.rd_congr (OpFrame.regs hframe) f⟩⟩

/-- Settles O13: reads that go on, calls that block, writes. -/
theorem objectCalls : Obligations.ObjectCalls := by
  unfold Obligations.ObjectCalls
  refine fun e d a b s p hr => ⟨fun v => ?word, fun v u => ?double, fun wide => ?block, fun wide => ?write⟩
  case word =>
    intro w hst hhw hrtc hhigh hv
    have := State.objRead_goesOn (d := d) (b := b) (wide := false) e hr hst (by simpa [callWords] using hhw)
      (s.readWords_one p.who p.comp hrtc hhigh hv)
    exact ⟨_, rfl, by simpa [wordsValue, readInto] using this⟩
  case double =>
    intro w hst hhw hhw' hrtc hrtc' hhigh _ hv hu
    have := State.objRead_goesOn (d := d) (b := b) (wide := true) e hr hst
      (by simp only [callWords, if_true, List.all_cons, List.all_nil, hhw, hhw', Bool.and_self, w])
      (s.readWords_two p.who p.comp hrtc hrtc' hhigh hv hu)
    exact ⟨_, rfl, by simpa [wordsValue, readInto] using this⟩
  case block =>
    intro i l hst hfw
    cases wide
    · exact ⟨_, rfl, State.objRead_blocks (wide := false) hr hst hfw⟩
    · exact ⟨_, rfl, State.objRead_blocks (wide := true) hr hst hfw⟩
  case write =>
    intro i w v l hhw
    cases wide
    · exact ⟨_, rfl, State.objWriteOp_goesOn (wide := false) hr rfl hhw⟩
    · exact ⟨_, rfl, State.objWriteOp_goesOn (wide := true) hr rfl hhw⟩

/-- Settles O14: the two FW accesses that end, and EVENT by the calls its ply has made. -/
theorem firmwareCalls : Obligations.FirmwareCalls := by
  unfold Obligations.FirmwareCalls
  refine ⟨fun c e k now s p hp => ⟨fun d hd hwait => ?done, fun d b w v hd hb hwait hst hrtc hhigh hv => ?read⟩,
    fun e d a s p hr => ⟨fun hlt => ?event, fun hle => ?fifth⟩⟩
  case done =>
    obtain ⟨d, rfl⟩ : ∃ x : Fin 32, d = x.val := ⟨⟨d, hd⟩, rfl⟩
    have hexec : exec (.fwAccessDone c e k now) s = .next ((s.advance now).putPly
        { p.setG d (BitVec.ofNat 64 St.ok) with waiting := none, pc := (p.setG d (BitVec.ofNat 64 St.ok)).pc + 4 }) := by
      show Host.Outcome.next (fwAccessDone c e.val k.val (s.advance now)) = _
      simp only [fwAccessDone, show (s.advance now).plyOf c e.val k.val = some p from hp, hwait, Ply.setG_waiting, Ply.next, Fin.ofNat_val]
    obtain ⟨hmem, -⟩ := State.plyOf_some hp
    obtain ⟨-, hl, hi⟩ := p.setG_rest d (BitVec.ofNat 64 St.ok)
    have hsame := p.same_setG d (BitVec.ofNat 64 St.ok)
    rw [Fin.ofNat_val]
    exact ⟨_, hexec, GoesOn.of_put (q := { p.setG d (BitVec.ofNat 64 St.ok) with waiting := none, pc := (p.setG d (BitVec.ofNat 64 St.ok)).pc + 4 })
      hmem ⟨hsame.comp, hsame.engine, hsame.entry, hsame.onOld⟩ rfl rfl (congrArg (· + 4) (p.setG_pc d _)) rfl hl hi, fun _ _ => rfl⟩
  case read =>
    obtain ⟨d, rfl⟩ : ∃ x : Fin 32, d = x.val := ⟨⟨d, hd⟩, rfl⟩
    obtain ⟨b, rfl⟩ : ∃ x : Fin 32, b = x.val := ⟨⟨b, hb⟩, rfl⟩
    obtain ⟨hmem, hcomp, -, -⟩ := State.plyOf_some hp
    subst hcomp
    obtain ⟨hval, hscan⟩ := (s.advance now).readWords_one p.who p.comp hrtc hhigh hv
    have hwin : (s.advance now).windowRead { p with waiting := none } d.val b.val w false =
        (((s.advance now).readWords p.who p.comp false [w]).2, readInto { p with waiting := none } d b (wordsValue [v]), St.ok) :=
      State.windowRead_ok d b hst hval
    generalize ((s.advance now).readWords p.who p.comp false [w]).2 = s1 at hwin hscan
    obtain ⟨hsame, hpc, hw, hl, hi⟩ := readInto_spec { p with waiting := none } d b (wordsValue [v])
    have hregs : (readInto { p with waiting := none } d b (wordsValue [v])).regs = ((p.setG d (BitVec.ofNat 64 v)).setG b 0).regs := by
      unfold readInto Ply.setG wordsValue wordsValue
      split <;> split <;> rfl
    have hexec : exec (.fwAccessDone p.comp e k now) s = .next (s1.putPly (readInto { p with waiting := none } d b (wordsValue [v])).next) := by
      show Host.Outcome.next (fwAccessDone p.comp e.val k.val (s.advance now)) = _
      simp only [fwAccessDone, show (s.advance now).plyOf p.comp e.val k.val = some p from hp, hwait, hwin]
    rw [Fin.ofNat_val, Fin.ofNat_val]
    refine ⟨_, hexec, GoesOn.of_put (s := s) (q := (readInto { p with waiting := none } d b (wordsValue [v])).next) hmem
      ⟨hsame.comp, hsame.engine, hsame.entry, hsame.onOld⟩ ?_ hregs (congrArg (· + 4) hpc) hw hl hi⟩
    rw [State.putPly_plies, hscan]
    rfl
  case event =>
    have hexec : exec (.event e d a) s = .next ((s.log p.comp 0x0701 (le 4 ((p.g a).toNat % 2 ^ 32) ++ le 1 p.engine ++ le 1 p.entry ++ le 2 0 ++
        le 8 p.cap)).beginFw { p with events := p.events + 1 } (.event d.val)) := by
      show Host.Outcome.next (s.eventOp e d a) = _
      simp only [State.eventOp, hr, Nat.not_le.mpr hlt, if_false]
    generalize hbody : le 4 ((p.g a).toNat % 2 ^ 32) ++ le 1 p.engine ++ le 1 p.entry ++ le 2 0 ++ le 8 p.cap = body at hexec ⊢
    have hmem : p ∈ (s.log p.comp 0x0701 body).scan.plies := by rw [State.log_scan]; exact State.running_mem hr
    obtain ⟨hframe, n, hply⟩ := State.beginFw_blocks (p := { p with events := p.events + 1 }) hmem ⟨rfl, rfl, rfl, rfl⟩ (.event d.val)
    refine ⟨_, hexec, ⟨_, hply, rfl, rfl, rfl⟩, fun sh hf he hroom => ⟨s.eventRecord p.comp 0x0701 body false none, ?_, rfl, rfl⟩⟩
    rw [OpFrame.evr hframe, State.log_queued s p.comp 0x0701 body false none sh (by rw [hf, he]; rfl) hroom]
  case fifth =>
    have hexec : exec (.event e d a) s = .next (s.retire e 12 12 fun p => (p.setG d (BitVec.ofNat 64 St.noSpace)).next) := by
      show Host.Outcome.next (s.eventOp e d a) = _
      simp only [State.eventOp, hr, hle, if_true, State.retire]
    exact ⟨_, hexec, State.regOp_becomes hr (Nat.le_refl _) fun _ => rfl⟩

end Sys2Proof.Proofs
end

section
/-!
SUPPORT. What a ply's end leaves where the entry is beyond the sixteen of a task table, and the obligations on the run itself, on
reset, and on the end of a ply.
-/
namespace Sys2Proof.Machine
open Sys2Proof.Claims

/-- Charge a ply for `n` cycles where it is the one run last, on the state that the choice of `n` left. -/
def State.spendCycles (s : State) (p : Ply) (n : Nat) : State × Ply :=
  let t := { s with free := s.free + 1 }
  let ps := t.cyclePs p.engine n
  ((t.charge p ps).opDone p (t.eng p.engine).last (n * 1000000), { p with charged := p.charged + ps, begun := true })

/-- An op of free length, of the ply run last. -/
theorem State.spend_of_last {s : State} {p : Ply} {lo hi : Nat} (hl : (s.eng p.engine).last = some (p.comp, p.entry)) (hlt : lo < hi) :
    s.spend p lo hi = s.spendCycles p (lo + Config.freeNat s.free % (hi - lo + 1)) := by
  have hsw : s.switchPs p = (0, s) := if_pos hl
  have hcyc : s.cycles lo hi = (lo + Config.freeNat s.free % (hi - lo + 1), { s with free := s.free + 1 }) :=
    if_neg (Nat.not_le.mpr hlt)
  simp only [State.spend, hsw, hcyc, Nat.zero_add, Nat.zero_mul, Nat.add_zero]
  rfl

/-- The one command with a choice after its frame is served goes on in each. -/
theorem execCmdBusTxSend_next (f : Frame) (s : State) : ∃ t, execCmdBusTxSend f s = .next t := by
  unfold execCmdBusTxSend
  simp only [command_next]
  split
  · split
    · split
      · exact ⟨_, rfl⟩
      · exact ⟨_, rfl⟩
    · exact ⟨_, rfl⟩
  · exact ⟨_, rfl⟩

/-- No command faults or is refused. -/
theorem exec_next (i : Instr) (s : State) : ∃ t, exec i s = .next t := by
  cases i
  case cmdBusTxSend f => exact execCmdBusTxSend_next f s
  all_goals exact ⟨_, rfl⟩

/-- A step goes on, with or without a command. -/
theorem step_next (s : State) : ∃ t, step s = .next t := by
  cases hp : s.pending with
  | nil => exact ⟨_, step_nil s hp⟩
  | cons c r => rw [step_cons s c r hp]; exact exec_next c _

/-- A list of cells that does not hold a field reads its reset value. -/
theorem Cells.get_of_absent {c : Cells} {f : Fld} (h : f.key ∉ c.map fun x => x.1.key) : c.get f = f.reset := by
  induction c with
  | nil => rfl
  | cons x c ih =>
    simp only [List.map_cons, List.mem_cons, not_or] at h
    rw [Cells.get, if_neg (Ne.symm h.1), ih h.2]

/-- The rows above the fields that reset lists read their table's reset value in every instance. -/
theorem State.reset_rd (r : Row) (c : Nat) (idx : List Nat) (h : 0x480800 < 8 * r.base) : State.reset.rd (r.at c idx) = r.reset := by
  refine Cells.get_of_absent fun hmem => ?_
  have hle : ∀ (l : List ((Nat × Nat) × Nat)) (a : Nat), a ≤ l.foldl (fun a p => a + p.2 * p.1.2) a := by
    intro l
    induction l with
    | nil => exact fun a => Nat.le_refl a
    | cons p l ih => exact fun a => (Nat.le_add_right _ _).trans (ih _)
  have hkey : 8 * r.base ≤ (r.at c idx).key := by
    have := hle (r.dims.zip idx) r.base
    simp only [Fld.key, Row.at]
    omega
  have hmax : ∀ k ∈ resetCells.map fun x => x.1.key, k ≤ 0x480800 := by decide
  exact absurd (hmax _ hmem) (by omega)

end Sys2Proof.Machine

namespace Sys2Proof.Proofs
open Sys2Proof.Machine Sys2Proof.Claims

/-- Whichever of its cycles RET takes, the release that the end of the ply brings clears what its PLY_DONE reads. -/
theorem strayState_plyDone_after_cycles {m : Nat} (hm : m < 2) :
    (((strayState.spendCycles strayPly (3 + m)).1.endPly (strayState.spendCycles strayPly (3 + m)).2).rd
      (taskField Obj.SCE_TASK_PLY_DONE strayPly)) = 0 := by
  obtain rfl | rfl : m = 0 ∨ m = 1 := by omega
  · decide +kernel
  · decide +kernel

/-- The release that the end of the ply brings clears what its PLY_DONE reads. -/
theorem strayState_plyDone_after_ret {t : State} (h : exec (.ret 0) strayState = .next t) :
    t.rd (taskField Obj.SCE_TASK_PLY_DONE strayPly) = 0 := by
  rw [exec_ret_of_no_points strayState_runs.1 rfl rfl, State.spend_of_last rfl (by decide)] at h
  rw [← Host.Outcome.next.inj h]
  exact strayState_plyDone_after_cycles (Nat.mod_lt _ (by decide))

/-- Refutes O16: the statement bounds no ply's entry, and `strayState` runs one of entry 768, whose PLY_DONE is the field of a force's
value; the release of the force that its end brings leaves it at 0 instead of 2. -/
theorem not_plyEnds : ¬ Obligations.PlyEnds := by
  unfold Obligations.PlyEnds
  intro h
  obtain ⟨t, hexec, -, hdone, -⟩ := h 0 strayState strayPly strayState_runs.1 rfl
  rw [strayState_plyDone_after_ret hexec, strayState_plyDone] at hdone
  exact absurd hdone (by decide)

/-- Settles O1: `step` is `exec` of the front of the queue. -/
theorem stepRunsFront : Obligations.StepRunsFront := by
  unfold Obligations.StepRunsFront
  intros
  rfl

/-- Settles O2, by the steps of the run. -/
theorem everyRunGoesOn : Obligations.EveryRunGoesOn := by
  unfold Obligations.EveryRunGoesOn
  refine ⟨exec_next, fun n => ?_⟩
  induction n with
  | zero => exact fun s => ⟨s, rfl⟩
  | succ n ih =>
    intro s
    obtain ⟨t, ht⟩ := step_next s
    obtain ⟨u, hu⟩ := ih t
    have hstep : core.step s = .next t := ht
    exact ⟨u, by simp only [Host.Core.run]; rw [hstep]; exact hu⟩

/-- Settles O57: the rows of the instances lie above the fields that reset lists, and the rest is one state. -/
theorem resetState : Obligations.ResetState := by
  unfold Obligations.ResetState
  have row (r : Row) (c : Nat) (idx : List Nat) (h : 0x480800 < 8 * r.base) := State.reset_rd r c idx h
  refine ⟨by decide, by decide, rfl, rfl, rfl, rfl, rfl, rfl, rfl, rfl, rfl, rfl, rfl, rfl, rfl, ?port, ?comp, ?mset, ?slot, ?nsw,
    ?lport, ?rest⟩
  case port => exact fun p hp => ⟨rfl, row _ 0 [p] (by decide), row _ 0 [p] (by decide), row _ 0 [p] (by decide),
    row _ 0 [p] (by decide), row _ 0 [p] (by decide)⟩
  case comp =>
    refine fun c hc => ⟨row _ c [] (by decide), row _ c [] (by decide), Cells.get_of_absent ?_⟩
    simp [State.reset, resetCells, Fld.key, Row.b, Row.at, Obj.CAST_STAGE_STATE]
    omega
  case mset => exact fun v hv => ⟨row _ 0 [v] (by decide), row _ 0 [v] (by decide)⟩
  case slot =>
    refine fun k hk => ⟨Cells.get_of_absent ?_, Cells.get_of_absent ?_⟩
    · simp [State.reset, resetCells, Fld.key, Row.i, Row.at, Obj.KSE_SLOT_STATE]
      omega
    · simp [State.reset, resetCells, Fld.key, Row.i, Row.at, Obj.KSE_SLOT_PARENT]
      omega
  case nsw => exact fun p hp => row _ 0 [p] (by decide)
  case lport => exact fun p hp => ⟨row _ 0 [p] (by decide), row _ 0 [p] (by decide)⟩
  case rest => decide

/-- Settles O58: at reset no field is stored. -/
theorem cellsAtReset : Obligations.CellsAtReset := by
  unfold Obligations.CellsAtReset
  decide

end Sys2Proof.Proofs
end

section
/-!
SUPPORT. What every step keeps (O59, O60): a state is sound for a mark of floor time where its stored fields are canonical, if asked,
and its floor time stands at the mark or later. One rule per operation of the model: from a sound state it leaves a sound state.
The rules of this part are those of the plain updates and of the combinators.
-/
namespace Sys2Proof.Machine
open Sys2Proof.Claims

/-- The stored fields are canonical, where `w` asks for it, and floor time has reached `b`. -/
structure State.Sound (w : Prop) (b : Nat) (s : State) : Prop where
  wf : w → s.regs.wf = true
  floor : b ≤ s.floorTime

/-! ### What keeps the mode -/

/-- A row above IDENT_MODE is none of its fields. -/
theorem State.mode_wr_row (s : State) (r : Row) (c : Nat) (idx : List Nat) (v : Nat) (h : 0x28 < r.base) :
    (s.wr (r.at c idx) v).mode = s.mode := by
  have hle : ∀ (l : List ((Nat × Nat) × Nat)) (a : Nat), a ≤ l.foldl (fun a p => a + p.2 * p.1.2) a := by
    intro l
    induction l with
    | nil => exact fun a => Nat.le_refl a
    | cons p l ih => exact fun a => (Nat.le_add_right _ _).trans (ih _)
  have hkey : 8 * r.base ≤ (r.at c idx).key := by
    have := hle (r.dims.zip idx) r.base
    simp only [Fld.key, Row.at]
    omega
  exact State.rd_wr_ne s _ _ v (by have : Obj.IDENT_MODE.f.key = 0x140 := rfl; omega)

theorem State.enqueue_mode (s : State) (c : Nat) (r : EvRec) : (s.enqueue c r).mode = s.mode := by
  unfold State.enqueue
  split
  · rfl
  · exact (State.mode_wr_row _ Obj.EVR_EVT_DROPPED c [] _ (by decide)).trans (State.mode_wr_row _ Obj.EVR_DROPPED c [] _ (by decide))

theorem State.log_mode (s : State) (c trigger : Nat) (d : Bytes) (summary : Bool) (list : Option Nat) :
    (s.log c trigger d summary list).mode = s.mode := by
  unfold State.log
  split
  · rfl
  · exact State.enqueue_mode s c _

theorem State.reportDrops_mode (s : State) (c : Nat) : (s.reportDrops c).mode = s.mode := by
  unfold State.reportDrops
  dsimp only
  split
  · rfl
  · exact State.log_mode _ _ _ _ _ _

theorem State.showLast_mode (s : State) (c : Nat) : (s.showLast c).mode = s.mode :=
  State.mode_wr_row s Obj.EVR_LAST_OLDEST c [] _ (by decide)

theorem State.writeRecord_mode (s : State) (c : Nat) (r : EvRec) : (s.writeRecord c r).mode = s.mode := by
  have hseq (v : Nat) := State.mode_wr_row s Obj.EVR_SEQ_NEWEST c [] v (by decide)
  have hfill (t : State) (v : Nat) := State.mode_wr_row t Obj.EVR_FIRST_FILL c [] v (by decide)
  have hfull (t : State) (v : Nat) := State.mode_wr_row t Obj.EVR_FIRST_FULL c [] v (by decide)
  have hput (t : State) (x : EvLog) : (t.putLog c x).mode = t.mode := rfl
  unfold State.writeRecord
  dsimp only
  split
  · rw [State.showLast_mode, hput]
    exact (hfull _ _).trans (hseq _)
  · rw [State.showLast_mode, hput]
    exact (hfull _ _).trans ((hfill _ _).trans (hseq _))

theorem evrRecordWrite_mode (s : State) : (evrRecordWrite s).mode = s.mode := by
  unfold evrRecordWrite
  split
  · rfl
  · split
    · rfl
    · exact (State.foldl_keeps State.mode _ _ State.reportDrops_mode _).trans (State.writeRecord_mode _ _ _)

theorem State.commitShadow_mode (s : State) (c : Nat) : (s.commitShadow c).mode = s.mode := by
  unfold State.commitShadow
  dsimp only
  split
  · rfl
  · exact (State.mode_wr_row _ Obj.SCE_RET_TIME c [] _ (by decide)).trans (State.mode_wr_row _ Obj.SCE_RET_HASH c [] _ (by decide))

/-- A commit, as far as it comes, leaves the mode. -/
theorem State.commitStages_mode (s : State) (n t0 took : Nat) : (s.commitStages n t0 took).mode = s.mode := by
  have hf (r : Row) (h : 0x28 < r.base) {t : State} {v : Nat} (ht : t.mode = s.mode) : (t.wr r.f v).mode = s.mode :=
    (State.mode_wr_row t r 0 [] v h).trans ht
  have h1 (m : Mae) : (if 1 ≤ n then s.commitEnergy t0 else { s with mae := m }).mode = s.mode := by
    split
    · exact hf Obj.MAE_COMMIT_TIME (by decide) rfl
    · rfl
  have h2 {t : State} {x y : Rtc} {z : Power} {v : Nat} (ht : t.mode = s.mode) :
      (if 2 ≤ n then { t with rtc := x, power := z } else State.wr { t with rtc := y } Obj.EVR_OP_SECONDS.f v).mode = s.mode := by
    split
    · exact ht
    · exact hf Obj.EVR_OP_SECONDS (by decide) (t := { t with rtc := y }) ht
  have h3 {t : State} {x : Scan} (ht : t.mode = s.mode) :
      (if 3 ≤ n then t.compartments.foldl State.commitShadow t else { t with scan := x }).mode = s.mode := by
    split
    · exact (State.foldl_keeps State.mode _ _ State.commitShadow_mode _).trans ht
    · exact ht
  have h4 {t : State} (ht : t.mode = s.mode) : (if n = 3 then t.draw else (0, t)).2.mode = s.mode := by
    split
    · exact ht
    · exact ht
  have h5 {t : State} {m : Nat} (ht : t.mode = s.mode) : (t.writePending m).mode = s.mode :=
    (State.foldl_keeps State.mode _ _ (fun t _ => evrRecordWrite_mode t) _).trans ht
  have h7 {t : State} (ht : t.mode = s.mode) : (if n < 4 then t.set1 Obj.PWR_STATUS_COMMIT_INCOMPLETE.f else t).mode = s.mode := by
    split
    · exact hf Obj.PWR_STATUS_COMMIT_INCOMPLETE (by decide) ht
    · exact ht
  have h6 {t : State} {x : Evr} {y : Power} {a b c : Nat} (ht : t.mode = s.mode) : (State.wrs { t with evr := x, power := y }
      [(Obj.PWR_LAST_COMMIT_STAGES_DONE.f, a), (Obj.PWR_LAST_COMMIT_TIME.f, b), (Obj.PWR_LAST_COMMIT_LOST.f, c)]).mode = s.mode :=
    hf Obj.PWR_LAST_COMMIT_LOST (by decide) (hf Obj.PWR_LAST_COMMIT_TIME (by decide)
      (hf Obj.PWR_LAST_COMMIT_STAGES_DONE (by decide) (t := { t with evr := x, power := y }) ht))
  exact h7 (h6 (h5 (h4 (h3 (h2 (h1 _))))))

namespace State.Sound
variable {w : Prop} {b : Nat} {s t : State}

/-- What changes neither the fields nor floor time. -/
theorem same (h : s.Sound w b) (hr : t.regs = s.regs) (hf : t.floorTime = s.floorTime) : t.Sound w b :=
  ⟨fun hw => hr ▸ h.wf hw, hf ▸ h.floor⟩

/-- An update of the rest of the state. -/
theorem rest {power conns sessions waiters sent mbx evr rtc ptp lcy stagings castlings castNext castBoot scan mae fbc nsw lbx kse upd mte
    pmon agm captures free pending} (h : s.Sound w b) :
    State.Sound w b ⟨s.floorTime, s.regs, power, conns, sessions, waiters, sent, mbx, evr, rtc, ptp, lcy, stagings, castlings, castNext,
      castBoot, scan, mae, fbc, nsw, lbx, kse, upd, mte, pmon, agm, captures, free, pending⟩ :=
  ⟨h.wf, h.floor⟩

/-- Dropping stored fields. -/
theorem filtered (h : s.Sound w b) (f : Fld × Nat → Bool) (hr : t.regs = s.regs.filter f) (hf : t.floorTime = s.floorTime) :
    t.Sound w b :=
  ⟨fun hw => hr ▸ Cells.wf_filter _ _ (h.wf hw), hf ▸ h.floor⟩

/-- Laying fields over the stored ones. -/
theorem overlaid {c : Cells} (h : s.Sound w b) (hr : t.regs = s.regs.overlay c) (hf : t.floorTime = s.floorTime) : t.Sound w b :=
  ⟨fun hw => hr ▸ Cells.wf_overlay _ _ (h.wf hw), hf ▸ h.floor⟩

/-- Floor time moving on. -/
theorem later (h : s.Sound w b) (hr : t.regs = s.regs) (hf : s.floorTime ≤ t.floorTime) : t.Sound w b :=
  ⟨fun hw => hr ▸ h.wf hw, h.floor.trans hf⟩

theorem wr {f : Fld} {v : Nat} (h : s.Sound w b) : (s.wr f v).Sound w b := ⟨fun hw => s.wf_wr f v (h.wf hw), h.floor⟩

theorem advance {n : Nat} (h : s.Sound w b) : (s.advance n).Sound w b := h.later rfl (s.floorTime_le_advance n)

theorem draw (h : s.Sound w b) : s.draw.2.Sound w b := .rest h

theorem of_fst {α : Type} {x : State × α} {a : α} (hx : x = (t, a)) (h : x.1.Sound w b) : t.Sound w b := by
  rw [hx] at h
  exact h

theorem of_snd {α : Type} {x : α × State} {a : α} (hx : x = (a, t)) (h : x.2.Sound w b) : t.Sound w b := by
  rw [hx] at h
  exact h

/-! ### Combinators -/

theorem ite {c : Prop} [Decidable c] (hs : s.Sound w b) (ht : t.Sound w b) : (if c then s else t).Sound w b := by
  split
  · exact hs
  · exact ht

theorem ite_fst {α : Type} {c : Prop} [Decidable c] {x y : State × α} (hx : x.1.Sound w b) (hy : y.1.Sound w b) :
    (if c then x else y).1.Sound w b := by
  split
  · exact hx
  · exact hy

theorem ite_snd {α : Type} {c : Prop} [Decidable c] {x y : α × State} (hx : x.2.Sound w b) (hy : y.2.Sound w b) :
    (if c then x else y).2.Sound w b := by
  split
  · exact hx
  · exact hy

theorem foldl {α : Type} {l : List α} {u : State → α → State} (h : s.Sound w b) (hu : ∀ t a, t.Sound w b → (u t a).Sound w b) :
    (l.foldl u s).Sound w b := by
  induction l generalizing s with
  | nil => exact h
  | cons a l ih => exact ih (hu s a h)

theorem foldl_fst {α β : Type} {l : List α} {u : State × β → α → State × β} {x : State × β} (h : x.1.Sound w b)
    (hu : ∀ x a, x.1.Sound w b → (u x a).1.Sound w b) : (l.foldl u x).1.Sound w b := by
  induction l generalizing x with
  | nil => exact h
  | cons a l ih => exact ih (hu x a h)

theorem foldl_snd {α β : Type} {l : List α} {u : β × State → α → β × State} {x : β × State} (h : x.2.Sound w b)
    (hu : ∀ x a, x.2.Sound w b → (u x a).2.Sound w b) : (l.foldl u x).2.Sound w b := by
  induction l generalizing x with
  | nil => exact h
  | cons a l ih => exact ih (hu x a h)

end State.Sound
end Sys2Proof.Machine
end

section
/-!
SUPPORT. What every step keeps, continued: one rule per operation of the model, in the order of the model's files. A rule's proof follows
the operation's own text: the rules of the operations it is made of, from the last to the first.
-/
namespace Sys2Proof.Machine
open Sys2Proof.Claims

namespace State.Sound
variable {w : Prop} {b : Nat} {s t : State}

/-! ### Machine/Ops -/

theorem wrs {l : List (Fld × Nat)} (h : s.Sound w b) : (s.wrs l).Sound w b := .foldl h fun _ _ => .wr

theorem inc {f : Fld} {k : Nat} (h : s.Sound w b) : (s.inc f k).Sound w b := .wr h

theorem incSat {f : Fld} {k : Nat} (h : s.Sound w b) : (s.incSat f k).Sound w b := .wr h

theorem set1 {f : Fld} (h : s.Sound w b) : (s.set1 f).Sound w b := .wr h

/-! ### Machine/Perf -/

theorem perf {u ev : Nat} {comp n : Nat} (h : s.Sound w b) : (s.perf u ev comp n).Sound w b := .ite (.rest h) h

theorem markCycles (h : s.Sound w b) : s.markCycles.Sound w b := .rest h

theorem reload {e : Nat} (h : s.Sound w b) : (s.reload e).Sound w b := .rest h

theorem sampleOp {x : Sampled} (h : s.Sound w b) : (s.sampleOp x).Sound w b := .ite (.ite (.reload (.rest h)) (.rest h)) h

/-! ### Machine/Ply -/

theorem putProg {c : Nat} {p : CompScan} (h : s.Sound w b) : (s.putProg c p).Sound w b := .rest h

theorem putTask {c e k : Nat} {t' : TaskRun} (h : s.Sound w b) : (s.putTask c e k t').Sound w b := .rest h

theorem putEng {e : Nat} {g : Engine} (h : s.Sound w b) : (s.putEng e g).Sound w b := .ite (.rest h) (.rest h)

theorem putProgOf {p : Ply} {x : Prog} (h : s.Sound w b) : (s.putProgOf p x).Sound w b := .ite (.putProg h) (.putProg h)

theorem putPly {p : Ply} (h : s.Sound w b) : (s.putPly p).Sound w b := .rest h

theorem dropPly {p : Ply} (h : s.Sound w b) : (s.dropPly p).Sound w b := .rest h

theorem cycles {lo hi : Nat} (h : s.Sound w b) : (s.cycles lo hi).2.Sound w b := .ite_snd h (.draw h)

theorem charge {p : Ply} {ps : Nat} (h : s.Sound w b) : (s.charge p ps).Sound w b := .putEng h

theorem switchPs {p : Ply} (h : s.Sound w b) : (s.switchPs p).2.Sound w b := .ite_snd h (.draw h)

theorem opDone {p : Ply} {last : Option (Nat × Nat)} {milli : Nat} (h : s.Sound w b) : (s.opDone p last milli).Sound w b := by
  unfold State.opDone
  refine .sampleOp (.perf (.perf (.rest ?_)))
  split
  · exact .ite (.perf h) h
  · exact h

theorem spend {p : Ply} {lo hi : Nat} (h : s.Sound w b) : (s.spend p lo hi).1.Sound w b := .opDone (.charge (.cycles (.switchPs h)))

theorem countOp {e ev : Nat} (h : s.Sound w b) : (s.countOp e ev).Sound w b := by
  unfold State.countOp
  split
  · exact .perf h
  · exact h

theorem retire {e lo hi : Nat} {f : Ply → Ply} (h : s.Sound w b) : (s.retire e lo hi f).Sound w b := by
  unfold State.retire
  split
  · exact h
  · exact .putPly (.spend h)

theorem regOp {e lo hi : Nat} {d : Fin 32} {f : Ply → Word64} (h : s.Sound w b) : (s.regOp e lo hi d f).Sound w b := .retire h

/-! ### Machine/Flags -/

theorem clearFlags {r : Row} {idx : List Nat} {f : Fld} {ones sets : Nat} (h : s.Sound w b) :
    (s.clearFlags r idx f ones sets).Sound w b := by
  unfold State.clearFlags
  dsimp only
  split
  · exact .incSat (.wr h)
  · exact .wr h

theorem clearByRead {f : Fld} {sets : Nat} (h : s.Sound w b) : (s.clearByRead f sets).Sound w b := .wr h

/-! ### Machine/Log -/

theorem enqueue {c : Nat} {r : EvRec} (h : s.Sound w b) : (s.enqueue c r).Sound w b := by
  unfold State.enqueue
  split
  · exact .rest h
  · exact .set1 (.inc (.rest h))

theorem log {c trigger : Nat} {detail : Bytes} {summary : Bool} {list : Option Nat} (h : s.Sound w b) :
    (s.log c trigger detail summary list).Sound w b :=
  .ite h (.enqueue h)

theorem logAll {cs : List Nat} {trigger : Nat} {detail : Bytes} {summary : Bool} (h : s.Sound w b) :
    (s.logAll cs trigger detail summary).Sound w b :=
  .foldl h fun _ _ => .log

/-! ### Machine/Session -/

theorem putConn {c : Conn} (h : s.Sound w b) : (s.putConn c).Sound w b := .rest h

theorem putSession {x : Session} (h : s.Sound w b) : (s.putSession x).Sound w b := .rest h

theorem emit {o : Out} (h : s.Sound w b) : (s.emit o).Sound w b := .rest h

theorem detach {conn t' : Nat} (h : s.Sound w b) : (s.detach conn t').Sound w b := .rest h

theorem closeConn {conn t' : Nat} (h : s.Sound w b) : (s.closeConn conn t').Sound w b := .emit (.detach (.rest h))

theorem respond {conn comp : Nat} {seq cmd status : Nat} {payload : Bytes} (h : s.Sound w b) :
    (s.respond conn comp seq cmd status payload).Sound w b :=
  .perf (.emit h)

theorem finalTo {sid seq : Nat} {cmd status : Nat} {payload : Bytes} {whole : Bool} (h : s.Sound w b) :
    (s.finalTo sid seq cmd status payload whole).Sound w b := by
  unfold State.finalTo
  split
  · exact h
  · dsimp only
    split
    · exact .respond (.putSession h)
    · exact .putSession h

theorem finish {w' : Wait} {status : Nat} {payload : Bytes} (h : s.Sound w b) : (s.finish w' status payload).Sound w b :=
  .foldl (.rest h) fun _ _ ht => .ite (.log ht) (.finalTo ht)

theorem handOver {sid : Nat} (h : s.Sound w b) : (s.handOver sid).Sound w b := by
  unfold State.handOver
  split
  · exact h
  · split
    · exact h
    · exact .perf (.putSession (.foldl (.rest h) fun _ _ => .emit))

theorem run {c : CmdSpec} {q : Req} {body : Req → State → State × Reply} (hb : ∀ q t, t.Sound w b → (body q t).1.Sound w b) (h : s.Sound w
    b) :
    (s.run c q body).Sound w b := by
  unfold State.run
  split
  · rename_i hx
    exact .finalTo (.of_fst hx (hb _ _ h))
  · rename_i hx
    exact .finalTo (.of_fst hx (hb _ _ h))
  · rename_i hx
    exact .rest (.of_fst hx (hb _ _ h))
  · rename_i hx
    dsimp only
    split
    · split
      · exact .respond (.rest (.of_fst hx (hb _ _ h)))
      · exact .rest (.of_fst hx (hb _ _ h))
    · exact .rest (.of_fst hx (hb _ _ h))

theorem retryReq {c : CmdSpec} {x : Session} {conn : Nat} {e : WinEntry} {q : Req} {body : Req → State → State × Reply} (hb : ∀ q t, t.Sound
    w b → (body q t).1.Sound w b) (h : s.Sound w b) :
    (s.retryReq c x conn e q body).Sound w b := by
  unfold State.retryReq
  refine .ite (.respond h) (.ite (.respond h) ?_)
  split
  · rename_i hx
    exact .respond (.of_fst hx (hb _ _ h))
  · rename_i hx
    exact .respond (.of_fst hx (hb _ _ h))
  · exact h
  · exact h

theorem breakSegments {x : Session} (h : s.Sound w b) : (s.breakSegments x).Sound w b := by
  unfold State.breakSegments
  split
  · exact h
  · exact .finalTo (.putSession h)

theorem newRequest {c : CmdSpec} {x : Session} {f : Frame} {body : Req → State → State × Reply} (hb : ∀ q t, t.Sound w b → (body q
    t).1.Sound w b) (h : s.Sound w b) :
    (s.newRequest c x f body).Sound w b := by
  unfold State.newRequest
  refine .ite ?_ (.ite (.respond h) (.ite (.respond h) (.ite (.ite (.putSession (.perf h)) (.finalTo (.putSession (.perf h)))) (.run (fun _
      _ ht => hb _ _ ht) (.putSession (.perf h))))))
  split
  · exact .ite (.retryReq (fun _ _ ht => hb _ _ ht) h) (.respond h)
  · exact .respond h

theorem sessionFrame {c : CmdSpec} {x : Session} {f : Frame} {body : Req → State → State × Reply} (hb : ∀ q t, t.Sound w b → (body q
    t).1.Sound w b) (h : s.Sound w b) :
    (s.sessionFrame c x f body).Sound w b := by
  unfold State.sessionFrame
  split
  · refine .ite (.ite (.putSession h) (.run (fun _ _ ht => hb _ _ ht) (.putSession h))) ?_
    dsimp only
    split
    · exact .newRequest (fun _ _ ht => hb _ _ ht) (.breakSegments h)
    · exact .breakSegments h
  · exact .newRequest (fun _ _ ht => hb _ _ ht) h

theorem preOpen {c : CmdSpec} {k : Conn} {f : Frame} {pre : PreBody} (hp : ∀ k f t, t.Sound w b → (pre k f t).1.Sound w b) (h : s.Sound w b)
    :
    (s.preOpen c k f pre).Sound w b := by
  unfold State.preOpen
  refine .ite (.respond h) (.ite (.respond h) ?_)
  split
  · rename_i hx
    exact .respond (.of_fst hx (hp _ _ _ h))
  · rename_i hx
    exact .respond (.of_fst hx (hp _ _ _ h))
  · rename_i hx
    exact .of_fst hx (hp _ _ _ h)
  · rename_i hx
    exact .of_fst hx (hp _ _ _ h)

theorem serve {c : CmdSpec} {f : Frame} {pre : PreBody} {body : Req → State → State × Reply} (hp : ∀ k f t, t.Sound w b → (pre k f
    t).1.Sound w b) (hb : ∀ q t, t.Sound w b → (body q t).1.Sound w b) (h : s.Sound w b) :
    (s.serve c f pre body).Sound w b := by
  unfold State.serve
  refine .ite (.ite (.rest (.advance h)) (.advance h)) ?_
  split
  · exact .ite (.rest (.advance h)) (.advance h)
  · split
    · exact .closeConn (.ite (.rest (.advance h)) (.advance h))
    · exact .respond (.ite (.rest (.advance h)) (.advance h))
    · split
      · exact .preOpen (fun _ _ _ ht => hp _ _ _ ht) (.ite (.rest (.advance h)) (.advance h))
      · exact .ite (.respond (.putSession (.ite (.rest (.advance h)) (.advance h)))) (.sessionFrame (fun _ _ ht => hb _ _ ht) (.putSession
            (.ite (.rest (.advance h)) (.advance h))))

theorem noPre {k : Conn} {f : Frame} (h : s.Sound w b) : (noPre k f s).1.Sound w b := h

/-! ### Machine/Time -/

theorem armAfter {aa t' : Nat} (h : s.Sound w b) : (s.armAfter aa t').Sound w b := .wr (.wr (.rest h))

theorem wakeCause {code : Nat} (h : s.Sound w b) : (s.wakeCause code).Sound w b := .ite (.wr h) h

theorem beginTransition {target : Nat} {cold : Bool} (h : s.Sound w b) : (s.beginTransition target cold).Sound w b := .rest h

theorem wake {code : Nat} (h : s.Sound w b) : (s.wake code).Sound w b := by
  unfold State.wake
  split
  · exact .ite (.rest (.wakeCause h)) h
  · exact .ite (.beginTransition (.wakeCause h)) (.ite (.beginTransition (.wakeCause h)) h)

theorem logOrDefer {c trigger : Nat} {detail : Bytes} (h : s.Sound w b) : (s.logOrDefer c trigger detail).Sound w b :=
  .ite (.rest h) (.log h)

theorem fireAlarm {aa o : Nat} (h : s.Sound w b) : (s.fireAlarm aa o).Sound w b :=
  .ite (.wake (.ite (.logOrDefer (.inc (.wr (.wr (.set1 h))))) (.wr (.logOrDefer (.inc (.wr (.wr (.set1 h)))))))) (.ite (.logOrDefer (.inc
      (.wr (.wr (.set1 h))))) (.wr (.logOrDefer (.inc (.wr (.wr (.set1 h)))))))

theorem alarmFire {aa : Nat} (h : s.Sound w b) : (alarmFire aa s).Sound w b := by
  unfold Machine.alarmFire
  split
  · exact .ite (.armAfter (.fireAlarm h)) h
  · exact h

theorem alarmSet {wasValid : Bool} {old new aa : Nat} (h : s.Sound w b) : (s.alarmSet wasValid old new aa).Sound w b := by
  unfold State.alarmSet
  refine .ite h (.ite (.armAfter h) ?_)
  split
  · exact h
  · refine .ite ?_ (.ite (.armAfter (.ite (.set1 h) h)) (.armAfter (.ite (.set1 h) h)))
    dsimp only
    split
    · exact .armAfter h
    · exact .ite (.armAfter (.fireAlarm (.set1 (.wr h)))) (.armAfter (.ite (.set1 (.wr h)) (.wr (.set1 (.wr h)))))

theorem loadCalendar {cal : Nat} {zone : Bool} (h : s.Sound w b) : (s.loadCalendar cal zone).Sound w b :=
  .logAll (.foldl (.set1 (.inc (.rest h))) fun _ _ => .alarmSet)

theorem calendarSetApply (h : s.Sound w b) : (calendarSetApply s).Sound w b := by
  unfold Machine.calendarSetApply
  split
  · exact .finish (.loadCalendar h)
  · exact h

theorem shiftDone (h : s.Sound w b) : (shiftDone s).Sound w b := .ite (.finish h) h

theorem calendarRollover (h : s.Sound w b) : (calendarRollover s).Sound w b := .ite (.rest h) h

theorem shift {n : ℤ} (h : s.Sound w b) : (s.shift n).Sound w b := .ite (.rest h) (.rest h)

theorem compareCalendar (h : s.Sound w b) : s.compareCalendar.Sound w b := .ite (.ite h (.ite (.shift h) (.rest h))) h

theorem ptpCalendarCheck (h : s.Sound w b) : (ptpCalendarCheck s).Sound w b := .ite (.compareCalendar h) h

theorem writeTimeCfg {w' : Nat} (h : s.Sound w b) : (s.writeTimeCfg w').Sound w b := .ite (.compareCalendar (.rest (.wr (.wr (.wr h))))) h

theorem correlate (h : s.Sound w b) : s.correlate.Sound w b := .inc (.wr (.wr (.wr (.inc h))))

theorem timeCorrAuto (h : s.Sound w b) : (timeCorrAuto s).Sound w b := .ite (.correlate h) h

theorem dropShadow {who : Requester} (h : s.Sound w b) : (s.dropShadow who).Sound w b := .rest h

theorem timeoutShadow {who : Requester} (h : s.Sound w b) : (s.timeoutShadow who).Sound w b := .inc (.rest (.dropShadow h))

theorem readRtc {who : Requester} {off : Nat} (h : s.Sound w b) : (s.readRtc who off).2.Sound w b := by
  unfold State.readRtc
  split
  · exact .ite (.dropShadow h) h
  · refine .ite_snd (.ite_snd (.rest h) h) (.ite_snd h (.rest ?_))
    split
    · exact .ite (.timeoutShadow h) h
    · exact h

theorem rtcFreezeTimeout {who : Requester} (h : s.Sound w b) : (rtcFreezeTimeout who s).Sound w b := by
  unfold Machine.rtcFreezeTimeout
  split
  · exact .ite (.timeoutShadow h) h
  · exact h

theorem holdover (h : s.Sound w b) : s.holdover.Sound w b := .ite (.logAll (.set1 (.wr (.rest h)))) h

theorem slew (h : s.Sound w b) : s.slew.Sound w b := .wr (.draw h)

theorem fixStep (h : s.Sound w b) : s.fixStep.Sound w b := .ite (.rest h) h

theorem track {y : PtpSync} (h : s.Sound w b) : (s.track y).Sound w b :=
  .ite (.fixStep (.set1 (.rest (.rest (.ite (.rest (.wr (.wr (.wr (.wr (.wr h)))))) (.wr (.wr (.wr (.wr h))))))))) (.ite (.wr (.wr (.wr
      (.rest (.slew (.rest (.ite (.rest (.wr (.wr (.wr (.wr (.wr h)))))) (.wr (.wr (.wr (.wr h))))))))))) (.rest (.slew (.rest (.ite (.rest
      (.wr (.wr (.wr (.wr (.wr h)))))) (.wr (.wr (.wr (.wr h)))))))))

theorem ptpSync {y : PtpSync} (h : s.Sound w b) : (ptpSync y s).Sound w b :=
  .ite h (.ite h (.ite (.log (.set1 (.wr (.rest h)))) (.track h)))

theorem ptpSyncTimeout (h : s.Sound w b) : (ptpSyncTimeout s).Sound w b := .ite (.holdover h) h

theorem gmRetry (h : s.Sound w b) : (gmRetry s).Sound w b := by
  unfold Machine.gmRetry
  split
  · exact .ite (.rest h) h
  · exact h

theorem timeGet {q : Req} (h : s.Sound w b) : (timeGet q s).1.Sound w b := .ite_fst h (.ite_fst h h)

theorem timeSet {q : Req} (h : s.Sound w b) : (timeSet q s).1.Sound w b := by
  unfold Machine.timeSet
  refine .ite_fst h (.ite_fst h (.ite_fst h (.ite_fst h ?_)))
  split
  · exact h
  · exact .ite_fst h (.wr (.rest h))

theorem timeShift {q : Req} (h : s.Sound w b) : (timeShift q s).1.Sound w b := .ite_fst h (.ite_fst h (.ite_fst h (.ite_fst h (.shift h))))

/-! ### Machine/Staging -/

theorem putStaging {c : Nat} {g : Staging} (h : s.Sound w b) : (s.putStaging c g).Sound w b := .wr (.wr (.wr (.rest h)))

theorem clearImageFields {c : Nat} (h : s.Sound w b) : (s.clearImageFields c).Sound w b := .wrs (.foldl h fun _ _ => .wr)

theorem discardStaging {c : Nat} (h : s.Sound w b) : (s.discardStaging c).Sound w b :=
  .wrs (.clearImageFields (.rest (.foldl (.finish h) fun _ _ => .finish)))

theorem stageFields {c : Nat} {l : List (Fld × Nat)} (h : s.Sound w b) : (s.stageFields c l).Sound w b := .putStaging h

/-! ### Machine/Pimg -/

theorem applyPt {w' : PtWrite} (h : s.Sound w b) : (s.applyPt w').Sound w b := .wr h

theorem applyPts {l : List PtWrite} (h : s.Sound w b) : (s.applyPts l).Sound w b := .foldl h fun _ _ => .applyPt

theorem pimgWrite {l : List PtWrite} (h : s.Sound w b) : (s.pimgWrite l).Sound w b := .ite h (.ite (.rest h) (.applyPts h))

theorem putForce {c : Nat} {f : Force} (h : s.Sound w b) : (s.putForce c f).Sound w b := .wrs h

theorem setOwn {c p v : Nat} (h : s.Sound w b) : (s.setOwn c p v).Sound w b := .putProg h

theorem writeOutputs {c : Nat} {l : List (Nat × Nat)} (h : s.Sound w b) : (s.writeOutputs c l).Sound w b :=
  .pimgWrite (.foldl h fun _ _ => .setOwn)

theorem applyForce {f : Force} (h : s.Sound w b) : (s.applyForce f).Sound w b := .ite (.pimgWrite (.wr h)) (.wr h)

theorem liftForce {c : Nat} {f : Force} (h : s.Sound w b) : (s.liftForce c f).Sound w b := .ite (.pimgWrite (.wr h)) (.wr h)

theorem releaseForce {c : Nat} {f : Force} (h : s.Sound w b) : (s.releaseForce c f).Sound w b :=
  .log (.set1 (.ite (.liftForce (.putForce h)) (.putForce h)))

theorem releaseForces {c : Nat} {l : List Force} (h : s.Sound w b) : (s.releaseForces c l).Sound w b :=
  .foldl h fun _ _ => .releaseForce

theorem takeStopValues {c : Nat} {pts : List Nat} {safe : Bool} (h : s.Sound w b) : (s.takeStopValues c pts safe).Sound w b :=
  .writeOutputs h

theorem suspendForces {c : Nat} {pts : List Nat} (h : s.Sound w b) : (s.suspendForces c pts).Sound w b :=
  .foldl h fun _ _ ht => .wr (.wr ht)

theorem resumeForces {c : Nat} (h : s.Sound w b) : (s.resumeForces c).Sound w b := .foldl h fun _ _ ht => .applyForce (.wr ht)

theorem pimgSetWrite {who : Requester} {point value : Nat} (h : s.Sound w b) : (pimgSetWrite who point value s).Sound w b := by
  unfold Machine.pimgSetWrite
  refine .ite h ?_
  split
  · split
    · exact .putPly h
    · exact h
  · exact .pimgWrite h

/-! ### Machine/Can -/

theorem putPort {p : Nat} {x : CanPort} (h : s.Sound w b) : (s.putPort p x).Sound w b := .rest h

theorem putTxReq {p b' : Nat} {x : TxReq} (h : s.Sound w b) : (s.putTxReq p b' x).Sound w b := .putPort h

theorem portEvent {p trigger : Nat} (h : s.Sound w b) : (s.portEvent p trigger).Sound w b := .logAll h

theorem putBufData {p b' v : Nat} (h : s.Sound w b) : (s.putBufData p b' v).Sound w b := .foldl h fun _ _ => .wr

theorem logFailed {p b' : Nat} (h : s.Sound w b) : (s.logFailed p b').Sound w b := .ite (.putTxReq h) (.log (.putTxReq h))

theorem collision {p b' : Nat} (h : s.Sound w b) : (s.collision p b').Sound w b := .logAll (.set1 (.wrs (.inc h)))

theorem shiftWaits {p b' : Nat} (h : s.Sound w b) : (s.shiftWaits p b').Sound w b := .rest h

theorem endTx {p b' : Nat} {st err : Nat} {collided : Bool} (h : s.Sound w b) : (s.endTx p b' st err collided).Sound w b :=
  .ite (.wrs (.shiftWaits (.finish (.ite (.collision (.ite (.inc (.set1 (.putTxReq (.wrs (.putPort h))))) (.ite (.set1 (.putTxReq (.wrs
      (.putPort h)))) (.putTxReq (.wrs (.putPort h)))))) (.ite (.logFailed (.ite (.inc (.set1 (.putTxReq (.wrs (.putPort h))))) (.ite (.set1
      (.putTxReq (.wrs (.putPort h)))) (.putTxReq (.wrs (.putPort h)))))) (.ite (.inc (.set1 (.putTxReq (.wrs (.putPort h))))) (.ite (.set1
      (.putTxReq (.wrs (.putPort h)))) (.putTxReq (.wrs (.putPort h)))))))))) (.ite (.finish (.finish (.ite (.collision (.ite (.inc (.set1
      (.putTxReq (.wrs (.putPort h))))) (.ite (.set1 (.putTxReq (.wrs (.putPort h)))) (.putTxReq (.wrs (.putPort h)))))) (.ite (.logFailed
      (.ite (.inc (.set1 (.putTxReq (.wrs (.putPort h))))) (.ite (.set1 (.putTxReq (.wrs (.putPort h)))) (.putTxReq (.wrs (.putPort h))))))
      (.ite (.inc (.set1 (.putTxReq (.wrs (.putPort h))))) (.ite (.set1 (.putTxReq (.wrs (.putPort h)))) (.putTxReq (.wrs (.putPort
      h))))))))) (.finish (.ite (.collision (.ite (.inc (.set1 (.putTxReq (.wrs (.putPort h))))) (.ite (.set1 (.putTxReq (.wrs (.putPort
      h)))) (.putTxReq (.wrs (.putPort h)))))) (.ite (.logFailed (.ite (.inc (.set1 (.putTxReq (.wrs (.putPort h))))) (.ite (.set1
      (.putTxReq (.wrs (.putPort h)))) (.putTxReq (.wrs (.putPort h)))))) (.ite (.inc (.set1 (.putTxReq (.wrs (.putPort h))))) (.ite (.set1
      (.putTxReq (.wrs (.putPort h)))) (.putTxReq (.wrs (.putPort h)))))))))

theorem beginTx {p b' : Nat} (h : s.Sound w b) : (s.beginTx p b').Sound w b := .perf (.incSat (.wr (.putTxReq (.putPort h))))

theorem select {p : Nat} (h : s.Sound w b) : (s.select p).Sound w b := by
  unfold State.select
  refine .ite ?_ h
  dsimp only
  split
  · exact .beginTx (.foldl h fun _ _ ht => .endTx (.perf (.set1 (.inc ht))))
  · exact .foldl h fun _ _ ht => .endTx (.perf (.set1 (.inc ht)))

theorem request {p b' : Nat} (h : s.Sound w b) : (s.request p b').Sound w b :=
  .ite h (.ite (.putTxReq h) (.ite h (.ite (.endTx (.wrs (.putTxReq h))) (.ite (.wr (.wrs (.putTxReq h))) (.select (.wr (.wrs (.putTxReq
      h))))))))

theorem cancelTx {p b' : Nat} (h : s.Sound w b) : (s.cancelTx p b').Sound w b :=
  .ite (.endTx h) (.ite (.endTx h) (.ite (.putTxReq h) h))

theorem txreq {who : Requester} {p b' : Nat} (h : s.Sound w b) : (txreq who p b' s).Sound w b := .ite (.request h) h

theorem txCancel {who : Requester} {p b' : Nat} (h : s.Sound w b) : (txCancel who p b' s).Sound w b := .ite (.select (.cancelTx h)) h

theorem compose {p b' : Nat} (h : s.Sound w b) : (s.compose p b').Sound w b := .putTxReq (.putBufData h)

theorem outputTriggers {pts : List Nat} (h : s.Sound w b) : (s.outputTriggers pts).Sound w b :=
  .foldl h fun _ _ ht => .foldl ht fun _ _ ht1 => .ite (.ite (.request (.compose ht1)) (.compose ht1)) ht1

theorem txPeriodTrigger {p b' : Nat} (h : s.Sound w b) : (txPeriodTrigger p b' s).Sound w b := .ite (.request (.compose h)) h

theorem recordTop {p st cause : Nat} (h : s.Sound w b) : (s.recordTop p st cause).Sound w b := by
  unfold State.recordTop
  split
  · exact .wrs h
  · exact .wrs h

theorem stalePort {p : Nat} (h : s.Sound w b) : (s.stalePort p).Sound w b := .foldl h fun _ _ => .wr

theorem judgeErrors {p : Nat} (h : s.Sound w b) : (s.judgeErrors p).Sound w b :=
  .ite (.portEvent (.set1 (.inc (.recordTop (.wr h))))) (.ite (.portEvent (.wr h)) h)

theorem enterBusOff {p : Nat} (h : s.Sound w b) : (s.enterBusOff p).Sound w b :=
  .ite (.portEvent (.stalePort (.portEvent (.inc (.set1 (.recordTop (.wrs (.putPort (.foldl h fun _ _ => .wr))))))))) (.stalePort
      (.portEvent (.inc (.set1 (.recordTop (.wrs (.putPort (.foldl h fun _ _ => .wr))))))))

theorem startRecovery {p : Nat} (h : s.Sound w b) : (s.startRecovery p).Sound w b := .wrs h

theorem recoveryDelayExpiry {p : Nat} (h : s.Sound w b) : (recoveryDelayExpiry p s).Sound w b := .ite (.startRecovery h) h

theorem recoveryEnd {p : Nat} (h : s.Sound w b) : (recoveryEnd p s).Sound w b :=
  .ite (.select (.foldl (.finish (.portEvent (.set1 (.wrs h)))) fun _ _ ht => .wrs (.putTxReq ht))) h

theorem sofOf {p b' : Nat} (h : s.Sound w b) : (s.sofOf p b').2.Sound w b := .draw h

theorem canTxSuccess {p : Nat} (h : s.Sound w b) : (canTxSuccess p s).Sound w b := by
  unfold Machine.canTxSuccess
  split
  · exact h
  · next k _ =>
    have h1 := h.sofOf (p := p) (b' := k)
    exact .select (.judgeErrors (.endTx (.emit (.perf (.inc (.wrs h1))))))

theorem attemptFailed {p b' err : Nat} {suspect off : Bool} (h : s.Sound w b) : (s.attemptFailed p b' err suspect off).Sound w b :=
  .ite (.endTx h) (.ite (.endTx h) (.ite (.endTx h) (.ite (.collision (.wr (.wr (.putTxReq (.putPort h))))) (.wr (.wr (.putTxReq (.putPort
      h)))))))

theorem canTxError {p : Nat} {ev : TxError} (h : s.Sound w b) : (canTxError p ev s).Sound w b := by
  unfold Machine.canTxError
  split
  · exact h
  · exact .ite (.enterBusOff (.attemptFailed (.wr (.perf (.perf (.inc h)))))) (.select (.judgeErrors (.attemptFailed (.wr (.perf (.perf
        (.inc h)))))))

theorem canArbLost {p : Nat} (h : s.Sound w b) : (canArbLost p s).Sound w b := by
  unfold Machine.canArbLost
  split
  · exact h
  · exact .ite (.endTx (.perf (.inc h))) (.ite (.endTx (.perf (.inc h))) (.wr (.putPort (.perf (.inc h)))))

theorem toFifo {p k : Nat} {size c : Nat} {overwrite : Bool} {e : CanElem} (h : s.Sound w b) :
    (s.toFifo p k size c overwrite e).Sound w b :=
  .ite (.perf (.set1 (.inc (.wr (.putPort h))))) (.wr (.putPort h))

theorem applyRxMaps {v : State} {p k c : Nat} {f : CanFrame} (h : s.Sound w b) : (s.applyRxMaps v p k c f).Sound w b :=
  .ite h (.foldl (.pimgWrite (.perf (.inc h))) fun _ _ => .wr)

theorem unbound {p : Nat} {f : CanFrame} (h : s.Sound w b) : (s.unbound p f).Sound w b :=
  .ite (.perf (.set1 (.inc h))) (.log (.putPort (.perf (.set1 (.inc h)))))

theorem goodRx {p : Nat} (h : s.Sound w b) : (s.goodRx p).Sound w b := .ite h (.ite (.wr (.draw h)) (.wr h))

theorem quiet {p : Nat} {f : CanFrame} (h : s.Sound w b) : (s.quiet p f).Sound w b := .ite (.putPort h) h

theorem deliver {v : State} {p c : Nat} {f : CanFrame} (h : s.Sound w b) : (s.deliver v p c f).Sound w b := by
  unfold State.deliver
  split
  · exact .inc h
  · exact .ite (.applyRxMaps (.ite (.toFifo (.inc h)) (.inc h))) (.ite (.toFifo (.inc h)) (.inc h))

theorem canRxFrame {p : Nat} {fr : CanFrame} (h : s.Sound w b) : (canRxFrame p fr s).Sound w b := by
  unfold Machine.canRxFrame
  refine .ite h (.select ?_)
  split
  · exact .unbound (.perf (.judgeErrors (.quiet (.goodRx (.inc h)))))
  · exact .deliver (.perf (.inc (.judgeErrors (.quiet (.goodRx (.inc h))))))

theorem disturb {p id : Nat} {xtd : Bool} (h : s.Sound w b) : (s.disturb p id xtd).Sound w b :=
  .ite (.putPort h) (.ite (.set1 (.wrs (.ite (.inc (.putPort h)) (.putPort h)))) (.logAll (.putPort (.set1 (.wrs (.ite (.inc (.putPort h))
      (.putPort h)))))))

theorem canRxError {p : Nat} {ev : RxError} (h : s.Sound w b) : (canRxError p ev s).Sound w b := by
  unfold Machine.canRxError
  refine .ite h (.select (.judgeErrors ?_))
  split
  · exact .disturb (.ite (.perf (.inc h)) (.wr (.perf (.inc h))))
  · exact .ite (.perf (.inc h)) (.wr (.perf (.inc h)))

theorem protocolException {p : Nat} (h : s.Sound w b) : (protocolException p s).Sound w b := .ite (.wr h) h

theorem busIntegration {p : Nat} (h : s.Sound w b) : (busIntegration p s).Sound w b := .ite (.select (.wr h)) h

theorem popFifo {p k n : Nat} (h : s.Sound w b) : (s.popFifo p k n).Sound w b := .wr (.putPort h)

theorem fifoPop {who : Requester} {p k n : Nat} (h : s.Sound w b) : (fifoPop who p k n s).Sound w b := .ite (.popFifo h) h

theorem stopPort {p st : Nat} (h : s.Sound w b) : (s.stopPort p st).Sound w b :=
  .ite (.wr h) (.stalePort (.wrs (.foldl h fun _ _ ht => .endTx (.putTxReq ht))))

theorem startPort {p : Nat} (h : s.Sound w b) : (s.startPort p).Sound w b := .ite (.wrs h) h

theorem placePort {p : Nat} (h : s.Sound w b) : (s.placePort p).Sound w b :=
  .ite (.stopPort h) (.ite (.startPort h) (.ite (.stopPort h) (.ite h (.stopPort h))))

theorem placePorts (h : s.Sound w b) : s.placePorts.Sound w b :=
  .ite (.foldl (.foldl h fun _ _ => .placePort) fun _ _ ht1 => .foldl ht1 fun _ _ ht2 => .ite ht2 (.popFifo ht2)) (.foldl h fun _ _ =>
      .placePort)

theorem canWakePattern {p : Nat} (h : s.Sound w b) : (canWakePattern p s).Sound w b :=
  .ite (.ite (.startPort (.wake (.set1 h))) (.wake (.set1 h))) h

theorem busTxSend {q : Req} (h : s.Sound w b) : (busTxSend q s).1.Sound w b :=
  .ite_fst h (.ite_fst h (.ite_fst h (.ite_fst h (.ite_fst h (.ite_fst (.request (.putBufData (.wr h))) (.putBufData (.wr h)))))))

theorem busRxRead {q : Req} (h : s.Sound w b) : (busRxRead q s).1.Sound w b :=
  .ite_fst h (.ite_fst h (.ite_fst h (.ite_fst h (.popFifo h))))

theorem busTxCancel {q : Req} (h : s.Sound w b) : (busTxCancel q s).1.Sound w b :=
  .ite_fst h (.ite_fst h (.ite_fst h (.ite_fst h (.select (.cancelTx h)))))

theorem busRecover {q : Req} (h : s.Sound w b) : (busRecover q s).1.Sound w b :=
  .ite_fst h (.ite_fst h (.ite_fst h (.ite_fst h (.ite_fst h (.ite (.startRecovery h) h)))))

theorem busRangeList {q : Req} (h : s.Sound w b) : (busRangeList q s).1.Sound w b := .ite_fst h (.ite_fst h (.ite_fst h h))

/-! ### Machine/Meter -/

theorem putChan {ch : Nat} {x : MChan} (h : s.Sound w b) : (s.putChan ch x).Sound w b := .rest h

theorem putCirc {i : Nat} {x : MCirc} (h : s.Sound w b) : (s.putCirc i x).Sound w b := .rest h

theorem putMset {v : Nat} {x : MSet} (h : s.Sound w b) : (s.putMset v x).Sound w b := .rest h

theorem putPulse {n : Nat} {x : Pulse} (h : s.Sound w b) : (s.putPulse n x).Sound w b := .rest h

theorem abortCal {cause : Nat} (h : s.Sound w b) : (s.abortCal cause).Sound w b := .ite (.wr (.wr h)) h

theorem calSample {v vq i : Nat} {clip : Bool} (h : s.Sound w b) : (s.calSample v vq i clip).Sound w b :=
  .ite h (.ite (.abortCal h) (.rest (.ite (.wr h) h)))

theorem chanSample {codes : List ℤ} {volts : List VoltSample} {ch : Nat} (h : s.Sound w b) : (s.chanSample codes volts ch).Sound w b :=
  .ite (.calSample (.putChan h)) (.putChan h)

theorem sampleInstant {codes : List ℤ} (h : s.Sound w b) : (sampleInstant codes s).Sound w b := by
  unfold Machine.sampleInstant
  refine .ite h (.foldl (.foldl (.ite (.rest (.ite (.wr (.wr (.inc h))) (.wr (.inc h)))) (.wr (.inc h))) fun _ _ => .chanSample) fun _ _ ht1
      => ?_)
  split
  · exact .putMset ht1
  · exact ht1

theorem perfChan {ev ch : Nat} (h : s.Sound w b) : (s.perfChan ev ch).Sound w b := .perf h

theorem closeChan {ch : Nat} {split : Bool} (h : s.Sound w b) : (s.closeChan ch split).1.Sound w b :=
  .ite (.inc (.ite (.perfChan (.perfChan (.wrs (.putChan h)))) (.perfChan (.wrs (.putChan h))))) (.ite (.perfChan (.perfChan (.wrs (.putChan
      h)))) (.perfChan (.wrs (.putChan h))))

theorem setBacklog {n v : Nat} (h : s.Sound w b) : (s.setBacklog n v).Sound w b :=
  .ite (.logAll (.set1 (.wr (.putPulse h)))) (.wr (.putPulse h))

theorem feedPulse {i : Nat} {p q : ℤ} {n : Nat} (h : s.Sound w b) : (s.feedPulse i p q n).Sound w b :=
  .ite (.ite (.wr (.putPulse h)) (.setBacklog (.wr (.putPulse h)))) h

theorem closeCirc {l : List Closed} {i : Nat} (h : s.Sound w b) : (s.closeCirc l i).Sound w b := by
  unfold State.closeCirc
  dsimp only
  split
  · exact h
  · exact .foldl (.putCirc h) fun _ _ => .feedPulse

theorem closeChans {l : List Nat} {split : Bool} (h : s.Sound w b) : (s.closeChans l split).Sound w b :=
  .foldl (.foldl_fst h fun _ _ => .closeChan) fun _ _ => .closeCirc

theorem setEvent {v kind phase : Nat} {on : Bool} (h : s.Sound w b) : (s.setEvent v kind phase on).Sound w b :=
  .set1 (.ite h (.wr h))

theorem lossWake {kind : Nat} (h : s.Sound w b) : (s.lossWake kind).Sound w b := .ite (.wake h) h

theorem startEvent {v kind : Nat} {phase extreme : Nat} (h : s.Sound w b) : (s.startEvent v kind phase extreme).Sound w b :=
  .lossWake (.logAll (.ite (.inc (.setEvent (.putMset h))) (.ite (.inc (.setEvent (.putMset h))) (.ite (.inc (.setEvent (.putMset h))) (.ite
      (.inc (.setEvent (.putMset h))) (.setEvent (.putMset h)))))))

theorem lastEvent {v : Nat} {e : VoltEvent} (h : s.Sound w b) : (s.lastEvent v e).Sound w b := .wrs h

theorem dropEvent {v : Nat} {e : VoltEvent} (h : s.Sound w b) : (s.dropEvent v e).Sound w b := .lastEvent (.setEvent (.putMset h))

theorem endEvent {v : Nat} {e : VoltEvent} (h : s.Sound w b) : (s.endEvent v e).Sound w b := .lossWake (.logAll (.dropEvent h))

theorem extend {v : Nat} {e : VoltEvent} {mv : Nat} (h : s.Sound w b) : (s.extend v e mv).Sound w b := .putMset h

theorem judgeEvent {v kind : Nat} {phase mv : Nat} {start stop : Bool} (h : s.Sound w b) :
    (s.judgeEvent v kind phase mv start stop).Sound w b := by
  unfold State.judgeEvent
  split
  · exact .ite (.startEvent h) h
  · exact .ite (.endEvent h) (.extend h)

theorem judgePhase {v phase : Nat} (h : s.Sound w b) : (s.judgePhase v phase).Sound w b := .judgeEvent (.judgeEvent (.judgeEvent h))

theorem countNeutral {v : Nat} (h : s.Sound w b) : (s.countNeutral v).Sound w b := .ite (.putMset h) (.putMset h)

theorem nmissStart {v : Nat} (h : s.Sound w b) : (nmissStart v s).Sound w b := .ite (.startEvent (.draw h)) h

theorem nmissEnd {v : Nat} (h : s.Sound w b) : (nmissEnd v s).Sound w b := by
  unfold Machine.nmissEnd
  split
  · exact .ite (.endEvent h) h
  · exact h

theorem calFields (h : s.Sound w b) : s.calFields.Sound w b := .wrs h

theorem calCycle {v : Nat} {crossing : Bool} (h : s.Sound w b) : (s.calCycle v crossing).Sound w b :=
  .ite h (.ite (.ite (.abortCal h) (.ite (.rest (.wr h)) h)) (.ite (.wr (.calFields (.inc h))) h))

theorem calCaptureEnd (h : s.Sound w b) : (calCaptureEnd s).Sound w b := .ite (.wr h) h

theorem calStart (h : s.Sound w b) : s.calStart.Sound w b := .ite h (.wrs (.rest h))

theorem waveStart (h : s.Sound w b) : s.waveStart.Sound w b := .wr (.rest h)

theorem waveRecordDone (h : s.Sound w b) : (waveRecordDone s).Sound w b := .ite (.wr (.rest h)) h

theorem settlingEnd {ch : Nat} (h : s.Sound w b) : (settlingEnd ch s).Sound w b := .ite h (.wr h)

/-! ### Machine/Energy -/

theorem gapEntry {g : Gap} {fin : Nat} (h : s.Sound w b) : (s.gapEntry g fin).Sound w b := .rest (.logAll (.wrs h))

theorem estimate {start fin : Nat} (h : s.Sound w b) : (s.estimate start fin).Sound w b := .foldl h fun _ _ => .wrs

theorem closeGap {g : Gap} (h : s.Sound w b) : (s.closeGap g).Sound w b := by
  unfold State.closeGap
  refine .ite (.estimate ?_) ?_
  · split
    · exact .rest (.wrs h)
    · exact .gapEntry h
  · split
    · exact .rest (.wrs h)
    · exact .gapEntry h

theorem firstCrossing (h : s.Sound w b) : s.firstCrossing.Sound w b := .ite h (.foldl (.rest h) fun _ _ => .closeGap)

theorem commitEnergy {t' : Nat} (h : s.Sound w b) : (s.commitEnergy t').Sound w b := .wr (.rest h)

theorem energyCommit (h : s.Sound w b) : (energyCommit s).Sound w b := .ite (.commitEnergy h) h

theorem publish {r : LatchRows} {i : Nat} {h' : LatchHead} {acc prev : Acc} {cycles : Nat} {creep clip on : Bool} (h : s.Sound w b) :
    (s.publish r i h' acc prev cycles creep clip on).Sound w b :=
  .wrs h

theorem legacy {ch k : Nat} {old new : Nat} (h : s.Sound w b) : (s.legacy ch k old new).Sound w b := .ite (.wr (.wr h)) h

theorem latchChan {h' : LatchHead} {ch : Nat} (h : s.Sound w b) : (s.latchChan h' ch).Sound w b :=
  .ite (.legacy (.legacy (.legacy (.legacy (.publish h))))) (.putChan (.legacy (.legacy (.legacy (.legacy (.publish h))))))

theorem latchCirc {h' : LatchHead} {i : Nat} (h : s.Sound w b) : (s.latchCirc h' i).Sound w b := .ite (.publish h) (.putCirc (.publish h))

theorem applyMaps (h : s.Sound w b) : s.applyMaps.Sound w b := .pimgWrite h

theorem testSequence {v : Nat} (h : s.Sound w b) : (s.testSequence v).Sound w b := by
  unfold State.testSequence
  refine .ite (.startEvent (.draw (.wr (.draw h)))) (.ite ?_ (.wr (.draw h)))
  split
  · exact .endEvent (.wr (.rest h))
  · exact .wr (.rest h)

theorem putRing {c : Nat} {l : List SealRec} (h : s.Sound w b) : (s.putRing c l).Sound w b := .rest h

theorem trimRing {c : Nat} {l : List SealRec} (h : s.Sound w b) : (s.trimRing c l).1.Sound w b := by
  induction l generalizing s with
  | nil => exact h
  | cons r l ih => exact .ite_fst h (ih (.ite (.logAll (.set1 (.inc h))) h))

theorem sealNow {c reason missed : Nat} {h' : LatchHead} (h : s.Sound w b) : (s.sealNow c reason missed h').Sound w b :=
  .wrs (.putRing (.trimRing (.wr h)))

theorem sealAt {h' : LatchHead} {prevTime : Nat} {asked : List (Nat × Nat)} {c : Nat} (h : s.Sound w b) :
    (s.sealAt h' prevTime asked c).Sound w b := by
  unfold State.sealAt
  refine .ite h ?_
  split
  · exact .sealNow h
  · exact .ite (.sealNow h) (.ite (.sealNow h) h)

theorem latchAt {t' : Nat} {split : Bool} {asked : List (Nat × Nat)} (h : s.Sound w b) : (s.latchAt t' split asked).Sound w b :=
  .commitEnergy (.foldl (.foldl (.applyMaps (.wr (.wr (.rest (.foldl (.perf h) fun _ _ ht => .latchCirc (.latchChan ht)))))) fun _ _ =>
      .testSequence) fun _ _ => .sealAt)

theorem latch (h : s.Sound w b) : (latch s).Sound w b := by
  unfold Machine.latch
  split
  · exact .latchAt h
  · exact h

theorem countClosure {v : Nat} (h : s.Sound w b) : (s.countClosure v).Sound w b := .ite h (.ite (.rest h) (.rest h))

theorem setRecord {v freq framing : Nat} (h : s.Sound w b) : (s.setRecord v freq framing).Sound w b :=
  .ite (.inc (.wrs h)) (.wrs h)

theorem openCycle {v : Nat} {pseudo : Bool} (h : s.Sound w b) : (s.openCycle v pseudo).Sound w b :=
  .foldl (.putMset h) fun _ _ => .putChan

theorem latchBefore (h : s.Sound w b) : s.latchBefore.Sound w b := by
  unfold State.latchBefore
  split
  · exact .ite (.latchAt h) h
  · exact h

theorem closeSet {v freq framing : Nat} {crossing : Bool} (h : s.Sound w b) : (s.closeSet v freq framing crossing).Sound w b :=
  .countClosure (.calCycle (.countNeutral (.foldl (.putMset (.setRecord (.closeChans (.latchBefore h)))) fun _ _ => .judgePhase)))

theorem zeroCrossing {v : Nat} (h : s.Sound w b) : (zeroCrossing v s).Sound w b := by
  unfold Machine.zeroCrossing
  refine .ite h ?_
  split
  · exact h
  · exact .openCycle (.wr (.putMset (.wr (.ite (.closeSet h) (.calCycle (.firstCrossing h))))))

theorem pseudoClose {v : Nat} (h : s.Sound w b) : (s.pseudoClose v).Sound w b := .openCycle (.closeSet h)

theorem cycleTimeout {v : Nat} (h : s.Sound w b) : (cycleTimeout v s).Sound w b := .ite (.pseudoClose h) h

theorem pseudoCycleEnd {v : Nat} (h : s.Sound w b) : (pseudoCycleEnd v s).Sound w b := .ite (.pseudoClose h) h

theorem startAcq (h : s.Sound w b) : s.startAcq.Sound w b := .ite h (.foldl (.wr (.wr (.rest h))) fun _ _ ht => .wr (.putChan ht))

theorem stopAcq (h : s.Sound w b) : s.stopAcq.Sound w b := .ite h (.wr (.rest (.abortCal (.closeChans h))))

theorem endEventsDeferred (h : s.Sound w b) : s.endEventsDeferred.Sound w b :=
  .foldl h fun _ _ ht => .foldl ht fun _ _ ht1 => .foldl (.dropEvent ht1) fun _ _ => .rest

theorem cutPulses (h : s.Sound w b) : s.cutPulses.Sound w b := by
  unfold State.cutPulses
  refine .foldl h fun _ _ ht => ?_
  split
  · exact .setBacklog (.putPulse ht)
  · exact ht

theorem restoreEnergy (h : s.Sound w b) : s.restoreEnergy.Sound w b := .foldl (.rest h) fun _ _ ht => .wr (.wr ht)

theorem splitLatch {asked : List (Nat × Nat)} (h : s.Sound w b) : (s.splitLatch asked).Sound w b :=
  .ite h (.foldl (.rest (.latchAt (.closeChans (.latchBefore h)))) fun _ _ => .putChan)

theorem pulseStart {n : Nat} (h : s.Sound w b) : (pulseStart n s).Sound w b := .ite (.setBacklog (.wr (.putPulse h))) h

theorem pulseWidthEnd {n : Nat} (h : s.Sound w b) : (pulseWidthEnd n s).Sound w b := by
  unfold Machine.pulseWidthEnd
  dsimp only
  split
  · exact .ite (.perf (.inc (.putPulse h))) h
  · exact h

theorem sealSign {c : Nat} (h : s.Sound w b) : (sealSign c s).Sound w b := by
  unfold Machine.sealSign
  split
  · exact h
  · exact .ite h (.ite (.logAll (.wr (.perf (.putRing (.draw h))))) (.wr (.perf (.putRing (.draw h)))))

theorem mtrSealRead {q : Req} (h : s.Sound w b) : (mtrSealRead q s).1.Sound w b :=
  .ite_fst h (.ite_fst h (.ite_fst h (.ite_fst h (.ite_fst h (.ite_fst h h)))))

theorem mtrSealAck {q : Req} (h : s.Sound w b) : (mtrSealAck q s).1.Sound w b :=
  .ite_fst h (.ite_fst h (.ite_fst h (.ite_fst h (.ite_fst h (.wr h)))))

/-! ### Machine/Events -/

theorem putLog {c : Nat} {g : EvLog} (h : s.Sound w b) : (s.putLog c g).Sound w b := .rest h

theorem showLast {c : Nat} (h : s.Sound w b) : (s.showLast c).Sound w b := .wr h

theorem writeRecord {c : Nat} {r : EvRec} (h : s.Sound w b) : (s.writeRecord c r).Sound w b :=
  .ite (.showLast (.putLog (.wr (.wr h)))) (.showLast (.putLog (.wr (.wr (.wr h)))))

theorem noticeRecord {c : Nat} {r : EvRec} {body : Bytes} (h : s.Sound w b) : (s.noticeRecord c r body).Sound w b := .rest h

theorem reportDrops {c : Nat} (h : s.Sound w b) : (s.reportDrops c).Sound w b := .ite h (.log (.putLog h))

theorem evrRecordWrite (h : s.Sound w b) : (evrRecordWrite s).Sound w b := by
  unfold Machine.evrRecordWrite
  refine .ite h ?_
  split
  · exact h
  · exact .foldl (.noticeRecord (.writeRecord (.rest h))) fun _ _ => .reportDrops

theorem wipeArea {c area : Nat} (h : s.Sound w b) : (s.wipeArea c area).2.Sound w b :=
  .ite_snd (.wr (.wr (.wr (.putLog h)))) (.showLast (.putLog h))

theorem logFirst {c trigger : Nat} {detail : Bytes} (h : s.Sound w b) : (s.logFirst c trigger detail).Sound w b :=
  .ite (.rest (.log h)) (.log h)

theorem resizeLog {c f l : Nat} (h : s.Sound w b) : (s.resizeLog c f l).Sound w b :=
  .ite h (.log (.showLast (.wr (.wr (.putLog h)))))

theorem clearLog {c : Nat} (h : s.Sound w b) : (s.clearLog c).Sound w b := .wrs (.rest h)

theorem watchOne {c tt : Nat} (h : s.Sound w b) : (s.watchOne c tt).Sound w b := .ite h (.ite (.log (.wr (.inc (.rest h)))) (.rest h))

theorem watchEval {c : Nat} (h : s.Sound w b) : (watchEval c s).Sound w b := .ite h (.foldl h fun _ _ => .watchOne)

theorem watchHoldoffEnd {c tt : Nat} (h : s.Sound w b) : (watchHoldoffEnd c tt s).Sound w b := .ite (.rest h) h

theorem evrRecRead {who : Requester} {w' : Nat} (h : s.Sound w b) : (evrRecRead who w' s).Sound w b := by
  unfold Machine.evrRecRead
  refine .ite (.emit h) (.ite (.emit h) ?_)
  split
  · exact .emit h
  · exact .emit h

theorem evtRead {q : Req} (h : s.Sound w b) : (evtRead q s).1.Sound w b := by
  unfold Machine.evtRead
  dsimp only
  exact .ite_fst h (.ite_fst h (.ite_fst h (.ite_fst h h)))

theorem evtSubscribe {q : Req} (h : s.Sound w b) : (evtSubscribe q s).1.Sound w b := .ite_fst h (.ite_fst h (.ite_fst h (.rest h)))

theorem evtWipe {q : Req} (h : s.Sound w b) : (evtWipe q s).1.Sound w b :=
  .ite_fst h (.ite_fst h (.ite_fst h (.ite_fst h (.logFirst (.wipeArea h)))))

/-! ### Machine/Net -/

theorem putCage {c : Nat} {x : Cage} (h : s.Sound w b) : (s.putCage c x).Sound w b := .rest h

theorem egress {tag p : Nat} (h : s.Sound w b) : (s.egress tag p).Sound w b :=
  .ite (.emit (.ite (.perf (.perf (.inc h))) (.perf (.inc h)))) h

theorem ingress {p tag len : Nat} (h : s.Sound w b) : (s.ingress p tag len).Sound w b := .perf (.perf (.inc h))

theorem dropFrame {r : Row} {p : Nat} (h : s.Sound w b) : (s.dropFrame r p).Sound w b := .perf (.inc h)

theorem judgeLan {c : Nat} (h : s.Sound w b) : (s.judgeLan c).Sound w b := .ite (.log (.wr h)) (.ite (.log (.set1 (.wr h))) h)

theorem linkChange {c : Nat} {up : Bool} (h : s.Sound w b) : (linkChange c up s).Sound w b := .judgeLan (.wr (.putCage h))

theorem lanTimeout {c : Nat} (h : s.Sound w b) : (lanTimeout c s).Sound w b := .judgeLan h

theorem sfpInsert {c : Nat} {m : SfpModule} (h : s.Sound w b) : (sfpInsert c m s).Sound w b :=
  .ite (.wr h) (.judgeLan (.wr (.putCage (.wr h))))

theorem learn {vid mac p : Nat} (h : s.Sound w b) : (s.learn vid mac p).Sound w b := .ite h (.ite (.rest h) h)

theorem addressAgeing {mac vid : Nat} (h : s.Sound w b) : (addressAgeing mac vid s).Sound w b := .rest h

theorem meter {v len : Nat} (h : s.Sound w b) : (s.meter v len).1.Sound w b := .rest h

theorem forward {v : Nat} {fr : EthFrame} (h : s.Sound w b) : (s.forward v fr).Sound w b := by
  unfold State.forward
  refine .ite ?_ (.foldl h fun _ _ ht => .inc (.egress ht))
  split
  · rename_i hx
    exact .egress (.of_fst hx (.meter (.foldl h fun _ _ ht => .inc (.egress ht))))
  · rename_i hx
    exact .perf (.inc (.of_fst hx (.meter (.foldl h fun _ _ ht => .inc (.egress ht)))))

theorem accessFrame {fr : EthFrame} (h : s.Sound w b) : (s.accessFrame fr).Sound w b := by
  unfold State.accessFrame
  refine .ite h ?_
  split
  · exact .dropFrame h
  · exact .forward (.learn (.inc (.ingress h)))

theorem internalFrame {fr : EthFrame} (h : s.Sound w b) : (s.internalFrame fr).Sound w b := by
  unfold State.internalFrame
  split
  · exact .forward (.learn (.ingress h))
  · exact .foldl (.learn (.ingress h)) fun _ _ => .egress

theorem putNodes {l : List (Nat × Nat)} (h : s.Sound w b) : (s.putNodes l).Sound w b := .wr (.rest h)

theorem hearNode {mac : Nat} (h : s.Sound w b) : (s.hearNode mac).Sound w b := .ite (.putNodes h) h

theorem nodeForgetTime {mac : Nat} (h : s.Sound w b) : (nodeForgetTime mac s).Sound w b := .ite h (.putNodes h)

theorem remember {fr : EthFrame} (h : s.Sound w b) : (s.remember fr).Sound w b := by
  unfold State.remember
  split
  · exact h
  · exact .rest h

theorem groupLimit {c : Nat} (h : s.Sound w b) : (s.groupLimit c).1.Sound w b := .ite_fst (.putCage h) (.putCage h)

theorem backboneIn {fr : EthFrame} (h : s.Sound w b) : (s.backboneIn fr).Sound w b := by
  unfold State.backboneIn
  refine .ite (.ite ?_ (.ite (.egress h) (.egress h))) (.egress h)
  split
  · rename_i hx
    exact .egress (.egress (.of_fst hx (.groupLimit h)))
  · rename_i hx
    exact .of_fst hx (.groupLimit h)

theorem cageFrame {fr : EthFrame} (h : s.Sound w b) : (s.cageFrame fr).Sound w b :=
  .ite (.dropFrame (.judgeLan (.putCage h))) (.ite (.ite (.hearNode (.ite (.inc (.learn (.ingress (.judgeLan (.putCage h))))) (.learn
      (.ingress (.judgeLan (.putCage h)))))) (.ite (.perf (.hearNode (.ite (.inc (.learn (.ingress (.judgeLan (.putCage h))))) (.learn
      (.ingress (.judgeLan (.putCage h))))))) (.backboneIn (.remember (.hearNode (.ite (.inc (.learn (.ingress (.judgeLan (.putCage h)))))
      (.learn (.ingress (.judgeLan (.putCage h)))))))))) (.backboneIn (.learn (.ingress (.judgeLan (.putCage h))))))

theorem ethFrameRx {fr : EthFrame} (h : s.Sound w b) : (ethFrameRx fr s).Sound w b :=
  .ite h (.ite (.internalFrame h) (.ite (.dropFrame h) (.ite h (.ite (.cageFrame h) (.accessFrame h)))))

theorem prpSupervision (h : s.Sound w b) : (prpSupervision s).Sound w b := .ite (.foldl h fun _ _ => .egress) h

theorem putService {m : Nat} {x : Service} (h : s.Sound w b) : (s.putService m x).Sound w b := .rest h

theorem command {m prio : Nat} {v : Option Nat} (h : s.Sound w b) : (s.command m prio v).Sound w b := .pimgWrite (.putService h)

theorem writeObject {c m : Nat} {rq : BacnetRequest} (h : s.Sound w b) : (s.writeObject c m rq).Sound w b := by
  unfold State.writeObject
  refine .ite (.emit h) (.ite (.emit h) (.ite (.emit (.command h)) ?_))
  split
  · exact .emit (.pimgWrite h)
  · exact .emit h

theorem bacnetRequest {rq : BacnetRequest} (h : s.Sound w b) : (bacnetRequest rq s).Sound w b := by
  unfold Machine.bacnetRequest
  dsimp only
  refine .ite h ?_
  split
  · exact h
  · refine .ite h (.ite (.emit h) (.ite (.emit h) (.ite (.emit h) ?_)))
    split
    · exact .ite h (.emit h)
    · exact .ite (.emit h) (.ite (.writeObject h) (.ite (.emit (.putService h)) (.emit h)))

theorem mqttMessage {g : MqttMessage} (h : s.Sound w b) : (mqttMessage g s).Sound w b := by
  unfold Machine.mqttMessage
  refine .ite h ?_
  split
  · exact .ite (.pimgWrite h) h
  · exact h

theorem covNotify {m : Nat} (h : s.Sound w b) : (covNotify m s).Sound w b := .ite (.emit (.putService h)) h

/-! ### Machine/Legacy -/

theorem putLport {p : Nat} {x : LbxPort} (h : s.Sound w b) : (s.putLport p x).Sound w b := .rest h

theorem markStale {m v : Nat} (h : s.Sound w b) : (s.markStale m v).Sound w b := .wr h

theorem sndNke {p addr : Nat} (h : s.Sound w b) : (s.sndNke p addr).Sound w b := .emit h

theorem stopLegacy {p : Nat} (h : s.Sound w b) : (s.stopLegacy p).Sound w b := .foldl (.putLport h) fun _ _ => .markStale

theorem startLegacy {p : Nat} (h : s.Sound w b) : (s.startLegacy p).Sound w b :=
  .ite (.foldl (.putLport h) fun _ _ => .sndNke) (.ite (.foldl (.putLport h) fun _ _ => .emit) (.putLport h))

theorem placeLegacy (h : s.Sound w b) : s.placeLegacy.Sound w b :=
  .foldl h fun _ _ ht => .ite (.ite (.putLport ht) (.startLegacy (.putLport ht))) (.ite (.stopLegacy ht) ht)

theorem lbxPollDue {m : Nat} (h : s.Sound w b) : (lbxPollDue m s).Sound w b := .ite h (.ite (.ite h (.inc h)) (.putLport h))

theorem lbxTransactionStart {p : Nat} (h : s.Sound w b) : (lbxTransactionStart p s).Sound w b := by
  unfold Machine.lbxTransactionStart
  dsimp only
  split
  · exact h
  · exact .emit (.ite (.putLport (.ite (.rest h) h)) (.putLport (.ite (.rest h) h)))

theorem attemptEnded {p : Nat} {c : LbxTxn} (h : s.Sound w b) : (s.attemptEnded p c).Sound w b :=
  .ite (.emit (.putLport h)) (.ite (.sndNke (.ite (.inc (.putLport h)) (.wr (.inc (.putLport h))))) (.ite (.inc (.putLport h)) (.wr (.inc
      (.putLport h)))))

theorem lbxAnswer {p : Nat} {a : LbxAnswer} (h : s.Sound w b) : (lbxAnswer p a s).Sound w b := by
  unfold Machine.lbxAnswer
  dsimp only
  split
  · exact h
  · split
    · exact .ite (.attemptEnded (.wr h)) h
    · refine .ite (.inc (.putLport h)) ?_
      split
      · exact h
      · exact .ite (.inc (.putLport h)) (.wr (.pimgWrite (.inc (.putLport h))))

theorem lbxTimeout {p : Nat} (h : s.Sound w b) : (lbxTimeout p s).Sound w b := by
  unfold Machine.lbxTimeout
  split
  · exact h
  · exact .ite (.attemptEnded h) h

theorem daliEvent {p : Nat} {ev : DaliEvent} (h : s.Sound w b) : (daliEvent p ev s).Sound w b := .ite h (.pimgWrite h)

theorem mbusOverload {p : Nat} (h : s.Sound w b) : (mbusOverload p s).Sound w b := .ite (.putLport h) h

theorem mbusOverloadRestore {p : Nat} (h : s.Sound w b) : (mbusOverloadRestore p s).Sound w b := by
  unfold Machine.mbusOverloadRestore
  split
  · exact .ite (.putLport h) h
  · exact h

theorem mstpSend {p ftype dst : Nat} {d : Bytes} (h : s.Sound w b) : (s.mstpSend p ftype dst d).Sound w b := .emit h

theorem mstpFrame {p : Nat} {fr : MstpFrame} (h : s.Sound w b) : (mstpFrame p fr s).Sound w b := by
  unfold Machine.mstpFrame
  refine .ite h (.ite ?_ (.ite (.mstpSend h) (.ite (.putLport h) (.ite (.mstpSend h) (.ite ?_ h)))))
  · split
    · exact .mstpSend h
    · exact .mstpSend h
  · split
    · exact .ite (.mstpSend h) h
    · exact h

theorem lbxDaliAddress {q : Req} (h : s.Sound w b) : (lbxDaliAddress q s).1.Sound w b :=
  .ite_fst h (.ite_fst h (.ite_fst h (.ite_fst h (.ite_fst h (.draw h)))))

theorem lbxMbusScan {q : Req} (h : s.Sound w b) : (lbxMbusScan q s).1.Sound w b :=
  .ite_fst h (.ite_fst h (.ite_fst h (.ite_fst h (.ite_fst h (.draw (.draw h))))))

/-! ### Machine/KeysCore -/

theorem putKey {k : Nat} {d : KeySlot} {key : Bytes} (h : s.Sound w b) : (s.putKey k d key).Sound w b := .wrs (.rest h)

theorem emptySlot {k : Nat} (h : s.Sound w b) : (s.emptySlot k).Sound w b := .putKey h

theorem deriveRoot {k root : Nat} {label : String} {gen ktype : Nat} {usage owner : Nat} (h : s.Sound w b) :
    (s.deriveRoot k root label gen ktype usage owner).Sound w b :=
  .ite (.putKey h) (.putKey h)

theorem derivePlatform (h : s.Sound w b) : s.derivePlatform.Sound w b :=
  .wr (.foldl (.deriveRoot (.deriveRoot (.deriveRoot (.deriveRoot (.deriveRoot h))))) fun _ _ => .emptySlot)

theorem deriveBsk {c gen : Nat} (h : s.Sound w b) : (s.deriveBsk c gen).Sound w b := .ite (.putKey h) (.putKey h)

theorem deriveCrk {c gen : Nat} (h : s.Sound w b) : (s.deriveCrk c gen).Sound w b := .deriveRoot h

theorem createKeys {c : Nat} (h : s.Sound w b) : (s.createKeys c).Sound w b :=
  .ite (.emptySlot (.emptySlot (.deriveCrk h))) (.deriveBsk (.emptySlot (.deriveCrk h)))

theorem removeKeys {c : Nat} (h : s.Sound w b) : (s.removeKeys c).Sound w b := .foldl h fun _ _ => .emptySlot

theorem orphan {k : Nat} (h : s.Sound w b) : (s.orphan k).Sound w b := .log (.set1 (.incSat (.wr (.rest h))))

theorem orphanBelow {k : Nat} (h : s.Sound w b) : (s.orphanBelow k).Sound w b := .foldl h fun _ _ => .orphan

theorem purge {k : Nat} (h : s.Sound w b) : (s.purge k).Sound w b := .log (.ite (.deriveBsk h) (.emptySlot h))

theorem purgeBefore {t' : Nat} (h : s.Sound w b) : (s.purgeBefore t').Sound w b := .foldl h fun _ _ => .purge

theorem hideSlot {k : Nat} (h : s.Sound w b) : (s.hideSlot k).Sound w b :=
  .ite h (.ite (.log (.putKey (.rest h))) (.log (.log (.putKey (.rest h)))))

theorem restoreHidden (h : s.Sound w b) : s.restoreHidden.Sound w b := .foldl (.rest h) fun _ _ ht => .ite (.putKey ht) ht

theorem closeOperations (h : s.Sound w b) : s.closeOperations.Sound w b := .foldl (.wr h) fun _ _ => .wr

theorem reachInstalled (h : s.Sound w b) : s.reachInstalled.Sound w b :=
  .foldl h fun _ _ ht => .ite ht (.ite (.ite (.wr ht) ht) (.ite (.wr ht) ht))

theorem bootKeys (h : s.Sound w b) : s.bootKeys.Sound w b :=
  .foldl (.foldl (.reachInstalled (.derivePlatform (.wr (.ite (.emptySlot (.restoreHidden h)) (.restoreHidden h))))) fun _ _ => .purge) fun
      _ _ ht1 => .ite (.emptySlot (.ite (.emptySlot (.deriveCrk ht1)) (.deriveCrk ht1))) (.deriveBsk (.ite (.emptySlot (.deriveCrk ht1))
      (.deriveCrk ht1)))

/-! ### Machine/Exchange -/

theorem commitShadow {c : Nat} (h : s.Sound w b) : (s.commitShadow c).Sound w b := by
  unfold State.commitShadow
  dsimp only
  split
  · exact h
  · exact .wr (.wr (.putProg h))

theorem dropForces {c : Nat} {which : Option Nat → Bool} (h : s.Sound w b) : (s.dropForces c which).Sound w b := by
  unfold State.dropForces
  dsimp only
  split
  · exact .releaseForces h
  · exact h

theorem exchangeDone {c : Nat} (h : s.Sound w b) : (s.exchangeDone c).Sound w b := .log (.set1 (.wr (.wr (.putProg h))))

theorem checkExchange {c : Nat} (h : s.Sound w b) : (s.checkExchange c).Sound w b := .ite (.exchangeDone h) h

theorem transferTask {c : Nat} {t' : ImgTask} (h : s.Sound w b) : (s.transferTask c t').Sound w b := by
  unfold State.transferTask
  refine .ite ?_ h
  split
  · exact h
  · exact .checkExchange (.putTask (.dropForces (.putProg h)))

theorem transferAll {c : Nat} (h : s.Sound w b) : (s.transferAll c).Sound w b := .foldl h fun _ _ => .transferTask

theorem beginExchange {c : Nat} {g : Image} (h : s.Sound w b) : (s.beginExchange c g).Sound w b := by
  unfold State.beginExchange
  split
  · exact h
  · exact .checkExchange (.foldl (.dropForces (.putProg (.wrs (.putProg h)))) fun _ _ => .putTask)

/-! ### Machine/Scan -/

theorem holdReached {c : Nat} (h : s.Sound w b) : (s.holdReached c).Sound w b := .ite (.finish (.wr (.transferAll h))) h

theorem stepDone {p : Ply} (h : s.Sound w b) : (s.stepDone p).Sound w b := by
  unfold State.stepDone
  dsimp only
  split
  · exact .ite (.ite (.finish (.putProg h)) (.putProg h)) h
  · exact h

theorem freeOld {c : Nat} (h : s.Sound w b) : (s.freeOld c).Sound w b := .ite (.putProg h) h

theorem plyOver {p : Ply} (h : s.Sound w b) : (s.plyOver p).Sound w b :=
  .holdReached (.freeOld (.stepDone (.ite (.incSat (.dropPly h)) (.dropPly h))))

theorem outputStep {p : Ply} (h : s.Sound w b) : (s.outputStep p).Sound w b := by
  unfold State.outputStep
  refine .wrs (.inc ?_)
  split
  · exact .ite (.incSat (.pimgWrite (.writeOutputs h))) (.putProg (.incSat (.pimgWrite (.writeOutputs h))))
  · exact .incSat (.pimgWrite (.writeOutputs h))

theorem endPly {p : Ply} (h : s.Sound w b) : (s.endPly p).Sound w b := .plyOver (.perf (.outputStep h))

theorem logTrap {p : Ply} {code detail : Nat} (h : s.Sound w b) : (s.logTrap p code detail).Sound w b :=
  .ite (.putTask h) (.log (.putTask h))

theorem trap {p : Ply} {code detail : Nat} (h : s.Sound w b) : (s.trap p code detail).Sound w b :=
  .plyOver (.logTrap (.perf (.inc (.wrs h))))

theorem progOp {e lo hi : Nat} {f : Ply → Prog → OpEnd} (h : s.Sound w b) : (s.progOp e lo hi f).Sound w b := by
  unfold State.progOp
  split
  · exact h
  · split
    · exact h
    · split
      · rename_i hx
        split
        · exact .putPly (.putProgOf (.of_fst hx (.spend h)))
        · exact .trap (.of_fst hx (.spend h))

theorem abandon {f : Ply → Bool} (h : s.Sound w b) : (s.abandon f).Sound w b := .rest h

theorem cutWaits {c : Nat} (h : s.Sound w b) : (s.cutWaits c).Sound w b := by
  unfold State.cutWaits
  dsimp only
  split
  · exact .finish (.putProg (.finish (.finish h)))
  · exact .putProg (.finish (.finish h))

theorem stopProg {c reason : Nat} {safe : Bool} (h : s.Sound w b) : (s.stopProg c reason safe).Sound w b :=
  .ite (.ite (.takeStopValues (.suspendForces h)) h) (.wrs (.putProg (.takeStopValues (.ite (.suspendForces (.transferAll (.cutWaits
      (.abandon h)))) (.transferAll (.cutWaits (.abandon h)))))))

theorem startProg {c : Nat} {cold byOwner : Bool} (h : s.Sound w b) : (s.startProg c cold byOwner).Sound w b :=
  .ite (.wr (.putProg h)) h

theorem startIntent {c : Nat} {cold : Bool} (h : s.Sound w b) : (s.startIntent c cold).Sound w b := .ite (.startProg (.putProg h)) h

theorem stopComplete {c : Nat} (h : s.Sound w b) : (stopComplete c s).Sound w b := by
  unfold Machine.stopComplete
  split
  · exact h
  · exact .startIntent (.finish (.ite (.log (.log (.set1 (.wr (.putProg (.commitShadow h)))))) (.log (.set1 (.wr (.putProg (.commitShadow
        h)))))))

theorem skipLimitStop {c e k : Nat} (h : s.Sound w b) : (skipLimitStop c e k s).Sound w b := .ite (.wr (.stopProg h)) h

theorem holdProg {c : Nat} (h : s.Sound w b) : (s.holdProg c).Sound w b := .ite (.holdReached (.wr h)) h

theorem resumeProg {c from_ : Nat} (h : s.Sound w b) : (s.resumeProg c from_).Sound w b :=
  .ite (.wr (.putProg (.foldl h fun _ _ => .putTask))) h

theorem resetTask {c e : Nat} {k tS : Nat} (h : s.Sound w b) : (s.resetTask c e k tS).Sound w b := .wrs (.putTask h)

theorem coldPoints {c : Nat} (h : s.Sound w b) : (s.coldPoints c).Sound w b := .pimgWrite (.releaseForces h)

theorem startupComplete {c : Nat} (h : s.Sound w b) : (startupComplete c s).Sound w b := by
  unfold Machine.startupComplete
  split
  · exact h
  · exact .ite h (.ite (.holdProg (.finish (.ite (.log (.log (.ite (.log (.set1 (.wrs (.foldl (.takeStopValues (.ite (.coldPoints
        (.resumeForces (.putProg h))) (.resumeForces (.putProg h)))) fun _ _ => .resetTask)))) (.wrs (.foldl (.takeStopValues (.ite
        (.coldPoints (.resumeForces (.putProg h))) (.resumeForces (.putProg h)))) fun _ _ => .resetTask))))) (.log (.ite (.log (.set1 (.wrs
        (.foldl (.takeStopValues (.ite (.coldPoints (.resumeForces (.putProg h))) (.resumeForces (.putProg h)))) fun _ _ => .resetTask))))
        (.wrs (.foldl (.takeStopValues (.ite (.coldPoints (.resumeForces (.putProg h))) (.resumeForces (.putProg h)))) fun _ _ =>
        .resetTask))))))) (.finish (.ite (.log (.log (.ite (.log (.set1 (.wrs (.foldl (.takeStopValues (.ite (.coldPoints (.resumeForces
        (.putProg h))) (.resumeForces (.putProg h)))) fun _ _ => .resetTask)))) (.wrs (.foldl (.takeStopValues (.ite (.coldPoints
        (.resumeForces (.putProg h))) (.resumeForces (.putProg h)))) fun _ _ => .resetTask))))) (.log (.ite (.log (.set1 (.wrs (.foldl
        (.takeStopValues (.ite (.coldPoints (.resumeForces (.putProg h))) (.resumeForces (.putProg h)))) fun _ _ => .resetTask)))) (.wrs
        (.foldl (.takeStopValues (.ite (.coldPoints (.resumeForces (.putProg h))) (.resumeForces (.putProg h)))) fun _ _ =>
        .resetTask)))))))

theorem closeUsed {e c : Nat} (h : s.Sound w b) : (s.closeUsed e c).Sound w b := .wr (.wr h)

theorem nextWindow {e from_ : Nat} (h : s.Sound w b) : (s.nextWindow e from_).Sound w b :=
  .putEng (.foldl h fun _ _ => .closeUsed)

theorem budgetWindow {e : Nat} (h : s.Sound w b) : (budgetWindow e s).Sound w b := .ite (.nextWindow h) h

theorem budgetSuspension {c e : Nat} (h : s.Sound w b) : (budgetSuspension c e s).Sound w b :=
  .ite (.ite (.set1 (.inc (.perf (.putEng h)))) (.set1 (.inc (.perf (.putEng h))))) h

theorem logSkip {c e k : Nat} {firstOfRun : Bool} (h : s.Sound w b) : (s.logSkip c e k firstOfRun).Sound w b :=
  .ite (.putTask h) (.log (.putTask h))

theorem flagFall {c e k : Nat} (h : s.Sound w b) : (s.flagFall c e k).Sound w b :=
  .logSkip (.set1 (.set1 (.inc (.incSat (.inc (.perf h))))))

theorem beginPly {c : Nat} {t' : ImgTask} {stepped : Bool} (h : s.Sound w b) : (s.beginPly c t' stepped).Sound w b := by
  unfold State.beginPly
  dsimp only
  split
  · exact h
  · refine .rest (.putTask (.wrs ?_))
    split
    · exact .putProg (.perf (.transferTask h))
    · exact .perf (.transferTask h)

theorem boundary {c : Nat} {t' : ImgTask} (h : s.Sound w b) : (s.boundary c t').Sound w b :=
  .ite (.ite (.flagFall (.ite (.inc (.putTask h)) h)) (.ite (.inc (.putTask h)) h)) (.ite (.beginPly (.ite (.inc (.putTask h)) h))
      (.transferTask (.ite (.inc (.putTask h)) h)))

theorem tempoBoundary {c e k : Nat} (h : s.Sound w b) : (tempoBoundary c e k s).Sound w b := by
  unfold Machine.tempoBoundary
  split
  · exact .ite (.boundary h) h
  · exact h

theorem captureHoldEnd (h : s.Sound w b) : (captureHoldEnd s).Sound w b := by
  unfold Machine.captureHoldEnd
  split
  · exact h
  · exact .finish (.foldl (.rest h) fun _ _ => .applyPts)

/-! ### Machine/ScanCmd -/

theorem sayPending {q : Req} (h : s.Sound w b) : (s.sayPending q).Sound w b := .respond h

theorem cmdScanStart {q : Req} (h : s.Sound w b) : (cmdScanStart q s).1.Sound w b := by
  unfold Machine.cmdScanStart
  split
  · exact h
  · exact .ite_fst h (.ite_fst h (.ite_fst h (.ite_fst (.startProg (.wr h)) (.putProg (.wr h)))))

theorem cmdScanStop {q : Req} (h : s.Sound w b) : (cmdScanStop q s).1.Sound w b := by
  unfold Machine.cmdScanStop
  split
  · exact h
  · exact .ite_fst h (.ite_fst h (.ite_fst (.wr h) (.ite_fst h (.stopProg (.wr h)))))

theorem cmdScanHold {q : Req} (h : s.Sound w b) : (cmdScanHold q s).1.Sound w b := by
  unfold Machine.cmdScanHold
  split
  · exact h
  · exact .ite_fst h (.ite_fst h (.ite_fst (.sayPending (.holdProg (.putProg h))) (.holdProg (.putProg h))))

theorem endStep {c : Nat} (h : s.Sound w b) : (s.endStep c).Sound w b := by
  unfold State.endStep
  dsimp only
  split
  · exact .finish (.putProg h)
  · exact h

theorem cmdScanResume {q : Req} (h : s.Sound w b) : (cmdScanResume q s).1.Sound w b := by
  unfold Machine.cmdScanResume
  split
  · exact h
  · exact .ite_fst h (.ite_fst h (.sayPending (.resumeProg (.endStep h))))

theorem cmdScanStep {q : Req} (h : s.Sound w b) : (cmdScanStep q s).1.Sound w b := by
  unfold Machine.cmdScanStep
  split
  · exact h
  · exact .ite_fst h (.ite_fst h (.ite_fst h (.putProg h)))

theorem cmdScanStatus {q : Req} (h : s.Sound w b) : (cmdScanStatus q s).1.Sound w b := by
  unfold Machine.cmdScanStatus
  split
  · exact h
  · exact .ite_fst h (.ite_fst h h)

theorem showImage {c : Nat} {d : ImageData} {state detail : Nat} {hash : Bytes} (h : s.Sound w b) :
    (s.showImage c d state detail hash).Sound w b :=
  .wrs (.foldl h fun _ _ => .wr)

theorem imageWrite {c off size : Nat} {data : Bytes} (h : s.Sound w b) : (s.imageWrite c off size data).1.Sound w b :=
  .ite_fst h (.ite_fst h (.showImage (.putStaging h)))

theorem imageDrop {c : Nat} (h : s.Sound w b) : (s.imageDrop c).Sound w b := .ite h (.clearImageFields (.putStaging h))

theorem holdWrite {q : Req} {op : HeldOp} (h : s.Sound w b) : (s.holdWrite q op).1.Sound w b := .rest h

theorem cmdScanImageWrite {q : Req} (h : s.Sound w b) : (cmdScanImageWrite q s).1.Sound w b :=
  .ite_fst h (.ite_fst h (.ite_fst h (.ite_fst (.holdWrite h) (.ite_fst (.imageWrite h) (.imageWrite h)))))

theorem cmdScanImageDrop {q : Req} (h : s.Sound w b) : (cmdScanImageDrop q s).1.Sound w b :=
  .ite_fst h (.ite_fst h (.ite_fst h (.ite_fst (.holdWrite h) (.imageDrop h))))

theorem cmdScanImageVerify {q : Req} (h : s.Sound w b) : (cmdScanImageVerify q s).1.Sound w b := by
  unfold Machine.cmdScanImageVerify
  refine .ite_fst h (.ite_fst h ?_)
  dsimp only
  split
  · exact .sayPending h
  · refine .ite_fst (.sayPending h) ?_
    split
    · exact .showImage (.putStaging (.sayPending h))
    · exact .ite_fst (.sayPending h) (.showImage (.putStaging (.sayPending h)))

theorem cmdScanExchPlan {q : Req} (h : s.Sound w b) : (cmdScanExchPlan q s).1.Sound w b := by
  unfold Machine.cmdScanExchPlan
  split
  · exact h
  · refine .ite_fst h ?_
    dsimp only
    split
    · exact .ite_fst (.sayPending h) (.sayPending h)
    · exact .sayPending h

theorem setForce {c : Nat} {f : Force} (h : s.Sound w b) : (s.setForce c f).1.Sound w b := by
  unfold State.setForce
  dsimp only
  split
  · exact h
  · exact .ite (.applyForce (.putForce h)) (.putForce h)

theorem cmdScanForceSet {q : Req} (h : s.Sound w b) : (cmdScanForceSet q s).1.Sound w b := by
  unfold Machine.cmdScanForceSet
  split
  · exact h
  · refine .ite_fst h (.ite_fst (.ite_fst h (.setForce h)) ?_)
    split
    · exact h
    · exact .ite_fst h (.ite_fst h (.setForce h))

theorem cmdScanForceClear {q : Req} (h : s.Sound w b) : (cmdScanForceClear q s).1.Sound w b := by
  unfold Machine.cmdScanForceClear
  split
  · exact h
  · exact .ite_fst h (.releaseForces h)

theorem cmdScanForceList {q : Req} (h : s.Sound w b) : (cmdScanForceList q s).1.Sound w b := by
  unfold Machine.cmdScanForceList
  split
  · exact h
  · exact .ite_fst h h

/-! ### Machine/Units -/

theorem judgeMode (h : s.Sound w b) : s.judgeMode.Sound w b := .ite h (.ite (.beginTransition h) (.ite (.beginTransition h) h))

theorem dropTls (h : s.Sound w b) : s.dropTls.Sound w b := .foldl h fun _ _ ht => .detach (.rest ht)

theorem stopEngine {e : Nat} (h : s.Sound w b) : (s.stopEngine e).Sound w b :=
  .foldl (.abandon h) fun _ _ ht => .holdReached (.takeStopValues ht)

theorem maeFails (h : s.Sound w b) : s.maeFails.Sound w b := .rest (.gapEntry (.cutPulses (.stopAcq h)))

theorem failEffect {u : Nat} (h : s.Sound w b) : (s.failEffect u).Sound w b :=
  .ite (.ite h (.stopEngine h)) (.ite (.maeFails h) (.ite (.placePorts h) (.ite (.placeLegacy h) (.ite (.dropTls h) (.ite (.ite (.dropTls h)
      h) (.ite (.placeLegacy (.dropTls h)) h))))))

theorem failUnit {u : Nat} (h : s.Sound w b) : (s.failUnit u).Sound w b :=
  .ite h (.ite (.rest (.rest (.failEffect (.logAll (.wr h))))) (.judgeMode (.rest (.failEffect (.logAll (.wr h))))))

theorem unitBack {u : Nat} (h : s.Sound w b) : (s.unitBack u).Sound w b :=
  .ite (.ite (.startAcq (.restoreEnergy (.wr h))) (.wr h)) (.ite (.placePorts (.wr h)) (.ite (.placeLegacy (.wr h)) (.wr h)))

theorem pllLockTimeout {pll : Nat} (h : s.Sound w b) : (pllLockTimeout pll s).Sound w b :=
  .ite (.foldl (.rest h) fun _ _ => .failUnit) (.rest h)

/-! ### Machine/Memory -/

theorem failByBank {b' : Nat} (h : s.Sound w b) : (s.failByBank b').Sound w b := .foldl h fun _ _ ht => .rest (.failUnit ht)

theorem dropSlot {n : Nat} (h : s.Sound w b) : (s.dropSlot n).Sound w b := by
  unfold State.dropSlot
  refine .log ?_
  split
  · split
    · exact .respond (.rest h)
    · exact .rest h
  · exact .rest h

theorem eccTrap {e off : Nat} (h : s.Sound w b) : (s.eccTrap e off).Sound w b := by
  unfold State.eccTrap
  split
  · exact .trap h
  · exact h

theorem canUe (h : s.Sound w b) : s.canUe.Sound w b := .ite (.endTx (.draw h)) (.wr (.putPort (.draw h)))

theorem dramUe (h : s.Sound w b) : s.dramUe.Sound w b := .ite (.discardStaging (.draw h)) (.ite (.rest (.draw h)) (.draw h))

theorem mramUe (h : s.Sound w b) : s.mramUe.Sound w b := .ite (.putProg (.draw h)) (.ite (.rest (.hideSlot (.draw h))) (.draw h))

theorem ueEffect {mem bank off : Nat} (h : s.Sound w b) : (s.ueEffect mem bank off).Sound w b :=
  .ite (.ite h (.beginTransition h)) (.ite (.eccTrap h) (.ite (.eccTrap h) (.ite (.ite (.eccTrap (.draw h)) (.eccTrap (.draw h))) (.ite
      (.ite (.dropSlot h) h) (.ite (.canUe h) (.ite (.failByBank h) (.ite (.hideSlot h) (.ite (.foldl (.draw h) fun _ _ => .closeConn) (.ite
      (.dramUe h) (.ite (.mramUe h) h))))))))))

theorem eccUe {mem bank off : Nat} (h : s.Sound w b) : (eccUe mem bank off s).Sound w b :=
  .ite h (.ueEffect (.logAll (.set1 (.wr (.inc h)))))

theorem scrub (h : s.Sound w b) : (scrub s).Sound w b := .foldl h fun _ _ ht => .inc (.draw ht)

theorem failBank {b' : Nat} (h : s.Sound w b) : (s.failBank b').Sound w b :=
  .ite (.ite (.logAll (.set1 (.wr h))) (.beginTransition (.logAll (.set1 (.wr h))))) (.ite (.logAll (.set1 (.wr h))) (.failByBank (.logAll
      (.set1 (.wr h)))))

theorem clearCause {b' : Nat} (h : s.Sound w b) : (s.clearCause b').Sound w b := .foldl (.wr (.rest h)) fun _ _ => .unitBack

theorem repair {b' : Nat} {rows : List Nat} (h : s.Sound w b) : (s.repair b' rows).2.Sound w b := by
  unfold State.repair
  split
  · exact h
  · exact .ite_snd (.ite_snd (.logAll (.clearCause (.foldl h fun _ _ ht => .wr (.inc ht)))) (.failBank (.foldl h fun _ _ ht1 => .wr (.inc
        ht1)))) (.ite_snd (.logAll (.clearCause (.logAll (.wr h)))) (.failBank h))

theorem startupTestDone {faults : List BankFault} (h : s.Sound w b) : (startupTestDone faults s).Sound w b :=
  .ite h (.wr (.foldl (.foldl h fun _ _ => .wr) fun _ _ => .repair))

theorem endTest {x : MteTest} {outcome rows first : Nat} (h : s.Sound w b) : (s.endTest x outcome rows first).Sound w b :=
  .wrs (.rest h)

theorem abortTest (h : s.Sound w b) : s.abortTest.Sound w b := by
  unfold State.abortTest
  split
  · exact h
  · exact .finish (.endTest h)

theorem mteRun {q : Req} (h : s.Sound w b) : (mteRun q s).1.Sound w b :=
  .ite_fst h (.ite_fst h (.ite_fst h (.ite_fst h (.ite_fst h (.ite_fst h (.ite_fst h (.wrs (.rest h))))))))

theorem mteAbort {q : Req} (h : s.Sound w b) : (mteAbort q s).1.Sound w b := .ite_fst h (.ite_fst h (.ite_fst h (.abortTest h)))

theorem mteTestDone {rows : List Nat} (h : s.Sound w b) : (mteTestDone rows s).Sound w b := by
  unfold Machine.mteTestDone
  split
  · exact h
  · exact .finish (.endTest (.repair (.draw h)))

/-! ### Machine/Update -/

theorem describe {k : Nat} {x : FwSlot} {fmt major minor : Nat} (h : s.Sound w b) : (s.describe k x fmt major minor).Sound w b :=
  .wrs (.rest h)

theorem eraseSlot {k : Nat} (h : s.Sound w b) : (s.eraseSlot k).Sound w b := .wrs (.rest h)

theorem countMissing (h : s.Sound w b) : s.countMissing.Sound w b := .wr h

theorem updAbort {cause : Nat} {discard : Bool} (h : s.Sound w b) : (s.updAbort cause discard).Sound w b :=
  .logAll (.ite (.eraseSlot (.finish (.finish (.wrs (.rest h))))) (.finish (.finish (.wrs (.rest h)))))

theorem touchUpd (h : s.Sound w b) : s.touchUpd.Sound w b := .rest h

theorem takeManifest {m : Bytes} (h : s.Sound w b) : (s.takeManifest m).Sound w b := .ite h (.countMissing (.wr (.rest (.eraseSlot h))))

theorem updOpen {q : Req} (h : s.Sound w b) : (updOpen q s).1.Sound w b := by
  unfold Machine.updOpen
  refine .ite_fst h (.ite_fst h (.ite_fst h (.ite_fst h (.ite_fst h (.ite_fst h (.ite_fst h ?_))))))
  split
  · exact h
  · exact .logAll (.wr (.rest (.draw (.takeManifest h))))

theorem writeBlock {off : Nat} {data : Bytes} (h : s.Sound w b) : (s.writeBlock off data).Sound w b :=
  .countMissing (.wrs (.foldl (.rest h) fun _ _ => .wr))

theorem updBlock {q : Req} (h : s.Sound w b) : (updBlock q s).1.Sound w b := by
  unfold Machine.updBlock
  refine .ite_fst h ?_
  split
  · exact h
  · exact .ite_fst (.touchUpd h) (.ite_fst (.touchUpd h) (.ite_fst (.touchUpd h) (.ite_fst (.touchUpd h) (.writeBlock (.touchUpd h)))))

theorem updStatus {q : Req} (h : s.Sound w b) : (updStatus q s).1.Sound w b :=
  .ite_fst h (.ite_fst h (.ite_fst (.ite (.touchUpd h) h) (.ite_fst (.ite (.touchUpd h) h) (.ite (.touchUpd h) h))))

theorem updVerify {q : Req} (h : s.Sound w b) : (updVerify q s).1.Sound w b := by
  unfold Machine.updVerify
  refine .ite_fst h ?_
  split
  · exact h
  · exact .ite_fst (.touchUpd h) (.ite_fst (.touchUpd h) (.ite_fst (.touchUpd h) (.wr (.touchUpd h))))

theorem updVerifyDone (h : s.Sound w b) : (updVerifyDone s).Sound w b := by
  unfold Machine.updVerifyDone
  refine .ite h ?_
  split
  · exact .finish (.wr h)
  · exact h
  · exact .finish (.logAll (.wrs (.describe h)))

theorem updAbortCmd {q : Req} (h : s.Sound w b) : (updAbortCmd q s).1.Sound w b :=
  .ite_fst h (.ite_fst h (.ite_fst h (.ite_fst h (.ite_fst h (.ite_fst h (.ite_fst h (.updAbort h)))))))

theorem updOwnerTimeout (h : s.Sound w b) : (updOwnerTimeout s).Sound w b := .ite (.updAbort h) h

theorem nameActive {k : Nat} {trial : Bool} (h : s.Sound w b) : (s.nameActive k trial).Sound w b := .wrs h

theorem beginTrial {tU : Nat} (h : s.Sound w b) : (s.beginTrial tU).Sound w b := .rest (.wrs (.nameActive h))

theorem goStep {k : Nat} (h : s.Sound w b) : (s.goStep k).Sound w b := by
  unfold State.goStep
  split
  · exact .finish (.rest h)
  · exact .ite (.finish (.rest h)) (.rest h)

theorem updActivate {q : Req} (h : s.Sound w b) : (updActivate q s).1.Sound w b := by
  unfold Machine.updActivate
  refine .ite_fst h ?_
  split
  · exact h
  · exact .ite_fst (.touchUpd h) (.ite_fst (.touchUpd h) (.ite_fst (.touchUpd h) (.ite_fst (.touchUpd h) (.ite_fst (.touchUpd h) (.ite_fst
        (.rest (.beginTrial (.rest (.touchUpd h)))) (.wr (.rest (.rest (.touchUpd h)))))))))

theorem updActivation (h : s.Sound w b) : (updActivation s).Sound w b := by
  unfold Machine.updActivation
  split
  · exact .ite (.goStep (.beginTrial h)) h
  · exact h

theorem updReset (h : s.Sound w b) : (updReset s).Sound w b := by
  unfold Machine.updReset
  split
  · exact .ite (.beginTransition (.rest h)) h
  · exact h

theorem failAdjournment (h : s.Sound w b) : s.failAdjournment.Sound w b := .ite (.logAll (.set1 (.wrs (.rest h)))) (.wrs (.rest h))

theorem fellBack (h : s.Sound w b) : s.fellBack.Sound w b := .logAll (.set1 (.wr (.rest h)))

theorem resetBack (h : s.Sound w b) : s.resetBack.Sound w b := .rest (.wr (.nameActive h))

theorem fallBack {cause : Nat} (h : s.Sound w b) : (s.fallBack cause).Sound w b := by
  unfold State.fallBack
  refine .ite (.resetBack (.rest (.finish (.ite (.failAdjournment h) h)))) ?_
  split
  · exact .fellBack (.nameActive (.rest (.finish (.ite (.failAdjournment h) h))))
  · exact .wr (.rest (.rest (.finish (.ite (.failAdjournment h) h))))

theorem switchEffect {id : Nat} (h : s.Sound w b) : (s.switchEffect id).Sound w b :=
  .ite (.wr (.rest h)) (.ite (.foldl h fun _ _ => .closeConn) h)

theorem updStepDone {version : Nat} (h : s.Sound w b) : (updStepDone version s).Sound w b := by
  unfold Machine.updStepDone
  split
  · exact h
  · refine .ite h (.ite ?_ (.goStep (.rest (.logAll (.switchEffect (.rest h))))))
    split
    · exact .fellBack (.nameActive (.logAll (.switchEffect (.rest h))))
    · exact .rest (.logAll (.switchEffect (.rest h)))

theorem updStepTimeout (h : s.Sound w b) : (updStepTimeout s).Sound w b := by
  unfold Machine.updStepTimeout
  split
  · exact h
  · exact .ite h (.ite (.nameActive (.rest (.logAll h))) (.fallBack (.logAll h)))

theorem trialExpiry (h : s.Sound w b) : (trialExpiry s).Sound w b := .ite (.fallBack h) h

theorem adjournExpiry (h : s.Sound w b) : (adjournExpiry s).Sound w b := .ite (.fallBack h) h

theorem bootResumeTimeout (h : s.Sound w b) : (bootResumeTimeout s).Sound w b := .ite (.fallBack h) h

theorem confirm (h : s.Sound w b) : s.confirm.Sound w b :=
  .logAll (.set1 (.wrs (.rest (.ite (.derivePlatform (.inc (.wr (.wr h)))) (.wr (.wr h))))))

theorem judgeDeadline (h : s.Sound w b) : s.judgeDeadline.Sound w b := .ite (.fallBack h) h

theorem updConfirm {q : Req} (h : s.Sound w b) : (updConfirm q s).1.Sound w b :=
  .ite_fst h (.ite_fst h (.ite_fst h (.ite_fst h (.ite_fst (.judgeDeadline h) (.ite_fst (.judgeDeadline h) (.confirm (.judgeDeadline
      h)))))))

theorem updFallback {q : Req} (h : s.Sound w b) : (updFallback q s).1.Sound w b :=
  .ite_fst h (.ite_fst h (.ite_fst h (.ite_fst h (.ite_fst (.fallBack h) h))))

theorem updRecoveryEnter {q : Req} (h : s.Sound w b) : (updRecoveryEnter q s).1.Sound w b :=
  .ite_fst h (.ite_fst h (.ite_fst h (.ite_fst h (.beginTransition (.rest h)))))

theorem sealedMove {v : Nat} (h : s.Sound w b) : (s.sealedMove v).1.Sound w b :=
  .ite_fst (.judgeDeadline h) (.ite_fst (.judgeDeadline h) (.ite_fst (.logAll (.confirm (.judgeDeadline h))) (.ite_fst (.rest
      (.judgeDeadline h)) (.inc (.rest (.judgeDeadline h))))))

theorem updSealedMove {who : Requester} {v : Nat} (h : s.Sound w b) : (updSealedMove who v s).Sound w b := .ite (.sealedMove h) h

theorem recoveryBeacon (h : s.Sound w b) : (recoveryBeacon s).Sound w b := .ite (.emit (.draw h)) h

theorem recoveryIdleExit (h : s.Sound w b) : (recoveryIdleExit s).Sound w b := .ite (.beginTransition h) h

theorem bootSlot {noRecord : Bool} (h : s.Sound w b) : (s.bootSlot noRecord).1.Sound w b :=
  .ite_fst (.ite_fst (.rest (.nameActive h)) (.ite_fst (.rest (.nameActive h)) h)) (.ite_fst (.rest h) (.ite_fst (.rest (.wr (.rest
      (.nameActive (.ite (.failAdjournment h) h))))) h))

theorem bootUpd (h : s.Sound w b) : s.bootUpd.Sound w b :=
  .ite (.fellBack (.rest h)) (.ite (.rest (.rest h)) (.ite (.rest h) (.wr (.rest h))))

/-! ### Machine/Sess -/

theorem cancelWaiter {w' : Waiter} (h : s.Sound w b) : (s.cancelWaiter w').Sound w b := by
  unfold State.cancelWaiter
  dsimp only
  split
  · exact .putProg (.finalTo (.rest h))
  · exact .select (.cancelTx (.finalTo (.rest h)))
  · exact .abortTest (.finalTo (.rest h))
  · exact .rest (.finalTo (.rest h))
  · exact .finalTo (.rest h)

theorem endSession {sid : Nat} (h : s.Sound w b) : (s.endSession sid).Sound w b := by
  unfold State.endSession
  split
  · exact h
  · exact .rest (.ite (.updAbort (.foldl h fun _ _ => .cancelWaiter)) (.foldl h fun _ _ => .cancelWaiter))

theorem endSessions {f : Session → Bool} (h : s.Sound w b) : (s.endSessions f).Sound w b := .foldl h fun _ _ => .endSession

theorem judgeUsb (h : s.Sound w b) : s.judgeUsb.Sound w b := .ite h (.rest (.endSessions h))

theorem endVerified {slot : Nat} (h : s.Sound w b) : (s.endVerified slot).Sound w b := .endSessions h

theorem noteUnchecked (h : s.Sound w b) : s.noteUnchecked.Sound w b := .ite (.log h) h

theorem tlsHandshake {h' : Handshake} (h : s.Sound w b) : (tlsHandshake h' s).Sound w b :=
  .ite h (.ite (.emit (.emit h)) (.emit (.perf (.putConn h))))

theorem openSession {k : Conn} {f : Frame} {comp slot : Nat} (h : s.Sound w b) : (s.openSession k f comp slot).1.Sound w b :=
  .rest (.putConn (.draw h))

theorem sessionOpenTls {k : Conn} {f : Frame} (h : s.Sound w b) : (sessionOpenTls k f s).1.Sound w b :=
  .ite_fst h (.ite_fst h (.ite_fst (.closeConn (.respond h)) (.ite_fst h (.ite_fst h (.openSession (.noteUnchecked h))))))

theorem claim {comp : Nat} {chain : Bytes} (h : s.Sound w b) : (s.claim comp chain).1.Sound w b := by
  unfold State.claim
  refine .ite_fst ?_ h
  split
  · exact .log (.wr (.putKey h))
  · exact h

theorem sessionOpenUsb {k : Conn} {f : Frame} (h : s.Sound w b) : (sessionOpenUsb k f s).1.Sound w b := by
  unfold Machine.sessionOpenUsb
  refine .ite_fst h (.ite_fst h ?_)
  split
  · exact .putConn h
  · exact .ite_fst (.putConn h) (.ite_fst (.judgeUsb (.claim (.putConn h))) (.ite_fst (.claim (.putConn h)) (.ite (.rest (.openSession
        (.noteUnchecked (.claim (.putConn h))))) (.openSession (.noteUnchecked (.claim (.putConn h)))))))

theorem sessionOpenPre {k : Conn} {f : Frame} (h : s.Sound w b) : (sessionOpenPre k f s).1.Sound w b :=
  .ite_fst (.sessionOpenUsb h) (.sessionOpenTls h)

theorem notWhenOpen {x : Req} (h : s.Sound w b) : (notWhenOpen x s).1.Sound w b := h

theorem challenge {conn : Nat} (h : s.Sound w b) : (s.challenge conn).1.Sound w b := by
  unfold State.challenge
  split
  · exact h
  · exact .putConn (.draw h)

theorem sessionChallenge {q : Req} (h : s.Sound w b) : (sessionChallenge q s).1.Sound w b := .ite_fst h (.challenge h)

theorem sessionChallengePre {k : Conn} {f : Frame} (h : s.Sound w b) : (sessionChallengePre k f s).1.Sound w b := .ite_fst h (.challenge h)

theorem sessionClose {q : Req} (h : s.Sound w b) : (sessionClose q s).1.Sound w b :=
  .ite_fst h (.judgeUsb (.endSession (.respond (.foldl h fun _ _ => .cancelWaiter))))

theorem sessionPing {q : Req} (h : s.Sound w b) : (sessionPing q s).1.Sound w b := .ite_fst h h

theorem sessionCancel {q : Req} (h : s.Sound w b) : (sessionCancel q s).1.Sound w b := by
  unfold Machine.sessionCancel
  refine .ite_fst h ?_
  split
  · exact h
  · refine .ite_fst h ?_
    split
    · exact .cancelWaiter h
    · exact h

theorem identGet {q : Req} (h : s.Sound w b) : (identGet q s).1.Sound w b := .ite_fst h h

theorem identGetPre {k : Conn} {f : Frame} (h : s.Sound w b) : (identGetPre k f s).1.Sound w b := .ite_fst h h

theorem sessionResumePre {k : Conn} {f : Frame} (h : s.Sound w b) : (sessionResumePre k f s).1.Sound w b := by
  unfold Machine.sessionResumePre
  refine .ite_fst h ?_
  split
  · exact h
  · refine .ite_fst h (.ite_fst h (.handOver (.respond (.putSession ?_))))
    split
    · exact .closeConn h
    · exact h

theorem transportLoss {conn : Nat} (h : s.Sound w b) : (transportLoss conn s).Sound w b := .detach (.rest h)

theorem sessionIdleTimeout {sid : Nat} (h : s.Sound w b) : (sessionIdleTimeout sid s).Sound w b := by
  unfold Machine.sessionIdleTimeout
  split
  · exact .ite (.judgeUsb (.endSession h)) h
  · exact h

theorem sessionDetachExpiry {sid : Nat} (h : s.Sound w b) : (sessionDetachExpiry sid s).Sound w b := by
  unfold Machine.sessionDetachExpiry
  split
  · exact .ite (.judgeUsb (.endSession h)) h
  · exact h

theorem mmpBadHeader {f : Frame} {code : Nat} (h : s.Sound w b) : (mmpBadHeader f code s).Sound w b := by
  unfold Machine.mmpBadHeader
  split
  · exact .ite h (.serve (fun _ _ _ => .noPre) (fun _ _ => .notWhenOpen) h)
  · exact h

theorem badCode {code : Nat} {x : Req} (h : s.Sound w b) : (badCode code x s).1.Sound w b := h

theorem mbxDbIn {src slot : Nat} (h : s.Sound w b) : (mbxDbIn src slot s).Sound w b := .ite h (.ite (.rest h) (.log (.rest h)))

theorem supCas {n : Nat} {c : SlotCas} (h : s.Sound w b) : (s.supCas n c).Sound w b := .ite h (.rest h)

theorem portCas {n : Nat} {c : SlotCas} (h : s.Sound w b) : (s.portCas n c).Sound w b := .ite (.emit h) (.emit (.rest h))

theorem mbxSlotState {slot : Nat} {sup port : Option SlotCas} (h : s.Sound w b) : (mbxSlotState slot sup port s).Sound w b := by
  unfold Machine.mbxSlotState
  refine .ite h ?_
  dsimp only
  split
  · split
    · exact .supCas h
    · exact h
  · refine .ite (.emit ?_) (.portCas ?_)
    · split
      · exact .supCas h
      · exact h
    · split
      · exact .supCas h
      · exact h

/-! ### Machine/Keys -/

theorem keyUpdate {q : Req} (h : s.Sound w b) : (keyUpdate q s).1.Sound w b :=
  .ite_fst h (.ite_fst h (.ite_fst h (.ite_fst h (.ite_fst h (.ite_fst h (.rest h))))))

theorem kumSwitch {m key : Bytes} (h : s.Sound w b) : (s.kumSwitch m key).Sound w b := by
  unfold State.kumSwitch
  refine .ite (.putKey (.draw h)) (.ite (.wr (.emptySlot (.orphanBelow h))) ?_)
  split
  · exact .deriveCrk (.orphanBelow h)
  · exact .deriveBsk h

theorem anchorGone {m : Bytes} (h : s.Sound w b) : (s.anchorGone m).Sound w b := by
  unfold State.anchorGone
  split
  · exact .endVerified h
  · exact h

theorem applyKum {j : KumJob} (h : s.Sound w b) : (s.applyKum j).Sound w b := by
  unfold State.applyKum
  refine .ite (.finish h) (.ite (.finish h) (.ite (.finish h) (.ite (.finish h) ?_)))
  split
  · exact .finish h
  · split
    · exact .finish h
    · exact .anchorGone (.finish (.logAll (.set1 (.wr (.kumSwitch h)))))

theorem kumApply (h : s.Sound w b) : (kumApply s).Sound w b := by
  unfold Machine.kumApply
  split
  · exact h
  · exact .applyKum (.rest h)

theorem keyAuthoritySet {q : Req} (h : s.Sound w b) : (keyAuthoritySet q s).1.Sound w b :=
  .ite_fst h (.ite_fst h (.ite_fst h (.ite_fst h (.ite_fst h (.ite_fst h (.ite (.judgeUsb (.endVerified (.log (.wr (.wr (.putKey h))))))
      (.judgeUsb (.endVerified (.finalTo (.log (.wr (.wr (.putKey h)))))))))))))

theorem sign {kind : Nat} {items : Bytes} (h : s.Sound w b) : (s.sign kind items).1.Sound w b := .ite_fst h (.draw (.inc h))

theorem keyAttest {q : Req} (h : s.Sound w b) : (keyAttest q s).1.Sound w b := .ite_fst h (.ite_fst h (.sign h))

theorem keyCertify {q : Req} (h : s.Sound w b) : (keyCertify q s).1.Sound w b :=
  .ite_fst h (.ite_fst h (.ite_fst h (.ite_fst h (.ite_fst h (.ite_fst h (.sign h))))))

/-! ### Machine/Lcy -/

theorem promote {q : Req} {target : Nat} (h : s.Sound w b) : (s.promote q target).Sound w b :=
  .beginTransition (.endSession (.ite (.finalTo (.ite (.rest (.draw (.abortTest (.endSessions (.foldl (.sayPending h) fun _ _ =>
      .stopProg))))) (.rest (.draw (.abortTest (.endSessions (.foldl (.sayPending h) fun _ _ => .stopProg))))))) (.log (.finalTo (.ite
      (.rest (.draw (.abortTest (.endSessions (.foldl (.sayPending h) fun _ _ => .stopProg))))) (.rest (.draw (.abortTest (.endSessions
      (.foldl (.sayPending h) fun _ _ => .stopProg))))))))))

theorem lcyPromote {q : Req} (h : s.Sound w b) : (lcyPromote q s).1.Sound w b :=
  .ite_fst h (.ite_fst h (.ite_fst h (.ite_fst h (.ite_fst h (.ite_fst h (.ite_fst h (.ite_fst h (.ite_fst h (.ite_fst h (.promote
      h))))))))))

theorem openSeal (h : s.Sound w b) : s.openSeal.Sound w b := .ite h (.logOrDefer (.logOrDefer (.inc (.wrs h))))

theorem sealBreak (h : s.Sound w b) : (sealBreak s).Sound w b := .openSeal (.rest h)

theorem sealLoopIntact (h : s.Sound w b) : (sealLoopIntact s).Sound w b := .rest h

theorem lcySealAck {q : Req} (h : s.Sound w b) : (lcySealAck q s).1.Sound w b :=
  .ite_fst h (.ite_fst h (.ite_fst h (.ite_fst h (.ite_fst h (.logAll (.wrs h))))))

theorem configLockChange {fitted : Bool} (h : s.Sound w b) : (configLockChange fitted s).Sound w b :=
  .ite h (.logOrDefer (.logOrDefer (.set1 (.rest h))))

theorem presencePress (h : s.Sound w b) : (presencePress s).Sound w b := .ite (.set1 h) (.ite (.wake (.rest h)) (.rest h))

theorem presenceRelease (h : s.Sound w b) : (presenceRelease s).Sound w b := .rest h

theorem presenceWindowOpen (h : s.Sound w b) : (presenceWindowOpen s).Sound w b := by
  unfold Machine.presenceWindowOpen
  refine .ite h ?_
  dsimp only
  split
  · exact .rest h
  · exact h
  · exact .ite (.log (.inc (.rest h))) h

theorem presenceWindowClose (h : s.Sound w b) : (presenceWindowClose s).Sound w b := by
  unfold Machine.presenceWindowClose
  split
  · exact .ite (.rest h) h
  · exact h

theorem endUsbTime (h : s.Sound w b) : s.endUsbTime.Sound w b := .ite h (.judgeUsb (.log (.rest h)))

theorem lcyUsbEnable {q : Req} (h : s.Sound w b) : (lcyUsbEnable q s).1.Sound w b :=
  .ite_fst h (.ite_fst h (.ite_fst h (.ite_fst h (.log (.rest h)))))

theorem lcyUsbDisable {q : Req} (h : s.Sound w b) : (lcyUsbDisable q s).1.Sound w b :=
  .ite_fst h (.ite_fst h (.ite_fst (.endUsbTime h) (.endUsbTime (.finalTo h))))

theorem usbEnableExpiry (h : s.Sound w b) : (usbEnableExpiry s).Sound w b := .ite (.endUsbTime h) h

theorem lcyRetireStatement {q : Req} (h : s.Sound w b) : (lcyRetireStatement q s).1.Sound w b := .ite_fst h (.ite_fst h (.sign h))

theorem lcyDebugChallenge {q : Req} (h : s.Sound w b) : (lcyDebugChallenge q s).1.Sound w b := .ite_fst h (.ite_fst h (.rest (.draw h)))

theorem lcyDebugUnlock {q : Req} (h : s.Sound w b) : (lcyDebugUnlock q s).1.Sound w b :=
  .ite_fst h (.ite_fst h (.ite_fst h (.ite_fst h (.ite_fst h (.ite_fst h (.ite_fst h (.ite_fst h (.ite_fst h (.log (.wrs (.rest (.ite
      (.closeOperations h) h))))))))))))

theorem d1Change {c : Nat} {on : Bool} (h : s.Sound w b) : (s.d1Change c on).Sound w b :=
  .logAll (.ite (.ite (.putProg (.endStep h)) (.resumeProg (.endStep h))) h)

theorem writeD1 {v : Nat} (h : s.Sound w b) : (s.writeD1 v).Sound w b :=
  .ite h (.foldl (.ite (.wr h) (.wr (.wr h))) fun _ _ => .d1Change)

theorem debugProbeFit (h : s.Sound w b) : (debugProbeFit s).Sound w b := .logOrDefer (.draw (.rest h))

theorem debugSysrst (h : s.Sound w b) : (debugSysrst s).Sound w b := .ite (.beginTransition h) h

theorem debugHalt {halt : Bool} (h : s.Sound w b) : (debugHalt halt s).Sound w b := .ite (.rest h) h

theorem backupDomainDip (h : s.Sound w b) : (backupDomainDip s).Sound w b := .rest h

/-! ### Machine/ModeReq -/

theorem modeBegin {m : Nat} {cold release : Bool} (h : s.Sound w b) : (s.modeBegin m cold release).Sound w b :=
  .ite (.beginTransition h) (.ite (.beginTransition h) (.beginTransition h))

theorem modeWrite {who : Requester} {m : Nat} {cold release : Bool} (h : s.Sound w b) : (s.modeWrite who m cold release).Sound w b :=
  .ite (.modeBegin h) h

/-! ### Machine/Pmon -/

theorem pmonSetRun {on : Bool} (h : s.Sound w b) : (s.pmonSetRun on).Sound w b := .wr h

theorem freeze (h : s.Sound w b) : s.freeze.Sound w b := .rest (.inc (.wr (.foldl (.foldl h fun _ _ => .wr) fun _ _ => .wrs)))

theorem armedFreeze (h : s.Sound w b) : s.armedFreeze.Sound w b := .ite (.ite (.freeze (.wr h)) (.logAll (.set1 (.wr h)))) h

theorem pmonSetArm (h : s.Sound w b) : s.pmonSetArm.Sound w b := .armedFreeze (.wr h)

theorem emptyDump (h : s.Sound w b) : s.emptyDump.Sound w b := .wrs (.rest h)

theorem pmonSetDump {on : Bool} (h : s.Sound w b) : (s.pmonSetDump on).Sound w b := .wr (.ite (.emptyDump h) h)

theorem putDump {body : Bytes} (h : s.Sound w b) : (s.putDump body).Sound w b := .wrs (.rest h)

theorem pmonDump (h : s.Sound w b) : (pmonDump s).Sound w b := .ite (.ite (.putDump h) (.putDump (.draw h))) h

theorem pmonSetSamp {on : Bool} (h : s.Sound w b) : (s.pmonSetSamp on).Sound w b := .wr (.ite (.reload (.reload (.rest h))) h)

theorem putSamples {l : List (Nat × Bytes)} (h : s.Sound w b) : (s.putSamples l).Sound w b := .wrs (.rest h)

theorem pmonSample {e : Nat} (h : s.Sound w b) : (pmonSample e s).Sound w b := by
  unfold Machine.pmonSample
  split
  · exact h
  · exact .ite (.rest h) (.ite (.logAll (.set1 (.set1 (.putSamples (.rest (.draw (.draw (.rest h)))))))) (.putSamples (.rest (.draw (.draw
        (.rest h))))))

theorem cmdPmonFreeze {q : Req} (h : s.Sound w b) : (cmdPmonFreeze q s).1.Sound w b :=
  .ite_fst h (.ite_fst h (.ite_fst h (.ite_fst h (.draw (.freeze h)))))

theorem cmdPmonDumpRead {q : Req} (h : s.Sound w b) : (cmdPmonDumpRead q s).1.Sound w b :=
  .ite_fst h (.ite_fst h (.ite_fst h (.ite_fst h h)))

theorem cmdPmonSampleRead {q : Req} (h : s.Sound w b) : (cmdPmonSampleRead q s).1.Sound w b :=
  .ite_fst h (.ite_fst h (.ite_fst h (.ite_fst h (.ite_fst h (.ite_fst (.ite (.reload (.reload (.wr (.putSamples h)))) (.putSamples h))
      h)))))

/-! ### Machine/Objects -/

theorem dropCapture {who : Requester} (h : s.Sound w b) : (s.dropCapture who).Sound w b := .rest h

theorem readOne {who : Requester} {c : Nat} {group : Bool} {l : List Nat} {a : Nat} (h : s.Sound w b) :
    (s.readOne who c group l a).2.Sound w b := by
  unfold State.readOne
  refine .ite_snd (.ite_snd h (.readRtc h)) (.ite_snd ?_ (.ite_snd (.ite_snd (.dropCapture h) (.rest (.dropCapture h))) h))
  split
  · exact .dropCapture h
  · exact h

theorem readAll {who : Requester} {c : Nat} {group : Bool} {l r : List Nat} (h : s.Sound w b) :
    (State.readAll who c group l s r).2.Sound w b := by
  induction r generalizing s with
  | nil => exact h
  | cons a r ih => exact ih (.readOne h)

theorem clearRead {c : Nat} {l : List Nat} {sets : Nat} (h : s.Sound w b) : (s.clearRead c l sets).Sound w b :=
  .foldl h fun _ _ ht => .foldl ht fun _ _ => .clearByRead

theorem readWords {who : Requester} {c : Nat} {group : Bool} {l : List Nat} (h : s.Sound w b) : (s.readWords who c group l).2.Sound w b :=
  .clearRead (.readAll (.ite (.dropShadow h) h))

theorem readEntries {q : Req} {group : Bool} {l : List (Nat × Nat)} (h : s.Sound w b) : (s.readEntries q group l).1.Sound w b :=
  .ite_fst h (.ite_fst h (.ite_fst h (.readWords h)))

theorem objRead_cmd {q : Req} (h : s.Sound w b) : (Machine.objRead q s).1.Sound w b := .ite_fst h (.ite_fst h (.readEntries h))

theorem objGroupRead {q : Req} (h : s.Sound w b) : (objGroupRead q s).1.Sound w b := .ite_fst h (.ite_fst h (.readEntries h))

theorem stagedRead {q : Req} (h : s.Sound w b) : (stagedRead q s).1.Sound w b :=
  .ite_fst h (.ite_fst h (.ite_fst h (.ite_fst h (.ite_fst h h))))

theorem setField {x : FldWrite} (h : s.Sound w b) : (s.setField x).Sound w b :=
  .ite (.ite (.pmonSetRun h) (.ite (.pmonSetDump h) (.pmonSetSamp h))) (.ite (.rest h) (.ite (.writeD1 h) (.wr h)))

theorem clearField {x : FldWrite} {sets : Nat} (h : s.Sound w b) : (s.clearField x sets).Sound w b :=
  .ite (.ite (.incSat (.rest h)) (.rest h)) (.clearFlags h)

theorem act {x : FldWrite} (h : s.Sound w b) : (s.act x).Sound w b :=
  .ite h (.ite (.ite (.freeze h) (.pmonSetArm h)) (.ite (.correlate h) (.ite (.ite (.calStart h) (.abortCal h)) (.ite (.waveStart h) (.ite
      (.ite (.request h) (.select (.cancelTx h))) (.ite (.popFifo h) h))))))

theorem afterSet {l : List FldWrite} (h : s.Sound w b) : (s.afterSet l).Sound w b := by
  unfold State.afterSet
  refine .foldl ?_ fun _ _ => .armAfter
  split
  · exact .compareCalendar (.rest h)
  · exact h

theorem applyFields {l : List FldWrite} {sets : FldWrite → Nat} (h : s.Sound w b) : (s.applyFields l sets).Sound w b :=
  .foldl (.afterSet (.foldl (.foldl h fun _ _ => .setField) fun _ _ => .clearField)) fun _ _ => .act

theorem modeOf {l : List FldWrite} (h : s.Sound w b) : (s.modeOf l).Sound w b := .ite (.modeBegin h) h

theorem sealedOf {l : List FldWrite} (h : s.Sound w b) : (s.sealedOf l).1.Sound w b := by
  unfold State.sealedOf
  split
  · exact .sealedMove h
  · exact h

theorem performWrite {c : Nat} {ws : List (Nat × Nat)} {sets : FldWrite → Nat} (h : s.Sound w b) : (s.performWrite c ws sets).Sound w b :=
  .ite (.ite (.modeOf (.applyFields h)) (.pimgWrite (.modeOf (.applyFields h)))) (.stageFields (.ite (.modeOf (.applyFields h)) (.pimgWrite
      (.modeOf (.applyFields h)))))

theorem writeEntries {q : Req} {es : List (Nat × List Nat)} (h : s.Sound w b) : (s.writeEntries q es).1.Sound w b := by
  unfold State.writeEntries
  split
  · exact h
  · dsimp only
    split
    · rename_i hx
      exact .of_fst hx (.sealedOf h)
    · rename_i hx
      exact .ite_fst (.rest (.of_fst hx (.sealedOf h))) (.performWrite (.of_fst hx (.sealedOf h)))

theorem objWrite {q : Req} (h : s.Sound w b) : (objWrite q s).1.Sound w b := .ite_fst h (.ite_fst h (.writeEntries h))

theorem objGroupWrite {q : Req} (h : s.Sound w b) : (objGroupWrite q s).1.Sound w b := by
  unfold Machine.objGroupWrite
  refine .ite_fst h (.ite_fst h ?_)
  split
  · exact .writeEntries h
  · exact h

theorem taskWrite {c e k : Nat} {ws : List (Nat × Nat)} (h : s.Sound w b) : (s.taskWrite c e k ws).1.Sound w b := by
  unfold State.taskWrite
  refine .ite_fst h ?_
  split
  · exact h
  · exact h
  · dsimp only
    split
    · rename_i hx
      exact .of_fst hx (.sealedOf h)
    · rename_i hx
      split
      · exact .putPly (.modeOf (.applyFields (.of_fst hx (.sealedOf h))))
      · exact .modeOf (.applyFields (.of_fst hx (.sealedOf h)))

theorem setBits {c a sets : Nat} (h : s.Sound w b) : (s.setBits c a sets).Sound w b := .foldl h fun _ _ => .clearField

theorem regWrite {who : Requester} {a w' sets : Nat} (h : s.Sound w b) : (regWrite who a w' sets s).Sound w b := by
  unfold Machine.regWrite
  refine .ite h ?_
  split
  · exact .emit (.setBits (.taskWrite h))
  · split
    · exact .emit (.setBits h)
    · exact .setBits h
    · split
      · rename_i hx
        exact .emit (.of_fst hx (.sealedOf h))
      · rename_i hx
        exact .emit (.performWrite (.of_fst hx (.sealedOf h)))

theorem regReadClear {who : Requester} {a : Nat} {ok : Bool} {sets : Nat} (h : s.Sound w b) : (regReadClear who a ok sets s).Sound w b :=
  .ite h (.ite (.emit (.setBits h)) (.emit (.clearRead (.readOne h))))

/-! ### Machine/CastCheck -/

theorem showFailure {c : Nat} {x : Failure} (h : s.Sound w b) : (s.showFailure c x).1.Sound w b := .wrs h

theorem castCheck {q : Req} (h : s.Sound w b) : (castCheck q s).1.Sound w b :=
  .ite_fst h (.ite_fst h (.ite_fst h (.ite_fst h (.ite_fst h (.putStaging h)))))

theorem applyHeld {c : Nat} {h' : HeldWrite} (h : s.Sound w b) : (s.applyHeld c h').Sound w b := by
  unfold State.applyHeld
  dsimp only
  split
  · exact .finish (.performWrite h)
  · exact .ite (.finish (.imageWrite h)) (.finish h)
  · exact .finish (.imageDrop h)

theorem castCheckDone {c : Nat} (h : s.Sound w b) : (castCheckDone c s).Sound w b := by
  unfold Machine.castCheckDone
  refine .ite h (.foldl ?_ fun _ _ => .applyHeld)
  split
  · exact .finish (.wr (.putStaging (.draw h)))
  · exact .finish (.putStaging (.showFailure h))

/-! ### Machine/Castling -/

theorem endPart {c id : Nat} {tC result : Nat} (h : s.Sound w b) : (s.endPart c id tC result).Sound w b :=
  .ite h (.ite (.wrs (.set1 (.wrs h))) (.set1 (.wrs h)))

theorem planLost (h : s.Sound w b) : s.planLost.Sound w b := by
  unfold State.planLost
  split
  · exact h
  · exact .wrs (.rest h)

theorem cancelPart {g : Castling} {trigger result : Nat} {p : CastPart} (h : s.Sound w b) : (s.cancelPart g trigger result p).Sound w b :=
  .ite (.planLost h) (.log (.endPart h))

theorem cancelAll {g : Castling} {trigger result : Nat} (h : s.Sound w b) : (s.cancelAll g trigger result).Sound w b :=
  .fixStep (.foldl (.rest h) fun _ _ => .cancelPart)

theorem acceptPart {kept : List Castling} {p : CastPart} {tC : Nat} (h : s.Sound w b) : (s.acceptPart kept p tC).1.Sound w b :=
  .foldl (.rest h) fun _ _ => .cancelPart

theorem showPending {c id tC : Nat} {image : Bool} (h : s.Sound w b) : (s.showPending c id tC image).Sound w b :=
  .ite (.wrs (.wrs (.clearImageFields (.rest h)))) (.wrs (.clearImageFields (.rest h)))

theorem castCommit {q : Req} (h : s.Sound w b) : (castCommit q s).1.Sound w b := by
  unfold Machine.castCommit
  split
  · exact h
  · dsimp only
    split
    · exact .showPending (.acceptPart h)
    · exact .showFailure h

theorem abortPart {g : Castling} {c : Nat} (h : s.Sound w b) : (s.abortPart g c).Sound w b :=
  .ite (.fixStep (.rest (.log (.endPart h)))) (.ite (.rest (.log (.endPart h))) (.cancelAll (.rest (.log (.endPart h)))))

theorem castAbort {q : Req} (h : s.Sound w b) : (castAbort q s).1.Sound w b := by
  unfold Machine.castAbort
  refine .ite_fst h (.ite_fst h (.ite_fst (.ite h (.discardStaging h)) ?_))
  split
  · exact h
  · exact .ite_fst h (.abortPart h)

theorem castArm (h : s.Sound w b) : (castArm s).Sound w b := by
  unfold Machine.castArm
  split
  · exact .rest h
  · exact h

theorem castConfirmDeadline {confirmed : List Nat} (h : s.Sound w b) : (castConfirmDeadline confirmed s).Sound w b := by
  unfold Machine.castConfirmDeadline
  split
  · exact .ite (.rest (.advance h)) (.cancelAll (.advance h))
  · exact h

theorem filter_regs {f : Fld × Nat → Bool} (h : s.Sound w b) : State.Sound w b { s with regs := s.regs.filter f } := h.filtered f rfl rfl

theorem removeComp {c : Nat} (h : s.Sound w b) : (s.removeComp c).Sound w b := by
  unfold State.removeComp
  exact .wrs (.filter_regs (.removeKeys (.clearLog (.rest (.endSessions (.discardStaging (.releaseForces (.cutWaits (.abandon h)))))))))

theorem createComp {c : Nat} (h : s.Sound w b) : (s.createComp c).Sound w b := .wrs (.rest (.createKeys (.clearLog h)))

theorem showProg {c : Nat} {p : Prog} (h : s.Sound w b) : (s.showProg c p).Sound w b :=
  .foldl (.foldl (.wrs (.foldl h fun _ _ => .wr)) fun _ _ => .wr) fun _ _ => .wrs

theorem placeImage {c : Nat} {g : Image} (h : s.Sound w b) : (s.placeImage c g).Sound w b := by
  unfold State.placeImage
  split
  · exact .ite (.transferAll (.beginExchange (.rest h))) (.beginExchange (.rest h))
  · exact .putProg h

theorem freshTasks {old : State} {c : Nat} {exch : Bool} (h : s.Sound w b) : (s.freshTasks old c exch).Sound w b :=
  .foldl h fun _ _ ht => .ite (.ite (.putTask (.resetTask ht)) (.resetTask ht)) ht

theorem freshOutputs {old : State} {c : Nat} (h : s.Sound w b) : (s.freshOutputs old c).Sound w b :=
  .putProg (.foldl h fun _ _ => .setOwn)

theorem placeImages {old : State} {l : List CastPart} (h : s.Sound w b) : (s.placeImages old l).Sound w b := by
  unfold State.placeImages
  refine .foldl h fun _ _ ht => ?_
  split
  · dsimp only
    split
    · exact .freshOutputs (.freshTasks (.showProg (.placeImage ht)))
    · exact .placeImage ht
  · exact .freshOutputs (.freshTasks ht)

theorem judgeSources {old : State} (h : s.Sound w b) : (s.judgeSources old).Sound w b := .foldl h fun _ _ ht => .ite ht (.wrs ht)

theorem pointsMoved {old : State} (h : s.Sound w b) : (s.pointsMoved old).Sound w b := .foldl h fun _ _ => .releaseForces

theorem switchPort {old : State} {p : Nat} (h : s.Sound w b) : (s.switchPort old p).Sound w b :=
  .select (.ite (.wr (.ite (.wr (.foldl (.foldl h fun _ _ ht => .endTx (.putTxReq ht)) fun _ _ => .popFifo)) (.foldl (.foldl h fun _ _ ht2
      => .endTx (.putTxReq ht2)) fun _ _ => .popFifo))) (.ite (.wr (.foldl (.foldl h fun _ _ ht4 => .endTx (.putTxReq ht4)) fun _ _ =>
      .popFifo)) (.foldl (.foldl h fun _ _ ht6 => .endTx (.putTxReq ht6)) fun _ _ => .popFifo)))

theorem switchFbc {old : State} {tC : Nat} {g : Castling} (h : s.Sound w b) : (s.switchFbc old tC g).Sound w b :=
  .foldl (.foldl (.rest h) fun _ _ => .switchPort) fun _ _ ht1 => .ite (.wr ht1) ht1

theorem switchEvr {old : State} {cells : List (Fld × Nat)} (h : s.Sound w b) : (s.switchEvr old cells).Sound w b :=
  .foldl (.foldl h fun _ _ ht => .ite (.rest ht) ht) fun _ _ => .resizeLog

theorem switchSessions (h : s.Sound w b) : s.switchSessions.Sound w b := .endSessions h

theorem judgeClock (h : s.Sound w b) : s.judgeClock.Sound w b := .wr h

theorem switchNow {g : Castling} (h : s.Sound w b) : (s.switchNow g).Sound w b :=
  .judgeMode (.purgeBefore (.rest (.rest (.judgeClock (.switchSessions (.switchEvr (.placeLegacy (.placePorts (.ite (.switchFbc
      (.judgeSources (.placeImages (.pointsMoved (.foldl (.rest (.wrs (.foldl (.markCycles h) fun _ _ => .removeComp))) fun _ _ =>
      .createComp))))) (.judgeSources (.placeImages (.pointsMoved (.foldl (.rest (.wrs (.foldl (.markCycles h) fun _ _ => .removeComp))) fun
      _ _ => .createComp)))))))))))))

theorem castInstant (h : s.Sound w b) : (castInstant s).Sound w b := by
  unfold Machine.castInstant
  split
  · exact .ite h (.switchNow h)
  · exact h

theorem switchPulse {old : State} {n : Nat} (h : s.Sound w b) : (s.switchPulse old n).Sound w b := .ite (.logAll (.wrs (.putPulse h))) h

theorem switchInputs {old : State} (h : s.Sound w b) : (s.switchInputs old).Sound w b :=
  .foldl (.foldl h fun _ _ ht => .ite ht (.wr (.putChan ht))) fun _ _ ht1 => .ite ht1 (.putMset (.foldl ht1 fun _ _ => .endEvent))

theorem switchMae {g : Castling} (h : s.Sound w b) : (s.switchMae g).Sound w b :=
  .rest (.judgeSources (.ite (.inc (.foldl (.switchInputs (.abortCal (.wrs (.splitLatch h)))) fun _ _ => .switchPulse)) (.foldl
      (.switchInputs (.abortCal (.wrs (.splitLatch h)))) fun _ _ => .switchPulse)))

theorem castSplit (h : s.Sound w b) : (castSplit s).Sound w b := by
  unfold Machine.castSplit
  split
  · exact .switchMae h
  · exact h

theorem markCal {tC : Nat} {x : Nat × Bool} (h : s.Sound w b) : (s.markCal tC x).Sound w b := .logAll (.wrs h)

theorem planApplied (h : s.Sound w b) : s.planApplied.Sound w b := by
  unfold State.planApplied
  split
  · exact h
  · exact .logAll (.set1 (.wrs (.inc (.rest h))))

theorem endApplied {c : Nat} {g : Castling} {result : Nat} (h : s.Sound w b) : (s.endApplied c g result).Sound w b :=
  .ite h (.set1 (.wrs h))

theorem markApplied {g : Castling} (h : s.Sound w b) : (s.markApplied g).Sound w b :=
  .fixStep (.perf (.logAll (.inc (.foldl (.foldl (.rest h) fun _ _ => .markCal) fun _ _ ht1 => .ite (.planApplied ht1) (.endApplied ht1)))))

theorem castAppliedMark (h : s.Sound w b) : (castAppliedMark s).Sound w b := by
  unfold Machine.castAppliedMark
  split
  · exact .markApplied h
  · exact h

theorem settleCastlings {at_ : Nat} (h : s.Sound w b) : (s.settleCastlings at_).Sound w b :=
  .foldl h fun _ _ ht => .foldl (.rest ht) fun _ _ ht1 => .ite (.planLost ht1) (.rest (.endPart ht1))

/-! ### Machine/Agm -/

theorem canaryResult {v : List Nat} (h : s.Sound w b) : (s.canaryResult v).Sound w b := by
  unfold State.canaryResult
  split
  · exact h
  · dsimp only
    split
    · exact h
    · exact .wrs (.rest h)

theorem tempResult {v : List Nat} (h : s.Sound w b) : (s.tempResult v).Sound w b := by
  unfold State.tempResult
  split
  · exact h
  · exact .wr (.rest h)

theorem droopResult {v : List Nat} (h : s.Sound w b) : (s.droopResult v).Sound w b := by
  unfold State.droopResult
  split
  · exact h
  · exact .wr (.rest h)

theorem holdupResult {v : List Nat} (h : s.Sound w b) : (s.holdupResult v).Sound w b := by
  unfold State.holdupResult
  split
  · exact .wrs (.rest h)
  · exact h

theorem cellResult {v : List Nat} (h : s.Sound w b) : (s.cellResult v).Sound w b := by
  unfold State.cellResult
  split
  · exact .wrs (.rest h)
  · exact h

theorem mramResult (h : s.Sound w b) : s.mramResult.Sound w b := .wr (.rest h)

theorem tcxoResult (h : s.Sound w b) : s.tcxoResult.Sound w b := .wr (.rest h)

theorem tdcvResult {v : List Nat} (h : s.Sound w b) : (s.tdcvResult v).Sound w b := by
  unfold State.tdcvResult
  split
  · exact .ite (.ite (.set1 (.ite (.wr (.wrs (.rest h))) (.wrs (.rest h)))) (.ite (.wr (.wrs (.rest h))) (.wrs (.rest h)))) h
  · exact h

theorem sfpResult {v : List Nat} (h : s.Sound w b) : (s.sfpResult v).Sound w b := .wrs h

theorem agmResult {m : AgmMeasure} (h : s.Sound w b) : (s.agmResult m).Sound w b :=
  .ite (.canaryResult h) (.ite (.tempResult h) (.ite (.droopResult h) (.ite (.holdupResult h) (.ite (.cellResult h) (.ite (.mramResult h)
      (.ite (.tcxoResult h) (.ite (.tdcvResult h) (.ite (.sfpResult h) h))))))))

theorem agmPredict (h : s.Sound w b) : s.agmPredict.Sound w b := .rest (.foldl (.wrs h) fun _ _ ht => .logAll (.set1 ht))

theorem planRefused {p : Replan} {status : Nat} (h : s.Sound w b) : (s.planRefused p status).Sound w b := .rest (.ite h (.logAll h))

theorem planCommit {p : Replan} (h : s.Sound w b) : (s.planCommit p).1.Sound w b := by
  unfold State.planCommit
  split
  · exact .planRefused h
  · dsimp only
    split
    · exact .planRefused h
    · exact .logAll (.set1 (.wrs (.rest (.acceptPart h))))

theorem agmPlan {k : PlanParts} {relax : Bool} (h : s.Sound w b) : (s.agmPlan k relax).1.Sound w b := by
  unfold State.agmPlan
  split
  · exact .planCommit h
  · exact h

theorem agmMeasured {m : AgmMeasure} (h : s.Sound w b) : (s.agmMeasured m).Sound w b := .agmPlan (.agmPredict (.agmResult h))

theorem agmMeasureDue {m : AgmMeasure} (h : s.Sound w b) : (agmMeasureDue m s).Sound w b := .ite (.agmMeasured h) h

theorem holdupTest (h : s.Sound w b) : (holdupTest s).Sound w b := .ite (.rest h) h

theorem agmMeasurementEnd {m : AgmMeasure} (h : s.Sound w b) : (agmMeasurementEnd m s).Sound w b :=
  .ite (.finish (.rest h)) (.ite (.finish (.agmMeasured (.rest h))) h)

theorem agmReplanRetry (h : s.Sound w b) : (agmReplanRetry s).Sound w b := .ite (.agmPlan (.rest h)) h

theorem agmMeasureCmd {q : Req} (h : s.Sound w b) : (agmMeasureCmd q s).1.Sound w b :=
  .ite_fst h (.ite_fst h (.ite_fst h (.ite_fst h (.ite_fst h (.rest h)))))

theorem agmReplanCmd {q : Req} (h : s.Sound w b) : (agmReplanCmd q s).1.Sound w b := .ite_fst h (.ite_fst h (.ite_fst h (.agmPlan h)))

/-! ### Machine/Modes -/

theorem showResume {m : Nat} (h : s.Sound w b) : (s.showResume m).Sound w b := .ite h (.wr h)

theorem rewarm {c : Nat} {k : ImgTask} (h : s.Sound w b) : (s.rewarm c k).Sound w b := by
  unfold State.rewarm
  dsimp only
  split
  · exact h
  · exact .resetTask (.putProg h)

theorem wakeTasks (h : s.Sound w b) : s.wakeTasks.Sound w b := .foldl h fun _ _ ht => .ite (.foldl ht fun _ _ => .rewarm) ht

theorem releaseHolds (h : s.Sound w b) : s.releaseHolds.Sound w b :=
  .foldl (.foldl h fun _ _ ht => .ite ht (.resumeProg ht)) fun _ _ => .stopEngine

theorem progsEnter {old m : Nat} {cold : Bool} (h : s.Sound w b) : (s.progsEnter old m cold).Sound w b :=
  .ite (.foldl h fun _ _ => .stopProg) (.ite (.foldl h fun _ _ => .holdProg) (.ite (.startIntent (.startIntent (.foldl h fun _ _ =>
      .stopProg))) (.ite (.foldl (.abandon h) fun _ _ => .holdReached) (.ite (.ite (.releaseHolds h) (.ite (.wakeTasks h) (.ite (.foldl h
      fun _ _ => .startIntent) h))) h))))

theorem beginAcq (h : s.Sound w b) : s.beginAcq.Sound w b := .ite h (.startAcq (.rest h))

theorem dropConns (h : s.Sound w b) : s.dropConns.Sound w b := .foldl h fun _ _ ht => .detach (.rest ht)

theorem noHosts (h : s.Sound w b) : s.noHosts.Sound w b := .rest (.endSessions h)

theorem enterMode {m : Nat} {cold : Bool} (h : s.Sound w b) : (s.enterMode m cold).Sound w b :=
  .judgeMode (.logAll (.placeLegacy (.placePorts (.ite (.beginAcq (.ite (.noHosts (.progsEnter (.ite (.rest (.showResume (.wr (.rest
      (.markCycles h))))) (.showResume (.wr (.rest (.markCycles h))))))) (.progsEnter (.ite (.rest (.showResume (.wr (.rest (.markCycles
      h))))) (.showResume (.wr (.rest (.markCycles h)))))))) (.ite (.noHosts (.progsEnter (.ite (.rest (.showResume (.wr (.rest (.markCycles
      h))))) (.showResume (.wr (.rest (.markCycles h))))))) (.progsEnter (.ite (.rest (.showResume (.wr (.rest (.markCycles h)))))
      (.showResume (.wr (.rest (.markCycles h)))))))))))

theorem finishCastling {id : Nat} (h : s.Sound w b) : (s.finishCastling id).Sound w b := by
  unfold State.finishCastling
  dsimp only
  split
  · refine .markApplied ?_
    split
    · refine .ite ?_ (.switchMae ?_)
      · split
        · exact .ite h (.switchNow h)
        · exact h
      · split
        · exact .ite h (.switchNow h)
        · exact h
    · split
      · exact .ite h (.switchNow h)
      · exact h
  · split
    · refine .ite ?_ (.switchMae ?_)
      · split
        · exact .ite h (.switchNow h)
        · exact h
      · split
        · exact .ite h (.switchNow h)
        · exact h
    · split
      · exact .ite h (.switchNow h)
      · exact h

theorem settleAll {t0 : Nat} {reset : Bool} (h : s.Sound w b) : (s.settleAll t0 reset).Sound w b :=
  .settleCastlings (.foldl h fun _ _ => .finishCastling)

theorem closeDown (h : s.Sound w b) : s.closeDown.Sound w b := .rest (.abortTest (.cutPulses (.endEventsDeferred (.stopAcq (.abandon h)))))

theorem writePending {n : Nat} (h : s.Sound w b) : (s.writePending n).Sound w b := .foldl h fun _ _ => .evrRecordWrite

theorem commitStages {n t0 took : Nat} (h : s.Sound w b) : (s.commitStages n t0 took).Sound w b :=
  .ite (.set1 (.wrs (.rest (.writePending (.ite_snd (.draw (.ite (.foldl (.ite (.rest (.ite (.commitEnergy h) (.rest h))) (.wr (.rest (.ite
      (.commitEnergy h) (.rest h))))) fun _ _ => .commitShadow) (.rest (.ite (.rest (.ite (.commitEnergy h) (.rest h))) (.wr (.rest (.ite
      (.commitEnergy h) (.rest h)))))))) (.ite (.foldl (.ite (.rest (.ite (.commitEnergy h) (.rest h))) (.wr (.rest (.ite (.commitEnergy h)
      (.rest h))))) fun _ _ => .commitShadow) (.rest (.ite (.rest (.ite (.commitEnergy h) (.rest h))) (.wr (.rest (.ite (.commitEnergy h)
      (.rest h)))))))))))) (.wrs (.rest (.writePending (.ite_snd (.draw (.ite (.foldl (.ite (.rest (.ite (.commitEnergy h) (.rest h))) (.wr
      (.rest (.ite (.commitEnergy h) (.rest h))))) fun _ _ => .commitShadow) (.rest (.ite (.rest (.ite (.commitEnergy h) (.rest h))) (.wr
      (.rest (.ite (.commitEnergy h) (.rest h)))))))) (.ite (.foldl (.ite (.rest (.ite (.commitEnergy h) (.rest h))) (.wr (.rest (.ite
      (.commitEnergy h) (.rest h))))) fun _ _ => .commitShadow) (.rest (.ite (.rest (.ite (.commitEnergy h) (.rest h))) (.wr (.rest (.ite
      (.commitEnergy h) (.rest h)))))))))))

theorem commitOnMain (h : s.Sound w b) : s.commitOnMain.Sound w b := by
  unfold State.commitOnMain
  exact .commitStages (.closeDown (.settleAll (.dropConns (.draw h))))

theorem captureFloor (h : s.Sound w b) : s.captureFloor.Sound w b := .rest h

theorem enterM1 (h : s.Sound w b) : s.enterM1.Sound w b := by
  have h1 : s.markCycles.noHosts.captureFloor.Sound w b := .captureFloor (.noHosts (.markCycles h))
  unfold State.enterM1
  dsimp only
  split
  · exact .beginTransition (.rest (.placeLegacy (.placePorts (.showResume (.wr (.rest h1))))))
  · exact .placeLegacy (.placePorts (.showResume (.wr (.rest h1))))

theorem enterM0 {commit : Bool} (h : s.Sound w b) : (s.enterM0 commit).Sound w b :=
  .placeLegacy (.placePorts (.wrs (.rest (.ite (.dropConns (.markCycles (.ite (.captureFloor h) h))) (.wr (.dropConns (.markCycles (.ite
      (.captureFloor h) h))))))))

/-- Where floor time restarts, it may fall: only the least mark stands. -/
theorem restartFloor (h : s.Sound w 0) : s.restartFloor.Sound w 0 := by
  have h1 (n : Nat) : State.Sound w 0 { s with floorTime := n } := ⟨h.wf, Nat.zero_le n⟩
  exact .wr (.rest (.ite (.wr (.rest (h1 _))) (h1 _)))

/-- Floor time does not restart where M3 is entered from M2 or a higher mode. -/
theorem enterM3 {old : Nat} (ho : b = 0 ∨ 2 ≤ old) (h : s.Sound w b) : (s.enterM3 old).Sound w b := by
  have h1 : (if old ≤ 1 then s.restartFloor else s.markCycles).Sound w b := by
    split
    · obtain rfl : b = 0 := by omega
      exact .restartFloor h
    · exact .markCycles h
  exact .placeLegacy (.placePorts (.wrs (.rest (.ite (.inc (.dropConns h1)) (.dropConns h1)))))

theorem modeTransitionDone (hm : b = 0 ∨ 2 ≤ s.mode) (h : s.Sound w b) : (modeTransitionDone s).Sound w b := by
  unfold Machine.modeTransitionDone
  split
  · exact h
  · exact .ite h (.ite (.enterM1 (.commitOnMain (.ite (.foldl h fun _ _ => .stopProg) h)))
      (.ite (.enterM3 hm (.ite h (.commitOnMain h))) (.enterMode h)))

theorem m9LimitExpiry (h : s.Sound w b) : (m9LimitExpiry s).Sound w b := .ite (.beginTransition h) h

theorem failPower (h : s.Sound w b) : s.failPower.Sound w b :=
  .ite (.logAll (.placeLegacy (.inc (.wrs (.rest (.closeDown (.settleAll (.dropConns (.markCycles h))))))))) (.ite (.rest (.enterM0 h)) h)

theorem mainToBoot (hm : b = 0 ∨ 2 ≤ s.mode) (h : s.Sound w b) : s.mainToBoot.Sound w b := .enterM3 hm (.wakeCause h)

theorem powerFailCommitEnd {n : Nat} {low returned : Bool} (hm : b = 0 ∨ 2 ≤ s.mode) (h : s.Sound w b) :
    (powerFailCommitEnd n low returned s).Sound w b := by
  have hc {n t0 took : Nat} : b = 0 ∨ 2 ≤ (s.commitStages n t0 took).mode := by rw [s.commitStages_mode]; exact hm
  exact .ite (.ite (.enterM0 (.commitStages h)) (.ite (.mainToBoot hc (.commitStages h)) (.commitStages h))) h

theorem bulkLow (h : s.Sound w b) : (bulkLow s).Sound w b := .ite h (.ite (.enterM0 h) (.enterM0 (.commitStages (.draw h))))

theorem canaryTrip (h : s.Sound w b) : s.canaryTrip.Sound w b := .logOrDefer (.logOrDefer (.openSeal (.set1 (.wrs (.rest h)))))

theorem mainReturn (hm : b = 0 ∨ 2 ≤ s.mode) (h : s.Sound w b) : (mainReturn s).Sound w b := by
  unfold Machine.mainReturn
  split
  · obtain rfl : b = 0 := by omega
    have h1 : (if s.power.canaryA && ! s.power.canaryB then s else s.canaryTrip).Sound w 0 := .ite h (.canaryTrip h)
    exact .ite (.placePorts (.wrs (.rest h1))) (.mainToBoot (.inl rfl) h1)
  · exact .ite (.ite (.mainToBoot hm h) (.wr (.rest h))) h

theorem opSecondsTick (h : s.Sound w b) : (opSecondsTick s).Sound w b := .ite h (.ite (.rest (.wr h)) (.wr h))

theorem vbusDetect (h : s.Sound w b) : (vbusDetect s).Sound w b := .ite (.wake (.rest h)) (.rest h)

theorem tcpSynWake (h : s.Sound w b) : (tcpSynWake s).Sound w b := .ite (.wake h) h

/-! ### Machine/Boot -/

theorem clearMemories (h : s.Sound w b) : s.clearMemories.Sound w b := h.filtered _ rfl rfl

theorem applyBootCells (h : s.Sound w b) : s.applyBootCells.Sound w b := h.overlaid rfl rfl

theorem finishFuses (h : s.Sound w b) : s.finishFuses.Sound w b := by
  unfold State.finishFuses
  split
  · exact .rest h
  · exact h

theorem judgeSlots {noRecord : Bool} (h : s.Sound w b) : (s.judgeSlots noRecord).Sound w b := .rest (.bootSlot h)

theorem usbEnds (h : s.Sound w b) : s.usbEnds.Sound w b := .ite (.rest h) h

theorem bootEntry (h : s.Sound w b) : (bootEntry s).Sound w b :=
  .ite h (.ite (.rest (.finishFuses (.restoreEnergy (.applyBootCells (.wr (.clearMemories (.usbEnds h))))))) (.judgeSlots (.rest
      (.finishFuses (.restoreEnergy (.applyBootCells (.wr (.clearMemories (.usbEnds h)))))))))

theorem wipe (h : s.Sound w b) : s.wipe.Sound w b := by
  unfold State.wipe
  exact .showLast (.wr (.wr (h.filtered _ rfl rfl)))

theorem promotionWipe {failed ms : Nat} (h : s.Sound w b) : (promotionWipe failed ms s).Sound w b :=
  .ite (.ite (.judgeSlots (.foldl (.rest (.wrs (.rest (.wipe h)))) fun _ _ => .failUnit)) (.rest (.wipe h))) h

theorem reportLost (h : s.Sound w b) : s.reportLost.Sound w b :=
  .rest (.ite (.foldl (.rest h) fun _ _ => .log) (.log (.foldl (.rest h) fun _ _ => .log)))

theorem writeDeferred (h : s.Sound w b) : s.writeDeferred.Sound w b := .foldl (.rest h) fun _ _ ht => .ite ht (.enqueue ht)

theorem armCanary (h : s.Sound w b) : s.armCanary.Sound w b := .rest h

theorem reportStep (h : s.Sound w b) : s.reportStep.Sound w b := by
  unfold State.reportStep
  split
  · exact .log (.rest (.draw h))
  · exact h

theorem bootImage {safe : Bool} (h : s.Sound w b) : (s.bootImage safe).Sound w b := by
  unfold State.bootImage
  refine .foldl (.foldl (.foldl h fun _ _ => .wr) fun _ _ => .wr) fun _ _ ht2 => ?_
  split
  · exact .ite (.suspendForces (.takeStopValues (.wr (.showProg ht2)))) (.resumeForces (.takeStopValues (.wr (.showProg ht2))))
  · exact ht2

theorem bootComplete (h : s.Sound w b) : (bootComplete s).Sound w b := by
  unfold Machine.bootComplete
  refine .ite h ?_
  split
  · exact .rest h
  · exact .enterMode (.bootImage (.wr (.rest (.bootUpd (.bootKeys (.reportStep (.armCanary (.writeDeferred (.reportLost h)))))))))

/-! ### Machine/TempoInt -/

theorem alu {e : Fin 2} {lo hi : Nat} {w' : Bool} {d a b' : Fin 32} {op : (n : Nat) → BitVec n → BitVec n → BitVec n} (h : s.Sound w b) :
    (s.alu e lo hi w' d a b' op).Sound w b :=
  .regOp h

theorem aluDiv {e : Fin 2} {w' : Bool} {d a b' : Fin 32} {op : (n : Nat) → BitVec n → BitVec n → BitVec n} (h : s.Sound w b) :
    (s.aluDiv e w' d a b' op).Sound w b :=
  .retire h

/-! ### Machine/TempoData -/

theorem slotOp {e : Fin 2} {a : Fin 32} {imm : BitVec 16} {count : Ply → Nat} {f : Ply → Nat → Ply} (h : s.Sound w b) :
    (s.slotOp e a imm count f).Sound w b :=
  .progOp h

theorem loadOp {e : Fin 2} {d a : Fin 32} {imm : BitVec 16} {n code : Nat} {which : Ply → Prog → Option Inst} (h : s.Sound w b) :
    (s.loadOp e d a imm n code which).Sound w b :=
  .progOp h

theorem storeOp {e : Fin 2} {d a : Fin 32} {imm : BitVec 16} {n code : Nat} {which : Ply → Prog → Option Inst} (h : s.Sound w b) :
    (s.storeOp e d a imm n code which).Sound w b :=
  .progOp h

theorem recordOp {e : Fin 2} {lo hi : Nat} {a : Fin 32} {imm : BitVec 16} {n : Nat} {f : Ply → Prog → Inst → Nat → OpEnd} (h : s.Sound w b)
    :
    (s.recordOp e lo hi a imm n f).Sound w b :=
  .progOp h

theorem edgeOp {e : Fin 2} {d a : Fin 32} {imm : BitVec 16} {seen : Bool → Bool → Bool} (h : s.Sound w b) :
    (s.edgeOp e d a imm seen).Sound w b :=
  .recordOp h

/-! ### Machine/TempoFlow -/

theorem branch {e : Fin 2} {off : ℤ} {f : Ply → Ply} {taken : Ply → Bool} (h : s.Sound w b) : (s.branch e off f taken).Sound w b := by
  unfold State.branch
  split
  · exact h
  · exact .retire (.ite (.countOp h) h)

theorem countCall {s0 : State} {e : Fin 2} (h : s.Sound w b) : (s0.countCall s e).Sound w b := by
  unfold State.countCall
  split
  · split
    · exact .ite (.perf h) h
    · exact h
  · exact h

/-! ### Machine/Return -/

theorem finishPly {p : Ply} (h : s.Sound w b) : (s.finishPly p).Sound w b := .outputTriggers (.endPly h)

/-! ### Machine/TempoBit -/

theorem cmp {e : Fin 2} {w' : Bool} {d a b' : Fin 32} {op : (n : Nat) → BitVec n → BitVec n → Bool} (h : s.Sound w b) :
    (s.cmp e w' d a b' op).Sound w b :=
  .regOp h

theorem bitOp {e : Fin 2} {d a : Fin 32} {f : Word64 → Word64} (h : s.Sound w b) : (s.bitOp e d a f).Sound w b := .regOp h

theorem fieldOp {e : Fin 2} {p : Fin 64} {wm1 : Fin 32} {f : Ply → Ply} (h : s.Sound w b) : (s.fieldOp e p wm1 f).Sound w b :=
  .ite (.retire h) (.progOp h)

/-! ### Machine/TempoFp -/

theorem fpu {e : Fin 2} {lo hi : Nat} {dbl : Bool} {d a b' : Fin 32} {op : Fmt → Nat → Nat → Nat} (h : s.Sound w b) :
    (s.fpu e lo hi dbl d a b' op).Sound w b :=
  .regOp (.countOp h)

theorem fpu1 {e : Fin 2} {lo hi : Nat} {dbl : Bool} {d a : Fin 32} {op : Fmt → Nat → Nat} (h : s.Sound w b) :
    (s.fpu1 e lo hi dbl d a op).Sound w b :=
  .regOp (.countOp h)

theorem cvt {e : Fin 2} {d a : Fin 32} {f : Word64 → Word64} (h : s.Sound w b) : (s.cvt e d a f).Sound w b := .regOp (.countOp h)

theorem fcmp {e : Fin 2} {dbl : Bool} {d a b' : Fin 32} {op : Fmt → Nat → Nat → Bool} (h : s.Sound w b) :
    (s.fcmp e dbl d a b' op).Sound w b :=
  .fpu h

/-! ### Machine/TempoSys -/

theorem spendNs {p : Ply} {ns : Nat} (h : s.Sound w b) : (s.spendNs p ns).1.Sound w b := .opDone (.charge (.draw (.switchPs h)))

theorem spendAccess {p : Ply} {a n st : Nat} (h : s.Sound w b) : (s.spendAccess p a n st).1.Sound w b :=
  .ite_fst (.spend h) (.ite_fst (.spend (.perf h)) (.spendNs (.perf h)))

theorem beginFw {p : Ply} {x : FwAccess} (h : s.Sound w b) : (s.beginFw p x).Sound w b := by
  have h1 : ((s.perf (5 + p.engine) 0x0A p.comp).spend p 0 0).1.Sound w b := .spend (.perf h)
  exact .putPly h1

theorem windowRead {p : Ply} {d b' a : Nat} {wide : Bool} (h : s.Sound w b) : (s.windowRead p d b' a wide).1.Sound w b :=
  .ite_fst (.readWords h) h

theorem objRead {e : Fin 2} {d a b' : Fin 32} {wide : Bool} (h : s.Sound w b) : (s.objRead e d a b' wide).Sound w b := by
  unfold State.objRead
  split
  · exact h
  · exact .ite (.beginFw h) (.putPly (.spendAccess (.windowRead h)))

theorem objWriteOp {e : Fin 2} {d a b' : Fin 32} {wide : Bool} (h : s.Sound w b) : (s.objWriteOp e d a b' wide).Sound w b := by
  unfold State.objWriteOp
  split
  · exact h
  · exact .ite (.beginFw h) (.putPly (.spendAccess (.taskWrite h)))

theorem eventOp {e : Fin 2} {d a : Fin 32} (h : s.Sound w b) : (s.eventOp e d a).Sound w b := by
  unfold State.eventOp
  split
  · exact h
  · next p _ =>
    have h1 : (s.spend p 12 12).1.Sound w b := .spend h
    exact .ite (.putPly h1) (.beginFw (.log h))

theorem fwAccessDone {c e k : Nat} (h : s.Sound w b) : (fwAccessDone c e k s).Sound w b := by
  unfold Machine.fwAccessDone
  split
  · exact h
  · dsimp only
    split
    · exact h
    · exact .putPly (.windowRead h)
    · exact .putPly (.taskWrite h)
    · exact .putPly h

/-! ### Machine/TimeStep -/

theorem acrossStep {S d : Nat} (h : s.Sound w b) : (s.acrossStep S d).Sound w b := .rest h

/-- Floor time steps on. -/
theorem acrossStep_floor {S d : Nat} {p : Ptp} (h : s.Sound w b) :
    State.Sound w b { s.acrossStep S d with floorTime := s.floorTime + d, ptp := p } :=
  ⟨h.wf, h.floor.trans (Nat.le_add_right _ _)⟩

theorem stepFloor {S d : Nat} (h : s.Sound w b) : (s.stepFloor S d).Sound w b := by
  unfold State.stepFloor
  exact .logAll (.set1 (.wr (.wr (.wr (.acrossStep_floor (.nextWindow (.nextWindow (.markCycles h))))))))

theorem floorTimeStep (h : s.Sound w b) : (floorTimeStep s).Sound w b := by
  unfold Machine.floorTimeStep
  split
  · exact .ite (.stepFloor h) h
  · exact h

/-! ### Machine/Step -/

theorem idle (h : s.Sound w b) : s.idle.Sound w b := .ite (.advance h) h

end State.Sound
end Sys2Proof.Machine
end

section
/-!
SUPPORT. Every command keeps a state sound, and with it the two invariants (O59, O60).
-/
namespace Sys2Proof.Machine
open Sys2Proof.Claims

namespace State.Sound
variable {w : Prop} {b : Nat} {s t : State}

theorem of_next {o : Host.Outcome State Fault Refusal} {u : State} (he : o = .next t) (h : u.Sound w b) (ho : o = .next u := by rfl) :
    t.Sound w b := by
  rw [ho] at he
  exact Host.Outcome.next.inj he ▸ h

theorem served {code : Nat} {body : Req → State → State × Reply} {f : Frame} {a c d : Bool}
    (hb : ∀ q t, t.Sound w b → (body q t).1.Sound w b) (h : s.Sound w b) (he : Machine.command code body f s a c d = .next t) :
    t.Sound w b :=
  .of_next he (.serve (fun _ _ _ => .noPre) hb h)

theorem bdec {e : Fin 2} {d : Fin 32} {imm : BitVec 21} (h : s.Sound w b) (he : execBdec e d imm s = .next t) : t.Sound w b := by
  refine .of_next he ?_
  split
  · exact h
  · exact .branch h

theorem ret {e : Fin 2} (h : s.Sound w b) (he : execRet e s = .next t) : t.Sound w b := by
  refine .of_next he ?_
  split
  · exact h
  · dsimp only
    split
    · exact .putPly (.spend h)
    · exact .finishPly (.spend h)

theorem wakeOp {e : Fin 2} {d : Fin 32} (h : s.Sound w b) (he : execWake e d s = .next t) : t.Sound w b := by
  refine .of_next he ?_
  split
  · exact h
  · exact .ite (.wake (.regOp h)) (.regOp h)

/-- CMD_BUS_TX_SEND asks for its buffer's transmission after its frame is served. -/
theorem busTxSend_request {f : Frame} (h : s.Sound w b) (he : execCmdBusTxSend f s = .next t) : t.Sound w b := by
  have h1 {u : State} (hu : Machine.command 0x0601 Machine.busTxSend f s true = .next u) : u.Sound w b :=
    .served (fun _ _ => .busTxSend) h hu
  unfold execCmdBusTxSend at he
  rw [command_next] at h1 he
  replace h1 := h1 rfl
  dsimp only at he
  split at he
  · split at he
    · split at he
      · exact .of_next he (.request h1)
      · exact .of_next he h1
    · exact .of_next he h1
  · exact .of_next he h1

/-- Every command keeps a state sound, from M2 on for a mark above 0. -/
theorem exec (hm : b = 0 ∨ 2 ≤ s.mode) (h : s.Sound w b) {i : Instr} (he : exec i s = .next t) : t.Sound w b := by
  have hm' (n : Nat) : b = 0 ∨ 2 ≤ (s.advance n).mode := hm
  cases i with
  | cmdSessionOpen f => exact .of_next he (.serve (fun _ _ _ => .sessionOpenPre) (fun _ _ => .notWhenOpen) h)
  | cmdSessionChallenge f => exact .of_next he (.serve (fun _ _ _ => .sessionChallengePre) (fun _ _ => .sessionChallenge) h)
  | cmdSessionClose f => exact .served (fun _ _ => .sessionClose) h he
  | cmdSessionPing f => exact .served (fun _ _ => .sessionPing) h he
  | cmdSessionResume f => exact .of_next he (.serve (fun _ _ _ => .sessionResumePre) (fun _ _ => .notWhenOpen) h)
  | cmdSessionCancel f => exact .served (fun _ _ => .sessionCancel) h he
  | cmdIdentGet f => exact .of_next he (.serve (fun _ _ _ => .identGetPre) (fun _ _ => .identGet) h)
  | mmpBadHeader f code => exact .of_next he (.mmpBadHeader (.advance h))
  | mmpUndefinedCommand f code => exact .of_next he (.ite h (.serve (fun _ _ _ => .noPre) (fun _ _ => .badCode) h))
  | tlsHandshake hs => exact .of_next he (.tlsHandshake (.advance h))
  | transportLoss conn t => exact .of_next he (.transportLoss (.advance h))
  | sessionIdleTimeout sid t => exact .of_next he (.sessionIdleTimeout (.advance h))
  | sessionDetachExpiry sid t => exact .of_next he (.sessionDetachExpiry (.advance h))
  | noticeHandover sid => exact .of_next he (.handOver h)
  | mbxDbIn src slot => exact .of_next he (.mbxDbIn h)
  | mbxSlotState slot sup port => exact .of_next he (.mbxSlotState h)
  | cmdObjRead f => exact .served (fun _ _ => .objRead_cmd) h he
  | cmdObjWrite f => exact .served (fun _ _ => .objWrite) h he
  | cmdObjGroupRead f => exact .served (fun _ _ => .objGroupRead) h he
  | cmdObjGroupWrite f => exact .served (fun _ _ => .objGroupWrite) h he
  | regWrite who addr value setMask => exact .of_next he (.regWrite h)
  | regReadClear who addr ok setMask => exact .of_next he (.regReadClear h)
  | modeRequest who mode cold => exact .of_next he (.modeWrite h)
  | modeRelease who => exact .of_next he (.modeWrite h)
  | m9LimitExpiry t => exact .of_next he (.m9LimitExpiry (.advance h))
  | powerFail t => exact .of_next he (.failPower (.advance h))
  | bulkLow t => exact .of_next he (.bulkLow (.advance h))
  | pllLockTimeout pll t => exact .of_next he (.pllLockTimeout (.advance h))
  | unitFailure u t => exact .of_next he (.failUnit (.advance h))
  | bootEntry t => exact .of_next he (.bootEntry (.advance h))
  | startupTestDone faults t => exact .of_next he (.startupTestDone (.advance h))
  | promotionWipe failed t => exact .of_next he (.promotionWipe (.advance h))
  | bootComplete t => exact .of_next he (.bootComplete (.advance h))
  | opSecondsTick t => exact .of_next he (.opSecondsTick (.advance h))
  | presencePress t => exact .of_next he (.presencePress (.advance h))
  | presenceWindowOpen t => exact .of_next he (.presenceWindowOpen (.advance h))
  | presenceWindowClose t => exact .of_next he (.presenceWindowClose (.advance h))
  | vbusDetect t => exact .of_next he (.vbusDetect (.advance h))
  | tcpSynWake t => exact .of_next he (.tcpSynWake (.advance h))
  | castStagedRead f => exact .served (fun _ _ => .stagedRead) h he
  | cmdCastCheck f => exact .served (fun _ _ => .castCheck) h he
  | castCheckDone comp t => exact .of_next he (.castCheckDone (.advance h))
  | cmdCastCommit f => exact .served (fun _ _ => .castCommit) h he
  | cmdCastAbort f => exact .served (fun _ _ => .castAbort) h he
  | castArm t => exact .of_next he (.castArm (.advance h))
  | castConfirmDeadline confirmed => exact .of_next he (.castConfirmDeadline h)
  | castInstant t => exact .of_next he (.castInstant (.advance h))
  | castAppliedMark t => exact .of_next he (.castAppliedMark (.advance h))
  | splitLatch t => exact .of_next he (.castSplit (.advance h))
  | tempoBoundary comp e entry t => exact .of_next he (.tempoBoundary (.advance h))
  | skipLimitStop comp e entry t => exact .of_next he (.skipLimitStop (.advance h))
  | budgetWindow e t => exact .of_next he (.budgetWindow (.advance h))
  | budgetSuspension comp e t => exact .of_next he (.budgetSuspension (.advance h))
  | fwAccessDone comp e entry t => exact .of_next he (.fwAccessDone (.advance h))
  | retainedCommit comp t => exact .of_next he (.commitShadow (.advance h))
  | startupComplete comp t => exact .of_next he (.startupComplete (.advance h))
  | stopComplete comp t => exact .of_next he (.stopComplete (.advance h))
  | cmdScanStart f => exact .served (fun _ _ => .cmdScanStart) h he
  | cmdScanStop f => exact .served (fun _ _ => .cmdScanStop) h he
  | cmdScanHold f => exact .served (fun _ _ => .cmdScanHold) h he
  | cmdScanResume f => exact .served (fun _ _ => .cmdScanResume) h he
  | cmdScanStep f => exact .served (fun _ _ => .cmdScanStep) h he
  | cmdScanStatus f => exact .served (fun _ _ => .cmdScanStatus) h he
  | cmdScanImageWrite f => exact .served (fun _ _ => .cmdScanImageWrite) h he
  | cmdScanImageVerify f => exact .served (fun _ _ => .cmdScanImageVerify) h he
  | cmdScanImageDrop f => exact .served (fun _ _ => .cmdScanImageDrop) h he
  | cmdScanExchPlan f => exact .served (fun _ _ => .cmdScanExchPlan) h he
  | cmdScanForceSet f => exact .served (fun _ _ => .cmdScanForceSet) h he
  | cmdScanForceClear f => exact .served (fun _ _ => .cmdScanForceClear) h he
  | cmdScanForceList f => exact .served (fun _ _ => .cmdScanForceList) h he
  | pimgSetWrite who point value t => exact .of_next he (.pimgSetWrite (.advance h))
  | add e w d a b => exact .of_next he (.alu h)
  | sub e w d a b => exact .of_next he (.alu h)
  | mul e w d a b => exact .of_next he (.alu h)
  | mulhs e w d a b => exact .of_next he (.alu h)
  | divs e w d a b => exact .of_next he (.aluDiv h)
  | divu e w d a b => exact .of_next he (.aluDiv h)
  | rem e w d a b => exact .of_next he (.aluDiv h)
  | remu e w d a b => exact .of_next he (.aluDiv h)
  | andd e w d a b => exact .of_next he (.alu h)
  | orr e w d a b => exact .of_next he (.alu h)
  | xorr e w d a b => exact .of_next he (.alu h)
  | shl e w d a b => exact .of_next he (.alu h)
  | shr e w d a b => exact .of_next he (.alu h)
  | sar e w d a b => exact .of_next he (.alu h)
  | mins e w d a b => exact .of_next he (.alu h)
  | maxs e w d a b => exact .of_next he (.alu h)
  | addi e d a imm => exact .of_next he (.regOp h)
  | andi e d a imm => exact .of_next he (.regOp h)
  | ori e d a imm => exact .of_next he (.regOp h)
  | xori e d a imm => exact .of_next he (.regOp h)
  | movi e d imm => exact .of_next he (.regOp h)
  | ldc e d imm => exact .of_next he (.progOp h)
  | fadd e dbl d a b => exact .of_next he (.fpu h)
  | fsub e dbl d a b => exact .of_next he (.fpu h)
  | fmul e dbl d a b => exact .of_next he (.fpu h)
  | fdiv e dbl d a b => exact .of_next he (.fpu h)
  | fsqrt e dbl d a => exact .of_next he (.fpu1 h)
  | fmin e dbl d a b => exact .of_next he (.fpu h)
  | fmax e dbl d a b => exact .of_next he (.fpu h)
  | fabs e dbl d a => exact .of_next he (.fpu1 h)
  | fneg e dbl d a => exact .of_next he (.fpu1 h)
  | i2d e w d a => exact .of_next he (.cvt h)
  | d2i e w d a => exact .of_next he (.cvt h)
  | i2f e w d a => exact .of_next he (.cvt h)
  | f2i e w d a => exact .of_next he (.cvt h)
  | f2d e d a => exact .of_next he (.cvt h)
  | d2f e d a => exact .of_next he (.cvt h)
  | u2d e w d a => exact .of_next he (.cvt h)
  | cmpEq e w d a b => exact .of_next he (.cmp h)
  | cmpNe e w d a b => exact .of_next he (.cmp h)
  | cmpLt e w d a b => exact .of_next he (.cmp h)
  | cmpLe e w d a b => exact .of_next he (.cmp h)
  | cmpLtu e w d a b => exact .of_next he (.cmp h)
  | cmpLeu e w d a b => exact .of_next he (.cmp h)
  | fcmpEq e dbl d a b => exact .of_next he (.fcmp h)
  | fcmpNe e dbl d a b => exact .of_next he (.fcmp h)
  | fcmpLt e dbl d a b => exact .of_next he (.fcmp h)
  | fcmpLe e dbl d a b => exact .of_next he (.fcmp h)
  | fcmpUnord e dbl d a b => exact .of_next he (.fcmp h)
  | btst e d a p => exact .of_next he (.bitOp h)
  | bset e d a p => exact .of_next he (.bitOp h)
  | bclr e d a p => exact .of_next he (.bitOp h)
  | binv e d a p => exact .of_next he (.bitOp h)
  | extu e d a p wm1 => exact .of_next he (.fieldOp h)
  | exts e d a p wm1 => exact .of_next he (.fieldOp h)
  | ins e d a p wm1 => exact .of_next he (.fieldOp h)
  | clz e d a => exact .of_next he (.bitOp h)
  | popc e d a => exact .of_next he (.bitOp h)
  | pld e d a imm => exact .of_next he (.slotOp h)
  | pattr e d a imm => exact .of_next he (.slotOp h)
  | pst e d a imm => exact .of_next he (.slotOp h)
  | pold e d a imm => exact .of_next he (.slotOp h)
  | ildB e d a imm => exact .of_next he (.loadOp h)
  | ildH e d a imm => exact .of_next he (.loadOp h)
  | ildW e d a imm => exact .of_next he (.loadOp h)
  | ildD e d a imm => exact .of_next he (.loadOp h)
  | istB e d a imm => exact .of_next he (.storeOp h)
  | istH e d a imm => exact .of_next he (.storeOp h)
  | istW e d a imm => exact .of_next he (.storeOp h)
  | istD e d a imm => exact .of_next he (.storeOp h)
  | gld e d a imm => exact .of_next he (.loadOp h)
  | gst e d a imm => exact .of_next he (.storeOp h)
  | tmr e d a imm => exact .of_next he (.recordOp h)
  | tmrrd e d a imm => exact .of_next he (.recordOp h)
  | edgr e d a imm => exact .of_next he (.edgeOp h)
  | edgf e d a imm => exact .of_next he (.edgeOp h)
  | edgb e d a imm => exact .of_next he (.edgeOp h)
  | br e imm => exact .of_next he (.branch h)
  | bz e d imm => exact .of_next he (.branch h)
  | bnz e d imm => exact .of_next he (.branch h)
  | btab e a imm => exact .of_next he (.progOp h)
  | fbcall e imm => exact .of_next he (.countCall (.progOp h))
  | fbcallx e a imm => exact .of_next he (.countCall (.progOp h))
  | call e imm => exact .of_next he (.countCall (.progOp h))
  | objrd32 e d a b => exact .of_next he (.objRead h)
  | objrd64 e d a b => exact .of_next he (.objRead h)
  | objwr32 e d a b => exact .of_next he (.objWriteOp h)
  | objwr64 e d a b => exact .of_next he (.objWriteOp h)
  | tbound e d => exact .of_next he (.regOp h)
  | tnow e d => exact .of_next he (.regOp h)
  | plyinfo e d => exact .of_next he (.regOp h)
  | event e d a => exact .of_next he (.eventOp h)
  | utrap e a => exact .of_next he (.progOp h)
  | zeroCrossing set t => exact .of_next he (.zeroCrossing (.advance h))
  | cycleTimeout set t => exact .of_next he (.cycleTimeout (.advance h))
  | pseudoCycleEnd set t => exact .of_next he (.pseudoCycleEnd (.advance h))
  | nmissStart set t => exact .of_next he (.nmissStart (.advance h))
  | nmissEnd set t => exact .of_next he (.nmissEnd (.advance h))
  | latch t => exact .of_next he (.latch (.advance h))
  | sealSign comp t => exact .of_next he (.sealSign (.advance h))
  | energyCommit t => exact .of_next he (.energyCommit (.advance h))
  | settlingEnd ch t => exact .of_next he (.settlingEnd (.advance h))
  | maeCalStart who t => exact .of_next he (.ite (.calStart (.advance h)) (.advance h))
  | maeCalAbort who t => exact .of_next he (.ite (.abortCal (.advance h)) (.advance h))
  | calCaptureEnd t => exact .of_next he (.calCaptureEnd (.advance h))
  | maeWaveStart who t => exact .of_next he (.ite (.waveStart (.advance h)) (.advance h))
  | waveRecordDone t => exact .of_next he (.waveRecordDone (.advance h))
  | pulseStart n t => exact .of_next he (.pulseStart (.advance h))
  | pulseWidthEnd n t => exact .of_next he (.pulseWidthEnd (.advance h))
  | cmdMtrSealRead f => exact .served (fun _ _ => .mtrSealRead) h he
  | cmdMtrSealAck f => exact .served (fun _ _ => .mtrSealAck) h he
  | canRxFrame port fr t => exact .of_next he (.canRxFrame (.advance h))
  | canRxError port ev t => exact .of_next he (.canRxError (.advance h))
  | canTxSuccess port t => exact .of_next he (.canTxSuccess (.advance h))
  | canTxError port ev t => exact .of_next he (.canTxError (.advance h))
  | canArbLost port t => exact .of_next he (.canArbLost (.advance h))
  | recoveryDelayExpiry port t => exact .of_next he (.recoveryDelayExpiry (.advance h))
  | recoveryEnd port t => exact .of_next he (.recoveryEnd (.advance h))
  | txreq who port buf t => exact .of_next he (.txreq (.advance h))
  | txCancel who port buf t => exact .of_next he (.txCancel (.advance h))
  | txPeriodTrigger port buf t => exact .of_next he (.txPeriodTrigger (.advance h))
  | fifoPop who port k n t => exact .of_next he (.fifoPop (.advance h))
  | canWakePattern port t => exact .of_next he (.canWakePattern (.advance h))
  | cmdBusRxRead f => exact .served (fun _ _ => .busRxRead) h he
  | cmdBusTxCancel f => exact .served (fun _ _ => .busTxCancel) h he
  | cmdBusRecover f => exact .served (fun _ _ => .busRecover) h he
  | cmdBusRangeList f => exact .served (fun _ _ => .busRangeList) h he
  | ethFrameRx fr t => exact .of_next he (.ethFrameRx (.advance h))
  | linkChange cage up t => exact .of_next he (.linkChange (.advance h))
  | lanTimeout cage t => exact .of_next he (.lanTimeout (.advance h))
  | prpSupervision t => exact .of_next he (.prpSupervision (.advance h))
  | addressAgeing mac vid t => exact .of_next he (.addressAgeing (.advance h))
  | sfpInsert cage m t => exact .of_next he (.sfpInsert (.advance h))
  | ptpSync sync t => exact .of_next he (.ptpSync (.advance h))
  | ptpSyncTimeout t => exact .of_next he (.ptpSyncTimeout (.advance h))
  | gmRetry t => exact .of_next he (.gmRetry (.advance h))
  | floorTimeStep t => exact .of_next he (.floorTimeStep (.advance h))
  | bacnetRequest rq t => exact .of_next he (.bacnetRequest (.advance h))
  | mqttMessage msg t => exact .of_next he (.mqttMessage (.advance h))
  | covNotify entry t => exact .of_next he (.covNotify (.advance h))
  | lbxPollDue map t => exact .of_next he (.lbxPollDue (.advance h))
  | lbxTransactionStart port t => exact .of_next he (.lbxTransactionStart (.advance h))
  | lbxAnswer port ans t => exact .of_next he (.lbxAnswer (.advance h))
  | lbxTimeout port t => exact .of_next he (.lbxTimeout (.advance h))
  | daliEvent port ev t => exact .of_next he (.daliEvent (.advance h))
  | mbusOverload port t => exact .of_next he (.mbusOverload (.advance h))
  | mbusOverloadRestore port t => exact .of_next he (.mbusOverloadRestore (.advance h))
  | cmdLbxDaliAddress f => exact .served (fun _ _ => .lbxDaliAddress) h he
  | cmdLbxMbusScan f => exact .served (fun _ _ => .lbxMbusScan) h he
  | cmdTimeGet f => exact .served (fun _ _ => .timeGet) h he
  | cmdTimeSet f => exact .served (fun _ _ => .timeSet) h he
  | calendarSetApply t => exact .of_next he (.calendarSetApply (.advance h))
  | cmdTimeShift f => exact .served (fun _ _ => .timeShift) h he
  | shiftDone t => exact .of_next he (.shiftDone (.advance h))
  | alarmFire aa t => exact .of_next he (.alarmFire (.advance h))
  | calendarRollover t => exact .of_next he (.calendarRollover (.advance h))
  | timeCfgWrite who value t => exact .of_next he (.ite (.writeTimeCfg (.advance h)) (.advance h))
  | ptpCalendarCheck t => exact .of_next he (.ptpCalendarCheck (.advance h))
  | timeCorrCapture who t => exact .of_next he (.ite (.correlate (.advance h)) (.advance h))
  | timeCorrAuto t => exact .of_next he (.timeCorrAuto (.advance h))
  | rtcGroupRead who addr t => exact .of_next he (.ite (.readRtc (.advance h)) (.advance h))
  | rtcFreezeTimeout who t => exact .of_next he (.rtcFreezeTimeout (.advance h))
  | evrRecordWrite t => exact .of_next he (.evrRecordWrite (.advance h))
  | watchEval comp t => exact .of_next he (.watchEval (.advance h))
  | watchHoldoffEnd comp tt t => exact .of_next he (.watchHoldoffEnd (.advance h))
  | evrRecRead who word => exact .of_next he (.evrRecRead h)
  | cmdEvtRead f => exact .served (fun _ _ => .evtRead) h he
  | cmdEvtSubscribe f => exact .served (fun _ _ => .evtSubscribe) h he
  | cmdEvtWipe f => exact .served (fun _ _ => .evtWipe) h he
  | cmdKeyUpdate f => exact .served (fun _ _ => .keyUpdate) h he
  | kumApply t => exact .of_next he (.kumApply (.advance h))
  | cmdKeyAttest f => exact .served (fun _ _ => .keyAttest) h he
  | cmdKeyCertify f => exact .served (fun _ _ => .keyCertify) h he
  | cmdKeyAuthoritySet f => exact .served (fun _ _ => .keyAuthoritySet) h he
  | cmdLcyPromote f => exact .served (fun _ _ => .lcyPromote) h he
  | cmdLcySealAck f => exact .served (fun _ _ => .lcySealAck) h he
  | cmdLcyUsbEnable f => exact .served (fun _ _ => .lcyUsbEnable) h he
  | cmdLcyUsbDisable f => exact .served (fun _ _ => .lcyUsbDisable) h he
  | usbEnableExpiry t => exact .of_next he (.usbEnableExpiry (.advance h))
  | cmdLcyRetireStatement f => exact .served (fun _ _ => .lcyRetireStatement) h he
  | cmdLcyDebugChallenge f => exact .served (fun _ _ => .lcyDebugChallenge) h he
  | cmdLcyDebugUnlock f => exact .served (fun _ _ => .lcyDebugUnlock) h he
  | lcyD1EnWrite who value t => exact .of_next he (.ite (.writeD1 (.advance h)) (.advance h))
  | sealBreak t => exact .of_next he (.sealBreak (.advance h))
  | configLockChange fitted t => exact .of_next he (.configLockChange (.advance h))
  | debugProbeFit t => exact .of_next he (.debugProbeFit (.advance h))
  | debugSysrst t => exact .of_next he (.debugSysrst (.advance h))
  | debugHalt halt t => exact .of_next he (.debugHalt (.advance h))
  | cmdUpdOpen f => exact .served (fun _ _ => .updOpen) h he
  | cmdUpdBlock f => exact .served (fun _ _ => .updBlock) h he
  | cmdUpdStatus f => exact .served (fun _ _ => .updStatus) h he
  | cmdUpdVerify f => exact .served (fun _ _ => .updVerify) h he
  | cmdUpdAbort f => exact .served (fun _ _ => .updAbortCmd) h he
  | cmdUpdActivate f => exact .served (fun _ _ => .updActivate) h he
  | cmdUpdConfirm f => exact .served (fun _ _ => .updConfirm) h he
  | cmdUpdFallback f => exact .served (fun _ _ => .updFallback) h he
  | cmdUpdRecoveryEnter f => exact .served (fun _ _ => .updRecoveryEnter) h he
  | updOwnerTimeout t => exact .of_next he (.updOwnerTimeout (.advance h))
  | updActivation t => exact .of_next he (.updActivation (.advance h))
  | updStepDone version t => exact .of_next he (.updStepDone (.advance h))
  | updStepTimeout t => exact .of_next he (.updStepTimeout (.advance h))
  | updReset t => exact .of_next he (.updReset (.advance h))
  | trialExpiry t => exact .of_next he (.trialExpiry (.advance h))
  | bootResumeTimeout t => exact .of_next he (.bootResumeTimeout (.advance h))
  | adjournExpiry t => exact .of_next he (.adjournExpiry (.advance h))
  | updSealedMove who value t => exact .of_next he (.updSealedMove (.advance h))
  | recoveryBeacon t => exact .of_next he (.recoveryBeacon (.advance h))
  | recoveryIdleExit t => exact .of_next he (.recoveryIdleExit (.advance h))
  | eccUe mem bank off t => exact .of_next he (.eccUe (.advance h))
  | scrub t => exact .of_next he (.scrub (.advance h))
  | cmdDiagMteRun f => exact .served (fun _ _ => .mteRun) h he
  | cmdDiagMteAbort f => exact .served (fun _ _ => .mteAbort) h he
  | mteTestDone rows t => exact .of_next he (.mteTestDone (.advance h))
  | pmonRun who on t => exact .of_next he (.ite (.pmonSetRun (.advance h)) (.advance h))
  | pmonFreeze who t => exact .of_next he (.ite (.freeze (.advance h)) (.advance h))
  | pmonArm who t => exact .of_next he (.ite (.pmonSetArm (.advance h)) (.advance h))
  | pmonArmedFreeze t => exact .of_next he (.armedFreeze (.advance h))
  | pmonDumpEn who on t => exact .of_next he (.ite (.pmonSetDump (.advance h)) (.advance h))
  | pmonDump t => exact .of_next he (.pmonDump (.advance h))
  | pmonSampEn who on t => exact .of_next he (.ite (.pmonSetSamp (.advance h)) (.advance h))
  | pmonSample e t => exact .of_next he (.pmonSample (.advance h))
  | cmdDiagPmonFreeze f => exact .served (fun _ _ => .cmdPmonFreeze) h he
  | cmdDiagPmonDumpRead f => exact .served (fun _ _ => .cmdPmonDumpRead) h he
  | cmdDiagPmonSampleRead f => exact .served (fun _ _ => .cmdPmonSampleRead) h he
  | agmMeasureDue m t => exact .of_next he (.agmMeasureDue (.advance h))
  | holdupTest t => exact .of_next he (.holdupTest (.advance h))
  | agmReplanRetry t => exact .of_next he (.agmReplanRetry (.advance h))
  | cmdDiagAgmMeasure f => exact .served (fun _ _ => .agmMeasureCmd) h he
  | cmdDiagAgmReplan f => exact .served (fun _ _ => .agmReplanCmd) h he
  | captureHoldEnd t => exact .of_next he (.captureHoldEnd (.advance h))
  | sampleInstant codes t => exact .of_next he (.sampleInstant (.advance h))
  | busIntegration port t => exact .of_next he (.busIntegration (.advance h))
  | protocolException port t => exact .of_next he (.protocolException (.advance h))
  | nodeForgetTime mac t => exact .of_next he (.nodeForgetTime (.advance h))
  | mstpFrame port fr t => exact .of_next he (.mstpFrame (.advance h))
  | sealLoopIntact t => exact .of_next he (.sealLoopIntact (.advance h))
  | presenceRelease t => exact .of_next he (.presenceRelease (.advance h))
  | backupDomainDip t => exact .of_next he (.backupDomainDip (.advance h))
  | updVerifyDone t => exact .of_next he (.updVerifyDone (.advance h))
  | agmMeasurementEnd m t => exact .of_next he (.agmMeasurementEnd (.advance h))
  | modeTransitionDone t => exact .of_next he (.modeTransitionDone (hm' _) (.advance h))
  | powerFailCommitEnd t stages bulkLow returned => exact .of_next he (.powerFailCommitEnd (hm' _) (.advance h))
  | mainReturn t => exact .of_next he (.mainReturn (hm' _) (.advance h))
  | bdec e d imm => exact .bdec h he
  | ret e => exact .ret h he
  | wake e d => exact .wakeOp h he
  | cmdBusTxSend f => exact .busTxSend_request h he

/-- A step keeps a state sound, from M2 on for a mark above 0. -/
theorem step (hm : b = 0 ∨ 2 ≤ s.mode) (h : s.Sound w b) (hs : step s = .next t) : t.Sound w b := by
  cases hp : s.pending with
  | nil =>
    rw [step_nil s hp] at hs
    exact .of_next hs (.idle h)
  | cons c r =>
    rw [step_cons s c r hp] at hs
    exact .exec (s := { s with pending := r }) hm (.rest h) hs

end State.Sound
end Sys2Proof.Machine

namespace Sys2Proof.Proofs
open Sys2Proof.Machine

/-- Settles O59: canonical fields are kept from every mode, the mark of floor time being 0. -/
theorem cellsKept : Obligations.CellsKept := by
  unfold Obligations.CellsKept
  intro s t hwf hs
  have h : s.Sound True 0 := ⟨fun _ => hwf, Nat.zero_le _⟩
  exact (h.step (.inl rfl) hs).wf trivial

/-- Settles O60: the mark is the floor time before the step. -/
theorem floorTimeNeverDecreases : Obligations.FloorTimeNeverDecreases := by
  unfold Obligations.FloorTimeNeverDecreases
  intro s t hm hs
  have h : s.Sound False s.floorTime := ⟨False.elim, Nat.le_refl _⟩
  exact (State.Sound.step (.inr hm) h hs).floor

end Sys2Proof.Proofs
end

section
/-!
SUPPORT. Serving a frame, case by case of Table 3-7, and what an answer leaves alone.
-/
namespace Sys2Proof.Machine
open Sys2Proof.Claims

/-! ### The state a frame arrives in -/

/-- The state as a frame arrives: floor time and, in M4, the instant of the last frame. -/
def State.arrived (s : State) (f : Frame) : State :=
  { s.advance f.arrival with upd := if s.mode = 4 then { s.upd with lastFrame := f.arrival } else s.upd }

theorem State.arrived_eq (s : State) (f : Frame) :
    (if (s.advance f.arrival).mode = 4 then
      { s.advance f.arrival with upd := { (s.advance f.arrival).upd with lastFrame := f.arrival } } else s.advance f.arrival) = s.arrived f := by
  have hmode : (s.advance f.arrival).mode = s.mode := rfl
  unfold State.arrived
  rw [hmode]
  split
  · rfl
  · rfl

theorem State.connOf_id {s : State} {n : Nat} {k : Conn} (h : s.connOf n = some k) : k.id = n := by
  have hfind {m : Nat} {l : List Conn} {k : Conn} (hk : l.find? (fun c => c.id == m) = some k) : k.id = m := by
    simpa using List.find?_some hk
  unfold State.connOf at h
  split at h
  · next hn =>
    split at h
    · cases hf : s.conns.find? fun c => c.id == 0 with
      | none => rw [hf] at h; cases h; exact hn.symm
      | some c => rw [hf] at h; cases h; exact (hfind hf).trans hn.symm
    · cases h
  · exact hfind h

/-! ### What an answer leaves alone -/

theorem untouched_arrived (s : State) (f : Frame) : Untouched s (s.arrived f) := ⟨rfl, rfl, rfl, rfl, rfl, rfl, rfl, rfl⟩

end Sys2Proof.Machine

namespace Sys2Proof.Claims.Untouched
open Sys2Proof.Machine
variable {s t : State}

theorem perf (h : Untouched s t) {u ev c n : Nat} : Untouched s (t.perf u ev c n) := by rw [State.perf_eq]; exact h

theorem putSession (h : Untouched s t) {x : Session} : Untouched s (t.putSession x) := h

theorem putConn (h : Untouched s t) {c : Conn} : Untouched s (t.putConn c) := h

theorem respond (h : Untouched s t) {conn comp seq cmd st : Nat} {p : Bytes} : Untouched s (t.respond conn comp seq cmd st p) := by
  rw [State.respond_eq]; exact h

theorem closeConn (h : Untouched s t) {conn n : Nat} : Untouched s (t.closeConn conn n) := h

theorem finalTo (h : Untouched s t) {sid seq cmd st : Nat} {p : Bytes} {w : Bool} : Untouched s (t.finalTo sid seq cmd st p w) := by
  rw [State.finalTo_eq]; exact h

end Sys2Proof.Claims.Untouched

namespace Sys2Proof.Machine
open Sys2Proof.Claims

theorem State.respond_sent (s : State) (conn comp seq cmd st : Nat) (p : Bytes) :
    (s.respond conn comp seq cmd st p).sent = s.sent ++ [.resp conn comp seq cmd st p] := by rw [State.respond_eq]

theorem State.respond_sessions (s : State) (conn comp seq cmd st : Nat) (p : Bytes) :
    (s.respond conn comp seq cmd st p).sessions = s.sessions := by rw [State.respond_eq]

/-! ### Finding a session again -/

/-- A session put back under its identifier is found there. -/
theorem State.session_putSession {s : State} {x y : Session} (h : s.session y.id = some x) : (s.putSession y).session y.id = some y := by
  unfold State.session State.putSession at *
  dsimp only
  generalize s.sessions = l at h ⊢
  induction l with
  | nil => cases h
  | cons z l ih =>
    rw [List.map_cons]
    by_cases hz : z.id = y.id
    · rw [if_pos hz]
      exact List.find?_cons_of_pos (by simp)
    · have hb : ¬ (z.id == y.id) = true := by simpa using hz
      rw [List.find?_cons_of_neg (l := l) hb] at h
      rw [if_neg hz, List.find?_cons_of_neg (p := fun w : Session => w.id == y.id) hb]
      exact ih h

theorem State.session_congr {s t : State} (h : t.sessions = s.sessions) (n : Nat) : t.session n = s.session n := by
  unfold State.session
  rw [h]

/-! ### The cases of Table 3-7 -/

section
variable {s : State} {c : CmdSpec} {f : Frame} {pre : PreBody} {body : Req → State → State × Reply} {k : Conn}

theorem State.serve_judged (hr : Reaches s f k) : s.serve c f pre body =
    match f.judge k.usb with
    | .closeTcp => (s.arrived f).closeConn f.conn f.arrival
    | .bad st p => (s.arrived f).respond f.conn (match s.sessionOn f.conn with | some x => x.comp | none => 0xFF) f.seq.toNat c.code st p
    | .good =>
      match s.sessionOn f.conn with
      | none => (s.arrived f).preOpen c k f pre
      | some x =>
        let s1 := (s.arrived f).putSession { x with lastFrame := f.arrival }
        if f.comp.toNat ≠ x.comp then s1.respond f.conn x.comp f.seq.toNat c.code St.noSession []
        else s1.sessionFrame c { x with lastFrame := f.arrival } f body := by
  obtain ⟨hserves, hconn⟩ := hr
  have hid := State.connOf_id hconn
  have hserves' : (s.arrived f).serves = true := hserves
  have hconn' : (s.arrived f).connOf f.conn = some k := hconn
  unfold State.serve
  simp only [State.arrived_eq, hserves', hconn', hid, Bool.not_true, Bool.false_eq_true, if_false]
  rfl

/-- A request of the session's compartment that begins no segments and follows none. -/
theorem State.serve_session {x : Session} (hr : Reaches s f k) (hj : f.judge k.usb = .good) (hx : s.sessionOn f.conn = some x)
    (hc : f.comp.toNat = x.comp) (hp : x.partialReq = none) : s.serve c f pre body =
      ((s.arrived f).putSession { x with lastFrame := f.arrival }).newRequest c { x with lastFrame := f.arrival } f body := by
  rw [State.serve_judged hr]
  simp only [hj, hx, hc, ne_eq, not_true, if_false, State.sessionFrame, hp]

end

/-! ### The commands of hosts -/

/-- A command that a host sends serves its frame; what CMD_BUS_TX_SEND adds needs a request that waits. -/
theorem exec_mmp {i : Instr} {code : Nat} {f : Frame} (h : mmp i = some (code, f)) :
    ∃ (c : CmdSpec) (pre : PreBody) (body : Req → State → State × Reply), c.code = code ∧ c.preOpen = beforeOpen code ∧
      ∀ s, (s.serve c f pre body).waiters = s.waiters → exec i s = .next (s.serve c f pre body) := by
  cases i
  case cmdBusTxSend f =>
    cases h
    refine ⟨{ code := 0x0601, cancellable := true }, noPre, busTxSend, rfl, rfl, fun s hw => ?_⟩
    show execCmdBusTxSend f s = _
    unfold execCmdBusTxSend
    simp only [command_next]
    rw [if_neg (by rw [hw]; exact Nat.lt_irrefl _)]
  all_goals cases h
  all_goals exact ⟨_, _, _, rfl, rfl, fun s _ => rfl⟩

/-- A property of every frame served without a trace of its command holds of every command of hosts. -/
theorem completes_mmp {i : Instr} {code : Nat} {f : Frame} {s : State} {post : State → Prop} (h : mmp i = some (code, f))
    (hs : ∀ (c : CmdSpec) (pre : PreBody) (body : Req → State → State × Reply), c.code = code → c.preOpen = beforeOpen code →
      Untouched s (s.serve c f pre body) ∧ post (s.serve c f pre body)) :
    Completes i s fun t => Untouched s t ∧ post t := by
  obtain ⟨c, pre, body, hc, hp, hexec⟩ := exec_mmp h
  obtain ⟨hu, ht⟩ := hs c pre body hc hp
  obtain ⟨hr, hsc, hca, hst, hw, hrest⟩ := hu
  exact ⟨_, hexec s hw, ⟨hr, hsc, hca, hst, hw, hrest⟩, ht⟩

end Sys2Proof.Machine

namespace Sys2Proof.Proofs
open Sys2Proof.Machine Sys2Proof.Claims

/-- Settles O17: each refusal is one case of `serve`, for whichever command. -/
theorem framesRefused : Obligations.FramesRefused := by
  unfold Obligations.FramesRefused
  intro i code f s k hi hr
  have hu (x : Session) : Untouched s ((s.arrived f).putSession { x with lastFrame := f.arrival }) := (untouched_arrived s f).putSession
  refine ⟨fun st p hj => ?bad, fun hj => ?close, fun hj hx hb => ?noSession, fun x hj hx hc => ?comp,
    fun x hj hx hc hp hseq hw => ?seq, fun x e hj hx hc hp hseq hw hretry => ⟨fun hd => ?pending, fun hd hca => ?cached⟩,
    fun x hj hx hc hp hseq => ⟨fun ho => ?full, fun ho hg => ?seg⟩, fun x hj hx hxi hc hp hseq ho hg hm hl => ?first⟩
  case bad =>
    refine completes_mmp hi fun c pre body hcode _ => ?_
    rw [State.serve_judged hr]
    simp only [hj, hcode]
    exact ⟨(untouched_arrived s f).respond, State.respond_sent _ _ _ _ _ _ _⟩
  case close =>
    refine completes_mmp hi fun c pre body hcode _ => ?_
    rw [State.serve_judged hr]
    simp only [hj]
    refine ⟨(untouched_arrived s f).closeConn, rfl, fun c hc => by simpa using (List.mem_filter.mp hc).2, fun x hx => ?_⟩
    obtain ⟨y, -, rfl⟩ := List.mem_map.mp hx
    split
    · exact fun h => nomatch h
    · next h => exact h
  case noSession =>
    refine completes_mmp hi fun c pre body hcode hpre => ?_
    rw [State.serve_judged hr]
    simp only [hj, hx, State.preOpen, hpre, hb, Bool.not_false, if_true, hcode]
    rw [State.connOf_id hr.2]
    exact ⟨(untouched_arrived s f).respond, State.respond_sent _ _ _ _ _ _ _⟩
  case comp =>
    refine completes_mmp hi fun c pre body hcode _ => ?_
    rw [State.serve_judged hr]
    simp only [hj, hx, hc, ne_eq, not_false_eq_true, if_true, hcode]
    exact ⟨(hu x).respond, State.respond_sent _ _ _ _ _ _ _⟩
  case seq =>
    refine completes_mmp hi fun c pre body hcode _ => ?_
    rw [State.serve_session hr hj hx hc hp]
    unfold State.newRequest
    simp only [hseq, ne_eq, not_false_eq_true, if_true, hcode]
    split
    · next e he =>
      rw [hw e he, if_neg Bool.false_ne_true]
      exact ⟨(hu x).respond, State.respond_sent _ _ _ _ _ _ _⟩
    · exact ⟨(hu x).respond, State.respond_sent _ _ _ _ _ _ _⟩
  case pending =>
    refine completes_mmp hi fun c pre body hcode _ => ?_
    rw [State.serve_session hr hj hx hc hp]
    simp only [State.newRequest, hseq, ne_eq, not_false_eq_true, if_true, hw, hretry, State.retryReq, hd, Bool.not_false]
    exact ⟨(hu x).respond, State.respond_sent _ _ _ _ _ _ _⟩
  case cached =>
    refine completes_mmp hi fun c pre body hcode _ => ?_
    rw [State.serve_session hr hj hx hc hp]
    simp only [State.newRequest, hseq, ne_eq, not_false_eq_true, if_true, hw, hretry, State.retryReq, hd, hca, Bool.not_true,
      Bool.false_eq_true, if_false]
    exact ⟨(hu x).respond, State.respond_sent _ _ _ _ _ _ _⟩
  case full =>
    refine completes_mmp hi fun c pre body hcode _ => ?_
    rw [State.serve_session hr hj hx hc hp]
    have ho' : ((s.arrived f).putSession { x with lastFrame := f.arrival }).outstanding { x with lastFrame := f.arrival } ≥ 8 := ho
    simp only [State.newRequest, hseq, ne_eq, not_true, if_false, ho', if_true, hcode]
    exact ⟨(hu x).respond, (State.respond_sent _ _ _ _ _ _ _).trans (by rw [← hseq]; rfl)⟩
  case seg =>
    refine completes_mmp hi fun c pre body hcode _ => ?_
    rw [State.serve_session hr hj hx hc hp]
    have ho' : ¬ ((s.arrived f).putSession { x with lastFrame := f.arrival }).outstanding { x with lastFrame := f.arrival } ≥ 8 :=
      Nat.not_le.mpr ho
    simp only [State.newRequest, hseq, ne_eq, not_true, if_false, ho', hg, not_false_eq_true, if_true, hcode]
    exact ⟨(hu x).respond, (State.respond_sent _ _ _ _ _ _ _).trans (by rw [← hseq]; rfl)⟩
  case first =>
    refine completes_mmp hi fun c pre body hcode _ => ?_
    rw [State.serve_session hr hj hx hc hp]
    have ho' : ¬ ((s.arrived f).putSession { x with lastFrame := f.arrival }).outstanding { x with lastFrame := f.arrival } ≥ 8 :=
      Nat.not_le.mpr ho
    have hl' : f.length.toNat = maxPayload := hl
    simp only [State.newRequest, hseq, ne_eq, not_true, if_false, ho', hg, hm, hl', if_true, hcode]
    have h1 : ((s.arrived f).putSession { x with lastFrame := f.arrival }).session x.id = some { x with lastFrame := f.arrival } :=
      State.session_putSession (s := s.arrived f) (y := { x with lastFrame := f.arrival }) hxi
    refine ⟨((hu x).perf).putSession, State.perf_sent _ _ _ _ _, _,
      State.session_putSession (x := { x with lastFrame := f.arrival }) ?_, rfl, rfl⟩
    exact (State.session_congr (State.perf_sessions _ _ _ _ _) _).trans h1

end Sys2Proof.Proofs
end

section
/-!
SUPPORT. What a write, an event and the end of a wait leave alone.
-/
namespace Sys2Proof.Claims
open Sys2Proof.Machine

/-! ### Kept fields -/

theorem Kept.of_regs {s t : State} {l : List Fld} (h : t.regs = s.regs) : Kept l s t := fun g _ => State.rd_congr h g

theorem Kept.trans {s t u : State} {l : List Fld} (h : Kept l s t) (k : Kept l t u) : Kept l s u :=
  fun g hg => (k g hg).trans (h g hg)

theorem Kept.mono {s t : State} {l m : List Fld} (h : Kept l s t) (k : ∀ f ∈ l, f ∈ m) : Kept m s t :=
  fun g hg => h g fun f hf => hg f (k f hf)

theorem Kept.wr {s t : State} {l : List Fld} (h : Kept l s t) {f : Fld} {v : Nat} (hf : f ∈ l) : Kept l s (t.wr f v) :=
  fun g hg => (State.rd_wr_ne _ _ _ _ (hg f hf)).trans (h g hg)

/-- A write of one field to a state with the same stored fields. -/
theorem OneField.wr {s t : State} {f : Fld} {v w : Nat} (h : t.regs = s.regs) (hv : w % 2 ^ f.width = v) : OneField s (t.wr f w) f v :=
  ⟨(State.rd_wr_self _ _ _).trans hv, (Kept.of_regs h).wr (List.mem_singleton.mpr rfl)⟩

/-- What follows from the one state an instruction leads to. -/
theorem Completes.of_exec {i : Instr} {s t : State} {post : State → Prop} (h : exec i s = .next t) (hp : post t) : Completes i s post := ⟨t, h, hp⟩

theorem Logged.of_prefix {s t u : State} {c trigger : Nat} {d : Bytes} (h : Logged s t c trigger d) (hp : t.evr.pend <+: u.evr.pend) :
    Logged s u c trigger d := by
  intro hf he hr
  obtain ⟨l, e, m, ht, hc, htr, hd⟩ := h hf he hr
  obtain ⟨r, hr'⟩ := hp
  exact ⟨l, e, m ++ r, by rw [← hr', ht]; simp, hc, htr, hd⟩

end Sys2Proof.Claims

namespace Sys2Proof.Machine
open Sys2Proof.Claims

/-! ### Events -/

/-- No event of any compartment is counted in this field (R351). -/
def unlogged (g : Fld) : Bool :=
  g.key % 2 ^ 40 != (Obj.EVR_DROPPED.b 0).key && g.key % 2 ^ 40 != (Obj.EVR_EVT_DROPPED.b 0).key

/-- A state after some events, at most `n` of them queued: the recorder, and the counts of events dropped, are all that changed. -/
structure Raised (n : Nat) (s t : State) : Prop where
  eq : t = { s with evr := t.evr, regs := t.regs }
  rd : ∀ g, unlogged g = true → t.rd g = s.rd g
  pend : s.evr.pend <+: t.evr.pend
  room : t.evr.pend.length ≤ s.evr.pend.length + n

theorem Raised.refl (s : State) : Raised 0 s s := ⟨rfl, fun _ _ => rfl, List.prefix_refl _, Nat.le_refl _⟩

theorem Raised.trans {n m : Nat} {s t u : State} (h : Raised n s t) (k : Raised m t u) : Raised (n + m) s u := by
  refine ⟨?_, fun g hg => (k.rd g hg).trans (h.rd g hg), h.pend.trans k.pend, by have := h.room; have := k.room; omega⟩
  rw [k.eq, h.eq]

theorem dropped_key (c : Nat) : (Obj.EVR_DROPPED.b c).key = c * 2 ^ 40 + (Obj.EVR_DROPPED.b 0).key := by
  simp [Fld.key, Row.b, Row.at, Obj.EVR_DROPPED]

theorem evtDropped_key (c : Nat) : (Obj.EVR_EVT_DROPPED.b c).key = c * 2 ^ 40 + (Obj.EVR_EVT_DROPPED.b 0).key := by
  simp [Fld.key, Row.b, Row.at, Obj.EVR_EVT_DROPPED]

theorem unlogged_ne_dropped {g : Fld} (h : unlogged g = true) (c : Nat) :
    (Obj.EVR_DROPPED.b c).key ≠ g.key ∧ (Obj.EVR_EVT_DROPPED.b c).key ≠ g.key := by
  have h1 : (Obj.EVR_DROPPED.b 0).key < 2 ^ 40 := by decide
  have h2 : (Obj.EVR_EVT_DROPPED.b 0).key < 2 ^ 40 := by decide
  simp only [unlogged, Bool.and_eq_true, bne_iff_ne] at h
  rw [dropped_key, evtDropped_key]
  omega

theorem State.enqueue_raised (s : State) (c : Nat) (r : EvRec) : Raised 1 s (s.enqueue c r) := by
  refine ⟨State.enqueue_eq s c r, fun g hg => ?_, ?_, ?_⟩ <;> unfold State.enqueue <;> split
  · rfl
  · obtain ⟨h1, h2⟩ := unlogged_ne_dropped hg c
    exact (State.rd_wr_ne _ _ _ _ h2).trans (State.rd_wr_ne _ _ _ _ h1)
  · exact List.prefix_append _ _
  · exact List.prefix_refl _
  · exact Nat.le_of_eq (by simp)
  · exact Nat.le_succ _

theorem State.log_raised (s : State) (c trigger : Nat) (d : Bytes) (summary : Bool) (list : Option Nat) :
    Raised 1 s (s.log c trigger d summary list) := by
  unfold State.log
  split
  · exact ⟨rfl, fun _ _ => rfl, List.prefix_refl _, Nat.le_succ _⟩
  · exact State.enqueue_raised s c _

theorem State.logAll_raised (s : State) (cs : List Nat) (trigger : Nat) (d : Bytes) (summary : Bool) :
    Raised cs.length s (s.logAll cs trigger d summary) := by
  unfold State.logAll
  induction cs generalizing s with
  | nil => exact Raised.refl s
  | cons c cs ih =>
    rw [List.foldl_cons, List.length_cons, Nat.add_comm]
    exact (State.log_raised s c trigger d summary none).trans (ih _)

theorem Raised.failed {n : Nat} {s t : State} (h : Raised n s t) (u : Nat) : t.failed u = s.failed u := by
  unfold State.failed
  rw [h.rd _ (by decide)]

theorem Raised.exists? {n : Nat} {s t : State} (h : Raised n s t) (c : Nat) : t.exists? c = s.exists? c := by
  unfold State.exists?
  rw [h.rd _ (by decide)]

theorem Raised.mode {n : Nat} {s t : State} (h : Raised n s t) : t.mode = s.mode := h.rd _ (by decide)

/-- An event is queued while fewer records wait than entries are reserved for its compartment (R351). -/
theorem State.log_pend {s : State} {c trigger : Nat} {d : Bytes} (hf : s.failed 10 = false) (he : s.exists? c = true)
    (hr : s.evr.pend.length < reservedFor c) :
    (s.log c trigger d).evr.pend = s.evr.pend ++ [⟨c, false, s.eventRecord c trigger d false none⟩] := by
  have hroom : s.queueRoom c = some false := by
    have hheld : s.heldBy c false < reservedFor c := Nat.lt_of_le_of_lt (List.length_filter_le _ _) hr
    unfold State.queueRoom
    rw [if_pos hheld]
  rw [State.log_queued s c trigger d false none false (by rw [hf, he]; rfl) hroom]

/-- The event is queued, where few records wait and nothing that its queueing depends on changed before. -/
theorem logged_log {s a : State} {c trigger : Nat} {d : Bytes} (hf : a.failed 10 = s.failed 10) (he : a.exists? c = s.exists? c)
    (hp : s.evr.pend <+: a.evr.pend) (hl : a.evr.pend.length ≤ s.evr.pend.length + 8) : Logged s (a.log c trigger d) c trigger d := by
  intro hfail hex hroom
  obtain ⟨l, hl'⟩ := hp
  have hres : 16 ≤ reservedFor c := by unfold reservedFor; split <;> omega
  refine ⟨l, ⟨c, false, a.eventRecord c trigger d false none⟩, [], ?_, rfl, rfl, rfl⟩
  rw [State.log_pend (hf.trans hfail) (he.trans hex) (by omega), ← hl']

theorem State.exists?_low (s t : State) {c : Nat} (h : c < 2) : s.exists? c = t.exists? c := by
  have h34 : c < 34 := by omega
  simp [State.exists?, h, h34]

/-- One event for the logs of C00 and C01. -/
theorem logged_logAll {s a : State} {trigger : Nat} {d : Bytes} (hf : a.failed 10 = s.failed 10)
    (hp : s.evr.pend <+: a.evr.pend) (hl : a.evr.pend.length ≤ s.evr.pend.length + 7) :
    Logged s (a.logAll [0, 1] trigger d) 0 trigger d ∧ Logged s (a.logAll [0, 1] trigger d) 1 trigger d := by
  have hr := State.log_raised a 0 trigger d false none
  have hroom := hr.room
  have h0 : Logged s (a.log 0 trigger d) 0 trigger d := logged_log hf (State.exists?_low a s (by decide)) hp (by omega)
  refine ⟨h0.of_prefix (State.log_raised _ 1 trigger d false none).pend, ?_⟩
  exact logged_log ((hr.failed 10).trans hf) (State.exists?_low _ s (by decide)) (hp.trans hr.pend) (Nat.le_trans hroom (by omega))

/-! ### Alarms -/

theorem State.logOrDefer_raised (s : State) (c trigger : Nat) (d : Bytes) : Raised 1 s (s.logOrDefer c trigger d) := by
  unfold State.logOrDefer
  split
  · exact ⟨rfl, fun _ _ => rfl, List.prefix_refl _, Nat.le_succ _⟩
  · exact State.log_raised s c trigger d false none

theorem State.rd_wakeCause_ne (s : State) (code : Nat) {g : Fld} (h : Obj.PWR_WAKE_CAUSE.f.key ≠ g.key) : (s.wakeCause code).rd g = s.rd g := by
  unfold State.wakeCause
  split
  · exact State.rd_wr_ne _ _ _ _ h
  · rfl

/-- A wake-up changes the wake cause and the transition, and nothing else. -/
theorem State.wake_eq (s : State) (code : Nat) : s.wake code = { s with regs := (s.wake code).regs, power := (s.wake code).power } := by
  have hc : s.wakeCause code = { s with regs := (s.wakeCause code).regs } := by unfold State.wakeCause; split <;> rfl
  unfold State.wake
  split
  · split
    · rw [hc]
    · rfl
  · split
    · rw [hc]; rfl
    · split
      · rw [hc]; rfl
      · rfl

theorem State.rd_wake (s : State) (code : Nat) {g : Fld} (h : Obj.PWR_WAKE_CAUSE.f.key ≠ g.key) : (s.wake code).rd g = s.rd g := by
  unfold State.wake
  split
  · split
    · exact State.rd_wakeCause_ne s code h
    · rfl
  · split
    · exact State.rd_wakeCause_ne s code h
    · split
      · exact State.rd_wakeCause_ne s code h
      · rfl

/-- With no transition under way a wake-up takes M2 to M6 and M1 to M3, and writes its cause where none is held (R38). -/
theorem State.wake_starts (s : State) {code : Nat} (hc : code < 256) (ht : s.power.transition = none) :
    (s.mode = 2 → (s.wake code).power.transition = some { target := 6, cold := false }) ∧
    (s.mode = 1 → (s.wake code).power.transition = some { target := 3, cold := false }) ∧
    (s.mode ∈ [1, 2] → s.rd Obj.PWR_WAKE_CAUSE.f = 0 → (s.wake code).rd Obj.PWR_WAKE_CAUSE.f = code) := by
  have hcause (h0 : s.rd Obj.PWR_WAKE_CAUSE.f = 0) : (s.wakeCause code).rd Obj.PWR_WAKE_CAUSE.f = code := by
    unfold State.wakeCause
    rw [if_pos h0, State.rd_wr_self]
    exact Nat.mod_eq_of_lt hc
  unfold State.wake
  rw [ht]
  refine ⟨fun hm => ?_, fun hm => ?_, fun hm h0 => ?_⟩
  · simp only [hm, if_true]; rfl
  · simp only [hm, if_true]; rfl
  · rcases List.mem_pair.mp hm with hm | hm
    · simp only [hm, if_true]
      exact hcause h0
    · simp only [hm, if_true]
      exact hcause h0

/-- What a firing shows at once: the flag, the occurrence and the count. -/
def State.showFired (s : State) (aa o : Nat) : State :=
  (((s.set1 (Obj.TIME_ALM_STATUS_FIRED.i aa)).wr (Obj.TIME_ALM_LAST.ij aa 0) (labelOf o).words.1).wr
    (Obj.TIME_ALM_LAST.ij aa 1) (labelOf o).words.2).inc (Obj.TIME_ALM_FIRE_COUNT.i aa)

/-- An alarm that is not periodic is no longer enabled. -/
def State.disarmOnce (s : State) (aa : Nat) : State :=
  if s.on (Obj.TIME_ALM_CFG_PERIODIC.i aa) then s else s.wr (Obj.TIME_ALM_CFG_ENABLE.i aa) 0

/-- The record of a firing. -/
def alarmDetail (aa o : Nat) : Bytes := le 1 aa ++ le 3 0 ++ le 4 (labelOf o).words.1 ++ le 4 (labelOf o).words.2

/-- A fired alarm but for its wake-up. -/
def State.firedAlarm (s : State) (aa o : Nat) : State := ((s.showFired aa o).logOrDefer 0 0x0B04 (alarmDetail aa o)).disarmOnce aa

theorem State.fireAlarm_eq (s : State) (aa o : Nat) : s.fireAlarm aa o =
    if (s.firedAlarm aa o).on (Obj.TIME_ALM_CFG_WAKE.i aa) && (s.firedAlarm aa o).wakeEn 1 then (s.firedAlarm aa o).wake 2
    else s.firedAlarm aa o := rfl

theorem State.rd_disarmOnce (s : State) (aa : Nat) {g : Fld} (h : (Obj.TIME_ALM_CFG_ENABLE.i aa).key ≠ g.key) : (s.disarmOnce aa).rd g = s.rd g := by
  unfold State.disarmOnce
  split
  · rfl
  · exact State.rd_wr_ne _ _ _ _ h

/-- A field that no firing writes after its own fields. -/
theorem State.rd_firedAlarm (s : State) (aa o : Nat) {g : Fld} (hl : unlogged g = true) (h : (Obj.TIME_ALM_CFG_ENABLE.i aa).key ≠ g.key) :
    (s.firedAlarm aa o).rd g = (s.showFired aa o).rd g :=
  (State.rd_disarmOnce _ aa h).trans ((State.logOrDefer_raised _ 0 0x0B04 _).rd g hl)

theorem State.rd_fireAlarm (s : State) (aa o : Nat) {g : Fld} (h : Obj.PWR_WAKE_CAUSE.f.key ≠ g.key) :
    (s.fireAlarm aa o).rd g = (s.firedAlarm aa o).rd g := by
  rw [State.fireAlarm_eq]
  split
  · exact State.rd_wake _ 2 h
  · rfl

theorem State.rd_armAfter (s : State) (aa n : Nat) {g : Fld} (h0 : (Obj.TIME_ALM_NEXT.ij aa 0).key ≠ g.key)
    (h1 : (Obj.TIME_ALM_NEXT.ij aa 1).key ≠ g.key) : (s.armAfter aa n).rd g = s.rd g :=
  (State.rd_wr_ne _ _ _ _ h1).trans (State.rd_wr_ne _ _ _ _ h0)

theorem State.armAfter_evr (s : State) (aa n : Nat) : (s.armAfter aa n).evr = s.evr := rfl

theorem State.armAfter_power (s : State) (aa n : Nat) : (s.armAfter aa n).power = s.power := rfl

theorem State.armAfter_next (s : State) (aa n : Nat) : (s.armAfter aa n).rtc.next.get none aa =
    if s.on (Obj.TIME_ALM_CFG_ENABLE.i aa) then (s.alarmSpec aa).bind fun a => a.occurrence (n + 1) else none := Tab.get_put_self _ _ _ _

/-- The rows that say when an alarm occurs (Table 13-6). -/
def matchRows : List Row := [Obj.TIME_ALM_CFG_MASK, Obj.TIME_ALM_MATCH_SEC, Obj.TIME_ALM_MATCH_MIN, Obj.TIME_ALM_MATCH_HOUR,
  Obj.TIME_ALM_MATCH_DAY, Obj.TIME_ALM_MATCH_MONTH, Obj.TIME_ALM_MATCH_YEAR, Obj.TIME_ALM_MATCH_CENTURY, Obj.TIME_ALM_CFG_WDAY_MASK]

theorem State.alarmSpec_congr {s t : State} {aa : Nat} (h : ∀ r ∈ matchRows, t.rd (r.i aa) = s.rd (r.i aa)) :
    t.alarmSpec aa = s.alarmSpec aa := by
  simp only [matchRows, List.mem_cons, List.not_mem_nil, or_false, forall_eq_or_imp, forall_eq] at h
  obtain ⟨hmask, hsec, hmin, hhour, hday, hmonth, hyear, hcent, hwday⟩ := h
  simp only [State.alarmSpec, State.alarmField, hmask, hsec, hmin, hhour, hday, hmonth, hyear, hcent, hwday]

end Sys2Proof.Machine

namespace Sys2Proof.Proofs
open Sys2Proof.Machine Sys2Proof.Claims

/-! ### The RTC group -/

theorem find_shadow_none {l : List Shadow} {who : Requester} (h : ∀ x ∈ l, x.who ≠ who) : l.find? (fun x => x.who == who) = none :=
  List.find?_eq_none.mpr fun x hx => by simpa using h x hx

/-- A shadow taken away is gone, its requester owed the timeout, and the timeout counted. -/
theorem shadowLost_timeout (s : State) (who : Requester) : ShadowLost s (s.timeoutShadow who) who := by
  refine ⟨fun x hx => ?_, List.mem_cons_self, OneField.wr rfl rfl⟩
  simpa using (List.mem_filter.mp hx).2

theorem exec_rtcGroupRead_member {who : Requester} {k now : Nat} (s : State) (hk : k < 10) :
    exec (.rtcGroupRead who (0x20000 + 4 * k) now) s = .next ((s.advance now).readRtc who (4 * k)).2 := by
  show execRtcGroupRead who _ now s = _
  unfold execRtcGroupRead
  rw [if_pos (by omega), Nat.add_sub_cancel_left]

/-- Settles O52: the cases of one read of the group, and of the 2 ms limit. -/
theorem rtcGroup : Obligations.RtcGroup := by
  unfold Obligations.RtcGroup
  intro who now s
  have hshadows : (s.advance now).rtc.shadows = s.rtc.shadows := rfl
  have howed : (s.advance now).rtc.owed = s.rtc.owed := rfl
  refine ⟨fun addr ha => ?outside, fun k hk => ⟨fun hn => ?again, fun hn ho => ?owed, fun hn ho hl => ?freeze, fun x rest hn ho hs hl hu => ?full⟩,
    ⟨fun hn => ?release, fun hn => ?live⟩, fun x hx => ⟨fun ht => ?timeout, fun ht => ?early⟩, fun hn => ?noShadow⟩
  case outside =>
    refine .of_exec (t := s.advance now) ?_ rfl
    show execRtcGroupRead who addr now s = _
    unfold execRtcGroupRead
    rw [if_neg (by omega)]
  case again =>
    refine .of_exec (exec_rtcGroupRead_member s (by omega)) ?_
    unfold State.readRtc
    split
    · rw [if_neg (by omega)]
    · next h => exact absurd (fun x hx => by simpa using List.find?_eq_none.mp h x hx) hn
  case owed =>
    refine .of_exec (exec_rtcGroupRead_member s (by omega)) ?_
    unfold State.readRtc
    rw [hshadows, find_shadow_none hn]
    simp only [howed, List.contains_iff_mem.mpr ho, if_true]
    rw [if_neg (by omega)]
  case freeze =>
    refine .of_exec (exec_rtcGroupRead_member s (by omega)) ?_
    unfold State.readRtc
    rw [hshadows, find_shadow_none hn]
    have hoc : s.rtc.owed.contains who = false := by simpa using ho
    have hk' : ¬ 4 * k = 0x24 := by omega
    have hl' : ¬ s.rtc.shadows.length ≥ 16 := by omega
    simp only [howed, hoc, Bool.false_eq_true, if_false, hk', hl']
    split <;> exact ⟨rfl, rfl⟩
  case full =>
    refine .of_exec (exec_rtcGroupRead_member s (by omega)) ?_
    unfold State.readRtc
    rw [hshadows, find_shadow_none hn]
    have hoc : s.rtc.owed.contains who = false := by simpa using ho
    have hk' : ¬ 4 * k = 0x24 := by omega
    have hl' : (x :: rest).length ≥ 16 := hs ▸ hl
    simp only [howed, hoc, Bool.false_eq_true, if_false, hk', hs, hl', if_true]
    obtain ⟨hgone, hmem, hcount, hkept⟩ := shadowLost_timeout (s.advance now) x.who
    have hrest : ((s.advance now).timeoutShadow x.who).rtc.shadows = rest := by
      show (s.advance now).rtc.shadows.filter (fun y => y.who != x.who) = rest
      rw [hshadows, hs, List.filter_cons_of_neg (by simp), List.filter_eq_self.mpr fun y hy => by simpa using hu y hy]
    refine ⟨congrArg (· ++ [shadowNow (s.advance now) who]) hrest, fun y hy => ?_, hmem, hcount, hkept⟩
    rcases List.mem_append.mp hy with hy | hy
    · exact hgone y hy
    · rw [List.mem_singleton.mp hy]
      exact fun h => hn x (hs ▸ List.mem_cons_self) h.symm
  case release =>
    refine .of_exec (exec_rtcGroupRead_member (k := 9) s (by omega)) ?_
    unfold State.readRtc
    split
    · exact ⟨rfl, rfl⟩
    · next h => exact absurd (fun x hx => by simpa using List.find?_eq_none.mp h x hx) hn
  case live =>
    refine .of_exec (exec_rtcGroupRead_member (k := 9) s (by omega)) ?_
    unfold State.readRtc
    rw [hshadows, find_shadow_none hn]
    simp only [howed, if_true]
    split <;> rfl
  case timeout =>
    refine .of_exec (t := rtcFreezeTimeout who (s.advance now)) rfl ?_
    unfold rtcFreezeTimeout
    simp only [hshadows, hx, if_pos ht]
    exact shadowLost_timeout (s.advance now) who
  case early =>
    refine .of_exec (t := rtcFreezeTimeout who (s.advance now)) rfl ?_
    unfold rtcFreezeTimeout
    simp only [hshadows, hx, if_neg (Nat.not_le.mpr ht)]
  case noShadow =>
    refine .of_exec (t := rtcFreezeTimeout who (s.advance now)) rfl ?_
    unfold rtcFreezeTimeout
    rw [hshadows, find_shadow_none hn]

/-! ### Alarms -/

/-- Fields of an alarm that a firing shows, and that no event, enabling, wake cause or next occurrence is. -/
def firedRows : List Row :=
  [Obj.TIME_ALM_STATUS_FIRED, Obj.TIME_ALM_FIRE_COUNT, Obj.TIME_ALM_CFG_PERIODIC, Obj.TIME_ALM_CFG_WAKE] ++ matchRows

/-- A field apart from all that a firing writes after its own fields. -/
def apartFromFiring (aa : Nat) (g : Fld) : Bool :=
  unlogged g && [Obj.TIME_ALM_CFG_ENABLE.i aa, Obj.PWR_WAKE_CAUSE.f, Obj.TIME_ALM_NEXT.ij aa 0, Obj.TIME_ALM_NEXT.ij aa 1].all fun f => f.key != g.key

theorem fired_apart : ∀ aa : Fin 16, (firedRows.all fun r => apartFromFiring aa (r.i aa)) = true ∧
    apartFromFiring aa (Obj.TIME_ALM_LAST.ij aa 0) = true ∧ apartFromFiring aa (Obj.TIME_ALM_LAST.ij aa 1) = true := by decide +kernel

theorem rd_fired {s : State} {aa o n : Nat} {g : Fld} (h : apartFromFiring aa g = true) :
    ((s.fireAlarm aa o).armAfter aa n).rd g = (s.showFired aa o).rd g := by
  simp only [apartFromFiring, Bool.and_eq_true, List.all_cons, List.all_nil, bne_iff_ne, and_true] at h
  obtain ⟨hl, he, hw, h0, h1⟩ := h
  rw [State.rd_armAfter _ _ _ h0 h1, State.rd_fireAlarm _ _ _ hw, State.rd_firedAlarm _ _ _ hl he]

/-- The fields that a firing shows at once. -/
def shownKeys (aa : Nat) : List Nat :=
  [Obj.TIME_ALM_STATUS_FIRED.i aa, Obj.TIME_ALM_LAST.ij aa 0, Obj.TIME_ALM_LAST.ij aa 1, Obj.TIME_ALM_FIRE_COUNT.i aa].map Fld.key

theorem rd_showFired {s : State} {aa o : Nat} {g : Fld} (h : (shownKeys aa).contains g.key = false) : (s.showFired aa o).rd g = s.rd g := by
  simp only [shownKeys, List.map_cons, List.map_nil, List.contains_eq_mem, List.mem_cons, List.not_mem_nil, or_false, decide_eq_false_iff_not,
    not_or] at h
  obtain ⟨h0, h1, h2, h3⟩ := h
  exact (State.rd_wr_ne _ _ _ _ (Ne.symm h3)).trans <| (State.rd_wr_ne _ _ _ _ (Ne.symm h2)).trans <|
    (State.rd_wr_ne _ _ _ _ (Ne.symm h1)).trans (State.rd_wr_ne _ _ _ _ (Ne.symm h0))

theorem shown_nodup : ∀ aa : Fin 16, (shownKeys aa).Nodup := by decide +kernel

theorem config_notShown : ∀ aa : Fin 16, (((firedRows.drop 2).map fun r => r.i aa) ++
    [Obj.TIME_ALM_CFG_ENABLE.i aa, Obj.PWR_WAKE_EN.f, Obj.PWR_WAKE_CAUSE.f, Obj.IDENT_MODE.f, Obj.PWR_UNIT_FAIL.f]).all
      (fun g => ! (shownKeys aa).contains g.key) = true := by decide +kernel

theorem enable_apart : ∀ aa : Fin 16, (unlogged (Obj.TIME_ALM_CFG_ENABLE.i aa) && unlogged (Obj.TIME_ALM_CFG_PERIODIC.i aa) && [Obj.PWR_WAKE_CAUSE.f,
    Obj.TIME_ALM_NEXT.ij aa 0, Obj.TIME_ALM_NEXT.ij aa 1].all fun f => f.key != (Obj.TIME_ALM_CFG_ENABLE.i aa).key) = true := by decide +kernel

theorem showFired_fields (s : State) (aa : Fin 16) (o : Nat) :
    (s.showFired aa o).rd (Obj.TIME_ALM_STATUS_FIRED.i aa) = 1 ∧
    (s.showFired aa o).rd (Obj.TIME_ALM_LAST.ij aa 0) = (labelOf o).words.1 % 2 ^ 32 ∧
    (s.showFired aa o).rd (Obj.TIME_ALM_LAST.ij aa 1) = (labelOf o).words.2 % 2 ^ 32 ∧
    (s.showFired aa o).rd (Obj.TIME_ALM_FIRE_COUNT.i aa) = (s.rd (Obj.TIME_ALM_FIRE_COUNT.i aa) + 1) % 2 ^ 32 := by
  have hn := shown_nodup aa
  simp only [shownKeys, List.map_cons, List.map_nil, List.nodup_cons, List.mem_cons, List.not_mem_nil, or_false, not_or, not_false_eq_true,
    List.nodup_nil, and_true] at hn
  obtain ⟨⟨h01, h02, h03⟩, ⟨h12, h13⟩, h23⟩ := hn
  unfold State.showFired State.inc State.set1
  refine ⟨?_, ?_, ?_, ?_⟩
  · rw [State.rd_wr_ne _ _ _ _ (Ne.symm h03), State.rd_wr_ne _ _ _ _ (Ne.symm h02), State.rd_wr_ne _ _ _ _ (Ne.symm h01), State.rd_wr_self]; rfl
  · rw [State.rd_wr_ne _ _ _ _ (Ne.symm h13), State.rd_wr_ne _ _ _ _ (Ne.symm h12), State.rd_wr_self]; rfl
  · rw [State.rd_wr_ne _ _ _ _ (Ne.symm h23), State.rd_wr_self]; rfl
  · rw [State.rd_wr_self, State.rd_wr_ne _ _ _ _ h23, State.rd_wr_ne _ _ _ _ h13, State.rd_wr_ne _ _ _ _ h03]; rfl

theorem disarmOnce_eq (s : State) (aa : Nat) : s.disarmOnce aa = { s with regs := (s.disarmOnce aa).regs } := by
  unfold State.disarmOnce
  split <;> rfl

theorem firedAlarm_power (s : State) (aa o : Nat) : (s.firedAlarm aa o).power = s.power := by
  unfold State.firedAlarm
  rw [disarmOnce_eq, (State.logOrDefer_raised _ _ _ _).eq]
  rfl

theorem fireAlarm_evr (s : State) (aa o n : Nat) :
    ((s.fireAlarm aa o).armAfter aa n).evr = ((s.showFired aa o).logOrDefer 0 0x0B04 (alarmDetail aa o)).evr := by
  have hfired : (s.firedAlarm aa o).evr = ((s.showFired aa o).logOrDefer 0 0x0B04 (alarmDetail aa o)).evr := by
    unfold State.firedAlarm
    rw [disarmOnce_eq]
  rw [State.armAfter_evr, State.fireAlarm_eq]
  split
  · rw [State.wake_eq]
    exact hfired
  · exact hfired

/-- A configuration field of an alarm reads as before it fired. -/
theorem rd_config {s : State} {aa : Fin 16} {o n : Nat} {r : Row} (h : r ∈ firedRows.drop 2) :
    ((s.fireAlarm aa o).armAfter aa n).rd (r.i aa) = s.rd (r.i aa) := by
  have hapart := List.all_eq_true.mp (fired_apart aa).1 r (List.mem_of_mem_drop h)
  have hshown := List.all_eq_true.mp (config_notShown aa) (r.i aa) (List.mem_append_left _ (List.mem_map_of_mem h))
  rw [rd_fired hapart, rd_showFired (by simpa using hshown)]

/-- Whether an alarm is enabled after it fired: a periodic one as before, another never. -/
theorem rd_enable_fired {s : State} (aa : Fin 16) (o : Nat) : (s.fireAlarm aa o).rd (Obj.TIME_ALM_CFG_ENABLE.i aa) =
    if s.on (Obj.TIME_ALM_CFG_PERIODIC.i aa) then s.rd (Obj.TIME_ALM_CFG_ENABLE.i aa) else 0 := by
  have hk := enable_apart aa
  simp only [Bool.and_eq_true, List.all_cons, List.all_nil, bne_iff_ne, and_true] at hk
  obtain ⟨⟨hle, hlp⟩, hw, -, -⟩ := hk
  have hnotShown {g : Fld} (hg : g ∈ (firedRows.drop 2).map (fun r => r.i aa) ++ [Obj.TIME_ALM_CFG_ENABLE.i aa, Obj.PWR_WAKE_EN.f,
      Obj.PWR_WAKE_CAUSE.f, Obj.IDENT_MODE.f, Obj.PWR_UNIT_FAIL.f]) : (shownKeys aa).contains g.key = false := by
    simpa using List.all_eq_true.mp (config_notShown aa) g hg
  have hper := hnotShown (List.mem_append_left _ (List.mem_map_of_mem (f := fun r => r.i aa) (List.mem_cons_self (a := Obj.TIME_ALM_CFG_PERIODIC))))
  have hen := hnotShown (List.mem_append_right _ (List.mem_cons_self (a := Obj.TIME_ALM_CFG_ENABLE.i aa)))
  have hraised := State.logOrDefer_raised (s.showFired aa o) 0 0x0B04 (alarmDetail aa o)
  rw [State.rd_fireAlarm _ _ _ hw]
  unfold State.firedAlarm State.disarmOnce State.on
  rw [hraised.rd _ hlp, rd_showFired hper]
  split
  · rw [hraised.rd _ hle, rd_showFired hen]
  · rw [State.rd_wr_self]; rfl

/-- The state in which the wake-up of a fired alarm is judged reads these fields as before. -/
theorem rd_firedAlarm_config {s : State} (aa : Fin 16) (o : Nat) {g : Fld}
    (hg : g ∈ [Obj.TIME_ALM_CFG_WAKE.i aa, Obj.PWR_WAKE_EN.f, Obj.PWR_WAKE_CAUSE.f, Obj.IDENT_MODE.f]) : (s.firedAlarm aa o).rd g = s.rd g := by
  have hkeys : ∀ aa : Fin 16, ([Obj.TIME_ALM_CFG_WAKE.i aa, Obj.PWR_WAKE_EN.f, Obj.PWR_WAKE_CAUSE.f, Obj.IDENT_MODE.f].all fun g =>
      unlogged g && (Obj.TIME_ALM_CFG_ENABLE.i aa).key != g.key && ! (shownKeys aa).contains g.key) = true := by decide +kernel
  have h := List.all_eq_true.mp (hkeys aa) g hg
  simp only [Bool.and_eq_true, bne_iff_ne, Bool.not_eq_true'] at h
  obtain ⟨⟨hl, he⟩, hs⟩ := h
  rw [State.rd_firedAlarm _ _ _ hl he, rd_showFired hs]

/-- The wake-up of a fired alarm (R38, R337). -/
theorem fireAlarm_wakes {s : State} (aa : Fin 16) (o n : Nat) (ht : s.power.transition = none)
    (hw : s.on (Obj.TIME_ALM_CFG_WAKE.i aa) = true) (he : bit (s.rd Obj.PWR_WAKE_EN.f) 1 = true) :
    (s.mode = 2 → ((s.fireAlarm aa o).armAfter aa n).power.transition = some { target := 6, cold := false }) ∧
    (s.mode = 1 → ((s.fireAlarm aa o).armAfter aa n).power.transition = some { target := 3, cold := false }) ∧
    (s.mode ∈ [1, 2] → s.rd Obj.PWR_WAKE_CAUSE.f = 0 → ((s.fireAlarm aa o).armAfter aa n).rd Obj.PWR_WAKE_CAUSE.f = 2) := by
  have hk : ∀ aa : Fin 16, (Obj.TIME_ALM_NEXT.ij aa 0).key ≠ Obj.PWR_WAKE_CAUSE.f.key ∧
      (Obj.TIME_ALM_NEXT.ij aa 1).key ≠ Obj.PWR_WAKE_CAUSE.f.key := by decide +kernel
  have hwake : (s.firedAlarm aa o).on (Obj.TIME_ALM_CFG_WAKE.i aa) = true := by
    unfold State.on at hw ⊢
    rw [rd_firedAlarm_config aa o (by simp)]
    exact hw
  have hen : (s.firedAlarm aa o).wakeEn 1 = true := by
    unfold State.wakeEn
    rw [rd_firedAlarm_config aa o (by simp)]
    exact he
  have hmode : (s.firedAlarm aa o).mode = s.mode := rd_firedAlarm_config aa o (by simp)
  have hfire : s.fireAlarm aa o = (s.firedAlarm aa o).wake 2 := by rw [State.fireAlarm_eq, hwake, hen]; rfl
  obtain ⟨h2, h1, hcause⟩ := (s.firedAlarm aa o).wake_starts (code := 2) (by decide) ((congrArg Power.transition (firedAlarm_power s aa o)).trans ht)
  rw [hmode] at h2 h1 hcause
  rw [rd_firedAlarm_config aa o (by simp)] at hcause
  refine ⟨fun hm => ?_, fun hm => ?_, fun hm h0 => ?_⟩
  · rw [State.armAfter_power, hfire, h2 hm]
  · rw [State.armAfter_power, hfire, h1 hm]
  · rw [State.rd_armAfter _ _ _ (hk aa).1 (hk aa).2, hfire, hcause hm h0]

/-- The record of a firing is queued, or deferred to the next boot (R337, R352). -/
theorem logged_firing (s : State) (aa : Fin 16) (o n : Nat) :
    (2 ≤ s.mode → s.mode ≠ 10 → Logged s ((s.fireAlarm aa o).armAfter aa n) 0 0x0B04 (alarmDetail aa o)) ∧
    (s.mode ≤ 1 ∨ s.mode = 10 → ∃ r, ((s.fireAlarm aa o).armAfter aa n).evr.deferred = s.evr.deferred ++ [(0, r)] ∧
      r.trigger = 0x0B04 ∧ r.detail = alarmDetail aa o) := by
  have hkeys : ∀ aa : Fin 16, (shownKeys aa).contains Obj.IDENT_MODE.f.key = false ∧ (shownKeys aa).contains Obj.PWR_UNIT_FAIL.f.key = false := by
    decide +kernel
  obtain ⟨hkm, hkf⟩ := hkeys aa
  have hmode : (s.showFired aa o).mode = s.mode := rd_showFired hkm
  have hfail : (s.showFired aa o).failed 10 = s.failed 10 := by
    unfold State.failed
    rw [rd_showFired hkf]
  refine ⟨fun h2 h10 => ?_, fun hd => ?_⟩
  · have hlog : (s.showFired aa o).logOrDefer 0 0x0B04 (alarmDetail aa o) = (s.showFired aa o).log 0 0x0B04 (alarmDetail aa o) := by
      unfold State.logOrDefer
      rw [if_neg (by rw [hmode]; omega)]
    have h : Logged s ((s.showFired aa o).log 0 0x0B04 (alarmDetail aa o)) 0 0x0B04 (alarmDetail aa o) :=
      logged_log hfail (State.exists?_low _ s (by decide)) (List.prefix_refl _) (Nat.le_add_right _ _)
    exact h.of_prefix (by rw [fireAlarm_evr, hlog])
  · refine ⟨(s.showFired aa o).deferredRecord 0x0B04 (alarmDetail aa o), ?_, rfl, rfl⟩
    rw [fireAlarm_evr]
    unfold State.logOrDefer
    rw [if_pos (by rw [hmode]; omega)]
    rfl

/-! ### The calendar follows PTP -/

/-- The comparison, where it is made (R336). -/
theorem compareCalendar_compared (s : State) (h : (s.on Obj.TIME_CFG_FOLLOW_PTP.f && s.on Obj.TIME_PTP_UTC_OFS_VALID.f && ! s.shifting) = true) :
    CalendarCompared s.rtc s.compareCalendar ∧ s.compareCalendar.regs = s.regs := by
  unfold State.compareCalendar
  rw [if_pos h]
  dsimp only
  split
  · next hd => exact ⟨⟨fun _ => rfl, fun h0 => absurd hd (by omega), fun h0 => absurd hd (by omega), fun h0 => absurd hd h0⟩, rfl⟩
  · next hd =>
    split
    · next hs =>
      obtain ⟨hlo, hhi, hv⟩ := hs
      unfold State.shift
      split
      · refine ⟨⟨fun h0 => absurd h0 hd, fun _ _ _ => rfl, fun h0 => ?_, fun _ h0 => ?_⟩, rfl⟩
        · have : s.targetCal - (s.rtc.cal : Int) < 0 := h0
          omega
        · have h0 : s.rtc.valid = false ∨ s.targetCal - (s.rtc.cal : Int) ≤ -32768 ∨ 32768 ≤ s.targetCal - (s.rtc.cal : Int) := h0
          rw [hv] at h0
          simp only [Bool.true_eq_false, false_or] at h0
          omega
      · refine ⟨⟨fun h0 => absurd h0 hd, fun h0 => ?_, fun _ _ _ => rfl, fun _ h0 => ?_⟩, rfl⟩
        · have : 0 < s.targetCal - (s.rtc.cal : Int) := h0
          omega
        · have h0 : s.rtc.valid = false ∨ s.targetCal - (s.rtc.cal : Int) ≤ -32768 ∨ 32768 ≤ s.targetCal - (s.rtc.cal : Int) := h0
          rw [hv] at h0
          simp only [Bool.true_eq_false, false_or] at h0
          omega
    · next hs =>
      refine ⟨⟨fun h0 => absurd h0 hd, fun h0 h1 hv => ?_, fun h0 h1 hv => ?_, fun _ _ => rfl⟩, rfl⟩
      · have h0 : 0 < s.targetCal - (s.rtc.cal : Int) := h0
        exact absurd ⟨by omega, h1, hv⟩ hs
      · have h0 : s.targetCal - (s.rtc.cal : Int) < 0 := h0
        exact absurd ⟨h1, by omega, hv⟩ hs

theorem compareCalendar_none (s : State) (h : (s.on Obj.TIME_CFG_FOLLOW_PTP.f && s.on Obj.TIME_PTP_UTC_OFS_VALID.f && ! s.shifting) = false) :
    s.compareCalendar = s := by
  unfold State.compareCalendar
  rw [h]
  rfl

/-! ### The correlation -/

theorem correlated_correlate (s b : State) (h : b.regs = s.regs) : Correlated s b b.correlate := by
  unfold State.correlate State.inc
  refine ⟨?_, ?_, ?_, ?_, ?_, ?_, rfl⟩
  · simp (disch := decide) only [State.rd_wr_ne, State.rd_wr_self]; rfl
  · simp (disch := decide) only [State.rd_wr_ne, State.rd_wr_self]; exact Nat.mod_mod _ _
  · simp (disch := decide) only [State.rd_wr_ne, State.rd_wr_self]; rfl
  · simp (disch := decide) only [State.rd_wr_ne, State.rd_wr_self, State.rd_congr h]; rfl
  · simp (disch := decide) only [State.rd_wr_ne, State.rd_wr_self, State.rd_congr h]; rfl
  · exact (((((Kept.of_regs h).wr (by simp)).wr (by simp)).wr (by simp)).wr (by simp)).wr (by simp)


/-- A write of the calendar's configuration (R336). -/
theorem writeTimeCfg_spec (s b : State) (w : Nat) (hb : b.regs = s.regs) :
    let ofs := sgn 8 (bits w 8 8)
    (ofs < -56 ∨ 56 < ofs → b.writeTimeCfg w = b) ∧
    (-56 ≤ ofs → ofs ≤ 56 → ∃ s1 : State, b.writeTimeCfg w = s1.compareCalendar ∧ s1.rtc = { b.rtc with zone := bit w 1 } ∧
      s1.rd Obj.TIME_CFG_FOLLOW_PTP.f = w % 2 ∧ s1.rd Obj.TIME_CFG_ZONE.f = bits w 1 1 ∧ s1.rd Obj.TIME_CFG_UTC_OFS.f = bits w 8 8 ∧
      s1.rd Obj.TIME_PTP_UTC_OFS_VALID.f = s.rd Obj.TIME_PTP_UTC_OFS_VALID.f ∧
      Kept [Obj.TIME_CFG_FOLLOW_PTP.f, Obj.TIME_CFG_ZONE.f, Obj.TIME_CFG_UTC_OFS.f] s s1) := by
  have hok : Obj.TIME_CFG_UTC_OFS.rng.ok 8 (bits w 8 8) = decide (-56 ≤ sgn 8 (bits w 8 8) ∧ sgn 8 (bits w 8 8) ≤ 56) := rfl
  unfold State.writeTimeCfg
  rw [hok]
  refine ⟨fun h => if_neg (by simp; omega), fun h1 h2 => ⟨_, if_pos (by simp; omega), rfl, ?_, ?_, ?_, ?_, ?_⟩⟩
  · show (((b.wr Obj.TIME_CFG_FOLLOW_PTP.f (w % 2)).wr Obj.TIME_CFG_ZONE.f (bits w 1 1)).wr Obj.TIME_CFG_UTC_OFS.f (bits w 8 8)).rd _ = _
    simp (disch := decide) only [State.rd_wr_ne, State.rd_wr_self]
    exact Nat.mod_mod _ _
  · show (((b.wr Obj.TIME_CFG_FOLLOW_PTP.f (w % 2)).wr Obj.TIME_CFG_ZONE.f (bits w 1 1)).wr Obj.TIME_CFG_UTC_OFS.f (bits w 8 8)).rd _ = _
    simp (disch := decide) only [State.rd_wr_ne, State.rd_wr_self]
    exact Nat.mod_mod _ _
  · show (((b.wr Obj.TIME_CFG_FOLLOW_PTP.f (w % 2)).wr Obj.TIME_CFG_ZONE.f (bits w 1 1)).wr Obj.TIME_CFG_UTC_OFS.f (bits w 8 8)).rd _ = _
    simp (disch := decide) only [State.rd_wr_self]
    exact Nat.mod_mod _ _
  · show (((b.wr Obj.TIME_CFG_FOLLOW_PTP.f (w % 2)).wr Obj.TIME_CFG_ZONE.f (bits w 1 1)).wr Obj.TIME_CFG_UTC_OFS.f (bits w 8 8)).rd _ = _
    simp (disch := decide) only [State.rd_wr_ne, State.rd_congr hb]
  · exact (((Kept.of_regs hb).wr (f := Obj.TIME_CFG_FOLLOW_PTP.f) (by simp)).wr (f := Obj.TIME_CFG_ZONE.f) (by simp)).wr
      (f := Obj.TIME_CFG_UTC_OFS.f) (by simp)

/-- Whether a fired alarm is enabled, and when it is due next (R337). -/
theorem fired_again (s : State) (aa : Fin 16) (o n : Nat) (hen : s.on (Obj.TIME_ALM_CFG_ENABLE.i aa) = true) :
    (s.on (Obj.TIME_ALM_CFG_PERIODIC.i aa) = false → ((s.fireAlarm aa o).armAfter aa n).on (Obj.TIME_ALM_CFG_ENABLE.i aa) = false ∧
      ((s.fireAlarm aa o).armAfter aa n).rtc.next.get none aa = none) ∧
    (s.on (Obj.TIME_ALM_CFG_PERIODIC.i aa) = true → ((s.fireAlarm aa o).armAfter aa n).on (Obj.TIME_ALM_CFG_ENABLE.i aa) = true ∧
      ((s.fireAlarm aa o).armAfter aa n).rtc.next.get none aa = (s.alarmSpec aa).bind fun y => y.occurrence (n + 1)) := by
  have henable := rd_enable_fired (s := s) aa o
  have hk := enable_apart aa
  simp only [Bool.and_eq_true, List.all_cons, List.all_nil, bne_iff_ne, and_true] at hk
  have harm : ((s.fireAlarm aa o).armAfter aa n).rd (Obj.TIME_ALM_CFG_ENABLE.i aa) = (s.fireAlarm aa o).rd (Obj.TIME_ALM_CFG_ENABLE.i aa) :=
    State.rd_armAfter _ _ _ hk.2.2.1 hk.2.2.2
  rw [State.armAfter_next]
  unfold State.on at hen henable ⊢
  rw [harm, henable]
  refine ⟨fun hp => ?_, fun hp => ?_⟩
  · simp [hp]
  · rw [hp, if_pos rfl, hen, if_pos rfl]
    refine ⟨rfl, congrArg (Option.bind · _) (State.alarmSpec_congr fun r hr => ?_)⟩
    have hr' : r ∈ firedRows.drop 2 := List.mem_append_right [Obj.TIME_ALM_CFG_PERIODIC, Obj.TIME_ALM_CFG_WAKE] hr
    have happ := List.all_eq_true.mp (fired_apart aa).1 r (List.mem_of_mem_drop hr')
    simp only [apartFromFiring, Bool.and_eq_true, List.all_cons, List.all_nil, bne_iff_ne, and_true] at happ
    rw [← State.rd_armAfter _ _ n happ.2.2.2.1 happ.2.2.2.2, rd_config hr']

theorem alarmFire_due {s : State} {aa o : Nat} (hnext : s.rtc.next.get none aa = some o) (hv : s.rtc.valid = true)
    (hen : s.on (Obj.TIME_ALM_CFG_ENABLE.i aa) = true) (hle : o ≤ s.calSecs) : alarmFire aa s = (s.fireAlarm aa o).armAfter aa s.calSecs := by
  unfold alarmFire
  rw [hnext]
  exact if_pos (by simp [hv, hen, hle])

theorem alarmFire_notDue {s : State} {aa : Nat} (h : ∀ o, ¬ (s.rtc.next.get none aa = some o ∧ s.rtc.valid = true ∧
    s.on (Obj.TIME_ALM_CFG_ENABLE.i aa) = true ∧ o ≤ s.calSecs)) : alarmFire aa s = s := by
  unfold alarmFire
  split
  · next o hnext =>
    refine if_neg fun hc => h o ?_
    simp only [Bool.and_eq_true, decide_eq_true_eq] at hc
    exact ⟨hnext, hc.1.1, hc.1.2, hc.2⟩
  · rfl

theorem zone_bits (v : BitVec 32) : v.getLsbD 1 = bit v.toNat 1 ∧ b2n (v.getLsbD 1) = bits v.toNat 1 1 := by
  have hv1 : v.getLsbD 1 = bit v.toNat 1 := by
    simp [BitVec.getLsbD, Nat.testBit_eq_decide_div_mod_eq, bit, beq_eq_decide]
  refine ⟨hv1, ?_⟩
  rw [hv1]
  unfold b2n bit bits
  have h01 : v.toNat / 2 ^ 1 % 2 = 0 ∨ v.toNat / 2 ^ 1 % 2 = 1 := Nat.mod_two_eq_zero_or_one _
  rcases h01 with h | h
  · rw [h]; exact h.symm
  · rw [h]; exact h.symm

theorem compareCalendar_regs (s : State) : s.compareCalendar.regs = s.regs := by
  by_cases hc : (s.on Obj.TIME_CFG_FOLLOW_PTP.f && s.on Obj.TIME_PTP_UTC_OFS_VALID.f && ! s.shifting) = true
  · exact (compareCalendar_compared s hc).2
  · rw [compareCalendar_none s (by simpa using hc)]

theorem mayCompare_iff (s : State) : (s.on Obj.TIME_CFG_FOLLOW_PTP.f && s.on Obj.TIME_PTP_UTC_OFS_VALID.f && ! s.shifting) = true ↔
    s.on Obj.TIME_CFG_FOLLOW_PTP.f = true ∧ s.on Obj.TIME_PTP_UTC_OFS_VALID.f = true ∧ s.shifting = false := by
  simp only [Bool.and_eq_true, Bool.not_eq_true', and_assoc]

/-- Settles O51: alarms, the calendar's configuration and comparison, and the correlation, each by its own lemma. -/
theorem alarmsAndCorrelation : Obligations.AlarmsAndCorrelation := by
  unfold Obligations.AlarmsAndCorrelation
  refine ⟨fun aa now s => ⟨fun hn => ?silent, fun o ho => ?fires⟩, fun who v now s => ⟨fun h => ?refused, fun h0 h1 h2 => ?config⟩,
    fun now s => ⟨fun h => ?compare, fun h => ?same, fun h => ?auto, fun h => ?manual, fun who => ⟨fun h => ?capture, fun h => ?other⟩⟩⟩
  case silent => exact .of_exec (t := s.advance now) (congrArg Host.Outcome.next (alarmFire_notDue hn)) rfl
  case fires =>
    obtain ⟨hnext, hv, hen, hle⟩ := ho
    refine .of_exec (congrArg Host.Outcome.next (alarmFire_due (s := s.advance now) hnext hv hen hle)) ?_
    obtain ⟨hall, hlast0, hlast1⟩ := fired_apart aa
    obtain ⟨h1, h2, h3, h4⟩ := showFired_fields (s.advance now) aa o
    obtain ⟨hlog, hdefer⟩ := logged_firing (s.advance now) aa o (s.advance now).calSecs
    obtain ⟨honce, hagain⟩ := fired_again (s.advance now) aa o (s.advance now).calSecs hen
    have hfired {r : Row} (hr : r ∈ firedRows) : apartFromFiring aa (r.i aa) = true := List.all_eq_true.mp hall r hr
    exact ⟨(rd_fired (hfired (by simp [firedRows]))).trans h1, (rd_fired hlast0).trans h2, (rd_fired hlast1).trans h3,
      (rd_fired (hfired (by simp [firedRows]))).trans h4, honce, hagain, hlog, hdefer, fireAlarm_wakes (s := s.advance now) aa o _⟩
  case refused =>
    refine .of_exec (t := s.advance now) (congrArg Host.Outcome.next ?_) rfl
    split
    · next h0 => exact (writeTimeCfg_spec s (s.advance now) v.toNat rfl).1 (h.resolve_left (absurd h0))
    · rfl
  case config =>
    obtain ⟨s1, hw, hrtc, hfollow, hzone, hofs, hvalid, hkept⟩ := (writeTimeCfg_spec s (s.advance now) v.toNat rfl).2 h1 h2
    obtain ⟨hv1, hz⟩ := zone_bits v
    have hcond := mayCompare_iff s1
    have hsh : s1.shifting = (s.advance now).shifting := by unfold State.shifting; rw [hrtc]
    simp only [State.on, hfollow, hvalid, hsh, beq_iff_eq] at hcond
    have hrd (g : Fld) : s1.compareCalendar.rd g = s1.rd g := State.rd_congr (compareCalendar_regs s1) g
    have hon (f : Fld) : s.on f = true ↔ s.rd f = 1 := beq_iff_eq
    refine .of_exec (t := s1.compareCalendar) (congrArg Host.Outcome.next ((if_pos h0).trans hw)) ?_
    rw [hv1, ← hrtc, ← hv1, hz, hon]
    refine ⟨(hrd _).trans hfollow, (hrd _).trans hzone, (hrd _).trans hofs, hkept.trans (Kept.of_regs (compareCalendar_regs s1)),
      fun hc => (compareCalendar_compared s1 ?_).1, fun hc => congrArg State.rtc (compareCalendar_none s1 ?_)⟩
    · simp only [State.on, hfollow, hvalid, hsh]
      exact hcond.mpr hc
    · simp only [State.on, hfollow, hvalid, hsh]
      exact Bool.eq_false_iff.mpr fun hc' => hc (hcond.mp hc')
  case compare =>
    obtain ⟨h2, hc⟩ := h
    exact .of_exec (t := (s.advance now).compareCalendar) (congrArg Host.Outcome.next (if_pos h2))
      (compareCalendar_compared _ ((mayCompare_iff _).mpr hc))
  case same =>
    refine .of_exec (t := s.advance now) (congrArg Host.Outcome.next ?_) rfl
    unfold ptpCalendarCheck
    split
    · next h2 => exact compareCalendar_none _ (Bool.eq_false_iff.mpr fun hc => h ⟨h2, (mayCompare_iff _).mp hc⟩)
    · rfl
  case auto => exact .of_exec (t := (s.advance now).correlate) (congrArg Host.Outcome.next (if_pos h)) (correlated_correlate s _ rfl)
  case manual => exact .of_exec (t := s.advance now) (congrArg Host.Outcome.next (if_neg (Bool.eq_false_iff.mp h))) rfl
  case capture => exact .of_exec (t := (s.advance now).correlate) (congrArg Host.Outcome.next (if_pos h)) (correlated_correlate s _ rfl)
  case other => exact .of_exec (t := s.advance now) (congrArg Host.Outcome.next (if_neg h)) rfl

end Sys2Proof.Proofs
end

section
/-!
SUPPORT. The PTP discipline of floor time and its step (spec/13 R326, R327).
-/
namespace Sys2Proof.Machine
open Sys2Proof.Claims

/-! ### A state whose stored fields are those of a write -/

theorem State.rd_self_of_regs {t a : State} {f : Fld} {v : Nat} (h : t.regs = (a.wr f v).regs) : t.rd f = v % 2 ^ f.width :=
  (State.rd_congr h f).trans (State.rd_wr_self a f v)

theorem State.rd_ne_of_regs {t a : State} {f g : Fld} {v : Nat} (h : t.regs = (a.wr f v).regs) (hk : f.key ≠ g.key) : t.rd g = a.rd g :=
  (State.rd_congr h g).trans (State.rd_wr_ne a f g v hk)

/-! ### What events leave of the time -/

theorem Raised.floorTime {n : Nat} {s t : State} (h : Raised n s t) : t.floorTime = s.floorTime := by rw [h.eq]

theorem Raised.rtc {n : Nat} {s t : State} (h : Raised n s t) : t.rtc = s.rtc := by rw [h.eq]

theorem Raised.ptp {n : Nat} {s t : State} (h : Raised n s t) : t.ptp = s.ptp := by rw [h.eq]

/-! ### Fields of the banks -/

/-- A field of a bank is another field's only where their places within the bank agree. -/
theorem bankKey_ne {r : Row} {g : Fld} (c : Nat) (hb : r.banked = true) (hk : (r.b 0).key < 2 ^ 40) (h : g.key % 2 ^ 40 ≠ (r.b 0).key) :
    (r.b c).key ≠ g.key := by
  have hkey : (r.b c).key = c * 2 ^ 40 + (r.b 0).key := by simp [Fld.key, Row.b, Row.at, hb]
  omega

/-! ### A budget window -/

/-- The fields in which a closed budget window shows its use. -/
def windowRows : List Row := [Obj.SCE_USED_0, Obj.SCE_USED_1, Obj.SCE_PEAK_0, Obj.SCE_PEAK_1]

/-- A field that no closed window writes. -/
def windowApart (g : Fld) : Bool := windowRows.all fun r => g.key % 2 ^ 40 != (r.b 0).key

theorem State.closeUsed_eq (s : State) (e c : Nat) : s.closeUsed e c = { s with regs := (s.closeUsed e c).regs } := rfl

theorem State.rd_closeUsed (s : State) (e c : Nat) {g : Fld} (h : windowApart g = true) : (s.closeUsed e c).rd g = s.rd g := by
  have hne {r : Row} (hr : r ∈ windowRows) : (r.b c).key ≠ g.key := by
    have hrow : (windowRows.all fun r => r.banked && decide ((r.b 0).key < 2 ^ 40)) = true := by decide
    have hr' := List.all_eq_true.mp hrow r hr
    simp only [Bool.and_eq_true, decide_eq_true_eq] at hr'
    exact bankKey_ne c hr'.1 hr'.2 (by simpa using List.all_eq_true.mp h r hr)
  unfold State.closeUsed
  by_cases he : e = 0
  · simp only [he, if_true]
    rw [State.rd_wr_ne _ _ _ _ (hne (by simp [windowRows])), State.rd_wr_ne _ _ _ _ (hne (by simp [windowRows]))]
  · simp only [he, if_false]
    rw [State.rd_wr_ne _ _ _ _ (hne (by simp [windowRows])), State.rd_wr_ne _ _ _ _ (hne (by simp [windowRows]))]

/-- A new budget window changes the engines and the fields of use, and nothing else. -/
theorem State.nextWindow_eq (s : State) (e n : Nat) :
    s.nextWindow e n = { s with regs := (s.compartments.foldl (fun t c => t.closeUsed e c) s).regs, scan := (s.nextWindow e n).scan } := by
  have hfold (l : List Nat) (s : State) : l.foldl (fun t c => t.closeUsed e c) s =
      { s with regs := (l.foldl (fun t c => t.closeUsed e c) s).regs } := by
    induction l generalizing s with
    | nil => rfl
    | cons c l ih => rw [List.foldl_cons, ih, State.closeUsed_eq]
  have hput (t : State) (g : Engine) : t.putEng e g = { t with scan := (t.putEng e g).scan } := by
    unfold State.putEng
    split <;> rfl
  unfold State.nextWindow
  dsimp only
  rw [hfold, hput]

theorem State.rd_nextWindow (s : State) (e n : Nat) {g : Fld} (h : windowApart g = true) : (s.nextWindow e n).rd g = s.rd g := by
  rw [State.nextWindow_eq]
  exact State.foldl_keeps (·.rd g) s.compartments (fun t c => t.closeUsed e c) (fun t c => State.rd_closeUsed t e c h) s

/-- A window of each engine begins. -/
theorem State.bothWindows (s : State) (n : Nat) : ∃ r sc, (s.nextWindow 0 n).nextWindow 1 n = { s with regs := r, scan := sc } := by
  have hshape (t : State) (e : Nat) : ∃ r sc, t.nextWindow e n = { t with regs := r, scan := sc } := ⟨_, _, State.nextWindow_eq t e n⟩
  obtain ⟨r, sc, h⟩ := hshape s 0
  obtain ⟨r', sc', h'⟩ := hshape (s.nextWindow 0 n) 1
  exact ⟨r', sc', by rw [h', h]⟩

/-- Taking stock of the cycle counters changes the monitor alone. -/
theorem State.markCycles_shape (s : State) : ∃ pm, s.markCycles = { s with pmon := pm } := ⟨_, rfl⟩

/-- What the registers show of a step of floor time. -/
def State.showStep (s : State) (S d : Nat) : State :=
  (((s.wr Obj.TIME_FT_STATE_STEP_DUE.f 0).wr Obj.TIME_LAST_STEP.f d).wr Obj.TIME_LAST_STEP_AT.f S).set1 Obj.TIME_EVT_STEP.f

theorem State.showStep_fields (s : State) (S d : Nat) :
    (s.showStep S d).rd Obj.TIME_FT_STATE_STEP_DUE.f = 0 ∧ (s.showStep S d).rd Obj.TIME_LAST_STEP.f = d % 2 ^ 64 ∧
    (s.showStep S d).rd Obj.TIME_LAST_STEP_AT.f = S % 2 ^ 64 ∧ (s.showStep S d).rd Obj.TIME_EVT_STEP.f = 1 ∧
    (s.showStep S d).rd Obj.PWR_UNIT_FAIL.f = s.rd Obj.PWR_UNIT_FAIL.f := by
  unfold State.showStep State.set1
  refine ⟨?_, ?_, ?_, State.rd_wr_self _ _ _, ?_⟩
  · simp (disch := decide) only [State.rd_wr_ne, State.rd_wr_self]; rfl
  · simp (disch := decide) only [State.rd_wr_ne, State.rd_wr_self]; rfl
  · simp (disch := decide) only [State.rd_wr_ne, State.rd_wr_self]; rfl
  · simp (disch := decide) only [State.rd_wr_ne]

/-- What a step of floor time leaves of a state whose windows have begun. -/
def State.across (u : State) (S d : Nat) : State :=
  { u.acrossStep S d with floorTime := u.floorTime + d, ptp := { u.ptp with step := none } }

theorem State.across_rest (u : State) (S d : Nat) : (u.across S d).floorTime = u.floorTime + d ∧ (u.across S d).rtc = u.rtc ∧
    (u.across S d).ptp = { u.ptp with step := none } ∧ (u.across S d).evr = u.evr ∧ (u.across S d).regs = u.regs :=
  ⟨rfl, rfl, rfl, rfl, rfl⟩

/-- The windows begin anew, and floor time steps. -/
def State.windowed (s : State) (S d : Nat) : State := ((s.nextWindow 0 (S + d)).nextWindow 1 (S + d)).across S d

/-- The state in which a step of floor time is shown. -/
def State.stepped (s : State) (S d : Nat) : State := s.markCycles.windowed S d

theorem State.stepFloor_eq (s : State) (S d : Nat) : s.stepFloor S d = ((s.stepped S d).showStep S d).logAll [0, 1] 0x0B01 (le 8 d ++ le 8 S) := rfl

theorem State.windowed_rest (s : State) (S d : Nat) : (s.windowed S d).floorTime = s.floorTime + d ∧ (s.windowed S d).rtc = s.rtc ∧
    (s.windowed S d).ptp = { s.ptp with step := none } ∧ (s.windowed S d).evr = s.evr ∧
    (s.windowed S d).rd Obj.PWR_UNIT_FAIL.f = s.rd Obj.PWR_UNIT_FAIL.f := by
  have hrd : ((s.nextWindow 0 (S + d)).nextWindow 1 (S + d)).rd Obj.PWR_UNIT_FAIL.f = s.rd Obj.PWR_UNIT_FAIL.f := by
    rw [State.rd_nextWindow _ _ _ (by decide), State.rd_nextWindow _ _ _ (by decide)]
  obtain ⟨r, sc, h⟩ := s.bothWindows (S + d)
  unfold State.windowed
  rw [h] at hrd ⊢
  obtain ⟨hfloor, hrtc, hptp, hevr, hregs⟩ := State.across_rest { s with regs := r, scan := sc } S d
  exact ⟨hfloor, hrtc, hptp, hevr, (State.rd_congr hregs _).trans hrd⟩

theorem State.stepped_rest (s : State) (S d : Nat) : (s.stepped S d).floorTime = s.floorTime + d ∧ (s.stepped S d).rtc = s.rtc ∧
    (s.stepped S d).ptp = { s.ptp with step := none } ∧ (s.stepped S d).evr = s.evr ∧
    (s.stepped S d).rd Obj.PWR_UNIT_FAIL.f = s.rd Obj.PWR_UNIT_FAIL.f := by
  obtain ⟨pm, hpm⟩ := s.markCycles_shape
  unfold State.stepped
  rw [hpm]
  exact State.windowed_rest _ S d

theorem State.showStep_rest (s : State) (S d : Nat) : (s.showStep S d).floorTime = s.floorTime ∧ (s.showStep S d).rtc = s.rtc ∧
    (s.showStep S d).ptp = s.ptp ∧ (s.showStep S d).evr = s.evr := ⟨rfl, rfl, rfl, rfl⟩

/-! ### A Sync message -/

/-- What a Sync message shows: offset, UTC offset and grandmaster. -/
def State.showSync (s : State) (y : PtpSync) : State :=
  (((s.wr Obj.TIME_PTP_OFS.f (sat32 y.offset)).wr Obj.TIME_PTP_UTC_OFS.f y.utcOfs).wr Obj.TIME_PTP_UTC_OFS_VALID.f
    (b2n y.utcValid)).wr Obj.TIME_GM_ID.f y.gm

/-- Lock is sought where there was none, and the message's instant kept. -/
def State.seek (s : State) (y : PtpSync) : State :=
  let s2 := if s.rd Obj.TIME_FT_STATE_SYNC.f = 0 ∨ s.rd Obj.TIME_FT_STATE_SYNC.f = 3 then
      { s.wr Obj.TIME_FT_STATE_SYNC.f 1 with ptp := { s.ptp with gm := y.gm, good := 0 } } else s
  { s2 with ptp := { s2.ptp with lastSync := s.floorTime } }

/-- The state in which the offset of a Sync message is judged. -/
def State.heard (s : State) (y : PtpSync) : State := (s.showSync y).seek y

/-- A step is due (R327). -/
def State.trackFar (s : State) (y : PtpSync) : State :=
  (({ s with ptp := { s.ptp with good := 0, ahead := y.offset.toNat } }).set1 Obj.TIME_FT_STATE_STEP_DUE.f).fixStep

/-- Messages in a row within 1 µs. -/
def goodNow (good : Nat) (offset : Int) : Nat := if -1000 < offset ∧ offset < 1000 then min 16 (good + 1) else 0

/-- The servo corrects the frequency, and the sixteenth message in a row within 1 µs locks. -/
def State.trackNear (s : State) (y : PtpSync) : State :=
  let s4 := s.slew
  let s5 : State := { s4 with ptp := { s4.ptp with good := goodNow s4.ptp.good y.offset } }
  if goodNow s4.ptp.good y.offset = 16 ∧ s5.rd Obj.TIME_FT_STATE_SYNC.f = 1 then
    ((s5.wr Obj.TIME_FT_STATE_SYNC.f 2).wr Obj.TIME_FT_STATE_ANCHORED.f 1).wr Obj.TIME_FT_STATE_CARRIED.f 0
  else s5

theorem State.track_eq (s : State) (y : PtpSync) :
    s.track y = if y.offset > 10000000 then (s.heard y).trackFar y else (s.heard y).trackNear y := rfl

theorem State.seek_eq (s : State) (y : PtpSync) : s.seek y = { s with regs := (s.seek y).regs, ptp := (s.seek y).ptp } := by
  unfold State.seek
  dsimp only
  split <;> rfl

theorem State.rd_seek (s : State) (y : PtpSync) {g : Fld} (h : Obj.TIME_FT_STATE_SYNC.f.key ≠ g.key) : (s.seek y).rd g = s.rd g := by
  have hwr : (s.wr Obj.TIME_FT_STATE_SYNC.f 1).rd g = s.rd g := State.rd_wr_ne _ _ _ _ h
  unfold State.seek
  dsimp only
  split
  · exact hwr
  · rfl

/-- Lock is sought from FREE and HOLDOVER; else the state of lock stands (Table 13-1). -/
theorem State.seek_sync (s : State) (y : PtpSync) : (s.seek y).rd Obj.TIME_FT_STATE_SYNC.f =
    if s.rd Obj.TIME_FT_STATE_SYNC.f = 0 ∨ s.rd Obj.TIME_FT_STATE_SYNC.f = 3 then 1 else s.rd Obj.TIME_FT_STATE_SYNC.f := by
  unfold State.seek
  dsimp only
  split
  · exact State.rd_self_of_regs (a := s) (v := 1) rfl
  · rfl

theorem State.seek_ptp (s : State) (y : PtpSync) : (s.seek y).ptp.step = s.ptp.step ∧ (s.seek y).ptp.lastSync = s.floorTime ∧
    (s.rd Obj.TIME_FT_STATE_SYNC.f = 1 → (s.seek y).ptp.good = s.ptp.good) ∧ (s.rd Obj.TIME_FT_STATE_SYNC.f ∈ [0, 3] → (s.seek y).ptp.good = 0) := by
  unfold State.seek
  dsimp only
  split
  · next h => exact ⟨rfl, rfl, fun h1 => by omega, fun _ => rfl⟩
  · next h => exact ⟨rfl, rfl, fun _ => rfl, fun h1 => by simp at h1; omega⟩

/-- The fields of a Sync message are shown, and lock is sought; the servo's frequency stands. -/
theorem State.heard_fields (s : State) (y : PtpSync) :
    (s.heard y).rd Obj.TIME_PTP_OFS.f = sat32 y.offset ∧ (s.heard y).rd Obj.TIME_PTP_UTC_OFS.f = y.utcOfs % 2 ^ 16 ∧
    (s.heard y).rd Obj.TIME_PTP_UTC_OFS_VALID.f = b2n y.utcValid ∧ (s.heard y).rd Obj.TIME_GM_ID.f = y.gm % 2 ^ 64 ∧
    (s.heard y).rd Obj.TIME_PTP_FREQ.f = s.rd Obj.TIME_PTP_FREQ.f := by
  have hsat : sat32 y.offset % 2 ^ 32 = sat32 y.offset := Nat.mod_eq_of_lt (by unfold sat32 uns; omega)
  have hb : b2n y.utcValid % 2 ^ 1 = b2n y.utcValid := by cases y.utcValid <;> rfl
  unfold State.heard
  refine ⟨?_, ?_, ?_, ?_, ?_⟩ <;> rw [State.rd_seek _ _ (by decide)] <;> unfold State.showSync
  · simp (disch := decide) only [State.rd_wr_ne, State.rd_wr_self]; exact hsat
  · simp (disch := decide) only [State.rd_wr_ne, State.rd_wr_self]; rfl
  · simp (disch := decide) only [State.rd_wr_ne, State.rd_wr_self]; exact hb
  · simp (disch := decide) only [State.rd_wr_self]; rfl
  · simp (disch := decide) only [State.rd_wr_ne]

theorem State.heard_sync (s : State) (y : PtpSync) : (s.heard y).rd Obj.TIME_FT_STATE_SYNC.f =
    if s.rd Obj.TIME_FT_STATE_SYNC.f = 0 ∨ s.rd Obj.TIME_FT_STATE_SYNC.f = 3 then 1 else s.rd Obj.TIME_FT_STATE_SYNC.f := by
  have h : (s.showSync y).rd Obj.TIME_FT_STATE_SYNC.f = s.rd Obj.TIME_FT_STATE_SYNC.f := by
    unfold State.showSync
    simp (disch := decide) only [State.rd_wr_ne]
  rw [State.heard, State.seek_sync, h]

theorem State.heard_ptp (s : State) (y : PtpSync) : (s.heard y).ptp.step = s.ptp.step ∧ (s.heard y).ptp.lastSync = s.floorTime ∧
    (s.rd Obj.TIME_FT_STATE_SYNC.f = 1 → (s.heard y).ptp.good = s.ptp.good) ∧ (s.rd Obj.TIME_FT_STATE_SYNC.f ∈ [0, 3] → (s.heard y).ptp.good = 0) := by
  have h : (s.showSync y).rd Obj.TIME_FT_STATE_SYNC.f = s.rd Obj.TIME_FT_STATE_SYNC.f := by
    unfold State.showSync
    simp (disch := decide) only [State.rd_wr_ne]
  have hp := State.seek_ptp (s.showSync y) y
  rw [h] at hp
  exact hp

theorem State.heard_rest (s : State) (y : PtpSync) : (s.heard y).floorTime = s.floorTime ∧ (s.heard y).rtc = s.rtc ∧
    (s.heard y).castlings = s.castlings := by
  unfold State.heard
  rw [State.seek_eq]
  exact ⟨rfl, rfl, rfl⟩

/-! ### A step due -/

theorem State.fixStep_eq (s : State) : s.fixStep = { s with ptp := { s.ptp with step := s.fixStep.ptp.step } } := by
  unfold State.fixStep
  split <;> rfl

theorem State.rd_trackFar (s : State) (y : PtpSync) {g : Fld} (h : Obj.TIME_FT_STATE_STEP_DUE.f.key ≠ g.key) : (s.trackFar y).rd g = s.rd g := by
  unfold State.trackFar
  rw [State.fixStep_eq]
  exact State.rd_ne_of_regs (a := s) (v := 1) rfl h

theorem State.trackFar_due (s : State) (y : PtpSync) : (s.trackFar y).on Obj.TIME_FT_STATE_STEP_DUE.f = true := by
  unfold State.trackFar
  rw [State.fixStep_eq]
  exact beq_iff_eq.mpr (State.rd_self_of_regs (a := s) (v := 1) rfl)

theorem State.fixStep_some {s : State} (hon : s.on Obj.TIME_FT_STATE_STEP_DUE.f = true) (hs : s.ptp.step = none) (hc : s.castlings = []) :
    s.fixStep.ptp.step = some (roundUp (s.floorTime + 10000000) 10000000, s.ptp.ahead / 10000000 * 10000000) := by
  unfold State.fixStep
  rw [hon, hs, hc, if_pos (by rfl)]

theorem State.fixStep_none {s : State} (hc : s.castlings ≠ []) : s.fixStep = s := by
  unfold State.fixStep
  exact if_neg (by simp [hc])

theorem roundUp_spec (v : Nat) {m : Nat} (hm : 0 < m) : roundUp v m % m = 0 ∧ v ≤ roundUp v m ∧ roundUp v m < v + m := by
  have hr : roundUp v m = (v + m - 1) / m * m := by unfold roundUp; rw [if_neg (by omega)]
  have hd := Nat.div_add_mod (v + m - 1) m
  have hlt := Nat.mod_lt (v + m - 1) hm
  rw [hr]
  refine ⟨Nat.mul_mod_left _ _, ?_, ?_⟩ <;> rw [Nat.mul_comm] <;> omega

/-- Without a pending Castling the step is fixed at once, at a multiple of 10 ms (R327). -/
theorem State.trackFar_step (s : State) (y : PtpSync) (hy : 10000000 < y.offset) :
    (s.castlings = [] → s.ptp.step = none → ∃ S d : Nat, (s.trackFar y).ptp.step = some (S, d) ∧ S % 10000000 = 0 ∧ s.floorTime + 10000000 ≤ S ∧
      S < s.floorTime + 20000000 ∧ d % 10000000 = 0 ∧ (d : Int) ≤ y.offset ∧ y.offset < d + 10000000) ∧
    (s.castlings ≠ [] → (s.trackFar y).ptp.step = s.ptp.step) := by
  have hdue := State.trackFar_due s y
  unfold State.trackFar at hdue ⊢
  generalize hu : ({ s with ptp := { s.ptp with good := 0, ahead := y.offset.toNat } }).set1 Obj.TIME_FT_STATE_STEP_DUE.f = u at hdue ⊢
  have hcast : u.castlings = s.castlings := hu ▸ rfl
  have hstep : u.ptp.step = s.ptp.step := hu ▸ rfl
  have hfloor : u.floorTime = s.floorTime := hu ▸ rfl
  have hahead : u.ptp.ahead = y.offset.toNat := hu ▸ rfl
  have hon : u.on Obj.TIME_FT_STATE_STEP_DUE.f = true := by
    rw [State.fixStep_eq] at hdue
    exact hdue
  refine ⟨fun hc hs => ?_, fun hc => ?_⟩
  · obtain ⟨h0, h1, h2⟩ := roundUp_spec (s.floorTime + 10000000) (m := 10000000) (by decide)
    rw [Nat.add_assoc] at h2
    refine ⟨roundUp (s.floorTime + 10000000) 10000000, y.offset.toNat / 10000000 * 10000000, ?_, h0, h1, h2, Nat.mul_mod_left _ _, by omega, by omega⟩
    rw [State.fixStep_some hon (hstep.trans hs) (hcast.trans hc), hfloor, hahead]
  · rw [State.fixStep_none (hcast ▸ hc), hstep]

/-! ### A correction -/

theorem State.slew_eq (s : State) : s.slew = { s with regs := s.slew.regs, free := s.free + 1 } := rfl

theorem State.slew_freq (s : State) : ∃ q : Int, -200000 ≤ q ∧ q ≤ 200000 ∧ s.slew.rd Obj.TIME_PTP_FREQ.f = uns 32 q := by
  refine ⟨((Config.freeNat s.free : Int) % 400001) - 200000, by omega, by omega, ?_⟩
  refine (State.rd_wr_self _ _ _).trans (Nat.mod_eq_of_lt ?_)
  show uns 32 _ < 2 ^ 32
  unfold uns
  omega

theorem State.rd_slew (s : State) {g : Fld} (h : Obj.TIME_PTP_FREQ.f.key ≠ g.key) : s.slew.rd g = s.rd g := State.rd_wr_ne _ _ _ _ h

/-- A correction leaves all but the servo's frequency and the state of lock. -/
theorem State.trackNear_eq (s : State) (y : PtpSync) : s.trackNear y =
    { s with regs := (s.trackNear y).regs, free := s.free + 1, ptp := { s.ptp with good := goodNow s.ptp.good y.offset } } := by
  unfold State.trackNear
  dsimp only
  split <;> rfl

theorem State.rd_trackNear (s : State) (y : PtpSync) {g : Fld} (h : ([Obj.TIME_PTP_FREQ.f, Obj.TIME_FT_STATE_SYNC.f, Obj.TIME_FT_STATE_ANCHORED.f,
    Obj.TIME_FT_STATE_CARRIED.f].all fun f => f.key != g.key) = true) : (s.trackNear y).rd g = s.rd g := by
  simp only [List.all_cons, List.all_nil, Bool.and_eq_true, bne_iff_ne, and_true] at h
  obtain ⟨h0, h1, h2, h3⟩ := h
  unfold State.trackNear
  dsimp only
  split
  · exact (State.rd_wr_ne _ _ _ _ h3).trans <| (State.rd_wr_ne _ _ _ _ h2).trans <| (State.rd_wr_ne _ _ _ _ h1).trans (s.rd_slew h0)
  · exact s.rd_slew h0

theorem State.trackNear_freq (s : State) (y : PtpSync) :
    ∃ q : Int, -200000 ≤ q ∧ q ≤ 200000 ∧ (s.trackNear y).rd Obj.TIME_PTP_FREQ.f = uns 32 q := by
  obtain ⟨q, h1, h2, hq⟩ := s.slew_freq
  refine ⟨q, h1, h2, ?_⟩
  unfold State.trackNear
  dsimp only
  split
  · simp (disch := decide) only [State.rd_wr_ne]; exact hq
  · exact hq

/-- The sixteenth message in a row within 1 µs locks and anchors; before it the state of lock stands. -/
theorem State.trackNear_lock (s : State) (y : PtpSync) :
    (goodNow s.ptp.good y.offset = 16 → s.rd Obj.TIME_FT_STATE_SYNC.f = 1 → (s.trackNear y).rd Obj.TIME_FT_STATE_SYNC.f = 2 ∧
      (s.trackNear y).rd Obj.TIME_FT_STATE_ANCHORED.f = 1 ∧ (s.trackNear y).rd Obj.TIME_FT_STATE_CARRIED.f = 0) ∧
    (goodNow s.ptp.good y.offset ≠ 16 ∨ s.rd Obj.TIME_FT_STATE_SYNC.f ≠ 1 →
      (s.trackNear y).rd Obj.TIME_FT_STATE_SYNC.f = s.rd Obj.TIME_FT_STATE_SYNC.f) := by
  have hsync : s.slew.rd Obj.TIME_FT_STATE_SYNC.f = s.rd Obj.TIME_FT_STATE_SYNC.f := s.rd_slew (by decide)
  unfold State.trackNear
  dsimp only
  refine ⟨fun hg h1 => ?_, fun h => ?_⟩
  · rw [if_pos ⟨hg, hsync.trans h1⟩]
    refine ⟨?_, ?_, ?_⟩
    · simp (disch := decide) only [State.rd_wr_ne, State.rd_wr_self]; rfl
    · simp (disch := decide) only [State.rd_wr_ne, State.rd_wr_self]; rfl
    · simp (disch := decide) only [State.rd_wr_self]; rfl
  · rw [if_neg]
    · exact hsync
    · rintro ⟨hg, h1⟩
      exact h.elim (fun h => h hg) (fun h => h (hsync.symm.trans h1))

end Sys2Proof.Machine

namespace Sys2Proof.Proofs
open Sys2Proof.Machine Sys2Proof.Claims

/-- What a heard Sync message does, from the state in which its offset is judged. -/
theorem track_spec (s : State) (y : PtpSync) : s.track y = if y.offset > 10000000 then (s.heard y).trackFar y else (s.heard y).trackNear y :=
  State.track_eq s y

/-- The fields shown by a Sync message, whichever way its offset is judged. -/
theorem track_shows (s : State) (y : PtpSync) : (s.track y).floorTime = s.floorTime ∧ (s.track y).rtc = s.rtc ∧
    (s.track y).ptp.lastSync = s.floorTime ∧ (s.track y).rd Obj.TIME_PTP_OFS.f = sat32 y.offset ∧
    (s.track y).rd Obj.TIME_PTP_UTC_OFS.f = y.utcOfs % 2 ^ 16 ∧ (s.track y).rd Obj.TIME_PTP_UTC_OFS_VALID.f = b2n y.utcValid ∧
    (s.track y).rd Obj.TIME_GM_ID.f = y.gm % 2 ^ 64 := by
  obtain ⟨hofs, hutc, hvalid, hgm, -⟩ := State.heard_fields s y
  obtain ⟨hfloor, hrtc, -⟩ := State.heard_rest s y
  obtain ⟨-, hlast, -⟩ := State.heard_ptp s y
  rw [State.track_eq]
  split
  · have heq : (s.heard y).trackFar y = { s.heard y with
        regs := ((s.heard y).trackFar y).regs, ptp := { (s.heard y).ptp with
          good := 0, ahead := y.offset.toNat, step := ((s.heard y).trackFar y).ptp.step } } := by
      unfold State.trackFar
      rw [State.fixStep_eq]
      rfl
    refine ⟨?_, ?_, ?_, (State.rd_trackFar _ y (by decide)).trans hofs, (State.rd_trackFar _ y (by decide)).trans hutc,
      (State.rd_trackFar _ y (by decide)).trans hvalid, (State.rd_trackFar _ y (by decide)).trans hgm⟩ <;> rw [heq]
    · exact hfloor
    · exact hrtc
    · exact hlast
  · refine ⟨?_, ?_, ?_, (State.rd_trackNear _ y (by decide)).trans hofs, (State.rd_trackNear _ y (by decide)).trans hutc,
      (State.rd_trackNear _ y (by decide)).trans hvalid, (State.rd_trackNear _ y (by decide)).trans hgm⟩ <;> rw [State.trackNear_eq]
    · exact hfloor
    · exact hrtc
    · exact hlast

/-- The state of lock after a Sync message far off, and a step due. -/
theorem track_far (s : State) (y : PtpSync) (hy : 10000000 < y.offset) :
    (s.track y).on Obj.TIME_FT_STATE_STEP_DUE.f = true ∧ (s.track y).ptp.good = 0 ∧
    (s.track y).rd Obj.TIME_FT_STATE_SYNC.f = (s.heard y).rd Obj.TIME_FT_STATE_SYNC.f ∧
    (s.track y).rd Obj.TIME_PTP_FREQ.f = s.rd Obj.TIME_PTP_FREQ.f ∧
    (s.castlings = [] → s.ptp.step = none → ∃ S d : Nat, (s.track y).ptp.step = some (S, d) ∧ S % 10000000 = 0 ∧ s.floorTime + 10000000 ≤ S ∧
      S < s.floorTime + 20000000 ∧ d % 10000000 = 0 ∧ (d : Int) ≤ y.offset ∧ y.offset < d + 10000000) ∧
    (s.castlings ≠ [] → (s.track y).ptp.step = s.ptp.step) := by
  obtain ⟨-, -, -, -, hfreq⟩ := State.heard_fields s y
  obtain ⟨hfloor, -, hcast⟩ := State.heard_rest s y
  obtain ⟨hstep, -⟩ := State.heard_ptp s y
  have h := State.trackFar_step (s.heard y) y hy
  rw [hfloor, hcast, hstep] at h
  rw [State.track_eq, if_pos hy]
  refine ⟨State.trackFar_due _ y, ?_, State.rd_trackFar _ y (by decide), (State.rd_trackFar _ y (by decide)).trans hfreq, h⟩
  unfold State.trackFar
  rw [State.fixStep_eq]
  rfl

/-- The servo's correction and the lock after a Sync message that needs no step. -/
theorem track_near (s : State) (y : PtpSync) (hy : y.offset ≤ 10000000) :
    (s.track y).ptp.step = s.ptp.step ∧
    (∃ q : Int, -200000 ≤ q ∧ q ≤ 200000 ∧ (s.track y).rd Obj.TIME_PTP_FREQ.f = uns 32 q) ∧
    (s.track y).ptp.good = goodNow (s.heard y).ptp.good y.offset ∧
    (goodNow (s.heard y).ptp.good y.offset = 16 → (s.heard y).rd Obj.TIME_FT_STATE_SYNC.f = 1 → (s.track y).rd Obj.TIME_FT_STATE_SYNC.f = 2 ∧
      (s.track y).rd Obj.TIME_FT_STATE_ANCHORED.f = 1 ∧ (s.track y).rd Obj.TIME_FT_STATE_CARRIED.f = 0) ∧
    (goodNow (s.heard y).ptp.good y.offset ≠ 16 ∨ (s.heard y).rd Obj.TIME_FT_STATE_SYNC.f ≠ 1 →
      (s.track y).rd Obj.TIME_FT_STATE_SYNC.f = (s.heard y).rd Obj.TIME_FT_STATE_SYNC.f) := by
  obtain ⟨hstep, -⟩ := State.heard_ptp s y
  have hnear : s.track y = (s.heard y).trackNear y := by rw [State.track_eq, if_neg (by omega)]
  rw [hnear]
  refine ⟨?_, State.trackNear_freq _ y, ?_, State.trackNear_lock _ y⟩ <;> rw [State.trackNear_eq]
  exact hstep

/-- The state of lock after a Sync message, by what it was (Table 13-1). -/
theorem track_sync (s : State) (y : PtpSync) :
    (s.rd Obj.TIME_FT_STATE_SYNC.f ∈ [0, 3] → (s.track y).rd Obj.TIME_FT_STATE_SYNC.f = 1) ∧
    (s.rd Obj.TIME_FT_STATE_SYNC.f = 2 → (s.track y).rd Obj.TIME_FT_STATE_SYNC.f = 2) ∧
    (s.rd Obj.TIME_FT_STATE_SYNC.f = 1 → goodNow s.ptp.good y.offset ≠ 16 ∨ 10000000 < y.offset → (s.track y).rd Obj.TIME_FT_STATE_SYNC.f = 1) := by
  have hsync := State.heard_sync s y
  obtain ⟨-, -, hgood1, hgood0⟩ := State.heard_ptp s y
  refine ⟨fun h => ?_, fun h => ?_, fun h hg => ?_⟩
  · have h1 : (s.heard y).rd Obj.TIME_FT_STATE_SYNC.f = 1 := hsync.trans (if_pos (by simpa using h))
    rcases Int.lt_or_le 10000000 y.offset with hy | hy
    · exact (track_far s y hy).2.2.1.trans h1
    · obtain ⟨-, -, -, -, hkeep⟩ := track_near s y hy
      refine (hkeep (Or.inl ?_)).trans h1
      rw [hgood0 h]
      unfold goodNow
      split <;> omega
  · have h2 : (s.heard y).rd Obj.TIME_FT_STATE_SYNC.f = 2 := by rw [hsync, if_neg (by omega), h]
    rcases Int.lt_or_le 10000000 y.offset with hy | hy
    · exact (track_far s y hy).2.2.1.trans h2
    · obtain ⟨-, -, -, -, hkeep⟩ := track_near s y hy
      exact (hkeep (Or.inr (by omega))).trans h2
  · have h1 : (s.heard y).rd Obj.TIME_FT_STATE_SYNC.f = 1 := by rw [hsync, if_neg (by omega), h]
    rcases Int.lt_or_le 10000000 y.offset with hy | hy
    · exact (track_far s y hy).2.2.1.trans h1
    · obtain ⟨-, -, -, -, hkeep⟩ := track_near s y hy
      refine (hkeep (Or.inl ?_)).trans h1
      rw [hgood1 h]
      exact hg.resolve_right (by omega)

theorem ptpSync_silent {y : PtpSync} {s : State} (h : ¬ (s.failed 5 = false ∧ s.failed 14 = false ∧ s.failed 17 = false ∧
    ∀ r, s.ptp.refused = some r → r.1 ≠ y.gm)) : ptpSync y s = s := by
  unfold ptpSync
  by_cases hf : (s.failed 5 || s.failed 14 || s.failed 17) = true
  · rw [if_pos hf]
  · rw [if_neg hf]
    simp only [Bool.or_eq_true, not_or, Bool.not_eq_true] at hf
    obtain ⟨⟨h5, h14⟩, h17⟩ := hf
    refine if_pos ?_
    cases hr : s.ptp.refused with
    | none => exact absurd ⟨h5, h14, h17, fun r hr' => by rw [hr] at hr'; cases hr'⟩ h
    | some r =>
      by_cases hg : r.1 = y.gm
      · simp [hg]
      · exact absurd ⟨h5, h14, h17, fun q hq => by rw [hr] at hq; cases hq; exact hg⟩ h

theorem ptpSync_heard {y : PtpSync} {s : State} (h5 : s.failed 5 = false) (h14 : s.failed 14 = false) (h17 : s.failed 17 = false)
    (hr : ∀ r, s.ptp.refused = some r → r.1 ≠ y.gm) : ptpSync y s = if y.offset < -60000000000 then
      ((({ s with ptp := { s.ptp with refused := some (y.gm, s.floorTime + 600000000000), good := 0 } }).wr
        Obj.TIME_FT_STATE_SYNC.f 0).set1 Obj.TIME_EVT_PTP_REJECT.f).log 0 0x0B02 (le 8 y.gm)
      else s.track y := by
  have hany : (s.ptp.refused.any fun r => r.1 == y.gm) = false := by
    cases h : s.ptp.refused with
    | none => rfl
    | some r => simpa using hr r h
  unfold ptpSync
  rw [if_neg (by simp [h5, h14, h17]), if_neg (by simp [hany])]

/-- Floor time steps from S to S + Δ (R327). -/
theorem stepFloor_spec (s : State) (S d : Nat) :
    (s.stepFloor S d).floorTime = s.floorTime + d ∧ (s.stepFloor S d).rtc = s.rtc ∧ (s.stepFloor S d).ptp = { s.ptp with step := none } ∧
    (s.stepFloor S d).rd Obj.TIME_FT_STATE_STEP_DUE.f = 0 ∧ (s.stepFloor S d).rd Obj.TIME_LAST_STEP.f = d % 2 ^ 64 ∧
    (s.stepFloor S d).rd Obj.TIME_LAST_STEP_AT.f = S % 2 ^ 64 ∧ (s.stepFloor S d).rd Obj.TIME_EVT_STEP.f = 1 ∧
    Logged s (s.stepFloor S d) 0 0x0B01 (le 8 d ++ le 8 S) ∧ Logged s (s.stepFloor S d) 1 0x0B01 (le 8 d ++ le 8 S) := by
  obtain ⟨hfloor, hrtc, hptp, hevr, hfail⟩ := s.stepped_rest S d
  obtain ⟨hdue, hlast, hat, hflag, hunit⟩ := (s.stepped S d).showStep_fields S d
  have hr := State.logAll_raised ((s.stepped S d).showStep S d) [0, 1] 0x0B01 (le 8 d ++ le 8 S) false
  obtain ⟨hfloor', hrtc', hptp', hshow⟩ := (s.stepped S d).showStep_rest S d
  have hevr' : ((s.stepped S d).showStep S d).evr = s.evr := hshow.trans hevr
  have hunits : ((s.stepped S d).showStep S d).failed 10 = s.failed 10 := by
    unfold State.failed
    rw [hunit, hfail]
  obtain ⟨hlog0, hlog1⟩ := logged_logAll (s := s) (trigger := 0x0B01) (d := le 8 d ++ le 8 S) hunits
    (hevr' ▸ List.prefix_rfl) (hevr' ▸ Nat.le_add_right _ 7)
  rw [State.stepFloor_eq]
  exact ⟨hr.floorTime.trans (hfloor'.trans hfloor), hr.rtc.trans (hrtc'.trans hrtc), hr.ptp.trans (hptp'.trans hptp),
    (hr.rd _ (by decide)).trans hdue, (hr.rd _ (by decide)).trans hlast, (hr.rd _ (by decide)).trans hat,
    (hr.rd _ (by decide)).trans hflag, hlog0, hlog1⟩

/-- SYNC enters HOLDOVER (Table 13-1). -/
theorem holdover_spec (s : State) (h : s.rd Obj.TIME_FT_STATE_SYNC.f ∈ [1, 2]) :
    s.holdover.rd Obj.TIME_FT_STATE_SYNC.f = 3 ∧ s.holdover.rd Obj.TIME_EVT_HOLDOVER.f = 1 ∧ s.holdover.ptp = { s.ptp with good := 0 } ∧
    Logged s s.holdover 0 0x0B05 [] ∧ Logged s s.holdover 1 0x0B05 [] := by
  unfold State.holdover
  rw [if_pos (by simpa using h)]
  generalize hs3 : (({ s with ptp := { s.ptp with good := 0 } }).wr Obj.TIME_FT_STATE_SYNC.f 3).set1 Obj.TIME_EVT_HOLDOVER.f = s3
  have hr := State.logAll_raised s3 [0, 1] 0x0B05 [] false
  have hevr : s3.evr = s.evr := hs3 ▸ rfl
  have hfail : s3.failed 10 = s.failed 10 := by
    have hu : s3.rd Obj.PWR_UNIT_FAIL.f = s.rd Obj.PWR_UNIT_FAIL.f := by
      rw [← hs3]
      unfold State.set1
      simp (disch := decide) only [State.rd_wr_ne]
      rfl
    unfold State.failed
    rw [hu]
  obtain ⟨hlog0, hlog1⟩ := logged_logAll (s := s) (a := s3) (trigger := 0x0B05) (d := []) hfail (by rw [hevr]) (by rw [hevr]; omega)
  refine ⟨?_, ?_, ?_, hlog0, hlog1⟩
  · rw [hr.rd _ (by decide), ← hs3]
    unfold State.set1
    simp (disch := decide) only [State.rd_wr_ne, State.rd_wr_self]
    rfl
  · rw [hr.rd _ (by decide), ← hs3]
    exact State.rd_wr_self _ _ _
  · rw [hr.eq, ← hs3]
    rfl

/-- A Sync message that would put floor time more than 60 s ahead (R326). -/
theorem rejected_spec (s : State) (gm : Nat) :
    let t := ((({ s with ptp := { s.ptp with refused := some (gm, s.floorTime + 600000000000), good := 0 } }).wr
      Obj.TIME_FT_STATE_SYNC.f 0).set1 Obj.TIME_EVT_PTP_REJECT.f).log 0 0x0B02 (le 8 gm)
    t.ptp.refused = some (gm, s.floorTime + 600000000000) ∧ t.rd Obj.TIME_FT_STATE_SYNC.f = 0 ∧ t.rd Obj.TIME_EVT_PTP_REJECT.f = 1 ∧
    t.floorTime = s.floorTime ∧ t.rtc = s.rtc ∧ Logged s t 0 0x0B02 (le 8 gm) := by
  dsimp only
  generalize hs3 : (({ s with ptp := { s.ptp with refused := some (gm, s.floorTime + 600000000000), good := 0 } }).wr
    Obj.TIME_FT_STATE_SYNC.f 0).set1 Obj.TIME_EVT_PTP_REJECT.f = s3
  have hr := State.log_raised s3 0 0x0B02 (le 8 gm) false none
  have hevr : s3.evr = s.evr := hs3 ▸ rfl
  have hfail : s3.failed 10 = s.failed 10 := by
    have hu : s3.rd Obj.PWR_UNIT_FAIL.f = s.rd Obj.PWR_UNIT_FAIL.f := by
      rw [← hs3]
      unfold State.set1
      simp (disch := decide) only [State.rd_wr_ne]
      rfl
    unfold State.failed
    rw [hu]
  refine ⟨?_, ?_, ?_, ?_, ?_, logged_log hfail (State.exists?_low _ s (by decide)) (by rw [hevr]) (by rw [hevr]; omega)⟩
  · rw [hr.eq, ← hs3]; rfl
  · rw [hr.rd _ (by decide), ← hs3]
    unfold State.set1
    simp (disch := decide) only [State.rd_wr_ne, State.rd_wr_self]
    rfl
  · rw [hr.rd _ (by decide), ← hs3]
    exact State.rd_wr_self _ _ _
  · rw [hr.eq, ← hs3]; rfl
  · rw [hr.eq, ← hs3]; rfl

/-- Settles O49: a Sync message by its offset, the loss of lock, the retry and the step. -/
theorem ptpDiscipline : Obligations.PtpDiscipline := by
  unfold Obligations.PtpDiscipline
  refine ⟨fun y now s => ⟨fun h => ?silent, fun h hy => ?rejected, fun h hy => ?tracked⟩,
    fun now s => ⟨fun h => ?lost, fun h => ?kept, fun g u hr hu => ?retry, fun h => ?wait, fun S d hs hS => ?step, fun h => ?early⟩⟩
  case silent => exact .of_exec (t := s.advance now) (congrArg Host.Outcome.next (ptpSync_silent (s := s.advance now) h)) rfl
  case rejected =>
    obtain ⟨h5, h14, h17, hr⟩ := h
    exact .of_exec (congrArg Host.Outcome.next ((ptpSync_heard (s := s.advance now) h5 h14 h17 hr).trans (if_pos hy)))
      (rejected_spec (s.advance now) y.gm)
  case tracked =>
    obtain ⟨h5, h14, h17, hr⟩ := h
    refine .of_exec (t := (s.advance now).track y)
      (congrArg Host.Outcome.next ((ptpSync_heard (s := s.advance now) h5 h14 h17 hr).trans (if_neg (by omega)))) ?_
    obtain ⟨hfloor, hrtc, hlast, hofs, hutc, hvalid, hgm⟩ := track_shows (s.advance now) y
    obtain ⟨hs0, hs2, hs1⟩ := track_sync (s.advance now) y
    obtain ⟨-, -, hgood, -⟩ := State.heard_ptp (s.advance now) y
    refine ⟨hfloor, hrtc, hlast, hofs, hutc, hvalid, hgm, hs0, hs2, fun hfar => ?_, fun hnear => ?_⟩
    · obtain ⟨hdue, hg0, -, hfreq, hstep⟩ := track_far (s.advance now) y hfar
      exact ⟨hdue, hg0, fun h1 => hs1 h1 (Or.inr hfar), hfreq, hstep⟩
    · obtain ⟨hstep, hfreq, hg, hlock, -⟩ := track_near (s.advance now) y hnear
      refine ⟨hstep, hfreq, fun hout => ⟨?_, fun h1 => hs1 h1 (Or.inl ?_)⟩, fun hlo hhi h1 => ⟨fun h15 => ⟨?_, ?_⟩, fun h15 => ?_⟩⟩
      · rw [hg]; exact if_neg hout
      · unfold goodNow; rw [if_neg hout]; decide
      · rw [hg, hgood h1]
        unfold goodNow
        rw [if_pos ⟨hlo, hhi⟩]
        exact Nat.min_eq_right (by have : s.ptp.good < 15 := h15; show s.ptp.good + 1 ≤ 16; omega)
      · refine hs1 h1 (Or.inl ?_)
        unfold goodNow
        rw [if_pos ⟨hlo, hhi⟩]
        have : (s.advance now).ptp.good < 15 := h15
        omega
      · have h16 : goodNow ((s.advance now).heard y).ptp.good y.offset = 16 := by
          rw [hgood h1]
          unfold goodNow
          rw [if_pos ⟨hlo, hhi⟩]
          have : 15 ≤ (s.advance now).ptp.good := h15
          omega
        have hsync : ((s.advance now).heard y).rd Obj.TIME_FT_STATE_SYNC.f = 1 := by
          have h1' : (s.advance now).rd Obj.TIME_FT_STATE_SYNC.f = 1 := h1
          rw [State.heard_sync, if_neg (by omega), h1']
        exact hlock h16 hsync
  case lost =>
    obtain ⟨ht, h12⟩ := h
    exact .of_exec (t := (s.advance now).holdover) (congrArg Host.Outcome.next (if_pos ht)) (holdover_spec (s.advance now) h12)
  case kept =>
    refine .of_exec (t := s.advance now) (congrArg Host.Outcome.next ?_) rfl
    unfold ptpSyncTimeout
    split
    · next ht =>
      refine if_neg fun h12 => h ⟨ht, ?_⟩
      simpa using h12
    · rfl
  case retry =>
    refine .of_exec (t := gmRetry (s.advance now)) rfl ?_
    have hr' : (s.advance now).ptp.refused = some (g, u) := hr
    unfold gmRetry
    simp only [hr', if_pos hu]
    rfl
  case wait =>
    refine .of_exec (t := s.advance now) (congrArg Host.Outcome.next ?_) rfl
    unfold gmRetry
    split
    · next u hr => exact if_neg (Nat.not_le.mpr (h _ u hr))
    · rfl
  case step =>
    refine .of_exec (t := (s.advance now).stepFloor S d) (congrArg Host.Outcome.next ?_) (stepFloor_spec (s.advance now) S d)
    have hs' : (s.advance now).ptp.step = some (S, d) := hs
    unfold floorTimeStep
    simp only [hs', if_pos hS]
  case early =>
    refine .of_exec (t := s.advance now) (congrArg Host.Outcome.next ?_) rfl
    unfold floorTimeStep
    split
    · next S d hs => exact if_neg (Nat.not_le.mpr (h S d hs))
    · rfl

end Sys2Proof.Proofs
end

section
/-!
SUPPORT. An admitted request: what its command's body runs on, and what its answer adds (spec/03 R63, R66, R70 to R75). Then what
ends a wait (R70).
-/
namespace Sys2Proof.Machine
open Sys2Proof.Claims

/-! ### The request of an admitted frame -/

/-- The request that an admitted frame of session `x` makes. -/
def requestOf (f : Frame) (x : Session) (code : Nat) : Req :=
  { sid := x.id, comp := x.comp, conn := f.conn, usb := x.usb, seq := f.seq.toNat, code := code, payload := f.payload, arrival := f.arrival }

/-- The session of a request is there, on the request's connection. -/
def Speaks (t : State) (f : Frame) (x : Session) : Prop := ∃ y, t.session x.id = some y ∧ y.conn = some f.conn ∧ y.comp = x.comp

theorem Speaks.congr {s t : State} {f : Frame} {x : Session} (h : Speaks s f x) (hs : t.sessions = s.sessions) : Speaks t f x := by
  obtain ⟨y, hy, hc⟩ := h
  exact ⟨y, (State.session_congr hs _).trans hy, hc⟩

theorem Admitted.conn {s : State} {f : Frame} {x : Session} (h : Admitted s f x) : x.conn = some f.conn := by
  obtain ⟨-, hx, -⟩ := h
  simpa using List.find?_some hx

theorem accepted_arrived (s : State) (f : Frame) (x : Session) (code : Nat) (can : Bool) : accepted s f x code can =
    let y : Session := { x with lastFrame := f.arrival }
    let e : WinEntry := { seq := f.seq.toNat, cmd := code, done := false, cached := false, cancellable := can, status := 0, payload := [] }
    (((s.arrived f).putSession y).perf 0 0 x.comp).putSession { (y.accept e) with expected := (x.expected + 1) % 2 ^ 32 } := by
  rw [← State.arrived_eq]
  rfl

theorem State.serve_admitted {s : State} {f : Frame} {x : Session} {c : CmdSpec} {pre : PreBody} {body : Req → State → State × Reply}
    (h : Admitted s f x) : s.serve c f pre body = (accepted s f x c.code c.cancellable).run c (requestOf f x c.code) body := by
  obtain ⟨⟨k, hr, hj⟩, hx, hid, hcomp, hp, hseq, hout, hseg, hmore⟩ := h
  have hout' : ¬ ((s.arrived f).putSession { x with lastFrame := f.arrival }).outstanding { x with lastFrame := f.arrival } ≥ 8 :=
    Nat.not_le.mpr hout
  rw [State.serve_session hr hj hx hcomp hp, accepted_arrived]
  unfold State.newRequest
  exact (if_neg (not_not.mpr hseq)).trans ((if_neg hout').trans ((if_neg (not_not.mpr hseg)).trans (if_neg (by rw [hmore]; decide))))

/-- What is counted changes the programmable counters and nothing else. -/
theorem State.perf_counts (s : State) (u ev c n : Nat) : ∃ cn, s.perf u ev c n = { s with pmon := { s.pmon with cnts := cn } } := by
  unfold State.perf
  split
  · exact ⟨_, rfl⟩
  · exact ⟨s.pmon.cnts, rfl⟩

theorem State.respond_counts (s : State) (conn comp seq cmd st : Nat) (p : Bytes) :
    ∃ cn, s.respond conn comp seq cmd st p = { s with sent := s.sent ++ [.resp conn comp seq cmd st p], pmon := { s.pmon with cnts := cn } } :=
  State.perf_counts (s.emit (.resp conn comp seq cmd st p)) _ _ _ _

/-- The accepted state differs from the arrived one in sessions and counts only. -/
theorem accepted_eq (s : State) (f : Frame) (x : Session) (code : Nat) (can : Bool) :
    ∃ ss cn, accepted s f x code can = { s.arrived f with sessions := ss, pmon := { s.pmon with cnts := cn } } := by
  have h : ∀ (a : State) (y z : Session), ∃ ss cn, ((a.putSession y).perf 0 0 x.comp).putSession z =
      { a with sessions := ss, pmon := { a.pmon with cnts := cn } } := by
    intro a y z
    obtain ⟨cn, hcn⟩ := (a.putSession y).perf_counts 0 0 x.comp 1
    rw [hcn]
    exact ⟨_, _, rfl⟩
  rw [accepted_arrived]
  exact h _ _ _

theorem accepted_session {s : State} {f : Frame} {x : Session} {code : Nat} {can : Bool} (h : Admitted s f x) :
    Speaks (accepted s f x code can) f x := by
  have hconn := Admitted.conn h
  obtain ⟨-, -, hid, -⟩ := h
  rw [accepted_arrived]
  refine ⟨_, State.session_putSession (x := { x with lastFrame := f.arrival }) ?_, hconn, rfl⟩
  exact (State.session_congr (State.perf_sessions _ _ _ _ _) _).trans
    (State.session_putSession (s := s.arrived f) (y := { x with lastFrame := f.arrival }) hid)

theorem accepted_regs (s : State) (f : Frame) (x : Session) (code : Nat) (can : Bool) : (accepted s f x code can).regs = s.regs := by
  obtain ⟨ss, pm, h⟩ := accepted_eq s f x code can
  rw [h]
  rfl

theorem accepted_rd (s : State) (f : Frame) (x : Session) (code : Nat) (can : Bool) (g : Fld) : (accepted s f x code can).rd g = s.rd g :=
  State.rd_congr (accepted_regs s f x code can) g

theorem accepted_mode (s : State) (f : Frame) (x : Session) (code : Nat) (can : Bool) : (accepted s f x code can).mode = s.mode := by
  obtain ⟨ss, pm, h⟩ := accepted_eq s f x code can
  rw [h]
  rfl

theorem accepted_rtc (s : State) (f : Frame) (x : Session) (code : Nat) (can : Bool) :
    (accepted s f x code can).rtc = (s.advance f.arrival).rtc := by
  obtain ⟨ss, pm, h⟩ := accepted_eq s f x code can
  rw [h]
  rfl

theorem accepted_floorTime (s : State) (f : Frame) (x : Session) (code : Nat) (can : Bool) :
    (accepted s f x code can).floorTime = max s.floorTime f.arrival := by
  obtain ⟨ss, pm, h⟩ := accepted_eq s f x code can
  rw [h]
  rfl

theorem accepted_sent (s : State) (f : Frame) (x : Session) (code : Nat) (can : Bool) : (accepted s f x code can).sent = s.sent := by
  obtain ⟨ss, pm, h⟩ := accepted_eq s f x code can
  rw [h]
  rfl

theorem accepted_waiters (s : State) (f : Frame) (x : Session) (code : Nat) (can : Bool) : (accepted s f x code can).waiters = s.waiters := by
  obtain ⟨ss, pm, h⟩ := accepted_eq s f x code can
  rw [h]
  rfl

theorem untouched_accepted (s : State) (f : Frame) (x : Session) (code : Nat) (can : Bool) : Untouched s (accepted s f x code can) := by
  obtain ⟨ss, pm, h⟩ := accepted_eq s f x code can
  rw [h]
  exact ⟨rfl, rfl, rfl, rfl, rfl, rfl, rfl, rfl⟩

/-! ### Answers -/

/-- A final response to a session with a connection is the one thing put out. -/
theorem State.finalTo_spoken {t : State} {f : Frame} {x : Session} (h : Speaks t f x) (seq cmd st : Nat) (p : Bytes) (whole : Bool) :
    ∃ ss cn, t.finalTo x.id seq cmd st p whole =
      { t with sessions := ss, pmon := { t.pmon with cnts := cn }, sent := t.sent ++ [.resp f.conn x.comp seq cmd st p] } := by
  obtain ⟨y, hy, hconn, hcomp⟩ := h
  obtain ⟨cn, hcn⟩ := (t.putSession (y.final seq st p whole)).respond_counts f.conn x.comp seq cmd st p
  refine ⟨(t.putSession (y.final seq st p whole)).sessions, cn, ?_⟩
  unfold State.finalTo
  simp only [hy, hconn, hcomp]
  exact hcn

section
variable {i : Instr} {s t : State} {f : Frame} {x : Session} {c : CmdSpec} {pre : PreBody} {body : Req → State → State × Reply}
  {post : State → Prop}

/-- A command answered at once. -/
theorem completes_ok {p : Bytes} (he : exec i s = .next (s.serve c f pre body)) (h : Admitted s f x)
    (hb : body (requestOf f x c.code) (accepted s f x c.code c.cancellable) = (t, .ok p)) (ht : Speaks t f x)
    (hpost : ∀ ss cn, post { t with
      sessions := ss, pmon := { t.pmon with cnts := cn },
      sent := t.sent ++ [.resp f.conn x.comp f.seq.toNat c.code 0 p] }) :
    Completes i s post := by
  refine ⟨_, he, ?_⟩
  rw [State.serve_admitted h]
  unfold State.run
  rw [hb]
  obtain ⟨ss, pm, hf⟩ := State.finalTo_spoken ht f.seq.toNat c.code 0 p c.removes
  have hp := hpost ss pm
  rw [← hf] at hp
  exact hp

/-- A command refused. -/
theorem completes_fail {st : Nat} {p : Bytes} (he : exec i s = .next (s.serve c f pre body)) (h : Admitted s f x)
    (hb : body (requestOf f x c.code) (accepted s f x c.code c.cancellable) = (t, .fail st p)) (ht : Speaks t f x)
    (hpost : ∀ ss cn, post { t with
      sessions := ss, pmon := { t.pmon with cnts := cn },
      sent := t.sent ++ [.resp f.conn x.comp f.seq.toNat c.code st p] }) :
    Completes i s post := by
  refine ⟨_, he, ?_⟩
  rw [State.serve_admitted h]
  unfold State.run
  rw [hb]
  obtain ⟨ss, pm, hf⟩ := State.finalTo_spoken ht f.seq.toNat c.code st p c.removes
  have hp := hpost ss pm
  rw [← hf] at hp
  exact hp

/-- A command answered PENDING. -/
theorem completes_pending {w : Wait} (he : exec i s = .next (s.serve c f pre body)) (h : Admitted s f x)
    (hb : body (requestOf f x c.code) (accepted s f x c.code c.cancellable) = (t, .pending w)) (ht : Speaks t f x)
    (hpost : ∀ cn, post { t with
      waiters := t.waiters ++ [⟨x.id, f.seq.toNat, c.code, w, c.cancellable, x.comp⟩], pmon := { t.pmon with cnts := cn },
      sent := t.sent ++ [.resp f.conn x.comp f.seq.toNat c.code 1 []] }) : Completes i s post := by
  refine ⟨_, he, ?_⟩
  rw [State.serve_admitted h]
  unfold State.run
  rw [hb]
  obtain ⟨y, hy, hconn, hcomp⟩ := ht
  have hy' : ({ t with waiters := t.waiters ++ [⟨x.id, f.seq.toNat, c.code, w, c.cancellable, x.comp⟩] } : State).session x.id = some y := hy
  simp only [requestOf, hy', hconn, hcomp]
  obtain ⟨cn, hcn⟩ := ({ t with waiters := t.waiters ++ [⟨x.id, f.seq.toNat, c.code, w, c.cancellable, x.comp⟩] } : State).respond_counts
    f.conn x.comp f.seq.toNat c.code 1 []
  have hp := hpost cn
  rw [← hcn] at hp
  exact hp

/-- A command whose answer comes later, without a PENDING. -/
theorem completes_later {w : Wait} (he : exec i s = .next (s.serve c f pre body)) (h : Admitted s f x)
    (hb : body (requestOf f x c.code) (accepted s f x c.code c.cancellable) = (t, .later w))
    (hpost : post { t with waiters := t.waiters ++ [⟨x.id, f.seq.toNat, c.code, w, c.cancellable, x.comp⟩] }) : Completes i s post := by
  refine ⟨_, he, ?_⟩
  rw [State.serve_admitted h]
  unfold State.run
  rw [hb]
  exact hpost

theorem answers_untouched (code st : Nat) (p : Bytes) (can : Bool) (ss : List Session) (pm : Pmon) :
    let b := accepted s f x code can
    let t : State := { b with sessions := ss, pmon := pm, sent := b.sent ++ [.resp f.conn x.comp f.seq.toNat code st p] }
    Answers s t f x code st p ∧ Untouched s t := by
  refine ⟨?_, untouched_accepted s f x code can⟩
  unfold Answers
  rw [← accepted_sent s f x code can]

/-- A command that only reports. -/
theorem reports_of {p : Bytes} (he : exec i s = .next (s.serve c f pre body)) (h : Admitted s f x)
    (hb : body (requestOf f x c.code) (accepted s f x c.code c.cancellable) = (accepted s f x c.code c.cancellable, .ok p)) :
    Reports i s f x c.code p :=
  completes_ok he h hb (accepted_session h) fun _ _ => answers_untouched _ _ _ _ _ _

/-- A command refused without another effect. -/
theorem refuses_of {st : Nat} {p : Bytes} (he : exec i s = .next (s.serve c f pre body)) (h : Admitted s f x)
    (hb : body (requestOf f x c.code) (accepted s f x c.code c.cancellable) = (accepted s f x c.code c.cancellable, .fail st p)) :
    Completes i s fun t => Answers s t f x c.code st p ∧ Untouched s t :=
  completes_fail he h hb (accepted_session h) fun _ _ => answers_untouched _ _ _ _ _ _

end

/-! ### What ends a wait -/

/-- What the end of a wait may change: the requests that waited, their sessions, what is put out, and records. -/
structure Ended (s t : State) : Prop where
  eq : t = { s with evr := t.evr, regs := t.regs, sessions := t.sessions, sent := t.sent, pmon := t.pmon }
  rd : ∀ g, unlogged g = true → t.rd g = s.rd g
  pend : s.evr.pend <+: t.evr.pend

theorem Ended.refl (s : State) : Ended s s := ⟨rfl, fun _ _ => rfl, List.prefix_refl _⟩

theorem Ended.trans {s t u : State} (h : Ended s t) (k : Ended t u) : Ended s u := by
  refine ⟨?_, fun g hg => (k.rd g hg).trans (h.rd g hg), h.pend.trans k.pend⟩
  rw [k.eq, h.eq]

theorem Raised.ended {n : Nat} {s t : State} (h : Raised n s t) : Ended s t := by
  refine ⟨?_, h.rd, h.pend⟩
  rw [h.eq]

theorem State.finalTo_ended (s : State) (sid seq cmd st : Nat) (p : Bytes) (whole : Bool) : Ended s (s.finalTo sid seq cmd st p whole) := by
  have h := State.finalTo_eq s sid seq cmd st p whole
  generalize s.finalTo sid seq cmd st p whole = t at h
  refine ⟨?_, fun g _ => State.rd_congr (by rw [h]) g, by rw [h]⟩
  rw [h]

/-- What `finish` does with one request. -/
def State.endWaiter (t : State) (x : Waiter) (st : Nat) (p : Bytes) : State :=
  if (t.session x.sid).isNone then t.log x.comp 0x0102 (le 4 x.seq ++ le 2 x.cmd ++ le 2 st) else t.finalTo x.sid x.seq x.cmd st p false

theorem State.finish_eq (s : State) (w : Wait) (st : Nat) (p : Bytes) : s.finish w st p =
    (s.waiters.filter fun x => x.wait == w).foldl (fun t x => t.endWaiter x st p) { s with waiters := s.waiters.filter fun x => x.wait != w } := rfl

theorem State.endWaiter_ended (t : State) (x : Waiter) (st : Nat) (p : Bytes) : Ended t (t.endWaiter x st p) := by
  unfold State.endWaiter
  split
  · exact (State.log_raised _ _ _ _ _ _).ended
  · exact State.finalTo_ended _ _ _ _ _ _ _

theorem State.finish_ended (s : State) (w : Wait) (st : Nat) (p : Bytes) :
    Ended { s with waiters := s.waiters.filter fun x => x.wait != w } (s.finish w st p) := by
  rw [State.finish_eq]
  generalize s.waiters.filter (fun x => x.wait == w) = l
  generalize ({ s with waiters := s.waiters.filter fun x => x.wait != w } : State) = u
  induction l generalizing u with
  | nil => exact Ended.refl _
  | cons x l ih => exact (u.endWaiter_ended x st p).trans (ih _)

theorem State.rd_finish (s : State) (w : Wait) (st : Nat) (p : Bytes) {g : Fld} (h : unlogged g = true) : (s.finish w st p).rd g = s.rd g :=
  (s.finish_ended w st p).rd g h

/-- The requests that waited are over; where there was one, its response is the one thing put out. -/
theorem finishes_finish {s u : State} (w : Wait) (st : Nat) (p : Bytes) (hw : u.waiters = s.waiters) (hs : u.sessions = s.sessions)
    (ho : u.sent = s.sent) : Finishes s (u.finish w st p) w st p := by
  refine ⟨?_, fun y z k hy hz hk => ?_⟩
  · rw [(u.finish_ended w st p).eq, hw]
  · rw [State.finish_eq, hw, hy]
    have hz' : ({ u with waiters := s.waiters.filter fun x => x.wait != w } : State).session y.sid = some z := (State.session_congr hs _).trans hz
    simp only [List.foldl_cons, List.foldl_nil, State.endWaiter, hz', Option.isNone_some, Bool.false_eq_true, if_false, State.finalTo, hk]
    rw [State.respond_sent, ← ho]
    rfl

end Sys2Proof.Machine
end

section
/-!
SUPPORT. Bytes of a payload. Then the calendar: loading it, shifting it and its commands (spec/13 R330, R333 to R335, R338 to R340).
-/
namespace Sys2Proof.Machine
open Sys2Proof.Claims

/-! ### Bytes -/

theorem unle_le (n v : Nat) : unle (le n v) = v % 256 ^ n := by
  induction n generalizing v with
  | zero => simp [le, unle, Nat.mod_one]
  | succ n ih =>
    have hpow : 256 ^ (n + 1) = 256 * 256 ^ n := Nat.pow_succ'
    rw [le, unle, ih, BitVec.toNat_ofNat, hpow, Nat.mod_mul]

@[simp] theorem field_le (n v : Nat) (r : Bytes) : field (le n v ++ r) 0 n = v % 256 ^ n := by
  unfold field
  rw [List.drop_zero, List.take_append_of_le_length (by rw [le_length]), List.take_of_length_le (by rw [le_length]), unle_le]

@[simp] theorem field_le_self (n v : Nat) : field (le n v) 0 n = v % 256 ^ n := by
  have h := field_le n v []
  rwa [List.append_nil] at h

theorem take_le {m n : Nat} (v : Nat) (h : m ≤ n) : (le n v).take m = le m v := by
  induction m generalizing n v with
  | zero => rfl
  | succ m ih =>
    obtain ⟨k, rfl⟩ : ∃ k, n = k + 1 := ⟨n - 1, by omega⟩
    rw [le, le, List.take_succ_cons, ih _ (by omega)]

/-- The low bytes of a number at the start of a payload. -/
theorem field_le_low {m n : Nat} (v : Nat) (r : Bytes) (h : m ≤ n) : field (le n v ++ r) 0 m = v % 256 ^ m := by
  unfold field
  rw [List.drop_zero, List.take_append_of_le_length (by rw [le_length]; exact h), take_le v h, unle_le]

/-- A field that lies past the first part of a payload. -/
theorem field_append_right {a b : Bytes} {o n : Nat} (h : a.length ≤ o) : field (a ++ b) o n = field b (o - a.length) n := by
  unfold field
  rw [List.drop_append, List.drop_eq_nil_of_le h, List.nil_append]

/-- A field that lies in the first part of a payload. -/
theorem field_append_left {a b : Bytes} {o n : Nat} (h : o + n ≤ a.length) : field (a ++ b) o n = field a o n := by
  unfold field
  rw [List.drop_append_of_le_length (by omega), List.take_append_of_le_length (by rw [List.length_drop]; omega)]

/-! ### Who may use a command -/

@[simp] theorem requestOf_payload (f : Frame) (x : Session) (code : Nat) : (requestOf f x code).payload = f.payload := rfl

@[simp] theorem requestOf_comp (f : Frame) (x : Session) (code : Nat) : (requestOf f x code).comp = x.comp := rfl

@[simp] theorem requestOf_sid (f : Frame) (x : Session) (code : Nat) : (requestOf f x code).sid = x.id := rfl

@[simp] theorem requestOf_seq (f : Frame) (x : Session) (code : Nat) : (requestOf f x code).seq = f.seq.toNat := rfl

theorem permitted_all {s : State} {f : Frame} {x : Session} (h : Hosted s x) (code : Nat) (can : Bool) :
    permitted .all m5to9 (requestOf f x code) (accepted s f x code can) = true := by
  obtain ⟨hc, h5, h9⟩ := h
  have hm : s.mode ∈ m5to9 := by simp only [m5to9, List.mem_cons, List.not_mem_nil, or_false]; omega
  unfold permitted
  rw [accepted_mode]
  simp [Open.ok, requestOf, hc, hm]

theorem permitted_owner {s : State} {f : Frame} {x : Session} (h : Hosted s x) (code : Nat) (can : Bool) :
    permitted .owner m5to9 (requestOf f x code) (accepted s f x code can) = decide (x.comp = 0) := by
  obtain ⟨hc, h5, h9⟩ := h
  have hm : s.mode ∈ m5to9 := by simp only [m5to9, List.mem_cons, List.not_mem_nil, or_false]; omega
  unfold permitted
  rw [accepted_mode]
  simp [Open.ok, requestOf, hm, Bool.beq_eq_decide_eq]

/-! ### Loading the calendar -/

/-- The fields of an alarm that a set of the calendar may write. -/
def alarmFields (aa : Nat) : List Fld :=
  [Obj.TIME_ALM_STATUS_FIRED.i aa, Obj.TIME_ALM_LAST.ij aa 0, Obj.TIME_ALM_LAST.ij aa 1, Obj.TIME_ALM_FIRE_COUNT.i aa,
   Obj.TIME_ALM_CFG_ENABLE.i aa, Obj.TIME_ALM_STATUS_SKIP_COUNT.i aa, Obj.TIME_ALM_STATUS_SKIPPED.i aa, Obj.TIME_ALM_STATUS_MISSED.i aa,
   Obj.TIME_ALM_STATUS_REPEAT_AFTER_SET.i aa, Obj.TIME_ALM_NEXT.ij aa 0, Obj.TIME_ALM_NEXT.ij aa 1, Obj.PWR_WAKE_CAUSE.f]

/-- A field that no event and nothing that happens to an alarm writes. -/
def apartFromAlarms (g : Fld) : Bool := unlogged g && (List.range 16).all fun aa => (alarmFields aa).all fun f => f.key != g.key

/-- What happens to alarms: their fields and next occurrences, at most `n` events, and a wake-up. -/
structure Rearmed (n : Nat) (s t : State) : Prop where
  eq : t = { s with regs := t.regs, evr := t.evr, power := t.power, rtc := { s.rtc with next := t.rtc.next } }
  rd : ∀ g, apartFromAlarms g = true → t.rd g = s.rd g
  pend : s.evr.pend <+: t.evr.pend
  room : t.evr.pend.length ≤ s.evr.pend.length + n

theorem Rearmed.refl (s : State) : Rearmed 0 s s := ⟨rfl, fun _ _ => rfl, List.prefix_refl _, Nat.le_refl _⟩

theorem Rearmed.trans {n m : Nat} {s t u : State} (h : Rearmed n s t) (k : Rearmed m t u) : Rearmed (n + m) s u := by
  refine ⟨?_, fun g hg => (k.rd g hg).trans (h.rd g hg), h.pend.trans k.pend, by have := h.room; have := k.room; omega⟩
  rw [k.eq, h.eq]

theorem Rearmed.mono {n m : Nat} {s t : State} (h : Rearmed n s t) (hm : n ≤ m) : Rearmed m s t :=
  ⟨h.eq, h.rd, h.pend, Nat.le_trans h.room (by omega)⟩

theorem Raised.rearmed {n : Nat} {s t : State} (h : Raised n s t) : Rearmed n s t := by
  refine ⟨?_, fun g hg => h.rd g (by simp only [apartFromAlarms, Bool.and_eq_true] at hg; exact hg.1), h.pend, h.room⟩
  rw [h.eq]

theorem apartFromAlarms_key {g : Fld} (h : apartFromAlarms g = true) {aa : Nat} (ha : aa < 16) {f : Fld} (hf : f ∈ alarmFields aa) : f.key ≠ g.key := by
  simp only [apartFromAlarms, Bool.and_eq_true, List.all_eq_true, List.mem_range, bne_iff_ne] at h
  exact h.2 aa ha f hf

theorem Rearmed.wr (s : State) {aa : Nat} (ha : aa < 16) {f : Fld} (hf : f ∈ alarmFields aa) (v : Nat) : Rearmed 0 s (s.wr f v) :=
  ⟨rfl, fun _ hg => State.rd_wr_ne _ _ _ _ (apartFromAlarms_key hg ha hf), List.prefix_refl _, Nat.le_refl _⟩

theorem Rearmed.armAfter (s : State) {aa : Nat} (ha : aa < 16) (n : Nat) : Rearmed 0 s (s.armAfter aa n) :=
  ⟨rfl, fun _ hg => State.rd_armAfter _ _ _ (apartFromAlarms_key hg ha (by simp [alarmFields])) (apartFromAlarms_key hg ha (by simp [alarmFields])),
    List.prefix_refl _, Nat.le_refl _⟩

theorem Rearmed.disarmOnce (s : State) {aa : Nat} (ha : aa < 16) : Rearmed 0 s (s.disarmOnce aa) := by
  unfold State.disarmOnce
  split
  · exact .refl s
  · exact .wr s ha (by simp [alarmFields]) 0

theorem Rearmed.wake (s : State) (code : Nat) : Rearmed 0 s (s.wake code) := by
  have heq := State.wake_eq s code
  refine ⟨?_, fun g hg => State.rd_wake s code (apartFromAlarms_key hg (aa := 0) (by omega) (by simp [alarmFields])), ?_, ?_⟩
  · rw [heq]
  · rw [heq]
  · rw [heq]; exact Nat.le_refl _

theorem Rearmed.fireAlarm (s : State) {aa : Nat} (ha : aa < 16) (o : Nat) : Rearmed 1 s (s.fireAlarm aa o) := by
  have hshow : Rearmed 0 s (s.showFired aa o) :=
    (((Rearmed.wr s ha (by simp [alarmFields]) _).trans (.wr _ ha (by simp [alarmFields]) _)).trans (.wr _ ha (by simp [alarmFields]) _)).trans
      (.wr _ ha (by simp [alarmFields]) _)
  have hfired : Rearmed 1 s (s.firedAlarm aa o) := (hshow.trans (State.logOrDefer_raised _ _ _ _).rearmed).trans (.disarmOnce _ ha)
  rw [State.fireAlarm_eq]
  split
  · exact hfired.trans (.wake _ 2)
  · exact hfired

theorem Rearmed.alarmSet (s : State) (was : Bool) (old new : Nat) {aa : Nat} (ha : aa < 16) : Rearmed 1 s (s.alarmSet was old new aa) := by
  unfold State.alarmSet
  split
  · exact (Rearmed.refl s).mono (by omega)
  split
  · exact (Rearmed.armAfter s ha _).mono (by omega)
  split
  · exact (Rearmed.refl s).mono (by omega)
  next a _ =>
  split
  · generalize a.passed 255 old new = p
    dsimp only
    split
    · exact (Rearmed.armAfter s ha _).mono (by omega)
    next latest _ =>
    split
    · exact (((Rearmed.wr s ha (by simp [alarmFields]) _).trans (.wr _ ha (by simp [alarmFields]) _)).trans (.fireAlarm _ ha _)).trans
        (.armAfter _ ha _)
    · exact (((Rearmed.wr s ha (by simp [alarmFields]) _).trans (.wr _ ha (by simp [alarmFields]) 1)).trans (.disarmOnce _ ha)).trans
        ((Rearmed.armAfter _ ha _).mono (m := 1) (by omega))
  · generalize s.lastFired aa = last
    dsimp only
    have hflag : Rearmed 0 s (if last.any fun l => decide (new < l) then s.set1 (Obj.TIME_ALM_STATUS_REPEAT_AFTER_SET.i aa) else s) := by
      split
      · exact .wr s ha (by simp [alarmFields]) 1
      · exact .refl s
    generalize (if last.any fun l => decide (new < l) then s.set1 (Obj.TIME_ALM_STATUS_REPEAT_AFTER_SET.i aa) else s) = u at hflag ⊢
    split
    · exact (hflag.trans (.armAfter _ ha _)).mono (by omega)
    · exact (hflag.trans (.armAfter _ ha _)).mono (by omega)

/-- The calendar's new count is in, and shown as set; its alarms still stand. -/
def State.setCalendar (s : State) (cal : Nat) (zone : Bool) : State :=
  (({ s with rtc := { s.rtc with cal := cal, valid := true, zone := zone, setReq := none } }).inc Obj.TIME_SET_COUNT.f).set1 Obj.TIME_EVT_RTC_SET.f

theorem State.setCalendar_fields (s : State) (cal : Nat) (zone : Bool) :
    (s.setCalendar cal zone).rd Obj.TIME_SET_COUNT.f = (s.rd Obj.TIME_SET_COUNT.f + 1) % 2 ^ 32 ∧
    (s.setCalendar cal zone).rd Obj.TIME_EVT_RTC_SET.f = 1 ∧ (s.setCalendar cal zone).rd Obj.PWR_UNIT_FAIL.f = s.rd Obj.PWR_UNIT_FAIL.f := by
  unfold State.setCalendar State.inc State.set1
  refine ⟨?_, State.rd_wr_self _ _ _, ?_⟩
  · simp (disch := decide) only [State.rd_wr_ne, State.rd_wr_self]; rfl
  · simp (disch := decide) only [State.rd_wr_ne]; rfl

/-- The calendar after its alarms have followed. -/
def State.followAlarms (s : State) (cal : Nat) (zone : Bool) : State :=
  (List.range 16).foldl (fun t aa => t.alarmSet s.rtc.valid s.calSecs (cal / 32768) aa) (s.setCalendar cal zone)

theorem State.loadCalendar_eq (s : State) (cal : Nat) (zone : Bool) :
    s.loadCalendar cal zone = (s.followAlarms cal zone).logAll [0, 1] 0x0B03 (calendarBytes s.rtc.cal ++ calendarBytes cal) := rfl

theorem State.followAlarms_rearmed (s : State) (cal : Nat) (zone : Bool) : Rearmed 16 (s.setCalendar cal zone) (s.followAlarms cal zone) := by
  have hfold (l : List Nat) (hl : ∀ aa ∈ l, aa < 16) (u : State) :
      Rearmed l.length u (l.foldl (fun t aa => t.alarmSet s.rtc.valid s.calSecs (cal / 32768) aa) u) := by
    induction l generalizing u with
    | nil => exact .refl u
    | cons aa l ih =>
      exact ((Rearmed.alarmSet u _ _ _ (hl aa List.mem_cons_self)).trans (ih (fun b hb => hl b (List.mem_cons_of_mem _ hb)) _)).mono
        (by rw [List.length_cons]; omega)
  exact hfold (List.range 16) (fun aa h => List.mem_range.mp h) _

/-- A record for C00, whose log keeps 128 entries for itself, is queued behind up to 120 others. -/
theorem logged_owner {s a : State} {trigger : Nat} {d : Bytes} (hf : a.failed 10 = s.failed 10)
    (hp : s.evr.pend <+: a.evr.pend) (hl : a.evr.pend.length ≤ s.evr.pend.length + 120) : Logged s (a.log 0 trigger d) 0 trigger d := by
  intro hfail _ hroom
  obtain ⟨l, hl'⟩ := hp
  refine ⟨l, ⟨0, false, a.eventRecord 0 trigger d false none⟩, [], ?_, rfl, rfl, rfl⟩
  rw [State.log_pend (hf.trans hfail) rfl (show _ < 128 by omega), ← hl']

/-- A set of the calendar, but for the answer of its command (R335). -/
theorem loadCalendar_spec (s : State) (cal : Nat) (zone : Bool) : let t := s.loadCalendar cal zone
    t.rtc.cal = cal ∧ t.rtc.valid = true ∧ t.rtc.zone = zone ∧ t.rtc.setReq = none ∧ t.rtc.ticks = s.rtc.ticks ∧ t.floorTime = s.floorTime ∧
    t.rd Obj.TIME_SET_COUNT.f = (s.rd Obj.TIME_SET_COUNT.f + 1) % 2 ^ 32 ∧ t.rd Obj.TIME_EVT_RTC_SET.f = 1 ∧
    t.waiters = s.waiters ∧ t.sessions = s.sessions ∧ t.sent = s.sent ∧
    Logged s t 0 0x0B03 (calendarBytes s.rtc.cal ++ calendarBytes cal) := by
  have hr := s.followAlarms_rearmed cal zone
  obtain ⟨hcount, hflag, hunit⟩ := s.setCalendar_fields cal zone
  have hfail : (s.followAlarms cal zone).failed 10 = s.failed 10 := by
    unfold State.failed
    rw [hr.rd _ (by decide), hunit]
  have hc : (s.followAlarms cal zone).rd Obj.TIME_SET_COUNT.f = (s.rd Obj.TIME_SET_COUNT.f + 1) % 2 ^ 32 := (hr.rd _ (by decide)).trans hcount
  have he : (s.followAlarms cal zone).rd Obj.TIME_EVT_RTC_SET.f = 1 := (hr.rd _ (by decide)).trans hflag
  have hp : s.evr.pend <+: (s.followAlarms cal zone).evr.pend := hr.pend
  have hl : (s.followAlarms cal zone).evr.pend.length ≤ s.evr.pend.length + 16 := hr.room
  have heq := hr.eq
  rw [State.loadCalendar_eq]
  generalize s.followAlarms cal zone = u at *
  have hlogs := State.logAll_raised u [0, 1] 0x0B03 (calendarBytes s.rtc.cal ++ calendarBytes cal) false
  have hlog : Logged s (u.logAll [0, 1] 0x0B03 (calendarBytes s.rtc.cal ++ calendarBytes cal)) 0 0x0B03
      (calendarBytes s.rtc.cal ++ calendarBytes cal) :=
    (logged_owner hfail hp (by omega)).of_prefix (State.log_raised _ 1 _ _ false none).pend
  have hrest : u.rtc.cal = cal ∧ u.rtc.valid = true ∧ u.rtc.zone = zone ∧ u.rtc.setReq = none ∧ u.rtc.ticks = s.rtc.ticks ∧
      u.floorTime = s.floorTime ∧ u.waiters = s.waiters ∧ u.sessions = s.sessions ∧ u.sent = s.sent := by
    rw [heq]
    exact ⟨rfl, rfl, rfl, rfl, rfl, rfl, rfl, rfl, rfl⟩
  obtain ⟨hcal, hvalid, hzone, hset, hticks, hfloor, hwait, hsess, hsent⟩ := hrest
  have hkeep := hlogs.eq
  have hrd := hlogs.rd
  generalize u.logAll [0, 1] 0x0B03 (calendarBytes s.rtc.cal ++ calendarBytes cal) = t at *
  refine ⟨?_, ?_, ?_, ?_, ?_, ?_, (hrd _ (by decide)).trans hc, (hrd _ (by decide)).trans he, ?_, ?_, ?_, hlog⟩ <;> rw [hkeep] <;> assumption

end Sys2Proof.Machine

namespace Sys2Proof.Claims
open Sys2Proof.Machine

theorem OneField.congr {s t u : State} {f : Fld} {v : Nat} (h : OneField s t f v) (hu : u.regs = t.regs) : OneField s u f v :=
  ⟨(State.rd_congr hu f).trans h.1, fun g hg => (State.rd_congr hu g).trans (h.2 g hg)⟩

end Sys2Proof.Claims

namespace Sys2Proof.Proofs
open Sys2Proof.Machine Sys2Proof.Claims

/-! ### The commands of the calendar -/

theorem calendarSeconds_append {a b : Bytes} (h : a.length = 8) : calendarSeconds (a ++ b) = calendarSeconds a := by
  have hf {o : Nat} (ho : o < 8) : field (a ++ b) o 1 = field a o 1 := field_append_left (by omega)
  unfold calendarSeconds
  rw [hf (show 0 < 8 by omega), hf (show 1 < 8 by omega), hf (show 2 < 8 by omega), hf (show 3 < 8 by omega), hf (show 5 < 8 by omega),
    hf (show 6 < 8 by omega), hf (show 7 < 8 by omega)]

theorem accepted_shifting (s : State) (f : Frame) (x : Session) (code : Nat) (can : Bool) :
    (accepted s f x code can).shifting = (s.advance f.arrival).shifting := by
  unfold State.shifting
  rw [accepted_rtc]

section
variable {f : Frame} {s : State} {x : Session} (h : Admitted s f x) (hh : Hosted s x)
include h hh

theorem timeGet_reports (hp : f.payload = []) : let b := s.advance f.arrival
    Reports (.cmdTimeGet f) s f x 0x0B01 (le 8 b.floorTime ++ le 8 b.rtc.ticks ++ calendarBytes b.rtc.cal ++
      le 2 (b.rtc.cal % 32768) ++ le 2 b.ftState ++ le 4 b.rtcStat) := by
  refine reports_of (c := { code := 0x0B01, cancellable := true, rereads := true }) (body := timeGet) rfl h ?_
  obtain ⟨ss, pm, heq⟩ := accepted_eq s f x 0x0B01 true
  unfold timeGet
  rw [permitted_all hh, if_neg (by decide), requestOf_payload, if_neg (not_not.mpr hp), heq]
  rfl

theorem timeGet_payload (hp : f.payload ≠ []) : Reports' (.cmdTimeGet f) s f x 0x0B01 0x001A := by
  refine refuses_of (c := { code := 0x0B01, cancellable := true, rereads := true }) (body := timeGet) rfl h ?_
  unfold timeGet
  rw [permitted_all hh, if_neg (by decide), requestOf_payload, if_pos hp]
  rfl

theorem timeSet_tenant (hc : x.comp ≠ 0) : Reports' (.cmdTimeSet f) s f x 0x0B02 0x0019 := by
  refine refuses_of (c := { code := 0x0B02 }) (body := timeSet) rfl h ?_
  unfold timeSet
  rw [permitted_owner hh, decide_eq_false hc]
  exact if_pos rfl

theorem timeShift_tenant (hc : x.comp ≠ 0) : Reports' (.cmdTimeShift f) s f x 0x0B03 0x0019 := by
  refine refuses_of (c := { code := 0x0B03 }) (body := timeShift) rfl h ?_
  unfold timeShift
  rw [permitted_owner hh, decide_eq_false hc]
  exact if_pos rfl

section
variable {cal : Bytes} {sub zone : Nat} (hc : x.comp = 0) (hcal : cal.length = 8) (hs : sub < 65536) (hz : zone ≤ 1)
  (hp : f.payload = cal ++ le 2 sub ++ le 1 zone ++ le 1 0)
include hc hcal hs hz hp

omit h in
/-- A set of the calendar in C00's hands, past its payload. -/
theorem timeSet_judged : let a := accepted s f x 0x0B02 false
    timeSet (requestOf f x 0x0B02) a = if (s.advance f.arrival).shifting then (a, .check 0x0B02)
      else if s.on Obj.TIME_CFG_FOLLOW_PTP.f then (a, .check 0x0B03)
      else match calendarSeconds cal with
        | none => (a, .no St.badValue)
        | some secs => if 32768 ≤ sub then (a, .no St.badValue)
          else (({ a with rtc := { (s.advance f.arrival).rtc with setReq := some (secs * 32768 + sub, zone == 1) } }).wr
            Obj.TIME_CFG_ZONE.f zone, .later .timeSet) := by
  have hlen : f.payload.length = 12 := by simp [hp, hcal, le_length]
  have hlast : field f.payload 11 1 = 0 := by simp [hp, hcal, le_length, field_append_right]
  have hzone : field f.payload 10 1 = zone := by
    simp [hp, hcal, le_length, field_append_left, field_append_right]
    omega
  have hsub : field f.payload 8 2 = sub := by
    simp [hp, hcal, le_length, field_append_left, field_append_right]
    omega
  have hsecs : calendarSeconds f.payload = calendarSeconds cal := by
    rw [hp, List.append_assoc, List.append_assoc, calendarSeconds_append hcal]
  have hon : (accepted s f x 0x0B02 false).on Obj.TIME_CFG_FOLLOW_PTP.f = s.on Obj.TIME_CFG_FOLLOW_PTP.f := by
    unfold State.on
    rw [accepted_rd]
  dsimp only
  unfold timeSet
  rw [permitted_owner hh, decide_eq_true hc, if_neg (by decide), requestOf_payload, hlen, hlast, hzone, hsub, hsecs, accepted_shifting, hon, accepted_rtc,
    if_neg (by omega)] <;> rfl

theorem timeSet_shifting (hb : (s.advance f.arrival).shifting = true) : Checked (.cmdTimeSet f) s f x 0x0B02 0x0B02 := by
  refine refuses_of (c := { code := 0x0B02 }) (body := timeSet) rfl h ?_
  exact (timeSet_judged hh hc hcal hs hz hp).trans (if_pos hb)

theorem timeSet_follows (hb : (s.advance f.arrival).shifting = false) (ho : s.on Obj.TIME_CFG_FOLLOW_PTP.f = true) :
    Checked (.cmdTimeSet f) s f x 0x0B02 0x0B03 := by
  refine refuses_of (c := { code := 0x0B02 }) (body := timeSet) rfl h ?_
  exact (timeSet_judged hh hc hcal hs hz hp).trans ((if_neg (by simp [hb])).trans (if_pos ho))

theorem timeSet_badValue (hb : (s.advance f.arrival).shifting = false) (ho : s.on Obj.TIME_CFG_FOLLOW_PTP.f = false)
    (hv : calendarSeconds cal = none ∨ 32768 ≤ sub) : Reports' (.cmdTimeSet f) s f x 0x0B02 0x0022 := by
  refine refuses_of (c := { code := 0x0B02 }) (body := timeSet) rfl h ?_
  refine (timeSet_judged hh hc hcal hs hz hp).trans ((if_neg (by simp [hb])).trans ((if_neg (by simp [ho])).trans ?_))
  rcases hv with hv | hv
  · rw [hv]
    rfl
  · cases calendarSeconds cal with
    | none => rfl
    | some secs => exact if_pos hv

theorem timeSet_later (hb : (s.advance f.arrival).shifting = false) (ho : s.on Obj.TIME_CFG_FOLLOW_PTP.f = false)
    {secs : Nat} (hsecs : calendarSeconds cal = some secs) (hsub : sub < 32768) : Completes (.cmdTimeSet f) s fun t =>
      t.rtc = { (s.advance f.arrival).rtc with setReq := some (secs * 32768 + sub, decide (zone = 1)) } ∧
      OneField s t Obj.TIME_CFG_ZONE.f zone ∧ t.sent = s.sent ∧
      ∃ y ∈ t.waiters, y.sid = x.id ∧ y.seq = f.seq.toNat ∧ y.cmd = 0x0B02 ∧ y.wait = .timeSet := by
  have hbody := timeSet_judged hh hc hcal hs hz hp
  dsimp only at hbody
  rw [if_neg (by simp [hb]), if_neg (by simp [ho]), hsecs] at hbody
  dsimp only at hbody
  rw [if_neg (by omega)] at hbody
  refine completes_later (c := { code := 0x0B02 }) (body := timeSet) rfl h hbody ⟨?_, ?_, accepted_sent s f x 0x0B02 false, ?_⟩
  · rw [← beq_eq_decide]
    rfl
  · exact (OneField.wr (t := { accepted s f x 0x0B02 false with
      rtc := { (s.advance f.arrival).rtc with setReq := some (secs * 32768 + sub, zone == 1) } })
      (accepted_regs s f x 0x0B02 false) (Nat.mod_eq_of_lt (show zone < 2 by omega))).congr rfl
  · exact ⟨_, List.mem_append_right _ (List.mem_singleton.mpr rfl), rfl, rfl, rfl, rfl⟩

end

section
variable {n : Nat} (hc : x.comp = 0) (hn : n < 65536) (hp : f.payload = le 2 n ++ le 2 0)
include hc hn hp

omit h in
/-- A shift of the calendar in C00's hands, past its payload. -/
theorem timeShift_judged : let a := accepted s f x 0x0B03 false
    timeShift (requestOf f x 0x0B03) a = if (s.advance f.arrival).shifting then (a, .check 0x0B02)
      else if n = 0 ∨ n = 32768 then (a, .no St.badValue) else (a.shift (sgn 16 n), .pending .timeShift) := by
  have hlen : f.payload.length = 4 := by simp [hp, le_length]
  have hlow : field f.payload 0 2 = n := by
    simp [hp]
    omega
  have hhigh : field f.payload 2 2 = 0 := by simp [hp, le_length, field_append_right]
  have hrange : (sgn 16 n = 0 ∨ sgn 16 n < -32767 ∨ 32767 < sgn 16 n) ↔ (n = 0 ∨ n = 32768) := by
    unfold sgn
    split <;> omega
  dsimp only
  unfold timeShift
  rw [permitted_owner hh, decide_eq_true hc, requestOf_payload, hlow, hlen, hhigh, accepted_shifting]
  refine (if_neg (by decide)).trans ((if_neg (by omega)).trans ?_)
  split
  · rfl
  · by_cases hz : n = 0 ∨ n = 32768
    · rw [if_pos hz, if_pos (hrange.mpr hz)]
    · rw [if_neg hz, if_neg (fun h => hz (hrange.mp h))]

theorem timeShift_shifting (hb : (s.advance f.arrival).shifting = true) : Checked (.cmdTimeShift f) s f x 0x0B03 0x0B02 := by
  refine refuses_of (c := { code := 0x0B03 }) (body := timeShift) rfl h ?_
  exact (timeShift_judged hh hc hn hp).trans (if_pos hb)

theorem timeShift_badValue (hb : (s.advance f.arrival).shifting = false) (hz : n = 0 ∨ n = 32768) :
    Reports' (.cmdTimeShift f) s f x 0x0B03 0x0022 := by
  refine refuses_of (c := { code := 0x0B03 }) (body := timeShift) rfl h ?_
  exact (timeShift_judged hh hc hn hp).trans ((if_neg (by simp [hb])).trans (if_pos hz))

theorem timeShift_pending (hb : (s.advance f.arrival).shifting = false) (h0 : n ≠ 0) (h1 : n ≠ 32768) :
    Completes (.cmdTimeShift f) s fun t => Waits s t f x 0x0B03 .timeShift ∧ t.regs = s.regs ∧
      (0 < sgn 16 n → t.rtc = { (s.advance f.arrival).rtc with add := (sgn 16 n).toNat }) ∧
      (sgn 16 n < 0 → t.rtc = { (s.advance f.arrival).rtc with suppress := (-sgn 16 n).toNat }) := by
  have hbody := timeShift_judged hh hc hn hp
  dsimp only at hbody
  rw [if_neg (by simp [hb]), if_neg (by omega)] at hbody
  have hshift (a : State) (k : Int) : a.shift k = { a with rtc := (a.shift k).rtc } := by
    unfold State.shift
    split <;> rfl
  refine completes_pending (c := { code := 0x0B03 }) (body := timeShift) rfl h hbody
    ((accepted_session (code := 0x0B03) (can := false) h).congr (by rw [hshift]))
    fun pm => ⟨⟨?_, [⟨x.id, f.seq.toNat, 0x0B03, .timeShift, false, x.comp⟩], ?_, rfl⟩, ?_, fun hk => ?_, fun hk => ?_⟩
  · rw [hshift, ← accepted_sent s f x 0x0B03 false]
  · rw [hshift, ← accepted_waiters s f x 0x0B03 false]
  · rw [hshift, ← accepted_regs s f x 0x0B03 false]
  · rw [← accepted_rtc s f x 0x0B03 false]
    unfold State.shift
    rw [if_pos (by omega)]
  · rw [← accepted_rtc s f x 0x0B03 false]
    unfold State.shift
    rw [if_neg (by omega)]

end
end

/-! ### The instants of the calendar -/

/-- A set is loaded at the tick after its acceptance (R335). -/
theorem calendarSetApply_spec {s : State} {cal : Nat} {zone : Bool} (h : s.rtc.setReq = some (cal, zone)) : let t := calendarSetApply s
    t.rtc.cal = cal ∧ t.rtc.valid = true ∧ t.rtc.zone = zone ∧ t.rtc.setReq = none ∧ t.rtc.ticks = s.rtc.ticks ∧
    t.floorTime = s.floorTime ∧ t.rd Obj.TIME_SET_COUNT.f = (s.rd Obj.TIME_SET_COUNT.f + 1) % 2 ^ 32 ∧
    t.rd Obj.TIME_EVT_RTC_SET.f = 1 ∧ Logged s t 0 0x0B03 (calendarBytes s.rtc.cal ++ calendarBytes cal) ∧
    Finishes s t .timeSet 0 (le 8 s.rtc.ticks ++ calendarBytes s.rtc.cal) := by
  obtain ⟨hcal, hvalid, hzone, hset, hticks, hfloor, hcount, hflag, hwait, hsess, hsent, hlog⟩ := loadCalendar_spec s cal zone
  have happly : calendarSetApply s = (s.loadCalendar cal zone).finish .timeSet 0 (le 8 s.rtc.ticks ++ calendarBytes s.rtc.cal) := by
    unfold calendarSetApply
    rw [h, ← hticks]
    rfl
  rw [happly]
  generalize s.loadCalendar cal zone = u at *
  have hf := finishes_finish (u := u) .timeSet 0 (le 8 s.rtc.ticks ++ calendarBytes s.rtc.cal) hwait hsess hsent
  have he := u.finish_ended .timeSet 0 (le 8 s.rtc.ticks ++ calendarBytes s.rtc.cal)
  have hkeep := he.eq
  have hrd := he.rd
  have hpend := he.pend
  generalize u.finish .timeSet 0 (le 8 s.rtc.ticks ++ calendarBytes s.rtc.cal) = t at *
  refine ⟨?_, ?_, ?_, ?_, ?_, ?_, (hrd _ (by decide)).trans hcount, (hrd _ (by decide)).trans hflag, hlog.of_prefix hpend, hf⟩ <;>
    rw [hkeep] <;> assumption

theorem finish_rtc (s : State) (w : Wait) (st : Nat) (p : Bytes) : (s.finish w st p).rtc = s.rtc := by rw [(s.finish_ended w st p).eq]

/-- Settles O50: each command by what it is refused for, in order; each instant by its condition. -/
theorem calendarCommands : Obligations.CalendarCommands := by
  unfold Obligations.CalendarCommands
  refine ⟨fun f s x h hh => ⟨timeGet_reports h hh, timeGet_payload h hh, fun hc => ⟨timeSet_tenant h hh hc, timeShift_tenant h hh hc⟩,
    fun cal sub zone hc hcal hs hz hp => ⟨timeSet_shifting h hh hc hcal hs hz hp, timeSet_follows h hh hc hcal hs hz hp,
      fun hb ho => ⟨timeSet_badValue h hh hc hcal hs hz hp hb ho, fun secs => timeSet_later h hh hc hcal hs hz hp hb ho⟩⟩,
    fun n hc hn hp => ⟨timeShift_shifting h hh hc hn hp, timeShift_badValue h hh hc hn hp, timeShift_pending h hh hc hn hp⟩⟩,
    fun now s => ⟨fun cal zone hset => ?apply, fun hset => ?none, fun hb => ?done, fun hb => ?shifting, fun hc => ?rolled, fun hc => ?within⟩⟩
  case apply => exact .of_exec (t := calendarSetApply (s.advance now)) rfl (calendarSetApply_spec (s := s.advance now) hset)
  case none =>
    refine .of_exec (t := calendarSetApply (s.advance now)) rfl ?_
    have hset' : (s.advance now).rtc.setReq = none := hset
    unfold calendarSetApply
    rw [hset']
  case done =>
    refine .of_exec (t := shiftDone (s.advance now)) rfl ?_
    have hb' : ¬ ((s.advance now).rtc.suppress > 0 ∨ (s.advance now).rtc.add > 0) := of_decide_eq_false hb
    unfold shiftDone
    rw [if_pos (by omega)]
    exact ⟨finish_rtc _ _ _ _, finishes_finish _ _ _ rfl rfl rfl⟩
  case shifting =>
    refine .of_exec (t := shiftDone (s.advance now)) rfl ?_
    have hb' : (s.advance now).rtc.suppress > 0 ∨ (s.advance now).rtc.add > 0 := of_decide_eq_true hb
    exact if_neg (by omega)
  case rolled => exact .of_exec (t := calendarRollover (s.advance now)) rfl (if_pos hc)
  case within => exact .of_exec (t := calendarRollover (s.advance now)) rfl (if_neg (by omega))

end Sys2Proof.Proofs
end

section
/-!
SUPPORT. The performance monitor: its freeze, its rings and its commands (spec/19).
-/
namespace Sys2Proof.Machine
open Sys2Proof.Claims

/-! ### Lists of writes -/

theorem State.rd_wrs_ne {s : State} {l : List (Fld × Nat)} {g : Fld} (h : ∀ p ∈ l, p.1.key ≠ g.key) : (s.wrs l).rd g = s.rd g := by
  induction l generalizing s with
  | nil => rfl
  | cons p l ih =>
    exact (ih (s := s.wr p.1 p.2) fun q hq => h q (List.mem_cons_of_mem _ hq)).trans (State.rd_wr_ne _ _ _ _ (h p List.mem_cons_self))

/-- A field written once in a list of writes reads what is written. -/
theorem State.rd_wrs_mem {s : State} {l : List (Fld × Nat)} {f : Fld} {v : Nat} (hn : (l.map fun p => p.1.key).Nodup) (h : (f, v) ∈ l) :
    (s.wrs l).rd f = v % 2 ^ f.width := by
  induction l generalizing s with
  | nil => cases h
  | cons p l ih =>
    obtain ⟨hp, hl⟩ := List.nodup_cons.mp hn
    rcases List.mem_cons.mp h with rfl | h
    · have hne : ∀ q ∈ l, q.1.key ≠ f.key := fun q hq hk => hp (List.mem_map.mpr ⟨q, hq, hk⟩)
      exact (State.rd_wrs_ne (s := s.wr f v) hne).trans (State.rd_wr_self _ _ _)
    · exact ih (s := s.wr p.1 p.2) hl h

theorem State.wrs_eq (s : State) (l : List (Fld × Nat)) : s.wrs l = { s with regs := (s.wrs l).regs } := by
  induction l generalizing s with
  | nil => rfl
  | cons p l ih => exact (ih (s.wr p.1 p.2)).trans rfl

theorem State.rd_draw (s : State) (g : Fld) : s.draw.2.rd g = s.rd g := rfl

/-! ### The freeze (R441) -/

/-- The snapshots of a freeze. -/
def State.snapshots (s : State) : List (Fld × Nat) :=
  ((List.range 18).map fun u => (Obj.PMON_CYC_SNAP.i u, s.pmonCyc u)) ++
  pmonOrder.flatMap fun x => [(Obj.PMON_CNT_SNAP.ij x.1 x.2, (s.perfNow x.1 x.2).value), (Obj.PMON_CNT_SNAP_WRAPS.ij x.1 x.2, (s.perfNow x.1 x.2).wraps)]

/-- The places of the snapshots. -/
def snapshotKeys : List Nat :=
  ((List.range 18).map fun u => (Obj.PMON_CYC_SNAP.i u).key) ++
  pmonOrder.flatMap fun x => [(Obj.PMON_CNT_SNAP.ij x.1 x.2).key, (Obj.PMON_CNT_SNAP_WRAPS.ij x.1 x.2).key]

theorem State.snapshots_keys (s : State) : (s.snapshots.map fun p => p.1.key) = snapshotKeys := by
  simp only [State.snapshots, snapshotKeys, List.map_append, List.map_map, List.map_flatMap]
  rfl

theorem snapshotKeys_nodup : snapshotKeys.Nodup := by decide +kernel

/-- The snapshots are in, and the freeze shows its instant and number. -/
def State.showFreeze (s : State) (l : List (Fld × Nat)) : State :=
  ((s.wrs l).wr Obj.PMON_FREEZE_TIME.f s.floorTime).inc Obj.PMON_FREEZE_SEQ.f

theorem State.freeze_eq (s : State) :
    s.freeze = { s.showFreeze s.snapshots with pmon := { (s.showFreeze s.snapshots).pmon with lastFreeze := some s.floorTime } } := by
  have hfold : s.wrs s.snapshots = pmonOrder.foldl (fun t x => t.wrs [(Obj.PMON_CNT_SNAP.ij x.1 x.2, (s.perfNow x.1 x.2).value),
      (Obj.PMON_CNT_SNAP_WRAPS.ij x.1 x.2, (s.perfNow x.1 x.2).wraps)])
      ((List.range 18).foldl (fun t u => t.wr (Obj.PMON_CYC_SNAP.i u) (s.pmonCyc u)) s) := by
    unfold State.snapshots State.wrs
    rw [List.foldl_append, List.foldl_flatMap, List.foldl_map]
  unfold State.showFreeze
  rw [hfold]
  rfl

theorem State.showFreeze_eq (s : State) (l : List (Fld × Nat)) : s.showFreeze l = { s with regs := (s.showFreeze l).regs } := by
  unfold State.showFreeze
  rw [State.wrs_eq]
  rfl

theorem State.freeze_shape (s : State) :
    s.freeze = { s with regs := (s.showFreeze s.snapshots).regs, pmon := { s.pmon with lastFreeze := some s.floorTime } } := by
  have h := State.freeze_eq s
  rw [State.showFreeze_eq] at h
  exact h

/-- A field that no freeze writes. -/
def apartFromFreeze (g : Fld) : Bool :=
  ! snapshotKeys.contains g.key && Obj.PMON_FREEZE_TIME.f.key != g.key && Obj.PMON_FREEZE_SEQ.f.key != g.key

theorem State.rd_snapshots {s t : State} {g : Fld} (h : snapshotKeys.contains g.key = false) : (t.wrs s.snapshots).rd g = t.rd g := by
  refine State.rd_wrs_ne fun p hp hk => ?_
  have hm : p.1.key ∈ snapshotKeys := s.snapshots_keys ▸ List.mem_map.mpr ⟨p, hp, rfl⟩
  rw [hk] at hm
  rw [List.contains_iff_mem.mpr hm] at h
  cases h

/-- A field other than the freeze's own reads what the snapshots leave. -/
theorem State.rd_showFreeze {s : State} {l : List (Fld × Nat)} {g : Fld} (ht : Obj.PMON_FREEZE_TIME.f.key ≠ g.key)
    (hq : Obj.PMON_FREEZE_SEQ.f.key ≠ g.key) : (s.showFreeze l).rd g = (s.wrs l).rd g :=
  (State.rd_wr_ne _ _ _ _ hq).trans (State.rd_wr_ne _ _ _ _ ht)

theorem State.showFreeze_own (s : State) (l : List (Fld × Nat)) : (s.showFreeze l).rd Obj.PMON_FREEZE_TIME.f = s.floorTime % 2 ^ 64 ∧
    (s.showFreeze l).rd Obj.PMON_FREEZE_SEQ.f = ((s.wrs l).rd Obj.PMON_FREEZE_SEQ.f + 1) % 2 ^ 32 := by
  unfold State.showFreeze State.inc
  generalize s.wrs l = t
  refine ⟨?_, ?_⟩
  · rw [State.rd_wr_ne _ _ _ _ (by decide), State.rd_wr_self]
    rfl
  · rw [State.rd_wr_self, State.rd_wr_ne _ _ _ _ (by decide)]
    rfl

theorem State.rd_freeze_shown (s : State) (g : Fld) : s.freeze.rd g = (s.showFreeze s.snapshots).rd g :=
  State.rd_congr (by rw [State.freeze_shape]) g

theorem State.rd_freeze {s : State} {g : Fld} (h : apartFromFreeze g = true) : s.freeze.rd g = s.rd g := by
  simp only [apartFromFreeze, Bool.and_eq_true, Bool.not_eq_true', bne_iff_ne] at h
  obtain ⟨⟨hs, ht⟩, hq⟩ := h
  rw [State.rd_freeze_shown, State.rd_showFreeze ht hq, State.rd_snapshots hs]

/-- The places of the snapshots are none of the freeze's own fields. -/
theorem snapshotKeys_apart : snapshotKeys.contains Obj.PMON_FREEZE_TIME.f.key = false ∧ snapshotKeys.contains Obj.PMON_FREEZE_SEQ.f.key = false := by
  decide +kernel

/-- Every counter is copied at one instant (R441). -/
theorem State.frozen_freeze (s : State) : Frozen s s.freeze := by
  have hsnap {f : Fld} {v : Nat} (hm : (f, v) ∈ s.snapshots) : s.freeze.rd f = v % 2 ^ f.width := by
    have hk : f.key ∈ snapshotKeys := s.snapshots_keys ▸ List.mem_map.mpr ⟨_, hm, rfl⟩
    have hne {k : Nat} (h : snapshotKeys.contains k = false) : k ≠ f.key := by
      rintro rfl
      rw [List.contains_iff_mem.mpr hk] at h
      cases h
    rw [State.rd_freeze_shown, State.rd_showFreeze (hne snapshotKeys_apart.1) (hne snapshotKeys_apart.2)]
    exact State.rd_wrs_mem (s.snapshots_keys ▸ snapshotKeys_nodup) hm
  obtain ⟨htime, hseq⟩ := s.showFreeze_own s.snapshots
  refine ⟨fun u hu => ?_, fun x hx => ⟨?_, ?_⟩, (s.rd_freeze_shown _).trans htime, ?_, ?_, ?_⟩
  · rw [hsnap (List.mem_append_left _ (List.mem_map.mpr ⟨u, List.mem_range.mpr hu, rfl⟩))]
    refine Nat.mod_eq_of_lt (show s.pmonCyc u < 2 ^ 64 from ?_)
    unfold State.pmonCyc
    split
    · exact Nat.mod_lt _ (by decide)
    · exact Nat.mod_lt _ (by decide)
  · exact hsnap (List.mem_append_right _ (List.mem_flatMap.mpr ⟨x, hx, List.mem_cons_self⟩))
  · exact hsnap (List.mem_append_right _ (List.mem_flatMap.mpr ⟨x, hx, List.mem_cons_of_mem _ List.mem_cons_self⟩))
  · rw [State.rd_freeze_shown, hseq, State.rd_snapshots snapshotKeys_apart.2]
  · rw [State.freeze_shape]
  · rw [State.freeze_shape]

theorem State.freeze_rest (s : State) : s.freeze.sessions = s.sessions ∧ s.freeze.sent = s.sent := by
  rw [State.freeze_shape]
  exact ⟨rfl, rfl⟩

theorem State.frozenBody_congr {s t : State} (h : t.regs = s.regs) : t.frozenBody = s.frozenBody := by
  unfold State.frozenBody State.on
  simp only [State.rd_congr h]

/-! ### What an accepted request reads of the monitor -/

theorem accepted_on (s : State) (f : Frame) (x : Session) (code : Nat) (can : Bool) (g : Fld) : (accepted s f x code can).on g = s.on g := by
  unfold State.on
  rw [accepted_rd]

theorem accepted_failed (s : State) (f : Frame) (x : Session) (code : Nat) (can : Bool) (u : Nat) :
    (accepted s f x code can).failed u = s.failed u := by
  unfold State.failed
  rw [accepted_rd]

theorem accepted_dump (s : State) (f : Frame) (x : Session) (code : Nat) (can : Bool) : (accepted s f x code can).pmon.dump = s.pmon.dump := by
  obtain ⟨ss, cn, h⟩ := accepted_eq s f x code can
  rw [h]

theorem accepted_samp (s : State) (f : Frame) (x : Session) (code : Nat) (can : Bool) : (accepted s f x code can).pmon.samp = s.pmon.samp := by
  obtain ⟨ss, cn, h⟩ := accepted_eq s f x code can
  rw [h]

theorem mem_pmonOrder {u k : Nat} (hu : u < 18) (hk : k < pmonCounters u) : (u, k) ∈ pmonOrder :=
  List.mem_flatMap.mpr ⟨u, List.mem_range.mpr hu, List.mem_map.mpr ⟨k, List.mem_range.mpr hk, rfl⟩⟩

theorem State.pmonUnits_congr {s t : State} (h : ∀ x ∈ pmonOrder, t.rd (Obj.PMON_CNT_ENABLE.ij x.1 x.2) = s.rd (Obj.PMON_CNT_ENABLE.ij x.1 x.2)) :
    t.pmonUnits = s.pmonUnits := by
  have hany (u : Nat) (hu : u < 18) : (List.range (pmonCounters u)).any (fun k => t.on (Obj.PMON_CNT_ENABLE.ij u k)) =
      (List.range (pmonCounters u)).any fun k => s.on (Obj.PMON_CNT_ENABLE.ij u k) := by
    rw [Bool.eq_iff_iff, List.any_eq_true, List.any_eq_true]
    refine exists_congr fun k => and_congr_right fun hk => ?_
    unfold State.on
    rw [h (u, k) (mem_pmonOrder hu (List.mem_range.mp hk))]
  unfold State.pmonUnits
  rw [List.filter_congr fun u hu => hany u (List.mem_range.mp hu)]

theorem accepted_pmonUnits (s : State) (f : Frame) (x : Session) (code : Nat) (can : Bool) :
    (accepted s f x code can).pmonUnits = s.pmonUnits :=
  State.pmonUnits_congr fun y _ => accepted_rd s f x code can (Obj.PMON_CNT_ENABLE.ij y.1 y.2)

/-- Check 7 of an accepted request. -/
theorem accepted_permitted (o : Open) (modes : List Nat) (s : State) (f : Frame) (x : Session) (code code' : Nat) (can : Bool) :
    permitted o modes (requestOf f x code') (accepted s f x code can) = (o.ok x.comp && modes.contains s.mode) := by
  unfold permitted
  rw [accepted_mode]
  rfl

theorem belowOldest_iff (l : List (Nat × Bytes)) (first : Nat) : belowOldest l first = false ↔ Held l first := by
  unfold belowOldest Held
  cases l.head? with
  | none => exact ⟨fun _ _ hr => (nomatch hr), fun _ => rfl⟩
  | some r =>
    rw [Option.any_some]
    exact ⟨fun hb q hq => Option.some.inj hq ▸ hb, fun hh => hh r rfl⟩

/-! ### Samples (R449) -/

/-- How CMD_DIAG_PMON_SAMPLE_READ behaves in the protocol. -/
def sampleSpec (f : Frame) : CmdSpec :=
  { code := 0x0C03, cancellable := true, removes := field f.payload 6 1 == 1, rereads := field f.payload 6 1 != 1 }

/-- Whether a compartment may ask for samples. -/
def mayAsk (s : State) (c : Nat) : Prop := c < 2 ∨ bit (s.rd Obj.PERF_USER_EN.f) c = true

/-- Whether a compartment's samples are the ones taken, or it sees all. -/
def seesSamples (s : State) (c : Nat) : Prop := c < 2 ∨ (s.on Obj.PMON_SAMP_FILTER_EN.f = true ∧ s.rd Obj.PMON_SAMP_COMP.f = c)

/-- The samples a request of a compartment gets. -/
def samplesFrom (s : State) (c first count : Nat) : List (Nat × Bytes) :=
  ((s.pmon.samp.filter fun r => ! seqAfter first r.1).filter fun r => decide (c < 2) || field r.2 12 1 == c).take count

/-- How those samples are shown. -/
def samplesReply (s : State) (c first count : Nat) : List Bytes :=
  (samplesFrom s c first count).map fun r => if c < 2 then redact r.2 else r.2

/-- The buffer without the samples handed over; a stopped sampler goes on. -/
def State.handSamples (s : State) (got : List (Nat × Bytes)) : State :=
  let s1 := s.putSamples (s.pmon.samp.filter fun r => ! got.contains r)
  if s1.on Obj.PMON_STATUS_SAMP_STOPPED.f then ((s1.wr Obj.PMON_STATUS_SAMP_STOPPED.f 0).reload 0).reload 1 else s1

theorem State.putSamples_eq (s : State) (l : List (Nat × Bytes)) :
    s.putSamples l = { s with regs := (s.putSamples l).regs, pmon := { s.pmon with samp := l } } := State.wrs_eq _ _

theorem State.rd_putSamples (s : State) (l : List (Nat × Bytes)) : (s.putSamples l).rd Obj.PMON_SAMP_HELD.f = l.length % 2 ^ 12 ∧
    (s.putSamples l).rd Obj.PMON_SAMP_NEWEST.f = (l.getLast?.map fun r : Nat × Bytes => r.1).getD 0 % 2 ^ 32 ∧
    ∀ g : Fld, (∀ r ∈ [Obj.PMON_SAMP_NEWEST, Obj.PMON_SAMP_OLDEST, Obj.PMON_SAMP_HELD], r.f.key ≠ g.key) → (s.putSamples l).rd g = s.rd g := by
  unfold State.putSamples
  have hn : [Obj.PMON_SAMP_NEWEST.f.key, Obj.PMON_SAMP_OLDEST.f.key, Obj.PMON_SAMP_HELD.f.key].Nodup := by decide
  refine ⟨State.rd_wrs_mem hn (by simp), State.rd_wrs_mem hn (by simp), fun g hg => ?_⟩
  simp only [List.mem_cons, List.not_mem_nil, or_false, forall_eq_or_imp, forall_eq] at hg
  obtain ⟨hn, ho, hh⟩ := hg
  refine (State.rd_wrs_ne fun p hp => ?_).trans rfl
  simp only [List.mem_cons, List.not_mem_nil, or_false] at hp
  rcases hp with rfl | rfl | rfl
  · exact hn
  · exact ho
  · exact hh

theorem State.reload_shape (s : State) (e : Nat) : ∃ x n, s.reload e = { s with pmon := { s.pmon with lfsr := x, counts := n } } := ⟨_, _, rfl⟩

/-- Handing samples over leaves the rest of the monitor, and lets a stopped sampler go on. -/
theorem State.handSamples_spec (s : State) (got : List (Nat × Bytes)) : let t := s.handSamples got
    (∃ r x n, t = { s with regs := r, pmon := { s.pmon with samp := s.pmon.samp.filter (fun r => ! got.contains r), lfsr := x, counts := n } }) ∧
    (s.on Obj.PMON_STATUS_SAMP_STOPPED.f = true → t.rd Obj.PMON_STATUS_SAMP_STOPPED.f = 0) ∧
    t.rd Obj.PMON_SAMP_HELD.f = (s.pmon.samp.filter fun r => ! got.contains r).length % 2 ^ 12 := by
  unfold State.handSamples
  obtain ⟨hheld, -, hrest⟩ := s.rd_putSamples (s.pmon.samp.filter fun r => ! got.contains r)
  have hkeep := s.putSamples_eq (s.pmon.samp.filter fun r => ! got.contains r)
  have hstop : (s.putSamples (s.pmon.samp.filter fun r => ! got.contains r)).rd Obj.PMON_STATUS_SAMP_STOPPED.f =
      s.rd Obj.PMON_STATUS_SAMP_STOPPED.f := hrest _ (by decide)
  generalize s.putSamples (s.pmon.samp.filter fun r => ! got.contains r) = u at *
  dsimp only
  by_cases hon : u.on Obj.PMON_STATUS_SAMP_STOPPED.f = true
  · rw [if_pos hon]
    obtain ⟨x, n, h1⟩ := (u.wr Obj.PMON_STATUS_SAMP_STOPPED.f 0).reload_shape 0
    obtain ⟨y, m, h2⟩ := ((u.wr Obj.PMON_STATUS_SAMP_STOPPED.f 0).reload 0).reload_shape 1
    have hregs : (((u.wr Obj.PMON_STATUS_SAMP_STOPPED.f 0).reload 0).reload 1).regs = (u.wr Obj.PMON_STATUS_SAMP_STOPPED.f 0).regs := by
      rw [h2, h1]
    refine ⟨⟨(u.wr Obj.PMON_STATUS_SAMP_STOPPED.f 0).regs, y, m, ?_⟩, fun _ => State.rd_self_of_regs hregs, ?_⟩
    · rw [h2, h1, hkeep]
      rfl
    · exact (State.rd_ne_of_regs (a := u) (v := 0) hregs (by decide)).trans hheld
  · rw [if_neg hon]
    refine ⟨⟨u.regs, u.pmon.lfsr, u.pmon.counts, ?_⟩, fun h => absurd ?_ hon, hheld⟩
    · rw [hkeep]
    · unfold State.on at h ⊢
      rwa [hstop]

end Sys2Proof.Machine

namespace Sys2Proof.Proofs
open Sys2Proof.Machine Sys2Proof.Claims

/-! ### The commands of the monitor -/

section
variable {f : Frame} {s : State} {x : Session} (h : Admitted s f x) (h4 : 4 ≤ s.mode) (h9 : s.mode ≤ 9)
include h h4 h9

omit h in
theorem monitor_permitted (o : Open) (code : Nat) (can : Bool) :
    permitted o m4to9 (requestOf f x code) (accepted s f x code can) = o.ok x.comp := by
  have hm : m4to9.contains s.mode = true := by
    simp only [m4to9, List.contains_eq_mem, List.mem_cons, List.not_mem_nil, or_false, decide_eq_true_eq]
    omega
  rw [accepted_permitted, hm, Bool.and_true]

theorem pmonFreeze_tenant (hc : 2 ≤ x.comp) : Reports' (.cmdDiagPmonFreeze f) s f x 0x0C01 0x0019 := by
  refine refuses_of (c := { code := 0x0C01, removes := true }) (body := cmdPmonFreeze) rfl h ?_
  have hno : Open.ok .ownerAndC01 x.comp = false := decide_eq_false (by omega)
  unfold cmdPmonFreeze
  rw [monitor_permitted h4 h9, hno]
  exact if_pos rfl

theorem pmonDumpRead_tenant (hc : 2 ≤ x.comp) : Reports' (.cmdDiagPmonDumpRead f) s f x 0x0C02 0x0019 := by
  refine refuses_of (c := { code := 0x0C02, cancellable := true, rereads := true }) (body := cmdPmonDumpRead) rfl h ?_
  have hno : Open.ok .ownerAndC01 x.comp = false := decide_eq_false (by omega)
  unfold cmdPmonDumpRead
  rw [monitor_permitted h4 h9, hno]
  exact if_pos rfl

section
variable (hc : x.comp < 2) (hf : s.failed 11 = false) (hp : f.payload = [])
include hc hf hp

omit h in
theorem pmonFreeze_judged : let a := accepted s f x 0x0C01 false
    cmdPmonFreeze (requestOf f x 0x0C01) a = if s.pmonUnits ≤ 4 then
        (a.freeze.draw.2, .ok (le 4 a.freeze.draw.1 ++ a.freeze.draw.2.frozenBody ++ le 4 a.freeze.draw.1))
      else (a, .check 0x0C01) := by
  have hyes : Open.ok .ownerAndC01 x.comp = true := decide_eq_true (by omega)
  have hmay : (accepted s f x 0x0C01 false).mayFreeze = decide (s.pmonUnits ≤ 4) := by
    unfold State.mayFreeze
    rw [accepted_pmonUnits]
  dsimp only
  unfold cmdPmonFreeze
  rw [monitor_permitted h4 h9, hyes, requestOf_payload, hp, accepted_failed, hf, hmay]
  by_cases hu : s.pmonUnits ≤ 4
  · rw [if_pos hu, decide_eq_true hu]
    rfl
  · rw [if_neg hu, decide_eq_false hu]
    rfl

theorem pmonFreeze_refused (hu : 4 < s.pmonUnits) : Checked (.cmdDiagPmonFreeze f) s f x 0x0C01 0x0C01 := by
  refine refuses_of (c := { code := 0x0C01, removes := true }) (body := cmdPmonFreeze) rfl h ?_
  exact (pmonFreeze_judged h4 h9 hc hf hp).trans (if_neg (by omega))

theorem pmonFreeze_done (hu : s.pmonUnits ≤ 4) : Completes (.cmdDiagPmonFreeze f) s fun t =>
    t.rd Obj.PMON_FREEZE_TIME.f = (s.advance f.arrival).floorTime % 2 ^ 64 ∧
    t.rd Obj.PMON_FREEZE_SEQ.f = (s.rd Obj.PMON_FREEZE_SEQ.f + 1) % 2 ^ 32 ∧
    ∃ n, Answers s t f x 0x0C01 0 (le 4 n ++ t.frozenBody ++ le 4 n) := by
  have hbody := (pmonFreeze_judged h4 h9 hc hf hp).trans (if_pos hu)
  have hspeak : Speaks (accepted s f x 0x0C01 false) f x := accepted_session h
  obtain ⟨-, -, htime, hseq, -⟩ := (accepted s f x 0x0C01 false).frozen_freeze
  obtain ⟨hs, ho⟩ := (accepted s f x 0x0C01 false).freeze_rest
  rw [accepted_floorTime] at htime
  rw [accepted_rd] at hseq
  rw [accepted_sent] at ho
  replace hs := hspeak.congr ((State.draw_sessions _).trans hs)
  replace ho := (State.draw_sent _).trans ho
  replace htime := (State.rd_draw _ _).trans htime
  replace hseq := (State.rd_draw _ _).trans hseq
  generalize (accepted s f x 0x0C01 false).freeze.draw = d at *
  refine completes_ok (c := { code := 0x0C01, removes := true }) (body := cmdPmonFreeze) rfl h hbody hs fun ss cn => ?_
  refine ⟨htime, hseq, d.1, ?_⟩
  unfold Answers
  rw [ho]
  rfl

end

section
variable {first count : Nat} (hc : x.comp < 2) (hf : s.failed 11 = false) (hfirst : first < 2 ^ 32) (h1 : 1 ≤ count) (h159 : count ≤ 159)
  (hp : f.payload = le 4 first ++ le 2 count ++ le 2 0)
include hc hf hfirst h1 h159 hp

omit h in
theorem pmonDumpRead_judged : let a := accepted s f x 0x0C02 true
    cmdPmonDumpRead (requestOf f x 0x0C02) a = if belowOldest s.pmon.dump first then (a, .no St.overwritten)
      else (a, recordsReply (((fromSeq s.pmon.dump first).take count).map (·.2))) := by
  have hyes : Open.ok .ownerAndC01 x.comp = true := decide_eq_true (by omega)
  have hlen : f.payload.length = 8 := by simp [hp, le_length]
  have hfield : field f.payload 0 4 = first := by
    simp [hp, field_append_left, le_length]
    omega
  have hcount : field f.payload 4 2 = count := by
    simp [hp, field_append_left, field_append_right, le_length]
    omega
  dsimp only
  unfold cmdPmonDumpRead
  rw [monitor_permitted h4 h9, hyes, requestOf_payload, hlen, hfield, hcount, accepted_failed, hf, accepted_dump]
  exact (if_neg (by decide)).trans ((if_neg (by omega)).trans (if_neg (by decide)))

theorem pmonDumpRead_overwritten (hd : ¬ Held s.pmon.dump first) : Reports' (.cmdDiagPmonDumpRead f) s f x 0x0C02 0x0024 := by
  refine refuses_of (c := { code := 0x0C02, cancellable := true, rereads := true }) (body := cmdPmonDumpRead) rfl h ?_
  refine (pmonDumpRead_judged h4 h9 hc hf hfirst h1 h159 hp).trans (if_pos ?_)
  simpa using fun hb => hd ((belowOldest_iff _ _).mp hb)

theorem pmonDumpRead_records (hd : Held s.pmon.dump first) : Reports (.cmdDiagPmonDumpRead f) s f x 0x0C02
    (records (((s.pmon.dump.filter fun r => ! seqAfter first r.1).take count).map (·.2))) := by
  refine reports_of (c := { code := 0x0C02, cancellable := true, rereads := true }) (body := cmdPmonDumpRead) rfl h ?_
  refine (pmonDumpRead_judged h4 h9 hc hf hfirst h1 h159 hp).trans (if_neg ?_)
  rw [(belowOldest_iff _ _).mpr hd]
  decide

end

section
variable {first count flags : Nat} (hc : x.comp < 34) (hfirst : first < 2 ^ 32) (h1 : 1 ≤ count) (h2048 : count ≤ 2048) (hflags : flags < 2)
  (hp : f.payload = le 4 first ++ le 2 count ++ le 1 flags ++ le 1 0)
include hc hfirst h1 h2048 hflags hp

omit h in
theorem pmonSampleRead_judged (can : Bool) : let a := accepted s f x 0x0C03 can
    (¬ mayAsk s x.comp → cmdPmonSampleRead (requestOf f x 0x0C03) a = (a, .no St.notPermitted)) ∧
    (mayAsk s x.comp → ¬ seesSamples s x.comp → cmdPmonSampleRead (requestOf f x 0x0C03) a = (a, .no St.noObject)) ∧
    (mayAsk s x.comp → seesSamples s x.comp → s.failed 11 = false → cmdPmonSampleRead (requestOf f x 0x0C03) a =
      if belowOldest s.pmon.samp first then (a, .no St.overwritten)
      else if flags = 1 ∧ samplesFrom s x.comp first count ≠ [] then
        (a.handSamples (samplesFrom s x.comp first count), recordsReply (samplesReply s x.comp first count))
      else (a, recordsReply (samplesReply s x.comp first count))) := by
  have hyes : Open.ok .all x.comp = true := decide_eq_true hc
  have hlen : f.payload.length = 8 := by simp [hp, le_length]
  have hfield : field f.payload 0 4 = first := by
    simp [hp, field_append_left, le_length]
    omega
  have hcount : field f.payload 4 2 = count := by
    simp [hp, field_append_left, field_append_right, le_length]
    omega
  have hflag : field f.payload 6 1 = flags := by
    simp [hp, field_append_left, field_append_right, le_length]
    omega
  have hask : (! true || (decide (2 ≤ x.comp) && ! bit (s.rd Obj.PERF_USER_EN.f) x.comp)) = true ↔ ¬ mayAsk s x.comp := by
    simp [mayAsk]
    omega
  have hsees : (! (accepted s f x 0x0C03 can).samplesOf x.comp) = true ↔ ¬ seesSamples s x.comp := by
    unfold State.samplesOf
    rw [accepted_on, accepted_rd]
    cases hon : s.on Obj.PMON_SAMP_FILTER_EN.f <;> simp [seesSamples, hon]
  dsimp only
  unfold cmdPmonSampleRead
  rw [monitor_permitted h4 h9, hyes, requestOf_payload, requestOf_comp, hlen, hfield, hcount, hflag, accepted_failed, accepted_rd, accepted_samp]
  have hshape : ¬ (8 ≠ 8 ∨ count = 0 ∨ 2048 < count ∨ 1 < flags) := by omega
  refine ⟨fun ha => if_pos (hask.mpr ha), fun ha hs => ?_, fun ha hs hf => ?_⟩
  · exact (if_neg fun hb => hask.mp hb ha).trans ((if_neg hshape).trans (if_pos (hsees.mpr hs)))
  · refine (if_neg fun hb => hask.mp hb ha).trans ((if_neg hshape).trans ((if_neg fun hb => hsees.mp hb hs).trans ((if_neg ?_).trans ?_)))
    · rw [hf]
      decide
    · unfold State.handSamples
      rw [accepted_samp]
      rfl

theorem pmonSampleRead_closed (ha : ¬ mayAsk s x.comp) : Reports' (.cmdDiagPmonSampleRead f) s f x 0x0C03 0x0019 := by
  refine refuses_of (c := sampleSpec f) (body := cmdPmonSampleRead) rfl h ?_
  exact (pmonSampleRead_judged h4 h9 hc hfirst h1 h2048 hflags hp true).1 ha

theorem pmonSampleRead_others (ha : mayAsk s x.comp) (hs : ¬ seesSamples s x.comp) : Reports' (.cmdDiagPmonSampleRead f) s f x 0x0C03 0x0020 := by
  refine refuses_of (c := sampleSpec f) (body := cmdPmonSampleRead) rfl h ?_
  exact (pmonSampleRead_judged h4 h9 hc hfirst h1 h2048 hflags hp true).2.1 ha hs

section
variable (ha : mayAsk s x.comp) (hs : seesSamples s x.comp) (hf : s.failed 11 = false)
include ha hs hf

theorem pmonSampleRead_overwritten (hd : ¬ Held s.pmon.samp first) : Reports' (.cmdDiagPmonSampleRead f) s f x 0x0C03 0x0024 := by
  refine refuses_of (c := sampleSpec f) (body := cmdPmonSampleRead) rfl h ?_
  refine ((pmonSampleRead_judged h4 h9 hc hfirst h1 h2048 hflags hp true).2.2 ha hs hf).trans (if_pos ?_)
  simpa using fun hb => hd ((belowOldest_iff _ _).mp hb)

theorem pmonSampleRead_peeks (hd : Held s.pmon.samp first) (hn : flags = 0 ∨ samplesFrom s x.comp first count = []) :
    Reports (.cmdDiagPmonSampleRead f) s f x 0x0C03 (records (samplesReply s x.comp first count)) := by
  refine reports_of (c := sampleSpec f) (body := cmdPmonSampleRead) rfl h ?_
  refine ((pmonSampleRead_judged h4 h9 hc hfirst h1 h2048 hflags hp true).2.2 ha hs hf).trans ((if_neg ?_).trans (if_neg ?_))
  · rw [(belowOldest_iff _ _).mpr hd]
    decide
  · rintro ⟨h1, h2⟩
    rcases hn with hn | hn
    · omega
    · exact h2 hn

theorem pmonSampleRead_takes (hd : Held s.pmon.samp first) (h1' : flags = 1) (hn : samplesFrom s x.comp first count ≠ []) :
    Completes (.cmdDiagPmonSampleRead f) s fun t => Answers s t f x 0x0C03 0 (records (samplesReply s x.comp first count)) ∧
      t.pmon.samp = s.pmon.samp.filter (fun r => ! (samplesFrom s x.comp first count).contains r) ∧
      (s.on Obj.PMON_STATUS_SAMP_STOPPED.f = true → t.rd Obj.PMON_STATUS_SAMP_STOPPED.f = 0) ∧
      t.rd Obj.PMON_SAMP_HELD.f = t.pmon.samp.length % 2 ^ 12 := by
  have hbody := ((pmonSampleRead_judged h4 h9 hc hfirst h1 h2048 hflags hp true).2.2 ha hs hf).trans
    ((if_neg (by rw [(belowOldest_iff _ _).mpr hd]; decide)).trans (if_pos ⟨h1', hn⟩))
  have hspeak : Speaks (accepted s f x 0x0C03 true) f x := accepted_session h
  obtain ⟨⟨r, y, m, hshape⟩, hstop, hheld⟩ := (accepted s f x 0x0C03 true).handSamples_spec (samplesFrom s x.comp first count)
  rw [accepted_on] at hstop
  rw [accepted_samp] at hheld hshape
  have hsent : ((accepted s f x 0x0C03 true).handSamples (samplesFrom s x.comp first count)).sent = s.sent := by
    rw [hshape, ← accepted_sent s f x 0x0C03 true]
  have hsamp : ((accepted s f x 0x0C03 true).handSamples (samplesFrom s x.comp first count)).pmon.samp =
      s.pmon.samp.filter fun r => ! (samplesFrom s x.comp first count).contains r := by rw [hshape]
  replace hspeak := hspeak.congr (t := (accepted s f x 0x0C03 true).handSamples (samplesFrom s x.comp first count)) (by rw [hshape])
  generalize (accepted s f x 0x0C03 true).handSamples (samplesFrom s x.comp first count) = u at *
  refine completes_ok (c := sampleSpec f) (body := cmdPmonSampleRead) rfl h hbody hspeak fun ss cn => ⟨?_, hsamp, hstop, ?_⟩
  · unfold Answers
    rw [hsent]
    rfl
  · rw [hsamp]
    exact hheld

end
end
end

/-- Settles O55: each command by what it is refused for, in order. -/
theorem monitorCommands : Obligations.MonitorCommands := by
  unfold Obligations.MonitorCommands
  intro f s x h h4 h9
  exact ⟨fun hc => ⟨pmonFreeze_tenant h h4 h9 hc, pmonDumpRead_tenant h h4 h9 hc⟩,
    fun hc hf hp => ⟨pmonFreeze_refused h h4 h9 hc hf hp, pmonFreeze_done h h4 h9 hc hf hp⟩,
    fun first count hc hf hfirst h1 h159 hp =>
      ⟨pmonDumpRead_overwritten h h4 h9 hc hf hfirst h1 h159 hp, pmonDumpRead_records h h4 h9 hc hf hfirst h1 h159 hp⟩,
    fun first count flags hc hfirst h1 h2048 hflags hp => ⟨pmonSampleRead_closed h h4 h9 hc hfirst h1 h2048 hflags hp,
      pmonSampleRead_others h h4 h9 hc hfirst h1 h2048 hflags hp, fun ha hs hf =>
        ⟨pmonSampleRead_overwritten h h4 h9 hc hfirst h1 h2048 hflags hp ha hs hf, fun hd =>
          ⟨pmonSampleRead_peeks h h4 h9 hc hfirst h1 h2048 hflags hp ha hs hf hd,
           pmonSampleRead_takes h h4 h9 hc hfirst h1 h2048 hflags hp ha hs hf hd⟩⟩⟩⟩

end Sys2Proof.Proofs
end

section
/-!
SUPPORT. What the performance monitor does of itself and at its switches (spec/19 R440 to R449).
-/
namespace Sys2Proof.Machine
open Sys2Proof.Claims

theorem pmonWriter_advance (s : State) (who : Requester) (now : Nat) : (s.advance now).pmonWriter who = true ↔ PmonWriter s who := by
  have hlive : (s.advance now).live who = s.live who := rfl
  have hcomp : (s.advance now).compOf who = s.compOf who := rfl
  have hfail : (s.advance now).failed 11 = s.failed 11 := rfl
  unfold State.pmonWriter PmonWriter
  rw [hlive, hcomp, hfail]
  simp [and_assoc]

/-! ### Freezes -/

/-- States that differ in nothing but the ARMED flag read the same counters. -/
theorem frozen_armed {a b t : State} (hp : a.pmon = b.pmon) (hf : a.floorTime = b.floorTime)
    (hr : ∀ g : Fld, Obj.PMON_STATUS_ARMED.f.key ≠ g.key → a.rd g = b.rd g) (h : Frozen a t) : Frozen b t := by
  have hkeys : ∀ x ∈ pmonOrder, Obj.PMON_STATUS_ARMED.f.key ≠ (Obj.PMON_CNT_SEL.ij x.1 x.2).key ∧
      Obj.PMON_STATUS_ARMED.f.key ≠ (Obj.PMON_CNT_ENABLE.ij x.1 x.2).key := by decide +kernel
  have hcyc (u : Nat) : a.pmonCyc u = b.pmonCyc u := by
    unfold State.pmonCyc State.cyclesNow State.unitKHz
    rw [hp, hf, hr Obj.IDENT_MODE.f (by decide), hr Obj.PWR_WATCH_PORTS.f (by decide)]
  have hperf (x : Nat × Nat) (hx : x ∈ pmonOrder) : a.perfNow x.1 x.2 = b.perfNow x.1 x.2 := by
    unfold State.perfNow State.on
    rw [hp, hf, hr _ (hkeys x hx).1, hr _ (hkeys x hx).2, hr Obj.PMON_CTRL_RUN.f (by decide)]
  obtain ⟨h1, h2, h3, h4, h5, h6⟩ := h
  refine ⟨fun u hu => (h1 u hu).trans (hcyc u), fun x hx => ?_, hf ▸ h3, ?_, hf ▸ h5, hp ▸ h6⟩
  · rw [← hperf x hx]
    exact h2 x hx
  · rw [h4, hr _ (by decide)]

/-- The armed instant has not come. -/
theorem State.armedFreeze_not {s : State}
    (h : ¬ (s.on Obj.PMON_STATUS_ARMED.f = true ∧ s.rd Obj.PMON_FREEZE_AT.f ≤ s.floorTime ∧ s.failed 11 = false)) : s.armedFreeze = s := by
  unfold State.armedFreeze
  refine if_neg fun hc => h ?_
  simpa [and_assoc] using hc

section
variable {s : State} (ha : s.on Obj.PMON_STATUS_ARMED.f = true) (ht : s.rd Obj.PMON_FREEZE_AT.f ≤ s.floorTime) (hf : s.failed 11 = false)
include ha ht hf

theorem State.armedFreeze_due : s.armedFreeze = if s.pmonUnits ≤ 4 then (s.wr Obj.PMON_STATUS_ARMED.f 0).freeze
    else ((s.wr Obj.PMON_STATUS_ARMED.f 0).set1 Obj.PMON_EVT_FREEZE_DROP.f).logAll [0, 1] 0x0C01 [] := by
  have hkeys : ∀ x ∈ pmonOrder, Obj.PMON_STATUS_ARMED.f.key ≠ (Obj.PMON_CNT_ENABLE.ij x.1 x.2).key := by decide +kernel
  have hunits : (s.wr Obj.PMON_STATUS_ARMED.f 0).pmonUnits = s.pmonUnits := State.pmonUnits_congr fun x hx => State.rd_wr_ne _ _ _ _ (hkeys x hx)
  have hmay : (s.wr Obj.PMON_STATUS_ARMED.f 0).mayFreeze = decide (s.pmonUnits ≤ 4) := by
    unfold State.mayFreeze
    rw [hunits]
  unfold State.armedFreeze
  dsimp only
  rw [if_pos (by simp [ha, ht, hf]), hmay]
  by_cases hu : s.pmonUnits ≤ 4
  · rw [decide_eq_true hu, if_pos rfl, if_pos hu]
  · rw [decide_eq_false hu, if_neg Bool.false_ne_true, if_neg hu]

/-- The armed instant freezes the counters. -/
theorem State.armedFreeze_frozen (hu : s.pmonUnits ≤ 4) : Frozen s s.armedFreeze ∧ s.armedFreeze.rd Obj.PMON_STATUS_ARMED.f = 0 := by
  rw [State.armedFreeze_due ha ht hf, if_pos hu]
  refine ⟨frozen_armed (a := s.wr Obj.PMON_STATUS_ARMED.f 0) rfl rfl (fun g hg => State.rd_wr_ne _ _ _ _ hg) (State.frozen_freeze _), ?_⟩
  rw [State.rd_freeze (by decide +kernel), State.rd_wr_self]
  rfl

/-- With more than four units enabled the freeze is dropped and recorded. -/
theorem State.armedFreeze_dropped (hu : 4 < s.pmonUnits) : s.armedFreeze.pmon = s.pmon ∧ s.armedFreeze.rd Obj.PMON_STATUS_ARMED.f = 0 ∧
    s.armedFreeze.rd Obj.PMON_EVT_FREEZE_DROP.f = 1 ∧ Logged s s.armedFreeze 0 0x0C01 [] ∧ Logged s s.armedFreeze 1 0x0C01 [] := by
  rw [State.armedFreeze_due ha ht hf, if_neg (by omega)]
  have harm : ((s.wr Obj.PMON_STATUS_ARMED.f 0).set1 Obj.PMON_EVT_FREEZE_DROP.f).rd Obj.PMON_STATUS_ARMED.f = 0 := by
    unfold State.set1
    rw [State.rd_wr_ne _ _ _ _ (by decide), State.rd_wr_self]
    rfl
  have hdrop : ((s.wr Obj.PMON_STATUS_ARMED.f 0).set1 Obj.PMON_EVT_FREEZE_DROP.f).rd Obj.PMON_EVT_FREEZE_DROP.f = 1 := State.rd_wr_self _ _ _
  have hfail : ((s.wr Obj.PMON_STATUS_ARMED.f 0).set1 Obj.PMON_EVT_FREEZE_DROP.f).failed 10 = s.failed 10 := by
    unfold State.failed State.set1
    rw [State.rd_wr_ne _ _ _ _ (by decide), State.rd_wr_ne _ _ _ _ (by decide)]
  have hpm : ((s.wr Obj.PMON_STATUS_ARMED.f 0).set1 Obj.PMON_EVT_FREEZE_DROP.f).pmon = s.pmon := rfl
  have hev : ((s.wr Obj.PMON_STATUS_ARMED.f 0).set1 Obj.PMON_EVT_FREEZE_DROP.f).evr = s.evr := rfl
  generalize (s.wr Obj.PMON_STATUS_ARMED.f 0).set1 Obj.PMON_EVT_FREEZE_DROP.f = u at *
  have hr := State.logAll_raised u [0, 1] 0x0C01 [] false
  obtain ⟨hlog0, hlog1⟩ := logged_logAll (s := s) (a := u) (trigger := 0x0C01) (d := []) hfail (hev ▸ List.prefix_rfl) (hev ▸ Nat.le_add_right _ 7)
  exact ⟨by rw [hr.eq, hpm], (hr.rd _ (by decide)).trans harm, (hr.rd _ (by decide)).trans hdrop, hlog0, hlog1⟩

end

/-! ### Countdowns -/

/-- Both countdowns, reloaded from an LFSR. -/
theorem State.reload_counts (s : State) (seed : Nat) (hl : s.pmon.counts.length = 2) :
    let n := s.rd Obj.PMON_SAMP_N.f
    let m := 2 ^ s.rd Obj.PMON_SAMP_RAND.f
    ∃ y z, ((State.reload { s with pmon := { s.pmon with lfsr := seed } } 0).reload 1).pmon.counts = [n - n % m + y % m, n - n % m + z % m] := by
  obtain ⟨c0, c1, hc⟩ := List.length_eq_two.mp hl
  refine ⟨lfsrStep seed, lfsrStep (lfsrStep seed), ?_⟩
  unfold State.reload
  dsimp only
  rw [hc]
  rfl

/-! ### Dumps -/

/-- The dump ring with a record added. -/
theorem State.putDump_spec (s : State) (body : Bytes) : let t := s.putDump body
    let q := nextSeq s.pmon.dumpSeq
    let l := s.pmon.dump ++ [(q, le 4 q ++ body ++ le 4 q)]
    t.pmon.dump = l.drop (l.length - s.pmon.dumpCap) ∧ t.pmon.dumpSeq = q ∧ t.rd Obj.PMON_DUMP_NEWEST.f = q := by
  have hq : nextSeq s.pmon.dumpSeq < 2 ^ 32 := by
    unfold nextSeq
    split
    · decide
    · exact Nat.mod_lt _ (by decide)
  have hn : [Obj.PMON_DUMP_NEWEST.f.key, Obj.PMON_DUMP_OLDEST.f.key].Nodup := by decide
  unfold State.putDump
  refine ⟨?_, ?_, ?_⟩
  · rw [State.wrs_eq]
  · rw [State.wrs_eq]
  · refine (State.rd_wrs_mem (f := Obj.PMON_DUMP_NEWEST.f) (v := nextSeq s.pmon.dumpSeq) ?_ ?_).trans (Nat.mod_eq_of_lt hq)
    · exact hn
    · exact List.mem_cons_self

/-! ### Samples -/

/-- The sampled op is taken off the list of those that wait. -/
def State.unsample (s : State) (x : Sampled) : State := { s with pmon := { s.pmon with sampled := s.pmon.sampled.erase x } }

/-- The sample a sampler adds, its stall cause and latency drawn. -/
def State.sampleBytes (s : State) (x : Sampled) : Bytes :=
  x.bytes (nextSeq s.pmon.sampSeq) ((s.unsample x).draw.1 % 8) ((s.unsample x).draw.2.draw.1 % 65536) s.floorTime

/-- The state once a sample's values are drawn and its number taken. -/
def State.drawnSample (s : State) (x : Sampled) : State :=
  let s3 := (s.unsample x).draw.2.draw.2
  { s3 with pmon := { s3.pmon with sampSeq := nextSeq s.pmon.sampSeq } }

theorem State.drawnSample_rest (s : State) (x : Sampled) : (s.drawnSample x).regs = s.regs ∧ (s.drawnSample x).evr = s.evr := by
  unfold State.drawnSample State.unsample State.draw
  exact ⟨rfl, rfl⟩

/-- The buffer with a sample added. -/
def State.addSample (s : State) (x : Sampled) : State :=
  let l := s.pmon.samp ++ [(nextSeq s.pmon.sampSeq, s.sampleBytes x)]
  (s.drawnSample x).putSamples (l.drop (l.length - 2048))

theorem State.addSample_spec (s : State) (x : Sampled) : let t := s.addSample x
    let l := s.pmon.samp ++ [(nextSeq s.pmon.sampSeq, s.sampleBytes x)]
    t.pmon.samp = l.drop (l.length - 2048) ∧ t.rd Obj.PMON_SAMP_NEWEST.f = nextSeq s.pmon.sampSeq ∧
    (l.length < 2048 → t.rd Obj.PMON_SAMP_HELD.f = l.length) ∧ t.evr = s.evr ∧
    ∀ g : Fld, (∀ r ∈ [Obj.PMON_SAMP_NEWEST, Obj.PMON_SAMP_OLDEST, Obj.PMON_SAMP_HELD], r.f.key ≠ g.key) → t.rd g = s.rd g := by
  have hq : nextSeq s.pmon.sampSeq < 2 ^ 32 := by
    unfold nextSeq
    split
    · decide
    · exact Nat.mod_lt _ (by decide)
  unfold State.addSample
  generalize hl : s.pmon.samp ++ [(nextSeq s.pmon.sampSeq, s.sampleBytes x)] = l
  have hlast : (l.drop (l.length - 2048)).getLast? = some (nextSeq s.pmon.sampSeq, s.sampleBytes x) := by
    have hlen : l.length = s.pmon.samp.length + 1 := by rw [← hl, List.length_append, List.length_singleton]
    rw [List.getLast?_drop, if_neg (by omega), ← hl, List.getLast?_append, List.getLast?_singleton]
    rfl
  dsimp only
  obtain ⟨hregs, hevr⟩ := s.drawnSample_rest x
  generalize s.drawnSample x = u at *
  obtain ⟨hheld, hnew, hrest⟩ := u.rd_putSamples (l.drop (l.length - 2048))
  have hkeep := u.putSamples_eq (l.drop (l.length - 2048))
  refine ⟨by rw [hkeep], ?_, fun hlt => ?_, by rw [hkeep, hevr], fun g hg => (hrest g hg).trans (State.rd_congr hregs g)⟩
  · rw [hnew, hlast]
    exact Nat.mod_eq_of_lt hq
  · have hzero : l.length - 2048 = 0 := by omega
    rw [hheld, hzero, List.drop_zero]
    exact Nat.mod_eq_of_lt (by omega)

end Sys2Proof.Machine

namespace Sys2Proof.Proofs
open Sys2Proof.Machine Sys2Proof.Claims

/-! ### The switches -/

section
variable {who : Requester} {on : Bool} {now : Nat} {s : State}

theorem monitor_notWriter (h : ¬ PmonWriter s who) : let b := s.advance now
    (Completes (.pmonRun who on now) s fun t => t = b) ∧ (Completes (.pmonFreeze who now) s fun t => t = b) ∧
    (Completes (.pmonArm who now) s fun t => t = b) ∧ (Completes (.pmonDumpEn who on now) s fun t => t = b) ∧
    Completes (.pmonSampEn who on now) s fun t => t = b := by
  have hw : (s.advance now).pmonWriter who = false := by
    rw [Bool.eq_false_iff]
    exact fun hw => h ((pmonWriter_advance s who now).mp hw)
  refine ⟨⟨_, rfl, ?_⟩, ⟨_, rfl, ?_⟩, ⟨_, rfl, ?_⟩, ⟨_, rfl, ?_⟩, ⟨_, rfl, ?_⟩⟩ <;> rw [hw] <;> rfl

variable (h : PmonWriter s who)
include h

theorem pmonRun_switched : Completes (.pmonRun who on now) s fun t => OneField s t Obj.PMON_CTRL_RUN.f (b2n on) ∧ t.pmon = s.pmon := by
  refine ⟨_, congrArg Host.Outcome.next (if_pos ((pmonWriter_advance s who now).mpr h)), .wr rfl ?_, rfl⟩
  cases on <;> rfl

theorem exec_pmonFreeze : exec (.pmonFreeze who now) s =
    .next (if s.pmonUnits ≤ 4 then (s.advance now).freeze else s.advance now) := by
  have hmay : (s.advance now).mayFreeze = decide (s.pmonUnits ≤ 4) := rfl
  refine congrArg Host.Outcome.next ?_
  rw [(pmonWriter_advance s who now).mpr h, hmay]
  by_cases hu : s.pmonUnits ≤ 4
  · rw [decide_eq_true hu, if_pos hu]
    rfl
  · rw [decide_eq_false hu, if_neg hu]
    rfl

theorem exec_pmonArm : exec (.pmonArm who now) s = .next ((s.advance now).wr Obj.PMON_STATUS_ARMED.f 1).armedFreeze :=
  congrArg Host.Outcome.next (if_pos ((pmonWriter_advance s who now).mpr h))

theorem pmonArm_early (ht : (s.advance now).floorTime < s.rd Obj.PMON_FREEZE_AT.f) : Completes (.pmonArm who now) s fun t =>
    OneField s t Obj.PMON_STATUS_ARMED.f 1 ∧ t.pmon = s.pmon := by
  refine .of_exec (exec_pmonArm h) ?_
  rw [State.armedFreeze_not]
  · exact ⟨.wr rfl rfl, rfl⟩
  · rintro ⟨-, hle, -⟩
    rw [State.rd_wr_ne _ _ _ _ (by decide)] at hle
    exact absurd hle (Nat.not_le.mpr ht)

theorem pmonArm_passed (ht : s.rd Obj.PMON_FREEZE_AT.f ≤ (s.advance now).floorTime) (hu : s.pmonUnits ≤ 4) :
    Completes (.pmonArm who now) s fun t => Frozen (s.advance now) t ∧ t.rd Obj.PMON_STATUS_ARMED.f = 0 := by
  have hkeys : ∀ x ∈ pmonOrder, Obj.PMON_STATUS_ARMED.f.key ≠ (Obj.PMON_CNT_ENABLE.ij x.1 x.2).key := by decide +kernel
  refine .of_exec (exec_pmonArm h) ?_
  generalize hb : s.advance now = b at *
  have hregs : b.regs = s.regs := hb ▸ rfl
  have hunits : (b.wr Obj.PMON_STATUS_ARMED.f 1).pmonUnits = s.pmonUnits :=
    State.pmonUnits_congr fun x hx => (State.rd_wr_ne _ _ _ _ (hkeys x hx)).trans (State.rd_congr hregs _)
  have hon : (b.wr Obj.PMON_STATUS_ARMED.f 1).on Obj.PMON_STATUS_ARMED.f = true := by
    unfold State.on
    rw [State.rd_wr_self]
    rfl
  have hat : (b.wr Obj.PMON_STATUS_ARMED.f 1).rd Obj.PMON_FREEZE_AT.f ≤ (b.wr Obj.PMON_STATUS_ARMED.f 1).floorTime := by
    rw [State.rd_wr_ne _ _ _ _ (by decide), State.rd_congr hregs]
    exact ht
  have hf : (b.wr Obj.PMON_STATUS_ARMED.f 1).failed 11 = false := by
    obtain ⟨-, -, hf⟩ := h
    unfold State.failed at hf ⊢
    rw [State.rd_wr_ne _ _ _ _ (by decide), State.rd_congr hregs]
    exact hf
  obtain ⟨hfrozen, harmed⟩ := State.armedFreeze_frozen hon hat hf (hunits ▸ hu)
  exact ⟨frozen_armed (a := b.wr Obj.PMON_STATUS_ARMED.f 1) rfl rfl (fun g hg => State.rd_wr_ne _ _ _ _ hg) hfrozen, harmed⟩

theorem exec_pmonDumpEn : exec (.pmonDumpEn who on now) s =
    .next (if ! (on && s.failed 14) then (s.advance now).pmonSetDump on else s.advance now) := by
  have hf : (s.advance now).failed 14 = s.failed 14 := rfl
  refine congrArg Host.Outcome.next ?_
  rw [(pmonWriter_advance s who now).mpr h, hf, Bool.true_and]

theorem pmonDumpEn_off : Completes (.pmonDumpEn who false now) s fun t => OneField s t Obj.PMON_CTRL_DUMP_EN.f 0 ∧ t.pmon = s.pmon :=
  .of_exec (exec_pmonDumpEn h) ⟨.wr rfl rfl, rfl⟩

theorem pmonDumpEn_on (hf : s.failed 14 = false) : Completes (.pmonDumpEn who true now) s fun t => t.rd Obj.PMON_CTRL_DUMP_EN.f = 1 ∧
    (s.on Obj.PMON_CTRL_DUMP_EN.f = true → t.pmon = s.pmon) ∧
    (s.on Obj.PMON_CTRL_DUMP_EN.f = false → t.pmon = { s.pmon with dump := [], dumpCap := 2048 * s.rd Obj.PMON_DUMP_SIZE.f } ∧
      t.rd Obj.PMON_DUMP_NEWEST.f = 0 ∧ t.rd Obj.PMON_DUMP_OLDEST.f = 0) := by
  refine .of_exec (exec_pmonDumpEn h) ?_
  rw [hf]
  have hon : (s.advance now).on Obj.PMON_CTRL_DUMP_EN.f = s.on Obj.PMON_CTRL_DUMP_EN.f := rfl
  show (State.pmonSetDump _ _).rd _ = 1 ∧ _
  unfold State.pmonSetDump
  rw [hon]
  refine ⟨State.rd_wr_self _ _ _, fun ho => ?_, fun ho => ?_⟩
  · rw [ho]
    rfl
  · rw [ho]
    refine ⟨rfl, ?_, ?_⟩
    · exact (State.rd_wr_ne _ _ _ _ (by decide)).trans ((State.rd_wr_ne _ _ _ _ (by decide)).trans (State.rd_wr_self _ _ _))
    · exact (State.rd_wr_ne _ _ _ _ (by decide)).trans (State.rd_wr_self _ _ _)

theorem pmonSampEn_plain (ho : on = false ∨ s.on Obj.PMON_CTRL_SAMP_EN.f = true) : Completes (.pmonSampEn who on now) s fun t =>
    OneField s t Obj.PMON_CTRL_SAMP_EN.f (b2n on) ∧ t.pmon = s.pmon := by
  have hon : (s.advance now).on Obj.PMON_CTRL_SAMP_EN.f = s.on Obj.PMON_CTRL_SAMP_EN.f := rfl
  refine .of_exec (congrArg Host.Outcome.next (if_pos ((pmonWriter_advance s who now).mpr h))) ?_
  unfold State.pmonSetSamp
  rw [hon, if_neg]
  · refine ⟨.wr rfl ?_, rfl⟩
    cases on <;> rfl
  · rcases ho with ho | ho <;> simp [ho]

theorem pmonSampEn_loads (ho : s.on Obj.PMON_CTRL_SAMP_EN.f = false) : Completes (.pmonSampEn who true now) s fun t =>
    OneField s t Obj.PMON_CTRL_SAMP_EN.f 1 ∧ t.pmon.lfsr = lfsrStep (lfsrStep (s.rd Obj.PMON_SAMP_SEED.f)) ∧
    (s.pmon.counts.length = 2 → ∀ e, e < 2 → let m := 2 ^ s.rd Obj.PMON_SAMP_RAND.f
      let n := s.rd Obj.PMON_SAMP_N.f
      n - n % m ≤ t.pmon.counts.getD e 0 ∧ t.pmon.counts.getD e 0 < n - n % m + m) := by
  have hon : (s.advance now).on Obj.PMON_CTRL_SAMP_EN.f = s.on Obj.PMON_CTRL_SAMP_EN.f := rfl
  refine .of_exec (congrArg Host.Outcome.next (if_pos ((pmonWriter_advance s who now).mpr h))) ?_
  unfold State.pmonSetSamp
  rw [hon, ho]
  refine ⟨.wr rfl rfl, rfl, fun hl e he => ?_⟩
  obtain ⟨y, z, hcounts⟩ := (s.advance now).reload_counts (s.rd Obj.PMON_SAMP_SEED.f) hl
  have hm : 0 < 2 ^ s.rd Obj.PMON_SAMP_RAND.f := Nat.two_pow_pos _
  refine (congrArg (fun l : List Nat => _ ≤ l.getD e 0 ∧ l.getD e 0 < _) hcounts).mpr ?_
  have hbound (y : Nat) : s.rd Obj.PMON_SAMP_N.f - s.rd Obj.PMON_SAMP_N.f % 2 ^ s.rd Obj.PMON_SAMP_RAND.f + y % 2 ^ s.rd Obj.PMON_SAMP_RAND.f <
      s.rd Obj.PMON_SAMP_N.f - s.rd Obj.PMON_SAMP_N.f % 2 ^ s.rd Obj.PMON_SAMP_RAND.f + 2 ^ s.rd Obj.PMON_SAMP_RAND.f :=
    Nat.add_lt_add_left (Nat.mod_lt _ hm) _
  rcases Nat.lt_succ_iff_lt_or_eq.mp he with h0 | h1
  · rw [Nat.lt_one_iff.mp h0]
    exact ⟨Nat.le_add_right _ _, hbound y⟩
  · rw [h1]
    exact ⟨Nat.le_add_right _ _, hbound z⟩

end

/-! ### Instants -/

theorem pmonDump_not {s : State} (h : ¬ (s.on Obj.PMON_CTRL_DUMP_EN.f = true ∧ s.floorTime % (100000 * s.rd Obj.PMON_DUMP_INTERVAL.f) = 0 ∧
    s.failed 11 = false ∧ s.failed 14 = false)) : pmonDump s = s := by
  unfold pmonDump
  refine if_neg fun hc => h ?_
  simpa [and_assoc] using hc

/-- A dump at its instant: the frozen values of a freeze at the same edge, else the counters as they read. -/
theorem pmonDump_due {s : State} (hon : s.on Obj.PMON_CTRL_DUMP_EN.f = true) (ht : s.floorTime % (100000 * s.rd Obj.PMON_DUMP_INTERVAL.f) = 0)
    (h11 : s.failed 11 = false) (h14 : s.failed 14 = false) : let t := pmonDump s
    let q := nextSeq s.pmon.dumpSeq
    ∃ body, (let l := s.pmon.dump ++ [(q, le 4 q ++ body ++ le 4 q)]; t.pmon.dump = l.drop (l.length - s.pmon.dumpCap)) ∧
      t.pmon.dumpSeq = q ∧ t.rd Obj.PMON_DUMP_NEWEST.f = q ∧ (s.pmon.lastFreeze = some s.floorTime → body = s.frozenBody) ∧
      (s.pmon.lastFreeze ≠ some s.floorTime → ∃ span, span ≤ 2000 ∧
        body = dumpBody (s.on Obj.PMON_CTRL_RUN.f) false s.floorTime span s.pmonCyc fun x => s.perfNow x.1 x.2) := by
  unfold pmonDump
  rw [if_pos (by simp [hon, ht, h11, h14])]
  by_cases hl : s.pmon.lastFreeze = some s.floorTime
  · rw [if_pos hl]
    obtain ⟨hdump, hseq, hnew⟩ := s.putDump_spec s.frozenBody
    exact ⟨s.frozenBody, hdump, hseq, hnew, fun _ => rfl, fun hn => absurd hl hn⟩
  · rw [if_neg hl]
    obtain ⟨hdump, hseq, hnew⟩ := s.draw.2.putDump_spec
      (dumpBody (s.on Obj.PMON_CTRL_RUN.f) false s.floorTime (s.draw.1 % 2001) s.pmonCyc fun x => s.perfNow x.1 x.2)
    exact ⟨_, hdump, hseq, hnew, fun hy => absurd hy hl, fun _ => ⟨s.draw.1 % 2001, Nat.le_of_lt_succ (Nat.mod_lt _ (by decide)), rfl⟩⟩

section
variable {e : Nat} {s : State} {x : Sampled} (hx : (s.pmon.sampled.find? fun x => x.engine == e) = some x)
include hx

theorem pmonSample_stopped (h : s.on Obj.PMON_STATUS_SAMP_STOPPED.f = true ∨ s.failed 11 = true) : pmonSample e s = s.unsample x := by
  have hc : ((s.unsample x).on Obj.PMON_STATUS_SAMP_STOPPED.f || (s.unsample x).failed 11) = true := by
    rw [Bool.or_eq_true]
    exact h
  unfold pmonSample
  rw [hx]
  exact if_pos hc

theorem pmonSample_taken (hs : s.on Obj.PMON_STATUS_SAMP_STOPPED.f = false) (hf : s.failed 11 = false) : pmonSample e s =
    let l := s.pmon.samp ++ [(nextSeq s.pmon.sampSeq, s.sampleBytes x)]
    if l.length ≥ 2048 ∧ ! (s.addSample x).on Obj.PMON_SAMP_WRAP.f then
      (((s.addSample x).set1 Obj.PMON_STATUS_SAMP_STOPPED.f).set1 Obj.PMON_EVT_SAMP_FULL.f).logAll [0, 1] 0x0C02 []
    else s.addSample x := by
  have hc : ¬ ((s.unsample x).on Obj.PMON_STATUS_SAMP_STOPPED.f || (s.unsample x).failed 11) = true := by
    rw [Bool.or_eq_true]
    exact fun h => h.elim (fun h => by rw [show (s.unsample x).on _ = s.on _ from rfl, hs] at h; cases h)
      fun h => by rw [show (s.unsample x).failed _ = s.failed _ from rfl, hf] at h; cases h
  unfold pmonSample
  rw [hx]
  exact if_neg hc

end

theorem sampleBytes_spec (s : State) (x : Sampled) : let r := s.sampleBytes x
    r.take 12 = le 4 (nextSeq s.pmon.sampSeq) ++ le 4 (x.pc % 2 ^ 22 + 2 ^ 22 * (x.engine % 2) + 2 ^ 23 * (x.entry % 16)) ++ le 4 x.op ∧
    field r 12 1 = x.comp % 256 ∧ r.drop 24 = le 8 s.floorTime ∧ r.length = 32 := by
  unfold State.sampleBytes Sampled.bytes
  generalize (s.unsample x).draw.1 % 8 = a
  generalize (s.unsample x).draw.2.draw.1 % 65536 = b
  refine ⟨?_, ?_, ?_, by simp [le_length]⟩
  · simp only [List.append_assoc]
    rw [← List.append_assoc, ← List.append_assoc]
    exact List.take_left' (by simp [le_length])
  · have hlow : field (le 4 (x.comp % 256 + 256 * a + 65536 * (x.inst % 2 ^ 14))) 0 1 = (x.comp % 256 + 256 * a + 65536 * (x.inst % 2 ^ 14)) % 256 ^ 1 := by
      have h := field_le_low (m := 1) (n := 4) (x.comp % 256 + 256 * a + 65536 * (x.inst % 2 ^ 14)) [] (by decide)
      rwa [List.append_nil] at h
    have hfield : field (x.bytes (nextSeq s.pmon.sampSeq) a b s.floorTime) 12 1 =
        field (le 4 (x.comp % 256 + 256 * a + 65536 * (x.inst % 2 ^ 14))) 0 1 := by
      simp [Sampled.bytes, field_append_left, field_append_right, le_length]
    exact hfield.trans (hlow.trans (by omega))
  · exact List.drop_left' (by simp [le_length])

/-- A sample is added; a full buffer that does not wrap stops the sampler (R447). -/
theorem pmonSample_adds {e : Nat} {s : State} {x : Sampled} (hx : (s.pmon.sampled.find? fun x => x.engine == e) = some x)
    (hs : s.on Obj.PMON_STATUS_SAMP_STOPPED.f = false) (hf : s.failed 11 = false) : let t := pmonSample e s
    let q := nextSeq s.pmon.sampSeq
    ∃ r, (let l := s.pmon.samp ++ [(q, r)]; t.pmon.samp = l.drop (l.length - 2048) ∧
        (2048 ≤ l.length → s.on Obj.PMON_SAMP_WRAP.f = false → t.rd Obj.PMON_STATUS_SAMP_STOPPED.f = 1 ∧
          t.rd Obj.PMON_EVT_SAMP_FULL.f = 1 ∧ Logged s t 0 0x0C02 []) ∧
        (l.length < 2048 → t.rd Obj.PMON_SAMP_HELD.f = l.length)) ∧
      r.take 12 = le 4 q ++ le 4 (x.pc % 2 ^ 22 + 2 ^ 22 * (x.engine % 2) + 2 ^ 23 * (x.entry % 16)) ++ le 4 x.op ∧
      field r 12 1 = x.comp % 256 ∧ r.drop 24 = le 8 s.floorTime ∧ r.length = 32 ∧ t.rd Obj.PMON_SAMP_NEWEST.f = q := by
  obtain ⟨hhead, hcomp, htime, hlen⟩ := sampleBytes_spec s x
  obtain ⟨hsamp, hnew, hheld, hevr, hrest⟩ := s.addSample_spec x
  have hwrap : (s.addSample x).on Obj.PMON_SAMP_WRAP.f = s.on Obj.PMON_SAMP_WRAP.f := by
    unfold State.on
    rw [hrest _ (by decide)]
  dsimp only
  rw [pmonSample_taken hx hs hf]
  dsimp only
  rw [hwrap]
  refine ⟨s.sampleBytes x, ?_⟩
  generalize s.sampleBytes x = r at *
  generalize hl : s.pmon.samp ++ [(nextSeq s.pmon.sampSeq, r)] = l at *
  by_cases hc : l.length ≥ 2048 ∧ (! s.on Obj.PMON_SAMP_WRAP.f) = true
  · rw [if_pos hc]
    have hunit : ((s.addSample x).set1 Obj.PMON_STATUS_SAMP_STOPPED.f |>.set1 Obj.PMON_EVT_SAMP_FULL.f).failed 10 = s.failed 10 := by
      unfold State.failed State.set1
      rw [State.rd_wr_ne _ _ _ _ (by decide), State.rd_wr_ne _ _ _ _ (by decide), hrest _ (by decide)]
    have hset : ((s.addSample x).set1 Obj.PMON_STATUS_SAMP_STOPPED.f |>.set1 Obj.PMON_EVT_SAMP_FULL.f).rd Obj.PMON_STATUS_SAMP_STOPPED.f = 1 :=
      (State.rd_wr_ne _ _ _ _ (by decide)).trans (State.rd_wr_self _ _ _)
    have hfull : ((s.addSample x).set1 Obj.PMON_STATUS_SAMP_STOPPED.f |>.set1 Obj.PMON_EVT_SAMP_FULL.f).rd Obj.PMON_EVT_SAMP_FULL.f = 1 :=
      State.rd_wr_self _ _ _
    have hnew' : ((s.addSample x).set1 Obj.PMON_STATUS_SAMP_STOPPED.f |>.set1 Obj.PMON_EVT_SAMP_FULL.f).rd Obj.PMON_SAMP_NEWEST.f =
        nextSeq s.pmon.sampSeq := by
      unfold State.set1
      rw [State.rd_wr_ne _ _ _ _ (by decide), State.rd_wr_ne _ _ _ _ (by decide), hnew]
    have hsamp' : ((s.addSample x).set1 Obj.PMON_STATUS_SAMP_STOPPED.f |>.set1 Obj.PMON_EVT_SAMP_FULL.f).pmon.samp = l.drop (l.length - 2048) := by
      unfold State.set1
      rw [State.wr_pmon, State.wr_pmon, hsamp]
    have hevr' : ((s.addSample x).set1 Obj.PMON_STATUS_SAMP_STOPPED.f |>.set1 Obj.PMON_EVT_SAMP_FULL.f).evr = s.evr := by
      unfold State.set1
      rw [State.wr_evr, State.wr_evr, hevr]
    generalize ((s.addSample x).set1 Obj.PMON_STATUS_SAMP_STOPPED.f |>.set1 Obj.PMON_EVT_SAMP_FULL.f) = u at *
    have hr := State.logAll_raised u [0, 1] 0x0C02 [] false
    obtain ⟨hlog, -⟩ := logged_logAll (s := s) (a := u) (trigger := 0x0C02) (d := []) hunit (hevr' ▸ List.prefix_rfl) (hevr' ▸ Nat.le_add_right _ 7)
    refine ⟨⟨?_, fun _ _ => ⟨(hr.rd _ (by decide)).trans hset, (hr.rd _ (by decide)).trans hfull, hlog⟩, fun hlt => absurd hlt (Nat.not_lt.mpr hc.1)⟩,
      hhead, hcomp, htime, hlen, (hr.rd _ (by decide)).trans hnew'⟩
    rw [hr.eq, hsamp']
  · rw [if_neg hc]
    exact ⟨⟨hsamp, fun hge hw => absurd ⟨hge, by rw [hw]; rfl⟩ hc, hheld⟩, hhead, hcomp, htime, hlen, hnew⟩

/-- Settles O54: the switches of writers and others, then each instant by whether it is due. -/
theorem monitorEvents : Obligations.MonitorEvents := by
  unfold Obligations.MonitorEvents
  refine ⟨fun who on now s => ⟨monitor_notWriter, fun h => ⟨pmonRun_switched h, fun hu => ?freeze, fun hu => ?tooMany, pmonArm_early h,
    pmonArm_passed h, fun ho hf => ?noDram, fun ho => ?dumpOff, fun ho hf => ?dumpOn, pmonSampEn_plain h, fun ho hs => ?sampOn⟩⟩,
    fun now s => ⟨fun hd => ?notArmed, fun hd hu => ?armed, fun hd hu => ?dropped⟩, fun now s => ⟨fun hd => ?noDump, fun hd => ?dump⟩,
    fun e now s => ⟨fun hn => ?unsampled, fun x hx => ⟨fun hc => ?stopped, fun hs hf => ?sampled⟩⟩⟩
  case freeze =>
    refine .of_exec (exec_pmonFreeze h) ?_
    rw [if_pos hu]
    exact State.frozen_freeze _
  case tooMany => exact .of_exec (exec_pmonFreeze h) (if_neg (by omega))
  case noDram =>
    refine .of_exec (exec_pmonDumpEn h) ?_
    rw [ho, hf]
    rfl
  case dumpOff => exact ho ▸ pmonDumpEn_off h
  case dumpOn => exact ho ▸ pmonDumpEn_on h hf
  case sampOn => exact ho ▸ pmonSampEn_loads h hs
  case notArmed => exact .of_exec (t := (s.advance now).armedFreeze) rfl (State.armedFreeze_not hd)
  case armed =>
    obtain ⟨ha, ht, hf⟩ := hd
    exact .of_exec (t := (s.advance now).armedFreeze) rfl (State.armedFreeze_frozen (s := s.advance now) ha ht hf hu)
  case dropped =>
    obtain ⟨ha, ht, hf⟩ := hd
    exact .of_exec (t := (s.advance now).armedFreeze) rfl (State.armedFreeze_dropped (s := s.advance now) ha ht hf hu)
  case noDump => exact .of_exec (t := pmonDump (s.advance now)) rfl (pmonDump_not hd)
  case dump =>
    obtain ⟨hon, ht, h11, h14⟩ := hd
    exact .of_exec (t := pmonDump (s.advance now)) rfl (pmonDump_due (s := s.advance now) hon ht h11 h14)
  case unsampled =>
    refine .of_exec (t := pmonSample e.val (s.advance now)) rfl ?_
    have hn' : ((s.advance now).pmon.sampled.find? fun x => x.engine == e.val) = none := hn
    unfold pmonSample
    rw [hn']
  case stopped =>
    refine .of_exec (t := pmonSample e.val (s.advance now)) rfl ?_
    rw [pmonSample_stopped (s := s.advance now) hx hc]
    exact ⟨rfl, rfl⟩
  case sampled =>
    refine .of_exec (t := pmonSample e.val (s.advance now)) rfl ?_
    exact pmonSample_adds (s := s.advance now) hx hs hf

end Sys2Proof.Proofs
end

section
/-!
SUPPORT. What a piece of work may change: the fields that a predicate on their keys names, the sessions it speaks to, and on a CAN
port its requests and its arbitration (spec/10 R262 to R268).
-/
namespace Sys2Proof.Machine
open Sys2Proof.Claims

/-! ### Fields apart -/

/-- Every stored field whose key `P` does not name is as it was. -/
def Beyond (P : Nat → Bool) (s t : State) : Prop := ∀ g : Fld, P g.key = false → t.rd g = s.rd g

section
variable {P Q : Nat → Bool} {s t u : State} {f : Fld}

theorem Beyond.refl (P : Nat → Bool) (s : State) : Beyond P s s := fun _ _ => rfl

theorem Beyond.trans (h : Beyond P s t) (k : Beyond P t u) : Beyond P s u := fun g hg => (k g hg).trans (h g hg)

theorem Beyond.mono (h : Beyond P s t) (k : ∀ n, P n = true → Q n = true) : Beyond Q s t := fun g hg =>
  h g (Bool.eq_false_iff.mpr fun hp => Bool.eq_false_iff.mp hg (k _ hp))

theorem Beyond.of_regs (P : Nat → Bool) (h : t.regs = s.regs) : Beyond P s t := fun g _ => State.rd_congr h g

theorem Beyond.wr (h : Beyond P s t) (hf : P f.key = true) (v : Nat) : Beyond P s (t.wr f v) := fun g hg => by
  have hne : f.key ≠ g.key := fun e => Bool.eq_false_iff.mp hg (e ▸ hf)
  exact (State.rd_wr_ne _ _ _ _ hne).trans (h g hg)

theorem Beyond.wrs {l : List (Fld × Nat)} (h : Beyond P s t) (hf : ∀ x ∈ l, P x.1.key = true) : Beyond P s (t.wrs l) := by
  induction l generalizing t with
  | nil => exact h
  | cons x l ih => exact ih (h.wr (hf x List.mem_cons_self) x.2) fun y hy => hf y (List.mem_cons_of_mem x hy)

/-- The keys of the counts of events dropped. -/
def logKey (k : Nat) : Bool := k % 2 ^ 40 == (Obj.EVR_DROPPED.b 0).key || k % 2 ^ 40 == (Obj.EVR_EVT_DROPPED.b 0).key

theorem unlogged_iff (g : Fld) : unlogged g = true ↔ logKey g.key = false := by
  simp [unlogged, logKey]

theorem Raised.beyond {n : Nat} (h : Raised n s t) (k : ∀ n, logKey n = true → P n = true) : Beyond P s t := fun g hg =>
  h.rd g ((unlogged_iff g).mpr (Bool.eq_false_iff.mpr fun hl => Bool.eq_false_iff.mp hg (k _ hl)))

theorem Ended.beyond (h : Ended s t) (k : ∀ n, logKey n = true → P n = true) : Beyond P s t := fun g hg =>
  h.rd g ((unlogged_iff g).mpr (Bool.eq_false_iff.mpr fun hl => Bool.eq_false_iff.mp hg (k _ hl)))

end

/-! ### What is said to sessions -/

/-- What was put out stays, and every session stands with its compartment and its connection. -/
structure Talked (s t : State) : Prop where
  sent : s.sent <+: t.sent
  session : ∀ i y, s.session i = some y → ∃ z, t.session i = some z ∧ z.conn = y.conn ∧ z.comp = y.comp
  ids : t.sessions.map (·.id) = s.sessions.map (·.id)

section
variable {s t u : State}

theorem Talked.refl (s : State) : Talked s s := ⟨List.prefix_refl _, fun _ y h => ⟨y, h, rfl, rfl⟩, rfl⟩

theorem Talked.trans (h : Talked s t) (k : Talked t u) : Talked s u := by
  refine ⟨h.sent.trans k.sent, fun i y hy => ?_, k.ids.trans h.ids⟩
  obtain ⟨z, hz, hc, hm⟩ := h.session i y hy
  obtain ⟨w, hw, hc', hm'⟩ := k.session i z hz
  exact ⟨w, hw, hc'.trans hc, hm'.trans hm⟩

theorem Talked.of_eq (hs : t.sessions = s.sessions) (ho : t.sent = s.sent) : Talked s t :=
  ⟨ho ▸ List.prefix_refl _, fun i y hy => ⟨y, (State.session_congr hs i).trans hy, rfl, rfl⟩, by rw [hs]⟩

theorem Talked.speaks (h : Talked s t) {f : Frame} {x : Session} (hs : Speaks s f x) : Speaks t f x := by
  obtain ⟨y, hy, hc, hm⟩ := hs
  obtain ⟨z, hz, hc', hm'⟩ := h.session _ y hy
  exact ⟨z, hz, hc'.trans hc, hm'.trans hm⟩

theorem State.session_id {s : State} {i : Nat} {y : Session} (h : s.session i = some y) : y.id = i := by
  simpa using List.find?_some h

theorem State.session_putSession_ne {s : State} {y : Session} {i : Nat} (h : y.id ≠ i) : (s.putSession y).session i = s.session i := by
  unfold State.session State.putSession
  dsimp only
  induction s.sessions with
  | nil => rfl
  | cons z l ih =>
    rw [List.map_cons]
    by_cases hz : z.id = y.id
    · rw [if_pos hz, List.find?_cons_of_neg (by simpa using h), List.find?_cons_of_neg (by simpa [hz] using h), ih]
    · rw [if_neg hz]
      by_cases hi : z.id = i
      · rw [List.find?_cons_of_pos (by simpa using hi), List.find?_cons_of_pos (by simpa using hi)]
      · rw [List.find?_cons_of_neg (by simpa using hi), List.find?_cons_of_neg (by simpa using hi), ih]

theorem State.putSession_ids (s : State) (z : Session) : (s.putSession z).sessions.map (·.id) = s.sessions.map (·.id) := by
  unfold State.putSession
  rw [List.map_map]
  refine List.map_congr_left fun y _ => ?_
  dsimp only [Function.comp]
  split
  · exact (‹y.id = z.id›).symm
  · rfl

/-- A session put back with its compartment and connection. -/
theorem Talked.putSession {i : Nat} {y z : Session} (hy : s.session i = some y) (hi : z.id = i) (hc : z.conn = y.conn) (hm : z.comp = y.comp) :
    Talked s (s.putSession z) := by
  refine ⟨List.prefix_refl _, fun j w hw => ?_, State.putSession_ids s z⟩
  by_cases hj : z.id = j
  · subst hj
    obtain rfl : y = w := Option.some.inj (((congrArg s.session hi).symm.trans hw ▸ hy.symm : some y = some w))
    exact ⟨z, State.session_putSession hw, hc, hm⟩
  · exact ⟨w, (State.session_putSession_ne hj).trans hw, rfl, rfl⟩

theorem Talked.respond (h : Talked s t) (c m n d st : Nat) (p : Bytes) : Talked s (t.respond c m n d st p) := by
  obtain ⟨cn, hcn⟩ := t.respond_counts c m n d st p
  rw [hcn]
  exact h.trans ⟨List.prefix_append _ _, fun i y hy => ⟨y, hy, rfl, rfl⟩, rfl⟩

theorem State.finalTo_talked (s : State) (sid seq cmd st : Nat) (p : Bytes) (whole : Bool) : Talked s (s.finalTo sid seq cmd st p whole) := by
  unfold State.finalTo
  split
  · exact Talked.refl s
  case _ x hx =>
    have hid : x.id = sid := State.session_id hx
    have h := Talked.putSession (z := x.final seq st p whole) hx hid rfl rfl
    split
    · exact h.respond _ _ _ _ _ _
    · exact h

theorem Raised.talked {n : Nat} (h : Raised n s t) : Talked s t := .of_eq (by rw [h.eq]) (by rw [h.eq])

theorem State.endWaiter_talked (t : State) (x : Waiter) (st : Nat) (p : Bytes) : Talked t (t.endWaiter x st p) := by
  unfold State.endWaiter
  split
  · exact (State.log_raised _ _ _ _ _ _).talked
  · exact State.finalTo_talked _ _ _ _ _ _ _

theorem State.finish_talked (s : State) (w : Wait) (st : Nat) (p : Bytes) : Talked s (s.finish w st p) := by
  rw [State.finish_eq]
  have h0 : Talked s { s with waiters := s.waiters.filter fun x => x.wait != w } := .of_eq rfl rfl
  generalize ({ s with waiters := s.waiters.filter fun x => x.wait != w } : State) = u at h0 ⊢
  induction s.waiters.filter (fun x => x.wait == w) generalizing u with
  | nil => exact h0
  | cons x l ih => exact ih _ (h0.trans (u.endWaiter_talked x st p))

end

end Sys2Proof.Machine
end

section
/-!
SUPPORT. What work on a CAN port leaves alone (spec/10 R262 to R268, R287; spec/11 R280, R281, R293): one relation for the end of a
request, for the beginning of an attempt and for a selection, then what each of them leaves in the buffer.
-/
namespace Sys2Proof.Machine
open Sys2Proof.Claims

/-! ### Keys of a port -/

/-- The key lies among the bytes `lo` to `hi` of port `p`. -/
def inPort (p lo hi k : Nat) : Bool := decide (8 * (0x800000 + 0x10000 * p + lo) ≤ k ∧ k < 8 * (0x800000 + 0x10000 * p + hi))

/-- The words that show the state of buffer `b`: STATE, LAST_ERR and ATTEMPTS, TX_COUNT and the events. -/
def bufKeys (p b k : Nat) : Bool := inPort p (0x1054 + 0x80 * b) (0x1058 + 0x80 * b) k || inPort p (0x1060 + 0x80 * b) (0x1068 + 0x80 * b) k

/-- The fields of a collision report. -/
def collKeys (p k : Nat) : Bool := inPort p 0x114 0x128 k || k == (Obj.FBC_FEVT_COLLISION.i p).key

/-- The fields that the records of an end may change. -/
def toldKeys (p k : Nat) : Bool := collKeys p k || logKey k

/-- The fields that the end of a request on buffer `b` may change. -/
def endKeys (p b k : Nat) : Bool := bufKeys p b k || collKeys p k || logKey k

/-- The fields that a selection among some buffers may change. -/
def selectKeys (p : Nat) (l : List Nat) (k : Nat) : Bool :=
  l.any (fun b => bufKeys p b k) || collKeys p k || logKey k || k == (Obj.FBC_FW_TX_BLOCK.i p).key || k == (Obj.FBC_FEVT_FW.i p).key

theorem toldKeys_of_log {p : Nat} : ∀ k, logKey k = true → toldKeys p k = true := fun k h => by
  rw [toldKeys, h, Bool.or_true]

theorem endKeys_of_told {p b : Nat} : ∀ k, toldKeys p k = true → endKeys p b k = true := fun k h => by
  rw [endKeys, Bool.or_assoc]
  exact (congrArg (_ || ·) h).trans (Bool.or_true _)

theorem endKeys_of_log {p b : Nat} : ∀ k, logKey k = true → endKeys p b k = true := fun k h => endKeys_of_told k (toldKeys_of_log k h)

theorem selectKeys_of_end {p b : Nat} {l : List Nat} (hb : b ∈ l) : ∀ k, endKeys p b k = true → selectKeys p l k = true := by
  intro k h
  simp only [endKeys, Bool.or_eq_true] at h
  have hany : bufKeys p b k = true → l.any (fun b => bufKeys p b k) = true := fun hk => List.any_eq_true.mpr ⟨b, hb, hk⟩
  simp only [selectKeys, Bool.or_eq_true]
  obtain (h | h) | h := h
  · exact .inl (.inl (.inl (.inl (hany h))))
  · exact .inl (.inl (.inl (.inr h)))
  · exact .inl (.inl (.inr h))

/-! ### Work on a port -/

/-- Every request that waits waited before, if perhaps for something else. -/
def Remains (s t : State) : Prop := ∀ w ∈ t.waiters, ∃ v ∈ s.waiters, v.sid = w.sid ∧ v.seq = w.seq ∧ v.cancellable = w.cancellable

theorem Remains.of_subset {s t : State} (h : t.waiters ⊆ s.waiters) : Remains s t := fun w hw => ⟨w, h hw, rfl, rfl, rfl⟩

theorem Remains.of_eq {s t : State} (h : t.waiters = s.waiters) : Remains s t := .of_subset (h ▸ List.Subset.refl _)

theorem Remains.trans {s t u : State} (h : Remains s t) (k : Remains t u) : Remains s u := by
  intro w hw
  obtain ⟨v, hv, h1, h2, h3⟩ := k w hw
  obtain ⟨x, hx, k1, k2, k3⟩ := h v hv
  exact ⟨x, hx, k1.trans h1, k2.trans h2, k3.trans h3⟩

theorem Remains.finish (s : State) (w : Wait) (st : Nat) (d : Bytes) : Remains s (s.finish w st d) := by
  refine .of_subset ?_
  rw [(s.finish_ended w st d).eq]
  exact List.filter_sublist.subset

/-- Work on the requests of port `p`: the fields that `P` names, requests and arbitration, records, counts, and what is said to
sessions, are all that changed. -/
structure CanWork (p : Nat) (P : Nat → Bool) (s t : State) : Prop where
  eq : t = { s with
    fbc := t.fbc, evr := t.evr, regs := t.regs, sessions := t.sessions, sent := t.sent,
    pmon := t.pmon, waiters := t.waiters }
  old : t.fbc.old = s.fbc.old
  port : t.port p = { s.port p with reqs := (t.port p).reqs, arb := (t.port p).arb }
  rd : Beyond P s t
  pend : s.evr.pend <+: t.evr.pend
  talked : Talked s t
  waits : Remains s t

section
variable {p : Nat} {P Q : Nat → Bool} {s t u : State}

theorem CanWork.refl (s : State) : CanWork p P s s := ⟨rfl, rfl, rfl, Beyond.refl P s, List.prefix_refl _, Talked.refl s, .of_eq rfl⟩

theorem CanWork.trans (h : CanWork p P s t) (k : CanWork p P t u) : CanWork p P s u := by
  refine ⟨?_, k.old.trans h.old, ?_, h.rd.trans k.rd, h.pend.trans k.pend, h.talked.trans k.talked, h.waits.trans k.waits⟩
  · rw [k.eq, h.eq]
  · rw [k.port, h.port]

theorem CanWork.mono (h : CanWork p P s t) (k : ∀ n, P n = true → Q n = true) : CanWork p Q s t :=
  ⟨h.eq, h.old, h.port, h.rd.mono k, h.pend, h.talked, h.waits⟩

theorem CanWork.wr (h : CanWork p P s t) {f : Fld} (hf : P f.key = true) (v : Nat) : CanWork p P s (t.wr f v) := by
  refine ⟨?_, h.old, h.port, h.rd.wr hf v, h.pend, h.talked.trans (.of_eq rfl rfl), h.waits.trans (.of_eq rfl)⟩
  rw [h.eq]
  rfl

theorem CanWork.wrs (h : CanWork p P s t) {l : List (Fld × Nat)} (hf : ∀ x ∈ l, P x.1.key = true) : CanWork p P s (t.wrs l) := by
  induction l generalizing t with
  | nil => exact h
  | cons x l ih => exact ih (h.wr (hf x List.mem_cons_self) x.2) fun y hy => hf y (List.mem_cons_of_mem x hy)

theorem State.port_putPort (s : State) (p : Nat) (x : CanPort) : (s.putPort p x).port p = x := by
  simp [State.port, State.putPort, Tab.get_put_self]

theorem CanWork.putPort (h : CanWork p P s t) {x : CanPort} (hx : x = { t.port p with reqs := x.reqs, arb := x.arb }) :
    CanWork p P s (t.putPort p x) := by
  refine h.trans ⟨rfl, rfl, ?_, .of_regs P rfl, List.prefix_refl _, .of_eq rfl rfl, .of_eq rfl⟩
  rw [State.port_putPort]
  exact hx

theorem CanWork.putTxReq (h : CanWork p P s t) (b : Nat) (x : TxReq) : CanWork p P s (t.putTxReq p b x) := h.putPort rfl

theorem CanWork.raised (h : CanWork p P s t) {n : Nat} (k : Raised n t u) (hl : ∀ n, logKey n = true → P n = true) : CanWork p P s u := by
  refine h.trans ⟨?_, ?_, ?_, k.beyond hl, k.pend, k.talked, .of_eq (by rw [k.eq])⟩
  · rw [k.eq]
  · rw [k.eq]
  · rw [k.eq]; rfl

theorem CanWork.perf (h : CanWork p P s t) (u e c n : Nat) : CanWork p P s (t.perf u e c n) := by
  obtain ⟨cn, hcn⟩ := t.perf_counts u e c n
  rw [hcn]
  exact h.trans ⟨rfl, rfl, rfl, .of_regs P rfl, List.prefix_refl _, .of_eq rfl rfl, .of_eq rfl⟩

theorem CanWork.finish (h : CanWork p P s t) (w : Wait) (st : Nat) (d : Bytes) (hl : ∀ n, logKey n = true → P n = true) :
    CanWork p P s (t.finish w st d) := by
  have k := t.finish_ended w st d
  have kt := t.finish_talked w st d
  have kw := Remains.finish t w st d
  generalize t.finish w st d = u at k kt kw
  refine h.trans ⟨?_, ?_, ?_, k.beyond hl, k.pend, kt, kw⟩
  · rw [k.eq]
  · rw [k.eq]
  · rw [k.eq]; rfl

theorem CanWork.foldl (h : CanWork p P s t) {α : Type} {f : State → α → State} {l : List α}
    (hf : ∀ u, ∀ x ∈ l, CanWork p P u (f u x)) : CanWork p P s (l.foldl f t) := by
  induction l generalizing t with
  | nil => exact h
  | cons x l ih => exact ih (h.trans (hf t x List.mem_cons_self)) fun u y hy => hf u y (List.mem_cons_of_mem x hy)

theorem CanWork.ite (h : CanWork p P s t) (k : CanWork p P s u) {c : Prop} [Decidable c] : CanWork p P s (if c then t else u) := by
  split
  · exact h
  · exact k

theorem CanWork.floorTime (h : CanWork p P s t) : t.floorTime = s.floorTime := by rw [h.eq]

theorem CanWork.power (h : CanWork p P s t) : t.power = s.power := by rw [h.eq]

end

/-! ### The end of a request -/

theorem bufKeys_mem (p b : Nat) :
    bufKeys p b (Obj.FBC_TXB_STATE.ij p b).key = true ∧ bufKeys p b (Obj.FBC_TXB_LAST_ERR.ij p b).key = true ∧
    bufKeys p b (Obj.FBC_TXB_ATTEMPTS.ij p b).key = true ∧ bufKeys p b (Obj.FBC_TXB_TX_COUNT.ij p b).key = true ∧
    bufKeys p b (Obj.FBC_TXB_EVT_SENT.ij p b).key = true ∧ bufKeys p b (Obj.FBC_TXB_EVT_FAIL.ij p b).key = true := by
  simp [bufKeys, inPort, Fld.key, Row.ij, Row.at, Obj.FBC_TXB_STATE, Obj.FBC_TXB_LAST_ERR, Obj.FBC_TXB_ATTEMPTS, Obj.FBC_TXB_TX_COUNT,
    Obj.FBC_TXB_EVT_SENT, Obj.FBC_TXB_EVT_FAIL]
  omega

theorem collKeys_mem (p : Nat) : collKeys p (Obj.FBC_COLLISIONS.i p).key = true ∧ collKeys p (Obj.FBC_COLL_LAST_ID.i p).key = true ∧
    collKeys p (Obj.FBC_COLL_LAST_XTD.i p).key = true ∧ collKeys p (Obj.FBC_COLL_LAST_BUF.i p).key = true ∧
    collKeys p (Obj.FBC_COLL_LAST_OWNER.i p).key = true ∧ collKeys p (Obj.FBC_COLL_LAST_TIME.i p).key = true ∧
    collKeys p (Obj.FBC_FEVT_COLLISION.i p).key = true := by
  simp [collKeys, inPort, Fld.key, Row.i, Row.at, Obj.FBC_COLLISIONS, Obj.FBC_COLL_LAST_ID, Obj.FBC_COLL_LAST_XTD, Obj.FBC_COLL_LAST_BUF,
    Obj.FBC_COLL_LAST_OWNER, Obj.FBC_COLL_LAST_TIME, Obj.FBC_FEVT_COLLISION]
  omega

section
variable {p b : Nat}

theorem endKeys_of_buf {k : Nat} (h : bufKeys p b k = true) : endKeys p b k = true := by simp [endKeys, h]

theorem toldKeys_of_coll {k : Nat} (h : collKeys p k = true) : toldKeys p k = true := by simp [toldKeys, h]

theorem State.collision_work (s : State) : CanWork p (toldKeys p) s (s.collision p b) := by
  obtain ⟨h1, h2, h3, h4, h5, h6, h7⟩ := collKeys_mem p
  refine CanWork.raised (.wr (.wrs (.wr (.refl s) (toldKeys_of_coll h1) _) ?_) (toldKeys_of_coll h7) _) (State.logAll_raised _ _ _ _ _)
    toldKeys_of_log
  simp only [List.forall_mem_cons, List.not_mem_nil, false_implies, implies_true, and_true]
  exact ⟨toldKeys_of_coll h2, toldKeys_of_coll h3, toldKeys_of_coll h4, toldKeys_of_coll h5, toldKeys_of_coll h6⟩

theorem State.logFailed_work (s : State) : CanWork p (toldKeys p) s (s.logFailed p b) :=
  .ite (.putTxReq (.refl s) _ _) (.raised (.putTxReq (.refl s) _ _) (State.log_raised _ _ _ _ _ _) toldKeys_of_log)

theorem CanWork.shiftWaits {P : Nat → Bool} {s t : State} (h : CanWork p P s t) (b : Nat) : CanWork p P s (t.shiftWaits p b) := by
  refine h.trans ⟨rfl, rfl, rfl, .of_regs P rfl, List.prefix_refl _, .of_eq rfl rfl, fun w hw => ?_⟩
  obtain ⟨v, hv, rfl⟩ := List.mem_map.mp hw
  refine ⟨v, hv, ?_⟩
  split
  · exact ⟨rfl, rfl, rfl⟩
  · exact ⟨rfl, rfl, rfl⟩

/-- The buffer's fields and the request as an end leaves them, before its events. -/
def State.endShown (s : State) (p b st err : Nat) : State :=
  let q := s.port p
  (((s.putPort p { q with arb := if q.arb = some b then none else q.arb }).wrs
    [(Obj.FBC_TXB_STATE.ij p b, st), (Obj.FBC_TXB_LAST_ERR.ij p b, err)])).putTxReq p b
    { s.txReq p b with failures := 0, again := false, cancel := false, copy := none }

/-- The events of an end. -/
def State.endFlagged (t : State) (p b st : Nat) : State :=
  if st = txSent then (t.set1 (Obj.FBC_TXB_EVT_SENT.ij p b)).inc (Obj.FBC_TXB_TX_COUNT.ij p b)
  else if st = txFailed ∨ st = txArbLost then t.set1 (Obj.FBC_TXB_EVT_FAIL.ij p b) else t

/-- The records of an end, and the response of its command. -/
def State.endTold (t : State) (p b st : Nat) (collided : Bool) : State :=
  let u := if collided then t.collision p b else if st = txFailed then t.logFailed p b else t
  u.finish (.busTx p b) St.ok (u.txPayload p b)

/-- A further transmission due becomes a fresh request. -/
def State.endAgain (t : State) (p b st : Nat) (again : Bool) : State :=
  if again && st != txCancelled then
    (t.shiftWaits p b).wrs [(Obj.FBC_TXB_STATE.ij p b, if t.errState p ≥ 2 then txHeld else txPending), (Obj.FBC_TXB_ATTEMPTS.ij p b, 0)]
  else if again then t.finish (.busTx p (b + 32)) St.ok (t.txPayload p b)
  else t

theorem State.endTx_eq (s : State) (p b st err : Nat) (collided : Bool) : s.endTx p b st err collided =
    ((((s.endShown p b st err).endFlagged p b st).endTold p b st collided).endAgain p b st (s.txReq p b).again) := rfl

theorem State.endShown_work (s : State) (st err : Nat) : CanWork p (endKeys p b) s (s.endShown p b st err) := by
  obtain ⟨h1, h2, -⟩ := bufKeys_mem p b
  refine .putTxReq (.wrs (.putPort (.refl s) rfl) ?_) _ _
  simp only [List.forall_mem_cons, List.not_mem_nil, false_implies, implies_true, and_true]
  exact ⟨endKeys_of_buf h1, endKeys_of_buf h2⟩

theorem State.endFlagged_work (s : State) (st : Nat) : CanWork p (endKeys p b) s (s.endFlagged p b st) := by
  obtain ⟨-, -, -, h4, h5, h6⟩ := bufKeys_mem p b
  exact .ite (.wr (.wr (.refl s) (endKeys_of_buf h5) _) (endKeys_of_buf h4) _) (.ite (.wr (.refl s) (endKeys_of_buf h6) _) (.refl s))

theorem State.endTold_work (s : State) (st : Nat) (collided : Bool) : CanWork p (toldKeys p) s (s.endTold p b st collided) :=
  .finish (.ite (s.collision_work) (.ite s.logFailed_work (.refl s))) _ _ _ toldKeys_of_log

theorem State.endAgain_work (s : State) (st : Nat) (again : Bool) : CanWork p (endKeys p b) s (s.endAgain p b st again) := by
  obtain ⟨h1, -, h3, -⟩ := bufKeys_mem p b
  refine .ite (.wrs (.shiftWaits (.refl s) b) ?_) (.ite (.finish (.refl s) _ _ _ endKeys_of_log) (.refl s))
  simp only [List.forall_mem_cons, List.not_mem_nil, false_implies, implies_true, and_true]
  exact ⟨endKeys_of_buf h1, endKeys_of_buf h3⟩

theorem State.endTx_work (s : State) (st err : Nat) (collided : Bool) : CanWork p (endKeys p b) s (s.endTx p b st err collided) := by
  rw [State.endTx_eq]
  exact (((s.endShown_work st err).trans (State.endFlagged_work _ st)).trans ((State.endTold_work _ st collided).mono
    endKeys_of_told)).trans (State.endAgain_work _ st _)

/-- An end that no further transmission follows shows what it wrote, and is told. -/
theorem State.endTx_shown (s : State) {st : Nat} (err : Nat) (collided : Bool) (h : (s.txReq p b).again = false ∨ st = txCancelled) :
    CanWork p (toldKeys p) ((s.endShown p b st err).endFlagged p b st) (s.endTx p b st err collided) := by
  rw [State.endTx_eq]
  refine (State.endTold_work (b := b) _ st collided).trans ?_
  have hn : ((s.txReq p b).again && st != txCancelled) = false := by
    obtain h | h := h <;> simp [h]
  unfold State.endAgain
  rw [hn, if_neg Bool.false_ne_true]
  exact .ite (.finish (.refl _) _ _ _ toldKeys_of_log) (.refl _)

end

/-! ### Requests and arbitration after an end -/

theorem State.port_congr {s t : State} (h : t.fbc = s.fbc) (p : Nat) : t.port p = s.port p := congrArg (fun x : Fbc => x.ports.get {} p) h

theorem State.txReq_congr {s t : State} (h : t.fbc = s.fbc) (p b : Nat) : t.txReq p b = s.txReq p b :=
  congrArg (fun x : CanPort => x.reqs.get {} b) (State.port_congr h p)

theorem State.txReq_putTxReq (s : State) (p b : Nat) (x : TxReq) : (s.putTxReq p b x).txReq p b = x := by
  unfold State.txReq State.putTxReq
  rw [State.port_putPort]
  exact Tab.get_put_self _ _ _ _

theorem State.txReq_putTxReq_ne (s : State) (p : Nat) {b n : Nat} (x : TxReq) (h : n ≠ b) : (s.putTxReq p b x).txReq p n = s.txReq p n := by
  unfold State.txReq State.putTxReq
  rw [State.port_putPort]
  exact Tab.get_put_ne _ _ _ _ _ h.symm

theorem State.arb_putTxReq (s : State) (p b : Nat) (x : TxReq) : ((s.putTxReq p b x).port p).arb = (s.port p).arb := by
  unfold State.putTxReq
  rw [State.port_putPort]

theorem State.wrs_fbc (s : State) (l : List (Fld × Nat)) : (s.wrs l).fbc = s.fbc := by rw [State.wrs_eq]

theorem Raised.fbc {n : Nat} {s t : State} (h : Raised n s t) : t.fbc = s.fbc := by rw [h.eq]

/-- What a record of an end leaves of the port: the arbitration, and the requests but for the last record's instant and count. -/
structure PortTold (p b : Nat) (s t : State) : Prop where
  arb : (t.port p).arb = (s.port p).arb
  other : ∀ n, n ≠ b → t.txReq p n = s.txReq p n
  own : ∃ a n, t.txReq p b = { s.txReq p b with logAt := a, logSince := n }

theorem PortTold.of_fbc {p b : Nat} {s t : State} (h : t.fbc = s.fbc) : PortTold p b s t :=
  ⟨congrArg CanPort.arb (State.port_congr h p), fun n _ => State.txReq_congr h p n, _, _, State.txReq_congr h p b⟩

theorem PortTold.trans {p b : Nat} {s t u : State} (h : PortTold p b s t) (k : PortTold p b t u) : PortTold p b s u := by
  obtain ⟨a, n, ha⟩ := h.own
  obtain ⟨a', n', ha'⟩ := k.own
  exact ⟨k.arb.trans h.arb, fun m hm => (k.other m hm).trans (h.other m hm), a', n', by rw [ha', ha]⟩

theorem PortTold.putTxReq (p b : Nat) (s : State) (a : Option Nat) (n : Nat) :
    PortTold p b s (s.putTxReq p b { s.txReq p b with logAt := a, logSince := n }) :=
  ⟨State.arb_putTxReq _ _ _ _, fun _ hm => State.txReq_putTxReq_ne _ _ _ hm, a, n, State.txReq_putTxReq _ _ _ _⟩

theorem State.logFailed_told (s : State) (p b : Nat) : PortTold p b s (s.logFailed p b) := by
  unfold State.logFailed
  dsimp only
  split
  · exact .putTxReq p b s (s.txReq p b).logAt _
  · exact (PortTold.putTxReq p b s (some s.floorTime) 0).trans (.of_fbc (State.log_raised _ _ _ _ _ _).fbc)

theorem State.collision_fbc (s : State) (p b : Nat) : (s.collision p b).fbc = s.fbc := by
  unfold State.collision
  rw [(State.logAll_raised _ _ _ _ _).eq]
  exact State.wrs_fbc _ _

theorem State.finish_fbc (s : State) (w : Wait) (st : Nat) (d : Bytes) : (s.finish w st d).fbc = s.fbc := by
  rw [(s.finish_ended w st d).eq]

theorem State.endTold_told (s : State) (p b st : Nat) (collided : Bool) : PortTold p b s (s.endTold p b st collided) := by
  refine PortTold.trans ?_ (.of_fbc (State.finish_fbc _ _ _ _))
  split
  · exact .of_fbc (s.collision_fbc p b)
  · split
    · exact s.logFailed_told p b
    · exact .of_fbc rfl

theorem State.endAgain_fbc (s : State) (p b st : Nat) (again : Bool) : (s.endAgain p b st again).fbc = s.fbc := by
  unfold State.endAgain
  split
  · exact State.wrs_fbc _ _
  · split
    · exact State.finish_fbc _ _ _ _
    · rfl

theorem State.endFlagged_fbc (s : State) (p b st : Nat) : (s.endFlagged p b st).fbc = s.fbc := by
  unfold State.endFlagged
  split
  · rfl
  · split <;> rfl

theorem State.endTx_told (s : State) (p b st err : Nat) (collided : Bool) :
    PortTold p b (s.endShown p b st err) (s.endTx p b st err collided) := by
  rw [State.endTx_eq]
  exact ((PortTold.of_fbc (State.endFlagged_fbc _ p b st)).trans (State.endTold_told _ p b st collided)).trans
    (.of_fbc (State.endAgain_fbc _ p b st _))

theorem State.endTx_arb (s : State) (p b st err : Nat) (collided : Bool) :
    ((s.endTx p b st err collided).port p).arb = if (s.port p).arb = some b then none else (s.port p).arb := by
  refine (s.endTx_told p b st err collided).arb.trans ((State.arb_putTxReq _ _ _ _).trans ?_)
  rw [State.port_congr (State.wrs_fbc _ _), State.port_putPort]

theorem State.endTx_txReq (s : State) (p b st err : Nat) (collided : Bool) : ∃ a n, (s.endTx p b st err collided).txReq p b =
    { s.txReq p b with failures := 0, again := false, cancel := false, copy := none, logAt := a, logSince := n } := by
  obtain ⟨a, n, h⟩ := (s.endTx_told p b st err collided).own
  exact ⟨a, n, h.trans (by rw [State.endShown, State.txReq_putTxReq])⟩

theorem State.endTx_txReq_ne (s : State) (p : Nat) {b n : Nat} (st err : Nat) (collided : Bool) (hn : n ≠ b) :
    (s.endTx p b st err collided).txReq p n = s.txReq p n := by
  refine ((s.endTx_told p b st err collided).other n hn).trans ((State.txReq_putTxReq_ne _ _ _ hn).trans ?_)
  rw [State.txReq_congr (State.wrs_fbc _ _), State.txReq, State.port_putPort]
  rfl

/-! ### Fields after an end -/

/-- The fields of a buffer that an end writes are apart from each other. -/
theorem buf_keys_ne (p b : Nat) : ((Obj.FBC_TXB_LAST_ERR.ij p b).key ≠ (Obj.FBC_TXB_STATE.ij p b).key ∧
      (Obj.FBC_TXB_EVT_SENT.ij p b).key ≠ (Obj.FBC_TXB_STATE.ij p b).key ∧ (Obj.FBC_TXB_TX_COUNT.ij p b).key ≠ (Obj.FBC_TXB_STATE.ij p b).key ∧
      (Obj.FBC_TXB_EVT_FAIL.ij p b).key ≠ (Obj.FBC_TXB_STATE.ij p b).key ∧ (Obj.FBC_TXB_ATTEMPTS.ij p b).key ≠ (Obj.FBC_TXB_STATE.ij p b).key) ∧
    ((Obj.FBC_TXB_EVT_SENT.ij p b).key ≠ (Obj.FBC_TXB_LAST_ERR.ij p b).key ∧ (Obj.FBC_TXB_TX_COUNT.ij p b).key ≠ (Obj.FBC_TXB_LAST_ERR.ij p b).key ∧
      (Obj.FBC_TXB_EVT_FAIL.ij p b).key ≠ (Obj.FBC_TXB_LAST_ERR.ij p b).key ∧ (Obj.FBC_TXB_ATTEMPTS.ij p b).key ≠ (Obj.FBC_TXB_LAST_ERR.ij p b).key) ∧
    ((Obj.FBC_TXB_EVT_SENT.ij p b).key ≠ (Obj.FBC_TXB_TX_COUNT.ij p b).key ∧ (Obj.FBC_TXB_STATE.ij p b).key ≠ (Obj.FBC_TXB_TX_COUNT.ij p b).key ∧
      (Obj.FBC_TXB_LAST_ERR.ij p b).key ≠ (Obj.FBC_TXB_TX_COUNT.ij p b).key ∧ (Obj.FBC_TXB_TX_COUNT.ij p b).key ≠ (Obj.FBC_TXB_EVT_SENT.ij p b).key) := by
  simp [Fld.key, Row.ij, Row.at, Obj.FBC_TXB_STATE, Obj.FBC_TXB_LAST_ERR, Obj.FBC_TXB_ATTEMPTS, Obj.FBC_TXB_TX_COUNT, Obj.FBC_TXB_EVT_SENT,
    Obj.FBC_TXB_EVT_FAIL]
  omega

section
variable {p b : Nat}

theorem toldKeys_buf (hp : p < 24) (hb : b < 32) : toldKeys p (Obj.FBC_TXB_STATE.ij p b).key = false ∧ toldKeys p (Obj.FBC_TXB_LAST_ERR.ij p b).key = false ∧
    toldKeys p (Obj.FBC_TXB_ATTEMPTS.ij p b).key = false ∧ toldKeys p (Obj.FBC_TXB_TX_COUNT.ij p b).key = false ∧
    toldKeys p (Obj.FBC_TXB_EVT_SENT.ij p b).key = false ∧ toldKeys p (Obj.FBC_TXB_EVT_FAIL.ij p b).key = false := by
  have h : ∀ (p : Fin 24) (b : Fin 32), ([Obj.FBC_TXB_STATE, Obj.FBC_TXB_LAST_ERR, Obj.FBC_TXB_ATTEMPTS, Obj.FBC_TXB_TX_COUNT, Obj.FBC_TXB_EVT_SENT,
      Obj.FBC_TXB_EVT_FAIL].all fun r => ! toldKeys p (r.ij p b).key) = true := by decide +kernel
  simpa using h ⟨p, hp⟩ ⟨b, hb⟩

theorem State.rd_endShown (s : State) (st err : Nat) : (s.endShown p b st err).rd (Obj.FBC_TXB_STATE.ij p b) = st % 8 ∧
    (s.endShown p b st err).rd (Obj.FBC_TXB_LAST_ERR.ij p b) = err % 16 ∧
    (s.endShown p b st err).rd (Obj.FBC_TXB_TX_COUNT.ij p b) = s.rd (Obj.FBC_TXB_TX_COUNT.ij p b) := by
  obtain ⟨⟨h1, -⟩, -, -, h2, h3, -⟩ := buf_keys_ne p b
  refine ⟨?_, ?_, ?_⟩
  · exact (State.rd_wr_ne _ _ _ _ h1).trans (State.rd_wr_self _ _ _)
  · exact State.rd_wr_self _ _ _
  · exact (State.rd_wr_ne _ _ _ _ h3).trans (State.rd_wr_ne _ _ _ _ h2)

theorem State.rd_endFlagged (t : State) (st : Nat) : (t.endFlagged p b st).rd (Obj.FBC_TXB_STATE.ij p b) = t.rd (Obj.FBC_TXB_STATE.ij p b) ∧
    (t.endFlagged p b st).rd (Obj.FBC_TXB_LAST_ERR.ij p b) = t.rd (Obj.FBC_TXB_LAST_ERR.ij p b) ∧
    (st = txSent → (t.endFlagged p b st).rd (Obj.FBC_TXB_EVT_SENT.ij p b) = 1 ∧
      (t.endFlagged p b st).rd (Obj.FBC_TXB_TX_COUNT.ij p b) = (t.rd (Obj.FBC_TXB_TX_COUNT.ij p b) + 1) % 2 ^ 32) ∧
    (st = txFailed ∨ st = txArbLost → (t.endFlagged p b st).rd (Obj.FBC_TXB_EVT_FAIL.ij p b) = 1) := by
  obtain ⟨⟨-, hs1, hs2, hs3, -⟩, ⟨hl1, hl2, hl3, -⟩, hc1, -, -, hc2⟩ := buf_keys_ne p b
  unfold State.endFlagged
  split
  case isTrue h =>
    subst h
    refine ⟨?_, ?_, fun _ => ⟨?_, ?_⟩, fun h => absurd h (by decide)⟩
    · exact (State.rd_wr_ne _ _ _ _ hs2).trans (State.rd_wr_ne _ _ _ _ hs1)
    · exact (State.rd_wr_ne _ _ _ _ hl2).trans (State.rd_wr_ne _ _ _ _ hl1)
    · exact (State.rd_wr_ne _ _ _ _ hc2).trans (State.rd_wr_self _ _ _)
    · refine (State.rd_wr_self _ _ _).trans ?_
      rw [State.set1, State.rd_wr_ne _ _ _ _ hc1]
      rfl
  case isFalse h =>
    split
    case isTrue _ =>
      exact ⟨State.rd_wr_ne _ _ _ _ hs3, State.rd_wr_ne _ _ _ _ hl3, fun e => absurd e h, fun _ => State.rd_wr_self _ _ _⟩
    case isFalse h' => exact ⟨rfl, rfl, fun e => absurd e h, fun e => absurd e h'⟩

/-- What an end that no further transmission follows leaves in the buffer. -/
theorem State.rd_endTx (hp : p < 24) (hb : b < 32) (s : State) {st : Nat} (err : Nat) (collided : Bool) (h : (s.txReq p b).again = false ∨ st = txCancelled) :
    (s.endTx p b st err collided).rd (Obj.FBC_TXB_STATE.ij p b) = st % 8 ∧
    (s.endTx p b st err collided).rd (Obj.FBC_TXB_LAST_ERR.ij p b) = err % 16 ∧
    (st = txSent → (s.endTx p b st err collided).rd (Obj.FBC_TXB_EVT_SENT.ij p b) = 1 ∧
      (s.endTx p b st err collided).rd (Obj.FBC_TXB_TX_COUNT.ij p b) = (s.rd (Obj.FBC_TXB_TX_COUNT.ij p b) + 1) % 2 ^ 32) ∧
    (st = txFailed ∨ st = txArbLost → (s.endTx p b st err collided).rd (Obj.FBC_TXB_EVT_FAIL.ij p b) = 1) := by
  have hw := (s.endTx_shown err collided h).rd
  obtain ⟨t1, t2, -, t4, t5, t6⟩ := toldKeys_buf hp hb
  obtain ⟨g1, g2, g3, g4⟩ := (s.endShown p b st err).rd_endFlagged (p := p) (b := b) st
  obtain ⟨e1, e2, e3⟩ := s.rd_endShown (p := p) (b := b) st err
  refine ⟨(hw _ t1).trans (g1.trans e1), (hw _ t2).trans (g2.trans e2), fun hst => ⟨(hw _ t5).trans (g3 hst).1, ?_⟩, fun hst => (hw _ t6).trans (g4 hst)⟩
  rw [hw _ t4, (g3 hst).2, e3]

end

/-! ### The beginning of an attempt -/

section
variable {p b : Nat}

theorem State.beginTx_work (s : State) : CanWork p (endKeys p b) s (s.beginTx p b) := by
  obtain ⟨h1, -, h3, -⟩ := bufKeys_mem p b
  exact .perf (.wr (.wr (.putTxReq (.putPort (.refl s) rfl) _ _) (endKeys_of_buf h1) _) (endKeys_of_buf h3) _) _ _ _ _

/-- An attempt of buffer `b` has begun from `s`. -/
structure Begun (s t : State) (p b : Nat) : Prop where
  state : t.rd (Obj.FBC_TXB_STATE.ij p b) = 2
  attempts : t.rd (Obj.FBC_TXB_ATTEMPTS.ij p b) = satAdd 8 (s.rd (Obj.FBC_TXB_ATTEMPTS.ij p b)) 1 % 2 ^ 8
  arb : (t.port p).arb = some b
  own : t.txReq p b = { s.txReq p b with
    copy := some ((s.txReq p b).copy.getD (s.bufFrame p b)), selected := s.floorTime }
  other : ∀ n, n ≠ b → t.txReq p n = s.txReq p n

theorem State.perf_fbc (s : State) (u e c n : Nat) : (s.perf u e c n).fbc = s.fbc := by
  obtain ⟨cn, hcn⟩ := s.perf_counts u e c n
  rw [hcn]

/-- The request of an attempt and its copy of the frame. -/
def State.beginReq (s : State) (p b : Nat) : State :=
  (s.putPort p { s.port p with arb := some b }).putTxReq p b
    { s.txReq p b with copy := some ((s.txReq p b).copy.getD (s.bufFrame p b)), selected := s.floorTime }

theorem State.beginTx_eq (s : State) (p b : Nat) : s.beginTx p b =
    (((s.beginReq p b).wr (Obj.FBC_TXB_STATE.ij p b) txArbitrating).incSat (Obj.FBC_TXB_ATTEMPTS.ij p b)).perf 9 0x09 (s.bufOwner p b) := by
  unfold State.beginTx State.beginReq
  dsimp only
  generalize s.txReq p b = x
  obtain ⟨_, _, _, copy, _, _, _, _⟩ := x
  cases copy <;> rfl

theorem State.beginTx_begun (s : State) (p b : Nat) : Begun s (s.beginTx p b) p b := by
  have hne : (Obj.FBC_TXB_ATTEMPTS.ij p b).key ≠ (Obj.FBC_TXB_STATE.ij p b).key := (buf_keys_ne p b).1.2.2.2.2
  rw [State.beginTx_eq]
  generalize hu : s.beginReq p b = u
  have hr : u.regs = s.regs := by rw [← hu]; rfl
  constructor
  · rw [State.rd_congr (State.perf_regs _ _ _ _ _), State.incSat, State.rd_wr_ne _ _ _ _ hne, State.rd_wr_self]
    rfl
  · rw [State.rd_congr (State.perf_regs _ _ _ _ _), State.incSat, State.rd_wr_self, State.rd_wr_ne _ _ _ _ hne.symm, State.rd_congr hr]
    rfl
  · rw [State.port_congr (State.perf_fbc _ _ _ _ _)]
    exact (congrArg (fun x : State => (x.port p).arb) hu.symm).trans ((State.arb_putTxReq _ _ _ _).trans (by rw [State.port_putPort]))
  · rw [State.txReq_congr (State.perf_fbc _ _ _ _ _)]
    exact (congrArg (fun x : State => x.txReq p b) hu.symm).trans (State.txReq_putTxReq _ _ _ _)
  · intro n hn
    rw [State.txReq_congr (State.perf_fbc _ _ _ _ _)]
    refine (congrArg (fun x : State => x.txReq p n) hu.symm).trans ((State.txReq_putTxReq_ne _ _ _ hn).trans ?_)
    rw [State.txReq, State.port_putPort]
    rfl

end

/-! ### A selection -/

theorem State.mem_bufsIn {s : State} {p st b : Nat} : b ∈ s.bufsIn p st ↔ b < 32 ∧ s.txState p b = st := by
  simp [State.bufsIn]

theorem State.topBuf_mem {s : State} {p b : Nat} {l : List Nat} (h : s.topBuf p l = some b) : b ∈ l := by
  induction l generalizing b with
  | nil => cases h
  | cons c l ih =>
    unfold State.topBuf at h
    split at h
    case _ d hd =>
      split at h
      · cases h; exact List.mem_cons_self
      · cases h; exact List.mem_cons_of_mem c (ih hd)
    case _ hd => cases h; exact List.mem_cons_self

/-- What a selection does with a buffer that the firewall refuses. -/
def State.refuseTx (s : State) (p b : Nat) : State :=
  (((s.inc (Obj.FBC_FW_TX_BLOCK.i p)).set1 (Obj.FBC_FEVT_FW.i p)).perf 9 0x06 vendorTag).endTx p b txFailed 8

/-- The refused buffers end, and the winner of some others begins an attempt. -/
def State.selectFrom (s : State) (p : Nat) (refused rest : List Nat) : State :=
  let t := refused.foldl (fun t b => t.refuseTx p b) s
  match t.topBuf p rest with
  | some b => t.beginTx p b
  | none => t

/-- Whether a port selects: it is running and nothing is in arbitration. -/
def State.selects (s : State) (p : Nat) : Bool := s.onBus p && s.portState p == portRunning && (s.port p).arb.isNone

theorem State.select_eq (s : State) (p : Nat) : s.select p = if s.selects p then
    s.selectFrom p ((s.bufsIn p 1).filter fun b => ! s.mayTransmit p b) ((s.bufsIn p 1).filter fun b => s.mayTransmit p b) else s := rfl

theorem State.select_off {s : State} {p : Nat} (h : s.selects p = false) : s.select p = s := by
  rw [State.select_eq, h]
  rfl

theorem State.select_calm {s : State} {p : Nat} (h : Calm s p) : s.select p = s := by
  rw [State.select_eq, show s.bufsIn p 1 = [] from h]
  exact ite_self s

theorem State.refuseTx_work {p b : Nat} {l : List Nat} (hl : b ∈ l) (s : State) :
    CanWork p (selectKeys p l) s (s.refuseTx p b) := by
  refine (CanWork.perf (.wr (.wr (.refl s) ?_ _) ?_ _) _ _ _ _).trans ((State.endTx_work _ _ _ _).mono (selectKeys_of_end hl)) <;>
  simp [selectKeys]

theorem State.selectFrom_work {p : Nat} {l r q : List Nat} (hr : ∀ b ∈ r, b ∈ l) (hq : ∀ b ∈ q, b ∈ l)
    (s : State) : CanWork p (selectKeys p l) s (s.selectFrom p r q) := by
  have h : CanWork p (selectKeys p l) s (r.foldl (fun t b => t.refuseTx p b) s) :=
    .foldl (.refl s) fun u b hb => u.refuseTx_work (hr b hb)
  unfold State.selectFrom
  dsimp only
  split
  case _ b hb =>
    have hm := hq b (State.topBuf_mem hb)
    exact h.trans ((State.beginTx_work _).mono (selectKeys_of_end hm))
  case _ => exact h

/-- A selection changes the buffers that were pending, and the firewall's counter and flag. -/
theorem State.select_work {p : Nat} (s : State) : CanWork p (selectKeys p (s.bufsIn p 1)) s (s.select p) := by
  rw [State.select_eq]
  exact .ite (State.selectFrom_work (fun b hb => List.mem_of_mem_filter hb)
    (fun b hb => List.mem_of_mem_filter hb) s) (.refl s)

/-- One pending buffer that the firewall lets pass begins an attempt. -/
theorem State.select_one {s : State} {p b : Nat} (hs : s.selects p = true) (h : s.bufsIn p 1 = [b]) (hm : s.mayTransmit p b = true) :
    s.select p = s.beginTx p b := by
  rw [State.select_eq, hs, if_pos rfl, h]
  simp [State.selectFrom, hm, State.topBuf]

/-- One pending buffer that the firewall refuses ends. -/
theorem State.select_refused {s : State} {p b : Nat} (hs : s.selects p = true) (h : s.bufsIn p 1 = [b]) (hm : s.mayTransmit p b = false) :
    s.select p = s.refuseTx p b := by
  rw [State.select_eq, hs, if_pos rfl, h]
  simp [State.selectFrom, hm, State.topBuf]

end Sys2Proof.Machine
end

section
/-!
SUPPORT. The data words of a transmit buffer, and what work on a port's requests leaves alone (spec/10 R262 to R268).
-/
namespace Sys2Proof.Machine
open Sys2Proof.Claims

/-! ### Fields that work on a port's requests leaves alone -/

/-- The words that show the state of some buffer. -/
def anyBufKeys (p k : Nat) : Bool :=
  inPort p 0x1000 0x2000 k && decide (0x54 ≤ k / 8 % 0x80 ∧ k / 8 % 0x80 < 0x58 ∨ 0x60 ≤ k / 8 % 0x80 ∧ k / 8 % 0x80 < 0x68)

theorem anyBufKeys_of_buf {p b k : Nat} (hb : b < 32) (h : bufKeys p b k = true) : anyBufKeys p k = true := by
  simp only [bufKeys, anyBufKeys, inPort, Bool.or_eq_true, Bool.and_eq_true, decide_eq_true_eq] at h ⊢
  omega

/-- The fields that work on any request of a port may change. -/
def requestKeys (p k : Nat) : Bool :=
  anyBufKeys p k || collKeys p k || logKey k || k == (Obj.FBC_FW_TX_BLOCK.i p).key || k == (Obj.FBC_FEVT_FW.i p).key

theorem requestKeys_of_select {p : Nat} {l : List Nat} (hl : ∀ b ∈ l, b < 32) : ∀ k, selectKeys p l k = true → requestKeys p k = true := by
  intro k h
  have hany : l.any (fun b => bufKeys p b k) = true → anyBufKeys p k = true := fun ha => by
    obtain ⟨b, hb, hk⟩ := List.any_eq_true.mp ha
    exact anyBufKeys_of_buf (hl b hb) hk
  simp only [requestKeys, selectKeys, Bool.or_eq_true] at h ⊢
  obtain (((h | h) | h) | h) | h := h
  · exact .inl (.inl (.inl (.inl (hany h))))
  · exact .inl (.inl (.inl (.inr h)))
  · exact .inl (.inl (.inr h))
  · exact .inl (.inr h)
  · exact .inr h

theorem requestKeys_of_end {p b : Nat} (hb : b < 32) : ∀ k, endKeys p b k = true → requestKeys p k = true := fun k h =>
  requestKeys_of_select (l := [b]) (by simpa using hb) k (selectKeys_of_end List.mem_cons_self k h)

/-- Fields of a port that work on its requests leaves alone. -/
theorem requestKeys_port {p : Nat} (hp : p < 24) {r : Row} (hr : r ∈ [Obj.FBC_STATE, Obj.FBC_ERR_STATE, Obj.FBC_TEC, Obj.FBC_REC, Obj.FBC_RX_FRAMES,
    Obj.FBC_TX_FRAMES, Obj.FBC_ARB_LOST, Obj.FBC_ERR_FRAMES, Obj.FBC_RX_NOMATCH, Obj.FBC_EVT_BUSOFF, Obj.FBC_BUSOFF_COUNT, Obj.FBC_FW_RX_UNBOUND,
    Obj.FBC_RECOVER_TIME, Obj.FBC_EVT_RECOVERED, Obj.FBC_FEVT_DISTURB, Obj.FBC_DIST_LAST_COUNT, Obj.FBC_DIST_LAST_ID, Obj.FBC_EVT_WAKE]) :
    requestKeys p (r.i p).key = false := by
  have h : ∀ p : Fin 24, ([Obj.FBC_STATE, Obj.FBC_ERR_STATE, Obj.FBC_TEC, Obj.FBC_REC, Obj.FBC_RX_FRAMES,
    Obj.FBC_TX_FRAMES, Obj.FBC_ARB_LOST, Obj.FBC_ERR_FRAMES, Obj.FBC_RX_NOMATCH, Obj.FBC_EVT_BUSOFF, Obj.FBC_BUSOFF_COUNT, Obj.FBC_FW_RX_UNBOUND,
    Obj.FBC_RECOVER_TIME, Obj.FBC_EVT_RECOVERED, Obj.FBC_FEVT_DISTURB, Obj.FBC_DIST_LAST_COUNT, Obj.FBC_DIST_LAST_ID, Obj.FBC_EVT_WAKE].all
      fun r => ! requestKeys p (r.i p).key) = true := by decide +kernel
  have := List.all_eq_true.mp (h ⟨p, hp⟩) r hr
  simpa using this

/-- Fields of a buffer that work on its requests leaves alone. -/
theorem requestKeys_buf {p b : Nat} (hp : p < 24) (hb : b < 32) {r : Row} (hr : r ∈ [Obj.FBC_TXB_BIND_ID, Obj.FBC_TXB_BIND_XTD, Obj.FBC_TXB_BIND_ENABLE,
    Obj.FBC_TXB_FRAME_DLC, Obj.FBC_TXB_FRAME_FDF, Obj.FBC_TXB_FRAME_BRS, Obj.FBC_TXB_FRAME_RTR, Obj.FBC_TXB_CTRL_OWNER, Obj.FBC_TXB_CTRL_RETRY_OVR,
    Obj.FBC_TXB_CTRL_RETRY_LIMIT, Obj.FBC_TXB_STAMP]) :
    requestKeys p (r.ij p b).key = false := by
  have h : ∀ (p : Fin 24) (b : Fin 32), ([Obj.FBC_TXB_BIND_ID, Obj.FBC_TXB_BIND_XTD, Obj.FBC_TXB_BIND_ENABLE,
    Obj.FBC_TXB_FRAME_DLC, Obj.FBC_TXB_FRAME_FDF, Obj.FBC_TXB_FRAME_BRS, Obj.FBC_TXB_FRAME_RTR, Obj.FBC_TXB_CTRL_OWNER, Obj.FBC_TXB_CTRL_RETRY_OVR,
    Obj.FBC_TXB_CTRL_RETRY_LIMIT, Obj.FBC_TXB_STAMP].all fun r => ! requestKeys p (r.ij p b).key) = true := by decide +kernel
  have := List.all_eq_true.mp (h ⟨p, hp⟩ ⟨b, hb⟩) r hr
  simpa using this

/-- Another buffer's fields are not among those of one buffer. -/
theorem bufKeys_other {p b n : Nat} (h : b ≠ n) : bufKeys p b (Obj.FBC_TXB_STATE.ij p n).key = false ∧
    bufKeys p b (Obj.FBC_TXB_LAST_ERR.ij p n).key = false ∧ bufKeys p b (Obj.FBC_TXB_ATTEMPTS.ij p n).key = false ∧
    bufKeys p b (Obj.FBC_TXB_TX_COUNT.ij p n).key = false ∧ bufKeys p b (Obj.FBC_TXB_EVT_SENT.ij p n).key = false ∧
    bufKeys p b (Obj.FBC_TXB_EVT_FAIL.ij p n).key = false := by
  simp [bufKeys, inPort, Fld.key, Row.ij, Row.at, Obj.FBC_TXB_STATE, Obj.FBC_TXB_LAST_ERR, Obj.FBC_TXB_ATTEMPTS, Obj.FBC_TXB_TX_COUNT,
    Obj.FBC_TXB_EVT_SENT, Obj.FBC_TXB_EVT_FAIL]
  omega

theorem requestKeys_range {p r : Nat} (hp : p < 24) (hr : r < 16) : requestKeys p (Obj.FBC_RNG_ENABLE.ij p r).key = false ∧
    requestKeys p (Obj.FBC_RNG_XTD.ij p r).key = false ∧ requestKeys p (Obj.FBC_RNG_OWNER.ij p r).key = false ∧
    requestKeys p (Obj.FBC_RNG_LOW.ij p r).key = false ∧ requestKeys p (Obj.FBC_RNG_HIGH.ij p r).key = false := by
  have h : ∀ (p : Fin 24) (r : Fin 16), ([Obj.FBC_RNG_ENABLE, Obj.FBC_RNG_XTD, Obj.FBC_RNG_OWNER, Obj.FBC_RNG_LOW, Obj.FBC_RNG_HIGH].all
    fun w => ! requestKeys p (w.ij p r).key) = true := by decide +kernel
  simpa using h ⟨p, hp⟩ ⟨r, hr⟩

theorem requestKeys_mode {p : Nat} (hp : p < 24) : requestKeys p Obj.IDENT_MODE.f.key = false := by
  have h : ∀ p : Fin 24, requestKeys p Obj.IDENT_MODE.f.key = false := by decide +kernel
  exact h ⟨p, hp⟩

/-! ### Data words -/

/-- A data word of a buffer. -/
def dataWord (p b w : Nat) : Fld := Obj.FBC_TXB_DATA.at 0 [p, b, w]

theorem dataWord_key (p b w : Nat) : (dataWord p b w).key = 8 * (0x801010 + 0x10000 * p + 0x80 * b + 4 * w) := by
  simp [dataWord, Fld.key, Row.at, Obj.FBC_TXB_DATA]
  omega

/-- Some bytes of a buffer's words as one number. -/
def State.wordsOf (s : State) (p b k : Nat) : Nat := (List.range k).foldl (fun n w => n + s.rd (dataWord p b w) * 2 ^ (32 * w)) 0

theorem State.bufData_eq (s : State) (p b : Nat) : s.bufData p b = s.wordsOf p b 16 := rfl

theorem State.wordsOf_succ (s : State) (p b k : Nat) : s.wordsOf p b (k + 1) = s.wordsOf p b k + s.rd (dataWord p b k) * 2 ^ (32 * k) := by
  simp [State.wordsOf, List.range_succ]

theorem State.wordsOf_congr {s t : State} {p b k : Nat} (h : ∀ w, w < k → t.rd (dataWord p b w) = s.rd (dataWord p b w)) :
    t.wordsOf p b k = s.wordsOf p b k := by
  induction k with
  | zero => rfl
  | succ k ih => rw [State.wordsOf_succ, State.wordsOf_succ, ih fun w hw => h w (Nat.lt_succ_of_lt hw), h k (Nat.lt_succ_self k)]

/-- The first words of a buffer written from a number. -/
def State.putWords (s : State) (p b v k : Nat) : State := (List.range k).foldl (fun t w => t.wr (dataWord p b w) (v / 2 ^ (32 * w) % 2 ^ 32)) s

theorem State.putBufData_eq (s : State) (p b v : Nat) : s.putBufData p b v = s.putWords p b v 16 := rfl

theorem State.putWords_succ (s : State) (p b v k : Nat) : s.putWords p b v (k + 1) =
    (s.putWords p b v k).wr (dataWord p b k) (v / 2 ^ (32 * k) % 2 ^ 32) := by
  simp [State.putWords, List.range_succ]

theorem State.rd_putWords (s : State) (p b v k : Nat) : ∀ w, w < k → (s.putWords p b v k).rd (dataWord p b w) = v / 2 ^ (32 * w) % 2 ^ 32 := by
  induction k with
  | zero => intro w hw; omega
  | succ k ih =>
    intro w hw
    rw [State.putWords_succ]
    by_cases hk : w = k
    · subst hk
      rw [State.rd_wr_self]
      exact Nat.mod_mod _ _
    · rw [State.rd_wr_ne _ _ _ _ (by rw [dataWord_key, dataWord_key]; omega)]
      exact ih w (by omega)

theorem State.wordsOf_putWords (s : State) (p b v k : Nat) : (s.putWords p b v k).wordsOf p b k = v % 2 ^ (32 * k) := by
  have h : ∀ j, j ≤ k → (s.putWords p b v k).wordsOf p b j = v % 2 ^ (32 * j) := by
    intro j
    induction j with
    | zero => intro _; simp [State.wordsOf, Nat.mod_one]
    | succ j ih =>
      intro hj
      rw [State.wordsOf_succ, ih (by omega), s.rd_putWords p b v k j (by omega), show 32 * (j + 1) = 32 * j + 32 by omega, Nat.pow_add,
        Nat.mod_mul, Nat.mul_comm (2 ^ (32 * j))]
  exact h k (Nat.le_refl k)

theorem State.bufData_putBufData (s : State) (p b v : Nat) : (s.putBufData p b v).bufData p b = v % 2 ^ 512 := s.wordsOf_putWords p b v 16

/-- The keys of a buffer's data words. -/
def dataKeys (p b k : Nat) : Bool := inPort p (0x1010 + 0x80 * b) (0x1050 + 0x80 * b) k

theorem State.putBufData_beyond (s : State) (p b v : Nat) : Beyond (dataKeys p b) s (s.putBufData p b v) := by
  have h : ∀ k, k ≤ 16 → Beyond (dataKeys p b) s (s.putWords p b v k) := by
    intro k
    induction k with
    | zero => exact fun _ => Beyond.refl _ s
    | succ k ih =>
      intro hk
      rw [State.putWords_succ]
      refine (ih (by omega)).wr ?_ _
      simp only [dataKeys, inPort, dataWord_key, decide_eq_true_eq]
      omega
  exact h 16 (Nat.le_refl 16)

theorem State.putBufData_eq_regs (s : State) (p b v : Nat) : s.putBufData p b v = { s with regs := (s.putBufData p b v).regs } := by
  rw [State.putBufData_eq]
  generalize 16 = k
  induction k with
  | zero => rfl
  | succ k ih =>
    rw [State.putWords_succ]
    generalize hu : s.putWords p b v k = u at ih ⊢
    rw [ih]
    rfl

theorem requestKeys_data {p b w : Nat} (hb : b < 32) (hw : w < 16) : requestKeys p (dataWord p b w).key = false := by
  generalize hk : (dataWord p b w).key = k
  rw [dataWord_key] at hk
  simp [requestKeys, logKey, anyBufKeys, inPort, collKeys, Fld.key, Row.b, Row.i, Row.at, Obj.FBC_FW_TX_BLOCK, Obj.FBC_FEVT_FW,
    Obj.FBC_FEVT_COLLISION, Obj.EVR_DROPPED, Obj.EVR_EVT_DROPPED]
  omega

/-! ### What work on requests leaves of a port -/

section
variable {p b : Nat} {P : Nat → Bool} {s t : State}

theorem Beyond.bufData (h : Beyond (requestKeys p) s t) (hb : b < 32) : t.bufData p b = s.bufData p b :=
  State.wordsOf_congr fun _ hw => h _ (requestKeys_data hb hw)

theorem Beyond.portState (h : Beyond (requestKeys p) s t) (hp : p < 24) : t.portState p = s.portState p :=
  h _ (requestKeys_port hp (by decide))

theorem Beyond.errState (h : Beyond (requestKeys p) s t) (hp : p < 24) : t.errState p = s.errState p :=
  h _ (requestKeys_port hp (by decide))

theorem Beyond.bufFrame (h : Beyond (requestKeys p) s t) (hp : p < 24) (hb : b < 32) : t.bufFrame p b = s.bufFrame p b := by
  have h1 : t.bufId p b = s.bufId p b := h _ (requestKeys_buf hp hb (by decide))
  have h2 : t.bufXtd p b = s.bufXtd p b := congrArg (· == 1) (h _ (requestKeys_buf hp hb (by decide)))
  have h3 := h _ (requestKeys_buf hp hb (r := Obj.FBC_TXB_FRAME_DLC) (by decide))
  have h4 := h _ (requestKeys_buf hp hb (r := Obj.FBC_TXB_FRAME_FDF) (by decide))
  have h5 := h _ (requestKeys_buf hp hb (r := Obj.FBC_TXB_FRAME_BRS) (by decide))
  have h6 := h _ (requestKeys_buf hp hb (r := Obj.FBC_TXB_FRAME_RTR) (by decide))
  simp only [State.bufFrame, State.on, h1, h2, h3, h4, h5, h6, h.bufData hb, h.errState hp] <;> rfl

theorem Beyond.bufOwner (h : Beyond (requestKeys p) s t) (hp : p < 24) (hb : b < 32) : t.bufOwner p b = s.bufOwner p b :=
  h _ (requestKeys_buf hp hb (by decide))

/-- The firewall's answer stands where its fields do. -/
theorem Beyond.mayTransmit_of {Q : Nat → Bool} (h : Beyond Q s t)
    (hb : ∀ r ∈ [Obj.FBC_TXB_CTRL_OWNER, Obj.FBC_TXB_BIND_ID, Obj.FBC_TXB_BIND_XTD], Q (r.ij p b).key = false)
    (hr : ∀ r ∈ [Obj.FBC_RNG_ENABLE, Obj.FBC_RNG_XTD, Obj.FBC_RNG_OWNER, Obj.FBC_RNG_LOW, Obj.FBC_RNG_HIGH], ∀ i, i < 16 → Q (r.ij p i).key = false) :
    t.mayTransmit p b = s.mayTransmit p b := by
  simp only [List.forall_mem_cons, List.not_mem_nil, false_implies, implies_true, and_true] at hb hr
  obtain ⟨b1, b2, b3⟩ := hb
  obtain ⟨r1, r2, r3, r4, r5⟩ := hr
  have h0 : t.bufOwner p b = s.bufOwner p b := h _ b1
  have h1 : t.bufId p b = s.bufId p b := h _ b2
  have h2 : t.bufXtd p b = s.bufXtd p b := congrArg (· == 1) (h _ b3)
  have hany : ∀ f g : Nat → Bool, (∀ r, r < 16 → f r = g r) → (List.range 16).any f = (List.range 16).any g := fun f g hfg => by
    rw [Bool.eq_iff_iff, List.any_eq_true, List.any_eq_true]
    exact ⟨fun ⟨r, hr, hf⟩ => ⟨r, hr, (hfg r (List.mem_range.mp hr)) ▸ hf⟩, fun ⟨r, hr, hf⟩ => ⟨r, hr, (hfg r (List.mem_range.mp hr)).symm ▸ hf⟩⟩
  unfold State.mayTransmit
  rw [h0, h1, h2]
  congr 1
  refine hany _ _ fun r hr => ?_
  simp only [State.on, h _ (r1 r hr), h _ (r2 r hr), h _ (r3 r hr), h _ (r4 r hr), h _ (r5 r hr)]

theorem Beyond.mayTransmit (h : Beyond (requestKeys p) s t) (hp : p < 24) (hb : b < 32) : t.mayTransmit p b = s.mayTransmit p b := by
  refine h.mayTransmit_of (fun r hr => requestKeys_buf hp hb ?_) ?_
  · simp only [List.mem_cons, List.not_mem_nil, or_false] at hr ⊢
    tauto
  · simp only [List.forall_mem_cons, List.not_mem_nil, false_implies, implies_true, and_true]
    exact ⟨fun i hi => (requestKeys_range hp hi).1, fun i hi => (requestKeys_range hp hi).2.1, fun i hi => (requestKeys_range hp hi).2.2.1,
      fun i hi => (requestKeys_range hp hi).2.2.2.1, fun i hi => (requestKeys_range hp hi).2.2.2.2⟩

theorem CanWork.onBus (h : CanWork p (requestKeys p) s t) (hp : p < 24) : t.onBus p = s.onBus p := by
  have hm : t.mode = s.mode := h.rd _ (requestKeys_mode hp)
  have hl : t.lcy = s.lcy := by rw [h.eq]
  unfold State.onBus State.halted
  rw [h.rd.portState hp, h.rd.errState hp, hm, hl, h.power, h.floorTime]

end

end Sys2Proof.Machine
end

section
/-!
SUPPORT. Requests on a transmit buffer and their cancelling (spec/10 R262, R267, R268, R275, R282).
-/
namespace Sys2Proof.Machine
open Sys2Proof.Claims

/-! ### A request -/

/-- A buffer made ready for a fresh request. -/
def State.readyTx (s : State) (p b : Nat) : State :=
  (s.putTxReq p b { s.txReq p b with failures := 0, again := false, cancel := false, copy := none }).wrs
    [(Obj.FBC_TXB_ATTEMPTS.ij p b, 0), (Obj.FBC_TXB_LAST_ERR.ij p b, 0)]

theorem State.request_eq (s : State) (p b : Nat) : s.request p b =
    if ! s.bufOn p b then s
    else if s.txState p b = txArbitrating then s.putTxReq p b { s.txReq p b with again := true }
    else if s.txState p b = txPending ∨ s.txState p b = txHeld then s
    else if s.portState p = portOff ∨ s.portState p = portAsleep then (s.readyTx p b).endTx p b txCancelled 5
    else if s.errState p ≥ 2 then (s.readyTx p b).wr (Obj.FBC_TXB_STATE.ij p b) txHeld
    else ((s.readyTx p b).wr (Obj.FBC_TXB_STATE.ij p b) txPending).select p := rfl

/-- What readying a buffer leaves: its request is fresh, and its attempts are not counted. -/
structure Ready (s t : State) (p b : Nat) : Prop where
  work : CanWork p (endKeys p b) s t
  attempts : t.rd (Obj.FBC_TXB_ATTEMPTS.ij p b) = 0
  arb : (t.port p).arb = (s.port p).arb
  own : t.txReq p b = { s.txReq p b with failures := 0, again := false, cancel := false, copy := none }
  sessions : t.sessions = s.sessions
  sent : t.sent = s.sent
  waiters : t.waiters = s.waiters

section
variable {p b : Nat} (hp : p < 24) (hb : b < 32)

theorem bufState_attempts_ne (p b : Nat) : (Obj.FBC_TXB_STATE.ij p b).key ≠ (Obj.FBC_TXB_ATTEMPTS.ij p b).key := (buf_keys_ne p b).1.2.2.2.2.symm

include hp hb

theorem State.readyTx_ready (s : State) : Ready s (s.readyTx p b) p b := by
  obtain ⟨-, h2, h3, -⟩ := bufKeys_mem p b
  have hne : (Obj.FBC_TXB_LAST_ERR.ij p b).key ≠ (Obj.FBC_TXB_ATTEMPTS.ij p b).key := (buf_keys_ne p b).2.1.2.2.2.symm
  refine ⟨.wr (.wr (.putTxReq (.refl s) _ _) (endKeys_of_buf h3) _) (endKeys_of_buf h2) _, ?_, ?_, ?_, rfl, rfl, rfl⟩
  · exact (State.rd_wr_ne _ _ _ _ hne).trans (State.rd_wr_self _ _ _)
  · exact (congrArg CanPort.arb (State.port_congr (State.wrs_fbc _ _) p)).trans (State.arb_putTxReq _ _ _ _)
  · exact (State.txReq_congr (State.wrs_fbc _ _) p b).trans (State.txReq_putTxReq _ _ _ _)

/-- The fresh request pends. -/
theorem Ready.pend {s t : State} (h : Ready s t p b) : Ready s (t.wr (Obj.FBC_TXB_STATE.ij p b) txPending) p b :=
  ⟨h.work.wr (endKeys_of_buf (bufKeys_mem p b).1) _, (State.rd_wr_ne _ _ _ _ (bufState_attempts_ne p b)).trans h.attempts,
    h.arb, h.own, h.sessions, h.sent, h.waiters⟩

omit hp in
theorem Ready.any {s t : State} (h : Ready s t p b) : CanWork p (requestKeys p) s t := h.work.mono (requestKeys_of_end hb)

omit hp hb in
theorem endKeys_state {n : Nat} (hp : p < 24) (hn : n < 32) (h : b ≠ n) : endKeys p b (Obj.FBC_TXB_STATE.ij p n).key = false := by
  obtain ⟨h1, -⟩ := bufKeys_other (p := p) h
  obtain ⟨h2, -⟩ := toldKeys_buf hp hn
  have e : endKeys p b (Obj.FBC_TXB_STATE.ij p n).key = (bufKeys p b (Obj.FBC_TXB_STATE.ij p n).key || toldKeys p (Obj.FBC_TXB_STATE.ij p n).key) :=
    Bool.or_assoc _ _ _
  rw [e, h1, h2]
  rfl

/-- Where no other request pends, the fresh one is the only one. -/
theorem Ready.bufsIn {s t : State} (h : Ready s t p b) (hc : Calm s p) (ht : t.txState p b = 1) : t.bufsIn p 1 = [b] := by
  have hmem : ∀ n, n < 32 → (t.txState p n = 1 ↔ n = b) := by
    intro n hn
    by_cases hnb : n = b
    · subst hnb
      exact ⟨fun _ => rfl, fun _ => ht⟩
    · refine ⟨fun h1 => ?_, fun e => absurd e hnb⟩
      have hk : t.txState p n = s.txState p n := h.work.rd _ (endKeys_state hp hn (Ne.symm hnb))
      have : n ∈ s.bufsIn p 1 := State.mem_bufsIn.mpr ⟨hn, hk.symm.trans h1⟩
      rw [show s.bufsIn p 1 = [] from hc] at this
      cases this
  have hall : ∀ b : Fin 32, ((List.range 32).filter fun n => n == b.val) = [b.val] := by decide
  have hcong : (List.range 32).filter (fun n => t.txState p n == 1) = (List.range 32).filter fun n => n == b := by
    refine List.filter_congr fun n hn => ?_
    rw [Bool.eq_iff_iff, beq_iff_eq, beq_iff_eq]
    exact hmem n (List.mem_range.mp hn)
  exact hcong.trans (hall ⟨b, hb⟩)

omit hp hb in
theorem State.request_again {s : State} (hOn : s.bufOn p b = true) (h : s.txState p b = 2) :
    s.request p b = s.putTxReq p b { s.txReq p b with again := true } := by
  rw [State.request_eq, hOn, h]
  rfl

omit hb in
theorem State.select_any (s : State) : CanWork p (requestKeys p) s (s.select p) :=
  (s.select_work).mono (requestKeys_of_select fun _ h => (State.mem_bufsIn.mp h).1)

theorem State.endTx_any (s : State) (st err : Nat) (collided : Bool) : CanWork p (requestKeys p) s (s.endTx p b st err collided) :=
  (s.endTx_work st err collided).mono (requestKeys_of_end hb)

theorem State.request_work (s : State) : CanWork p (requestKeys p) s (s.request p b) := by
  have hr := s.readyTx_ready hp hb
  have hs := requestKeys_of_end (p := p) hb _ (endKeys_of_buf (bufKeys_mem p b).1)
  rw [State.request_eq]
  exact .ite (.refl s) (.ite (.putTxReq (.refl s) _ _) (.ite (.refl s) (.ite ((hr.any hb).trans (State.endTx_any hp hb _ _ _ _))
    (.ite ((hr.any hb).wr hs _) (((hr.pend hp hb).any hb).trans (State.select_any hp _))))))

omit hp hb in
/-- A selection counts no failure. -/
theorem State.select_failures {s : State} (h : (s.txReq p b).failures = 0) : ((s.select p).txReq p b).failures = 0 := by
  have hend : ∀ (t : State) (c : Nat), (t.txReq p b).failures = 0 → ((t.refuseTx p c).txReq p b).failures = 0 := by
    intro t c ht
    unfold State.refuseTx
    by_cases hc : b = c
    · subst hc
      obtain ⟨a, n, hx⟩ := State.endTx_txReq (((t.inc (Obj.FBC_FW_TX_BLOCK.i p)).set1 (Obj.FBC_FEVT_FW.i p)).perf 9 0x06 vendorTag) p b txFailed 8 false
      rw [hx]
    · rw [State.endTx_txReq_ne _ _ _ _ _ hc, State.txReq_congr (State.perf_fbc _ _ _ _ _)]
      exact ht
  have hfold : ∀ (l : List Nat) (t : State), (t.txReq p b).failures = 0 → ((l.foldl (fun t c => t.refuseTx p c) t).txReq p b).failures = 0 := by
    intro l
    induction l with
    | nil => exact fun t ht => ht
    | cons c l ih => exact fun t ht => ih _ (hend t c ht)
  rw [State.select_eq]
  split
  · unfold State.selectFrom
    dsimp only
    have ht := hfold ((s.bufsIn p 1).filter fun b => ! s.mayTransmit p b) s h
    generalize ((s.bufsIn p 1).filter fun b => ! s.mayTransmit p b).foldl (fun t c => t.refuseTx p c) s = t at ht
    split
    case _ c hc =>
      have hb := State.beginTx_begun t p c
      by_cases hbc : b = c
      · subst hbc
        rw [hb.own]
        exact ht
      · rw [hb.other b hbc]
        exact ht
    case _ => exact ht
  · exact h

omit hp hb in
/-- A fresh request on an enabled buffer of a port that is off or asleep ends at once. -/
theorem State.request_off {s : State} (hOn : s.bufOn p b = true) (h : s.txState p b ∉ [1, 2, 7]) (ho : s.portState p = 0 ∨ s.portState p = 4) :
    s.request p b = (s.readyTx p b).endTx p b txCancelled 5 := by
  simp only [List.mem_cons, List.not_mem_nil, or_false, not_or] at h
  obtain ⟨h1, h2, h7⟩ := h
  refine (State.request_eq s p b).trans ((if_neg (by rw [hOn]; exact Bool.false_ne_true)).trans ?_)
  exact (if_neg h2).trans ((if_neg (not_or.mpr ⟨h1, h7⟩)).trans (if_pos ho))

omit hp hb in
theorem State.request_held {s : State} (hOn : s.bufOn p b = true) (h : s.txState p b ∉ [1, 2, 7]) (h0 : s.portState p ≠ 0)
    (h4 : s.portState p ≠ 4) (he : 2 ≤ s.errState p) : s.request p b = (s.readyTx p b).wr (Obj.FBC_TXB_STATE.ij p b) txHeld := by
  simp only [List.mem_cons, List.not_mem_nil, or_false, not_or] at h
  obtain ⟨h1, h2, h7⟩ := h
  refine (State.request_eq s p b).trans ((if_neg (by rw [hOn]; exact Bool.false_ne_true)).trans ?_)
  exact (if_neg h2).trans ((if_neg (not_or.mpr ⟨h1, h7⟩)).trans ((if_neg (not_or.mpr ⟨h0, h4⟩)).trans (if_pos he)))

omit hp hb in
theorem State.request_pends {s : State} (hOn : s.bufOn p b = true) (h : s.txState p b ∉ [1, 2, 7]) (h0 : s.portState p ≠ 0)
    (h4 : s.portState p ≠ 4) (he : s.errState p ≤ 1) :
    s.request p b = ((s.readyTx p b).wr (Obj.FBC_TXB_STATE.ij p b) txPending).select p := by
  simp only [List.mem_cons, List.not_mem_nil, or_false, not_or] at h
  obtain ⟨h1, h2, h7⟩ := h
  refine (State.request_eq s p b).trans ((if_neg (by rw [hOn]; exact Bool.false_ne_true)).trans ?_)
  exact (if_neg h2).trans ((if_neg (not_or.mpr ⟨h1, h7⟩)).trans ((if_neg (not_or.mpr ⟨h0, h4⟩)).trans (if_neg (by omega))))

theorem State.rd_endTx_cancelled (s : State) (err : Nat) : (s.endTx p b txCancelled err).txState p b = 5 ∧
    (s.endTx p b txCancelled err).rd (Obj.FBC_TXB_LAST_ERR.ij p b) = err % 16 := by
  obtain ⟨h1, h2, -⟩ := s.rd_endTx hp hb err false (st := txCancelled) (.inr rfl)
  exact ⟨h1, h2⟩

/-- The only request of a port that selects begins an attempt. -/
theorem Ready.begins {s u : State} (hq : Ready s u p b) (hs : u.selects p = true) (hone : u.bufsIn p 1 = [b]) (hm : u.mayTransmit p b = true) :
    (u.select p).txState p b = 2 ∧ (u.select p).rd (Obj.FBC_TXB_ATTEMPTS.ij p b) = 1 ∧ ((u.select p).port p).arb = some b ∧
    ((u.select p).txReq p b).copy = some ((u.select p).bufFrame p b) := by
  rw [State.select_one hs hone hm]
  have hg := u.beginTx_begun p b
  have hf := (u.beginTx_work.mono (requestKeys_of_end hb)).rd.bufFrame hp hb
  refine ⟨hg.state, ?_, hg.arb, ?_⟩
  · rw [hg.attempts, hq.attempts]
    decide
  · have hcopy : (u.txReq p b).copy = none := congrArg TxReq.copy hq.own
    rw [hg.own, hf, hcopy, Option.getD_none]

omit hp hb in
theorem endKeys_block : endKeys p b (Obj.FBC_FW_TX_BLOCK.i p).key = false := by
  generalize hk : (Obj.FBC_FW_TX_BLOCK.i p).key = k
  simp [Fld.key, Row.i, Row.at, Obj.FBC_FW_TX_BLOCK] at hk
  simp [endKeys, bufKeys, inPort, collKeys, logKey, Fld.key, Row.b, Row.i, Row.at, Obj.FBC_FEVT_COLLISION, Obj.EVR_DROPPED, Obj.EVR_EVT_DROPPED]
  omega

/-- The only request of a port that selects, refused by the firewall, fails. -/
theorem Ready.refused {s u : State} (hq : Ready s u p b) (hs : u.selects p = true) (hone : u.bufsIn p 1 = [b]) (hm : u.mayTransmit p b = false) :
    (u.select p).txState p b = 4 ∧ (u.select p).rd (Obj.FBC_TXB_LAST_ERR.ij p b) = 8 ∧
    (u.select p).rd (Obj.FBC_FW_TX_BLOCK.i p) = (s.rd (Obj.FBC_FW_TX_BLOCK.i p) + 1) % 2 ^ 32 := by
  rw [State.select_refused hs hone hm]
  unfold State.refuseTx
  have hx : ((((u.inc (Obj.FBC_FW_TX_BLOCK.i p)).set1 (Obj.FBC_FEVT_FW.i p)).perf 9 0x06 vendorTag).txReq p b).again = false := by
    rw [State.txReq_congr (State.perf_fbc _ _ _ _ _)]
    exact congrArg TxReq.again hq.own
  have hne : (Obj.FBC_FEVT_FW.i p).key ≠ (Obj.FBC_FW_TX_BLOCK.i p).key := by
    simp [Fld.key, Row.i, Row.at, Obj.FBC_FEVT_FW, Obj.FBC_FW_TX_BLOCK]
    omega
  have hv : (((u.inc (Obj.FBC_FW_TX_BLOCK.i p)).set1 (Obj.FBC_FEVT_FW.i p)).perf 9 0x06 vendorTag).rd (Obj.FBC_FW_TX_BLOCK.i p) =
      (s.rd (Obj.FBC_FW_TX_BLOCK.i p) + 1) % 2 ^ 32 := by
    rw [State.rd_congr (State.perf_regs _ _ _ _ _), State.set1, State.rd_wr_ne _ _ _ _ hne, State.inc, State.rd_wr_self,
      hq.work.rd _ (endKeys_block)]
    rfl
  generalize ((u.inc (Obj.FBC_FW_TX_BLOCK.i p)).set1 (Obj.FBC_FEVT_FW.i p)).perf 9 0x06 vendorTag = v at hx hv
  obtain ⟨h1, h3, -⟩ := v.rd_endTx hp hb 8 false (st := txFailed) (.inl hx)
  exact ⟨h1, h3, ((v.endTx_work _ _ _).rd _ (endKeys_block)).trans hv⟩

omit hp hb in
theorem State.onBus_err {s : State} (h : s.onBus p = true) : s.errState p ≤ 1 := by
  simp only [State.onBus, Bool.and_eq_true, decide_eq_true_eq] at h
  exact h.1.1.2

/-- The fresh request of a port that selects is the only one, where none pended. -/
theorem Ready.only {s u : State} (hq : Ready s u p b) (hst : u.txState p b = 1) (h2 : s.portState p = 2) (hbus : s.onBus p = true)
    (ha : (s.port p).arb = none) (hc : Calm s p) :
    u.selects p = true ∧ u.bufsIn p 1 = [b] ∧ u.mayTransmit p b = s.mayTransmit p b := by
  have hw := hq.any hb
  refine ⟨?_, hq.bufsIn hp hb hc hst, hw.rd.mayTransmit hp hb⟩
  unfold State.selects
  rw [hw.onBus hp, hbus, hw.rd.portState hp, h2, hq.arb, ha]
  rfl

theorem State.request_fails_none {s : State} (hOn : s.bufOn p b = true) (h : s.txState p b ∉ [1, 2, 7]) :
    ((s.request p b).txReq p b).failures = 0 := by
  have hr := s.readyTx_ready hp hb
  by_cases ho : s.portState p = 0 ∨ s.portState p = 4
  · rw [State.request_off hOn h ho]
    obtain ⟨a, n, hx⟩ := State.endTx_txReq (s.readyTx p b) p b txCancelled 5 false
    rw [hx]
  · obtain ⟨h0, h4⟩ := not_or.mp ho
    by_cases he : 2 ≤ s.errState p
    · rw [State.request_held hOn h h0 h4 he]
      rw [State.txReq_congr (State.wr_fbc _ _ _), hr.own]
    · have hq := hr.pend hp hb
      rw [State.request_pends hOn h h0 h4 (by omega)]
      generalize (s.readyTx p b).wr (Obj.FBC_TXB_STATE.ij p b) txPending = u at hq
      exact State.select_failures (congrArg TxReq.failures hq.own)

/-- What a request on an enabled buffer makes of it. -/
theorem State.request_requested {s : State} (hOn : s.bufOn p b = true) : Requested s (s.request p b) p b := by
  have hr := s.readyTx_ready hp hb
  have hq := hr.pend hp hb
  have hst : ((s.readyTx p b).wr (Obj.FBC_TXB_STATE.ij p b) txPending).txState p b = 1 := State.rd_wr_self _ _ _
  unfold Requested
  dsimp only
  refine ⟨fun h => ?_, fun h => ⟨State.request_fails_none hp hb hOn h, fun ho => ?_, fun h0 h4 he => ?_, fun h0 h4 he hbus => ?_,
    fun h2 hbus ha hc hm => ?_, fun h2 hbus ha hc hm => ?_⟩⟩
  case _ =>
    rw [State.request_again hOn h]
    exact ⟨congrArg TxReq.again (State.txReq_putTxReq _ _ _ _), h⟩
  case _ =>
    rw [State.request_off hOn h ho]
    exact (s.readyTx p b).rd_endTx_cancelled hp hb 5
  case _ =>
    rw [State.request_held hOn h h0 h4 he]
    exact State.rd_wr_self _ _ _
  case _ =>
    rw [State.request_pends hOn h h0 h4 he]
    generalize (s.readyTx p b).wr (Obj.FBC_TXB_STATE.ij p b) txPending = u at hq hst
    rw [State.select_off (by unfold State.selects; rw [(hq.any hb).onBus hp, hbus]; rfl)]
    exact hst
  case _ =>
    rw [State.request_pends hOn h (by omega) (by omega) (State.onBus_err hbus)]
    generalize (s.readyTx p b).wr (Obj.FBC_TXB_STATE.ij p b) txPending = u at hq hst
    obtain ⟨hs, hone, hmay⟩ := hq.only hp hb hst h2 hbus ha hc
    exact hq.begins hp hb hs hone (hmay.trans hm)
  case _ =>
    rw [State.request_pends hOn h (by omega) (by omega) (State.onBus_err hbus)]
    generalize (s.readyTx p b).wr (Obj.FBC_TXB_STATE.ij p b) txPending = u at hq hst
    obtain ⟨hs, hone, hmay⟩ := hq.only hp hb hst h2 hbus ha hc
    exact hq.refused hp hb hs hone (hmay.trans hm)

end

end Sys2Proof.Machine
end

section
/-!
SUPPORT. The CAN commands (spec/10 R261, R268, R277, R283; spec/11 R291, R295), and the proof of O42.
-/
namespace Sys2Proof.Machine
open Sys2Proof.Claims

/-! ### What only the stored fields decide -/

section
variable {s t : State} (h : t.regs = s.regs)
include h

theorem State.reaches_congr (c a : Nat) : t.reaches c a = s.reaches c a := by
  have e : ∀ u : State, u.reaches c a = ({ s with regs := u.regs } : State).reaches c a := fun _ => rfl
  rw [e t, h]

theorem State.txPayload_congr (p b : Nat) : t.txPayload p b = s.txPayload p b := by
  have e : ∀ u : State, u.txPayload p b = ({ s with regs := u.regs } : State).txPayload p b := fun _ => rfl
  rw [e t, h]

theorem State.ownsRange_congr (p c : Nat) : t.ownsRange p c = s.ownsRange p c := by
  have e : ∀ u : State, u.ownsRange p c = ({ s with regs := u.regs } : State).ownsRange p c := fun _ => rfl
  rw [e t, h]

theorem State.bufData_congr (p b : Nat) : t.bufData p b = s.bufData p b := by
  have e : ∀ u : State, u.bufData p b = ({ s with regs := u.regs } : State).bufData p b := fun _ => rfl
  rw [e t, h]

theorem State.txState_congr (p b : Nat) : t.txState p b = s.txState p b := State.rd_congr h _

theorem State.errState_congr (p : Nat) : t.errState p = s.errState p := State.rd_congr h _

theorem State.portState_congr (p : Nat) : t.portState p = s.portState p := State.rd_congr h _

theorem State.bufOn_congr (p b : Nat) : t.bufOn p b = s.bufOn p b := congrArg (· == 1) (State.rd_congr h _)

theorem State.failed_congr (n : Nat) : t.failed n = s.failed n := congrArg (bit · n) (State.rd_congr h _)

end

theorem State.onBus_congr {s t : State} {p : Nat} (hs : t.portState p = s.portState p) (he : t.errState p = s.errState p) (hm : t.mode = s.mode)
    (hl : t.lcy = s.lcy) (hp : t.power = s.power) (hf : t.floorTime = s.floorTime) : t.onBus p = s.onBus p := by
  unfold State.onBus State.halted
  rw [hs, he, hm, hl, hp, hf]

theorem accepted_lcy (s : State) (f : Frame) (x : Session) (code : Nat) (can : Bool) : (accepted s f x code can).lcy = s.lcy := by
  obtain ⟨ss, pm, h⟩ := accepted_eq s f x code can
  rw [h]
  rfl

theorem accepted_power (s : State) (f : Frame) (x : Session) (code : Nat) (can : Bool) : (accepted s f x code can).power = s.power := by
  obtain ⟨ss, pm, h⟩ := accepted_eq s f x code can
  rw [h]
  rfl

theorem accepted_fbc (s : State) (f : Frame) (x : Session) (code : Nat) (can : Bool) : (accepted s f x code can).fbc = s.fbc := by
  obtain ⟨ss, pm, h⟩ := accepted_eq s f x code can
  rw [h]
  rfl

theorem accepted_onBus (s : State) (f : Frame) (x : Session) (code : Nat) (can : Bool) (p : Nat) :
    (accepted s f x code can).onBus p = (s.advance f.arrival).onBus p :=
  State.onBus_congr (accepted_rd s f x code can _) (accepted_rd s f x code can _) (accepted_mode s f x code can) (accepted_lcy s f x code can)
    (accepted_power s f x code can) (accepted_floorTime s f x code can)

theorem accepted_reaches (s : State) (f : Frame) (x : Session) (code : Nat) (can : Bool) (c a : Nat) :
    (accepted s f x code can).reaches c a = s.reaches c a := State.reaches_congr (accepted_regs s f x code can) c a

/-! ### Cancelling -/

theorem State.cancelTx_eq (s : State) (p b : Nat) : s.cancelTx p b =
    if s.txState p b = txPending then s.endTx p b txCancelled (s.rd (Obj.FBC_TXB_LAST_ERR.ij p b))
    else if s.txState p b = txHeld then s.endTx p b txCancelled 7
    else if s.txState p b = txArbitrating then s.putTxReq p b { s.txReq p b with cancel := true, again := false }
    else s := rfl

section
variable {p b : Nat} (hp : p < 24) (hb : b < 32)
include hp hb

theorem State.cancelTx_work (s : State) : CanWork p (requestKeys p) s (s.cancelTx p b) := by
  rw [State.cancelTx_eq]
  exact .ite (State.endTx_any hp hb _ _ _ _) (.ite (State.endTx_any hp hb _ _ _ _) (.ite (.putTxReq (.refl s) _ _) (.refl s)))

theorem State.cancelTx_state (s : State) :
    (s.cancelTx p b).txState p b = if s.txState p b = 1 ∨ s.txState p b = 7 then 5 else s.txState p b := by
  rw [State.cancelTx_eq]
  split
  case isTrue h => rw [if_pos (.inl h)]; exact (s.rd_endTx_cancelled hp hb _).1
  case isFalse h1 =>
    split
    case isTrue h => rw [if_pos (.inr h)]; exact (s.rd_endTx_cancelled hp hb _).1
    case isFalse h7 =>
      rw [if_neg (show ¬ (s.txState p b = 1 ∨ s.txState p b = 7) from not_or.mpr ⟨h1, h7⟩)]
      split
      · exact State.txState_congr rfl p b
      · rfl

/-- A selection leaves a buffer that does not pend as it is. -/
theorem State.select_state {s : State} (h : s.txState p b ≠ 1) : (s.select p).txState p b = s.txState p b := by
  refine (s.select_work).rd _ ?_
  obtain ⟨h2, -⟩ := toldKeys_buf hp hb
  have hbuf : (s.bufsIn p 1).any (fun n => bufKeys p n (Obj.FBC_TXB_STATE.ij p b).key) = false := by
    rw [List.any_eq_false]
    intro n hn
    have hne : n ≠ b := fun e => h (e ▸ (State.mem_bufsIn.mp hn).2)
    rw [(bufKeys_other hne).1]
    exact Bool.false_ne_true
  have hport : ((Obj.FBC_TXB_STATE.ij p b).key == (Obj.FBC_FW_TX_BLOCK.i p).key) = false ∧
      ((Obj.FBC_TXB_STATE.ij p b).key == (Obj.FBC_FEVT_FW.i p).key) = false := by
    simp [Fld.key, Row.ij, Row.i, Row.at, Obj.FBC_TXB_STATE, Obj.FBC_FW_TX_BLOCK, Obj.FBC_FEVT_FW]
    omega
  simp only [toldKeys, Bool.or_eq_false_iff] at h2
  rw [selectKeys, hbuf, h2.1, h2.2, hport.1, hport.2]
  rfl

end

/-! ### Elements of a FIFO -/

/-- What a pop leaves. -/
theorem State.popFifo_get (t : State) (p k n : Nat) : ((t.popFifo p k n).port p).fifos.get [] k = ((t.port p).fifos.get [] k).drop n := by
  unfold State.popFifo
  rw [State.port_congr (State.wr_fbc _ _ _), State.port_putPort]
  exact Tab.get_put_self _ _ _ _

theorem State.popFifo_fill (t : State) (p k n : Nat) : OneField t (t.popFifo p k n) (Obj.FBC_FIFO_FILL.ij p k)
    ((((t.port p).fifos.get [] k).drop n).length % 2 ^ 7) := OneField.wr rfl rfl

/-! ### Recovery -/

theorem State.startRecovery_spec (s : State) (p : Nat) : (s.startRecovery p).errState p = 3 ∧
    (s.startRecovery p).rd (Obj.FBC_RECOVER_WAIT.i p) = 0 ∧ Kept [Obj.FBC_ERR_STATE.i p, Obj.FBC_RECOVER_WAIT.i p] s (s.startRecovery p) := by
  have hne : (Obj.FBC_RECOVER_WAIT.i p).key ≠ (Obj.FBC_ERR_STATE.i p).key := by
    simp [Fld.key, Row.i, Row.at, Obj.FBC_RECOVER_WAIT, Obj.FBC_ERR_STATE]
  have hk : Kept [Obj.FBC_ERR_STATE.i p, Obj.FBC_RECOVER_WAIT.i p] s s := Kept.of_regs rfl
  refine ⟨?_, State.rd_wr_self _ _ _, (hk.wr List.mem_cons_self).wr (List.mem_cons_of_mem _ List.mem_cons_self)⟩
  exact (State.rd_wr_ne _ _ _ _ hne).trans (State.rd_wr_self _ _ _)

/-! ### The data and the request of a send -/

/-- The state in which a send's data is in its buffer. -/
def State.loadTx (s : State) (p b dlc v : Nat) : State := (s.wr (Obj.FBC_TXB_FRAME_DLC.ij p b) dlc).putBufData p b v

/-- The fields that a send's data may change. -/
def loadKeys (p b k : Nat) : Bool := dataKeys p b k || k == (Obj.FBC_TXB_FRAME_DLC.ij p b).key

theorem State.loadTx_beyond (s : State) (p b dlc v : Nat) : Beyond (loadKeys p b) s (s.loadTx p b dlc v) :=
  ((Beyond.refl _ s).wr (by simp [loadKeys]) dlc).trans ((State.putBufData_beyond _ p b v).mono fun k hk => by simp [loadKeys, hk])

theorem State.loadTx_eq (s : State) (p b dlc v : Nat) : s.loadTx p b dlc v = { s with regs := (s.loadTx p b dlc v).regs } := by
  unfold State.loadTx
  rw [State.putBufData_eq_regs]
  rfl

theorem loadKeys_port (p b : Nat) : loadKeys p b (Obj.FBC_STATE.i p).key = false ∧ loadKeys p b (Obj.FBC_ERR_STATE.i p).key = false ∧
    loadKeys p b (Obj.FBC_TXB_STATE.ij p b).key = false ∧ loadKeys p b (Obj.FBC_TXB_BIND_ENABLE.ij p b).key = false ∧
    loadKeys p b Obj.IDENT_MODE.f.key = false := by
  simp [loadKeys, dataKeys, inPort, Fld.key, Row.f, Row.i, Row.ij, Row.at, Obj.FBC_STATE, Obj.FBC_ERR_STATE, Obj.FBC_TXB_STATE,
    Obj.FBC_TXB_BIND_ENABLE, Obj.FBC_TXB_FRAME_DLC, Obj.IDENT_MODE]
  omega

/-- What loading a send leaves of the port and the buffer. -/
structure Loaded (s t : State) (p b dlc v : Nat) : Prop where
  eq : t = { s with regs := t.regs }
  portState : t.portState p = s.portState p
  errState : t.errState p = s.errState p
  txState : t.txState p b = s.txState p b
  bufOn : t.bufOn p b = s.bufOn p b
  mode : t.mode = s.mode
  dlc : t.rd (Obj.FBC_TXB_FRAME_DLC.ij p b) = dlc % 16
  data : t.bufData p b = v % 2 ^ 512

theorem State.loadTx_loaded (s : State) (p b dlc v : Nat) : Loaded s (s.loadTx p b dlc v) p b dlc v := by
  obtain ⟨h1, h2, h3, h4, h5⟩ := loadKeys_port p b
  have hb := s.loadTx_beyond p b dlc v
  have hd : dataKeys p b (Obj.FBC_TXB_FRAME_DLC.ij p b).key = false := by
    simp [dataKeys, inPort, Fld.key, Row.ij, Row.at, Obj.FBC_TXB_FRAME_DLC]
    omega
  exact ⟨s.loadTx_eq p b dlc v, hb _ h1, hb _ h2, hb _ h3, congrArg (· == 1) (hb _ h4), hb _ h5,
    ((State.putBufData_beyond _ p b v) _ hd).trans (State.rd_wr_self _ _ _), State.bufData_putBufData _ p b v⟩

theorem Loaded.onBus {s t : State} {p b dlc v : Nat} (h : Loaded s t p b dlc v) : t.onBus p = s.onBus p :=
  State.onBus_congr h.portState h.errState h.mode (by rw [h.eq]) (by rw [h.eq]) (by rw [h.eq])

/-! ### Requests that wait -/

theorem State.wrs_waiters (s : State) (l : List (Fld × Nat)) : (s.wrs l).waiters = s.waiters := by rw [State.wrs_eq]

theorem Raised.waiters {n : Nat} {s t : State} (h : Raised n s t) : t.waiters = s.waiters := by rw [h.eq]

theorem State.finish_waiters (s : State) (w : Wait) (st : Nat) (d : Bytes) : (s.finish w st d).waiters = s.waiters.filter fun x => x.wait != w := by
  rw [(s.finish_ended w st d).eq]

theorem State.finish_waiters_le (s : State) (w : Wait) (st : Nat) (d : Bytes) : (s.finish w st d).waiters.length ≤ s.waiters.length := by
  rw [State.finish_waiters]
  exact List.length_filter_le _ _

theorem State.endTold_waiters_le (s : State) (p b st : Nat) (collided : Bool) : (s.endTold p b st collided).waiters.length ≤ s.waiters.length := by
  refine (State.finish_waiters_le _ _ _ _).trans (Nat.le_of_eq (congrArg List.length ?_))
  split
  · unfold State.collision
    rw [(State.logAll_raised _ _ _ _ _).waiters]
    exact State.wrs_waiters _ _
  · split
    · unfold State.logFailed
      dsimp only
      split
      · rfl
      · rw [(State.log_raised _ _ _ _ _ _).waiters]
        rfl
    · rfl

theorem State.endAgain_waiters_le (s : State) (p b st : Nat) (again : Bool) : (s.endAgain p b st again).waiters.length ≤ s.waiters.length := by
  unfold State.endAgain
  split
  · rw [State.wrs_waiters]
    exact Nat.le_of_eq (List.length_map _)
  · split
    · exact State.finish_waiters_le _ _ _ _
    · exact Nat.le_refl _

theorem State.endFlagged_waiters (s : State) (p b st : Nat) : (s.endFlagged p b st).waiters = s.waiters := by
  unfold State.endFlagged
  split
  · rfl
  · split <;> rfl

/-- The end of a request makes none wait. -/
theorem State.endTx_waiters_le (s : State) (p b st err : Nat) (collided : Bool) : (s.endTx p b st err collided).waiters.length ≤ s.waiters.length := by
  rw [State.endTx_eq]
  refine (State.endAgain_waiters_le _ _ _ _ _).trans ((State.endTold_waiters_le _ _ _ _ _).trans ?_)
  rw [State.endFlagged_waiters]
  exact Nat.le_of_eq (congrArg List.length (State.wrs_waiters _ _))

theorem State.finalTo_waiters (s : State) (sid seq cmd st : Nat) (d : Bytes) (whole : Bool) : (s.finalTo sid seq cmd st d whole).waiters = s.waiters := by
  rw [State.finalTo_eq]

/-- An admitted request that is answered at once. -/
theorem State.serve_fail {s t : State} {f : Frame} {x : Session} {c : CmdSpec} {pre : PreBody} {body : Req → State → State × Reply} {st : Nat} {d : Bytes}
    (h : Admitted s f x) (hb : body (requestOf f x c.code) (accepted s f x c.code c.cancellable) = (t, .fail st d)) :
    s.serve c f pre body = t.finalTo x.id f.seq.toNat c.code st d c.removes := by
  rw [State.serve_admitted h]
  unfold State.run
  rw [hb]
  rfl

theorem State.serve_ok {s t : State} {f : Frame} {x : Session} {c : CmdSpec} {pre : PreBody} {body : Req → State → State × Reply} {d : Bytes}
    (h : Admitted s f x) (hb : body (requestOf f x c.code) (accepted s f x c.code c.cancellable) = (t, .ok d)) :
    s.serve c f pre body = t.finalTo x.id f.seq.toNat c.code 0 d c.removes := by
  rw [State.serve_admitted h]
  unfold State.run
  rw [hb]
  rfl

theorem State.serve_pending {s t : State} {f : Frame} {x : Session} {c : CmdSpec} {pre : PreBody} {body : Req → State → State × Reply} {w : Wait}
    (h : Admitted s f x) (hb : body (requestOf f x c.code) (accepted s f x c.code c.cancellable) = (t, .pending w)) (ht : Speaks t f x) :
    ∃ cn, s.serve c f pre body = { t with
      waiters := t.waiters ++ [⟨x.id, f.seq.toNat, c.code, w, c.cancellable, x.comp⟩], pmon := { t.pmon with cnts := cn },
      sent := t.sent ++ [.resp f.conn x.comp f.seq.toNat c.code 1 []] } := by
  obtain ⟨y, hy, hconn, hcomp⟩ := ht
  have hy' : ({ t with waiters := t.waiters ++ [⟨x.id, f.seq.toNat, c.code, w, c.cancellable, x.comp⟩] } : State).session x.id = some y := hy
  obtain ⟨cn, hcn⟩ := ({ t with waiters := t.waiters ++ [⟨x.id, f.seq.toNat, c.code, w, c.cancellable, x.comp⟩] } : State).respond_counts
    f.conn x.comp f.seq.toNat c.code 1 []
  refine ⟨cn, ?_⟩
  rw [State.serve_admitted h]
  unfold State.run
  rw [hb]
  simp only [requestOf, hy', hconn, hcomp]
  exact hcn

end Sys2Proof.Machine

namespace Sys2Proof.Proofs
open Sys2Proof.Machine Sys2Proof.Claims

/-! ### Reading and removing elements, ranges, recovery -/

section
variable {f : Frame} {s : State} {x : Session} {p : Nat} (h : Admitted s f x) (hh : Hosted s x) (hp : p < 24)
include hh hp

section
variable {k n : Nat} (hk : k < 8) (hn1 : 1 ≤ n) (hn : n ≤ 80) (hpl : f.payload = le 1 p ++ le 1 k ++ le 1 n ++ le 1 0)
include hk hn1 hn hpl

/-- What CMD_BUS_RX_READ asks of its payload and its unit holds. -/
theorem busRxRead_judged (hf : s.failed 3 = false) (can : Bool) : busRxRead (requestOf f x 0x0602) (accepted s f x 0x0602 can) =
    if 23 < p ∨ (! s.reaches x.comp (fifoAddr p k 0)) = true then (accepted s f x 0x0602 can, .no 0x0020)
    else
      let l := ((s.port p).fifos.get [] k).take n
      ((accepted s f x 0x0602 can).popFifo p k l.length, .ok (le 1 l.length ++ le 3 0 ++ l.flatMap CanElem.bytes)) := by
  have hlen : f.payload.length = 4 := by simp [hpl, le_length]
  have h0 : field f.payload 0 1 = p := by
    simp [hpl, List.append_assoc]
    omega
  have h1 : field f.payload 1 1 = k := by
    simp [hpl, le_length, List.append_assoc, field_append_right]
    omega
  have h2 : field f.payload 2 1 = n := by
    simp [hpl, le_length, List.append_assoc, field_append_right]
    omega
  unfold busRxRead
  dsimp only
  rw [permitted_all hh, requestOf_payload, requestOf_comp, hlen, h0, h1, h2, accepted_reaches, State.failed_congr (accepted_regs _ _ _ _ _),
    State.port_congr (accepted_fbc _ _ _ _ _), hf]
  exact (if_neg (by decide)).trans (if_neg (by omega))

include h

theorem busRxRead_hidden (hf : s.failed 3 = false) (hr : s.reaches x.comp (fifoAddr p k 0) = false) :
    Reports' (.cmdBusRxRead f) s f x 0x0602 0x0020 := by
  refine refuses_of (c := { code := 0x0602, removes := true }) (body := busRxRead) rfl h ?_
  exact (busRxRead_judged hh hp hk hn1 hn hpl hf _).trans (if_pos (.inr (by rw [hr]; rfl)))

theorem busRxRead_reads (hf : s.failed 3 = false) (hr : s.reaches x.comp (fifoAddr p k 0) = true) :
    Completes (.cmdBusRxRead f) s fun t => let l := (s.port p).fifos.get [] k
      (t.port p).fifos.get [] k = l.drop n ∧ OneField s t (Obj.FBC_FIFO_FILL.ij p k) ((l.drop n).length % 2 ^ 7) ∧
        Answers s t f x 0x0602 0 (le 1 (l.take n).length ++ le 3 0 ++ (l.take n).flatMap CanElem.bytes) := by
  have hbody := (busRxRead_judged hh hp hk hn1 hn hpl hf false).trans (if_neg (by rw [hr]; simp; omega))
  refine completes_ok (c := { code := 0x0602, removes := true }) (body := busRxRead) rfl h hbody
    ((accepted_session h).congr rfl) fun ss cn => ?_
  have hsent := accepted_sent s f x 0x0602 false
  have hregs := accepted_regs s f x 0x0602 false
  have hport : (accepted s f x 0x0602 false).port p = s.port p := State.port_congr (accepted_fbc _ _ _ _ _) p
  dsimp only
  generalize accepted s f x 0x0602 false = a at hsent hregs hport ⊢
  have hone := a.popFifo_fill p k (((s.port p).fifos.get [] k).take n).length
  have hl : ((a.popFifo p k (((s.port p).fifos.get [] k).take n).length).port p).fifos.get [] k = ((s.port p).fifos.get [] k).drop n := by
    rw [State.popFifo_get, hport, List.length_take]
    by_cases hmin : n ≤ ((s.port p).fifos.get [] k).length
    · rw [Nat.min_eq_left hmin]
    · rw [Nat.min_eq_right (by omega), List.drop_length, List.drop_eq_nil_of_le (by omega)]
  rw [← State.popFifo_get, hl] at hone
  refine ⟨hl, ⟨hone.1, fun g hg => (hone.2 g hg).trans (State.rd_congr hregs g)⟩, ?_⟩
  · unfold Answers
    rw [← hsent]
    rfl

end

/-! ### Cancelling a request -/

section
variable {n : Nat} (hn : n < 32) (hpl : f.payload = le 1 p ++ le 1 n ++ le 2 0)
include h hn hpl

omit h in
/-- What CMD_BUS_TX_CANCEL asks of its payload and its unit holds. -/
theorem busTxCancel_judged (hf : s.failed 3 = false) (can : Bool) : busTxCancel (requestOf f x 0x0603) (accepted s f x 0x0603 can) =
    if 23 < p ∨ (! s.reaches x.comp (bufAddr p n 0x50)) = true then (accepted s f x 0x0603 can, .no 0x0020)
    else
      let t := ((accepted s f x 0x0603 can).cancelTx p n).select p
      (t, .ok (le 1 (t.txState p n) ++ le 3 0)) := by
  have hlen : f.payload.length = 4 := by simp [hpl, le_length]
  have h0 : field f.payload 0 1 = p := by
    simp [hpl, List.append_assoc]
    omega
  have h1 : field f.payload 1 1 = n := by
    simp [hpl, le_length, List.append_assoc, field_append_right]
    omega
  unfold busTxCancel
  dsimp only
  rw [permitted_all hh, requestOf_payload, requestOf_comp, hlen, h0, h1, accepted_reaches, State.failed_congr (accepted_regs _ _ _ _ _), hf]
  exact (if_neg (by decide)).trans (if_neg (by omega))

theorem busTxCancel_hidden (hf : s.failed 3 = false) (hr : s.reaches x.comp (bufAddr p n 0x50) = false) :
    Reports' (.cmdBusTxCancel f) s f x 0x0603 0x0020 := by
  refine refuses_of (c := { code := 0x0603 }) (body := busTxCancel) rfl h ?_
  exact (busTxCancel_judged hh hp hn hpl hf _).trans (if_pos (.inr (by rw [hr]; rfl)))

theorem busTxCancel_cancels (hf : s.failed 3 = false) (hr : s.reaches x.comp (bufAddr p n 0x50) = true) :
    Completes (.cmdBusTxCancel f) s fun t => let st := s.txState p n
      t.txState p n = (if st = 1 ∨ st = 7 then 5 else st) ∧ AnswersLast s t f x 0x0603 0 (le 1 (t.txState p n) ++ le 3 0) := by
  have hbody := (busTxCancel_judged hh hp hn hpl hf false).trans (if_neg (by rw [hr]; simp; omega))
  have hwork := ((accepted s f x 0x0603 false).cancelTx_work hp hn).trans (State.select_any hp _)
  have hst : (((accepted s f x 0x0603 false).cancelTx p n).select p).txState p n =
      if s.txState p n = 1 ∨ s.txState p n = 7 then 5 else s.txState p n := by
    have hc := (accepted s f x 0x0603 false).cancelTx_state hp hn
    rw [State.txState_congr (accepted_regs s f x 0x0603 false)] at hc
    refine (State.select_state hp hn ?_).trans hc
    rw [hc]
    split
    · decide
    · rename_i h17
      exact fun e => h17 (.inl e)
  refine completes_ok (c := { code := 0x0603 }) (body := busTxCancel) rfl h hbody (hwork.talked.speaks (accepted_session h)) fun ss cn => ?_
  have hsent := accepted_sent s f x 0x0603 false
  obtain ⟨l, hl⟩ := hwork.talked.sent
  generalize ((accepted s f x 0x0603 false).cancelTx p n).select p = t at hst hl
  refine ⟨hst, l, ?_⟩
  show t.sent ++ _ = s.sent ++ l ++ _
  rw [← hl, hsent]
  rfl

end

/-! ### Recovery and ranges -/

section
variable (hpl : f.payload = le 1 p ++ le 3 0)
include h hpl

omit h in
/-- What CMD_BUS_RECOVER asks of its payload and its unit holds. -/
theorem busRecover_judged (hf : s.failed 3 = false) (can : Bool) : busRecover (requestOf f x 0x0604) (accepted s f x 0x0604 can) =
    let a := accepted s f x 0x0604 can
    if (! decide (x.comp = 0)) = true then (a, .no 0x0019)
    else if s.errState p ≤ 1 then (a, .check 0x0610)
    else (if s.errState p = 2 then a.startRecovery p else a, .pending (.recover p)) := by
  have hlen : f.payload.length = 4 := by simp [hpl, le_length]
  have h0 : field f.payload 0 1 = p := by
    simp [hpl]
    omega
  unfold busRecover
  dsimp only
  rw [permitted_owner hh, requestOf_payload, hlen, h0, State.failed_congr (accepted_regs _ _ _ _ _), hf,
    State.errState_congr (accepted_regs _ _ _ _ _)]
  exact if_congr Iff.rfl rfl ((if_neg (by omega)).trans ((if_neg (by omega)).trans (if_neg (by decide))))

theorem busRecover_denied (hf : s.failed 3 = false) (hc : x.comp ≠ 0) : Reports' (.cmdBusRecover f) s f x 0x0604 0x0019 := by
  refine refuses_of (c := { code := 0x0604 }) (body := busRecover) rfl h ?_
  exact (busRecover_judged hh hp hpl hf _).trans (if_pos (by simpa using hc))

theorem busRecover_needless (hf : s.failed 3 = false) (hc : x.comp = 0) (he : s.errState p ≤ 1) :
    Checked (.cmdBusRecover f) s f x 0x0604 0x0610 := by
  refine refuses_of (c := { code := 0x0604 }) (body := busRecover) rfl h ?_
  exact (busRecover_judged hh hp hpl hf _).trans ((if_neg (by simp [hc])).trans (if_pos he))

theorem busRecover_starts (hf : s.failed 3 = false) (hc : x.comp = 0) (he : s.errState p = 2) :
    Completes (.cmdBusRecover f) s fun t => Waits s t f x 0x0604 (.recover p) ∧ t.errState p = 3 ∧
      Kept [Obj.FBC_ERR_STATE.i p, Obj.FBC_RECOVER_WAIT.i p] s t := by
  have hbody := (busRecover_judged hh hp hpl hf false).trans ((if_neg (by simp [hc])).trans (if_neg (by omega)))
  rw [if_pos he] at hbody
  refine completes_pending (c := { code := 0x0604 }) (body := busRecover) rfl h hbody ((accepted_session h).congr (by rw [State.startRecovery, State.wrs_eq])) fun cn => ?_
  have hsent := accepted_sent s f x 0x0604 false
  have hwait := accepted_waiters s f x 0x0604 false
  have hregs := accepted_regs s f x 0x0604 false
  dsimp only
  generalize accepted s f x 0x0604 false = a at hsent hwait hregs
  obtain ⟨he3, -, hk⟩ := a.startRecovery_spec p
  refine ⟨⟨?_, [⟨x.id, f.seq.toNat, 0x0604, .recover p, false, x.comp⟩], ?_, rfl⟩, he3, fun g hg => (hk g hg).trans (State.rd_congr hregs g)⟩
  · rw [← hsent]; rfl
  · rw [← hwait]; rfl

theorem busRecover_joins (hf : s.failed 3 = false) (hc : x.comp = 0) (he : s.errState p = 3) :
    Completes (.cmdBusRecover f) s fun t => Waits s t f x 0x0604 (.recover p) ∧ t.regs = s.regs := by
  have hbody := (busRecover_judged hh hp hpl hf false).trans ((if_neg (by simp [hc])).trans (if_neg (by omega)))
  rw [if_neg (by omega)] at hbody
  refine completes_pending (c := { code := 0x0604 }) (body := busRecover) rfl h hbody (accepted_session h) fun cn => ?_
  have hsent := accepted_sent s f x 0x0604 false
  have hwait := accepted_waiters s f x 0x0604 false
  have hregs := accepted_regs s f x 0x0604 false
  dsimp only
  generalize accepted s f x 0x0604 false = a at hsent hwait hregs
  refine ⟨⟨?_, [⟨x.id, f.seq.toNat, 0x0604, .recover p, false, x.comp⟩], ?_, rfl⟩, hregs⟩
  · rw [← hsent]
  · rw [← hwait]

omit h in
theorem busRangeList_judged (can : Bool) : busRangeList (requestOf f x 0x0605) (accepted s f x 0x0605 can) =
    if 23 < p ∨ (x.comp ≠ 0 ∧ (! s.ownsRange p x.comp) = true) then (accepted s f x 0x0605 can, .no 0x0020)
    else
      let l := (List.range 16).filter fun r => s.on (Obj.FBC_RNG_ENABLE.ij p r) && s.rd (Obj.FBC_RNG_OWNER.ij p r) == x.comp
      (accepted s f x 0x0605 can, .ok (le 1 l.length ++ le 3 0 ++ l.flatMap fun r =>
        le 4 (s.rd (Obj.FBC_RNG_LOW.ij p r)) ++ le 4 (s.rd (Obj.FBC_RNG_HIGH.ij p r)) ++ le 4 (s.rd (Obj.FBC_RNG_XTD.ij p r)))) := by
  have hlen : f.payload.length = 4 := by simp [hpl, le_length]
  have h0 : field f.payload 0 1 = p := by
    simp [hpl]
    omega
  unfold busRangeList
  dsimp only
  rw [permitted_all hh, requestOf_payload, requestOf_comp, hlen, h0, State.ownsRange_congr (accepted_regs _ _ _ _ _)]
  simp only [State.on, accepted_rd]
  exact (if_neg (by decide)).trans (if_neg (by decide))

theorem busRangeList_hidden (hc : x.comp ≠ 0) (ho : s.ownsRange p x.comp = false) : Reports' (.cmdBusRangeList f) s f x 0x0605 0x0020 := by
  refine refuses_of (c := { code := 0x0605, cancellable := true, rereads := true }) (body := busRangeList) rfl h ?_
  exact (busRangeList_judged hh hp hpl _).trans (if_pos (.inr ⟨hc, by rw [ho]; rfl⟩))

theorem busRangeList_lists (ho : x.comp = 0 ∨ s.ownsRange p x.comp = true) :
    let l := (List.range 16).filter fun r => s.on (Obj.FBC_RNG_ENABLE.ij p r) && s.rd (Obj.FBC_RNG_OWNER.ij p r) == x.comp
    Reports (.cmdBusRangeList f) s f x 0x0605 (le 1 l.length ++ le 3 0 ++ l.flatMap fun r =>
      le 4 (s.rd (Obj.FBC_RNG_LOW.ij p r)) ++ le 4 (s.rd (Obj.FBC_RNG_HIGH.ij p r)) ++ le 4 (s.rd (Obj.FBC_RNG_XTD.ij p r))) := by
  refine reports_of (c := { code := 0x0605, cancellable := true, rereads := true }) (body := busRangeList) rfl h ?_
  refine (busRangeList_judged hh hp hpl _).trans (if_neg ?_)
  obtain ho | ho := ho
  · simp [ho]; omega
  · simp [ho]; omega

end

/-! ### Sending -/

section
variable {n dlc : Nat} {data : Bytes} (hn : n < 32) (hd : dlc < 16) (hl : data.length ≤ 64)
  (hpl : f.payload = le 1 p ++ le 1 n ++ le 1 dlc ++ le 1 0 ++ data)
include h hn hd hl hpl

/-- The word of a send: its data cut to the length of its DLC. -/
def sendWord (s : State) (p n dlc : Nat) (data : Bytes) : Nat := unle (data.take (dlcLen (s.on (Obj.FBC_TXB_FRAME_FDF.ij p n)) dlc))

omit h in
/-- What CMD_BUS_TX_SEND asks of its payload and its unit holds. -/
theorem busTxSend_judged (hf : s.failed 3 = false) (can : Bool) : busTxSend (requestOf f x 0x0601) (accepted s f x 0x0601 can) =
    let a := accepted s f x 0x0601 can
    if 23 < p ∨ (! s.reaches x.comp (bufAddr p n 0x10)) = true then (a, .no 0x0020)
    else if (! s.bufOn p n) = true then (a, .no 0x0022)
    else
      let t := a.loadTx p n dlc (sendWord s p n dlc data)
      if t.portState p = portOff ∨ t.portState p = portAsleep then (t.request p n, .ok ((t.request p n).txPayload p n))
      else (t, .pending (.busTx p (if t.txState p n = txArbitrating then n + 32 else n))) := by
  have hlen : f.payload.length = 4 + data.length := by simp [hpl, le_length]; omega
  have h0 : field f.payload 0 1 = p := by
    simp [hpl, List.append_assoc]
    omega
  have h1 : field f.payload 1 1 = n := by
    simp [hpl, le_length, List.append_assoc, field_append_right]
    omega
  have h2 : field f.payload 2 1 = dlc := by
    simp [hpl, le_length, List.append_assoc, field_append_right]
    omega
  have hdrop : f.payload.drop 4 = data := by
    rw [hpl, List.drop_left' (by simp [le_length])]
  unfold busTxSend
  dsimp only
  rw [permitted_all hh, requestOf_payload, requestOf_comp, hlen, h0, h1, h2, hdrop, accepted_reaches, State.failed_congr (accepted_regs _ _ _ _ _),
    State.bufOn_congr (accepted_regs _ _ _ _ _), State.on, accepted_rd, hf]
  exact (if_neg (by decide)).trans ((if_neg (by omega)).trans (if_congr Iff.rfl rfl (if_neg (by decide))))

omit h hh hp hn hd hl hpl in
/-- A send that does not wait is served like any other command. -/
theorem exec_busTxSend {c : CmdSpec} (hc : c = { code := 0x0601, cancellable := true }) (hw : (s.serve c f noPre busTxSend).waiters.length ≤ s.waiters.length) :
    exec (.cmdBusTxSend f) s = .next (s.serve c f noPre busTxSend) := by
  subst hc
  show execCmdBusTxSend f s = _
  unfold execCmdBusTxSend
  simp only [command_next]
  rw [if_neg (Nat.not_lt.mpr hw)]

omit hh hp hn hd hl hpl in
/-- A send that is refused. -/
theorem busTxSend_refused {st : Nat} (hb : busTxSend (requestOf f x 0x0601) (accepted s f x 0x0601 true) = (accepted s f x 0x0601 true, .no st)) :
    Reports' (.cmdBusTxSend f) s f x 0x0601 st := by
  refine refuses_of (c := { code := 0x0601, cancellable := true }) (body := busTxSend) (exec_busTxSend rfl ?_) h hb
  rw [State.serve_fail (c := { code := 0x0601, cancellable := true }) h hb, State.finalTo_waiters, accepted_waiters]

theorem busTxSend_hidden (hf : s.failed 3 = false) (hr : s.reaches x.comp (bufAddr p n 0x10) = false) :
    Reports' (.cmdBusTxSend f) s f x 0x0601 0x0020 :=
  busTxSend_refused h ((busTxSend_judged hh hp hn hd hl hpl hf true).trans (if_pos (.inr (by rw [hr]; rfl))))

theorem busTxSend_disabled (hf : s.failed 3 = false) (hr : s.reaches x.comp (bufAddr p n 0x10) = true) (hOn : s.bufOn p n = false) :
    Reports' (.cmdBusTxSend f) s f x 0x0601 0x0022 :=
  busTxSend_refused h ((busTxSend_judged hh hp hn hd hl hpl hf true).trans
    ((if_neg (by rw [hr]; simp; omega)).trans (if_pos (by rw [hOn]; rfl))))

/-- A send on a port that is off or asleep. -/
theorem busTxSend_off (hf : s.failed 3 = false) (hr : s.reaches x.comp (bufAddr p n 0x10) = true) (hOn : s.bufOn p n = true)
    (ho : s.portState p ∈ [0, 4]) (hst : s.txState p n ∉ [1, 2, 7]) :
    Completes (.cmdBusTxSend f) s fun t => t.txState p n = 5 ∧ t.rd (Obj.FBC_TXB_FRAME_DLC.ij p n) = dlc ∧
      t.bufData p n = sendWord s p n dlc data % 2 ^ 512 ∧ AnswersLast s t f x 0x0601 0 (t.txPayload p n) := by
  have hj := (busTxSend_judged hh hp hn hd hl hpl hf true).trans ((if_neg (by rw [hr]; simp; omega)).trans (if_neg (by rw [hOn]; decide)))
  have hload := (accepted s f x 0x0601 true).loadTx_loaded p n dlc (sendWord s p n dlc data)
  have hspeak : Speaks ((accepted s f x 0x0601 true).loadTx p n dlc (sendWord s p n dlc data)) f x :=
    (accepted_session h).congr (by rw [hload.eq])
  have hps := hload.portState.trans (State.portState_congr (accepted_regs s f x 0x0601 true) p)
  have hts := hload.txState.trans (State.txState_congr (accepted_regs s f x 0x0601 true) p n)
  have hbo := hload.bufOn.trans (State.bufOn_congr (accepted_regs s f x 0x0601 true) p n)
  have hsent : ((accepted s f x 0x0601 true).loadTx p n dlc (sendWord s p n dlc data)).sent = s.sent := by
    rw [hload.eq]
    exact accepted_sent s f x 0x0601 true
  have hwait : ((accepted s f x 0x0601 true).loadTx p n dlc (sendWord s p n dlc data)).waiters = s.waiters := by
    rw [hload.eq]
    exact accepted_waiters s f x 0x0601 true
  have hdlc := hload.dlc
  have hdata := hload.data
  have ho' : s.portState p = 0 ∨ s.portState p = 4 := by simpa using ho
  dsimp only at hj
  generalize (accepted s f x 0x0601 true).loadTx p n dlc (sendWord s p n dlc data) = u at hj hspeak hps hts hbo hsent hwait hdlc hdata
  have hbody := hj.trans (if_pos (hps.symm ▸ ho'))
  rw [State.request_off (hbo.trans hOn) (hts.symm ▸ hst) (hps.symm ▸ ho')] at hbody
  have hready := u.readyTx_ready hp hn
  generalize u.readyTx p n = v at hbody hready
  have hwork := (hready.any hn).trans (v.endTx_any hp hn txCancelled 5 false)
  have hfive := (v.rd_endTx_cancelled hp hn 5).1
  have hle := v.endTx_waiters_le p n txCancelled 5 false
  rw [hready.waiters, hwait] at hle
  generalize v.endTx p n txCancelled 5 false = t at hbody hwork hfive hle
  refine completes_ok (c := { code := 0x0601, cancellable := true }) (body := busTxSend) (exec_busTxSend rfl ?_) h hbody
    (hwork.talked.speaks hspeak) fun ss cn => ⟨?_, ?_, ?_, ?_⟩
  · rw [State.serve_ok (c := { code := 0x0601, cancellable := true }) h hbody, State.finalTo_waiters]
    exact hle
  · exact hfive
  · exact (hwork.rd _ (requestKeys_buf hp hn (by decide))).trans (hdlc.trans (Nat.mod_eq_of_lt hd))
  · exact (State.bufData_congr rfl p n).trans ((hwork.rd.bufData hn).trans hdata)
  · obtain ⟨l, hl'⟩ := hwork.talked.sent
    refine ⟨l, ?_⟩
    rw [← hsent, hl']
    exact congrArg (fun d => t.sent ++ [Out.resp f.conn x.comp f.seq.toNat 0x0601 0 d]) (State.txPayload_congr (s := t) rfl p n).symm

/-- A send on a port that is on, or integrates, but not on the bus: its request pends. -/
theorem busTxSend_pends (hf : s.failed 3 = false) (hr : s.reaches x.comp (bufAddr p n 0x10) = true) (hOn : s.bufOn p n = true)
    (ho : s.portState p ∉ [0, 4]) (hbus : (s.advance f.arrival).onBus p = false) (he : s.errState p ≤ 1) (hst : s.txState p n ∉ [1, 2, 7]) :
    Completes (.cmdBusTxSend f) s fun t => Waits s t f x 0x0601 (.busTx p n) ∧ t.txState p n = 1 ∧ t.rd (Obj.FBC_TXB_FRAME_DLC.ij p n) = dlc ∧
      t.bufData p n = sendWord s p n dlc data % 2 ^ 512 := by
  have hj := (busTxSend_judged hh hp hn hd hl hpl hf true).trans ((if_neg (by rw [hr]; simp; omega)).trans (if_neg (by rw [hOn]; decide)))
  have hload := (accepted s f x 0x0601 true).loadTx_loaded p n dlc (sendWord s p n dlc data)
  have hspeak : Speaks ((accepted s f x 0x0601 true).loadTx p n dlc (sendWord s p n dlc data)) f x :=
    (accepted_session h).congr (by rw [hload.eq])
  have hps := hload.portState.trans (State.portState_congr (accepted_regs s f x 0x0601 true) p)
  have hes := hload.errState.trans (State.errState_congr (accepted_regs s f x 0x0601 true) p)
  have hts := hload.txState.trans (State.txState_congr (accepted_regs s f x 0x0601 true) p n)
  have hbo := hload.bufOn.trans (State.bufOn_congr (accepted_regs s f x 0x0601 true) p n)
  have hob := hload.onBus.trans (accepted_onBus s f x 0x0601 true p)
  have hsent : ((accepted s f x 0x0601 true).loadTx p n dlc (sendWord s p n dlc data)).sent = s.sent := by
    rw [hload.eq]
    exact accepted_sent s f x 0x0601 true
  have hwait : ((accepted s f x 0x0601 true).loadTx p n dlc (sendWord s p n dlc data)).waiters = s.waiters := by
    rw [hload.eq]
    exact accepted_waiters s f x 0x0601 true
  have hdlc := hload.dlc
  have hdata := hload.data
  simp only [List.mem_cons, List.not_mem_nil, or_false, not_or] at ho
  obtain ⟨h0, h4⟩ := ho
  have h2 : s.txState p n ≠ 2 := fun e => hst (by simp [e])
  dsimp only at hj
  generalize (accepted s f x 0x0601 true).loadTx p n dlc (sendWord s p n dlc data) = u at hj hspeak hps hes hts hbo hob hsent hwait hdlc hdata
  have hbody := hj.trans (if_neg (by rw [hps]; exact not_or.mpr ⟨h0, h4⟩))
  rw [if_neg (by rw [hts]; exact h2)] at hbody
  obtain ⟨cn, hserve⟩ := State.serve_pending (c := { code := 0x0601, cancellable := true }) (pre := noPre) h hbody hspeak
  dsimp only at hserve
  generalize hv : ({ u with
      waiters := u.waiters ++ [⟨x.id, f.seq.toNat, 0x0601, .busTx p n, true, x.comp⟩], pmon := { u.pmon with cnts := cn },
      sent := u.sent ++ [.resp f.conn x.comp f.seq.toNat 0x0601 1 []] } : State) = v at hserve
  have hreg : v.regs = u.regs := by rw [← hv]
  have hvw : v.waiters = s.waiters ++ [⟨x.id, f.seq.toNat, 0x0601, .busTx p n, true, x.comp⟩] := by rw [← hv, hwait]
  have hvs : v.sent = s.sent ++ [.resp f.conn x.comp f.seq.toNat 0x0601 1 []] := by rw [← hv, hsent]
  have hvb : v.onBus p = u.onBus p := by rw [← hv]; rfl
  have hexec : exec (.cmdBusTxSend f) s = .next (v.request p n) := by
    show execCmdBusTxSend f s = _
    unfold execCmdBusTxSend
    simp only [command_next]
    rw [hserve, if_pos (by rw [hvw, List.length_append]; exact Nat.lt_succ_self _)]
    simp only [hvw, List.getLast?_append_cons, List.getLast?_singleton]
    rw [Nat.mod_eq_of_lt hn]
  have hreq := State.request_pends (s := v) (p := p) (b := n) ((State.bufOn_congr hreg p n).trans (hbo.trans hOn))
    ((State.txState_congr hreg p n).trans hts ▸ hst) (by rw [State.portState_congr hreg, hps]; exact h0)
    (by rw [State.portState_congr hreg, hps]; exact h4) (by rw [State.errState_congr hreg, hes]; exact he)
  have hready := (v.readyTx_ready hp hn).pend hp hn
  have hone : ((v.readyTx p n).wr (Obj.FBC_TXB_STATE.ij p n) txPending).txState p n = 1 := State.rd_wr_self _ _ _
  generalize (v.readyTx p n).wr (Obj.FBC_TXB_STATE.ij p n) txPending = w at hreq hready hone
  have hwork := hready.any hn
  have hoff : w.onBus p = false := (hwork.onBus hp).trans (hvb.trans (hob.trans hbus))
  rw [State.select_off (by unfold State.selects; rw [hoff]; rfl)] at hreq
  refine ⟨w, hexec.trans (congrArg Host.Outcome.next hreq), ⟨hready.sent.trans hvs, _, hready.waiters.trans hvw, rfl⟩, hone, ?_, ?_⟩
  · exact (hwork.rd _ (requestKeys_buf hp hn (by decide))).trans ((State.rd_congr hreg _).trans (hdlc.trans (Nat.mod_eq_of_lt hd)))
  · exact (hwork.rd.bufData hn).trans ((State.bufData_congr hreg p n).trans hdata)

end

end

/-- Settles O42: each command's checks in their order, then what the port does. -/
theorem busCommands : Obligations.BusCommands := by
  unfold Obligations.BusCommands
  intro f s x p h h5 h9 hc hp hf
  have hh : Hosted s x := ⟨hc, h5, h9⟩
  dsimp only
  refine ⟨fun n dlc data hn hd hl hpl => ⟨busTxSend_hidden h hh hp hn hd hl hpl hf, fun hr => ⟨busTxSend_disabled h hh hp hn hd hl hpl hf hr,
      busTxSend_off h hh hp hn hd hl hpl hf hr, busTxSend_pends h hh hp hn hd hl hpl hf hr⟩⟩,
    fun k n hk hn1 hn hpl => ⟨busRxRead_hidden h hh hp hk hn1 hn hpl hf, busRxRead_reads h hh hp hk hn1 hn hpl hf⟩,
    fun n hn hpl => ⟨busTxCancel_hidden h hh hp hn hpl hf, busTxCancel_cancels h hh hp hn hpl hf⟩,
    fun hpl => ⟨busRecover_denied h hh hp hpl hf, fun hc0 => ⟨busRecover_needless h hh hp hpl hf hc0, busRecover_starts h hh hp hpl hf hc0,
      busRecover_joins h hh hp hpl hf hc0⟩, busRangeList_hidden h hh hp hpl, busRangeList_lists h hh hp hpl⟩⟩

end Sys2Proof.Proofs
end

section
/-!
SUPPORT. A port's error states (spec/11 R279 to R284) and what a selection makes of each buffer (spec/10 R263 to R265).
-/
namespace Sys2Proof.Machine
open Sys2Proof.Claims

/-! ### What a selection leaves in a buffer -/

section
variable {p b : Nat} (hp : p < 24) (hb : b < 32)

/-- The state fields of a buffer. -/
theorem selectKeys_buf {l : List Nat} (hp : p < 24) (hb : b < 32) (hl : b ∉ l) : selectKeys p l (Obj.FBC_TXB_STATE.ij p b).key = false ∧
    selectKeys p l (Obj.FBC_TXB_LAST_ERR.ij p b).key = false ∧ selectKeys p l (Obj.FBC_TXB_EVT_SENT.ij p b).key = false ∧
    selectKeys p l (Obj.FBC_TXB_TX_COUNT.ij p b).key = false ∧ selectKeys p l (Obj.FBC_TXB_EVT_FAIL.ij p b).key = false := by
  obtain ⟨t1, t2, -, t4, t5, t6⟩ := toldKeys_buf hp hb
  have hport : ∀ (p : Fin 24) (b : Fin 32), ([Obj.FBC_TXB_STATE, Obj.FBC_TXB_LAST_ERR, Obj.FBC_TXB_EVT_SENT, Obj.FBC_TXB_TX_COUNT, Obj.FBC_TXB_EVT_FAIL].all
      fun r => (r.ij p b).key != (Obj.FBC_FW_TX_BLOCK.i p).key && (r.ij p b).key != (Obj.FBC_FEVT_FW.i p).key) = true := by decide +kernel
  have hport := hport ⟨p, hp⟩ ⟨b, hb⟩
  simp only [List.all_cons, List.all_nil, Bool.and_true, Bool.and_eq_true, bne_iff_ne] at hport
  obtain ⟨⟨a1, a2⟩, ⟨b1, b2⟩, ⟨c1, c2⟩, ⟨d1, d2⟩, e1, e2⟩ := hport
  have hbuf : ∀ k, (∀ n, n ≠ b → bufKeys p n k = false) → l.any (fun n => bufKeys p n k) = false := fun k hk => by
    rw [List.any_eq_false]
    intro n hn
    rw [hk n fun e => hl (e ▸ hn)]
    exact Bool.false_ne_true
  have hkey : ∀ k, (∀ n, n ≠ b → bufKeys p n k = false) → toldKeys p k = false → k ≠ (Obj.FBC_FW_TX_BLOCK.i p).key →
      k ≠ (Obj.FBC_FEVT_FW.i p).key → selectKeys p l k = false := by
    intro k hk ht h1 h2
    simp only [toldKeys, Bool.or_eq_false_iff] at ht
    simp only [selectKeys, hbuf k hk, ht.1, ht.2, beq_eq_false_iff_ne.mpr h1, beq_eq_false_iff_ne.mpr h2, Bool.or_self]
  exact ⟨hkey _ (fun n hn => (bufKeys_other hn).1) t1 a1 a2, hkey _ (fun n hn => (bufKeys_other hn).2.1) t2 b1 b2,
    hkey _ (fun n hn => (bufKeys_other hn).2.2.2.2.1) t5 c1 c2, hkey _ (fun n hn => (bufKeys_other hn).2.2.2.1) t4 d1 d2,
    hkey _ (fun n hn => (bufKeys_other hn).2.2.2.2.2) t6 e1 e2⟩

theorem State.refuseTx_txReq_ne (s : State) {p c : Nat} (h : b ≠ c) : (s.refuseTx p c).txReq p b = s.txReq p b := by
  unfold State.refuseTx
  rw [State.endTx_txReq_ne _ _ _ _ _ h, State.txReq_congr (State.perf_fbc _ _ _ _ _)]
  rfl

theorem State.refuseAll_txReq {l : List Nat} (hl : b ∉ l) (s : State) : (l.foldl (fun t c => t.refuseTx p c) s).txReq p b = s.txReq p b := by
  induction l generalizing s with
  | nil => rfl
  | cons c l ih =>
    have hc : b ≠ c := fun e => hl (e ▸ List.mem_cons_self)
    exact (ih (fun h => hl (List.mem_cons_of_mem c h)) _).trans (s.refuseTx_txReq_ne hc)

/-- A selection leaves the request of a buffer that does not pend as it is. -/
theorem State.select_txReq {s : State} (h : s.txState p b ≠ 1) : (s.select p).txReq p b = s.txReq p b := by
  have hn : ∀ f : Nat → Bool, b ∉ (s.bufsIn p 1).filter f := fun f hm => h (State.mem_bufsIn.mp (List.mem_of_mem_filter hm)).2
  rw [State.select_eq]
  split
  · unfold State.selectFrom
    dsimp only
    have ht := State.refuseAll_txReq (hn fun b => ! s.mayTransmit p b) s (p := p)
    generalize ((s.bufsIn p 1).filter fun b => ! s.mayTransmit p b).foldl (fun t c => t.refuseTx p c) s = t at ht
    split
    case _ c hc => exact ((t.beginTx_begun p c).other b fun e => hn _ (e ▸ State.topBuf_mem hc)).trans ht
    case _ => exact ht
  · rfl

include hp hb

/-- A selection of a buffer that the firewall lets pass leaves it pending, or an attempt of it begins. -/
theorem State.select_passed {s : State} (h : s.txState p b = 1) (hm : s.mayTransmit p b = true) :
    (s.select p).txState p b ∈ [1, 2] ∧ ((s.select p).txReq p b).failures = (s.txReq p b).failures ∧
    (s.select p).rd (Obj.FBC_TXB_LAST_ERR.ij p b) = s.rd (Obj.FBC_TXB_LAST_ERR.ij p b) := by
  rw [State.select_eq]
  split
  case isTrue _ =>
    have hr : b ∉ (s.bufsIn p 1).filter fun b => ! s.mayTransmit p b := fun hm' => by
      have := (List.mem_filter.mp hm').2
      rw [hm] at this
      cases this
    have hlt : ∀ c ∈ (s.bufsIn p 1).filter fun b => ! s.mayTransmit p b, c < 32 := fun c hc =>
      (State.mem_bufsIn.mp (List.mem_of_mem_filter hc)).1
    have htr := State.refuseAll_txReq hr s (p := p)
    have htw : CanWork p (selectKeys p ((s.bufsIn p 1).filter fun b => ! s.mayTransmit p b)) s
        (((s.bufsIn p 1).filter fun b => ! s.mayTransmit p b).foldl (fun t c => t.refuseTx p c) s) :=
      .foldl (.refl s) fun u c hc => u.refuseTx_work hc
    obtain ⟨k1, k2, -⟩ := selectKeys_buf hp hb hr
    unfold State.selectFrom
    dsimp only
    generalize ((s.bufsIn p 1).filter fun b => ! s.mayTransmit p b).foldl (fun t c => t.refuseTx p c) s = t at htr htw
    have hst : t.txState p b = 1 := (htw.rd _ k1).trans h
    have hle := htw.rd _ k2
    split
    case _ c hc =>
      have hg := t.beginTx_begun p c
      have hc32 : c < 32 := (State.mem_bufsIn.mp (List.mem_of_mem_filter (State.topBuf_mem hc))).1
      have hw := (State.beginTx_work (p := p) (b := c) t).rd
      by_cases hbc : b = c
      · subst hbc
        refine ⟨by rw [show (t.beginTx p b).txState p b = 2 from hg.state]; decide, ?_, ?_⟩
        · rw [hg.own, htr]
        · rw [← hle, State.beginTx_eq, State.rd_congr (State.perf_regs _ _ _ _ _), State.incSat,
            State.rd_wr_ne _ _ _ _ (buf_keys_ne p b).2.1.2.2.2, State.rd_wr_ne _ _ _ _ (buf_keys_ne p b).1.1.symm]
          exact State.rd_congr rfl _
      · have hs := endKeys_state hp hb (Ne.symm hbc)
        obtain ⟨e1, -⟩ := toldKeys_buf hp hb
        have hl : endKeys p c (Obj.FBC_TXB_LAST_ERR.ij p b).key = false := by
          have h2 := (bufKeys_other (p := p) (Ne.symm hbc)).2.1
          have h3 := (toldKeys_buf hp hb).2.1
          exact (Bool.or_assoc _ _ _).trans (Bool.or_eq_false_iff.mpr ⟨h2, h3⟩)
        refine ⟨by rw [show (t.beginTx p c).txState p b = 1 from (hw _ hs).trans hst]; decide, ?_, (hw _ hl).trans hle⟩
        rw [hg.other b hbc, htr]
    case _ => exact ⟨by rw [hst]; decide, by rw [htr], hle⟩
  case isFalse _ => exact ⟨by rw [h]; decide, rfl, rfl⟩

end

/-! ### Error states -/

/-- The fields that the judgement of a port's counters may change. -/
def judgeKeys (p k : Nat) : Bool :=
  inPort p 0x40 0x44 k || inPort p 0x10C 0x114 k || inPort p 0x4C 0x50 k || k == (Obj.FBC_EVT_PASSIVE.i p).key || logKey k

theorem judgeKeys_mem {p : Nat} (hp : p < 24) : (∀ r ∈ [Obj.FBC_ERR_STATE, Obj.FBC_TOP_BUF, Obj.FBC_TOP_VALID, Obj.FBC_TOP_CAUSE, Obj.FBC_TOP_XTD,
    Obj.FBC_TOP_OWNER, Obj.FBC_TOP_ID, Obj.FBC_PASSIVE_COUNT, Obj.FBC_EVT_PASSIVE], judgeKeys p (r.i p).key = true) := by
  have h : ∀ p : Fin 24, ([Obj.FBC_ERR_STATE, Obj.FBC_TOP_BUF, Obj.FBC_TOP_VALID, Obj.FBC_TOP_CAUSE, Obj.FBC_TOP_XTD,
    Obj.FBC_TOP_OWNER, Obj.FBC_TOP_ID, Obj.FBC_PASSIVE_COUNT, Obj.FBC_EVT_PASSIVE].all fun r => judgeKeys p (r.i p).key) = true := by decide +kernel
  exact fun r hr => List.all_eq_true.mp (h ⟨p, hp⟩) r hr

theorem judgeKeys_of_log {p : Nat} : ∀ k, logKey k = true → judgeKeys p k = true := fun k h => by
  rw [judgeKeys, h, Bool.or_true]

/-- Fields of a port that the judgement of its counters leaves alone. -/
theorem judgeKeys_port {p : Nat} (hp : p < 24) {r : Row} (hr : r ∈ [Obj.FBC_STATE, Obj.FBC_TEC, Obj.FBC_REC, Obj.FBC_RX_FRAMES,
    Obj.FBC_TX_FRAMES, Obj.FBC_ARB_LOST, Obj.FBC_ERR_FRAMES, Obj.FBC_RX_NOMATCH, Obj.FBC_FW_RX_UNBOUND, Obj.FBC_FEVT_FW,
    Obj.FBC_FEVT_DISTURB, Obj.FBC_DIST_LAST_COUNT, Obj.FBC_DIST_LAST_ID, Obj.FBC_MAP_SHORT]) :
    judgeKeys p (r.i p).key = false := by
  have h : ∀ p : Fin 24, ([Obj.FBC_STATE, Obj.FBC_TEC, Obj.FBC_REC, Obj.FBC_RX_FRAMES,
    Obj.FBC_TX_FRAMES, Obj.FBC_ARB_LOST, Obj.FBC_ERR_FRAMES, Obj.FBC_RX_NOMATCH, Obj.FBC_FW_RX_UNBOUND, Obj.FBC_FEVT_FW,
    Obj.FBC_FEVT_DISTURB, Obj.FBC_DIST_LAST_COUNT, Obj.FBC_DIST_LAST_ID, Obj.FBC_MAP_SHORT].all
      fun r => ! judgeKeys p (r.i p).key) = true := by decide +kernel
  have := List.all_eq_true.mp (h ⟨p, hp⟩) r hr
  simpa using this

/-- Fields of a buffer that the judgement of a port's counters leaves alone. -/
theorem judgeKeys_buf {p b : Nat} (hb : b < 32) {r : Row} (hr : r ∈ [Obj.FBC_TXB_STATE, Obj.FBC_TXB_LAST_ERR, Obj.FBC_TXB_EVT_SENT,
    Obj.FBC_TXB_EVT_FAIL, Obj.FBC_TXB_TX_COUNT, Obj.FBC_TXB_STAMP, Obj.FBC_TXB_BIND_ID, Obj.FBC_TXB_BIND_XTD, Obj.FBC_TXB_CTRL_OWNER]) :
    judgeKeys p (r.ij p b).key = false := by
  generalize hk : (r.ij p b).key = k
  simp only [List.mem_cons, List.not_mem_nil, or_false] at hr
  have hbase : 8 * (0x801000 + 0x10000 * p + 0x80 * b) ≤ k ∧ k < 8 * (0x801000 + 0x10000 * p + 0x80 * b + 0x80) := by
    obtain rfl | rfl | rfl | rfl | rfl | rfl | rfl | rfl | rfl := hr <;>
    · simp [Fld.key, Row.ij, Row.at, Obj.FBC_TXB_STATE, Obj.FBC_TXB_LAST_ERR, Obj.FBC_TXB_EVT_SENT, Obj.FBC_TXB_EVT_FAIL, Obj.FBC_TXB_TX_COUNT,
        Obj.FBC_TXB_STAMP, Obj.FBC_TXB_BIND_ID, Obj.FBC_TXB_BIND_XTD, Obj.FBC_TXB_CTRL_OWNER] at hk
      omega
  simp [judgeKeys, inPort, logKey, Fld.key, Row.i, Row.b, Row.at, Obj.FBC_EVT_PASSIVE, Obj.EVR_DROPPED, Obj.EVR_EVT_DROPPED]
  omega

theorem judgeKeys_range {p r : Nat} (hp : p < 24) (hr : r < 16) : judgeKeys p (Obj.FBC_RNG_ENABLE.ij p r).key = false ∧
    judgeKeys p (Obj.FBC_RNG_XTD.ij p r).key = false ∧ judgeKeys p (Obj.FBC_RNG_OWNER.ij p r).key = false ∧
    judgeKeys p (Obj.FBC_RNG_LOW.ij p r).key = false ∧ judgeKeys p (Obj.FBC_RNG_HIGH.ij p r).key = false := by
  have h : ∀ (p : Fin 24) (r : Fin 16), ([Obj.FBC_RNG_ENABLE, Obj.FBC_RNG_XTD, Obj.FBC_RNG_OWNER, Obj.FBC_RNG_LOW, Obj.FBC_RNG_HIGH].all
    fun w => ! judgeKeys p (w.ij p r).key) = true := by decide +kernel
  simpa using h ⟨p, hp⟩ ⟨r, hr⟩

section
variable {p : Nat} {P : Nat → Bool} {s t : State}

theorem CanWork.portEvent (h : CanWork p P s t) (trigger : Nat) (hl : ∀ n, logKey n = true → P n = true) : CanWork p P s (t.portEvent p trigger) :=
  h.raised (State.logAll_raised _ _ _ _ _) hl

theorem CanWork.recordTop (h : CanWork p P s t) (st cause : Nat) (hk : ∀ r ∈ [Obj.FBC_TOP_BUF, Obj.FBC_TOP_VALID, Obj.FBC_TOP_CAUSE, Obj.FBC_TOP_XTD,
    Obj.FBC_TOP_OWNER, Obj.FBC_TOP_ID], P (r.i p).key = true) : CanWork p P s (t.recordTop p st cause) := by
  simp only [List.forall_mem_cons, List.not_mem_nil, false_implies, implies_true, and_true] at hk
  unfold State.recordTop
  split <;>
  · refine .wrs h ?_
    simp only [List.forall_mem_cons, List.not_mem_nil, false_implies, implies_true, and_true]
    exact hk

theorem State.judgeErrors_work (hp : p < 24) (s : State) : CanWork p (judgeKeys p) s (s.judgeErrors p) := by
  have hk := judgeKeys_mem hp
  have htop : ∀ r ∈ [Obj.FBC_TOP_BUF, Obj.FBC_TOP_VALID, Obj.FBC_TOP_CAUSE, Obj.FBC_TOP_XTD, Obj.FBC_TOP_OWNER, Obj.FBC_TOP_ID],
      judgeKeys p (r.i p).key = true := fun r hr => hk r (by simp only [List.mem_cons, List.not_mem_nil, or_false] at hr ⊢; tauto)
  have he := hk Obj.FBC_ERR_STATE (by simp)
  unfold State.judgeErrors
  dsimp only
  exact .ite (.portEvent (.wr (.wr (.recordTop (.wr (.refl s) he _) _ _ htop) (hk _ (by simp)) _) (hk _ (by simp)) _) _ judgeKeys_of_log)
    (.ite (.portEvent (.wr (.refl s) he _) _ judgeKeys_of_log) (.refl s))

end

theorem errState_apart (p : Nat) : (∀ r ∈ [Obj.FBC_TOP_BUF, Obj.FBC_TOP_VALID, Obj.FBC_TOP_CAUSE, Obj.FBC_TOP_XTD, Obj.FBC_TOP_OWNER, Obj.FBC_TOP_ID,
    Obj.FBC_PASSIVE_COUNT, Obj.FBC_EVT_PASSIVE, Obj.FBC_EVT_BUSOFF, Obj.FBC_BUSOFF_COUNT, Obj.FBC_BUSOFF_TIME, Obj.FBC_RECOVER_WAIT],
    (r.i p).key ≠ (Obj.FBC_ERR_STATE.i p).key) ∧ logKey (Obj.FBC_ERR_STATE.i p).key = false := by
  simp [Fld.key, Row.i, Row.b, Row.at, logKey, Obj.FBC_TOP_BUF, Obj.FBC_TOP_VALID, Obj.FBC_TOP_CAUSE, Obj.FBC_TOP_XTD, Obj.FBC_TOP_OWNER, Obj.FBC_TOP_ID,
    Obj.FBC_PASSIVE_COUNT, Obj.FBC_EVT_PASSIVE, Obj.FBC_EVT_BUSOFF, Obj.FBC_BUSOFF_COUNT, Obj.FBC_BUSOFF_TIME, Obj.FBC_RECOVER_WAIT, Obj.FBC_ERR_STATE,
    Obj.EVR_DROPPED, Obj.EVR_EVT_DROPPED]
  omega

section
variable {p : Nat}

theorem State.portEvent_raised (s : State) (p trigger : Nat) : Raised (s.portLogs p).length s (s.portEvent p trigger) := State.logAll_raised _ _ _ _ _

theorem State.rd_portEvent (s : State) (p trigger : Nat) {g : Fld} (h : logKey g.key = false) : (s.portEvent p trigger).rd g = s.rd g :=
  (s.portEvent_raised p trigger).rd g ((unlogged_iff g).mpr h)

theorem State.rd_recordTop (s : State) (st cause : Nat) {g : Fld} (h : ∀ r ∈ [Obj.FBC_TOP_BUF, Obj.FBC_TOP_VALID, Obj.FBC_TOP_CAUSE, Obj.FBC_TOP_XTD,
    Obj.FBC_TOP_OWNER, Obj.FBC_TOP_ID], (r.i p).key ≠ g.key) : (s.recordTop p st cause).rd g = s.rd g := by
  simp only [List.forall_mem_cons, List.not_mem_nil, false_implies, implies_true, and_true] at h
  unfold State.recordTop
  split <;>
  · refine State.rd_wrs_ne ?_
    simp only [List.forall_mem_cons, List.not_mem_nil, false_implies, implies_true, and_true]
    exact h

theorem Beyond.recordTop {P : Nat → Bool} {s t : State} {st cause : Nat} (h : Beyond P s t) (hk : ∀ r ∈ [Obj.FBC_TOP_BUF, Obj.FBC_TOP_VALID,
    Obj.FBC_TOP_CAUSE, Obj.FBC_TOP_XTD, Obj.FBC_TOP_OWNER, Obj.FBC_TOP_ID], P (r.i p).key = true) : Beyond P s (t.recordTop p st cause) :=
  fun g hg => (State.rd_recordTop _ _ _ fun r hr e => Bool.eq_false_iff.mp hg (e ▸ hk r hr)).trans (h g hg)

/-- The error state follows the counters. -/
theorem State.judgeErrors_errState {s : State} (h : s.errState p ≤ 1) : (s.judgeErrors p).errState p =
    if 128 ≤ s.rd (Obj.FBC_TEC.i p) ∨ 128 ≤ s.rd (Obj.FBC_REC.i p) then 1 else 0 := by
  obtain ⟨hne, hlog⟩ := errState_apart p
  have htop : ∀ r ∈ [Obj.FBC_TOP_BUF, Obj.FBC_TOP_VALID, Obj.FBC_TOP_CAUSE, Obj.FBC_TOP_XTD, Obj.FBC_TOP_OWNER, Obj.FBC_TOP_ID],
      (r.i p).key ≠ (Obj.FBC_ERR_STATE.i p).key := fun r hr => hne r (by simp only [List.mem_cons, List.not_mem_nil, or_false] at hr ⊢; tauto)
  unfold State.judgeErrors
  dsimp only
  by_cases hi : 128 ≤ s.rd (Obj.FBC_TEC.i p) ∨ 128 ≤ s.rd (Obj.FBC_REC.i p)
  · rw [if_pos hi]
    by_cases h0 : s.errState p = 0
    · rw [if_pos (by simp [hi, h0])]
      refine (State.rd_portEvent _ _ _ hlog).trans ((State.rd_wr_ne _ _ _ _ (hne _ (by simp))).trans ((State.rd_wr_ne _ _ _ _ (hne _ (by simp))).trans
        ((State.rd_recordTop _ _ _ htop).trans (State.rd_wr_self _ _ _))))
    · rw [if_neg (by simp [h0]), if_neg (by simp [hi])]
      omega
  · rw [if_neg hi]
    by_cases h1 : s.errState p = 1
    · rw [if_neg (by simp [hi]), if_pos (by simp [hi, h1])]
      exact (State.rd_portEvent _ _ _ hlog).trans (State.rd_wr_self _ _ _)
    · rw [if_neg (by simp [hi]), if_neg (by simp [h1])]
      omega

end

/-! ### Bus-off -/

/-- Every request of some buffers is held. -/
def State.holdAll (s : State) (p : Nat) (l : List Nat) : State := l.foldl (fun t b => t.wr (Obj.FBC_TXB_STATE.ij p b) txHeld) s

/-- Whether recovery waits for a command. -/
def State.recoveryWaits (s : State) (p : Nat) (recent : List Nat) : Bool :=
  (! s.on (Obj.FBC_FLT_CFG_RECOVERY.i p) && decide (s.rd (Obj.FBC_FLT_CFG_BUSOFF_LIMIT.i p) ≠ 0 ∧ s.rd (Obj.FBC_FLT_CFG_BUSOFF_LIMIT.i p) ≤ recent.length))

/-- The port's state fields as bus-off leaves them. -/
def State.showBusOff (t s : State) (p : Nat) : State :=
  let q := t.port p
  let recent := s.floorTime :: q.busoffs.filter fun u => decide (s.floorTime < u + 60000000000)
  (((t.putPort p { q with arb := none, busoffs := recent }).wrs [(Obj.FBC_ERR_STATE.i p, 2), (Obj.FBC_BUSOFF_TIME.i p, s.floorTime),
    (Obj.FBC_RECOVER_WAIT.i p, b2n (s.recoveryWaits p recent || s.on (Obj.FBC_FLT_CFG_RECOVERY.i p)))]).recordTop p txHeld 1)

/-- The events of bus-off. -/
def State.tellBusOff (t : State) (p : Nat) (limited : Bool) : State :=
  let u := (((t.set1 (Obj.FBC_EVT_BUSOFF.i p)).inc (Obj.FBC_BUSOFF_COUNT.i p)).portEvent p 0x0605).stalePort p
  if limited then u.portEvent p 0x0607 else u

theorem State.enterBusOff_eq (s : State) (p : Nat) : s.enterBusOff p =
    let t := s.holdAll p (s.bufsIn p txPending ++ s.bufsIn p txArbitrating)
    (t.showBusOff s p).tellBusOff p (s.recoveryWaits p (s.floorTime :: (t.port p).busoffs.filter fun u => decide (s.floorTime < u + 60000000000))) := rfl

/-- The keys of the stale marks of points. -/
def staleKey (k : Nat) : Bool := k % 32 == 4

theorem staleKey_point (i : Nat) : staleKey (Obj.PIMG_ATTR_STALE.i i).key = true := by
  simp [staleKey, Fld.key, Row.i, Row.at, Obj.PIMG_ATTR_STALE]
  omega

theorem State.stalePort_beyond (s : State) (p : Nat) : Beyond staleKey s (s.stalePort p) := by
  unfold State.stalePort
  have h : ∀ (l : List Nat) (t : State), Beyond staleKey s t →
      Beyond staleKey s (l.foldl (fun t m => t.wr (Obj.PIMG_ATTR_STALE.i (s.rd (Obj.FBC_MAP_POINT.ij p m))) 1) t) := by
    intro l
    induction l with
    | nil => exact fun _ h => h
    | cons m l ih => exact fun t h => ih _ (h.wr (staleKey_point _) 1)
  exact h _ s (Beyond.refl _ s)

/-- The fields that bus-off may change besides the state of the requests it holds. -/
def tailKeys (k : Nat) : Bool := staleKey k || logKey k

theorem State.tellBusOff_beyond (t : State) (p : Nat) (limited : Bool) :
    Beyond tailKeys ((t.set1 (Obj.FBC_EVT_BUSOFF.i p)).inc (Obj.FBC_BUSOFF_COUNT.i p)) (t.tellBusOff p limited) := by
  have hl : ∀ k, logKey k = true → tailKeys k = true := fun k h => by rw [tailKeys, h, Bool.or_true]
  have hs : ∀ k, staleKey k = true → tailKeys k = true := fun k h => by rw [tailKeys, h, Bool.true_or]
  have h1 := ((State.portEvent_raised _ p 0x0605).beyond hl).trans
    ((State.stalePort_beyond (((t.set1 (Obj.FBC_EVT_BUSOFF.i p)).inc (Obj.FBC_BUSOFF_COUNT.i p)).portEvent p 0x0605) p).mono hs)
  unfold State.tellBusOff
  dsimp only
  split
  · exact h1.trans ((State.portEvent_raised _ p 0x0607).beyond hl)
  · exact h1

theorem txbState_key_inj {p b n : Nat} (h : (Obj.FBC_TXB_STATE.ij p b).key = (Obj.FBC_TXB_STATE.ij p n).key) : b = n := by
  simp [Fld.key, Row.ij, Row.at, Obj.FBC_TXB_STATE] at h
  omega

/-- A held request shows it. -/
theorem State.holdAll_state (s : State) (p : Nat) (l : List Nat) (n : Nat) :
    (s.holdAll p l).txState p n = if n ∈ l then 7 else s.txState p n := by
  unfold State.holdAll
  induction l generalizing s with
  | nil => simp
  | cons b l ih =>
    rw [List.foldl_cons, ih]
    by_cases hn : n ∈ l
    · rw [if_pos hn, if_pos (List.mem_cons_of_mem b hn)]
    · rw [if_neg hn]
      by_cases hb : n = b
      · subst hb
        rw [if_pos List.mem_cons_self]
        exact State.rd_wr_self _ _ _
      · rw [if_neg (by simp [hb, hn])]
        exact State.rd_wr_ne _ _ _ _ fun e => hb (txbState_key_inj e).symm

/-- What holding requests leaves alone. -/
theorem State.holdAll_beyond (s : State) (p : Nat) (l : List Nat) {g : Fld} (h : ∀ b ∈ l, (Obj.FBC_TXB_STATE.ij p b).key ≠ g.key) :
    (s.holdAll p l).rd g = s.rd g := by
  unfold State.holdAll
  induction l generalizing s with
  | nil => rfl
  | cons b l ih =>
    rw [List.foldl_cons, ih _ fun c hc => h c (List.mem_cons_of_mem b hc)]
    exact State.rd_wr_ne _ _ _ _ (h b List.mem_cons_self)

/-- The fields that bus-off may change besides the state of the requests it holds. -/
def busOffKeys (p k : Nat) : Bool :=
  inPort p 0x40 0x44 k || inPort p 0x58 0x60 k || inPort p 0x108 0x114 k || inPort p 0x48 0x4C k || k == (Obj.FBC_EVT_BUSOFF.i p).key || tailKeys k

theorem busOffKeys_of_tail {p : Nat} : ∀ k, tailKeys k = true → busOffKeys p k = true := fun k h => by
  rw [busOffKeys, h, Bool.or_true]

theorem busOffKeys_mem (p : Nat) : ∀ r ∈ [Obj.FBC_ERR_STATE, Obj.FBC_BUSOFF_TIME, Obj.FBC_RECOVER_WAIT, Obj.FBC_TOP_BUF, Obj.FBC_TOP_VALID,
    Obj.FBC_TOP_CAUSE, Obj.FBC_TOP_XTD, Obj.FBC_TOP_OWNER, Obj.FBC_TOP_ID, Obj.FBC_BUSOFF_COUNT, Obj.FBC_EVT_BUSOFF],
    busOffKeys p (r.i p).key = true := by
  have hr : ∀ (r : Row) (a lo : Nat), (r.i p).key = 8 * (0x800000 + 0x10000 * p + a) + lo → lo < 32 →
      (a = 0x40 ∨ a = 0x58 ∨ 0x108 ≤ a ∧ a + 4 ≤ 0x114 ∨ a = 0x48) → busOffKeys p (r.i p).key = true := by
    intro r a lo hk hlo ha
    rw [hk]
    simp only [busOffKeys, inPort, Bool.or_eq_true, decide_eq_true_eq]
    omega
  simp only [List.forall_mem_cons, List.not_mem_nil, false_implies, implies_true, and_true]
  refine ⟨hr _ 0x40 0 ?_ (by omega) (by omega), hr _ 0x58 0 ?_ (by omega) (by omega), hr _ 0x108 0 ?_ (by omega) (by omega),
    hr _ 0x10C 0 ?_ (by omega) (by omega), hr _ 0x10C 5 ?_ (by omega) (by omega), hr _ 0x10C 6 ?_ (by omega) (by omega),
    hr _ 0x10C 7 ?_ (by omega) (by omega), hr _ 0x10C 8 ?_ (by omega) (by omega), hr _ 0x110 0 ?_ (by omega) (by omega),
    hr _ 0x48 0 ?_ (by omega) (by omega), by simp [busOffKeys]⟩ <;>
  · simp [Fld.key, Row.i, Row.at, Obj.FBC_ERR_STATE, Obj.FBC_BUSOFF_TIME, Obj.FBC_RECOVER_WAIT, Obj.FBC_TOP_BUF, Obj.FBC_TOP_VALID,
      Obj.FBC_TOP_CAUSE, Obj.FBC_TOP_XTD, Obj.FBC_TOP_OWNER, Obj.FBC_TOP_ID, Obj.FBC_BUSOFF_COUNT]
    try omega

theorem State.showBusOff_beyond (t s : State) (p : Nat) : Beyond (busOffKeys p) t (t.showBusOff s p) := by
  have hk := busOffKeys_mem p
  simp only [List.forall_mem_cons, List.not_mem_nil, false_implies, implies_true, and_true] at hk
  obtain ⟨k1, k2, k3, k4, k5, k6, k7, k8, k9, -, -⟩ := hk
  unfold State.showBusOff
  dsimp only
  refine Beyond.recordTop (Beyond.wrs (Beyond.of_regs _ rfl) ?_) ?_ <;>
    simp only [List.forall_mem_cons, List.not_mem_nil, false_implies, implies_true, and_true]
  · exact ⟨k1, k2, k3⟩
  · exact ⟨k4, k5, k6, k7, k8, k9⟩

theorem State.tellBusOff_work (t : State) (p : Nat) (limited : Bool) : Beyond (busOffKeys p) t (t.tellBusOff p limited) := by
  have hk := busOffKeys_mem p
  simp only [List.forall_mem_cons, List.not_mem_nil, false_implies, implies_true, and_true] at hk
  obtain ⟨-, -, -, -, -, -, -, -, -, k10, k11⟩ := hk
  exact (((Beyond.refl _ t).wr k11 1).wr k10 _).trans ((t.tellBusOff_beyond p limited).mono busOffKeys_of_tail)

/-- The requests that bus-off holds. -/
def State.unended (s : State) (p : Nat) : List Nat := s.bufsIn p txPending ++ s.bufsIn p txArbitrating

theorem State.mem_unended {s : State} {p n : Nat} : n ∈ s.unended p ↔ n < 32 ∧ (s.txState p n = 1 ∨ s.txState p n = 2) := by
  unfold State.unended
  rw [List.mem_append, State.mem_bufsIn, State.mem_bufsIn]
  exact ⟨fun h => h.elim (fun h => ⟨h.1, .inl h.2⟩) fun h => ⟨h.1, .inr h.2⟩, fun ⟨h, k⟩ => k.elim (fun k => .inl ⟨h, k⟩) fun k => .inr ⟨h, k⟩⟩

theorem State.enterBusOff_beyond (s : State) (p : Nat) : Beyond (busOffKeys p) (s.holdAll p (s.unended p)) (s.enterBusOff p) := by
  rw [State.enterBusOff_eq]
  exact (State.showBusOff_beyond _ s p).trans (State.tellBusOff_work _ p _)

theorem busOffKeys_state {p n : Nat} (hn : n < 32) {r : Row} (hr : r ∈ [Obj.FBC_TXB_STATE, Obj.FBC_TXB_LAST_ERR, Obj.FBC_TXB_EVT_FAIL]) :
    busOffKeys p (r.ij p n).key = false := by
  generalize hk : (r.ij p n).key = k
  simp only [List.mem_cons, List.not_mem_nil, or_false] at hr
  have hbase : 8 * (0x801000 + 0x10000 * p + 0x80 * n) ≤ k ∧ k < 8 * (0x801000 + 0x10000 * p + 0x80 * n + 0x80) ∧ k % 32 ≠ 4 := by
    obtain rfl | rfl | rfl := hr <;>
    · simp [Fld.key, Row.ij, Row.at, Obj.FBC_TXB_STATE, Obj.FBC_TXB_LAST_ERR, Obj.FBC_TXB_EVT_FAIL] at hk
      omega
  simp [busOffKeys, inPort, tailKeys, staleKey, logKey, Fld.key, Row.i, Row.b, Row.at, Obj.FBC_EVT_BUSOFF, Obj.EVR_DROPPED, Obj.EVR_EVT_DROPPED]
  omega

theorem busOffKeys_port (p : Nat) : busOffKeys p (Obj.FBC_TEC.i p).key = false ∧ busOffKeys p (Obj.FBC_ERR_FRAMES.i p).key = false := by
  simp [busOffKeys, inPort, tailKeys, staleKey, logKey, Fld.key, Row.i, Row.b, Row.at, Obj.FBC_EVT_BUSOFF, Obj.EVR_DROPPED, Obj.EVR_EVT_DROPPED,
    Obj.FBC_TEC, Obj.FBC_ERR_FRAMES]
  omega

/-- What bus-off shows. -/
structure BusOff (s t : State) (p : Nat) : Prop where
  errState : t.errState p = 2
  evt : t.rd (Obj.FBC_EVT_BUSOFF.i p) = 1
  count : t.rd (Obj.FBC_BUSOFF_COUNT.i p) = (s.rd (Obj.FBC_BUSOFF_COUNT.i p) + 1) % 2 ^ 32
  tec : t.rd (Obj.FBC_TEC.i p) = s.rd (Obj.FBC_TEC.i p)
  errFrames : t.rd (Obj.FBC_ERR_FRAMES.i p) = s.rd (Obj.FBC_ERR_FRAMES.i p)
  held : ∀ n, n < 32 → t.txState p n = if s.txState p n = 1 ∨ s.txState p n = 2 then 7 else s.txState p n
  lastErr : ∀ n, n < 32 → t.rd (Obj.FBC_TXB_LAST_ERR.ij p n) = s.rd (Obj.FBC_TXB_LAST_ERR.ij p n)
  fail : ∀ n, n < 32 → t.rd (Obj.FBC_TXB_EVT_FAIL.ij p n) = s.rd (Obj.FBC_TXB_EVT_FAIL.ij p n)

theorem busOff_fields_ne (p : Nat) : ((Obj.FBC_BUSOFF_COUNT.i p).key ≠ (Obj.FBC_ERR_STATE.i p).key ∧ (Obj.FBC_EVT_BUSOFF.i p).key ≠ (Obj.FBC_ERR_STATE.i p).key ∧
      (Obj.FBC_BUSOFF_TIME.i p).key ≠ (Obj.FBC_ERR_STATE.i p).key ∧ (Obj.FBC_RECOVER_WAIT.i p).key ≠ (Obj.FBC_ERR_STATE.i p).key) ∧
    (Obj.FBC_BUSOFF_COUNT.i p).key ≠ (Obj.FBC_EVT_BUSOFF.i p).key ∧ tailKeys (Obj.FBC_ERR_STATE.i p).key = false ∧
    tailKeys (Obj.FBC_EVT_BUSOFF.i p).key = false ∧ tailKeys (Obj.FBC_BUSOFF_COUNT.i p).key = false := by
  simp [tailKeys, staleKey, logKey, Fld.key, Row.i, Row.b, Row.at, Obj.FBC_EVT_BUSOFF, Obj.EVR_DROPPED, Obj.EVR_EVT_DROPPED,
    Obj.FBC_BUSOFF_COUNT, Obj.FBC_ERR_STATE, Obj.FBC_BUSOFF_TIME, Obj.FBC_RECOVER_WAIT]
  omega

theorem txb_fields_apart {n : Nat} (p b : Nat) : (Obj.FBC_TXB_STATE.ij p b).key ≠ (Obj.FBC_TXB_LAST_ERR.ij p n).key ∧
    (Obj.FBC_TXB_STATE.ij p b).key ≠ (Obj.FBC_TXB_EVT_FAIL.ij p n).key ∧ (Obj.FBC_TXB_STATE.ij p b).key ≠ (Obj.FBC_TEC.i p).key ∧
    (Obj.FBC_TXB_STATE.ij p b).key ≠ (Obj.FBC_ERR_FRAMES.i p).key ∧ (Obj.FBC_TXB_STATE.ij p b).key ≠ (Obj.FBC_BUSOFF_COUNT.i p).key := by
  simp [Fld.key, Row.i, Row.ij, Row.at, Obj.FBC_TXB_STATE, Obj.FBC_TXB_LAST_ERR, Obj.FBC_TXB_EVT_FAIL, Obj.FBC_TEC, Obj.FBC_ERR_FRAMES, Obj.FBC_BUSOFF_COUNT]
  omega

theorem showBusOff_keys (p : Nat) : (∀ r ∈ [Obj.FBC_TOP_BUF, Obj.FBC_TOP_VALID, Obj.FBC_TOP_CAUSE, Obj.FBC_TOP_XTD, Obj.FBC_TOP_OWNER, Obj.FBC_TOP_ID,
    Obj.FBC_ERR_STATE, Obj.FBC_BUSOFF_TIME, Obj.FBC_RECOVER_WAIT, Obj.FBC_EVT_BUSOFF], (r.i p).key ≠ (Obj.FBC_BUSOFF_COUNT.i p).key) := by
  simp [Fld.key, Row.i, Row.at, Obj.FBC_TOP_BUF, Obj.FBC_TOP_VALID, Obj.FBC_TOP_CAUSE, Obj.FBC_TOP_XTD, Obj.FBC_TOP_OWNER, Obj.FBC_TOP_ID,
    Obj.FBC_ERR_STATE, Obj.FBC_BUSOFF_TIME, Obj.FBC_RECOVER_WAIT, Obj.FBC_EVT_BUSOFF, Obj.FBC_BUSOFF_COUNT]
  try omega

theorem State.rd_showBusOff_count (t s : State) (p : Nat) :
    (t.showBusOff s p).rd (Obj.FBC_BUSOFF_COUNT.i p) = t.rd (Obj.FBC_BUSOFF_COUNT.i p) := by
  have hk := showBusOff_keys p
  unfold State.showBusOff
  dsimp only
  refine (State.rd_recordTop _ _ _ fun r hr => hk r ?_).trans ((State.rd_wrs_ne ?_).trans (State.rd_congr rfl _))
  · simp only [List.mem_cons, List.not_mem_nil, or_false] at hr ⊢
    tauto
  · simp only [List.forall_mem_cons, List.not_mem_nil, false_implies, implies_true, and_true]
    exact ⟨hk _ (by simp), hk _ (by simp), hk _ (by simp)⟩

theorem State.enterBusOff_busOff (s : State) (p : Nat) : BusOff s (s.enterBusOff p) p := by
  have hw := s.enterBusOff_beyond p
  obtain ⟨htec, hef⟩ := busOffKeys_port p
  obtain ⟨⟨n1, n2, n3, n4⟩, n5, u1, u2, u3⟩ := busOff_fields_ne p
  have htop := (errState_apart p).1
  refine ⟨?_, ?_, ?_, ?_, ?_, fun n hn => ?_, fun n hn => ?_, fun n hn => ?_⟩
  · rw [State.enterBusOff_eq]
    refine ((State.tellBusOff_beyond _ p _) _ u1).trans ((State.rd_wr_ne _ _ _ _ n1).trans ((State.rd_wr_ne _ _ _ _ n2).trans ?_))
    refine (State.rd_recordTop _ _ _ fun r hr => htop r ?_).trans ((State.rd_wr_ne _ _ _ _ n4).trans ((State.rd_wr_ne _ _ _ _ n3).trans
      (State.rd_wr_self _ _ _)))
    simp only [List.mem_cons, List.not_mem_nil, or_false] at hr ⊢
    tauto
  · rw [State.enterBusOff_eq]
    exact ((State.tellBusOff_beyond _ p _) _ u2).trans ((State.rd_wr_ne _ _ _ _ n5).trans (State.rd_wr_self _ _ _))
  · rw [State.enterBusOff_eq]
    refine ((State.tellBusOff_beyond _ p _) _ u3).trans ((State.rd_wr_self _ _ _).trans ?_)
    rw [State.set1, State.rd_wr_ne _ _ _ _ (showBusOff_keys p _ (by simp)), State.rd_showBusOff_count]
    exact congrArg (fun v => (v + 1) % 2 ^ 32) (State.holdAll_beyond s p (s.unended p) fun b hb => (txb_fields_apart (n := 0) p b).2.2.2.2)
  · exact (hw _ htec).trans (State.holdAll_beyond _ _ _ fun b hb => (txb_fields_apart (n := 0) p b).2.2.1)
  · exact (hw _ hef).trans (State.holdAll_beyond _ _ _ fun b hb => (txb_fields_apart (n := 0) p b).2.2.2.1)
  · refine (hw _ (busOffKeys_state hn (by simp))).trans ((State.holdAll_state _ _ _ _).trans ?_)
    exact if_congr (State.mem_unended.trans (and_iff_right hn)) rfl rfl
  · exact (hw _ (busOffKeys_state hn (by simp))).trans (State.holdAll_beyond _ _ _ fun b hb => (txb_fields_apart p b).1)
  · exact (hw _ (busOffKeys_state hn (by simp))).trans (State.holdAll_beyond _ _ _ fun b hb => (txb_fields_apart p b).2.1)

end Sys2Proof.Machine
end

section
/-!
SUPPORT. The proof of O41: transmit requests and their ends, and recovery from bus-off (spec/10 R262 to R268; spec/11 R279 to R284).
-/
namespace Sys2Proof.Machine
open Sys2Proof.Claims

/-! ### Requesters -/

theorem mayUse_advance {s : State} {who : Requester} {a now : Nat} : MayUse (s.advance now) who a ↔ MayUse s who a := by
  have hr : ∀ c, (s.advance now).reaches c a = s.reaches c a := fun c => State.reaches_congr rfl c a
  have hl : (s.advance now).live who = s.live who := rfl
  have hc : (s.advance now).compOf who = s.compOf who := rfl
  unfold MayUse
  rw [hl, hc, hr]

theorem mayUse_and {s : State} {who : Requester} {a : Nat} : (s.live who && s.reaches (s.compOf who) a) = true ↔ MayUse s who a := by
  rw [Bool.and_eq_true]
  exact Iff.rfl

/-! ### The data of a periodic request -/

/-- A buffer's data with the live values of its mapped points in place. -/
def State.composed (s : State) (p b : Nat) : Nat :=
  (s.mapsOf p true b).foldl (fun n m => scatter n (s.mapField p m) (s.pt (s.rd (Obj.FBC_MAP_POINT.ij p m)))) (s.bufData p b)

theorem State.compose_eq (s : State) (p b : Nat) : s.compose p b = (s.putBufData p b (s.composed p b)).putTxReq p b
    { s.txReq p b with composed := some (s.composed p b), copy := if s.txState p b = txArbitrating then (s.txReq p b).copy else none } := rfl

/-- What composing leaves of the port. -/
structure Composed (s t : State) (p b : Nat) : Prop where
  rd : Beyond (dataKeys p b) s t
  data : t.bufData p b = s.composed p b % 2 ^ 512
  arb : (t.port p).arb = (s.port p).arb
  eq : t = { s with regs := t.regs, fbc := t.fbc }

theorem State.putTxReq_regs (s : State) (p b : Nat) (x : TxReq) : (s.putTxReq p b x).regs = s.regs := rfl

theorem State.putTxReq_eq (s : State) (p b : Nat) (x : TxReq) : s.putTxReq p b x = { s with
    regs := (s.putTxReq p b x).regs, fbc := (s.putTxReq p b x).fbc } := rfl

theorem State.compose_composed (s : State) (p b : Nat) : Composed s (s.compose p b) p b := by
  rw [State.compose_eq]
  generalize ({ s.txReq p b with composed := some (s.composed p b), copy := if s.txState p b = txArbitrating then (s.txReq p b).copy else none }
    : TxReq) = x
  have hw := State.putBufData_beyond s p b (s.composed p b)
  have hd := State.bufData_putBufData s p b (s.composed p b)
  have he := State.putBufData_eq_regs s p b (s.composed p b)
  generalize s.putBufData p b (s.composed p b) = u at hw hd he
  obtain ⟨r, rfl⟩ : ∃ r, u = { s with regs := r } := ⟨_, he⟩
  refine ⟨hw.trans (.of_regs _ (State.putTxReq_regs _ p b x)), ?_, ?_, State.putTxReq_eq _ p b x⟩
  · rw [State.bufData_congr (State.putTxReq_regs _ p b x) p b, hd]
  · rw [State.arb_putTxReq]
    exact congrArg CanPort.arb (State.port_congr rfl p)

theorem dataKeys_port {p b : Nat} : dataKeys p b (Obj.FBC_STATE.i p).key = false ∧ dataKeys p b (Obj.FBC_ERR_STATE.i p).key = false ∧
    dataKeys p b Obj.IDENT_MODE.f.key = false ∧ dataKeys p b (Obj.FBC_FW_TX_BLOCK.i p).key = false := by
  simp [dataKeys, inPort, Fld.key, Row.f, Row.i, Row.at, Obj.FBC_STATE, Obj.FBC_ERR_STATE, Obj.FBC_FW_TX_BLOCK, Obj.IDENT_MODE]
  omega

theorem dataKeys_buf {p b n : Nat} : dataKeys p b (Obj.FBC_TXB_STATE.ij p n).key = false ∧
    dataKeys p b (Obj.FBC_TXB_BIND_ENABLE.ij p n).key = false ∧ dataKeys p b (Obj.FBC_TXB_CTRL_OWNER.ij p n).key = false ∧
    dataKeys p b (Obj.FBC_TXB_BIND_ID.ij p n).key = false ∧ dataKeys p b (Obj.FBC_TXB_BIND_XTD.ij p n).key = false := by
  simp [dataKeys, inPort, Fld.key, Row.ij, Row.at, Obj.FBC_TXB_STATE, Obj.FBC_TXB_BIND_ENABLE, Obj.FBC_TXB_CTRL_OWNER, Obj.FBC_TXB_BIND_ID,
    Obj.FBC_TXB_BIND_XTD]
  omega

theorem dataKeys_range {p b r : Nat} (hr : r < 16) : dataKeys p b (Obj.FBC_RNG_ENABLE.ij p r).key = false ∧
    dataKeys p b (Obj.FBC_RNG_XTD.ij p r).key = false ∧ dataKeys p b (Obj.FBC_RNG_OWNER.ij p r).key = false ∧
    dataKeys p b (Obj.FBC_RNG_LOW.ij p r).key = false ∧ dataKeys p b (Obj.FBC_RNG_HIGH.ij p r).key = false := by
  simp [dataKeys, inPort, Fld.key, Row.ij, Row.at, Obj.FBC_RNG_ENABLE, Obj.FBC_RNG_XTD, Obj.FBC_RNG_OWNER, Obj.FBC_RNG_LOW, Obj.FBC_RNG_HIGH]
  omega

/-- Composing a buffer changes nothing that its request turns on. -/
theorem Composed.requested {s u t : State} {p b : Nat} (h : Composed s u p b) (k : Requested u t p b) : Requested s t p b := by
  obtain ⟨d1, d2, d3, d4⟩ := dataKeys_port (p := p) (b := b)
  have hst : ∀ n, u.txState p n = s.txState p n := fun n => h.rd _ dataKeys_buf.1
  have hps : u.portState p = s.portState p := h.rd _ d1
  have hes : u.errState p = s.errState p := h.rd _ d2
  have hbus : u.onBus p = s.onBus p := State.onBus_congr hps hes (h.rd _ d3) (by rw [h.eq]) (by rw [h.eq]) (by rw [h.eq])
  have hcalm : Calm u p ↔ Calm s p := by
    unfold Calm State.bufsIn
    simp only [hst]
  have hmay : u.mayTransmit p b = s.mayTransmit p b := by
    refine h.rd.mayTransmit_of ?_ ?_ <;> simp only [List.forall_mem_cons, List.not_mem_nil, false_implies, implies_true, and_true]
    · obtain ⟨-, -, e1, e2, e3⟩ := dataKeys_buf (p := p) (b := b) (n := b)
      exact ⟨e1, e2, e3⟩
    · exact ⟨fun i hi => (dataKeys_range hi).1, fun i hi => (dataKeys_range hi).2.1, fun i hi => (dataKeys_range hi).2.2.1,
        fun i hi => (dataKeys_range hi).2.2.2.1, fun i hi => (dataKeys_range hi).2.2.2.2⟩
  unfold Requested at k ⊢
  rwa [hst, hps, hes, hbus, hcalm, hmay, h.arb, h.rd _ d4] at k

/-! ### Attempts -/

/-- The fields of a port besides its requests that an attempt's end counts in. -/
theorem portFields_ne (p : Nat) : ((Obj.FBC_TEC.i p).key ≠ (Obj.FBC_TX_FRAMES.i p).key ∧ (Obj.FBC_TEC.i p).key ≠ (Obj.FBC_ERR_FRAMES.i p).key ∧
      (Obj.FBC_ARB_LOST.i p).key ≠ (Obj.FBC_TEC.i p).key ∧ (Obj.FBC_TX_FRAMES.i p).key ≠ (Obj.FBC_TEC.i p).key) := by
  simp [Fld.key, Row.i, Row.at, Obj.FBC_TEC, Obj.FBC_TX_FRAMES, Obj.FBC_ERR_FRAMES, Obj.FBC_ARB_LOST]

theorem portFields_buf_ne (p n : Nat) : ∀ r ∈ [Obj.FBC_TEC, Obj.FBC_TX_FRAMES, Obj.FBC_ERR_FRAMES, Obj.FBC_ARB_LOST],
    ∀ q ∈ [Obj.FBC_TXB_STAMP, Obj.FBC_TXB_EPOCH_LO, Obj.FBC_TXB_TX_COUNT, Obj.FBC_TXB_STATE, Obj.FBC_TXB_CTRL_RETRY_OVR, Obj.FBC_TXB_CTRL_RETRY_LIMIT],
      (r.i p).key ≠ (q.ij p n).key := by
  simp only [List.forall_mem_cons, List.not_mem_nil, false_implies, implies_true, and_true]
  simp [Fld.key, Row.i, Row.ij, Row.at, Obj.FBC_TEC, Obj.FBC_TX_FRAMES, Obj.FBC_ERR_FRAMES, Obj.FBC_ARB_LOST, Obj.FBC_TXB_STAMP, Obj.FBC_TXB_EPOCH_LO,
    Obj.FBC_TXB_TX_COUNT, Obj.FBC_TXB_STATE, Obj.FBC_TXB_CTRL_RETRY_OVR, Obj.FBC_TXB_CTRL_RETRY_LIMIT]
  omega

theorem State.sofOf_eq (s : State) (p b : Nat) : s.sofOf p b =
    ((s.txReq p b).selected + s.draw.1 % (s.floorTime - (s.txReq p b).selected + 1), s.draw.2) := rfl

/-- The start of frame lies between the selection and now. -/
theorem State.sofOf_bounds (s : State) (p b : Nat) : (s.txReq p b).selected ≤ (s.sofOf p b).1 ∧
    (s.sofOf p b).1 ≤ max (s.txReq p b).selected s.floorTime := by
  rw [State.sofOf_eq]
  have h := Nat.mod_lt s.draw.1 (show 0 < s.floorTime - (s.txReq p b).selected + 1 by omega)
  dsimp only
  omega

/-- The stamps and counts of a frame sent, and the frame itself. -/
def State.stampTx (s : State) (p b sof : Nat) : State :=
  let s2 := s.wrs [(Obj.FBC_TXB_STAMP.ij p b, sof / 1000 % 2 ^ 32), (Obj.FBC_TXB_EPOCH_LO.ij p b, sof / 4294967296000 % 2 ^ 16),
    (Obj.FBC_TEC.i p, s.rd (Obj.FBC_TEC.i p) - 1)]
  ((s2.inc (Obj.FBC_TX_FRAMES.i p)).perf 9 0x01 (s.bufOwner p b)).emit (.can p { (s.txReq p b).copy.getD (s.bufFrame p b) with sof := sof })

theorem canTxSuccess_some {s : State} {p b : Nat} (h : (s.port p).arb = some b) : canTxSuccess p s =
    ((((s.draw.2.stampTx p b (s.sofOf p b).1).endTx p b txSent 0).judgeErrors p).select p) := by
  unfold canTxSuccess
  rw [h]
  rfl

/-- What the stamps of a frame leave. -/
structure Stamped (s t : State) (p b sof : Nat) : Prop where
  stamp : t.rd (Obj.FBC_TXB_STAMP.ij p b) = sof / 1000 % 2 ^ 32
  tec : t.rd (Obj.FBC_TEC.i p) = (s.rd (Obj.FBC_TEC.i p) - 1) % 2 ^ 9
  txFrames : t.rd (Obj.FBC_TX_FRAMES.i p) = (s.rd (Obj.FBC_TX_FRAMES.i p) + 1) % 2 ^ 32
  txCount : t.rd (Obj.FBC_TXB_TX_COUNT.ij p b) = s.rd (Obj.FBC_TXB_TX_COUNT.ij p b)
  fbc : t.fbc = s.fbc
  said : Out.can p { (s.txReq p b).copy.getD (s.bufFrame p b) with sof := sof } ∈ t.sent

theorem State.stampTx_stamped (s : State) (p b sof : Nat) : Stamped s (s.stampTx p b sof) p b sof := by
  obtain ⟨e1, -, -, e2⟩ := portFields_ne p
  have hk := portFields_buf_ne p b
  simp only [List.forall_mem_cons, List.not_mem_nil, false_implies, implies_true, and_true] at hk
  obtain ⟨⟨k1, k2, k3, -⟩, ⟨f1, f2, f3, -⟩, -⟩ := hk
  have hse : (Obj.FBC_TXB_STAMP.ij p b).key ≠ (Obj.FBC_TXB_TX_COUNT.ij p b).key ∧ (Obj.FBC_TXB_EPOCH_LO.ij p b).key ≠ (Obj.FBC_TXB_TX_COUNT.ij p b).key ∧
      (Obj.FBC_TXB_EPOCH_LO.ij p b).key ≠ (Obj.FBC_TXB_STAMP.ij p b).key := by
    simp [Fld.key, Row.ij, Row.at, Obj.FBC_TXB_STAMP, Obj.FBC_TXB_EPOCH_LO, Obj.FBC_TXB_TX_COUNT]
  obtain ⟨s1, s2, s3⟩ := hse
  have hr : ∀ (t : State) (o : Out) (g : Fld), ((t.perf 9 0x01 (s.bufOwner p b)).emit o).rd g = t.rd g := fun t o g =>
    State.rd_congr (State.perf_regs _ _ _ _ _) g
  unfold State.stampTx
  dsimp only
  refine ⟨?_, ?_, ?_, ?_, ?_, ?_⟩
  · rw [hr, State.inc, State.rd_wr_ne _ _ _ _ f1]
    refine (State.rd_wr_ne _ _ _ _ k1).trans ((State.rd_wr_ne _ _ _ _ s3).trans ((State.rd_wr_self _ _ _).trans ?_))
    exact Nat.mod_mod _ _
  · rw [hr, State.inc, State.rd_wr_ne _ _ _ _ e2]
    exact State.rd_wr_self _ _ _
  · rw [hr, State.inc, State.rd_wr_self]
    have hw : ∀ x y z, (s.wrs [(Obj.FBC_TXB_STAMP.ij p b, x), (Obj.FBC_TXB_EPOCH_LO.ij p b, y), (Obj.FBC_TEC.i p, z)]).rd (Obj.FBC_TX_FRAMES.i p) =
        s.rd (Obj.FBC_TX_FRAMES.i p) := fun x y z => by
      refine State.rd_wrs_ne ?_
      simp only [List.forall_mem_cons, List.not_mem_nil, false_implies, implies_true, and_true]
      exact ⟨f1.symm, f2.symm, e1⟩
    rw [hw]
    rfl
  · rw [hr, State.inc, State.rd_wr_ne _ _ _ _ f3]
    refine State.rd_wrs_ne ?_
    simp only [List.forall_mem_cons, List.not_mem_nil, false_implies, implies_true, and_true]
    exact ⟨s1, s2, k3⟩
  · exact State.perf_fbc _ _ _ _ _
  · exact List.mem_append_right _ List.mem_cons_self

/-- What the end of a sent request, the judgement of the counters and a selection leave of it. -/
theorem State.sent_shown {s : State} {p b : Nat} (hp : p < 24) (hb : b < 32) (h : (s.txReq p b).again = false) :
    let t := ((s.endTx p b txSent 0).judgeErrors p).select p
    t.txState p b = 3 ∧ t.rd (Obj.FBC_TXB_EVT_SENT.ij p b) = 1 ∧ t.rd (Obj.FBC_TXB_LAST_ERR.ij p b) = 0 ∧
    t.rd (Obj.FBC_TEC.i p) = s.rd (Obj.FBC_TEC.i p) ∧
    t.rd (Obj.FBC_TXB_TX_COUNT.ij p b) = (s.rd (Obj.FBC_TXB_TX_COUNT.ij p b) + 1) % 2 ^ 32 ∧
    t.rd (Obj.FBC_TX_FRAMES.i p) = s.rd (Obj.FBC_TX_FRAMES.i p) ∧ t.rd (Obj.FBC_TXB_STAMP.ij p b) = s.rd (Obj.FBC_TXB_STAMP.ij p b) ∧
    s.sent <+: t.sent := by
  obtain ⟨e1, e2, e3, -⟩ := s.rd_endTx hp hb 0 false (st := txSent) (.inl h)
  obtain ⟨e3, e4⟩ := e3 rfl
  have he := s.endTx_any hp hb txSent 0 false
  dsimp only
  generalize s.endTx p b txSent 0 = u at e1 e2 e3 e4 he
  have hj := u.judgeErrors_work hp
  generalize u.judgeErrors p = v at hj
  have hst : v.txState p b = 3 := (hj.rd _ (judgeKeys_buf hb (by simp))).trans e1
  obtain ⟨k1, k2, k3, k4, -⟩ := selectKeys_buf hp hb (l := v.bufsIn p 1) fun hm => by
    have := (State.mem_bufsIn.mp hm).2
    omega
  have hs := v.select_work (p := p)
  have ha := v.select_any hp
  have hall : ∀ r ∈ [Obj.FBC_TEC, Obj.FBC_TX_FRAMES], (v.select p).rd (r.i p) = s.rd (r.i p) := by
    intro r hr
    simp only [List.mem_cons, List.not_mem_nil, or_false] at hr
    refine (ha.rd _ (requestKeys_port hp ?_)).trans ((hj.rd _ (judgeKeys_port hp ?_)).trans (he.rd _ (requestKeys_port hp ?_))) <;>
    · obtain rfl | rfl := hr <;> simp
  refine ⟨(hs.rd _ k1).trans hst, (hs.rd _ k3).trans ((hj.rd _ (judgeKeys_buf hb (by simp))).trans e3),
    (hs.rd _ k2).trans ((hj.rd _ (judgeKeys_buf hb (by simp))).trans e2), hall _ (by simp),
    (hs.rd _ k4).trans ((hj.rd _ (judgeKeys_buf hb (by simp))).trans e4), hall _ (by simp), ?_, ?_⟩
  · exact (ha.rd _ (requestKeys_buf hp hb (by simp))).trans ((hj.rd _ (judgeKeys_buf hb (by simp))).trans (he.rd _ (requestKeys_buf hp hb (by simp))))
  · exact (he.talked.sent.trans hj.talked.sent).trans ha.talked.sent

/-! ### Attempts that fail -/

/-- The counters of a failed attempt. -/
def State.countError (s : State) (p b tec : Nat) : State :=
  (((s.inc (Obj.FBC_ERR_FRAMES.i p)).perf 9 0x03 (s.bufOwner p b)).perf 9 0x04 vendorTag).wr (Obj.FBC_TEC.i p) (min tec 256)

theorem canTxError_some {s : State} {p b : Nat} (ev : TxError) (h : (s.port p).arb = some b) : canTxError p ev s =
    let tec := s.rd (Obj.FBC_TEC.i p) + (if ev.noTecChange then 0 else 8)
    let t := (s.countError p b tec).attemptFailed p b ev.err.val ev.collision (decide (255 < tec))
    if decide (255 < tec) then t.enterBusOff p else (t.judgeErrors p).select p := by
  unfold canTxError
  rw [h]
  rfl

/-- What counting a failed attempt leaves. -/
structure ErrorCounted (s t : State) (p b tec : Nat) : Prop where
  rd : Beyond (fun k => k == (Obj.FBC_TEC.i p).key || k == (Obj.FBC_ERR_FRAMES.i p).key) s t
  tec : t.rd (Obj.FBC_TEC.i p) = min tec 256
  errFrames : t.rd (Obj.FBC_ERR_FRAMES.i p) = (s.rd (Obj.FBC_ERR_FRAMES.i p) + 1) % 2 ^ 32
  fbc : t.fbc = s.fbc

theorem State.countError_counted (s : State) (p b tec : Nat) : ErrorCounted s (s.countError p b tec) p b tec := by
  have hne := (portFields_ne p).2.1
  unfold State.countError
  have hr : (((s.inc (Obj.FBC_ERR_FRAMES.i p)).perf 9 0x03 (s.bufOwner p b)).perf 9 0x04 vendorTag).regs = (s.inc (Obj.FBC_ERR_FRAMES.i p)).regs :=
    (State.perf_regs _ _ _ _ _).trans (State.perf_regs _ _ _ _ _)
  have hf : (((s.inc (Obj.FBC_ERR_FRAMES.i p)).perf 9 0x03 (s.bufOwner p b)).perf 9 0x04 vendorTag).fbc = s.fbc :=
    (State.perf_fbc _ _ _ _ _).trans (State.perf_fbc _ _ _ _ _)
  generalize ((s.inc (Obj.FBC_ERR_FRAMES.i p)).perf 9 0x03 (s.bufOwner p b)).perf 9 0x04 vendorTag = u at hr hf
  refine ⟨.wr (.trans (.wr (.refl _ s) (by simp) _) (.of_regs _ hr)) (by simp) _, ?_, ?_, hf⟩
  · rw [State.rd_wr_self]
    exact Nat.mod_eq_of_lt (show min tec 256 < 512 by omega)
  · rw [State.rd_wr_ne _ _ _ _ hne, State.rd_congr hr, State.inc, State.rd_wr_self]
    rfl

/-- A failed attempt that is retried. -/
def State.retryTx (s : State) (p b err : Nat) : State :=
  let q := s.port p
  ((((s.putPort p { q with arb := none }).putTxReq p b { s.txReq p b with failures := (s.txReq p b).failures + 1 }).wr (Obj.FBC_TXB_STATE.ij p b) txPending).wr
    (Obj.FBC_TXB_LAST_ERR.ij p b) err)

theorem State.attemptFailed_eq (s : State) (p b err : Nat) (suspect off : Bool) : s.attemptFailed p b err suspect off =
    if s.oneShot p b then s.endTx p b txFailed (if suspect then 6 else if off then 7 else err) suspect
    else if s.retryLimit p b < (s.txReq p b).failures + 1 then s.endTx p b txFailed (if suspect then 6 else err) suspect
    else if (s.txReq p b).cancel then s.endTx p b txCancelled err
    else if suspect && off then (s.retryTx p b err).collision p b else s.retryTx p b err := rfl

theorem State.retryTx_spec {p b : Nat} (s : State) (err : Nat) : (s.retryTx p b err).txState p b = 1 ∧
    (s.retryTx p b err).rd (Obj.FBC_TXB_LAST_ERR.ij p b) = err % 16 ∧
    ((s.retryTx p b err).txReq p b).failures = (s.txReq p b).failures + 1 := by
  refine ⟨(State.rd_wr_ne _ _ _ _ (buf_keys_ne p b).1.1).trans (State.rd_wr_self _ _ _), State.rd_wr_self _ _ _, ?_⟩
  unfold State.retryTx
  dsimp only
  rw [State.txReq_congr (State.wr_fbc _ _ _), State.txReq_congr (State.wr_fbc _ _ _), State.txReq_putTxReq]

theorem State.oneShot_congr {s t : State} {p b : Nat} (h1 : t.rd (Obj.FBC_TXB_CTRL_RETRY_OVR.ij p b) = s.rd (Obj.FBC_TXB_CTRL_RETRY_OVR.ij p b))
    (h2 : t.rd (Obj.FBC_CFG_RETRY_MODE.i p) = s.rd (Obj.FBC_CFG_RETRY_MODE.i p)) : t.oneShot p b = s.oneShot p b := by
  unfold State.oneShot State.on
  rw [h1, h2]

theorem State.retryLimit_congr {s t : State} {p b : Nat} (h1 : t.rd (Obj.FBC_TXB_CTRL_RETRY_LIMIT.ij p b) = s.rd (Obj.FBC_TXB_CTRL_RETRY_LIMIT.ij p b))
    (h2 : t.rd (Obj.FBC_CFG_RETRY_LIMIT.i p) = s.rd (Obj.FBC_CFG_RETRY_LIMIT.i p)) : t.retryLimit p b = s.retryLimit p b := by
  unfold State.retryLimit
  rw [h1, h2]

section
variable {p b : Nat} (hp : p < 24) (hb : b < 32)

include hp hb in
theorem State.attemptFailed_work (s : State) (err : Nat) (suspect off : Bool) :
    CanWork p (endKeys p b) s (s.attemptFailed p b err suspect off) := by
  obtain ⟨h1, h2, -⟩ := bufKeys_mem p b
  have hr : CanWork p (endKeys p b) s (s.retryTx p b err) :=
    .wr (.wr (.putTxReq (.putPort (.refl s) rfl) _ _) (endKeys_of_buf h1) _) (endKeys_of_buf h2) _
  rw [State.attemptFailed_eq]
  exact .ite (s.endTx_work _ _ _) (.ite (s.endTx_work _ _ _) (.ite (s.endTx_work _ _ _)
    (.ite (hr.trans ((State.collision_work _).mono endKeys_of_told)) hr)))

theorem errorKeys_port (p b : Nat) : ∀ r ∈ [Obj.FBC_TEC, Obj.FBC_ERR_FRAMES], (Obj.FBC_CFG_RETRY_MODE.i p).key ≠ (r.i p).key ∧
    (Obj.FBC_CFG_RETRY_LIMIT.i p).key ≠ (r.i p).key ∧ (Obj.FBC_BUSOFF_COUNT.i p).key ≠ (r.i p).key ∧
    (∀ q ∈ [Obj.FBC_TXB_CTRL_RETRY_OVR, Obj.FBC_TXB_CTRL_RETRY_LIMIT, Obj.FBC_TXB_STATE, Obj.FBC_TXB_CTRL_OWNER, Obj.FBC_TXB_BIND_ID, Obj.FBC_TXB_BIND_XTD],
      (q.ij p b).key ≠ (r.i p).key) := by
  simp only [List.forall_mem_cons, List.not_mem_nil, false_implies, implies_true, and_true]
  simp [Fld.key, Row.i, Row.ij, Row.at, Obj.FBC_TEC, Obj.FBC_ERR_FRAMES, Obj.FBC_CFG_RETRY_MODE, Obj.FBC_CFG_RETRY_LIMIT, Obj.FBC_BUSOFF_COUNT,
    Obj.FBC_TXB_CTRL_RETRY_OVR, Obj.FBC_TXB_CTRL_RETRY_LIMIT, Obj.FBC_TXB_STATE, Obj.FBC_TXB_CTRL_OWNER, Obj.FBC_TXB_BIND_ID, Obj.FBC_TXB_BIND_XTD]
  omega

theorem errorKeys_range (p i : Nat) : ∀ r ∈ [Obj.FBC_TEC, Obj.FBC_ERR_FRAMES],
    ∀ q ∈ [Obj.FBC_RNG_ENABLE, Obj.FBC_RNG_XTD, Obj.FBC_RNG_OWNER, Obj.FBC_RNG_LOW, Obj.FBC_RNG_HIGH], (q.ij p i).key ≠ (r.i p).key := by
  simp only [List.forall_mem_cons, List.not_mem_nil, false_implies, implies_true, and_true]
  simp [Fld.key, Row.i, Row.ij, Row.at, Obj.FBC_TEC, Obj.FBC_ERR_FRAMES, Obj.FBC_RNG_ENABLE, Obj.FBC_RNG_XTD, Obj.FBC_RNG_OWNER, Obj.FBC_RNG_LOW,
    Obj.FBC_RNG_HIGH]
  omega

/-- What counting a failed attempt leaves of what its request turns on. -/
structure CountedApart (s t : State) (p b : Nat) : Prop where
  oneShot : t.oneShot p b = s.oneShot p b
  retryLimit : t.retryLimit p b = s.retryLimit p b
  txReq : t.txReq p b = s.txReq p b
  mayTransmit : t.mayTransmit p b = s.mayTransmit p b
  count : t.rd (Obj.FBC_BUSOFF_COUNT.i p) = s.rd (Obj.FBC_BUSOFF_COUNT.i p)
  txState : ∀ m, t.txState p m = s.txState p m

theorem ErrorCounted.apart {s t : State} {tec : Nat} (h : ErrorCounted s t p b tec) : CountedApart s t p b := by
  have hk : ∀ k, k ≠ (Obj.FBC_TEC.i p).key → k ≠ (Obj.FBC_ERR_FRAMES.i p).key →
      (k == (Obj.FBC_TEC.i p).key || k == (Obj.FBC_ERR_FRAMES.i p).key) = false := fun k h1 h2 => by
    rw [beq_eq_false_iff_ne.mpr h1, beq_eq_false_iff_ne.mpr h2]
    rfl
  have ht := fun c => errorKeys_port p c Obj.FBC_TEC (by simp)
  have he := fun c => errorKeys_port p c Obj.FBC_ERR_FRAMES (by simp)
  have hbuf : ∀ q ∈ [Obj.FBC_TXB_CTRL_RETRY_OVR, Obj.FBC_TXB_CTRL_RETRY_LIMIT, Obj.FBC_TXB_STATE, Obj.FBC_TXB_CTRL_OWNER, Obj.FBC_TXB_BIND_ID,
      Obj.FBC_TXB_BIND_XTD], ∀ c, _ := fun q hq c => hk _ ((ht c).2.2.2 q hq) ((he c).2.2.2 q hq)
  refine ⟨State.oneShot_congr (h.rd _ (hbuf _ (by simp) b)) (h.rd _ (hk _ (ht b).1 (he b).1)),
    State.retryLimit_congr (h.rd _ (hbuf _ (by simp) b)) (h.rd _ (hk _ (ht b).2.1 (he b).2.1)), State.txReq_congr h.fbc p b,
    h.rd.mayTransmit_of (fun r hr => hbuf r ?_ b) (fun r hr i _ => hk _ (errorKeys_range p i _ (by simp) r hr) (errorKeys_range p i _ (by simp) r hr)),
    h.rd _ (hk _ (ht b).2.2.1 (he b).2.2.1), fun m => h.rd _ (hbuf _ (by simp) m)⟩
  simp only [List.mem_cons, List.not_mem_nil, or_false] at hr ⊢
  tauto

end

end Sys2Proof.Machine

namespace Sys2Proof.Proofs
open Sys2Proof.Machine Sys2Proof.Claims

/-! ### Requests, cancels and periodic triggers -/

section
variable {who : Requester} {port : Fin 24} {buf : Fin 32} {now : Nat} {s : State}

theorem txreq_denied (h : ¬ MayUse s who (bufAddr port.val buf.val 0x50)) :
    Completes (.txreq who port buf now) s fun t => t = s.advance now :=
  .of_exec rfl (if_neg fun e => h (mayUse_advance.mp (mayUse_and.mp e)))

theorem txCancel_denied (h : ¬ MayUse s who (bufAddr port.val buf.val 0x50)) :
    Completes (.txCancel who port buf now) s fun t => t = s.advance now :=
  .of_exec rfl (if_neg fun e => h (mayUse_advance.mp (mayUse_and.mp e)))

section
variable (h : MayUse s who (bufAddr port.val buf.val 0x50))
include h

theorem exec_txreq : exec (.txreq who port buf now) s = .next ((s.advance now).request port.val buf.val) :=
  congrArg Host.Outcome.next (if_pos (mayUse_and.mpr (mayUse_advance.mpr h)))

theorem exec_txCancel : exec (.txCancel who port buf now) s =
    .next (((s.advance now).cancelTx port.val buf.val).select port.val) :=
  congrArg Host.Outcome.next (if_pos (mayUse_and.mpr (mayUse_advance.mpr h)))

theorem txreq_requested (hOn : s.bufOn port.val buf.val = true) : Completes (.txreq who port buf now) s fun t =>
    Requested (s.advance now) t port.val buf.val ∧ t.bufData port.val buf.val = s.bufData port.val buf.val := by
  refine .of_exec (exec_txreq h) ⟨State.request_requested port.isLt buf.isLt hOn, ?_⟩
  exact ((s.advance now).request_work port.isLt buf.isLt).rd.bufData buf.isLt

theorem txreq_stands (hn : s.bufOn port.val buf.val = false ∨ s.txState port.val buf.val = 1 ∨ s.txState port.val buf.val = 7) :
    Completes (.txreq who port buf now) s fun t => t = s.advance now := by
  refine .of_exec (exec_txreq h) ?_
  have hOn : (s.advance now).bufOn port.val buf.val = s.bufOn port.val buf.val := rfl
  have hst : (s.advance now).txState port.val buf.val = s.txState port.val buf.val := rfl
  rw [State.request_eq, hOn, hst]
  obtain hoff | hst := hn
  · exact if_pos (by rw [hoff]; rfl)
  · have h2 : s.txState port.val buf.val ≠ txArbitrating := fun e => by
      have : s.txState port.val buf.val = 2 := e
      omega
    rw [if_neg h2, if_pos (show s.txState port.val buf.val = txPending ∨ s.txState port.val buf.val = txHeld from hst)]
    exact ite_self _

theorem txCancel_held (hst : s.txState port.val buf.val = 1 ∨ s.txState port.val buf.val = 7) : Completes (.txCancel who port buf now) s fun t =>
    t.txState port.val buf.val = 5 ∧ (s.txState port.val buf.val = 7 → t.rd (Obj.FBC_TXB_LAST_ERR.ij port.val buf.val) = 7) := by
  refine .of_exec (exec_txCancel h) ?_
  have hc : ((s.advance now).cancelTx port.val buf.val).txState port.val buf.val = 5 :=
    ((s.advance now).cancelTx_state port.isLt buf.isLt).trans (if_pos hst)
  have hne : ((s.advance now).cancelTx port.val buf.val).txState port.val buf.val ≠ 1 := by rw [hc]; decide
  refine ⟨(State.select_state port.isLt buf.isLt hne).trans hc, fun h7 => ?_⟩
  have hw := (((s.advance now).cancelTx port.val buf.val).select_work (p := port.val)).rd
  obtain ⟨-, k2, -⟩ := selectKeys_buf port.isLt buf.isLt (l := ((s.advance now).cancelTx port.val buf.val).bufsIn port.val 1)
    fun hm => hne (State.mem_bufsIn.mp hm).2
  rw [hw _ k2, State.cancelTx_eq, if_neg (show ¬ (s.advance now).txState port.val buf.val = txPending from fun e => absurd (h7.symm.trans e) (by decide)),
    if_pos (show (s.advance now).txState port.val buf.val = txHeld from h7)]
  exact ((s.advance now).rd_endTx_cancelled port.isLt buf.isLt 7).2

theorem txCancel_noted (hst : s.txState port.val buf.val = 2) : Completes (.txCancel who port buf now) s fun t =>
    t.txState port.val buf.val = 2 ∧ (t.txReq port.val buf.val).cancel = true := by
  refine .of_exec (exec_txCancel h) ?_
  have he : (s.advance now).cancelTx port.val buf.val =
      (s.advance now).putTxReq port.val buf.val { (s.advance now).txReq port.val buf.val with cancel := true, again := false } := by
    rw [State.cancelTx_eq, show (s.advance now).txState port.val buf.val = 2 from hst]
    rfl
  rw [he]
  have h2 : ((s.advance now).putTxReq port.val buf.val { (s.advance now).txReq port.val buf.val with cancel := true, again := false }).txState
      port.val buf.val = 2 := hst
  have hx := State.txReq_putTxReq (s.advance now) port.val buf.val { (s.advance now).txReq port.val buf.val with cancel := true, again := false }
  generalize (s.advance now).putTxReq port.val buf.val { (s.advance now).txReq port.val buf.val with cancel := true, again := false } = u at h2 hx
  have hne : u.txState port.val buf.val ≠ 1 := by rw [h2]; decide
  exact ⟨(State.select_state port.isLt buf.isLt hne).trans h2, by rw [State.select_txReq hne, hx]⟩

end

/-- The conditions of a periodic trigger. -/
theorem exec_txPeriodTrigger : exec (.txPeriodTrigger port buf now) s = .next
    (if (s.bufOn port.val buf.val && s.rd (Obj.FBC_TXB_CTRL_TRIGGER.ij port.val buf.val) == 3 &&
        (s.advance now).floorTime % (s.rd (Obj.FBC_TXB_PERIOD.ij port.val buf.val) * 1000000) == 0) = true then
      ((s.advance now).compose port.val buf.val).request port.val buf.val else s.advance now) := rfl

theorem txPeriodTrigger_early (h : ¬ (s.bufOn port.val buf.val = true ∧ s.rd (Obj.FBC_TXB_CTRL_TRIGGER.ij port.val buf.val) = 3 ∧
      (s.advance now).floorTime % (s.rd (Obj.FBC_TXB_PERIOD.ij port.val buf.val) * 1000000) = 0)) :
    Completes (.txPeriodTrigger port buf now) s fun t => t = s.advance now := by
  refine .of_exec exec_txPeriodTrigger (if_neg ?_)
  simpa [Bool.and_eq_true, beq_iff_eq, and_assoc] using h

theorem txPeriodTrigger_due (h : s.bufOn port.val buf.val = true ∧ s.rd (Obj.FBC_TXB_CTRL_TRIGGER.ij port.val buf.val) = 3 ∧
      (s.advance now).floorTime % (s.rd (Obj.FBC_TXB_PERIOD.ij port.val buf.val) * 1000000) = 0) :
    Completes (.txPeriodTrigger port buf now) s fun t => Requested (s.advance now) t port.val buf.val ∧
      t.bufData port.val buf.val = s.composed port.val buf.val % 2 ^ 512 := by
  obtain ⟨hOn, htr, hper⟩ := h
  have hc := (s.advance now).compose_composed port.val buf.val
  have he : exec (.txPeriodTrigger port buf now) s = .next (((s.advance now).compose port.val buf.val).request port.val buf.val) := by
    rw [exec_txPeriodTrigger, hOn, htr, hper]
    rfl
  refine .of_exec he ?_
  generalize (s.advance now).compose port.val buf.val = u at hc
  have hu : u.bufOn port.val buf.val = true := (congrArg (· == 1) (hc.rd _ dataKeys_buf.2.1)).trans hOn
  exact ⟨hc.requested (State.request_requested port.isLt buf.isLt hu), ((u.request_work port.isLt buf.isLt).rd.bufData buf.isLt).trans hc.data⟩

end

/-! ### Attempts that succeed -/

section
variable {port : Fin 24} {now : Nat} {s : State} {n : Nat}

theorem canTx_none (h : (s.port port.val).arb = none) : (Completes (.canTxSuccess port now) s fun t => t = s.advance now) ∧
    (Completes (.canArbLost port now) s fun t => t = s.advance now) ∧
    ∀ ev, Completes (.canTxError port ev now) s fun t => t = s.advance now := by
  have h' : ((s.advance now).port port.val).arb = none := h
  refine ⟨.of_exec rfl ?_, .of_exec rfl ?_, fun ev => .of_exec rfl ?_⟩
  · unfold canTxSuccess
    rw [h']
  · unfold canArbLost
    rw [h']
  · unfold canTxError
    rw [h']

theorem canTxSuccess_sent (h : (s.port port.val).arb = some n) (hn : n < 32) (ha : (s.txReq port.val n).again = false) :
    Completes (.canTxSuccess port now) s fun t => let p := port.val
      let x := s.txReq p n
      t.txState p n = 3 ∧ t.rd (Obj.FBC_TXB_EVT_SENT.ij p n) = 1 ∧
        t.rd (Obj.FBC_TXB_LAST_ERR.ij p n) = 0 ∧ t.rd (Obj.FBC_TEC.i p) = (s.rd (Obj.FBC_TEC.i p) - 1) % 2 ^ 9 ∧
        t.rd (Obj.FBC_TXB_TX_COUNT.ij p n) = (s.rd (Obj.FBC_TXB_TX_COUNT.ij p n) + 1) % 2 ^ 32 ∧
        t.rd (Obj.FBC_TX_FRAMES.i p) = (s.rd (Obj.FBC_TX_FRAMES.i p) + 1) % 2 ^ 32 ∧
        ∃ sof, x.selected ≤ sof ∧ sof ≤ max x.selected (s.advance now).floorTime ∧ t.rd (Obj.FBC_TXB_STAMP.ij p n) = sof / 1000 % 2 ^ 32 ∧
          Out.can p { (x.copy.getD (s.bufFrame p n)) with sof := sof } ∈ t.sent := by
  have h' : ((s.advance now).port port.val).arb = some n := h
  refine .of_exec (congrArg Host.Outcome.next (canTxSuccess_some h')) ?_
  obtain ⟨hlo, hhi⟩ := (s.advance now).sofOf_bounds port.val n
  have hs := (s.advance now).draw.2.stampTx_stamped port.val n ((s.advance now).sofOf port.val n).1
  generalize ((s.advance now).sofOf port.val n).1 = sof at hlo hhi hs
  have ha' : (((s.advance now).draw.2.stampTx port.val n sof).txReq port.val n).again = false := by
    rw [State.txReq_congr hs.fbc]
    exact ha
  have ht := State.sent_shown port.isLt hn ha'
  dsimp only at ht ⊢
  generalize (s.advance now).draw.2.stampTx port.val n sof = u at hs ht
  obtain ⟨t1, t2, t3, t4, t5, t6, t7, t8⟩ := ht
  exact ⟨t1, t2, t3, t4.trans hs.tec, by rw [t5, hs.txCount]; rfl, t6.trans hs.txFrames, sof, hlo, hhi, t7.trans hs.stamp, t8.subset hs.said⟩

end

end Sys2Proof.Proofs
end

section
/-!
SUPPORT. The proof of O41: attempts that fail or lose arbitration, and recovery (spec/10 R265, R268; spec/11 R279 to R284).
-/
namespace Sys2Proof.Machine
open Sys2Proof.Claims

/-! ### The end of a failed attempt -/

section
variable {p b : Nat} {s u : State}

/-- What follows a failed attempt: bus-off, or the judgement of the counters and a selection. -/
def State.afterFailure (u : State) (p : Nat) (off : Bool) : State := if off then u.enterBusOff p else (u.judgeErrors p).select p

/-- What follows leaves a buffer whose request has ended, and the port's counters. -/
theorem State.afterFailure_ended (hp : p < 24) (hb : b < 32) (off : Bool) (h1 : u.txState p b ≠ 1) (h2 : u.txState p b ≠ 2) :
    (u.afterFailure p off).txState p b = u.txState p b ∧
    (u.afterFailure p off).rd (Obj.FBC_TXB_LAST_ERR.ij p b) = u.rd (Obj.FBC_TXB_LAST_ERR.ij p b) ∧
    (u.afterFailure p off).rd (Obj.FBC_TXB_EVT_FAIL.ij p b) = u.rd (Obj.FBC_TXB_EVT_FAIL.ij p b) := by
  unfold State.afterFailure
  split
  · have hbo := u.enterBusOff_busOff p
    refine ⟨(hbo.held b hb).trans (if_neg (not_or.mpr ⟨h1, h2⟩)), hbo.lastErr b hb, hbo.fail b hb⟩
  · have hj := u.judgeErrors_work hp
    have hst : (u.judgeErrors p).txState p b = u.txState p b := hj.rd _ (judgeKeys_buf hb (by simp))
    obtain ⟨k1, k2, -, -, k5⟩ := selectKeys_buf hp hb (l := (u.judgeErrors p).bufsIn p 1) fun hm => h1 (hst ▸ (State.mem_bufsIn.mp hm).2)
    have hs := ((u.judgeErrors p).select_work (p := p)).rd
    exact ⟨(hs _ k1).trans hst, (hs _ k2).trans (hj.rd _ (judgeKeys_buf hb (by simp))), (hs _ k5).trans (hj.rd _ (judgeKeys_buf hb (by simp)))⟩

theorem State.afterFailure_counters (hp : p < 24) (off : Bool) : (u.afterFailure p off).rd (Obj.FBC_TEC.i p) = u.rd (Obj.FBC_TEC.i p) ∧
    (u.afterFailure p off).rd (Obj.FBC_ERR_FRAMES.i p) = u.rd (Obj.FBC_ERR_FRAMES.i p) := by
  unfold State.afterFailure
  split
  · have hbo := u.enterBusOff_busOff p
    exact ⟨hbo.tec, hbo.errFrames⟩
  · have hj := u.judgeErrors_work hp
    have hs := (u.judgeErrors p).select_any hp
    exact ⟨(hs.rd _ (requestKeys_port hp (by simp))).trans (hj.rd _ (judgeKeys_port hp (by simp))),
      (hs.rd _ (requestKeys_port hp (by simp))).trans (hj.rd _ (judgeKeys_port hp (by simp)))⟩

/-- A one-shot request fails. -/
theorem State.attemptFailed_oneShot (hp : p < 24) (hb : b < 32) (h1 : u.oneShot p b = true) (ha : (u.txReq p b).again = false) {err : Nat} (he : err < 16)
    (suspect off : Bool) : (u.attemptFailed p b err suspect off).txState p b = 4 ∧
      (u.attemptFailed p b err suspect off).rd (Obj.FBC_TXB_EVT_FAIL.ij p b) = 1 ∧
      (u.attemptFailed p b err suspect off).rd (Obj.FBC_TXB_LAST_ERR.ij p b) = if suspect then 6 else if off then 7 else err := by
  rw [State.attemptFailed_eq, if_pos h1]
  obtain ⟨e1, e2, -, e4⟩ := u.rd_endTx hp hb (if suspect then 6 else if off then 7 else err) suspect (st := txFailed) (.inl ha)
  refine ⟨e1, e4 (.inl rfl), e2.trans ?_⟩
  split
  · rfl
  · split
    · rfl
    · exact Nat.mod_eq_of_lt he

/-- A request that is not one-shot, with retries left and no cancel, is retried. -/
theorem State.attemptFailed_retried (h1 : u.oneShot p b = false) (hl : (u.txReq p b).failures + 1 ≤ u.retryLimit p b)
    (hc : (u.txReq p b).cancel = false) (err : Nat) (suspect : Bool) : u.attemptFailed p b err suspect false = u.retryTx p b err := by
  rw [State.attemptFailed_eq, if_neg (by rw [h1]; exact Bool.false_ne_true), if_neg (Nat.not_lt.mpr hl), if_neg (by rw [hc]; exact Bool.false_ne_true),
    Bool.and_false]
  rfl

end

theorem State.recordTop_fbc (s : State) (p st cause : Nat) : (s.recordTop p st cause).fbc = s.fbc := by
  unfold State.recordTop
  split <;> exact State.wrs_fbc _ _

theorem State.portEvent_fbc (s : State) (p trigger : Nat) : (s.portEvent p trigger).fbc = s.fbc := (s.portEvent_raised p trigger).fbc

theorem State.judgeErrors_fbc (s : State) (p : Nat) : (s.judgeErrors p).fbc = s.fbc := by
  unfold State.judgeErrors
  dsimp only
  split
  · exact (State.portEvent_fbc _ _ _).trans (State.recordTop_fbc _ _ _ _)
  · split
    · exact State.portEvent_fbc _ _ _
    · rfl

/-- What CAN_TX_ERROR leaves, from the state after the clock has run on. -/
structure TxFailed (s t : State) (p n : Nat) (ev : TxError) (new : Nat) : Prop where
  tec : t.rd (Obj.FBC_TEC.i p) = min new 256
  errFrames : t.rd (Obj.FBC_ERR_FRAMES.i p) = (s.rd (Obj.FBC_ERR_FRAMES.i p) + 1) % 2 ^ 32
  ended : s.oneShot p n = true → (s.txReq p n).again = false → t.txState p n = 4 ∧ t.rd (Obj.FBC_TXB_EVT_FAIL.ij p n) = 1 ∧
    t.rd (Obj.FBC_TXB_LAST_ERR.ij p n) = (if ev.collision then 6 else if 255 < new then 7 else ev.err.val)
  retried : s.oneShot p n = false → (s.txReq p n).failures + 1 ≤ s.retryLimit p n → (s.txReq p n).cancel = false → new ≤ 255 →
    s.mayTransmit p n = true → (t.txReq p n).failures = (s.txReq p n).failures + 1 ∧ t.txState p n ∈ [1, 2] ∧
      t.rd (Obj.FBC_TXB_LAST_ERR.ij p n) = ev.err.val
  busOff : 255 < new → t.errState p = 2 ∧ t.rd (Obj.FBC_EVT_BUSOFF.i p) = 1 ∧
    t.rd (Obj.FBC_BUSOFF_COUNT.i p) = (s.rd (Obj.FBC_BUSOFF_COUNT.i p) + 1) % 2 ^ 32 ∧
    ∀ m, m < 32 → m ≠ n → s.txState p m = 1 → t.txState p m = 7

theorem ErrorCounted.failed {s u : State} {p n new : Nat} (hc : ErrorCounted s u p n new) (hp : p < 24) (hn : n < 32) (ev : TxError) :
    TxFailed s ((u.attemptFailed p n ev.err.val ev.collision (decide (255 < new))).afterFailure p (decide (255 < new))) p n ev new := by
  have ha := hc.apart
  have hwork := u.attemptFailed_work hp hn ev.err.val ev.collision (decide (255 < new))
  have hany := hwork.mono (requestKeys_of_end (p := p) hn)
  obtain ⟨c1, c2⟩ := State.afterFailure_counters (u := u.attemptFailed p n ev.err.val ev.collision (decide (255 < new))) hp (decide (255 < new))
  refine ⟨c1.trans ((hany.rd _ (requestKeys_port hp (by simp))).trans hc.tec), c2.trans ((hany.rd _ (requestKeys_port hp (by simp))).trans hc.errFrames),
    fun hone hag => ?_, fun hone hlim hcan hnew hmay => ?_, fun hoff => ?_⟩
  · obtain ⟨a1, a2, a3⟩ := State.attemptFailed_oneShot hp hn (ha.oneShot.trans hone) (by rw [ha.txReq]; exact hag) ev.err.isLt ev.collision
      (decide (255 < new))
    obtain ⟨f1, f2, f3⟩ := State.afterFailure_ended hp hn (decide (255 < new)) (by rw [a1]; decide) (by rw [a1]; decide)
    refine ⟨f1.trans a1, f3.trans a2, f2.trans (a3.trans ?_)⟩
    simp only [decide_eq_true_eq]
  · have hdec : decide (255 < new) = false := decide_eq_false (by omega)
    rw [hdec] at hwork ⊢
    rw [State.attemptFailed_retried (ha.oneShot.trans hone) (by rw [ha.txReq, ha.retryLimit]; exact hlim) (by rw [ha.txReq]; exact hcan)] at hwork ⊢
    obtain ⟨r1, r2, r3⟩ := u.retryTx_spec (p := p) (b := n) ev.err.val
    have hm := (hwork.rd.mono (requestKeys_of_end (p := p) hn)).mayTransmit hp hn
    generalize u.retryTx p n ev.err.val = v at r1 r2 r3 hm
    have hj := v.judgeErrors_work hp
    have hst : (v.judgeErrors p).txState p n = 1 := (hj.rd _ (judgeKeys_buf hn (by simp))).trans r1
    have hmj : (v.judgeErrors p).mayTransmit p n = true := by
      rw [← hmay, ← ha.mayTransmit, ← hm]
      refine hj.rd.mayTransmit_of (fun r hr => judgeKeys_buf hn ?_) ?_
      · simp only [List.mem_cons, List.not_mem_nil, or_false] at hr ⊢
        tauto
      · simp only [List.forall_mem_cons, List.not_mem_nil, false_implies, implies_true, and_true]
        exact ⟨fun i hi => (judgeKeys_range hp hi).1, fun i hi => (judgeKeys_range hp hi).2.1, fun i hi => (judgeKeys_range hp hi).2.2.1,
          fun i hi => (judgeKeys_range hp hi).2.2.2.1, fun i hi => (judgeKeys_range hp hi).2.2.2.2⟩
    obtain ⟨p1, p2, p3⟩ := State.select_passed hp hn hst hmj
    have hx : ((v.judgeErrors p).txReq p n).failures = (s.txReq p n).failures + 1 := by
      rw [State.txReq_congr (v.judgeErrors_fbc p), r3, ha.txReq]
    exact ⟨p2.trans hx, p1, p3.trans ((hj.rd _ (judgeKeys_buf hn (by simp))).trans (r2.trans (Nat.mod_eq_of_lt ev.err.isLt)))⟩
  · rw [State.afterFailure, decide_eq_true hoff, if_pos rfl]
    have hbo := (u.attemptFailed p n ev.err.val ev.collision true).enterBusOff_busOff p
    rw [decide_eq_true hoff] at hwork hany
    refine ⟨hbo.errState, hbo.evt, hbo.count.trans ?_, fun m hm hmn h1 => ?_⟩
    · rw [hany.rd _ (requestKeys_port hp (by simp)), ha.count]
    · have h1' := (hwork.rd _ (endKeys_state hp hm hmn.symm)).trans ((ha.txState m).trans h1)
      exact (hbo.held m hm).trans (if_pos (.inl h1'))

theorem State.canTxError_failed {s : State} {p n : Nat} (hp : p < 24) (hn : n < 32) (h : (s.port p).arb = some n) (ev : TxError) :
    TxFailed s (canTxError p ev s) p n ev (s.rd (Obj.FBC_TEC.i p) + (if ev.noTecChange then 0 else 8)) := by
  rw [canTxError_some ev h]
  exact (s.countError_counted p n _).failed hp hn ev

/-! ### Arbitration lost -/

/-- What CAN_ARB_LOST counts. -/
def State.countLost (s : State) (p b : Nat) : State := (s.inc (Obj.FBC_ARB_LOST.i p)).perf 9 0x02 (s.bufOwner p b)

theorem canArbLost_some {s : State} {p b : Nat} (h : (s.port p).arb = some b) : canArbLost p s =
    let t := s.countLost p b
    if s.oneShot p b then t.endTx p b txArbLost 0
    else if (s.txReq p b).cancel then t.endTx p b txCancelled 0
    else (t.putPort p { t.port p with arb := none }).wr (Obj.FBC_TXB_STATE.ij p b) txPending := by
  unfold canArbLost
  rw [h]
  rfl

/-- What CAN_ARB_LOST leaves. -/
structure ArbLost (s t : State) (p n : Nat) : Prop where
  lost : t.rd (Obj.FBC_ARB_LOST.i p) = (s.rd (Obj.FBC_ARB_LOST.i p) + 1) % 2 ^ 32
  tec : t.rd (Obj.FBC_TEC.i p) = s.rd (Obj.FBC_TEC.i p)
  arb : (t.port p).arb = none
  failed : s.oneShot p n = true → (s.txReq p n).again = false → t.txState p n = 6 ∧ t.rd (Obj.FBC_TXB_EVT_FAIL.ij p n) = 1
  cancelled : s.oneShot p n = false → (s.txReq p n).cancel = true → t.txState p n = 5
  pends : s.oneShot p n = false → (s.txReq p n).cancel = false → t.txState p n = 1 ∧ t.txReq p n = s.txReq p n

theorem State.countLost_spec (s : State) (p b : Nat) : (s.countLost p b).rd (Obj.FBC_ARB_LOST.i p) = (s.rd (Obj.FBC_ARB_LOST.i p) + 1) % 2 ^ 32 ∧
    (s.countLost p b).rd (Obj.FBC_TEC.i p) = s.rd (Obj.FBC_TEC.i p) ∧ (s.countLost p b).fbc = s.fbc := by
  refine ⟨?_, ?_, State.perf_fbc _ _ _ _ _⟩
  · rw [State.countLost, State.rd_congr (State.perf_regs _ _ _ _ _), State.inc, State.rd_wr_self]
    rfl
  · rw [State.countLost, State.rd_congr (State.perf_regs _ _ _ _ _), State.inc, State.rd_wr_ne _ _ _ _ (portFields_ne p).2.2.1]

theorem State.canArbLost_lost {s : State} {p n : Nat} (hp : p < 24) (hn : n < 32) (h : (s.port p).arb = some n) :
    ArbLost s (canArbLost p s) p n := by
  rw [canArbLost_some h]
  obtain ⟨c1, c2, c3⟩ := s.countLost_spec p n
  dsimp only
  generalize s.countLost p n = u at c1 c2 c3
  have harb : (u.port p).arb = some n := (congrArg CanPort.arb (State.port_congr c3 p)).trans h
  have hx : u.txReq p n = s.txReq p n := State.txReq_congr c3 p n
  have hend : ∀ st, (u.endTx p n st 0).rd (Obj.FBC_ARB_LOST.i p) = (s.rd (Obj.FBC_ARB_LOST.i p) + 1) % 2 ^ 32 ∧
      (u.endTx p n st 0).rd (Obj.FBC_TEC.i p) = s.rd (Obj.FBC_TEC.i p) ∧ ((u.endTx p n st 0).port p).arb = none := fun st => by
    have hw := (u.endTx_any hp hn st 0 false).rd
    exact ⟨(hw _ (requestKeys_port hp (by simp))).trans c1, (hw _ (requestKeys_port hp (by simp))).trans c2,
      (State.endTx_arb _ _ _ _ _ _).trans (if_pos harb)⟩
  by_cases hone : s.oneShot p n = true
  · rw [if_pos hone]
    obtain ⟨e1, e2, e3⟩ := hend txArbLost
    refine ⟨e1, e2, e3, fun _ ha => ?_, fun h0 => absurd (hone.symm.trans h0) (by decide), fun h0 => absurd (hone.symm.trans h0) (by decide)⟩
    obtain ⟨f1, -, -, f4⟩ := u.rd_endTx hp hn 0 false (st := txArbLost) (.inl (by rw [hx]; exact ha))
    exact ⟨f1, f4 (.inr rfl)⟩
  · rw [if_neg hone]
    by_cases hc : (s.txReq p n).cancel = true
    · rw [if_pos hc]
      obtain ⟨e1, e2, e3⟩ := hend txCancelled
      exact ⟨e1, e2, e3, fun h0 => absurd h0 hone, fun _ _ => (u.rd_endTx_cancelled hp hn 0).1, fun _ h0 => absurd (hc.symm.trans h0) (by decide)⟩
    · rw [if_neg hc]
      have hk := portFields_buf_ne p n
      simp only [List.forall_mem_cons, List.not_mem_nil, false_implies, implies_true, and_true] at hk
      obtain ⟨⟨-, -, -, k1, -⟩, -, -, -, -, -, k4, -⟩ := hk
      refine ⟨(State.rd_wr_ne _ _ _ _ k4.symm).trans c1, (State.rd_wr_ne _ _ _ _ k1.symm).trans c2, ?_, fun h0 => absurd h0 hone,
        fun _ h0 => absurd h0 hc, fun _ _ => ⟨State.rd_wr_self _ _ _, ?_⟩⟩
      · rw [State.port_congr (State.wr_fbc _ _ _), State.port_putPort]
      · rw [State.txReq_congr (State.wr_fbc _ _ _), State.txReq, State.port_putPort]
        exact hx

/-! ### Recovery -/

/-- The fields that the end of a recovery shows. -/
def State.showRecovery (s : State) (p : Nat) : State :=
  (s.wrs [(Obj.FBC_TEC.i p, 0), (Obj.FBC_REC.i p, 0), (Obj.FBC_ERR_STATE.i p, 0), (Obj.FBC_RECOVER_TIME.i p, s.floorTime)]).set1
    (Obj.FBC_EVT_RECOVERED.i p)

/-- The answer to those who asked for a recovery. -/
def State.tellRecovery (s u : State) (p : Nat) : State := (u.portEvent p 0x0606).finish (.recover p) St.ok (le 8 s.floorTime)

/-- Every request that bus-off held pends again. -/
def State.freeHeld (s : State) (p : Nat) (l : List Nat) : State :=
  l.foldl (fun t b => (t.putTxReq p b { (t.txReq p b) with failures := 0, copy := none }).wrs
    [(Obj.FBC_TXB_STATE.ij p b, txPending), (Obj.FBC_TXB_ATTEMPTS.ij p b, 0)]) s

theorem recoveryEnd_eq (p : Nat) (s : State) : recoveryEnd p s = if s.errState p = 3 then
    let t := s.tellRecovery (s.showRecovery p) p
    (t.freeHeld p (t.bufsIn p txHeld)).select p else s := rfl

theorem State.freeHeld_work {p : Nat} (hp : p < 24) (s : State) {l : List Nat} (hl : ∀ b ∈ l, b < 32) : CanWork p (requestKeys p) s (s.freeHeld p l) := by
  refine .foldl (.refl s) fun u b hb => ?_
  obtain ⟨h1, -, h3, -⟩ := bufKeys_mem p b
  refine CanWork.mono (.wrs (.putTxReq (.refl u) _ _) ?_) (requestKeys_of_end (hl b hb))
  simp only [List.forall_mem_cons, List.not_mem_nil, false_implies, implies_true, and_true]
  exact ⟨endKeys_of_buf h1, endKeys_of_buf h3⟩

theorem recoveryFields_ne (p : Nat) : [(Obj.FBC_TEC.i p).key, (Obj.FBC_REC.i p).key, (Obj.FBC_ERR_STATE.i p).key, (Obj.FBC_RECOVER_TIME.i p).key,
    (Obj.FBC_EVT_RECOVERED.i p).key].Nodup ∧ ∀ r ∈ [Obj.FBC_TEC, Obj.FBC_REC, Obj.FBC_ERR_STATE, Obj.FBC_RECOVER_TIME, Obj.FBC_EVT_RECOVERED],
      logKey (r.i p).key = false := by
  simp [logKey, Fld.key, Row.i, Row.b, Row.at, Obj.FBC_TEC, Obj.FBC_REC, Obj.FBC_ERR_STATE, Obj.FBC_RECOVER_TIME, Obj.FBC_EVT_RECOVERED,
    Obj.EVR_DROPPED, Obj.EVR_EVT_DROPPED]
  omega

theorem State.rd_showRecovery (s : State) (p : Nat) : (s.showRecovery p).rd (Obj.FBC_TEC.i p) = 0 ∧ (s.showRecovery p).rd (Obj.FBC_REC.i p) = 0 ∧
    (s.showRecovery p).rd (Obj.FBC_ERR_STATE.i p) = 0 ∧ (s.showRecovery p).rd (Obj.FBC_RECOVER_TIME.i p) = s.floorTime % 2 ^ 64 ∧
    (s.showRecovery p).rd (Obj.FBC_EVT_RECOVERED.i p) = 1 := by
  have hn := (recoveryFields_ne p).1
  have hall : ∀ r ∈ [Obj.FBC_TEC, Obj.FBC_REC, Obj.FBC_ERR_STATE, Obj.FBC_RECOVER_TIME], (Obj.FBC_EVT_RECOVERED.i p).key ≠ (r.i p).key := by
    simp only [List.nodup_cons, List.mem_cons, not_or, List.not_mem_nil, or_false, not_false_eq_true, List.nodup_nil, and_true] at hn
    simp only [List.forall_mem_cons, List.not_mem_nil, false_implies, implies_true, and_true]
    obtain ⟨⟨-, -, -, h1⟩, ⟨-, -, h2⟩, ⟨-, h3⟩, h4⟩ := hn
    exact ⟨Ne.symm h1, Ne.symm h2, Ne.symm h3, Ne.symm h4⟩
  have hnd : (([(Obj.FBC_TEC.i p, 0), (Obj.FBC_REC.i p, 0), (Obj.FBC_ERR_STATE.i p, 0), (Obj.FBC_RECOVER_TIME.i p, s.floorTime)] :
      List (Fld × Nat)).map fun x => x.1.key).Nodup := hn.sublist (by simp)
  refine ⟨?_, ?_, ?_, ?_, State.rd_wr_self _ _ _⟩
  · exact (State.rd_wr_ne _ _ _ _ (hall _ (by simp))).trans ((State.rd_wrs_mem hnd (v := 0) (by simp)).trans rfl)
  · exact (State.rd_wr_ne _ _ _ _ (hall _ (by simp))).trans ((State.rd_wrs_mem hnd (v := 0) (by simp)).trans rfl)
  · exact (State.rd_wr_ne _ _ _ _ (hall _ (by simp))).trans ((State.rd_wrs_mem hnd (v := 0) (by simp)).trans rfl)
  · exact (State.rd_wr_ne _ _ _ _ (hall _ (by simp))).trans (State.rd_wrs_mem hnd (v := s.floorTime) (by simp))

theorem State.rd_tellRecovery (s u : State) (p : Nat) {g : Fld} (h : logKey g.key = false) : (s.tellRecovery u p).rd g = u.rd g :=
  (State.rd_finish _ _ _ _ ((unlogged_iff g).mpr h)).trans (State.rd_portEvent _ _ _ h)

theorem State.rd_showRecovery_state (s : State) (p n : Nat) : (s.showRecovery p).txState p n = s.txState p n := by
  have hk : ∀ r ∈ [Obj.FBC_TEC, Obj.FBC_REC, Obj.FBC_ERR_STATE, Obj.FBC_RECOVER_TIME, Obj.FBC_EVT_RECOVERED],
      (r.i p).key ≠ (Obj.FBC_TXB_STATE.ij p n).key := by
    simp only [List.forall_mem_cons, List.not_mem_nil, false_implies, implies_true, and_true]
    simp [Fld.key, Row.i, Row.ij, Row.at, Obj.FBC_TEC, Obj.FBC_REC, Obj.FBC_ERR_STATE, Obj.FBC_RECOVER_TIME, Obj.FBC_EVT_RECOVERED, Obj.FBC_TXB_STATE]
    omega
  simp only [List.forall_mem_cons, List.not_mem_nil, false_implies, implies_true, and_true] at hk
  obtain ⟨k1, k2, k3, k4, k5⟩ := hk
  refine (State.rd_wr_ne _ _ _ _ k5).trans (State.rd_wrs_ne ?_)
  simp only [List.forall_mem_cons, List.not_mem_nil, false_implies, implies_true, and_true]
  exact ⟨k1, k2, k3, k4⟩

theorem State.bufsIn_congr {s t : State} {p : Nat} (h : ∀ n, n < 32 → t.txState p n = s.txState p n) (st : Nat) : t.bufsIn p st = s.bufsIn p st :=
  List.filter_congr fun n hn => congrArg (· == st) (h n (List.mem_range.mp hn))

theorem State.wrs_sessions (s : State) (l : List (Fld × Nat)) : (s.wrs l).sessions = s.sessions := by rw [State.wrs_eq]

theorem State.wrs_sent (s : State) (l : List (Fld × Nat)) : (s.wrs l).sent = s.sent := by rw [State.wrs_eq]

theorem Raised.sessions {n : Nat} {s t : State} (h : Raised n s t) : t.sessions = s.sessions := by rw [h.eq]

theorem Raised.sent {n : Nat} {s t : State} (h : Raised n s t) : t.sent = s.sent := by rw [h.eq]

/-- What RECOVERY_END leaves. -/
theorem recoveryEnd_ends {s : State} {p : Nat} (hp : p < 24) (h : s.errState p = 3) : let t := recoveryEnd p s
    t.errState p = 0 ∧ t.rd (Obj.FBC_TEC.i p) = 0 ∧ t.rd (Obj.FBC_REC.i p) = 0 ∧ t.rd (Obj.FBC_RECOVER_TIME.i p) = s.floorTime % 2 ^ 64 ∧
      t.rd (Obj.FBC_EVT_RECOVERED.i p) = 1 ∧ (Calm s p → s.bufsIn p 7 = [] → Finishes s t (.recover p) 0 (le 8 s.floorTime)) := by
  dsimp only
  rw [recoveryEnd_eq, if_pos h]
  dsimp only
  obtain ⟨r1, r2, r3, r4, r5⟩ := s.rd_showRecovery p
  have hl := (recoveryFields_ne p).2
  have hst : ∀ n, n < 32 → (s.tellRecovery (s.showRecovery p) p).txState p n = s.txState p n := fun n hn =>
    (State.rd_tellRecovery _ _ _ (by have := (toldKeys_buf hp hn).1; simp only [toldKeys, Bool.or_eq_false_iff] at this; exact this.2)).trans
      (s.rd_showRecovery_state p n)
  have hfin : Finishes s (s.tellRecovery (s.showRecovery p) p) (.recover p) 0 (le 8 s.floorTime) := by
    have hr := State.portEvent_raised (s.showRecovery p) p 0x0606
    refine finishes_finish _ _ _ ?_ ?_ ?_
    · rw [hr.waiters, State.showRecovery, State.set1, State.wr_waiters, State.wrs_waiters]
    · rw [hr.sessions, State.showRecovery, State.set1, State.wr_sessions, State.wrs_sessions]
    · rw [hr.sent, State.showRecovery, State.set1, State.wr_sent, State.wrs_sent]
  have htell : ∀ r ∈ [Obj.FBC_TEC, Obj.FBC_REC, Obj.FBC_ERR_STATE, Obj.FBC_RECOVER_TIME, Obj.FBC_EVT_RECOVERED],
      (s.tellRecovery (s.showRecovery p) p).rd (r.i p) = (s.showRecovery p).rd (r.i p) := fun r hr => State.rd_tellRecovery _ _ _ (hl r hr)
  generalize s.tellRecovery (s.showRecovery p) p = t at hst hfin htell
  have hw := (t.freeHeld_work hp (l := t.bufsIn p txHeld) fun b hb => (State.mem_bufsIn.mp hb).1).trans
    ((t.freeHeld p (t.bufsIn p txHeld)).select_any hp)
  have hall : ∀ r ∈ [Obj.FBC_TEC, Obj.FBC_REC, Obj.FBC_ERR_STATE, Obj.FBC_RECOVER_TIME, Obj.FBC_EVT_RECOVERED],
      ((t.freeHeld p (t.bufsIn p txHeld)).select p).rd (r.i p) = (s.showRecovery p).rd (r.i p) := fun r hr => by
    refine (hw.rd _ (requestKeys_port hp ?_)).trans (htell r hr)
    simp only [List.mem_cons, List.not_mem_nil, or_false] at hr ⊢
    tauto
  refine ⟨(hall _ (by simp)).trans r3, (hall _ (by simp)).trans r1, (hall _ (by simp)).trans r2, (hall _ (by simp)).trans r4,
    (hall _ (by simp)).trans r5, fun hc h7 => ?_⟩
  have hc' : Calm t p := (State.bufsIn_congr hst 1).trans hc
  rw [(State.bufsIn_congr hst txHeld).trans h7]
  rw [show t.freeHeld p [] = t from rfl, State.select_calm hc']
  exact hfin

end Sys2Proof.Machine

namespace Sys2Proof.Proofs
open Sys2Proof.Machine Sys2Proof.Claims

section
variable {port : Fin 24} {now : Nat} {s : State}

theorem canTxError_fails {n : Nat} (ev : TxError) (h : (s.port port.val).arb = some n) (hn : n < 32) :
    Completes (.canTxError port ev now) s fun t =>
      TxFailed s t port.val n ev (s.rd (Obj.FBC_TEC.i port.val) + (if ev.noTecChange then 0 else 8)) := by
  have hf := State.canTxError_failed (s := s.advance now) port.isLt hn h ev
  refine .of_exec rfl ?_
  obtain ⟨h1, h2, h3, h4, h5⟩ := hf
  exact ⟨h1, h2, h3, h4, h5⟩

theorem canArbLost_loses {n : Nat} (h : (s.port port.val).arb = some n) (hn : n < 32) :
    Completes (.canArbLost port now) s fun t => ArbLost s t port.val n := by
  have hf := State.canArbLost_lost (s := s.advance now) port.isLt hn h
  refine .of_exec rfl ?_
  obtain ⟨h1, h2, h3, h4, h5, h6⟩ := hf
  exact ⟨h1, h2, h3, h4, h5, h6⟩

/-- A recovery whose delay has passed. -/
def RecoveryDue (s b : State) (p : Nat) : Prop := s.errState p = 2 ∧ s.on (Obj.FBC_RECOVER_WAIT.i p) = false ∧
  s.rd (Obj.FBC_BUSOFF_TIME.i p) + s.rd (Obj.FBC_RECOVER_DELAY.i p) * 1000000 ≤ b.floorTime

theorem recoveryDelay_iff {s : State} {p now : Nat} : ((s.advance now).errState p = 2 ∧ (! (s.advance now).on (Obj.FBC_RECOVER_WAIT.i p)) = true ∧
    (s.advance now).rd (Obj.FBC_BUSOFF_TIME.i p) + (s.advance now).rd (Obj.FBC_RECOVER_DELAY.i p) * 1000000 ≤ (s.advance now).floorTime) ↔
    RecoveryDue s (s.advance now) p := by
  rw [Bool.not_eq_true']
  exact Iff.rfl

theorem recoveryDelay_expires (h : RecoveryDue s (s.advance now) port.val) : Completes (.recoveryDelayExpiry port now) s fun t =>
    t.errState port.val = 3 ∧ t.rd (Obj.FBC_RECOVER_WAIT.i port.val) = 0 ∧
      Kept [Obj.FBC_ERR_STATE.i port.val, Obj.FBC_RECOVER_WAIT.i port.val] s t := by
  have he : exec (.recoveryDelayExpiry port now) s = .next ((s.advance now).startRecovery port.val) :=
    congrArg Host.Outcome.next (if_pos (recoveryDelay_iff.mpr h))
  exact .of_exec he ((s.advance now).startRecovery_spec port.val)

theorem recoveryDelay_waits (h : ¬ RecoveryDue s (s.advance now) port.val) :
    Completes (.recoveryDelayExpiry port now) s fun t => t = s.advance now :=
  .of_exec rfl (if_neg fun e => h (recoveryDelay_iff.mp e))

theorem recoveryEnd_idle (h : s.errState port.val ≠ 3) : Completes (.recoveryEnd port now) s fun t => t = s.advance now :=
  .of_exec rfl (if_neg h)

theorem recoveryEnd_recovers (h : s.errState port.val = 3) : Completes (.recoveryEnd port now) s fun t =>
    t.errState port.val = 0 ∧ t.rd (Obj.FBC_TEC.i port.val) = 0 ∧ t.rd (Obj.FBC_REC.i port.val) = 0 ∧
      t.rd (Obj.FBC_RECOVER_TIME.i port.val) = (s.advance now).floorTime % 2 ^ 64 ∧ t.rd (Obj.FBC_EVT_RECOVERED.i port.val) = 1 ∧
      (Calm s port.val → s.bufsIn port.val 7 = [] → Finishes s t (.recover port.val) 0 (le 8 (s.advance now).floorTime)) :=
  .of_exec rfl (recoveryEnd_ends (s := s.advance now) port.isLt h)

end

/-- Settles O41: requests, then the ends of attempts, then recovery, each from the rule of the state's operation. -/
theorem canTransmits : Obligations.CanTransmits := by
  unfold Obligations.CanTransmits
  refine ⟨fun who port buf now s => ⟨fun h => ⟨txreq_denied h, txCancel_denied h⟩, fun h => ⟨txreq_requested h, txreq_stands h, fun hst => ?_,
      fun hst => ?_, txCancel_noted h⟩, txPeriodTrigger_early, txPeriodTrigger_due⟩,
    fun port now s => ⟨canTx_none, fun n ha hn hst => ⟨canTxSuccess_sent ha hn, fun ev => ?_, ?_⟩, ⟨recoveryDelay_expires, recoveryDelay_waits⟩,
      recoveryEnd_recovers, recoveryEnd_idle⟩⟩
  case refine_1 =>
    obtain ⟨t, he, h5, -⟩ := txCancel_held h (.inl hst)
    exact ⟨t, he, h5⟩
  case refine_2 =>
    obtain ⟨t, he, h5, h7⟩ := txCancel_held h (.inr hst)
    exact ⟨t, he, h5, h7 hst⟩
  case refine_3 =>
    obtain ⟨t, he, h1, h2, h3, h4, h5⟩ := canTxError_fails ev ha hn
    exact ⟨t, he, h1, h2, h3, h4, h5⟩
  case refine_4 =>
    obtain ⟨t, he, h1, h2, h3, h4, h5, h6⟩ := canArbLost_loses ha hn
    exact ⟨t, he, h1, h2, h3, h4, h5, h6⟩

end Sys2Proof.Proofs
end

section
/-!
SUPPORT. What a CAN port receives (spec/10 R254 to R256, R269 to R276; spec/11 R279, R288, R290, R292): events of a port, errors
detected as a receiver.
-/
namespace Sys2Proof.Machine
open Sys2Proof.Claims

/-! ### The bystander count -/

/-- A disturbed identifier noted. -/
def State.noteDisturbed (s : State) (p id : Nat) (xtd : Bool) : State :=
  let q := s.port p
  s.putPort p { q with disturbed := some (id, xtd), count := if q.disturbed = some (id, xtd) then q.count + 1 else 1 }

/-- The fields of a disturbance that reached its limit. -/
def State.showDisturb (s : State) (p id n lim : Nat) (xtd : Bool) : State :=
  let s2 := if n = lim then s.inc (Obj.FBC_DISTURBS.i p) else s
  (s2.wrs [(Obj.FBC_DIST_LAST_ID.i p, id), (Obj.FBC_DIST_LAST_XTD.i p, b2n xtd), (Obj.FBC_DIST_LAST_COUNT.i p, min n 255)]).set1
    (Obj.FBC_FEVT_DISTURB.i p)

/-- The compartment of the range that holds an identifier. -/
def State.rangeOwner (s : State) (p id : Nat) (xtd : Bool) : Nat :=
  match s.rangeOf p id xtd with
  | some r => s.rd (Obj.FBC_RNG_OWNER.ij p r)
  | none => 0

/-- A disturbance logged, at most once a second. -/
def State.tellDisturb (s t : State) (p id n : Nat) (xtd : Bool) : State :=
  let q1 := t.port p
  if within1s q1.distLogAt s.floorTime then t
  else (t.putPort p { q1 with distLogAt := some s.floorTime }).logAll (if s.rangeOwner p id xtd = 0 then [0] else [0, s.rangeOwner p id xtd]) 0x0608
    (le 1 p ++ le 1 (b2n xtd) ++ le 2 0 ++ le 4 id ++ le 1 (min n 255))

theorem State.disturb_eq (s : State) (p id : Nat) (xtd : Bool) : s.disturb p id xtd =
    let n := if (s.port p).disturbed = some (id, xtd) then (s.port p).count + 1 else 1
    let lim := s.rd (Obj.FBC_FLT_CFG_DISTURB_LIMIT.i p)
    let t := s.noteDisturbed p id xtd
    if lim = 0 ∨ n < lim then t else s.tellDisturb (t.showDisturb p id n lim xtd) p id n xtd := rfl

/-- The fields of a disturbance. -/
def disturbKeys (p k : Nat) : Bool := inPort p 0x128 0x134 k || k == (Obj.FBC_FEVT_DISTURB.i p).key || logKey k

/-- What a disturbance leaves. -/
structure Disturbed (s t : State) (p id : Nat) (xtd : Bool) : Prop where
  rd : Beyond (disturbKeys p) s t
  disturbed : (t.port p).disturbed = some (id, xtd)
  count : (t.port p).count = if (s.port p).disturbed = some (id, xtd) then (s.port p).count + 1 else 1
  limit : s.rd (Obj.FBC_FLT_CFG_DISTURB_LIMIT.i p) ≠ 0 → s.rd (Obj.FBC_FLT_CFG_DISTURB_LIMIT.i p) ≤ (t.port p).count →
    t.rd (Obj.FBC_FEVT_DISTURB.i p) = 1 ∧ t.rd (Obj.FBC_DIST_LAST_COUNT.i p) = min (t.port p).count 255 ∧
    (id < 2 ^ 29 → t.rd (Obj.FBC_DIST_LAST_ID.i p) = id)

theorem disturbKeys_mem (p : Nat) : ∀ r ∈ [Obj.FBC_DISTURBS, Obj.FBC_DIST_LAST_ID, Obj.FBC_DIST_LAST_XTD, Obj.FBC_DIST_LAST_COUNT,
    Obj.FBC_FEVT_DISTURB], disturbKeys p (r.i p).key = true := by
  have hr : ∀ (r : Row) (a lo : Nat), (r.i p).key = 8 * (0x800000 + 0x10000 * p + a) + lo → lo < 32 → 0x128 ≤ a ∧ a + 4 ≤ 0x134 →
      disturbKeys p (r.i p).key = true := by
    intro r a lo hk hlo ha
    rw [hk]
    simp only [disturbKeys, inPort, Bool.or_eq_true, decide_eq_true_eq]
    omega
  simp only [List.forall_mem_cons, List.not_mem_nil, false_implies, implies_true, and_true]
  refine ⟨hr _ 0x128 0 ?_ (by omega) (by omega), hr _ 0x12C 0 ?_ (by omega) (by omega), hr _ 0x12C 29 ?_ (by omega) (by omega),
    hr _ 0x130 0 ?_ (by omega) (by omega), by simp [disturbKeys]⟩ <;>
  · simp [Fld.key, Row.i, Row.at, Obj.FBC_DISTURBS, Obj.FBC_DIST_LAST_ID, Obj.FBC_DIST_LAST_XTD, Obj.FBC_DIST_LAST_COUNT]
    omega

theorem disturbFields_ne (p : Nat) : [(Obj.FBC_DIST_LAST_ID.i p).key, (Obj.FBC_DIST_LAST_XTD.i p).key, (Obj.FBC_DIST_LAST_COUNT.i p).key].Nodup ∧
    (Obj.FBC_FEVT_DISTURB.i p).key ≠ (Obj.FBC_DIST_LAST_COUNT.i p).key ∧ (Obj.FBC_FEVT_DISTURB.i p).key ≠ (Obj.FBC_DIST_LAST_ID.i p).key ∧
    logKey (Obj.FBC_FEVT_DISTURB.i p).key = false ∧ logKey (Obj.FBC_DIST_LAST_COUNT.i p).key = false ∧
    logKey (Obj.FBC_DIST_LAST_ID.i p).key = false := by
  simp [logKey, Fld.key, Row.i, Row.b, Row.at, Obj.FBC_DIST_LAST_ID, Obj.FBC_DIST_LAST_XTD, Obj.FBC_DIST_LAST_COUNT, Obj.FBC_FEVT_DISTURB,
    Obj.EVR_DROPPED, Obj.EVR_EVT_DROPPED]
  omega

/-- What the fields of a disturbance show. -/
structure DisturbShown (s t : State) (p id n : Nat) : Prop where
  rd : Beyond (disturbKeys p) s t
  evt : t.rd (Obj.FBC_FEVT_DISTURB.i p) = 1
  count : t.rd (Obj.FBC_DIST_LAST_COUNT.i p) = min n 255
  id : t.rd (Obj.FBC_DIST_LAST_ID.i p) = id % 2 ^ 29
  fbc : t.fbc = s.fbc

theorem State.showDisturb_shown (s : State) (p id n lim : Nat) (xtd : Bool) : DisturbShown s (s.showDisturb p id n lim xtd) p id n := by
  obtain ⟨hnd, n1, n2, -⟩ := disturbFields_ne p
  have hk := disturbKeys_mem p
  have hfst : Beyond (disturbKeys p) s (if n = lim then s.inc (Obj.FBC_DISTURBS.i p) else s) ∧
      (if n = lim then s.inc (Obj.FBC_DISTURBS.i p) else s).fbc = s.fbc := by
    split
    · exact ⟨(Beyond.refl _ s).wr (hk _ (by simp)) _, rfl⟩
    · exact ⟨Beyond.refl _ s, rfl⟩
  unfold State.showDisturb
  dsimp only
  generalize (if n = lim then s.inc (Obj.FBC_DISTURBS.i p) else s) = u at hfst
  obtain ⟨hu, hf⟩ := hfst
  have hnd' : (([(Obj.FBC_DIST_LAST_ID.i p, id), (Obj.FBC_DIST_LAST_XTD.i p, b2n xtd), (Obj.FBC_DIST_LAST_COUNT.i p, min n 255)] :
    List (Fld × Nat)).map fun x => x.1.key).Nodup := hnd
  refine ⟨.wr (.wrs hu ?_) (hk _ (by simp)) _, State.rd_wr_self _ _ _, ?_, ?_, (State.wrs_fbc _ _).trans hf⟩
  · simp only [List.forall_mem_cons, List.not_mem_nil, false_implies, implies_true, and_true]
    exact ⟨hk _ (by simp), hk _ (by simp), hk _ (by simp)⟩
  · refine (State.rd_wr_ne _ _ _ _ n1).trans ((State.rd_wrs_mem hnd' (v := min n 255) (by simp)).trans ?_)
    exact Nat.mod_eq_of_lt (show min n 255 < 256 by omega)
  · exact (State.rd_wr_ne _ _ _ _ n2).trans (State.rd_wrs_mem hnd' (v := id) (by simp))

theorem State.disturb_disturbed (s : State) (p id : Nat) (xtd : Bool) : Disturbed s (s.disturb p id xtd) p id xtd := by
  rw [State.disturb_eq]
  dsimp only
  have hd : ((s.noteDisturbed p id xtd).port p).disturbed = some (id, xtd) := by
    unfold State.noteDisturbed
    rw [State.port_putPort]
  have hc : ((s.noteDisturbed p id xtd).port p).count = if (s.port p).disturbed = some (id, xtd) then (s.port p).count + 1 else 1 := by
    unfold State.noteDisturbed
    rw [State.port_putPort]
  have hr : (s.noteDisturbed p id xtd).regs = s.regs := rfl
  generalize s.noteDisturbed p id xtd = t at hd hc hr
  generalize hn : (if (s.port p).disturbed = some (id, xtd) then (s.port p).count + 1 else 1) = n at hc
  by_cases hl : s.rd (Obj.FBC_FLT_CFG_DISTURB_LIMIT.i p) = 0 ∨ n < s.rd (Obj.FBC_FLT_CFG_DISTURB_LIMIT.i p)
  · rw [if_pos hl]
    refine ⟨.of_regs _ hr, hd, hc.trans hn.symm, fun h0 hle => ?_⟩
    rw [hc] at hle
    omega
  · rw [if_neg hl]
    have hs := t.showDisturb_shown p id n (s.rd (Obj.FBC_FLT_CFG_DISTURB_LIMIT.i p)) xtd
    generalize t.showDisturb p id n (s.rd (Obj.FBC_FLT_CFG_DISTURB_LIMIT.i p)) xtd = u at hs
    obtain ⟨-, -, -, l1, l2, l3⟩ := disturbFields_ne p
    have hport : u.port p = t.port p := State.port_congr hs.fbc p
    have hu : Beyond (disturbKeys p) s u := (Beyond.of_regs _ hr).trans hs.rd
    unfold State.tellDisturb
    dsimp only
    split
    · refine ⟨hu, by rw [hport, hd], by rw [hport, hc, hn], fun _ _ => ⟨hs.evt, by rw [hport, hc, hs.count], fun hid => hs.id.trans (Nat.mod_eq_of_lt hid)⟩⟩
    · have hlog := State.logAll_raised (u.putPort p { u.port p with distLogAt := some s.floorTime })
        (if s.rangeOwner p id xtd = 0 then [0] else [0, s.rangeOwner p id xtd]) 0x0608
        (le 1 p ++ le 1 (b2n xtd) ++ le 2 0 ++ le 4 id ++ le 1 (min n 255)) false
      have hport' : ((u.putPort p { u.port p with distLogAt := some s.floorTime }).port p) = { u.port p with distLogAt := some s.floorTime } :=
        State.port_putPort _ _ _
      have hregs : (u.putPort p { u.port p with distLogAt := some s.floorTime }).regs = u.regs := rfl
      generalize u.putPort p { u.port p with distLogAt := some s.floorTime } = v at hlog hport' hregs
      generalize v.logAll _ 0x0608 _ = w at hlog
      have hw : w.port p = { u.port p with distLogAt := some s.floorTime } := (State.port_congr hlog.fbc p).trans hport'
      have hrd : ∀ g, logKey g.key = false → w.rd g = u.rd g := fun g hg => (hlog.rd g ((unlogged_iff g).mpr hg)).trans (State.rd_congr hregs g)
      refine ⟨hu.trans ((Beyond.of_regs _ hregs).trans (hlog.beyond fun k hk => by rw [disturbKeys, hk, Bool.or_true])), ?_, ?_, fun _ _ => ⟨?_, ?_, ?_⟩⟩
      · rw [hw]; exact (congrArg CanPort.disturbed hport).trans hd
      · rw [hw]; exact ((congrArg CanPort.count hport).trans hc).trans hn.symm
      · rw [hrd _ l1]; exact hs.evt
      · rw [hrd _ l2, hw]
        exact hs.count.trans (congrArg (min · 255) ((congrArg CanPort.count hport).trans hc)).symm
      · intro hid
        rw [hrd _ l3]
        exact hs.id.trans (Nat.mod_eq_of_lt hid)

/-! ### An error detected as a receiver -/

/-- REC of a port after an error it detects as a receiver (R256, R279). -/
def State.recAfter (s : State) (p : Nat) (ev : RxError) : Nat :=
  if s.portState p = 3 then s.rd (Obj.FBC_REC.i p) else min 255 (s.rd (Obj.FBC_REC.i p) + 1 + (if ev.dominantAfterFlag then 8 else 0))

/-- The counters of such an error. -/
def State.countRxError (s : State) (p : Nat) (ev : RxError) : State :=
  let s1 := (s.inc (Obj.FBC_ERR_FRAMES.i p)).perf 9 0x04 vendorTag
  if s.portState p = portListening then s1
  else s1.wr (Obj.FBC_REC.i p) (min 255 (s.rd (Obj.FBC_REC.i p) + 1 + (if ev.dominantAfterFlag then 8 else 0)))

/-- The bystander count of such an error. -/
def State.noteRxError (s : State) (p : Nat) (ev : RxError) : State :=
  match ev.id with
  | some (id, xtd) => s.disturb p id.toNat xtd
  | none => s

theorem canRxError_eq (p : Nat) (ev : RxError) (s : State) : canRxError p ev s =
    if ! s.onBus p then s else ((((s.countRxError p ev).noteRxError p ev).judgeErrors p).select p) := rfl

theorem rxErrorFields (p : Nat) : (Obj.FBC_REC.i p).key ≠ (Obj.FBC_ERR_FRAMES.i p).key ∧
    (∀ r ∈ [Obj.FBC_TEC, Obj.FBC_ERR_STATE, Obj.FBC_FLT_CFG_DISTURB_LIMIT], (Obj.FBC_REC.i p).key ≠ (r.i p).key ∧ (Obj.FBC_ERR_FRAMES.i p).key ≠ (r.i p).key) ∧
    ∀ r ∈ [Obj.FBC_TEC, Obj.FBC_ERR_STATE, Obj.FBC_ERR_FRAMES, Obj.FBC_REC], disturbKeys p (r.i p).key = false := by
  simp only [List.forall_mem_cons, List.not_mem_nil, false_implies, implies_true, and_true]
  simp [disturbKeys, inPort, logKey, Fld.key, Row.i, Row.b, Row.at, Obj.FBC_TEC, Obj.FBC_ERR_STATE, Obj.FBC_ERR_FRAMES, Obj.FBC_REC,
    Obj.FBC_FLT_CFG_DISTURB_LIMIT, Obj.FBC_FEVT_DISTURB, Obj.EVR_DROPPED, Obj.EVR_EVT_DROPPED]
  omega

/-- What the counters of such an error leave. -/
structure RxErrorCounted (s t : State) (p : Nat) (ev : RxError) : Prop where
  errFrames : t.rd (Obj.FBC_ERR_FRAMES.i p) = (s.rd (Obj.FBC_ERR_FRAMES.i p) + 1) % 2 ^ 32
  recCount : t.rd (Obj.FBC_REC.i p) = s.recAfter p ev
  tec : t.rd (Obj.FBC_TEC.i p) = s.rd (Obj.FBC_TEC.i p)
  errState : t.errState p = s.errState p
  limit : t.rd (Obj.FBC_FLT_CFG_DISTURB_LIMIT.i p) = s.rd (Obj.FBC_FLT_CFG_DISTURB_LIMIT.i p)
  fbc : t.fbc = s.fbc

theorem State.countRxError_counted (s : State) (p : Nat) (ev : RxError) : RxErrorCounted s (s.countRxError p ev) p ev := by
  obtain ⟨hne, hother, -⟩ := rxErrorFields p
  unfold State.countRxError
  have hr : ((s.inc (Obj.FBC_ERR_FRAMES.i p)).perf 9 0x04 vendorTag).regs = (s.inc (Obj.FBC_ERR_FRAMES.i p)).regs := State.perf_regs _ _ _ _ _
  have hf : ((s.inc (Obj.FBC_ERR_FRAMES.i p)).perf 9 0x04 vendorTag).fbc = s.fbc := State.perf_fbc _ _ _ _ _
  generalize (s.inc (Obj.FBC_ERR_FRAMES.i p)).perf 9 0x04 vendorTag = u at hr hf
  have hef : u.rd (Obj.FBC_ERR_FRAMES.i p) = (s.rd (Obj.FBC_ERR_FRAMES.i p) + 1) % 2 ^ 32 := (State.rd_congr hr _).trans (State.rd_wr_self _ _ _)
  have hu : ∀ r ∈ [Obj.FBC_TEC, Obj.FBC_ERR_STATE, Obj.FBC_FLT_CFG_DISTURB_LIMIT], u.rd (r.i p) = s.rd (r.i p) := fun r hr' =>
    (State.rd_congr hr _).trans (State.rd_wr_ne _ _ _ _ (hother r hr').2)
  dsimp only
  by_cases hl : s.portState p = 3
  · have hrec : u.rd (Obj.FBC_REC.i p) = s.rd (Obj.FBC_REC.i p) := (State.rd_congr hr _).trans (State.rd_wr_ne _ _ _ _ hne.symm)
    rw [if_pos (show s.portState p = portListening from hl)]
    exact ⟨hef, by rw [State.recAfter, if_pos hl]; exact hrec, hu _ (by simp), hu _ (by simp), hu _ (by simp), hf⟩
  · rw [if_neg (show ¬ s.portState p = portListening from hl)]
    refine ⟨(State.rd_wr_ne _ _ _ _ hne).trans hef, ?_, (State.rd_wr_ne _ _ _ _ (hother _ (by simp)).1).trans (hu _ (by simp)),
      (State.rd_wr_ne _ _ _ _ (hother _ (by simp)).1).trans (hu _ (by simp)), (State.rd_wr_ne _ _ _ _ (hother _ (by simp)).1).trans (hu _ (by simp)), hf⟩
    rw [State.recAfter, if_neg hl, State.rd_wr_self]
    exact Nat.mod_eq_of_lt (show min 255 _ < 256 by omega)

/-- What CAN_RX_ERROR leaves on a port on the bus. -/
structure RxFailed (s t : State) (p : Nat) (ev : RxError) : Prop where
  errFrames : t.rd (Obj.FBC_ERR_FRAMES.i p) = (s.rd (Obj.FBC_ERR_FRAMES.i p) + 1) % 2 ^ 32
  recCount : t.rd (Obj.FBC_REC.i p) = s.recAfter p ev
  errState : t.errState p = if 128 ≤ s.rd (Obj.FBC_TEC.i p) ∨ 128 ≤ s.recAfter p ev then 1 else 0
  disturbed : ∀ id xtd, ev.id = some (id, xtd) →
    (t.port p).disturbed = some (id.toNat, xtd) ∧
    (t.port p).count = (if (s.port p).disturbed = some (id.toNat, xtd) then (s.port p).count + 1 else 1) ∧
    (s.rd (Obj.FBC_FLT_CFG_DISTURB_LIMIT.i p) ≠ 0 → s.rd (Obj.FBC_FLT_CFG_DISTURB_LIMIT.i p) ≤ (t.port p).count →
      t.rd (Obj.FBC_FEVT_DISTURB.i p) = 1 ∧ t.rd (Obj.FBC_DIST_LAST_COUNT.i p) = min (t.port p).count 255 ∧
      t.rd (Obj.FBC_DIST_LAST_ID.i p) = id.toNat)

/-- What the judgement of a port's counters and a selection leave. -/
structure Judged (s t : State) (p : Nat) : Prop where
  kept : ∀ r ∈ [Obj.FBC_TEC, Obj.FBC_REC, Obj.FBC_ERR_FRAMES, Obj.FBC_FEVT_DISTURB, Obj.FBC_DIST_LAST_COUNT, Obj.FBC_DIST_LAST_ID],
    t.rd (r.i p) = s.rd (r.i p)
  errState : s.errState p ≤ 1 → t.errState p = if 128 ≤ s.rd (Obj.FBC_TEC.i p) ∨ 128 ≤ s.rd (Obj.FBC_REC.i p) then 1 else 0
  port : (t.port p).disturbed = (s.port p).disturbed ∧ (t.port p).count = (s.port p).count

theorem State.judged_select {p : Nat} (hp : p < 24) (s : State) : Judged s ((s.judgeErrors p).select p) p := by
  have hj := s.judgeErrors_work hp
  have hs := (s.judgeErrors p).select_any hp
  refine ⟨fun r hr => ?_, fun he => ?_, ?_, ?_⟩
  · refine (hs.rd _ (requestKeys_port hp ?_)).trans (hj.rd _ (judgeKeys_port hp ?_)) <;>
    · simp only [List.mem_cons, List.not_mem_nil, or_false] at hr ⊢
      tauto
  · exact (hs.rd.errState hp).trans (State.judgeErrors_errState he)
  · rw [hs.port, hj.port]
  · rw [hs.port, hj.port]

theorem canRxError_failed {s : State} {p : Nat} (hp : p < 24) (ev : RxError) (h : s.onBus p = true) : RxFailed s (canRxError p ev s) p ev := by
  rw [canRxError_eq, if_neg (by rw [h]; decide)]
  have hc := s.countRxError_counted p ev
  obtain ⟨-, -, hd⟩ := rxErrorFields p
  generalize s.countRxError p ev = u at hc
  have hn : ∀ r ∈ [Obj.FBC_TEC, Obj.FBC_ERR_STATE, Obj.FBC_ERR_FRAMES, Obj.FBC_REC], (u.noteRxError p ev).rd (r.i p) = u.rd (r.i p) := by
    intro r hr
    unfold State.noteRxError
    split
    · exact (u.disturb_disturbed p _ _).rd _ (hd r hr)
    · rfl
  have hdist : ∀ id xtd, ev.id = some (id, xtd) → Disturbed u (u.noteRxError p ev) p id.toNat xtd := by
    intro id xtd he
    unfold State.noteRxError
    rw [he]
    exact u.disturb_disturbed p _ _
  generalize u.noteRxError p ev = v at hn hdist
  have hj := v.judged_select hp
  generalize (v.judgeErrors p).select p = t at hj
  obtain ⟨hpd, hpc⟩ := hj.port
  have he : v.errState p ≤ 1 := by
    rw [show v.errState p = u.errState p from hn _ (by simp), hc.errState]
    exact State.onBus_err h
  refine ⟨(hj.kept _ (by simp)).trans ((hn _ (by simp)).trans hc.errFrames), (hj.kept _ (by simp)).trans ((hn _ (by simp)).trans hc.recCount), ?_,
    fun id xtd hid => ?_⟩
  · rw [hj.errState he, hn _ (by simp), hn _ (by simp), hc.tec, hc.recCount]
  · have hdd := hdist id xtd hid
    have hport : u.port p = s.port p := State.port_congr hc.fbc p
    refine ⟨hpd.trans hdd.disturbed, ?_, fun h0 hle => ?_⟩
    · rw [hpc, hdd.count, hport]
    · rw [← hc.limit] at h0 hle
      rw [hpc] at hle ⊢
      obtain ⟨d1, d2, d3⟩ := hdd.limit h0 hle
      exact ⟨(hj.kept _ (by simp)).trans d1, (hj.kept _ (by simp)).trans d2, (hj.kept _ (by simp)).trans (d3 id.isLt)⟩

end Sys2Proof.Machine
end

section
/-!
SUPPORT. The proof of O40: frames a CAN port receives, through the firewall, the filters, the FIFOs and the receive mappings (spec/10
R269 to R271; spec/11 R292), and the port's other events.
-/
namespace Sys2Proof.Machine
open Sys2Proof.Claims

/-! ### What a port does with every valid frame -/

/-- The counters and the error state after a valid frame. -/
def State.hearFrame (s : State) (p : Nat) (f : CanFrame) : State := (((s.inc (Obj.FBC_RX_FRAMES.i p)).goodRx p).quiet p f).judgeErrors p

/-- A frame that no range holds. -/
def State.passUnbound (t : State) (p : Nat) (f : CanFrame) : State := (t.perf 9 0x00 vendorTag).unbound p f

/-- A frame of a range. -/
def State.passBound (t v : State) (p r : Nat) (f : CanFrame) : State :=
  ((t.inc (Obj.FBC_RNG_HITS.ij p r)).perf 9 0x00 (v.rd (Obj.FBC_RNG_OWNER.ij p r))).deliver v p (v.rd (Obj.FBC_RNG_OWNER.ij p r)) f

theorem canRxFrame_deaf {s : State} {p : Nat} {fr : CanFrame} (h : ¬ (s.onBus p = true ∧ (fr.fdf = true → s.on (Obj.FBC_CFG_FD_EN.i p) = true))) :
    canRxFrame p fr s = s := by
  refine if_pos ?_
  rw [Bool.or_eq_true, Bool.and_eq_true, Bool.not_eq_true', Bool.not_eq_true']
  by_contra hn
  rw [not_or, not_and, Bool.not_eq_false, Bool.not_eq_false] at hn
  exact h hn

theorem canRxFrame_heard {s : State} {p : Nat} {fr : CanFrame} (h : s.onBus p = true ∧ (fr.fdf = true → s.on (Obj.FBC_CFG_FD_EN.i p) = true))
    (hold : s.fbc.old = none) : canRxFrame p fr s =
    (match s.rangeOf p (taken fr).id.toNat (taken fr).xtd with
      | none => (s.hearFrame p (taken fr)).passUnbound p (taken fr)
      | some r => (s.hearFrame p (taken fr)).passBound s p r (taken fr)).select p := by
  have hv : s.bankAt (taken fr).sof = s := by
    unfold State.bankAt
    rw [hold]
  have hn : ¬ (! s.onBus p || (fr.fdf && ! s.on (Obj.FBC_CFG_FD_EN.i p))) = true := by
    rw [Bool.or_eq_true, Bool.and_eq_true, Bool.not_eq_true', Bool.not_eq_true']
    rintro (hb | ⟨hf, hd⟩)
    · exact absurd (h.1.symm.trans hb) (by decide)
    · exact absurd ((h.2 hf).symm.trans hd) (by decide)
  refine (if_neg hn).trans ?_
  show State.select (match (s.bankAt (taken fr).sof).rangeOf p (taken fr).id.toNat (taken fr).xtd with
    | none => (s.hearFrame p (taken fr)).passUnbound p (taken fr)
    | some r => (s.hearFrame p (taken fr)).passBound (s.bankAt (taken fr).sof) p r (taken fr)) p = _
  rw [hv]

/-- The fields that every valid frame may change. -/
def hearKeys (p k : Nat) : Bool := judgeKeys p k || k == (Obj.FBC_RX_FRAMES.i p).key || k == (Obj.FBC_REC.i p).key

/-- What every valid frame leaves. -/
structure FrameHeard (s t : State) (p : Nat) : Prop where
  rd : Beyond (hearKeys p) s t
  count : t.rd (Obj.FBC_RX_FRAMES.i p) = (s.rd (Obj.FBC_RX_FRAMES.i p) + 1) % 2 ^ 32
  port : t.port p = { s.port p with count := (t.port p).count }
  scan : t.scan = s.scan
  pend : s.evr.pend <+: t.evr.pend
  room : t.evr.pend.length ≤ s.evr.pend.length + 35

theorem State.portLogs_length (s : State) (p : Nat) : (s.portLogs p).length ≤ 35 := by
  unfold State.portLogs
  have h := List.length_filter_le (fun c => c != 0 && s.exists? c && s.ownsRange p c) (List.range 34)
  rw [List.length_range] at h
  rw [List.length_cons]
  omega

theorem Raised.scan {n : Nat} {s t : State} (h : Raised n s t) : t.scan = s.scan := by rw [h.eq]

/-- The judgement of the counters changes fields, and queues records of the port at most once. -/
theorem State.judgeErrors_raised (s : State) (p : Nat) : ∃ u : State, u = { s with regs := u.regs } ∧ Raised 35 u (s.judgeErrors p) := by
  have hev : ∀ (t : State) (x : Nat), Raised 35 t (t.portEvent p x) := fun t x => by
    have h := t.portEvent_raised p x
    have hl := t.portLogs_length p
    exact ⟨h.eq, h.rd, h.pend, h.room.trans (by omega)⟩
  have htop : ∀ t : State, ∃ r, t.recordTop p txPending 0 = { t with regs := r } := fun t => by
    unfold State.recordTop
    split <;> exact ⟨_, State.wrs_eq _ _⟩
  unfold State.judgeErrors
  dsimp only
  split
  · obtain ⟨r, hr⟩ := htop (s.wr (Obj.FBC_ERR_STATE.i p) 1)
    refine ⟨_, ?_, hev _ _⟩
    rw [hr]
    rfl
  · split
    · exact ⟨_, rfl, hev _ _⟩
    · exact ⟨s, rfl, rfl, fun _ _ => rfl, List.prefix_refl _, Nat.le_add_right _ _⟩

/-- The key of REC. -/
def recKeys (p k : Nat) : Bool := k == (Obj.FBC_REC.i p).key

theorem recKeys_self (p : Nat) : recKeys p (Obj.FBC_REC.i p).key = true := beq_self_eq_true _

theorem State.goodRx_spec (s : State) (p : Nat) : Beyond (recKeys p) s (s.goodRx p) ∧
    s.goodRx p = { s with regs := (s.goodRx p).regs, free := (s.goodRx p).free } := by
  unfold State.goodRx
  dsimp only
  split
  · exact ⟨Beyond.refl _ s, rfl⟩
  · split
    · exact ⟨(Beyond.of_regs (s := s) (t := s.draw.2) _ rfl).wr (recKeys_self p) _, rfl⟩
    · exact ⟨(Beyond.refl _ s).wr (recKeys_self p) _, rfl⟩

theorem State.quiet_spec (s : State) (p : Nat) (f : CanFrame) : (s.quiet p f).port p = { s.port p with count := ((s.quiet p f).port p).count } ∧
    s.quiet p f = { s with fbc := (s.quiet p f).fbc } := by
  unfold State.quiet
  dsimp only
  split
  · exact ⟨by rw [State.port_putPort], rfl⟩
  · exact ⟨rfl, rfl⟩

theorem hearKeys_judge {p : Nat} : ∀ k, judgeKeys p k = true → hearKeys p k = true := fun k h => by simp [hearKeys, h]

theorem State.hearFrame_heard {p : Nat} (hp : p < 24) (s : State) (f : CanFrame) : FrameHeard s (s.hearFrame p f) p := by
  have hne : (Obj.FBC_REC.i p).key ≠ (Obj.FBC_RX_FRAMES.i p).key := by
    simp [Fld.key, Row.i, Row.at, Obj.FBC_REC, Obj.FBC_RX_FRAMES]
    omega
  unfold State.hearFrame
  have hi : Beyond (hearKeys p) s (s.inc (Obj.FBC_RX_FRAMES.i p)) := .wr (.refl _ s) (by simp [hearKeys]) _
  have hc : (s.inc (Obj.FBC_RX_FRAMES.i p)).rd (Obj.FBC_RX_FRAMES.i p) = (s.rd (Obj.FBC_RX_FRAMES.i p) + 1) % 2 ^ 32 := State.rd_wr_self _ _ _
  have hs : s.inc (Obj.FBC_RX_FRAMES.i p) = { s with regs := (s.inc (Obj.FBC_RX_FRAMES.i p)).regs } := rfl
  generalize s.inc (Obj.FBC_RX_FRAMES.i p) = t at hi hc hs
  obtain ⟨hg, hge⟩ := t.goodRx_spec p
  generalize t.goodRx p = u at hg hge
  obtain ⟨hq, hqe⟩ := u.quiet_spec p f
  generalize u.quiet p f = v at hq hqe
  have hj := v.judgeErrors_work hp
  obtain ⟨w, hw, hr⟩ := v.judgeErrors_raised p
  have hvr : v.regs = u.regs := by rw [hqe]
  have hcount : (v.judgeErrors p).rd (Obj.FBC_RX_FRAMES.i p) = t.rd (Obj.FBC_RX_FRAMES.i p) :=
    (hj.rd _ (judgeKeys_port hp (by simp))).trans ((State.rd_congr hvr _).trans (hg _ (beq_eq_false_iff_ne.mpr hne.symm)))
  have hport : (v.judgeErrors p).port p = v.port p := State.port_congr (v.judgeErrors_fbc p) p
  have hut : u.port p = s.port p := State.port_congr (by rw [hge, hs]) p
  have hscan : w.scan = s.scan := by rw [hw, hqe, hge, hs]
  have hevr : w.evr = s.evr := by rw [hw, hqe, hge, hs]
  refine ⟨(hi.trans (hg.mono fun k hk => by simp [hearKeys, show k = _ from beq_iff_eq.mp hk])).trans ((Beyond.of_regs _ hvr).trans (hj.rd.mono hearKeys_judge)),
    hcount.trans hc, ?_, hr.scan.trans hscan, hevr ▸ hr.pend, hevr ▸ hr.room⟩
  rw [hport, hq, hut]

end Sys2Proof.Machine
end

section
/-!
SUPPORT. The proof of O40, continued: where a frame goes after the counters, and the port's other events.
-/
namespace Sys2Proof.Machine
open Sys2Proof.Claims

/-! ### Fields that no counter and no request of a port touches -/

/-- The live image, and the FIFOs, filters and mappings of a port. -/
def deliveryKey (p k : Nat) : Bool := decide (8 * 0x200000 ≤ k ∧ k < 8 * 0x400000) || inPort p 0x8000 0x10000 k

theorem hearKeys_delivery {p k : Nat} (h : deliveryKey p k = true) : hearKeys p k = false := by
  simp [deliveryKey, inPort] at h
  simp [hearKeys, judgeKeys, inPort, logKey, Fld.key, Row.i, Row.b, Row.at, Obj.FBC_EVT_PASSIVE, Obj.FBC_RX_FRAMES, Obj.FBC_REC, Obj.EVR_DROPPED,
    Obj.EVR_EVT_DROPPED]
  omega

theorem requestKeys_delivery {p k : Nat} (h : deliveryKey p k = true) : requestKeys p k = false := by
  simp [deliveryKey, inPort] at h
  simp [requestKeys, anyBufKeys, collKeys, inPort, logKey, Fld.key, Row.i, Row.b, Row.at, Obj.FBC_FEVT_COLLISION, Obj.FBC_FW_TX_BLOCK,
    Obj.FBC_FEVT_FW, Obj.EVR_DROPPED, Obj.EVR_EVT_DROPPED]
  omega

theorem deliveryKey_image {p q : Nat} (hq : q < 8192) : deliveryKey p (Obj.PIMG_PT.i q).key = true ∧
    deliveryKey p (Obj.PIMG_ATTR_STALE.i q).key = true := by
  simp [deliveryKey, Fld.key, Row.i, Row.at, Obj.PIMG_PT, Obj.PIMG_ATTR_STALE]
  omega

theorem deliveryKey_fifo {p n : Nat} (hn : n < 8) : deliveryKey p (Obj.FBC_FIFO_FILL.ij p n).key = true ∧
    deliveryKey p (Obj.FBC_FIFO_LOST.ij p n).key = true := by
  simp [deliveryKey, inPort, Fld.key, Row.ij, Row.at, Obj.FBC_FIFO_FILL, Obj.FBC_FIFO_LOST]
  omega

/-! ### A selection keeps the firewall's flag -/

section
variable {p b : Nat} (hp : p < 24) (hb : b < 32)
include hp hb

omit hp hb in
theorem endKeys_flag : endKeys p b (Obj.FBC_FEVT_FW.i p).key = false := by
  generalize hk : (Obj.FBC_FEVT_FW.i p).key = k
  simp [Fld.key, Row.i, Row.at, Obj.FBC_FEVT_FW] at hk
  simp [endKeys, bufKeys, inPort, collKeys, logKey, Fld.key, Row.b, Row.i, Row.at, Obj.FBC_FEVT_COLLISION, Obj.EVR_DROPPED, Obj.EVR_EVT_DROPPED]
  omega

theorem State.refuseTx_flag (s : State) : (s.refuseTx p b).rd (Obj.FBC_FEVT_FW.i p) = 1 := by
  refine ((State.endTx_work _ txFailed 8 false).rd _ endKeys_flag).trans ?_
  rw [State.rd_congr (State.perf_regs _ _ _ _ _)]
  exact State.rd_wr_self _ _ _

end

theorem State.select_flag {p : Nat} (hp : p < 24) {s : State} (h : s.rd (Obj.FBC_FEVT_FW.i p) = 1) : (s.select p).rd (Obj.FBC_FEVT_FW.i p) = 1 := by
  have hall : ∀ (l : List Nat) (t : State), (∀ b ∈ l, b < 32) → t.rd (Obj.FBC_FEVT_FW.i p) = 1 →
      (l.foldl (fun t b => t.refuseTx p b) t).rd (Obj.FBC_FEVT_FW.i p) = 1 := by
    intro l
    induction l with
    | nil => exact fun _ _ ht => ht
    | cons b l ih => exact fun t hl _ => ih _ (fun c hc => hl c (List.mem_cons_of_mem b hc)) (t.refuseTx_flag hp (hl b List.mem_cons_self))
  rw [State.select_eq]
  split
  · have hlt : ∀ b ∈ s.bufsIn p 1, b < 32 := fun b hb => (State.mem_bufsIn.mp hb).1
    have ht := hall ((s.bufsIn p 1).filter fun b => ! s.mayTransmit p b) s (fun b hb => hlt b (List.mem_of_mem_filter hb)) h
    unfold State.selectFrom
    dsimp only
    split
    case _ b hb =>
      exact ((State.beginTx_work _).rd _ endKeys_flag).trans ht
    case _ => exact ht
  · exact h

/-! ### A frame that no range holds -/

theorem Beyond.perf {P : Nat → Bool} {s t : State} (h : Beyond P s t) (u e c n : Nat) : Beyond P s (t.perf u e c n) :=
  h.trans (Beyond.of_regs P (State.perf_regs t u e c n))

theorem State.perf_evr (s : State) (u e c n : Nat) : (s.perf u e c n).evr = s.evr := by
  rw [State.perf_eq]

/-- What a frame that no range holds leaves. -/
structure UnboundPassed (s t : State) (p : Nat) (f : CanFrame) : Prop where
  fifos : (t.port p).fifos = (s.port p).fifos
  count : t.rd (Obj.FBC_FW_RX_UNBOUND.i p) = (s.rd (Obj.FBC_FW_RX_UNBOUND.i p) + 1) % 2 ^ 32
  flag : t.rd (Obj.FBC_FEVT_FW.i p) = 1
  rd : Beyond (fun k => k == (Obj.FBC_FW_RX_UNBOUND.i p).key || k == (Obj.FBC_FEVT_FW.i p).key || logKey k) s t
  logged : (s.port p).fwLogAt = none → ∀ u : State, s.failed 10 = u.failed 10 → u.evr.pend <+: s.evr.pend →
    s.evr.pend.length ≤ u.evr.pend.length + 120 → Logged u t 0 0x0609 (le 1 p ++ le 3 0 ++ le 4 f.id.toNat)

theorem unboundFields_ne (p : Nat) : (Obj.FBC_FW_RX_UNBOUND.i p).key ≠ (Obj.FBC_FEVT_FW.i p).key := by
  simp [Fld.key, Row.i, Row.at, Obj.FBC_FEVT_FW, Obj.FBC_FW_RX_UNBOUND]
  omega

theorem unboundFields_unlogged {p : Nat} (hp : p < 24) : logKey (Obj.FBC_FW_RX_UNBOUND.i p).key = false ∧ logKey (Obj.FBC_FEVT_FW.i p).key = false := by
  have h : ∀ p : Fin 24, logKey (Obj.FBC_FW_RX_UNBOUND.i p).key = false ∧ logKey (Obj.FBC_FEVT_FW.i p).key = false := by decide +kernel
  exact h ⟨p, hp⟩

/-- The counter and the flag of a frame that no range holds. -/
def State.countUnbound (s : State) (p : Nat) : State :=
  (((s.perf 9 0x00 vendorTag).inc (Obj.FBC_FW_RX_UNBOUND.i p)).set1 (Obj.FBC_FEVT_FW.i p)).perf 9 0x06 vendorTag

theorem State.passUnbound_eq (s : State) (p : Nat) (f : CanFrame) : s.passUnbound p f =
    if within1s ((s.countUnbound p).port p).fwLogAt (s.perf 9 0x00 vendorTag).floorTime then s.countUnbound p
    else ((s.countUnbound p).putPort p { (s.countUnbound p).port p with fwLogAt := some (s.perf 9 0x00 vendorTag).floorTime }).log 0 0x0609
      (le 1 p ++ le 3 0 ++ le 4 f.id.toNat) := rfl

theorem State.passUnbound_passed {p : Nat} (hp : p < 24) (s : State) (f : CanFrame) : UnboundPassed s (s.passUnbound p f) p f := by
  have hport : (s.countUnbound p).port p = s.port p := State.port_congr (by simp [State.countUnbound, State.perf_fbc, State.set1, State.inc]) p
  have hevr : (s.countUnbound p).evr = s.evr := by
    rw [State.countUnbound, State.perf_evr, State.set1, State.inc, State.wr_evr, State.wr_evr, State.perf_evr]
  have hb : Beyond (fun k => k == (Obj.FBC_FW_RX_UNBOUND.i p).key || k == (Obj.FBC_FEVT_FW.i p).key || logKey k) s (s.countUnbound p) :=
    .perf (.wr (.wr (.perf (.refl _ s) _ _ _ _) (by simp) _) (by simp) _) _ _ _ _
  have hc : (s.countUnbound p).rd (Obj.FBC_FW_RX_UNBOUND.i p) = (s.rd (Obj.FBC_FW_RX_UNBOUND.i p) + 1) % 2 ^ 32 := by
    refine (State.rd_congr (State.perf_regs _ _ _ _ _) _).trans ((State.rd_wr_ne _ _ _ _ (unboundFields_ne p).symm).trans ((State.rd_wr_self _ _ _).trans ?_))
    rw [State.rd_congr (State.perf_regs _ _ _ _ _)]
    rfl
  have hf : (s.countUnbound p).rd (Obj.FBC_FEVT_FW.i p) = 1 :=
    (State.rd_congr (State.perf_regs _ _ _ _ _) _).trans (State.rd_wr_self _ _ _)
  have hfail : (s.countUnbound p).failed 10 = s.failed 10 := by
    refine congrArg (bit · 10) (hb _ ?_)
    have h : ∀ p : Fin 24, (Obj.PWR_UNIT_FAIL.f.key == (Obj.FBC_FW_RX_UNBOUND.i p).key || Obj.PWR_UNIT_FAIL.f.key == (Obj.FBC_FEVT_FW.i p).key ||
      logKey Obj.PWR_UNIT_FAIL.f.key) = false := by decide +kernel
    exact h ⟨p, hp⟩
  obtain ⟨hl1, hl2⟩ := unboundFields_unlogged hp
  rw [State.passUnbound_eq]
  generalize s.countUnbound p = t at hport hevr hb hc hf hfail
  split
  case isTrue hw =>
    refine ⟨by rw [hport], hc, hf, hb, fun hnone => ?_⟩
    rw [hport, hnone] at hw
    exact absurd hw Bool.false_ne_true
  case isFalse =>
    generalize hv : t.putPort p { t.port p with fwLogAt := some (s.perf 9 0x00 vendorTag).floorTime } = v
    have hvr : v.regs = t.regs := by rw [← hv]; rfl
    have hve : v.evr = s.evr := by rw [← hevr, ← hv]; rfl
    have hr := v.log_raised 0 0x0609 (le 1 p ++ le 3 0 ++ le 4 f.id.toNat) false none
    have hk : ∀ g : Fld, logKey g.key = false → (v.log 0 0x0609 (le 1 p ++ le 3 0 ++ le 4 f.id.toNat)).rd g = t.rd g := fun g hg =>
      (hr.rd g ((unlogged_iff g).mpr hg)).trans (State.rd_congr hvr g)
    refine ⟨?_, (hk _ hl1).trans hc, (hk _ hl2).trans hf, hb.trans ((Beyond.of_regs _ hvr).trans (hr.beyond fun n hn => by simp [hn])), fun _ u hu hp' hl => ?_⟩
    · rw [State.port_congr hr.fbc p, ← hv, State.port_putPort, hport]
    · exact logged_owner ((State.failed_congr hvr 10).trans (hfail.trans hu)) (hve ▸ hp') (hve ▸ hl)

end Sys2Proof.Machine
end

section
/-!
SUPPORT. The proof of O40, continued: a frame of a range, through its filter, into a FIFO and the image.
-/
namespace Sys2Proof.Machine
open Sys2Proof.Claims

/-! ### A frame into a FIFO -/

/-- The element list of a FIFO after a frame. -/
def pushed (l : List CanElem) (size : Nat) (overwrite : Bool) (e : CanElem) : List CanElem :=
  if ! decide (size ≤ l.length) then l ++ [e] else if overwrite then l.drop 1 ++ [e] else l

/-- The number of the next element of a FIFO. -/
def State.nextSeq (s : State) (p k : Nat) : Nat := ((s.port p).seqs.get 0 k + 1) % 65536

/-- The FIFO with its element, before a lost element is counted. -/
def State.storeFifo (s : State) (p k size : Nat) (overwrite : Bool) (e : CanElem) : State :=
  (s.putPort p { s.port p with
    fifos := (s.port p).fifos.put k (pushed ((s.port p).fifos.get [] k) size overwrite { e with seq := s.nextSeq p k })
    seqs := (s.port p).seqs.put k (s.nextSeq p k) }).wr (Obj.FBC_FIFO_FILL.ij p k)
      (pushed ((s.port p).fifos.get [] k) size overwrite { e with seq := s.nextSeq p k }).length

theorem State.toFifo_eq (s : State) (p k size c : Nat) (overwrite : Bool) (e : CanElem) : s.toFifo p k size c overwrite e =
    if decide (size ≤ ((s.port p).fifos.get [] k).length) then
      (((s.storeFifo p k size overwrite e).inc (Obj.FBC_FIFO_LOST.ij p k)).set1 (Obj.FBC_FIFO_EVT_OVERRUN.ij p k)).perf 9 0x07 c
    else s.storeFifo p k size overwrite e := rfl

/-- What a frame into a FIFO leaves. -/
structure Stored (s t : State) (p k size : Nat) (overwrite : Bool) (e : CanElem) : Prop where
  list : (t.port p).fifos.get [] k = pushed ((s.port p).fifos.get [] k) size overwrite { e with seq := s.nextSeq p k }
  fill : t.rd (Obj.FBC_FIFO_FILL.ij p k) = ((t.port p).fifos.get [] k).length % 2 ^ 7
  lost : size ≤ ((s.port p).fifos.get [] k).length → t.rd (Obj.FBC_FIFO_LOST.ij p k) = (s.rd (Obj.FBC_FIFO_LOST.ij p k) + 1) % 2 ^ 32
  scan : t.scan = s.scan
  rd : Beyond (fun x => x == (Obj.FBC_FIFO_FILL.ij p k).key || x == (Obj.FBC_FIFO_LOST.ij p k).key ||
    x == (Obj.FBC_FIFO_EVT_OVERRUN.ij p k).key) s t

theorem fifoFields_ne (p k : Nat) : (Obj.FBC_FIFO_LOST.ij p k).key ≠ (Obj.FBC_FIFO_FILL.ij p k).key ∧
    (Obj.FBC_FIFO_EVT_OVERRUN.ij p k).key ≠ (Obj.FBC_FIFO_FILL.ij p k).key ∧
    (Obj.FBC_FIFO_EVT_OVERRUN.ij p k).key ≠ (Obj.FBC_FIFO_LOST.ij p k).key ∧
    (Obj.FBC_FIFO_FILL.ij p k).key ≠ (Obj.FBC_FIFO_LOST.ij p k).key := by
  simp [Fld.key, Row.ij, Row.at, Obj.FBC_FIFO_FILL, Obj.FBC_FIFO_LOST, Obj.FBC_FIFO_EVT_OVERRUN]

theorem State.toFifo_stored (s : State) (p k size c : Nat) (overwrite : Bool) (e : CanElem) :
    Stored s (s.toFifo p k size c overwrite e) p k size overwrite e := by
  obtain ⟨hlf, hof, hol, hfl⟩ := fifoFields_ne p k
  have hlist : ((s.storeFifo p k size overwrite e).port p).fifos.get [] k =
      pushed ((s.port p).fifos.get [] k) size overwrite { e with seq := s.nextSeq p k } := by
    rw [State.storeFifo, State.port_congr (State.wr_fbc _ _ _), State.port_putPort]
    exact Tab.get_put_self _ _ _ _
  have hfill : (s.storeFifo p k size overwrite e).rd (Obj.FBC_FIFO_FILL.ij p k) =
      (((s.storeFifo p k size overwrite e).port p).fifos.get [] k).length % 2 ^ 7 := by
    rw [hlist]
    exact State.rd_wr_self _ _ _
  have hlost : (s.storeFifo p k size overwrite e).rd (Obj.FBC_FIFO_LOST.ij p k) = s.rd (Obj.FBC_FIFO_LOST.ij p k) := State.rd_wr_ne _ _ _ _ hfl
  have hscan : (s.storeFifo p k size overwrite e).scan = s.scan := rfl
  have hb : Beyond (fun x => x == (Obj.FBC_FIFO_FILL.ij p k).key || x == (Obj.FBC_FIFO_LOST.ij p k).key ||
      x == (Obj.FBC_FIFO_EVT_OVERRUN.ij p k).key) s (s.storeFifo p k size overwrite e) := by
    unfold State.storeFifo
    refine Beyond.trans (Beyond.of_regs _ ?_) (Beyond.wr (Beyond.refl _ _) ?_ _)
    · rfl
    · simp
  rw [State.toFifo_eq]
  generalize s.storeFifo p k size overwrite e = t at hlist hfill hlost hscan hb
  split
  case isFalse hn =>
    exact ⟨hlist, hfill, fun h => absurd (decide_eq_true h) hn, hscan, hb⟩
  case isTrue =>
    have hfbc : ((((t.inc (Obj.FBC_FIFO_LOST.ij p k)).set1 (Obj.FBC_FIFO_EVT_OVERRUN.ij p k)).perf 9 0x07 c)).fbc = t.fbc := by
      rw [State.perf_fbc, State.set1, State.inc, State.wr_fbc, State.wr_fbc]
    refine ⟨?_, ?_, fun _ => ?_, ?_, .perf (.wr (.wr hb (by simp) _) (by simp) _) _ _ _ _⟩
    · rw [State.port_congr hfbc, hlist]
    · rw [State.port_congr hfbc, State.rd_congr (State.perf_regs _ _ _ _ _), State.set1, State.rd_wr_ne _ _ _ _ hof, State.inc,
        State.rd_wr_ne _ _ _ _ hlf, hfill]
    · rw [State.rd_congr (State.perf_regs _ _ _ _ _), State.set1, State.rd_wr_ne _ _ _ _ hol, State.inc, State.rd_wr_self, hlost]
      rfl
    · rw [State.perf_scan, State.set1, State.inc, State.wr_scan, State.wr_scan, hscan]

/-! ### A frame into the image -/

/-- The mappings of a filter that a frame is long enough for. -/
def State.goodMaps (v : State) (p k : Nat) (f : CanFrame) : List Nat :=
  (v.mapsOf p false k).filter fun m => decide (v.rd (Obj.FBC_MAP_BIT_OFF.ij p m) + v.rd (Obj.FBC_MAP_WIDTH_M1.ij p m) + 1 ≤ 8 * f.data.length)

/-- The write of a mapping. -/
def State.mapWrite (v : State) (p : Nat) (f : CanFrame) (m : Nat) : PtWrite :=
  PtWrite.whole (v.rd (Obj.FBC_MAP_POINT.ij p m)) (v.mapTake p m (unle f.data))

/-- The points of some mappings are fresh. -/
def State.freshen (s v : State) (p : Nat) (l : List Nat) : State :=
  l.foldl (fun t m => t.wr (Obj.PIMG_ATTR_STALE.i (v.rd (Obj.FBC_MAP_POINT.ij p m))) 0) s

/-- The counts of a frame's mappings. -/
def State.countMaps (s v : State) (p k c : Nat) (f : CanFrame) : State :=
  (s.inc (Obj.FBC_MAP_SHORT.i p) ((v.mapsOf p false k).length - (v.goodMaps p k f).length)).perf 9 0x08 c (v.goodMaps p k f).length

theorem State.applyRxMaps_eq (s v : State) (p k c : Nat) (f : CanFrame) : s.applyRxMaps v p k c f = if f.rtr then s else
    (((s.countMaps v p k c f).pimgWrite ((v.goodMaps p k f).map (v.mapWrite p f))).freshen v p (v.goodMaps p k f)) := by
  unfold State.applyRxMaps State.freshen State.countMaps State.goodMaps
  dsimp only
  rfl

theorem State.mem_goodMaps {v : State} {p k m : Nat} {f : CanFrame} (h : m ∈ v.goodMaps p k f) : m < 512 := by
  rw [State.goodMaps, List.mem_filter, State.mapsOf, List.mem_filter, List.mem_range] at h
  exact h.1.1

theorem State.pimgWrite_beyond {P : Nat → Bool} (s : State) {l : List PtWrite} (h : ∀ w ∈ l, P (Obj.PIMG_PT.i w.point).key = true) :
    Beyond P s (s.pimgWrite l) := by
  have hf : ∀ (l : List PtWrite) (t : State), Beyond P s t → (∀ w ∈ l, P (Obj.PIMG_PT.i w.point).key = true) → Beyond P s (t.applyPts l) := by
    intro l
    induction l with
    | nil => exact fun t ht _ => ht
    | cons w l ih => exact fun t ht hl => ih _ (ht.wr (hl w List.mem_cons_self) _) fun x hx => hl x (List.mem_cons_of_mem w hx)
  unfold State.pimgWrite
  split
  · exact .refl P s
  · split
    · exact .of_regs P rfl
    · exact hf l s (.refl P s) h

theorem State.freshen_beyond {P : Nat → Bool} (s v : State) {p : Nat} {l : List Nat}
    (h : ∀ m ∈ l, P (Obj.PIMG_ATTR_STALE.i (v.rd (Obj.FBC_MAP_POINT.ij p m))).key = true) : Beyond P s (s.freshen v p l) := by
  induction l generalizing s with
  | nil => exact .refl P s
  | cons m l ih => exact (Beyond.wr (.refl P s) (h m List.mem_cons_self) 0).trans (ih _ fun x hx => h x (List.mem_cons_of_mem m hx))

theorem State.pimgWrite_fbc (s : State) (l : List PtWrite) : (s.pimgWrite l).fbc = s.fbc := by
  have hf : ∀ (l : List PtWrite) (t : State), (t.applyPts l).fbc = t.fbc := by
    intro l
    induction l with
    | nil => exact fun _ => rfl
    | cons w l ih => exact fun t => ih _
  unfold State.pimgWrite
  split
  · rfl
  · split
    · rfl
    · exact hf l s

theorem State.freshen_fbc (s v : State) (p : Nat) (l : List Nat) : (s.freshen v p l).fbc = s.fbc := by
  induction l generalizing s with
  | nil => rfl
  | cons m l ih => exact ih _

/-- Mappings write the live image and one counter of the port. -/
theorem State.applyRxMaps_beyond {P : Nat → Bool} (s v : State) {p k c : Nat} {f : CanFrame} (hs : P (Obj.FBC_MAP_SHORT.i p).key = true)
    (h : ∀ m, m < 512 → P (Obj.PIMG_PT.i (v.rd (Obj.FBC_MAP_POINT.ij p m))).key = true ∧
      P (Obj.PIMG_ATTR_STALE.i (v.rd (Obj.FBC_MAP_POINT.ij p m))).key = true) : Beyond P s (s.applyRxMaps v p k c f) := by
  rw [State.applyRxMaps_eq]
  split
  · exact .refl P s
  · have hc : Beyond P s (s.countMaps v p k c f) := .perf (.wr (.refl P s) hs _) _ _ _ _
    refine (hc.trans (State.pimgWrite_beyond _ fun w hw => ?_)).trans (State.freshen_beyond _ _ fun m hm => (h m (State.mem_goodMaps hm)).2)
    obtain ⟨m, hm, rfl⟩ := List.mem_map.mp hw
    exact (h m (State.mem_goodMaps hm)).1

theorem State.applyRxMaps_fbc (s v : State) (p k c : Nat) (f : CanFrame) : (s.applyRxMaps v p k c f).fbc = s.fbc := by
  rw [State.applyRxMaps_eq]
  split
  · rfl
  · rw [State.freshen_fbc, State.pimgWrite_fbc, State.countMaps, State.perf_fbc, State.inc, State.wr_fbc]

theorem PtWrite.merge_whole (p v live : Nat) : (PtWrite.whole p v).merge live = v % 2 ^ 64 := by
  show v % 2 ^ 32 + 2 ^ 32 * (v / 2 ^ 32 % 2 ^ 32) = v % 2 ^ 64
  omega

theorem pimgFields_ne (q : Nat) (r : Nat) : (Obj.PIMG_ATTR_STALE.i r).key ≠ (Obj.PIMG_PT.i q).key := by
  simp [Fld.key, Row.i, Row.at, Obj.PIMG_PT, Obj.PIMG_ATTR_STALE]
  omega

/-- One mapping writes its point, which is fresh then. -/
theorem State.applyRxMaps_one {s v : State} {p k m : Nat} {f : CanFrame} (c : Nat) (hr : f.rtr = false) (hm : v.mapsOf p false k = [m])
    (hh : s.scan.hold = none)
    (hfit : v.rd (Obj.FBC_MAP_BIT_OFF.ij p m) + v.rd (Obj.FBC_MAP_WIDTH_M1.ij p m) + 1 ≤ 8 * f.data.length) :
    (s.applyRxMaps v p k c f).pt (v.rd (Obj.FBC_MAP_POINT.ij p m)) = v.mapTake p m (unle f.data) % 2 ^ 64 ∧
    (s.applyRxMaps v p k c f).rd (Obj.PIMG_ATTR_STALE.i (v.rd (Obj.FBC_MAP_POINT.ij p m))) = 0 := by
  have hg : v.goodMaps p k f = [m] := by
    rw [State.goodMaps, hm]
    exact List.filter_cons_of_pos (decide_eq_true hfit)
  rw [State.applyRxMaps_eq, hr, if_neg Bool.false_ne_true, hg]
  have hscan : (s.countMaps v p k c f).scan = s.scan := by rw [State.countMaps, State.perf_scan, State.inc, State.wr_scan]
  generalize s.countMaps v p k c f = t at hscan
  have hw : t.pimgWrite ([m].map (v.mapWrite p f)) = t.applyPt (v.mapWrite p f m) := by
    show (if t.scan.hold.isSome then _ else _) = _
    rw [hscan, hh]
    rfl
  rw [hw]
  refine ⟨(State.rd_wr_ne _ _ _ _ (pimgFields_ne _ _)).trans ((State.rd_wr_self _ _ _).trans ?_), State.rd_wr_self _ _ _⟩
  rw [State.mapWrite, PtWrite.merge_whole]
  exact Nat.mod_mod _ _

end Sys2Proof.Machine
end

section
/-!
SUPPORT. The proof of O40, continued: a frame that is heard, through the firewall and its filter.
-/
namespace Sys2Proof.Machine
open Sys2Proof.Claims

/-- What a FIFO takes of a frame. -/
def elemOf (f : CanFrame) (k : Nat) : CanElem :=
  { id := f.id.toNat, xtd := f.xtd, dlc := f.dlc.val, fdf := f.fdf, brs := f.brs, esi := f.esi, rtr := f.rtr,
    filter := k, stamp := f.sof / 1000 % 2 ^ 32, epoch := f.sof / 4294967296000 % 2 ^ 32, seq := 0, data := f.data }

theorem holds_elemOf (f : CanFrame) (k seq : Nat) : Holds { elemOf f k with seq := seq } f k seq := ⟨rfl, rfl, rfl, rfl, rfl, rfl, rfl, rfl, rfl, rfl, rfl, rfl⟩

/-- The counters of the range and the filter that a frame met. -/
def State.countBound (t v : State) (p r k : Nat) : State :=
  ((t.inc (Obj.FBC_RNG_HITS.ij p r)).perf 9 0x00 (v.rd (Obj.FBC_RNG_OWNER.ij p r))).inc (Obj.FBC_FLT_HITS.ij p k)

/-- The FIFO part of a filter. -/
def State.fifoPart (t v : State) (p r k : Nat) (f : CanFrame) : State :=
  if v.on (Obj.FBC_FLT_TO_FIFO.ij p k) then t.toFifo p (v.rd (Obj.FBC_FLT_FIFO.ij p k)) (v.rd (Obj.FBC_FIFO_SIZE.ij p (v.rd (Obj.FBC_FLT_FIFO.ij p k))))
    (v.rd (Obj.FBC_RNG_OWNER.ij p r)) (v.on (Obj.FBC_FIFO_MODE.ij p (v.rd (Obj.FBC_FLT_FIFO.ij p k)))) (elemOf f k) else t

/-- The mapping part of a filter. -/
def State.mapPart (t v : State) (p r k : Nat) (f : CanFrame) : State :=
  if v.on (Obj.FBC_FLT_TO_MAP.ij p k) then t.applyRxMaps v p k (v.rd (Obj.FBC_RNG_OWNER.ij p r)) f else t

theorem State.passBound_none {v : State} {p r : Nat} {f : CanFrame} (t : State) (h : v.filterOf p (v.rd (Obj.FBC_RNG_OWNER.ij p r)) f = none) :
    t.passBound v p r f = ((t.inc (Obj.FBC_RNG_HITS.ij p r)).perf 9 0x00 (v.rd (Obj.FBC_RNG_OWNER.ij p r))).inc (Obj.FBC_RX_NOMATCH.i p) := by
  rw [State.passBound, State.deliver, h]

theorem State.passBound_some {v : State} {p r k : Nat} {f : CanFrame} (t : State) (h : v.filterOf p (v.rd (Obj.FBC_RNG_OWNER.ij p r)) f = some k) :
    t.passBound v p r f = (((t.countBound v p r k).fifoPart v p r k f).mapPart v p r k f) := by
  rw [State.passBound, State.deliver, h]
  rfl

theorem State.countBound_fbc (t v : State) (p r k : Nat) : (t.countBound v p r k).fbc = t.fbc := by
  rw [State.countBound, State.inc, State.wr_fbc, State.perf_fbc, State.inc, State.wr_fbc]

theorem State.countBound_scan (t v : State) (p r k : Nat) : (t.countBound v p r k).scan = t.scan := by
  rw [State.countBound, State.inc, State.wr_scan, State.perf_scan, State.inc, State.wr_scan]

theorem State.countBound_beyond (t v : State) (p r k : Nat) {P : Nat → Bool} (h1 : P (Obj.FBC_RNG_HITS.ij p r).key = true)
    (h2 : P (Obj.FBC_FLT_HITS.ij p k).key = true) : Beyond P t (t.countBound v p r k) := .wr (.perf (.wr (.refl _ t) h1 _) _ _ _ _) h2 _

theorem State.mapPart_beyond {P : Nat → Bool} (t v : State) {p : Nat} (r k : Nat) (f : CanFrame) (hs : P (Obj.FBC_MAP_SHORT.i p).key = true)
    (h : ∀ m, m < 512 → P (Obj.PIMG_PT.i (v.rd (Obj.FBC_MAP_POINT.ij p m))).key = true ∧
      P (Obj.PIMG_ATTR_STALE.i (v.rd (Obj.FBC_MAP_POINT.ij p m))).key = true) : Beyond P t (t.mapPart v p r k f) := by
  unfold State.mapPart
  split
  · exact State.applyRxMaps_beyond t v hs h
  · exact .refl P t

theorem State.mapPart_fbc (t v : State) (p r k : Nat) (f : CanFrame) : (t.mapPart v p r k f).fbc = t.fbc := by
  unfold State.mapPart
  split
  · exact State.applyRxMaps_fbc _ _ _ _ _ _
  · rfl

theorem State.fifoPart_scan (t v : State) (p r k : Nat) (f : CanFrame) : (t.fifoPart v p r k f).scan = t.scan := by
  unfold State.fifoPart
  split
  · exact (State.toFifo_stored _ _ _ _ _ _ _).scan
  · rfl

theorem State.fifoPart_beyond {P : Nat → Bool} (t v : State) {p : Nat} (r k : Nat) (f : CanFrame)
    (h : ∀ n, v.rd (Obj.FBC_FLT_FIFO.ij p k) = n → P (Obj.FBC_FIFO_FILL.ij p n).key = true ∧ P (Obj.FBC_FIFO_LOST.ij p n).key = true ∧
      P (Obj.FBC_FIFO_EVT_OVERRUN.ij p n).key = true) : Beyond P t (t.fifoPart v p r k f) := by
  unfold State.fifoPart
  split
  · refine (State.toFifo_stored _ _ _ _ _ _ _).rd.mono fun x hx => ?_
    obtain ⟨h1, h2, h3⟩ := h _ rfl
    rw [Bool.or_eq_true, Bool.or_eq_true, beq_iff_eq, beq_iff_eq, beq_iff_eq] at hx
    obtain (rfl | rfl) | rfl := hx
    · exact h1
    · exact h2
    · exact h3
  · exact .refl P t

/-! ### What every heard frame counts -/

/-- Every field but one counter of the port. -/
def notRxFrames (p k : Nat) : Bool := k != (Obj.FBC_RX_FRAMES.i p).key

theorem notRxFrames_bound (p : Nat) : (∀ r, notRxFrames p (Obj.FBC_RNG_HITS.ij p r).key = true) ∧ (∀ k, notRxFrames p (Obj.FBC_FLT_HITS.ij p k).key = true) ∧
    notRxFrames p (Obj.FBC_RX_NOMATCH.i p).key = true ∧ notRxFrames p (Obj.FBC_MAP_SHORT.i p).key = true := by
  simp [notRxFrames, Fld.key, Row.i, Row.ij, Row.at, Obj.FBC_RX_FRAMES, Obj.FBC_RNG_HITS, Obj.FBC_FLT_HITS, Obj.FBC_RX_NOMATCH, Obj.FBC_MAP_SHORT]
  exact ⟨fun r => by omega, fun k => by omega⟩

theorem notRxFrames_fifo (p n : Nat) : notRxFrames p (Obj.FBC_FIFO_FILL.ij p n).key = true ∧ notRxFrames p (Obj.FBC_FIFO_LOST.ij p n).key = true ∧
    notRxFrames p (Obj.FBC_FIFO_EVT_OVERRUN.ij p n).key = true := by
  simp [notRxFrames, Fld.key, Row.i, Row.ij, Row.at, Obj.FBC_RX_FRAMES, Obj.FBC_FIFO_FILL, Obj.FBC_FIFO_LOST, Obj.FBC_FIFO_EVT_OVERRUN]
  omega

theorem notRxFrames_image {p q : Nat} (hq : q < 8192) : notRxFrames p (Obj.PIMG_PT.i q).key = true ∧ notRxFrames p (Obj.PIMG_ATTR_STALE.i q).key = true := by
  simp [notRxFrames, Fld.key, Row.i, Row.at, Obj.FBC_RX_FRAMES, Obj.PIMG_PT, Obj.PIMG_ATTR_STALE]
  omega

theorem notRxFrames_unbound {p : Nat} (hp : p < 24) (k : Nat) (h : (k == (Obj.FBC_FW_RX_UNBOUND.i p).key || k == (Obj.FBC_FEVT_FW.i p).key || logKey k) = true) :
    notRxFrames p k = true := by
  have hl : ∀ p : Fin 24, logKey (Obj.FBC_RX_FRAMES.i p).key = false := by decide +kernel
  rw [notRxFrames, bne_iff_ne]
  rintro rfl
  rw [hl ⟨p, hp⟩] at h
  simp [Fld.key, Row.i, Row.at, Obj.FBC_RX_FRAMES, Obj.FBC_FW_RX_UNBOUND, Obj.FBC_FEVT_FW] at h
  omega

section
variable {s : State} {p : Nat} {fr : CanFrame} (hp : p < 24) (hh : s.onBus p = true ∧ (fr.fdf = true → s.on (Obj.FBC_CFG_FD_EN.i p) = true))
  (hold : s.fbc.old = none)
include hp hh hold

theorem canRxFrame_count (hm : ∀ m, m < 512 → s.rd (Obj.FBC_MAP_POINT.ij p m) < 8192) :
    (canRxFrame p fr s).rd (Obj.FBC_RX_FRAMES.i p) = (s.rd (Obj.FBC_RX_FRAMES.i p) + 1) % 2 ^ 32 := by
  rw [canRxFrame_heard hh hold]
  refine ((State.select_any hp _).rd _ (requestKeys_port hp (by simp))).trans ?_
  have hu := s.hearFrame_heard hp (taken fr)
  refine Eq.trans ?_ hu.count
  obtain ⟨hr, hk, hn, hs⟩ := notRxFrames_bound p
  have hself : notRxFrames p (Obj.FBC_RX_FRAMES.i p).key = false := bne_self_eq_false _
  generalize s.hearFrame p (taken fr) = u
  split
  case _ => exact ((u.passUnbound_passed hp (taken fr)).rd.mono (notRxFrames_unbound hp)) _ hself
  case _ r _ =>
    suffices hb : Beyond (notRxFrames p) u (u.passBound s p r (taken fr)) from hb _ hself
    cases hf : s.filterOf p (s.rd (Obj.FBC_RNG_OWNER.ij p r)) (taken fr) with
    | none =>
      rw [State.passBound_none u hf]
      exact .wr (.perf (.wr (.refl _ u) (hr r) _) _ _ _ _) hn _
    | some k =>
      rw [State.passBound_some u hf]
      exact ((u.countBound_beyond s p r k (hr r) (hk k)).trans (State.fifoPart_beyond _ _ _ _ _ fun n _ => notRxFrames_fifo p n)).trans
        (State.mapPart_beyond _ _ _ _ _ hs fun m hlt => notRxFrames_image (hm m hlt))

/-! ### The ways of a heard frame -/

omit hh hold in
theorem FrameHeard.failed {t : State} (h : FrameHeard s t p) : t.failed 10 = s.failed 10 := by
  refine congrArg (bit · 10) (h.rd _ ?_)
  have hk : ∀ p : Fin 24, hearKeys p Obj.PWR_UNIT_FAIL.f.key = false := by decide +kernel
  exact hk ⟨p, hp⟩

theorem canRxFrame_unbound (hr : s.rangeOf p (taken fr).id.toNat (taken fr).xtd = none) : let t := canRxFrame p fr s
    (t.port p).fifos = (s.port p).fifos ∧ t.rd (Obj.FBC_FW_RX_UNBOUND.i p) = (s.rd (Obj.FBC_FW_RX_UNBOUND.i p) + 1) % 2 ^ 32 ∧
    t.rd (Obj.FBC_FEVT_FW.i p) = 1 ∧ (∀ q, q < 8192 → t.pt q = s.pt q) ∧
    ((s.port p).fwLogAt = none → Logged s t 0 0x0609 (le 1 p ++ le 3 0 ++ le 4 (taken fr).id.toNat)) := by
  dsimp only
  rw [canRxFrame_heard hh hold, hr]
  have hu := s.hearFrame_heard hp (taken fr)
  have hfail := hu.failed hp
  generalize s.hearFrame p (taken fr) = u at hu hfail
  have hv := u.passUnbound_passed hp (taken fr)
  dsimp only
  generalize u.passUnbound p (taken fr) = v at hv
  have ht := v.select_any hp
  have hflag := State.select_flag hp hv.flag
  generalize v.select p = t at ht hflag
  refine ⟨?_, ?_, hflag, fun q hq => ?_, fun hnone => ?_⟩
  · rw [ht.port, hv.fifos, hu.port]
  · refine (ht.rd _ (requestKeys_port hp (by simp))).trans (hv.count.trans ?_)
    rw [hu.rd _ ?_]
    have hk : ∀ p : Fin 24, hearKeys p (Obj.FBC_FW_RX_UNBOUND.i p).key = false := by decide +kernel
    exact hk ⟨p, hp⟩
  · have hd := (deliveryKey_image (p := p) hq).1
    refine (ht.rd _ (requestKeys_delivery hd)).trans ((hv.rd _ ?_).trans (hu.rd _ (hearKeys_delivery hd)))
    simp [logKey, Fld.key, Row.i, Row.b, Row.at, Obj.PIMG_PT, Obj.FBC_FW_RX_UNBOUND, Obj.FBC_FEVT_FW, Obj.EVR_DROPPED, Obj.EVR_EVT_DROPPED]
    omega
  · refine Logged.of_prefix (hv.logged ?_ s hfail hu.pend (by have := hu.room; omega)) ht.pend
    rw [hu.port]
    exact hnone

theorem canRxFrame_nomatch {r : Nat} (hr : s.rangeOf p (taken fr).id.toNat (taken fr).xtd = some r)
    (hf : s.filterOf p (s.rd (Obj.FBC_RNG_OWNER.ij p r)) (taken fr) = none) : let t := canRxFrame p fr s
    t.rd (Obj.FBC_RX_NOMATCH.i p) = (s.rd (Obj.FBC_RX_NOMATCH.i p) + 1) % 2 ^ 32 ∧ (t.port p).fifos = (s.port p).fifos := by
  dsimp only
  rw [canRxFrame_heard hh hold, hr]
  have hu := s.hearFrame_heard hp (taken fr)
  dsimp only
  generalize s.hearFrame p (taken fr) = u at hu
  have ht := State.select_any hp (u.passBound s p r (taken fr))
  rw [State.passBound_none u hf] at ht ⊢
  refine ⟨(ht.rd _ (requestKeys_port hp (by simp))).trans ((State.rd_wr_self _ _ _).trans ?_), ?_⟩
  · have hne : (Obj.FBC_RNG_HITS.ij p r).key ≠ (Obj.FBC_RX_NOMATCH.i p).key := by
      simp [Fld.key, Row.i, Row.ij, Row.at, Obj.FBC_RNG_HITS, Obj.FBC_RX_NOMATCH]
      omega
    have hk : ∀ p : Fin 24, hearKeys p (Obj.FBC_RX_NOMATCH.i p).key = false := by decide +kernel
    rw [State.rd_congr (State.perf_regs _ _ _ _ _), State.inc, State.rd_wr_ne _ _ _ _ hne, hu.rd _ (hk ⟨p, hp⟩)]
    rfl
  · rw [ht.port, State.inc, State.port_congr (State.wr_fbc _ _ _), State.port_congr (State.perf_fbc _ _ _ _ _), State.inc,
      State.port_congr (State.wr_fbc _ _ _), hu.port]

section
variable {r k : Nat} (hr : s.rangeOf p (taken fr).id.toNat (taken fr).xtd = some r)
  (hf : s.filterOf p (s.rd (Obj.FBC_RNG_OWNER.ij p r)) (taken fr) = some k)
include hr hf

omit hp in
theorem canRxFrame_deliver : canRxFrame p fr s =
    (((((s.hearFrame p (taken fr)).countBound s p r k).fifoPart s p r k (taken fr)).mapPart s p r k (taken fr)).select p) := by
  rw [canRxFrame_heard hh hold, hr]
  exact congrArg (fun u : State => u.select p) (State.passBound_some _ hf)

omit hh hold in
/-- The state in which a frame meets the FIFO and the mappings of its filter. -/
theorem countBound_heard : let u := (s.hearFrame p (taken fr)).countBound s p r k
    (u.port p).fifos = (s.port p).fifos ∧ (u.port p).seqs = (s.port p).seqs ∧ u.scan = s.scan ∧
    ∀ n, n < 8 → u.rd (Obj.FBC_FIFO_LOST.ij p n) = s.rd (Obj.FBC_FIFO_LOST.ij p n) := by
  have hu := s.hearFrame_heard hp (taken fr)
  dsimp only
  generalize s.hearFrame p (taken fr) = u at hu
  have hport : (u.countBound s p r k).port p = u.port p := State.port_congr (State.countBound_fbc _ _ _ _ _) p
  have hrk : r < 16 ∧ k < 64 := ⟨List.mem_range.mp (List.mem_of_find?_eq_some hr), List.mem_range.mp (List.mem_of_find?_eq_some hf)⟩
  refine ⟨by rw [hport, hu.port], by rw [hport, hu.port], (State.countBound_scan _ _ _ _ _).trans hu.scan, fun n hn => ?_⟩
  refine (State.countBound_beyond (P := fun x => x != (Obj.FBC_FIFO_LOST.ij p n).key) _ _ _ _ _ ?_ ?_ _ (bne_self_eq_false _)).trans
    (hu.rd _ (hearKeys_delivery (deliveryKey_fifo hn).2)) <;>
  · simp [Fld.key, Row.ij, Row.at, Obj.FBC_RNG_HITS, Obj.FBC_FLT_HITS, Obj.FBC_FIFO_LOST]
    omega

theorem canRxFrame_fifo {n : Nat} (hn : s.rd (Obj.FBC_FLT_FIFO.ij p k) = n) (hto : s.on (Obj.FBC_FLT_TO_FIFO.ij p k) = true) (h8 : n < 8)
    (hm : ∀ m, m < 512 → s.rd (Obj.FBC_MAP_POINT.ij p m) < 8192) : let t := canRxFrame p fr s
    (t.port p).fifos.get [] n = pushed ((s.port p).fifos.get [] n) (s.rd (Obj.FBC_FIFO_SIZE.ij p n)) (s.on (Obj.FBC_FIFO_MODE.ij p n))
      { elemOf (taken fr) k with seq := ((s.port p).seqs.get 0 n + 1) % 65536 } ∧
    t.rd (Obj.FBC_FIFO_FILL.ij p n) = ((t.port p).fifos.get [] n).length % 2 ^ 7 ∧
    (s.rd (Obj.FBC_FIFO_SIZE.ij p n) ≤ ((s.port p).fifos.get [] n).length →
      t.rd (Obj.FBC_FIFO_LOST.ij p n) = (s.rd (Obj.FBC_FIFO_LOST.ij p n) + 1) % 2 ^ 32) := by
  dsimp only
  rw [canRxFrame_deliver hh hold hr hf]
  obtain ⟨hfi, hse, -, hlo⟩ := countBound_heard hp hr hf
  generalize (s.hearFrame p (taken fr)).countBound s p r k = u at hfi hse hlo
  have hpart : u.fifoPart s p r k (taken fr) = u.toFifo p n (s.rd (Obj.FBC_FIFO_SIZE.ij p n)) (s.rd (Obj.FBC_RNG_OWNER.ij p r))
      (s.on (Obj.FBC_FIFO_MODE.ij p n)) (elemOf (taken fr) k) := by
    rw [State.fifoPart, hto, if_pos rfl, hn]
  have hst := u.toFifo_stored p n (s.rd (Obj.FBC_FIFO_SIZE.ij p n)) (s.rd (Obj.FBC_RNG_OWNER.ij p r)) (s.on (Obj.FBC_FIFO_MODE.ij p n)) (elemOf (taken fr) k)
  rw [hpart]
  generalize u.toFifo p n (s.rd (Obj.FBC_FIFO_SIZE.ij p n)) (s.rd (Obj.FBC_RNG_OWNER.ij p r)) (s.on (Obj.FBC_FIFO_MODE.ij p n)) (elemOf (taken fr) k) = v at hst
  have hmp : Beyond (fun x => ! deliveryKey p x || (x != (Obj.FBC_FIFO_FILL.ij p n).key && x != (Obj.FBC_FIFO_LOST.ij p n).key)) v
      (v.mapPart s p r k (taken fr)) := by
    refine State.mapPart_beyond _ _ _ _ _ ?_ fun m hlt => ?_
    · simp [deliveryKey, inPort, Fld.key, Row.i, Row.at, Obj.FBC_MAP_SHORT]
      omega
    · have hq := hm m hlt
      generalize s.rd (Obj.FBC_MAP_POINT.ij p m) = q at hq
      simp only [Bool.or_eq_true, Bool.and_eq_true]
      refine ⟨.inr ?_, .inr ?_⟩ <;>
      · simp [Fld.key, Row.i, Row.ij, Row.at, Obj.PIMG_PT, Obj.PIMG_ATTR_STALE, Obj.FBC_FIFO_FILL, Obj.FBC_FIFO_LOST]
        omega
  have hfb : (v.mapPart s p r k (taken fr)).port p = v.port p := State.port_congr (State.mapPart_fbc _ _ _ _ _ _) p
  generalize v.mapPart s p r k (taken fr) = w at hmp hfb
  have ht := w.select_any hp
  generalize w.select p = t at ht
  have hport : (t.port p).fifos = (v.port p).fifos := by rw [ht.port, hfb]
  obtain ⟨hd1, hd2⟩ := deliveryKey_fifo (p := p) h8
  have hseq : u.nextSeq p n = ((s.port p).seqs.get 0 n + 1) % 65536 := by rw [State.nextSeq, hse]
  refine ⟨?_, ?_, fun hle => ?_⟩
  · rw [hport, hst.list, hfi, hseq]
  · rw [ht.rd _ (requestKeys_delivery hd1), hmp _ (by simp [hd1]), hst.fill, hport]
  · rw [ht.rd _ (requestKeys_delivery hd2), hmp _ (by simp [hd2]), hst.lost (hfi ▸ hle), hlo n h8]

theorem canRxFrame_map {m : Nat} (hto : s.on (Obj.FBC_FLT_TO_MAP.ij p k) = true)
    (hrtr : fr.rtr = false) (hm : s.mapsOf p false k = [m]) (hhold : s.scan.hold = none)
    (hfit : s.rd (Obj.FBC_MAP_BIT_OFF.ij p m) + s.rd (Obj.FBC_MAP_WIDTH_M1.ij p m) + 1 ≤ 8 * (taken fr).data.length)
    (hq : s.rd (Obj.FBC_MAP_POINT.ij p m) < 8192) : let t := canRxFrame p fr s
    t.pt (s.rd (Obj.FBC_MAP_POINT.ij p m)) = s.mapTake p m (unle (taken fr).data) % 2 ^ 64 ∧
    t.rd (Obj.PIMG_ATTR_STALE.i (s.rd (Obj.FBC_MAP_POINT.ij p m))) = 0 := by
  dsimp only
  rw [canRxFrame_deliver hh hold hr hf]
  obtain ⟨-, -, hsc, -⟩ := countBound_heard hp hr hf
  generalize (s.hearFrame p (taken fr)).countBound s p r k = u at hsc
  have hv : (u.fifoPart s p r k (taken fr)).scan.hold = none := by rw [State.fifoPart_scan, hsc, hhold]
  generalize u.fifoPart s p r k (taken fr) = v at hv
  have hone := v.applyRxMaps_one (s.rd (Obj.FBC_RNG_OWNER.ij p r)) (f := taken fr) hrtr hm hv hfit
  rw [State.mapPart, hto, if_pos rfl]
  generalize v.applyRxMaps s p k (s.rd (Obj.FBC_RNG_OWNER.ij p r)) (taken fr) = w at hone
  have ht := w.select_any hp
  obtain ⟨hd1, hd2⟩ := deliveryKey_image (p := p) hq
  exact ⟨(ht.rd _ (requestKeys_delivery hd1)).trans hone.1, (ht.rd _ (requestKeys_delivery hd2)).trans hone.2⟩

end

end

end Sys2Proof.Machine
end

section
/-!
SUPPORT. The proof of O40, continued: the port's other events.
-/
namespace Sys2Proof.Machine
open Sys2Proof.Claims

theorem pushed_room {l : List CanElem} {size : Nat} {ov : Bool} {e : CanElem} (h : l.length < size) : pushed l size ov e = l ++ [e] :=
  if_pos (by rw [decide_eq_false (Nat.not_le.mpr h)]; rfl)

theorem pushed_full {l : List CanElem} {size : Nat} {ov : Bool} {e : CanElem} (h : size ≤ l.length) :
    pushed l size ov e = if ov then l.drop 1 ++ [e] else l :=
  if_neg (by rw [decide_eq_true h]; decide)

theorem pushed_lost {l : List CanElem} {size : Nat} {ov : Bool} {e : CanElem} (h : size ≤ l.length) (ho : ov = false) : pushed l size ov e = l := by
  rw [pushed_full h, ho]
  rfl

theorem pushed_over {l : List CanElem} {size : Nat} {ov : Bool} {e : CanElem} (h : size ≤ l.length) (ho : ov = true) :
    pushed l size ov e = l.drop 1 ++ [e] := by
  rw [pushed_full h, ho]
  rfl

/-! ### Integration, exceptions, wake-up patterns -/

/-- A wake cause writes one field and may begin a transition. -/
theorem State.wake_spec (s : State) (code : Nat) : s.wake code = { s with regs := (s.wake code).regs, power := (s.wake code).power } ∧
    Beyond (· == Obj.PWR_WAKE_CAUSE.f.key) s (s.wake code) := by
  have hb : Beyond (· == Obj.PWR_WAKE_CAUSE.f.key) s (s.wakeCause code) := by
    unfold State.wakeCause
    split
    · refine .wr (.refl _ s) ?_ code
      exact beq_self_eq_true _
    · exact .refl _ s
  have he : s.wakeCause code = { s with regs := (s.wakeCause code).regs } := by
    unfold State.wakeCause
    split <;> rfl
  have ht : ∀ x : Power, ({ s.wakeCause code with power := x } : State) = { s with regs := (s.wakeCause code).regs, power := x } := fun x => by rw [he]
  unfold State.wake
  split
  · split
    · exact ⟨ht _, hb⟩
    · exact ⟨rfl, .refl _ s⟩
  · split
    · exact ⟨ht _, hb⟩
    · split
      · exact ⟨ht _, hb⟩
      · exact ⟨rfl, .refl _ s⟩

theorem State.wake_begins {s : State} (code : Nat) (h : s.power.transition = none) :
    (s.mode = 1 → (s.wake code).power.transition = some { target := 3 }) ∧ (s.mode = 2 → (s.wake code).power.transition = some { target := 6 }) ∧
    (s.mode ∈ [1, 2] → s.rd Obj.PWR_WAKE_CAUSE.f = 0 → (s.wake code).rd Obj.PWR_WAKE_CAUSE.f = code % 2 ^ 8) := by
  have hc : s.rd Obj.PWR_WAKE_CAUSE.f = 0 → (s.wakeCause code).rd Obj.PWR_WAKE_CAUSE.f = code % 2 ^ 8 := fun h0 => by
    rw [State.wakeCause, if_pos h0]
    exact State.rd_wr_self _ _ _
  unfold State.wake
  rw [h]
  dsimp only
  refine ⟨fun h1 => ?_, fun h2 => ?_, fun hm h0 => ?_⟩
  · rw [if_neg (by omega), if_pos h1]
    rfl
  · rw [if_pos h2]
    rfl
  · rw [List.mem_cons, List.mem_singleton] at hm
    obtain h1 | h2 := hm
    · rw [if_neg (by omega), if_pos h1]
      exact hc h0
    · rw [if_pos h2]
      exact hc h0

/-- What a wake-up pattern leaves. -/
structure Woken (s t : State) (p : Nat) : Prop where
  flag : t.rd (Obj.FBC_EVT_WAKE.i p) = 1
  starts : s.mode = 2 → t.portState p = 1 ∧ t.rd (Obj.FBC_TEC.i p) = 0 ∧ t.rd (Obj.FBC_REC.i p) = 0
  begins : s.power.transition = none → (s.mode = 1 → t.power.transition = some { target := 3 }) ∧
    (s.mode = 2 → t.power.transition = some { target := 6 }) ∧
    (s.mode ∈ [1, 2] → s.rd Obj.PWR_WAKE_CAUSE.f = 0 → t.rd Obj.PWR_WAKE_CAUSE.f = 0x10 + p)

theorem wakeFields_ne {p : Nat} (hp : p < 24) : (∀ r ∈ [Obj.FBC_STATE, Obj.FBC_ERR_STATE, Obj.FBC_TEC, Obj.FBC_REC],
    (r.i p).key ≠ (Obj.FBC_EVT_WAKE.i p).key ∧ (r.i p).key ≠ Obj.PWR_WAKE_CAUSE.f.key) ∧
    (Obj.FBC_EVT_WAKE.i p).key ≠ Obj.PWR_WAKE_CAUSE.f.key ∧ (Obj.FBC_EVT_WAKE.i p).key ≠ Obj.IDENT_MODE.f.key ∧
    [(Obj.FBC_STATE.i p).key, (Obj.FBC_ERR_STATE.i p).key, (Obj.FBC_TEC.i p).key, (Obj.FBC_REC.i p).key].Nodup := by
  have h : ∀ p : Fin 24, (∀ r ∈ [Obj.FBC_STATE, Obj.FBC_ERR_STATE, Obj.FBC_TEC, Obj.FBC_REC],
    (r.i p).key ≠ (Obj.FBC_EVT_WAKE.i p).key ∧ (r.i p).key ≠ Obj.PWR_WAKE_CAUSE.f.key) ∧
    (Obj.FBC_EVT_WAKE.i p).key ≠ Obj.PWR_WAKE_CAUSE.f.key ∧ (Obj.FBC_EVT_WAKE.i p).key ≠ Obj.IDENT_MODE.f.key ∧
    [(Obj.FBC_STATE.i p).key, (Obj.FBC_ERR_STATE.i p).key, (Obj.FBC_TEC.i p).key, (Obj.FBC_REC.i p).key].Nodup := by
    simp only [List.forall_mem_cons, List.not_mem_nil, false_implies, implies_true, and_true]
    decide +kernel
  exact h ⟨p, hp⟩

theorem canWakePattern_woken {s : State} {p : Nat} (hp : p < 24) (h : s.portState p = 4) (hw : bit (s.rd Obj.PWR_WAKE_CAN_EN.f) p = true) :
    Woken s (canWakePattern p s) p := by
  obtain ⟨hrows, hcause, hmode, hnd⟩ := wakeFields_ne hp
  have heq : canWakePattern p s = (if s.mode = 2 then ((s.set1 (Obj.FBC_EVT_WAKE.i p)).wake (0x10 + p)).startPort p
      else (s.set1 (Obj.FBC_EVT_WAKE.i p)).wake (0x10 + p)) := if_pos ⟨h, hw⟩
  rw [heq]
  have hf : (s.set1 (Obj.FBC_EVT_WAKE.i p)).rd (Obj.FBC_EVT_WAKE.i p) = 1 := State.rd_wr_self _ _ _
  have hm : (s.set1 (Obj.FBC_EVT_WAKE.i p)).mode = s.mode := State.rd_wr_ne _ _ _ _ hmode
  have hc : (s.set1 (Obj.FBC_EVT_WAKE.i p)).rd Obj.PWR_WAKE_CAUSE.f = s.rd Obj.PWR_WAKE_CAUSE.f := State.rd_wr_ne _ _ _ _ hcause
  have hs : (s.set1 (Obj.FBC_EVT_WAKE.i p)).portState p = 4 := (State.rd_wr_ne _ _ _ _ (hrows Obj.FBC_STATE (by simp)).1.symm).trans h
  have hpw : (s.set1 (Obj.FBC_EVT_WAKE.i p)).power = s.power := rfl
  generalize s.set1 (Obj.FBC_EVT_WAKE.i p) = t at hf hm hc hs hpw
  obtain ⟨-, hb⟩ := t.wake_spec (0x10 + p)
  have hbeg : t.power.transition = none → _ := t.wake_begins (0x10 + p)
  rw [hm, hc, hpw, show (0x10 + p) % 2 ^ 8 = 0x10 + p by omega] at hbeg
  have hf' : (t.wake (0x10 + p)).rd (Obj.FBC_EVT_WAKE.i p) = 1 := (hb _ (beq_eq_false_iff_ne.mpr hcause)).trans hf
  have hs' : (t.wake (0x10 + p)).portState p = 4 := (hb _ (beq_eq_false_iff_ne.mpr (hrows Obj.FBC_STATE (by simp)).2)).trans hs
  generalize t.wake (0x10 + p) = u at hf' hs' hbeg
  split
  case isFalse hn => exact ⟨hf', fun h2 => absurd h2 hn, hbeg⟩
  case isTrue =>
    have hst : u.startPort p = u.wrs [(Obj.FBC_STATE.i p, portIntegrating), (Obj.FBC_ERR_STATE.i p, 0), (Obj.FBC_TEC.i p, 0), (Obj.FBC_REC.i p, 0)] :=
      if_pos (.inr hs')
    rw [hst]
    have hne : ∀ g : Fld, (∀ r ∈ [Obj.FBC_STATE, Obj.FBC_ERR_STATE, Obj.FBC_TEC, Obj.FBC_REC], (r.i p).key ≠ g.key) →
        (u.wrs [(Obj.FBC_STATE.i p, portIntegrating), (Obj.FBC_ERR_STATE.i p, 0), (Obj.FBC_TEC.i p, 0), (Obj.FBC_REC.i p, 0)]).rd g = u.rd g := by
      intro g hg
      refine State.rd_wrs_ne ?_
      simpa using hg
    refine ⟨(hne _ fun r hr => (hrows r hr).1).trans hf', fun _ => ⟨?_, ?_, ?_⟩, fun hn => ?_⟩
    · exact (State.rd_wrs_mem (f := (Obj.FBC_STATE.i p, portIntegrating).1) (v := (Obj.FBC_STATE.i p, portIntegrating).2) (by simpa using hnd) (by simp)).trans rfl
    · exact (State.rd_wrs_mem (f := (Obj.FBC_TEC.i p, 0).1) (v := (Obj.FBC_TEC.i p, 0).2) (by simpa using hnd) (by simp)).trans rfl
    · exact (State.rd_wrs_mem (f := (Obj.FBC_REC.i p, 0).1) (v := (Obj.FBC_REC.i p, 0).2) (by simpa using hnd) (by simp)).trans rfl
    · obtain ⟨h1, h2, h3⟩ := hbeg hn
      rw [State.wrs_eq]
      refine ⟨h1, h2, fun hm h0 => ?_⟩
      rw [← State.wrs_eq]
      exact (hne _ fun r hr => (hrows r hr).2).trans (h3 hm h0)

end Sys2Proof.Machine

namespace Sys2Proof.Proofs
open Sys2Proof.Machine Sys2Proof.Claims

section
variable {s : State} {port : Fin 24} {now : Nat}

/-- A port takes a frame that is of a form it knows, on the bus. -/
theorem canRxFrame_ignored {fr : CanFrame}
    (h : ¬ ((s.advance now).onBus port.val = true ∧ (fr.fdf = true → s.on (Obj.FBC_CFG_FD_EN.i port.val) = true))) :
    Completes (.canRxFrame port fr now) s fun t => t = s.advance now :=
  .of_exec rfl (canRxFrame_deaf h)

theorem canRxError_off {ev : RxError} (h : (s.advance now).onBus port.val = false) :
    Completes (.canRxError port ev now) s fun t => t = s.advance now :=
  .of_exec rfl (if_pos (by rw [h]; rfl))

theorem protocolException_integrates (h : (s.advance now).onBus port.val = true) (hx : s.on (Obj.FBC_CFG_PXE.i port.val) = true) :
    Completes (.protocolException port now) s fun t => OneField s t (Obj.FBC_STATE.i port.val) 1 := by
  have he : protocolException port.val (s.advance now) = (s.advance now).wr (Obj.FBC_STATE.i port.val) portIntegrating :=
    if_pos (by rw [h]; exact hx)
  refine .of_exec rfl ?_
  rw [he]
  exact OneField.wr rfl rfl

theorem protocolException_ignored (h : (s.advance now).onBus port.val = false ∨ s.on (Obj.FBC_CFG_PXE.i port.val) = false) :
    Completes (.protocolException port now) s fun t => t = s.advance now := by
  refine .of_exec rfl (if_neg ?_)
  rw [Bool.and_eq_true]
  rintro ⟨h1, h2⟩
  obtain h | h := h
  · exact absurd (h1.symm.trans h) (by decide)
  · exact absurd (h2.symm.trans h) (by decide)

theorem busIntegration_runs (h : s.portState port.val = 1) : Completes (.busIntegration port now) s fun t =>
    t.portState port.val = (if s.on (Obj.FBC_CFG_LISTEN.i port.val) = true then 3 else 2) ∧
    (Calm s port.val → Kept [Obj.FBC_STATE.i port.val] s t) := by
  have he : busIntegration port.val (s.advance now) = ((s.advance now).wr (Obj.FBC_STATE.i port.val)
      (if s.on (Obj.FBC_CFG_LISTEN.i port.val) then portListening else portRunning)).select port.val := if_pos h
  refine .of_exec rfl ?_
  rw [he]
  generalize hv : (if s.on (Obj.FBC_CFG_LISTEN.i port.val) = true then portListening else portRunning) = v
  refine ⟨(((State.select_any port.isLt _).rd.portState port.isLt).trans (State.rd_wr_self _ _ _)).trans ?_, fun hc => ?_⟩
  · rw [← hv]
    split <;> rfl
  · have hcalm : Calm ((s.advance now).wr (Obj.FBC_STATE.i port.val) v) port.val := by
      refine (State.bufsIn_congr (s := s) (fun n _ => State.rd_wr_ne _ _ _ _ ?_) 1).trans hc
      simp [Fld.key, Row.i, Row.ij, Row.at, Obj.FBC_STATE, Obj.FBC_TXB_STATE]
      omega
    rw [State.select_calm hcalm]
    exact (OneField.wr (s := s) (t := s.advance now) (f := Obj.FBC_STATE.i port.val) (w := v) rfl rfl).2

theorem busIntegration_ignored (h : s.portState port.val ≠ 1) : Completes (.busIntegration port now) s fun t => t = s.advance now :=
  .of_exec rfl (if_neg h)

theorem canWakePattern_ignored (h : s.portState port.val ≠ 4 ∨ bit (s.rd Obj.PWR_WAKE_CAN_EN.f) port.val = false) :
    Completes (.canWakePattern port now) s fun t => t = s.advance now := by
  refine .of_exec rfl (if_neg ?_)
  rintro ⟨h1, h2⟩
  obtain h | h := h
  · exact h h1
  · exact absurd (h2.symm.trans h) (by decide)

theorem canWakePattern_wakes (h : s.portState port.val = 4) (hw : bit (s.rd Obj.PWR_WAKE_CAN_EN.f) port.val = true) :
    Completes (.canWakePattern port now) s fun t => Woken s t port.val := by
  have hk := canWakePattern_woken (s := s.advance now) port.isLt h hw
  exact .of_exec rfl ⟨hk.flag, hk.starts, hk.begins⟩

section
variable {who : Requester} {k : Fin 8} {n : BitVec 7}

theorem fifoPop_pops (h : MayUse s who (fifoAddr port.val k.val 0xC)) : Completes (.fifoPop who port k n now) s fun t =>
    (t.port port.val).fifos.get [] k.val = ((s.port port.val).fifos.get [] k.val).drop n.toNat ∧
    OneField s t (Obj.FBC_FIFO_FILL.ij port.val k.val) ((((s.port port.val).fifos.get [] k.val).drop n.toNat).length % 2 ^ 7) := by
  have he : fifoPop who port.val k.val n.toNat (s.advance now) = (s.advance now).popFifo port.val k.val n.toNat :=
    if_pos (mayUse_and.mpr (mayUse_advance.mpr h))
  have hl := (s.advance now).popFifo_get port.val k.val n.toNat
  refine .of_exec rfl ?_
  rw [he]
  refine ⟨hl, ?_⟩
  have ho := (s.advance now).popFifo_fill port.val k.val n.toNat
  exact ho.congr rfl

theorem fifoPop_denied (h : ¬ MayUse s who (fifoAddr port.val k.val 0xC)) :
    Completes (.fifoPop who port k n now) s fun t => t = s.advance now :=
  .of_exec rfl (if_neg fun hn => h (mayUse_advance.mp (mayUse_and.mp hn)))

end

end

/-- Settles O40. A heard frame passes the counters, the firewall and its filter in turn; each leaves the fields of the later ones alone. -/
theorem canReceives : Obligations.CanReceives := by
  unfold Obligations.CanReceives
  refine ⟨fun port fr now s => ⟨canRxFrame_ignored, fun hh hold => ⟨fun hm => ?_, fun hr => ?_, fun r hr => ⟨fun hf => ?_, fun k hf => ⟨fun hto h8 hm => ?_,
      fun m hto hrtr hm hhold hfit hq h8 => ?_⟩⟩⟩⟩,
    fun port ev now s => ⟨canRxError_off, fun h => ?_⟩,
    fun port now s => ⟨protocolException_integrates, protocolException_ignored, busIntegration_runs, busIntegration_ignored, fun h hw => ?_,
      canWakePattern_ignored, fun who k n => ⟨fifoPop_pops, fifoPop_denied⟩⟩⟩
  case refine_1 => exact .of_exec rfl (canRxFrame_count (s := s.advance now) port.isLt hh hold hm)
  case refine_2 => exact .of_exec rfl (canRxFrame_unbound (s := s.advance now) port.isLt hh hold hr)
  case refine_3 => exact .of_exec rfl (canRxFrame_nomatch (s := s.advance now) port.isLt hh hold hr hf)
  case refine_4 =>
    have ht := canRxFrame_fifo (s := s.advance now) port.isLt hh hold hr hf rfl hto h8 hm
    obtain ⟨hl, hfill, hlost⟩ := ht
    refine .of_exec rfl ⟨hfill, fun hlt => ⟨_, ?_, holds_elemOf (taken fr) k _⟩, fun hle => ⟨hlost hle, fun hmode => ?_, fun hmode => ⟨_, ?_, holds_elemOf (taken fr) k _⟩⟩⟩
    · exact hl.trans (pushed_room hlt)
    · exact hl.trans (pushed_lost hle hmode)
    · exact hl.trans (pushed_over hle hmode)
  case refine_5 => exact .of_exec rfl (canRxFrame_map (s := s.advance now) port.isLt hh hold hr hf hto hrtr hm hhold hfit hq)
  case refine_6 =>
    have hk := canRxError_failed (s := s.advance now) port.isLt ev h
    refine .of_exec rfl ⟨hk.errFrames, hk.recCount, hk.errState, fun id xtd hid => ?_⟩
    obtain ⟨h1, h2, h3⟩ := hk.disturbed id xtd hid
    refine ⟨h1, h2, fun h0 hle => ?_⟩
    rw [h2] at h3
    exact h3 h0 hle
  case refine_7 =>
    obtain ⟨t, he, hk⟩ := canWakePattern_wakes h hw
    exact ⟨t, he, hk.flag, hk.starts, hk.begins⟩

end Sys2Proof.Proofs
end

section
/-!
SUPPORT. What the end of a session leaves alone (spec/03 R66, R74): cancelling its requests touches the buffers of the CAN ports, the
memory test, the update and the recorder's counts, and no other stored field.
-/
namespace Sys2Proof.Machine
open Sys2Proof.Claims

/-! ### The fields that an end of sessions may change -/

/-- The request and collision fields of a CAN port of any number. -/
def canKey (k : Nat) : Bool :=
  decide (8 * 0x800000 ≤ k) && (decide (0x54 ≤ k / 8 % 0x80 ∧ k / 8 % 0x80 < 0x58 ∨ 0x60 ≤ k / 8 % 0x80 ∧ k / 8 % 0x80 < 0x68) ||
    decide (0x114 ≤ k / 8 % 0x10000 ∧ k / 8 % 0x10000 < 0x140))

/-- The fields of a memory test in progress or over, and of an update in progress. -/
def workKey (k : Nat) : Bool :=
  decide (8 * 0x61000 ≤ k ∧ k < 8 * 0x61018) && k != Obj.MTE_STATE_STARTUP_OK.f.key || k == Obj.UPD_STATE.f.key || k == Obj.UPD_BUILD_LO.f.key

def hushKeys (k : Nat) : Bool := canKey k || logKey k || workKey k

theorem hushKeys_of_log : ∀ k, logKey k = true → hushKeys k = true := fun k h => by simp [hushKeys, h]

theorem hushKeys_of_end {p b : Nat} : ∀ k, endKeys p b k = true → hushKeys k = true := by
  intro k h
  cases hl : logKey k with
  | true => exact hushKeys_of_log k hl
  | false =>
    simp [endKeys, bufKeys, collKeys, inPort, hl, Fld.key, Row.i, Row.at, Obj.FBC_FEVT_COLLISION] at h
    simp only [hushKeys, canKey, Bool.or_eq_true, Bool.and_eq_true, decide_eq_true_eq]
    exact .inl (.inl (by omega))

theorem hushKeys_of_select {p : Nat} {l : List Nat} : ∀ k, selectKeys p l k = true → hushKeys k = true := by
  intro k h
  cases hl : logKey k with
  | true => exact hushKeys_of_log k hl
  | false =>
    rw [selectKeys, hl] at h
    simp only [Bool.or_eq_true, Bool.false_eq_true, or_false] at h
    obtain ((h | h) | h) | h := h
    · obtain ⟨b, -, hb⟩ := List.any_eq_true.mp h
      exact hushKeys_of_end k (p := p) (b := b) (by simp [endKeys, hb])
    · exact hushKeys_of_end k (p := p) (b := 0) (by simp [endKeys, h])
    all_goals
      simp [Fld.key, Row.i, Row.at, Obj.FBC_FW_TX_BLOCK, Obj.FBC_FEVT_FW] at h
      simp only [hushKeys, canKey, Bool.or_eq_true, Bool.and_eq_true, decide_eq_true_eq]
      exact .inl (.inl (by omega))

/-! ### A state after some requests and sessions have ended -/

/-- Every session of `t` is one of `s`, with its compartment and its connection. -/
def Stays (s t : State) : Prop := ∀ i y, t.session i = some y → ∃ z, s.session i = some z ∧ y.conn = z.conn ∧ y.comp = z.comp

theorem State.session_isSome (s : State) (i : Nat) : (s.session i).isSome = true ↔ i ∈ s.sessions.map (·.id) := by
  simp [State.session, List.find?_isSome]

theorem Talked.stays {s t : State} (h : Talked s t) : Stays s t := by
  intro i y hy
  have hi : (s.session i).isSome = true := by
    rw [State.session_isSome, ← h.ids, ← State.session_isSome, hy]
    rfl
  obtain ⟨z, hz⟩ := Option.isSome_iff_exists.mp hi
  obtain ⟨w, hw, hc, hm⟩ := h.session i z hz
  obtain rfl : y = w := Option.some.inj (hy.symm.trans hw)
  exact ⟨z, hz, hc, hm⟩

/-- What ended requests and sessions leave. -/
structure Hushed (s t : State) : Prop where
  eq : t = { s with
    sessions := t.sessions, sent := t.sent, waiters := t.waiters, evr := t.evr, regs := t.regs, pmon := t.pmon, fbc := t.fbc, mte := t.mte,
    captures := t.captures, conns := t.conns, scan := { s.scan with progs := t.scan.progs }, agm := { s.agm with running := t.agm.running },
    upd := { s.upd with owner := t.upd.owner, activateAt := t.upd.activateAt },
    rtc := { s.rtc with shadows := t.rtc.shadows, owed := t.rtc.owed } }
  rd : Beyond hushKeys s t
  pend : s.evr.pend <+: t.evr.pend
  sent : s.sent <+: t.sent
  stays : Stays s t
  waits : Remains s t

section
variable {s t u : State}

theorem Stays.trans (h : Stays s t) (k : Stays t u) : Stays s u := by
  intro i y hy
  obtain ⟨z, hz, hc, hm⟩ := k i y hy
  obtain ⟨w, hw, hc', hm'⟩ := h i z hz
  exact ⟨w, hw, hc.trans hc', hm.trans hm'⟩

theorem Stays.of_eq (h : t.sessions = s.sessions) : Stays s t := fun i y hy => ⟨y, (State.session_congr h i).symm.trans hy, rfl, rfl⟩

theorem Hushed.refl (s : State) : Hushed s s := ⟨rfl, .refl _ s, List.prefix_refl _, List.prefix_refl _, .of_eq rfl, .of_eq rfl⟩

theorem Hushed.trans (h : Hushed s t) (k : Hushed t u) : Hushed s u := by
  refine ⟨?_, h.rd.trans k.rd, h.pend.trans k.pend, h.sent.trans k.sent, h.stays.trans k.stays, h.waits.trans k.waits⟩
  rw [k.eq, h.eq]

theorem Hushed.of_work {p : Nat} {P : Nat → Bool} (h : CanWork p P s t) (hp : ∀ k, P k = true → hushKeys k = true) : Hushed s t := by
  refine ⟨?_, h.rd.mono hp, h.pend, h.talked.sent, h.talked.stays, h.waits⟩
  rw [h.eq]

theorem Hushed.of_ended (h : Ended s t) (k : Talked s t) : Hushed s t := by
  refine ⟨?_, h.beyond hushKeys_of_log, h.pend, k.sent, k.stays, .of_eq (by rw [h.eq])⟩
  rw [h.eq]

theorem Hushed.finalTo (h : Hushed s t) (sid seq cmd st : Nat) (d : Bytes) (whole : Bool) : Hushed s (t.finalTo sid seq cmd st d whole) :=
  h.trans (.of_ended (t.finalTo_ended sid seq cmd st d whole) (t.finalTo_talked sid seq cmd st d whole))

theorem Hushed.finish (h : Hushed s t) (w : Wait) (st : Nat) (d : Bytes) : Hushed s (t.finish w st d) := by
  have h0 : Hushed t { t with waiters := t.waiters.filter fun x => x.wait != w } :=
    ⟨rfl, .of_regs _ rfl, List.prefix_refl _, List.prefix_refl _, .of_eq rfl, .of_subset (List.filter_sublist.subset)⟩
  have he := t.finish_ended w st d
  have hk := t.finish_talked w st d
  exact h.trans (h0.trans (.of_ended he ⟨hk.sent, hk.session, hk.ids⟩))

theorem Hushed.wrs (h : Hushed s t) {l : List (Fld × Nat)} (hl : ∀ x ∈ l, hushKeys x.1.key = true) : Hushed s (t.wrs l) := by
  refine h.trans ⟨?_, .wrs (.refl _ t) hl, ?_, ?_, .of_eq (State.wrs_sessions t l), .of_eq (State.wrs_waiters t l)⟩
  · rw [State.wrs_eq]
  · rw [State.wrs_eq]
  · rw [State.wrs_sent]

theorem Hushed.raised (h : Hushed s t) {n : Nat} (k : Raised n t u) : Hushed s u := h.trans (.of_ended k.ended k.talked)

theorem Hushed.foldl (h : Hushed s t) {α : Type} {f : State → α → State} {l : List α} (hf : ∀ u, ∀ a ∈ l, Hushed u (f u a)) :
    Hushed s (l.foldl f t) := by
  induction l generalizing t with
  | nil => exact h
  | cons a l ih => exact ih (h.trans (hf t a List.mem_cons_self)) fun u b hb => hf u b (List.mem_cons_of_mem a hb)

theorem Hushed.ite (h : Hushed s t) (k : Hushed s u) {c : Prop} [Decidable c] : Hushed s (if c then t else u) := by
  split
  · exact h
  · exact k

/-! ### Cancelling -/

theorem State.cancelTx_hushed (s : State) (p b : Nat) : Hushed s ((s.cancelTx p b).select p) := by
  have h : Hushed s (s.cancelTx p b) := by
    unfold State.cancelTx
    dsimp only
    refine .ite (.of_work (s.endTx_work _ _ _) hushKeys_of_end) (.ite (.of_work (s.endTx_work _ _ _) hushKeys_of_end) (.ite ?_ (.refl s)))
    exact .of_work (P := endKeys p b) (.putTxReq (.refl s) _ _) hushKeys_of_end
  exact h.trans (.of_work (State.select_work _) hushKeys_of_select)

theorem workKey_test : ∀ f ∈ [Obj.MTE_STATE_RUNNING.f, Obj.MTE_RES_BANK.f, Obj.MTE_RES_MODE.f, Obj.MTE_RES_OUTCOME.f, Obj.MTE_RES_ROWS.f,
    Obj.MTE_RES_FIRST.f, Obj.MTE_RES_DURATION.f, Obj.MTE_RES_END_TIME.f, Obj.UPD_STATE.f, Obj.UPD_BUILD_LO.f], hushKeys f.key = true := by
  decide +kernel

theorem State.abortTest_hushed (s : State) : Hushed s s.abortTest := by
  unfold State.abortTest
  split
  · exact .refl s
  case _ x _ =>
    refine .finish ?_ _ _ _
    unfold State.endTest
    dsimp only
    refine Hushed.trans (t := { s with mte := none }) ⟨rfl, .of_regs _ rfl, List.prefix_refl _, List.prefix_refl _, .of_eq rfl, .of_eq rfl⟩ (.wrs (.refl _) ?_)
    have h := workKey_test
    simp only [List.forall_mem_cons, List.not_mem_nil, false_implies, implies_true, and_true] at h ⊢
    obtain ⟨h1, h2, h3, h4, h5, h6, h7, h8, -⟩ := h
    exact ⟨h1, h2, h3, h4, h5, h6, h7, h8⟩

theorem State.updAbort_hushed (s : State) (cause : Nat) : Hushed s (s.updAbort cause false) := by
  refine .raised ?_ (State.logAll_raised _ _ _ _ _)
  refine .finish (.finish (Hushed.trans (t := { s with upd := { s.upd with owner := none, activateAt := none } })
    ⟨rfl, .of_regs _ rfl, List.prefix_refl _, List.prefix_refl _, .of_eq rfl, .of_eq rfl⟩ (.wrs (.refl _) ?_)) _ _ _) _ _ _
  have h := workKey_test
  simp only [List.forall_mem_cons, List.not_mem_nil, false_implies, implies_true, and_true] at h ⊢
  obtain ⟨-, -, -, -, -, -, -, -, h9, h10⟩ := h
  exact ⟨h9, h10⟩

theorem State.cancelWaiter_hushed (s : State) (w : Waiter) : Hushed s (s.cancelWaiter w) := by
  have h0 : Hushed s ({ s with waiters := s.waiters.filter fun x => ! (x.sid == w.sid && x.seq == w.seq) }) :=
    ⟨rfl, .of_regs _ rfl, List.prefix_refl _, List.prefix_refl _, .of_eq rfl, .of_subset (List.filter_sublist.subset)⟩
  have h1 := h0.finalTo w.sid w.seq w.cmd St.cancelled [] false
  unfold State.cancelWaiter
  dsimp only
  generalize State.finalTo _ w.sid w.seq w.cmd St.cancelled [] false = t at h1
  split
  · exact h1.trans ⟨rfl, .of_regs _ rfl, List.prefix_refl _, List.prefix_refl _, .of_eq rfl, .of_eq rfl⟩
  · exact h1.trans (t.cancelTx_hushed _ _)
  · exact h1.trans t.abortTest_hushed
  · exact h1.trans ⟨rfl, .of_regs _ rfl, List.prefix_refl _, List.prefix_refl _, .of_eq rfl, .of_eq rfl⟩
  · exact h1

/-! ### The end of sessions -/

theorem State.stays_drop (s : State) (i : Nat) : Stays s { s with sessions := s.sessions.filter fun x => x.id != i } := by
  intro j y hy
  refine ⟨y, ?_, rfl, rfl⟩
  change (s.sessions.filter fun x => x.id != i).find? _ = some y at hy
  have hj : i ≠ j := by
    rintro rfl
    have hm := List.mem_of_find?_eq_some hy
    have he := List.find?_some hy
    simp at hm he
    exact hm.2 he
  rw [List.find?_filter] at hy
  refine Eq.trans (congrArg (fun q => s.sessions.find? q) (funext fun x => ?_)) hy
  by_cases hx : x.id = j
  · simp [hx, hj.symm]
  · simp [hx]

theorem State.endSession_hushed (s : State) (i : Nat) : Hushed s (s.endSession i) := by
  unfold State.endSession
  split
  · exact .refl s
  · dsimp only
    have h1 : Hushed s ((s.cancellableOf i).foldl State.cancelWaiter s) := .foldl (.refl s) fun u w _ => u.cancelWaiter_hushed w
    generalize (s.cancellableOf i).foldl State.cancelWaiter s = t at h1
    have h2 : Hushed s (if t.upd.owner = some i then t.updAbort 2 false else t) := .ite (h1.trans (t.updAbort_hushed 2)) h1
    generalize (if t.upd.owner = some i then t.updAbort 2 false else t) = u at h2
    exact h2.trans ⟨rfl, .of_regs _ rfl, List.prefix_refl _, List.prefix_refl _, u.stays_drop i, .of_eq rfl⟩

theorem State.endSessions_hushed (s : State) (f : Session → Bool) : Hushed s (s.endSessions f) :=
  .foldl (.refl s) fun u x _ => u.endSession_hushed x.id

theorem State.judgeUsb_hushed (s : State) : Hushed s s.judgeUsb := by
  unfold State.judgeUsb
  split
  · exact .refl s
  · exact (s.endSessions_hushed _).trans ⟨rfl, .of_regs _ rfl, List.prefix_refl _, List.prefix_refl _, .of_eq rfl, .of_eq rfl⟩

end

end Sys2Proof.Machine
end

section
/-!
SUPPORT. The proof of O28: key update messages and their application, the key authority, statements (spec/15 R369 to R374, R378 to R380).
-/
namespace Sys2Proof.Machine
open Sys2Proof.Claims

/-! ### Key slots -/

theorem State.tab_del_self {α : Type} (t : Tab α) (k : Nat) (d : α) : (t.del k).get d k = d := by
  induction t with
  | nil => rfl
  | cons x l ih =>
    unfold Tab.del at ih ⊢
    by_cases h : x.1 = k
    · rw [List.filter_cons_of_neg (by simpa using h)]
      exact ih
    · rw [List.filter_cons_of_pos (by simpa using h)]
      unfold Tab.get
      rw [if_neg h]
      exact ih

/-- A descriptor fits the fields that show it. -/
def KeySlot.fits (d : KeySlot) : Prop := d.state < 4 ∧ d.usage < 4 ∧ d.ktype < 16 ∧ d.owner < 256

/-- The fields of a descriptor. -/
def slotKeys (k n : Nat) : Bool := decide (8 * (0x70000 + 0x10 * k) ≤ n ∧ n < 8 * (0x70010 + 0x10 * k))

theorem slotKeys_mem (k : Nat) : ∀ r ∈ [Obj.KSE_SLOT_STATE, Obj.KSE_SLOT_USAGE, Obj.KSE_SLOT_KTYPE, Obj.KSE_SLOT_OWNER, Obj.KSE_SLOT_PARENT,
    Obj.KSE_SLOT_ORIGIN, Obj.KSE_SLOT_GEN, Obj.KSE_SLOT_CTR], slotKeys k (r.i k).key = true := by
  simp [slotKeys, Fld.key, Row.i, Row.at, Obj.KSE_SLOT_STATE, Obj.KSE_SLOT_USAGE, Obj.KSE_SLOT_KTYPE, Obj.KSE_SLOT_OWNER, Obj.KSE_SLOT_PARENT,
    Obj.KSE_SLOT_ORIGIN, Obj.KSE_SLOT_GEN, Obj.KSE_SLOT_CTR]
  omega

theorem slotKeys_nodup (k : Nat) : ([Obj.KSE_SLOT_STATE, Obj.KSE_SLOT_USAGE, Obj.KSE_SLOT_KTYPE, Obj.KSE_SLOT_OWNER, Obj.KSE_SLOT_PARENT,
    Obj.KSE_SLOT_ORIGIN, Obj.KSE_SLOT_GEN, Obj.KSE_SLOT_CTR].map fun r => (r.i k).key).Nodup := by
  simp [Fld.key, Row.i, Row.at, Obj.KSE_SLOT_STATE, Obj.KSE_SLOT_USAGE, Obj.KSE_SLOT_KTYPE, Obj.KSE_SLOT_OWNER, Obj.KSE_SLOT_PARENT,
    Obj.KSE_SLOT_ORIGIN, Obj.KSE_SLOT_GEN, Obj.KSE_SLOT_CTR]
  omega

/-- What a slot shows and holds after it is set. -/
structure SlotPut (s t : State) (k : Nat) (d : KeySlot) (key : Bytes) : Prop where
  shows : d.fits → Shows t k d.state d.usage d.ktype d.owner
  key : t.slotKey k = key
  gen : t.slotGen k = d.gen % 2 ^ 32
  ctr : t.rd (Obj.KSE_SLOT_CTR.i k) = d.ctr % 2 ^ 64
  rd : Beyond (slotKeys k) s t
  eq : t = { s with kse := { s.kse with keys := t.kse.keys, orphans := t.kse.orphans }, regs := t.regs }

theorem State.putKey_put (s : State) (k : Nat) (d : KeySlot) (key : Bytes) : SlotPut s (s.putKey k d key) k d key := by
  have hn := slotKeys_nodup k
  have hm := slotKeys_mem k
  have hk : (s.putKey k d key).kse.keys = if key = [] then s.kse.keys.del k else s.kse.keys.put k key := by
    unfold State.putKey
    rw [State.wrs_eq]
  have hmem : ∀ (r : Row) (v : Nat), (r.i k, v) ∈ [(Obj.KSE_SLOT_STATE.i k, d.state), (Obj.KSE_SLOT_USAGE.i k, d.usage),
      (Obj.KSE_SLOT_KTYPE.i k, d.ktype), (Obj.KSE_SLOT_OWNER.i k, d.owner), (Obj.KSE_SLOT_PARENT.i k, d.parent),
      (Obj.KSE_SLOT_ORIGIN.i k, d.origin), (Obj.KSE_SLOT_GEN.i k, d.gen), (Obj.KSE_SLOT_CTR.i k, d.ctr)] →
      (s.putKey k d key).rd (r.i k) = v % 2 ^ (r.i k).width := fun r v h => State.rd_wrs_mem (by simpa using hn) h
  refine ⟨fun ⟨h1, h2, h3, h4⟩ => ⟨?_, ?_, ?_, ?_⟩, ?_, ?_, ?_, ?_, ?_⟩
  · exact (hmem Obj.KSE_SLOT_STATE d.state (by simp)).trans (Nat.mod_eq_of_lt h1)
  · exact (hmem Obj.KSE_SLOT_USAGE d.usage (by simp)).trans (Nat.mod_eq_of_lt h2)
  · exact (hmem Obj.KSE_SLOT_KTYPE d.ktype (by simp)).trans (Nat.mod_eq_of_lt h3)
  · exact (hmem Obj.KSE_SLOT_OWNER d.owner (by simp)).trans (Nat.mod_eq_of_lt h4)
  · unfold State.slotKey
    rw [hk]
    split
    case isTrue h => rw [h, State.tab_del_self]
    case isFalse => exact Tab.get_put_self _ _ _ _
  · exact hmem Obj.KSE_SLOT_GEN d.gen (by simp)
  · exact hmem Obj.KSE_SLOT_CTR d.ctr (by simp)
  · unfold State.putKey
    refine Beyond.trans (Beyond.of_regs _ ?_) (Beyond.wrs (Beyond.refl _ _) ?_)
    · rfl
    · simpa using hm
  · unfold State.putKey
    rw [State.wrs_eq]

/-! ### Fields apart -/

theorem logKey_iff {n : Nat} : logKey n = true ↔ n % 2 ^ 40 = 1573088 ∨ n % 2 ^ 40 = 1573120 := by
  rw [logKey, Bool.or_eq_true, beq_iff_eq, beq_iff_eq]
  exact Iff.rfl

theorem workKey_iff {n : Nat} : workKey n = true ↔
    ((8 * 0x61000 ≤ n ∧ n < 8 * 0x61018) ∧ n ≠ 3178497) ∨ n = 4718592 ∨ n = 4718784 := by
  rw [workKey, Bool.or_eq_true, Bool.or_eq_true, Bool.and_eq_true, beq_iff_eq, beq_iff_eq, bne_iff_ne, decide_eq_true_eq, or_assoc]
  exact Iff.rfl

/-- A field below the CAN ports, or apart from the request and collision fields, is no field of theirs. -/
theorem canKey_low {n : Nat} (h : n < 8 * 0x800000) : canKey n = false := by
  rw [canKey, decide_eq_false (by omega), Bool.false_and]

theorem hushKeys_eq_false {n : Nat} (hc : canKey n = false) (hl : n % 2 ^ 40 ≠ 1573088 ∧ n % 2 ^ 40 ≠ 1573120)
    (hw : ¬ (8 * 0x61000 ≤ n ∧ n < 8 * 0x61018) ∧ n ≠ 4718592 ∧ n ≠ 4718784) : hushKeys n = false := by
  have h1 : logKey n = false := Bool.eq_false_iff.mpr fun h => (logKey_iff.mp h).elim hl.1 hl.2
  have h2 : workKey n = false := Bool.eq_false_iff.mpr fun h => (workKey_iff.mp h).elim (fun h => hw.1 h.1) fun h => h.elim hw.2.1 hw.2.2
  rw [hushKeys, hc, h1, h2]
  rfl

theorem hushKeys_slot {k n : Nat} (hk : k < 256) (h : slotKeys k n = true) : hushKeys n = false := by
  rw [slotKeys, decide_eq_true_eq] at h
  exact hushKeys_eq_false (canKey_low (by omega)) ⟨by omega, by omega⟩ ⟨by omega, by omega, by omega⟩

theorem canKey_apart {n : Nat} (h : ¬ (0x54 ≤ n / 8 % 0x80 ∧ n / 8 % 0x80 < 0x58 ∨ 0x60 ≤ n / 8 % 0x80 ∧ n / 8 % 0x80 < 0x68))
    (k : ¬ (0x114 ≤ n / 8 % 0x10000 ∧ n / 8 % 0x10000 < 0x140)) : canKey n = false := by
  rw [canKey, decide_eq_false h, decide_eq_false k, Bool.or_false, Bool.and_false]

/-- A banked field is at its place in its bank. -/
theorem Row.key_b (r : Row) (c : Nat) (h : r.banked = true) (hd : r.dims = []) : (r.b c).key = c * 2 ^ 40 + (8 * r.base + r.lo) := by
  rw [Row.b, Row.at, h, hd]
  rfl

/-- The fields of a key's owner, and of the key authority. -/
theorem hushKeys_owner (c : Nat) : hushKeys (Obj.KSE_CTR.b c).key = false ∧ hushKeys (Obj.KSE_EVT_UPDATED.b c).key = false ∧
    hushKeys Obj.KSE_KA_CTR.f.key = false ∧ hushKeys Obj.KSE_KA_PRESENT.f.key = false := by
  refine ⟨?_, ?_, by decide +kernel, by decide +kernel⟩
  · rw [Row.key_b _ c rfl rfl, show 8 * Obj.KSE_CTR.base + Obj.KSE_CTR.lo = 3702784 from rfl]
    exact hushKeys_eq_false (canKey_apart (by omega) (by omega)) ⟨by omega, by omega⟩ ⟨by omega, by omega, by omega⟩
  · rw [Row.key_b _ c rfl rfl, show 8 * Obj.KSE_EVT_UPDATED.base + Obj.KSE_EVT_UPDATED.lo = 3702881 from rfl]
    exact hushKeys_eq_false (canKey_apart (by omega) (by omega)) ⟨by omega, by omega⟩ ⟨by omega, by omega, by omega⟩

theorem slotKeys_owner {k : Nat} (hk : k < 256) (c : Nat) : slotKeys k (Obj.KSE_CTR.b c).key = false ∧ slotKeys k (Obj.KSE_EVT_UPDATED.b c).key = false ∧
    slotKeys k Obj.KSE_KA_CTR.f.key = false ∧ slotKeys k Obj.KSE_KA_PRESENT.f.key = false := by
  simp [slotKeys, Fld.key, Row.f, Row.b, Row.at, Obj.KSE_CTR, Obj.KSE_EVT_UPDATED, Obj.KSE_KA_CTR, Obj.KSE_KA_PRESENT]
  omega

/-! ### The key authority -/

/-- The authority's slot and counter set, and recorded. -/
def State.setAuthority (s : State) (key : Bytes) (ctr : Nat) : State :=
  (((s.putKey authoritySlot { state := 1, usage := 1, ktype := 4, owner := 0xFF, origin := 3 } key).wr Obj.KSE_KA_PRESENT.f 1).wr
    Obj.KSE_KA_CTR.f ctr).log 0 0x0804 []

/-- Sessions verified against the old authority end. -/
def State.authorityDone (u : State) : State := (u.endVerified authoritySlot).judgeUsb

/-- What a new authority leaves. -/
structure AuthoritySet (s t : State) (key : Bytes) (ctr : Nat) : Prop where
  shows : Shows t 4 1 1 4 0xFF
  key : t.slotKey 4 = key
  ctr : t.rd Obj.KSE_KA_CTR.f = ctr % 2 ^ 64
  present : t.rd Obj.KSE_KA_PRESENT.f = 1
  logged : Logged s t 0 0x0804 []

theorem AuthoritySet.hushed {s t u : State} {key : Bytes} {ctr : Nat} (h : AuthoritySet s t key ctr) (k : Hushed t u) : AuthoritySet s u key ctr := by
  have hs : ∀ r ∈ [Obj.KSE_SLOT_STATE, Obj.KSE_SLOT_USAGE, Obj.KSE_SLOT_KTYPE, Obj.KSE_SLOT_OWNER], u.rd (r.i 4) = t.rd (r.i 4) := fun r hr =>
    k.rd _ (hushKeys_slot (by decide) (slotKeys_mem 4 r (by
      simp only [List.mem_cons, List.not_mem_nil, or_false] at hr ⊢
      tauto)))
  obtain ⟨h1, h2, h3, h4⟩ := h.shows
  obtain ⟨-, -, hc, hp⟩ := hushKeys_owner 0
  have hk : u.kse = t.kse := by rw [k.eq]
  refine ⟨⟨(hs _ (by simp)).trans h1, (hs _ (by simp)).trans h2, (hs _ (by simp)).trans h3, (hs _ (by simp)).trans h4⟩, ?_, (k.rd _ hc).trans h.ctr,
    (k.rd _ hp).trans h.present, h.logged.of_prefix k.pend⟩
  exact (congrArg (fun x : Kse => x.keys.get [] 4) hk).trans h.key

/-- The counter and the presence bit of the authority, over its slot. -/
def State.showAuthority (b : State) (ctr : Nat) : State := (b.wr Obj.KSE_KA_PRESENT.f 1).wr Obj.KSE_KA_CTR.f ctr

structure AuthorityShown (s t : State) (ctr : Nat) : Prop where
  eq : t = { s with regs := t.regs }
  ctr : t.rd Obj.KSE_KA_CTR.f = ctr % 2 ^ 64
  present : t.rd Obj.KSE_KA_PRESENT.f = 1
  rd : Beyond (fun k => k == Obj.KSE_KA_CTR.f.key || k == Obj.KSE_KA_PRESENT.f.key) s t

theorem State.showAuthority_shown (b : State) (ctr : Nat) : AuthorityShown b (b.showAuthority ctr) ctr := by
  have hne : Obj.KSE_KA_CTR.f.key ≠ Obj.KSE_KA_PRESENT.f.key := by decide +kernel
  refine ⟨rfl, State.rd_wr_self _ _ _, (State.rd_wr_ne _ _ _ _ hne).trans (State.rd_wr_self _ _ _), .wr (.wr (.refl _ b) ?_ 1) ?_ ctr⟩
  · rw [beq_self_eq_true, Bool.or_true]
  · rw [beq_self_eq_true, Bool.true_or]

theorem authorityFields_slot : slotKeys 4 Obj.KSE_KA_CTR.f.key = false ∧ slotKeys 4 Obj.KSE_KA_PRESENT.f.key = false ∧
    slotKeys 4 Obj.PWR_UNIT_FAIL.f.key = false ∧ (Obj.PWR_UNIT_FAIL.f.key == Obj.KSE_KA_CTR.f.key) = false ∧
    (Obj.PWR_UNIT_FAIL.f.key == Obj.KSE_KA_PRESENT.f.key) = false := by decide +kernel

theorem AuthorityShown.slot {s t : State} {ctr : Nat} (h : AuthorityShown s t ctr) {g : Fld} (hg : slotKeys 4 g.key = true) : t.rd g = s.rd g := by
  obtain ⟨hc, hp, -⟩ := authorityFields_slot
  refine h.rd g ?_
  rw [Bool.or_eq_false_iff, beq_eq_false_iff_ne, beq_eq_false_iff_ne]
  constructor
  · intro e
    rw [← e, hg] at hc
    cases hc
  · intro e
    rw [← e, hg] at hp
    cases hp

theorem State.setAuthority_set {s a : State} (key : Bytes) (ctr : Nat) (hr : a.regs = s.regs) (he : a.evr = s.evr) :
    AuthoritySet s (a.setAuthority key ctr) key ctr ∧ (a.setAuthority key ctr).sessions = a.sessions ∧ (a.setAuthority key ctr).sent = a.sent := by
  obtain ⟨-, -, hf, hf1, hf2⟩ := authorityFields_slot
  have hp := a.putKey_put authoritySlot { state := 1, usage := 1, ktype := 4, owner := 0xFF, origin := 3 } key
  show AuthoritySet s (((a.putKey authoritySlot { state := 1, usage := 1, ktype := 4, owner := 0xFF, origin := 3 } key).showAuthority ctr).log 0 0x0804 [])
    key ctr ∧ (((a.putKey authoritySlot { state := 1, usage := 1, ktype := 4, owner := 0xFF, origin := 3 } key).showAuthority ctr).log 0 0x0804 []).sessions =
    a.sessions ∧ (((a.putKey authoritySlot { state := 1, usage := 1, ktype := 4, owner := 0xFF, origin := 3 } key).showAuthority ctr).log 0 0x0804 []).sent =
    a.sent
  generalize a.putKey authoritySlot { state := 1, usage := 1, ktype := 4, owner := 0xFF, origin := 3 } key = b at hp
  have hsh := b.showAuthority_shown ctr
  generalize b.showAuthority ctr = c at hsh
  have hfail : c.failed 10 = s.failed 10 :=
    congrArg (bit · 10) ((hsh.rd _ (Bool.or_eq_false_iff.mpr ⟨hf1, hf2⟩)).trans ((hp.rd _ hf).trans (State.rd_congr hr _)))
  have hevr : c.evr = s.evr := by rw [hsh.eq, hp.eq, ← he]
  have hkse : c.kse = b.kse := by rw [hsh.eq]
  have hsess : c.sessions = a.sessions := by rw [hsh.eq, hp.eq]
  have hsent : c.sent = a.sent := by rw [hsh.eq, hp.eq]
  obtain ⟨h1, h2, h3, h4⟩ := hp.shows ⟨by decide, by decide, by decide, by decide⟩
  have hlog : Logged s (c.log 0 0x0804 []) 0 0x0804 [] :=
    logged_log hfail (State.exists?_low _ _ (by decide)) (hevr ▸ List.prefix_refl _) (hevr ▸ Nat.le_add_right _ _)
  have hl := c.log_raised 0 0x0804 [] false none
  generalize c.log 0 0x0804 [] = t at hl hlog
  have hkeep : ∀ g : Fld, hushKeys g.key = false → t.rd g = c.rd g := fun g hg => hl.beyond hushKeys_of_log g hg
  have hk' : t.kse = c.kse := by rw [hl.eq]
  have hs : ∀ r : Row, slotKeys 4 (r.i 4).key = true → t.rd (r.i 4) = b.rd (r.i 4) := fun r hin =>
    (hkeep _ (hushKeys_slot (by decide) hin)).trans (hsh.slot hin)
  have hm := slotKeys_mem 4
  obtain ⟨-, -, hc, hpk⟩ := hushKeys_owner 0
  refine ⟨⟨⟨(hs _ (hm _ (by simp))).trans h1, (hs _ (hm _ (by simp))).trans h2, (hs _ (hm _ (by simp))).trans h3, (hs _ (hm _ (by simp))).trans h4⟩, ?_,
    (hkeep _ hc).trans hsh.ctr, (hkeep _ hpk).trans hsh.present, hlog⟩, hl.sessions.trans hsess, hl.sent.trans hsent⟩
  exact (congrArg (fun x : Kse => x.keys.get [] 4) (hk'.trans hkse)).trans hp.key

theorem State.authorityDone_hushed (u : State) : Hushed u u.authorityDone := (u.endSessions_hushed _).trans (State.judgeUsb_hushed _)

end Sys2Proof.Machine
end

section
/-!
SUPPORT. The proof of O28, continued: what the KSE does with a key update message (spec/15 R369 to R373).
-/
namespace Sys2Proof.Machine
open Sys2Proof.Claims

/-! ### What a message does to its slot -/

/-- The slot, counter and event of an accepted message, before it is recorded. -/
def State.kumShown (u : State) (m : Bytes) : State := (u.wr (Obj.KSE_CTR.b (kumOwner m)) (kumCounter m)).set1 (Obj.KSE_EVT_UPDATED.b (kumOwner m))

/-- The record, the response and the end of the sessions that a message brings. -/
def State.kumTold (v : State) (j : KumJob) : State :=
  ((v.logAll (if kumOwner j.kum = 0 then [0] else [0, kumOwner j.kum]) 0x0801
    (le 1 (kumSlot j.kum) ++ le 1 (kumKind j.kum) ++ le 6 0 ++ le 8 (kumCounter j.kum))).finish (.held j.sid j.seq) St.ok
      (le 1 (kumSlot j.kum) ++ le 1 ((v.logAll (if kumOwner j.kum = 0 then [0] else [0, kumOwner j.kum]) 0x0801
        (le 1 (kumSlot j.kum) ++ le 1 (kumKind j.kum) ++ le 6 0 ++ le 8 (kumCounter j.kum))).slotState (kumSlot j.kum)) ++ le 2 0 ++
        le 8 (kumCounter j.kum))).anchorGone j.kum

theorem State.anchorGone_hushed (s : State) (m : Bytes) : Hushed s (s.anchorGone m) := by
  unfold State.anchorGone
  split
  · exact s.endSessions_hushed _
  · exact .refl s

theorem State.kumTold_hushed (v : State) (j : KumJob) : Hushed v (v.kumTold j) := by
  unfold State.kumTold
  exact (Hushed.finish (.raised (.refl v) (State.logAll_raised _ _ _ _ _)) _ _ _).trans (State.anchorGone_hushed _ _)

/-- What an accepted message leaves, over what it makes of its slot. -/
structure KumDone (u t : State) (m : Bytes) : Prop where
  kse : t.kse = u.kse
  slot : ∀ k, k < 256 → ∀ g : Fld, slotKeys k g.key = true → t.rd g = u.rd g
  ctr : t.rd (Obj.KSE_CTR.b (kumOwner m)) = kumCounter m
  flag : t.rd (Obj.KSE_EVT_UPDATED.b (kumOwner m)) = 1

theorem kumFields_ne (c : Nat) : (Obj.KSE_EVT_UPDATED.b c).key ≠ (Obj.KSE_CTR.b c).key := by
  rw [Row.key_b _ c rfl rfl, Row.key_b _ c rfl rfl, show 8 * Obj.KSE_CTR.base + Obj.KSE_CTR.lo = 3702784 from rfl,
    show 8 * Obj.KSE_EVT_UPDATED.base + Obj.KSE_EVT_UPDATED.lo = 3702881 from rfl]
  omega

theorem unle_lt (l : Bytes) : unle l < 2 ^ (8 * l.length) := by
  induction l with
  | nil => exact Nat.one_pos
  | cons b l ih =>
    have hb := b.isLt
    rw [List.length_cons, Nat.mul_add, Nat.mul_one, Nat.pow_add]
    unfold unle
    omega

theorem field_lt (m : Bytes) (i n : Nat) : field m i n < 2 ^ (8 * n) := by
  have h := unle_lt ((m.drop i).take n)
  refine lt_of_lt_of_le h (Nat.pow_le_pow_right (by decide) ?_)
  rw [List.length_take]
  omega

theorem State.kumShown_done (u : State) (j : KumJob) : KumDone u ((u.kumShown j.kum).kumTold j) j.kum := by
  have hctr : (u.kumShown j.kum).rd (Obj.KSE_CTR.b (kumOwner j.kum)) = kumCounter j.kum :=
    (State.rd_wr_ne _ _ _ _ (kumFields_ne _)).trans ((State.rd_wr_self _ _ _).trans (Nat.mod_eq_of_lt (field_lt _ _ _)))
  have hflag : (u.kumShown j.kum).rd (Obj.KSE_EVT_UPDATED.b (kumOwner j.kum)) = 1 := State.rd_wr_self _ _ _
  have hslot : ∀ k, k < 256 → ∀ g : Fld, slotKeys k g.key = true → (u.kumShown j.kum).rd g = u.rd g := by
    intro k hk g hg
    obtain ⟨h1, h2, -⟩ := slotKeys_owner hk (kumOwner j.kum)
    refine (State.rd_wr_ne _ _ _ _ fun e => ?_).trans (State.rd_wr_ne _ _ _ _ fun e => ?_)
    · rw [e, hg] at h2
      cases h2
    · rw [e, hg] at h1
      cases h1
  have hkse : (u.kumShown j.kum).kse = u.kse := rfl
  generalize u.kumShown j.kum = v at hctr hflag hslot hkse
  have hh := v.kumTold_hushed j
  obtain ⟨h1, h2, -⟩ := hushKeys_owner (kumOwner j.kum)
  refine ⟨?_, fun k hk g hg => (hh.rd g (hushKeys_slot hk hg)).trans (hslot k hk g hg), (hh.rd _ h1).trans hctr, (hh.rd _ h2).trans hflag⟩
  rw [hh.eq]
  exact hkse

/-! ### What the KSE makes of a message -/

theorem kumSlot_lt (m : Bytes) : kumSlot m < 256 := field_lt m 0x19 1

theorem State.kumDetail_none {s : State} {m : Bytes} (h : s.kumDetail m = none) : kumSlotOk m = true ∧
    (kumKind m ≤ 2 → usageOk (kumKtype m) (kumUsage m) = true) := by
  unfold State.kumDetail at h
  dsimp only at h
  split at h
  · cases h
  · split at h
    · cases h
    case _ hs =>
      split at h
      · cases h
      case _ hu =>
        refine ⟨by simpa using hs, fun hk => ?_⟩
        rw [not_and, not_or] at hu
        simpa using (hu hk).1

theorem usageOk_lt {ktype usage : Nat} (h : usageOk ktype usage = true) : ktype < 16 ∧ usage < 4 := by
  unfold usageOk at h
  split at h
  · rw [decide_eq_true_eq] at h
    omega
  · split at h
    · rw [decide_eq_true_eq] at h
      omega
    · split at h
      · rw [Bool.or_eq_true, beq_iff_eq, beq_iff_eq] at h
        omega
      · split at h
        · rw [beq_iff_eq] at h
          omega
        · split at h
          · rw [beq_iff_eq] at h
            omega
          · cases h

theorem State.applyKum_passes {s : State} {j : KumJob} (h : KumPasses s j.kum) : s.applyKum j =
    if Config.ecdsaVerify (s.slotKey 4) (sha384 (j.kum.take 0x120)) (j.kum.drop 0x120) = true then
      match (if kumKind j.kum ≤ 2 then s.kumKey j.kum else .ok []) with
      | .error d => s.finish (.held j.sid j.seq) St.checkFailed (detailRecord d 0 0)
      | .ok key => ((s.kumSwitch j.kum key).kumShown j.kum).kumTold j
    else s.finish (.held j.sid j.seq) St.badSignature [] := by
  obtain ⟨h1, h2, h3, h4, h5, h6⟩ := h
  unfold State.applyKum
  dsimp only
  refine (if_neg (by rw [h1]; decide)).trans ((if_neg ?_).trans ?_)
  · rw [not_or, not_not, not_not]
    exact ⟨h2, h3⟩
  · cases hv : Config.ecdsaVerify (s.slotKey 4) (sha384 (j.kum.take 0x120)) (j.kum.drop 0x120) with
    | false =>
      refine (if_pos (.inr ?_)).trans (if_neg Bool.false_ne_true).symm
      rw [show authoritySlot = 4 from rfl, hv]
      rfl
    | true =>
      refine (if_neg ?_).trans ((if_neg (Nat.not_le.mpr h5)).trans (Eq.trans ?_ (if_pos rfl).symm))
      · rw [not_or, not_not, show authoritySlot = 4 from rfl, hv]
        exact ⟨h4, by decide⟩
      · rw [h6]
        rfl

theorem State.finish_keysStand (s : State) (w : Wait) (st : Nat) (d : Bytes) : KeysStand s (s.finish w st d) ∧ (s.finish w st d).kse = s.kse := by
  have hh := Hushed.finish (.refl s) w st d
  generalize s.finish w st d = t at hh
  have hk : t.kse = s.kse := by rw [hh.eq]
  refine ⟨⟨by rw [hk], fun c _ => hh.rd _ (hushKeys_owner c).1, fun k hlt => hh.rd _ (hushKeys_slot hlt (slotKeys_mem k _ (by simp)))⟩, hk⟩

theorem State.orphan_jobs (s : State) (k : Nat) : (s.orphan k).kse.jobs = s.kse.jobs := by
  unfold State.orphan
  dsimp only
  rw [(State.log_raised _ _ _ _ _ _).eq]
  rfl

theorem State.orphanBelow_jobs (s : State) (k : Nat) : (s.orphanBelow k).kse.jobs = s.kse.jobs := by
  have h : ∀ (l : List Nat) (t : State), (l.foldl State.orphan t).kse.jobs = t.kse.jobs := by
    intro l
    induction l with
    | nil => exact fun _ => rfl
    | cons a l ih => exact fun t => (ih _).trans (t.orphan_jobs a)
  exact h _ s

theorem SlotPut.jobs {s t : State} {k : Nat} {d : KeySlot} {key : Bytes} (h : SlotPut s t k d key) : t.kse.jobs = s.kse.jobs := by rw [h.eq]

theorem State.deriveRoot_put (s : State) (k root : Nat) (label : String) (gen ktype usage owner : Nat) :
    (s.deriveRoot k root label gen ktype usage owner).slotGen k = gen % 2 ^ 32 ∧
    (s.deriveRoot k root label gen ktype usage owner).kse.jobs = s.kse.jobs := by
  unfold State.deriveRoot
  split
  · exact ⟨(State.putKey_put _ _ _ _).gen, (State.putKey_put _ _ _ _).jobs⟩
  · exact ⟨(State.putKey_put _ _ _ _).gen, (State.putKey_put _ _ _ _).jobs⟩

theorem State.deriveBsk_put (s : State) (c gen : Nat) : (s.deriveBsk c gen).slotGen (billingSlot c) = gen % 2 ^ 32 ∧
    (s.deriveBsk c gen).kse.jobs = s.kse.jobs := by
  unfold State.deriveBsk
  dsimp only
  split
  · exact ⟨(State.putKey_put _ _ _ _).gen, (State.putKey_put _ _ _ _).jobs⟩
  · exact ⟨(State.putKey_put _ _ _ _).gen, (State.putKey_put _ _ _ _).jobs⟩

/-- What the kinds of message make of a slot. -/
structure KumSwitched (s t : State) (m key : Bytes) : Prop where
  jobs : t.kse.jobs = s.kse.jobs
  sets : kumKind m ≤ 2 → Shows t (kumSlot m) 1 (kumUsage m) (kumKtype m) (kumOwner m) ∧ t.slotKey (kumSlot m) = key ∧
    t.rd (Obj.KSE_SLOT_CTR.i (kumSlot m)) = kumCounter m
  empties : kumKind m = 3 → t.slotState (kumSlot m) = 0 ∧ t.slotKey (kumSlot m) = [] ∧ t.rd (Obj.KSE_SLOT_CTR.i (kumSlot m)) = kumCounter m
  renews : kumKind m = 4 → t.slotGen (kumSlot m) = (s.slotGen (kumSlot m) + 1) % 2 ^ 32

theorem kumCounter_lt (m : Bytes) : kumCounter m < 2 ^ 64 := field_lt m 0x20 8

theorem emptyOwner_lt (k : Nat) : emptyOwner k < 256 := by
  unfold emptyOwner
  split
  · decide
  · split
    · omega
    · decide

theorem slotCtr_ne (k : Nat) : (Obj.KSE_SLOT_CTR.i k).key ≠ (Obj.KSE_SLOT_STATE.i k).key := by
  simp [Fld.key, Row.i, Row.at, Obj.KSE_SLOT_CTR, Obj.KSE_SLOT_STATE]

section
variable {s : State} {m : Bytes} (key : Bytes)

theorem State.kumSwitch_sets (hk : kumKind m ≤ 2) (hu : usageOk (kumKtype m) (kumUsage m) = true) : KumSwitched s (s.kumSwitch m key) m key := by
  obtain ⟨hkt, huse⟩ := usageOk_lt hu
  obtain ⟨d, hd, h1, h2, h3, h4, h5⟩ : ∃ d : KeySlot, s.kumSwitch m key = s.draw.2.putKey (kumSlot m) d key ∧ d.state = 1 ∧
      d.usage = kumUsage m ∧ d.ktype = kumKtype m ∧ d.owner = kumOwner m ∧ d.ctr = kumCounter m :=
    ⟨_, if_pos hk, rfl, rfl, rfl, rfl, rfl⟩
  have hp := s.draw.2.putKey_put (kumSlot m) d key
  have hj : s.draw.2.kse.jobs = s.kse.jobs := rfl
  rw [hd]
  generalize s.draw.2 = u at hp hj
  generalize u.putKey (kumSlot m) d key = t at hp
  have hs := hp.shows ⟨by omega, by omega, by omega, by rw [h4]; exact field_lt m 0x1A 1⟩
  rw [h1, h2, h3, h4] at hs
  refine ⟨hp.jobs.trans hj, fun _ => ⟨hs, hp.key, hp.ctr.trans ?_⟩, fun h3 => by omega, fun h4 => by omega⟩
  rw [h5]
  exact Nat.mod_eq_of_lt (kumCounter_lt m)

theorem State.kumSwitch_empties (hk : kumKind m = 3) : KumSwitched s (s.kumSwitch m key) m key := by
  have he : s.kumSwitch m key = ((s.orphanBelow (kumSlot m)).emptySlot (kumSlot m)).wr (Obj.KSE_SLOT_CTR.i (kumSlot m)) (kumCounter m) :=
    (if_neg (by omega)).trans (if_pos hk)
  rw [he]
  have hj := s.orphanBelow_jobs (kumSlot m)
  generalize s.orphanBelow (kumSlot m) = t at hj
  obtain ⟨d, hd, h1, h2, h3, h4⟩ : ∃ d : KeySlot, t.emptySlot (kumSlot m) = t.putKey (kumSlot m) d [] ∧ d.state = 0 ∧ d.usage = 0 ∧ d.ktype = 0 ∧
      d.owner = emptyOwner (kumSlot m) := ⟨_, rfl, rfl, rfl, rfl, rfl⟩
  have hp := t.putKey_put (kumSlot m) d []
  rw [hd]
  generalize t.putKey (kumSlot m) d [] = u at hp
  have hs := hp.shows ⟨by omega, by omega, by omega, by rw [h4]; exact emptyOwner_lt _⟩
  obtain ⟨h0, -⟩ := hs
  refine ⟨hp.jobs.trans hj, fun hle => by omega, fun _ => ⟨?_, hp.key, ?_⟩, fun h4 => by omega⟩
  · exact (State.rd_wr_ne _ _ _ _ (slotCtr_ne _)).trans (h0.trans h1)
  · exact (State.rd_wr_self _ _ _).trans (Nat.mod_eq_of_lt (kumCounter_lt m))

theorem kumSlotOk_renews (hk : ¬ kumKind m ≤ 2) (h3 : kumKind m ≠ 3) (hok : kumSlotOk m = true) :
    ∃ q, fixedSlot (kumSlot m) = some (kumOwner m, q) ∧ (q = 0 ∧ kumSlot m = crkSlot (kumOwner m) ∨ q = 1 ∧ kumSlot m = billingSlot (kumOwner m)) := by
  unfold kumSlotOk at hok
  dsimp only at hok
  unfold fixedSlot at hok ⊢
  by_cases hfix : 16 ≤ kumSlot m ∧ kumSlot m < 118
  · rw [if_pos hfix] at hok ⊢
    dsimp only at hok
    rw [Bool.and_eq_true, beq_iff_eq] at hok
    obtain ⟨hown, hplace⟩ := hok
    have hp2 : (kumSlot m - 16) % 3 ≠ 2 := by
      intro h2
      rw [if_pos h2, Bool.or_eq_true, beq_iff_eq, beq_iff_eq] at hplace
      omega
    refine ⟨_, by rw [hown], ?_⟩
    unfold crkSlot billingSlot
    omega
  · rw [if_neg hfix] at hok
    dsimp only at hok
    rw [Bool.and_eq_true, decide_eq_true_eq, decide_eq_true_eq] at hok
    omega

theorem State.kumSwitch_renews (hk : ¬ kumKind m ≤ 2) (h3 : kumKind m ≠ 3) (hok : kumSlotOk m = true) : KumSwitched s (s.kumSwitch m key) m key := by
  obtain ⟨q, hq, ⟨rfl, hslot⟩ | ⟨rfl, hslot⟩⟩ := kumSlotOk_renews hk h3 hok
  · have he : s.kumSwitch m key = (s.orphanBelow (kumSlot m)).deriveRoot (crkSlot (kumOwner m)) 1 "AXZ-CRK" (s.slotGen (kumSlot m) + 1) 5 3 (kumOwner m) := by
      unfold State.kumSwitch
      dsimp only
      rw [if_neg hk, if_neg h3, hq]
      rfl
    obtain ⟨hg, hj⟩ := (s.orphanBelow (kumSlot m)).deriveRoot_put (crkSlot (kumOwner m)) 1 "AXZ-CRK" (s.slotGen (kumSlot m) + 1) 5 3 (kumOwner m)
    rw [← hslot] at hg hj he
    rw [he]
    exact ⟨hj.trans (s.orphanBelow_jobs _), fun hle => absurd hle hk, fun he => absurd he h3, fun _ => hg⟩
  · have he : s.kumSwitch m key = s.deriveBsk (kumOwner m) (s.slotGen (kumSlot m) + 1) := by
      unfold State.kumSwitch
      dsimp only
      rw [if_neg hk, if_neg h3, hq]
      rfl
    obtain ⟨hg, hj⟩ := s.deriveBsk_put (kumOwner m) (s.slotGen (kumSlot m) + 1)
    rw [← hslot] at hg
    rw [he]
    exact ⟨hj, fun hle => absurd hle hk, fun he => absurd he h3, fun _ => hg⟩

theorem State.kumSwitch_switched (h : s.kumDetail m = none) : KumSwitched s (s.kumSwitch m key) m key := by
  obtain ⟨hok, hus⟩ := State.kumDetail_none h
  by_cases hk : kumKind m ≤ 2
  · exact State.kumSwitch_sets key hk (hus hk)
  · by_cases h3 : kumKind m = 3
    · exact State.kumSwitch_empties key h3
    · exact State.kumSwitch_renews key hk h3 hok

end

end Sys2Proof.Machine
end

section
/-!
SUPPORT. The proof of O28, continued: the commands.
-/
namespace Sys2Proof.Machine
open Sys2Proof.Claims

/-- A command answered OK whose session may have ended on the way. -/
theorem completes_rest {i : Instr} {s t : State} {f : Frame} {x : Session} {c : CmdSpec} {pre : PreBody} {body : Req → State → State × Reply}
    {post : State → Prop} {p : Bytes} (he : exec i s = .next (s.serve c f pre body)) (h : Admitted s f x)
    (hb : body (requestOf f x c.code) (accepted s f x c.code c.cancellable) = (t, .ok p))
    (ht : ∀ y, t.session x.id = some y → y.conn = some f.conn ∧ y.comp = x.comp)
    (hpost : ∀ ss cn l, post { t with sessions := ss, pmon := { t.pmon with cnts := cn }, sent := t.sent ++ l }) : Completes i s post := by
  cases hn : t.session x.id with
  | none =>
    refine ⟨_, he, ?_⟩
    rw [State.serve_admitted h]
    unfold State.run
    rw [hb]
    have hf : t.finalTo x.id f.seq.toNat c.code St.ok p c.removes = t := by
      unfold State.finalTo
      rw [hn]
    have hp := hpost t.sessions t.pmon.cnts []
    rw [List.append_nil] at hp
    exact (congrArg post hf).mpr hp
  | some y => exact completes_ok he h hb ⟨y, hn, ht y hn⟩ fun ss cn => hpost ss cn _

/-! ### Statements -/

theorem accepted_kse (s : State) (f : Frame) (x : Session) (code : Nat) (can : Bool) : (accepted s f x code can).kse = s.kse := by
  obtain ⟨ss, cn, h⟩ := accepted_eq s f x code can
  rw [h]
  rfl

theorem accepted_evr (s : State) (f : Frame) (x : Session) (code : Nat) (can : Bool) : (accepted s f x code can).evr = s.evr := by
  obtain ⟨ss, cn, h⟩ := accepted_eq s f x code can
  rw [h]
  rfl

/-- The bytes a statement's signature covers. -/
def statement (kind count : Nat) (items : Bytes) : Bytes :=
  le 4 0x54415841 ++ le 2 1 ++ le 1 kind ++ le 1 0 ++ le 4 (16 + items.length + 100) ++ le 4 count ++ items ++ le 2 0x00FF ++ le 2 96

theorem State.sign_signs {s : State} (kind : Nat) (items : Bytes) (h : s.slotState s.attestSlot = 1) : s.sign kind items =
    ((s.inc Obj.KSE_ATT_COUNT.f).draw.2, .ok (statement kind ((s.inc Obj.KSE_ATT_COUNT.f).draw.2.rd Obj.KSE_ATT_COUNT.f) items ++
      padTo 96 (Config.ecdsaSign (s.slotKey s.attestSlot)
        (sha384 (statement kind ((s.inc Obj.KSE_ATT_COUNT.f).draw.2.rd Obj.KSE_ATT_COUNT.f) items)) (s.inc Obj.KSE_ATT_COUNT.f).draw.1))) :=
  if_neg (not_not.mpr h)

theorem statement_head (kind count : Nat) (items : Bytes) : (statement kind count items).take 8 = le 4 0x54415841 ++ le 2 1 ++ le 1 kind ++ le 1 0 := by
  unfold statement
  simp [List.append_assoc, List.take_append, le_length, List.take_of_length_le]

theorem statement_count (kind count : Nat) (items : Bytes) : field (statement kind count items) 12 4 = count % 2 ^ 32 := by
  unfold statement
  simp [List.append_assoc, field_append_right, le_length]

section
variable {s : State} {f : Frame} {x : Session} (h : Admitted s f x)
include h

/-- A command whose body signs is answered with a statement. -/
theorem completes_signed {i : Instr} {c : CmdSpec} {body : Req → State → State × Reply} (he : exec i s = .next (s.serve c f noPre body))
    {kind : Nat} {items : Bytes} (hs : s.slotState s.attestSlot = 1)
    (hb : body (requestOf f x c.code) (accepted s f x c.code c.cancellable) = (accepted s f x c.code c.cancellable).sign kind items) :
    Completes i s fun t => Signed s t f x c.code kind := by
  have hregs := accepted_regs s f x c.code c.cancellable
  have hsent := accepted_sent s f x c.code c.cancellable
  have hsess := accepted_session (code := c.code) (can := c.cancellable) h
  have hkse := accepted_kse s f x c.code c.cancellable
  have hatt : (accepted s f x c.code c.cancellable).attestSlot = s.attestSlot := by
    unfold State.attestSlot
    rw [accepted_lcy]
  generalize ha : accepted s f x c.code c.cancellable = a at hb hregs hsent hsess hkse hatt
  have hs' : a.slotState a.attestSlot = 1 := by
    rw [hatt]
    exact (State.rd_congr hregs _).trans hs
  have hkey : a.slotKey a.attestSlot = s.slotKey s.attestSlot := by
    unfold State.slotKey
    rw [hatt, hkse]
  rw [State.sign_signs kind items hs', hkey] at hb
  have hcount : (a.inc Obj.KSE_ATT_COUNT.f).draw.2.rd Obj.KSE_ATT_COUNT.f = (s.rd Obj.KSE_ATT_COUNT.f + 1) % 2 ^ 32 := by
    refine (State.rd_wr_self _ _ _).trans ?_
    rw [State.rd_congr hregs]
    rfl
  have hkept : Kept [Obj.KSE_ATT_COUNT.f] s (a.inc Obj.KSE_ATT_COUNT.f).draw.2 :=
    (Kept.of_regs hregs).trans ((Kept.of_regs rfl).wr (s := a) (List.mem_singleton.mpr rfl))
  have hsess' : Speaks (a.inc Obj.KSE_ATT_COUNT.f).draw.2 f x := hsess.congr rfl
  have hsent' : (a.inc Obj.KSE_ATT_COUNT.f).draw.2.sent = s.sent := hsent
  generalize (a.inc Obj.KSE_ATT_COUNT.f).draw.2 = u at hb hcount hkept hsess' hsent'
  generalize (a.inc Obj.KSE_ATT_COUNT.f).draw.1 = n at hb
  subst ha
  refine completes_ok he h hb hsess' fun ss cn => ?_
  refine ⟨statement kind (u.rd Obj.KSE_ATT_COUNT.f) items, n, ?_, statement_head _ _ _, ?_, hcount, hkept⟩
  · unfold Answers
    rw [← hsent']
  · refine (statement_count _ _ _).trans ?_
    rw [hcount]
    exact (Nat.mod_mod _ _).trans hcount.symm

end

/-! ### The key authority -/

/-- What a new authority's key is signed over. -/
def authorityDigest (s : State) (key : Bytes) (ctr : Nat) : Bytes :=
  sha384 (ascii "AXZ-KAS" ++ s.identity ++ le 1 s.lcy.state ++ key ++ le 8 ctr)

/-- The state after an accepted authority: the response goes out before the sessions end. -/
def State.authorised (a : State) (f : Frame) (x : Session) (key : Bytes) (ctr : Nat) : State :=
  if ((a.setAuthority key ctr).authorityDone.session x.id).isSome then (a.setAuthority key ctr).authorityDone
  else ((a.setAuthority key ctr).finalTo x.id f.seq.toNat 0x0810 St.ok (le 8 ctr) false).authorityDone

end Sys2Proof.Machine

namespace Sys2Proof.Proofs
open Sys2Proof.Machine Sys2Proof.Claims

section
variable {f : Frame} {s : State} {x : Session} (h : Admitted s f x)
include h

theorem keyUpdate_waits (hc : x.comp < 34) (h5 : 5 ≤ s.mode) (h8 : s.mode ≤ 8) (hadj : s.rd Obj.UPD_STATE.f ≠ 6) (hlen : f.payload.length = 384)
    (hmag : field f.payload 0 4 = 0x554B5841) (hver : field f.payload 4 2 = 1) (hsee : s.seesSlot x.comp (kumSlot f.payload) = true)
    (hpar : kumNamesParent f.payload = true → s.seesSlot x.comp (kumParent f.payload) = true) (hown : kumOwner f.payload = x.comp) :
    Completes (.cmdKeyUpdate f) s fun t => Waits s t f x 0x0801 (.held x.id x.expected) ∧ t.regs = s.regs ∧
      t.kse = { s.kse with jobs := s.kse.jobs ++ [⟨x.id, x.expected, x.comp, f.payload⟩] } := by
  have hseq : f.seq.toNat = x.expected := by
    obtain ⟨-, -, -, -, -, hq, -⟩ := h
    exact hq
  have hregs := accepted_regs s f x 0x0801 false
  have hbody : keyUpdate (requestOf f x 0x0801) (accepted s f x 0x0801 false) =
      ({ accepted s f x 0x0801 false with kse := { (accepted s f x 0x0801 false).kse with
        jobs := (accepted s f x 0x0801 false).kse.jobs ++ [⟨x.id, f.seq.toNat, x.comp, f.payload⟩] } }, .pending (.held x.id f.seq.toNat)) := by
    have hsees : ∀ k, (accepted s f x 0x0801 false).seesSlot x.comp k = s.seesSlot x.comp k := fun k => by
      obtain ⟨ss, cn, he⟩ := accepted_eq s f x 0x0801 false
      rw [he]
      rfl
    have hupd : (accepted s f x 0x0801 false).adjourned = false := by
      refine Bool.eq_false_iff.mpr fun ht => hadj ?_
      rw [State.adjourned, beq_iff_eq] at ht
      exact (State.rd_congr hregs _).symm.trans ht
    unfold keyUpdate
    dsimp only
    rw [permitted_all ⟨hc, h5, h8.trans (by decide)⟩, accepted_mode, requestOf_payload, requestOf_comp, hlen, hmag, hver, hsees, hsees, hupd, hsee]
    refine (if_neg (by decide)).trans ((if_neg (by omega)).trans ((if_neg (by decide)).trans ((if_neg (by decide)).trans ((if_neg ?_).trans
      ((if_neg ?_).trans rfl)))))
    · rintro (hn | ⟨hp, hn⟩)
      · cases hn
      · rw [hpar hp] at hn
        cases hn
    · unfold State.kumOwnerOk
      rw [hown, beq_self_eq_true, Bool.true_or]
      decide
  refine completes_pending (c := { code := 0x0801 }) (body := keyUpdate) rfl h hbody ((accepted_session h).congr rfl) fun cn => ?_
  have hsent := accepted_sent s f x 0x0801 false
  have hwait := accepted_waiters s f x 0x0801 false
  have hkse := accepted_kse s f x 0x0801 false
  dsimp only
  generalize accepted s f x 0x0801 false = a at hsent hwait hregs hkse
  rw [hseq, hkse]
  refine ⟨⟨?_, [⟨x.id, x.expected, 0x0801, .held x.id x.expected, false, x.comp⟩], ?_, ?_⟩, hregs, rfl⟩
  · rw [← hsent, hseq]
  · rw [← hwait]
  · rw [hseq]
    rfl

omit h in
theorem keyAttest_judged (hn : Nonce f.payload 0) (hl : s.lcy.state ≠ 0) (hm : (4 ≤ s.mode ∧ s.mode ≤ 9) ∨ (s.mode = 11 ∧ x.comp = 0)) (can : Bool) :
    ∃ items, keyAttest (requestOf f x 0x0802) (accepted s f x 0x0802 can) = (accepted s f x 0x0802 can).sign 1 items := by
  obtain ⟨hn1, hn2, hn3⟩ := hn
  have hmode : s.mode ∈ 11 :: m4to9 := by
    simp only [m4to9, List.mem_cons, List.not_mem_nil, or_false]
    omega
  unfold keyAttest
  rw [accepted_permitted, accepted_mode, accepted_lcy, requestOf_payload, requestOf_comp]
  refine ⟨_, (if_neg ?_).trans (if_neg ?_)⟩
  · rw [List.contains_iff_mem.mpr hmode]
    rintro (hx | hx | hx)
    · exact absurd hx (by simp [Open.ok])
    · exact hl hx
    · omega
  · rw [nonceOk, decide_eq_true ⟨hn1, hn2⟩, hn3]
    simp

theorem keyAttest_signs (hn : Nonce f.payload 0) (hs : s.slotState s.attestSlot = 1) (hl : s.lcy.state ≠ 0)
    (hm : (4 ≤ s.mode ∧ s.mode ≤ 9) ∨ (s.mode = 11 ∧ x.comp = 0)) : Completes (.cmdKeyAttest f) s fun t => Signed s t f x 0x0802 1 := by
  obtain ⟨items, hb⟩ := keyAttest_judged (f := f) hn hl hm true
  exact completes_signed (c := { code := 0x0802, cancellable := true, rereads := true }) (body := keyAttest) h rfl hs hb

section
variable (hn : Nonce f.payload 1) (hl : s.lcy.state ≠ 0) (h4 : 4 ≤ s.mode) (h9 : s.mode ≤ 9)
  (hc : x.comp < 34) (hsee : s.seesSlot x.comp (field f.payload 0 1) = true)
  (ht : s.rd (Obj.KSE_SLOT_KTYPE.i (field f.payload 0 1)) ∈ [3, 4])
include hn hl h4 h9 hc hsee ht

omit h in
theorem keyCertify_judged (can : Bool) : ∃ items, keyCertify (requestOf f x 0x0803) (accepted s f x 0x0803 can) =
    if s.slotState (field f.payload 0 1) = 2 then (accepted s f x 0x0803 can, .no 0x0050)
    else if s.slotState (field f.payload 0 1) = 3 then (accepted s f x 0x0803 can, .no 0x0019)
    else (accepted s f x 0x0803 can).sign 2 items := by
  obtain ⟨hn1, hn2, hn3⟩ := hn
  have hmode : s.mode ∈ m4to9 := by
    simp only [m4to9, List.mem_cons, List.not_mem_nil, or_false]
    omega
  have hsees : (accepted s f x 0x0803 can).seesSlot x.comp (field f.payload 0 1) = s.seesSlot x.comp (field f.payload 0 1) := by
    obtain ⟨ss, cn, he⟩ := accepted_eq s f x 0x0803 can
    rw [he]
    rfl
  have hst : (accepted s f x 0x0803 can).slotState (field f.payload 0 1) = s.slotState (field f.payload 0 1) := accepted_rd _ _ _ _ _ _
  rw [List.mem_cons, List.mem_singleton] at ht
  unfold keyCertify
  dsimp only
  rw [accepted_permitted, accepted_lcy, requestOf_payload, requestOf_comp, hsees, hst, accepted_rd]
  refine ⟨_, (if_neg ?_).trans ((if_neg ?_).trans ((if_neg (by rw [hsee]; decide)).trans (if_neg (by omega))))⟩
  · rw [List.contains_iff_mem.mpr hmode]
    rintro (hx | hx)
    · simp [Open.ok, hc] at hx
    · exact hl hx
  · rw [nonceOk, decide_eq_true ⟨hn1, hn2⟩, hn3]
    simp

theorem keyCertify_signs (hs : s.slotState s.attestSlot = 1) (hk : s.slotState (field f.payload 0 1) = 1) :
    Completes (.cmdKeyCertify f) s fun t => Signed s t f x 0x0803 2 := by
  obtain ⟨items, hb⟩ := keyCertify_judged hn hl h4 h9 hc hsee ht true
  exact completes_signed (c := { code := 0x0803, cancellable := true, rereads := true }) (body := keyCertify) h rfl hs
    (hb.trans ((if_neg (by omega)).trans (if_neg (by omega))))

theorem keyCertify_orphaned (hk : s.slotState (field f.payload 0 1) = 2) :
    Completes (.cmdKeyCertify f) s fun t => Untouched s t ∧ Answers s t f x 0x0803 0x0050 [] := by
  obtain ⟨items, hb⟩ := keyCertify_judged hn hl h4 h9 hc hsee ht true
  obtain ⟨t, he, ha, hu⟩ := refuses_of (i := .cmdKeyCertify f) (c := { code := 0x0803, cancellable := true, rereads := true }) (body := keyCertify) rfl h
    (hb.trans (if_pos hk))
  exact ⟨t, he, hu, ha⟩

end

/-! ### The key authority -/

section
variable {key sig : Bytes} {ctr : Nat} (hc : x.comp = 0) (h5 : 5 ≤ s.mode) (h8 : s.mode ≤ 8) (hw : s.lcy.windowAt ≠ none)
  (hk : key.length = 96) (hsig : sig.length = 96) (hp : f.payload = key ++ le 8 ctr ++ sig) (hlt : s.rd Obj.KSE_KA_CTR.f < ctr)
  (h64 : ctr < 2 ^ 64) (hcurve : onCurve key = true)
  (hst : (s.slotState 4 = 0 ∧ sig = List.replicate 96 0) ∨ s.slotState 4 = 1)
include hc h5 h8 hw hk hsig hp hlt h64 hcurve hst

omit h in
theorem keyAuthoritySet_judged (can : Bool) : keyAuthoritySet (requestOf f x 0x0810) (accepted s f x 0x0810 can) =
    if s.slotState 4 = 0 ∨ Config.ecdsaVerify (s.slotKey 4) (authorityDigest s key ctr) sig = true then
      ((accepted s f x 0x0810 can).authorised f x key ctr, .ok (le 8 ctr))
    else (accepted s f x 0x0810 can, .no 0x0052) := by
  have h1 : f.payload.take 96 = key := by
    rw [hp, List.append_assoc, List.take_append_of_le_length (by omega), List.take_of_length_le (by omega)]
  have h2 : field f.payload 96 8 = ctr := by
    simp [hp, List.append_assoc, field_append_right, hk]
    omega
  have h3 : f.payload.drop 104 = sig := by
    rw [hp, List.drop_append, List.drop_of_length_le (by simp [hk, le_length])]
    simp [hk, le_length]
  have hlen : f.payload.length = 200 := by simp [hp, hk, hsig, le_length]
  have hmode : s.mode ∈ m5to8 := by
    simp only [m5to8, List.mem_cons, List.not_mem_nil, or_false]
    omega
  have hdig : (accepted s f x 0x0810 can).slotState authoritySlot = s.slotState 4 := accepted_rd _ _ _ _ _ _
  have hkey : (accepted s f x 0x0810 can).slotKey authoritySlot = s.slotKey 4 := by
    unfold State.slotKey
    rw [accepted_kse]
    rfl
  have hid : (accepted s f x 0x0810 can).identity = s.identity := by
    unfold State.identity
    rw [accepted_rd, accepted_rd, accepted_rd, accepted_rd]
  have hpres : (accepted s f x 0x0810 can).present = true := by
    unfold State.present
    rw [accepted_lcy]
    exact Option.isSome_iff_ne_none.mpr hw
  unfold keyAuthoritySet
  dsimp only
  rw [accepted_permitted, requestOf_payload, hdig, hkey, hid, accepted_lcy, hpres, accepted_rd, h1, h2, h3, hlen]
  have hz : s.slotState 4 = 0 → unle sig = 0 := fun h0 => by
    obtain ⟨-, rfl⟩ | h1 := hst
    · decide +kernel
    · omega
  refine (if_neg ?_).trans ((if_neg ?_).trans ((if_neg (by decide)).trans ?_))
  · simp [Open.ok, hc, hmode]
  · simpa using hz
  · by_cases hv : s.slotState 4 = 0 ∨ Config.ecdsaVerify (s.slotKey 4) (authorityDigest s key ctr) sig = true
    · refine (if_neg ?_).trans ((if_neg (by omega)).trans ((if_neg (by rw [hcurve]; decide)).trans (Eq.trans ?_ (if_pos hv).symm)))
      · unfold authorityDigest at hv
        obtain hv | hv := hv
        · rw [hv]
          exact fun hn => absurd hn.1 (by decide)
        · rw [hv]
          obtain ⟨h0, -⟩ | h1 := hst
          · rw [h0]
            exact fun hn => absurd hn.1 (by decide)
          · rw [h1]
            exact fun hn => absurd hn.2 (by decide)
      · rfl
    · refine (if_pos ?_).trans (if_neg hv).symm
      rw [not_or, Bool.not_eq_true] at hv
      obtain ⟨h0, hv⟩ := hv
      unfold authorityDigest at hv
      rw [hv, Bool.and_false, beq_eq_false_iff_ne.mpr h0]
      decide

theorem keyAuthoritySet_sets (hv : s.slotState 4 = 0 ∨ Config.ecdsaVerify (s.slotKey 4) (authorityDigest s key ctr) sig = true) :
    Completes (.cmdKeyAuthoritySet f) s fun t => Shows t 4 1 1 4 0xFF ∧ t.slotKey 4 = key ∧ t.rd Obj.KSE_KA_CTR.f = ctr ∧
      t.rd Obj.KSE_KA_PRESENT.f = 1 ∧ Out.resp f.conn 0 f.seq.toNat 0x0810 0 (le 8 ctr) ∈ t.sent ∧ Logged s t 0 0x0804 [] := by
  have hbody := (keyAuthoritySet_judged hc h5 h8 hw hk hsig hp hlt h64 hcurve hst false).trans (if_pos hv)
  have hsess := accepted_session (code := 0x0810) (can := false) h
  obtain ⟨hset, hses, hsen⟩ := (accepted s f x 0x0810 false).setAuthority_set (s := s) key ctr (accepted_regs _ _ _ _ _) (accepted_evr _ _ _ _ _)
  unfold State.authorised at hbody
  generalize hg : (accepted s f x 0x0810 false).setAuthority key ctr = u at hset hses hsen hbody
  have hspk : Speaks u f x := hsess.congr hses
  have hfin : ∀ v t : State, AuthoritySet s t key ctr → Talked u v → Stays v t → ∀ y, t.session x.id = some y → y.conn = some f.conn ∧ y.comp = x.comp := by
    intro v t _ hv ht y hy
    obtain ⟨z, hz, hc1, hm1⟩ := ht _ _ hy
    obtain ⟨w, hw', hc2, hm2⟩ := hv.stays _ _ hz
    obtain ⟨w', hw'', hc3, hm3⟩ := hspk
    obtain rfl : w = w' := Option.some.inj (hw'.symm.trans hw'')
    exact ⟨hc1.trans (hc2.trans hc3), hm1.trans (hm2.trans hm3)⟩
  by_cases hsome : (u.authorityDone.session x.id).isSome = true
  · rw [if_pos hsome] at hbody
    have hd := u.authorityDone_hushed
    have hset' := hset.hushed hd
    generalize u.authorityDone = v at hsome hbody hd hset'
    obtain ⟨y, hy⟩ := Option.isSome_iff_exists.mp hsome
    refine completes_ok (c := { code := 0x0810 }) (body := keyAuthoritySet) rfl h hbody ⟨y, hy, hfin u v hset' (.refl u) hd.stays y hy⟩ fun ss cn => ?_
    refine ⟨hset'.shows, hset'.key, hset'.ctr.trans (Nat.mod_eq_of_lt h64), hset'.present, ?_, hset'.logged⟩
    rw [hc]
    exact List.mem_append_right _ (List.mem_singleton.mpr rfl)
  · rw [if_neg hsome] at hbody
    obtain ⟨ss, cn, hsp⟩ := State.finalTo_spoken hspk f.seq.toNat 0x0810 St.ok (le 8 ctr) false
    have hh := Hushed.finalTo (.refl u) x.id f.seq.toNat 0x0810 St.ok (le 8 ctr) false
    have htalk := u.finalTo_talked x.id f.seq.toNat 0x0810 St.ok (le 8 ctr) false
    generalize u.finalTo x.id f.seq.toNat 0x0810 St.ok (le 8 ctr) false = v at hsp hh htalk hbody
    have hmem : Out.resp f.conn 0 f.seq.toNat 0x0810 0 (le 8 ctr) ∈ v.sent := by
      rw [hsp, hc]
      exact List.mem_append_right _ (List.mem_singleton.mpr rfl)
    have hd := v.authorityDone_hushed
    have hset' := (hset.hushed hh).hushed hd
    generalize v.authorityDone = t at hd hset' hbody
    refine completes_rest (c := { code := 0x0810 }) (body := keyAuthoritySet) rfl h hbody (hfin v t hset' htalk hd.stays) fun ss cn l => ?_
    exact ⟨hset'.shows, hset'.key, hset'.ctr.trans (Nat.mod_eq_of_lt h64), hset'.present, List.mem_append_left _ (hd.sent.subset hmem), hset'.logged⟩

theorem keyAuthoritySet_refused (hv : ¬ (s.slotState 4 = 0 ∨ Config.ecdsaVerify (s.slotKey 4) (authorityDigest s key ctr) sig = true)) :
    Completes (.cmdKeyAuthoritySet f) s fun t => Untouched s t ∧ Answers s t f x 0x0810 0x0052 [] := by
  obtain ⟨t, he, ha, hu⟩ := refuses_of (i := .cmdKeyAuthoritySet f) (c := { code := 0x0810 }) (body := keyAuthoritySet) rfl h
    ((keyAuthoritySet_judged hc h5 h8 hw hk hsig hp hlt h64 hcurve hst false).trans (if_neg hv))
  exact ⟨t, he, hu, ha⟩

end

end

/-- The KSE applies the oldest message. -/
theorem kumApply_applies {now : Nat} {s : State} {j : KumJob} {r : List KumJob} (hj : s.kse.jobs = j :: r) (hp : KumPasses s j.kum) :
    Completes (.kumApply now) s fun t => t.kse.jobs = r ∧
      (if Config.ecdsaVerify (s.slotKey 4) (sha384 (j.kum.take 0x120)) (j.kum.drop 0x120) = true then
        (∀ key, kumKind j.kum ≤ 2 → s.kumKey j.kum = .ok key → t.rd (Obj.KSE_CTR.b (kumOwner j.kum)) = kumCounter j.kum ∧
          t.rd (Obj.KSE_EVT_UPDATED.b (kumOwner j.kum)) = 1 ∧ Shows t (kumSlot j.kum) 1 (kumUsage j.kum) (kumKtype j.kum) (kumOwner j.kum) ∧
          t.slotKey (kumSlot j.kum) = key ∧ t.rd (Obj.KSE_SLOT_CTR.i (kumSlot j.kum)) = kumCounter j.kum) ∧
        (∀ d, kumKind j.kum ≤ 2 → s.kumKey j.kum = .error d → KeysStand s t) ∧
        (kumKind j.kum = 3 → t.rd (Obj.KSE_CTR.b (kumOwner j.kum)) = kumCounter j.kum ∧ t.slotState (kumSlot j.kum) = 0 ∧
          t.slotKey (kumSlot j.kum) = [] ∧ t.rd (Obj.KSE_SLOT_CTR.i (kumSlot j.kum)) = kumCounter j.kum) ∧
        (kumKind j.kum = 4 → t.rd (Obj.KSE_CTR.b (kumOwner j.kum)) = kumCounter j.kum ∧
          t.slotGen (kumSlot j.kum) = (s.slotGen (kumSlot j.kum) + 1) % 2 ^ 32)
      else KeysStand s t) := by
  have he : kumApply (s.advance now) = ({ s.advance now with kse := { s.kse with jobs := r } } : State).applyKum j := by
    unfold kumApply
    rw [show (s.advance now).kse.jobs = j :: r from hj]
    rfl
  refine .of_exec (t := ({ s.advance now with kse := { s.kse with jobs := r } } : State).applyKum j) (congrArg Host.Outcome.next he) ?_
  have hp' : KumPasses ({ s.advance now with kse := { s.kse with jobs := r } } : State) j.kum := hp
  have hrd : ∀ g, ({ s.advance now with kse := { s.kse with jobs := r } } : State).rd g = s.rd g := fun _ => rfl
  have hkeys : ({ s.advance now with kse := { s.kse with jobs := r } } : State).kse.keys = s.kse.keys := rfl
  have hjobs : ({ s.advance now with kse := { s.kse with jobs := r } } : State).kse.jobs = r := rfl
  have hkey : ({ s.advance now with kse := { s.kse with jobs := r } } : State).kumKey j.kum = s.kumKey j.kum := rfl
  have h4 : ({ s.advance now with kse := { s.kse with jobs := r } } : State).slotKey 4 = s.slotKey 4 := rfl
  generalize ({ s.advance now with kse := { s.kse with jobs := r } } : State) = a at hp' hrd hkeys hjobs hkey h4
  have hstand : ∀ w st d, KeysStand s (a.finish w st d) ∧ (a.finish w st d).kse.jobs = r := fun w st d => by
    obtain ⟨⟨h1, h2, h3⟩, hk⟩ := a.finish_keysStand w st d
    exact ⟨⟨h1.trans hkeys, fun c hc => (h2 c hc).trans (hrd _), fun k hk => (h3 k hk).trans (hrd _)⟩, by rw [hk, hjobs]⟩
  rw [State.applyKum_passes hp', h4]
  split
  case isFalse => exact ⟨(hstand _ _ _).2, (hstand _ _ _).1⟩
  case isTrue =>
    have hgo : ∀ key, let t := ((a.kumSwitch j.kum key).kumShown j.kum).kumTold j
        t.kse.jobs = r ∧ t.rd (Obj.KSE_CTR.b (kumOwner j.kum)) = kumCounter j.kum ∧ t.rd (Obj.KSE_EVT_UPDATED.b (kumOwner j.kum)) = 1 ∧
        (kumKind j.kum ≤ 2 → Shows t (kumSlot j.kum) 1 (kumUsage j.kum) (kumKtype j.kum) (kumOwner j.kum) ∧ t.slotKey (kumSlot j.kum) = key ∧
          t.rd (Obj.KSE_SLOT_CTR.i (kumSlot j.kum)) = kumCounter j.kum) ∧
        (kumKind j.kum = 3 → t.slotState (kumSlot j.kum) = 0 ∧ t.slotKey (kumSlot j.kum) = [] ∧
          t.rd (Obj.KSE_SLOT_CTR.i (kumSlot j.kum)) = kumCounter j.kum) ∧
        (kumKind j.kum = 4 → t.slotGen (kumSlot j.kum) = (s.slotGen (kumSlot j.kum) + 1) % 2 ^ 32) := by
      intro key
      obtain ⟨-, -, -, -, -, hdet⟩ := hp'
      have hs := State.kumSwitch_switched key hdet
      generalize a.kumSwitch j.kum key = u at hs
      have hd := u.kumShown_done j
      dsimp only
      generalize (u.kumShown j.kum).kumTold j = t at hd
      have hlt := kumSlot_lt j.kum
      have hm := slotKeys_mem (kumSlot j.kum)
      have hslot : ∀ r : Row, slotKeys (kumSlot j.kum) (r.i (kumSlot j.kum)).key = true → t.rd (r.i (kumSlot j.kum)) = u.rd (r.i (kumSlot j.kum)) :=
        fun r hr => hd.slot _ hlt _ hr
      have hkey' : t.slotKey (kumSlot j.kum) = u.slotKey (kumSlot j.kum) := congrArg (fun x : Kse => x.keys.get [] (kumSlot j.kum)) hd.kse
      have hjob : t.kse.jobs = r := (congrArg Kse.jobs hd.kse).trans (hs.jobs.trans hjobs)
      refine ⟨hjob, hd.ctr, hd.flag, fun hk => ?_, fun hk => ?_, fun hk => ?_⟩
      · obtain ⟨⟨h1, h2, h3, h4⟩, h5, h6⟩ := hs.sets hk
        exact ⟨⟨(hslot _ (hm _ (by simp))).trans h1, (hslot _ (hm _ (by simp))).trans h2, (hslot _ (hm _ (by simp))).trans h3,
          (hslot _ (hm _ (by simp))).trans h4⟩, hkey'.trans h5, (hslot _ (hm _ (by simp))).trans h6⟩
      · obtain ⟨h1, h2, h3⟩ := hs.empties hk
        exact ⟨(hslot _ (hm _ (by simp))).trans h1, hkey'.trans h2, (hslot _ (hm _ (by simp))).trans h3⟩
      · refine (hslot Obj.KSE_SLOT_GEN (hm _ (by simp))).trans ((hs.renews hk).trans ?_)
        rw [State.slotGen, hrd]
        rfl
    by_cases hk : kumKind j.kum ≤ 2
    · rw [if_pos hk, hkey]
      cases hkk : s.kumKey j.kum with
      | error d =>
        dsimp only
        exact ⟨(hstand _ _ _).2, fun key _ he => (nomatch he), fun d' _ _ => (hstand _ _ _).1, fun h3 => absurd h3 (by omega), fun h4 => absurd h4 (by omega)⟩
      | ok key =>
        dsimp only
        obtain ⟨h1, h2, h3, h4, -⟩ := hgo key
        refine ⟨h1, fun key' _ he => ?_, fun d _ he => (nomatch he), fun h3 => absurd h3 (by omega), fun h4 => absurd h4 (by omega)⟩
        obtain rfl := Except.ok.inj he
        exact ⟨h2, h3, h4 hk⟩
    · rw [if_neg hk]
      dsimp only
      obtain ⟨h1, h2, h3, -, h5, h6⟩ := hgo []
      exact ⟨h1, fun _ hle => absurd hle hk, fun _ hle => absurd hle hk, fun h3' => ⟨h2, h5 h3'⟩, fun h4' => ⟨h2, h6 h4'⟩⟩

/-- Settles O28. What a message does turns on its signature alone, and the end of sessions touches no key. -/
theorem keyCommands : Obligations.KeyCommands := by
  unfold Obligations.KeyCommands
  refine ⟨fun f s x h => ⟨keyUpdate_waits h, keyAttest_signs h, fun hn hs hl h4 h9 hc => ?_, fun hc h5 h8 hw key sig ctr hk hsig hp hlt h64 hcurve hst => ?_⟩,
    fun now s j r hj hp => kumApply_applies hj hp⟩
  · exact fun hsee ht => ⟨keyCertify_signs h hn hl h4 h9 hc hsee ht hs, keyCertify_orphaned h hn hl h4 h9 hc hsee ht⟩
  · by_cases hv : s.slotState 4 = 0 ∨ Config.ecdsaVerify (s.slotKey 4) (authorityDigest s key ctr) sig = true
    · obtain ⟨t, he, ht⟩ := keyAuthoritySet_sets h hc h5 h8 hw hk hsig hp hlt h64 hcurve hst hv
      exact ⟨t, he, (if_pos hv).mpr ht⟩
    · obtain ⟨t, he, ht⟩ := keyAuthoritySet_refused h hc h5 h8 hw hk hsig hp hlt h64 hcurve hst hv
      exact ⟨t, he, (if_neg hv).mpr ht⟩

end Sys2Proof.Proofs
end

section
/-!
SUPPORT. The session's own commands (spec/03 R61, R66, R73, R74): a challenge, a close and a cancel, and codes and headers that no
chapter serves.
-/
namespace Sys2Proof.Machine
open Sys2Proof.Claims

/-! ### A request cancelled -/

theorem Hushed.gone {s t : State} (h : Hushed s t) {i : Nat} (hi : s.session i = none) : t.session i = none := by
  cases ht : t.session i with
  | none => rfl
  | some y =>
    obtain ⟨z, hz, -⟩ := h.stays i y ht
    rw [hi] at hz
    cases hz

theorem Remains.absent {s t : State} (h : Remains s t) {p : Nat → Nat → Bool → Prop} (hp : ∀ w ∈ s.waiters, ¬ p w.sid w.seq w.cancellable) :
    ∀ w ∈ t.waiters, ¬ p w.sid w.seq w.cancellable := by
  intro w hw
  obtain ⟨v, hv, h1, h2, h3⟩ := h w hw
  rw [← h1, ← h2, ← h3]
  exact hp v hv

/-- The state in which a cancelled request has been answered. -/
def State.cancelAnswered (s : State) (w : Waiter) : State :=
  ({ s with waiters := s.waiters.filter fun x => ! (x.sid == w.sid && x.seq == w.seq) } : State).finalTo w.sid w.seq w.cmd St.cancelled [] false

/-- What the cancel does to the work of a request. -/
def State.cancelWork (s : State) (w : Wait) : State :=
  match w with
  | .step c _ _ => s.putProg c { s.prog c with step := none }
  | .busTx p b => (s.cancelTx p b).select p
  | .mte => s.abortTest
  | .agm => { s with agm := { s.agm with running := none } }
  | _ => s

theorem State.cancelWaiter_eq (s : State) (w : Waiter) : s.cancelWaiter w = (s.cancelAnswered w).cancelWork w.wait := by
  unfold State.cancelWaiter State.cancelWork State.cancelAnswered
  cases w.wait <;> rfl

theorem State.cancelWork_hushed (s : State) (w : Wait) : Hushed s (s.cancelWork w) := by
  unfold State.cancelWork
  split
  · exact ⟨rfl, .of_regs _ rfl, List.prefix_refl _, List.prefix_refl _, .of_eq rfl, .of_eq rfl⟩
  · exact s.cancelTx_hushed _ _
  · exact s.abortTest_hushed
  · exact ⟨rfl, .of_regs _ rfl, List.prefix_refl _, List.prefix_refl _, .of_eq rfl, .of_eq rfl⟩
  · exact .refl s

theorem State.cancelTx_talked (s : State) (p b : Nat) : Talked s ((s.cancelTx p b).select p) := by
  have h : Talked s (s.cancelTx p b) := by
    unfold State.cancelTx
    dsimp only
    split
    · exact (s.endTx_work _ _ _).talked
    · split
      · exact (s.endTx_work _ _ _).talked
      · split
        · exact .of_eq rfl rfl
        · exact .refl s
  exact h.trans (State.select_work _).talked

theorem State.abortTest_talked (s : State) : Talked s s.abortTest := by
  unfold State.abortTest
  split
  · exact .refl s
  case _ x _ =>
    refine Talked.trans ?_ (State.finish_talked _ _ _ _)
    refine .of_eq ?_ ?_
    · exact State.wrs_sessions _ _
    · exact State.wrs_sent _ _

theorem State.cancelWork_talked (s : State) (w : Wait) : Talked s (s.cancelWork w) := by
  unfold State.cancelWork
  split
  · exact .of_eq rfl rfl
  · exact s.cancelTx_talked _ _
  · exact s.abortTest_talked
  · exact .of_eq rfl rfl
  · exact .refl s

theorem State.cancelAnswered_talked (s : State) (w : Waiter) : Talked s (s.cancelAnswered w) :=
  Talked.trans (t := { s with waiters := s.waiters.filter fun x => ! (x.sid == w.sid && x.seq == w.seq) }) (.of_eq rfl rfl)
    (State.finalTo_talked _ _ _ _ _ _ _)

theorem State.cancelAnswered_waiters (s : State) (w : Waiter) :
    (s.cancelAnswered w).waiters = s.waiters.filter fun x => ! (x.sid == w.sid && x.seq == w.seq) := by
  unfold State.cancelAnswered
  rw [State.finalTo_eq]

theorem State.cancelWaiter_absent (s : State) (w : Waiter) : ∀ v ∈ (s.cancelWaiter w).waiters, ¬ (v.sid = w.sid ∧ v.seq = w.seq) := by
  rw [State.cancelWaiter_eq]
  refine ((s.cancelAnswered w).cancelWork_hushed w.wait).waits.absent (p := fun i n _ => i = w.sid ∧ n = w.seq) ?_
  rw [State.cancelAnswered_waiters]
  intro v hv hvw
  have h := (List.mem_filter.mp hv).2
  simp [hvw] at h

/-- Cancelling some requests of a session leaves none of them. -/
theorem State.cancelAll_absent (l : List Waiter) (s : State) {w : Waiter} (hw : w ∈ l) :
    ∀ v ∈ (l.foldl State.cancelWaiter s).waiters, ¬ (v.sid = w.sid ∧ v.seq = w.seq) := by
  induction l generalizing s with
  | nil => cases hw
  | cons a l ih =>
    obtain rfl | h := List.mem_cons.mp hw
    · have hl : Hushed (s.cancelWaiter w) (l.foldl State.cancelWaiter (s.cancelWaiter w)) := .foldl (.refl _) fun u a _ => u.cancelWaiter_hushed a
      exact hl.waits.absent (p := fun i n _ => i = w.sid ∧ n = w.seq) (s.cancelWaiter_absent w)
    · exact ih _ h

/-- Cancelling whatever of a session is cancellable leaves nothing of it that is. -/
theorem State.cancelSession_absent (s : State) (i : Nat) :
    ∀ v ∈ ((s.cancellableOf i).foldl State.cancelWaiter s).waiters, ¬ (v.sid = i ∧ v.cancellable = true) := by
  intro v hv ⟨hi, hc⟩
  have hl : Hushed s ((s.cancellableOf i).foldl State.cancelWaiter s) := .foldl (.refl _) fun u a _ => u.cancelWaiter_hushed a
  obtain ⟨w, hw, h1, h2, h3⟩ := hl.waits v hv
  refine State.cancelAll_absent (s.cancellableOf i) s (w := w) ?_ v hv ⟨h1.symm, h2.symm⟩
  exact List.mem_filter.mpr ⟨hw, by simp [h1, h3, hi, hc]⟩

theorem State.endSession_gone (s : State) (i : Nat) : (s.endSession i).session i = none := by
  unfold State.endSession
  split
  · assumption
  · refine List.find?_eq_none.mpr fun y hy hi => ?_
    have h := (List.mem_filter.mp hy).2
    simp at h hi
    exact h hi

/-- A request without a session is answered to nobody. -/
theorem State.finalTo_gone {s : State} {i : Nat} (h : s.session i = none) (seq cmd st : Nat) (p : Bytes) (whole : Bool) :
    s.finalTo i seq cmd st p whole = s := by
  unfold State.finalTo
  rw [h]

/-! ### The duplicate window of an accepted request -/

theorem Session.accept_window (x : Session) (e : WinEntry) : (x.accept e).window = x.window.drop (x.window.length - 15) ++ [e] := by
  unfold Session.accept
  dsimp only
  rw [List.length_append, List.length_singleton, show x.window.length + 1 - 16 = x.window.length - 15 by omega,
    List.drop_append_of_le_length (by omega)]

theorem accepted_window {s : State} {f : Frame} {x : Session} {code : Nat} {can : Bool} (h : Admitted s f x) :
    ∃ y e, (accepted s f x code can).session x.id = some y ∧ y.window = x.window.drop (x.window.length - 15) ++ [e] ∧ e.seq = x.expected := by
  obtain ⟨-, -, hid, -, -, hseq, -⟩ := h
  let y : Session := { x with lastFrame := f.arrival }
  let e : WinEntry := { seq := f.seq.toNat, cmd := code, done := false, cached := false, cancellable := can, status := 0, payload := [] }
  rw [accepted_arrived]
  refine ⟨_, e, State.session_putSession (x := y) ?_, Session.accept_window y e, hseq⟩
  exact (State.session_congr (State.perf_sessions _ _ _ _ _) _).trans (State.session_putSession (s := s.arrived f) (y := y) hid)

theorem untouched_trans {s t u : State} (h : Untouched s t) (k : Untouched t u) : Untouched s u := by
  obtain ⟨h1, h2, h3, h4, h5, h6, h7, h8⟩ := h
  obtain ⟨k1, k2, k3, k4, k5, k6, k7, k8⟩ := k
  exact ⟨k1.trans h1, k2.trans h2, k3.trans h3, k4.trans h4, k5.trans h5, k6.trans h6, k7.trans h7, k8.trans h8⟩

/-- A challenge on a connection answers with what was drawn, and keeps it there. -/
theorem State.challenge_drawn {s : State} {conn : Nat} {k : Conn} (h : s.connOf conn = some k) :
    ∃ n t, s.challenge conn = (t, .ok (le 32 n)) ∧ t.sessions = s.sessions ∧ t.sent = s.sent ∧ Untouched s t := by
  unfold State.challenge
  rw [h]
  exact ⟨_, _, rfl, rfl, rfl, rfl, rfl, rfl, rfl, rfl, rfl, rfl, rfl⟩

/-! ### The connection of an accepted request -/

theorem accepted_ids (s : State) (f : Frame) (x : Session) (code : Nat) (can : Bool) :
    (accepted s f x code can).sessions.map (·.id) = s.sessions.map (·.id) := by
  rw [accepted_arrived]
  refine (State.putSession_ids _ _).trans ?_
  rw [State.perf_sessions]
  exact State.putSession_ids (s.arrived f) _

theorem State.usbEnabled_congr {s t : State} (hr : t.regs = s.regs) (hl : t.lcy = s.lcy)
    (hi : t.sessions.map (·.id) = s.sessions.map (·.id)) : t.usbEnabled = s.usbEnabled := by
  have hany (n : Nat) : (t.sessions.any fun x => x.id == n) = s.sessions.any fun x => x.id == n := by
    have h := congrArg (fun l => l.any fun i => i == n) hi
    simpa only [List.any_map, Function.comp_def] using h
  unfold State.usbEnabled
  rw [State.rd_congr hr, State.rd_congr hr, hl]
  simp only [hany]

theorem State.connOf_congr {s t : State} (hr : t.regs = s.regs) (hl : t.lcy = s.lcy) (hc : t.conns = s.conns)
    (hi : t.sessions.map (·.id) = s.sessions.map (·.id)) (n : Nat) : t.connOf n = s.connOf n := by
  unfold State.connOf
  rw [State.usbEnabled_congr hr hl hi, hc]

theorem accepted_connOf {s : State} {f : Frame} {x : Session} {code : Nat} {can : Bool} (n : Nat) :
    (accepted s f x code can).connOf n = (s.advance f.arrival).connOf n := by
  obtain ⟨ss, cn, he⟩ := accepted_eq s f x code can
  refine State.connOf_congr (accepted_regs s f x code can) ?_ ?_ (accepted_ids s f x code can) n
  · rw [he]
    rfl
  · rw [he]
    rfl

end Sys2Proof.Machine

namespace Sys2Proof.Proofs
open Sys2Proof.Machine Sys2Proof.Claims

section
variable {f : Frame} {s : State} {x : Session} (h : Admitted s f x)
include h

theorem sessionPing_reports (hp : f.payload.length ≤ 64) :
    Reports (.cmdSessionPing f) s f x 0x0104 (f.payload ++ le 8 (max s.floorTime f.arrival)) := by
  refine reports_of (c := { code := 0x0104 }) (body := sessionPing) rfl h ?_
  unfold sessionPing
  refine (if_neg (Nat.not_lt.mpr hp)).trans ?_
  rw [accepted_floorTime]
  rfl

omit h in
theorem accepted_ident (code : Nat) (can : Bool) : (accepted s f x code can).ident = s.ident := by
  obtain ⟨ss, cn, he⟩ := accepted_eq s f x code can
  rw [he]
  rfl

theorem identGet_reports (hp : f.payload = []) : Reports (.cmdIdentGet f) s f x 0x0110 s.ident := by
  refine reports_of (c := { code := 0x0110, preOpen := true, rereads := true }) (pre := identGetPre) (body := identGet) rfl h ?_
  unfold identGet
  refine (if_neg (not_not.mpr hp)).trans ?_
  rw [accepted_ident]

theorem sessionChallenge_answers (hp : f.payload = []) :
    Completes (.cmdSessionChallenge f) s fun t => Untouched s t ∧ ∃ n, Answers s t f x 0x0102 0 (le 32 n) := by
  obtain ⟨⟨k, ⟨-, hk⟩, -⟩, -⟩ := id h
  have hconn : (accepted s f x 0x0102 false).connOf f.conn = some k := (accepted_connOf _).trans hk
  obtain ⟨n, t, hc, hs, ho, hu⟩ := State.challenge_drawn hconn
  refine completes_ok (c := { code := 0x0102, preOpen := true }) (pre := sessionChallengePre) (body := sessionChallenge) (p := le 32 n) (t := t)
    rfl h ?_ ((accepted_session h).congr hs) fun ss cn => ⟨?_, n, ?_⟩
  · exact (if_neg (not_not.mpr hp)).trans hc
  · exact untouched_trans (untouched_accepted s f x 0x0102 false) hu
  · rw [accepted_sent] at ho
    show t.sent ++ _ = _
    rw [ho]

theorem sessionClose_ends (hp : f.payload = []) : Completes (.cmdSessionClose f) s fun t => t.session x.id = none ∧
    Out.resp f.conn x.comp f.seq.toNat 0x0103 0 (le 1 (s.cancellableOf x.id).length ++ le 3 0) ∈ t.sent ∧
    ∀ w ∈ t.waiters, w.sid = x.id → w.cancellable = false := by
  have hl : (accepted s f x 0x0103 false).cancellableOf x.id = s.cancellableOf x.id := by
    unfold State.cancellableOf
    rw [accepted_waiters]
  refine ⟨_, rfl, ?_⟩
  rw [State.serve_admitted h]
  generalize accepted s f x 0x0103 false = a at hl
  have hr : a.run { code := 0x0103 } (requestOf f x 0x0103) sessionClose =
      (((((a.cancellableOf x.id).foldl State.cancelWaiter a).respond f.conn x.comp f.seq.toNat 0x0103 St.ok
        (le 1 (a.cancellableOf x.id).length ++ le 3 0)).endSession x.id).judgeUsb).finalTo x.id f.seq.toNat 0x0103 St.ok [] false := by
    unfold State.run sessionClose
    rw [if_neg (show ¬ (requestOf f x 0x0103).payload ≠ [] from not_not.mpr hp)]
    rfl
  rw [show (⟨0x0103, false, false, false, false⟩ : CmdSpec).code = 0x0103 from rfl, hr]
  have ha := a.cancelSession_absent x.id
  rw [hl] at ha ⊢
  generalize (s.cancellableOf x.id).foldl State.cancelWaiter a = u at ha
  generalize hv : u.respond f.conn x.comp f.seq.toNat 0x0103 St.ok (le 1 (s.cancellableOf x.id).length ++ le 3 0) = v
  have hvs : v.sent = u.sent ++ [.resp f.conn x.comp f.seq.toNat 0x0103 0 (le 1 (s.cancellableOf x.id).length ++ le 3 0)] := by
    rw [← hv]
    exact State.respond_sent _ _ _ _ _ _ _
  have hvw : v.waiters = u.waiters := by rw [← hv, State.respond_eq]
  have he := v.endSession_hushed x.id
  have hj := (v.endSession x.id).judgeUsb_hushed
  have hgone := hj.gone (v.endSession_gone x.id)
  rw [State.finalTo_gone hgone]
  refine ⟨hgone, (he.trans hj).sent.subset ?_, fun w hw hi => ?_⟩
  · rw [hvs]
    exact List.mem_append_right _ (List.mem_singleton_self _)
  · have hb := (he.trans hj).waits.absent (p := fun i _ c => i = x.id ∧ c = true) (by rw [hvw]; exact ha) w hw
    exact Bool.eq_false_iff.mpr fun hc => hb ⟨hi, hc⟩

/-! ### Cancelling -/

omit h in
/-- The entry of the window that a cancel names, its own apart. -/
theorem find_window {l : List WinEntry} {e : WinEntry} {n : Nat} (he : e.seq ≠ n) :
    (l ++ [e]).find? (fun y => y.seq == n) = l.find? fun y => y.seq == n := by
  rw [List.find?_append, List.find?_cons_of_neg (by simpa using he), List.find?_nil, Option.or_none]

section
variable {n : Nat} (hn : n < 2 ^ 32) (hp : f.payload = le 4 n) (hx : n ≠ x.expected)
include hn hp hx

theorem sessionCancel_judged : let a := accepted s f x 0x0106 false
    sessionCancel (requestOf f x 0x0106) a =
      match (x.window.drop (x.window.length - 15)).find? fun e => e.seq == n with
      | none => (a, .ok (le 1 3 ++ le 3 0))
      | some e =>
        if e.done then (a, .ok (le 1 1 ++ le 3 0))
        else match s.waiters.find? fun w => w.sid == x.id && w.seq == n && w.cancellable with
          | some w => (a.cancelWaiter w, .ok (le 1 0 ++ le 3 0))
          | none => (a, .ok (le 1 2 ++ le 3 0)) := by
  intro a
  obtain ⟨y, e, hy, hw, he⟩ := accepted_window (code := 0x0106) (can := false) h
  have hseq : field (requestOf f x 0x0106).payload 0 4 = n := by
    have h4 := field_le_low (m := 4) (n := 4) n [] (Nat.le_refl 4)
    rw [List.append_nil, Nat.mod_eq_of_lt (by simpa using hn)] at h4
    exact (congrArg (fun b => field b 0 4) hp).trans h4
  have hlen : (requestOf f x 0x0106).payload.length = 4 := (congrArg List.length hp).trans (le_length 4 n)
  have hwin : (a.session (requestOf f x 0x0106).sid).bind (fun x => x.window.find? fun e => e.seq == n) =
      (x.window.drop (x.window.length - 15)).find? fun e => e.seq == n := by
    rw [show a.session (requestOf f x 0x0106).sid = some y from hy, Option.bind_some, hw]
    exact find_window (by omega)
  unfold sessionCancel
  dsimp only
  rw [hseq, if_neg (not_not.mpr hlen), hwin, show a.waiters = s.waiters from accepted_waiters s f x 0x0106 false]
  rfl

theorem sessionCancel_unknown (he : ((x.window.drop (x.window.length - 15)).find? fun e => e.seq == n) = none) :
    Reports (.cmdSessionCancel f) s f x 0x0106 (le 1 3 ++ le 3 0) := by
  refine reports_of (c := { code := 0x0106 }) (body := sessionCancel) rfl h ((sessionCancel_judged h hn hp hx).trans ?_)
  rw [he]

theorem sessionCancel_done {y : WinEntry} (he : ((x.window.drop (x.window.length - 15)).find? fun e => e.seq == n) = some y) (hd : y.done = true) :
    Reports (.cmdSessionCancel f) s f x 0x0106 (le 1 1 ++ le 3 0) := by
  refine reports_of (c := { code := 0x0106 }) (body := sessionCancel) rfl h ((sessionCancel_judged h hn hp hx).trans ?_)
  rw [he]
  exact if_pos hd

theorem sessionCancel_fixed {y : WinEntry} (he : ((x.window.drop (x.window.length - 15)).find? fun e => e.seq == n) = some y) (hd : y.done = false)
    (hw : (s.waiters.find? fun w => w.sid == x.id && w.seq == n && w.cancellable) = none) :
    Reports (.cmdSessionCancel f) s f x 0x0106 (le 1 2 ++ le 3 0) := by
  refine reports_of (c := { code := 0x0106 }) (body := sessionCancel) rfl h ((sessionCancel_judged h hn hp hx).trans ?_)
  rw [he, hw]
  exact if_neg (Bool.eq_false_iff.mp hd)

theorem sessionCancel_cancels {y : WinEntry} {z : Waiter}
    (he : ((x.window.drop (x.window.length - 15)).find? fun e => e.seq == n) = some y) (hd : y.done = false)
    (hw : (s.waiters.find? fun w => w.sid == x.id && w.seq == n && w.cancellable) = some z) :
    Completes (.cmdSessionCancel f) s fun t => AnswersLast s t f x 0x0106 0 (le 1 0 ++ le 3 0) ∧
      Out.resp f.conn x.comp n z.cmd 0x0043 [] ∈ t.sent ∧ ∀ v ∈ t.waiters, ¬ (v.sid = x.id ∧ v.seq = n) := by
  obtain ⟨⟨hz1, hz2⟩, -⟩ : (z.sid = x.id ∧ z.seq = n) ∧ z.cancellable = true := by simpa using List.find?_some hw
  let a := accepted s f x 0x0106 false
  have hsp : Speaks a f x := accepted_session h
  have hc : Talked a (a.cancelWaiter z) := by
    rw [State.cancelWaiter_eq]
    exact (a.cancelAnswered_talked z).trans (State.cancelWork_talked _ _)
  refine completes_ok (c := { code := 0x0106 }) (body := sessionCancel) (t := a.cancelWaiter z) (p := le 1 0 ++ le 3 0) rfl h
    ((sessionCancel_judged h hn hp hx).trans ?_) (hc.speaks hsp) fun ss cn => ⟨?_, ?_, ?_⟩
  · rw [he, hw]
    exact if_neg (Bool.eq_false_iff.mp hd)
  · obtain ⟨l, hl⟩ := hc.sent
    refine ⟨l, ?_⟩
    rw [← accepted_sent s f x 0x0106 false, hl]
  · refine List.mem_append_left _ ?_
    rw [State.cancelWaiter_eq]
    refine (State.cancelWork_hushed _ _).sent.subset ?_
    unfold State.cancelAnswered
    rw [hz1, hz2]
    obtain ⟨ss', cn', hf⟩ := State.finalTo_spoken (t := { a with waiters := a.waiters.filter fun w => ! (w.sid == x.id && w.seq == n) })
      (hsp.congr rfl) n z.cmd St.cancelled [] false
    rw [hf]
    exact List.mem_append_right _ (List.mem_singleton_self _)
  · rw [← hz1, ← hz2]
    exact a.cancelWaiter_absent z

end

theorem undefined_answers {code : BitVec 16} (hc : definedCodes.contains code.toNat = false) :
    Completes (.mmpUndefinedCommand f code) s fun t => Untouched s t ∧
      Answers s t f x code.toNat (if code = 0x0710 then 0x0019 else 0x0018) [] := by
  have hst : (if code = 0x0710 then 0x0019 else 0x0018) = if code.toNat = 0x0710 then St.notPermitted else St.badCommand := by
    by_cases hk : code = 0x0710
    · rw [if_pos hk, if_pos (by rw [hk]; rfl)]
      rfl
    · rw [if_neg hk, if_neg (show ¬ code.toNat = 0x0710 from fun hn => hk (BitVec.eq_of_toNat_eq hn))]
      rfl
  have he : exec (.mmpUndefinedCommand f code) s = .next (s.serve { code := code.toNat } f noPre (badCode code.toNat)) := by
    show execMmpUndefinedCommand f code s = _
    unfold execMmpUndefinedCommand
    rw [hc]
    rfl
  obtain ⟨t, ht, ha, hu⟩ := refuses_of he h rfl
  refine ⟨t, ht, hu, ?_⟩
  rw [hst]
  exact ha

end

theorem badHeader_answers {f : Frame} {code : BitVec 16} {s : State} {k : Conn} {st : Nat} {p : Bytes} (hr : Reaches s f k)
    (hj : f.judge k.usb = .bad st p) : Completes (.mmpBadHeader f code) s fun t => Untouched s t ∧
      t.sent = s.sent ++ [Out.resp f.conn (match s.sessionOn f.conn with | some x => x.comp | none => 0xFF) f.seq.toNat code.toNat st p] := by
  have hr' : Reaches (s.advance f.arrival) f k := by
    refine ⟨hr.1, ?_⟩
    have := hr.2
    exact this
  refine ⟨_, rfl, ?_⟩
  have he : mmpBadHeader f code.toNat (s.advance f.arrival) =
      ((s.advance f.arrival).arrived f).respond f.conn (match s.sessionOn f.conn with | some x => x.comp | none => 0xFF) f.seq.toNat
        code.toNat st p := by
    unfold mmpBadHeader
    rw [hr.2]
    dsimp only
    rw [if_neg (by rw [hj]; exact fun h => nomatch h), State.serve_judged hr', hj]
    rfl
  rw [he]
  have hu : Untouched s ((s.advance f.arrival).arrived f) := ⟨rfl, rfl, rfl, rfl, rfl, rfl, rfl, rfl⟩
  exact ⟨hu.respond, State.respond_sent _ _ _ _ _ _ _⟩

/-- Settles O19: each case is a branch of its command's body; a cancelled request cannot come back, as its work only ends others. -/
theorem sessionCommands : Obligations.SessionCommands := by
  unfold Obligations.SessionCommands
  refine ⟨fun f s x h => ⟨sessionPing_reports h, identGet_reports h, sessionChallenge_answers h, sessionClose_ends h, fun n hn hp hx => ?_⟩,
    fun f code s x h hc => undefined_answers h hc, fun f code s k st p hr hj => badHeader_answers hr hj⟩
  exact ⟨sessionCancel_unknown h hn hp hx, fun y => sessionCancel_done h hn hp hx, fun y => sessionCancel_fixed h hn hp hx,
    fun y z => sessionCancel_cancels h hn hp hx⟩

end Sys2Proof.Proofs
end

section
namespace Sys2Proof.Proofs
open Sys2Proof.Machine Sys2Proof.Claims

/-! ### Transports and limits -/

theorem advance_floorTime_of_le {s : State} {now : Nat} (h : s.floorTime ≤ now) : (s.advance now).floorTime = now :=
  (State.advance_floorTime s now).trans (Nat.max_eq_right h)

theorem endSession_judged_gone (s : State) (sid : Nat) : ((s.endSession sid).judgeUsb).session sid = none :=
  (s.endSession sid).judgeUsb_hushed.gone (s.endSession_gone sid)

section
variable {sid now : Nat} {s : State} {x : Session} (hx : s.session sid = some x) (hn : s.floorTime ≤ now)
include hx hn

theorem sessionIdleTimeout_ends (hb : now % 1000000 = 0) (hl : x.lastFrame + 300000000000 ≤ now) :
    Completes (.sessionIdleTimeout sid now) s fun t => t.session sid = none := by
  refine ⟨_, rfl, ?_⟩
  have hx' : (s.advance now).session sid = some x := hx
  unfold sessionIdleTimeout
  simp only [hx', advance_floorTime_of_le hn]
  rw [if_pos ⟨hb, hl⟩]
  exact endSession_judged_gone _ _

theorem sessionIdleTimeout_early (hl : now < x.lastFrame + 300000000000) :
    Completes (.sessionIdleTimeout sid now) s fun t => t = s.advance now := by
  refine ⟨_, rfl, ?_⟩
  have hx' : (s.advance now).session sid = some x := hx
  unfold sessionIdleTimeout
  simp only [hx', advance_floorTime_of_le hn]
  exact if_neg fun h => Nat.not_le.mpr hl h.2

theorem sessionDetachExpiry_ends (hb : now % 1000000 = 0) (hc : x.conn = none) (hl : x.detachedAt + 60000000000 ≤ now) :
    Completes (.sessionDetachExpiry sid now) s fun t => t.session sid = none := by
  refine ⟨_, rfl, ?_⟩
  have hx' : (s.advance now).session sid = some x := hx
  unfold sessionDetachExpiry
  simp only [hx', advance_floorTime_of_le hn]
  rw [if_pos ⟨hb, hc, hl⟩]
  exact endSession_judged_gone _ _

theorem sessionDetachExpiry_early (hl : x.conn ≠ none ∨ now < x.detachedAt + 60000000000) :
    Completes (.sessionDetachExpiry sid now) s fun t => t = s.advance now := by
  refine ⟨_, rfl, ?_⟩
  have hx' : (s.advance now).session sid = some x := hx
  unfold sessionDetachExpiry
  simp only [hx', advance_floorTime_of_le hn]
  refine if_neg fun ⟨_, hc, h⟩ => ?_
  obtain hl | hl := hl
  · exact hl hc
  · exact Nat.not_le.mpr hl h

end

/-! ### Notices -/

theorem foldl_emit {α : Type} (g : α → Out) (l : List α) (s : State) :
    l.foldl (fun t n => t.emit (g n)) s = { s with sent := s.sent ++ l.map g } := by
  induction l generalizing s with
  | nil => simp
  | cons a l ih =>
    rw [List.foldl_cons, ih]
    simp [State.emit]

/-- Handing over puts every notice out and empties the session's list. -/
theorem handOver_shape {sid c : Nat} {s : State} {x : Session} (hx : s.session sid = some x) (hc : x.conn = some c) :
    ∃ u n, s.handOver sid = (u.putSession { x with notices := [] }).perf 0 3 x.comp n ∧ Untouched s u ∧ u.sessions = s.sessions ∧
      u.sent = s.sent ++ x.notices.map fun n => Out.notice sid c n.1 n.2 := by
  unfold State.handOver
  simp only [hx, hc]
  rw [foldl_emit]
  exact ⟨_, _, rfl, ⟨rfl, rfl, rfl, rfl, rfl, rfl, rfl, rfl⟩, rfl, rfl⟩

theorem noticeHandover_hands {sid c : Nat} {s : State} {x : Session} (hx : s.session sid = some x) (hc : x.conn = some c) :
    Completes (.noticeHandover sid) s fun t => Untouched s t ∧
      t.sent = s.sent ++ x.notices.map (fun n => Out.notice sid c n.1 n.2) ∧ t.session sid = some { x with notices := [] } := by
  refine ⟨_, rfl, ?_⟩
  obtain ⟨u, n, he, hu, hs, ho⟩ := handOver_shape hx hc
  obtain rfl : x.id = sid := State.session_id hx
  rw [he]
  refine ⟨hu.putSession.perf, (State.perf_sent _ _ _ _ _).trans ho, ?_⟩
  exact (State.session_congr (State.perf_sessions _ _ _ _ _) _).trans
    (State.session_putSession (y := { x with notices := [] }) ((State.session_congr hs _).trans hx))

/-! ### The mailbox RAM -/

section
variable {src n : Nat} {s : State} (h4 : src ≤ 4) (h16 : n < 16) (hf : s.mbx.fifo.length < 16)
include h4 h16 hf

theorem mbxDbIn_queues (hs : s.slotServed (s.mbx.slots.get {} n) = true) :
    Completes (.mbxDbIn src n) s fun t => t = { s with mbx := { s.mbx with fifo := s.mbx.fifo ++ [n] } } := by
  refine ⟨_, rfl, ?_⟩
  unfold mbxDbIn
  simp only [Nat.mod_eq_of_lt h16]
  rw [if_neg (by omega), if_pos hs]

theorem mbxDbIn_discards (hs : s.slotServed (s.mbx.slots.get {} n) = false) (h2 : (s.mbx.slots.get {} n).state = 2) :
    Completes (.mbxDbIn src n) s fun t => t.mbx.fifo = s.mbx.fifo ∧ t.mbx.slots.get {} n = {} ∧
      Logged s t 0 0x0101 (le 1 n ++ le 1 src ++ le 2 (s.mbx.slots.get {} n).handle) := by
  refine ⟨_, rfl, ?_⟩
  unfold mbxDbIn
  simp only [Nat.mod_eq_of_lt h16]
  rw [if_neg (by omega), if_neg (by rw [hs]; exact Bool.false_ne_true), if_pos h2]
  refine ⟨?_, ?_, ?_⟩
  · rw [(State.log_raised _ _ _ _ _ _).eq]
  · rw [(State.log_raised _ _ _ _ _ _).eq]
    exact Tab.get_put_self _ _ _ _
  · exact logged_log rfl rfl (List.prefix_refl _) (Nat.le_add_right _ _)

end

section
variable {n : Nat} {c : SlotCas} {s : State} (h14 : n ≤ 14)
include h14

theorem mbxSlotState_port (c : SlotCas) : mbxSlotState n none (some c) s = s.portCas n c :=
  if_neg (Nat.not_lt.mpr h14)

theorem mbxSlotState_stale (h : (s.mbx.slots.get {} n).state ≠ c.expect % 16) : let x := s.mbx.slots.get {} n
    Completes (.mbxSlotState n none (some c)) s fun t => t.mbx = s.mbx ∧
      t.sent = s.sent ++ [Out.word .firmware (0x40 + 4 * n) 1 (x.state + 16 * x.owner + 65536 * x.handle)] := by
  intro x
  refine ⟨_, rfl, ?_⟩
  rw [mbxSlotState_port h14]
  unfold State.portCas
  dsimp only
  rw [if_pos (Or.inl h)]
  exact ⟨rfl, rfl⟩

theorem mbxSlotState_claims (h0 : (s.mbx.slots.get {} n).state = 0) (he : c.expect % 16 = 0) (h1 : c.new = 1) (hn : n ≤ 11) :
    Completes (.mbxSlotState n none (some c)) s fun t =>
      t.mbx.slots.get {} n = { state := 1, owner := c.source % 16, handle := c.handle % 65536 } := by
  refine ⟨_, rfl, ?_⟩
  rw [mbxSlotState_port h14]
  unfold State.portCas
  dsimp only
  rw [if_neg (by simp [h0, he]; omega)]
  refine (Tab.get_put_self _ _ _ _).trans ?_
  simp [h1]

theorem mbxSlotState_both {p : SlotCas} (he : (s.mbx.slots.get {} n).state = p.expect % 16) (h3 : p.new = 3) :
    Completes (.mbxSlotState n (some p) (some c)) s fun t =>
      t.mbx.slots.get {} n = { s.mbx.slots.get {} n with state := 3 } ∧ ∃ w, t.sent = s.sent ++ [Out.word .firmware (0x40 + 4 * n) 1 w] := by
  refine ⟨_, rfl, ?_⟩
  unfold mbxSlotState State.supCas
  dsimp only
  rw [if_neg (Nat.not_lt.mpr h14), if_neg (not_not.mpr he)]
  refine ⟨(Tab.get_put_self _ _ _ _).trans ?_, _, rfl⟩
  simp [h3]

end

/-- Settles O20, event by event: an ended session is gone however USB is judged after it. -/
theorem sessionEvents : Obligations.SessionEvents := by
  unfold Obligations.SessionEvents
  refine ⟨fun conn now s => ⟨_, rfl, ⟨rfl, rfl, rfl, rfl, rfl, rfl, rfl, rfl⟩, rfl, rfl, rfl⟩, fun sid now s x hx hn => ?_,
    fun sid c s x => noticeHandover_hands, fun src n s h4 h16 hf => ⟨mbxDbIn_queues h4 h16 hf, mbxDbIn_discards h4 h16 hf⟩,
    fun n c s h14 => ⟨mbxSlotState_stale h14, mbxSlotState_claims h14, fun p => mbxSlotState_both h14⟩⟩
  exact ⟨sessionIdleTimeout_ends hx hn, sessionIdleTimeout_early hx hn, sessionDetachExpiry_ends hx hn, sessionDetachExpiry_early hx hn⟩

end Sys2Proof.Proofs
end

section
/-!
SUPPORT. The event recorder (spec/14): what writing a record, raising another and wiping an area leave of a log.
-/
namespace Sys2Proof.Machine
open Sys2Proof.Claims

/-! ### Registers of a log -/

theorem Row.b_zero (r : Row) (hr : r.banked = true) (c : Nat) : (r.b c).key = c * 2 ^ 40 + (r.b 0).key := by
  simp [Row.b, Row.at, Fld.key, hr]

theorem Row.b_apart {r q : Row} (hr : r.banked = true) (hq : q.banked = true) (h1 : (r.b 0).key < 2 ^ 40) (h2 : (q.b 0).key < 2 ^ 40)
    (hne : (r.b 0).key ≠ (q.b 0).key) (c d : Nat) : (r.b c).key ≠ (q.b d).key := by
  rw [Row.b_zero r hr, Row.b_zero q hq]
  omega

theorem Row.b_other {r : Row} (hr : r.banked = true) {c d : Nat} (h : c ≠ d) : (r.b c).key ≠ (r.b d).key := by
  rw [Row.b_zero r hr, Row.b_zero r hr d]
  omega

/-- The registers that a record may change besides the newest sequence. -/
def logRows : List Row := [Obj.EVR_FIRST_FILL, Obj.EVR_FIRST_FULL, Obj.EVR_FIRST_BASE, Obj.EVR_LAST_OLDEST]

theorem State.newest_wr {s : State} {r : Row} (hr : r ∈ logRows) (c v d : Nat) : (s.wr (r.b c) v).newest d = s.newest d := by
  have h : ∀ r ∈ logRows, r.banked = true ∧ (r.b 0).key < 2 ^ 40 ∧ (r.b 0).key ≠ (Obj.EVR_SEQ_NEWEST.b 0).key := by decide
  obtain ⟨h1, h2, h3⟩ := h r hr
  exact State.rd_wr_ne _ _ _ _ (Row.b_apart h1 rfl h2 (by decide) h3 c d)

theorem State.newest_wr_other {s : State} {c d : Nat} (h : d ≠ c) (v : Nat) : (s.wr (Obj.EVR_SEQ_NEWEST.b c) v).newest d = s.newest d :=
  State.rd_wr_ne _ _ _ _ (Row.b_other rfl h.symm)

/-! ### What raising an event leaves of the logs -/

/-- The records of every log, and its newest sequence, are as they were; the pending queue has only grown. -/
structure LogsStand (s t : State) : Prop where
  newest : ∀ c, t.newest c = s.newest c
  first : ∀ c, (t.evLog c).first = (s.evLog c).first
  last : ∀ c, (t.evLog c).last = (s.evLog c).last
  sessions : t.sessions = s.sessions
  pend : s.evr.pend <+: t.evr.pend

theorem LogsStand.refl (s : State) : LogsStand s s := ⟨fun _ => rfl, fun _ => rfl, fun _ => rfl, rfl, List.prefix_refl _⟩

theorem LogsStand.trans {s t u : State} (h : LogsStand s t) (k : LogsStand t u) : LogsStand s u :=
  ⟨fun c => (k.newest c).trans (h.newest c), fun c => (k.first c).trans (h.first c), fun c => (k.last c).trans (h.last c),
    k.sessions.trans h.sessions, h.pend.trans k.pend⟩

theorem State.evLog_putLog (s : State) (c : Nat) (g : EvLog) (d : Nat) : (s.putLog c g).evLog d = if c = d then g else s.evLog d := by
  by_cases h : c = d
  · rw [if_pos h, ← h]
    exact Tab.get_put_self _ _ _ _
  · rw [if_neg h]
    exact Tab.get_put_ne _ _ _ _ _ h

/-- A log put back with its records. -/
theorem LogsStand.putLog (s : State) {c : Nat} {g : EvLog} (hf : g.first = (s.evLog c).first) (hl : g.last = (s.evLog c).last) :
    LogsStand s (s.putLog c g) := by
  refine ⟨fun _ => rfl, fun d => ?_, fun d => ?_, rfl, List.prefix_refl _⟩
  · rw [State.evLog_putLog]
    split
    · rw [hf, ‹c = d›]
    · rfl
  · rw [State.evLog_putLog]
    split
    · rw [hl, ‹c = d›]
    · rfl

theorem State.newest_raised {n : Nat} {s t : State} (h : Raised n s t) (c : Nat) : t.newest c = s.newest c := by
  refine h.rd _ ?_
  have h1 : (Obj.EVR_SEQ_NEWEST.b c).key % 2 ^ 40 = (Obj.EVR_SEQ_NEWEST.b 0).key := by
    rw [Row.b_zero _ rfl, Nat.mul_comm, Nat.mul_add_mod]
    rfl
  unfold unlogged
  rw [h1]
  decide

theorem State.log_stand (s : State) (c trigger : Nat) (d : Bytes) (summary : Bool) (list : Option Nat) :
    LogsStand s (s.log c trigger d summary list) := by
  have hr := State.log_raised s c trigger d summary list
  have hlogs : ∃ g : EvLog, g.first = (s.evLog c).first ∧ g.last = (s.evLog c).last ∧
      ((s.log c trigger d summary list).evr.logs = s.evr.logs ∨ (s.log c trigger d summary list).evr.logs = s.evr.logs.put c g) := by
    unfold State.log
    split
    · exact ⟨s.evLog c, rfl, rfl, .inl rfl⟩
    · unfold State.enqueue
      split
      · exact ⟨s.evLog c, rfl, rfl, .inl rfl⟩
      · exact ⟨{ s.evLog c with
          lost := (s.evLog c).lost + 1, lostAt := if (s.evLog c).lost = 0 then s.floorTime else (s.evLog c).lostAt }, rfl, rfl, .inr rfl⟩
  obtain ⟨g, hf, hl, h | h⟩ := hlogs
  · refine ⟨State.newest_raised hr, fun c => ?_, fun c => ?_, by rw [hr.eq], hr.pend⟩
    · unfold State.evLog
      rw [h]
    · unfold State.evLog
      rw [h]
  · have hp := LogsStand.putLog s hf hl
    refine ⟨State.newest_raised hr, fun d => ?_, fun d => ?_, by rw [hr.eq], hr.pend⟩
    · refine Eq.trans ?_ (hp.first d)
      unfold State.evLog
      rw [h]
      rfl
    · refine Eq.trans ?_ (hp.last d)
      unfold State.evLog
      rw [h]
      rfl

theorem State.reportDrops_stand (s : State) (c : Nat) : LogsStand s (s.reportDrops c) := by
  unfold State.reportDrops
  dsimp only
  split
  · exact .refl s
  · exact (LogsStand.putLog s (c := c) (g := { s.evLog c with lost := 0, lostAt := 0 }) rfl rfl).trans (State.log_stand _ _ _ _ _ _)

theorem State.reportAll_stand (l : List Nat) (s : State) : LogsStand s (l.foldl State.reportDrops s) := by
  induction l generalizing s with
  | nil => exact .refl s
  | cons c l ih => exact (s.reportDrops_stand c).trans (ih _)

/-! ### Writing a record -/

theorem State.showLast_logs (s : State) (c : Nat) : (s.showLast c).evr = s.evr ∧ (s.showLast c).sessions = s.sessions ∧
    ∀ d, (s.showLast c).newest d = s.newest d :=
  ⟨rfl, rfl, fun d => State.newest_wr (by decide) c _ d⟩

theorem nextSeq_lt (n : Nat) : nextSeq n < 2 ^ 32 := by
  unfold nextSeq
  split <;> omega

theorem writeRecord_newest (s : State) (c : Nat) (r : EvRec) : (s.writeRecord c r).newest c = nextSeq (s.newest c) := by
  have hw : (s.wr (Obj.EVR_SEQ_NEWEST.b c) (nextSeq (s.newest c))).newest c = nextSeq (s.newest c) :=
    (State.rd_wr_self _ _ _).trans (Nat.mod_eq_of_lt (nextSeq_lt _))
  unfold State.writeRecord
  dsimp only
  split
  · rw [(State.showLast_logs _ _).2.2]
    exact (State.newest_wr (r := Obj.EVR_FIRST_FULL) (by decide) c 1 c).trans hw
  · rw [(State.showLast_logs _ _).2.2]
    exact (State.newest_wr (r := Obj.EVR_FIRST_FULL) (by decide) c _ c).trans ((State.newest_wr (by decide) c _ c).trans hw)

/-- Every other log stands, and the log's areas hold the record as Table 14-5 gives. -/
theorem writeRecord_logs (s : State) (c : Nat) (r : EvRec) :
    (s.writeRecord c r).sessions = s.sessions ∧ (s.writeRecord c r).evr.pend = s.evr.pend ∧
    (∀ d, d ≠ c → (s.writeRecord c r).newest d = s.newest d) ∧
    ∀ d, (s.writeRecord c r).evLog d = if c = d then
      if s.rd (Obj.EVR_FIRST_FULL.b c) = 1 ∨ 64 * s.firstBlk c ≤ (s.evLog c).first.length then
        { s.evLog c with last := ((s.evLog c).last ++ [(nextSeq (s.newest c), r)]).drop ((s.evLog c).last.length + 1 - 64 * s.lastBlk c) }
      else { s.evLog c with first := (s.evLog c).first ++ [(nextSeq (s.newest c), r)] }
      else s.evLog d := by
  have hon : s.on (Obj.EVR_FIRST_FULL.b c) = true ↔ s.rd (Obj.EVR_FIRST_FULL.b c) = 1 := by
    unfold State.on
    exact beq_iff_eq
  have hlog (u : State) (c : Nat) (g : EvLog) (d : Nat) : ((u.putLog c g).showLast c).evLog d = if c = d then g else u.evLog d := by
    rw [← State.evLog_putLog]
    rfl
  unfold State.writeRecord
  dsimp only
  by_cases h : s.rd (Obj.EVR_FIRST_FULL.b c) = 1 ∨ 64 * s.firstBlk c ≤ (s.evLog c).first.length
  · rw [if_pos (by rw [hon]; exact h), if_pos h]
    refine ⟨rfl, rfl, fun d hd => ?_, fun d => ?_⟩
    · rw [(State.showLast_logs _ _).2.2]
      exact (State.newest_wr (r := Obj.EVR_FIRST_FULL) (by decide) c 1 d).trans (State.newest_wr_other hd _)
    · rw [hlog, List.length_append, List.length_singleton]
      rfl
  · rw [if_neg (by rw [hon]; exact h), if_neg h]
    refine ⟨rfl, rfl, fun d hd => ?_, fun d => ?_⟩
    · rw [(State.showLast_logs _ _).2.2]
      exact (State.newest_wr (r := Obj.EVR_FIRST_FULL) (by decide) c _ d).trans
        ((State.newest_wr (by decide) c _ d).trans (State.newest_wr_other hd _))
    · rw [hlog]
      rfl

end Sys2Proof.Machine

namespace Sys2Proof.Proofs
open Sys2Proof.Machine Sys2Proof.Claims

theorem Session.notice_room {x : Session} (h : x.notices.length < 64) (b : Bytes) :
    (x.notice b).id = x.id ∧ (x.notice b).notices.length = x.notices.length + 1 := by
  unfold Session.notice
  rw [if_neg (by omega)]
  exact ⟨rfl, by simp⟩

theorem evrRecordWrite_writes {now : Nat} {s : State} {p : EvPend} {r : List EvPend} (hf : s.failed 10 = false) (hp : s.evr.pend = p :: r) :
    let c := p.comp
    let seq := nextSeq (s.newest c)
    let g := s.evLog c
    let full := s.rd (Obj.EVR_FIRST_FULL.b c) = 1 ∨ 64 * s.firstBlk c ≤ g.first.length
    Completes (.evrRecordWrite now) s fun t => t.newest c = seq ∧ (∃ l, t.evr.pend = r ++ l) ∧
      (¬ full → (t.evLog c).first = g.first ++ [(seq, p.body)] ∧ (t.evLog c).last = g.last) ∧
      (full → (t.evLog c).first = g.first ∧
        (t.evLog c).last = (g.last ++ [(seq, p.body)]).drop (g.last.length + 1 - 64 * s.lastBlk c)) ∧
      (∀ d, d ≠ c → d < 34 → t.newest d = s.newest d ∧ (t.evLog d).first = (s.evLog d).first ∧ (t.evLog d).last = (s.evLog d).last) ∧
      (∀ x ∈ s.sessions, x.comp = c → p.body.trigger < 0x1000 → bit x.mask (p.body.trigger / 256) = true → x.notices.length < 64 →
        ∃ y ∈ t.sessions, y.id = x.id ∧ y.notices.length = x.notices.length + 1) := by
  intro c seq g full
  refine ⟨_, rfl, ?_⟩
  have hf' : (s.advance now).failed 10 = false := hf
  have hp' : (s.advance now).evr.pend = p :: r := hp
  let s1 : State := { s.advance now with evr := { (s.advance now).evr with pend := r } }
  have hb : ∃ body, evrRecordWrite (s.advance now) =
      ((s1.writeRecord c p.body).noticeRecord c p.body body).compartments.foldl State.reportDrops
        ((s1.writeRecord c p.body).noticeRecord c p.body body) := by
    unfold evrRecordWrite
    simp only [hf', hp', Bool.false_eq_true, if_false]
    exact ⟨_, rfl⟩
  obtain ⟨body, hb⟩ := hb
  rw [hb]
  have hn : (s1.writeRecord c p.body).newest c = seq := writeRecord_newest s1 c p.body
  obtain ⟨hs, hpend, hother, hlog⟩ := writeRecord_logs s1 c p.body
  generalize s1.writeRecord c p.body = s2 at hs hpend hother hlog hn
  have hd := State.reportAll_stand (s2.noticeRecord c p.body body).compartments (s2.noticeRecord c p.body body)
  generalize List.foldl State.reportDrops (s2.noticeRecord c p.body body) _ = t at hd
  have hlogt (d : Nat) : (t.evLog d).first = (s2.evLog d).first ∧ (t.evLog d).last = (s2.evLog d).last := ⟨hd.first d, hd.last d⟩
  refine ⟨(hd.newest c).trans hn, ?_, fun hnf => ?_, fun hfull => ?_, fun d hdc hd34 => ⟨(hd.newest d).trans (hother d hdc), ?_⟩,
    fun x hx hc ht hb hl => ?_⟩
  · obtain ⟨l, hl⟩ := hd.pend
    refine ⟨l, hl.symm.trans (congrArg (· ++ l) ?_)⟩
    exact hpend
  · have h := (hlog c).trans ((if_pos rfl).trans (if_neg hnf))
    rw [(hlogt c).1, (hlogt c).2, h]
    exact ⟨rfl, rfl⟩
  · have h := (hlog c).trans ((if_pos rfl).trans (if_pos hfull))
    rw [(hlogt c).1, (hlogt c).2, h]
    exact ⟨rfl, rfl⟩
  · have h := (hlog d).trans (if_neg hdc.symm)
    rw [(hlogt d).1, (hlogt d).2, h]
    exact ⟨rfl, rfl⟩
  · rw [hd.sessions]
    refine ⟨_, List.mem_map.mpr ⟨x, ?_, if_pos ⟨hc, by omega, hb⟩⟩, Session.notice_room hl _⟩
    rw [hs]
    exact hx

/-! ### Watch entries -/

theorem logged_log_list {s a : State} {c trigger : Nat} {d : Bytes} (list : Option Nat) (hf : a.failed 10 = s.failed 10)
    (he : a.exists? c = s.exists? c) (hp : a.evr.pend = s.evr.pend) : Logged s (a.log c trigger d (list := list)) c trigger d := by
  intro hfail hex hroom
  have hres : 16 ≤ reservedFor c := by unfold reservedFor; split <;> omega
  have hheld : a.heldBy c false < reservedFor c := by
    refine Nat.lt_of_le_of_lt (List.length_filter_le _ _) ?_
    rw [hp]
    omega
  have hr : a.queueRoom c = some false := by
    unfold State.queueRoom
    rw [if_pos hheld]
  rw [State.log_queued a c trigger d false list false (by rw [hf, he, hfail, hex]; rfl) hr]
  exact ⟨[], _, [], by rw [hp, List.append_nil], rfl, rfl, rfl⟩

/-- The key of an entry's field. -/
theorem watch_key {r : Row} (hb : r.banked = true) (hd : r.dims = [(16, 0x20)]) (c n : Nat) :
    (r.bi c n).key = c * 2 ^ 40 + (8 * (r.base + n * 0x20) + r.lo) := by
  simp [Row.bi, Row.at, Fld.key, hb, hd]

theorem watch_enable_key (c n : Nat) : (Obj.EVR_WATCH_CFG_ENABLE.bi c n).key = c * 2 ^ 40 + (1671264 + 256 * n) := by
  rw [watch_key rfl rfl, show Obj.EVR_WATCH_CFG_ENABLE.base = 0x3300C from rfl, show Obj.EVR_WATCH_CFG_ENABLE.lo = 0 from rfl]
  omega

theorem watch_shown_key (c n : Nat) : (Obj.EVR_WATCH_HITS.bi c n).key = c * 2 ^ 40 + (1671296 + 256 * n) ∧
    (Obj.EVR_WATCH_LAST_TIME.bi c n).key = c * 2 ^ 40 + (1671360 + 256 * n) := by
  rw [watch_key rfl rfl, watch_key rfl rfl, show Obj.EVR_WATCH_HITS.base = 0x33010 from rfl, show Obj.EVR_WATCH_HITS.lo = 0 from rfl,
    show Obj.EVR_WATCH_LAST_TIME.base = 0x33018 from rfl, show Obj.EVR_WATCH_LAST_TIME.lo = 0 from rfl]
  omega

/-- An entry's registers count no event dropped. -/
theorem watch_unlogged {n : Nat} (hn : n < 16) (c : Nat) : unlogged (Obj.EVR_WATCH_CFG_ENABLE.bi c n) = true ∧
    unlogged (Obj.EVR_WATCH_HITS.bi c n) = true ∧ unlogged (Obj.EVR_WATCH_LAST_TIME.bi c n) = true := by
  have h (k : Nat) (hk : 1671264 ≤ k) (hk' : k < 1675360) : ((c * 2 ^ 40 + k) % 2 ^ 40 != (Obj.EVR_DROPPED.b 0).key &&
      (c * 2 ^ 40 + k) % 2 ^ 40 != (Obj.EVR_EVT_DROPPED.b 0).key) = true := by
    rw [show (Obj.EVR_DROPPED.b 0).key = 1573088 from rfl, show (Obj.EVR_EVT_DROPPED.b 0).key = 1573120 from rfl]
    simp only [Bool.and_eq_true, bne_iff_ne]
    omega
  obtain ⟨h1, h2⟩ := watch_shown_key c n
  unfold unlogged
  rw [watch_enable_key, h1, h2]
  exact ⟨h _ (by omega) (by omega), h _ (by omega) (by omega), h _ (by omega) (by omega)⟩

theorem watchAll_skips {c : Nat} (l : List Nat) {s : State} (h : ∀ n ∈ l, s.on (Obj.EVR_WATCH_CFG_ENABLE.bi c n) = false) :
    l.foldl (fun t tt => t.watchOne c tt) s = s := by
  induction l with
  | nil => rfl
  | cons n l ih =>
    have hn : s.watchOne c n = s := by
      unfold State.watchOne
      rw [h n List.mem_cons_self]
      rfl
    rw [List.foldl_cons, hn]
    exact ih fun m hm => h m (List.mem_cons_of_mem n hm)

theorem range_around : ∀ tt : Fin 16, List.range 16 = List.range tt.val ++ tt.val :: List.range' (tt.val + 1) (15 - tt.val) := by decide

/-- With one entry enabled, that one is evaluated. -/
theorem watchEval_one {c : Nat} {tt : Fin 16} {s t : State} (hf : s.failed 10 = false) (hx : s.exists? c = true)
    (hm : s.mode ∈ [2, 5, 6, 7, 8, 9]) (hb : s.floorTime % 1000000 = 0)
    (hen : ∀ n, n < 16 → s.rd (Obj.EVR_WATCH_CFG_ENABLE.bi c n) = if n = tt.val then 1 else 0) (ht : s.watchOne c tt.val = t)
    (hkeep : ∀ n, n < 16 → t.rd (Obj.EVR_WATCH_CFG_ENABLE.bi c n) = s.rd (Obj.EVR_WATCH_CFG_ENABLE.bi c n)) : watchEval c s = t := by
  have hmode : (s.mode == 2 || decide (5 ≤ s.mode ∧ s.mode ≤ 9)) = true := by
    generalize s.mode = m at hm ⊢
    simp only [List.mem_cons, List.not_mem_nil, or_false] at hm
    simp only [Bool.or_eq_true, beq_iff_eq, decide_eq_true_eq]
    omega
  have hoff (n : Nat) (hn : n < 16) (hne : n ≠ tt.val) : s.rd (Obj.EVR_WATCH_CFG_ENABLE.bi c n) = 0 := by rw [hen n hn, if_neg hne]
  unfold watchEval
  rw [hf, hx, hmode, hb]
  refine (if_neg (by decide)).trans ?_
  rw [range_around tt, List.foldl_append, watchAll_skips (List.range tt.val), List.foldl_cons, ht, watchAll_skips]
  · intro n hn
    obtain ⟨h1, h2⟩ := List.mem_range'_1.mp hn
    have htt := tt.isLt
    unfold State.on
    rw [hkeep n (by omega), hoff n (by omega) (by omega)]
    rfl
  · intro n hn
    have h1 := List.mem_range.mp hn
    have htt := tt.isLt
    unfold State.on
    rw [hoff n (by omega) (by omega)]
    rfl

/-- The entry's word as it stands. -/
def watchWord (s : State) (c tt : Nat) : Nat := ((s.peek c (s.rd (Obj.EVR_WATCH_ADDR.bi c tt))).getD 0) &&& s.rd (Obj.EVR_WATCH_MASK.bi c tt)

def watchFired (s : State) (c tt w : Nat) : Bool :=
  watchFires (s.rd (Obj.EVR_WATCH_CFG_COND.bi c tt)) (s.rd (Obj.EVR_WATCH_VALUE.bi c tt)) w (watchWord s c tt)

/-- An entry remembers its word and the end of its hold-off. -/
def watchKept (s : State) (c tt x hold : Nat) : State :=
  { s with evr := { s.evr with watch := s.evr.watch.put (watchKey c tt) { prev := some x, holdEnd := hold } } }

/-- An entry that fires: its registers. -/
def watchShown (s : State) (c tt : Nat) : State :=
  (s.inc (Obj.EVR_WATCH_HITS.bi c tt)).wr (Obj.EVR_WATCH_LAST_TIME.bi c tt) s.floorTime

theorem watchOne_eq {s : State} {c tt w : Nat} (he : s.on (Obj.EVR_WATCH_CFG_ENABLE.bi c tt) = true)
    (hw : (s.evr.watch.get {} (watchKey c tt)).prev = some w) : s.watchOne c tt =
      let go := watchFired s c tt w && decide ((s.evr.watch.get {} (watchKey c tt)).holdEnd ≤ s.floorTime)
      let hold := if go then s.floorTime + s.rd (Obj.EVR_WATCH_CFG_HOLDOFF.bi c tt) * 1000000 else (s.evr.watch.get {} (watchKey c tt)).holdEnd
      let s1 := watchKept s c tt (watchWord s c tt) hold
      if go then
        (watchShown s1 c tt).log c 0x0702
          (le 1 tt ++ le 3 0 ++ le 4 w ++ le 4 (watchWord s c tt)) (list := some (s.rd (Obj.EVR_WATCH_CFG_LIST.bi c tt)))
      else s1 := by
  unfold State.watchOne
  simp only [he, hw, Bool.not_true, Bool.false_eq_true, if_false, Option.getD_some]
  rfl

theorem log_watch (s : State) (c trigger : Nat) (d : Bytes) (list : Option Nat) :
    (s.log c trigger d (list := list)).evr.watch = s.evr.watch := by
  unfold State.log
  split
  · rfl
  · unfold State.enqueue
    split
    · rfl
    · rfl

theorem rd_watchShown {s : State} {c tt : Nat} {g : Fld} (h : (c * 2 ^ 40 + (1671296 + 256 * tt)) ≠ g.key ∧ (c * 2 ^ 40 + (1671360 + 256 * tt)) ≠ g.key) :
    (watchShown s c tt).rd g = s.rd g := by
  obtain ⟨h1, h2⟩ := watch_shown_key c tt
  exact (State.rd_wr_ne _ _ _ _ (by rw [h2]; exact h.2)).trans (State.rd_wr_ne _ _ _ _ (by rw [h1]; exact h.1))

theorem watchShown_spec (s : State) (c : Nat) (tt : Fin 16) : let t := watchShown s c tt
    t.rd (Obj.EVR_WATCH_LAST_TIME.bi c tt) = s.floorTime % 2 ^ 64 ∧
    t.rd (Obj.EVR_WATCH_HITS.bi c tt) = (s.rd (Obj.EVR_WATCH_HITS.bi c tt) + 1) % 2 ^ 32 ∧
    t.failed 10 = s.failed 10 ∧ t.exists? c = s.exists? c ∧
    ∀ n, t.rd (Obj.EVR_WATCH_CFG_ENABLE.bi c n) = s.rd (Obj.EVR_WATCH_CFG_ENABLE.bi c n) := by
  intro t
  have htt := tt.isLt
  obtain ⟨h1, h2⟩ := watch_shown_key c tt
  refine ⟨State.rd_wr_self _ _ _, (State.rd_wr_ne _ _ _ _ ?_).trans (State.rd_wr_self _ _ _), ?_, ?_, fun n => rd_watchShown ?_⟩
  · rw [h1, h2]
    omega
  · unfold State.failed
    rw [rd_watchShown]
    rw [show Obj.PWR_UNIT_FAIL.f.key = 100663744 from rfl]
    omega
  · unfold State.exists?
    rw [rd_watchShown]
    rw [show Obj.CAST_COMP_EXIST.f.key = 557120 from rfl]
    omega
  · rw [watch_enable_key]
    omega

section
variable {c now : Nat} {tt : Fin 16} {s : State} {w : Nat} (hf : s.failed 10 = false) (hx : s.exists? c = true)
  (hm : s.mode ∈ [2, 5, 6, 7, 8, 9]) (hn : s.floorTime ≤ now) (hb : now % 1000000 = 0)
  (hen : ∀ n, n < 16 → s.rd (Obj.EVR_WATCH_CFG_ENABLE.bi c n) = if n = tt.val then 1 else 0)
  (hw : (s.evr.watch.get {} (16 * c + tt.val)).prev = some w)
include hf hx hm hn hb hen hw

omit hf hx hm hb in
theorem watchOne_is {go : Bool} (hgo : (watchFired (s.advance now) c tt w && decide ((s.evr.watch.get {} (16 * c + tt.val)).holdEnd ≤ now)) = go) :
    (s.advance now).watchOne c tt =
      let hold := if go then now + s.rd (Obj.EVR_WATCH_CFG_HOLDOFF.bi c tt) * 1000000 else (s.evr.watch.get {} (16 * c + tt.val)).holdEnd
      let s1 := watchKept (s.advance now) c tt (watchWord (s.advance now) c tt) hold
      if go then
        (watchShown s1 c tt).log c 0x0702
          (le 1 tt ++ le 3 0 ++ le 4 w ++ le 4 (watchWord (s.advance now) c tt)) (list := some (s.rd (Obj.EVR_WATCH_CFG_LIST.bi c tt)))
      else s1 := by
  have hkey : watchKey c tt = 16 * c + tt.val := by
    unfold watchKey
    omega
  have hon : (s.advance now).on (Obj.EVR_WATCH_CFG_ENABLE.bi c tt) = true := by
    have h := hen tt tt.isLt
    rw [if_pos rfl] at h
    unfold State.on
    exact beq_iff_eq.mpr h
  rw [watchOne_eq (w := w) hon (by rw [hkey]; exact hw), hkey, advance_floorTime_of_le hn]
  rw [show (s.advance now).evr.watch = s.evr.watch from rfl, hgo]
  rfl

theorem watchEval_fires (hfire : watchFired (s.advance now) c tt w = true) (hh : (s.evr.watch.get {} (16 * c + tt.val)).holdEnd ≤ now) :
    let x := watchWord (s.advance now) c tt
    Completes (.watchEval c now) s fun t =>
      t.rd (Obj.EVR_WATCH_LAST_TIME.bi c tt.val) = now % 2 ^ 64 ∧
      t.rd (Obj.EVR_WATCH_HITS.bi c tt.val) = (s.rd (Obj.EVR_WATCH_HITS.bi c tt.val) + 1) % 2 ^ 32 ∧
      t.evr.watch.get {} (16 * c + tt.val) = { prev := some x, holdEnd := now + s.rd (Obj.EVR_WATCH_CFG_HOLDOFF.bi c tt.val) * 1000000 } ∧
      Logged s t c 0x0702 (le 1 tt.val ++ le 3 0 ++ le 4 w ++ le 4 x) := by
  intro x
  refine ⟨_, rfl, ?_⟩
  have he := watchOne_is hn hen hw (go := true) (by rw [hfire, decide_eq_true hh]; rfl)
  simp only [if_true] at he
  rw [watchEval_one (s := s.advance now) hf hx hm (by rw [advance_floorTime_of_le hn]; exact hb) hen he]
  · generalize hu : watchKept (s.advance now) c tt _ _ = u
    have hft : u.floorTime = now := by rw [← hu]; exact advance_floorTime_of_le hn
    have hr : u.regs = s.regs := by rw [← hu]; rfl
    have hp : u.evr.pend = s.evr.pend := by rw [← hu]; rfl
    have hkey : watchKey c tt = 16 * c + tt.val := by
      unfold watchKey
      omega
    have hwatch : u.evr.watch.get {} (16 * c + tt.val) =
        { prev := some x, holdEnd := now + s.rd (Obj.EVR_WATCH_CFG_HOLDOFF.bi c tt.val) * 1000000 } := by
      rw [← hu, ← hkey]
      exact Tab.get_put_self _ _ _ _
    obtain ⟨h1, h2, h3, h4, -⟩ := watchShown_spec u c tt
    have hl := State.log_raised (watchShown u c tt) c 0x0702
      (le 1 tt.val ++ le 3 0 ++ le 4 w ++ le 4 x) false (some (s.rd (Obj.EVR_WATCH_CFG_LIST.bi c tt)))
    obtain ⟨-, hu1, hu2⟩ := watch_unlogged tt.isLt c
    refine ⟨(hl.rd _ hu2).trans (h1.trans (by rw [hft])), (hl.rd _ hu1).trans (h2.trans (by rw [State.rd_congr hr])), ?_, ?_⟩
    · rw [log_watch]
      exact hwatch
    · refine logged_log_list _ (h3.trans ?_) (h4.trans ?_) hp
      · unfold State.failed
        rw [State.rd_congr hr]
      · unfold State.exists?
        rw [State.rd_congr hr]
  · intro n hn16
    exact ((State.log_raised _ _ _ _ _ _).rd _ (watch_unlogged hn16 c).1).trans ((watchShown_spec _ c tt).2.2.2.2 n)

theorem watchEval_waits (hno : watchFired (s.advance now) c tt w = false ∨ now < (s.evr.watch.get {} (16 * c + tt.val)).holdEnd) :
    Completes (.watchEval c now) s fun t =>
      t.regs = s.regs ∧ t.evr.pend = s.evr.pend ∧ (t.evr.watch.get {} (16 * c + tt.val)).prev = some (watchWord (s.advance now) c tt) := by
  refine ⟨_, rfl, ?_⟩
  have hgo : (watchFired (s.advance now) c tt w && decide ((s.evr.watch.get {} (16 * c + tt.val)).holdEnd ≤ now)) = false := by
    rw [Bool.and_eq_false_iff, decide_eq_false_iff_not, Nat.not_le]
    exact hno
  have he := watchOne_is hn hen hw hgo
  simp only [Bool.false_eq_true, if_false] at he
  rw [watchEval_one (s := s.advance now) hf hx hm (by rw [advance_floorTime_of_le hn]; exact hb) hen he fun n _ => rfl]
  have hkey : watchKey c tt = 16 * c + tt.val := by
    unfold watchKey
    omega
  refine ⟨rfl, rfl, ?_⟩
  rw [← hkey]
  exact congrArg Watch.prev (Tab.get_put_self _ _ _ _)

end

theorem watchHoldoffEnd_ends {c now : Nat} {tt : Fin 16} {s : State} (h0 : (s.evr.watch.get {} (16 * c + tt.val)).holdEnd ≠ 0)
    (hle : (s.evr.watch.get {} (16 * c + tt.val)).holdEnd ≤ max s.floorTime now) : Completes (.watchHoldoffEnd c tt now) s fun t =>
      t.evr.watch.get {} (16 * c + tt.val) = { s.evr.watch.get {} (16 * c + tt.val) with holdEnd := 0 } ∧ t.regs = s.regs := by
  refine ⟨_, rfl, ?_⟩
  have hkey : watchKey c tt = 16 * c + tt.val := by
    unfold watchKey
    omega
  unfold watchHoldoffEnd
  dsimp only
  rw [hkey]
  refine (congrArg (fun t : State => t.evr.watch.get {} (16 * c + tt.val) = _ ∧ t.regs = s.regs) (if_pos ⟨hle, h0⟩)).mpr ?_
  exact ⟨Tab.get_put_self _ _ _ _, rfl⟩

theorem watchHoldoffEnd_early {c now : Nat} {tt : Fin 16} {s : State} (h : max s.floorTime now < (s.evr.watch.get {} (16 * c + tt.val)).holdEnd) :
    Completes (.watchHoldoffEnd c tt now) s fun t => t = s.advance now := by
  refine ⟨_, rfl, ?_⟩
  have hkey : watchKey c tt = 16 * c + tt.val := by
    unfold watchKey
    omega
  unfold watchHoldoffEnd
  dsimp only
  rw [hkey]
  exact if_neg fun hc => Nat.not_le.mpr h hc.1

end Sys2Proof.Proofs
end

section
/-!
SUPPORT. The event commands (spec/14 R354, R357 to R359).
-/
namespace Sys2Proof.Machine
open Sys2Proof.Claims

theorem accepted_exists? (s : State) (f : Frame) (x : Session) (code : Nat) (can : Bool) (c : Nat) :
    (accepted s f x code can).exists? c = s.exists? c := by
  unfold State.exists?
  rw [accepted_rd]

theorem accepted_evLog (s : State) (f : Frame) (x : Session) (code : Nat) (can : Bool) (c : Nat) :
    (accepted s f x code can).evLog c = s.evLog c := by
  unfold State.evLog
  rw [accepted_evr]

theorem accepted_newest (s : State) (f : Frame) (x : Session) (code : Nat) (can : Bool) (c : Nat) :
    (accepted s f x code can).newest c = s.newest c := accepted_rd _ _ _ _ _ _

/-! ### The record that comes first -/

theorem State.logFirst_stand (s : State) (c trigger : Nat) (d : Bytes) : let t := s.logFirst c trigger d
    (∀ e, t.newest e = s.newest e) ∧ (∀ e, (t.evLog e).first = (s.evLog e).first ∧ (t.evLog e).last = (s.evLog e).last) ∧
    t.sessions = s.sessions ∧ t.sent = s.sent := by
  have h := s.log_stand c trigger d false none
  have hr := s.log_raised c trigger d false none
  have hs : (s.log c trigger d).sent = s.sent := by rw [hr.eq]
  unfold State.logFirst
  dsimp only
  split
  · exact ⟨h.newest, fun e => ⟨h.first e, h.last e⟩, h.sessions, hs⟩
  · exact ⟨h.newest, fun e => ⟨h.first e, h.last e⟩, h.sessions, hs⟩

theorem State.logFirst_pend {s : State} {c trigger : Nat} {d : Bytes} (hf : s.failed 10 = false) (he : s.exists? c = true)
    (hp : s.evr.pend.length < 8) :
    ∃ e, (s.logFirst c trigger d).evr.pend = e :: s.evr.pend ∧ e.comp = c ∧ e.body.trigger = trigger := by
  have hres : 16 ≤ reservedFor c := by unfold reservedFor; split <;> omega
  have hl := State.log_pend (d := d) (trigger := trigger) hf he (by omega)
  refine ⟨⟨c, false, s.eventRecord c trigger d false none⟩, ?_, rfl, rfl⟩
  unfold State.logFirst
  dsimp only
  rw [if_pos (by rw [hl, List.length_append]; rfl)]
  dsimp only
  rw [hl, List.drop_left]
  rfl

/-! ### Wiping an area -/

theorem State.rd_logRow {s : State} {r : Row} (hr : r ∈ logRows) (c v : Nat) : (s.wr (r.b c) v).failed 10 = s.failed 10 ∧
    ∀ d, (s.wr (r.b c) v).exists? d = s.exists? d := by
  have h : ∀ r ∈ logRows, r.banked = true ∧ (r.b 0).key < 2 ^ 40 ∧ (r.b 0).key ≠ 100663744 ∧ (r.b 0).key ≠ 557120 := by decide
  obtain ⟨h1, h2, h3, h4⟩ := h r hr
  have hk := Row.b_zero r h1 c
  refine ⟨?_, fun d => ?_⟩
  · unfold State.failed
    rw [State.rd_wr_ne _ _ _ _ (by rw [hk, show Obj.PWR_UNIT_FAIL.f.key = 100663744 from rfl]; omega)]
  · unfold State.exists?
    rw [State.rd_wr_ne _ _ _ _ (by rw [hk, show Obj.CAST_COMP_EXIST.f.key = 557120 from rfl]; omega)]

/-- What a wiped area leaves. -/
structure Wiped (s t : State) (c area : Nat) : Prop where
  first : (t.evLog c).first = if area = 0 then [] else (s.evLog c).first
  last : (t.evLog c).last = if area = 1 then [] else (s.evLog c).last
  newest : t.newest c = s.newest c
  failed : t.failed 10 = s.failed 10
  exist : t.exists? c = s.exists? c
  pend : t.evr.pend = s.evr.pend
  sessions : t.sessions = s.sessions
  sent : t.sent = s.sent

theorem State.wipeArea_wiped (s : State) (c : Nat) {area : Nat} (ha : area ≤ 1) :
    (s.wipeArea c area).1 = (if area = 0 then (s.evLog c).first.length else (s.evLog c).last.length) ∧
      Wiped s (s.wipeArea c area).2 c area := by
  have hput (g : EvLog) : (s.putLog c g).evLog c = g := Tab.get_put_self _ _ _ _
  have hfill : Obj.EVR_FIRST_FILL ∈ logRows := by decide
  have hfull : Obj.EVR_FIRST_FULL ∈ logRows := by decide
  have hbase : Obj.EVR_FIRST_BASE ∈ logRows := by decide
  have hlast : Obj.EVR_LAST_OLDEST ∈ logRows := by decide
  obtain rfl | rfl : area = 0 ∨ area = 1 := by omega
  · unfold State.wipeArea
    rw [if_pos rfl]
    have hp := hput { s.evLog c with first := [] }
    have h1 := congrArg EvLog.first hp
    have h2 := congrArg EvLog.last hp
    refine ⟨rfl, h1, h2, ?_, ?_, ?_, rfl, rfl, rfl⟩
    · exact (State.newest_wr hbase c _ c).trans ((State.newest_wr hfull c _ c).trans (State.newest_wr hfill c _ c))
    · exact (State.rd_logRow hbase c _).1.trans ((State.rd_logRow hfull c _).1.trans (State.rd_logRow hfill c _).1)
    · exact ((State.rd_logRow hbase c _).2 c).trans (((State.rd_logRow hfull c _).2 c).trans ((State.rd_logRow hfill c _).2 c))
  · unfold State.wipeArea
    rw [if_neg (by decide)]
    have hp := hput { s.evLog c with last := [] }
    have h1 := congrArg EvLog.first hp
    have h2 := congrArg EvLog.last hp
    refine ⟨rfl, h1, h2, State.newest_wr hlast c _ c, (State.rd_logRow hlast c _).1,
      (State.rd_logRow hlast c _).2 c, rfl, rfl, rfl⟩

/-! ### A session after its answer -/

/-- The session that was answered, on its connection. -/
theorem State.finalTo_session {t : State} {i : Nat} {y : Session} (hy : t.session i = some y) (seq cmd st : Nat) (p : Bytes) (whole : Bool) :
    (t.finalTo i seq cmd st p whole).session i = some (y.final seq st p whole) := by
  obtain rfl : y.id = i := State.session_id hy
  have h : (t.putSession (y.final seq st p whole)).session y.id = some (y.final seq st p whole) :=
    State.session_putSession (y := y.final seq st p whole) hy
  unfold State.finalTo
  rw [hy]
  dsimp only
  split
  · exact (State.session_congr (State.respond_sessions _ _ _ _ _ _ _) _).trans h
  · exact h

end Sys2Proof.Machine

namespace Sys2Proof.Proofs
open Sys2Proof.Machine Sys2Proof.Claims

theorem evrRecRead_answers (who : Requester) (n : Fin 64) (s : State) : let c := s.compOf who
    Completes (.evrRecRead who n) s fun t => t = { s with sent := s.sent ++
      [if s.failed 10 then Out.word who (0x31000 + 4 * n.val) 0x0060 0
       else if s.exists? c = false then Out.word who (0x31000 + 4 * n.val) 0x0020 0
       else match s.recWord c n.val with
        | some v => Out.word who (0x31000 + 4 * n.val) 0 v
        | none => Out.word who (0x31000 + 4 * n.val) 0x0024 0] } := by
  intro c
  refine ⟨_, rfl, ?_⟩
  have hc : s.compOf who = c := rfl
  unfold evrRecRead
  rw [hc]
  dsimp only
  cases s.failed 10 with
  | true => rfl
  | false =>
    cases s.exists? c with
    | false => rfl
    | true =>
      cases s.recWord c n.val with
      | none => rfl
      | some v => rfl

section
variable {f : Frame} {s : State} {x : Session} (h : Admitted s f x) (hh : Hosted s x) (hf : s.failed 10 = false)
include h hh hf

section
variable {area from_ n : Nat} (ha : area ≤ 1) (hfrom : from_ < 2 ^ 32) (h1 : 1 ≤ n) (h64 : n ≤ 64)
  (hp : f.payload = le 1 area ++ le 3 0 ++ le 4 from_ ++ le 2 n ++ le 2 0)
include ha hfrom h1 h64 hp

omit h in
theorem evtRead_judged : let a := accepted s f x 0x0701 true
    let oldest := if area = 0 then s.rd (Obj.EVR_FIRST_BASE.b x.comp) else s.rd (Obj.EVR_LAST_OLDEST.b x.comp)
    let l := ((if area = 0 then (s.evLog x.comp).first else (s.evLog x.comp).last).filter fun r => ! seqAfter from_ r.1).take n
    evtRead (requestOf f x 0x0701) a = if seqAfter oldest from_ then (a, .fail St.overwritten (detailRecord 0 0 0x3000C))
      else (a, .ok (le 2 l.length ++ le 2 0 ++ l.flatMap fun r => r.2.bytes r.1 (area == 0))) := by
  have hlen : f.payload.length = 12 := by simp [hp, le_length]
  have harea : field f.payload 0 1 = area := by
    simp [hp, field_append_left, le_length]
    omega
  have hseq : field f.payload 4 4 = from_ := by
    simp [hp, field_append_left, field_append_right, le_length]
    omega
  have hcount : field f.payload 8 2 = n := by
    simp [hp, field_append_left, field_append_right, le_length]
    omega
  dsimp only
  unfold evtRead
  rw [permitted_all hh, requestOf_payload, requestOf_comp, hlen, harea, hseq, hcount, accepted_failed, hf, accepted_rd, accepted_rd, accepted_evLog]
  exact (if_neg (by decide)).trans ((if_neg (by omega)).trans (if_neg (by decide)))

theorem evtRead_reads : let oldest := if area = 0 then s.rd (Obj.EVR_FIRST_BASE.b x.comp) else s.rd (Obj.EVR_LAST_OLDEST.b x.comp)
    let l := ((if area = 0 then (s.evLog x.comp).first else (s.evLog x.comp).last).filter fun r => ! seqAfter from_ r.1).take n
    (seqAfter oldest from_ = false → Reports (.cmdEvtRead f) s f x 0x0701
      (le 2 l.length ++ le 2 0 ++ l.flatMap fun r => r.2.bytes r.1 (area == 0))) ∧
    (seqAfter oldest from_ = true → Completes (.cmdEvtRead f) s fun t => Untouched s t ∧
      Answers s t f x 0x0701 0x0024 (detailRecord 0 0 0x3000C)) := by
  refine ⟨fun hb => ?_, fun hb => ?_⟩
  · refine reports_of (c := { code := 0x0701, cancellable := true, rereads := true }) (body := evtRead) rfl h ?_
    exact (evtRead_judged hh hf ha hfrom h1 h64 hp).trans (if_neg (by rw [hb]; decide))
  · obtain ⟨t, ht, ha', hu⟩ := refuses_of (c := { code := 0x0701, cancellable := true, rereads := true }) (i := .cmdEvtRead f) (body := evtRead) rfl h
      ((evtRead_judged hh hf ha hfrom h1 h64 hp).trans (if_pos hb))
    exact ⟨t, ht, hu, ha'⟩

end

theorem evtSubscribe_masks {mask : Nat} (hm : mask < 2 ^ 16) (hp : f.payload = le 2 mask ++ le 2 0) :
    Completes (.cmdEvtSubscribe f) s fun t => Untouched s t ∧ Answers s t f x 0x0702 0 [] ∧ ∃ y, t.session x.id = some y ∧ y.mask = mask := by
  have hlen : f.payload.length = 4 := by simp [hp, le_length]
  have hmask : field f.payload 0 2 = mask := by
    simp [hp, field_append_left, le_length]
    omega
  have hu := untouched_accepted s f x 0x0702 false
  have hsent := accepted_sent s f x 0x0702 false
  obtain ⟨y, hy, hconn, hcomp⟩ := accepted_session (code := 0x0702) (can := false) h
  have hb : evtSubscribe (requestOf f x 0x0702) (accepted s f x 0x0702 false) = ({ accepted s f x 0x0702 false with
      sessions := (accepted s f x 0x0702 false).sessions.map fun z => if z.id = x.id then { z with mask := mask } else z }, .ok []) := by
    unfold evtSubscribe
    rw [permitted_all hh, requestOf_payload, hlen, hmask, accepted_failed, hf]
    exact (if_neg (by decide)).trans ((if_neg (by decide)).trans (if_neg (by decide)))
  refine ⟨_, rfl, ?_⟩
  rw [State.serve_admitted h]
  unfold State.run
  rw [hb]
  dsimp only
  generalize accepted s f x 0x0702 false = a at hu hsent hy
  have hy' : ({ a with sessions := a.sessions.map fun z => if z.id = x.id then { z with mask := mask } else z } : State).session x.id =
      some { y with mask := mask } := by
    unfold State.session at hy ⊢
    dsimp only
    rw [List.find?_map]
    have he : (fun z : Session => (if z.id = x.id then { z with mask := mask } else z).id == x.id) = fun z => z.id == x.id := by
      funext z
      split
      · rfl
      · rfl
    rw [Function.comp_def, he, hy, Option.map_some, if_pos (State.session_id (s := a) hy)]
  refine ⟨Untouched.finalTo ?_, ?_, _, State.finalTo_session hy' _ _ _ _ _, rfl⟩
  · exact hu
  obtain ⟨ss, cn, he⟩ := State.finalTo_spoken ⟨_, hy', hconn, hcomp⟩ f.seq.toNat 0x0702 0 [] false
  unfold Answers
  rw [← hsent]
  exact congrArg State.sent he

theorem evtWipe_wipes {c area : Nat} (hc : c < 34) (ha : area ≤ 1) (hp : f.payload = le 1 c ++ le 1 area ++ le 2 0) (he : s.exists? c = true)
    (hx : x.comp = 0 ∨ (c = x.comp ∧ area = 1)) : let g := s.evLog c
    Completes (.cmdEvtWipe f) s fun t => (t.evLog c).first = (if area = 0 then [] else g.first) ∧
      (t.evLog c).last = (if area = 1 then [] else g.last) ∧ t.newest c = s.newest c ∧
      Answers s t f x 0x0703 0 (le 4 (if area = 0 then g.first.length else g.last.length)) ∧
      (s.evr.pend.length < 8 → ∃ e, t.evr.pend = e :: s.evr.pend ∧ e.comp = c ∧ e.body.trigger = 0x0705) := by
  intro g
  have hlen : f.payload.length = 4 := by simp [hp, le_length]
  have hcomp : field f.payload 0 1 = c := by
    simp [hp, field_append_left, le_length]
    omega
  have harea : field f.payload 1 1 = area := by
    simp [hp, field_append_left, field_append_right, le_length]
    omega
  have hzero : field f.payload 2 2 = 0 := by
    simp [hp, field_append_right, le_length]
  let a := accepted s f x 0x0703 false
  obtain ⟨hcount, w⟩ := a.wipeArea_wiped c ha
  let d : Bytes := le 1 area ++ le 3 0 ++ le 4 (a.wipeArea c area).1 ++ le 1 x.comp
  have hea : a.exists? c = true := (accepted_exists? s f x 0x0703 false c).trans he
  have hb : evtWipe (requestOf f x 0x0703) a = ((a.wipeArea c area).2.logFirst c 0x0705 d, .ok (le 4 (a.wipeArea c area).1)) := by
    unfold evtWipe
    rw [permitted_all hh, requestOf_payload, requestOf_comp, hlen, hcomp, harea, hzero, accepted_failed, hf]
    dsimp only
    rw [hea]
    refine (if_neg ?_).trans ((if_neg (by omega)).trans ((if_neg ?_).trans ((if_neg (by decide)).trans rfl)))
    · simp
      omega
    · rintro (⟨h0, hne⟩ | hb)
      · omega
      · exact absurd hb (by decide)
  have hlog : a.evLog c = g := accepted_evLog _ _ _ _ _ _
  have hnew : a.newest c = s.newest c := accepted_newest _ _ _ _ _ _
  have hfa : a.failed 10 = false := (accepted_failed s f x 0x0703 false 10).trans hf
  have hpe : a.evr.pend = s.evr.pend := congrArg Evr.pend (accepted_evr s f x 0x0703 false)
  have hsent : a.sent = s.sent := accepted_sent s f x 0x0703 false
  have hsp : Speaks a f x := accepted_session h
  rw [hlog] at hcount
  generalize (a.wipeArea c area).2 = b at hb w
  obtain ⟨k1, k2, k3, k4⟩ := b.logFirst_stand c 0x0705 d
  refine completes_ok (c := { code := 0x0703 }) (body := evtWipe) (t := b.logFirst c 0x0705 d) rfl h hb
    (hsp.congr (k3.trans w.sessions)) fun ss cn => ⟨?_, ?_, ?_, ?_, fun hl => ?_⟩
  · rw [← hlog]
    exact (k2 c).1.trans w.first
  · rw [← hlog]
    exact (k2 c).2.trans w.last
  · exact (k1 c).trans (w.newest.trans hnew)
  · unfold Answers
    rw [← hsent, ← w.sent, ← k4, ← hcount]
  · rw [← hpe, ← w.pend]
    exact State.logFirst_pend (w.failed.trans hfa) (w.exist.trans hea) (by rw [w.pend, hpe]; exact hl)

end

/-- Settles O31. What is written to one log leaves every other, since the registers of each lie in its own bank. -/
theorem eventRecorder : Obligations.EventRecorder := by
  unfold Obligations.EventRecorder
  refine ⟨fun now s p r => evrRecordWrite_writes, fun c now tt s w hf hx hm hn hb hen hw => ⟨?_, ?_⟩,
    fun c now tt s => ⟨watchHoldoffEnd_ends, watchHoldoffEnd_early⟩, evrRecRead_answers, fun f s x h hh hf => ⟨?_, ?_, ?_⟩⟩
  · exact watchEval_fires hf hx hm hn hb hen hw
  · exact watchEval_waits hf hx hm hn hb hen hw
  · exact fun area from_ n ha hfrom h1 h64 hp => evtRead_reads h hh hf ha hfrom h1 h64 hp
  · exact fun mask hm hp => evtSubscribe_masks h hh hf hm hp
  · exact fun c area hc ha hp he hx => evtWipe_wipes h hh hf hc ha hp he hx

end Sys2Proof.Proofs
end

section
/-!
SUPPORT. Forces and the live image (spec/07 R190 to R195): an entry's fields, a point's fields, and what putting a force in effect
or releasing it leaves alone.
-/
namespace Sys2Proof.Machine
open Sys2Proof.Claims

/-! ### The fields of an entry -/

/-- The rows of a force entry (Table 7-8). -/
def forceRows : List Row :=
  [Obj.FORCE_STATE, Obj.FORCE_KIND, Obj.FORCE_DTYPE, Obj.FORCE_POINT, Obj.FORCE_SIZE, Obj.FORCE_PATH_HASH, Obj.FORCE_NAME_HASH, Obj.FORCE_VALUE]

/-- Where each of them lies in its entry. -/
theorem forceRows_key : ∀ r ∈ forceRows, ∀ c i, ∃ k < 256, (r.bi c i).key = c * 2 ^ 40 + (10485760 + 256 * i) + k := by
  have h : ∀ r ∈ forceRows, r.banked = true ∧ r.dims = [(128, 0x20)] ∧ 10485760 ≤ 8 * r.base + r.lo ∧ 8 * r.base + r.lo < 10486016 := by decide
  intro r hr c i
  obtain ⟨hb, hd, h1, h2⟩ := h r hr
  refine ⟨8 * r.base + r.lo - 10485760, by omega, ?_⟩
  simp only [Row.bi, Row.at, Fld.key, hb, hd, if_true, List.zip_cons_cons, List.zip_nil_right, List.foldl_cons, List.foldl_nil]
  omega

/-- The keys of one entry. -/
def entryKey (c i k : Nat) : Bool := decide (c * 2 ^ 40 + (10485760 + 256 * i) ≤ k ∧ k < c * 2 ^ 40 + (10485760 + 256 * i) + 256)

theorem entryKey_row {r : Row} (hr : r ∈ forceRows) (c i : Nat) : entryKey c i (r.bi c i).key = true := by
  obtain ⟨k, hk, he⟩ := forceRows_key r hr c i
  rw [he]
  exact decide_eq_true (by omega)

theorem entryKey_other {r : Row} (hr : r ∈ forceRows) {c i j : Nat} (hj : j ≠ i) : entryKey c i (r.bi c j).key = false := by
  obtain ⟨k, hk, he⟩ := forceRows_key r hr c j
  rw [he]
  exact decide_eq_false (by omega)

/-- Every field of an entry alike, the entry is alike. -/
theorem State.force_congr {s t : State} {c i : Nat} (h : ∀ r ∈ forceRows, t.rd (r.bi c i) = s.rd (r.bi c i)) : t.force c i = s.force c i := by
  simp only [forceRows, List.forall_mem_cons, List.not_mem_nil, false_implies, implies_true, and_true] at h
  obtain ⟨h1, h2, h3, h4, h5, h6, h7, h8⟩ := h
  unfold State.force
  rw [h1, h2, h3, h4, h5, h6, h7, h8]

/-- What putting an entry writes. -/
def Force.fields (f : Force) (c : Nat) : List (Fld × Nat) :=
  [(Obj.FORCE_STATE.bi c f.ix, f.state), (Obj.FORCE_KIND.bi c f.ix, f.kind), (Obj.FORCE_DTYPE.bi c f.ix, f.dtype),
    (Obj.FORCE_POINT.bi c f.ix, f.point), (Obj.FORCE_SIZE.bi c f.ix, f.size), (Obj.FORCE_PATH_HASH.bi c f.ix, f.path),
    (Obj.FORCE_NAME_HASH.bi c f.ix, f.name), (Obj.FORCE_VALUE.bi c f.ix, f.value)]

theorem State.putForce_eq (s : State) (c : Nat) (f : Force) : s.putForce c f = s.wrs (f.fields c) := rfl

theorem Force.fields_nodup (f : Force) (c : Nat) : ((f.fields c).map fun p => p.1.key).Nodup := by
  have h : ((f.fields c).map fun p => p.1.key) =
      [0, 2, 8, 16, 32, 64, 128, 192].map fun k => c * 2 ^ 40 + (10485760 + 256 * f.ix) + k := by
    simp only [Force.fields, List.map_cons, List.map_nil, Row.bi, Row.at, Fld.key, Obj.FORCE_STATE, Obj.FORCE_KIND, Obj.FORCE_DTYPE, Obj.FORCE_POINT,
      Obj.FORCE_SIZE, Obj.FORCE_PATH_HASH, Obj.FORCE_NAME_HASH, Obj.FORCE_VALUE, if_true, List.zip_cons_cons, List.zip_nil_right, List.foldl_cons,
      List.foldl_nil, List.cons.injEq, and_true]
    omega
  rw [h]
  exact (show [0, 2, 8, 16, 32, 64, 128, 192].Nodup by decide).map (fun a b hab => by simpa using hab)

theorem State.putForce_beyond (s : State) (c : Nat) (f : Force) : Beyond (entryKey c f.ix) s (s.putForce c f) := by
  rw [State.putForce_eq]
  refine .wrs (.refl _ s) fun p hp => ?_
  have h : ∀ r ∈ forceRows, entryKey c f.ix (r.bi c f.ix).key = true := fun r hr => entryKey_row hr c f.ix
  simp only [forceRows, List.forall_mem_cons, List.not_mem_nil, false_implies, implies_true, and_true] at h
  obtain ⟨h1, h2, h3, h4, h5, h6, h7, h8⟩ := h
  simp only [Force.fields, List.mem_cons, List.not_mem_nil, or_false] at hp
  obtain rfl | rfl | rfl | rfl | rfl | rfl | rfl | rfl := hp
  · exact h1
  · exact h2
  · exact h3
  · exact h4
  · exact h5
  · exact h6
  · exact h7
  · exact h8

/-- A force whose fields fit their widths. -/
structure Force.Fits (f : Force) : Prop where
  state : f.state < 2 ^ 2
  kind : f.kind < 2 ^ 1
  dtype : f.dtype < 2 ^ 8
  point : f.point < 2 ^ 13
  size : f.size < 2 ^ 4
  path : f.path < 2 ^ 64
  name : f.name < 2 ^ 64
  value : f.value < 2 ^ 64

/-- A force put in its entry is found there. -/
theorem State.force_putForce (s : State) (c : Nat) {f : Force} (h : f.Fits) : (s.putForce c f).force c f.ix = f := by
  have hrd {g : Fld} {v : Nat} (hm : (g, v) ∈ f.fields c) (hv : v < 2 ^ g.width) : (s.putForce c f).rd g = v := by
    rw [State.putForce_eq]
    exact (State.rd_wrs_mem (Force.fields_nodup f c) hm).trans (Nat.mod_eq_of_lt hv)
  unfold State.force
  rw [hrd (v := f.state) (by simp [Force.fields]) h.state, hrd (v := f.kind) (by simp [Force.fields]) h.kind,
    hrd (v := f.dtype) (by simp [Force.fields]) h.dtype, hrd (v := f.point) (by simp [Force.fields]) h.point,
    hrd (v := f.size) (by simp [Force.fields]) h.size, hrd (v := f.path) (by simp [Force.fields]) h.path,
    hrd (v := f.name) (by simp [Force.fields]) h.name, hrd (v := f.value) (by simp [Force.fields]) h.value]

/-! ### The fields of a point -/

/-- The value and the attributes of a point of the live image. -/
def pointKey (p k : Nat) : Bool := k == 16777216 + 64 * p || k == 25165827 + 32 * p

theorem pt_key (p : Nat) : (Obj.PIMG_PT.i p).key = 16777216 + 64 * p := by
  simp [Row.i, Row.at, Fld.key, Obj.PIMG_PT]
  omega

theorem forced_key (p : Nat) : (Obj.PIMG_ATTR_FORCED.i p).key = 25165827 + 32 * p := by
  simp [Row.i, Row.at, Fld.key, Obj.PIMG_ATTR_FORCED]
  omega

theorem source_key (p : Nat) : (Obj.PIMG_ATTR_SOURCE.i p).key = 25165824 + 32 * p := by
  simp [Row.i, Row.at, Fld.key, Obj.PIMG_ATTR_SOURCE]
  omega

theorem stale_key (p : Nat) : (Obj.PIMG_ATTR_STALE.i p).key = 25165828 + 32 * p := by
  simp [Row.i, Row.at, Fld.key, Obj.PIMG_ATTR_STALE]
  omega

/-- A point marked forced or not, and its value written where `w` says so. -/
def State.drive (s : State) (p mark v : Nat) (w : Bool) : State :=
  let s1 := s.wr (Obj.PIMG_ATTR_FORCED.i p) mark
  if w then s1.pimgWrite [PtWrite.whole p v] else s1

theorem State.applyForce_eq (s : State) (f : Force) : s.applyForce f = s.drive f.point 1 f.value (decide (s.source f.point ≤ 1)) := by
  unfold State.applyForce State.drive
  by_cases h : s.source f.point ≤ 1
  · simp [h]
  · simp [h]

theorem State.liftForce_eq (s : State) (c : Nat) (f : Force) :
    s.liftForce c f = s.drive f.point 0 (s.ownValue c f.point) (decide (s.source f.point = 1)) := by
  unfold State.liftForce State.drive
  by_cases h : s.source f.point = 1
  · simp [h]
  · simp [h]

/-- What driving a point leaves. -/
structure Driven (s t : State) (p mark v : Nat) (w : Bool) : Prop where
  eq : t = { s with regs := t.regs, scan := { s.scan with queued := t.scan.queued } }
  rd : Beyond (pointKey p) s t
  mark : t.rd (Obj.PIMG_ATTR_FORCED.i p) = mark % 2
  value : w = true → s.scan.hold = none → t.pt p = v % 2 ^ 64

theorem forced_ne_pt (p q : Nat) : (Obj.PIMG_PT.i p).key ≠ (Obj.PIMG_ATTR_FORCED.i q).key := by
  rw [pt_key, forced_key]
  omega

theorem State.drive_driven (s : State) (p mark v : Nat) (w : Bool) : Driven s (s.drive p mark v w) p mark v w := by
  have hm : (s.wr (Obj.PIMG_ATTR_FORCED.i p) mark).rd (Obj.PIMG_ATTR_FORCED.i p) = mark % 2 := State.rd_wr_self _ _ _
  have hb : Beyond (pointKey p) s (s.wr (Obj.PIMG_ATTR_FORCED.i p) mark) :=
    .wr (.refl _ s) (by rw [forced_key, pointKey, beq_self_eq_true, Bool.or_true]) _
  unfold State.drive
  dsimp only
  cases w with
  | false => exact ⟨rfl, hb, hm, fun h => nomatch h⟩
  | true =>
    rw [if_pos rfl]
    cases hh : s.scan.hold with
    | some t =>
      have he : ∀ l : List PtWrite, l.isEmpty = false → (s.wr (Obj.PIMG_ATTR_FORCED.i p) mark).pimgWrite l =
          { s.wr (Obj.PIMG_ATTR_FORCED.i p) mark with scan := { s.scan with queued := s.scan.queued ++ [l] } } := by
        intro l hl
        unfold State.pimgWrite
        rw [hl]
        exact (if_neg Bool.false_ne_true).trans (if_pos (by rw [State.wr_scan, hh]; rfl))
      rw [he _ rfl]
      exact ⟨rfl, hb, hm, fun _ h => absurd (hh.symm.trans h) (Option.some_ne_none t)⟩
    | none =>
      have he : ∀ l : List PtWrite, (s.wr (Obj.PIMG_ATTR_FORCED.i p) mark).pimgWrite l = (s.wr (Obj.PIMG_ATTR_FORCED.i p) mark).applyPts l := by
        intro l
        unfold State.pimgWrite
        split
        · next h => rw [List.isEmpty_iff.mp h]; rfl
        · exact if_neg (by rw [State.wr_scan, hh]; decide)
      rw [he]
      refine ⟨rfl, hb.wr ?_ _, (State.rd_wr_ne _ _ _ _ (forced_ne_pt p p)).trans hm, fun _ _ => ?_⟩
      · rw [show (PtWrite.whole p v).point = p from rfl, pt_key, pointKey, beq_self_eq_true, Bool.true_or]
      · refine (State.rd_wr_self _ _ _).trans ?_
        rw [PtWrite.merge_whole]
        exact Nat.mod_mod _ _

/-! ### Fields apart from a point or an entry -/

theorem pointKey_eq_false {p k : Nat} (h1 : k ≠ 16777216 + 64 * p) (h2 : k ≠ 25165827 + 32 * p) : pointKey p k = false := by
  simp [pointKey, h1, h2]

theorem entryKey_point {c i p : Nat} (hp : p < 8192) (hi : i < 128) : entryKey c i (Obj.PIMG_PT.i p).key = false ∧
    entryKey c i (Obj.PIMG_ATTR_FORCED.i p).key = false ∧ entryKey c i (Obj.PIMG_ATTR_SOURCE.i p).key = false := by
  rw [pt_key, forced_key, source_key]
  unfold entryKey
  refine ⟨decide_eq_false ?_, decide_eq_false ?_, decide_eq_false ?_⟩
  all_goals omega

theorem pointKey_entry {p : Nat} (hp : p < 8192) {r : Row} (hr : r ∈ forceRows) (c : Nat) {i : Nat} (hi : i < 128) :
    pointKey p (r.bi c i).key = false := by
  obtain ⟨k, hk, he⟩ := forceRows_key r hr c i
  rw [he]
  exact pointKey_eq_false (by omega) (by omega)

end Sys2Proof.Machine

namespace Sys2Proof.Proofs
open Sys2Proof.Machine Sys2Proof.Claims

/-! ### Who may use a scan command -/

theorem accepted_d1 (s : State) (f : Frame) (x : Session) (code : Nat) (can : Bool) (c : Nat) : (accepted s f x code can).d1 c = s.d1 c := by
  unfold State.d1
  rw [accepted_rd]

section
variable {s : State} {f : Frame} {x : Session} (hh : Hosted s x)
include hh

theorem scanOpen_eq (d1 frozen : Bool) (code : Nat) (can : Bool) : scanOpen (requestOf f x code) (accepted s f x code can) d1 frozen =
    if (d1 && ! s.d1 x.comp) = true then some St.notPermitted else if (frozen && s.mode == 9) = true then some St.busy else none := by
  unfold scanOpen
  rw [permitted_all hh, requestOf_comp, accepted_d1, accepted_mode]
  rfl

theorem scanOpen_open {d1 frozen : Bool} (hd : d1 = true → s.d1 x.comp = true) (hm : frozen = true → s.mode ≠ 9) (code : Nat) (can : Bool) :
    scanOpen (requestOf f x code) (accepted s f x code can) d1 frozen = none := by
  rw [scanOpen_eq hh]
  refine (if_neg ?_).trans (if_neg ?_)
  · cases d1 with
    | false => exact Bool.false_ne_true
    | true => rw [hd rfl]; decide
  · cases frozen with
    | false => exact Bool.false_ne_true
    | true => simpa using hm rfl

end

end Sys2Proof.Proofs
end

section
/-!
SUPPORT. Setting and releasing a force (spec/07 R190, R193, R195).
-/
namespace Sys2Proof.Machine
open Sys2Proof.Claims

/-! ### Setting -/

/-- A force as its entry keeps it. -/
def Force.placed (f : Force) (i : Nat) (held : Bool) : Force := { f with ix := i, state := if held then 2 else 1 }

/-- Whether a force waits because the mode holds the program's outputs (R194). -/
def State.holdsForce (s : State) (c : Nat) (f : Force) : Bool := f.kind == 0 && s.mode == 8 && (s.outputPoints c).contains f.point

/-- The state with a force in its entry and in effect. -/
def State.forceSet (s : State) (c i : Nat) (f : Force) : State :=
  let f1 := f.placed i (s.holdsForce c f)
  if f.kind = 0 && ! s.holdsForce c f then (s.putForce c f1).applyForce f1 else s.putForce c f1

theorem State.setForce_eq {s : State} {c i : Nat} {f : Force} (hi : i < 128) (h : ForceEntry s c f i) :
    s.setForce c f = (s.forceSet c i f, .ok (le 1 i ++ le 3 0)) := by
  have hfree : (∀ y ∈ s.forces c, ¬ (y.kind = f.kind ∧ y.point = f.point ∧ y.path = f.path ∧ y.name = f.name)) →
      ((s.forces c).find? fun x => x.kind == f.kind && x.point == f.point && x.path == f.path && x.name == f.name) = none := by
    intro hn
    refine List.find?_eq_none.mpr fun y hy hb => hn y hy ?_
    simpa [and_assoc] using hb
  unfold State.setForce
  obtain ⟨y, hy, rfl⟩ | ⟨hn, ht, h0, hlow⟩ := h
  · rw [hy]
    rfl
  · have hfind : ((List.range 128).find? fun j => s.rd (Obj.FORCE_STATE.bi c j) == 0) = some i := by
      refine List.find?_range_eq_some.mpr ⟨?_, List.mem_range.mpr hi, fun j hj => ?_⟩
      · exact beq_iff_eq.mpr h0
      · simpa using hlow j hj
    rw [hfree hn, hfind]
    dsimp only
    rw [if_neg (Nat.not_le.mpr ht)]
    rfl

/-- The fields that set a force fit their widths. -/
theorem Force.placed_fits {f : Force} {i : Nat} {held : Bool} (h : f.Fits) : (f.placed i held).Fits := by
  refine ⟨?_, h.kind, h.dtype, h.point, h.size, h.path, h.name, h.value⟩
  show (if held then 2 else 1) < 2 ^ 2
  cases held
  · decide
  · decide

theorem State.forceSet_stands {s : State} {c i : Nat} {f : Force} (hi : i < 128) (hf : f.Fits) (hp : f.point < 8192) :
    ForceStands s (s.forceSet c i f) c i f := by
  have hfit := Force.placed_fits (i := i) (held := s.holdsForce c f) hf
  have hheld : s.holdsForce c f = true ↔ f.kind = 0 ∧ s.mode = 8 ∧ f.point ∈ s.outputPoints c := by
    simp [State.holdsForce, and_assoc]
  have hput := s.force_putForce c hfit
  have hbey := s.putForce_beyond c (f.placed i (s.holdsForce c f))
  obtain ⟨hk1, hk2, hk3⟩ := entryKey_point (c := c) hp hi
  have hscan : (s.putForce c (f.placed i (s.holdsForce c f))).scan = s.scan := by rw [State.putForce_eq, State.wrs_eq]
  -- The entry is found whole in the state that is left.
  have hentry : (s.forceSet c i f).force c i = f.placed i (s.holdsForce c f) := by
    unfold State.forceSet
    dsimp only
    split
    · refine Eq.trans (State.force_congr fun r hr => ?_) hput
      rw [State.applyForce_eq]
      exact (State.drive_driven _ _ _ _ _).rd _ (pointKey_entry hp hr c hi)
    · exact hput
  have hstate : (s.forceSet c i f).rd (Obj.FORCE_STATE.bi c i) = if s.holdsForce c f then 2 else 1 := congrArg Force.state hentry
  refine ⟨?_, fun hh => ?_, fun hh => ?_, fun hk hh => ?_⟩
  · rw [hentry, hstate]
    rfl
  · rw [hstate, if_pos (hheld.mpr hh)]
  · rw [hstate, if_neg fun hb => hh (hheld.mp hb)]
  · have hno : s.holdsForce c f = false := Bool.eq_false_iff.mpr fun hb => hh (hheld.mp hb)
    have hset : s.forceSet c i f = (s.putForce c (f.placed i (s.holdsForce c f))).applyForce (f.placed i (s.holdsForce c f)) := by
      unfold State.forceSet
      dsimp only
      refine if_pos ?_
      rw [hno, hk]
      decide
    have hsrc : (s.putForce c (f.placed i (s.holdsForce c f))).source f.point = s.source f.point := hbey _ hk3
    have hd := State.drive_driven (s.putForce c (f.placed i (s.holdsForce c f))) f.point 1 f.value (decide (s.source f.point ≤ 1))
    rw [hset, State.applyForce_eq]
    rw [show (s.putForce c (f.placed i (s.holdsForce c f))).source (f.placed i (s.holdsForce c f)).point = s.source f.point from hsrc]
    refine ⟨hd.mark, fun hle hn => (hd.value (decide_eq_true hle) (by rw [hscan]; exact hn)).trans (Nat.mod_eq_of_lt hf.value)⟩

theorem State.forceSet_says (s : State) (c i : Nat) (f : Force) : (s.forceSet c i f).sessions = s.sessions ∧ (s.forceSet c i f).sent = s.sent := by
  have hput : ∀ g : Force, (s.putForce c g).sessions = s.sessions ∧ (s.putForce c g).sent = s.sent := fun g => by
    rw [State.putForce_eq, State.wrs_eq]
    exact ⟨rfl, rfl⟩
  obtain ⟨h1, h2⟩ := hput (f.placed i (s.holdsForce c f))
  unfold State.forceSet
  dsimp only
  split
  · rw [State.applyForce_eq, (State.drive_driven _ _ _ _ _).eq]
    exact ⟨h1, h2⟩
  · exact ⟨h1, h2⟩

/-! ### Releasing -/

/-- The empty entry. -/
def Force.free (i : Nat) : Force := { ix := i, state := 0, kind := 0, dtype := 0, point := 0, size := 0, path := 0, name := 0, value := 0 }

theorem Force.free_fits (i : Nat) : (Force.free i).Fits :=
  ⟨Nat.two_pow_pos 2, Nat.two_pow_pos 1, Nat.two_pow_pos 8, Nat.two_pow_pos 13, Nat.two_pow_pos 4, Nat.two_pow_pos 64, Nat.two_pow_pos 64, Nat.two_pow_pos 64⟩

/-- An entry emptied, and its point returned to its task. -/
def State.forceLifted (s : State) (c : Nat) (f : Force) : State :=
  if f.kind = 0 ∧ f.state = 1 then (s.putForce c (Force.free f.ix)).liftForce c f else s.putForce c (Force.free f.ix)

theorem State.releaseForce_eq (s : State) (c : Nat) (f : Force) : s.releaseForce c f =
    ((s.forceLifted c f).set1 (Obj.EXCH_EVT_FORCE_RELEASED.b c)).log c 0x0407 f.detail := rfl

/-- The keys that a release may change before it is told. -/
def liftKeys (c : Nat) (f : Force) (k : Nat) : Bool := entryKey c f.ix k || pointKey f.point k

structure Lifted (s t : State) (c : Nat) (f : Force) : Prop where
  eq : t = { s with regs := t.regs, scan := { s.scan with queued := t.scan.queued } }
  rd : Beyond (liftKeys c f) s t
  entry : f.point < 8192 → f.ix < 128 → t.force c f.ix = Force.free f.ix
  point : f.point < 8192 → f.ix < 128 → f.kind = 0 → f.state = 1 → t.rd (Obj.PIMG_ATTR_FORCED.i f.point) = 0 ∧
    (s.source f.point = 1 → s.scan.hold = none → t.pt f.point = s.ownValue c f.point % 2 ^ 64)

theorem State.forceLifted_lifted (s : State) (c : Nat) (f : Force) : Lifted s (s.forceLifted c f) c f := by
  have hput := s.force_putForce c (Force.free_fits f.ix)
  have hbey := s.putForce_beyond c (Force.free f.ix)
  have heq : s.putForce c (Force.free f.ix) = { s with regs := (s.putForce c (Force.free f.ix)).regs } := by
    rw [State.putForce_eq]
    exact State.wrs_eq _ _
  have hscan : (s.putForce c (Force.free f.ix)).scan = s.scan := by rw [heq]
  have hmono : ∀ k, entryKey c f.ix k = true → liftKeys c f k = true := fun k hk => by simp [liftKeys, hk]
  unfold State.forceLifted
  by_cases h : f.kind = 0 ∧ f.state = 1
  · rw [if_pos h]
    have hd := State.drive_driven (s.putForce c (Force.free f.ix)) f.point 0 ((s.putForce c (Force.free f.ix)).ownValue c f.point)
      (decide ((s.putForce c (Force.free f.ix)).source f.point = 1))
    rw [← State.liftForce_eq] at hd
    refine ⟨?_, ?_, fun hp hi => ?_, fun hp hi hk hst => ?_⟩
    · rw [hd.eq, hscan, heq]
    · exact (hbey.mono hmono).trans (hd.rd.mono fun k hk => by simp [liftKeys, hk])
    · exact (State.force_congr fun r hr => hd.rd _ (pointKey_entry hp hr c hi)).trans hput
    · obtain ⟨hk1, hk2, hk3⟩ := entryKey_point (c := c) hp hi
      have hsrc : (s.putForce c (Force.free f.ix)).source f.point = s.source f.point := hbey _ hk3
      have hown : (s.putForce c (Force.free f.ix)).ownValue c f.point = s.ownValue c f.point := by
        have hpt : (s.putForce c (Force.free f.ix)).pt f.point = s.pt f.point := hbey _ hk1
        unfold State.ownValue State.prog
        rw [hscan, hpt]
      refine ⟨hd.mark, fun h1 hn => ?_⟩
      rw [← hown]
      exact hd.value (decide_eq_true (hsrc.trans h1)) (by rw [hscan]; exact hn)
  · rw [if_neg h]
    refine ⟨?_, hbey.mono hmono, fun _ _ => hput, fun _ _ hk hst => absurd ⟨hk, hst⟩ h⟩
    rw [hscan]
    exact heq

/-! ### A release as it is told -/

theorem released_key (c : Nat) : (Obj.EXCH_EVT_FORCE_RELEASED.b c).key = c * 2 ^ 40 + 9437505 := by
  rw [Row.b_zero _ rfl]
  rfl

/-- Neither what a release is told by nor what it is judged by lies in the keys it changes. -/
theorem liftKeys_apart {c : Nat} {f : Force} (hp : f.point < 8192) (hi : f.ix < 128) : liftKeys c f Obj.PWR_UNIT_FAIL.f.key = false ∧
    liftKeys c f Obj.CAST_COMP_EXIST.f.key = false ∧
    ∀ r ∈ forceRows, ∀ j, j < 128 → j ≠ f.ix → liftKeys c f (r.bi c j).key = false := by
  rw [show Obj.PWR_UNIT_FAIL.f.key = 100663744 from rfl, show Obj.CAST_COMP_EXIST.f.key = 557120 from rfl]
  unfold liftKeys
  refine ⟨?_, ?_, fun r hr j hj hne => ?_⟩
  · rw [pointKey_eq_false (by omega) (by omega), Bool.or_false]
    exact decide_eq_false (by omega)
  · rw [pointKey_eq_false (by omega) (by omega), Bool.or_false]
    exact decide_eq_false (by omega)
  · rw [entryKey_other hr hne, pointKey_entry hp hr c hj]
    rfl

theorem forceRow_unlogged {r : Row} (hr : r ∈ forceRows) (c : Nat) {i : Nat} (hi : i < 128) : unlogged (r.bi c i) = true ∧
    (Obj.EXCH_EVT_FORCE_RELEASED.b c).key ≠ (r.bi c i).key := by
  obtain ⟨k, hk, he⟩ := forceRows_key r hr c i
  unfold unlogged
  rw [he, released_key, show (Obj.EVR_DROPPED.b 0).key = 1573088 from rfl, show (Obj.EVR_EVT_DROPPED.b 0).key = 1573120 from rfl]
  simp only [Bool.and_eq_true, bne_iff_ne]
  omega

theorem point_unlogged {p : Nat} (hp : p < 8192) (c : Nat) :
    (unlogged (Obj.PIMG_PT.i p) = true ∧ (Obj.EXCH_EVT_FORCE_RELEASED.b c).key ≠ (Obj.PIMG_PT.i p).key) ∧
    unlogged (Obj.PIMG_ATTR_FORCED.i p) = true ∧ (Obj.EXCH_EVT_FORCE_RELEASED.b c).key ≠ (Obj.PIMG_ATTR_FORCED.i p).key := by
  unfold unlogged
  rw [pt_key, forced_key, released_key, show (Obj.EVR_DROPPED.b 0).key = 1573088 from rfl,
    show (Obj.EVR_EVT_DROPPED.b 0).key = 1573120 from rfl]
  simp only [Bool.and_eq_true, bne_iff_ne]
  omega

structure Released (s t : State) (c : Nat) (f : Force) : Prop where
  state : t.rd (Obj.FORCE_STATE.bi c f.ix) = 0
  flag : t.rd (Obj.EXCH_EVT_FORCE_RELEASED.b c) = 1
  logged : Logged s t c 0x0407 f.detail
  point : f.kind = 0 → f.state = 1 → t.rd (Obj.PIMG_ATTR_FORCED.i f.point) = 0 ∧
    (s.source f.point = 1 → s.scan.hold = none → t.pt f.point = s.ownValue c f.point % 2 ^ 64)
  other : ∀ j, j < 128 → j ≠ f.ix → t.force c j = s.force c j
  sessions : t.sessions = s.sessions
  sent : t.sent = s.sent

theorem State.releaseForce_released (s : State) (c : Nat) {f : Force} (hp : f.point < 8192) (hi : f.ix < 128) :
    Released s (s.releaseForce c f) c f := by
  have h := s.forceLifted_lifted c f
  rw [State.releaseForce_eq]
  generalize s.forceLifted c f = u at h
  have hr := State.log_raised (u.set1 (Obj.EXCH_EVT_FORCE_RELEASED.b c)) c 0x0407 f.detail false none
  have htold {g : Fld} (hg : unlogged g = true ∧ (Obj.EXCH_EVT_FORCE_RELEASED.b c).key ≠ g.key) :
      ((u.set1 (Obj.EXCH_EVT_FORCE_RELEASED.b c)).log c 0x0407 f.detail).rd g = u.rd g :=
    (hr.rd _ hg.1).trans (State.rd_wr_ne _ _ _ _ hg.2)
  have hset {g : Fld} (hk : c * 2 ^ 40 + 9437505 ≠ g.key) : (u.set1 (Obj.EXCH_EVT_FORCE_RELEASED.b c)).rd g = u.rd g :=
    State.rd_wr_ne _ _ _ _ (by rw [released_key]; exact hk)
  obtain ⟨ha1, ha2, ha3⟩ := liftKeys_apart (c := c) hp hi
  obtain ⟨hpt, hfo⟩ := point_unlogged hp c
  have hstate : Obj.FORCE_STATE ∈ forceRows := by decide
  refine ⟨?_, ?_, ?_, fun hk hst => ?_, fun j hj hne => State.force_congr fun r hr' => ?_, ?_, ?_⟩
  · exact (htold (forceRow_unlogged hstate c hi)).trans (congrArg Force.state (h.entry hp hi))
  · refine (hr.rd _ ?_).trans (State.rd_wr_self _ _ _)
    unfold unlogged
    rw [released_key, show (Obj.EVR_DROPPED.b 0).key = 1573088 from rfl, show (Obj.EVR_EVT_DROPPED.b 0).key = 1573120 from rfl]
    simp only [Bool.and_eq_true, bne_iff_ne]
    omega
  · refine logged_log ?_ ?_ ?_ ?_
    · unfold State.failed
      rw [hset (by rw [show Obj.PWR_UNIT_FAIL.f.key = 100663744 from rfl]; omega), h.rd _ ha1]
    · unfold State.exists?
      rw [hset (by rw [show Obj.CAST_COMP_EXIST.f.key = 557120 from rfl]; omega), h.rd _ ha2]
    · rw [h.eq]
      exact List.prefix_refl _
    · rw [h.eq]
      exact Nat.le_add_right _ _
  · obtain ⟨h1, h2⟩ := h.point hp hi hk hst
    exact ⟨(htold hfo).trans h1, fun hs hn => (htold hpt).trans (h2 hs hn)⟩
  · exact (htold (forceRow_unlogged hr' c hj)).trans (h.rd _ (ha3 r hr' j hj hne))
  · rw [hr.eq, h.eq]
    rfl
  · rw [hr.eq, h.eq]
    rfl

/-! ### The forces in use -/

theorem range_filter_one : ∀ i : Fin 128, (List.range 128).filter (fun j => j == i.val) = [i.val] := by decide +kernel

/-- The forces of one entry. -/
theorem State.forces_at (s : State) (c : Nat) {i : Nat} (hi : i < 128) :
    (s.forces c).filter (fun f => f.ix == i) = if s.rd (Obj.FORCE_STATE.bi c i) = 0 then [] else [s.force c i] := by
  have hmap : ((List.range 128).map (s.force c)).filter (fun f => f.ix == i) = [s.force c i] := by
    rw [List.filter_map]
    exact congrArg (List.map (s.force c)) (range_filter_one ⟨i, hi⟩)
  unfold State.forces
  rw [List.filter_filter]
  have hcomm : ((List.range 128).map (s.force c)).filter (fun a => (a.ix == i && a.state != 0)) =
      [s.force c i].filter fun a => a.state != 0 := by
    rw [← hmap, List.filter_filter]
    exact List.filter_congr fun a _ => Bool.and_comm _ _
  rw [hcomm]
  have hst : (s.force c i).state = s.rd (Obj.FORCE_STATE.bi c i) := rfl
  by_cases h : s.rd (Obj.FORCE_STATE.bi c i) = 0
  · rw [if_pos h, List.filter_cons_of_neg (by rw [hst, h]; decide)]
    rfl
  · rw [if_neg h, List.filter_cons_of_pos (by rw [hst]; simpa using h)]
    rfl

theorem State.forces_congr {s t : State} (h : t.regs = s.regs) (c : Nat) : t.forces c = s.forces c := by
  have hf (i : Nat) : t.force c i = s.force c i := State.force_congr fun r _ => State.rd_congr h _
  unfold State.forces
  exact congrArg (List.filter _) (List.map_congr_left fun i _ => hf i)

/-- A force has its entry in an accepted request's state as before it. -/
theorem forceEntry_congr {s t : State} (h : t.regs = s.regs) {c i : Nat} {f : Force} (he : ForceEntry s c f i) : ForceEntry t c f i := by
  have ht : t.forceTotal = s.forceTotal := by
    unfold State.forceTotal
    exact congrArg (fun l : List Nat => l.foldl (· + ·) 0) (List.map_congr_left fun c _ => congrArg List.length (State.forces_congr h c))
  unfold ForceEntry
  rw [State.forces_congr h, ht, State.rd_congr h]
  obtain he | ⟨h1, h2, h3, h4⟩ := he
  · exact .inl he
  · exact .inr ⟨h1, h2, h3, fun j hj => by rw [State.rd_congr h]; exact h4 j hj⟩

/-- Sessions, counts and what is put out do not matter to a force. -/
theorem forceStands_congr {s a t u : State} {c i : Nat} {f : Force} (ha : a.regs = s.regs) (hs : a.scan = s.scan) (hu : u.regs = t.regs)
    (h : ForceStands a t c i f) : ForceStands s u c i f := by
  have hm : a.mode = s.mode := State.rd_congr ha _
  have ho : a.outputPoints c = s.outputPoints c := by
    unfold State.outputPoints State.tasksOf State.prog State.on
    rw [hs]
    simp only [State.rd_congr ha]
  have hsrc (p : Nat) : a.source p = s.source p := State.rd_congr ha _
  have hf : u.force c i = t.force c i := State.force_congr fun r _ => State.rd_congr hu _
  obtain ⟨h1, h2, h3, h4⟩ := h
  unfold ForceStands
  dsimp only at h1 h2 h3 h4 ⊢
  rw [hm, ho] at h2 h3 h4
  rw [hf, State.rd_congr hu]
  refine ⟨h1, h2, h3, fun hk hh => ?_⟩
  obtain ⟨h5, h6⟩ := h4 hk hh
  rw [hsrc, hs] at h6
  refine ⟨(State.rd_congr hu _).trans h5, fun hle hn => (State.rd_congr hu _).trans (h6 hle hn)⟩

end Sys2Proof.Machine

namespace Sys2Proof.Proofs
open Sys2Proof.Machine Sys2Proof.Claims

end Sys2Proof.Proofs
end

section
namespace Sys2Proof.Proofs
open Sys2Proof.Machine Sys2Proof.Claims

theorem accepted_scan (s : State) (f : Frame) (x : Session) (code : Nat) (can : Bool) : (accepted s f x code can).scan = s.scan := by
  obtain ⟨ss, cn, h⟩ := accepted_eq s f x code can
  rw [h]
  rfl

theorem accepted_castlings (s : State) (f : Frame) (x : Session) (code : Nat) (can : Bool) :
    (accepted s f x code can).castlings = s.castlings := by
  obtain ⟨ss, cn, h⟩ := accepted_eq s f x code can
  rw [h]
  rfl

theorem accepted_prog (s : State) (f : Frame) (x : Session) (code : Nat) (can : Bool) (c : Nat) :
    (accepted s f x code can).prog c = s.prog c := by
  unfold State.prog
  rw [accepted_scan]

theorem accepted_forces (s : State) (f : Frame) (x : Session) (code : Nat) (can : Bool) (c : Nat) :
    (accepted s f x code can).forces c = s.forces c := State.forces_congr (accepted_regs s f x code can) c

section
variable {f : Frame} {s : State} {x : Session} (h : Admitted s f x) (hh : Hosted s x) (hd : s.d1 x.comp = true)
include h hh hd

/-! ### Setting -/

omit hh hd in
/-- A force set answers with its entry. -/
theorem forceSet_completes {y : Force} {i : Nat} (hi : i < 128) (hf : y.Fits) (hp : y.point < 8192) (he : ForceEntry s x.comp y i)
    (hb : cmdScanForceSet (requestOf f x 0x0430) (accepted s f x 0x0430 false) = (accepted s f x 0x0430 false).setForce x.comp y) :
    Completes (.cmdScanForceSet f) s fun t => ForceStands s t x.comp i y ∧ Answers s t f x 0x0430 0 (le 1 i ++ le 3 0) := by
  have hregs := accepted_regs s f x 0x0430 false
  have hscan := accepted_scan s f x 0x0430 false
  have hsent := accepted_sent s f x 0x0430 false
  have hsp : Speaks (accepted s f x 0x0430 false) f x := accepted_session h
  refine completes_ok (c := { code := 0x0430 }) (body := cmdScanForceSet) rfl h
    (hb.trans (State.setForce_eq hi (forceEntry_congr hregs he))) ?_ fun ss cn => ⟨?_, ?_⟩
  · exact hsp.congr (State.forceSet_says _ _ _ _).1
  · exact forceStands_congr hregs hscan rfl (State.forceSet_stands hi hf hp)
  · unfold Answers
    rw [← hsent, ← (State.forceSet_says (accepted s f x 0x0430 false) x.comp i y).2]

section
variable {point value : Nat} (hm : s.mode ≠ 9) (hpt : point < 8192) (hv : value < 2 ^ 64)
  (hp : f.payload = le 1 0 ++ le 1 0 ++ le 2 point ++ le 8 0 ++ le 8 0 ++ le 8 value)
include hm hpt hv hp

omit h in
theorem forceSetPoint_judged : let a := accepted s f x 0x0430 false
    let y : Force := { ix := 0, state := 1, kind := 0, dtype := 0, point := point, size := 8, path := 0, name := 0, value := value }
    cmdScanForceSet (requestOf f x 0x0430) a = if s.ownerPt point ≠ x.comp then (a, .no St.noObject) else a.setForce x.comp y := by
  intro a y
  have hlen : f.payload.length = 28 := by simp [hp, le_length]
  have h0 : field f.payload 0 1 = 0 := by simp [hp, field_append_left, le_length]
  have h2 : field f.payload 2 2 = point := by
    simp [hp, field_append_left, field_append_right, le_length]
    omega
  have h4 : field f.payload 4 8 = 0 := by simp [hp, field_append_left, field_append_right, le_length]
  have h12 : field f.payload 12 8 = 0 := by simp [hp, field_append_left, field_append_right, le_length]
  have h20 : field f.payload 20 8 = value := by
    simp [hp, field_append_right, le_length]
    omega
  have hown : a.ownerPt point = s.ownerPt point := accepted_rd _ _ _ _ _ _
  unfold cmdScanForceSet
  rw [scanOpen_open hh (fun _ => hd) (fun _ => hm)]
  dsimp only
  rw [requestOf_payload, requestOf_comp, hlen, h0, h2, h4, h12, h20, hown]
  refine (if_neg (by omega)).trans ((if_pos rfl).trans ?_)
  by_cases ho : s.ownerPt point = x.comp
  · rw [if_neg (by omega), if_neg (not_not.mpr ho)]
  · rw [if_pos (.inr ho), if_pos ho]

theorem forceSetPoint_foreign (ho : s.ownerPt point ≠ x.comp) : Reports' (.cmdScanForceSet f) s f x 0x0430 0x0020 := by
  refine refuses_of (c := { code := 0x0430 }) (body := cmdScanForceSet) rfl h ?_
  exact (forceSetPoint_judged hh hd hm hpt hv hp).trans (if_pos ho)

theorem forceSetPoint_sets {i : Nat} (hi : i < 128) (ho : s.ownerPt point = x.comp) :
    let y : Force := { ix := 0, state := 1, kind := 0, dtype := 0, point := point, size := 8, path := 0, name := 0, value := value }
    ForceEntry s x.comp y i → Completes (.cmdScanForceSet f) s fun t => ForceStands s t x.comp i y ∧
      Answers s t f x 0x0430 0 (le 1 i ++ le 3 0) := by
  intro y he
  refine forceSet_completes h hi ?_ hpt he ((forceSetPoint_judged hh hd hm hpt hv hp).trans (if_neg (not_not.mpr ho)))
  exact ⟨(by decide : 1 < 2 ^ 2), (by decide : 0 < 2 ^ 1), (by decide : 0 < 2 ^ 8), hpt, (by decide : 8 < 2 ^ 4), Nat.two_pow_pos 64, Nat.two_pow_pos 64, hv⟩

end

section
variable {path name value : Nat} (hm : s.mode ≠ 9) (hpath : path < 2 ^ 64) (hname : name < 2 ^ 64) (hv : value < 2 ^ 64)
  (hp : f.payload = le 1 1 ++ le 1 0 ++ le 2 0 ++ le 8 path ++ le 8 name ++ le 8 value)
include hm hpath hname hv hp

omit h in
theorem forceSetSymbol_judged : let a := accepted s f x 0x0430 false
    cmdScanForceSet (requestOf f x 0x0430) a = match (s.prog x.comp).cur.bind fun g => g.image.symbol path name with
      | none => (a, .no St.noObject)
      | some v =>
        if v.dtype = 0 ∨ v.dtype > 0xB then (a, .check 0x0442)
        else if s.retypePending x.comp path name v.dtype v.size then (a, .check 0x0441)
        else a.setForce x.comp { ix := 0, state := 1, kind := 1, dtype := v.dtype, point := 0, size := v.size, path := path, name := name,
                                 value := value % 2 ^ (8 * v.size) } := by
  intro a
  have hlen : f.payload.length = 28 := by simp [hp, le_length]
  have h0 : field f.payload 0 1 = 1 := by
    simp [hp, field_append_left, le_length]
  have h2 : field f.payload 2 2 = 0 := by simp [hp, field_append_left, field_append_right, le_length]
  have h4 : field f.payload 4 8 = path := by
    simp [hp, field_append_left, field_append_right, le_length]
    omega
  have h12 : field f.payload 12 8 = name := by
    simp [hp, field_append_left, field_append_right, le_length]
    omega
  have h20 : field f.payload 20 8 = value := by
    simp [hp, field_append_right, le_length]
    omega
  have hre (p n d z : Nat) : a.retypePending x.comp p n d z = s.retypePending x.comp p n d z := by
    unfold State.retypePending
    rw [accepted_castlings]
  unfold cmdScanForceSet
  rw [scanOpen_open hh (fun _ => hd) (fun _ => hm)]
  dsimp only
  rw [requestOf_payload, requestOf_comp, hlen, h0, h2, h4, h12, h20, accepted_prog]
  refine (if_neg (by omega)).trans ((if_neg (by decide)).trans ?_)
  cases (s.prog x.comp).cur.bind fun g => g.image.symbol path name with
  | none => rfl
  | some v =>
    dsimp only
    rw [hre]

theorem forceSetSymbol_unknown (hn : ((s.prog x.comp).cur.bind fun g => g.image.symbol path name) = none) :
    Reports' (.cmdScanForceSet f) s f x 0x0430 0x0020 := by
  refine refuses_of (c := { code := 0x0430 }) (body := cmdScanForceSet) rfl h ?_
  refine (forceSetSymbol_judged hh hd hm hpath hname hv hp).trans ?_
  rw [hn]
  rfl

variable {g : Prog} {v : ImgVar} (hg : (s.prog x.comp).cur = some g) (hsym : g.image.symbol path name = some v)
include hg hsym

theorem forceSetSymbol_noForm (ht : v.dtype = 0 ∨ 0xB < v.dtype) : Checked (.cmdScanForceSet f) s f x 0x0430 0x0442 := by
  refine refuses_of (c := { code := 0x0430 }) (body := cmdScanForceSet) rfl h ?_
  refine (forceSetSymbol_judged hh hd hm hpath hname hv hp).trans ?_
  rw [hg, Option.bind_some, hsym]
  exact if_pos ht

theorem forceSetSymbol_retyped (h1 : 1 ≤ v.dtype) (hB : v.dtype ≤ 0xB) (hr : s.retypePending x.comp path name v.dtype v.size = true) :
    Checked (.cmdScanForceSet f) s f x 0x0430 0x0441 := by
  refine refuses_of (c := { code := 0x0430 }) (body := cmdScanForceSet) rfl h ?_
  refine (forceSetSymbol_judged hh hd hm hpath hname hv hp).trans ?_
  rw [hg, Option.bind_some, hsym]
  exact (if_neg (by omega)).trans (if_pos hr)

theorem forceSetSymbol_sets {i : Nat} (hi : i < 128) (h8 : v.size ≤ 8) (h1 : 1 ≤ v.dtype) (hB : v.dtype ≤ 0xB)
    (hr : s.retypePending x.comp path name v.dtype v.size = false) :
    let y : Force := { ix := 0, state := 1, kind := 1, dtype := v.dtype, point := 0, size := v.size, path := path, name := name,
                       value := value % 2 ^ (8 * v.size) }
    ForceEntry s x.comp y i → Completes (.cmdScanForceSet f) s fun t => ForceStands s t x.comp i y ∧
      Answers s t f x 0x0430 0 (le 1 i ++ le 3 0) := by
  intro y he
  refine forceSet_completes h hi ?_ (show (0 : Nat) < 8192 by decide) he ((forceSetSymbol_judged hh hd hm hpath hname hv hp).trans ?_)
  · refine ⟨(by decide : 1 < 2 ^ 2), (by decide : 1 < 2 ^ 1), Nat.lt_of_le_of_lt hB (by decide), (by decide : 0 < 2 ^ 13), Nat.lt_of_le_of_lt h8 (by decide), hpath, hname, ?_⟩
    exact Nat.lt_of_le_of_lt (Nat.mod_le _ _) hv
  · rw [hg, Option.bind_some, hsym]
    exact (if_neg (by omega)).trans (if_neg (by rw [hr]; decide))

end

/-! ### Clearing and listing -/

section
variable {i : Nat} (hm : s.mode ≠ 9) (hi : i < 128) (hp : f.payload = le 1 i ++ le 3 0)
include hm hi hp

omit h in
theorem forceClear_judged : let a := accepted s f x 0x0431 false
    let l := if s.rd (Obj.FORCE_STATE.bi x.comp i) = 0 then [] else [s.force x.comp i]
    cmdScanForceClear (requestOf f x 0x0431) a = (a.releaseForces x.comp l, .ok (le 1 l.length)) := by
  intro a l
  have hlen : f.payload.length = 4 := by simp [hp, le_length]
  have h0 : field f.payload 0 1 = i := by
    simp [hp, field_append_left, le_length]
    omega
  have hl : (a.forces x.comp).filter (fun y => i == 0xFF || y.ix == i) = l := by
    rw [accepted_forces, show (fun y : Force => i == 0xFF || y.ix == i) = fun y => y.ix == i from ?_, State.forces_at _ _ hi]
    funext y
    rw [beq_eq_false_iff_ne.mpr (show i ≠ 0xFF by omega), Bool.false_or]
  unfold cmdScanForceClear
  rw [scanOpen_open hh (fun _ => hd) (fun _ => hm)]
  dsimp only
  rw [requestOf_payload, requestOf_comp, hlen, h0, hl]
  exact if_neg (by omega)

theorem forceClear_none (h0 : s.rd (Obj.FORCE_STATE.bi x.comp i) = 0) : Reports (.cmdScanForceClear f) s f x 0x0431 (le 1 0) := by
  refine reports_of (c := { code := 0x0431 }) (body := cmdScanForceClear) rfl h ?_
  refine (forceClear_judged hh hd hm hi hp).trans ?_
  rw [if_pos h0]
  rfl

theorem forceClear_releases (h0 : s.rd (Obj.FORCE_STATE.bi x.comp i) ≠ 0) : let c := x.comp
    let y := s.force c i
    y.point < 8192 → Completes (.cmdScanForceClear f) s fun t => t.rd (Obj.FORCE_STATE.bi c i) = 0 ∧
      t.rd (Obj.EXCH_EVT_FORCE_RELEASED.b c) = 1 ∧ Logged s t c 0x0407 y.detail ∧ Answers s t f x 0x0431 0 (le 1 1) ∧
      (y.kind = 0 → y.state = 1 → t.rd (Obj.PIMG_ATTR_FORCED.i y.point) = 0 ∧
        (s.source y.point = 1 → s.scan.hold = none → t.pt y.point = s.ownValue c y.point % 2 ^ 64)) ∧
      ∀ j, j < 128 → j ≠ i → t.force c j = s.force c j := by
  intro c y hy
  have hb := forceClear_judged hh hd hm hi hp
  rw [if_neg h0] at hb
  have hsp : Speaks (accepted s f x 0x0431 false) f x := accepted_session h
  have hregs := accepted_regs s f x 0x0431 false
  have hscan := accepted_scan s f x 0x0431 false
  have hsent := accepted_sent s f x 0x0431 false
  have hevr := accepted_evr s f x 0x0431 false
  dsimp only at hb
  generalize ha : accepted s f x 0x0431 false = a at hb hsp hregs hscan hsent hevr
  have hr := a.releaseForce_released c hy hi
  have hlog : Logged s (a.releaseForce c y) c 0x0407 y.detail := by
    have hl := hr.logged
    unfold Logged at hl ⊢
    rwa [hevr, show a.failed 10 = s.failed 10 from by unfold State.failed; rw [State.rd_congr hregs],
      show a.exists? c = s.exists? c from by unfold State.exists?; rw [State.rd_congr hregs]] at hl
  have hown : a.ownValue c y.point = s.ownValue c y.point := by
    unfold State.ownValue State.prog State.pt
    rw [hscan, State.rd_congr hregs]
  refine completes_ok (c := { code := 0x0431 }) (body := cmdScanForceClear) (t := a.releaseForce c y) (p := le 1 1) rfl h ?_ (hsp.congr hr.sessions)
    fun ss cn => ⟨hr.state, hr.flag, hlog, ?_, fun hk hs => ?_, fun j hj hne => ?_⟩
  · subst ha
    exact hb
  · unfold Answers
    rw [← hsent, ← hr.sent]
  · obtain ⟨h1, h2⟩ := hr.point hk hs
    rw [hown, show a.source y.point = s.source y.point from State.rd_congr hregs _, hscan] at h2
    exact ⟨h1, h2⟩
  · exact (hr.other j hj hne).trans (State.force_congr fun r _ => State.rd_congr hregs _)

end

theorem forceList_lists (hp : f.payload = []) : Reports (.cmdScanForceList f) s f x 0x0432
    (le 1 (s.forces x.comp).length ++ (s.forces x.comp).flatMap Force.bytes) := by
  refine reports_of (c := { code := 0x0432, cancellable := true, rereads := true }) (body := cmdScanForceList) rfl h ?_
  unfold cmdScanForceList
  rw [scanOpen_open hh (fun _ => hd) (fun h => absurd h Bool.false_ne_true) 0x0432 true]
  dsimp only
  rw [requestOf_payload, requestOf_comp, accepted_forces]
  exact if_neg (not_not.mpr hp)

end

/-- Settles O36. An entry and a point lie apart, so that what is written to one is found beside the other. -/
theorem forceCommands : Obligations.ForceCommands := by
  unfold Obligations.ForceCommands
  intro f s x h hc h5 h9 hd c
  have hh : Hosted s x := ⟨hc, h5, h9⟩
  refine ⟨fun hm point value i hpt hv hi hp => ⟨forceSetPoint_foreign h hh hd hm hpt hv hp, forceSetPoint_sets h hh hd hm hpt hv hp hi⟩,
    fun hm path name value i hpath hname hv hi hp => ⟨forceSetSymbol_unknown h hh hd hm hpath hname hv hp, fun g v hg hs h8 => ⟨?_, ?_, ?_⟩⟩,
    fun hm i hi hp => ⟨forceClear_none h hh hd hm hi hp, forceClear_releases h hh hd hm hi hp⟩, forceList_lists h hh hd⟩
  · exact forceSetSymbol_noForm h hh hd hm hpath hname hv hp hg hs
  · exact forceSetSymbol_retyped h hh hd hm hpath hname hv hp hg hs
  · exact forceSetSymbol_sets h hh hd hm hpath hname hv hp hg hs hi h8

end Sys2Proof.Proofs
end

section
/-!
SUPPORT. A staging and what its registers show (spec/04 R97 to R100, spec/06 R171, R172).
-/
namespace Sys2Proof.Machine
open Sys2Proof.Claims

/-! ### The staging itself -/

theorem State.staging_putStaging (s : State) (c : Nat) (g : Staging) : (s.putStaging c g).staging c = g := Tab.get_put_self _ _ _ _

theorem State.putStaging_eq (s : State) (c : Nat) (g : Staging) :
    s.putStaging c g = { s with stagings := s.stagings.put c g, regs := (s.putStaging c g).regs } := rfl

theorem State.stagingFits_congr (s : State) (c : Nat) {g h : Staging} (hb : g.bytes = h.bytes) : s.stagingFits c g = s.stagingFits c h := by
  unfold State.stagingFits
  rw [hb]

/-! ### The fields of a staged image -/

theorem stgHash_key (c i : Nat) : (Obj.SCE_IMG_STG_HASH.bi c i).key = c * 2 ^ 40 + (9963520 + 32 * i) := by
  simp [Row.bi, Row.at, Fld.key, Obj.SCE_IMG_STG_HASH]
  omega

theorem stgWord_key (c : Nat) : (Obj.SCE_IMG_STG_SIZE.b c).key = c * 2 ^ 40 + 9963904 ∧ (Obj.SCE_IMG_STG_MISSING.b c).key = c * 2 ^ 40 + 9963936 ∧
    (Obj.SCE_IMG_STG_STATE.b c).key = c * 2 ^ 40 + 9963968 ∧ (Obj.SCE_IMG_STG_DETAIL.b c).key = c * 2 ^ 40 + 9964000 := by
  refine ⟨?_, ?_, ?_, ?_⟩
  · exact (Row.b_zero _ rfl c).trans rfl
  · exact (Row.b_zero _ rfl c).trans rfl
  · exact (Row.b_zero _ rfl c).trans rfl
  · exact (Row.b_zero _ rfl c).trans rfl

/-- The twelve words of a hash written. -/
def State.putHash (s : State) (c : Nat) (v : Nat → Nat) : State :=
  (List.range 12).foldl (fun t i => t.wr (Obj.SCE_IMG_STG_HASH.bi c i) (v i)) s

theorem foldl_wr_eq (l : List Nat) (g : Nat → Fld) (v : Nat → Nat) (s : State) :
    l.foldl (fun t i => t.wr (g i) (v i)) s = { s with regs := (l.foldl (fun t i => t.wr (g i) (v i)) s).regs } := by
  induction l generalizing s with
  | nil => rfl
  | cons i l ih =>
    rw [List.foldl_cons, ih]
    rfl

theorem rd_foldl_wr_ne (l : List Nat) (g : Nat → Fld) (v : Nat → Nat) (s : State) {k : Fld} (h : ∀ i ∈ l, (g i).key ≠ k.key) :
    (l.foldl (fun t i => t.wr (g i) (v i)) s).rd k = s.rd k := by
  induction l generalizing s with
  | nil => rfl
  | cons i l ih =>
    rw [List.foldl_cons, ih _ fun j hj => h j (List.mem_cons_of_mem i hj)]
    exact State.rd_wr_ne _ _ _ _ (h i List.mem_cons_self)

theorem State.putHash_first (s : State) (c : Nat) (v : Nat → Nat) : (s.putHash c v).rd (Obj.SCE_IMG_STG_HASH.bi c 0) = v 0 % 2 ^ 32 := by
  unfold State.putHash
  rw [show List.range 12 = 0 :: [1, 2, 3, 4, 5, 6, 7, 8, 9, 10, 11] from rfl, List.foldl_cons, rd_foldl_wr_ne]
  · exact State.rd_wr_self _ _ _
  · intro i hi
    have h0 : i ≠ 0 := by
      rintro rfl
      exact absurd hi (by decide)
    rw [stgHash_key, stgHash_key]
    omega

/-- Stored fields written, and nothing that is staged, said or waited for. -/
structure OnlyFields (s t : State) : Prop where
  stagings : t.stagings = s.stagings
  sessions : t.sessions = s.sessions
  sent : t.sent = s.sent
  waiters : t.waiters = s.waiters

theorem OnlyFields.wrs {s t : State} (h : OnlyFields s t) (l : List (Fld × Nat)) : OnlyFields s (t.wrs l) := by
  rw [State.wrs_eq]
  exact ⟨h.stagings, h.sessions, h.sent, h.waiters⟩

theorem State.putHash_only (s : State) (c : Nat) (v : Nat → Nat) : OnlyFields s (s.putHash c v) := by
  unfold State.putHash
  rw [foldl_wr_eq]
  exact ⟨rfl, rfl, rfl, rfl⟩

theorem State.showImage_eq (s : State) (c : Nat) (d : ImageData) (state detail : Nat) (hash : Bytes) :
    s.showImage c d state detail hash = (s.putHash c fun i => field hash (4 * i) 4).wrs
      [(Obj.SCE_IMG_STG_SIZE.b c, d.size), (Obj.SCE_IMG_STG_MISSING.b c, d.missing), (Obj.SCE_IMG_STG_STATE.b c, state),
       (Obj.SCE_IMG_STG_DETAIL.b c, detail)] := rfl

theorem State.clearImageFields_eq (s : State) (c : Nat) : s.clearImageFields c = (s.putHash c fun _ => 0).wrs
    [(Obj.SCE_IMG_STG_SIZE.b c, 0), (Obj.SCE_IMG_STG_MISSING.b c, 0), (Obj.SCE_IMG_STG_STATE.b c, 0)] := rfl

/-- The registers of a staged image as `showImage` and `clearImageFields` leave them. -/
theorem State.showImage_shows (s : State) (c : Nat) (d : ImageData) (state detail : Nat) (hash : Bytes) :
    let t := s.showImage c d state detail hash
    OnlyFields s t ∧ t.rd (Obj.SCE_IMG_STG_SIZE.b c) = d.size % 2 ^ 32 ∧ t.rd (Obj.SCE_IMG_STG_STATE.b c) = state % 2 ^ 3 ∧
    t.rd (Obj.SCE_IMG_STG_DETAIL.b c) = detail % 2 ^ 16 ∧ t.rd (Obj.SCE_IMG_STG_HASH.bi c 0) = field hash 0 4 % 2 ^ 32 := by
  dsimp only
  rw [State.showImage_eq]
  have hh := s.putHash_first c fun i => field hash (4 * i) 4
  have ho := s.putHash_only c fun i => field hash (4 * i) 4
  generalize s.putHash c (fun i => field hash (4 * i) 4) = u at hh ho
  obtain ⟨h1, h2, h3, h4⟩ := stgWord_key c
  have hnodup : ([(Obj.SCE_IMG_STG_SIZE.b c, d.size), (Obj.SCE_IMG_STG_MISSING.b c, d.missing), (Obj.SCE_IMG_STG_STATE.b c, state),
      (Obj.SCE_IMG_STG_DETAIL.b c, detail)].map fun p => p.1.key).Nodup := by
    simp only [List.map_cons, List.map_nil, h1, h2, h3, h4, List.nodup_cons, List.mem_cons, List.not_mem_nil, or_false, not_or, not_false_eq_true,
      List.nodup_nil, and_true]
    omega
  refine ⟨ho.wrs _, State.rd_wrs_mem (v := d.size) hnodup (by simp), State.rd_wrs_mem (v := state) hnodup (by simp),
    State.rd_wrs_mem (v := detail) hnodup (by simp), (State.rd_wrs_ne ?_).trans hh⟩
  intro p hp
  simp only [List.mem_cons, List.not_mem_nil, or_false] at hp
  rw [stgHash_key]
  obtain rfl | rfl | rfl | rfl := hp
  all_goals dsimp only
  · omega
  · omega
  · omega
  · omega

theorem State.clearImage_shows (s : State) (c : Nat) : let t := s.clearImageFields c
    OnlyFields s t ∧ t.rd (Obj.SCE_IMG_STG_SIZE.b c) = 0 ∧ t.rd (Obj.SCE_IMG_STG_STATE.b c) = 0 := by
  dsimp only
  rw [State.clearImageFields_eq]
  have ho := s.putHash_only c fun _ => 0
  generalize s.putHash c (fun _ => 0) = u at ho
  obtain ⟨h1, h2, h3, -⟩ := stgWord_key c
  have hnodup : ([(Obj.SCE_IMG_STG_SIZE.b c, 0), (Obj.SCE_IMG_STG_MISSING.b c, 0), (Obj.SCE_IMG_STG_STATE.b c, 0)].map
      fun p => p.1.key).Nodup := by
    simp only [List.map_cons, List.map_nil, h1, h2, h3, List.nodup_cons, List.mem_cons, List.not_mem_nil, or_false, not_or, not_false_eq_true,
      List.nodup_nil, and_true]
    omega
  exact ⟨ho.wrs _, State.rd_wrs_mem (f := Obj.SCE_IMG_STG_SIZE.b c) (v := 0) hnodup (by simp),
    State.rd_wrs_mem (f := Obj.SCE_IMG_STG_STATE.b c) (v := 0) hnodup (by simp)⟩

/-- A staging without its image and the defaults staged from it. -/
def Staging.withoutImage (g : Staging) : Staging :=
  let cells := g.cells.filter fun p => ! g.defaults.contains p.1.key
  { g with image := none, cells := cells, defaults := [], state := if cells.isEmpty then 0 else 1 }

/-- A staging whose image has failed a check. -/
def Staging.refusedWith (g : Staging) (d : ImageData) : Staging := { g with image := some { d with verified := false } }

/-- A staging whose image has been verified, with the defaults of its task table. -/
def Staging.verifiedWith (g : Staging) (c : Nat) (d : ImageData) : Staging :=
  let l := (Raw.of d.bytes).image.taskDefaults c
  { g with state := 1, image := some { d with verified := true }, cells := l.foldl (fun k p => stagePut k p.1 p.2) g.cells,
           defaults := l.map (·.1.key) }

/-- Image bytes written at their offset. -/
def ImageData.patch (d : ImageData) (size off : Nat) (data : Bytes) : ImageData :=
  { size := size, data := memWrite d.data off data, written := coverIns d.written off (off + data.length) }

/-- What a write of image bytes leaves of the staging and its registers. -/
structure ImageWritten (a t : State) (c off n : Nat) (data : Bytes) (d : ImageData) : Prop where
  image : (t.staging c).image = some d
  state : (t.staging c).state = 1
  cells : (t.staging c).cells = (a.staging c).cells
  size : d.size = n
  verified : d.verified = false
  bytes : ∀ i, memGet d.data i = if off ≤ i ∧ i < off + data.length then data.getD (i - off) 0
    else memGet ((a.staging c).image.getD { size := n }).data i
  sizeShown : t.rd (Obj.SCE_IMG_STG_SIZE.b c) = n
  stateShown : t.rd (Obj.SCE_IMG_STG_STATE.b c) = if d.missing = 0 then 2 else 1
  sessions : t.sessions = a.sessions
  sent : t.sent = a.sent

theorem State.imageWrite_written {a : State} {c off size : Nat} {data : Bytes} (hsize : size < 2 ^ 32)
    (hn : 64 ≤ size ∧ size ≤ 12582912 ∧ ((a.staging c).image.getD { size := size }).size = size ∧ off + data.length ≤ size)
    (hfit : a.stagingFits c { a.staging c with state := 1, image := some { size := size } } = true) :
    ∃ t d, a.imageWrite c off size data = (t, St.ok, d.missing) ∧ ImageWritten a t c off size data d := by
  obtain ⟨hn1, hn2, hn3, hn4⟩ := hn
  unfold State.imageWrite
  dsimp only
  rw [if_neg (by omega)]
  generalize hd : ((a.staging c).image.getD { size := size }).patch size off data = d
  unfold ImageData.patch at hd
  rw [hd]
  have hds : d.size = size := by rw [← hd]
  have hdv : d.verified = false := by rw [← hd]
  have hdm : ∀ i, memGet d.data i = if off ≤ i ∧ i < off + data.length then data.getD (i - off) 0
      else memGet ((a.staging c).image.getD { size := size }).data i := by
    rw [← hd]
    exact fun i => memGet_write _ _ _ _
  rw [State.stagingFits_congr a c (h := { a.staging c with state := 1, image := some { size := size } }) (by simp [Staging.bytes, hds]), hfit,
    if_neg (by decide)]
  obtain ⟨heq, h1, h2, -⟩ := State.showImage_shows (a.putStaging c { a.staging c with state := 1, image := some d }) c d
    (if d.missing = 0 then 2 else 1) (a.rd (Obj.SCE_IMG_STG_DETAIL.b c)) []
  have hst : (a.putStaging c { a.staging c with state := 1, image := some d }).staging c = { a.staging c with state := 1, image := some d } :=
    State.staging_putStaging a c _
  have hsaid : (a.putStaging c { a.staging c with state := 1, image := some d }).sessions = a.sessions ∧
    (a.putStaging c { a.staging c with state := 1, image := some d }).sent = a.sent := ⟨rfl, rfl⟩
  generalize a.putStaging c { a.staging c with state := 1, image := some d } = u at heq h1 h2 hst hsaid
  generalize u.showImage c d (if d.missing = 0 then 2 else 1) (a.rd (Obj.SCE_IMG_STG_DETAIL.b c)) [] = t at heq h1 h2
  have hs : t.staging c = { a.staging c with state := 1, image := some d } := by
    rw [← hst]
    unfold State.staging
    rw [heq.stagings]
  refine ⟨t, d, rfl, by rw [hs], by rw [hs], by rw [hs], hds, hdv, hdm, ?_, ?_, heq.sessions.trans hsaid.1, heq.sent.trans hsaid.2⟩
  · rw [h1, hds]
    exact Nat.mod_eq_of_lt hsize
  · refine h2.trans (Nat.mod_eq_of_lt ?_)
    split
    · decide
    · decide

end Sys2Proof.Machine

namespace Sys2Proof.Proofs
open Sys2Proof.Machine Sys2Proof.Claims

theorem accepted_stagings (s : State) (f : Frame) (x : Session) (code : Nat) (can : Bool) :
    (accepted s f x code can).stagings = s.stagings := by
  obtain ⟨ss, cn, h⟩ := accepted_eq s f x code can
  rw [h]
  rfl

theorem accepted_staging (s : State) (f : Frame) (x : Session) (code : Nat) (can : Bool) (c : Nat) :
    (accepted s f x code can).staging c = s.staging c := by
  unfold State.staging
  rw [accepted_stagings]

theorem accepted_stagingFits (s : State) (f : Frame) (x : Session) (code : Nat) (can : Bool) (c : Nat) (g : Staging) :
    (accepted s f x code can).stagingFits c g = s.stagingFits c g := by
  unfold State.stagingFits State.stagedTotal
  rw [accepted_staging, accepted_stagings]

theorem accepted_loaderCheck (s : State) (f : Frame) (x : Session) (code : Nat) (can : Bool) (c : Nat) (d : ImageData) :
    (accepted s f x code can).loaderCheck c d = s.loaderCheck c d := by
  obtain ⟨ss, cn, h⟩ := accepted_eq s f x code can
  have hu : (accepted s f x code can).ucode = s.ucode := by
    rw [h]
    unfold State.ucode State.arrived
    dsimp only
    split
    · rfl
    · rfl
  unfold State.loaderCheck
  rw [hu]

section
variable {f : Frame} {s : State} {x : Session} (h : Admitted s f x) (hh : Hosted s x)
include h hh

/-! ### Writing -/

section
variable {off size : Nat} {data : Bytes} (hf : s.failed 14 = false) (hoff : off < 2 ^ 32) (hsize : size < 2 ^ 32) (h0 : 0 < data.length)
  (hlen : data.length ≤ 16352) (hp : f.payload = le 4 off ++ le 4 size ++ data)
include hf hoff hsize h0 hlen hp

omit h in
theorem imageWrite_judged : let a := accepted s f x 0x0410 false
    cmdScanImageWrite (requestOf f x 0x0410) a =
      if (s.staging x.comp).state = 2 then a.holdWrite (requestOf f x 0x0410) (.image off size data)
      else match a.imageWrite x.comp off size data with
        | (s1, st, missing) => if st = St.ok then (s1, .ok (le 4 missing)) else (s1, .no st) := by
  intro a
  have hl : f.payload.length = 8 + data.length := by
    simp [hp, le_length]
    omega
  have h1 : field f.payload 0 4 = off := by
    simp [hp, field_append_left, le_length]
    omega
  have h2 : field f.payload 4 4 = size := by
    simp [hp, field_append_left, field_append_right, le_length]
    omega
  have h3 : f.payload.drop 8 = data := by
    rw [hp]
    exact List.drop_left' (by simp [le_length])
  unfold cmdScanImageWrite
  dsimp only
  rw [permitted_all hh, requestOf_payload, requestOf_comp, hl, h1, h2, h3, accepted_failed, hf, accepted_staging]
  exact (if_neg (by decide)).trans ((if_neg (by omega)).trans (if_neg (by decide)))

/-- A write held while the staging is checked. -/
theorem imageWrite_held (hg : (s.staging x.comp).state = 2) : Completes (.cmdScanImageWrite f) s fun t => t.sent = s.sent ∧ t.regs = s.regs ∧
    t.staging x.comp = { s.staging x.comp with held := (s.staging x.comp).held ++ [⟨x.id, f.seq.toNat, .image off size data⟩] } := by
  refine completes_later (c := { code := 0x0410 }) (body := cmdScanImageWrite) rfl h
    ((imageWrite_judged hh hf hoff hsize h0 hlen hp).trans (if_pos hg)) ⟨accepted_sent s f x 0x0410 false, accepted_regs s f x 0x0410 false, ?_⟩
  refine (Tab.get_put_self _ _ _ _).trans ?_
  rw [requestOf_comp, accepted_staging]
  rfl

theorem imageWrite_unfit (hg : (s.staging x.comp).state ≠ 2)
    (hn : ¬ (64 ≤ size ∧ size ≤ 12582912 ∧ ((s.staging x.comp).image.getD { size := size }).size = size ∧ off + data.length ≤ size)) :
    Reports' (.cmdScanImageWrite f) s f x 0x0410 0x0022 := by
  refine refuses_of (c := { code := 0x0410 }) (body := cmdScanImageWrite) rfl h
    ((imageWrite_judged hh hf hoff hsize h0 hlen hp).trans ((if_neg hg).trans ?_))
  have hw : (accepted s f x 0x0410 false).imageWrite x.comp off size data = (accepted s f x 0x0410 false, St.badValue, 0) := by
    unfold State.imageWrite
    dsimp only
    rw [accepted_staging]
    exact if_pos (by omega)
  rw [hw]
  rfl

theorem imageWrite_writes (hg : (s.staging x.comp).state ≠ 2)
    (hn : 64 ≤ size ∧ size ≤ 12582912 ∧ ((s.staging x.comp).image.getD { size := size }).size = size ∧ off + data.length ≤ size)
    (hfit : s.stagingFits x.comp { s.staging x.comp with state := 1, image := some { size := size } } = true) : let c := x.comp
    let g := s.staging c
    let old := g.image.getD { size := size }
    Completes (.cmdScanImageWrite f) s fun t => ∃ d : ImageData, (t.staging c).image = some d ∧ (t.staging c).state = 1 ∧
      (t.staging c).cells = g.cells ∧ d.size = size ∧ d.verified = false ∧
      (∀ i, memGet d.data i = if off ≤ i ∧ i < off + data.length then data.getD (i - off) 0 else memGet old.data i) ∧
      t.rd (Obj.SCE_IMG_STG_SIZE.b c) = size ∧ t.rd (Obj.SCE_IMG_STG_STATE.b c) = (if d.missing = 0 then 2 else 1) ∧
      Answers s t f x 0x0410 0 (le 4 d.missing) := by
  intro c g old
  obtain ⟨t, d, hw, w⟩ := State.imageWrite_written (a := accepted s f x 0x0410 false) (c := c) (off := off) (data := data) hsize
    (by rw [accepted_staging]; exact hn) (by rw [accepted_staging, accepted_stagingFits]; exact hfit)
  have hb := (imageWrite_judged hh hf hoff hsize h0 hlen hp).trans (if_neg hg)
  rw [hw] at hb
  have hold := accepted_staging s f x 0x0410 false c
  refine completes_ok (c := { code := 0x0410 }) (body := cmdScanImageWrite) rfl h hb ((accepted_session h).congr w.sessions) fun ss cn =>
    ⟨d, w.image, w.state, ?_, w.size, w.verified, ?_, w.sizeShown, w.stateShown, ?_⟩
  · exact w.cells.trans (by rw [hold])
  · have hm := w.bytes
    rw [hold] at hm
    exact hm
  · unfold Answers
    rw [← accepted_sent s f x 0x0410 false, ← w.sent]

end

/-! ### Dropping -/

omit h in
theorem imageDrop_judged (hf : s.failed 14 = false) (hp : f.payload = []) : let a := accepted s f x 0x0412 false
    cmdScanImageDrop (requestOf f x 0x0412) a =
      if (s.staging x.comp).state = 2 then a.holdWrite (requestOf f x 0x0412) .drop else (a.imageDrop x.comp, .ok []) := by
  intro a
  unfold cmdScanImageDrop
  rw [permitted_all hh, requestOf_payload, requestOf_comp, accepted_failed, hf, accepted_staging]
  exact (if_neg (by decide)).trans ((if_neg (not_not.mpr hp)).trans (if_neg (by decide)))

theorem imageDrop_held (hf : s.failed 14 = false) (hp : f.payload = []) (hg : (s.staging x.comp).state = 2) :
    Completes (.cmdScanImageDrop f) s fun t => t.sent = s.sent ∧ t.regs = s.regs ∧
      t.staging x.comp = { s.staging x.comp with held := (s.staging x.comp).held ++ [⟨x.id, f.seq.toNat, .drop⟩] } := by
  refine completes_later (c := { code := 0x0412 }) (body := cmdScanImageDrop) rfl h
    ((imageDrop_judged hh hf hp).trans (if_pos hg)) ⟨accepted_sent s f x 0x0412 false, accepted_regs s f x 0x0412 false, ?_⟩
  refine (Tab.get_put_self _ _ _ _).trans ?_
  rw [requestOf_comp, accepted_staging]
  rfl

theorem imageDrop_none (hf : s.failed 14 = false) (hp : f.payload = []) (hg : (s.staging x.comp).state ≠ 2)
    (hi : (s.staging x.comp).image = none) : Reports (.cmdScanImageDrop f) s f x 0x0412 [] := by
  refine reports_of (c := { code := 0x0412 }) (body := cmdScanImageDrop) rfl h ((imageDrop_judged hh hf hp).trans ((if_neg hg).trans ?_))
  unfold State.imageDrop
  dsimp only
  rw [accepted_staging, hi]
  rfl

omit h hh in
/-- A staged image dropped, with the defaults staged from it. -/
theorem imageDrop_dropped {a : State} {c : Nat} (hi : (a.staging c).image ≠ none) : let t := a.imageDrop c
    (t.staging c).image = none ∧ (t.staging c).cells = (a.staging c).cells.filter (fun p => ! (a.staging c).defaults.contains p.1.key) ∧
    t.rd (Obj.SCE_IMG_STG_STATE.b c) = 0 ∧ t.rd (Obj.SCE_IMG_STG_SIZE.b c) = 0 ∧ t.sessions = a.sessions ∧ t.sent = a.sent := by
  unfold State.imageDrop
  dsimp only
  rw [if_neg (by simpa using hi)]
  generalize hg1 : (a.staging c).withoutImage = g1
  unfold Staging.withoutImage at hg1
  dsimp only at hg1
  rw [hg1]
  have himg : g1.image = none := by rw [← hg1]
  have hcells : g1.cells = (a.staging c).cells.filter fun p => ! (a.staging c).defaults.contains p.1.key := by rw [← hg1]
  have hst := State.staging_putStaging a c g1
  have hsaid : (a.putStaging c g1).sessions = a.sessions ∧ (a.putStaging c g1).sent = a.sent := ⟨rfl, rfl⟩
  generalize a.putStaging c g1 = u at hst hsaid
  obtain ⟨ho, h1, h2⟩ := u.clearImage_shows c
  generalize u.clearImageFields c = t at ho h1 h2
  have hs : t.staging c = g1 := by
    rw [← hst]
    unfold State.staging
    rw [ho.stagings]
  rw [hs]
  exact ⟨himg, hcells, h2, h1, ho.sessions.trans hsaid.1, ho.sent.trans hsaid.2⟩

theorem imageDrop_drops (hf : s.failed 14 = false) (hp : f.payload = []) (hg : (s.staging x.comp).state ≠ 2)
    (hi : (s.staging x.comp).image ≠ none) : let c := x.comp
    let g := s.staging c
    Completes (.cmdScanImageDrop f) s fun t => (t.staging c).image = none ∧
      (t.staging c).cells = g.cells.filter (fun p => ! g.defaults.contains p.1.key) ∧ t.rd (Obj.SCE_IMG_STG_STATE.b c) = 0 ∧
      t.rd (Obj.SCE_IMG_STG_SIZE.b c) = 0 ∧ Answers s t f x 0x0412 0 [] := by
  intro c g
  obtain ⟨h1, h2, h3, h4, h5, h6⟩ := imageDrop_dropped (a := accepted s f x 0x0412 false) (c := c) (by rw [accepted_staging]; exact hi)
  rw [accepted_staging] at h2
  refine completes_ok (c := { code := 0x0412 }) (body := cmdScanImageDrop) rfl h ((imageDrop_judged hh hf hp).trans (if_neg hg))
    ((accepted_session h).congr h5) fun ss cn => ⟨h1, h2, h3, h4, ?_⟩
  unfold Answers
  rw [← accepted_sent s f x 0x0412 false, ← h6]

/-! ### Answers after PENDING -/

omit hh in
theorem saysAfterPending_fail {i : Instr} {c : CmdSpec} {pre : PreBody} {body : Req → State → State × Reply} {st : Nat} {p : Bytes}
    (he : exec i s = .next (s.serve c f pre body))
    (hb : body (requestOf f x c.code) (accepted s f x c.code c.cancellable) =
      ((accepted s f x c.code c.cancellable).sayPending (requestOf f x c.code), .fail st p)) :
    SaysAfterPending i s f x c.code st p := by
  have hr : (accepted s f x c.code c.cancellable).sayPending (requestOf f x c.code) =
      (accepted s f x c.code c.cancellable).respond f.conn x.comp f.seq.toNat c.code St.pending [] := rfl
  rw [hr] at hb
  refine completes_fail he h hb ((accepted_session h).congr (State.respond_sessions _ _ _ _ _ _ _)) fun ss cn => ⟨?_, ?_⟩
  · exact (untouched_accepted s f x c.code c.cancellable).respond
  · show State.sent _ ++ _ = _
    rw [State.respond_sent, accepted_sent, List.append_assoc]
    rfl

omit hh in
theorem saysAfterPending_ok {i : Instr} {c : CmdSpec} {pre : PreBody} {body : Req → State → State × Reply} {p : Bytes}
    (he : exec i s = .next (s.serve c f pre body))
    (hb : body (requestOf f x c.code) (accepted s f x c.code c.cancellable) =
      ((accepted s f x c.code c.cancellable).sayPending (requestOf f x c.code), .ok p)) :
    SaysAfterPending i s f x c.code 0 p := by
  have hr : (accepted s f x c.code c.cancellable).sayPending (requestOf f x c.code) =
      (accepted s f x c.code c.cancellable).respond f.conn x.comp f.seq.toNat c.code St.pending [] := rfl
  rw [hr] at hb
  refine completes_ok he h hb ((accepted_session h).congr (State.respond_sessions _ _ _ _ _ _ _)) fun ss cn => ⟨?_, ?_⟩
  · exact (untouched_accepted s f x c.code c.cancellable).respond
  · show State.sent _ ++ _ = _
    rw [State.respond_sent, accepted_sent, List.append_assoc]
    rfl

/-! ### Verifying -/

section
variable (hp : f.payload = [])
include hp

omit h in
theorem imageVerify_judged : let a := accepted s f x 0x0411 false
    let c := x.comp
    let g := s.staging c
    let s0 := a.sayPending (requestOf f x 0x0411)
    cmdScanImageVerify (requestOf f x 0x0411) a = match g.image with
      | none => (s0, .check 0x0430 0xFFFF stgBase)
      | some d =>
        if d.missing ≠ 0 then (s0, .check 0x0430 0xFFFF stgBase)
        else match s.loaderCheck c d with
          | some (code, ix) =>
            (((s0.putStaging c (g.refusedWith d)).showImage c d 4 code []), .check code ix stgBase)
          | none =>
            let im := (Raw.of d.bytes).image
            if ! s.stagingFits c (g.verifiedWith c d) then (s0, .no St.noSpace)
            else ((s0.putStaging c (g.verifiedWith c d)).showImage c d 3 (s.rd (Obj.SCE_IMG_STG_DETAIL.b c)) im.hash,
              .ok (im.hash ++ le 4 (im.codeBytes 0) ++ le 4 (im.codeBytes 1) ++ le 2 im.insts.length ++ le 2 0)) := by
  intro a c g s0
  unfold cmdScanImageVerify
  dsimp only
  rw [permitted_all hh, requestOf_payload, requestOf_comp, accepted_staging s f x 0x0411 false]
  refine (if_neg (by decide)).trans ((if_neg (not_not.mpr hp)).trans ?_)
  show (match g.image with
    | none => _
    | some d => _) = _
  cases g.image with
  | none => rfl
  | some d =>
    dsimp only
    rw [accepted_loaderCheck, accepted_rd, accepted_stagingFits]
    rfl

theorem imageVerify_none (hi : (s.staging x.comp).image = none) :
    SaysAfterPending (.cmdScanImageVerify f) s f x 0x0411 0x0041 (detailRecord 0x0430 0xFFFF 0x130100) := by
  refine saysAfterPending_fail h (c := { code := 0x0411 }) (body := cmdScanImageVerify) rfl ((imageVerify_judged hh hp).trans ?_)
  rw [hi]
  rfl

theorem imageVerify_missing {d : ImageData} (hi : (s.staging x.comp).image = some d) (hd : d.missing ≠ 0) :
    SaysAfterPending (.cmdScanImageVerify f) s f x 0x0411 0x0041 (detailRecord 0x0430 0xFFFF 0x130100) := by
  refine saysAfterPending_fail h (c := { code := 0x0411 }) (body := cmdScanImageVerify) rfl ((imageVerify_judged hh hp).trans ?_)
  rw [hi]
  exact if_pos hd

omit h hh hp in
/-- What a verified image shows. -/
theorem imageVerify_shows (a : State) (q : Req) (c : Nat) (g : Staging) (d : ImageData) (state detail : Nat) (hash : Bytes) :
    let t := ((a.sayPending q).putStaging c g).showImage c d state detail hash
    t.staging c = g ∧ t.rd (Obj.SCE_IMG_STG_STATE.b c) = state % 2 ^ 3 ∧ t.rd (Obj.SCE_IMG_STG_DETAIL.b c) = detail % 2 ^ 16 ∧
    t.rd (Obj.SCE_IMG_STG_HASH.bi c 0) = field hash 0 4 % 2 ^ 32 ∧ t.sessions = a.sessions ∧
    t.sent = a.sent ++ [.resp q.conn q.comp q.seq q.code 1 []] := by
  have hst := State.staging_putStaging (a.sayPending q) c g
  have hses : ((a.sayPending q).putStaging c g).sessions = a.sessions := State.respond_sessions _ _ _ _ _ _ _
  have hsent : ((a.sayPending q).putStaging c g).sent = a.sent ++ [.resp q.conn q.comp q.seq q.code 1 []] := State.respond_sent _ _ _ _ _ _ _
  generalize (a.sayPending q).putStaging c g = u at hst hses hsent
  obtain ⟨ho, -, h2, h3, h4⟩ := u.showImage_shows c d state detail hash
  refine ⟨?_, h2, h3, h4, ho.sessions.trans hses, ho.sent.trans hsent⟩
  rw [← hst]
  unfold State.staging
  rw [ho.stagings]

omit h in
theorem imageVerify_refused {d : ImageData} {code ix : Nat} (hi : (s.staging x.comp).image = some d) (hd : d.missing = 0)
    (hl : s.loaderCheck x.comp d = some (code, ix)) : ∃ t : State,
      cmdScanImageVerify (requestOf f x 0x0411) (accepted s f x 0x0411 false) = (t, .fail 0x0041 (detailRecord code ix 0x130100)) ∧
      t.staging x.comp = (s.staging x.comp).refusedWith d ∧ t.rd (Obj.SCE_IMG_STG_STATE.b x.comp) = 4 ∧
      t.rd (Obj.SCE_IMG_STG_DETAIL.b x.comp) = code % 2 ^ 16 ∧ t.sessions = (accepted s f x 0x0411 false).sessions ∧
      t.sent = s.sent ++ [.resp f.conn x.comp f.seq.toNat 0x0411 1 []] := by
  obtain ⟨k1, k2, k3, -, k5, k6⟩ := imageVerify_shows (accepted s f x 0x0411 false) (requestOf f x 0x0411) x.comp
    ((s.staging x.comp).refusedWith d) d 4 code []
  refine ⟨_, (imageVerify_judged (s := s) (x := x) hh hp).trans ?_, k1, k2, k3, k5, k6.trans ?_⟩
  · rw [hi]
    dsimp only
    rw [if_neg (not_not.mpr hd), hl]
    rfl
  · rw [accepted_sent]
    rfl

theorem imageVerify_refuses {d : ImageData} {code ix : Nat} (hi : (s.staging x.comp).image = some d) (hd : d.missing = 0)
    (hl : s.loaderCheck x.comp d = some (code, ix)) : let c := x.comp
    Completes (.cmdScanImageVerify f) s fun t => (t.staging c).image = some { d with verified := false } ∧
      t.rd (Obj.SCE_IMG_STG_STATE.b c) = 4 ∧ t.rd (Obj.SCE_IMG_STG_DETAIL.b c) = code % 2 ^ 16 ∧
      AnswersLast s t f x 0x0411 0x0041 (detailRecord code ix 0x130100) := by
  obtain ⟨t, hb, k1, k2, k3, k5, k6⟩ := imageVerify_refused hh hp hi hd hl
  have himg : (t.staging x.comp).image = some { d with verified := false } := congrArg Staging.image k1
  refine completes_fail (c := { code := 0x0411 }) (body := cmdScanImageVerify) rfl h hb ((accepted_session h).congr k5)
    fun ss cn => ⟨himg, k2, k3, [.resp f.conn x.comp f.seq.toNat 0x0411 1 []], ?_⟩
  rw [← k6]

theorem imageVerify_verifies {d : ImageData} (hi : (s.staging x.comp).image = some d) (hd : d.missing = 0) (hl : s.loaderCheck x.comp d = none) :
    let c := x.comp
    let g := s.staging c
    let im := (Raw.of d.bytes).image
    let l := im.taskDefaults c
    let cells := l.foldl (fun k p => stagePut k p.1 p.2) g.cells
    s.stagingFits c { g with state := 1, image := some { d with verified := true }, cells := cells } = true →
    Completes (.cmdScanImageVerify f) s fun t => t.staging c =
        { g with state := 1, image := some { d with verified := true }, cells := cells, defaults := l.map (·.1.key) } ∧
      t.rd (Obj.SCE_IMG_STG_STATE.b c) = 3 ∧ t.rd (Obj.SCE_IMG_STG_HASH.bi c 0) = field im.hash 0 4 ∧
      AnswersLast s t f x 0x0411 0
        (im.hash ++ le 4 (im.codeBytes 0) ++ le 4 (im.codeBytes 1) ++ le 2 im.insts.length ++ le 2 0) := by
  intro c g im l cells hfit
  have hb := imageVerify_judged (s := s) (x := x) hh hp
  dsimp only at hb
  rw [hi] at hb
  dsimp only at hb
  rw [if_neg (not_not.mpr hd), hl] at hb
  dsimp only at hb
  have hfit' : s.stagingFits x.comp ((s.staging x.comp).verifiedWith x.comp d) = true := hfit
  rw [hfit', if_neg (by decide)] at hb
  obtain ⟨k1, k2, -, k4, k5, k6⟩ := imageVerify_shows (accepted s f x 0x0411 false) (requestOf f x 0x0411) x.comp
    ((s.staging x.comp).verifiedWith x.comp d) d 3 (s.rd (Obj.SCE_IMG_STG_DETAIL.b x.comp)) (Raw.of d.bytes).image.hash
  generalize State.showImage _ x.comp d 3 _ _ = t at hb k1 k2 k4 k5 k6
  have hhash : field im.hash 0 4 % 2 ^ 32 = field im.hash 0 4 := Nat.mod_eq_of_lt (by simpa using field_lt im.hash 0 4)
  replace k4 : t.rd (Obj.SCE_IMG_STG_HASH.bi c 0) = field im.hash 0 4 := k4.trans hhash
  replace k1 : t.staging c = { g with state := 1, image := some { d with verified := true }, cells := cells, defaults := l.map (·.1.key) } := k1
  refine completes_ok (c := { code := 0x0411 }) (body := cmdScanImageVerify) rfl h hb ((accepted_session h).congr k5)
    fun ss cn => ⟨k1, k2, k4, [.resp f.conn x.comp f.seq.toNat 0x0411 1 []], ?_⟩
  show t.sent ++ _ = _
  rw [k6, accepted_sent]
  rfl

/-! ### The plan of an exchange -/

theorem exchPlan_none (hn : (s.staging x.comp).image = none ∨ (s.prog x.comp).cur = none) :
    SaysAfterPending (.cmdScanExchPlan f) s f x 0x0420 0x0041 (detailRecord 0x0443 0 0) := by
  refine saysAfterPending_fail h (c := { code := 0x0420, cancellable := true }) (body := cmdScanExchPlan) rfl ?_
  unfold cmdScanExchPlan
  rw [scanOpen_open hh (fun h => absurd h Bool.false_ne_true) (fun h => absurd h Bool.false_ne_true) 0x0420 true]
  dsimp only
  rw [requestOf_payload, requestOf_comp, accepted_staging, accepted_prog]
  refine (if_neg (not_not.mpr hp)).trans ?_
  obtain hn | hn := hn
  · rw [hn]
    rfl
  · rw [hn]
    cases (s.staging x.comp).image with
    | none => rfl
    | some d => rfl

theorem exchPlan_plans {d : ImageData} {o : Prog} (hi : (s.staging x.comp).image = some d) (ho : (s.prog x.comp).cur = some o)
    (hv : d.verified = true) : let c := x.comp
    let im := (Raw.of d.bytes).image
    let p := planOf o.image im
    let rel := s.releasedBy c im
    let blk := s.blockedBy c im
    SaysAfterPending (.cmdScanExchPlan f) s f x 0x0420 0 (le 2 p.carried ++ le 2 p.retyped ++ le 2 p.fresh ++ le 2 p.removed ++
      le 2 p.reinit ++ le 2 p.newPt ++ le 1 rel.length ++ le 1 blk.length ++ (rel ++ blk).flatMap fun y => le 1 y.ix) := by
  intro c im p rel blk
  have hrel : (accepted s f x 0x0420 true).releasedBy c im = rel := by
    unfold State.releasedBy
    rw [accepted_forces]
    rfl
  have hblk : (accepted s f x 0x0420 true).blockedBy c im = blk := by
    unfold State.blockedBy
    rw [accepted_forces]
    rfl
  refine saysAfterPending_ok h (c := { code := 0x0420, cancellable := true }) (body := cmdScanExchPlan) rfl ?_
  unfold cmdScanExchPlan
  rw [scanOpen_open hh (fun h => absurd h Bool.false_ne_true) (fun h => absurd h Bool.false_ne_true) 0x0420 true]
  dsimp only
  rw [requestOf_payload, requestOf_comp, accepted_staging, accepted_prog, hi, ho]
  refine (if_neg (not_not.mpr hp)).trans ?_
  dsimp only
  rw [hv, hrel, hblk]
  rfl

end

end

/-- Settles O35. What is shown of a staging does not change it, so each answer is read off the staging that was put. -/
theorem imageCommands : Obligations.ImageCommands := by
  unfold Obligations.ImageCommands
  intro f s x h hc h5 h9 c g
  have hh : Hosted s x := ⟨hc, h5, h9⟩
  refine ⟨fun hf off size data hoff hsize h0 hlen hp => ⟨?_, ?_, ?_⟩, fun hf hp => ⟨?_, ?_, ?_⟩, fun hp => ⟨?_, ?_, ?_, ?_, ?_, ?_⟩⟩
  · exact imageWrite_held h hh hf hoff hsize h0 hlen hp
  · exact imageWrite_unfit h hh hf hoff hsize h0 hlen hp
  · exact imageWrite_writes h hh hf hoff hsize h0 hlen hp
  · exact imageDrop_held h hh hf hp
  · exact imageDrop_none h hh hf hp
  · exact imageDrop_drops h hh hf hp
  · exact imageVerify_none h hh hp
  · exact fun d => imageVerify_missing h hh hp
  · exact fun d code ix => imageVerify_refuses h hh hp
  · exact fun d hi hd hl => imageVerify_verifies h hh hp hi hd hl
  · exact exchPlan_none h hh hp
  · exact fun d o hi ho hv => exchPlan_plans h hh hp hi ho hv

end Sys2Proof.Proofs
end

section
/-!
SUPPORT. What the work of a scan engine leaves alone (spec/05 R131, spec/07 R183 to R187).
-/
namespace Sys2Proof.Machine
open Sys2Proof.Claims

/-! ### Scan work -/

/-- Only fields, the record queue, the programs, the tasks' marks and the queued point writes may differ. -/
structure ScanWork (s t : State) : Prop where
  eq : t = { s with regs := t.regs, evr := t.evr,
                    scan := { s.scan with progs := t.scan.progs, tasks := t.scan.tasks, queued := t.scan.queued } }

section
variable {s t u : State}

theorem ScanWork.refl (s : State) : ScanWork s s := ⟨rfl⟩

theorem ScanWork.trans (h : ScanWork s t) (k : ScanWork t u) : ScanWork s u := by
  refine ⟨?_⟩
  rw [k.eq, h.eq]

theorem ScanWork.raised {n : Nat} (h : Raised n s t) : ScanWork s t := by
  refine ⟨?_⟩
  rw [h.eq]

theorem ScanWork.of_wrs (s : State) (l : List (Fld × Nat)) : ScanWork s (s.wrs l) := by
  refine ⟨?_⟩
  rw [State.wrs_eq]

theorem ScanWork.foldl {α : Type} {g : State → α → State} (h : ∀ t a, ScanWork t (g t a)) (l : List α) (s : State) :
    ScanWork s (l.foldl g s) := by
  induction l generalizing s with
  | nil => exact .refl s
  | cons a l ih => exact (h s a).trans (ih _)

theorem ScanWork.sent (h : ScanWork s t) : t.sent = s.sent := by rw [h.eq]

theorem ScanWork.sessions (h : ScanWork s t) : t.sessions = s.sessions := by rw [h.eq]

theorem ScanWork.waiters (h : ScanWork s t) : t.waiters = s.waiters := by rw [h.eq]

theorem ScanWork.plies (h : ScanWork s t) : t.scan.plies = s.scan.plies := by rw [h.eq]

end

/-! ### Points -/

theorem State.pimgWrite_eq (s : State) (l : List PtWrite) :
    s.pimgWrite l = { s with regs := (s.pimgWrite l).regs, scan := { s.scan with queued := (s.pimgWrite l).scan.queued } } := by
  have happly (l : List PtWrite) (t : State) : t.applyPts l = { t with regs := (t.applyPts l).regs } := by
    induction l generalizing t with
    | nil => rfl
    | cons w l ih =>
      refine (ih (t.applyPt w)).trans ?_
      rfl
  unfold State.pimgWrite
  split
  · rfl
  · split
    · rfl
    · rw [happly]

theorem State.pimgWrite_work (s : State) (l : List PtWrite) : ScanWork s (s.pimgWrite l) := by
  refine ⟨?_⟩
  rw [State.pimgWrite_eq]

theorem State.writeOutputs_work (s : State) (c : Nat) (l : List (Nat × Nat)) : ScanWork s (s.writeOutputs c l) :=
  (ScanWork.foldl (g := fun (t : State) (p : Nat × Nat) => t.setOwn c p.1 p.2) (fun _ _ => ⟨rfl⟩) l s).trans (State.pimgWrite_work _ _)

theorem State.setOwns_regs (c : Nat) (l : List (Nat × Nat)) (s : State) :
    (l.foldl (fun (t : State) (p : Nat × Nat) => t.setOwn c p.1 p.2) s).regs = s.regs := by
  induction l generalizing s with
  | nil => rfl
  | cons a l ih => exact (ih _).trans rfl

/-- Outputs change no field but the points written. -/
theorem State.writeOutputs_beyond {P : Nat → Bool} (s : State) (c : Nat) {l : List (Nat × Nat)}
    (h : ∀ p ∈ l, P (Obj.PIMG_PT.i p.1).key = true) : Beyond P s (s.writeOutputs c l) := by
  refine (Beyond.of_regs _ (State.setOwns_regs c l s)).trans (State.pimgWrite_beyond _ fun w hw => ?_)
  obtain ⟨p, hp, rfl⟩ := List.mem_map.mp hw
  exact h p (List.mem_filter.mp hp).1

/-! ### Forces -/

theorem State.liftForce_work (s : State) (c : Nat) (f : Force) : ScanWork s (s.liftForce c f) := by
  unfold State.liftForce
  dsimp only
  split
  · exact (ScanWork.of_wrs s [(Obj.PIMG_ATTR_FORCED.i f.point, 0)]).trans (State.pimgWrite_work _ _)
  · exact .of_wrs s [(Obj.PIMG_ATTR_FORCED.i f.point, 0)]

theorem State.releaseForce_work (s : State) (c : Nat) (f : Force) : ScanWork s (s.releaseForce c f) := by
  have hput (g : Force) : ScanWork s (s.putForce c g) := .of_wrs s _
  unfold State.releaseForce
  dsimp only
  refine ScanWork.trans ?_ ((ScanWork.of_wrs _ [(Obj.EXCH_EVT_FORCE_RELEASED.b c, 1)]).trans (.raised (State.log_raised _ _ _ _ _ _)))
  split
  · exact (hput _).trans (State.liftForce_work _ c f)
  · exact hput _

theorem State.releaseForces_work (s : State) (c : Nat) (l : List Force) : ScanWork s (s.releaseForces c l) :=
  .foldl (fun t f => State.releaseForce_work t c f) l s

/-! ### Exchanges -/

theorem State.dropForces_work (s : State) (c : Nat) (which : Option Nat → Bool) : ScanWork s (s.dropForces c which) := by
  unfold State.dropForces
  dsimp only
  split
  · exact State.releaseForces_work s c _
  · exact .refl s

theorem State.exchangeDone_work (s : State) (c : Nat) : ScanWork s (s.exchangeDone c) := by
  unfold State.exchangeDone
  dsimp only
  refine ScanWork.trans ?_ (.raised (State.log_raised _ _ _ _ _ _))
  refine ScanWork.trans ?_ (.of_wrs _ [(Obj.EXCH_STATE.b c, 3), (Obj.EXCH_DONE_TIME.b c, s.floorTime), (Obj.EXCH_EVT_DONE.b c, 1)])
  exact ⟨rfl⟩

theorem State.checkExchange_work (s : State) (c : Nat) : ScanWork s (s.checkExchange c) := by
  unfold State.checkExchange
  split
  · exact State.exchangeDone_work s c
  · exact .refl s

theorem State.transferTask_work (s : State) (c : Nat) (k : ImgTask) : ScanWork s (s.transferTask c k) := by
  unfold State.transferTask
  split
  · split
    · exact .refl s
    · have hput (p : CompScan) : ScanWork s (s.putProg c p) := ⟨rfl⟩
      have htask (t : State) (e n : Nat) (r : TaskRun) : ScanWork t (t.putTask c e n r) := ⟨rfl⟩
      exact ((hput _).trans (State.dropForces_work _ c _)).trans ((htask _ _ _ _).trans (State.checkExchange_work _ c))
  · exact .refl s

theorem State.transferAll_work (s : State) (c : Nat) : ScanWork s (s.transferAll c) :=
  .foldl (fun t k => State.transferTask_work t c k) _ s

/-- Where no exchange is in transfer there is nothing to move. -/
theorem State.transferAll_idle {s : State} {c : Nat} (h : s.rd (Obj.EXCH_STATE.b c) ≠ 2) : s.transferAll c = s := by
  unfold State.transferAll
  induction s.tasksOf c with
  | nil => rfl
  | cons k l ih =>
    rw [List.foldl_cons, show s.transferTask c k = s from if_neg fun hb => h hb.1]
    exact ih

/-! ### Stops -/

/-- A stop's programs, plies and answers to those it overtakes: the requests that waited are told, the plies are gone. -/
structure Cut (s t : State) : Prop where
  talked : Talked s t
  rd : ∀ g, unlogged g = true → t.rd g = s.rd g
  plies : t.scan.plies = s.scan.plies

theorem Cut.trans {s t u : State} (h : Cut s t) (k : Cut t u) : Cut s u :=
  ⟨h.talked.trans k.talked, fun g hg => (k.rd g hg).trans (h.rd g hg), k.plies.trans h.plies⟩

theorem State.finish_cut (s : State) (w : Wait) (st : Nat) (p : Bytes) : Cut s (s.finish w st p) := by
  have he := State.finish_ended s w st p
  refine ⟨State.finish_talked s w st p, fun g hg => State.rd_finish s w st p hg, ?_⟩
  rw [he.eq]

theorem State.putProg_cut (s : State) (c : Nat) (p : CompScan) : Cut s (s.putProg c p) := ⟨.of_eq rfl rfl, fun _ _ => rfl, rfl⟩

theorem State.cutWaits_cut (s : State) (c : Nat) : Cut s (s.cutWaits c) := by
  unfold State.cutWaits
  dsimp only
  have h := (s.finish_cut (.start c) St.cancelled []).trans (State.finish_cut _ (.hold c) St.cancelled [])
  split
  · exact h.trans ((State.putProg_cut _ _ _).trans (State.finish_cut _ _ _ _))
  · exact h.trans (State.putProg_cut _ _ _)

/-- A banked row below the counts of events dropped or apart from them is none of them. -/
theorem Row.b_unlogged {r : Row} (hr : r.banked = true) (hk : (r.b 0).key < 1573088) (c : Nat) : unlogged (r.b c) = true := by
  unfold unlogged
  rw [Row.b_zero r hr, show (Obj.EVR_DROPPED.b 0).key = 1573088 from rfl, show (Obj.EVR_EVT_DROPPED.b 0).key = 1573120 from rfl]
  simp only [Bool.and_eq_true, bne_iff_ne]
  omega

theorem Row.b_unlogged_above {r : Row} (hr : r.banked = true) (h1 : 1573120 < (r.b 0).key) (h2 : (r.b 0).key < 2 ^ 40) (c : Nat) :
    unlogged (r.b c) = true := by
  unfold unlogged
  rw [Row.b_zero r hr, show (Obj.EVR_DROPPED.b 0).key = 1573088 from rfl, show (Obj.EVR_EVT_DROPPED.b 0).key = 1573120 from rfl]
  simp only [Bool.and_eq_true, bne_iff_ne]
  omega

theorem State.takeStopValues_work (s : State) (c : Nat) (l : List Nat) (safe : Bool) : ScanWork s (s.takeStopValues c l safe) :=
  State.writeOutputs_work s c _

theorem State.rd_takeStopValues {s : State} {c : Nat} {l : List Nat} (safe : Bool) (h : ∀ p ∈ l, p < 8192) {g : Fld}
    (hg : ∀ p < 8192, (Obj.PIMG_PT.i p).key ≠ g.key) : (s.takeStopValues c l safe).rd g = s.rd g := by
  refine State.writeOutputs_beyond (P := fun k => k != g.key) s c (fun q hq => ?_) g (by simp)
  obtain ⟨p, hp, rfl⟩ := List.mem_map.mp hq
  exact bne_iff_ne.mpr (hg p (h p hp))

/-- What a stop leaves at its T_P (R131 steps 1 to 3). -/
structure Halted (s t : State) (c reason : Nat) : Prop where
  talked : Talked s t
  state : t.rd (Obj.SCE_STATE.b c) = 5
  reason : t.rd (Obj.SCE_STOP_REASON.b c) = reason % 2 ^ 4
  plies : t.scan.plies = s.scan.plies.filter fun p => p.comp != c
  intent : s.rd (Obj.EXCH_STATE.b c) ≠ 2 → (∀ p ∈ s.outputPoints c, p < 8192) →
    t.rd (Obj.SCE_STATE_INTENT.b c) = s.rd (Obj.SCE_STATE_INTENT.b c)

theorem ScanWork.talked {s t : State} (h : ScanWork s t) : Talked s t := .of_eq h.sessions h.sent

theorem State.stopProg_halted {s : State} {c : Nat} (reason : Nat) (h0 : s.rd (Obj.SCE_STATE.b c) ≠ 0) (h5 : s.rd (Obj.SCE_STATE.b c) ≠ 5) :
    Halted s (s.stopProg c reason false) c reason := by
  have hx : ∀ g, unlogged g = true → ((s.abandon fun p => p.comp == c).cutWaits c).rd g = s.rd g := (State.cutWaits_cut _ c).rd
  have hcut := State.cutWaits_cut (s.abandon fun p => p.comp == c) c
  have hab : Talked s (s.abandon fun p => p.comp == c) := .of_eq rfl rfl
  unfold State.stopProg
  dsimp only
  rw [if_neg (not_or.mpr ⟨h0, h5⟩), if_neg Bool.false_ne_true]
  generalize ((s.abandon fun p => p.comp == c).cutWaits c) = u at hx hcut
  have hall := (State.transferAll_work u c).trans (State.takeStopValues_work (u.transferAll c) c (s.outputPoints c) false)
  have hint : u.rd (Obj.EXCH_STATE.b c) ≠ 2 → (∀ p ∈ s.outputPoints c, p < 8192) →
      ((u.transferAll c).takeStopValues c (s.outputPoints c) false).rd (Obj.SCE_STATE_INTENT.b c) = u.rd (Obj.SCE_STATE_INTENT.b c) := by
    intro hne hp
    rw [State.transferAll_idle hne]
    refine State.rd_takeStopValues false hp fun p hp => ?_
    rw [pt_key, Row.b_zero _ rfl, show (Obj.SCE_STATE_INTENT.b 0).key = 8388611 from rfl]
    omega
  generalize (u.transferAll c).takeStopValues c (s.outputPoints c) false = v at hall hint
  rw [State.wrs]
  have hne := Row.b_apart (r := Obj.SCE_STATE) (q := Obj.SCE_STOP_REASON) rfl rfl (by decide) (by decide) (by decide) c c
  refine ⟨hab.trans (hcut.talked.trans (hall.talked.trans (.of_eq rfl rfl))), ?_, ?_, ?_, fun hne hp => ?_⟩
  · exact (State.rd_wr_ne _ _ _ _ hne.symm).trans (State.rd_wr_self _ _ _)
  · exact State.rd_wr_self _ _ _
  · exact (hall.plies.trans hcut.plies).trans rfl
  · refine (State.rd_wr_ne _ _ _ _ (Row.b_apart rfl rfl (by decide) (by decide) (by decide) c c)).trans ?_
    refine (State.rd_wr_ne _ _ _ _ (Row.b_apart rfl rfl (by decide) (by decide) (by decide) c c)).trans ?_
    refine (hint ?_ hp).trans (hx _ (Row.b_unlogged_above rfl (by decide) (by decide) c))
    rwa [hx _ (Row.b_unlogged_above rfl (by decide) (by decide) c)]

/-! ### Holds -/

/-- With no ply unfinished a hold is reached at once. -/
theorem State.holdProg_reached {s : State} {c : Nat} (h : s.rd (Obj.SCE_STATE.b c) = 2) (hp : ∀ p ∈ s.scan.plies, p.comp ≠ c) :
    Talked s (s.holdProg c) ∧ (s.holdProg c).rd (Obj.SCE_STATE.b c) = 4 := by
  have hnone : (s.scan.plies.any fun p => p.comp == c) = false := List.any_eq_false.mpr fun p hm => by simpa using hp p hm
  unfold State.holdProg State.holdReached
  rw [if_pos h, if_pos ⟨State.rd_wr_self _ _ _, by rw [State.wr_scan, hnone]; rfl⟩]
  refine ⟨?_, ?_⟩
  · refine Talked.trans ?_ (State.finish_talked _ _ _ _)
    have h3 : Talked s (s.wr (Obj.SCE_STATE.b c) 3) := .of_eq rfl rfl
    exact h3.trans
      ((State.transferAll_work _ c).talked.trans (Talked.of_eq (t := ((s.wr (Obj.SCE_STATE.b c) 3).transferAll c).wr (Obj.SCE_STATE.b c) 4) rfl rfl))
  · exact (State.rd_finish _ _ _ _ (Row.b_unlogged_above rfl (by decide) (by decide) c)).trans (State.rd_wr_self _ _ _)

/-- With a ply unfinished a hold waits. -/
theorem State.holdProg_waits {s : State} {c : Nat} (h : s.rd (Obj.SCE_STATE.b c) = 2) (hp : ∃ p ∈ s.scan.plies, p.comp = c) :
    s.holdProg c = s.wr (Obj.SCE_STATE.b c) 3 := by
  have hsome : (s.scan.plies.any fun p => p.comp == c) = true := by
    obtain ⟨p, hm, hc⟩ := hp
    exact List.any_eq_true.mpr ⟨p, hm, beq_iff_eq.mpr hc⟩
  unfold State.holdProg State.holdReached
  rw [if_pos h]
  refine if_neg fun hb => ?_
  obtain ⟨-, hb⟩ := hb
  rw [State.wr_scan, hsome] at hb
  exact absurd hb Bool.false_ne_true

/-! ### Resuming -/

/-- Give every task of a compartment the instant from which it runs. -/
def State.fromAll (s : State) (c from_ : Nat) (l : List Nat) : State :=
  l.foldl (fun t k => t.putTask c (k / 16) (k % 16) { (t.task c (k / 16) (k % 16)) with from_ := from_ }) s

theorem State.task_putTask_self (s : State) (c e k : Nat) (r : TaskRun) : (s.putTask c e k r).task c e k = r := Tab.get_put_self _ _ _ _

theorem State.task_putTask_ne {s : State} {c e k e' k' : Nat} (r : TaskRun) (h : taskKey c e k ≠ taskKey c e' k') :
    (s.putTask c e k r).task c e' k' = s.task c e' k' := Tab.get_put_ne _ _ _ _ _ h

theorem State.fromAll_task (c from_ : Nat) {e k : Nat} (hk : k < 16) (l : List Nat) (s : State) (hl : ∀ i ∈ l, i < 32) :
    (16 * e + k ∈ l ∨ (s.task c e k).from_ = from_) → ((s.fromAll c from_ l).task c e k).from_ = from_ := by
  induction l generalizing s with
  | nil => exact fun h => h.resolve_left List.not_mem_nil
  | cons i l ih =>
    intro h
    have hi := hl i List.mem_cons_self
    refine ih _ (fun j hj => hl j (List.mem_cons_of_mem i hj)) ?_
    by_cases hik : i = 16 * e + k
    · obtain ⟨h1, h2⟩ : i / 16 = e ∧ i % 16 = k := by omega
      dsimp only
      rw [h1, h2]
      exact .inr (by rw [State.task_putTask_self])
    · refine h.imp (fun hm => (List.mem_cons.mp hm).resolve_left fun h => hik h.symm) fun hf => ?_
      rw [State.task_putTask_ne _ (by unfold taskKey; omega)]
      exact hf

theorem State.fromAll_eq (c from_ : Nat) (l : List Nat) (s : State) :
    s.fromAll c from_ l = { s with scan := { s.scan with tasks := (s.fromAll c from_ l).scan.tasks } } := by
  induction l generalizing s with
  | nil => rfl
  | cons i l ih => exact (ih _).trans rfl

/-- A program in HOLD runs again. -/
theorem State.resumeProg_runs {s : State} {c : Nat} (from_ : Nat) (h : s.rd (Obj.SCE_STATE.b c) = 4) :
    Talked s (s.resumeProg c from_) ∧ (s.resumeProg c from_).rd (Obj.SCE_STATE.b c) = 2 ∧
    ∀ e k, e < 2 → k < 16 → ((s.resumeProg c from_).task c e k).from_ = from_ := by
  have htask := fun e k hk => State.fromAll_task c from_ (e := e) (k := k) hk (List.range 32) s (fun i hi => List.mem_range.mp hi)
  have heq := State.fromAll_eq c from_ (List.range 32) s
  have hdef : s.resumeProg c from_ = ((s.fromAll c from_ (List.range 32)).putProg c
      { (s.fromAll c from_ (List.range 32)).prog c with ownHold := false, step := none }).wr (Obj.SCE_STATE.b c) 2 :=
    if_pos (.inr h)
  rw [hdef]
  generalize s.fromAll c from_ (List.range 32) = u at htask heq
  refine ⟨?_, State.rd_wr_self _ _ _, fun e k he hk => htask e k hk (.inl (List.mem_range.mpr (by omega)))⟩
  rw [heq]
  exact .of_eq rfl rfl

theorem State.endStep_cut (s : State) (c : Nat) : Cut s (s.endStep c) := by
  unfold State.endStep
  dsimp only
  split
  · exact (State.putProg_cut _ _ _).trans (State.finish_cut _ _ _ _)
  · exact ⟨.refl s, fun _ _ => rfl, rfl⟩

/-! ### Starts -/

/-- A program is starting. -/
structure Started (s t : State) (c : Nat) (x : Starting) : Prop where
  state : t.rd (Obj.SCE_STATE.b c) = 1
  kept : Kept [Obj.SCE_STATE.b c] s t
  starting : (t.prog c).starting = some x
  sessions : t.sessions = s.sessions
  sent : t.sent = s.sent
  waiters : t.waiters = s.waiters

theorem State.startProg_started {s : State} {c : Nat} (cold byOwner : Bool) (h : s.rd (Obj.SCE_STATE.b c) = 0) :
    Started s (s.startProg c cold byOwner) c { at_ := s.floorTime, cold := cold, byOwner := byOwner } := by
  unfold State.startProg
  rw [if_pos h]
  have hk := (Kept.of_regs (l := [Obj.SCE_STATE.b c]) (s := s)
    (t := s.putProg c { s.prog c with starting := some { at_ := s.floorTime, cold := cold, byOwner := byOwner } }) rfl).wr
    (v := 1) (List.mem_singleton.mpr rfl)
  exact ⟨State.rd_wr_self _ _ _, hk, congrArg CompScan.starting (State.prog_putProg_self _ _ _), rfl, rfl, rfl⟩

end Sys2Proof.Machine
end

section
namespace Sys2Proof.Proofs
open Sys2Proof.Machine Sys2Proof.Claims

/-! ### The commands of programs (spec/05 R134 to R138) -/

section
variable {f : Frame} {s : State} {x : Session} (h : Admitted s f x) (hh : Hosted s x)
include h hh

omit h in
/-- While M9 holds a command is refused BUSY. -/
theorem scanOpen_frozen {d1 : Bool} (hd : d1 = true → s.d1 x.comp = true) (hm : s.mode = 9) (code : Nat) (can : Bool) :
    scanOpen (requestOf f x code) (accepted s f x code can) d1 true = some 0x0040 := by
  rw [scanOpen_eq hh, if_neg, if_pos]
  · rfl
  · rw [hm]
    rfl
  · cases d1 with
    | false => exact Bool.false_ne_true
    | true => rw [hd rfl]; decide

omit h in
/-- Without D1 a command that needs it is refused. -/
theorem scanOpen_noD1 {frozen : Bool} (hd : s.d1 x.comp = false) (code : Nat) (can : Bool) :
    scanOpen (requestOf f x code) (accepted s f x code can) true frozen = some 0x0019 := by
  rw [scanOpen_eq hh, hd]
  rfl

/-! #### Start -/

section
variable {cold : Bool} (hm : s.mode ≠ 9) (hp : f.payload = le 1 x.comp ++ le 1 (b2n cold) ++ le 2 0)
include hm hp

omit h in
theorem scanStart_judged : let a := accepted s f x 0x0401 false
    let a1 := a.wr (Obj.SCE_STATE_INTENT.b x.comp) 1
    cmdScanStart (requestOf f x 0x0401) a = if s.rd (Obj.SCE_STATE.b x.comp) ≠ 0 then (a, stateError) else
      if s.mayRun x.comp then (a1.startProg x.comp cold false, .pending (.start x.comp))
      else (a1.putProg x.comp { a1.prog x.comp with coldAsked := cold }, .ok (le 8 0 ++ le 1 (b2n cold))) := by
  intro a a1
  have hlen : f.payload.length = 4 := by simp [hp, le_length]
  have hc : x.comp < 34 := hh.1
  have h0 : field f.payload 0 1 = x.comp := by
    simp [hp, field_append_left, le_length]
    omega
  have hb : b2n cold ≤ 1 := by cases cold <;> decide
  have h1 : field f.payload 1 1 = b2n cold := by
    simp [hp, field_append_left, field_append_right, le_length]
    omega
  have hrun : a1.mayRun x.comp = s.mayRun x.comp := by
    have hmode : a1.mode = s.mode :=
      (State.rd_wr_ne _ _ _ _ (by rw [Row.b_zero _ rfl, show (Obj.SCE_STATE_INTENT.b 0).key = 8388611 from rfl,
        show Obj.IDENT_MODE.f.key = 40 * 8 from rfl]; omega)).trans (accepted_rd _ _ _ _ _ _)
    unfold State.mayRun
    rw [hmode]
  have hcold : (b2n cold == 1) = cold := by cases cold <;> rfl
  have hhost : (x.comp == 0 && x.comp != 0) = false := by cases h : x.comp == 0 <;> simp_all
  have htarget : targetOk (requestOf f x 0x0401) a x.comp = true := by simp [targetOk, requestOf_comp]
  unfold cmdScanStart
  rw [scanOpen_open hh (fun h => absurd h Bool.false_ne_true) (fun _ => hm)]
  dsimp only
  rw [requestOf_payload, requestOf_comp, hlen, h0, h1, htarget, hhost, hcold]
  refine (if_neg (by omega)).trans ((if_neg (by decide)).trans ?_)
  rw [show a.rd (Obj.SCE_STATE.b x.comp) = _ from accepted_rd _ _ _ _ _ _, hrun]

theorem scanStart_running (hst : s.rd (Obj.SCE_STATE.b x.comp) ≠ 0) : Checked (.cmdScanStart f) s f x 0x0401 0x0401 :=
  refuses_of (c := { code := 0x0401 }) (body := cmdScanStart) rfl h ((scanStart_judged hh hm hp).trans (if_pos hst))

theorem scanStart_later (hst : s.rd (Obj.SCE_STATE.b x.comp) = 0) (hr : s.mayRun x.comp = false) :
    Completes (.cmdScanStart f) s fun t => Answers s t f x 0x0401 0 (le 8 0 ++ le 1 (b2n cold)) ∧
      OneField s t (Obj.SCE_STATE_INTENT.b x.comp) 1 := by
  have hb := scanStart_judged hh hm hp
  have hsp : Speaks (accepted s f x 0x0401 false) f x := accepted_session h
  have hsent := accepted_sent s f x 0x0401 false
  have hone : OneField s ((accepted s f x 0x0401 false).wr (Obj.SCE_STATE_INTENT.b x.comp) 1) (Obj.SCE_STATE_INTENT.b x.comp) 1 :=
    OneField.wr (accepted_regs s f x 0x0401 false) rfl
  have hsp1 : Speaks ((accepted s f x 0x0401 false).wr (Obj.SCE_STATE_INTENT.b x.comp) 1) f x := hsp.congr rfl
  have hsent1 : ((accepted s f x 0x0401 false).wr (Obj.SCE_STATE_INTENT.b x.comp) 1).sent = s.sent := hsent
  dsimp only at hb
  rw [if_neg (not_not.mpr hst), hr, if_neg Bool.false_ne_true] at hb
  generalize (accepted s f x 0x0401 false).wr (Obj.SCE_STATE_INTENT.b x.comp) 1 = v at hb hone hsp1 hsent1
  refine completes_ok (c := { code := 0x0401 }) (body := cmdScanStart) rfl h hb (hsp1.congr rfl) fun ss cn => ⟨?_, hone⟩
  unfold Answers
  rw [← hsent1]
  rfl

theorem scanStart_starts (hst : s.rd (Obj.SCE_STATE.b x.comp) = 0) (hr : s.mayRun x.comp = true) :
    Completes (.cmdScanStart f) s fun t => Waits s t f x 0x0401 (.start x.comp) ∧
      t.rd (Obj.SCE_STATE.b x.comp) = 1 ∧ t.rd (Obj.SCE_STATE_INTENT.b x.comp) = 1 ∧
      (t.prog x.comp).starting = some { at_ := max s.floorTime f.arrival, cold := cold, byOwner := false } ∧
      Kept [Obj.SCE_STATE.b x.comp, Obj.SCE_STATE_INTENT.b x.comp] s t := by
  have hb := scanStart_judged hh hm hp
  have hsp : Speaks (accepted s f x 0x0401 false) f x := accepted_session h
  have hregs := accepted_regs s f x 0x0401 false
  have hsent := accepted_sent s f x 0x0401 false
  have hwait := accepted_waiters s f x 0x0401 false
  have hft := accepted_floorTime s f x 0x0401 false
  dsimp only at hb
  rw [if_neg (not_not.mpr hst), hr, if_pos rfl] at hb
  have hne : (Obj.SCE_STATE_INTENT.b x.comp).key ≠ (Obj.SCE_STATE.b x.comp).key :=
    Row.b_apart rfl rfl (by decide) (by decide) (by decide) _ _
  -- The program starts from the state that has its intent.
  have hstart := State.startProg_started (s := (accepted s f x 0x0401 false).wr (Obj.SCE_STATE_INTENT.b x.comp) 1) cold false
    ((State.rd_wr_ne _ _ _ _ hne).trans ((State.rd_congr hregs _).trans hst))
  have hint : Kept [Obj.SCE_STATE.b x.comp, Obj.SCE_STATE_INTENT.b x.comp] s
      ((accepted s f x 0x0401 false).wr (Obj.SCE_STATE_INTENT.b x.comp) 1) := (Kept.of_regs hregs).wr (by simp)
  have hset := State.rd_wr_self (accepted s f x 0x0401 false) (Obj.SCE_STATE_INTENT.b x.comp) 1
  generalize ((accepted s f x 0x0401 false).wr (Obj.SCE_STATE_INTENT.b x.comp) 1).startProg x.comp cold false = v at hb hstart
  refine completes_pending (c := { code := 0x0401 }) (body := cmdScanStart) rfl h hb ((hsp.congr rfl).congr hstart.sessions)
    fun cn => ⟨⟨?_, ?_⟩, hstart.state, ?_, ?_, ?_⟩
  · rw [← hsent]
    exact congrArg (· ++ _) hstart.sent
  · exact ⟨_, by rw [← hwait]; exact congrArg (· ++ _) hstart.waiters, rfl⟩
  · exact (hstart.kept _ (by simpa using hne.symm)).trans hset
  · rw [← hft]
    exact hstart.starting
  · exact hint.trans (hstart.kept.mono (by simp))

end

/-! #### Stop -/

section
variable (hm : s.mode ≠ 9) (hp : f.payload = le 1 x.comp ++ le 3 0)
include hm hp

omit h in
theorem scanStop_judged : let a := accepted s f x 0x0402 false
    let a1 := a.wr (Obj.SCE_STATE_INTENT.b x.comp) 0
    let st := s.rd (Obj.SCE_STATE.b x.comp)
    cmdScanStop (requestOf f x 0x0402) a =
      if st = 0 then (a1, .ok (le 8 (max s.floorTime f.arrival) ++ le 2 0)) else if st = 5 then (a, stateError)
      else (a1.stopProg x.comp 1 false, .pending (.stop x.comp)) := by
  intro a a1 st
  have hlen : f.payload.length = 4 := by simp [hp, le_length]
  have hc : x.comp < 34 := hh.1
  have h0 : field f.payload 0 1 = x.comp := by
    simp [hp, field_append_left, le_length]
    omega
  have htarget : targetOk (requestOf f x 0x0402) a x.comp = true := by simp [targetOk, requestOf_comp]
  unfold cmdScanStop
  rw [scanOpen_open hh (fun h => absurd h Bool.false_ne_true) (fun _ => hm)]
  dsimp only
  rw [requestOf_payload, requestOf_comp, hlen, h0, htarget, if_pos rfl]
  refine (if_neg (by omega)).trans ((if_neg (by decide)).trans ?_)
  rw [show a.rd (Obj.SCE_STATE.b x.comp) = _ from accepted_rd _ _ _ _ _ _, show a.floorTime = _ from accepted_floorTime _ _ _ _ _]

theorem scanStop_stopped (hst : s.rd (Obj.SCE_STATE.b x.comp) = 0) : Completes (.cmdScanStop f) s fun t =>
    Answers s t f x 0x0402 0 (le 8 (max s.floorTime f.arrival) ++ le 2 0) ∧ OneField s t (Obj.SCE_STATE_INTENT.b x.comp) 0 := by
  have hsp : Speaks (accepted s f x 0x0402 false) f x := accepted_session h
  have hone : OneField s ((accepted s f x 0x0402 false).wr (Obj.SCE_STATE_INTENT.b x.comp) 0) (Obj.SCE_STATE_INTENT.b x.comp) 0 :=
    OneField.wr (accepted_regs s f x 0x0402 false) rfl
  have hsp1 : Speaks ((accepted s f x 0x0402 false).wr (Obj.SCE_STATE_INTENT.b x.comp) 0) f x := hsp.congr rfl
  have hsent1 : ((accepted s f x 0x0402 false).wr (Obj.SCE_STATE_INTENT.b x.comp) 0).sent = s.sent := accepted_sent s f x 0x0402 false
  have hb := (scanStop_judged hh hm hp).trans (if_pos hst)
  generalize (accepted s f x 0x0402 false).wr (Obj.SCE_STATE_INTENT.b x.comp) 0 = v at hb hone hsp1 hsent1
  refine completes_ok (c := { code := 0x0402 }) (body := cmdScanStop) rfl h hb (hsp1.congr rfl) fun ss cn => ⟨?_, hone⟩
  unfold Answers
  rw [← hsent1]

theorem scanStop_stopping (hst : s.rd (Obj.SCE_STATE.b x.comp) = 5) : Checked (.cmdScanStop f) s f x 0x0402 0x0401 :=
  refuses_of (c := { code := 0x0402 }) (body := cmdScanStop) rfl h
    ((scanStop_judged hh hm hp).trans ((if_neg (by omega)).trans (if_pos hst)))

theorem scanStop_stops (h1 : 1 ≤ s.rd (Obj.SCE_STATE.b x.comp)) (h4 : s.rd (Obj.SCE_STATE.b x.comp) ≤ 4) :
    Completes (.cmdScanStop f) s fun t => WaitsLast s t f x 0x0402 (.stop x.comp) ∧
      t.rd (Obj.SCE_STATE.b x.comp) = 5 ∧ t.rd (Obj.SCE_STOP_REASON.b x.comp) = 1 ∧
      t.scan.plies = s.scan.plies.filter (fun p => p.comp != x.comp) ∧
      (s.rd (Obj.EXCH_STATE.b x.comp) ≠ 2 → (∀ p ∈ s.outputPoints x.comp, p < 8192) → t.rd (Obj.SCE_STATE_INTENT.b x.comp) = 0) := by
  have hb := scanStop_judged hh hm hp
  have hsp : Speaks (accepted s f x 0x0402 false) f x := accepted_session h
  have hregs := accepted_regs s f x 0x0402 false
  have hsent := accepted_sent s f x 0x0402 false
  have hscan := accepted_scan s f x 0x0402 false
  dsimp only at hb
  rw [if_neg (by omega), if_neg (by omega)] at hb
  generalize ha : accepted s f x 0x0402 false = a at hb hsp hregs hsent hscan
  have hrd {g : Fld} (hne : (Obj.SCE_STATE_INTENT.b x.comp).key ≠ g.key) : (a.wr (Obj.SCE_STATE_INTENT.b x.comp) 0).rd g = s.rd g :=
    (State.rd_wr_ne _ _ _ _ hne).trans (State.rd_congr hregs g)
  have hst := hrd (g := Obj.SCE_STATE.b x.comp) (Row.b_apart rfl rfl (by decide) (by decide) (by decide) _ _)
  have hex := hrd (g := Obj.EXCH_STATE.b x.comp) (Row.b_apart rfl rfl (by decide) (by decide) (by decide) _ _)
  have hout : (a.wr (Obj.SCE_STATE_INTENT.b x.comp) 0).outputPoints x.comp = s.outputPoints x.comp := by
    have htasks : (a.wr (Obj.SCE_STATE_INTENT.b x.comp) 0).tasksOf x.comp = s.tasksOf x.comp := by
      unfold State.tasksOf State.prog State.on
      rw [State.wr_scan, hscan]
      split
      · refine List.filter_congr fun t _ => ?_
        rw [hrd]
        simp [Fld.key, Row.b, Row.at, Obj.SCE_STATE_INTENT, Obj.SCE_TASK_CFG_ENABLE]
        omega
      · rfl
    unfold State.outputPoints
    rw [htasks]
  have hh := State.stopProg_halted (s := a.wr (Obj.SCE_STATE_INTENT.b x.comp) 0) (c := x.comp) 1 (by rw [hst]; omega) (by rw [hst]; omega)
  have hbase : Talked a (a.wr (Obj.SCE_STATE_INTENT.b x.comp) 0) := .of_eq rfl rfl
  have hint := State.rd_wr_self a (Obj.SCE_STATE_INTENT.b x.comp) 0
  have hplies : (a.wr (Obj.SCE_STATE_INTENT.b x.comp) 0).scan.plies = s.scan.plies := congrArg Scan.plies hscan
  generalize (a.wr (Obj.SCE_STATE_INTENT.b x.comp) 0) = v at hb hrd hst hex hout hh hbase hint hplies
  have ht := hbase.trans hh.talked
  generalize v.stopProg x.comp 1 false = t at hb hh ht
  obtain ⟨l, hl⟩ := ht.sent
  refine completes_pending (c := { code := 0x0402 }) (body := cmdScanStop) rfl h (by rw [ha]; exact hb)
    (ht.speaks hsp) fun cn => ⟨⟨⟨l, ?_⟩, ?_⟩, hh.state, hh.reason, ?_, fun hne hp => ?_⟩
  · rw [← hsent, hl]
  · exact ⟨_, List.mem_append_right _ (List.mem_singleton.mpr rfl), rfl, rfl, rfl, rfl⟩
  · exact hh.plies.trans (by rw [hplies])
  · refine (hh.intent (by rwa [hex]) (by rwa [hout])).trans hint

end

/-! #### Hold and resume -/

omit hh in
/-- A request answered after its PENDING, others having been told before. -/
theorem answersLast_talked {i : Instr} {c : CmdSpec} {pre : PreBody} {body : Req → State → State × Reply} {p : Bytes} {t : State} {post : State → Prop}
    (he : exec i s = .next (s.serve c f pre body))
    (hb : body (requestOf f x c.code) (accepted s f x c.code c.cancellable) = (t.sayPending (requestOf f x c.code), .ok p))
    (ht : Talked (accepted s f x c.code c.cancellable) t)
    (hpost : ∀ ss cn o, post { t with sessions := ss, pmon := { t.pmon with cnts := cn }, sent := o }) :
    Completes i s fun u => post u ∧ AnswersLast s u f x c.code 0 p := by
  have hsp := ht.speaks (accepted_session (code := c.code) (can := c.cancellable) h)
  obtain ⟨cn, hcn⟩ := t.respond_counts f.conn x.comp f.seq.toNat c.code 1 []
  have hr : t.sayPending (requestOf f x c.code) = t.respond f.conn x.comp f.seq.toNat c.code 1 [] := rfl
  rw [hr, hcn] at hb
  obtain ⟨l, hl⟩ := ht.sent
  rw [accepted_sent] at hl
  refine completes_ok he h hb (hsp.congr rfl) fun ss cn => ⟨hpost _ _ _, l ++ [.resp f.conn x.comp f.seq.toNat c.code 1 []], ?_⟩
  rw [← hl, ← List.append_assoc]

section
variable (hm : s.mode ≠ 9) (hd : s.d1 x.comp = true) (hp : f.payload = [])
include hm hd hp

omit h in
theorem scanHold_judged : let a := accepted s f x 0x0403 false
    let a1 := (a.putProg x.comp { a.prog x.comp with ownHold := true }).holdProg x.comp
    cmdScanHold (requestOf f x 0x0403) a = if s.rd (Obj.SCE_STATE.b x.comp) ≠ 2 then (a, stateError) else
      if a1.rd (Obj.SCE_STATE.b x.comp) = 4 then (a1.sayPending (requestOf f x 0x0403), .ok (le 8 (max s.floorTime f.arrival)))
      else (a1, .pending (.hold x.comp)) := by
  intro a a1
  unfold cmdScanHold
  rw [scanOpen_open hh (fun _ => hd) (fun _ => hm)]
  dsimp only
  rw [requestOf_payload, requestOf_comp]
  refine (if_neg (not_not.mpr hp)).trans ?_
  rw [show a.rd (Obj.SCE_STATE.b x.comp) = _ from accepted_rd _ _ _ _ _ _, show a.floorTime = _ from accepted_floorTime _ _ _ _ _]

theorem scanHold_reaches (hst : s.rd (Obj.SCE_STATE.b x.comp) = 2) (hn : ∀ p ∈ s.scan.plies, p.comp ≠ x.comp) :
    Completes (.cmdScanHold f) s fun t => t.rd (Obj.SCE_STATE.b x.comp) = 4 ∧
      AnswersLast s t f x 0x0403 0 (le 8 (max s.floorTime f.arrival)) := by
  have hb := scanHold_judged hh hm hd hp
  dsimp only at hb
  obtain ⟨ht, h4⟩ := State.holdProg_reached
    (s := (accepted s f x 0x0403 false).putProg x.comp { (accepted s f x 0x0403 false).prog x.comp with ownHold := true }) (c := x.comp)
    ((accepted_rd s f x 0x0403 false _).trans hst) (by
      show ∀ p ∈ (accepted s f x 0x0403 false).scan.plies, p.comp ≠ x.comp
      rw [accepted_scan]
      exact hn)
  rw [if_neg (not_not.mpr hst), if_pos h4] at hb
  have h0 : Talked (accepted s f x 0x0403 false)
      ((accepted s f x 0x0403 false).putProg x.comp { (accepted s f x 0x0403 false).prog x.comp with ownHold := true }) := .of_eq rfl rfl
  replace ht := h0.trans ht
  generalize ((accepted s f x 0x0403 false).putProg x.comp
    { (accepted s f x 0x0403 false).prog x.comp with ownHold := true }).holdProg x.comp = v at hb ht h4
  exact answersLast_talked h (c := { code := 0x0403 }) (body := cmdScanHold) (post := fun t => t.rd (Obj.SCE_STATE.b x.comp) = 4) rfl hb ht
    fun _ _ _ => h4

theorem scanHold_waits (hst : s.rd (Obj.SCE_STATE.b x.comp) = 2) (hn : ∃ p ∈ s.scan.plies, p.comp = x.comp) :
    Completes (.cmdScanHold f) s fun t => OneField s t (Obj.SCE_STATE.b x.comp) 3 ∧
      Waits s t f x 0x0403 (.hold x.comp) ∧ t.scan.plies = s.scan.plies := by
  have hb := scanHold_judged hh hm hd hp
  dsimp only at hb
  have hw := State.holdProg_waits
    (s := (accepted s f x 0x0403 false).putProg x.comp { (accepted s f x 0x0403 false).prog x.comp with ownHold := true }) (c := x.comp)
    ((accepted_rd s f x 0x0403 false _).trans hst) (by
      show ∃ p ∈ (accepted s f x 0x0403 false).scan.plies, p.comp = x.comp
      rw [accepted_scan]
      exact hn)
  have h3 := State.rd_wr_self ((accepted s f x 0x0403 false).putProg x.comp
    { (accepted s f x 0x0403 false).prog x.comp with ownHold := true }) (Obj.SCE_STATE.b x.comp) 3
  rw [if_neg (not_not.mpr hst), hw, if_neg (by rw [h3]; exact (by decide : ¬ 3 % 2 ^ 3 = 4))] at hb
  have hplies : (accepted s f x 0x0403 false).scan.plies = s.scan.plies := by rw [accepted_scan]
  have hsp : Speaks (accepted s f x 0x0403 false) f x := accepted_session h
  have hsent := accepted_sent s f x 0x0403 false
  have hwait := accepted_waiters s f x 0x0403 false
  have hone : OneField s (((accepted s f x 0x0403 false).putProg x.comp
      { (accepted s f x 0x0403 false).prog x.comp with ownHold := true }).wr (Obj.SCE_STATE.b x.comp) 3) (Obj.SCE_STATE.b x.comp) 3 :=
    OneField.wr (accepted_regs s f x 0x0403 false) rfl
  refine completes_pending (c := { code := 0x0403 }) (body := cmdScanHold) rfl h hb ((hsp.congr rfl).congr rfl) fun cn => ⟨hone, ⟨?_, ?_⟩, ?_⟩
  · rw [← hsent]
    rfl
  · exact ⟨_, by rw [← hwait]; rfl, rfl⟩
  · exact hplies

theorem scanHold_refused (hst : s.rd (Obj.SCE_STATE.b x.comp) ≠ 2) : Checked (.cmdScanHold f) s f x 0x0403 0x0401 :=
  refuses_of (c := { code := 0x0403 }) (body := cmdScanHold) rfl h ((scanHold_judged hh hm hd hp).trans (if_pos hst))

omit h in
theorem scanResume_judged : let a := accepted s f x 0x0404 false
    cmdScanResume (requestOf f x 0x0404) a = if s.rd (Obj.SCE_STATE.b x.comp) ≠ 4 then (a, stateError) else
      (((a.endStep x.comp).resumeProg x.comp (max s.floorTime f.arrival + 1000000)).sayPending (requestOf f x 0x0404),
        .ok (le 8 (max s.floorTime f.arrival))) := by
  intro a
  unfold cmdScanResume
  rw [scanOpen_open hh (fun _ => hd) (fun _ => hm)]
  dsimp only
  rw [requestOf_payload, requestOf_comp]
  refine (if_neg (not_not.mpr hp)).trans ?_
  rw [show a.rd (Obj.SCE_STATE.b x.comp) = _ from accepted_rd _ _ _ _ _ _, show a.floorTime = _ from accepted_floorTime _ _ _ _ _]

theorem scanResume_runs (hst : s.rd (Obj.SCE_STATE.b x.comp) = 4) : Completes (.cmdScanResume f) s fun t =>
    t.rd (Obj.SCE_STATE.b x.comp) = 2 ∧ AnswersLast s t f x 0x0404 0 (le 8 (max s.floorTime f.arrival)) ∧
    ∀ e k, e < 2 → k < 16 → (t.task x.comp e k).from_ = max s.floorTime f.arrival + 1000000 := by
  have hb := scanResume_judged hh hm hd hp
  dsimp only at hb
  rw [if_neg (not_not.mpr hst)] at hb
  have hc := State.endStep_cut (accepted s f x 0x0404 false) x.comp
  have h4 : ((accepted s f x 0x0404 false).endStep x.comp).rd (Obj.SCE_STATE.b x.comp) = 4 :=
    (hc.rd _ (Row.b_unlogged_above rfl (by decide) (by decide) _)).trans ((accepted_rd s f x 0x0404 false _).trans hst)
  obtain ⟨ht, h2, htask⟩ := State.resumeProg_runs (max s.floorTime f.arrival + 1000000) h4
  replace ht := hc.talked.trans ht
  generalize ((accepted s f x 0x0404 false).endStep x.comp).resumeProg x.comp (max s.floorTime f.arrival + 1000000) = v at hb ht h2 htask
  obtain ⟨t, he, ⟨hp2, hp3⟩, hl⟩ := answersLast_talked (i := .cmdScanResume f) h (c := { code := 0x0404 }) (body := cmdScanResume)
    (post := fun t => t.rd (Obj.SCE_STATE.b x.comp) = 2 ∧
      ∀ e k, e < 2 → k < 16 → (t.task x.comp e k).from_ = max s.floorTime f.arrival + 1000000) rfl hb ht fun _ _ _ => ⟨h2, htask⟩
  exact ⟨t, he, hp2, hl, hp3⟩

theorem scanResume_refused (hst : s.rd (Obj.SCE_STATE.b x.comp) ≠ 4) : Checked (.cmdScanResume f) s f x 0x0404 0x0401 :=
  refuses_of (c := { code := 0x0404 }) (body := cmdScanResume) rfl h ((scanResume_judged hh hm hd hp).trans (if_pos hst))

end

/-! #### Step -/

section
variable {e k n : Nat} (hm : s.mode ≠ 9) (hd : s.d1 x.comp = true) (he : e ≤ 1) (hk : k ≤ 15) (h1 : 1 ≤ n) (hn : n ≤ 16)
  (hp : f.payload = le 1 e ++ le 1 k ++ le 1 n ++ le 1 0)
include hm hd he hk h1 hn hp

omit h in
theorem scanStep_judged : let a := accepted s f x 0x0405 true
    cmdScanStep (requestOf f x 0x0405) a = if (s.enabledTask x.comp e k).isNone then (a, .no St.noObject)
      else if s.rd (Obj.SCE_STATE.b x.comp) ≠ 4 ∨ (s.prog x.comp).step.isSome then (a, stateError)
      else (a.putProg x.comp { s.prog x.comp with step := some (e, k, n) }, .pending (.step x.comp e k)) := by
  intro a
  have hlen : f.payload.length = 4 := by simp [hp, le_length]
  have h0 : field f.payload 0 1 = e := by
    simp [hp, field_append_left, le_length]
    omega
  have h1 : field f.payload 1 1 = k := by
    simp [hp, field_append_left, field_append_right, le_length]
    omega
  have h2 : field f.payload 2 1 = n := by
    simp [hp, field_append_left, field_append_right, le_length]
    omega
  have ht : a.enabledTask x.comp e k = s.enabledTask x.comp e k := by
    unfold State.enabledTask State.on
    rw [show a.rd _ = _ from accepted_rd _ _ _ _ _ _, show a.prog _ = _ from accepted_prog _ _ _ _ _ _]
  unfold cmdScanStep
  rw [scanOpen_open hh (fun _ => hd) (fun _ => hm)]
  dsimp only
  rw [requestOf_payload, requestOf_comp, hlen, h0, h1, h2, ht]
  refine (if_neg (by omega)).trans ?_
  rw [show a.rd (Obj.SCE_STATE.b x.comp) = _ from accepted_rd _ _ _ _ _ _, show a.prog _ = _ from accepted_prog _ _ _ _ _ _]

theorem scanStep_steps (ht : s.enabledTask x.comp e k ≠ none) (hst : s.rd (Obj.SCE_STATE.b x.comp) = 4) (hs : (s.prog x.comp).step = none) :
    Completes (.cmdScanStep f) s fun t => Waits s t f x 0x0405 (.step x.comp e k) ∧
      t.prog x.comp = { s.prog x.comp with step := some (e, k, n) } ∧ t.regs = s.regs := by
  have hb := scanStep_judged hh hm hd he hk h1 hn hp
  dsimp only at hb
  rw [if_neg (by simpa using ht), if_neg (by rw [hst, hs]; decide)] at hb
  have hsp : Speaks (accepted s f x 0x0405 true) f x := accepted_session h
  have hsent := accepted_sent s f x 0x0405 true
  have hwait := accepted_waiters s f x 0x0405 true
  have hprog := State.prog_putProg_self (accepted s f x 0x0405 true) x.comp { s.prog x.comp with step := some (e, k, n) }
  have hregs : ((accepted s f x 0x0405 true).putProg x.comp { s.prog x.comp with step := some (e, k, n) }).regs = s.regs :=
    accepted_regs s f x 0x0405 true
  refine completes_pending (c := { code := 0x0405, cancellable := true }) (body := cmdScanStep) rfl h hb (hsp.congr rfl)
    fun cn => ⟨⟨?_, ?_⟩, hprog, hregs⟩
  · rw [← hsent]
    rfl
  · exact ⟨_, by rw [← hwait]; rfl, rfl⟩

theorem scanStep_unknown (ht : s.enabledTask x.comp e k = none) : Reports' (.cmdScanStep f) s f x 0x0405 0x0020 := by
  refine refuses_of (c := { code := 0x0405, cancellable := true }) (body := cmdScanStep) rfl h
    ((scanStep_judged hh hm hd he hk h1 hn hp).trans (if_pos ?_))
  rw [ht]
  rfl

end

theorem scanStatus_tells (hp : f.payload = le 1 x.comp ++ le 3 0) :
    Reports (.cmdScanStatus f) s f x 0x0406 ((accepted s f x 0x0406 true).statusWords x.comp) := by
  have hlen : f.payload.length = 4 := by simp [hp, le_length]
  have hc : x.comp < 34 := hh.1
  have h0 : field f.payload 0 1 = x.comp := by
    simp [hp, field_append_left, le_length]
    omega
  refine reports_of (c := { code := 0x0406, cancellable := true, rereads := true }) (body := cmdScanStatus) rfl h ?_
  have htarget : targetOk (requestOf f x 0x0406) (accepted s f x 0x0406 true) x.comp = true := by simp [targetOk, requestOf_comp]
  unfold cmdScanStatus
  rw [scanOpen_open hh (fun h => absurd h Bool.false_ne_true) (fun h => absurd h Bool.false_ne_true)]
  dsimp only
  rw [requestOf_payload, hlen, h0, htarget]
  exact (if_neg (by omega)).trans (if_neg (by decide))

/-! #### What is refused by mode and D1 -/

omit hh in
/-- A command whose opening check refuses it. -/
theorem closed_refused {i : Instr} {c : CmdSpec} {pre : PreBody} {d1 fz : Bool} {st : Nat} {k : Req → State → State × Reply}
    (he : exec i s = .next (s.serve c f pre fun q t => match scanOpen q t d1 fz with | some st => (t, .no st) | none => k q t))
    (ho : scanOpen (requestOf f x c.code) (accepted s f x c.code c.cancellable) d1 fz = some st) : Reports' i s f x c.code st := by
  refine refuses_of he h ?_
  rw [ho]
  rfl

theorem scan_noD1 (hd : s.d1 x.comp = false) : Reports' (.cmdScanHold f) s f x 0x0403 0x0019 ∧
    Reports' (.cmdScanResume f) s f x 0x0404 0x0019 ∧ Reports' (.cmdScanForceList f) s f x 0x0432 0x0019 := by
  refine ⟨?_, ?_, ?_⟩
  · exact closed_refused h (c := { code := 0x0403 }) rfl (scanOpen_noD1 (frozen := true) hh hd _ _)
  · exact closed_refused h (c := { code := 0x0404 }) rfl (scanOpen_noD1 (frozen := true) hh hd _ _)
  · exact closed_refused h (c := { code := 0x0432, cancellable := true, rereads := true }) rfl (scanOpen_noD1 (frozen := false) hh hd _ _)

theorem scan_frozen (hm : s.mode = 9) (hd : s.d1 x.comp = true) : Reports' (.cmdScanStart f) s f x 0x0401 0x0040 ∧
    Reports' (.cmdScanStop f) s f x 0x0402 0x0040 ∧ Reports' (.cmdScanHold f) s f x 0x0403 0x0040 ∧
    Reports' (.cmdScanResume f) s f x 0x0404 0x0040 ∧ Reports' (.cmdScanStep f) s f x 0x0405 0x0040 ∧
    Reports' (.cmdScanForceSet f) s f x 0x0430 0x0040 ∧ Reports' (.cmdScanForceClear f) s f x 0x0431 0x0040 := by
  have open0 (code : Nat) (can : Bool) := scanOpen_frozen (d1 := false) (f := f) hh (fun h => absurd h Bool.false_ne_true) hm code can
  have open1 (code : Nat) (can : Bool) := scanOpen_frozen (d1 := true) (f := f) hh (fun _ => hd) hm code can
  refine ⟨?_, ?_, ?_, ?_, ?_, ?_, ?_⟩
  · exact closed_refused h (c := { code := 0x0401 }) rfl (open0 _ _)
  · exact closed_refused h (c := { code := 0x0402 }) rfl (open0 _ _)
  · exact closed_refused h (c := { code := 0x0403 }) rfl (open1 _ _)
  · exact closed_refused h (c := { code := 0x0404 }) rfl (open1 _ _)
  · exact closed_refused h (c := { code := 0x0405, cancellable := true }) rfl (open1 _ _)
  · exact closed_refused h (c := { code := 0x0430 }) rfl (open1 _ _)
  · exact closed_refused h (c := { code := 0x0431 }) rfl (open1 _ _)

end

/-- Settles O34. What a stop or a hold does to the tasks of an exchange in transfer leaves what is said alone. -/
theorem scanCommands : Obligations.ScanCommands := by
  unfold Obligations.ScanCommands
  intro f s x h hc h5 h9 c now st b
  have hh : Hosted s x := ⟨hc, h5, h9⟩
  refine ⟨fun hm cold hp => ⟨scanStart_running h hh hm hp, scanStart_starts h hh hm hp, scanStart_later h hh hm hp⟩,
    fun hm hp => ⟨scanStop_stopped h hh hm hp, scanStop_stopping h hh hm hp, scanStop_stops h hh hm hp⟩,
    fun hm hd hp => ⟨scanHold_reaches h hh hm hd hp, scanHold_waits h hh hm hd hp, scanHold_refused h hh hm hd hp,
      scanResume_runs h hh hm hd hp, scanResume_refused h hh hm hd hp⟩,
    fun hm hd e k n he hk h1 hn hp => ⟨scanStep_steps h hh hm hd he hk h1 hn hp, scanStep_unknown h hh hm hd he hk h1 hn hp⟩,
    fun hd _ => scan_noD1 h hh hd, scan_frozen h hh, scanStatus_tells h hh⟩

end Sys2Proof.Proofs
end

section
/-!
SUPPORT. The legacy ports and their transactions (spec/12 R314, R315, R317).
-/
namespace Sys2Proof.Machine
open Sys2Proof.Claims

@[simp] theorem State.lport_putLport_self (s : State) (p : Nat) (x : LbxPort) : (s.putLport p x).lport p = x := Tab.get_put_self _ _ _ _

/-! ### Which transaction is due first -/

theorem firstDue_first {l : List (Nat × Nat)} {w : Nat × Nat} (h : DueFirst l w) : firstDue l = some w := by
  obtain ⟨hm, hmin⟩ := h
  -- The one found comes first among all, so that it is the one that comes first.
  have hleast : ∀ l : List (Nat × Nat), l ≠ [] → ∃ v, firstDue l = some v ∧ DueFirst l v := by
    intro l hl
    induction l with
    | nil => exact absurd rfl hl
    | cons a l ih =>
      cases l with
      | nil =>
        refine ⟨a, rfl, List.mem_singleton.mpr rfl, fun v hv => ?_⟩
        rw [List.mem_singleton.mp hv]
        exact .inr ⟨rfl, Nat.le_refl _⟩
      | cons b l =>
        obtain ⟨v, hv, hin, hle⟩ := ih (List.cons_ne_nil b l)
        unfold firstDue
        rw [hv]
        dsimp only
        split
        next hlt =>
          refine ⟨a, rfl, List.mem_cons_self, fun u hu => ?_⟩
          rcases List.mem_cons.mp hu with rfl | hu
          · exact .inr ⟨rfl, Nat.le_refl _⟩
          · have := hle u hu
            omega
        next hge =>
          refine ⟨v, rfl, List.mem_cons_of_mem a hin, fun u hu => ?_⟩
          rcases List.mem_cons.mp hu with rfl | hu
          · omega
          · exact hle u hu
  obtain ⟨v, hv, hin, hle⟩ := hleast l (List.ne_nil_of_mem hm)
  rw [hv]
  have h1 := hle w hm
  have h2 := hmin v hin
  exact congrArg some (Prod.ext (by omega) (by omega))

/-! ### Fields of ports and mappings -/

/-- The key of an instance of a row, from the place of the first and the stride. -/
theorem Row.i_key {r : Row} {n st b : Nat} (hd : r.dims = [(n, st)]) (hb : 8 * r.base + r.lo = b) (k : Nat) : (r.i k).key = b + 8 * st * k := by
  have h : (r.i k).key = 8 * (r.base + k * st) + r.lo := by simp [Row.i, Row.at, Fld.key, hd]
  rw [h, ← hb, Nat.mul_add, Nat.mul_assoc, Nat.mul_comm k st]
  omega

theorem txnOk_key (p : Nat) : (Obj.LBX_PORT_TXN_OK.i p).key = 83886240 + 2048 * p := Row.i_key (st := 0x100) rfl rfl p

theorem txnFail_key (p : Nat) : (Obj.LBX_PORT_FAIL.i p).key = 83886272 + 2048 * p := Row.i_key (st := 0x100) rfl rfl p

theorem lastExc_key (p : Nat) : (Obj.LBX_PORT_LAST_EXC.i p).key = 83886336 + 2048 * p := Row.i_key (st := 0x100) rfl rfl p

theorem lbxOwner_key (p : Nat) : (Obj.LBX_PORT_OWNER.i p).key = 83886088 + 2048 * p := Row.i_key (st := 0x100) rfl rfl p

theorem lmapOn_key (m : Nat) : (Obj.LBX_MAP_ENABLE.i m).key = 84148237 + 128 * m := Row.i_key (st := 0x10) rfl rfl m

theorem lmapPort_key (m : Nat) : (Obj.LBX_MAP_PORT.i m).key = 84148240 + 128 * m := Row.i_key (st := 0x10) rfl rfl m

/-! ### Due transactions -/

/-- Whether a write mapping's point has changed since it was sent. -/
def State.lmapChanged (s : State) (m : Nat) : Prop := s.lmapWrite m = true ∧ s.sentOf m ≠ some (s.pt (s.lmapPoint m))

section
variable {s : State} {m : Nat}

theorem lbxPollDue_idle (h : ¬ (s.lmapOn m = true ∧ (s.lport (s.lmapPort m)).running = true ∧
    (s.lmapChanged m ∨ s.lmapWrite m = false ∨ s.rd (Obj.LBX_MAP_PERIOD.i m) ≠ 0))) : lbxPollDue m s = s := by
  unfold lbxPollDue
  refine if_pos ?_
  simp only [State.lmapChanged] at h
  simp only [Bool.or_eq_true, Bool.not_eq_true', Bool.or_eq_false_iff, Bool.and_eq_false_iff, bne_eq_false_iff_eq, Bool.not_eq_false']
  by_contra hn
  refine h ?_
  simp only [not_or, Bool.not_eq_false, not_and_or] at hn
  obtain ⟨⟨h1, h2⟩, h3⟩ := hn
  refine ⟨h1, h2, h3.imp (fun h => ?_) fun h => h.imp (fun h => ?_) fun h => h⟩
  · exact h
  · simpa using h

variable (hon : s.lmapOn m = true) (hrun : (s.lport (s.lmapPort m)).running = true)
  (hdue : s.lmapChanged m ∨ s.lmapWrite m = false ∨ s.rd (Obj.LBX_MAP_PERIOD.i m) ≠ 0)
include hon hrun hdue

theorem lbxPollDue_due : lbxPollDue m s =
    if (s.lport (s.lmapPort m)).waiting.any (fun w => w.2 == m) then
      (if s.lmapWrite m && s.sentOf m != some (s.pt (s.lmapPoint m)) then s else s.inc (Obj.LBX_PORT_LATE.i (s.lmapPort m)))
    else s.putLport (s.lmapPort m) { s.lport (s.lmapPort m) with waiting := (s.lport (s.lmapPort m)).waiting ++ [(s.floorTime, m)] } := by
  unfold lbxPollDue
  refine if_neg ?_
  rw [hon, hrun]
  simp only [State.lmapChanged] at hdue
  simp only [Bool.not_true, Bool.false_or, Bool.not_eq_true', Bool.or_eq_false_iff, Bool.and_eq_false_iff, bne_eq_false_iff_eq, Bool.not_eq_false']
  rintro ⟨h1, h2, h3⟩
  rcases hdue with ⟨hw, hs⟩ | hw | hp
  · exact h1.elim (fun h => absurd (hw.symm.trans h) (by decide)) hs
  · exact absurd (h2.symm.trans hw) (by decide)
  · exact hp h3

theorem lbxPollDue_waits (hn : ∀ w ∈ (s.lport (s.lmapPort m)).waiting, w.2 ≠ m) :
    ((lbxPollDue m s).lport (s.lmapPort m)).waiting = (s.lport (s.lmapPort m)).waiting ++ [(s.floorTime, m)] ∧
    (lbxPollDue m s).regs = s.regs ∧ (lbxPollDue m s).sent = s.sent := by
  rw [lbxPollDue_due hon hrun hdue, if_neg (by simpa using fun a hm => hn (a, m) hm rfl)]
  exact ⟨by rw [State.lport_putLport_self], rfl, rfl⟩

theorem lbxPollDue_merged (hw : ∃ w ∈ (s.lport (s.lmapPort m)).waiting, w.2 = m) :
    (s.lmapChanged m → lbxPollDue m s = s) ∧
    (¬ s.lmapChanged m → lbxPollDue m s = s.inc (Obj.LBX_PORT_LATE.i (s.lmapPort m))) := by
  obtain ⟨w, hm, he⟩ := hw
  have hany : ((s.lport (s.lmapPort m)).waiting.any fun w => w.2 == m) = true := List.any_eq_true.mpr ⟨w, hm, beq_iff_eq.mpr he⟩
  rw [lbxPollDue_due hon hrun hdue, if_pos hany]
  simp only [State.lmapChanged]
  refine ⟨fun h => if_pos ?_, fun h => if_neg ?_⟩
  · simpa using h
  · simpa using h

end

/-! ### Transactions -/

/-- What an idle port starts. -/
def State.txnOf (s : State) (p m : Nat) : LbxTxn :=
  { map := m, at_ := s.floorTime, left := s.rd (Obj.LBX_PORT_RETRIES.i p), timeout := s.rd (Obj.LBX_PORT_TIMEOUT.i p),
    owner := s.rd (Obj.LBX_PORT_OWNER.i p), mode := s.lmode p, point := s.lmapPoint m, write := s.lmapWrite m,
    format := s.rd (Obj.LBX_MAP_FORMAT.i m), addr := s.rd (Obj.LBX_MAP_ADDR.i m),
    select := s.rd (Obj.LBX_MAP_SELECT.i m), bytes := s.lbxRequest m (s.pt (s.lmapPoint m)) }

/-- A port as its next transaction leaves it. -/
def State.portAfter (s : State) (p m : Nat) : LbxPort :=
  let x := s.lport p
  let rest := x.waiting.filter fun z => z.2 != m
  if s.unanswered m then { x with waiting := rest, quietUntil := if isRs485 p then s.floorTime + 100000000 else s.floorTime }
  else { x with waiting := rest, cur := some (s.txnOf p m) }

/-- A write mapping remembers the value it sends. -/
def State.rememberSent (s : State) (m : Nat) : State :=
  if s.lmapWrite m then { s with lbx := { s.lbx with sentValue := s.lbx.sentValue.put m (some (s.pt (s.lmapPoint m))) } } else s

section
variable {s : State} {p : Nat}

theorem lbxTransactionStart_none
    (h : ¬ ((s.lport p).running = true ∧ s.halted 4 = false ∧ (s.lport p).cur = none ∧ (s.lport p).quietUntil ≤ s.floorTime) ∨
      (s.lport p).waiting = []) : lbxTransactionStart p s = s := by
  unfold lbxTransactionStart
  dsimp only
  rcases h with h | h
  · rw [if_neg (fun hb => h (by simpa [and_assoc] using hb))]
  · rw [h]
    split <;> simp_all [firstDue]

theorem lbxTransactionStart_starts {w : Nat × Nat} (hi : (s.lport p).running = true ∧ s.halted 4 = false ∧ (s.lport p).cur = none ∧
    (s.lport p).quietUntil ≤ s.floorTime) (hw : DueFirst (s.lport p).waiting w) :
    lbxTransactionStart p s = ((s.rememberSent w.2).putLport p (s.portAfter p w.2)).emit
      (.legacy p w.2 (s.lbxRequest w.2 (s.pt (s.lmapPoint w.2)))) := by
  have hb : ((s.lport p).running && ! s.halted 4 && (s.lport p).cur.isNone && decide ((s.lport p).quietUntil ≤ s.floorTime)) = true := by
    obtain ⟨h1, h2, h3, h4⟩ := hi
    simp [h1, h2, h3, h4]
  unfold lbxTransactionStart
  dsimp only
  rw [if_pos hb, firstDue_first hw]
  unfold State.portAfter State.rememberSent State.txnOf
  dsimp only
  split <;> rfl

end

/-! ### Attempts -/

section
variable {s t : State} {p : Nat} {c : LbxTxn}

theorem State.discarded_congr (h : ∀ g, 83886272 + 2048 * p ≠ g.key → 83886336 + 2048 * p ≠ g.key → t.rd g = s.rd g) :
    t.discarded p c = s.discarded p c := by
  have h1 : t.lmapOn c.map = s.lmapOn c.map := by
    unfold State.lmapOn State.on
    rw [h _ (by rw [lmapOn_key]; omega) (by rw [lmapOn_key]; omega)]
  have h2 : t.lmapPort c.map = s.lmapPort c.map := h _ (by rw [lmapPort_key]; omega) (by rw [lmapPort_key]; omega)
  have h3 : t.rd (Obj.LBX_PORT_OWNER.i p) = s.rd (Obj.LBX_PORT_OWNER.i p) := h _ (by rw [lbxOwner_key]; omega) (by rw [lbxOwner_key]; omega)
  unfold State.discarded
  rw [h1, h2, h3]

/-- The state in which the last attempt has failed, before its mapping is told. -/
def State.givenUp (s : State) (p : Nat) : State := (s.putLport p { s.lport p with cur := none }).inc (Obj.LBX_PORT_FAIL.i p)

theorem State.discarded_givenUp : (s.givenUp p).discarded p c = s.discarded p c :=
  State.discarded_congr fun _ h _ => State.rd_wr_ne _ _ _ _ (by rw [txnFail_key]; exact h)

theorem State.attemptEnded_eq (h : c.left = 0) : s.attemptEnded p c =
    let u := if c.write || s.discarded p c then s.givenUp p else (s.givenUp p).wr (Obj.PIMG_ATTR_STALE.i c.point) 1
    if isMbus p then u.sndNke p c.addr else u := by
  unfold State.attemptEnded
  dsimp only
  rw [if_neg (by omega), ← State.discarded_givenUp (s := s)]
  rfl

theorem State.attemptEnded_failed (s : State) (p : Nat) (c : LbxTxn) : AttemptFailed s (s.attemptEnded p c) p s.floorTime c := by
  refine ⟨fun h => ?_, fun h => ?_⟩
  · unfold State.attemptEnded
    dsimp only
    rw [if_pos h]
    exact ⟨by rw [State.lport, State.emit_lbx]; exact congrArg LbxPort.cur (State.lport_putLport_self _ _ _), rfl⟩
  · rw [State.attemptEnded_eq h]
    have hcur : ((s.givenUp p).lport p).cur = none := congrArg LbxPort.cur (State.lport_putLport_self _ _ _)
    have hfail : (s.givenUp p).rd (Obj.LBX_PORT_FAIL.i p) = (s.rd (Obj.LBX_PORT_FAIL.i p) + 1) % 2 ^ 32 := State.rd_wr_self _ _ _
    have hsent : (s.givenUp p).sent = s.sent := rfl
    generalize s.givenUp p = v at hcur hfail hsent
    -- The mark of a stale point lies apart from the port's count.
    have hmark : let u := if c.write || s.discarded p c then v else v.wr (Obj.PIMG_ATTR_STALE.i c.point) 1
        (u.lport p).cur = none ∧ u.rd (Obj.LBX_PORT_FAIL.i p) = (s.rd (Obj.LBX_PORT_FAIL.i p) + 1) % 2 ^ 32 ∧
        (c.write = false → s.discarded p c = false → u.rd (Obj.PIMG_ATTR_STALE.i c.point) = 1) ∧ u.sent = s.sent := by
      intro u
      by_cases hb : (c.write || s.discarded p c) = true
      · rw [show u = v from if_pos hb]
        exact ⟨hcur, hfail, fun h1 h2 => absurd hb (by simp [h1, h2]), hsent⟩
      · rw [show u = v.wr (Obj.PIMG_ATTR_STALE.i c.point) 1 from if_neg hb]
        refine ⟨hcur, ?_, fun _ _ => State.rd_wr_self _ _ _, hsent⟩
        refine (State.rd_wr_ne _ _ _ _ ?_).trans hfail
        rw [stale_key, txnFail_key]
        omega
    dsimp only at hmark ⊢
    generalize (if (c.write || s.discarded p c) = true then v else v.wr (Obj.PIMG_ATTR_STALE.i c.point) 1) = u at hmark
    obtain ⟨h1, h2, h3, h4⟩ := hmark
    by_cases hm : p < 14
    · rw [if_neg (by simp [isMbus]; omega), if_pos hm, List.append_nil]
      exact ⟨h1, h2, fun hw hd _ => h3 hw hd, h4⟩
    · rw [if_pos (by simp [isMbus]; omega), if_neg hm]
      refine ⟨h1, h2, fun hw hd _ => h3 hw hd, ?_⟩
      rw [← h4]
      rfl

theorem State.rd_attemptEnded_exc (s : State) (p : Nat) (c : LbxTxn) :
    (s.attemptEnded p c).rd (Obj.LBX_PORT_LAST_EXC.i p) = s.rd (Obj.LBX_PORT_LAST_EXC.i p) := by
  by_cases h : 0 < c.left
  · unfold State.attemptEnded
    dsimp only
    rw [if_pos h]
    rfl
  · rw [State.attemptEnded_eq (by omega)]
    have hgiven : (s.givenUp p).rd (Obj.LBX_PORT_LAST_EXC.i p) = s.rd (Obj.LBX_PORT_LAST_EXC.i p) :=
      State.rd_wr_ne _ _ _ _ (by rw [txnFail_key, lastExc_key]; omega)
    have hstale : ((s.givenUp p).wr (Obj.PIMG_ATTR_STALE.i c.point) 1).rd (Obj.LBX_PORT_LAST_EXC.i p) = s.rd (Obj.LBX_PORT_LAST_EXC.i p) :=
      (State.rd_wr_ne _ _ _ _ (by rw [stale_key, lastExc_key]; omega)).trans hgiven
    have hnke (u : State) (a : Nat) : (u.sndNke p a).rd (Obj.LBX_PORT_LAST_EXC.i p) = u.rd (Obj.LBX_PORT_LAST_EXC.i p) := rfl
    dsimp only
    split <;> split <;> simp only [hnke, hgiven, hstale]

/-- An exception's code stays, and the attempt it answers has failed. -/
theorem State.attemptEnded_exception (s : State) (p : Nat) (c : LbxTxn) (code : BitVec 8) :
    let t := (s.wr (Obj.LBX_PORT_LAST_EXC.i p) code.toNat).attemptEnded p c
    t.rd (Obj.LBX_PORT_LAST_EXC.i p) = code.toNat ∧ AttemptFailed s t p s.floorTime c := by
  intro t
  have hd : (s.wr (Obj.LBX_PORT_LAST_EXC.i p) code.toNat).discarded p c = s.discarded p c :=
    State.discarded_congr fun _ _ h => State.rd_wr_ne _ _ _ _ (by rw [lastExc_key]; exact h)
  have hf : (s.wr (Obj.LBX_PORT_LAST_EXC.i p) code.toNat).rd (Obj.LBX_PORT_FAIL.i p) = s.rd (Obj.LBX_PORT_FAIL.i p) :=
    State.rd_wr_ne _ _ _ _ (by rw [lastExc_key, txnFail_key]; omega)
  have he := State.rd_attemptEnded_exc (s.wr (Obj.LBX_PORT_LAST_EXC.i p) code.toNat) p c
  have ha := State.attemptEnded_failed (s.wr (Obj.LBX_PORT_LAST_EXC.i p) code.toNat) p c
  refine ⟨he.trans ((State.rd_wr_self _ _ _).trans (Nat.mod_eq_of_lt code.isLt)), ?_⟩
  unfold AttemptFailed at ha ⊢
  rw [hd, hf] at ha
  exact ha

/-! ### Answers -/

/-- A completed transaction. -/
def State.txnDone (s : State) (p : Nat) : State := (s.putLport p { s.lport p with cur := none }).inc (Obj.LBX_PORT_TXN_OK.i p)

theorem State.txnDone_facts (s : State) (p : Nat) : ((s.txnDone p).lport p).cur = none ∧ (s.txnDone p).sent = s.sent ∧
    (s.txnDone p).rd (Obj.LBX_PORT_TXN_OK.i p) = (s.rd (Obj.LBX_PORT_TXN_OK.i p) + 1) % 2 ^ 32 ∧
    Kept [Obj.LBX_PORT_TXN_OK.i p] s (s.txnDone p) := by
  refine ⟨congrArg LbxPort.cur (State.lport_putLport_self _ _ _), rfl, State.rd_wr_self _ _ _, ?_⟩
  exact (Kept.of_regs (t := s.putLport p { s.lport p with cur := none }) rfl).wr (List.mem_singleton.mpr rfl)

variable {a : LbxAnswer}

theorem lbxAnswer_deaf (h : (s.lport p).running = false ∨ (s.lport p).cutOff ≠ none ∨ (s.lport p).cur = none) : lbxAnswer p a s = s := by
  unfold lbxAnswer
  dsimp only
  split
  next => rfl
  next c hc =>
    split at hc
    next hb =>
      obtain ⟨h1, h2⟩ := Bool.and_eq_true_iff.mp hb
      rcases h with h | h | h
      · exact absurd (h1.symm.trans h) (by decide)
      · exact absurd (Option.isNone_iff_eq_none.mp h2) h
      · exact absurd (h.symm.trans hc) (by simp)
    next => exact nomatch hc

variable (hr : (s.lport p).running = true) (hcut : (s.lport p).cutOff = none) (hc : (s.lport p).cur = some c)
include hr hcut hc

theorem lbxAnswer_heard : lbxAnswer p a s = match a.exception with
    | some code => if isRs485 p && c.mode == 2 then (s.wr (Obj.LBX_PORT_LAST_EXC.i p) code.toNat).attemptEnded p c else s
    | none => if c.write then s.txnDone p else match c.value p a.data with
      | none => s
      | some v => if s.discarded p c then s.txnDone p
        else ((s.txnDone p).pimgWrite [PtWrite.whole c.point v]).wr (Obj.PIMG_ATTR_STALE.i c.point) 0 := by
  have hg : (if ((s.lport p).running && (s.lport p).cutOff.isNone) = true then (s.lport p).cur else none) = some c := by
    rw [hr, hcut, hc]
    rfl
  unfold lbxAnswer
  dsimp only
  rw [hg]
  rfl

end

/-- A read point takes the value of an answer. -/
theorem State.takeAnswer_facts {s : State} {pt : Nat} (v : Nat) (hh : s.scan.hold = none) (hp : pt < 8192) (p : Nat) :
    let t := ((s.txnDone p).pimgWrite [PtWrite.whole pt v]).wr (Obj.PIMG_ATTR_STALE.i pt) 0
    ((t.lport p).cur = none ∧ t.sent = s.sent ∧ t.rd (Obj.LBX_PORT_TXN_OK.i p) = (s.rd (Obj.LBX_PORT_TXN_OK.i p) + 1) % 2 ^ 32) ∧
    t.pt pt = v % 2 ^ 64 ∧ t.rd (Obj.PIMG_ATTR_STALE.i pt) = 0 ∧
    Kept [Obj.LBX_PORT_TXN_OK.i p, Obj.PIMG_PT.i pt, Obj.PIMG_ATTR_STALE.i pt] s t := by
  obtain ⟨h1, h2, h3, h4⟩ := s.txnDone_facts p
  have hh' : (s.txnDone p).scan.hold = none := hh
  generalize s.txnDone p = u at h1 h2 h3 h4 hh'
  have hw : u.pimgWrite [PtWrite.whole pt v] = u.wr (Obj.PIMG_PT.i pt) ((PtWrite.whole pt v).merge (u.pt pt)) := by
    unfold State.pimgWrite
    rw [hh']
    rfl
  rw [hw]
  dsimp only
  refine ⟨⟨h1, h2, ?_⟩, ?_, State.rd_wr_self _ _ _, ?_⟩
  · refine (State.rd_wr_ne _ _ _ _ ?_).trans ((State.rd_wr_ne _ _ _ _ ?_).trans h3)
    · rw [stale_key, txnOk_key]; omega
    · rw [pt_key, txnOk_key]; omega
  · refine (State.rd_wr_ne _ _ _ _ ?_).trans ((State.rd_wr_self _ _ _).trans ?_)
    · rw [stale_key, pt_key]; omega
    · rw [PtWrite.merge_whole]
      exact Nat.mod_mod _ _
  · exact ((h4.mono (by simp)).wr (by simp)).wr (by simp)

theorem lbxTimeout_none {s : State} {p : Nat} (h : (s.lport p).cur = none) : lbxTimeout p s = s := by
  unfold lbxTimeout
  rw [h]

theorem lbxTimeout_some {s : State} {p : Nat} {c : LbxTxn} (h : (s.lport p).cur = some c) :
    lbxTimeout p s = if c.at_ + c.timeout * 1000000 ≤ s.floorTime then s.attemptEnded p c else s := by
  unfold lbxTimeout
  rw [h]

end Sys2Proof.Machine
end

section
namespace Sys2Proof.Proofs
open Sys2Proof.Machine Sys2Proof.Claims

/-! ### Transactions of the legacy ports -/

/-- The bytes of a Modbus request (R317). -/
theorem modbusRequest_bytes (format addr select v : Nat) : let bytes := modbusRequest format addr select v
    bytes.take 4 = le 1 (addr % 256) ++ le 1 (bits select 16 8) ++ be 2 (select % 65536) ∧
    (bits select 16 8 ∈ [3, 4] → bytes.drop 4 = be 2 (if format ∈ [1, 2] then 1 else 2)) ∧
    (bits select 16 8 = 5 → bytes.drop 4 = be 2 (if v % 2 = 1 then 0xFF00 else 0)) := by
  intro bytes
  have hhead : (le 1 (addr % 256) ++ le 1 (bits select 16 8) ++ be 2 (select % 65536)).length = 4 := by simp [be, le_length]
  have htake (r : Bytes) : (le 1 (addr % 256) ++ le 1 (bits select 16 8) ++ be 2 (select % 65536) ++ r).take 4 =
      le 1 (addr % 256) ++ le 1 (bits select 16 8) ++ be 2 (select % 65536) := by rw [← hhead, List.take_left]
  have hdrop (r : Bytes) : (le 1 (addr % 256) ++ le 1 (bits select 16 8) ++ be 2 (select % 65536) ++ r).drop 4 = r := by
    rw [← hhead, List.drop_left]
  have hrest : ∃ r, bytes = le 1 (addr % 256) ++ le 1 (bits select 16 8) ++ be 2 (select % 65536) ++ r ∧
      (bits select 16 8 ∈ [3, 4] → r = be 2 (modbusRegs format)) ∧
      (bits select 16 8 = 5 → r = be 2 (if v % 2 = 1 then 0xFF00 else 0)) := by
    show ∃ r, modbusRequest format addr select v = _ ∧ _
    unfold modbusRequest
    dsimp only
    generalize bits select 16 8 = fc
    split
    next h => exact ⟨_, rfl, fun h3 => by simp at h3; omega, fun h5 => by omega⟩
    next =>
      split
      next h => exact ⟨_, rfl, fun _ => rfl, fun h5 => by omega⟩
      next h34 =>
        split
        next h => exact ⟨_, rfl, fun h3 => by simp at h3; omega, fun _ => rfl⟩
        next h5 =>
          split
          next => exact ⟨_, rfl, fun h3 => absurd (by simpa using h3) h34, fun h => absurd h h5⟩
          next =>
            exact ⟨be 2 (modbusRegs format) ++ (le 1 (2 * modbusRegs format) ++ modbusOut format v), by simp only [List.append_assoc],
              fun h3 => absurd (by simpa using h3) h34, fun h => absurd h h5⟩
  obtain ⟨r, hr, h34, h5⟩ := hrest
  rw [hr, htake, hdrop]
  refine ⟨rfl, fun h => (h34 h).trans ?_, h5⟩
  unfold modbusRegs
  simp

theorem lbxPollDue_clauses (s : State) (m : Nat) : let p := s.lmapPort m
    let x := s.lport p
    let t := lbxPollDue m s
    let changed := s.lmapWrite m = true ∧ s.sentOf m ≠ some (s.pt (s.lmapPoint m))
    let due := s.lmapOn m = true ∧ x.running = true ∧ (changed ∨ s.lmapWrite m = false ∨ s.rd (Obj.LBX_MAP_PERIOD.i m) ≠ 0)
    (¬ due → t = s) ∧
    (due → (∀ w ∈ x.waiting, w.2 ≠ m) → (t.lport p).waiting = x.waiting ++ [(s.floorTime, m)] ∧ t.regs = s.regs ∧ t.sent = s.sent) ∧
    (due → (∃ w ∈ x.waiting, w.2 = m) → (changed → t = s) ∧
      (¬ changed → t.lbx = s.lbx ∧ OneField s t (Obj.LBX_PORT_LATE.i p) ((s.rd (Obj.LBX_PORT_LATE.i p) + 1) % 2 ^ 32))) := by
  intro p x t changed due
  refine ⟨lbxPollDue_idle, fun ⟨hon, hrun, hd⟩ hn => lbxPollDue_waits hon hrun hd hn, fun ⟨hon, hrun, hd⟩ hw => ?_⟩
  obtain ⟨h1, h2⟩ := lbxPollDue_merged hon hrun hd hw
  refine ⟨h1, fun hc => ?_⟩
  rw [show t = s.inc (Obj.LBX_PORT_LATE.i p) from h2 hc]
  exact ⟨rfl, OneField.wr rfl rfl⟩

theorem lbxTransactionStart_clauses {s : State} {p : Nat} {w : Nat × Nat} (hi : (s.lport p).running = true ∧ s.halted 4 = false ∧
    (s.lport p).cur = none ∧ (s.lport p).quietUntil ≤ s.floorTime) (hw : DueFirst (s.lport p).waiting w) : let m := w.2
    let x := s.lport p
    let t := lbxTransactionStart p s
    let silent := s.lmapWrite m = true ∧ ((8 ≤ s.lmapPort m ∧ s.lmapPort m < 14) ∨
        (s.lmapPort m < 8 ∧ s.lmode (s.lmapPort m) = 2 ∧ s.rd (Obj.LBX_MAP_ADDR.i m) % 256 = 0))
    t.regs = s.regs ∧ (t.lport p).waiting = x.waiting.filter (fun z => z.2 != m) ∧
      (s.lmapWrite m = true → t.sentOf m = some (s.pt (s.lmapPoint m))) ∧
      (silent → (t.lport p).cur = none ∧ (p < 8 → (t.lport p).quietUntil = s.floorTime + 100000000)) ∧
      (¬ silent → (t.lport p).cur = some (s.txnOf p m)) ∧
      t.sent = s.sent ++ [.legacy p m (s.lbxRequest m (s.pt (s.lmapPoint m)))] := by
  intro m x t silent
  have hsil : silent ↔ s.unanswered m = true := by
    simp [silent, State.unanswered, isDali, isRs485, and_assoc]
  have hport : t.lport p = s.portAfter p m := by
    rw [show t = _ from lbxTransactionStart_starts hi hw]
    exact State.lport_putLport_self _ _ _
  have hrem : (s.rememberSent m).regs = s.regs ∧ (s.rememberSent m).sent = s.sent ∧
      (s.lmapWrite m = true → (s.rememberSent m).sentOf m = some (s.pt (s.lmapPoint m))) := by
    unfold State.rememberSent
    split
    · exact ⟨rfl, rfl, fun _ => Tab.get_put_self _ _ _ _⟩
    next h => exact ⟨rfl, rfl, fun hb => absurd hb h⟩
  obtain ⟨h1, h2, h3⟩ := hrem
  refine ⟨?_, ?_, fun hwr => ?_, fun h => ?_, fun h => ?_, ?_⟩
  · rw [show t = _ from lbxTransactionStart_starts hi hw]
    exact h1
  · rw [hport]
    unfold State.portAfter
    dsimp only
    split <;> rfl
  · rw [show t = _ from lbxTransactionStart_starts hi hw]
    exact h3 hwr
  · rw [hport, show s.portAfter p m = _ from if_pos (hsil.mp h)]
    obtain ⟨-, -, hcur, -⟩ := hi
    refine ⟨hcur, fun hp => ?_⟩
    exact if_pos (decide_eq_true hp)
  · rw [hport, show s.portAfter p m = _ from if_neg fun hb => h (hsil.mpr hb)]
  · rw [show t = _ from lbxTransactionStart_starts hi hw, ← h2]
    rfl

/-- What a port says for a Modbus mapping. -/
theorem lbxRequest_modbus {s : State} {m : Nat} (v : Nat) (h8 : s.lmapPort m < 8) (h2 : s.lmode (s.lmapPort m) = 2) :
    s.lbxRequest m v = modbusRequest (s.rd (Obj.LBX_MAP_FORMAT.i m)) (s.rd (Obj.LBX_MAP_ADDR.i m)) (s.rd (Obj.LBX_MAP_SELECT.i m)) v := by
  unfold State.lbxRequest
  dsimp only
  rw [if_neg (by simp [isDali]; omega), if_neg (by simp [isMbus]; omega), if_neg (by omega)]

section
variable {s : State} {p : Nat} {a : LbxAnswer} {c : LbxTxn}

theorem txnValue_modbus (hp : p < 8) (hm : c.mode = 2) (hs : bits c.select 16 8 = 3) (hf : c.format = 2) {hi lo : Byte}
    (ha : a.data = [hi, lo]) : c.value p a.data = some (hi.toNat * 256 + lo.toNat) := by
  unfold LbxTxn.value
  rw [if_neg (by simp [isMbus]; omega), if_neg (by simp [isDali]; omega), if_neg (by omega), hs, hf, ha]
  unfold modbusValue
  rw [if_neg (by decide)]
  have h1 : field [hi, lo] 0 1 = hi.toNat := by simp [field, unle]
  have h2 : field [hi, lo] 1 1 = lo.toNat := by simp [field, unle]
  simp [modbusRegs, h1, h2]

end

/-- Settles O47. Each event of a port acts on its state alone; what an attempt marks lies apart from what it counts. -/
theorem legacyTransactions : Obligations.LegacyTransactions := by
  unfold Obligations.LegacyTransactions
  refine ⟨fun m now s => ?_, fun port now s => ?_, fun port a now s => ?_, fun port now s => ?_⟩
  · intro b i p x changed due
    obtain ⟨h1, h2, h3⟩ := lbxPollDue_clauses b m.val
    refine ⟨fun h => ⟨_, rfl, h1 h⟩, fun h hn => ⟨_, rfl, h2 h hn⟩, fun h hw => ⟨fun hc => ⟨_, rfl, (h3 h hw).1 hc⟩, fun hc => ⟨_, rfl, (h3 h hw).2 hc⟩⟩⟩
  · intro b p i x idle
    refine ⟨fun h => ⟨_, rfl, lbxTransactionStart_none h⟩, fun w hi hw => ?_⟩
    intro m silent
    obtain ⟨h1, h2, h3, h4, h5, h6⟩ := lbxTransactionStart_clauses (s := b) hi hw
    refine ⟨_, rfl, h1, h2, h3, h4, fun hs => ⟨_, h5 hs, rfl, rfl, rfl, rfl, rfl, rfl⟩, _, h6, fun h8 hm => ?_⟩
    rw [lbxRequest_modbus (s := b) _ h8 hm]
    exact modbusRequest_bytes _ _ _ _
  · intro b p x i
    refine ⟨fun h => ⟨_, rfl, lbxAnswer_deaf h⟩, fun c hr hcut hc => ?_⟩
    intro done
    have hall := lbxAnswer_heard (s := b) (p := p) (a := a) hr hcut hc
    obtain ⟨d1, d2, d3, d4⟩ := b.txnDone_facts p
    refine ⟨fun he hw => ⟨_, rfl, ?_⟩, fun he hw hv => ⟨_, rfl, ?_⟩, fun v he hw hv => ⟨fun hd => ⟨_, rfl, ?_⟩, fun hd hh hp => ⟨_, rfl, ?_⟩⟩,
      fun hp hm hs hf hi lo ha => txnValue_modbus hp hm hs hf ha, fun code he => ⟨fun hp hm => ⟨_, rfl, ?_⟩, fun h => ⟨_, rfl, ?_⟩⟩⟩
    · rw [hall, he]
      dsimp only
      rw [if_pos hw]
      exact ⟨⟨d1, d2, d3⟩, d4⟩
    · rw [hall, he, hv]
      dsimp only
      rw [if_neg (by rw [hw]; decide)]
    · rw [hall, he, hv]
      dsimp only
      rw [if_neg (by rw [hw]; decide), if_pos (show b.discarded p c = true from hd)]
      exact ⟨⟨d1, d2, d3⟩, d4⟩
    · rw [hall, he, hv]
      dsimp only
      rw [if_neg (by rw [hw]; decide), if_neg (fun h : b.discarded p c = true => absurd (h.symm.trans hd) (by decide))]
      exact State.takeAnswer_facts (s := b) v hh hp p
    · rw [hall, he]
      dsimp only
      rw [if_pos (by simp [isRs485, hp, hm])]
      exact State.attemptEnded_exception b p c code
    · rw [hall, he]
      dsimp only
      refine if_neg ?_
      simp only [isRs485, Bool.and_eq_true, decide_eq_true_eq, beq_iff_eq]
      omega
  · intro b p i
    refine ⟨fun h => ⟨_, rfl, lbxTimeout_none h⟩, fun c hc => ?_⟩
    have hall := lbxTimeout_some (s := b) (p := p) hc
    refine ⟨fun h => ⟨_, rfl, ?_⟩, fun h => ⟨_, rfl, ?_⟩⟩
    · rw [hall, if_pos h]
      exact State.attemptEnded_failed b p c
    · rw [hall, if_neg (by omega)]

end Sys2Proof.Proofs
end

section
namespace Sys2Proof.Proofs
open Sys2Proof.Machine Sys2Proof.Claims

/-! ### DALI-2, M-Bus and MS/TP -/

/-- Points that take one value: each of them has it, and no other field changes. -/
theorem applyPts_same {v : Nat} (hv : v < 2 ^ 64) (l : List Nat) (s : State) :
    (∀ p ∈ l, (s.applyPts (l.map fun p => PtWrite.whole p v)).pt p = v) ∧
    (s.applyPts (l.map fun p => PtWrite.whole p v)).sent = s.sent ∧
    ∀ g : Fld, (∀ p ∈ l, (Obj.PIMG_PT.i p).key ≠ g.key) → (s.applyPts (l.map fun p => PtWrite.whole p v)).rd g = s.rd g := by
  -- A point holds the value once written, whatever is written after it.
  have hset (s : State) (p : Nat) : (s.applyPt (PtWrite.whole p v)).pt p = v := by
    refine (State.rd_wr_self _ _ _).trans ?_
    rw [PtWrite.merge_whole]
    show v % 2 ^ 64 % 2 ^ 64 = v
    omega
  have hkeep : ∀ (l : List Nat) (s : State) (p : Nat), s.pt p = v → (s.applyPts (l.map fun p => PtWrite.whole p v)).pt p = v := by
    intro l
    induction l with
    | nil => exact fun s p h => h
    | cons q l ih =>
      intro s p h
      refine ih _ p ?_
      by_cases hq : q = p
      · rw [hq]
        exact hset s p
      · refine (State.rd_wr_ne _ _ _ _ ?_).trans h
        show (Obj.PIMG_PT.i q).key ≠ (Obj.PIMG_PT.i p).key
        rw [pt_key, pt_key]
        omega
  induction l generalizing s with
  | nil => exact ⟨fun p h => absurd h List.not_mem_nil, rfl, fun _ _ => rfl⟩
  | cons q l ih =>
    obtain ⟨h1, h2, h3⟩ := ih (s.applyPt (PtWrite.whole q v))
    refine ⟨fun p hp => ?_, h2, fun g hg => ?_⟩
    · rcases List.mem_cons.mp hp with rfl | hp
      · exact hkeep l _ _ (hset s _)
      · exact h1 p hp
    · refine (h3 g fun p hp => hg p (List.mem_cons_of_mem q hp)).trans ?_
      exact State.rd_wr_ne _ _ _ _ (hg q List.mem_cons_self)

theorem daliEvent_deaf {s : State} {p : Nat} (ev : DaliEvent) (h : p < 8 ∨ 14 ≤ p ∨ (s.lport p).running = false) : daliEvent p ev s = s := by
  unfold daliEvent
  refine if_pos ?_
  simp only [isDali, Bool.or_eq_true, Bool.not_eq_true', decide_eq_false_iff_not]
  rcases h with h | h | h
  · exact .inl (by omega)
  · exact .inl (by omega)
  · exact .inr h

theorem daliEvent_heard {s : State} {p : Nat} (ev : DaliEvent) (h8 : 8 ≤ p) (h14 : p < 14) (hr : (s.lport p).running = true)
    (hh : s.scan.hold = none) : let t := daliEvent p ev s
    let goesTo (m : Nat) : Prop := m < 2048 ∧ s.lmapOn m = true ∧ s.lmapPort m = p ∧ s.lmapWrite m = false ∧
      s.rd (Obj.LBX_MAP_ADDR.i m) = ev.address ∧ 2 ≤ s.rd (Obj.LBX_MAP_SELECT.i m) % 256 ∧ bits (s.rd (Obj.LBX_MAP_SELECT.i m)) 8 8 = ev.inst
    (∀ m, goesTo m → t.pt (s.lmapPoint m) = ev.value.toNat) ∧ t.sent = s.sent ∧
      ∀ g : Fld, (∀ m, goesTo m → (Obj.PIMG_PT.i (s.lmapPoint m)).key ≠ g.key) → t.rd g = s.rd g := by
  intro t goesTo
  have hdef : ∃ l : List Nat, (∀ m, goesTo m ↔ m ∈ l) ∧ t = s.pimgWrite ((l.map s.lmapPoint).map fun p => PtWrite.whole p ev.value.toNat) := by
    refine ⟨(s.lmapsOf p).filter fun m => ! s.lmapWrite m && s.rd (Obj.LBX_MAP_ADDR.i m) == ev.address &&
      decide (2 ≤ s.rd (Obj.LBX_MAP_SELECT.i m) % 256) && bits (s.rd (Obj.LBX_MAP_SELECT.i m)) 8 8 == ev.inst, fun m => ?_, ?_⟩
    · simp [goesTo, State.lmapsOf, and_assoc]
      tauto
    · rw [List.map_map]
      show daliEvent p ev s = _
      unfold daliEvent
      refine if_neg ?_
      simp [isDali, h8, h14, hr]
  obtain ⟨l, hl, ht⟩ := hdef
  have hv : ev.value.toNat < 2 ^ 64 := Nat.lt_of_lt_of_le ev.value.isLt (by decide)
  obtain ⟨h1, h2, h3⟩ := applyPts_same hv (l.map s.lmapPoint) s
  have hw : t = s.applyPts ((l.map s.lmapPoint).map fun p => PtWrite.whole p ev.value.toNat) := by
    rw [ht]
    unfold State.pimgWrite
    rw [hh]
    split
    next he => rw [List.isEmpty_iff.mp he]; rfl
    next => rfl
  rw [hw]
  refine ⟨fun m hm => h1 _ (List.mem_map_of_mem ((hl m).mp hm)), h2, fun g hg => h3 g fun q hq => ?_⟩
  obtain ⟨m, hm, rfl⟩ := List.mem_map.mp hq
  exact hg m ((hl m).mpr hm)

section
variable {s : State} {p : Nat}

theorem mbusOverload_cuts (h : 14 ≤ p) (hr : (s.lport p).running = true) :
    mbusOverload p s = s.putLport p { s.lport p with cutOff := some (s.floorTime + 1000000000) } :=
  if_pos (by simp [isMbus, h, hr])

theorem mbusOverload_deaf (h : p < 14 ∨ (s.lport p).running = false) : mbusOverload p s = s := by
  refine if_neg ?_
  simp only [isMbus, Bool.and_eq_true, decide_eq_true_eq]
  rintro ⟨h1, h2⟩
  exact h.elim (by omega) fun h => absurd (h2.symm.trans h) (by decide)

theorem mbusOverloadRestore_none (h : (s.lport p).cutOff = none) : mbusOverloadRestore p s = s := by
  unfold mbusOverloadRestore
  rw [h]

theorem mbusOverloadRestore_some {u : Nat} (h : (s.lport p).cutOff = some u) :
    mbusOverloadRestore p s = if u ≤ s.floorTime then s.putLport p { s.lport p with cutOff := none } else s := by
  unfold mbusOverloadRestore
  rw [h]

variable (fr : MstpFrame)

theorem mstpFrame_deaf (h : ¬ (p < 8 ∧ s.lmode p = 1 ∧ (s.lport p).running = true ∧
    (fr.dst = s.rd (Obj.LBX_PORT_LOCAL_ADDR.i p) ∨ fr.dst = 255))) : mstpFrame p fr s = s := by
  unfold mstpFrame
  refine if_pos ?_
  simp only [isRs485, Bool.or_eq_true, Bool.not_eq_true', decide_eq_false_iff_not, bne_iff_ne, Bool.or_eq_false_iff, beq_eq_false_iff_ne]
  by_contra hn
  simp only [not_or, not_not, Bool.not_eq_false] at hn
  obtain ⟨⟨⟨h1, h2⟩, h3⟩, h4⟩ := hn
  exact h ⟨h1, h2, h3, by omega⟩

variable (hh : p < 8 ∧ s.lmode p = 1 ∧ (s.lport p).running = true ∧ (fr.dst = s.rd (Obj.LBX_PORT_LOCAL_ADDR.i p) ∨ fr.dst = 255))
include hh

theorem mstpFrame_heard : mstpFrame p fr s =
    if fr.ftype.toNat = 0 then
      match (s.lport p).nextStation with
      | some n => s.mstpSend p 0 n []
      | none => s.mstpSend p 1 ((s.rd (Obj.LBX_PORT_LOCAL_ADDR.i p) + 1) % (s.rd (Obj.LBX_PORT_MAX_MASTER.i p) + 1)) []
    else if fr.ftype.toNat = 1 then s.mstpSend p 2 fr.src []
    else if fr.ftype.toNat = 2 then s.putLport p { s.lport p with nextStation := some fr.src }
    else if fr.ftype.toNat = 3 then s.mstpSend p 4 fr.src fr.data
    else if fr.ftype.toNat = 5 ∨ fr.ftype.toNat = 6 then
      match whoIsRange fr.data with
      | some (lo, hi) =>
        let d := s.rd (Obj.LBX_PORT_DEV_INST.i p)
        if lo ≤ d ∧ d ≤ hi then s.mstpSend p 6 255 (be 1 0x10 ++ be 1 0 ++ be 1 0xC4 ++ be 4 (8 * 2 ^ 22 + d)) else s
      | none => s
    else s := by
  obtain ⟨h1, h2, h3, h4⟩ := hh
  unfold mstpFrame
  refine (if_neg ?_).trans rfl
  simpa [isRs485, h1, h2, h3] using fun h => h4.resolve_left h

theorem mstpFrame_clauses : let me := s.rd (Obj.LBX_PORT_LOCAL_ADDR.i p)
    let t := mstpFrame p fr s
    (∀ n, fr.ftype = 0 → (s.lport p).nextStation = some n → t = s.mstpSend p 0 n []) ∧
    (fr.ftype = 0 → (s.lport p).nextStation = none → t = s.mstpSend p 1 ((me + 1) % (s.rd (Obj.LBX_PORT_MAX_MASTER.i p) + 1)) []) ∧
    (fr.ftype = 1 → t = s.mstpSend p 2 fr.src []) ∧ (fr.ftype = 3 → t = s.mstpSend p 4 fr.src fr.data) ∧
    (fr.ftype = 2 → t.lport p = { s.lport p with nextStation := some fr.src } ∧ t.sent = s.sent) ∧
    (fr.ftype = 6 → fr.data = [0x10, 0x08] → s.rd (Obj.LBX_PORT_DEV_INST.i p) ≤ 2 ^ 22 →
      t = s.mstpSend p 6 255 (be 1 0x10 ++ be 1 0 ++ be 1 0xC4 ++ be 4 (8 * 2 ^ 22 + s.rd (Obj.LBX_PORT_DEV_INST.i p)))) := by
  intro me t
  have hall : t = _ := mstpFrame_heard fr hh
  refine ⟨fun n h0 hn => ?_, fun h0 hn => ?_, fun h => ?_, fun h => ?_, fun h => ?_, fun h hd hle => ?_⟩
  · rw [hall, h0, hn]
    rfl
  · rw [hall, h0, hn]
    rfl
  · rw [hall, h]
    rfl
  · rw [hall, h]
    rfl
  · rw [hall, h]
    exact ⟨State.lport_putLport_self _ _ _, rfl⟩
  · rw [hall, h, hd]
    exact if_pos (c := 0 ≤ s.rd (Obj.LBX_PORT_DEV_INST.i p) ∧ s.rd (Obj.LBX_PORT_DEV_INST.i p) ≤ 2 ^ 32)
      ⟨Nat.zero_le _, Nat.le_trans hle (by decide)⟩

end

/-! ### The commands of the legacy ports -/

theorem ones_mem {n i v a : Nat} (h : a ∈ ones n i v) : i ≤ a ∧ a < i + n := by
  induction n generalizing i v with
  | zero => exact absurd h List.not_mem_nil
  | succ n ih =>
    unfold ones at h
    split at h
    · rcases List.mem_cons.mp h with rfl | h
      · omega
      · have := ih h
        omega
    · have := ih h
      omega

theorem ones_nodup (n i v : Nat) : (ones n i v).Nodup := by
  induction n generalizing i v with
  | zero => exact List.nodup_nil
  | succ n ih =>
    unfold ones
    split
    · refine List.nodup_cons.mpr ⟨fun h => ?_, ih _ _⟩
      have := ones_mem h
      omega
    · exact ih _ _

section
variable {f : Frame} {s : State} {x : Session} {p : Nat} (h : Admitted s f x) (hh : Hosted s x) (hp256 : p < 256)
  (hp : f.payload = le 1 p ++ le 3 0)
include h hh hp256 hp

omit h hh hp256 in
theorem lbxPayload : f.payload.length = 4 := by simp [hp, le_length]

omit h hh in
theorem lbxPort_field : field f.payload 0 1 = p := by
  simp [hp, field_append_left, le_length]
  omega

omit h hh hp256 hp in
theorem accepted_sees (code : Nat) (can : Bool) : (accepted s f x code can).seesLegacy x.comp p = true ↔
    p < 16 ∧ (x.comp = 0 ∨ s.rd (Obj.LBX_PORT_OWNER.i p) = x.comp) := by
  simp [State.seesLegacy, accepted_rd]

omit h in
theorem daliAddress_judged : let a := accepted s f x 0x0610 false
    lbxDaliAddress (requestOf f x 0x0610) a =
      if ¬ (p < 16 ∧ (x.comp = 0 ∨ s.rd (Obj.LBX_PORT_OWNER.i p) = x.comp)) then (a, .no St.noObject)
      else if ! isDali p then (a, .no St.badValue)
      else if s.failed 4 || s.failed 14 then (a, .no St.unitFailed)
      else (a.draw.2, .ok (le 1 (ones 64 0 a.draw.1).length ++ le 3 0 ++ (ones 64 0 a.draw.1).flatMap fun a => le 1 a)) := by
  intro a
  unfold lbxDaliAddress
  rw [permitted_all hh]
  dsimp only
  rw [requestOf_payload, requestOf_comp, lbxPayload hp, lbxPort_field hp256 hp, accepted_failed, accepted_failed]
  refine (if_neg (by decide)).trans ((if_neg (by decide)).trans ?_)
  have hs := accepted_sees (f := f) (s := s) (x := x) (p := p) 0x0610 false
  by_cases hb : p < 16 ∧ (x.comp = 0 ∨ s.rd (Obj.LBX_PORT_OWNER.i p) = x.comp)
  · rw [if_neg (by rw [hs.mpr hb]; decide), if_neg (not_not.mpr hb)]
  · rw [if_pos (by rw [Bool.eq_false_iff.mpr fun h => hb (hs.mp h)]; rfl), if_pos hb]

omit h in
theorem mbusScan_judged : let a := accepted s f x 0x0611 false
    lbxMbusScan (requestOf f x 0x0611) a =
      if ¬ (p < 16 ∧ (x.comp = 0 ∨ s.rd (Obj.LBX_PORT_OWNER.i p) = x.comp)) then (a, .no St.noObject)
      else if ! isMbus p then (a, .no St.badValue)
      else if s.failed 4 || s.failed 14 then (a, .no St.unitFailed)
      else (a.draw.2.draw.2, .ok (le 1 (a.draw.1 % 251) ++ le 3 0 ++ le (8 * (a.draw.1 % 251)) a.draw.2.draw.1)) := by
  intro a
  unfold lbxMbusScan
  rw [permitted_all hh]
  dsimp only
  rw [requestOf_payload, requestOf_comp, lbxPayload hp, lbxPort_field hp256 hp, accepted_failed]
  refine (if_neg (by decide)).trans ((if_neg (by decide)).trans ?_)
  have hs := accepted_sees (f := f) (s := s) (x := x) (p := p) 0x0611 false
  by_cases hb : p < 16 ∧ (x.comp = 0 ∨ s.rd (Obj.LBX_PORT_OWNER.i p) = x.comp)
  · rw [if_neg (by rw [hs.mpr hb]; decide), if_neg (not_not.mpr hb), accepted_failed]
  · rw [if_pos (by rw [Bool.eq_false_iff.mpr fun h => hb (hs.mp h)]; rfl), if_pos hb]

theorem legacy_unseen (hs : ¬ (p < 16 ∧ (x.comp = 0 ∨ s.rd (Obj.LBX_PORT_OWNER.i p) = x.comp))) :
    Reports' (.cmdLbxDaliAddress f) s f x 0x0610 0x0020 ∧ Reports' (.cmdLbxMbusScan f) s f x 0x0611 0x0020 :=
  ⟨refuses_of (c := { code := 0x0610 }) (body := lbxDaliAddress) rfl h ((daliAddress_judged hh hp256 hp).trans (if_pos hs)),
   refuses_of (c := { code := 0x0611 }) (body := lbxMbusScan) rfl h ((mbusScan_judged hh hp256 hp).trans (if_pos hs))⟩

variable (hs : p < 16 ∧ (x.comp = 0 ∨ s.rd (Obj.LBX_PORT_OWNER.i p) = x.comp))
include hs

theorem daliAddress_notDali (hk : p < 8 ∨ 14 ≤ p) : Reports' (.cmdLbxDaliAddress f) s f x 0x0610 0x0022 :=
  refuses_of (c := { code := 0x0610 }) (body := lbxDaliAddress) rfl h
    ((daliAddress_judged hh hp256 hp).trans ((if_neg (not_not.mpr hs)).trans (if_pos (by simp [isDali]; omega))))

theorem mbusScan_notMbus (hk : p < 14) : Reports' (.cmdLbxMbusScan f) s f x 0x0611 0x0022 :=
  refuses_of (c := { code := 0x0611 }) (body := lbxMbusScan) rfl h
    ((mbusScan_judged hh hp256 hp).trans ((if_neg (not_not.mpr hs)).trans (if_pos (by simp [isMbus]; omega))))

variable (h4 : s.failed 4 = false) (h14 : s.failed 14 = false)
include h4 h14

theorem daliAddress_gives (h8 : 8 ≤ p) (hk : p < 14) : Completes (.cmdLbxDaliAddress f) s fun t => Untouched s t ∧
    ∃ l : List Nat, l.Nodup ∧ (∀ a ∈ l, a < 64) ∧
      Answers s t f x 0x0610 0 (le 1 l.length ++ le 3 0 ++ l.flatMap fun a => le 1 a) := by
  have hb := (daliAddress_judged hh hp256 hp).trans ((if_neg (not_not.mpr hs)).trans ((if_neg (by simp [isDali, h8, hk])).trans
    (if_neg (by rw [h4, h14]; decide))))
  have hsp : Speaks (accepted s f x 0x0610 false) f x := accepted_session h
  have hu := untouched_accepted s f x 0x0610 false
  have hsent := accepted_sent s f x 0x0610 false
  generalize (accepted s f x 0x0610 false).draw.1 = v at hb
  refine completes_ok (c := { code := 0x0610 }) (body := lbxDaliAddress) rfl h hb (hsp.congr rfl) fun ss cn => ⟨hu, ones 64 0 v, ones_nodup _ _ _, fun a ha => ?_, ?_⟩
  · have := ones_mem ha
    omega
  · unfold Answers
    rw [← hsent]
    rfl

theorem mbusScan_finds (hk : 14 ≤ p) : Completes (.cmdLbxMbusScan f) s fun t => Untouched s t ∧ ∃ n d, n ≤ 250 ∧ d.length = 8 * n ∧
    Answers s t f x 0x0611 0 (le 1 n ++ le 3 0 ++ d) := by
  have hb := (mbusScan_judged hh hp256 hp).trans ((if_neg (not_not.mpr hs)).trans ((if_neg (by simp [isMbus, hk])).trans
    (if_neg (by rw [h4, h14]; decide))))
  have hsp : Speaks (accepted s f x 0x0611 false) f x := accepted_session h
  have hu := untouched_accepted s f x 0x0611 false
  have hsent := accepted_sent s f x 0x0611 false
  generalize (accepted s f x 0x0611 false).draw.1 = n at hb
  generalize (accepted s f x 0x0611 false).draw.2.draw.1 = v at hb
  refine completes_ok (c := { code := 0x0611 }) (body := lbxMbusScan) rfl h hb ((hsp.congr rfl).congr rfl)
    fun ss cn => ⟨hu, n % 251, le (8 * (n % 251)) v, by omega, le_length _ _, ?_⟩
  unfold Answers
  rw [← hsent]
  rfl

end

/-- Settles O48. The points that take an event's value take one value, in whatever order they are written. -/
theorem legacyBuses : Obligations.LegacyBuses := by
  unfold Obligations.LegacyBuses
  refine ⟨fun port ev now s => ?_, fun port now s => ?_, fun port fr now s => ?_, fun f s x p h hh hp256 hp => ?_⟩
  · intro b p i goesTo
    exact ⟨fun h => ⟨_, rfl, daliEvent_deaf (s := b) ev h⟩, fun h8 h14 hr hh => ⟨_, rfl, daliEvent_heard (s := b) ev h8 h14 hr hh⟩⟩
  · intro b p
    refine ⟨fun h hr => ⟨_, rfl, ?_⟩, fun h => ⟨_, rfl, mbusOverload_deaf (s := b) h⟩, fun u hu => ⟨fun hle => ⟨_, rfl, ?_⟩, fun hlt => ⟨_, rfl, ?_⟩⟩,
      fun h => ⟨_, rfl, mbusOverloadRestore_none (s := b) h⟩⟩
    · rw [mbusOverload_cuts (s := b) h hr]
      exact ⟨State.lport_putLport_self _ _ _, rfl, rfl⟩
    · rw [mbusOverloadRestore_some (s := b) hu, if_pos hle]
      exact ⟨State.lport_putLport_self _ _ _, rfl⟩
    · rw [mbusOverloadRestore_some (s := b) hu, if_neg (by omega)]
  · intro b p i me heard sends
    refine ⟨fun h => ⟨_, rfl, mstpFrame_deaf (s := b) fr h⟩, fun h => ?_⟩
    obtain ⟨h1, h2, h3, h4, h5, h6⟩ := mstpFrame_clauses (s := b) fr h
    exact ⟨fun n h0 hn => ⟨_, rfl, h1 n h0 hn⟩, fun h0 hn => ⟨_, rfl, h2 h0 hn⟩, fun h => ⟨_, rfl, h3 h⟩, fun h => ⟨_, rfl, h4 h⟩,
      fun h => ⟨_, rfl, h5 h⟩, fun h hd hle => ⟨_, rfl, h6 h hd hle⟩⟩
  · exact ⟨legacy_unseen h hh hp256 hp, daliAddress_notDali h hh hp256 hp, mbusScan_notMbus h hh hp256 hp,
      fun hs h4 h14 => ⟨daliAddress_gives h hh hp256 hp hs h4 h14, mbusScan_finds h hh hp256 hp hs h4 h14⟩⟩

end Sys2Proof.Proofs
end

section
namespace Sys2Proof.Proofs
open Sys2Proof.Machine Sys2Proof.Claims

/-! ### Entries and points -/

section
variable {s : State}

theorem vlanOf_of_is {vid v : Nat} (h : VlanIs s vid v) : s.vlanOf vid = some v := by
  obtain ⟨hv, hon, hvid, hmin⟩ := h
  refine List.find?_range_eq_some.mpr ⟨by simp [hon, hvid], List.mem_range.mpr hv, fun w hw => ?_⟩
  cases hb : s.on (Obj.NSW_VLAN_ENABLE.i w) with
  | false => rfl
  | true => simpa using hmin w hw hb

theorem mem_entriesOf {c sv m : Nat} : m ∈ s.entriesOf c sv ↔ Entry s c sv m := by
  simp [State.entriesOf, Entry, and_assoc]

/-- The first entry with a property, in the order of their numbers. -/
theorem find_entriesOf {c sv m : Nat} {P : Nat → Bool} (hm : Entry s c sv m) (hP : P m = true)
    (hmin : ∀ n, n < m → Entry s c sv n → P n = false) : (s.entriesOf c sv).find? P = some m := by
  unfold State.entriesOf
  rw [List.find?_filter]
  obtain ⟨hlt, hon, hsv, hc⟩ := hm
  refine List.find?_range_eq_some.mpr ⟨by simp [hon, hsv, hc, hP], List.mem_range.mpr hlt, fun n hn => ?_⟩
  by_cases he : Entry s c sv n
  · simp [hmin n hn he]
  · have hn4 : n < 4096 := by omega
    simp only [Entry, hn4, true_and, not_and] at he
    simp only [Bool.and_eq_true, beq_iff_eq, Bool.not_eq_true', decide_eq_false_iff_not]
    tauto

theorem find_entriesOf_none {c sv : Nat} {P : Nat → Bool} (h : ∀ n, Entry s c sv n → P n = false) :
    (s.entriesOf c sv).find? P = none :=
  List.find?_eq_none.mpr fun n hn => by rw [h n (mem_entriesOf.mp hn)]; decide

theorem entriesOf_isEmpty {c sv : Nat} (h : ∀ m, ¬ Entry s c sv m) : (s.entriesOf c sv).isEmpty = true := by
  rw [List.isEmpty_iff]
  exact List.eq_nil_iff_forall_not_mem.mpr fun m hm => h m (mem_entriesOf.mp hm)

theorem entriesOf_nonempty {c sv : Nat} (h : ∃ m, Entry s c sv m) : (s.entriesOf c sv).isEmpty = false := by
  obtain ⟨m, hm⟩ := h
  exact Bool.eq_false_iff.mpr fun he => List.not_mem_nil (List.isEmpty_iff.mp he ▸ mem_entriesOf.mpr hm)

/-- A value written to one point, no capture being held. -/
theorem pimgWrite_one {p v : Nat} (hh : s.scan.hold = none) :
    s.pimgWrite [PtWrite.whole p v] = s.wr (Obj.PIMG_PT.i p) (v % 2 ^ 64) := by
  unfold State.pimgWrite
  rw [hh]
  show s.wr (Obj.PIMG_PT.i p) ((PtWrite.whole p v).merge (s.pt p)) = _
  rw [PtWrite.merge_whole]

theorem pimgWrite_oneField {p v : Nat} (hh : s.scan.hold = none) :
    OneField s (s.pimgWrite [PtWrite.whole p v]) (Obj.PIMG_PT.i p) (v % 2 ^ 64) := by
  rw [pimgWrite_one hh]
  exact OneField.wr rfl (Nat.mod_mod _ _)

end

/-! ### BACnet/IP -/

/-- The first active priority. -/
theorem firstActive_set {l : List (Option Nat)} {k v : Nat} (hk : k < l.length) (hn : ∀ j, j < k → l.getD j none = none) :
    ((l.set k (some v)).filterMap id).head? = some v := by
  induction l generalizing k with
  | nil => exact absurd hk (Nat.not_lt_zero _)
  | cons a l ih =>
    cases k with
    | zero => rfl
    | succ k =>
      have ha : a = none := hn 0 (Nat.succ_pos k)
      subst ha
      rw [List.set_cons_succ, List.filterMap_cons_none rfl]
      exact ih (Nat.lt_of_succ_lt_succ hk) fun j hj => hn (j + 1) (Nat.succ_lt_succ hj)

theorem noneActive_set {l : List (Option Nat)} {k : Nat} (hn : ∀ j, j ≠ k → l.getD j none = none) :
    ((l.set k none).filterMap id).head? = none := by
  have hall : ∀ a ∈ l.set k none, a = none := by
    intro a ha
    obtain ⟨j, hj, rfl⟩ := List.mem_iff_getElem.mp ha
    rw [List.getElem_set]
    split
    · rfl
    next hne =>
      have := hn j fun h => hne h.symm
      rw [List.length_set] at hj
      rwa [List.getD_eq_getElem l none hj] at this
  have hnil : (l.set k none).filterMap id = [] := List.filterMap_eq_nil_iff.mpr fun a ha => hall a ha
  rw [hnil]
  rfl

/-- The sixteen priorities of an object, as they stand. -/
def priorities (x : Service) : List (Option Nat) := x.prio ++ List.replicate (16 - x.prio.length) none

theorem priorities_getD (x : Service) (k : Nat) : (priorities x).getD k none = x.prio.getD k none := by
  unfold priorities
  simp only [List.getD_eq_getElem?_getD, List.getElem?_append]
  split
  · rfl
  next h =>
    rw [List.getElem?_eq_none (Nat.le_of_not_lt h)]
    rcases lt_or_ge (k - x.prio.length) (16 - x.prio.length) with h2 | h2
    · rw [List.getElem?_replicate, if_pos h2]
      rfl
    · rw [List.getElem?_replicate, if_neg (by omega)]

theorem priorities_length (x : Service) : 16 ≤ (priorities x).length := by
  unfold priorities
  rw [List.length_append, List.length_replicate]
  omega

/-- Writing a priority, no capture being held: the highest active one, or the SAFE value, is what the point holds. -/
theorem command_writes {s : State} {m k w : Nat} {x : Option Nat} (hh : s.scan.hold = none)
    (hw : ((((priorities (s.service m)).set (k - 1) x).filterMap id).head?.getD (s.rd (Obj.SCE_STOP_SAFE.i (s.rd (Obj.NSW_SE_POINT.i m))))) = w) :
    (s.command m k x).sent = s.sent ∧ OneField s (s.command m k x) (Obj.PIMG_PT.i (s.rd (Obj.NSW_SE_POINT.i m))) (w % 2 ^ 64) := by
  have h : s.command m k x = (s.putService m { s.service m with prio := (priorities (s.service m)).set (k - 1) x }).wr
      (Obj.PIMG_PT.i (s.rd (Obj.NSW_SE_POINT.i m))) (w % 2 ^ 64) := by
    rw [← hw]
    exact pimgWrite_one (s := s.putService m { s.service m with prio := (priorities (s.service m)).set (k - 1) x }) hh
  rw [h]
  exact ⟨rfl, OneField.wr rfl (Nat.mod_mod _ _)⟩

section
variable {s : State} {rq : BacnetRequest} {v : Nat}

theorem bacnet_off (h : s.pcxServes = false) : bacnetRequest rq s = s := by
  unfold bacnetRequest
  rw [h]
  rfl

variable (hv : VlanIs s rq.vlan v) (hp : s.pcxServes = true)
include hv hp

theorem bacnet_judged : bacnetRequest rq s = let c := s.rd (Obj.NSW_VLAN_OWNER.i v)
    if (s.entriesOf c 0).isEmpty then s
    else if rq.kind = 3 then s.emit (.service c svIAm 0 (s.rd (Obj.NSW_SVC_BAC_DEV_INST.i c)))
    else if rq.kind = 5 then s.emit (.service c svRefused 0 0)
    else if 5 < rq.kind then s.emit (.service c svUnsupported 0 0)
    else match (s.entriesOf c 0).find? fun m => s.rd (Obj.NSW_SE_OBJ_TYPE.i m) == rq.objType && s.rd (Obj.NSW_SE_INSTANCE.i m) == rq.inst with
      | none => if rq.kind = 4 then s else s.emit (.service c svUnknown 0 0)
      | some m =>
        let p := s.rd (Obj.NSW_SE_POINT.i m)
        if rq.kind = 0 then s.emit (.service c svRead p (s.objectValue m))
        else if rq.kind = 1 then s.writeObject c m rq
        else if rq.kind = 2 then (s.putService m { s.service m with subscribed := true }).emit (.service c svSubscribed p 0)
        else s.emit (.service c svIHave p (s.rd (Obj.NSW_SVC_BAC_DEV_INST.i c))) := by
  unfold bacnetRequest
  rw [hp, vlanOf_of_is hv]
  generalize hes : s.entriesOf (s.rd (Obj.NSW_VLAN_OWNER.i v)) 0 = es
  dsimp only [Option.map_some]
  rw [hes]
  cases es.find? fun m => s.rd (Obj.NSW_SE_OBJ_TYPE.i m) == rq.objType && s.rd (Obj.NSW_SE_INSTANCE.i m) == rq.inst with
  | none => exact if_neg (by decide)
  | some m => exact if_neg (by decide)

theorem bacnet_empty (h : ∀ m, ¬ Entry s (s.rd (Obj.NSW_VLAN_OWNER.i v)) 0 m) : bacnetRequest rq s = s :=
  (bacnet_judged hv hp).trans (if_pos (entriesOf_isEmpty h))

variable (he : ∃ m, Entry s (s.rd (Obj.NSW_VLAN_OWNER.i v)) 0 m)
include he

theorem bacnet_whoIs (hk : rq.kind = 3) : bacnetRequest rq s =
    s.emit (.service (s.rd (Obj.NSW_VLAN_OWNER.i v)) svIAm 0 (s.rd (Obj.NSW_SVC_BAC_DEV_INST.i (s.rd (Obj.NSW_VLAN_OWNER.i v))))) :=
  (bacnet_judged hv hp).trans ((if_neg (by rw [entriesOf_nonempty he]; decide)).trans (if_pos hk))

theorem bacnet_refuses (hk : rq.kind = 5) : bacnetRequest rq s = s.emit (.service (s.rd (Obj.NSW_VLAN_OWNER.i v)) svRefused 0 0) :=
  (bacnet_judged hv hp).trans ((if_neg (by rw [entriesOf_nonempty he]; decide)).trans ((if_neg (by omega)).trans (if_pos hk)))

theorem bacnet_unknown (hn : ∀ m, ¬ ObjectIs s (s.rd (Obj.NSW_VLAN_OWNER.i v)) rq.objType rq.inst m) (hk : rq.kind ≤ 2) :
    bacnetRequest rq s = s.emit (.service (s.rd (Obj.NSW_VLAN_OWNER.i v)) svUnknown 0 0) := by
  -- Were there any object of that type and instance, the lowest would be the one.
  have hnone : ∀ n, Entry s (s.rd (Obj.NSW_VLAN_OWNER.i v)) 0 n →
      (s.rd (Obj.NSW_SE_OBJ_TYPE.i n) == rq.objType && s.rd (Obj.NSW_SE_INSTANCE.i n) == rq.inst) = false := by
    intro n
    induction n using Nat.strong_induction_on with
    | _ n ih =>
      intro hn'
      refine Bool.eq_false_iff.mpr fun hb => hn n ⟨⟨hn', ?_⟩, fun k hk hkk => ?_⟩
      · simpa using hb
      · obtain ⟨h1, h2⟩ := hkk
        have := ih k hk h1
        simp [h2] at this
  refine (bacnet_judged hv hp).trans ((if_neg (by rw [entriesOf_nonempty he]; decide)).trans ((if_neg (by omega)).trans ((if_neg (by omega)).trans
    ((if_neg (by omega)).trans ?_))))
  rw [find_entriesOf_none hnone]
  exact if_neg (by omega)

omit he
variable {m : Nat} (hm : ObjectIs s (s.rd (Obj.NSW_VLAN_OWNER.i v)) rq.objType rq.inst m)
include hm

theorem bacnet_object (hk : rq.kind ≤ 2) : bacnetRequest rq s = let c := s.rd (Obj.NSW_VLAN_OWNER.i v)
    let p := s.rd (Obj.NSW_SE_POINT.i m)
    if rq.kind = 0 then s.emit (.service c svRead p (s.objectValue m))
    else if rq.kind = 1 then s.writeObject c m rq
    else (s.putService m { s.service m with subscribed := true }).emit (.service c svSubscribed p 0) := by
  obtain ⟨⟨he, ht, hi⟩, hmin⟩ := hm
  refine (bacnet_judged hv hp).trans ((if_neg (by rw [entriesOf_nonempty ⟨m, he⟩]; decide)).trans ((if_neg (by omega)).trans ((if_neg (by omega)).trans
    ((if_neg (by omega)).trans ?_))))
  rw [find_entriesOf he (by simp [ht, hi]) fun n hn hen => by
    have := hmin n hn
    simpa [hen] using this]
  dsimp only
  split
  · rfl
  · split
    · rfl
    · exact if_pos (by omega)

omit hv hp in
theorem objectType_of : s.rd (Obj.NSW_SE_OBJ_TYPE.i m) = rq.objType := by
  obtain ⟨⟨-, ht, -⟩, -⟩ := hm
  exact ht

theorem bacnet_read (hk : rq.kind = 0) : bacnetRequest rq s =
    s.emit (.service (s.rd (Obj.NSW_VLAN_OWNER.i v)) svRead (s.rd (Obj.NSW_SE_POINT.i m))
      (if rq.objType ∈ [3, 4, 5] then s.pt (s.rd (Obj.NSW_SE_POINT.i m)) % 2 else s.pt (s.rd (Obj.NSW_SE_POINT.i m)))) := by
  refine (bacnet_object hv hp hm (by omega)).trans ((if_pos hk).trans ?_)
  unfold State.objectValue
  rw [objectType_of hm]
  simp [binaryTypes]

theorem bacnet_subscribes (hk : rq.kind = 2) : ((bacnetRequest rq s).service m).subscribed = true ∧ (bacnetRequest rq s).regs = s.regs ∧
    (bacnetRequest rq s).sent = s.sent ++ [.service (s.rd (Obj.NSW_VLAN_OWNER.i v)) svSubscribed (s.rd (Obj.NSW_SE_POINT.i m)) 0] := by
  rw [(bacnet_object hv hp hm (by omega)).trans ((if_neg (by omega)).trans (if_neg (by omega)))]
  exact ⟨congrArg Service.subscribed (Tab.get_put_self _ _ _ _), rfl, rfl⟩

variable (hk : rq.kind = 1)
include hk

theorem bacnet_writes : bacnetRequest rq s = s.writeObject (s.rd (Obj.NSW_VLAN_OWNER.i v)) m rq :=
  (bacnet_object hv hp hm (by omega)).trans ((if_neg (by omega)).trans (if_pos hk))

theorem bacnet_denies (hf : ¬ (s.on (Obj.NSW_SE_WRITABLE.i m) = true ∧ s.setRefused (s.rd (Obj.NSW_SE_POINT.i m)) = false)) :
    bacnetRequest rq s = s.emit (.service (s.rd (Obj.NSW_VLAN_OWNER.i v)) svDenied (s.rd (Obj.NSW_SE_POINT.i m)) 0) := by
  rw [bacnet_writes hv hp hm hk]
  refine if_pos ?_
  unfold State.serviceWritable
  cases h1 : s.on (Obj.NSW_SE_WRITABLE.i m)
  · rfl
  · cases h2 : s.setRefused (s.rd (Obj.NSW_SE_POINT.i m))
    · exact absurd ⟨h1, h2⟩ hf
    · rfl

variable (hf : s.on (Obj.NSW_SE_WRITABLE.i m) = true ∧ s.setRefused (s.rd (Obj.NSW_SE_POINT.i m)) = false)
  (hh : s.scan.hold = none) (h1 : 1 ≤ rq.priority) (h16 : rq.priority ≤ 16)
include hf hh h1 h16

omit hh in
theorem bacnet_writesFree {x : Option Nat} (hx : rq.write.map (fun w => if rq.objType ∈ [3, 4, 5] then w.toNat % 2 else w.toNat) = x)
    (hr : ∀ y, x = some y → objectRange rq.objType y = true) : bacnetRequest rq s =
    let c := s.rd (Obj.NSW_VLAN_OWNER.i v)
    let p := s.rd (Obj.NSW_SE_POINT.i m)
    if rq.objType ∈ [1, 2, 4, 5, 19] then (s.command m rq.priority x).emit (.service c svWritten p 0)
    else match x with
      | some y => (s.pimgWrite [PtWrite.whole p y]).emit (.service c svWritten p 0)
      | none => s.emit (.service c svRange p 0) := by
  rw [bacnet_writes hv hp hm hk]
  obtain ⟨hw, hs⟩ := hf
  have hok : s.serviceWritable m = true := by
    unfold State.serviceWritable
    rw [hw, hs]
    rfl
  have hx' : rq.write.map (fun w => if binaryTypes.contains rq.objType then w.toNat % 2 else w.toNat) = x := by
    rw [← hx]
    simp [binaryTypes]
  unfold State.writeObject
  rw [objectType_of hm]
  dsimp only
  rw [hx', hok]
  refine (if_neg (by decide)).trans ((if_neg ?_).trans ?_)
  · rintro (h | h | h)
    · omega
    · omega
    · cases x with
      | none => exact absurd h Bool.false_ne_true
      | some y => simp [hr y rfl] at h
  · by_cases hc : rq.objType ∈ [1, 2, 4, 5, 19]
    · rw [if_pos hc, if_pos (by simpa [commandable] using hc)]
    · rw [if_neg hc, if_neg (by simpa [commandable] using hc)]
      cases x <;> rfl

theorem bacnet_sets {w : Word64} (hw : rq.write = some w) (hr : rq.objType ∈ [13, 19] → 1 ≤ w.toNat ∧ w.toNat ≤ 65535)
    (hn : rq.objType ∈ [1, 2, 4, 5, 19] → ∀ k, k + 1 < rq.priority → (s.service m).prio.getD k none = none) :
    (bacnetRequest rq s).sent = s.sent ++ [.service (s.rd (Obj.NSW_VLAN_OWNER.i v)) svWritten (s.rd (Obj.NSW_SE_POINT.i m)) 0] ∧
    OneField s (bacnetRequest rq s) (Obj.PIMG_PT.i (s.rd (Obj.NSW_SE_POINT.i m))) (if rq.objType ∈ [3, 4, 5] then w.toNat % 2 else w.toNat) := by
  have hlt : (if rq.objType ∈ [3, 4, 5] then w.toNat % 2 else w.toNat) < 2 ^ 64 := by
    have := w.isLt
    split <;> omega
  have hrange : objectRange rq.objType (if rq.objType ∈ [3, 4, 5] then w.toNat % 2 else w.toNat) = true := by
    by_cases hmulti : rq.objType ∈ [13, 19]
    · rw [if_neg (by simp only [List.mem_cons, List.not_mem_nil, or_false] at hmulti ⊢; omega)]
      simp [objectRange, hr hmulti]
    · have : multiTypes.contains rq.objType = false := by simpa [multiTypes] using hmulti
      unfold objectRange
      rw [this]
      rfl
  generalize hval : (if rq.objType ∈ [3, 4, 5] then w.toNat % 2 else w.toNat) = val at hlt hrange
  have hall := bacnet_writesFree hv hp hm hk hf h1 h16 (x := some val) (by rw [hw, ← hval]; rfl)
    fun y hy => by rw [← Option.some.inj hy]; exact hrange
  by_cases hc : rq.objType ∈ [1, 2, 4, 5, 19]
  · have hwin := firstActive_set (l := priorities (s.service m)) (k := rq.priority - 1) (v := val)
      (by have := priorities_length (s.service m); omega) fun j hj => (priorities_getD _ _).trans (hn hc j (by omega))
    rw [hall]
    dsimp only
    obtain ⟨h1, h2⟩ := command_writes (x := some val) (w := val) hh (by rw [hwin]; rfl)
    rw [if_pos hc]
    rw [Nat.mod_eq_of_lt hlt] at h2
    generalize s.command m rq.priority (some val) = t at h1 h2
    exact ⟨congrArg (· ++ _) h1, h2⟩
  · rw [hall]
    dsimp only
    have h2 := pimgWrite_oneField (p := s.rd (Obj.NSW_SE_POINT.i m)) (v := val) hh
    have h1 : (s.pimgWrite [PtWrite.whole (s.rd (Obj.NSW_SE_POINT.i m)) val]).sent = s.sent := by
      rw [pimgWrite_one hh]
      rfl
    rw [if_neg hc]
    rw [Nat.mod_eq_of_lt hlt] at h2
    generalize s.pimgWrite [PtWrite.whole (s.rd (Obj.NSW_SE_POINT.i m)) val] = t at h1 h2
    exact ⟨congrArg (· ++ _) h1, h2⟩

theorem bacnet_relinquishes (hw : rq.write = none) (hc : rq.objType ∈ [1, 2, 4, 5, 19])
    (hn : ∀ k, k + 1 ≠ rq.priority → (s.service m).prio.getD k none = none) :
    (bacnetRequest rq s).sent = s.sent ++ [.service (s.rd (Obj.NSW_VLAN_OWNER.i v)) svWritten (s.rd (Obj.NSW_SE_POINT.i m)) 0] ∧
    OneField s (bacnetRequest rq s) (Obj.PIMG_PT.i (s.rd (Obj.NSW_SE_POINT.i m)))
      (s.rd (Obj.SCE_STOP_SAFE.i (s.rd (Obj.NSW_SE_POINT.i m))) % 2 ^ 64) := by
  have hall := bacnet_writesFree hv hp hm hk hf h1 h16 (x := none) (by rw [hw]; rfl) fun y hy => nomatch hy
  have hwin := noneActive_set (l := priorities (s.service m)) (k := rq.priority - 1)
    fun j hj => (priorities_getD _ _).trans (hn j (by omega))
  rw [hall]
  dsimp only
  obtain ⟨h1, h2⟩ := command_writes (k := rq.priority) (x := none) hh (congrArg (Option.getD · _) hwin)
  rw [if_pos hc]
  generalize s.command m rq.priority none = t at h1 h2
  exact ⟨congrArg (· ++ _) h1, h2⟩

end

/-- Settles O45. The lowest entry with an object's type and instance is the object. -/
theorem bacnetRequests : Obligations.BacnetRequests := by
  unfold Obligations.BacnetRequests
  intro rq now s b i
  refine ⟨fun h => ⟨_, rfl, bacnet_off (s := b) h⟩, fun v hv hp => ?_⟩
  intro c
  refine ⟨fun h => ⟨_, rfl, bacnet_empty (s := b) hv hp h⟩, fun he => ⟨fun hk => ⟨_, rfl, bacnet_whoIs (s := b) hv hp he hk⟩,
    fun hk => ⟨_, rfl, bacnet_refuses (s := b) hv hp he hk⟩, fun hn hk => ⟨_, rfl, bacnet_unknown (s := b) hv hp he hn hk⟩, fun m hm => ?_⟩⟩
  intro p free
  refine ⟨fun hk => ⟨_, rfl, bacnet_read (s := b) hv hp hm hk⟩, fun hk => ⟨_, rfl, bacnet_subscribes (s := b) hv hp hm hk⟩,
    fun hk hf => ⟨_, rfl, bacnet_denies (s := b) hv hp hm hk hf⟩, fun hk hf hh h1 h16 => ⟨fun w hw hr hn => ⟨_, rfl, ?_⟩, fun hw hc hn => ⟨_, rfl, ?_⟩⟩⟩
  · exact bacnet_sets (s := b) hv hp hm hk hf hh h1 h16 hw hr hn
  · exact bacnet_relinquishes (s := b) hv hp hm hk hf hh h1 h16 hw hc hn

/-! ### MQTT and notices -/

section
variable {s : State} {g : MqttMessage}

theorem mqtt_discards (h : s.pcxServes = false ∨ s.mqttUp g.comp = false ∨ (∀ m, ¬ (Entry s g.comp 1 m ∧ s.rd (Obj.NSW_SE_POINT.i m) = g.point)) ∨
    g.value = none ∨ s.setRefused g.point = true) : mqttMessage g s = s := by
  unfold mqttMessage
  by_cases hup : (! s.pcxServes || ! s.mqttUp g.comp) = true
  · exact if_pos hup
  · rw [if_neg hup]
    simp only [Bool.or_eq_true, Bool.not_eq_true', not_or, Bool.not_eq_false] at hup
    obtain ⟨h1, h2⟩ := hup
    split
    next m v hm hv =>
      have hp : s.rd (Obj.NSW_SE_POINT.i m) = g.point := by simpa using List.find?_some hm
      have hin := mem_entriesOf.mp (List.mem_of_find?_eq_some hm)
      rcases h with h | h | h | h | h
      · exact absurd (h1.symm.trans h) (by decide)
      · exact absurd (h2.symm.trans h) (by decide)
      · exact absurd ⟨hin, hp⟩ (h m)
      · exact absurd (hv.symm.trans h) (by simp)
      · refine if_neg ?_
        unfold State.serviceWritable
        rw [hp, h]
        simp
    next => rfl

theorem mqtt_writes {m : Nat} {v : Word64} (hs : s.pcxServes = true) (hu : s.mqttUp g.comp = true)
    (hm : Entry s g.comp 1 m ∧ s.rd (Obj.NSW_SE_POINT.i m) = g.point)
    (hmin : ∀ n, n < m → ¬ (Entry s g.comp 1 n ∧ s.rd (Obj.NSW_SE_POINT.i n) = g.point)) (hv : g.value = some v)
    (hw : s.on (Obj.NSW_SE_WRITABLE.i m) = true) (hr : s.setRefused g.point = false) :
    mqttMessage g s = s.pimgWrite [PtWrite.whole g.point v.toNat] := by
  obtain ⟨hin, hp⟩ := hm
  have hfind : ((s.entriesOf g.comp 1).find? fun m => s.rd (Obj.NSW_SE_POINT.i m) == g.point) = some m :=
    find_entriesOf hin (beq_iff_eq.mpr hp) fun n hn hen => beq_eq_false_iff_ne.mpr fun hp => hmin n hn ⟨hen, hp⟩
  unfold mqttMessage
  rw [hs, hu, hfind, hv]
  refine (if_neg (by decide)).trans (if_pos ?_)
  unfold State.serviceWritable
  rw [hp, hw, hr]
  rfl

end

/-- Whether a notice may go out: the value moved, and the last notice lies far enough back. -/
def noticeDue (s : State) (m : Nat) : Bool := match (s.service m).last with
  | none => true
  | some (old, at_) => moved (s.rd (Obj.NSW_SE_FORMAT.i m)) (s.rd (Obj.NSW_SE_COV_INC.i m)) old (s.pt (s.rd (Obj.NSW_SE_POINT.i m))) &&
    decide (at_ + s.rd (Obj.NSW_SE_PERIOD_MIN.i m) * 1000000 ≤ s.floorTime)

theorem covNotify_clauses (s : State) (m : Nat) : let t := covNotify m s
    let c := s.rd (Obj.NSW_SE_OWNER.i m)
    let sv := s.rd (Obj.NSW_SE_SERVICE.i m)
    let p := s.rd (Obj.NSW_SE_POINT.i m)
    let all := s.pcxServes = true ∧ s.on (Obj.NSW_SE_ENABLE.i m) = true ∧
      ((sv = 0 ∧ (s.service m).subscribed = true) ∨ (sv ≠ 0 ∧ s.mqttUp c = true)) ∧
      (∀ old at_, (s.service m).last = some (old, at_) →
        moved (s.rd (Obj.NSW_SE_FORMAT.i m)) (s.rd (Obj.NSW_SE_COV_INC.i m)) old (s.pt p) = true ∧
        at_ + s.rd (Obj.NSW_SE_PERIOD_MIN.i m) * 1000000 ≤ s.floorTime)
    (all → (t.service m).last = some (s.pt p, s.floorTime) ∧ t.regs = s.regs ∧
      t.sent = s.sent ++ [.service c (if sv = 0 then svNotify else svPublish) p (s.pt p)]) ∧
    (¬ all → t = s) := by
  intro t c sv p all
  have hwant : (if sv = 0 then (s.service m).subscribed else s.mqttUp c) = true ↔
      (sv = 0 ∧ (s.service m).subscribed = true) ∨ (sv ≠ 0 ∧ s.mqttUp c = true) := by
    by_cases h : sv = 0 <;> simp [h]
  have hdue : noticeDue s m = true ↔ ∀ old at_, (s.service m).last = some (old, at_) →
      moved (s.rd (Obj.NSW_SE_FORMAT.i m)) (s.rd (Obj.NSW_SE_COV_INC.i m)) old (s.pt p) = true ∧
      at_ + s.rd (Obj.NSW_SE_PERIOD_MIN.i m) * 1000000 ≤ s.floorTime := by
    unfold noticeDue
    cases (s.service m).last with
    | none => simp
    | some x =>
      obtain ⟨old, at_⟩ := x
      simp only [Bool.and_eq_true, decide_eq_true_eq, Option.some.injEq, Prod.mk.injEq]
      exact ⟨fun h _ _ ⟨h1, h2⟩ => h1 ▸ h2 ▸ h, fun h => h old at_ ⟨rfl, rfl⟩⟩
  have hcond : (s.pcxServes && s.on (Obj.NSW_SE_ENABLE.i m) && (if sv = 0 then (s.service m).subscribed else s.mqttUp c) &&
      noticeDue s m) = true ↔ all := by
    simp only [Bool.and_eq_true, hwant, hdue, all, and_assoc]
  have ht : t = if (s.pcxServes && s.on (Obj.NSW_SE_ENABLE.i m) && (if sv = 0 then (s.service m).subscribed else s.mqttUp c) &&
      noticeDue s m) = true then
      (s.putService m { s.service m with last := some (s.pt p, s.floorTime) }).emit
        (.service c (if sv = 0 then svNotify else svPublish) p (s.pt p)) else s := rfl
  refine ⟨fun h => ?_, fun h => ht.trans (if_neg fun hb => h (hcond.mp hb))⟩
  rw [ht, if_pos (hcond.mpr h)]
  exact ⟨congrArg Service.last (Tab.get_put_self _ _ _ _), rfl, rfl⟩

/-- Settles O46. The lowest entry of the point is the one whose topic a message is on. -/
theorem topicsAndNotices : Obligations.TopicsAndNotices := by
  unfold Obligations.TopicsAndNotices
  refine ⟨fun g now s => ?_, fun m now s => ?_⟩
  · intro b i mine
    refine ⟨fun h => ⟨_, rfl, mqtt_discards (s := b) h⟩, fun m v hs hu hm hmin hv hw hr => ?_⟩
    have hall := mqtt_writes (s := b) hs hu hm hmin hv hw hr
    refine ⟨fun hh => ⟨_, rfl, ?_⟩, fun hh => ⟨_, rfl, ?_⟩⟩
    · rw [hall, pimgWrite_one (s := b) hh]
      refine ⟨OneField.wr rfl ?_, rfl⟩
      exact (Nat.mod_mod _ _).trans (Nat.mod_eq_of_lt v.isLt)
    · rw [hall]
      have hheld : b.scan.hold.isSome = true := Option.isSome_iff_ne_none.mpr hh
      unfold State.pimgWrite
      rw [hheld]
      exact ⟨rfl, rfl⟩
  · intro b c sv p wanted due all
    obtain ⟨h1, h2⟩ := covNotify_clauses b m.val
    exact ⟨fun h => ⟨_, rfl, h1 h⟩, fun h => ⟨_, rfl, h2 h⟩⟩

end Sys2Proof.Proofs
end

section
/-!
SUPPORT. What the switch does to a frame (spec/12 R300 to R308): its counters, its tables, and the ports it sends on.
-/
namespace Sys2Proof.Machine
open Sys2Proof.Claims

/-! ### Counters of the switch -/

/-- Where the switch keeps what it counts and finds: the redundancy state, the ports' and the VLANs' counters. -/
def netKey (k : Nat) : Bool :=
  decide (92274784 ≤ k ∧ k < 92274944) || decide (92307456 ≤ k ∧ k < 92340224 ∧ 96 ≤ (k - 92307456) % 2048) ||
  decide (92340224 ≤ k ∧ k < 92356608 ∧ 64 ≤ (k - 92340224) % 256) || logKey k

theorem portRx_key (p : Nat) : (Obj.NSW_PORT_RX_FRAMES.i p).key = 92307552 + 2048 * p := Row.i_key (st := 0x100) rfl rfl p
theorem portTx_key (p : Nat) : (Obj.NSW_PORT_TX_FRAMES.i p).key = 92307584 + 2048 * p := Row.i_key (st := 0x100) rfl rfl p
theorem dropVlan_key (p : Nat) : (Obj.NSW_PORT_DROP_VLAN.i p).key = 92307616 + 2048 * p := Row.i_key (st := 0x100) rfl rfl p
theorem dropForm_key (p : Nat) : (Obj.NSW_PORT_DROP_FORM.i p).key = 92307648 + 2048 * p := Row.i_key (st := 0x100) rfl rfl p
theorem portOn_key (p : Nat) : (Obj.NSW_PORT_CFG_ENABLE.i p).key = 92307456 + 2048 * p := Row.i_key (st := 0x100) rfl rfl p
theorem vlanVid_key (v : Nat) : (Obj.NSW_VLAN_VID.i v).key = 92340224 + 256 * v := Row.i_key (st := 0x20) rfl rfl v
theorem vlanMembers_key (v : Nat) : (Obj.NSW_VLAN_MEMBERS.i v).key = 92340240 + 256 * v := Row.i_key (st := 0x20) rfl rfl v
theorem vlanOwner_key (v : Nat) : (Obj.NSW_VLAN_OWNER.i v).key = 92340248 + 256 * v := Row.i_key (st := 0x20) rfl rfl v
theorem vlanRate_key (v : Nat) : (Obj.NSW_VLAN_RATE.i v).key = 92340256 + 256 * v := Row.i_key (st := 0x20) rfl rfl v
theorem vlanRx_key (v : Nat) : (Obj.NSW_VLAN_RX_FRAMES.i v).key = 92340288 + 256 * v := Row.i_key (st := 0x20) rfl rfl v
theorem vlanTx_key (v : Nat) : (Obj.NSW_VLAN_TX_FRAMES.i v).key = 92340320 + 256 * v := Row.i_key (st := 0x20) rfl rfl v
theorem vlanDrop_key (v : Nat) : (Obj.NSW_VLAN_DROP_RATE.i v).key = 92340352 + 256 * v := Row.i_key (st := 0x20) rfl rfl v

theorem logKey_eq (k : Nat) : logKey k = (k % 2 ^ 40 == 1573088 || k % 2 ^ 40 == 1573120) := by
  unfold logKey
  rw [show (Obj.EVR_DROPPED.b 0).key = 1573088 from rfl, show (Obj.EVR_EVT_DROPPED.b 0).key = 1573120 from rfl]

theorem netKey_iff (k : Nat) : netKey k = true ↔ (92274784 ≤ k ∧ k < 92274944) ∨ (92307456 ≤ k ∧ k < 92340224 ∧ 96 ≤ (k - 92307456) % 2048) ∨
    (92340224 ≤ k ∧ k < 92356608 ∧ 64 ≤ (k - 92340224) % 256) ∨ k % 2 ^ 40 = 1573088 ∨ k % 2 ^ 40 = 1573120 := by
  simp [netKey, logKey_eq, or_assoc]

theorem netKey_false (k : Nat) : netKey k = false ↔ ¬ ((92274784 ≤ k ∧ k < 92274944) ∨ (92307456 ≤ k ∧ k < 92340224 ∧ 96 ≤ (k - 92307456) % 2048) ∨
    (92340224 ≤ k ∧ k < 92356608 ∧ 64 ≤ (k - 92340224) % 256) ∨ k % 2 ^ 40 = 1573088 ∨ k % 2 ^ 40 = 1573120) := by
  rw [← netKey_iff, Bool.not_eq_true]

/-! ### What may differ while a frame is handled -/

/-- Only counters, performance counts, records, the switch's tables and what is put out may differ; links stand. -/
structure NetWork (s t : State) : Prop where
  eq : t = { s with regs := t.regs, pmon := t.pmon, evr := t.evr, nsw := t.nsw, sent := t.sent }
  rd : Beyond netKey s t
  link : ∀ c, (t.cage c).link = (s.cage c).link

section
variable {s t u : State}

theorem NetWork.refl (s : State) : NetWork s s := ⟨rfl, .refl _ s, fun _ => rfl⟩

theorem NetWork.trans (h : NetWork s t) (k : NetWork t u) : NetWork s u := by
  refine ⟨?_, h.rd.trans k.rd, fun c => (k.link c).trans (h.link c)⟩
  rw [k.eq, h.eq]

theorem NetWork.floorTime (h : NetWork s t) : t.floorTime = s.floorTime := by rw [h.eq]

theorem NetWork.scan (h : NetWork s t) : t.scan = s.scan := by rw [h.eq]

theorem NetWork.nswOn (h : NetWork s t) : t.nswOn = s.nswOn := by
  have hf : t.rd Obj.PWR_UNIT_FAIL.f = s.rd Obj.PWR_UNIT_FAIL.f := h.rd _ (by decide)
  have hm : t.mode = s.mode := h.rd _ (by decide)
  have hl : t.lcy = s.lcy := by rw [h.eq]
  unfold State.nswOn State.failed State.halted
  rw [hf, hm, hl]

theorem NetWork.portUsed (h : NetWork s t) (p : Nat) : t.portUsed p = s.portUsed p := by
  have hm : t.mode = s.mode := h.rd _ (by decide)
  have hb : t.rd Obj.NSW_BB_MODE.f = s.rd Obj.NSW_BB_MODE.f := h.rd _ (by decide)
  have hon : t.rd (Obj.NSW_PORT_CFG_ENABLE.i p) = s.rd (Obj.NSW_PORT_CFG_ENABLE.i p) := h.rd _ (by
    rw [netKey_false, portOn_key]
    omega)
  unfold State.portUsed State.on
  rw [h.nswOn, hm, hb, hon]

theorem NetWork.portSends (h : NetWork s t) (p : Nat) : t.portSends p = s.portSends p := by
  unfold State.portSends
  rw [h.portUsed, h.link]

theorem NetWork.perf (s : State) (u e c n : Nat) : NetWork s (s.perf u e c n) := by
  obtain ⟨cn, h⟩ := s.perf_counts u e c n
  rw [h]
  exact ⟨rfl, .of_regs _ rfl, fun _ => rfl⟩

theorem NetWork.inc (s : State) {f : Fld} (h : netKey f.key = true) (k : Nat) : NetWork s (s.inc f k) :=
  ⟨rfl, (Beyond.refl _ s).wr h _, fun _ => rfl⟩

theorem NetWork.wr (s : State) {f : Fld} (h : netKey f.key = true) (v : Nat) : NetWork s (s.wr f v) :=
  ⟨rfl, (Beyond.refl _ s).wr h _, fun _ => rfl⟩

theorem NetWork.emit (s : State) (o : Out) : NetWork s (s.emit o) := ⟨rfl, .of_regs _ rfl, fun _ => rfl⟩

theorem NetWork.raised {n : Nat} (h : Raised n s t) : NetWork s t := by
  refine ⟨?_, h.beyond fun k hk => by simp [netKey, hk], fun c => ?_⟩
  · rw [h.eq]
  · rw [h.eq]
    rfl

end

/-! ### Sending -/

/-- A frame out of a port that sends. -/
theorem State.egress_eq {s : State} {tag p : Nat} (h : s.portSends p = true) :
    ∃ cn, s.egress tag p = { s.inc (Obj.NSW_PORT_TX_FRAMES.i p) with
      pmon := { s.pmon with cnts := cn }, sent := s.sent ++ [.eth p tag] } := by
  unfold State.egress
  rw [if_pos h]
  dsimp only
  obtain ⟨c1, h1⟩ := (s.inc (Obj.NSW_PORT_TX_FRAMES.i p)).perf_counts 11 0x01 tag 1
  rw [h1]
  split
  · obtain ⟨c2, h2⟩ := State.perf_counts ({ s.inc (Obj.NSW_PORT_TX_FRAMES.i p) with pmon := { (s.inc (Obj.NSW_PORT_TX_FRAMES.i p)).pmon with cnts := c1 } }) 11 0x08 tag 1
    rw [h2]
    exact ⟨c2, rfl⟩
  · exact ⟨c1, rfl⟩

theorem State.egress_mute {s : State} {tag p : Nat} (h : s.portSends p = false) : s.egress tag p = s :=
  if_neg (by rw [h]; decide)

theorem State.egress_sent (s : State) (tag p : Nat) : (s.egress tag p).sent = s.sent ++ if s.portSends p then [.eth p tag] else [] := by
  by_cases h : s.portSends p = true
  · obtain ⟨cn, he⟩ := State.egress_eq (tag := tag) h
    rw [he, if_pos h]
  · rw [State.egress_mute (Bool.eq_false_iff.mpr h), if_neg h, List.append_nil]

theorem State.egress_nsw (s : State) (tag p : Nat) : (s.egress tag p).nsw = s.nsw := by
  by_cases h : s.portSends p = true
  · obtain ⟨cn, he⟩ := State.egress_eq (tag := tag) h
    rw [he]
    rfl
  · rw [State.egress_mute (Bool.eq_false_iff.mpr h)]

theorem State.rd_egress_ne (s : State) (tag p : Nat) {g : Fld} (h : (Obj.NSW_PORT_TX_FRAMES.i p).key ≠ g.key) :
    (s.egress tag p).rd g = s.rd g := by
  by_cases hs : s.portSends p = true
  · obtain ⟨cn, he⟩ := State.egress_eq (tag := tag) hs
    rw [he]
    exact State.rd_wr_ne _ _ _ _ h
  · rw [State.egress_mute (Bool.eq_false_iff.mpr hs)]

theorem State.rd_egress {s : State} {tag p : Nat} (h : s.portSends p = true) :
    (s.egress tag p).rd (Obj.NSW_PORT_TX_FRAMES.i p) = (s.rd (Obj.NSW_PORT_TX_FRAMES.i p) + 1) % 2 ^ 32 := by
  obtain ⟨cn, he⟩ := State.egress_eq (tag := tag) h
  rw [he]
  exact State.rd_wr_self _ _ _

theorem State.egress_work (s : State) (tag : Nat) {p : Nat} (hp : p < 7) : NetWork s (s.egress tag p) := by
  by_cases h : s.portSends p = true
  · obtain ⟨cn, he⟩ := State.egress_eq (tag := tag) h
    have hk : netKey (Obj.NSW_PORT_TX_FRAMES.i p).key = true := by
      rw [netKey_iff, portTx_key]
      omega
    rw [he]
    exact (NetWork.inc s hk 1).trans ⟨rfl, .of_regs _ rfl, fun _ => rfl⟩
  · rw [State.egress_mute (Bool.eq_false_iff.mpr h)]
    exact .refl s

/-! ### Sending on several ports -/

/-- What a frame on several ports changes: it goes out on each, and each counts it. -/
structure SentOn (s t : State) (v tag : Nat) (l : List Nat) : Prop where
  work : NetWork s t
  nsw : t.nsw = s.nsw
  sent : t.sent = s.sent ++ l.map fun q => Out.eth q tag
  count : ∀ q ∈ l, t.rd (Obj.NSW_PORT_TX_FRAMES.i q) = (s.rd (Obj.NSW_PORT_TX_FRAMES.i q) + 1) % 2 ^ 32
  rd : ∀ g, (∀ q ∈ l, (Obj.NSW_PORT_TX_FRAMES.i q).key ≠ g.key) → (Obj.NSW_VLAN_TX_FRAMES.i v).key ≠ g.key → t.rd g = s.rd g

theorem State.sendOn_sent {v tag : Nat} (hv : v < 64) (l : List Nat) (s : State) (hs : ∀ q ∈ l, s.portSends q = true) (h7 : ∀ q ∈ l, q < 7)
    (hn : l.Nodup) : SentOn s (l.foldl (fun t p => (t.egress tag p).inc (Obj.NSW_VLAN_TX_FRAMES.i v)) s) v tag l := by
  induction l generalizing s with
  | nil => exact ⟨.refl s, rfl, (List.append_nil _).symm, fun q hq => absurd hq List.not_mem_nil, fun _ _ _ => rfl⟩
  | cons q l ih =>
    obtain ⟨hq, hn⟩ := List.nodup_cons.mp hn
    have hk : netKey (Obj.NSW_VLAN_TX_FRAMES.i v).key = true := by
      rw [netKey_iff, vlanTx_key]
      omega
    have hq7 := h7 q List.mem_cons_self
    have hvq (p : Nat) (hp : p < 7) : (Obj.NSW_VLAN_TX_FRAMES.i v).key ≠ (Obj.NSW_PORT_TX_FRAMES.i p).key := by
      rw [vlanTx_key, portTx_key]
      omega
    have hqp (p : Nat) (hp : p ≠ q) : (Obj.NSW_PORT_TX_FRAMES.i q).key ≠ (Obj.NSW_PORT_TX_FRAMES.i p).key := by
      rw [portTx_key, portTx_key]
      omega
    have hw := (s.egress_work tag hq7).trans (NetWork.inc (s.egress tag q) hk 1)
    have h := ih ((s.egress tag q).inc (Obj.NSW_VLAN_TX_FRAMES.i v)) (fun p hp => (hw.portSends p).trans (hs p (List.mem_cons_of_mem q hp)))
      (fun p hp => h7 p (List.mem_cons_of_mem q hp)) hn
    refine ⟨hw.trans h.work, h.nsw.trans (s.egress_nsw tag q), ?_, fun p hp => ?_, fun g h1 h2 => ?_⟩
    · refine h.sent.trans ?_
      rw [show ((s.egress tag q).inc (Obj.NSW_VLAN_TX_FRAMES.i v)).sent = (s.egress tag q).sent from rfl, State.egress_sent,
        if_pos (hs q List.mem_cons_self), List.append_assoc]
      rfl
    · rcases List.mem_cons.mp hp with rfl | hp
      · refine (h.rd _ (fun r hr => ?_) (hvq p hq7)).trans ((State.rd_wr_ne _ _ _ _ (hvq p hq7)).trans (State.rd_egress (hs p List.mem_cons_self)))
        rw [portTx_key, portTx_key]
        have : r ≠ p := fun h => hq (h ▸ hr)
        omega
      · refine (h.count p hp).trans ?_
        have hne : p ≠ q := fun h => hq (h ▸ hp)
        rw [show ((s.egress tag q).inc (Obj.NSW_VLAN_TX_FRAMES.i v)).rd (Obj.NSW_PORT_TX_FRAMES.i p) = s.rd (Obj.NSW_PORT_TX_FRAMES.i p) from
          (State.rd_wr_ne _ _ _ _ (hvq p (h7 p (List.mem_cons_of_mem q hp)))).trans (State.rd_egress_ne _ _ _ (hqp p hne))]
    · refine (h.rd g (fun p hp => h1 p (List.mem_cons_of_mem q hp)) h2).trans ?_
      exact (State.rd_wr_ne _ _ _ _ h2).trans (State.rd_egress_ne _ _ _ (h1 q List.mem_cons_self))

/-! ### Forwarding within a VLAN entry -/

/-- The ports a frame goes to are members, once each, then the internal port. -/
theorem towards_split (s : State) (v p : Nat) (fr : EthFrame) : ∃ (A : List Nat) (six : Bool), towards s v p fr = A ++ (if six then [6] else []) ∧
    (∀ q ∈ A, 2 ≤ q ∧ q ≤ 5) ∧ A.Nodup := by
  have hfilter (P : Nat → Bool) : ∃ (A : List Nat) (six : Bool), (([2, 3, 4, 5].filter (s.member v)) ++ [6]).filter P = A ++ (if six then [6] else []) ∧
      (∀ q ∈ A, 2 ≤ q ∧ q ≤ 5) ∧ A.Nodup := by
    refine ⟨([2, 3, 4, 5].filter (s.member v)).filter P, P 6, ?_, fun q hq => ?_, ?_⟩
    · rw [List.filter_append]
      congr 1
      cases h : P 6 <;> simp [h]
    · have := List.mem_of_mem_filter (List.mem_of_mem_filter hq)
      simp only [List.mem_cons, List.not_mem_nil, or_false] at this
      omega
    · exact (List.Nodup.filter _ (by decide)).filter _
  unfold towards
  dsimp only
  split
  · rw [List.filter_filter]
    exact hfilter _
  · exact hfilter _

theorem State.meter_congr {s t : State} (v len : Nat) (h1 : t.nsw.buckets = s.nsw.buckets) (h2 : t.floorTime = s.floorTime)
    (h3 : t.rd (Obj.NSW_VLAN_RATE.i v) = s.rd (Obj.NSW_VLAN_RATE.i v)) : (t.meter v len).2 = (s.meter v len).2 := by
  unfold State.meter
  rw [h1, h2, h3]

theorem State.meter_work (s : State) (v len : Nat) : NetWork s (s.meter v len).1 ∧ (s.meter v len).1.regs = s.regs ∧
    (s.meter v len).1.sent = s.sent ∧ (s.meter v len).1.nsw.macs = s.nsw.macs :=
  ⟨⟨rfl, .of_regs _ rfl, fun _ => rfl⟩, rfl, rfl, rfl⟩

/-- Toward the internal port: through the bucket, or counted. -/
def State.inward (s : State) (v len tag : Nat) : State :=
  match s.meter v len with
  | (s2, true) => s2.egress tag 6
  | (s2, false) => (s2.inc (Obj.NSW_VLAN_DROP_RATE.i v)).perf 11 0x05 tag

theorem State.inward_passes {s : State} {v len tag : Nat} (h : (s.meter v len).2 = true) :
    s.inward v len tag = (s.meter v len).1.egress tag 6 := by
  unfold State.inward
  generalize s.meter v len = m at h
  obtain ⟨a, b⟩ := m
  subst h
  rfl

theorem State.inward_dropped {s : State} {v len tag : Nat} (h : (s.meter v len).2 = false) :
    s.inward v len tag = ((s.meter v len).1.inc (Obj.NSW_VLAN_DROP_RATE.i v)).perf 11 0x05 tag := by
  unfold State.inward
  generalize s.meter v len = m at h
  obtain ⟨a, b⟩ := m
  subst h
  rfl

/-- Whether a frame reaches a port of its VLAN entry: the port sends, and toward the internal port the bucket holds it. -/
def State.reachesPort (s : State) (v len q : Nat) : Bool := s.portSends q && (q != 6 || (s.meter v len).2)

/-- What forwarding a frame changes. -/
structure Forwarded (s t : State) (v : Nat) (fr : EthFrame) : Prop where
  work : NetWork s t
  macs : t.nsw.macs = s.nsw.macs
  sent : t.sent = s.sent ++ ((towards s v fr.port.val fr).filter (s.reachesPort v fr.len)).map fun q => Out.eth q (s.rd (Obj.NSW_VLAN_OWNER.i v))
  count : ∀ q ∈ (towards s v fr.port.val fr).filter (s.reachesPort v fr.len),
    t.rd (Obj.NSW_PORT_TX_FRAMES.i q) = (s.rd (Obj.NSW_PORT_TX_FRAMES.i q) + 1) % 2 ^ 32
  rate : 6 ∈ towards s v fr.port.val fr → (s.meter v fr.len).2 = false →
    t.rd (Obj.NSW_VLAN_DROP_RATE.i v) = (s.rd (Obj.NSW_VLAN_DROP_RATE.i v) + 1) % 2 ^ 32
  rd : ∀ g, (∀ q, q < 7 → (Obj.NSW_PORT_TX_FRAMES.i q).key ≠ g.key) → (Obj.NSW_VLAN_TX_FRAMES.i v).key ≠ g.key →
    (Obj.NSW_VLAN_DROP_RATE.i v).key ≠ g.key → t.rd g = s.rd g

theorem State.forward_forwarded (s : State) {v : Nat} (hv : v < 64) (fr : EthFrame) : Forwarded s (s.forward v fr) v fr := by
  obtain ⟨A, six, hout, hA, hnd⟩ := towards_split s v fr.port.val fr
  have h6 : 6 ∉ A := fun h => by have := hA 6 h; omega
  have hdef : s.forward v fr =
      let s1 := ((towards s v fr.port.val fr).filter fun p => p != 6 && s.portSends p).foldl
        (fun t p => (t.egress (s.rd (Obj.NSW_VLAN_OWNER.i v)) p).inc (Obj.NSW_VLAN_TX_FRAMES.i v)) s
      if (towards s v fr.port.val fr).contains 6 then
        s1.inward v fr.len (s.rd (Obj.NSW_VLAN_OWNER.i v))
      else s1 := rfl
  generalize htag : s.rd (Obj.NSW_VLAN_OWNER.i v) = tag at hdef
  have hcontains : (towards s v fr.port.val fr).contains 6 = six := by
    rw [hout]
    cases six <;> simp [h6]
  have hfirst : (towards s v fr.port.val fr).filter (fun p => p != 6 && s.portSends p) = A.filter s.portSends := by
    rw [hout, List.filter_append, show (if six = true then [6] else []).filter (fun p => p != 6 && s.portSends p) = [] from by cases six <;> rfl,
      List.append_nil]
    refine List.filter_congr fun q hq => ?_
    rw [bne_iff_ne.mpr fun h : q = 6 => h6 (h ▸ hq), Bool.true_and]
  have hall : (towards s v fr.port.val fr).filter (s.reachesPort v fr.len) = A.filter s.portSends ++
      (if six = true ∧ s.portSends 6 = true ∧ (s.meter v fr.len).2 = true then [6] else []) := by
    rw [hout, List.filter_append]
    congr 1
    · refine List.filter_congr fun q hq => ?_
      unfold State.reachesPort
      rw [bne_iff_ne.mpr fun h : q = 6 => h6 (h ▸ hq), Bool.true_or, Bool.and_true]
    · cases six <;> simp [State.reachesPort, List.filter_cons]
  have hloop := State.sendOn_sent (tag := tag) hv (A.filter s.portSends) s (fun q hq => (List.mem_filter.mp hq).2)
    (fun q hq => by have := hA q (List.mem_filter.mp hq).1; omega) (hnd.filter _)
  rw [hcontains, hfirst] at hdef
  have htx6 (q : Nat) (hq : q ∈ A.filter s.portSends) : (Obj.NSW_PORT_TX_FRAMES.i 6).key ≠ (Obj.NSW_PORT_TX_FRAMES.i q).key := by
    have := hA q (List.mem_filter.mp hq).1
    rw [portTx_key, portTx_key]
    omega
  dsimp only at hdef
  generalize (A.filter s.portSends).foldl (fun t p => (t.egress tag p).inc (Obj.NSW_VLAN_TX_FRAMES.i v)) s = s1 at hdef hloop
  have hother (g : Fld) (h1 : ∀ q, q < 7 → (Obj.NSW_PORT_TX_FRAMES.i q).key ≠ g.key) (h2 : (Obj.NSW_VLAN_TX_FRAMES.i v).key ≠ g.key) :
      s1.rd g = s.rd g :=
    hloop.rd g (fun q hq => h1 q (by have := hA q (List.mem_filter.mp hq).1; omega)) h2
  have hin6 : 6 ∈ towards s v fr.port.val fr ↔ six = true := by rw [← hcontains, List.contains_iff_mem]
  cases six with
  | false =>
    rw [if_neg (by decide)] at hdef
    rw [if_neg (fun h => absurd h.1 Bool.false_ne_true), List.append_nil] at hall
    rw [hdef]
    exact ⟨hloop.work, by rw [hloop.nsw], by rw [hall, htag]; exact hloop.sent, by rw [hall]; exact hloop.count,
      fun h => absurd (hin6.mp h) Bool.false_ne_true, fun g h1 h2 _ => hother g h1 h2⟩
  | true =>
    rw [if_pos rfl] at hdef
    have hmeter : (s1.meter v fr.len).2 = (s.meter v fr.len).2 := by
      refine State.meter_congr _ _ (congrArg Nsw.buckets hloop.nsw) hloop.work.floorTime (hother _ (fun q hq => ?_) ?_)
      · rw [portTx_key, vlanRate_key]
        omega
      · rw [vlanTx_key, vlanRate_key]
        omega
    obtain ⟨hw, hregs, hsent, hmacs⟩ := s1.meter_work v fr.len
    rw [hdef]
    cases hok : (s.meter v fr.len).2 with
    | true =>
      rw [State.inward_passes (hmeter.trans hok)]
      generalize (s1.meter v fr.len).1 = s2 at hw hregs hsent hmacs
      have h6s : s2.portSends 6 = s.portSends 6 := (hloop.work.trans hw).portSends 6
      have hne (g : Fld) (h : (Obj.NSW_PORT_TX_FRAMES.i 6).key ≠ g.key) : (s2.egress tag 6).rd g = s1.rd g :=
        (State.rd_egress_ne _ _ _ h).trans (State.rd_congr hregs g)
      refine ⟨(hloop.work.trans hw).trans (State.egress_work s2 tag (by decide)), ?_, ?_, ?_, fun _ h => absurd (hok.symm.trans h) (by decide),
        fun g h1 h2 _ => (hne g (h1 6 (by decide))).trans (hother g h1 h2)⟩
      · rw [State.egress_nsw, hmacs, hloop.nsw]
      · rw [hall, htag, State.egress_sent, hsent, hloop.sent, h6s, List.map_append, List.append_assoc, hok]
        cases s.portSends 6 <;> rfl
      · rw [hall]
        intro q hq
        rcases List.mem_append.mp hq with hq | hq
        · exact (hne _ (htx6 q hq)).trans (hloop.count q hq)
        · by_cases hs6 : s.portSends 6 = true
          · rw [if_pos ⟨rfl, hs6, hok⟩, List.mem_singleton] at hq
            subst hq
            rw [State.rd_egress (h6s.trans hs6), State.rd_congr hregs, hloop.rd _ (fun q hq h => htx6 q hq h.symm)]
            rw [vlanTx_key, portTx_key]
            omega
          · rw [if_neg fun h => hs6 h.2.1] at hq
            exact absurd hq List.not_mem_nil
    | false =>
      rw [State.inward_dropped (hmeter.trans hok)]
      generalize (s1.meter v fr.len).1 = s2 at hw hregs hsent hmacs
      have hk : netKey (Obj.NSW_VLAN_DROP_RATE.i v).key = true := by
        rw [netKey_iff, vlanDrop_key]
        omega
      have hwork := (hloop.work.trans hw).trans ((NetWork.inc s2 hk 1).trans (NetWork.perf (s2.inc (Obj.NSW_VLAN_DROP_RATE.i v)) 11 0x05 tag 1))
      obtain ⟨cn, hcn⟩ := (s2.inc (Obj.NSW_VLAN_DROP_RATE.i v)).perf_counts 11 0x05 tag 1
      rw [if_neg (fun h => absurd (hok.symm.trans h.2.2) (by decide)), List.append_nil] at hall
      have hrd (g : Fld) : ((s2.inc (Obj.NSW_VLAN_DROP_RATE.i v)).perf 11 0x05 tag).rd g = (s2.inc (Obj.NSW_VLAN_DROP_RATE.i v)).rd g := by
        rw [hcn]
        rfl
      have hne (g : Fld) (h : (Obj.NSW_VLAN_DROP_RATE.i v).key ≠ g.key) :
          ((s2.inc (Obj.NSW_VLAN_DROP_RATE.i v)).perf 11 0x05 tag).rd g = s1.rd g :=
        (hrd g).trans ((State.rd_wr_ne _ _ _ _ h).trans (State.rd_congr hregs g))
      refine ⟨hwork, ?_, ?_, ?_, fun _ _ => ?_, fun g h1 h2 h3 => (hne g h3).trans (hother g h1 h2)⟩
      · rw [hcn]
        show s2.nsw.macs = _
        rw [hmacs, hloop.nsw]
      · rw [hall, htag, hcn, ← hloop.sent, ← hsent]
        rfl
      · rw [hall]
        intro q hq
        refine (hne _ ?_).trans (hloop.count q hq)
        have := hA q (List.mem_filter.mp hq).1
        rw [vlanDrop_key, portTx_key]
        omega
      · refine (hrd _).trans ((State.rd_wr_self _ _ _).trans ?_)
        rw [State.rd_congr hregs, hother]
        · rfl
        · intro q hq
          rw [portTx_key, vlanDrop_key]
          omega
        · rw [vlanTx_key, vlanDrop_key]
          omega

/-! ### Learning -/

theorem State.learn_work (s : State) (vid mac p : Nat) : NetWork s (s.learn vid mac p) ∧ (s.learn vid mac p).regs = s.regs ∧
    (s.learn vid mac p).sent = s.sent ∧ ∃ l, (s.learn vid mac p).nsw = { s.nsw with macs := l } := by
  unfold State.learn
  dsimp only
  split
  · exact ⟨.refl s, rfl, rfl, _, rfl⟩
  · split
    · exact ⟨⟨rfl, .of_regs _ rfl, fun _ => rfl⟩, rfl, rfl, _, rfl⟩
    · exact ⟨.refl s, rfl, rfl, _, rfl⟩

/-- An address is learned while the table has room. -/
theorem State.learned_learn {s : State} (vid : Nat) {mac : Nat} (p : Nat) (h : groupMac mac = false) (hr : s.nsw.macs.length < 8192) :
    (s.learn vid mac p).learned vid mac = some p := by
  unfold State.learn
  rw [if_neg (by rw [h]; decide)]
  dsimp only
  rw [if_pos (Nat.lt_of_le_of_lt (List.length_filter_le _ _) hr)]
  unfold State.learned
  dsimp only
  rw [List.find?_cons_of_pos (by simp)]
  rfl

/-- What is known of another address stands. -/
theorem State.learned_learn_ne {s : State} (vid : Nat) {mac other : Nat} (p : Nat) (h : mac ≠ other) :
    (s.learn vid mac p).learned vid other = s.learned vid other := by
  have hdrop (l : List MacEntry) : (l.filter fun e => ! (e.vid == vid && e.mac == mac)).find? (fun e => e.vid == vid && e.mac == other) =
      l.find? fun e => e.vid == vid && e.mac == other := by
    rw [List.find?_filter]
    refine List.find?_congr fun e _ => ?_
    by_cases he : e.mac = other
    · by_cases hv : e.vid = vid <;> simp [he, hv, Ne.symm h]
    · simp [he]
  unfold State.learn
  split
  · rfl
  · dsimp only
    split
    · unfold State.learned
      dsimp only
      rw [List.find?_cons_of_neg (by simp [h]), hdrop]
    · rfl

/-! ### Frames taken -/

theorem State.ingress_eq (s : State) (p tag len : Nat) :
    ∃ cn, s.ingress p tag len = { s.inc (Obj.NSW_PORT_RX_FRAMES.i p) with pmon := { s.pmon with cnts := cn } } := by
  unfold State.ingress
  obtain ⟨c1, h1⟩ := (s.inc (Obj.NSW_PORT_RX_FRAMES.i p)).perf_counts 11 0x00 tag 1
  rw [h1]
  obtain ⟨c2, h2⟩ := State.perf_counts { s.inc (Obj.NSW_PORT_RX_FRAMES.i p) with
    pmon := { (s.inc (Obj.NSW_PORT_RX_FRAMES.i p)).pmon with cnts := c1 } } 11 0x02 tag ((len + 63) / 64)
  rw [h2]
  exact ⟨c2, rfl⟩

theorem State.ingress_work (s : State) {p : Nat} (hp : p < 7) (tag len : Nat) : NetWork s (s.ingress p tag len) ∧
    (s.ingress p tag len).nsw = s.nsw ∧ (s.ingress p tag len).sent = s.sent ∧
    (s.ingress p tag len).rd (Obj.NSW_PORT_RX_FRAMES.i p) = (s.rd (Obj.NSW_PORT_RX_FRAMES.i p) + 1) % 2 ^ 32 ∧
    ∀ g, (Obj.NSW_PORT_RX_FRAMES.i p).key ≠ g.key → (s.ingress p tag len).rd g = s.rd g := by
  have hk : netKey (Obj.NSW_PORT_RX_FRAMES.i p).key = true := by
    rw [netKey_iff, portRx_key]
    omega
  obtain ⟨cn, h⟩ := s.ingress_eq p tag len
  rw [h]
  exact ⟨(NetWork.inc s hk 1).trans ⟨rfl, .of_regs _ rfl, fun _ => rfl⟩, rfl, rfl, State.rd_wr_self _ _ _, fun g hg => State.rd_wr_ne _ _ _ _ hg⟩

theorem State.dropFrame_eq (s : State) (r : Row) (p : Nat) :
    ∃ cn, s.dropFrame r p = { s.inc (r.i p) with pmon := { s.pmon with cnts := cn } } :=
  (s.inc (r.i p)).perf_counts 11 0x04 vendorTag 1

end Sys2Proof.Machine
end

section
namespace Sys2Proof.Proofs
open Sys2Proof.Machine Sys2Proof.Claims

/-! ### Frames on ports that face tenants -/

section
variable {s : State} {p : Nat}

theorem classify_eq (s : State) (p : Nat) (vid : Option Nat) :
    s.classify p vid = (frameVid s p vid).bind fun v => (s.vlanOf v).filter fun e => s.member e p := by
  unfold State.classify frameVid
  cases vid with
  | none => by_cases h0 : s.rd (Obj.NSW_PORT_PVID.i p) = 0 <;> simp [h0]
  | some v =>
    by_cases hv : v = 0
    · rw [hv, show (some 0 : Option Nat).filter (· != 0) = none from rfl]
      by_cases h0 : s.rd (Obj.NSW_PORT_PVID.i p) = 0 <;> simp [h0]
    · rw [show (some v).filter (· != 0) = some v from by simp [Option.filter, hv]]
      by_cases hm : s.rd (Obj.NSW_PORT_CFG_MODE.i p) = 0 ∧ v ≠ s.rd (Obj.NSW_PORT_PVID.i p) <;> simp [hv, hm]

theorem vlanIs_of_find {vid v : Nat} (h : s.vlanOf vid = some v) : VlanIs s vid v := by
  obtain ⟨h1, h2, h3⟩ := List.find?_range_eq_some.mp h
  simp only [Bool.and_eq_true, beq_iff_eq] at h1
  refine ⟨List.mem_range.mp h2, h1.1, h1.2, fun w hw hon => ?_⟩
  have := h3 w hw
  simpa [hon] using this

theorem classify_none {vid : Option Nat} (h : ∀ u, frameVid s p vid = some u → ∀ v, VlanIs s u v → s.member v p = false) :
    s.classify p vid = none := by
  rw [classify_eq]
  cases hf : frameVid s p vid with
  | none => rfl
  | some u =>
    cases hv : s.vlanOf u with
    | none => simp [hv]
    | some v => simp [hv, h u hf v (vlanIs_of_find hv)]

theorem classify_some {vid : Option Nat} {u v : Nat} (hf : frameVid s p vid = some u) (hv : VlanIs s u v) (hm : s.member v p = true) :
    s.classify p vid = some v := by
  rw [classify_eq, hf]
  simp [vlanOf_of_is hv, hm]

variable {fr : EthFrame} (h2 : 2 ≤ fr.port.val) (h5 : fr.port.val ≤ 5)
include h2 h5

omit h2 h5 in
theorem ethFrame_unused (h : s.portUsed fr.port.val = false) : ethFrameRx fr s = s := by
  unfold ethFrameRx
  exact if_pos (by rw [h]; rfl)

theorem ethFrame_tenant (h : s.portUsed fr.port.val = true) : ethFrameRx fr s =
    if ¬ (64 ≤ fr.len ∧ fr.len ≤ 1522 ∧ fr.ethertype ≠ 0x88A8) then s.dropFrame Obj.NSW_PORT_DROP_FORM fr.port.val
    else if ! fr.fcsOk then s else s.accessFrame fr := by
  have hlong : longest fr.port.val = 1522 := if_neg (by omega)
  unfold ethFrameRx
  dsimp only
  rw [hlong]
  refine (if_neg ?_).trans ((if_neg (by omega)).trans ?_)
  · rw [h, decide_eq_false (by omega)]
    simp
  · by_cases hform : 64 ≤ fr.len ∧ fr.len ≤ 1522 ∧ fr.ethertype ≠ 0x88A8
    · rw [if_neg (by omega), if_neg (not_not.mpr hform)]
      split
      · rfl
      · exact if_neg (by omega)
    · rw [if_pos (by omega), if_pos hform]

omit h2 h5 in
theorem dropFrame_counts (r : Row) (h32 : (r.i fr.port.val).width = 32) : let t := s.dropFrame r fr.port.val
    t.sent = s.sent ∧ Counted s t (r.i fr.port.val) ∧ Kept [r.i fr.port.val] s t := by
  obtain ⟨cn, h⟩ := s.dropFrame_eq r fr.port.val
  dsimp only
  rw [h]
  refine ⟨rfl, (State.rd_wr_self _ _ _).trans (by rw [h32]), (Kept.of_regs rfl).wr (List.mem_singleton.mpr rfl)⟩

/-- What taking a frame of a VLAN entry leaves for its forwarding. -/
structure Taken (s u : State) (v : Nat) (fr : EthFrame) : Prop where
  work : NetWork s u
  sent : u.sent = s.sent
  rx : Counted s u (Obj.NSW_PORT_RX_FRAMES.i fr.port.val)
  vlan : Counted s u (Obj.NSW_VLAN_RX_FRAMES.i v)
  rd : ∀ g, (Obj.NSW_PORT_RX_FRAMES.i fr.port.val).key ≠ g.key → (Obj.NSW_VLAN_RX_FRAMES.i v).key ≠ g.key → u.rd g = s.rd g
  buckets : u.nsw.buckets = s.nsw.buckets
  learns : groupMac fr.src = false → s.nsw.macs.length < 8192 → u.learned (s.rd (Obj.NSW_VLAN_VID.i v)) fr.src = some fr.port.val
  other : fr.src ≠ fr.dst → u.learned (s.rd (Obj.NSW_VLAN_VID.i v)) fr.dst = s.learned (s.rd (Obj.NSW_VLAN_VID.i v)) fr.dst

/-- A frame of a VLAN entry, counted and learned. -/
def takeFrame (s : State) (v : Nat) (fr : EthFrame) : State :=
  let s1 := (s.ingress fr.port.val (s.rd (Obj.NSW_VLAN_OWNER.i v)) fr.len).inc (Obj.NSW_VLAN_RX_FRAMES.i v)
  s1.learn (s.rd (Obj.NSW_VLAN_VID.i v)) fr.src fr.port.val

theorem takeFrame_taken (s : State) {v : Nat} (hv : v < 64) : Taken s (takeFrame s v fr) v fr := by
  obtain ⟨hw, hn, hsent, hrx, hne⟩ := s.ingress_work (p := fr.port.val) (by omega) (s.rd (Obj.NSW_VLAN_OWNER.i v)) fr.len
  have hdef : takeFrame s v fr = ((s.ingress fr.port.val (s.rd (Obj.NSW_VLAN_OWNER.i v)) fr.len).inc (Obj.NSW_VLAN_RX_FRAMES.i v)).learn
    (s.rd (Obj.NSW_VLAN_VID.i v)) fr.src fr.port.val := rfl
  generalize s.ingress fr.port.val (s.rd (Obj.NSW_VLAN_OWNER.i v)) fr.len = a at hdef hw hn hsent hrx hne
  have hk : netKey (Obj.NSW_VLAN_RX_FRAMES.i v).key = true := by
    rw [netKey_iff, vlanRx_key]
    omega
  have hinc := NetWork.inc a hk 1
  have hkv : (Obj.NSW_VLAN_RX_FRAMES.i v).key ≠ (Obj.NSW_PORT_RX_FRAMES.i fr.port.val).key := by
    rw [vlanRx_key, portRx_key]
    omega
  have hrx2 : (a.inc (Obj.NSW_VLAN_RX_FRAMES.i v)).rd (Obj.NSW_PORT_RX_FRAMES.i fr.port.val) = _ := (State.rd_wr_ne _ _ _ _ hkv).trans hrx
  have hvlan : (a.inc (Obj.NSW_VLAN_RX_FRAMES.i v)).rd (Obj.NSW_VLAN_RX_FRAMES.i v) = (s.rd (Obj.NSW_VLAN_RX_FRAMES.i v) + 1) % 2 ^ 32 :=
    (State.rd_wr_self _ _ _).trans (by rw [hne _ hkv.symm]; rfl)
  have hne2 (g : Fld) (h1 : (Obj.NSW_PORT_RX_FRAMES.i fr.port.val).key ≠ g.key) (h2 : (Obj.NSW_VLAN_RX_FRAMES.i v).key ≠ g.key) :
      (a.inc (Obj.NSW_VLAN_RX_FRAMES.i v)).rd g = s.rd g := (State.rd_wr_ne _ _ _ _ h2).trans (hne g h1)
  have hnsw : (a.inc (Obj.NSW_VLAN_RX_FRAMES.i v)).nsw = s.nsw := hn
  have hsent2 : (a.inc (Obj.NSW_VLAN_RX_FRAMES.i v)).sent = s.sent := hsent
  generalize a.inc (Obj.NSW_VLAN_RX_FRAMES.i v) = b at hdef hinc hrx2 hvlan hne2 hnsw hsent2
  obtain ⟨lw, lregs, lsent, l, lnsw⟩ := b.learn_work (s.rd (Obj.NSW_VLAN_VID.i v)) fr.src fr.port.val
  rw [hdef]
  refine ⟨(hw.trans hinc).trans lw, lsent.trans hsent2, (State.rd_congr lregs _).trans hrx2, (State.rd_congr lregs _).trans hvlan,
    fun g h1 h2 => (State.rd_congr lregs _).trans (hne2 g h1 h2), ?_, fun hg hr => ?_, fun ho => ?_⟩
  · rw [lnsw, hnsw]
  · exact State.learned_learn _ _ hg (by rw [hnsw]; exact hr)
  · refine (State.learned_learn_ne _ _ ho).trans ?_
    unfold State.learned
    rw [hnsw]

omit h2 h5 in
theorem accessFrame_forwards {u v : Nat} (ht : fr.ethertype ≠ 0x8808) (hf : frameVid s fr.port.val fr.vid = some u) (hv : VlanIs s u v)
    (hm : s.member v fr.port.val = true) : s.accessFrame fr = (takeFrame s v fr).forward v fr := by
  unfold State.accessFrame
  rw [if_neg ht, classify_some hf hv hm]
  rfl

theorem accessFrame_clauses {u v : Nat} (ht : fr.ethertype ≠ 0x8808) (hf : frameVid s fr.port.val fr.vid = some u) (hv : VlanIs s u v)
    (hm : s.member v fr.port.val = true) (hne : fr.src ≠ fr.dst) : let p := fr.port.val
    let t := s.accessFrame fr
    let out := (towards s v p fr).filter fun q => s.portSends q && (q != 6 || (s.meter v fr.len).2)
    t.sent = s.sent ++ out.map (fun q => Out.eth q (s.rd (Obj.NSW_VLAN_OWNER.i v))) ∧
    Counted s t (Obj.NSW_PORT_RX_FRAMES.i p) ∧ Counted s t (Obj.NSW_VLAN_RX_FRAMES.i v) ∧
    (∀ q ∈ out, Counted s t (Obj.NSW_PORT_TX_FRAMES.i q)) ∧
    (6 ∈ towards s v p fr → (s.meter v fr.len).2 = false → Counted s t (Obj.NSW_VLAN_DROP_RATE.i v)) ∧
    (groupMac fr.src = false → s.nsw.macs.length < 8192 → t.learned u fr.src = some p) := by
  have hlt : v < 64 := hv.1
  have hvid : s.rd (Obj.NSW_VLAN_VID.i v) = u := hv.2.2.1
  have htk := takeFrame_taken h2 h5 s hlt
  have hfw := (takeFrame s v fr).forward_forwarded hlt fr
  dsimp only
  rw [accessFrame_forwards ht hf hv hm]
  generalize takeFrame s v fr = b at htk hfw
  generalize b.forward v fr = t at hfw
  -- What the frame's taking changes is none of what its forwarding looks at.
  have hrd (g : Fld) (h : netKey g.key = false) : b.rd g = s.rd g := htk.work.rd g h
  have hvidb : b.rd (Obj.NSW_VLAN_VID.i v) = s.rd (Obj.NSW_VLAN_VID.i v) := hrd _ (by rw [netKey_false, vlanVid_key]; omega)
  have hownb : b.rd (Obj.NSW_VLAN_OWNER.i v) = s.rd (Obj.NSW_VLAN_OWNER.i v) := hrd _ (by rw [netKey_false, vlanOwner_key]; omega)
  have hmemb : b.member v = s.member v := by
    funext q
    unfold State.member
    rw [hrd _ (by rw [netKey_false, vlanMembers_key]; omega)]
  have htow : towards b v fr.port.val fr = towards s v fr.port.val fr := by
    unfold towards
    rw [hmemb, hvidb, htk.other hne]
  have hmet : (b.meter v fr.len).2 = (s.meter v fr.len).2 :=
    State.meter_congr _ _ htk.buckets htk.work.floorTime (hrd _ (by rw [netKey_false, vlanRate_key]; omega))
  have hreach : b.reachesPort v fr.len = fun q => s.portSends q && (q != 6 || (s.meter v fr.len).2) := by
    funext q
    unfold State.reachesPort
    rw [htk.work.portSends, hmet]
  obtain ⟨-, fmacs, fsent, fcount, frate, frd⟩ := hfw
  rw [htow, hreach] at fsent fcount
  rw [htow, hmet] at frate
  have hq7 {q : Nat} (hq : q ∈ towards s v fr.port.val fr) : q < 7 := by
    obtain ⟨A, six, hout, hA, -⟩ := towards_split s v fr.port.val fr
    rw [hout] at hq
    rcases List.mem_append.mp hq with hq | hq
    · have := hA q hq
      omega
    · cases six <;> simp at hq
      omega
  refine ⟨?_, ?_, ?_, fun q hq => ?_, fun h6 hok => ?_, fun hg hr => ?_⟩
  · rw [fsent, htk.sent, hownb]
  · refine (frd _ (fun q hq => ?_) ?_ ?_).trans htk.rx
    · rw [portTx_key, portRx_key]
      omega
    · rw [vlanTx_key, portRx_key]
      omega
    · rw [vlanDrop_key, portRx_key]
      omega
  · refine (frd _ (fun q hq => ?_) ?_ ?_).trans htk.vlan
    · rw [portTx_key, vlanRx_key]
      omega
    · rw [vlanTx_key, vlanRx_key]
      omega
    · rw [vlanDrop_key, vlanRx_key]
      omega
  · have := hq7 (List.mem_filter.mp hq).1
    refine (fcount q hq).trans ?_
    rw [htk.rd]
    · rw [portRx_key, portTx_key]
      omega
    · rw [vlanRx_key, portTx_key]
      omega
  · refine (frate h6 hok).trans ?_
    rw [htk.rd]
    · rw [portRx_key, vlanDrop_key]
      omega
    · rw [vlanRx_key, vlanDrop_key]
      omega
  · have := htk.learns hg hr
    rw [hvid] at this
    unfold State.learned at this ⊢
    rw [fmacs]
    exact this

end

/-- Settles O43. What a frame's taking counts and learns is none of what its forwarding looks at. -/
theorem tenantFrames : Obligations.TenantFrames := by
  unfold Obligations.TenantFrames
  intro fr now s h2 h5 b p i form
  refine ⟨fun h => ⟨_, rfl, ethFrame_unused (s := b) h⟩, fun hu => ?_⟩
  have hall := ethFrame_tenant (s := b) h2 h5 hu
  refine ⟨fun hn => ⟨_, rfl, ?_⟩, fun hform hfcs => ⟨_, rfl, ?_⟩, fun hform hfcs ht => ⟨fun hn => ⟨_, rfl, ?_⟩, fun vid v hf hv hm hne => ⟨_, rfl, ?_⟩⟩⟩
  · rw [hall, if_pos hn]
    exact dropFrame_counts (s := b) (fr := fr) Obj.NSW_PORT_DROP_FORM rfl
  · rw [hall, if_neg (not_not.mpr hform), hfcs]
    rfl
  · rw [hall, if_neg (not_not.mpr hform), hfcs, if_neg (by decide)]
    unfold State.accessFrame
    rw [if_neg ht, classify_none (s := b) hn]
    exact dropFrame_counts (s := b) (fr := fr) Obj.NSW_PORT_DROP_VLAN rfl
  · rw [hall, if_neg (not_not.mpr hform), hfcs, if_neg (by decide)]
    exact accessFrame_clauses (s := b) h2 h5 ht hf hv hm hne

end Sys2Proof.Proofs
end

section
/-!
SUPPORT. The backbone: LAN states, nodes and duplicates (spec/12 R304 to R308).
-/
namespace Sys2Proof.Machine
open Sys2Proof.Claims

/-! ### LAN states -/

theorem lanOk_key (c : Nat) : (State.lanOk c).f.key = if c = 0 then 92274784 else 92274785 := by
  unfold State.lanOk
  split <;> rfl

theorem State.cage_putCage (s : State) (c : Nat) (x : Cage) (d : Nat) :
    (s.putCage c x).cage d = if (c = 0 ↔ d = 0) then x else s.cage d := by
  unfold State.putCage State.cage
  by_cases hc : c = 0 <;> by_cases hd : d = 0 <;> simp [hc, hd]

theorem State.cage_putCage_self (s : State) (c : Nat) (x : Cage) : (s.putCage c x).cage c = x := by
  rw [State.cage_putCage, if_pos Iff.rfl]

/-- The bit of a LAN, another's, and the flag are all that judging changes, besides what is recorded. -/
theorem State.judgeLan_work (s : State) (c : Nat) : NetWork s (s.judgeLan c) ∧ (s.judgeLan c).nsw = s.nsw ∧ (s.judgeLan c).sent = s.sent ∧
    ∀ g, unlogged g = true → (State.lanOk c).f.key ≠ g.key → Obj.NSW_EVT_LAN.f.key ≠ g.key → (s.judgeLan c).rd g = s.rd g := by
  have hlan : netKey (State.lanOk c).f.key = true := by
    rw [netKey_iff, lanOk_key]
    split <;> omega
  have hevt : netKey Obj.NSW_EVT_LAN.f.key = true := by decide
  have hlog (u : State) (tr : Nat) (d : Bytes) : NetWork u (u.log 0 tr d) ∧ (u.log 0 tr d).nsw = u.nsw ∧ (u.log 0 tr d).sent = u.sent ∧
      ∀ g, unlogged g = true → (u.log 0 tr d).rd g = u.rd g := by
    have h := State.log_raised u 0 tr d false none
    exact ⟨.raised h, by rw [h.eq], by rw [h.eq], h.rd⟩
  unfold State.judgeLan
  dsimp only
  split
  · obtain ⟨h1, h2, h3, h4⟩ := hlog (s.wr (State.lanOk c).f 1) 0x0D02 (le 1 c ++ le 3 0)
    exact ⟨(NetWork.wr s hlan 1).trans h1, h2, h3, fun g hg hl _ => (h4 g hg).trans (State.rd_wr_ne _ _ _ _ hl)⟩
  · split
    · obtain ⟨h1, h2, h3, h4⟩ := hlog ((s.wr (State.lanOk c).f 0).set1 Obj.NSW_EVT_LAN.f) 0x0D01 (le 1 c ++ le 3 0)
      refine ⟨((NetWork.wr s hlan 0).trans (NetWork.wr _ hevt 1)).trans h1, h2, h3, fun g hg hl he => (h4 g hg).trans ?_⟩
      exact (State.rd_wr_ne _ _ _ _ he).trans (State.rd_wr_ne _ _ _ _ hl)
    · exact ⟨.refl s, rfl, rfl, fun _ _ _ _ => rfl⟩

/-- Whether a LAN is judged up. -/
def State.lanUp (s : State) (c : Nat) : Bool :=
  s.portUsed c && (s.cage c).link && (s.cage c).lastFrame.any fun t => decide (s.floorTime < t + 6000000000)

theorem State.lanUp_iff (s : State) (c : Nat) : LanUp s c ↔ s.lanUp c = true := by
  have hany : ((s.cage c).lastFrame.any fun t => decide (s.floorTime < t + 6000000000)) = true ↔
      ∃ x, (s.cage c).lastFrame = some x ∧ s.floorTime < x + 6000000000 := by
    rw [Option.any_eq_true]
    exact ⟨fun ⟨x, hx, h⟩ => ⟨x, hx, of_decide_eq_true h⟩, fun ⟨x, hx, h⟩ => ⟨x, hx, decide_eq_true h⟩⟩
  unfold LanUp State.lanUp
  rw [Bool.and_eq_true, Bool.and_eq_true, hany, and_assoc]

theorem State.judgeLan_eq (s : State) (c : Nat) : s.judgeLan c =
    if s.lanUp c ∧ ! s.on (State.lanOk c).f then (s.wr (State.lanOk c).f 1).log 0 0x0D02 (le 1 c ++ le 3 0)
    else if ! s.lanUp c ∧ s.on (State.lanOk c).f then
      ((s.wr (State.lanOk c).f 0).set1 Obj.NSW_EVT_LAN.f).log 0 0x0D01 (le 1 c ++ le 3 0)
    else s := rfl

/-- The bit of a LAN is one bit, apart from the flag and from what is counted of records. -/
theorem lanOk_facts (c : Nat) : unlogged (State.lanOk c).f = true ∧ (∀ v, v < 2 → v % 2 ^ (State.lanOk c).f.width = v) ∧
    Obj.NSW_EVT_LAN.f.key ≠ (State.lanOk c).f.key ∧ Obj.PWR_UNIT_FAIL.f.key ≠ (State.lanOk c).f.key ∧
    Obj.CAST_COMP_EXIST.f.key ≠ (State.lanOk c).f.key := by
  unfold State.lanOk
  split
  · exact ⟨by decide, fun v hv => Nat.mod_eq_of_lt hv, by decide, by decide, by decide⟩
  · exact ⟨by decide, fun v hv => Nat.mod_eq_of_lt hv, by decide, by decide, by decide⟩

section
variable {s : State} {c : Nat}

theorem State.judgeLan_rises (h : s.lanUp c = true) (hon : s.on (State.lanOk c).f = false) :
    (s.judgeLan c).on (State.lanOk c).f = true ∧ Logged s (s.judgeLan c) 0 0x0D02 (le 1 c ++ le 3 0) := by
  obtain ⟨hu, h2, -, hfail, -⟩ := lanOk_facts c
  rw [State.judgeLan_eq, if_pos ⟨h, by rw [hon]; rfl⟩]
  refine ⟨?_, logged_log ?_ (State.exists?_low _ _ (by decide)) (List.prefix_refl _) (Nat.le_add_right _ 8)⟩
  · unfold State.on
    rw [(State.log_raised _ 0 0x0D02 _ false none).rd _ hu, State.rd_wr_self, h2 1 (by decide)]
    rfl
  · unfold State.failed
    rw [State.rd_wr_ne _ _ _ _ hfail.symm]

theorem State.judgeLan_falls (h : s.lanUp c = false) (hon : s.on (State.lanOk c).f = true) :
    (s.judgeLan c).on (State.lanOk c).f = false ∧ (s.judgeLan c).rd Obj.NSW_EVT_LAN.f = 1 ∧
    Logged s (s.judgeLan c) 0 0x0D01 (le 1 c ++ le 3 0) := by
  obtain ⟨hu, h2, hevt, hfail, -⟩ := lanOk_facts c
  rw [State.judgeLan_eq, if_neg (by rw [h]; simp), if_pos ⟨by rw [h]; rfl, hon⟩]
  refine ⟨?_, ?_, logged_log ?_ (State.exists?_low _ _ (by decide)) (List.prefix_refl _) (Nat.le_add_right _ 8)⟩
  · unfold State.on
    rw [(State.log_raised _ 0 0x0D01 _ false none).rd _ hu, State.set1, State.rd_wr_ne _ _ _ _ hevt, State.rd_wr_self, h2 0 (by decide)]
    rfl
  · exact ((State.log_raised _ 0 0x0D01 _ false none).rd _ (by decide)).trans (State.rd_wr_self _ _ _)
  · unfold State.failed
    rw [State.set1, State.rd_wr_ne _ _ _ _ (by decide), State.rd_wr_ne _ _ _ _ hfail.symm]

theorem State.judgeLan_stands (h : s.lanUp c = s.on (State.lanOk c).f) : s.judgeLan c = s := by
  rw [State.judgeLan_eq, h]
  cases s.on (State.lanOk c).f
  · exact (if_neg (by decide)).trans (if_neg (by decide))
  · exact (if_neg (by decide)).trans (if_neg (by decide))

theorem State.judgeLan_up (h : LanUp s c) : (s.judgeLan c).on (State.lanOk c).f = true := by
  have hb := (s.lanUp_iff c).mp h
  cases hon : s.on (State.lanOk c).f with
  | false => exact (State.judgeLan_rises hb hon).1
  | true =>
    rw [State.judgeLan_stands (hb.trans hon.symm)]
    exact hon

theorem State.judgeLan_judged (s : State) (c : Nat) : LanJudged s (s.judgeLan c) c := by
  obtain ⟨hw, hn, -, -⟩ := s.judgeLan_work c
  have hup : LanUp (s.judgeLan c) c ↔ LanUp s c := by
    unfold LanUp
    rw [hw.portUsed, hw.floorTime]
    unfold State.cage
    rw [hn]
  unfold LanJudged
  rw [hup, s.lanUp_iff]
  refine ⟨fun h => ⟨State.judgeLan_up ((s.lanUp_iff c).mpr h), fun hon => (State.judgeLan_rises h hon).2⟩, fun h => ?_⟩
  have hb : s.lanUp c = false := Bool.eq_false_iff.mpr h
  cases hon : s.on (State.lanOk c).f with
  | false =>
    rw [State.judgeLan_stands (hb.trans hon.symm)]
    exact ⟨hon, fun h => absurd h Bool.false_ne_true⟩
  | true =>
    obtain ⟨h1, h2, h3⟩ := State.judgeLan_falls hb hon
    exact ⟨h1, fun _ => ⟨h2, h3⟩⟩

end

/-! ### What the handling of a frame leaves of a LAN's state -/

/-- No LAN's bit or last frame changes. -/
structure BackWork (s t : State) : Prop where
  work : NetWork s t
  last : ∀ d, (t.cage d).lastFrame = (s.cage d).lastFrame
  lan : ∀ c, t.rd (State.lanOk c).f = s.rd (State.lanOk c).f

section
variable {s t u : State}

theorem BackWork.refl (s : State) : BackWork s s := ⟨.refl s, fun _ => rfl, fun _ => rfl⟩

theorem BackWork.trans (h : BackWork s t) (k : BackWork t u) : BackWork s u :=
  ⟨h.work.trans k.work, fun d => (k.last d).trans (h.last d), fun c => (k.lan c).trans (h.lan c)⟩

theorem BackWork.of_regs (h : NetWork s t) (hr : t.regs = s.regs) (hn : ∀ d, (t.cage d).lastFrame = (s.cage d).lastFrame) : BackWork s t :=
  ⟨h, hn, fun _ => State.rd_congr hr _⟩

theorem BackWork.inc (s : State) {f : Fld} (h : netKey f.key = true) (hl : 92274785 < f.key) (k : Nat) : BackWork s (s.inc f k) := by
  refine ⟨.inc s h k, fun _ => rfl, fun c => State.rd_wr_ne _ _ _ _ ?_⟩
  rw [lanOk_key]
  split <;> omega

theorem State.dropFrame_back (s : State) {r : Row} {p : Nat} (h : netKey (r.i p).key = true) (hl : 92274785 < (r.i p).key) :
    BackWork s (s.dropFrame r p) := by
  obtain ⟨cn, hd⟩ := s.dropFrame_eq r p
  rw [hd]
  exact (BackWork.inc s h hl 1).trans (.of_regs ⟨rfl, .of_regs _ rfl, fun _ => rfl⟩ rfl fun _ => rfl)

theorem State.ingress_back (s : State) {p : Nat} (hp : p < 7) (tag len : Nat) : BackWork s (s.ingress p tag len) := by
  obtain ⟨hw, hn, -, -, hne⟩ := s.ingress_work hp tag len
  refine ⟨hw, fun d => ?_, fun c => hne _ ?_⟩
  · unfold State.cage
    rw [hn]
  · rw [portRx_key, lanOk_key]
    split <;> omega

theorem State.learn_back (s : State) (vid mac p : Nat) : BackWork s (s.learn vid mac p) := by
  obtain ⟨hw, hr, -, l, hn⟩ := s.learn_work vid mac p
  refine .of_regs hw hr fun d => ?_
  unfold State.cage
  rw [hn]

theorem State.egress_back (s : State) (tag : Nat) {p : Nat} (hp : p < 7) : BackWork s (s.egress tag p) := by
  refine ⟨s.egress_work tag hp, fun d => ?_, fun c => s.rd_egress_ne tag p ?_⟩
  · unfold State.cage
    rw [State.egress_nsw]
  · rw [portTx_key, lanOk_key]
    split <;> omega

theorem State.perf_back (s : State) (u e c n : Nat) : BackWork s (s.perf u e c n) := by
  obtain ⟨cn, h⟩ := s.perf_counts u e c n
  rw [h]
  exact .of_regs ⟨rfl, .of_regs _ rfl, fun _ => rfl⟩ rfl fun _ => rfl

theorem State.remember_facts (s : State) (fr : EthFrame) : BackWork s (s.remember fr) ∧ (s.remember fr).regs = s.regs ∧
    (s.remember fr).sent = s.sent ∧ (s.remember fr).nsw.nodes = s.nsw.nodes ∧
    ∀ r, fr.ptp = false → fr.rct = some r → (fr.src, r.2, s.floorTime) ∈ (s.remember fr).nsw.dups := by
  unfold State.remember
  split
  next h => exact ⟨.refl s, rfl, rfl, rfl, fun r hp hr => by rw [hp, hr] at h; exact nomatch h⟩
  next r h =>
    refine ⟨.of_regs ⟨rfl, .of_regs _ rfl, fun _ => rfl⟩ rfl fun _ => rfl, rfl, rfl, rfl, fun q hp hq => ?_⟩
    rw [hp, hq] at h
    rw [show q = r from Option.some.inj h]
    exact List.mem_cons_self

/-- A cage's count of group frames in the present second. -/
def Cage.thisSecond (g : Cage) (now : Nat) : Cage := if g.groupAt + 1000000000 ≤ now then { g with groupAt := now, groups := 0 } else g

theorem Cage.thisSecond_same (g : Cage) (now : Nat) : (g.thisSecond now).link = g.link ∧ (g.thisSecond now).lastFrame = g.lastFrame := by
  unfold Cage.thisSecond
  split <;> exact ⟨rfl, rfl⟩

theorem State.groupLimit_eq (s : State) (c : Nat) : s.groupLimit c =
    if ((s.cage c).thisSecond s.floorTime).groups < 10000 then
      (s.putCage c { (s.cage c).thisSecond s.floorTime with groups := ((s.cage c).thisSecond s.floorTime).groups + 1 }, true)
    else (s.putCage c ((s.cage c).thisSecond s.floorTime), false) := rfl

/-- The limit counts in its cage, whose link and last frame stand. -/
theorem State.groupLimit_puts (s : State) (c : Nat) : ∃ x, (s.groupLimit c).1 = s.putCage c x ∧ x.link = (s.cage c).link ∧
    x.lastFrame = (s.cage c).lastFrame := by
  have hput (g : Cage) (h : g.link = (s.cage c).link ∧ g.lastFrame = (s.cage c).lastFrame) :
      ∃ x, (if g.groups < 10000 then (s.putCage c { g with groups := g.groups + 1 }, true) else (s.putCage c g, false)).1 = s.putCage c x ∧
        x.link = (s.cage c).link ∧ x.lastFrame = (s.cage c).lastFrame := by
    split
    · exact ⟨_, rfl, h⟩
    · exact ⟨_, rfl, h⟩
  rw [State.groupLimit_eq]
  exact hput _ ((s.cage c).thisSecond_same s.floorTime)

theorem State.groupLimit_back (s : State) (c : Nat) : BackWork s (s.groupLimit c).1 := by
  obtain ⟨x, hx, hl, hf⟩ := s.groupLimit_puts c
  rw [hx]
  have hsame (d : Nat) (h : c = 0 ↔ d = 0) : s.cage c = s.cage d := by
    unfold State.cage
    simp only [h]
  refine .of_regs ⟨rfl, .of_regs _ rfl, fun d => ?_⟩ rfl fun d => ?_
  · rw [State.cage_putCage]
    split
    next h => rw [hl, hsame d h]
    next => rfl
  · rw [State.cage_putCage]
    split
    next h => rw [hf, hsame d h]
    next => rfl

end

/-! ### Nodes -/

theorem nodes_key : netKey Obj.NSW_PRP_NODES.f.key = true := by decide

theorem State.putNodes_facts (s : State) (l : List (Nat × Nat)) : BackWork s (s.putNodes l) ∧ (s.putNodes l).nsw = { s.nsw with nodes := l } ∧
    (s.putNodes l).sent = s.sent ∧ (s.putNodes l).rd Obj.NSW_PRP_NODES.f = l.length % 2 ^ 10 ∧
    ∀ g, Obj.NSW_PRP_NODES.f.key ≠ g.key → (s.putNodes l).rd g = s.rd g := by
  have h0 : BackWork s { s with nsw := { s.nsw with nodes := l } } := .of_regs ⟨rfl, .of_regs _ rfl, fun _ => rfl⟩ rfl fun _ => rfl
  refine ⟨h0.trans ⟨.wr _ nodes_key _, fun _ => rfl, fun c => State.rd_wr_ne _ _ _ _ ?_⟩, rfl, rfl, State.rd_wr_self _ _ _,
    fun g hg => State.rd_wr_ne _ _ _ _ hg⟩
  rw [lanOk_key, show Obj.NSW_PRP_NODES.f.key = 92274912 from rfl]
  split <;> omega

theorem State.hearNode_facts (s : State) (mac : Nat) : BackWork s (s.hearNode mac) ∧ (∃ l, (s.hearNode mac).nsw = { s.nsw with nodes := l }) ∧
    (s.hearNode mac).sent = s.sent ∧ (∀ g, Obj.NSW_PRP_NODES.f.key ≠ g.key → (s.hearNode mac).rd g = s.rd g) ∧
    (s.nsw.nodes.length < 512 → (mac, s.floorTime) ∈ (s.hearNode mac).nsw.nodes ∧
      (s.hearNode mac).rd Obj.NSW_PRP_NODES.f = (s.hearNode mac).nsw.nodes.length % 2 ^ 10) := by
  unfold State.hearNode
  dsimp only
  split
  · obtain ⟨h1, h2, h3, h4, h5⟩ := s.putNodes_facts ((mac, s.floorTime) :: s.nsw.nodes.filter fun n => n.1 != mac)
    have hm : (mac, s.floorTime) ∈ (mac, s.floorTime) :: s.nsw.nodes.filter fun n => n.1 != mac := List.mem_cons_self
    generalize (mac, s.floorTime) :: s.nsw.nodes.filter (fun n => n.1 != mac) = l at h1 h2 h3 h4 h5 hm
    refine ⟨h1, ⟨_, h2⟩, h3, h5, fun _ => ?_⟩
    rw [h2, h4]
    exact ⟨hm, rfl⟩
  next h =>
    refine ⟨.refl s, ⟨_, rfl⟩, rfl, fun _ _ => rfl, fun hl => absurd (Nat.lt_of_le_of_lt (List.length_filter_le _ _) hl) h⟩

/-! ### Frames of the backbone -/

theorem State.backboneIn_back (s : State) (fr : EthFrame) (hp : fr.port.val < 2) : BackWork s (s.backboneIn fr) := by
  have h1 : 1 - fr.port.val < 7 := by omega
  unfold State.backboneIn
  dsimp only
  split
  · split
    · have hg := s.groupLimit_back fr.port.val
      split
      next s1 heq =>
        rw [heq] at hg
        exact (hg.trans (s1.egress_back vendorTag h1)).trans (State.egress_back _ vendorTag (by decide))
      next s1 heq =>
        rw [heq] at hg
        exact hg
    · split
      · exact s.egress_back vendorTag (by decide)
      · exact s.egress_back vendorTag h1
  · exact s.egress_back vendorTag (by decide)

theorem State.backboneIn_inward {s : State} (fr : EthFrame) (h : s.rd Obj.NSW_BB_MODE.f ≠ 1) : s.backboneIn fr = s.egress vendorTag 6 :=
  if_neg fun hb => h hb.1

/-- A frame proves its LAN alive. -/
def State.cageHeard (s : State) (c : Nat) : State := (s.putCage c { s.cage c with lastFrame := some s.floorTime }).judgeLan c

structure Heard (s t : State) (c : Nat) : Prop where
  work : NetWork s t
  last : (t.cage c).lastFrame = some s.floorTime
  lan : t.on (State.lanOk c).f = true
  tables : t.nsw.macs = s.nsw.macs ∧ t.nsw.nodes = s.nsw.nodes ∧ t.nsw.dups = s.nsw.dups
  sent : t.sent = s.sent
  rd : ∀ g, 92274848 ≤ g.key → unlogged g = true → t.rd g = s.rd g

theorem State.cageHeard_heard {s : State} {c : Nat} (hu : s.portUsed c = true) (hl : (s.cage c).link = true) : Heard s (s.cageHeard c) c := by
  have hput : NetWork s (s.putCage c { s.cage c with lastFrame := some s.floorTime }) := by
    refine ⟨rfl, .of_regs _ rfl, fun d => ?_⟩
    rw [State.cage_putCage]
    split
    next h =>
      unfold State.cage
      simp only [h]
    next => rfl
  have hself := s.cage_putCage_self c { s.cage c with lastFrame := some s.floorTime }
  have hup : LanUp (s.putCage c { s.cage c with lastFrame := some s.floorTime }) c := by
    refine ⟨(hput.portUsed c).trans hu, ?_, s.floorTime, ?_, Nat.lt_add_of_pos_right (Nat.succ_pos _)⟩
    · rw [hself]
      exact hl
    · rw [hself]
  have htab : (s.putCage c { s.cage c with lastFrame := some s.floorTime }).nsw.macs = s.nsw.macs ∧
      (s.putCage c { s.cage c with lastFrame := some s.floorTime }).nsw.nodes = s.nsw.nodes ∧
      (s.putCage c { s.cage c with lastFrame := some s.floorTime }).nsw.dups = s.nsw.dups := by
    unfold State.putCage
    dsimp only
    split <;> exact ⟨rfl, rfl, rfl⟩
  have hregs : (s.putCage c { s.cage c with lastFrame := some s.floorTime }).regs = s.regs := rfl
  have hsent : (s.putCage c { s.cage c with lastFrame := some s.floorTime }).sent = s.sent := rfl
  unfold State.cageHeard
  generalize s.putCage c { s.cage c with lastFrame := some s.floorTime } = u at hput hself hup htab hregs hsent
  obtain ⟨jw, jn, js, jr⟩ := u.judgeLan_work c
  refine ⟨hput.trans jw, ?_, State.judgeLan_up hup, by rw [jn]; exact htab, js.trans hsent, fun g hg hunl => ?_⟩
  · unfold State.cage at hself ⊢
    rw [jn, hself]
  · refine (jr g hunl ?_ ?_).trans (State.rd_congr hregs g)
    · rw [lanOk_key]
      split <;> omega
    · rw [show Obj.NSW_EVT_LAN.f.key = 92274816 from rfl]
      omega

end Sys2Proof.Machine
end

section
namespace Sys2Proof.Proofs
open Sys2Proof.Machine Sys2Proof.Claims

/-! ### Frames on the cages -/

section
variable {s : State} {fr : EthFrame} (h2 : fr.port.val < 2) (hu : s.portUsed fr.port.val = true) (hl : (s.cage fr.port.val).link = true)
  (h64 : 64 ≤ fr.len) (hlong : fr.len ≤ 1528) (ht : fr.ethertype ≠ 0x88A8) (hfcs : fr.fcsOk = true)
include h2 hu hl h64 hlong ht hfcs

theorem ethFrame_cage : ethFrameRx fr s = s.cageFrame fr := by
  have hmax : longest fr.port.val = 1528 := if_pos h2
  unfold ethFrameRx
  dsimp only
  rw [hmax, hu, hl, hfcs]
  refine (if_neg (by simp)).trans ((if_neg (by omega)).trans ((if_neg (by omega)).trans ((if_neg (by decide)).trans (if_pos h2))))

end

/-- A frame of the backbone, its LAN's life proved, counted and learned. -/
def backTaken (s : State) (fr : EthFrame) : State :=
  ((s.cageHeard fr.port.val).ingress fr.port.val vendorTag fr.len).learn (s.rd Obj.NSW_BB_VID.f) fr.src fr.port.val

/-- The same under PRP: its sender is a node. -/
def prpTaken (s : State) (fr : EthFrame) : State :=
  let s1 := backTaken s fr
  (if fr.rct.any fun r => r.1 != 0xA + fr.port.val then s1.inc Obj.NSW_PRP_WRONG_LAN.f else s1).hearNode fr.src

/-- What PRP does with a frame of a node. -/
def prpGoes (s : State) (fr : EthFrame) : State :=
  if fr.supervision then s else if s.duplicate fr then s.perf 11 0x06 vendorTag else (s.remember fr).backboneIn fr

theorem cageFrame_eq (s : State) (fr : EthFrame) : s.cageFrame fr =
    if ! (fr.vid.isNone || (fr.vid == some (s.rd Obj.NSW_BB_VID.f) && s.rd Obj.NSW_BB_VID.f != 0)) then
      (s.cageHeard fr.port.val).dropFrame Obj.NSW_PORT_DROP_VLAN fr.port.val
    else if (backTaken s fr).prp then prpGoes (prpTaken s fr) fr else (backTaken s fr).backboneIn fr := rfl

section
variable {s : State} {fr : EthFrame} (h2 : fr.port.val < 2) (hu : s.portUsed fr.port.val = true) (hl : (s.cage fr.port.val).link = true)
include h2

omit h2 in
theorem wrongLan_back (t : State) : BackWork t (if fr.rct.any fun r => r.1 != 0xA + fr.port.val then t.inc Obj.NSW_PRP_WRONG_LAN.f else t) := by
  split
  · exact .inc t (by decide) (by decide) 1
  · exact .refl t

theorem prpGoes_back (t : State) : BackWork t (prpGoes t fr) := by
  unfold prpGoes
  split
  · exact .refl t
  · split
    · exact t.perf_back 11 0x06 vendorTag 1
    · exact (t.remember_facts fr).1.trans (State.backboneIn_back _ fr h2)

theorem backTaken_back : BackWork (s.cageHeard fr.port.val) (backTaken s fr) :=
  (State.ingress_back _ (by omega) vendorTag fr.len).trans (State.learn_back _ _ _ _)

theorem prpTaken_back : BackWork (s.cageHeard fr.port.val) (prpTaken s fr) :=
  (backTaken_back h2).trans ((wrongLan_back _).trans (State.hearNode_facts _ fr.src).1)

theorem cageFrame_back : BackWork (s.cageHeard fr.port.val) (s.cageFrame fr) := by
  rw [cageFrame_eq]
  split
  · refine State.dropFrame_back _ ?_ ?_
    · rw [netKey_iff, dropVlan_key]
      omega
    · rw [dropVlan_key]
      omega
  · split
    · exact (prpTaken_back h2).trans (prpGoes_back h2 _)
    · exact (backTaken_back h2).trans (State.backboneIn_back _ fr h2)

include hu hl

theorem cageFrame_alive : ((s.cageFrame fr).cage fr.port.val).lastFrame = some s.floorTime ∧
    (s.cageFrame fr).on (State.lanOk fr.port.val).f = true := by
  have hh := State.cageHeard_heard hu hl
  have hb := cageFrame_back (s := s) h2
  refine ⟨(hb.last _).trans hh.last, ?_⟩
  unfold State.on
  rw [hb.lan]
  exact hh.lan

theorem cageFrame_foreign {v : Nat} (hv : fr.vid = some v) (hn : v ≠ s.rd Obj.NSW_BB_VID.f ∨ v = 0) :
    (s.cageFrame fr).sent = s.sent ∧ Counted s (s.cageFrame fr) (Obj.NSW_PORT_DROP_VLAN.i fr.port.val) := by
  have hh := State.cageHeard_heard hu hl
  rw [cageFrame_eq, if_pos]
  · obtain ⟨cn, hd⟩ := (s.cageHeard fr.port.val).dropFrame_eq Obj.NSW_PORT_DROP_VLAN fr.port.val
    rw [hd]
    refine ⟨hh.sent, (State.rd_wr_self _ _ _).trans ?_⟩
    rw [hh.rd _ (by rw [dropVlan_key]; omega) (by rw [unlogged_iff, dropVlan_key, logKey_eq]; simp; omega)]
    rfl
  · rw [hv]
    rcases hn with h | h
    · simp [h]
    · subst h
      by_cases hb : s.rd Obj.NSW_BB_VID.f = 0
      · simp [hb]
      · have : ¬ 0 = s.rd Obj.NSW_BB_VID.f := fun h => hb h.symm
        simp [this]

variable (hvid : fr.vid = none)
include hvid

theorem cageFrame_prp (hbb : s.rd Obj.NSW_BB_MODE.f = 0) (hm : s.mode ≠ 2) : s.cageFrame fr = prpGoes (prpTaken s fr) fr := by
  have hw := (State.cageHeard_heard hu hl).work.trans (backTaken_back (s := s) h2).work
  have hb0 : (backTaken s fr).rd Obj.NSW_BB_MODE.f = 0 := (hw.rd _ (by decide)).trans hbb
  have hm0 : (backTaken s fr).mode = s.mode := hw.rd _ (by decide)
  have hprp : (backTaken s fr).prp = true := by
    unfold State.prp
    rw [hb0, hm0, bne_iff_ne.mpr hm]
    rfl
  rw [cageFrame_eq, hvid, hprp]
  rfl

theorem cageFrame_single (hbb : s.rd Obj.NSW_BB_MODE.f = 2) : s.cageFrame fr = (backTaken s fr).egress vendorTag 6 := by
  have hw := (State.cageHeard_heard hu hl).work.trans (backTaken_back (s := s) h2).work
  have hb2 : (backTaken s fr).rd Obj.NSW_BB_MODE.f = 2 := (hw.rd _ (by decide)).trans hbb
  have hprp : (backTaken s fr).prp = false := by
    unfold State.prp
    rw [hb2]
    rfl
  rw [cageFrame_eq, hvid, hprp, ← State.backboneIn_inward fr (by rw [hb2]; decide)]
  rfl

omit hvid in
/-- What counting and learning a frame leaves. -/
theorem backTaken_facts : NetWork s (backTaken s fr) ∧ (backTaken s fr).sent = s.sent ∧ (backTaken s fr).nsw.nodes = s.nsw.nodes ∧
    (backTaken s fr).nsw.dups = s.nsw.dups ∧ Counted s (backTaken s fr) (Obj.NSW_PORT_RX_FRAMES.i fr.port.val) ∧
    (backTaken s fr).rd Obj.NSW_PRP_WRONG_LAN.f = s.rd Obj.NSW_PRP_WRONG_LAN.f := by
  have hh := State.cageHeard_heard hu hl
  obtain ⟨-, hnodes, hdups⟩ := hh.tables
  obtain ⟨iw, inn, isent, irx, ine⟩ := (s.cageHeard fr.port.val).ingress_work (p := fr.port.val) (by omega) vendorTag fr.len
  obtain ⟨lw, lregs, lsent, l, ln⟩ := ((s.cageHeard fr.port.val).ingress fr.port.val vendorTag fr.len).learn_work (s.rd Obj.NSW_BB_VID.f) fr.src fr.port.val
  refine ⟨(hh.work.trans iw).trans lw, lsent.trans (isent.trans hh.sent), ?_, ?_, ?_, ?_⟩
  · rw [backTaken, ln, inn]
    exact hnodes
  · rw [backTaken, ln, inn]
    exact hdups
  · refine (State.rd_congr lregs _).trans (irx.trans ?_)
    rw [hh.rd _ (by rw [portRx_key]; omega) (by rw [unlogged_iff, portRx_key, logKey_eq]; simp; omega)]
  · refine (State.rd_congr lregs _).trans ((ine _ ?_).trans (hh.rd _ (by decide) (by decide)))
    rw [portRx_key, show Obj.NSW_PRP_WRONG_LAN.f.key = 92274880 from rfl]
    omega

omit hvid in
theorem prpTaken_facts : NetWork s (prpTaken s fr) ∧ (prpTaken s fr).sent = s.sent ∧ (prpTaken s fr).nsw.dups = s.nsw.dups ∧
    Counted s (prpTaken s fr) (Obj.NSW_PORT_RX_FRAMES.i fr.port.val) ∧
    (s.nsw.nodes.length < 512 → (fr.src, s.floorTime) ∈ (prpTaken s fr).nsw.nodes ∧
      (prpTaken s fr).rd Obj.NSW_PRP_NODES.f = (prpTaken s fr).nsw.nodes.length % 2 ^ 10) ∧
    (∀ r, fr.rct = some r → r.1 ≠ 0xA + fr.port.val → Counted s (prpTaken s fr) Obj.NSW_PRP_WRONG_LAN.f) := by
  obtain ⟨bw, bsent, bnodes, bdups, brx, bwrong⟩ := backTaken_facts h2 hu hl
  have hwl := wrongLan_back (fr := fr) (backTaken s fr)
  have hrx : ∀ g, Obj.NSW_PRP_WRONG_LAN.f.key ≠ g.key →
      (if fr.rct.any fun r => r.1 != 0xA + fr.port.val then (backTaken s fr).inc Obj.NSW_PRP_WRONG_LAN.f else backTaken s fr).rd g =
        (backTaken s fr).rd g := by
    intro g hg
    split
    · exact State.rd_wr_ne _ _ _ _ hg
    · rfl
  have hcount : ∀ r, fr.rct = some r → r.1 ≠ 0xA + fr.port.val →
      (if fr.rct.any fun r => r.1 != 0xA + fr.port.val then (backTaken s fr).inc Obj.NSW_PRP_WRONG_LAN.f else backTaken s fr).rd
        Obj.NSW_PRP_WRONG_LAN.f = (s.rd Obj.NSW_PRP_WRONG_LAN.f + 1) % 2 ^ 32 := by
    intro r hr hne
    rw [if_pos (by rw [hr]; exact bne_iff_ne.mpr hne)]
    exact (State.rd_wr_self _ _ _).trans (by rw [bwrong]; rfl)
  have hsame : ∀ t : State, t.nsw = (backTaken s fr).nsw → t.floorTime = s.floorTime → t.nsw.nodes = s.nsw.nodes ∧ t.nsw.dups = s.nsw.dups :=
    fun t hn _ => ⟨by rw [hn, bnodes], by rw [hn, bdups]⟩
  have hnsw : (if fr.rct.any fun r => r.1 != 0xA + fr.port.val then (backTaken s fr).inc Obj.NSW_PRP_WRONG_LAN.f else backTaken s fr).nsw =
      (backTaken s fr).nsw := by split <;> rfl
  have hsent : (if fr.rct.any fun r => r.1 != 0xA + fr.port.val then (backTaken s fr).inc Obj.NSW_PRP_WRONG_LAN.f else backTaken s fr).sent =
      s.sent := by split <;> exact bsent
  have hdef : prpTaken s fr = (if fr.rct.any fun r => r.1 != 0xA + fr.port.val then (backTaken s fr).inc Obj.NSW_PRP_WRONG_LAN.f
    else backTaken s fr).hearNode fr.src := rfl
  generalize (if fr.rct.any fun r => r.1 != 0xA + fr.port.val then (backTaken s fr).inc Obj.NSW_PRP_WRONG_LAN.f else backTaken s fr) = u
    at hwl hrx hcount hnsw hsent hdef
  have hfl : u.floorTime = s.floorTime := (bw.trans hwl.work).floorTime
  obtain ⟨hn, hd⟩ := hsame u hnsw hfl
  obtain ⟨nw, ⟨l, nn⟩, nsent, nrd, nheard⟩ := u.hearNode_facts fr.src
  rw [hdef]
  refine ⟨(bw.trans hwl.work).trans nw.work, nsent.trans hsent, ?_, ?_, fun hlen => ?_, fun r hr hne => ?_⟩
  · rw [nn]
    exact hd
  · refine (nrd _ ?_).trans ((hrx _ ?_).trans brx)
    · rw [portRx_key, show Obj.NSW_PRP_NODES.f.key = 92274912 from rfl]
      omega
    · rw [portRx_key, show Obj.NSW_PRP_WRONG_LAN.f.key = 92274880 from rfl]
      omega
  · rw [← hfl]
    exact nheard (by rw [hn]; exact hlen)
  · exact (nrd _ (by decide)).trans (hcount r hr hne)

omit h2 hu hl hvid in
theorem prpGoes_facts (t : State) (hbb : t.rd Obj.NSW_BB_MODE.f = 0) : (prpGoes t fr).nsw.nodes = t.nsw.nodes ∧
    (∀ g, (Obj.NSW_PORT_TX_FRAMES.i 6).key ≠ g.key → (prpGoes t fr).rd g = t.rd g) ∧
    (fr.supervision = true ∨ t.duplicate fr = true → (prpGoes t fr).sent = t.sent) ∧
    (fr.supervision = false → t.duplicate fr = false → t.portSends 6 = true → (prpGoes t fr).sent = t.sent ++ [Out.eth 6 0xFF] ∧
      ∀ r, fr.ptp = false → fr.rct = some r → (fr.src, r.2, t.floorTime) ∈ (prpGoes t fr).nsw.dups) := by
  obtain ⟨rb, rr, rs, rn, rd⟩ := t.remember_facts fr
  unfold prpGoes
  split
  next hsup => exact ⟨rfl, fun _ _ => rfl, fun _ => rfl, fun h => absurd (hsup.symm.trans h) (by decide)⟩
  next hsup =>
    split
    next hdup =>
      obtain ⟨cn, hp⟩ := t.perf_counts 11 0x06 vendorTag 1
      rw [hp]
      exact ⟨rfl, fun _ _ => rfl, fun _ => rfl, fun _ h => absurd (hdup.symm.trans h) (by decide)⟩
    next hdup =>
      rw [State.backboneIn_inward fr (by rw [State.rd_congr rr, hbb]; decide)]
      refine ⟨?_, fun g hg => ?_, fun h => absurd h (not_or.mpr ⟨hsup, hdup⟩), fun _ _ h6 => ⟨?_, fun r hp hr => ?_⟩⟩
      · rw [State.egress_nsw]
        exact rn
      · exact (State.rd_egress_ne _ _ _ hg).trans (State.rd_congr rr g)
      · rw [State.egress_sent, rs, rb.work.portSends, if_pos h6]
        rfl
      · rw [State.egress_nsw]
        exact rd r hp hr

theorem cageFrame_prpClauses (hbb : s.rd Obj.NSW_BB_MODE.f = 0) (hm : s.mode ≠ 2) : let t := s.cageFrame fr
    (Counted s t (Obj.NSW_PORT_RX_FRAMES.i fr.port.val) ∧
      (s.nsw.nodes.length < 512 → (fr.src, s.floorTime) ∈ t.nsw.nodes ∧ t.rd Obj.NSW_PRP_NODES.f = t.nsw.nodes.length % 2 ^ 10) ∧
      (∀ r, fr.rct = some r → r.1 ≠ 0xA + fr.port.val → Counted s t Obj.NSW_PRP_WRONG_LAN.f)) ∧
    (fr.supervision = true ∨ s.duplicate fr = true → t.sent = s.sent) ∧
    (fr.supervision = false → s.duplicate fr = false → s.portSends 6 = true → t.sent = s.sent ++ [Out.eth 6 0xFF] ∧
      ∀ r, fr.ptp = false → fr.rct = some r → (fr.src, r.2, s.floorTime) ∈ t.nsw.dups) := by
  obtain ⟨pw, psent, pdups, prx, pnodes, pwrong⟩ := prpTaken_facts h2 hu hl
  have hdup : (prpTaken s fr).duplicate fr = s.duplicate fr := by
    unfold State.duplicate
    rw [pdups, pw.floorTime]
  obtain ⟨g1, g2, g3, g4⟩ := prpGoes_facts (fr := fr) (prpTaken s fr) ((pw.rd _ (by decide)).trans hbb)
  dsimp only
  rw [cageFrame_prp h2 hu hl hvid hbb hm]
  generalize prpTaken s fr = u at *
  generalize prpGoes u fr = t at *
  have h6 (g : Fld) (h : g.key < 92307584) : (Obj.NSW_PORT_TX_FRAMES.i 6).key ≠ g.key := by
    rw [portTx_key]
    omega
  refine ⟨⟨?_, fun hlen => ?_, fun r hr hne => ?_⟩, fun h => ?_, fun h1 h3 h4 => ?_⟩
  · refine (g2 _ ?_).trans prx
    rw [portTx_key, portRx_key]
    omega
  · rw [g1, g2 _ (h6 _ (by decide))]
    exact pnodes hlen
  · exact (g2 _ (h6 _ (by decide))).trans (pwrong r hr hne)
  · rw [← hdup] at h
    exact (g3 h).trans psent
  · rw [← psent, ← pw.floorTime]
    exact g4 h1 (hdup.trans h3) ((pw.portSends 6).trans h4)

theorem cageFrame_singleClauses (hbb : s.rd Obj.NSW_BB_MODE.f = 2) :
    (s.cageFrame fr).sent = s.sent ++ if s.portSends 6 then [Out.eth 6 0xFF] else [] := by
  obtain ⟨bw, bsent, -⟩ := backTaken_facts h2 hu hl
  rw [cageFrame_single h2 hu hl hvid hbb, State.egress_sent, bsent, bw.portSends]
  rfl

end

/-! ### Links, modules, ageing and supervision -/

theorem speed_key (p : Nat) : (Obj.NSW_PORT_STATUS_SPEED.i p).key = 92307520 + 2048 * p := Row.i_key (st := 0x100) rfl rfl p

theorem media_key (p : Nat) : (Obj.NSW_PORT_STATUS_MEDIA.i p).key = 92307522 + 2048 * p := Row.i_key (st := 0x100) rfl rfl p

theorem lanJudged_congr {s u t : State} {c : Nat} (h : LanJudged u t c) (hlan : u.rd (State.lanOk c).f = s.rd (State.lanOk c).f)
    (hevr : u.evr = s.evr) (hfail : u.rd Obj.PWR_UNIT_FAIL.f = s.rd Obj.PWR_UNIT_FAIL.f) : LanJudged s t c := by
  have hlog (tr : Nat) (d : Bytes) (h : Logged u t 0 tr d) : Logged s t 0 tr d := by
    unfold Logged State.failed at h ⊢
    rwa [hevr, State.exists?_low u s (by decide), hfail] at h
  have hon : u.on (State.lanOk c).f = s.on (State.lanOk c).f := by
    unfold State.on
    rw [hlan]
  obtain ⟨h1, h2⟩ := h
  rw [hon] at h1 h2
  refine ⟨fun h => ?_, fun h => ?_⟩
  · obtain ⟨k1, k2⟩ := h1 h
    exact ⟨k1, fun hs => hlog _ _ (k2 hs)⟩
  · obtain ⟨k1, k2⟩ := h2 h
    refine ⟨k1, fun hs => ?_⟩
    obtain ⟨k3, k4⟩ := k2 hs
    exact ⟨k3, hlog _ _ k4⟩

/-- A link set, its speed shown and its LAN judged. -/
theorem linkSet_facts (s : State) {c : Nat} (hc : c < 2) (ok : Bool) (v : Nat) (hv : v < 4) :
    let t := ((s.putCage c { s.cage c with link := ok }).wr (Obj.NSW_PORT_STATUS_SPEED.i c) v).judgeLan c
    (t.cage c).link = ok ∧ t.rd (Obj.NSW_PORT_STATUS_SPEED.i c) = v ∧ LanJudged s t c ∧
    t.rd (Obj.NSW_PORT_STATUS_MEDIA.i c) = s.rd (Obj.NSW_PORT_STATUS_MEDIA.i c) := by
  have hself := s.cage_putCage_self c { s.cage c with link := ok }
  have hcage : ((s.putCage c { s.cage c with link := ok }).wr (Obj.NSW_PORT_STATUS_SPEED.i c) v).cage c = { s.cage c with link := ok } := hself
  have hspeed := State.rd_wr_self (s.putCage c { s.cage c with link := ok }) (Obj.NSW_PORT_STATUS_SPEED.i c) v
  have hne (g : Fld) (h : (Obj.NSW_PORT_STATUS_SPEED.i c).key ≠ g.key) :
      ((s.putCage c { s.cage c with link := ok }).wr (Obj.NSW_PORT_STATUS_SPEED.i c) v).rd g = s.rd g :=
    (State.rd_wr_ne _ _ _ _ h).trans rfl
  have hpend : ((s.putCage c { s.cage c with link := ok }).wr (Obj.NSW_PORT_STATUS_SPEED.i c) v).evr = s.evr := rfl
  generalize (s.putCage c { s.cage c with link := ok }).wr (Obj.NSW_PORT_STATUS_SPEED.i c) v = u at hcage hspeed hne hpend
  obtain ⟨jw, jn, -, jr⟩ := u.judgeLan_work c
  have hj := u.judgeLan_judged c
  have hunl (g : Fld) (h : g.key = (Obj.NSW_PORT_STATUS_SPEED.i c).key ∨ g.key = (Obj.NSW_PORT_STATUS_MEDIA.i c).key) :
      (u.judgeLan c).rd g = u.rd g := by
    rw [speed_key, media_key] at h
    refine jr g ?_ ?_ ?_
    · rw [unlogged_iff, logKey_eq]
      simp
      omega
    · rw [lanOk_key]
      split <;> omega
    · rw [show Obj.NSW_EVT_LAN.f.key = 92274816 from rfl]
      omega
  refine ⟨?_, ?_, ?_, ?_⟩
  · unfold State.cage at hcage ⊢
    rw [jn, hcage]
  · exact (hunl _ (.inl rfl)).trans (hspeed.trans (Nat.mod_eq_of_lt hv))
  · refine lanJudged_congr hj (hne _ ?_) hpend (hne _ ?_)
    · rw [speed_key, lanOk_key]
      split <;> omega
    · rw [speed_key, show Obj.PWR_UNIT_FAIL.f.key = 100663744 from rfl]
      omega
  · refine (hunl _ (.inr rfl)).trans (hne _ ?_)
    rw [speed_key, media_key]
    omega

theorem sfpInsert_clauses (s : State) {c : Nat} (hc : c < 2) (m : SfpModule) : let t := sfpInsert c m s
    let media := if m.present = false then 0 else if m.readable = true ∧ m.baseR = true ∧ m.powerMw ≤ 1000 then 1 else 2
    t.rd (Obj.NSW_PORT_STATUS_MEDIA.i c) = media ∧ (media = 1 → t.nsw = s.nsw) ∧
    (media ≠ 1 → (t.cage c).link = false ∧ t.rd (Obj.NSW_PORT_STATUS_SPEED.i c) = 0 ∧ LanJudged s t c) := by
  intro t media
  have hmedia : (if ! m.present then 0 else if m.readable && m.baseR && decide (m.powerMw ≤ 1000) then 1 else 2) = media := by
    simp [media, and_assoc]
  have h4 : media < 4 := by
    show (if m.present = false then 0 else if m.readable = true ∧ m.baseR = true ∧ m.powerMw ≤ 1000 then 1 else 2) < 4
    split
    · decide
    · split <;> decide
  have ht : t = if media = 1 then s.wr (Obj.NSW_PORT_STATUS_MEDIA.i c) media
      else (((s.wr (Obj.NSW_PORT_STATUS_MEDIA.i c) media).putCage c
        { (s.wr (Obj.NSW_PORT_STATUS_MEDIA.i c) media).cage c with link := false }).wr (Obj.NSW_PORT_STATUS_SPEED.i c) 0).judgeLan c := by
    rw [← hmedia]
    rfl
  clear_value media
  have hself : (s.wr (Obj.NSW_PORT_STATUS_MEDIA.i c) media).rd (Obj.NSW_PORT_STATUS_MEDIA.i c) = media :=
    (State.rd_wr_self _ _ _).trans (Nat.mod_eq_of_lt h4)
  by_cases h1 : media = 1
  · rw [if_pos h1] at ht
    rw [ht]
    exact ⟨hself, fun _ => rfl, fun h => absurd h1 h⟩
  · rw [if_neg h1] at ht
    obtain ⟨k1, k2, k3, k4⟩ := linkSet_facts (s.wr (Obj.NSW_PORT_STATUS_MEDIA.i c) media) hc false 0 (by decide)
    rw [← ht] at k1 k2 k3 k4
    refine ⟨k4.trans hself, fun h => absurd h h1, fun _ => ⟨k1, k2, lanJudged_congr k3 (State.rd_wr_ne _ _ _ _ ?_) rfl (State.rd_wr_ne _ _ _ _ ?_)⟩⟩
    · rw [media_key, lanOk_key]
      split <;> omega
    · rw [media_key, show Obj.PWR_UNIT_FAIL.f.key = 100663744 from rfl]
      omega

/-- Whether a node is forgotten. -/
def forgotten (s : State) (mac : Nat) (n : Nat × Nat) : Bool := n.1 == mac && decide (n.2 + 60000000000 ≤ s.floorTime)

theorem forgotten_iff (s : State) (mac : Nat) (n : Nat × Nat) : forgotten s mac n = true ↔ n.1 = mac ∧ n.2 + 60000000000 ≤ s.floorTime := by
  unfold forgotten
  rw [Bool.and_eq_true, beq_iff_eq]
  exact and_congr_right fun _ => ⟨of_decide_eq_true, decide_eq_true⟩

theorem nodeForget_clauses (s : State) (mac : Nat) : let t := nodeForgetTime mac s
    t.sent = s.sent ∧ (∀ n, n ∈ t.nsw.nodes ↔ n ∈ s.nsw.nodes ∧ ¬ (n.1 = mac ∧ n.2 + 60000000000 ≤ s.floorTime)) ∧
    (t.nsw.nodes ≠ s.nsw.nodes → t.rd Obj.NSW_PRP_NODES.f = t.nsw.nodes.length % 2 ^ 10) := by
  intro t
  have ht : t = if (s.nsw.nodes.filter fun n => ! forgotten s mac n).length = s.nsw.nodes.length then s
    else s.putNodes (s.nsw.nodes.filter fun n => ! forgotten s mac n) := rfl
  have hmem (n : Nat × Nat) : n ∈ (s.nsw.nodes.filter fun n => ! forgotten s mac n) ↔ n ∈ s.nsw.nodes ∧
      ¬ (n.1 = mac ∧ n.2 + 60000000000 ≤ s.floorTime) := by
    rw [List.mem_filter, Bool.not_eq_true', ← forgotten_iff, Bool.not_eq_true]
  have hlen : (s.nsw.nodes.filter fun n => ! forgotten s mac n).length = s.nsw.nodes.length →
      (s.nsw.nodes.filter fun n => ! forgotten s mac n) = s.nsw.nodes := fun h => List.Sublist.eq_of_length List.filter_sublist h
  clear_value t
  generalize s.nsw.nodes.filter (fun n => ! forgotten s mac n) = l at ht hmem hlen
  by_cases h : l.length = s.nsw.nodes.length
  · rw [if_pos h] at ht
    rw [ht]
    refine ⟨rfl, fun n => ?_, fun hn => absurd rfl hn⟩
    rw [← hmem n, hlen h]
  · rw [if_neg h] at ht
    obtain ⟨-, h2, h3, h4, -⟩ := s.putNodes_facts l
    rw [ht, h2]
    exact ⟨h3, hmem, fun _ => h4⟩

theorem addressAgeing_clauses (s : State) (mac vid : Nat) (e : MacEntry) : e ∈ (addressAgeing mac vid s).nsw.macs ↔
    e ∈ s.nsw.macs ∧ ¬ (e.vid = vid ∧ e.mac = mac ∧ e.seen + 300000000000 ≤ s.floorTime) := by
  unfold addressAgeing
  dsimp only
  rw [List.mem_filter, Bool.not_eq_true', Bool.eq_false_iff, ne_eq, Bool.and_eq_true, Bool.and_eq_true, beq_iff_eq, beq_iff_eq, and_assoc]
  exact and_congr_right fun _ => not_congr (and_congr_right fun _ => and_congr_right fun _ => ⟨of_decide_eq_true, decide_eq_true⟩)

section
variable {s : State}

theorem prpSupervision_runs (h : s.nswOn = true ∧ s.rd Obj.NSW_BB_MODE.f = 0 ∧ s.mode ≠ 2) :
    (prpSupervision s).sent = s.sent ++ ([0, 1].filter s.portSends).map (fun q => Out.eth q 0xFF) := by
  obtain ⟨h1, h2, h3⟩ := h
  have hdef : prpSupervision s = (s.egress vendorTag 0).egress vendorTag 1 := by
    refine if_pos ?_
    unfold State.prp
    rw [h1, h2, bne_iff_ne.mpr h3]
    rfl
  rw [hdef, State.egress_sent, State.egress_sent, (s.egress_work vendorTag (p := 0) (by decide)).portSends]
  cases h0 : s.portSends 0 <;> cases h1 : s.portSends 1 <;> simp [h0, h1, vendorTag]

theorem prpSupervision_idle (h : ¬ (s.nswOn = true ∧ s.rd Obj.NSW_BB_MODE.f = 0 ∧ s.mode ≠ 2)) : prpSupervision s = s := by
  refine if_neg fun hb => h ?_
  unfold State.prp at hb
  simpa using hb

end

/-- Settles O44. What proves a LAN alive lies apart from what the frame's handling counts. -/
theorem backboneFrames : Obligations.BackboneFrames := by
  unfold Obligations.BackboneFrames
  refine ⟨fun fr now s h2 hu hl h64 hlong ht hfcs => ?_, fun c up now s => ?_, fun c now s => ?_, fun c m now s => ?_, fun mac vid now s => ?_,
    fun mac now s => ?_, fun now s => ?_⟩
  · intro b c i
    have hall := ethFrame_cage (s := b) h2 hu hl h64 hlong ht hfcs
    refine ⟨⟨_, rfl, ?_⟩, fun v hv hn => ⟨_, rfl, ?_⟩, fun hvid hbb hm => ?_, fun hvid hbb => ⟨_, rfl, ?_⟩⟩
    · rw [hall]
      exact cageFrame_alive (s := b) h2 hu hl
    · rw [hall]
      exact cageFrame_foreign (s := b) h2 hu hl hv hn
    · obtain ⟨k1, k2, k3⟩ := cageFrame_prpClauses (s := b) h2 hu hl hvid hbb hm
      rw [← hall] at k1 k2 k3
      exact ⟨⟨_, rfl, k1⟩, fun h => ⟨_, rfl, k2 h⟩, fun h1 h3 h4 => ⟨_, rfl, k3 h1 h3 h4⟩⟩
    · rw [hall]
      exact cageFrame_singleClauses (s := b) h2 hu hl hvid hbb
  · refine ⟨_, rfl, ?_⟩
    have hv (ok : Bool) : (if ok = true then 3 else 0) < 4 := by split <;> decide
    obtain ⟨k1, k2, k3, -⟩ := linkSet_facts (s.advance now) c.isLt (up && s.portUsed c.val && s.rd (Obj.NSW_PORT_STATUS_MEDIA.i c.val) == 1) _ (hv _)
    exact ⟨k1, k2, k3⟩
  · refine ⟨_, rfl, ?_, State.judgeLan_judged (s.advance now) c.val⟩
    exact ((s.advance now).judgeLan_work c.val).2.1
  · exact ⟨_, rfl, sfpInsert_clauses (s.advance now) c.isLt m⟩
  · intro b
    exact ⟨_, rfl, rfl, fun e => addressAgeing_clauses b mac vid e⟩
  · intro b
    exact ⟨_, rfl, nodeForget_clauses b mac⟩
  · intro b runs
    exact ⟨fun h => ⟨_, rfl, prpSupervision_runs (s := b) h⟩, fun h => ⟨_, rfl, prpSupervision_idle (s := b) h⟩⟩

end Sys2Proof.Proofs
end

section
/-!
SUPPORT. A point number past the process image: the output of a task whose point is the word of PWR_UNIT_FAIL (spec/05 R131).
-/
namespace Sys2Proof.Machine
open Sys2Proof.Claims

/-- C00 runs one task of engine 0. The one output of its image is point 1,310,727, of which nothing bounds the number: its word is the
one of PWR_UNIT_FAIL. -/
def strayOutputProg : Prog :=
  { image := { comp := 0, size := 0, hash := [], minUcode := 0, code := [], consts := [], funcs := [], types := [], insts := [], retain := [],
               tasks := [{ engine := 0, entry := 0, watch := false, tempo := 0, phase := 0, skipLimit := 0, root := 0, ins := [],
                           outs := [1310727] }] },
    insts := [] }

def strayOutput : State :=
  { (State.reset.wr (Obj.SCE_TASK_CFG_ENABLE.at 0 [0, 0]) 1) with
    scan := { State.reset.scan with progs := [(0, { cur := some strayOutputProg, lastOut := [(1310727, 0)] })] } }

/-- The failure of engine 0 is entered, and then the stop value of the output is written over it. -/
theorem strayOutput_failed : ((strayOutput.advance 0).failUnit 0).failed 0 = false := by decide +kernel

end Sys2Proof.Machine

namespace Sys2Proof.Proofs
open Sys2Proof.Machine Sys2Proof.Claims

/-- Refutes O24: in `strayOutput` the one output of C00's task on engine 0 is a point whose word is PWR_UNIT_FAIL, so that its stop value,
0, which the failure of the engine writes, clears the bit of the unit that has failed. -/
theorem not_powerEvents : ¬ Obligations.PowerEvents := by
  unfold Obligations.PowerEvents
  intro h
  obtain ⟨-, -, h⟩ := h
  obtain ⟨-, -, -, hfail, -⟩ := h 0 strayOutput
  obtain ⟨t, hexec, hset, -⟩ := hfail 0 (by decide)
  have ht : (strayOutput.advance 0).failUnit 0 = t := Host.Outcome.next.inj hexec
  exact absurd (ht ▸ hset) (Bool.eq_false_iff.mp strayOutput_failed)

end Sys2Proof.Proofs
end

section
/-!
SUPPORT. What the work of units on their own fields leaves alone. Engines, ports, metering and the legacy buses keep their fields at
address 0x100000 and above; whatever index such a field is written at, it is none of the fields below. One rule per operation: the state
after it keeps, beside those, the records queued, the sessions' identifiers, and every part of the state that is no unit's.
-/
-- These many short proofs are elaborated one after another: in parallel their threads' stacks fill the memory the check allows.
set_option Elab.async false
namespace Sys2Proof.Machine
open Sys2Proof.Claims

/-- A field at address 0x100000 or above, in any bank. -/
def Upper (f : Fld) : Prop := 8 * 0x100000 ≤ f.key

/-- A row's instances lie at its base or above. -/
theorem Row.key_base (r : Row) (c : Nat) (idx : List Nat) : 8 * r.base ≤ (r.at c idx).key := by
  have hle : ∀ (l : List ((Nat × Nat) × Nat)) (a : Nat), a ≤ l.foldl (fun a p => a + p.2 * p.1.2) a := by
    intro l
    induction l with
    | nil => exact fun a => Nat.le_refl a
    | cons p l ih => exact fun a => (Nat.le_add_right _ _).trans (ih _)
  have := hle (r.dims.zip idx) r.base
  simp only [Fld.key, Row.at]
  omega

theorem Row.upper {r : Row} {c : Nat} {idx : List Nat} (h : 0x100000 ≤ r.base) : Upper (r.at c idx) :=
  (Nat.mul_le_mul_left 8 h).trans (r.key_base c idx)

/-- A state without what units work on. -/
def State.core (s : State) : State :=
  { s with regs := [], conns := [], sessions := [], waiters := [], sent := [], scan := {}, mae := {}, fbc := {}, lbx := {}, pmon := {},
           free := 0, evr := { s.evr with pend := [], logs := [] }, power := { s.power with transition := none } }

/-- What stands of `r` in `s` after work of units. -/
structure State.KeepsLow (s r : State) : Prop where
  low : ∀ g : Fld, g.key < 8 * 0x100000 → logKey g.key = false → s.rd g = r.rd g
  pend : r.evr.pend <+: s.evr.pend
  core : s.core = r.core
  ids : s.sessions.map (·.id) = r.sessions.map (·.id)
  noConns : r.conns = [] → s.conns = []

namespace State.KeepsLow
variable {r s t : State}

theorem refl (s : State) : s.KeepsLow s := ⟨fun _ _ _ => rfl, List.prefix_refl _, rfl, rfl, id⟩

theorem trans (h : t.KeepsLow s) (k : s.KeepsLow r) : t.KeepsLow r :=
  ⟨fun g hg hl => (h.low g hg hl).trans (k.low g hg hl), k.pend.trans h.pend, h.core.trans k.core, h.ids.trans k.ids,
    fun hc => h.noConns (k.noConns hc)⟩

/-- An update of what units work on. -/
theorem rest {waiters sent scan mae fbc lbx pmon free} (h : s.KeepsLow r) :
    State.KeepsLow ⟨s.floorTime, s.regs, s.power, s.conns, s.sessions, waiters, sent, s.mbx, s.evr, s.rtc, s.ptp, s.lcy, s.stagings,
      s.castlings, s.castNext, s.castBoot, scan, mae, fbc, s.nsw, lbx, s.kse, s.upd, s.mte, pmon, s.agm, s.captures, free, s.pending⟩ r :=
  ⟨h.low, h.pend, h.core, h.ids, h.noConns⟩

theorem wr {f : Fld} {v : Nat} (h : s.KeepsLow r) (hf : Upper f := by exact Row.upper (by decide)) : (s.wr f v).KeepsLow r :=
  ⟨fun g hg hl => (State.rd_wr_ne _ _ _ _ fun e => absurd (e ▸ hf) (Nat.not_le.mpr hg)).trans (h.low g hg hl), h.pend, h.core, h.ids,
    h.noConns⟩

theorem ite {c : Prop} [Decidable c] (hs : s.KeepsLow r) (ht : t.KeepsLow r) : (if c then s else t).KeepsLow r := by
  split
  · exact hs
  · exact ht

theorem foldl {α : Type} {l : List α} {u : State → α → State} (h : s.KeepsLow r) (hu : ∀ t a, t.KeepsLow r → (u t a).KeepsLow r) :
    (l.foldl u s).KeepsLow r := by
  induction l generalizing s with
  | nil => exact h
  | cons a l ih => exact ih (hu s a h)

theorem foldl_fst {α β : Type} {l : List α} {u : State × β → α → State × β} {x : State × β} (h : x.1.KeepsLow r)
    (hu : ∀ x a, x.1.KeepsLow r → (u x a).1.KeepsLow r) : (l.foldl u x).1.KeepsLow r := by
  induction l generalizing x with
  | nil => exact h
  | cons a l ih => exact ih (hu x a h)

theorem wrs {l : List (Fld × Nat)} (h : s.KeepsLow r)
    (hl : ∀ x ∈ l, Upper x.1 := by
      repeat (refine List.forall_mem_cons.mpr ⟨Row.upper (by decide), ?_⟩)
      exact List.forall_mem_nil _) : (s.wrs l).KeepsLow r := by
  induction l generalizing s with
  | nil => exact h
  | cons x l ih => exact ih (h.wr (hl x List.mem_cons_self)) fun y hy => hl y (List.mem_cons_of_mem x hy)

theorem inc {f : Fld} {k : Nat} (h : s.KeepsLow r) (hf : Upper f := by exact Row.upper (by decide)) : (s.inc f k).KeepsLow r := h.wr hf

theorem incSat {f : Fld} {k : Nat} (h : s.KeepsLow r) (hf : Upper f := by exact Row.upper (by decide)) : (s.incSat f k).KeepsLow r :=
  h.wr hf

theorem set1 {f : Fld} (h : s.KeepsLow r) (hf : Upper f := by exact Row.upper (by decide)) : (s.set1 f).KeepsLow r := h.wr hf

theorem enqueue {c : Nat} {e : EvRec} (h : s.KeepsLow r) : (s.enqueue c e).KeepsLow r := by
  have k := State.enqueue_raised s c e
  have hcore : (s.enqueue c e).core = s.core := by
    unfold State.enqueue
    split <;> rfl
  refine trans ⟨fun g _ hl => k.rd g ((unlogged_iff g).mpr hl), k.pend, hcore, ?_, ?_⟩ h
  · rw [k.eq]
  · rw [k.eq]
    exact id

theorem log {c trigger : Nat} {detail : Bytes} {summary : Bool} {list : Option Nat} (h : s.KeepsLow r) :
    (s.log c trigger detail summary list).KeepsLow r := .ite h (.enqueue h)

theorem logAll {cs : List Nat} {trigger : Nat} {detail : Bytes} {summary : Bool} (h : s.KeepsLow r) :
    (s.logAll cs trigger detail summary).KeepsLow r := .foldl h fun _ _ => .log

theorem putSession {x : Session} (h : s.KeepsLow r) : (s.putSession x).KeepsLow r :=
  ⟨h.low, h.pend, h.core, (State.putSession_ids s x).trans h.ids, h.noConns⟩

theorem detach {conn t' : Nat} (h : s.KeepsLow r) : (s.detach conn t').KeepsLow r := by
  refine ⟨h.low, h.pend, h.core, Eq.trans ?_ h.ids, h.noConns⟩
  unfold State.detach
  rw [List.map_map]
  refine List.map_congr_left fun x _ => ?_
  dsimp only [Function.comp]
  split <;> rfl

theorem dropConn {f : Conn → Bool} (h : s.KeepsLow r) : State.KeepsLow { s with conns := s.conns.filter f } r :=
  ⟨h.low, h.pend, h.core, h.ids, fun hc => by rw [h.noConns hc, List.filter_nil]⟩

theorem beginTransition {target : Nat} {cold : Bool} (h : s.KeepsLow r) : (s.beginTransition target cold).KeepsLow r :=
  ⟨h.low, h.pend, h.core, h.ids, h.noConns⟩

theorem perf {u ev : Nat} {comp n : Nat} (h : s.KeepsLow r) : (s.perf u ev comp n).KeepsLow r := .ite (.rest h) h

theorem markCycles (h : s.KeepsLow r) : s.markCycles.KeepsLow r := .rest h

theorem putProg {c : Nat} {p : CompScan} (h : s.KeepsLow r) : (s.putProg c p).KeepsLow r := .rest h

theorem putTask {c e k : Nat} {t' : TaskRun} (h : s.KeepsLow r) : (s.putTask c e k t').KeepsLow r := .rest h

theorem emit {o : Out} (h : s.KeepsLow r) : (s.emit o).KeepsLow r := .rest h

theorem respond {conn comp : Nat} {seq cmd status : Nat} {payload : Bytes} (h : s.KeepsLow r) :
    (s.respond conn comp seq cmd status payload).KeepsLow r :=
  .perf (.emit h)

theorem finalTo {sid seq : Nat} {cmd status : Nat} {payload : Bytes} {whole : Bool} (h : s.KeepsLow r) :
    (s.finalTo sid seq cmd status payload whole).KeepsLow r := by
  unfold State.finalTo
  split
  · exact h
  · dsimp only
    split
    · exact .respond (.putSession h)
    · exact .putSession h

theorem finish {w' : Wait} {status : Nat} {payload : Bytes} (h : s.KeepsLow r) : (s.finish w' status payload).KeepsLow r :=
  .foldl (.rest h) fun _ _ ht => .ite (.log ht) (.finalTo ht)

theorem applyPt {w' : PtWrite} (h : s.KeepsLow r) : (s.applyPt w').KeepsLow r := .wr h

theorem applyPts {l : List PtWrite} (h : s.KeepsLow r) : (s.applyPts l).KeepsLow r := .foldl h fun _ _ => .applyPt

theorem pimgWrite {l : List PtWrite} (h : s.KeepsLow r) : (s.pimgWrite l).KeepsLow r := .ite h (.ite (.rest h) (.applyPts h))

theorem putForce {c : Nat} {f : Force} (h : s.KeepsLow r) : (s.putForce c f).KeepsLow r := .wrs h

theorem setOwn {c p v : Nat} (h : s.KeepsLow r) : (s.setOwn c p v).KeepsLow r := .putProg h

theorem writeOutputs {c : Nat} {l : List (Nat × Nat)} (h : s.KeepsLow r) : (s.writeOutputs c l).KeepsLow r :=
  .pimgWrite (.foldl h fun _ _ => .setOwn)

theorem applyForce {f : Force} (h : s.KeepsLow r) : (s.applyForce f).KeepsLow r := .ite (.pimgWrite (.wr h)) (.wr h)

theorem liftForce {c : Nat} {f : Force} (h : s.KeepsLow r) : (s.liftForce c f).KeepsLow r := .ite (.pimgWrite (.wr h)) (.wr h)

theorem releaseForce {c : Nat} {f : Force} (h : s.KeepsLow r) : (s.releaseForce c f).KeepsLow r :=
  .log (.set1 (.ite (.liftForce (.putForce h)) (.putForce h)))

theorem releaseForces {c : Nat} {l : List Force} (h : s.KeepsLow r) : (s.releaseForces c l).KeepsLow r :=
  .foldl h fun _ _ => .releaseForce

theorem takeStopValues {c : Nat} {pts : List Nat} {safe : Bool} (h : s.KeepsLow r) : (s.takeStopValues c pts safe).KeepsLow r :=
  .writeOutputs h

theorem suspendForces {c : Nat} {pts : List Nat} (h : s.KeepsLow r) : (s.suspendForces c pts).KeepsLow r :=
  .foldl h fun _ _ ht => .wr (.wr ht)

theorem resumeForces {c : Nat} (h : s.KeepsLow r) : (s.resumeForces c).KeepsLow r := .foldl h fun _ _ ht => .applyForce (.wr ht)

theorem putPort {p : Nat} {x : CanPort} (h : s.KeepsLow r) : (s.putPort p x).KeepsLow r := .rest h

theorem putTxReq {p b' : Nat} {x : TxReq} (h : s.KeepsLow r) : (s.putTxReq p b' x).KeepsLow r := .putPort h

theorem logFailed {p b' : Nat} (h : s.KeepsLow r) : (s.logFailed p b').KeepsLow r := .ite (.putTxReq h) (.log (.putTxReq h))

theorem collision {p b' : Nat} (h : s.KeepsLow r) : (s.collision p b').KeepsLow r := .logAll (.set1 (.wrs (.inc h)))

theorem shiftWaits {p b' : Nat} (h : s.KeepsLow r) : (s.shiftWaits p b').KeepsLow r := .rest h

theorem endTx {p b' : Nat} {st err : Nat} {collided : Bool} (h : s.KeepsLow r) : (s.endTx p b' st err collided).KeepsLow r :=
  .ite (.wrs (.shiftWaits (.finish (.ite (.collision (.ite (.inc (.set1 (.putTxReq (.wrs (.putPort h))))) (.ite (.set1 (.putTxReq (.wrs
      (.putPort h)))) (.putTxReq (.wrs (.putPort h)))))) (.ite (.logFailed (.ite (.inc (.set1 (.putTxReq (.wrs (.putPort h))))) (.ite (.set1
      (.putTxReq (.wrs (.putPort h)))) (.putTxReq (.wrs (.putPort h)))))) (.ite (.inc (.set1 (.putTxReq (.wrs (.putPort h))))) (.ite (.set1
      (.putTxReq (.wrs (.putPort h)))) (.putTxReq (.wrs (.putPort h)))))))))) (.ite (.finish (.finish (.ite (.collision (.ite (.inc (.set1
      (.putTxReq (.wrs (.putPort h))))) (.ite (.set1 (.putTxReq (.wrs (.putPort h)))) (.putTxReq (.wrs (.putPort h)))))) (.ite (.logFailed
      (.ite (.inc (.set1 (.putTxReq (.wrs (.putPort h))))) (.ite (.set1 (.putTxReq (.wrs (.putPort h)))) (.putTxReq (.wrs (.putPort h))))))
      (.ite (.inc (.set1 (.putTxReq (.wrs (.putPort h))))) (.ite (.set1 (.putTxReq (.wrs (.putPort h)))) (.putTxReq (.wrs (.putPort
      h))))))))) (.finish (.ite (.collision (.ite (.inc (.set1 (.putTxReq (.wrs (.putPort h))))) (.ite (.set1 (.putTxReq (.wrs (.putPort
      h)))) (.putTxReq (.wrs (.putPort h)))))) (.ite (.logFailed (.ite (.inc (.set1 (.putTxReq (.wrs (.putPort h))))) (.ite (.set1
      (.putTxReq (.wrs (.putPort h)))) (.putTxReq (.wrs (.putPort h)))))) (.ite (.inc (.set1 (.putTxReq (.wrs (.putPort h))))) (.ite (.set1
      (.putTxReq (.wrs (.putPort h)))) (.putTxReq (.wrs (.putPort h)))))))))

theorem stalePort {p : Nat} (h : s.KeepsLow r) : (s.stalePort p).KeepsLow r := .foldl h fun _ _ ht => .wr ht

theorem popFifo {p k n : Nat} (h : s.KeepsLow r) : (s.popFifo p k n).KeepsLow r := .wr (.putPort h)

theorem stopPort {p st : Nat} (h : s.KeepsLow r) : (s.stopPort p st).KeepsLow r :=
  .ite (.wr h) (.stalePort (.wrs (.foldl h fun _ _ ht => .endTx (.putTxReq ht))))

theorem startPort {p : Nat} (h : s.KeepsLow r) : (s.startPort p).KeepsLow r := .ite (.wrs h) h

theorem placePort {p : Nat} (h : s.KeepsLow r) : (s.placePort p).KeepsLow r :=
  .ite (.stopPort h) (.ite (.startPort h) (.ite (.stopPort h) (.ite h (.stopPort h))))

theorem placePorts (h : s.KeepsLow r) : s.placePorts.KeepsLow r :=
  .ite (.foldl (.foldl h fun _ _ => .placePort) fun _ _ ht1 => .foldl ht1 fun _ _ ht2 => .ite ht2 (.popFifo ht2)) (.foldl h fun _ _ =>
      .placePort)

theorem putChan {ch : Nat} {x : MChan} (h : s.KeepsLow r) : (s.putChan ch x).KeepsLow r := .rest h

theorem putCirc {i : Nat} {x : MCirc} (h : s.KeepsLow r) : (s.putCirc i x).KeepsLow r := .rest h

theorem putPulse {n : Nat} {x : Pulse} (h : s.KeepsLow r) : (s.putPulse n x).KeepsLow r := .rest h

theorem abortCal {cause : Nat} (h : s.KeepsLow r) : (s.abortCal cause).KeepsLow r := .ite (.wr (.wr h)) h

theorem perfChan {ev ch : Nat} (h : s.KeepsLow r) : (s.perfChan ev ch).KeepsLow r := .perf h

theorem closeChan {ch : Nat} {split : Bool} (h : s.KeepsLow r) : (s.closeChan ch split).1.KeepsLow r :=
  .ite (.inc (.ite (.perfChan (.perfChan (.wrs (.putChan h)))) (.perfChan (.wrs (.putChan h))))) (.ite (.perfChan (.perfChan (.wrs (.putChan
      h)))) (.perfChan (.wrs (.putChan h))))

theorem setBacklog {n v : Nat} (h : s.KeepsLow r) : (s.setBacklog n v).KeepsLow r :=
  .ite (.logAll (.set1 (.wr (.putPulse h)))) (.wr (.putPulse h))

theorem feedPulse {i : Nat} {p q : ℤ} {n : Nat} (h : s.KeepsLow r) : (s.feedPulse i p q n).KeepsLow r :=
  .ite (.ite (.wr (.putPulse h)) (.setBacklog (.wr (.putPulse h)))) h

theorem closeCirc {l : List Closed} {i : Nat} (h : s.KeepsLow r) : (s.closeCirc l i).KeepsLow r := by
  unfold State.closeCirc
  dsimp only
  split
  · exact h
  · exact .foldl (.putCirc h) fun _ _ => .feedPulse

theorem closeChans {l : List Nat} {split : Bool} (h : s.KeepsLow r) : (s.closeChans l split).KeepsLow r :=
  .foldl (.foldl_fst h fun _ _ => .closeChan) fun _ _ => .closeCirc

theorem gapEntry {g : Gap} {fin : Nat} (h : s.KeepsLow r) : (s.gapEntry g fin).KeepsLow r := .rest (.logAll (.wrs h))

theorem startAcq (h : s.KeepsLow r) : s.startAcq.KeepsLow r := .ite h (.foldl (.wr (.wr (.rest h))) fun _ _ ht => .wr (.putChan ht))

theorem stopAcq (h : s.KeepsLow r) : s.stopAcq.KeepsLow r := .ite h (.wr (.rest (.abortCal (.closeChans h))))

theorem cutPulses (h : s.KeepsLow r) : s.cutPulses.KeepsLow r := by
  unfold State.cutPulses
  refine .foldl h fun _ _ ht => ?_
  split
  · exact .setBacklog (.putPulse ht)
  · exact ht

theorem putLport {p : Nat} {x : LbxPort} (h : s.KeepsLow r) : (s.putLport p x).KeepsLow r := .rest h

theorem markStale {m v : Nat} (h : s.KeepsLow r) : (s.markStale m v).KeepsLow r := .wr h

theorem sndNke {p addr : Nat} (h : s.KeepsLow r) : (s.sndNke p addr).KeepsLow r := .emit h

theorem stopLegacy {p : Nat} (h : s.KeepsLow r) : (s.stopLegacy p).KeepsLow r := .foldl (.putLport h) fun _ _ => .markStale

theorem startLegacy {p : Nat} (h : s.KeepsLow r) : (s.startLegacy p).KeepsLow r :=
  .ite (.foldl (.putLport h) fun _ _ => .sndNke) (.ite (.foldl (.putLport h) fun _ _ => .emit) (.putLport h))

theorem placeLegacy (h : s.KeepsLow r) : s.placeLegacy.KeepsLow r :=
  .foldl h fun _ _ ht => .ite (.ite (.putLport ht) (.startLegacy (.putLport ht))) (.ite (.stopLegacy ht) ht)

theorem dropForces {c : Nat} {which : Option Nat → Bool} (h : s.KeepsLow r) : (s.dropForces c which).KeepsLow r := by
  unfold State.dropForces
  dsimp only
  split
  · exact .releaseForces h
  · exact h

theorem exchangeDone {c : Nat} (h : s.KeepsLow r) : (s.exchangeDone c).KeepsLow r := .log (.set1 (.wr (.wr (.putProg h))))

theorem checkExchange {c : Nat} (h : s.KeepsLow r) : (s.checkExchange c).KeepsLow r := .ite (.exchangeDone h) h

theorem transferTask {c : Nat} {t' : ImgTask} (h : s.KeepsLow r) : (s.transferTask c t').KeepsLow r := by
  unfold State.transferTask
  refine .ite ?_ h
  split
  · exact h
  · exact .checkExchange (.putTask (.dropForces (.putProg h)))

theorem transferAll {c : Nat} (h : s.KeepsLow r) : (s.transferAll c).KeepsLow r := .foldl h fun _ _ => .transferTask

theorem holdReached {c : Nat} (h : s.KeepsLow r) : (s.holdReached c).KeepsLow r := .ite (.finish (.wr (.transferAll h))) h

theorem abandon {f : Ply → Bool} (h : s.KeepsLow r) : (s.abandon f).KeepsLow r := .rest h

theorem cutWaits {c : Nat} (h : s.KeepsLow r) : (s.cutWaits c).KeepsLow r := by
  unfold State.cutWaits
  dsimp only
  split
  · exact .finish (.putProg (.finish (.finish h)))
  · exact .putProg (.finish (.finish h))

theorem stopProg {c reason : Nat} {safe : Bool} (h : s.KeepsLow r) : (s.stopProg c reason safe).KeepsLow r :=
  .ite (.ite (.takeStopValues (.suspendForces h)) h) (.wrs (.putProg (.takeStopValues (.ite (.suspendForces (.transferAll (.cutWaits
      (.abandon h)))) (.transferAll (.cutWaits (.abandon h)))))))

theorem startProg {c : Nat} {cold byOwner : Bool} (h : s.KeepsLow r) : (s.startProg c cold byOwner).KeepsLow r :=
  .ite (.wr (.putProg h)) h

theorem startIntent {c : Nat} {cold : Bool} (h : s.KeepsLow r) : (s.startIntent c cold).KeepsLow r := .ite (.startProg (.putProg h)) h

theorem holdProg {c : Nat} (h : s.KeepsLow r) : (s.holdProg c).KeepsLow r := .ite (.holdReached (.wr h)) h

theorem resumeProg {c from_ : Nat} (h : s.KeepsLow r) : (s.resumeProg c from_).KeepsLow r :=
  .ite (.wr (.putProg (.foldl h fun _ _ => .putTask))) h

theorem resetTask {c e : Nat} {k tS : Nat} (h : s.KeepsLow r) : (s.resetTask c e k tS).KeepsLow r := .wrs (.putTask h)

theorem coldPoints {c : Nat} (h : s.KeepsLow r) : (s.coldPoints c).KeepsLow r := .pimgWrite (.releaseForces h)

theorem judgeMode (h : s.KeepsLow r) : s.judgeMode.KeepsLow r := .ite h (.ite (.beginTransition h) (.ite (.beginTransition h) h))

theorem dropTls (h : s.KeepsLow r) : s.dropTls.KeepsLow r := .foldl h fun _ _ ht => .detach (.dropConn ht)

theorem stopEngine {e : Nat} (h : s.KeepsLow r) : (s.stopEngine e).KeepsLow r :=
  .foldl (.abandon h) fun _ _ ht => .holdReached (.takeStopValues ht)

theorem maeFails (h : s.KeepsLow r) : s.maeFails.KeepsLow r := .rest (.gapEntry (.cutPulses (.stopAcq h)))

theorem failEffect {u : Nat} (h : s.KeepsLow r) : (s.failEffect u).KeepsLow r :=
  .ite (.ite h (.stopEngine h)) (.ite (.maeFails h) (.ite (.placePorts h) (.ite (.placeLegacy h) (.ite (.dropTls h) (.ite (.ite (.dropTls h)
      h) (.ite (.placeLegacy (.dropTls h)) h))))))

theorem showResume {m : Nat} (h : s.KeepsLow r) : (s.showResume m).KeepsLow r := .ite h (.wr h)

theorem rewarm {c : Nat} {k : ImgTask} (h : s.KeepsLow r) : (s.rewarm c k).KeepsLow r := by
  unfold State.rewarm
  dsimp only
  split
  · exact h
  · exact .resetTask (.putProg h)

theorem wakeTasks (h : s.KeepsLow r) : s.wakeTasks.KeepsLow r := .foldl h fun _ _ ht => .ite (.foldl ht fun _ _ => .rewarm) ht

theorem releaseHolds (h : s.KeepsLow r) : s.releaseHolds.KeepsLow r :=
  .foldl (.foldl h fun _ _ ht => .ite ht (.resumeProg ht)) fun _ _ => .stopEngine

theorem progsEnter {old m : Nat} {cold : Bool} (h : s.KeepsLow r) : (s.progsEnter old m cold).KeepsLow r :=
  .ite (.foldl h fun _ _ => .stopProg) (.ite (.foldl h fun _ _ => .holdProg) (.ite (.startIntent (.startIntent (.foldl h fun _ _ =>
      .stopProg))) (.ite (.foldl (.abandon h) fun _ _ => .holdReached) (.ite (.ite (.releaseHolds h) (.ite (.wakeTasks h) (.ite (.foldl h
      fun _ _ => .startIntent) h))) h))))

theorem beginAcq (h : s.KeepsLow r) : s.beginAcq.KeepsLow r := .ite h (.startAcq (.rest h))

end State.KeepsLow
end Sys2Proof.Machine
end

section
/-!
SUPPORT. Entering a mode (spec/02 R36, R53, R137): what is written is the mode, and what the units then do leaves it.
-/
namespace Sys2Proof.Machine
open Sys2Proof.Claims

theorem State.KeepsLow.mode {s r : State} (h : s.KeepsLow r) : s.mode = r.mode := h.low _ (by decide) (by decide)

theorem Hushed.mode {s t : State} (h : Hushed s t) : t.mode = s.mode := h.rd _ (by decide)

theorem State.endSessions_none (s : State) : (s.endSessions fun _ => true).sessions = [] := by
  have hgone (l : List Session) : ∀ u : State, (∀ i, (∀ x ∈ l, x.id ≠ i) → u.session i = none) →
      ∀ i, (l.foldl (fun t x => t.endSession x.id) u).session i = none := by
    induction l with
    | nil => exact fun u hu i => hu i fun x hx => absurd hx List.not_mem_nil
    | cons x l ih =>
      refine fun u hu => ih (u.endSession x.id) fun i hi => ?_
      by_cases hx : x.id = i
      · exact hx ▸ u.endSession_gone x.id
      · exact (u.endSession_hushed x.id).gone (hu i fun y hy => by
          obtain rfl | hy := List.mem_cons.mp hy
          · exact hx
          · exact hi y hy)
  have hnone : ∀ i, (s.endSessions fun _ => true).session i = none := by
    refine hgone _ s fun i hi => List.find?_eq_none.mpr fun x hx he => ?_
    exact hi x (List.mem_filter.mpr ⟨hx, rfl⟩) (by simpa using he)
  cases hl : (s.endSessions fun _ => true).sessions with
  | nil => rfl
  | cons x l =>
    have h := hnone x.id
    unfold State.session at h
    rw [hl, List.find?_cons_of_pos (by simp)] at h
    cases h

theorem State.noHosts_mode (s : State) : s.noHosts.mode = s.mode := (s.endSessions_hushed fun _ => true).mode

theorem State.noHosts_power (s : State) : s.noHosts.power = s.power := by
  have h := congrArg State.power (s.endSessions_hushed fun _ => true).eq
  exact h

/-- The state in which a mode stands and nothing has followed it yet. -/
def State.entered (s : State) (m : Nat) : State :=
  let s0 := s.markCycles
  let s1 := ({ s0 with power := { s0.power with transition := none } }.wr Obj.IDENT_MODE.f m).showResume m
  if m = 9 then { s1 with power := { s1.power with m9From := s.mode, m9Entry := s1.floorTime, m9Fails := 0 } } else s1

theorem State.showResume_mode (s : State) (m : Nat) : (s.showResume m).mode = s.mode := by
  unfold State.showResume
  split
  · rfl
  · exact State.mode_wr_row _ Obj.PWR_RESUME_MODE 0 [] _ (by decide)

theorem State.showResume_hosts (s : State) (m : Nat) : (s.showResume m).sessions = s.sessions ∧ (s.showResume m).conns = s.conns := by
  unfold State.showResume
  split
  · exact ⟨rfl, rfl⟩
  · exact ⟨rfl, rfl⟩

theorem State.entered_mode (s : State) {m : Nat} (hm : m < 16) : (s.entered m).mode = m := by
  have h (u : State) : ((u.wr Obj.IDENT_MODE.f m).showResume m).mode = m := by
    rw [State.showResume_mode]
    exact (State.rd_wr_self _ _ _).trans (Nat.mod_eq_of_lt hm)
  unfold State.entered
  dsimp only
  split
  · exact h _
  · exact h _

theorem State.entered_m9 (s : State) : (s.entered 9).power.m9From = s.mode ∧ (s.entered 9).power.m9Fails = 0 := ⟨rfl, rfl⟩

/-- The hosts are left behind where M2 is entered. -/
def State.leaveHosts (s : State) (m : Nat) : State := if m = 2 then s.noHosts else s

theorem State.leaveHosts_mode (s : State) (m : Nat) : (s.leaveHosts m).mode = s.mode := by
  unfold State.leaveHosts
  split
  · exact s.noHosts_mode
  · rfl

theorem State.enterMode_keeps (s : State) (m : Nat) (cold : Bool) :
    (s.enterMode m cold).KeepsLow (((s.entered m).progsEnter s.mode m cold).leaveHosts m) :=
  .judgeMode (.logAll (.placeLegacy (.placePorts (.ite (.beginAcq (.refl _)) (.refl _)))))

theorem State.enterMode_mode (s : State) {m : Nat} (cold : Bool) (hm : m < 16) : (s.enterMode m cold).mode = m := by
  have hp : ((s.entered m).progsEnter s.mode m cold).KeepsLow (s.entered m) := .progsEnter (.refl _)
  rw [(s.enterMode_keeps m cold).mode, State.leaveHosts_mode, hp.mode, State.entered_mode s hm]

theorem State.KeepsLow.noSessions {s r : State} (h : s.KeepsLow r) (hr : r.sessions = []) : s.sessions = [] := by
  have := h.ids
  rw [hr] at this
  exact List.map_eq_nil_iff.mp this

theorem State.enterMode_hosts (s : State) (cold : Bool) : (s.enterMode 2 cold).sessions = [] ∧ (s.enterMode 2 cold).conns = [] :=
  ⟨(s.enterMode_keeps 2 cold).noSessions (State.endSessions_none _), (s.enterMode_keeps 2 cold).noConns rfl⟩

theorem State.KeepsLow.power {s r : State} (h : s.KeepsLow r) : s.power = { r.power with transition := s.power.transition } := by
  have hp : ({ s.power with transition := none } : Power) = { r.power with transition := none } := congrArg State.power h.core
  generalize s.power = p at hp ⊢
  generalize r.power = q at hp ⊢
  cases p
  cases q
  simpa using hp

theorem State.enterMode_m9 (s : State) (cold : Bool) :
    (s.enterMode 9 cold).power.m9From = s.mode ∧ (s.enterMode 9 cold).power.m9Fails = 0 := by
  have hp : ((s.entered 9).progsEnter s.mode 9 cold).KeepsLow (s.entered 9) := .progsEnter (.refl _)
  have h : (s.enterMode 9 cold).KeepsLow (s.entered 9) := (s.enterMode_keeps 9 cold).trans hp
  rw [h.power]
  exact s.entered_m9

/-! ### M1 and M3 -/

/-- M1 entered from a state that no host is left in. -/
def State.inM1 (s : State) : State :=
  ({ s with power := { s.power with transition := none, lastMode := 1 } }.wr Obj.IDENT_MODE.f 1).showResume 1

theorem State.inM1_facts {s : State} (hs : s.sessions = []) (hc : s.conns = []) :
    s.inM1.placePorts.placeLegacy.mode = 1 ∧ s.inM1.placePorts.placeLegacy.sessions = [] ∧ s.inM1.placePorts.placeLegacy.conns = [] := by
  have hk : s.inM1.placePorts.placeLegacy.KeepsLow s.inM1 := .placeLegacy (.placePorts (.refl _))
  refine ⟨hk.mode.trans ?_, hk.noSessions ?_, hk.noConns ?_⟩
  · exact (State.showResume_mode _ 1).trans (State.rd_wr_self _ _ _)
  · exact (State.showResume_hosts _ 1).1.trans hs
  · exact (State.showResume_hosts _ 1).2.trans hc

/-- M1 is in force, with no host, when the ports are placed. -/
theorem State.enterM1_facts (s : State) : s.enterM1.mode = 1 ∧ s.enterM1.sessions = [] ∧ s.enterM1.conns = [] := by
  have hs : s.markCycles.noHosts.captureFloor.sessions = [] := State.endSessions_none _
  have hc : s.markCycles.noHosts.captureFloor.conns = [] := rfl
  unfold State.enterM1
  generalize s.markCycles.noHosts.captureFloor = v at hs hc
  have h := State.inM1_facts hs hc
  unfold State.inM1 at h
  dsimp only at h ⊢
  generalize State.placeLegacy _ = u at h ⊢
  split
  · exact h
  · exact h

theorem State.enterM3_mode (s : State) (old : Nat) : (s.enterM3 old).mode = 3 := by
  have hk (u : State) : u.placePorts.placeLegacy.KeepsLow u := .placeLegacy (.placePorts (.refl u))
  refine (hk _).mode.trans ?_
  refine (State.mode_wr_row _ Obj.PWR_STATUS_MAIN_OK 0 [] _ (by decide)).trans ?_
  refine (State.mode_wr_row _ Obj.PWR_STATUS_ON_HOLDUP 0 [] _ (by decide)).trans ?_
  exact State.rd_wr_self _ _ _

/-- What the end of a transition to a mode leaves. -/
theorem modeTransitionDone_facts (s : State) {m : Nat} {cold : Bool} (ht : s.power.transition = some { target := m, cold := cold })
    (hmte : s.mte = none) (hm : m ∈ [1, 2, 3, 5, 6, 7, 8, 9]) :
    (modeTransitionDone s).mode = (if m = 6 ∧ s.reduced = true then 7 else m) ∧
      (m = 1 ∨ m = 2 → (modeTransitionDone s).sessions = [] ∧ (modeTransitionDone s).conns = []) ∧
      (m = 9 → (modeTransitionDone s).power.m9From = s.mode ∧ (modeTransitionDone s).power.m9Fails = 0) := by
  have hbars : s.testBars m = false := by
    unfold State.testBars
    rw [hmte]
    rfl
  have hlt : m < 16 := by
    simp only [List.mem_cons, List.not_mem_nil, or_false] at hm
    omega
  unfold modeTransitionDone
  rw [ht]
  dsimp only
  rw [hbars, if_neg Bool.false_ne_true]
  by_cases h1 : m = 1
  · subst h1
    obtain ⟨hmode, hsess, hconns⟩ := State.enterM1_facts (State.commitOnMain
      (if s.mode = 2 then s.compartments.foldl (fun t c => t.stopProg c 6 false) s else s))
    rw [if_pos rfl, if_neg fun h : 1 = 6 ∧ s.reduced = true => absurd h.1 (by decide)]
    exact ⟨hmode, fun _ => ⟨hsess, hconns⟩, fun h => absurd h (by decide)⟩
  · rw [if_neg h1]
    by_cases h3 : m = 3
    · subst h3
      rw [if_pos rfl, if_neg fun h : 3 = 6 ∧ s.reduced = true => absurd h.1 (by decide)]
      exact ⟨State.enterM3_mode _ _, fun h => absurd h (by decide), fun h => absurd h (by decide)⟩
    · rw [if_neg h3]
      by_cases h6 : m = 6
      · subst h6
        refine ⟨?_, fun h => absurd h (by decide), fun h => absurd h (by decide)⟩
        rw [if_pos rfl]
        refine (State.enterMode_mode s cold ?_).trans ?_
        · unfold State.serviceMode
          split <;> decide
        · simp [State.serviceMode]
      · rw [if_neg h6, if_neg fun h => h6 h.1]
        refine ⟨State.enterMode_mode s cold hlt, fun h => ?_, fun h => ?_⟩
        · obtain rfl := h.resolve_left h1
          exact State.enterMode_hosts s cold
        · subst h
          exact State.enterMode_m9 s cold

/-! ### Requests -/

theorem modeRow_bounds {now m : Nat} (h : modeRow now m = true) : now < 10 ∧ m < 10 := by
  simp only [modeRow, Bool.or_eq_true, Bool.and_eq_true, beq_iff_eq, decide_eq_true_eq] at h
  omega

theorem modeRow_iff (now m : Nat) : modeRow now m = true ↔ (now, m) ∈ askable := by
  have hsmall : ∀ n < 10, ∀ m < 10, modeRow n m = true ↔ (n, m) ∈ askable := by decide
  have hask : ∀ x ∈ askable, x.1 < 10 ∧ x.2 < 10 := by decide
  refine ⟨fun h => ?_, fun h => ?_⟩
  · obtain ⟨hn, hm⟩ := modeRow_bounds h
    exact (hsmall _ hn _ hm).mp h
  · obtain ⟨hn, hm⟩ := hask _ h
    exact (hsmall _ hn _ hm).mpr h

theorem modesOf_iff (l m : Nat) : m ∈ modesOf l ↔ (lcyModes l).contains m = true ∨ [0, 1, 3, 10].contains m = true := by
  rw [List.contains_iff_mem, List.contains_iff_mem]
  unfold modesOf lcyModes
  rw [List.mem_append, or_comm]

/-- A request for a mode is granted where nothing forbids it, and in no other case. -/
theorem State.modeRefusal_none (s : State) (m : Nat) : s.modeRefusal m false = none ↔
    s.power.transition = none ∧ (s.mode, m) ∈ askable ∧ m ∈ modesOf s.lcy.state ∧ (m = 9 → s.lcy.windowAt ≠ none) ∧
      ¬ (s.d2 = true ∧ m ∈ [2, 6, 7, 9]) := by
  rw [modesOf_iff, ← modeRow_iff, ← List.contains_iff_mem]
  unfold State.modeRefusal State.present
  cases s.power.transition with
  | some x => simp
  | none =>
    cases modeRow s.mode m with
    | false => simp [ite_eq_iff]
    | true =>
      by_cases h9 : m = 9
      · subst h9
        cases s.lcy.windowAt <;> simp [ite_eq_iff]
      · simp [ite_eq_iff, h9]
        tauto

theorem State.modeWrite_refused {s : State} {who : Requester} {m : Nat} {cold release : Bool} {x : Nat × Nat}
    (h : s.modeRefusal m release = some x) : s.modeWrite who m cold release = s := by
  unfold State.modeWrite
  rw [h]
  simp

theorem State.modeWrite_granted {s : State} {who : Requester} {m : Nat} {cold release : Bool} (hl : s.live who = true)
    (hc : s.compOf who = 0) (h : s.modeRefusal m release = none) : s.modeWrite who m cold release = s.modeBegin m cold release := by
  unfold State.modeWrite
  rw [h, hl, hc]
  rfl

/-- What a granted request begins. -/
theorem State.modeBegin_begins (s : State) (m : Nat) (cold : Bool) :
    Begins s (s.modeBegin m cold false) (if m = 6 then (if s.reduced then 7 else 6) else m) (m == 6 && cold && s.mode == 8) := by
  unfold State.modeBegin
  by_cases h : m = 6
  · subst h
    rfl
  · rw [if_neg Bool.false_ne_true, if_neg h, if_neg h, beq_false_of_ne h]
    rfl

theorem State.releaseMode_facts (s : State) : (s.power.m9Fails = 0 → s.releaseMode = s.power.m9From) ∧
    (bit s.power.m9Fails 16 = true → s.failed 16 = true → s.releaseMode = 8) ∧
    (bit s.power.m9Fails 2 = true → s.severe = false → s.releaseMode = 7) := by
  refine ⟨fun h => ?_, fun h hf => ?_, fun h hs => ?_⟩
  · have h0 (n : Nat) : bit 0 n = false := by simp [bit]
    unfold State.releaseMode
    rw [h]
    simp [h0]
  · have hsev : s.severe = true := by simp [State.severe, hf]
    simp [State.releaseMode, h, hsev]
  · simp [State.releaseMode, h, hs]

/-- M9 is left for M8 at its limit. -/
theorem m9LimitExpiry_due {s : State} (hm : s.mode = 9) (ht : s.power.transition = none)
    (h : s.power.m9Entry + 1000000000 * s.rd Obj.PWR_M9_LIMIT.f ≤ s.floorTime) : Begins s (m9LimitExpiry s) 8 false :=
  if_pos ⟨hm, by rw [ht]; rfl, h⟩

theorem m9LimitExpiry_early {s : State} (h : s.floorTime < s.power.m9Entry + 1000000000 * s.rd Obj.PWR_M9_LIMIT.f) : m9LimitExpiry s = s :=
  if_neg fun k => absurd k.2.2 (Nat.not_le.mpr h)

end Sys2Proof.Machine

namespace Sys2Proof.Proofs
open Sys2Proof.Machine Sys2Proof.Claims

/-- Settles O23: a request is judged by the rows of Table 2-2, and what follows an entry leaves the mode. -/
theorem modeChanges : Obligations.ModeChanges := by
  unfold Obligations.ModeChanges
  refine ⟨fun who m cold s hl hc => ⟨?grant, ?refuse, ?release, ?stay⟩, fun now m cold s ht hmte hm => ?done,
    fun now s hm ht => ⟨fun h => ?due, fun h => ?early⟩⟩
  case grant =>
    intro ht ha hmo h9 hd
    have hnone := (s.modeRefusal_none m.toNat).mpr ⟨ht, ha, hmo, fun h => h9 (BitVec.eq_of_toNat_eq h), hd⟩
    refine ⟨_, rfl, ?_⟩
    rw [State.modeWrite_granted hl hc hnone]
    have h6 : (m = 6) ↔ m.toNat = 6 := ⟨fun h => h ▸ rfl, fun h => BitVec.eq_of_toNat_eq h⟩
    have hb : (m == 6) = (m.toNat == 6) := by
      rw [Bool.eq_iff_iff, beq_iff_eq, beq_iff_eq, h6]
    simp only [h6, hb]
    exact s.modeBegin_begins m.toNat cold
  case refuse =>
    intro h
    refine ⟨_, rfl, ?_⟩
    cases hr : s.modeRefusal m.toNat false with
    | some x => exact State.modeWrite_refused hr
    | none =>
      obtain ⟨ht, ha, hmo, h9, hd⟩ := (s.modeRefusal_none m.toNat).mp hr
      obtain h | h | h | ⟨hm, hw⟩ | h := h
      · exact absurd ht h
      · exact absurd ha h
      · exact absurd hmo h
      · exact absurd hw (h9 (hm ▸ rfl))
      · exact absurd h hd
  case release =>
    intro ht hm
    have hr : s.modeRefusal 0 true = none := by
      unfold State.modeRefusal
      rw [ht, hm]
      rfl
    refine ⟨_, rfl, s.releaseMode, ?_, s.releaseMode_facts⟩
    rw [State.modeWrite_granted hl hc hr]
    rfl
  case stay =>
    intro h
    have hr : ∃ x, s.modeRefusal 0 true = some x := by
      unfold State.modeRefusal
      cases ht : s.power.transition with
      | some x => exact ⟨_, rfl⟩
      | none => exact ⟨_, if_neg (h.resolve_left fun h => h ht)⟩
    obtain ⟨x, hr⟩ := hr
    exact ⟨_, rfl, State.modeWrite_refused hr⟩
  case done => exact ⟨_, rfl, modeTransitionDone_facts (s.advance now) ht hmte hm⟩
  case due => exact ⟨_, rfl, m9LimitExpiry_due (s := s.advance now) hm ht (by rw [State.advance_floorTime]; exact h)⟩
  case early => exact ⟨_, rfl, m9LimitExpiry_early (s := s.advance now) (by rw [State.advance_floorTime]; exact h)⟩

end Sys2Proof.Proofs
end

section
/-!
A ply of entry 768, beyond the sixteen of a task table, in a word of whose engine an error is met (spec/18 R424).
-/
namespace Sys2Proof.Proofs
open Sys2Proof.Machine Sys2Proof.Claims

/-- As `strayState`, with variable force 4 in place of force 0: its STATE and the code of the stray ply's last trap are one field, 0x140080. -/
def strayTrap : State :=
  State.wrs
    { scan := { plies := [strayPly], progs := [(0, { cur := some strayProg, old := some strayProg })],
                e0 := { shares := some [1], last := some (0, 768) } } }
    [(Obj.SCE_STATE.b 0, 3), (Obj.EXCH_STATE.b 0, 2), (Obj.SCE_TASK_CFG_ENABLE.at 0 [0, 0], 1), (Obj.FORCE_KIND.bi 0 4, 1)]

theorem strayTrap_runs : (strayTrap.advance 0).running 0 = some strayPly := by decide

/-- The trap's code makes the force's entry a force, and the release that the trap brings clears it. -/
theorem strayTrap_code : (eccUe 1 0 0 (strayTrap.advance 0)).rd (taskField Obj.SCE_TRAP_LAST_CODE strayPly) = 0 := by decide +kernel

/-- Refutes O53: the statement bounds no ply's entry, and `strayTrap` runs one of entry 768, whose trap code is the STATE of a force's
entry; the release of the force that its trap brings leaves it at 0 instead of 7. -/
theorem not_memories : ¬ Obligations.Memories := by
  unfold Obligations.Memories
  intro h
  obtain ⟨hue, -⟩ := h
  obtain ⟨-, -, -, htrap, -⟩ := hue 1 0 0 0 strayTrap
  obtain ⟨t, hexec, -, -, hcode⟩ := htrap 0 strayPly (by decide) rfl strayTrap_runs
  have ht : eccUe 1 0 0 (strayTrap.advance 0) = t := Host.Outcome.next.inj hexec
  rw [← ht, strayTrap_code] at hcode
  exact absurd hcode (by decide)

end Sys2Proof.Proofs
end

section
/-!
SUPPORT. What the pins, the seal loop, CONFIG LOCK and D1 bring (spec/16 R391 to R400).
-/
namespace Sys2Proof.Machine
open Sys2Proof.Claims

namespace State.KeepsLow
variable {r s : State}

theorem endStep {c : Nat} (h : s.KeepsLow r) : (s.endStep c).KeepsLow r := by
  unfold State.endStep
  dsimp only
  split
  · exact .finish (.putProg h)
  · exact h

theorem d1Change {c : Nat} {on : Bool} (h : s.KeepsLow r) : (s.d1Change c on).KeepsLow r :=
  .logAll (.ite (.ite (.putProg (.endStep h)) (.resumeProg (.endStep h))) h)

end State.KeepsLow

theorem State.failed_wr (s : State) {f : Fld} {v : Nat} (h : f.key ≠ Obj.PWR_UNIT_FAIL.f.key) (u : Nat) : (s.wr f v).failed u = s.failed u := by
  unfold State.failed
  rw [State.rd_wr_ne _ _ _ _ h]

/-! ### Presence -/

theorem presencePress_off {s : State} (hm : s.mode = 0) : presencePress s = s.set1 Obj.LCY_PRESENCE_PRESSED_OFF.f := if_pos hm

theorem presencePress_awake {s : State} (hm : s.mode ≠ 0) :
    (presencePress s).lcy = { s.lcy with pressedAt := some s.floorTime, held := false } ∧ Kept [Obj.PWR_WAKE_CAUSE.f] s (presencePress s) := by
  unfold presencePress
  rw [if_neg hm]
  dsimp only
  split
  · obtain ⟨heq, hb⟩ := State.wake_spec { s with lcy := { s.lcy with pressedAt := some s.floorTime, held := false } } 1
    refine ⟨?_, fun g hg => hb g (beq_eq_false_iff_ne.mpr fun h => hg _ List.mem_cons_self h.symm)⟩
    rw [heq]
  · exact ⟨rfl, .of_regs rfl⟩

theorem State.heldLong_some {s : State} {p : Nat} (hp : s.lcy.pressedAt = some p) (hl : p + 3000000000 ≤ s.floorTime)
    (hh : s.lcy.held = false) : s.heldLong = some (p + 3000000000) := by
  unfold State.heldLong
  rw [hp, hh]
  exact if_pos ⟨hl, rfl⟩

theorem State.heldLong_none {s : State} (hp : s.lcy.pressedAt = none) : s.heldLong = none := by
  unfold State.heldLong
  rw [hp]

/-- A hold of three seconds opens the window. -/
theorem presenceWindowOpen_held {s : State} {p : Nat} (hs : s.serves = true) (hw : s.lcy.windowAt = none)
    (hh : s.heldLong = some p) : (presenceWindowOpen s).lcy.windowAt = some s.floorTime ∧
      (presenceWindowOpen s).rd Obj.LCY_PRESENCE_OPENS.f = (s.rd Obj.LCY_PRESENCE_OPENS.f + 1) % 2 ^ 32 ∧
      Logged s (presenceWindowOpen s) 0 0x0904 [] := by
  have heq : presenceWindowOpen s = (({ s with lcy := { s.lcy with
      held := s.lcy.held || s.heldLong.isSome, windowDue := false, windowAt := some s.floorTime } } : State).inc Obj.LCY_PRESENCE_OPENS.f).log 0 0x0904 [] := by
    unfold presenceWindowOpen
    rw [hs, hw, hh]
    rfl
  rw [heq]
  have hr (u : State) := State.log_raised u 0 0x0904 [] false none
  refine ⟨?_, ?_, logged_log (State.failed_wr _ (by decide) _) (State.exists?_low _ s (by decide)) (List.prefix_refl _) (Nat.le_add_right _ _)⟩
  · rw [(hr _).eq]
    rfl
  · rw [(hr _).rd _ (by decide)]
    exact State.rd_wr_self _ _ _

theorem presenceWindowOpen_idle {s : State} (hw : s.lcy.windowAt = none) (hd : s.lcy.windowDue = false) (hh : s.heldLong = none) :
    presenceWindowOpen s = s := by
  unfold presenceWindowOpen
  rw [hw, hd, hh]
  simp

theorem presenceWindowClose_due {s : State} {w : Nat} (hw : s.lcy.windowAt = some w) (h : w + 120000000000 ≤ s.floorTime) :
    presenceWindowClose s = { s with lcy := { s.lcy with windowAt := none } } := by
  unfold presenceWindowClose
  rw [hw]
  exact if_pos h

theorem presenceWindowClose_early {s : State} (h : ∀ w, s.lcy.windowAt = some w → s.floorTime < w + 120000000000) :
    presenceWindowClose s = s := by
  unfold presenceWindowClose
  split
  case _ w hw => exact if_neg (Nat.not_le.mpr (h w hw))
  · rfl

/-! ### Seal loop and CONFIG LOCK -/

theorem State.logOrDefer_awake {s : State} {c trigger : Nat} {d : Bytes} (h2 : 2 ≤ s.mode) (h10 : s.mode ≠ 10) :
    s.logOrDefer c trigger d = s.log c trigger d := if_neg fun h => by omega

/-- Two records, each deferred or queued. -/
theorem State.logBoth_raised (s : State) (trigger : Nat) (d : Bytes) :
    Raised 2 s ((s.logOrDefer 0 trigger d).logOrDefer 1 trigger d) :=
  (s.logOrDefer_raised 0 trigger d).trans (State.logOrDefer_raised _ 1 trigger d)

theorem State.logBoth_logged {s u : State} {trigger : Nat} {d : Bytes} (h2 : 2 ≤ u.mode) (h10 : u.mode ≠ 10)
    (hf : u.failed 10 = s.failed 10) (hp : u.evr.pend = s.evr.pend) :
    Logged s ((u.logOrDefer 0 trigger d).logOrDefer 1 trigger d) 0 trigger d ∧
      Logged s ((u.logOrDefer 0 trigger d).logOrDefer 1 trigger d) 1 trigger d := by
  have hm := (u.log_raised 0 trigger d false none).mode
  rw [State.logOrDefer_awake h2 h10, State.logOrDefer_awake (hm ▸ h2) (hm ▸ h10)]
  exact logged_logAll (a := u) hf (hp ▸ List.prefix_refl _) (by rw [hp]; omega)

/-- What the opening of the seal latch writes. -/
def State.sealFields (s : State) : State :=
  (s.wrs [(Obj.LCY_SEAL_LATCH_OPEN.f, 1), (Obj.LCY_SEAL_ACKED.f, 0), (Obj.LCY_SEAL_OPEN_TICKS.f, s.rtc.ticks),
    (Obj.LCY_EVT_SEAL.f, 1)]).inc Obj.LCY_SEAL_OPENS.f

theorem State.sealFields_beyond (s : State) {g : Fld}
    (hg : ∀ r ∈ [Obj.LCY_SEAL_LATCH_OPEN, Obj.LCY_SEAL_ACKED, Obj.LCY_SEAL_OPEN_TICKS, Obj.LCY_EVT_SEAL, Obj.LCY_SEAL_OPENS], r.f.key ≠ g.key) :
    s.sealFields.rd g = s.rd g := by
  simp only [List.forall_mem_cons] at hg
  obtain ⟨h1, h2, h3, h4, h5, -⟩ := hg
  refine (State.rd_wr_ne _ _ _ _ h5).trans ((State.rd_wr_ne _ _ _ _ h4).trans ((State.rd_wr_ne _ _ _ _ h3).trans ?_))
  exact (State.rd_wr_ne _ _ _ _ h2).trans (State.rd_wr_ne _ _ _ _ h1)

theorem State.sealFields_facts (s : State) : s.sealFields.rd Obj.LCY_SEAL_LATCH_OPEN.f = 1 ∧ s.sealFields.rd Obj.LCY_SEAL_ACKED.f = 0 ∧
    s.sealFields.rd Obj.LCY_EVT_SEAL.f = 1 ∧ s.sealFields.rd Obj.LCY_SEAL_OPEN_TICKS.f = s.rtc.ticks % 2 ^ 64 ∧
    s.sealFields.rd Obj.LCY_SEAL_OPENS.f = (s.rd Obj.LCY_SEAL_OPENS.f + 1) % 2 ^ 32 := by
  unfold State.sealFields State.wrs State.inc
  simp only [List.foldl_cons, List.foldl_nil]
  simp (disch := decide) only [State.rd_wr_ne, State.rd_wr_self]
  exact ⟨rfl, rfl, rfl, rfl, rfl⟩

theorem sealBreak_open {s : State} (h : s.rd Obj.LCY_SEAL_LATCH_OPEN.f = 1) :
    sealBreak s = { s with lcy := { s.lcy with loopIntact := false } } := if_pos (beq_iff_eq.mpr h)

theorem sealBreak_closed {s : State} (h : s.rd Obj.LCY_SEAL_LATCH_OPEN.f ≠ 1) : let t := sealBreak s
    t.lcy = { s.lcy with loopIntact := false } ∧ t.rd Obj.LCY_SEAL_LATCH_OPEN.f = 1 ∧ t.rd Obj.LCY_SEAL_ACKED.f = 0 ∧
      t.rd Obj.LCY_EVT_SEAL.f = 1 ∧ t.rd Obj.LCY_SEAL_OPEN_TICKS.f = s.rtc.ticks % 2 ^ 64 ∧
      t.rd Obj.LCY_SEAL_OPENS.f = (s.rd Obj.LCY_SEAL_OPENS.f + 1) % 2 ^ 32 ∧
      (2 ≤ s.mode → s.mode ≠ 10 → Logged s t 0 0x0901 [] ∧ Logged s t 1 0x0901 []) := by
  let b : State := { s with lcy := { s.lcy with loopIntact := false } }
  have heq : sealBreak s = (b.sealFields.logOrDefer 0 0x0901 []).logOrDefer 1 0x0901 [] :=
    if_neg fun k => h (beq_iff_eq.mp k)
  have hr := b.sealFields.logBoth_raised 0x0901 []
  obtain ⟨h1, h2, h3, h4, h5⟩ := b.sealFields_facts
  intro t
  have ht : t = (b.sealFields.logOrDefer 0 0x0901 []).logOrDefer 1 0x0901 [] := heq
  rw [ht]
  have hfield {g : Fld} {v : Nat} (hu : unlogged g = true) (hv : b.sealFields.rd g = v) := (hr.rd g hu).trans hv
  refine ⟨?_, hfield (by decide) h1, hfield (by decide) h2, hfield (by decide) h3, hfield (by decide) h4, hfield (by decide) h5, ?_⟩
  · rw [hr.eq]
    rfl
  · have hm : b.sealFields.mode = s.mode := b.sealFields_beyond (by decide)
    exact fun h2 h10 => State.logBoth_logged (hm ▸ h2) (hm ▸ h10)
      (by unfold State.failed; exact congrArg (bit · 10) (b.sealFields_beyond (by decide))) rfl

theorem configLockChange_changed {s : State} {x : Bool} (h : x ≠ s.lcy.jumper) : let t := configLockChange x s
    t.lcy = { s.lcy with jumper := x } ∧ t.rd Obj.LCY_EVT_LOCK_CHANGED.f = 1 ∧
      (2 ≤ s.mode → s.mode ≠ 10 → Logged s t 0 0x0903 (le 1 (b2n x))) := by
  let u : State := ({ s with lcy := { s.lcy with jumper := x } } : State).set1 Obj.LCY_EVT_LOCK_CHANGED.f
  have hr := u.logBoth_raised 0x0903 (le 1 (b2n x))
  intro t
  have ht : t = (u.logOrDefer 0 0x0903 (le 1 (b2n x))).logOrDefer 1 0x0903 (le 1 (b2n x)) := if_neg h
  rw [ht]
  refine ⟨?_, (hr.rd _ (by decide)).trans (State.rd_wr_self _ _ _), fun h2 h10 => ?_⟩
  · rw [hr.eq]
    rfl
  · have hm : u.mode = s.mode := State.rd_wr_ne _ _ _ _ (by decide)
    have hf : u.failed 10 = s.failed 10 := State.failed_wr { s with lcy := { s.lcy with jumper := x } } (by decide) 10
    exact (State.logBoth_logged (hm ▸ h2) (hm ▸ h10) hf rfl).1

/-! ### The timed enabling of the USB port, D1 and the debug port -/

theorem State.endUsbTime_until (s : State) : s.endUsbTime.lcy.usbUntil = none := by
  unfold State.endUsbTime
  split
  case isTrue h => exact Option.isNone_iff_eq_none.mp h
  case isFalse =>
    rw [(State.judgeUsb_hushed _).eq, (State.log_raised _ _ _ _ _ _).eq]

theorem State.writeD1_ignored {s : State} {v : Nat} (h : s.lcy.state ∉ [2, 3]) : s.writeD1 v = s :=
  if_pos (by simpa using h)

theorem State.writeD1_written {s : State} {v : Nat} (hv : v < 2 ^ 34) (hl : s.lcy.state ∈ [2, 3]) (hd : s.rd Obj.LCY_DEBUG.f ≠ 2) :
    (s.writeD1 v).rd Obj.LCY_D1_EN.f = v ∧ (s.writeD1 v).rd Obj.LCY_DEBUG.f = (if v = 0 then 0 else 1) := by
  let s1 := s.wr Obj.LCY_D1_EN.f v
  let s2 := s1.wr Obj.LCY_DEBUG.f (b2n (s1.rd Obj.LCY_D1_EN.f != 0))
  have hd1 : s1.rd Obj.LCY_DEBUG.f = s.rd Obj.LCY_DEBUG.f := State.rd_wr_ne _ _ _ _ (by decide)
  have hen : s1.rd Obj.LCY_D1_EN.f = v := (State.rd_wr_self _ _ _).trans (Nat.mod_eq_of_lt hv)
  have h2 : s1.d2 = false := by
    unfold State.d2
    rw [hd1, beq_false_of_ne hd]
    refine beq_false_of_ne fun h0 => ?_
    simp [show s.lcy.state = 0 from h0] at hl
  have heq : s.writeD1 v = ((List.range 34).filter fun c => bit (s.rd Obj.LCY_D1_EN.f) c != bit v c).foldl
      (fun t c => t.d1Change c (bit v c)) s2 := by
    have hne : ¬ (s.lcy.state ≠ 2 ∧ s.lcy.state ≠ 3) := by
      rintro ⟨h2, h3⟩
      simp [h2, h3] at hl
    refine (if_neg hne).trans ?_
    show List.foldl _ (if s1.d2 then _ else _) _ = _
    rw [h2]
    rfl
  have hk : (s.writeD1 v).KeepsLow s2 := by
    rw [heq]
    exact .foldl (.refl _) fun _ _ => .d1Change
  refine ⟨(hk.low _ (by decide) (by decide)).trans ?_, (hk.low _ (by decide) (by decide)).trans ?_⟩
  · exact (State.rd_wr_ne _ _ _ _ (by decide)).trans hen
  · refine (State.rd_wr_self _ _ _).trans ?_
    rw [hen]
    by_cases h0 : v = 0
    · rw [if_pos h0, h0]
      rfl
    · rw [if_neg h0, show (v != 0) = true from bne_iff_ne.mpr h0]
      rfl

theorem debugProbeFit_facts (s : State) : (debugProbeFit s).lcy = { s.lcy with probe := true } ∧
    (2 ≤ s.mode → s.mode ≠ 10 → ∃ n, n < 256 ∧ Logged s (debugProbeFit s) 0 (0x0900 + n) []) := by
  let b : State := { s with lcy := { s.lcy with probe := true }, free := s.free + 1 }
  have heq : debugProbeFit s = b.logOrDefer 0 (0x0900 + Config.freeNat s.free % 256) [] := rfl
  refine ⟨?_, fun h2 h10 => ⟨Config.freeNat s.free % 256, Nat.mod_lt _ (by decide), ?_⟩⟩
  · rw [heq, (b.logOrDefer_raised _ _ _).eq]
  · rw [heq, State.logOrDefer_awake (s := b) h2 h10]
    exact logged_log rfl rfl (List.prefix_refl _) (Nat.le_add_right _ _)

end Sys2Proof.Machine

namespace Sys2Proof.Proofs
open Sys2Proof.Machine Sys2Proof.Claims

/-- Settles O27, event by event. -/
theorem lifeCycleEvents : Obligations.LifeCycleEvents := by
  unfold Obligations.LifeCycleEvents
  intro now s a
  refine ⟨?off, ?press, ?release, ?opens, ?idle, ?close, ?early, ?broken, ?break_, ⟨_, rfl, rfl⟩, fun x => ⟨?same, ?lock⟩,
    fun u hu => ⟨?expire, ?runs⟩, fun who v hl hc => ⟨?d1, ?noD1⟩, ?probe, ?reset, ?noReset, fun halt => ⟨?halt, ?noHalt⟩⟩
  case off => exact fun hm => ⟨_, congrArg Host.Outcome.next (presencePress_off (s := a) hm), OneField.wr rfl rfl, rfl⟩
  case press => exact fun hm => ⟨_, rfl, presencePress_awake (s := a) hm⟩
  case release =>
    refine ⟨_, rfl, rfl, fun p hp hl hh => ?_, fun hp => ?_⟩
    · show (a.lcy.windowDue || a.heldLong.isSome) = true
      rw [State.heldLong_some (s := a) hp hl hh]
      exact Bool.or_true _
    · show (a.lcy.windowDue || a.heldLong.isSome) = a.lcy.windowDue
      rw [State.heldLong_none (s := a) hp]
      exact Bool.or_false _
  case opens => exact fun hs hw p hp hl hh => ⟨_, rfl, presenceWindowOpen_held (s := a) hs hw (State.heldLong_some (s := a) hp hl hh)⟩
  case idle => exact fun _ hw hd hp => ⟨_, rfl, presenceWindowOpen_idle (s := a) hw hd (State.heldLong_none (s := a) hp)⟩
  case close => exact fun w hw h => ⟨_, rfl, presenceWindowClose_due (s := a) hw h⟩
  case early => exact fun h => ⟨_, rfl, presenceWindowClose_early (s := a) h⟩
  case broken => exact fun h => ⟨_, rfl, sealBreak_open (s := a) h⟩
  case break_ => exact fun h => ⟨_, rfl, sealBreak_closed (s := a) h⟩
  case same => exact fun h => ⟨_, rfl, if_pos h⟩
  case lock => exact fun h => ⟨_, rfl, configLockChange_changed (s := a) h⟩
  case expire =>
    refine fun h => ⟨_, rfl, ?_⟩
    unfold usbEnableExpiry
    rw [if_pos (by show Option.any _ s.lcy.usbUntil = true; rw [hu]; exact decide_eq_true h)]
    exact a.endUsbTime_until
  case runs =>
    refine fun h => ⟨_, rfl, if_neg ?_⟩
    show ¬ Option.any _ s.lcy.usbUntil = true
    rw [hu]
    exact fun k => absurd (of_decide_eq_true k) (Nat.not_le.mpr h)
  case d1 =>
    intro hs hd
    refine ⟨_, rfl, ?_⟩
    rw [show (s.live who && (s.advance now).compOf who == 0) = true by rw [hl, show (s.advance now).compOf who = 0 from hc]; rfl, if_pos rfl]
    obtain ⟨hen, hdb⟩ := State.writeD1_written (s := a) v.isLt hs hd
    refine ⟨hen, hdb.trans ?_⟩
    have h0 : v.toNat = 0 ↔ v = 0 := ⟨fun h => BitVec.eq_of_toNat_eq h, fun h => h ▸ rfl⟩
    simp only [h0]
  case noD1 =>
    intro hs
    refine ⟨_, rfl, ?_⟩
    split
    · exact State.writeD1_ignored (s := a) hs
    · rfl
  case probe => exact ⟨_, rfl, debugProbeFit_facts a⟩
  case reset => exact fun hd h4 h9 ht => ⟨_, rfl, if_pos (by
    rw [show a.d2 = true from hd, show a.power.transition = none from ht]
    simp only [Bool.true_and, Option.isNone_none, Bool.and_true]
    exact decide_eq_true ⟨h4, h9⟩)⟩
  case noReset => exact fun hd => ⟨_, rfl, if_neg (by rw [show a.d2 = false from hd]; simp)⟩
  case halt => exact fun hd => ⟨_, rfl, if_pos hd⟩
  case noHalt => exact fun hd => ⟨_, rfl, if_neg (by rw [show a.d2 = false from hd]; exact Bool.false_ne_true)⟩

end Sys2Proof.Proofs
end

section
/-!
SUPPORT. The life-cycle commands (spec/16 R386 to R400): the session that asks outlasts the end of the others, and what a seal's word and
the gating of the operations root show.
-/
namespace Sys2Proof.Machine
open Sys2Proof.Claims

/-! ### Sessions that stay -/

theorem Talked.ite {s t u : State} (h : Talked s t) (k : Talked s u) {c : Prop} [Decidable c] : Talked s (if c then t else u) := by
  split
  · exact h
  · exact k

theorem State.updAbort_talked (s : State) (cause : Nat) : Talked s (s.updAbort cause false) := by
  refine Talked.trans ?_ (State.logAll_raised _ _ _ _ _).talked
  refine Talked.trans (t := State.wrs { s with upd := { s.upd with owner := none, activateAt := none } } [(Obj.UPD_STATE.f, 0), (Obj.UPD_BUILD_LO.f, 0)]) ?_ ?_
  · exact .of_eq rfl rfl
  · exact (State.finish_talked _ .updVerify _ _).trans (State.finish_talked _ .updActivate _ _)

theorem State.cancelWaiter_talked (s : State) (w : Waiter) : Talked s (s.cancelWaiter w) := by
  rw [State.cancelWaiter_eq]
  exact (s.cancelAnswered_talked w).trans ((s.cancelAnswered w).cancelWork_talked w.wait)

theorem Talked.foldl {α : Type} {g : State → α → State} (h : ∀ t a, Talked t (g t a)) (l : List α) (s : State) : Talked s (l.foldl g s) := by
  induction l generalizing s with
  | nil => exact .refl s
  | cons a l ih => exact (h s a).trans (ih _)

/-- A session outlasts the end of another. -/
theorem State.endSession_speaks {s : State} {f : Frame} {x : Session} (h : Speaks s f x) {i : Nat} (hi : i ≠ x.id) : Speaks (s.endSession i) f x := by
  unfold State.endSession
  split
  · exact h
  · dsimp only
    have h1 : Talked s ((s.cancellableOf i).foldl State.cancelWaiter s) := .foldl State.cancelWaiter_talked _ _
    generalize (s.cancellableOf i).foldl State.cancelWaiter s = t at h1
    have h2 : Talked s (if t.upd.owner = some i then t.updAbort 2 false else t) := .ite (h1.trans (t.updAbort_talked 2)) h1
    generalize (if t.upd.owner = some i then t.updAbort 2 false else t) = u at h2
    obtain ⟨y, hy, hc⟩ := h2.speaks h
    refine ⟨y, ?_, hc⟩
    refine Eq.trans ?_ hy
    show (u.sessions.filter fun x => x.id != i).find? _ = u.sessions.find? _
    rw [List.find?_filter]
    refine congrArg (fun q => u.sessions.find? q) (funext fun z => ?_)
    by_cases hz : z.id = x.id
    · simp [hz, Ne.symm hi]
    · simp [hz]

theorem State.endOthers_speaks {s : State} {f : Frame} {x : Session} (h : Speaks s f x) : Speaks (s.endSessions fun z => z.id != x.id) f x := by
  unfold State.endSessions
  have hl : ∀ z ∈ s.sessions.filter fun z => z.id != x.id, z.id ≠ x.id := fun z hz => by simpa using (List.mem_filter.mp hz).2
  generalize s.sessions.filter (fun z => z.id != x.id) = l at hl
  induction l generalizing s with
  | nil => exact h
  | cons z l ih => exact ih (State.endSession_speaks h (hl z List.mem_cons_self)) fun y hy => hl y (List.mem_cons_of_mem z hy)

/-- Where each session but one has ended, the end of that one leaves none. -/
theorem State.endOthers_session (s : State) {i j : Nat} (hj : j ≠ i) : (s.endSessions fun z => z.id != i).session j = none := by
  have hgone (l : List Session) (hl : j ∈ l.map (·.id)) : ∀ u : State, (l.foldl (fun t x => t.endSession x.id) u).session j = none := by
    induction l with
    | nil => cases hl
    | cons z l ih =>
      intro u
      by_cases hz : z.id = j
      · have hk (u : State) : Hushed u (l.foldl (fun t x => t.endSession x.id) u) := .foldl (.refl u) fun t y _ => t.endSession_hushed y.id
        exact (hk _).gone (hz ▸ u.endSession_gone z.id)
      · obtain h | h := List.mem_cons.mp hl
        · exact absurd h.symm hz
        · exact ih h _
  by_cases hm : j ∈ s.sessions.map (·.id)
  · refine hgone _ ?_ s
    obtain ⟨z, hz, he⟩ := List.mem_map.mp hm
    exact List.mem_map.mpr ⟨z, List.mem_filter.mpr ⟨hz, by simpa [he] using hj⟩, he⟩
  · refine (s.endSessions_hushed _).gone ?_
    cases h : s.session j with
    | none => rfl
    | some y => exact absurd ((s.session_isSome j).mp (by rw [h]; rfl)) hm

theorem State.sessions_nil {s : State} (h : ∀ i, s.session i = none) : s.sessions = [] := by
  cases hl : s.sessions with
  | nil => rfl
  | cons x l =>
    have h := h x.id
    unfold State.session at h
    rw [hl, List.find?_cons_of_pos (by simp)] at h
    cases h

theorem State.stopProg_talked (s : State) (c reason : Nat) : Talked s (s.stopProg c reason false) := by
  by_cases h : s.rd (Obj.SCE_STATE.b c) = 0 ∨ s.rd (Obj.SCE_STATE.b c) = 5
  · have heq : s.stopProg c reason false = s := by
      unfold State.stopProg
      dsimp only
      rw [if_pos h, if_neg Bool.false_ne_true]
    rw [heq]
    exact .refl s
  · exact (State.stopProg_halted reason (fun h0 => h (.inl h0)) (fun h5 => h (.inr h5))).talked

/-! ### Promotion -/

/-- Programs stopped, every other session ended, the test aborted: all but the fuses. -/
def State.readied (s : State) (q : Req) : State :=
  ((s.compartments.foldl (fun t c => t.stopProg c 7 false) (s.sayPending q)).endSessions fun x => x.id != q.sid).abortTest

theorem State.readied_facts {s : State} {f : Frame} {x : Session} (code : Nat) (h : Speaks s f x) :
    Speaks (s.readied (requestOf f x code)) f x ∧ (∀ j, j ≠ x.id → (s.readied (requestOf f x code)).session j = none) ∧
      (s.readied (requestOf f x code)).lcy = s.lcy := by
  unfold State.readied
  obtain ⟨cn, hcn⟩ := s.respond_counts f.conn x.comp f.seq.toNat code St.pending []
  have h0 : Talked s (s.sayPending (requestOf f x code)) := by
    unfold State.sayPending requestOf
    dsimp only
    rw [hcn]
    exact ⟨List.prefix_append _ _, fun i y hy => ⟨y, hy, rfl, rfl⟩, rfl⟩
  have hl0 : (s.sayPending (requestOf f x code)).lcy = s.lcy := by
    unfold State.sayPending requestOf
    dsimp only
    rw [hcn]
  generalize s.sayPending (requestOf f x code) = u at h0 hl0
  have h1 : Talked u (s.compartments.foldl (fun t c => t.stopProg c 7 false) u) := .foldl (fun t c => t.stopProg_talked c 7) _ _
  have hk : (s.compartments.foldl (fun t c => t.stopProg c 7 false) u).KeepsLow u := .foldl (.refl u) fun _ _ => .stopProg
  have hl1 := congrArg State.lcy hk.core
  generalize s.compartments.foldl (fun t c => t.stopProg c 7 false) u = v at h1 hl1
  have hs : Speaks v f x := (h0.trans h1).speaks h
  have ho := State.endOthers_speaks hs
  have hn (j : Nat) (hj : j ≠ x.id) := v.endOthers_session hj
  have hh := v.endSessions_hushed fun z => z.id != x.id
  refine ⟨(State.abortTest_talked _).speaks ho, fun j hj => (State.abortTest_hushed _).gone (hn j hj), ?_⟩
  rw [(State.abortTest_hushed _).eq]
  show (v.endSessions fun z => z.id != x.id).lcy = s.lcy
  rw [hh.eq]
  exact hl1.trans hl0

/-- The fuses of a readied state blow, or do not. -/
def State.promoteFrom (s u : State) (q : Req) (target : Nat) : State :=
  let (n, s3) := u.draw
  let old := s.lcy.state
  let l := { s3.lcy with accepted := (old, s.floorTime, s.rtc.ticks), windowAt := none }
  let s4 : State := if n % 2 = 0 then { s3 with lcy := { l with state := target, intent := none } }
    else { s3 with lcy := { l with intent := if n / 2 % 2 = 0 then some target else none } }
  let s5 := if n % 2 = 0 then s4.finalTo q.sid q.seq q.code St.ok (le 1 target ++ le 3 0) false
    else (s4.finalTo q.sid q.seq q.code St.internalError [] false).log 0 0x01FF (le 4 q.seq ++ le 2 q.code)
  (s5.endSession q.sid).beginTransition 3

/-- The last session ends with what was put out for it. -/
theorem State.endLast {u v : State} {i : Nat} {o : Out} (hk : Ended u v) (ht : Talked u v) (hn : ∀ j, j ≠ i → u.session j = none)
    (ho : o ∈ v.sent) : (v.endSession i).sessions = [] ∧ (v.endSession i).lcy = u.lcy ∧ o ∈ (v.endSession i).sent := by
  have hh := v.endSession_hushed i
  refine ⟨State.sessions_nil fun j => ?_, ?_, hh.sent.subset ho⟩
  · by_cases hj : j = i
    · exact hj ▸ v.endSession_gone i
    · refine hh.gone ?_
      cases hv : v.session j with
      | none => rfl
      | some y =>
        obtain ⟨z, hz, -⟩ := ht.stays j y hv
        rw [hn j hj] at hz
        cases hz
  · rw [hh.eq]
    show v.lcy = u.lcy
    rw [hk.eq]

/-- The last session is answered, which may be recorded, and ends. -/
theorem State.endAnswered {u : State} {f : Frame} {x : Session} (hs : Speaks u f x) (hc : x.comp = 0)
    (hn : ∀ j, j ≠ x.id → u.session j = none) (code st : Nat) (p : Bytes) {v : State} {n : Nat}
    (hv : Raised n (u.finalTo x.id f.seq.toNat code st p false) v) :
    (v.endSession x.id).sessions = [] ∧ (v.endSession x.id).lcy = u.lcy ∧
      Out.resp f.conn 0 f.seq.toNat code st p ∈ (v.endSession x.id).sent := by
  have ho : Out.resp f.conn 0 f.seq.toNat code st p ∈ v.sent := by
    obtain ⟨ss, cn, he⟩ := State.finalTo_spoken hs f.seq.toNat code st p false
    rw [hv.eq, he, hc]
    exact List.mem_append_right _ (List.mem_singleton_self _)
  exact State.endLast ((State.finalTo_ended _ _ _ _ _ _ _).trans hv.ended) ((State.finalTo_talked _ _ _ _ _ _ _).trans hv.talked) hn ho

/-- What an accepted promotion has done when its session has ended. -/
theorem State.promote_facts {s : State} {f : Frame} {x : Session} (target : Nat) (h : Speaks s f x) (hc : x.comp = 0) :
    let t := s.promote (requestOf f x 0x0901) target
    t.sessions = [] ∧ t.power.transition = some { target := 3 } ∧ t.lcy.accepted = (s.lcy.state, s.floorTime, s.rtc.ticks) ∧
      ((t.lcy.state = target ∧ Out.resp f.conn 0 f.seq.toNat 0x0901 0 (le 1 target ++ le 3 0) ∈ t.sent) ∨
       (t.lcy.state = s.lcy.state ∧ Out.resp f.conn 0 f.seq.toNat 0x0901 0xFF [] ∈ t.sent)) := by
  obtain ⟨hs, hn, hl⟩ := State.readied_facts (s := s) 0x0901 h
  have heq : s.promote (requestOf f x 0x0901) target = s.promoteFrom (s.readied (requestOf f x 0x0901)) (requestOf f x 0x0901) target := rfl
  dsimp only
  rw [heq]
  generalize s.readied (requestOf f x 0x0901) = u at hs hn hl
  unfold State.promoteFrom requestOf
  dsimp only [State.draw]
  by_cases hp : Config.freeNat u.free % 2 = 0
  · simp only [if_pos hp]
    obtain ⟨h1, h2, h3⟩ := State.endAnswered (u := { u with free := u.free + 1, lcy := { u.lcy with
      accepted := (s.lcy.state, s.floorTime, s.rtc.ticks), windowAt := none, state := target, intent := none } })
      hs hc hn 0x0901 St.ok (le 1 target ++ le 3 0) (Raised.refl _)
    exact ⟨h1, rfl, congrArg Lcy.accepted h2, .inl ⟨congrArg Lcy.state h2, h3⟩⟩
  · simp only [if_neg hp]
    obtain ⟨h1, h2, h3⟩ := State.endAnswered (u := { u with free := u.free + 1, lcy := { u.lcy with
      accepted := (s.lcy.state, s.floorTime, s.rtc.ticks), windowAt := none,
      intent := if Config.freeNat u.free / 2 % 2 = 0 then some target else none } })
      hs hc hn 0x0901 St.internalError [] (State.log_raised _ 0 0x01FF (le 4 f.seq.toNat ++ le 2 0x0901) false none)
    exact ⟨h1, rfl, congrArg Lcy.accepted h2, .inr ⟨(congrArg Lcy.state h2).trans (show u.lcy.state = s.lcy.state from congrArg Lcy.state hl), h3⟩⟩

/-! ### The word of the seal, and the operations root -/

theorem sealParts : Obj.parts 0x80010 = [⟨Obj.LCY_SEAL_LOOP_INTACT, [], 0, 0⟩, ⟨Obj.LCY_SEAL_LATCH_OPEN, [], 0, 1⟩,
    ⟨Obj.LCY_SEAL_ACKED, [], 0, 2⟩, ⟨Obj.LCY_SEAL_CONFIG_LOCK, [], 0, 3⟩] := by decide +kernel

theorem State.sealWord_eq (s : State) : s.wordAt 0 0x80010 = some (([⟨Obj.LCY_SEAL_LOOP_INTACT, [], 0, 0⟩, ⟨Obj.LCY_SEAL_LATCH_OPEN, [], 0, 1⟩,
    ⟨Obj.LCY_SEAL_ACKED, [], 0, 2⟩, ⟨Obj.LCY_SEAL_CONFIG_LOCK, [], 0, 3⟩] : List Obj.Part).foldl (fun w p => w + p.place (s.readVal 0 p.row p.idx)) 0) := by
  unfold State.wordAt
  rw [if_neg (by decide), if_neg (by decide), if_neg fun h => absurd h.2.1 (by decide), if_neg (by decide), if_neg (by decide),
    if_neg fun h => absurd h.1 (by decide), sealParts]

/-- The word of the seal shows the latch's fields and the loop. -/
theorem State.sealWord_congr {s t : State} (hr : t.regs = s.regs) (hl : t.lcy = s.lcy) : t.wordAt 0 0x80010 = s.wordAt 0 0x80010 := by
  have hrd (g : Fld) : t.rd g = s.rd g := State.rd_congr hr g
  have hloop : t.readVal 0 Obj.LCY_SEAL_LOOP_INTACT [] = s.readVal 0 Obj.LCY_SEAL_LOOP_INTACT [] := by
    simp [State.readVal, State.fieldVal, State.virt, Obj.LCY_SEAL_LOOP_INTACT, hl]
  have hlock : t.readVal 0 Obj.LCY_SEAL_CONFIG_LOCK [] = s.readVal 0 Obj.LCY_SEAL_CONFIG_LOCK [] := by
    simp [State.readVal, State.fieldVal, State.virt, Obj.LCY_SEAL_CONFIG_LOCK, hl]
  have hlatch : t.readVal 0 Obj.LCY_SEAL_LATCH_OPEN [] = s.readVal 0 Obj.LCY_SEAL_LATCH_OPEN [] := by
    simp [State.readVal, State.fieldVal, Obj.LCY_SEAL_LATCH_OPEN, hrd]
  have hack : t.readVal 0 Obj.LCY_SEAL_ACKED [] = s.readVal 0 Obj.LCY_SEAL_ACKED [] := by
    simp [State.readVal, State.fieldVal, Obj.LCY_SEAL_ACKED, hrd]
  rw [State.sealWord_eq, State.sealWord_eq]
  simp only [List.foldl_cons, List.foldl_nil, hloop, hlock, hlatch, hack]

/-- The platform's keys under the operations root read UNREACHABLE once it is gated off. -/
theorem State.closeOperations_slot {s : State} {k : Nat} (hk : k ∈ [2, 3, 5]) (hs : s.slotState k ≠ 0) : s.closeOperations.slotState k = 3 := by
  unfold State.closeOperations
  dsimp only
  have hm : k ∈ (List.range 256).filter fun k => s.slotState k != 0 && (k == 2 || k == 3 || k == 5 || (decide (16 ≤ k) && decide (s.slotOwner k ≤ 1))) := by
    refine List.mem_filter.mpr ⟨List.mem_range.mpr ?_, ?_⟩
    · simp only [List.mem_cons, List.not_mem_nil, or_false] at hk
      omega
    · have : (k == 2 || k == 3 || k == 5) = true := by simpa [or_assoc] using hk
      rw [this, Bool.true_or, Bool.and_true]
      exact bne_iff_ne.mpr hs
  generalize (List.range 256).filter _ = l at hm
  generalize s.wr Obj.KSE_ROOT_GATE.f _ = u
  induction l generalizing u with
  | nil => cases hm
  | cons j l ih =>
    by_cases hl : k ∈ l
    · exact ih hl _
    · obtain rfl | h := List.mem_cons.mp hm
      · have hrest : ∀ v : State, (l.foldl (fun t k => t.wr (Obj.KSE_SLOT_STATE.i k) 3) v).slotState k = v.slotState k := by
          clear ih hm
          induction l with
          | nil => exact fun v => rfl
          | cons j l ih =>
            intro v
            refine (ih (fun h => hl (List.mem_cons_of_mem j h)) _).trans (State.rd_wr_ne _ _ _ _ fun e => hl ?_)
            rw [Row.i_key rfl rfl j, Row.i_key rfl rfl k] at e
            have : j = k := by omega
            exact this ▸ List.mem_cons_self
        exact (hrest _).trans (State.rd_wr_self _ _ _)
      · exact absurd h hl

end Sys2Proof.Machine

namespace Sys2Proof.Machine
open Sys2Proof.Claims

/-! ### What the requests do -/

/-- The latch acknowledged. -/
def State.sealAcked (s : State) : State :=
  (s.wrs [(Obj.LCY_SEAL_LATCH_OPEN.f, 0), (Obj.LCY_SEAL_ACKED.f, 1)]).logAll [0, 1] 0x0902 []

theorem State.sealAcked_facts {s : State} (a : State) (hrd : ∀ g, a.rd g = s.rd g) (he : a.evr = s.evr) :
    a.sealAcked.rd Obj.LCY_SEAL_LATCH_OPEN.f = 0 ∧ a.sealAcked.rd Obj.LCY_SEAL_ACKED.f = 1 ∧ Logged s a.sealAcked 0 0x0902 [] ∧
      Logged s a.sealAcked 1 0x0902 [] ∧ a.sealAcked.sessions = a.sessions ∧ a.sealAcked.sent = a.sent := by
  let b := a.wrs [(Obj.LCY_SEAL_LATCH_OPEN.f, 0), (Obj.LCY_SEAL_ACKED.f, 1)]
  have hr : Raised 2 b a.sealAcked := b.logAll_raised [0, 1] 0x0902 [] false
  have hpend : b.evr.pend = s.evr.pend := congrArg Evr.pend he
  have hf : b.failed 10 = s.failed 10 := by
    unfold State.failed
    rw [← hrd]
    exact congrArg (bit · 10) ((State.rd_wr_ne _ _ _ _ (by decide)).trans (State.rd_wr_ne _ _ _ _ (by decide)))
  obtain ⟨h3, h4⟩ := logged_logAll (s := s) (a := b) (trigger := 0x0902) (d := []) hf (hpend ▸ List.prefix_refl _) (by rw [hpend]; omega)
  refine ⟨(hr.rd _ (by decide)).trans ?_, (hr.rd _ (by decide)).trans ?_, h3, h4, ?_, ?_⟩
  · exact (State.rd_wr_ne _ _ _ _ (by decide)).trans (State.rd_wr_self _ _ _)
  · exact State.rd_wr_self _ _ _
  · rw [hr.eq]
    rfl
  · rw [hr.eq]
    rfl

/-- The USB port enabled up to an instant. -/
def State.usbFor (s : State) (u : Nat) : State :=
  ({ s with lcy := { s.lcy with usbUntil := some u } } : State).log 0 0x0908 (le 1 1 ++ le 7 0 ++ le 8 u)

theorem State.usbFor_facts {s : State} (a : State) (u : Nat) (hrd : ∀ g, a.rd g = s.rd g) (he : a.evr = s.evr) :
    (a.usbFor u).lcy = { a.lcy with usbUntil := some u } ∧ Logged s (a.usbFor u) 0 0x0908 (le 1 1 ++ le 7 0 ++ le 8 u) ∧
      (a.usbFor u).sessions = a.sessions ∧ (a.usbFor u).sent = a.sent := by
  have hr : Raised 1 ({ a with lcy := { a.lcy with usbUntil := some u } } : State) (a.usbFor u) := State.log_raised _ _ _ _ _ _
  have hf : a.failed 10 = s.failed 10 := by
    unfold State.failed
    rw [hrd]
  have hpend : a.evr.pend = s.evr.pend := congrArg Evr.pend he
  refine ⟨by rw [hr.eq], ?_, by rw [hr.eq], by rw [hr.eq]⟩
  exact logged_log (a := { a with lcy := { a.lcy with usbUntil := some u } }) hf (State.exists?_low _ s (by decide))
    (hpend ▸ List.prefix_refl _) (by show a.evr.pend.length ≤ _; rw [hpend]; omega)

theorem State.endUsbTime_facts (s : State) : Stays s s.endUsbTime ∧ s.sent <+: s.endUsbTime.sent := by
  unfold State.endUsbTime
  split
  · exact ⟨.of_eq rfl, List.prefix_refl _⟩
  · have hr := State.log_raised { s with lcy := { s.lcy with usbUntil := none } } 0 0x0908 (le 1 0 ++ le 7 0 ++ le 8 s.floorTime) false none
    have hs : Stays s (State.log { s with lcy := { s.lcy with usbUntil := none } } 0 0x0908 (le 1 0 ++ le 7 0 ++ le 8 s.floorTime)) :=
      .of_eq (by rw [hr.eq])
    have ho : (State.log { s with lcy := { s.lcy with usbUntil := none } } 0 0x0908 (le 1 0 ++ le 7 0 ++ le 8 s.floorTime)).sent = s.sent := by
      rw [hr.eq]
    generalize State.log _ 0 0x0908 _ = v at hs ho
    exact ⟨hs.trans v.judgeUsb_hushed.stays, ho ▸ v.judgeUsb_hushed.sent⟩

/-- D2 granted with a scope. -/
def State.unlocked (s : State) (scope : Nat) : State :=
  let s1 := if s.lcy.state = 2 then s.closeOperations else s
  (({ s1 with lcy := { s1.lcy with nonce := none } }.wrs [(Obj.LCY_DEBUG.f, 2), (Obj.LCY_DEBUG_SCOPE.f, scope),
    (Obj.LCY_EVT_D2_GRANTED.f, 1)]).log 0 0x0907 (le 1 scope))

theorem State.closeOperations_eq (s : State) : s.closeOperations = { s with regs := s.closeOperations.regs } := by
  unfold State.closeOperations
  dsimp only
  rw [foldl_wr_eq]
  rfl

theorem State.unlocked_facts (s : State) {scope : Nat} (hs : scope < 32) : (s.unlocked scope).rd Obj.LCY_DEBUG.f = 2 ∧
    (s.unlocked scope).rd Obj.LCY_DEBUG_SCOPE.f = scope ∧ (s.unlocked scope).rd Obj.LCY_EVT_D2_GRANTED.f = 1 ∧
    (s.unlocked scope).lcy.nonce = none ∧ (s.unlocked scope).sessions = s.sessions ∧ (s.unlocked scope).sent = s.sent ∧
    (s.lcy.state = 2 → ∀ k ∈ [2, 3, 5], s.slotState k ≠ 0 → (s.unlocked scope).slotState k = 3) := by
  let s1 := if s.lcy.state = 2 then s.closeOperations else s
  have hs1 : s1 = { s with regs := s1.regs } := by
    show (if s.lcy.state = 2 then s.closeOperations else s) = { s with regs := (if s.lcy.state = 2 then s.closeOperations else s).regs }
    split
    · exact s.closeOperations_eq
    · rfl
  have hslot : s.lcy.state = 2 → ∀ k ∈ [2, 3, 5], s.slotState k ≠ 0 → s1.slotState k = 3 := fun h2 k hk h0 => by
    show (if s.lcy.state = 2 then s.closeOperations else s).slotState k = 3
    rw [if_pos h2]
    exact State.closeOperations_slot hk h0
  have hr : Raised 1 (({ s1 with lcy := { s1.lcy with nonce := none } } : State).wrs [(Obj.LCY_DEBUG.f, 2), (Obj.LCY_DEBUG_SCOPE.f, scope),
    (Obj.LCY_EVT_D2_GRANTED.f, 1)]) (s.unlocked scope) := State.log_raised _ _ _ _ _ _
  generalize s1 = u at hs1 hslot hr
  refine ⟨(hr.rd _ (by decide)).trans ?_, (hr.rd _ (by decide)).trans ?_, (hr.rd _ (by decide)).trans (State.rd_wr_self _ _ _), ?_, ?_, ?_, ?_⟩
  · exact (State.rd_wr_ne _ Obj.LCY_EVT_D2_GRANTED.f _ _ (by decide)).trans
      ((State.rd_wr_ne _ Obj.LCY_DEBUG_SCOPE.f Obj.LCY_DEBUG.f scope (by decide)).trans (State.rd_wr_self _ _ _))
  · exact (State.rd_wr_ne _ _ _ _ (by decide)).trans ((State.rd_wr_self _ _ _).trans (Nat.mod_eq_of_lt hs))
  · rw [hr.eq]
    rfl
  · rw [hr.eq, hs1]
    rfl
  · rw [hr.eq, hs1]
    rfl
  · intro h2 k hk h0
    have hlow : unlogged (Obj.KSE_SLOT_STATE.i k) = true ∧ (∀ g ∈ [Obj.LCY_DEBUG.f, Obj.LCY_DEBUG_SCOPE.f, Obj.LCY_EVT_D2_GRANTED.f],
        g.key ≠ (Obj.KSE_SLOT_STATE.i k).key) := by
      simp only [List.mem_cons, List.not_mem_nil, or_false] at hk
      obtain rfl | rfl | rfl := hk <;> decide
    obtain ⟨hun, hne⟩ := hlow
    simp only [List.forall_mem_cons] at hne
    obtain ⟨n1, n2, n3, -⟩ := hne
    refine (hr.rd _ hun).trans (Eq.trans ?_ (hslot h2 k hk h0))
    exact (State.rd_wr_ne _ _ _ _ n3).trans ((State.rd_wr_ne _ _ _ _ n2).trans (State.rd_wr_ne _ _ _ _ n1))

/-! ### What the requests read -/

theorem accepted_identity (s : State) (f : Frame) (x : Session) (code : Nat) (can : Bool) :
    (accepted s f x code can).identity = s.identity := by
  unfold State.identity
  rw [accepted_rd, accepted_rd, accepted_rd, accepted_rd]

theorem accepted_upd {s : State} (f : Frame) (x : Session) (code : Nat) (can : Bool) (h4 : s.mode ≠ 4) :
    (accepted s f x code can).upd = s.upd := by
  obtain ⟨ss, cn, he⟩ := accepted_eq s f x code can
  rw [he]
  have ha : s.arrived f = s.advance f.arrival := (State.arrived_eq s f).symm.trans (if_neg h4)
  show (s.arrived f).upd = s.upd
  rw [ha]
  rfl

/-- A command that ends its own session says nothing after its body. -/
theorem completes_ended {i : Instr} {s t : State} {f : Frame} {x : Session} {c : CmdSpec} {pre : PreBody} {body : Req → State → State × Reply}
    {post : State → Prop} {p : Bytes} (he : exec i s = .next (s.serve c f pre body)) (h : Admitted s f x)
    (hb : body (requestOf f x c.code) (accepted s f x c.code c.cancellable) = (t, .ok p)) (ht : t.session x.id = none) (hpost : post t) :
    Completes i s post := by
  refine ⟨_, he, ?_⟩
  rw [State.serve_admitted h]
  unfold State.run
  rw [hb]
  exact (congrArg post (State.finalTo_gone ht f.seq.toNat c.code St.ok p c.removes)).mpr hpost

theorem accepted_present (s : State) (f : Frame) (x : Session) (code : Nat) (can : Bool) :
    (accepted s f x code can).present = s.lcy.windowAt.isSome := by
  unfold State.present
  rw [accepted_lcy]

theorem accepted_d2 (s : State) (f : Frame) (x : Session) (code : Nat) (can : Bool) : (accepted s f x code can).d2 = s.d2 := by
  unfold State.d2
  rw [accepted_lcy, accepted_rd]

theorem accepted_tenants (s : State) (f : Frame) (x : Session) (code : Nat) (can : Bool) : (accepted s f x code can).tenants = s.tenants := by
  unfold State.tenants
  simp only [accepted_exists?]

end Sys2Proof.Machine

namespace Sys2Proof.Proofs
open Sys2Proof.Machine Sys2Proof.Claims

section
variable {f : Frame} {s : State} {x : Session} (h : Admitted s f x)
include h

/-! ### Promotion -/

section
variable {target : Nat} (hc : x.comp = 0) (hm : s.mode ∈ [5, 8]) (hu : s.rd Obj.UPD_STATE.f ∉ [6, 7]) (ht : s.power.transition = none)
  (ho : s.upd.owner = none) (ha : s.upd.activateAt = none) (hst : s.upd.step = 0) (hr : s.upd.resetAt = none)
  (hp : f.payload = le 1 target ++ le 3 0 ++ s.identity)
include hc hm hu ht ho ha hst hr hp

omit h in
/-- Nothing bars a promotion before its payload and its window are looked at. -/
theorem lcyPromote_judged (htgt : target < 256) (can : Bool) : lcyPromote (requestOf f x 0x0901) (accepted s f x 0x0901 can) =
    if s.lcy.windowAt.isSome = false then (accepted s f x 0x0901 can, .no St.presenceRequired)
    else if s.lcy.jumper = true then (accepted s f x 0x0901 can, .no St.configLocked)
    else if ! (successors s.lcy.state).contains target then (accepted s f x 0x0901 can, .check 0x0901)
    else if s.d2 = true then (accepted s f x 0x0901 can, .check 0x0902)
    else if ! s.castlings.isEmpty then (accepted s f x 0x0901 can, .check 0x0903)
    else ((accepted s f x 0x0901 can).promote (requestOf f x 0x0901) target, .ok []) := by
  simp only [List.mem_cons, List.not_mem_nil, or_false, not_or] at hu
  obtain ⟨hu6, hu7⟩ := hu
  have h4 : s.mode ≠ 4 := fun h4 => by simp [h4] at hm
  have hadj : (accepted s f x 0x0901 can).adjourned = false := by
    unfold State.adjourned State.updState
    rw [accepted_rd]
    exact beq_false_of_ne hu6
  have hact : (accepted s f x 0x0901 can).activating = false := by
    unfold State.activating State.updState
    rw [accepted_rd, accepted_upd f x _ _ h4, ha, hst, hr, beq_false_of_ne hu7]
    rfl
  have hlen : f.payload.length = 20 := by
    rw [hp]
    simp [le_length, State.identity]
  have htg : field f.payload 0 1 = target := by
    rw [hp, List.append_assoc, field_le]
    omega
  have hid : f.payload.drop 4 = s.identity := by
    rw [hp, List.drop_append_of_le_length (by simp [le_length]), List.drop_of_length_le (by simp [le_length]), List.nil_append]
  unfold lcyPromote
  dsimp only
  rw [accepted_permitted, requestOf_payload, hadj, hact, accepted_power, ht, accepted_upd f x _ _ h4, ho, hlen, htg, hid, accepted_present,
    accepted_lcy, accepted_identity, accepted_d2, accepted_castlings, hc, List.contains_iff_mem.mpr hm]
  simp [Open.ok]

theorem lcyPromote_absent (htgt : target < 256) (hw : s.lcy.windowAt = none) :
    Completes (.cmdLcyPromote f) s fun t => Untouched s t ∧ Answers s t f x 0x0901 0x0030 [] := by
  have hb := lcyPromote_judged hc hm hu ht ho ha hst hr hp htgt false
  rw [hw, if_pos Option.isSome_none] at hb
  obtain ⟨t, he, hans, hun⟩ := refuses_of (i := .cmdLcyPromote f) (c := { code := 0x0901 }) (body := lcyPromote) rfl h hb
  exact ⟨t, he, hun, hans⟩

theorem lcyPromote_accepted (hj : s.lcy.jumper = false) (hd : s.d2 = false) (hcast : s.castlings = [])
    (hsucc : (s.lcy.state, target) ∈ [(1, 2), (2, 3), (2, 5), (3, 4), (3, 5), (4, 5)]) (hw : s.lcy.windowAt ≠ none) :
    Completes (.cmdLcyPromote f) s fun t => t.sessions = [] ∧
        t.power.transition = some { target := 3 } ∧ t.lcy.accepted = (s.lcy.state, max s.floorTime f.arrival, (s.advance f.arrival).rtc.ticks) ∧
        ((t.lcy.state = target ∧ Out.resp f.conn 0 f.seq.toNat 0x0901 0 (le 1 target ++ le 3 0) ∈ t.sent) ∨
         (t.lcy.state = s.lcy.state ∧ Out.resp f.conn 0 f.seq.toNat 0x0901 0xFF [] ∈ t.sent)) := by
  have htgt : target < 256 := by
    simp only [List.mem_cons, List.not_mem_nil, or_false, Prod.mk.injEq] at hsucc
    omega
  have hs : (successors s.lcy.state).contains target = true := by
    simp only [List.mem_cons, List.not_mem_nil, or_false, Prod.mk.injEq] at hsucc
    obtain ⟨h1, rfl⟩ | ⟨h1, rfl⟩ | ⟨h1, rfl⟩ | ⟨h1, rfl⟩ | ⟨h1, rfl⟩ | ⟨h1, rfl⟩ := hsucc <;> rw [h1] <;> rfl
  have hb := lcyPromote_judged hc hm hu ht ho ha hst hr hp htgt false
  rw [hj, hd, hs, hcast, Option.isSome_iff_ne_none.mpr hw] at hb
  have hf := State.promote_facts target (accepted_session (code := 0x0901) (can := false) h) hc
  rw [accepted_lcy, accepted_floorTime, accepted_rtc] at hf
  generalize (accepted s f x 0x0901 false).promote (requestOf f x 0x0901) target = t at hb hf
  obtain ⟨hsess, htr, hacc, hres⟩ := hf
  refine completes_ended (c := { code := 0x0901 }) (body := lcyPromote) rfl h hb ?_ ⟨hsess, htr, hacc, hres⟩
  unfold State.session
  rw [hsess]
  rfl

end

/-! ### Seal and USB port -/

section
variable (hc : x.comp = 0) (h5 : 5 ≤ s.mode) (h8 : s.mode ≤ 8)
include hc h5 h8

omit h in
theorem owner_permitted (code : Nat) (can : Bool) : permitted .owner m5to8 (requestOf f x code) (accepted s f x code can) = true := by
  have hm : s.mode ∈ m5to8 := by
    simp only [m5to8, List.mem_cons, List.not_mem_nil, or_false]
    omega
  rw [accepted_permitted, hc, List.contains_iff_mem.mpr hm]
  rfl

theorem lcySealAck_acks (hw : s.lcy.windowAt ≠ none) (hp : f.payload = []) (hl : s.lcy.loopIntact = true)
    (ho : s.rd Obj.LCY_SEAL_LATCH_OPEN.f = 1) : Completes (.cmdLcySealAck f) s fun t =>
        t.rd Obj.LCY_SEAL_LATCH_OPEN.f = 0 ∧ t.rd Obj.LCY_SEAL_ACKED.f = 1 ∧ Logged s t 0 0x0902 [] ∧ Logged s t 1 0x0902 [] ∧
        Answers s t f x 0x0903 0 (le 4 ((t.wordAt 0 0x80010).getD 0)) := by
  have hspeak := accepted_session (code := 0x0903) (can := false) h
  have hrd := accepted_rd s f x 0x0903 false
  have hevr := accepted_evr s f x 0x0903 false
  have hsent := accepted_sent s f x 0x0903 false
  have hbody : lcySealAck (requestOf f x 0x0903) (accepted s f x 0x0903 false) =
      ((accepted s f x 0x0903 false).sealAcked, .ok (le 4 (((accepted s f x 0x0903 false).sealAcked.wordAt 0 0x80010).getD 0))) := by
    unfold lcySealAck
    dsimp only
    rw [owner_permitted hc h5 h8, requestOf_payload, hp, accepted_present, accepted_lcy, hl, Option.isSome_iff_ne_none.mpr hw,
      show (accepted s f x 0x0903 false).on Obj.LCY_SEAL_LATCH_OPEN.f = true by unfold State.on; rw [hrd, ho]; rfl]
    rfl
  generalize hacc : accepted s f x 0x0903 false = a at hspeak hrd hevr hsent hbody
  obtain ⟨h1, h2, h3, h4, h5, h6⟩ := State.sealAcked_facts a hrd hevr
  generalize a.sealAcked = u at hbody h1 h2 h3 h4 h5 h6
  refine completes_ok (c := { code := 0x0903 }) (body := lcySealAck) rfl h (by rw [hacc]; exact hbody) (hspeak.congr h5) fun ss cn => ⟨h1, h2, h3, h4, ?_⟩
  have hword (t : State) (hr : t.regs = u.regs) (hl : t.lcy = u.lcy) : le 4 ((u.wordAt 0 0x80010).getD 0) = le 4 ((t.wordAt 0 0x80010).getD 0) := by
    rw [State.sealWord_congr hr hl]
  unfold Answers
  rw [← hsent, ← h6]
  exact congrArg (fun b => u.sent ++ [Out.resp f.conn x.comp f.seq.toNat 0x0903 0 b]) (hword _ rfl rfl)

theorem lcySealAck_broken (hw : s.lcy.windowAt ≠ none) (hp : f.payload = []) (hl : s.lcy.loopIntact = false) :
    Completes (.cmdLcySealAck f) s fun t => Untouched s t ∧ Answers s t f x 0x0903 0x0041 (detailRecord 0x0908 0 0) := by
  obtain ⟨t, he, hans, hun⟩ := refuses_of (i := .cmdLcySealAck f) (c := { code := 0x0903 }) (body := lcySealAck) rfl h
    (st := 0x0041) (p := detailRecord 0x0908 0 0) (by
      unfold lcySealAck
      dsimp only
      rw [owner_permitted hc h5 h8, requestOf_payload, hp, accepted_present, accepted_lcy, hl, Option.isSome_iff_ne_none.mpr hw]
      rfl)
  exact ⟨t, he, hun, hans⟩

theorem lcyUsbEnable_enables (hw : s.lcy.windowAt ≠ none) {m : Nat} (h1 : 1 ≤ m) (h480 : m ≤ 480) (hp : f.payload = le 2 m ++ le 2 0) :
    Completes (.cmdLcyUsbEnable f) s fun t => let u := max s.floorTime f.arrival + 60000000000 * m
      t.lcy = { s.lcy with usbUntil := some u } ∧ Answers s t f x 0x0904 0 (le 8 u) ∧ Logged s t 0 0x0908 (le 1 1 ++ le 7 0 ++ le 8 u) := by
  have hspeak := accepted_session (code := 0x0904) (can := false) h
  have hlcy := accepted_lcy s f x 0x0904 false
  have hrd := accepted_rd s f x 0x0904 false
  have hevr := accepted_evr s f x 0x0904 false
  have hsent := accepted_sent s f x 0x0904 false
  have hbody : lcyUsbEnable (requestOf f x 0x0904) (accepted s f x 0x0904 false) =
      ((accepted s f x 0x0904 false).usbFor ((accepted s f x 0x0904 false).floorTime + 60000000000 * m),
        .ok (le 8 ((accepted s f x 0x0904 false).floorTime + 60000000000 * m))) := by
    have hm : field f.payload 0 2 = m := by
      rw [hp, field_le]
      omega
    have hlen : f.payload.length = 4 := by simp [hp, le_length]
    unfold lcyUsbEnable
    dsimp only
    rw [owner_permitted hc h5 h8, requestOf_payload, hm, hlen, accepted_present, Option.isSome_iff_ne_none.mpr hw]
    exact (if_neg (by decide)).trans ((if_neg (by decide)).trans ((if_neg (by decide)).trans (if_neg (show ¬ (m = 0 ∨ 480 < m) by omega))))
  rw [accepted_floorTime] at hbody
  generalize hacc : accepted s f x 0x0904 false = a at hspeak hlcy hrd hevr hsent hbody
  obtain ⟨g1, g2, g3, g4⟩ := State.usbFor_facts a (max s.floorTime f.arrival + 60000000000 * m) hrd hevr
  generalize a.usbFor _ = v at hbody g1 g2 g3 g4
  refine completes_ok (c := { code := 0x0904 }) (body := lcyUsbEnable) rfl h (by rw [hacc]; exact hbody) (hspeak.congr g3) fun ss cn => ⟨?_, ?_, g2⟩
  · rw [← hlcy]
    exact g1
  · unfold Answers
    rw [← hsent, ← g4]

theorem lcyUsbDisable_disables (hp : f.payload = []) : Completes (.cmdLcyUsbDisable f) s fun t => t.lcy.usbUntil = none ∧
      Out.resp f.conn 0 f.seq.toNat 0x0905 0 [] ∈ t.sent := by
  have hspeak := accepted_session (code := 0x0905) (can := false) h
  have hbody : lcyUsbDisable (requestOf f x 0x0905) (accepted s f x 0x0905 false) =
      if ((accepted s f x 0x0905 false).endUsbTime.session x.id).isSome then ((accepted s f x 0x0905 false).endUsbTime, .ok [])
      else (((accepted s f x 0x0905 false).finalTo x.id f.seq.toNat 0x0905 St.ok [] false).endUsbTime, .ok []) := by
    unfold lcyUsbDisable
    rw [owner_permitted hc h5 h8, requestOf_payload, hp]
    rfl
  generalize hacc : accepted s f x 0x0905 false = a at hspeak hbody
  obtain ⟨y, hy, hconn, hcomp⟩ := hspeak
  have hstays {v : State} (hv : Stays a v) : ∀ z, v.endUsbTime.session x.id = some z → z.conn = some f.conn ∧ z.comp = x.comp := by
    intro z hz
    obtain ⟨w, hw, hc1, hm1⟩ := (hv.trans v.endUsbTime_facts.1) _ z hz
    obtain rfl : y = w := Option.some.inj (hy.symm.trans hw)
    exact ⟨hc1.trans hconn, hm1.trans hcomp⟩
  by_cases hsome : (a.endUsbTime.session x.id).isSome = true
  · rw [if_pos hsome] at hbody
    obtain ⟨z, hz⟩ := Option.isSome_iff_exists.mp hsome
    refine completes_ok (c := { code := 0x0905 }) (body := lcyUsbDisable) rfl h (by rw [hacc]; exact hbody) ⟨z, hz, hstays (.of_eq rfl) z hz⟩ fun ss cn => ?_
    rw [hc]
    exact ⟨a.endUsbTime_until, List.mem_append_right _ (List.mem_singleton_self _)⟩
  · rw [if_neg hsome] at hbody
    have ht := State.finalTo_talked a x.id f.seq.toNat 0x0905 St.ok [] false
    obtain ⟨ss, cn, he⟩ := State.finalTo_spoken (x := x) ⟨y, hy, hconn, hcomp⟩ f.seq.toNat 0x0905 St.ok [] false
    have ho : Out.resp f.conn 0 f.seq.toNat 0x0905 0 [] ∈ (a.finalTo x.id f.seq.toNat 0x0905 St.ok [] false).sent := by
      rw [he, hc]
      exact List.mem_append_right _ (List.mem_singleton_self _)
    generalize a.finalTo x.id f.seq.toNat 0x0905 St.ok [] false = v at hbody ht ho
    refine completes_rest (c := { code := 0x0905 }) (body := lcyUsbDisable) rfl h (by rw [hacc]; exact hbody) (hstays ht.stays) fun ss cn l => ?_
    exact ⟨v.endUsbTime_until, List.mem_append_left _ (v.endUsbTime_facts.2.subset ho)⟩

end

/-! ### Retirement and debug -/

theorem lcyRetireStatement_signs (hc : x.comp = 0) (hm : s.mode = 11) (hn : Nonce f.payload 0) (hs : s.slotState s.attestSlot = 1) :
    Completes (.cmdLcyRetireStatement f) s fun t => Signed s t f x 0x0906 3 := by
  have hnonce : nonceOk f.payload 0 = true := by
    obtain ⟨h16, h64, hlen⟩ := hn
    simp [nonceOk, h16, h64, hlen]
  have hb : ∃ items, lcyRetireStatement (requestOf f x 0x0906) (accepted s f x 0x0906 true) = (accepted s f x 0x0906 true).sign 3 items := by
    unfold lcyRetireStatement
    rw [accepted_permitted, hc, hm, requestOf_payload, hnonce]
    exact ⟨_, rfl⟩
  obtain ⟨items, hb⟩ := hb
  exact completes_signed (c := { code := 0x0906, cancellable := true, rereads := true }) (body := lcyRetireStatement) h rfl hs hb

section
variable (hc : x.comp = 0xFF) (hm : s.mode ∈ [5, 8]) (hl : s.lcy.state ∈ [1, 2, 4])
include hc hm hl

omit h in
theorem debugOpen_open (code : Nat) (can : Bool) : debugOpen (requestOf f x code) (accepted s f x code can) = true := by
  unfold debugOpen
  rw [accepted_permitted, hc, List.contains_iff_mem.mpr hm, accepted_lcy]
  simp only [List.mem_cons, List.not_mem_nil, or_false] at hl
  obtain hl | hl | hl := hl <;> rw [hl] <;> rfl

theorem lcyDebugChallenge_draws (hp : f.payload = []) : Completes (.cmdLcyDebugChallenge f) s fun t =>
    ∃ n, t.lcy = { s.lcy with nonce := some (n % 2 ^ 256, max s.floorTime f.arrival) } ∧ Answers s t f x 0x0907 0 (le 32 n) := by
  have hspeak := accepted_session (code := 0x0907) (can := false) h
  have hbody : lcyDebugChallenge (requestOf f x 0x0907) (accepted s f x 0x0907 false) =
      ({ (accepted s f x 0x0907 false).draw.2 with lcy := { (accepted s f x 0x0907 false).draw.2.lcy with
        nonce := some ((accepted s f x 0x0907 false).draw.1 % 2 ^ 256, (accepted s f x 0x0907 false).floorTime) } },
        .ok (le 32 (accepted s f x 0x0907 false).draw.1)) := by
    unfold lcyDebugChallenge
    rw [debugOpen_open hc hm hl, requestOf_payload, hp]
    rfl
  refine completes_ok (c := { code := 0x0907 }) (body := lcyDebugChallenge) rfl h hbody (hspeak.congr rfl) fun ss cn => ?_
  refine ⟨(accepted s f x 0x0907 false).draw.1, ?_, ?_⟩
  · show ({ (accepted s f x 0x0907 false).lcy with nonce := some (_, (accepted s f x 0x0907 false).floorTime) } : Lcy) = _
    rw [accepted_lcy, accepted_floorTime]
  · unfold Answers
    rw [← accepted_sent s f x 0x0907 false]
    rfl

/-- The conditions of an unlock but for its token's signature. -/
structure Unlockable (s : State) (p : Bytes) (now : Nat) : Prop where
  length : p.length = 160
  magic : field p 0 4 = 0x55445841
  version : field p 4 2 = 1
  scope : field p 6 1 ≤ 31
  life : field p 7 1 = s.lcy.state
  device : (p.drop 8).take 16 = s.identity
  zero : field p 0x38 8 = 0
  window : s.lcy.windowAt ≠ none
  loop : s.lcy.loopIntact = false
  jumper : s.lcy.jumper = false
  nonce : ∃ t0, s.lcy.nonce = some (field p 0x18 32, t0) ∧ now ≤ t0 + 300000000000
  vacant : s.lcy.state = 2 → s.tenants = []

omit h in
theorem lcyDebugUnlock_judged (hu : Unlockable s f.payload (max s.floorTime f.arrival)) (can : Bool) :
    lcyDebugUnlock (requestOf f x 0x0908) (accepted s f x 0x0908 can) =
      if Config.ecdsaVerify Config.serviceKey (sha384 (f.payload.take 0x40)) (f.payload.drop 0x40) = true then
        ((accepted s f x 0x0908 can).unlocked (field f.payload 6 1), .ok (le 1 (field f.payload 6 1) ++ le 3 0))
      else (accepted s f x 0x0908 can, .no St.badSignature) := by
  obtain ⟨t0, hn, hnow⟩ := hu.nonce
  have hscope : ¬ (f.payload.length ≠ 160 ∨ field f.payload 0 4 ≠ 0x55445841 ∨ field f.payload 4 2 ≠ 1 ∨ 31 < field f.payload 6 1 ∨
      field f.payload 0x38 8 ≠ 0) := by
    have := hu.scope
    simp only [hu.length, hu.magic, hu.version, hu.zero, ne_eq, not_true, false_or, or_false]
    omega
  have hdev : ¬ ((f.payload.drop 8).take 16 ≠ s.identity ∨ field f.payload 7 1 ≠ s.lcy.state) := by
    rw [hu.device, hu.life]
    simp
  have hfresh : (s.lcy.nonce.any fun y => y.1 == field f.payload 0x18 32 && decide (max s.floorTime f.arrival ≤ y.2 + 300000000000)) = true := by
    rw [hn]
    exact (Bool.and_eq_true _ _).mpr ⟨beq_self_eq_true _, decide_eq_true hnow⟩
  have hvacant : ¬ (s.lcy.state = 2 ∧ (! s.tenants.isEmpty) = true) := by
    rintro ⟨h2, ht⟩
    rw [hu.vacant h2] at ht
    cases ht
  unfold lcyDebugUnlock
  dsimp only
  rw [debugOpen_open hc hm hl, requestOf_payload, accepted_present, accepted_identity, accepted_floorTime, accepted_tenants,
    Option.isSome_iff_ne_none.mpr hu.window]
  unfold State.unlocked
  rw [accepted_lcy, hu.loop, hu.jumper, hfresh]
  refine (if_neg (by decide)).trans ((if_neg hscope).trans ((if_neg (by decide)).trans ((if_neg (by decide)).trans ((if_neg (by decide)).trans
    ((if_neg hdev).trans ?_)))))
  cases Config.ecdsaVerify Config.serviceKey (sha384 (f.payload.take 0x40)) (f.payload.drop 0x40) with
  | false => rfl
  | true => exact (if_neg (by decide)).trans ((if_neg (by decide)).trans (if_neg hvacant))

theorem lcyDebugUnlock_turns (hu : Unlockable s f.payload (max s.floorTime f.arrival)) : Completes (.cmdLcyDebugUnlock f) s fun t =>
    if Config.ecdsaVerify Config.serviceKey (sha384 (f.payload.take 0x40)) (f.payload.drop 0x40) = true then
      t.rd Obj.LCY_DEBUG.f = 2 ∧ t.rd Obj.LCY_DEBUG_SCOPE.f = field f.payload 6 1 ∧ t.rd Obj.LCY_EVT_D2_GRANTED.f = 1 ∧
      t.lcy.nonce = none ∧ Answers s t f x 0x0908 0 (le 1 (field f.payload 6 1) ++ le 3 0) ∧
      (s.lcy.state = 2 → ∀ k, k < 256 → k ∈ [2, 3, 5] → s.slotState k ≠ 0 → t.slotState k = 3)
    else Untouched s t ∧ Answers s t f x 0x0908 0x0052 [] := by
  have hbody := lcyDebugUnlock_judged hc hm hl hu false
  by_cases hv : Config.ecdsaVerify Config.serviceKey (sha384 (f.payload.take 0x40)) (f.payload.drop 0x40) = true
  · simp only [if_pos hv] at hbody ⊢
    have hspeak := accepted_session (code := 0x0908) (can := false) h
    have hrd := accepted_rd s f x 0x0908 false
    have hlcy := accepted_lcy s f x 0x0908 false
    have hsent := accepted_sent s f x 0x0908 false
    generalize hacc : accepted s f x 0x0908 false = a at hbody hspeak hrd hlcy hsent
    obtain ⟨h1, h2, h3, h4, h5, h6, h7⟩ := a.unlocked_facts (Nat.lt_of_le_of_lt hu.scope (by decide))
    generalize a.unlocked (field f.payload 6 1) = u at hbody h1 h2 h3 h4 h5 h6 h7
    refine completes_ok (c := { code := 0x0908 }) (body := lcyDebugUnlock) rfl h (by rw [hacc]; exact hbody) (hspeak.congr h5) fun ss cn => ?_
    refine ⟨h1, h2, h3, h4, ?_, fun hst k _ hk hs => h7 (by rw [hlcy]; exact hst) k hk ?_⟩
    · unfold Answers
      rw [← hsent, ← h6]
    · exact fun h0 => hs ((hrd _).symm.trans h0)
  · simp only [if_neg hv] at hbody ⊢
    obtain ⟨t, he, hans, hun⟩ := refuses_of (i := .cmdLcyDebugUnlock f) (c := { code := 0x0908 }) (body := lcyDebugUnlock) rfl h hbody
    exact ⟨t, he, hun, hans⟩

end
end

/-- Settles O26, command by command. -/
theorem lifeCycleCommands : Obligations.LifeCycleCommands := by
  unfold Obligations.LifeCycleCommands
  intro f s x h now
  refine ⟨fun hc hm hu ht ho ha hst hr hj hd hcast target hp hsucc => ?promote, fun hc h5 h8 hw =>
    ⟨lcySealAck_acks h hc h5 h8 hw, lcySealAck_broken h hc h5 h8 hw, fun m h1 h480 hp => lcyUsbEnable_enables h hc h5 h8 hw h1 h480 hp⟩,
    lcyUsbDisable_disables h, lcyRetireStatement_signs h, fun hc hm hl => ⟨lcyDebugChallenge_draws h hc hm hl, fun t0 => ?unlock⟩⟩
  case promote =>
    have htgt : target < 256 := by
      simp only [List.mem_cons, List.not_mem_nil, or_false, Prod.mk.injEq] at hsucc
      omega
    exact ⟨lcyPromote_absent h hc hm hu ht ho ha hst hr hp htgt, lcyPromote_accepted h hc hm hu ht ho ha hst hr hp hj hd hcast hsucc⟩
  case unlock =>
    exact fun h1 h2 h3 h4 h5 h6 h7 h8 h9 h10 h11 h12 h13 =>
      lcyDebugUnlock_turns h hc hm hl ⟨h1, h2, h3, h4, h5, h6, h7, h8, h9, h10, ⟨t0, h11, h12⟩, h13⟩

end Sys2Proof.Proofs
end

section
/-!
SUPPORT. Reads of objects (spec/01 R4, R7; spec/04 R88, R92, R93, R99): a request that takes no half of an object leaves what it
reads as it stands, and only the fields that a read clears change.
-/
namespace Sys2Proof.Machine
open Sys2Proof.Claims

/-! ### Fields set to 0 -/

theorem Cells.get_put_zero {c : Cells} {f g : Fld} (hr : g.reset = 0) (h : c.get g = 0 ∨ f.key = g.key) : (c.put f 0).get g = 0 := by
  by_cases hk : f.key = g.key
  · unfold Cells.put
    split
    · have hd := Cells.get_del_self c g
      unfold Cells.del at hd ⊢
      rw [hk, hd, hr]
    · rw [Cells.get_ins _ _ _ _ (Cells.del_keys c f), if_pos hk]
  · rw [Cells.get_put_ne _ _ _ _ hk]
    exact h.resolve_right hk

theorem State.rd_wr_zero {s : State} {f g : Fld} (hr : g.reset = 0) (h : s.rd g = 0 ∨ f.key = g.key) : (s.wr f 0).rd g = 0 := by
  unfold State.wr
  rw [Nat.zero_mod]
  exact Cells.get_put_zero hr h

theorem State.rd_wrs_zero {l : List Fld} {s : State} {g : Fld} (hr : g.reset = 0) (h : s.rd g = 0 ∨ ∃ f ∈ l, f.key = g.key) :
    (s.wrs (l.map (·, 0))).rd g = 0 := by
  induction l generalizing s with
  | nil => exact h.resolve_right fun ⟨_, hf, _⟩ => absurd hf List.not_mem_nil
  | cons f l ih =>
    refine ih (s := s.wr f 0) ?_
    rcases h with h | ⟨k, hk, he⟩
    · exact .inl (State.rd_wr_zero hr (.inl h))
    · rcases List.mem_cons.mp hk with rfl | hk
      · exact .inl (State.rd_wr_zero hr (.inr he))
      · exact .inr ⟨k, hk, he⟩

/-! ### What a read clears -/

/-- The fields of a word that a read clears (R7). -/
def rcFlds (c a : Nat) : List Fld := ((Obj.parts a).filter fun p => p.row.acc == .rc).map fun p => p.row.at c p.idx

theorem taken_zero (p : Obj.Part) : p.taken 0 = 0 := by
  simp only [Obj.Part.taken, Obj.Part.merge, bits, Nat.zero_div, Nat.zero_mod, Nat.zero_mul, Nat.zero_add, ite_self]

theorem State.clearRead_eq (s : State) (c : Nat) (l : List Nat) : s.clearRead c l 0 = s.wrs ((l.flatMap (rcFlds c)).map (·, 0)) := by
  have inner : ∀ (ps : List Obj.Part) (t : State), ps.foldl (fun u p => u.clearByRead (p.row.at c p.idx) (p.taken 0)) t =
      t.wrs ((ps.map fun p => p.row.at c p.idx).map (·, 0)) := by
    intro ps
    induction ps with
    | nil => exact fun _ => rfl
    | cons p ps ih =>
      intro t
      rw [List.foldl_cons, ih, taken_zero]
      rfl
  induction l generalizing s with
  | nil => rfl
  | cons a l ih =>
    unfold State.clearRead at ih ⊢
    rw [List.foldl_cons, ih, inner, List.flatMap_cons, List.map_append, State.wrs, State.wrs, State.wrs, List.foldl_append]
    rfl

theorem readOnce_clearRead (s : State) (c : Nat) (l : List Nat) : ReadOnce s (s.clearRead c l 0) c l := by
  rw [s.clearRead_eq]
  refine ⟨fun w hw p hp hacc hr => State.rd_wrs_zero hr (.inr ⟨p.row.at c p.idx, List.mem_flatMap.mpr ⟨w, hw, ?_⟩, rfl⟩), fun g hg => ?_⟩
  · exact List.mem_map.mpr ⟨p, List.mem_filter.mpr ⟨hp, beq_iff_eq.mpr hacc⟩, rfl⟩
  · refine State.rd_wrs_ne fun p hp => ?_
    obtain ⟨f, hf, rfl⟩ := List.mem_map.mp hp
    exact hg f hf

theorem readOnce_congr {s t u v : State} {c : Nat} {l : List Nat} (h : ReadOnce s t c l) (hs : ∀ g, u.rd g = s.rd g) (ht : ∀ g, v.rd g = t.rd g) :
    ReadOnce u v c l :=
  ⟨fun w hw p hp ha hr => (ht _).trans (h.1 w hw p hp ha hr), fun g hg => (ht g).trans ((h.2 g hg).trans (hs g).symm)⟩

/-! ### The words of a request -/

/-- A word that a request reads as it stands: not of the RTC group, and no high half without its low half, unless the halves are
taken as they stand (R4, R93, R332). -/
def readsLive (group : Bool) (l : List Nat) (w : Nat) : Prop := inRtc w = false ∧ (highHalf w = true → group = true ∨ w - 4 ∈ l)

theorem State.readOne_live {group : Bool} {l : List Nat} {w : Nat} (h : readsLive group l w) (who : Requester) (c : Nat) (s : State) :
    ∃ cs, State.readOne who c group l s w = ((s.wordAt c w).getD 0, { s with captures := cs }) := by
  obtain ⟨hr, hh⟩ := h
  have hcap : ¬ (highHalf w = true ∧ (! group) = true ∧ (! l.contains (w - 4)) = true) := by
    rintro ⟨h1, h2, h3⟩
    rcases hh h1 with rfl | hm
    · cases h2
    · rw [List.contains_iff_mem.mpr hm] at h3
      cases h3
  unfold State.readOne
  rw [hr]
  dsimp only
  rw [if_neg Bool.false_ne_true, if_neg hcap]
  split
  · unfold State.dropCapture
    split
    · exact ⟨_, rfl⟩
    · exact ⟨_, rfl⟩
  · exact ⟨s.captures, rfl⟩

theorem State.readAll_live {group : Bool} {l r : List Nat} (h : ∀ w ∈ r, readsLive group l w) (who : Requester) (c : Nat) (s : State) :
    ∃ cs, State.readAll who c group l s r = (r.map fun w => (s.wordAt c w).getD 0, { s with captures := cs }) := by
  induction r generalizing s with
  | nil => exact ⟨s.captures, rfl⟩
  | cons w r ih =>
    obtain ⟨cs, h1⟩ := State.readOne_live (h w List.mem_cons_self) who c s
    obtain ⟨ds, h2⟩ := ih (fun v hv => h v (List.mem_cons_of_mem w hv)) { s with captures := cs }
    refine ⟨ds, ?_⟩
    rw [State.readAll, h1]
    dsimp only
    rw [h2]
    rfl

theorem rtcWords_apart {l : List Nat} (h : ∀ w ∈ l, inRtc w = false) : rtcWords.all l.contains = false := by
  rw [← Bool.not_eq_true, List.all_eq_true]
  exact fun hall => absurd (h 0x20000 (List.contains_iff_mem.mp (hall 0x20000 (by decide)))) (by decide)

theorem State.readWords_live {group : Bool} {l : List Nat} (h : ∀ w ∈ l, readsLive group l w) (who : Requester) (c : Nat) (s : State) :
    ∃ cs, s.readWords who c group l = (l.map fun w => (s.wordAt c w).getD 0, ({ s with captures := cs } : State).clearRead c l 0) := by
  obtain ⟨cs, hr⟩ := State.readAll_live h who c s
  refine ⟨cs, ?_⟩
  unfold State.readWords
  rw [rtcWords_apart fun w hw => (h w hw).1]
  dsimp only
  rw [if_neg Bool.false_ne_true, hr]

/-! ### What a request of words deserves -/

theorem State.wordStatus_unaligned {s : State} {c a : Nat} (h : a % 4 ≠ 0) : s.wordStatus c a = St.badAccess := if_pos h

theorem State.wordsStatus_le {s : State} {c a : Nat} {l : List Nat} (h : a ∈ l) : checkOrder (s.wordsStatus c l) ≤ checkOrder (s.wordStatus c a) := by
  have mono : ∀ (r : List Nat) (st : Nat), checkOrder (r.foldl (fun st a => if checkOrder (s.wordStatus c a) < checkOrder st then
      s.wordStatus c a else st) st) ≤ checkOrder st ∧ ∀ a ∈ r, checkOrder (r.foldl (fun st a =>
      if checkOrder (s.wordStatus c a) < checkOrder st then s.wordStatus c a else st) st) ≤ checkOrder (s.wordStatus c a) := by
    intro r
    induction r with
    | nil => exact fun st => ⟨Nat.le_refl _, fun _ h => absurd h List.not_mem_nil⟩
    | cons b r ih =>
      intro st
      rw [List.foldl_cons]
      obtain ⟨h1, h2⟩ := ih (if checkOrder (s.wordStatus c b) < checkOrder st then s.wordStatus c b else st)
      have hb : checkOrder (if checkOrder (s.wordStatus c b) < checkOrder st then s.wordStatus c b else st) ≤ checkOrder st ∧
          checkOrder (if checkOrder (s.wordStatus c b) < checkOrder st then s.wordStatus c b else st) ≤ checkOrder (s.wordStatus c b) := by
        split <;> omega
      refine ⟨h1.trans hb.1, fun a ha => ?_⟩
      rcases List.mem_cons.mp ha with rfl | ha
      · exact h1.trans hb.2
      · exact h2 a ha
  exact (mono l St.ok).2 a h

/-- A list of words whose status is of no earlier check has every word aligned. -/
theorem State.wordsStatus_aligned {s : State} {c a : Nat} {l : List Nat} (h : 9 < checkOrder (s.wordsStatus c l)) (ha : a ∈ l) : a % 4 = 0 := by
  by_contra hn
  have hle := State.wordsStatus_le (s := s) (c := c) ha
  rw [State.wordStatus_unaligned hn] at hle
  have h9 : checkOrder St.badAccess = 9 := rfl
  omega

theorem entryWords_first {a n : Nat} (h : 0 < n) : a ∈ entryWords a n :=
  List.mem_map.mpr ⟨0, List.mem_range.mpr h, rfl⟩

theorem entries_aligned {s : State} {c : Nat} {l : List (Nat × Nat)} (h : 9 < checkOrder (s.wordsStatus c (l.flatMap fun e => entryWords e.1 e.2)))
    (hn : ∀ e ∈ l, 0 < e.2) : ¬ ((l.any fun e => e.1 % 4 != 0 || e.2 == 0) = true) := by
  rw [List.any_eq_true]
  rintro ⟨e, he, hb⟩
  have ha := State.wordsStatus_aligned h (List.mem_flatMap.mpr ⟨e, he, entryWords_first (hn e he)⟩)
  have hp := hn e he
  simp only [Bool.or_eq_true, bne_iff_ne, beq_iff_eq] at hb
  omega

/-! ### The entries of a read command -/

theorem wordsBytes_map (l : List Nat) (v : Nat → Nat) : wordsBytes (l.map v) = l.flatMap fun w => le 4 (v w) := by
  unfold wordsBytes
  rw [List.flatMap_map]

theorem State.readEntries_live {b : State} {q : Req} {group : Bool} {l : List (Nat × Nat)} (hn : ∀ e ∈ l, 0 < e.2)
    (h0 : b.wordsStatus q.comp (l.flatMap fun e => entryWords e.1 e.2) = 0)
    (hl : ∀ w ∈ l.flatMap fun e => entryWords e.1 e.2, readsLive group (l.flatMap fun e => entryWords e.1 e.2) w) :
    ∃ cs rg, b.readEntries q group l = ({ b with captures := cs, regs := rg },
        .ok ((l.flatMap fun e => entryWords e.1 e.2).flatMap fun w => le 4 ((b.wordAt q.comp w).getD 0))) ∧
      ReadOnce b { b with captures := cs, regs := rg } q.comp (l.flatMap fun e => entryWords e.1 e.2) := by
  have hal := entries_aligned (s := b) (c := q.comp) (by rw [h0]; decide) hn
  unfold State.readEntries
  generalize (l.flatMap fun e => entryWords e.1 e.2) = ws at h0 hl
  obtain ⟨cs, hr⟩ := State.readWords_live hl (.session q.sid) q.comp b
  have honce := readOnce_clearRead { b with captures := cs } q.comp ws
  rw [State.clearRead_eq, State.wrs_eq] at hr honce
  refine ⟨cs, _, ?_, honce⟩
  dsimp only
  rw [h0, if_neg (by decide), if_neg hal, if_neg (by decide), hr, wordsBytes_map]

theorem State.readEntries_absent {b : State} {q : Req} {group : Bool} {l : List (Nat × Nat)} (hn : ∀ e ∈ l, 0 < e.2)
    (h0 : b.wordsStatus q.comp (l.flatMap fun e => entryWords e.1 e.2) = 0x0020) : b.readEntries q group l = (b, .fail 0x0020 []) := by
  have hal := entries_aligned (s := b) (c := q.comp) (by rw [h0]; decide) hn
  unfold State.readEntries
  dsimp only
  rw [h0, if_neg (by decide), if_neg hal, if_pos (by decide)]
  rfl

end Sys2Proof.Machine

namespace Sys2Proof.Proofs
open Sys2Proof.Machine Sys2Proof.Claims

/-! ### Staged reads (R99) -/

theorem State.stagedWord_none {s : State} {c a : Nat} (h : (s.staging c).cells = []) : s.stagedWord c a = ((s.wordAt c a).getD 0, false) := by
  unfold State.stagedWord
  rw [h]
  exact if_neg (by simp [stagedValue])

theorem State.stagedWord_one {s : State} {c a v : Nat} {r : Row} {idx : List Nat} (hp : Obj.parts a = [⟨r, idx, 0, 0⟩]) (hv : v < 2 ^ 32)
    (h : stagedValue (s.staging c).cells (r.at c idx) = some v) : s.stagedWord c a = (v, true) := by
  unfold State.stagedWord
  rw [hp]
  dsimp only
  rw [if_pos (by simp [h])]
  simp only [List.foldl_cons, List.foldl_nil, h, Option.getD_some, Obj.Part.place, pow_zero, Nat.div_one, Nat.mul_one, Nat.zero_add,
    Nat.mod_eq_of_lt hv]

/-- Nothing staged is marked by zero bytes. -/
theorem bitmap_none : ∀ n : Nat, bitmap (List.replicate n false) = List.replicate ((n + 7) / 8) 0
  | 0 => rfl
  | 1 => rfl
  | 2 => rfl
  | 3 => rfl
  | 4 => rfl
  | 5 => rfl
  | 6 => rfl
  | 7 => rfl
  | n + 8 => by
    rw [show (n + 8 + 7) / 8 = (n + 7) / 8 + 1 by omega, show List.replicate ((n + 7) / 8 + 1) (0 : BitVec 8) =
      0 :: List.replicate ((n + 7) / 8) 0 from rfl, ← bitmap_none n]
    rfl

section
variable {f : Frame} {s : State} {x : Session}

/-- The fields of a payload of an address and a count. -/
theorem rangePayload {p : Bytes} {a n : Nat} (ha : a < 2 ^ 32) (hn : n ≤ 4090) (hp : p = le 4 a ++ le 2 n ++ le 2 0) :
    p.length = 8 ∧ field p 0 4 = a ∧ field p 4 2 = n := by
  subst hp
  refine ⟨rfl, ?_, ?_⟩
  · rw [List.append_assoc, field_le, Nat.mod_eq_of_lt (by omega)]
  · rw [List.append_assoc, field_append_right (by rw [le_length]), le_length, Nat.sub_self, field_le, Nat.mod_eq_of_lt (by omega)]

theorem singleWords (a n : Nat) : ([(a, n)] : List (Nat × Nat)).flatMap (fun e => entryWords e.1 e.2) = wordsFrom a n := by
  rw [List.flatMap_singleton]
  rfl

theorem objRead_body (hh : Hosted s x) {a n : Nat} (ha : a < 2 ^ 32) (hn : n ≤ 4090) (hp : f.payload = le 4 a ++ le 2 n ++ le 2 0) :
    objRead (requestOf f x 0x0201) (accepted s f x 0x0201 true) =
      (accepted s f x 0x0201 true).readEntries (requestOf f x 0x0201) false [(a, n)] := by
  obtain ⟨hlen, h0, h4⟩ := rangePayload ha hn hp
  unfold objRead
  rw [permitted_all hh, requestOf_payload, hlen, h0, h4]
  exact (if_neg (by decide)).trans (if_neg (by omega))

/-- A read that passes its checks answers the words as they stand and clears what a read clears. -/
theorem reads_live (h : Admitted s f x) {i : Instr} {code : Nat} {body : Req → State → State × Reply} {group : Bool} {l : List (Nat × Nat)}
    (he : exec i s = .next (s.serve { code := code, cancellable := true, rereads := true } f noPre body))
    (hb : body (requestOf f x code) (accepted s f x code true) = (accepted s f x code true).readEntries (requestOf f x code) group l)
    (hn : ∀ e ∈ l, 0 < e.2) (h0 : (accepted s f x code true).wordsStatus x.comp (l.flatMap fun e => entryWords e.1 e.2) = 0)
    (hl : ∀ w ∈ l.flatMap fun e => entryWords e.1 e.2, readsLive group (l.flatMap fun e => entryWords e.1 e.2) w) :
    Completes i s fun t => Answers s t f x code 0 ((l.flatMap fun e => entryWords e.1 e.2).flatMap fun w =>
      le 4 (((accepted s f x code true).wordAt x.comp w).getD 0)) ∧ ReadOnce s t x.comp (l.flatMap fun e => entryWords e.1 e.2) := by
  have hspeak := accepted_session (code := code) (can := true) h
  have hsent := accepted_sent s f x code true
  have hrd := accepted_rd s f x code true
  generalize hacc : accepted s f x code true = a at hb h0 hspeak hsent hrd
  obtain ⟨cs, rg, hread, honce⟩ := State.readEntries_live (b := a) (q := requestOf f x code) hn h0 hl
  refine completes_ok (c := { code := code, cancellable := true, rereads := true }) (body := body) he h
    (t := { a with captures := cs, regs := rg }) (by rw [hacc]; exact hb.trans hread) (hspeak.congr rfl) fun ss cn => ⟨?_, readOnce_congr honce (fun g => (hrd g).symm) fun _ => rfl⟩
  unfold Answers
  rw [← hsent]
  rfl

/-- A read of a word that is not there is refused. -/
theorem reads_absent (h : Admitted s f x) {i : Instr} {code : Nat} {body : Req → State → State × Reply} {group : Bool} {l : List (Nat × Nat)}
    (he : exec i s = .next (s.serve { code := code, cancellable := true, rereads := true } f noPre body))
    (hb : body (requestOf f x code) (accepted s f x code true) = (accepted s f x code true).readEntries (requestOf f x code) group l)
    (hn : ∀ e ∈ l, 0 < e.2) (h0 : (accepted s f x code true).wordsStatus x.comp (l.flatMap fun e => entryWords e.1 e.2) = 0x0020) :
    Reports' i s f x code 0x0020 :=
  refuses_of (c := { code := code, cancellable := true, rereads := true }) (body := body) he h
    (hb.trans (State.readEntries_absent (q := requestOf f x code) hn h0))

variable (h : Admitted s f x) (hh : Hosted s x)
include h hh

theorem objRead_live {a n : Nat} (ha : a < 2 ^ 32) (h0 : 0 < n) (hn : n ≤ 4090) (hp : f.payload = le 4 a ++ le 2 n ++ le 2 0)
    (hst : (accepted s f x 0x0201 true).wordsStatus x.comp (wordsFrom a n) = 0) (hl : ∀ w ∈ wordsFrom a n, plainRead (wordsFrom a n) w) :
    Completes (.cmdObjRead f) s fun t => Answers s t f x 0x0201 0 ((wordsFrom a n).flatMap fun w =>
      le 4 (((accepted s f x 0x0201 true).wordAt x.comp w).getD 0)) ∧ ReadOnce s t x.comp (wordsFrom a n) := by
  have hr := reads_live (i := .cmdObjRead f) (body := objRead) h rfl (objRead_body hh ha hn hp)
  rw [singleWords] at hr
  exact hr (by simpa using h0) hst fun w hw => ⟨(hl w hw).1, fun hi => .inr ((hl w hw).2.1 hi)⟩

theorem objRead_absent {a n : Nat} (ha : a < 2 ^ 32) (h0 : 0 < n) (hn : n ≤ 4090) (hp : f.payload = le 4 a ++ le 2 n ++ le 2 0)
    (hst : (accepted s f x 0x0201 true).wordsStatus x.comp (wordsFrom a n) = 0x0020) : Reports' (.cmdObjRead f) s f x 0x0201 0x0020 := by
  have hr := reads_absent (i := .cmdObjRead f) (body := objRead) h rfl (objRead_body hh ha hn hp)
  rw [singleWords] at hr
  exact hr (by simpa using h0) hst

omit h in
theorem stagedRead_body {a n : Nat} (ha : a < 2 ^ 32) (h0 : 0 < n) (hn : n ≤ 4090) (hp : f.payload = le 4 a ++ le 2 n ++ le 2 0)
    (hst : (accepted s f x 0x0301 true).wordsStatus x.comp (wordsFrom a n) = 0) :
    stagedRead (requestOf f x 0x0301) (accepted s f x 0x0301 true) = (accepted s f x 0x0301 true,
      .ok (wordsBytes (((wordsFrom a n).map ((accepted s f x 0x0301 true).stagedWord x.comp)).map (·.1)) ++
        bitmap (((wordsFrom a n).map ((accepted s f x 0x0301 true).stagedWord x.comp)).map (·.2)))) := by
  obtain ⟨hlen, hf0, hf4⟩ := rangePayload ha hn hp
  have hst' : (accepted s f x 0x0301 true).wordsStatus x.comp (entryWords a n) = 0 := hst
  have hal := State.wordsStatus_aligned (s := accepted s f x 0x0301 true) (c := x.comp) (by rw [hst']; decide) (entryWords_first (a := a) h0)
  unfold stagedRead
  rw [permitted_all hh, requestOf_payload, requestOf_comp, hlen, hf0, hf4]
  dsimp only
  rw [hst']
  exact (if_neg (by decide)).trans ((if_neg (by omega)).trans ((if_neg (by decide)).trans ((if_neg (by omega)).trans (if_neg (by decide)))))

theorem stagedRead_none {a n : Nat} (ha : a < 2 ^ 32) (h0 : 0 < n) (hn : n ≤ 4090) (hp : f.payload = le 4 a ++ le 2 n ++ le 2 0)
    (hst : (accepted s f x 0x0301 true).wordsStatus x.comp (wordsFrom a n) = 0) (hc : (s.staging x.comp).cells = []) :
    Reports (.castStagedRead f) s f x 0x0301 (((wordsFrom a n).flatMap fun w => le 4 (((accepted s f x 0x0301 true).wordAt x.comp w).getD 0)) ++
      List.replicate ((n + 7) / 8) 0) := by
  have hb := stagedRead_body hh ha h0 hn hp hst
  have hnone : (accepted s f x 0x0301 true).stagedWord x.comp = fun w => (((accepted s f x 0x0301 true).wordAt x.comp w).getD 0, false) :=
    funext fun w => State.stagedWord_none (by rw [accepted_staging]; exact hc)
  rw [hnone, List.map_map, List.map_map] at hb
  refine reports_of (c := { code := 0x0301, cancellable := true, rereads := true }) (body := stagedRead) rfl h (hb.trans ?_)
  have hlen : (wordsFrom a n).length = n := by
    unfold wordsFrom
    rw [List.length_map, List.length_range]
  have hmap : (wordsFrom a n).map (fun _ => false) = List.replicate n false := by rw [List.map_const', hlen]
  rw [← bitmap_none n, ← hmap, ← wordsBytes_map]
  rfl

theorem stagedRead_one {a n v : Nat} {r : Row} {idx : List Nat} (ha : a < 2 ^ 32) (hn : n = 1)
    (hp : f.payload = le 4 a ++ le 2 n ++ le 2 0) (hst : (accepted s f x 0x0301 true).wordsStatus x.comp (wordsFrom a n) = 0)
    (hparts : Obj.parts a = [⟨r, idx, 0, 0⟩]) (hv : v < 2 ^ 32) (hc : stagedValue (s.staging x.comp).cells (r.at x.comp idx) = some v) :
    Reports (.castStagedRead f) s f x 0x0301 (le 4 v ++ [1]) := by
  subst hn
  have hb := stagedRead_body hh ha (by decide) (by decide) hp hst
  have hw : wordsFrom a 1 = [a] := rfl
  rw [hw, List.map_singleton, State.stagedWord_one hparts hv (by rw [accepted_staging]; exact hc)] at hb
  refine reports_of (c := { code := 0x0301, cancellable := true, rereads := true }) (body := stagedRead) rfl h (hb.trans ?_)
  show (_, Reply.ok (wordsBytes [v] ++ _)) = _
  unfold wordsBytes
  rw [List.flatMap_singleton]
  rfl

end

/-! ### Group reads (R92, R93) -/

/-- An entry of a group read: address, count, zero. -/
def readEntry (e : Nat × Nat) : Bytes := le 4 e.1 ++ le 2 e.2 ++ le 2 0

theorem readEntry_length (e : Nat × Nat) : (readEntry e).length = 8 := rfl

theorem readEntries_parse (l : List (Nat × Nat)) (hl : ∀ e ∈ l, e.1 < 2 ^ 32 ∧ 0 < e.2 ∧ e.2 < 2 ^ 16) (pre : Bytes) :
    ((List.range l.length).map fun i => (field (pre ++ l.flatMap readEntry) (pre.length + 8 * i) 4,
      field (pre ++ l.flatMap readEntry) (pre.length + 4 + 8 * i) 2)) = l := by
  induction l generalizing pre with
  | nil => rfl
  | cons e l ih =>
    obtain ⟨h1, -, h2⟩ := hl e List.mem_cons_self
    have hrest := ih (fun y hy => hl y (List.mem_cons_of_mem e hy)) (pre ++ readEntry e)
    rw [List.length_append, readEntry_length, List.append_assoc] at hrest
    rw [List.length_cons, List.range_succ_eq_map, List.map_cons, List.map_map, List.flatMap_cons]
    congr 1
    · refine Prod.ext ?_ ?_
      · show field _ (pre.length + 8 * 0) 4 = e.1
        rw [field_append_right (by omega), Nat.mul_zero, Nat.add_zero, Nat.sub_self]
        unfold readEntry
        rw [List.append_assoc, List.append_assoc, field_le, Nat.mod_eq_of_lt (by omega)]
      · show field _ (pre.length + 4 + 8 * 0) 2 = e.2
        rw [field_append_right (by omega), show pre.length + 4 + 8 * 0 - pre.length = 4 by omega]
        unfold readEntry
        rw [List.append_assoc, List.append_assoc, field_append_right (by rw [le_length]), le_length, Nat.sub_self, field_le,
          Nat.mod_eq_of_lt (by omega)]
    · refine Eq.trans (List.map_congr_left fun i _ => ?_) hrest
      show (field _ (pre.length + 8 * (i + 1)) 4, field _ (pre.length + 4 + 8 * (i + 1)) 2) = _
      rw [show pre.length + 8 * (i + 1) = pre.length + 8 + 8 * i by omega,
        show pre.length + 4 + 8 * (i + 1) = pre.length + 8 + 4 + 8 * i by omega]

theorem readEntries_length (l : List (Nat × Nat)) : (l.flatMap readEntry).length = 8 * l.length := by
  induction l with
  | nil => rfl
  | cons e l ih =>
    rw [List.flatMap_cons, List.length_append, ih, readEntry_length, List.length_cons]
    omega

theorem objGroupRead_body {f : Frame} {s : State} {x : Session} {l : List (Nat × Nat)} (hh : Hosted s x) (h0 : 0 < l.length)
    (h256 : l.length ≤ 256) (hl : ∀ e ∈ l, e.1 < 2 ^ 32 ∧ 0 < e.2 ∧ e.2 < 2 ^ 16) (hsum : (l.map (·.2)).sum ≤ 20450)
    (hp : f.payload = le 2 l.length ++ le 2 0 ++ l.flatMap readEntry) :
    objGroupRead (requestOf f x 0x0203) (accepted s f x 0x0203 true) =
      (accepted s f x 0x0203 true).readEntries (requestOf f x 0x0203) true l := by
  have hlen : f.payload.length = 4 + 8 * l.length := by
    rw [hp, List.length_append, readEntries_length]
    rfl
  have hn : field f.payload 0 2 = l.length := by
    rw [hp, List.append_assoc, field_le, Nat.mod_eq_of_lt (by omega)]
  have hparse := readEntries_parse l hl (le 2 l.length ++ le 2 0)
  rw [← hp] at hparse
  have hes : ((List.range l.length).map fun i => (field f.payload (4 + 8 * i) 4, field f.payload (8 + 8 * i) 2)) = l := hparse
  unfold objGroupRead
  rw [permitted_all hh, requestOf_payload, hn, hlen]
  dsimp only
  rw [hes, ← List.sum_eq_foldl]
  exact (if_neg (by decide)).trans (if_neg (by omega))

/-- Settles O21, by what a request takes of each word as it stands. -/
theorem objectReads : Obligations.ObjectReads := by
  unfold Obligations.ObjectReads
  refine ⟨fun f s x a n h hc h5 h9 ha h0 hn hp => ?_, fun f s x l h hc h5 h9 h0 h256 hl hsum hp hst hrtc => ?_⟩
  · have hh : Hosted s x := ⟨hc, h5, h9⟩
    exact ⟨fun hst hl => objRead_live h hh ha h0 hn hp hst hl, fun hst => objRead_absent h hh ha h0 hn hp hst,
      fun hst hcells => stagedRead_none h hh ha h0 hn hp hst hcells,
      fun r idx v hone hst hparts _ hv hsv => stagedRead_one h hh ha hone hp hst hparts hv hsv⟩
  · have hh : Hosted s x := ⟨hc, h5, h9⟩
    exact reads_live (i := .cmdObjGroupRead f) (body := objGroupRead) h rfl (objGroupRead_body hh h0 h256 hl hsum hp)
      (fun e he => (hl e he).2.1) hst fun w hw => ⟨hrtc w hw, fun _ => .inl rfl⟩

end Sys2Proof.Proofs
end

section
/-!
SUPPORT. Writes of objects (spec/01 R5, R7, R11; spec/04 R94, R97, R100): what a write does to the sessions, and what it does to the
stored fields of a word whose fields start no action.
-/
namespace Sys2Proof.Machine
open Sys2Proof.Claims

/-! ### A write keeps the sessions -/

theorem State.logAll_talked (s : State) (l : List Nat) (trigger : Nat) (detail : Bytes) (d : Bool) : Talked s (s.logAll l trigger detail d) :=
  .of_eq (s.logAll_raised l trigger detail d).sessions (s.logAll_raised l trigger detail d).sent

theorem Talked.of_same {s t u : State} (h : Talked s t) (hs : u.sessions = t.sessions) (ho : u.sent = t.sent) : Talked s u :=
  h.trans (.of_eq hs ho)

theorem State.armedFreeze_talked (s : State) : Talked s s.armedFreeze := by
  unfold State.armedFreeze
  split
  · dsimp only
    generalize hw : s.wr Obj.PMON_STATUS_ARMED.f 0 = u
    have hu : Talked s u := hw ▸ .of_eq rfl rfl
    split
    · exact hu.of_same u.freeze_rest.1 u.freeze_rest.2
    · generalize hv : u.set1 Obj.PMON_EVT_FREEZE_DROP.f = v
      exact (hu.trans (hv ▸ .of_eq rfl rfl)).trans (v.logAll_talked _ _ _ _)
  · exact .refl s

theorem State.endStep_talked (s : State) (c : Nat) : Talked s (s.endStep c) := by
  unfold State.endStep
  dsimp only
  split
  · generalize hu : State.putProg s c _ = u
    exact (show Talked s u from hu ▸ .of_eq rfl rfl).trans (u.finish_talked _ _ _)
  · exact .refl s

theorem putTasks_eq (l : List Nat) (c : Nat) (g : State → Nat → TaskRun) (s : State) :
    (l.foldl (fun t k => t.putTask c (k / 16) (k % 16) (g t k)) s).sessions = s.sessions ∧
    (l.foldl (fun t k => t.putTask c (k / 16) (k % 16) (g t k)) s).sent = s.sent := by
  induction l generalizing s with
  | nil => exact ⟨rfl, rfl⟩
  | cons k l ih => exact ih (s.putTask c (k / 16) (k % 16) (g s k))

theorem State.resumeProg_talked (s : State) (c k : Nat) : Talked s (s.resumeProg c k) := by
  unfold State.resumeProg
  dsimp only
  split
  · generalize hu : (List.range 32).foldl _ s = u
    have h := putTasks_eq (List.range 32) c (fun t j => { (t.task c (j / 16) (j % 16)) with from_ := k }) s
    rw [hu] at h
    exact .of_eq h.1 h.2
  · exact .refl s

theorem State.d1Change_talked (s : State) (c : Nat) (on : Bool) : Talked s (s.d1Change c on) := by
  unfold State.d1Change
  dsimp only
  refine Talked.trans (t := if _ then _ else _) ?_ (State.logAll_talked _ _ _ _ _)
  split
  · refine (s.endStep_talked c).trans ?_
    generalize s.endStep c = u
    split
    · exact .of_eq rfl rfl
    · exact u.resumeProg_talked _ _
  · exact .refl s

theorem State.writeD1_talked (s : State) (v : Nat) : Talked s (s.writeD1 v) := by
  unfold State.writeD1
  split
  · exact .refl s
  · dsimp only
    refine Talked.trans ?_ (Talked.foldl (fun t c => t.d1Change_talked c _) _ _)
    split
    · exact .of_eq rfl rfl
    · exact .of_eq rfl rfl

theorem State.setField_talked (s : State) (x : FldWrite) : Talked s (s.setField x) := by
  unfold State.setField State.pmonSetRun State.pmonSetDump State.pmonSetSamp
  split
  · split
    · exact .of_eq rfl rfl
    · split
      · dsimp only
        split <;> exact .of_eq rfl rfl
      · dsimp only
        split <;> exact .of_eq rfl rfl
  · split
    · exact .of_eq rfl rfl
    · split
      · exact s.writeD1_talked _
      · exact .of_eq rfl rfl

theorem State.clearFlags_eq (s : State) (r : Row) (idx : List Nat) (f : Fld) (ones sets : Nat) :
    s.clearFlags r idx f ones sets = { s with regs := (s.clearFlags r idx f ones sets).regs } := by
  unfold State.clearFlags
  dsimp only
  split <;> rfl

theorem State.clearField_talked (s : State) (x : FldWrite) (sets : Nat) : Talked s (s.clearField x sets) := by
  unfold State.clearField
  split
  · dsimp only
    split <;> exact .of_eq rfl rfl
  · rw [State.clearFlags_eq]
    exact .of_eq rfl rfl

theorem State.abortCal_talked (s : State) (cause : Nat) : Talked s (s.abortCal cause) := by
  unfold State.abortCal
  split <;> exact .of_eq rfl rfl

theorem State.calStart_talked (s : State) : Talked s s.calStart := by
  unfold State.calStart
  split <;> exact .of_eq rfl rfl

theorem State.pmonSetArm_talked (s : State) : Talked s s.pmonSetArm := by
  unfold State.pmonSetArm
  generalize hu : s.wr Obj.PMON_STATUS_ARMED.f 1 = u
  exact (show Talked s u from hu ▸ .of_eq rfl rfl).trans u.armedFreeze_talked

theorem State.request_talked (s : State) (p b : Nat) : Talked s (s.request p b) := by
  unfold State.request
  dsimp only
  split
  · exact .refl s
  · split
    · exact .of_eq rfl rfl
    · split
      · exact .refl s
      · generalize hu : State.wrs _ _ = u
        have h : Talked s u := hu ▸ .of_eq rfl rfl
        split
        · exact h.trans (u.endTx_work _ _ _).talked
        · split
          · exact h.trans (.of_eq rfl rfl)
          · generalize hv : u.wr (Obj.FBC_TXB_STATE.ij p b) txPending = v
            exact (h.trans (hv ▸ .of_eq rfl rfl)).trans v.select_work.talked

theorem State.correlate_talked (s : State) : Talked s s.correlate := by
  unfold State.correlate State.inc
  exact .of_eq (by simp only [State.wr_sessions]) (by simp only [State.wr_sent])

theorem State.armAfter_talked (s : State) (a t : Nat) : Talked s (s.armAfter a t) := by
  unfold State.armAfter
  exact .of_eq (by simp only [State.wr_sessions]) (by simp only [State.wr_sent])

theorem State.act_talked (s : State) (x : FldWrite) : Talked s (s.act x) := by
  unfold State.act
  dsimp only
  split
  · exact .refl s
  · split
    · split
      · exact .of_eq s.freeze_rest.1 s.freeze_rest.2
      · exact s.pmonSetArm_talked
    · split
      · exact s.correlate_talked
      · split
        · split
          · exact s.calStart_talked
          · exact s.abortCal_talked 1
        · split
          · exact .of_eq rfl rfl
          · split
            · split
              · exact s.request_talked _ _
              · exact s.cancelTx_talked _ _
            · split <;> exact .of_eq rfl rfl

theorem State.compareCalendar_talked (s : State) : Talked s s.compareCalendar := by
  unfold State.compareCalendar State.shift
  split
  · dsimp only
    split
    · exact .refl s
    · split
      · split <;> exact .of_eq rfl rfl
      · exact .of_eq rfl rfl
  · exact .refl s

theorem State.afterSet_talked (s : State) (l : List FldWrite) : Talked s (s.afterSet l) := by
  unfold State.afterSet
  dsimp only
  refine Talked.trans ?_ (Talked.foldl (fun t a => t.armAfter_talked a _) _ _)
  split
  · rename_i x _
    exact (show Talked s { s with rtc := { s.rtc with zone := x.value == 1 } } from .of_eq rfl rfl).trans (State.compareCalendar_talked _)
  · exact .refl s

theorem State.applyFields_talked (s : State) (l : List FldWrite) (sets : FldWrite → Nat) : Talked s (s.applyFields l sets) := by
  unfold State.applyFields
  exact (Talked.foldl State.setField_talked _ s).trans ((Talked.foldl (fun t x => t.clearField_talked x (sets x)) _ _).trans
    ((State.afterSet_talked _ l).trans (Talked.foldl State.act_talked _ _)))

theorem State.modeOf_talked (s : State) (l : List FldWrite) : Talked s (s.modeOf l) := by
  unfold State.modeOf State.modeBegin
  split
  · split
    · exact .of_eq rfl rfl
    · split <;> exact .of_eq rfl rfl
  · exact .refl s

theorem State.performWrite_talked (s : State) (c : Nat) {ws : List (Nat × Nat)} (sets : FldWrite → Nat) (hp : pointWrites ws = []) :
    Talked s (s.performWrite c ws sets) := by
  unfold State.performWrite
  rw [hp]
  dsimp only [List.foldl_nil]
  have h := (s.applyFields_talked (s.fieldsOf c ws) sets).trans (State.modeOf_talked _ (s.fieldsOf c ws))
  rw [if_pos (show ([] : List PtWrite).isEmpty = true from rfl)]
  generalize (s.applyFields (s.fieldsOf c ws) sets).modeOf (s.fieldsOf c ws) = u at h ⊢
  split
  · exact h
  · exact h.trans (.of_eq rfl rfl)

/-! ### Where the rows with rules of their own lie -/

/-- A row of a field that a write only sets, stages or clears. -/
def Row.simple (r : Row) : Bool :=
  ! [0x40000, 0x80008, 0x20070, 0x2C, 0x9002C, 0x41004, 0x4100C].contains r.base && ! decide (0x20200 ≤ r.base ∧ r.base < 0x2020C)

/-- The rows that have rules of their own: those of one word, of PMON's counters, and of the alarms. -/
theorem simple_rows : (Obj.tables.all fun t => t.2.2.all fun r => r.simple ||
    ([0x40000, 0x80008, 0x20070, 0x2C, 0x9002C].contains r.base && r.dims.isEmpty && (r.base == 0x80008 || decide (r.lo + r.width ≤ 32))) ||
    (decide (0x41000 ≤ t.1) && decide (t.2.1 ≤ 0x43000)) || (decide (0x20200 ≤ t.1) && decide (t.2.1 ≤ 0x20600))) = true := by
  decide +kernel

theorem part_table {a : Nat} {p : Obj.Part} (h : p ∈ Obj.parts a) :
    ∃ t ∈ Obj.tables, t.1 ≤ a ∧ a < t.2.1 ∧ ∃ r ∈ t.2.2, p ∈ Obj.rowParts r a := by
  unfold Obj.parts at h
  obtain ⟨t, ht, hp⟩ := List.mem_flatMap.mp h
  obtain ⟨r, hr, hp⟩ := List.mem_flatMap.mp hp
  obtain ⟨ht, hb⟩ := List.mem_filter.mp ht
  simp only [Bool.and_eq_true, decide_eq_true_eq] at hb
  exact ⟨t, ht, hb.1, hb.2, r, hr, hp⟩

theorem rowParts_mem {r : Row} {a : Nat} {p : Obj.Part} (h : p ∈ Obj.rowParts r a) :
    p.row = r ∧ ((∃ k < 4, Obj.startAt r (a + k) = some p.idx) ∨ (32 < r.lo + r.width ∧ 4 ≤ a ∧ Obj.startAt r (a - 4) = some p.idx)) := by
  have here : ∀ q ∈ [0, 1, 2, 3].filterMap (fun k => (Obj.startAt r (a + k)).map fun idx =>
      ({ row := r, idx := idx, below := 0, above := 8 * k + r.lo } : Obj.Part)), q.row = r ∧ ∃ k < 4, Obj.startAt r (a + k) = some q.idx := by
    intro q hq
    obtain ⟨k, hk, hq⟩ := List.mem_filterMap.mp hq
    obtain ⟨idx, hi, rfl⟩ := Option.map_eq_some_iff.mp hq
    simp only [List.mem_cons, List.not_mem_nil, or_false] at hk
    exact ⟨rfl, k, by omega, hi⟩
  unfold Obj.rowParts at h
  dsimp only at h
  split at h
  · rename_i hw
    split at h
    · rename_i idx hi
      rcases List.mem_append.mp h with h | h
      · exact ⟨(here p h).1, .inl (here p h).2⟩
      · rw [List.mem_singleton] at h
        subst h
        exact ⟨rfl, .inr ⟨hw.1, hw.2, hi⟩⟩
    · exact ⟨(here p h).1, .inl (here p h).2⟩
  · exact ⟨(here p h).1, .inl (here p h).2⟩

theorem startAt_single {r : Row} {x : Nat} {idx : List Nat} (hd : r.dims = []) (h : Obj.startAt r x = some idx) : x = r.base := by
  unfold Obj.startAt at h
  split at h
  · rw [hd, Obj.index] at h
    split at h
    · omega
    · cases h
  · cases h

/-- No field of a plain word has a rule of its own. -/
theorem plainWrite_simple {c a : Nat} (h : plainWrite c a) {p : Obj.Part} (hp : p ∈ Obj.parts a) : p.row.simple = true := by
  obtain ⟨hal, -, -, -, hout, hpm, halm, -⟩ := h
  obtain ⟨t, ht, h1, h2, r, hr, hp⟩ := part_table hp
  obtain ⟨rfl, hat⟩ := rowParts_mem hp
  have hrow := List.all_eq_true.mp (List.all_eq_true.mp simple_rows t ht) p.row hr
  simp only [Bool.or_eq_true, Bool.and_eq_true, decide_eq_true_eq, beq_iff_eq] at hrow
  rcases hrow with ((hs | ⟨⟨hb, hd⟩, hw⟩) | ⟨hlo, hhi⟩) | ⟨hlo, hhi⟩
  · exact hs
  · have hd := List.isEmpty_iff.mp hd
    rw [List.contains_iff_mem] at hb
    simp only [List.mem_cons, List.not_mem_nil, or_false] at hb hout
    rcases hat with ⟨k, hk, hi⟩ | ⟨hwide, h4, hi⟩
    · have := startAt_single hd hi
      omega
    · have := startAt_single hd hi
      omega
  · omega
  · omega

end Sys2Proof.Machine
end

section
/-!
SUPPORT. What a write of a plain word does to the stored fields (spec/01 R5, R11; spec/04 R97): fields set, flags cleared by ones with
their companion counters, fields staged.
-/
namespace Sys2Proof.Machine
open Sys2Proof.Claims

/-! ### The fields of one word -/

/-- What a write of `v` to a word gives a part. -/
def State.writeOf (s : State) (c v : Nat) (p : Obj.Part) : FldWrite :=
  { row := p.row, idx := p.idx, fld := p.row.at c p.idx, value := p.merge (s.beforeWrite c p) v }

/-- The place of a part's field. -/
def partKey (c : Nat) (p : Obj.Part) : Nat := (p.row.at c p.idx).key

theorem State.writable_sublist (s : State) (c a : Nat) : (s.writable c a).Sublist (Obj.parts a) := by
  unfold State.writable
  split
  · exact List.filter_sublist
  · exact List.nil_sublist _

theorem writes_sublist (s : State) (c a : Nat) (k : Access) : (writes s c a k).Sublist (s.writable c a) := List.filter_sublist

theorem writes_parts {s : State} {c a : Nat} {k : Access} {p : Obj.Part} (h : p ∈ writes s c a k) : p ∈ Obj.parts a :=
  (s.writable_sublist c a).subset ((writes_sublist s c a k).subset h)

theorem writes_acc {s : State} {c a : Nat} {k : Access} {p : Obj.Part} (h : p ∈ writes s c a k) : p.row.acc = k :=
  beq_iff_eq.mp (List.mem_filter.mp h).2

theorem State.collect_apart {s : State} {c v : Nat} {ps : List Obj.Part} {k : List FldWrite} (hn : (ps.map (partKey c)).Nodup)
    (hk : ∀ x ∈ k, ∀ p ∈ ps, x.fld.key ≠ partKey c p) :
    ps.foldl (fun k p => match k.find? fun x => x.fld.key == (p.row.at c p.idx).key with
      | some x => k.map fun y => if y.fld.key = (p.row.at c p.idx).key then { x with value := p.merge x.value v } else y
      | none => k ++ [s.writeOf c v p]) k = k ++ ps.map (s.writeOf c v) := by
  induction ps generalizing k with
  | nil => rw [List.map_nil, List.append_nil, List.foldl_nil]
  | cons p ps ih =>
    obtain ⟨hp, hps⟩ := List.nodup_cons.mp hn
    have hnone : k.find? (fun x => x.fld.key == (p.row.at c p.idx).key) = none :=
      List.find?_eq_none.mpr fun x hx hb => hk x hx p List.mem_cons_self (beq_iff_eq.mp hb)
    rw [List.foldl_cons]
    simp only [hnone]
    rw [ih hps, List.append_assoc]
    · rfl
    · intro x hx q hq
      rcases List.mem_append.mp hx with hx | hx
      · exact hk x hx q (List.mem_cons_of_mem p hq)
      · rw [List.mem_singleton.mp hx]
        exact fun he => hp (List.mem_map.mpr ⟨q, hq, he.symm⟩)

theorem State.fieldsOf_one {s : State} {c a : Nat} (hn : ((Obj.parts a).map (partKey c)).Nodup) (v : Nat) :
    s.fieldsOf c [(a, v)] = (s.writable c a).map (s.writeOf c v) :=
  State.collect_apart (k := []) (hn.sublist ((s.writable_sublist c a).map _)) fun _ hx => absurd hx List.not_mem_nil

theorem filter_writes (s : State) (c a v : Nat) (k : Access) :
    ((s.writable c a).map (s.writeOf c v)).filter (fun x => x.row.acc == k) = (writes s c a k).map (s.writeOf c v) := List.filter_map

/-! ### Fields set, flags cleared -/

/-- The RW fields of a word set. -/
def State.setWord (s : State) (c a v : Nat) : State :=
  s.wrs ((writes s c a .rw).map fun p => (p.row.at c p.idx, p.merge (s.fieldVal c p.row p.idx) v))

/-- Some flags cleared by ones. -/
def State.clearParts (s : State) (c : Nat) (ones sets : Obj.Part → Nat) (ps : List Obj.Part) : State :=
  ps.foldl (fun t p => t.clearFlags p.row p.idx (p.row.at c p.idx) (ones p) (sets p)) s

/-- The fields a clear of some flags may change. -/
def flagFlds (c : Nat) (ps : List Obj.Part) : List Fld :=
  ps.flatMap fun p => p.row.at c p.idx :: (p.row.companion p.idx (p.row.at c p.idx)).toList

theorem State.clearFlags_kept (s : State) (r : Row) (idx : List Nat) (f : Fld) (ones sets : Nat) :
    Kept (f :: (r.companion idx f).toList) s (s.clearFlags r idx f ones sets) := by
  intro g hg
  have hf : f.key ≠ g.key := hg f List.mem_cons_self
  unfold State.clearFlags
  dsimp only
  split
  · rename_i k hk
    rw [hk] at hg
    exact (State.rd_wr_ne _ _ _ _ (hg k (by simp))).trans (State.rd_wr_ne _ _ _ _ hf)
  · exact State.rd_wr_ne _ _ _ _ hf

theorem State.rd_clearFlags {s : State} {r : Row} {idx : List Nat} {f : Fld} (ones sets : Nat) (h : ∀ g ∈ r.companion idx f, g.key ≠ f.key) :
    (s.clearFlags r idx f ones sets).rd f = (nand (s.rd f) ones ||| sets) % 2 ^ f.width := by
  unfold State.clearFlags
  dsimp only
  split
  · rename_i k hk
    exact (State.rd_wr_ne _ _ _ _ (h k hk)).trans (State.rd_wr_self _ _ _)
  · exact State.rd_wr_self _ _ _

theorem State.clearParts_eq (s : State) (c : Nat) (ones sets : Obj.Part → Nat) (ps : List Obj.Part) :
    ∃ r, s.clearParts c ones sets ps = { s with regs := r } := by
  induction ps generalizing s with
  | nil => exact ⟨s.regs, rfl⟩
  | cons p ps ih =>
    have hf := s.clearFlags_eq p.row p.idx (p.row.at c p.idx) (ones p) (sets p)
    obtain ⟨r, hr⟩ := ih (s.clearFlags p.row p.idx (p.row.at c p.idx) (ones p) (sets p))
    refine ⟨r, hr.trans ?_⟩
    rw [hf]

theorem State.clearParts_kept (s : State) (c : Nat) (ones sets : Obj.Part → Nat) (ps : List Obj.Part) :
    Kept (flagFlds c ps) s (s.clearParts c ones sets ps) := by
  induction ps generalizing s with
  | nil => exact fun _ _ => rfl
  | cons p ps ih =>
    intro g hg
    unfold flagFlds at hg
    rw [List.flatMap_cons] at hg
    exact (ih _ g fun f hf => hg f (List.mem_append_right _ hf)).trans
      (State.clearFlags_kept _ _ _ _ _ _ g fun f hf => hg f (List.mem_append_left _ hf))

theorem State.rd_clearParts {s : State} {c : Nat} (ones sets : Obj.Part → Nat) {ps : List Obj.Part} (hn : (ps.map (partKey c)).Nodup)
    (hc : ∀ p ∈ ps, ∀ g ∈ p.row.companion p.idx (p.row.at c p.idx), ∀ q ∈ ps, g.key ≠ partKey c q) {p : Obj.Part} (hp : p ∈ ps) :
    (s.clearParts c ones sets ps).rd (p.row.at c p.idx) =
      (nand (s.rd (p.row.at c p.idx)) (ones p) ||| sets p) % 2 ^ (p.row.at c p.idx).width := by
  induction ps generalizing s with
  | nil => exact absurd hp List.not_mem_nil
  | cons q ps ih =>
    obtain ⟨hq, hps⟩ := List.nodup_cons.mp hn
    have hc' : ∀ p ∈ ps, ∀ g ∈ p.row.companion p.idx (p.row.at c p.idx), ∀ q ∈ ps, g.key ≠ partKey c q :=
      fun p hp g hg r hr => hc p (List.mem_cons_of_mem q hp) g hg r (List.mem_cons_of_mem q hr)
    rcases List.mem_cons.mp hp with rfl | hp
    · refine (State.clearParts_kept _ c ones sets ps _ fun f hf => ?_).trans
        (State.rd_clearFlags _ _ fun g hg => hc p List.mem_cons_self g hg p List.mem_cons_self)
      obtain ⟨r, hr, hf⟩ := List.mem_flatMap.mp hf
      rcases List.mem_cons.mp hf with rfl | hf
      · exact fun he => hq (List.mem_map.mpr ⟨r, hr, he⟩)
      · exact hc r (List.mem_cons_of_mem p hr) f (Option.mem_toList.mp hf) p List.mem_cons_self
    · have hkeep : (s.clearFlags q.row q.idx (q.row.at c q.idx) (ones q) (sets q)).rd (p.row.at c p.idx) = s.rd (p.row.at c p.idx) := by
        refine State.clearFlags_kept _ _ _ _ _ _ _ fun f hf => ?_
        rcases List.mem_cons.mp hf with rfl | hf
        · exact fun he => hq (List.mem_map.mpr ⟨p, hp, he.symm⟩)
        · exact hc q List.mem_cons_self f (Option.mem_toList.mp hf) p (List.mem_cons_of_mem q hp)
      have := ih (s := s.clearFlags q.row q.idx (q.row.at c q.idx) (ones q) (sets q)) hps hc' hp
      rw [hkeep] at this
      exact this

/-! ### A write of a plain word -/

section
variable {s : State} {c a : Nat} (h : plainWrite c a)
include h

theorem plainWrite_nodup : ((Obj.parts a).map (partKey c)).Nodup := h.2.2.1

theorem writes_nodup (k : Access) : ((writes s c a k).map (partKey c)).Nodup :=
  (plainWrite_nodup h).sublist (((writes_sublist s c a k).trans (s.writable_sublist c a)).map _)

/-- Parts of different access codes lie at different places. -/
theorem writes_apart {j k : Access} (hjk : j ≠ k) {p q : Obj.Part} (hp : p ∈ writes s c a j) (hq : q ∈ writes s c a k) :
    partKey c p ≠ partKey c q := by
  intro he
  have := List.inj_on_of_nodup_map (plainWrite_nodup h) (writes_parts hp) (writes_parts hq) he
  rw [this] at hp
  exact hjk ((writes_acc hp).symm.trans (writes_acc hq))

theorem companion_apart {p q : Obj.Part} (hp : p ∈ Obj.parts a) (hq : q ∈ Obj.parts a) {g : Fld}
    (hg : g ∈ p.row.companion p.idx (p.row.at c p.idx)) : g.key ≠ partKey c q := h.2.2.2.1 p hp g hg q hq

theorem setFields_plain (s : State) (v : Nat) : ((writes s c a .rw).map (s.writeOf c v)).foldl State.setField s = s.setWord c a v := by
  have hset : ∀ p ∈ writes s c a .rw, ∀ t : State, t.setField (s.writeOf c v p) = t.wr (p.row.at c p.idx) (p.merge (s.fieldVal c p.row p.idx) v) := by
    intro p hp t
    have hs := plainWrite_simple h (writes_parts hp)
    unfold Row.simple at hs
    simp only [Bool.and_eq_true, Bool.not_eq_true', List.contains_eq_mem, List.mem_cons, List.not_mem_nil, or_false, decide_eq_false_iff_not,
      not_or] at hs
    obtain ⟨⟨h1, h2, -, -, -, h6, -⟩, -⟩ := hs
    unfold State.setField State.writeOf State.beforeWrite
    dsimp only
    rw [if_neg h1, if_neg h6, if_neg h2, writes_acc hp]
    simp
  unfold State.setWord State.wrs
  rw [List.foldl_map, List.foldl_map]
  exact List.foldl_ext _ _ s fun t p hp => hset p hp t

theorem clearFields_plain (s t : State) (v : Nat) (sets : FldWrite → Nat) :
    ((writes s c a .w1c).map (s.writeOf c v)).foldl (fun t x => t.clearField x (sets x)) t =
      t.clearParts c (·.taken v) (fun p => sets (s.writeOf c v p)) (writes s c a .w1c) := by
  unfold State.clearParts
  rw [List.foldl_map]
  refine List.foldl_ext _ _ t fun u p hp => ?_
  have hs := plainWrite_simple h (writes_parts hp)
  unfold Row.simple at hs
  simp only [Bool.and_eq_true, Bool.not_eq_true', List.contains_eq_mem, List.mem_cons, List.not_mem_nil, or_false, decide_eq_false_iff_not,
    not_or] at hs
  obtain ⟨⟨-, -, -, -, -, -, h7⟩, -⟩ := hs
  unfold State.clearField
  rw [if_neg (show ¬ (s.writeOf c v p).row.base = 0x4100C from h7)]
  have hv : (s.writeOf c v p).value = p.taken v := by
    show p.merge (s.beforeWrite c p) v = p.merge 0 v
    unfold State.beforeWrite
    dsimp only
    rw [if_pos (.inl (writes_acc hp))]
  rw [hv]
  rfl

/-- What follows from fields set is nothing in a plain word. -/
theorem afterSet_plain (s t : State) (v : Nat) : t.afterSet ((s.writable c a).map (s.writeOf c v)) = t := by
  have hrow : ∀ x ∈ (s.writable c a).map (s.writeOf c v), x.row.simple = true := by
    intro x hx
    obtain ⟨p, hp, rfl⟩ := List.mem_map.mp hx
    exact plainWrite_simple h ((s.writable_sublist c a).subset hp)
  generalize (s.writable c a).map (s.writeOf c v) = l at hrow
  have hz : l.find? (fun x => x.row == Obj.TIME_CFG_ZONE) = none :=
    List.find?_eq_none.mpr fun x hx hb => by
      have := hrow x hx
      rw [beq_iff_eq.mp hb] at this
      exact absurd this (by decide)
  have ha : ((List.range 16).filter fun k => l.any fun x => decide (0x20200 ≤ x.row.base ∧ x.row.base < 0x2020C) && x.idx == [k]) = [] := by
    refine List.filter_eq_nil_iff.mpr fun k _ hb => ?_
    obtain ⟨x, hx, hb⟩ := List.any_eq_true.mp hb
    have := hrow x hx
    unfold Row.simple at this
    simp only [Bool.and_eq_true, Bool.not_eq_true'] at this hb
    rw [hb.1] at this
    exact absurd this.2 (by decide)
  unfold State.afterSet
  rw [hz, ha]
  rfl

theorem modeOf_plain (s t : State) (v : Nat) : t.modeOf ((s.writable c a).map (s.writeOf c v)) = t := by
  unfold State.modeOf
  refine if_neg fun hb => ?_
  obtain ⟨x, hx, hb⟩ := List.any_eq_true.mp hb
  obtain ⟨p, hp, rfl⟩ := List.mem_map.mp hx
  have := plainWrite_simple h ((s.writable_sublist c a).subset hp)
  rw [show p.row = Obj.IDENT_MODE_REQ_MODE from beq_iff_eq.mp hb] at this
  exact absurd this (by decide)

theorem writes_wo (s : State) : writes s c a .wo = [] := by
  refine List.filter_eq_nil_iff.mpr fun p hp hb => ?_
  exact h.2.1 p ((s.writable_sublist c a).subset hp) (beq_iff_eq.mp hb)

theorem pointWrites_plain (v : Nat) : pointWrites [(a, v)] = [] := by
  obtain ⟨-, -, -, -, -, -, -, hp⟩ := h
  unfold pointWrites
  rw [List.filter_cons_of_neg (by simpa using hp)]
  rfl

/-- A write of a plain word sets, clears and stages. -/
theorem performWrite_plain (s : State) (v : Nat) (sets : FldWrite → Nat) : s.performWrite c [(a, v)] sets =
    let u := (s.setWord c a v).clearParts c (·.taken v) (fun p => sets (s.writeOf c v p)) (writes s c a .w1c)
    if ((writes s c a .ws).map (s.writeOf c v)).map (fun x => (x.fld, x.value)) = [] then u
    else u.stageFields c (((writes s c a .ws).map (s.writeOf c v)).map fun x => (x.fld, x.value)) := by
  have hws : ((s.writable c a).map (s.writeOf c v)).filter FldWrite.staged = (writes s c a .ws).map (s.writeOf c v) :=
    filter_writes s c a v .ws
  unfold State.performWrite State.applyFields
  rw [State.fieldsOf_one (plainWrite_nodup h) v]
  dsimp only
  rw [pointWrites_plain h, filter_writes, filter_writes, filter_writes, hws, writes_wo h s, setFields_plain h s v,
    clearFields_plain h s _ v sets, afterSet_plain h s _ v, List.map_nil, List.foldl_nil, modeOf_plain h s _ v, List.foldl_nil]
  cases ((writes s c a .ws).map (s.writeOf c v)).map (fun x => (x.fld, x.value)) with
  | nil => rfl
  | cons x l => rfl

theorem wordWritten_plain (s : State) (v m : Nat) (sets : FldWrite → Nat) (hws : writes s c a .ws = [])
    (hm : ∀ p ∈ writes s c a .w1c, sets (s.writeOf c v p) = p.taken m) : WordWritten s (s.performWrite c [(a, v)] sets) c a v m ∧
      (s.performWrite c [(a, v)] sets).stagings = s.stagings := by
  rw [performWrite_plain h s v sets, hws]
  show WordWritten s ((s.setWord c a v).clearParts c (·.taken v) (fun p => sets (s.writeOf c v p)) (writes s c a .w1c)) c a v m ∧
    ((s.setWord c a v).clearParts c (·.taken v) (fun p => sets (s.writeOf c v p)) (writes s c a .w1c)).stagings = s.stagings
  have hcomp : ∀ p ∈ writes s c a .w1c, ∀ g ∈ p.row.companion p.idx (p.row.at c p.idx), ∀ q ∈ writes s c a .w1c, g.key ≠ partKey c q :=
    fun p hp g hg q hq => companion_apart h (writes_parts hp) (writes_parts hq) hg
  have hset : ∀ g, (∀ p ∈ writes s c a .rw, partKey c p ≠ g.key) → (s.setWord c a v).rd g = s.rd g := by
    refine fun g hg => State.rd_wrs_ne fun x hx => ?_
    obtain ⟨p, hp, rfl⟩ := List.mem_map.mp hx
    exact hg p hp
  refine ⟨⟨fun p hp => ?_, fun p hp => ?_, fun g hg => ?_⟩, ?_⟩
  · refine (State.clearParts_kept _ _ _ _ _ _ fun f hf => ?_).trans (State.rd_wrs_mem ?_ (List.mem_map.mpr ⟨p, hp, rfl⟩))
    · obtain ⟨q, hq, hf⟩ := List.mem_flatMap.mp hf
      rcases List.mem_cons.mp hf with rfl | hf
      · exact writes_apart h (by decide) hq hp
      · exact companion_apart h (writes_parts hq) (writes_parts hp) (Option.mem_toList.mp hf)
    · rw [List.map_map]
      exact writes_nodup h .rw
  · rw [State.rd_clearParts _ _ (writes_nodup h .w1c) hcomp hp, hm p hp,
      hset _ fun q hq => writes_apart h (by decide) hq hp]
    rfl
  · rw [List.flatMap_append] at hg
    refine (State.clearParts_kept _ _ _ _ _ g fun f hf => hg f (List.mem_append_right _ hf)).trans (hset g fun p hp => ?_)
    exact hg _ (List.mem_append_left _ (List.mem_flatMap.mpr ⟨p, hp, List.mem_cons_self⟩))
  · obtain ⟨r, hr⟩ := State.clearParts_eq (s.setWord c a v) c (·.taken v) (fun p => sets (s.writeOf c v p)) (writes s c a .w1c)
    rw [hr]
    show (s.setWord c a v).stagings = s.stagings
    unfold State.setWord
    rw [State.wrs_eq]

end

end Sys2Proof.Machine
end

section
/-!
SUPPORT. What a write stages, and the entries of a write command (spec/04 R94, R97, R100).
-/
namespace Sys2Proof.Machine
open Sys2Proof.Claims

/-! ### Staged values -/

theorem stagedValue_ins_self (k : Cells) (f : Fld) (v : Nat) (h : ∀ p ∈ k, p.1.key ≠ f.key) : stagedValue (k.ins f v) f = some v := by
  unfold stagedValue
  induction k with
  | nil => simp [Cells.ins]
  | cons p k ih =>
    obtain ⟨g, w⟩ := p
    have hg : g.key ≠ f.key := h (g, w) List.mem_cons_self
    unfold Cells.ins
    split
    · simp
    · rw [List.find?_cons_of_neg (by simpa using hg)]
      exact ih fun p hp => h p (List.mem_cons_of_mem _ hp)

theorem stagedValue_ins_ne (k : Cells) (f g : Fld) (v : Nat) (h : f.key ≠ g.key) : stagedValue (k.ins f v) g = stagedValue k g := by
  unfold stagedValue
  induction k with
  | nil => simp [Cells.ins, h]
  | cons p k ih =>
    unfold Cells.ins
    split
    · rw [List.find?_cons_of_neg (by simpa using h)]
    · by_cases hp : p.1.key = g.key
      · rw [List.find?_cons_of_pos (by simpa using hp), List.find?_cons_of_pos (by simpa using hp)]
      · rw [List.find?_cons_of_neg (by simpa using hp), List.find?_cons_of_neg (by simpa using hp)]
        exact ih

theorem stagedValue_del_ne (k : Cells) (f g : Fld) (h : f.key ≠ g.key) : stagedValue (k.del f) g = stagedValue k g := by
  unfold stagedValue Cells.del
  rw [List.find?_filter]
  congr 2
  funext p
  by_cases hp : p.1.key = g.key
  · simp [hp, h.symm]
  · simp [hp]

theorem stagedValue_put_self (k : Cells) (f : Fld) (v : Nat) : stagedValue (stagePut k f v) f = some (v % 2 ^ f.width) :=
  stagedValue_ins_self _ f _ (Cells.del_keys k f)

theorem stagedValue_put_ne (k : Cells) (f g : Fld) (v : Nat) (h : f.key ≠ g.key) : stagedValue (stagePut k f v) g = stagedValue k g :=
  (stagedValue_ins_ne _ f g _ h).trans (stagedValue_del_ne k f g h)

theorem stagedValue_foldl_ne {l : List (Fld × Nat)} {k : Cells} {g : Fld} (h : ∀ p ∈ l, p.1.key ≠ g.key) :
    stagedValue (l.foldl (fun k p => stagePut k p.1 p.2) k) g = stagedValue k g := by
  induction l generalizing k with
  | nil => rfl
  | cons p l ih =>
    exact (ih fun q hq => h q (List.mem_cons_of_mem p hq)).trans (stagedValue_put_ne _ _ _ _ (h p List.mem_cons_self))

theorem stagedValue_foldl_mem {l : List (Fld × Nat)} {k : Cells} {f : Fld} {v : Nat} (hn : (l.map (·.1.key)).Nodup) (h : (f, v) ∈ l) :
    stagedValue (l.foldl (fun k p => stagePut k p.1 p.2) k) f = some (v % 2 ^ f.width) := by
  induction l generalizing k with
  | nil => exact absurd h List.not_mem_nil
  | cons p l ih =>
    obtain ⟨hp, hl⟩ := List.nodup_cons.mp hn
    rcases List.mem_cons.mp h with rfl | h
    · exact (stagedValue_foldl_ne fun q hq he => hp (List.mem_map.mpr ⟨q, hq, he⟩)).trans (stagedValue_put_self _ _ _)
    · exact ih hl h

/-! ### A write that stages -/

theorem State.putStaging_kept (s : State) (c : Nat) (g : Staging) : Kept (Claims.stageFields c) s (s.putStaging c g) := by
  intro k hk
  unfold State.putStaging
  exact (State.rd_wr_ne _ _ _ _ (hk _ (by simp [Claims.stageFields]))).trans ((State.rd_wr_ne _ _ _ _ (hk _ (by simp [Claims.stageFields]))).trans
    (State.rd_wr_ne _ _ _ _ (hk _ (by simp [Claims.stageFields]))))

theorem State.stagings_putStaging (s : State) (c : Nat) (g : Staging) : (s.putStaging c g).stagings = s.stagings.put c g := rfl

theorem writes_none {s : State} {c a : Nat} {j k : Access} (hjk : j ≠ k) (h : ∀ p ∈ s.writable c a, p.row.acc = j) : writes s c a k = [] :=
  List.filter_eq_nil_iff.mpr fun p hp hb => hjk ((h p hp).symm.trans (beq_iff_eq.mp hb))

theorem writes_all {s : State} {c a : Nat} {k : Access} (h : ∀ p ∈ s.writable c a, p.row.acc = k) : writes s c a k = s.writable c a :=
  List.filter_eq_self.mpr fun p hp => beq_iff_eq.mpr (h p hp)

theorem performWrite_stages {s : State} {c a : Nat} (h : plainWrite c a) (v : Nat) (sets : FldWrite → Nat) (hws : ∀ p ∈ s.writable c a, p.row.acc = .ws)
    (hne : s.writable c a ≠ []) :
    s.performWrite c [(a, v)] sets = s.stageFields c ((s.writable c a).map fun p => (p.row.at c p.idx, p.merge (s.beforeWrite c p) v)) := by
  have hset : s.setWord c a v = s := by
    unfold State.setWord
    rw [writes_none (by decide) hws]
    rfl
  rw [performWrite_plain h s v sets, writes_none (k := .w1c) (by decide) hws, writes_all hws, hset, List.map_map]
  exact if_neg fun he => hne (List.map_eq_nil_iff.mp he)

theorem performWrite_staged {s : State} {c a : Nat} (h : plainWrite c a) (v : Nat) (hws : ∀ p ∈ s.writable c a, p.row.acc = .ws)
    (hne : s.writable c a ≠ []) : let t := s.performWrite c [(a, v)] fun _ => 0
    (t.staging c).state = 1 ∧ Kept (stageFields c) s t ∧ (∀ d, d ≠ c → t.staging d = s.staging d) ∧
      ∀ p ∈ s.writable c a, stagedValue (t.staging c).cells (p.row.at c p.idx) = some (p.merge (s.beforeWrite c p) v % 2 ^ p.row.width) := by
  intro t
  obtain ⟨g, ht, hst, hcells⟩ : ∃ g, t = s.putStaging c g ∧ g.state = 1 ∧ g.cells =
      ((s.writable c a).map fun p => (p.row.at c p.idx, p.merge (s.beforeWrite c p) v)).foldl (fun k p => stagePut k p.1 p.2) (s.staging c).cells :=
    ⟨_, performWrite_stages h v (fun _ => 0) hws hne, rfl, rfl⟩
  rw [ht, State.staging_putStaging]
  refine ⟨hst, s.putStaging_kept c g, fun d hd => Tab.get_put_ne _ _ _ _ _ (Ne.symm hd), fun p hp => ?_⟩
  rw [hcells]
  refine stagedValue_foldl_mem ?_ (List.mem_map.mpr ⟨p, hp, rfl⟩)
  rw [List.map_map]
  exact (plainWrite_nodup h).sublist ((s.writable_sublist c a).map _)

end Sys2Proof.Machine
end

section
namespace Sys2Proof.Proofs
open Sys2Proof.Machine Sys2Proof.Claims

/-! ### The entries of a write command -/

/-- An entry of a write: address, count, zero, values. -/
def writeEntry (e : Nat × List Nat) : Bytes := le 4 e.1 ++ le 2 e.2.length ++ le 2 0 ++ e.2.flatMap (le 4)

theorem words_length (l : List Nat) : (l.flatMap (le 4)).length = 4 * l.length := by
  induction l with
  | nil => rfl
  | cons v l ih =>
    rw [List.flatMap_cons, List.length_append, ih, le_length, List.length_cons]
    omega

theorem words_parse (l : List Nat) (hl : ∀ v ∈ l, v < 2 ^ 32) (pre post : Bytes) :
    ((List.range l.length).map fun i => field (pre ++ (l.flatMap (le 4) ++ post)) (pre.length + 4 * i) 4) = l := by
  induction l generalizing pre with
  | nil => rfl
  | cons v l ih =>
    have hv := hl v List.mem_cons_self
    have hrest := ih (fun y hy => hl y (List.mem_cons_of_mem v hy)) (pre ++ le 4 v)
    rw [List.length_append, le_length, List.append_assoc] at hrest
    rw [List.length_cons, List.range_succ_eq_map, List.map_cons, List.map_map, List.flatMap_cons, List.append_assoc]
    congr 1
    · rw [field_append_right (by omega), Nat.mul_zero, Nat.add_zero, Nat.sub_self, field_le, Nat.mod_eq_of_lt (by omega)]
    · refine Eq.trans (List.map_congr_left fun i _ => ?_) hrest
      show field _ (pre.length + 4 * (i + 1)) 4 = _
      rw [show pre.length + 4 * (i + 1) = pre.length + 4 + 4 * i by omega]

theorem writeEntry_length (e : Nat × List Nat) : (writeEntry e).length = 8 + 4 * e.2.length := by
  unfold writeEntry
  rw [List.length_append, words_length]
  rfl

/-- What the fields of an entry at the start of a payload give. -/
theorem writeEntry_parse {e : Nat × List Nat} (h1 : e.1 < 2 ^ 32) (h2 : e.2.length < 2 ^ 16) (h3 : ∀ v ∈ e.2, v < 2 ^ 32) (post : Bytes) :
    field (writeEntry e ++ post) 0 4 = e.1 ∧ field (writeEntry e ++ post) 4 2 = e.2.length ∧
    ((List.range e.2.length).map fun i => field (writeEntry e ++ post) (8 + 4 * i) 4) = e.2 := by
  unfold writeEntry
  refine ⟨?_, ?_, ?_⟩
  · rw [List.append_assoc, List.append_assoc, List.append_assoc, field_le, Nat.mod_eq_of_lt (by omega)]
  · rw [List.append_assoc, List.append_assoc, List.append_assoc, field_append_right (by rw [le_length]), le_length, Nat.sub_self, field_le,
      Nat.mod_eq_of_lt (by omega)]
  · have := words_parse e.2 h3 (le 4 e.1 ++ le 2 e.2.length ++ le 2 0) post
    rwa [← List.append_assoc] at this

theorem parseEntries_flat (es : List (Nat × List Nat)) (h : ∀ e ∈ es, e.1 < 2 ^ 32 ∧ e.2.length < 2 ^ 16 ∧ ∀ v ∈ e.2, v < 2 ^ 32) :
    parseEntries es.length (es.flatMap writeEntry) = some es := by
  induction es with
  | nil => rfl
  | cons e es ih =>
    obtain ⟨h1, h2, h3⟩ := h e List.mem_cons_self
    obtain ⟨p1, p2, p3⟩ := writeEntry_parse h1 h2 h3 (es.flatMap writeEntry)
    have hlen := writeEntry_length e
    rw [List.length_cons, List.flatMap_cons, parseEntries]
    rw [p2, if_neg (by rw [List.length_append, hlen]; omega), p1, p3, ← hlen, List.drop_left, ih fun y hy => h y (List.mem_cons_of_mem e hy)]
    rfl

theorem objWrite_body {f : Frame} {s : State} {x : Session} {e : Nat × List Nat} (hh : Hosted s x) (h1 : e.1 < 2 ^ 32)
    (h2 : e.2.length < 2 ^ 16) (h3 : ∀ v ∈ e.2, v < 2 ^ 32) (hp : f.payload = writeEntry e) :
    objWrite (requestOf f x 0x0202) (accepted s f x 0x0202 false) = (accepted s f x 0x0202 false).writeEntries (requestOf f x 0x0202) [e] := by
  obtain ⟨p1, p2, p3⟩ := writeEntry_parse h1 h2 h3 []
  rw [List.append_nil, ← hp] at p1 p2 p3
  unfold objWrite
  rw [permitted_all hh, requestOf_payload]
  dsimp only
  rw [p1, p2, p3, hp, writeEntry_length]
  exact (if_neg (by decide)).trans (if_neg (by omega))

theorem objGroupWrite_body {f : Frame} {s : State} {x : Session} {es : List (Nat × List Nat)} (hh : Hosted s x) (h0 : 0 < es.length)
    (h256 : es.length ≤ 256) (h : ∀ e ∈ es, e.1 < 2 ^ 32 ∧ e.2.length < 2 ^ 16 ∧ ∀ v ∈ e.2, v < 2 ^ 32)
    (hp : f.payload = le 2 es.length ++ le 2 0 ++ es.flatMap writeEntry) :
    objGroupWrite (requestOf f x 0x0204) (accepted s f x 0x0204 false) =
      (accepted s f x 0x0204 false).writeEntries (requestOf f x 0x0204) es := by
  have hn : field f.payload 0 2 = es.length := by
    rw [hp, List.append_assoc, field_le, Nat.mod_eq_of_lt (by omega)]
  have hdrop : f.payload.drop 4 = es.flatMap writeEntry := by
    rw [hp]
    rfl
  have hlen : ¬ f.payload.length < 4 := by
    rw [hp, List.length_append]
    exact Nat.not_lt.mpr (Nat.le_add_right 4 _)
  unfold objGroupWrite
  rw [permitted_all hh, requestOf_payload]
  dsimp only
  rw [hn, hdrop, parseEntries_flat es h]
  exact (if_neg (by decide)).trans (if_neg (by omega))

/-! ### What a write command does -/

section
variable {f : Frame} {s : State} {x : Session} {i : Instr} {code : Nat} {body : Req → State → State × Reply} {es : List (Nat × List Nat)}
  (h : Admitted s f x) (he : exec i s = .next (s.serve { code := code } f noPre body))
  (hb : body (requestOf f x code) (accepted s f x code false) = (accepted s f x code false).writeEntries (requestOf f x code) es)
include h he hb

theorem write_refused {st : Nat} {p : Bytes} (hr : (accepted s f x code false).writeRefusal x.comp es = some (.fail st p)) :
    Completes i s fun t => Untouched s t ∧ Answers s t f x code st p := by
  have hw : (accepted s f x code false).writeEntries (requestOf f x code) es = (accepted s f x code false, .fail st p) := by
    unfold State.writeEntries
    rw [requestOf_comp, hr]
  obtain ⟨t, ht, hans, hun⟩ := refuses_of (i := i) (c := { code := code }) (body := body) he h (hb.trans hw)
  exact ⟨t, ht, hun, hans⟩

omit h he hb in
theorem State.sealedOf_none {s : State} {l : List FldWrite} (hs : ∀ y ∈ l, y.row ≠ Obj.UPD_SEALED_MOVE) : s.sealedOf l = (s, none) := by
  unfold State.sealedOf
  rw [List.find?_eq_none.mpr fun y hy hb => hs y hy (beq_iff_eq.mp hb)]

omit h he hb in
theorem any_staged {l : List FldWrite} : l.any FldWrite.staged = true ↔ ∃ y ∈ l, y.row.acc = .ws := by
  rw [List.any_eq_true]
  exact exists_congr fun y => and_congr_right fun _ => beq_iff_eq

variable (hr : (accepted s f x code false).writeRefusal x.comp es = none)
  (hs : ∀ y ∈ (accepted s f x code false).fieldsOf x.comp ((indexed es).map (·.2)), y.row ≠ Obj.UPD_SEALED_MOVE)
include hr hs

theorem write_held (hst : ∃ y ∈ (accepted s f x code false).fieldsOf x.comp ((indexed es).map (·.2)), y.row.acc = .ws) (h2 : (s.staging x.comp).state = 2) :
    Completes i s fun t => t.sent = s.sent ∧ t.regs = s.regs ∧
      (t.staging x.comp).held = (s.staging x.comp).held ++ [⟨x.id, x.expected, .words es⟩] ∧
      (t.staging x.comp).cells = (s.staging x.comp).cells := by
  obtain ⟨-, -, -, -, -, hseq, -⟩ := id h
  have hstg := accepted_staging s f x code false x.comp
  have hsent := accepted_sent s f x code false
  have hregs := accepted_regs s f x code false
  generalize hacc : accepted s f x code false = a at hb hr hs hst hstg hsent hregs
  let g := a.staging x.comp
  have hw : a.writeEntries (requestOf f x code) es =
      ({ a with stagings := a.stagings.put x.comp { g with held := g.held ++ [⟨x.id, f.seq.toNat, .words es⟩] } }, .later (.held x.id f.seq.toNat)) := by
    unfold State.writeEntries
    rw [requestOf_comp, hr]
    dsimp only
    rw [State.sealedOf_none hs]
    dsimp only
    rw [any_staged.mpr hst, if_pos ⟨rfl, by rw [hstg]; exact h2⟩]
    rfl
  refine completes_later (c := { code := code }) (body := body)
    (t := { a with stagings := a.stagings.put x.comp { g with held := g.held ++ [⟨x.id, f.seq.toNat, .words es⟩] } })
    he h (by rw [hacc]; exact hb.trans hw) ⟨hsent, hregs, ?_, ?_⟩
  · show ((a.stagings.put x.comp { g with held := g.held ++ [⟨x.id, f.seq.toNat, .words es⟩] }).get {} x.comp).held = _
    rw [Tab.get_put_self, ← hseq]
    show (a.staging x.comp).held ++ _ = _
    rw [hstg]
  · show ((a.stagings.put x.comp { g with held := g.held ++ [⟨x.id, f.seq.toNat, .words es⟩] }).get {} x.comp).cells = _
    rw [Tab.get_put_self]
    show (a.staging x.comp).cells = _
    rw [hstg]

theorem write_done (hst : (∀ y ∈ (accepted s f x code false).fieldsOf x.comp ((indexed es).map (·.2)), y.row.acc ≠ .ws) ∨ (s.staging x.comp).state ≠ 2)
    (hp : ∀ w ∈ (indexed es).map (·.2), ¬ (0x220000 ≤ w.1 ∧ w.1 < 0x230000)) : Completes i s fun t => AnswersLast s t f x code 0 [] ∧
      t.regs = ((accepted s f x code false).performWrite x.comp ((indexed es).map (·.2)) fun _ => 0).regs ∧
      t.stagings = ((accepted s f x code false).performWrite x.comp ((indexed es).map (·.2)) fun _ => 0).stagings := by
  have hpw : pointWrites ((indexed es).map (·.2)) = [] := by
    unfold pointWrites
    rw [List.filter_eq_nil_iff.mpr fun w hw hb => hp w hw (of_decide_eq_true hb)]
    rfl
  have hspeak := accepted_session (code := code) (can := false) h
  have hstg := accepted_staging s f x code false x.comp
  have hsent := accepted_sent s f x code false
  generalize hacc : accepted s f x code false = a at hb hr hs hst hstg hsent hspeak ⊢
  have htalk := a.performWrite_talked x.comp (fun _ => 0) hpw
  have hw : a.writeEntries (requestOf f x code) es = (a.performWrite x.comp ((indexed es).map (·.2)) fun _ => 0, .ok []) := by
    unfold State.writeEntries
    rw [requestOf_comp, hr]
    dsimp only
    rw [State.sealedOf_none hs]
    dsimp only
    rw [hpw, if_neg, if_pos (.inl rfl)]
    rintro ⟨h1, h2⟩
    rcases hst with hst | hst
    · obtain ⟨y, hy, hacc⟩ := any_staged.mp h1
      exact hst y hy hacc
    · exact hst (by rw [← hstg]; exact h2)
  generalize a.performWrite x.comp ((indexed es).map (·.2)) (fun _ => 0) = u at htalk hw
  refine completes_ok (c := { code := code }) (body := body) he h (by rw [hacc]; exact hb.trans hw) (htalk.speaks hspeak) fun ss cn =>
    ⟨?_, rfl, rfl⟩
  obtain ⟨l, hl⟩ := htalk.sent
  refine ⟨l, ?_⟩
  rw [← hsent, hl]

end

/-! ### Single accesses -/

section
variable {who : Requester} {a : Nat} {s : State} (hw : s.live who = true)
include hw

omit hw in
/-- Bits that the module sets are neither put out nor staged. -/
theorem setBits_rest (s : State) (c a sets : Nat) : (s.setBits c a sets).sent = s.sent ∧ (s.setBits c a sets).stagings = s.stagings := by
  have step : ∀ (t : State) (x : FldWrite) (n : Nat), (t.clearField x n).sent = t.sent ∧ (t.clearField x n).stagings = t.stagings := by
    intro t x n
    unfold State.clearField
    split
    · dsimp only
      split <;> exact ⟨rfl, rfl⟩
    · rw [State.clearFlags_eq]
      exact ⟨rfl, rfl⟩
  unfold State.setBits
  generalize (Obj.parts a).filter (fun p => p.row.acc == .w1c) = ps
  induction ps generalizing s with
  | nil => exact ⟨rfl, rfl⟩
  | cons p ps ih =>
    obtain ⟨h1, h2⟩ := ih (s.clearField { row := p.row, idx := p.idx, fld := p.row.at c p.idx, value := 0 } (p.taken sets))
    obtain ⟨k1, k2⟩ := step s { row := p.row, idx := p.idx, fld := p.row.at c p.idx, value := 0 } (p.taken sets)
    exact ⟨h1.trans k1, h2.trans k2⟩

theorem regWrite_refused (v : BitVec 32) (ht : ∀ c e k, who ≠ .task c e k) {st : Nat} {p : Bytes}
    (hr : s.writeRefusal (s.compOf who) [(a, [v.toNat])] = some (.fail st p)) : Completes (.regWrite who a v 0) s fun t =>
      t.sent = s.sent ++ [Out.word who a st 0] ∧ t.stagings = s.stagings := by
  have hbits := setBits_rest s (s.compOf who) a 0
  have hx : exec (.regWrite who a v 0) s = .next ((s.setBits (s.compOf who) a 0).emit (.word who a st 0)) := by
    show Host.Outcome.next (regWrite who a v.toNat 0 s) = _
    unfold regWrite
    dsimp only
    rw [hw]
    cases who with
    | task c e k => exact absurd rfl (ht c e k)
    | _ =>
      dsimp only
      rw [hr]
      rfl
  refine ⟨_, hx, ?_, ?_⟩
  · show (s.setBits (s.compOf who) a 0).sent ++ _ = _
    rw [hbits.1]
  · exact hbits.2

/-- What a write of a single word gives a part, with the bits set in the same cycle. -/
theorem regWrite_writes (v m : BitVec 32) (ht : ∀ c e k, who ≠ .task c e k)
    (hr : s.writeRefusal (s.compOf who) [(a, [v.toNat])] = none) (hp : plainWrite (s.compOf who) a) (hws : writes s (s.compOf who) a .ws = []) :
    Completes (.regWrite who a v m) s fun t => t.sent = s.sent ++ [Out.word who a 0 0] ∧ WordWritten s t (s.compOf who) a v.toNat m.toNat := by
  let sets : FldWrite → Nat := fun x =>
    ((s.fieldsOf (s.compOf who) [(a, m.toNat)]).find? fun y => y.fld.key == x.fld.key).elim 0 (·.value)
  have hsets : ∀ p ∈ writes s (s.compOf who) a .w1c, sets (s.writeOf (s.compOf who) v.toNat p) = p.taken m.toNat := by
    intro p hpw
    have hmem := (writes_sublist s (s.compOf who) a .w1c).subset hpw
    have hfind : (s.fieldsOf (s.compOf who) [(a, m.toNat)]).find? (fun y => y.fld.key == (s.writeOf (s.compOf who) v.toNat p).fld.key) =
        some (s.writeOf (s.compOf who) m.toNat p) := by
      rw [State.fieldsOf_one (plainWrite_nodup hp), List.find?_map]
      have hsome : (s.writable (s.compOf who) a).find? (fun q => partKey (s.compOf who) q == partKey (s.compOf who) p) = some p := by
        obtain ⟨q, hq⟩ := Option.isSome_iff_exists.mp (List.find?_isSome (p := fun q => partKey (s.compOf who) q == partKey (s.compOf who) p) |>.mpr
          ⟨p, hmem, beq_self_eq_true (partKey (s.compOf who) p)⟩)
        have hk := List.find?_some hq
        have := List.inj_on_of_nodup_map (plainWrite_nodup hp) ((s.writable_sublist _ a).subset (List.mem_of_find?_eq_some hq))
          ((s.writable_sublist _ a).subset hmem) (beq_iff_eq.mp hk)
        rw [hq, this]
      exact congrArg (Option.map (s.writeOf (s.compOf who) m.toNat)) hsome
    show ((s.fieldsOf (s.compOf who) [(a, m.toNat)]).find? _).elim 0 (·.value) = _
    rw [hfind]
    show p.merge (s.beforeWrite (s.compOf who) p) m.toNat = p.merge 0 m.toNat
    unfold State.beforeWrite
    dsimp only
    rw [if_pos (.inl (writes_acc hpw))]
  have hseal : s.sealedOf (s.fieldsOf (s.compOf who) [(a, v.toNat)]) = (s, none) := by
    rw [State.fieldsOf_one (plainWrite_nodup hp)]
    refine State.sealedOf_none fun y hy he => ?_
    obtain ⟨p, hpw, rfl⟩ := List.mem_map.mp hy
    have := plainWrite_simple hp ((s.writable_sublist _ a).subset hpw)
    rw [show p.row = Obj.UPD_SEALED_MOVE from he] at this
    exact absurd this (by decide)
  have hx : exec (.regWrite who a v m) s =
      .next ((s.performWrite (s.compOf who) [(a, v.toNat)] sets).emit (.word who a St.ok 0)) := by
    show Host.Outcome.next (regWrite who a v.toNat m.toNat s) = _
    unfold regWrite
    dsimp only
    rw [hw]
    cases who with
    | task c e k => exact absurd rfl (ht c e k)
    | _ =>
      dsimp only
      rw [hr]
      dsimp only
      rw [hseal]
      rfl
  obtain ⟨hword, -⟩ := wordWritten_plain hp s v.toNat m.toNat sets hws hsets
  have hsent := pointWrites_plain hp v.toNat
  refine ⟨_, hx, ?_, hword⟩
  show (s.performWrite (s.compOf who) [(a, v.toNat)] sets).sent ++ _ = _
  rw [performWrite_plain hp s v.toNat sets, hws]
  obtain ⟨r, hr⟩ := State.clearParts_eq (s.setWord (s.compOf who) a v.toNat) (s.compOf who) (·.taken v.toNat)
    (fun p => sets (s.writeOf (s.compOf who) v.toNat p)) (writes s (s.compOf who) a .w1c)
  show (State.clearParts _ _ _ _ _).sent ++ _ = _
  rw [hr]
  show (s.setWord (s.compOf who) a v.toNat).sent ++ _ = _
  unfold State.setWord
  rw [State.wrs_sent]
  rfl

theorem regRead_clears (hst : s.wordStatus (s.compOf who) a = 0) (hr : inRtc a = false) (hh : highHalf a = false) :
    Completes (.regReadClear who a true 0) s fun t =>
      t.sent = s.sent ++ [Out.word who a 0 ((s.wordAt (s.compOf who) a).getD 0)] ∧ ReadOnce s t (s.compOf who) [a] := by
  obtain ⟨cs, hone⟩ := State.readOne_live (group := false) (l := [a]) ⟨hr, fun h => absurd (hh.symm.trans h) Bool.false_ne_true⟩ who (s.compOf who) s
  have hx : exec (.regReadClear who a true 0) s = .next ((({ s with captures := cs } : State).clearRead (s.compOf who) [a] 0).emit
      (.word who a St.ok ((s.wordAt (s.compOf who) a).getD 0))) := by
    show Host.Outcome.next (regReadClear who a true 0 s) = _
    unfold regReadClear
    dsimp only
    rw [hw, hst, hone]
    rfl
  refine ⟨_, hx, ?_, readOnce_congr (readOnce_clearRead { s with captures := cs } (s.compOf who) [a]) (fun _ => rfl) fun _ => rfl⟩
  show (State.clearRead _ _ _ _).sent ++ _ = _
  rw [State.clearRead_eq, State.wrs_sent]
  rfl

theorem regRead_fails {ok : Bool} (h : ok = false ∨ s.wordStatus (s.compOf who) a ≠ 0) : Completes (.regReadClear who a ok 0) s fun t =>
    t.sent = s.sent ++ [Out.word who a (s.wordStatus (s.compOf who) a) 0] ∧ ((∀ p ∈ Obj.parts a, p.row.acc ≠ .w1c) → t.regs = s.regs) := by
  have hx : exec (.regReadClear who a ok 0) s = .next ((s.setBits (s.compOf who) a 0).emit (.word who a (s.wordStatus (s.compOf who) a) 0)) := by
    show Host.Outcome.next (regReadClear who a ok 0 s) = _
    unfold regReadClear
    dsimp only
    rw [hw, if_neg (by decide), if_pos]
    rcases h with rfl | h
    · exact .inl rfl
    · exact .inr h
  refine ⟨_, hx, ?_, fun hn => ?_⟩
  · show (s.setBits (s.compOf who) a 0).sent ++ _ = _
    rw [(setBits_rest s (s.compOf who) a 0).1]
  · show (s.setBits (s.compOf who) a 0).regs = s.regs
    unfold State.setBits
    rw [List.filter_eq_nil_iff.mpr fun p hp hb => hn p hp (beq_iff_eq.mp hb)]
    rfl

end

/-- Settles O22: commands entry by entry, words by the access codes of their fields, and single accesses. -/
theorem objectWrites : Obligations.ObjectWrites := by
  unfold Obligations.ObjectWrites
  refine ⟨fun f s x es one h hc h5 h9 hes => ?_, fun s c a v sets hp _ => ⟨fun hws => ⟨?_, ?_⟩, fun hws hne => performWrite_staged hp v hws hne⟩,
    fun who a v m s hw ht => ⟨fun st p hr => regWrite_refused hw v ht hr, fun hr hp _ hws => regWrite_writes hw v m ht hr hp hws⟩,
    fun who a s hw => ⟨fun hst hr hh => regRead_clears hw hst hr hh, fun ok ho => regRead_fails hw ho⟩⟩
  · have hh : Hosted s x := ⟨hc, h5, h9⟩
    cases one with
    | true =>
      rintro entry i code b ws l ⟨e, rfl, hp⟩
      obtain ⟨h1, h2, h3⟩ := hes e List.mem_cons_self
      have hb := objWrite_body hh h1 h2 h3 hp
      exact ⟨fun st p hr => write_refused (i := .cmdObjWrite f) (body := objWrite) h rfl hb hr, fun hr hs =>
        ⟨fun hst h2 => write_held (i := .cmdObjWrite f) (body := objWrite) h rfl hb hr hs hst h2,
          fun hst hpt => write_done (i := .cmdObjWrite f) (body := objWrite) h rfl hb hr hs hst hpt⟩⟩
    | false =>
      rintro entry i code b ws l ⟨h0, h256, hp⟩
      have hb := objGroupWrite_body hh h0 h256 hes hp
      exact ⟨fun st p hr => write_refused (i := .cmdObjGroupWrite f) (body := objGroupWrite) h rfl hb hr, fun hr hs =>
        ⟨fun hst h2 => write_held (i := .cmdObjGroupWrite f) (body := objGroupWrite) h rfl hb hr hs hst h2,
          fun hst hpt => write_done (i := .cmdObjGroupWrite f) (body := objGroupWrite) h rfl hb hr hs hst hpt⟩⟩
  · exact (wordWritten_plain hp s v 0 (fun _ => 0) hws fun p _ => (taken_zero p).symm).1
  · rw [performWrite_plain hp s v sets, hws]
    obtain ⟨r, hr⟩ := State.clearParts_eq (s.setWord c a v) c (·.taken v) (fun p => sets (s.writeOf c v p)) (writes s c a .w1c)
    show (State.clearParts _ _ _ _ _).stagings = _
    rw [hr]
    show (s.setWord c a v).stagings = s.stagings
    unfold State.setWord
    rw [State.wrs_eq]

end Sys2Proof.Proofs
end

section
/-!
SUPPORT. The firmware update (spec/17): what a boot record names, an activation's steps, fall-backs, aborts and a confirmation leave.
-/
namespace Sys2Proof.Machine
open Sys2Proof.Claims

/-! ### Work of units keeps the update -/

theorem State.KeepsLow.upd {s t : State} (h : t.KeepsLow s) : t.upd = s.upd := by
  show t.core.upd = s.core.upd
  rw [h.core]

theorem State.KeepsLow.floorTime {s t : State} (h : t.KeepsLow s) : t.floorTime = s.floorTime := by
  show t.core.floorTime = s.core.floorTime
  rw [h.core]

/-- The single fields of the update block. -/
def updFld (g : Fld) : Bool := decide (8 * 0x90000 ≤ g.key ∧ g.key < 8 * 0x90100)

theorem State.KeepsLow.updFld {s t : State} (h : t.KeepsLow s) {g : Fld} (hg : updFld g = true) : t.rd g = s.rd g := by
  obtain ⟨h1, h2⟩ := of_decide_eq_true hg
  refine h.low g (by omega) ?_
  have e1 : (Obj.EVR_DROPPED.b 0).key = 1573088 := rfl
  have e2 : (Obj.EVR_EVT_DROPPED.b 0).key = 1573120 := rfl
  unfold logKey
  simp only [e1, e2, Bool.or_eq_false_iff, beq_eq_false_iff_ne]
  omega

theorem updTrial_key (k : Nat) : (Obj.UPD_SLOT_TRIAL.i k).key = 4720641 + 512 * k := Row.i_key (st := 0x40) rfl rfl k

theorem updTrial_unlogged (k : Nat) : unlogged (Obj.UPD_SLOT_TRIAL.i k) = true := by
  have e1 : (Obj.EVR_DROPPED.b 0).key = 1573088 := rfl
  have e2 : (Obj.EVR_EVT_DROPPED.b 0).key = 1573120 := rfl
  rw [unlogged_iff]
  unfold logKey
  simp only [e1, e2, updTrial_key, Bool.or_eq_false_iff, beq_eq_false_iff_ne]
  omega

theorem State.rd_upd (s : State) (u : Upd) (g : Fld) : State.rd { s with upd := u } g = s.rd g := rfl

theorem State.rd_advance (s : State) (t : Nat) (g : Fld) : (s.advance t).rd g = s.rd g := rfl

/-! ### An abort -/

/-- The fields that the erasure of a slot clears. -/
def erasedFlds (k : Nat) : List Fld :=
  [Obj.UPD_SLOT_VALID.i k, Obj.UPD_SLOT_TRIAL.i k, Obj.UPD_SLOT_VER_SUP.i k, Obj.UPD_SLOT_VER_PCX.i k, Obj.UPD_SLOT_VER_SCE.i k,
    Obj.UPD_SLOT_VER_MAE.i k, Obj.UPD_SLOT_VER_FBC.i k, Obj.UPD_SLOT_SETTINGS_FMT.i k, Obj.UPD_SLOT_SEC_MAJOR.i k,
    Obj.UPD_SLOT_SEC_MINOR.i k, Obj.UPD_SLOT_BUILD_LO.i k, Obj.UPD_PKG_SIZE.f, Obj.UPD_BLOCKS_MISSING.f, Obj.UPD_BUILD_LO.f] ++
  (List.range 4096).map Obj.UPD_BITMAP.i

theorem State.eraseSlot_eq (s : State) (k : Nat) : s.eraseSlot k =
    State.wrs { s with upd := { s.upd with slots := s.upd.slots.del k, manifest := [], data := [] } } ((erasedFlds k).map (·, 0)) := by
  unfold State.eraseSlot erasedFlds
  rw [List.map_append, List.map_map]
  rfl

theorem State.eraseSlot_upd (s : State) (k : Nat) :
    (s.eraseSlot k).upd = { s.upd with slots := s.upd.slots.del k, manifest := [], data := [] } := by
  rw [State.eraseSlot_eq, State.wrs_eq]

/-- The ownership and the instant of an abort are gone, before its event. -/
def State.released (s : State) : State :=
  ((({ s with upd := { s.upd with owner := none, activateAt := none } } : State).wrs [(Obj.UPD_STATE.f, 0), (Obj.UPD_BUILD_LO.f, 0)]).finish
    .updVerify St.cancelled []).finish .updActivate St.cancelled []

theorem State.released_facts (s : State) : s.released.upd = { s.upd with owner := none, activateAt := none } ∧
    s.released.rd Obj.UPD_STATE.f = 0 := by
  have h : s.released.KeepsLow (State.wrs { s with upd := { s.upd with owner := none, activateAt := none } }
      [(Obj.UPD_STATE.f, 0), (Obj.UPD_BUILD_LO.f, 0)]) := .finish (.finish (.refl _))
  refine ⟨h.upd, (h.updFld (by decide)).trans ?_⟩
  exact State.rd_wrs_zero (l := [Obj.UPD_STATE.f, Obj.UPD_BUILD_LO.f]) rfl (.inr ⟨_, List.mem_cons_self, rfl⟩)

theorem State.updAbort_facts (s : State) (cause : Nat) (discard : Bool) : (s.updAbort cause discard).rd Obj.UPD_STATE.f = 0 ∧
    (s.updAbort cause discard).upd = if discard then
      { s.upd with owner := none, activateAt := none, slots := s.upd.slots.del s.upd.recv, manifest := [], data := [] }
      else { s.upd with owner := none, activateAt := none } := by
  obtain ⟨hu, h0⟩ := s.released_facts
  have h : (s.updAbort cause discard).KeepsLow (if discard then s.released.eraseSlot s.upd.recv else s.released) := .logAll (.refl _)
  cases discard with
  | false => exact ⟨(h.updFld (by decide)).trans h0, h.upd.trans hu⟩
  | true =>
    refine ⟨(h.updFld (by decide)).trans ?_, h.upd.trans ?_⟩
    · rw [if_pos rfl, State.eraseSlot_eq]
      exact State.rd_wrs_zero rfl (.inl h0)
    · rw [if_pos rfl, State.eraseSlot_upd, hu]
      rfl

/-! ### The boot record and the trial -/

/-- A slot number, of the two there are. -/
theorem slot_cases {k : Nat} (h : k ≤ 1) : k = 0 ∨ k = 1 := by omega

theorem State.nameActive_rd {k : Nat} (hk : k ≤ 1) (s : State) (trial : Bool) :
    (s.nameActive k trial).rd Obj.UPD_STATE_ACTIVE_SLOT.f = k ∧ (s.nameActive k trial).rd (Obj.UPD_SLOT_TRIAL.i k) = b2n trial ∧
      ∀ g : Fld, g.key < 8 * 0x90000 + 3 → (s.nameActive k trial).rd g = s.rd g := by
  have hb : b2n trial < 2 := by cases trial <;> decide
  obtain rfl | rfl := slot_cases hk
  all_goals
    unfold State.nameActive
    simp (disch := decide) only [State.wrs, List.foldl_cons, List.foldl_nil, State.rd_wr_ne, State.rd_wr_self]
    refine ⟨rfl, Nat.mod_eq_of_lt hb, fun g hg => ?_⟩
    have e1 : (Obj.UPD_STATE_ACTIVE_SLOT.f).key = 8 * 0x90000 + 3 := rfl
    rw [State.rd_wr_ne _ _ _ _ (by rw [updTrial_key]; omega), State.rd_wr_ne _ _ _ _ (by rw [updTrial_key]; omega),
      State.rd_wr_ne _ _ _ _ (by omega)]

theorem State.nameActive_rest (s : State) (k : Nat) (trial : Bool) : (s.nameActive k trial) = { s with regs := (s.nameActive k trial).regs } :=
  State.wrs_eq _ _

theorem State.beginTrial_facts {s : State} (hk : s.upd.recv ≤ 1) (tU : Nat) :
    (s.beginTrial tU).rd Obj.UPD_STATE.f = (if pkgForerunner s.upd.manifest then 6 else 5) ∧
      (s.beginTrial tU).rd Obj.UPD_STATE_ACTIVE_SLOT.f = s.upd.recv ∧ (s.beginTrial tU).rd (Obj.UPD_SLOT_TRIAL.i s.upd.recv) = 1 := by
  obtain ⟨ha, ht, _⟩ := s.nameActive_rd hk true
  have hv : (if pkgForerunner s.upd.manifest then 6 else 5) % 2 ^ 3 = if pkgForerunner s.upd.manifest then 6 else 5 := by split <;> rfl
  generalize hn : s.nameActive s.upd.recv true = n at ha ht
  have he (g : Fld) : (s.beginTrial tU).rd g = (n.wrs [(Obj.UPD_SLOT_ACTIVATED.i s.upd.recv, tU),
      (Obj.UPD_STATE.f, if pkgForerunner s.upd.manifest then 6 else 5)]).rd g := by rw [← hn]; rfl
  have e1 : (Obj.UPD_SLOT_ACTIVATED.i s.upd.recv).key = 4720896 + 512 * s.upd.recv := Row.i_key (st := 0x40) rfl rfl _
  have e2 : (Obj.UPD_STATE_ACTIVE_SLOT.f).key = 4718595 := rfl
  have e3 : (Obj.UPD_STATE.f).key = 4718592 := rfl
  refine ⟨(he _).trans ((State.rd_wr_self _ _ _).trans hv), (he _).trans (Eq.trans ?_ ha), (he _).trans (Eq.trans ?_ ht)⟩
  · exact (State.rd_wr_ne _ _ _ _ (show (Obj.UPD_STATE.f).key ≠ _ by omega)).trans
      (State.rd_wr_ne _ _ _ _ (show (Obj.UPD_SLOT_ACTIVATED.i s.upd.recv).key ≠ _ by omega))
  · exact (State.rd_wr_ne _ _ _ _ (show (Obj.UPD_STATE.f).key ≠ _ by rw [updTrial_key]; omega)).trans
      (State.rd_wr_ne _ _ _ _ (show (Obj.UPD_SLOT_ACTIVATED.i s.upd.recv).key ≠ _ by rw [updTrial_key]; omega))

theorem State.beginTrial_upd (s : State) (tU : Nat) : (s.beginTrial tU).upd = { s.upd with
    owner := none, lastOwner := s.upd.owner, activateAt := none, back := false, switched := [], wasReset := false,
    deadline := if pkgForerunner s.upd.manifest then none else some (s.rd Obj.EVR_OP_SECONDS.f + s.upd.limit) } := by
  unfold State.beginTrial
  dsimp only
  rw [State.wrs_eq (s.nameActive _ _), s.nameActive_rest]

theorem State.beginTrial_rest (s : State) (tU : Nat) :
    s.beginTrial tU = { s with upd := (s.beginTrial tU).upd, regs := (s.beginTrial tU).regs } := by
  unfold State.beginTrial
  dsimp only
  rw [State.wrs_eq (s.nameActive _ _), s.nameActive_rest]

theorem State.goStep_low (s : State) (k : Nat) : ∃ a b c,
    (s.goStep k).KeepsLow { s with upd := { s.upd with step := a, stepAt := b, resetAt := c } } := by
  unfold State.goStep
  split
  · exact ⟨0, s.upd.stepAt, s.upd.resetAt, .finish (.refl _)⟩
  · split
    · exact ⟨0, s.upd.stepAt, some (s.floorTime + 1000000000), .finish (.refl _)⟩
    · exact ⟨k, s.floorTime, s.upd.resetAt, .refl _⟩

theorem State.goStep_part {s : State} {k : Nat} {p : PkgPart} (h : s.stepPart k = some p) (hp : p.id ≠ 2) :
    s.goStep k = { s with upd := { s.upd with step := k, stepAt := s.floorTime } } := by
  unfold State.goStep
  rw [h]
  exact if_neg hp

/-! ### Falling back -/

theorem State.failAdjournment_facts (s : State) : ∃ r, s.failAdjournment.upd = { s.upd with records := r } ∧
    s.evr.pend <+: s.failAdjournment.evr.pend ∧ Talked s s.failAdjournment ∧ s.failAdjournment.floorTime = s.floorTime ∧
    ∀ g : Fld, updFld g = true → g.key ≠ (Obj.UPD_EVT_REFUSED.f).key → s.failAdjournment.rd g = s.rd g := by
  unfold State.failAdjournment
  dsimp only
  generalize s.adjRecord _ = r
  generalize field (s.fwSlot s.upd.recv).build 0 8 = h
  generalize hold : (if s.rd (Obj.UPD_ADJREC_HASH.i r) = h then s.rd (Obj.UPD_ADJREC_FAILS.i r) else 0) = old
  generalize hl : [(Obj.UPD_ADJREC_HASH.i r, h), (Obj.UPD_ADJREC_FAILS.i r, min 3 (old + 1)), (Obj.UPD_ADJREC_REFUSED.i r, b2n (decide (1 ≤ old))),
     (Obj.UPD_ADJREC_LAST_FAIL.i r, s.rd Obj.EVR_OP_SECONDS.f)] = l
  have hr : ∀ g : Fld, updFld g = true →
      (State.wrs { s with upd := { s.upd with records := s.upd.records.put r s.upd.manifest } } l).rd g = s.rd g := by
    intro g hg
    obtain ⟨_, h2⟩ := of_decide_eq_true hg
    refine State.rd_wrs_ne fun x hx => ?_
    have hb : ∀ {w : Row}, w.base = 0x90200 ∨ w.base = 0x90208 ∨ w.base = 0x9020C → (w.i r).key ≠ g.key := fun {w} hw => by
      have := w.key_base 0 [r]
      change 8 * w.base ≤ (w.i r).key at this
      omega
    subst hl
    simp only [List.mem_cons, List.not_mem_nil, or_false] at hx
    obtain rfl | rfl | rfl | rfl := hx
    · exact hb (.inl rfl)
    · exact hb (.inr (.inl rfl))
    · exact hb (.inr (.inl rfl))
    · exact hb (.inr (.inr rfl))
  have hu := State.wrs_eq { s with upd := { s.upd with records := s.upd.records.put r s.upd.manifest } } l
  generalize hw : State.wrs { s with upd := { s.upd with records := s.upd.records.put r s.upd.manifest } } l = w at hr hu
  refine ⟨s.upd.records.put r s.upd.manifest, ?_⟩
  split
  · have hraised := (w.set1 Obj.UPD_EVT_REFUSED.f).logAll_raised [0, 1] 0x0A07 (le 8 h) false
    have hk : ((w.set1 Obj.UPD_EVT_REFUSED.f).logAll [0, 1] 0x0A07 (le 8 h)).KeepsLow (w.set1 Obj.UPD_EVT_REFUSED.f) := .logAll (.refl _)
    generalize (w.set1 Obj.UPD_EVT_REFUSED.f).logAll [0, 1] 0x0A07 (le 8 h) = z at hraised hk
    refine ⟨hk.upd.trans ?_, ?_, Talked.trans (.of_eq ?_ ?_) hraised.talked, hk.floorTime.trans ?_, fun g hg hne => ?_⟩
    · rw [hu]; rfl
    · have := hraised.pend
      rw [hu] at this
      exact this
    · rw [hu]; rfl
    · rw [hu]; rfl
    · rw [hu]; rfl
    · exact (hk.updFld hg).trans ((State.rd_wr_ne _ _ _ _ hne.symm).trans (hr g hg))
  · refine ⟨?_, ?_, .of_eq ?_ ?_, ?_, fun g hg _ => hr g hg⟩ <;> rw [hu]

/-- The end of a fall-back before its event. -/
def State.settled (s : State) : State :=
  (State.wr { s with upd := { s.upd with back := false, step := 0, switched := [], deadline := none, armedAt := none } } Obj.UPD_STATE.f 0).set1
    Obj.UPD_EVT_FALLBACK.f

theorem State.settled_rest (s : State) : s.settled = { s with upd := s.settled.upd, regs := s.settled.regs } := rfl

theorem State.fellBack_facts (s : State) : s.fellBack.upd.cause = s.upd.cause ∧ s.evr.pend <+: s.fellBack.evr.pend ∧ Talked s s.fellBack := by
  have h := s.settled.logAll_raised [0, 1] 0x0A06 (le 1 s.upd.cause) false
  change Raised 2 _ s.fellBack at h
  have hc : s.settled.upd.cause = s.upd.cause := rfl
  have hr := s.settled_rest
  generalize s.settled = t at h hc hr
  refine ⟨?_, ?_, Talked.trans (.of_eq ?_ ?_) h.talked⟩
  · rw [h.eq]
    exact hc
  · have hp := h.pend
    rw [hr] at hp
    exact hp
  all_goals rw [hr]

/-- The previous slot named, and the state RESETTING. -/
def State.renamed (s : State) : State := (s.nameActive (1 - s.active) false).wr Obj.UPD_STATE.f 7

theorem State.renamed_facts (s : State) : s.renamed = { s with regs := s.renamed.regs } ∧ s.renamed.rd Obj.UPD_STATE.f = 7 ∧
    s.renamed.rd Obj.UPD_STATE_ACTIVE_SLOT.f = 1 - s.active := by
  obtain ⟨ha, _, _⟩ := s.nameActive_rd (k := 1 - s.active) (Nat.sub_le _ _) false
  have he := s.nameActive_rest (1 - s.active) false
  unfold State.renamed
  generalize s.nameActive (1 - s.active) false = n at ha he
  refine ⟨?_, State.rd_wr_self _ _ _, (State.rd_wr_ne _ _ _ _ (by decide)).trans ha⟩
  rw [he]
  rfl

theorem State.resetBack_eq (s : State) : s.resetBack = { s.renamed with upd := { s.renamed.upd with
    back := true, step := 0, switched := [], resetAt := some s.floorTime, deadline := none } } := by
  unfold State.resetBack State.renamed
  dsimp only

theorem State.resetBack_facts (s : State) : s.resetBack.upd = { s.upd with
      back := true, step := 0, switched := [], resetAt := some s.floorTime, deadline := none } ∧ s.resetBack.evr = s.evr ∧
    Talked s s.resetBack ∧ s.resetBack.rd Obj.UPD_STATE.f = 7 ∧ s.resetBack.rd Obj.UPD_STATE_ACTIVE_SLOT.f = 1 - s.active := by
  obtain ⟨hr, h7, ha⟩ := s.renamed_facts
  rw [State.resetBack_eq]
  generalize s.renamed = n at hr h7 ha
  refine ⟨?_, ?_, .of_eq ?_ ?_, (State.rd_upd _ _ _).trans h7, (State.rd_upd _ _ _).trans ha⟩ <;> rw [hr]

/-- A fall-back has its cause, and the activation its end. -/
def State.fallBase (s : State) (cause : Nat) : State :=
  let s0 := (if s.adjourned then s.failAdjournment else s).finish .updActivate (if cause = 3 then St.timeout else St.cancelled) []
  { s0 with upd := { s0.upd with cause := cause } }

theorem State.fallBase_facts (s : State) (cause : Nat) : (s.fallBase cause).upd.cause = cause ∧ s.evr.pend <+: (s.fallBase cause).evr.pend ∧
    Talked s (s.fallBase cause) ∧ (s.fallBase cause).floorTime = s.floorTime ∧ (s.fallBase cause).active = s.active := by
  have h0 : s.evr.pend <+: (if s.adjourned then s.failAdjournment else s).evr.pend ∧ Talked s (if s.adjourned then s.failAdjournment else s) ∧
      (if s.adjourned then s.failAdjournment else s).floorTime = s.floorTime ∧
      (if s.adjourned then s.failAdjournment else s).rd Obj.UPD_STATE_ACTIVE_SLOT.f = s.rd Obj.UPD_STATE_ACTIVE_SLOT.f := by
    obtain ⟨r, hu, hp, ht, hf, hr⟩ := s.failAdjournment_facts
    split
    · exact ⟨hp, ht, hf, hr _ (by decide) (by decide)⟩
    · exact ⟨List.prefix_refl _, .refl s, rfl, rfl⟩
  obtain ⟨hp, ht, hf, hr⟩ := h0
  unfold State.fallBase
  dsimp only
  generalize (if s.adjourned then s.failAdjournment else s) = u at hp ht hf hr
  generalize (if cause = 3 then St.timeout else St.cancelled) = st
  have hk : (u.finish .updActivate st []).KeepsLow u := .finish (.refl _)
  have htf := u.finish_talked .updActivate st []
  generalize u.finish .updActivate st [] = v at hk htf
  refine ⟨rfl, hp.trans hk.pend, ht.trans (htf.trans ?_), hk.floorTime.trans hf, (hk.updFld (by decide)).trans hr⟩
  exact .of_eq rfl rfl

theorem State.fallBack_eq (s : State) (cause : Nat) : s.fallBack cause =
    if s.adjourned || s.upd.wasReset || s.upd.resetAt.isSome || pkgCarries s.upd.manifest 2 then (s.fallBase cause).resetBack
    else match s.upd.switched with
      | [] => ((s.fallBase cause).nameActive (1 - (s.fallBase cause).active) false).fellBack
      | k :: _ => State.wr { s.fallBase cause with upd := { (s.fallBase cause).upd with back := true, step := k, stepAt := s.floorTime } }
          Obj.UPD_STATE.f 7 := rfl

theorem State.fallBack_facts (s : State) (cause : Nat) : (s.fallBack cause).upd.cause = cause ∧
    s.evr.pend <+: (s.fallBack cause).evr.pend ∧ Talked s (s.fallBack cause) := by
  obtain ⟨hc, hp, ht, _, _⟩ := s.fallBase_facts cause
  rw [State.fallBack_eq]
  generalize s.fallBase cause = b at hc hp ht
  split
  · obtain ⟨hu, he, htb, _, _⟩ := b.resetBack_facts
    exact ⟨by rw [hu]; exact hc, by rw [he]; exact hp, ht.trans htb⟩
  · split
    · have hn := b.nameActive_rest (1 - b.active) false
      generalize b.nameActive (1 - b.active) false = n at hn
      obtain ⟨h1, h2, h3⟩ := n.fellBack_facts
      refine ⟨h1.trans (by rw [hn]; exact hc), hp.trans ?_, ht.trans (Talked.trans (.of_eq ?_ ?_) h3)⟩
      · rw [hn] at h2 ⊢
        exact h2
      all_goals rw [hn]
    · exact ⟨hc, hp, ht.trans (.of_eq rfl rfl)⟩

theorem State.fallBack_resets {s : State} (cause : Nat) (h : s.rd Obj.UPD_STATE.f = 6 ∨ s.upd.wasReset = true ∨ pkgCarries s.upd.manifest 2 = true) :
    (s.fallBack cause).rd Obj.UPD_STATE.f = 7 ∧ (s.fallBack cause).upd.resetAt = some s.floorTime ∧
      (s.fallBack cause).rd Obj.UPD_STATE_ACTIVE_SLOT.f = 1 - s.active := by
  obtain ⟨_, _, _, hf, ha⟩ := s.fallBase_facts cause
  have hb : (s.adjourned || s.upd.wasReset || s.upd.resetAt.isSome || pkgCarries s.upd.manifest 2) = true := by
    unfold State.adjourned State.updState
    simp only [Bool.or_eq_true, beq_iff_eq]
    tauto
  rw [State.fallBack_eq, if_pos hb]
  generalize s.fallBase cause = b at hf ha
  obtain ⟨hu, _, _, h7, hs⟩ := b.resetBack_facts
  exact ⟨h7, by rw [hu, hf], hs.trans (by rw [ha])⟩

theorem deadlinePassed_iff (s : State) : s.deadlinePassed = true ↔ Overdue s := by
  unfold State.deadlinePassed Overdue
  rw [Option.any_eq_true]
  simp only [decide_eq_true_eq]

theorem State.judgeDeadline_early {s : State} (h : ¬ Overdue s) : s.judgeDeadline = s := by
  unfold State.judgeDeadline
  rw [if_neg]
  rintro ⟨_, hd⟩
  exact h ((deadlinePassed_iff s).mp hd)

/-! ### Confirmation -/

/-- Key slots are derived: the key store and its fields are all that changes. -/
def Derives (s t : State) : Prop :=
  t = { s with kse := t.kse, regs := t.regs } ∧ ∀ g : Fld, 8 * 0x80000 ≤ g.key → g.key < 2 ^ 40 → t.rd g = s.rd g

theorem Derives.refl (s : State) : Derives s s := ⟨rfl, fun _ _ _ => rfl⟩

theorem Derives.trans {s t u : State} (h : Derives s t) (k : Derives t u) : Derives s u := by
  obtain ⟨he, hr⟩ := h
  obtain ⟨ke, kr⟩ := k
  refine ⟨?_, fun g h1 h2 => (kr g h1 h2).trans (hr g h1 h2)⟩
  rw [ke, he]

theorem Derives.wr (s : State) {f : Fld} (hf : f.key < 8 * 0x80000) (v : Nat) : Derives s (s.wr f v) :=
  ⟨rfl, fun g h1 _ => State.rd_wr_ne _ _ _ _ (by omega)⟩

theorem State.putKey_derives (s : State) {k : Nat} (hk : k < 256) (d : KeySlot) (key : Bytes) : Derives s (s.putKey k d key) := by
  unfold State.putKey
  generalize hx : [(Obj.KSE_SLOT_STATE.i k, d.state), (Obj.KSE_SLOT_USAGE.i k, d.usage), (Obj.KSE_SLOT_KTYPE.i k, d.ktype),
     (Obj.KSE_SLOT_OWNER.i k, d.owner), (Obj.KSE_SLOT_PARENT.i k, d.parent), (Obj.KSE_SLOT_ORIGIN.i k, d.origin),
     (Obj.KSE_SLOT_GEN.i k, d.gen), (Obj.KSE_SLOT_CTR.i k, d.ctr)] = l
  refine ⟨by rw [State.wrs_eq], fun g h1 _ => State.rd_wrs_ne fun x hm => ?_⟩
  have hb {w : Row} {b : Nat} (hd : w.dims = [(256, 0x10)]) (hb : 8 * w.base + w.lo = b) (hl : b ≤ 8 * 0x70000 + 64) : (w.i k).key ≠ g.key := by
    rw [Row.i_key hd hb k]
    omega
  subst hx
  simp only [List.mem_cons, List.not_mem_nil, or_false] at hm
  obtain rfl | rfl | rfl | rfl | rfl | rfl | rfl | rfl := hm <;> exact hb rfl rfl (by decide)

theorem State.deriveRoot_derives (s : State) {k : Nat} (hk : k < 256) (root : Nat) (label : String) (gen ktype usage owner : Nat) :
    Derives s (s.deriveRoot k root label gen ktype usage owner) := by
  unfold State.deriveRoot
  split
  · exact s.putKey_derives hk _ _
  · exact s.putKey_derives hk _ _

theorem State.derivePlatform_derives (s : State) : Derives s s.derivePlatform := by
  have hroots : Derives s (((((s.deriveRoot 0 3 "AXZ-AIK" 0 3 0 0xFF).deriveRoot 1 2 "AXZ-RAK" 0 3 0 0xFF).deriveRoot 2
      (if s.lcy.state = 1 then 0 else 1) "AXZ-DTK" (s.rd Obj.KSE_DTK_GEN.f) 3 0 0xFF).deriveRoot 3 1 "AXZ-KTK" 0 3 2 0xFF).deriveRoot 5 1
      "AXZ-SWK" 0 1 2 0xFF) :=
    ((((s.deriveRoot_derives (by decide) ..).trans (State.deriveRoot_derives _ (by decide) ..)).trans
      (State.deriveRoot_derives _ (by decide) ..)).trans (State.deriveRoot_derives _ (by decide) ..)).trans
      (State.deriveRoot_derives _ (by decide) ..)
  have hempty (l : List Nat) (hl : ∀ k ∈ l, k < 10) : ∀ t : State, Derives t (l.foldl (fun t k => t.emptySlot (6 + k)) t) := by
    induction l with
    | nil => exact .refl
    | cons k l ih =>
      intro t
      have hk := hl k List.mem_cons_self
      exact (t.putKey_derives (by omega) _ _).trans (ih (fun j hj => hl j (List.mem_cons_of_mem k hj)) _)
  unfold State.derivePlatform
  dsimp only
  generalize State.deriveRoot _ _ _ _ _ _ _ _ = r at hroots
  exact (hroots.trans (hempty _ (fun k hk => List.mem_range.mp hk) r)).trans (.wr _ (by decide) _)

/-- The security version raised, and the DTK derived anew where the set asks it. -/
def State.secured (s : State) : State :=
  let k := s.active
  let s1 := (s.wr Obj.UPD_SEC_F.f (max (s.rd Obj.UPD_SEC_F.f) (s.rd (Obj.UPD_SLOT_SEC_MAJOR.i k)))).wr Obj.UPD_SEC_M.f
    (s.rd (Obj.UPD_SLOT_SEC_MINOR.i k))
  if bit (s.fwSlot k).flags 1 then (s1.inc Obj.KSE_DTK_GEN.f).derivePlatform else s1

theorem State.secured_facts (s : State) : s.secured = { s with kse := s.secured.kse, regs := s.secured.regs } ∧
    s.secured.rd Obj.UPD_SEC_F.f = max (s.rd Obj.UPD_SEC_F.f) (s.rd (Obj.UPD_SLOT_SEC_MAJOR.i s.active)) % 2 ^ 7 ∧
    s.secured.rd Obj.UPD_SEC_M.f = s.rd (Obj.UPD_SLOT_SEC_MINOR.i s.active) % 2 ^ 32 := by
  unfold State.secured
  dsimp only
  generalize max (s.rd Obj.UPD_SEC_F.f) (s.rd (Obj.UPD_SLOT_SEC_MAJOR.i s.active)) = v
  generalize s.rd (Obj.UPD_SLOT_SEC_MINOR.i s.active) = w
  have hf : ((s.wr Obj.UPD_SEC_F.f v).wr Obj.UPD_SEC_M.f w).rd Obj.UPD_SEC_F.f = v % 2 ^ 7 :=
    (State.rd_wr_ne _ _ _ _ (by decide)).trans (State.rd_wr_self _ _ _)
  have hm : ((s.wr Obj.UPD_SEC_F.f v).wr Obj.UPD_SEC_M.f w).rd Obj.UPD_SEC_M.f = w % 2 ^ 32 := State.rd_wr_self _ _ _
  have he : (s.wr Obj.UPD_SEC_F.f v).wr Obj.UPD_SEC_M.f w = { s with regs := ((s.wr Obj.UPD_SEC_F.f v).wr Obj.UPD_SEC_M.f w).regs } := rfl
  generalize (s.wr Obj.UPD_SEC_F.f v).wr Obj.UPD_SEC_M.f w = u at hf hm he
  have hd : Derives u (if bit (s.fwSlot s.active).flags 1 then (u.inc Obj.KSE_DTK_GEN.f).derivePlatform else u) := by
    split
    · exact (Derives.wr u (by decide) _).trans (State.derivePlatform_derives _)
    · exact .refl u
  generalize (if bit (s.fwSlot s.active).flags 1 then (u.inc Obj.KSE_DTK_GEN.f).derivePlatform else u) = z at hd
  obtain ⟨hz, hr⟩ := hd
  refine ⟨?_, (hr _ (by decide) (by decide)).trans hf, (hr _ (by decide) (by decide)).trans hm⟩
  rw [hz, he]

/-- What a confirmation changes before its event. -/
def State.confirmBase (s : State) : State :=
  (State.wrs { s.secured with upd := { s.secured.upd with deadline := none, armedAt := none, lastOwner := none, switched := [] } }
    [(Obj.UPD_SLOT_TRIAL.i s.active, 0), (Obj.UPD_STATE.f, 0)]).set1 Obj.UPD_EVT_CONFIRMED.f

theorem State.confirm_eq (s : State) : s.confirm = s.confirmBase.logAll [0, 1] 0x0A05 (le 4 (s.rd (Obj.UPD_SLOT_BUILD_LO.i s.active))) := rfl

theorem State.confirm_facts (s : State) : s.confirm = { s with
      kse := s.confirm.kse, regs := s.confirm.regs, upd := s.confirm.upd, evr := s.confirm.evr } ∧
    s.confirm.rd Obj.UPD_STATE.f = 0 ∧ s.confirm.upd.deadline = none ∧ s.confirm.rd (Obj.UPD_SLOT_TRIAL.i s.active) = 0 ∧
    s.confirm.rd Obj.UPD_SEC_M.f = s.rd (Obj.UPD_SLOT_SEC_MINOR.i s.active) % 2 ^ 32 ∧
    s.confirm.rd Obj.UPD_SEC_F.f = max (s.rd Obj.UPD_SEC_F.f) (s.rd (Obj.UPD_SLOT_SEC_MAJOR.i s.active)) % 2 ^ 7 ∧
    s.confirm.rd Obj.UPD_EVT_CONFIRMED.f = 1 := by
  obtain ⟨he, hf, hm⟩ := s.secured_facts
  rw [State.confirm_eq]
  have hl := s.confirmBase.logAll_raised [0, 1] 0x0A05 (le 4 (s.rd (Obj.UPD_SLOT_BUILD_LO.i s.active))) false
  generalize s.confirmBase.logAll [0, 1] 0x0A05 (le 4 (s.rd (Obj.UPD_SLOT_BUILD_LO.i s.active))) = t at hl
  unfold State.confirmBase at hl
  generalize s.secured = u at he hf hm hl
  generalize hv : ({ u with upd := { u.upd with deadline := none, armedAt := none, lastOwner := none, switched := [] } } : State) = v at hl
  have hvr (g : Fld) : v.rd g = u.rd g := by rw [← hv]; rfl
  have e1 : (Obj.UPD_STATE.f).key = 4718592 := rfl
  have e2 : (Obj.UPD_EVT_CONFIRMED.f).key = 4719010 := rfl
  have e3 : (Obj.UPD_SEC_F.f).key = 4718816 := rfl
  have e4 : (Obj.UPD_SEC_M.f).key = 4718848 := rfl
  have hk := updTrial_key s.active
  have hsec {g : Fld} (hu : unlogged g = true) (h1 : (Obj.UPD_STATE.f).key ≠ g.key) (h2 : (Obj.UPD_EVT_CONFIRMED.f).key ≠ g.key)
      (h3 : g.key < 4720641) : t.rd g = u.rd g := by
    refine (hl.rd g hu).trans ((State.rd_wr_ne _ _ _ _ h2).trans ?_)
    exact (State.rd_wr_ne _ _ _ _ h1).trans ((State.rd_wr_ne _ _ _ _ (show (Obj.UPD_SLOT_TRIAL.i s.active).key ≠ _ by omega)).trans (hvr g))
  refine ⟨?_, ?_, ?_, ?_, ?_, ?_, ?_⟩
  · rw [hl.eq, ← hv, he]
    rfl
  · exact (hl.rd _ (by decide)).trans ((State.rd_wr_ne _ _ _ _ (by decide)).trans (State.rd_wr_self _ _ _))
  · rw [hl.eq, ← hv]
    rfl
  · refine (hl.rd _ (updTrial_unlogged _)).trans ((State.rd_wr_ne _ _ _ _ (by omega)).trans ?_)
    exact (State.rd_wr_ne _ _ _ _ (show (Obj.UPD_STATE.f).key ≠ _ by omega)).trans (State.rd_wr_self _ _ _)
  · exact (hsec (by decide) (by decide) (by decide) (by decide)).trans hm
  · exact (hsec (by decide) (by decide) (by decide) (by decide)).trans hf
  · exact (hl.rd _ (by decide)).trans (State.rd_wr_self _ _ _)

end Sys2Proof.Machine
end

section
namespace Sys2Proof.Machine
open Sys2Proof.Claims

/-! ### What the instants of an update leave -/

theorem State.describe_valid {k : Nat} (hk : k ≤ 1) (s : State) (x : FwSlot) (fmt major minor : Nat) :
    (s.describe k x fmt major minor).rd (Obj.UPD_SLOT_VALID.i k) = 1 := by
  unfold State.describe
  dsimp only
  obtain rfl | rfl := slot_cases hk
  all_goals
    simp (disch := decide) only [State.wrs, List.foldl_cons, List.foldl_nil, State.rd_wr_ne, State.rd_wr_self]
    rfl

theorem updValid_low {k : Nat} (hk : k ≤ 1) : (Obj.UPD_SLOT_VALID.i k).key < 8 * 0x100000 ∧ logKey (Obj.UPD_SLOT_VALID.i k).key = false ∧
    (Obj.UPD_STATE.f).key ≠ (Obj.UPD_SLOT_VALID.i k).key ∧ (Obj.UPD_BUILD_LO.f).key ≠ (Obj.UPD_SLOT_VALID.i k).key := by
  obtain rfl | rfl := slot_cases hk <;> decide

theorem verifyFail_missing {s : State} (h : s.rd Obj.UPD_BLOCKS_MISSING.f ≠ 0) : s.verifyFail = some (.check 0x0A31) := by
  unfold State.verifyFail
  exact if_pos h

theorem updVerifyDone_fails {s : State} (h : s.rd Obj.UPD_STATE.f = 2) {st : Nat} {p : Bytes} (hf : s.verifyFail = some (.fail st p)) :
    (updVerifyDone s).rd Obj.UPD_STATE.f = 1 ∧
      ∀ k, k ≤ 1 → (updVerifyDone s).rd (Obj.UPD_SLOT_VALID.i k) = s.rd (Obj.UPD_SLOT_VALID.i k) := by
  have hd : ((s.wr Obj.UPD_STATE.f 1).finish .updVerify st p).KeepsLow (s.wr Obj.UPD_STATE.f 1) := .finish (.refl _)
  have h' : s.updState = 2 := h
  have he : updVerifyDone s = (s.wr Obj.UPD_STATE.f 1).finish .updVerify st p := by
    unfold updVerifyDone
    rw [if_neg (not_not.mpr h'), hf]
  rw [he]
  refine ⟨(hd.updFld (by decide)).trans (State.rd_wr_self _ _ _), fun k hk => ?_⟩
  obtain ⟨h1, h2, h3, _⟩ := updValid_low hk
  exact (hd.low _ h1 h2).trans (State.rd_wr_ne _ _ _ _ h3)

theorem updVerifyDone_verifies {s : State} (h : s.rd Obj.UPD_STATE.f = 2) (hr : s.upd.recv ≤ 1) (hf : s.verifyFail = none) :
    (updVerifyDone s).rd Obj.UPD_STATE.f = 3 ∧ (updVerifyDone s).rd (Obj.UPD_SLOT_VALID.i s.upd.recv) = 1 ∧
      (updVerifyDone s).rd Obj.UPD_BUILD_LO.f = field s.buildHash 0 4 := by
  have h' : s.updState = 2 := h
  obtain ⟨fmt, x, he⟩ : ∃ fmt x, updVerifyDone s =
      ((((s.describe s.upd.recv x fmt (pkgMajor s.upd.manifest) (pkgMinor s.upd.manifest)).wrs
        [(Obj.UPD_STATE.f, 3), (Obj.UPD_BUILD_LO.f, field s.buildHash 0 4)]).logAll [0, 1] 0x0A03 (le 4 (field s.buildHash 0 4))).finish
        .updVerify St.ok s.buildHash) := by
    refine ⟨if pkgCarries s.upd.manifest 2 then pkgFormat s.upd.manifest else s.rd (Obj.UPD_SLOT_SETTINGS_FMT.i s.active),
      { build := s.buildHash, flags := pkgFlags s.upd.manifest,
        parts := [2, 3, 4, 5, 6].map fun id => (id, s.setAfter s.upd.manifest (pkgCount s.upd.manifest) id) }, ?_⟩
    unfold updVerifyDone
    rw [if_neg (not_not.mpr h'), hf]
  have hv := s.describe_valid hr x fmt (pkgMajor s.upd.manifest) (pkgMinor s.upd.manifest)
  have hlt := field_lt s.buildHash 0 4
  obtain ⟨h1, h2, h3, h4⟩ := updValid_low hr
  rw [he]
  generalize s.describe s.upd.recv x fmt _ _ = d at hv
  generalize field s.buildHash 0 4 = lo at hlt
  have hk : (((d.wrs [(Obj.UPD_STATE.f, 3), (Obj.UPD_BUILD_LO.f, lo)]).logAll [0, 1] 0x0A03 (le 4 lo)).finish .updVerify St.ok s.buildHash).KeepsLow
    (d.wrs [(Obj.UPD_STATE.f, 3), (Obj.UPD_BUILD_LO.f, lo)]) := .finish (.logAll (.refl _))
  refine ⟨(hk.updFld (by decide)).trans ?_, (hk.low _ h1 h2).trans ?_, (hk.updFld (by decide)).trans ?_⟩
  · exact (State.rd_wr_ne (d.wr Obj.UPD_STATE.f 3) Obj.UPD_BUILD_LO.f Obj.UPD_STATE.f lo (by decide)).trans (State.rd_wr_self _ _ _)
  · exact (State.rd_wr_ne _ _ _ _ h4).trans ((State.rd_wr_ne _ _ _ _ h3).trans hv)
  · exact (State.rd_wr_self (d.wr Obj.UPD_STATE.f 3) Obj.UPD_BUILD_LO.f lo).trans (Nat.mod_eq_of_lt hlt)

theorem updActivation_begins {s : State} {tU : Nat} (ha : s.upd.activateAt = some tU) (ht : tU ≤ s.floorTime) (hr : s.upd.recv ≤ 1) :
    let t := updActivation s
    t.rd Obj.UPD_STATE.f = (if pkgForerunner s.upd.manifest then 6 else 5) ∧ t.rd Obj.UPD_STATE_ACTIVE_SLOT.f = s.upd.recv ∧
    t.rd (Obj.UPD_SLOT_TRIAL.i s.upd.recv) = 1 ∧ t.upd.owner = none ∧ t.upd.lastOwner = s.upd.owner ∧ t.upd.activateAt = none ∧
    ∀ p, s.stepPart 1 = some p → p.id ≠ 2 → t.upd.step = 1 ∧ t.upd.stepAt = s.floorTime := by
  have he : updActivation s = (s.beginTrial tU).goStep 1 := by
    unfold updActivation
    rw [ha]
    exact if_pos ht
  obtain ⟨h1, h2, h3⟩ := State.beginTrial_facts hr tU
  have hu := s.beginTrial_upd tU
  have hf : (s.beginTrial tU).floorTime = s.floorTime := by
    unfold State.beginTrial
    dsimp only
    rw [State.wrs_eq (s.nameActive _ _), s.nameActive_rest]
  have hsp : (s.beginTrial tU).stepPart 1 = s.stepPart 1 := by
    unfold State.stepPart
    rw [hu]
  rw [he]
  generalize s.beginTrial tU = b at h1 h2 h3 hu hf hsp
  obtain ⟨x, y, z, hk⟩ := b.goStep_low 1
  have hku := hk.upd
  refine ⟨(hk.updFld (by decide)).trans h1, (hk.updFld (by decide)).trans h2, (hk.low _ ?_ ?_).trans h3, ?_, ?_, ?_, fun p hp h2 => ?_⟩
  · rw [updTrial_key]
    omega
  · exact (unlogged_iff _).mp (updTrial_unlogged _)
  · rw [hku]
    exact congrArg Upd.owner hu
  · rw [hku]
    exact congrArg Upd.lastOwner hu
  · rw [hku]
    exact congrArg Upd.activateAt hu
  · rw [State.goStep_part (hsp.trans hp) h2]
    exact ⟨rfl, hf⟩

theorem State.switchEffect_low (s : State) (id : Nat) : (s.switchEffect id).KeepsLow s := by
  unfold State.switchEffect
  refine .ite (.wr (.rest (.refl s))) (.ite (.foldl (.refl s) fun t c ht => ?_) (.refl s))
  exact .emit (.detach (.dropConn ht))

theorem State.switchEffect_facts (s : State) (id : Nat) : (s.switchEffect id).evr = s.evr ∧
    ∀ g : Fld, (Obj.MAE_WAVE_STATE.f).key ≠ g.key → (s.switchEffect id).rd g = s.rd g := by
  have hclose (l : List Conn) : ∀ t : State, (l.foldl (fun t c => t.closeConn c.id s.floorTime) t).evr = t.evr ∧
      (l.foldl (fun t c => t.closeConn c.id s.floorTime) t).regs = t.regs := by
    induction l with
    | nil => exact fun t => ⟨rfl, rfl⟩
    | cons c l ih =>
      intro t
      obtain ⟨h1, h2⟩ := ih (t.closeConn c.id s.floorTime)
      exact ⟨h1, h2⟩
  unfold State.switchEffect
  split
  · exact ⟨rfl, fun g hg => State.rd_wr_ne _ _ _ _ hg⟩
  · split
    · obtain ⟨h1, h2⟩ := hclose (s.conns.filter fun c => ! c.usb) s
      exact ⟨h1, fun g _ => State.rd_congr h2 g⟩
    · exact ⟨rfl, fun _ _ => rfl⟩

theorem updStepDone_switches {s : State} {p : PkgPart} (h0 : s.upd.step ≠ 0) (hp : s.stepPart s.upd.step = some p) (hb : s.upd.back = false) :
    let t := updStepDone p.part.version s
    t.runs p.id = p.part ∧ t.upd.switched = s.upd.step :: s.upd.switched ∧
      Logged s t 0 0x0A04 (le 1 p.id ++ le 1 1 ++ le 2 p.part.version) := by
  have hord : p.order = s.upd.step := by simpa using List.find?_some hp
  have he : updStepDone p.part.version s = (fun s1 : State => ({ s1 with upd := { s1.upd with switched := p.order :: s1.upd.switched } } : State).goStep
      (p.order + 1)) (({ s with upd := { s.upd with running := s.upd.running.put p.id p.part } }.switchEffect p.id).logAll [0, 1] 0x0A04
        (le 1 p.id ++ le 1 1 ++ le 2 p.part.version)) := by
    unfold updStepDone
    rw [hp]
    dsimp only
    rw [hb, if_neg Bool.false_ne_true, if_neg (by simp [h0]), if_neg Bool.false_ne_true]
  rw [he]
  generalize hw : ({ s with upd := { s.upd with running := s.upd.running.put p.id p.part } } : State) = w
  have hwe : w.evr = s.evr := by rw [← hw]
  have hwf : w.failed 10 = s.failed 10 := by rw [← hw]; rfl
  have hwu : w.upd = { s.upd with running := s.upd.running.put p.id p.part } := by rw [← hw]
  have hsw := w.switchEffect_low p.id
  obtain ⟨hev, hrd⟩ := w.switchEffect_facts p.id
  generalize w.switchEffect p.id = e at hsw hev hrd
  have hpend : e.evr.pend = s.evr.pend := by rw [hev, hwe]
  have hef : e.failed 10 = s.failed 10 := Eq.trans (by unfold State.failed; rw [hrd _ (by decide)]) hwf
  obtain ⟨hlg, _⟩ := logged_logAll (s := s) (a := e) (trigger := 0x0A04) (d := le 1 p.id ++ le 1 1 ++ le 2 p.part.version) hef
    (by rw [hpend]) (by rw [hpend]; omega)
  have hlk : (e.logAll [0, 1] 0x0A04 (le 1 p.id ++ le 1 1 ++ le 2 p.part.version)).KeepsLow e := .logAll (.refl _)
  generalize e.logAll [0, 1] 0x0A04 (le 1 p.id ++ le 1 1 ++ le 2 p.part.version) = v at hlg hlk
  have hvu : v.upd = { s.upd with running := s.upd.running.put p.id p.part } := hlk.upd.trans (hsw.upd.trans hwu)
  dsimp only
  generalize hy : ({ v with upd := { v.upd with switched := p.order :: v.upd.switched } } : State) = y
  have hye : v.evr.pend = y.evr.pend := by rw [← hy]
  have hyu : y.upd = { s.upd with running := s.upd.running.put p.id p.part, switched := s.upd.step :: s.upd.switched } := by
    rw [← hy, hvu, hord]
  obtain ⟨a, b, c, hk⟩ := y.goStep_low (p.order + 1)
  have hku := hk.upd
  refine ⟨?_, ?_, hlg.of_prefix (hye ▸ hk.pend)⟩
  · unfold State.runs
    rw [hku]
    show y.upd.running.get {} p.id = p.part
    rw [hyu]
    exact Tab.get_put_self ..
  · rw [hku]
    show y.upd.switched = _
    rw [hyu]

theorem updStepDone_other {s : State} {p : PkgPart} (hp : s.stepPart s.upd.step = some p) (hb : s.upd.back = false) {v : Nat}
    (hv : v ≠ p.part.version) : updStepDone v s = s := by
  unfold updStepDone
  rw [hp]
  dsimp only
  rw [hb, if_neg Bool.false_ne_true]
  exact if_pos (.inr hv)

theorem updStepTimeout_falls {s : State} {p : PkgPart} (h0 : s.upd.step ≠ 0) (hp : s.stepPart s.upd.step = some p) (hb : s.upd.back = false)
    (ht : s.upd.stepAt + stepLimit p.id ≤ s.floorTime) : (updStepTimeout s).upd.cause = 3 ∧
      Logged s (updStepTimeout s) 0 0x0A04 (le 1 p.id ++ le 1 0 ++ le 2 p.part.version) := by
  have he : updStepTimeout s = (s.logAll [0, 1] 0x0A04 (le 1 p.id ++ le 1 0 ++ le 2 p.part.version)).fallBack 3 := by
    unfold updStepTimeout
    rw [hp]
    dsimp only
    rw [if_neg (by omega), hb, if_neg Bool.false_ne_true]
  obtain ⟨hlg, _⟩ := logged_logAll (s := s) (a := s) (trigger := 0x0A04) (d := le 1 p.id ++ le 1 0 ++ le 2 p.part.version) rfl
    (List.prefix_refl _) (by omega)
  rw [he]
  generalize s.logAll [0, 1] 0x0A04 (le 1 p.id ++ le 1 0 ++ le 2 p.part.version) = v at hlg
  obtain ⟨hc, hpe, _⟩ := v.fallBack_facts 3
  exact ⟨hc, hlg.of_prefix hpe⟩

theorem updStepTimeout_early {s : State} {p : PkgPart} (hp : s.stepPart s.upd.step = some p) (ht : s.floorTime < s.upd.stepAt + stepLimit p.id) :
    updStepTimeout s = s := by
  unfold updStepTimeout
  rw [hp]
  exact if_pos (.inr ht)

/-! ### The sealed move -/

theorem State.sealedMove_closed {s : State} (hd : ¬ Overdue s) (h : s.rd Obj.UPD_STATE.f ≠ 6) (v : Nat) : (s.sealedMove v).1 = s := by
  unfold State.sealedMove
  rw [State.judgeDeadline_early hd]
  dsimp only
  rw [if_pos]
  simpa [State.adjourned, State.updState] using h

/-- A sealed move that may be made. -/
theorem State.sealedMove_open {s : State} (hd : ¬ Overdue s) (h : s.rd Obj.UPD_STATE.f = 6) (ht : s.sealTimeOk = true) (hp : s.sealPliesOk = true)
    (v : Nat) : (s.sealedMove v).1 =
      if (s.upd.armedAt.any fun t => decide (s.floorTime ≤ t + 10000000)) && v == 2 ^ 32 - 1 - field (s.fwSlot s.active).build 0 4 then
        s.confirm.logAll [0, 1] 0x0A08 (le 4 (field (s.fwSlot s.active).build 0 4))
      else if v = field (s.fwSlot s.active).build 0 4 then { s with upd := { s.upd with armedAt := some s.floorTime } }
      else State.inc { s with upd := { s.upd with armedAt := none } } Obj.UPD_SEAL_BAD.f := by
  have ha : s.adjourned = true := by
    unfold State.adjourned State.updState
    rw [h]
    rfl
  unfold State.sealedMove
  rw [State.judgeDeadline_early hd]
  dsimp only
  rw [ha, ht, hp]
  simp only [Bool.not_true, Bool.false_eq_true, if_false, Bool.and_self]
  split
  · rfl
  · split <;> rfl

theorem armed_iff (s : State) : (s.upd.armedAt.any fun t => decide (s.floorTime ≤ t + 10000000)) = true ↔
    ∃ u, s.upd.armedAt = some u ∧ s.floorTime ≤ u + 10000000 := by
  rw [Option.any_eq_true]
  simp only [decide_eq_true_eq]

end Sys2Proof.Machine
end

section
namespace Sys2Proof.Proofs
open Sys2Proof.Machine Sys2Proof.Claims

/-! ### O30: verification, activation, the sealed move and recovery -/

theorem updOwnerTimeout_clause {a : State} (ho : a.upd.owner ≠ none) :
    (a.upd.lastCmd + 600000000000 ≤ a.floorTime → (updOwnerTimeout a).upd.owner = none ∧ (updOwnerTimeout a).upd.manifest = a.upd.manifest ∧
      (updOwnerTimeout a).rd Obj.UPD_STATE.f = 0) ∧
    (a.floorTime < a.upd.lastCmd + 600000000000 → updOwnerTimeout a = a) := by
  unfold updOwnerTimeout
  refine ⟨fun h => ?_, fun h => if_neg fun hc => absurd hc.2 (by omega)⟩
  rw [if_pos ⟨Option.isSome_iff_ne_none.mpr ho, h⟩]
  obtain ⟨h0, hu⟩ := a.updAbort_facts 3 false
  rw [if_neg Bool.false_ne_true] at hu
  exact ⟨by rw [hu], by rw [hu], h0⟩

theorem updVerifyDone_clause {a : State} (h : a.rd Obj.UPD_STATE.f = 2) (hr : a.upd.recv ≤ 1) :
    (a.rd Obj.UPD_BLOCKS_MISSING.f ≠ 0 → (updVerifyDone a).rd Obj.UPD_STATE.f = 1) ∧
    (∀ st p, a.verifyFail = some (.fail st p) → (updVerifyDone a).rd Obj.UPD_STATE.f = 1 ∧
      ∀ k, k ≤ 1 → (updVerifyDone a).rd (Obj.UPD_SLOT_VALID.i k) = a.rd (Obj.UPD_SLOT_VALID.i k)) ∧
    (a.verifyFail = none → (updVerifyDone a).rd Obj.UPD_STATE.f = 3 ∧ (updVerifyDone a).rd (Obj.UPD_SLOT_VALID.i a.upd.recv) = 1 ∧
      (updVerifyDone a).rd Obj.UPD_BUILD_LO.f = field a.buildHash 0 4) :=
  ⟨fun hm => (updVerifyDone_fails h (verifyFail_missing hm)).1, fun _ _ hf => updVerifyDone_fails h hf, updVerifyDone_verifies h hr⟩

theorem trialExpiry_clause {a : State} (h : a.rd Obj.UPD_STATE.f = 5) :
    (Overdue a → (trialExpiry a).upd.cause = 1) ∧ (¬ Overdue a → trialExpiry a = a) := by
  unfold trialExpiry
  refine ⟨fun hd => ?_, fun hd => if_neg fun hc => hd ((deadlinePassed_iff a).mp hc.2)⟩
  rw [if_pos ⟨h, (deadlinePassed_iff a).mpr hd⟩]
  exact (a.fallBack_facts 1).1

theorem adjourned_of {a : State} (h : a.rd Obj.UPD_STATE.f = 6) : a.adjourned = true := beq_iff_eq.mpr h

theorem adjournExpiry_clause {a : State} (h : a.rd Obj.UPD_STATE.f = 6) :
    (Overdue a → (adjournExpiry a).upd.cause = 1 ∧ (adjournExpiry a).rd Obj.UPD_STATE.f = 7 ∧
      (adjournExpiry a).upd.resetAt = some a.floorTime) ∧
    (¬ Overdue a → adjournExpiry a = a) := by
  unfold adjournExpiry
  refine ⟨fun hd => ?_, fun hd => if_neg fun hc => hd ((deadlinePassed_iff a).mp hc.2)⟩
  rw [if_pos ⟨adjourned_of h, (deadlinePassed_iff a).mpr hd⟩]
  obtain ⟨h7, hr, _⟩ := State.fallBack_resets (s := a) 1 (.inl h)
  exact ⟨(a.fallBack_facts 1).1, h7, hr⟩

theorem bootResumeTimeout_clause {a : State} (h : a.rd Obj.UPD_STATE.f ∈ [5, 6]) :
    (a.upd.resumed = false → a.upd.bootAt + 300000000000 ≤ a.floorTime → (bootResumeTimeout a).upd.cause = 4) ∧
    (a.upd.resumed = true → bootResumeTimeout a = a) := by
  have hs : a.updState = 5 ∨ a.adjourned = true := by
    simp only [List.mem_cons, List.not_mem_nil, or_false] at h
    exact h.imp id adjourned_of
  unfold bootResumeTimeout
  refine ⟨fun hr ht => ?_, fun hr => if_neg fun hc => ?_⟩
  · rw [if_pos ⟨hs, by rw [hr]; rfl, ht⟩]
    exact (a.fallBack_facts 4).1
  · rw [hr] at hc
    exact absurd hc.2.1 (by decide)

theorem sealedMove_clause {a : State} (hd : ¬ Overdue a) (v : Nat) :
    (a.rd Obj.UPD_STATE.f ≠ 6 → (a.sealedMove v).1 = a) ∧
    (a.rd Obj.UPD_STATE.f = 6 → a.sealTimeOk = true → a.sealPliesOk = true → let lo := field (a.fwSlot a.active).build 0 4
      let armed : Prop := ∃ u, a.upd.armedAt = some u ∧ a.floorTime ≤ u + 10000000
      (v = lo → (a.sealedMove v).1 = { a with upd := { a.upd with armedAt := some a.floorTime } }) ∧
      (v = 2 ^ 32 - 1 - lo → armed → (a.sealedMove v).1.rd Obj.UPD_STATE.f = 0 ∧
        (a.sealedMove v).1.rd (Obj.UPD_SLOT_TRIAL.i a.active) = 0 ∧ (a.sealedMove v).1.rd Obj.UPD_EVT_CONFIRMED.f = 1) ∧
      (v ≠ lo → ¬ (v = 2 ^ 32 - 1 - lo ∧ armed) → (a.sealedMove v).1.upd.armedAt = none ∧
        OneField a (a.sealedMove v).1 Obj.UPD_SEAL_BAD.f ((a.rd Obj.UPD_SEAL_BAD.f + 1) % 2 ^ 32))) := by
  refine ⟨fun h => State.sealedMove_closed hd h v, fun h ht hp => ?_⟩
  rw [State.sealedMove_open hd h ht hp v]
  have hlt := field_lt (a.fwSlot a.active).build 0 4
  have harm := armed_iff a
  dsimp only
  generalize field (a.fwSlot a.active).build 0 4 = lo at hlt
  generalize (a.upd.armedAt.any fun t => decide (a.floorTime ≤ t + 10000000)) = b at harm
  refine ⟨fun hv => ?_, fun hv ha => ?_, fun hv hn => ?_⟩
  · have hne : (v == 2 ^ 32 - 1 - lo) = false := beq_eq_false_iff_ne.mpr (by omega)
    rw [hne, Bool.and_false, if_neg Bool.false_ne_true, if_pos hv]
  · rw [harm.mpr ha, hv, beq_self_eq_true, Bool.and_self, if_pos rfl]
    obtain ⟨_, h0, _, htr, _, _, hc⟩ := a.confirm_facts
    have hr := a.confirm.logAll_raised [0, 1] 0x0A08 (le 4 lo) false
    exact ⟨(hr.rd _ (by decide)).trans h0, (hr.rd _ (updTrial_unlogged _)).trans htr, (hr.rd _ (by decide)).trans hc⟩
  · rw [if_neg, if_neg hv]
    · exact ⟨rfl, OneField.wr rfl rfl⟩
    · rw [Bool.and_eq_true, beq_iff_eq]
      exact fun ⟨hb, he⟩ => hn ⟨he, harm.mp hb⟩

theorem foldl_heard_le {l : List Session} {m n : Nat} (hm : m ≤ n) (hl : ∀ x ∈ l, x.lastFrame ≤ n) :
    l.foldl (fun m x => max m x.lastFrame) m ≤ n := by
  induction l generalizing m with
  | nil => exact hm
  | cons x l ih => exact ih (Nat.max_le.mpr ⟨hm, hl x List.mem_cons_self⟩) fun y hy => hl y (List.mem_cons_of_mem x hy)

theorem recoveryIdleExit_clause {a : State} (hm : a.mode = 4) (ho : a.upd.owner = none) (hl : a.upd.lastFrame + 1800000000000 ≤ a.floorTime)
    (hx : ∀ x ∈ a.sessions, x.lastFrame + 1800000000000 ≤ a.floorTime) : recoveryIdleExit a = a.beginTransition 3 := by
  have hh : a.sessions.foldl (fun m x => max m x.lastFrame) a.upd.lastFrame ≤ a.floorTime - 1800000000000 :=
    foldl_heard_le (by omega) fun x h => by have := hx x h; omega
  unfold recoveryIdleExit
  exact if_pos ⟨hm, by rw [ho]; rfl, by omega⟩

theorem recoveryBeacon_clause {a : State} (hm : a.mode = 4) : (recoveryBeacon a).regs = a.regs ∧
    ∃ p : Bytes, p.length = 2 ∧ (recoveryBeacon a).sent = a.sent ++ [Out.beacon (a.identity ++ [0xA9, 0xFE] ++ p)] := by
  unfold recoveryBeacon
  rw [if_pos hm]
  refine ⟨rfl, le 2 (Config.freeNat a.free % 65536), rfl, ?_⟩
  have hle : le 4 (0xFEA9 + 65536 * (Config.freeNat a.free % 65536)) = [0xA9, 0xFE] ++ le 2 (Config.freeNat a.free % 65536) := by
    generalize Config.freeNat a.free % 65536 = w
    have h1 : BitVec.ofNat 8 (0xFEA9 + 65536 * w) = 0xA9 := BitVec.eq_of_toNat_eq (by rw [BitVec.toNat_ofNat]; show _ = 0xA9; omega)
    have h2 : BitVec.ofNat 8 ((0xFEA9 + 65536 * w) / 256) = 0xFE := BitVec.eq_of_toNat_eq (by rw [BitVec.toNat_ofNat]; show _ = 0xFE; omega)
    have h3 : (0xFEA9 + 65536 * w) / 256 / 256 = w := by omega
    show BitVec.ofNat 8 _ :: BitVec.ofNat 8 _ :: le 2 _ = _
    rw [h1, h2, h3]
    rfl
  show a.sent ++ [Out.beacon (a.identity ++ le 4 _)] = _
  rw [hle, List.append_assoc]

/-- Settles O30, by the event lemmas above on the state at the event's instant. -/
theorem updateEvents : Obligations.UpdateEvents := by
  intro now s a
  refine ⟨fun ho => ?_, fun h2 hr => ⟨_, rfl, updVerifyDone_clause (a := a) h2 hr⟩, fun tU ha => ⟨fun ht hr => ?_, fun ht => ?_⟩,
    fun p v h0 hp hb => ⟨fun hv => ?_, fun hv => ?_, fun ht => ?_, fun ht => ?_⟩, fun r hr ht => ?_, fun h5 => ?_, fun h6 => ?_, fun h => ?_,
    fun who v hl hc hd => ?_, fun hm => ?_, fun hm ho hl hx => ?_, fun h => ?_⟩
  · obtain ⟨h1, h2⟩ := updOwnerTimeout_clause (a := a) ho
    exact ⟨fun h => ⟨_, rfl, h1 h⟩, fun h => ⟨_, rfl, h2 h⟩⟩
  · exact ⟨_, rfl, updActivation_begins (s := a) ha ht hr⟩
  · refine ⟨_, rfl, ?_⟩
    show updActivation a = a
    unfold updActivation
    rw [show a.upd.activateAt = some tU from ha]
    exact if_neg (by omega)
  · refine ⟨_, rfl, ?_⟩
    rw [hv]
    exact updStepDone_switches (s := a) h0 hp hb
  · exact ⟨_, rfl, updStepDone_other (s := a) hp hb hv⟩
  · exact ⟨_, rfl, updStepTimeout_falls (s := a) h0 hp hb ht⟩
  · exact ⟨_, rfl, updStepTimeout_early (s := a) hp ht⟩
  · refine ⟨_, rfl, ?_⟩
    show updReset a = _
    unfold updReset
    rw [show a.upd.resetAt = some r from hr]
    exact if_pos ht
  · obtain ⟨h1, h2⟩ := trialExpiry_clause (a := a) h5
    exact ⟨fun h => ⟨_, rfl, h1 h⟩, fun h => ⟨_, rfl, h2 h⟩⟩
  · obtain ⟨h1, h2⟩ := adjournExpiry_clause (a := a) h6
    exact ⟨fun h => ⟨_, rfl, h1 h⟩, fun h => ⟨_, rfl, h2 h⟩⟩
  · obtain ⟨h1, h2⟩ := bootResumeTimeout_clause (a := a) h
    exact ⟨fun h ht => ⟨_, rfl, h1 h ht⟩, fun h => ⟨_, rfl, h2 h⟩⟩
  · have he : updSealedMove who v.toNat a = (a.sealedMove v.toNat).1 := by
      unfold updSealedMove
      exact if_pos (by rw [Bool.and_eq_true]; exact ⟨hl, beq_iff_eq.mpr hc⟩)
    obtain ⟨h1, h2⟩ := sealedMove_clause (a := a) hd v.toNat
    refine ⟨fun h => ⟨_, rfl, he.trans (h1 h)⟩, fun h ht hp => ?_⟩
    obtain ⟨k1, k2, k3⟩ := h2 h ht hp
    refine ⟨fun hv => ⟨_, rfl, he.trans (k1 hv)⟩, fun hv harm => ⟨_, rfl, ?_⟩, fun hv hn => ⟨_, rfl, ?_⟩⟩
    · show (updSealedMove who v.toNat a).rd _ = _ ∧ _
      rw [he]
      exact k2 hv harm
    · rw [he]
      exact k3 hv hn
  · exact ⟨_, rfl, recoveryBeacon_clause (a := a) hm⟩
  · exact ⟨_, rfl, recoveryIdleExit_clause (a := a) hm ho hl hx⟩
  · refine ⟨_, rfl, ?_⟩
    show recoveryIdleExit a = a
    unfold recoveryIdleExit
    refine if_neg fun hc => ?_
    rcases h with h | h
    · exact h hc.1
    · exact h (Option.isNone_iff_eq_none.mp hc.2.1)

end Sys2Proof.Proofs
end

section
/-!
SUPPORT. The update commands (spec/17 R404 to R408): a slot that takes a manifest, the bitmap of received units, an abort's answer.
-/
namespace Sys2Proof.Machine
open Sys2Proof.Claims

/-! ### A slot takes a manifest -/

/-- A field that writes of 0 leave: as it was, or 0. -/
theorem State.rd_wrs_zeroed (s : State) (l : List Fld) {g : Fld} (hr : g.reset = 0) :
    (s.wrs (l.map (·, 0))).rd g = s.rd g ∨ (s.wrs (l.map (·, 0))).rd g = 0 := by
  by_cases h : ∃ f ∈ l, f.key = g.key
  · exact .inr (State.rd_wrs_zero hr (.inr h))
  · refine .inl (State.rd_wrs_ne fun p hp hk => h ?_)
    obtain ⟨f, hf, rfl⟩ := List.mem_map.mp hp
    exact ⟨f, hf, hk⟩

/-- An erased slot holds a manifest. -/
def State.hold (s : State) (r : Nat) (m : Bytes) : State :=
  (({ s with upd := { s.upd with recv := r, manifest := m } } : State).wr Obj.UPD_PKG_SIZE.f (pkgSize m)).countMissing

theorem State.hold_facts (s : State) (r : Nat) (m : Bytes) :
    s.hold r m = { s with upd := { s.upd with recv := r, manifest := m }, regs := (s.hold r m).regs } ∧ (s.hold r m).failed 10 = s.failed 10 := by
  unfold State.hold State.countMissing
  generalize List.length _ = n
  refine ⟨rfl, congrArg (bit · 10) ?_⟩
  exact (State.rd_wr_ne _ _ _ _ (by decide)).trans (State.rd_wr_ne _ _ _ _ (by decide))

theorem State.eraseSlot_facts (s : State) (k : Nat) : s.eraseSlot k = { s with upd := (s.eraseSlot k).upd, regs := (s.eraseSlot k).regs } ∧
    (s.failed 10 = false → (s.eraseSlot k).failed 10 = false) := by
  rw [State.eraseSlot_eq]
  refine ⟨by rw [State.wrs_eq], fun hf => ?_⟩
  unfold State.failed at hf ⊢
  rcases State.rd_wrs_zeroed { s with upd := { s.upd with slots := s.upd.slots.del k, manifest := [], data := [] } } (erasedFlds k)
    (g := Obj.PWR_UNIT_FAIL.f) rfl with hz | hz
  · rw [hz]
    exact hf
  · rw [hz]
    rfl

/-- What the receiving of another manifest changes. -/
def State.retake (s : State) (m : Bytes) : State := (s.eraseSlot s.receiving).hold s.receiving m

theorem State.retake_facts (s : State) (m : Bytes) : s.retake m = { s with upd := (s.retake m).upd, regs := (s.retake m).regs } ∧
    (s.retake m).upd.manifest = m ∧ (s.failed 10 = false → (s.retake m).failed 10 = false) := by
  obtain ⟨he, hf⟩ := s.eraseSlot_facts s.receiving
  obtain ⟨hh, hk⟩ := (s.eraseSlot s.receiving).hold_facts s.receiving m
  unfold State.retake
  refine ⟨?_, ?_, fun h => hk.trans (hf h)⟩
  · rw [hh, he]
  · rw [hh]

theorem State.takeManifest_eq (s : State) (m : Bytes) : s.takeManifest m = if s.upd.manifest = m then s else s.retake m := rfl

theorem State.takeManifest_facts (s : State) (m : Bytes) :
    s.takeManifest m = { s with upd := (s.takeManifest m).upd, regs := (s.takeManifest m).regs } ∧
    (s.takeManifest m).upd.manifest = m ∧ (s.failed 10 = false → (s.takeManifest m).failed 10 = false) := by
  rw [State.takeManifest_eq]
  split
  · next h => exact ⟨rfl, h, id⟩
  · exact s.retake_facts m

/-! ### Units received -/

theorem updBitmap_key (w : Nat) : (Obj.UPD_BITMAP.i w).key = 4751360 + 32 * w := Row.i_key (st := 4) rfl rfl w

theorem bit_iff (v n : Nat) : bit v n = v.testBit n := by
  unfold bit
  rw [Nat.testBit_eq_decide_div_mod_eq]
  rfl

theorem bit_mod {v n w : Nat} (h : n < w) : bit (v % 2 ^ w) n = bit v n := by
  rw [bit_iff, bit_iff, Nat.testBit_mod_two_pow, decide_eq_true h, Bool.true_and]

theorem bit_or_pow (v m n : Nat) : bit (v ||| 2 ^ m) n = (bit v n || decide (m = n)) := by
  rw [bit_iff, bit_iff, Nat.testBit_or, Nat.testBit_two_pow]

/-- One unit marked as received. -/
def State.markUnit (s : State) (n : Nat) : State := s.wr (Obj.UPD_BITMAP.i (n / 32)) (s.rd (Obj.UPD_BITMAP.i (n / 32)) ||| 2 ^ (n % 32))

theorem State.markUnit_written (s : State) (n u : Nat) : (s.markUnit n).unitWritten u = (s.unitWritten u || decide (n = u)) := by
  unfold State.unitWritten State.markUnit
  have hu : u % 32 < 32 := Nat.mod_lt _ (by decide)
  by_cases hw : n / 32 = u / 32
  · rw [hw, State.rd_wr_self]
    refine (bit_mod hu).trans ((bit_or_pow _ _ _).trans (congrArg _ (decide_eq_decide.mpr ?_)))
    omega
  · rw [State.rd_wr_ne _ _ _ _ (by rw [updBitmap_key, updBitmap_key]; omega), decide_eq_false (by rintro rfl; exact hw rfl), Bool.or_false]

theorem State.markUnits_facts (s : State) (l : List Nat) : l.foldl State.markUnit s = { s with regs := (l.foldl State.markUnit s).regs } ∧
    ∀ u, (l.foldl State.markUnit s).unitWritten u = (s.unitWritten u || decide (u ∈ l)) := by
  induction l generalizing s with
  | nil => exact ⟨rfl, fun u => by simp⟩
  | cons n l ih =>
    obtain ⟨he, hu⟩ := ih (s := s.markUnit n)
    refine ⟨he.trans rfl, fun u => ?_⟩
    rw [List.foldl_cons, hu, State.markUnit_written]
    simp [Bool.or_assoc, eq_comm]

theorem State.unitWritten_wr {s : State} {f : Fld} (hf : f.key < 4751360) (v u : Nat) : (s.wr f v).unitWritten u = s.unitWritten u := by
  unfold State.unitWritten
  rw [State.rd_wr_ne _ _ _ _ (by rw [updBitmap_key]; omega)]

/-- The units of a block. -/
def blockUnits (off n : Nat) : List Nat := (List.range (unitsOf n)).map fun i => off / 4096 + i

theorem mem_blockUnits {off n u : Nat} (ho : off % 4096 = 0) (h1 : off / 4096 ≤ u) (h2 : 4096 * u < off + n) : u ∈ blockUnits off n := by
  unfold blockUnits unitsOf
  refine List.mem_map.mpr ⟨u - off / 4096, List.mem_range.mpr ?_, ?_⟩ <;> omega

/-- The state and the count of missing units after a block. -/
def State.receivedTo (s : State) (n : Nat) : State := ((s.wr Obj.UPD_STATE.f 1).wr Obj.UPD_BUILD_LO.f 0).wr Obj.UPD_BLOCKS_MISSING.f n

theorem State.receivedTo_facts (s : State) (n : Nat) : s.receivedTo n = { s with regs := (s.receivedTo n).regs } ∧
    (s.receivedTo n).rd Obj.UPD_STATE.f = 1 ∧ ∀ u, (s.receivedTo n).unitWritten u = s.unitWritten u := by
  refine ⟨rfl, ?_, fun u => ?_⟩
  · exact (State.rd_wr_ne _ _ _ _ (by decide)).trans ((State.rd_wr_ne _ _ _ _ (by decide)).trans (State.rd_wr_self _ _ _))
  · exact (State.unitWritten_wr (by decide) _ _).trans ((State.unitWritten_wr (by decide) _ _).trans (State.unitWritten_wr (by decide) _ _))

/-- A block's bytes are kept. -/
def State.keepBlock (s : State) (off : Nat) (data : Bytes) : State := { s with upd := { s.upd with data := memWrite s.upd.data off data } }

theorem State.writeBlock_eq (s : State) (off : Nat) (data : Bytes) : ∃ n,
    s.writeBlock off data = ((blockUnits off data.length).foldl State.markUnit (s.keepBlock off data)).receivedTo n := ⟨_, rfl⟩

theorem State.writeBlock_facts (s : State) (off : Nat) (data : Bytes) (ho : off % 4096 = 0) :
    s.writeBlock off data = { s with regs := (s.writeBlock off data).regs, upd := { s.upd with data := memWrite s.upd.data off data } } ∧
    (s.writeBlock off data).rd Obj.UPD_STATE.f = 1 ∧
    ∀ u, off / 4096 ≤ u → 4096 * u < off + data.length → (s.writeBlock off data).unitWritten u = true := by
  obtain ⟨n, hn⟩ := s.writeBlock_eq off data
  obtain ⟨he, hu⟩ := (s.keepBlock off data).markUnits_facts (blockUnits off data.length)
  obtain ⟨hr, h1, hw⟩ := ((blockUnits off data.length).foldl State.markUnit (s.keepBlock off data)).receivedTo_facts n
  rw [hn]
  refine ⟨?_, h1, fun u hl hh => ?_⟩
  · rw [hr, he]
    rfl
  · rw [hw, hu, decide_eq_true (mem_blockUnits ho hl hh), Bool.or_true]

/-! ### Bits of a byte -/

/-- The number whose bits below `n` are those chosen. -/
theorem testBit_sumPow (p : Nat → Bool) (n : Nat) : ((List.range n).filter p).foldl (fun a j => a + 2 ^ j) 0 < 2 ^ n ∧
    ∀ k, (((List.range n).filter p).foldl (fun a j => a + 2 ^ j) 0).testBit k = (decide (k < n) && p k) := by
  induction n with
  | zero => exact ⟨Nat.zero_lt_one, fun k => by simp⟩
  | succ n ih =>
    obtain ⟨hlt, hb⟩ := ih
    rw [List.range_succ, List.filter_append, List.foldl_append]
    generalize ((List.range n).filter p).foldl (fun a j => a + 2 ^ j) 0 = v at hlt hb
    cases hp : p n with
    | false =>
      rw [List.filter_cons_of_neg (by rw [hp]; decide)]
      refine ⟨Nat.lt_of_lt_of_le hlt (Nat.pow_le_pow_right (by decide) (Nat.le_succ n)), fun k => ?_⟩
      show v.testBit k = _
      rw [hb]
      by_cases hk : k = n
      · subst hk
        simp [hp]
      · rw [decide_eq_decide.mpr (show k < n ↔ k < n + 1 by omega)]
    | true =>
      rw [List.filter_cons_of_pos hp]
      refine ⟨?_, fun k => ?_⟩
      · show v + 2 ^ n < 2 ^ (n + 1)
        rw [Nat.pow_succ]
        omega
      · show (v + 2 ^ n).testBit k = _
        rw [Nat.add_comm]
        rcases Nat.lt_trichotomy k n with hk | hk | hk
        · rw [Nat.testBit_two_pow_add_gt hk, hb, decide_eq_true hk, decide_eq_true (Nat.lt_succ_of_lt hk)]
        · subst hk
          rw [Nat.testBit_two_pow_add_eq, hb]
          simp [hp]
        · rw [Nat.testBit_lt_two_pow (Nat.lt_of_lt_of_le (show 2 ^ n + v < 2 ^ (n + 1) by rw [Nat.pow_succ]; omega)
            (Nat.pow_le_pow_right (by decide) hk)), decide_eq_false (by omega), Bool.false_and]

theorem bitmapBytes_bit (s : State) (first n : Nat) {j : Nat} (hj : j < n) :
    ((s.bitmapBytes first n).getD (j / 8) 0).getLsbD (j % 8) = s.unitWritten (first + j) := by
  have hi : j / 8 < (n + 7) / 8 := by omega
  unfold State.bitmapBytes
  rw [List.getD_eq_getElem?_getD, List.getElem?_map, List.getElem?_range hi]
  show (BitVec.ofNat 8 _).getLsbD (j % 8) = _
  obtain ⟨_, hb⟩ := testBit_sumPow (fun k => decide (8 * (j / 8) + k < n) && s.unitWritten (first + 8 * (j / 8) + k)) 8
  have h8 : j % 8 < 8 := Nat.mod_lt _ (by decide)
  rw [BitVec.getLsbD_ofNat, hb, decide_eq_true h8, Bool.true_and, Bool.true_and, decide_eq_true (by omega), Bool.true_and]
  exact congrArg s.unitWritten (by omega)

/-! ### An abort keeps what has been said -/

theorem State.released_talked (s : State) : Talked s s.released := by
  have h : Talked s (({ s with upd := { s.upd with owner := none, activateAt := none } } : State).wrs
    [(Obj.UPD_STATE.f, 0), (Obj.UPD_BUILD_LO.f, 0)]) := .of_eq rfl rfl
  exact h.trans ((State.finish_talked _ .updVerify St.cancelled []).trans (State.finish_talked _ .updActivate St.cancelled []))

theorem State.eraseSlot_talked (s : State) (k : Nat) : Talked s (s.eraseSlot k) := by
  obtain ⟨he, _⟩ := s.eraseSlot_facts k
  exact .of_eq (by rw [he]) (by rw [he])

theorem State.updAbort_says (s : State) (cause : Nat) (discard : Bool) : Talked s (s.updAbort cause discard) := by
  have h : Talked s (if discard then s.released.eraseSlot s.upd.recv else s.released) := by
    split
    · exact s.released_talked.trans (s.released.eraseSlot_talked _)
    · exact s.released_talked
  exact h.trans (State.logAll_raised _ [0, 1] 0x0A02 (le 1 cause) false).talked

end Sys2Proof.Machine
end

section
namespace Sys2Proof.Machine
open Sys2Proof.Claims

/-! ### What the bodies of the update commands do -/

section
variable {q : Req} {a : State}

/-- A session owns the update from `t` on. -/
def State.own (s : State) (i t : Nat) : State :=
  { s.draw.2 with upd := { s.draw.2.upd with owner := some i, ownerSince := t, lastCmd := t } }

theorem State.own_eq (s : State) (i t : Nat) : s.own i t = { s with
    upd := { s.upd with owner := some i, ownerSince := t, lastCmd := t }, free := s.free + 1 } := rfl

/-- A slot that has taken its manifest, owned by a session. -/
def State.openedBase (a : State) (q : Req) : State := (a.takeManifest q.payload).own q.sid a.floorTime

theorem State.openedBase_facts (a : State) (q : Req) : a.openedBase q = { a with
      upd := (a.openedBase q).upd, regs := (a.openedBase q).regs, free := (a.openedBase q).free } ∧
    (a.openedBase q).upd.owner = some q.sid ∧ (a.openedBase q).upd.lastCmd = a.floorTime ∧ (a.openedBase q).upd.manifest = q.payload ∧
    (a.failed 10 = false → (a.openedBase q).failed 10 = false) := by
  obtain ⟨he, hm, hf⟩ := a.takeManifest_facts q.payload
  unfold State.openedBase
  refine ⟨?_, rfl, rfl, hm, hf⟩
  rw [State.own_eq, he]

theorem updOpen_judged (ho : updOpenTo q a = true) (h9 : a.mode ≠ 9) (hst : a.rd Obj.UPD_STATE.f ∉ [5, 6, 7]) (hown : a.upd.owner = none)
    (hl : 64 ≤ q.payload.length) (hlen : q.payload.length = 64 + 96 * pkgCount q.payload) (hj : a.lcy.jumper = false)
    (hf : a.failed 15 = false) :
    (∀ d, a.openDetail q.payload = some d → updOpen q a = (a, .check d)) ∧
    (a.openDetail q.payload = none → updOpen q a = (((a.openedBase q).wr Obj.UPD_STATE.f 1).logAll [0, 1] 0x0A01 [],
      .ok (le 4 (a.takeManifest q.payload).draw.1 ++ le 4 ((a.openedBase q).rd Obj.UPD_BLOCKS_MISSING.f)))) := by
  simp only [List.mem_cons, List.not_mem_nil, or_false, not_or] at hst
  obtain ⟨h5, h6, h7⟩ := hst
  have hadj : a.adjourned = false := beq_eq_false_iff_ne.mpr h6
  have htr : a.onTrial = false := Bool.or_eq_false_iff.mpr ⟨beq_eq_false_iff_ne.mpr h5, beq_eq_false_iff_ne.mpr h7⟩
  have hlen' : ¬ (q.payload.length < 64 ∨ q.payload.length ≠ 64 + 96 * pkgCount q.payload) := by omega
  unfold updOpen
  rw [ho, hadj, htr, hown, hj, hf, if_neg (by decide), if_neg h9, if_neg (by decide), if_neg (by decide), if_neg hlen', if_neg (by simp),
    if_neg (by decide)]
  refine ⟨fun d hd => ?_, fun hd => ?_⟩
  · rw [hd]
  · rw [hd]
    rfl

theorem State.ownerCheck_none {i : Nat} (h9 : a.mode ≠ 9) (h6 : a.rd Obj.UPD_STATE.f ≠ 6) (hown : a.upd.owner = some i) : a.ownerCheck i = none := by
  have hadj : a.adjourned = false := beq_eq_false_iff_ne.mpr h6
  unfold State.ownerCheck State.ownsUpdate
  rw [if_neg h9, hadj, if_neg (by decide), hown, if_pos (beq_self_eq_true _)]

theorem updBlock_judged (ho : updOpenTo q a = true) (hc : a.ownerCheck q.sid = none) (hst : a.rd Obj.UPD_STATE.f ∉ [2, 4])
    (hl : 8 ≤ q.payload.length) (hlen : q.payload.length = 8 + field q.payload 4 4) (hf : a.failed 15 = false) :
    updBlock q a = if blockOk (field q.payload 0 4) (field q.payload 4 4) (pkgSize a.upd.manifest) then
        (a.touchUpd.writeBlock (field q.payload 0 4) (q.payload.drop 8),
          .ok (le 4 ((a.touchUpd.writeBlock (field q.payload 0 4) (q.payload.drop 8)).rd Obj.UPD_BLOCKS_MISSING.f)))
      else (a.touchUpd, .no St.badValue) := by
  simp only [List.mem_cons, List.not_mem_nil, or_false] at hst
  have hst' : ¬ (a.touchUpd.updState = 2 ∨ a.touchUpd.updState = 4) := hst
  have hf' : a.touchUpd.failed 15 = false := hf
  have hm : a.touchUpd.upd.manifest = a.upd.manifest := rfl
  unfold updBlock
  dsimp only
  rw [ho, hc, if_neg (by decide)]
  dsimp only
  rw [if_neg hst', if_neg (by omega), hf', if_neg (by decide), hm]
  cases blockOk (field q.payload 0 4) (field q.payload 4 4) (pkgSize a.upd.manifest)
  · rw [if_pos (by decide), if_neg (by decide)]
  · rw [if_neg (by decide), if_pos rfl]

/-- The words of a status response. -/
def State.updWords (s : State) : Bytes := (List.range 11).flatMap fun i => le 4 ((s.wordAt 0 (0x90000 + 4 * i)).getD 0)

theorem State.updWords_length (s : State) : s.updWords.length = 44 := by
  unfold State.updWords
  simp [List.length_flatMap, le_length]

theorem updStatus_judged (ho : updOpenTo q a = true) (h9 : a.mode ≠ 9) (hown : a.upd.owner = none ∨ a.upd.owner = some q.sid)
    (hl : q.payload.length = 8) (h0 : 0 < field q.payload 4 4) (hn : field q.payload 0 4 + field q.payload 4 4 ≤ 131072) :
    ∃ u, updStatus q a = ({ a with upd := u }, .ok ((State.updWords { a with upd := u }) ++
      (State.bitmapBytes { a with upd := u } (field q.payload 0 4) (field q.payload 4 4)))) := by
  have hc : ¬ (a.mode = 9 ∨ (a.upd.owner.isSome = true ∧ (! a.ownsUpdate q.sid) = true)) := by
    rintro (h | ⟨h1, h2⟩)
    · exact h9 h
    · rcases hown with hown | hown
      · rw [hown] at h1
        cases h1
      · unfold State.ownsUpdate at h2
        rw [hown, beq_self_eq_true] at h2
        cases h2
  have hv : ¬ (field q.payload 4 4 = 0 ∨ 131072 < field q.payload 4 4 ∨ 131072 < field q.payload 0 4 + field q.payload 4 4) := by omega
  obtain ⟨u, hu⟩ : ∃ u, (if a.ownsUpdate q.sid then a.touchUpd else a) = { a with upd := u } := by
    split
    · exact ⟨_, rfl⟩
    · exact ⟨a.upd, rfl⟩
  refine ⟨u, ?_⟩
  unfold updStatus
  dsimp only
  rw [ho, if_neg (by decide), if_neg hc, hu, if_neg (not_not.mpr hl), if_neg hv]
  rfl

theorem updVerify_judged (ho : updOpenTo q a = true) (hc : a.ownerCheck q.sid = none) (hst : a.rd Obj.UPD_STATE.f ∉ [2, 4])
    (hp : q.payload = []) (hf : a.failed 15 = false) : updVerify q a = (a.touchUpd.wr Obj.UPD_STATE.f 2, .pending .updVerify) := by
  simp only [List.mem_cons, List.not_mem_nil, or_false] at hst
  have hst' : ¬ (a.touchUpd.updState = 2 ∨ a.touchUpd.updState = 4) := hst
  have hf' : a.touchUpd.failed 15 = false := hf
  unfold updVerify
  dsimp only
  rw [ho, hc, if_neg (by decide)]
  dsimp only
  rw [if_neg hst', if_neg (not_not.mpr hp), hf', if_neg (by decide)]

theorem updAbortCmd_judged (ho : updOpenTo q a = true) (h9 : a.mode ≠ 9) (h6 : a.rd Obj.UPD_STATE.f ≠ 6) (hown : a.upd.owner = some q.sid)
    (hlast : a.upd.lastOwner ≠ some q.sid) {b : Bool} (hl : q.payload.length = 4) (hb : field q.payload 0 1 = b2n b) :
    updAbortCmd q a = (a.updAbort 1 b, .ok []) := by
  have hadj : a.adjourned = false := beq_eq_false_iff_ne.mpr h6
  have howns : a.ownsUpdate q.sid = true := by
    unfold State.ownsUpdate
    rw [hown, beq_self_eq_true]
  have hpay : ¬ (q.payload.length ≠ 4 ∨ field q.payload 0 1 > 1) := by
    rw [hb]
    cases b <;> simp [hl, b2n]
  have hbb : (field q.payload 0 1 == 1) = b := by
    rw [hb]
    cases b <;> rfl
  unfold updAbortCmd
  dsimp only
  rw [ho, howns, hadj, beq_eq_false_iff_ne.mpr hlast, hbb]
  rw [if_neg (by decide), if_neg h9, if_neg (by simp), if_neg (by decide), if_neg (by simp), if_neg hpay, if_neg (by simp)]
  rfl

/-- The owner's update state with the limit of an activation. -/
def State.limited (a : State) (limit : Nat) : State := { a.touchUpd with upd := { a.touchUpd.upd with limit := limit } }

theorem updActivate_judged (ho : updOpenTo q a = true) (hc : a.ownerCheck q.sid = none) (hl : q.payload.length = 16)
    (hf : a.failed 15 = false) (h3 : a.rd Obj.UPD_STATE.f = 3) (hcl : a.castlings = []) (h60 : 60 ≤ field q.payload 8 4)
    (h86 : field q.payload 8 4 ≤ 86400) :
    (a.mode ≠ 4 → pkgForerunner a.upd.manifest = false → field q.payload 0 8 % 1000000 = 0 → a.floorTime + 1000000000 ≤ field q.payload 0 8 →
      field q.payload 0 8 ≤ a.floorTime + 86400000000000 → updActivate q a =
        (State.wr { a.limited (field q.payload 8 4) with upd := { (a.limited (field q.payload 8 4)).upd with activateAt := some (field q.payload 0 8) } }
          Obj.UPD_STATE.f 4, .pending .updActivate)) ∧
    (a.mode = 4 ∨ pkgForerunner a.upd.manifest = true → field q.payload 0 8 = 0 → updActivate q a =
      ({ (a.limited (field q.payload 8 4)).beginTrial a.floorTime with upd :=
          { ((a.limited (field q.payload 8 4)).beginTrial a.floorTime).upd with resetAt := some a.floorTime } }, .ok (le 8 a.floorTime))) := by
  have hf' : a.touchUpd.failed 15 = false := hf
  have h3' : a.touchUpd.updState = 3 := h3
  have hcl' : ¬ (! a.touchUpd.castlings.isEmpty) = true := by
    rw [show a.touchUpd.castlings = [] from hcl]
    decide
  have hft : a.touchUpd.floorTime = a.floorTime := rfl
  refine ⟨fun h4 hfr hm h1 h2 => ?_, fun hor h0 => ?_⟩
  · have hat : (decide (a.mode = 4) || pkgForerunner a.upd.manifest) = false := by rw [decide_eq_false h4, hfr]; rfl
    have hv : ¬ (field q.payload 8 4 < 60 ∨ 86400 < field q.payload 8 4 ∨ if false = true then field q.payload 0 8 ≠ 0 else
        field q.payload 0 8 % 1000000 ≠ 0 ∨ field q.payload 0 8 < a.floorTime + 1000000000 ∨
          a.floorTime + 86400000000000 < field q.payload 0 8) := by
      rw [if_neg (show ¬ false = true by decide)]
      omega
    unfold updActivate
    dsimp only
    rw [ho, hc, if_neg (by decide), hat]
    dsimp only
    rw [if_neg (not_not.mpr hl), hf', if_neg (by decide), hft, if_neg hv, if_neg (not_not.mpr h3'), if_neg hcl',
      if_neg (by decide)]
    rfl
  · have hat : (decide (a.mode = 4) || pkgForerunner a.upd.manifest) = true := by
      rcases hor with h | h
      · rw [decide_eq_true h, Bool.true_or]
      · rw [h, Bool.or_true]
    have hv : ¬ (field q.payload 8 4 < 60 ∨ 86400 < field q.payload 8 4 ∨ if true = true then field q.payload 0 8 ≠ 0 else
        field q.payload 0 8 % 1000000 ≠ 0 ∨ field q.payload 0 8 < a.floorTime + 1000000000 ∨
          a.floorTime + 86400000000000 < field q.payload 0 8) := by
      rw [if_pos rfl]
      omega
    unfold updActivate
    dsimp only
    rw [ho, hc, if_neg (by decide), hat]
    dsimp only
    rw [if_neg (not_not.mpr hl), hf', if_neg (by decide), hft, if_neg hv, if_neg (not_not.mpr h3'), if_neg hcl', if_pos rfl]
    rfl

/-- The checks of an update command that needs no ownership have passed. -/
def freeTo (q : Req) (a : State) : Prop := permitted .owner [5, 6, 7, 8, 9] q a = true ∧ a.freeCheck q.sid = false ∧ q.payload = []

theorem updConfirm_judged (h : freeTo q a) (hf : a.failed 15 = false) :
    (a.rd Obj.UPD_STATE.f = 5 → ¬ Overdue a → updConfirm q a =
      (a.confirm, .ok (le 1 (a.confirm.rd Obj.UPD_SEC_F.f) ++ le 3 0 ++ le 4 (a.confirm.rd Obj.UPD_SEC_M.f)))) ∧
    (a.rd Obj.UPD_STATE.f ∉ [5, 6] → updConfirm q a = (a, .check 0x0A46)) := by
  obtain ⟨hp, hfr, hpl⟩ := h
  have hstart : updConfirm q a = if a.judgeDeadline.adjourned then (a.judgeDeadline, .check 0x0A45)
      else if a.judgeDeadline.updState ≠ 5 then (a.judgeDeadline, .check 0x0A46)
      else (a.judgeDeadline.confirm, .ok (le 1 (a.judgeDeadline.confirm.rd Obj.UPD_SEC_F.f) ++ le 3 0 ++
        le 4 (a.judgeDeadline.confirm.rd Obj.UPD_SEC_M.f))) := by
    unfold updConfirm
    rw [hp, hfr, hf, if_neg (by decide), if_neg (by decide), if_neg (not_not.mpr hpl), if_neg (by decide)]
  refine ⟨fun h5 hd => ?_, fun hn => ?_⟩
  · have hadj : a.adjourned = false := by
      unfold State.adjourned State.updState
      rw [h5]
      rfl
    rw [hstart, State.judgeDeadline_early hd, hadj, if_neg (by decide), if_neg (not_not.mpr (show a.updState = 5 from h5))]
  · simp only [List.mem_cons, List.not_mem_nil, or_false, not_or] at hn
    obtain ⟨h5, h6⟩ := hn
    have hadj : a.adjourned = false := beq_eq_false_iff_ne.mpr h6
    have hj : a.judgeDeadline = a := if_neg fun hc => hc.1.elim h5 (by rw [hadj]; decide)
    rw [hstart, hj, hadj, if_neg (by decide), if_pos (show a.updState ≠ 5 from h5)]

theorem updFallback_judged (h : freeTo q a) (hf : a.failed 15 = false) :
    (a.rd Obj.UPD_STATE.f ∈ [5, 6] → updFallback q a = (a.fallBack 2, .ok [])) ∧
    (a.rd Obj.UPD_STATE.f ∉ [5, 6] → updFallback q a = (a, .check 0x0A46)) := by
  obtain ⟨hp, hfr, hpl⟩ := h
  have hiff : (a.updState = 5 ∨ a.adjourned = true) ↔ a.rd Obj.UPD_STATE.f ∈ [5, 6] := by
    unfold State.adjourned State.updState
    simp only [beq_iff_eq, List.mem_cons, List.not_mem_nil, or_false]
  unfold updFallback
  rw [hp, hfr, hf, if_neg (by decide), if_neg (by decide), if_neg (not_not.mpr hpl), if_neg (by decide)]
  exact ⟨fun hm => if_pos (hiff.mpr hm), fun hn => if_neg fun hc => hn (hiff.mp hc)⟩

theorem updRecoveryEnter_judged (h : freeTo q a) (hw : a.lcy.windowAt ≠ none) :
    updRecoveryEnter q a = (State.beginTransition { a with power := { a.power with recovery := true } } 3, .ok []) := by
  obtain ⟨hp, hfr, hpl⟩ := h
  have hpr : a.present = true := Option.isSome_iff_ne_none.mpr hw
  unfold updRecoveryEnter
  rw [hp, hfr, hpr, if_neg (by decide), if_neg (by decide), if_neg (not_not.mpr hpl), if_neg (by decide)]

end

end Sys2Proof.Machine
end

section
namespace Sys2Proof.Proofs
open Sys2Proof.Machine Sys2Proof.Claims

/-! ### O29: the update commands -/

/-- What a request's acceptance keeps for the update commands. -/
structure UpdAccepted (s : State) (f : Frame) (a : State) : Prop where
  upd : ∃ l, a.upd = { s.upd with lastFrame := l }
  regs : a.regs = s.regs
  floorTime : a.floorTime = max s.floorTime f.arrival
  sent : a.sent = s.sent
  waiters : a.waiters = s.waiters
  evr : a.evr = s.evr
  lcy : a.lcy = s.lcy
  castlings : a.castlings = s.castlings
  power : a.power = s.power

theorem updAccepted (s : State) (f : Frame) (x : Session) (code : Nat) (can : Bool) : UpdAccepted s f (accepted s f x code can) := by
  refine ⟨?_, accepted_regs .., accepted_floorTime .., accepted_sent .., accepted_waiters .., accepted_evr .., accepted_lcy ..,
    accepted_castlings .., accepted_power ..⟩
  obtain ⟨ss, cn, he⟩ := accepted_eq s f x code can
  rw [he, ← State.arrived_eq]
  dsimp only
  split
  · exact ⟨_, rfl⟩
  · exact ⟨s.upd.lastFrame, rfl⟩

theorem openDetail_accepted (s : State) (f : Frame) (x : Session) (code : Nat) (can : Bool) (m : Bytes) :
    (accepted s f x code can).openDetail m = s.openDetail m := by
  obtain ⟨ss, cn, he⟩ := accepted_eq s f x code can
  rw [he, ← State.arrived_eq]
  dsimp only
  split <;> rfl

namespace UpdAccepted
variable {s a : State} {f : Frame} (h : UpdAccepted s f a)
include h

theorem rd (g : Fld) : a.rd g = s.rd g := State.rd_congr h.regs g

theorem failed (n : Nat) : a.failed n = s.failed n := by
  unfold State.failed
  rw [h.rd]

theorem mode : a.mode = s.mode := h.rd _

theorem owner : a.upd.owner = s.upd.owner := by
  obtain ⟨l, hl⟩ := h.upd
  rw [hl]

theorem lastOwner : a.upd.lastOwner = s.upd.lastOwner := by
  obtain ⟨l, hl⟩ := h.upd
  rw [hl]

theorem manifest : a.upd.manifest = s.upd.manifest := by
  obtain ⟨l, hl⟩ := h.upd
  rw [hl]

theorem data : a.upd.data = s.upd.data := by
  obtain ⟨l, hl⟩ := h.upd
  rw [hl]

theorem recv : a.upd.recv = s.upd.recv := by
  obtain ⟨l, hl⟩ := h.upd
  rw [hl]

theorem overdue (hd : ¬ Overdue s) : ¬ Overdue a := by
  rintro ⟨d, h1, h2⟩
  obtain ⟨l, hl⟩ := h.upd
  rw [hl] at h1
  rw [h.rd] at h2
  exact hd ⟨d, h1, h2⟩

theorem logged {t : State} {c tr : Nat} {d : Bytes} (hc : c < 2) (hl : Logged a t c tr d) : Logged s t c tr d := by
  intro hf he hp
  have := hl ((h.failed 10).trans hf) ((State.exists?_low a s hc).trans he) (by rw [h.evr]; exact hp)
  rw [h.evr] at this
  exact this

end UpdAccepted

/-- A request of the owner, or of the vendor in M4. -/
def UpdOpenTo (s : State) (x : Session) : Prop := (x.comp = 0 ∨ (x.comp = 0xFF ∧ s.mode = 4)) ∧ 4 ≤ s.mode ∧ s.mode ≤ 8

section
variable {s : State} {f : Frame} {x : Session}

theorem UpdOpenTo.opens (h : UpdOpenTo s x) {a : State} (ha : UpdAccepted s f a) (code : Nat) : updOpenTo (requestOf f x code) a = true := by
  obtain ⟨hc, h4, h8⟩ := h
  have hm : m4to9.contains s.mode = true := List.contains_iff_mem.mpr (by
    simp only [m4to9, List.mem_cons, List.not_mem_nil, or_false]
    omega)
  unfold updOpenTo
  rw [ha.mode, hm, requestOf_comp, Bool.and_true, Bool.or_eq_true, Bool.and_eq_true, beq_iff_eq, beq_iff_eq, beq_iff_eq]
  exact hc

theorem UpdOpenTo.mode (h : UpdOpenTo s x) {a : State} (ha : UpdAccepted s f a) : a.mode ≠ 9 := by
  obtain ⟨_, _, h8⟩ := h
  have := ha.mode
  omega

/-- The owner's command passes the checks of ownership. -/
theorem ownsUpd_checks (ho : OwnsUpd s x) {a : State} (ha : UpdAccepted s f a) (code : Nat) :
    updOpenTo (requestOf f x code) a = true ∧ a.ownerCheck (requestOf f x code).sid = none ∧ a.failed 15 = false := by
  obtain ⟨h4, h8, hc, h6, hown, hf⟩ := ho
  have hu : UpdOpenTo s x := ⟨hc, h4, h8⟩
  exact ⟨hu.opens ha code, State.ownerCheck_none (hu.mode ha) (by rw [ha.rd]; exact h6) (ha.owner.trans hown), (ha.failed 15).trans hf⟩

theorem freeTo_of (ho : FreeUpd s x) (hp : f.payload = []) {a : State} (ha : UpdAccepted s f a) (code : Nat) : freeTo (requestOf f x code) a ∧
    a.failed 15 = false := by
  obtain ⟨h5, h8, hc, hown, hf⟩ := ho
  refine ⟨⟨?_, ?_, hp⟩, (ha.failed 15).trans hf⟩
  · have hm : [5, 6, 7, 8, 9].contains s.mode = true := List.contains_iff_mem.mpr (by
      simp only [List.mem_cons, List.not_mem_nil, or_false]
      omega)
    unfold permitted
    rw [ha.mode, hm, requestOf_comp, hc]
    rfl
  · unfold State.freeCheck State.ownsUpdate
    rw [ha.mode, beq_eq_false_iff_ne.mpr (by omega), Bool.false_or, ha.owner, requestOf_sid]
    rcases hown with hown | hown
    · rw [hown]
      rfl
    · rw [hown, beq_self_eq_true, Bool.not_true, Bool.and_false]

variable (h : Admitted s f x)
include h

theorem updOpen_clause (ho : UpdOpenTo s x) (hst : s.rd Obj.UPD_STATE.f ∉ [5, 6, 7]) (hown : s.upd.owner = none) (hj : s.lcy.jumper = false)
    (hf : s.failed 15 = false) (hl : 64 ≤ f.payload.length) (hlen : f.payload.length = 64 + 96 * pkgCount f.payload) :
    (s.openDetail f.payload = none → Completes (.cmdUpdOpen f) s fun t => t.upd.owner = some x.id ∧ t.upd.lastCmd = max s.floorTime f.arrival ∧
      t.upd.manifest = f.payload ∧ t.rd Obj.UPD_STATE.f = 1 ∧ Logged s t 0 0x0A01 [] ∧
      ∃ n, Answers s t f x 0x0A01 0 (le 4 n ++ le 4 (t.rd Obj.UPD_BLOCKS_MISSING.f))) ∧
    (∀ d, s.openDetail f.payload = some d → Completes (.cmdUpdOpen f) s fun t => Untouched s t ∧ t.upd.owner = none ∧
      Answers s t f x 0x0A01 0x0041 (detailRecord d 0 0)) := by
  have hdet := openDetail_accepted s f x 0x0A01 false f.payload
  have ha := updAccepted s f x 0x0A01 false
  have hu := untouched_accepted s f x 0x0A01 false
  have hsp := accepted_session (code := 0x0A01) (can := false) h
  generalize hacc : accepted s f x 0x0A01 false = a at hdet ha hu hsp
  obtain ⟨hno, hyes⟩ := updOpen_judged (q := requestOf f x 0x0A01) (ho.opens ha _) (ho.mode ha) (by rw [ha.rd]; exact hst) (ha.owner.trans hown)
    hl hlen (by rw [ha.lcy]; exact hj) ((ha.failed 15).trans hf)
  refine ⟨fun hd => ?_, fun d hd => ?_⟩
  · obtain ⟨hb, hbo, hbc, hbm, hbf⟩ := a.openedBase_facts (requestOf f x 0x0A01)
    generalize a.openedBase (requestOf f x 0x0A01) = b at hyes hb hbo hbc hbm hbf
    have hlk : ((b.wr Obj.UPD_STATE.f 1).logAll [0, 1] 0x0A01 []).KeepsLow (b.wr Obj.UPD_STATE.f 1) := .logAll (.refl _)
    have hr := (b.wr Obj.UPD_STATE.f 1).logAll_raised [0, 1] 0x0A01 [] false
    have hlog : Logged a ((b.wr Obj.UPD_STATE.f 1).logAll [0, 1] 0x0A01 []) 0 0x0A01 [] := by
      intro hf0 he0 hp0
      have hpe : (b.wr Obj.UPD_STATE.f 1).evr.pend = a.evr.pend := by rw [hb]; rfl
      have hfb : (b.wr Obj.UPD_STATE.f 1).failed 10 = a.failed 10 := by
        rw [hf0]
        exact Eq.trans (congrArg (bit · 10) (State.rd_wr_ne _ _ _ _ (by decide))) (hbf hf0)
      exact (logged_logAll (s := a) (a := b.wr Obj.UPD_STATE.f 1) hfb (by rw [hpe]) (by rw [hpe]; omega)).1 hf0 he0 hp0
    generalize (b.wr Obj.UPD_STATE.f 1).logAll [0, 1] 0x0A01 [] = t at hyes hlk hr hlog
    have htr : t.rd Obj.UPD_BLOCKS_MISSING.f = b.rd Obj.UPD_BLOCKS_MISSING.f :=
      (hlk.updFld (by decide)).trans (State.rd_wr_ne _ _ _ _ (by decide))
    have hts : t.sessions = a.sessions ∧ t.sent = a.sent := by
      rw [hr.eq, hb]
      exact ⟨rfl, rfl⟩
    have htu : t.upd = b.upd := hlk.upd
    refine completes_ok (c := { code := 0x0A01 }) (body := updOpen) rfl h (by rw [hacc]; exact hyes (hdet.trans hd)) (hsp.congr hts.1) fun ss cn => ?_
    refine ⟨(congrArg Upd.owner htu).trans hbo, (congrArg Upd.lastCmd htu).trans (hbc.trans ha.floorTime), (congrArg Upd.manifest htu).trans hbm,
      (hlk.updFld (by decide)).trans (State.rd_wr_self _ _ _), ha.logged (by decide) hlog,
      (a.takeManifest f.payload).draw.1, ?_⟩
    unfold Answers
    rw [← ha.sent, ← hts.2, ← htr]
    rfl
  · refine completes_fail (c := { code := 0x0A01 }) (body := updOpen) rfl h (by rw [hacc]; exact hno d (hdet.trans hd)) hsp fun ss cn => ?_
    refine ⟨hu, ha.owner.trans hown, ?_⟩
    unfold Answers
    rw [← ha.sent]
    rfl

theorem updBlock_clause (ho : OwnsIdle s x) {off : Nat} {data : Bytes} (hoff : off < 2 ^ 32) (hp : f.payload = le 4 off ++ le 4 data.length ++ data)
    (hdl : data.length < 2 ^ 32) :
    (blockOk off data.length (pkgSize s.upd.manifest) = true → Completes (.cmdUpdBlock f) s fun t => t.rd Obj.UPD_STATE.f = 1 ∧
      (∀ i, memGet t.upd.data i = if off ≤ i ∧ i < off + data.length then data.getD (i - off) 0 else memGet s.upd.data i) ∧
      (∀ u, off / 4096 ≤ u → 4096 * u < off + data.length → t.unitWritten u = true) ∧ t.upd.lastCmd = max s.floorTime f.arrival ∧
      Answers s t f x 0x0A02 0 (le 4 (t.rd Obj.UPD_BLOCKS_MISSING.f))) ∧
    (blockOk off data.length (pkgSize s.upd.manifest) = false → Completes (.cmdUpdBlock f) s fun t => Untouched s t ∧
      t.upd.data = s.upd.data ∧ Answers s t f x 0x0A02 0x0022 []) := by
  obtain ⟨ho, hst⟩ := ho
  have ha := updAccepted s f x 0x0A02 false
  have hu := untouched_accepted s f x 0x0A02 false
  have hsp := accepted_session (code := 0x0A02) (can := false) h
  generalize hacc : accepted s f x 0x0A02 false = a at ha hu hsp
  obtain ⟨hopen, hcheck, hf⟩ := ownsUpd_checks ho ha 0x0A02
  have f0 : field f.payload 0 4 = off := by
    rw [hp, List.append_assoc, field_le]
    exact Nat.mod_eq_of_lt hoff
  have f4 : field f.payload 4 4 = data.length := by
    rw [hp, List.append_assoc, field_append_right (by rw [le_length]), le_length, Nat.sub_self, field_le]
    exact Nat.mod_eq_of_lt hdl
  have fd : f.payload.drop 8 = data := by
    rw [hp, List.drop_append_of_le_length (by simp [le_length])]
    simp [le_length]
  have hlen : f.payload.length = 8 + data.length := by
    rw [hp, List.length_append, List.length_append, le_length, le_length]
  have hj := updBlock_judged (q := requestOf f x 0x0A02) hopen hcheck (by rw [ha.rd]; exact hst) (by rw [requestOf_payload, hlen]; omega)
    (by rw [requestOf_payload, f4, hlen]) hf
  rw [requestOf_payload, f0, f4, fd, ha.manifest] at hj
  refine ⟨fun hb => ?_, fun hb => ?_⟩
  · rw [hb, if_pos rfl] at hj
    have hmod : off % 4096 = 0 := by
      unfold blockOk at hb
      simp only [Bool.and_eq_true, beq_iff_eq] at hb
      exact hb.1.1.1
    obtain ⟨he, h1, hw⟩ := a.touchUpd.writeBlock_facts off data hmod
    generalize a.touchUpd.writeBlock off data = t at hj he h1 hw
    have hse : t.sessions = a.sessions ∧ t.sent = a.sent ∧ t.upd = { a.upd with lastCmd := a.floorTime, data := memWrite a.upd.data off data } := by
      rw [he]
      exact ⟨rfl, rfl, rfl⟩
    obtain ⟨hss, hsent, htu⟩ := hse
    refine completes_ok (c := { code := 0x0A02 }) (body := updBlock) rfl h (by rw [hacc]; exact hj) (hsp.congr hss) fun ss cn => ?_
    refine ⟨h1, fun i => ?_, hw, (congrArg Upd.lastCmd htu).trans ha.floorTime, ?_⟩
    · show memGet t.upd.data i = _
      rw [htu, ← ha.data]
      exact memGet_write data a.upd.data off i
    · unfold Answers
      rw [← ha.sent, ← hsent]
      rfl
  · rw [hb, if_neg Bool.false_ne_true] at hj
    refine completes_fail (t := a.touchUpd) (c := { code := 0x0A02 }) (body := updBlock) rfl h (by rw [hacc]; exact hj) (hsp.congr rfl) fun ss cn => ⟨hu, ha.data, ?_⟩
    unfold Answers
    rw [← ha.sent]
    rfl

theorem updStatus_clause (ho : UpdOpenTo s x) (hown : s.upd.owner = none ∨ s.upd.owner = some x.id) {first n : Nat} (hn : 0 < n)
    (hr : first + n ≤ 131072) (hp : f.payload = le 4 first ++ le 4 n) : Completes (.cmdUpdStatus f) s fun t =>
      Untouched s t ∧ ∃ p, Answers s t f x 0x0A03 0 p ∧ p.length = 44 + (n + 7) / 8 ∧
      ∀ j, j < n → ((p.drop 44).getD (j / 8) 0).getLsbD (j % 8) = s.unitWritten (first + j) := by
  have ha := updAccepted s f x 0x0A03 true
  have hu := untouched_accepted s f x 0x0A03 true
  have hsp := accepted_session (code := 0x0A03) (can := true) h
  generalize hacc : accepted s f x 0x0A03 true = a at ha hu hsp
  have f0 : field f.payload 0 4 = first := by
    rw [hp, field_le]
    exact Nat.mod_eq_of_lt (by omega)
  have f4 : field f.payload 4 4 = n := by
    rw [hp, field_append_right (by rw [le_length]), le_length, Nat.sub_self, field_le_self]
    exact Nat.mod_eq_of_lt (by omega)
  obtain ⟨u, hj⟩ := updStatus_judged (q := requestOf f x 0x0A03) (ho.opens ha _) (ho.mode ha) (by rw [ha.owner]; exact hown)
    (by rw [requestOf_payload, hp]; rfl) (by rw [requestOf_payload, f4]; exact hn) (by rw [requestOf_payload, f0, f4]; exact hr)
  rw [requestOf_payload, f0, f4] at hj
  have hw (k : Nat) : ({ a with upd := u } : State).unitWritten k = s.unitWritten k := by
    unfold State.unitWritten
    rw [State.rd_upd, ha.rd]
  generalize hv : ({ a with upd := u } : State) = v at hj hw
  have hvs : v.sessions = a.sessions ∧ v.sent = a.sent ∧ Untouched s v := by
    rw [← hv]
    exact ⟨rfl, rfl, hu⟩
  obtain ⟨hss, hsent, huv⟩ := hvs
  refine completes_ok (c := { code := 0x0A03, cancellable := true, rereads := true }) (body := updStatus) rfl h (by rw [hacc]; exact hj)
    (hsp.congr hss) fun ss cn => ⟨huv, v.updWords ++ v.bitmapBytes first n, ?_, ?_, fun j hjn => ?_⟩
  · unfold Answers
    rw [← ha.sent, ← hsent]
  · rw [List.length_append, v.updWords_length]
    unfold State.bitmapBytes
    rw [List.length_map, List.length_range]
  · rw [List.drop_append_of_le_length (by rw [v.updWords_length]), List.drop_of_length_le (by rw [v.updWords_length]), List.nil_append,
      bitmapBytes_bit v first n hjn, hw]

theorem updVerify_clause (ho : OwnsIdle s x) (hp : f.payload = []) : Completes (.cmdUpdVerify f) s fun t => Waits s t f x 0x0A04 .updVerify ∧
    OneField s t Obj.UPD_STATE.f 2 := by
  obtain ⟨ho, hst⟩ := ho
  have ha := updAccepted s f x 0x0A04 false
  have hsp := accepted_session (code := 0x0A04) (can := false) h
  generalize hacc : accepted s f x 0x0A04 false = a at ha hsp
  obtain ⟨hopen, hcheck, hf⟩ := ownsUpd_checks ho ha 0x0A04
  have hj := updVerify_judged (q := requestOf f x 0x0A04) hopen hcheck (by rw [ha.rd]; exact hst) hp hf
  refine completes_pending (t := a.touchUpd.wr Obj.UPD_STATE.f 2) (c := { code := 0x0A04 }) (body := updVerify) rfl h (by rw [hacc]; exact hj) (hsp.congr rfl) fun cn => ⟨⟨?_, ?_⟩, ?_⟩
  · rw [← ha.sent]
    rfl
  · rw [← ha.waiters]
    exact ⟨_, rfl, rfl⟩
  · exact OneField.congr (t := a.touchUpd.wr Obj.UPD_STATE.f 2) (OneField.wr ha.regs rfl) rfl

theorem updAbort_clause (ho : OwnsUpd s x) (hlast : s.upd.lastOwner ≠ some x.id) {b : Bool} (hp : f.payload = le 1 (b2n b) ++ le 3 0) :
    Completes (.cmdUpdAbort f) s fun t => t.upd.owner = none ∧ t.upd.activateAt = none ∧ t.rd Obj.UPD_STATE.f = 0 ∧
      (b = true → t.upd.manifest = []) ∧ (b = false → t.upd.manifest = s.upd.manifest ∧ t.upd.data = s.upd.data) ∧
      AnswersLast s t f x 0x0A05 0 [] := by
  have ha := updAccepted s f x 0x0A05 false
  have hsp := accepted_session (code := 0x0A05) (can := false) h
  generalize hacc : accepted s f x 0x0A05 false = a at ha hsp
  obtain ⟨hopen, _, _⟩ := ownsUpd_checks ho ha 0x0A05
  obtain ⟨h4, h8, hc, h6, hown, _⟩ := ho
  have f0 : field f.payload 0 1 = b2n b := by
    rw [hp, field_le]
    cases b <;> rfl
  have hj := updAbortCmd_judged (q := requestOf f x 0x0A05) hopen (by have := ha.mode; omega) (by rw [ha.rd]; exact h6) (ha.owner.trans hown)
    (by rw [ha.lastOwner]; exact hlast) (b := b) (by rw [requestOf_payload, hp]; rfl) f0
  have ht := a.updAbort_says 1 b
  obtain ⟨h0, hu⟩ := a.updAbort_facts 1 b
  generalize a.updAbort 1 b = t at hj ht h0 hu
  refine completes_ok (c := { code := 0x0A05 }) (body := updAbortCmd) rfl h (by rw [hacc]; exact hj) (ht.speaks hsp) fun ss cn => ?_
  have hand : t.upd.owner = none ∧ t.upd.activateAt = none ∧ (b = true → t.upd.manifest = []) ∧
      (b = false → t.upd.manifest = a.upd.manifest ∧ t.upd.data = a.upd.data) := by
    rw [hu]
    cases b
    · exact ⟨rfl, rfl, fun hb => absurd hb Bool.false_ne_true, fun _ => ⟨rfl, rfl⟩⟩
    · exact ⟨rfl, rfl, fun _ => rfl, fun hb => absurd hb.symm Bool.false_ne_true⟩
  obtain ⟨g1, g2, g3, g4⟩ := hand
  refine ⟨g1, g2, h0, g3, fun hb => ?_, ?_⟩
  · obtain ⟨k1, k2⟩ := g4 hb
    exact ⟨k1.trans ha.manifest, k2.trans ha.data⟩
  · obtain ⟨l, hl⟩ := ht.sent
    refine ⟨l, ?_⟩
    rw [← ha.sent, hl]

theorem updActivate_clause (ho : OwnsUpd s x) (h3 : s.rd Obj.UPD_STATE.f = 3) (hcl : s.castlings = []) {tU limit : Nat} (h60 : 60 ≤ limit)
    (h86 : limit ≤ 86400) (htU : tU < 2 ^ 64) (hp : f.payload = le 8 tU ++ le 4 limit ++ le 4 0) :
    (s.mode ≠ 4 → pkgForerunner s.upd.manifest = false → tU % 1000000 = 0 → max s.floorTime f.arrival + 1000000000 ≤ tU →
      tU ≤ max s.floorTime f.arrival + 86400000000000 → Completes (.cmdUpdActivate f) s fun t => Waits s t f x 0x0A06 .updActivate ∧
        t.upd.activateAt = some tU ∧ t.upd.limit = limit ∧ OneField s t Obj.UPD_STATE.f 4) ∧
    (s.mode = 4 ∨ pkgForerunner s.upd.manifest = true → tU = 0 → s.upd.recv ≤ 1 → Completes (.cmdUpdActivate f) s fun t =>
      t.rd Obj.UPD_STATE.f = (if pkgForerunner s.upd.manifest then 6 else 5) ∧ t.rd Obj.UPD_STATE_ACTIVE_SLOT.f = s.upd.recv ∧
      t.upd.resetAt = some (max s.floorTime f.arrival) ∧ t.upd.owner = none ∧ Answers s t f x 0x0A06 0 (le 8 (max s.floorTime f.arrival))) := by
  have ha := updAccepted s f x 0x0A06 false
  have hsp := accepted_session (code := 0x0A06) (can := false) h
  generalize hacc : accepted s f x 0x0A06 false = a at ha hsp
  obtain ⟨hopen, hcheck, hf⟩ := ownsUpd_checks ho ha 0x0A06
  have f0 : field f.payload 0 8 = tU := by
    rw [hp, List.append_assoc, field_le]
    exact Nat.mod_eq_of_lt htU
  have f8 : field f.payload 8 4 = limit := by
    rw [hp, List.append_assoc, field_append_right (by rw [le_length]), le_length, Nat.sub_self, field_le]
    exact Nat.mod_eq_of_lt (by omega)
  obtain ⟨hlate, hnow⟩ := updActivate_judged (q := requestOf f x 0x0A06) hopen hcheck (by rw [requestOf_payload, hp]; rfl) hf
    (by rw [ha.rd]; exact h3) (ha.castlings.trans hcl) (by rw [requestOf_payload, f8]; exact h60) (by rw [requestOf_payload, f8]; exact h86)
  rw [requestOf_payload, f0, f8, ha.mode, ha.manifest, ha.floorTime] at hlate hnow
  refine ⟨fun h4 hfr hm h1 h2 => ?_, fun hor h0 hr => ?_⟩
  · have hj := hlate h4 hfr hm h1 h2
    generalize hv : ({ a.limited limit with upd := { (a.limited limit).upd with activateAt := some tU } } : State) = v at hj
    have hvs : v.sessions = a.sessions ∧ v.sent = a.sent ∧ v.waiters = a.waiters ∧ v.regs = a.regs ∧ v.upd.activateAt = some tU ∧
        v.upd.limit = limit := by
      rw [← hv]
      exact ⟨rfl, rfl, rfl, rfl, rfl, rfl⟩
    obtain ⟨e1, e2, e3, e4, e5, e6⟩ := hvs
    refine completes_pending (t := v.wr Obj.UPD_STATE.f 4) (c := { code := 0x0A06 }) (body := updActivate) rfl h (by rw [hacc]; exact hj)
      (hsp.congr e1) fun cn => ⟨⟨?_, ?_⟩, e5, e6, ?_⟩
    · rw [← ha.sent, ← e2]
      rfl
    · rw [← ha.waiters, ← e3]
      exact ⟨_, rfl, rfl⟩
    · exact OneField.congr (t := v.wr Obj.UPD_STATE.f 4) (OneField.wr (e4.trans ha.regs) rfl) rfl
  · have hj := hnow hor h0
    have hl : (a.limited limit).upd.recv ≤ 1 := by
      show a.upd.recv ≤ 1
      rw [ha.recv]
      exact hr
    obtain ⟨b1, b2, _⟩ := State.beginTrial_facts hl (max s.floorTime f.arrival)
    have b3 := (a.limited limit).beginTrial_upd (max s.floorTime f.arrival)
    have b4 := (a.limited limit).beginTrial_rest (max s.floorTime f.arrival)
    have hlm : (a.limited limit).upd.manifest = s.upd.manifest := ha.manifest
    have hlr : (a.limited limit).upd.recv = s.upd.recv := ha.recv
    have hls : (a.limited limit).sessions = a.sessions ∧ (a.limited limit).sent = a.sent := ⟨rfl, rfl⟩
    rw [hlm] at b1
    rw [hlr] at b2
    generalize (a.limited limit).beginTrial (max s.floorTime f.arrival) = v at hj b1 b2 b3 b4
    generalize hw : ({ v with upd := { v.upd with resetAt := some (max s.floorTime f.arrival) } } : State) = w at hj
    have hws : w.sessions = a.sessions ∧ w.sent = a.sent ∧ w.upd.resetAt = some (max s.floorTime f.arrival) ∧ w.upd.owner = none ∧
        w.rd Obj.UPD_STATE.f = v.rd Obj.UPD_STATE.f ∧ w.rd Obj.UPD_STATE_ACTIVE_SLOT.f = v.rd Obj.UPD_STATE_ACTIVE_SLOT.f := by
      rw [← hw]
      exact ⟨(congrArg State.sessions b4).trans hls.1, (congrArg State.sent b4).trans hls.2, rfl, congrArg Upd.owner b3, State.rd_upd _ _ _,
        State.rd_upd _ _ _⟩
    obtain ⟨e1, e2, e3, e4, e5, e6⟩ := hws
    refine completes_ok (t := w) (c := { code := 0x0A06 }) (body := updActivate) rfl h (by rw [hacc]; exact hj) (hsp.congr e1) fun ss cn =>
      ⟨e5.trans b1, e6.trans b2, e3, e4, ?_⟩
    unfold Answers
    rw [← ha.sent, ← e2]

theorem updConfirm_clause (ho : FreeUpd s x) (hp : f.payload = []) :
    (s.rd Obj.UPD_STATE.f = 5 → ¬ Overdue s → Completes (.cmdUpdConfirm f) s fun t => t.rd Obj.UPD_STATE.f = 0 ∧
      t.upd.deadline = none ∧ t.rd (Obj.UPD_SLOT_TRIAL.i s.active) = 0 ∧
      t.rd Obj.UPD_SEC_M.f = s.rd (Obj.UPD_SLOT_SEC_MINOR.i s.active) % 2 ^ 32 ∧
      t.rd Obj.UPD_SEC_F.f = max (s.rd Obj.UPD_SEC_F.f) (s.rd (Obj.UPD_SLOT_SEC_MAJOR.i s.active)) % 2 ^ 7 ∧
      Answers s t f x 0x0A07 0 (le 1 (t.rd Obj.UPD_SEC_F.f) ++ le 3 0 ++ le 4 (t.rd Obj.UPD_SEC_M.f))) ∧
    (s.rd Obj.UPD_STATE.f ∉ [5, 6] → Completes (.cmdUpdConfirm f) s fun t => Untouched s t ∧
      Answers s t f x 0x0A07 0x0041 (detailRecord 0x0A46 0 0)) := by
  have ha := updAccepted s f x 0x0A07 false
  have hu := untouched_accepted s f x 0x0A07 false
  have hsp := accepted_session (code := 0x0A07) (can := false) h
  generalize hacc : accepted s f x 0x0A07 false = a at ha hu hsp
  obtain ⟨hfree, hf⟩ := freeTo_of ho hp ha 0x0A07
  obtain ⟨hyes, hno⟩ := updConfirm_judged hfree hf
  refine ⟨fun h5 hd => ?_, fun hn => ?_⟩
  · have hj := hyes (by rw [ha.rd]; exact h5) (ha.overdue hd)
    obtain ⟨c1, c2, c3, c4, c5, c6, _⟩ := a.confirm_facts
    have hact : a.active = s.active := ha.rd _
    rw [hact] at c4 c5 c6
    rw [ha.rd] at c5
    rw [ha.rd, ha.rd] at c6
    generalize a.confirm = t at hj c1 c2 c3 c4 c5 c6
    have e1 : t.sessions = a.sessions := by rw [c1]
    have e2 : t.sent = a.sent := by rw [c1]
    refine completes_ok (t := t) (c := { code := 0x0A07 }) (body := updConfirm) rfl h (by rw [hacc]; exact hj) (hsp.congr e1) fun ss cn =>
      ⟨c2, c3, c4, c5, c6, ?_⟩
    unfold Answers
    rw [← ha.sent, ← e2]
    rfl
  · have hj := hno (by rw [ha.rd]; exact hn)
    refine completes_fail (t := a) (c := { code := 0x0A07 }) (body := updConfirm) rfl h (by rw [hacc]; exact hj) hsp fun ss cn => ⟨hu, ?_⟩
    unfold Answers
    rw [← ha.sent]
    rfl

theorem updFallback_clause (ho : FreeUpd s x) (hp : f.payload = []) :
    (s.rd Obj.UPD_STATE.f ∈ [5, 6] → Completes (.cmdUpdFallback f) s fun t => t.upd.cause = 2 ∧ AnswersLast s t f x 0x0A09 0 [] ∧
      (s.rd Obj.UPD_STATE.f = 6 ∨ s.upd.wasReset = true ∨ pkgCarries s.upd.manifest 2 = true →
        t.rd Obj.UPD_STATE.f = 7 ∧ t.upd.resetAt = some (max s.floorTime f.arrival) ∧ t.rd Obj.UPD_STATE_ACTIVE_SLOT.f = 1 - s.active)) ∧
    (s.rd Obj.UPD_STATE.f ∉ [5, 6] → Completes (.cmdUpdFallback f) s fun t => Untouched s t ∧
      Answers s t f x 0x0A09 0x0041 (detailRecord 0x0A46 0 0)) := by
  have ha := updAccepted s f x 0x0A09 false
  have hu := untouched_accepted s f x 0x0A09 false
  have hsp := accepted_session (code := 0x0A09) (can := false) h
  generalize hacc : accepted s f x 0x0A09 false = a at ha hu hsp
  obtain ⟨hfree, hf⟩ := freeTo_of ho hp ha 0x0A09
  obtain ⟨hyes, hno⟩ := updFallback_judged hfree hf
  refine ⟨fun hm => ?_, fun hn => ?_⟩
  · have hj := hyes (by rw [ha.rd]; exact hm)
    obtain ⟨hc, _, ht⟩ := a.fallBack_facts 2
    have hr := State.fallBack_resets (s := a) 2
    have hact : a.active = s.active := ha.rd _
    obtain ⟨l, hl⟩ := ha.upd
    rw [ha.rd, hl, ha.floorTime, hact] at hr
    generalize a.fallBack 2 = t at hj hc ht hr
    refine completes_ok (t := t) (c := { code := 0x0A09 }) (body := updFallback) rfl h (by rw [hacc]; exact hj) (ht.speaks hsp) fun ss cn =>
      ⟨hc, ?_, hr⟩
    obtain ⟨o, hos⟩ := ht.sent
    refine ⟨o, ?_⟩
    rw [← ha.sent, hos]
  · have hj := hno (by rw [ha.rd]; exact hn)
    refine completes_fail (t := a) (c := { code := 0x0A09 }) (body := updFallback) rfl h (by rw [hacc]; exact hj) hsp fun ss cn => ⟨hu, ?_⟩
    unfold Answers
    rw [← ha.sent]
    rfl

theorem updRecoveryEnter_clause (ho : FreeUpd s x) (hp : f.payload = []) (hw : s.lcy.windowAt ≠ none) :
    Completes (.cmdUpdRecoveryEnter f) s fun t => t.power.recovery = true ∧ t.power.transition = some { target := 3 } ∧
      Answers s t f x 0x0A10 0 [] ∧ Kept [] s t := by
  have ha := updAccepted s f x 0x0A10 false
  have hsp := accepted_session (code := 0x0A10) (can := false) h
  generalize hacc : accepted s f x 0x0A10 false = a at ha hsp
  obtain ⟨hfree, _⟩ := freeTo_of ho hp ha 0x0A10
  have hj := updRecoveryEnter_judged hfree (by rw [ha.lcy]; exact hw)
  refine completes_ok (t := State.beginTransition { a with power := { a.power with recovery := true } } 3) (c := { code := 0x0A10 })
    (body := updRecoveryEnter) rfl h (by rw [hacc]; exact hj) (hsp.congr rfl) fun ss cn => ⟨rfl, rfl, ?_, fun g _ => ha.rd g⟩
  unfold Answers
  rw [← ha.sent]
  rfl

end

/-- Settles O29, a clause for each command. -/
theorem updateCommands : Obligations.UpdateCommands := by
  intro f s x h now
  refine ⟨fun hc h4 h8 hst hown hj hf hl hlen => updOpen_clause h ⟨hc, h4, h8⟩ hst hown hj hf hl hlen,
    fun ho off data hoff hp hdl => updBlock_clause h ho hoff hp hdl,
    fun hc h4 h8 hown first n hn hr hp => updStatus_clause h ⟨hc, h4, h8⟩ hown hn hr hp,
    fun ho hp => updVerify_clause h ho hp, fun ho hlast b hp => updAbort_clause h ho hlast hp,
    fun ho h3 hcl tU limit h60 h86 htU hp => updActivate_clause h ho h3 hcl h60 h86 htU hp, fun ho hp => ?_⟩
  obtain ⟨c1, c2⟩ := updConfirm_clause h ho hp
  obtain ⟨f1, f2⟩ := updFallback_clause h ho hp
  exact ⟨c1, c2, f1, f2, updRecoveryEnter_clause h ho hp⟩

end Sys2Proof.Proofs
end
